-- ==== Sys2Proof/Word.lean ====
section
/-! DEFINITION. Words, register fields, sparse tables and the small enumerations that the commands carry as operands. -/

namespace Sys2Proof

/-- A 32-bit register word (R9). -/
abbrev Word := BitVec 32

/-- A byte of the device address space (R11). -/
abbrev Byte := BitVec 8

/-- Sparse data by key, kept in rising order of the keys by `Tab.set`: an unlisted key holds the table's default. -/
abbrev Tab (α : Type) := List (Nat × α)

/-- A field of a register: the register's address, the field's low bit and its width (R3, R4). -/
structure Fld where
  addr : Nat
  lo : Nat
  width : Nat
  deriving DecidableEq, Repr

/-- Which word of a register a described word is: a 32-bit register, or the low or high word of a 64-bit one (R10). -/
inductive WordPart where
  | word
  | low
  | high
  deriving DecidableEq, Repr

/-- One row of the register map: the words at `base + s1 * i + s2 * j` for `i < n1`, `j < n2`, with the bits that are
RW, W1C, LK and WO (R5; every other bit is RO or reserved) and the Reset column (R6). -/
structure RegDesc where
  base : Nat
  s1 : Nat
  n1 : Nat
  s2 : Nat
  n2 : Nat
  rw : Nat
  w1c : Nat
  lk : Nat
  wo : Nat
  reset : Nat
  part : WordPart
  deriving DecidableEq, Repr

/-- Who reads or writes the device address space: the readers of R10, the hardware executor PUSH, the configuration
loader (R5, LK) and the safety core (R14). -/
inductive Accessor where
  | core (c : Fin 4)
  | copy
  | service
  | debug
  | loader
  | safety
  deriving DecidableEq, Repr

/-- R44, R48, R50: VIN above 9.6 V, below it, or absent. -/
inductive VinLevel where
  | ok
  | low
  | absent
  deriving DecidableEq, Repr

/-- R478: where a UDP datagram goes: its destination address and port, and whether it is fragmented. -/
structure Udp where
  dst : BitVec 32
  port : BitVec 16
  frag : Bool
  deriving DecidableEq, Repr

/-- What a feedback port sees of one exchange or frame (R266, R269): the start (Afven: a start bit in time; SSI: the idle
level for the 1 µs before), the framing (Afven: stop bits; SSI: the level at the bit after the last one), the bytes of an
Afven response, and the bits of an SSI frame after its LEAD bits, first bit first. -/
structure Frame where
  start : Bool
  framing : Bool
  bytes : List Byte
  bits : List Bool
  deriving DecidableEq, Repr

end Sys2Proof
end

