-- ==== Sys2Proof/Syntax.lean ====
section
/-! DEFINITION. The commands of the part: one constructor for each row of the table of operations and events. Every
command that is not an instruction of an axis control engine carries `dt`, the nanoseconds of reference time that have
passed since the command before it (log 1). The rest are the row's operands. -/

namespace Sys2Proof

/-- The commands. -/
inductive Instr where
  /-- REGISTER_WRITE (R5): A write to a register that has no row of its own takes effect as its access code and field description state, W1C bits included. -/
  | registerWrite (dt : Nat) (who : Accessor) (addr : BitVec 32) (value : BitVec 64) (size : Fin 9)
  /-- LOW_WORD_READ (R10): A read of the low word of a 64-bit register captures the high word of the same instant in that reader's shadow. -/
  | lowWordRead (dt : Nat) (who : Accessor) (addr : BitVec 32) (size : Fin 9)
  /-- HIGH_WORD_WRITE (R10): A write to the high word of a 64-bit register is held until the same writer writes the low word. -/
  | highWordWrite (dt : Nat) (who : Accessor) (addr : BitVec 32) (value : BitVec 32)
  /-- NOWNS_READ (R405): A read of TIM_NOWNS captures the seconds of the same instant into the TIM_NOWS shadow. -/
  | nownsRead (dt : Nat) (who : Accessor)
  /-- SUPPLY_FAULT (R48): VIN, VIO_A, VIO_B or a regulator leaves its limit, and the supervisor holds the part in reset with PWR_GOOD low. -/
  | supplyFault (dt : Nat) (vin : VinLevel) (vio : Bool) (regs : Bool)
  /-- SUPERVISOR_RELEASE (R48): At least 10 ms after the supply conditions end, the supervisor releases its internal reset and VQSPI moves to the QVSEL voltage. -/
  | supervisorRelease (dt : Nat) (qvsel : Bool) (clksel : Bool) (test : Bool)
  /-- RESET_N_ASSERT (R76): RESET_N going low restarts the start sequence and drives gates low. -/
  | resetNAssert (dt : Nat)
  /-- RESET_N_RELEASE (R76): The start sequence begins in RESET at the later of supervisor release and the RESET_N rising edge. -/
  | resetNRelease (dt : Nat) (qvsel : Bool) (clksel : Bool) (test : Bool)
  /-- CLOCKS (R404): The PLLs lock, bulk memory is trained and the local clock starts at 0. -/
  | clocks (dt : Nat)
  /-- FLASH_RESET (R61): The loader sends flash reset commands, waits 1 ms and reads the SFDP table. -/
  | flashReset (dt : Nat) (sfdp : Bool) (density : BitVec 8) (quad : Bool) (mhz : BitVec 8) (cmd13 : Bool) (susp : Bool)
  /-- SELECT (R77): Both bank headers are read and the bank to try is chosen. -/
  | select (dt : Nat) (to0 : Bool) (to1 : Bool)
  /-- LOAD (R75): The records of the chosen image are read and their CRCs checked into bulk memory. -/
  | load (dt : Nat) (timeout : Bool)
  /-- VERIFY (R75): Signature, SCRC and consistency checks complete and the image is accepted or rejected. -/
  | verify (dt : Nat)
  /-- APPLY (R78): LK fields are written, the Leash is loaded and locked, engines are loaded and the safety core is given SAFETY. -/
  | apply (dt : Nat) (selfOk : Bool) (mramOk : Bool)
  /-- RECIPE (R82): The start recipe or fallback is read, checked and applied, and READY is reached. -/
  | recipe (dt : Nat) (to1 : Bool) (to2 : Bool)
  /-- BYPASS_OPEN (R396): The bypass opens at most 10 ms after the ring interface requests it. -/
  | bypassOpen (dt : Nat)
  /-- CHANGEOVER_REQUEST (R85): A write of CFG_CHG.SLOT starts a changeover when all conditions hold, or is refused. -/
  | changeoverRequest (dt : Nat) (slot : Fin 16) (busy : Bool)
  /-- CHANGEOVER_STAGED (R87): The new recipe has been read and checked into staging, and staged sets go to the members. -/
  | changeoverStaged (dt : Nat) (timeout : Bool)
  /-- STAGED_SET_ACK (R88): A member acknowledges a staged set, and when all have done so the master chooses the commit cycle. -/
  | stagedSetAck (dt : Nat) (m : Fin 256) (k : Fin 16)
  /-- CHANGEOVER_ACK_TIMEOUT (R88): Not all members acknowledged within 1 100 ms; a discard is sent and the changeover aborts with RESULT 0xF. -/
  | changeoverAckTimeout (dt : Nat)
  /-- CHANGEOVER_COMMIT (R89): At the commit profile boundary, programs swap, entries and tables change, and generations advance for changed entries. -/
  | changeoverCommit (dt : Nat)
  /-- HANDSHAKE_TRANSFER (R21): A four-phase handshake transfer between islands completes, whole or not at all. -/
  | handshakeTransfer (dt : Nat) (id : Nat) (isl : Fin 31)
  /-- CONSERVATION_AUDIT (R32): Every 1 ms the counters of each conserved quantity are compared with their required sum. -/
  | conservationAudit (dt : Nat)
  /-- UNCORRECTED_ECC_ERROR (R31): An uncorrected ECC error in bulk or on-die memory ends the guarantee. -/
  | uncorrectedEccError (dt : Nat) (bulk : Bool) (i : Fin 31)
  /-- SUPPLY_OUT_OF_RANGE (R498): A supply outside its operating range for 50 µs is decided as cause 0x3. -/
  | supplyOutOfRange (dt : Nat) (vin : BitVec 16) (vioa : BitVec 16) (viob : BitVec 16) (regok : BitVec 8)
  /-- CASE_TEMP_OUT_OF_RANGE (R498): The case sensor outside −40 °C to 125 °C for 10 ms is decided as cause 0x4. -/
  | caseTempOutOfRange (dt : Nat) (t : BitVec 16)
  /-- REFERENCE_CLOCK_FAULT (R498): A missing or out-of-tolerance reference is decided as cause 0x5. -/
  | referenceClockFault (dt : Nat)
  /-- POWER_STATE_ENTRY (R36): An island with no work enters the deepest power state that fits before its earliest known event. -/
  | powerStateEntry (dt : Nat) (i : Fin 31) (left : Option Nat)
  /-- LATE_WAKE (R39): An event earlier than the island planned starts its wake and increments LATE. -/
  | lateWake (dt : Nat) (i : Fin 31)
  /-- WAKE_COMPLETE (R35): An island completes its wake into Run and serves pending events. -/
  | wakeComplete (dt : Nat) (i : Fin 31)
  /-- PROFILE_BOUNDARY (R26): At a profile boundary, set-points of the last period take effect and the engine computes the next period from its queues. -/
  | profileBoundary (dt : Nat) (late : Bool) (took : BitVec 32)
  /-- POSITION_PERIOD_BOUNDARY (R180): PM, PSP and VSP are latched for a context at each position-period boundary. -/
  | positionPeriodBoundary (dt : Nat) (a : Fin 32)
  /-- VELOCITY_PERIOD_BOUNDARY (R180): PM and EANG are latched at each velocity-period boundary. -/
  | velocityPeriodBoundary (dt : Nat) (a : Fin 32)
  /-- CURRENT_PERIOD_BOUNDARY (R258): The precise phase currents are strobed into ISU, ISV and ISW. -/
  | currentPeriodBoundary (dt : Nat) (a : Fin 32) (u : List Bool) (v : List Bool) (w : List Bool)
  /-- LEASH_EFFECTIVE_WRITE (R95): A write to an effective Leash field is accepted only when it lowers the limit. -/
  | leashEffectiveWrite (dt : Nat) (who : Accessor) (addr : BitVec 32) (value : BitVec 64)
  /-- LOWERING_TAKES_EFFECT (R96): An accepted lowering takes effect at the next boundary of the limit's kind. -/
  | loweringTakesEffect (dt : Nat) (addr : BitVec 32)
  /-- LEASH_ESCALATION (R103): COUNT consecutive clamped position periods latch a Leash escalation fault. -/
  | leashEscalation (dt : Nat) (a : Fin 32)
  /-- OVERSPEED_FAULT (R104): Measured speed over 9/8 of SPD for 8 velocity periods latches cause 0x08. -/
  | overspeedFault (dt : Nat) (a : Fin 32)
  /-- FOLLOWING_ERROR_FAULT (R124): Following error over FEMAX for FETIME position periods latches cause 0x0B. -/
  | followingErrorFault (dt : Nat) (a : Fin 32)
  /-- TABLE_COMMIT_REQUEST (R115): A write of PRF_TCMT checks and snapshots a working entry for commit, or refuses it. -/
  | tableCommitRequest (dt : Nat) (n : Fin 256) (expgen : BitVec 16)
  /-- TABLE_COMMIT_EFFECT (R116): A pending commit is written to the committed table with its new GEN and every cache switches. -/
  | tableCommitEffect (dt : Nat) (n : Fin 256)
  /-- AXIS_ENABLE (R121): An enable request is checked and, if accepted, the axis proceeds through its enable steps. -/
  | axisEnable (dt : Nat) (n : Fin 256) (ident : Frame) (rtd : Nat) (first : Frame)
  /-- AXIS_DISABLE (R122): A disable request takes the axis to DISABLED or STOPPING. -/
  | axisDisable (dt : Nat) (n : Fin 256)
  /-- FAULT_RESET (R126): A fault reset request returns a faulted axis to DISABLED when its cause has gone. -/
  | faultReset (dt : Nat) (n : Fin 256)
  /-- BRKREL_ELAPSED (R122): The brake release time elapses and an enabling axis enters STANDSTILL. -/
  | brkrelElapsed (dt : Nat) (n : Fin 256)
  /-- BRKSET_ELAPSED (R122): The brake engage time elapses and the axis enters DISABLED. -/
  | brksetElapsed (dt : Nat) (n : Fin 256)
  /-- STANDSTILL_REACHED (R122): Speed at most SSVEL for SSTIME periods moves the axis to STANDSTILL or ends a stop. -/
  | standstillReached (dt : Nat) (n : Fin 256)
  /-- FAULT_STOP_TIMEOUT (R125): A fault stop not at standstill within STOPTMO removes torque and sets STOPTO. -/
  | faultStopTimeout (dt : Nat) (n : Fin 256)
  /-- MOVE_ABS (R139): Command: move to an absolute target. -/
  | moveAbs (dt : Nat) (n : Fin 256) (mode : Fin 16) (tag : BitVec 32) (data : List (Fin 16 × BitVec 56))
  /-- MOVE_REL (R167): Command: move by a relative distance. -/
  | moveRel (dt : Nat) (n : Fin 256) (mode : Fin 16) (tag : BitVec 32) (data : List (Fin 16 × BitVec 56))
  /-- MOVE_VEL (R167): Command: reach and hold a velocity. -/
  | moveVel (dt : Nat) (n : Fin 256) (mode : Fin 16) (tag : BitVec 32) (data : List (Fin 16 × BitVec 56))
  /-- STOP (R146): Command: decelerate to rest, or decouple a CYCLIC axis. -/
  | stop (dt : Nat) (n : Fin 256) (mode : Fin 16) (tag : BitVec 32) (data : List (Fin 16 × BitVec 56))
  /-- SET_POS (R167): Command: redefine the position and set REF. -/
  | setPos (dt : Nat) (n : Fin 256) (mode : Fin 16) (tag : BitVec 32) (data : List (Fin 16 × BitVec 56))
  /-- REF_PROBE (R281): Command: reference the axis on a probe latch, owning the probe. -/
  | refProbe (dt : Nat) (n : Fin 256) (mode : Fin 16) (tag : BitVec 32) (data : List (Fin 16 × BitVec 56))
  /-- GEAR (R143): Command: couple the axis to a master by a ratio. -/
  | gear (dt : Nat) (n : Fin 256) (mode : Fin 16) (tag : BitVec 32) (data : List (Fin 16 × BitVec 56))
  /-- CAM (R144): Command: couple the axis to a master through a cam table. -/
  | cam (dt : Nat) (n : Fin 256) (mode : Fin 16) (tag : BitVec 32) (data : List (Fin 16 × BitVec 56))
  /-- DECOUPLE (R146): Command: end a coupling by STOP, KEEP or AT. -/
  | decouple (dt : Nat) (n : Fin 256) (mode : Fin 16) (tag : BitVec 32) (data : List (Fin 16 × BitVec 56))
  /-- SUPERIMPOSE (R148): Command: add a relative move to a coupled set-point. -/
  | superimpose (dt : Nat) (n : Fin 256) (mode : Fin 16) (tag : BitVec 32) (data : List (Fin 16 × BitVec 56))
  /-- VM_VEL (R140): Command: run a virtual master at a velocity. -/
  | vmVel (dt : Nat) (k : Fin 256) (mode : Fin 16) (tag : BitVec 32) (data : List (Fin 16 × BitVec 56))
  /-- VM_SET (R167): Command: set the position of a virtual master at standstill. -/
  | vmSet (dt : Nat) (k : Fin 256) (mode : Fin 16) (tag : BitVec 32) (data : List (Fin 16 × BitVec 56))
  /-- GROUP_ABORT (R162): Command: bring a path group to rest and return its segments as aborted. -/
  | groupAbort (dt : Nat) (g : Fin 256) (mode : Fin 16) (tag : BitVec 32) (data : List (Fin 16 × BitVec 56))
  /-- LINE (R168): Segment: linear move to end positions. -/
  | line (dt : Nat) (g : Fin 16) (mode : Fin 16) (tag : BitVec 32) (data : List (Fin 16 × BitVec 56))
  /-- ARC (R168): Segment: circular arc in slots 0 and 1. -/
  | arc (dt : Nat) (g : Fin 16) (mode : Fin 16) (tag : BitVec 32) (data : List (Fin 16 × BitVec 56))
  /-- HELIX (R168): Segment: arc with other slots moved in proportion. -/
  | helix (dt : Nat) (g : Fin 16) (mode : Fin 16) (tag : BitVec 32) (data : List (Fin 16 × BitVec 56))
  /-- SPLINE (R164): Segment: a control point of a B-spline run. -/
  | spline (dt : Nat) (g : Fin 16) (mode : Fin 16) (tag : BitVec 32) (data : List (Fin 16 × BitVec 56))
  /-- DWELL (R168): Segment: wait for a number of profile periods. -/
  | dwell (dt : Nat) (g : Fin 16) (mode : Fin 16) (tag : BitVec 32) (data : List (Fin 16 × BitVec 56))
  /-- SEG_DONE (R156): A segment is executed and counted in PRF_GRPEXE. -/
  | segDone (dt : Nat) (g : Fin 16)
  /-- STARVED (R159): A group at rest at its last accepted segment enters IDLE or STARVED. -/
  | starved (dt : Nat) (g : Fin 16)
  /-- PATH_HOLD (R160): OVR 0 brings the path to rest and the group enters HOLD. -/
  | pathHold (dt : Nat) (g : Fin 16)
  /-- GROUP_CONFIG_WRITE (R155): A write to PRF_GRPAX or PRF_GRPCFG is accepted only in the allowed group states. -/
  | groupConfigWrite (dt : Nat) (who : Accessor) (g : Fin 16) (axes : Bool) (v : BitVec 64)
  /-- OVERRIDE_WRITE (R160): A write to PRF_GRPOVR changes the path speed from the next boundary. -/
  | overrideWrite (dt : Nat) (g : Fin 16) (v : BitVec 32)
  /-- DONE (R135): A move reaches its target with velocity 0 and DONE is pushed. -/
  | done (dt : Nat) (n : Fin 264)
  /-- OVERSHOOT (R137): The turning point of an overshot target is reached and OVERSHOOT is pushed. -/
  | overshoot (dt : Nat) (n : Fin 256)
  /-- LOCKED (R145): A coupling meets its coupled set-point and locks. -/
  | locked (dt : Nat) (n : Fin 256)
  /-- MPOS_CROSSING (R145): The master crosses MPOS and an AT engage or decouple begins. -/
  | mposCrossing (dt : Nat) (n : Fin 256)
  /-- CAM_END (R152): The master leaves the span of a non-periodic cam. -/
  | camEnd (dt : Nat) (n : Fin 256)
  /-- CAM_SWITCH_EDGE (R154): A stamped cam-switch edge is applied to its DIO channel or pushed as CAMSW. -/
  | camSwitchEdge (dt : Nat) (t : Fin 64)
  /-- SLOT_INSTANCE (R183): A slot instance starts at its offset and runs its program for its context. -/
  | slotInstance (dt : Nat) (j : Fin 256) (late : Bool)
  /-- ENGINE_PLL_LOSS (R201): The engine PLL loses lock; PLLLOSS is set and a severe error logged. -/
  | enginePllLoss (dt : Nat) (k : Fin 8) (lost : Bool)
  /-- NOP (R229): Instruction: no operation. -/
  | engNop (x : Fin 32)
  /-- END (R229): Instruction: end the program. -/
  | engEnd (x : Fin 32)
  /-- REP (R221): Instruction: repeat a body a fixed number of times. -/
  | engRep (x : Fin 32) (count : Fin 4096) (len : Fin 64)
  /-- CLRF (R229): Instruction: clear AV and SAT flags. -/
  | engClrf (x : Fin 32) (mask : BitVec 8)
  /-- LDI (R229): Instruction: load an immediate data word. -/
  | engLdi (x : Fin 32) (d : Fin 16) (imm : BitVec 16)
  /-- LDP (R229): Instruction: load a pointer. -/
  | engLdp (x : Fin 32) (p : Fin 8) (imm : BitVec 11)
  /-- LD (R214): Instruction: load a data word from memory. -/
  | engLd (x : Fin 32) (d : Fin 16) (p : Fin 8) (md : Option (Fin 8))
  /-- ST (R215): Instruction: store a data word to memory. -/
  | engSt (x : Fin 32) (d : Fin 16) (p : Fin 8) (md : Option (Fin 8))
  /-- LDM (R216): Instruction: load a modifier from two words. -/
  | engLdm (x : Fin 32) (m : Fin 8) (p : Fin 8) (md : Option (Fin 8))
  /-- LDW (R216): Instruction: load an accumulator from two words. -/
  | engLdw (x : Fin 32) (a : Fin 4) (p : Fin 8) (md : Option (Fin 8))
  /-- STW (R229): Instruction: store an accumulator limited to 32 bits. -/
  | engStw (x : Fin 32) (a : Fin 4) (p : Fin 8) (md : Option (Fin 8))
  /-- LLD (R216): Instruction: load a long register from three words. -/
  | engLld (x : Fin 32) (l : Fin 4) (p : Fin 8) (md : Option (Fin 8))
  /-- LST (R216): Instruction: store a long register to three words. -/
  | engLst (x : Fin 32) (l : Fin 4) (p : Fin 8) (md : Option (Fin 8))
  /-- STA (R217): Instruction: store an accumulator converted to a data word. -/
  | engSta (x : Fin 32) (a : Fin 4) (p : Fin 8) (md : Option (Fin 8)) (sc : Option (BitVec 4))
  /-- MOV (R229): Instruction: copy a data register. -/
  | engMov (x : Fin 32) (d : Fin 16) (y : Fin 16)
  /-- MOVD (R217): Instruction: convert an accumulator to a data word. -/
  | engMovd (x : Fin 32) (d : Fin 16) (a : Fin 4) (sc : Option (BitVec 4))
  /-- LDA (R229): Instruction: load an accumulator from a data word. -/
  | engLda (x : Fin 32) (a : Fin 4) (y : Fin 16)
  /-- ADDA (R210): Instruction: add accumulators. -/
  | engAdda (x : Fin 32) (a : Fin 4) (b : Fin 4)
  /-- SUBA (R210): Instruction: subtract accumulators. -/
  | engSuba (x : Fin 32) (a : Fin 4) (b : Fin 4)
  /-- ADDD (R229): Instruction: add a data word to an accumulator. -/
  | engAddd (x : Fin 32) (a : Fin 4) (y : Fin 16)
  /-- SUBD (R229): Instruction: subtract a data word from an accumulator. -/
  | engSubd (x : Fin 32) (a : Fin 4) (y : Fin 16)
  /-- ADDK (R229): Instruction: add a shifted constant. -/
  | engAddk (x : Fin 32) (a : Fin 4) (sh : Fin 32) (k : BitVec 16)
  /-- NEGA (R229): Instruction: negate an accumulator. -/
  | engNega (x : Fin 32) (a : Fin 4)
  /-- ABSA (R229): Instruction: absolute value of an accumulator. -/
  | engAbsa (x : Fin 32) (a : Fin 4)
  /-- ASH (R229): Instruction: arithmetic shift of an accumulator. -/
  | engAsh (x : Fin 32) (a : Fin 4) (sh : BitVec 6)
  /-- NORM (R220): Instruction: normalise an accumulator. -/
  | engNorm (x : Fin 32) (a : Fin 4) (d : Fin 16)
  /-- EXP (R219): Instruction: exponent of an accumulator. -/
  | engExp (x : Fin 32) (d : Fin 16) (a : Fin 4)
  /-- SATA (R229): Instruction: saturate an accumulator to 32 bits. -/
  | engSata (x : Fin 32) (a : Fin 4)
  /-- TSTA (R229): Instruction: set flags from an accumulator. -/
  | engTsta (x : Fin 32) (a : Fin 4)
  /-- CLRA (R229): Instruction: clear an accumulator. -/
  | engClra (x : Fin 32) (a : Fin 4)
  /-- MAC (R208): Instruction: multiply and accumulate, or multiply. -/
  | engMac (x : Fin 32) (a : Fin 4) (b : Fin 4) (y : Fin 16) (z : Fin 16) (sg : Bool) (zb : Bool)
  /-- DMAC (R229): Instruction: dual multiply and accumulate. -/
  | engDmac (x : Fin 32) (a : Fin 4) (b : Fin 4) (y : Fin 16) (z : Fin 16) (u : Fin 16) (v : Fin 16) (sg1 : Bool) (sg2 : Bool)
  /-- MACM (R229): Instruction: multiply by a memory word and accumulate. -/
  | engMacm (x : Fin 32) (a : Fin 4) (b : Fin 4) (y : Fin 16) (p : Fin 8) (md : Option (Fin 8)) (sg : Bool) (zb : Bool)
  /-- DMACM (R229): Instruction: multiply two memory words and accumulate. -/
  | engDmacm (x : Fin 32) (a : Fin 4) (b : Fin 4) (p : Fin 8) (md : Option (Fin 8)) (q : Fin 8) (mq : Option (Fin 8)) (sg : Bool) (zb : Bool)
  /-- SELD (R222): Instruction: select a data word by condition. -/
  | engSeld (x : Fin 32) (d : Fin 16) (cc : Fin 32) (y : Fin 16) (z : Fin 16)
  /-- SELA (R222): Instruction: select an accumulator by condition. -/
  | engSela (x : Fin 32) (a : Fin 4) (cc : Fin 32) (b : Fin 4) (e : Fin 4)
  /-- SELL (R222): Instruction: select a long register by condition. -/
  | engSell (x : Fin 32) (l : Fin 4) (cc : Fin 32) (m : Fin 4) (n : Fin 4)
  /-- MIN (R229): Instruction: minimum of two data words. -/
  | engMin (x : Fin 32) (d : Fin 16) (y : Fin 16) (z : Fin 16)
  /-- MAX (R229): Instruction: maximum of two data words. -/
  | engMax (x : Fin 32) (d : Fin 16) (y : Fin 16) (z : Fin 16)
  /-- NEGD (R229): Instruction: negate a data word with saturation. -/
  | engNegd (x : Fin 32) (d : Fin 16) (y : Fin 16)
  /-- CMP (R209): Instruction: compare two data words. -/
  | engCmp (x : Fin 32) (y : Fin 16) (z : Fin 16)
  /-- LIN (R223): Instruction: read a long input port. -/
  | engLin (x : Fin 32) (l : Fin 4) (port : Fin 256)
  /-- LADD (R229): Instruction: add long registers. -/
  | engLadd (x : Fin 32) (l : Fin 4) (m : Fin 4) (n : Fin 4)
  /-- LSUB (R229): Instruction: subtract long registers. -/
  | engLsub (x : Fin 32) (l : Fin 4) (m : Fin 4) (n : Fin 4)
  /-- LMOV (R229): Instruction: copy a long register. -/
  | engLmov (x : Fin 32) (l : Fin 4) (m : Fin 4)
  /-- LTA (R229): Instruction: shift a long register into an accumulator. -/
  | engLta (x : Fin 32) (a : Fin 4) (l : Fin 4) (sh : BitVec 6)
  /-- IN (R223): Instruction: read a 16-bit input port. -/
  | engIn (x : Fin 32) (d : Fin 16) (port : Fin 256)
  /-- OUT (R223): Instruction: write a 16-bit output port. -/
  | engOut (x : Fin 32) (port : Fin 256) (y : Fin 16)
  /-- OUTI (R199): Instruction: write the current reference, clamped by the Leash. -/
  | engOuti (x : Fin 32) (y : Fin 16) (z : Fin 16)
  /-- OUTC (R226): Instruction: send a half-bridge compare through the Leash. -/
  | engOutc (x : Fin 32) (ch : Fin 3) (y : Fin 16)
  /-- OUTK (R227): Instruction: send the commit request. -/
  | engOutk (x : Fin 32)
  /-- SINCOS (R230): Instruction: sine and cosine. -/
  | engSincos (x : Fin 32) (ds : Fin 16) (dc : Fin 16) (y : Fin 16)
  /-- SQRT (R230): Instruction: square root. -/
  | engSqrt (x : Fin 32) (d : Fin 16) (a : Fin 4)
  /-- DIV (R230): Instruction: divide. -/
  | engDiv (x : Fin 32) (d : Fin 16) (y : Fin 16) (z : Fin 16)
  /-- WRITE_PHASE_COMMIT (R189): At tw the PWM group commits a complete staging set for the period. -/
  | writePhaseCommit (dt : Nat) (a : Fin 32)
  /-- WATCHDOG_TORQUE_OFF (R202): Reaction 0x0 is applied at the boundary ending the repeated period. -/
  | watchdogTorqueOff (dt : Nat) (a : Fin 32)
  /-- PWM_PERIOD_BOUNDARY (R292): The committed set is applied as a whole at a PWM period boundary. -/
  | pwmPeriodBoundary (dt : Nat) (a : Fin 32)
  /-- TRIP_ESCALATION (R298): TRIPMAX consecutive cut periods latch cause 0x04. -/
  | tripEscalation (dt : Nat) (a : Fin 32)
  /-- BAND_BOUNDARY (R194): The Band unit decides each phase state and sends its codes. -/
  | bandBoundary (dt : Nat) (a : Fin 32) (u : List Bool) (v : List Bool) (w : List Bool)
  /-- VELOCITY_INSTANCE_UPDATE (R233): After a velocity instance ends, Darner, inertia estimator and Sheepdog update. -/
  | velocityInstanceUpdate (dt : Nat) (a : Fin 32)
  /-- SHEEPDOG_ARMED (R249): SETTLE reaches 0 and the Sheepdog is ARMED. -/
  | sheepdogArmed (dt : Nat) (a : Fin 32)
  /-- DARNER_CLEAR (R243): A write of ENG_DCTL.CLEAR requests the Darner memory to be emptied. -/
  | darnerClear (dt : Nat) (a : Fin 32)
  /-- DARNER_CLEAR_EFFECT (R244): The memory is emptied at the next velocity boundary. -/
  | darnerClearEffect (dt : Nat) (a : Fin 32)
  /-- FAST_OVERCURRENT (R259): Fast current over OCTH at OCCNT edges drives gates low and latches cause 0x05. -/
  | fastOvercurrent (dt : Nat) (a : Fin 32) (h : Fin 3) (l : List Bool)
  /-- STUCK_CHANNEL (R260): A bit stream unchanged for 64 edges latches feedback fault 0xD. -/
  | stuckChannel (dt : Nat) (c : Fin 96) (l : List Bool)
  /-- SUM_CHECK_FAIL (R260): The current sum over SUMTH at 16 strobes latches fault 0xE. -/
  | sumCheckFail (dt : Nat) (a : Fin 32)
  /-- QUADRATURE_EDGE (R265): An accepted A or B change counts one edge. -/
  | quadratureEdge (dt : Nat) (p : Fin 34) (a : Bool) (b : Bool)
  /-- INDEX_EDGE (R265): A rising Z edge checks the index distance. -/
  | indexEdge (dt : Nat) (p : Fin 34) (z : Bool)
  /-- SSI_FRAME (R266): An SSI frame is clocked in and checked as a reading. -/
  | ssiFrame (dt : Nat) (p : Fin 34) (f : Frame)
  /-- POS (R267): Afven cyclic position read. -/
  | pos (dt : Nat) (p : Fin 34) (f : Frame) (ident : Frame) (rtd : Nat)
  /-- POST (R270): Afven cyclic position and temperature read. -/
  | post (dt : Nat) (p : Fin 34) (f : Frame) (ident : Frame) (rtd : Nat)
  /-- AFVEN_READ (R273): Acyclic Afven command 0x3 reads a parameter. -/
  | afvenRead (dt : Nat) (p : Fin 34) (rsp : Frame)
  /-- AFVEN_WRITE (R273): Acyclic Afven command 0x4 writes a parameter. -/
  | afvenWrite (dt : Nat) (p : Fin 34) (rsp : Frame)
  /-- AFVEN_CLEAR_ERR (R273): Acyclic Afven command 0x5 clears ERR in the encoder. -/
  | afvenClearErr (dt : Nat) (p : Fin 34) (rsp : Frame)
  /-- PAIR_OPEN_OR_SHORT (R276): A used receiver below 50 mV for 1 µs latches fault 0xB. -/
  | pairOpenOrShort (dt : Nat) (p : Fin 34) (i : Fin 3) (gone : Bool)
  /-- MASTER_ENCODER_READ (R274): A master-encoder port is read every FBK_MPER. -/
  | masterEncoderRead (dt : Nat) (k : Fin 2)
  /-- PROBE_EDGE (R279): An edge on a probe source is accepted, filtered, stamped or counted. -/
  | probeEdge (dt : Nat) (i : Fin 16) (rising : Bool)
  /-- PROBE_LATCH (R278): The latch completes and its two entries are pushed on queue 0x02. -/
  | probeLatch (dt : Nat) (i : Fin 16)
  /-- PROBE_ARM (R279): Writing ARM arms a probe within 100 ns. -/
  | probeArm (dt : Nat) (who : Accessor) (i : Fin 16)
  /-- TRIP_ASSERT (R295): TRIP_N falling brings every gate of the axis low and cuts the period. -/
  | tripAssert (dt : Nat) (a : Fin 32)
  /-- TRIP_DEASSERT (R296): TRIP_N rising allows the next period to start. -/
  | tripDeassert (dt : Nat) (a : Fin 32)
  /-- GATE_ENABLE_LOW (R299): GENA or GENB low holds the group's gates low and disables its axes. -/
  | gateEnableLow (dt : Nat) (g : Fin 8) (x : Bool) (y : Bool)
  /-- PWM_CLOCK_LOSS (R301): No PWM clock edge for 20 ns drives the island's gates low and latches cause 0x03. -/
  | pwmClockLoss (dt : Nat) (i : Fin 9) (lost : Bool)
  /-- DEBUG_HALT (R302): A debug halt of a core or engine brings its channels to the safe state. -/
  | debugHalt (dt : Nat) (t : Fin 12)
  /-- DEBUG_RESUME (R494): A halted core or engine resumes; no output is restored. -/
  | debugResume (dt : Nat) (t : Fin 12)
  /-- AUX_BOUNDARY (R304): A chopper channel takes its source value and decides ON or OFF. -/
  | auxBoundary (dt : Nat) (k : Fin 8) (l : List Bool)
  /-- AUX_COMMIT (R304): The chopper compare is committed at P / 2. -/
  | auxCommit (dt : Nat) (k : Fin 8)
  /-- AUXOFF (R306): A write to PWM_AUXOFF turns channels off until the next start. -/
  | auxoff (dt : Nat) (mask : BitVec 8)
  /-- SUBMIT (R317): A core submits a token. -/
  | submit (dt : Nat) (c : Fin 4) (t : Fin 512)
  /-- CANCEL (R317): A core cancels a token. -/
  | cancel (dt : Nat) (c : Fin 4) (t : Fin 512)
  /-- TAKE (R324): A core reads KNL_TAKE and takes its slotted token. -/
  | take (dt : Nat) (c : Fin 4)
  /-- KNL_DONE (R326): A core reports completion and the token moves per its flags. -/
  | knlDone (dt : Nat) (c : Fin 4) (t : Fin 512)
  /-- KNL_TICK (R318): The tick advances and due tokens leave the delay list. -/
  | knlTick (dt : Nat)
  /-- KENNEL_EVENT (R329): A bound event wakes its token or sets PEND. -/
  | kennelEvent (dt : Nat) (e : Fin 256)
  /-- SLOT_FILL (R321): Ready tokens are placed in empty fetch slots. -/
  | slotFill (dt : Nat)
  /-- SLOT_MOVE (R323): A slotted token moves to an idle executor. -/
  | slotMove (dt : Nat)
  /-- PUSH (R310): The PUSH executor pushes its argument onto a queue and completes. -/
  | push (dt : Nat)
  /-- COPY (R310): The COPY executor copies memory and completes. -/
  | copy (dt : Nat)
  /-- RUNMAX_REACHED (R328): A token running for RUNMAX ticks sets OVR and warns. -/
  | runmaxReached (dt : Nat) (t : Fin 512)
  /-- TRYING_PUSH (R339): A trying push is accepted whole or refused at once. -/
  | tryingPush (dt : Nat) (c : Fin 4) (q : Fin 64) (n : Fin 16)
  /-- WAITING_PUSH (R340): A waiting push holds until room exists. -/
  | waitingPush (dt : Nat) (c : Fin 4) (q : Fin 64) (n : Fin 16)
  /-- WAITING_PUSH_ACCEPT (R338): A waiting push is accepted when room appears. -/
  | waitingPushAccept (dt : Nat) (q : Fin 64)
  /-- PUSH_CANCEL (R340): CANCEL withdraws a pending waiting push. -/
  | pushCancel (dt : Nat) (c : Fin 4)
  /-- POP (R341): A pop takes the oldest entry or returns VALID 0. -/
  | pop (dt : Nat) (who : Accessor) (q : Fin 64)
  /-- HELD_POP_COMPLETE (R341): A held pop completes when its entry arrives. -/
  | heldPopComplete (dt : Nat) (q : Fin 64)
  /-- SPILL_WRITE (R343): Eight tail entries are written to the spill ring in one burst. -/
  | spillWrite (dt : Nat) (q : Fin 64)
  /-- SPILL_READ (R344): A spill burst read completes and its entries enter the head in order. -/
  | spillRead (dt : Nat) (tag : Fin 128) (ecc : Bool)
  /-- FLUSH (R350): A flush removes every entry of a queue. -/
  | flush (dt : Nat) (c : Fin 4) (q : Fin 64)
  /-- ARM (R361): Arming a trigger group takes buffers and starts sampling. -/
  | arm (dt : Nat) (g : Fin 8)
  /-- DISARM (R368): Disarming frees buffers or closes filling records. -/
  | disarm (dt : Nat) (g : Fin 8)
  /-- FORCE (R363): FORCE triggers the group at the next TCH boundary. -/
  | force (dt : Nat) (g : Fin 8)
  /-- ACQ_SAMPLE (R352): A channel takes and stores a sample at its boundary. -/
  | acqSample (dt : Nat) (c : Fin 64) (vals : List (BitVec 64)) (l : List Bool)
  /-- REARM_END (R362): After 64 TCH samples the group enters ARMED. -/
  | rearmEnd (dt : Nat) (g : Fin 8)
  /-- AUTO_TRIGGER (R366): An armed group without trigger for ACQ_GAUTO is forced. -/
  | autoTrigger (dt : Nat) (g : Fin 8)
  /-- RECORD_CLOSE (R372): A record closes and its entry is pushed. -/
  | recordClose (dt : Nat) (c : Fin 64) (ecc : Bool)
  /-- RECORD_RELEASE (R373): Writing ACQ_REL frees a record and its slots. -/
  | recordRelease (dt : Nat) (who : Accessor) (r : Fin 128)
  /-- WYCHEMAS_SEND (R370): A trigger frame is sent on a WTRIG line. -/
  | wychemasSend (dt : Nat) (n : Fin 4)
  /-- WYCHEMAS_RECEIVE (R371): A received trigger frame places tt and triggers. -/
  | wychemasReceive (dt : Nat) (n : Fin 4) (frame : BitVec 9) (ago : Nat)
  /-- SYNCCLK_LOSS (R369): No SYNCCLK edge for 200 ns clears CLKOK. -/
  | syncclkLoss (dt : Nat)
  /-- LINK_UP (R379): A ring port link comes up. -/
  | linkUp (dt : Nat) (p : Fin 2)
  /-- LINK_DOWN (R379): A ring port goes down. -/
  | linkDown (dt : Nat) (p : Fin 2)
  /-- RING_CYCLE_SEND (R387): The master sends the cycle frames at SO. -/
  | ringCycleSend (dt : Nat)
  /-- CYCLE (R389): A member processes a cycle frame and its slice. -/
  | cycle (dt : Nat) (p : Fin 2) (ok : Bool) (d : List (BitVec 8))
  /-- CYCLE_RETURN (R383): A returned cycle frame is taken by the master. -/
  | cycleReturn (dt : Nat) (p : Fin 2) (ok : Bool) (d : List (BitVec 8))
  /-- FRAME_MISSING (R387): A frame not returned by its deadline. -/
  | frameMissing (dt : Nat)
  /-- CLOSE (R384): A member forwards a CLOSE frame. -/
  | close (dt : Nat) (p : Fin 2) (ok : Bool) (d : List (BitVec 8))
  /-- CLOSE_RETURN (R384): A CLOSE frame returns; after 4 the ring enters RING. -/
  | closeReturn (dt : Nat) (p : Fin 2) (ok : Bool) (d : List (BitVec 8))
  /-- DISCOVER (R397): A member marks itself in a DISCOVER frame. -/
  | discover (dt : Nat) (p : Fin 2) (ok : Bool) (d : List (BitVec 8))
  /-- DISCOVER_RETURN (R397): The master learns member positions. -/
  | discoverReturn (dt : Nat) (p : Fin 2) (ok : Bool) (d : List (BitVec 8))
  /-- POLL (R394): Supervisory message POLL. -/
  | poll (dt : Nat) (p : Fin 2) (ok : Bool) (d : List (BitVec 8))
  /-- IDENT (R398): Supervisory message IDENT. -/
  | ident (dt : Nat) (p : Fin 2) (ok : Bool) (d : List (BitVec 8))
  /-- PARAM (R391): Supervisory message PARAM. -/
  | param (dt : Nat) (p : Fin 2) (ok : Bool) (d : List (BitVec 8))
  /-- DISCARD (R394): Supervisory message DISCARD. -/
  | discard (dt : Nat) (p : Fin 2) (ok : Bool) (d : List (BitVec 8))
  /-- SERVICE (R481): Supervisory message SERVICE. -/
  | service (dt : Nat) (p : Fin 2) (ok : Bool) (d : List (BitVec 8))
  /-- FAULT (R394): Supervisory message FAULT. -/
  | fault (dt : Nat) (p : Fin 2) (ok : Bool) (d : List (BitVec 8))
  /-- SUPERVISORY_REPLY (R395): A supervisory reply is delivered to firmware. -/
  | supervisoryReply (dt : Nat) (p : Fin 2) (ok : Bool) (d : List (BitVec 8))
  /-- SUPERVISORY_RETRY (R395): A request is repeated after 16 cycles. -/
  | supervisoryRetry (dt : Nat) (m : Fin 256)
  /-- SVREL (R395): RNG_SVREL returns a buffer. -/
  | svrel (dt : Nat) (b : Fin 32)
  /-- LOSS_OF_RING (R392): A member missing MISSMAX cycles latches loss-of-ring. -/
  | lossOfRing (dt : Nat)
  /-- MEMBER_LOST (R393): The master marks a member LOST after LOSTMAX misses. -/
  | memberLost (dt : Nat) (m : Fin 256)
  /-- PARAM_ACK_TIMEOUT (R399): A block not acknowledged within 1 100 ms quarantines the member. -/
  | paramAckTimeout (dt : Nat) (m : Fin 256)
  /-- LEAVE (R396): RNG_CTL.LEAVE withdraws the ready indication. -/
  | leave (dt : Nat)
  /-- REPARAM (R400): RNG_MCTL.REPARAM re-parameterises a quarantined member. -/
  | reparam (dt : Nat) (who : Accessor) (m : Fin 256)
  /-- LINK_DELAY_RESPONSE (R416): A link-delay response arrives and D is measured. -/
  | linkDelayResponse (dt : Nat) (p : Fin 2) (cyc : BitVec 32) (turn : BitVec 32) (q : Fin 4)
  /-- HOLDOVER (R413): No valid sample for HOLDT enters HOLDOVER. -/
  | holdover (dt : Nat)
  /-- PERMIT (R414): TIM_CTL.PERMIT in REFUSED grants one step. -/
  | permit (dt : Nat) (who : Accessor)
  /-- GRANDMASTER_CHANGE (R422): Best master selection chooses another grandmaster. -/
  | grandmasterChange (dt : Nat)
  /-- SYNC (R421): A PTP Sync message forms a sample. -/
  | sync (dt : Nat) (dom : BitVec 8) (clock : BitVec 64) (port : BitVec 16) (seq : BitVec 16) (two : Bool) (sec : BitVec 48) (ns : BitVec 32) (corr : BitVec 64) (k : BitVec 8)
  /-- FOLLOW_UP (R421): A PTP Follow_Up message. -/
  | followUp (dt : Nat) (dom : BitVec 8) (clock : BitVec 64) (port : BitVec 16) (seq : BitVec 16) (sec : BitVec 48) (ns : BitVec 32) (corr : BitVec 64)
  /-- ANNOUNCE (R421): A PTP Announce message. -/
  | announce (dt : Nat) (dom : BitVec 8) (clock : BitVec 64) (port : BitVec 16) (prio1 : BitVec 8) (cls : BitVec 8) (acc : BitVec 8) (var : BitVec 16) (prio2 : BitVec 8) (gm : BitVec 64) (steps : BitVec 16) (utc : BitVec 16) (utcOk : Bool) (k : BitVec 8)
  /-- DELAY_RESP (R421): A PTP Delay_Resp message. -/
  | delayResp (dt : Nat) (dom : BitVec 8) (clock : BitVec 64) (port : BitVec 16) (seq : BitVec 16) (mine : Bool) (sec : BitVec 48) (ns : BitVec 32) (corr : BitVec 64)
  /-- PDELAY_REQ (R421): A PTP Pdelay_Req message. -/
  | pdelayReq (dt : Nat) (dom : BitVec 8) (clock : BitVec 64) (port : BitVec 16) (seq : BitVec 16)
  /-- PDELAY_RESP (R421): A PTP Pdelay_Resp message. -/
  | pdelayResp (dt : Nat) (dom : BitVec 8) (seq : BitVec 16) (mine : Bool) (two : Bool) (sec : BitVec 48) (ns : BitVec 32) (corr : BitVec 64)
  /-- LOGIC_FRAME (R426): A DIO logic-side heartbeat frame. -/
  | logicFrame (dt : Nat) (c : Fin 64)
  /-- FIELD_REPORT (R426): A DIO field-side report frame. -/
  | fieldReport (dt : Nat) (c : Fin 64) (raw : Bool) (limit : Bool) (vlp : BitVec 16) (ig : BitVec 16)
  /-- HEARTBEAT_TIMEOUT (R428): A DIO channel enters its timeout state. -/
  | heartbeatTimeout (dt : Nat) (c : Fin 64)
  /-- COUPLER_SILENCE (R430): No field frame for 1 ms sets COUPLER. -/
  | couplerSilence (dt : Nat) (c : Fin 64)
  /-- INPUT_CHANGE_ACCEPTED (R432): A DIO input change passes its filter. -/
  | inputChangeAccepted (dt : Nat) (c : Fin 64)
  /-- DIO_OUT (R436): A write of DIO_OUT. -/
  | dioOut (dt : Nat) (v : BitVec 64)
  /-- DIO_SET (R436): A write of DIO_SET. -/
  | dioSet (dt : Nat) (v : BitVec 64)
  /-- DIO_CLR (R436): A write of DIO_CLR. -/
  | dioClr (dt : Nat) (v : BitVec 64)
  /-- READBACK_MISMATCH (R440): A readback mismatch lasting RBT sets BACKFED or OLOW. -/
  | readbackMismatch (dt : Nat) (c : Fin 64)
  /-- THERMAL_SHUTDOWN (R441): An output at its thermal limit turns off. -/
  | thermalShutdown (dt : Nat) (c : Fin 64)
  /-- THERMAL_RETRY (R441): 100 ms later the output turns on again. -/
  | thermalRetry (dt : Nat) (c : Fin 64)
  /-- GROUP_OVERLOAD (R442): Group current over 3.6 A for 5 ms shuts down every output. -/
  | groupOverload (dt : Nat) (g : Fin 8)
  /-- GROUP_OVERLOAD_RETRY (R442): 100 ms later the group outputs are reapplied. -/
  | groupOverloadRetry (dt : Nat) (g : Fin 8)
  /-- SUPPLY_LOW (R443): L+ below 18.0 V for 1 ms enters LOW. -/
  | supplyLow (dt : Nat) (g : Fin 8)
  /-- SUPPLY_MISSING (R443): L+ below 12.0 V enters MISSING. -/
  | supplyMissing (dt : Nat) (g : Fin 8)
  /-- SUPPLY_OFF (R443): L+ below 9.0 V resets the driver die. -/
  | supplyOff (dt : Nat) (g : Fin 8)
  /-- SUPPLY_OK (R444): L+ above 19.2 V for 10 ms enters OK. -/
  | supplyOk (dt : Nat) (g : Fin 8)
  /-- SAFE_INPUT_CHANGE (R456): A filtered safe input channel changes level. -/
  | safeInputChange (dt : Nat) (kerca : Bool) (b : Bool) (i : Fin 16) (level : Bool)
  /-- DISCREPANCY_FAULT (R457): A disagreement lasting DISC latches DISCFLT. -/
  | discrepancyFault (dt : Nat) (i : Fin 16)
  /-- SRST_RELEASE (R459): SRST_IN release; a reset accepted by both technologies. -/
  | srstRelease (dt : Nat) (skew : Nat)
  /-- RESET_STUCK (R460): SRST_IN pressed 3 s sets STUCK. -/
  | resetStuck (dt : Nat)
  /-- SS1_T1_ELAPSED (R462): T1 after an SS1 demand the function enters SAFE. -/
  | ss1T1Elapsed (dt : Nat) (kerca : Bool) (f : Fin 32)
  /-- SAFETY_MEASUREMENT (R463): Every 1 ms the safety core measures v and cross-checks positions. -/
  | safetyMeasurement (dt : Nat)
  /-- SAFETY_ENCODER_READ (R455): A PSRC2 port is read every 125 µs. -/
  | safetyEncoderRead (dt : Nat) (p : Fin 34) (f : Frame)
  /-- READBACK_FAULT (R465): A gate-enable land low while commanded high sets RBFLT. -/
  | readbackFault (dt : Nat) (g : Fin 8) (b : Bool) (high : Bool)
  /-- TESTDUE (R465): A group released 168 h without STO sets TESTDUE. -/
  | testdue (dt : Nat) (g : Fin 8)
  /-- DARK_TEST (R467): A safe output switch is tested off. -/
  | darkTest (dt : Nat) (k : Fin 8) (som : Bool) (stays : Bool)
  /-- SAFETY_PDU_SEND (R469): A new safety PDU is produced every SCYC cycles. -/
  | safetyPduSend (dt : Nat) (n : Fin 64)
  /-- SAFETY_PDU_RECEIVE (R470): A received safety PDU is checked. -/
  | safetyPduReceive (dt : Nat) (n : Fin 64)
  /-- CONNECTION_WATCHDOG (R471): No fresh PDU for WD returns the connection to START. -/
  | connectionWatchdog (dt : Nat) (n : Fin 64)
  /-- SAFETY_HEARTBEAT (R451): The safety core heartbeat every 100 µs. -/
  | safetyHeartbeat (dt : Nat) (core : Bool) (kerca : Bool)
  /-- CROSS_EXCHANGE (R451): Every 1 ms the technologies exchange states. -/
  | crossExchange (dt : Nat)
  /-- ACCEPT (R473): Safety request ACCEPT. -/
  | accept (dt : Nat) (ip : BitVec 32) (port : BitVec 16) (udp : Udp) (f : List (BitVec 8)) (mramOk : Bool)
  /-- WITHDRAW (R473): Safety request WITHDRAW. -/
  | withdraw (dt : Nat) (ip : BitVec 32) (port : BitVec 16) (udp : Udp) (f : List (BitVec 8)) (mramOk : Bool)
  /-- CLEARLOG (R474): Safety request CLEARLOG. -/
  | clearlog (dt : Nat) (ip : BitVec 32) (port : BitVec 16) (udp : Udp) (f : List (BitVec 8)) (mramOk : Bool)
  /-- PASSWORD_LOCKOUT_END (R473): 60 s after five wrong passwords the lockout ends. -/
  | passwordLockoutEnd (dt : Nat)
  /-- INFO (R481): Service command INFO. -/
  | info (dt : Nat) (ip : BitVec 32) (port : BitVec 16) (udp : Udp) (f : List (BitVec 8))
  /-- READ (R482): Service command READ. -/
  | read (dt : Nat) (ip : BitVec 32) (port : BitVec 16) (udp : Udp) (f : List (BitVec 8))
  /-- WRITE (R483): Service command WRITE. -/
  | write (dt : Nat) (ip : BitVec 32) (port : BitVec 16) (udp : Udp) (f : List (BitVec 8))
  /-- LOGREAD (R491): Service command LOGREAD. -/
  | logread (dt : Nat) (ip : BitVec 32) (port : BitVec 16) (udp : Udp) (f : List (BitVec 8))
  /-- PERSREAD (R492): Service command PERSREAD. -/
  | persread (dt : Nat) (ip : BitVec 32) (port : BitVec 16) (udp : Udp) (f : List (BitVec 8))
  /-- MOTION (R484): Service command MOTION. -/
  | motion (dt : Nat) (ip : BitVec 32) (port : BitVec 16) (udp : Udp) (f : List (BitVec 8))
  /-- EVENTS (R484): Service command EVENTS. -/
  | events (dt : Nat) (ip : BitVec 32) (port : BitVec 16) (udp : Udp) (f : List (BitVec 8))
  /-- DLBEGIN (R485): Service command DLBEGIN. -/
  | dlbegin (dt : Nat) (ip : BitVec 32) (port : BitVec 16) (udp : Udp) (f : List (BitVec 8))
  /-- DLDATA (R485): Service command DLDATA. -/
  | dldata (dt : Nat) (ip : BitVec 32) (port : BitVec 16) (udp : Udp) (f : List (BitVec 8))
  /-- DLEND (R485): Service command DLEND. -/
  | dlend (dt : Nat) (ip : BitVec 32) (port : BitVec 16) (udp : Udp) (f : List (BitVec 8))
  /-- RESTART (R487): Service command RESTART. -/
  | restart (dt : Nat) (ip : BitVec 32) (port : BitVec 16) (udp : Udp) (f : List (BitVec 8)) (qvsel : Bool) (clksel : Bool) (test : Bool)
  /-- ARP_REQUEST (R478): An ARP request is answered. -/
  | arpRequest (dt : Nat) (target : BitVec 32)
  /-- ICMP_ECHO (R478): An ICMP echo request is answered. -/
  | icmpEcho (dt : Nat) (target : BitVec 32) (frag : Bool) (data : List (BitVec 8))
  /-- LOG_TAKE (R489): The log takes one report every 40 ns. -/
  | logTake (dt : Nat)
  /-- PERSIST (R492): A severe record is written to MRAM. -/
  | persist (dt : Nat)
  /-- BYPASS (R493): JTAG instruction BYPASS. -/
  | bypass (dt : Nat)
  /-- IDCODE (R493): JTAG instruction IDCODE. -/
  | idcode (dt : Nat)
  /-- SAMPLE_PRELOAD (R493): JTAG instruction SAMPLE/PRELOAD. -/
  | samplePreload (dt : Nat) (shift : List Bool)
  /-- EXTEST (R493): JTAG instruction EXTEST, only in NO_IMAGE. -/
  | extest (dt : Nat) (shift : List Bool)
  /-- RING_CYCLE_BOUNDARY (R388): At each ring-cycle boundary a member latches its inputs and Kennel event 0x52 fires. -/
  | ringCycleBoundary (dt : Nat)
  /-- FOREIGN_FRAME (R378): A frame with another EtherType, or at the master a ring frame with a foreign source address, is discarded and counted in RNG_ERR.FOREIGN. -/
  | foreignFrame (dt : Nat) (p : Fin 2) (etype : BitVec 16) (src : BitVec 48)
  /-- SYNCCLK_RETURN (R369): SYNCCLK edges return after a loss, CLKOK goes back to 1 and Wychemas frames are sent and received again. -/
  | syncclkReturn (dt : Nat)
  /-- SRST_PRESS (R458): SRST_IN reads 1 after its filter, and each technology starts timing the press whose start R460 compares with the entry of each state. -/
  | srstPress (dt : Nat)
  /-- DELAY_REQ (R421): The slave sends its periodic Delay_Req, or Pdelay_Req in P2P, at the interval set by LOGDREQ. -/
  | delayReq (dt : Nat)
  /-- PDELAY_RESP_FOLLOW_UP (R421): A Pdelay_Resp_Follow_Up from the peer completes a two-step peer-delay measurement. -/
  | pdelayRespFollowUp (dt : Nat) (dom : BitVec 8) (seq : BitVec 16) (mine : Bool) (sec : BitVec 48) (ns : BitVec 32) (corr : BitVec 64)
  /-- ANNOUNCE_RECEIPT_TIMEOUT (R422): No Announce from the selected grandmaster within the receipt timeout, so best master selection runs again. -/
  | announceReceiptTimeout (dt : Nat)
  /-- SPILL_WRITE_COMPLETE (R344): A spill write burst completes, its burst tag is freed, and a queue held for lack of a tag may spill again. -/
  | spillWriteComplete (dt : Nat) (tag : Fin 128)
  /-- RING_CLOCK_LOSS (R396): Island 0x18 loses its clock, the ring interface withdraws its ready indication and the bypass closes. -/
  | ringClockLoss (dt : Nat) (lost : Bool)
  deriving DecidableEq, Repr

end Sys2Proof
end

