-- ==== Sys2Proof/Machine/Bits.lean ====
section
/-! DEFINITION. Sparse tables, integer helpers, little-endian byte strings (R11), CRC-32C (R67) and exact fractions. -/

namespace Sys2Proof.Machine

/-! ### Sparse tables -/

/-- The value listed under key `i`, if any. -/
def tabFind {α : Type} : Tab α → Nat → Option α
  | [], _ => none
  | (k, v) :: t, i => if k = i then some v else tabFind t i

/-- The value under key `i`, or the default `d`. -/
def tabGet {α : Type} (d : α) (t : Tab α) (i : Nat) : α := (tabFind t i).getD d

/-- List `v` under key `i`, keeping rising order of the keys. -/
def tabSet {α : Type} : Tab α → Nat → α → Tab α
  | [], i, v => [(i, v)]
  | (k, w) :: t, i, v =>
    if k = i then (i, v) :: t
    else if i < k then (i, v) :: (k, w) :: t
    else (k, w) :: tabSet t i v

/-- Drop key `i`. -/
def tabDel {α : Type} (t : Tab α) (i : Nat) : Tab α := t.filter fun e => e.1 != i

/-- Change the value under key `i`, taken as `d` when unlisted. -/
def tabMod {α : Type} (d : α) (t : Tab α) (i : Nat) (f : α → α) : Tab α := tabSet t i (f (tabGet d t i))

/-! ### Integers and bit fields -/

/-- The signed value of the low `w` bits of `n` (R15). -/
def signed (w n : Nat) : Int :=
  if n % 2 ^ w < 2 ^ (w - 1) then ((n % 2 ^ w : Nat) : Int) else ((n % 2 ^ w : Nat) : Int) - ((2 ^ w : Nat) : Int)

/-- The low `w` bits of an integer in two's complement. -/
def unsigned (w : Nat) (i : Int) : Nat := (i % ((2 ^ w : Nat) : Int)).toNat

/-- `x` brought into `lo` to `hi`. -/
def clampInt (lo hi x : Int) : Int := if x < lo then lo else if hi < x then hi else x

/-- `x` saturated to a signed number of `w` bits. -/
def satSigned (w : Nat) (x : Int) : Int := clampInt (-((2 ^ (w - 1) : Nat) : Int)) (((2 ^ (w - 1) : Nat) : Int) - 1) x

/-- `n + k`, saturating at the largest number of `w` bits. -/
def satAdd (w n k : Nat) : Nat := min (n + k) (2 ^ w - 1)

/-- Bits `hi` to `lo` of `n` (R3). -/
def bits (n hi lo : Nat) : Nat := n / 2 ^ lo % 2 ^ (hi + 1 - lo)

/-- Bit `i` of `n`. -/
def bit (n i : Nat) : Bool := n / 2 ^ i % 2 == 1

/-- `n` with bit `i` set to `b`. -/
def setBit (n i : Nat) (b : Bool) : Nat :=
  if bit n i == b then n else if b then n + 2 ^ i else n - 2 ^ i

/-- A Boolean as a bit. -/
def b2n (b : Bool) : Nat := if b then 1 else 0

/-- Is the modular difference `w - n` of 32-bit numbers, read as signed, at most 0 (R319)? -/
def due32 (w n : Nat) : Bool := signed 32 (w + 2 ^ 32 - n % 2 ^ 32) ≤ 0

/-- Truncation towards minus infinity of `x / 2^k`. -/
def asr (x : Int) (k : Nat) : Int := x / ((2 ^ k : Nat) : Int)

/-- The numbers below `n` for which `p` holds, rising. -/
def below (n : Nat) (p : Nat → Bool) : List Nat := (List.range n).filter p

/-- R143, R145: a distance taken the shorter way round the modulo `m` (0 for none), the positive way when the two are equal. -/
def shorterWay (m d : Int) : Int :=
  if m ≤ 0 then d
  else if m < 2 * (d % m) then d % m - m else d % m

/-- The integer square root, bit by bit from the top bit `k`. -/
def isqrtFrom : Nat → Nat → Nat → Nat
  | 0, _, r => r
  | k + 1, n, r => if (r + 2 ^ k) * (r + 2 ^ k) ≤ n then isqrtFrom k n (r + 2 ^ k) else isqrtFrom k n r

/-- ⌊√n⌋ for `n` below 2^128. -/
def isqrt (n : Nat) : Nat := isqrtFrom 64 n 0

/-- The bit length of `n`, up to `k` bits. -/
def bitLenTo : Nat → Nat → Nat
  | 0, _ => 0
  | k + 1, n => if n / 2 ^ k = 0 then bitLenTo k n else k + 1

/-! ### Byte strings (R11) -/

/-- The `n` low bytes of `v`, low byte first. -/
def leBytes : Nat → Nat → List Byte
  | 0, _ => []
  | n + 1, v => BitVec.ofNat 8 v :: leBytes n (v / 256)

/-- The number that a little-endian byte string spells. -/
def ofLe : List Byte → Nat
  | [] => 0
  | b :: t => b.toNat + 256 * ofLe t

/-- The number that a big-endian byte string spells. -/
def ofBe (l : List Byte) : Nat := l.foldl (fun a b => a * 256 + b.toNat) 0

/-- The `n` low bytes of `v`, high byte first. -/
def beBytes (n v : Nat) : List Byte := (leBytes n v).reverse

/-- The `n` bytes of `l` from offset `o`; bytes past the end read 0. -/
def slice (l : List Byte) (o n : Nat) : List Byte :=
  let t := (l.drop o).take n
  t ++ List.replicate (n - t.length) 0

/-- The little-endian number of `n` bytes at offset `o`. -/
def leAt (l : List Byte) (o n : Nat) : Nat := ofLe (slice l o n)

/-- The signed little-endian number of `n` bytes at offset `o`. -/
def leAtS (l : List Byte) (o n : Nat) : Int := signed (8 * n) (leAt l o n)

/-- Are all bytes zero? -/
def allZero (l : List Byte) : Bool := l.all (· == 0)

/-! ### CRC-32C (R67) -/

/-- Eight shift steps of the reflected polynomial 0x82F6_3B78. -/
def crcSteps : Nat → Nat → Nat
  | 0, c => c
  | k + 1, c => crcSteps k (if c % 2 = 1 then (c / 2) ^^^ 0x82F63B78 else c / 2)

/-- CRC-32C of a byte string: initial value and final inversion 0xFFFF_FFFF. -/
def crc32c (l : List Byte) : Nat :=
  (l.foldl (fun c b => crcSteps 8 (c ^^^ b.toNat)) 0xFFFFFFFF) ^^^ 0xFFFFFFFF

/-! ### Exact fractions

`Rat` does not evaluate in the kernel, so exact values are a numerator over a positive denominator, not reduced. -/

/-- The fraction `num / den`; `den` 0 is read as 1 by nothing: every operation here keeps it positive. -/
structure Frac where
  num : Int
  den : Nat
  deriving DecidableEq, Repr

/-- An integer as a fraction. -/
def fracOf (i : Int) : Frac := ⟨i, 1⟩

def fracAdd (a b : Frac) : Frac := ⟨a.num * b.den + b.num * a.den, a.den * b.den⟩
def fracSub (a b : Frac) : Frac := ⟨a.num * b.den - b.num * a.den, a.den * b.den⟩
def fracMul (a b : Frac) : Frac := ⟨a.num * b.num, a.den * b.den⟩
/-- `a / n` for an integer `n`, not 0. -/
def fracDivInt (a : Frac) (n : Int) : Frac := if n < 0 then ⟨-a.num, a.den * n.natAbs⟩ else ⟨a.num, a.den * n.natAbs⟩
/-- The quotient of fractions, for a divisor that is not 0. -/
def fracDiv (a b : Frac) : Frac := fracDivInt (fracMul a ⟨b.den, 1⟩) b.num
/-- ⌊a × 2^k⌋. -/
def fracFloor (k : Nat) (a : Frac) : Int := (a.num * ((2 ^ k : Nat) : Int)) / (a.den : Int)
/-- Comparison `a ≤ b`. -/
def fracLe (a b : Frac) : Bool := a.num * b.den ≤ b.num * a.den

end Sys2Proof.Machine
end

