-- ==== Sys2Proof/Machine/RegMap.lean ====
section
/-! DEFINITION. The register map of the spec's register tables (R33, R41, R63, R81, R91, R105, R127, R171, R204, R232,
R254, R282, R307, R311, R334, R351, R377, R403, R424, R448, R477, R495, R513): one address per register and one
`Fld` per named field, and the access description of every register word. RNG member 0 is described with the
others and is not in RINGMAP. A 64-bit register is two words, the low one first (R10). An index is taken modulo the number of
registers of its array, so that every name stays within its block; no operation uses a larger one. -/

namespace Sys2Proof.Machine

/-- R33: address of ERR_GUARD. -/
def ERR_GUARD : Nat := 0x1F000010
def ERR_GUARD_HELD : Fld := ⟨ERR_GUARD, 31, 1⟩
def ERR_GUARD_ISLAND_HI : Fld := ⟨ERR_GUARD, 4, 4⟩
def ERR_GUARD_CAUSE : Fld := ⟨ERR_GUARD, 0, 4⟩
/-- R34: address of ERR_GUARD_ISL. -/
def ERR_GUARD_ISL : Nat := 0x1F000014
def ERR_GUARD_ISL_ISL : Fld := ⟨ERR_GUARD_ISL, 0, 5⟩
/-- R34: address of ERR_GUARD_T. -/
def ERR_GUARD_T : Nat := 0x1F000018
/-- R41: address of PWR_ISL. -/
def PWR_ISL (i : Nat) : Nat := 0x1F100000 + 0x4 * (i % 31)
def PWR_ISL_LATE (i : Nat) : Fld := ⟨(PWR_ISL i), 16, 16⟩
def PWR_ISL_MARGIN (i : Nat) : Fld := ⟨(PWR_ISL i), 8, 8⟩
def PWR_ISL_CEIL (i : Nat) : Fld := ⟨(PWR_ISL i), 4, 2⟩
def PWR_ISL_STATE (i : Nat) : Fld := ⟨(PWR_ISL i), 0, 2⟩
/-- R513: address of PWR_TEMP. -/
def PWR_TEMP : Nat := 0x1F100100
def PWR_TEMP_PEAK : Fld := ⟨PWR_TEMP, 16, 16⟩
def PWR_TEMP_TEMP : Fld := ⟨PWR_TEMP, 0, 16⟩
/-- R513: address of PWR_VIN. -/
def PWR_VIN : Nat := 0x1F100104
def PWR_VIN_VIN : Fld := ⟨PWR_VIN, 0, 16⟩
/-- R513: address of PWR_VIO. -/
def PWR_VIO : Nat := 0x1F100108
def PWR_VIO_VIOB : Fld := ⟨PWR_VIO, 16, 16⟩
def PWR_VIO_VIOA : Fld := ⟨PWR_VIO, 0, 16⟩
/-- R513: address of PWR_MON. -/
def PWR_MON : Nat := 0x1F10010C
def PWR_MON_SUPOUT : Fld := ⟨PWR_MON, 31, 1⟩
def PWR_MON_TEMPOUT : Fld := ⟨PWR_MON, 30, 1⟩
def PWR_MON_REFOUT : Fld := ⟨PWR_MON, 29, 1⟩
def PWR_MON_REGOK : Fld := ⟨PWR_MON, 0, 8⟩
/-- R81: address of CFG_STATE. -/
def CFG_STATE : Nat := 0x10000000
def CFG_STATE_ELAPSED : Fld := ⟨CFG_STATE, 16, 12⟩
def CFG_STATE_STATE : Fld := ⟨CFG_STATE, 0, 4⟩
/-- R81: address of CFG_BOOT. -/
def CFG_BOOT : Nat := 0x10000004
def CFG_BOOT_CAUSE1 : Fld := ⟨CFG_BOOT, 20, 4⟩
def CFG_BOOT_CAUSE0 : Fld := ⟨CFG_BOOT, 16, 4⟩
def CFG_BOOT_KEYSLOT : Fld := ⟨CFG_BOOT, 8, 2⟩
def CFG_BOOT_BANK : Fld := ⟨CFG_BOOT, 0, 2⟩
/-- R91: address of CFG_RCP. -/
def CFG_RCP : Nat := 0x10000008
def CFG_RCP_FALLBACK : Fld := ⟨CFG_RCP, 20, 4⟩
def CFG_RCP_START : Fld := ⟨CFG_RCP, 16, 4⟩
def CFG_RCP_MODE : Fld := ⟨CFG_RCP, 12, 1⟩
def CFG_RCP_ACTIVE : Fld := ⟨CFG_RCP, 0, 4⟩
/-- R91: address of CFG_CHG. -/
def CFG_CHG : Nat := 0x1000000C
def CFG_CHG_COUNT : Fld := ⟨CFG_CHG, 16, 16⟩
def CFG_CHG_RESULT : Fld := ⟨CFG_CHG, 8, 4⟩
def CFG_CHG_BUSY : Fld := ⟨CFG_CHG, 7, 1⟩
def CFG_CHG_SLOT : Fld := ⟨CFG_CHG, 0, 4⟩
/-- R63: address of CFG_FLASH. -/
def CFG_FLASH : Nat := 0x10000010
def CFG_FLASH_DENSITY : Fld := ⟨CFG_FLASH, 24, 8⟩
def CFG_FLASH_CLK : Fld := ⟨CFG_FLASH, 16, 8⟩
def CFG_FLASH_MODE : Fld := ⟨CFG_FLASH, 8, 4⟩
def CFG_FLASH_SFDP : Fld := ⟨CFG_FLASH, 0, 1⟩
/-- R81: address of CFG_SEQ. -/
def CFG_SEQ : Nat := 0x10000014
/-- R91: address of CFG_RCP_CRC. -/
def CFG_RCP_CRC : Nat := 0x10000018
/-- R105: address of LSH_STAT. -/
def LSH_STAT : Nat := 0x11000000
def LSH_STAT_LOCKED : Fld := ⟨LSH_STAT, 31, 1⟩
def LSH_STAT_DIOCLAMP : Fld := ⟨LSH_STAT, 30, 1⟩
def LSH_STAT_DISCARD : Fld := ⟨LSH_STAT, 8, 8⟩
def LSH_STAT_REFUSED : Fld := ⟨LSH_STAT, 0, 8⟩
/-- R105: address of LSH_DOUT_B. -/
def LSH_DOUT_B : Nat := 0x11000100
/-- R105: address of LSH_DOUT_E. -/
def LSH_DOUT_E : Nat := 0x11000108
/-- R105: address of LSH_DHOLD_B. -/
def LSH_DHOLD_B : Nat := 0x11000110
/-- R105: address of LSH_DHOLD_E. -/
def LSH_DHOLD_E : Nat := 0x11000118
/-- R105: address of LSH_AUXDUTY. -/
def LSH_AUXDUTY (k : Nat) : Nat := 0x11000200 + 0x4 * (k % 8)
def LSH_AUXDUTY_BASE (k : Nat) : Fld := ⟨(LSH_AUXDUTY k), 16, 9⟩
def LSH_AUXDUTY_EFF (k : Nat) : Fld := ⟨(LSH_AUXDUTY k), 0, 9⟩
/-- R105: address of LSH_AUXDTF. -/
def LSH_AUXDTF (k : Nat) : Nat := 0x11000220 + 0x4 * (k % 8)
def LSH_AUXDTF_BASE (k : Nat) : Fld := ⟨(LSH_AUXDTF k), 16, 16⟩
def LSH_AUXDTF_EFF (k : Nat) : Fld := ⟨(LSH_AUXDTF k), 0, 16⟩
/-- R105: address of LSH_AUXMPW. -/
def LSH_AUXMPW (k : Nat) : Nat := 0x11000240 + 0x4 * (k % 8)
def LSH_AUXMPW_BASE (k : Nat) : Fld := ⟨(LSH_AUXMPW k), 16, 16⟩
def LSH_AUXMPW_EFF (k : Nat) : Fld := ⟨(LSH_AUXMPW k), 0, 16⟩
/-- R105: address of LSH_IPK. -/
def LSH_IPK (a : Nat) : Nat := 0x11001000 + 0x40 * (a % 32)
def LSH_IPK_BASE (a : Nat) : Fld := ⟨(LSH_IPK a), 16, 16⟩
def LSH_IPK_EFF (a : Nat) : Fld := ⟨(LSH_IPK a), 0, 16⟩
/-- R105: address of LSH_ICT. -/
def LSH_ICT (a : Nat) : Nat := 0x11001004 + 0x40 * (a % 32)
def LSH_ICT_BASE (a : Nat) : Fld := ⟨(LSH_ICT a), 16, 16⟩
def LSH_ICT_EFF (a : Nat) : Fld := ⟨(LSH_ICT a), 0, 16⟩
/-- R105: address of LSH_I2T. -/
def LSH_I2T (a : Nat) : Nat := 0x11001008 + 0x40 * (a % 32)
def LSH_I2T_TPK (a : Nat) : Fld := ⟨(LSH_I2T a), 16, 16⟩
def LSH_I2T_LEVEL (a : Nat) : Fld := ⟨(LSH_I2T a), 0, 8⟩
/-- R105: address of LSH_DUTY. -/
def LSH_DUTY (a : Nat) : Nat := 0x1100100C + 0x40 * (a % 32)
def LSH_DUTY_BASE (a : Nat) : Fld := ⟨(LSH_DUTY a), 16, 9⟩
def LSH_DUTY_EFF (a : Nat) : Fld := ⟨(LSH_DUTY a), 0, 9⟩
/-- R105: address of LSH_DTF. -/
def LSH_DTF (a : Nat) : Nat := 0x11001010 + 0x40 * (a % 32)
def LSH_DTF_BASE (a : Nat) : Fld := ⟨(LSH_DTF a), 16, 16⟩
def LSH_DTF_EFF (a : Nat) : Fld := ⟨(LSH_DTF a), 0, 16⟩
/-- R105: address of LSH_MPW. -/
def LSH_MPW (a : Nat) : Nat := 0x11001014 + 0x40 * (a % 32)
def LSH_MPW_BASE (a : Nat) : Fld := ⟨(LSH_MPW a), 16, 16⟩
def LSH_MPW_EFF (a : Nat) : Fld := ⟨(LSH_MPW a), 0, 16⟩
/-- R105: address of LSH_CLAMP. -/
def LSH_CLAMP (a : Nat) : Nat := 0x11001018 + 0x40 * (a % 32)
def LSH_CLAMP_ENV (a : Nat) : Fld := ⟨(LSH_CLAMP a), 7, 1⟩
def LSH_CLAMP_SPD (a : Nat) : Fld := ⟨(LSH_CLAMP a), 6, 1⟩
def LSH_CLAMP_I2T (a : Nat) : Fld := ⟨(LSH_CLAMP a), 5, 1⟩
def LSH_CLAMP_IPK (a : Nat) : Fld := ⟨(LSH_CLAMP a), 4, 1⟩
def LSH_CLAMP_DUTY (a : Nat) : Fld := ⟨(LSH_CLAMP a), 3, 1⟩
def LSH_CLAMP_MPW (a : Nat) : Fld := ⟨(LSH_CLAMP a), 2, 1⟩
def LSH_CLAMP_DTF (a : Nat) : Fld := ⟨(LSH_CLAMP a), 1, 1⟩
def LSH_CLAMP_OVR (a : Nat) : Fld := ⟨(LSH_CLAMP a), 0, 1⟩
/-- R105: address of LSH_ESC. -/
def LSH_ESC (a : Nat) : Nat := 0x1100101C + 0x40 * (a % 32)
def LSH_ESC_RUN (a : Nat) : Fld := ⟨(LSH_ESC a), 24, 8⟩
def LSH_ESC_COUNT (a : Nat) : Fld := ⟨(LSH_ESC a), 8, 8⟩
def LSH_ESC_MASK (a : Nat) : Fld := ⟨(LSH_ESC a), 0, 8⟩
/-- R105: address of LSH_CCNT. -/
def LSH_CCNT (a : Nat) : Nat := 0x11001020 + 0x40 * (a % 32)
/-- R105: address of LSH_SPD_B. -/
def LSH_SPD_B (n : Nat) : Nat := 0x11008000 + 0x40 * (n % 256)
/-- R105: address of LSH_SPD_E. -/
def LSH_SPD_E (n : Nat) : Nat := 0x11008004 + 0x40 * (n % 256)
/-- R105: address of LSH_PMIN_B. -/
def LSH_PMIN_B (n : Nat) : Nat := 0x11008008 + 0x40 * (n % 256)
/-- R105: address of LSH_PMAX_B. -/
def LSH_PMAX_B (n : Nat) : Nat := 0x11008010 + 0x40 * (n % 256)
/-- R105: address of LSH_PMIN_E. -/
def LSH_PMIN_E (n : Nat) : Nat := 0x11008018 + 0x40 * (n % 256)
/-- R105: address of LSH_PMAX_E. -/
def LSH_PMAX_E (n : Nat) : Nat := 0x11008020 + 0x40 * (n % 256)
/-- R105: address of LSH_PCFG. -/
def LSH_PCFG (n : Nat) : Nat := 0x11008028 + 0x40 * (n % 256)
def LSH_PCFG_SPDF (n : Nat) : Fld := ⟨(LSH_PCFG n), 7, 1⟩
def LSH_PCFG_ENVF (n : Nat) : Fld := ⟨(LSH_PCFG n), 6, 1⟩
def LSH_PCFG_ENV (n : Nat) : Fld := ⟨(LSH_PCFG n), 0, 1⟩
/-- R127: address of PRF_TBASE. -/
def PRF_TBASE : Nat := 0x1200F000
/-- R127: address of PRF_TCMT. -/
def PRF_TCMT : Nat := 0x1200F004
def PRF_TCMT_EXPGEN : Fld := ⟨PRF_TCMT, 16, 16⟩
def PRF_TCMT_ENTRY : Fld := ⟨PRF_TCMT, 0, 8⟩
/-- R127: address of PRF_TCST. -/
def PRF_TCST : Nat := 0x1200F008
def PRF_TCST_NEWGEN : Fld := ⟨PRF_TCST, 16, 16⟩
def PRF_TCST_RESULT : Fld := ⟨PRF_TCST, 12, 4⟩
def PRF_TCST_PEND : Fld := ⟨PRF_TCST, 8, 4⟩
def PRF_TCST_ENTRY : Fld := ⟨PRF_TCST, 0, 8⟩
/-- R127: address of PRF_AXST. -/
def PRF_AXST (n : Nat) : Nat := 0x12010000 + 0x10 * (n % 256)
def PRF_AXST_LASTOFF (n : Nat) : Fld := ⟨(PRF_AXST n), 26, 3⟩
def PRF_AXST_REF (n : Nat) : Fld := ⟨(PRF_AXST n), 25, 1⟩
def PRF_AXST_SDPEND (n : Nat) : Fld := ⟨(PRF_AXST n), 24, 1⟩
def PRF_AXST_FCNT (n : Nat) : Fld := ⟨(PRF_AXST n), 16, 8⟩
def PRF_AXST_CAUSE (n : Nat) : Fld := ⟨(PRF_AXST n), 8, 6⟩
def PRF_AXST_STOPTO (n : Nat) : Fld := ⟨(PRF_AXST n), 7, 1⟩
def PRF_AXST_PENDCMT (n : Nat) : Fld := ⟨(PRF_AXST n), 6, 1⟩
def PRF_AXST_REACT (n : Nat) : Fld := ⟨(PRF_AXST n), 4, 2⟩
def PRF_AXST_STATE (n : Nat) : Fld := ⟨(PRF_AXST n), 0, 3⟩
/-- R127: address of PRF_AXCTL. -/
def PRF_AXCTL (n : Nat) : Nat := 0x12010004 + 0x10 * (n % 256)
def PRF_AXCTL_REFUSE (n : Nat) : Fld := ⟨(PRF_AXCTL n), 8, 4⟩
def PRF_AXCTL_FRESET (n : Nat) : Fld := ⟨(PRF_AXCTL n), 2, 1⟩
def PRF_AXCTL_DISABLE (n : Nat) : Fld := ⟨(PRF_AXCTL n), 1, 1⟩
def PRF_AXCTL_ENABLE (n : Nat) : Fld := ⟨(PRF_AXCTL n), 0, 1⟩
/-- R127: address of PRF_AXGEN. -/
def PRF_AXGEN (n : Nat) : Nat := 0x12010008 + 0x10 * (n % 256)
def PRF_AXGEN_CGEN (n : Nat) : Fld := ⟨(PRF_AXGEN n), 16, 16⟩
def PRF_AXGEN_DGEN (n : Nat) : Fld := ⟨(PRF_AXGEN n), 0, 16⟩
/-- R171: address of PRF_CFG. -/
def PRF_CFG : Nat := 0x12000000
def PRF_CFG_NA : Fld := ⟨PRF_CFG, 16, 16⟩
def PRF_CFG_NG : Fld := ⟨PRF_CFG, 8, 5⟩
def PRF_CFG_PERIOD : Fld := ⟨PRF_CFG, 0, 2⟩
/-- R171: address of PRF_BOUND. -/
def PRF_BOUND : Nat := 0x12000004
/-- R171: address of PRF_TMAX. -/
def PRF_TMAX : Nat := 0x12000008
/-- R171: address of PRF_STAT. -/
def PRF_STAT : Nat := 0x1200000C
def PRF_STAT_LATE : Fld := ⟨PRF_STAT, 16, 16⟩
def PRF_STAT_EVLOST : Fld := ⟨PRF_STAT, 0, 16⟩
/-- R171: address of PRF_DISC. -/
def PRF_DISC : Nat := 0x12000010
/-- R171: address of PRF_VMPOS. -/
def PRF_VMPOS (k : Nat) : Nat := 0x12000100 + 0x40 * (k % 8)
/-- R171: address of PRF_VMVEL. -/
def PRF_VMVEL (k : Nat) : Nat := 0x12000108 + 0x40 * (k % 8)
/-- R171: address of PRF_VMMOD. -/
def PRF_VMMOD (k : Nat) : Nat := 0x12000110 + 0x40 * (k % 8)
/-- R171: address of PRF_VMVMAX. -/
def PRF_VMVMAX (k : Nat) : Nat := 0x12000118 + 0x40 * (k % 8)
/-- R171: address of PRF_VMAMAX. -/
def PRF_VMAMAX (k : Nat) : Nat := 0x12000120 + 0x40 * (k % 8)
/-- R171: address of PRF_VMJMAX. -/
def PRF_VMJMAX (k : Nat) : Nat := 0x12000128 + 0x40 * (k % 8)
/-- R171: address of PRF_VMST. -/
def PRF_VMST (k : Nat) : Nat := 0x12000130 + 0x40 * (k % 8)
def PRF_VMST_EN (k : Nat) : Fld := ⟨(PRF_VMST k), 31, 1⟩
def PRF_VMST_MOVING (k : Nat) : Fld := ⟨(PRF_VMST k), 0, 1⟩
/-- R171: address of PRF_GRPAX. -/
def PRF_GRPAX (g : Nat) : Nat := 0x12000400 + 0x40 * (g % 16)
/-- R171: address of PRF_GRPCFG. -/
def PRF_GRPCFG (g : Nat) : Nat := 0x12000408 + 0x40 * (g % 16)
def PRF_GRPCFG_NGEO (g : Nat) : Fld := ⟨(PRF_GRPCFG g), 4, 3⟩
def PRF_GRPCFG_NAX (g : Nat) : Fld := ⟨(PRF_GRPCFG g), 0, 4⟩
/-- R171: address of PRF_GRPOVR. -/
def PRF_GRPOVR (g : Nat) : Nat := 0x1200040C + 0x40 * (g % 16)
def PRF_GRPOVR_OVR (g : Nat) : Fld := ⟨(PRF_GRPOVR g), 0, 12⟩
/-- R171: address of PRF_GRPST. -/
def PRF_GRPST (g : Nat) : Nat := 0x12000410 + 0x40 * (g % 16)
def PRF_GRPST_WIN (g : Nat) : Fld := ⟨(PRF_GRPST g), 8, 7⟩
def PRF_GRPST_STATE (g : Nat) : Fld := ⟨(PRF_GRPST g), 0, 3⟩
/-- R171: address of PRF_GRPACC. -/
def PRF_GRPACC (g : Nat) : Nat := 0x12000414 + 0x40 * (g % 16)
/-- R171: address of PRF_GRPEXE. -/
def PRF_GRPEXE (g : Nat) : Nat := 0x12000418 + 0x40 * (g % 16)
/-- R171: address of PRF_GRPABT. -/
def PRF_GRPABT (g : Nat) : Nat := 0x1200041C + 0x40 * (g % 16)
/-- R171: address of PRF_GRPCUR. -/
def PRF_GRPCUR (g : Nat) : Nat := 0x12000420 + 0x40 * (g % 16)
/-- R171: address of PRF_CSWCFG. -/
def PRF_CSWCFG (t : Nat) : Nat := 0x12000800 + 0x20 * (t % 64)
def PRF_CSWCFG_SRC (t : Nat) : Fld := ⟨(PRF_CSWCFG t), 16, 16⟩
def PRF_CSWCFG_CH (t : Nat) : Fld := ⟨(PRF_CSWCFG t), 8, 8⟩
def PRF_CSWCFG_INV (t : Nat) : Fld := ⟨(PRF_CSWCFG t), 1, 1⟩
def PRF_CSWCFG_EN (t : Nat) : Fld := ⟨(PRF_CSWCFG t), 0, 1⟩
/-- R171: address of PRF_CSWLEAD. -/
def PRF_CSWLEAD (t : Nat) : Nat := 0x12000804 + 0x20 * (t % 64)
def PRF_CSWLEAD_ONLEAD (t : Nat) : Fld := ⟨(PRF_CSWLEAD t), 16, 16⟩
def PRF_CSWLEAD_OFFLEAD (t : Nat) : Fld := ⟨(PRF_CSWLEAD t), 0, 16⟩
/-- R171: address of PRF_CSWON. -/
def PRF_CSWON (t : Nat) : Nat := 0x12000808 + 0x20 * (t % 64)
/-- R171: address of PRF_CSWOFF. -/
def PRF_CSWOFF (t : Nat) : Nat := 0x12000810 + 0x20 * (t % 64)
/-- R171: address of PRF_CSWST. -/
def PRF_CSWST (t : Nat) : Nat := 0x12000818 + 0x20 * (t % 64)
def PRF_CSWST_OUT (t : Nat) : Fld := ⟨(PRF_CSWST t), 31, 1⟩
def PRF_CSWST_CNT (t : Nat) : Fld := ⟨(PRF_CSWST t), 0, 16⟩
/-- R171: address of PRF_MVST. -/
def PRF_MVST (n : Nat) : Nat := 0x12020000 + 0x20 * (n % 256)
def PRF_MVST_MODE (n : Nat) : Fld := ⟨(PRF_MVST n), 28, 4⟩
def PRF_MVST_GRP (n : Nat) : Fld := ⟨(PRF_MVST n), 24, 4⟩
def PRF_MVST_INGRP (n : Nat) : Fld := ⟨(PRF_MVST n), 23, 1⟩
def PRF_MVST_SUPER (n : Nat) : Fld := ⟨(PRF_MVST n), 22, 1⟩
def PRF_MVST_OVS (n : Nat) : Fld := ⟨(PRF_MVST n), 21, 1⟩
def PRF_MVST_LIMX (n : Nat) : Fld := ⟨(PRF_MVST n), 20, 1⟩
def PRF_MVST_CEIL (n : Nat) : Fld := ⟨(PRF_MVST n), 19, 1⟩
def PRF_MVST_ENGFB (n : Nat) : Fld := ⟨(PRF_MVST n), 18, 1⟩
def PRF_MVST_MASTER (n : Nat) : Fld := ⟨(PRF_MVST n), 0, 16⟩
/-- R171: address of PRF_MVTAG. -/
def PRF_MVTAG (n : Nat) : Nat := 0x12020004 + 0x20 * (n % 256)
/-- R171: address of PRF_OVS. -/
def PRF_OVS (n : Nat) : Nat := 0x12020008 + 0x20 * (n % 256)
/-- R171: address of PRF_SPOS. -/
def PRF_SPOS (n : Nat) : Nat := 0x12020010 + 0x20 * (n % 256)
/-- R171: address of PRF_SVEL. -/
def PRF_SVEL (n : Nat) : Nat := 0x12020018 + 0x20 * (n % 256)
/-- R204: address of ENG_STAT. -/
def ENG_STAT (k : Nat) : Nat := 0x13000000 + 0x100000 * (k % 8)
def ENG_STAT_BANK (k : Nat) : Fld := ⟨(ENG_STAT k), 31, 1⟩
def ENG_STAT_PLLLOSS (k : Nat) : Fld := ⟨(ENG_STAT k), 30, 1⟩
def ENG_STAT_NSLOT (k : Nat) : Fld := ⟨(ENG_STAT k), 24, 6⟩
def ENG_STAT_LATE (k : Nat) : Fld := ⟨(ENG_STAT k), 16, 8⟩
def ENG_STAT_DISC (k : Nat) : Fld := ⟨(ENG_STAT k), 8, 8⟩
def ENG_STAT_ENABLED (k : Nat) : Fld := ⟨(ENG_STAT k), 0, 4⟩
/-- R204: address of ENG_HYPER. -/
def ENG_HYPER (k : Nat) : Nat := 0x13000004 + 0x100000 * (k % 8)
/-- R204: address of ENG_BUSY. -/
def ENG_BUSY (k : Nat) : Nat := 0x13000008 + 0x100000 * (k % 8)
/-- R204: address of ENG_SLPER. -/
def ENG_SLPER (j : Nat) : Nat := 0x13000100 + 0x100000 * (j / 32 % 8) + 0x10 * (j % 32)
/-- R204: address of ENG_SLOFS. -/
def ENG_SLOFS (j : Nat) : Nat := 0x13000104 + 0x100000 * (j / 32 % 8) + 0x10 * (j % 32)
/-- R204: address of ENG_SLLEN. -/
def ENG_SLLEN (j : Nat) : Nat := 0x13000108 + 0x100000 * (j / 32 % 8) + 0x10 * (j % 32)
def ENG_SLLEN_ENTRY (j : Nat) : Fld := ⟨(ENG_SLLEN j), 16, 12⟩
def ENG_SLLEN_LEN (j : Nat) : Fld := ⟨(ENG_SLLEN j), 0, 16⟩
/-- R204: address of ENG_SLCFG. -/
def ENG_SLCFG (j : Nat) : Nat := 0x1300010C + 0x100000 * (j / 32 % 8) + 0x10 * (j % 32)
def ENG_SLCFG_VALID (j : Nat) : Fld := ⟨(ENG_SLCFG j), 31, 1⟩
def ENG_SLCFG_CTX (j : Nat) : Fld := ⟨(ENG_SLCFG j), 4, 2⟩
def ENG_SLCFG_SECT (j : Nat) : Fld := ⟨(ENG_SLCFG j), 0, 3⟩
/-- R204: address of ENG_CTX. -/
def ENG_CTX (a : Nat) : Nat := 0x13001000 + 0x100000 * (a / 4 % 8) + 0x100 * (a % 4)
def ENG_CTX_SCALE (a : Nat) : Fld := ⟨(ENG_CTX a), 24, 4⟩
def ENG_CTX_DIVPOS (a : Nat) : Fld := ⟨(ENG_CTX a), 20, 4⟩
def ENG_CTX_DIVVEL (a : Nat) : Fld := ⟨(ENG_CTX a), 16, 4⟩
def ENG_CTX_DIVCUR (a : Nat) : Fld := ⟨(ENG_CTX a), 12, 4⟩
def ENG_CTX_MODE (a : Nat) : Fld := ⟨(ENG_CTX a), 10, 2⟩
def ENG_CTX_WPH (a : Nat) : Fld := ⟨(ENG_CTX a), 0, 8⟩
/-- R204: address of ENG_TCTX. -/
def ENG_TCTX (a : Nat) : Nat := 0x13001004 + 0x100000 * (a / 4 % 8) + 0x100 * (a % 4)
/-- R204: address of ENG_CST. -/
def ENG_CST (a : Nat) : Nat := 0x13001008 + 0x100000 * (a / 4 % 8) + 0x100 * (a % 4)
def ENG_CST_WDOG (a : Nat) : Fld := ⟨(ENG_CST a), 31, 1⟩
def ENG_CST_LATE (a : Nat) : Fld := ⟨(ENG_CST a), 30, 1⟩
def ENG_CST_PREPOS (a : Nat) : Fld := ⟨(ENG_CST a), 22, 1⟩
def ENG_CST_PREVEL (a : Nat) : Fld := ⟨(ENG_CST a), 21, 1⟩
def ENG_CST_PRECUR (a : Nat) : Fld := ⟨(ENG_CST a), 20, 1⟩
def ENG_CST_RUN (a : Nat) : Fld := ⟨(ENG_CST a), 16, 2⟩
def ENG_CST_CGEN (a : Nat) : Fld := ⟨(ENG_CST a), 0, 16⟩
/-- R204: address of ENG_WD. -/
def ENG_WD (a : Nat) : Nat := 0x1300100C + 0x100000 * (a / 4 % 8) + 0x100 * (a % 4)
def ENG_WD_WDCNT (a : Nat) : Fld := ⟨(ENG_WD a), 16, 16⟩
def ENG_WD_DISC (a : Nat) : Fld := ⟨(ENG_WD a), 0, 16⟩
/-- R204: address of ENG_BPER. -/
def ENG_BPER (a : Nat) : Nat := 0x13001010 + 0x100000 * (a / 4 % 8) + 0x100 * (a % 4)
/-- R204: address of ENG_BAND. -/
def ENG_BAND (a : Nat) : Nat := 0x13001014 + 0x100000 * (a / 4 % 8) + 0x100 * (a % 4)
def ENG_BAND_HYST (a : Nat) : Fld := ⟨(ENG_BAND a), 16, 16⟩
def ENG_BAND_MINDW (a : Nat) : Fld := ⟨(ENG_BAND a), 12, 4⟩
def ENG_BAND_STW (a : Nat) : Fld := ⟨(ENG_BAND a), 4, 2⟩
def ENG_BAND_STV (a : Nat) : Fld := ⟨(ENG_BAND a), 2, 2⟩
def ENG_BAND_STU (a : Nat) : Fld := ⟨(ENG_BAND a), 0, 2⟩
/-- R204: address of ENG_BCNT. -/
def ENG_BCNT (a : Nat) : Nat := 0x13001018 + 0x100000 * (a / 4 % 8) + 0x100 * (a % 4)
def ENG_BCNT_SWITCH (a : Nat) : Fld := ⟨(ENG_BCNT a), 16, 16⟩
def ENG_BCNT_CUT (a : Nat) : Fld := ⟨(ENG_BCNT a), 0, 16⟩
/-- R232: address of ENG_FLG. -/
def ENG_FLG (a : Nat) : Nat := 0x1300101C + 0x100000 * (a / 4 % 8) + 0x100 * (a % 4)
def ENG_FLG_WPROT (a : Nat) : Fld := ⟨(ENG_FLG a), 31, 1⟩
def ENG_FLG_AVV (a : Nat) : Fld := ⟨(ENG_FLG a), 12, 4⟩
def ENG_FLG_AV (a : Nat) : Fld := ⟨(ENG_FLG a), 8, 4⟩
def ENG_FLG_SAT (a : Nat) : Fld := ⟨(ENG_FLG a), 4, 4⟩
def ENG_FLG_N (a : Nat) : Fld := ⟨(ENG_FLG a), 1, 1⟩
def ENG_FLG_Z (a : Nat) : Fld := ⟨(ENG_FLG a), 0, 1⟩
/-- R204: address of ENG_IREF. -/
def ENG_IREF (a : Nat) : Nat := 0x13001020 + 0x100000 * (a / 4 % 8) + 0x100 * (a % 4)
def ENG_IREF_IQ (a : Nat) : Fld := ⟨(ENG_IREF a), 16, 16⟩
def ENG_IREF_ID (a : Nat) : Fld := ⟨(ENG_IREF a), 0, 16⟩
/-- R204: address of ENG_VOUT. -/
def ENG_VOUT (a : Nat) : Nat := 0x13001024 + 0x100000 * (a / 4 % 8) + 0x100 * (a % 4)
def ENG_VOUT_VQ (a : Nat) : Fld := ⟨(ENG_VOUT a), 16, 16⟩
def ENG_VOUT_VD (a : Nat) : Fld := ⟨(ENG_VOUT a), 0, 16⟩
/-- R254: address of ENG_DST. -/
def ENG_DST (a : Nat) : Nat := 0x13001040 + 0x100000 * (a / 4 % 8) + 0x100 * (a % 4)
def ENG_DST_SPAN (a : Nat) : Fld := ⟨(ENG_DST a), 16, 16⟩
def ENG_DST_FRZ (a : Nat) : Fld := ⟨(ENG_DST a), 8, 8⟩
def ENG_DST_RAMP (a : Nat) : Fld := ⟨(ENG_DST a), 2, 1⟩
def ENG_DST_STATE (a : Nat) : Fld := ⟨(ENG_DST a), 0, 2⟩
/-- R254: address of ENG_DCTL. -/
def ENG_DCTL (a : Nat) : Nat := 0x13001044 + 0x100000 * (a / 4 % 8) + 0x100 * (a % 4)
def ENG_DCTL_CLEAR (a : Nat) : Fld := ⟨(ENG_DCTL a), 1, 1⟩
def ENG_DCTL_FREEZE (a : Nat) : Fld := ⟨(ENG_DCTL a), 0, 1⟩
/-- R254: address of ENG_DCNT. -/
def ENG_DCNT (a : Nat) : Nat := 0x13001048 + 0x100000 * (a / 4 % 8) + 0x100 * (a % 4)
def ENG_DCNT_SKIP (a : Nat) : Fld := ⟨(ENG_DCNT a), 16, 16⟩
def ENG_DCNT_UPD (a : Nat) : Fld := ⟨(ENG_DCNT a), 0, 16⟩
/-- R254: address of ENG_JEST. -/
def ENG_JEST (a : Nat) : Nat := 0x13001050 + 0x100000 * (a / 4 % 8) + 0x100 * (a % 4)
def ENG_JEST_JEST (a : Nat) : Fld := ⟨(ENG_JEST a), 16, 16⟩
def ENG_JEST_JOFS (a : Nat) : Fld := ⟨(ENG_JEST a), 0, 16⟩
/-- R254: address of ENG_JST. -/
def ENG_JST (a : Nat) : Nat := 0x13001054 + 0x100000 * (a / 4 % 8) + 0x100 * (a % 4)
def ENG_JST_ATMAX (a : Nat) : Fld := ⟨(ENG_JST a), 2, 1⟩
def ENG_JST_ATMIN (a : Nat) : Fld := ⟨(ENG_JST a), 1, 1⟩
def ENG_JST_LOW (a : Nat) : Fld := ⟨(ENG_JST a), 0, 1⟩
/-- R254: address of ENG_SST. -/
def ENG_SST (a : Nat) : Nat := 0x13001060 + 0x100000 * (a / 4 % 8) + 0x100 * (a % 4)
def ENG_SST_RUN (a : Nat) : Fld := ⟨(ENG_SST a), 24, 8⟩
def ENG_SST_SETTLE (a : Nat) : Fld := ⟨(ENG_SST a), 8, 9⟩
def ENG_SST_WARN (a : Nat) : Fld := ⟨(ENG_SST a), 7, 1⟩
def ENG_SST_AVW (a : Nat) : Fld := ⟨(ENG_SST a), 6, 1⟩
def ENG_SST_SUB (a : Nat) : Fld := ⟨(ENG_SST a), 4, 2⟩
def ENG_SST_STATE (a : Nat) : Fld := ⟨(ENG_SST a), 0, 2⟩
/-- R254: address of ENG_SRES. -/
def ENG_SRES (a : Nat) : Nat := 0x13001064 + 0x100000 * (a / 4 % 8) + 0x100 * (a % 4)
def ENG_SRES_PEAK (a : Nat) : Fld := ⟨(ENG_SRES a), 16, 16⟩
def ENG_SRES_RF (a : Nat) : Fld := ⟨(ENG_SRES a), 0, 16⟩
/-- R282: address of CSF_SDC. -/
def CSF_SDC (m : Nat) : Nat := 0x14000000 + 0x4 * (m % 12)
def CSF_SDC_EN (m : Nat) : Fld := ⟨(CSF_SDC m), 31, 1⟩
def CSF_SDC_TSD (m : Nat) : Fld := ⟨(CSF_SDC m), 0, 8⟩
/-- R282: address of CSF_VAL. -/
def CSF_VAL (c : Nat) : Nat := 0x14000100 + 0x4 * (c % 96)
def CSF_VAL_FAST (c : Nat) : Fld := ⟨(CSF_VAL c), 16, 16⟩
def CSF_VAL_PREC (c : Nat) : Fld := ⟨(CSF_VAL c), 0, 16⟩
/-- R282: address of CSF_CST. -/
def CSF_CST (c : Nat) : Nat := 0x14000300 + 0x4 * (c % 96)
def CSF_CST_STUCK (c : Nat) : Fld := ⟨(CSF_CST c), 31, 1⟩
def CSF_CST_OC (c : Nat) : Fld := ⟨(CSF_CST c), 30, 1⟩
def CSF_CST_SUM (c : Nat) : Fld := ⟨(CSF_CST c), 29, 1⟩
def CSF_CST_SAT (c : Nat) : Fld := ⟨(CSF_CST c), 28, 1⟩
def CSF_CST_ACT (c : Nat) : Fld := ⟨(CSF_CST c), 27, 1⟩
/-- R282: address of CSF_DLYF. -/
def CSF_DLYF (a : Nat) : Nat := 0x14000500 + 0x8 * (a % 32)
/-- R282: address of CSF_DLYP. -/
def CSF_DLYP (a : Nat) : Nat := 0x14000504 + 0x8 * (a % 32)
/-- R282: address of FBK_PST. -/
def FBK_PST (p : Nat) : Nat := 0x15000000 + 0x40 * (p % 34)
def FBK_PST_FAULT (p : Nat) : Fld := ⟨(FBK_PST p), 31, 1⟩
def FBK_PST_WARN (p : Nat) : Fld := ⟨(FBK_PST p), 30, 1⟩
def FBK_PST_VALID (p : Nat) : Fld := ⟨(FBK_PST p), 29, 1⟩
def FBK_PST_EXT (p : Nat) : Fld := ⟨(FBK_PST p), 28, 1⟩
def FBK_PST_LASTERR (p : Nat) : Fld := ⟨(FBK_PST p), 24, 4⟩
def FBK_PST_CONS (p : Nat) : Fld := ⟨(FBK_PST p), 16, 8⟩
def FBK_PST_TOTAL (p : Nat) : Fld := ⟨(FBK_PST p), 0, 16⟩
/-- R282: address of FBK_PPOS. -/
def FBK_PPOS (p : Nat) : Nat := 0x15000008 + 0x40 * (p % 34)
/-- R282: address of FBK_PRAW. -/
def FBK_PRAW (p : Nat) : Nat := 0x15000010 + 0x40 * (p % 34)
/-- R282: address of FBK_RTD. -/
def FBK_RTD (p : Nat) : Nat := 0x15000018 + 0x40 * (p % 34)
/-- R282: address of FBK_AREQ. -/
def FBK_AREQ (p : Nat) : Nat := 0x1500001C + 0x40 * (p % 34)
def FBK_AREQ_CODE (p : Nat) : Fld := ⟨(FBK_AREQ p), 28, 4⟩
def FBK_AREQ_ADDR (p : Nat) : Fld := ⟨(FBK_AREQ p), 16, 8⟩
def FBK_AREQ_DATA (p : Nat) : Fld := ⟨(FBK_AREQ p), 0, 16⟩
/-- R282: address of FBK_ARSP. -/
def FBK_ARSP (p : Nat) : Nat := 0x15000020 + 0x40 * (p % 34)
def FBK_ARSP_DONE (p : Nat) : Fld := ⟨(FBK_ARSP p), 31, 1⟩
def FBK_ARSP_ERR (p : Nat) : Fld := ⟨(FBK_ARSP p), 28, 1⟩
def FBK_ARSP_CODE (p : Nat) : Fld := ⟨(FBK_ARSP p), 24, 4⟩
def FBK_ARSP_STATUS (p : Nat) : Fld := ⟨(FBK_ARSP p), 16, 8⟩
def FBK_ARSP_DATA (p : Nat) : Fld := ⟨(FBK_ARSP p), 0, 16⟩
/-- R282: address of FBK_AID. -/
def FBK_AID (p : Nat) : Nat := 0x15000024 + 0x40 * (p % 34)
/-- R282: address of FBK_MPER. -/
def FBK_MPER : Nat := 0x15000900
/-- R282: address of FBK_MMOD. -/
def FBK_MMOD (k : Nat) : Nat := 0x15000908 + 0x8 * (k % 2)
/-- R282: address of FBK_PRCFG. -/
def FBK_PRCFG (i : Nat) : Nat := 0x15001000 + 0x40 * (i % 16)
def FBK_PRCFG_ARM (i : Nat) : Fld := ⟨(FBK_PRCFG i), 31, 1⟩
def FBK_PRCFG_CONT (i : Nat) : Fld := ⟨(FBK_PRCFG i), 30, 1⟩
def FBK_PRCFG_EDGE (i : Nat) : Fld := ⟨(FBK_PRCFG i), 28, 2⟩
def FBK_PRCFG_OWN (i : Nat) : Fld := ⟨(FBK_PRCFG i), 27, 1⟩
def FBK_PRCFG_SRC (i : Nat) : Fld := ⟨(FBK_PRCFG i), 16, 8⟩
def FBK_PRCFG_FLT (i : Nat) : Fld := ⟨(FBK_PRCFG i), 0, 8⟩
/-- R282: address of FBK_PRSEL. -/
def FBK_PRSEL (i : Nat) : Nat := 0x15001004 + 0x40 * (i % 16)
def FBK_PRSEL_LSEL (i : Nat) : Fld := ⟨(FBK_PRSEL i), 16, 16⟩
def FBK_PRSEL_WSEL (i : Nat) : Fld := ⟨(FBK_PRSEL i), 0, 16⟩
/-- R282: address of FBK_PRWS. -/
def FBK_PRWS (i : Nat) : Nat := 0x15001008 + 0x40 * (i % 16)
/-- R282: address of FBK_PRWE. -/
def FBK_PRWE (i : Nat) : Nat := 0x15001010 + 0x40 * (i % 16)
/-- R282: address of FBK_PRST. -/
def FBK_PRST (i : Nat) : Nat := 0x15001018 + 0x40 * (i % 16)
def FBK_PRST_OUTW (i : Nat) : Fld := ⟨(FBK_PRST i), 16, 16⟩
def FBK_PRST_OVR (i : Nat) : Fld := ⟨(FBK_PRST i), 8, 8⟩
def FBK_PRST_NOSRC (i : Nat) : Fld := ⟨(FBK_PRST i), 2, 6⟩
def FBK_PRST_EST (i : Nat) : Fld := ⟨(FBK_PRST i), 1, 1⟩
def FBK_PRST_DONE (i : Nat) : Fld := ⟨(FBK_PRST i), 0, 1⟩
/-- R282: address of FBK_PRT. -/
def FBK_PRT (i : Nat) : Nat := 0x1500101C + 0x40 * (i % 16)
/-- R282: address of FBK_PRPOS. -/
def FBK_PRPOS (i : Nat) : Nat := 0x15001020 + 0x40 * (i % 16)
/-- R282: address of FBK_PRCNT. -/
def FBK_PRCNT (i : Nat) : Nat := 0x15001028 + 0x40 * (i % 16)
def FBK_PRCNT_SEQ (i : Nat) : Fld := ⟨(FBK_PRCNT i), 16, 16⟩
def FBK_PRCNT_LOST (i : Nat) : Fld := ⟨(FBK_PRCNT i), 0, 16⟩
/-- R307: address of PWM_GST. -/
def PWM_GST (i : Nat) : Nat := 0x16000000 + 0x4 * (i % 9)
def PWM_GST_CLKLOSS (i : Nat) : Fld := ⟨(PWM_GST i), 31, 1⟩
def PWM_GST_HALT (i : Nat) : Fld := ⟨(PWM_GST i), 30, 1⟩
def PWM_GST_GEN (i : Nat) : Fld := ⟨(PWM_GST i), 29, 1⟩
def PWM_GST_LOSSCNT (i : Nat) : Fld := ⟨(PWM_GST i), 0, 8⟩
/-- R307: address of PWM_AX. -/
def PWM_AX (a : Nat) : Nat := 0x16001000 + 0x40 * (a % 32)
def PWM_AX_MODE (a : Nat) : Fld := ⟨(PWM_AX a), 30, 2⟩
def PWM_AX_TRIPMAX (a : Nat) : Fld := ⟨(PWM_AX a), 16, 8⟩
def PWM_AX_DT (a : Nat) : Fld := ⟨(PWM_AX a), 0, 16⟩
/-- R307: address of PWM_AXD. -/
def PWM_AXD (a : Nat) : Nat := 0x16001004 + 0x40 * (a % 32)
def PWM_AXD_DWELL (a : Nat) : Fld := ⟨(PWM_AXD a), 0, 16⟩
/-- R307: address of PWM_PER. -/
def PWM_PER (a : Nat) : Nat := 0x16001008 + 0x40 * (a % 32)
/-- R307: address of PWM_TIM. -/
def PWM_TIM (a : Nat) : Nat := 0x1600100C + 0x40 * (a % 32)
def PWM_TIM_DTF (a : Nat) : Fld := ⟨(PWM_TIM a), 16, 16⟩
def PWM_TIM_DWF (a : Nat) : Fld := ⟨(PWM_TIM a), 0, 16⟩
/-- R307: address of PWM_AXST. -/
def PWM_AXST (a : Nat) : Nat := 0x16001010 + 0x40 * (a % 32)
def PWM_AXST_EN (a : Nat) : Fld := ⟨(PWM_AXST a), 31, 1⟩
def PWM_AXST_TRIPIN (a : Nat) : Fld := ⟨(PWM_AXST a), 30, 1⟩
def PWM_AXST_GENOK (a : Nat) : Fld := ⟨(PWM_AXST a), 29, 1⟩
def PWM_AXST_FLT (a : Nat) : Fld := ⟨(PWM_AXST a), 28, 1⟩
def PWM_AXST_SAFE (a : Nat) : Fld := ⟨(PWM_AXST a), 24, 4⟩
def PWM_AXST_RUN (a : Nat) : Fld := ⟨(PWM_AXST a), 16, 8⟩
def PWM_AXST_PERNUM (a : Nat) : Fld := ⟨(PWM_AXST a), 0, 8⟩
/-- R307: address of PWM_STG. -/
def PWM_STG (a : Nat) : Nat := 0x16001014 + 0x40 * (a % 32)
def PWM_STG_COMMIT (a : Nat) : Fld := ⟨(PWM_STG a), 31, 1⟩
def PWM_STG_CMPV (a : Nat) : Fld := ⟨(PWM_STG a), 24, 3⟩
def PWM_STG_SPER (a : Nat) : Fld := ⟨(PWM_STG a), 8, 8⟩
/-- R307: address of PWM_TCNT. -/
def PWM_TCNT (a : Nat) : Nat := 0x16001018 + 0x40 * (a % 32)
def PWM_TCNT_CUTS (a : Nat) : Fld := ⟨(PWM_TCNT a), 16, 16⟩
def PWM_TCNT_TRIPS (a : Nat) : Fld := ⟨(PWM_TCNT a), 0, 16⟩
/-- R307: address of PWM_TLAST. -/
def PWM_TLAST (a : Nat) : Nat := 0x1600101C + 0x40 * (a % 32)
/-- R307: address of PWM_CMP. -/
def PWM_CMP (n : Nat) : Nat := 0x16004000 + 0x10 * (n % 96)
def PWM_CMP_COARSE (n : Nat) : Fld := ⟨(PWM_CMP n), 3, 29⟩
def PWM_CMP_FINE (n : Nat) : Fld := ⟨(PWM_CMP n), 0, 3⟩
/-- R307: address of PWM_SCMP. -/
def PWM_SCMP (n : Nat) : Nat := 0x16004004 + 0x10 * (n % 96)
def PWM_SCMP_COARSE (n : Nat) : Fld := ⟨(PWM_SCMP n), 3, 29⟩
def PWM_SCMP_FINE (n : Nat) : Fld := ⟨(PWM_SCMP n), 0, 3⟩
/-- R307: address of PWM_CST. -/
def PWM_CST (n : Nat) : Nat := 0x16004008 + 0x10 * (n % 96)
def PWM_CST_GH (n : Nat) : Fld := ⟨(PWM_CST n), 1, 1⟩
def PWM_CST_GL (n : Nat) : Fld := ⟨(PWM_CST n), 0, 1⟩
/-- R307: address of PWM_AUXCFG. -/
def PWM_AUXCFG (k : Nat) : Nat := 0x16006000 + 0x20 * (k % 8)
def PWM_AUXCFG_EN (k : Nat) : Fld := ⟨(PWM_AUXCFG k), 31, 1⟩
def PWM_AUXCFG_SDC (k : Nat) : Fld := ⟨(PWM_AUXCFG k), 24, 4⟩
def PWM_AUXCFG_SRC (k : Nat) : Fld := ⟨(PWM_AUXCFG k), 16, 7⟩
def PWM_AUXCFG_DUTY (k : Nat) : Fld := ⟨(PWM_AUXCFG k), 0, 9⟩
/-- R307: address of PWM_AUXTH. -/
def PWM_AUXTH (k : Nat) : Nat := 0x16006004 + 0x20 * (k % 8)
def PWM_AUXTH_ONTH (k : Nat) : Fld := ⟨(PWM_AUXTH k), 16, 16⟩
def PWM_AUXTH_OFFTH (k : Nat) : Fld := ⟨(PWM_AUXTH k), 0, 16⟩
/-- R307: address of PWM_AUXPER. -/
def PWM_AUXPER (k : Nat) : Nat := 0x16006008 + 0x20 * (k % 8)
/-- R307: address of PWM_AUXDT. -/
def PWM_AUXDT (k : Nat) : Nat := 0x1600600C + 0x20 * (k % 8)
def PWM_AUXDT_DT (k : Nat) : Fld := ⟨(PWM_AUXDT k), 16, 16⟩
def PWM_AUXDT_DWELL (k : Nat) : Fld := ⟨(PWM_AUXDT k), 0, 16⟩
/-- R307: address of PWM_AUXST. -/
def PWM_AUXST (k : Nat) : Nat := 0x16006010 + 0x20 * (k % 8)
def PWM_AUXST_RUN (k : Nat) : Fld := ⟨(PWM_AUXST k), 31, 1⟩
def PWM_AUXST_ON (k : Nat) : Fld := ⟨(PWM_AUXST k), 30, 1⟩
def PWM_AUXST_OFF (k : Nat) : Fld := ⟨(PWM_AUXST k), 29, 1⟩
def PWM_AUXST_STUCK (k : Nat) : Fld := ⟨(PWM_AUXST k), 28, 1⟩
def PWM_AUXST_VAL (k : Nat) : Fld := ⟨(PWM_AUXST k), 0, 16⟩
/-- R307: address of PWM_AUXCMP. -/
def PWM_AUXCMP (k : Nat) : Nat := 0x16006014 + 0x20 * (k % 8)
/-- R307: address of PWM_AUXCNT. -/
def PWM_AUXCNT (k : Nat) : Nat := 0x16006018 + 0x20 * (k % 8)
def PWM_AUXCNT_ONCNT (k : Nat) : Fld := ⟨(PWM_AUXCNT k), 16, 16⟩
def PWM_AUXCNT_ONPER (k : Nat) : Fld := ⟨(PWM_AUXCNT k), 0, 16⟩
/-- R307: address of PWM_AUXOFF. -/
def PWM_AUXOFF : Nat := 0x16007000
def PWM_AUXOFF_OFF : Fld := ⟨PWM_AUXOFF, 0, 8⟩
/-- R334: address of KNL_TICK. -/
def KNL_TICK : Nat := 0x17000000
/-- R334: address of KNL_HEAD. -/
def KNL_HEAD : Nat := 0x17000008
/-- R334: address of KNL_CNTA. -/
def KNL_CNTA : Nat := 0x17000010
def KNL_CNTA_READY : Fld := ⟨KNL_CNTA, 20, 10⟩
def KNL_CNTA_DELAYED : Fld := ⟨KNL_CNTA, 10, 10⟩
def KNL_CNTA_FREE : Fld := ⟨KNL_CNTA, 0, 10⟩
/-- R334: address of KNL_CNTB. -/
def KNL_CNTB : Nat := 0x17000014
def KNL_CNTB_CPEND : Fld := ⟨KNL_CNTB, 20, 10⟩
def KNL_CNTB_RUNNING : Fld := ⟨KNL_CNTB, 10, 10⟩
def KNL_CNTB_SLOTTED : Fld := ⟨KNL_CNTB, 0, 10⟩
/-- R334: address of KNL_STAT. -/
def KNL_STAT : Nat := 0x17000018
def KNL_STAT_EVUNB : Fld := ⟨KNL_STAT, 24, 8⟩
def KNL_STAT_PUSHFULL : Fld := ⟨KNL_STAT, 16, 8⟩
def KNL_STAT_RUNOVR : Fld := ⟨KNL_STAT, 8, 8⟩
def KNL_STAT_ORPHAN : Fld := ⟨KNL_STAT, 0, 8⟩
/-- R334: address of KNL_SUBMIT. -/
def KNL_SUBMIT (c : Nat) : Nat := 0x17000100 + 0x20 * (c % 4)
def KNL_SUBMIT_TOKEN (c : Nat) : Fld := ⟨(KNL_SUBMIT c), 0, 9⟩
/-- R334: address of KNL_CANCEL. -/
def KNL_CANCEL (c : Nat) : Nat := 0x17000104 + 0x20 * (c % 4)
def KNL_CANCEL_TOKEN (c : Nat) : Fld := ⟨(KNL_CANCEL c), 0, 9⟩
/-- R334: address of KNL_RES. -/
def KNL_RES (c : Nat) : Nat := 0x17000108 + 0x20 * (c % 4)
def KNL_RES_OP (c : Nat) : Fld := ⟨(KNL_RES c), 31, 1⟩
def KNL_RES_RESULT (c : Nat) : Fld := ⟨(KNL_RES c), 16, 4⟩
def KNL_RES_TOKEN (c : Nat) : Fld := ⟨(KNL_RES c), 0, 9⟩
/-- R334: address of KNL_TAKE. -/
def KNL_TAKE (c : Nat) : Nat := 0x1700010C + 0x20 * (c % 4)
def KNL_TAKE_VALID (c : Nat) : Fld := ⟨(KNL_TAKE c), 31, 1⟩
def KNL_TAKE_WHY (c : Nat) : Fld := ⟨(KNL_TAKE c), 28, 3⟩
def KNL_TAKE_TOKEN (c : Nat) : Fld := ⟨(KNL_TAKE c), 16, 9⟩
def KNL_TAKE_ENTRY (c : Nat) : Fld := ⟨(KNL_TAKE c), 0, 16⟩
/-- R334: address of KNL_DONE. -/
def KNL_DONE (c : Nat) : Nat := 0x17000110 + 0x20 * (c % 4)
def KNL_DONE_TOKEN (c : Nat) : Fld := ⟨(KNL_DONE c), 0, 9⟩
/-- R334: address of KNL_CORE. -/
def KNL_CORE (c : Nat) : Nat := 0x17000114 + 0x20 * (c % 4)
def KNL_CORE_RUNV (c : Nat) : Fld := ⟨(KNL_CORE c), 31, 1⟩
def KNL_CORE_RUN (c : Nat) : Fld := ⟨(KNL_CORE c), 16, 9⟩
def KNL_CORE_SLOTV (c : Nat) : Fld := ⟨(KNL_CORE c), 15, 1⟩
def KNL_CORE_SLOT (c : Nat) : Fld := ⟨(KNL_CORE c), 0, 9⟩
/-- R334: address of KNL_XCORE. -/
def KNL_XCORE (x : Nat) : Nat := 0x17000200 + 0x4 * (x % 2)
def KNL_XCORE_RUNV (x : Nat) : Fld := ⟨(KNL_XCORE x), 31, 1⟩
def KNL_XCORE_RUN (x : Nat) : Fld := ⟨(KNL_XCORE x), 16, 9⟩
def KNL_XCORE_SLOTV (x : Nat) : Fld := ⟨(KNL_XCORE x), 15, 1⟩
def KNL_XCORE_SLOT (x : Nat) : Fld := ⟨(KNL_XCORE x), 0, 9⟩
/-- R334: address of KNL_EVB. -/
def KNL_EVB (e : Nat) : Nat := 0x17000400 + 0x4 * (e % 256)
def KNL_EVB_BOUND (e : Nat) : Fld := ⟨(KNL_EVB e), 31, 1⟩
def KNL_EVB_TOKEN (e : Nat) : Fld := ⟨(KNL_EVB e), 16, 9⟩
def KNL_EVB_FIRES (e : Nat) : Fld := ⟨(KNL_EVB e), 0, 16⟩
/-- R334: address of KNL_TST. -/
def KNL_TST (t : Nat) : Nat := 0x17004000 + 0x8 * (t % 512)
def KNL_TST_LATE (t : Nat) : Fld := ⟨(KNL_TST t), 24, 8⟩
def KNL_TST_EVCNT (t : Nat) : Fld := ⟨(KNL_TST t), 16, 8⟩
def KNL_TST_OVR (t : Nat) : Fld := ⟨(KNL_TST t), 15, 1⟩
def KNL_TST_FAIL (t : Nat) : Fld := ⟨(KNL_TST t), 14, 1⟩
def KNL_TST_PEND (t : Nat) : Fld := ⟨(KNL_TST t), 13, 1⟩
def KNL_TST_EXEC (t : Nat) : Fld := ⟨(KNL_TST t), 10, 3⟩
def KNL_TST_WHY (t : Nat) : Fld := ⟨(KNL_TST t), 4, 3⟩
def KNL_TST_STATE (t : Nat) : Fld := ⟨(KNL_TST t), 0, 3⟩
/-- R334: address of KNL_TSTAMP. -/
def KNL_TSTAMP (t : Nat) : Nat := 0x17004004 + 0x8 * (t % 512)
/-- R311: address of KNL_D0. -/
def KNL_D0 (t : Nat) : Nat := 0x17010000 + 0x20 * (t % 512)
def KNL_D0_EXEC (t : Nat) : Fld := ⟨(KNL_D0 t), 24, 6⟩
def KNL_D0_PRIO (t : Nat) : Fld := ⟨(KNL_D0 t), 16, 8⟩
def KNL_D0_ENTRY (t : Nat) : Fld := ⟨(KNL_D0 t), 0, 16⟩
/-- R311: address of KNL_D1. -/
def KNL_D1 (t : Nat) : Nat := 0x17010004 + 0x20 * (t % 512)
def KNL_D1_RUNMAX (t : Nat) : Fld := ⟨(KNL_D1 t), 16, 16⟩
def KNL_D1_EVENT (t : Nat) : Fld := ⟨(KNL_D1 t), 8, 8⟩
def KNL_D1_FLAGS (t : Nat) : Fld := ⟨(KNL_D1 t), 0, 4⟩
/-- R311: address of KNL_DWAKE. -/
def KNL_DWAKE (t : Nat) : Nat := 0x17010008 + 0x20 * (t % 512)
/-- R311: address of KNL_DPERIOD. -/
def KNL_DPERIOD (t : Nat) : Nat := 0x1701000C + 0x20 * (t % 512)
/-- R311: address of KNL_DARG0L. -/
def KNL_DARG0L (t : Nat) : Nat := 0x17010010 + 0x20 * (t % 512)
/-- R311: address of KNL_DARG0H. -/
def KNL_DARG0H (t : Nat) : Nat := 0x17010014 + 0x20 * (t % 512)
/-- R311: address of KNL_DARG1. -/
def KNL_DARG1 (t : Nat) : Nat := 0x17010018 + 0x20 * (t % 512)
/-- R311: address of KNL_DARG2. -/
def KNL_DARG2 (t : Nat) : Nat := 0x1701001C + 0x20 * (t % 512)
/-- R351: address of QUE_BST. -/
def QUE_BST : Nat := 0x18000000
def QUE_BST_FREE : Fld := ⟨QUE_BST, 16, 8⟩
def QUE_BST_OUT : Fld := ⟨QUE_BST, 8, 8⟩
def QUE_BST_PEAKOUT : Fld := ⟨QUE_BST, 0, 8⟩
/-- R351: address of QUE_SBASE. -/
def QUE_SBASE : Nat := 0x18000004
/-- R351: address of QUE_PBUF. -/
def QUE_PBUF (c : Nat) (i : Nat) : Nat := 0x18000100 + 0x100 * (c % 4) + 0x8 * (i % 16)
/-- R351: address of QUE_PGO. -/
def QUE_PGO (c : Nat) : Nat := 0x18000180 + 0x100 * (c % 4)
def QUE_PGO_WAIT (c : Nat) : Fld := ⟨(QUE_PGO c), 31, 1⟩
def QUE_PGO_CANCEL (c : Nat) : Fld := ⟨(QUE_PGO c), 30, 1⟩
def QUE_PGO_N (c : Nat) : Fld := ⟨(QUE_PGO c), 8, 4⟩
def QUE_PGO_Q (c : Nat) : Fld := ⟨(QUE_PGO c), 0, 6⟩
/-- R351: address of QUE_PRES. -/
def QUE_PRES (c : Nat) : Nat := 0x18000184 + 0x100 * (c % 4)
def QUE_PRES_BUSY (c : Nat) : Fld := ⟨(QUE_PRES c), 31, 1⟩
def QUE_PRES_RESULT (c : Nat) : Fld := ⟨(QUE_PRES c), 16, 4⟩
def QUE_PRES_Q (c : Nat) : Fld := ⟨(QUE_PRES c), 0, 6⟩
/-- R351: address of QUE_CFG. -/
def QUE_CFG (q : Nat) : Nat := 0x18001000 + 0x40 * (q % 64)
def QUE_CFG_CAPL (q : Nat) : Fld := ⟨(QUE_CFG q), 28, 4⟩
def QUE_CFG_PROD (q : Nat) : Fld := ⟨(QUE_CFG q), 24, 4⟩
def QUE_CFG_CONS (q : Nat) : Fld := ⟨(QUE_CFG q), 20, 4⟩
def QUE_CFG_BROKEN (q : Nat) : Fld := ⟨(QUE_CFG q), 15, 1⟩
def QUE_CFG_EVSEL (q : Nat) : Fld := ⟨(QUE_CFG q), 0, 3⟩
/-- R351: address of QUE_SOFS. -/
def QUE_SOFS (q : Nat) : Nat := 0x18001004 + 0x40 * (q % 64)
/-- R351: address of QUE_WMK. -/
def QUE_WMK (q : Nat) : Nat := 0x18001008 + 0x40 * (q % 64)
def QUE_WMK_HIGH (q : Nat) : Fld := ⟨(QUE_WMK q), 16, 16⟩
def QUE_WMK_LOW (q : Nat) : Fld := ⟨(QUE_WMK q), 0, 16⟩
/-- R351: address of QUE_ST. -/
def QUE_ST (q : Nat) : Nat := 0x1800100C + 0x40 * (q % 64)
def QUE_ST_PEAK (q : Nat) : Fld := ⟨(QUE_ST q), 16, 16⟩
def QUE_ST_DEPTH (q : Nat) : Fld := ⟨(QUE_ST q), 0, 16⟩
/-- R351: address of QUE_PUSHC. -/
def QUE_PUSHC (q : Nat) : Nat := 0x18001010 + 0x40 * (q % 64)
/-- R351: address of QUE_POPC. -/
def QUE_POPC (q : Nat) : Nat := 0x18001014 + 0x40 * (q % 64)
/-- R351: address of QUE_WEV. -/
def QUE_WEV (q : Nat) : Nat := 0x18001018 + 0x40 * (q % 64)
def QUE_WEV_UP (q : Nat) : Fld := ⟨(QUE_WEV q), 31, 1⟩
def QUE_WEV_DN (q : Nat) : Fld := ⟨(QUE_WEV q), 30, 1⟩
def QUE_WEV_LAST (q : Nat) : Fld := ⟨(QUE_WEV q), 29, 1⟩
def QUE_WEV_UPCNT (q : Nat) : Fld := ⟨(QUE_WEV q), 8, 8⟩
def QUE_WEV_DNCNT (q : Nat) : Fld := ⟨(QUE_WEV q), 0, 8⟩
/-- R351: address of QUE_ERR. -/
def QUE_ERR (q : Nat) : Nat := 0x1800101C + 0x40 * (q % 64)
def QUE_ERR_REFUSED (q : Nat) : Fld := ⟨(QUE_ERR q), 16, 16⟩
def QUE_ERR_EMPTY (q : Nat) : Fld := ⟨(QUE_ERR q), 0, 16⟩
/-- R351: address of QUE_POP. -/
def QUE_POP (q : Nat) : Nat := 0x18001020 + 0x40 * (q % 64)
/-- R351: address of QUE_FLUSH. -/
def QUE_FLUSH (q : Nat) : Nat := 0x18001028 + 0x40 * (q % 64)
def QUE_FLUSH_GO (q : Nat) : Fld := ⟨(QUE_FLUSH q), 0, 1⟩
/-- R377: address of ACQ_STAT. -/
def ACQ_STAT : Nat := 0x19000000
def ACQ_STAT_QLOST : Fld := ⟨ACQ_STAT, 16, 16⟩
def ACQ_STAT_RFREE : Fld := ⟨ACQ_STAT, 0, 8⟩
/-- R377: address of ACQ_POOLA. -/
def ACQ_POOLA : Nat := 0x19000004
def ACQ_POOLA_ARMED : Fld := ⟨ACQ_POOLA, 16, 12⟩
def ACQ_POOLA_FREE : Fld := ⟨ACQ_POOLA, 0, 12⟩
/-- R377: address of ACQ_POOLB. -/
def ACQ_POOLB : Nat := 0x19000008
def ACQ_POOLB_HELD : Fld := ⟨ACQ_POOLB, 0, 12⟩
/-- R377: address of ACQ_REL. -/
def ACQ_REL : Nat := 0x1900000C
def ACQ_REL_RID : Fld := ⟨ACQ_REL, 0, 7⟩
/-- R377: address of ACQ_RQ. -/
def ACQ_RQ : Nat := 0x19000010
def ACQ_RQ_EN : Fld := ⟨ACQ_RQ, 31, 1⟩
def ACQ_RQ_Q : Fld := ⟨ACQ_RQ, 0, 6⟩
/-- R377: address of ACQ_WSUM. -/
def ACQ_WSUM : Nat := 0x19000014
/-- R377: address of ACQ_WCFG. -/
def ACQ_WCFG : Nat := 0x19000020
def ACQ_WCFG_CLKOUT : Fld := ⟨ACQ_WCFG, 4, 1⟩
def ACQ_WCFG_WDRV : Fld := ⟨ACQ_WCFG, 0, 4⟩
/-- R377: address of ACQ_WST. -/
def ACQ_WST : Nat := 0x19000024
def ACQ_WST_CLKOK : Fld := ⟨ACQ_WST, 31, 1⟩
def ACQ_WST_WOVR : Fld := ⟨ACQ_WST, 8, 8⟩
def ACQ_WST_WBAD : Fld := ⟨ACQ_WST, 0, 8⟩
/-- R377: address of ACQ_WDLY. -/
def ACQ_WDLY (n : Nat) : Nat := 0x19000030 + 0x4 * (n % 4)
def ACQ_WDLY_DLY (n : Nat) : Fld := ⟨(ACQ_WDLY n), 0, 16⟩
/-- R377: address of ACQ_GCFG. -/
def ACQ_GCFG (g : Nat) : Nat := 0x19000100 + 0x20 * (g % 8)
def ACQ_GCFG_REPEAT (g : Nat) : Fld := ⟨(ACQ_GCFG g), 31, 1⟩
def ACQ_GCFG_AUTO (g : Nat) : Fld := ⟨(ACQ_GCFG g), 30, 1⟩
def ACQ_GCFG_ASTART (g : Nat) : Fld := ⟨(ACQ_GCFG g), 29, 1⟩
def ACQ_GCFG_SRC (g : Nat) : Fld := ⟨(ACQ_GCFG g), 24, 4⟩
def ACQ_GCFG_TSTR (g : Nat) : Fld := ⟨(ACQ_GCFG g), 22, 2⟩
def ACQ_GCFG_TCH (g : Nat) : Fld := ⟨(ACQ_GCFG g), 16, 6⟩
def ACQ_GCFG_WOUTEN (g : Nat) : Fld := ⟨(ACQ_GCFG g), 15, 1⟩
def ACQ_GCFG_WOUT (g : Nat) : Fld := ⟨(ACQ_GCFG g), 12, 2⟩
def ACQ_GCFG_SRCIDX (g : Nat) : Fld := ⟨(ACQ_GCFG g), 0, 8⟩
/-- R377: address of ACQ_GLVL. -/
def ACQ_GLVL (g : Nat) : Nat := 0x19000104 + 0x20 * (g % 8)
/-- R377: address of ACQ_GHYS. -/
def ACQ_GHYS (g : Nat) : Nat := 0x19000108 + 0x20 * (g % 8)
/-- R377: address of ACQ_GAUTO. -/
def ACQ_GAUTO (g : Nat) : Nat := 0x1900010C + 0x20 * (g % 8)
/-- R377: address of ACQ_GCTL. -/
def ACQ_GCTL (g : Nat) : Nat := 0x19000110 + 0x20 * (g % 8)
def ACQ_GCTL_FORCE (g : Nat) : Fld := ⟨(ACQ_GCTL g), 2, 1⟩
def ACQ_GCTL_DISARM (g : Nat) : Fld := ⟨(ACQ_GCTL g), 1, 1⟩
def ACQ_GCTL_ARM (g : Nat) : Fld := ⟨(ACQ_GCTL g), 0, 1⟩
/-- R377: address of ACQ_GST. -/
def ACQ_GST (g : Nat) : Nat := 0x19000114 + 0x20 * (g % 8)
def ACQ_GST_RAIGN (g : Nat) : Fld := ⟨(ACQ_GST g), 16, 16⟩
def ACQ_GST_RESULT (g : Nat) : Fld := ⟨(ACQ_GST g), 8, 4⟩
def ACQ_GST_STATE (g : Nat) : Fld := ⟨(ACQ_GST g), 0, 3⟩
/-- R377: address of ACQ_GCNT. -/
def ACQ_GCNT (g : Nat) : Nat := 0x19000118 + 0x20 * (g % 8)
def ACQ_GCNT_TRIG (g : Nat) : Fld := ⟨(ACQ_GCNT g), 16, 16⟩
def ACQ_GCNT_MISS (g : Nat) : Fld := ⟨(ACQ_GCNT g), 0, 16⟩
/-- R377: address of ACQ_GLAST. -/
def ACQ_GLAST (g : Nat) : Nat := 0x1900011C + 0x20 * (g % 8)
/-- R377: address of ACQ_CSIG. -/
def ACQ_CSIG (c : Nat) : Nat := 0x19001000 + 0x40 * (c % 64)
def ACQ_CSIG_CLASS (c : Nat) : Fld := ⟨(ACQ_CSIG c), 24, 8⟩
def ACQ_CSIG_INDEX (c : Nat) : Fld := ⟨(ACQ_CSIG c), 0, 24⟩
/-- R377: address of ACQ_CTS. -/
def ACQ_CTS (c : Nat) : Nat := 0x19001004 + 0x40 * (c % 64)
/-- R377: address of ACQ_CCFG. -/
def ACQ_CCFG (c : Nat) : Nat := 0x19001008 + 0x40 * (c % 64)
def ACQ_CCFG_EN (c : Nat) : Fld := ⟨(ACQ_CCFG c), 31, 1⟩
def ACQ_CCFG_GRP (c : Nat) : Fld := ⟨(ACQ_CCFG c), 28, 3⟩
def ACQ_CCFG_STR (c : Nat) : Fld := ⟨(ACQ_CCFG c), 24, 4⟩
def ACQ_CCFG_NSLOT (c : Nat) : Fld := ⟨(ACQ_CCFG c), 0, 11⟩
/-- R377: address of ACQ_CPRE. -/
def ACQ_CPRE (c : Nat) : Nat := 0x1900100C + 0x40 * (c % 64)
/-- R377: address of ACQ_CPOST. -/
def ACQ_CPOST (c : Nat) : Nat := 0x19001010 + 0x40 * (c % 64)
/-- R377: address of ACQ_CWS. -/
def ACQ_CWS (c : Nat) : Nat := 0x19001014 + 0x40 * (c % 64)
def ACQ_CWS_WEXP (c : Nat) : Fld := ⟨(ACQ_CWS c), 0, 4⟩
/-- R377: address of ACQ_CST. -/
def ACQ_CST (c : Nat) : Nat := 0x19001018 + 0x40 * (c % 64)
def ACQ_CST_PCLAMP (c : Nat) : Fld := ⟨(ACQ_CST c), 31, 1⟩
def ACQ_CST_PRECUT (c : Nat) : Fld := ⟨(ACQ_CST c), 30, 1⟩
def ACQ_CST_RID (c : Nat) : Fld := ⟨(ACQ_CST c), 16, 7⟩
def ACQ_CST_STATE (c : Nat) : Fld := ⟨(ACQ_CST c), 0, 2⟩
/-- R377: address of ACQ_CHIST. -/
def ACQ_CHIST (c : Nat) : Nat := 0x1900101C + 0x40 * (c % 64)
/-- R377: address of ACQ_CDEP. -/
def ACQ_CDEP (c : Nat) : Nat := 0x19001020 + 0x40 * (c % 64)
/-- R377: address of ACQ_RD. -/
def ACQ_RD (r : Nat) (w : Nat) : Nat := 0x19004000 + 0x40 * (r % 128) + 0x4 * (w % 16)
/-- R377: address of ACQ_SLOT. -/
def ACQ_SLOT (s : Nat) : Nat := 0x19008000 + 0x4 * (s % 2048)
def ACQ_SLOT_KIND (s : Nat) : Fld := ⟨(ACQ_SLOT s), 30, 2⟩
def ACQ_SLOT_OWNER (s : Nat) : Fld := ⟨(ACQ_SLOT s), 16, 7⟩
def ACQ_SLOT_NEXT (s : Nat) : Fld := ⟨(ACQ_SLOT s), 0, 11⟩
/-- R403: address of RNG_CFG. -/
def RNG_CFG : Nat := 0x1B000000
def RNG_CFG_ROLE : Fld := ⟨RNG_CFG, 30, 2⟩
def RNG_CFG_SPEED : Fld := ⟨RNG_CFG, 29, 1⟩
def RNG_CFG_TOPO : Fld := ⟨RNG_CFG, 28, 1⟩
def RNG_CFG_NFR : Fld := ⟨RNG_CFG, 24, 3⟩
def RNG_CFG_LOSTMAX : Fld := ⟨RNG_CFG, 16, 4⟩
def RNG_CFG_MISSMAX : Fld := ⟨RNG_CFG, 12, 4⟩
def RNG_CFG_ADDR : Fld := ⟨RNG_CFG, 0, 8⟩
/-- R403: address of RNG_CYC. -/
def RNG_CYC : Nat := 0x1B000004
/-- R403: address of RNG_SOFS. -/
def RNG_SOFS : Nat := 0x1B000008
/-- R403: address of RNG_ETYPE. -/
def RNG_ETYPE : Nat := 0x1B00000C
def RNG_ETYPE_ETYPE : Fld := ⟨RNG_ETYPE, 0, 16⟩
/-- R403: address of RNG_MAC. -/
def RNG_MAC : Nat := 0x1B000010
/-- R403: address of RNG_IDENT. -/
def RNG_IDENT : Nat := 0x1B000018
/-- R403: address of RNG_ST. -/
def RNG_ST : Nat := 0x1B00001C
def RNG_ST_PA : Fld := ⟨RNG_ST, 31, 1⟩
def RNG_ST_PB : Fld := ⟨RNG_ST, 30, 1⟩
def RNG_ST_BYP : Fld := ⟨RNG_ST, 29, 1⟩
def RNG_ST_READY : Fld := ⟨RNG_ST, 28, 1⟩
def RNG_ST_CRUN : Fld := ⟨RNG_ST, 24, 3⟩
def RNG_ST_BREAKS : Fld := ⟨RNG_ST, 16, 8⟩
def RNG_ST_HITS : Fld := ⟨RNG_ST, 8, 8⟩
def RNG_ST_UNK : Fld := ⟨RNG_ST, 2, 6⟩
def RNG_ST_STATE : Fld := ⟨RNG_ST, 0, 2⟩
/-- R403: address of RNG_CYCNT. -/
def RNG_CYCNT : Nat := 0x1B000020
/-- R403: address of RNG_ERR. -/
def RNG_ERR : Nat := 0x1B000024
def RNG_ERR_FCS : Fld := ⟨RNG_ERR, 16, 16⟩
def RNG_ERR_FOREIGN : Fld := ⟨RNG_ERR, 8, 8⟩
def RNG_ERR_NOBUF : Fld := ⟨RNG_ERR, 0, 8⟩
/-- R403: address of RNG_BUFA. -/
def RNG_BUFA : Nat := 0x1B000028
def RNG_BUFA_RECV : Fld := ⟨RNG_BUFA, 8, 8⟩
def RNG_BUFA_FREE : Fld := ⟨RNG_BUFA, 0, 8⟩
/-- R403: address of RNG_BUFB. -/
def RNG_BUFB : Nat := 0x1B00002C
def RNG_BUFB_TXW : Fld := ⟨RNG_BUFB, 8, 8⟩
def RNG_BUFB_FWD : Fld := ⟨RNG_BUFB, 0, 8⟩
/-- R403: address of RNG_RTT. -/
def RNG_RTT : Nat := 0x1B000030
/-- R403: address of RNG_FWD. -/
def RNG_FWD : Nat := 0x1B000034
/-- R403: address of RNG_CTL. -/
def RNG_CTL : Nat := 0x1B000038
def RNG_CTL_LEAVE : Fld := ⟨RNG_CTL, 0, 1⟩
/-- R403: address of RNG_MSUB. -/
def RNG_MSUB (s : Nat) : Nat := 0x1B000040 + 0x4 * (s % 16)
def RNG_MSUB_AX (s : Nat) : Fld := ⟨(RNG_MSUB s), 0, 8⟩
/-- R403: address of RNG_SVQ. -/
def RNG_SVQ : Nat := 0x1B000080
def RNG_SVQ_LOST : Fld := ⟨RNG_SVQ, 16, 16⟩
def RNG_SVQ_FREE : Fld := ⟨RNG_SVQ, 8, 6⟩
def RNG_SVQ_Q : Fld := ⟨RNG_SVQ, 0, 6⟩
/-- R403: address of RNG_SVBUF. -/
def RNG_SVBUF : Nat := 0x1B000084
/-- R403: address of RNG_SVREL. -/
def RNG_SVREL : Nat := 0x1B000088
def RNG_SVREL_BUF : Fld := ⟨RNG_SVREL, 0, 5⟩
/-- R403: address of RNG_MST. -/
def RNG_MST (m : Nat) : Nat := 0x1B001000 + 0x20 * (m % 256)
def RNG_MST_STATE (m : Nat) : Fld := ⟨(RNG_MST m), 28, 4⟩
def RNG_MST_QR (m : Nat) : Fld := ⟨(RNG_MST m), 24, 4⟩
def RNG_MST_POS (m : Nat) : Fld := ⟨(RNG_MST m), 16, 8⟩
def RNG_MST_PORT (m : Nat) : Fld := ⟨(RNG_MST m), 15, 1⟩
def RNG_MST_MISS (m : Nat) : Fld := ⟨(RNG_MST m), 8, 4⟩
def RNG_MST_SVTO (m : Nat) : Fld := ⟨(RNG_MST m), 0, 8⟩
/-- R403: address of RNG_MID. -/
def RNG_MID (m : Nat) : Nat := 0x1B001004 + 0x20 * (m % 256)
/-- R403: address of RNG_MBC. -/
def RNG_MBC (m : Nat) : Nat := 0x1B001008 + 0x20 * (m % 256)
/-- R403: address of RNG_MPC. -/
def RNG_MPC (m : Nat) : Nat := 0x1B00100C + 0x20 * (m % 256)
/-- R403: address of RNG_MEXP. -/
def RNG_MEXP (m : Nat) : Nat := 0x1B001010 + 0x20 * (m % 256)
/-- R403: address of RNG_MMISS. -/
def RNG_MMISS (m : Nat) : Nat := 0x1B001014 + 0x20 * (m % 256)
/-- R403: address of RNG_MCTL. -/
def RNG_MCTL (m : Nat) : Nat := 0x1B001018 + 0x20 * (m % 256)
def RNG_MCTL_REPARAM (m : Nat) : Fld := ⟨(RNG_MCTL m), 0, 1⟩
/-- R424: address of TIM_CFG. -/
def TIM_CFG : Nat := 0x1C000000
def TIM_CFG_SRC : Fld := ⟨TIM_CFG, 30, 2⟩
def TIM_CFG_DM : Fld := ⟨TIM_CFG, 29, 1⟩
def TIM_CFG_KI : Fld := ⟨TIM_CFG, 20, 4⟩
def TIM_CFG_KP : Fld := ⟨TIM_CFG, 16, 4⟩
def TIM_CFG_HOLDT : Fld := ⟨TIM_CFG, 8, 8⟩
def TIM_CFG_OUTMAX : Fld := ⟨TIM_CFG, 0, 4⟩
/-- R424: address of TIM_ST. -/
def TIM_ST : Nat := 0x1C000004
def TIM_ST_REFCNT : Fld := ⟨TIM_ST, 24, 8⟩
def TIM_ST_STEPS : Fld := ⟨TIM_ST, 16, 8⟩
def TIM_ST_OUTRUN : Fld := ⟨TIM_ST, 8, 8⟩
def TIM_ST_PERMIT : Fld := ⟨TIM_ST, 3, 1⟩
def TIM_ST_STATE : Fld := ⟨TIM_ST, 0, 3⟩
/-- R424: address of TIM_CTL. -/
def TIM_CTL : Nat := 0x1C000008
def TIM_CTL_PERMIT : Fld := ⟨TIM_CTL, 0, 1⟩
/-- R424: address of TIM_JMP. -/
def TIM_JMP : Nat := 0x1C00000C
/-- R424: address of TIM_NOWNS. -/
def TIM_NOWNS : Nat := 0x1C000010
def TIM_NOWNS_NS : Fld := ⟨TIM_NOWNS, 0, 30⟩
/-- R424: address of TIM_NOWS. -/
def TIM_NOWS : Nat := 0x1C000018
/-- R424: address of TIM_T32. -/
def TIM_T32 : Nat := 0x1C000020
/-- R424: address of TIM_RATE. -/
def TIM_RATE : Nat := 0x1C000024
/-- R424: address of TIM_OFS. -/
def TIM_OFS : Nat := 0x1C000028
/-- R424: address of TIM_STEP. -/
def TIM_STEP : Nat := 0x1C000030
/-- R424: address of TIM_STEPT. -/
def TIM_STEPT : Nat := 0x1C000038
/-- R424: address of TIM_LDLY. -/
def TIM_LDLY (p : Nat) : Nat := 0x1C000040 + 0x4 * (p % 2)
/-- R424: address of TIM_PTP. -/
def TIM_PTP : Nat := 0x1C000050
def TIM_PTP_SEL : Fld := ⟨TIM_PTP, 31, 1⟩
def TIM_PTP_LOGDREQ : Fld := ⟨TIM_PTP, 8, 4⟩
def TIM_PTP_DOMAIN : Fld := ⟨TIM_PTP, 0, 8⟩
/-- R424: address of TIM_GMID. -/
def TIM_GMID : Nat := 0x1C000058
/-- R424: address of TIM_UTC. -/
def TIM_UTC : Nat := 0x1C000060
def TIM_UTC_VALID : Fld := ⟨TIM_UTC, 31, 1⟩
def TIM_UTC_OFS : Fld := ⟨TIM_UTC, 0, 16⟩
/-- R424: address of TIM_MPD. -/
def TIM_MPD : Nat := 0x1C000064
/-- R448: address of DIO_STAT. -/
def DIO_STAT : Nat := 0x1D000000
def DIO_STAT_EVLOST : Fld := ⟨DIO_STAT, 16, 16⟩
/-- R448: address of DIO_CFG. -/
def DIO_CFG : Nat := 0x1D000004
def DIO_CFG_EVEN : Fld := ⟨DIO_CFG, 31, 1⟩
def DIO_CFG_EVQ : Fld := ⟨DIO_CFG, 0, 6⟩
/-- R448: address of DIO_TBASE. -/
def DIO_TBASE : Nat := 0x1D000008
/-- R448: address of DIO_IN. -/
def DIO_IN : Nat := 0x1D000010
/-- R448: address of DIO_VALID. -/
def DIO_VALID : Nat := 0x1D000018
/-- R448: address of DIO_OUT. -/
def DIO_OUT : Nat := 0x1D000020
/-- R448: address of DIO_SET. -/
def DIO_SET : Nat := 0x1D000028
/-- R448: address of DIO_CLR. -/
def DIO_CLR : Nat := 0x1D000030
/-- R448: address of DIO_ACT. -/
def DIO_ACT : Nat := 0x1D000038
/-- R448: address of DIO_GCFG. -/
def DIO_GCFG (g : Nat) : Nat := 0x1D000100 + 0x10 * (g % 8)
def DIO_GCFG_HBT (g : Nat) : Fld := ⟨(DIO_GCFG g), 0, 8⟩
/-- R448: address of DIO_GST. -/
def DIO_GST (g : Nat) : Nat := 0x1D000104 + 0x10 * (g % 8)
def DIO_GST_SUPPLY (g : Nat) : Fld := ⟨(DIO_GST g), 30, 2⟩
def DIO_GST_GOVL (g : Nat) : Fld := ⟨(DIO_GST g), 29, 1⟩
def DIO_GST_LOWW (g : Nat) : Fld := ⟨(DIO_GST g), 28, 1⟩
def DIO_GST_MISSW (g : Nat) : Fld := ⟨(DIO_GST g), 27, 1⟩
def DIO_GST_ALIVE (g : Nat) : Fld := ⟨(DIO_GST g), 8, 8⟩
def DIO_GST_TOUT (g : Nat) : Fld := ⟨(DIO_GST g), 0, 8⟩
/-- R448: address of DIO_GMEAS. -/
def DIO_GMEAS (g : Nat) : Nat := 0x1D000108 + 0x10 * (g % 8)
def DIO_GMEAS_VLP (g : Nat) : Fld := ⟨(DIO_GMEAS g), 16, 16⟩
def DIO_GMEAS_IG (g : Nat) : Fld := ⟨(DIO_GMEAS g), 0, 16⟩
/-- R448: address of DIO_GCNT. -/
def DIO_GCNT (g : Nat) : Nat := 0x1D00010C + 0x10 * (g % 8)
def DIO_GCNT_LOWCNT (g : Nat) : Fld := ⟨(DIO_GCNT g), 24, 8⟩
def DIO_GCNT_MISSCNT (g : Nat) : Fld := ⟨(DIO_GCNT g), 16, 8⟩
def DIO_GCNT_TOCNT (g : Nat) : Fld := ⟨(DIO_GCNT g), 8, 8⟩
def DIO_GCNT_GOVLCNT (g : Nat) : Fld := ⟨(DIO_GCNT g), 0, 8⟩
/-- R448: address of DIO_CCFG. -/
def DIO_CCFG (c : Nat) : Nat := 0x1D001000 + 0x10 * (c % 64)
def DIO_CCFG_MODE (c : Nat) : Fld := ⟨(DIO_CCFG c), 24, 2⟩
def DIO_CCFG_ITYPE (c : Nat) : Fld := ⟨(DIO_CCFG c), 20, 2⟩
def DIO_CCFG_FILT (c : Nat) : Fld := ⟨(DIO_CCFG c), 16, 3⟩
def DIO_CCFG_RBT (c : Nat) : Fld := ⟨(DIO_CCFG c), 8, 8⟩
def DIO_CCFG_FLAGS (c : Nat) : Fld := ⟨(DIO_CCFG c), 0, 6⟩
/-- R448: address of DIO_CST. -/
def DIO_CST (c : Nat) : Nat := 0x1D001004 + 0x10 * (c % 64)
def DIO_CST_INVALID (c : Nat) : Fld := ⟨(DIO_CST c), 31, 1⟩
def DIO_CST_COUPLER (c : Nat) : Fld := ⟨(DIO_CST c), 30, 1⟩
def DIO_CST_TIMEOUT (c : Nat) : Fld := ⟨(DIO_CST c), 29, 1⟩
def DIO_CST_NOPERM (c : Nat) : Fld := ⟨(DIO_CST c), 28, 1⟩
def DIO_CST_OWNED (c : Nat) : Fld := ⟨(DIO_CST c), 27, 1⟩
def DIO_CST_LIMIT (c : Nat) : Fld := ⟨(DIO_CST c), 26, 1⟩
def DIO_CST_THERM (c : Nat) : Fld := ⟨(DIO_CST c), 25, 1⟩
def DIO_CST_BACKFED (c : Nat) : Fld := ⟨(DIO_CST c), 24, 1⟩
def DIO_CST_OLOW (c : Nat) : Fld := ⟨(DIO_CST c), 23, 1⟩
def DIO_CST_HOLDEFF (c : Nat) : Fld := ⟨(DIO_CST c), 22, 1⟩
def DIO_CST_LAND (c : Nat) : Fld := ⟨(DIO_CST c), 2, 1⟩
def DIO_CST_ACT (c : Nat) : Fld := ⟨(DIO_CST c), 1, 1⟩
def DIO_CST_LEVEL (c : Nat) : Fld := ⟨(DIO_CST c), 0, 1⟩
/-- R448: address of DIO_CCNT. -/
def DIO_CCNT (c : Nat) : Nat := 0x1D001008 + 0x10 * (c % 64)
def DIO_CCNT_RETRY (c : Nat) : Fld := ⟨(DIO_CCNT c), 24, 8⟩
def DIO_CCNT_LATE (c : Nat) : Fld := ⟨(DIO_CCNT c), 16, 8⟩
def DIO_CCNT_SEQ (c : Nat) : Fld := ⟨(DIO_CCNT c), 0, 16⟩
/-- R477: address of SAF_ST. -/
def SAF_ST : Nat := 0x1E000000
def SAF_ST_ACCEPTED : Fld := ⟨SAF_ST, 31, 1⟩
def SAF_ST_FAULT : Fld := ⟨SAF_ST, 30, 1⟩
def SAF_ST_FCAUSE : Fld := ⟨SAF_ST, 26, 4⟩
def SAF_ST_LOGFULL : Fld := ⟨SAF_ST, 25, 1⟩
def SAF_ST_PWLOCK : Fld := ⟨SAF_ST, 24, 1⟩
/-- R477: address of SAF_SCRC. -/
def SAF_SCRC : Nat := 0x1E000004
/-- R477: address of SAF_ACRC. -/
def SAF_ACRC : Nat := 0x1E000008
/-- R477: address of SAF_RST. -/
def SAF_RST : Nat := 0x1E00000C
def SAF_RST_STUCK : Fld := ⟨SAF_RST, 31, 1⟩
def SAF_RST_ACC : Fld := ⟨SAF_RST, 16, 8⟩
def SAF_RST_IGN : Fld := ⟨SAF_RST, 8, 8⟩
def SAF_RST_DIS : Fld := ⟨SAF_RST, 0, 8⟩
/-- R477: address of SAF_LOG. -/
def SAF_LOG : Nat := 0x1E000010
def SAF_LOG_FULL : Fld := ⟨SAF_LOG, 31, 1⟩
def SAF_LOG_USED : Fld := ⟨SAF_LOG, 0, 13⟩
/-- R477: address of SAF_LSEQ. -/
def SAF_LSEQ : Nat := 0x1E000014
/-- R477: address of SAF_PW. -/
def SAF_PW : Nat := 0x1E000018
def SAF_PW_FAIL : Fld := ⟨SAF_PW, 0, 8⟩
/-- R477: address of SAF_SINC. -/
def SAF_SINC : Nat := 0x1E000020
def SAF_SINC_SIB : Fld := ⟨SAF_SINC, 16, 16⟩
def SAF_SINC_SIA : Fld := ⟨SAF_SINC, 0, 16⟩
/-- R477: address of SAF_SINK. -/
def SAF_SINK : Nat := 0x1E000024
def SAF_SINK_SIB : Fld := ⟨SAF_SINK, 16, 16⟩
def SAF_SINK_SIA : Fld := ⟨SAF_SINK, 0, 16⟩
/-- R477: address of SAF_PAIR. -/
def SAF_PAIR (i : Nat) : Nat := 0x1E000100 + 0x4 * (i % 16)
def SAF_PAIR_DCNT (i : Nat) : Fld := ⟨(SAF_PAIR i), 16, 8⟩
def SAF_PAIR_STATE (i : Nat) : Fld := ⟨(SAF_PAIR i), 0, 3⟩
/-- R477: address of SAF_GRP. -/
def SAF_GRP (g : Nat) : Nat := 0x1E000200 + 0x4 * (g % 8)
def SAF_GRP_GENAC (g : Nat) : Fld := ⟨(SAF_GRP g), 31, 1⟩
def SAF_GRP_GENBC (g : Nat) : Fld := ⟨(SAF_GRP g), 30, 1⟩
def SAF_GRP_GENAR (g : Nat) : Fld := ⟨(SAF_GRP g), 29, 1⟩
def SAF_GRP_GENBR (g : Nat) : Fld := ⟨(SAF_GRP g), 28, 1⟩
def SAF_GRP_TESTDUE (g : Nat) : Fld := ⟨(SAF_GRP g), 27, 1⟩
def SAF_GRP_RBFLT (g : Nat) : Fld := ⟨(SAF_GRP g), 26, 1⟩
def SAF_GRP_STOCNT (g : Nat) : Fld := ⟨(SAF_GRP g), 8, 8⟩
def SAF_GRP_HOLDFN (g : Nat) : Fld := ⟨(SAF_GRP g), 0, 6⟩
/-- R477: address of SAF_FN. -/
def SAF_FN (f : Nat) : Nat := 0x1E000300 + 0x4 * (f % 32)
def SAF_FN_STATE (f : Nat) : Fld := ⟨(SAF_FN f), 28, 4⟩
def SAF_FN_KSTATE (f : Nat) : Fld := ⟨(SAF_FN f), 24, 4⟩
def SAF_FN_KIND (f : Nat) : Fld := ⟨(SAF_FN f), 16, 3⟩
def SAF_FN_TMR (f : Nat) : Fld := ⟨(SAF_FN f), 0, 16⟩
/-- R477: address of SAF_SO. -/
def SAF_SO (k : Nat) : Nat := 0x1E000400 + 0x4 * (k % 8)
def SAF_SO_SOPC (k : Nat) : Fld := ⟨(SAF_SO k), 31, 1⟩
def SAF_SO_SOMC (k : Nat) : Fld := ⟨(SAF_SO k), 30, 1⟩
def SAF_SO_SOPR (k : Nat) : Fld := ⟨(SAF_SO k), 29, 1⟩
def SAF_SO_SOMR (k : Nat) : Fld := ⟨(SAF_SO k), 28, 1⟩
def SAF_SO_FLT (k : Nat) : Fld := ⟨(SAF_SO k), 27, 1⟩
def SAF_SO_FCODE (k : Nat) : Fld := ⟨(SAF_SO k), 24, 3⟩
/-- R477: address of SAF_AXV. -/
def SAF_AXV (a : Nat) : Nat := 0x1E000500 + 0x8 * (a % 32)
/-- R477: address of SAF_AX. -/
def SAF_AX (a : Nat) : Nat := 0x1E000504 + 0x8 * (a % 32)
def SAF_AX_XFLT (a : Nat) : Fld := ⟨(SAF_AX a), 31, 1⟩
def SAF_AX_DIFF (a : Nat) : Fld := ⟨(SAF_AX a), 0, 31⟩
/-- R477: address of SAF_CONN. -/
def SAF_CONN (n : Nat) : Nat := 0x1E001000 + 0x10 * (n % 64)
def SAF_CONN_STATE (n : Nat) : Fld := ⟨(SAF_CONN n), 28, 4⟩
def SAF_CONN_RESTARTS (n : Nat) : Fld := ⟨(SAF_CONN n), 16, 8⟩
def SAF_CONN_CRCERR (n : Nat) : Fld := ⟨(SAF_CONN n), 8, 8⟩
def SAF_CONN_STALE (n : Nat) : Fld := ⟨(SAF_CONN n), 0, 8⟩
/-- R477: address of SAF_CSEQ. -/
def SAF_CSEQ (n : Nat) : Nat := 0x1E001004 + 0x10 * (n % 64)
def SAF_CSEQ_TXSEQ (n : Nat) : Fld := ⟨(SAF_CSEQ n), 16, 16⟩
def SAF_CSEQ_RXSEQ (n : Nat) : Fld := ⟨(SAF_CSEQ n), 0, 16⟩
/-- R495: address of ERR_LOGST. -/
def ERR_LOGST : Nat := 0x1F000000
def ERR_LOGST_NPERS : Fld := ⟨ERR_LOGST, 24, 7⟩
def ERR_LOGST_HELD : Fld := ⟨ERR_LOGST, 0, 11⟩
/-- R495: address of ERR_NEXT. -/
def ERR_NEXT : Nat := 0x1F000004
/-- R495: address of ERR_OLDEST. -/
def ERR_OLDEST : Nat := 0x1F000008
/-- R495: address of ERR_BOOT. -/
def ERR_BOOT : Nat := 0x1F00000C
/-- R495: address of ERR_PRES. -/
def ERR_PRES (i : Nat) : Nat := 0x1F000100 + 0x10 * (i % 31)
/-- R495: address of ERR_LOGD. -/
def ERR_LOGD (i : Nat) : Nat := 0x1F000104 + 0x10 * (i % 31)
/-- R495: address of ERR_LTOT. -/
def ERR_LTOT (i : Nat) : Nat := 0x1F000108 + 0x10 * (i % 31)
/-- R495: address of ERR_LOST. -/
def ERR_LOST (i : Nat) : Nat := 0x1F00010C + 0x10 * (i % 31)
def ERR_LOST_LOSTP (i : Nat) : Fld := ⟨(ERR_LOST i), 31, 1⟩
def ERR_LOST_BUF (i : Nat) : Fld := ⟨(ERR_LOST i), 16, 3⟩
def ERR_LOST_LOST (i : Nat) : Fld := ⟨(ERR_LOST i), 0, 16⟩
/-- R495: address of SVC_IP. -/
def SVC_IP : Nat := 0x1F200000
/-- R495: address of SVC_MASK. -/
def SVC_MASK : Nat := 0x1F200004
/-- R495: address of SVC_GW. -/
def SVC_GW : Nat := 0x1F200008
/-- R495: address of SVC_PORT. -/
def SVC_PORT : Nat := 0x1F20000C
def SVC_PORT_PORT : Fld := ⟨SVC_PORT, 0, 16⟩
/-- R495: address of SVC_STAT. -/
def SVC_STAT : Nat := 0x1F200010
def SVC_STAT_BAD : Fld := ⟨SVC_STAT, 16, 16⟩
def SVC_STAT_OVR : Fld := ⟨SVC_STAT, 0, 16⟩
/-- R495: address of SVC_DBG. -/
def SVC_DBG : Nat := 0x1F200014
def SVC_DBG_EN : Fld := ⟨SVC_DBG, 31, 1⟩
def SVC_DBG_ENG : Fld := ⟨SVC_DBG, 8, 8⟩
def SVC_DBG_CORE : Fld := ⟨SVC_DBG, 0, 4⟩

/-- The register words of block Cfg. -/
def regsCfg : List RegDesc := [
  ⟨0x10000000, 0x4, 1, 0x4, 1, 0x0, 0x0, 0x0, 0x0, 0x0, .word⟩,
  ⟨0x10000004, 0x4, 1, 0x4, 1, 0x0, 0x0, 0x0, 0x0, 0x3, .word⟩,
  ⟨0x10000008, 0x4, 1, 0x4, 1, 0x0, 0x0, 0xFF1000, 0x0, 0xFF000F, .word⟩,
  ⟨0x1000000C, 0x4, 1, 0x4, 1, 0xF, 0x0, 0x0, 0x0, 0xF, .word⟩,
  ⟨0x10000010, 0x4, 1, 0x4, 1, 0x0, 0x0, 0x0, 0x0, 0x0, .word⟩,
  ⟨0x10000014, 0x4, 1, 0x4, 1, 0x0, 0x0, 0x0, 0x0, 0x0, .word⟩,
  ⟨0x10000018, 0x4, 1, 0x4, 1, 0x0, 0x0, 0x0, 0x0, 0x0, .word⟩]

/-- The register words of block Lsh. -/
def regsLsh : List RegDesc := [
  ⟨0x11000000, 0x4, 1, 0x4, 1, 0x0, 0x40000000, 0x0, 0x0, 0x0, .word⟩,
  ⟨0x11000100, 0x8, 1, 0x8, 1, 0x0, 0x0, 0xFFFFFFFF, 0x0, 0x0, .low⟩,
  ⟨0x11000104, 0x8, 1, 0x8, 1, 0x0, 0x0, 0xFFFFFFFF, 0x0, 0x0, .high⟩,
  ⟨0x11000108, 0x8, 1, 0x8, 1, 0xFFFFFFFF, 0x0, 0x0, 0x0, 0x0, .low⟩,
  ⟨0x1100010C, 0x8, 1, 0x8, 1, 0xFFFFFFFF, 0x0, 0x0, 0x0, 0x0, .high⟩,
  ⟨0x11000110, 0x8, 1, 0x8, 1, 0x0, 0x0, 0xFFFFFFFF, 0x0, 0x0, .low⟩,
  ⟨0x11000114, 0x8, 1, 0x8, 1, 0x0, 0x0, 0xFFFFFFFF, 0x0, 0x0, .high⟩,
  ⟨0x11000118, 0x8, 1, 0x8, 1, 0xFFFFFFFF, 0x0, 0x0, 0x0, 0x0, .low⟩,
  ⟨0x1100011C, 0x8, 1, 0x8, 1, 0xFFFFFFFF, 0x0, 0x0, 0x0, 0x0, .high⟩,
  ⟨0x11000200, 0x4, 8, 0x4, 1, 0x1FF, 0x0, 0x1FF0000, 0x0, 0x0, .word⟩,
  ⟨0x11000220, 0x4, 8, 0x4, 1, 0xFFFF, 0x0, 0xFFFF0000, 0x0, 0x0, .word⟩,
  ⟨0x11000240, 0x4, 8, 0x4, 1, 0xFFFF, 0x0, 0xFFFF0000, 0x0, 0x0, .word⟩,
  ⟨0x11001000, 0x40, 32, 0x40, 1, 0xFFFF, 0x0, 0xFFFF0000, 0x0, 0x0, .word⟩,
  ⟨0x11001004, 0x40, 32, 0x40, 1, 0xFFFF, 0x0, 0xFFFF0000, 0x0, 0x0, .word⟩,
  ⟨0x11001008, 0x40, 32, 0x40, 1, 0x0, 0x0, 0xFFFF0000, 0x0, 0x0, .word⟩,
  ⟨0x1100100C, 0x40, 32, 0x40, 1, 0x1FF, 0x0, 0x1FF0000, 0x0, 0x0, .word⟩,
  ⟨0x11001010, 0x40, 32, 0x40, 1, 0xFFFF, 0x0, 0xFFFF0000, 0x0, 0x0, .word⟩,
  ⟨0x11001014, 0x40, 32, 0x40, 1, 0xFFFF, 0x0, 0xFFFF0000, 0x0, 0x0, .word⟩,
  ⟨0x11001018, 0x40, 32, 0x40, 1, 0x0, 0xFF, 0x0, 0x0, 0x0, .word⟩,
  ⟨0x1100101C, 0x40, 32, 0x40, 1, 0x0, 0x0, 0xFFFF, 0x0, 0x0, .word⟩,
  ⟨0x11001020, 0x40, 32, 0x40, 1, 0x0, 0x0, 0x0, 0x0, 0x0, .word⟩,
  ⟨0x11008000, 0x40, 256, 0x40, 1, 0x0, 0x0, 0xFFFFFFFF, 0x0, 0x0, .word⟩,
  ⟨0x11008004, 0x40, 256, 0x40, 1, 0xFFFFFFFF, 0x0, 0x0, 0x0, 0x0, .word⟩,
  ⟨0x11008008, 0x40, 256, 0x40, 1, 0x0, 0x0, 0xFFFFFFFF, 0x0, 0x0, .low⟩,
  ⟨0x1100800C, 0x40, 256, 0x40, 1, 0x0, 0x0, 0xFFFFFFFF, 0x0, 0x0, .high⟩,
  ⟨0x11008010, 0x40, 256, 0x40, 1, 0x0, 0x0, 0xFFFFFFFF, 0x0, 0x0, .low⟩,
  ⟨0x11008014, 0x40, 256, 0x40, 1, 0x0, 0x0, 0xFFFFFFFF, 0x0, 0x0, .high⟩,
  ⟨0x11008018, 0x40, 256, 0x40, 1, 0xFFFFFFFF, 0x0, 0x0, 0x0, 0x0, .low⟩,
  ⟨0x1100801C, 0x40, 256, 0x40, 1, 0xFFFFFFFF, 0x0, 0x0, 0x0, 0x0, .high⟩,
  ⟨0x11008020, 0x40, 256, 0x40, 1, 0xFFFFFFFF, 0x0, 0x0, 0x0, 0x0, .low⟩,
  ⟨0x11008024, 0x40, 256, 0x40, 1, 0xFFFFFFFF, 0x0, 0x0, 0x0, 0x0, .high⟩,
  ⟨0x11008028, 0x40, 256, 0x40, 1, 0x0, 0xC0, 0x1, 0x0, 0x0, .word⟩]

/-- The register words of block Prf. -/
def regsPrf : List RegDesc := [
  ⟨0x1200F000, 0x4, 1, 0x4, 1, 0x0, 0x0, 0xFFFFFFFF, 0x0, 0x80100000, .word⟩,
  ⟨0x1200F004, 0x4, 1, 0x4, 1, 0x0, 0x0, 0x0, 0xFFFF00FF, 0x0, .word⟩,
  ⟨0x1200F008, 0x4, 1, 0x4, 1, 0x0, 0x0, 0x0, 0x0, 0x0, .word⟩,
  ⟨0x12010000, 0x10, 256, 0x10, 1, 0x0, 0x0, 0x0, 0x0, 0x0, .word⟩,
  ⟨0x12010004, 0x10, 256, 0x10, 1, 0x0, 0x0, 0x0, 0x7, 0x0, .word⟩,
  ⟨0x12010008, 0x10, 256, 0x10, 1, 0x0, 0x0, 0x0, 0x0, 0x0, .word⟩,
  ⟨0x12000000, 0x4, 1, 0x4, 1, 0x0, 0x0, 0xFFFF1F03, 0x0, 0x1, .word⟩,
  ⟨0x12000004, 0x4, 1, 0x4, 1, 0x0, 0x0, 0x0, 0x0, 0x0, .word⟩,
  ⟨0x12000008, 0x4, 1, 0x4, 1, 0x0, 0x0, 0x0, 0x0, 0x0, .word⟩,
  ⟨0x1200000C, 0x4, 1, 0x4, 1, 0x0, 0x0, 0x0, 0x0, 0x0, .word⟩,
  ⟨0x12000010, 0x4, 1, 0x4, 1, 0x0, 0x0, 0x0, 0x0, 0x0, .word⟩,
  ⟨0x12000100, 0x40, 8, 0x40, 1, 0x0, 0x0, 0x0, 0x0, 0x0, .low⟩,
  ⟨0x12000104, 0x40, 8, 0x40, 1, 0x0, 0x0, 0x0, 0x0, 0x0, .high⟩,
  ⟨0x12000108, 0x40, 8, 0x40, 1, 0x0, 0x0, 0x0, 0x0, 0x0, .low⟩,
  ⟨0x1200010C, 0x40, 8, 0x40, 1, 0x0, 0x0, 0x0, 0x0, 0x0, .high⟩,
  ⟨0x12000110, 0x40, 8, 0x40, 1, 0x0, 0x0, 0xFFFFFFFF, 0x0, 0x0, .low⟩,
  ⟨0x12000114, 0x40, 8, 0x40, 1, 0x0, 0x0, 0xFFFFFFFF, 0x0, 0x0, .high⟩,
  ⟨0x12000118, 0x40, 8, 0x40, 1, 0x0, 0x0, 0xFFFFFFFF, 0x0, 0x0, .low⟩,
  ⟨0x1200011C, 0x40, 8, 0x40, 1, 0x0, 0x0, 0xFFFFFFFF, 0x0, 0x0, .high⟩,
  ⟨0x12000120, 0x40, 8, 0x40, 1, 0x0, 0x0, 0xFFFFFFFF, 0x0, 0x0, .low⟩,
  ⟨0x12000124, 0x40, 8, 0x40, 1, 0x0, 0x0, 0xFFFFFFFF, 0x0, 0x0, .high⟩,
  ⟨0x12000128, 0x40, 8, 0x40, 1, 0x0, 0x0, 0xFFFFFFFF, 0x0, 0x0, .low⟩,
  ⟨0x1200012C, 0x40, 8, 0x40, 1, 0x0, 0x0, 0xFFFFFFFF, 0x0, 0x0, .high⟩,
  ⟨0x12000130, 0x40, 8, 0x40, 1, 0x0, 0x0, 0x80000000, 0x0, 0x0, .word⟩,
  ⟨0x12000400, 0x40, 16, 0x40, 1, 0xFFFFFFFF, 0x0, 0x0, 0x0, 0x0, .low⟩,
  ⟨0x12000404, 0x40, 16, 0x40, 1, 0xFFFFFFFF, 0x0, 0x0, 0x0, 0x0, .high⟩,
  ⟨0x12000408, 0x40, 16, 0x40, 1, 0x7F, 0x0, 0x0, 0x0, 0x0, .word⟩,
  ⟨0x1200040C, 0x40, 16, 0x40, 1, 0xFFF, 0x0, 0x0, 0x0, 0x400, .word⟩,
  ⟨0x12000410, 0x40, 16, 0x40, 1, 0x0, 0x0, 0x0, 0x0, 0x0, .word⟩,
  ⟨0x12000414, 0x40, 16, 0x40, 1, 0x0, 0x0, 0x0, 0x0, 0x0, .word⟩,
  ⟨0x12000418, 0x40, 16, 0x40, 1, 0x0, 0x0, 0x0, 0x0, 0x0, .word⟩,
  ⟨0x1200041C, 0x40, 16, 0x40, 1, 0x0, 0x0, 0x0, 0x0, 0x0, .word⟩,
  ⟨0x12000420, 0x40, 16, 0x40, 1, 0x0, 0x0, 0x0, 0x0, 0x0, .word⟩,
  ⟨0x12000800, 0x20, 64, 0x20, 1, 0xFFFFFF03, 0x0, 0x0, 0x0, 0x0, .word⟩,
  ⟨0x12000804, 0x20, 64, 0x20, 1, 0xFFFFFFFF, 0x0, 0x0, 0x0, 0x0, .word⟩,
  ⟨0x12000808, 0x20, 64, 0x20, 1, 0xFFFFFFFF, 0x0, 0x0, 0x0, 0x0, .low⟩,
  ⟨0x1200080C, 0x20, 64, 0x20, 1, 0xFFFFFFFF, 0x0, 0x0, 0x0, 0x0, .high⟩,
  ⟨0x12000810, 0x20, 64, 0x20, 1, 0xFFFFFFFF, 0x0, 0x0, 0x0, 0x0, .low⟩,
  ⟨0x12000814, 0x20, 64, 0x20, 1, 0xFFFFFFFF, 0x0, 0x0, 0x0, 0x0, .high⟩,
  ⟨0x12000818, 0x20, 64, 0x20, 1, 0x0, 0x0, 0x0, 0x0, 0x0, .word⟩,
  ⟨0x12020000, 0x20, 256, 0x20, 1, 0x0, 0x3C0000, 0x0, 0x0, 0x0, .word⟩,
  ⟨0x12020004, 0x20, 256, 0x20, 1, 0x0, 0x0, 0x0, 0x0, 0x0, .word⟩,
  ⟨0x12020008, 0x20, 256, 0x20, 1, 0x0, 0x0, 0x0, 0x0, 0x0, .low⟩,
  ⟨0x1202000C, 0x20, 256, 0x20, 1, 0x0, 0x0, 0x0, 0x0, 0x0, .high⟩,
  ⟨0x12020010, 0x20, 256, 0x20, 1, 0x0, 0x0, 0x0, 0x0, 0x0, .low⟩,
  ⟨0x12020014, 0x20, 256, 0x20, 1, 0x0, 0x0, 0x0, 0x0, 0x0, .high⟩,
  ⟨0x12020018, 0x20, 256, 0x20, 1, 0x0, 0x0, 0x0, 0x0, 0x0, .low⟩,
  ⟨0x1202001C, 0x20, 256, 0x20, 1, 0x0, 0x0, 0x0, 0x0, 0x0, .high⟩]

/-- The register words of block Eng. -/
def regsEng : List RegDesc := [
  ⟨0x13000000, 0x100000, 8, 0x100000, 1, 0x0, 0x40000000, 0x3F000000, 0x0, 0x0, .word⟩,
  ⟨0x13000004, 0x100000, 8, 0x100000, 1, 0x0, 0x0, 0xFFFFFFFF, 0x0, 0x0, .word⟩,
  ⟨0x13000008, 0x100000, 8, 0x100000, 1, 0x0, 0x0, 0xFFFFFFFF, 0x0, 0x0, .word⟩,
  ⟨0x13000100, 0x100000, 8, 0x10, 32, 0x0, 0x0, 0xFFFFFFFF, 0x0, 0x0, .word⟩,
  ⟨0x13000104, 0x100000, 8, 0x10, 32, 0x0, 0x0, 0xFFFFFFFF, 0x0, 0x0, .word⟩,
  ⟨0x13000108, 0x100000, 8, 0x10, 32, 0x0, 0x0, 0xFFFFFFF, 0x0, 0x0, .word⟩,
  ⟨0x1300010C, 0x100000, 8, 0x10, 32, 0x0, 0x0, 0x80000037, 0x0, 0x0, .word⟩,
  ⟨0x13001000, 0x100000, 8, 0x100, 4, 0x0, 0x0, 0xFFFFCFF, 0x0, 0x0, .word⟩,
  ⟨0x13001004, 0x100000, 8, 0x100, 4, 0x0, 0x0, 0xFFFFFFFF, 0x0, 0x0, .word⟩,
  ⟨0x13001008, 0x100000, 8, 0x100, 4, 0x0, 0xC0000000, 0x0, 0x0, 0x0, .word⟩,
  ⟨0x1300100C, 0x100000, 8, 0x100, 4, 0x0, 0x0, 0x0, 0x0, 0x0, .word⟩,
  ⟨0x13001010, 0x100000, 8, 0x100, 4, 0x0, 0x0, 0xFFFFFFFF, 0x0, 0x0, .word⟩,
  ⟨0x13001014, 0x100000, 8, 0x100, 4, 0x0, 0x0, 0x0, 0x0, 0x0, .word⟩,
  ⟨0x13001018, 0x100000, 8, 0x100, 4, 0x0, 0x0, 0x0, 0x0, 0x0, .word⟩,
  ⟨0x1300101C, 0x100000, 8, 0x100, 4, 0x0, 0x80000000, 0x0, 0x0, 0x0, .word⟩,
  ⟨0x13001020, 0x100000, 8, 0x100, 4, 0x0, 0x0, 0x0, 0x0, 0x0, .word⟩,
  ⟨0x13001024, 0x100000, 8, 0x100, 4, 0x0, 0x0, 0x0, 0x0, 0x0, .word⟩,
  ⟨0x13001040, 0x100000, 8, 0x100, 4, 0x0, 0x0, 0x0, 0x0, 0x0, .word⟩,
  ⟨0x13001044, 0x100000, 8, 0x100, 4, 0x1, 0x0, 0x0, 0x2, 0x0, .word⟩,
  ⟨0x13001048, 0x100000, 8, 0x100, 4, 0x0, 0x0, 0x0, 0x0, 0x0, .word⟩,
  ⟨0x13001050, 0x100000, 8, 0x100, 4, 0x0, 0x0, 0x0, 0x0, 0x0, .word⟩,
  ⟨0x13001054, 0x100000, 8, 0x100, 4, 0x0, 0x0, 0x0, 0x0, 0x0, .word⟩,
  ⟨0x13001060, 0x100000, 8, 0x100, 4, 0x0, 0xC0, 0x0, 0x0, 0x0, .word⟩,
  ⟨0x13001064, 0x100000, 8, 0x100, 4, 0x0, 0x0, 0x0, 0x0, 0x0, .word⟩]

/-- The register words of block Csf. -/
def regsCsf : List RegDesc := [
  ⟨0x14000000, 0x4, 12, 0x4, 1, 0x0, 0x0, 0x800000FF, 0x0, 0x0, .word⟩,
  ⟨0x14000100, 0x4, 96, 0x4, 1, 0x0, 0x0, 0x0, 0x0, 0x0, .word⟩,
  ⟨0x14000300, 0x4, 96, 0x4, 1, 0x0, 0xF0000000, 0x0, 0x0, 0x0, .word⟩,
  ⟨0x14000500, 0x8, 32, 0x8, 1, 0x0, 0x0, 0x0, 0x0, 0x0, .word⟩,
  ⟨0x14000504, 0x8, 32, 0x8, 1, 0x0, 0x0, 0x0, 0x0, 0x0, .word⟩]

/-- The register words of block Fbk. -/
def regsFbk : List RegDesc := [
  ⟨0x15000000, 0x40, 34, 0x40, 1, 0x0, 0xC0000000, 0x0, 0x0, 0x0, .word⟩,
  ⟨0x15000008, 0x40, 34, 0x40, 1, 0x0, 0x0, 0x0, 0x0, 0x0, .low⟩,
  ⟨0x1500000C, 0x40, 34, 0x40, 1, 0x0, 0x0, 0x0, 0x0, 0x0, .high⟩,
  ⟨0x15000010, 0x40, 34, 0x40, 1, 0x0, 0x0, 0x0, 0x0, 0x0, .low⟩,
  ⟨0x15000014, 0x40, 34, 0x40, 1, 0x0, 0x0, 0x0, 0x0, 0x0, .high⟩,
  ⟨0x15000018, 0x40, 34, 0x40, 1, 0x0, 0x0, 0x0, 0x0, 0x0, .word⟩,
  ⟨0x1500001C, 0x40, 34, 0x40, 1, 0x0, 0x0, 0x0, 0xF0FFFFFF, 0x0, .word⟩,
  ⟨0x15000020, 0x40, 34, 0x40, 1, 0x0, 0x0, 0x0, 0x0, 0x0, .word⟩,
  ⟨0x15000024, 0x40, 34, 0x40, 1, 0x0, 0x0, 0x0, 0x0, 0x0, .word⟩,
  ⟨0x15000900, 0x4, 1, 0x4, 1, 0x0, 0x0, 0xFFFFFFFF, 0x0, 0x0, .word⟩,
  ⟨0x15000908, 0x8, 2, 0x8, 1, 0x0, 0x0, 0xFFFFFFFF, 0x0, 0x0, .low⟩,
  ⟨0x1500090C, 0x8, 2, 0x8, 1, 0x0, 0x0, 0xFFFFFFFF, 0x0, 0x0, .high⟩,
  ⟨0x15001000, 0x40, 16, 0x40, 1, 0xF0FF00FF, 0x0, 0x0, 0x0, 0x0, .word⟩,
  ⟨0x15001004, 0x40, 16, 0x40, 1, 0xFFFFFFFF, 0x0, 0x0, 0x0, 0xF000, .word⟩,
  ⟨0x15001008, 0x40, 16, 0x40, 1, 0xFFFFFFFF, 0x0, 0x0, 0x0, 0x0, .low⟩,
  ⟨0x1500100C, 0x40, 16, 0x40, 1, 0xFFFFFFFF, 0x0, 0x0, 0x0, 0x0, .high⟩,
  ⟨0x15001010, 0x40, 16, 0x40, 1, 0xFFFFFFFF, 0x0, 0x0, 0x0, 0x0, .low⟩,
  ⟨0x15001014, 0x40, 16, 0x40, 1, 0xFFFFFFFF, 0x0, 0x0, 0x0, 0x0, .high⟩,
  ⟨0x15001018, 0x40, 16, 0x40, 1, 0x0, 0x1, 0x0, 0x0, 0x0, .word⟩,
  ⟨0x1500101C, 0x40, 16, 0x40, 1, 0x0, 0x0, 0x0, 0x0, 0x0, .word⟩,
  ⟨0x15001020, 0x40, 16, 0x40, 1, 0x0, 0x0, 0x0, 0x0, 0x0, .low⟩,
  ⟨0x15001024, 0x40, 16, 0x40, 1, 0x0, 0x0, 0x0, 0x0, 0x0, .high⟩,
  ⟨0x15001028, 0x40, 16, 0x40, 1, 0x0, 0x0, 0x0, 0x0, 0x0, .word⟩]

/-- The register words of block Pwm. -/
def regsPwm : List RegDesc := [
  ⟨0x16000000, 0x4, 9, 0x4, 1, 0x0, 0x80000000, 0x0, 0x0, 0x0, .word⟩,
  ⟨0x16001000, 0x40, 32, 0x40, 1, 0x0, 0x0, 0xC0FFFFFF, 0x0, 0x10000, .word⟩,
  ⟨0x16001004, 0x40, 32, 0x40, 1, 0x0, 0x0, 0xFFFF, 0x0, 0x0, .word⟩,
  ⟨0x16001008, 0x40, 32, 0x40, 1, 0x0, 0x0, 0x0, 0x0, 0x0, .word⟩,
  ⟨0x1600100C, 0x40, 32, 0x40, 1, 0x0, 0x0, 0x0, 0x0, 0x0, .word⟩,
  ⟨0x16001010, 0x40, 32, 0x40, 1, 0x0, 0x0, 0x0, 0x0, 0x9000000, .word⟩,
  ⟨0x16001014, 0x40, 32, 0x40, 1, 0x0, 0x0, 0x0, 0x0, 0x0, .word⟩,
  ⟨0x16001018, 0x40, 32, 0x40, 1, 0x0, 0x0, 0x0, 0x0, 0x0, .word⟩,
  ⟨0x1600101C, 0x40, 32, 0x40, 1, 0x0, 0x0, 0x0, 0x0, 0x0, .word⟩,
  ⟨0x16004000, 0x10, 96, 0x10, 1, 0x0, 0x0, 0x0, 0x0, 0x0, .word⟩,
  ⟨0x16004004, 0x10, 96, 0x10, 1, 0x0, 0x0, 0x0, 0x0, 0x0, .word⟩,
  ⟨0x16004008, 0x10, 96, 0x10, 1, 0x0, 0x0, 0x0, 0x0, 0x0, .word⟩,
  ⟨0x16006000, 0x20, 8, 0x20, 1, 0x0, 0x0, 0x8F7F01FF, 0x0, 0x0, .word⟩,
  ⟨0x16006004, 0x20, 8, 0x20, 1, 0x0, 0x0, 0xFFFFFFFF, 0x0, 0x0, .word⟩,
  ⟨0x16006008, 0x20, 8, 0x20, 1, 0x0, 0x0, 0xFFFFFFFF, 0x0, 0x0, .word⟩,
  ⟨0x1600600C, 0x20, 8, 0x20, 1, 0x0, 0x0, 0xFFFFFFFF, 0x0, 0x0, .word⟩,
  ⟨0x16006010, 0x20, 8, 0x20, 1, 0x0, 0x0, 0x0, 0x0, 0x0, .word⟩,
  ⟨0x16006014, 0x20, 8, 0x20, 1, 0x0, 0x0, 0x0, 0x0, 0x0, .word⟩,
  ⟨0x16006018, 0x20, 8, 0x20, 1, 0x0, 0x0, 0x0, 0x0, 0x0, .word⟩,
  ⟨0x16007000, 0x4, 1, 0x4, 1, 0x0, 0x0, 0x0, 0xFF, 0x0, .word⟩]

/-- The register words of block Knl. -/
def regsKnl : List RegDesc := [
  ⟨0x17000000, 0x4, 1, 0x4, 1, 0x0, 0x0, 0x0, 0x0, 0x0, .word⟩,
  ⟨0x17000008, 0x8, 1, 0x8, 1, 0x0, 0x0, 0x0, 0x0, 0x0, .low⟩,
  ⟨0x1700000C, 0x8, 1, 0x8, 1, 0x0, 0x0, 0x0, 0x0, 0x0, .high⟩,
  ⟨0x17000010, 0x4, 1, 0x4, 1, 0x0, 0x0, 0x0, 0x0, 0x200, .word⟩,
  ⟨0x17000014, 0x4, 1, 0x4, 1, 0x0, 0x0, 0x0, 0x0, 0x0, .word⟩,
  ⟨0x17000018, 0x4, 1, 0x4, 1, 0x0, 0x0, 0x0, 0x0, 0x0, .word⟩,
  ⟨0x17000100, 0x20, 4, 0x20, 1, 0x0, 0x0, 0x0, 0x1FF, 0x0, .word⟩,
  ⟨0x17000104, 0x20, 4, 0x20, 1, 0x0, 0x0, 0x0, 0x1FF, 0x0, .word⟩,
  ⟨0x17000108, 0x20, 4, 0x20, 1, 0x0, 0x0, 0x0, 0x0, 0x0, .word⟩,
  ⟨0x1700010C, 0x20, 4, 0x20, 1, 0x0, 0x0, 0x0, 0x0, 0x0, .word⟩,
  ⟨0x17000110, 0x20, 4, 0x20, 1, 0x0, 0x0, 0x0, 0x1FF, 0x0, .word⟩,
  ⟨0x17000114, 0x20, 4, 0x20, 1, 0x0, 0x0, 0x0, 0x0, 0x0, .word⟩,
  ⟨0x17000200, 0x4, 2, 0x4, 1, 0x0, 0x0, 0x0, 0x0, 0x0, .word⟩,
  ⟨0x17000400, 0x4, 256, 0x4, 1, 0x0, 0x0, 0x0, 0x0, 0x0, .word⟩,
  ⟨0x17004000, 0x8, 512, 0x8, 1, 0x0, 0xC000, 0x0, 0x0, 0x0, .word⟩,
  ⟨0x17004004, 0x8, 512, 0x8, 1, 0x0, 0x0, 0x0, 0x0, 0x0, .word⟩,
  ⟨0x17010000, 0x20, 512, 0x20, 1, 0x3FFFFFFF, 0x0, 0x0, 0x0, 0x0, .word⟩,
  ⟨0x17010004, 0x20, 512, 0x20, 1, 0xFFFFFF0F, 0x0, 0x0, 0x0, 0x0, .word⟩,
  ⟨0x17010008, 0x20, 512, 0x20, 1, 0xFFFFFFFF, 0x0, 0x0, 0x0, 0x0, .word⟩,
  ⟨0x1701000C, 0x20, 512, 0x20, 1, 0xFFFFFFFF, 0x0, 0x0, 0x0, 0x0, .word⟩,
  ⟨0x17010010, 0x20, 512, 0x20, 1, 0xFFFFFFFF, 0x0, 0x0, 0x0, 0x0, .word⟩,
  ⟨0x17010014, 0x20, 512, 0x20, 1, 0xFFFFFFFF, 0x0, 0x0, 0x0, 0x0, .word⟩,
  ⟨0x17010018, 0x20, 512, 0x20, 1, 0xFFFFFFFF, 0x0, 0x0, 0x0, 0x0, .word⟩,
  ⟨0x1701001C, 0x20, 512, 0x20, 1, 0xFFFFFFFF, 0x0, 0x0, 0x0, 0x0, .word⟩]

/-- The register words of block Que. -/
def regsQue : List RegDesc := [
  ⟨0x18000000, 0x4, 1, 0x4, 1, 0x0, 0x0, 0x0, 0x0, 0x800000, .word⟩,
  ⟨0x18000004, 0x4, 1, 0x4, 1, 0x0, 0x0, 0xFFFFFFFF, 0x0, 0x82000000, .word⟩,
  ⟨0x18000100, 0x100, 4, 0x8, 16, 0x0, 0x0, 0x0, 0xFFFFFFFF, 0x0, .low⟩,
  ⟨0x18000104, 0x100, 4, 0x8, 16, 0x0, 0x0, 0x0, 0xFFFFFFFF, 0x0, .high⟩,
  ⟨0x18000180, 0x100, 4, 0x100, 1, 0x0, 0x0, 0x0, 0xC0000F3F, 0x0, .word⟩,
  ⟨0x18000184, 0x100, 4, 0x100, 1, 0x0, 0x0, 0x0, 0x0, 0x0, .word⟩,
  ⟨0x18001000, 0x40, 64, 0x40, 1, 0x7, 0x0, 0xFFF00000, 0x0, 0x0, .word⟩,
  ⟨0x18001004, 0x40, 64, 0x40, 1, 0x0, 0x0, 0xFFFFFFFF, 0x0, 0x0, .word⟩,
  ⟨0x18001008, 0x40, 64, 0x40, 1, 0xFFFFFFFF, 0x0, 0x0, 0x0, 0x0, .word⟩,
  ⟨0x1800100C, 0x40, 64, 0x40, 1, 0x0, 0x0, 0x0, 0x0, 0x0, .word⟩,
  ⟨0x18001010, 0x40, 64, 0x40, 1, 0x0, 0x0, 0x0, 0x0, 0x0, .word⟩,
  ⟨0x18001014, 0x40, 64, 0x40, 1, 0x0, 0x0, 0x0, 0x0, 0x0, .word⟩,
  ⟨0x18001018, 0x40, 64, 0x40, 1, 0x0, 0xC0000000, 0x0, 0x0, 0x0, .word⟩,
  ⟨0x1800101C, 0x40, 64, 0x40, 1, 0x0, 0x0, 0x0, 0x0, 0x0, .word⟩,
  ⟨0x18001020, 0x40, 64, 0x40, 1, 0x0, 0x0, 0x0, 0x0, 0x0, .low⟩,
  ⟨0x18001024, 0x40, 64, 0x40, 1, 0x0, 0x0, 0x0, 0x0, 0x0, .high⟩,
  ⟨0x18001028, 0x40, 64, 0x40, 1, 0x0, 0x0, 0x0, 0x1, 0x0, .word⟩]

/-- The register words of block Acq. -/
def regsAcq : List RegDesc := [
  ⟨0x19000000, 0x4, 1, 0x4, 1, 0x0, 0x0, 0x0, 0x0, 0x80, .word⟩,
  ⟨0x19000004, 0x4, 1, 0x4, 1, 0x0, 0x0, 0x0, 0x0, 0x800, .word⟩,
  ⟨0x19000008, 0x4, 1, 0x4, 1, 0x0, 0x0, 0x0, 0x0, 0x0, .word⟩,
  ⟨0x1900000C, 0x4, 1, 0x4, 1, 0x0, 0x0, 0x0, 0x7F, 0x0, .word⟩,
  ⟨0x19000010, 0x4, 1, 0x4, 1, 0x8000003F, 0x0, 0x0, 0x0, 0x0, .word⟩,
  ⟨0x19000014, 0x4, 1, 0x4, 1, 0x0, 0x0, 0xFFFFFFFF, 0x0, 0x0, .word⟩,
  ⟨0x19000020, 0x4, 1, 0x4, 1, 0x0, 0x0, 0x1F, 0x0, 0x0, .word⟩,
  ⟨0x19000024, 0x4, 1, 0x4, 1, 0x0, 0x0, 0x0, 0x0, 0x0, .word⟩,
  ⟨0x19000030, 0x4, 4, 0x4, 1, 0xFFFF, 0x0, 0x0, 0x0, 0x0, .word⟩,
  ⟨0x19000100, 0x20, 8, 0x20, 1, 0xEFFFB0FF, 0x0, 0x0, 0x0, 0x8000000, .word⟩,
  ⟨0x19000104, 0x20, 8, 0x20, 1, 0xFFFFFFFF, 0x0, 0x0, 0x0, 0x0, .word⟩,
  ⟨0x19000108, 0x20, 8, 0x20, 1, 0xFFFFFFFF, 0x0, 0x0, 0x0, 0x0, .word⟩,
  ⟨0x1900010C, 0x20, 8, 0x20, 1, 0xFFFFFFFF, 0x0, 0x0, 0x0, 0x0, .word⟩,
  ⟨0x19000110, 0x20, 8, 0x20, 1, 0x0, 0x0, 0x0, 0x7, 0x0, .word⟩,
  ⟨0x19000114, 0x20, 8, 0x20, 1, 0x0, 0x0, 0x0, 0x0, 0x0, .word⟩,
  ⟨0x19000118, 0x20, 8, 0x20, 1, 0x0, 0x0, 0x0, 0x0, 0x0, .word⟩,
  ⟨0x1900011C, 0x20, 8, 0x20, 1, 0x0, 0x0, 0x0, 0x0, 0x0, .word⟩,
  ⟨0x19001000, 0x40, 64, 0x40, 1, 0xFFFFFFFF, 0x0, 0x0, 0x0, 0x0, .word⟩,
  ⟨0x19001004, 0x40, 64, 0x40, 1, 0xFFFFFFFF, 0x0, 0x0, 0x0, 0x0, .word⟩,
  ⟨0x19001008, 0x40, 64, 0x40, 1, 0xFF0007FF, 0x0, 0x0, 0x0, 0x1000000, .word⟩,
  ⟨0x1900100C, 0x40, 64, 0x40, 1, 0xFFFFFFFF, 0x0, 0x0, 0x0, 0x0, .word⟩,
  ⟨0x19001010, 0x40, 64, 0x40, 1, 0xFFFFFFFF, 0x0, 0x0, 0x0, 0x0, .word⟩,
  ⟨0x19001014, 0x40, 64, 0x40, 1, 0x0, 0x0, 0xF, 0x0, 0xF, .word⟩,
  ⟨0x19001018, 0x40, 64, 0x40, 1, 0x0, 0x0, 0x0, 0x0, 0x0, .word⟩,
  ⟨0x1900101C, 0x40, 64, 0x40, 1, 0x0, 0x0, 0x0, 0x0, 0x0, .word⟩,
  ⟨0x19001020, 0x40, 64, 0x40, 1, 0x0, 0x0, 0x0, 0x0, 0x0, .word⟩,
  ⟨0x19004000, 0x40, 128, 0x4, 16, 0x0, 0x0, 0x0, 0x0, 0x0, .word⟩,
  ⟨0x19008000, 0x4, 2048, 0x4, 1, 0x0, 0x0, 0x0, 0x0, 0x0, .word⟩]

/-- The register words of block Rng. -/
def regsRng : List RegDesc := [
  ⟨0x1B000000, 0x4, 1, 0x4, 1, 0x0, 0x0, 0xF70FF0FF, 0x0, 0x0, .word⟩,
  ⟨0x1B000004, 0x4, 1, 0x4, 1, 0x0, 0x0, 0xFFFFFFFF, 0x0, 0x0, .word⟩,
  ⟨0x1B000008, 0x4, 1, 0x4, 1, 0x0, 0x0, 0xFFFFFFFF, 0x0, 0x0, .word⟩,
  ⟨0x1B00000C, 0x4, 1, 0x4, 1, 0x0, 0x0, 0xFFFF, 0x0, 0x88B5, .word⟩,
  ⟨0x1B000010, 0x8, 1, 0x8, 1, 0x0, 0x0, 0xFFFFFFFF, 0x0, 0x0, .low⟩,
  ⟨0x1B000014, 0x8, 1, 0x8, 1, 0x0, 0x0, 0xFFFFFFFF, 0x0, 0x0, .high⟩,
  ⟨0x1B000018, 0x4, 1, 0x4, 1, 0x0, 0x0, 0xFFFFFFFF, 0x0, 0x0, .word⟩,
  ⟨0x1B00001C, 0x4, 1, 0x4, 1, 0x0, 0x0, 0x0, 0x0, 0x20000000, .word⟩,
  ⟨0x1B000020, 0x4, 1, 0x4, 1, 0x0, 0x0, 0x0, 0x0, 0x0, .word⟩,
  ⟨0x1B000024, 0x4, 1, 0x4, 1, 0x0, 0x0, 0x0, 0x0, 0x0, .word⟩,
  ⟨0x1B000028, 0x4, 1, 0x4, 1, 0x0, 0x0, 0x0, 0x0, 0x40, .word⟩,
  ⟨0x1B00002C, 0x4, 1, 0x4, 1, 0x0, 0x0, 0x0, 0x0, 0x0, .word⟩,
  ⟨0x1B000030, 0x4, 1, 0x4, 1, 0x0, 0x0, 0x0, 0x0, 0x0, .word⟩,
  ⟨0x1B000034, 0x4, 1, 0x4, 1, 0x0, 0x0, 0x0, 0x0, 0x0, .word⟩,
  ⟨0x1B000038, 0x4, 1, 0x4, 1, 0x0, 0x0, 0x0, 0x1, 0x0, .word⟩,
  ⟨0x1B000040, 0x4, 16, 0x4, 1, 0x0, 0x0, 0xFF, 0x0, 0xFF, .word⟩,
  ⟨0x1B000080, 0x4, 1, 0x4, 1, 0x0, 0x0, 0x3F, 0x0, 0x2000, .word⟩,
  ⟨0x1B000084, 0x4, 1, 0x4, 1, 0x0, 0x0, 0xFFFFFFFF, 0x0, 0x0, .word⟩,
  ⟨0x1B000088, 0x4, 1, 0x4, 1, 0x0, 0x0, 0x0, 0x1F, 0x0, .word⟩,
  ⟨0x1B001000, 0x20, 256, 0x20, 1, 0x0, 0x0, 0x0, 0x0, 0x0, .word⟩,
  ⟨0x1B001004, 0x20, 256, 0x20, 1, 0x0, 0x0, 0x0, 0x0, 0x0, .word⟩,
  ⟨0x1B001008, 0x20, 256, 0x20, 1, 0x0, 0x0, 0x0, 0x0, 0x0, .word⟩,
  ⟨0x1B00100C, 0x20, 256, 0x20, 1, 0x0, 0x0, 0x0, 0x0, 0x0, .word⟩,
  ⟨0x1B001010, 0x20, 256, 0x20, 1, 0x0, 0x0, 0x0, 0x0, 0x0, .word⟩,
  ⟨0x1B001014, 0x20, 256, 0x20, 1, 0x0, 0x0, 0x0, 0x0, 0x0, .word⟩,
  ⟨0x1B001018, 0x20, 256, 0x20, 1, 0x0, 0x0, 0x0, 0x1, 0x0, .word⟩]

/-- The register words of block Tim. -/
def regsTim : List RegDesc := [
  ⟨0x1C000000, 0x4, 1, 0x4, 1, 0x0, 0x0, 0xE0FFFF0F, 0x0, 0x0, .word⟩,
  ⟨0x1C000004, 0x4, 1, 0x4, 1, 0x0, 0x0, 0x0, 0x0, 0x0, .word⟩,
  ⟨0x1C000008, 0x4, 1, 0x4, 1, 0x0, 0x0, 0x0, 0x1, 0x0, .word⟩,
  ⟨0x1C00000C, 0x4, 1, 0x4, 1, 0x0, 0x0, 0xFFFFFFFF, 0x0, 0x0, .word⟩,
  ⟨0x1C000010, 0x4, 1, 0x4, 1, 0x0, 0x0, 0x0, 0x0, 0x0, .word⟩,
  ⟨0x1C000018, 0x8, 1, 0x8, 1, 0x0, 0x0, 0x0, 0x0, 0x0, .low⟩,
  ⟨0x1C00001C, 0x8, 1, 0x8, 1, 0x0, 0x0, 0x0, 0x0, 0x0, .high⟩,
  ⟨0x1C000020, 0x4, 1, 0x4, 1, 0x0, 0x0, 0x0, 0x0, 0x0, .word⟩,
  ⟨0x1C000024, 0x4, 1, 0x4, 1, 0x0, 0x0, 0x0, 0x0, 0x0, .word⟩,
  ⟨0x1C000028, 0x4, 1, 0x4, 1, 0x0, 0x0, 0x0, 0x0, 0x0, .word⟩,
  ⟨0x1C000030, 0x8, 1, 0x8, 1, 0x0, 0x0, 0x0, 0x0, 0x0, .low⟩,
  ⟨0x1C000034, 0x8, 1, 0x8, 1, 0x0, 0x0, 0x0, 0x0, 0x0, .high⟩,
  ⟨0x1C000038, 0x4, 1, 0x4, 1, 0x0, 0x0, 0x0, 0x0, 0x0, .word⟩,
  ⟨0x1C000040, 0x4, 2, 0x4, 1, 0x0, 0x0, 0x0, 0x0, 0xFFFFFFFF, .word⟩,
  ⟨0x1C000050, 0x4, 1, 0x4, 1, 0x0, 0x0, 0xFFF, 0x0, 0x0, .word⟩,
  ⟨0x1C000058, 0x8, 1, 0x8, 1, 0x0, 0x0, 0x0, 0x0, 0x0, .low⟩,
  ⟨0x1C00005C, 0x8, 1, 0x8, 1, 0x0, 0x0, 0x0, 0x0, 0x0, .high⟩,
  ⟨0x1C000060, 0x4, 1, 0x4, 1, 0x0, 0x0, 0x0, 0x0, 0x0, .word⟩,
  ⟨0x1C000064, 0x4, 1, 0x4, 1, 0x0, 0x0, 0x0, 0x0, 0x0, .word⟩]

/-- The register words of block Dio. -/
def regsDio : List RegDesc := [
  ⟨0x1D000000, 0x4, 1, 0x4, 1, 0x0, 0x0, 0x0, 0x0, 0x0, .word⟩,
  ⟨0x1D000004, 0x4, 1, 0x4, 1, 0x0, 0x0, 0x8000003F, 0x0, 0x0, .word⟩,
  ⟨0x1D000008, 0x4, 1, 0x4, 1, 0x0, 0x0, 0xFFFFFFFF, 0x0, 0x80180000, .word⟩,
  ⟨0x1D000010, 0x8, 1, 0x8, 1, 0x0, 0x0, 0x0, 0x0, 0x0, .low⟩,
  ⟨0x1D000014, 0x8, 1, 0x8, 1, 0x0, 0x0, 0x0, 0x0, 0x0, .high⟩,
  ⟨0x1D000018, 0x8, 1, 0x8, 1, 0x0, 0x0, 0x0, 0x0, 0x0, .low⟩,
  ⟨0x1D00001C, 0x8, 1, 0x8, 1, 0x0, 0x0, 0x0, 0x0, 0x0, .high⟩,
  ⟨0x1D000020, 0x8, 1, 0x8, 1, 0xFFFFFFFF, 0x0, 0x0, 0x0, 0x0, .low⟩,
  ⟨0x1D000024, 0x8, 1, 0x8, 1, 0xFFFFFFFF, 0x0, 0x0, 0x0, 0x0, .high⟩,
  ⟨0x1D000028, 0x8, 1, 0x8, 1, 0x0, 0x0, 0x0, 0xFFFFFFFF, 0x0, .low⟩,
  ⟨0x1D00002C, 0x8, 1, 0x8, 1, 0x0, 0x0, 0x0, 0xFFFFFFFF, 0x0, .high⟩,
  ⟨0x1D000030, 0x8, 1, 0x8, 1, 0x0, 0x0, 0x0, 0xFFFFFFFF, 0x0, .low⟩,
  ⟨0x1D000034, 0x8, 1, 0x8, 1, 0x0, 0x0, 0x0, 0xFFFFFFFF, 0x0, .high⟩,
  ⟨0x1D000038, 0x8, 1, 0x8, 1, 0x0, 0x0, 0x0, 0x0, 0x0, .low⟩,
  ⟨0x1D00003C, 0x8, 1, 0x8, 1, 0x0, 0x0, 0x0, 0x0, 0x0, .high⟩,
  ⟨0x1D000100, 0x10, 8, 0x10, 1, 0x0, 0x0, 0xFF, 0x0, 0x0, .word⟩,
  ⟨0x1D000104, 0x10, 8, 0x10, 1, 0x0, 0x18000000, 0x0, 0x0, 0xC0000000, .word⟩,
  ⟨0x1D000108, 0x10, 8, 0x10, 1, 0x0, 0x0, 0x0, 0x0, 0x0, .word⟩,
  ⟨0x1D00010C, 0x10, 8, 0x10, 1, 0x0, 0x0, 0x0, 0x0, 0x0, .word⟩,
  ⟨0x1D001000, 0x10, 64, 0x10, 1, 0x0, 0x0, 0x337FF3F, 0x0, 0x0, .word⟩,
  ⟨0x1D001004, 0x10, 64, 0x10, 1, 0x0, 0x41800000, 0x0, 0x0, 0x80000000, .word⟩,
  ⟨0x1D001008, 0x10, 64, 0x10, 1, 0x0, 0x0, 0x0, 0x0, 0x0, .word⟩]

/-- The register words of block Saf. -/
def regsSaf : List RegDesc := [
  ⟨0x1E000000, 0x4, 1, 0x4, 1, 0x0, 0x0, 0x0, 0x0, 0x0, .word⟩,
  ⟨0x1E000004, 0x4, 1, 0x4, 1, 0x0, 0x0, 0x0, 0x0, 0x0, .word⟩,
  ⟨0x1E000008, 0x4, 1, 0x4, 1, 0x0, 0x0, 0x0, 0x0, 0x0, .word⟩,
  ⟨0x1E00000C, 0x4, 1, 0x4, 1, 0x0, 0x0, 0x0, 0x0, 0x0, .word⟩,
  ⟨0x1E000010, 0x4, 1, 0x4, 1, 0x0, 0x0, 0x0, 0x0, 0x0, .word⟩,
  ⟨0x1E000014, 0x4, 1, 0x4, 1, 0x0, 0x0, 0x0, 0x0, 0x0, .word⟩,
  ⟨0x1E000018, 0x4, 1, 0x4, 1, 0x0, 0x0, 0x0, 0x0, 0x0, .word⟩,
  ⟨0x1E000020, 0x4, 1, 0x4, 1, 0x0, 0x0, 0x0, 0x0, 0x0, .word⟩,
  ⟨0x1E000024, 0x4, 1, 0x4, 1, 0x0, 0x0, 0x0, 0x0, 0x0, .word⟩,
  ⟨0x1E000100, 0x4, 16, 0x4, 1, 0x0, 0x0, 0x0, 0x0, 0x0, .word⟩,
  ⟨0x1E000200, 0x4, 8, 0x4, 1, 0x0, 0x0, 0x0, 0x0, 0x3F, .word⟩,
  ⟨0x1E000300, 0x4, 32, 0x4, 1, 0x0, 0x0, 0x0, 0x0, 0x0, .word⟩,
  ⟨0x1E000400, 0x4, 8, 0x4, 1, 0x0, 0x0, 0x0, 0x0, 0x0, .word⟩,
  ⟨0x1E000500, 0x8, 32, 0x8, 1, 0x0, 0x0, 0x0, 0x0, 0x0, .word⟩,
  ⟨0x1E000504, 0x8, 32, 0x8, 1, 0x0, 0x0, 0x0, 0x0, 0x0, .word⟩,
  ⟨0x1E001000, 0x10, 64, 0x10, 1, 0x0, 0x0, 0x0, 0x0, 0x0, .word⟩,
  ⟨0x1E001004, 0x10, 64, 0x10, 1, 0x0, 0x0, 0x0, 0x0, 0x0, .word⟩]

/-- The register words of block Err. -/
def regsErr : List RegDesc := [
  ⟨0x1F000010, 0x4, 1, 0x4, 1, 0x0, 0x0, 0x0, 0x0, 0x80000000, .word⟩,
  ⟨0x1F000014, 0x4, 1, 0x4, 1, 0x0, 0x0, 0x0, 0x0, 0x0, .word⟩,
  ⟨0x1F000018, 0x4, 1, 0x4, 1, 0x0, 0x0, 0x0, 0x0, 0x0, .word⟩,
  ⟨0x1F100000, 0x4, 31, 0x4, 1, 0x0, 0x0, 0xFF30, 0x0, 0x1400, .word⟩,
  ⟨0x1F100100, 0x4, 1, 0x4, 1, 0x0, 0x0, 0x0, 0x0, 0x0, .word⟩,
  ⟨0x1F100104, 0x4, 1, 0x4, 1, 0x0, 0x0, 0x0, 0x0, 0x0, .word⟩,
  ⟨0x1F100108, 0x4, 1, 0x4, 1, 0x0, 0x0, 0x0, 0x0, 0x0, .word⟩,
  ⟨0x1F10010C, 0x4, 1, 0x4, 1, 0x0, 0xE0000000, 0x0, 0x0, 0x0, .word⟩,
  ⟨0x1F000000, 0x4, 1, 0x4, 1, 0x0, 0x0, 0x0, 0x0, 0x0, .word⟩,
  ⟨0x1F000004, 0x4, 1, 0x4, 1, 0x0, 0x0, 0x0, 0x0, 0x0, .word⟩,
  ⟨0x1F000008, 0x4, 1, 0x4, 1, 0x0, 0x0, 0x0, 0x0, 0x0, .word⟩,
  ⟨0x1F00000C, 0x4, 1, 0x4, 1, 0x0, 0x0, 0x0, 0x0, 0x0, .word⟩,
  ⟨0x1F000100, 0x10, 31, 0x10, 1, 0x0, 0x0, 0x0, 0x0, 0x0, .word⟩,
  ⟨0x1F000104, 0x10, 31, 0x10, 1, 0x0, 0x0, 0x0, 0x0, 0x0, .word⟩,
  ⟨0x1F000108, 0x10, 31, 0x10, 1, 0x0, 0x0, 0x0, 0x0, 0x0, .word⟩,
  ⟨0x1F00010C, 0x10, 31, 0x10, 1, 0x0, 0x0, 0x0, 0x0, 0x0, .word⟩,
  ⟨0x1F200000, 0x4, 1, 0x4, 1, 0x0, 0x0, 0xFFFFFFFF, 0x0, 0x0, .word⟩,
  ⟨0x1F200004, 0x4, 1, 0x4, 1, 0x0, 0x0, 0xFFFFFFFF, 0x0, 0x0, .word⟩,
  ⟨0x1F200008, 0x4, 1, 0x4, 1, 0x0, 0x0, 0xFFFFFFFF, 0x0, 0x0, .word⟩,
  ⟨0x1F20000C, 0x4, 1, 0x4, 1, 0x0, 0x0, 0xFFFF, 0x0, 0x1E3D, .word⟩,
  ⟨0x1F200010, 0x4, 1, 0x4, 1, 0x0, 0x0, 0x0, 0x0, 0x0, .word⟩,
  ⟨0x1F200014, 0x4, 1, 0x4, 1, 0x0, 0x0, 0x80000000, 0x0, 0x0, .word⟩]

/-- The register words of the block that holds address `a` (R12: one block per 16 MiB). -/
def regsOf (a : Nat) : List RegDesc :=
  match a / 0x1000000 with
  | 0x10 => regsCfg
  | 0x11 => regsLsh
  | 0x12 => regsPrf
  | 0x13 => regsEng
  | 0x14 => regsCsf
  | 0x15 => regsFbk
  | 0x16 => regsPwm
  | 0x17 => regsKnl
  | 0x18 => regsQue
  | 0x19 => regsAcq
  | 0x1B => regsRng
  | 0x1C => regsTim
  | 0x1D => regsDio
  | 0x1E => regsSaf
  | 0x1F => regsErr
  | _ => []

/-- Does the row `d` of the map describe a word at address `a`? -/
def regCovers (a : Nat) (d : RegDesc) : Bool :=
  d.base ≤ a && (a - d.base) / d.s1 < d.n1 && (a - d.base) % d.s1 / d.s2 < d.n2 && (a - d.base) % d.s1 % d.s2 == 0

/-- The description of the register word at address `a`, if one lies there. -/
def regDesc (a : Nat) : Option RegDesc := (regsOf a).find? (regCovers a)

/-- The rows of the map with a reset value that is not 0, in the block that holds address `a`. -/
def resetsOf (a : Nat) : List RegDesc :=
  match a / 0x1000000 with
  | 0x10 => [
    ⟨0x10000004, 0x4, 1, 0x4, 1, 0x0, 0x0, 0x0, 0x0, 0x3, .word⟩,
    ⟨0x10000008, 0x4, 1, 0x4, 1, 0x0, 0x0, 0xFF1000, 0x0, 0xFF000F, .word⟩,
    ⟨0x1000000C, 0x4, 1, 0x4, 1, 0xF, 0x0, 0x0, 0x0, 0xF, .word⟩]
  | 0x12 => [
    ⟨0x1200F000, 0x4, 1, 0x4, 1, 0x0, 0x0, 0xFFFFFFFF, 0x0, 0x80100000, .word⟩,
    ⟨0x12000000, 0x4, 1, 0x4, 1, 0x0, 0x0, 0xFFFF1F03, 0x0, 0x1, .word⟩,
    ⟨0x1200040C, 0x40, 16, 0x40, 1, 0xFFF, 0x0, 0x0, 0x0, 0x400, .word⟩]
  | 0x15 => [
    ⟨0x15001004, 0x40, 16, 0x40, 1, 0xFFFFFFFF, 0x0, 0x0, 0x0, 0xF000, .word⟩]
  | 0x16 => [
    ⟨0x16001000, 0x40, 32, 0x40, 1, 0x0, 0x0, 0xC0FFFFFF, 0x0, 0x10000, .word⟩,
    ⟨0x16001010, 0x40, 32, 0x40, 1, 0x0, 0x0, 0x0, 0x0, 0x9000000, .word⟩]
  | 0x17 => [
    ⟨0x17000010, 0x4, 1, 0x4, 1, 0x0, 0x0, 0x0, 0x0, 0x200, .word⟩]
  | 0x18 => [
    ⟨0x18000000, 0x4, 1, 0x4, 1, 0x0, 0x0, 0x0, 0x0, 0x800000, .word⟩,
    ⟨0x18000004, 0x4, 1, 0x4, 1, 0x0, 0x0, 0xFFFFFFFF, 0x0, 0x82000000, .word⟩]
  | 0x19 => [
    ⟨0x19000000, 0x4, 1, 0x4, 1, 0x0, 0x0, 0x0, 0x0, 0x80, .word⟩,
    ⟨0x19000004, 0x4, 1, 0x4, 1, 0x0, 0x0, 0x0, 0x0, 0x800, .word⟩,
    ⟨0x19000100, 0x20, 8, 0x20, 1, 0xEFFFB0FF, 0x0, 0x0, 0x0, 0x8000000, .word⟩,
    ⟨0x19001008, 0x40, 64, 0x40, 1, 0xFF0007FF, 0x0, 0x0, 0x0, 0x1000000, .word⟩,
    ⟨0x19001014, 0x40, 64, 0x40, 1, 0x0, 0x0, 0xF, 0x0, 0xF, .word⟩]
  | 0x1B => [
    ⟨0x1B00000C, 0x4, 1, 0x4, 1, 0x0, 0x0, 0xFFFF, 0x0, 0x88B5, .word⟩,
    ⟨0x1B00001C, 0x4, 1, 0x4, 1, 0x0, 0x0, 0x0, 0x0, 0x20000000, .word⟩,
    ⟨0x1B000028, 0x4, 1, 0x4, 1, 0x0, 0x0, 0x0, 0x0, 0x40, .word⟩,
    ⟨0x1B000040, 0x4, 16, 0x4, 1, 0x0, 0x0, 0xFF, 0x0, 0xFF, .word⟩,
    ⟨0x1B000080, 0x4, 1, 0x4, 1, 0x0, 0x0, 0x3F, 0x0, 0x2000, .word⟩]
  | 0x1C => [
    ⟨0x1C000040, 0x4, 2, 0x4, 1, 0x0, 0x0, 0x0, 0x0, 0xFFFFFFFF, .word⟩]
  | 0x1D => [
    ⟨0x1D000008, 0x4, 1, 0x4, 1, 0x0, 0x0, 0xFFFFFFFF, 0x0, 0x80180000, .word⟩,
    ⟨0x1D000104, 0x10, 8, 0x10, 1, 0x0, 0x18000000, 0x0, 0x0, 0xC0000000, .word⟩,
    ⟨0x1D001004, 0x10, 64, 0x10, 1, 0x0, 0x41800000, 0x0, 0x0, 0x80000000, .word⟩]
  | 0x1E => [
    ⟨0x1E000200, 0x4, 8, 0x4, 1, 0x0, 0x0, 0x0, 0x0, 0x3F, .word⟩]
  | 0x1F => [
    ⟨0x1F000010, 0x4, 1, 0x4, 1, 0x0, 0x0, 0x0, 0x0, 0x80000000, .word⟩,
    ⟨0x1F100000, 0x4, 31, 0x4, 1, 0x0, 0x0, 0xFF30, 0x0, 0x1400, .word⟩,
    ⟨0x1F20000C, 0x4, 1, 0x4, 1, 0x0, 0x0, 0xFFFF, 0x0, 0x1E3D, .word⟩]
  | _ => []

/-- R6: the value of the register word at `a` after RESET_N is released and before the image is loaded. -/
def resetWord (a : Nat) : Nat :=
  match (resetsOf a).find? (regCovers a) with
  | some d => d.reset
  | none => 0

end Sys2Proof.Machine
end

