-- ==== Sys2Proof/Config.lean ====
section
/-! DEFINITION. What the spec leaves open: the free values (constants with no body) and the fixed identities of one unit. -/

namespace Sys2Proof

/-- DESIGN CHOICE (log 2): the stream of values that the spec leaves open. It has no body, so no proof can see a value of
it; a meaning applies it to the state's counter `fresh` and advances the counter. -/
opaque Config.freeNat : Nat → Nat

/-- DESIGN CHOICE (log 33): the velocities that the profile engine plans for a motion. R131 to R138 bound them and do not
state them; the model takes such a list when it keeps those rules. -/
opaque Config.freeRun : Nat → List Int

/-- DESIGN CHOICE (log 37): the moves that the profile engine plans for a path, one per period: the part of a segment (2^-64) to go
on by, and how far off the path each slot is then. R157 to R160 bound them and do not state them. -/
opaque Config.freePath : Nat → List (Nat × List Int)

/-- R493: the IDCODE value is supplied in the Vaber package and is not in the manual (log 2). -/
opaque Config.idcode : BitVec 32

/-- R69: the SHA-256 of the public key fused into key slot `k`; the fuses are set by Moarun (log 2). -/
opaque Config.keyHash : Nat → List (BitVec 8)

/-- R69: is key slot `k` revoked? The revocation fuses are set by Moarun (log 2). -/
opaque Config.keyRevoked : Nat → Bool

/-- R394: does this unit, as a ring member, support the profile period TP and the ring cycle TR of its master? The manual names no
limit (log 2). -/
opaque Config.supports : Nat → Nat → Bool

end Sys2Proof
end

