-- ==== Sys2Proof/Machine/State.lean ====
section
/-! DEFINITION. The state of the part as plain data (every register word in `regs`, every other piece of state in the
structure of its block), the reasons a step can stop, and the state right after reset. -/

namespace Sys2Proof.Machine

/-- The local clock (R16, R404) and the model's own count of reference time. -/
structure Clk where
  /-- Nanoseconds of the reference since power-on; the model's own count, which no clock step changes. -/
  elapsed : Nat := 0
  /-- R404: the local clock runs once the time unit's clock has started. -/
  running : Bool := false
  /-- R16: the 48-bit count of seconds. -/
  sec : Nat := 0
  /-- R16: the nanosecond count, 0 to 999 999 999. -/
  ns : Nat := 0
  /-- The fraction of a nanosecond, in units of 2^-32 ns (R18). -/
  frac : Nat := 0
  /-- By how much the clock advanced in the last nanosecond of the reference, in units of 2^-32 ns (R404). -/
  pace : Nat := 2 ^ 32
  deriving DecidableEq, Repr

/-- R10: one reader's shadow of a captured word: the register it belongs to, and the value. -/
structure Shadow where
  addr : Nat
  value : Word
  deriving DecidableEq, Repr

/-- The bus state of the device address space (R10), by the number of the reader or writer (`accId`). -/
structure Bus where
  /-- R10, R316, R347, R357, R401: the words that a reader's last capture holds, each returned once. -/
  shadow : Tab (List Shadow) := []
  /-- R405: the TIM_NOWS shadow, per reader: 48 bits of seconds. -/
  nows : Tab Nat := []
  /-- R10: the high words written and held until the same writer writes the low word. -/
  held : Tab (List Shadow) := []
  /-- What the last read returned: the model's own record of the data of a read command. -/
  lastRead : Nat := 0
  /-- The access errors reported so far: the model's own count, by which a write is known to be refused (R310, R483). -/
  errs : Nat := 0
  deriving DecidableEq, Repr

/-- R488: one report or log record. -/
structure LogRec where
  seq : Nat := 0
  sec : Nat
  ns : Nat
  src : Nat
  sev : Nat
  fal : Bool := false
  persist : Bool := false
  steps : Nat
  code : Nat
  lost : Nat := 0
  arg0 : Nat
  arg1 : Nat
  arg2 : Nat
  /-- The model's own: the instant at which the log took it. -/
  logged : Nat := 0
  deriving DecidableEq, Repr

/-- R492: one persisted slot of MRAM: its 40 bytes. -/
abbrev PersistSlot := List Byte

/-- The error log (R488 to R492). -/
structure ErrLog where
  /-- R489: the report buffer of each source, at most 4, oldest first. -/
  bufs : Tab (List LogRec) := []
  /-- R491: the records held, oldest first, at most 1 024. -/
  ring : List LogRec := []
  /-- R489: the source that the log took from last. -/
  lastSrc : Nat := 0x1E
  /-- R489: the instant of the last take; none before the first. -/
  lastTake : Option Nat := none
  /-- R492: the severe records that await MRAM, oldest first. -/
  toPersist : List LogRec := []
  /-- R492: the 64 MRAM slots, by slot. -/
  slots : Tab PersistSlot := []
  /-- R492: the slot that the next severe record goes to. -/
  nextSlot : Nat := 0
  /-- R490: the instant of the last class 0x05 report, by counter address and field. -/
  dropAt : Tab Nat := []
  deriving DecidableEq, Repr

/-- The Kennel's lists (R311 to R330). The states, slots, bindings and counts are registers. -/
structure Knl where
  /-- R318: a first tick has come since CFG_STATE left RESET. -/
  ticking : Bool := false
  /-- R321: the ready list of each level, head first. -/
  ready : Tab (List Nat) := []
  /-- R320: the tokens of the delay list with their wake ticks, in the list's order. -/
  delay : List (Nat × Nat) := []
  /-- R323: the slotted tokens, in the order in which they were slotted. -/
  slotOrder : List Nat := []
  /-- R327: the nominal wake that woke each periodic token. -/
  nominal : Tab Nat := []
  /-- R326: the reason that the next wake tick gives: 0x2, or 0x4 for a period. -/
  whyNext : Tab Nat := []
  /-- R328: the tick at which each running token was taken. -/
  takenAt : Tab Nat := []
  /-- R328: tokens whose RUNMAX warning of the present run has been given. -/
  warned : List Nat := []
  deriving DecidableEq, Repr

/-- R344: a spill burst outstanding: its queue, the way it goes, its 8 entries, and whether its data have come. -/
structure Burst where
  tag : Nat
  q : Nat
  /-- True for a write to the spill ring, false for a read into the head. -/
  wr : Bool
  entries : List (BitVec 64)
  arrived : Bool := false
  deriving DecidableEq, Repr

/-- R340: a waiting push of a service core: queue and entries. -/
structure WaitPush where
  q : Nat
  entries : List (BitVec 64)
  deriving DecidableEq, Repr

/-- The contents of one queue (R335, R343). -/
structure QueueData where
  /-- On-die head, oldest first, at most 16 entries. -/
  head : List (BitVec 64) := []
  /-- Entries in the spill ring in bulk memory, counted (R343): read position and count. -/
  ringRd : Nat := 0
  ringCount : Nat := 0
  /-- On-die tail, oldest first, at most 16 entries. -/
  tail : List (BitVec 64) := []
  deriving DecidableEq, Repr

/-- The queue fabric (R335 to R350). -/
structure Que where
  data : Tab QueueData := []
  /-- R340: the staged entries: entry i of core c at key 16c + i. -/
  stage : Tab (BitVec 64) := []
  /-- R344: the bursts outstanding, oldest first. -/
  bursts : List Burst := []
  /-- R340: the pending waiting push of each core. -/
  waits : Tab WaitPush := []
  /-- R338: the core whose waiting push was accepted last, per queue (round robin). -/
  lastCore : Tab Nat := []
  /-- R341: the reader whose held pop each queue completed last. -/
  lastPop : Tab Nat := []
  /-- R341: the pops held for an entry on its way: reader and queue, oldest first. -/
  heldPops : List (Nat × Nat) := []
  deriving DecidableEq, Repr

/-- R66: a record of an image: TYPE, the payload, and the record CRC. -/
structure ImgRec where
  typ : Nat
  payload : List Byte
  crc : Nat
  deriving DecidableEq, Repr

/-- R65, R66: an image that has been read: its 64-byte header and its records, in order. -/
structure Image where
  header : List Byte := []
  recs : List ImgRec := []
  deriving DecidableEq, Repr

/-- R50: the supply VQSPI of the flash: off without VIN, at 1.8 V until the first release of the supervisor, then at the voltage that
QVSEL selected there (true 3.3 V, false 1.8 V). -/
inductive Vqspi where
  | off
  | initial
  | chosen (qvsel : Bool)
  deriving DecidableEq, Repr

/-- The loader, the attached flash, the fuses' companion MRAM and the reset lines (R44 to R92). -/
structure Boot where
  /-- R48: the supervisor holds the part in reset. R76: RESET_N is low. The start sequence has begun since. -/
  held : Bool := true
  resetLow : Bool := false
  started : Bool := false
  /-- R48: the supplies as the supervisor sees them: VIN, both VIO_A and VIO_B above 3.0 V, every regulator in regulation, and the
  instant at which the last condition ended (elapsed nanoseconds). -/
  vin : VinLevel := .ok
  vio : Bool := true
  regs : Bool := true
  supplyAt : Nat := 0
  /-- R50: VQSPI. -/
  vqspi : Vqspi := .initial
  /-- R55: the straps as sampled last. -/
  qvsel : Bool := false
  clksel : Bool := false
  testMode : Bool := false
  /-- R76: when the start sequence began (elapsed nanoseconds). -/
  startAt : Nat := 0
  /-- R59: the attached flash by address, each byte inverted, so that an erased byte (0xFF) is unlisted. -/
  flash : List Host.Cell := []
  /-- R61, R62, R64: the commands other than reads of images that the loader has sent to the flash since the start, oldest first, each
  with its clock in kHz, and when the reset command went (elapsed nanoseconds). -/
  qspi : List (Nat × Nat) := []
  resetAt : Nat := 0
  /-- R64: the SFDP table declares suspend support; an operation of the firmware on the flash is suspended for a changeover. -/
  suspend : Bool := false
  suspended : Bool := false
  /-- R70, MRAM: the least security version. -/
  minSec : Nat := 0
  /-- R82, R91, MRAM: the slot of the last completed start or changeover and the MACHINE_CRC of its base image. -/
  lastRecipe : Option (Nat × Nat) := none
  /-- R478, R81, MRAM: bytes 0x0E0 to 0x0FF of the MACHINE payload of the last accepted image. -/
  net : Option (List Byte) := none
  /-- R77: the banks still to be tried, the first one next, each with the cause that its header was rejected with; the image read
  from it. -/
  banks : List (Nat × Nat) := []
  cand : Option Image := none
  /-- R83: the base image in use and the recipe in force. -/
  base : Option Image := none
  recipe : Option Image := none
  /-- R87: the recipe that a changeover has staged; its sets to members have been queued. -/
  staged : Option Image := none
  /-- R85: the slot of the changeover in progress. -/
  chgSlot : Nat := 0
  /-- R485: the slot (0 to 7) that an open download writes. -/
  dlSlot : Option Nat := none
  deriving DecidableEq, Repr
/-- The power states beside PWR_ISL (R35 to R40). -/
structure Power where
  /-- R38: bulk memory is in self-refresh. -/
  refresh : Bool := false
  /-- R34: when the recorded cause ended the guarantee (elapsed nanoseconds). -/
  guardAt : Option Nat := none
  deriving DecidableEq, Repr
/-- What an axis holds beside its registers (R119 to R126). -/
structure Axis where
  /-- R121: steps of the enable that have been completed, 0 to 7. -/
  enStep : Nat := 0
  /-- R120: an enable request held while a commit of the entry is pending. -/
  enHeld : Bool := false
  /-- R121, R122: when the brake release or engage time elapses (elapsed nanoseconds), if one is running. -/
  brakeDue : Option Nat := none
  /-- R122: a disable is under way: the brake engages and DISABLED follows. -/
  disabling : Bool := false
  /-- R121, R125: the fitted brake is engaged. -/
  braked : Bool := true
  /-- R125: when the axis entered FAULT (elapsed nanoseconds). -/
  faultAt : Nat := 0
  /-- R126: the fault reaction has finished. -/
  reacted : Bool := true
  /-- R122: consecutive profile periods with the measured speed at most SSVEL. -/
  ssCount : Nat := 0
  /-- R124: consecutive position periods with the following error over FEMAX. -/
  feCount : Nat := 0
  /-- R123: the precedence, 1 highest, of the highest event that changed the axis in this profile period; 0 none. -/
  moved : Nat := 0
  /-- R123: requests of this profile period: bit 0 a disable, bit 1 an enable that was accepted. -/
  asked : Nat := 0
  /-- R114: cached copies of the entry are stale, whatever their tags. -/
  stale : Bool := false
  /-- R104: consecutive velocity periods over 9/8 SPD, and whether the fault of the present run has been detected. -/
  ovsRun : Nat := 0
  /-- R104: the position was outside the envelope at the last sample. -/
  envOut : Bool := false
  /-- R102: the clamps that changed a value in the present position period, laid out as LSH_CLAMP. -/
  clamps : Nat := 0
  /-- R99: the I²t energy in units of 2^-30 IFS² ns, and whether the cap is active. -/
  i2t : Nat := 0
  i2tCap : Bool := false
  /-- R99: the instant of the last write of the current-reference port (elapsed nanoseconds). -/
  irefAt : Option Nat := none
  /-- R276: the feedback-fault code behind a latched cause 0x06. -/
  fbCode : Nat := 0
  /-- R300: the safe-state codes 0x2 to 0x9 in force, bit per code. -/
  safe : Nat := 0
  /-- R202: reaction 0x0 is due at the boundary that ends the repeated period: PWM boundaries to go. -/
  wdogIn : Option Nat := none
  /-- R131: the measured position at the last profile boundary, Q48.16, and the one before it. -/
  meas : Int := 0
  measPrev : Int := 0
  /-- R264: D, the offset that SET_POS or REF_PROBE introduces, Q48.16. -/
  dOfs : Int := 0
  /-- R260: when the last enable was accepted (elapsed nanoseconds). -/
  enAt : Nat := 0
  /-- R192: the hand-over values of an enable await the first precise sample. -/
  preset : Bool := false
  /-- R103: the run of counted periods reached COUNT. -/
  escDue : Bool := false
  /-- R389: the last STATE and APOS that the member reported for a remote axis, and a fault reset to forward. -/
  memState : Nat := 0
  apos : Int := 0
  reqReset : Bool := false
  /-- R118, R120: a remote axis whose member has acknowledged its parameter block. -/
  acked : Bool := false
  /-- R118: the member parameter block of a remote axis is to be sent. -/
  blockDue : Bool := false
  /-- R391, R392: at a member, REACT as the master forwarded it last. -/
  ringReact : Option Nat := none
  deriving DecidableEq, Repr

/-- R96: an accepted lowering that has not yet taken effect: the field and the value. -/
structure Lowering where
  fld : Fld
  value : Nat
  /-- When it was accepted (elapsed nanoseconds). -/
  time : Nat
  deriving DecidableEq, Repr

/-- R115, R116: a pending table commit. -/
structure Commit where
  entry : Nat
  snapshot : List Byte
  newGen : Nat
  /-- R116: the number of the profile period in which it was accepted, by the local clock. -/
  bnd : Int
  deriving DecidableEq, Repr

/-- The limits and commits in progress. -/
structure Limits where
  lowerings : List Lowering := []
  commits : List Commit := []
  /-- R83: the LEASH_LOWER payload in force, if one is. -/
  lower : Option (List Byte) := none
  deriving DecidableEq, Repr

/-- One decoded motion command or segment (R166 to R168): OP, INDEX, MODE, TAG, and its data entries in order, each with its
SEL and its signed 56-bit value. -/
structure MotCmd where
  op : Nat
  index : Nat
  mode : Nat
  tag : Nat
  data : List (Nat × Int) := []
  deriving DecidableEq, Repr

/-- R166: a command being assembled from queue entries: what has come, how many data entries are still to come, and whether an
entry within it was neither a head nor a data entry. -/
structure PartCmd where
  cmd : MotCmd
  left : Nat
  bad : Bool := false
  /-- R162: an abort came while its entries were arriving: it is aborted with this reason once they have. -/
  drop : Option Nat := none
  deriving DecidableEq, Repr

/-- R132, R133: the limits of a motion in one period: speed ceiling, acceleration, deceleration and jerk, in 2^-32 counts per
period and its powers. -/
structure MotLim where
  c : Int
  a : Int
  d : Int
  j : Int
  deriving DecidableEq, Repr

/-- R135, R136: a jerk-limited motion of an axis, of a virtual master, or of a superimposed component. -/
structure Plan where
  /-- The distance still to go, in 2^-32 counts; none for a velocity move or a stop. -/
  target : Option Int := none
  /-- The speed to reach, for a velocity move (0 for a stop). -/
  speed : Int := 0
  /-- V, A, D and J of the command, where given. -/
  v : Option Int := none
  a : Option Int := none
  d : Option Int := none
  j : Option Int := none
  /-- R122, R125: a stop ramp at DFAULT. -/
  fault : Bool := false
  /-- The velocities planned for the periods to come, and the limits for which they were planned. -/
  run : List Int := []
  lim : Option MotLim := none
  /-- R137: the target lay ahead when the motion was planned: a turn beyond it is an overshoot. -/
  ahead : Bool := false
  /-- R135: nothing has been planned yet: the length T counts from here. -/
  first : Bool := true
  deriving DecidableEq, Repr

/-- R145: how far an engage has come: waiting for MPOS, blending (slave position at MPOS), catching, or locked. -/
inductive Engage where
  | waiting
  | blending
  | catching
  | locked
  deriving DecidableEq, Repr

/-- R141 to R146: a coupling of a slave. Positions are in 2^-32 counts. -/
structure Coupling where
  /-- R141: the master's selector. -/
  master : Nat
  isCam : Bool
  tag : Nat
  engage : Engage
  /-- R143: NUM and DEN. -/
  num : Int := 0
  den : Int := 1
  /-- R144: CAMID, MOFS and SOFS. -/
  camId : Nat := 0
  mofs : Int := 0
  sofs : Int := 0
  /-- R145: MPOS and MLEN, and whether the master stood at MPOS when the command was taken. -/
  mpos : Int := 0
  mlen : Int := 0
  atOnce : Bool := false
  /-- The master's position at the end of the last computed period: within its modulo, and without wrap. -/
  mLast : Int := 0
  mu : Int := 0
  /-- The master's place, without wrap, where the engage began, and the master span counted 0 (R144). -/
  mu0 : Int := 0
  span0 : Int := 0
  /-- The coupled set-point at the end of the last computed period, without wrap, and R143's remainder. -/
  cv : Int := 0
  rem : Int := 0
  /-- R146: MPOS of a decouple that waits, its D and J, its TAG, and whether the master stood there when it was taken. -/
  endAt : Option Int := none
  endD : Option Int := none
  endJ : Option Int := none
  endTag : Nat := 0
  endOnce : Bool := false
  /-- R145: the blend as a function of the master's way past MPOS: how far the slave is from the coupled set-point at each of these
  places, and at the end of the last computed period. -/
  blend : List (Int × Int) := []
  gap : Int := 0
  /-- R130: how far a late boundary has put a locked slave ahead of its coupled set-point. -/
  ahead : Int := 0
  /-- R152: the master lay inside the span of a non-periodic cam at the end of the last period. -/
  inSpan : Bool := true
  deriving DecidableEq, Repr

/-- R165 to R170: what the profile engine holds for an axis or, with index 256 + k, for virtual master k. -/
structure Motion where
  /-- The executing command, if it still owes its end event, and the motion under way. -/
  cmd : Option MotCmd := none
  plan : Option Plan := none
  /-- R131: the internal set-point position with 32 fraction bits, its velocity and acceleration, at the end of the period
  computed last. -/
  pos : Int := 0
  vel : Int := 0
  acc : Int := 0
  cpl : Option Coupling := none
  /-- R148: the superimposed move: its command, its plan, and the component's velocity and acceleration. -/
  sup : Option MotCmd := none
  supPlan : Option Plan := none
  supVel : Int := 0
  supAcc : Int := 0
  /-- R119: the state and the MODE that are entered when the set-points computed last take effect (R26). -/
  next : Option (Nat × Nat) := none
  /-- R26, R167: the shift of the position, in 2^-32 counts, that SET_POS, REF_PROBE or VM_SET puts in force at the next boundary. -/
  redef : Option Int := none
  /-- R281: the probe that a running REF_PROBE owns. -/
  probing : Option Nat := none
  deriving DecidableEq, Repr

/-- The executing segment of a path group. Positions are one per slot, in 2^-32 counts, without wrap. -/
structure SegRun where
  /-- The positions at its start. -/
  start : List Int
  /-- The part that is done, in 2^-64: of the segment, or of one span of a spline. -/
  done : Nat := 0
  /-- R164: the control points of the spans of a SPLINE segment, and whether this is the last span of a run, past its last
  segment's point. -/
  ctrl : List (List Int) := []
  tail : Bool := false
  deriving DecidableEq, Repr

/-- R155 to R164: a path group. -/
structure Group where
  /-- R156: the window, the executing segment first. -/
  window : List MotCmd := []
  /-- The executing segment's progress; none before its first period. -/
  run : Option SegRun := none
  /-- R170: the completion buffer of SEG_DONE and SEG_ABORTED events, oldest first, at most 128. -/
  done : List (BitVec 64) := []
  /-- R170: completions that wait for room in the completion buffer. -/
  owed : List (BitVec 64) := []
  /-- R168: FEED in force, and R160: OVR as the last profile boundary found it. -/
  feed : Option Int := none
  ovr : Nat := 0x400
  /-- R157: the distance run in the last period, in 2^-32 counts. -/
  speed : Int := 0
  /-- By how much that distance was more than the one before. -/
  gain : Int := 0
  /-- Where the path stands, without wrap (none listed: at the set-points of its axes), and how far off it each axis is (R158 blend, and
  rounding). -/
  here : List Int := []
  off : List Int := []
  /-- R159: the moves of the periods to come, to a place where the path rests: the part of a segment (2^-64) to go on by, and the
  place off the path. -/
  plan : List (Nat × List Int) := []
  /-- R168: periods of the executing DWELL that have run. -/
  dwelt : Nat := 0
  /-- R162: the reason of the abort under way, and TAG of GROUP_ABORT. -/
  aborting : Option Nat := none
  abortTag : Option Nat := none
  /-- R164: the last two control points that the spline run under way has used. -/
  spline : List (List Int) := []
  /-- R159: TAG of the last segment that left the window, and its corner mode. -/
  lastTag : Nat := 0
  lastCorner : Nat := 0
  /-- R158: TOL and FEED of that segment. -/
  lastTol : Int := 0
  lastFeed : Int := 0
  part : Option PartCmd := none
  deriving DecidableEq, Repr

/-- R149: a cam table in force: its payload. -/
structure CamTable where
  camId : Nat
  payload : List Byte
  deriving DecidableEq, Repr

/-- The profile and path engine. -/
structure Profile where
  motion : Tab Motion := []
  groups : Tab Group := []
  cams : List CamTable := []
  /-- R166: the command of queue 0x00 being assembled. -/
  part : Option PartCmd := none
  /-- R165: the entries of queue 0x00 that the engine may still read in this period. -/
  owed : Nat := 0
  /-- R130: the last boundary was late. -/
  wasLate : Bool := false
  /-- R26: axes (0 to 255), virtual masters (256 + k) and path groups (512 + g) whose set-points of the next period are still
  to be computed. -/
  due : List Nat := []
  /-- R153: the output of each track after its last predicted edge. -/
  trackOn : Tab Bool := []
  deriving DecidableEq, Repr
/-- R205: the register bank and data memory of a context, its ports (R180, R223), and the instance in execution. -/
structure Ctx where
  d : Tab (BitVec 16) := []
  a : Tab (BitVec 40) := []
  l : Tab (BitVec 48) := []
  p : Tab (BitVec 11) := []
  m : Tab (BitVec 32) := []
  z : Bool := false
  n : Bool := false
  /-- AV3 to AV0 and SAT3 to SAT0 (R210, R211). -/
  av : BitVec 4 := 0
  sat : BitVec 4 := 0
  /-- R172: 2 048 words of data memory. -/
  mem : Tab (BitVec 16) := []
  /-- R180: the latched input ports. -/
  isu : BitVec 16 := 0
  isv : BitVec 16 := 0
  isw : BitVec 16 := 0
  eang : BitVec 16 := 0
  pm : BitVec 48 := 0
  pmp : BitVec 48 := 0
  psp : BitVec 48 := 0
  vsp : BitVec 32 := 0
  /-- R199: the clamped current reference, whether it was written since the enable, and the one written in this instance
  with the cycle from which it reads (R224). -/
  irefd : BitVec 16 := 0
  irefq : BitVec 16 := 0
  irefSet : Bool := false
  irefNew : Option (BitVec 16 × BitVec 16 × Nat) := none
  /-- R223: VREF, and whether it was written since the enable. -/
  vref : BitVec 16 := 0
  vrefSet : Bool := false
  dcor : BitVec 16 := 0
  /-- R223, R237: DERR and SDV as written by the velocity instance, if it wrote them. -/
  derr : Option (BitVec 16) := none
  sdv : Option (BitVec 16) := none
  vd : BitVec 16 := 0
  vq : BitVec 16 := 0
  /-- R199: the clamp flag of the IREF port for this instance, and for the next instance of the writing section. -/
  clf : Bool := false
  clfNext : Bool := false
  /-- R200, R224: no velocity boundary has come since the first instance after the enable. -/
  fresh : Bool := true
  /-- R224: an instance has run since the enable. -/
  ran : Bool := false
  /-- R233: a velocity instance has ended whose values the units have not yet taken, and R234's i(k) of it. -/
  due : Bool := false
  iWas : BitVec 16 := 0
  /-- R183: the program counter, the cycles run in the instance, the section, and the repeats in execution (R221): first
  and last index of the body and the runs left, innermost first. -/
  pc : Nat := 0
  cyc : Nat := 0
  sect : Nat := 0
  loops : List (Nat × Nat × Nat) := []
  ended : Bool := true
  /-- R227: the number of the PWM period in which the instance started. -/
  perNum : Nat := 0
  /-- R195: the dwell counts of the Band phases U, V, W, and the phases whose period was cut. -/
  bandW : Tab Nat := []
  bandCut : List Nat := []
  /-- R194: the last two EANG samples with their latch instants, newest first. -/
  angles : List (BitVec 16 × Nat) := []
  /-- R191: the reference in force in the Band unit. -/
  bandRef : BitVec 16 × BitVec 16 := (0, 0)
  /-- R191: the references that velocity slots wrote and the Band unit has not taken, d, q and the end of the slot, oldest first; and
  whether it has taken one since the enable. -/
  refs : List (BitVec 16 × BitVec 16 × Nat) := []
  refTaken : Bool := false
  /-- R207: the slot whose instance has begun and not ended, with the instant it began (elapsed nanoseconds). -/
  slot : Option (Nat × Nat) := none
  /-- R207: what was latched at `latchedAt`: bit 0 the currents, bit 1 the velocity ports, bit 2 the position ports. -/
  latched : Nat := 0
  latchedAt : Nat := 0
  /-- R192: the preset flags were set since the instance in progress began. -/
  preHeld : Bool := false
  /-- R182: the position period since the last profile boundary. -/
  posIdx : Nat := 0
  deriving DecidableEq, Repr

/-- R21, R189: a transfer in flight to a PWM group: a compare of a half-bridge, or the commit request. -/
structure Transfer where
  id : Nat
  axis : Nat
  /-- The half-bridge, or none for the commit request. -/
  ch : Option Nat
  value : Nat := 0
  /-- R189: the number of the PWM period for which it is meant. -/
  per : Nat
  deriving DecidableEq, Repr

/-- The axis control engines. -/
structure Engines where
  ctx : Tab Ctx := []
  /-- R172: program words; bank b of engine k starts at key (2k + b) × 4096. -/
  prog : Tab (BitVec 32) := []
  transfers : List Transfer := []
  nextId : Nat := 0
  /-- R126, R201: the engines whose PLL has lost its lock. -/
  clkLost : List Nat := []
  /-- R302: the engines held by a debug halt. -/
  halted : List Nat := []
  /-- R28: orphan completions counted, by the kind of the operation: 0 handshakes, 1 spill bursts, 2 ring slices. -/
  orphans : Tab Nat := []
  deriving DecidableEq, Repr

/-- R290, R292: one set of PWM values: a compare per half-bridge, period, dead time and dwell, in 250 ps. -/
structure PwmSet where
  cmp : Tab Nat := []
  per : Nat := 0
  dt : Nat := 0
  dwell : Nat := 0
  deriving DecidableEq, Repr

/-- R286: the gates of a half-bridge: the gate called for (0 none, 1 low, 2 high), the instant (250 ps of the model's
time) at which it turns on, and the instants at which the low and the high gate turned off last. -/
structure Gate where
  want : Nat := 0
  onAt : Nat := 0
  offL : Option Nat := none
  offH : Option Nat := none
  deriving DecidableEq, Repr

/-- The PWM of one local axis. -/
structure PwmAxis where
  /-- R179, R290: the staged period, written by the loader. -/
  stagePer : Nat := 0
  stage : Tab Nat := []
  committed : Option PwmSet := none
  applied : Option PwmSet := none
  /-- R294: the PWM is enabled from the next boundary. -/
  arming : Bool := false
  /-- R47, R295: TRIP_N is low; an open land reads low. -/
  tripLow : Bool := true
  /-- R296: when TRIP_N rose last (elapsed nanoseconds). -/
  tripRose : Option Nat := none
  /-- R295: when TRIP_N fell last while the PWM was enabled. -/
  tripFell : Option Nat := none
  /-- R296: the period in progress is cut. -/
  cut : Bool := false
  /-- R299, R301, R302: the gates are held low for the rest of the period, which is not counted as cut. -/
  off : Bool := false
  /-- R197: the half-bridges whose high-side pulse is due in the period in progress. -/
  highDue : List Nat := []
  /-- R187: BPER and WPH still in force, until the Band boundary at which a change of them takes effect. -/
  bandWas : Option (Nat × Nat) := none
  /-- R187: the instant of that boundary (elapsed nanoseconds). -/
  bandAt : Option Nat := none
  /-- The instant of the last period boundary (elapsed nanoseconds). -/
  started : Nat := 0
  /-- R286, R297: the two gates of each half-bridge. -/
  gates : Tab Gate := []
  /-- R189: the write phase of the period in progress has been judged. -/
  judged : Bool := true
  /-- R198: the instant (250 ps) at which the code applied to each half-bridge changed last. -/
  since : Tab Nat := []
  deriving DecidableEq, Repr

/-- The PWM generators (R283 to R307). -/
structure Pwm where
  /-- By local axis; auxiliary channel k is entry 32 + k. -/
  axis : Tab PwmAxis := []
  /-- R299: the levels of the GENA and GENB lands, by group. -/
  genA : Tab Bool := []
  genB : Tab Bool := []
  /-- R301: islands 0 to 8 whose clock is lost. -/
  clkLost : List Nat := []
  /-- R302: core halts in force. -/
  coreHalt : List Nat := []
  /-- R306: chopper channels to turn off at their next boundary. -/
  auxOff : List Nat := []
  /-- R260, R303: the end of APPLY (elapsed nanoseconds), from which the stuck counts of chopper sources run. -/
  auxAt : Nat := 0
  /-- R260: chopper sources found stuck. -/
  auxStuck : List Nat := []
  deriving DecidableEq, Repr

/-- The Darner of a context (R237 to R244). -/
structure Darner where
  /-- R243: the bins, Q1.31. -/
  mem : Tab Int := []
  /-- R238: the open bin with the sum and the count of its accepted samples. -/
  bin : Option Nat := none
  sum : Int := 0
  cnt : Nat := 0
  /-- R240: the phase passed through 0 since the last sample. -/
  passed : Bool := false
  /-- R237: phase, master position and speed at the last velocity boundary; none before the first. -/
  theta : Option Int := none
  master : Int := 0
  speed : Int := 0
  /-- R241: the master was lost at the last boundary. -/
  lost : Bool := false
  /-- R244: the master was lost at the sample before. -/
  gap : Bool := false
  /-- R243: a CLEAR awaits the velocity boundary. -/
  clear : Bool := false
  deriving DecidableEq, Repr

/-- The inertia estimator of a context (R245): the sums with 48 fraction bits. -/
structure Inertia where
  s1 : Int := 0
  sa : Int := 0
  si : Int := 0
  saa : Int := 0
  sai : Int := 0
  deriving DecidableEq, Repr

/-- The Sheepdog of a context beside its registers (R250). -/
structure Sheepdog where
  /-- rf with 24 fraction bits below Q1.15. -/
  rf : Int := 0
  /-- SDV of the sample before, when it was written. -/
  sdv : Option (BitVec 16) := none
  deriving DecidableEq, Repr

/-- R267, R278: a reading of a port: its latch instant (elapsed nanoseconds), X times 2^16, and whether it was extrapolated. -/
structure PortRead where
  time : Nat
  x : Int
  est : Bool := false
  deriving DecidableEq, Repr

/-- A feedback port (R262 to R276). -/
structure Port where
  /-- R264: the count X, signed. -/
  x : Int := 0
  /-- R264: the last good reading of an absolute encoder, if any since the enable. -/
  last : Option Nat := none
  /-- R267: consecutive good cyclic readings since the enable, up to 2. -/
  good : Nat := 0
  /-- R267: the reading taken since the last velocity boundary: X times 2^16 before extrapolation; none when none succeeded. -/
  taken : Option Int := none
  /-- R268: the value extrapolated for the next reading, in counts. -/
  pred : Option Int := none
  /-- R268: the readings since the last boundary failed. -/
  failed : Bool := false
  /-- R267: y(k) - y(k-1), in counts. -/
  inc : Int := 0
  /-- The position at the last boundary as X times 2^16, and its last increment (R268). -/
  xb : Int := 0
  xbInc : Int := 0
  /-- R278: the readings with their latch instants, newest first: those of the last 2^24 ns and two more. -/
  reads : List PortRead := []
  /-- R265: the accepted levels of A, B and Z. -/
  a : Bool := false
  b : Bool := false
  z : Bool := false
  /-- R278: the instants of the accepted edges with their directions, newest first: those of the last 2^24 ns and two more. -/
  edges : List (Nat × Bool) := []
  /-- R265: edges since the last rising Z edge, once there has been one since the start. -/
  index : Option Nat := none
  /-- R276: the pairs seen open or shorted, bit per pair. -/
  broken : Nat := 0
  /-- R273: the acyclic request that awaits its exchange: code, address, data. -/
  areq : Option (Nat × Nat × Nat) := none
  /-- R270: the last request frame sent on the Afven link. -/
  sent : List Byte := []
  deriving DecidableEq, Repr

/-- R278: an accepted edge whose latch is to complete: its instant (elapsed), its T32 stamp, its polarity, and the position,
once it is known; `win` when the window is still to be judged (R279). -/
structure ProbeEdge where
  time : Nat
  stamp : Nat
  rising : Bool
  pos : Option Int := none
  win : Bool := false
  deriving DecidableEq, Repr

/-- A probe (R277 to R281). -/
structure Probe where
  /-- R279: the instant of the last accepted edge (elapsed nanoseconds). -/
  edgeAt : Option Nat := none
  waiting : List ProbeEdge := []
  /-- R281: PRCFG and PRSEL to restore after REF_PROBE. -/
  saved : Option (Nat × Nat) := none
  deriving DecidableEq, Repr

/-- The current-sense front end (R255 to R261). -/
structure Csf where
  /-- R260: consecutive strobes of an axis with the sum of its currents over SUMTH. -/
  sumRun : Tab Nat := []
  /-- R260: channels whose stream is stuck at present. -/
  stuck : List Nat := []
  /-- R257, R282: when a command told the stream of a channel last (elapsed nanoseconds). -/
  told : Tab Nat := []
  deriving DecidableEq, Repr

/-- R355, R356: the buffer of an armed channel: its slots in the order of NEXT, its descriptor, what was fitted at arm, the
instant of its first sample (nanoseconds of the local clock), the samples taken since the arm, and the trigger sample's number
once the group has triggered (R365). -/
structure AcqChan where
  slots : List Nat
  rid : Nat
  size : Nat
  ts : Nat
  depth : Nat
  pre : Nat
  post : Nat
  first : Nat
  taken : Nat := 0
  trig : Option Nat := none
  /-- R372: the full values of the samples in the ring, by place, for BASE. -/
  full : Tab Int := []
  deriving DecidableEq, Repr

/-- R362 to R368: an armed group: the instants (local clock) of the end of its re-arm time and of entering ARMED, tt in 1/256 ns
and the record flags, a FORCE that waits for a boundary of TCH, and the trigger detector (R364). -/
structure AcqGroup where
  rearmAt : Nat := 0
  armedAt : Nat := 0
  tt : Nat := 0
  flags : Nat := 0
  force : Bool := false
  y0 : Option Int := none
  low : Bool := false
  high : Bool := false
  deriving DecidableEq, Repr

/-- The acquisition engine (R352 to R377). -/
structure Acq where
  /-- R355: the 8 MiB capture SRAM by byte address, in canonical form; an unlisted byte reads 0x00 (log 5). -/
  sram : List Host.Cell := []
  chan : Tab AcqChan := []
  group : Tab AcqGroup := []
  /-- R372: records closed by each channel. -/
  seq : Tab Nat := []
  /-- R361: groups whose arm waits for the wake of the island. -/
  wake : List Nat := []
  /-- R370: frames to send: line and tt in 1/256 ns. -/
  out : List (Nat × Nat) := []
  /-- R370: the instant of the last frame's start per line (elapsed), and the nine bits after its start bit. -/
  sentAt : Tab Nat := []
  sent : Tab Nat := []
  deriving DecidableEq, Repr

/-- R402: a member of RINGMAP. -/
structure MapEntry where
  addr : Nat
  nsub : Nat
  frame : Nat
  safe : Bool
  mident : Nat
  mcrc : Nat
  fofs : Nat
  deriving DecidableEq, Repr

/-- R394, R395: a supervisory request of the master: where it goes, its message, its MSEQ, how often it has been sent, the CYCLE of
the last time, whether it is to be sent again, and the instant of the first time (elapsed). -/
structure SvReq where
  dest : Nat
  mtype : Nat
  data : List Byte
  seq : Nat
  sends : Nat := 0
  cyc : Nat := 0
  again : Bool := false
  since : Option Nat := none
  deriving DecidableEq, Repr

/-- R394: a reply of a member: MTYPE and MSEQ of the request, RSTAT, RDATA, and the entry whose commit it waits for. -/
structure SvReply where
  mtype : Nat
  seq : Nat
  stat : Nat
  data : List Byte
  waits : Option Nat := none
  deriving DecidableEq, Repr

/-- A frame that a ring port sends: the port (0 A, 1 B), a link-delay response rather than a ring frame (R416), a correct FCS
(R386), and its bytes after the EtherType. -/
structure RingTx where
  port : Nat
  link : Bool := false
  ok : Bool := true
  data : List Byte
  deriving DecidableEq, Repr

/-- What the master holds for a member beside its registers. -/
structure RingMem where
  /-- R395: its requests, oldest first. -/
  reqs : List SvReq := []
  /-- R383, R393: its slice as last returned with SEEN, and whether it has been taken in the present cycle. -/
  slice : List Byte := []
  seen : Bool := false
  /-- R394: the subaxes whose blocks of STAGE 0 await acknowledgement, and the first send of one (elapsed). -/
  owed : List Nat := []
  owedAt : Option Nat := none
  /-- R88: the subaxes whose staged blocks await acknowledgement. -/
  stageOwed : List Nat := []
  deriving DecidableEq, Repr

/-- The ring interface (R378 to R403) beside its registers. -/
structure Ring where
  /-- R402: the RINGMAP in force, and FLEN. -/
  map : List MapEntry := []
  flen : List Nat := []
  /-- R396: the clock of island 0x18 is lost. -/
  clkLost : Bool := false
  /-- R383, R397: RING is to end at the next boundary; a DISCOVER frame is due. -/
  broken : Bool := false
  discover : Bool := false
  /-- R387: of the present cycle: cycle frames sent, those sent on port B and returned on port A, whether a CLOSE frame was sent and
  whether it returned on port A with RET 0, and whether the deadline has been judged. -/
  sent : List Nat := []
  back : List Nat := []
  closeSent : Bool := false
  closeBack : Bool := false
  judged : Bool := true
  /-- R387: when cycle frame 0 started at port B (elapsed). -/
  rttFrom : Nat := 0
  /-- The frames sent since the last ring boundary, oldest first. -/
  tx : List RingTx := []
  /-- Until when the transmit direction of each port is busy, in 250 ps. -/
  busy : Tab Nat := []
  /-- R401: the frame buffers in use: 1 RECEIVING, 2 FORWARDING, 3 AWAITING_TX, and until when, in 250 ps. -/
  bufs : List (Nat × Nat) := []
  mems : Tab RingMem := []
  /-- R395: the member served last, and the next MSEQ. -/
  served : Nat := 0
  mseq : Nat := 0
  /-- R88: the commit cycle that the master announces, or that a member has heard. -/
  cmt : Option Nat := none
  /-- R88: the first send of a staged set of the changeover under way (elapsed). -/
  stageAt : Option Nat := none
  /-- R395: the message buffers in use. -/
  svUse : List Nat := []
  /-- R389: the containers to send and those received, by member address (0 for a member's own). -/
  sout : Tab (List Byte) := []
  sin : Tab (List Byte) := []
  /-- R389: REQSEQ and REQ sent last, by remote axis. -/
  axReq : Tab (Nat × Nat) := []
  /-- R420: the CYCLE in which the re-step permits begin. -/
  restep : Option Nat := none
  /-- R394: at a member, TP and TR as IDENT gave them. -/
  tp : Nat := 0
  tr : Nat := 0
  /-- R394, R88: the member's parameter blocks and its staged ones, by subaxis. -/
  blocks : Tab (List Byte) := []
  stage : Tab (List Byte) := []
  /-- R395: the member's waiting replies, oldest first, and the one given last. -/
  replies : List SvReply := []
  last : Option SvReply := none
  /-- R390: ACKSEQ, by subaxis. -/
  acks : Tab Nat := []
  /-- R388: the inputs latched at the boundary, 16 bytes by subaxis. -/
  inputs : Tab (List Byte) := []
  /-- R388: the set-points with NEW that await the boundary, by subaxis. -/
  newSet : Tab (Int × Int) := []
  /-- R392: a correct frame with the slice and ACT 1 has come in the present cycle; consecutive cycles without; the loss has been
  latched. -/
  got : Bool := false
  missed : Nat := 0
  lossDone : Bool := false
  deriving DecidableEq, Repr
/-- R421: a foreign master as its Announce messages describe it: its port, the data set that the best-master selection compares,
currentUtcOffset and whether it is valid, the announce interval (ns), and the instants of its last two messages (elapsed). -/
structure Foreign where
  clock : Nat
  port : Nat
  prio1 : Nat
  cls : Nat
  acc : Nat
  var : Nat
  prio2 : Nat
  gm : Nat
  steps : Nat
  utc : Nat
  utcOk : Bool
  interval : Nat
  seenAt : Nat
  before : Option Nat := none
  deriving DecidableEq, Repr

/-- R421: an event message that this port sends: 0 Delay_Req, 1 Pdelay_Req, 2 Pdelay_Resp, 3 Pdelay_Resp_Follow_Up, with its
sequence number, the port it answers, and the time that it carries, in 2^-16 ns. -/
structure PtpTx where
  kind : Nat
  seq : Nat
  clock : Nat := 0
  port : Nat := 0
  time : Int := 0
  deriving DecidableEq, Repr

/-- The time unit (R404 to R424) beside its registers. Times are in 2^-16 ns unless said otherwise. -/
structure TimeUnit where
  /-- R411: ri, in 2^-32 ns per ns. -/
  ri : Int := 0
  /-- R413: the instant of the last sample (elapsed). -/
  lastAt : Nat := 0
  /-- R418, R421: samples towards the qualification of the source. -/
  qual : Nat := 0
  /-- R418: CYCLE of the last sample, and TSYNC of the last even and the last odd cycle: CYCLE, SEC and NS. -/
  sampled : Option Nat := none
  even : Option (Nat × Nat × Nat) := none
  odd : Option (Nat × Nat) := none
  /-- R416: CYCLE and start, in 1/256 ns, of the frame that each port sent last for a measurement, and its last 16 valid delays. -/
  t1 : Tab (Nat × Nat) := []
  delays : Tab (List Nat) := []
  /-- R421: the foreign masters heard, and the selected one's port. -/
  masters : List Foreign := []
  parent : Option (Nat × Nat) := none
  /-- A two-step Sync that awaits its Follow_Up: sequence number, arrival, correction, interval in ns. -/
  sync : Option (Nat × Int × Int × Nat) := none
  /-- t1 and t2 of the last Sync, correction applied. -/
  pair : Option (Int × Int) := none
  /-- The request sent last: sequence number and departure; its two-step response: arrival less t2, corrections applied. -/
  req : Option (Nat × Int) := none
  resp : Option (Nat × Int) := none
  nextSeq : Nat := 0
  /-- The path delay, once measured. -/
  delay : Option Int := none
  /-- The messages sent by the last command. -/
  out : List PtpTx := []
  deriving DecidableEq, Repr
/-- One DIO channel: the logic side and the field side (R425 to R444). -/
structure DioChan where
  /-- Field side: programmed since its die powered up, and the content of the last frame. -/
  prog : Bool := false
  mode : Nat := 0
  safeVal : Bool := false
  hold : Bool := false
  cmd : Bool := false
  /-- R428: the instant of the last frame (elapsed), the timeout state, and the switch state that a hold channel keeps. -/
  frameAt : Nat := 0
  /-- R428: HBT, in ms, as programmed. -/
  hbt : Nat := 0
  timeout : Bool := false
  held : Bool := false
  /-- R441: thermal shutdown until the retry, and since when. -/
  therm : Bool := false
  thermAt : Nat := 0
  /-- The switch. -/
  on : Bool := false
  /-- Logic side: the raw level last received, the instant of its last change, and the filtered level before IINV. -/
  raw : Bool := false
  rawAt : Nat := 0
  filt : Bool := false
  /-- R430: the instant of the last frame from the field side. -/
  heard : Nat := 0
  /-- R433: since when the other conditions of validity have held. -/
  okAt : Option Nat := none
  /-- R435: the level last reported as an event. -/
  reported : Bool := false
  /-- R440: the instant at which the commanded state changed last. -/
  cmdAt : Nat := 0
  /-- R440: the instant of the last change of the switch, the land level or the current limit. -/
  steadyAt : Nat := 0
  deriving DecidableEq, Repr

/-- R153, R439: a stamped edge of a cam-switch track: track, output after the edge, instant (elapsed), T32 stamp. -/
structure CamEdge where
  track : Nat
  on : Bool
  time : Nat
  stamp : Nat
  /-- R439: it was computed after its stamp had passed. -/
  late : Bool := false
  deriving DecidableEq, Repr

/-- R436: the writes of one logic-side cycle, number `num` of 10 ns: DIO_OUT before it, the last value written to DIO_OUT, and the bits written to
DIO_SET and DIO_CLR. -/
structure OutCycle where
  num : Nat
  base : Nat
  out : Option Nat := none
  set : Nat := 0
  clr : Nat := 0
  deriving DecidableEq, Repr

/-- The digital field I/O. -/
structure Dio where
  /-- R436: the present logic-side cycle, if something was written in it. -/
  cyc : Option OutCycle := none
  chan : Tab DioChan := []
  /-- R442: since when a group's overload shutdown has been in force. -/
  govlAt : Tab Nat := []
  /-- R443, R442: the supply state of each group as its own side decides it (OFF until it has decided), and the groups in overload
  shutdown. -/
  sup : Tab Nat := []
  shut : List Nat := []
  /-- R154: the cam-switch edges that await their stamps, in order. -/
  edges : List CamEdge := []
  deriving DecidableEq, Repr

/-- The safety subsystem (R449 to R474) beside its registers. Of the two technologies the safety core is number 0 and the Kerca logic
number 1; instants are elapsed nanoseconds. -/
structure Saf where
  /-- R453, R462: the SAFETY payload in force from the end of APPLY on; empty before. -/
  payload : List Byte := []
  /-- R457: the pair states of the Kerca logic; those of the core are in SAF_PAIR. -/
  kPair : Tab Nat := []
  /-- R457: since when the channels of pair i disagree, R460: when it entered its state, by 16 × technology + i. -/
  split : Tab (Option Nat) := []
  pairAt : Tab Nat := []
  /-- R460, R462: when function f entered its state, by 32 × technology + f. -/
  fnAt : Tab Nat := []
  /-- R462: by 32 f + a: |v| of axis a when SS1-r function f entered STOPPING; the position of axis a at the activation of SOS, or the
  furthest in the allowed direction of SDI. -/
  v0 : Tab Nat := []
  base : Tab Int := []
  /-- R463: the positions of PSRC1 and PSRC2 at the end of APPLY, and of PSRC1 at the last measurement, by axis. -/
  cap : Tab (Int × Int) := []
  place : Tab Int := []
  measAt : Nat := 0
  /-- R451: the last heartbeat of the core, the last sign of the Kerca logic, and since when the two disagree. -/
  hbCore : Nat := 0
  hbKerca : Nat := 0
  apart : Option Nat := none
  /-- R458: SRST_IN is pressed since. -/
  press : Option Nat := none
  /-- R465: since when each group is released. -/
  freeAt : Tab Nat := []
  /-- R455: the Feedback section (128 bytes) of each PSRC2 port. -/
  ports : Tab (List Byte) := []
  /-- R469 to R471: by connection: RNG_CYCNT at the last new PDU, whether the peer's SEQ is recorded, the last fresh PDU, and its
  payload. -/
  sentCyc : Tab Nat := []
  heard : Tab Bool := []
  freshAt : Tab Nat := []
  inputs : Tab (List Byte) := []
  /-- R473, safety MRAM: the stored SCRC, SALT and PWHASH. -/
  stored : Option (Nat × List Byte × List Byte) := none
  /-- R474, safety MRAM: the change log, 32 bytes an entry, oldest first, and the next SEQ. -/
  log : List (List Byte) := []
  nextSeq : Nat := 0
  /-- R473: since when requests are locked out. -/
  lockAt : Option Nat := none
  deriving DecidableEq, Repr
/-- R480, R481: who sent a service request: an endpoint (address and UDP port), or the master over the supervisory channel. -/
structure SvcFrom where
  ip : Nat
  port : Nat
  ring : Bool := false
  deriving DecidableEq, Repr

/-- R480: an endpoint, the SEQ of its last request, and the response to it; none while the request is in execution. -/
structure SvcEnd where
  who : SvcFrom
  seq : Nat
  resp : Option (List Byte) := none
  deriving DecidableEq, Repr

/-- R484: a MOTION whose waiting push has not been accepted: the core that pushes for it, the request, and MSEQ of a request over the
supervisory channel. -/
structure SvcMotion where
  core : Nat
  who : SvcFrom
  seq : Nat
  mseq : Nat
  deriving DecidableEq, Repr

/-- R485: the open download. -/
structure Download where
  who : SvcFrom
  target : Nat
  length : Nat
  got : Nat := 0
  deriving DecidableEq, Repr

/-- The service port (R478 to R487). -/
structure Svc where
  /-- R480: the last 16 endpoints, the most recent one last. -/
  ends : List SvcEnd := []
  /-- The frame that the last command sent at the service port, if it sent one; for ARP and ICMP echo, that it answered. -/
  sent : Option (List Byte) := none
  answered : Bool := false
  /-- R81, R478: the IPv4 address of the next hop of that frame: the requester, or the gateway where MASK says so. -/
  via : Nat := 0
  /-- R484: the host buffer of events, oldest first, and LOST. -/
  events : List (BitVec 64) := []
  lost : Nat := 0
  motions : List SvcMotion := []
  download : Option Download := none
  deriving DecidableEq, Repr

/-- R493: the instructions of the boundary-scan port. -/
inductive JtagInstr where
  | bypass
  | idcode
  | sample
  | extest
  deriving DecidableEq, Repr

/-- The boundary-scan port (R493): the instruction, the bits that it captured last, and the boundary cells loaded last. -/
structure Jtag where
  instr : JtagInstr := .idcode
  captured : List Bool := []
  cells : List Bool := []
  deriving DecidableEq, Repr
/-- The state of the part. -/
structure State where
  /-- The commands that are waiting, first in, first out. -/
  pending : List Instr := []
  /-- The model's own counter of the free values drawn (log 2); no statement rests on its value. -/
  fresh : Nat := 0
  /-- The local clock (R16, R404). -/
  clk : Clk := {}
  /-- Every 32-bit register word, by address; an unlisted one holds its reset value (R6, `resetWord`). -/
  regs : Tab Word := []
  /-- R12: the 2 GiB of bulk memory by address, in canonical form; an unlisted byte reads 0x00 (log 5). -/
  bulk : List Host.Cell := []
  /-- R7: the W1C bits that the hardware has set at the present instant, a mask by register address (log 66). -/
  sets : Tab Nat := []
  /-- Shadows and held words (R10). -/
  bus : Bus := {}
  /-- The error log (R488 to R492). -/
  log : ErrLog := {}
  /-- The Kennel's lists (R311 to R330). -/
  knl : Knl := {}
  /-- The queue fabric (R335 to R350). -/
  que : Que := {}
  /-- The loader, flash, MRAM and reset lines (R44 to R92). -/
  boot : Boot := {}
  /-- Bulk-memory self-refresh (R38) -/
  pow : Power := {}
  /-- What each axis 0 to 255 holds beside its registers (R119 to R126). -/
  axes : Tab Axis := []
  /-- Lowerings and table commits in progress (R96, R115). -/
  lim : Limits := {}
  /-- The profile and path engine (R128 to R171). -/
  prf : Profile := {}
  /-- The axis control engines (R172 to R232). -/
  eng : Engines := {}
  /-- The PWM generators (R283 to R307). -/
  pwm : Pwm := {}
  /-- The Darner memories of axes 0 to 31 (R243) -/
  drn : Tab Darner := []
  /-- The inertia estimators of axes 0 to 31 (R245) -/
  ine : Tab Inertia := []
  /-- The Sheepdogs of axes 0 to 31 (R249) -/
  shp : Tab Sheepdog := []
  /-- The current-sense front end (R255 to R261) -/
  csf : Csf := {}
  /-- The feedback ports 0 to 33 (R262) -/
  ports : Tab Port := []
  /-- The probes 0 to 15 (R277) -/
  probes : Tab Probe := []
  /-- R274: the Feedback section (128 bytes) of master-encoder ports 32 and 33, from the MACHINE record -/
  menc : Tab (List Byte) := []
  /-- The acquisition engine (R352 to R377). -/
  acq : Acq := {}
  /-- The ring interface (R378 to R403). -/
  ring : Ring := {}
  /-- The time unit (R404 to R424). -/
  tim : TimeUnit := {}
  /-- The digital field I/O (R425 to R446) -/
  dio : Dio := {}
  /-- The safety subsystem (R449 to R474). -/
  saf : Saf := {}
  /-- The service port (R478 to R487) -/
  svc : Svc := {}
  /-- The boundary-scan port (R493) -/
  jtag : Jtag := {}
  deriving DecidableEq, Repr

/-- Nothing in the spec stops the part: there is no fault. -/
inductive Fault where
  deriving DecidableEq, Repr

/-- Why a step refuses a command. -/
inductive Refusal where
  /-- Raised by an arm of `exec` whose command has no meaning yet. Safe: nothing can be proved of its next state. -/
  | notModelled (mnemonic : String)
  deriving DecidableEq, Repr

/-- R6, R48, R76: the part right after reset, held by the supervisor: every register word at its Reset column, every list
empty. The fields that the spec gives no reset value for are named in log 3. -/
def State.reset : State := {}

/-- Change `clk` alone. -/
def State.onClk (f : Clk → Clk) (s : State) : State := { s with clk := f s.clk }
/-- Change `regs` alone. -/
def State.onRegs (f : Tab Word → Tab Word) (s : State) : State := { s with regs := f s.regs }
/-- Change `bulk` alone. -/
def State.onBulk (f : List Host.Cell → List Host.Cell) (s : State) : State := { s with bulk := f s.bulk }
/-- Change `sets` alone. -/
def State.onSets (f : Tab Nat → Tab Nat) (s : State) : State := { s with sets := f s.sets }
/-- Change `bus` alone. -/
def State.onBus (f : Bus → Bus) (s : State) : State := { s with bus := f s.bus }
/-- Change `log` alone. -/
def State.onLog (f : ErrLog → ErrLog) (s : State) : State := { s with log := f s.log }
/-- Change `knl` alone. -/
def State.onKnl (f : Knl → Knl) (s : State) : State := { s with knl := f s.knl }
/-- Change `que` alone. -/
def State.onQue (f : Que → Que) (s : State) : State := { s with que := f s.que }
/-- Change `boot` alone. -/
def State.onBoot (f : Boot → Boot) (s : State) : State := { s with boot := f s.boot }
/-- Change `pow` alone. -/
def State.onPow (f : Power → Power) (s : State) : State := { s with pow := f s.pow }
/-- Change `axes` alone. -/
def State.onAxes (f : Tab Axis → Tab Axis) (s : State) : State := { s with axes := f s.axes }
/-- Change `lim` alone. -/
def State.onLim (f : Limits → Limits) (s : State) : State := { s with lim := f s.lim }
/-- Change `prf` alone. -/
def State.onPrf (f : Profile → Profile) (s : State) : State := { s with prf := f s.prf }
/-- Change `eng` alone. -/
def State.onEng (f : Engines → Engines) (s : State) : State := { s with eng := f s.eng }
/-- Change `pwm` alone. -/
def State.onPwm (f : Pwm → Pwm) (s : State) : State := { s with pwm := f s.pwm }
/-- Change `drn` alone. -/
def State.onDrn (f : Tab Darner → Tab Darner) (s : State) : State := { s with drn := f s.drn }
/-- Change `ine` alone. -/
def State.onIne (f : Tab Inertia → Tab Inertia) (s : State) : State := { s with ine := f s.ine }
/-- Change `shp` alone. -/
def State.onShp (f : Tab Sheepdog → Tab Sheepdog) (s : State) : State := { s with shp := f s.shp }
/-- Change `csf` alone. -/
def State.onCsf (f : Csf → Csf) (s : State) : State := { s with csf := f s.csf }
/-- Change `ports` alone. -/
def State.onPorts (f : Tab Port → Tab Port) (s : State) : State := { s with ports := f s.ports }
/-- Change `probes` alone. -/
def State.onProbes (f : Tab Probe → Tab Probe) (s : State) : State := { s with probes := f s.probes }
/-- Change `menc` alone. -/
def State.onMenc (f : Tab (List Byte) → Tab (List Byte)) (s : State) : State := { s with menc := f s.menc }
/-- Change `acq` alone. -/
def State.onAcq (f : Acq → Acq) (s : State) : State := { s with acq := f s.acq }
/-- Change `ring` alone. -/
def State.onRing (f : Ring → Ring) (s : State) : State := { s with ring := f s.ring }
/-- Change `tim` alone. -/
def State.onTim (f : TimeUnit → TimeUnit) (s : State) : State := { s with tim := f s.tim }
/-- Change `dio` alone. -/
def State.onDio (f : Dio → Dio) (s : State) : State := { s with dio := f s.dio }
/-- Change `saf` alone. -/
def State.onSaf (f : Saf → Saf) (s : State) : State := { s with saf := f s.saf }
/-- Change `svc` alone. -/
def State.onSvc (f : Svc → Svc) (s : State) : State := { s with svc := f s.svc }
/-- Change `jtag` alone. -/
def State.onJtag (f : Jtag → Jtag) (s : State) : State := { s with jtag := f s.jtag }
/-- Change the counter of free values alone. -/
def State.onFresh (f : Nat → Nat) (s : State) : State := { s with fresh := f s.fresh }

end Sys2Proof.Machine
end

