-- ==== Sys2Proof/Machine/Ops.lean ====
section
/-! DEFINITION. The named operations over the state: register words and fields, bulk memory, time, free values, reports
to the error log, Kennel events and queue pushes. -/

namespace Sys2Proof.Machine

/-! ### Register words and fields -/

/-- The register word at `a`: the listed word, or the reset value (R6). -/
def State.rd (s : State) (a : Nat) : Nat :=
  match tabFind s.regs a with
  | some w => w.toNat
  | none => resetWord a

/-- Store a register word. -/
def State.wr (a v : Nat) (s : State) : State := s.onRegs fun t => tabSet t a (BitVec.ofNat 32 v)

/-- The value of field `f` in the word `w`. -/
def fldOf (f : Fld) (w : Nat) : Nat := w / 2 ^ f.lo % 2 ^ f.width

/-- The word `w` with field `f` replaced by the low bits of `v`. -/
def fldPut (f : Fld) (v w : Nat) : Nat :=
  w / 2 ^ (f.lo + f.width) * 2 ^ (f.lo + f.width) + v % 2 ^ f.width * 2 ^ f.lo + w % 2 ^ f.lo

/-- A field of a register. -/
def State.get (s : State) (f : Fld) : Nat := fldOf f (s.rd f.addr)

/-- A one-bit field as a Boolean. -/
def State.flag (s : State) (f : Fld) : Bool := s.get f == 1

/-- A field read as a signed number. -/
def State.getS (s : State) (f : Fld) : Int := signed f.width (s.get f)

/-- Set a field of a register to the low bits of `v`; the word's other bits stay. -/
def State.put (f : Fld) (v : Nat) (s : State) : State := s.wr f.addr (fldPut f v (s.rd f.addr))

/-- Set a signed field. -/
def State.putS (f : Fld) (v : Int) (s : State) : State := s.put f (unsigned f.width v)

/-- Set a one-bit field. -/
def State.mark (f : Fld) (b : Bool) (s : State) : State := s.put f (b2n b)

/-- R7: the hardware sets a W1C bit; a write of 1 at the same instant does not clear it (log 66). -/
def State.latch (f : Fld) (s : State) : State := (s.mark f true).onSets fun t => tabMod 0 t f.addr fun m => m ||| 2 ^ f.lo

/-- R7: the W1C bits of the word at `a` that the hardware has set at the present instant. -/
def State.justSet (s : State) (a : Nat) : Nat := tabGet 0 s.sets a

/-- Add 1 to a counter field that wraps. -/
def State.bump (f : Fld) (s : State) : State := s.put f (s.get f + 1)

/-- Add `k` to a counter field that saturates. -/
def State.satBump (f : Fld) (k : Nat) (s : State) : State := s.put f (satAdd f.width (s.get f) k)

/-- Take `k` from a counter field, stopping at 0. -/
def State.drop (f : Fld) (k : Nat) (s : State) : State := s.put f (s.get f - k)

/-- A whole 32-bit register as a field. -/
def whole (a : Nat) : Fld := ⟨a, 0, 32⟩

/-- A 64-bit register (R10): the low word is at the lower address. -/
def State.rd64 (s : State) (a : Nat) : Nat := s.rd a + 2 ^ 32 * s.rd (a + 4)

/-- A 64-bit register read as a signed number (R15). -/
def State.rd64S (s : State) (a : Nat) : Int := signed 64 (s.rd64 a)

/-- Store a 64-bit register. -/
def State.wr64 (a v : Nat) (s : State) : State := (s.wr a (v % 2 ^ 32)).wr (a + 4) (v / 2 ^ 32)

/-- Store a signed 64-bit register. -/
def State.wr64S (a : Nat) (v : Int) (s : State) : State := s.wr64 a (unsigned 64 v)

/-- Bit `c` of a 64-bit register. -/
def State.bit64 (s : State) (a c : Nat) : Bool := bit (s.rd64 a) c

/-- Set bit `c` of a 64-bit register. -/
def State.setBit64 (a c : Nat) (b : Bool) (s : State) : State := s.wr64 a (setBit (s.rd64 a) c b)

/-! ### Bulk memory (R12): a list of address and byte in rising order, with no listed byte equal to 0x00 -/

/-- The byte of a memory at an address: the listed byte, or 0x00 (log 5). -/
def memByte (m : List Host.Cell) (a : Nat) : Byte := tabGet 0 m a

/-- Put a byte into a memory, keeping its canonical form. -/
def memPut (m : List Host.Cell) (a : Nat) (v : Byte) : List Host.Cell := if v = 0 then tabDel m a else tabSet m a v

/-- Put bytes at rising addresses. -/
def memPuts (m : List Host.Cell) (a : Nat) : List Byte → List Host.Cell
  | [] => m
  | b :: l => memPuts (memPut m a b) (a + 1) l

/-- The canonical form: addresses strictly rising from at least `lo`, no byte 0x00 listed. -/
def memWfFrom (lo : Nat) : List Host.Cell → Bool
  | [] => true
  | (a, v) :: t => lo ≤ a && v != 0 && memWfFrom (a + 1) t

/-- The canonical form of a memory. -/
def Memory.wf (m : List Host.Cell) : Bool := memWfFrom 0 m

/-- Is the byte at `a` in bulk memory (R12)? -/
def inBulk (a : Nat) : Bool := 0x80000000 ≤ a && a < 0x100000000

/-- `n` bytes of bulk memory from `a`. -/
def State.bulkBytes (s : State) (a n : Nat) : List Byte := (List.range n).map fun i => memByte s.bulk (a + i)

/-- The little-endian number of `n` bytes of bulk memory at `a`. -/
def State.bulkLe (s : State) (a n : Nat) : Nat := ofLe (s.bulkBytes a n)

/-- Store one byte; an address outside bulk memory holds nothing. -/
def State.bulkPut (a : Nat) (v : Byte) (s : State) : State :=
  s.onBulk fun m => if inBulk a then memPut m a v else m

/-- Store bytes at rising addresses. -/
def State.bulkStore (a : Nat) : List Byte → State → State
  | [], s => s
  | b :: l, s => State.bulkStore (a + 1) l (s.bulkPut a b)

/-! ### Time (R16, R17, R404) -/

/-- Let `dt` nanoseconds of reference time pass: the local clock advances by (1 + RATE × 2^-32) ns for each (R404). -/
def Clk.advance (dt : Nat) (rate : Int) (c : Clk) : Clk :=
  if c.running then
    let f : Int := (((c.sec * 10 ^ 9 + c.ns) * 2 ^ 32 + c.frac : Nat) : Int) + (dt : Int) * (2 ^ 32 + rate)
    let t : Nat := f.toNat
    { c with
      elapsed := c.elapsed + dt
      pace := if dt = 0 then c.pace else (2 ^ 32 + rate).toNat
      frac := t % 2 ^ 32
      ns := t / 2 ^ 32 % 10 ^ 9
      sec := t / 2 ^ 32 / 10 ^ 9 % 2 ^ 48 }
  else { c with elapsed := c.elapsed + dt }

/-- R404, R18: the passing of reference time before a command; a new instant has no W1C bit set in it yet (R7). -/
def State.elapse (dt : Nat) (s : State) : State :=
  (s.onClk (Clk.advance dt (signed 32 (s.rd TIM_RATE)))).onSets fun t => if dt = 0 then t else []

/-- The whole nanoseconds of the local clock. -/
def State.now (s : State) : Nat := s.clk.sec * 10 ^ 9 + s.clk.ns

/-- R17: the stamp of the present instant in format T32. -/
def State.t32 (s : State) : Nat := s.now % 2 ^ 32

/-- The nanosecond count one nanosecond of the reference ago; -1 at the start of a second. -/
def Clk.before (c : Clk) : Int := (((c.ns * 2 ^ 32 + c.frac : Nat) : Int) - (c.pace : Int)) / 2 ^ 32

/-- Did the nanosecond count, in the last nanosecond of the reference, come to `o` plus a multiple of `p`? With RATE 0 that is the count
itself; a count that RATE makes the clock pass over is met in the nanosecond that passes over it (log 109). -/
def State.atPhase (s : State) (p o : Nat) : Bool :=
  s.clk.running && p != 0 && ((s.clk.ns : Int) - (o : Int)) / (p : Int) != (s.clk.before - (o : Int)) / (p : Int)

/-- R22: does a boundary of period `p` ns fall at the present instant? -/
def State.atBoundary (s : State) (p : Nat) : Bool := s.atPhase p 0

/-- Set several register words. -/
def State.wrs (l : List (Nat × Nat)) (s : State) : State := l.foldl (fun s e => s.wr e.1 e.2) s

/-- Set several fields. -/
def State.puts (l : List (Fld × Nat)) (s : State) : State := l.foldl (fun s e => s.put e.1 e.2) s

/-! ### Free values (log 2) -/

/-- The next free value, below `n` (0 for `n` 0). -/
def State.free (s : State) (n : Nat) : Nat := if n = 0 then 0 else Config.freeNat s.fresh % n

/-- Count the free values drawn. -/
def State.drew (k : Nat) (s : State) : State := s.onFresh (· + k)

/-! ### Reports to the error log (R488 to R490) -/

/-- R488: the severity of a record class. -/
def classSev (cls : Nat) : Nat :=
  match cls with
  | 1 => 3
  | 2 => 3
  | 3 => 2
  | 4 => 4
  | 5 => 2
  | _ => 1

/-- R489: present one report of source `src`. A report that finds 4 in its source's buffer is lost and counted; the next
accepted one carries FAL and LOST. -/
def State.report (src cls detail a0 a1 a2 : Nat) (s : State) : State :=
  let s := s.bump (whole (ERR_PRES src))
  let buf := tabGet [] s.log.bufs src
  if 4 ≤ buf.length then
    ((s.bump (whole (ERR_LTOT src))).satBump (ERR_LOST_LOST src) 1).mark (ERR_LOST_LOSTP src) true
  else
    let fal := s.flag (ERR_LOST_LOSTP src)
    let r : LogRec :=
      { sec := s.clk.sec % 2 ^ 32, ns := s.clk.ns, src := src, sev := classSev cls, fal := fal,
        steps := s.get TIM_ST_STEPS, code := cls * 256 + detail,
        lost := if fal then s.get (ERR_LOST_LOST src) else 0,
        arg0 := a0 % 2 ^ 32, arg1 := a1 % 2 ^ 32, arg2 := a2 % 2 ^ 32 }
    ((s.mark (ERR_LOST_LOSTP src) false).put (ERR_LOST_BUF src) (buf.length + 1)).onLog
      fun l => { l with bufs := tabSet l.bufs src (buf ++ [r]) }

/-- R488, class 0x03: one warning about a flag, with its register's value. -/
def State.warn (src : Nat) (f : Fld) (s : State) : State := s.report src 3 f.lo f.addr (s.rd f.addr) 0

/-- R488, class 0x04: a severe error with a cause code and the register of the cause. -/
def State.severe (src cause addr : Nat) (s : State) : State := s.report src 4 cause addr (s.rd addr) 0

/-- R488, class 0x06: a change of a state field from the register value `old` to the present one. -/
def State.stateChange (src : Nat) (f : Fld) (old : Nat) (s : State) : State :=
  s.report src 6 f.lo f.addr old (s.rd f.addr)

/-- Set a state field and report the change; nothing when the value is the same. -/
def State.change (src : Nat) (f : Fld) (v : Nat) (s : State) : State :=
  if s.get f = v % 2 ^ f.width then s else (s.put f v).stateChange src f (s.rd f.addr)

/-- Set a W1C flag that warns when it goes from 0 to 1. -/
def State.raise (src : Nat) (f : Fld) (s : State) : State :=
  if s.flag f then s.latch f else (s.latch f).warn src f

/-- R490, the lost-counter rule: add `k` to the counter `f` and present one report of class 0x05 when it leaves 0, and
afterwards at most one per 1 ms. -/
def State.lose (src : Nat) (f : Fld) (k : Nat) (s : State) : State :=
  let old := s.get f
  let s := s.satBump f k
  let key := f.addr * 32 + f.lo
  let last := tabFind s.log.dropAt key
  let dueNow := old == 0 || (match last with | some t => t + 1000000 ≤ s.clk.elapsed | none => true)
  if k = 0 then s
  else if dueNow then
    (s.report src 5 0 f.addr (s.rd f.addr) 0).onLog fun l => { l with dropAt := tabSet l.dropAt key s.clk.elapsed }
  else s

/-- R28: an orphan completion of the kind `kind` (0 handshakes, 1 spill bursts, 2 ring slices) with its tag, from island `isl`; the spec
names no counter register for these kinds, so they are counted in the state (log 13). -/
def State.orphanOp (kind isl tag : Nat) (s : State) : State :=
  (s.onEng fun e => { e with orphans := tabMod 0 e.orphans kind (· + 1) }).report isl 5 0 0 tag isl

/-- R488: the source island of an access error of an accessor. -/
def accIsland (who : Accessor) : Nat :=
  match who with
  | .core _ => 0x15
  | .copy => 0x14
  | .service => 0x19
  | .debug => 0x19
  | .loader => 0x1C
  | .safety => 0x1D

/-- R488: the accessor code of an access error. -/
def accCode (who : Accessor) : Nat :=
  match who with
  | .debug => 0x20
  | w => accIsland w

/-- The number of a reader or writer in the bus tables (R10). -/
def accId (who : Accessor) : Nat :=
  match who with
  | .core c => c.val
  | .copy => 4
  | .service => 5
  | .debug => 6
  | .loader => 7
  | .safety => 8

/-- R488, class 0x01: an access error. -/
def State.accessError (who : Accessor) (detail addr value : Nat) (s : State) : State :=
  (s.report (accIsland who) 1 detail addr (accCode who) value).onBus fun b => { b with errs := b.errs + 1 }

/-! ### Kennel tokens becoming READY, and events (R320, R321, R329, R330) -/

/-- R321: the priority of a token. -/
def State.prio (s : State) (t : Nat) : Nat := s.get (KNL_D0_PRIO t)

/-- The counter field of a token state (R314, R316). -/
def stateCount (st : Nat) : Fld :=
  match st with
  | 0 => KNL_CNTA_FREE
  | 1 => KNL_CNTA_DELAYED
  | 2 => KNL_CNTA_READY
  | 3 => KNL_CNTB_SLOTTED
  | 4 => KNL_CNTB_RUNNING
  | _ => KNL_CNTB_CPEND

/-- Move a token to a state, moving its count with it (R314, R316). -/
def State.setToken (t st : Nat) (s : State) : State :=
  let old := s.get (KNL_TST_STATE t)
  (((s.drop (stateCount old) 1).put (stateCount st) ((s.drop (stateCount old) 1).get (stateCount st) + 1))).put (KNL_TST_STATE t) st

/-- KNL_HEAD shows the head of the delay list (R320). -/
def State.showHead (s : State) : State :=
  match s.knl.delay with
  | [] => s.wr64 KNL_HEAD 0
  | (t, w) :: _ => s.wr64 KNL_HEAD (w + 2 ^ 32 * (2 ^ 31 + t))

/-- Take a token out of the delay list. -/
def State.undelay (t : Nat) (s : State) : State :=
  (s.onKnl fun k => { k with delay := k.delay.filter fun e => e.1 != t }).showHead

/-- R321: a token enters READY at the tail of its level, with the reason of its wake. -/
def State.makeReady (t why : Nat) (s : State) : State :=
  let p := s.prio t
  let s := ((s.undelay t).setToken t 2).put (KNL_TST_WHY t) why
  (s.wr (KNL_TSTAMP t) s.t32).onKnl fun k => { k with ready := tabSet k.ready p (tabGet [] k.ready p ++ [t]) }

/-- R329, R330: event `e` reaches the Kennel. -/
def State.event (e : Nat) (s : State) : State :=
  let s := s.bump (KNL_EVB_FIRES e)
  if s.flag (KNL_EVB_BOUND e) then
    let t := s.get (KNL_EVB_TOKEN e)
    if s.get (KNL_TST_STATE t) = 1 then s.makeReady t 3
    else (s.satBump (KNL_TST_EVCNT t) 1).mark (KNL_TST_PEND t) true
  else s.satBump KNL_STAT_EVUNB 1

/-! ### Queues (R335 to R349) -/

/-- R335: the capacity of a queue; 0 for an unused one. -/
def State.qCap (s : State) (q : Nat) : Nat :=
  if s.get (QUE_CFG_CAPL q) = 0 then 0 else 2 ^ s.get (QUE_CFG_CAPL q)

/-- The contents of a queue. -/
def State.qData (s : State) (q : Nat) : QueueData := tabGet {} s.que.data q

/-- Replace the contents of a queue. -/
def State.setQ (q : Nat) (d : QueueData) (s : State) : State := s.onQue fun w => { w with data := tabSet w.data q d }

/-- R348, R349: the depth of queue `q` becomes `new`: peak, watermark crossings and the queue's event. -/
def State.setDepth (q new : Nat) (s : State) : State :=
  let old := s.get (QUE_ST_DEPTH q)
  let hi := s.get (QUE_WMK_HIGH q)
  let lo := s.get (QUE_WMK_LOW q)
  let up := hi != 0 && old < hi && hi ≤ new
  let dn := hi != 0 && lo < old && new ≤ lo
  let ev := s.get (QUE_CFG_EVSEL q)
  let s := (s.put (QUE_ST_DEPTH q) new).put (QUE_ST_PEAK q) (max (s.get (QUE_ST_PEAK q)) new)
  let s := if up then ((s.latch (QUE_WEV_UP q)).satBump (QUE_WEV_UPCNT q) 1).mark (QUE_WEV_LAST q) true else s
  let s := if dn then ((s.latch (QUE_WEV_DN q)).satBump (QUE_WEV_DNCNT q) 1).mark (QUE_WEV_LAST q) false else s
  let fires := (ev == 1 && old == 0 && 1 ≤ new) || (ev == 2 && up) || (ev == 3 && dn) || (ev == 4 && (up || dn))
  if fires then s.event q else s

/-- R344: the lowest free burst tag below `n`. -/
def freeTag (bs : List Burst) : Option Nat := (List.range 128).find? fun t => bs.all fun b => b.tag != t

/-- R344: show the bursts outstanding. -/
def State.showBursts (s : State) : State :=
  let n := s.que.bursts.length
  ((s.put QUE_BST_OUT n).put QUE_BST_FREE (128 - n)).put QUE_BST_PEAKOUT (max (s.get QUE_BST_PEAKOUT) n)

/-- Is a read burst of queue `q` outstanding? -/
def State.reading (s : State) (q : Nat) : Bool := s.que.bursts.any fun b => b.q == q && !b.wr

/-- R343: entries take the direct path from the tail to the head while the spill ring holds none and the head has room. -/
def direct (d : QueueData) : QueueData :=
  if d.ringCount = 0 then
    let n := 16 - d.head.length
    { d with head := d.head ++ d.tail.take n, tail := d.tail.drop n }
  else d

/-- R343: may the direct path be used? No entry of the queue is in the spill ring or on its way from it. -/
def State.settle (q : Nat) (s : State) : State :=
  if s.reading q then s else s.setQ q (direct (s.qData q))

/-- R335: the address of place `i` of the spill ring of queue `q`. -/
def State.ringAddr (s : State) (q i : Nat) : Nat :=
  s.rd QUE_SBASE + s.rd (QUE_SOFS q) + 8 * (i % (s.qCap q - 32))

/-- The bytes of queue entries, little-endian (R11). -/
def entryBytes (es : List (BitVec 64)) : List Byte := es.flatMap fun e => leBytes 8 e.toNat

/-- R343, R344: write the 8 oldest tail entries to the spill ring in one burst, when a tag is free and the ring has room. -/
def State.spillWrite (q : Nat) (s : State) : State :=
  let d := s.qData q
  match freeTag s.que.bursts with
  | none => s
  | some tag =>
    if 8 ≤ d.tail.length && 32 < s.qCap q && d.ringCount + 8 ≤ s.qCap q - 32 then
      let es := d.tail.take 8
      let s' := s.bulkStore (s.ringAddr q (d.ringRd + d.ringCount)) (entryBytes es)
      let s' := s'.setQ q { d with tail := d.tail.drop 8, ringCount := d.ringCount + 8 }
      (s'.onQue fun w => { w with bursts := w.bursts ++ [{ tag := tag, q := q, wr := true, entries := es }] }).showBursts
    else s

/-- R343, R344: start a read of the 8 oldest spilled entries when the head holds fewer than 8 and none is on its way. -/
def State.spillFetch (q : Nat) (s : State) : State :=
  let d := s.qData q
  match freeTag s.que.bursts with
  | none => s
  | some tag =>
    if d.head.length < 8 && 8 ≤ d.ringCount && !s.reading q then
      let bytes := s.bulkBytes (s.ringAddr q d.ringRd) 64
      let es := (List.range 8).map fun i => BitVec.ofNat 64 (leAt bytes (8 * i) 8)
      (s.onQue fun w => { w with bursts := w.bursts ++ [{ tag := tag, q := q, wr := false, entries := es }] }).showBursts
    else s

/-- R343: room in the tail for `n` more entries, spilling as needed, at most `k` bursts. -/
def State.makeRoom : Nat → Nat → Nat → State → State
  | 0, _, _, s => s
  | k + 1, q, n, s =>
    let s := s.settle q
    if (s.qData q).tail.length + n ≤ 16 then s else State.makeRoom k q n (s.spillWrite q)

/-- R338, R344: can a group of `n` entries be accepted now? The depth leaves room, and a tail that must spill has a tag. -/
def State.canPush (s : State) (q n : Nat) : Bool :=
  s.get (QUE_ST_DEPTH q) + n ≤ s.qCap q &&
    (((s.makeRoom 3 q n).qData q).tail.length + n ≤ 16 || s.qCap q ≤ 32 || (freeTag (s.makeRoom 3 q n).que.bursts).isSome)

/-- R338: the entries of an accepted group enter the queue in order. -/
def State.enqueue (q : Nat) (es : List (BitVec 64)) (s : State) : State :=
  let s := s.makeRoom 3 q es.length
  let d := s.qData q
  let s := (s.setQ q { d with tail := d.tail ++ es }).settle q
  let s := s.put (whole (QUE_PUSHC q)) (s.rd (QUE_PUSHC q) + es.length)
  s.setDepth q (s.get (QUE_ST_DEPTH q) + es.length)

/-- R337, R340: why a push of producer class `cls` to queue `q` is refused before room is asked for; 0x1 when it is not. -/
def State.pushCheck (s : State) (cls q : Nat) : Nat :=
  if s.qCap q = 0 || s.get (QUE_CFG_PROD q) != cls then 0x9
  else if s.flag (QUE_CFG_BROKEN q) then 0xA
  else 0x1

/-- R339: a trying push of a hardware producer or of a core: the state after it and its result (R340). -/
def State.tryPush (cls q : Nat) (es : List (BitVec 64)) (s : State) : Nat × State :=
  match s.pushCheck cls q with
  | 0x1 =>
    if s.canPush q es.length then (0x1, s.enqueue q es)
    else (0x8, s.satBump (QUE_ERR_REFUSED q) 1)
  | r => (r, s)

/-- Bit 63 of a queue entry is the VALID tag (R12): entry bits 62:0 with the tag set. -/
def entry (v : Nat) : BitVec 64 := BitVec.ofNat 64 (2 ^ 63 + v % 2 ^ 63)

/-- R341: the entry that a pop takes, with the state after it; the caller has checked that one is in the head. -/
def State.dequeue (q : Nat) (s : State) : BitVec 64 × State :=
  let d := s.qData q
  match d.head with
  | [] => (0, s)
  | e :: rest =>
    let s := s.setQ q { d with head := rest }
    let s := (s.settle q).spillFetch q
    let s := s.put (whole (QUE_POPC q)) (s.rd (QUE_POPC q) + 1)
    (e, s.setDepth q (s.get (QUE_ST_DEPTH q) - 1))

end Sys2Proof.Machine
end

