-- ==== Sys2Proof/Machine/AxisTable.lean ====
section
/-! DEFINITION. The fields of a committed axis entry (R107 to R110, R175), read from the committed table in bulk memory,
and the periods that follow from them. -/

namespace Sys2Proof.Machine

/-- R107: the address of committed entry `n`. -/
def State.entryAt (s : State) (n : Nat) : Nat := s.rd PRF_TBASE + 0x40000 + 0x400 * n

/-- R107: the address of working entry `n`. -/
def State.workAt (s : State) (n : Nat) : Nat := s.rd PRF_TBASE + 0x400 * n

/-- An unsigned field of committed entry `n`. -/
def State.axU (s : State) (n off size : Nat) : Nat := s.bulkLe (s.entryAt n + off) size

/-- A signed field of committed entry `n`. -/
def State.axS (s : State) (n off size : Nat) : Int := signed (8 * size) (s.axU n off size)

def State.axKind (s : State) (n : Nat) : Nat := s.axU n 0x010 1
def State.axType (s : State) (n : Nat) : Nat := s.axU n 0x011 1
def State.axReact (s : State) (n : Nat) : Nat := s.axU n 0x012 1
/-- R110, OPTS bit 0. -/
def State.axBrake (s : State) (n : Nat) : Bool := bit (s.axU n 0x013 1) 0
/-- R110, OPTS bit 1. -/
def State.axDirInv (s : State) (n : Nat) : Bool := bit (s.axU n 0x013 1) 1
def State.axModulo (s : State) (n : Nat) : Int := s.axS n 0x014 8
def State.axPoles (s : State) (n : Nat) : Nat := s.axU n 0x020 1
/-- R110, R189: half-bridges of the axis: two when COMM is 0x01, otherwise three. -/
def State.axBridges (s : State) (n : Nat) : Nat := if s.axU n 0x021 1 = 1 then 2 else 3
def State.axFbPort (s : State) (n : Nat) : Nat := s.axU n 0x080 1
def State.axFbMode (s : State) (n : Nat) : Nat := s.axU n 0x081 1
def State.axFbBits (s : State) (n : Nat) : Nat := s.axU n 0x082 1
/-- A field of FBCFG, 28 bytes at 0x084. -/
def State.axFbCfg (s : State) (n off size : Nat) : Nat := s.axU n (0x084 + off) size
def State.axRefMode (s : State) (n : Nat) : Nat := s.axU n 0x0A0 1
def State.axAbsOfs (s : State) (n : Nat) : Int := s.axS n 0x0A4 8
def State.axCommOfs (s : State) (n : Nat) : Nat := s.axU n 0x0AC 2
def State.axSdClk (s : State) (n : Nat) : Nat := s.axU n 0x0B0 1
def State.axSdMask (s : State) (n : Nat) : Nat := s.axU n 0x0B1 1
def State.axVMax (s : State) (n : Nat) : Int := s.axS n 0x100 8
def State.axAMax (s : State) (n : Nat) : Int := s.axS n 0x108 8
def State.axDMax (s : State) (n : Nat) : Int := s.axS n 0x110 8
def State.axJMax (s : State) (n : Nat) : Int := s.axS n 0x118 8
def State.axDFault (s : State) (n : Nat) : Int := s.axS n 0x120 8
def State.axSsVel (s : State) (n : Nat) : Nat := s.axU n 0x128 4
def State.axSsTime (s : State) (n : Nat) : Nat := s.axU n 0x12C 2
def State.axFeMax (s : State) (n : Nat) : Int := s.axS n 0x130 8
def State.axFeTime (s : State) (n : Nat) : Nat := s.axU n 0x138 2
def State.axBrkRel (s : State) (n : Nat) : Nat := s.axU n 0x180 2
def State.axBrkSet (s : State) (n : Nat) : Nat := s.axU n 0x182 2
def State.axStopTmo (s : State) (n : Nat) : Nat := s.axU n 0x184 2
def State.axBrkDio (s : State) (n : Nat) : Nat := s.axU n 0x186 1
def State.axCMode (s : State) (n : Nat) : Nat := s.axU n 0x200 1
def State.axDivCur (s : State) (n : Nat) : Nat := s.axU n 0x201 1
def State.axDivVel (s : State) (n : Nat) : Nat := s.axU n 0x202 1
def State.axDivPos (s : State) (n : Nat) : Nat := s.axU n 0x203 1
def State.axTctx (s : State) (n : Nat) : Nat := s.axU n 0x204 4
def State.axWph (s : State) (n : Nat) : Nat := s.axU n 0x208 1
def State.axScale (s : State) (n : Nat) : Int := s.axS n 0x209 1
def State.axBper (s : State) (n : Nat) : Nat := s.axU n 0x20C 4
def State.axHyst (s : State) (n : Nat) : Nat := s.axU n 0x210 2
def State.axMinDw (s : State) (n : Nat) : Nat := s.axU n 0x212 1
def State.axRpre (s : State) (n : Nat) : Nat := s.axU n 0x214 2
def State.axMember (s : State) (n : Nat) : Nat := s.axU n 0x380 1
def State.axSubaxis (s : State) (n : Nat) : Nat := s.axU n 0x381 1
def State.axMIdent (s : State) (n : Nat) : Nat := s.axU n 0x384 4
def State.axMCfgCrc (s : State) (n : Nat) : Nat := s.axU n 0x388 4
def State.axSliceOfs (s : State) (n : Nat) : Nat := s.axU n 0x38C 2

/-- R110: a local axis in use. -/
def State.isLocal (s : State) (n : Nat) : Bool := n < 32 && s.axKind n == 1

/-- R110: a remote axis in use. -/
def State.isRemote (s : State) (n : Nat) : Bool := 32 ≤ n && s.axKind n == 2

/-- R391: at a ring member, the local axis of subaxis `k`, and the subaxis of local axis `n`, if they are mapped. -/
def State.subAxis (s : State) (k : Nat) : Option Nat :=
  let a := s.get (RNG_MSUB_AX k)
  if s.get RNG_CFG_ROLE == 2 && a < 32 then some a else none

def State.subOf (s : State) (n : Nat) : Option Nat := (List.range 16).find? fun k => s.subAxis k == some n

/-- R394: the member block of entry `n`: bytes 0x080 to 0x0FF and 0x200 to 0x37F. -/
def State.memberBlock (s : State) (n : Nat) : List Byte :=
  s.bulkBytes (s.rd PRF_TBASE + 0x40000 + 0x400 * n + 0x080) 0x80 ++ s.bulkBytes (s.rd PRF_TBASE + 0x40000 + 0x400 * n + 0x200) 0x180

/-- R128: the profile period in ns. -/
def State.profilePeriod (s : State) : Nat := 62500 * 2 ^ s.get PRF_CFG_PERIOD

/-- R178: the section periods of a local axis in ns. -/
def State.posPeriod (s : State) (n : Nat) : Nat := s.axDivPos n * s.axTctx n
def State.velPeriod (s : State) (n : Nat) : Nat := s.axDivVel n * s.axTctx n
def State.curPeriod (s : State) (n : Nat) : Nat := s.axDivCur n * s.axTctx n

/-- What an axis holds beside its registers. -/
def State.axis (s : State) (n : Nat) : Axis := tabGet {} s.axes n

/-- Change what an axis holds. -/
def State.onAxis (n : Nat) (f : Axis → Axis) (s : State) : State := s.onAxes fun t => tabMod {} t n f

/-- R119: the state of an axis. -/
def State.axState (s : State) (n : Nat) : Nat := s.get (PRF_AXST_STATE n)

/-- R119: is a reaction that holds torque in force in FAULT? -/
def State.rampFault (s : State) (n : Nat) : Bool :=
  s.axState n == 6 && s.get (PRF_AXST_REACT n) != 0 && !(s.flag (PRF_AXST_STOPTO n)) &&
    (!(s.axis n).reacted || s.get (PRF_AXST_REACT n) == 2)

/-- R119: an axis is enabled in states 0x1 to 0x5, and in FAULT while a reaction that holds torque is in force. -/
def State.enabled (s : State) (n : Nat) : Bool :=
  (1 ≤ s.axState n && s.axState n ≤ 5) || s.rampFault n

/-- R389: the remote axis that is subaxis `k` of member `m`, and the remote axes of member `m`. -/
def State.memberAxis (s : State) (m k : Nat) : Option Nat :=
  (List.range 256).find? fun n => s.isRemote n && s.axMember n == m && s.axSubaxis n == k

def State.memberAxes (s : State) (m : Nat) : List Nat := below 256 fun n => s.isRemote n && s.axMember n == m

/-- R398: RNG_MEXP of member `m`: the CRC over the member blocks of its committed entries, in SUBAXIS order. -/
def State.showMexp (m : Nat) (s : State) : State :=
  s.wr (RNG_MEXP m) (crc32c ((List.range 16).flatMap fun k => match s.memberAxis m k with | some n => s.memberBlock n | none => []))

/-- The axes of the table for which `p` holds. -/
def State.axesWhere (_s : State) (p : Nat → Bool) : List Nat := below 256 p

/-- The motion of an axis, or of virtual master k as index 256 + k. -/
def State.mot (s : State) (n : Nat) : Motion := tabGet {} s.prf.motion n

/-- Change the motion of an axis. -/
def State.onMot (n : Nat) (f : Motion → Motion) (s : State) : State :=
  s.onPrf fun p => { p with motion := tabMod {} p.motion n f }

/-- A path group. -/
def State.grp (s : State) (g : Nat) : Group := tabGet {} s.prf.groups g

/-- Change a path group. -/
def State.onGrp (g : Nat) (f : Group → Group) (s : State) : State :=
  s.onPrf fun p => { p with groups := tabMod {} p.groups g f }

/-- A context of an engine, by its axis. -/
def State.cx (s : State) (a : Nat) : Ctx := tabGet {} s.eng.ctx a

/-- Change a context. -/
def State.onCx (a : Nat) (f : Ctx → Ctx) (s : State) : State :=
  s.onEng fun e => { e with ctx := tabMod {} e.ctx a f }

/-- The PWM of a local axis. -/
def State.pax (s : State) (a : Nat) : PwmAxis := tabGet {} s.pwm.axis a

/-- R187: BPER and WPH in force for a local axis: a change of them waits for a Band boundary. -/
def State.bandInForce (s : State) (a : Nat) : Nat × Nat := (s.pax a).bandWas.getD (s.axBper a, s.axWph a)

/-- R179: the PWM period of a local axis in ns. -/
def State.pwmPeriod (s : State) (n : Nat) : Nat := if s.axCMode n = 2 then (s.bandInForce n).1 else s.curPeriod n

/-- Change the PWM of a local axis. -/
def State.onPax (a : Nat) (f : PwmAxis → PwmAxis) (s : State) : State :=
  s.onPwm fun w => { w with axis := tabMod {} w.axis a f }

end Sys2Proof.Machine
end

