-- ==== Sys2Proof/Machine/Leash.lean ====
section
/-! DEFINITION. The clamps of the Leash (R93 to R103) on their paths, and their flags. -/

namespace Sys2Proof.Machine

/-- R100: the three steps on a compare value `h` against the period `p`, with MPW `mpw` and DUTYMAX `duty`: the clamped
value, and the flags OVR, MPW and DUTY of the steps that changed it, laid out as LSH_CLAMP. -/
def clampCompare (h p mpw duty : Nat) : Nat × Nat :=
  let h1 := if p < h then 0xFFFFFFFF else h
  let h2 := if 0 < h1 ∧ h1 < mpw then 0 else if p < h1 + mpw ∧ h1 < p then 0xFFFFFFFF else h1
  let top := min (duty * p / 256) (p - mpw)
  let h3 := if duty < 0x100 ∧ top < h2 then top else h2
  (h3, b2n (h1 != h) + 4 * b2n (h2 != h1) + 8 * b2n (h3 != h2))

/-- R288, R292: step 2 of R100 with the dwell `dw` in force. -/
def dwellStep (p dw h : Nat) : Nat := if 0 < h ∧ h < dw then 0 else if p < h + dw ∧ h < p then 0xFFFFFFFF else h

/-- R98: a current reference clamped to a limit: d first, then q to √(limit² − d²), rounded down (log 14). -/
def clampIref (d q : Int) (lim : Nat) : Int × Int :=
  let d' := clampInt (-(lim : Int)) lim d
  let r := isqrt (lim * lim - (d' * d').toNat)
  (d', clampInt (-(r : Int)) r q)

/-- The report source of a clamp of local axis `a`: its engine for the current limits, the profile engine for speed and
envelope, and its PWM group for the rest (log 15). -/
def clampIsland (a b : Nat) : Nat := if b = 4 ∨ b = 5 then a / 4 else if 6 ≤ b then 0x13 else 0x08 + a / 4

/-- R102: a clamp of local axis `a` changed a value: bit `b` of LSH_CLAMP is set, with one warning when it was 0, and the
position period counts it. -/
def State.clampFlag (a b : Nat) (s : State) : State :=
  (s.raise (clampIsland a b) ⟨LSH_CLAMP a, b, 1⟩).onAxis a fun x => { x with clamps := setBit x.clamps b true }

/-- R102: set each flag of a mask of clamps that changed a value. -/
def State.clampFlags (a mask : Nat) (s : State) : State :=
  (below 8 (bit mask)).foldl (fun s b => s.clampFlag a b) s

/-- R99: the threshold Emax of a local axis, in units of 2^-30 IFS² ns. -/
def State.i2tMax (s : State) (a : Nat) : Nat :=
  (s.get (LSH_IPK_BASE a) ^ 2 - s.get (LSH_ICT_BASE a) ^ 2) * (s.get (LSH_I2T_TPK a) * 1000000)

/-- R99: update the I²t energy at a write of the current-reference port with the clamped reference `d`, `q`. The first write after an
enable has no write before it: its Δt is one velocity period (log 80); with Emax 0 the LEVEL is 0xFF (log 81). -/
def State.i2tUpdate (a : Nat) (d q : Int) (s : State) : State :=
  let x := s.axis a
  let dtn : Int := match x.irefAt with
    | some t => ((s.clk.elapsed - t : Nat) : Int)
    | none => (s.velPeriod a : Int)
  let i2 := d * d + q * q
  let ict : Int := (s.get (LSH_ICT_EFF a) : Int)
  let e := (max 0 ((x.i2t : Int) + (i2 - ict * ict) * dtn)).toNat
  let emax := s.i2tMax a
  let cap := if emax ≤ e then true else if 2 * e < emax then false else x.i2tCap
  let s := s.onAxis a fun y => { y with i2t := e, i2tCap := cap, irefAt := some s.clk.elapsed }
  let s := s.put (LSH_I2T_LEVEL a) (if emax = 0 then 0xFF else min 0xFF (256 * e / emax))
  if cap && !x.i2tCap then s.raise (clampIsland a 5) (LSH_CLAMP_I2T a) else s

/-- R98, R99, R102: the clamp of a current reference: the clamped pair and the state after it. The limit in force is ICT.EFF while the cap is
active; IPK counts what IPK.EFF alone would take away of a reference that the limit in force changes too. -/
def State.leashIref (a : Nat) (d q : Int) (s : State) : (Int × Int) × State :=
  let r1 := clampIref d q (s.get (LSH_IPK_EFF a))
  let cap := (s.axis a).i2tCap
  let r := if cap then clampIref d q (s.get (LSH_ICT_EFF a)) else r1
  let byIpk := r1 ≠ (d, q) ∧ r ≠ (d, q)
  let byCap := cap ∧ (r.1.natAbs < r1.1.natAbs ∨ r.2.natAbs < r1.2.natAbs)
  let s := if byIpk then s.clampFlag a 4 else s
  let s := if byCap then s.onAxis a fun x => { x with clamps := setBit x.clamps 5 true } else s
  (r, s.i2tUpdate a r.1 r.2)

/-- R100, R97: the clamp of a compare value of local axis `a` against the period of its staging set. -/
def State.leashCompare (a h : Nat) (s : State) : Nat × State :=
  let r := clampCompare h (s.pax a).stagePer (s.get (LSH_MPW_EFF a)) (s.get (LSH_DUTY_EFF a))
  (r.1, s.clampFlags a r.2)

end Sys2Proof.Machine
end

