-- ==== Sys2Proof/Machine/Gates.lean ====
section
/-! DEFINITION. The gates of the half-bridges: ideal commands, dead time, cuts (R283 to R297) and the safe state (R300). -/

namespace Sys2Proof.Machine

/-- R285, R287, R289: the ideal command of a half-bridge in a period of length `p`: the offsets at which a state begins,
1 the low gate and 2 the high gate. -/
def idealEdges (centre : Bool) (h p : Nat) : List (Nat × Nat) :=
  if h = 0 then [(0, 1)]
  else if p ≤ h then [(0, 2)]
  else if centre then [(0, 1), ((p - h) / 2, 2), ((p - h) / 2 + h, 1)]
  else [(0, 2), (h, 1)]

/-- R286, R297: the gate `want` is called for from `t` on: the other gate turns off at `t`, and `want` turns on at the later
of `t` and `dt` after the actual turn-off of the other, never before a turn-off of its own that a trip caused. -/
def Gate.turn (dt t want : Nat) (g : Gate) : Gate :=
  if g.want = want then g
  else
    let onNow := g.want != 0 && decide (g.onAt < t)
    let offL := if onNow && g.want == 1 then some t else g.offL
    let offH := if onNow && g.want == 2 then some t else g.offH
    let other := if want = 1 then offH else offL
    let self := if want = 1 then offL else offH
    let after := match other with | some x => x + dt | none => 0
    { want := want, onAt := max (max t after) (self.getD 0), offL := offL, offH := offH }

/-- R295, R297: what happens at `now` brings both gates low from `t` on; a gate that was not on by `now` has stayed low. -/
def Gate.release (now t : Nat) (g : Gate) : Gate :=
  let onNow := g.want != 0 && decide (g.onAt ≤ now) && decide (g.onAt < t)
  { want := 0, onAt := 0,
    offL := if onNow && g.want == 1 then some t else g.offL,
    offH := if onNow && g.want == 2 then some t else g.offH }

/-- The gates at the instant `t` (250 ps), through the edges of the period that began at `t0`. -/
def Gate.upTo (dt t0 t : Nat) (edges : List (Nat × Nat)) (g : Gate) : Gate :=
  (edges.filter fun e => t0 + e.1 ≤ t).foldl (fun g e => g.turn dt (t0 + e.1) e.2) g

/-- The model's time in 250 ps. -/
def State.quarter (s : State) : Nat := s.clk.elapsed * 4

/-- R189: the half-bridges of local axis `a`; auxiliary channel k is entry 32 + k, with one. -/
def State.bridges (s : State) (a : Nat) : List Nat := if 32 ≤ a then [0] else List.range (s.axBridges a)

/-- The gates of half-bridge `h` of local axis `a` at the instant `t`, following the set being applied. A half-bridge that the axis does
not use stays in the safe state (R283, R284). -/
def State.gateAt (s : State) (a h t : Nat) : Gate :=
  let x := s.pax a
  let g := tabGet {} x.gates h
  match x.applied with
  | none => g
  | some set =>
    if x.cut || x.off || !((s.bridges a).contains h) then g
    else g.upTo set.dt (x.started * 4) t (idealEdges (decide (a < 32) && s.get (PWM_AX_MODE a) == 1) (tabGet 0 set.cmp h) set.per)

/-- R307, PWM_CST: the present commands of half-bridge `h` of axis `a`: bit 1 the high gate, bit 0 the low gate. -/
def State.gateNow (s : State) (a h : Nat) : Nat :=
  let g := s.gateAt a h s.quarter
  if g.want != 0 && decide (g.onAt ≤ s.quarter) then (if g.want = 2 then 2 else 1) else 0

/-- The edges of the period that ends now pass into the gates of each half-bridge. -/
def State.foldGates (a : Nat) (s : State) : State :=
  s.onPax a fun x => { x with gates := (s.bridges a).foldl (fun t h => tabSet t h (s.gateAt a h (s.quarter - 1))) x.gates }

/-- Every gate of axis `a` turns off `delay` (250 ps) after now. -/
def State.gatesTurnOff (a delay : Nat) (s : State) : State :=
  s.onPax a fun x =>
    { x with
      gates := (s.bridges a).foldl (fun t h => tabSet t h ((s.gateAt a h s.quarter).release s.quarter (s.quarter + delay))) x.gates }

/-- R295: every gate of axis `a` is low from `delay` (250 ps) after now, for the rest of the period, which is cut. -/
def State.gatesLow (a delay : Nat) (s : State) : State := (s.gatesTurnOff a delay).onPax a fun x => { x with cut := true }

/-- R259, R299, R301, R302: every gate of axis `a` is low from `delay` (250 ps) after now, in a period that is not cut by a trip. -/
def State.gatesOff (a delay : Nat) (s : State) : State := (s.gatesTurnOff a delay).onPax a fun x => { x with off := true }

/-- R299, R302: are the gates of local axis `a` held low: a gate enable reads low, or a debug halt is in force? -/
def State.gateHeld (s : State) (a : Nat) : Bool :=
  !(tabGet false s.pwm.genA (a / 4) && tabGet false s.pwm.genB (a / 4)) || s.pwm.coreHalt != [] || s.eng.halted.contains (a / 4)

/-- R300: the causes 0x2 to 0x9 in force for local axis `a`, bit per code: faults, halts, gate enables; 0x9 until the end of
APPLY (log 16). -/
def State.safeCauses (s : State) (a : Nat) : Nat :=
  let halt := s.eng.halted.contains (a / 4) || s.pwm.coreHalt != []
  let gen := tabGet false s.pwm.genA (a / 4) && tabGet false s.pwm.genB (a / 4)
  let reset := s.get CFG_STATE_STATE < 7 || 9 < s.get CFG_STATE_STATE
  if reset then 2 ^ 9
  else setBit (setBit (s.axis a).safe 7 (bit (s.axis a).safe 7 || halt)) 8 !gen

/-- R300: what PWM_AXST.SAFE shows: the lowest cause in force, or 0x1, or 0x0 while the gates follow the committed set. -/
def State.safeCode (s : State) (a : Nat) : Nat :=
  match (List.range 8).find? fun i => bit (s.safeCauses a) (i + 2) with
  | some i => i + 2
  | none => if s.flag (PWM_AXST_EN a) && (s.pax a).applied.isSome then 0 else 1

/-- Show SAFE and GENOK of local axis `a`. -/
def State.showSafe (a : Nat) (s : State) : State :=
  (s.put (PWM_AXST_SAFE a) (s.safeCode a)).mark (PWM_AXST_GENOK a)
    (tabGet false s.pwm.genA (a / 4) && tabGet false s.pwm.genB (a / 4))

/-- R284, R294: the PWM of local axis `a` is disabled: its gates are low and its sets are gone. -/
def State.pwmOff (a : Nat) (s : State) : State :=
  let s := (s.gatesTurnOff a 0).onPax a fun x =>
    { x with applied := none, committed := none, stage := [], arming := false, cut := false, off := false, highDue := [] }
  let s := (((s.mark (PWM_AXST_EN a) false).mark (PWM_AXST_TRIPIN a) false).wr (PWM_PER a) 0).wr (PWM_STG a) 0
  s.showSafe a

/-- R294, R291: the PWM of local axis `a` is enabled from its next period boundary, where the first period has number 0. -/
def State.pwmOn (a : Nat) (s : State) : State :=
  ((s.put (PWM_AXST_RUN a) 0).onPax a fun x =>
    { x with arming := true, applied := none, committed := none, stage := [] }).showSafe a

end Sys2Proof.Machine
end

