-- ==== Sys2Proof/Machine/Triggers.lean ====
section
/-! DEFINITION. The trigger groups of the acquisition engine (R360 to R370): what a trigger does. Instants are of the local
clock, in nanoseconds or in 1/256 ns. -/

namespace Sys2Proof.Machine

/-- A trigger group. -/
def State.acqGroup (s : State) (g : Nat) : AcqGroup := tabGet {} s.acq.group g

/-- Change a trigger group. -/
def State.onAcqGroup (g : Nat) (f : AcqGroup → AcqGroup) (s : State) : State :=
  s.onAcq fun a => { a with group := tabMod {} a.group g f }

/-- R360: the channels of group `g`. -/
def State.acqMembers (s : State) (g : Nat) : List Nat := below 64 fun c => s.flag (ACQ_CCFG_EN c) && s.get (ACQ_CCFG_GRP c) == g

/-- R365: the number of the first sample at or after `tt`. -/
def AcqChan.sampleAt (k : AcqChan) (tt : Nat) : Nat :=
  if tt ≤ k.first * 256 then 0 else (tt - k.first * 256 + k.ts * 256 - 1) / (k.ts * 256)

/-- R365, R370: group `g` triggers at `tt` with the record flags `fl`. -/
def State.acqFire (g tt fl : Nat) (s : State) : State :=
  let s := (s.put (ACQ_GST_STATE g) 3).bump (ACQ_GCNT_TRIG g)
  let s := (s.wr (ACQ_GLAST g) (tt / 256 % 2 ^ 32)).onAcqGroup g fun x => { x with tt := tt, flags := fl, force := false }
  let s := (s.acqMembers g).foldl (fun s c =>
    (s.put (ACQ_CST_STATE c) 2).onAcq fun a =>
      { a with chan := match tabFind a.chan c with
          | some k => tabSet a.chan c { k with trig := some (k.sampleAt tt) }
          | none => a.chan }) s
  let own := s.get (ACQ_GCFG_SRC g) == 5 && s.get (ACQ_GCFG_SRCIDX g) % 4 == s.get (ACQ_GCFG_WOUT g)
  if s.flag (ACQ_GCFG_WOUTEN g) && !own then s.onAcq fun a => { a with out := a.out ++ [(s.get (ACQ_GCFG_WOUT g), tt)] } else s

/-- R362, R367: a trigger of group `g`: taken in ARMED, counted in REARM and in WAITRES, ignored otherwise. -/
def State.acqTrigger (g tt fl : Nat) (s : State) : State :=
  match s.get (ACQ_GST_STATE g) with
  | 1 => s.satBump (ACQ_GST_RAIGN g) 1
  | 2 => s.acqFire g tt fl
  | 4 => s.satBump (ACQ_GCNT_MISS g) 1
  | _ => s

/-- R363: an event of source `src` and index `idx` modulo `m` triggers the groups that watch it. -/
def State.acqSource (src idx m tt fl : Nat) (s : State) : State :=
  (below 8 fun g => s.get (ACQ_GCFG_SRC g) == src && s.get (ACQ_GCFG_SRCIDX g) % m == idx).foldl (fun s g => s.acqTrigger g tt fl) s

end Sys2Proof.Machine
end

