-- ==== Sys2Proof/Machine/Moves.lean ====
section
/-! DEFINITION. What other parts of the model ask of the profile engine: events (R169, R170), stops, the end of couplings
(R142, R146) and the end of path groups (R162). -/

namespace Sys2Proof.Machine

/-- R169: the entries of an event. -/
def eventEntries (code index reason tag : Nat) (data : Option (Nat × Int)) : List (BitVec 64) :=
  let n := if data.isSome then 1 else 0
  let h := 4 * 2 ^ 60 + code * 2 ^ 52 + n * 2 ^ 48 + index % 256 * 2 ^ 40 + reason % 256 * 2 ^ 32 + tag % 2 ^ 32
  match data with
  | some (sel, v) => [entry h, entry (2 * 2 ^ 60 + sel * 2 ^ 56 + unsigned 56 v)]
  | none => [entry h]

/-- R170: push an event on queue 0x01; one that finds the queue full is dropped and counted in EVLOST. -/
def State.pushEvent (code index reason tag : Nat) (data : Option (Nat × Int)) (s : State) : State :=
  let r := s.tryPush 2 1 (eventEntries code index reason tag data)
  if r.1 = 0x1 then r.2 else r.2.lose 0x13 PRF_STAT_EVLOST 1

/-- R170: move completions of group `g` from its buffer to queue 0x01 while the queue takes them; those that wait for room follow. -/
def State.drainDone (g : Nat) : Nat → State → State
  | 0, s => s
  | k + 1, s =>
    match (s.grp g).done with
    | [] => s
    | e :: rest =>
      if s.pushCheck 2 1 = 0x1 ∧ s.canPush 1 1 then
        State.drainDone g k ((s.enqueue 1 [e]).onGrp g fun x => { x with done := rest ++ x.owed.take 1, owed := x.owed.drop 1 })
      else s

/-- R156, R170: SEG_DONE (0x10) or SEG_ABORTED (0x11) of a segment enters the completion buffer, or waits while it is full. -/
def State.segEvent (g code reason tag : Nat) (s : State) : State :=
  let e := eventEntries code g reason tag none
  (s.onGrp g fun x =>
    if x.done.length < 128 ∧ x.owed = [] then { x with done := x.done ++ e } else { x with owed := x.owed ++ e }).drainDone g 128

/-- R156: the window of group `g` as PRF_GRPST and PRF_GRPCUR show it. -/
def State.showGroup (g : Nat) (s : State) : State :=
  let w := (s.grp g).window
  (s.put (PRF_GRPST_WIN g) w.length).wr (PRF_GRPCUR g) (match w with | c :: _ => c.tag | [] => 0)

/-- Count an aborted segment and report it (R156). -/
def State.segAbort (g reason tag : Nat) (s : State) : State :=
  (s.bump (whole (PRF_GRPABT g))).segEvent g 0x11 reason tag

/-- The axis of slot `i` of group `g` (R155). -/
def State.slotAxis (s : State) (g i : Nat) : Nat := s.rd64 (PRF_GRPAX g) / 256 ^ i % 256

/-- R155: the axes of group `g`, slot 0 first. -/
def State.groupAxes (s : State) (g : Nat) : List Nat := (List.range (s.get (PRF_GRPCFG_NAX g))).map (s.slotAxis g)

/-- R155: the group that axis `n` is bound to, if any. -/
def State.groupOf (s : State) (n : Nat) : Option Nat :=
  (List.range 16).find? fun g => (s.groupAxes g).contains n && s.get (PRF_GRPST_STATE g) != 0

/-- Is group `g` RUNNING, HOLD or STARVED (R161)? -/
def State.groupActive (s : State) (g : Nat) : Bool :=
  s.get (PRF_GRPST_STATE g) == 2 || s.get (PRF_GRPST_STATE g) == 3 || s.get (PRF_GRPST_STATE g) == 4

/-- R132: the speed ceiling of an axis, in 2^-32 counts per period: the lower of VMAX and LSH_SPD_E. -/
def State.ceiling (s : State) (n : Nat) : Int := min (s.axVMax n) ((s.rd (LSH_SPD_E n) : Int) * 2 ^ 24)

/-- Set what PRF_MVST and PRF_MVTAG show of the executing command. -/
def State.setMode (n m tag : Nat) (s : State) : State := (s.put (PRF_MVST_MODE n) m).wr (PRF_MVTAG n) tag

/-- R122: axis `n` enters state `st`; Kennel event 0x56 when it changes. The Darner of an axis outside CYCLIC is idle (R241, R254). -/
def State.enter (n st : Nat) (s : State) : State :=
  if s.axState n = st then s
  else
    let s := if n < 32 ∧ st ≠ 4 ∧ 1 < s.get (ENG_DST_STATE n) then s.put (ENG_DST_STATE n) 1 else s
    (s.put (PRF_AXST_STATE n) st).event 0x56

/-- A motion that brings axis `n` to rest, under its own DMAX and JMAX or the D and J given. -/
def State.planStop (n : Nat) (d j : Option Int) (s : State) : State :=
  s.onMot n fun m => { m with plan := some { d := d, j := j } }

/-- R122, R125: the stop ramp of axis `n` at DFAULT under JMAX. -/
def State.planRamp (n : Nat) (s : State) : State := s.onMot n fun m => { m with plan := some { fault := true } }

/-- R281: the REF_PROBE of axis `n` has ended: the settings of its probe are restored, ARM and OWN are 0. -/
def State.releaseProbe (n : Nat) (s : State) : State :=
  match (s.mot n).probing with
  | none => s
  | some i =>
    let s := match (tabGet {} s.probes i).saved with
      | some (c, l) => (s.wr (FBK_PRCFG i) c).wr (FBK_PRSEL i) l
      | none => s
    let s := (s.mark (FBK_PRCFG_ARM i) false).mark (FBK_PRCFG_OWN i) false
    (s.onProbes fun t => tabMod {} t i fun p => { p with saved := none, waiting := [] }).onMot n fun m => { m with probing := none }

/-- R148: the end of a superimposed move: what it has reached is kept in the slave's position, and it is SUPERSEDED. -/
def State.endSuper (n : Nat) (s : State) : State :=
  match (s.mot n).sup with
  | some c =>
    ((s.onMot n fun m => { m with sup := none, supPlan := none, supVel := 0, supAcc := 0 }).mark
      (PRF_MVST_SUPER n) false).pushEvent 0x03 n 0 c.tag none
  | none => s.onMot n fun m => { m with supPlan := none, supVel := 0, supAcc := 0 }

/-- R146: the coupling of axis `n` ends; DECOUPLED is pushed with the reason. -/
def State.uncouple (n reason tag : Nat) (s : State) : State :=
  match (s.mot n).cpl with
  | none => s
  | some _ =>
    (((s.endSuper n).onMot n fun m => { m with cpl := none }).put (PRF_MVST_MASTER n) 0).pushEvent 0x07 n reason tag none

/-- R142, R146: DMODE STOP: the coupling ends into a move (R122) and the axis decelerates. -/
def State.decoupleStop (n reason tag : Nat) (d j : Option Int) (s : State) : State :=
  match (s.mot n).cpl with
  | none => s
  | some _ =>
    let s := ((s.uncouple n reason tag).onMot n fun m => { m with cmd := none, next := none }).planStop n d j
    (if s.axState n = 4 then s.enter n 3 else s).setMode n 0x7 tag

/-- R142: the slaves whose master is one of the selectors are decoupled with reason 0x01. -/
def State.masterLost (p : Nat → Bool) (s : State) : State :=
  (below 256 fun m => match (s.mot m).cpl with | some c => p c.master | none => false).foldl
    (fun s m => s.decoupleStop m 0x01 (match (s.mot m).cpl with | some c => c.tag | none => 0) none none) s

/-- R162: group `g` ends: its axes stop independently under their own limits, except those in `off`. -/
def State.groupEnd (g reason : Nat) (off : List Nat) (s : State) : State :=
  let s := (s.put (PRF_GRPST_STATE g) 5).onGrp g fun x => { x with aborting := some reason }
  ((s.groupAxes g).filter fun n => !off.contains n && s.axState n == 3).foldl
    (fun s n => s.planStop n none none) s

/-- The head entry of a command or segment. -/
def headOf (e : Nat) : MotCmd := { op := bits e 59 52, index := bits e 47 40, mode := bits e 39 36, tag := bits e 31 0 }

/-- R166: one entry of a queue: what has been assembled after it, the commands that are complete (with whether an entry within was
neither head nor data, or a head came too early), and whether the entry belonged to no command. -/
def assemble (p : Option PartCmd) (e : Nat) : Option PartCmd × List (MotCmd × Bool) × Bool :=
  if bits e 62 60 = 1 then
    let early := match p with | some q => [(q.cmd, true)] | none => []
    let c := headOf e
    if bits e 51 48 = 0 then (none, early ++ [(c, false)], false) else (some { cmd := c, left := bits e 51 48 }, early, false)
  else
    match p with
    | none => (none, [], true)
    | some q =>
      let q := if bits e 62 60 = 2 then { q with cmd := { q.cmd with data := q.cmd.data ++ [(bits e 59 56, signed 56 e)] } } else { q with bad := true }
      if q.left ≤ 1 then (none, [(q.cmd, q.bad)], false) else (some { q with left := q.left - 1 }, [], false)

/-- R122, R161, R162: axis `n` leaves the motion states: its command, coupling and superimposed move end, and its group ends with
reason 0x02, also while an abort brings it to rest. -/
def State.dropMotion (n : Nat) (s : State) : State :=
  let s := (s.releaseProbe n).onMot n fun m =>
    { m with cmd := none, plan := none, cpl := none, sup := none, supPlan := none, supVel := 0, supAcc := 0, next := none }
  let s := (((s.setMode n 0 0).mark (PRF_MVST_SUPER n) false).put (PRF_MVST_MASTER n) 0)
  match s.groupOf n with
  | some g => if s.groupActive g || (s.get (PRF_GRPST_STATE g) == 5 && (s.grp g).aborting == some 0x01) then s.groupEnd g 0x02 [n] else s
  | none => s

/-- R162: the segments of group `g` are aborted in order, those of its window and then those still in its queue, which are popped,
while the completion buffer has room: at most `k` steps. -/
def State.abortSegs (g reason : Nat) : Nat → State → State
  | 0, s => s
  | k + 1, s =>
    if 128 ≤ (s.grp g).done.length then s
    else match (s.grp g).window, (s.qData (0x10 + g)).head with
      | c :: rest, _ => State.abortSegs g reason k ((s.onGrp g fun x => { x with window := rest }).segAbort g reason c.tag)
      | [], [] => s
      | [], _ =>
        let d := s.dequeue (0x10 + g)
        let r := assemble (s.grp g).part d.1.toNat
        let s := r.2.1.foldl (fun s c => (s.bump (whole (PRF_GRPACC g))).segAbort g reason c.1.tag) (d.2.onGrp g fun x => { x with part := r.1 })
        State.abortSegs g reason k (if r.2.2 then s.bump (whole PRF_DISC) else s)

/-- R162: when every axis of a group that ends is at rest, its segments are returned in order and it enters IDLE. One whose entries are
still arriving is returned once they have. -/
def State.groupFinish (g : Nat) (s : State) : State :=
  match (s.grp g).aborting with
  | none => s
  | some reason =>
    if (s.groupAxes g).all fun n => (s.mot n).vel == 0 then
      let s := s.onGrp g fun x => { x with run := none, spline := [], speed := 0, gain := 0, here := [], off := [], plan := [], dwelt := 0 }
      let s := (s.abortSegs g reason 4096).showGroup g
      if s.get (QUE_ST_DEPTH (0x10 + g)) = 0 ∧ (s.grp g).window = [] then
        let tag := (s.grp g).abortTag
        let s := (s.put (PRF_GRPST_STATE g) (min 1 (s.get (PRF_GRPST_STATE g)))).onGrp g fun x =>
          { x with aborting := none, abortTag := none, part := x.part.map fun q => { q with drop := some reason } }
        let s := (s.groupAxes g).foldl (fun s n => if s.axState n = 3 then s.put (PRF_MVST_MODE n) 0 else s) s
        match tag with
        | some t => s.pushEvent 0x02 g 0 t none
        | none => s
      else s
    else s

end Sys2Proof.Machine
end

