-- ==== Sys2Proof/Machine/Faults.lean ====
section
/-! DEFINITION. Axis states (R119, R122), faults and their reactions (R124, R125), and the end of the conservation
guarantee (R31). -/

namespace Sys2Proof.Machine

/-- R121, R122, R125: the fitted brake of axis `n` engages or is released; a non-safety brake is its DIO channel (log 17). -/
def State.setBrake (n : Nat) (engaged : Bool) (s : State) : State :=
  let s := s.onAxis n fun x => { x with braked := engaged }
  if s.axBrake n && s.axBrkDio n < 64 && s.get (DIO_CCFG_MODE (s.axBrkDio n)) != 0 then s.setBit64 DIO_OUT (s.axBrkDio n) !engaged else s

/-- R196: the state of a Band phase of axis `a`. -/
def bandSt (a h : Nat) : Fld :=
  match h with
  | 0 => ENG_BAND_STU a
  | 1 => ENG_BAND_STV a
  | _ => ENG_BAND_STW a

/-- R183, R196, R249, R294: local axis `a` leaves the enabled states: its slots are skipped, its Band phases are OFF, its
Sheepdog is OFF unless it tripped (log 18), and its PWM is disabled. -/
def State.leaveEnabled (a : Nat) (s : State) : State :=
  if 32 ≤ a then s
  else
    let s := s.put (ENG_STAT_ENABLED (a / 4)) (setBit (s.get (ENG_STAT_ENABLED (a / 4))) (a % 4) false)
    let s := (((s.put (ENG_CST_RUN a) 0).put (bandSt a 0) 0).put (bandSt a 1) 0).put (bandSt a 2) 0
    let s := if s.get (ENG_SST_STATE a) = 3 then s else (s.put (ENG_SST_STATE a) 0).put (ENG_SST_SETTLE a) 0
    let s := (List.range 3).foldl (fun s h => s.mark (CSF_CST_ACT (3 * a + h)) false) s
    (s.mark (PRF_AXST_SDPEND a) false).pwmOff a

/-- R122: axis `n` enters DISABLED for the reason `why` of LASTOFF: torque off, brake engaged, motion ended, slaves lost. -/
def State.toDisabled (n why : Nat) (s : State) : State :=
  let s := (((s.enter n 0).put (PRF_AXST_LASTOFF n) why).setBrake n true).leaveEnabled n
  let s := s.onAxis n fun x =>
    { x with disabling := false, brakeDue := none, enStep := 0, ssCount := 0, wdogIn := none, moved := if why = 3 then 1 else x.moved }
  (s.dropMotion n).masterLost fun sel => sel == n || (sel == 0x1000 + n && n < 32)

/-- The safe-state code of a fault of local axis `n` by cause (R300). -/
def faultSafe (cause : Nat) : Nat :=
  match cause with
  | 2 => 5
  | 3 => 6
  | 4 => 3
  | 5 => 4
  | _ => 2

/-- R125: reaction 0x0 of axis `n` in FAULT, with the safe-state code `code`: torque off at once, brake engaged. -/
def State.torqueOff (n code : Nat) (s : State) : State :=
  let s := s.onAxis n fun x => { x with reacted := true, wdogIn := none, safe := if n < 32 then setBit x.safe code true else x.safe }
  ((s.setBrake n true).leaveEnabled n).dropMotion n

/-- R113, R243: the Darner memory of axis `a` is emptied. -/
def State.emptyDarner (a : Nat) (s : State) : State :=
  let s := s.onDrn fun x => tabMod {} x a fun d => { d with mem := [], bin := none, sum := 0, cnt := 0, passed := false }
  (s.put (ENG_DST_SPAN a) 0).mark (ENG_DST_RAMP a) (1 < s.axU a 0x31C 1)

/-- R128: the length in ns of the period in which faults of axis `n` count as detected together (R124). -/
def State.faultPeriod (s : State) (n : Nat) : Nat := if n < 32 then s.posPeriod n else s.profilePeriod

/-- R124: was the latched fault of axis `n` detected in the present position period, which began at the last multiple of the period (R22)? -/
def State.sameFaultPeriod (s : State) (n : Nat) : Bool :=
  s.faultPeriod n != 0 && decide (s.clk.elapsed ≤ (s.axis n).faultAt + s.clk.ns % s.faultPeriod n)

/-- R124, R125: a fault of axis `n` (REACT is the forwarded one at a ring member, R391) with its cause, its code or sub-cause, the island that reports it and the safe-state code of a
reaction 0x0. `defer` leaves a reaction 0x0 to a later boundary (R202). -/
def State.faultWith (n cause sub src code : Nat) (defer : Bool) (s : State) : State :=
  let st := s.axState n
  if 1 ≤ st ∧ st ≤ 5 then
    let react := if cause ≤ 7 ∨ (st = 1 ∧ (s.axis n).enStep < 5) then 0 else (s.axis n).ringReact.getD (s.axReact n)
    let s := s.report src 2 cause n sub 0
    let s := (((s.enter n 6).put (PRF_AXST_CAUSE n) cause).put (PRF_AXST_REACT n) react).mark (PRF_AXST_STOPTO n) false
    let s := s.onAxis n fun x =>
      { x with faultAt := s.clk.elapsed, reacted := false, disabling := false, brakeDue := none, moved := 2, ssCount := 0 }
    let s := if n < 32 ∧ bit (s.axU n 0x300 1) 1 then s.emptyDarner n else s
    let s := s.acqSource 7 n 256 (s.now * 256) 0
    let s := s.masterLost fun sel => sel == n || (sel == 0x1000 + n && n < 32)
    if react = 0 then (if defer then s else s.torqueOff n code)
    else ((s.dropMotion n).planRamp n).setMode n 0x9 0
  else if st = 6 then
    let s := (s.report src 2 cause n sub 0).satBump (PRF_AXST_FCNT n) 1
    if s.sameFaultPeriod n ∧ cause < s.get (PRF_AXST_CAUSE n) then
      let s := s.put (PRF_AXST_CAUSE n) cause
      if cause ≤ 7 ∧ s.get (PRF_AXST_REACT n) ≠ 0 then
        let s := s.put (PRF_AXST_REACT n) 0
        if defer then s else s.torqueOff n code
      else s
    else s
  else s

/-- R124: a fault whose reaction is applied at once. -/
def State.fault (n cause sub src : Nat) (s : State) : State := s.faultWith n cause sub src (faultSafe cause) false

/-- R259, R298, R301, R302: a fault whose event itself takes the gates away: when it latched no reaction 0x0, as in FAULT on a
controlled ramp, the PWM is disabled all the same. -/
def State.hardFault (n cause sub src code : Nat) (s : State) : State :=
  let s := s.faultWith n cause sub src code false
  if s.flag (PWM_AXST_EN n) || (s.pax n).arming then s.torqueOff n code else s

/-- R276, R124: a feedback fault of local axis `a` with its code; the code that belongs to a latched cause 0x06 stays with it. -/
def State.feedbackFault (a code src : Nat) (s : State) : State :=
  let had := s.axState a == 6 && s.get (PRF_AXST_CAUSE a) == 6
  let s := s.fault a 0x06 code src
  if !had && s.axState a == 6 && s.get (PRF_AXST_CAUSE a) == 6 then s.onAxis a fun x => { x with fbCode := code } else s

/-- R31, R34: a condition of R30 has ceased to hold: `cause`, detected in island `isl`. -/
def State.guardEnd (cause isl : Nat) (s : State) : State :=
  let first := s.flag ERR_GUARD_HELD
  let lower := !first && s.pow.guardAt == some s.clk.elapsed && decide (cause < s.get ERR_GUARD_CAUSE)
  let s :=
    if first || lower then
      (((((s.mark ERR_GUARD_HELD false).put ERR_GUARD_CAUSE cause).put ERR_GUARD_ISLAND_HI (isl / 16)).put
        ERR_GUARD_ISL_ISL isl).wr ERR_GUARD_T s.t32).onPow fun p => { p with guardAt := some s.clk.elapsed }
    else s
  let s := s.severe isl cause ERR_GUARD
  (below 256 fun n => s.enabled n).foldl (fun s n => s.fault n 0x01 cause isl) s

end Sys2Proof.Machine
end

