-- ==== Sys2Proof/Machine/Feedback.lean ====
section
/-! DEFINITION. Feedback ports: configuration, readings of absolute encoders, failures, and the measured position
(R262 to R276). -/

namespace Sys2Proof.Machine

/-- A feedback port. -/
def State.prt (s : State) (p : Nat) : Port := tabGet {} s.ports p

/-- Change a feedback port. -/
def State.onPort (p : Nat) (f : Port → Port) (s : State) : State := s.onPorts fun t => tabMod {} t p f

/-- R262: the enabled local axis whose entry names port `p`. -/
def State.portOwner (s : State) (p : Nat) : Option Nat :=
  (List.range 32).find? fun a => s.enabled a && s.isLocal a && s.axFbPort a == p

/-- R262, R274: `size` bytes of the Feedback section in force for port `p`, at entry offset `off`: of the enabled axis that
names the port, of the MACHINE record for a master, of the SAFETY record for a PSRC2 port (R455), else of the lowest local entry that
names it. -/
def State.portU (s : State) (p off size : Nat) : Nat :=
  match s.portOwner p, tabFind s.menc p with
  | some a, _ => s.axU a off size
  | none, some b => leAt b (off - 0x80) size
  | none, none =>
    match tabFind s.saf.ports p, (List.range 32).find? fun a => s.isLocal a && s.axFbPort a == p with
    | some b, _ => leAt b (off - 0x80) size
    | none, some a => s.axU a off size
    | none, none => 0

def State.fbMode (s : State) (p : Nat) : Nat := s.portU p 0x081 1
def State.fbBits (s : State) (p : Nat) : Nat := s.portU p 0x082 1

/-- R274: is port `p` read as a master? -/
def State.isMaster (s : State) (p : Nat) : Bool := (s.portOwner p).isNone && (tabFind s.menc p).isSome

/-- R267: TRIG of port `p` in ns. -/
def State.trig (s : State) (p : Nat) : Nat := if s.fbMode p = 1 then s.portU p 0x08C 4 else s.portU p 0x088 4

/-- R267, R274, R455: the period in ns with which port `p` is read. -/
def State.readPeriod (s : State) (p : Nat) : Nat :=
  match s.portOwner p with
  | some a => s.velPeriod a
  | none => if !s.isMaster p && (tabFind s.saf.ports p).isSome then 125000 else s.rd FBK_MPER

/-- R267: the latch instant of the reading under way (elapsed nanoseconds): TRIG before the next boundary. -/
def State.latchTime (s : State) (p : Nat) : Nat :=
  let tv := s.readPeriod p
  if tv = 0 then s.clk.elapsed else s.clk.elapsed + (tv - s.clk.ns % tv) - s.trig p

/-- R275: JUMPTH of port `p`. -/
def State.jumpTh (s : State) (p : Nat) : Nat := s.portU p 0x094 4

/-- R267: EXTRA of port `p`. -/
def State.extra (s : State) (p : Nat) : Bool := bit (s.portU p 0x084 1) 3

/-- R262, R274, R455: is port `p` read: an enabled local entry names it, or it is a master after APPLY, or a PSRC2 port? -/
def State.portUsed (s : State) (p : Nat) : Bool :=
  (s.portOwner p).isSome || (s.isMaster p && decide (7 ≤ s.get CFG_STATE_STATE)) || (tabFind s.saf.ports p).isSome

/-- R278, R434: what a list of dated items, newest first, keeps at `now`: those of the last 2^24 ns, longer than any filter time, and two
more. -/
def recent {α : Type} (now : Nat) (time : α → Nat) (l : List α) : List α :=
  (l.takeWhile fun e => decide (now ≤ time e + 2 ^ 24)) ++ (l.dropWhile fun e => decide (now ≤ time e + 2 ^ 24)).take 2

/-! ### Failures (R268, R276) -/

/-- R276, R274: a feedback fault with its code is latched on port `p`: the axis of the port, or the slaves of a master. -/
def State.portFault (p code src : Nat) (s : State) : State :=
  let s := (s.latch (FBK_PST_FAULT p)).put (FBK_PST_LASTERR p) code
  let s := if 32 ≤ p then s.masterLost fun sel => sel == 0x3000 + (p - 32) else s
  match s.portOwner p with
  | some a => s.feedbackFault a code src
  | none => s

/-- R268: a reading of port `p` fails with its code. -/
def State.readFail (p code : Nat) (s : State) : State :=
  let s := ((s.satBump (FBK_PST_CONS p) 1).bump (FBK_PST_TOTAL p)).put (FBK_PST_LASTERR p) code
  let s := (s.mark (FBK_PST_EXT p) false).onPort p fun x =>
    { x with
      good := 0, failed := true, taken := none
      pred := x.pred.map (· + x.inc)
      reads := ((match x.reads with
        | r :: _ => [{ time := s.latchTime p, x := r.x + x.inc * 65536, est := true }]
        | [] => []) ++ recent s.clk.elapsed PortRead.time x.reads) }
  if s.get (FBK_PST_CONS p) = s.portU p 0x085 1 then s.portFault p code 0x12 else s

/-- R264, R268: a good reading `y` of port `p`, a cyclic one or the one of step 3 of the enable. -/
def State.goodRead (p y : Nat) (cyclic : Bool) (s : State) : State :=
  let o := s.prt p
  let w := s.fbBits p
  let step : Int := match o.last with
    | some l => signed w (y + 2 ^ w - l % 2 ^ w)
    | none => 0
  let x : Int := match o.last with
    | some _ => signed 48 (unsigned 48 (o.x + step))
    | none => (y : Int)
  let jump := s.jumpTh p
  match o.pred with
  | some e =>
    if cyclic ∧ jump ≠ 0 ∧ jump < (x - e).natAbs then s.readFail p 0x8
    else
      let s := (s.put (FBK_PST_CONS p) 0).mark (FBK_PST_VALID p) true
      (s.wr64 (FBK_PRAW p) (unsigned 64 x)).onPort p fun q =>
        { q with
          x := x, last := some y, inc := step, good := min 2 (q.good + 1), taken := some (x * 65536), failed := false
          pred := if 1 ≤ q.good then some (x + step) else none
          reads := { time := s.latchTime p, x := x * 65536 } :: recent s.clk.elapsed PortRead.time q.reads }
  | none =>
    let s := (s.put (FBK_PST_CONS p) 0).mark (FBK_PST_VALID p) true
    (s.wr64 (FBK_PRAW p) (unsigned 64 x)).onPort p fun q =>
      { q with
        x := x, last := some y, inc := step, taken := some (x * 65536), failed := false
        good := if cyclic then min 2 (q.good + 1) else 0
        pred := if cyclic && decide (1 ≤ q.good) then some (x + step) else none
        reads := { time := if cyclic then s.latchTime p else s.clk.elapsed, x := x * 65536 } ::
          recent s.clk.elapsed PortRead.time q.reads }

/-! ### SSI (R266) -/

/-- The number that bits spell, most significant first. -/
def ofBits (l : List Bool) : Nat := l.foldl (fun a b => 2 * a + b2n b) 0

/-- Gray code to binary, most significant bit first. -/
def grayBits : Bool → List Bool → List Bool
  | _, [] => []
  | p, b :: t => (p != b) :: grayBits (p != b) t

/-- R266: an SSI frame of port `p`: its position, or the code of its failure. -/
def State.ssiDecode (s : State) (p : Nat) (f : Frame) : Nat ⊕ Nat :=
  let o := s.portU p 0x084 1
  let n := s.fbBits p
  let pos := f.bits.take n
  let err := bit o 2 && (f.bits.drop n).headD false
  let par := (f.bits.drop (n + b2n (bit o 2))).headD false
  let odd := (pos.filter id).length % 2 == 1
  if !f.start || !f.framing || f.bits.length < n then .inr 0x6
  else if bit o 1 && par != odd then .inr 0x7
  else if err then .inr 0x5
  else .inl (ofBits (if bit o 0 then grayBits false pos else pos))

/-! ### The Afven encoder link (R269 to R273) -/

/-- Eight steps of CRC-8 with polynomial 0x2F. -/
def crc8Steps : Nat → Nat → Nat
  | 0, c => c
  | k + 1, c => crc8Steps k (if 128 ≤ c then (2 * c % 256) ^^^ 0x2F else 2 * c)

/-- R271: the CRC of a frame. -/
def crc8 (l : List Byte) : Nat := (l.foldl (fun c b => crc8Steps 8 (c ^^^ b.toNat)) 0xFF) ^^^ 0xFF

/-- R270, R271: the request frame of command `code` with its arguments: the code below its complement, and a CRC after arguments. -/
def afvenRequest (code : Nat) (args : List Byte) : List Byte :=
  let f := leBytes 1 ((15 - code) * 16 + code) ++ args
  if args = [] then f else f ++ leBytes 1 (crc8 f)

/-- R270: the arguments of command `code`, from ADDR and DATA. -/
def afvenArgs (code addr data : Nat) : List Byte :=
  match code with
  | 3 => leBytes 1 addr
  | 4 => leBytes 1 addr ++ leBytes 2 data
  | _ => []

/-- R270: port `p` sends the request of command `code`. -/
def State.sendAfven (p code addr data : Nat) (s : State) : State :=
  s.onPort p fun q => { q with sent := afvenRequest code (afvenArgs code addr data) }

/-- R270, R276: a response to command `code` with `n` bytes between STATUS and the CRC: its STATUS and bytes, or a failure. -/
def afvenDecode (code n : Nat) (f : Frame) : (Nat × List Byte) ⊕ Nat :=
  let st := leAt f.bytes 0 1
  if !f.start then .inr 0x1
  else if !f.framing then .inr 0x2
  else if f.bytes.length ≠ n + 2 then .inr 0x4
  else if crc8 (f.bytes.take (n + 1)) ≠ leAt f.bytes (n + 1) 1 then .inr 0x3
  else if st % 16 ≠ code ∨ bits st 5 4 ≠ 0 then .inr 0x4
  else if bit st 7 then .inr 0x5
  else .inl (st, slice f.bytes 1 n)

/-- R272: WARN in a STATUS sets the flag of the port, with one warning. -/
def State.encWarn (p st : Nat) (s : State) : State := if bit st 6 then s.raise 0x12 (FBK_PST_WARN p) else s

/-- R267, R268, R270: the reading of an absolute encoder on port `p`; `temp` for a POST response. -/
def State.readPort (p : Nat) (f : Frame) (temp cyclic : Bool) (s : State) : State :=
  if s.fbMode p = 1 then
    match s.ssiDecode p f with
    | .inl y => s.goodRead p y cyclic
    | .inr c => s.readFail p c
  else if s.fbMode p = 2 then
    let n := (s.fbBits p + 7) / 8
    let s := s.sendAfven p (if temp then 2 else 1) 0 0
    match afvenDecode (if temp then 2 else 1) (n + b2n temp) f with
    | .inl (st, d) => (s.encWarn p st).goodRead p (leAt d 0 n % 2 ^ s.fbBits p) cyclic
    | .inr c => s.readFail p c
  else s

/-- R272: the IDENT exchange of port `p` at an enable: RTD and IDENT are kept; the answer is true when BITS and RTD are right. -/
def State.identPort (p : Nat) (f : Frame) (rtd : Nat) (s : State) : Bool × State :=
  let s := s.sendAfven p 6 0 0
  match afvenDecode 6 5 f with
  | .inl (st, d) =>
    let s := ((s.encWarn p st).wr (FBK_RTD p) rtd).wr (FBK_AID p) (leAt d 1 4)
    (leAt d 0 1 == s.fbBits p && decide (rtd ≤ 1200), s)
  | .inr _ => (false, s)

/-! ### The measured position (R264, R267) -/

/-- R264: the measured position of local axis `a`, Q48.16, from a port position X times 2^16. -/
def State.signPos (s : State) (a : Nat) (x : Int) : Int :=
  (if s.axDirInv a then -x else x) + s.axAbsOfs a + (s.axis a).dOfs

/-- R264: the measured position of local axis `a` at the last boundary, Q48.16. -/
def State.measPos (s : State) (a : Nat) : Int :=
  match s.axFbPort a with
  | 0xFF => 0
  | p => s.signPos a (s.prt p).xb

/-- R274: the position of a master-encoder port, kept in [0, MMOD). -/
def State.mencPos (s : State) (k : Nat) : Int :=
  let m := s.rd64 (FBK_MMOD k)
  let x := (s.prt (32 + k)).xb
  if m = 0 then x else x % (m : Int)

/-- Show the position of port `p` at the last boundary (R282). -/
def State.showPos (p : Nat) (s : State) : State :=
  s.wr64S (FBK_PPOS p) (match s.portOwner p with
    | some a => s.signPos a (s.prt p).xb
    | none => if 32 ≤ p then s.mencPos (p - 32) else (s.prt p).xb)

/-- R267, R268: the position that port `p` gives to a boundary with a velocity period of `tv` ns. -/
def State.portBoundary (p tv : Nat) (s : State) : State :=
  let o := s.prt p
  let ext := s.fbMode p != 0 && s.extra p && o.good == 2
  let x : Int :=
    if s.fbMode p = 0 then o.x * 65536
    else match o.taken with
      | some t => if ext && tv != 0 then t + o.inc * 65536 * (s.trig p : Int) / (tv : Int) else t
      | none => o.xb + o.xbInc
  let s := s.onPort p fun q => { q with xb := x, xbInc := x - q.xb, taken := none }
  (s.mark (FBK_PST_EXT p) ext).showPos p

/-- R264: EANG of local axis `a`: (POLES × X / ECPR + COMMOFS) mod 1 in Q1.15, truncated (log 19). -/
def State.eangOf (s : State) (a : Nat) (x : Int) : BitVec 16 :=
  let ecpr : Int := max 1 (s.axS a 0x0C8 8)
  let turn := x * (s.axPoles a : Int) * 32768 / ecpr
  BitVec.ofInt 16 ((turn + (s.axCommOfs a : Int)) % 32768)

/-- R264: EANG at the last boundary, formed from X before DIRINV. -/
def State.eang (s : State) (a : Nat) : BitVec 16 :=
  match s.axFbPort a with
  | 0xFF => s.eangOf a 0
  | p => s.eangOf a (s.prt p).xb

end Sys2Proof.Machine
end

