-- ==== Sys2Proof/Machine/Operands.lean ====
section
/-! DEFINITION. The operand forms of the engine instructions: registers of a context's bank, data memory through a pointer
and a modifier (R213 to R216), scales (R217), conditions (R212), input ports (R223, R224) and sines
(R193, R194, R230). -/

namespace Sys2Proof.Machine

/-! ### Registers of a context (R205) -/

def Ctx.dR (c : Ctx) (i : Nat) : BitVec 16 := tabGet 0 c.d i
def Ctx.aR (c : Ctx) (i : Nat) : BitVec 40 := tabGet 0 c.a i
def Ctx.lR (c : Ctx) (i : Nat) : BitVec 48 := tabGet 0 c.l i
def Ctx.pR (c : Ctx) (i : Nat) : BitVec 11 := tabGet 0 c.p i
def Ctx.mR (c : Ctx) (i : Nat) : BitVec 32 := tabGet 0 c.m i
def Ctx.setD (i : Nat) (v : BitVec 16) (c : Ctx) : Ctx := { c with d := tabSet c.d i v }
def Ctx.setA (i : Nat) (v : BitVec 40) (c : Ctx) : Ctx := { c with a := tabSet c.a i v }
def Ctx.setL (i : Nat) (v : BitVec 48) (c : Ctx) : Ctx := { c with l := tabSet c.l i v }
def Ctx.setP (i : Nat) (v : BitVec 11) (c : Ctx) : Ctx := { c with p := tabSet c.p i v }
def Ctx.setM (i : Nat) (v : BitVec 32) (c : Ctx) : Ctx := { c with m := tabSet c.m i v }

/-! ### Data memory (R172, R213 to R216) -/

/-- The word of data memory at `i` modulo 2 048. -/
def Ctx.word (c : Ctx) (i : Nat) : BitVec 16 := tabGet 0 c.mem (i % 2048)

/-- Put a word into data memory; the 3256's own writes. -/
def Ctx.putWord (i : Nat) (v : BitVec 16) (c : Ctx) : Ctx := { c with mem := tabSet c.mem (i % 2048) v }

/-- R215: a program's store: a word below 0x080 is not written, and the answer is true. -/
def Ctx.storeWord (i : Nat) (v : BitVec 16) (c : Ctx) : Bool × Ctx :=
  if i % 2048 < 0x80 then (true, c) else (false, c.putWord i v)

/-- R213: the fields of a modifier. -/
def modStep (m : BitVec 32) : Int := signed 10 (m.toNat / 2 ^ 22)
def modBase (m : BitVec 32) : Nat := m.toNat / 2 ^ 11 % 2 ^ 11
def modLen (m : BitVec 32) : Nat := m.toNat % 2 ^ 11

/-- R214: the pointer `p` after an access with modifier `m`. -/
def modified (p : BitVec 11) (m : BitVec 32) : BitVec 11 :=
  let st := modStep m
  if modLen m = 0 then BitVec.ofInt 11 ((p.toNat : Int) + st)
  else
    let off := (p.toNat + 2048 - modBase m) % 2048
    BitVec.ofInt 11 ((modBase m : Int) + ((off : Int) + st) % (modLen m : Int))

/-- R214: the pointer register `p` after an access [Pp] (no modifier) or [Pp]+Mm. -/
def Ctx.modify (p : Nat) (md : Option (Fin 8)) (c : Ctx) : Ctx :=
  match md with
  | none => c
  | some m => c.setP p (modified (c.pR p) (c.mR m))

/-- R214: the word address of an access through pointer `p`. -/
def Ctx.addr (c : Ctx) (p : Nat) : Nat := (c.pR p).toNat

/-- R216: `n` words from the pointer, lowest address least significant, as a number. -/
def Ctx.words (c : Ctx) (p : Nat) : Nat → Nat
  | 0 => 0
  | n + 1 => (c.word p).toNat + 65536 * Ctx.words c (p + 1) n

/-- R215, R216: store `n` words of `v` from `p`; true when one lay below 0x080. -/
def Ctx.storeWords (p v : Nat) : Nat → Ctx → Bool × Ctx
  | 0, c => (false, c)
  | n + 1, c =>
    let r := c.storeWord p (BitVec.ofNat 16 v)
    let q := Ctx.storeWords (p + 1) (v / 65536) n r.2
    (r.1 || q.1, q.2)

/-! ### Conversions and conditions -/

/-- R217: the scale of a conversion: the S field, or ENG_CTX[a].SCALE for DEF. -/
def State.scale (s : State) (a : Nat) (sc : Option (BitVec 4)) : Int :=
  match sc with
  | some v => v.toInt
  | none => s.getS (ENG_CTX_SCALE a)

/-- `v × 2^k`, rounded towards minus infinity for a negative `k`. -/
def shiftInt (v k : Int) : Int := if 0 ≤ k then v * ((2 ^ k.toNat : Nat) : Int) else asr v (-k).toNat

/-- R217: ⌊v × 2^S / 2^16⌋ limited to 16 bits, and whether it was limited. -/
def convert (v : BitVec 40) (sc : Int) : BitVec 16 × Bool :=
  let r := asr (shiftInt (v.toInt * 256) sc) 24
  if 0x7FFF < r then (0x7FFF#16, true)
  else if r < -0x8000 then (0x8000#16, true)
  else (BitVec.ofInt 16 r, false)

/-- R192: the preset flag of a section of axis `a`. -/
def preFlag (a sect : Nat) : Fld :=
  match sect with
  | 1 => ENG_CST_PREPOS a
  | 2 => ENG_CST_PREVEL a
  | _ => ENG_CST_PRECUR a

/-- R212: is the condition CC true in context `a`? Bit 4 inverts. -/
def State.cond (s : State) (a cc : Nat) : Bool :=
  let c := s.cx a
  let v : Bool :=
    match cc % 16 with
    | 0 => true
    | 1 => c.z
    | 2 => c.n
    | 3 => c.z || c.n
    | 4 => s.flag (preFlag a c.sect)
    | 5 => c.clf
    | 6 => c.av != 0
    | 7 => c.sat != 0
    | k => if k < 12 then c.av.getLsbD (k - 8) else c.sat.getLsbD (k - 12)
  if 16 ≤ cc then !v else v

/-! ### Input ports (R223, R224) -/

/-- R199, R224: the current reference that IREFD and IREFQ return: the newly clamped one from the fourth cycle after OUTI
in the instance that executes it, the previous one before; PID and PIQ until the first write after an enable. -/
def Ctx.iref (c : Ctx) : BitVec 16 × BitVec 16 :=
  let old := if c.irefSet then (c.irefd, c.irefq) else (c.word 0x075, c.word 0x074)
  match c.irefNew with
  | some (d, q, at') => if at' ≤ c.cyc then (d, q) else old
  | none => old

/-- R199, R224, R110: the pair that IREFD and IREFQ return. With DIRINV the sign of the current reference is inverted where
the current section takes it (log 20). -/
def State.irefRead (s : State) (a : Nat) : BitVec 16 × BitVec 16 :=
  let c := s.cx a
  if s.axDirInv a && c.sect == 3 && c.irefSet then (-c.iref.1, -c.iref.2) else c.iref

/-- R223, R224: the value of a 16-bit input port; a port that is none reads 0 (R231 refuses the program). -/
def State.port16 (s : State) (a port : Nat) : BitVec 16 :=
  let c := s.cx a
  match port with
  | 0x00 => c.isu
  | 0x01 => c.isv
  | 0x02 => c.isw
  | 0x03 => c.eang
  | 0x04 => (s.irefRead a).1
  | 0x05 => (s.irefRead a).2
  | 0x06 => if c.vrefSet then c.vref else c.word 0x076
  | 0x07 => c.dcor
  | 0x08 => BitVec.ofNat 16 (s.get (ENG_JEST_JEST a))
  | _ => 0

/-- R223, R224: the value of a long input port. -/
def State.portLong (s : State) (a port : Nat) : BitVec 48 :=
  let c := s.cx a
  match port with
  | 0x10 => c.pm
  | 0x11 => if c.fresh then c.pm else c.pmp
  | 0x12 => c.psp
  | 0x13 => c.vsp.signExtend 48
  | _ => 0

/-! ### Sines (R193, R194, R230) -/

/-- π × 2^64, rounded down. -/
def pi64 : Nat := 57952155664616982739

/-- Terms of the sine series: the sum of the remaining terms, alternating, from term `t` (scaled 2^64) of index `k`. -/
def sinTerms : Nat → Nat → Nat → Nat → Int
  | 0, _, _, _ => 0
  | f + 1, x2, k, t => (t : Int) - sinTerms f x2 (k + 1) (t * x2 / 2 ^ 64 / ((2 * k) * (2 * k + 1)))

/-- sin(2π n / 2^32) × 2^64 for 0 ≤ n ≤ 2^30, and exactly 2^64 at the top. -/
def sinFine (n : Nat) : Int :=
  if n = 0 then 0
  else if 2 ^ 30 ≤ n then 2 ^ 64
  else
    let x := pi64 * n / 2 ^ 31
    sinTerms 16 (x * x / 2 ^ 64) 1 x

/-- sin(2π n / 2^32) × 2^64, by quadrant. -/
def sinOf (n : Nat) : Int :=
  let r := n % 2 ^ 30
  match n / 2 ^ 30 % 4 with
  | 0 => sinFine r
  | 1 => sinFine (2 ^ 30 - r)
  | 2 => -sinFine r
  | _ => -sinFine (2 ^ 30 - r)

/-- R230: a result within 1 LSB of the exact value `v` × 2^-64, chosen by the free value `w`: one of the two multiples of
2^-15 around it, or of the three when it is one itself; +1 is 0x7FFF. -/
def nearWord (v : Int) (w : Nat) : BitVec 16 :=
  let f := v / 2 ^ 49
  let r : Int := if v % 2 ^ 49 = 0 then f - 1 + ((w % 3 : Nat) : Int) else f + ((w % 2 : Nat) : Int)
  BitVec.ofInt 16 (clampInt (-0x8000) 0x7FFF r)

/-- R194: the angle of phase `h` when U stands at `e`, in 2^-32 of a turn. -/
def phaseAngle (e h : Nat) : Nat := e + (3 - h) * (2 ^ 32 / 3)

/-- R194: a phase of the pair `d`, `q` at the angle `th`, exact, in 2^-49 of an LSB. -/
def dqPhase (d q : Int) (th : Nat) : Int := (d * sinOf (th + 2 ^ 30) - q * sinOf th) / 2 ^ 15

/-- R193: the d and q currents of the sample of context `c`, exact, in 2^-49 of an LSB: the inverse of `dqPhase`, at EANG. -/
def Ctx.dqOf (c : Ctx) : Int × Int :=
  let e := c.eang.toNat * 131072
  let d := c.isu.toInt * sinOf (phaseAngle e 0 + 2 ^ 30) + c.isv.toInt * sinOf (phaseAngle e 1 + 2 ^ 30) + c.isw.toInt * sinOf (phaseAngle e 2 + 2 ^ 30)
  let q := c.isu.toInt * sinOf (phaseAngle e 0) + c.isv.toInt * sinOf (phaseAngle e 1) + c.isw.toInt * sinOf (phaseAngle e 2)
  (2 * d / (3 * 2 ^ 15), -(2 * q) / (3 * 2 ^ 15))

end Sys2Proof.Machine
end

