-- ==== Sys2Proof/Machine/Contexts.lean ====
section
/-! DEFINITION. What happens to an engine context, its Darner, estimator and Sheepdog in APPLY, at an enable and at a commit or
a bank swap (R177, R192, R193, R206, R243, R248, R249). -/

namespace Sys2Proof.Machine

/-- R177: words 0x000 to 0x06F of the data memory of axis `a` take PARAM of the committed entry. -/
def State.loadParam (a : Nat) (s : State) : State :=
  let b := s.bulkBytes (s.entryAt a + 0x220) 224
  s.onCx a fun c => (List.range 112).foldl (fun c i => c.putWord i (BitVec.ofNat 16 (leAt b (2 * i) 2))) c

/-- R206: P0 to P7 and M0 to M7 take their images in words 0x058 to 0x06F. -/
def Ctx.loadImages (c : Ctx) : Ctx :=
  (List.range 8).foldl (fun c i =>
    (c.setP i ((c.word (0x58 + i)).setWidth 11)).setM i ((c.word (0x61 + 2 * i)) ++ (c.word (0x60 + 2 * i)))) c

/-- R206: D, A, L and the flags are 0. -/
def Ctx.clearRegs (c : Ctx) : Ctx :=
  { c with d := [], a := [], l := [], z := false, n := false, av := 0, sat := 0 }

/-- R206, R177: the context of axis `a` after APPLY. -/
def State.applyContext (a : Nat) (s : State) : State :=
  ((s.onCx a fun _ => {}).loadParam a).onCx a Ctx.loadImages

/-- R192: the three preset flags of axis `a`. -/
def State.setPreset (a : Nat) (s : State) : State :=
  (((s.mark (ENG_CST_PREPOS a) true).mark (ENG_CST_PREVEL a) true).mark (ENG_CST_PRECUR a) true).onCx a fun c => { c with preHeld := true }

/-- R193: the hand-over page: words 0x070 to 0x076 in order, the rest 0. -/
def Ctx.handOver (w : List (BitVec 16)) (c : Ctx) : Ctx :=
  (List.range 16).foldl (fun c i => c.putWord (0x70 + i) (w.getD i 0)) c

/-- R193: RPRE × a current, truncated to Q1.15. -/
def State.preVolt (s : State) (a : Nat) (i : BitVec 16) : BitVec 16 :=
  BitVec.ofInt 16 (satSigned 16 (asr ((s.axRpre a : Int) * i.toInt) 15))

/-- R193: the d and q currents of the last precise sample of axis `a`. Each is open within 1 LSB: how the 3256 rounds them is not in the
spec. A DC motor has no electrical angle: what the two are there is open altogether (log 2, log 91). -/
def State.dqNow (s : State) (a : Nat) : BitVec 16 × BitVec 16 :=
  let f := s.free (2 ^ 32)
  if s.axBridges a = 2 then (BitVec.ofNat 16 f, BitVec.ofNat 16 (f / 65536))
  else (nearWord (s.cx a).dqOf.1 f, nearWord (s.cx a).dqOf.2 (f / 65536))

/-- R193: the hand-over page of an enable, from the d and q currents of the first precise sample. -/
def State.handOverEnable (a : Nat) (s : State) : State :=
  let v := s.dqNow a
  ((s.drew 1).onCx a (Ctx.handOver [v.1, v.2, s.preVolt a v.1, s.preVolt a v.2, v.2, 0, 0])).onAxis a fun x => { x with preset := false }

/-- R193: the hand-over page at a commit or bank swap. -/
def State.handOverCommit (a : Nat) (s : State) : State :=
  let v := s.dqNow a
  (s.drew 1).onCx a fun c => c.handOver [v.1, v.2, c.vd, c.vq, c.irefq, c.irefd, c.vref]

/-- R249: the Sheepdog of axis `a` enters PENDING with SETTLE 256. -/
def State.sheepPending (a : Nat) (s : State) : State :=
  let s := ((s.put (ENG_SST_STATE a) 1).put (ENG_SST_SETTLE a) 256).mark (PRF_AXST_SDPEND a) true
  (s.wr (ENG_SRES a) 0).onShp fun t => tabMod {} t a fun x => { x with rf := 0 }

/-- R248: the inertia estimate of axis `a` is preset. -/
def State.presetInertia (a : Nat) (s : State) : State :=
  (((s.put (ENG_JEST_JEST a) (s.axU a 0x342 2)).put (ENG_JEST_JOFS a) 0).onIne fun t => tabSet t a {})

/-- R243: the tag of the Darner memory of axis `n`: the committed GEN when DEN is 1, else 0. -/
def State.tagDarner (n : Nat) (s : State) : State :=
  s.put (PRF_AXGEN_DGEN n) (if n < 32 && s.axKind n == 1 && bit (s.axU n 0x300 1) 0 then s.get (PRF_AXGEN_CGEN n) else 0)

/-- R254: ENG_DST.STATE and RAMP of axis `a` outside its instances: off with DEN 0, idle outside CYCLIC. -/
def State.showDarner (a : Nat) (s : State) : State :=
  let st := s.get (ENG_DST_STATE a)
  let s := s.put (ENG_DST_STATE a) (if !(bit (s.axU a 0x300 1) 0) then 0 else if s.axState a ≠ 4 then 1 else max 1 st)
  s.mark (ENG_DST_RAMP a) (decide (s.get (ENG_DST_SPAN a) + 1 < s.axU a 0x31C 1))

/-- R113, R40: the caches of axis `n` are compared with the committed GEN: a stale descriptor is reloaded and a Darner memory
with another tag is emptied. -/
def State.revalidate (n : Nat) (s : State) : State :=
  let g := s.get (PRF_AXGEN_CGEN n)
  if 32 ≤ n then s
  else
    let old := (s.axis n).stale || s.get (ENG_CST_CGEN n) != g
    let s := (s.put (ENG_CST_CGEN n) g).onAxis n fun x => { x with stale := false }
    let s := (s.put (ENG_BAND_HYST n) (s.axHyst n)).put (ENG_BAND_MINDW n) (s.axMinDw n)
    if old || s.get (PRF_AXGEN_DGEN n) != (if bit (s.axU n 0x300 1) 0 then g else 0) then (s.emptyDarner n).tagDarner n else s

/-- R256: the sigma-delta channels that SDMASK marks fitted for local axis `a`. -/
def State.fitted (s : State) (a : Nat) : List Nat := below 3 fun h => bit (s.axSdMask a) h

/-- Steps 5 and 6 of R121 for local axis `a`: once the PWM is enabled and the integrators have been preset from the first precise sample, step
5 is complete; the brake is released and BRKREL runs. -/
def State.stepFive (a : Nat) (s : State) : State :=
  if s.axState a = 1 ∧ (s.axis a).enStep = 4 ∧ s.flag (PWM_AXST_EN a) ∧ !((s.axis a).preset) ∧ !((s.axis a).disabling) then
    (s.setBrake a false).onAxis a fun x => { x with enStep := 6, brakeDue := some (s.clk.elapsed + s.axBrkRel a * 1000000) }
  else s

/-- Step 4 of R121 for local axis `a`, and the start of step 5: the set-point, the context, and the PWM and the presets that are to come. -/
def State.finishEnable (a : Nat) (s : State) : State :=
  let m := s.measPos a
  let s := s.onMot a fun x => { x with pos := m * 65536, vel := 0, acc := 0 }
  let s := (s.wr64S (PRF_SPOS a) m).wr64S (PRF_SVEL a) 0
  let s := (s.put (ENG_STAT_ENABLED (a / 4)) (setBit (s.get (ENG_STAT_ENABLED (a / 4))) (a % 4) true)).put (ENG_CST_RUN a) 1
  let s := (s.onCx a fun c =>
    { c.clearRegs with irefSet := false, irefNew := none, vrefSet := false, clf := false, clfNext := false, fresh := true, ran := false,
                       psp := BitVec.ofInt 48 (m / 65536), vsp := 0, bandW := [(0, s.axMinDw a), (1, s.axMinDw a), (2, s.axMinDw a)],
                       bandCut := [], bandRef := (0, 0), refs := [], refTaken := false, slot := none }).loadParam a
  let s := (s.onCx a fun c => (c.loadImages).handOver []).setPreset a
  let s := if s.axCMode a = 2 then (s.bridges a).foldl (fun s h => s.put (bandSt a h) 1) s else s
  let s := (s.sheepPending a).pwmOn a
  let s := (s.fitted a).foldl (fun s h => s.mark (CSF_CST_ACT (3 * a + h)) true) s
  let s := s.onAxis a fun x =>
    { x with enStep := 4, preset := true, irefAt := none, ovsRun := 0, feCount := 0, envOut := false, clamps := 0 }
  s.showSafe a

/-- Step 3 of R121 for local axis `a`: the reading is there; REF of an absolute axis is set, an incremental axis is marked
unreferenced; then the rest of the enable. -/
def State.afterRead (a : Nat) (s : State) : State :=
  let s := s.mark (PRF_AXST_REF a) (s.axRefMode a == 0)
  let s := if s.axFbPort a = 0xFF then s
    else (s.portBoundary (s.axFbPort a) 0).onPort (s.axFbPort a) fun q => { q with xbInc := 0 }
  s.finishEnable a

/-- Step 3 of R121: does the enable of axis `a` wait for a reading of an absolute encoder? A disable ends that wait (R122). -/
def State.awaitsRead (s : State) (a : Nat) : Bool := s.axState a == 1 && (s.axis a).enStep == 2 && !(s.axis a).disabling

/-- R272, R121: an exchange at step 3 of the enable of axis `a`: IDENT on the Afven link, then the reading. -/
def State.enableRead (a : Nat) (ident : Frame) (rtd : Nat) (first : Frame) (s : State) : State :=
  let p := s.axFbPort a
  let r := if s.fbMode p = 2 then s.identPort p ident rtd else (true, s)
  if !r.1 then r.2.portFault p 0xC 0x12
  else
    let s := r.2.readPort p first false false
    if s.flag (FBK_PST_VALID p) && s.awaitsRead a then s.afterRead a else s

/-- R120: the code that refuses an enable of axis `n`, if any. -/
def State.enableRefusal (s : State) (n : Nat) : Option Nat :=
  if s.axState n ≠ 0 then some 0x1
  else if s.get CFG_RCP_ACTIVE = 0xF ∧ s.get CFG_RCP_START ≠ 0xF then some 0x2
  else if s.flag CFG_CHG_BUSY then some 0x3
  else if n < 32 ∧ !(tabGet false s.pwm.genA (n / 4) && tabGet false s.pwm.genB (n / 4)) then some 0x4
  else if s.axKind n = 0 then some 0x5
  else if 32 ≤ n ∧ !((s.axis n).acked && s.get (RNG_MST_STATE (s.axMember n)) == 3) then some 0x6
  else if n < 32 ∧ (s.portOwner (s.axFbPort n)).isSome ∧ s.axFbPort n ≠ 0xFF then some 0xB
  else none

/-- Steps 1 and 2 of R121, and step 3 for an axis that has no absolute encoder to read. -/
def State.beginEnable (n : Nat) (s : State) : State :=
  let s := (s.enter n 1).onAxis n fun x =>
    { x with enStep := 2, enAt := s.clk.elapsed, enHeld := false, disabling := false, ssCount := 0, asked := setBit x.asked 1 true }
  let s := (if n < 32 then [n / 4, 8 + n / 4, 0x11, 0x12] else []).foldl (fun s i => s.put (PWR_ISL_STATE i) 0) s
  let s := s.revalidate n
  let s := if n < 32 then s.onCsf fun x => { x with stuck := x.stuck.filter fun c => c / 3 != n } else s
  if 32 ≤ n then s
  else
    let p := s.axFbPort n
    let s := if p = 0xFF then s else
      ((s.mark (FBK_PST_VALID p) (s.fbMode p == 0)).put (FBK_PST_CONS p) 0).onPort p fun q =>
        { q with last := none, good := 0, pred := none, taken := none, failed := false, reads := [] }
    if p = 0xFF ∨ s.fbMode p = 0 then s.afterRead n else s

/-- R120, R123: an enable request for axis `n`. -/
def State.requestEnable (n : Nat) (s : State) : State :=
  if s.flag (PRF_AXST_PENDCMT n) then s.onAxis n fun x => { x with enHeld := true }
  else if (1 ≤ (s.axis n).moved ∧ (s.axis n).moved ≤ 3) ∨ bit (s.axis n).asked 0 then s.put (PRF_AXCTL_REFUSE n) 0x8
  else
    match s.enableRefusal n with
    | some c => s.put (PRF_AXCTL_REFUSE n) c
    | none => s.beginEnable n

end Sys2Proof.Machine
end

