-- ==== Sys2Proof/Machine/AxisCtl.lean ====
section
/-! DEFINITION. The commands of axis states: requests of PRF_AXCTL, brake times, standstill, and the faults that are found by
counting (R103, R104, R120 to R126). -/

namespace Sys2Proof.Machine

/-- R122, R123: a disable request for axis `n`. An enable that was accepted earlier in the same profile period is overtaken: REFUSE shows
0x8, and the axis leaves ENABLING as R122 says (log 87). -/
def State.requestDisable (n : Nat) (s : State) : State :=
  let st := s.axState n
  let s := if bit (s.axis n).asked 1 then s.put (PRF_AXCTL_REFUSE n) 0x8 else s
  let s := s.onAxis n fun x => { x with enHeld := false, asked := setBit (setBit x.asked 0 true) 1 false }
  if st = 1 ∨ st = 2 then
    if (s.axis n).disabling then s
    else (s.setBrake n true).onAxis n fun x =>
      { x with disabling := true, brakeDue := some (s.clk.elapsed + s.axBrkSet n * 1000000), moved := 3 }
  else if st = 3 ∨ st = 4 then
    let s := ((s.dropMotion n).enter n 5).onAxis n fun x => { x with moved := 3, ssCount := 0 }
    (s.planRamp n).setMode n 0x3 0
  else s

/-- R126: is the latched cause of axis `n` still present? -/
def State.causePresent (s : State) (n : Nat) : Bool :=
  let p := s.axFbPort n
  match s.get (PRF_AXST_CAUSE n) with
  | 0x01 => true
  | 0x02 => n < 32 && (s.pwm.coreHalt != [] || s.eng.halted.contains (n / 4) || s.eng.clkLost.contains (n / 4) || s.pwm.clkLost.contains (n / 4))
  | 0x03 => s.pwm.clkLost.contains (n / 4)
  | 0x04 => (s.pax n).tripLow
  | 0x05 => (s.fitted n).any fun h =>
      decide (s.axU n 0x0B8 2 < (signed 16 (s.get (CSF_VAL_FAST (3 * n + h)))).natAbs)
  | 0x06 =>
    match (s.axis n).fbCode with
    | 0xB => (s.prt p).broken != 0
    | 0xD => (s.fitted n).any fun h => s.csf.stuck.contains (3 * n + h)
    | _ => false
  | 0x0C => s.get (RNG_MST_STATE (s.axMember n)) != 3
  | 0x0D => (s.axis n).memState == 6
  | _ => false

/-- R126: a fault reset request for axis `n`; when both reasons of a refusal hold, the present cause is named (log 21). -/
def State.requestReset (n : Nat) (s : State) : State :=
  if s.axState n ≠ 6 then s.put (PRF_AXCTL_REFUSE n) 0xA
  else if s.causePresent n then
    let s := s.put (PRF_AXCTL_REFUSE n) 0x7
    if 32 ≤ n then s.onAxis n fun x => { x with reqReset := true } else s
  else if !((s.axis n).reacted) then s.put (PRF_AXCTL_REFUSE n) 0x9
  else
    let c := s.get (PRF_AXST_CAUSE n)
    let s := s.toDisabled n 2
    let s := (((s.put (PRF_AXST_CAUSE n) 0).put (PRF_AXST_FCNT n) 0).mark (PRF_AXST_STOPTO n) false).put (PRF_AXST_REACT n) 0
    let s := if c = 0x06 then s.mark (PRF_AXST_REF n) false else s
    let s := s.onAxis n fun x => { x with moved := 4, safe := 0, fbCode := 0, reqReset := decide (32 ≤ n) }
    if n < 32 then
      (((s.mark (PWM_AXST_FLT n) false).put (PWM_AXST_RUN n) 0).put (ENG_SST_STATE n) 0).put (ENG_SST_SUB n) 0 |>.showSafe n
    else s

/-- R123, R127: the requests of one write of PRF_AXCTL, in their order of precedence: an enable beside a disable is refused. -/
def State.axisRequests (n : Nat) (enable disable reset : Bool) (s : State) : State :=
  let s := if disable then s.requestDisable n else s
  let s := if reset then s.requestReset n else s
  if enable then (if disable then s.put (PRF_AXCTL_REFUSE n) 0x8 else s.requestEnable n) else s

/-- Has the brake time of axis `n` elapsed? -/
def State.brakeOver (s : State) (n : Nat) : Bool :=
  match (s.axis n).brakeDue with
  | some t => decide (t ≤ s.clk.elapsed)
  | none => false

/-- R122: BRKREL of an enabling axis has elapsed: STANDSTILL. -/
def State.brkRel (n : Nat) (s : State) : State :=
  if s.axState n = 1 ∧ (s.axis n).enStep = 6 ∧ !((s.axis n).disabling) ∧ s.brakeOver n then
    (s.onAxis n fun x => { x with enStep := 7, brakeDue := none }).enter n 2
  else s

/-- R122: BRKSET of a disabling axis has elapsed: DISABLED. -/
def State.brkSet (n : Nat) (s : State) : State :=
  if (s.axis n).disabling ∧ s.brakeOver n then s.toDisabled n 1 else s

/-- R122, R125: the measured speed has stayed at most SSVEL for SSTIME profile periods, as counted at the boundaries. -/
def State.standstill (n : Nat) (s : State) : State :=
  let st := s.axState n
  let react := s.get (PRF_AXST_REACT n)
  if (s.axis n).ssCount < max 1 (s.axSsTime n) then s
  else if st = 3 ∨ st = 4 then ((s.onAxis n fun x => { x with ssCount := 0 }).enter n 2).setMode n 0 0
  else if st = 5 then
    if (s.axis n).disabling then s
    else ((s.setBrake n true).setMode n 0 0).onAxis n fun x =>
      { x with disabling := true, brakeDue := some (s.clk.elapsed + s.axBrkSet n * 1000000) }
  else if st = 6 ∧ !((s.axis n).reacted) ∧ react = 1 then s.torqueOff n 2
  else if st = 6 ∧ !((s.axis n).reacted) ∧ react = 2 then s.onAxis n fun x => { x with reacted := true }
  else s

/-- R125: a fault stop that has not reached standstill within STOPTMO. -/
def State.stopTimeout (n : Nat) (s : State) : State :=
  if s.axState n = 6 ∧ s.get (PRF_AXST_REACT n) ≠ 0 ∧ !((s.axis n).reacted) ∧
      (s.axis n).faultAt + s.axStopTmo n * 1000000 ≤ s.clk.elapsed then
    (s.mark (PRF_AXST_STOPTO n) true).torqueOff n 2
  else s

/-- R104: the speed of local axis `a` has been over 9/8 SPD.EFF for 8 velocity periods, and this run has not been detected. -/
def State.overspeed (a : Nat) (s : State) : State :=
  if s.enabled a ∧ (s.axis a).ovsRun = 8 then (s.onAxis a fun x => { x with ovsRun := 9 }).fault a 0x08 0 (a / 4) else s

/-- R124: the following error has been over FEMAX for FETIME position periods, and this run has not been detected. -/
def State.followFault (a : Nat) (s : State) : State :=
  if s.enabled a ∧ (s.axis a).feCount = max 1 (s.axFeTime a) then
    (s.onAxis a fun x => { x with feCount := x.feCount + 1 }).fault a 0x0B 0 (a / 4)
  else s

/-- R103: the run of counted position periods of local axis `a` has reached COUNT. -/
def State.escalate (a : Nat) (s : State) : State :=
  if s.get (LSH_ESC_COUNT a) ≠ 0 ∧ (s.axis a).escDue then
    (s.onAxis a fun x => { x with escDue := false }).fault a 0x0A (s.axis a).clamps (a / 4)
  else s

/-- AXIS_ENABLE (R120, R121): `ident` and `rtd` are what the Afven link answers at step 3, `first` the reading there. -/
def execAxisEnable (dt : Nat) (n : Fin 256) (ident : Frame) (rtd : Nat) (first : Frame) (s : State) :
    Host.Outcome State Fault Refusal :=
  let s := (s.elapse dt).requestEnable n
  .next (if s.awaitsRead n then s.enableRead n ident rtd first else s)

/-- AXIS_DISABLE (R122). -/
def execAxisDisable (dt : Nat) (n : Fin 256) (s : State) : Host.Outcome State Fault Refusal :=
  .next ((s.elapse dt).requestDisable n)

/-- FAULT_RESET (R126). -/
def execFaultReset (dt : Nat) (n : Fin 256) (s : State) : Host.Outcome State Fault Refusal :=
  .next ((s.elapse dt).requestReset n)

/-- BRKREL_ELAPSED (R122). -/
def execBrkrelElapsed (dt : Nat) (n : Fin 256) (s : State) : Host.Outcome State Fault Refusal :=
  .next ((s.elapse dt).brkRel n)

/-- BRKSET_ELAPSED (R122). -/
def execBrksetElapsed (dt : Nat) (n : Fin 256) (s : State) : Host.Outcome State Fault Refusal :=
  .next ((s.elapse dt).brkSet n)

/-- STANDSTILL_REACHED (R122). -/
def execStandstillReached (dt : Nat) (n : Fin 256) (s : State) : Host.Outcome State Fault Refusal :=
  .next ((s.elapse dt).standstill n)

/-- FAULT_STOP_TIMEOUT (R125). -/
def execFaultStopTimeout (dt : Nat) (n : Fin 256) (s : State) : Host.Outcome State Fault Refusal :=
  .next ((s.elapse dt).stopTimeout n)

/-- OVERSPEED_FAULT (R104). -/
def execOverspeedFault (dt : Nat) (a : Fin 32) (s : State) : Host.Outcome State Fault Refusal :=
  .next ((s.elapse dt).overspeed a)

/-- FOLLOWING_ERROR_FAULT (R124). -/
def execFollowingErrorFault (dt : Nat) (a : Fin 32) (s : State) : Host.Outcome State Fault Refusal :=
  .next ((s.elapse dt).followFault a)

/-- LEASH_ESCALATION (R103). -/
def execLeashEscalation (dt : Nat) (a : Fin 32) (s : State) : Host.Outcome State Fault Refusal :=
  .next ((s.elapse dt).escalate a)

end Sys2Proof.Machine
end

