-- ==== Sys2Proof/Machine/Trajectory.lean ====
section
/-! DEFINITION. Jerk-limited motions (R131 to R138). The velocities of a motion are free among those that R133 to R137 allow
(log 33): the model draws a list and runs it when it keeps the rules, and otherwise runs one that it makes itself. -/

namespace Sys2Proof.Machine

/-! ### The limits of one period (R132, R133, R138) -/

/-- R133: the velocities allowed after velocity `v` and acceleration `a`. A velocity that must go over the ceiling comes down as
far as the other limits let it (R138), and so does an acceleration over its limit. -/
def MotLim.range (l : MotLim) (v a : Int) : Int × Int :=
  let up := if 0 ≤ v then l.a else l.d
  let dn := if v ≤ 0 then -l.a else -l.d
  let lo := v + max (a - l.j) dn
  let hi := v + min (a + l.j) up
  if hi < lo then (let w := if 0 < a then v + a - l.j else v + a + l.j; (w, w))
  else if max lo (-l.c) ≤ min hi l.c then (max lo (-l.c), min hi l.c)
  else if l.c < lo then (lo, max lo (min hi (v - 1)))
  else (min hi (max lo (v + 1)), hi)

/-- Is `w` allowed after `v` and `a`? -/
def MotLim.allows (l : MotLim) (v a w : Int) : Bool := decide ((l.range v a).1 ≤ w) && decide (w ≤ (l.range v a).2)

/-- The velocity, acceleration and distance at the end of a list of velocities, when R133 allows each. -/
def MotLim.through (l : MotLim) (v a x : Int) : List Int → Option (Int × Int × Int)
  | [] => some (v, a, x)
  | w :: t => if l.allows v a w then l.through w (w - v) (x + w) t else none

/-- May the velocity set-point be 0 from the next period on? -/
def MotLim.rests (l : MotLim) (v a : Int) : Bool := l.allows v a 0 && l.allows 0 (-v) 0

/-- Does the velocity `w` lie between `v` and the speed `g`, or beyond them by no more than the jerk forces? -/
def MotLim.near (l : MotLim) (g v a w : Int) : Bool :=
  decide (min v g + min 0 (a + l.j) ≤ w) && decide (w ≤ max v g + max 0 (a - l.j))

/-! ### Speeding up and slowing down (R133, R136) -/

/-- The change of speed in which an acceleration `b` runs out under the jerk `j`: b + (b − j) + (b − 2j) + … -/
def runOut (j b : Int) : Int := if b ≤ 0 then b else (b / j + 1) * b - j * (b / j) * (b / j + 1) / 2

/-- The largest acceleration up to `top` that runs out within the change of speed `y`, bit by bit from bit `k`. -/
def easeFrom (j y top : Int) : Nat → Int → Int
  | 0, b => b
  | k + 1, b => if b + 2 ^ k ≤ top ∧ runOut j (b + 2 ^ k) ≤ y then easeFrom j y top k (b + 2 ^ k) else easeFrom j y top k b

/-- R133: the velocity of the next period of a motion that comes to the speed `g` as fast as the limits allow and stays there. -/
def MotLim.toward (l : MotLim) (g v a : Int) : Int :=
  let sg : Int := if v < g ∨ (v = g ∧ a < 0) then 1 else -1
  let lim := if |v| < |g| ∧ 0 ≤ g * v then l.a else l.d
  let top := min (sg * a + l.j) lim
  v + sg * max (sg * a - l.j) (if 0 ≤ top then easeFrom l.j |g - v| top 64 0 else top)

/-- R136: as `toward`, through standstill to a speed of the other direction. -/
def MotLim.steer (l : MotLim) (g v a : Int) : Int := l.toward (if g * v < 0 then 0 else g) v a

/-- More periods than any motion takes. -/
def ever : Nat := 2 ^ 40

/-- The velocities from `v` and `a` to the steady speed `g`, in at most `k` periods. -/
def MotLim.speedRun (l : MotLim) (g : Int) : Nat → Int → Int → List Int
  | 0, _, _ => []
  | k + 1, v, a => if v = g ∧ l.allows v a g then [] else let w := l.steer g v a; w :: l.speedRun g k w (w - v)

/-- R137: the distance needed to stop under DMAX and JMAX. -/
def MotLim.stopDist (l : MotLim) (v a : Int) : Int := (l.speedRun 0 ever v a).sum

/-! ### Moves (R135 to R137) -/

/-- Can a motion that goes from `v` to `u` ≥ 0 in this period still stop within `x`? -/
def MotLim.stopsIn (l : MotLim) (v x u : Int) : Bool := decide (0 ≤ u) && decide (u + l.stopDist u (u - v) ≤ x)

/-- The largest velocity from `w` up to `top` from which a motion still stops within `x`, bit by bit from bit `k`. -/
def MotLim.fastest (l : MotLim) (v x top : Int) : Nat → Int → Int
  | 0, w => w
  | k + 1, w => if w + 2 ^ k ≤ top ∧ l.stopsIn v x (w + 2 ^ k) then l.fastest v x top k (w + 2 ^ k) else l.fastest v x top k w

/-- R135 to R137: the velocity of the next period of a motion to the target at distance `x`: as fast as it can still stop there; a
target behind, or nearer than the stopping distance, is approached from standstill. -/
def MotLim.approach (l : MotLim) (v a x : Int) : Int :=
  let sg : Int := if 0 < x then 1 else -1
  let slow := l.toward 0 v a
  if 0 ≤ sg * v ∧ l.stopsIn (sg * v) (sg * x) (sg * slow) then
    sg * l.fastest (sg * v) (sg * x) (l.toward l.c (sg * v) (sg * a)) 64 (sg * slow)
  else slow

/-- The velocities of that motion, in at most `k` periods. -/
def MotLim.moveRun (l : MotLim) : Nat → Int → Int → Int → List Int
  | 0, _, _, _ => []
  | k + 1, v, a, x =>
    if x = 0 ∧ l.rests v a then [] else let w := l.approach v a x; w :: l.moveRun k w (w - v) (x - w)

/-- R136, R137: must a motion to the target at distance `x` come to standstill before it goes to the target? -/
def MotLim.turns (l : MotLim) (v a x : Int) : Bool :=
  let sg : Int := if 0 < v ∨ (v = 0 ∧ 0 < a) then 1 else -1
  (v != 0 || a != 0) && (decide (sg * x < 0) || decide (sg * x < sg * l.stopDist v a))

/-- R136, R137: does the list slow down to standstill, and then go toward the target only? -/
def MotLim.stopsFirst (l : MotLim) (x v a : Int) : List Int → Bool
  | [] => false
  | w :: t => if w = 0 then t.all fun u => decide (0 ≤ u * x) else l.near 0 v a w && l.stopsFirst (x - w) w (w - v) t

/-- R133, R135 to R137: may the list `run` bring the motion to the target at distance `x`? It ends there at rest; it goes toward the
target only, or from standstill where the motion turns. -/
def MotLim.reaches (l : MotLim) (v a x : Int) (run : List Int) : Bool :=
  (match l.through v a 0 run with
   | some (v', a', y) => y == x && l.rests v' a'
   | none => false) &&
  (if l.turns v a x then l.stopsFirst x v a run else run.all fun w => decide (0 ≤ w * x))

/-- May the list `run` bring the motion to the speed `g`? -/
def MotLim.attains (l : MotLim) (g v a : Int) : List Int → Bool
  | [] => v == g && l.allows v a g
  | w :: t => l.allows v a w && l.near g v a w && l.attains g w (w - v) t

/-! ### The length of a move (R135) -/

/-- The square root of a number below 2^280. -/
def wideSqrt (n : Nat) : Nat := isqrtFrom 140 n 0

/-- The time (2^-40 periods) of a change of speed by `w` (2^-64) under the limit `x` and the jerk `j` (2^-32), between accelerations
of 0. -/
def rampTime (w x j : Nat) : Nat :=
  if x * x * 2 ^ 32 ≤ w * j then w * 2 ^ 8 / x + x * 2 ^ 40 / j else 2 * wideSqrt (w * 2 ^ 48 / j)

/-- The time (2^-40) and the distance (2^-64) from the speed `v` (2^-64) and acceleration `a` to the steady speed `w` (2^-64). -/
def MotLim.rampTo (l : MotLim) (v a w : Int) : Int × Int :=
  let t0 := |a| * 2 ^ 40 / l.j
  let dv := a * |a| * 2 ^ 31 / l.j
  let ramp : Int → Int := fun u => (rampTime (w - u).natAbs (if v + dv ≤ w then l.a else l.d).toNat l.j.toNat : Int)
  if a = 0 ∨ (0 < a ↔ v + dv ≤ w) then
    let u := v - dv
    (ramp u - t0, (u + w) * ramp u / 2 ^ 41 - u * t0 / 2 ^ 40 - a * t0 * t0 / (6 * 2 ^ 48))
  else
    let u := v + dv
    (t0 + ramp u, v * t0 / 2 ^ 40 + a * t0 * t0 / (3 * 2 ^ 48) + (u + w) * ramp u / 2 ^ 41)

/-- The same from `v` and `a` over the peak speed `w` to rest. -/
def MotLim.overPeak (l : MotLim) (v a w : Int) : Int × Int :=
  let p := l.rampTo v a w
  let t := (rampTime w.toNat l.d.toNat l.j.toNat : Int)
  (p.1 + t, p.2 + w * t / 2 ^ 41)

/-- The largest peak speed up to the ceiling whose ramps fit in the distance `x` (2^-64), bit by bit from bit `k`. -/
def MotLim.peakFrom (l : MotLim) (v a x : Int) : Nat → Int → Int
  | 0, w => w
  | k + 1, w =>
    if w + 2 ^ k ≤ l.c * 2 ^ 32 ∧ (l.overPeak v a (w + 2 ^ k)).2 ≤ x then l.peakFrom v a x k (w + 2 ^ k) else l.peakFrom v a x k w

/-- The time (2^-40) of a move to a target ahead, beyond the stopping distance: `v` and `x` (2^-64) count toward it. -/
def MotLim.timeAhead (l : MotLim) (v a x : Int) : Int :=
  let w := l.peakFrom v a x 130 0
  let p := l.overPeak v a w
  p.1 + (x - p.2) * 2 ^ 40 / w

/-- R135: ⌈T⌉ of the move over `x` from `v` and `a`, which stops first where it turns. A T within 2^-20 over a whole number of
periods counts as that number (log 34). -/
def MotLim.periods (l : MotLim) (v a x : Int) : Nat :=
  let sg : Int := if 0 < v ∨ (v = 0 ∧ 0 < a) then 1 else -1
  let t :=
    if l.turns v a x then
      let p := l.rampTo (sg * v * 2 ^ 32) (sg * a) 0
      p.1 + l.timeAhead 0 0 |x * 2 ^ 32 - sg * p.2|
    else if 0 < x then l.timeAhead (v * 2 ^ 32) a (x * 2 ^ 32)
    else l.timeAhead (-v * 2 ^ 32) (-a) (-x * 2 ^ 32)
  ((t - 2 ^ 20 + (2 ^ 40 - 1)) / 2 ^ 40).toNat

/-! ### Planned lists -/

/-- What `f` gives for the first number below `n`, counted down, for which it gives something. -/
def firstBelow {α : Type} (f : Nat → Option α) : Nat → Option α
  | 0 => none
  | n + 1 => match f n with
    | some r => some r
    | none => firstBelow f n

/-- The first list that `ok` allows, among those that go on from `r` by at most `k` numbers below `n`. -/
def someList (ok : List Nat → Bool) (n : Nat) : Nat → List Nat → Option (List Nat)
  | 0, r => if ok r then some r else none
  | k + 1, r => if ok r then some r else firstBelow (fun w => someList ok n k (r ++ [w])) n

/-- A list of `n` velocities to the target, if there is one. -/
def MotLim.someRun (l : MotLim) (n : Nat) (v a x : Int) : Option (List Int) :=
  let vel : List Nat → List Int := fun r => r.map fun w => (w : Int) - l.c
  (someList (fun r => decide (r.length = n) && l.reaches v a x (vel r)) (2 * l.c + 1).toNat n []).map vel

/-- The largest lower ceiling, bit by bit from bit `k`, under which the motion takes at least `n` periods. -/
def MotLim.capFrom (l : MotLim) (n : Nat) (v a x : Int) : Nat → Int → Int
  | 0, c => c
  | k + 1, c =>
    if c + 2 ^ k ≤ l.c ∧ n ≤ (({ l with c := c + 2 ^ k } : MotLim).moveRun (n + 1) v a x).length then l.capFrom n v a x k (c + 2 ^ k)
    else l.capFrom n v a x k c

/-- R135: a motion to the target at distance `x`: the list `cand` when it keeps the rules, and takes `n` periods if that is asked;
else one of that length, if there is one; else the fastest. -/
def MotLim.moveList (l : MotLim) (n : Option Nat) (v a x : Int) (cand : List Int) : List Int :=
  match n with
  | none => if l.reaches v a x cand then cand else l.moveRun ever v a x
  | some n =>
    let ok : List Int → Bool := fun r => r.length == n && l.reaches v a x r
    if ok cand then cand
    else
      let slow := ({ l with c := l.capFrom n v a x 64 0 } : MotLim).moveRun (n + 1) v a x
      if ok slow then slow
      else
        let fast := l.moveRun ever v a x
        let late := List.replicate (n - fast.length) 0 ++ fast
        if ok late then late else (l.someRun n v a x).getD fast

/-- A motion to the steady speed `g`: the list `cand` when it keeps the rules, else the fastest. -/
def MotLim.speedList (l : MotLim) (g v a : Int) (cand : List Int) : List Int :=
  if l.attains g v a cand then cand else l.speedRun g ever v a

/-! ### One period of a motion -/

/-- R132, R138, R167: the limits of the motion `p` of axis (or virtual master) `n` in this period, at velocity `v` and acceleration
`acc`: what the command gave, reduced to those of the axis; DMAX of a virtual master equals its AMAX (R140). While the acceleration
is over a lowered limit, the old jerk applies. -/
def State.planLim (s : State) (n : Nat) (p : Plan) (v acc : Int) : MotLim :=
  let lower : Option Int → Int → Int := fun o x => match o with | some y => min y x | none => x
  let l : MotLim :=
    if n < 256 then
      { c := lower p.v (s.ceiling n), a := lower p.a (s.axAMax n), d := lower p.d (if p.fault then s.axDFault n else s.axDMax n),
        j := lower p.j (s.axJMax n) }
    else
      let k := n - 256
      { c := lower p.v (s.rd64S (PRF_VMVMAX k)), a := lower p.a (s.rd64S (PRF_VMAMAX k)), d := s.rd64S (PRF_VMAMAX k),
        j := lower p.j (s.rd64S (PRF_VMJMAX k)) }
  match p.lim with
  | some o => if (if 0 < v * acc then l.a else l.d) < |acc| then { l with j := o.j } else l
  | none => l

/-- What one period of a motion gives. -/
structure PlanOut where
  v : Int
  plan : Plan
  /-- The motion ends with this period. -/
  ended : Bool
  /-- R137: the turning point beyond the target was reached, at this distance from it. -/
  turned : Option Int
  deriving DecidableEq, Repr

/-- R137: the distance beyond the target at which a motion with velocity `v` turns, when it turns with the velocity `w`. -/
def turnOf (p : Plan) (v w : Int) : Option Int :=
  match p.target with
  | some x => if p.ahead && ((decide (x < 0) && decide (0 < v) && decide (w ≤ 0)) || (decide (0 < x) && decide (v < 0) && decide (0 ≤ w))) then some |x| else none
  | none => none

/-- Is the motion at its end already: on its target at rest, or steady at its speed? -/
def Plan.there (p : Plan) (v a : Int) : Bool :=
  match p.target with
  | some x => x == 0 && v == 0 && a == 0
  | none => v == p.speed && a == 0

/-- R135 to R138: the velocities of the motion `p` from here on, under the limits `l`: those kept from the period before while the
limits are the same, else new ones. A move goes to its target, and one with a ceiling of 0 to rest (R132). -/
def Plan.renew (p : Plan) (l : MotLim) (v a : Int) (cand : List Int) : List Int :=
  if p.run != [] && p.lim == some l then p.run
  else match p.target with
    | some x =>
      if l.c = 0 then l.speedList 0 v a cand else l.moveList (if p.first then some (l.periods v a x) else none) v a x cand
    | none => l.speedList (clampInt (-l.c) l.c p.speed) v a cand

/-- One period of the motion `p` of `n`, from velocity `v` and acceleration `a`. With a ceiling of 0 a motion comes to rest and
goes on when the ceiling rises (R132); a speed over the ceiling is reached when the ceiling rises. -/
def State.planStep (n : Nat) (p : Plan) (v a : Int) (s : State) : PlanOut × State :=
  let l := s.planLim n p v a
  let w := clampInt (-l.c) l.c p.speed
  let free := p.target.isSome && l.c != 0
  let p := { p with ahead := if p.first then (match p.target with | some x => decide (0 < x * v) | none => false) else p.ahead }
  if p.there v a && (p.target.isSome || w == p.speed) then (⟨p.speed, { p with run := [], first := false }, true, none⟩, s)
  else
    let run := p.renew l v a (Config.freeRun s.fresh)
    let u := run.headD (if p.target.isSome then 0 else w)
    let t := turnOf p v u
    let ended := run.length ≤ 1 && (if p.target.isSome then free else w == p.speed)
    (⟨u, { p with run := run.drop 1, lim := some l, first := false, target := p.target.map (· - u), ahead := p.ahead && t.isNone },
      ended, t⟩, s.drew 1)

end Sys2Proof.Machine
end

