-- ==== Sys2Proof/Machine/Cams.lean ====
section
/-! DEFINITION. Cam tables (R149 to R152): the cam function s of a point table or of polynomial segments, and when a table is
well formed. Positions are in 2^-32 counts. -/

namespace Sys2Proof.Machine

def CamTable.count (t : CamTable) : Nat := leAt t.payload 4 4
def CamTable.periodic (t : CamTable) : Bool := bit (leAt t.payload 2 1) 0
def CamTable.cubic (t : CamTable) : Bool := bit (leAt t.payload 2 1) 1
def CamTable.mspan (t : CamTable) : Int := leAtS t.payload 8 8 * 65536
def CamTable.sspan (t : CamTable) : Int := leAtS t.payload 0x10 8 * 65536

/-- R150: the intervals of a point table. -/
def CamTable.parts (t : CamTable) : Nat := if t.periodic then t.count else t.count - 1

/-- R150: point `k` of a point table, which goes on by SSPAN per span when PERIODIC is 1. -/
def CamTable.point (t : CamTable) (k : Int) : Int :=
  if t.periodic then
    leAtS t.payload (0x20 + 8 * (k % (t.count : Int)).toNat) 8 * 65536 + k / (t.count : Int) * t.sspan
  else leAtS t.payload (0x20 + 8 * k.toNat) 8 * 65536

/-- The second difference of the points at `k`; natural ends go on as an odd function about each end. -/
def CamTable.bend (t : CamTable) (k : Int) : Int :=
  let d : Int → Int := fun k => t.point (k - 1) - 2 * t.point k + t.point (k + 1)
  if t.periodic then d k
  else
    let n : Int := (t.parts : Int)
    let r := k % (2 * n)
    if r % n = 0 then 0 else if r < n then d r else -(d (2 * n - r))

/-- One sweep of N(k) = (d(k) − N(k−1) − N(k+1)) / 4, in 2^-96 counts. -/
def splineSweep (d n : List Int) : List Int :=
  (d.zip ((0 :: n).zip (n.drop 1 ++ [0]))).map fun x => (x.1 - x.2.1 - x.2.2) / 4

/-- `k` sweeps. -/
def splineSweeps : Nat → List Int → List Int → List Int
  | 0, _, n => n
  | k + 1, d, n => splineSweeps k d (splineSweep d n)

/-- R150: a sixth of h² times the second derivative of the spline at points `k` and `k + 1`, in 2^-96 counts. -/
def CamTable.curvature (t : CamTable) (k : Int) : Int × Int :=
  let d := (List.range 202).map fun i => t.bend (k - 100 + (i : Int)) * 2 ^ 64
  let n := splineSweeps 100 d (List.replicate 202 0)
  (n.getD 100 0, n.getD 101 0)

/-- R150: s of a point table at the master offset `u`, rounded down, and whether the rounding changed it. -/
def CamTable.pointValue (t : CamTable) (u : Int) : Int × Bool :=
  let m := t.mspan
  let x := u * (t.parts : Int)
  let k := x / m
  let r := x % m
  let a := t.point k
  if r = 0 then (a, false)
  else
    let b := t.point (k + 1)
    if t.cubic then
      let n := t.curvature k
      let q := m - r
      let num := (a * q + b * r) * m * m * 2 ^ 64 + (q * q * q - q * m * m) * n.1 + (r * r * r - r * m * m) * n.2
      (num / (m * m * m * 2 ^ 64), true)
    else ((a * m + (b - a) * r) / m, (a * m + (b - a) * r) % m != 0)

/-- R151: an IEEE 754 binary64 value; an infinity or NaN is none. -/
def binary64 (w : Nat) : Option Frac :=
  let e := bits w 62 52
  let m := w % 2 ^ 52
  let sg : Int := if bit w 63 then -1 else 1
  if e = 2047 then none
  else
    let full : Nat := if e = 0 then m else 2 ^ 52 + m
    let e' := max e 1
    some (if 1075 ≤ e' then ⟨sg * ((full * 2 ^ (e' - 1075) : Nat) : Int), 1⟩ else ⟨sg * (full : Int), 2 ^ (1075 - e')⟩)

/-- R151: segment `k`: its MLEN, and C0 to C5. -/
def CamTable.segment (t : CamTable) (k : Nat) : Int × List (Option Frac) :=
  let o := 0x20 + 64 * k
  (leAtS t.payload o 8 * 65536,
   some ⟨leAtS t.payload (o + 8) 8, 65536⟩ :: (List.range 5).map fun i => binary64 (leAt t.payload (o + 0x10 + 8 * i) 8))

/-- C0 + C1 u + … + C5 u⁵. -/
def polyAt (c : List (Option Frac)) (u : Frac) : Frac :=
  c.reverse.foldl (fun a x => fracAdd (fracMul a u) (x.getD ⟨0, 1⟩)) ⟨0, 1⟩

/-- R151: s of polynomial segments at the master offset `u`, from segment `k` on, which starts at offset 0 of `u`. -/
def CamTable.polyFrom (t : CamTable) : Nat → Nat → Int → Int × Bool
  | 0, _, _ => (0, true)
  | n + 1, k, u =>
    let g := t.segment k
    if u ≤ g.1 ∧ (u < g.1 ∨ n = 0) then
      let f := polyAt g.2 ⟨u, g.1.toNat⟩
      (fracFloor 32 f, f.num * 2 ^ 32 % (f.den : Int) != 0)
    else t.polyFrom n (k + 1) (u - g.1)

/-- R149: s at the master offset `u` within the span. -/
def CamTable.value (t : CamTable) (u : Int) : Int × Bool :=
  if leAt t.payload 1 1 = 1 then t.pointValue u else t.polyFrom t.count 0 u

/-- R144, R152: s(u) + i × SSPAN at the master place `x` past MOFS (without wrap), i counted from `i0`; a cam that is not periodic
holds its nearer end outside its span, on a master of modulo `mm`. -/
def CamTable.follow (t : CamTable) (x i0 mm : Int) : Int × Bool :=
  let m := t.mspan
  if t.periodic then
    let v := t.value (x % m)
    (v.1 + (x / m - i0) * t.sspan, v.2)
  else
    let x := if 0 < mm then x % mm else x
    let x := if 0 < mm ∧ m < x ∧ mm - x < x - m then 0 else x
    t.value (clampInt 0 m x)

/-- R152: does the master place `x` past MOFS lie inside the span? -/
def CamTable.inside (t : CamTable) (x mm : Int) : Bool :=
  let x := if 0 < mm then x % mm else x
  decide (0 ≤ x) && decide (x ≤ t.mspan)

/-- R151: the checks on the segments from `k` on: each MLEN over 0, the values finite, and each end within 1/16 count of the next C0. -/
def CamTable.segmentsOk (t : CamTable) (last : Frac) : Nat → Nat → Bool
  | 0, _ => true
  | n + 1, k =>
    let g := t.segment k
    let e := polyAt g.2 ⟨1, 1⟩
    let nxt := if n = 0 then last else ((t.segment (k + 1)).2.headD none).getD ⟨0, 1⟩
    let d := fracSub e nxt
    decide (0 < g.1) && g.2.all (·.isSome) && allZero (slice t.payload (0x20 + 64 * k + 0x38) 8)
      && (n == 0 && !t.periodic || decide (d.num.natAbs * 16 ≤ d.den)) && t.segmentsOk last n (k + 1)

/-- R149, R151: is the payload a well-formed cam table? -/
def CamTable.ok (t : CamTable) : Bool :=
  let p := t.payload
  let f := leAt p 1 1
  let n := t.count
  let flags := leAt p 2 1
  leAt p 0 1 == t.camId && leAt p 3 1 == 0 && allZero (slice p 0x18 8) && decide (0 < t.mspan)
    && ((f == 1 && decide (flags < 4) && decide (2 ≤ n) && decide (n ≤ 16384) && p.length == 0x20 + 8 * n) ||
        (f == 2 && decide (flags < 2) && decide (1 ≤ n) && decide (n ≤ 4096) && p.length == 0x20 + 64 * n &&
          ((List.range n).map fun k => (t.segment k).1).sum == t.mspan &&
          t.segmentsOk (fracAdd ⟨leAtS p 0x28 8, 65536⟩ ⟨leAtS p 0x10 8, 65536⟩) n 0))

/-- The cam table CAMID in force. -/
def State.cam (s : State) (id : Nat) : Option CamTable := s.prf.cams.find? fun t => t.camId == id

/-- A value that is rounded to 32 fraction bits in a way the spec does not state: the value rounded down or one step more (log 35). -/
def State.rounded (v : Int × Bool) (s : State) : Int × State :=
  if v.2 then (v.1 + (s.free 2 : Int), s.drew 1) else (v.1, s)

end Sys2Proof.Machine
end

