-- ==== Sys2Proof/WellFormed.lean ====
section
/-! DEFINITION. The commands that the spec calls well formed: the rules of R225 and R231 that one engine instruction can
break by itself (a program with such an instruction is never in force, R231). Every other command admits every value of
its operands, because the spec says what each value does. -/

namespace Sys2Proof

/-- R223: a 16-bit input port. -/
def isInPort (p : Nat) : Bool := p ≤ 0x08

/-- R223: a long input port. -/
def isLongPort (p : Nat) : Bool := 0x10 ≤ p && p ≤ 0x13

/-- R223: a 16-bit output port. -/
def isOutPort (p : Nat) : Bool := 0x20 ≤ p && p ≤ 0x24

/-- Is the command well formed (R231)? -/
def Instr.wf : Instr → Bool
  | .engRep _ count len => count != 0 && len != 0
  | .engDmac _ a b _ _ _ _ _ _ => a != b
  | .engDmacm _ _ _ p _ q _ _ _ => p != q
  | .engSincos _ ds dc _ => ds != dc
  | .engIn _ _ port => isInPort port
  | .engLin _ _ port => isLongPort port
  | .engOut _ port _ => isOutPort port
  | .engLta _ _ _ sh => decide (-16 ≤ sh.toInt)
  | _ => true

end Sys2Proof
end

