-- ==== Sys2Proof/Machine/Program.lean ====
section
/-! DEFINITION. Engine programs: the instruction words (R228, R229), what the loader follows from a slot's ENTRY to END
(R225, R231), and the slot schedules (R183 to R186). -/

namespace Sys2Proof.Machine

/-- The field of `w` from bit `lo`, as a number below `2^k`. -/
def fin4 (w lo : Nat) : Fin 4 := ⟨w / 2 ^ lo % 4, Nat.mod_lt _ (by decide)⟩
def fin8 (w lo : Nat) : Fin 8 := ⟨w / 2 ^ lo % 8, Nat.mod_lt _ (by decide)⟩
def fin16 (w lo : Nat) : Fin 16 := ⟨w / 2 ^ lo % 16, Nat.mod_lt _ (by decide)⟩
def fin32 (w lo : Nat) : Fin 32 := ⟨w / 2 ^ lo % 32, Nat.mod_lt _ (by decide)⟩
def fin256 (w : Nat) : Fin 256 := ⟨w % 256, Nat.mod_lt _ (by decide)⟩

/-- R228, NM: the modifier at `lo`, or none for [Pp]. -/
def modAt (w lo nm : Nat) : Option (Fin 8) := if bit w nm then none else some (fin8 w lo)

/-- R231 item 3: NM = 1 with MD ≠ 0 is refused. -/
def modOk (w lo nm : Nat) : Bool := !(bit w nm) || w / 2 ^ lo % 8 == 0

/-- R228: S with DEF at bit `lo + 4`. -/
def scaleAt (w lo : Nat) : Option (BitVec 4) := if bit w (lo + 4) then none else some (BitVec.ofNat 4 (w / 2 ^ lo))

/-- R228: the instruction when the bits outside `mask` are zero and `ok` holds. -/
def named (w mask : Nat) (ok : Bool) (i : Instr) : Option Instr :=
  if (w % 2 ^ 26) &&& mask = w % 2 ^ 26 ∧ ok then some i else none

/-- R228, R229: the instruction of context `x` that the 32-bit word `w` spells; none for a reserved opcode, a non-zero bit that
the format does not name, or a register field outside its range. -/
def engWord (x : Fin 32) (w : Nat) : Option Instr :=
  match bits w 31 26 with
  | 0x00 => named w 0 true (.engNop x)
  | 0x01 => named w 0 true (.engEnd x)
  | 0x02 => named w 0x3FFFF00 true (.engRep x ⟨w / 2 ^ 14 % 4096, Nat.mod_lt _ (by decide)⟩ ⟨w / 2 ^ 8 % 64, Nat.mod_lt _ (by decide)⟩)
  | 0x03 => named w 0xFF true (.engClrf x (BitVec.ofNat 8 w))
  | 0x04 => named w 0x3C0FFFF true (.engLdi x (fin16 w 22) (BitVec.ofNat 16 w))
  | 0x05 => named w 0x38007FF true (.engLdp x (fin8 w 23) (BitVec.ofNat 11 w))
  | 0x06 => named w 0x3FF8000 (modOk w 16 15) (.engLd x (fin16 w 22) (fin8 w 19) (modAt w 16 15))
  | 0x07 => named w 0x3FF8000 (modOk w 16 15) (.engSt x (fin16 w 22) (fin8 w 19) (modAt w 16 15))
  | 0x08 => named w 0x1FF8000 (modOk w 16 15) (.engLdm x (fin8 w 22) (fin8 w 19) (modAt w 16 15))
  | 0x09 => named w 0x0FF8000 (modOk w 16 15) (.engLdw x (fin4 w 22) (fin8 w 19) (modAt w 16 15))
  | 0x0A => named w 0x0FF8000 (modOk w 16 15) (.engStw x (fin4 w 22) (fin8 w 19) (modAt w 16 15))
  | 0x0B => named w 0x0FF8000 (modOk w 16 15) (.engLld x (fin4 w 22) (fin8 w 19) (modAt w 16 15))
  | 0x0C => named w 0x0FF8000 (modOk w 16 15) (.engLst x (fin4 w 22) (fin8 w 19) (modAt w 16 15))
  | 0x0D => named w 0x0FFFC00 (modOk w 16 15) (.engSta x (fin4 w 22) (fin8 w 19) (modAt w 16 15) (scaleAt w 10))
  | 0x0E => named w 0x3FC0000 true (.engMov x (fin16 w 22) (fin16 w 18))
  | 0x0F => named w 0x3FF8000 true (.engMovd x (fin16 w 22) (fin4 w 20) (scaleAt w 15))
  | 0x10 => named w 0x33C0000 true (.engLda x (fin4 w 24) (fin16 w 18))
  | 0x11 => named w 0x3C00000 true (.engAdda x (fin4 w 24) (fin4 w 22))
  | 0x12 => named w 0x3C00000 true (.engSuba x (fin4 w 24) (fin4 w 22))
  | 0x13 => named w 0x33C0000 true (.engAddd x (fin4 w 24) (fin16 w 18))
  | 0x14 => named w 0x33C0000 true (.engSubd x (fin4 w 24) (fin16 w 18))
  | 0x15 => named w 0x31FFFFF true (.engAddk x (fin4 w 24) (fin32 w 16) (BitVec.ofNat 16 w))
  | 0x16 => named w 0x3C00000 true (.engNega x (fin4 w 24))
  | 0x17 => named w 0x3C00000 true (.engAbsa x (fin4 w 24))
  | 0x18 => named w 0x33F0000 true (.engAsh x (fin4 w 24) (BitVec.ofNat 6 (w / 2 ^ 16)))
  | 0x19 => named w 0x3F00000 true (.engNorm x (fin4 w 20) (fin16 w 22))
  | 0x1A => named w 0x3F00000 true (.engExp x (fin16 w 22) (fin4 w 20))
  | 0x1B => named w 0x3C00000 true (.engSata x (fin4 w 24))
  | 0x1C => named w 0x3C00000 true (.engTsta x (fin4 w 24))
  | 0x1D => named w 0x3C00000 true (.engClra x (fin4 w 24))
  | 0x20 => named w 0x3FFF000 true (.engMac x (fin4 w 24) (fin4 w 22) (fin16 w 18) (fin16 w 14) (bit w 13) (bit w 12))
  | 0x21 => named w 0x3FFFFF0 true
      (.engDmac x (fin4 w 24) (fin4 w 22) (fin16 w 18) (fin16 w 14) (fin16 w 10) (fin16 w 6) (bit w 5) (bit w 4))
  | 0x22 => named w 0x3FFFE00 (modOk w 12 11)
      (.engMacm x (fin4 w 24) (fin4 w 22) (fin16 w 18) (fin8 w 15) (modAt w 12 11) (bit w 10) (bit w 9))
  | 0x23 => named w 0x3FFFFC0 (modOk w 16 15 && modOk w 9 8)
      (.engDmacm x (fin4 w 24) (fin4 w 22) (fin8 w 19) (modAt w 16 15) (fin8 w 12) (modAt w 9 8) (bit w 7) (bit w 6))
  | 0x28 => named w 0x3FFFE00 true (.engSeld x (fin16 w 22) (fin32 w 17) (fin16 w 13) (fin16 w 9))
  | 0x29 => named w 0x0FE6600 true (.engSela x (fin4 w 22) (fin32 w 17) (fin4 w 13) (fin4 w 9))
  | 0x2A => named w 0x0FE6600 true (.engSell x (fin4 w 22) (fin32 w 17) (fin4 w 13) (fin4 w 9))
  | 0x2B => named w 0x3FFC000 true (.engMin x (fin16 w 22) (fin16 w 18) (fin16 w 14))
  | 0x2C => named w 0x3FFC000 true (.engMax x (fin16 w 22) (fin16 w 18) (fin16 w 14))
  | 0x2D => named w 0x3FC0000 true (.engNegd x (fin16 w 22) (fin16 w 18))
  | 0x2E => named w 0x3FC0000 true (.engCmp x (fin16 w 22) (fin16 w 18))
  | 0x30 => named w 0x0C000FF true (.engLin x (fin4 w 22) (fin256 w))
  | 0x31 => named w 0x3F00000 true (.engLadd x (fin4 w 24) (fin4 w 22) (fin4 w 20))
  | 0x32 => named w 0x3F00000 true (.engLsub x (fin4 w 24) (fin4 w 22) (fin4 w 20))
  | 0x33 => named w 0x3F00000 true (.engLmov x (fin4 w 24) (fin4 w 22))
  | 0x34 => named w 0x3FF0000 true (.engLta x (fin4 w 24) (fin4 w 22) (BitVec.ofNat 6 (w / 2 ^ 16)))
  | 0x38 => named w 0x3C000FF true (.engIn x (fin16 w 22) (fin256 w))
  | 0x39 => named w 0x3C000FF true (.engOut x (fin256 w) (fin16 w 22))
  | 0x3A => named w 0x03FC000 true (.engOuti x (fin16 w 18) (fin16 w 14))
  | 0x3B => if h : w / 2 ^ 24 % 4 < 3 then named w 0x33C0000 true (.engOutc x ⟨w / 2 ^ 24 % 4, h⟩ (fin16 w 18)) else none
  | 0x3C => named w 0 true (.engOutk x)
  | 0x3D => named w 0x3FFC000 true (.engSincos x (fin16 w 22) (fin16 w 18) (fin16 w 14))
  | 0x3E => named w 0x3F00000 true (.engSqrt x (fin16 w 22) (fin4 w 20))
  | 0x3F => named w 0x3FFC000 true (.engDiv x (fin16 w 22) (fin16 w 18) (fin16 w 14))
  | _ => none

/-- R229: the cycles of an instruction. -/
def engCycles : Instr → Nat
  | .engLdm .. => 2
  | .engStw .. => 2
  | .engLld .. => 3
  | .engLst .. => 3
  | .engOutc .. => 2
  | .engSincos .. => 2
  | .engSqrt .. => 8
  | .engDiv .. => 16
  | _ => 1

/-- R225: the output an instruction writes: its port number, 0x100 for OUTI, 0x200 plus CH for OUTC, 0x300 for OUTK. -/
def engOutput : Instr → Option Nat
  | .engOut _ p _ => some p.val
  | .engOuti .. => some 0x100
  | .engOutc _ ch _ => some (0x200 + ch.val)
  | .engOutk _ => some 0x300
  | _ => none

/-- What the loader has found on the path of a program (R231): cycles, and the outputs written, in order, with their counts. -/
structure ProgScan where
  cycles : Nat := 0
  outs : List (Nat × Nat) := []
  deriving DecidableEq, Repr

/-- R231: follow the program `ws` from index `i`. `bodies` are the repeats in progress: last index and count, innermost first.
The answer is none for a program that the loader rejects. -/
def scanProgram (x : Fin 32) (ws : List Nat) : Nat → Nat → List (Nat × Nat) → ProgScan → Option ProgScan
  | 0, _, _, _ => none
  | fuel + 1, i, bodies, acc =>
    let live := bodies.filter fun b => i ≤ b.1
    let times := live.foldl (fun n b => n * b.2) 1
    match (ws[i]?).bind (engWord x) with
    | none => none
    | some ins =>
      if !ins.wf then none
      else
        let acc : ProgScan :=
          { cycles := acc.cycles + times * engCycles ins
            outs := match engOutput ins with | some o => acc.outs ++ [(o, times)] | none => acc.outs }
        match ins with
        | .engEnd _ => if live = [] then some acc else none
        | .engRep _ count len =>
          if 2 ≤ live.length then none
          else if live.any fun b => decide (b.1 < i + len.val) then none
          else scanProgram x ws fuel (i + 1) ((i + len.val, count.val) :: live) acc
        | _ => scanProgram x ws fuel (i + 1) live acc

/-- How often output `o` is written on a path. -/
def ProgScan.times (p : ProgScan) (o : Nat) : Nat := ((p.outs.filter fun e => e.1 == o).map (·.2)).sum

/-- R225, R231 items 5 and 6: the output counts of a program for a section, with `nb` half-bridges. -/
def outputsOk (p : ProgScan) (sect nb : Nat) : Bool :=
  let t := p.times
  let once (o : Nat) : Bool := t o == 1
  let most (o : Nat) : Bool := decide (t o ≤ 1)
  let never (o : Nat) : Bool := t o == 0
  let noBridge : Bool := never 0x200 && never 0x201 && never 0x202 && never 0x300
  match sect with
  | 1 => once 0x20 && never 0x21 && never 0x22 && never 0x23 && never 0x24 && never 0x100 && noBridge
  | 2 => once 0x100 && most 0x21 && most 0x22 && never 0x20 && never 0x23 && never 0x24 && noBridge
  | _ => ((List.range 3).all fun ch => if ch < nb then once (0x200 + ch) else never (0x200 + ch)) && once 0x300
      && most 0x23 && most 0x24 && never 0x20 && never 0x21 && never 0x22 && never 0x100
      && ((p.outs.dropWhile fun e => e.1 != 0x300).drop 1).all fun e => decide (e.1 < 0x200)

/-- R183, R184: one slot of a schedule. -/
structure Slot where
  per : Nat
  ofs : Nat
  entry : Nat
  len : Nat
  ctx : Nat
  sect : Nat
  deriving DecidableEq, Repr

/-- R185 check 5: the slots never overlap. -/
def slotsApart (a b : Slot) : Bool :=
  let g := Nat.gcd a.per b.per
  if g = 0 then false
  else
    let d := (((b.ofs : Int) - (a.ofs : Int)) % (g : Int)).toNat
    decide (a.len ≤ d) && decide (d + b.len ≤ g)

/-- Every pair of a list satisfies `slotsApart`. -/
def allApart : List Slot → Bool
  | [] => true
  | a :: t => (t.all fun b => slotsApart a b && slotsApart b a) && allApart t

/-- R184: the slots and the program words of a SLOTSCHED payload. -/
def schedSlots (p : List Byte) : List Slot :=
  (List.range (leAt p 1 1)).map fun i =>
    let o := 0x10 + 16 * i
    { per := leAt p o 4, ofs := leAt p (o + 4) 4, entry := leAt p (o + 8) 2, len := leAt p (o + 10) 2,
      ctx := leAt p (o + 12) 1, sect := leAt p (o + 13) 1 }

def schedWords (p : List Byte) : List Nat :=
  (List.range (leAt p 2 2)).map fun i => leAt p (0x10 + 16 * leAt p 1 1 + 4 * i) 4

/-- R204: the slot that register set `j` shows. -/
def State.slotAt (s : State) (j : Nat) : Slot :=
  { per := s.rd (ENG_SLPER j), ofs := s.rd (ENG_SLOFS j), entry := s.get (ENG_SLLEN_ENTRY j), len := s.get (ENG_SLLEN_LEN j),
    ctx := s.get (ENG_SLCFG_CTX j), sect := s.get (ENG_SLCFG_SECT j) }

/-- R172: the program words of the bank in force of engine `k`. -/
def State.engWords (s : State) (k : Nat) : List Nat :=
  let b := (2 * k + b2n (s.flag (ENG_STAT_BANK k))) * 4096
  ((s.eng.prog).filter fun e => b ≤ e.1 && decide (e.1 < b + 4096)).map fun e => e.2.toNat

/-- The slot in force of section `sect` of local axis `a`. -/
def State.slotOf (s : State) (a sect : Nat) : Option Nat :=
  ((List.range 32).map fun i => 32 * (a / 4) + i).find? fun j =>
    s.flag (ENG_SLCFG_VALID j) && s.get (ENG_SLCFG_CTX j) == a % 4 && s.get (ENG_SLCFG_SECT j) == sect

/-- R233: does the velocity program in force of axis `a` write output `o`? -/
def State.velWrites (s : State) (a : Fin 32) (o : Nat) : Bool :=
  match s.slotOf a 2 with
  | none => false
  | some j =>
    match scanProgram a (s.engWords (a / 4)) 4097 (s.get (ENG_SLLEN_ENTRY j)) [] {} with
    | some p => p.times o != 0
    | none => false

end Sys2Proof.Machine
end

