-- ==== Sys2Proof/Machine/AxisCheck.lean ====
section
/-! DEFINITION. The checks of an axis entry (R110, R174 to R178, R235, R236, R255, R256, R261, R263, R267, R275) that the loader
makes of an image and the profile engine of a table commit. An entry is its 1 024 bytes. -/

namespace Sys2Proof.Machine

/-- What the checks of an entry read outside it: the profile period, the modulo of a master selector as far as the selector
names a usable master (R236), FBK_MPER, and TSD of a configured modulator clock. -/
structure EntryEnv where
  period : Nat
  masterMod : Nat → Option Int
  mper : Nat
  tsd : Nat → Nat

/-- A byte of an entry. -/
def ent (e : List Byte) (o : Nat) : Nat := leAt e o 1

/-- Are the bytes from `lo` up to `hi` that `named` does not name zero? -/
def reservedZero (e : List Byte) (lo hi : Nat) (named : List (Nat × Nat)) : Bool :=
  (List.range (hi - lo)).all fun i =>
    ent e (lo + i) == 0 || named.any fun p => decide (p.1 ≤ lo + i) && decide (lo + i < p.1 + p.2)

/-- R275: FBBITS and FBCFG (28 bytes `f`) for a feedback mode. -/
def fbCfgOk (mode fbits : Nat) (f : List Byte) : Bool :=
  let b := ent f
  match mode with
  | 0 => fbits == 0 && decide (b 0 ≤ 7) && decide (b 1 ≤ 15) && decide (b 2 ≤ 7) && decide (1 ≤ leAt f 4 4)
      && decide (leAt f 4 4 ≤ 2 ^ 24) && reservedZero f 0 28 [(0, 3), (4, 6)]
  | 1 => decide (8 ≤ fbits) && decide (fbits ≤ 40) && decide (b 0 ≤ 15) && decide (1 ≤ b 1) && decide (b 1 ≤ 8) && decide (b 2 ≤ 7)
      && decide (b 3 ≤ 7) && decide (100 ≤ leAt f 4 4) && decide (leAt f 4 4 ≤ 10000) && leAt f 4 4 % 4 == 0
      && reservedZero f 0 28 [(0, 20)]
  | 2 => decide (8 ≤ fbits) && decide (fbits ≤ 40) && b 0 &&& 0xF6 == 0 && decide (1 ≤ b 1) && decide (b 1 ≤ 8) && decide (b 2 ≤ 1)
      && reservedZero f 0 28 [(0, 3), (4, 4), (16, 4)]
  | _ => false

/-- R267: the frame ends in time before the boundary of period `tv`; the frame time of SSI is the product of the table, without the
200 ns (log 26). -/
def frameTimeOk (mode fbits : Nat) (f : List Byte) (tv : Nat) : Bool :=
  match mode with
  | 1 =>
    let ft := (1 + ent f 3 + fbits + b2n (bit (ent f 0) 2) + b2n (bit (ent f 0) 1)) * leAt f 4 4
    decide (ft + 200 ≤ leAt f 8 4) && decide (ft + leAt f 12 4 ≤ tv)
  | 2 =>
    let n := 2 + (fbits + 7) / 8 + b2n (bit (ent f 0) 0)
    decide (250 + n * 625 + 700 ≤ leAt f 4 4) && decide (leAt f 4 4 + 1125 ≤ tv)
  | _ => true

/-- R256: the combinations of COMM and SDMASK. -/
def sdMaskOk (comm m : Nat) : Bool :=
  if comm = 0 then m == 3 || m == 5 || m == 6 || m == 7 else m == 1 || m == 3

/-- R235, R236: the Darner, Sheepdog and inertia section of a local entry, literally, whether its units are enabled or not
(log 27). -/
def darnerOk (env : EntryEnv) (e : List Byte) (tv : Nat) : Bool :=
  let b := ent e
  let u (o : Nat) : Nat := leAt e o 2
  let span := leAtS e 0x310 8
  let sel := u 0x304
  (match env.masterMod sel with
    | some m => decide (0 < span) && decide (0 < m) && m % span == 0
    | none => false)
  && (sel / 4096 != 3 || (env.mper != 0 && tv % env.mper == 0))
  && decide (b 0x300 ≤ 7) && decide (16 ≤ u 0x302) && decide (u 0x302 ≤ 1024) && decide (1 ≤ u 0x318) && decide (u 0x31A ≤ 0x2000)
  && decide (1 ≤ b 0x31C) && (b 0x31D == 0 || (decide (8 ≤ b 0x31D) && decide (b 0x31D ≤ 15))) && decide (b 0x31E ≤ 63)
  && decide (b 0x31F ≤ 2) && decide (u 0x320 ≤ 4095) && decide (u 0x322 ≤ 0x7FFF) && decide (b 0x340 ≤ 3)
  && decide (4 ≤ b 0x341) && decide (b 0x341 ≤ 15) && decide (0 < u 0x344) && decide (u 0x344 ≤ u 0x342) && decide (u 0x342 ≤ u 0x346)
  && decide (4 ≤ b 0x34A) && decide (b 0x34A ≤ 15) && decide (b 0x350 ≤ 7) && decide (b 0x351 ≤ 15) && decide (b 0x352 ≤ 7)
  && decide (1 ≤ b 0x353) && decide (u 0x356 < u 0x354)
  && reservedZero e 0x300 0x380 [(0x300, 1), (0x302, 4), (0x308, 0x23), (0x340, 11), (0x350, 10)]

/-- R174 to R178: the Loop parameters section of a local entry, with the section periods against the profile period. -/
def loopOk (env : EntryEnv) (e : List Byte) : Bool :=
  let b := ent e
  let t := leAt e 0x204 4
  let tc := b 0x201 * t
  let tv := b 0x202 * t
  let tp := b 0x203 * t
  let bper := leAt e 0x20C 4
  let divides (p : Nat) : Bool := p != 0 && 10 ^ 9 % p == 0 && env.period % p == 0
  let mode := b 0x200
  decide (1 ≤ b 0x202) && decide (b 0x202 ≤ 16) && decide (1 ≤ b 0x203) && decide (b 0x203 ≤ 16) && decide (6250 ≤ t)
  && decide (t ≤ 500000) && decide (1 ≤ b 0x208) && decide (-8 ≤ leAtS e 0x209 1) && decide (leAtS e 0x209 1 ≤ 7)
  && divides tv && divides tp && decide (tv ≤ tp)
  && (match mode with
    | 1 => decide (1 ≤ b 0x201) && decide (b 0x201 ≤ 16) && divides tc && decide (tc ≤ tv) && bper == 0 && leAt e 0x210 2 == 0
        && b 0x212 == 0
    | 2 => b 0x201 == 0 && decide (1600 ≤ bper) && decide (bper ≤ 12800) && 10 ^ 9 % bper == 0 && decide (1 ≤ b 0x212)
        && decide (b 0x212 ≤ 15)
    | _ => false)
  && reservedZero e 0x200 0x300 [(0x200, 10), (0x20C, 7), (0x214, 2), (0x220, 224)]

/-- R255: TSD of the clock that SDCLK names divides the strobe periods of the entry. -/
def strobesOk (env : EntryEnv) (e : List Byte) : Bool :=
  let b := ent e
  let tsd := env.tsd (b 0x0B0)
  let t := leAt e 0x204 4
  tsd != 0 && (b 0x202 * t) % tsd == 0 && (if b 0x200 = 1 then (b 0x201 * t) % tsd == 0 else leAt e 0x20C 4 % tsd == 0)
  && decide (5 * b 0x0B7 < tsd)

/-- R110, R261, R263, R267, R275: the Feedback section of a local entry; port settings are checked when a port is named
(log 28). -/
def feedbackOk (env : EntryEnv) (e : List Byte) : Bool :=
  let b := ent e
  let f := slice e 0x084 28
  let tv := b 0x202 * leAt e 0x204 4
  (decide (b 0x080 ≤ 0x21) || b 0x080 == 0xFF) && decide (b 0x081 ≤ 2) && !(b 0x021 == 0 && b 0x081 == 0)
  && (b 0x080 == 0xFF || (fbCfgOk (b 0x081) (b 0x082) f && frameTimeOk (b 0x081) (b 0x082) f tv))
  && (!(b 0x080 == 0x20 || b 0x080 == 0x21) || tv == env.mper)
  && decide (b 0x0A0 ≤ 2) && decide (b 0x0B0 ≤ 11) && sdMaskOk (b 0x021) (b 0x0B1)
  && decide (16 ≤ leAt e 0x0B2 2) && decide (leAt e 0x0B2 2 ≤ 64) && decide (64 ≤ leAt e 0x0B4 2) && decide (leAt e 0x0B4 2 ≤ 256)
  && decide (leAt e 0x0B2 2 ≤ leAt e 0x0B4 2) && decide (1 ≤ b 0x0B6) && decide (b 0x0B6 ≤ 16) && decide (1 ≤ leAt e 0x0B8 2)
  && decide (leAt e 0x0B8 2 ≤ 0x7FFF) && decide (0 < leAtS e 0x0C8 8) && strobesOk env e
  && reservedZero e 0x080 0x100 [(0x080, 3), (0x084, 28), (0x0A0, 1), (0x0A4, 10), (0x0B0, 0x20)]

/-- R110: the sections that local and remote entries share: identity, motion limits, fault reaction and brake. -/
def commonOk (e : List Byte) : Bool :=
  let b := ent e
  decide (b 0x011 ≤ 2) && decide (b 0x012 ≤ 2) && decide (b 0x013 ≤ 3) && (b 0x011 != 0 || decide (0 < leAtS e 0x014 8))
  && decide (1 ≤ leAt e 0x12C 2) && decide (1 ≤ leAt e 0x138 2) && decide (leAt e 0x180 2 ≤ 2000) && decide (leAt e 0x182 2 ≤ 2000)
  && decide (1 ≤ leAt e 0x184 2) && decide (leAt e 0x184 2 ≤ 30000) && (decide (b 0x186 ≤ 0x3F) || b 0x186 == 0xFF)
  && reservedZero e 0x010 0x080 [(0x010, 18), (0x024, 24)] && reservedZero e 0x100 0x180 [(0x100, 0x2E), (0x130, 10)]
  && reservedZero e 0x180 0x200 [(0x180, 7)]

/-- R402: SLICEOFS of a remote entry is the place of its sub-axis in the slice. -/
def sliceOfsOk (e : List Byte) : Bool := leAt e 0x38C 2 == 4 + 36 * ent e 0x381

/-- R110, R115, RESULT 0xC: the reserved header bytes are 0, KIND is allowed for entry `n` and every field of it lies in its range. -/
def entryOk (env : EntryEnv) (n : Nat) (e : List Byte) : Bool :=
  allZero (slice e 0x004 8) &&
  match ent e 0x010 with
  | 0 => allZero (slice e 0x010 0x3B0)
  | 1 => decide (n < 32) && commonOk e && decide (1 ≤ ent e 0x020) && decide (ent e 0x020 ≤ 64) && decide (ent e 0x021 ≤ 1)
      && feedbackOk env e && loopOk env e && darnerOk env e (ent e 0x202 * leAt e 0x204 4) && allZero (slice e 0x380 64)
  | 2 => decide (32 ≤ n) && commonOk e && leAt e 0x01C 4 == 0 && ent e 0x020 == 0 && ent e 0x021 == 0 && decide (1 ≤ ent e 0x380)
      && decide (ent e 0x381 ≤ 15) && sliceOfsOk e && reservedZero e 0x380 0x3C0 [(0x380, 2), (0x384, 10)]
  | _ => false

/-- R110, R115, RESULT 0xB: the ENTRY field and ECRC of entry `n`. -/
def entryNamed (n : Nat) (e : List Byte) : Bool := leAt e 0 2 == n && leAt e 0x00C 4 == crc32c (slice e 0x010 0x3B0)

/-- The checks of an entry against what is in force. -/
def State.entryEnv (s : State) : EntryEnv where
  period := s.profilePeriod
  masterMod := fun sel =>
    let n := sel % 256
    match sel / 4096 with
    | 0 => if s.axKind n != 0 && s.axType n == 0 then some (s.axModulo n) else none
    | 1 => if n < 32 && s.axKind n == 1 && s.axType n == 0 then some (s.axModulo n) else none
    | 2 => if n < 8 && s.flag (PRF_VMST_EN n) then some (s.rd64S (PRF_VMMOD n)) else none
    | 3 => if n < 2 && s.rd64 (FBK_MMOD n) != 0 then some (s.rd64S (FBK_MMOD n)) else none
    | _ => none
  mper := s.rd FBK_MPER
  tsd := fun m => if m < 12 && s.flag (CSF_SDC_EN m) then s.get (CSF_SDC_TSD m) else 0

end Sys2Proof.Machine
end

