-- ==== Sys2Proof/Machine/Probes.lean ====
section
/-! DEFINITION. Probe inputs and latches (R277 to R281), and the position of a source at an instant. -/

namespace Sys2Proof.Machine

/-- A probe. -/
def State.probeOf (s : State) (i : Nat) : Probe := tabGet {} s.probes i

/-- Change a probe. -/
def State.onProbe (i : Nat) (f : Probe → Probe) (s : State) : State := s.onProbes fun t => tabMod {} t i f

/-- The nanoseconds of reference time from the last profile boundary to the instant `te` (elapsed). -/
def State.sinceBoundary (s : State) (te : Nat) : Int :=
  ((s.clk.ns % max 1 s.profilePeriod : Nat) : Int) - ((s.clk.elapsed : Int) - (te : Int))

/-- R278: a set-point in force plus its velocity for the time since the boundary: Q48.16 and Q32.32. -/
def State.posAhead (s : State) (p v : Int) (te : Nat) : Int :=
  p + v * s.sinceBoundary te / ((s.profilePeriod : Int) * 65536)

/-- R278: X times 2^16 of a quadrature port at `te`: the count as it stood then, and the fraction of the interval between the last two edges
before. -/
def State.quadAt (s : State) (p te : Nat) : Int :=
  let o := s.prt p
  let later := o.edges.takeWhile fun e => decide (te < e.1)
  let x := signed 48 (unsigned 48 (later.foldl (fun x e => if e.2 then x - 1 else x + 1) o.x)) * 65536
  match o.edges.drop later.length with
  | (t1, d1) :: (t2, d2) :: _ =>
    if d1 = d2 ∧ t2 < t1 ∧ t1 - t2 ≤ 1000000 then
      let f := min 0xFFFF ((te - t1) * 65536 / (t1 - t2))
      x + (if d1 then (f : Int) else -(f : Int))
    else x
  | _ => x

/-- R278: the two neighbours among readings, newest first, whose latch instants bracket `te`, the newer one first. -/
def bracket (te : Nat) : List PortRead → Option (PortRead × PortRead)
  | r0 :: r1 :: l => if r1.time ≤ te then (if te < r0.time then some (r0, r1) else none) else bracket te (r1 :: l)
  | _ => none

/-- R278: X times 2^16 of an absolute port at `te`, between the two readings whose latch instants bracket it, and whether an
extrapolated reading was used. -/
def State.readAtTime (s : State) (p te : Nat) : Option (Int × Bool) :=
  (bracket te (s.prt p).reads).map fun (r0, r1) =>
    (r1.x + (r0.x - r1.x) * ((te - r1.time : Nat) : Int) / ((r0.time - r1.time : Nat) : Int), r0.est || r1.est)

/-- R279: has port `p` a reading latched at or before `te`, without which it has no position then? -/
def State.readBefore (s : State) (p te : Nat) : Bool := (s.prt p).reads.any fun r => decide (r.time ≤ te)

/-- The port of a measured source (R141): of an enabled local axis, or a master-encoder port; none for any other selector. -/
def State.srcPort (s : State) (sel : Nat) : Option Nat :=
  let n := sel % 256
  if sel / 4096 = 1 then (if n < 32 ∧ s.enabled n ∧ s.axFbPort n < 34 then some (s.axFbPort n) else none)
  else if sel / 4096 = 3 then (if n < 2 ∧ (s.isMaster (32 + n) || (s.portOwner (32 + n)).isSome) then some (32 + n) else none)
  else none

/-- The position that X times 2^16 of a measured source means (R264, R274). -/
def State.srcValue (s : State) (sel : Nat) (x : Int) : Int :=
  if sel / 4096 = 1 then s.signPos (sel % 256) x
  else
    let m := s.rd64 (FBK_MMOD (sel % 256))
    if m = 0 then x else x % (m : Int)

/-- R278, R279: the position of a source at `te`: `none` when there is no such source, `some none` when a later reading is needed. -/
def State.srcAt (s : State) (sel te : Nat) : Option (Option Int) :=
  let n := sel % 256
  match sel / 4096 with
  | 0 => if s.axKind n = 0 then none else some (some (s.posAhead (s.rd64S (PRF_SPOS n)) (s.rd64S (PRF_SVEL n)) te))
  | 2 =>
    if n < 8 ∧ s.flag (PRF_VMST_EN n) then some (some (s.posAhead (s.rd64S (PRF_VMPOS n)) (s.rd64S (PRF_VMVEL n)) te)) else none
  | _ =>
    match s.srcPort sel with
    | none => none
    | some p =>
      if s.fbMode p = 0 then some (some (s.srcValue sel (s.quadAt p te)))
      else if s.readBefore p te then some none
      else none

/-- R141, R279: is a source of TYPE 0x00, whose positions wrap: an axis of that type, a virtual master, or a master encoder with its modulo? -/
def State.srcWraps (s : State) (sel : Nat) : Bool := if sel / 4096 ≤ 1 then s.axType (sel % 256) == 0 else true

/-- R279: does `x`, a position of WSEL, lie outside [WS, WE) of probe `i`? A window with WS > WE wraps through 0 on a source that does. -/
def State.outWindow (s : State) (i : Nat) (x : Int) : Bool :=
  let a := s.rd64S (FBK_PRWS i)
  let b := s.rd64S (FBK_PRWE i)
  if b < a ∧ s.srcWraps (s.get (FBK_PRSEL_WSEL i)) then !(decide (a ≤ x) || decide (x < b))
  else !(decide (a ≤ x) && decide (x < b))

/-- R279: an edge of the source of probe `i`, accepted after its filter, with its instant. -/
def State.probeEdge (i : Nat) (rising : Bool) (te : Nat) (s : State) : State :=
  let e := s.get (FBK_PRCFG_EDGE i)
  let o := s.probeOf i
  let w := s.get (FBK_PRSEL_WSEL i)
  let stamp := (s.now - (s.clk.elapsed - te)) % 2 ^ 32
  if !(s.flag (FBK_PRCFG_ARM i)) || !(bit e (if rising then 0 else 1)) then s
  else if !(s.flag (FBK_PRCFG_CONT i)) && o.waiting != [] then s
  else if (match o.edgeAt with | some t => decide (te < t + 64) | none => false) then s.satBump (FBK_PRST_OVR i) 1
  else
    let s := s.onProbe i fun p => { p with edgeAt := some te }
    let win := w / 4096 != 0xF
    match s.srcAt (s.get (FBK_PRSEL_LSEL i)) te, (if win then s.srcAt w te else some (some 0)) with
    | none, _ => s.satBump (FBK_PRST_NOSRC i) 1
    | _, none => s.satBump (FBK_PRST_NOSRC i) 1
    | some x, some y =>
      if (match y with | some v => win && s.outWindow i v | none => false) then s.satBump (FBK_PRST_OUTW i) 1
      else s.onProbe i fun p =>
        { p with waiting := p.waiting ++ [{ time := te, stamp := stamp, rising := rising, pos := x, win := win && y.isNone }] }

/-- R280: the two entries of a latch. -/
def latchEntries (i : Nat) (rising est : Bool) (seq stamp : Nat) (pos : Int) : List (BitVec 64) :=
  [entry (5 * 2 ^ 60 + i * 2 ^ 56 + b2n rising * 2 ^ 55 + b2n est * 2 ^ 54 + seq % 65536 * 2 ^ 32 + stamp % 2 ^ 32),
   entry (2 * 2 ^ 60 + unsigned 56 pos)]

/-- R278, R280: the latch of an edge completes with its position. -/
def State.latchEdge (i : Nat) (e : ProbeEdge) (pos : Int) (est : Bool) (s : State) : State :=
  let seq := s.get (FBK_PRCNT_SEQ i) + 1
  let s := (s.put (FBK_PRCNT_SEQ i) seq).onProbe i fun p => { p with waiting := p.waiting.drop 1 }
  let s := ((s.wr (FBK_PRT i) e.stamp).wr64S (FBK_PRPOS i) pos).mark (FBK_PRST_EST i) est
  let s := s.latch (FBK_PRST_DONE i)
  let s := if s.flag (FBK_PRCFG_CONT i) then s else s.mark (FBK_PRCFG_ARM i) false
  let s := s.acqSource 6 i 16 ((s.now - (s.clk.elapsed - e.time)) * 256) 0
  let r := s.tryPush 3 2 (latchEntries i e.rising est seq e.stamp pos)
  let s := if r.1 = 0x1 then r.2 else r.2.lose 0x12 (FBK_PRCNT_LOST i) 1
  s.event (0x40 + i % 16)

/-- R278, R279: the first waiting edge of probe `i` is latched when its positions are known; an edge whose position can no longer be formed,
because its source is gone, counts in NOSRC. -/
def State.probeLatch (i : Nat) (s : State) : State :=
  match (s.probeOf i).waiting with
  | [] => s
  | e :: _ =>
    let known : Nat → Option (Int × Bool) := fun sel => match s.srcPort sel with
      | some p => (s.readAtTime p e.time).map fun r => (s.srcValue sel r.1, r.2)
      | none => none
    let drop := fun s : State => s.onProbe i fun p => { p with waiting := p.waiting.drop 1 }
    let lost : Nat → Bool := fun sel => match s.srcPort sel with
      | some p => !(s.readBefore p e.time)
      | none => true
    let outW : Option Bool := if e.win then (known (s.get (FBK_PRSEL_WSEL i))).map fun r => s.outWindow i r.1 else some false
    match outW with
    | none => if lost (s.get (FBK_PRSEL_WSEL i)) then (drop s).satBump (FBK_PRST_NOSRC i) 1 else s
    | some true => (drop s).satBump (FBK_PRST_OUTW i) 1
    | some false =>
      match e.pos with
      | some x => s.latchEdge i e x false
      | none =>
        match known (s.get (FBK_PRSEL_LSEL i)) with
        | some r => s.latchEdge i e r.1 r.2
        | none => if lost (s.get (FBK_PRSEL_LSEL i)) then (drop s).satBump (FBK_PRST_NOSRC i) 1 else s

/-- R277: the instant at which the land of a PRB or Z source crossed its threshold: the filter time is subtracted. -/
def State.probeStamp (s : State) (i : Nat) : Nat := s.clk.elapsed - 4 * s.get (FBK_PRCFG_FLT i)

/-- PROBE_EDGE (R277, R279): an edge of the PRB or Z source of probe `i` has passed its filter. -/
def execProbeEdge (dt : Nat) (i : Fin 16) (rising : Bool) (s : State) : Host.Outcome State Fault Refusal :=
  let s := s.elapse dt
  let src := s.get (FBK_PRCFG_SRC i)
  .next (if 0x10 ≤ src ∧ src < 0x50 then s else s.probeEdge i rising (s.probeStamp i))

/-- PROBE_LATCH (R278, R280). -/
def execProbeLatch (dt : Nat) (i : Fin 16) (s : State) : Host.Outcome State Fault Refusal :=
  .next ((s.elapse dt).probeLatch i)

/-- PROBE_ARM (R279, R281): ARM takes effect; a probe that REF_PROBE owns refuses the write. -/
def execProbeArm (dt : Nat) (who : Accessor) (i : Fin 16) (s : State) : Host.Outcome State Fault Refusal :=
  let s := s.elapse dt
  .next (if s.flag (FBK_PRCFG_OWN i) then s.accessError who 4 (FBK_PRCFG i) (setBit (s.rd (FBK_PRCFG i)) 31 true)
    else s.mark (FBK_PRCFG_ARM i) true)

end Sys2Proof.Machine
end

