-- ==== Sys2Proof/Machine/Dio.lean ====
section
/-! DEFINITION. The digital field I/O: frames between the logic side and the field side, inputs, outputs, overload and supply
(R425 to R444), and cam-switch edges (R154, R439). -/

namespace Sys2Proof.Machine

/-- A DIO channel. -/
def State.dch (s : State) (c : Nat) : DioChan := tabGet {} s.dio.chan c

/-- Change a DIO channel. -/
def State.onDch (c : Nat) (f : DioChan → DioChan) (s : State) : State :=
  s.onDio fun d => { d with chan := tabMod {} d.chan c f }

/-- R425: is channel `c` in an output mode? -/
def State.outMode (s : State) (c : Nat) : Bool := s.get (DIO_CCFG_MODE c) == 1 || s.get (DIO_CCFG_MODE c) == 2

/-- A flag of the channel entry (R446): 0 SAFEVAL, 1 HOLD, 3 IINV, 4 EVF, 5 EVR. -/
def State.dioFlag (s : State) (c i : Nat) : Bool := bit (s.get (DIO_CCFG_FLAGS c)) i

/-- R154: the cam-switch track that owns channel `c`: the lowest-numbered enabled one that names it. -/
def State.trackOf (s : State) (c : Nat) : Option Nat :=
  (List.range 64).find? fun t => s.flag (PRF_CSWCFG_EN t) && s.get (PRF_CSWCFG_CH t) == c

/-- R101: the DHOLD permission of channel `c`: its effective bit, when it is one of the two lowest set bits of its group. -/
def State.holdPerm (s : State) (c : Nat) : Bool :=
  s.bit64 LSH_DHOLD_E c && decide (((List.range (c % 8)).filter fun i => s.bit64 LSH_DHOLD_E (c / 8 * 8 + i)).length < 2)

/-- R429: does channel `c` hold on timeout? -/
def State.holdEff (s : State) (c : Nat) : Bool := s.dioFlag c 1 && s.outMode c && s.holdPerm c

/-- R430, R51: does the logic side run? From APPLY, not in RESET, TEST and NO_IMAGE. -/
def State.dioRuns (s : State) : Bool := 6 ≤ s.get CFG_STATE_STATE && s.get CFG_STATE_STATE ≤ 9

/-- R432: a filter time in ns. -/
def filtTime (f : Nat) : Nat :=
  match f with
  | 0 => 0
  | 1 => 10000
  | 2 => 50000
  | 3 => 100000
  | 4 => 500000
  | 5 => 1000000
  | 6 => 3000000
  | _ => 10000000

/-- R443: the supply state of group `g`, as its own side decides it. -/
def State.fieldSupply (s : State) (g : Nat) : Nat := tabGet 3 s.dio.sup g

/-- R437: the switch of channel `c`, from what the field side holds: the first row that applies. -/
def State.dioSwitch (s : State) (c : Nat) : Bool :=
  let d := s.dch c
  let sup := s.fieldSupply (c / 8)
  if sup = 3 || !d.prog then false
  else if sup = 2 then false
  else if d.therm || s.dio.shut.contains (c / 8) then false
  else if d.mode != 1 && d.mode != 2 then false
  else if d.timeout then (if d.hold then d.held else d.safeVal)
  else d.cmd

/-- The switch of channel `c` follows R437. -/
def State.dioApply (c : Nat) (s : State) : State :=
  s.onDch c fun d => { d with on := s.dioSwitch c, steadyAt := if d.on = s.dioSwitch c then d.steadyAt else s.clk.elapsed }

/-- R428: is channel `c` alive? -/
def State.dioAlive (s : State) (c : Nat) : Bool :=
  let d := s.dch c
  d.prog && !d.timeout && decide (s.clk.elapsed < d.frameAt + d.hbt * 1100000)

/-- R436, R437: the commanded state of channel `c`: the state of the track that owns it, or bit `c` of DIO_OUT. -/
def State.outBit (s : State) (c : Nat) : Bool :=
  match s.trackOf c with
  | some t => s.flag (PRF_CSWST_OUT t)
  | none => s.bit64 DIO_OUT c

/-- R436, R437: the commanded state that a frame carries: row 5, 6 or 7. -/
def State.dioCommand (s : State) (c : Nat) : Bool := s.bit64 LSH_DOUT_E c && s.outBit c

/-- R435: an edge of channel `c` is pushed as a DIO event, stamped `stamp`. -/
def State.dioEvent (c : Nat) (rising : Bool) (stamp : Nat) (s : State) : State :=
  if s.flag DIO_CFG_EVEN && (if rising then s.dioFlag c 5 else s.dioFlag c 4) then
    let s := s.bump (DIO_CCNT_SEQ c)
    let e := entry (7 * 2 ^ 60 + c * 2 ^ 54 + b2n rising * 2 ^ 53 + s.get (DIO_CCNT_SEQ c) * 2 ^ 32 + stamp % 2 ^ 32)
    let r := s.tryPush 3 (s.get DIO_CFG_EVQ) [e]
    if r.1 = 0x1 then r.2 else r.2.lose 0x12 DIO_STAT_EVLOST 1
  else s

/-- Show the level of channel `c`: after IINV in DIO_IN and LEVEL (R432, R433), and the land of mode 0x02 as it reads in LAND (R440). -/
def State.showLevel (c : Nat) (level : Bool) (s : State) : State :=
  let land := (s.dch c).filt && s.get (DIO_CCFG_MODE c) == 2
  let s := if land = s.flag (DIO_CST_LAND c) then s else s.onDch c fun d => { d with steadyAt := s.clk.elapsed }
  ((s.setBit64 DIO_IN c level).mark (DIO_CST_LEVEL c) level).mark (DIO_CST_LAND c) land

/-- R433: do the conditions of validity other than the filter time hold? -/
def State.dioOk (s : State) (c : Nat) : Bool :=
  s.get (DIO_CCFG_MODE c) != 1 && s.dioAlive c && s.get (DIO_GST_SUPPLY (c / 8)) ≤ 1 && !s.flag (DIO_CST_COUPLER c)

/-- R433, R435: judge the validity of channel `c`; a level that differs from the last one reported is one edge. -/
def State.dioValidity (c : Nat) (s : State) : State :=
  let d := s.dch c
  if !s.dioOk c then
    let s := (s.setBit64 DIO_VALID c false).mark (DIO_CST_INVALID c) true
    (s.showLevel c false).onDch c fun d => { d with okAt := none }
  else
    match d.okAt with
    | none => s.onDch c fun d => { d with okAt := some s.clk.elapsed }
    | some t =>
      if s.flag (DIO_CST_INVALID c) && decide (t + filtTime (s.get (DIO_CCFG_FILT c)) ≤ s.clk.elapsed) then
        let level := d.filt != s.dioFlag c 3
        let s := (s.setBit64 DIO_VALID c true).mark (DIO_CST_INVALID c) false
        let s := s.showLevel c level
        let stamp := s.now - (s.clk.elapsed - (t + filtTime (s.get (DIO_CCFG_FILT c))))
        if level != d.reported then (s.onDch c fun d => { d with reported := level }).dioEvent c level stamp else s
      else if s.flag (DIO_CST_INVALID c) then s
      else s.showLevel c (d.filt != s.dioFlag c 3)

/-- R426, R428: a frame of the logic side that the field side takes programs channel `c`. -/
def State.dioTake (c : Nat) (s : State) : State :=
  if s.dioRuns then
    (s.onDch c fun d =>
      { d with
        prog := true, hbt := s.get (DIO_GCFG_HBT (c / 8)), timeout := false, frameAt := s.clk.elapsed
        mode := if s.bit64 LSH_DOUT_E c then s.get (DIO_CCFG_MODE c) else 0
        safeVal := s.dioFlag c 0, hold := s.holdEff c, cmd := s.dioCommand c }).dioApply c
  else s

/-- R426, R444: a frame of the logic side for channel `c`; a driver die in OFF takes none before it has sent one itself. -/
def State.dioProgram (c : Nat) (s : State) : State :=
  if s.fieldSupply (c / 8) != 3 || (s.dch c).prog then s.dioTake c else s

/-- Show what the field side reports of channel `c`: its switch, its timeout state, whether it is alive (R448). -/
def State.dioShow (c : Nat) (s : State) : State :=
  let d := s.dch c
  let g := c / 8
  let s := (s.setBit64 DIO_ACT c d.on).mark (DIO_CST_ACT c) d.on
  let s := (s.mark (DIO_CST_TIMEOUT c) d.timeout).mark (DIO_CST_THERM c) d.therm
  let s := (s.put (DIO_GST_SUPPLY g) (s.fieldSupply g)).mark (DIO_GST_GOVL g) (s.dio.shut.contains g)
  (s.put (DIO_GST_TOUT g) (setBit (s.get (DIO_GST_TOUT g)) (c % 8) d.timeout)).put (DIO_GST_ALIVE g)
    (setBit (s.get (DIO_GST_ALIVE g)) (c % 8) (s.dioAlive c))

/-- R426, R430: a report of the field side of channel `c`. -/
def State.dioReport (c : Nat) (raw limit : Bool) (vlp ig : Nat) (s : State) : State :=
  if !s.dioRuns then s
  else
    let g := c / 8
    let s := s.onDch c fun d =>
      { d with heard := s.clk.elapsed, raw := raw, rawAt := if raw = d.raw then d.rawAt else s.clk.elapsed }
    let s := if limit = s.flag (DIO_CST_LIMIT c) then s else s.onDch c fun d => { d with steadyAt := s.clk.elapsed }
    let s := ((s.put (DIO_GMEAS_VLP g) vlp).put (DIO_GMEAS_IG g) ig).mark (DIO_CST_LIMIT c) limit
    let s := s.dioShow c
    let ready := s.get CFG_STATE_STATE == 8 || s.get CFG_STATE_STATE == 9
    let s := if ((s.dch c).timeout && ready) || !(s.dch c).prog then s.dioTake c else s
    s.dioValidity c

/-- What the field side tells the logic side reaches the registers while the logic side runs (R430). -/
def State.toldLogic (f : State → State) (s : State) : State := if s.dioRuns then f s else s

/-- R428: no frame for HBT: channel `c` enters its timeout state. -/
def State.dioTimeout (c : Nat) (s : State) : State :=
  let d := s.dch c
  let g := c / 8
  if d.prog && !d.timeout && decide (d.frameAt + d.hbt * 900000 ≤ s.clk.elapsed) then
    ((s.onDch c fun d => { d with timeout := true, held := d.on }).dioApply c).toldLogic (State.satBump (DIO_GCNT_TOCNT g) 1)
  else s

/-- R430: the logic side has received no frame from channel `c` for 1 ms. -/
def State.couplerSilent (c : Nat) (s : State) : State :=
  if s.dioRuns && !s.flag (DIO_CST_COUPLER c) && decide ((s.dch c).heard + 1000000 ≤ s.clk.elapsed) then
    ((s.latch (DIO_CST_COUPLER c)).dioValidity c).severe 0x1B 0 (DIO_CST c)
  else s

/-- R432, R434, R277: a change of the raw level of channel `c` has been stable for FILT; it is stamped at its receipt less 1 000 ns. -/
def State.inputAccepted (c : Nat) (s : State) : State :=
  let d := s.dch c
  let f := filtTime (s.get (DIO_CCFG_FILT c))
  if d.raw != d.filt && decide (d.rawAt + f ≤ s.clk.elapsed) then
    let level := d.raw != s.dioFlag c 3
    let te := d.rawAt - 1000
    let stamp := (s.now - (s.clk.elapsed - te)) % 2 ^ 32
    let s := s.onDch c fun d => { d with filt := d.raw }
    let s :=
      if s.bit64 DIO_VALID c then
        ((s.showLevel c level).onDch c fun d => { d with reported := level }).dioEvent c level stamp
      else s.showLevel c false
    (below 16 fun i => s.get (FBK_PRCFG_SRC i) == 0x10 + c).foldl (fun s i => s.probeEdge i level te) s
  else s

/-- R436: the commanded states change to `v` where firmware may change them: output channels that no track owns. -/
def State.writeOut (v : Nat) (s : State) : State :=
  (List.range 64).foldl (fun s c =>
    if s.outMode c && (s.trackOf c).isNone && s.bit64 DIO_OUT c != bit v c then
      (s.setBit64 DIO_OUT c (bit v c)).onDch c fun d => { d with cmdAt := s.clk.elapsed }
    else s) s

/-- R436: a write in the present logic-side cycle of 10 ns: `f` adds it to the writes of the cycle, which act in the order DIO_OUT, DIO_SET,
DIO_CLR. -/
def State.dioWrite (f : OutCycle → OutCycle) (s : State) : State :=
  let k := s.clk.elapsed / 10
  let new : OutCycle := { num := k, base := s.rd64 DIO_OUT }
  let c := f (match s.dio.cyc with
    | some c => if c.num = k then c else new
    | none => new)
  let v := (c.out.getD c.base ||| c.set) &&& (0xFFFFFFFFFFFFFFFF ^^^ c.clr % 2 ^ 64)
  (s.onDio fun d => { d with cyc := some c }).writeOut v

/-- R436: writes of DIO_OUT, of DIO_SET and of DIO_CLR. -/
def State.dioOut (v : Nat) : State → State := State.dioWrite fun c => { c with out := some v }
def State.dioSet (v : Nat) : State → State := State.dioWrite fun c => { c with set := c.set ||| v }
def State.dioClr (v : Nat) : State → State := State.dioWrite fun c => { c with clr := c.clr ||| v }

/-- R440: a readback mismatch of channel `c`, valid, that has lasted RBT from RBT after the last change of the commanded state on (log 110). -/
def State.readback (c : Nat) (s : State) : State :=
  let d := s.dch c
  let rbt := s.get (DIO_CCFG_RBT c) * 1000000
  let land := s.flag (DIO_CST_LAND c)
  if s.get (DIO_CCFG_MODE c) = 2 ∧ s.bit64 DIO_VALID c ∧ d.cmdAt + 2 * rbt ≤ s.clk.elapsed ∧ d.steadyAt + rbt ≤ s.clk.elapsed then
    if !d.on && land then s.raise 0x1B (DIO_CST_BACKFED c)
    else if d.on && !land && !s.flag (DIO_CST_LIMIT c) && !d.therm then s.raise 0x1B (DIO_CST_OLOW c)
    else s
  else s

/-- R441: the switch of channel `c` is at its thermal limit. -/
def State.thermal (c : Nat) (s : State) : State :=
  if (s.dch c).on then
    ((s.onDch c fun d => { d with therm := true, thermAt := s.clk.elapsed }).dioApply c).toldLogic (State.raise 0x1B (DIO_CST_THERM c))
  else s

/-- R441: 100 ms (R427) after a thermal shutdown. -/
def State.thermalRetry (c : Nat) (s : State) : State :=
  if (s.dch c).therm && decide ((s.dch c).thermAt + 90000000 ≤ s.clk.elapsed) then
    let s := ((s.onDch c fun d => { d with therm := false }).dioApply c).toldLogic (State.mark (DIO_CST_THERM c) false)
    if (s.dch c).on then s.toldLogic (State.satBump (DIO_CCNT_RETRY c) 1) else s
  else s

/-- The channels of group `g`. -/
def groupChans (g : Nat) : List Nat := (List.range 8).map (8 * g + ·)

/-- R442: the group current has exceeded 3.6 A for 5 ms. -/
def State.groupOver (g : Nat) (s : State) : State :=
  if s.dio.shut.contains g then s else
  let s := s.toldLogic fun s => (s.mark (DIO_GST_GOVL g) true).satBump (DIO_GCNT_GOVLCNT g) 1
  let s := s.onDio fun d => { d with govlAt := tabSet d.govlAt g s.clk.elapsed, shut := d.shut.filter (· != g) ++ [g] }
  (groupChans g).foldl (fun s c => s.dioApply c) s

/-- R442: 100 ms (R427) after a group shutdown. -/
def State.groupRetry (g : Nat) (s : State) : State :=
  if s.dio.shut.contains g && decide (tabGet 0 s.dio.govlAt g + 90000000 ≤ s.clk.elapsed) then
    let s := s.onDio fun d => { d with shut := d.shut.filter (· != g) }
    (groupChans g).foldl (fun s c => s.dioApply c) (s.toldLogic (State.mark (DIO_GST_GOVL g) false))
  else s

/-- R443, R444: group `g` enters supply state `st`. -/
def State.supplyState (g st : Nat) (s : State) : State :=
  let was := s.fieldSupply g
  let s := (s.onDio fun d => { d with sup := tabSet d.sup g st }).toldLogic (State.put (DIO_GST_SUPPLY g) st)
  let s := (groupChans g).foldl (fun s c =>
    if st = 3 then s.onDch c fun d => { d with prog := false, timeout := false, therm := false }
    else if 2 ≤ was ∧ st = 0 ∧ (s.dch c).prog ∧ !s.dioAlive c then s.onDch c fun d => { d with timeout := true, held := d.on }
    else s) s
  (groupChans g).foldl (fun s c => (s.dioApply c).toldLogic (State.dioValidity c)) s

/-- R443: group `g` enters LOW or MISSING, state `st`: the sticky flag `f`, its warning and the count `k`. -/
def State.supplyWarn (g st : Nat) (f k : Fld) (s : State) : State :=
  (s.supplyState g st).toldLogic fun s => ((s.satBump k 1).latch f).warn 0x1B f

/-- R154, R439: the first edge of track `t` whose stamp has come is applied to the channel that the track owns, or pushed as a
CAMSW event. -/
def State.camEdge (t : Nat) (s : State) : State :=
  match s.dio.edges.find? fun e => e.track == t && decide (e.time ≤ s.clk.elapsed) with
  | none => s
  | some e =>
    let s := s.onDio fun d => { d with edges := d.edges.erase e }
    let s := (s.mark (PRF_CSWST_OUT t) e.on).bump (PRF_CSWST_CNT t)
    let c := s.get (PRF_CSWCFG_CH t)
    if c < 64 ∧ s.trackOf c = some t then
      let s := if e.late then s.satBump (DIO_CCNT_LATE c) 1 else s
      (s.setBit64 DIO_OUT c e.on).onDch c fun d => { d with cmdAt := s.clk.elapsed }
    else s.pushEvent 0x20 t (b2n e.on) e.stamp none

/-- LOGIC_FRAME (R426). -/
def execLogicFrame (dt : Nat) (c : Fin 64) (s : State) : Host.Outcome State Fault Refusal :=
  .next ((s.elapse dt).dioProgram c)

/-- FIELD_REPORT (R426): the raw level, whether the output is at its current limit, L+ in 10 mV and the group current in mA. -/
def execFieldReport (dt : Nat) (c : Fin 64) (raw limit : Bool) (vlp ig : BitVec 16) (s : State) :
    Host.Outcome State Fault Refusal :=
  .next ((s.elapse dt).dioReport c raw limit vlp.toNat ig.toNat)

/-- HEARTBEAT_TIMEOUT (R428). -/
def execHeartbeatTimeout (dt : Nat) (c : Fin 64) (s : State) : Host.Outcome State Fault Refusal :=
  .next ((s.elapse dt).dioTimeout c)

/-- COUPLER_SILENCE (R430). -/
def execCouplerSilence (dt : Nat) (c : Fin 64) (s : State) : Host.Outcome State Fault Refusal :=
  .next ((s.elapse dt).couplerSilent c)

/-- INPUT_CHANGE_ACCEPTED (R432). -/
def execInputChangeAccepted (dt : Nat) (c : Fin 64) (s : State) : Host.Outcome State Fault Refusal :=
  .next ((s.elapse dt).inputAccepted c)

/-- DIO_OUT (R436). -/
def execDioOut (dt : Nat) (v : BitVec 64) (s : State) : Host.Outcome State Fault Refusal :=
  .next ((s.elapse dt).dioOut v.toNat)

/-- DIO_SET (R436). -/
def execDioSet (dt : Nat) (v : BitVec 64) (s : State) : Host.Outcome State Fault Refusal :=
  .next ((s.elapse dt).dioSet v.toNat)

/-- DIO_CLR (R436). -/
def execDioClr (dt : Nat) (v : BitVec 64) (s : State) : Host.Outcome State Fault Refusal :=
  .next ((s.elapse dt).dioClr v.toNat)

/-- READBACK_MISMATCH (R440). -/
def execReadbackMismatch (dt : Nat) (c : Fin 64) (s : State) : Host.Outcome State Fault Refusal :=
  .next ((s.elapse dt).readback c)

/-- THERMAL_SHUTDOWN (R441). -/
def execThermalShutdown (dt : Nat) (c : Fin 64) (s : State) : Host.Outcome State Fault Refusal :=
  .next ((s.elapse dt).thermal c)

/-- THERMAL_RETRY (R441). -/
def execThermalRetry (dt : Nat) (c : Fin 64) (s : State) : Host.Outcome State Fault Refusal :=
  .next ((s.elapse dt).thermalRetry c)

/-- GROUP_OVERLOAD (R442). -/
def execGroupOverload (dt : Nat) (g : Fin 8) (s : State) : Host.Outcome State Fault Refusal :=
  .next ((s.elapse dt).groupOver g)

/-- GROUP_OVERLOAD_RETRY (R442). -/
def execGroupOverloadRetry (dt : Nat) (g : Fin 8) (s : State) : Host.Outcome State Fault Refusal :=
  .next ((s.elapse dt).groupRetry g)

/-- SUPPLY_LOW (R443): only from OK. -/
def execSupplyLow (dt : Nat) (g : Fin 8) (s : State) : Host.Outcome State Fault Refusal :=
  let s := s.elapse dt
  .next (if s.fieldSupply g = 0 then s.supplyWarn g 1 (DIO_GST_LOWW g) (DIO_GCNT_LOWCNT g) else s)

/-- SUPPLY_MISSING (R443). -/
def execSupplyMissing (dt : Nat) (g : Fin 8) (s : State) : Host.Outcome State Fault Refusal :=
  let s := s.elapse dt
  .next (if s.fieldSupply g = 2 then s else s.supplyWarn g 2 (DIO_GST_MISSW g) (DIO_GCNT_MISSCNT g))

/-- SUPPLY_OFF (R443). -/
def execSupplyOff (dt : Nat) (g : Fin 8) (s : State) : Host.Outcome State Fault Refusal :=
  .next ((s.elapse dt).supplyState g 3)

/-- SUPPLY_OK (R443, R444). -/
def execSupplyOk (dt : Nat) (g : Fin 8) (s : State) : Host.Outcome State Fault Refusal :=
  .next ((s.elapse dt).supplyState g 0)

/-- CAM_SWITCH_EDGE (R154). -/
def execCamSwitchEdge (dt : Nat) (t : Fin 64) (s : State) : Host.Outcome State Fault Refusal :=
  .next ((s.elapse dt).camEdge t)

end Sys2Proof.Machine
end

