-- ==== Sys2Proof/Machine/Limits.lean ====
section
/-! DEFINITION. Lowerings of the Leash (R93 to R96, R101) and commits of axis entries (R112 to R118). -/

namespace Sys2Proof.Machine

/-! ### Lowering a limit -/

/-- R93: the kind of a limit: a ceiling, a floor, or a permission mask. -/
inductive LimitKind where
  | ceiling
  | floor
  | mask
  deriving DecidableEq, Repr

/-- R96: the boundary at which a lowering of a limit takes effect: of a local axis, of the profile engine, of an auxiliary
channel, or at once for a DIO mask. -/
inductive LimitOwner where
  | axis (a : Nat)
  | profile
  | aux (k : Nat)
  | dio
  deriving DecidableEq, Repr

/-- An effective field of the Leash: its place, kind, whether it is signed, and its owner. -/
structure EffField where
  fld : Fld
  kind : LimitKind
  signed : Bool
  owner : LimitOwner
  deriving DecidableEq, Repr

/-- R105: the effective field of the register at `addr` (the low word's address of a 64-bit one), if it holds one. -/
def effField (addr : Nat) : Option EffField :=
  let la := (addr - 0x11001000) / 0x40
  let n := (addr - 0x11008000) / 0x40
  let own := if n < 32 then LimitOwner.axis n else .profile
  if addr = LSH_DOUT_E ∨ addr = LSH_DHOLD_E then some ⟨⟨addr, 0, 64⟩, .mask, false, .dio⟩
  else if LSH_AUXDUTY 0 ≤ addr ∧ addr < LSH_AUXDUTY 0 + 0x20 ∧ addr % 4 = 0 then
    some ⟨⟨addr, 0, 9⟩, .ceiling, false, .aux ((addr - LSH_AUXDUTY 0) / 4)⟩
  else if LSH_AUXDTF 0 ≤ addr ∧ addr < LSH_AUXDTF 0 + 0x20 ∧ addr % 4 = 0 then
    some ⟨⟨addr, 0, 16⟩, .floor, false, .aux ((addr - LSH_AUXDTF 0) / 4)⟩
  else if LSH_AUXMPW 0 ≤ addr ∧ addr < LSH_AUXMPW 0 + 0x20 ∧ addr % 4 = 0 then
    some ⟨⟨addr, 0, 16⟩, .floor, false, .aux ((addr - LSH_AUXMPW 0) / 4)⟩
  else if 0x11001000 ≤ addr ∧ la < 32 then
    match addr % 0x40 with
    | 0x00 => some ⟨LSH_IPK_EFF la, .ceiling, false, .axis la⟩
    | 0x04 => some ⟨LSH_ICT_EFF la, .ceiling, false, .axis la⟩
    | 0x0C => some ⟨LSH_DUTY_EFF la, .ceiling, false, .axis la⟩
    | 0x10 => some ⟨LSH_DTF_EFF la, .floor, false, .axis la⟩
    | 0x14 => some ⟨LSH_MPW_EFF la, .floor, false, .axis la⟩
    | _ => none
  else if 0x11008000 ≤ addr ∧ n < 256 then
    match addr % 0x40 with
    | 0x04 => some ⟨whole addr, .ceiling, false, own⟩
    | 0x18 => some ⟨⟨addr, 0, 64⟩, .floor, true, own⟩
    | 0x20 => some ⟨⟨addr, 0, 64⟩, .ceiling, true, own⟩
    | _ => none
  else none

/-- The value in force of an effective field. -/
def State.effGet (s : State) (f : Fld) : Nat := if f.width = 64 then s.rd64 f.addr else s.get f

/-- Set the value in force of an effective field. -/
def State.effSet (f : Fld) (v : Nat) (s : State) : State := if f.width = 64 then s.wr64 f.addr v else s.put f v

/-- An effective value as a number that compares. -/
def EffField.num (e : EffField) (v : Nat) : Int := if e.signed then Machine.signed 64 v else (v : Int)

/-- R93: does the value `v` lower the limit that holds `old`? -/
def EffField.lowers (e : EffField) (v old : Nat) : Bool :=
  match e.kind with
  | .ceiling => decide (e.num v < e.num old)
  | .floor => decide (e.num old < e.num v)
  | .mask => v != old && v &&& old == v

/-- R96: the strictest of two values. -/
def EffField.strict (e : EffField) (v w : Nat) : Nat :=
  match e.kind with
  | .ceiling => if e.num v ≤ e.num w then v else w
  | .floor => if e.num v ≤ e.num w then w else v
  | .mask => v &&& w

/-- R95: a write of `v` to the effective field of the register at `addr` by `who`. -/
def State.leashWrite (who : Accessor) (addr v : Nat) (s : State) : State :=
  match effField addr with
  | none => s
  | some e =>
    let v := v / 2 ^ e.fld.lo % 2 ^ e.fld.width
    if e.lowers v (s.effGet e.fld) then
      s.onLim fun l => { l with lowerings := l.lowerings ++ [{ fld := e.fld, value := v, time := s.clk.elapsed }] }
    else (s.satBump LSH_STAT_REFUSED 1).accessError who 4 addr v

/-- R96: does the boundary of a limit's owner fall at the present instant? -/
def State.limitDue (s : State) (o : LimitOwner) : Bool :=
  match o with
  | .axis a => if s.axKind a = 0 then s.atBoundary s.profilePeriod else s.atBoundary (s.posPeriod a)
  | .profile => s.atBoundary s.profilePeriod
  | .aux k => s.atBoundary (s.rd (PWM_AUXPER k) / 4)
  | .dio => true

/-- R88: do members still owe an acknowledgement of a staged set? -/
def State.stageWaits (s : State) : Bool := s.ring.mems.any fun e => e.2.stageOwed != []

/-- R88, R89: is the commit of a changeover due at the present instant? -/
def State.changeDue (s : State) : Bool :=
  s.flag CFG_CHG_BUSY && s.boot.staged.isSome && s.atBoundary s.profilePeriod && !s.stageWaits &&
    (if s.get RNG_CFG_ROLE = 1 ∧ s.ring.stageAt.isSome then s.ring.cmt == some (s.rd RNG_CYCNT) else true)

/-- R101, R102: output permissions were withdrawn from `old`: the lowest channel that was switched on is reported, once. -/
def State.permClamp (old : Nat) (s : State) : State :=
  let lost := below 64 fun c => bit old c && !(s.bit64 LSH_DOUT_E c) && s.bit64 DIO_OUT c && s.outMode c
  match lost with
  | [] => s
  | c :: _ =>
    if s.flag LSH_STAT_DIOCLAMP then s.latch LSH_STAT_DIOCLAMP
    else (s.latch LSH_STAT_DIOCLAMP).report 0x1B 3 30 LSH_STAT (s.rd LSH_STAT) c

/-- R96: the accepted lowerings of the field at `addr` that were accepted before now take effect together: the strictest. At the commit
boundary of a changeover none does: they are left for the commit to discard. -/
def State.lowerNow (addr : Nat) (s : State) : State :=
  match effField addr with
  | none => s
  | some e =>
    let mine := fun l : Lowering => l.fld == e.fld && (e.owner == .dio || decide (l.time < s.clk.elapsed))
    let vs := (s.lim.lowerings.filter mine).map (·.value)
    if vs = [] || !s.limitDue e.owner || s.changeDue then s
    else
      let old := s.effGet e.fld
      let s := s.effSet e.fld (vs.foldl e.strict old)
      let s := s.onLim fun l => { l with lowerings := l.lowerings.filter fun x => !(mine x) }
      if addr = LSH_DOUT_E then s.permClamp old else s

/-- R96: every lowering whose owner satisfies `p` takes effect when it is due. -/
def State.lowerAll (p : LimitOwner → Bool) (s : State) : State :=
  (s.lim.lowerings.filter fun l => match effField l.fld.addr with | some e => p e.owner | none => false).foldl
    (fun s l => s.lowerNow l.fld.addr) s

/-- R96: at a commit boundary of a changeover the pending lowerings are discarded and counted. -/
def State.discardLowerings (s : State) : State :=
  let s' := s.satBump LSH_STAT_DISCARD s.lim.lowerings.length
  s'.onLim fun l => { l with lowerings := [] }

/-! ### Commits of axis entries -/

/-- The bytes of committed entry `n`, and of working entry `n`. -/
def State.committed (s : State) (n : Nat) : List Byte := s.bulkBytes (s.entryAt n) 0x400
def State.working (s : State) (n : Nat) : List Byte := s.bulkBytes (s.workAt n) 0x400

/-- R109: do the bytes `[lo, hi)` of two entries differ? -/
def differ (a b : List Byte) (lo hi : Nat) : Bool := slice a lo (hi - lo) != slice b lo (hi - lo)

/-- R109: did a Disabled-only section change? -/
def disabledOnlyChanged (old new : List Byte) : Bool := differ old new 0x010 0x100 || differ old new 0x380 0x3C0

/-- R112: the generation after `g`. -/
def nextGen (g : Nat) : Nat := if g = 0xFFFF then 1 else g + 1

/-- R233: would the entry `e` of local axis `n` enable a unit whose port the velocity program in force does not write? -/
def State.unitMissing (s : State) (n : Fin 256) (e : List Byte) : Bool :=
  if h : n.val < 32 then
    ent e 0x010 == 1 && ((bit (ent e 0x300) 0 && !s.velWrites ⟨n, h⟩ 0x21) || (bit (ent e 0x350) 0 && !s.velWrites ⟨n, h⟩ 0x22))
  else false

/-- R115: the result of a commit request of entry `n` with EXPGEN `g`, in the order of the Commit results table. -/
def State.commitResult (s : State) (n : Fin 256) (g : Nat) : Nat :=
  let new := s.working n
  let old := s.committed n
  if s.flag CFG_CHG_BUSY || decide (15 ≤ s.lim.commits.length) then 0x8
  else if s.lim.commits.any fun c => c.entry == n.val then 0x9
  else if g ≠ s.get (PRF_AXGEN_CGEN n) then 0xA
  else if !entryNamed n new then 0xB
  else if !entryOk s.entryEnv n new || (decide (n.val < 32) && differ old new 0x200 0x210) || s.unitMissing n new then 0xC
  else if s.axState n ≠ 0 ∧ disabledOnlyChanged old new then 0xD
  else if differ old new 0x010 0x3C0 then 0x1
  else 0x2

/-- R115: a request to commit working entry `n`, expecting generation `g`. -/
def State.commitRequest (n : Fin 256) (g : Nat) (s : State) : State :=
  let r := s.commitResult n g
  let s := (s.put PRF_TCST_ENTRY n).put PRF_TCST_RESULT r
  match r with
  | 0x1 =>
    let ng := nextGen (s.get (PRF_AXGEN_CGEN n))
    let c : Commit := { entry := n, snapshot := s.working n, newGen := ng, bnd := ((s.now / s.profilePeriod : Nat) : Int) }
    let s := s.onLim fun l => { l with commits := l.commits ++ [c] }
    ((s.put PRF_TCST_NEWGEN ng).put PRF_TCST_PEND s.lim.commits.length).mark (PRF_AXST_PENDCMT n) true
  | 0x2 => s.put PRF_TCST_NEWGEN (s.get (PRF_AXGEN_CGEN n))
  | _ => s

/-- R116: is the pending commit `c` due? At least the second profile boundary after its acceptance, which is also a position
boundary of a local axis. -/
def State.commitDue (s : State) (c : Commit) : Bool :=
  s.atBoundary s.profilePeriod && (decide (32 ≤ c.entry) || s.axKind c.entry == 0 || s.atBoundary (s.posPeriod c.entry))
    && decide (c.bnd + 2 ≤ ((s.now / s.profilePeriod : Nat) : Int))

/-- CSF_DLYF and CSF_DLYP of local axis `a` (R258, R261), in 250 ps. -/
def State.showDelays (a : Nat) (s : State) : State :=
  let tsd := s.get (CSF_SDC_TSD (s.axSdClk a))
  let dly := fun osr : Nat => if osr = 0 then 0 else (3 * (osr - 1) + 2) * tsd * 2
  (s.wr (CSF_DLYF a) (dly (s.axU a 0x0B2 2))).wr (CSF_DLYP a) (dly (s.axU a 0x0B4 2))

/-- R116, R112: the bytes `new` of entry `n` become the committed entry with generation `g`, in both tables; the user area stays. -/
def State.putEntry (n g : Nat) (new : List Byte) (s : State) : State :=
  let s := s.bulkStore (s.entryAt n) (slice new 0 2 ++ leBytes 2 g ++ slice new 4 0x3BC)
  (s.bulkStore (s.workAt n + 2) (leBytes 2 g)).put (PRF_AXGEN_CGEN n) g

/-- R204: the context registers of local axis `a` follow its committed entry. -/
def State.showContext (a : Nat) (s : State) : State :=
  if s.axKind a ≠ 1 then s.wrs [(ENG_CTX a, 0), (ENG_TCTX a, 0), (ENG_BPER a, 0), (ENG_BAND a, 0)]
  else
    let s := s.puts [(ENG_CTX_SCALE a, s.axU a 0x209 1), (ENG_CTX_DIVPOS a, s.axDivPos a), (ENG_CTX_DIVVEL a, s.axDivVel a),
      (ENG_CTX_DIVCUR a, if s.axCMode a = 2 then 0 else s.axDivCur a), (ENG_CTX_MODE a, s.axCMode a), (ENG_CTX_WPH a, s.axWph a),
      (ENG_BAND_HYST a, s.axHyst a), (ENG_BAND_MINDW a, s.axMinDw a)]
    s.wrs [(ENG_TCTX a, s.axTctx a), (ENG_BPER a, if s.axCMode a = 2 then s.axBper a else 0)]

/-- R293, R100, R288: the compares of a set of axis `a` rescaled from its period to the staged one, and clamped again; the dwell of the set
is in force. -/
def State.rescaleSet (a : Nat) (p : PwmSet) (s : State) : PwmSet × State :=
  let new := (s.pax a).stagePer
  let one := fun h : Nat => clampCompare (if h = 0xFFFFFFFF then h else h * new / max 1 p.per) new (s.get (LSH_MPW_EFF a)) (s.get (LSH_DUTY_EFF a))
  ({ p with per := new, cmp := p.cmp.map fun e => (e.1, dwellStep new p.dwell (one e.2).1) }, p.cmp.foldl (fun s e => s.clampFlags a (one e.2).2) s)

/-- R293: the PWM period of axis `a` becomes that of its entry at this boundary: the last committed set, applied or still to
be applied, is rescaled. -/
def State.newPeriod (a : Nat) (s : State) : State :=
  let s := s.onPax a fun x => { x with stagePer := s.pwmPeriod a * 4 }
  match (s.pax a).committed, (s.pax a).applied with
  | some p, _ =>
    let r := s.rescaleSet a p
    r.2.onPax a fun x => { x with committed := some r.1 }
  | none, some p =>
    let r := s.rescaleSet a p
    if (s.pax a).started = s.clk.elapsed then
      let s := r.2.onPax a fun x => { x with applied := some r.1 }
      (r.1.cmp.foldl (fun s e => s.wr (PWM_CMP (3 * a + e.1)) e.2) s).wr (PWM_PER a) r.1.per
    else r.2.onPax a fun x => { x with committed := some r.1 }
  | none, none => s

/-- R187, R179, R293: the entry of local axis `a`, which was `old`, brings another PWM period or write phase: BPER and WPH of a Band axis wait
for the first Band boundary, which may be now; a carrier period starts at once (log 90). -/
def State.newTiming (a : Nat) (old : List Byte) (s : State) : State :=
  let was := (leAt old 0x20C 4, ent old 0x208)
  if ent old 0x010 = 1 ∧ ent old 0x200 = 2 ∧ s.axCMode a = 2 ∧ was ≠ (s.axBper a, s.axWph a) then
    s.onPax a fun x => { x with bandWas := some (x.bandWas.getD was) }
  else if (s.pax a).stagePer != s.pwmPeriod a * 4 then s.newPeriod a
  else s

/-- R113, R114, R117, R118: every cache of entry `n` switches from the bytes `old` to the committed ones. `changeover` presets the
inertia estimate whatever changed (R248). -/
def State.switchCaches (n : Nat) (old : List Byte) (changeover : Bool) (s : State) : State :=
  let new := s.committed n
  if n < 32 then
    let s := if s.get (PRF_AXGEN_CGEN n) = 1 then s.onAxis n fun x => { x with stale := true } else s
    let s := (((((s.revalidate n).tagDarner n).showDelays n).showContext n).loadParam n).showDarner n
    if s.axKind n ≠ 1 then s
    else
      let s := s.newTiming n old
      let s := if changeover || differ old new 0x340 0x350 then s.presetInertia n else s
      if s.axState n = 0 then s
      else
        let s := (s.setPreset n).handOverCommit n
        if differ old new 0x200 0x380 || changeover then s.sheepPending n else s
  else if differ old new 0x080 0x100 || differ old new 0x200 0x380 then
    (s.onAxis n fun x => { x with acked := false, blockDue := true }).showMexp (s.axMember n)
  else s

/-- R116: a pending commit takes effect; an enable that was held for it is then judged (R120). -/
def State.commitEffect (c : Commit) (s : State) : State :=
  let n := c.entry
  let old := s.committed n
  let s := (s.putEntry n c.newGen c.snapshot).switchCaches n old false
  let s := s.onLim fun l => { l with commits := l.commits.filter fun d => d.entry != n }
  let s := (s.mark (PRF_AXST_PENDCMT n) false).put PRF_TCST_PEND s.lim.commits.length
  if (s.axis n).enHeld then (s.onAxis n fun x => { x with enHeld := false }).requestEnable n else s

/-- R116: the commits that satisfy `p` and are due take effect. -/
def State.commitsNow (p : Nat → Bool) (s : State) : State :=
  (s.lim.commits.filter fun c => p c.entry && s.commitDue c).foldl (fun s c => s.commitEffect c) s

/-! ### The commands -/

/-- LEASH_EFFECTIVE_WRITE (R95): `addr` is the register (the low word of a 64-bit one), `value` what is written. -/
def execLeashEffectiveWrite (dt : Nat) (who : Accessor) (addr : BitVec 32) (value : BitVec 64) (s : State) :
    Host.Outcome State Fault Refusal :=
  .next ((s.elapse dt).leashWrite who addr.toNat value.toNat)

/-- LOWERING_TAKES_EFFECT (R96). -/
def execLoweringTakesEffect (dt : Nat) (addr : BitVec 32) (s : State) : Host.Outcome State Fault Refusal :=
  .next ((s.elapse dt).lowerNow addr.toNat)

/-- TABLE_COMMIT_REQUEST (R115). -/
def execTableCommitRequest (dt : Nat) (n : Fin 256) (expgen : BitVec 16) (s : State) : Host.Outcome State Fault Refusal :=
  .next ((s.elapse dt).commitRequest n expgen.toNat)

/-- TABLE_COMMIT_EFFECT (R116). -/
def execTableCommitEffect (dt : Nat) (n : Fin 256) (s : State) : Host.Outcome State Fault Refusal :=
  .next ((s.elapse dt).commitsNow fun m => m == n.val)

end Sys2Proof.Machine
end

