-- ==== Sys2Proof/Machine/Sense.lean ====
section
/-! DEFINITION. The current-sense front end (R255 to R261): the sinc3 filters, the strobes, and the faults of the streams. A
command carries the bits of a stream as they stand, newest first. -/

namespace Sys2Proof.Machine

/-- R257: the weight of the bit `k` edges back in a sinc3 filter of ratio `n`: three boxcars of length `n`. -/
def sincWeight (n k : Nat) : Nat :=
  let c := fun m : Nat => m * (m - 1) / 2
  c (k + 2) + 3 * c (k + 2 - 2 * n) - 3 * c (k + 2 - n)

/-- R257: the filter output times n³: bits 1 count +1, bits 0 count −1. -/
def sincSum (n : Nat) (l : List Bool) : Int :=
  (List.range (3 * (n - 1) + 1)).foldl
    (fun acc k => if l.getD k false then acc + (sincWeight n k : Int) else acc - (sincWeight n k : Int)) 0

/-- R257: i = GAIN × (x − OFS) in Q1.15, exact and truncated towards minus infinity, saturated; and whether it saturated. -/
def scaleCurrent (gain : Nat) (ofs : Int) (n : Nat) (sum : Int) : Int × Bool :=
  let d : Int := ((n ^ 3 : Nat) : Int)
  let v := (gain : Int) * (sum * 32768 - ofs * d) / (16384 * max 1 d)
  (satSigned 16 v, decide (satSigned 16 v ≠ v))

/-- R257: the current of phase `h` of local axis `a` over the stream `l` with the ratio at entry offset `off`. -/
def State.phaseCurrent (s : State) (a h off : Nat) (l : List Bool) : Int × Bool :=
  let n := s.axU a off 2
  scaleCurrent (s.axU a (0x0BC + 2 * h) 2) (s.axS a (0x0C2 + 2 * h) 2) n (sincSum n l)

/-- R256: is the third current of axis `a` computed, and which phase is it? -/
def State.computedPhase (s : State) (a : Nat) : Option Nat :=
  if s.axU a 0x021 1 = 0 ∧ (s.fitted a).length = 2 then (List.range 3).find? fun h => !((s.fitted a).contains h) else none

/-- R256, R257: the currents of the three phases by the filter at `off`, with the phases that saturated. -/
def State.currents (s : State) (a off : Nat) (bits : List (List Bool)) : List (Int × Bool) :=
  let fit : List (Int × Bool) := (List.range 3).map fun h =>
    if (s.fitted a).contains h then s.phaseCurrent a h off (bits.getD h []) else (0, false)
  match s.computedPhase a with
  | none => fit
  | some m =>
    let v := -((fit.map fun x : Int × Bool => x.1).sum)
    fit.set m (satSigned 16 v, decide (satSigned 16 v ≠ v))

/-- R257, R261: show the values of the channels of axis `a`: `fast` chooses the field. -/
def State.showCurrents (a : Nat) (fast : Bool) (v : List (Int × Bool)) (s : State) : State :=
  (List.range 3).foldl (fun s h =>
    let c := 3 * a + h
    let x := v.getD h (0, false)
    let s := if fast then s.putS (CSF_VAL_FAST c) x.1 else s.putS (CSF_VAL_PREC c) x.1
    let s := s.onCsf fun f => { f with told := tabSet f.told c s.clk.elapsed }
    if x.2 then s.latch (CSF_CST_SAT c) else s) s

/-- R257: the stream `l` of phase `h` of axis `a` is evaluated by both filters: the values and a saturation show. -/
def State.tellStream (a h : Nat) (l : List Bool) (s : State) : State :=
  let c := 3 * a + h
  let f := s.phaseCurrent a h 0x0B2 l
  let p := s.phaseCurrent a h 0x0B4 l
  let s := ((s.putS (CSF_VAL_FAST c) f.1).putS (CSF_VAL_PREC c) p.1).onCsf fun x => { x with told := tabSet x.told c s.clk.elapsed }
  if f.2 || p.2 then s.latch (CSF_CST_SAT c) else s

/-- R258: a strobe of the precise currents of axis `a` into ISU, ISV and ISW, with the sum check of R260 and the hand-over
values that an enable awaits (R193). -/
def State.strobe (a : Nat) (bits : List (List Bool)) (s : State) : State :=
  let v : List (Int × Bool) := s.currents a 0x0B4 bits
  let s := (s.showCurrents a false v).showCurrents a true (s.currents a 0x0B2 bits)
  let w := fun h => BitVec.ofInt 16 (v.getD h (0, false)).1
  let s := s.onCx a fun c => { c with isu := w 0, isv := w 1, isw := w 2 }
  let th := s.axU a 0x0BA 2
  let high := th != 0 && (s.fitted a).length == 3 && decide (th < ((v.map fun x : Int × Bool => x.1).sum).natAbs)
  let run := if high && s.enabled a then tabGet 0 s.csf.sumRun a + 1 else 0
  let s := s.onCsf fun c => { c with sumRun := tabSet c.sumRun a run }
  if (s.axis a).preset && s.flag (PWM_AXST_EN a) then (s.handOverEnable a).stepFive a else s

/-- R258: does a precise strobe of local axis `a` fall now? At current boundaries, or at velocity boundaries of a Band axis. -/
def State.strobeDue (s : State) (a : Nat) : Bool :=
  s.isLocal a && s.atBoundary (if s.axCMode a = 2 then s.velPeriod a else s.curPeriod a)

/-- R259: did the fast current of phase `h` exceed OCTH at OCCNT consecutive edges, all after the enable? -/
def State.overCurrent (s : State) (a h : Nat) (l : List Bool) : Bool :=
  let cnt := s.axU a 0x0B6 1
  s.enabled a && (s.fitted a).contains h && s.atBoundary (s.get (CSF_SDC_TSD (s.axSdClk a)))
    && decide ((s.axis a).enAt + cnt * s.get (CSF_SDC_TSD (s.axSdClk a)) ≤ s.clk.elapsed)
    && (List.range cnt).all fun k => decide (s.axU a 0x0B8 2 < (s.phaseCurrent a h 0x0B2 (l.drop k)).1.natAbs)

/-- R276: code `c` of a current-sense failure of axis `a`, shown in the port of the axis when it has one. -/
def State.senseFault (a code : Nat) (s : State) : State :=
  if s.axFbPort a = 0xFF then
    s.feedbackFault a code 0x11
  else s.portFault (s.axFbPort a) code 0x11

/-- R260: the latest 64 bits of a stream do not change. -/
def streamStuck (l : List Bool) : Bool := decide (64 ≤ l.length) && ((l.take 64).all id || (l.take 64).all fun b => !b)

/-- R303: the auxiliary channels that run with SDD channel `c` as their source. -/
def State.auxOf (s : State) (c : Nat) : List Nat :=
  below 8 fun k => s.flag (PWM_AUXCFG_EN k) && s.get (PWM_AUXCFG_SRC k) == c && s.flag (PWM_AUXST_RUN k)

/-- R260, R126: is SDD channel `c` watched: fitted to an axis that is enabled or in FAULT, with 64 edges since the enable? -/
def State.watched (s : State) (c : Nat) : Bool :=
  let a := c / 3
  (s.enabled a || s.axState a == 6) && (s.fitted a).contains (c % 3)
    && decide ((s.axis a).enAt + 64 * s.get (CSF_SDC_TSD (s.axSdClk a)) ≤ s.clk.elapsed)

/-- R260, R306: the stream of SDD channel `c` as it stands: stuck, or running again. A faulted axis goes on being watched (R126). -/
def State.streamCheck (c : Nat) (l : List Bool) (s : State) : State :=
  let a := c / 3
  let s := if s.isLocal a && (s.fitted a).contains (c % 3) then s.tellStream a (c % 3) l else s
  if streamStuck l then
    let aux := (s.auxOf c).filter fun k => decide (s.pwm.auxAt + 64 * s.get (CSF_SDC_TSD (s.get (PWM_AUXCFG_SDC k))) ≤ s.clk.elapsed)
    let s := (aux.filter fun k => !(s.pwm.auxStuck.contains k)).foldl (fun s k =>
      (((s.onPwm fun w => { w with auxStuck := k :: w.auxStuck }).mark (PWM_AUXST_STUCK k) true).severe 0x10 0x0D (PWM_AUXST k))) s
    if s.watched c && !(s.csf.stuck.contains c) then
      let s := s.onCsf fun x => { x with stuck := c :: x.stuck }
      if s.enabled a then (s.latch (CSF_CST_STUCK c)).senseFault a 0xD else s
    else s
  else s.onCsf fun x => { x with stuck := x.stuck.filter (· != c) }

/-- R352: the modulator clock period of SDD channel `i`, when it is fitted or the source of a chopper. -/
def State.sddPeriod (s : State) (i : Nat) : Option Nat :=
  if 96 ≤ i then none
  else if s.isLocal (i / 3) && bit (s.axSdMask (i / 3)) (i % 3) then some (s.get (CSF_SDC_TSD (s.axSdClk (i / 3))))
  else match s.auxOf i with
    | k :: _ => some (s.get (CSF_SDC_TSD (s.get (PWM_AUXCFG_SDC k))))
    | [] => none

/-- FAST_OVERCURRENT (R259): `l` is the stream of phase `h`; the gates go low at an open instant within 40 ns (log 2). -/
def execFastOvercurrent (dt : Nat) (a : Fin 32) (h : Fin 3) (l : List Bool) (s : State) : Host.Outcome State Fault Refusal :=
  let s := s.elapse dt
  .next (if s.overCurrent a h l then
      let d := s.free 161
      let s := (s.drew 1).tellStream a h l
      ((s.gatesOff a d).latch (CSF_CST_OC (3 * a + h))).hardFault a 0x05 0 0x11 4
    else s)

/-- R255, R303: does an edge of the modulator clock of SDD channel `c` fall now? -/
def State.sddEdge (s : State) (c : Nat) : Bool :=
  match s.sddPeriod c with
  | some t => s.atBoundary t
  | none => false

/-- STUCK_CHANNEL (R257, R260): the stream `l` of channel `c` at an edge of its clock. -/
def execStuckChannel (dt : Nat) (c : Fin 96) (l : List Bool) (s : State) : Host.Outcome State Fault Refusal :=
  let s := s.elapse dt
  .next (if s.sddEdge c then s.streamCheck c l else s)

/-- SUM_CHECK_FAIL (R260): the sum has been over SUMTH at 16 consecutive strobes. -/
def execSumCheckFail (dt : Nat) (a : Fin 32) (s : State) : Host.Outcome State Fault Refusal :=
  let s := s.elapse dt
  .next (if s.enabled a && tabGet 0 s.csf.sumRun a == 16 then
      let s := s.onCsf fun c => { c with sumRun := tabSet c.sumRun a 17 }
      ((List.range 3).foldl (fun s h => s.latch (CSF_CST_SUM (3 * a + h))) s).senseFault a 0xE
    else s)

end Sys2Proof.Machine
end

