-- ==== Sys2Proof/Machine/Encoders.lean ====
section
/-! DEFINITION. The commands of feedback ports (R262 to R276): quadrature edges, readings of absolute encoders, acyclic
exchanges, open pairs and master encoders. -/

namespace Sys2Proof.Machine

/-- R265: the direction of a quadrature step to levels `a1 b1` from A at `a0`, one of which changed: A leads B upwards (log 29). -/
def quadUp (a0 a1 b1 : Bool) : Bool := if a0 != a1 then a1 != b1 else a1 == b1

/-- R265: has port `p` counted an edge less than (QFLT + 2) × 4 ns, or less than 25 ns, ago? -/
def State.quadBusy (s : State) (p : Nat) : Bool :=
  match (s.prt p).edges with
  | (t, _) :: _ => decide (s.clk.elapsed < t + max 25 ((s.portU p 0x085 1 + 2) * 4))
  | [] => false

/-- R265: the accepted levels of A and B of quadrature port `p` become `a` and `b`. A change sooner than the port can count is not accepted
then (DESIGN CHOICE, log 95). -/
def State.quadEdge (p : Nat) (a b : Bool) (s : State) : State :=
  let o := s.prt p
  let swap := bit (s.portU p 0x084 1) 2
  let a' := if swap then b else a
  let b' := if swap then a else b
  if s.fbMode p ≠ 0 ∨ (o.a == a' && o.b == b') then s
  else if !(s.portUsed p) then s.onPort p fun q => { q with a := a', b := b' }
  else if s.quadBusy p then s
  else if o.a != a' && o.b != b' then (s.onPort p fun q => { q with a := a', b := b' }).portFault p 0x9 0x12
  else
    let up := quadUp o.a a' b'
    let x := if up then o.x + 1 else o.x - 1
    let s := s.onPort p fun q =>
      { q with a := a', b := b', x := signed 48 (unsigned 48 x), index := q.index.map (· + 1),
               edges := (s.clk.elapsed, up) :: recent s.clk.elapsed Prod.fst q.edges }
    s.wr64S (FBK_PRAW p) (s.prt p).x

/-- R262, R265: the accepted level of Z of port `p` becomes `z`; with the receiver on, a rising edge checks the index distance. -/
def State.indexEdge (p : Nat) (z : Bool) (s : State) : State :=
  let o := s.prt p
  let rising := z && !o.z && s.portUsed p && s.fbMode p == 0 && bit (s.portU p 0x084 1) 0
  let s := s.onPort p fun q => { q with z := z, index := if rising then some 0 else q.index }
  let lines := 4 * s.portU p 0x088 4
  let tol := s.portU p 0x08C 2
  match rising && bit (s.portU p 0x084 1) 1, o.index with
  | true, some k => if k + tol < lines ∨ lines + tol < k then s.portFault p 0xA 0x12 else s
  | _, _ => s

/-- R266, R267, R270: a reading of port `p` in mode `mode`: the reading at step 3 of an enable (R121), or a cyclic one. -/
def State.portReading (p mode : Nat) (temp : Bool) (f ident : Frame) (rtd : Nat) (s : State) : State :=
  if s.fbMode p ≠ mode ∨ (mode = 2 ∧ bit (s.portU p 0x084 1) 0 ≠ temp) then s
  else
    match s.portOwner p with
    | some a => if s.awaitsRead a then s.enableRead a ident rtd f else s.readPort p f temp true
    | none => if s.isMaster p && decide (7 ≤ s.get CFG_STATE_STATE) then s.readPort p f temp true else s

/-- R273: the acyclic exchange of port `p` with command `code` takes place: its response has `n` bytes of data. A failure sets ERR;
CODE shows the command (log 30). -/
def State.acyclic (p code n : Nat) (rsp : Frame) (s : State) : State :=
  match (s.prt p).areq with
  | none => s
  | some (c, addr, data) =>
    if c ≠ code then s
    else
      let s := (s.onPort p fun q => { q with areq := none }).sendAfven p code addr data
      let s := (s.mark (FBK_ARSP_DONE p) true).put (FBK_ARSP_CODE p) code
      match afvenDecode code n rsp with
      | .inl (st, d) =>
        let s := ((s.encWarn p st).mark (FBK_ARSP_ERR p) false).put (FBK_ARSP_STATUS p) st
        let s := if code = 6 then s.wr (FBK_AID p) (leAt d 1 4) else s
        s.put (FBK_ARSP_DATA p) (leAt d 0 2)
      | .inr e =>
        let s := if e = 5 then s.put (FBK_ARSP_STATUS p) (leAt rsp.bytes 0 1) else s
        s.mark (FBK_ARSP_ERR p) true

/-- R276, R262: the used receivers of port `p` by mode, bit 0 pair A to bit 2 pair Z: an SSI port receives on B. -/
def State.usedPairs (s : State) (p : Nat) : Nat :=
  match s.fbMode p with
  | 0 => if bit (s.portU p 0x084 1) 0 then 7 else 3
  | 1 => 2
  | _ => 1

/-- R276: pair `i` of port `p` has been below 50 mV for 1 µs, or no longer is. -/
def State.pairOpen (p i : Nat) (gone : Bool) (s : State) : State :=
  let used := bit (s.usedPairs p) i
  let s := s.onPort p fun q => { q with broken := setBit q.broken i (gone && used) }
  if gone && used && s.portUsed p then s.portFault p 0xB 0x12 else s

/-- QUADRATURE_EDGE (R265): the levels of A and B after an accepted change. -/
def execQuadratureEdge (dt : Nat) (p : Fin 34) (a b : Bool) (s : State) : Host.Outcome State Fault Refusal :=
  .next ((s.elapse dt).quadEdge p a b)

/-- INDEX_EDGE (R265): the level of Z after an accepted change. -/
def execIndexEdge (dt : Nat) (p : Fin 34) (z : Bool) (s : State) : Host.Outcome State Fault Refusal :=
  .next ((s.elapse dt).indexEdge p z)

/-- SSI_FRAME (R266). -/
def execSsiFrame (dt : Nat) (p : Fin 34) (f : Frame) (s : State) : Host.Outcome State Fault Refusal :=
  .next ((s.elapse dt).portReading p 1 false f f 0)

/-- POS (R267, R270): `ident` and `rtd` are what IDENT answers when the reading is that of step 3 of an enable. -/
def execPos (dt : Nat) (p : Fin 34) (f ident : Frame) (rtd : Nat) (s : State) : Host.Outcome State Fault Refusal :=
  .next ((s.elapse dt).portReading p 2 false f ident rtd)

/-- POST (R270). -/
def execPost (dt : Nat) (p : Fin 34) (f ident : Frame) (rtd : Nat) (s : State) : Host.Outcome State Fault Refusal :=
  .next ((s.elapse dt).portReading p 2 true f ident rtd)

/-- AFVEN_READ (R273): command 0x3 (2 bytes of data), or IDENT 0x6 when that is what was asked. -/
def execAfvenRead (dt : Nat) (p : Fin 34) (rsp : Frame) (s : State) : Host.Outcome State Fault Refusal :=
  .next (((s.elapse dt).acyclic p 3 2 rsp).acyclic p 6 5 rsp)

/-- AFVEN_WRITE (R273): command 0x4. -/
def execAfvenWrite (dt : Nat) (p : Fin 34) (rsp : Frame) (s : State) : Host.Outcome State Fault Refusal :=
  .next ((s.elapse dt).acyclic p 4 0 rsp)

/-- AFVEN_CLEAR_ERR (R273): command 0x5. -/
def execAfvenClearErr (dt : Nat) (p : Fin 34) (rsp : Frame) (s : State) : Host.Outcome State Fault Refusal :=
  .next ((s.elapse dt).acyclic p 5 0 rsp)

/-- PAIR_OPEN_OR_SHORT (R276): pair `i` (0 A, 1 B, 2 Z) of port `p`. -/
def execPairOpenOrShort (dt : Nat) (p : Fin 34) (i : Fin 3) (gone : Bool) (s : State) : Host.Outcome State Fault Refusal :=
  .next ((s.elapse dt).pairOpen p i gone)

/-- MASTER_ENCODER_READ (R274): at a boundary of FBK_MPER, master port `k` gives its position to the boundary. -/
def execMasterEncoderRead (dt : Nat) (k : Fin 2) (s : State) : Host.Outcome State Fault Refusal :=
  let s := s.elapse dt
  .next (if s.isMaster (32 + k) && decide (7 ≤ s.get CFG_STATE_STATE) && s.atBoundary (s.rd FBK_MPER) then
    s.portBoundary (32 + k) (s.rd FBK_MPER) else s)

end Sys2Proof.Machine
end

