-- ==== Sys2Proof/Machine/Darner.lean ====
section
/-! DEFINITION. The Darner, the inertia estimator and the Sheepdog of a local axis (R233 to R252). -/

namespace Sys2Proof.Machine

/-- What the Darner of axis `a` holds. -/
def State.darn (s : State) (a : Nat) : Darner := tabGet {} s.drn a

/-- Change the Darner of axis `a`. -/
def State.onDarn (a : Nat) (f : Darner → Darner) (s : State) : State := s.onDrn fun t => tabMod {} t a f

/-! ### Phase and bins (R237, R238) -/

/-- R141, R142: the modulo of the master that a selector names, or 0. -/
def State.masterModulo (s : State) (sel : Nat) : Int :=
  let n := sel % 256
  match sel / 4096 with
  | 0 => if s.axType n = 0 then s.axModulo n else 0
  | 1 => if s.axType n = 0 then s.axModulo n else 0
  | 2 => s.rd64S (PRF_VMMOD n)
  | _ => s.rd64S (FBK_MMOD n)

/-- R142: is the master that a selector names lost? -/
def State.isLost (s : State) (sel : Nat) : Bool :=
  let n := sel % 256
  match sel / 4096 with
  | 2 => false
  | 3 => s.flag (FBK_PST_FAULT (32 + n))
  | _ => s.axState n == 0 || s.axState n == 6 || s.axState n == 7

/-- R237: the master's position at the present boundary, Q48.16. -/
def State.masterNow (s : State) (sel : Nat) : Int :=
  let n := sel % 256
  match sel / 4096 with
  | 0 => s.posAhead (s.rd64S (PRF_SPOS n)) (s.rd64S (PRF_SVEL n)) s.clk.elapsed
  | 1 => s.measPos n
  | 2 => s.posAhead (s.rd64S (PRF_VMPOS n)) (s.rd64S (PRF_VMVEL n)) s.clk.elapsed
  | _ => s.mencPos n

/-- The bins of the Darner of axis `a`, its span, and Tv. -/
def State.dBins (s : State) (a : Nat) : Nat := max 1 (s.axU a 0x302 2)
def State.dSpan (s : State) (a : Nat) : Int := max 1 (s.axS a 0x310 8)

/-- R241: is the speed of `sp` per velocity period below DVMIN? -/
def State.belowDvmin (s : State) (a : Nat) (sp : Int) : Bool :=
  decide (sp.natAbs * s.profilePeriod < s.axU a 0x324 4 * 256 * s.velPeriod a)

/-- R241: DCOR from the memory of axis `a` at phase `th` and speed `sp`. -/
def State.dcorAt (s : State) (a : Nat) (th sp : Int) : BitVec 16 :=
  let n : Int := (s.dBins a : Int)
  let span := s.dSpan a
  let tv : Int := max 1 (s.velPeriod a : Int)
  let den := 2 * tv * span
  let num := 2 * tv * n * th + den * (s.axU a 0x31E 1 : Int) + 2 * sp * (s.axU a 0x320 2 : Int) * 1000 * n - tv * span
  let i := num / den
  let r := num - i * den
  let m0 := tabGet 0 (s.darn a).mem (i % n).toNat
  let m1 := tabGet 0 (s.darn a).mem ((i + 1) % n).toNat
  let v := (m0 * den + r * (m1 - m0)) / (den * 65536)
  let lim : Int := (s.axU a 0x322 2 : Int)
  BitVec.ofInt 16 (clampInt (-lim) lim v)

/-- R241: the conditions under which DCOR is 0. -/
def State.darnIdle (s : State) (a : Nat) : Bool :=
  !(bit (s.axU a 0x300 1) 0) || s.axState a != 4 || s.belowDvmin a (s.darn a).speed || (s.darn a).lost

/-- R237, R241, R243, R244: the Darner of axis `a` at a velocity boundary: a CLEAR, the phase, and DCOR. -/
def State.darnBoundary (a : Nat) (s : State) : State :=
  let s := if (s.darn a).clear then (s.emptyDarner a).onDarn a fun d => { d with clear := false } else s
  let sel := s.axU a 0x304 2
  let m := s.masterNow sel
  let d := s.darn a
  let lost := s.isLost sel
  let sp := match d.theta with | some _ => shorterWay (s.masterModulo sel) (m - d.master) | none => 0
  let span := s.dSpan a
  let th := (m - s.axS a 0x308 8) % span
  let passed := match d.theta with | some t => decide (t + sp < 0) || decide (span ≤ t + sp) | none => false
  let s := s.onDarn a fun d => { d with theta := some th, master := m, speed := sp, lost := lost, passed := passed }
  s.onCx a fun c => { c with dcor := if s.darnIdle a then 0 else s.dcorAt a th sp }

/-- R239, R240: bin `b` of axis `a` closes with the mean `sum / cnt` of DERR; the result is limited and kept with 31 fraction
bits, rounded towards minus infinity (log 31). -/
def State.closeBin (a b : Nat) (sum : Int) (cnt : Nat) (s : State) : State :=
  let n := s.dBins a
  let ramp := max 1 (s.axU a 0x31C 1)
  let k := min (s.get (ENG_DST_SPAN a) + 1) ramp
  let leak := s.axU a 0x31D 1
  let f : Frac := if leak = 0 then fracOf 1 else ⟨((2 ^ leak : Nat) : Int) - 1, 2 ^ leak⟩
  let mem := (s.darn a).mem
  let at' := fun i : Nat => (tabGet 0 mem (i % n) : Int)
  let learned : Frac := ⟨(s.axU a 0x318 2 : Int) * (k : Int) * sum * 65536, 4096 * ramp * max 1 cnt⟩
  let m := fracMul f (fracAdd (fracOf (at' b)) learned)
  let q1 := s.axU a 0x31A 2
  let q0 : Frac := ⟨32768 - 2 * (q1 : Int), 32768⟩
  let side := fracMul (fracMul ⟨(q1 : Int), 32768⟩ f) (fracOf (at' (b + n - 1) + at' (b + 1)))
  let v := fracFloor 0 (fracAdd (fracMul q0 m) side)
  (s.onDarn a fun d => { d with mem := tabSet d.mem b (satSigned 32 v) }).bump (ENG_DCNT_UPD a)

/-- R238: the bins between the closing bin and the new one, in order of the motion. -/
def binsBetween (n o b : Nat) (up : Bool) : List Nat :=
  let k := if up then (b + n - o) % n else (o + n - b) % n
  (List.range (k - 1)).map fun i => if up then (o + 1 + i) % n else (o + n - 1 - i) % n

/-- R238 to R240: the sample of axis `a` reaches the memory; `ok` when it is accepted, `gap` when the master was lost since the
last one (R244). -/
def State.learn (a : Nat) (ok gap : Bool) (derr : Int) (s : State) : State :=
  let d := s.darn a
  let n := s.dBins a
  let bin := ((d.theta.getD 0) * (n : Int) / s.dSpan a).toNat % n
  let s :=
    match d.bin with
    | none => s.onDarn a fun d => { d with bin := some bin, sum := 0, cnt := 0 }
    | some o =>
      if o = bin then s
      else
        let s := if d.cnt = 0 then s else s.closeBin a o d.sum d.cnt
        let s := if ok && !gap then
            (binsBetween n o bin (decide (0 ≤ d.speed))).foldl (fun s b => (s.closeBin a b derr 1).satBump (ENG_DCNT_SKIP a) 1) s
          else s
        s.onDarn a fun d => { d with bin := some bin, sum := 0, cnt := 0 }
  if ok then
    let s := s.onDarn a fun d => { d with sum := d.sum + derr, cnt := d.cnt + 1 }
    let s := if d.passed then s.satBump (ENG_DST_SPAN a) 1 else s
    s.mark (ENG_DST_RAMP a) (decide (s.get (ENG_DST_SPAN a) + 1 < s.axU a 0x31C 1))
  else s

/-! ### The Sheepdog (R249 to R252) -/

/-- What the Sheepdog of axis `a` holds. -/
def State.shep (s : State) (a : Nat) : Sheepdog := tabGet {} s.shp a

/-- R234: a(k) of the sample of axis `a`, when SDV was written in both samples. -/
def State.accel (s : State) (a : Nat) : Option Int :=
  match (s.cx a).sdv, (s.shep a).sdv with
  | some x, some y => some (x.toInt - y.toInt)
  | _, _ => none

/-- R250: the filtered residual of the sample. -/
def State.residual (a : Nat) (s : State) : State :=
  match s.accel a with
  | none => s
  | some acc =>
    let i := (s.cx a).iWas.toInt
    let r := (i - s.getS (ENG_JEST_JOFS a)) * 2 ^ 24 - (s.get (ENG_JEST_JEST a) : Int) * acc * 4096
    let rf := (s.shep a).rf
    let rf := rf + asr (r - rf) (s.axU a 0x352 1)
    let s := s.onShp fun t => tabMod {} t a fun x => { x with rf := rf }
    (s.putS (ENG_SRES_RF a) (satSigned 16 (asr rf 24))).put (ENG_SRES_PEAK a)
      (max (s.get (ENG_SRES_PEAK a)) (min 0xFFFF (rf.natAbs / 2 ^ 24)))

/-- Is the magnitude of rf over a threshold in Q1.15? -/
def State.rfOver (s : State) (a th : Nat) : Bool := decide (th * 2 ^ 24 < (s.shep a).rf.natAbs)

/-- R251: the lowest sub-cause that a check detects in the sample, 0 for none; the run over RTH is in ENG_SST. -/
def State.sheepDetect (s : State) (a : Nat) : Nat :=
  let cfg := s.axU a 0x350 1
  let jump := bit cfg 2 && (match s.accel a with | some x => decide (s.axU a 0x358 2 < x.natAbs) | none => false)
  let avs := s.get (ENG_FLG_AVV a) &&& s.axU a 0x351 1
  if jump then 1
  else if s.axU a 0x353 1 ≤ s.get (ENG_SST_RUN a) then 2
  else if bit cfg 1 && avs != 0 then 3
  else 0

/-- R251, R252: the Sheepdog's checks of the sample: the state after them, and whether they latched a fault; in FAULT a detection latches
nothing. -/
def State.sheepCheck (a : Nat) (s : State) : Bool × State :=
  let cfg := s.axU a 0x350 1
  let avs := s.get (ENG_FLG_AVV a) &&& s.axU a 0x351 1
  match s.get (ENG_SST_STATE a) with
  | 1 => (false, if avs != 0 then s.raise (a / 4) (ENG_SST_AVW a) else s)
  | 2 =>
    let s := s.put (ENG_SST_RUN a) (if s.rfOver a (s.axU a 0x354 2) then satAdd 8 (s.get (ENG_SST_RUN a)) 1 else 0)
    let s := if !(bit cfg 1) && avs != 0 then s.raise (a / 4) (ENG_SST_AVW a) else s
    let s := if s.rfOver a (s.axU a 0x356 2) then s.raise (a / 4) (ENG_SST_WARN a) else s
    let sub := s.sheepDetect a
    if sub = 0 then (false, s)
    else if !(bit cfg 0) then (false, s.raise (a / 4) (ENG_SST_WARN a))
    else if s.axState a = 6 then (false, s.fault a 0x07 sub (a / 4))
    else (true, ((s.put (ENG_SST_SUB a) sub).put (ENG_SST_STATE a) 3).fault a 0x07 sub (a / 4))
  | _ => (false, s)

/-! ### The inertia estimator (R245 to R248) -/

/-- λ S + x, with 48 fraction bits. -/
def forget (fgt : Nat) (t x : Int) : Int := t - asr t fgt + x * 2 ^ 48

/-- R245: the sums after an accepted sample. -/
def Inertia.add (fgt : Nat) (a i : Int) (e : Inertia) : Inertia :=
  { s1 := forget fgt e.s1 1, sa := forget fgt e.sa a, si := forget fgt e.si i, saa := forget fgt e.saa (a * a),
    sai := forget fgt e.sai (a * i) }

/-- R245: the numerator and the denominator of Ĵ, and Va × S1². -/
def Inertia.raw (ofsen : Bool) (e : Inertia) : Int × Int × Int :=
  if ofsen then (e.sai * e.s1 - e.sa * e.si, e.saa * e.s1 - e.sa * e.sa, e.saa * e.s1 - e.sa * e.sa)
  else (e.sai, e.saa, e.saa * e.s1)

/-- R246, R247: the estimator takes an accepted sample of acceleration `acc`. A raw estimate whose divisor is 0 has no value in the
spec: it is free (log 2). -/
def State.estimate (a : Nat) (acc : Int) (s : State) : State :=
  let cfg := s.axU a 0x340 1
  let e := (tabGet {} s.ine a).add (s.axU a 0x341 1) acc (s.cx a).iWas.toInt
  let s := s.onIne fun t => tabSet t a e
  let r := e.raw (bit cfg 1)
  let arms : Int := (s.axU a 0x348 2 : Int)
  let low := decide (r.2.2 < arms * arms * e.s1 * e.s1)
  let s := s.mark (ENG_JST_LOW a) low
  if low then s
  else
    let free : Int := ((s.free 65536 : Nat) : Int)
    let raw := if r.2.1 = 0 then free else r.1 * 4096 / r.2.1
    let s := if r.2.1 = 0 then s.drew 1 else s
    let jmin : Int := (s.axU a 0x344 2 : Int)
    let jmax : Int := (s.axU a 0x346 2 : Int)
    let target := clampInt jmin jmax raw
    let j : Int := (s.get (ENG_JEST_JEST a) : Int)
    let step := asr j (s.axU a 0x34A 1)
    let j' := clampInt (j - step) (j + step) target
    let ofs := if bit cfg 1 && r.2.1 != 0 && e.s1 != 0 then (e.si * r.2.1 - r.1 * e.sa) / (r.2.1 * e.s1) else 0
    let s := (s.put (ENG_JEST_JEST a) j'.toNat).putS (ENG_JEST_JOFS a) (satSigned 16 ofs)
    (s.mark (ENG_JST_ATMIN a) (target == jmin)).mark (ENG_JST_ATMAX a) (target == jmax)

/-! ### The update after a velocity instance (R233, R242, R244) -/

/-- R242: the freeze conditions of the sample, laid out as ENG_DST.FRZ. -/
def State.freezes (s : State) (a : Nat) : Nat :=
  let d := s.darn a
  let dir := s.axU a 0x31F 1
  let against := (dir == 0 && decide (d.speed < 0)) || (dir == 1 && decide (0 < d.speed))
  let efrz := s.axU a 0x328 2
  let big := match (s.cx a).derr with
    | none => true
    | some v => efrz != 0 && decide (efrz ≤ v.toInt.natAbs)
  b2n big + 2 * b2n (s.cx a).clf + 4 * b2n (s.rfOver a (s.axU a 0x356 2)) + 8 * b2n (s.get (ENG_SST_STATE a) != 2)
    + 16 * b2n d.lost + 32 * b2n (s.axState a != 4) + 64 * b2n (against || s.belowDvmin a d.speed)
    + 128 * b2n (s.flag (ENG_DCTL_FREEZE a))

/-- R233: the three units read what the velocity instance of axis `a` wrote and update. -/
def State.unitsUpdate (a : Nat) (s : State) : State :=
  if !((s.cx a).due) then s
  else
    let s := s.onCx a fun c => { c with due := false }
    let acc := s.accel a
    let r := (s.residual a).sheepCheck a
    let s := r.2
    let frz := s.freezes a
    let den := bit (s.axU a 0x300 1) 0
    let s := if den then (s.put (ENG_DST_FRZ a) frz).put (ENG_DST_STATE a) (if s.darnIdle a then 1 else if frz = 0 then 2 else 3)
      else s.put (ENG_DST_STATE a) 0
    let s :=
      if r.1 then s
      else
        let gap := (s.darn a).gap
        let s := if den && !(s.darn a).lost then s.learn a (frz == 0) gap (((s.cx a).derr.getD 0).toInt) else s
        let s := s.onDarn a fun d => { d with gap := d.lost }
        match acc with
        | some x =>
          if bit (s.axU a 0x340 1) 0 && s.enabled a && s.get (ENG_SST_STATE a) == 2 && !((s.cx a).clf)
              && !(s.rfOver a (s.axU a 0x356 2)) then s.estimate a x else s
        | none => s
    s.onShp fun t => tabMod {} t a fun x => { x with sdv := (s.cx a).sdv }

/-- VELOCITY_INSTANCE_UPDATE (R233). -/
def execVelocityInstanceUpdate (dt : Nat) (a : Fin 32) (s : State) : Host.Outcome State Fault Refusal :=
  .next ((s.elapse dt).unitsUpdate a)

/-- SHEEPDOG_ARMED (R249): SETTLE has reached 0. -/
def execSheepdogArmed (dt : Nat) (a : Fin 32) (s : State) : Host.Outcome State Fault Refusal :=
  let s := s.elapse dt
  .next (if s.get (ENG_SST_STATE a) = 1 ∧ s.get (ENG_SST_SETTLE a) = 0 then
    ((s.put (ENG_SST_STATE a) 2).put (ENG_SST_RUN a) 0).mark (PRF_AXST_SDPEND a) false else s)

/-- DARNER_CLEAR (R243): a write of 1 to ENG_DCTL.CLEAR. -/
def execDarnerClear (dt : Nat) (a : Fin 32) (s : State) : Host.Outcome State Fault Refusal :=
  .next ((s.elapse dt).onDarn a fun d => { d with clear := true })

/-- DARNER_CLEAR_EFFECT (R243, R244): at the velocity boundary. -/
def execDarnerClearEffect (dt : Nat) (a : Fin 32) (s : State) : Host.Outcome State Fault Refusal :=
  let s := s.elapse dt
  .next (if (s.darn a).clear ∧ s.atBoundary (s.velPeriod a) then
    ((s.commitsNow (· == a.val)).emptyDarner a).onDarn a fun d => { d with clear := false } else s)

end Sys2Proof.Machine
end

