-- ==== Sys2Proof/Machine/Couple.lean ====
section
/-! DEFINITION. Couplings and superimposed moves in one profile period (R141 to R148, R152). Positions are in 2^-32 counts. -/

namespace Sys2Proof.Machine

/-! ### Masters (R141) -/

/-- R139, R140: the modulo of axis `n`, or of virtual master `n - 256`; 0 for none. -/
def State.motMod (s : State) (n : Nat) : Int :=
  if n < 256 then (if s.axType n = 0 then s.axModulo n * 65536 else 0) else s.rd64S (PRF_VMMOD (n - 256)) * 65536

/-- R139: a position of `n` brought into its range. -/
def State.intoRange (s : State) (n : Nat) (x : Int) : Int := if 0 < s.motMod n then x % s.motMod n else x

/-- R141: the position of the master `sel` at the end of the period being computed; a measured position is that of the profile
boundary. -/
def State.masterAt (s : State) (sel : Nat) : Int :=
  let n := sel % 256
  match sel / 4096 with
  | 0 => (s.mot n).pos
  | 1 => (s.axis n).meas * 65536
  | 2 => (s.mot (256 + n)).pos
  | _ => (s.mot (264 + n)).pos

/-- R143: the modulo of the master `sel`; 0 for none. -/
def State.masterMod (s : State) (sel : Nat) : Int :=
  let n := sel % 256
  match sel / 4096 with
  | 2 => s.motMod (256 + n)
  | 3 => (s.rd64 (FBK_MMOD n) : Int) * 65536
  | _ => s.motMod n

/-- R141: is the selector one of a source that is there? -/
def State.masterNamed (s : State) (sel : Nat) : Bool :=
  let n := sel % 256
  decide (sel < 65536) && sel / 256 % 16 == 0 &&
    (match sel / 4096 with
     | 0 => s.axKind n != 0
     | 1 => decide (n < 32) && s.axKind n == 1
     | 2 => decide (n < 8) && s.flag (PRF_VMST_EN n)
     | 3 => decide (n < 2)
     | _ => false)

/-- The axis whose set-point or measured position the selector names. -/
def selAxis (sel : Nat) : Option Nat := if sel / 4096 ≤ 1 then some (sel % 256) else none

/-- R141: does the chain of masters from `sel` end, within `k` couplings, at a source that is not a slave, without meeting `n`? -/
def State.chainOk (s : State) (n : Nat) : Nat → Nat → Bool
  | 0, _ => false
  | k + 1, sel =>
    match selAxis sel with
    | none => true
    | some m =>
      m != n && (match (s.mot m).cpl with
        | none => true
        | some c => s.chainOk n k c.master)

/-- R145: does a master that moves by `d` from `a` cross `t`: `t` beyond the start, and reached or passed at the end? -/
def crosses (a d t m : Int) : Bool :=
  let x := shorterWay m (t - a)
  if 0 < d then decide (0 < x) && decide (x ≤ d) else if d < 0 then decide (x < 0) && decide (d ≤ x) else false

/-! ### One period of a slave -/

/-- R131: the set-point of `n` moves on by the velocity `v`. -/
def State.setVel (n : Nat) (v : Int) (s : State) : State :=
  s.onMot n fun m => { m with pos := s.intoRange n (m.pos + v), acc := v - m.vel, vel := v }

/-- R388, R391: at a ring member, the axis of subaxis `k`, if it follows the master, advances by its velocity. -/
def State.mappedStep (k : Nat) (s : State) : State :=
  match s.subAxis k with
  | some n => if 2 ≤ s.axState n ∧ s.axState n ≤ 4 then s.setVel n (s.mot n).vel else s
  | none => s

/-- R388: all mapped axes advance. -/
def State.mappedMove (s : State) : State := (List.range 16).foldl (fun s k => s.mappedStep k) s

/-- Change the coupling of slave `n`. -/
def State.onCpl (n : Nat) (f : Coupling → Coupling) (s : State) : State := s.onMot n fun m => { m with cpl := m.cpl.map f }

/-- R143, R144: the coupled set-point at the master place `mu`, without wrap, and R143's remainder; `d` is the master's change since
`c.cv`, for a gear. A value that had to be rounded is rounded down, and says so. -/
def State.coupledTo (s : State) (c : Coupling) (mu d : Int) : (Int × Int) × Bool :=
  if c.isCam then
    match s.cam c.camId with
    | some t =>
      let v := t.follow (mu - c.mofs) c.span0 (s.masterMod c.master)
      ((c.sofs + v.1, 0), v.2)
    | none => ((c.cv, 0), false)
  else
    let q := c.num * d + c.rem
    ((c.cv + q / c.den, q % c.den), false)

/-- R143, R144: the same, with the rounding that is not stated (log 35). -/
def State.coupledAt (c : Coupling) (mu d : Int) (s : State) : (Int × Int) × State :=
  let r := s.coupledTo c mu d
  let v := s.rounded (r.1.1, r.2)
  ((v.1, r.1.2), v.2)

/-- R144: the master span of a cam in which the place `mu` lies: i counts from there. -/
def State.spanAt (s : State) (c : Coupling) (mu : Int) : Int :=
  match s.cam c.camId with
  | some t => (mu - c.mofs) / t.mspan
  | none => 0

/-- R148: one period of the superimposed move of slave `n`: the component's velocity. -/
def State.superStep (n : Nat) (s : State) : Int × State :=
  let x := s.mot n
  match x.sup, x.supPlan with
  | some c, some p =>
    let r := s.planStep n p x.supVel x.supAcc
    let o := r.1
    let s := r.2.onMot n fun m => { m with supPlan := some o.plan, supVel := o.v, supAcc := o.v - m.supVel }
    if o.ended then
      (o.v, ((s.onMot n fun m => { m with sup := none, supPlan := none, supVel := 0, supAcc := 0 }).mark
        (PRF_MVST_SUPER n) false).pushEvent 0x02 n 0 c.tag none)
    else (o.v, s)
  | _, _ => (0, s)

/-- One count, and one count per period. -/
def oneCount : Int := 2 ^ 32

/-- R145: slave `n` takes the coupled set-point, `e` from its own, and is locked; the state CYCLIC and its MODE follow at the
next boundary (R26). -/
def State.lock (n : Nat) (e : Int) (c : Coupling) (s : State) : State :=
  let s := (s.setVel n e).onMot n fun m =>
    { m with cpl := some { c with engage := .locked }, next := some (4, if c.isCam then 6 else 5) }
  s.pushEvent 0x06 n 0 c.tag none

/-- R147: is a limit of the entry of slave `n` exceeded by the coupled velocity `v`, after `v0` and `a0`? -/
def State.overLimits (s : State) (n : Nat) (v v0 a0 : Int) : Bool :=
  let a := v - v0
  let same := decide (0 < v * v0) && decide (v0.natAbs < v.natAbs)
  decide (s.axVMax n < |v|) || decide ((if same then s.axAMax n else s.axDMax n) < |a|) || decide (s.axJMax n < |a - a0|)

/-- R145 CATCH: may these velocities bring the slave, under R133, onto a coupled set-point `e` ahead that moves at `vc`, within 1 count
and 1 count per period? -/
def MotLim.catches (l : MotLim) (v a e vc : Int) (run : List Int) : Bool :=
  match l.through v a 0 run with
  | some (v', _, y) => run != [] && decide (|v' - vc| ≤ oneCount) && decide (|y - e - ((run.length : Int) - 1) * vc| ≤ oneCount)
  | none => false

/-- R133, R145 CATCH: the slave's next velocity: the first of the list `cand` when it catches the coupled set-point, else the fastest
approach, as a move in the moving frame of the coupled set-point (log 36). -/
def MotLim.pursue (l : MotLim) (v a e vc : Int) (cand : List Int) : Int :=
  if l.catches v a e vc cand then cand.headD v
  else
    let m : MotLim := { l with c := max 0 (l.c - |vc|), a := min l.a l.d, d := min l.a l.d }
    let r := l.range v a
    clampInt r.1 r.2 (vc + m.approach (v - vc) a (e - vc))

/-- R145 CATCH in one period: when R133 allows a velocity that leaves at most 1 count and 1 count per period, the slave locks;
otherwise it goes on to meet the coupled set-point. `e` is the distance to it, `vc` its velocity. -/
def State.catchStep (n : Nat) (e vc : Int) (c : Coupling) (s : State) : State :=
  let x := s.mot n
  let l := s.planLim n {} x.vel x.acc
  let r := l.range x.vel x.acc
  let lo := max r.1 (max (e - oneCount) (vc - oneCount))
  let hi := min r.2 (min (e + oneCount) (vc + oneCount))
  if lo ≤ hi then s.lock n e c
  else
    ((s.drew 1).setVel n (l.pursue x.vel x.acc e vc (Config.freeRun s.fresh))).onMot n fun m =>
      { m with cpl := some { c with engage := .catching }, next := some (4, 4) }

/-- R145: the velocities of the coupled set-point of slave `n` in the next `k` periods, at the master's present velocity `d`, after the
master place `mu`. -/
def State.curveAhead (s : State) (c : Coupling) (d : Int) : Nat → Int → List Int
  | 0, _ => []
  | k + 1, mu =>
    let r := (s.coupledTo c (mu + d) d).1
    (r.1 - c.cv) :: s.curveAhead { c with cv := r.1, rem := r.2 } d k (mu + d)

/-- R145: the blend that the velocities `cand` make at the master's present velocity `d`: how far the slave is from the coupled
set-point at the end of each period, with the master's way past MPOS then. `gap` is the distance at the end of this period if the slave
stood still, `begun` the master's way then, and `curve` the velocities of the coupled set-point. None when the blend does not end on
the curve with its velocity, within the residue of CATCH, or breaks R133. -/
def MotLim.blendOf (l : MotLim) (v a gap vc : Int) (begun d mlen : Int) (curve cand : List Int) : Option (List (Int × Int)) :=
  let n := ((mlen - begun + d - 1) / d).toNat
  let gaps := (cand.zip (0 :: curve)).foldl (fun (g : List Int) (w : Int × Int) => g ++ [g.getLastD gap + w.2 - w.1]) []
  let g1 := (vc :: curve).getD n 0
  let last := if n = 0 then gap else gaps.getLastD gap + g1
  if cand.length = n ∧ (l.through v a 0 (cand ++ [last])).isSome ∧ |last - g1| ≤ oneCount then
    some ((gaps.zipIdx.map fun (g : Int × Nat) => (begun + (g.2 : Int) * d, g.1)) ++ [(mlen, 0)])
  else none

/-- R145: the distance from the coupled set-point at the master's way `b` past MPOS: straight between the places of the blend. -/
def blendGap : List (Int × Int) → Int → Int
  | [], _ => 0
  | [k], _ => k.2
  | k :: m :: t, b =>
    if b ≤ k.1 then k.2
    else if b < m.1 then k.2 + (m.2 - k.2) * (b - k.1) / (m.1 - k.1)
    else blendGap (m :: t) b

/-- R145: the master of slave `n` crosses MPOS in this period, moving by `d` (0 when it stands there): lock, blend, or fall back to
CATCH where the blend would break R133 at the master's present velocity. The form of the blend is not stated: its velocities are
free (log 36). A slave at rest whose master stands at MPOS waits for it, on a straight blend. -/
def State.atCross (n : Nat) (e vc d : Int) (c : Coupling) (s : State) : State :=
  let x := s.mot n
  let l := s.planLim n {} x.vel x.acc
  let s := s.onMot n fun m => { m with plan := none }
  let begun := |c.mu - c.mu0|
  if c.mlen = 0 then
    if |e - x.vel| ≤ oneCount ∧ |vc - x.vel| ≤ oneCount then s.lock n e c
    else ((s.latch (PRF_MVST_ENGFB n)).pushEvent 0x08 n 0 c.tag none).catchStep n e vc c
  else
    let k := ((c.mlen - begun + |d| - 1) / |d|).toNat
    let blend :=
      if d = 0 then (if x.vel = 0 ∧ x.acc = 0 then some [(begun, e), (c.mlen, 0)] else none)
      else l.blendOf x.vel x.acc e vc begun |d| c.mlen (s.curveAhead c d (k + 1) c.mu) (Config.freeRun s.fresh)
    let s := s.drew 1
    match blend with
    | none => ((s.latch (PRF_MVST_ENGFB n)).pushEvent 0x08 n 0 c.tag none).catchStep n e vc c
    | some b =>
      if c.mlen ≤ begun then s.lock n e c
      else
        let g := blendGap b begun
        (s.setVel n (e - g)).onMot n fun m => { m with cpl := some { c with engage := .blending, blend := b, gap := g }, next := some (4, 4) }

/-- R152: CAM_END is pushed when the master leaves the span of a cam that is not periodic. -/
def State.camEnd (n : Nat) (s : State) : State :=
  match (s.mot n).cpl with
  | none => s
  | some c =>
    match s.cam c.camId with
    | some t =>
      if c.isCam && !t.periodic then
        let i := t.inside (c.mu - c.mofs) (s.masterMod c.master)
        let s := if c.inSpan && !i && c.engage == .locked then s.pushEvent 0x0A n 0 c.tag none else s
        s.onCpl n fun c => { c with inSpan := i }
      else s
    | none => s

/-- R143 to R148: one period of slave `n` once it engages: its coupling `c`, as the master's place `mu` and change `d` in the
period stand; `crossed` in the period in which the master crosses MPOS. Until the lock, i of a cam counts from the span in which it
will lock (R144): where the blend ends, or for CATCH where the master is. -/
def State.slaveStep (n : Nat) (c : Coupling) (d : Int) (crossed : Bool) (s : State) : State :=
  let x := s.mot n
  let sp := s.superStep n
  let s := sp.2
  let begun := c.mu - c.mu0
  let c := if crossed then { c with cv := x.pos, rem := 0, span0 := s.spanAt c (c.mu0 + (if d < 0 then -c.mlen else c.mlen)) }
    else if c.engage = Engage.catching then { c with span0 := s.spanAt c c.mu } else c
  let r := s.coupledAt c c.mu (if crossed then begun else d)
  let s := r.2
  let before := if c.isCam ∧ c.engage ≠ Engage.locked then (s.coupledTo c (c.mu - d) 0).1.1
    else if crossed then (s.coupledTo c (c.mu - d) (begun - d)).1.1 else c.cv
  let vc := r.1.1 - before + sp.1
  let e := shorterWay (s.motMod n) (r.1.1 + sp.1 - x.pos)
  let c := { c with cv := r.1.1, rem := r.1.2 }
  let s :=
    if crossed then s.atCross n e vc d c
    else match c.engage with
      | Engage.waiting => s
      | .catching => s.catchStep n e vc c
      | .blending =>
        if c.mlen ≤ |begun| then s.lock n (vc + c.gap) { c with gap := 0, blend := [] }
        else
          let g := blendGap c.blend |begun|
          (s.setVel n (vc + c.gap - g)).onCpl n fun _ => { c with gap := g }
      | .locked =>
        let beyond := s.overLimits n (r.1.1 - before) (x.vel - x.supVel) (x.acc - x.supAcc)
        let s := (s.setVel n (vc - c.ahead)).onCpl n fun _ => { c with ahead := 0 }
        if !beyond then s
        else if s.flag (PRF_MVST_LIMX n) then s.latch (PRF_MVST_LIMX n)
        else (s.latch (PRF_MVST_LIMX n)).pushEvent 0x09 n 0 c.tag none
  s.camEnd n

/-- R145: the superimposed part that the slave holds is not in its coupled set-point: a CATCH starts from the slave's own place, and
so does a gear (log 36). The coupling as the command gives it, at the master's present place. -/
def State.beginCoupling (n : Nat) (c : Coupling) (s : State) : State :=
  let m := s.masterAt c.master
  let c := { c with
    mLast := m, mu := m, mu0 := m, atOnce := decide (c.engage = Engage.waiting) && m == c.mpos, cv := (s.mot n).pos
    inSpan := match s.cam c.camId with | some t => t.inside (m - c.mofs) (s.masterMod c.master) | none => true }
  let c := { c with span0 := s.spanAt c m }
  let r := if c.isCam then s.coupledAt c m 0 else ((c.cv, 0), s)
  r.2.onMot n fun x => { x with cpl := some { c with cv := r.1.1 } }

end Sys2Proof.Machine
end

