-- ==== Sys2Proof/Machine/Pwm.lean ====
section
/-! DEFINITION. The PWM generators: transfers into staging, commits at the write phase, period boundaries, trips, gate enables,
clock loss, debug halts and the brake choppers (R188 to R203, R283 to R307). -/

namespace Sys2Proof.Machine

/-! ### Staging and commit -/

/-- The quarter nanoseconds since the present period of axis `a` began. -/
def State.inPeriod (s : State) (a : Nat) : Nat := s.quarter - (s.pax a).started * 4

/-- R188: the write phase tw of axis `a`, in 250 ps after the period boundary. -/
def State.writePhase (s : State) (a : Nat) : Nat :=
  (if s.axCMode a = 2 then (s.bandInForce a).2 else s.axWph a) * (s.pwmPeriod a * 4) / 256

/-- R189: the half-bridges of axis `a` whose compares are staged. -/
def State.stagedAll (s : State) (a : Nat) : Bool := (s.bridges a).all fun h => bit (s.get (PWM_STG_CMPV a)) h

/-- R203, R291: a late write of axis `a` is discarded and counted. -/
def State.lateWrite (a : Nat) (s : State) : State := (s.satBump (ENG_WD_DISC a) 1).satBump (ENG_STAT_DISC (a / 4)) 1

/-- R21, R24, R291: transfer `t` completes in the PWM group: it is staged when it is meant for the period in progress and its
write phase, in 2 ns ticks, has not come. -/
def State.stageWrite (t : Transfer) (s : State) : State :=
  let a := t.axis
  if !(s.flag (PWM_AXST_EN a)) || t.per % 256 != s.get (PWM_AXST_PERNUM a) || decide (s.writePhase a / 8 ≤ s.inPeriod a / 8) then
    s.lateWrite a
  else
    let s := if s.get (PWM_STG_SPER a) = t.per % 256 then s else s.wr (PWM_STG a) 0
    let s := s.put (PWM_STG_SPER a) t.per
    match t.ch with
    | some h =>
      let s := (s.onPax a fun x => { x with stage := tabSet x.stage h t.value }).wr (PWM_SCMP (3 * a + h)) t.value
      s.put (PWM_STG_CMPV a) (setBit (s.get (PWM_STG_CMPV a)) h true)
    | none => s.mark (PWM_STG_COMMIT a) true

/-- R292, R288, R97: the set that a commit of axis `a` makes, and the flags of the Leash that it raises. -/
def State.commitSet (a : Nat) (s : State) : State :=
  let dt := max (s.get (PWM_AX_DT a)) (s.get (LSH_DTF_EFF a))
  let dw := max (s.get (PWM_AXD_DWELL a)) (s.get (LSH_MPW_EFF a))
  let p := (s.pax a).stagePer
  let s := if s.get (PWM_AX_DT a) < s.get (LSH_DTF_EFF a) then s.clampFlag a 1 else s
  let s := if s.get (PWM_AXD_DWELL a) < s.get (LSH_MPW_EFF a) then s.clampFlag a 2 else s
  let s := s.onPax a fun x =>
    { x with committed := some { cmp := x.stage.map fun e => (e.1, dwellStep p dw e.2), per := p, dt := dt, dwell := dw }, stage := [] }
  (s.mark (PWM_STG_COMMIT a) false).put (PWM_STG_CMPV a) 0

/-- R189, R202: the write phase of axis `a`: the complete set is committed, or the watchdog acts. -/
def State.writePhaseNow (a : Nat) (s : State) : State :=
  if !(s.flag (PWM_AXST_EN a)) || (s.pax a).judged || s.get (ENG_CST_RUN a) != 1 || decide (s.inPeriod a < s.writePhase a) then s
  else
    let s := s.onPax a fun x => { x with judged := true }
    if s.stagedAll a && s.flag (PWM_STG_COMMIT a) && s.get (PWM_STG_SPER a) == s.get (PWM_AXST_PERNUM a) then s.commitSet a
    else
      let s := (s.onPax a fun x => { x with stage := [] }).wr (PWM_STG a) 0
      let s := ((s.latch (ENG_CST_WDOG a)).satBump (ENG_WD_WDCNT a) 1).put (ENG_CST_RUN a) 2
      (s.onAxis a fun x => { x with wdogIn := some 2 }).faultWith a 0x02 0 (8 + a / 4) 5 true

/-! ### Period boundaries -/

/-- R198: the code that half-bridge `h` of a Band axis takes: a change waits until the dwell in force has passed. -/
def State.heldCode (s : State) (a h : Nat) (old new : PwmSet) : Nat :=
  let c := tabGet 0 new.cmp h
  let o := tabGet 0 old.cmp h
  if s.axCMode a = 2 ∧ new.per < new.dwell ∧ c ≠ o ∧ s.quarter < tabGet 0 (s.pax a).since h + new.dwell then o else c

/-- R292, R198: the committed set of axis `a` is applied from now; the Band states follow the codes that were applied. -/
def State.applySet (a : Nat) (s : State) : State :=
  let x := s.pax a
  match x.committed with
  | none => s
  | some set =>
    let old := x.applied.getD {}
    let codes := (s.bridges a).map fun h => (h, s.heldCode a h old set)
    let set' := { set with cmp := codes }
    let since := codes.foldl (fun t e => if x.applied.isSome && e.2 == tabGet 0 old.cmp e.1 then t else tabSet t e.1 s.quarter) x.since
    let s := s.onPax a fun x => { x with applied := some set', committed := none, since := since }
    let s := codes.foldl (fun s e =>
      let s := s.wr (PWM_CMP (3 * a + e.1)) e.2
      if s.axCMode a = 2 && e.2 != tabGet 0 set.cmp e.1 then s.put (bandSt a e.1) (if e.2 = 0 then 1 else 2) else s) s
    (s.wr (PWM_PER a) set.per).wr (PWM_TIM a) (set.dt % 65536 * 65536 + set.dwell % 65536)

/-- R298, R197: the period of axis `a` that ends now was cut or was not; the high-side pulses that were cut are reported to the
Band unit. -/
def State.countCut (a : Nat) (s : State) : State :=
  if (s.pax a).cut then
    let s := (s.satBump (PWM_AXST_RUN a) 1).bump (PWM_TCNT_CUTS a)
    if s.axCMode a = 2 then s.onCx a fun c => { c with bandCut := (s.pax a).highDue } else s
  else s.put (PWM_AXST_RUN a) 0

/-- R197: the half-bridges whose high-side pulse the set due in the new period of axis `a` calls for, applied or cut by a trip. -/
def State.setHighDue (a : Nat) (s : State) : State :=
  s.onPax a fun x =>
    { x with highDue := match x.committed.orElse fun _ => x.applied with
        | some set => (s.bridges a).filter fun h => tabGet 0 set.cmp h != 0
        | none => [] }

/-- R187: a change of BPER or WPH of axis `a` takes effect, at a Band boundary. -/
def State.takeBand (a : Nat) (s : State) : State :=
  if (s.pax a).bandWas.isNone then s
  else
    let s := s.onPax a fun x => { x with bandWas := none, bandAt := some s.clk.elapsed }
    if (s.pax a).stagePer != s.pwmPeriod a * 4 then s.newPeriod a else s

/-- R187, R292: does a boundary of the PWM period of axis `a` fall now, or the Band boundary at which its change took effect? -/
def State.pwmBoundaryDue (s : State) (a : Nat) : Bool :=
  s.atBoundary (s.pwmPeriod a) || (s.pax a).bandAt == some s.clk.elapsed

/-- R296: is TRIP_N asserted at a boundary now: low, or high for less than the last 2 ns? -/
def State.tripAtBoundary (s : State) (a : Nat) : Bool :=
  (s.pax a).tripLow || (match (s.pax a).tripRose with | some t => decide (s.clk.elapsed < t + 2) | none => false)

/-- R202: one more PWM boundary on the way to a deferred reaction 0x0. -/
def State.wdogTick (a : Nat) (s : State) : State := s.onAxis a fun x => { x with wdogIn := x.wdogIn.map (· - 1) }

/-- R292, R294 to R302: a period boundary of the PWM of axis `a`. While its gates are held low, no period starts. -/
def State.pwmBoundary (a : Nat) (s : State) : State :=
  let s := (s.wdogTick a).takeBand a
  let trip := s.tripAtBoundary a
  let s :=
    if s.flag (PWM_AXST_EN a) then
      let s := (s.countCut a).foldGates a
      s.put (PWM_AXST_PERNUM a) (s.get (PWM_AXST_PERNUM a) + 1)
    else if (s.pax a).arming then
      ((s.mark (PWM_AXST_EN a) true).put (PWM_AXST_PERNUM a) 0).onPax a fun x => { x with arming := false }
    else s
  let s := s.onPax a fun x => { x with started := s.clk.elapsed, cut := false, off := false, judged := !(s.flag (PWM_AXST_EN a)) }
  if !(s.flag (PWM_AXST_EN a)) then s
  else
    let s := (s.mark (PWM_AXST_TRIPIN a) trip).setHighDue a
    if trip then s.gatesLow a 0 else if s.gateHeld a then s.gatesOff a 0 else (s.applySet a).showSafe a

/-! ### Trips, and faults found in the PWM -/

/-- R295, R297, R298: TRIP_N of axis `a` falls; the gates turn off 4 ns later. -/
def State.tripFall (a : Nat) (s : State) : State :=
  if (s.pax a).tripLow then s
  else
    let s := s.onPax a fun x => { x with tripLow := true }
    if s.flag (PWM_AXST_EN a) then
      ((s.bump (PWM_TCNT_TRIPS a)).wr (PWM_TLAST a) s.t32).gatesLow a 16
    else s

/-- R298: RUN has reached TRIPMAX. -/
def State.tripEscalate (a : Nat) (s : State) : State :=
  if s.flag (PWM_AXST_EN a) ∧ s.get (PWM_AX_TRIPMAX a) ≤ s.get (PWM_AXST_RUN a) ∧ 0 < s.get (PWM_AXST_RUN a) then
    (s.mark (PWM_AXST_FLT a) true).hardFault a 0x04 0 (8 + a / 4) 3
  else s

/-- R299, R301, R302: what takes the gates away from axis `a` takes its deferred reaction 0x0 with it (R202). -/
def State.endDeferred (a : Nat) (s : State) : State := if s.flag (PWM_AXST_EN a) then s.torqueOff a 5 else s

/-- R301, R302: the event `cause` of island `src` faults axis `a` when it is enabled, and takes its gates away. -/
def State.loseGates (a cause src code : Nat) (s : State) : State :=
  if s.enabled a then s.hardFault a cause 0 src code else s.endDeferred a

/-- R299: the levels of GENA and GENB of group `g` at their lands; the gates of a group that loses one go low within 20 ns, at an
open instant, and its enabled axes are DISABLED at once (R122). -/
def State.gateEnables (g : Nat) (x y : Bool) (s : State) : State :=
  let s := s.onPwm fun w => { w with genA := tabSet w.genA g x, genB := tabSet w.genB g y }
  let s := ((s.mark (PWM_GST_GEN g) (x && y)).mark (SAF_GRP_GENAR g) x).mark (SAF_GRP_GENBR g) y
  let axes := (List.range 4).map (4 * g + ·)
  let s := if x && y then s
    else
      let d := s.free 81
      axes.foldl (fun s a =>
        let s := if s.flag (PWM_AXST_EN a) then s.gatesOff a d else s
        if s.enabled a then s.toDisabled a 3 else s.endDeferred a) (s.drew 1)
  axes.foldl (fun s a => s.showSafe a) s

/-- The auxiliary channels fall silent until the next start (R301, R302). -/
def State.auxSilent (s : State) : State :=
  (List.range 8).foldl (fun s k => (s.gatesOff (32 + k) 0).mark (PWM_AUXST_RUN k) false) s

/-- R301: the clock of PWM island `i` is lost. -/
def State.pwmClockLost (i : Nat) (s : State) : State :=
  if s.pwm.clkLost.contains i then s
  else
    let s := (s.onPwm fun w => { w with clkLost := i :: w.clkLost }).latch (PWM_GST_CLKLOSS i)
    let s := (s.satBump (PWM_GST_LOSSCNT i) 1).severe (8 + i) 0x03 (PWM_GST i)
    if i = 8 then s.auxSilent
    else ((List.range 4).map (4 * i + ·)).foldl (fun s a => s.loseGates a 0x03 (8 + i) 6) s

/-! ### Debug halts (R302, R494) -/

/-- R302: HALT of each PWM island, and SAFE of each local axis, as the halts in force stand. -/
def State.showHalts (s : State) : State :=
  let core := s.pwm.coreHalt != []
  let s := (List.range 9).foldl (fun s i => s.mark (PWM_GST_HALT i) (core || s.eng.halted.contains i)) s
  (List.range 32).foldl (fun s a => s.showSafe a) s

/-- R494: the debug instructions are available. -/
def State.debugOn (s : State) : Bool := s.flag SVC_DBG_EN && s.get CFG_STATE_STATE != 0xE && s.get CFG_STATE_STATE != 0xF

/-- R302: service core `t` (below 4), or engine `t - 4`, is halted: its channels go to the safe state and their enabled axes fault. -/
def State.debugHalt (t : Nat) (s : State) : State :=
  let old := s.rd SVC_DBG
  if t < 4 then
    if s.pwm.coreHalt.contains t then s
    else
      let s := (s.onPwm fun w => { w with coreHalt := t :: w.coreHalt }).put SVC_DBG_CORE (setBit (s.get SVC_DBG_CORE) t true)
      let s := s.stateChange 0x19 SVC_DBG_CORE old
      let s := (List.range 32).foldl (fun s a => s.loseGates a 0x02 (8 + a / 4) 7) s
      s.auxSilent.showHalts
  else
    let k := t - 4
    if s.eng.halted.contains k then s
    else
      let s := (s.onEng fun e => { e with halted := k :: e.halted }).put SVC_DBG_ENG (setBit (s.get SVC_DBG_ENG) k true)
      let s := s.stateChange 0x19 SVC_DBG_ENG old
      let s := ((List.range 4).map (4 * k + ·)).foldl (fun s a => s.loseGates a 0x02 (8 + k) 7) s
      s.showHalts

/-- R494: a halt ends; no output is restored. -/
def State.debugResume (t : Nat) (s : State) : State :=
  let old := s.rd SVC_DBG
  if t < 4 then
    if s.pwm.coreHalt.contains t then
      let s := (s.onPwm fun w => { w with coreHalt := w.coreHalt.filter (· != t) }).put SVC_DBG_CORE (setBit (s.get SVC_DBG_CORE) t false)
      (s.stateChange 0x19 SVC_DBG_CORE old).showHalts
    else s
  else
    let k := t - 4
    if s.eng.halted.contains k then
      let s := (s.onEng fun e => { e with halted := e.halted.filter (· != k) }).put SVC_DBG_ENG (setBit (s.get SVC_DBG_ENG) k false)
      (s.stateChange 0x19 SVC_DBG_ENG old).showHalts
    else s

/-! ### Brake-chopper channels (R303 to R306) -/

/-- R303: the source value of channel `k`: the precise sinc3 of ratio 128, normalised, in Q1.15. -/
def auxValue (l : List Bool) : Int := satSigned 16 (sincSum 128 l * 32768 / ((128 ^ 3 : Nat) : Int))

/-- R303, R306: does channel `k` run its periods: its law is active, or it has been turned off and its compare of OFF is still to be
applied; a clock loss or a core halt has not silenced it (R301, R302)? -/
def State.auxLive (s : State) (k : Nat) : Bool :=
  (s.flag (PWM_AUXST_RUN k) || s.pwm.auxStuck.contains k || s.pwm.auxOff.contains k) && s.flag (PWM_AUXCFG_EN k) && !((s.pax (32 + k)).off)

/-- R304, R306: a period boundary of channel `k`: the committed set is applied, and ON or OFF is decided. -/
def State.auxBoundary (k : Nat) (l : List Bool) (s : State) : State :=
  let n := 32 + k
  let s := s.lowerAll fun o => o == .aux k
  let s := s.foldGates n
  let s := s.onPax n fun x =>
    { x with started := s.clk.elapsed, cut := false, judged := false
             applied := match x.committed with | some c => some c | none => x.applied
             committed := none }
  let s := s.wr (PWM_AUXCMP k) (match (s.pax n).applied with | some c => tabGet 0 c.cmp 0 | none => 0)
  let v := auxValue l
  let dead := s.pwm.auxStuck.contains k || s.pwm.auxOff.contains k
  let was := s.flag (PWM_AUXST_ON k)
  let on := if dead then false else if s.getS (PWM_AUXTH_ONTH k) ≤ v then true
    else if v ≤ s.getS (PWM_AUXTH_OFFTH k) then false else was
  let s := (s.putS (PWM_AUXST_VAL k) v).mark (PWM_AUXST_ON k) on
  let s := if on && !was then s.bump (PWM_AUXCNT_ONCNT k) else s
  let s := if on then s.bump (PWM_AUXCNT_ONPER k) else s
  let p := s.rd (PWM_AUXPER k)
  let duty := s.get (PWM_AUXCFG_DUTY k)
  let h := if !on then 0 else if duty = 0x100 then 0xFFFFFFFF else duty * p / 256
  let s := if dead then s.mark (PWM_AUXST_RUN k) false else s
  s.onPax n fun x => { x with stage := [(0, h)], stagePer := p }

/-- R304: the compare of channel `k` passes the Leash and is committed at P / 2. -/
def State.auxCommit (k : Nat) (s : State) : State :=
  let n := 32 + k
  let dw := max (s.get (PWM_AUXDT_DWELL k)) (s.get (LSH_AUXMPW_EFF k))
  let dt := max (s.get (PWM_AUXDT_DT k)) (s.get (LSH_AUXDTF_EFF k))
  s.onPax n fun x =>
    let h := (clampCompare (tabGet 0 x.stage 0) x.stagePer (s.get (LSH_AUXMPW_EFF k)) (s.get (LSH_AUXDUTY_EFF k))).1
    { x with judged := true, committed := some { cmp := [(0, dwellStep x.stagePer dw h)], per := x.stagePer, dt := dt, dwell := dw } }

/-- R306: a write of `mask` to PWM_AUXOFF. -/
def State.auxTurnOff (mask : Nat) (s : State) : State :=
  (below 8 (bit mask)).foldl (fun s k => (s.onPwm fun w => { w with auxOff := k :: w.auxOff.filter (· != k) }).mark (PWM_AUXST_OFF k) true) s

/-! ### The commands -/

/-- HANDSHAKE_TRANSFER (R21, R27, R28): the transfer with tag `id` completes, as island `isl` tells. -/
def execHandshakeTransfer (dt : Nat) (id : Nat) (isl : Fin 31) (s : State) : Host.Outcome State Fault Refusal :=
  let s := s.elapse dt
  .next (match s.eng.transfers.find? fun t => t.id == id with
    | some t => (s.onEng fun e => { e with transfers := e.transfers.filter fun u => u.id != id }).stageWrite t
    | none => s.orphanOp 0 isl id)

/-- WRITE_PHASE_COMMIT (R189). -/
def execWritePhaseCommit (dt : Nat) (a : Fin 32) (s : State) : Host.Outcome State Fault Refusal :=
  .next ((s.elapse dt).writePhaseNow a)

/-- WATCHDOG_TORQUE_OFF (R202). -/
def execWatchdogTorqueOff (dt : Nat) (a : Fin 32) (s : State) : Host.Outcome State Fault Refusal :=
  let s := s.elapse dt
  .next (if (s.axis a).wdogIn = some 0 then s.torqueOff a 5 else s)

/-- PWM_PERIOD_BOUNDARY (R292, R301: a group without its clock counts no period). -/
def execPwmPeriodBoundary (dt : Nat) (a : Fin 32) (s : State) : Host.Outcome State Fault Refusal :=
  let s := s.elapse dt
  .next (if s.isLocal a && s.pwmBoundaryDue a && !(s.pwm.clkLost.contains (a / 4)) then s.pwmBoundary a else s)

/-- TRIP_ASSERT (R295). -/
def execTripAssert (dt : Nat) (a : Fin 32) (s : State) : Host.Outcome State Fault Refusal :=
  .next ((s.elapse dt).tripFall a)

/-- TRIP_DEASSERT (R296). -/
def execTripDeassert (dt : Nat) (a : Fin 32) (s : State) : Host.Outcome State Fault Refusal :=
  let s := s.elapse dt
  .next (s.onPax a fun x => if x.tripLow then { x with tripLow := false, tripRose := some s.clk.elapsed } else x)

/-- TRIP_ESCALATION (R298). -/
def execTripEscalation (dt : Nat) (a : Fin 32) (s : State) : Host.Outcome State Fault Refusal :=
  .next ((s.elapse dt).tripEscalate a)

/-- GATE_ENABLE_LOW (R299): the levels of GENA and GENB of group `g` at their lands. -/
def execGateEnableLow (dt : Nat) (g : Fin 8) (x y : Bool) (s : State) : Host.Outcome State Fault Refusal :=
  .next ((s.elapse dt).gateEnables g x y)

/-- PWM_CLOCK_LOSS (R301): the clock of PWM island `i` is lost, or has returned. -/
def execPwmClockLoss (dt : Nat) (i : Fin 9) (lost : Bool) (s : State) : Host.Outcome State Fault Refusal :=
  let s := s.elapse dt
  .next (if lost then s.pwmClockLost i else s.onPwm fun w => { w with clkLost := w.clkLost.filter (· != i.val) })

/-- DEBUG_HALT (R302): of service core `t` below 4, or of engine `t - 4`. -/
def execDebugHalt (dt : Nat) (t : Fin 12) (s : State) : Host.Outcome State Fault Refusal :=
  let s := s.elapse dt
  .next (if s.debugOn then s.debugHalt t else s)

/-- DEBUG_RESUME (R494). -/
def execDebugResume (dt : Nat) (t : Fin 12) (s : State) : Host.Outcome State Fault Refusal :=
  let s := s.elapse dt
  .next (if s.debugOn then s.debugResume t else s)

/-- AUX_BOUNDARY (R304, R410: no period is shorter than P / 2): `l` is the stream of the channel's source up to the edge before the boundary. -/
def execAuxBoundary (dt : Nat) (k : Fin 8) (l : List Bool) (s : State) : Host.Outcome State Fault Refusal :=
  let s := s.elapse dt
  .next (if s.auxLive k && s.atBoundary (s.rd (PWM_AUXPER k) / 4) && decide (s.rd (PWM_AUXPER k) ≤ 2 * s.inPeriod (32 + k)) then
    s.auxBoundary k l else s)

/-- AUX_COMMIT (R304): at P / 2. -/
def execAuxCommit (dt : Nat) (k : Fin 8) (s : State) : Host.Outcome State Fault Refusal :=
  let s := s.elapse dt
  .next (if s.auxLive k && !(s.pax (32 + k)).judged && decide (s.rd (PWM_AUXPER k) ≤ 2 * s.inPeriod (32 + k)) then
    s.auxCommit k else s)

/-- AUXOFF (R306). -/
def execAuxoff (dt : Nat) (mask : BitVec 8) (s : State) : Host.Outcome State Fault Refusal :=
  .next ((s.elapse dt).auxTurnOff mask.toNat)

end Sys2Proof.Machine
end

