-- ==== Sys2Proof/Machine/Acquire.lean ====
section
/-! DEFINITION. The trigger and acquisition engine (R352 to R377): the signal catalogue, arming, sampling, records, and the
Wychemas sync bus. -/

namespace Sys2Proof.Machine

/-! ### The signal catalogue (R352, R353) -/

/-- The bytes of a signal's class. -/
def sigWidth (cls : Nat) : Nat := if cls = 3 ∨ cls = 4 ∨ cls = 5 ∨ cls = 8 ∨ cls = 9 then 4 else 2

/-- R352: is a signal raw only? -/
def sigRawOnly (cls : Nat) : Bool := cls == 0xC || cls == 0xD

/-- R352: the period of the set-points of axis or virtual master `i`, if it is used. -/
def State.setPeriod (s : State) (i : Nat) : Option Nat :=
  if i < 256 then (if s.axKind i = 0 then none else some s.profilePeriod)
  else if i < 264 ∧ s.flag (PRF_VMST_EN (i - 256)) then some s.profilePeriod
  else none

/-- R352: the source period in ns of a signal; none when it is absent or unused. -/
def State.sigPeriod (s : State) (cls i : Nat) : Option Nat :=
  let axis : Nat → (Nat → Nat) → Option Nat := fun a f => if s.isLocal a then some (f a) else none
  match cls with
  | 0x01 => s.sddPeriod i
  | 0x02 => s.sddPeriod i
  | 0x03 =>
    if 34 ≤ i then none
    else if (s.portOwner i).isSome || s.isMaster i then some (s.readPeriod i)
    else match (List.range 32).find? fun a => s.isLocal a && s.axFbPort a == i with
      | some a => some (s.velPeriod a)
      | none => none
  | 0x04 => s.setPeriod i
  | 0x05 => s.setPeriod i
  | 0x06 => if i < 64 then axis (i % 32) s.velPeriod else none
  | 0x07 => if i < 64 ∧ s.axCMode (i % 32) ≠ 2 then axis (i % 32) s.curPeriod else none
  | 0x08 =>
    if i < 0x60 then axis (i / 3) s.pwmPeriod
    else if i < 0x68 ∧ s.flag (PWM_AUXCFG_EN (i - 0x60)) then some (s.rd (PWM_AUXPER (i - 0x60)) / 4)
    else none
  | 0x09 => if i < 32 then axis i s.posPeriod else none
  | 0x0A => if i < 256 ∧ bits i 5 5 = 0 ∧ i / 64 < 3 then axis (i % 32) s.velPeriod else none
  | 0x0B =>
    match i / 65536 with
    | 1 => axis (bits i 15 11) s.posPeriod
    | 2 => axis (bits i 15 11) s.velPeriod
    | 3 => axis (bits i 15 11) s.curPeriod
    | _ => none
  | 0x0C => if i < 32 then axis i fun _ => 50 else none
  | 0x0D => if i < 8 then some 1000 else none
  | _ => none

/-- The gate and trip state of local axis `a` (class 0x0C). -/
def State.gateWord (s : State) (a : Nat) : Int :=
  let g := (List.range 3).foldl (fun n h => n + s.gateNow a h * 4 ^ h) 0
  let en := tabGet false s.pwm.genA (a / 4) && tabGet false s.pwm.genB (a / 4)
  ((g + 64 * b2n (!(s.pax a).tripLow) + 128 * b2n en : Nat) : Int)

/-- R352, R353: the value in force of a signal, as a whole number in its format. -/
def State.sigValue (s : State) (cls i : Nat) : Int :=
  let a := i % 32
  match cls with
  | 0x01 => s.getS (CSF_VAL_FAST i)
  | 0x02 => s.getS (CSF_VAL_PREC i)
  | 0x03 => s.rd64S (FBK_PPOS i) / 65536
  | 0x04 => (if i < 256 then s.rd64S (PRF_SPOS i) else s.rd64S (PRF_VMPOS (i - 256))) / 65536
  | 0x05 => satSigned 32 ((if i < 256 then s.rd64S (PRF_SVEL i) else s.rd64S (PRF_VMVEL (i - 256))) / 65536)
  | 0x06 => (if bit i 5 then (s.cx a).irefd else (s.cx a).irefq).toInt
  | 0x07 => (if bit i 5 then (s.cx a).vd else (s.cx a).vq).toInt
  | 0x08 =>
    let x := if i < 0x60 then s.pax (i / 3) else s.pax (32 + (i - 0x60))
    ((match x.applied with | some p => tabGet 0 p.cmp (if i < 0x60 then i % 3 else 0) | none => 0 : Nat) : Int)
  | 0x09 => satSigned 32 ((s.cx a).psp.toInt - (s.cx a).pm.toInt)
  | 0x0A =>
    match i / 64 with
    | 0 => (s.cx a).dcor.toInt
    | 1 => s.getS (ENG_SRES_RF a)
    | _ => (s.get (ENG_JEST_JEST a) : Int)
  | 0x0B => ((s.cx (bits i 15 11)).word (i % 2048)).toInt
  | 0x0C => s.gateWord a
  | _ =>
    let f := fun b => (List.range 8).foldl (fun n k => n + b2n (b (8 * i + k)) * 2 ^ k) 0
    ((f (s.bit64 DIO_IN) + 256 * f s.outBit : Nat) : Int)

/-- R257, R258, R303: the value of class 0x01 or 0x02 of SDD channel `i` over the stream `l`: of a phase, or of the source of a chopper, whose
one filter has the ratio 128. -/
def State.streamValue (s : State) (cls i : Nat) (l : List Bool) : Int :=
  if s.isLocal (i / 3) && (s.fitted (i / 3)).contains (i % 3) then
    (s.phaseCurrent (i / 3) (i % 3) (if cls = 1 then 0x0B2 else 0x0B4) l).1
  else auxValue l

/-- R258, R353: the values of the edges of a sample period `ts`, oldest first: the stream `l` reaches back from the last edge. -/
def State.streamValues (s : State) (cls i ts : Nat) (l : List Bool) : List Int :=
  let n := ts / max 1 ((s.sddPeriod i).getD 1)
  ((List.range (min n (max 1 l.length))).map fun j => s.streamValue cls i (l.drop j)).reverse

/-! ### Channels -/

def State.acqCls (s : State) (c : Nat) : Nat := s.get (ACQ_CSIG_CLASS c)
def State.acqIdx (s : State) (c : Nat) : Nat := s.get (ACQ_CSIG_INDEX c)

/-- R354: the bytes of a stored sample of channel `c`. -/
def State.acqSize (s : State) (c : Nat) : Nat := ((List.range 4).map fun i => b2n (bit (s.get (ACQ_CCFG_STR c)) i)).sum * sigWidth (s.acqCls c)

/-- R355: the slots of channel `c`. -/
def State.acqSlots (s : State) (c : Nat) : Nat := if s.get (ACQ_CCFG_NSLOT c) = 0 then 2048 else s.get (ACQ_CCFG_NSLOT c)

/-- R352: may channel `c` sample its signal? -/
def State.signalOk (s : State) (c : Nat) : Bool :=
  let ts := s.rd (ACQ_CTS c)
  match s.sigPeriod (s.acqCls c) (s.acqIdx c) with
  | none => false
  | some p =>
    ts != 0 && 10 ^ 9 % ts == 0 && p != 0 && ts % p == 0 && s.acqSize c != 0 && (!sigRawOnly (s.acqCls c) || s.get (ACQ_CCFG_STR c) == 1)

/-- R359: the bandwidth rule: B × G × 1 001 ≤ 8 × TS × 1 000 with G = 10 240 / 2^WEXP. -/
def bandwidthOk (b ts wexp : Nat) : Bool := wexp ≤ 10 && b * 10240 * 1001 ≤ 8 * ts * 1000 * 2 ^ wexp

/-- R363: is the trigger source of group `g` valid? -/
def State.triggerOk (s : State) (g : Nat) : Bool :=
  let t := s.get (ACQ_GCFG_TCH g)
  let src := s.get (ACQ_GCFG_SRC g)
  let i := s.get (ACQ_GCFG_SRCIDX g)
  (s.acqMembers g).contains t && decide (src ≤ 8) && (decide (4 < src) || bit (s.get (ACQ_CCFG_STR t)) (s.get (ACQ_GCFG_TSTR g)))
    && (src != 5 || decide (i < 4)) && (src != 6 || decide (i < 16))

/-- The free capture slots and the free descriptors. -/
def State.freeSlots (s : State) : List Nat := below 2048 fun i => s.get (ACQ_SLOT_KIND i) == 0
def State.descStatus (s : State) (r : Nat) : Nat := s.rd (ACQ_RD r 0) / 65536 % 256
def State.freeDescs (s : State) : List Nat := below 128 fun r => s.descStatus r == 0

/-- R361: do the free slots and descriptors suffice for group `g`? -/
def State.acqRoom (s : State) (g : Nat) : Bool :=
  let m := s.acqMembers g
  decide ((m.map fun c => s.acqSlots c).sum ≤ s.freeSlots.length) && decide (m.length ≤ s.freeDescs.length)

/-- R357: show the pool. -/
def State.showPool (s : State) : State :=
  let f := s.freeSlots.length
  let h := (below 2048 fun i => s.get (ACQ_SLOT_KIND i) == 2).length
  (((s.put ACQ_POOLA_FREE f).put ACQ_POOLA_ARMED (2048 - f - h)).put ACQ_POOLB_HELD h).put ACQ_STAT_RFREE s.freeDescs.length

/-- Set what a slot is: its kind and owner. -/
def State.setSlots (kind owner : Nat) (l : List Nat) (s : State) : State :=
  l.foldl (fun s i => (s.put (ACQ_SLOT_KIND i) kind).put (ACQ_SLOT_OWNER i) owner) s

/-- R355: link slots into a ring. -/
def State.linkSlots (l : List Nat) (s : State) : State :=
  (l.zip (l.drop 1 ++ l.take 1)).foldl (fun s (e : Nat × Nat) => s.put (ACQ_SLOT_NEXT e.1) e.2) s

/-- The elements of a list from place `k` on, with those before it at the end. -/
def turned {α : Type} (l : List α) (k : Nat) : List α := l.drop k ++ l.take k

/-- R356: PRE and POST fitted to the depth, and the clamps PCLAMP and PRECUT. -/
def fitCounts (depth pre post : Nat) : Nat × Nat × Bool × Bool :=
  if depth < post then (0, depth, true, false) else if depth < pre + post then (depth - post, post, false, true) else (pre, post, false, false)

/-- R355, R356: channel `c` of group `g` takes its slots and descriptor. Which free ones it takes is not stated: the first ones
from a free place on (log 40). -/
def State.armChannel (g c : Nat) (s : State) : State :=
  let fs := turned s.freeSlots (s.free s.freeSlots.length)
  let s := s.drew 1
  let rid := (turned s.freeDescs (s.free s.freeDescs.length)).headD 0
  let s := s.drew 1
  let l := fs.take (s.acqSlots c)
  let b := s.acqSize c
  let depth := l.length * 4096 / b
  let (pre, post, pc, cut) := fitCounts depth (s.rd (ACQ_CPRE c)) (s.rd (ACQ_CPOST c))
  let ts := s.rd (ACQ_CTS c)
  let k : AcqChan :=
    { slots := l, rid := rid, size := b, ts := ts, depth := depth, pre := pre, post := post, first := (s.now / ts + 1) * ts }
  let s := ((s.setSlots 1 c l).linkSlots l).onAcq fun a => { a with chan := tabSet a.chan c k }
  let s := (((s.mark (ACQ_CST_PCLAMP c) pc).mark (ACQ_CST_PRECUT c) cut).put (ACQ_CST_RID c) rid).put (ACQ_CST_STATE c) 1
  let s := (s.wr (ACQ_CHIST c) 0).wr (ACQ_CDEP c) depth
  (List.range 16).foldl (fun s w => s.wr (ACQ_RD rid w) (if w = 0 then c + 256 * g + 65536 else 0)) s

/-- R361, R362: group `g` is armed: its channels take their buffers and the re-arm time starts. -/
def State.armGroup (g : Nat) (s : State) : State :=
  let s := (s.acqMembers g).foldl (fun s c => s.armChannel g c) s
  let ts := s.rd (ACQ_CTS (s.get (ACQ_GCFG_TCH g)))
  let first := (s.now / ts + 1) * ts
  ((s.put (ACQ_GST_STATE g) 1).onAcqGroup g fun _ => { rearmAt := first + 63 * ts }).showPool

/-- R361: the result of ARM for group `g`; the first of several is the lowest code but 0xE, which comes after 0xA (log 41). -/
def State.armResult (s : State) (g : Nat) : Nat :=
  let m := s.acqMembers g
  if s.get (ACQ_GST_STATE g) ≠ 0 ∨ m = [] then 0x8
  else if !(m.all fun c => s.signalOk c) then 0x9
  else if !(m.all fun c => bandwidthOk (s.acqSize c) (s.rd (ACQ_CTS c)) (s.get (ACQ_CWS_WEXP c))) then 0xA
  else if !s.triggerOk g then 0xE
  else if !s.acqRoom g then 0xB
  else if (s.get (ACQ_GCFG_SRC g) = 5 ∨ s.flag (ACQ_GCFG_WOUTEN g)) ∧ !s.flag ACQ_WST_CLKOK then 0xC
  else if s.flag CFG_CHG_BUSY then 0xD
  else 0x1

/-- R361: ARM of group `g`. When the island is not in Run the arm waits for its wake (R39). -/
def State.armRequest (g : Nat) (s : State) : State :=
  let r := s.armResult g
  let s := s.put (ACQ_GST_RESULT g) r
  if r ≠ 0x1 then s
  else if s.get (PWR_ISL_STATE 0x17) ≠ 0 then
    (s.satBump (PWR_ISL_LATE 0x17) 1).onAcq fun a => { a with wake := a.wake.filter (· != g) ++ [g] }
  else s.armGroup g

/-- R361: the arms that waited for the wake of the island take effect, or show why they no longer can. -/
def State.acqWoken (s : State) : State :=
  let l := s.acq.wake
  l.foldl (fun s g => let r := s.armResult g; if r = 0x1 then s.armGroup g else s.put (ACQ_GST_RESULT g) r) (s.onAcq fun a => { a with wake := [] })

/-! ### Closing and releasing records (R367, R372, R373) -/

/-- R372: the words of the descriptor of channel `c`, buffer `k`, that closes with `status`. Samples that the ring no longer holds, because the
trigger was decided late, are no valid pre-trigger samples (R365); SEQ counts this record too (log 42). -/
def State.recordWords (s : State) (c g : Nat) (k : AcqChan) (status : Nat) : List Nat :=
  let x := s.acqGroup g
  let t := min (k.trig.getD 0) k.taken
  let prev := min k.pre (t - (k.taken - k.depth))
  let postv := min k.post (k.taken - t)
  let start := t - prev
  let off := start % k.depth * k.size
  let base := if (s.acqCls c = 3 ∨ s.acqCls c = 4) ∧ t < k.taken then unsigned 64 (tabGet 0 k.full (t % k.depth)) else 0
  let flags := x.flags + 2 * b2n (prev < k.pre) + 4 * b2n (s.flag (ACQ_CST_PCLAMP c)) + 8 * b2n (s.flag (ACQ_CST_PRECUT c))
  let a := s.acqIdx c / 3
  let sdly := match s.acqCls c with | 1 => s.rd (CSF_DLYF a) % 65536 | 2 => s.rd (CSF_DLYP a) % 65536 | _ => 0
  [c + 256 * g + 65536 * status + 2 ^ 24 * flags, s.rd (ACQ_CSIG c), s.get (ACQ_CCFG_STR c) + 256 * k.size + 65536 * sdly, k.ts,
   x.tt / 256 % 2 ^ 32, x.tt % 256, (k.first + start * k.ts) % 2 ^ 32, k.pre, prev, postv, base % 2 ^ 32, base / 2 ^ 32,
   k.slots.getD (off / 4096) 0 + 65536 * (off % 4096), (prev + postv) * k.size, (tabGet 0 s.acq.seq c + 1) % 2 ^ 32, 0]

/-- R372: the entry of a record on its queue. -/
def recordEntry (rid c g status flags ttrig : Nat) : BitVec 64 :=
  entry (6 * 2 ^ 60 + rid * 2 ^ 53 + c * 2 ^ 47 + g * 2 ^ 44 + status * 2 ^ 40 + flags * 2 ^ 32 + ttrig)

/-- R367: group `g`, whose records have all closed, is IDLE, or arms again, or waits for room. -/
def State.groupClosed (g : Nat) (s : State) : State :=
  if (s.acqMembers g).any fun c => (tabFind s.acq.chan c).isSome then s
  else if !s.flag (ACQ_GCFG_REPEAT g) then s.put (ACQ_GST_STATE g) 0
  else if s.acqRoom g then s.armGroup g
  else s.put (ACQ_GST_STATE g) 4

/-- R372: the record of channel `c` closes with `status`. -/
def State.closeRecord (c status : Nat) (s : State) : State :=
  match tabFind s.acq.chan c with
  | none => s
  | some k =>
    let g := s.get (ACQ_CCFG_GRP c)
    let w := s.recordWords c g k status
    let s := (w.zipIdx).foldl (fun s (e : Nat × Nat) => s.wr (ACQ_RD k.rid e.2) e.1) s
    let s := (s.setSlots 2 k.rid k.slots).put (ACQ_CST_STATE c) 0
    let s := s.onAcq fun a => { a with chan := tabDel a.chan c, seq := tabSet a.seq c (tabGet 0 a.seq c + 1) }
    let s := s.showPool
    let s :=
      if s.flag ACQ_RQ_EN then
        let r := s.tryPush 5 (s.get ACQ_RQ_Q) [recordEntry k.rid c g status (w.getD 0 0 / 2 ^ 24) (w.getD 4 0)]
        if r.1 = 0x1 then r.2 else r.2.lose 0x17 ACQ_STAT_QLOST 1
      else s
    s.event 0x50

/-- R357: the buffer of channel `c` returns to free; no record is made. -/
def State.freeBuffer (c : Nat) (s : State) : State :=
  match tabFind s.acq.chan c with
  | none => s
  | some k =>
    let s := (s.setSlots 0 0 k.slots).onAcq fun a => { a with chan := tabDel a.chan c }
    (((s.wr (ACQ_RD k.rid 0) 0).put (ACQ_CST_STATE c) 0).wr (ACQ_CHIST c) 0).showPool

/-- R372: has channel `c` its POST-th post-trigger sample? -/
def State.recordFull (s : State) (c : Nat) : Bool :=
  match tabFind s.acq.chan c with
  | some k => (match k.trig with | some t => decide (t + k.post ≤ k.taken) | none => false)
  | none => false

/-- R372: the record of channel `c` closes when it is full, and its group goes on when it was the last. -/
def State.closeFull (c : Nat) (s : State) : State :=
  if s.recordFull c then (s.closeRecord c 2).groupClosed (s.get (ACQ_CCFG_GRP c)) else s

/-- R368, R375: group `g` is disarmed; records that are filling close with `status`. -/
def State.disarmGroup (g status : Nat) (s : State) : State :=
  let st := s.get (ACQ_GST_STATE g)
  let s := s.onAcq fun a => { a with wake := a.wake.filter (· != g) }
  if st = 0 then s
  else
    let l := s.acqMembers g
    let s := l.foldl (fun s c => if st = 3 then s.closeRecord c status else s.freeBuffer c) s
    s.put (ACQ_GST_STATE g) 0

/-- R367: the groups in WAITRES arm as soon as there is room. -/
def State.retryWaiting (s : State) : State :=
  (below 8 fun g => s.get (ACQ_GST_STATE g) == 4).foldl (fun s g => if s.acqRoom g then s.armGroup g else s) s

/-- R373: a write of `r` to ACQ_REL. -/
def State.releaseRecord (who : Accessor) (r : Nat) (s : State) : State :=
  if 2 ≤ s.descStatus r ∧ s.descStatus r ≤ 5 then
    let mine := below 2048 fun i => s.get (ACQ_SLOT_KIND i) == 2 && s.get (ACQ_SLOT_OWNER i) == r
    (((s.setSlots 0 0 mine).wr (ACQ_RD r 0) 0).showPool).retryWaiting
  else s.accessError who 4 ACQ_REL r

/-! ### Sampling (R353, R362 to R366) -/

/-- R353: the selected streams of one sample: raw, minimum, maximum and mean over the values that took effect since the last. -/
def streamsOf (raw : Int) (vals : List Int) : List Int :=
  let l := if vals = [] then [raw] else vals
  [raw, l.foldl min (l.headD 0), l.foldl max (l.headD 0), l.sum / (l.length : Int)]

/-- R364: the crossings of LVL that the sample `y` at `t` makes after `y0` one period before: tt in 1/256 ns; rising and falling. Where the
interpolation gives no instant in (t0, t1], because `y0` does not lie before LVL, it is open there (log 103). -/
def AcqGroup.crossing (x : AcqGroup) (y lvl hys : Int) (t ts gap : Nat) : Option Nat × Option Nat × AcqGroup :=
  let place : Int → Nat := fun y0 =>
    let d := ((ts : Int) * 256 * (lvl - y0)) / (y - y0)
    (t - ts) * 256 + (if y0 = lvl ∨ y = y0 ∨ d < 0 ∨ (ts : Int) * 256 < d then 1 + gap else d.toNat)
  let up := match x.y0 with | some y0 => if x.low && decide (lvl ≤ y) then some (place y0) else none | none => none
  let dn := match x.y0 with | some y0 => if x.high && decide (y ≤ lvl) then some (place y0) else none | none => none
  (up, dn, { x with
    y0 := some y
    low := (x.low && up.isNone) || decide (y ≤ lvl - hys)
    high := (x.high && dn.isNone) || decide (lvl + hys ≤ y) })

/-- R362: the re-arm time of group `g` ends at the 64th boundary of TCH. -/
def State.rearmEnd (g : Nat) (s : State) : State :=
  if s.get (ACQ_GST_STATE g) = 1 ∧ (s.acqGroup g).rearmAt ≤ s.now then
    (s.put (ACQ_GST_STATE g) 2).onAcqGroup g fun x => { x with armedAt := s.now }
  else s

/-- R362 to R364: the trigger detector of group `g` at a boundary of its timing channel, whose trigger stream has the value `y`. -/
def State.detect (g : Nat) (y : Int) (ts : Nat) (s : State) : State :=
  let s := s.rearmEnd g
  let x := s.acqGroup g
  let lvl := signed 32 (s.rd (ACQ_GLVL g))
  let r := x.crossing y lvl (signed 32 (s.rd (ACQ_GHYS g))) s.now ts (s.free (ts * 256))
  let s := s.drew 1
  let src := s.get (ACQ_GCFG_SRC g)
  let here := s.now * 256
  let hit : Option Nat := match src with
    | 0 => r.1
    | 1 => r.2.1
    | 2 => (match r.1 with | some t => some t | none => r.2.1)
    | 3 => if lvl ≤ y then some here else none
    | 4 => if y ≤ lvl then some here else none
    | _ => none
  let s := s.onAcqGroup g fun _ => { r.2.2 with force := false }
  let s := match hit with
    | some t => s.acqTrigger g t 0
    | none => s
  if x.force then s.acqTrigger g here 0 else s

/-- R354, R355: store one sample of channel `c` in its ring. -/
def State.storeSample (c : Nat) (st : List Int) (full : Int) (k : AcqChan) (s : State) : State :=
  let w := sigWidth (s.acqCls c)
  let sel := (st.zipIdx).filter fun (e : Int × Nat) => bit (s.get (ACQ_CCFG_STR c)) e.2
  let bytes := sel.flatMap fun (e : Int × Nat) => leBytes w (unsigned (8 * w) e.1)
  let p := k.taken % k.depth
  let s := s.onAcq fun a =>
    { a with
      sram := (bytes.zipIdx).foldl (fun m (e : Byte × Nat) =>
        let o := p * k.size + e.2
        memPut m (0x1A000000 + 4096 * k.slots.getD (o / 4096) 0 + o % 4096) e.1) a.sram
      chan := tabSet a.chan c { k with taken := k.taken + 1, full := tabSet k.full p full } }
  if s.get (ACQ_CST_STATE c) = 1 then s.wr (ACQ_CHIST c) (min k.pre (k.taken + 1)) else s

/-- R352 to R365: channel `c` at one of its boundaries. `vals` are the source values that took effect since the last boundary,
oldest first, of which the earlier ones of one sample period count and the one in force now is the last; for classes 0x01 and 0x02 they are
the values of the stream `l` (log 42). -/
def State.acqSample (c : Nat) (vals : List Int) (l : List Bool) (s : State) : State :=
  let g := s.get (ACQ_CCFG_GRP c)
  let s := s.closeFull c
  let ts := s.rd (ACQ_CTS c)
  let waits := s.get (ACQ_GST_STATE g) == 4 && s.get (ACQ_GCFG_TCH g) == c
  if !s.flag (ACQ_CCFG_EN c) || !s.atBoundary ts then s
  else
    let raw := if s.acqCls c ≤ 2 then s.streamValue (s.acqCls c) (s.acqIdx c) l else s.sigValue (s.acqCls c) (s.acqIdx c)
    let earlier := ts / max 1 ((s.sigPeriod (s.acqCls c) (s.acqIdx c)).getD ts) - 1
    let vals := if s.acqCls c ≤ 2 then s.streamValues (s.acqCls c) (s.acqIdx c) ts l else vals.drop (vals.length - earlier) ++ [raw]
    let st := streamsOf raw vals
    let y := signed (8 * sigWidth (s.acqCls c)) (unsigned (8 * sigWidth (s.acqCls c)) (st.getD (s.get (ACQ_GCFG_TSTR g)) 0))
    match tabFind s.acq.chan c with
    | none => if waits then s.detect g y ts else s
    | some k =>
      if s.now < k.first + k.taken * k.ts then s
      else
        let s := s.storeSample c st raw k
        if s.get (ACQ_GCFG_TCH g) = c then s.detect g y ts else s

/-- R366: has channel `c` its sample of the present boundary? -/
def State.acqLooked (s : State) (c : Nat) : Bool :=
  match tabFind s.acq.chan c with
  | some k => decide (s.now < k.first + k.taken * k.ts)
  | none => false

/-- R366, R368: the auto trigger of group `g`, after the sample of TCH at that boundary has been looked at. -/
def State.autoTrigger (g : Nat) (s : State) : State :=
  if s.get (ACQ_GST_STATE g) = 2 ∧ s.flag (ACQ_GCFG_AUTO g) ∧ (s.acqGroup g).armedAt + s.rd (ACQ_GAUTO g) * 1000 ≤ s.now ∧
      s.atBoundary (s.rd (ACQ_CTS (s.get (ACQ_GCFG_TCH g)))) ∧ s.acqLooked (s.get (ACQ_GCFG_TCH g)) then
    s.acqFire g (s.now * 256) 1
  else s

/-! ### The Wychemas sync bus (R369 to R371) -/

/-- R370: the bits of a frame after its start bit: D and the bit that makes the ones odd. -/
def wychemasBits (d : Nat) : Nat :=
  let ones := ((List.range 8).map fun i => b2n (bit d i)).sum
  2 * (d % 256) + b2n (ones % 2 == 0)

/-- R369, R370: the received SYNCCLK edge now starts the frame that waits for line `n`; without the clock none is sent (log 104). The unit that
drives SYNCCLK has its edges at the multiples of 40 ns. D of a frame that starts later than its 159 reach is open (log 105). -/
def State.wychemasSend (n : Nat) (s : State) : State :=
  match s.acq.out.find? fun e => e.1 == n with
  | none => s
  | some e =>
    let drop := fun s : State => s.onAcq fun a => { a with out := a.out.erase e }
    if !s.flag ACQ_WST_CLKOK then drop s
    else if s.now * 256 < e.2 + 40 * 256 || (s.flag ACQ_WCFG_CLKOUT && !s.atBoundary 40) then s
    else if !bit (s.get ACQ_WCFG_WDRV) n then drop s
    else if (match tabFind s.acq.sentAt n with | some t => decide (s.clk.elapsed < t + 480) | none => false) then
      (drop s).satBump ACQ_WST_WOVR 1
    else
      let x := (s.now * 256 - e.2 - 40 * 256) / 64
      let d := if x ≤ 159 then x else s.free 160
      ((drop s).drew 1).onAcq fun a => { a with sentAt := tabSet a.sentAt n s.clk.elapsed, sent := tabSet a.sent n (wychemasBits d) }

/-- R371: a frame on line `n`, with the nine bits after its start bit, whose start bit was first sampled `ago` (250 ps) before now. -/
def State.wychemasReceive (n frame ago : Nat) (s : State) : State :=
  if !s.flag ACQ_WST_CLKOK then s
  else
    let good := wychemasBits (frame / 2) == frame % 512
    let d := if good then frame / 2 % 256 else 80
    let s := if good then s else s.satBump ACQ_WST_WBAD 1
    let tt := s.now * 256 - (ago + s.get (ACQ_WDLY_DLY n) + 160 + d) * 64
    s.acqSource 5 n 4 tt (16 + 32 * b2n !good)

/-! ### Presets (R374 to R376) -/

/-- R376, R8: the registers that an ACQSET payload sets; their reserved bits stay 0. -/
def State.loadAcqset (p : List Byte) (s : State) : State :=
  let s := (List.range 4).foldl (fun s n => s.wr (ACQ_WDLY n) (leAt p (4 + 4 * n) 4 % 65536)) s
  let s := s.wr ACQ_WCFG (leAt p 0x14 4 % 32)
  let s := (List.range 8).foldl (fun s g =>
    let o := 0x18 + 16 * g
    (((s.wr (ACQ_GCFG g) (leAt p o 4 &&& 0xEFFFB0FF)).wr (ACQ_GLVL g) (leAt p (o + 4) 4)).wr (ACQ_GHYS g) (leAt p (o + 8) 4)).wr (ACQ_GAUTO g) (leAt p (o + 12) 4)) s
  let s := (List.range 64).foldl (fun s c =>
    let o := 0x98 + 32 * c
    let s := ((s.wr (ACQ_CSIG c) (leAt p o 4)).wr (ACQ_CTS c) (leAt p (o + 4) 4)).wr (ACQ_CCFG c) (leAt p (o + 8) 4 &&& 0xFF0007FF)
    ((s.wr (ACQ_CPRE c) (leAt p (o + 12) 4)).wr (ACQ_CPOST c) (leAt p (o + 16) 4)).wr (ACQ_CWS c) (leAt p (o + 20) 1 % 16)) s
  s.wr ACQ_WSUM (256 + ((List.range 64).map fun c => let w := s.get (ACQ_CWS_WEXP c); if w ≤ 10 then 2 ^ w else 0).sum)

/-- R374: the groups with ASTART are armed. -/
def State.acqAutoStart (s : State) : State :=
  (below 8 fun g => s.flag (ACQ_GCFG_ASTART g)).foldl (fun s g => s.armRequest g) s

/-- R375: an ACQSET takes effect at a changeover commit. -/
def State.acqChangeover (p : List Byte) (s : State) : State :=
  (((List.range 8).foldl (fun s g => s.disarmGroup g 4) s).loadAcqset p).acqAutoStart

/-- ARM (R361). -/
def execArm (dt : Nat) (g : Fin 8) (s : State) : Host.Outcome State Fault Refusal := .next ((s.elapse dt).armRequest g)

/-- DISARM (R368). -/
def execDisarm (dt : Nat) (g : Fin 8) (s : State) : Host.Outcome State Fault Refusal := .next ((s.elapse dt).disarmGroup g 3)

/-- FORCE (R363): it waits for the next boundary of TCH. -/
def execForce (dt : Nat) (g : Fin 8) (s : State) : Host.Outcome State Fault Refusal :=
  let s := s.elapse dt
  .next (if s.get (ACQ_GST_STATE g) = 0 then s else s.onAcqGroup g fun x => { x with force := true })

/-- ACQ_SAMPLE (R352). -/
def execAcqSample (dt : Nat) (c : Fin 64) (vals : List (BitVec 64)) (l : List Bool) (s : State) : Host.Outcome State Fault Refusal :=
  .next ((s.elapse dt).acqSample c (vals.map BitVec.toInt) l)

/-- REARM_END (R362). -/
def execRearmEnd (dt : Nat) (g : Fin 8) (s : State) : Host.Outcome State Fault Refusal := .next ((s.elapse dt).rearmEnd g)

/-- AUTO_TRIGGER (R366). -/
def execAutoTrigger (dt : Nat) (g : Fin 8) (s : State) : Host.Outcome State Fault Refusal := .next ((s.elapse dt).autoTrigger g)

/-- RECORD_CLOSE (R372): `ecc` after an uncorrected ECC error in the channel's slots. -/
def execRecordClose (dt : Nat) (c : Fin 64) (ecc : Bool) (s : State) : Host.Outcome State Fault Refusal :=
  let s := s.elapse dt
  .next (if ecc then
      (if (tabFind s.acq.chan c).isSome then
        ((s.closeRecord c 5).groupClosed (s.get (ACQ_CCFG_GRP c))).guardEnd 0x2 0x17
      else s)
    else s.closeFull c)

/-- RECORD_RELEASE (R373). -/
def execRecordRelease (dt : Nat) (who : Accessor) (r : Fin 128) (s : State) : Host.Outcome State Fault Refusal :=
  .next ((s.elapse dt).releaseRecord who r)

/-- WYCHEMAS_SEND (R370). -/
def execWychemasSend (dt : Nat) (n : Fin 4) (s : State) : Host.Outcome State Fault Refusal := .next ((s.elapse dt).wychemasSend n)

/-- WYCHEMAS_RECEIVE (R371). -/
def execWychemasReceive (dt : Nat) (n : Fin 4) (frame : BitVec 9) (ago : Nat) (s : State) : Host.Outcome State Fault Refusal :=
  .next ((s.elapse dt).wychemasReceive n frame.toNat ago)

/-- SYNCCLK_LOSS (R369). -/
def execSyncclkLoss (dt : Nat) (s : State) : Host.Outcome State Fault Refusal := .next ((s.elapse dt).mark ACQ_WST_CLKOK false)

/-- SYNCCLK_RETURN (R369). -/
def execSyncclkReturn (dt : Nat) (s : State) : Host.Outcome State Fault Refusal := .next ((s.elapse dt).mark ACQ_WST_CLKOK true)

end Sys2Proof.Machine
end

