-- ==== Sys2Proof/Machine/ErrLog.lean ====
section
/-! DEFINITION. The error log: taking reports, its ring of records, and the severe records in MRAM (R488 to R492). -/

namespace Sys2Proof.Machine

/-- R488: the 32 bytes of a record. -/
def LogRec.bytes (r : LogRec) : List Byte :=
  leBytes 4 r.seq ++ leBytes 4 r.sec ++ leBytes 4 r.ns ++ leBytes 1 r.src ++ leBytes 1 r.sev ++ leBytes 1 (b2n r.fal + 2 * b2n r.persist)
    ++ leBytes 1 r.steps ++ leBytes 2 r.code ++ leBytes 2 r.lost ++ leBytes 4 r.arg0 ++ leBytes 4 r.arg1 ++ leBytes 4 r.arg2

/-- R489: the source that the next take serves: round robin from the one served last. -/
def State.nextSource (s : State) : Option Nat :=
  ((List.range 31).map fun i => (s.log.lastSrc + 1 + i) % 31).find? fun i => tabGet [] s.log.bufs i != []

/-- R491: show the records held. -/
def State.showRing (s : State) : State :=
  (s.put ERR_LOGST_HELD s.log.ring.length).wr ERR_OLDEST
    (match s.log.ring with
      | r :: _ => r.seq
      | [] => s.rd ERR_NEXT)

/-- R489, R491, R492: one report of source `i` becomes the newest record. -/
def State.takeFrom (i : Nat) (s : State) : State :=
  match tabGet [] s.log.bufs i with
  | [] => s
  | r :: rest =>
    let r := { r with seq := s.rd ERR_NEXT, logged := s.clk.elapsed }
    let s := s.onLog fun l =>
      { l with bufs := tabSet l.bufs i rest, lastSrc := i, lastTake := some s.clk.elapsed,
               ring := (l.ring ++ [r]).drop (l.ring.length + 1 - 1024), toPersist := if r.sev = 4 then l.toPersist ++ [r] else l.toPersist }
    let s := (((s.bump (whole ERR_NEXT)).bump (whole (ERR_LOGD i))).put (ERR_LOST_BUF i) rest.length).showRing
    if r.sev = 4 then s.event 0x55 else s

/-- R489: the log takes at most one report every 40 ns. -/
def State.takeReport (s : State) : State :=
  let may := match s.log.lastTake with
    | some t => decide (t + 40 ≤ s.clk.elapsed)
    | none => true
  match s.nextSource with
  | some i => if may then s.takeFrom i else s
  | none => s

/-- R492: the 40 bytes of a persisted slot. -/
def LogRec.slot (r : LogRec) (boot : Nat) : PersistSlot :=
  let b := { r with persist := true }.bytes ++ leBytes 2 boot ++ leBytes 2 0
  b ++ leBytes 4 (crc32c b)

/-- R492: does the CRC of a slot hold? -/
def slotOk (p : PersistSlot) : Bool := p.length == 40 && crc32c (p.take 36) == leAt p 36 4

/-- R492, R495: show the number of valid slots. -/
def State.showSlots (s : State) : State := s.put ERR_LOGST_NPERS (s.log.slots.filter fun e => slotOk e.2).length

/-- R492: the oldest severe record that waits is written to its slot of MRAM. -/
def State.persistOne (s : State) : State :=
  match s.log.toPersist with
  | [] => s
  | r :: rest =>
    (s.onLog fun l =>
      { l with toPersist := rest, slots := tabSet l.slots l.nextSlot (r.slot (s.rd ERR_BOOT)), nextSlot := (l.nextSlot + 1) % 64,
               ring := l.ring.map fun x => if x.seq = r.seq then { x with persist := true } else x }).showSlots

/-- LOG_TAKE (R489). -/
def execLogTake (dt : Nat) (s : State) : Host.Outcome State Fault Refusal := .next (s.elapse dt).takeReport

/-- PERSIST (R492). -/
def execPersist (dt : Nat) (s : State) : Host.Outcome State Fault Refusal := .next (s.elapse dt).persistOne

end Sys2Proof.Machine
end

