-- ==== Sys2Proof/Machine/Crypto.lean ====
section
/-! DEFINITION. SHA-256 (FIPS 180-4) and the verification of ECDSA over P-256 (FIPS 186-5, SEC 1), which R69, R71 and R473 name. -/

namespace Sys2Proof.Machine

/-! ### SHA-256 -/

/-- The largest root of degree `k` of `x`, below `r` + 2^`b`: one bit a step. -/
def rootFrom (k x : Nat) : Nat → Nat → Nat
  | 0, r => r
  | b + 1, r => rootFrom k x b (if (r + 2 ^ b) ^ k ≤ x then r + 2 ^ b else r)

/-- The primes below 312: the first 64. -/
def smallPrimes : List Nat := below 312 fun n => decide (2 ≤ n) && (List.range n).all fun d => decide (d < 2) || n % d != 0

/-- The first 32 fraction bits of the root of degree `k` of `n`. -/
def rootFraction (k n : Nat) : Nat := rootFrom k (n * 2 ^ (32 * k)) 40 0 % 2 ^ 32

/-- The round constants: the fractions of the cube roots of the first 64 primes. -/
def shaK : List Nat := smallPrimes.map (rootFraction 3)

/-- The eight working words. -/
structure Sha where
  a : Nat
  b : Nat
  c : Nat
  d : Nat
  e : Nat
  f : Nat
  g : Nat
  h : Nat
  deriving DecidableEq, Repr

/-- The initial hash value: the fractions of the square roots of the first eight primes. -/
def shaInit : Sha :=
  let r := fun i => rootFraction 2 (smallPrimes.getD i 0)
  ⟨r 0, r 1, r 2, r 3, r 4, r 5, r 6, r 7⟩

/-- Rotation of a 32-bit word to the right. -/
def rotr (n x : Nat) : Nat := (x / 2 ^ n + x * 2 ^ (32 - n)) % 2 ^ 32

/-- One round with the message word `w` and the constant `k`. -/
def shaRound (s : Sha) (w k : Nat) : Sha :=
  let s1 := rotr 6 s.e ^^^ rotr 11 s.e ^^^ rotr 25 s.e
  let ch := (s.e &&& s.f) ^^^ ((0xFFFFFFFF - s.e) &&& s.g)
  let t1 := s.h + s1 + ch + k + w
  let s0 := rotr 2 s.a ^^^ rotr 13 s.a ^^^ rotr 22 s.a
  let maj := (s.a &&& s.b) ^^^ (s.a &&& s.c) ^^^ (s.b &&& s.c)
  ⟨(t1 + s0 + maj) % 2 ^ 32, s.a, s.b, s.c, (s.d + t1) % 2 ^ 32, s.e, s.f, s.g⟩

/-- The rounds over the constants left, with the message schedule's last 16 words, oldest first. -/
def shaRounds : List Nat → List Nat → Sha → Sha
  | [], _, s => s
  | k :: ks, w, s =>
    let x := w.getD 1 0
    let y := w.getD 14 0
    let n := (rotr 17 y ^^^ rotr 19 y ^^^ (y / 2 ^ 10)) + w.getD 9 0 + (rotr 7 x ^^^ rotr 18 x ^^^ (x / 2 ^ 3)) + w.getD 0 0
    shaRounds ks (w.drop 1 ++ [n % 2 ^ 32]) (shaRound s (w.getD 0 0) k)

/-- One block of 64 bytes. -/
def shaBlock (s : Sha) (b : List Byte) : Sha :=
  let r := shaRounds shaK ((List.range 16).map fun i => ofBe (slice b (4 * i) 4)) s
  let add := fun x y : Nat => (x + y) % 2 ^ 32
  ⟨add s.a r.a, add s.b r.b, add s.c r.c, add s.d r.d, add s.e r.e, add s.f r.f, add s.g r.g, add s.h r.h⟩

/-- The blocks of a padded message, `n` of them. -/
def shaBlocks : Nat → List Byte → Sha → Sha
  | 0, _, s => s
  | n + 1, l, s => shaBlocks n (l.drop 64) (shaBlock s (l.take 64))

/-- SHA-256 of a byte string, 32 bytes. -/
def sha256 (m : List Byte) : List Byte :=
  let zeros := (119 - m.length % 64) % 64
  let p := m ++ [0x80] ++ List.replicate zeros 0 ++ beBytes 8 (8 * m.length)
  let s := shaBlocks (p.length / 64) p shaInit
  [s.a, s.b, s.c, s.d, s.e, s.f, s.g, s.h].flatMap (beBytes 4)

/-! ### P-256 -/

/-- The field prime, the group order, the coefficient b and the base point of P-256. -/
def p256P : Nat := 2 ^ 256 - 2 ^ 224 + 2 ^ 192 + 2 ^ 96 - 1
def p256N : Nat := 0xFFFFFFFF00000000FFFFFFFFFFFFFFFFBCE6FAADA7179E84F3B9CAC2FC632551
def p256B : Nat := 0x5AC635D8AA3A93E7B3EBBD55769886BC651D06B0CC53B0F63BCE3C3E27D2604B
def p256Gx : Nat := 0x6B17D1F2E12C4247F8BCE6E563A440F277037D812DEB33A0F4A13945D898C296
def p256Gy : Nat := 0x4FE342E2FE1A7F9B8EE7EB4A7C0F9E162BCE33576B315ECECBB6406837BF51F5

/-- `b^e` modulo `m`, for an exponent below 2^k. -/
def powMod (m : Nat) : Nat → Nat → Nat → Nat
  | 0, _, _ => 1 % m
  | k + 1, b, e => (if e % 2 = 1 then b * powMod m k (b * b % m) (e / 2) else powMod m k (b * b % m) (e / 2)) % m

/-- The inverse modulo a prime of 256 bits. -/
def invMod (m a : Nat) : Nat := powMod m 256 a (m - 2)

/-- A point in projective coordinates (X/Z², Y/Z³); Z 0 is the point at infinity. -/
structure Point where
  x : Nat
  y : Nat
  z : Nat
  deriving DecidableEq, Repr

/-- Difference modulo the field prime. -/
def subP (a b : Nat) : Nat := (a + p256P - b % p256P) % p256P

/-- The double of a point on the curve with a = -3. -/
def dblPoint (p : Point) : Point :=
  let s := 4 * p.x * (p.y * p.y % p256P) % p256P
  let zz := p.z * p.z % p256P
  let m := 3 * subP p.x zz * (p.x + zz) % p256P
  let x := subP (m * m) (2 * s)
  let yy := p.y * p.y % p256P
  ⟨x, subP (m * subP s x) (8 * yy * yy), 2 * p.y * p.z % p256P⟩

/-- The sum of two points. -/
def addPoint (p q : Point) : Point :=
  if p.z = 0 then q
  else if q.z = 0 then p
  else
    let zp := p.z * p.z % p256P
    let zq := q.z * q.z % p256P
    let u1 := p.x * zq % p256P
    let u2 := q.x * zp % p256P
    let s1 := p.y * q.z * zq % p256P
    let s2 := q.y * p.z * zp % p256P
    let h := subP u2 u1
    let r := subP s2 s1
    if h = 0 then (if r = 0 then dblPoint p else ⟨1, 1, 0⟩)
    else
      let h2 := h * h % p256P
      let h3 := h2 * h % p256P
      let v := u1 * h2 % p256P
      let x := subP (r * r) (h3 + 2 * v)
      ⟨x, subP (r * subP v x) (s1 * h3), h * p.z * q.z % p256P⟩

/-- The multiple of a point by the low `k` bits of `n`. -/
def mulPoint : Nat → Nat → Point → Point
  | 0, _, _ => ⟨1, 1, 0⟩
  | k + 1, n, p =>
    let r := mulPoint k (n / 2) (dblPoint p)
    if n % 2 = 1 then addPoint r p else r

/-- Does (x, y) lie on the curve? -/
def onCurve (x y : Nat) : Bool :=
  x < p256P && y < p256P && y * y % p256P == (x * x * x + p256B + 3 * (p256P - x)) % p256P

/-- R69: the signature (r, s) over the hash `e` under the public key (x, y). -/
def ecdsaOk (x y r s e : Nat) : Bool :=
  let w := invMod p256N s
  let q := addPoint (mulPoint 256 (e * w % p256N) ⟨p256Gx, p256Gy, 1⟩) (mulPoint 256 (r * w % p256N) ⟨x, y, 1⟩)
  let zi := invMod p256P q.z
  onCurve x y && 0 < r && r < p256N && 0 < s && s < p256N && q.z % p256P != 0
    && (q.x * (zi * zi % p256P) % p256P) % p256N == r

end Sys2Proof.Machine
end

