-- ==== Sys2Proof/Machine/Image.lean ====
section
/-! DEFINITION. Images as the loader reads them from the flash (R59, R60, R65 to R72): the header, the records, their types, the
firmware's security version and signature, SCRC, and the effective configuration (R83). -/

namespace Sys2Proof.Machine

/-! ### The flash (R59, R60) -/

/-- A byte of the flash; an erased one is 0xFF. -/
def State.flashByte (s : State) (a : Nat) : Byte := memByte s.boot.flash a ^^^ 0xFF

/-- `n` bytes of the flash from `a`. -/
def State.flashBytes (s : State) (a n : Nat) : List Byte := (List.range n).map fun i => s.flashByte (a + i)

/-- Write bytes into the flash. -/
def State.flashStore (a : Nat) (l : List Byte) (s : State) : State :=
  s.onBoot fun b => { b with flash := memPuts b.flash a (l.map (· ^^^ 0xFF)) }

/-- Erase `n` bytes of the flash from `a`. -/
def State.flashErase (a n : Nat) (s : State) : State :=
  s.onBoot fun b => { b with flash := b.flash.filter fun c => decide (c.1 < a) || decide (a + n ≤ c.1) }

/-- R59, R485: the first byte and the size of a region, by its TARGET code: bank 0x00 or 0x01, slot 0x10 to 0x17. -/
def region (t : Nat) : Option (Nat × Nat) :=
  if t ≤ 1 then some (0x100000 + 0xC00000 * t, 0xC00000)
  else if 0x10 ≤ t ∧ t ≤ 0x17 then some (0x2000000 + 0x400000 * (t - 0x10), 0x400000)
  else none

/-- R60: a region that lies within the density that the flash reported. -/
def State.present (s : State) (t : Nat) : Option (Nat × Nat) :=
  match region t with
  | some (a, n) => if s.get CFG_FLASH_DENSITY ≠ 0 ∧ a + n ≤ 2 ^ s.get CFG_FLASH_DENSITY then some (a, n) else none
  | none => none

/-! ### The header (R65, R75 check 1) -/

/-- The fields of a header. -/
def imgLength (h : List Byte) : Nat := leAt h 0x08 4
def imgSeq (h : List Byte) : Nat := leAt h 0x0C 4
def imgRecords (h : List Byte) : Nat := leAt h 0x1A 2
def imgMachineCrc (h : List Byte) : Nat := leAt h 0x20 4
def imgHdrCrc (h : List Byte) : Nat := leAt h 0x3C 4

/-- R75 check 1: the cause that a header of kind `kind` from slot `slot` (0xFF for a bank) is rejected with; 0 for none. -/
def headerCause (h : List Byte) (kind slot : Nat) : Nat :=
  if leAt h 0 4 ≠ 0x594C504F then 0x1
  else if crc32c (slice h 0 0x3C) ≠ imgHdrCrc h then 0x2
  else if leAt h 4 2 ≠ 1 ∨ leAt h 6 2 ≠ kind ∨ leAt h 0x10 4 ≠ 0x3256 ∨ leAt h 0x18 1 ≠ slot ∨ leAt h 0x19 1 ≠ 0 ∨ leAt h 0x1C 4 ≠ 0 then 0x3
  else 0

/-! ### The records (R66, R75 check 2) -/

/-- R66: read `n` records from the bytes `d` that follow the header. The answer is the records, the first cause found on the way
(0 for none), whether the FLAGS or the padding of one are not zero or END stands before the last, and what is left. -/
def readRecords : Nat → List Byte → List ImgRec × Nat × Bool × List Byte
  | 0, d => ([], 0, false, d)
  | n + 1, d =>
    let plen := leAt d 4 4
    let body := 8 + (plen + 3) / 4 * 4
    if d.length < 8 ∨ d.length < body + 4 then ([], 5, false, d)
    else
      let crc := leAt d body 4
      if crc32c (d.take body) ≠ crc then ([], 4, false, d)
      else
        let odd := leAt d 2 2 != 0 || !allZero ((d.take body).drop (8 + plen)) || (leAt d 0 2 == 0xFF && n != 0)
        let r := readRecords n (d.drop (body + 4))
        ({ typ := leAt d 0 2, payload := slice d 8 plen, crc := crc } :: r.1, r.2.1, odd || r.2.2.1, r.2.2.2)

/-- The payloads of a record type, in order. -/
def Image.all (i : Image) (t : Nat) : List (List Byte) := (i.recs.filter fun r => r.typ == t).map (·.payload)

/-- The payload of a record type that occurs at most once. -/
def Image.one (i : Image) (t : Nat) : Option (List Byte) := (i.all t).head?

/-- R75 check 2: read the image of kind `kind` whose region has the bytes `d` (LENGTH of them, or all of it when LENGTH is more). -/
def readImage (kind size : Nat) (h d : List Byte) : Nat × Image :=
  let n := imgRecords h
  let r := readRecords n (d.drop 0x40)
  let i : Image := { header := h, recs := r.1 }
  let last := match i.recs.getLast? with
    | some e => e.typ == 0xFF && e.payload == leBytes 4 (n - 1)
    | none => false
  let own := kind != 1 || ((i.recs.filter fun e => e.typ == 0x10).all fun e => e.crc == imgMachineCrc h)
  if r.2.1 ≠ 0 then (r.2.1, i)
  else if size < imgLength h ∨ r.2.2.2 ≠ [] ∨ r.2.2.1 ∨ !last ∨ !own then (5, i)
  else (0, i)

/-! ### The record types (R68, R75 check 3) -/

/-- R68: a record type: in a base image and in a recipe 0 not allowed, 1 allowed, 2 required; and how many at most. -/
def recordType (t : Nat) : Option (Nat × Nat × Nat) :=
  match t with
  | 0x01 => some (2, 0, 1)
  | 0x02 => some (2, 0, 1)
  | 0x10 => some (2, 0, 1)
  | 0x11 => some (1, 1, 256)
  | 0x12 => some (1, 1, 256)
  | 0x13 => some (1, 1, 8)
  | 0x14 => some (2, 0, 1)
  | 0x15 => some (1, 1, 1)
  | 0x16 => some (2, 1, 1)
  | 0x17 => some (1, 1, 1)
  | 0x18 => some (1, 0, 1)
  | 0x20 => some (2, 0, 1)
  | 0xFF => some (2, 2, 1)
  | _ => none

/-- R68: the engines with an enabled context among the AXIS records of an image. -/
def Image.enginesUsed (i : Image) : List Nat :=
  ((i.all 0x11).filter fun p => decide (leAt p 0 2 < 32) && leAt p 0x10 1 == 1).map fun p => leAt p 0 2 / 4

/-- R75 check 3: do the record types satisfy R68? -/
def Image.typesOk (i : Image) (kind : Nat) : Bool :=
  let rule := fun (e : Nat × Nat × Nat) => if kind = 1 then e.1 else e.2.1
  let present := fun t => i.recs.any fun r => r.typ == t
  (i.recs.all fun r => match recordType r.typ with
    | some e => rule e != 0 && decide ((i.all r.typ).length ≤ e.2.2)
    | none => bit r.typ 14)
  && ([0x01, 0x02, 0x10, 0x14, 0x16, 0x20, 0xFF].all fun t => match recordType t with
    | some e => rule e != 2 || present t
    | none => true)
  && (kind != 1 ||
      ((i.enginesUsed.all fun k => (i.all 0x13).any fun p => leAt p 0 1 == k)
        && (leAt ((i.one 0x10).getD []) 0x80 1 != 1 || present 0x18)))

/-! ### The firmware and its signature (R69, R70, R72, R75 check 4), and SCRC (R71, check 5) -/

/-- R72: the layout of FIRMWARE. -/
def firmwareOk (p : List Byte) : Bool :=
  let n := leAt p 8 4
  leAt p 0 4 == 1 && leAt p 6 2 == 0 && n % 4 == 0 && decide (n ≤ 0x800000) && leAt p 0x0C 4 == 0 && p.length == 16 + n

/-- R75 check 4 for a base image; a FIRMWARE or SIGNATURE payload with a wrong layout counts as wrong structure (log 47). -/
def State.firmwareCause (s : State) (i : Image) : Nat :=
  let fw := (i.one 0x01).getD []
  let sg := (i.one 0x02).getD []
  let k := leAt sg 0 1
  if !firmwareOk fw || sg.length != 132 || leAt sg 1 3 != 0 then 0x5
  else if leAt fw 4 2 < s.boot.minSec then 0x9
  else if 3 < k ∨ Config.keyRevoked k ∨ sha256 (slice sg 4 64) ≠ Config.keyHash k then 0x8
  else if ecdsaOk (ofBe (slice sg 4 32)) (ofBe (slice sg 36 32)) (ofBe (slice sg 68 32)) (ofBe (slice sg 100 32)) (ofBe (sha256 fw)) then 0
  else 0x7

/-- R71: SCRC covers the rest of the payload, from SALT on. -/
def scrcOk (p : List Byte) : Bool := crc32c (p.drop 8) == leAt p 4 4

/-! ### The effective configuration (R83) -/

/-- R83: the base image's records overlaid by the recipe's. -/
structure Eff where
  mach : List Byte
  leash : List Byte
  lower : Option (List Byte)
  safety : List Byte
  ringmap : Option (List Byte)
  dio : List Byte
  acq : Option (List Byte)
  axes : Tab (List Byte)
  cams : Tab (List Byte)
  scheds : Tab (List Byte)
  deriving DecidableEq, Repr

/-- Payloads by the little-endian number in their first `n` bytes. -/
def byNumber (n : Nat) (l : List (List Byte)) (t : Tab (List Byte)) : Tab (List Byte) := l.foldl (fun t p => tabSet t (leAt p 0 n) p) t

/-- R83: the configuration of the base image `b` and the recipe `r`, if there is one. -/
def effOf (b : Image) (r : Option Image) : Eff :=
  let rcp := r.getD {}
  { mach := (b.one 0x10).getD []
    leash := (b.one 0x14).getD []
    lower := rcp.one 0x15 <|> b.one 0x15
    safety := (b.one 0x20).getD []
    ringmap := b.one 0x18
    dio := (rcp.one 0x16).getD ((b.one 0x16).getD [])
    acq := rcp.one 0x17 <|> b.one 0x17
    axes := byNumber 2 (rcp.all 0x11) (byNumber 2 (b.all 0x11) [])
    cams := byNumber 1 (rcp.all 0x12) (byNumber 1 (b.all 0x12) [])
    scheds := byNumber 1 (rcp.all 0x13) (byNumber 1 (b.all 0x13) []) }

/-- R73: an entry without an AXIS record. -/
def unusedEntry (n : Nat) : List Byte :=
  let z := List.replicate 0x3B0 (0 : Byte)
  leBytes 2 n ++ List.replicate 10 0 ++ leBytes 4 (crc32c z) ++ z ++ List.replicate 64 0

/-- The bytes of axis entry `n`. -/
def Eff.entry (e : Eff) (n : Nat) : List Byte := (tabFind e.axes n).getD (unusedEntry n)

/-- A little-endian field of the MACHINE payload. -/
def Eff.m (e : Eff) (o n : Nat) : Nat := leAt e.mach o n

/-- R128: the profile period. -/
def Eff.period (e : Eff) : Nat := 62500 * 2 ^ e.m 0x008 1

/-- What the checks of an axis entry read, in an effective configuration. -/
def Eff.env (e : Eff) : EntryEnv where
  period := e.period
  masterMod := fun sel =>
    let n := sel % 256
    let x := e.entry n
    match sel / 4096 with
    | 0 => if ent x 0x010 != 0 && ent x 0x011 == 0 then some (leAtS x 0x014 8) else none
    | 1 => if n < 32 && ent x 0x010 == 1 && ent x 0x011 == 0 then some (leAtS x 0x014 8) else none
    | 2 => if n < 8 && e.m (0x140 + 40 * n) 1 == 1 then some (leAtS e.mach (0x148 + 40 * n) 8) else none
    | 3 => if n < 2 && e.m (0x288 + 48 * n) 1 == 1 then some (leAtS e.mach (0x2A8 + 48 * n) 8) else none
    | _ => none
  mper := e.m 0x280 4
  tsd := fun k => if k < 12 && e.m (0x101 + 4 * k) 1 == 1 then e.m (0x100 + 4 * k) 1 else 0

end Sys2Proof.Machine
end

