-- ==== Sys2Proof/Machine/ImageCheck.lean ====
section
/-! DEFINITION. The consistency checks of the loader (R75 check 6): every check that the manual assigns to cause 0xB, over the
effective configuration. A payload of the wrong length or version counts among them (log 47). -/

namespace Sys2Proof.Machine

/-- R22: a period divides 10⁹ ns. -/
def divides9 (p : Nat) : Bool := p != 0 && 10 ^ 9 % p == 0

/-- Are all elements of a list different? -/
def allDifferent : List Nat → Bool
  | [] => true
  | a :: t => !(t.contains a) && allDifferent t

/-- Does the byte range `[a, a + n)` meet `[b, b + m)`? -/
def meets (a n b m : Nat) : Bool := n != 0 && m != 0 && decide (a < b + m) && decide (b < a + n)

/-- No two ranges of a list meet. -/
def noneMeet : List (Nat × Nat) → Bool
  | [] => true
  | r :: t => (t.all fun q => !(meets r.1 r.2 q.1 q.2)) && noneMeet t

/-! ### The MACHINE record (R74) -/

/-- The bytes of MACHINE that are not reserved: place and size. -/
def machineNamed : List (Nat × Nat) :=
  [(0x000, 13), (0x010, 8), (0x040, 62), (0x080, 15), (0x090, 6), (0x098, 24), (0x0C0, 12), (0x0E0, 14), (0x0F0, 16)]
    ++ ((List.range 12).map fun m => (0x100 + 4 * m, 2))
    ++ ((List.range 8).flatMap fun k => [(0x140 + 40 * k, 1), (0x148 + 40 * k, 32)])
    ++ [(0x280, 4)]
    ++ ((List.range 2).flatMap fun k => [(0x288 + 48 * k, 3), (0x28C + 48 * k, 36)])
    ++ [(0x300, 512)]
    ++ ((List.range 16).map fun i => (0x500 + 32 * i, 24))
    ++ [(0x700, 128)]
    ++ ((List.range 32).map fun a => (0x780 + 8 * a, 6))

/-- R82, R107, R128, R335, R446, R494: the first fields, and CEIL of each island. -/
def Eff.headOk (e : Eff) : Bool :=
  let slot := fun x => decide (x ≤ 7) || x == 0xF
  e.mach.length == 2176 && reservedZero e.mach 0 2176 machineNamed && e.m 0 4 == 1
    && e.m 4 4 % 0x40000 == 0 && decide (0x80000000 ≤ e.m 4 4) && decide (e.m 4 4 ≤ 0xFFF80000)
    && decide (e.m 8 1 ≤ 3) && slot (e.m 9 1) && slot (e.m 0xA 1) && decide (e.m 0xB 1 ≤ 1) && decide (e.m 0xC 1 ≤ 1)
    && e.m 0x10 4 % 64 == 0 && (List.range 31).all fun i => decide (e.m (0x41 + 2 * i) 1 ≤ 3)

/-- R22, R23, R391, R392, R395: the ring fields. -/
def Eff.ringFieldsOk (e : Eff) : Bool :=
  let role := e.m 0x80 1
  let tr := e.m 0x84 4
  let tp := e.period
  decide (role ≤ 2) && (role == 0 ||
    (decide (e.m 0x81 1 ≤ 3) && divides9 tr && decide (e.m 0x8E 1 ≤ 0x3F) && e.m 0xAC 4 % 0x800 == 0
      && (if role = 1 then e.m 0x82 1 == 0 && (tr % tp == 0 || tp % tr == 0)
          else e.m 0x82 1 != 0 && decide (1 ≤ e.m 0x83 1) && decide (e.m 0x83 1 ≤ 15)
            && (List.range 16).all fun k => decide (e.m (0x9C + k) 1 < 32) || e.m (0x9C + k) 1 == 0xFF)))

/-- R406, R424: the time fields. -/
def Eff.timeOk (e : Eff) : Bool :=
  let src := e.m 0xC0 1
  let l := leAtS e.mach 0xC7 1
  decide (src ≤ 2) && decide (e.m 0xC1 1 ≤ 1) && decide (e.m 0xC2 1 ≤ 15) && decide (e.m 0xC3 1 ≤ 15) && decide (e.m 0xC2 1 < e.m 0xC3 1)
    && decide (e.m 0xC5 1 ≤ 15) && decide (-4 ≤ l) && decide (l ≤ 4) && decide (50 ≤ e.m 0xC8 4) && decide (e.m 0xC8 4 ≤ 1000000)
    && (src == 0 || (e.m 0xC5 1 != 0 && e.m 0xC4 1 != 0)) && ((src == 1) == (e.m 0x80 1 == 2))

/-- R255: a modulator clock: a TSD of 0 is that of a clock with EN 0 that is not used. -/
def Eff.clockOk (e : Eff) (k : Nat) : Bool :=
  let tsd := e.m (0x100 + 4 * k) 1
  (e.m (0x101 + 4 * k) 1 == 0 && tsd == 0) ||
    (decide (e.m (0x101 + 4 * k) 1 ≤ 1) && tsd % 5 == 0 && decide (40 ≤ tsd) && decide (tsd ≤ 200) && divides9 tsd)

/-- R140: a virtual master is an axis of TYPE 0x00, whose modulo is greater than 0. -/
def Eff.vmOk (e : Eff) (k : Nat) : Bool :=
  e.m (0x140 + 40 * k) 1 == 0 || (e.m (0x140 + 40 * k) 1 == 1 && decide (0 < leAtS e.mach (0x148 + 40 * k) 8))

/-- R267, R274, R275: a master-encoder port. -/
def Eff.mencOk (e : Eff) (k : Nat) : Bool :=
  let o := 0x288 + 48 * k
  let f := slice e.mach (o + 4) 28
  let mper := e.m 0x280 4
  e.m o 1 == 0 || (e.m o 1 == 1 && divides9 mper && e.period % mper == 0 && decide (0 < leAtS e.mach (o + 32) 8)
    && fbCfgOk (e.m (o + 1) 1) (e.m (o + 2) 1) f && frameTimeOk (e.m (o + 1) 1) (e.m (o + 2) 1) f mper)

/-- R336: the classes of a fixed queue, and its least CAPL; what a segment queue needs depends on NAX, which no image sets. -/
def fixedQueue (q : Nat) : Option (Nat × Nat × Nat) :=
  if q = 0 then some (1, 2, 7)
  else if q = 1 then some (2, 1, 7)
  else if q = 2 then some (3, 1, 5)
  else if 0x10 ≤ q ∧ q < 0x20 then some (1, 2, 0)
  else none

/-- R335: the spill ring of queue `q`: address and size. -/
def Eff.spill (e : Eff) (q : Nat) : Nat × Nat :=
  let capl := e.m (0x300 + 8 * q) 1
  (e.m 0x10 4 + e.m (0x304 + 8 * q) 4, if capl ≤ 5 then 0 else 8 * (2 ^ capl - 32))

/-- R335, R336, R349: the queues. -/
def Eff.queuesOk (e : Eff) : Bool :=
  let rings := (List.range 64).map e.spill
  ((List.range 64).all fun q =>
    let o := 0x300 + 8 * q
    let capl := e.m o 1
    let r := e.spill q
    (capl == 0 || (decide (5 ≤ capl) && decide (capl ≤ 15))) && decide (e.m (o + 1) 1 ≤ 6) && decide (e.m (o + 2) 1 ≤ 6)
      && decide (e.m (o + 3) 1 ≤ 4)
      && (match fixedQueue q with
        | some (p, c, least) => e.m (o + 1) 1 == p && e.m (o + 2) 1 == c && decide (least ≤ capl)
        | none => true)
      && (r.2 == 0 || (r.1 % 64 == 0 && decide (0x80000000 ≤ r.1) && decide (r.1 + r.2 ≤ 2 ^ 32)
        && !(meets r.1 r.2 (e.m 4 4) 0x80000))))
  && noneMeet rings

/-- R395: the queue and the buffers of the supervisory channel. -/
def Eff.svOk (e : Eff) : Bool :=
  let q := e.m 0x8E 1
  let b := e.m 0xAC 4
  e.m 0x80 1 == 0 || (e.m (0x301 + 8 * q) 1 == 4 && e.m (0x302 + 8 * q) 1 == 1 && decide (0x80000000 ≤ b)
    && decide (b + 0x10000 ≤ 2 ^ 32) && !(meets b 0x10000 (e.m 4 4) 0x80000)
    && (List.range 64).all fun k => !(meets b 0x10000 (e.spill k).1 (e.spill k).2))

/-- R282, R74: a probe. -/
def Eff.probeOk (e : Eff) (i : Nat) : Bool :=
  let c := e.m (0x500 + 32 * i) 4
  c &&& 0x0F00FF00 == 0 && decide (c / 65536 % 256 ≤ 0x71)

/-- R289, R298, R307: the PWM settings of a local axis. -/
def Eff.pwmOk (e : Eff) (a : Nat) : Bool :=
  let w := e.m (0x780 + 8 * a) 4
  decide (w / 2 ^ 30 ≤ 1) && w / 2 ^ 24 % 64 == 0 && w / 65536 % 256 != 0 && decide (w % 65536 ≤ 0x3E80)
    && !(w / 2 ^ 30 == 1 && ent (e.entry a) 0x010 == 1 && ent (e.entry a) 0x200 == 2)

/-- R305, R307: an auxiliary channel. -/
def Eff.auxOk (e : Eff) (k : Nat) : Bool :=
  let o := 0x700 + 16 * k
  let c := e.m o 4
  let src := c / 65536 % 128
  let p := e.m (o + 8) 4
  let clk := c / 2 ^ 24 % 16
  let l := 0x0204 + 8 * k
  let dt := max (e.m (o + 14) 2) (leAt e.leash (l + 2) 2)
  let dw := max (e.m (o + 12) 2) (leAt e.leash (l + 4) 2)
  c &&& 0x7080FE00 == 0 && decide (clk ≤ 0xB) && decide (src ≤ 0x5F) && decide (c % 512 ≤ 0x100)
    && (!(bit c 31) ||
      ((List.range 32).all fun a => !(ent (e.entry a) 0x010 == 1 && src / 3 == a && bit (ent (e.entry a) 0x0B1) (src % 3)))
        && p % 4 == 0 && divides9 (p / 4) && decide (6400 ≤ p) && decide (p ≤ 2000000) && e.env.tsd clk != 0 && p / 4 % e.env.tsd clk == 0
        && decide (leAtS e.mach (o + 4) 2 < leAtS e.mach (o + 6) 2) && decide (2 * (dt + dw) ≤ p) && e.m (0x41 + 2 * 0x10) 1 == 0)

/-- R74: the MACHINE record. -/
def Eff.machineOk (e : Eff) : Bool :=
  e.headOk && e.ringFieldsOk && e.timeOk && e.queuesOk && e.svOk && e.m 0xEC 2 != 0
    && (List.range 12).all e.clockOk && (List.range 8).all e.vmOk && (List.range 2).all e.mencOk
    && (List.range 16).all e.probeOk && (List.range 32).all e.pwmOk && (List.range 8).all e.auxOk

/-! ### The profile engine's bound (R129) and the ring's budget (R387) -/

/-- R129: NA and NG. -/
def Eff.na (e : Eff) : Nat :=
  (below 256 fun n => ent (e.entry n) 0x010 != 0).length + (below 8 fun k => e.m (0x140 + 40 * k) 1 == 1).length
def Eff.ng (e : Eff) : Nat := (below 16 fun g => e.m (0x300 + 8 * (0x10 + g)) 1 != 0).length

/-- R129: the completion bound. -/
def Eff.bound (e : Eff) : Nat := 3000 + 200 * e.na + 2000 * e.ng

/-- R129: the bound fits the profile period, and the master's send offset. -/
def Eff.boundOk (e : Eff) : Bool := decide (e.bound + 5000 ≤ e.period) && (e.m 0x80 1 != 1 || decide (e.bound ≤ e.m 0x88 4))

/-- A little-endian field of RINGMAP. -/
def Eff.r (e : Eff) (o n : Nat) : Nat := leAt (e.ringmap.getD []) o n

/-- R402: the members of RINGMAP. -/
def Eff.members (e : Eff) : List MapEntry :=
  (List.range (e.r 4 1)).map fun i =>
    let o := 0x20 + 16 * i
    { addr := e.r o 1, nsub := e.r (o + 1) 1, frame := e.r (o + 2) 1, safe := bit (e.r (o + 3) 1) 0, mident := e.r (o + 4) 4,
      mcrc := e.r (o + 8) 4, fofs := e.r (o + 12) 2 }

/-- R387: the master's frames fit its cycle. -/
def Eff.budgetOk (e : Eff) : Bool :=
  let tr := e.m 0x84 4
  let sofs := e.m 0x88 4 + tr
  let (byte, fwd) := if bit (e.m 0x81 1) 0 then (80, 1080) else (8, 320)
  let bytes := ((List.range (e.r 6 1)).map fun f => 62 + e.r (0x0C + 2 * f) 2).sum + 1350 + 386
  decide (e.period ≤ sofs) && decide (sofs + bytes * byte + e.members.length * fwd + e.r 8 4 * 5 + 1000 ≤ tr + e.period)

/-- R402: the RINGMAP record. -/
def Eff.ringmapOk (e : Eff) : Bool :=
  match e.ringmap with
  | none => true
  | some p =>
    let ms := e.members
    let n := ms.length
    p.length == 32 + 16 * n && leAt p 0 4 == 1 && n != 0 && decide (1 ≤ leAt p 5 1) && decide (leAt p 5 1 ≤ 15) && decide (1 ≤ leAt p 6 1)
      && decide (leAt p 6 1 ≤ 8) && decide (leAt p 7 1 ≤ 1) && ((List.range 8).all fun f => decide (leAt p (0x0C + 2 * f) 2 ≤ 1476))
      && leAt p 0x1C 4 == 0 && allDifferent (ms.map (·.addr))
      && ((List.range n).all fun i => leAt p (0x2E + 16 * i) 2 == 0 && decide (leAt p (0x23 + 16 * i) 1 ≤ 1))
      && (ms.all fun x => x.addr != 0 && decide (1 ≤ x.nsub) && decide (x.nsub ≤ 16) && decide (x.frame < leAt p 6 1)
        && decide (x.fofs + sliceSize x ≤ leAt p (0x0C + 2 * x.frame) 2))
      && ((List.range 8).all fun f => noneMeet ((ms.filter fun x => x.frame == f).map fun x => (x.fofs, sliceSize x)))
      && (e.m 0x80 1 != 1 || e.budgetOk)
where
  sliceSize (x : MapEntry) : Nat := 4 + 36 * x.nsub + (if x.safe then 48 else 0)

/-- R402: the remote entries against RINGMAP. -/
def Eff.remoteOk (e : Eff) : Bool :=
  let rs := (below 256 fun n => ent (e.entry n) 0x010 == 2).map e.entry
  (rs.all fun x => match e.members.find? fun m => m.addr == ent x 0x380 with
    | some m => decide (ent x 0x381 < m.nsub) && leAt x 0x384 4 == m.mident && leAt x 0x388 4 == m.mcrc
    | none => false)
  && allDifferent (rs.map fun x => ent x 0x380 * 256 + ent x 0x381)

/-! ### Axis entries, cam tables and slot schedules -/

/-- R73: entry `n`; R110 also bounds entries without a record. -/
def Eff.entryOk (e : Eff) (n : Nat) : Bool :=
  (e.entry n).length == 1024 && entryNamed n (e.entry n) && Machine.entryOk e.env n (e.entry n)

/-- R149: the cam tables in force. -/
def Eff.camsOk (e : Eff) : Bool :=
  decide (e.cams.length ≤ 256) && decide ((e.cams.map fun c => c.2.length).sum ≤ 0x800000)
    && e.cams.all fun c => CamTable.ok { camId := c.1, payload := c.2 }

/-- R178: the period of a section of an entry. -/
def sectPeriod (x : List Byte) (sect : Nat) : Nat :=
  leAt x 0x204 4 * (match sect with | 1 => ent x 0x203 | 2 => ent x 0x202 | _ => ent x 0x201)

/-- R188: the write phase of an entry in 250 ps, and its PWM period in ns. -/
def entryPwm (x : List Byte) : Nat := if ent x 0x200 = 2 then leAt x 0x20C 4 else sectPeriod x 3
def entryWph (x : List Byte) : Nat := ent x 0x208 * (entryPwm x * 4) / 256

/-- R185 checks 2, 3, 4 and 6, R231, R233: slot `t` of engine `k` with the program `ws`. -/
def Eff.slotOk (e : Eff) (k : Nat) (ws : List Nat) (t : Slot) : Bool :=
  if h : k < 8 ∧ t.ctx < 4 then
    let x := e.entry (4 * k + t.ctx)
    let nb := if ent x 0x021 = 1 then 2 else 3
    let tw := entryWph x
    ent x 0x010 == 1 && decide (1 ≤ t.sect) && decide (t.sect ≤ 3) && !(t.sect == 3 && ent x 0x200 != 1) && t.per == sectPeriod x t.sect
      && decide (16 ≤ t.ofs) && decide (t.ofs + t.len ≤ t.per)
      && (match scanProgram ⟨4 * k + t.ctx, by omega⟩ ws 4097 t.entry [] {} with
        | some p => decide (p.cycles + 4 ≤ t.len) && outputsOk p t.sect nb
            && !(t.sect == 2 && bit (ent x 0x300) 0 && (decide (t.ofs < 48) || p.times 0x21 == 0))
            && !(t.sect == 2 && bit (ent x 0x350) 0 && p.times 0x22 == 0)
        | none => false)
      && (t.sect != 3 || (decide (4 * (t.ofs + t.len + 32) ≤ tw) && decide (tw + 4 * 64 ≤ 4 * entryPwm x)))
  else false

/-- R185: the slot schedule of engine `k`, against its contexts in use. -/
def Eff.schedOk (e : Eff) (k : Nat) : Bool :=
  let used := below 4 fun c => ent (e.entry (4 * k + c)) 0x010 == 1
  match tabFind e.scheds k with
  | none => used.isEmpty
  | some p =>
    let sl := schedSlots p
    let ws := schedWords p
    decide (k < 8) && decide (1 ≤ leAt p 1 1) && decide (leAt p 1 1 ≤ 32) && decide (1 ≤ leAt p 2 2) && decide (leAt p 2 2 ≤ 4096)
      && p.length == 16 + 16 * leAt p 1 1 + 4 * leAt p 2 2 && allZero (slice p 4 12)
      && ((List.range (leAt p 1 1)).all fun i => leAt p (0x1E + 16 * i) 2 == 0)
      && (sl.all fun t => e.slotOk k ws t) && allApart sl
      && (used.all fun c =>
        let x := e.entry (4 * k + c)
        let count := fun sect => (sl.filter fun t => t.ctx == c && t.sect == sect).length
        let l := 0x0004 + 16 * (4 * k + c)
        count 1 == 1 && count 2 == 1 && count 3 == (if ent x 0x200 = 1 then 1 else 0)
          && (ent x 0x200 != 2 || (decide (4 * 96 ≤ entryWph x) && decide (entryWph x + 4 * 64 ≤ 4 * entryPwm x)
            && decide (2 * (leAt e.leash (l + 8) 2 + leAt e.leash (l + 10) 2) ≤ 4 * entryPwm x))))

/-! ### LEASH, LEASH_LOWER (R106) and DIOTAB (R447) -/

/-- R106: the bytes of LEASH that are not reserved. -/
def leashNamed : List (Nat × Nat) :=
  [(0, 4)] ++ ((List.range 32).map fun a => (4 + 16 * a, 14)) ++ ((List.range 8).map fun k => (0x204 + 8 * k, 6)) ++ [(0x244, 6160)]

/-- R105, R106: the LEASH record; the duty ceilings are at most 0x100 and PCFG holds ENV alone. Its reserved bytes are zero, or the cause is
0xB (DEDUCED, log 84). -/
def Eff.leashOk (e : Eff) : Bool :=
  let p := e.leash
  p.length == 6740 && leAt p 0 4 == 1 && reservedZero p 0 6740 leashNamed
    && ((List.range 32).all fun a => decide (leAt p (4 + 16 * a + 6) 2 ≤ 0x100))
    && ((List.range 8).all fun k => decide (leAt p (0x204 + 8 * k) 2 ≤ 0x100))
    && (List.range 256).all fun n => decide (leAt p (0x254 + 24 * n + 20) 4 ≤ 1)

/-- R93, R106: the LEASH_LOWER payload `l` raises nothing above LEASH `b`. -/
def lowerOk (b l : List Byte) : Bool :=
  let same := fun o n => slice b o n == slice l o n
  let ceil := fun o n => decide (leAt l o n ≤ leAt b o n)
  let floor := fun o n => decide (leAt b o n ≤ leAt l o n)
  l.length == 6740 && same 0 4
    && ((List.range 32).all fun a =>
      let o := 4 + 16 * a
      ceil o 2 && ceil (o + 2) 2 && same (o + 4) 2 && ceil (o + 6) 2 && floor (o + 8) 2 && floor (o + 10) 2 && same (o + 12) 4)
    && ((List.range 8).all fun k =>
      let o := 0x204 + 8 * k
      ceil o 2 && floor (o + 2) 2 && floor (o + 4) 2 && same (o + 6) 2)
    && ([0x244, 0x24C].all fun o => leAt l o 8 &&& leAt b o 8 == leAt l o 8)
    && (List.range 256).all fun n =>
      let o := 0x254 + 24 * n
      ceil o 4 && decide (leAtS b (o + 4) 8 ≤ leAtS l (o + 4) 8) && decide (leAtS l (o + 12) 8 ≤ leAtS b (o + 12) 8) && same (o + 20) 4

/-- R446, R447: the DIO table. -/
def Eff.dioOk (e : Eff) : Bool :=
  let p := e.dio
  let ev := leAt p 4 4
  p.length == 1096 && leAt p 0 4 == 1 && ev &&& 0x7FFFFFC0 == 0
    && (!(bit ev 31) || e.m (0x301 + 8 * (ev % 64)) 1 == 3)
    && ((List.range 8).all fun g =>
      let o := 8 + 8 * g
      decide (2 ≤ leAt p o 1) && decide (leAt p o 1 ≤ 250) && allZero (slice p (o + 1) 7)
        && decide (((List.range 8).filter fun i => bit (leAt p (0x48 + 16 * (8 * g + i) + 3) 1) 1).length ≤ 2))
    && (List.range 64).all fun c =>
      let o := 0x48 + 16 * c
      let b := fun i => leAt p (o + i) 1
      decide (b 0 ≤ 2) && (b 1 == 1 || b 1 == 3) && decide (b 2 ≤ 7) && b 3 &&& 0xC4 == 0
        && (if b 0 = 2 then b 4 != 0 else b 4 == 0) && allZero (slice p (o + 5) 3)
        && !(b 0 == 0 && b 3 &&& 3 != 0) && !(b 0 == 1 && b 3 &&& 0x30 != 0)

/-! ### ACQSET (R358, R359, R376) -/

/-- R376: the acquisition presets. -/
def Eff.acqOk (e : Eff) : Bool :=
  match e.acq with
  | none => true
  | some p =>
    let wexp := fun c => leAt p (0x98 + 32 * c + 20) 1
    p.length == 2200 && leAt p 0 4 == 1
      && ((List.range 64).all fun c => (decide (wexp c ≤ 0xA) || wexp c == 0xF) && allZero (slice p (0x98 + 32 * c + 21) 11))
      && decide (256 + ((List.range 64).map fun c => if wexp c ≤ 0xA then 2 ^ wexp c else 0).sum ≤ 4096)
      && (List.range 64).all fun c =>
        let o := 0x98 + 32 * c
        let f := leAt p (o + 8) 4
        let size := ((List.range 4).map fun i => b2n (bit f (24 + i))).sum * sigWidth (leAt p (o + 3) 1)
        !(bit f 31) || (divides9 (leAt p (o + 4) 4) && bandwidthOk size (leAt p (o + 4) 4) (wexp c))

/-! ### SAFETY (R453, R454) -/

/-- A little-endian field of SAFETY. -/
def Eff.s (e : Eff) (o n : Nat) : Nat := leAt e.safety o n

/-- R454: SRC of a function of kind `k`. -/
def Eff.srcOk (e : Eff) (k src : Nat) : Bool :=
  if src = 0xFFFF then decide (4 ≤ k)
  else if bit src 15 then
    let n := src / 128 % 64
    src / 8192 % 4 == 0 && decide (n < e.s 0x3C 1) && decide (src % 128 < 8 * e.s (0xB08 + 16 * n) 1)
  else decide (src < 16) && e.s (0x40 + 8 * src) 1 != 0

/-- R454: a function. -/
def Eff.functionOk (e : Eff) (f : Nat) : Bool :=
  let o := 0x100 + 32 * f
  let k := e.s o 1
  decide (k ≤ 6) && (k == 0 ||
    (decide (e.s (o + 1) 1 ≤ 1) && e.srcOk k (e.s (o + 2) 2) && decide (e.s (o + 5) 1 ≤ 1)
      && !((k == 2 || k == 3) && !(decide (10 ≤ e.s (o + 6) 2) && decide (e.s (o + 6) 2 ≤ 30000)))
      && !(k == 3 && decide (e.s (o + 6) 2 < e.s (o + 8) 2))
      && (decide (k < 3) || (below 32 (bit (e.s (o + 0x0C) 4))).all fun a => decide (e.s (0x500 + 48 * a) 1 ≤ 0x21))))
    && e.s (o + 0x0A) 2 == 0 && e.s (o + 0x18) 8 == 0

/-- R462, R463: the axes that some function monitors. -/
def Eff.monitored (e : Eff) : List Nat :=
  below 32 fun a => (List.range 32).any fun f => decide (3 ≤ e.s (0x100 + 32 * f) 1) && bit (e.s (0x10C + 32 * f) 4) a

/-- R454: the monitor entry of a monitored axis. -/
def Eff.monitorOk (e : Eff) (a : Nat) : Bool :=
  let o := 0x500 + 48 * a
  let p2 := e.s (o + 1) 1
  p2 == 0xFF || (decide (p2 ≤ 0x21) && fbCfgOk (e.s (o + 2) 1) (e.s (o + 3) 1) (slice e.safety (o + 0x10) 28)
    && (List.range 32).all fun n => !(ent (e.entry n) 0x010 == 1 && ent (e.entry n) 0x080 == p2))

/-- R454: a safe output. -/
def Eff.outputOk (e : Eff) (k : Nat) : Bool :=
  let o := 0xC0 + 8 * k
  let md := e.s o 1
  let f := 0x100 + 32 * e.s (o + 1) 1
  decide (md ≤ 2) && (md == 0 || decide (e.s (o + 1) 1 < 32)) && decide (e.s (o + 2) 1 ≤ 1) && allZero (slice e.safety (o + 3) 5)
    && !(md == 2 && ((bit (e.s (f + 2) 2) 15 && e.s (f + 2) 2 != 0xFFFF) || decide (4 ≤ e.s f 1)))

/-- R454: a connection. -/
def Eff.connOk (e : Eff) (n : Nat) : Bool :=
  let o := 0xB00 + 16 * n
  let peer := e.s o 1
  decide (1 ≤ e.s (o + 1) 1) && decide (e.s (o + 1) 1 ≤ 16) && decide (2 ≤ e.s (o + 2) 2) && decide (e.s (o + 2) 2 ≤ 1000)
    && e.s (o + 4) 4 != 0 && decide (e.s (o + 8) 1 ≤ 16) && allZero (slice e.safety (o + 9) 7)
    && (match e.m 0x80 1 with
      | 1 => e.members.any fun m => m.addr == peer && m.safe
      | 2 => peer == 0
      | _ => true)
    && decide (3 * e.s (o + 1) 1 * e.m 0x84 4 ≤ e.s (o + 2) 2 * 1000000)

/-- R453, R454: the SAFETY record. -/
def Eff.safetyOk (e : Eff) : Bool :=
  let nc := e.s 0x3C 1
  let cs := (List.range nc).map fun n => 0xB00 + 16 * n
  e.safety.length == 3840 && e.s 0 2 == 1 && e.s 2 2 == 0 && decide (nc ≤ 64) && e.s 0x3D 3 == 0
    && !(e.m 0x80 1 == 2 && decide (1 < nc))
    && ((List.range 16).all fun i =>
      let o := 0x40 + 8 * i
      decide (e.s o 1 ≤ 2) && (e.s o 1 == 0 || (decide (5 ≤ e.s (o + 2) 2) && decide (e.s (o + 2) 2 ≤ 500))) && e.s (o + 1) 1 == 0
        && e.s (o + 4) 4 == 0)
    && (List.range 8).all e.outputOk && (List.range 32).all e.functionOk && e.monitored.all e.monitorOk
    && ((List.range 32).all fun a => e.s (0x500 + 48 * a + 0x2C) 4 == 0)
    && (List.range nc).all e.connOk && allDifferent (cs.map fun o => e.s o 1) && allDifferent (cs.map fun o => e.s (o + 4) 4)

/-! ### All of them -/

/-- R73, R149, R185: the records of the image under check do not repeat an entry, a cam or an engine, and name one that exists. -/
def Image.distinct (i : Image) : Bool :=
  let num := fun t n => (i.all t).map fun p => leAt p 0 n
  allDifferent (num 0x11 2) && (num 0x11 2).all (fun n => decide (n < 256)) && allDifferent (num 0x12 1) && allDifferent (num 0x13 1)
    && (num 0x13 1).all fun k => decide (k < 8)

/-- R111, R73: no two local entries name one feedback port (log 74). -/
def Eff.portsOk (e : Eff) : Bool :=
  allDifferent (((below 32 fun a => ent (e.entry a) 0x010 == 1 && ent (e.entry a) 0x080 != 0xFF)).map fun a => ent (e.entry a) 0x080)

/-- R75 check 6: the configuration `e` that would be in force with the image `i`. -/
def consistent (i : Image) (e : Eff) : Bool :=
  i.distinct && e.machineOk && (List.range 256).all e.entryOk && e.portsOk && e.camsOk && e.leashOk
    && (match e.lower with | some l => lowerOk e.leash l | none => true)
    && (List.range 8).all e.schedOk && e.boundOk && e.ringmapOk && e.remoteOk && e.dioOk && e.acqOk && e.safetyOk

end Sys2Proof.Machine
end

