-- ==== Sys2Proof/Machine/Flags.lean ====
section
/-! DEFINITION. The flags of the engine datapath: Z, N, AV and SAT (R209 to R211), the narrowing of accumulator results, and
the order of instructions with their repeats (R207, R221). -/

namespace Sys2Proof.Machine

/-- R209: Z and N of an accumulator result. -/
def Ctx.znA (v : BitVec 40) (c : Ctx) : Ctx := { c with z := v == 0, n := v.msb }

/-- R209: Z and N of a data word. -/
def Ctx.znD (v : BitVec 16) (c : Ctx) : Ctx := { c with z := v == 0, n := v.msb }

/-- R209: Z and N of a long register. -/
def Ctx.znL (v : BitVec 48) (c : Ctx) : Ctx := { c with z := v == 0, n := v.msb }

/-- R209, CMP: Z and N of an exact difference. -/
def Ctx.znInt (v : Int) (c : Ctx) : Ctx := { c with z := v == 0, n := decide (v < 0) }

/-- R211: set the SAT flag of accumulator `i`. -/
def Ctx.setSat (i : Nat) (b : Bool) (c : Ctx) : Ctx := if b then { c with sat := c.sat ||| (1#4 <<< i) } else c

/-- R210: set the AV flag of accumulator `i`. -/
def Ctx.setAv (i : Nat) (b : Bool) (c : Ctx) : Ctx := if b then { c with av := c.av ||| (1#4 <<< i) } else c

/-- R210: does an exact result lie outside the 40-bit range? -/
def wraps40 (v : Int) : Bool := v < -(2 ^ 39) || 2 ^ 39 ≤ v

/-- R210: write the exact result `v` to accumulator `i` modulo 2^40, with AV when it lies outside the range. -/
def Ctx.result (i : Nat) (v : Int) (c : Ctx) : Ctx := (c.setA i (BitVec.ofInt 40 v)).setAv i (wraps40 v)

/-- R209, R210: as `Ctx.result`, and Z and N from the written result. -/
def Ctx.resultZN (i : Nat) (v : Int) (c : Ctx) : Ctx := (c.result i v).znA (BitVec.ofInt 40 v)

/-- R208: the product of two data words in the accumulator format, 2·x·y. -/
def product (x y : BitVec 16) : Int := 2 * (x.toInt * y.toInt)

/-- A term with its sign: SG 1 subtracts (R228). -/
def signedTerm (sg : Bool) (t : Int) : Int := if sg then -t else t

/-- R219: EXP(v): 30 less the highest bit position from 0 to 38 whose bit differs from bit 39. -/
def expOf (v : BitVec 40) : Int :=
  let x : Nat := if v.msb then (2 ^ 40 - 1 - v.toNat) else v.toNat
  let len := bitLenTo 39 x
  if len = 0 then 30 else 30 - ((len : Int) - 1)

/-! ### The order of instructions -/

/-- R221: the place of the next instruction after the one at `pc`, with the repeats in execution. -/
def nextPc : Nat → List (Nat × Nat × Nat) → Nat × List (Nat × Nat × Nat)
  | pc, [] => (pc + 1, [])
  | pc, (first, last, left) :: rest =>
    if last = pc then
      if 1 < left then (first, (first, last, left - 1) :: rest)
      else nextPc pc rest
    else (pc + 1, (first, last, left) :: rest)

/-- R207: go on to the next instruction after `cycles` cycles. -/
def Ctx.advance (cycles : Nat) (c : Ctx) : Ctx :=
  let r := nextPc c.pc c.loops
  { c with pc := r.1, loops := r.2, cyc := c.cyc + cycles }

end Sys2Proof.Machine
end

