-- ==== Sys2Proof/Machine/EngineIsa.lean ====
section
/-! DEFINITION. The instructions of the axis control engines (R205 to R230): one meaning each, over the context `x` of the
axis, then the advance to the next instruction. -/

namespace Sys2Proof.Machine

/-- An instruction that changes the context alone, and takes `cyc` cycles. -/
def State.engOp (x cyc : Nat) (f : Ctx → Ctx) (s : State) : State := s.onCx x fun c => (f c).advance cyc

/-- R215: an instruction that stores words: WPROT when a word below 0x080 was not written. -/
def State.engStore (x cyc : Nat) (f : Ctx → Bool × Ctx) (s : State) : State :=
  let r := f (s.cx x)
  let s := if r.1 then s.latch (ENG_FLG_WPROT x) else s
  s.onCx x fun _ => r.2.advance cyc

/-- A word in the low half of an accumulator's data position: Dx × 2^16. -/
def dataTerm (v : BitVec 16) : Int := v.toInt * 65536

/-- NOP (R229). -/
def execEngNop (x : Fin 32) (s : State) : Host.Outcome State Fault Refusal := .next (s.engOp x 1 id)

/-- END (R229): the program ends; the datapath idles to the end of the slot. -/
def execEngEnd (x : Fin 32) (s : State) : Host.Outcome State Fault Refusal :=
  .next (s.onCx x fun c => { c with ended := true, cyc := c.cyc + 1 })

/-- REP (R221): the `len` instructions that follow run `count` times. -/
def execEngRep (x : Fin 32) (count : Fin 4096) (len : Fin 64) (s : State) : Host.Outcome State Fault Refusal :=
  .next (s.engOp x 1 fun c => { c with loops := (c.pc + 1, c.pc + len, count) :: c.loops })

/-- CLRF (R229): clear the AV and SAT flags whose MASK bits are 1. -/
def execEngClrf (x : Fin 32) (mask : BitVec 8) (s : State) : Host.Outcome State Fault Refusal :=
  .next (s.engOp x 1 fun c =>
    { c with av := c.av &&& ~~~(mask.extractLsb' 0 4), sat := c.sat &&& ~~~(mask.extractLsb' 4 4) })

/-- LDI (R229). -/
def execEngLdi (x : Fin 32) (d : Fin 16) (imm : BitVec 16) (s : State) : Host.Outcome State Fault Refusal :=
  .next (s.engOp x 1 (Ctx.setD d imm))

/-- LDP (R229). -/
def execEngLdp (x : Fin 32) (p : Fin 8) (imm : BitVec 11) (s : State) : Host.Outcome State Fault Refusal :=
  .next (s.engOp x 1 (Ctx.setP p imm))

/-- LD (R214). -/
def execEngLd (x : Fin 32) (d : Fin 16) (p : Fin 8) (md : Option (Fin 8)) (s : State) :
    Host.Outcome State Fault Refusal :=
  .next (s.engOp x 1 fun c => (c.setD d (c.word (c.addr p))).modify p md)

/-- ST (R215). -/
def execEngSt (x : Fin 32) (d : Fin 16) (p : Fin 8) (md : Option (Fin 8)) (s : State) :
    Host.Outcome State Fault Refusal :=
  .next (s.engStore x 1 fun c => ((c.storeWord (c.addr p) (c.dR d)).1, (c.storeWord (c.addr p) (c.dR d)).2.modify p md))

/-- LDM (R216): two words into a modifier; the pointer is then modified once, with the modifiers as they then stand. -/
def execEngLdm (x : Fin 32) (m : Fin 8) (p : Fin 8) (md : Option (Fin 8)) (s : State) :
    Host.Outcome State Fault Refusal :=
  .next (s.engOp x 2 fun c => (c.setM m (BitVec.ofNat 32 (c.words (c.addr p) 2))).modify p md)

/-- LDW (R216): two words, sign-extended from bit 31. -/
def execEngLdw (x : Fin 32) (a : Fin 4) (p : Fin 8) (md : Option (Fin 8)) (s : State) :
    Host.Outcome State Fault Refusal :=
  .next (s.engOp x 1 fun c =>
    let v := (BitVec.ofNat 32 (c.words (c.addr p) 2)).signExtend 40
    ((c.setA a v).znA v).modify p md)

/-- STW (R216, R229): the accumulator limited to 32 bits, in two words. -/
def execEngStw (x : Fin 32) (a : Fin 4) (p : Fin 8) (md : Option (Fin 8)) (s : State) :
    Host.Outcome State Fault Refusal :=
  .next (s.engStore x 2 fun c =>
    let v := (c.aR a).toInt
    let r := satSigned 32 v
    let q := c.storeWords (c.addr p) (unsigned 32 r) 2
    (q.1, (q.2.setSat a (r != v)).modify p md))

/-- LLD (R216): three words into a long register. -/
def execEngLld (x : Fin 32) (l : Fin 4) (p : Fin 8) (md : Option (Fin 8)) (s : State) :
    Host.Outcome State Fault Refusal :=
  .next (s.engOp x 3 fun c =>
    let v := BitVec.ofNat 48 (c.words (c.addr p) 3)
    ((c.setL l v).znL v).modify p md)

/-- LST (R216): a long register in three words. -/
def execEngLst (x : Fin 32) (l : Fin 4) (p : Fin 8) (md : Option (Fin 8)) (s : State) :
    Host.Outcome State Fault Refusal :=
  .next (s.engStore x 3 fun c =>
    let q := c.storeWords (c.addr p) (c.lR l).toNat 3
    (q.1, q.2.modify p md))

/-- STA (R217): a converted accumulator to memory. -/
def execEngSta (x : Fin 32) (a : Fin 4) (p : Fin 8) (md : Option (Fin 8)) (sc : Option (BitVec 4)) (s : State) :
    Host.Outcome State Fault Refusal :=
  .next (s.engStore x 1 fun c =>
    let r := convert (c.aR a) (s.scale x sc)
    let q := c.storeWord (c.addr p) r.1
    (q.1, ((q.2.setSat a r.2).znD r.1).modify p md))

/-- MOV (R229). -/
def execEngMov (x : Fin 32) (d y : Fin 16) (s : State) : Host.Outcome State Fault Refusal :=
  .next (s.engOp x 1 fun c => c.setD d (c.dR y))

/-- MOVD (R217): a converted accumulator to a data register. -/
def execEngMovd (x : Fin 32) (d : Fin 16) (a : Fin 4) (sc : Option (BitVec 4)) (s : State) :
    Host.Outcome State Fault Refusal :=
  .next (s.engOp x 1 fun c =>
    let r := convert (c.aR a) (s.scale x sc)
    ((c.setD d r.1).setSat a r.2).znD r.1)

/-- LDA (R229): Aa := Dx × 2^16. -/
def execEngLda (x : Fin 32) (a : Fin 4) (y : Fin 16) (s : State) : Host.Outcome State Fault Refusal :=
  .next (s.engOp x 1 fun c => (c.setA a (BitVec.ofInt 40 (dataTerm (c.dR y)))).znA (BitVec.ofInt 40 (dataTerm (c.dR y))))

/-- ADDA (R210). -/
def execEngAdda (x : Fin 32) (a b : Fin 4) (s : State) : Host.Outcome State Fault Refusal :=
  .next (s.engOp x 1 fun c => c.resultZN a ((c.aR a).toInt + (c.aR b).toInt))

/-- SUBA (R210). -/
def execEngSuba (x : Fin 32) (a b : Fin 4) (s : State) : Host.Outcome State Fault Refusal :=
  .next (s.engOp x 1 fun c => c.resultZN a ((c.aR a).toInt - (c.aR b).toInt))

/-- ADDD (R229). -/
def execEngAddd (x : Fin 32) (a : Fin 4) (y : Fin 16) (s : State) : Host.Outcome State Fault Refusal :=
  .next (s.engOp x 1 fun c => c.resultZN a ((c.aR a).toInt + dataTerm (c.dR y)))

/-- SUBD (R229). -/
def execEngSubd (x : Fin 32) (a : Fin 4) (y : Fin 16) (s : State) : Host.Outcome State Fault Refusal :=
  .next (s.engOp x 1 fun c => c.resultZN a ((c.aR a).toInt - dataTerm (c.dR y)))

/-- ADDK (R229): Aa := Aa + K × 2^SH. -/
def execEngAddk (x : Fin 32) (a : Fin 4) (sh : Fin 32) (k : BitVec 16) (s : State) : Host.Outcome State Fault Refusal :=
  .next (s.engOp x 1 fun c => c.resultZN a ((c.aR a).toInt + shiftInt k.toInt (sh.val : Int)))

/-- NEGA (R229). -/
def execEngNega (x : Fin 32) (a : Fin 4) (s : State) : Host.Outcome State Fault Refusal :=
  .next (s.engOp x 1 fun c => c.resultZN a (-(c.aR a).toInt))

/-- ABSA (R229). -/
def execEngAbsa (x : Fin 32) (a : Fin 4) (s : State) : Host.Outcome State Fault Refusal :=
  .next (s.engOp x 1 fun c => c.resultZN a ((c.aR a).toInt.natAbs : Int))

/-- ASH (R229): Aa := Aa × 2^SH, a negative SH rounding towards minus infinity. -/
def execEngAsh (x : Fin 32) (a : Fin 4) (sh : BitVec 6) (s : State) : Host.Outcome State Fault Refusal :=
  .next (s.engOp x 1 fun c => c.resultZN a (shiftInt (c.aR a).toInt sh.toInt))

/-- NORM (R220): EXP(Aa) to Dd, and a left shift of Aa by it when it is positive; Z and N from Aa. -/
def execEngNorm (x : Fin 32) (a : Fin 4) (d : Fin 16) (s : State) : Host.Outcome State Fault Refusal :=
  .next (s.engOp x 1 fun c =>
    let e := expOf (c.aR a)
    let v := if 0 < e then BitVec.ofInt 40 (shiftInt (c.aR a).toInt e) else c.aR a
    ((c.setD d (BitVec.ofInt 16 e)).setA a v).znA v)

/-- EXP (R219). -/
def execEngExp (x : Fin 32) (d : Fin 16) (a : Fin 4) (s : State) : Host.Outcome State Fault Refusal :=
  .next (s.engOp x 1 fun c => (c.setD d (BitVec.ofInt 16 (expOf (c.aR a)))).znD (BitVec.ofInt 16 (expOf (c.aR a))))

/-- SATA (R229): Aa limited to 32 bits. -/
def execEngSata (x : Fin 32) (a : Fin 4) (s : State) : Host.Outcome State Fault Refusal :=
  .next (s.engOp x 1 fun c =>
    let v := (c.aR a).toInt
    let r := satSigned 32 v
    ((c.setA a (BitVec.ofInt 40 r)).setSat a (r != v)).znA (BitVec.ofInt 40 r))

/-- TSTA (R229). -/
def execEngTsta (x : Fin 32) (a : Fin 4) (s : State) : Host.Outcome State Fault Refusal :=
  .next (s.engOp x 1 fun c => c.znA (c.aR a))

/-- CLRA (R229). -/
def execEngClra (x : Fin 32) (a : Fin 4) (s : State) : Host.Outcome State Fault Refusal :=
  .next (s.engOp x 1 fun c => (c.setA a 0).znA 0)

/-- MAC and MUL (R208): Aa := (Ab or 0) ± 2·Dx·Dy. -/
def execEngMac (x : Fin 32) (a b : Fin 4) (y z : Fin 16) (sg zb : Bool) (s : State) :
    Host.Outcome State Fault Refusal :=
  .next (s.engOp x 1 fun c =>
    c.resultZN a ((if zb then 0 else (c.aR b).toInt) + signedTerm sg (product (c.dR y) (c.dR z))))

/-- DMAC (R229): Aa := Aa ± 2·Dx·Dy and Ab := Ab ± 2·Du·Dv; Z and N from Aa. -/
def execEngDmac (x : Fin 32) (a b : Fin 4) (y z u v : Fin 16) (sg1 sg2 : Bool) (s : State) :
    Host.Outcome State Fault Refusal :=
  .next (s.engOp x 1 fun c =>
    let ra := (c.aR a).toInt + signedTerm sg1 (product (c.dR y) (c.dR z))
    let rb := (c.aR b).toInt + signedTerm sg2 (product (c.dR u) (c.dR v))
    ((c.result b rb).result a ra).znA (BitVec.ofInt 40 ra))

/-- MACM (R229): Aa := (Ab or 0) ± 2·Dx·mem. -/
def execEngMacm (x : Fin 32) (a b : Fin 4) (y : Fin 16) (p : Fin 8) (md : Option (Fin 8)) (sg zb : Bool) (s : State) :
    Host.Outcome State Fault Refusal :=
  .next (s.engOp x 1 fun c =>
    (c.resultZN a ((if zb then 0 else (c.aR b).toInt) + signedTerm sg (product (c.dR y) (c.word (c.addr p))))).modify p md)

/-- DMACM (R229): Aa := (Ab or 0) ± 2·memP·memQ. -/
def execEngDmacm (x : Fin 32) (a b : Fin 4) (p : Fin 8) (md : Option (Fin 8)) (q : Fin 8) (mq : Option (Fin 8))
    (sg zb : Bool) (s : State) : Host.Outcome State Fault Refusal :=
  .next (s.engOp x 1 fun c =>
    ((c.resultZN a ((if zb then 0 else (c.aR b).toInt) +
      signedTerm sg (product (c.word (c.addr p)) (c.word (c.addr q))))).modify p md).modify q mq)

/-- SELD (R222). -/
def execEngSeld (x : Fin 32) (d : Fin 16) (cc : Fin 32) (y z : Fin 16) (s : State) : Host.Outcome State Fault Refusal :=
  .next (s.engOp x 1 fun c => c.setD d (if s.cond x cc then c.dR y else c.dR z))

/-- SELA (R222): copies the value, not the flags. -/
def execEngSela (x : Fin 32) (a : Fin 4) (cc : Fin 32) (b e : Fin 4) (s : State) : Host.Outcome State Fault Refusal :=
  .next (s.engOp x 1 fun c => c.setA a (if s.cond x cc then c.aR b else c.aR e))

/-- SELL (R222). -/
def execEngSell (x : Fin 32) (l : Fin 4) (cc : Fin 32) (m n : Fin 4) (s : State) : Host.Outcome State Fault Refusal :=
  .next (s.engOp x 1 fun c => c.setL l (if s.cond x cc then c.lR m else c.lR n))

/-- MIN (R229), of the signed words. -/
def execEngMin (x : Fin 32) (d y z : Fin 16) (s : State) : Host.Outcome State Fault Refusal :=
  .next (s.engOp x 1 fun c =>
    let v := if (c.dR y).toInt ≤ (c.dR z).toInt then c.dR y else c.dR z
    (c.setD d v).znD v)

/-- MAX (R229), of the signed words. -/
def execEngMax (x : Fin 32) (d y z : Fin 16) (s : State) : Host.Outcome State Fault Refusal :=
  .next (s.engOp x 1 fun c =>
    let v := if (c.dR z).toInt ≤ (c.dR y).toInt then c.dR y else c.dR z
    (c.setD d v).znD v)

/-- NEGD (R229): −Dx; 0x8000 gives 0x7FFF. -/
def execEngNegd (x : Fin 32) (d y : Fin 16) (s : State) : Host.Outcome State Fault Refusal :=
  .next (s.engOp x 1 fun c =>
    let v := BitVec.ofInt 16 (satSigned 16 (-(c.dR y).toInt))
    (c.setD d v).znD v)

/-- CMP (R209): Z and N of the exact difference Dx − Dy. -/
def execEngCmp (x : Fin 32) (y z : Fin 16) (s : State) : Host.Outcome State Fault Refusal :=
  .next (s.engOp x 1 fun c => c.znInt ((c.dR y).toInt - (c.dR z).toInt))

/-- LIN (R223). -/
def execEngLin (x : Fin 32) (l : Fin 4) (port : Fin 256) (s : State) : Host.Outcome State Fault Refusal :=
  .next (s.engOp x 1 (Ctx.setL l (s.portLong x port)))

/-- LADD (R229). -/
def execEngLadd (x : Fin 32) (l m n : Fin 4) (s : State) : Host.Outcome State Fault Refusal :=
  .next (s.engOp x 1 fun c => (c.setL l (c.lR m + c.lR n)).znL (c.lR m + c.lR n))

/-- LSUB (R229). -/
def execEngLsub (x : Fin 32) (l m n : Fin 4) (s : State) : Host.Outcome State Fault Refusal :=
  .next (s.engOp x 1 fun c => (c.setL l (c.lR m - c.lR n)).znL (c.lR m - c.lR n))

/-- LMOV (R229). -/
def execEngLmov (x : Fin 32) (l m : Fin 4) (s : State) : Host.Outcome State Fault Refusal :=
  .next (s.engOp x 1 fun c => c.setL l (c.lR m))

/-- LTA (R229): Aa := Ll × 2^SH, rounded towards minus infinity and limited to the 40-bit range. -/
def execEngLta (x : Fin 32) (a l : Fin 4) (sh : BitVec 6) (s : State) : Host.Outcome State Fault Refusal :=
  .next (s.engOp x 1 fun c =>
    let v := shiftInt (c.lR l).toInt sh.toInt
    let r := satSigned 40 v
    ((c.setA a (BitVec.ofInt 40 r)).setSat a (r != v)).znA (BitVec.ofInt 40 r))

/-- IN (R223). -/
def execEngIn (x : Fin 32) (d : Fin 16) (port : Fin 256) (s : State) : Host.Outcome State Fault Refusal :=
  .next (s.engOp x 1 (Ctx.setD d (s.port16 x port)))

/-- R223: write the 16-bit output port `port`. -/
def State.outPort (x port : Nat) (v : BitVec 16) (s : State) : State :=
  match port with
  | 0x20 => s.onCx x fun c => { c with vref := v, vrefSet := true }
  | 0x21 => s.onCx x fun c => { c with derr := some v }
  | 0x22 => s.onCx x fun c => { c with sdv := some v }
  | 0x23 => (s.onCx x fun c => { c with vd := v }).put (ENG_VOUT_VD x) v.toNat
  | 0x24 => (s.onCx x fun c => { c with vq := v }).put (ENG_VOUT_VQ x) v.toNat
  | _ => s

/-- OUT (R223). -/
def execEngOut (x : Fin 32) (port : Fin 256) (y : Fin 16) (s : State) : Host.Outcome State Fault Refusal :=
  .next ((s.outPort x port ((s.cx x).dR y)).engOp x 1 id)

/-- R199: write the current reference through the Leash (R98, R99); the clamped value reads back from the fourth cycle
after (R224), and a change sets the clamp flag of the next instance. -/
def State.outIref (x : Nat) (d q : BitVec 16) (s : State) : State :=
  let r := s.leashIref x d.toInt q.toInt
  let d' := BitVec.ofInt 16 r.1.1
  let q' := BitVec.ofInt 16 r.1.2
  ((r.2.put (ENG_IREF_ID x) d'.toNat).put (ENG_IREF_IQ x) q'.toNat).onCx x fun c =>
    { c with irefNew := some (d', q', c.cyc + 4), clfNext := d' != d || q' != q }

/-- OUTI (R199). -/
def execEngOuti (x : Fin 32) (y z : Fin 16) (s : State) : Host.Outcome State Fault Refusal :=
  .next ((s.outIref x ((s.cx x).dR y) ((s.cx x).dR z)).engOp x 1 id)

/-- R189: a transfer to the PWM group of axis `x` goes in flight. -/
def State.sendPwm (x : Nat) (ch : Option Nat) (v : Nat) (s : State) : State :=
  let per := (s.cx x).perNum
  s.onEng fun e => { e with
    transfers := e.transfers ++ [{ id := e.nextId, axis := x, ch := ch, value := v, per := per }]
    nextId := e.nextId + 1 }

/-- R226: the compare value of a duty word. -/
def dutyCompare (d : BitVec 16) (p : Nat) : Nat :=
  if d.toInt ≤ 0 then 0 else if d = 0x7FFF#16 then 0xFFFFFFFF else d.toNat * p / 2 ^ 15

/-- OUTC (R226): a compare through the Leash (R100) towards PWM staging. -/
def execEngOutc (x : Fin 32) (ch : Fin 3) (y : Fin 16) (s : State) : Host.Outcome State Fault Refusal :=
  let r := s.leashCompare x (dutyCompare ((s.cx x).dR y) (s.pax x).stagePer)
  .next ((r.2.sendPwm x (some ch) r.1).engOp x 2 id)

/-- OUTK (R227): the commit request. -/
def execEngOutk (x : Fin 32) (s : State) : Host.Outcome State Fault Refusal :=
  .next ((s.sendPwm x none 0).engOp x 1 id)

/-- sin(2π n / 2^15) × 2^64. -/
def sinTurn (n : Nat) : Int := sinOf (n * 131072)

/-- SINCOS (R230): each result is open within 1 LSB, so it is a free value there (log 2). -/
def execEngSincos (x : Fin 32) (ds dc y : Fin 16) (s : State) : Host.Outcome State Fault Refusal :=
  let n := ((s.cx x).dR y).toNat % 2 ^ 15
  let w := s.free 6
  .next ((s.drew 1).engOp x 2 fun c =>
    (c.setD ds (nearWord (sinTurn n) w)).setD dc (nearWord (sinTurn (n + 8192)) (w / 2)))

/-- SQRT (R230). -/
def execEngSqrt (x : Fin 32) (d : Fin 16) (a : Fin 4) (s : State) : Host.Outcome State Fault Refusal :=
  .next (s.engOp x 8 fun c =>
    let v := (c.aR a).toInt
    let r : BitVec 16 := if v < 0 then 0 else if 2 ^ 31 ≤ v then 0x7FFF#16 else BitVec.ofNat 16 (isqrt (v.toNat / 2))
    ((c.setD d r).setSat a (v < 0 || 2 ^ 31 ≤ v)).znD r)

/-- R230: the quotient of data words. -/
def divWord (x y : BitVec 16) : BitVec 16 :=
  let a := x.toInt
  let b := y.toInt
  if b = 0 then (if 0 ≤ a then 0x7FFF#16 else 0x8000#16)
  else if a.natAbs < b.natAbs then BitVec.ofInt 16 ((a * 2 ^ 15).tdiv b)
  else if 0 < a * b then 0x7FFF#16
  else 0x8000#16

/-- DIV (R230). -/
def execEngDiv (x : Fin 32) (d y z : Fin 16) (s : State) : Host.Outcome State Fault Refusal :=
  .next (s.engOp x 16 fun c =>
    let r := divWord (c.dR y) (c.dR z)
    (c.setD d r).znD r)

end Sys2Proof.Machine
end

