-- ==== Sys2Proof/Machine/EngineRun.lean ====
section
/-! DEFINITION. The axis control engines at work: slot instances that run their programs (R183, R192, R201, R207), the latching of
input ports at boundaries (R180, R182), and the Band units (R191, R194 to R198). -/

namespace Sys2Proof.Machine

/-- One instruction of a program, by the meaning of its command; any other command is no instruction. -/
def engStep (i : Instr) (s : State) : Host.Outcome State Fault Refusal :=
  match i with
  | .engNop x => Sys2Proof.Machine.execEngNop x s
  | .engEnd x => Sys2Proof.Machine.execEngEnd x s
  | .engRep x count len => Sys2Proof.Machine.execEngRep x count len s
  | .engClrf x mask => Sys2Proof.Machine.execEngClrf x mask s
  | .engLdi x d imm => Sys2Proof.Machine.execEngLdi x d imm s
  | .engLdp x p imm => Sys2Proof.Machine.execEngLdp x p imm s
  | .engLd x d p md => Sys2Proof.Machine.execEngLd x d p md s
  | .engSt x d p md => Sys2Proof.Machine.execEngSt x d p md s
  | .engLdm x m p md => Sys2Proof.Machine.execEngLdm x m p md s
  | .engLdw x a p md => Sys2Proof.Machine.execEngLdw x a p md s
  | .engStw x a p md => Sys2Proof.Machine.execEngStw x a p md s
  | .engLld x l p md => Sys2Proof.Machine.execEngLld x l p md s
  | .engLst x l p md => Sys2Proof.Machine.execEngLst x l p md s
  | .engSta x a p md sc => Sys2Proof.Machine.execEngSta x a p md sc s
  | .engMov x d y => Sys2Proof.Machine.execEngMov x d y s
  | .engMovd x d a sc => Sys2Proof.Machine.execEngMovd x d a sc s
  | .engLda x a y => Sys2Proof.Machine.execEngLda x a y s
  | .engAdda x a b => Sys2Proof.Machine.execEngAdda x a b s
  | .engSuba x a b => Sys2Proof.Machine.execEngSuba x a b s
  | .engAddd x a y => Sys2Proof.Machine.execEngAddd x a y s
  | .engSubd x a y => Sys2Proof.Machine.execEngSubd x a y s
  | .engAddk x a sh k => Sys2Proof.Machine.execEngAddk x a sh k s
  | .engNega x a => Sys2Proof.Machine.execEngNega x a s
  | .engAbsa x a => Sys2Proof.Machine.execEngAbsa x a s
  | .engAsh x a sh => Sys2Proof.Machine.execEngAsh x a sh s
  | .engNorm x a d => Sys2Proof.Machine.execEngNorm x a d s
  | .engExp x d a => Sys2Proof.Machine.execEngExp x d a s
  | .engSata x a => Sys2Proof.Machine.execEngSata x a s
  | .engTsta x a => Sys2Proof.Machine.execEngTsta x a s
  | .engClra x a => Sys2Proof.Machine.execEngClra x a s
  | .engMac x a b y z sg zb => Sys2Proof.Machine.execEngMac x a b y z sg zb s
  | .engDmac x a b y z u v sg1 sg2 => Sys2Proof.Machine.execEngDmac x a b y z u v sg1 sg2 s
  | .engMacm x a b y p md sg zb => Sys2Proof.Machine.execEngMacm x a b y p md sg zb s
  | .engDmacm x a b p md q mq sg zb => Sys2Proof.Machine.execEngDmacm x a b p md q mq sg zb s
  | .engSeld x d cc y z => Sys2Proof.Machine.execEngSeld x d cc y z s
  | .engSela x a cc b e => Sys2Proof.Machine.execEngSela x a cc b e s
  | .engSell x l cc m n => Sys2Proof.Machine.execEngSell x l cc m n s
  | .engMin x d y z => Sys2Proof.Machine.execEngMin x d y z s
  | .engMax x d y z => Sys2Proof.Machine.execEngMax x d y z s
  | .engNegd x d y => Sys2Proof.Machine.execEngNegd x d y s
  | .engCmp x y z => Sys2Proof.Machine.execEngCmp x y z s
  | .engLin x l port => Sys2Proof.Machine.execEngLin x l port s
  | .engLadd x l m n => Sys2Proof.Machine.execEngLadd x l m n s
  | .engLsub x l m n => Sys2Proof.Machine.execEngLsub x l m n s
  | .engLmov x l m => Sys2Proof.Machine.execEngLmov x l m s
  | .engLta x a l sh => Sys2Proof.Machine.execEngLta x a l sh s
  | .engIn x d port => Sys2Proof.Machine.execEngIn x d port s
  | .engOut x port y => Sys2Proof.Machine.execEngOut x port y s
  | .engOuti x y z => Sys2Proof.Machine.execEngOuti x y z s
  | .engOutc x ch y => Sys2Proof.Machine.execEngOutc x ch y s
  | .engOutk x => Sys2Proof.Machine.execEngOutk x s
  | .engSincos x ds dc y => Sys2Proof.Machine.execEngSincos x ds dc y s
  | .engSqrt x d a => Sys2Proof.Machine.execEngSqrt x d a s
  | .engDiv x d y z => Sys2Proof.Machine.execEngDiv x d y z s
  | _ => .next s

/-- The state of an outcome; every engine instruction answers a next state. -/
def outState (s : State) : Host.Outcome State Fault Refusal → State
  | .next t => t
  | _ => s

/-- R207: run the program of axis `x`, held in the words from `base`, to its END, or to the first instruction that begins in cycle `stop` or
later, at most `fuel` instructions. -/
def State.runProgram (x : Fin 32) (base stop : Nat) : Nat → State → State
  | 0, s => s
  | fuel + 1, s =>
    let c := s.cx x
    if c.ended || decide (stop ≤ c.cyc) then s
    else
      match engWord x (tabGet 0 s.eng.prog (base + c.pc)).toNat with
      | some i => State.runProgram x base stop fuel (outState s (engStep i s))
      | none => s.onCx x fun c => { c with ended := true }

/-- R199, R224: at the end of an instance a reference that it wrote is the one in force. -/
def Ctx.settleRef (done : Nat) (c : Ctx) : Ctx :=
  match c.irefNew with
  | some (d, q, _) => { c with irefd := d, irefq := q, irefSet := true, irefNew := none, refs := c.refs ++ [(d, q, done)] }
  | none => c

/-- R232, R218: ENG_FLG at the end of an instance. -/
def State.showFlags (a : Nat) (vel : Bool) (s : State) : State :=
  let c := s.cx a
  let s := ((s.put (ENG_FLG_AV a) c.av.toNat).put (ENG_FLG_SAT a) c.sat.toNat)
  let s := (s.mark (ENG_FLG_N a) c.n).mark (ENG_FLG_Z a) c.z
  if vel then s.put (ENG_FLG_AVV a) c.av.toNat else s

/-- R180, R258: the periods at whose boundaries ports of local axis `a` are latched: the currents, the velocity and the position ports. -/
def State.latchPeriods (s : State) (a : Nat) : List Nat :=
  [if s.axCMode a = 2 then s.velPeriod a else s.curPeriod a, s.velPeriod a, s.posPeriod a]

/-- R180: the nanoseconds to the next boundary that latches a port of local axis `a`. -/
def State.toLatch (s : State) (a : Nat) : Nat :=
  (s.latchPeriods a).foldl (fun t p => if p = 0 then t else min t (p - s.clk.ns % p)) 1000000000

/-- The axis whose context slot `j` serves (R172, R183). -/
def State.slotCtx (s : State) (j : Nat) : Fin 32 := ⟨(4 * (j / 32 % 8) + (s.slotAt j).ctx % 4) % 32, Nat.mod_lt _ (by decide)⟩

/-- R183, R192, R199: the instance of slot `j` that began at `t` has ended. -/
def State.endInstance (j t : Nat) (s : State) : State :=
  let sl := s.slotAt j
  let x := s.slotCtx j
  let held := (s.cx x).preHeld
  let s := s.onCx x fun c => { (c.settleRef (t + sl.len)) with slot := none, due := c.due || sl.sect == 2 }
  (if held then s else s.mark (preFlag x sl.sect) false).showFlags x (sl.sect == 2)

/-- R207: the instance in progress of axis `x` runs on, up to its end or to the next boundary that latches a port it reads; `whole`, to its
end whatever comes. -/
def State.runOn (x : Fin 32) (whole : Bool) (s : State) : State :=
  match (s.cx x).slot with
  | none => s
  | some (j, t) =>
    let k := j / 32 % 8
    let sl := s.slotAt j
    let stop := s.clk.elapsed - t + (if whole then 65536 else s.toLatch x)
    let s := s.runProgram x ((2 * k + b2n (s.flag (ENG_STAT_BANK k))) * 4096) stop (sl.len + 1)
    if whole || (s.cx x).ended || decide (sl.len ≤ stop) then s.endInstance j t else s

/-- R207: what `kind` of the ports of axis `a` has been latched: bit 0 the currents, bit 1 the velocity ports, bit 2 the position ports.
When every port whose boundary falls now has been, the instance in progress runs on. -/
def State.portsLatched (a : Fin 32) (kind : Nat) (s : State) : State :=
  let s := s.onCx a fun c => { c with latched := (if c.latchedAt = s.clk.elapsed then c.latched else 0) ||| kind, latchedAt := s.clk.elapsed }
  let due := (List.range 3).all fun i => !(s.atBoundary ((s.latchPeriods a).getD i 0)) || bit (s.cx a).latched i
  if due then s.runOn a false else s

/-- R183, R192, R199, R207: an instance of slot `j` of the schedule begins for its context. -/
def State.runSlot (j : Nat) (s : State) : State :=
  let sl := s.slotAt j
  let x := s.slotCtx j
  let vel := sl.sect == 2
  let s := s.runOn x true
  let per := if s.flag (PWM_AXST_EN x) then s.get (PWM_AXST_PERNUM x) else 255
  let s := s.onCx x fun c =>
    { c with pc := sl.entry, cyc := 4, loops := [], ended := false, sect := sl.sect, perNum := per
             slot := some (j, s.clk.elapsed), preHeld := false, ran := c.ran || vel
             clf := if vel then c.clfNext else c.clf
             clfNext := if vel then false else c.clfNext
             derr := if vel then none else c.derr
             sdv := if vel then none else c.sdv
             iWas := if vel then c.iref.2 else c.iWas }
  s.runOn x false

/-- R183: is this instant the start of an instance of slot `j`, within 1 ns of OFFSET after a boundary of its PERIOD? -/
def State.slotDue (s : State) (j : Nat) : Bool :=
  let sl := s.slotAt j
  s.flag (ENG_SLCFG_VALID j) && s.clk.running && sl.per != 0 &&
    decide ((s.clk.ns % (max 1 sl.per) + max 1 sl.per - sl.ofs % max 1 sl.per) % max 1 sl.per ≤ 1)

/-- R183, R201: an instance of slot `j`; `late` when the instance before it held the datapath for more than 64 cycles. An
instance of an axis that is not enabled, or whose engine is halted, is skipped. -/
def State.slotInstance (j : Nat) (late : Bool) (s : State) : State :=
  let k := j / 32 % 8
  let a := 4 * k + s.get (ENG_SLCFG_CTX j)
  if !(s.flag (ENG_SLCFG_VALID j)) || !(late || s.slotDue j) || s.get (ENG_CST_RUN a) != 1 || s.eng.halted.contains k then s
  else
    let s :=
      if late then
        let s := (s.satBump (ENG_STAT_LATE k) 1).latch (ENG_CST_LATE a)
        if s.get (ENG_SLCFG_SECT j) = 3 then s else s.fault a 0x02 0 k
      else s
    if s.get (ENG_CST_RUN a) = 1 then s.runSlot j else s

/-! ### Input ports at boundaries -/

/-- R180: PM and EANG of local axis `a` are latched; two latches at one instant make one sample (R194). -/
def State.latchPos (a : Nat) (s : State) : State :=
  let m := s.measPos a
  let e := s.eang a
  s.onCx a fun c =>
    { c with pm := BitVec.ofInt 48 (m / 65536), eang := e
             angles := ((e, s.clk.elapsed) :: c.angles.filter fun x => x.2 != s.clk.elapsed).take 2 }

/-- R104: the overspeed count of a velocity period in which the position changed by `d`, Q48.16. -/
def State.speedCheck (a : Nat) (d : Int) (s : State) : State :=
  let limit := 9 * s.rd (LSH_SPD_E a) * 256 * s.velPeriod a
  s.onAxis a fun x => { x with ovsRun := if limit < 8 * d.natAbs * s.profilePeriod then (if x.ovsRun < 8 then x.ovsRun + 1 else x.ovsRun) else 0 }

/-- R104: the envelope check of a position sample of local axis `a`. -/
def State.envCheck (a : Nat) (s : State) : State :=
  let m := s.measPos a
  let out := s.flag (LSH_PCFG_ENV a) && (decide (m < s.rd64S (LSH_PMIN_E a)) || decide (s.rd64S (LSH_PMAX_E a) < m))
  let was := (s.axis a).envOut
  let s := s.onAxis a fun x => { x with envOut := out }
  if out && !was then s.fault a 0x09 0 (a / 4) else s

/-- R180, R224, R237, R267: a velocity-period boundary of local axis `a`; a commit that takes effect there comes first (R244). -/
def State.velBoundary (a : Nat) (s : State) : State :=
  let s := s.commitsNow (· == a)
  let p := s.axFbPort a
  let old := s.measPos a
  let s := if p = 0xFF ∨ !(s.enabled a) then s else s.portBoundary p (s.velPeriod a)
  let s := s.onCx a fun c => { c with pmp := c.pm, fresh := c.fresh && !c.ran }
  let s := (s.latchPos a).darnBoundary a
  if s.enabled a ∧ p ≠ 0xFF then (s.speedCheck a (s.measPos a - old)).envCheck a else s

/-- R102, R103: the position period that ends now is counted when a clamp acted in it. With COUNT 255 a saturated RUN equals COUNT in
every further period, and each escalates (DEDUCED, log 83). -/
def State.clampPeriod (a : Nat) (s : State) : State :=
  let c := (s.axis a).clamps
  let s := if c = 0 then s else s.satBump (whole (LSH_CCNT a)) 1
  let hit := c &&& s.get (LSH_ESC_MASK a) != 0
  let s := s.put (LSH_ESC_RUN a) (if hit then satAdd 8 (s.get (LSH_ESC_RUN a)) 1 else 0)
  s.onAxis a fun x => { x with clamps := 0, escDue := x.escDue || (hit && s.get (LSH_ESC_RUN a) == s.get (LSH_ESC_COUNT a)) }

/-- R182: PSP and VSP of local axis `a` are latched. -/
def State.latchSet (a : Nat) (s : State) : State :=
  let tp : Int := max 1 (s.posPeriod a : Int)
  let n : Int := max 1 ((s.profilePeriod : Int) / tp)
  let m : Int := ((s.clk.ns % max 1 s.profilePeriod : Nat) : Int) / tp
  let p := s.rd64S (PRF_SPOS a)
  let v := s.rd64S (PRF_SVEL a)
  s.onCx a fun c =>
    { c with psp := BitVec.ofInt 48 ((p * 65536 * n + v * m) / (n * 2 ^ 32)), vsp := BitVec.ofInt 32 (satSigned 32 (v / (n * 65536))) }

/-- R124: the count of position periods with a following error over FEMAX. -/
def State.followCheck (a : Nat) (s : State) : State :=
  let e := s.posAhead (s.rd64S (PRF_SPOS a)) (s.rd64S (PRF_SVEL a)) s.clk.elapsed - s.measPos a
  let big := s.axFeMax a < (e.natAbs : Int)
  s.onAxis a fun x => { x with feCount := if big && s.axFbPort a != 0xFF then (if x.feCount ≤ s.axFeTime a then x.feCount + 1 else x.feCount) else 0 }

/-- R96, R103, R180, R182, R249: a position-period boundary of local axis `a`. -/
def State.posBoundary (a : Nat) (s : State) : State :=
  let s := s.lowerAll fun o => o == .axis a
  let s := ((s.clampPeriod a).latchPos a).latchSet a
  let s := if s.enabled a then s.followCheck a else s
  if s.get (ENG_SST_STATE a) = 1 then s.drop (ENG_SST_SETTLE a) 1 else s

/-! ### The Band unit -/

/-- R194: the electrical angle extrapolated to now from the last two samples, in 2^-32 of a turn. -/
def State.bandAngle (s : State) (a : Nat) : Nat :=
  match (s.cx a).angles with
  | (e0, t0) :: (e1, t1) :: _ =>
    let d := shorterWay 32768 ((e0.toNat : Int) - (e1.toNat : Int))
    let ext := if t1 < t0 then d * ((s.clk.elapsed - t0 : Nat) : Int) * 131072 / ((t0 - t1 : Nat) : Int) else 0
    unsigned 32 ((e0.toNat : Int) * 131072 + ext)
  | (e0, _) :: [] => e0.toNat * 131072 % 2 ^ 32
  | [] => 0

/-- R191, R110: the current reference in force in the Band unit of axis `a`, DIRINV applied (log 20). -/
def State.takeRef (a : Nat) (s : State) : State :=
  s.onCx a fun c =>
    let inv := fun v : BitVec 16 => if s.axDirInv a then -v else v
    match (c.refs.filter fun r => r.2.2 + 16 ≤ s.clk.elapsed).getLast? with
    | some (d, q, _) =>
      { c with bandRef := (inv d, inv q), refTaken := true, refs := c.refs.filter fun r => decide (s.clk.elapsed < r.2.2 + 16) }
    | none => if c.refTaken then c else { c with bandRef := (c.word 0x075, c.word 0x074) }

/-- R194: the reference of phase `h` of a three-phase axis, within 1 LSB: the rounding of the transform is open (log 2, log 32). -/
def State.phaseRef (s : State) (a h w : Nat) : Int :=
  let c := s.cx a
  (nearWord (dqPhase c.bandRef.1.toInt c.bandRef.2.toInt (phaseAngle (s.bandAngle a) h)) w).toInt

/-- R195: the next state and dwell count of a phase: `e` is the fast current minus the reference. -/
def bandDecide (st w mindw : Nat) (cut : Bool) (e h : Int) : Nat × Nat :=
  let st := if cut then 1 else st
  let w := if cut then mindw else w
  if w < mindw then (st, w + 1)
  else if st = 2 ∧ h < e then (1, 1)
  else if st = 1 ∧ e < -h then (2, 1)
  else (st, w)

/-- R194 to R197: the Band unit of axis `a` decides phase `h` and sends its code. -/
def State.bandPhase (a h : Nat) (cur : Int) (s : State) : State :=
  let f := s.free 65536
  let s := s.drew 1
  let ref := if s.axBridges a = 2 then signed 16 f else s.phaseRef a h f
  let c := s.cx a
  let st := s.get (bandSt a h)
  let cut := c.bandCut.contains h
  let r := bandDecide st (tabGet 0 c.bandW h) (s.get (ENG_BAND_MINDW a)) cut (cur - ref) (s.get (ENG_BAND_HYST a) : Int)
  let s := s.onCx a fun c => { c with bandW := tabSet c.bandW h r.2, bandCut := c.bandCut.filter (· != h) }
  let s := if cut then s.satBump (ENG_BCNT_CUT a) 1 else s
  let s := if r.1 != st then s.bump (ENG_BCNT_SWITCH a) else s
  let s := s.put (bandSt a h) r.1
  let k := s.leashCompare a (if r.1 = 2 then 0xFFFFFFFF else 0)
  k.2.sendPwm a (some h) k.1

/-- R194: a Band boundary of axis `a`, with the streams of its channels; a change of BPER or WPH takes effect there first (R187). -/
def State.bandBoundary (a : Nat) (bits : List (List Bool)) (s : State) : State :=
  let s := s.takeBand a
  let v : List (Int × Bool) := s.currents a 0x0B2 bits
  let s := (s.showCurrents a true v).takeRef a
  let s := s.onCx a fun c => { c with perNum := if s.flag (PWM_AXST_EN a) then s.get (PWM_AXST_PERNUM a) else 255 }
  let s := (s.bridges a).foldl (fun s h => s.bandPhase a h (v.getD h (0, false)).1) s
  s.sendPwm a none 0

/-! ### The commands -/

/-- SLOT_INSTANCE (R183). -/
def execSlotInstance (dt : Nat) (j : Fin 256) (late : Bool) (s : State) : Host.Outcome State Fault Refusal :=
  .next ((s.elapse dt).slotInstance j late)

/-- R201, R126: the PLL of engine `k` loses its lock or finds it again. A loss by itself faults no axis; the code of the severe error is not
in the spec (log 48). -/
def State.pllEdge (k : Nat) (lost : Bool) (s : State) : State :=
  let s := s.onEng fun e => { e with clkLost := if lost then k :: e.clkLost.filter (· != k) else e.clkLost.filter (· != k) }
  if lost then (s.latch (ENG_STAT_PLLLOSS k)).severe k 0 (ENG_STAT k) else s

/-- ENGINE_PLL_LOSS (R201): the PLL of engine `k` is out of lock, or, with `lost` false, in lock again. -/
def execEnginePllLoss (dt : Nat) (k : Fin 8) (lost : Bool) (s : State) : Host.Outcome State Fault Refusal :=
  .next ((s.elapse dt).pllEdge k lost)

/-- VELOCITY_PERIOD_BOUNDARY (R180). -/
def execVelocityPeriodBoundary (dt : Nat) (a : Fin 32) (s : State) : Host.Outcome State Fault Refusal :=
  let s := s.elapse dt
  .next (if s.isLocal a && s.atBoundary (s.velPeriod a) then (s.velBoundary a).portsLatched a 2 else s)

/-- POSITION_PERIOD_BOUNDARY (R180). -/
def execPositionPeriodBoundary (dt : Nat) (a : Fin 32) (s : State) : Host.Outcome State Fault Refusal :=
  let s := s.elapse dt
  .next (if s.isLocal a && s.atBoundary (s.posPeriod a) then (s.posBoundary a).portsLatched a 4 else s)

/-- CURRENT_PERIOD_BOUNDARY (R258): `u`, `v` and `w` are the streams of the axis's three channels up to the edge before the
boundary. -/
def execCurrentPeriodBoundary (dt : Nat) (a : Fin 32) (u v w : List Bool) (s : State) : Host.Outcome State Fault Refusal :=
  let s := s.elapse dt
  .next (if s.strobeDue a then (s.strobe a [u, v, w]).portsLatched a 1 else s)

/-- BAND_BOUNDARY (R194): `u`, `v` and `w` are the streams of the axis's channels up to the edge before the boundary. -/
def execBandBoundary (dt : Nat) (a : Fin 32) (u v w : List Bool) (s : State) : Host.Outcome State Fault Refusal :=
  let s := s.elapse dt
  .next (if s.isLocal a && s.axCMode a == 2 && s.get (ENG_CST_RUN a) == 1 && !(s.eng.halted.contains (a / 4)) && s.pwmBoundaryDue a then
    s.bandBoundary a [u, v, w] else s)

end Sys2Proof.Machine
end

