-- ==== Sys2Proof/Machine/Paths.lean ====
section
/-! DEFINITION. Path groups (R155 to R164): segments, the window, and one period of the path. Positions are in 2^-32 counts. How
far the path goes in a period is free within FEED, OVR and the limits of its axes: the model draws a list of moves to a place where the
path rests and runs it when it keeps the rules, and otherwise one that keeps them (log 37). -/

namespace Sys2Proof.Machine

/-! ### Segments (R163, R168) -/

/-- The value of selector `sel` of a command. -/
def MotCmd.arg (c : MotCmd) (sel : Nat) : Option Int := (c.data.find? fun e => e.1 == sel).map (·.2)

/-- R166: does a selector appear twice? -/
def MotCmd.twice (c : MotCmd) : Bool := !(decide ((c.data.map (·.1)).Nodup))

/-- R168: the selectors that a segment requires and may carry, in a group of `nax` axes. -/
def segSels (c : MotCmd) (nax : Nat) : Option (List Nat × List Nat) :=
  match c.op with
  | 0x80 => some ([], List.range (min nax 8) ++ [0xB] ++ (if c.mode % 4 = 1 then [0xC] else []))
  | 0x81 => if 2 ≤ nax then some ([8, 9], [0, 1, 0xA, 0xB, 0xC]) else none
  | 0x82 => if 2 ≤ nax then some ([8, 9], List.range (min nax 8) ++ [0xA, 0xB, 0xC]) else none
  | 0x83 => some ([], List.range (min nax 8) ++ [0xB])
  | 0x84 => some ([0xD], [])
  | _ => none

/-- R166, R168: is a segment for group `g` well formed? `feed` is the FEED in force before it. -/
def segNamed (c : MotCmd) (g nax : Nat) (feed : Option Int) : Bool :=
  match segSels c nax with
  | none => false
  | some (req, opt) =>
    let within : Nat → Int → Int → Bool := fun sel lo hi =>
      match c.arg sel with
      | some v => decide (lo ≤ v) && decide (v ≤ hi)
      | none => true
    c.index == g && !c.twice && req.all (fun r => (c.arg r).isSome) && c.data.all (fun e => (req ++ opt).contains e.1)
      && c.mode % 4 != 3 && within 0xA 0 255 && within 0xB 1 (2 ^ 55) && within 0xC 0 (2 ^ 55)
      && within 0xD 1 (2 ^ 20) && (c.op == 0x84 || (c.arg 0xB).isSome || feed.isSome)

/-- The end positions (or the control point) of a segment that starts at `start`. A bad segment, with OP 0xFF, goes nowhere. -/
def segEnd (c : MotCmd) (start : List Int) : List Int :=
  if c.op = 0x84 ∨ c.op = 0xFF then start
  else (start.zipIdx).map fun (e : Int × Nat) =>
    match c.arg e.2 with
    | some v => if c.mode / 4 % 2 = 1 then e.1 + v * 65536 else v * 65536
    | none => e.1

/-- The Euclidean norm of the first `k` entries. -/
def normOf (k : Nat) (l : List Int) : Int := (wideSqrt ((l.take k).map fun x => (x * x).toNat).sum : Int)

/-- The entries of `a` less those of `b`. -/
def minus (a b : List Int) : List Int := (a.zip b).map fun (e : Int × Int) => e.1 - e.2

/-- R157: the norm of a displacement: over the `ngeo` geometric slots, or over all of them when those do not move. -/
def pathNorm (ngeo : Nat) (l : List Int) : Int := if (l.take ngeo).all (· == 0) then normOf 8 l else normOf ngeo l

/-- The centre of an arc. -/
def arcCentre (c : MotCmd) : Int × Int := ((c.arg 8).getD 0 * 65536, (c.arg 9).getD 0 * 65536)

/-- The distance of a point from a centre. -/
def radiusOf (p : List Int) (o : Int × Int) : Int := normOf 2 [p.getD 0 0 - o.1, p.getD 1 0 - o.2]

/-- R163: do the radii of an arc at its start and end agree? -/
def arcRadiiOk (c : MotCmd) (start : List Int) : Bool :=
  let r0 := radiusOf start (arcCentre c)
  let r1 := radiusOf (segEnd c start) (arcCentre c)
  c.op != 0x81 && c.op != 0x82 || decide (|r1 - r0| ≤ 4 * 2 ^ 32 + r0 / 1024)

/-- The angle of (x, y) in 2^-32 of a turn, within the first quadrant, bit by bit from bit `k`. -/
def angleFrom (x y : Int) : Nat → Nat → Nat
  | 0, n => n
  | k + 1, n =>
    let m := n + 2 ^ k
    if m ≤ 2 ^ 30 ∧ x * sinOf m ≤ y * sinOf (m + 2 ^ 30) then angleFrom x y k m else angleFrom x y k n

/-- The angle of (x, y) in 2^-32 of a turn. -/
def angleOf (x y : Int) : Int :=
  let q := (angleFrom |x| |y| 31 0 : Int)
  if 0 ≤ x then (if 0 ≤ y then q else -q) else if 0 ≤ y then 2 ^ 31 - q else 2 ^ 31 + q

/-- R168: the angle that an arc sweeps, in 2^-32 of a turn, signed, from `start` to its end. -/
def arcSweep (c : MotCmd) (start : List Int) : Int :=
  let o := arcCentre c
  let e := segEnd c start
  let d := (angleOf (e.getD 0 0 - o.1) (e.getD 1 0 - o.2) - angleOf (start.getD 0 0 - o.1) (start.getD 1 0 - o.2)) % 2 ^ 32
  let turns := (c.arg 0xA).getD 0 * 2 ^ 32
  if c.mode / 8 % 2 = 1 then (if d = 0 then 0 else d - 2 ^ 32) - turns else d + turns

/-- The point of an arc or helix at the part `f` (2^-64) of it. -/
def arcPoint (c : MotCmd) (start : List Int) (f : Nat) : List Int :=
  let o := arcCentre c
  let e := segEnd c start
  let r0 := radiusOf start o
  let r := r0 + (radiusOf e o - r0) * f / 2 ^ 64
  let a := ((angleOf (start.getD 0 0 - o.1) (start.getD 1 0 - o.2) + arcSweep c start * f / 2 ^ 64) % 2 ^ 32).toNat
  let line := (start.zip e).map fun (x : Int × Int) => x.1 + (x.2 - x.1) * f / 2 ^ 64
  [o.1 + r * sinOf (a + 2 ^ 30) / 2 ^ 64, o.2 + r * sinOf a / 2 ^ 64] ++ line.drop 2

/-- R164: the point of the uniform cubic B-spline with four control points at the part `t` (2^-64) of the span. -/
def splinePoint (q : List (List Int)) (t : Nat) : List Int :=
  let one : Int := 2 ^ 64
  let t : Int := t
  let b0 := (one - t) ^ 3
  let b1 := 3 * t ^ 3 - 6 * t ^ 2 * one + 4 * one ^ 3
  let b2 := -3 * t ^ 3 + 3 * t ^ 2 * one + 3 * t * one ^ 2 + one ^ 3
  let p := fun i j : Nat => (q.getD i []).getD j 0
  (List.range (q.getD 0 []).length).map fun j => (b0 * p 0 j + b1 * p 1 j + b2 * p 2 j + t ^ 3 * p 3 j) / (6 * one ^ 3)

/-- The parts (2^-64) that a run has. -/
def SegRun.total (r : SegRun) : Nat := if r.ctrl = [] then 2 ^ 64 else (r.ctrl.length - 3) * 2 ^ 64

/-- The point of a run at the part `f`. -/
def SegRun.point (r : SegRun) (c : MotCmd) (f : Nat) : List Int :=
  if r.ctrl ≠ [] then
    let k := if f = r.total then r.ctrl.length - 4 else f / 2 ^ 64
    splinePoint ((r.ctrl.drop k).take 4) (f - k * 2 ^ 64)
  else if f = 2 ^ 64 then segEnd c r.start
  else if c.op = 0x81 ∨ c.op = 0x82 then arcPoint c r.start f
  else (r.start.zip (segEnd c r.start)).map fun (x : Int × Int) => x.1 + (x.2 - x.1) * f / 2 ^ 64

/-! ### The window -/

def State.nax (s : State) (g : Nat) : Nat := s.get (PRF_GRPCFG_NAX g)
def State.ngeo (s : State) (g : Nat) : Nat := s.get (PRF_GRPCFG_NGEO g)

/-- The present set-points of the axes of group `g`. -/
def State.groupPos (s : State) (g : Nat) : List Int := (s.groupAxes g).map fun n => (s.mot n).pos

/-- Where the last segment of the window ends. -/
def State.pathEnd (s : State) (g : Nat) : List Int :=
  let x := s.grp g
  let here := if x.here = [] then s.groupPos g else x.here
  let at0 := match x.run with
    | some r => if r.tail then (r.ctrl.getLast?).getD here else r.start
    | none => match x.spline with | [_, b] => b | _ => here
  x.window.foldl (fun p c => segEnd c p) at0

/-- R161: may group `g` start with its axes as they are? -/
def State.mayStart (s : State) (g : Nat) : Bool :=
  (s.groupAxes g).all fun n =>
    s.axState n == 2 || (s.get (PRF_GRPST_STATE g) == 4 && s.axState n == 3 && (s.mot n).vel == 0 && (s.mot n).plan.isNone)

/-- R161: group `g` starts: its axes enter MOVING and their earlier motions end. -/
def State.startGroup (g tag : Nat) (s : State) : State :=
  let s := if s.get (PRF_GRPST_STATE g) = 4 then s.pushEvent 0x13 g 0 tag none else s
  let s := (s.put (PRF_GRPST_STATE g) 2).onGrp g fun x => { x with here := [], off := [], plan := [], dwelt := 0 }
  (s.groupAxes g).foldl (fun s n =>
    ((s.enter n 3).onMot n fun m => { m with plan := none, cmd := none }).put (PRF_MVST_MODE n) 0x8) s

/-- R156, R161, R163: group `g` accepts the segment `c`, whose entries were `broken` or not. -/
def State.takeSegment (g : Nat) (c : MotCmd) (broken : Bool) (s : State) : State :=
  let x := s.grp g
  let st := s.get (PRF_GRPST_STATE g)
  let s := s.bump (whole (PRF_GRPACC g))
  let named := !broken && segNamed c g (s.nax g) x.feed
  let feed := if named && c.op != 0x84 then (match c.arg 0xB with | some v => some v | none => x.feed) else x.feed
  let reason := if !named then 0x05 else if !arcRadiiOk c (s.pathEnd g) then 0x06 else 0
  let c := if reason = 0 then { c with data := c.data.filter (fun e => e.1 != 0xB) ++ [(0xB, feed.getD 0)] }
    else { c with op := 0xFF, mode := reason }
  let idle := st == 1 || st == 4
  let s := s.onGrp g fun x => { x with feed := feed }
  if idle && reason == 0 && !s.mayStart g then s.segAbort g 0x04 c.tag
  else if idle && reason != 0 then s.segAbort g reason c.tag
  else
    let s := if idle then s.startGroup g c.tag else s
    (s.onGrp g fun x => { x with window := x.window ++ [c] }).showGroup g

/-- R156: has group `g` room for a segment, in its window and its completion buffer? Not while a changeover would be disturbed
by its start (R86). -/
def State.groupTakes (s : State) (g : Nat) : Bool :=
  let st := s.get (PRF_GRPST_STATE g)
  decide (1 ≤ st) && decide (st ≤ 4) && decide ((s.grp g).window.length ≤ 64) && decide ((s.grp g).done.length < 128)
    && !(s.flag CFG_CHG_BUSY && (st == 1 || st == 4))

/-! ### The path ahead (R156 to R160, R163, R164) -/

/-- R158, R159, R163: must the path be at rest at the end of the segment `c` with `nxt` after it? -/
def stopsAfter (c : MotCmd) (nxt : Option MotCmd) : Bool :=
  match nxt with
  | none => true
  | some d => d.op == 0xFF || d.op == 0x84 || c.mode % 4 == 0

/-- Where a path stands in its window. -/
structure Trace where
  window : List MotCmd
  run : Option SegRun
  spline : List (List Int)
  here : List Int
  /-- The corner mode, TOL and FEED of the last segment that was passed. -/
  corner : Nat
  tol : Int
  feed : Int
  /-- The segments passed in this period, and the way made in each with its FEED. -/
  gone : List MotCmd := []
  legs : List (Int × Int) := []
  /-- The path stands where it must come to rest. -/
  rests : Bool := false
  deriving DecidableEq, Repr

/-- Does the run of SPLINE segments end with the point of `c`, which has `nxt` after it (R164)? -/
def splineEnds (c : MotCmd) (nxt : Option MotCmd) : Bool :=
  bit c.mode 3 || (match nxt with | some d => d.op != 0x83 | none => false)

/-- The run in execution, or that of the segment at the front. A DWELL or a bad segment has none, and a SPLINE segment none before
the next point of its run is known (R164). -/
def Trace.front (t : Trace) : Option SegRun :=
  match t.run, t.window with
  | some r, _ => some r
  | none, [] => none
  | none, c :: rest =>
    if c.op = 0xFF ∨ c.op = 0x84 then none
    else if c.op = 0x83 then
      let p := t.here
      let (q, r) : List Int × List Int := match t.spline with | [a, b] => (a, b) | _ => (p, p)
      let e := segEnd c r
      let nxt := if splineEnds c rest.head? then some e else rest.head?.map fun d => segEnd d e
      nxt.map fun n => { start := r, ctrl := if t.spline = [] then [p, p, p, e, n] else [q, r, e, n] }
    else some { start := t.here }

/-- The segment of a run. The last span of a SPLINE run lies past its last segment. -/
def Trace.seg (t : Trace) (r : SegRun) : MotCmd :=
  if r.tail then { op := 0x83, index := 0, mode := t.corner, tag := 0, data := [(0xB, t.feed)] }
  else t.window.headD { op := 0xFF, index := 0, mode := 0, tag := 0 }

/-- The end of the run `r` of the segment `c` is passed. -/
def Trace.close (t : Trace) (r : SegRun) (c : MotCmd) : Trace :=
  let p := r.point c r.total
  if r.tail then { t with run := none, here := p, rests := stopsAfter c t.window.head? }
  else
    let rest := t.window.drop 1
    let e := segEnd c r.start
    let last := c.op == 0x83 && splineEnds c rest.head?
    { t with
      window := rest, here := p, corner := c.mode % 4, tol := (c.arg 0xC).getD 0, feed := (c.arg 0xB).getD 0, gone := t.gone ++ [c]
      run := if last then some { start := e, ctrl := [r.start, e, e, e], tail := true } else none
      spline := if c.op = 0x83 ∧ !last then [r.start, e] else []
      rests := c.op != 0x83 && stopsAfter c rest.head? }

/-- R157: the path goes on by the part `f` (2^-64) of its segments, over at most `k` of them, up to a place where it must rest. -/
def Trace.go (ngeo : Nat) : Nat → Nat → Trace → Trace
  | 0, _, t => t
  | k + 1, f, t =>
    match t.front with
    | none => t
    | some r =>
      let c := t.seg r
      let left := r.total - r.done
      let p := r.point c (r.done + min f left)
      let u := { t with legs := t.legs ++ [(pathNorm ngeo (minus p t.here), (c.arg 0xB).getD 0)] }
      if f < left then { u with run := some { r with done := r.done + f }, here := p }
      else
        let v := u.close r c
        if v.rests || f = left then v else Trace.go ngeo k (f - left) v

/-- The segments that a path may pass in one period: more than its window holds. -/
def pathSegs : Nat := 70

/-- R157, R158: may the axes be off the path by `o`? By a step of rounding, on an arc by 2^-28 of its radius and one step in its two
slots (log 37), and at a blend by at most its TOL. -/
def Trace.near (t : Trace) (ngeo : Nat) (o : List Int) : Bool :=
  let c := (t.window.headD { op := 0xFF, index := 0, mode := 0, tag := 0 })
  let w : Int := match t.run with
    | some r => if c.op = 0x81 ∨ c.op = 0x82 then radiusOf r.start (arcCentre c) / 2 ^ 28 + 1 else 1
    | none => 1
  let tol := max (if t.corner = 1 then t.tol else 0) (if c.mode % 4 = 1 ∧ c.op ≠ 0x83 then (c.arg 0xC).getD 0 else 0)
  (o.zipIdx.all fun (e : Int × Nat) => decide (|e.1| ≤ if e.2 < 2 then w else 1)) || decide (pathNorm ngeo o ≤ tol)

/-- R157, R160: does the way of one period keep FEED × `ovr` / 1 024 in each segment? `ovr` is 0 while the path is brought to rest. -/
def feedKept (ovr : Nat) (legs : List (Int × Int)) : Bool :=
  let q := legs.foldl (fun (q : Int × Int) (e : Int × Int) => (q.1 * (e.2 * ovr) + e.1 * 1024 * q.2, q.2 * (e.2 * ovr))) (0, 1)
  decide (0 < q.2) && decide (q.1 ≤ q.2)

/-- The way of one period. -/
def wayOf (legs : List (Int × Int)) : Int := (legs.map (·.1)).sum

/-- The displacement of each axis when the path goes from `t` and the places `o` off it to `u` and `p`. -/
def shift (t u : Trace) (o p : List Int) : List Int :=
  (minus u.here t.here).zipIdx.map fun (e : Int × Nat) => e.1 + p.getD e.2 0 - o.getD e.2 0

/-- R133, R157 to R160, R162: may the path go on so, from `t`, `o` off it, its axes with the velocities and accelerations `va` and the
limits `lims`, and the way `way` of the last period, `gain` more than the one before? Each axis meets R133; the path keeps FEED and
OVR, or is slowing down to them; it does not stop at a blend; and it comes to rest where it must, or, when it is brought to rest
(`ovr` 0), anywhere. -/
def pathOk (lims : List MotLim) (ngeo ovr : Nat) : List (Nat × List Int) → Trace → List Int → List (Int × Int) → Int → Int → Bool
  | [], t, o, va, _, _ =>
    ((lims.zip va).all fun e => e.1.rests e.2.1 e.2.2) && (ovr == 0 || ((t.rests || t.front.isNone) && o.all (· == 0)))
  | m :: rest, t, o, va, way, gain =>
    let u := { t with legs := [], gone := [] }.go ngeo pathSegs m.1
    let d := shift t u o m.2
    let w := wayOf u.legs
    !t.rests && m.2.length == lims.length && u.near ngeo m.2
      && ((lims.zip (va.zip d)).all fun e => e.1.allows e.2.1.1 e.2.1.2 e.2.2)
      && (feedKept ovr u.legs || decide (w < way) || decide (w - way < gain))
      && !(decide (w = 0) && way != 0 && ovr != 0 && t.run.isNone && t.corner == 1 && t.window != [])
      && pathOk lims ngeo ovr rest u m.2 ((va.zip d).map fun e => (e.2, e.2 - e.1.1)) w (w - way)

/-- Where the path of group `g` stands. -/
def State.trace (s : State) (g : Nat) : Trace :=
  let x := s.grp g
  { window := x.window, run := x.run, spline := x.spline, here := if x.here = [] then s.groupPos g else x.here, corner := x.lastCorner,
    tol := x.lastTol, feed := x.lastFeed }

/-- The limits of the axes of group `g` (R133, R134). -/
def State.groupLims (s : State) (g : Nat) : List MotLim :=
  (s.groupAxes g).map fun n => s.planLim n {} (s.mot n).vel (s.mot n).acc

/-- May the path of group `g` go on with the moves `p`? -/
def State.pathTakes (s : State) (g ovr : Nat) (p : List (Nat × List Int)) : Bool :=
  let x := s.grp g
  pathOk (s.groupLims g) (s.ngeo g) ovr p (s.trace g) x.off ((s.groupAxes g).map fun n => ((s.mot n).vel, (s.mot n).acc)) x.speed x.gain

/-- Moves on the path of group `g` that keep the rules, of at most 2^20 periods, if there are any. -/
def State.somePath (s : State) (g ovr : Nat) : Option (List (Nat × List Int)) :=
  let on : List Nat → List (Nat × List Int) := fun r => r.map fun f => (f, List.replicate (s.nax g) 0)
  (someList (fun r => s.pathTakes g ovr (on r)) (pathSegs * 2 ^ 64) (2 ^ 20) []).map on

/-- R157 to R160: the moves of group `g` from here on: those drawn when they keep the rules, else those planned before, else others that
keep them, if there are any. A window that has grown since is planned anew. -/
def State.movesUnder (s : State) (g ovr : Nat) : Option (List (Nat × List Int)) :=
  let cand := Config.freePath s.fresh
  let kept := (s.grp g).plan
  if s.pathTakes g ovr cand then some cand else if s.pathTakes g ovr kept then some kept else s.somePath g ovr

/-- The same; a path that cannot go on, as when the ceiling of an axis is 0, comes to rest where it is (R132). -/
def State.pathMoves (s : State) (g ovr : Nat) : List (Nat × List Int) :=
  (s.movesUnder g ovr).getD ((s.movesUnder g 0).getD (s.grp g).plan)

/-- R132, R138: PRF_MVST.CEIL of the axes of group `g` that are over their ceiling, or whose ceiling is 0. -/
def State.pathCeil (g : Nat) (s : State) : State :=
  (s.groupAxes g).foldl (fun s n =>
    if s.ceiling n < |(s.mot n).vel| ∨ s.ceiling n = 0 then s.latch (PRF_MVST_CEIL n) else s) s

/-! ### One period of the path -/

/-- R156: a segment of group `g` is executed. -/
def State.segExecuted (g : Nat) (c : MotCmd) (s : State) : State :=
  let s := (s.bump (whole (PRF_GRPEXE g))).onGrp g fun x =>
    { x with window := x.window.drop 1, lastTag := c.tag, lastCorner := c.mode % 4, lastTol := (c.arg 0xC).getD 0, lastFeed := (c.arg 0xB).getD 0 }
  (s.showGroup g).segEvent g 0x10 0 c.tag

/-- The path of group `g` makes the move `m`, and the moves `rest` are planned after it. -/
def State.pathMove (g : Nat) (m : Nat × List Int) (rest : List (Nat × List Int)) (s : State) : State :=
  let t := s.trace g
  let u := t.go (s.ngeo g) pathSegs m.1
  let d := shift t u (s.grp g).off m.2
  let w := wayOf u.legs
  let s := u.gone.foldl (fun s c => s.segExecuted g c) s
  let s := s.onGrp g fun x =>
    { x with run := u.run, spline := u.spline, here := u.here, off := m.2, plan := rest, gain := w - x.speed, speed := w }
  ((s.groupAxes g).zip d).foldl (fun s (e : Nat × Int) => s.setVel e.1 e.2) s

/-- The path of group `g` stands still in this period. -/
def State.pathStill (g : Nat) (s : State) : State :=
  (s.groupAxes g).foldl (fun s n => s.setVel n 0) (s.onGrp g fun x => { x with gain := -x.speed, speed := 0, plan := [] })

/-- R163: the bad segments at the front of the window of group `g`, whose path is at rest, are aborted. -/
def State.dropBad (g : Nat) : Nat → State → State
  | 0, s => s
  | k + 1, s =>
    match (s.grp g).window with
    | c :: rest =>
      if c.op = 0xFF ∧ (s.grp g).run.isNone then
        State.dropBad g k (((s.onGrp g fun x => { x with window := rest, lastTag := c.tag, lastCorner := 0, spline := [] }).showGroup
          g).segAbort g c.mode c.tag)
      else s
    | [] => s

/-- R168: one period of the DWELL `c` of group `g`. -/
def State.dwell (g : Nat) (c : MotCmd) (s : State) : State :=
  let n := (s.grp g).dwelt + 1
  if ((c.arg 0xD).getD 0).toNat ≤ n then (s.onGrp g fun x => { x with dwelt := 0 }).segExecuted g c
  else s.onGrp g fun x => { x with dwelt := n }

/-- R159: the path of group `g` has no segment left and is at rest: IDLE after an exact stop, else STARVED. -/
def State.pathOut (g : Nat) (s : State) : State :=
  let x := s.grp g
  let s := (s.groupAxes g).foldl (fun s n => s.put (PRF_MVST_MODE n) 0) s
  if x.lastCorner = 0 then s.put (PRF_GRPST_STATE g) 1
  else (s.put (PRF_GRPST_STATE g) 4).pushEvent 0x12 g 0 x.lastTag none

/-- One period of path group `g`. -/
def State.pathStep (g : Nat) (s : State) : State :=
  let st := s.get (PRF_GRPST_STATE g)
  if st = 5 ∧ (s.grp g).aborting ≠ some 1 then s.groupFinish g
  else if st = 2 ∨ st = 3 ∨ st = 5 then
    let s := if st = 3 ∧ (s.grp g).ovr ≠ 0 then s.put (PRF_GRPST_STATE g) 2 else s
    let ovr := if st = 5 then 0 else (s.grp g).ovr
    let s := if (s.grp g).speed = 0 ∧ st ≠ 5 then s.dropBad g pathSegs else s
    let x := s.grp g
    let dwell := match x.run, x.window with | none, c :: _ => if c.op = 0x84 then some c else none | _, _ => none
    let still := x.speed = 0 && ovr = 0
    let s :=
      if x.plan = [] ∧ x.speed ≠ 0 then s.pathStill g
      else match dwell, st with
        | some c, 2 => if x.speed = 0 then (s.pathStill g).dwell g c else s.pathStill g
        | some c, 3 => (s.pathStill g).dwell g c
        | _, _ =>
          if still then s.pathStill g
          else match s.pathMoves g ovr with
            | [] => ((s.pathCeil g).drew 1).pathStill g
            | m :: rest => ((s.pathCeil g).drew 1).pathMove g m rest
    let x := s.grp g
    if st = 5 then s.groupFinish g
    else if x.speed ≠ 0 then s
    else if x.window = [] ∧ x.run.isNone then s.pathOut g
    else if ovr = 0 ∧ !dwell.isSome then s.put (PRF_GRPST_STATE g) 3
    else s
  else if st = 4 then (s.groupAxes g).foldl (fun s n => s.setVel n 0) s
  else s

/-! ### Writes of the group registers (R155, R160) -/

/-- R155: may group `g` name these axes? Each is bound to no other group, and is DISABLED or STANDSTILL. -/
def State.axesFree (s : State) (g : Nat) (l : List Nat) : Bool :=
  l.all fun n => (s.axState n == 0 || s.axState n == 2) && (match s.groupOf n with | some h => h == g | none => true)

/-- Show the group of each axis. -/
def State.showBinding (s : State) : State :=
  (List.range 256).foldl (fun s n =>
    match s.groupOf n with
    | some g => if s.flag (PRF_MVST_INGRP n) && s.get (PRF_MVST_GRP n) == g then s else (s.mark (PRF_MVST_INGRP n) true).put (PRF_MVST_GRP n) g
    | none => if s.flag (PRF_MVST_INGRP n) then (s.mark (PRF_MVST_INGRP n) false).put (PRF_MVST_GRP n) 0 else s) s

/-- R155: a write of PRF_GRPAX[g], 64 bits. -/
def State.writeGroupAxes (who : Accessor) (g v : Nat) (s : State) : State :=
  let l := (List.range (s.nax g)).map fun i => v / 256 ^ i % 256
  if s.get (PRF_GRPST_STATE g) ≤ 1 ∧ s.axesFree g l then (s.wr64 (PRF_GRPAX g) v).showBinding
  else s.accessError who 4 (PRF_GRPAX g) v

/-- R155: a write of PRF_GRPCFG[g]: NAX and NGEO. -/
def State.writeGroupCfg (who : Accessor) (g v : Nat) (s : State) : State :=
  let nax := v % 16
  let ngeo := v / 16 % 8
  let l := (List.range nax).map fun i => s.slotAxis g i
  if s.get (PRF_GRPST_STATE g) ≤ 1 ∧ nax ≤ 8 ∧ (nax = 0 ∨ (1 ≤ ngeo ∧ ngeo ≤ 3)) ∧ (nax = 0 ∨ s.qCap (0x10 + g) ≠ 0) ∧ s.axesFree g l then
    (((s.put (PRF_GRPCFG_NAX g) nax).put (PRF_GRPCFG_NGEO g) ngeo).put (PRF_GRPST_STATE g) (if nax = 0 then 0 else 1)).showBinding
  else s.accessError who 4 (PRF_GRPCFG g) v

/-- R160: a write of PRF_GRPOVR[g]; one above 0x800 is ignored. -/
def State.writeOverride (g v : Nat) (s : State) : State :=
  if v % 4096 ≤ 0x800 then s.put (PRF_GRPOVR_OVR g) v else s

end Sys2Proof.Machine
end

