-- ==== Sys2Proof/Machine/Endpoints.lean ====
section
/-! DEFINITION. What the firmware does for the service port when a push or a pop of its own completes (R479, R480, R484). -/

namespace Sys2Proof.Machine

/-- Change the service port's state. -/
def State.sv (f : Svc → Svc) (s : State) : State := s.onSvc f

/-- R479: a service frame. -/
def svcFrame (cmd flags status seq : Nat) (body : List Byte) : List Byte :=
  let h := leBytes 1 1 ++ leBytes 1 cmd ++ leBytes 1 flags ++ leBytes 1 status ++ leBytes 2 seq ++ leBytes 2 body.length ++ body
  h ++ leBytes 4 (crc32c h)

/-- R81, R478: what MRAM holds of the network (IP, MASK, GW, PORT from offset 0), or the defaults where it holds none:
169.254.32.56, 255.255.0.0 and port 7741. -/
def State.netField (s : State) (o dflt : Nat) : Nat :=
  match s.boot.net with
  | some l => if o = 12 then leAt l 12 2 else ofBe (slice l o 4)
  | none => dflt

def State.ownIp (s : State) : Nat := s.netField 0 0xA9FE2038
def State.ownMask (s : State) : Nat := s.netField 4 0xFFFF0000
def State.gateway (s : State) : Nat := s.netField 8 0
def State.ownPort (s : State) : Nat := s.netField 12 7741

/-- R478: the next hop on the way to the address `ip`: itself in the own subnet, else the gateway. -/
def State.nextHop (s : State) (ip : Nat) : Nat := if ip &&& s.ownMask = s.ownIp &&& s.ownMask then ip else s.gateway

/-- R480: the response `f` to the last request of `w` is kept and sent. -/
def State.svcSend (w : SvcFrom) (f : List Byte) (s : State) : State :=
  s.sv fun x =>
    { x with sent := some f, answered := true, via := s.nextHop w.ip, ends := x.ends.map fun e => if e.who = w then { e with resp := some f } else e }

/-- R394: a reply of the member to its master waits. -/
def State.svReply (mtype mseq stat : Nat) (data : List Byte) (s : State) : State :=
  s.onRing fun r => { r with replies := r.replies ++ [{ mtype := mtype, seq := mseq, stat := stat, data := data }] }

/-- R484: the push of core `c` ends with RESULT `r`: a MOTION that waited for it is answered. -/
def State.motionDone (c r : Nat) (s : State) : State :=
  match s.svc.motions.find? fun m => m.core == c with
  | none => s
  | some m =>
    let s := s.sv fun x => { x with motions := x.motions.filter fun y => y.core != c }
    let body := leBytes 4 r
    if m.who.ring then s.svReply 4 m.mseq 0 (svcFrame 6 5 0 m.seq body)
    else s.svcSend m.who (svcFrame 6 1 0 m.seq body)

/-- R484: an event that the firmware has popped from queue 0x01 goes to the host buffer; a full buffer drops its oldest entry. -/
def State.hostEvent (e : BitVec 64) (s : State) : State :=
  s.sv fun x =>
    let l := x.events ++ [e]
    if 1024 < l.length then { x with events := l.drop 1, lost := satAdd 16 x.lost 1 } else { x with events := l }

end Sys2Proof.Machine
end

