-- ==== Sys2Proof/Machine/Queues.lean ====
section
/-! DEFINITION. The queue fabric's commands: pushes and pops of service cores, spill bursts and flushes (R335 to R350). -/

namespace Sys2Proof.Machine

/-- R340, R484: show the result of a push of core `c`; a MOTION that waited for it is answered. -/
def State.pushResult (c q : Nat) (busy : Bool) (r : Nat) (s : State) : State :=
  let s := ((s.mark (QUE_PRES_BUSY c) busy).put (QUE_PRES_RESULT c) r).put (QUE_PRES_Q c) q
  if busy then s else s.motionDone c r

/-- R340: the first `n` staged entries of core `c`, VALID forced to 1. -/
def State.staged (s : State) (c n : Nat) : List (BitVec 64) :=
  (List.range n).map fun i => entry (tabGet 0 s.que.stage (16 * c + i)).toNat

/-- R340: the count that N names: 0 for 16. -/
def pushCount (n : Nat) : Nat := if n % 16 = 0 then 16 else n % 16

/-- R340: a trying push of core `c`. -/
def State.corePushTry (c q n : Nat) (s : State) : State :=
  if s.flag (QUE_PRES_BUSY c) then s.accessError (.core (Fin.ofNat 4 c)) 4 (QUE_PGO c) (n % 16 * 256 + q)
  else
    let r := s.tryPush 1 q (s.staged c (pushCount n))
    r.2.pushResult c q false r.1

/-- R338, R340: the waiting push of queue `q` that is accepted next: in round-robin order after the core accepted last, the
first that fits. -/
def State.nextWait (s : State) (q : Nat) : Option (Nat × WaitPush) :=
  let l := tabGet 3 s.que.lastCore q
  (List.range 4).findSome? fun i =>
    let c := (l + 1 + i) % 4
    match tabFind s.que.waits c with
    | some w => if w.q = q && s.canPush q w.entries.length then some (c, w) else none
    | none => none

/-- R338, R340: a waiting push of core `c`; producers that wait already and fit go first. -/
def State.corePushWait (c q n : Nat) (s : State) : State :=
  if s.flag (QUE_PRES_BUSY c) then s.accessError (.core (Fin.ofNat 4 c)) 4 (QUE_PGO c) (2 ^ 31 + n % 16 * 256 + q)
  else
    match s.pushCheck 1 q with
    | 0x1 =>
      let es := s.staged c (pushCount n)
      if s.canPush q es.length && (s.nextWait q).isNone then
        ((s.enqueue q es).onQue fun w => { w with lastCore := tabSet w.lastCore q c }).pushResult c q false 0x1
      else (s.onQue fun w => { w with waits := tabSet w.waits c { q := q, entries := es } }).pushResult c q true 0x2
    | r => s.pushResult c q false r

/-- R338: accept one waiting push of queue `q`. -/
def State.acceptWait (q : Nat) (s : State) : State :=
  match s.nextWait q with
  | none => s
  | some (c, w) =>
    ((s.enqueue q w.entries).onQue fun u =>
      { u with waits := tabDel u.waits c, lastCore := tabSet u.lastCore q c }).pushResult c q false 0x1

/-- R340: CANCEL withdraws the pending push of core `c`. -/
def State.cancelPush (c : Nat) (s : State) : State :=
  match tabFind s.que.waits c with
  | none => s
  | some w => (s.onQue fun u => { u with waits := tabDel u.waits c }).pushResult c w.q false 0x3

/-- R341, R10, R484: a pop returns `e` to reader `r`: the low word at once, the high word in the reader's shadow. The firmware copies an
event of queue 0x01 into the host buffer. -/
def State.popReturn (r q : Nat) (e : BitVec 64) (s : State) : State :=
  let s := if q = 1 ∧ r < 4 ∧ e.getLsbD 63 then s.hostEvent e else s
  s.onBus fun b =>
    { b with
      lastRead := e.toNat % 2 ^ 32
      shadow := tabSet b.shadow r [{ addr := QUE_POP q + 4, value := BitVec.ofNat 32 (e.toNat / 2 ^ 32) }] }

/-- R337: may this accessor pop from queue `q`? Only a source of its consumer class: a service core of class 0x1. -/
def State.mayPop (s : State) (who : Accessor) (q : Nat) : Bool :=
  match who with
  | .core _ => s.get (QUE_CFG_CONS q) == 1
  | _ => false

/-- R341: the reader whose held pop of queue `q` completes next: in round-robin order after the one that completed last. -/
def State.nextHeld (s : State) (q : Nat) : Option Nat :=
  let l := tabGet 3 s.que.lastPop q
  ((List.range 4).map fun i => (l + 1 + i) % 4).find? fun r => s.que.heldPops.contains (r, q)

/-- R341: a pop of queue `q` by a reader; one that finds others held waits with them. -/
def State.pop (who : Accessor) (q : Nat) (s : State) : State :=
  let r := accId who
  if !s.mayPop who q then (s.accessError who 4 (QUE_POP q) 0).popReturn r q 0
  else if s.get (QUE_ST_DEPTH q) = 0 then (s.satBump (QUE_ERR_EMPTY q) 1).popReturn r q 0
  else if s.flag (QUE_CFG_BROKEN q) then s.popReturn r q 0
  else
    match (s.qData q).head with
    | [] => (s.spillFetch q).onQue fun w => { w with heldPops := w.heldPops ++ [(r, q)] }
    | _ =>
      if (s.nextHeld q).isSome then s.onQue fun w => { w with heldPops := w.heldPops ++ [(r, q)] }
      else
        let x := s.dequeue q
        x.2.popReturn r q x.1

/-- R341: the held pop of queue `q` whose turn has come completes when its entry has arrived. -/
def State.heldPop (q : Nat) (s : State) : State :=
  match s.nextHeld q with
  | none => s
  | some r =>
    let h := (r, q)
    let drop := fun s : State => s.onQue fun w => { w with heldPops := w.heldPops.erase h, lastPop := tabSet w.lastPop q r }
    if s.flag (QUE_CFG_BROKEN q) then (drop s).popReturn h.1 q 0
    else if s.get (QUE_ST_DEPTH q) = 0 then ((drop s).satBump (QUE_ERR_EMPTY q) 1).popReturn h.1 q 0
    else
      match (s.qData q).head with
      | [] => s
      | _ =>
        let x := (drop s).dequeue q
        x.2.popReturn h.1 q x.1

/-- R344: the burst of `tag` is complete: its tag is free again. -/
def State.freeBurst (tag : Nat) (s : State) : State :=
  (s.onQue fun w => { w with bursts := w.bursts.filter fun b => b.tag != tag }).showBursts

/-- R345: an uncorrected ECC error in a spill burst of queue `q`: the queue is broken and the 8 entries are lost. -/
def State.breakQueue (q lost : Nat) (s : State) : State :=
  let s := (s.mark (QUE_CFG_BROKEN q) true).guardEnd 0x1 0x16
  let s := s.setDepth q (s.get (QUE_ST_DEPTH q) - lost)
  (s.que.waits.filter fun w => w.2.q == q).foldl (fun s w =>
    (s.onQue fun u => { u with waits := tabDel u.waits w.1 }).pushResult w.1 q false 0xA) s

/-- R343 to R345: a burst read completes; its entries enter the head in order, unless they were flushed or in error. -/
def State.spillRead (tag : Nat) (ecc : Bool) (s : State) : State :=
  match s.que.bursts.find? fun b => b.tag == tag && !b.wr with
  | none => s.orphanOp 1 0x16 tag
  | some b =>
    let n := b.entries.length
    let d := s.qData b.q
    let s := s.freeBurst tag
    if ecc then
      (s.setQ b.q { d with ringRd := d.ringRd + n, ringCount := d.ringCount - n }).breakQueue b.q n
    else if n = 0 then (s.settle b.q).spillFetch b.q
    else
      ((s.setQ b.q { d with head := d.head ++ b.entries, ringRd := d.ringRd + n, ringCount := d.ringCount - n }).settle
        b.q).spillFetch b.q

/-- R344: a write burst completes. -/
def State.spillWriteDone (tag : Nat) (s : State) : State :=
  match s.que.bursts.find? fun b => b.tag == tag && b.wr with
  | none => s.orphanOp 1 0x16 tag
  | some b => (s.freeBurst tag).spillFetch b.q

/-- R343: the tail of queue `q` holds 8 entries that cannot go directly to the head: they are written in one burst. -/
def State.spillTail (q : Nat) (s : State) : State :=
  let s := s.settle q
  if 8 ≤ (s.qData q).tail.length then (s.spillWrite q).spillFetch q else s

/-- R350: remove every entry of queue `q`; a burst on its way for it brings nothing any more, and its held pops return
VALID 0. -/
def State.flush (q : Nat) (s : State) : State :=
  let d := s.qData q
  let n := s.get (QUE_ST_DEPTH q)
  let s := s.setQ q { ringRd := d.ringRd + d.ringCount }
  let s := s.onQue fun w => { w with bursts := w.bursts.map fun b => if b.q = q && !b.wr then { b with entries := [] } else b }
  let s := (s.wr (QUE_POPC q) (s.rd (QUE_POPC q) + n)).setDepth q 0
  (s.que.heldPops.filter fun h => h.2 == q).foldl (fun s h =>
    (s.onQue fun w => { w with heldPops := w.heldPops.erase h }).popReturn h.1 q 0) s

/-- R350: a flush by core `c`: only a writer of the consumer class. -/
def State.coreFlush (c q : Nat) (s : State) : State :=
  if s.get (QUE_CFG_CONS q) = 1 then s.flush q else s.accessError (.core (Fin.ofNat 4 c)) 4 (QUE_FLUSH q) 1

/-- TRYING_PUSH (R339). -/
def execTryingPush (dt : Nat) (c : Fin 4) (q : Fin 64) (n : Fin 16) (s : State) : Host.Outcome State Fault Refusal :=
  .next ((s.elapse dt).corePushTry c q n)

/-- WAITING_PUSH (R340). -/
def execWaitingPush (dt : Nat) (c : Fin 4) (q : Fin 64) (n : Fin 16) (s : State) : Host.Outcome State Fault Refusal :=
  .next ((s.elapse dt).corePushWait c q n)

/-- WAITING_PUSH_ACCEPT (R338). -/
def execWaitingPushAccept (dt : Nat) (q : Fin 64) (s : State) : Host.Outcome State Fault Refusal :=
  .next ((s.elapse dt).acceptWait q)

/-- PUSH_CANCEL (R340). -/
def execPushCancel (dt : Nat) (c : Fin 4) (s : State) : Host.Outcome State Fault Refusal :=
  .next ((s.elapse dt).cancelPush c)

/-- POP (R341). -/
def execPop (dt : Nat) (who : Accessor) (q : Fin 64) (s : State) : Host.Outcome State Fault Refusal :=
  .next ((s.elapse dt).pop who q)

/-- HELD_POP_COMPLETE (R341). -/
def execHeldPopComplete (dt : Nat) (q : Fin 64) (s : State) : Host.Outcome State Fault Refusal :=
  .next ((s.elapse dt).heldPop q)

/-- SPILL_WRITE (R343). -/
def execSpillWrite (dt : Nat) (q : Fin 64) (s : State) : Host.Outcome State Fault Refusal :=
  .next ((s.elapse dt).spillTail q)

/-- SPILL_WRITE_COMPLETE (R344). -/
def execSpillWriteComplete (dt : Nat) (tag : Fin 128) (s : State) : Host.Outcome State Fault Refusal :=
  .next ((s.elapse dt).spillWriteDone tag)

/-- FLUSH (R350). -/
def execFlush (dt : Nat) (c : Fin 4) (q : Fin 64) (s : State) : Host.Outcome State Fault Refusal :=
  .next ((s.elapse dt).coreFlush c q)

end Sys2Proof.Machine
end

