-- ==== Sys2Proof/Machine/MotionCmd.lean ====
section
/-! DEFINITION. The motion commands of queue 0x00 (R136, R139 to R148, R165 to R168, R281): their checks and what each starts. -/

namespace Sys2Proof.Machine

/-! ### Checks (R123, R141, R144, R166, R167) -/

/-- R167: the selectors that an OP with a MODE requires and may carry; none for an unknown OP. -/
def cmdSels (op mode : Nat) : Option (List Nat × List Nat) :=
  let at1 := if mode % 4 = 1 then [8, 9] else []
  match op with
  | 0x01 => some ([0], [1, 2, 3, 4])
  | 0x02 => some ([0], [1, 2, 3, 4])
  | 0x03 => some ([1], [2, 3, 4])
  | 0x04 => some ([], [3, 4])
  | 0x05 => some ([0], [])
  | 0x06 => some ([0, 1], [2, 3, 4])
  | 0x10 => some ([5, 6, 7], at1)
  | 0x11 => some ([5, 0xA, 0xB, 0xC], at1)
  | 0x12 => some ([], [3, 4] ++ (if mode % 4 = 2 then [8] else []))
  | 0x13 => some ([0], [1, 2, 3, 4])
  | 0x20 => some ([1], [2, 4])
  | 0x21 => some ([0], [])
  | 0x30 => some ([], [])
  | _ => none

/-- R166: is the command malformed? -/
def MotCmd.malformed (c : MotCmd) : Bool :=
  c.twice ||
    (match cmdSels c.op c.mode with
     | some (req, opt) => !(req.all fun r => (c.arg r).isSome) || !(c.data.all fun e => (req ++ opt).contains e.1)
     | none => false)

/-- The state that counts for a motion command: a coupling that engages in this period has entered CYCLIC (R26). -/
def State.cmdState (s : State) (n : Nat) : Nat :=
  match (s.mot n).next with
  | some (4, _) => if s.axState n = 2 ∨ s.axState n = 3 then 4 else s.axState n
  | _ => s.axState n

/-- R167: does the state of axis `n` accept the OP? A brake that engages for a disable holds the axis (log 38). -/
def State.accepts (s : State) (n op : Nat) : Bool :=
  let st := s.cmdState n
  !((s.axis n).disabling && op != 0x05) &&
    (match op with
     | 0x01 => st == 2 || st == 3
     | 0x02 => st == 2 || st == 3
     | 0x03 => st == 2 || st == 3
     | 0x05 => st == 0 || st == 2
     | 0x06 => st == 2
     | 0x12 => st == 4
     | 0x13 => st == 4
     | _ => st == 2 || st == 3 || st == 4)

/-- R139: is a target in the range of `n`? -/
def State.inRangeOf (s : State) (n : Nat) (v : Int) : Bool :=
  s.motMod n ≤ 0 || (decide (0 ≤ v) && decide (v * 65536 < s.motMod n))

/-- R167: is a value of the command out of its range? -/
def State.outOfRange (s : State) (n : Nat) (c : MotCmd) : Bool :=
  let neg := fun sel => match c.arg sel with | some v => decide (v ≤ 0) | none => false
  let minus1 := fun sel => match c.arg sel with | some v => decide (v < 0) | none => false
  neg 2 || neg 3 || neg 4 || (c.op != 0x03 && c.op != 0x20 && minus1 1) ||
    (match c.op with
     | 0x01 => decide (3 < c.mode) || !s.inRangeOf n ((c.arg 0).getD 0)
     | 0x05 => !s.inRangeOf n ((c.arg 0).getD 0)
     | 0x21 => !s.inRangeOf n ((c.arg 0).getD 0)
     | 0x06 =>
       decide (32 ≤ n) || s.flag (FBK_PRCFG_ARM c.mode) || s.flag (FBK_PRCFG_OWN c.mode) || !s.inRangeOf n ((c.arg 0).getD 0)
     | 0x12 => c.mode % 4 == 3
     | 0x10 =>
       decide (1 < c.mode % 4) || minus1 9 || decide ((c.arg 7).getD 0 < 1) || decide (2 ^ 32 ≤ (c.arg 7).getD 0)
         || decide ((c.arg 6).getD 0 < -(2 ^ 31)) || decide (2 ^ 31 ≤ (c.arg 6).getD 0)
     | 0x11 => decide (1 < c.mode % 4) || minus1 9 || minus1 0xA || decide (255 < (c.arg 0xA).getD 0)
     | _ => false)

/-- The master's selector in a command, with its high bits. -/
def MotCmd.selector (c : MotCmd) : Nat := unsigned 56 ((c.arg 5).getD 0)

/-- R167: does MPOS lie outside the range of the master `sel`? -/
def State.mposOut (s : State) (sel : Nat) (c : MotCmd) : Bool :=
  let m := s.masterMod sel
  match c.arg 8 with
  | some v => decide (0 < m) && (decide (v < 0) || decide (m ≤ v * 65536))
  | none => false

/-- R141, R144: why a coupling command is rejected: 0x06, 0x05 or 0x07; 0 when it is not. -/
def State.couplingCheck (s : State) (n : Nat) (c : MotCmd) : Nat :=
  let sel := c.selector
  if !s.masterNamed sel || !s.chainOk n 4 sel then 0x06
  else if s.mposOut sel c then 0x05
  else if c.op = 0x11 then
    match s.cam ((c.arg 0xA).getD 0).toNat with
    | none => 0x07
    | some t => if 0 < s.masterMod sel ∧ s.masterMod sel % t.mspan ≠ 0 then 0x07 else 0
  else 0

/-- Why axis `n` rejects a command; 0 when it does not (Rejection reasons, R86, R123, R161). -/
def State.axisRejects (s : State) (n : Nat) (c : MotCmd) : Nat :=
  let leaves := [0x01, 0x02, 0x03, 0x06, 0x10, 0x11, 0x13].contains c.op
  if leaves && s.flag CFG_CHG_BUSY && s.axState n == 2 then 0x09
  else if (match s.groupOf n with | some g => decide (2 ≤ s.get (PRF_GRPST_STATE g)) && decide (s.get (PRF_GRPST_STATE g) ≤ 4) | none => false) then 0x0A
  else if !s.accepts n c.op then
    (if (s.axis n).moved ≠ 0 then 0x08 else if s.cmdState n = 4 then 0x04 else 0x03)
  else if s.outOfRange n c then 0x05
  else if c.op = 0x10 ∨ c.op = 0x11 then s.couplingCheck n c
  else if c.op = 0x12 then (match (s.mot n).cpl with | some k => if s.mposOut k.master c then 0x05 else 0 | none => 0)
  else 0

/-- R140, R167: why virtual master `k` rejects a command; 0 when it does not. -/
def State.vmRejects (s : State) (k : Nat) (c : MotCmd) : Nat :=
  let m := s.mot (256 + k)
  if 8 ≤ k ∨ !s.flag (PRF_VMST_EN k) then 0x03
  else if c.op = 0x21 ∧ (m.vel ≠ 0 ∨ m.cmd.isSome) then 0x03
  else if s.outOfRange (256 + k) c then 0x05
  else 0

/-- Why a command is rejected; 0 when it is not. -/
def State.cmdRejects (s : State) (c : MotCmd) : Nat :=
  if c.malformed then 0x01
  else if (cmdSels c.op c.mode).isNone then 0x02
  else if c.op = 0x20 ∨ c.op = 0x21 then s.vmRejects c.index c
  else if c.op = 0x30 then
    (if c.index < 16 ∧ 2 ≤ s.get (PRF_GRPST_STATE c.index) ∧ s.get (PRF_GRPST_STATE c.index) ≤ 4 then 0 else 0x03)
  else s.axisRejects c.index c

/-! ### What a command starts -/

/-- R136: the executing command of `n`, or its engage that waits for MPOS, is superseded. -/
def State.supersede (n : Nat) (s : State) : State :=
  let x := s.mot n
  let s := match x.cmd with
    | some c => ((s.releaseProbe n).onMot n fun m => { m with cmd := none }).pushEvent 0x03 n 0 c.tag none
    | none => s
  match x.cpl with
  | some k =>
    if k.engage = .waiting then
      ((s.onMot n fun m => { m with cpl := none }).put (PRF_MVST_MASTER n) 0).pushEvent 0x03 n 0 k.tag none
    else s
  | none => s

/-- R136, R167: a motion of `n` with the V, A, D and J that the command gives. `dist` is the distance, or `speed` the speed. -/
def MotCmd.plan (c : MotCmd) (dist : Option Int) (speed : Int) : Plan :=
  { target := dist, speed := speed, v := (if c.op = 0x03 ∨ c.op = 0x20 ∨ c.op = 0x06 then none else c.arg 1),
    a := c.arg 2, d := c.arg 3, j := c.arg 4 }

/-- R136: `n` executes the command `c` with the motion `p`. -/
def State.startPlan (n : Nat) (c : MotCmd) (p : Plan) (s : State) : State :=
  (s.supersede n).onMot n fun m => { m with cmd := some c, plan := some p }

/-- An axis starts to move: MOVING, and MODE shows how. -/
def State.startAxis (n mode : Nat) (c : MotCmd) (p : Plan) (s : State) : State :=
  (((s.startPlan n c p).setMode n mode c.tag)).enter n 3

/-- R139: the distance from `pos` to the target `t` of MOVE_ABS (both 2^-32 counts) on the way that MODE names. -/
def absDistance (m mode : Nat) (pos t : Int) : Int :=
  if m = 0 ∨ mode = 3 then t - pos
  else
    let d := (t - pos) % (m : Int)
    match mode with
    | 0 => shorterWay m (t - pos)
    | 1 => d
    | _ => if d = 0 then 0 else d - m

/-- The set-point position of `n`, as a redefinition that waits for the next boundary will have it (R26). -/
def State.posNext (s : State) (n : Nat) : Int := s.intoRange n ((s.mot n).pos + ((s.mot n).redef).getD 0)

/-- MOVE_ABS (R139). -/
def State.cmdMoveAbs (n : Nat) (c : MotCmd) (s : State) : State :=
  s.startAxis n 0x1 c (c.plan (some (absDistance (s.motMod n).toNat c.mode (s.posNext n) ((c.arg 0).getD 0 * 65536))) 0)

/-- MOVE_REL (R167). -/
def State.cmdMoveRel (n : Nat) (c : MotCmd) (s : State) : State :=
  s.startAxis n 0x1 c (c.plan (some ((c.arg 0).getD 0 * 65536)) 0)

/-- R167: the speed of a velocity move, reduced to the axis's limit. -/
def State.speedOf (s : State) (n : Nat) (v : Int) : Int :=
  let m := if n < 256 then s.axVMax n else s.rd64S (PRF_VMVMAX (n - 256))
  clampInt (-m) m v

/-- MOVE_VEL (R167). -/
def State.cmdMoveVel (n : Nat) (c : MotCmd) (s : State) : State :=
  s.startAxis n 0x2 c (c.plan none (s.speedOf n ((c.arg 1).getD 0)))

/-- STOP (R146, R167): of a coupled axis, DECOUPLE with DMODE STOP. -/
def State.cmdStop (n : Nat) (c : MotCmd) (s : State) : State :=
  if s.cmdState n = 4 then
    (s.decoupleStop n 0x00 c.tag (c.arg 3) (c.arg 4)).onMot n fun m => { m with cmd := some c }
  else (s.startPlan n c { d := c.arg 3, j := c.arg 4 }).setMode n 0x3 c.tag

/-- SET_POS and VM_SET (R167): the position is redefined from the next period; DONE at once. The set-point of a DISABLED axis is its
measured position. -/
def State.cmdSetPos (n : Nat) (c : MotCmd) (s : State) : State :=
  let at0 := if n < 256 ∧ s.axState n = 0 then s.intoRange n ((s.axis n).meas * 65536) else (s.mot n).pos
  (s.onMot n fun m => { m with redef := some ((c.arg 0).getD 0 * 65536 - at0) }).pushEvent 0x02 n 0 c.tag none

/-- REF_PROBE (R281): the probe is owned and armed on the axis's measured position, and the axis moves in the positive direction
at V until it latches (log 39). -/
def State.cmdRefProbe (n : Nat) (c : MotCmd) (s : State) : State :=
  let i := c.mode
  let s := s.supersede n
  let s := s.onProbes fun t => tabMod {} t i fun p => { p with saved := some (s.rd (FBK_PRCFG i), s.rd (FBK_PRSEL i)), waiting := [], edgeAt := none }
  let s := (((s.mark (FBK_PRCFG_CONT i) false).mark (FBK_PRCFG_ARM i) true).mark (FBK_PRCFG_OWN i) true).put (FBK_PRSEL_LSEL i) (0x1000 + n)
  (s.startAxis n 0xA c (c.plan none (s.speedOf n ((c.arg 1).getD 0)))).onMot n fun m => { m with probing := some i }

/-- GEAR and CAM (R143 to R145): the old coupling ends, and the axis engages from its present state: it goes on at its present
velocity while it waits for MPOS. -/
def State.cmdCouple (n : Nat) (c : MotCmd) (s : State) : State :=
  let s := match (s.mot n).cpl with
    | some k => if k.engage = Engage.waiting then s else
        (s.uncouple n 0x02 k.tag).onMot n fun m => { m with plan := some { speed := m.vel } }
    | none => s
  let s := s.supersede n
  let k : Coupling :=
    { master := c.selector, isCam := c.op == 0x11, tag := c.tag, engage := if c.mode % 4 = 1 then Engage.waiting else Engage.catching,
      num := (c.arg 6).getD 0, den := (c.arg 7).getD 1, camId := ((c.arg 0xA).getD 0).toNat,
      mofs := (c.arg 0xB).getD 0 * 65536, sofs := (c.arg 0xC).getD 0 * 65536, mpos := (c.arg 8).getD 0 * 65536,
      mlen := (c.arg 9).getD 0 * 65536 }
  let s := ((s.setMode n 0x4 c.tag).put (PRF_MVST_MASTER n) c.selector).beginCoupling n k
  if c.mode % 4 = 1 then s else s.onMot n fun m => { m with plan := none, next := some (4, 4) }

/-- DECOUPLE (R146). -/
def State.cmdDecouple (n : Nat) (c : MotCmd) (s : State) : State :=
  match c.mode % 4, (s.mot n).cpl with
  | 0, _ => s.decoupleStop n 0x00 c.tag (c.arg 3) (c.arg 4)
  | 1, _ =>
    let v := (s.mot n).vel
    let s := (s.uncouple n 0x00 c.tag).onMot n fun m => { m with cmd := none, next := none, plan := some { speed := v } }
    (s.enter n 3).setMode n 0x2 c.tag
  | _, some k =>
    let p := (c.arg 8).getD 0 * 65536
    s.onCpl n fun x =>
      { x with endAt := some p, endD := c.arg 3, endJ := c.arg 4, endTag := c.tag, endOnce := s.masterAt k.master == p }
  | _, none => s

/-- SUPERIMPOSE (R148). -/
def State.cmdSuper (n : Nat) (c : MotCmd) (s : State) : State :=
  let s := match (s.mot n).sup with
    | some o => s.pushEvent 0x03 n 0 o.tag none
    | none => s
  (s.onMot n fun m => { m with sup := some c, supPlan := some (c.plan (some ((c.arg 0).getD 0 * 65536)) 0) }).mark (PRF_MVST_SUPER n) true

/-- VM_VEL (R140). -/
def State.cmdVmVel (n : Nat) (c : MotCmd) (s : State) : State :=
  s.startPlan n c (c.plan none (s.speedOf n ((c.arg 1).getD 0)))

/-- GROUP_ABORT (R162). -/
def State.cmdAbort (g : Nat) (c : MotCmd) (s : State) : State :=
  (s.put (PRF_GRPST_STATE g) 5).onGrp g fun x => { x with aborting := some 0x01, abortTag := some c.tag }

/-- R165, R167: the engine uses one command of queue 0x00. -/
def State.useCommand (c : MotCmd) (s : State) : State :=
  let r := s.cmdRejects c
  if r ≠ 0 then s.pushEvent 0x04 c.index r c.tag none
  else
    let s := s.pushEvent 0x01 c.index 0 c.tag none
    match c.op with
    | 0x01 => s.cmdMoveAbs c.index c
    | 0x02 => s.cmdMoveRel c.index c
    | 0x03 => s.cmdMoveVel c.index c
    | 0x04 => s.cmdStop c.index c
    | 0x05 => s.cmdSetPos c.index c
    | 0x06 => s.cmdRefProbe c.index c
    | 0x10 => s.cmdCouple c.index c
    | 0x11 => s.cmdCouple c.index c
    | 0x12 => s.cmdDecouple c.index c
    | 0x13 => s.cmdSuper c.index c
    | 0x20 => s.cmdVmVel (256 + c.index) c
    | 0x21 => s.cmdSetPos (256 + c.index) c
    | _ => s.cmdAbort c.index c

/-! ### Reading the queues (R156, R165, R166) -/

/-- R165: the engine reads at most `k` entries of queue 0x00. When the next one is still on its way from the spill ring, the rest is
read when it has arrived (R341). -/
def State.readCommands : Nat → State → State
  | 0, s => s
  | k + 1, s =>
    match (s.qData 0).head with
    | [] => s
    | _ =>
      let d := s.dequeue 0
      let r := assemble d.2.prf.part d.1.toNat
      let s := d.2.onPrf fun p => { p with part := r.1, owed := k }
      let s := r.2.1.foldl (fun s (c : MotCmd × Bool) => if c.2 then s.pushEvent 0x04 c.1.index 0x01 c.1.tag none else s.useCommand c.1) s
      State.readCommands k (if r.2.2 then s.bump (whole PRF_DISC) else s)

/-- R165: at a boundary the engine reads the entries that queue 0x00 holds, at most 64. -/
def State.readQueue (s : State) : State :=
  let n := min 64 (s.get (QUE_ST_DEPTH 0))
  (s.onPrf fun p => { p with owed := n }).readCommands n

/-- R156, R166: group `g` pops one entry: how many segments it completes. A head that comes too early completes the segment before it
and stays in the queue. A segment whose entries were still arriving at an abort is aborted (R162). -/
def State.popSegment (g : Nat) (s : State) : Nat × State :=
  let take := fun (s : State) (c : MotCmd) (broken : Bool) (drop : Option Nat) => match drop with
    | some r => (s.bump (whole (PRF_GRPACC g))).segAbort g r c.tag
    | none => s.takeSegment g c broken
  match (s.qData (0x10 + g)).head, (s.grp g).part with
  | [], _ => (0, s)
  | e :: _, some q =>
    if bits e.toNat 62 60 = 1 then (1, take (s.onGrp g fun x => { x with part := none }) q.cmd true q.drop)
    else
      let d := s.dequeue (0x10 + g)
      let r := assemble (some q) d.1.toNat
      (r.2.1.length, r.2.1.foldl (fun s c => take s c.1 c.2 q.drop) (d.2.onGrp g fun x => { x with part := r.1 }))
  | _, none =>
    let d := s.dequeue (0x10 + g)
    let r := assemble none d.1.toNat
    let s := r.2.1.foldl (fun s c => take s c.1 c.2 none) (d.2.onGrp g fun x => { x with part := r.1 })
    (r.2.1.length, if r.2.2 then s.bump (whole PRF_DISC) else s)

/-- R156: group `g` pops at most `n` segments, over at most `k` entries. -/
def State.readSegments (g : Nat) : Nat → Nat → State → State
  | 0, _, s => s
  | k + 1, n, s =>
    if n = 0 ∨ (s.qData (0x10 + g)).head = [] ∨ !s.groupTakes g then s
    else
      let r := s.popSegment g
      State.readSegments g k (n - r.1) r.2

/-- SPILL_READ (R344, R345): `ecc` when the burst met an uncorrected ECC error. The profile engine goes on reading commands that wait for
the entries it brings (R165, R341). -/
def execSpillRead (dt : Nat) (tag : Fin 128) (ecc : Bool) (s : State) : Host.Outcome State Fault Refusal :=
  let s := (s.elapse dt).spillRead tag ecc
  .next (s.readCommands s.prf.owed)

end Sys2Proof.Machine
end

