-- ==== Sys2Proof/Machine/ProfileTick.lean ====
section
/-! DEFINITION. The profile boundary (R26, R130, R131, R153, R165) and the commands of the profile engine. -/

namespace Sys2Proof.Machine

/-! ### The set-points of one period -/

/-- R132, R137: what one period of the motion of `n` shows and reports. -/
def State.showMotion (n : Nat) (p : Plan) (v : Int) (t : Option Int) (s : State) : State :=
  if 256 ≤ n then s
  else
    let moves := p.target.isSome || p.speed != 0
    let s := if s.ceiling n < |v| ∨ (s.ceiling n = 0 ∧ moves) then s.latch (PRF_MVST_CEIL n) else s
    match t with
    | some d =>
      let q := d / 65536
      (((s.wr64S (PRF_OVS n) q).latch (PRF_MVST_OVS n))).pushEvent 0x05 n 0 (match (s.mot n).cmd with | some c => c.tag | none => 0) (some (0, q))
    | none => s

/-- R135, R167, R281: the executing command of `n` ends with this period: DONE, and for REF_PROBE the new position. -/
def State.cmdDone (n : Nat) (s : State) : State :=
  match (s.mot n).cmd with
  | none => s
  | some c =>
    let s := match (s.mot n).probing with
      | some i => (s.onMot n fun m =>
          { m with redef := some (((c.arg 0).getD 0 - s.rd64S (FBK_PRPOS i)) * 65536) }).releaseProbe n
      | none => s
    (s.onMot n fun m => { m with cmd := none }).pushEvent 0x02 n 0 c.tag none

/-- R281: a REF_PROBE whose probe has latched brings the axis to rest. -/
def State.probeStop (n : Nat) (s : State) : State :=
  match (s.mot n).probing, (s.mot n).cmd, (s.mot n).plan with
  | some i, some c, some p =>
    if !s.flag (FBK_PRCFG_ARM i) && p.speed != 0 then s.onMot n fun m => { m with plan := some { d := c.arg 3, j := c.arg 4 } } else s
  | _, _, _ => s

/-- One period of the motion of `n` that is not coupled; without one its set-point stays. -/
def State.freeStep (n : Nat) (s : State) : State :=
  let s := s.probeStop n
  let x := s.mot n
  match x.plan with
  | none => s.setVel n 0
  | some p =>
    let r := s.planStep n p x.vel x.acc
    let o := r.1
    let over1 := o.ended && (p.target.isSome || p.speed == 0)
    let s := (r.2.setVel n o.v).onMot n fun m => { m with plan := if over1 then none else some o.plan }
    let s := s.showMotion n p x.vel o.turned
    let ends := o.ended && !(x.probing.isSome && p.speed != 0)
    let s := if ends then s.cmdDone n else s
    if over1 ∧ n < 256 ∧ s.axState n = 3 then s.put (PRF_MVST_MODE n) 0 else s

/-- R142 to R148: one period of slave `n`. An engage that waits in STANDSTILL does not leave it during a changeover (R86). -/
def State.coupleStep (n : Nat) (c : Coupling) (s : State) : State :=
  let m := s.masterAt c.master
  let held := s.flag CFG_CHG_BUSY && s.axState n == 2
  let mm := s.masterMod c.master
  let d := shorterWay mm (m - c.mLast)
  let ends := match c.endAt with | some p => c.endOnce || crosses c.mLast d p mm | none => false
  if ends then (s.decoupleStop n 0x00 c.endTag c.endD c.endJ).freeStep n
  else
    let k := { c with mLast := m, mu := c.mu + d, atOnce := false, endOnce := false }
    if c.engage = .waiting then
      if !held && (c.atOnce || crosses c.mLast d c.mpos mm) then
        s.slaveStep n { k with mu0 := k.mu - shorterWay mm (m - c.mpos) } d true
      else (s.onCpl n fun _ => k).freeStep n
    else s.slaveStep n k d false

/-- R119, R131: the set-point of axis (or virtual master) `n` for the next period. -/
def State.axisStep (n : Nat) (s : State) : State :=
  let st := s.axState n
  if 256 ≤ n then s.freeStep n
  else if st = 0 then s.onMot n fun m => { m with pos := s.intoRange n ((s.axis n).meas * 65536), vel := 0, acc := 0 }
  else if st = 1 ∨ st = 7 then s.setVel n 0
  else if 2 ≤ st ∧ st ≤ 4 ∧ (s.subOf n).isSome then s
  else if (match s.groupOf n with | some g => s.groupActive g || (s.get (PRF_GRPST_STATE g) == 5 && (s.grp g).aborting == some 1) | none => false) then s
  else match (s.mot n).cpl with
    | some c => s.coupleStep n c
    | none => s.freeStep n

/-- R141: what must be computed before the entry `i`: the master of a slave, and the path group of an axis. -/
def State.before (s : State) (i : Nat) : List Nat :=
  if 256 ≤ i then []
  else
    let m := match (s.mot i).cpl with
      | some c => if c.master / 4096 = 0 then [c.master % 256] else if c.master / 4096 = 2 then [256 + c.master % 256] else []
      | none => []
    let g := match s.groupOf i with | some g => [512 + g] | none => []
    m ++ g

/-- R26, R141: the engine computes the entry `i` of the next period, once, after what it depends on. -/
def State.advance : Nat → Nat → State → State
  | 0, _, s => s
  | k + 1, i, s =>
    if s.prf.due.contains i then
      let s := s.onPrf fun p => { p with due := p.due.filter (· != i) }
      let s := (s.before i).foldl (fun s j => s.advance k j) s
      if 512 ≤ i then s.pathStep (i - 512) else s.axisStep i
    else s

/-- The depth to which masters are followed: four couplings (R141) and a path group. -/
def chainDepth : Nat := 8

/-- R26: every set-point of the next period that is still to be computed. -/
def State.advanceAll (s : State) : State := s.prf.due.foldl (fun s i => s.advance chainDepth i) s

/-! ### Publication (R26, R97, R102, R130) -/

/-- A speed or envelope clamp of axis `n` changed its set-point: LSH_CLAMP of a local axis, the flags of LSH_PCFG of a remote one
(R102). -/
def State.setClamp (n : Nat) (env : Bool) (s : State) : State :=
  if n < 32 then s.clampFlag n (if env then 7 else 6)
  else s.raise 0x13 (if env then LSH_PCFG_ENVF n else LSH_PCFG_SPDF n)

/-- R97: the Leash on the set-point (Q48.16, Q32.32) of axis `n`. -/
def State.leashSet (n : Nat) (p v : Int) (s : State) : (Int × Int) × State :=
  let spd := (s.rd (LSH_SPD_E n) : Int) * 2 ^ 24
  let v1 := clampInt (-spd) spd v
  let s := if v1 ≠ v then s.setClamp n false else s
  if s.flag (LSH_PCFG_ENV n) then
    let lo := s.rd64S (LSH_PMIN_E n)
    let hi := s.rd64S (LSH_PMAX_E n)
    let p1 := clampInt lo hi p
    let v2 := if (p1 = hi ∧ 0 < v1 ∧ hi ≤ p) ∨ (p1 = lo ∧ v1 < 0 ∧ p ≤ lo) then 0 else v1
    ((p1, v2), if p1 ≠ p ∨ v2 ≠ v1 then s.setClamp n true else s)
  else ((p, v1), s)

/-- R26: the set-point of axis `n` takes effect, and the state that its coupling enters. -/
def State.publishAxis (n : Nat) (s : State) : State :=
  let x := s.mot n
  let s := match x.next with
    | some (st, mode) =>
      let s := s.onMot n fun m => { m with next := none }
      if x.cpl.isSome ∧ (s.axState n = 2 ∨ s.axState n = 3 ∨ s.axState n = 4) then (s.enter n st).put (PRF_MVST_MODE n) mode else s
    | none => s
  let p := x.pos / 65536
  let r := if s.axState n = 0 ∨ s.axState n = 7 then ((p, x.vel), s) else s.leashSet n p x.vel
  (r.2.wr64S (PRF_SPOS n) r.1.1).wr64S (PRF_SVEL n) r.1.2

/-- R26, R140: the position and velocity of virtual master `k` take effect. -/
def State.publishVm (k : Nat) (s : State) : State :=
  let x := s.mot (256 + k)
  ((s.wr64S (PRF_VMPOS k) (x.pos / 65536)).wr64S (PRF_VMVEL k) x.vel).mark (PRF_VMST_MOVING k) (x.vel != 0)

/-- R26, R167, R264: the position of axis `n` is redefined from now on: set-point and measured position move together. -/
def State.redefine (n : Nat) (s : State) : State :=
  match (s.mot n).redef with
  | none => s
  | some v =>
    let d := (v + 65535) / 65536
    let s := s.onMot n fun m => { m with redef := none, pos := s.intoRange n (m.pos + v) }
    if n < 256 then
      (s.onAxis n fun x => { x with dOfs := x.dOfs + d, meas := x.meas + d, measPrev := x.measPrev + d }).mark (PRF_AXST_REF n) true
    else s

/-- The axes in use, and the virtual masters configured. -/
def State.usedAxes (s : State) : List Nat := below 256 fun n => s.axKind n != 0
def State.usedVms (s : State) : List Nat := below 8 fun k => s.flag (PRF_VMST_EN k)

/-- R130: axis `n` goes on at its previous velocity; `due` when its period had not been computed, and what had been computed of it is
taken back. Its move still goes to its target, and a locked slave back to its coupled set-point in the next period. -/
def State.lateAxis (due : Bool) (n : Nat) (s : State) : State :=
  let x := s.mot n
  let w := if due then 0 else x.vel
  let v := if due then x.vel else x.vel - x.acc
  s.onMot n fun m =>
    { m with
      pos := s.intoRange n (x.pos - w + v), vel := v, acc := 0
      plan := match x.plan with
        | some p => some { p with target := p.target.map (· + w - v), run := [], first := false }
        | none => if !due && x.cpl.isNone && w != v then some { target := some (w - v), first := false } else none
      cpl := x.cpl.map fun c =>
        if c.engage = .locked then { c with ahead := c.ahead + v - w } else if c.engage = .blending then { c with gap := c.gap - v + w } else c }

/-- R130: the boundary came before the set-points: each enabled axis goes on at its previous velocity. -/
def State.lateStep (s : State) : State :=
  let due := s.prf.due
  let s := s.onPrf fun p => { p with due := [] }
  (s.usedAxes.filter fun n => s.enabled n).foldl (fun s n => s.lateAxis (due.contains n) n) s

/-- R130: a late boundary is counted and logged; the second in a row faults every enabled axis. -/
def State.lateCount (late : Bool) (s : State) : State :=
  let twice := late && s.prf.wasLate
  let s := s.onPrf fun p => { p with wasLate := late }
  let s := if late then (s.satBump PRF_STAT_LATE 1).severe 0x13 0x02 PRF_STAT else s
  if twice then (s.usedAxes.filter fun n => s.enabled n).foldl (fun s n => s.fault n 0x02 0 0x13) s else s

/-- R141, R122: the measured position of axis `n` at this boundary, and the count of periods at standstill. -/
def State.sampleAxis (n : Nat) (s : State) : State :=
  let s := s.onAxis n fun x => { x with measPrev := x.meas, meas := if n < 32 then s.measPos n else s.intoRange n ((x.apos + x.dOfs) * 65536) / 65536 }
  let x := s.axis n
  let m := s.mot n
  let slow := decide (((shorterWay (s.motMod n / 65536) (x.meas - x.measPrev)).natAbs) ≤ s.axSsVel n * 256)
  let st := s.axState n
  let idle := m.cmd.isNone && m.cpl.isNone && m.sup.isNone && m.plan.isNone && s.rd64S (PRF_SVEL n) == 0
    && (match s.groupOf n with | some g => !(s.groupActive g) || s.get (PRF_GRPST_STATE g) == 4 | none => true)
  if (st = 3 ∨ st = 4 ∨ st = 5 ∨ (st = 6 ∧ !x.reacted)) ∧ idle ∧ slow then
    s.onAxis n fun x => { x with ssCount := x.ssCount + 1 }
  else s.onAxis n fun x => { x with ssCount := 0 }

/-! ### Cam switches (R153, R154) -/

/-- R153: the place and the velocity per period of the source of a track, both 2^-32 counts, and its modulo. -/
def State.trackSource (s : State) (sel : Nat) : Int × Int × Int :=
  let n := sel % 256
  let mm := s.masterMod sel
  match sel / 4096 with
  | 0 => (s.rd64S (PRF_SPOS n) * 65536, s.rd64S (PRF_SVEL n), mm)
  | 1 => ((s.axis n).meas * 65536, shorterWay mm (((s.axis n).meas - (s.axis n).measPrev) * 65536), mm)
  | 2 => (s.rd64S (PRF_VMPOS n) * 65536, s.rd64S (PRF_VMVEL n), mm)
  | _ => ((s.mot (264 + n)).pos, (s.mot (264 + n)).vel, mm)

/-- R153: does the place `x` lie in [ON, OFF), which wraps through 0 on a source with modulo? -/
def inWindow (x a b m : Int) : Bool :=
  if a ≤ b then decide (a ≤ x) && decide (x < b) else decide (0 < m) && (decide (a ≤ x) || decide (x < b))

/-- R153: the nanoseconds from the boundary, at least `lead` and before `lead + p`, at which a source at `x` with velocity `v` per
period of `p` ns crosses the bound `b`. -/
def crossTime (x v b m : Int) (p lead : Nat) : Option Nat :=
  if v = 0 then none
  else
    let far := v * (lead : Int) / (p : Int)
    let y := x + far
    let d := if 0 < m then (if 0 < v then (b - y) % m else -((y - b) % m)) else b - y
    let ok := if 0 < v then decide (0 ≤ d) && decide (d < v) else decide (d ≤ 0) && decide (v < d)
    if ok then some ((d * (p : Int) / v).toNat) else none

/-- R153: the edges of track `t` in the period that begins now. -/
def State.trackEdges (t : Nat) (s : State) : State :=
  let sel := s.get (PRF_CSWCFG_SRC t)
  if !s.flag (PRF_CSWCFG_EN t) || !s.masterNamed sel then s
  else
    let (x, v, m) := s.trackSource sel
    let p := s.profilePeriod
    let a := s.rd64S (PRF_CSWON t) * 65536
    let b := s.rd64S (PRF_CSWOFF t) * 65536
    let inv := s.flag (PRF_CSWCFG_INV t)
    let onLead := s.get (PRF_CSWLEAD_ONLEAD t) * 1000
    let offLead := s.get (PRF_CSWLEAD_OFFLEAD t) * 1000
    let now := tabGet false s.prf.trackOn t
    let wrap : Int → Int := fun y => if 0 < m then y % m else y
    let level : Nat → Bool := fun lead => inWindow (wrap (x + v * (lead : Int) / (p : Int))) a b m != inv
    let late := if now then !level offLead && (decide (onLead ≤ offLead) || !level onLead)
      else level onLead && (decide (offLead ≤ onLead) || level offLead)
    let first : List (Nat × Bool × Bool) := if late then [(0, !now, true)] else []
    let enters : Int → Bool := fun c => (c == a) != decide (v < 0)
    let bound : Int → List (Nat × Bool × Bool) := fun c =>
      let on := enters c != inv
      match crossTime x v c m p (if on then onLead else offLead) with
      | some e => [(e, on, false)]
      | none => []
    let two := bound a ++ bound b
    let sorted := match two with
      | [e, f] => if e.1 ≤ f.1 then [e, f] else [f, e]
      | l => l
    (first ++ sorted).foldl (fun s (e : Nat × Bool × Bool) =>
      if tabGet false s.prf.trackOn t = e.2.1 then s
      else
        let k : CamEdge := { track := t, on := e.2.1, time := s.clk.elapsed + e.1, stamp := (s.now + e.1) % 2 ^ 32, late := e.2.2 }
        (s.onDio fun d => { d with edges := d.edges ++ [k] }).onPrf fun q => { q with trackOn := tabSet q.trackOn t e.2.1 }) s

/-! ### The boundary -/

/-- Is the profile engine running? It runs from APPLY on. -/
def State.profileRuns (s : State) : Bool := 7 ≤ s.get CFG_STATE_STATE && s.get CFG_STATE_STATE ≤ 9

/-- R388, R391: at a ring member, each mapped axis goes on at its velocity at a profile period of the master that starts no ring
cycle. -/
def State.mappedTick (s : State) : State :=
  if s.atBoundary s.ring.tp && !s.atBoundary s.ring.tr then s.mappedMove else s

/-- What the boundary puts in force: redefinitions, set-points, samples of measured positions. -/
def State.putInForce (s : State) : State :=
  let s := (s.usedAxes ++ s.usedVms.map (256 + ·)).foldl (fun s n => State.redefine n s) s.mappedTick
  let s := s.usedAxes.foldl (fun s n => State.publishAxis n s) s
  let s := s.usedVms.foldl (fun s k => State.publishVm k s) s
  let s := s.usedAxes.foldl (fun s n => State.sampleAxis n s) s
  [0, 1].foldl (fun s k => s.onMot (264 + k) fun m =>
    { m with vel := shorterWay (s.masterMod (0x3000 + k)) (s.mencPos k * 65536 - m.pos), pos := s.mencPos k * 65536 }) s

/-- R156, R160, R170: what the boundary does for each path group before the period is computed. -/
def State.groupsTick (s : State) : State :=
  (List.range 16).foldl (fun s g =>
    let s := (s.onGrp g fun x => { x with ovr := s.get (PRF_GRPOVR_OVR g) }).drainDone g 128
    if s.get (PRF_GRPST_STATE g) = 0 then s.groupFinish g else s.readSegments g 4096 4) s

/-- R26, R130, R165: a profile boundary: what was computed takes effect, and the queues are read for the next period. `late` and
`took` are what the engine's clock made of the period (R129, R130). The set-points that take effect where a lowering does are clamped by
the limit before it (DESIGN CHOICE, log 82). -/
def State.profileBoundary (late : Bool) (took : Nat) (s : State) : State :=
  let s := s.event 0x51
  let s := if late then s.lateStep else s.advanceAll
  let s := s.lateCount late
  let s := s.putInForce
  let s := s.lowerAll fun o => match o with | .profile => true | .axis a => s.axKind a == 0 | _ => false
  let s := s.commitsNow fun _ => true
  let s := s.readQueue.groupsTick
  let s := (below 256 fun n => s.axKind n != 0 || (s.axis n).asked != 0).foldl (fun s n => s.onAxis n fun x => { x with moved := 0, asked := 0 }) s
  let s := (List.range 64).foldl (fun s t => s.trackEdges t) s
  let s := s.onPrf fun p => { p with due := s.usedVms.map (256 + ·) ++ s.usedAxes ++ (below 16 fun g => s.get (PRF_GRPST_STATE g) != 0).map (512 + ·) }
  s.wr PRF_TMAX (max (s.rd PRF_TMAX) took)

/-- R165: a command of queue 0x00 that the engine reads. -/
def State.motionCmd (op index mode tag : Nat) (data : List (Fin 16 × BitVec 56)) (s : State) : State :=
  if s.profileRuns then
    s.useCommand { op := op, index := index, mode := mode, tag := tag, data := data.map fun e => (e.1.val, e.2.toInt) }
  else s

/-- R156: a segment that group `g` pops, while it takes one. -/
def State.segmentCmd (op g mode tag : Nat) (data : List (Fin 16 × BitVec 56)) (s : State) : State :=
  if s.profileRuns && s.groupTakes g then
    s.takeSegment g { op := op, index := g, mode := mode, tag := tag, data := data.map fun e => (e.1.val, e.2.toInt) } false
  else s

/-- The engine computes the entry `i` of this period now, when that brings about what `p` compares. -/
def State.whenAdvanced (i : Nat) (p : State → State → Bool) (s : State) : State :=
  let t := s.advance chainDepth i
  if p s t then t else s

/-- PROFILE_BOUNDARY (R26): `late` as R130 has it, `took` the completion time of the last period. -/
def execProfileBoundary (dt : Nat) (late : Bool) (took : BitVec 32) (s : State) : Host.Outcome State Fault Refusal :=
  let s := s.elapse dt
  .next (if s.profileRuns && s.atBoundary s.profilePeriod then s.profileBoundary late took.toNat else s)

/-- MOVE_ABS (R139). -/
def execMoveAbs (dt : Nat) (n : Fin 256) (mode : Fin 16) (tag : BitVec 32) (data : List (Fin 16 × BitVec 56)) (s : State) :
    Host.Outcome State Fault Refusal := .next ((s.elapse dt).motionCmd 0x01 n mode tag.toNat data)

/-- MOVE_REL (R167). -/
def execMoveRel (dt : Nat) (n : Fin 256) (mode : Fin 16) (tag : BitVec 32) (data : List (Fin 16 × BitVec 56)) (s : State) :
    Host.Outcome State Fault Refusal := .next ((s.elapse dt).motionCmd 0x02 n mode tag.toNat data)

/-- MOVE_VEL (R167). -/
def execMoveVel (dt : Nat) (n : Fin 256) (mode : Fin 16) (tag : BitVec 32) (data : List (Fin 16 × BitVec 56)) (s : State) :
    Host.Outcome State Fault Refusal := .next ((s.elapse dt).motionCmd 0x03 n mode tag.toNat data)

/-- STOP (R167). -/
def execStop (dt : Nat) (n : Fin 256) (mode : Fin 16) (tag : BitVec 32) (data : List (Fin 16 × BitVec 56)) (s : State) :
    Host.Outcome State Fault Refusal := .next ((s.elapse dt).motionCmd 0x04 n mode tag.toNat data)

/-- SET_POS (R167). -/
def execSetPos (dt : Nat) (n : Fin 256) (mode : Fin 16) (tag : BitVec 32) (data : List (Fin 16 × BitVec 56)) (s : State) :
    Host.Outcome State Fault Refusal := .next ((s.elapse dt).motionCmd 0x05 n mode tag.toNat data)

/-- REF_PROBE (R167, R281). -/
def execRefProbe (dt : Nat) (n : Fin 256) (mode : Fin 16) (tag : BitVec 32) (data : List (Fin 16 × BitVec 56)) (s : State) :
    Host.Outcome State Fault Refusal := .next ((s.elapse dt).motionCmd 0x06 n mode tag.toNat data)

/-- GEAR (R143, R145). -/
def execGear (dt : Nat) (n : Fin 256) (mode : Fin 16) (tag : BitVec 32) (data : List (Fin 16 × BitVec 56)) (s : State) :
    Host.Outcome State Fault Refusal := .next ((s.elapse dt).motionCmd 0x10 n mode tag.toNat data)

/-- CAM (R144, R145). -/
def execCam (dt : Nat) (n : Fin 256) (mode : Fin 16) (tag : BitVec 32) (data : List (Fin 16 × BitVec 56)) (s : State) :
    Host.Outcome State Fault Refusal := .next ((s.elapse dt).motionCmd 0x11 n mode tag.toNat data)

/-- DECOUPLE (R146). -/
def execDecouple (dt : Nat) (n : Fin 256) (mode : Fin 16) (tag : BitVec 32) (data : List (Fin 16 × BitVec 56)) (s : State) :
    Host.Outcome State Fault Refusal := .next ((s.elapse dt).motionCmd 0x12 n mode tag.toNat data)

/-- SUPERIMPOSE (R148). -/
def execSuperimpose (dt : Nat) (n : Fin 256) (mode : Fin 16) (tag : BitVec 32) (data : List (Fin 16 × BitVec 56)) (s : State) :
    Host.Outcome State Fault Refusal := .next ((s.elapse dt).motionCmd 0x13 n mode tag.toNat data)

/-- VM_VEL (R140). -/
def execVmVel (dt : Nat) (k : Fin 256) (mode : Fin 16) (tag : BitVec 32) (data : List (Fin 16 × BitVec 56)) (s : State) :
    Host.Outcome State Fault Refusal := .next ((s.elapse dt).motionCmd 0x20 k mode tag.toNat data)

/-- VM_SET (R167). -/
def execVmSet (dt : Nat) (k : Fin 256) (mode : Fin 16) (tag : BitVec 32) (data : List (Fin 16 × BitVec 56)) (s : State) :
    Host.Outcome State Fault Refusal := .next ((s.elapse dt).motionCmd 0x21 k mode tag.toNat data)

/-- GROUP_ABORT (R162). -/
def execGroupAbort (dt : Nat) (g : Fin 256) (mode : Fin 16) (tag : BitVec 32) (data : List (Fin 16 × BitVec 56)) (s : State) :
    Host.Outcome State Fault Refusal := .next ((s.elapse dt).motionCmd 0x30 g mode tag.toNat data)

/-- LINE (R168). -/
def execLine (dt : Nat) (g : Fin 16) (mode : Fin 16) (tag : BitVec 32) (data : List (Fin 16 × BitVec 56)) (s : State) :
    Host.Outcome State Fault Refusal := .next ((s.elapse dt).segmentCmd 0x80 g mode tag.toNat data)

/-- ARC (R168). -/
def execArc (dt : Nat) (g : Fin 16) (mode : Fin 16) (tag : BitVec 32) (data : List (Fin 16 × BitVec 56)) (s : State) :
    Host.Outcome State Fault Refusal := .next ((s.elapse dt).segmentCmd 0x81 g mode tag.toNat data)

/-- HELIX (R168). -/
def execHelix (dt : Nat) (g : Fin 16) (mode : Fin 16) (tag : BitVec 32) (data : List (Fin 16 × BitVec 56)) (s : State) :
    Host.Outcome State Fault Refusal := .next ((s.elapse dt).segmentCmd 0x82 g mode tag.toNat data)

/-- SPLINE (R164, R168). -/
def execSpline (dt : Nat) (g : Fin 16) (mode : Fin 16) (tag : BitVec 32) (data : List (Fin 16 × BitVec 56)) (s : State) :
    Host.Outcome State Fault Refusal := .next ((s.elapse dt).segmentCmd 0x83 g mode tag.toNat data)

/-- DWELL (R168). -/
def execDwell (dt : Nat) (g : Fin 16) (mode : Fin 16) (tag : BitVec 32) (data : List (Fin 16 × BitVec 56)) (s : State) :
    Host.Outcome State Fault Refusal := .next ((s.elapse dt).segmentCmd 0x84 g mode tag.toNat data)

/-- SEG_DONE (R156): the period of group `g` is computed when a segment is executed in it. -/
def execSegDone (dt : Nat) (g : Fin 16) (s : State) : Host.Outcome State Fault Refusal :=
  .next ((s.elapse dt).whenAdvanced (512 + g.val) fun s t => s.rd (PRF_GRPEXE g.val) != t.rd (PRF_GRPEXE g.val))

/-- STARVED (R159): the period of group `g` is computed when its path runs out in it. -/
def execStarved (dt : Nat) (g : Fin 16) (s : State) : Host.Outcome State Fault Refusal :=
  .next ((s.elapse dt).whenAdvanced (512 + g.val) fun s t =>
    s.get (PRF_GRPST_STATE g.val) == 2 && (t.get (PRF_GRPST_STATE g.val) == 4 || t.get (PRF_GRPST_STATE g.val) == 1))

/-- PATH_HOLD (R160): the period of group `g` is computed when it enters HOLD in it. -/
def execPathHold (dt : Nat) (g : Fin 16) (s : State) : Host.Outcome State Fault Refusal :=
  .next ((s.elapse dt).whenAdvanced (512 + g.val) fun s t =>
    s.get (PRF_GRPST_STATE g.val) != 3 && t.get (PRF_GRPST_STATE g.val) == 3)

/-- GROUP_CONFIG_WRITE (R155): PRF_GRPAX[g] when `axes`, else PRF_GRPCFG[g]. -/
def execGroupConfigWrite (dt : Nat) (who : Accessor) (g : Fin 16) (axes : Bool) (v : BitVec 64) (s : State) :
    Host.Outcome State Fault Refusal :=
  let s := s.elapse dt
  .next (if axes then s.writeGroupAxes who g v.toNat else s.writeGroupCfg who g v.toNat)

/-- OVERRIDE_WRITE (R160). -/
def execOverrideWrite (dt : Nat) (g : Fin 16) (v : BitVec 32) (s : State) : Host.Outcome State Fault Refusal :=
  .next ((s.elapse dt).writeOverride g v.toNat)

/-- DONE (R135): the period of `n` (an axis, or 256 + k for a virtual master) is computed when its command ends in it. -/
def execDone (dt : Nat) (n : Fin 264) (s : State) : Host.Outcome State Fault Refusal :=
  .next ((s.elapse dt).whenAdvanced n fun s t =>
    ((s.mot n).cmd.isSome && (t.mot n).cmd.isNone) || ((s.mot n).sup.isSome && (t.mot n).sup.isNone))

/-- OVERSHOOT (R137): the period of axis `n` is computed when its turning point is reached in it. -/
def execOvershoot (dt : Nat) (n : Fin 256) (s : State) : Host.Outcome State Fault Refusal :=
  .next ((s.elapse dt).whenAdvanced n fun s t =>
    match (s.mot n).plan, (t.mot n).plan with
    | some p, some q => p.ahead && !q.ahead
    | some p, none => p.ahead
    | _, _ => false)

/-- LOCKED (R145): the period of axis `n` is computed when its coupling locks in it. -/
def execLocked (dt : Nat) (n : Fin 256) (s : State) : Host.Outcome State Fault Refusal :=
  .next ((s.elapse dt).whenAdvanced n fun s t =>
    match (s.mot n).cpl, (t.mot n).cpl with
    | some c, some d => c.engage != .locked && d.engage == .locked
    | _, _ => false)

/-- MPOS_CROSSING (R145): the period of axis `n` is computed when its master crosses the MPOS of an AT engage or decouple in it. -/
def execMposCrossing (dt : Nat) (n : Fin 256) (s : State) : Host.Outcome State Fault Refusal :=
  .next ((s.elapse dt).whenAdvanced n fun s t =>
    match (s.mot n).cpl, (t.mot n).cpl with
    | some c, some d => c.engage == .waiting && d.engage != .waiting
    | some c, none => c.endAt.isSome
    | _, _ => false)

/-- CAM_END (R152): the period of axis `n` is computed when its master leaves the span of its cam in it. -/
def execCamEnd (dt : Nat) (n : Fin 256) (s : State) : Host.Outcome State Fault Refusal :=
  .next ((s.elapse dt).whenAdvanced n fun s t =>
    match (s.mot n).cpl, (t.mot n).cpl with
    | some c, some d => c.inSpan && !d.inSpan
    | _, _ => false)

end Sys2Proof.Machine
end

