-- ==== Sys2Proof/Machine/TimeUnit.lean ====
section
/-! DEFINITION. The time unit (R404 to R424): samples and the states of the unit, time over the ring, and the slave of
IEEE 1588-2019 on the service port. -/

namespace Sys2Proof.Machine

/-- Change the time unit. -/
def State.tu (f : TimeUnit → TimeUnit) (s : State) : State := s.onTim f

/-- The local time in 2^-16 ns. -/
def State.now16 (s : State) : Nat := s.now * 65536 + s.clk.frac / 65536

/-- The local time in 1/256 ns. -/
def State.now256 (s : State) : Nat := s.now16 / 256

/-! ### The states of the unit -/

/-- R407: the unit enters state `st`: Kennel event 0x58 and one log entry when it changes. -/
def State.timState (st : Nat) (s : State) : State :=
  if s.get TIM_ST_STATE = st then s else (s.change 0x1A TIM_ST_STATE st).event 0x58

/-- R407, R411: the unit enters LOCKED: ri is preset to the rate in force, and no outliers are counted. -/
def State.timLock (s : State) : State :=
  ((s.timState 2).put TIM_ST_OUTRUN 0).tu fun t => { t with ri := s.getS (whole TIM_RATE) }

/-- R409: does axis `n` let the clock be stepped: DISABLED, or enabling on a request of the present profile period, which the step goes before
(log 108)? -/
def State.stepsFor (s : State) (n : Nat) : Bool :=
  s.axState n == 0 || (s.axState n == 1 && decide ((s.axis n).enStep < 5) &&
    decide (s.clk.elapsed ≤ (s.axis n).enAt + s.clk.ns % max 1 s.profilePeriod))

/-- R409: may the clock be stepped now? -/
def State.stepAllowed (s : State) : Bool :=
  ((List.range 32).all fun n => s.stepsFor n)
  && (s.get RNG_CFG_ROLE != 1 || (below 256 (32 ≤ ·)).all fun n => s.stepsFor n || s.axState n == 7)
  && ((List.range 8).all fun g => s.get (ACQ_GST_STATE g) == 0) && !s.flag CFG_CHG_BUSY

/-- R116, R409: a step of the clock keeps the number of profile boundaries that each pending commit has seen. -/
def State.rebaseCommits (t : Nat) (s : State) : State :=
  let p := s.profilePeriod
  s.onLim fun l => { l with commits := l.commits.map fun c => { c with bnd := c.bnd + ((t / p : Nat) : Int) - ((s.now / p : Nat) : Int) } }

/-- R409: the step that makes the offset `th` (1/256 ns) 0 within 1 ns: a whole number of ns, one of the two next to it. -/
def State.timStep (th : Int) (s : State) : State :=
  let k := -th / 256 + (s.free 2 : Int)
  let s := s.drew 1
  let t := (((s.now : Int) + k) % (2 ^ 48 * 10 ^ 9)).toNat
  let s := (s.rebaseCommits t).onClk fun c => { c with sec := t / 10 ^ 9, ns := t % 10 ^ 9 }
  let s := (((s.satBump TIM_ST_STEPS 1).mark TIM_ST_PERMIT false).wr64S TIM_STEP k).wr TIM_STEPT s.t32
  let s := if s.get RNG_CFG_ROLE = 1 then s.onRing fun r => { r with restep := some ((s.rd RNG_CYCNT + 16) % 2 ^ 32) } else s
  s.timLock

/-- R411: the quotient of an offset `th` (1/256 ns) and 2^k samples of `ts` ns, in 2^-32; the spec states no rounding. -/
def State.rateTerm (s : State) (th : Int) (k ts : Nat) : Int :=
  let d : Int := 2 ^ k * (ts : Int)
  th * 2 ^ 24 / d + (if th * 2 ^ 24 % d = 0 then 0 else (s.free 2 : Int))

/-- R411, R18: the rate is adjusted by a sample with the offset `th` (1/256 ns), with samples every `ts` ns. -/
def State.timFollow (th : Int) (ts : Nat) (s : State) : State :=
  let lim := fun x : Int => clampInt (-2147483) 2147483 x
  let i := lim (s.tim.ri - s.rateTerm th (s.get TIM_CFG_KI) ts)
  let s := (s.drew 1).tu fun t => { t with ri := i }
  let p := lim (i - s.rateTerm th (s.get TIM_CFG_KP) ts)
  ((s.drew 1).putS (whole TIM_RATE) p)

/-- R408, R413: a sample in LOCKED or HOLDOVER: an outlier is counted, and any other is followed. -/
def State.timTrack (th : Int) (ts : Nat) (out : Bool) (s : State) : State :=
  if out then
    let s := s.satBump TIM_ST_OUTRUN 1
    if s.get TIM_CFG_OUTMAX ≤ s.get TIM_ST_OUTRUN then (s.timState 3).satBump TIM_ST_REFCNT 1 else s
  else
    let s := (if s.get TIM_ST_STATE = 4 then s.timLock else s).put TIM_ST_OUTRUN 0
    s.timFollow th ts

/-- R408 to R413: a sample with the offset `th` (1/256 ns), with samples every `ts` ns; `ok` when what a step needs is known
(R418). -/
def State.timeSample (th : Int) (ts : Nat) (ok : Bool) (s : State) : State :=
  let out := decide ((s.rd TIM_JMP : Int) * 256 < (th.natAbs : Int))
  let qual := s.tim.qual
  let s := (s.putS (whole TIM_OFS) (satSigned 32 (th / 256))).tu fun t => { t with lastAt := s.clk.elapsed, qual := min 4 (t.qual + 1) }
  match s.get TIM_ST_STATE with
  | 0 => if qual < 4 then s else if out then s.timState 1 else s.timLock
  | 1 => if ok && s.stepAllowed then s.timStep th else s
  | 3 => if out then s else s.timLock
  | _ => if ts = 0 then s else s.timTrack th ts out

/-- R413: no sample has come for HOLDT × 10 ms. -/
def State.timHoldover (s : State) : State :=
  if s.get TIM_ST_STATE = 2 ∧ s.get TIM_CFG_SRC ≠ 0 ∧ s.tim.lastAt + s.get TIM_CFG_HOLDT * 10000000 ≤ s.clk.elapsed then s.timState 4 else s

/-- R414: a write of 1 to TIM_CTL.PERMIT by `who`. -/
def State.timPermit (who : Accessor) (s : State) : State :=
  if s.get TIM_ST_STATE = 3 then (s.mark TIM_ST_PERMIT true).timState 1 else s.accessError who 4 TIM_CTL 1

/-- R407: with SRC 0x0 the unit enters LOCKED with RATE 0 when CFG_STATE reaches READY. -/
def State.timReady (s : State) : State := if s.get TIM_CFG_SRC = 0 then (s.wr TIM_RATE 0).timLock else s

/-! ### Time over the ring (R416 to R418) -/

/-- R417: TSYNC for the instant `t` (1/256 ns) in cycle `cyc`. -/
def tsyncOf (t cyc : Nat) : Nat :=
  let sec := t / 256 / 10 ^ 9 % 2 ^ 48
  (if cyc % 2 = 0 then sec % 2 ^ 26 else sec / 2 ^ 22) * 2 ^ 38 + t / 256 % 10 ^ 9 * 256 + t % 256

/-- R417: TSYNC with its NS made invalid, and whether NS of one is invalid. -/
def tsyncSpoil (v : Nat) : Nat := v / 2 ^ 38 * 2 ^ 38 + 0x3FFFFFFF * 256 + v % 256
def tsyncInvalid (v : Nat) : Bool := bits v 37 8 == 0x3FFFFFFF

/-- R417: `d` (1/256 ns) is added to TSYNC; the carry from NS goes into SEC in even cycles only. -/
def tsyncAdd (v d cyc : Nat) : Nat :=
  if tsyncInvalid v then v
  else
    let n := bits v 37 8 * 256 + v % 256 + d
    let c := if cyc % 2 = 0 then n / (256 * 10 ^ 9) else 0
    (v / 2 ^ 38 + c) % 2 ^ 26 * 2 ^ 38 + n % (256 * 10 ^ 9) / 256 * 256 + n % 256

/-- R416, R417: D of port `p` in 1/256 ns, while it has a valid value. -/
def State.linkDelay (s : State) (p : Nat) : Option Nat :=
  if s.rd (TIM_LDLY p) = 0xFFFFFFFF then none else some (s.rd (TIM_LDLY p))

/-- R416: a delay measured at port `p`: one of 0 to 1 000 ns counts in the mean of the last 16. -/
def State.delayValue (p : Nat) (d : Int) (s : State) : State :=
  if d < 0 ∨ 256000 < d then s
  else
    let l := ((tabGet [] s.tim.delays p) ++ [d.toNat])
    let l := l.drop (l.length - 16)
    (s.tu fun t => { t with delays := tabSet t.delays p l }).wr (TIM_LDLY p) (l.sum / l.length)

/-- R416: a link-delay response at port `p` for the frame of cycle `cyc`, with TURN, that arrives `q` quarter ns after the present
instant. -/
def State.linkResponse (p cyc turn q : Nat) (s : State) : State :=
  match tabFind s.tim.t1 p with
  | some (c, t1) =>
    if c = cyc then
      (s.tu fun t => { t with t1 := tabDel t.t1 p }).delayValue p (((s.now256 : Int) + 64 * q - t1 - turn) / 2)
    else s
  | none => s

/-- R418: the seconds of the source as far as TSYNC `v` of cycle `cyc` gives them, with the modulus in which they are known:
the full seconds when an adjacent odd cycle agrees in bits 25:22; in an odd cycle those of the even cycle before. -/
def TimeUnit.seconds (t : TimeUnit) (v cyc : Nat) : Option (Nat × Nat) :=
  let ns := bits v 37 8
  let join := fun lo hi : Nat => if hi % 16 = lo / 2 ^ 22 then (hi * 2 ^ 22 + lo % 2 ^ 22, 2 ^ 48) else (lo, 2 ^ 26)
  if cyc % 2 = 0 then
    let lo := v / 2 ^ 38
    match t.odd with
    | some (c, hi) => some (if (c + 1) % 2 ^ 32 = cyc then join lo hi else (lo, 2 ^ 26))
    | none => some (lo, 2 ^ 26)
  else
    match t.even with
    | some (c, lo, n) =>
      if (c + 1) % 2 ^ 32 = cyc then some (join ((lo + b2n (ns < n)) % 2 ^ 26) (v / 2 ^ 38)) else none
    | none => none

/-- R418: the offset in 1/256 ns of the local time `now` (1/256 ns) from a source time of `sec` seconds, known modulo `m`, and TSYNC
`v`: the least in magnitude. -/
def offsetOf (now sec m v : Nat) : Int :=
  shorterWay ((m : Int) * (256 * 10 ^ 9)) ((now : Int) - ((sec * 10 ^ 9 + bits v 37 8) * 256 + v % 256 : Nat))

/-- R418: the sample that a first copy of frame 0 of cycle `cyc` gives, with TSYNC `v`; cycles come every `ts` ns. -/
def State.ringSample (v cyc ts : Nat) (s : State) : State :=
  if s.get TIM_CFG_SRC ≠ 1 ∨ tsyncInvalid v ∨ s.tim.sampled = some cyc then s
  else
    let r := s.tim.seconds v cyc
    let run := match s.tim.sampled with | some c => (c + 1) % 2 ^ 32 == cyc | none => true
    let s := s.tu fun t =>
      { t with sampled := some cyc, qual := if run then t.qual else 0
               even := if cyc % 2 = 0 then some (cyc, v / 2 ^ 38, bits v 37 8) else t.even
               odd := if cyc % 2 = 0 then t.odd else some (cyc, v / 2 ^ 38) }
    match r with
    | some (sec, m) => s.timeSample (offsetOf s.now256 sec m v) ts (m == 2 ^ 48)
    | none => s

/-! ### IEEE 1588-2019 (R421, R422) -/

/-- R421: the order of the default best-master selection (IEEE 1588-2019, PRESUMED): the grandmaster's data set, then the steps
removed and the sending port. -/
def Foreign.key (f : Foreign) : List Nat :=
  [f.prio1, f.cls, f.acc, f.var, f.prio2, f.gm, f.steps, f.clock, f.port]

/-- Does the first list come before the second in dictionary order? -/
def keyBefore : List Nat → List Nat → Bool
  | a :: as, b :: bs => if a < b then true else if b < a then false else keyBefore as bs
  | _, _ => false

/-- R421: has the foreign master sent two Announce messages within four of its intervals, the last of them recently (PRESUMED)? -/
def Foreign.qualified (now : Nat) (f : Foreign) : Bool :=
  decide (now ≤ f.seenAt + 3 * f.interval) && (match f.before with | some t => decide (f.seenAt ≤ t + 4 * f.interval) | none => false)

/-- R421: the master that the selection chooses now. -/
def State.bestMaster (s : State) : Option Foreign :=
  (s.tim.masters.filter (Foreign.qualified s.clk.elapsed)).foldl (fun b f =>
    match b with
    | none => some f
    | some g => if keyBefore f.key g.key then some f else b) none

/-- R421, R422: the selection is made: what it chooses shows in TIM_PTP, TIM_GMID and TIM_UTC. -/
def State.selectMaster (s : State) : State :=
  match s.bestMaster with
  | some f =>
    let s := ((s.mark TIM_PTP_SEL true).wr64 TIM_GMID f.gm)
    let s := (s.mark TIM_UTC_VALID f.utcOk).put TIM_UTC_OFS f.utc
    if s.tim.parent = some (f.clock, f.port) then s else s.tu fun t => { t with parent := some (f.clock, f.port), sync := none, pair := none }
  | none =>
    let s := ((s.mark TIM_PTP_SEL false).wr64 TIM_GMID 0).mark TIM_UTC_VALID false
    s.tu fun t => { t with parent := none, sync := none, pair := none }

/-- Is the service port a PTP slave that takes this message: SRC 0x2 and the configured domain? -/
def State.ptpTakes (s : State) (dom : Nat) : Bool := s.get TIM_CFG_SRC == 2 && s.get TIM_PTP_DOMAIN == dom

/-- R421: an Announce message. -/
def State.announce (f : Foreign) (s : State) : State :=
  let old := s.tim.masters.find? fun g => g.clock == f.clock && g.port == f.port
  let f := { f with seenAt := s.clk.elapsed, before := old.map fun g => g.seenAt }
  let s := s.tu fun t => { t with masters := t.masters.filter (fun g => !(g.clock == f.clock && g.port == f.port)) ++ [f] }
  if s.tim.parent = some (f.clock, f.port) then
    ((s.mark TIM_UTC_VALID f.utcOk).put TIM_UTC_OFS f.utc)
  else s

/-- R421: the Sync sent at `t1` and received at `t2`, correction applied (2^-16 ns), gives a sample once a path delay is known. -/
def State.syncSample (t1 t2 : Int) (ts : Nat) (s : State) : State :=
  let s := s.tu fun t => { t with pair := some (t1, t2), sync := none }
  match s.tim.delay with
  | some d => s.timeSample ((t2 - t1 - d) / 256) ts true
  | none => s

/-- A PTP time stamp in 2^-16 ns. -/
def ptpTime (sec ns : Nat) : Int := (((sec * 10 ^ 9 + ns) * 65536 : Nat) : Int)

/-- The interval of 2^k s in ns, for k from -7 to 7. -/
def logInterval (k : Int) : Nat := if k < 0 then 10 ^ 9 / 2 ^ (-k).toNat else 10 ^ 9 * 2 ^ k.toNat

/-- R421: a Sync of the selected master, with its interval accepted, arrives now. -/
def State.syncIn (seq : Nat) (two : Bool) (t1 corr k : Int) (s : State) : State :=
  if k < -7 ∨ 1 < k then s
  else if two then s.tu fun t => { t with sync := some (seq, (s.now16 : Int), corr, logInterval k) }
  else s.syncSample (t1 + corr) s.now16 (logInterval k)

/-- R421: a path delay has been measured (2^-16 ns). -/
def State.pathDelay (d : Int) (s : State) : State :=
  (s.tu fun t => { t with delay := some d }).wr TIM_MPD (clampInt 0 (2 ^ 32 - 1) (d / 65536)).toNat

/-- R421: the messages that the port sends. -/
def State.ptpSend (l : List PtpTx) (s : State) : State := s.tu fun t => { t with out := l }

/-- R421: the port's own request leaves now: Delay_Req in E2E, to a selected master alone (PRESUMED, log 63), and Pdelay_Req in P2P. -/
def State.delayRequest (s : State) : State :=
  if !s.flag TIM_CFG_DM && s.tim.parent.isNone then s else
  let q := s.tim.nextSeq
  let t := (s.now16 : Int)
  (s.tu fun u => { u with req := some (q, t), resp := none, nextSeq := (q + 1) % 65536 }).ptpSend
    [{ kind := if s.flag TIM_CFG_DM then 1 else 0, seq := q, time := t }]

/-! ### The commands -/

/-- HOLDOVER (R413). -/
def execHoldover (dt : Nat) (s : State) : Host.Outcome State Fault Refusal := .next ((s.elapse dt).timHoldover)

/-- PERMIT (R414). -/
def execPermit (dt : Nat) (who : Accessor) (s : State) : Host.Outcome State Fault Refusal := .next ((s.elapse dt).timPermit who)

/-- LINK_DELAY_RESPONSE (R416): at port `p`, for cycle `cyc`, with TURN, `q` quarter ns after the whole nanosecond. -/
def execLinkDelayResponse (dt : Nat) (p : Fin 2) (cyc turn : BitVec 32) (q : Fin 4) (s : State) : Host.Outcome State Fault Refusal :=
  .next ((s.elapse dt).linkResponse p cyc.toNat turn.toNat q)

/-- GRANDMASTER_CHANGE (R422). -/
def execGrandmasterChange (dt : Nat) (s : State) : Host.Outcome State Fault Refusal :=
  let s := s.elapse dt
  .next (if s.get TIM_CFG_SRC = 2 then s.selectMaster else s)

/-- SYNC (R421): from the port `clock`, `port`, with its origin time and correction (2^-16 ns) and log interval `k`. -/
def execSync (dt : Nat) (dom : BitVec 8) (clock : BitVec 64) (port seq : BitVec 16) (two : Bool) (sec : BitVec 48) (ns : BitVec 32)
    (corr : BitVec 64) (k : BitVec 8) (s : State) : Host.Outcome State Fault Refusal :=
  let s := s.elapse dt
  .next (if s.ptpTakes dom.toNat && s.tim.parent == some (clock.toNat, port.toNat) then
    s.syncIn seq.toNat two (ptpTime sec.toNat ns.toNat) corr.toInt k.toInt else s)

/-- FOLLOW_UP (R421): the precise origin time of a two-step Sync. -/
def execFollowUp (dt : Nat) (dom : BitVec 8) (clock : BitVec 64) (port seq : BitVec 16) (sec : BitVec 48) (ns : BitVec 32)
    (corr : BitVec 64) (s : State) : Host.Outcome State Fault Refusal :=
  let s := s.elapse dt
  .next (if s.ptpTakes dom.toNat && s.tim.parent == some (clock.toNat, port.toNat) then
    match s.tim.sync with
    | some (q, t2, c, ts) => if q = seq.toNat then s.syncSample (ptpTime sec.toNat ns.toNat + c + corr.toInt) t2 ts else s
    | none => s
  else s)

/-- ANNOUNCE (R421): from the port `clock`, `port`, with the data set of its grandmaster and log interval `k`. -/
def execAnnounce (dt : Nat) (dom : BitVec 8) (clock : BitVec 64) (port : BitVec 16) (prio1 cls acc : BitVec 8) (var : BitVec 16)
    (prio2 : BitVec 8) (gm : BitVec 64) (steps utc : BitVec 16) (utcOk : Bool) (k : BitVec 8) (s : State) :
    Host.Outcome State Fault Refusal :=
  let s := s.elapse dt
  let f : Foreign :=
    { clock := clock.toNat, port := port.toNat, prio1 := prio1.toNat, cls := cls.toNat, acc := acc.toNat, var := var.toNat
      prio2 := prio2.toNat, gm := gm.toNat, steps := steps.toNat, utc := utc.toNat, utcOk := utcOk
      interval := logInterval (clampInt (-7) 7 k.toInt), seenAt := 0 }
  .next (if s.ptpTakes dom.toNat then s.announce f else s)

/-- DELAY_REQ (R421): the interval of LOGDREQ has elapsed, and the port sends its request. -/
def execDelayReq (dt : Nat) (s : State) : Host.Outcome State Fault Refusal :=
  let s := s.elapse dt
  .next (if s.get TIM_CFG_SRC = 2 then s.delayRequest else s)

/-- DELAY_RESP (R421): from the selected master, `mine` when it answers this port, with the time at which the request arrived. -/
def execDelayResp (dt : Nat) (dom : BitVec 8) (clock : BitVec 64) (port seq : BitVec 16) (mine : Bool) (sec : BitVec 48) (ns : BitVec 32)
    (corr : BitVec 64) (s : State) : Host.Outcome State Fault Refusal :=
  let s := s.elapse dt
  .next (if s.ptpTakes dom.toNat && !s.flag TIM_CFG_DM && mine && s.tim.parent == some (clock.toNat, port.toNat) then
    match s.tim.req, s.tim.pair with
    | some (q, t3), some (t1, t2) =>
      if q = seq.toNat then
        (s.tu fun t => { t with req := none }).pathDelay ((t2 - t1 + (ptpTime sec.toNat ns.toNat - corr.toInt - t3)) / 2)
      else s
    | _, _ => s
  else s)

/-- PDELAY_REQ (R421): from the peer `clock`, `port`: a two-step response, its arrival and then its departure, here in the same
instant. -/
def execPdelayReq (dt : Nat) (dom : BitVec 8) (clock : BitVec 64) (port seq : BitVec 16) (s : State) :
    Host.Outcome State Fault Refusal :=
  let s := s.elapse dt
  let m : PtpTx := { kind := 2, seq := seq.toNat, clock := clock.toNat, port := port.toNat, time := (s.now16 : Int) }
  .next (if s.ptpTakes dom.toNat && s.flag TIM_CFG_DM then s.ptpSend [m, { m with kind := 3 }] else s)

/-- PDELAY_RESP (R421): a response of the peer, `mine` when it answers this port; one-step when `two` is false. -/
def execPdelayResp (dt : Nat) (dom : BitVec 8) (seq : BitVec 16) (mine two : Bool) (sec : BitVec 48) (ns : BitVec 32)
    (corr : BitVec 64) (s : State) : Host.Outcome State Fault Refusal :=
  let s := s.elapse dt
  .next (if s.ptpTakes dom.toNat && s.flag TIM_CFG_DM && mine then
    match s.tim.req with
    | some (q, t1) =>
      if q ≠ seq.toNat then s
      else if two then s.tu fun t => { t with resp := some (q, (s.now16 : Int) - t1 + ptpTime sec.toNat ns.toNat - corr.toInt) }
      else (s.tu fun t => { t with req := none }).pathDelay (((s.now16 : Int) - t1 - corr.toInt) / 2)
    | none => s
  else s)

/-- PDELAY_RESP_FOLLOW_UP (R421): the departure of the peer's response. -/
def execPdelayRespFollowUp (dt : Nat) (dom : BitVec 8) (seq : BitVec 16) (mine : Bool) (sec : BitVec 48) (ns : BitVec 32)
    (corr : BitVec 64) (s : State) : Host.Outcome State Fault Refusal :=
  let s := s.elapse dt
  .next (if s.ptpTakes dom.toNat && s.flag TIM_CFG_DM && mine then
    match s.tim.resp with
    | some (q, v) =>
      if q = seq.toNat then
        (s.tu fun t => { t with req := none, resp := none }).pathDelay ((v - ptpTime sec.toNat ns.toNat - corr.toInt) / 2)
      else s
    | none => s
  else s)

/-- ANNOUNCE_RECEIPT_TIMEOUT (R422): three intervals (PRESUMED) without an Announce of the selected master: the selection is made
again without it. -/
def execAnnounceReceiptTimeout (dt : Nat) (s : State) : Host.Outcome State Fault Refusal :=
  let s := s.elapse dt
  .next (match s.tim.parent with
    | some (c, p) =>
      match s.tim.masters.find? fun f => f.clock == c && f.port == p with
      | some f =>
        if f.seenAt + 3 * f.interval ≤ s.clk.elapsed then
          (s.tu fun t => { t with masters := t.masters.filter fun g => !(g.clock == c && g.port == p) }).selectMaster
        else s
      | none => s.selectMaster
    | none => s)

end Sys2Proof.Machine
end

