-- ==== Sys2Proof/Machine/Ring.lean ====
section
/-! DEFINITION. The Oplyn ring, common part (R378 to R387, R396, R401): ports, frames, frame buffers, and the states that the master
reports. A frame is the list of its bytes after the EtherType; its command stands at the instant its start reaches the receiving land
(log 43). -/

namespace Sys2Proof.Machine

/-! ### Bytes of frames (R385) -/

/-- The bytes `l` with `b` in place from offset `o` on. -/
def spliceAt (l : List Byte) (o : Nat) (b : List Byte) : List Byte := l.take o ++ b ++ l.drop (o + b.length)

/-- The bytes `l` with a little-endian field of `n` bytes at offset `o`. -/
def putLe (l : List Byte) (o n v : Nat) : List Byte := spliceAt l o (leBytes n v)

def frameRet (d : List Byte) : Bool := bit (leAt d 2 1) 0
def frameIdx (d : List Byte) : Nat := leAt d 3 1 % 8
def frameCycle (d : List Byte) : Nat := leAt d 4 4
def frameTsync (d : List Byte) : Nat := leAt d 8 8

/-- R382: the frame with RET 1. -/
def setRet (d : List Byte) : List Byte := putLe d 2 1 (setBit (leAt d 2 1) 0 true)

/-- R385: HITS, saturating. -/
def addHit (d : List Byte) : List Byte := putLe d 0x14 1 (min 255 (leAt d 0x14 1 + 1))

/-- R385: a ring header of 24 bytes; CMTCYC is valid when there is one. -/
def ringHeader (type fidx cyc tsync plen : Nat) (cmt : Option Nat) : List Byte :=
  leBytes 1 1 ++ leBytes 1 type ++ leBytes 1 (if cmt.isSome then 2 else 0) ++ leBytes 1 fidx ++ leBytes 4 cyc ++ leBytes 8 tsync
    ++ leBytes 4 (cmt.getD 0) ++ leBytes 2 0 ++ leBytes 2 plen

/-! ### Ports and buffers (R378 to R380, R396, R401) -/

def State.ringMem (s : State) (m : Nat) : RingMem := tabGet {} s.ring.mems m
def State.onRingMem (m : Nat) (f : RingMem → RingMem) (s : State) : State :=
  s.onRing fun r => { r with mems := tabMod {} r.mems m f }

/-- R379: is port `p` (0 A, 1 B) up? -/
def State.portUp (s : State) (p : Nat) : Bool := s.flag (if p = 0 then RNG_ST_PA else RNG_ST_PB)

/-- R396: is the ready indication given, and the ring used? -/
def State.ringOn (s : State) : Bool := s.flag RNG_ST_READY && !s.ring.clkLost

/-- Does the node take a frame at port `p` now, in role `role`? -/
def State.ringTakes (s : State) (role p : Nat) : Bool := s.ringOn && s.get RNG_CFG_ROLE == role && s.portUp p

/-- R387: the ring cycle in ns: RNG_CYC, and at a member TR once IDENT has given it (R388). -/
def State.ringCycle (s : State) : Nat := if s.get RNG_CFG_ROLE = 2 ∧ s.ring.tr ≠ 0 then s.ring.tr else s.rd RNG_CYC

/-- R378, R387: the wire time of a frame with `n` bytes after the EtherType, padded to 64 bytes, preamble and gap included, in 250 ps. -/
def State.wireTime (s : State) (n : Nat) : Nat := (8 + 14 + max n 46 + 4 + 12) * (if s.flag RNG_CFG_SPEED then 320 else 32)

/-- R401: the frame buffers that are still in use, with the counts that show them. -/
def State.showBufs (s : State) : State :=
  let l := s.ring.bufs.filter fun b => decide (s.quarter < b.2)
  let n := fun k : Nat => (l.filter fun b => b.1 == k).length
  let s := s.onRing fun r => { r with bufs := l }
  (((s.put RNG_BUFA_FREE (64 - l.length)).put RNG_BUFA_RECV (n 1)).put RNG_BUFB_FWD (n 2)).put RNG_BUFB_TXW (n 3)

/-- R401: a buffer in state `k` until `t`; a frame that finds none FREE is discarded and counted, and the answer is false. -/
def State.takeBuf (k t : Nat) (s : State) : Bool × State :=
  let s := s.showBufs
  if 64 ≤ s.ring.bufs.length then (false, s.lose 0x18 RNG_ERR_NOBUF 1)
  else (true, (s.onRing fun r => { r with bufs := r.bufs ++ [(k, t)] }).showBufs)

/-- When a frame can start at port `p`, not before `t`. -/
def State.txStart (s : State) (p t : Nat) : Nat := max t (tabGet 0 s.ring.busy p)

/-- Port `p` sends a frame that starts at `t`. -/
def State.ringSend (p t : Nat) (ok : Bool) (d : List Byte) (s : State) : State :=
  s.onRing fun r => { r with tx := r.tx ++ [{ port := p, ok := ok, data := d }], busy := tabSet r.busy p (t + s.wireTime d.length) }

/-- R416: frame 0 of a measuring cycle leaves port `p` at `t`: its start is stamped. -/
def State.stampSend (p t : Nat) (d : List Byte) (s : State) : State :=
  if leAt d 1 1 = 1 ∧ frameIdx d = 0 ∧ !frameRet d ∧ frameCycle d % 16 = 0 then
    s.tu fun u => { u with t1 := tabSet u.t1 p (frameCycle d, s.now256 + (t - s.quarter) * 64) }
  else s

/-- R416: a first-pass frame 0 of a measuring cycle has come at port `p`: the response, unless it would leave over 4 µs later. -/
def State.linkAnswer (p : Nat) (d : List Byte) (s : State) : State :=
  let t := s.txStart p s.quarter
  if leAt d 1 1 = 1 ∧ frameIdx d = 0 ∧ !frameRet d ∧ frameCycle d % 16 = 0 ∧ t - s.quarter ≤ 16000 then
    let f := leBytes 1 1 ++ leBytes 1 1 ++ leBytes 2 0 ++ leBytes 4 (frameCycle d) ++ leBytes 4 ((t - s.quarter) * 64)
    s.onRing fun r => { r with tx := r.tx ++ [{ port := p, link := true, data := f }], busy := tabSet r.busy p (t + s.wireTime 12) }
  else s

/-- R382, R386, R417: a member passes a frame that came in at port `p`: on first pass out of the other port, or back with RET 1 when
that port is down; with RET 1 out of the other port. TSYNC gains the residence time and D of the sending port. -/
def State.ringForward (p : Nat) (ok : Bool) (d : List Byte) (s : State) : State :=
  let ret := frameRet d
  let out := if s.portUp (1 - p) then 1 - p else p
  let t := s.txStart out (s.quarter + s.rd RNG_FWD)
  let d := if out = p then setRet d else d
  let v := match s.linkDelay out with
    | some dly => tsyncAdd (frameTsync d) ((t - s.quarter) * 64 + dly) (frameCycle d)
    | none => tsyncSpoil (frameTsync d)
  let d := if ret then d else putLe d 8 8 v
  if ret ∧ out = p then s else (s.stampSend out t d).ringSend out t ok d

/-- R88: a member hears the commit cycle in the header of any frame. -/
def State.hearCommit (d : List Byte) (s : State) : State :=
  if bit (leAt d 2 1) 1 then s.onRing fun r => { r with cmt := some (leAt d 0x10 4) } else s

/-- R382, R386, R401: a member takes a frame at port `p`: with RET 1 it passes unchanged; on first pass it leaves as `f` makes it, and
when its FCS was correct `g` applies what was read. -/
def State.memberFrame (p : Nat) (ok : Bool) (d : List Byte) (f : State → List Byte) (g : State → State) (s : State) : State :=
  if !s.ringTakes 2 p then s
  else
    let t := s.txStart (1 - p) (s.quarter + s.rd RNG_FWD)
    let r := s.takeBuf (if s.quarter + s.rd RNG_FWD < t then 3 else 2) (t + s.wireTime d.length)
    let s := r.2
    if !r.1 then s
    else
      let s := if ok then s else s.satBump RNG_ERR_FCS 1
      if frameRet d then s.ringForward p ok d
      else
        let s := if ok then (s.linkAnswer p d).ringForward p ok (addHit (f s)) else s.ringForward p ok (addHit (f s))
        if ok then g (s.hearCommit d) else s

/-- R381, R386, R401: does the master take a returned copy at port `p`, with the state after it came? -/
def State.masterFrame (p : Nat) (ok : Bool) (d : List Byte) (s : State) : Bool × State :=
  if !s.ringTakes 1 p then (false, s)
  else
    let r := s.takeBuf 1 (s.quarter + s.wireTime d.length)
    if !r.1 then r
    else if !ok then (false, r.2.satBump RNG_ERR_FCS 1)
    else (true, if frameRet d then r.2 else r.2.linkAnswer p d)

/-- The master port on which a returned copy was sent: with RET 0 it has gone all the way round. -/
def sentPort (p : Nat) (d : List Byte) : Nat := if frameRet d then p else 1 - p

/-! ### The ring states (R383) and the ready indication (R396) -/

/-- R383, R397: the ring state becomes `v`; a DISCOVER frame follows a change. -/
def State.ringState (v : Nat) (s : State) : State :=
  if s.get RNG_ST_STATE = v then s
  else
    let s := if v = 3 then s.put RNG_ST_CRUN 0 else s
    (s.put RNG_ST_STATE v).onRing fun r => { r with discover := true, broken := false }

/-- R379, R380, R383: a link comes up at port `p`. -/
def State.linkUp (p : Nat) (s : State) : State :=
  if !s.ringOn || s.flag RNG_ST_BYP || s.portUp p || s.get RNG_CFG_ROLE == 0 then s
  else
    let (lo, n) := if s.flag RNG_CFG_SPEED then (4000, 321) else (1248, 33)
    let s := ((s.mark (if p = 0 then RNG_ST_PA else RNG_ST_PB) true).wr RNG_FWD (lo + s.free n)).drew 1
    let s := s.put (PWR_ISL_STATE 0x18) 0
    if s.get RNG_CFG_ROLE = 1 then
      let s := s.onRing fun r => { r with discover := true }
      if s.get RNG_ST_STATE = 0 then s.ringState (if s.flag RNG_CFG_TOPO then 1 else 3) else s
    else s

/-- R379, R383: port `p` goes down. -/
def State.linkDown (p : Nat) (s : State) : State :=
  if !s.portUp p then s
  else
    let s := s.mark (if p = 0 then RNG_ST_PA else RNG_ST_PB) false
    if s.get RNG_CFG_ROLE = 1 then
      if !s.portUp 0 && !s.portUp 1 then s.ringState 0
      else if s.get RNG_ST_STATE = 2 then s.onRing fun r => { r with broken := true }
      else s
    else s

/-- R396, R53: the ready indication is withdrawn: the bypass closes and the PHYs have no link. -/
def State.ringWithdraw (s : State) : State := (((s.mark RNG_ST_READY false).linkDown 0).linkDown 1).mark RNG_ST_BYP true

/-- R396: the indication is given when CFG_STATE reaches READY. -/
def State.ringReady (s : State) : State := if s.get RNG_CFG_ROLE = 0 ∨ s.ring.clkLost then s else s.mark RNG_ST_READY true

/-! ### The master's members (R393, R398, R399) -/

/-- R402: a member of RINGMAP. -/
def State.mapEntry (s : State) (m : Nat) : Option MapEntry := s.ring.map.find? fun e => e.addr == m

/-- R395: a supervisory request to member `m` joins its list; `m` 0 stands for all members (DEST 0xFF). -/
def State.svRequest (m mtype : Nat) (data : List Byte) (s : State) : State :=
  let q : SvReq := { dest := if m = 0 then 0xFF else m, mtype := mtype, data := data, seq := s.ring.mseq }
  (s.onRing fun r => { r with mseq := (r.mseq + 1) % 65536 }).onRingMem m fun x => { x with reqs := x.reqs ++ [q] }

/-- R394: IDENT to member `m`. -/
def State.askIdent (m : Nat) (s : State) : State := s.svRequest m 1 (leBytes 4 s.profilePeriod ++ leBytes 4 (s.rd RNG_CYC))

/-- R394: PARAM to member `m` for its axis `n`, staged or not. -/
def State.sendBlock (m n : Nat) (stage : Bool) (s : State) : State :=
  let k := s.axSubaxis n
  let s := s.onRingMem m fun x =>
    if stage then { x with stageOwed := x.stageOwed.filter (· != k) ++ [k] } else { x with owed := x.owed.filter (· != k) ++ [k] }
  s.svRequest m 2 (leBytes 1 k ++ leBytes 1 (b2n stage) ++ leBytes 2 0 ++ s.memberBlock n)

/-- R122: remote axis `n` enters QUARANTINED: no torque, no motion. -/
def State.quarantineAxis (n : Nat) (s : State) : State :=
  if s.axState n = 7 then s
  else
    let s := (s.enter n 7).onAxis n fun x => { x with disabling := false, brakeDue := none, enStep := 0, ssCount := 0, acked := false }
    (s.dropMotion n).masterLost fun sel => sel == n

/-- R399: member `m` is quarantined for the reason `why`. -/
def State.quarantine (m why : Nat) (s : State) : State :=
  let s := (s.put (RNG_MST_STATE m) 4).put (RNG_MST_QR m) why
  let s := s.onRingMem m fun x => { x with reqs := [], owed := [], owedAt := none }
  (s.memberAxes m).foldl (fun s n => s.quarantineAxis n) s

/-- R398, R400: member `m` reaches RUN; its quarantined axes enter DISABLED (R122, R126). -/
def State.memberRun (m : Nat) (s : State) : State :=
  let s := (s.put (RNG_MST_STATE m) 3).put (RNG_MST_QR m) 0
  (s.memberAxes m).foldl (fun s n =>
    let s := s.onAxis n fun x => { x with acked := true, blockDue := false }
    if s.axState n = 7 then
      let s := (((s.put (PRF_AXST_CAUSE n) 0).put (PRF_AXST_FCNT n) 0).mark (PRF_AXST_STOPTO n) false).put (PRF_AXST_REACT n) 0
      s.toDisabled n 4
    else s) s

/-- R398, R400: member `m` enters PARAM: all its blocks are sent with STAGE 0. -/
def State.memberParam (m : Nat) (s : State) : State :=
  let s := (s.put (RNG_MST_STATE m) 2).put (RNG_MST_QR m) 0
  let s := s.onRingMem m fun x => { x with owed := [], owedAt := none }
  (s.memberAxes m).foldl (fun s n => (s.sendBlock m n false).onAxis n fun x => { x with acked := false, blockDue := false }) s

/-- R393: member `m` has been missed LOSTMAX times and is LOST. -/
def State.memberLost (m : Nat) (s : State) : State :=
  let st := s.get (RNG_MST_STATE m)
  if s.get RNG_CFG_ROLE ≠ 1 ∨ st = 0 ∨ st = 5 ∨ s.get (RNG_MST_MISS m) < s.get RNG_CFG_LOSTMAX then s
  else
    let s := (s.put (RNG_MST_STATE m) 5).put (RNG_MST_QR m) 0
    let s := s.onRingMem m fun x => { x with reqs := [], owed := [], owedAt := none }
    ((s.memberAxes m).filter fun n => s.enabled n).foldl (fun s n => s.fault n 0x0C m 0x18) s

/-- R399: a block was not acknowledged within 1 100 ms of its first send. -/
def State.blockTimeout (m : Nat) (s : State) : State :=
  match (s.ringMem m).owedAt with
  | some t => if (s.ringMem m).owed ≠ [] ∧ t + 1100000000 ≤ s.clk.elapsed then s.quarantine m 6 else s
  | none => s

/-- R400: a write of 1 to RNG_MCTL[m].REPARAM by `who`. -/
def State.reparam (who : Accessor) (m : Nat) (s : State) : State :=
  if s.get (RNG_MST_STATE m) = 4 ∧ (s.get (RNG_MST_QR m) = 3 ∨ s.get (RNG_MST_QR m) = 6) then s.memberParam m
  else s.accessError who 4 (RNG_MCTL m) 1

/-- R395: a message buffer is returned. -/
def State.svRelease (b : Nat) (s : State) : State :=
  let s := s.onRing fun r => { r with svUse := r.svUse.filter (· != b) }
  s.put RNG_SVQ_FREE (32 - s.ring.svUse.length)

/-- R395: a message of type `mtype` from node `src` is delivered to the firmware; false when it could not be. -/
def State.svDeliver (mtype src : Nat) (bytes : List Byte) (s : State) : Bool × State :=
  let free := below 32 fun b => !(s.ring.svUse.contains b)
  let k := s.free free.length
  let s := s.drew 1
  match free[k]? with
  | none => (false, s.lose 0x18 RNG_SVQ_LOST 1)
  | some b =>
    let s := s.bulkStore (s.rd RNG_SVBUF + 0x800 * b) bytes
    let r := s.tryPush 4 (s.get RNG_SVQ_Q) [entry (3 * 2 ^ 60 + b * 2 ^ 55 + mtype * 2 ^ 40 + src * 2 ^ 32 + bytes.length)]
    if r.1 = 0x1 then
      let s := r.2.onRing fun x => { x with svUse := b :: x.svUse }
      (true, (s.put RNG_SVQ_FREE (32 - s.ring.svUse.length)).event 0x54)
    else (false, r.2.lose 0x18 RNG_SVQ_LOST 1)

/-- R378, R381: a frame with another EtherType, or at the master a ring frame with a foreign source. -/
def State.foreignFrame (p etype src : Nat) (s : State) : State :=
  if !s.ringOn || !s.portUp p then s
  else if etype ≠ s.get RNG_ETYPE_ETYPE then s.satBump RNG_ERR_FOREIGN 1
  else if s.get RNG_CFG_ROLE = 1 ∧ src ≠ s.rd64 RNG_MAC % 2 ^ 48 then (s.satBump RNG_ERR_FOREIGN 1).severe 0x18 0 RNG_ERR
  else s

/-! ### The commands -/

/-- LINK_UP (R379): port `p`, 0 for A and 1 for B. -/
def execLinkUp (dt : Nat) (p : Fin 2) (s : State) : Host.Outcome State Fault Refusal := .next ((s.elapse dt).linkUp p)

/-- LINK_DOWN (R379). -/
def execLinkDown (dt : Nat) (p : Fin 2) (s : State) : Host.Outcome State Fault Refusal := .next ((s.elapse dt).linkDown p)

/-- FOREIGN_FRAME (R378, R381): its EtherType and source address. -/
def execForeignFrame (dt : Nat) (p : Fin 2) (etype : BitVec 16) (src : BitVec 48) (s : State) : Host.Outcome State Fault Refusal :=
  .next ((s.elapse dt).foreignFrame p etype.toNat src.toNat)

/-- SVREL (R395). -/
def execSvrel (dt : Nat) (b : Fin 32) (s : State) : Host.Outcome State Fault Refusal := .next ((s.elapse dt).svRelease b)

/-- MEMBER_LOST (R393). -/
def execMemberLost (dt : Nat) (m : Fin 256) (s : State) : Host.Outcome State Fault Refusal := .next ((s.elapse dt).memberLost m)

/-- PARAM_ACK_TIMEOUT (R399). -/
def execParamAckTimeout (dt : Nat) (m : Fin 256) (s : State) : Host.Outcome State Fault Refusal := .next ((s.elapse dt).blockTimeout m)

/-- LEAVE (R396). -/
def execLeave (dt : Nat) (s : State) : Host.Outcome State Fault Refusal := .next ((s.elapse dt).ringWithdraw)

/-- REPARAM (R400). -/
def execReparam (dt : Nat) (who : Accessor) (m : Fin 256) (s : State) : Host.Outcome State Fault Refusal :=
  .next ((s.elapse dt).reparam who m)

/-- RING_CLOCK_LOSS (R396): the clock of island 0x18 is lost, or has returned. -/
def execRingClockLoss (dt : Nat) (lost : Bool) (s : State) : Host.Outcome State Fault Refusal :=
  let s := (s.elapse dt).onRing fun r => { r with clkLost := lost }
  .next (if lost then s.ringWithdraw else s)

end Sys2Proof.Machine
end

