-- ==== Sys2Proof/Machine/RingCycle.lean ====
section
/-! DEFINITION. The ring cycle (R384, R387 to R393, R397): slices and cyclic data, at a member and at the master. -/

namespace Sys2Proof.Machine

/-! ### Slices (R389) -/

/-- The length of a slice. -/
def sliceLen (nsub : Nat) (safe : Bool) : Nat := 4 + 36 * nsub + (if safe then 48 else 0)

/-- The offset of the slice of member `a` in the slice area `l`, from `o` on; bytes between slices are 0x00, the master's own address
(log 44). -/
def findSlice : Nat → List Byte → Nat → Nat → Option Nat
  | 0, _, _, _ => none
  | k + 1, l, o, a =>
    if l.length ≤ o then none
    else
      let x := leAt l o 1
      if x = 0 then findSlice k l (o + 1) a
      else if x = a then some o
      else findSlice k l (o + sliceLen (leAt l (o + 2) 1) (bit (leAt l (o + 1) 1) 2)) a

/-- The offset in the frame `d` of the node's own slice. -/
def State.ownSlice (s : State) (d : List Byte) : Option Nat :=
  (findSlice d.length (d.drop 24) 0 (s.get RNG_CFG_ADDR)).map (· + 24)

/-! ### A member (R388 to R392) -/

/-- R389: MSTAT of the member. -/
def State.memberStat (s : State) : Nat :=
  let flt := (List.range 16).any fun k => match s.subAxis k with | some n => s.axState n == 6 | none => false
  let ready := s.ring.replies.any fun r => match r.waits with | some n => !s.flag (PRF_AXST_PENDCMT n) | none => true
  b2n (s.ring.blocks == []) + 2 * b2n flt + 128 * b2n ready

/-- R389: the frame with the member's inputs, MSTAT, SEEN and SIN in its slice. -/
def State.fillSlice (s : State) (d : List Byte) : List Byte :=
  match s.ownSlice d with
  | none => d
  | some o =>
    let n := leAt d (o + 2) 1
    let fl := leAt d (o + 1) 1
    let d := putLe (putLe d (o + 1) 1 (setBit fl 7 true)) (o + 3) 1 s.memberStat
    let d := (List.range n).foldl (fun d k => spliceAt d (o + 4 + 36 * k + 0x14) (slice (tabGet [] s.ring.inputs k) 0 16)) d
    if bit fl 2 then spliceAt d (o + 4 + 36 * n + 24) (slice (tabGet [] s.ring.sout 0) 0 24) else d

/-- R390, R391, R420: REQ with REQSEQ `q` for subaxis `k`, which is local axis `n`: acted on once, when REQSEQ changes. -/
def State.memberReq (k n q req : Nat) (s : State) : State :=
  if tabGet 0 s.ring.acks k = q then s
  else
    let s := s.onRing fun r => { r with acks := tabSet r.acks k q }
    match req with
    | 1 => if s.get TIM_ST_STATE = 2 then s.axisRequests n true false false else s
    | 2 => s.axisRequests n false true false
    | 3 => s.axisRequests n false false true
    | _ => s

/-- R389, R390: subaxis `k` of a slice that came with a correct FCS. -/
def State.memberRecord (r : List Byte) (act new : Bool) (k : Nat) (s : State) : State :=
  match s.subAxis k with
  | none => s
  | some n =>
    let ctl := leAt r 0x10 2
    let s := s.onAxis n fun x => { x with ringReact := some (ctl / 16 % 4) }
    let s := if new then s.onRing fun q => { q with newSet := tabSet q.newSet k (leAtS r 0 8, leAtS r 8 8) } else s
    if act then s.memberReq k n (ctl / 4096) (ctl / 256 % 16) else s.requestDisable n

/-- R388 to R390: a member applies what it read in its slice. -/
def State.memberApply (d : List Byte) (s : State) : State :=
  let s := s.wr RNG_CYCNT (frameCycle d)
  let s := if frameIdx d = 0 then s.ringSample (frameTsync d) (frameCycle d) s.ringCycle else s
  match s.ownSlice d with
  | none => s
  | some o =>
    let fl := leAt d (o + 1) 1
    let n := leAt d (o + 2) 1
    let s := if bit fl 1 then s.onRing fun r => { r with got := true } else s
    let s := if bit fl 2 then s.onRing fun r => { r with sin := tabSet r.sin 0 (slice d (o + 4 + 36 * n) 24) } else s
    (List.range (min n 16)).foldl (fun s k => s.memberRecord (slice d (o + 4 + 36 * k) 36) (bit fl 1) (bit fl 0) k) s

/-- R389: the inputs of subaxis `k` at the start of the cycle. The q current is not defined further by the spec: a free value. -/
def State.latchInput (k : Nat) (s : State) : State :=
  match s.subAxis k with
  | none => s
  | some n =>
    let st := s.axState n * 8192 + b2n (s.flag (PRF_AXST_REF n)) * 4096 + tabGet 0 s.ring.acks k % 16 * 256 + s.get (PRF_AXST_CAUSE n)
    let fe := satSigned 32 ((s.cx n).psp.toInt - (s.cx n).pm.toInt)
    let b := leBytes 8 (unsigned 64 (s.measPos n)) ++ leBytes 2 st ++ leBytes 2 (s.free 65536) ++ leBytes 4 (unsigned 32 fe)
    (s.drew 1).onRing fun r => { r with inputs := tabSet r.inputs k b }

/-- R388, R391: the set-point with NEW of subaxis `k` takes effect, under the Leash (R97); a velocity makes it a move (log 44). -/
def State.ringSetPoint (k : Nat) (s : State) : State :=
  match tabFind s.ring.newSet k, s.subAxis k with
  | some (p, v), some n =>
    let st := s.axState n
    if 2 ≤ st ∧ st ≤ 4 then
      let s := s.onMot n fun m => { m with pos := s.intoRange n (p * 65536), vel := v }
      let s := if st = 2 ∧ v ≠ 0 then s.enter n 3 else s
      let r := s.leashSet n p v
      (r.2.wr64S (PRF_SPOS n) r.1.1).wr64S (PRF_SVEL n) r.1.2
    else s
  | _, _ => s

/-- R391: the block `b` of subaxis `k` becomes part of the committed local entry `n` at once, as staged sets do (R88). -/
def State.putBlock (k n : Nat) (b : List Byte) (s : State) : State :=
  let old := s.committed n
  let new := spliceAt (spliceAt old 0x080 (slice b 0 0x80)) 0x200 (slice b 0x80 0x180)
  let new := putLe new 0x00C 4 (crc32c (slice new 0x010 0x3B0))
  let s := if new = old then s else ((s.bulkStore (s.workAt n) new).putEntry n (nextGen (s.get (PRF_AXGEN_CGEN n))) new).switchCaches n old false
  s.onRing fun r => { r with blocks := tabSet r.blocks k b }

/-- R88: the staged set takes effect at the start of CMTCYC. -/
def State.applyStage (s : State) : State :=
  if s.ring.cmt = some (s.rd RNG_CYCNT) then
    let l := s.ring.stage
    let s := s.onRing fun r => { r with stage := [], cmt := none }
    l.foldl (fun s (e : Nat × List Byte) => match s.subAxis e.1 with | some n => s.putBlock e.1 n e.2 | none => s) s
  else s

/-- R388, R392: a ring boundary at a member. -/
def State.memberBoundary (s : State) : State :=
  let got := s.ring.got
  let s := s.onRing fun r => { r with got := false, missed := if got then 0 else r.missed + 1, lossDone := r.lossDone && !got }
  let s := s.applyStage
  let turn := s.atBoundary s.ring.tp
  let s := ((List.range 16).foldl (fun s k =>
    if (tabFind s.ring.newSet k).isSome then s.ringSetPoint k else if turn then s.mappedStep k else s) s).onRing fun r => { r with newSet := [] }
  (List.range 16).foldl (fun s k => s.latchInput k) s

/-- R392: a member without its slice for MISSMAX cycles latches cause 0x0C on each mapped axis, once for one loss. -/
def State.ringLoss (s : State) : State :=
  if s.get RNG_CFG_ROLE ≠ 2 ∨ s.ring.lossDone ∨ s.ring.missed < max 1 (s.get RNG_CFG_MISSMAX) then s
  else
    let s := s.onRing fun r => { r with lossDone := true }
    (List.range 16).foldl (fun s k => match s.subAxis k with
      | some n => if s.enabled n then s.fault n 0x0C 0 0x18 else s
      | none => s) s

/-! ### The master sends (R387 to R389) -/

/-- R388: is this the last ring cycle before a profile boundary? -/
def State.lastCycle (s : State) : Bool :=
  s.rd RNG_CYC != 0 && s.profilePeriod != 0 && (s.clk.ns / s.rd RNG_CYC + 1) * s.rd RNG_CYC % s.profilePeriod == 0

/-- R389: REQSEQ and REQ for remote axis `n`: a new request when a fault reset is forwarded, when the axis is to be enabled, or when it
no longer is (log 45). -/
def State.nextReq (n : Nat) (s : State) : State :=
  let (q, r) := tabGet (0, 0) s.ring.axReq n
  let wants := s.enabled n && !(s.axis n).disabling
  let set := fun v => s.onRing fun x => { x with axReq := tabSet x.axReq n ((q + 1) % 16, v) }
  if (s.axis n).reqReset then (set 3).onAxis n fun x => { x with reqReset := false }
  else if wants ∧ r ≠ 1 then set 1
  else if !wants ∧ r = 1 then set 2
  else s

/-- R389: the record of remote axis `n`: the set-points that take effect at the next profile boundary (R26), under the Leash. -/
def State.axisRecord (s : State) (n : Nat) : List Byte :=
  let x := s.mot n
  let p := (s.intoRange n (x.pos - (s.axis n).dOfs * 65536)) / 65536
  let r := (s.leashSet n p x.vel).1
  let (q, req) := tabGet (0, 0) s.ring.axReq n
  let react := if s.axState n = 6 then s.get (PRF_AXST_REACT n) else s.axReact n
  leBytes 8 (unsigned 64 r.1) ++ leBytes 8 (unsigned 64 r.2) ++ leBytes 2 (q * 4096 + req * 256 + react % 4 * 16)
    ++ List.replicate 18 0

/-- R389: the slice that the master sends to a member. -/
def State.sliceOut (s : State) (e : MapEntry) (new : Bool) : List Byte :=
  let act := s.get (RNG_MST_STATE e.addr) == 3
  leBytes 1 e.addr ++ leBytes 1 (b2n new + 2 * b2n act + 4 * b2n e.safe) ++ leBytes 1 e.nsub ++ leBytes 1 0
    ++ ((List.range e.nsub).flatMap fun k => match s.memberAxis e.addr k with | some n => s.axisRecord n | none => List.replicate 36 0)
    ++ (if e.safe then slice (tabGet [] s.ring.sout e.addr) 0 24 ++ List.replicate 24 0 else [])

/-- R389: the slice area of cycle frame `f`. -/
def State.sliceArea (s : State) (f : Nat) (new : Bool) : List Byte :=
  (s.ring.map.filter fun e => e.frame == f).foldl (fun l e => spliceAt l e.fofs (s.sliceOut e new))
    (List.replicate (s.ring.flen.getD f 0) 0)

/-- R382: the ports on which the master sends. -/
def State.masterPorts (s : State) : List Nat :=
  match s.get RNG_ST_STATE with
  | 0 => []
  | 2 => [1]
  | _ => [0, 1].filter fun p => s.portUp p

/-- R388: CMTCYC as it is announced: before the commit cycle starts. -/
def State.announced (s : State) : Option Nat :=
  match s.ring.cmt with
  | some c => if signed 32 (c + 2 ^ 32 - s.rd RNG_CYCNT) > 0 then some c else none
  | none => none

/-- R385, R417: the master sends a frame of type `ty` with payload `b` on port `p`. -/
def State.masterSend (ty fidx : Nat) (b : List Byte) (p : Nat) (s : State) : State :=
  let t := s.txStart p s.quarter
  let c := s.rd RNG_CYCNT
  let v := match s.linkDelay p with
    | some d => tsyncOf (s.now256 + (t - s.quarter) * 64 + d) c
    | none => tsyncSpoil (tsyncOf (s.now256 + (t - s.quarter) * 64) c)
  let d := ringHeader ty fidx c v b.length s.announced ++ b
  let s := if p = 1 ∧ ty = 1 ∧ fidx % 8 = 0 then s.onRing fun r => { r with rttFrom := t / 4 } else s
  (s.stampSend p t d).ringSend p t true d

/-- R382: identical copies on every port in use. -/
def State.masterCopies (ty fidx : Nat) (b : List Byte) (s : State) : State :=
  s.masterPorts.foldl (fun s p => s.masterSend ty fidx b p) s

/-- R394: the payload of a SUPERVISORY frame. -/
def svPayload (dest mtype seq : Nat) (data : List Byte) : List Byte :=
  leBytes 1 dest ++ leBytes 1 mtype ++ leBytes 2 data.length ++ leBytes 2 seq ++ leBytes 2 0 ++ slice data 0 1024
    ++ List.replicate 256 0

/-- R395: the member whose request is sent next: in turn, after the one served last; 0 stands for all members. -/
def State.svNext (s : State) : Option (Nat × SvReq) :=
  let ms := turned256 s.ring.served
  ms.findSome? fun m => match (s.ringMem m).reqs with
    | q :: _ => if q.sends = 0 ∨ q.again then some (m, q) else none
    | [] => none
where
  turned256 (k : Nat) : List Nat := (List.range 256).map fun i => (k + 1 + i) % 256

/-- R395: the SUPERVISORY frame of this cycle: a request, or POLL to a member that shows REPLY. -/
def State.svSend (s : State) : State :=
  match s.svNext with
  | some (m, q) =>
    let s := s.masterCopies 2 0 (svPayload q.dest q.mtype q.seq q.data)
    let q' := { q with sends := q.sends + 1, cyc := s.rd RNG_CYCNT, again := false, since := some (q.since.getD s.clk.elapsed) }
    let s := s.onRing fun r => { r with served := m }
    let first := q.mtype == 2 && leAt q.data 1 1 == 0
    let s := if q.mtype = 2 ∧ leAt q.data 1 1 = 1 ∧ s.ring.stageAt.isNone then s.onRing fun r => { r with stageAt := some s.clk.elapsed } else s
    s.onRingMem m fun x =>
      { x with reqs := (if q.dest = 0xFF then [] else [q']) ++ x.reqs.drop 1
               owedAt := if first && x.owedAt.isNone then some s.clk.elapsed else x.owedAt }
  | none =>
    match s.ring.map.find? fun e => bit (leAt (s.ringMem e.addr).slice 3 1) 7 with
    | some e =>
      let q := s.ring.mseq
      (s.onRing fun r => { r with mseq := (q + 1) % 65536 }).masterCopies 2 0 (svPayload e.addr 0 q [])
    | none => s

/-- R384, R387, R397: the DISCOVER frame when it is due, or the CLOSE frame of a cycle in SPLIT. -/
def State.lastFrame (s : State) : State :=
  if s.ring.discover || s.rd RNG_CYCNT % 64 == 0 then
    (s.onRing fun r => { r with discover := false }).masterCopies 3 0 (List.replicate 324 0)
  else if s.get RNG_ST_STATE = 3 ∧ !s.flag RNG_CFG_TOPO ∧ s.portUp 1 then
    (s.masterSend 4 0 [] 1).onRing fun r => { r with closeSent := true }
  else s

/-- R387: the offset SO at which the master starts to send. -/
def State.sendOffset (s : State) : Nat := s.rd RNG_SOFS + s.rd RNG_CYC - s.profilePeriod

/-- R387: the master sends the frames of this cycle. -/
def State.sendCycle (s : State) : State :=
  let new := s.lastCycle
  let axs := below 256 fun n => s.isRemote n
  let s := axs.foldl (fun s n => (if new then s.advance chainDepth n else s).nextReq n) s
  let k := s.get RNG_CFG_NFR
  let s := (List.range (k + 1)).foldl (fun s f => s.masterCopies 1 (f + 16 * k) (s.sliceArea f new)) s
  let s := s.onRing fun r => { r with sent := List.range (k + 1) }
  s.svSend.lastFrame

/-! ### The master takes returned copies (R383, R387, R389, R390, R393) -/

/-- R389, R390: the inputs `r` (16 bytes) of remote axis `n`. -/
def State.remoteInput (n : Nat) (r : List Byte) (s : State) : State :=
  let w := leAt r 8 2
  let st := w / 8192
  let (q, req) := tabGet (0, 0) s.ring.axReq n
  let acked := decide (req = 1) && w / 256 % 16 == q
  let s := (s.onAxis n fun x => { x with apos := leAtS r 0 8, memState := st }).mark (PRF_AXST_REF n) (bit w 12)
  let own := s.axState n
  if st = 6 ∧ 1 ≤ own ∧ own ≤ 5 then s.fault n 0x0D (w % 256) 0x18
  else if own = 1 ∧ acked ∧ 2 ≤ st ∧ st ≤ 5 then (s.onAxis n fun x => { x with enStep := 7 }).enter n 2
  else if 2 ≤ own ∧ own ≤ 5 ∧ acked ∧ st = 0 then s.toDisabled n 3
  else s

/-- R383, R389: the slice of a member in a returned copy `d`, when it shows SEEN and is the first of its cycle. -/
def State.takeSlice (d : List Byte) (e : MapEntry) (s : State) : State :=
  let b := slice d (24 + e.fofs) (sliceLen e.nsub e.safe)
  if !bit (leAt b 1 1) 7 then s
  else if leAt b 0 1 ≠ e.addr then s.orphanOp 2 0x18 (leAt b 0 1)
  else if (s.ringMem e.addr).seen then s
  else
    let s := s.onRingMem e.addr fun x => { x with slice := b, seen := true }
    let s := if e.safe then s.onRing fun r => { r with sin := tabSet r.sin e.addr (slice b (4 + 36 * e.nsub + 24) 24) } else s
    (List.range e.nsub).foldl (fun s k => match s.memberAxis e.addr k with
      | some n => s.remoteInput n (slice b (4 + 36 * k + 0x14) 16)
      | none => s) s

/-- R28: the slice of member `e` in a frame of another cycle, if the member has filled it, matches no operation outstanding. -/
def State.lateSlice (d : List Byte) (e : MapEntry) (s : State) : State :=
  let b := slice d (24 + e.fofs) 2
  if bit (leAt b 1 1) 7 then s.orphanOp 2 0x18 (leAt b 0 1) else s

/-- R383, R387: a returned cycle frame at port `p` with a correct FCS. -/
def State.cycleReturn (p : Nat) (d : List Byte) (s : State) : State :=
  if frameCycle d ≠ s.rd RNG_CYCNT then
    (s.ring.map.filter fun e => e.frame == frameIdx d).foldl (fun s e => s.lateSlice d e) s
  else
    let f := frameIdx d
    let fromB := sentPort p d == 1
    let s := if fromB ∧ p = 0 then s.onRing fun r => { r with back := f :: r.back } else s
    let s := if f = 0 then s.put RNG_ST_HITS (leAt d 0x14 1) else s
    let s := if f = 0 ∧ fromB then s.wr RNG_RTT (s.clk.elapsed - s.ring.rttFrom) else s
    (s.ring.map.filter fun e => e.frame == f).foldl (fun s e => s.takeSlice d e) s

/-- R384: a CLOSE frame comes back. -/
def State.closeReturn (p : Nat) (d : List Byte) (s : State) : State :=
  if frameCycle d = s.rd RNG_CYCNT ∧ p = 0 ∧ !frameRet d ∧ s.ring.closeSent ∧ !s.ring.closeBack then
    (s.put RNG_ST_CRUN (min 4 (s.get RNG_ST_CRUN + 1))).onRing fun r => { r with closeBack := true }
  else s

/-- R384, R387, R393: the deadline of the cycle, once: members missed, a CLOSE frame and cycle frames that have not returned. -/
def State.judgeCycle (s : State) : State :=
  if s.ring.judged then s
  else
    let s := s.ring.map.foldl (fun s e =>
      if (s.ringMem e.addr).seen then s.put (RNG_MST_MISS e.addr) 0
      else (s.satBump (RNG_MST_MISS e.addr) 1).bump (whole (RNG_MMISS e.addr))) s
    let s := if s.ring.closeSent && !s.ring.closeBack then s.put RNG_ST_CRUN 0 else s
    let missing := s.ring.sent.any fun f => !(s.ring.back.contains f)
    s.onRing fun r => { r with judged := true, broken := r.broken || (s.get RNG_ST_STATE == 2 && missing) }

/-- R383: the changes of ring state at a cycle boundary. -/
def State.ringTurn (s : State) : State :=
  if s.get RNG_ST_STATE = 2 ∧ s.ring.broken then ((s.ringState 3).satBump RNG_ST_BREAKS 1).warn 0x18 RNG_ST_BREAKS
  else if s.get RNG_ST_STATE = 3 ∧ s.get RNG_ST_CRUN = 4 then s.ringState 2
  else s

/-- R118, R399: the blocks of entries whose commits have taken effect go to their members, and IDENT after them. -/
def State.sendDue (s : State) : State :=
  (below 256 fun n => s.isRemote n && (s.axis n).blockDue && s.get (RNG_MST_STATE (s.axMember n)) == 3).foldl (fun s n =>
    ((s.onAxis n fun x => { x with blockDue := false }).sendBlock (s.axMember n) n false).askIdent (s.axMember n)) s

/-- R420: the service frame that permits a member one step: a WRITE of 1 to TIM_CTL over the ring. -/
def permitFrame : List Byte :=
  let b := leBytes 1 1 ++ leBytes 1 3 ++ leBytes 1 4 ++ leBytes 1 0 ++ leBytes 2 0 ++ leBytes 2 12 ++ leBytes 4 TIM_CTL ++ leBytes 2 1
    ++ leBytes 2 0 ++ leBytes 4 1
  b ++ leBytes 4 (crc32c b)

/-- R420: the re-step permits, once their cycle has come. -/
def State.sendPermits (s : State) : State :=
  if s.ring.restep = some (s.rd RNG_CYCNT) then
    (s.ring.map.filter fun e => s.get (RNG_MST_STATE e.addr) == 3).foldl (fun s e => s.svRequest e.addr 4 permitFrame)
      (s.onRing fun r => { r with restep := none })
  else s

/-- R383, R387: a ring boundary at the master. -/
def State.masterBoundary (s : State) : State :=
  let s := s.judgeCycle.ringTurn
  let s := s.onRing fun r =>
    { r with sent := [], back := [], closeSent := false, closeBack := false, judged := false
             mems := r.mems.map fun e => (e.1, { e.2 with seen := false }) }
  s.sendDue.sendPermits

/-- R388: a ring boundary: the number of the cycle, Kennel event 0x52, and what the node does by its role. -/
def State.ringBoundary (s : State) : State :=
  let s := (s.bump (whole RNG_CYCNT)).event 0x52
  let s := s.onRing fun r => { r with tx := [] }
  if s.get RNG_CFG_ROLE = 1 then s.masterBoundary else s.memberBoundary

/-! ### DISCOVER (R397) -/

/-- R397: a member marks itself in a DISCOVER frame. -/
def State.markDiscover (s : State) (d : List Byte) : List Byte :=
  let a := s.get RNG_CFG_ADDR
  let c := leAt d 24 1
  let mapAt := 24 + 4 + a / 8
  let dupAt := mapAt + 32
  let d := if bit (leAt d mapAt 1) (a % 8) then putLe d dupAt 1 (setBit (leAt d dupAt 1) (a % 8) true) else d
  let d := putLe d mapAt 1 (setBit (leAt d mapAt 1) (a % 8) true)
  putLe (putLe d (24 + 68 + c) 1 a) 24 1 (c + 1)

/-- R397 to R399: what a returned DISCOVER shows of member `m`. -/
def State.discovered (d : List Byte) (port m : Nat) (s : State) : State :=
  if !bit (leAt d (28 + m / 8) 1) (m % 8) then s
  else
    let l := (List.range (leAt d 24 1)).map fun i => leAt d (92 + i) 1
    let s := (s.put (RNG_MST_POS m) (l.idxOf m + 1)).put (RNG_MST_PORT m) (if port = 1 then 0 else 1)
    let st := s.get (RNG_MST_STATE m)
    let s := if st = 0 ∨ st = 5 then (s.put (RNG_MST_STATE m) 1).askIdent m else s
    if bit (leAt d (60 + m / 8) 1) (m % 8) then s.quarantine m 4 else s

/-- R397, R398: a DISCOVER frame comes back. -/
def State.discoverReturn (p : Nat) (d : List Byte) (s : State) : State :=
  let s := s.ring.map.foldl (fun s e => s.discovered d (sentPort p d) e.addr) s
  let unk := (below 256 fun a => bit (leAt d (28 + a / 8) 1) (a % 8) && (s.mapEntry a).isNone).length
  s.put RNG_ST_UNK (min 0x3F unk)

/-! ### The commands -/

/-- Does a ring boundary fall now at a node that takes part? -/
def State.atRingBoundary (s : State) : Bool :=
  s.get RNG_CFG_ROLE != 0 && !s.ring.clkLost && (s.get CFG_STATE_STATE == 8 || s.get CFG_STATE_STATE == 9) && s.atBoundary s.ringCycle

/-- RING_CYCLE_BOUNDARY (R388). -/
def execRingCycleBoundary (dt : Nat) (s : State) : Host.Outcome State Fault Refusal :=
  let s := s.elapse dt
  .next (if s.atRingBoundary then s.ringBoundary else s)

/-- RING_CYCLE_SEND (R387): at SO from the start of the cycle. -/
def execRingCycleSend (dt : Nat) (s : State) : Host.Outcome State Fault Refusal :=
  let s := s.elapse dt
  .next (if s.ringOn && s.get RNG_CFG_ROLE == 1 && s.ring.sent == [] && s.atPhase (s.rd RNG_CYC) s.sendOffset then
    s.sendCycle else s)

/-- CYCLE (R389): a cycle frame at port `p` of a member, its FCS correct when `ok`. -/
def execCycle (dt : Nat) (p : Fin 2) (ok : Bool) (d : List (BitVec 8)) (s : State) : Host.Outcome State Fault Refusal :=
  .next ((s.elapse dt).memberFrame p ok d (fun s => s.fillSlice d) (fun s => s.memberApply d))

/-- CYCLE_RETURN (R383): a cycle frame comes back to port `p` of the master. -/
def execCycleReturn (dt : Nat) (p : Fin 2) (ok : Bool) (d : List (BitVec 8)) (s : State) : Host.Outcome State Fault Refusal :=
  let r := (s.elapse dt).masterFrame p ok d
  .next (if r.1 then r.2.cycleReturn p d else r.2)

/-- FRAME_MISSING (R387): the deadline, 1 000 ns before the end of the cycle. -/
def execFrameMissing (dt : Nat) (s : State) : Host.Outcome State Fault Refusal :=
  let s := s.elapse dt
  .next (if s.get RNG_CFG_ROLE == 1 && s.rd RNG_CYC != 0 && decide (s.rd RNG_CYC ≤ s.clk.ns % s.rd RNG_CYC + 1000) then s.judgeCycle else s)

/-- CLOSE (R384): a member passes a CLOSE frame. -/
def execClose (dt : Nat) (p : Fin 2) (ok : Bool) (d : List (BitVec 8)) (s : State) : Host.Outcome State Fault Refusal :=
  .next ((s.elapse dt).memberFrame p ok d (fun _ => d) id)

/-- CLOSE_RETURN (R384). -/
def execCloseReturn (dt : Nat) (p : Fin 2) (ok : Bool) (d : List (BitVec 8)) (s : State) : Host.Outcome State Fault Refusal :=
  let r := (s.elapse dt).masterFrame p ok d
  .next (if r.1 then r.2.closeReturn p d else r.2)

/-- DISCOVER (R397): a member marks itself and passes the frame. -/
def execDiscover (dt : Nat) (p : Fin 2) (ok : Bool) (d : List (BitVec 8)) (s : State) : Host.Outcome State Fault Refusal :=
  .next ((s.elapse dt).memberFrame p ok d (fun s => s.markDiscover d) id)

/-- DISCOVER_RETURN (R397). -/
def execDiscoverReturn (dt : Nat) (p : Fin 2) (ok : Bool) (d : List (BitVec 8)) (s : State) : Host.Outcome State Fault Refusal :=
  let r := (s.elapse dt).masterFrame p ok d
  .next (if r.1 then r.2.discoverReturn p d else r.2)

/-- LOSS_OF_RING (R392). -/
def execLossOfRing (dt : Nat) (s : State) : Host.Outcome State Fault Refusal := .next ((s.elapse dt).ringLoss)

end Sys2Proof.Machine
end

