-- ==== Sys2Proof/Machine/SafetyCore.lean ====
section
/-! DEFINITION. The safety subsystem (R449 to R475): pairs, functions, gate enables, safe outputs, the black channel and the password
requests. Technology 0 is the safety core, 1 the Kerca logic. -/

namespace Sys2Proof.Machine

/-- Change the safety subsystem. -/
def State.sf (f : Saf → Saf) (s : State) : State := s.onSaf f

/-- R453: `n` bytes of the SAFETY payload in force. -/
def State.safU (s : State) (off n : Nat) : Nat := leAt s.saf.payload off n

/-- Is the safety configuration in force, since the end of APPLY? -/
def State.safOn (s : State) : Bool := s.saf.payload != []

def State.pairUse (s : State) (i : Nat) : Nat := s.safU (0x40 + 8 * i) 1
def State.pairDisc (s : State) (i : Nat) : Nat := s.safU (0x42 + 8 * i) 2 * 1000000
def State.fnU (s : State) (f off n : Nat) : Nat := s.safU (0x100 + 32 * f + off) n
def State.fnKind (s : State) (f : Nat) : Nat := s.fnU f 0 1
def State.fnSrc (s : State) (f : Nat) : Nat := s.fnU f 2 2
def State.fnGroups (s : State) (f : Nat) : Nat := s.fnU f 4 1
def State.fnAxes (s : State) (f : Nat) : List Nat := below 32 (bit (s.fnU f 0x0C 4))
def State.fnLim (s : State) (f : Nat) : Nat := s.fnU f 0x10 4
def State.monU (s : State) (a off n : Nat) : Nat := s.safU (0x500 + 48 * a + off) n
def State.connU (s : State) (n off k : Nat) : Nat := s.safU (0xB00 + 16 * n + off) k
def State.connCount (s : State) : Nat := s.safU 0x3C 1

/-! ### Pairs (R456, R457) -/

/-- R457: the state of pair `i` in the view of technology `t`. -/
def State.pairState (s : State) (t i : Nat) : Nat := if t = 0 then s.get (SAF_PAIR_STATE i) else tabGet 0 s.saf.kPair i

/-- Pair `i` enters state `st` in the view of technology `t`. -/
def State.setPair (t i st : Nat) (s : State) : State :=
  if s.pairState t i = st then s
  else
    let s := if t = 0 then s.put (SAF_PAIR_STATE i) st else s.sf fun x => { x with kPair := tabSet x.kPair i st }
    s.sf fun x => { x with pairAt := tabSet x.pairAt (16 * t + i) s.clk.elapsed }

/-- R456: does channel A (`b` false) or B of pair `i` demand in the view of technology `t`? -/
def State.demanding (s : State) (t i : Nat) (b : Bool) : Bool :=
  let w := if t = 0 then s.rd SAF_SINC else s.rd SAF_SINK
  if b then bit w (16 + i) == (s.pairUse i == 2) else !bit w i

/-- R457: the transitions of pair `i` in the view of technology `t`, and since when its channels disagree. -/
def State.pairStep (t i : Nat) (s : State) : State :=
  if s.pairUse i = 0 then s
  else
    let a := s.demanding t i false
    let b := s.demanding t i true
    let k := 16 * t + i
    let since := if a == b then none else match tabGet none s.saf.split k with | some x => some x | none => some s.clk.elapsed
    let s := s.sf fun x => { x with split := tabSet x.split k since }
    match s.pairState t i with
    | 1 => if a || b then s.setPair t i 2 else s
    | 2 => if a || b then s else s.setPair t i 1
    | 3 => if a && b then s.setPair t i 4 else s
    | 4 => if a || b then s else s.setPair t i 5
    | 5 => if a && b then s.setPair t i 4 else s
    | _ => s

/-- R457: has the disagreement of pair `i` lasted `p` per cent of DISC in the view of technology `t`, with no fault latched? -/
def State.splitFor (s : State) (t i p : Nat) : Bool :=
  let st := s.pairState t i
  (st == 2 || st == 4 || st == 5) && (match tabGet none s.saf.split (16 * t + i) with
    | some x => decide (x * 100 + p * s.pairDisc i ≤ s.clk.elapsed * 100)
    | none => false)

/-- R457: the discrepancy fault of pair `i` is latched by both technologies; the core counts it when its own pair enters DISCFLT. -/
def State.latchPair (i : Nat) (s : State) : State :=
  let latch := fun (t : Nat) (s : State) => if s.pairState t i = 0 then s else s.setPair t i 3
  let counts := s.pairState 0 i != 0 && s.pairState 0 i != 3
  latch 1 (latch 0 (if counts then s.satBump (SAF_PAIR_DCNT i) 1 else s))

/-! ### Functions (R461, R462) -/

/-- R450: does technology `t` evaluate function `f`? -/
def State.evaluates (s : State) (t f : Nat) : Bool :=
  let k := s.fnKind f
  k != 0 && (t == 0 || ((k == 1 || k == 2 || k == 3) && decide (s.fnSrc f < 16)))

/-- R461: the state of function `f` in the view of technology `t`. -/
def State.fnState (s : State) (t f : Nat) : Nat := s.get (if t = 0 then SAF_FN_STATE f else SAF_FN_KSTATE f)

/-- R461, R471: does the source of function `f` demand in the view of technology `t`? -/
def State.fnDemands (s : State) (t f : Nat) : Bool :=
  let src := s.fnSrc f
  if src = 0xFFFF then true
  else if bit src 15 then
    let c := bits src 12 7
    !(s.get (SAF_CONN_STATE c) == 2 && bit (ofLe (tabGet [] s.saf.inputs c)) (bits src 6 0))
  else s.pairState t src != 1

/-- R462, R463: the position of axis `a`, as its PSRC1 port last gave it. -/
def State.shaft (s : State) (a : Nat) : Int := (s.prt (s.monU a 0 1)).x

/-- Function `f` enters state `st` in the view of technology `t`; entering STOPPING the core keeps v0 and sends disable requests,
entering ACTIVE it keeps the positions. -/
def State.fnEnter (t f st : Nat) (s : State) : State :=
  if s.fnState t f = st then s
  else
    let s := s.put (if t = 0 then SAF_FN_STATE f else SAF_FN_KSTATE f) st
    let s := s.sf fun x => { x with fnAt := tabSet x.fnAt (32 * t + f) s.clk.elapsed }
    if t = 0 ∧ st = 2 then
      let s := s.put (SAF_FN_TMR f) 0
      let s := (s.fnAxes f).foldl (fun s a =>
        s.sf fun x => { x with v0 := tabSet x.v0 (32 * f + a) (signed 32 (s.rd (SAF_AXV a))).natAbs }) s
      (below 32 fun n => s.isLocal n && s.enabled n && bit (s.fnGroups f) (n / 4)).foldl (fun s n => s.requestDisable n) s
    else if t = 0 ∧ st = 5 then
      (s.fnAxes f).foldl (fun s a => s.sf fun x => { x with base := tabSet x.base (32 * f + a) (s.shaft a) }) s
    else s

/-- R462: function `f` follows its source in the view of technology `t`. -/
def State.fnStep (t f : Nat) (s : State) : State :=
  if !s.evaluates t f then s
  else
    let dem := s.fnDemands t f
    let st := s.fnState t f
    let k := s.fnKind f
    if k ≤ 3 then
      if dem ∧ st = 1 then s.fnEnter t f (if k = 1 then 3 else 2)
      else if dem ∧ st = 4 then s.fnEnter t f 3
      else if !dem ∧ st = 3 then s.fnEnter t f (if s.fnU f 1 1 = 0 then 1 else 4)
      else s
    else if dem ∧ st = 1 then s.fnEnter t f 5
    else if !dem ∧ st = 5 then s.fnEnter t f 1
    else s

/-! ### Gate enables and safe outputs (R464 to R467) -/

/-- R461: does a function hold group `g` in the view of technology `t`? -/
def State.fnHolds (s : State) (t g f : Nat) : Bool :=
  let st := s.fnState t f
  s.evaluates t f && bit (s.fnGroups f) g && (st == 3 || st == 4 || st == 6)

/-- R464: may technology `t` have its line of group `g` high? -/
def State.lineHigh (s : State) (t g : Nat) : Bool :=
  s.safOn && s.flag SAF_ST_ACCEPTED && !s.flag SAF_ST_FAULT && !s.flag (SAF_GRP_RBFLT g)
    && ((List.range 32).all fun f => !s.fnHolds t g f)
    && (t == 1 || (List.range 4).all fun i => !s.flag (SAF_AX_XFLT (4 * g + i)))

/-- R464: the lines of group `g` follow their conditions, and the lands follow the lines. -/
def State.groupLines (g : Nat) (s : State) : State :=
  let a := s.lineHigh 1 g
  let b := s.lineHigh 0 g
  let a0 := s.flag (SAF_GRP_GENAC g)
  let b0 := s.flag (SAF_GRP_GENBC g)
  let s := s.put (SAF_GRP_HOLDFN g) (((List.range 32).find? fun f => s.fnHolds 0 g f || s.fnHolds 1 g f).getD 0x3F)
  if a = a0 ∧ b = b0 then s
  else
    let s := (s.mark (SAF_GRP_GENAC g) a).mark (SAF_GRP_GENBC g) b
    let s :=
      if a0 && b0 then (s.satBump (SAF_GRP_STOCNT g) 1).mark (SAF_GRP_TESTDUE g) false
      else if a && b then s.sf fun x => { x with freeAt := tabSet x.freeAt g s.clk.elapsed }
      else s
    s.gateEnables g a b

/-- R466: is the switch SOP (`som` false) or SOM of output `k` to be on? -/
def State.switchOn (s : State) (k : Nat) (som : Bool) : Bool :=
  let arg := s.safU (0xC1 + 8 * k) 1
  let go := s.safOn && !s.flag SAF_ST_FAULT && !s.flag (SAF_SO_FLT k)
  match s.safU (0xC0 + 8 * k) 1 with
  | 1 =>
    go && (if som then s.flag (SAF_GRP_GENBC (arg / 4)) && !(s.axis arg).braked else s.flag (SAF_GRP_GENAC (arg / 4)))
  | 2 => go && s.fnState (if som then 0 else 1) arg == 1
  | _ => false

/-- R466: the switches of every safe output, and the lands that follow them. -/
def State.showOutputs (s : State) : State :=
  (List.range 8).foldl (fun s k =>
    let p := s.switchOn k false
    let m := s.switchOn k true
    (((s.mark (SAF_SO_SOPC k) p).mark (SAF_SO_SOMC k) m).mark (SAF_SO_SOPR k) p).mark (SAF_SO_SOMR k) m) s

/-- R464, R466: every line and every output follows the conditions. -/
def State.safLines (s : State) : State := ((List.range 8).foldl (fun s g => s.groupLines g) s).showOutputs

/-- R461 to R466: technology `t` evaluates its pairs and functions, and the lines follow. -/
def State.safEval (t : Nat) (s : State) : State :=
  let s := (List.range 16).foldl (fun s i => s.pairStep t i) s
  ((List.range 32).foldl (fun s f => s.fnStep t f) s).safLines

/-- R451: an internal safety fault: the first cause is recorded, every line goes low and every output off. -/
def State.safFault (cause : Nat) (s : State) : State :=
  if s.flag SAF_ST_FAULT then s
  else (((s.mark SAF_ST_FAULT true).put SAF_ST_FCAUSE cause).severe 0x1D cause SAF_ST).safLines

/-! ### The black channel (R468 to R472) -/

/-- R470: connection `n` enters START with a new SEQ of the random-number generator; its inputs read 0 (R471). -/
def State.connStart (n : Nat) (s : State) : State :=
  let s := (s.put (SAF_CONN_STATE n) 1).put (SAF_CSEQ_TXSEQ n) (s.free 65536)
  let s := (s.drew 1).sf fun x => { x with heard := tabSet x.heard n false, inputs := tabDel x.inputs n }
  s.safEval 0

/-- R468: IDENT of connection `n` for a PDU that travels from the master when `down`. -/
def State.connIdent (s : State) (n : Nat) (down : Bool) : Nat := if down then s.connU n 4 4 else s.connU n 4 4 ^^^ 0x80000000

/-- Is the node the ring master? -/
def State.safMaster (s : State) : Bool := s.get RNG_CFG_ROLE == 1

/-- R472: the payload that a 3256 sends. -/
def State.safPayload (s : State) : List Byte :=
  let mask := fun (n : Nat) (p : Nat → Bool) => (List.range n).foldl (fun m i => m + b2n (p i) * 2 ^ i) 0
  leBytes 2 (mask 16 fun i => s.get (SAF_PAIR_STATE i) == 1)
    ++ leBytes 1 (mask 8 fun g => s.flag (SAF_GRP_GENAC g) && s.flag (SAF_GRP_GENBC g)) ++ leBytes 1 0
    ++ leBytes 4 (mask 32 fun f => s.get (SAF_FN_STATE f) == 1 || s.get (SAF_FN_STATE f) == 5)

/-- R468: the container of a PDU. -/
def safPdu (ident seq ctrl : Nat) (payload : List Byte) : List Byte :=
  let b := leBytes 2 seq ++ leBytes 1 ctrl ++ leBytes 1 payload.length ++ slice payload 0 16
  b ++ leBytes 4 (crc32c (leBytes 4 ident ++ b))

/-- R469: a new PDU of connection `n`, once SCYC ring cycles have passed. -/
def State.pduSend (n : Nat) (s : State) : State :=
  let st := s.get (SAF_CONN_STATE n)
  let cyc := s.rd RNG_CYCNT
  let due := match tabFind s.saf.sentCyc n with
    | some c => decide (s.connU n 1 1 ≤ (cyc + 2 ^ 32 - c) % 2 ^ 32)
    | none => true
  if st = 0 ∨ !due then s
  else
    let seq := (s.get (SAF_CSEQ_TXSEQ n) + 1) % 65536
    let s := (s.put (SAF_CSEQ_TXSEQ n) seq).sf fun x => { x with sentCyc := tabSet x.sentCyc n cyc }
    let p := safPdu (s.connIdent n s.safMaster) seq (b2n (st == 1) + 2 * b2n (tabGet false s.saf.heard n)) s.safPayload
    s.onRing fun r => { r with sout := tabSet r.sout (if s.safMaster then s.connU n 0 1 else 0) p }

/-- R470: the container that the ring delivered for connection `n`. -/
def State.pduReceive (n : Nat) (s : State) : State :=
  let p := slice (tabGet [] s.ring.sin (if s.safMaster then s.connU n 0 1 else 0)) 0 24
  let seq := leAt p 0 2
  let sync := bit (leAt p 2 1) 0
  let peer := bit (leAt p 2 1) 1
  let rx := s.get (SAF_CSEQ_RXSEQ n)
  match s.get (SAF_CONN_STATE n) with
  | 1 =>
    if crc32c (leBytes 4 (s.connIdent n !s.safMaster) ++ p.take 20) ≠ leAt p 20 4 then s.satBump (SAF_CONN_CRCERR n) 1
    else
      let s := if sync then (s.put (SAF_CSEQ_RXSEQ n) seq).sf fun x => { x with heard := tabSet x.heard n true } else s
      if peer && tabGet false s.saf.heard n then
        (s.put (SAF_CONN_STATE n) 2).sf fun x => { x with freshAt := tabSet x.freshAt n s.clk.elapsed }
      else s
  | 2 =>
    let d := (seq + 65536 - rx) % 65536
    if crc32c (leBytes 4 (s.connIdent n !s.safMaster) ++ p.take 20) ≠ leAt p 20 4 then s.satBump (SAF_CONN_CRCERR n) 1
    else if d = 0 then s
    else if d ≤ 64 ∧ !sync ∧ peer ∧ leAt p 3 1 = s.connU n 8 1 then
      let s := (s.put (SAF_CSEQ_RXSEQ n) seq).sf fun x =>
        { x with freshAt := tabSet x.freshAt n s.clk.elapsed, inputs := tabSet x.inputs n (slice p 4 (leAt p 3 1)) }
      s.safEval 0
    else (s.satBump (SAF_CONN_STALE n) 1).connStart n
  | _ => s

/-- R471: no fresh PDU of connection `n` has come for WD ms. -/
def State.connWatchdog (n : Nat) (s : State) : State :=
  if s.get (SAF_CONN_STATE n) = 2 ∧ tabGet 0 s.saf.freshAt n + s.connU n 2 2 * 1000000 ≤ s.clk.elapsed then
    (s.satBump (SAF_CONN_RESTARTS n) 1).connStart n
  else s

/-! ### The end of APPLY (R79, R453, R455, R462) -/

/-- R79: ACCEPTED compares the SCRC in force with the one stored. -/
def State.showAccepted (s : State) : State :=
  let a := match s.saf.stored with | some (c, _, _) => c | none => 0
  (s.wr SAF_ACRC a).mark SAF_ST_ACCEPTED (match s.saf.stored with | some (c, _, _) => s.safOn && c == s.rd SAF_SCRC | none => false)

/-- R474: the change log as its registers show it. -/
def State.showLog (s : State) : State :=
  let n := s.saf.log.length
  (((s.put SAF_LOG_USED n).mark SAF_LOG_FULL (n == 4096)).mark SAF_ST_LOGFULL (n == 4096)).wr SAF_LSEQ (leAt (s.saf.log.headD []) 0 4)

/-- R463: the axes that some function monitors. -/
def State.monitored (s : State) : List Nat :=
  below 32 fun a => (List.range 32).any fun f => 3 ≤ s.fnKind f && bit (s.fnU f 0x0C 4) a

/-- R455: the Feedback section of the PSRC2 port of axis `a`. -/
def State.psrc2 (s : State) (a : Nat) : List Byte :=
  leBytes 1 (s.monU a 1 1) ++ leBytes 2 (s.monU a 2 2) ++ leBytes 1 0 ++ slice s.saf.payload (0x500 + 48 * a + 16) 28 ++ List.replicate 96 0

/-- R462: function `f` at the end of APPLY in the view of technology `t`; an SS1 without manual reset whose source demands starts in
SAFE (log 46). -/
def State.fnBegin (t f : Nat) (s : State) : State :=
  let k := s.fnKind f
  if !s.evaluates t f then s
  else if k ≤ 3 ∧ s.fnU f 1 1 = 1 then s.fnEnter t f 4
  else if k ≤ 3 ∧ s.fnDemands t f then s.fnEnter t f 3
  else s.fnEnter t f 1

/-- R79, R453, R455, R462: the SAFETY payload `p` is in force from the end of APPLY on. R451: `selfOk` when the self-test at start passed,
`mramOk` when the safety MRAM was read without error; which cause is found first, and what a failed read shows, the spec does not say
(log 113). -/
def State.safBegin (p : List Byte) (selfOk mramOk : Bool) (s : State) : State :=
  let now := s.clk.elapsed
  let s := s.sf fun x => { x with payload := p, hbCore := now, hbKerca := now, measAt := now }
  let s := ((s.wr SAF_SCRC (leAt p 4 4)).showAccepted).showLog
  let s := (List.range 32).foldl (fun s f => s.put (SAF_FN_KIND f) (s.fnKind f)) s
  let s := s.sf fun x => { x with
    ports := (below 32 fun a => s.monU a 1 1 != 0xFF && s.monitored.contains a).foldl (fun t a => tabSet t (s.monU a 1 1) (s.psrc2 a)) []
    cap := s.monitored.map fun a => (a, (s.shaft a, (s.prt (s.monU a 1 1)).x))
    place := s.monitored.map fun a => (a, s.shaft a) }
  let s := (List.range 16).foldl (fun s i => if s.pairUse i = 0 then s else ((s.setPair 0 i 1).setPair 1 i 1)) s
  let s := [0, 1].foldl (fun s t => (List.range 16).foldl (fun s i => State.pairStep t i s) s) s
  let s := (below 64 fun n => n < s.connCount).foldl (fun s n => s.connStart n) s
  let s := [0, 1].foldl (fun s t => (List.range 32).foldl (fun s f => State.fnBegin t f s) s) s
  let s := if s.flag SAF_ST_ACCEPTED then s else s.warn 0x1D SAF_ST_ACCEPTED
  let s := if selfOk then s else s.safFault 6
  let s := if crc32c (slice p 0x40 0x4C0) ≠ leAt p 0x38 4 then s.safFault 1 else s
  let s := if mramOk then s else s.safFault 7
  (s.safEval 0).safEval 1

/-! ### Measurements (R462, R463) -/

/-- R463: the cross-check of axis `a` at the positions that its sources now give. -/
def State.crossCheck (a : Nat) (s : State) : State :=
  let p2 := s.monU a 1 1
  if p2 = 0xFF ∨ s.flag (SAF_AX_XFLT a) then s
  else
    let (c1, c2) := tabGet (0, 0) s.saf.cap a
    let d := ((s.shaft a - c1) - ((s.prt p2).x - c2) * 65536 / max 1 (s.monU a 4 4 : Int)).natAbs
    let s := s.put (SAF_AX_DIFF a) (min d (2 ^ 31 - 1))
    if s.monU a 8 4 < d ∨ s.flag (FBK_PST_FAULT (s.monU a 0 1)) ∨ s.flag (FBK_PST_FAULT p2) then
      (s.mark (SAF_AX_XFLT a) true).severe 0x1D 0 (SAF_AX a)
    else s

/-- R462: is the condition of SLS, SOS or SDI function `f` violated at the last measurement? -/
def State.violated (s : State) (f : Nat) : Bool :=
  (s.fnAxes f).any fun a =>
    let x := tabGet 0 s.saf.place a
    let b := tabGet x s.saf.base (32 * f + a)
    match s.fnKind f with
    | 4 => decide (s.fnLim f < (signed 32 (s.rd (SAF_AXV a))).natAbs)
    | 5 => decide (s.fnLim f < (x - b).natAbs)
    | 6 => decide ((s.fnLim f : Int) < (if s.fnU f 5 1 = 0 then b - x else x - b))
    | _ => false

/-- R462: the envelope of SS1-r function `f`, or its standstill, at this measurement. -/
def State.rampOver (s : State) (f : Nat) : Bool :=
  let v := fun a : Nat => (signed 32 (s.rd (SAF_AXV a))).natAbs
  let t := s.clk.elapsed - tabGet 0 s.saf.fnAt f
  let late := t - s.fnU f 8 2 * 1000000
  ((s.fnAxes f).all fun a => decide (v a ≤ s.monU a 0x0C 4))
    || (s.fnAxes f).any fun a => decide ((tabGet 0 s.saf.v0 (32 * f + a) + s.fnU f 0x14 4) * 1000000 < v a * 1000000 + s.fnLim f * late)

/-- R463: the speed and the cross-check of monitored axis `a` at this measurement. -/
def State.measureAxis (a : Nat) (s : State) : State :=
  let x := s.shaft a
  let s := s.putS (whole (SAF_AXV a)) (satSigned 32 (x - tabGet x s.saf.place a))
  (s.sf fun q => { q with place := tabSet q.place a x }).crossCheck a

/-- R462, SDI: the furthest position that axis `a` has reached in the direction that function `f` allows. -/
def State.sdiFurthest (f a : Nat) (s : State) : State :=
  let p := tabGet 0 s.saf.place a
  let b := tabGet p s.saf.base (32 * f + a)
  let v := if s.fnU f 5 1 = 0 then max b p else min b p
  s.sf fun x => { x with base := tabSet x.base (32 * f + a) v }

/-- R462: what a measurement means for function `f`. -/
def State.measureFn (f : Nat) (s : State) : State :=
  let st := s.get (SAF_FN_STATE f)
  let k := s.fnKind f
  let s := if k = 6 ∧ st = 5 then (s.fnAxes f).foldl (fun s a => s.sdiFurthest f a) s else s
  if st = 2 then
    let s := s.put (SAF_FN_TMR f) (min 0xFFFF ((s.clk.elapsed - tabGet 0 s.saf.fnAt f) / 1000000))
    if k = 3 ∧ s.rampOver f then s.fnEnter 0 f 3 else s
  else if st = 5 ∧ s.violated f then s.fnEnter 0 f 6
  else s

/-- R463: what the safety core does every 1 ms: speeds, cross-checks, and the functions that depend on them. -/
def State.safMeasure (s : State) : State :=
  let s := s.monitored.foldl (fun s a => s.measureAxis a) s
  let s := s.sf fun x => { x with measAt := s.clk.elapsed }
  let s := (List.range 32).foldl (fun s f => s.measureFn f) s
  s.safLines.safEval 0

/-- R462: T1 of function `f` has elapsed by the timer of technology `t`, accurate within 1 %. -/
def State.t1Elapsed (t f : Nat) (s : State) : State :=
  if s.evaluates t f ∧ s.fnState t f = 2 ∧ tabGet 0 s.saf.fnAt (32 * t + f) + s.fnU f 6 2 * 990000 ≤ s.clk.elapsed then
    (s.fnEnter t f 3).safLines
  else s

/-! ### Reset (R458 to R460) -/

/-- R458: does a technology accept a press of `n` ns by its own timer, which may read up to 1 % long or short? -/
def State.pressTimed (s : State) (n : Nat) : Bool :=
  let m := n * (9900 + s.free 201)
  decide (500000000000 ≤ m) && decide (m ≤ 30000000000000)

/-- R460: an accepted reset in the view of technology `t`, of a press that began at `began`; true when it found something. -/
def State.resetView (t began : Nat) (s : State) : Bool × State :=
  let pairs := below 16 fun i => s.pairState t i == 5 && decide (tabGet 0 s.saf.pairAt (16 * t + i) < began)
  let fns := below 32 fun f =>
    s.evaluates t f && (s.fnState t f == 4 || s.fnState t f == 6) && decide (tabGet 0 s.saf.fnAt (32 * t + f) < began)
  let go := fns.filter fun f => s.fnState t f == 4 || !s.violated f
  let s := pairs.foldl (fun s i => s.setPair t i 1) s
  (!(pairs.isEmpty && fns.isEmpty), go.foldl (fun s f => s.fnEnter t f 1) s)

/-- R459, R460: SRST_IN is released; the release edges of the two technologies lie `skew` ns apart. -/
def State.resetRelease (skew : Nat) (s : State) : State :=
  match s.saf.press with
  | none => s
  | some b =>
    let n := s.clk.elapsed - b
    let s := s.sf fun x => { x with press := none }
    if !s.safOn then s
    else if s.flag SAF_RST_STUCK then s.mark SAF_RST_STUCK false
    else
      let c := s.pressTimed n
      let s := s.drew 1
      let k := s.pressTimed n
      let s := s.drew 1
      if c && k then
        if 20000000 < skew then s
        else
          let r0 := (s.satBump SAF_RST_ACC 1).resetView 0 b
          let r1 := r0.2.resetView 1 b
          let s := if r0.1 || r1.1 then r1.2 else r1.2.satBump SAF_RST_IGN 1
          (s.safEval 0).safEval 1
      else if c || k then s.satBump SAF_RST_DIS 1
      else s

/-! ### Mutual supervision (R451) and read-back (R451, R465, R467) -/

/-- R451: do the two technologies disagree on a pair or on a function that both evaluate? A function that is STOPPING in one of the views
agrees with any state: its timers and SS1-r part the views for long (log 46). -/
def State.disagree (s : State) : Bool :=
  ((List.range 16).any fun i => s.pairState 0 i != s.pairState 1 i)
    || (List.range 32).any fun f =>
      s.evaluates 1 f && s.fnState 0 f != s.fnState 1 f && s.fnState 0 f != 2 && s.fnState 1 f != 2

/-- R451, R457: the exchange of every 1 ms: discrepancies that must have been latched, and the comparison of the views. -/
def State.crossExchange (s : State) : State :=
  let l := below 16 fun i => s.splitFor 0 i 102 || s.splitFor 1 i 102
  let s := l.foldl (fun s i => s.latchPair i) s
  let s := (s.safEval 0).safEval 1
  let since := if s.disagree then some (s.saf.apart.getD s.clk.elapsed) else none
  let s := s.sf fun x => { x with apart := since }
  match since with
  | some t => if t + 10000000 < s.clk.elapsed then s.safFault 4 else s
  | none => s

/-- R451: the heartbeat slot: what came of the core's heartbeat and of the Kerca logic's answer. -/
def State.heartbeat (core kerca : Bool) (s : State) : State :=
  let now := s.clk.elapsed
  let s := s.sf fun x => { x with hbCore := if core then now else x.hbCore, hbKerca := if kerca then now else x.hbKerca }
  if s.saf.hbCore + 500000 ≤ now then s.safFault 2
  else if s.saf.hbKerca + 500000 ≤ now then s.safFault 3
  else s

/-- R451, R465: the land of GENA (`b` false) or GENB of group `g` has read `high` for 1 ms against its command. -/
def State.landReadback (g : Nat) (b high : Bool) (s : State) : State :=
  let cmd := s.flag (if b then SAF_GRP_GENBC g else SAF_GRP_GENAC g)
  if cmd = high then s
  else
    let s := s.mark (if b then SAF_GRP_GENBR g else SAF_GRP_GENAR g) high
    if high then s.safFault 5 else (s.mark (SAF_GRP_RBFLT g) true).safLines

/-- R467: the switch SOP (`som` false) or SOM of output `k`, tested off or commanded off, whose land reads on for 1 ms. -/
def State.darkTest (k : Nat) (som stays : Bool) (s : State) : State :=
  let on := s.switchOn k som
  let tested := s.safU (0xC2 + 8 * k) 1 == 1
  if s.safU (0xC0 + 8 * k) 1 = 0 ∨ !stays ∨ s.flag (SAF_SO_FLT k) ∨ (on ∧ !tested) then s
  else
    let code := if !on && !som then 2 else 1
    let s := (((s.mark (SAF_SO_FLT k) true).put (SAF_SO_FCODE k) code).severe 0x1D code (SAF_SO k)).showOutputs
    s.mark (if som then SAF_SO_SOMR k else SAF_SO_SOPR k) true

/-! ### Password requests (R473, R474) -/

/-- R474: an entry joins the change log. -/
def State.logEntry (kind old new ip arg : Nat) (s : State) : State :=
  let b := leBytes 4 s.saf.nextSeq ++ leBytes 6 s.clk.sec ++ leBytes 4 s.clk.ns ++ leBytes 1 kind ++ leBytes 1 (s.get TIM_ST_STEPS)
    ++ leBytes 4 old ++ leBytes 4 new ++ leBytes 4 ip ++ leBytes 4 arg
  (s.sf fun x => { x with log := x.log ++ [b], nextSeq := x.nextSeq + 1 }).showLog

/-- R473: the SALT and PWHASH that count: those stored, or those of the record in force. -/
def State.secret (s : State) : List Byte × List Byte :=
  match s.saf.stored with
  | some (_, a, b) => (a, b)
  | none => (slice s.saf.payload 8 16, slice s.saf.payload 24 32)

/-- R481, R74, R81: may the address `ip` write? WRHOST is at 0x10 of what MRAM holds; 0.0.0.0 is empty. In NO_IMAGE with no list,
everyone may; a list held with four empty entries lets nobody write (DEDUCED, log 86). -/
def State.writer (s : State) (ip : Nat) : Bool :=
  match s.boot.net with
  | none => s.get CFG_STATE_STATE == 0xE
  | some l => ip != 0 && (List.range 4).any fun i => ofBe (slice l (0x10 + 4 * i) 4) == ip

/-- R473: a request with the password `pw`; `go` is what it does when the password is right, with its result. R451: a request that
would write the safety MRAM meets a write error when `mramOk` is false: nothing is stored, and the result that it gives is free (log
113). -/
def State.safRequest (pw : List Byte) (mramOk : Bool) (go : State → Nat × State) (s : State) : Nat × State :=
  if s.flag SAF_ST_PWLOCK then (0x9, s)
  else if sha256 (s.secret.1 ++ pw) ≠ s.secret.2 then
    let s := s.bump SAF_PW_FAIL
    (0x8, if s.get SAF_PW_FAIL % 5 = 0 then (s.mark SAF_ST_PWLOCK true).sf fun x => { x with lockAt := some s.clk.elapsed } else s)
  else
    let r := go (s.put SAF_PW_FAIL 0)
    if r.1 = 0x1 ∧ !mramOk then (s.free 256, ((s.put SAF_PW_FAIL 0).safFault 7).drew 1) else r

/-- R473: ACCEPT with the expected SCRC. -/
def State.accept (scrc ip : Nat) (s : State) : Nat × State :=
  if s.saf.log.length = 4096 then (0xB, s.mark SAF_ST_LOGFULL true)
  else if scrc ≠ s.rd SAF_SCRC then (0xA, s)
  else
    let old := s.rd SAF_ACRC
    let p := s.saf.payload
    let s := s.sf fun x => { x with stored := some (s.rd SAF_SCRC, slice p 8 16, slice p 24 32) }
    let s := (s.showAccepted).logEntry 1 old (s.rd SAF_SCRC) ip 0
    (0x1, s.safLines)

/-- R473: WITHDRAW. -/
def State.withdraw (ip : Nat) (s : State) : Nat × State :=
  if s.saf.log.length = 4096 then (0xB, s.mark SAF_ST_LOGFULL true)
  else
    let old := s.rd SAF_ACRC
    let s := (s.sf fun x => { x with stored := none }).showAccepted
    (0x1, (s.logEntry 2 old 0 ip 0).safLines)

/-- R474: CLEARLOG with the SEQ of the newest entry. -/
def State.clearLog (seq ip : Nat) (s : State) : Nat × State :=
  match s.saf.log.getLast? with
  | none => (0xC, s)
  | some e =>
    if leAt e 0 4 ≠ seq then (0xC, s)
    else
      let oldest := leAt (s.saf.log.headD []) 0 4
      let a := s.rd SAF_ACRC
      (0x1, (s.sf fun x => { x with log := [] }).logEntry 3 a a ip oldest)

/-- R473: the lock-out of 60 s ends. -/
def State.lockEnd (s : State) : State :=
  match s.saf.lockAt with
  | some t =>
    if t + 60000000000 ≤ s.clk.elapsed then (s.mark SAF_ST_PWLOCK false).sf fun x => { x with lockAt := none } else s
  | none => s

/-! ### The commands -/

/-- SAFE_INPUT_CHANGE (R456): channel A or B (`b`) of pair `i` has the filtered level `level` in the Kerca logic or in the core. -/
def execSafeInputChange (dt : Nat) (kerca b : Bool) (i : Fin 16) (level : Bool) (s : State) : Host.Outcome State Fault Refusal :=
  let s := s.elapse dt
  let s := s.mark ⟨if kerca then SAF_SINK else SAF_SINC, i + (if b then 16 else 0), 1⟩ level
  .next (if s.safOn then s.safEval (b2n kerca) else s)

/-- DISCREPANCY_FAULT (R457): not before 0.98 × DISC. -/
def execDiscrepancyFault (dt : Nat) (i : Fin 16) (s : State) : Host.Outcome State Fault Refusal :=
  let s := s.elapse dt
  .next (if s.splitFor 0 i 98 || s.splitFor 1 i 98 then ((s.latchPair i).safEval 0).safEval 1 else s)

/-- SRST_PRESS (R458). -/
def execSrstPress (dt : Nat) (s : State) : Host.Outcome State Fault Refusal :=
  let s := s.elapse dt
  .next (s.sf fun x => { x with press := some (x.press.getD s.clk.elapsed) })

/-- SRST_RELEASE (R459). -/
def execSrstRelease (dt skew : Nat) (s : State) : Host.Outcome State Fault Refusal := .next ((s.elapse dt).resetRelease skew)

/-- RESET_STUCK (R460): SRST_IN has been pressed for 3 s. -/
def execResetStuck (dt : Nat) (s : State) : Host.Outcome State Fault Refusal :=
  let s := s.elapse dt
  .next (match s.saf.press with
    | some b => if s.safOn && decide (b + 3000000000 ≤ s.clk.elapsed) then s.raise 0x1D SAF_RST_STUCK else s
    | none => s)

/-- SS1_T1_ELAPSED (R462). -/
def execSs1T1Elapsed (dt : Nat) (kerca : Bool) (f : Fin 32) (s : State) : Host.Outcome State Fault Refusal :=
  .next ((s.elapse dt).t1Elapsed (b2n kerca) f)

/-- SAFETY_MEASUREMENT (R463): every 1 ms by the core's oscillator. -/
def execSafetyMeasurement (dt : Nat) (s : State) : Host.Outcome State Fault Refusal :=
  let s := s.elapse dt
  .next (if s.safOn && decide (s.saf.measAt + 990000 ≤ s.clk.elapsed) then s.safMeasure else s)

/-- SAFETY_ENCODER_READ (R455): a reading of PSRC2 port `p`. -/
def execSafetyEncoderRead (dt : Nat) (p : Fin 34) (f : Frame) (s : State) : Host.Outcome State Fault Refusal :=
  let s := s.elapse dt
  .next (if (tabFind s.saf.ports p).isSome then s.readPort p f (bit (s.portU p 0x084 1) 0 && s.fbMode p == 2) true else s)

/-- READBACK_FAULT (R451, R465): for 1 ms the land of GENA or GENB (`b`) of group `g` has read `high`. -/
def execReadbackFault (dt : Nat) (g : Fin 8) (b high : Bool) (s : State) : Host.Outcome State Fault Refusal :=
  let s := s.elapse dt
  .next (if s.safOn then s.landReadback g b high else s)

/-- TESTDUE (R465): 168 h without STO. -/
def execTestdue (dt : Nat) (g : Fin 8) (s : State) : Host.Outcome State Fault Refusal :=
  let s := s.elapse dt
  .next (match tabFind s.saf.freeAt g with
    | some t =>
      if s.flag (SAF_GRP_GENAC g) && s.flag (SAF_GRP_GENBC g) && decide (t + 604800000000000 ≤ s.clk.elapsed) then s.raise 0x1D (SAF_GRP_TESTDUE g) else s
    | none => s)

/-- DARK_TEST (R467): the switch SOP or SOM (`som`) of output `k` is tested, or commanded, off; its land stays on for 1 ms if `stays`. -/
def execDarkTest (dt : Nat) (k : Fin 8) (som stays : Bool) (s : State) : Host.Outcome State Fault Refusal :=
  .next ((s.elapse dt).darkTest k som stays)

/-- SAFETY_PDU_SEND (R469). -/
def execSafetyPduSend (dt : Nat) (n : Fin 64) (s : State) : Host.Outcome State Fault Refusal := .next ((s.elapse dt).pduSend n)

/-- SAFETY_PDU_RECEIVE (R470): the container that the ring delivered last. -/
def execSafetyPduReceive (dt : Nat) (n : Fin 64) (s : State) : Host.Outcome State Fault Refusal := .next ((s.elapse dt).pduReceive n)

/-- CONNECTION_WATCHDOG (R471). -/
def execConnectionWatchdog (dt : Nat) (n : Fin 64) (s : State) : Host.Outcome State Fault Refusal := .next ((s.elapse dt).connWatchdog n)

/-- SAFETY_HEARTBEAT (R451): the slot of every 100 µs, with what came of the core's heartbeat and of the Kerca logic. -/
def execSafetyHeartbeat (dt : Nat) (core kerca : Bool) (s : State) : Host.Outcome State Fault Refusal :=
  let s := s.elapse dt
  .next (if s.safOn then s.heartbeat core kerca else s)

/-- CROSS_EXCHANGE (R451). -/
def execCrossExchange (dt : Nat) (s : State) : Host.Outcome State Fault Refusal :=
  let s := s.elapse dt
  .next (if s.safOn then s.crossExchange else s)

/-- PASSWORD_LOCKOUT_END (R473). -/
def execPasswordLockoutEnd (dt : Nat) (s : State) : Host.Outcome State Fault Refusal := .next ((s.elapse dt).lockEnd)

end Sys2Proof.Machine
end

