-- ==== Sys2Proof/Machine/Loader.lean ====
section
/-! DEFINITION. Reset, the start sequence and the loading of a configuration (R44 to R92). -/

namespace Sys2Proof.Machine

/-! ### Reset (R44 to R51, R76) -/

/-- R51: the field side of a DIO channel, which a reset of the logic side leaves alone. -/
def DioChan.field (d : DioChan) : DioChan :=
  { prog := d.prog, mode := d.mode, safeVal := d.safeVal, hold := d.hold, cmd := d.cmd, frameAt := d.frameAt, hbt := d.hbt,
    timeout := d.timeout, held := d.held, therm := d.therm, thermAt := d.thermAt, on := d.on }

/-- What the loader keeps over a reset: the supplies, the straps, VQSPI, the flash and what MRAM holds. -/
def Boot.kept (b : Boot) : Boot :=
  { held := b.held, resetLow := b.resetLow, vin := b.vin, vio := b.vio, regs := b.regs, supplyAt := b.supplyAt, vqspi := b.vqspi, qvsel := b.qvsel, clksel := b.clksel, testMode := b.testMode, flash := b.flash,
    minSec := b.minSec, lastRecipe := b.lastRecipe, net := b.net }

/-- R492: the severe records that still wait when the part goes into reset: those logged at least 100 µs before are in MRAM; how many of
the later ones are is free (log 114). -/
def State.lastPersist (s : State) : State :=
  let l := s.log.toPersist
  if l = [] then s
  else
    let must := (l.filter fun r => decide (r.logged + 100000 ≤ s.clk.elapsed)).length
    (List.range (must + s.free (l.length + 1 - must))).foldl (fun s _ => s.persistOne) (s.drew 1)

/-- R44, R76, R92: reset. Every register and every list is as after reset, but for what MRAM, the flash, the field side of the DIO
and the start count hold; the waiting commands and the model's own counters stay. A land that others drive keeps its level: no rule
says that a reset changes TRIP_N (log 71). -/
def State.enterReset (s : State) : State :=
  let s := s.lastPersist
  let r : State :=
    { State.reset with
      pending := s.pending, fresh := s.fresh, jtag := s.jtag, clk := { elapsed := s.clk.elapsed }, boot := s.boot.kept
      log := { slots := s.log.slots, nextSlot := s.log.nextSlot }
      pwm := { axis := (s.pwm.axis.filter fun e => !e.2.tripLow).map fun e => (e.1, { tripLow := false }) }
      saf := { stored := s.saf.stored, log := s.saf.log, nextSeq := s.saf.nextSeq }
      dio := { chan := s.dio.chan.map fun e => (e.1, e.2.field), govlAt := s.dio.govlAt, sup := s.dio.sup, shut := s.dio.shut } }
  (r.wr ERR_BOOT (s.rd ERR_BOOT)).showSlots

/-- R76: the start sequence begins in RESET, once neither the supervisor nor RESET_N holds the part; TEST_MODE high leads to TEST
(R56). -/
def State.startSequence (s : State) : State :=
  if s.boot.held || s.boot.resetLow then s
  else
    let s := (s.bump (whole ERR_BOOT)).onBoot fun b => { b with started := true, startAt := s.clk.elapsed }
    s.put CFG_STATE_STATE (if s.boot.testMode then 0xF else 0)

/-- R48: is no condition of the supervisor true? PWR_GOOD is high then. -/
def Boot.powerGood (b : Boot) : Bool := b.vin == .ok && b.vio && b.regs

/-- R48, R50: the supplies as the supervisor sees them now; VQSPI is off without VIN and starts at 1.8 V when VIN returns. -/
def Boot.supplies (b : Boot) (vin : VinLevel) (vio regs : Bool) (now : Nat) : Boot :=
  { b with
    vin := vin, vio := vio, regs := regs
    supplyAt := if b.powerGood then b.supplyAt else now
    vqspi := if vin != .ok then .off else if b.vqspi == .off then .initial else b.vqspi }

/-- R48, R49: the supplies, hysteresis included, are now `vin`, `vio` and `regs`. With a condition true, PWR_GOOD is low: during operation
the supply is outside its range (R31), and the part enters reset. Whether its severe record is logged before that is free (log 2). -/
def State.supplyFault (vin : VinLevel) (vio regs : Bool) (s : State) : State :=
  let s := s.onBoot fun b => b.supplies vin vio regs s.clk.elapsed
  if s.boot.powerGood then s
  else
    let s := if s.boot.started then
        let s := s.guardEnd 0x3 0x19
        let r := s.free 2 == 1
        let s := s.drew 1
        if r then (List.range 4).foldl (fun s _ => s.takeFrom 0x19) s else s
      else s
    (s.onBoot fun b => { b with held := true }).enterReset

/-- R55: the straps are sampled. -/
def State.straps (qvsel clksel test : Bool) (s : State) : State :=
  s.onBoot fun b => { b with qvsel := qvsel, clksel := clksel, testMode := test }

/-- R48, R50: the supervisor releases its reset, at least 10 ms after its last condition ended; at the first release VQSPI takes the
voltage that QVSEL selects. -/
def State.release (qvsel clksel test : Bool) (s : State) : State :=
  if s.boot.held && s.boot.powerGood && decide (s.boot.supplyAt + 10000000 ≤ s.clk.elapsed) then
    let s := (s.straps qvsel clksel test).onBoot fun b =>
      { b with held := false, vqspi := if b.vqspi = .initial then .chosen qvsel else b.vqspi }
    s.startSequence
  else s

/-- R76: RESET_N goes low, and high again. -/
def State.resetLow (s : State) : State := (s.onBoot fun b => { b with resetLow := true }).enterReset
def State.resetHigh (qvsel clksel test : Bool) (s : State) : State :=
  if !s.boot.resetLow then s
  else ((s.straps qvsel clksel test).onBoot fun b => { b with resetLow := false }).startSequence

/-- R76: is the start sequence in state `st`? -/
def State.starting (s : State) (st : Nat) : Bool := s.boot.started && s.get CFG_STATE_STATE == st

/-- R76, R404, R12: the PLLs lock, bulk memory is initialised, and the local clock starts at 0. -/
def State.clocks (s : State) : State :=
  if s.starting 0 then
    ((s.onClk fun c => { c with running := true, sec := 0, ns := 0, frac := 0 }).onBulk fun _ => []).put CFG_STATE_STATE 1
  else s

/-- R61, R62, R64: the loader sends the command `c` to the flash at `khz` kHz. -/
def State.flashCmd (c khz : Nat) (s : State) : State := s.onBoot fun b => { b with qspi := b.qspi ++ [(c, khz)] }

/-- R61, R76: the loader resets the flash: reset enable and reset in single-line mode at 12.5 MHz. -/
def State.flashReset (s : State) : State :=
  (((s.flashCmd 0x66 12500).flashCmd 0x99 12500).onBoot fun b => { b with resetAt := s.clk.elapsed }).put CFG_STATE_STATE 2

/-- R61 to R64: 1 ms later the SFDP table is read with 0x5A at 25 MHz: whether its SFDP table is valid, log₂ of its size, whether the table declares 0xEC, its highest
fast-read frequency in MHz, whether 0x13 is answered when there is no table, and whether suspend is declared. The spec gives no read
clock for 0xB7 and 0x03: a free value (log 75). -/
def State.flashFound (sfdp : Bool) (density : Nat) (quad : Bool) (mhz : Nat) (cmd13 susp : Bool) (s : State) : State :=
  if s.starting 2 && decide (s.boot.resetAt + 1000000 ≤ s.clk.elapsed) then
    let clk := s.free 256
    let s := (s.drew 1).flashCmd 0x5A 25000
    let s := if sfdp then s else s.flashCmd 0x13 25000
    let s := if sfdp || cmd13 then s else (s.flashCmd 0xB7 (1000 * clk)).flashCmd 0x03 (1000 * clk)
    let s := s.puts [(CFG_FLASH_DENSITY, density), (CFG_FLASH_SFDP, b2n sfdp),
      (CFG_FLASH_MODE, if sfdp then (if quad then 5 else 4) else if cmd13 then 1 else 2),
      (CFG_FLASH_CLK, if sfdp then min 100 mhz else if cmd13 then 25 else clk)]
    (s.onBoot fun b => { b with suspend := sfdp && susp }).put CFG_STATE_STATE 3
  else s

/-! ### Choosing and checking a bank (R75, R77) -/

/-- R75 check 1: the cause that the header of bank `b` is rejected with. -/
def State.bankCause (s : State) (b : Nat) : Nat :=
  match s.present b with
  | none => 0xC
  | some (a, _) => headerCause (s.flashBytes a 0x40) 1 0xFF

/-- R77, R81: the next bank to try; the cause of each one whose header has failed is recorded. NO_IMAGE when none is left. -/
def State.tryBanks : List (Nat × Nat) → State → State
  | [], s => (s.onBoot fun b => { b with banks := [], cand := none }).put CFG_STATE_STATE 0xE
  | (b, 0) :: rest, s => (s.onBoot fun x => { x with banks := (b, 0) :: rest, cand := none }).put CFG_STATE_STATE 4
  | (b, c) :: rest, s => State.tryBanks rest (s.put (if b = 0 then CFG_BOOT_CAUSE0 else CFG_BOOT_CAUSE1) c)

/-- R77: the bank being tried is rejected with cause `c`. -/
def State.rejectBank (c : Nat) (s : State) : State :=
  match s.boot.banks with
  | [] => s
  | (b, _) :: rest => State.tryBanks rest (s.put (if b = 0 then CFG_BOOT_CAUSE0 else CFG_BOOT_CAUSE1) c)

/-- R77, R75: both bank headers are read; `to0` and `to1` when the flash does not answer in time (cause 0xC). A header that fails check 1
is a failure of its bank, recorded at once, whether that bank is tried later or not (log 76). -/
def State.selectBank (to0 to1 : Bool) (s : State) : State :=
  if s.starting 3 then
    let c0 := if to0 then 0xC else s.bankCause 0
    let c1 := if to1 then 0xC else s.bankCause 1
    let seq : Nat → Nat := fun b => match s.present b with
      | some (a, _) => imgSeq (s.flashBytes a 0x40)
      | none => 0
    let swap := c1 == 0 && (c0 != 0 || decide (seq 0 < seq 1))
    State.tryBanks (if swap then [(1, c1), (0, c0)] else [(0, c0), (1, c1)]) (s.puts [(CFG_BOOT_CAUSE0, c0), (CFG_BOOT_CAUSE1, c1)])
  else s

/-- R75 checks 2 and 3 of the bank being tried. -/
def State.loadBank (timeout : Bool) (s : State) : State :=
  if s.starting 4 then
    match s.boot.banks with
    | [] => s
    | (b, _) :: _ =>
      match s.present b with
      | none => s.rejectBank 0xC
      | some (a, n) =>
        if timeout then s.rejectBank 0xC
        else
          let h := s.flashBytes a 0x40
          let r := readImage 1 n h (s.flashBytes a (min (imgLength h) n))
          if r.1 ≠ 0 then s.rejectBank r.1
          else if !r.2.typesOk 1 then s.rejectBank 6
          else (s.onBoot fun x => { x with cand := some r.2 }).put CFG_STATE_STATE 5
  else s

/-- R75 checks 4 to 6. -/
def State.imageCause (s : State) (i : Image) : Nat :=
  let c := s.firmwareCause i
  if c ≠ 0 then c
  else if !scrcOk ((i.one 0x20).getD []) then 0xA
  else if !consistent i (effOf i none) then 0xB
  else 0

def State.verify (s : State) : State :=
  if s.starting 5 then
    match s.boot.cand with
    | none => s
    | some i => if s.imageCause i = 0 then s.put CFG_STATE_STATE 6 else s.rejectBank (s.imageCause i)
  else s

/-! ### Applying (R78, R79, R92) -/

/-- R94, R106: the base limits of the LEASH payload `p`. -/
def State.leashBase (p : List Byte) (s : State) : State :=
  let s := (List.range 32).foldl (fun s a =>
    let o := 4 + 16 * a
    s.puts [(LSH_IPK_BASE a, leAt p o 2), (LSH_ICT_BASE a, leAt p (o + 2) 2), (LSH_I2T_TPK a, leAt p (o + 4) 2),
      (LSH_DUTY_BASE a, leAt p (o + 6) 2), (LSH_DTF_BASE a, leAt p (o + 8) 2), (LSH_MPW_BASE a, leAt p (o + 10) 2),
      (LSH_ESC_MASK a, leAt p (o + 12) 1), (LSH_ESC_COUNT a, leAt p (o + 13) 1)]) s
  let s := (List.range 8).foldl (fun s k =>
    let o := 0x204 + 8 * k
    s.puts [(LSH_AUXDUTY_BASE k, leAt p o 2), (LSH_AUXDTF_BASE k, leAt p (o + 2) 2), (LSH_AUXMPW_BASE k, leAt p (o + 4) 2)]) s
  let s := (s.wr64 LSH_DOUT_B (leAt p 0x244 8)).wr64 LSH_DHOLD_B (leAt p 0x24C 8)
  (List.range 256).foldl (fun s n =>
    let o := 0x254 + 24 * n
    let s := (s.wr (LSH_SPD_B n) (leAt p o 4)).put (LSH_PCFG_ENV n) (leAt p (o + 20) 4)
    (s.wr64 (LSH_PMIN_B n) (leAt p (o + 4) 8)).wr64 (LSH_PMAX_B n) (leAt p (o + 12) 8)) s

/-- R94, R106: the effective limits from the payload `p` of LEASH_LOWER, or of LEASH where there is none. -/
def State.leashEff (p : List Byte) (s : State) : State :=
  let s := (List.range 32).foldl (fun s a =>
    let o := 4 + 16 * a
    s.puts [(LSH_IPK_EFF a, leAt p o 2), (LSH_ICT_EFF a, leAt p (o + 2) 2), (LSH_DUTY_EFF a, leAt p (o + 6) 2),
      (LSH_DTF_EFF a, leAt p (o + 8) 2), (LSH_MPW_EFF a, leAt p (o + 10) 2)]) s
  let s := (List.range 8).foldl (fun s k =>
    let o := 0x204 + 8 * k
    s.puts [(LSH_AUXDUTY_EFF k, leAt p o 2), (LSH_AUXDTF_EFF k, leAt p (o + 2) 2), (LSH_AUXMPW_EFF k, leAt p (o + 4) 2)]) s
  let s := (s.wr64 LSH_DOUT_E (leAt p 0x244 8)).wr64 LSH_DHOLD_E (leAt p 0x24C 8)
  (List.range 256).foldl (fun s n =>
    let o := 0x254 + 24 * n
    ((s.wr (LSH_SPD_E n) (leAt p o 4)).wr64 (LSH_PMIN_E n) (leAt p (o + 4) 8)).wr64 (LSH_PMAX_E n) (leAt p (o + 12) 8)) s

/-- R94, R83: the effective limits of a configuration, set at APPLY and at a commit only. -/
def State.effLimits (e : Eff) (s : State) : State :=
  (s.leashEff (e.lower.getD e.leash)).onLim fun l => { l with lower := e.lower }

/-- R101: each DHOLD bit beyond the two lowest of a group is reported at APPLY, with its channel. -/
def State.extraHolds (s : State) : State :=
  (below 64 fun c => s.bit64 LSH_DHOLD_E c && !s.holdPerm c).foldl (fun s c =>
    (s.latch LSH_STAT_DIOCLAMP).report 0x1B 3 30 LSH_STAT (s.rd LSH_STAT) c) s

/-- R74: the ring fields; the ones of a master come from RINGMAP too (R402). -/
def State.applyRing (e : Eff) (s : State) : State :=
  let role := e.m 0x80 1
  if role = 0 then s
  else
    let s := s.puts [(RNG_CFG_ROLE, role), (RNG_CFG_SPEED, b2n (bit (e.m 0x81 1) 0)), (RNG_CFG_TOPO, b2n (bit (e.m 0x81 1) 1)),
      (RNG_CFG_ADDR, e.m 0x82 1), (RNG_CFG_MISSMAX, if role = 2 then e.m 0x83 1 else 0), (RNG_SVQ_Q, e.m 0x8E 1), (RNG_SVQ_FREE, 32),
      (RNG_ETYPE_ETYPE, e.m 0x8C 2)]
    let s := (s.wrs [(RNG_CYC, e.m 0x84 4), (RNG_SOFS, e.m 0x88 4), (RNG_IDENT, e.m 0x98 4), (RNG_SVBUF, e.m 0xAC 4)]).wr64 RNG_MAC (e.m 0x90 6)
    if role = 2 then (List.range 16).foldl (fun s k => s.put (RNG_MSUB_AX k) (e.m (0x9C + k) 1)) s
    else
      (s.puts [(RNG_CFG_NFR, e.r 6 1 - 1), (RNG_CFG_LOSTMAX, e.r 5 1)]).onRing fun r =>
        { r with map := e.members, flen := (List.range 8).map fun f => e.r (0x0C + 2 * f) 2 }

/-- R74: the fields of time and of the service port. -/
def State.applyNet (e : Eff) (s : State) : State :=
  let ip := fun o => ofBe (slice e.mach o 4)
  let s := s.puts [(TIM_CFG_SRC, e.m 0xC0 1), (TIM_CFG_DM, e.m 0xC1 1), (TIM_CFG_KP, e.m 0xC2 1), (TIM_CFG_KI, e.m 0xC3 1),
    (TIM_CFG_HOLDT, e.m 0xC4 1), (TIM_CFG_OUTMAX, e.m 0xC5 1), (TIM_PTP_DOMAIN, e.m 0xC6 1), (TIM_PTP_LOGDREQ, e.m 0xC7 1),
    (SVC_PORT_PORT, e.m 0xEC 2), (SVC_DBG_EN, e.m 0x0C 1)]
  let s := s.wrs [(TIM_JMP, e.m 0xC8 4), (SVC_IP, ip 0xE0), (SVC_MASK, ip 0xE4), (SVC_GW, ip 0xE8)]
  s.onBoot fun b => { b with net := some (slice e.mach 0xE0 32) }

/-- R74: modulator clocks, virtual masters and master-encoder ports. -/
def State.applyMasters (e : Eff) (s : State) : State :=
  let s := (List.range 12).foldl (fun s m => s.puts [(CSF_SDC_TSD m, e.m (0x100 + 4 * m) 1), (CSF_SDC_EN m, e.m (0x101 + 4 * m) 1)]) s
  let s := (List.range 8).foldl (fun s k =>
    let o := 0x140 + 40 * k
    let s := (s.put (PRF_VMST_EN k) (e.m o 1)).wr64 (PRF_VMMOD k) (e.m (o + 8) 8)
    ((s.wr64 (PRF_VMVMAX k) (e.m (o + 16) 8)).wr64 (PRF_VMAMAX k) (e.m (o + 24) 8)).wr64 (PRF_VMJMAX k) (e.m (o + 32) 8)) s
  let s := s.wr FBK_MPER (e.m 0x280 4)
  (List.range 2).foldl (fun s k =>
    let o := 0x288 + 48 * k
    let sect := leBytes 1 (32 + k) ++ slice e.mach (o + 1) 2 ++ [0] ++ slice e.mach (o + 4) 28 ++ List.replicate 96 0
    let s := s.wr64 (FBK_MMOD k) (e.m (o + 32) 8)
    if e.m o 1 = 1 then s.onMenc fun t => tabSet t (32 + k) sect else s) s

/-- R74: queues, probes, auxiliary channels, PWM settings and islands. -/
def State.applyUnits (e : Eff) (s : State) : State :=
  let s := (List.range 31).foldl (fun s i => s.puts [(PWR_ISL_MARGIN i, e.m (0x40 + 2 * i) 1), (PWR_ISL_CEIL i, e.m (0x41 + 2 * i) 1)]) s
  let s := (List.range 64).foldl (fun s q =>
    let o := 0x300 + 8 * q
    (s.puts [(QUE_CFG_CAPL q, e.m o 1), (QUE_CFG_PROD q, e.m (o + 1) 1), (QUE_CFG_CONS q, e.m (o + 2) 1), (QUE_CFG_EVSEL q, e.m (o + 3) 1)]).wr
      (QUE_SOFS q) (e.m (o + 4) 4)) s
  let s := (List.range 16).foldl (fun s i =>
    let o := 0x500 + 32 * i
    let s := s.wrs [(FBK_PRCFG i, e.m o 4), (FBK_PRSEL i, e.m (o + 4) 4)]
    (s.wr64 (FBK_PRWS i) (e.m (o + 8) 8)).wr64 (FBK_PRWE i) (e.m (o + 16) 8)) s
  let s := (List.range 8).foldl (fun s k =>
    let o := 0x700 + 16 * k
    (s.wrs [(PWM_AUXCFG k, e.m o 4), (PWM_AUXTH k, e.m (o + 4) 4), (PWM_AUXPER k, e.m (o + 8) 4), (PWM_AUXDT k, e.m (o + 12) 4)]).mark
      (PWM_AUXST_RUN k) (bit (e.m o 4) 31)) s
  (List.range 32).foldl (fun s a => s.wrs [(PWM_AX a, e.m (0x780 + 8 * a) 4), (PWM_AXD a, e.m (0x784 + 8 * a) 2)]) s

/-- R172, R186, R204: the slots `sl` and the program `ws` of engine `k`, loaded into bank `b`. -/
def State.loadSchedule (k b : Nat) (sl : List Slot) (ws : List Nat) (s : State) : State :=
  let base := (2 * k + b) * 4096
  let new : Tab (BitVec 32) := (List.range ws.length).map fun i => (base + i, BitVec.ofNat 32 (ws.getD i 0))
  let s := s.onEng fun x =>
    { x with prog := (x.prog.filter fun w => decide (w.1 < base)) ++ new ++ x.prog.filter fun w => decide (base + 4096 ≤ w.1) }
  let s := (List.range 32).foldl (fun s i =>
    let j := 32 * k + i
    match sl[i]? with
    | some t =>
      (s.wrs [(ENG_SLPER j, t.per), (ENG_SLOFS j, t.ofs), (ENG_SLLEN j, t.entry * 65536 + t.len)]).wr (ENG_SLCFG j)
        (2 ^ 31 + t.ctx * 16 + t.sect)
    | none => s.wrs [(ENG_SLPER j, 0), (ENG_SLOFS j, 0), (ENG_SLLEN j, 0), (ENG_SLCFG j, 0)]) s
  let hyper := if sl = [] then 0 else (sl.map (·.per)).foldl Nat.lcm 1
  let busy := (sl.map fun t => if t.per = 0 then 0 else t.len * (hyper / t.per)).sum
  ((s.put (ENG_STAT_NSLOT k) sl.length).wr (ENG_HYPER k) hyper).wr (ENG_BUSY k) busy

/-- The slots and the program of engine `k` in a configuration. -/
def Eff.sched (e : Eff) (k : Nat) : List Slot × List Nat :=
  match tabFind e.scheds k with
  | some p => (schedSlots p, schedWords p)
  | none => ([], [])

/-- R107: both tables of axis entries, with generation 0x0001. -/
def State.loadEntries (e : Eff) (s : State) : State :=
  (List.range 256).foldl (fun s n =>
    let b := slice (e.entry n) 0 2 ++ leBytes 2 1 ++ slice (e.entry n) 4 0x3FC
    ((s.bulkStore (s.workAt n) b).bulkStore (s.entryAt n) b).put (PRF_AXGEN_CGEN n) 1) s

/-- R92, R177, R179, R243, R248: what APPLY leaves in the units of local axis `a`. -/
def State.loadAxis (a : Nat) (s : State) : State :=
  let s := ((((s.showContext a).put (ENG_CST_CGEN a) 1).applyContext a).tagDarner a).showDarner a
  if s.axKind a ≠ 1 then s
  else ((s.presetInertia a).onPax a fun x => { x with stagePer := s.pwmPeriod a * 4 }).showDelays a

/-- R425, R446: channel `c` takes its entry of the DIO table `p`. -/
def State.dioEntry (p : List Byte) (c : Nat) (s : State) : State :=
  let b := fun i => leAt p (0x48 + 16 * c + i) 1
  s.puts [(DIO_CCFG_MODE c, b 0), (DIO_CCFG_ITYPE c, b 1), (DIO_CCFG_FILT c, b 2), (DIO_CCFG_FLAGS c, b 3), (DIO_CCFG_RBT c, b 4)]

/-- R446: the DIO table `p` comes into force, its copy in bulk memory included; every channel is programmed. -/
def State.loadDio (p : List Byte) (s : State) : State :=
  let ev := leAt p 4 4
  let s := s.puts [(DIO_CFG_EVEN, ev / 2 ^ 31), (DIO_CFG_EVQ, ev)]
  let s := (List.range 8).foldl (fun s g => s.put (DIO_GCFG_HBT g) (leAt p (8 + 8 * g) 1)) s
  let s := (List.range 64).foldl (fun s c => s.dioEntry p c) s
  (List.range 64).foldl (fun s c => s.dioProgram c) (s.bulkStore (s.rd DIO_TBASE) p)

/-- R149: the cam tables in force. -/
def State.loadCams (e : Eff) (s : State) : State :=
  s.onPrf fun p => { p with cams := e.cams.map fun c => { camId := c.1, payload := c.2 } }

/-- R129: NA, NG and the bound. -/
def State.showBound (e : Eff) (s : State) : State := (s.puts [(PRF_CFG_NA, e.na), (PRF_CFG_NG, e.ng)]).wr PRF_BOUND e.bound

/-- R83: what a recipe may replace, but for the effective limits (R94), comes into force before READY: from the base image in APPLY, overlaid by the recipe in RECIPE. -/
def State.loadOverlay (e : Eff) (s : State) : State :=
  let s := ((s.loadEntries e).loadCams e).showBound e
  let s := (List.range 8).foldl (fun s k => s.loadSchedule k 0 (e.sched k).1 (e.sched k).2) s
  let s := (List.range 32).foldl (fun s a => s.loadAxis a) s
  let s := (s.onDio fun d => { d with chan := (List.range 64).foldl (fun t c => tabMod {} t c fun x => { x with heard := s.clk.elapsed }) d.chan }).loadDio e.dio
  let s := match e.acq with
    | some p => s.loadAcqset p
    | none => s
  s.ring.map.foldl (fun s m => s.showMexp m.addr) s

/-- R78: the LK fields of the accepted base image `i`. -/
def State.applyMachine (e : Eff) (i : Image) (s : State) : State :=
  let s := s.puts [(PRF_CFG_PERIOD, e.m 8 1), (CFG_RCP_START, e.m 9 1), (CFG_RCP_FALLBACK, e.m 0xA 1), (CFG_RCP_MODE, e.m 0xB 1),
    (CFG_BOOT_BANK, match s.boot.banks with | (b, _) :: _ => b | [] => 3), (CFG_BOOT_KEYSLOT, leAt ((i.one 0x02).getD []) 0 1)]
  let s := s.wrs [(PRF_TBASE, e.m 4 4), (QUE_SBASE, e.m 0x10 4), (DIO_TBASE, e.m 0x14 4), (CFG_SEQ, imgSeq i.header)]
  (((s.applyRing e).applyNet e).applyMasters e).applyUnits e

/-- R78, R79: APPLY; `selfOk` and `mramOk` as the safety core finds its self-test and its MRAM (R451). -/
def State.applyImage (selfOk mramOk : Bool) (s : State) : State :=
  if s.starting 6 then
    match s.boot.cand with
    | none => s
    | some i =>
      let e := effOf i none
      let s := ((s.applyMachine e i).leashBase e.leash).mark LSH_STAT_LOCKED true
      let s := (((s.effLimits e).loadOverlay e).extraHolds).safBegin e.safety selfOk mramOk
      let s := (s.onBoot fun b => { b with base := some i, cand := none }).put CFG_STATE_STATE 7
      (List.range 32).foldl (fun s a => s.showSafe a) (s.onPwm fun w => { w with auxAt := s.clk.elapsed })
  else s

/-! ### The recipe at start (R82 to R84) -/

/-- R75, R84: the recipe in slot `k`: the cause that it is rejected with (0 for none), and its image. -/
def State.checkRecipe (s : State) (k : Nat) (timeout : Bool) : Nat × Image :=
  match s.present (0x10 + k), s.boot.base with
  | some (a, n), some b =>
    let h := s.flashBytes a 0x40
    if timeout then (0xC, {})
    else if headerCause h 2 k ≠ 0 then (headerCause h 2 k, {})
    else if imgMachineCrc h ≠ imgMachineCrc b.header then (0xD, {})
    else
      let r := readImage 2 n h (s.flashBytes a (min (imgLength h) n))
      if r.1 ≠ 0 then r
      else if !r.2.typesOk 2 then (6, r.2)
      else if !consistent r.2 (effOf b (some r.2)) then (0xB, r.2)
      else (0, r.2)
  | _, _ => (0xC, {})

/-- R82, R84: the start recipe; a slot recorded in MRAM is taken under MODE 1 though START is 0xF (log 77). -/
def State.startSlot (s : State) : Nat :=
  let crc := imgMachineCrc (s.boot.base.getD {}).header
  match s.flag CFG_RCP_MODE, s.boot.lastRecipe with
  | true, some (k, c) => if c = crc then k else s.get CFG_RCP_START
  | _, _ => s.get CFG_RCP_START

/-- R91: the slot of a completed start or changeover is recorded in MRAM. -/
def State.recordSlot (k : Nat) (s : State) : State :=
  s.onBoot fun b => { b with lastRecipe := some (k, imgMachineCrc (b.base.getD {}).header) }

/-- R83: the accepted recipe `r` of slot `k` is overlaid on the base image. -/
def State.startRecipe (k : Nat) (r : Image) (s : State) : State :=
  let s := s.loadOverlay (effOf (s.boot.base.getD {}) (some r))
  ((s.puts [(CFG_RCP_ACTIVE, k)]).wr CFG_RCP_CRC (imgHdrCrc r.header)).onBoot fun b => { b with recipe := some r }

/-- R70: the accepted firmware runs; it may raise the least security version up to its own, how far is free (log 73). -/
def State.firmwareRuns (s : State) : State :=
  let v := leAt (((s.boot.base.getD {}).one 0x01).getD []) 4 2
  let r := s.free (v + 1 - s.boot.minSec)
  (s.drew 1).onBoot fun b => { b with minSec := b.minSec + r }

/-- R80, R92, R374, R396, R407: READY. -/
def State.ready (s : State) : State :=
  let s := (s.put CFG_STATE_STATE 8).put CFG_STATE_ELAPSED (min 0xFFF ((s.clk.elapsed - s.boot.startAt) / 1000000))
  let s := s.firmwareRuns
  ((s.acqAutoStart).timReady).ringReady

/-- R82, R84: the start recipe is tried, then FALLBACK if it differs; READY follows in any case. -/
def State.chooseRecipe (to1 to2 : Bool) (s : State) : State :=
  if s.starting 7 then
    let k1 := s.startSlot
    let k2 := s.get CFG_RCP_FALLBACK
    let r1 := s.checkRecipe k1 to1
    let r2 := s.checkRecipe k2 to2
    let s :=
      if k1 = 0xF then s
      else if r1.1 = 0 then (s.startRecipe k1 r1.2).recordSlot k1
      else if k2 ≠ 0xF ∧ k2 ≠ k1 ∧ r2.1 = 0 then (s.startRecipe k2 r2.2).recordSlot k2
      else s
    s.ready
  else s

/-- R53, R396: the bypass opens while the ring interface requests it. -/
def State.bypassOpen (s : State) : State := if s.flag RNG_ST_READY then s.mark RNG_ST_BYP false else s

/-! ### The commands -/

/-- SUPPLY_FAULT (R48): the supplies as the supervisor sees them from now on: VIN, whether VIO_A and VIO_B are both above 3.0 V, and
whether every regulator is in regulation. -/
def execSupplyFault (dt : Nat) (vin : VinLevel) (vio regs : Bool) (s : State) : Host.Outcome State Fault Refusal :=
  .next ((s.elapse dt).supplyFault vin vio regs)

/-- SUPERVISOR_RELEASE (R48): with the levels of QVSEL, CLKSEL and TEST_MODE. -/
def execSupervisorRelease (dt : Nat) (qvsel clksel test : Bool) (s : State) : Host.Outcome State Fault Refusal :=
  .next ((s.elapse dt).release qvsel clksel test)

/-- RESET_N_ASSERT (R76). -/
def execResetNAssert (dt : Nat) (s : State) : Host.Outcome State Fault Refusal := .next (s.elapse dt).resetLow

/-- RESET_N_RELEASE (R76): with the levels of QVSEL, CLKSEL and TEST_MODE. -/
def execResetNRelease (dt : Nat) (qvsel clksel test : Bool) (s : State) : Host.Outcome State Fault Refusal :=
  .next ((s.elapse dt).resetHigh qvsel clksel test)

/-- CLOCKS (R76, R404). -/
def execClocks (dt : Nat) (s : State) : Host.Outcome State Fault Refusal := .next (s.elapse dt).clocks

/-- FLASH_RESET (R61 to R64): the reset commands are sent first; the command that follows them at least 1 ms later reads the table. -/
def execFlashReset (dt : Nat) (sfdp : Bool) (density : BitVec 8) (quad : Bool) (mhz : BitVec 8) (cmd13 susp : Bool) (s : State) :
    Host.Outcome State Fault Refusal :=
  let s := s.elapse dt
  .next (if s.starting 1 then s.flashReset else s.flashFound sfdp density.toNat quad mhz.toNat cmd13 susp)

/-- SELECT (R77): `to0` and `to1` when the read of a bank's header times out. -/
def execSelect (dt : Nat) (to0 to1 : Bool) (s : State) : Host.Outcome State Fault Refusal := .next ((s.elapse dt).selectBank to0 to1)

/-- LOAD (R75): `timeout` when a read times out. -/
def execLoad (dt : Nat) (timeout : Bool) (s : State) : Host.Outcome State Fault Refusal := .next ((s.elapse dt).loadBank timeout)

/-- VERIFY (R75). -/
def execVerify (dt : Nat) (s : State) : Host.Outcome State Fault Refusal := .next (s.elapse dt).verify

/-- APPLY (R78). -/
def execApply (dt : Nat) (selfOk mramOk : Bool) (s : State) : Host.Outcome State Fault Refusal :=
  .next ((s.elapse dt).applyImage selfOk mramOk)

/-- RECIPE (R82): `to1` and `to2` when a read of the start recipe or of FALLBACK times out. -/
def execRecipe (dt : Nat) (to1 to2 : Bool) (s : State) : Host.Outcome State Fault Refusal := .next ((s.elapse dt).chooseRecipe to1 to2)

/-- BYPASS_OPEN (R396). -/
def execBypassOpen (dt : Nat) (s : State) : Host.Outcome State Fault Refusal := .next (s.elapse dt).bypassOpen

end Sys2Proof.Machine
end

