-- ==== Sys2Proof/Machine/Changeover.lean ====
section
/-! DEFINITION. Recipe changeover (R64, R85 to R91, R187, R445). -/

namespace Sys2Proof.Machine

/-! ### The request (R64, R85) -/

/-- R85, R64, R91: why a changeover to slot `k` is refused, if it is; `busy` while firmware is programming or erasing the flash. Where several
reasons hold, the order is the model's (log 60). -/
def State.changeRefusal (s : State) (k : Nat) (busy : Bool) : Option Nat :=
  if s.flag CFG_CHG_BUSY || s.get CFG_STATE_STATE != 8 then some 0x9
  else if decide (8 ≤ k) || (s.present (0x10 + k)).isNone || s.boot.dlSlot == some k then some 0xA
  else if (List.range 256).any fun n => s.axState n != 0 && s.axState n != 2 then some 0x8
  else if busy && !s.boot.suspend then some 0x9
  else none

/-- R85, R86, R64: a write of `k` to CFG_CHG.SLOT; an operation of the firmware on the flash is suspended with 0x75. -/
def State.requestChange (k : Nat) (busy : Bool) (s : State) : State :=
  let s := s.put CFG_CHG_SLOT k
  match s.changeRefusal k busy with
  | some r => s.put CFG_CHG_RESULT r
  | none =>
    let s := if busy then (s.flashCmd 0x75 (1000 * s.get CFG_FLASH_CLK)).onBoot fun b => { b with suspended := true } else s
    (s.puts [(CFG_CHG_RESULT, 1), (CFG_CHG_BUSY, 1), (CFG_STATE_STATE, 9)]).onBoot fun b => { b with chgSlot := k, staged := none }

/-- R85, R64: a write of CFG_CHG by register access. Whether firmware is programming or erasing the flash at that moment is free, and only
an open download can be (log 78). -/
def State.writeChange (k : Nat) (s : State) : State :=
  let busy := s.svc.download.isSome && s.free 2 == 1
  (s.drew 1).requestChange k busy

/-- R87, R91, R64: the changeover ends with RESULT `r`; the firmware resumes what it had to suspend. -/
def State.endChange (r : Nat) (s : State) : State :=
  let s := (s.puts [(CFG_CHG_RESULT, r), (CFG_CHG_BUSY, 0), (CFG_STATE_STATE, 8)]).onBoot fun b =>
    { b with staged := none, suspended := false }
  let s := s.onRing fun x => { x with stageAt := none, cmt := if s.get RNG_CFG_ROLE = 1 then none else x.cmt }
  s.event 0x57

/-! ### Staging (R75, R87, R88) -/

/-- R91: the result that a rejection cause leads to. -/
def changeResult (cause : Nat) : Nat :=
  match cause with
  | 0xB => 0xD
  | 0xC => 0xE
  | 0xD => 0xC
  | _ => 0xB

/-- The configuration in force, and the one that the recipe `r` would bring. -/
def State.effNow (s : State) : Eff := effOf (s.boot.base.getD {}) s.boot.recipe
def State.effWith (s : State) (r : Image) : Eff := effOf (s.boot.base.getD {}) (some r)

/-- R394: the member block of an entry. -/
def blockOf (x : List Byte) : List Byte := slice x 0x080 0x80 ++ slice x 0x200 0x180

/-- R88: the remote entries of a configuration that bring a member another block: the block differs from the committed one, or the entry
names another member or subaxis. -/
def State.newBlocks (s : State) (e : Eff) : List Nat :=
  below 256 fun n =>
    let x := e.entry n
    decide (32 ≤ n) && ent x 0x010 == 2
      && (blockOf x != s.memberBlock n || !s.isRemote n || ent x 0x380 != s.axMember n || ent x 0x381 != s.axSubaxis n)

/-- R88: the staged block of entry `n` is sent to its member. -/
def State.stageBlock (e : Eff) (n : Nat) (s : State) : State :=
  let x := e.entry n
  let m := ent x 0x380
  let k := ent x 0x381
  (s.onRingMem m fun r => { r with stageOwed := r.stageOwed.filter (· != k) ++ [k] }).svRequest m 2
    (leBytes 1 k ++ leBytes 1 1 ++ leBytes 2 0 ++ blockOf x)

/-- R75, R87, R88: the recipe has been read: it is rejected, or staged and its sets go to the members. -/
def State.stageRecipe (timeout : Bool) (s : State) : State :=
  if !(s.flag CFG_CHG_BUSY) || s.boot.staged.isSome then s
  else
    let r := s.checkRecipe s.boot.chgSlot timeout
    if r.1 ≠ 0 then s.endChange (changeResult r.1)
    else
      let e := s.effWith r.2
      let s := s.onBoot fun b => { b with staged := some r.2 }
      if s.get RNG_CFG_ROLE = 1 then (s.newBlocks e).foldl (fun s n => s.stageBlock e n) s else s

/-- R88: the commit cycle: the first ring cycle that starts at a profile boundary, at least 8 cycles after the next one begins. -/
def State.commitCycle (s : State) : Nat :=
  let tr := s.rd RNG_CYC
  let start := s.clk.ns - s.clk.ns % max 1 tr
  let j := ((List.range 4096).find? fun j => decide (9 ≤ j) && (start + j * tr) % max 1 s.profilePeriod == 0).getD 9
  (s.rd RNG_CYCNT + j) % 2 ^ 32

/-- R88: member `m` has acknowledged the staged block of its subaxis `k`; when all have, the commit cycle is chosen. -/
def State.stageAck (m k : Nat) (s : State) : State :=
  if (s.ringMem m).stageOwed.contains k && s.boot.staged.isSome then
    let s := s.onRingMem m fun x => { x with stageOwed := x.stageOwed.filter (· != k) }
    if s.stageWaits then s else s.onRing fun r => { r with cmt := some s.commitCycle }
  else s

/-- R88: 1 100 ms after the first send of a staged set, a member still owes its acknowledgement: the sets are discarded. -/
def State.stageTimeout (s : State) : State :=
  match s.ring.stageAt with
  | some t =>
    if s.stageWaits && s.boot.staged.isSome && decide (t + 1100000000 ≤ s.clk.elapsed) then
      let s := s.onRing fun r =>
        { r with mems := r.mems.map fun e =>
            (e.1, { e.2 with stageOwed := [], reqs := e.2.reqs.filter fun q => !(q.mtype == 2 && leAt q.data 1 1 == 1) }) }
      (s.svRequest 0 3 []).endChange 0xF
    else s
  | none => s

/-! ### The commit (R89, R90, R187, R445) -/

/-- R90: couplings and superimposed moves end, and the segments and commands still queued are discarded. R90 names no event for a
coupling that ends so: none is pushed (DESIGN CHOICE, log 85). -/
def State.dropQueues (s : State) : State :=
  let s := (List.range 256).foldl (fun s n =>
    let s := if (s.mot n).sup.isSome then s.endSuper n else s
    if (s.mot n).cpl.isSome then ((s.onMot n fun m => { m with cpl := none }).put (PRF_MVST_MASTER n) 0).setMode n 0 0 else s) s
  let s := (s.flush 0).onPrf fun p => { p with part := none }
  (List.range 16).foldl (fun s g =>
    if s.get (PRF_GRPST_STATE g) = 0 then (s.onGrp g fun x => { x with aborting := some 0x03 }).groupFinish g
    else (s.groupEnd g 0x03 []).groupFinish g) s

/-- R89: the entry `x` of the new configuration comes into force as entry `n`. -/
def State.changeEntry (n : Nat) (x : List Byte) (s : State) : State :=
  let old := s.committed n
  let changed := differ old x 0x010 0x3C0
  let g := if changed then nextGen (s.get (PRF_AXGEN_CGEN n)) else s.get (PRF_AXGEN_CGEN n)
  let b := slice x 0 2 ++ leBytes 2 g ++ slice x 4 0x3FC
  let s := ((s.bulkStore (s.workAt n) b).bulkStore (s.entryAt n) b).put (PRF_AXGEN_CGEN n) g
  if !changed then s
  else
    let s := s.switchCaches n old true
    if s.isRemote n && s.get RNG_CFG_ROLE == 1 then s.onAxis n fun y => { y with acked := true, blockDue := false }
    else s

/-- R187: the instructions of the slot `t`, up to its END. -/
def slotCode (ws : List Nat) (t : Slot) : List Nat := (ws.drop t.entry).takeWhile fun w => bits w 31 26 != 1

/-- R187: the placement and the instructions of the slots of context `c`. -/
def contextCode (p : List Slot × List Nat) (c : Nat) : List (Slot × List Nat) :=
  (p.1.filter fun t => t.ctx == c).map fun t => ({ t with entry := 0 }, slotCode p.2 t)

/-- R89, R187, R192: engine `k` swaps to the other bank when its schedule changes; contexts whose placement or instructions changed
have their preset flags set. -/
def State.swapBank (old new : Eff) (k : Nat) (s : State) : State :=
  if tabFind old.scheds k = tabFind new.scheds k then s
  else
    let b := 1 - b2n (s.flag (ENG_STAT_BANK k))
    let s := (s.loadSchedule k b (new.sched k).1 (new.sched k).2).put (ENG_STAT_BANK k) b
    (List.range 4).foldl (fun s c =>
      if contextCode (old.sched k) c ≠ contextCode (new.sched k) c then (s.setPreset (4 * k + c)).handOverCommit (4 * k + c)
      else s) s

/-- R445: channel `c` goes from the mode, type and filter of one table to those of the next. -/
def State.dioSwitchOver (old : State) (c : Nat) (s : State) : State :=
  let was := old.outMode c
  let s := if was && s.outMode c then s else s.setBit64 DIO_OUT c (s.outMode c && (s.trackOf c).isSome && s.outBit c)
  if old.get (DIO_CCFG_ITYPE c) = s.get (DIO_CCFG_ITYPE c) ∧ old.get (DIO_CCFG_FILT c) = s.get (DIO_CCFG_FILT c) then s
  else s.onDch c fun d => { d with rawAt := s.clk.elapsed, okAt := none }

/-- R445: the DIO table `p` takes effect at the commit. -/
def State.changeDio (p : List Byte) (s : State) : State :=
  let new := s.loadDio p
  let new := (List.range 64).foldl (fun n c => State.dioSwitchOver s c n) new
  (List.range 64).foldl (fun n c => (n.dioProgram c).dioValidity c) new

/-- R243: the recipe `r` carries a cam LCAM of axis `a` that differs from the table in force, and LCAMEN is 1. -/
def State.camChanged (s : State) (old : Eff) (r : Image) (a : Nat) : Bool :=
  let c := s.axU a 0x32A 1
  s.isLocal a && bit (s.axU a 0x300 1) 2 &&
    (match tabFind (byNumber 1 (r.all 0x12) []) c with
     | some p => tabFind old.cams c != some p
     | none => false)

/-- R89 to R92, R94: the recipe `r` comes into force, its limits first. -/
def State.changeTo (r : Image) (s : State) : State :=
  let old := s.effNow
  let e := s.effWith r
  let dout := s.rd64 LSH_DOUT_E
  let s := ((s.dropQueues.effLimits e).discardLowerings).permClamp dout
  let s := (List.range 256).foldl (fun s n => s.changeEntry n (e.entry n)) s
  let s := (List.range 8).foldl (fun s k => s.swapBank old e k) s
  let s := (s.loadCams e).showBound e
  let s := (below 32 fun a => s.camChanged old r a).foldl (fun s a => s.emptyDarner a) s
  let s := if (r.one 0x16).isSome || old.dio != e.dio then s.changeDio e.dio else s
  let s := match r.one 0x17 with
    | some p => s.acqChangeover p
    | none => s
  s.ring.map.foldl (fun s m => s.showMexp m.addr) s

/-- R89, R91: the commit of a changeover. -/
def State.commitChange (s : State) : State :=
  match s.boot.staged with
  | none => s
  | some r =>
    if !s.changeDue then s
    else
      let k := s.boot.chgSlot
      let sent := s.newBlocks (s.effWith r)
      let s := s.changeTo r
      let s := if s.get RNG_CFG_ROLE = 1 then
          ((s.ring.map.filter fun m => sent.any fun n => s.axMember n == m.addr).foldl (fun s m => s.askIdent m.addr) s)
        else s
      let s := ((s.put CFG_RCP_ACTIVE k).wr CFG_RCP_CRC (imgHdrCrc r.header)).satBump CFG_CHG_COUNT 1
      ((s.onBoot fun b => { b with recipe := some r }).recordSlot k).endChange 2

/-! ### The commands -/

/-- CHANGEOVER_REQUEST (R85): `slot` as written; `busy` while firmware is programming or erasing the flash. -/
def execChangeoverRequest (dt : Nat) (slot : Fin 16) (busy : Bool) (s : State) : Host.Outcome State Fault Refusal :=
  .next ((s.elapse dt).requestChange slot busy)

/-- CHANGEOVER_STAGED (R87): `timeout` when a read of the flash times out. -/
def execChangeoverStaged (dt : Nat) (timeout : Bool) (s : State) : Host.Outcome State Fault Refusal :=
  .next ((s.elapse dt).stageRecipe timeout)

/-- STAGED_SET_ACK (R88): member `m`, its subaxis `k`. -/
def execStagedSetAck (dt : Nat) (m : Fin 256) (k : Fin 16) (s : State) : Host.Outcome State Fault Refusal :=
  .next ((s.elapse dt).stageAck m k)

/-- CHANGEOVER_ACK_TIMEOUT (R88). -/
def execChangeoverAckTimeout (dt : Nat) (s : State) : Host.Outcome State Fault Refusal := .next (s.elapse dt).stageTimeout

/-- CHANGEOVER_COMMIT (R89). -/
def execChangeoverCommit (dt : Nat) (s : State) : Host.Outcome State Fault Refusal := .next (s.elapse dt).commitChange

end Sys2Proof.Machine
end

