-- ==== Sys2Proof/Machine/Islands.lean ====
section
/-! DEFINITION. Power states of the islands and what ends the conservation guarantee (R29 to R41, R498, R513). -/

namespace Sys2Proof.Machine

/-! ### Power states (R35 to R40) -/

/-- R35: the wake time of a power state, in ns. -/
def wakeTime (st : Nat) : Nat :=
  match st with
  | 0 => 0
  | 1 => 40
  | 2 => 8000
  | _ => 400000

/-- R37: the ceiling of island `i`. -/
def State.islandCeil (s : State) (i : Nat) : Nat :=
  let enabled := fun l : List Nat => l.any fun a => s.enabled a
  let serves :=
    if i < 8 then enabled ((List.range 4).map (4 * i + ·))
    else if i < 16 then enabled ((List.range 4).map (4 * (i - 8) + ·))
    else if i = 0x11 ∨ i = 0x12 then enabled (List.range 32)
    else if i = 0x17 then s.acq.chan != []
    else if i = 0x18 then s.flag RNG_ST_PA || s.flag RNG_ST_PB
    else i == 0x1A || i == 0x1D || i == 0x1E
  if serves then 0 else if i = 0x1B then 1 else s.get (PWR_ISL_CEIL i)

/-- R22: the time in ns to the next boundary of period `p` after now; none while the clock stands or for no period. -/
def State.toBoundary (s : State) (p : Nat) : Option Nat := if s.clk.running && p != 0 then some (p - s.clk.ns % p) else none

/-- R36, R333: the time to the earliest wake tick of the Kennel's delay list, of all tokens or of those that a service core may run. -/
def State.toHead (s : State) (cores : Bool) : Option Nat :=
  match s.knl.delay.filter fun e => !cores || s.get (KNL_D0_EXEC e.1) % 16 != 0, s.toBoundary 1000 with
  | (_, w) :: _, some t => some (t + (signed 32 (w + 2 ^ 32 - s.rd KNL_TICK) - 1).toNat * 1000)
  | _, _ => none

/-- R36: the times to the next events of R22 that are known of island `i`: the boundaries that it serves, and the delay-list head (log
68). -/
def State.knownEvents (s : State) (i : Nat) : List Nat :=
  let ring := if s.get RNG_CFG_ROLE = 0 then none else s.toBoundary (s.rd RNG_CYC)
  let samples := s.acq.chan.map fun c => s.toBoundary c.2.ts
  let aux := (below 8 fun k => s.flag (PWM_AUXST_RUN k)).map fun k => s.toBoundary (s.rd (PWM_AUXPER k) / 4)
  let loops := fun a : Nat => (below 4 fun c => s.enabled (4 * a + c)).flatMap fun c =>
    [s.toBoundary (s.curPeriod (4 * a + c)), s.toBoundary (s.pwmPeriod (4 * a + c)), s.toBoundary (s.velPeriod (4 * a + c))]
  let l : List (Option Nat) :=
    if i < 8 then loops i
    else if i < 16 then loops (i - 8)
    else
      match i with
      | 0x10 => aux
      | 0x12 => if s.menc = [] then [] else [s.toBoundary (s.rd FBK_MPER)]
      | 0x13 => [s.toBoundary s.profilePeriod]
      | 0x14 => [s.toHead false]
      | 0x15 => [s.toHead true]
      | 0x16 => [ring]
      | 0x17 => samples
      | 0x18 => [ring]
      | _ => []
  l.filterMap id

/-- R36: the time to the earliest known event of island `i`; `other` is one that the part has no register of, if there is one. -/
def State.earliest (s : State) (i : Nat) (other : Option Nat) : Option Nat :=
  (s.knownEvents i ++ other.toList).min?

/-- R36: the deepest state of island `i` whose wake time and margin fit before its earliest known event, `left` ns from now. -/
def State.deepest (s : State) (i : Nat) (left : Option Nat) : Nat :=
  let fits := fun st => match left with
    | some t => decide (wakeTime st + s.get (PWR_ISL_MARGIN i) * 1000 ≤ t)
    | none => true
  ([3, 2, 1].find? fun st => decide (st ≤ s.islandCeil i) && fits st).getD 0

/-- R38: the islands that can issue bulk-memory accesses, the queue fabric among them (log 51). -/
def bulkIslands : List Nat := [0x00, 0x01, 0x02, 0x03, 0x04, 0x05, 0x06, 0x07, 0x13, 0x14, 0x15, 0x16, 0x17, 0x18, 0x19, 0x1C]

/-- R38: bulk memory is in self-refresh while every one of them is in Rest. -/
def State.showRefresh (s : State) : State :=
  s.onPow fun p => { p with refresh := bulkIslands.all fun i => s.get (PWR_ISL_STATE i) == 3 }

/-- R36: island `i` has no work outstanding; `left` is the time to an event that no register shows. -/
def State.powerEntry (i : Nat) (left : Option Nat) (s : State) : State :=
  (s.put (PWR_ISL_STATE i) (s.deepest i (s.earliest i left))).showRefresh

/-- R39: an event comes earlier than the time by which island `i` chose its state. -/
def State.lateWake (i : Nat) (s : State) : State :=
  if s.get (PWR_ISL_STATE i) = 0 then s else s.satBump (PWR_ISL_LATE i) 1

/-- R35, R40, R361: island `i` is in Run again; an engine that returns from Rest compares its caches with the committed entries. -/
def State.wakeDone (i : Nat) (s : State) : State :=
  let was := s.get (PWR_ISL_STATE i)
  let s := (s.put (PWR_ISL_STATE i) 0).showRefresh
  let s := if was = 3 ∧ i < 8 then
      ((List.range 4).filter fun c => s.axKind (4 * i + c) == 1).foldl (fun s c => s.revalidate (4 * i + c)) s
    else s
  if i = 0x17 ∧ was ≠ 0 then s.acqWoken else s

/-! ### The conserved quantities (R29, R32) -/

/-- The sums of R29 that do not hold, by the island that owns them (R34), the lowest first. -/
def State.auditBad (s : State) : List Nat :=
  let m := 2 ^ 32
  let tokens := s.get KNL_CNTA_FREE + s.get KNL_CNTA_DELAYED + s.get KNL_CNTA_READY + s.get KNL_CNTB_SLOTTED + s.get KNL_CNTB_RUNNING
    + s.get KNL_CNTB_CPEND
  let bufs := s.get RNG_BUFA_FREE + s.get RNG_BUFA_RECV + s.get RNG_BUFB_FWD + s.get RNG_BUFB_TXW
  let checks : List (Nat × Bool) := [
    (0x13, (List.range 16).all fun g =>
      s.rd (PRF_GRPACC g) == (s.rd (PRF_GRPEXE g) + s.rd (PRF_GRPABT g) + s.get (PRF_GRPST_WIN g)) % m),
    (0x14, tokens == 512),
    (0x16, (List.range 64).all fun q =>
      s.rd (QUE_PUSHC q) == (s.rd (QUE_POPC q) + s.get (QUE_ST_DEPTH q)) % m),
    (0x17, s.get ACQ_POOLA_FREE + s.get ACQ_POOLA_ARMED + s.get ACQ_POOLB_HELD == 2048),
    (0x18, bufs == 64),
    (0x19, (List.range 31).all fun i =>
      s.rd (ERR_PRES i) == (s.rd (ERR_LOGD i) + s.rd (ERR_LTOT i) + s.get (ERR_LOST_BUF i)) % m)]
  (checks.filter fun e => !e.2).map (·.1)

/-- R32: the audit; a mismatch is handled as R31 says whether the guarantee still holds or not (log 69). -/
def State.audit (s : State) : State :=
  match s.auditBad with
  | [] => s
  | i :: _ => s.guardEnd 0x6 i

/-! ### The monitors (R31, R498, R513) -/

/-- R31, R34: an uncorrected ECC error in bulk memory, or in an on-die memory of island `i`. -/
def State.eccError (bulk : Bool) (i : Nat) (s : State) : State := if bulk then s.guardEnd 0x1 0x16 else s.guardEnd 0x2 i

/-- R497, R498: is a supply outside its operating range? Millivolts, and bit r for regulator r in regulation. -/
def supplyOut (vin vioa viob regok : Nat) : Bool :=
  decide (vin < 9600) || decide (14400 < vin) || decide (vioa < 3000) || decide (3600 < vioa) || decide (viob < 3000) || decide (3600 < viob)
    || regok != 0xFF

/-- R48: the conditions of the supervisor by the supplies in mV: VIN below 9.6 V, VIO_A or VIO_B below 3.0 V, a regulator out of
regulation. -/
def supervised (vin vioa viob regok : Nat) : Bool :=
  decide (vin < 9600) || decide (vioa < 3000) || decide (viob < 3000) || regok != 0xFF

/-- R498, R48, R49: what the supply monitor has measured for 50 µs. A supply below the supervisor's limits takes the part into reset. -/
def State.supplySeen (vin vioa viob regok : Nat) (s : State) : State :=
  let s := (((s.put PWR_VIN_VIN vin).put PWR_VIO_VIOA vioa).put PWR_VIO_VIOB viob).put PWR_MON_REGOK regok
  if supervised vin vioa viob regok then
    (s.latch PWR_MON_SUPOUT).supplyFault (if vin < 9600 then .low else .ok) (decide (3000 ≤ vioa) && decide (3000 ≤ viob)) (regok == 0xFF)
  else if supplyOut vin vioa viob regok then (s.latch PWR_MON_SUPOUT).guardEnd 0x3 0x19
  else s

/-- R498: what the case sensor has read for 10 ms, in 1/16 °C. -/
def State.caseSeen (t : Int) (s : State) : State :=
  let s := (s.putS PWR_TEMP_TEMP t).putS PWR_TEMP_PEAK (max t (s.getS PWR_TEMP_PEAK))
  if t < -640 ∨ 2000 < t then (s.latch PWR_MON_TEMPOUT).guardEnd 0x4 0x19 else s

/-- R498: the reference has failed its check. -/
def State.referenceFault (s : State) : State := (s.latch PWR_MON_REFOUT).guardEnd 0x5 0x19

/-! ### The commands -/

/-- POWER_STATE_ENTRY (R36): island `i` has no work outstanding; `left` is the time to an event of
its that no register shows, if it knows one. -/
def execPowerStateEntry (dt : Nat) (i : Fin 31) (left : Option Nat) (s : State) : Host.Outcome State Fault Refusal :=
  .next ((s.elapse dt).powerEntry i left)

/-- LATE_WAKE (R39). -/
def execLateWake (dt : Nat) (i : Fin 31) (s : State) : Host.Outcome State Fault Refusal := .next ((s.elapse dt).lateWake i)

/-- WAKE_COMPLETE (R35). -/
def execWakeComplete (dt : Nat) (i : Fin 31) (s : State) : Host.Outcome State Fault Refusal := .next ((s.elapse dt).wakeDone i)

/-- CONSERVATION_AUDIT (R32). -/
def execConservationAudit (dt : Nat) (s : State) : Host.Outcome State Fault Refusal := .next (s.elapse dt).audit

/-- UNCORRECTED_ECC_ERROR (R31): in bulk memory, or in the on-die memory of island `i`. -/
def execUncorrectedEccError (dt : Nat) (bulk : Bool) (i : Fin 31) (s : State) : Host.Outcome State Fault Refusal :=
  .next ((s.elapse dt).eccError bulk i)

/-- SUPPLY_OUT_OF_RANGE (R498): the supplies as measured for at least 50 µs, in mV, and the regulators in regulation. -/
def execSupplyOutOfRange (dt : Nat) (vin vioa viob : BitVec 16) (regok : BitVec 8) (s : State) : Host.Outcome State Fault Refusal :=
  .next ((s.elapse dt).supplySeen vin.toNat vioa.toNat viob.toNat regok.toNat)

/-- CASE_TEMP_OUT_OF_RANGE (R498): the case temperature as read for 10 ms, in 1/16 °C. -/
def execCaseTempOutOfRange (dt : Nat) (t : BitVec 16) (s : State) : Host.Outcome State Fault Refusal :=
  .next ((s.elapse dt).caseSeen t.toInt)

/-- REFERENCE_CLOCK_FAULT (R498). -/
def execReferenceClockFault (dt : Nat) (s : State) : Host.Outcome State Fault Refusal := .next (s.elapse dt).referenceFault

end Sys2Proof.Machine
end

