-- ==== Sys2Proof/Machine/Kennel.lean ====
section
/-! DEFINITION. The Kennel: submits, cancels, takes, completions, ticks, events, slots and the PUSH executor
(R308 to R333). -/

namespace Sys2Proof.Machine

/-- R315: a token becomes FREE: its event binding ends (R329), and no event pends for it (log 99). -/
def State.freeToken (t : Nat) (s : State) : State :=
  let e := s.get (KNL_D1_EVENT t)
  let s := (s.setToken t 0).mark (KNL_TST_PEND t) false
  if s.flag (KNL_EVB_BOUND e) && s.get (KNL_EVB_TOKEN e) == t then (s.mark (KNL_EVB_BOUND e) false).put (KNL_EVB_TOKEN e) 0
  else s

/-- R320: a token enters the delay list, after every token whose wake tick is not later (R319). -/
def State.delayToken (t w why : Nat) (s : State) : State :=
  let n := s.rd KNL_TICK
  let before := s.knl.delay.takeWhile fun e => signed 32 (e.2 + 2 ^ 32 - n) ≤ signed 32 (w + 2 ^ 32 - n)
  (s.onKnl fun k => { k with
    delay := before ++ (t, w) :: k.delay.drop before.length
    nominal := tabSet k.nominal t w
    whyNext := tabSet k.whyNext t why }).showHead

/-- The slot fields of executor `x` (R308): KNL_CORE for 0 to 3, KNL_XCORE for PUSH and COPY. -/
def slotV (x : Nat) : Fld := if x < 4 then KNL_CORE_SLOTV x else KNL_XCORE_SLOTV (x - 4)
def slotT (x : Nat) : Fld := if x < 4 then KNL_CORE_SLOT x else KNL_XCORE_SLOT (x - 4)
def runV (x : Nat) : Fld := if x < 4 then KNL_CORE_RUNV x else KNL_XCORE_RUNV (x - 4)
def runT (x : Nat) : Fld := if x < 4 then KNL_CORE_RUN x else KNL_XCORE_RUN (x - 4)

/-- Empty the fetch slot of executor `x`. -/
def State.clearSlot (x : Nat) (s : State) : State :=
  let t := s.get (slotT x)
  ((s.mark (slotV x) false).put (slotT x) 0).onKnl fun k => { k with slotOrder := k.slotOrder.filter (· != t) }

/-- Put token `t` into the fetch slot of executor `x`. -/
def State.fillSlot (x t : Nat) (s : State) : State :=
  ((s.mark (slotV x) true).put (slotT x) t).onKnl fun k => { k with slotOrder := k.slotOrder.filter (· != t) ++ [t] }

/-- Take a token out of the ready list of its level. -/
def State.unready (t : Nat) (s : State) : State :=
  let p := s.prio t
  s.onKnl fun k => { k with ready := tabSet k.ready p ((tabGet [] k.ready p).filter (· != t)) }

/-- R313: is the descriptor of token `t` valid? -/
def State.descValid (s : State) (t : Nat) : Bool :=
  let ex := s.get (KNL_D0_EXEC t)
  let fl := s.get (KNL_D1_FLAGS t)
  let periodic := bit fl 0
  let rearm := bit fl 1
  let evt := bit fl 2
  let tick := bit fl 3
  let per := s.rd (KNL_DPERIOD t)
  let hw := bits ex 5 4
  s.get (KNL_D0_PRIO t) ≤ 0x3F && ex % 64 != 0 && hw != 3 && (hw == 0 || ex % 16 == 0)
    && !(periodic && (!tick || per == 0 || 2 ^ 31 - 1 < per)) && !(periodic && evt) && !(rearm && !evt)
    && !(evt && 0x58 < s.get (KNL_D1_EVENT t))
    && !(hw == 2 && (s.rd (KNL_DARG2 t) < 4 || 4096 < s.rd (KNL_DARG2 t) || s.rd (KNL_DARG2 t) % 4 != 0))
    && !(hw == 1 && 0x3F < s.rd (KNL_DARG1 t))

/-- R317: report the result of a request of core `c`. -/
def State.knlResult (c op result t : Nat) (s : State) : State :=
  s.wr (KNL_RES c) (op * 2 ^ 31 + result * 2 ^ 16 + t)

/-- R317, R319, R329: core `c` submits token `t`. -/
def State.submit (c t : Nat) (s : State) : State :=
  let fl := s.get (KNL_D1_FLAGS t)
  let e := s.get (KNL_D1_EVENT t)
  let w := s.rd (KNL_DWAKE t)
  if s.get (KNL_TST_STATE t) ≠ 0 then s.knlResult c 0 0x8 t
  else if !s.descValid t then s.knlResult c 0 0x9 t
  else if bit fl 2 && s.flag (KNL_EVB_BOUND e) then s.knlResult c 0 0xA t
  else
    let s := s.knlResult c 0 0x1 t
    let s := if bit fl 2 then (s.mark (KNL_EVB_BOUND e) true).put (KNL_EVB_TOKEN e) t else s
    if bit fl 3 then
      if due32 w (s.rd KNL_TICK) then
        (s.makeReady t 2).onKnl fun k => { k with nominal := tabSet k.nominal t w }
      else (s.setToken t 1).delayToken t w 2
    else if bit fl 2 then s.setToken t 1
    else s.makeReady t 1

/-- R317, R331: core `c` cancels token `t`. -/
def State.cancel (c t : Nat) (s : State) : State :=
  match s.get (KNL_TST_STATE t) with
  | 0 => s.knlResult c 1 0x4 t
  | 4 => ((s.setToken t 5).mark (KNL_TST_PEND t) false).knlResult c 1 0x3 t
  | 5 => s.knlResult c 1 0x5 t
  | st =>
    let s :=
      if st = 1 then s.undelay t
      else if st = 2 then s.unready t
      else (below 6 fun x => s.flag (slotV x) && s.get (slotT x) == t).foldl (fun s x => s.clearSlot x) s
    (s.freeToken t).knlResult c 1 0x2 t

/-- R324: executor `x` takes the token of its slot. -/
def State.takeSlot (x : Nat) (s : State) : State :=
  let t := s.get (slotT x)
  let s := (s.clearSlot x).setToken t 4
  let s := ((s.mark (runV x) true).put (runT x) t).put (KNL_TST_EXEC t) x
  s.onKnl fun k => { k with takenAt := tabSet k.takenAt t (s.rd KNL_TICK), warned := k.warned.filter (· != t) }

/-- R324: a read of KNL_TAKE by core `c`: VALID 1 with the token taken, or 0. A core that still runs a token takes nothing
(DEDUCED from R316's bound, log 12), and a halted core nothing (R332). -/
def State.take (c : Nat) (s : State) : State :=
  if s.flag (slotV c) && !s.flag (runV c) && !s.pwm.coreHalt.contains c then
    let t := s.get (slotT c)
    let v := 2 ^ 31 + s.get (KNL_TST_WHY t) * 2 ^ 28 + t * 2 ^ 16 + s.get (KNL_D0_ENTRY t)
    (s.takeSlot c).onBus fun b => { b with lastRead := v }
  else s.onBus fun b => { b with lastRead := 0 }

/-- R326, R327: token `t` of executor `x` completes. -/
def State.complete (x t : Nat) (s : State) : State :=
  let fl := s.get (KNL_D1_FLAGS t)
  let st := s.get (KNL_TST_STATE t)
  let s := (s.mark (runV x) false).put (runT x) 0
  if st = 5 then s.freeToken t
  else if bit fl 0 then
    let per := s.rd (KNL_DPERIOD t)
    let n := s.rd KNL_TICK
    let w := (tabGet 0 s.knl.nominal t + per) % 2 ^ 32
    if due32 w n then
      let passed := (n + 2 ^ 32 - w) % 2 ^ 32 / per + 1
      let s := (s.satBump (KNL_TST_LATE t) passed).makeReady t 4
      s.onKnl fun k => { k with nominal := tabSet k.nominal t ((w + (passed - 1) * per) % 2 ^ 32) }
    else (s.setToken t 1).delayToken t w 4
  else if bit fl 1 then
    if s.flag (KNL_TST_PEND t) then (s.mark (KNL_TST_PEND t) false).makeReady t 5
    else s.setToken t 1
  else s.freeToken t

/-- R28: an orphan completion with its tag and its source island is discarded, counted and reported; the class of the
report is a DESIGN CHOICE (log 13). -/
def State.orphan (isl : Nat) (f : Fld) (tag src : Nat) (s : State) : State :=
  (s.satBump f 1).report isl 5 0 f.addr tag src

/-- R325: core `c` reports completion of token `t`; a halted core completes nothing (R332). -/
def State.doneToken (c t : Nat) (s : State) : State :=
  let st := s.get (KNL_TST_STATE t)
  if s.pwm.coreHalt.contains c then s
  else if (st = 4 ∨ st = 5) ∧ s.get (KNL_TST_EXEC t) = c then s.complete c t
  else s.orphan 0x14 KNL_STAT_ORPHAN t 0x15

/-- R320: the tokens of the delay list that are due leave it in order and become READY. -/
def State.wakeDue (s : State) : State :=
  let n := s.rd KNL_TICK
  let dueNow := s.knl.delay.takeWhile fun e => due32 e.2 n
  dueNow.foldl (fun s e => s.makeReady e.1 (tabGet 2 s.knl.whyNext e.1)) s

/-- R318, R320: one tick: 0 at the first after CFG_STATE leaves RESET, then 1 more. -/
def State.tick (s : State) : State :=
  if s.get CFG_STATE_STATE = 0 then s else
  let s := if s.knl.ticking then s.wr KNL_TICK (s.rd KNL_TICK + 1)
    else (s.wr KNL_TICK 0).onKnl fun k => { k with ticking := true }
  s.wakeDue

/-- R321: may token `t` use executor `x`? -/
def State.permitted (s : State) (t x : Nat) : Bool := bit (s.get (KNL_D0_EXEC t)) x

/-- R321: the ready tokens, highest level first, each level from its head. -/
def State.readyOrder (s : State) : List Nat := (List.range 64).reverse.flatMap fun p => tabGet [] s.knl.ready p

/-- R321: the empty slot for a ready token: of an idle executor first, then the lowest number. -/
def State.emptySlotFor (s : State) (t : Nat) : Option Nat :=
  let e := below 6 fun x => s.permitted t x && !s.flag (slotV x)
  match e.find? fun x => !s.flag (runV x) with
  | some x => some x
  | none => e.head?

/-- R322: the slot whose token a ready token replaces: the lowest priority below its own, then the lowest number. -/
def State.replaceSlotFor (s : State) (t : Nat) : Option Nat :=
  let c := below 6 fun x => s.permitted t x && s.flag (slotV x) && s.prio (s.get (slotT x)) < s.prio t
  c.foldl (fun b x =>
    match b with
    | none => some x
    | some y => if s.prio (s.get (slotT x)) < s.prio (s.get (slotT y)) then some x else some y) none

/-- R321: the first ready token that a permitted empty slot takes; none when there is none. -/
def State.fillOne (s : State) : Option State :=
  s.readyOrder.findSome? fun t => (s.emptySlotFor t).map fun x => ((s.unready t).setToken t 3).fillSlot x t

/-- R322: the first ready token that finds every permitted slot full and replaces a token of lower priority, which enters READY again at the
head of its level; none when there is none. -/
def State.replaceOne (s : State) : Option State :=
  s.readyOrder.findSome? fun t =>
    match s.emptySlotFor t, s.replaceSlotFor t with
    | none, some x =>
      let o := s.get (slotT x)
      let p := s.prio o
      let s := ((s.unready t).setToken t 3).clearSlot x
      let s := ((s.setToken o 2).wr (KNL_TSTAMP o) s.t32).onKnl fun k => { k with ready := tabSet k.ready p (o :: tabGet [] k.ready p) }
      some (s.fillSlot x t)
    | _, _ => none

/-- Repeat a placement until there is none, at most `k` times. -/
def State.placeAll (f : State → Option State) : Nat → State → State
  | 0, s => s
  | k + 1, s =>
    match f s with
    | some s' => State.placeAll f k s'
    | none => s

/-- R323: the slotted token to move to the idle executor `x`: highest priority, then the one slotted first. -/
def State.movable (s : State) (x : Nat) : Option Nat :=
  let c := s.knl.slotOrder.filter fun t =>
    s.permitted t x && (below 6 fun y => y != x && s.flag (slotV y) && s.get (slotT y) == t && s.flag (runV y)) != []
  c.foldl (fun b t =>
    match b with
    | none => some t
    | some u => if s.prio u < s.prio t then some t else some u) none

/-- R323: move a slotted token from a busy executor to an idle one with an empty slot; its state and its place among the
slotted tokens stay. -/
def State.moveSlots (s : State) : State :=
  (List.range 6).foldl (fun s x =>
    if s.flag (slotV x) || s.flag (runV x) then s
    else match s.movable x with
      | none => s
      | some t =>
        let s := (below 6 fun y => s.flag (slotV y) && s.get (slotT y) == t).foldl
          (fun s y => (s.mark (slotV y) false).put (slotT y) 0) s
        (s.mark (slotV x) true).put (slotT x) t) s

/-- R331: what one Kennel cycle does last: slots are replaced, then moved, then filled. -/
def State.fillSlots (s : State) : State :=
  (((s.placeAll State.replaceOne 512).moveSlots).placeAll State.fillOne 6)

/-- R310: the PUSH executor takes its slotted token, pushes ARG0 bits 62:0 onto queue ARG1 bits 5:0 as a trying push, and
completes. -/
def State.pushExec (s : State) : State :=
  if s.flag (slotV 4) && !s.flag (runV 4) then
    let t := s.get (slotT 4)
    let s := s.takeSlot 4
    let arg := s.rd (KNL_DARG0L t) + 2 ^ 32 * s.rd (KNL_DARG0H t)
    let (r, s) := s.tryPush 1 (s.rd (KNL_DARG1 t) % 64) [entry arg]
    let s := if r = 0x8 then s.lose 0x14 KNL_STAT_PUSHFULL 1 else s
    let s := if r = 0x1 then s else s.latch (KNL_TST_FAIL t)
    s.complete 4 t
  else s

/-- R328: a token that has been RUNNING or CANCEL_PENDING for RUNMAX ticks: OVR, RUNOVR and one warning. -/
def State.runMax (t : Nat) (s : State) : State :=
  let m := s.get (KNL_D1_RUNMAX t)
  let st := s.get (KNL_TST_STATE t)
  let ran := (s.rd KNL_TICK + 2 ^ 32 - tabGet 0 s.knl.takenAt t) % 2 ^ 32
  if (st = 4 ∨ st = 5) ∧ m ≠ 0 ∧ m ≤ ran ∧ t ∉ s.knl.warned then
    (((s.latch (KNL_TST_OVR t)).satBump KNL_STAT_RUNOVR 1).warn 0x14 (KNL_TST_OVR t)).onKnl
      fun k => { k with warned := t :: k.warned }
  else s

/-- SUBMIT (R317). -/
def execSubmit (dt : Nat) (c : Fin 4) (t : Fin 512) (s : State) : Host.Outcome State Fault Refusal :=
  .next ((s.elapse dt).submit c t)

/-- CANCEL (R317). -/
def execCancel (dt : Nat) (c : Fin 4) (t : Fin 512) (s : State) : Host.Outcome State Fault Refusal :=
  .next ((s.elapse dt).cancel c t)

/-- TAKE (R324). -/
def execTake (dt : Nat) (c : Fin 4) (s : State) : Host.Outcome State Fault Refusal := .next ((s.elapse dt).take c)

/-- KNL_DONE (R326). -/
def execKnlDone (dt : Nat) (c : Fin 4) (t : Fin 512) (s : State) : Host.Outcome State Fault Refusal :=
  .next ((s.elapse dt).doneToken c t)

/-- KNL_TICK (R318): the tick falls where the nanosecond count is a multiple of 1 000. -/
def execKnlTick (dt : Nat) (s : State) : Host.Outcome State Fault Refusal :=
  .next (if (s.elapse dt).atBoundary 1000 then (s.elapse dt).tick else s.elapse dt)

/-- KENNEL_EVENT (R329); a reserved source has no event. -/
def execKennelEvent (dt : Nat) (e : Fin 256) (s : State) : Host.Outcome State Fault Refusal :=
  .next (if 0x58 < e.val then s.elapse dt else (s.elapse dt).event e)

/-- SLOT_FILL (R321, R322, R331). -/
def execSlotFill (dt : Nat) (s : State) : Host.Outcome State Fault Refusal := .next (s.elapse dt).fillSlots

/-- SLOT_MOVE (R323). -/
def execSlotMove (dt : Nat) (s : State) : Host.Outcome State Fault Refusal := .next (s.elapse dt).moveSlots

/-- PUSH (R310). -/
def execPush (dt : Nat) (s : State) : Host.Outcome State Fault Refusal := .next (s.elapse dt).pushExec

/-- RUNMAX_REACHED (R328). -/
def execRunmaxReached (dt : Nat) (t : Fin 512) (s : State) : Host.Outcome State Fault Refusal :=
  .next ((s.elapse dt).runMax t)

end Sys2Proof.Machine
end

