-- ==== Sys2Proof/Machine/Bus.lean ====
section
/-! DEFINITION. The device address space (R5 to R14): reads with their captures, writes with the access rules and the
rules of each block, and the COPY executor (R310). -/

namespace Sys2Proof.Machine

/-- The index of the register word at `a` in an array of `n` words at `base`, `stride` apart. -/
def indexAt (base stride n a : Nat) : Option Nat :=
  if base ≤ a && (a - base) % stride == 0 && (a - base) / stride < n then some ((a - base) / stride) else none

/-- The axis whose context register word lies at `a`, for the word of axis 0 at `base` (R204). -/
def ctxAt (base a : Nat) : Option Nat :=
  (List.range 32).find? fun x => a == base + 0x100000 * (x / 4) + 0x100 * (x % 4)

/-! ### Reads -/

/-- R204, R254: a word of a window of engine `k`, at offset `o` of its block: program, data memory, Darner memory. -/
def State.engineWindow (s : State) (k o : Nat) : Option Nat :=
  if 0x20000 ≤ o && o < 0x28000 then
    some (tabGet 0 s.eng.prog ((2 * k + (o - 0x20000) / 0x4000) * 4096 + o % 0x4000 / 4)).toNat
  else if 0x40000 ≤ o && o < 0x44000 then
    let c := s.cx (4 * k + (o - 0x40000) / 0x1000)
    some ((c.word (o % 0x1000 / 2)).toNat + 65536 * (c.word (o % 0x1000 / 2 + 1)).toNat)
  else if 0x60000 ≤ o && o < 0x64000 then
    let a := 4 * k + (o - 0x60000) / 0x1000
    let b := o % 0x1000 / 4
    some (if b < s.dBins a then unsigned 32 (tabGet 0 (s.darn a).mem b) else 0)
  else none

/-- A word of a list of byte records of `n` bytes each, at offset `o`; a place that holds none reads 0 (log 52). -/
def recordWord (n o : Nat) (f : Nat → List Byte) : Nat := leAt (f (o / n)) (o % n) 4

/-- The read-only windows (R204, R254, R355, R477, R495): the word at `a`, if one lies there. -/
def State.windowWord (s : State) (a : Nat) : Option Nat :=
  let o := a % 0x1000000
  match a / 0x1000000 with
  | 0x13 => if o / 0x100000 < 8 then s.engineWindow (o / 0x100000) (o % 0x100000) else none
  | 0x1A =>
    if o < 0x800000 then some (ofLe ((List.range 4).map fun i => memByte s.acq.sram (o + i))) else none
  | 0x1E =>
    if 0x10000 ≤ o && o < 0x30000 then
      some (recordWord 0x20 (o - 0x10000) fun e => (s.saf.log[e]?).getD [])
    else none
  | 0x1F =>
    if 0x8000 ≤ o && o < 0x10000 then
      some (recordWord 0x20 (o - 0x8000) fun e =>
        match s.log.ring.find? fun r => r.seq % 1024 == e with
        | some r => r.bytes
        | none => [])
    else if 0x10000 ≤ o && o < 0x10000 + 0x28 * 64 then
      some (recordWord 0x28 (o - 0x10000) fun j => tabGet [] s.log.slots j)
    else none
  | _ => none

/-- R13: does a register or a window lie at the word address `a`? -/
def State.mapped (s : State) (a : Nat) : Bool := (regDesc a).isSome || (s.windowWord a).isSome

/-- R282: CSF_VAL of channel `c` shows the values of the last edge. When the clock of the channel has had an edge since a command told its
stream, they are open: they are free values (log 94). -/
def State.lastEdge (c : Nat) (s : State) : State :=
  match s.sddPeriod c with
  | some t =>
    if t != 0 && s.clk.running && decide (tabGet 0 s.csf.told c + s.clk.ns % t < s.clk.elapsed) then
      (s.wr (CSF_VAL c) (s.free (2 ^ 32))).drew 1
    else s
  | none => s

/-- Registers that follow other state are brought up to the present instant before a read. -/
def State.upToDate (a : Nat) (s : State) : State :=
  if a = TIM_NOWNS then s.wr TIM_NOWNS s.clk.ns
  else if a = TIM_T32 then s.wr TIM_T32 s.t32
  else if a = RNG_BUFA ∨ a = RNG_BUFB then s.showBufs
  else if 0x1D000010 ≤ a ∧ a < 0x1D000028 then
    if a < 0x1D000020 then (List.range 64).foldl (fun s c => s.dioValidity c) s
    else (List.range 64).foldl (fun s c => s.setBit64 DIO_OUT c (s.outBit c)) s
  else if 0x14000100 ≤ a ∧ a < 0x14000280 then s.lastEdge ((a - 0x14000100) / 4)
  else
    match indexAt 0x1D000104 0x10 8 a with
    | some g => (groupChans g).foldl (fun s c => s.put (DIO_GST_ALIVE g) (setBit (s.get (DIO_GST_ALIVE g)) (c % 8) (s.dioRuns && s.dioAlive c))) s
    | none =>
    match indexAt 0x16004008 0x10 96 a, indexAt 0x1D001004 0x10 64 a, indexAt 0x1E000400 4 8 a with
    | some n, _, _ => s.wr a (s.gateNow (n / 3) (n % 3))
    | _, some c, _ =>
      (((s.dioValidity c).mark (DIO_CST_NOPERM c) (s.outMode c && !s.bit64 LSH_DOUT_E c)).mark (DIO_CST_OWNED c)
        (s.trackOf c).isSome).mark (DIO_CST_HOLDEFF c) (s.holdEff c)
    | _, _, some _ => s.showOutputs
    | _, _, _ => s

/-- R5, R8: what a read of the register word at `a` returns: WO bits read 0. R403: so do the registers of a member that is
not in RINGMAP. -/
def State.shown (s : State) (a : Nat) : Nat :=
  match regDesc a with
  | none => (s.windowWord a).getD 0
  | some d =>
    if 0x1B001000 ≤ a && a < 0x1B003000 && (s.mapEntry ((a - 0x1B001000) / 0x20)).isNone then 0
    else s.rd a &&& (0xFFFFFFFF ^^^ d.wo)

/-- R10, R316, R347, R357, R401: the words that a read of `a` captures. -/
def capturedBy (a : Nat) : List Nat :=
  if a = KNL_CNTA then [KNL_CNTB]
  else if a = ACQ_POOLA then [ACQ_POOLB]
  else if a = RNG_BUFA then [RNG_BUFB]
  else
    match indexAt 0x1800100C 0x40 64 a with
    | some q => [QUE_PUSHC q, QUE_POPC q]
    | none =>
      match regDesc a with
      | some d => if d.part = .low then [a + 4] else []
      | none => []

/-- R10: the pending shadow of reader `r` for the word at `a`. -/
def State.shadowOf (s : State) (r a : Nat) : Option Word :=
  ((tabGet [] s.bus.shadow r).find? fun x => x.addr == a).map (·.value)

/-- Record what a read returned. -/
def State.returned (v : Nat) (s : State) : State := s.onBus fun b => { b with lastRead := v }

/-- R9 to R13: a read of the aligned register word at `a`, mapped, by `who`. -/
def State.readMapped (who : Accessor) (a : Nat) (s : State) : State :=
  let r := accId who
  match s.shadowOf r a with
  | some v =>
    s.onBus fun b =>
      { b with lastRead := v.toNat, shadow := tabMod [] b.shadow r fun l => l.filter fun x => x.addr != a }
  | none =>
    let s := s.upToDate a
    let s := s.returned (s.shown a)
    match capturedBy a with
    | [] => s
    | l => s.onBus fun b => { b with shadow := tabSet b.shadow r (l.map fun x => ⟨x, BitVec.ofNat 32 (s.shown x)⟩) }

/-- R405: a read of TIM_NOWNS by `who`. -/
def State.readNowns (who : Accessor) (s : State) : State :=
  let s := (s.upToDate TIM_NOWNS).returned s.clk.ns
  s.onBus fun b => { b with nows := tabSet b.nows (accId who) s.clk.sec }

/-- R12, R9, R13: a read of `size` bytes at `a` by `who`. A pop of a queue (R341) and a take of a token (R324, R334) are reads
with an effect. -/
def State.readAt (who : Accessor) (a size : Nat) (s : State) : State :=
  if inBulk a && a + size ≤ 2 ^ 32 then s.returned (s.bulkLe a size)
  else if size ≠ 4 ∨ a % 4 ≠ 0 then (s.accessError who 2 a 0).returned 0
  else if !s.mapped a then (s.accessError who 1 a 0).returned 0
  else if a = TIM_NOWNS then s.readNowns who
  else if a = TIM_NOWS then s.returned (tabGet 0 s.bus.nows (accId who) % 2 ^ 32)
  else if a = TIM_NOWS + 4 then s.returned (tabGet 0 s.bus.nows (accId who) / 2 ^ 32)
  else
    match indexAt 0x18001020 0x40 64 a, indexAt 0x18001024 0x40 64 a, indexAt (KNL_TAKE 0) 0x20 4 a with
    | some q, _, _ => s.pop who q
    | _, some _, _ => if (s.shadowOf (accId who) a).isSome then s.readMapped who a else s.returned 0
    | _, _, some c => if who = .core (Fin.ofNat 4 c) then s.take c else s.returned 0
    | _, _, _ => s.readMapped who a

/-! ### Writes -/

/-- R5, R78: the LK bits of the word `d` at `a` that `who` may write: the loader's, in the LSH block only until the lock. -/
def State.loadable (s : State) (who : Accessor) (d : RegDesc) (a : Nat) : Nat :=
  if who = .loader && !(a / 0x1000000 == 0x11 && s.flag LSH_STAT_LOCKED) then d.lk else 0

/-- R5, R7: a write of `v` to the word `d` at `a` takes effect as its access codes state; a W1C bit that the hardware sets at this instant
stays set. -/
def State.writeCodes (who : Accessor) (d : RegDesc) (a v : Nat) (s : State) : State :=
  let m := d.rw ||| s.loadable who d a
  let w := s.rd a &&& (0xFFFFFFFF ^^^ m) ||| v &&& m
  s.wr a (w &&& (0xFFFFFFFF ^^^ (v &&& d.w1c &&& (0xFFFFFFFF ^^^ s.justSet a))))

/-- A write that the block refuses under its own rule. -/
def State.refuse (who : Accessor) (a v : Nat) (s : State) : State := s.accessError who 4 a v

/-- R10: the high half of a 64-bit write: the one that the writer has written and holds, or `now`. -/
def State.heldHigh (s : State) (who : Accessor) (a now : Nat) : Nat :=
  match (tabGet [] s.bus.held (accId who)).find? fun x => x.addr == a + 4 with
  | some x => x.value.toNat
  | none => now

/-- R10: the held high word of `who` for the register at `a` is used up. -/
def State.dropHeld (who : Accessor) (a : Nat) (s : State) : State :=
  s.onBus fun b => { b with held := tabMod [] b.held (accId who) fun l => l.filter fun x => x.addr != a + 4 }

/-- R10: hold the high word of the register at `a` for `who`. -/
def State.hold (who : Accessor) (a v : Nat) (s : State) : State :=
  (s.dropHeld who a).onBus fun b =>
    { b with held := tabMod [] b.held (accId who) fun l => l ++ [⟨a + 4, BitVec.ofNat 32 v⟩] }

/-- R115, R127, R155 to R160: a write in the PRF block. -/
def State.writePrf (who : Accessor) (a v : Nat) (s : State) : Option State :=
  if a = PRF_TCMT then some (s.commitRequest (fin256 v) (bits v 31 16))
  else
    match indexAt (PRF_AXCTL 0) 0x10 256 a, indexAt (PRF_GRPAX 0) 0x40 16 a, indexAt (PRF_GRPCFG 0) 0x40 16 a,
      indexAt (PRF_GRPOVR 0) 0x40 16 a with
    | some n, _, _, _ => some (s.axisRequests n (bit v 0) (bit v 1) (bit v 2))
    | _, some g, _, _ => some (s.writeGroupAxes who g v)
    | _, _, some g, _ => some (s.writeGroupCfg who g v)
    | _, _, _, some g => some (s.writeOverride g v)
    | _, _, _, _ => none

/-- R242, R243: a write of ENG_DCTL of axis `x`. -/
def State.writeDctl (x v : Nat) (s : State) : State :=
  let s := s.mark (ENG_DCTL_FREEZE x) (bit v 0)
  if bit v 1 then s.onDarn x fun d => { d with clear := true } else s

/-- R273: a write of FBK_AREQ of port `p`; ignored while DONE is 0 after an earlier request. -/
def State.writeAreq (who : Accessor) (p a v : Nat) (s : State) : State :=
  if (s.prt p).areq.isSome then s.refuse who a v
  else (s.mark (FBK_ARSP_DONE p) false).onPort p fun q => { q with areq := some (bits v 31 28, bits v 23 16, bits v 15 0) }

/-- R273, R281: a write in the FBK block: an acyclic request, or a register of an owned probe. -/
def State.writeFbk (who : Accessor) (a v : Nat) (s : State) : Option State :=
  match indexAt (FBK_AREQ 0) 0x40 34 a with
  | some p => some (s.writeAreq who p a v)
  | none =>
    if 0x15001000 ≤ a && s.flag (FBK_PRCFG_OWN ((a - 0x15001000) / 0x40)) then some (s.refuse who a v) else none

/-- R317: a write by `who` to a register of core `c` that acts as `f`; from any other source it has no effect. -/
def State.coreWrite (who : Accessor) (c a v : Nat) (f : State → State) (s : State) : State :=
  if who = .core (Fin.ofNat 4 c) then f s else s.refuse who a v

/-- R312, R317, R325: a write in the KNL block. -/
def State.writeKnl (who : Accessor) (a v : Nat) (s : State) : Option State :=
  match indexAt (KNL_SUBMIT 0) 0x20 4 a, indexAt (KNL_CANCEL 0) 0x20 4 a, indexAt (KNL_DONE 0) 0x20 4 a with
  | some c, _, _ => some (s.coreWrite who c a v (State.submit c (v % 512)))
  | _, some c, _ => some (s.coreWrite who c a v (State.cancel c (v % 512)))
  | _, _, some c => some (s.coreWrite who c a v (State.doneToken c (v % 512)))
  | _, _, _ =>
    if 0x17010000 ≤ a && a < 0x17014000 && s.get (KNL_TST_STATE ((a - 0x17010000) / 0x20)) != 0 then some (s.refuse who a v) else none

/-- R340: a write of QUE_PGO by core `c`. -/
def State.writePgo (c v : Nat) (s : State) : State :=
  if bit v 30 then s.cancelPush c
  else if bit v 31 then s.corePushWait c (v % 64) (bits v 11 8)
  else s.corePushTry c (v % 64) (bits v 11 8)

/-- R340: a staged entry of core `c`. -/
def State.stageEntry (who : Accessor) (c i a v : Nat) (s : State) : State :=
  if who = .core (Fin.ofNat 4 c) && !s.flag (QUE_PRES_BUSY c) then
    s.onQue fun q => { q with stage := tabSet q.stage (16 * c + i) (BitVec.ofNat 64 v) }
  else s.refuse who a v

/-- R348: is HIGH with LOW a valid pair of marks of queue `q`? -/
def State.marksOk (s : State) (q v : Nat) : Bool :=
  bits v 31 16 == 0 || (bits v 15 0 < bits v 31 16 && bits v 31 16 ≤ s.qCap q)

/-- R348, R7: a write of QUE_WEV: UP and DN are cleared with their counts, but for a bit that a crossing sets at this instant. -/
def State.writeWev (q v : Nat) (s : State) : State :=
  let fresh := s.justSet (QUE_WEV q)
  let s := if bit v 31 && !bit fresh 31 then (s.mark (QUE_WEV_UP q) false).put (QUE_WEV_UPCNT q) 0 else s
  if bit v 30 && !bit fresh 30 then (s.mark (QUE_WEV_DN q) false).put (QUE_WEV_DNCNT q) 0 else s

/-- R340, R348, R350: a write in the QUE block. -/
def State.writeQue (who : Accessor) (a v : Nat) (s : State) : Option State :=
  if 0x18000100 ≤ a && a < 0x18000500 then
    let c := (a - 0x18000100) / 0x100
    let o := a % 0x100
    if o < 0x80 then some (s.stageEntry who c (o / 8) a v)
    else if who = .core (Fin.ofNat 4 c) then some (s.writePgo c v)
    else some (s.refuse who a v)
  else
    match indexAt (QUE_WMK 0) 0x40 64 a, indexAt (QUE_WEV 0) 0x40 64 a, indexAt (QUE_FLUSH 0) 0x40 64 a with
    | some q, _, _ => some (if s.marksOk q v then s.wr a v else s.refuse who a v)
    | _, some q, _ => some (s.writeWev q v)
    | _, _, some q =>
      if !bit v 0 then some s
      else
        match who with
        | .core c => some (s.coreFlush c q)
        | _ => some (s.refuse who a v)
    | _, _, _ => none

/-- R361, R363, R368: a write of ACQ_GCTL of group `g`. -/
def State.writeGctl (g v : Nat) (s : State) : State :=
  let s := if bit v 0 then s.armRequest g else s
  let s := if bit v 2 && s.get (ACQ_GST_STATE g) != 0 then s.onAcqGroup g fun x => { x with force := true } else s
  if bit v 1 then s.disarmGroup g 3 else s

/-- R360, R361, R373: a write in the ACQ block. -/
def State.writeAcq (who : Accessor) (a v : Nat) (s : State) : Option State :=
  if a = ACQ_REL then some (s.releaseRecord who (v % 128))
  else
    match indexAt (ACQ_GCTL 0) 0x20 8 a with
    | some g => some (s.writeGctl g v)
    | none =>
      let busy := fun g : Nat => s.get (ACQ_GST_STATE g) != 0
      if 0x19000100 ≤ a && a < 0x19000200 && busy ((a - 0x19000100) / 0x20) then some (s.refuse who a v)
      else if 0x19001000 ≤ a && a < 0x19002000 then
        let c := (a - 0x19001000) / 0x40
        if s.flag (ACQ_CCFG_EN c) && busy (s.get (ACQ_CCFG_GRP c)) then some (s.refuse who a v) else none
      else none

/-- R395, R396, R400: a write in the RNG block. -/
def State.writeRng (who : Accessor) (a v : Nat) (s : State) : Option State :=
  if a = RNG_CTL then some (if bit v 0 then s.ringWithdraw else s)
  else if a = RNG_SVREL then some (s.svRelease (v % 32))
  else
    match indexAt (RNG_MCTL 0) 0x20 256 a with
    | some m => some (if bit v 0 then s.reparam who m else s)
    | none => none

/-- R433, R436: a write in the DIO block; `v` is the whole value of DIO_OUT, DIO_SET or DIO_CLR. -/
def State.writeDio (d : RegDesc) (who : Accessor) (a v : Nat) (s : State) : Option State :=
  if a = DIO_OUT then some (s.dioOut v)
  else if a = DIO_SET then some (s.dioSet v)
  else if a = DIO_CLR then some (s.dioClr v)
  else
    match indexAt 0x1D001004 0x10 64 a with
    | some c => some ((s.writeCodes who d a v).dioValidity c)
    | none => none

/-- The rules of the blocks whose registers act on a write (R91, R95, R306, R414 and those above); none where the access codes
of the word `d` alone say what a write does. -/
def State.writeBlock (d : RegDesc) (who : Accessor) (a v : Nat) (s : State) : Option State :=
  match a / 0x1000000 with
  | 0x10 => if a = CFG_CHG then some (s.writeChange (v % 16)) else none
  | 0x11 =>
    if (effField a).isSome then some ((s.writeCodes who { d with rw := 0 } a v).leashWrite who a v) else none
  | 0x12 => s.writePrf who a v
  | 0x13 => (ctxAt (ENG_DCTL 0) a).map fun x => s.writeDctl x v
  | 0x15 => s.writeFbk who a v
  | 0x16 => if a = PWM_AUXOFF then some (s.auxTurnOff (v % 256)) else none
  | 0x17 => s.writeKnl who a v
  | 0x18 => s.writeQue who a v
  | 0x19 => s.writeAcq who a v
  | 0x1B => s.writeRng who a v
  | 0x1C => if a = TIM_CTL then some (if bit v 0 then s.timPermit who else s) else none
  | 0x1D => s.writeDio d who a v
  | _ => none

/-- What the high half of the 64-bit register at `a` holds for a write of its low half alone (R10). -/
def State.presentHigh (s : State) (a : Nat) : Nat :=
  if 0x18000100 ≤ a && a < 0x18000500 then
    (tabGet 0 s.que.stage (16 * ((a - 0x18000100) / 0x100) + a % 0x100 / 8)).toNat / 2 ^ 32
  else s.shown (a + 4)

/-- R10: a write of the low half of a 64-bit register takes effect with the held or the present high half. -/
def State.writeLow (d : RegDesc) (who : Accessor) (a v : Nat) (s : State) : State :=
  let h := s.heldHigh who a (s.presentHigh a)
  let s := s.dropHeld who a
  match s.writeBlock d who a (v + 2 ^ 32 * h) with
  | some s => s
  | none => (s.writeCodes who d a v).writeCodes who { d with part := .high } (a + 4) h

/-- R5, R78: does a write of `v` to the word `d` at `a` try to change an LK field that `who` may not load? An effective field's word is
not compared with the locked value (R95, log 67). -/
def State.changesLocked (s : State) (who : Accessor) (d : RegDesc) (a v : Nat) : Bool :=
  (effField a).isNone && (v ^^^ s.rd a) &&& d.lk &&& (0xFFFFFFFF ^^^ s.loadable who d a) != 0

/-- R5 to R14: a write of the aligned register word at `a` by `who`. -/
def State.writeWord (who : Accessor) (a v : Nat) (s : State) : State :=
  if a / 0x1000000 = 0x1E && who != .safety then s.accessError who 3 a v
  else
    match regDesc a with
    | none => if (s.windowWord a).isSome then s.accessError who 3 a v else s.accessError who 1 a v
    | some d =>
      if (d.rw ||| d.w1c ||| d.wo ||| s.loadable who d a) = 0 then s.accessError who 3 a v
      else
        let s := if s.changesLocked who d a v then s.accessError who 3 a v else s
        match d.part with
        | .high => s.hold who (a - 4) v
        | .low => s.writeLow d who a v
        | .word =>
          match s.writeBlock d who a v with
          | some s => s
          | none => s.writeCodes who d a v

/-- R108: does one of the `n` bytes from `a` lie in the committed axis table? -/
def State.committedAt (s : State) (a n : Nat) : Bool :=
  let b := s.rd PRF_TBASE + 0x40000
  decide (a < b + 0x40000) && decide (b < a + n)

/-- R5 to R14, R108: a write of the low `size` bytes of `v` at `a` by `who`. -/
def State.writeAt (who : Accessor) (a v size : Nat) (s : State) : State :=
  if inBulk a && a + size ≤ 2 ^ 32 then
    if s.committedAt a size && who != .loader then s.accessError who 3 a (v % 2 ^ 32)
    else s.bulkStore a (leBytes size v)
  else if size ≠ 4 ∨ a % 4 ≠ 0 then s.accessError who 2 a (v % 2 ^ 32)
  else s.writeWord who a (v % 2 ^ 32)

/-- R483: the registers that the service protocol may write as a whole, both words of a 64-bit one. -/
def svcRegister (a : Nat) : Bool :=
  let at4 := fun base stride n words : Nat =>
    (List.range words).any fun i => (indexAt (base + 4 * i) stride n a).isSome
  [CFG_CHG, PRF_TCMT, ACQ_REL, ACQ_RQ, TIM_CTL, RNG_CTL].contains a
    || (effField a).isSome || (effField (a - 4)).isSome && (a == LSH_DOUT_E + 4 || a == LSH_DHOLD_E + 4
      || (indexAt (LSH_PMIN_E 0 + 4) 0x40 256 a).isSome || (indexAt (LSH_PMAX_E 0 + 4) 0x40 256 a).isSome)
    || at4 (PRF_AXCTL 0) 0x10 256 1 || at4 (PRF_GRPOVR 0) 0x40 16 1 || at4 (PRF_CSWCFG 0) 0x20 64 6
    || (ctxAt (ENG_DCTL 0) a).isSome || at4 (FBK_AREQ 0) 0x40 34 1 || at4 (FBK_PRCFG 0) 0x40 16 6
    || at4 (ACQ_GCFG 0) 0x20 8 5 || at4 (ACQ_CSIG 0) 0x40 64 5 || at4 (ACQ_WDLY 0) 4 4 1 || at4 DIO_OUT 4 6 1
    || at4 (QUE_CFG 0) 0x40 64 1 || at4 (QUE_WMK 0) 0x40 64 1 || at4 (RNG_MCTL 1) 0x20 255 1

/-- R483: the blocks whose W1C bits the service protocol may clear. -/
def svcClears (a : Nat) : Bool :=
  [0x11, 0x12, 0x13, 0x15, 0x18, 0x1D, 0x1F].contains (a / 0x1000000) &&
    match regDesc a with
    | some d => d.w1c != 0
    | none => false

/-- R483: may the service protocol write the word at `a`? -/
def State.svcMay (s : State) (a : Nat) : Bool :=
  if inBulk a then decide (s.rd PRF_TBASE ≤ a) && decide (a + 4 ≤ s.rd PRF_TBASE + 0x40000)
  else svcRegister a || svcClears a

/-- R494: does an access of `who` reach the device address space? The debug port's does while its instructions are available. -/
def State.reaches (s : State) (who : Accessor) : Bool := who != .debug || s.debugOn

/-- R483, R494: a write by `who`: the service protocol writes only what its table names. -/
def State.writeBy (who : Accessor) (a v size : Nat) (s : State) : State :=
  if !s.reaches who then s else if who = .service ∧ !s.svcMay a then s.accessError who 3 a (v % 2 ^ 32) else s.writeAt who a v size

/-! ### The COPY executor (R310) -/

/-- R310: copy `n` words from `src` to `dst` by token `t`. -/
def State.copyWords (t src dst : Nat) : Nat → State → State
  | 0, s => s
  | n + 1, s =>
    let s := s.readAt .copy (src % 2 ^ 32) 4
    let e := s.bus.errs
    let s := s.writeAt .copy (dst % 2 ^ 32) s.bus.lastRead 4
    let s := if s.bus.errs = e then s else s.latch (KNL_TST_FAIL t)
    State.copyWords t (src + 4) (dst + 4) n s

/-- R308, R310: the COPY executor takes its slotted token, copies, and completes. -/
def State.copyExec (s : State) : State :=
  if s.flag (slotV 5) && !s.flag (runV 5) then
    let t := s.get (slotT 5)
    let s := s.takeSlot 5
    (s.copyWords t (s.rd (KNL_DARG0L t)) (s.rd (KNL_DARG1 t)) (s.rd (KNL_DARG2 t) / 4)).complete 5 t
  else s

/-! ### The commands -/

/-- REGISTER_WRITE (R5): of the low `size` bytes of `value`. -/
def execRegisterWrite (dt : Nat) (who : Accessor) (addr : BitVec 32) (value : BitVec 64) (size : Fin 9) (s : State) :
    Host.Outcome State Fault Refusal :=
  .next ((s.elapse dt).writeBy who addr.toNat value.toNat size)

/-- LOW_WORD_READ (R10): any read of the device address space; a low word captures its high word. -/
def execLowWordRead (dt : Nat) (who : Accessor) (addr : BitVec 32) (size : Fin 9) (s : State) : Host.Outcome State Fault Refusal :=
  let s := s.elapse dt
  .next (if s.reaches who then s.readAt who addr.toNat size else s)

/-- HIGH_WORD_WRITE (R10). -/
def execHighWordWrite (dt : Nat) (who : Accessor) (addr : BitVec 32) (value : BitVec 32) (s : State) :
    Host.Outcome State Fault Refusal :=
  .next ((s.elapse dt).writeBy who addr.toNat value.toNat 4)

/-- NOWNS_READ (R405). -/
def execNownsRead (dt : Nat) (who : Accessor) (s : State) : Host.Outcome State Fault Refusal :=
  let s := s.elapse dt
  .next (if s.reaches who then s.readNowns who else s)

/-- COPY (R310). -/
def execCopy (dt : Nat) (s : State) : Host.Outcome State Fault Refusal := .next (s.elapse dt).copyExec

end Sys2Proof.Machine
end

