-- ==== Sys2Proof/Machine/Service.lean ====
section
/-! DEFINITION. The service port's commands (R478 to R487, R491, R492) and the boundary-scan port (R493). -/

namespace Sys2Proof.Machine

/-! ### Requests (R479 to R481) -/

/-- R479: the fields of a request frame. -/
def frameCmd (f : List Byte) : Nat := leAt f 1 1
def frameSeq (f : List Byte) : Nat := leAt f 4 2
def frameBody (f : List Byte) : List Byte := slice f 8 (leAt f 6 2)

/-- R479: a frame that is not discarded: its length, VER and CRC are right. -/
def frameOk (f : List Byte) : Bool :=
  decide (12 ≤ f.length) && f.length == 12 + leAt f 6 2 && leAt f 0 1 == 1 && crc32c (f.take (f.length - 4)) == leAt f (f.length - 4) 4

/-- R76, R80, R81: is there firmware, or the recovery ROM, to answer? -/
def State.svcOn (s : State) : Bool :=
  let st := s.get CFG_STATE_STATE
  st == 8 || st == 9 || st == 0xE

/-- R81: does the recovery subset answer? -/
def State.rom (s : State) : Bool := s.get CFG_STATE_STATE == 0xE

/-- R481: the commands, those marked W, and those of the recovery subset. -/
def svcKnown (cmd : Nat) : Bool := decide (1 ≤ cmd) && decide (cmd ≤ 0xC)
def svcWrites (cmd : Nat) : Bool := cmd == 3 || cmd == 6 || (decide (8 ≤ cmd) && decide (cmd ≤ 0xC))
def svcRecovery (cmd : Nat) : Bool := svcKnown cmd && !(cmd == 3 || cmd == 6 || cmd == 7 || cmd == 0xB)

/-- R481: may the sender of a request write? -/
def State.svcWriter (s : State) (w : SvcFrom) : Bool := w.ring || s.writer w.ip

/-- An answer: STATUS and the body; none while the request is in execution. -/
abbrev Answer := Option (Nat × List Byte)

/-- STATUS `st` with no body. -/
def refusal (st : Nat) (s : State) : Answer × State := (some (st, []), s)

/-! ### INFO, READ and WRITE (R481 to R483) -/

/-- R481: the body of an answer to INFO. BUILD_ID, FWSV and ROLE come from the image in use. -/
def State.infoBody (s : State) : List Byte :=
  let b := s.boot.base.getD {}
  leBytes 4 0x3256 ++ leBytes 4 (leAt b.header 0x14 4) ++ leBytes 4 (s.rd CFG_SEQ) ++ leBytes 4 (s.rd CFG_STATE) ++
    leBytes 4 (s.rd CFG_BOOT) ++ leBytes 4 (s.rd CFG_RCP) ++ leBytes 2 (leAt ((b.one 0x01).getD []) 4 2) ++
    leBytes 1 (s.get RNG_CFG_ROLE) ++ leBytes 1 0

/-- R12: the block that holds the address `a`; ERR, PWR and SVC are three. -/
def blockNo (a : Nat) : Option Nat :=
  if inBulk a then some 0x80
  else if 0x10000000 ≤ a && a < 0x1F000000 then some (a / 0x1000000)
  else if 0x1F000000 ≤ a && a < 0x1F300000 then some (a / 0x100000)
  else none

/-- R482: `n` words from `a` lie within one block. -/
def oneBlock (a n : Nat) : Bool := (blockNo a).isSome && blockNo a == blockNo (a + 4 * n - 1)

/-- R482: the words of a READ, in ascending order. -/
def State.readWords (a : Nat) : Nat → List Byte → State → List Byte × State
  | 0, l, s => (l, s)
  | n + 1, l, s =>
    let s := s.readAt .service a 4
    State.readWords (a + 4) n (l ++ leBytes 4 s.bus.lastRead) s

/-- READ (R482). In NO_IMAGE only the CFG and ERR blocks (R481). -/
def State.svcRead (b : List Byte) (s : State) : Answer × State :=
  let a := leAt b 0 4
  let n := leAt b 4 2
  if b.length ≠ 6 ∨ n = 0 ∨ 256 < n then refusal 2 s
  else if !oneBlock a n || (s.rom && blockNo a != some 0x10 && blockNo a != some 0x1F0) then refusal 3 s
  else
    let r := s.readWords a n []
    (some (0, r.1), r.2)

/-- R483: one word of a WRITE; the answer is true when it was refused. The log takes a report where one is due, before the word and
after it (R489). -/
def State.svcWord (a v : Nat) (s : State) : Bool × State :=
  let s := s.takeReport
  let e := s.bus.errs
  let s := s.writeBy .service a v 4
  (s.bus.errs != e, s.takeReport)

/-- R483: the words of a WRITE, one each 10 ns: DONE, REFUSED, FIRST, with the index of the next word. -/
def State.svcWords (a : Nat) : List Byte → Nat → Nat → Nat → Nat → Nat → State → (Nat × Nat × Nat) × State
  | _, 0, _, d, r, f, s => ((d, r, f), s)
  | l, n + 1, i, d, r, f, s =>
    let w := s.svcWord a (leAt l 0 4)
    let s := w.2.elapse 10
    if w.1 then State.svcWords (a + 4) (l.drop 4) n (i + 1) d (r + 1) (if f = 0xFFFF then i else f) s
    else State.svcWords (a + 4) (l.drop 4) n (i + 1) (d + 1) r f s

/-- WRITE (R483). -/
def State.svcWrite (b : List Byte) (s : State) : Answer × State :=
  let n := leAt b 4 2
  if n = 0 ∨ 256 < n ∨ b.length ≠ 8 + 4 * n then refusal 2 s
  else
    let r := s.svcWords (leAt b 0 4) (b.drop 8) n 0 0 0 0xFFFF
    (some (if r.1.2.1 = 0 then 0 else 9, leBytes 2 r.1.1 ++ leBytes 2 r.1.2.1 ++ leBytes 2 r.1.2.2 ++ leBytes 2 0), r.2)

/-! ### The log (R491, R492) -/

/-- LOGREAD (R481, R491). -/
def State.svcLogRead (b : List Byte) (s : State) : Answer × State :=
  let n := leAt b 4 1
  if b.length ≠ 8 ∨ n = 0 ∨ 40 < n then refusal 2 s
  else
    let l := (s.log.ring.filter fun r => decide (leAt b 0 4 ≤ r.seq)).take n
    (some (0, leBytes 4 (s.rd ERR_OLDEST) ++ leBytes 4 (s.rd ERR_NEXT) ++ leBytes 1 l.length ++ leBytes 3 0 ++
      l.flatMap fun r => r.bytes), s)

/-- R492: the slots that hold something, newest first. -/
def State.persisted (s : State) : List PersistSlot :=
  (List.range 64).filterMap fun j => tabFind s.log.slots ((s.log.nextSlot + 63 - j) % 64)

/-- PERSREAD (R481, R492): valid slots, newest first from FIRST; at most 34, which a frame holds (R479, log 53). -/
def State.svcPersRead (b : List Byte) (s : State) : Answer × State :=
  let first := leAt b 0 1
  let n := leAt b 1 1
  if b.length ≠ 4 ∨ 63 < first ∨ n = 0 ∨ 40 < n then refusal 2 s
  else
    let all := s.persisted
    let ok := all.filter slotOk
    (some (0, leBytes 1 ok.length ++ leBytes 1 (all.length - ok.length) ++ leBytes 2 0 ++ ((ok.drop first).take (min n 34)).flatten), s)

/-! ### MOTION and EVENTS (R484) -/

/-- MOTION (R484): the firmware makes a waiting push from the first core that has none pending (log 54). -/
def State.svcMotion (w : SvcFrom) (seq mseq : Nat) (b : List Byte) (s : State) : Answer × State :=
  let q := leAt b 0 1
  let n := leAt b 1 1
  if n = 0 ∨ 16 < n ∨ b.length ≠ 4 + 8 * n ∨ (q ≠ 0 ∧ (q < 0x10 ∨ 0x1F < q)) then refusal 2 s
  else
    match (below 4 fun c => !s.flag (QUE_PRES_BUSY c)).head? with
    | none => refusal 5 s
    | some c =>
      let s := s.onQue fun x =>
        { x with stage := (List.range n).foldl (fun t i => tabSet t (16 * c + i) (BitVec.ofNat 64 (leAt b (4 + 8 * i) 8))) x.stage }
      let s := s.corePushWait c q n
      if s.flag (QUE_PRES_BUSY c) then
        (none, s.sv fun x => { x with motions := x.motions ++ [{ core := c, who := w, seq := seq, mseq := mseq }] })
      else (some (0, leBytes 4 (s.get (QUE_PRES_RESULT c))), s)

/-- EVENTS (R484). -/
def State.svcEvents (b : List Byte) (s : State) : Answer × State :=
  let n := leAt b 0 1
  if b.length ≠ 4 ∨ n = 0 ∨ 64 < n then refusal 2 s
  else
    let l := s.svc.events.take n
    (some (0, leBytes 1 l.length ++ leBytes 1 0 ++ leBytes 2 s.svc.lost ++ l.flatMap fun e => leBytes 8 e.toNat),
      s.sv fun x => { x with events := x.events.drop n, lost := 0 })

/-! ### Downloads (R485) and RESTART (R487) -/

/-- R485: is a download of another sender open? -/
def State.foreignDownload (s : State) (w : SvcFrom) : Bool :=
  match s.svc.download with
  | some d => d.who != w
  | none => false

/-- R64: does the loader own the flash? -/
def State.loaderBusy (s : State) : Bool := s.get CFG_STATE_STATE == 9

/-- R485: the open download becomes `d`. -/
def State.setDownload (d : Option Download) (s : State) : State :=
  let slot := match d with
    | some x => if 0x10 ≤ x.target then some (x.target - 0x10) else none
    | none => none
  (s.sv fun x => { x with download := d }).onBoot fun b => { b with dlSlot := slot }

/-- DLBEGIN (R485). -/
def State.svcDlBegin (w : SvcFrom) (b : List Byte) (s : State) : Answer × State :=
  let t := leAt b 0 1
  let len := leAt b 4 4
  if b.length ≠ 8 then refusal 2 s
  else if s.loaderBusy || s.foreignDownload w then refusal 5 s
  else
    match s.present t with
    | none => refusal 2 s
    | some (a, n) =>
      if len % 4 ≠ 0 ∨ n < len then refusal 2 s
      else if !s.rom && s.get CFG_BOOT_BANK == t then refusal 6 s
      else (some (0, []), (s.flashErase a n).setDownload (some { who := w, target := t, length := len }))

/-- DLDATA (R485). -/
def State.svcDlData (w : SvcFrom) (b : List Byte) (s : State) : Answer × State :=
  let n := b.length - 4
  if b.length < 8 ∨ 1024 < n ∨ n % 4 ≠ 0 then refusal 2 s
  else if s.loaderBusy || s.foreignDownload w then refusal 5 s
  else
    match s.svc.download with
    | none => refusal 6 s
    | some d =>
      match region d.target with
      | none => refusal 6 s
      | some (a, _) =>
        if leAt b 0 4 ≠ d.got ∨ d.length < d.got + n then refusal 2 s
        else (some (0, []), (s.flashStore (a + d.got) (b.drop 4)).setDownload (some { d with got := d.got + n }))

/-- R485: checks 1 to 5 of R75 on a downloaded image of `len` bytes at `a`, and for a recipe also the MACHINE_CRC check. -/
def State.downloadCause (s : State) (t a len size : Nat) : Nat :=
  let h := s.flashBytes a 0x40
  let kind := if 0x10 ≤ t then 2 else 1
  let c := headerCause h kind (if 0x10 ≤ t then t - 0x10 else 0xFF)
  if c ≠ 0 then c
  else if kind = 2 ∧ imgMachineCrc h ≠ imgMachineCrc (s.boot.base.getD {}).header then 0xD
  else
    let r := readImage kind size h (s.flashBytes a (min (imgLength h) len))
    if r.1 ≠ 0 then r.1
    else if !r.2.typesOk kind then 6
    else if kind = 2 then 0
    else if s.firmwareCause r.2 ≠ 0 then s.firmwareCause r.2
    else if !scrcOk ((r.2.one 0x20).getD []) then 0xA
    else 0

/-- DLEND (R485): a wrong CRC, or a download that is not complete, is answered with STATUS 0x02 and stays open (log 55). -/
def State.svcDlEnd (w : SvcFrom) (b : List Byte) (s : State) : Answer × State :=
  if b.length ≠ 4 then refusal 2 s
  else if s.loaderBusy || s.foreignDownload w then refusal 5 s
  else
    match s.svc.download with
    | none => refusal 6 s
    | some d =>
      match region d.target with
      | none => refusal 6 s
      | some (a, n) =>
        if d.got ≠ d.length ∨ crc32c (s.flashBytes a d.length) ≠ leAt b 0 4 then refusal 2 s
        else (some (0, leBytes 4 (s.downloadCause d.target a d.length n)), s.setDownload none)

/-- R487: is every axis DISABLED or QUARANTINED, or is this NO_IMAGE? -/
def State.mayRestart (s : State) : Bool := s.rom || (List.range 256).all fun n => s.axState n == 0 || s.axState n == 7

/-- R487, R76: the start sequence restarts as a RESET_N pulse does; what the port sent last and the bits of the boundary scan stay. -/
def State.restart (qvsel clksel test : Bool) (s : State) : State :=
  let r := s.resetLow.resetHigh qvsel clksel test
  r.sv fun x => { x with sent := s.svc.sent, answered := s.svc.answered }

/-! ### Execution of a request -/

/-- R485, R487: the commands that end in no more than STATUS. -/
def State.svcRestart (b : List Byte) (s : State) : Answer × State :=
  if b.length ≠ 0 then refusal 2 s else if s.mayRestart then (some (0, []), s) else refusal 6 s

/-- R481: INFO has no body. -/
def State.svcInfo (b : List Byte) (s : State) : Answer × State := if b.length ≠ 0 then refusal 2 s else (some (0, s.infoBody), s)

/-- R481: is the body of a SAFETY request well formed? -/
def safetyBody (b : List Byte) : Bool :=
  decide (1 ≤ leAt b 0 1) && decide (leAt b 0 1 ≤ 3) && decide (8 ≤ leAt b 1 1) && decide (leAt b 1 1 ≤ 64) &&
    b.length == 8 + leAt b 1 1

/-- R473: what the SAFETY request REQ does with its ARG once the password is right. -/
def State.safetyDoes (req arg ip : Nat) (s : State) : Nat × State :=
  match req with
  | 1 => s.accept arg ip
  | 2 => s.withdraw ip
  | _ => s.clearLog arg ip

/-- SAFETY (R486): the request passes unchanged to the safety core, and the answer carries its result (R473). -/
def State.svcSafety (w : SvcFrom) (b : List Byte) (mramOk : Bool) (s : State) : Answer × State :=
  if !safetyBody b then refusal 2 s
  else
    let r := s.safRequest (b.drop 8) mramOk (State.safetyDoes (leAt b 0 1) (leAt b 4 4) w.ip)
    (some (0, leBytes 4 r.1), r.2)

/-- R481 to R487: the request `cmd` of `w`, whose frame has SEQ `seq`, over the supervisory channel with MSEQ `mseq`. Of several STATUS
that would fit, the order is 0x01, 0x07, 0x04, 0x02 and then the others (log 115). -/
def State.serve (w : SvcFrom) (cmd seq mseq : Nat) (b : List Byte) (mramOk : Bool) (s : State) : Answer × State :=
  if !svcKnown cmd || (s.rom && !svcRecovery cmd) then refusal 1 s
  else if w.ring && (cmd == 0xB) then refusal 7 s
  else if svcWrites cmd && !s.svcWriter w then refusal 4 s
  else
    match cmd with
    | 0x1 => s.svcInfo b
    | 0x2 => s.svcRead b
    | 0x3 => s.svcWrite b
    | 0x4 => s.svcLogRead b
    | 0x5 => s.svcPersRead b
    | 0x6 => s.svcMotion w seq mseq b
    | 0x7 => s.svcEvents b
    | 0x8 => s.svcDlBegin w b
    | 0x9 => s.svcDlData w b
    | 0xA => s.svcDlEnd w b
    | 0xB => s.svcSafety w b mramOk
    | _ => s.svcRestart b

/-- R480: a new request of the endpoint `w` is the most recent one. -/
def State.newRequest (w : SvcFrom) (seq : Nat) (s : State) : State :=
  s.sv fun x =>
    let l := (x.ends.filter fun e => e.who != w) ++ [{ who := w, seq := seq }]
    { x with ends := l.drop (l.length - 16) }

/-- R479: FLAGS of a response. -/
def State.respFlags (s : State) (ring : Bool) : Nat := 1 + (if s.rom then 2 else 0) + (if ring then 4 else 0)

/-- R479, R480: a good request frame `f` of the endpoint `w`: repeated, while another one is in execution, or new. -/
def State.request (w : SvcFrom) (f : List Byte) (mramOk : Bool) (s : State) : State :=
  let go := fun s : State =>
    let r := (s.newRequest w (frameSeq f)).serve w (frameCmd f) (frameSeq f) 0 (frameBody f) mramOk
    match r.1 with
    | none => r.2
    | some (st, b) => r.2.svcSend w (svcFrame (frameCmd f) (s.respFlags false) st (frameSeq f) b)
  match s.svc.ends.find? fun e => e.who == w with
  | none => go s
  | some e =>
    if e.seq = frameSeq f then
      match e.resp with
      | some r => s.sv fun x => { x with sent := some r, answered := true, via := s.nextHop w.ip }
      | none => s
    else if e.resp.isNone then s.satBump SVC_STAT_OVR 1
    else go s

/-- R81, R478, R479: a datagram with the payload `f` arrives from `ip` and `port`. The port answers at its own address and UDP port only.
Kennel event 0x53 (R330) when a good frame has come. `mine` says which frames the command is about; another request changes nothing here. -/
def State.datagram (mine : List Byte → Bool) (ip port : Nat) (udp : Udp) (f : List Byte) (mramOk : Bool) (s : State) : State :=
  let s := s.sv fun x => { x with sent := none, answered := false }
  if !s.svcOn || udp.dst.toNat != s.ownIp || udp.port.toNat != s.ownPort then s
  else if udp.frag || !frameOk f then s.satBump SVC_STAT_BAD 1
  else if mine f then (s.event 0x53).request { ip := ip, port := port } f mramOk
  else s

/-- R478: an answered ARP request or ICMP echo. -/
def State.netAnswer (target : Nat) (data : Option (List Byte)) (s : State) : State :=
  if s.svcOn && s.ownIp == target then s.sv fun x => { x with sent := data, answered := true }
  else s.sv fun x => { x with sent := none, answered := false }

/-! ### The boundary-scan port (R493) -/

/-- A free bit pattern of `n` cells: what the boundary cells capture is the package's (log 2). -/
def State.freeBits : Nat → State → List Bool × State
  | 0, s => ([], s)
  | n + 1, s =>
    let r := (s.drew 1).freeBits n
    (decide (s.free 2 = 1) :: r.1, r.2)

/-- R493: the instruction in effect: EXTEST acts as BYPASS outside NO_IMAGE. -/
def State.jtagNow (s : State) (i : JtagInstr) : JtagInstr := if i = .extest && !s.rom then .bypass else i

/-- R493: a scan with instruction `i` that shifts `shift` in: what it captures, and for the boundary register what it loads. -/
def State.scan (i : JtagInstr) (shift : List Bool) (s : State) : State :=
  match s.jtagNow i with
  | .bypass => s.onJtag fun j => { j with instr := i, captured := [false] }
  | .idcode => s.onJtag fun j => { j with instr := i, captured := (List.range 32).map fun k => Config.idcode.getLsbD k }
  | _ =>
    let r := s.freeBits shift.length
    r.2.onJtag fun j => { j with instr := i, captured := r.1, cells := shift }

/-! ### The commands -/

/-- R481: a SAFETY request with REQ `r`. -/
def isSafety (r : Nat) (f : List Byte) : Bool := frameCmd f == 0xB && leAt (frameBody f) 0 1 == r

/-- INFO, and what no other row is about: an unknown CMD, or a SAFETY request with an unknown REQ. -/
def isInfo (f : List Byte) : Bool :=
  frameCmd f == 1 || !svcKnown (frameCmd f) || (frameCmd f == 0xB && !(isSafety 1 f || isSafety 2 f || isSafety 3 f))

/-- INFO (R481), and every frame that is no request of another row. -/
def execInfo (dt : Nat) (ip : BitVec 32) (port : BitVec 16) (udp : Udp) (f : List (BitVec 8)) (s : State) :
    Host.Outcome State Fault Refusal :=
  .next ((s.elapse dt).datagram isInfo ip.toNat port.toNat udp f true)

/-- READ (R482). -/
def execRead (dt : Nat) (ip : BitVec 32) (port : BitVec 16) (udp : Udp) (f : List (BitVec 8)) (s : State) :
    Host.Outcome State Fault Refusal :=
  .next ((s.elapse dt).datagram (frameCmd · == 2) ip.toNat port.toNat udp f true)

/-- WRITE (R483). -/
def execWrite (dt : Nat) (ip : BitVec 32) (port : BitVec 16) (udp : Udp) (f : List (BitVec 8)) (s : State) :
    Host.Outcome State Fault Refusal :=
  .next ((s.elapse dt).datagram (frameCmd · == 3) ip.toNat port.toNat udp f true)

/-- LOGREAD (R491). -/
def execLogread (dt : Nat) (ip : BitVec 32) (port : BitVec 16) (udp : Udp) (f : List (BitVec 8)) (s : State) :
    Host.Outcome State Fault Refusal :=
  .next ((s.elapse dt).datagram (frameCmd · == 4) ip.toNat port.toNat udp f true)

/-- PERSREAD (R492). -/
def execPersread (dt : Nat) (ip : BitVec 32) (port : BitVec 16) (udp : Udp) (f : List (BitVec 8)) (s : State) :
    Host.Outcome State Fault Refusal :=
  .next ((s.elapse dt).datagram (frameCmd · == 5) ip.toNat port.toNat udp f true)

/-- MOTION (R484). -/
def execMotion (dt : Nat) (ip : BitVec 32) (port : BitVec 16) (udp : Udp) (f : List (BitVec 8)) (s : State) :
    Host.Outcome State Fault Refusal :=
  .next ((s.elapse dt).datagram (frameCmd · == 6) ip.toNat port.toNat udp f true)

/-- EVENTS (R484). -/
def execEvents (dt : Nat) (ip : BitVec 32) (port : BitVec 16) (udp : Udp) (f : List (BitVec 8)) (s : State) :
    Host.Outcome State Fault Refusal :=
  .next ((s.elapse dt).datagram (frameCmd · == 7) ip.toNat port.toNat udp f true)

/-- DLBEGIN (R485). -/
def execDlbegin (dt : Nat) (ip : BitVec 32) (port : BitVec 16) (udp : Udp) (f : List (BitVec 8)) (s : State) :
    Host.Outcome State Fault Refusal :=
  .next ((s.elapse dt).datagram (frameCmd · == 8) ip.toNat port.toNat udp f true)

/-- DLDATA (R485). -/
def execDldata (dt : Nat) (ip : BitVec 32) (port : BitVec 16) (udp : Udp) (f : List (BitVec 8)) (s : State) :
    Host.Outcome State Fault Refusal :=
  .next ((s.elapse dt).datagram (frameCmd · == 9) ip.toNat port.toNat udp f true)

/-- DLEND (R485). -/
def execDlend (dt : Nat) (ip : BitVec 32) (port : BitVec 16) (udp : Udp) (f : List (BitVec 8)) (s : State) :
    Host.Outcome State Fault Refusal :=
  .next ((s.elapse dt).datagram (frameCmd · == 0xA) ip.toNat port.toNat udp f true)

/-- ACCEPT (R473, R486): the SAFETY request 0x1; `mramOk` when the write of the safety MRAM succeeds. -/
def execAccept (dt : Nat) (ip : BitVec 32) (port : BitVec 16) (udp : Udp) (f : List (BitVec 8)) (mramOk : Bool) (s : State) :
    Host.Outcome State Fault Refusal :=
  .next ((s.elapse dt).datagram (isSafety 1) ip.toNat port.toNat udp f mramOk)

/-- WITHDRAW (R473, R486): the SAFETY request 0x2. -/
def execWithdraw (dt : Nat) (ip : BitVec 32) (port : BitVec 16) (udp : Udp) (f : List (BitVec 8)) (mramOk : Bool) (s : State) :
    Host.Outcome State Fault Refusal :=
  .next ((s.elapse dt).datagram (isSafety 2) ip.toNat port.toNat udp f mramOk)

/-- CLEARLOG (R473, R474, R486): the SAFETY request 0x3. -/
def execClearlog (dt : Nat) (ip : BitVec 32) (port : BitVec 16) (udp : Udp) (f : List (BitVec 8)) (mramOk : Bool) (s : State) :
    Host.Outcome State Fault Refusal :=
  .next ((s.elapse dt).datagram (isSafety 3) ip.toNat port.toNat udp f mramOk)

/-- RESTART (R487): the straps as sampled at the restart that follows a response with STATUS 0x00. A repeated request does not
restart again (R480). -/
def execRestart (dt : Nat) (ip : BitVec 32) (port : BitVec 16) (udp : Udp) (f : List (BitVec 8)) (qvsel clksel test : Bool)
    (s : State) : Host.Outcome State Fault Refusal :=
  let s := s.elapse dt
  let w : SvcFrom := { ip := ip.toNat, port := port.toNat }
  let r := s.datagram (frameCmd · == 0xC) ip.toNat port.toNat udp f true
  let done := r.svc.ends.any fun e => e.who == w && e.seq == frameSeq f && e.resp == r.svc.sent && e.resp.isSome
  let was := s.svc.ends.any fun e => e.who == w && (e.seq == frameSeq f || e.resp.isNone)
  .next (if done && !was && leAt (r.svc.sent.getD []) 3 1 == 0 then r.restart qvsel clksel test else r)

/-- ARP_REQUEST (R478): for the address `target`. -/
def execArpRequest (dt : Nat) (target : BitVec 32) (s : State) : Host.Outcome State Fault Refusal :=
  .next ((s.elapse dt).netAnswer target.toNat none)

/-- ICMP_ECHO (R478): to the address `target`, with its data; a fragmented one is discarded and counted. -/
def execIcmpEcho (dt : Nat) (target : BitVec 32) (frag : Bool) (data : List (BitVec 8)) (s : State) :
    Host.Outcome State Fault Refusal :=
  let s := s.elapse dt
  .next (if frag then (if s.svcOn then s.satBump SVC_STAT_BAD 1 else s) else s.netAnswer target.toNat (some data))

/-- BYPASS (R493). -/
def execBypass (dt : Nat) (s : State) : Host.Outcome State Fault Refusal := .next ((s.elapse dt).scan .bypass [])

/-- IDCODE (R493). -/
def execIdcode (dt : Nat) (s : State) : Host.Outcome State Fault Refusal := .next ((s.elapse dt).scan .idcode [])

/-- SAMPLE_PRELOAD (R493). -/
def execSamplePreload (dt : Nat) (shift : List Bool) (s : State) : Host.Outcome State Fault Refusal :=
  .next ((s.elapse dt).scan .sample shift)

/-- EXTEST (R493). -/
def execExtest (dt : Nat) (shift : List Bool) (s : State) : Host.Outcome State Fault Refusal :=
  .next ((s.elapse dt).scan .extest shift)

end Sys2Proof.Machine
end

