-- ==== Sys2Proof/Machine/RingSuper.lean ====
section
/-! DEFINITION. The supervisory channel of the ring (R391, R394, R395, R398, R399): requests at a member, replies and retries at the
master. -/

namespace Sys2Proof.Machine

/-! ### A member (R394, R395) -/

/-- R394: the fields of a SUPERVISORY frame. -/
def svDest (d : List Byte) : Nat := leAt d 0x18 1
def svType (d : List Byte) : Nat := leAt d 0x19 1
def svSeq (d : List Byte) : Nat := leAt d 0x1C 2
def svData (d : List Byte) : List Byte := slice d 0x20 (min (leAt d 0x1A 2) 1024)

/-- R395: a reply is complete unless the commit that it waits for is pending. -/
def State.complete? (s : State) (r : SvReply) : Bool :=
  match r.waits with
  | some n => !s.flag (PRF_AXST_PENDCMT n)
  | none => true

/-- R395: the oldest complete reply that waits. -/
def State.replyDue (s : State) : Option SvReply := s.ring.replies.find? fun r => s.complete? r

/-- R394: the frame with the waiting reply in its reply area, when it is addressed to this member. -/
def State.fillReply (s : State) (d : List Byte) : List Byte :=
  match s.replyDue with
  | some r =>
    if svDest d = s.get RNG_CFG_ADDR then
      spliceAt d 0x420 (leBytes 1 (s.get RNG_CFG_ADDR) ++ leBytes 1 r.mtype ++ leBytes 2 r.data.length ++ leBytes 2 r.seq
        ++ leBytes 1 r.stat ++ leBytes 1 0 ++ slice r.data 0 248)
    else d
  | none => d

/-- R394: PCRC: the CRC over the blocks `b` in subaxis order; 0 with none. -/
def blocksCrc (b : Tab (List Byte)) : Nat := if b = [] then 0 else crc32c ((List.range 16).flatMap fun k => tabGet [] b k)

/-- R394: NSUB of the member: one more than its last mapped subaxis (log 56). -/
def State.ownSubs (s : State) : Nat := ((below 16 fun k => (s.subAxis k).isSome).getLast?.map (· + 1)).getD 0

/-- R394: IDENT. -/
def State.svIdent (seq : Nat) (b : List Byte) (s : State) : State :=
  let tp := leAt b 0 4
  let tr := leAt b 4 4
  let s := s.onRing fun r => { r with tp := tp, tr := tr }
  let fl := b2n (s.ring.blocks == []) + 2 * b2n (!Config.supports tp tr)
  s.svReply 1 seq 0 (leBytes 4 (s.rd RNG_IDENT) ++ leBytes 4 (imgMachineCrc (s.boot.base.getD {}).header) ++ leBytes 4 (blocksCrc s.ring.blocks)
    ++ leBytes 1 s.ownSubs ++ leBytes 1 fl ++ leBytes 2 (s.rd RNG_FWD))

/-- R391: the working entry `n` with the parameter block `b`. -/
def State.withBlock (n : Nat) (b : List Byte) (s : State) : State :=
  let w := spliceAt (spliceAt (s.working n) 0x080 (slice b 0 0x80)) 0x200 (slice b 0x80 0x180)
  s.bulkStore (s.workAt n) (putLe w 0x00C 4 (crc32c (slice w 0x010 0x3B0)))

/-- R394, R391: PARAM: a staged block is held; another one is written to the working entry and committed, and its reply waits for the
commit. -/
def State.svParam (seq : Nat) (b : List Byte) (s : State) : State :=
  let k := leAt b 0 1
  let blk := slice b 4 512
  match s.subAxis k with
  | none => s.svReply 2 seq 1 []
  | some n =>
    if b.length ≠ 516 ∨ 1 < leAt b 1 1 then s.svReply 2 seq 1 []
    else if leAt b 1 1 = 1 then
      let st := tabSet s.ring.stage k blk
      let after := st.foldl (fun t (e : Nat × List Byte) => tabSet t e.1 e.2) s.ring.blocks
      (s.onRing fun r => { r with stage := st }).svReply 2 seq 0 (leBytes 4 (blocksCrc after))
    else
      let t := (s.withBlock n blk).commitRequest (fin256 n) (s.get (PRF_AXGEN_CGEN n))
      let r := t.get PRF_TCST_RESULT
      if r = 1 ∨ r = 2 then
        let t := t.onRing fun x => { x with blocks := tabSet x.blocks k blk }
        t.onRing fun x =>
          { x with replies := x.replies ++ [{ mtype := 2, seq := seq, stat := 0, data := leBytes 4 (blocksCrc t.ring.blocks)
                                              waits := if r = 1 then some n else none }] }
      else ((s.put PRF_TCST_ENTRY n).put PRF_TCST_RESULT r).svReply 2 seq 1 []

/-- R394, R481: SERVICE: the request frame is MDATA and the response is RDATA; a response with a body over 236 bytes is answered with
STATUS 0x07, and none of it has happened. -/
def State.svService (seq : Nat) (f : List Byte) (s : State) : State :=
  if !frameOk f then s.satBump SVC_STAT_BAD 1
  else
    let w : SvcFrom := { ip := 0, port := 0, ring := true }
    let answer := fun (st : Nat) (b : List Byte) (s : State) =>
      s.svReply 4 seq 0 (svcFrame (frameCmd f) (s.respFlags true) st (frameSeq f) b)
    let r := s.serve w (frameCmd f) (frameSeq f) seq (frameBody f) true
    match r.1 with
    | none => r.2
    | some (st, b) => if 236 < b.length then answer 7 [] s else answer st b r.2

/-- R394: FAULT: the cause of the mapped axis. -/
def State.svFault (seq : Nat) (b : List Byte) (s : State) : State :=
  match s.subAxis (leAt b 0 1) with
  | some n => s.svReply 5 seq 0 (leBytes 1 (s.get (PRF_AXST_CAUSE n)))
  | none => s.svReply 5 seq 1 []

/-- R394: the request of type `ty` with MSEQ `seq` and MDATA `b` is carried out. -/
def State.svExecute (ty seq : Nat) (b : List Byte) (s : State) : State :=
  match ty with
  | 1 => s.svIdent seq b
  | 2 => s.svParam seq b
  | 3 => (s.onRing fun r => { r with stage := [] }).svReply 3 seq 0 []
  | 4 => s.svService seq b
  | 5 => s.svFault seq b
  | _ => s.svReply ty seq 2 []

/-- R395: has the request `seq` of type `ty` come before? Its reply waits, was the last one given, or its push is in execution. -/
def State.svSeen (s : State) (ty seq : Nat) : Bool :=
  s.ring.replies.any (fun r => r.seq == seq && r.mtype == ty) || (s.svc.motions.any fun m => m.who.ring && m.mseq == seq && ty == 4)

/-- R395: a repeated request is not carried out again; its reply, if it has been given, waits again. -/
def State.svAgain (ty seq : Nat) (s : State) : Option State :=
  if s.svSeen ty seq then some s
  else
    match s.ring.last with
    | some r => if r.seq = seq ∧ r.mtype = ty then some (s.onRing fun x => { x with replies := x.replies ++ [r] }) else none
    | none => none

/-- R395: the reply that the frame `d` has taken no longer waits. -/
def State.replyGiven (d : List Byte) (s : State) : State :=
  match s.replyDue with
  | some r =>
    if svDest d = s.get RNG_CFG_ADDR then s.onRing fun x => { x with replies := x.replies.erase r, last := some r } else s
  | none => s

/-- R487: is this reply the good response to a RESTART? -/
def SvReply.restarts (r : SvReply) : Bool := r.mtype == 4 && frameCmd r.data == 0xC && leAt r.data 3 1 == 0

/-- R487: the start sequence restarts once the response has been sent; the straps keep their levels (log 57). -/
def State.restartIf (r : Option SvReply) (s : State) : State :=
  match r with
  | some x =>
    if x.restarts then
      let t := s.restart s.boot.qvsel s.boot.clksel s.boot.testMode
      t.onRing fun y => { y with tx := s.ring.tx }
    else s
  | none => s

/-- R394, R395: a member takes what the SUPERVISORY frame `d` asks: the request is delivered to the firmware, but for a POLL, and
carried out; a request to all members is not answered. -/
def State.svTake (d : List Byte) (s : State) : State :=
  let due := if svDest d = s.get RNG_CFG_ADDR then s.replyDue else none
  let s := s.replyGiven d
  let all := svDest d == 0xFF
  let ty := svType d
  let s :=
    if !(all || svDest d == s.get RNG_CFG_ADDR) || ty == 0 then s
    else
      match if all then none else s.svAgain ty (svSeq d) with
      | some t => t
      | none =>
        let r := s.svDeliver ty 0 (slice d 0x18 0x408)
        if !r.1 then r.2
        else
          let t := r.2.svExecute ty (svSeq d) (svData d)
          if all then t.onRing fun x => { x with replies := r.2.ring.replies } else t
  s.restartIf due

/-- R394: the SUPERVISORY frame `d` at port `p` of a member; at the master, the firmware's request joins those to be sent (log 58).
`mine` says which MTYPE the command is about. -/
def State.supervisory (mine : Nat → Bool) (p : Nat) (ok : Bool) (d : List Byte) (s : State) : State :=
  if !mine (svType d) then s
  else if s.get RNG_CFG_ROLE = 1 then
    (if s.ringOn then s.svRequest (if svDest d = 0xFF then 0 else svDest d) (svType d) (svData d) else s)
  else s.memberFrame p ok d (fun s => s.fillReply d) (fun s => s.svTake d)

/-! ### The master (R395, R398, R399) -/

/-- R398, R399: an IDENT reply `b` of member `m`. -/
def State.identReply (m : Nat) (b : List Byte) (s : State) : State :=
  let s := s.wrs [(RNG_MID m, leAt b 0 4), (RNG_MBC m, leAt b 4 4), (RNG_MPC m, leAt b 8 4)]
  let st := s.get (RNG_MST_STATE m)
  match s.mapEntry m with
  | none => s
  | some e =>
    let empty := bit (leAt b 13 1) 0
    if st = 0 ∨ 4 ≤ st then s
    else if leAt b 0 4 ≠ e.mident then s.quarantine m 1
    else if leAt b 4 4 ≠ e.mcrc then s.quarantine m 2
    else if leAt b 12 1 < e.nsub then s.quarantine m 5
    else if bit (leAt b 13 1) 1 then s.quarantine m 7
    else if st = 2 then s
    else if empty then s.memberParam m
    else if leAt b 8 4 ≠ s.rd (RNG_MEXP m) then s.quarantine m 3
    else if st = 1 then s.memberRun m
    else s

/-- R118, R398, R399: member `m` has acknowledged the block of its subaxis `k`, or refused it. -/
def State.paramReply (m k stat pcrc : Nat) (s : State) : State :=
  if stat ≠ 0 then s.quarantine m 6
  else
    let left := (s.ringMem m).owed.filter (· != k)
    let s := (s.wr (RNG_MPC m) pcrc).onRingMem m fun x => { x with owed := left, owedAt := if left = [] then none else x.owedAt }
    let s := match s.memberAxis m k with
      | some n => s.onAxis n fun x => { x with acked := true }
      | none => s
    if s.get (RNG_MST_STATE m) = 2 ∧ left = [] then
      (if pcrc = s.rd (RNG_MEXP m) then s.memberRun m else s.quarantine m 3)
    else s

/-- R395, R398: the reply in the frame `d` answers the oldest request `q` of member `m`. -/
def State.answered (m : Nat) (q : SvReq) (d : List Byte) (s : State) : State :=
  let stat := leAt d 0x426 1
  let b := slice d 0x428 248
  match q.mtype with
  | 1 => if stat = 0 then s.identReply m b else s
  | 2 =>
    let k := leAt q.data 0 1
    if leAt q.data 1 1 = 0 then s.paramReply m k stat (leAt b 0 4) else if stat = 0 then s.stageAck m k else s
  | _ => s

/-- R395: a returned SUPERVISORY frame `d`: a reply to the request that its member was sent is delivered; one that cannot be is as if it
had not come. -/
def State.supervisoryReply (d : List Byte) (s : State) : State :=
  let m := leAt d 0x420 1
  match m, (s.ringMem m).reqs with
  | 0, _ => s
  | _, [] => s
  | _, q :: rest =>
    if q.sends = 0 ∨ q.seq ≠ leAt d 0x424 2 ∨ q.mtype ≠ leAt d 0x421 1 then s
    else
      let r := s.svDeliver q.mtype m (slice d 0x420 0x100)
      if !r.1 then r.2 else (r.2.onRingMem m fun x => { x with reqs := rest }).answered m q d

/-- R395: no reply of member `m` has come within 16 cycles: the request is repeated, at most three times. -/
def State.supervisoryRetry (m : Nat) (s : State) : State :=
  match (s.ringMem m).reqs with
  | [] => s
  | q :: rest =>
    if q.sends = 0 ∨ q.again ∨ signed 32 (s.rd RNG_CYCNT + 2 ^ 32 - q.cyc) < 16 then s
    else if q.sends < 4 then s.onRingMem m fun x => { x with reqs := { q with again := true } :: rest }
    else (s.onRingMem m fun x => { x with reqs := rest }).satBump (RNG_MST_SVTO m) 1

/-! ### The commands -/

/-- POLL (R394), and a request of an MTYPE that the spec does not list. -/
def execPoll (dt : Nat) (p : Fin 2) (ok : Bool) (d : List (BitVec 8)) (s : State) : Host.Outcome State Fault Refusal :=
  .next ((s.elapse dt).supervisory (fun t => t == 0 || decide (5 < t)) p ok d)

/-- IDENT (R394). -/
def execIdent (dt : Nat) (p : Fin 2) (ok : Bool) (d : List (BitVec 8)) (s : State) : Host.Outcome State Fault Refusal :=
  .next ((s.elapse dt).supervisory (· == 1) p ok d)

/-- PARAM (R391, R394). -/
def execParam (dt : Nat) (p : Fin 2) (ok : Bool) (d : List (BitVec 8)) (s : State) : Host.Outcome State Fault Refusal :=
  .next ((s.elapse dt).supervisory (· == 2) p ok d)

/-- DISCARD (R394). -/
def execDiscard (dt : Nat) (p : Fin 2) (ok : Bool) (d : List (BitVec 8)) (s : State) : Host.Outcome State Fault Refusal :=
  .next ((s.elapse dt).supervisory (· == 3) p ok d)

/-- SERVICE (R394, R481). -/
def execService (dt : Nat) (p : Fin 2) (ok : Bool) (d : List (BitVec 8)) (s : State) : Host.Outcome State Fault Refusal :=
  .next ((s.elapse dt).supervisory (· == 4) p ok d)

/-- FAULT (R394). -/
def execFault (dt : Nat) (p : Fin 2) (ok : Bool) (d : List (BitVec 8)) (s : State) : Host.Outcome State Fault Refusal :=
  .next ((s.elapse dt).supervisory (· == 5) p ok d)

/-- SUPERVISORY_REPLY (R395): a SUPERVISORY frame comes back to port `p` of the master. -/
def execSupervisoryReply (dt : Nat) (p : Fin 2) (ok : Bool) (d : List (BitVec 8)) (s : State) : Host.Outcome State Fault Refusal :=
  let r := (s.elapse dt).masterFrame p ok d
  .next (if r.1 then r.2.supervisoryReply d else r.2)

/-- SUPERVISORY_RETRY (R395): for member `m`. -/
def execSupervisoryRetry (dt : Nat) (m : Fin 256) (s : State) : Host.Outcome State Fault Refusal :=
  .next ((s.elapse dt).supervisoryRetry m)

end Sys2Proof.Machine
end

