-- ==== Sys2Proof/Machine/Dispatch.lean ====
section
/-! DEFINITION. `exec`: one arm per command, each a direct call of the command's meaning. -/

namespace Sys2Proof.Machine

/-- The effect of a command on everything but the queue of waiting commands. -/
def exec (i : Instr) (s : State) : Host.Outcome State Fault Refusal :=
  match i with
  | .registerWrite dt who addr value size => Sys2Proof.Machine.execRegisterWrite dt who addr value size s
  | .lowWordRead dt who addr size => Sys2Proof.Machine.execLowWordRead dt who addr size s
  | .highWordWrite dt who addr value => Sys2Proof.Machine.execHighWordWrite dt who addr value s
  | .nownsRead dt who => Sys2Proof.Machine.execNownsRead dt who s
  | .supplyFault dt vin vio regs => Sys2Proof.Machine.execSupplyFault dt vin vio regs s
  | .supervisorRelease dt qvsel clksel test => Sys2Proof.Machine.execSupervisorRelease dt qvsel clksel test s
  | .resetNAssert dt => Sys2Proof.Machine.execResetNAssert dt s
  | .resetNRelease dt qvsel clksel test => Sys2Proof.Machine.execResetNRelease dt qvsel clksel test s
  | .clocks dt => Sys2Proof.Machine.execClocks dt s
  | .flashReset dt sfdp density quad mhz cmd13 susp => Sys2Proof.Machine.execFlashReset dt sfdp density quad mhz cmd13 susp s
  | .select dt to0 to1 => Sys2Proof.Machine.execSelect dt to0 to1 s
  | .load dt timeout => Sys2Proof.Machine.execLoad dt timeout s
  | .verify dt => Sys2Proof.Machine.execVerify dt s
  | .apply dt selfOk mramOk => Sys2Proof.Machine.execApply dt selfOk mramOk s
  | .recipe dt to1 to2 => Sys2Proof.Machine.execRecipe dt to1 to2 s
  | .bypassOpen dt => Sys2Proof.Machine.execBypassOpen dt s
  | .changeoverRequest dt slot busy => Sys2Proof.Machine.execChangeoverRequest dt slot busy s
  | .changeoverStaged dt timeout => Sys2Proof.Machine.execChangeoverStaged dt timeout s
  | .stagedSetAck dt m k => Sys2Proof.Machine.execStagedSetAck dt m k s
  | .changeoverAckTimeout dt => Sys2Proof.Machine.execChangeoverAckTimeout dt s
  | .changeoverCommit dt => Sys2Proof.Machine.execChangeoverCommit dt s
  | .handshakeTransfer dt id isl => Sys2Proof.Machine.execHandshakeTransfer dt id isl s
  | .conservationAudit dt => Sys2Proof.Machine.execConservationAudit dt s
  | .uncorrectedEccError dt bulk ix => Sys2Proof.Machine.execUncorrectedEccError dt bulk ix s
  | .supplyOutOfRange dt vin vioa viob regok => Sys2Proof.Machine.execSupplyOutOfRange dt vin vioa viob regok s
  | .caseTempOutOfRange dt t => Sys2Proof.Machine.execCaseTempOutOfRange dt t s
  | .referenceClockFault dt => Sys2Proof.Machine.execReferenceClockFault dt s
  | .powerStateEntry dt ix left => Sys2Proof.Machine.execPowerStateEntry dt ix left s
  | .lateWake dt ix => Sys2Proof.Machine.execLateWake dt ix s
  | .wakeComplete dt ix => Sys2Proof.Machine.execWakeComplete dt ix s
  | .profileBoundary dt late took => Sys2Proof.Machine.execProfileBoundary dt late took s
  | .positionPeriodBoundary dt a => Sys2Proof.Machine.execPositionPeriodBoundary dt a s
  | .velocityPeriodBoundary dt a => Sys2Proof.Machine.execVelocityPeriodBoundary dt a s
  | .currentPeriodBoundary dt a u v w => Sys2Proof.Machine.execCurrentPeriodBoundary dt a u v w s
  | .leashEffectiveWrite dt who addr value => Sys2Proof.Machine.execLeashEffectiveWrite dt who addr value s
  | .loweringTakesEffect dt addr => Sys2Proof.Machine.execLoweringTakesEffect dt addr s
  | .leashEscalation dt a => Sys2Proof.Machine.execLeashEscalation dt a s
  | .overspeedFault dt a => Sys2Proof.Machine.execOverspeedFault dt a s
  | .followingErrorFault dt a => Sys2Proof.Machine.execFollowingErrorFault dt a s
  | .tableCommitRequest dt n expgen => Sys2Proof.Machine.execTableCommitRequest dt n expgen s
  | .tableCommitEffect dt n => Sys2Proof.Machine.execTableCommitEffect dt n s
  | .axisEnable dt n ident rtd first => Sys2Proof.Machine.execAxisEnable dt n ident rtd first s
  | .axisDisable dt n => Sys2Proof.Machine.execAxisDisable dt n s
  | .faultReset dt n => Sys2Proof.Machine.execFaultReset dt n s
  | .brkrelElapsed dt n => Sys2Proof.Machine.execBrkrelElapsed dt n s
  | .brksetElapsed dt n => Sys2Proof.Machine.execBrksetElapsed dt n s
  | .standstillReached dt n => Sys2Proof.Machine.execStandstillReached dt n s
  | .faultStopTimeout dt n => Sys2Proof.Machine.execFaultStopTimeout dt n s
  | .moveAbs dt n mode tag data => Sys2Proof.Machine.execMoveAbs dt n mode tag data s
  | .moveRel dt n mode tag data => Sys2Proof.Machine.execMoveRel dt n mode tag data s
  | .moveVel dt n mode tag data => Sys2Proof.Machine.execMoveVel dt n mode tag data s
  | .stop dt n mode tag data => Sys2Proof.Machine.execStop dt n mode tag data s
  | .setPos dt n mode tag data => Sys2Proof.Machine.execSetPos dt n mode tag data s
  | .refProbe dt n mode tag data => Sys2Proof.Machine.execRefProbe dt n mode tag data s
  | .gear dt n mode tag data => Sys2Proof.Machine.execGear dt n mode tag data s
  | .cam dt n mode tag data => Sys2Proof.Machine.execCam dt n mode tag data s
  | .decouple dt n mode tag data => Sys2Proof.Machine.execDecouple dt n mode tag data s
  | .superimpose dt n mode tag data => Sys2Proof.Machine.execSuperimpose dt n mode tag data s
  | .vmVel dt k mode tag data => Sys2Proof.Machine.execVmVel dt k mode tag data s
  | .vmSet dt k mode tag data => Sys2Proof.Machine.execVmSet dt k mode tag data s
  | .groupAbort dt g mode tag data => Sys2Proof.Machine.execGroupAbort dt g mode tag data s
  | .line dt g mode tag data => Sys2Proof.Machine.execLine dt g mode tag data s
  | .arc dt g mode tag data => Sys2Proof.Machine.execArc dt g mode tag data s
  | .helix dt g mode tag data => Sys2Proof.Machine.execHelix dt g mode tag data s
  | .spline dt g mode tag data => Sys2Proof.Machine.execSpline dt g mode tag data s
  | .dwell dt g mode tag data => Sys2Proof.Machine.execDwell dt g mode tag data s
  | .segDone dt g => Sys2Proof.Machine.execSegDone dt g s
  | .starved dt g => Sys2Proof.Machine.execStarved dt g s
  | .pathHold dt g => Sys2Proof.Machine.execPathHold dt g s
  | .groupConfigWrite dt who g axes v => Sys2Proof.Machine.execGroupConfigWrite dt who g axes v s
  | .overrideWrite dt g v => Sys2Proof.Machine.execOverrideWrite dt g v s
  | .done dt n => Sys2Proof.Machine.execDone dt n s
  | .overshoot dt n => Sys2Proof.Machine.execOvershoot dt n s
  | .locked dt n => Sys2Proof.Machine.execLocked dt n s
  | .mposCrossing dt n => Sys2Proof.Machine.execMposCrossing dt n s
  | .camEnd dt n => Sys2Proof.Machine.execCamEnd dt n s
  | .camSwitchEdge dt t => Sys2Proof.Machine.execCamSwitchEdge dt t s
  | .slotInstance dt j late => Sys2Proof.Machine.execSlotInstance dt j late s
  | .enginePllLoss dt k lost => Sys2Proof.Machine.execEnginePllLoss dt k lost s
  | .engNop x => Sys2Proof.Machine.execEngNop x s
  | .engEnd x => Sys2Proof.Machine.execEngEnd x s
  | .engRep x count len => Sys2Proof.Machine.execEngRep x count len s
  | .engClrf x mask => Sys2Proof.Machine.execEngClrf x mask s
  | .engLdi x d imm => Sys2Proof.Machine.execEngLdi x d imm s
  | .engLdp x p imm => Sys2Proof.Machine.execEngLdp x p imm s
  | .engLd x d p md => Sys2Proof.Machine.execEngLd x d p md s
  | .engSt x d p md => Sys2Proof.Machine.execEngSt x d p md s
  | .engLdm x m p md => Sys2Proof.Machine.execEngLdm x m p md s
  | .engLdw x a p md => Sys2Proof.Machine.execEngLdw x a p md s
  | .engStw x a p md => Sys2Proof.Machine.execEngStw x a p md s
  | .engLld x l p md => Sys2Proof.Machine.execEngLld x l p md s
  | .engLst x l p md => Sys2Proof.Machine.execEngLst x l p md s
  | .engSta x a p md sc => Sys2Proof.Machine.execEngSta x a p md sc s
  | .engMov x d y => Sys2Proof.Machine.execEngMov x d y s
  | .engMovd x d a sc => Sys2Proof.Machine.execEngMovd x d a sc s
  | .engLda x a y => Sys2Proof.Machine.execEngLda x a y s
  | .engAdda x a b => Sys2Proof.Machine.execEngAdda x a b s
  | .engSuba x a b => Sys2Proof.Machine.execEngSuba x a b s
  | .engAddd x a y => Sys2Proof.Machine.execEngAddd x a y s
  | .engSubd x a y => Sys2Proof.Machine.execEngSubd x a y s
  | .engAddk x a sh k => Sys2Proof.Machine.execEngAddk x a sh k s
  | .engNega x a => Sys2Proof.Machine.execEngNega x a s
  | .engAbsa x a => Sys2Proof.Machine.execEngAbsa x a s
  | .engAsh x a sh => Sys2Proof.Machine.execEngAsh x a sh s
  | .engNorm x a d => Sys2Proof.Machine.execEngNorm x a d s
  | .engExp x d a => Sys2Proof.Machine.execEngExp x d a s
  | .engSata x a => Sys2Proof.Machine.execEngSata x a s
  | .engTsta x a => Sys2Proof.Machine.execEngTsta x a s
  | .engClra x a => Sys2Proof.Machine.execEngClra x a s
  | .engMac x a b y z sg zb => Sys2Proof.Machine.execEngMac x a b y z sg zb s
  | .engDmac x a b y z u v sg1 sg2 => Sys2Proof.Machine.execEngDmac x a b y z u v sg1 sg2 s
  | .engMacm x a b y p md sg zb => Sys2Proof.Machine.execEngMacm x a b y p md sg zb s
  | .engDmacm x a b p md q mq sg zb => Sys2Proof.Machine.execEngDmacm x a b p md q mq sg zb s
  | .engSeld x d cc y z => Sys2Proof.Machine.execEngSeld x d cc y z s
  | .engSela x a cc b e => Sys2Proof.Machine.execEngSela x a cc b e s
  | .engSell x l cc m n => Sys2Proof.Machine.execEngSell x l cc m n s
  | .engMin x d y z => Sys2Proof.Machine.execEngMin x d y z s
  | .engMax x d y z => Sys2Proof.Machine.execEngMax x d y z s
  | .engNegd x d y => Sys2Proof.Machine.execEngNegd x d y s
  | .engCmp x y z => Sys2Proof.Machine.execEngCmp x y z s
  | .engLin x l port => Sys2Proof.Machine.execEngLin x l port s
  | .engLadd x l m n => Sys2Proof.Machine.execEngLadd x l m n s
  | .engLsub x l m n => Sys2Proof.Machine.execEngLsub x l m n s
  | .engLmov x l m => Sys2Proof.Machine.execEngLmov x l m s
  | .engLta x a l sh => Sys2Proof.Machine.execEngLta x a l sh s
  | .engIn x d port => Sys2Proof.Machine.execEngIn x d port s
  | .engOut x port y => Sys2Proof.Machine.execEngOut x port y s
  | .engOuti x y z => Sys2Proof.Machine.execEngOuti x y z s
  | .engOutc x ch y => Sys2Proof.Machine.execEngOutc x ch y s
  | .engOutk x => Sys2Proof.Machine.execEngOutk x s
  | .engSincos x ds dc y => Sys2Proof.Machine.execEngSincos x ds dc y s
  | .engSqrt x d a => Sys2Proof.Machine.execEngSqrt x d a s
  | .engDiv x d y z => Sys2Proof.Machine.execEngDiv x d y z s
  | .writePhaseCommit dt a => Sys2Proof.Machine.execWritePhaseCommit dt a s
  | .watchdogTorqueOff dt a => Sys2Proof.Machine.execWatchdogTorqueOff dt a s
  | .pwmPeriodBoundary dt a => Sys2Proof.Machine.execPwmPeriodBoundary dt a s
  | .tripEscalation dt a => Sys2Proof.Machine.execTripEscalation dt a s
  | .bandBoundary dt a u v w => Sys2Proof.Machine.execBandBoundary dt a u v w s
  | .velocityInstanceUpdate dt a => Sys2Proof.Machine.execVelocityInstanceUpdate dt a s
  | .sheepdogArmed dt a => Sys2Proof.Machine.execSheepdogArmed dt a s
  | .darnerClear dt a => Sys2Proof.Machine.execDarnerClear dt a s
  | .darnerClearEffect dt a => Sys2Proof.Machine.execDarnerClearEffect dt a s
  | .fastOvercurrent dt a h l => Sys2Proof.Machine.execFastOvercurrent dt a h l s
  | .stuckChannel dt c l => Sys2Proof.Machine.execStuckChannel dt c l s
  | .sumCheckFail dt a => Sys2Proof.Machine.execSumCheckFail dt a s
  | .quadratureEdge dt p a b => Sys2Proof.Machine.execQuadratureEdge dt p a b s
  | .indexEdge dt p z => Sys2Proof.Machine.execIndexEdge dt p z s
  | .ssiFrame dt p f => Sys2Proof.Machine.execSsiFrame dt p f s
  | .pos dt p f ident rtd => Sys2Proof.Machine.execPos dt p f ident rtd s
  | .post dt p f ident rtd => Sys2Proof.Machine.execPost dt p f ident rtd s
  | .afvenRead dt p rsp => Sys2Proof.Machine.execAfvenRead dt p rsp s
  | .afvenWrite dt p rsp => Sys2Proof.Machine.execAfvenWrite dt p rsp s
  | .afvenClearErr dt p rsp => Sys2Proof.Machine.execAfvenClearErr dt p rsp s
  | .pairOpenOrShort dt p ix gone => Sys2Proof.Machine.execPairOpenOrShort dt p ix gone s
  | .masterEncoderRead dt k => Sys2Proof.Machine.execMasterEncoderRead dt k s
  | .probeEdge dt ix rising => Sys2Proof.Machine.execProbeEdge dt ix rising s
  | .probeLatch dt ix => Sys2Proof.Machine.execProbeLatch dt ix s
  | .probeArm dt who ix => Sys2Proof.Machine.execProbeArm dt who ix s
  | .tripAssert dt a => Sys2Proof.Machine.execTripAssert dt a s
  | .tripDeassert dt a => Sys2Proof.Machine.execTripDeassert dt a s
  | .gateEnableLow dt g x y => Sys2Proof.Machine.execGateEnableLow dt g x y s
  | .pwmClockLoss dt ix lost => Sys2Proof.Machine.execPwmClockLoss dt ix lost s
  | .debugHalt dt t => Sys2Proof.Machine.execDebugHalt dt t s
  | .debugResume dt t => Sys2Proof.Machine.execDebugResume dt t s
  | .auxBoundary dt k l => Sys2Proof.Machine.execAuxBoundary dt k l s
  | .auxCommit dt k => Sys2Proof.Machine.execAuxCommit dt k s
  | .auxoff dt mask => Sys2Proof.Machine.execAuxoff dt mask s
  | .submit dt c t => Sys2Proof.Machine.execSubmit dt c t s
  | .cancel dt c t => Sys2Proof.Machine.execCancel dt c t s
  | .take dt c => Sys2Proof.Machine.execTake dt c s
  | .knlDone dt c t => Sys2Proof.Machine.execKnlDone dt c t s
  | .knlTick dt => Sys2Proof.Machine.execKnlTick dt s
  | .kennelEvent dt e => Sys2Proof.Machine.execKennelEvent dt e s
  | .slotFill dt => Sys2Proof.Machine.execSlotFill dt s
  | .slotMove dt => Sys2Proof.Machine.execSlotMove dt s
  | .push dt => Sys2Proof.Machine.execPush dt s
  | .copy dt => Sys2Proof.Machine.execCopy dt s
  | .runmaxReached dt t => Sys2Proof.Machine.execRunmaxReached dt t s
  | .tryingPush dt c q n => Sys2Proof.Machine.execTryingPush dt c q n s
  | .waitingPush dt c q n => Sys2Proof.Machine.execWaitingPush dt c q n s
  | .waitingPushAccept dt q => Sys2Proof.Machine.execWaitingPushAccept dt q s
  | .pushCancel dt c => Sys2Proof.Machine.execPushCancel dt c s
  | .pop dt who q => Sys2Proof.Machine.execPop dt who q s
  | .heldPopComplete dt q => Sys2Proof.Machine.execHeldPopComplete dt q s
  | .spillWrite dt q => Sys2Proof.Machine.execSpillWrite dt q s
  | .spillRead dt tag ecc => Sys2Proof.Machine.execSpillRead dt tag ecc s
  | .flush dt c q => Sys2Proof.Machine.execFlush dt c q s
  | .arm dt g => Sys2Proof.Machine.execArm dt g s
  | .disarm dt g => Sys2Proof.Machine.execDisarm dt g s
  | .force dt g => Sys2Proof.Machine.execForce dt g s
  | .acqSample dt c vals l => Sys2Proof.Machine.execAcqSample dt c vals l s
  | .rearmEnd dt g => Sys2Proof.Machine.execRearmEnd dt g s
  | .autoTrigger dt g => Sys2Proof.Machine.execAutoTrigger dt g s
  | .recordClose dt c ecc => Sys2Proof.Machine.execRecordClose dt c ecc s
  | .recordRelease dt who r => Sys2Proof.Machine.execRecordRelease dt who r s
  | .wychemasSend dt n => Sys2Proof.Machine.execWychemasSend dt n s
  | .wychemasReceive dt n frame ago => Sys2Proof.Machine.execWychemasReceive dt n frame ago s
  | .syncclkLoss dt => Sys2Proof.Machine.execSyncclkLoss dt s
  | .linkUp dt p => Sys2Proof.Machine.execLinkUp dt p s
  | .linkDown dt p => Sys2Proof.Machine.execLinkDown dt p s
  | .ringCycleSend dt => Sys2Proof.Machine.execRingCycleSend dt s
  | .cycle dt p ok d => Sys2Proof.Machine.execCycle dt p ok d s
  | .cycleReturn dt p ok d => Sys2Proof.Machine.execCycleReturn dt p ok d s
  | .frameMissing dt => Sys2Proof.Machine.execFrameMissing dt s
  | .close dt p ok d => Sys2Proof.Machine.execClose dt p ok d s
  | .closeReturn dt p ok d => Sys2Proof.Machine.execCloseReturn dt p ok d s
  | .discover dt p ok d => Sys2Proof.Machine.execDiscover dt p ok d s
  | .discoverReturn dt p ok d => Sys2Proof.Machine.execDiscoverReturn dt p ok d s
  | .poll dt p ok d => Sys2Proof.Machine.execPoll dt p ok d s
  | .ident dt p ok d => Sys2Proof.Machine.execIdent dt p ok d s
  | .param dt p ok d => Sys2Proof.Machine.execParam dt p ok d s
  | .discard dt p ok d => Sys2Proof.Machine.execDiscard dt p ok d s
  | .service dt p ok d => Sys2Proof.Machine.execService dt p ok d s
  | .fault dt p ok d => Sys2Proof.Machine.execFault dt p ok d s
  | .supervisoryReply dt p ok d => Sys2Proof.Machine.execSupervisoryReply dt p ok d s
  | .supervisoryRetry dt m => Sys2Proof.Machine.execSupervisoryRetry dt m s
  | .svrel dt b => Sys2Proof.Machine.execSvrel dt b s
  | .lossOfRing dt => Sys2Proof.Machine.execLossOfRing dt s
  | .memberLost dt m => Sys2Proof.Machine.execMemberLost dt m s
  | .paramAckTimeout dt m => Sys2Proof.Machine.execParamAckTimeout dt m s
  | .leave dt => Sys2Proof.Machine.execLeave dt s
  | .reparam dt who m => Sys2Proof.Machine.execReparam dt who m s
  | .linkDelayResponse dt p cyc turn q => Sys2Proof.Machine.execLinkDelayResponse dt p cyc turn q s
  | .holdover dt => Sys2Proof.Machine.execHoldover dt s
  | .permit dt who => Sys2Proof.Machine.execPermit dt who s
  | .grandmasterChange dt => Sys2Proof.Machine.execGrandmasterChange dt s
  | .sync dt dom clock port seq two sec ns corr k => Sys2Proof.Machine.execSync dt dom clock port seq two sec ns corr k s
  | .followUp dt dom clock port seq sec ns corr => Sys2Proof.Machine.execFollowUp dt dom clock port seq sec ns corr s
  | .announce dt dom clock port prio1 cls acc var prio2 gm steps utc utcOk k => Sys2Proof.Machine.execAnnounce dt dom clock port prio1 cls acc var prio2 gm steps utc utcOk k s
  | .delayResp dt dom clock port seq mine sec ns corr => Sys2Proof.Machine.execDelayResp dt dom clock port seq mine sec ns corr s
  | .pdelayReq dt dom clock port seq => Sys2Proof.Machine.execPdelayReq dt dom clock port seq s
  | .pdelayResp dt dom seq mine two sec ns corr => Sys2Proof.Machine.execPdelayResp dt dom seq mine two sec ns corr s
  | .logicFrame dt c => Sys2Proof.Machine.execLogicFrame dt c s
  | .fieldReport dt c raw limit vlp ig => Sys2Proof.Machine.execFieldReport dt c raw limit vlp ig s
  | .heartbeatTimeout dt c => Sys2Proof.Machine.execHeartbeatTimeout dt c s
  | .couplerSilence dt c => Sys2Proof.Machine.execCouplerSilence dt c s
  | .inputChangeAccepted dt c => Sys2Proof.Machine.execInputChangeAccepted dt c s
  | .dioOut dt v => Sys2Proof.Machine.execDioOut dt v s
  | .dioSet dt v => Sys2Proof.Machine.execDioSet dt v s
  | .dioClr dt v => Sys2Proof.Machine.execDioClr dt v s
  | .readbackMismatch dt c => Sys2Proof.Machine.execReadbackMismatch dt c s
  | .thermalShutdown dt c => Sys2Proof.Machine.execThermalShutdown dt c s
  | .thermalRetry dt c => Sys2Proof.Machine.execThermalRetry dt c s
  | .groupOverload dt g => Sys2Proof.Machine.execGroupOverload dt g s
  | .groupOverloadRetry dt g => Sys2Proof.Machine.execGroupOverloadRetry dt g s
  | .supplyLow dt g => Sys2Proof.Machine.execSupplyLow dt g s
  | .supplyMissing dt g => Sys2Proof.Machine.execSupplyMissing dt g s
  | .supplyOff dt g => Sys2Proof.Machine.execSupplyOff dt g s
  | .supplyOk dt g => Sys2Proof.Machine.execSupplyOk dt g s
  | .safeInputChange dt kerca b ix level => Sys2Proof.Machine.execSafeInputChange dt kerca b ix level s
  | .discrepancyFault dt ix => Sys2Proof.Machine.execDiscrepancyFault dt ix s
  | .srstRelease dt skew => Sys2Proof.Machine.execSrstRelease dt skew s
  | .resetStuck dt => Sys2Proof.Machine.execResetStuck dt s
  | .ss1T1Elapsed dt kerca f => Sys2Proof.Machine.execSs1T1Elapsed dt kerca f s
  | .safetyMeasurement dt => Sys2Proof.Machine.execSafetyMeasurement dt s
  | .safetyEncoderRead dt p f => Sys2Proof.Machine.execSafetyEncoderRead dt p f s
  | .readbackFault dt g b high => Sys2Proof.Machine.execReadbackFault dt g b high s
  | .testdue dt g => Sys2Proof.Machine.execTestdue dt g s
  | .darkTest dt k som stays => Sys2Proof.Machine.execDarkTest dt k som stays s
  | .safetyPduSend dt n => Sys2Proof.Machine.execSafetyPduSend dt n s
  | .safetyPduReceive dt n => Sys2Proof.Machine.execSafetyPduReceive dt n s
  | .connectionWatchdog dt n => Sys2Proof.Machine.execConnectionWatchdog dt n s
  | .safetyHeartbeat dt core kerca => Sys2Proof.Machine.execSafetyHeartbeat dt core kerca s
  | .crossExchange dt => Sys2Proof.Machine.execCrossExchange dt s
  | .accept dt ip port udp f mramOk => Sys2Proof.Machine.execAccept dt ip port udp f mramOk s
  | .withdraw dt ip port udp f mramOk => Sys2Proof.Machine.execWithdraw dt ip port udp f mramOk s
  | .clearlog dt ip port udp f mramOk => Sys2Proof.Machine.execClearlog dt ip port udp f mramOk s
  | .passwordLockoutEnd dt => Sys2Proof.Machine.execPasswordLockoutEnd dt s
  | .info dt ip port udp f => Sys2Proof.Machine.execInfo dt ip port udp f s
  | .read dt ip port udp f => Sys2Proof.Machine.execRead dt ip port udp f s
  | .write dt ip port udp f => Sys2Proof.Machine.execWrite dt ip port udp f s
  | .logread dt ip port udp f => Sys2Proof.Machine.execLogread dt ip port udp f s
  | .persread dt ip port udp f => Sys2Proof.Machine.execPersread dt ip port udp f s
  | .motion dt ip port udp f => Sys2Proof.Machine.execMotion dt ip port udp f s
  | .events dt ip port udp f => Sys2Proof.Machine.execEvents dt ip port udp f s
  | .dlbegin dt ip port udp f => Sys2Proof.Machine.execDlbegin dt ip port udp f s
  | .dldata dt ip port udp f => Sys2Proof.Machine.execDldata dt ip port udp f s
  | .dlend dt ip port udp f => Sys2Proof.Machine.execDlend dt ip port udp f s
  | .restart dt ip port udp f qvsel clksel test => Sys2Proof.Machine.execRestart dt ip port udp f qvsel clksel test s
  | .arpRequest dt target => Sys2Proof.Machine.execArpRequest dt target s
  | .icmpEcho dt target frag data => Sys2Proof.Machine.execIcmpEcho dt target frag data s
  | .logTake dt => Sys2Proof.Machine.execLogTake dt s
  | .persist dt => Sys2Proof.Machine.execPersist dt s
  | .bypass dt => Sys2Proof.Machine.execBypass dt s
  | .idcode dt => Sys2Proof.Machine.execIdcode dt s
  | .samplePreload dt shift => Sys2Proof.Machine.execSamplePreload dt shift s
  | .extest dt shift => Sys2Proof.Machine.execExtest dt shift s
  | .ringCycleBoundary dt => Sys2Proof.Machine.execRingCycleBoundary dt s
  | .foreignFrame dt p etype src => Sys2Proof.Machine.execForeignFrame dt p etype src s
  | .syncclkReturn dt => Sys2Proof.Machine.execSyncclkReturn dt s
  | .srstPress dt => Sys2Proof.Machine.execSrstPress dt s
  | .delayReq dt => Sys2Proof.Machine.execDelayReq dt s
  | .pdelayRespFollowUp dt dom seq mine sec ns corr => Sys2Proof.Machine.execPdelayRespFollowUp dt dom seq mine sec ns corr s
  | .announceReceiptTimeout dt => Sys2Proof.Machine.execAnnounceReceiptTimeout dt s
  | .spillWriteComplete dt tag => Sys2Proof.Machine.execSpillWriteComplete dt tag s
  | .ringClockLoss dt lost => Sys2Proof.Machine.execRingClockLoss dt lost s

end Sys2Proof.Machine
end

