-- ==== Sys2Proof/Safety.lean ====
section
/-! DEFINITION. What counts as a safe state: the invariant that every step keeps. -/

namespace Sys2Proof.Machine

/-- A safe state: bulk memory is in its canonical form and lists nothing outside its 2 GiB (R12); the local clock keeps its
ranges, the nanosecond count 0 to 999 999 999 and the seconds 48 bits (R16), with a fraction below 1 ns; no report buffer
holds more than 4 reports (R489); the log ring holds at most 1 024 records (R491). -/
structure Safe (s : State) : Prop where
  bulk : Memory.wf s.bulk = true
  space : (s.bulk.all fun c => inBulk c.1) = true
  ns : s.clk.ns < 10 ^ 9
  sec : s.clk.sec < 2 ^ 48
  frac : s.clk.frac < 2 ^ 32
  bufs : ∀ i, (tabGet [] s.log.bufs i).length ≤ 4
  ring : s.log.ring.length ≤ 1024

/-- The blocks of register words (R12), each with the upper 8 bits of its addresses; `err` holds the power registers too. -/
inductive Block where
  | cfg
  | lsh
  | prf
  | eng
  | csf
  | fbk
  | pwm
  | knl
  | que
  | acq
  | rng
  | tim
  | dio
  | saf
  | err
  deriving DecidableEq, Repr

/-- The upper 8 bits of the addresses of a block (R12). -/
def Block.num (b : Block) : Nat :=
  match b with
  | .cfg => 0x10
  | .lsh => 0x11
  | .prf => 0x12
  | .eng => 0x13
  | .csf => 0x14
  | .fbk => 0x15
  | .pwm => 0x16
  | .knl => 0x17
  | .que => 0x18
  | .acq => 0x19
  | .rng => 0x1B
  | .tim => 0x1C
  | .dio => 0x1D
  | .saf => 0x1E
  | .err => 0x1F

/-- The parts of the state, but for the waiting commands: the register words of a block, and the other fields. -/
inductive Part where
  | reg (block : Block)
  | fresh
  | clk
  | bulk
  | sets
  | bus
  | log
  | knl
  | que
  | boot
  | pow
  | axes
  | lim
  | prf
  | eng
  | pwm
  | drn
  | ine
  | shp
  | csf
  | ports
  | probes
  | menc
  | acq
  | ring
  | tim
  | dio
  | saf
  | svc
  | jtag
  deriving DecidableEq, Repr

/-- The part `p` is the same in both states. -/
def Part.Same (p : Part) (s t : State) : Prop :=
  match p with
  | .reg b => ∀ a, a / 0x1000000 = b.num → t.rd a = s.rd a
  | .fresh => t.fresh = s.fresh
  | .clk => t.clk = s.clk
  | .bulk => t.bulk = s.bulk
  | .sets => t.sets = s.sets
  | .bus => t.bus = s.bus
  | .log => t.log = s.log
  | .knl => t.knl = s.knl
  | .que => t.que = s.que
  | .boot => t.boot = s.boot
  | .pow => t.pow = s.pow
  | .axes => t.axes = s.axes
  | .lim => t.lim = s.lim
  | .prf => t.prf = s.prf
  | .eng => t.eng = s.eng
  | .pwm => t.pwm = s.pwm
  | .drn => t.drn = s.drn
  | .ine => t.ine = s.ine
  | .shp => t.shp = s.shp
  | .csf => t.csf = s.csf
  | .ports => t.ports = s.ports
  | .probes => t.probes = s.probes
  | .menc => t.menc = s.menc
  | .acq => t.acq = s.acq
  | .ring => t.ring = s.ring
  | .tim => t.tim = s.tim
  | .dio => t.dio = s.dio
  | .saf => t.saf = s.saf
  | .svc => t.svc = s.svc
  | .jtag => t.jtag = s.jtag

/-- From `s` to `t` nothing changes but the parts `m` and the register words at the addresses `l`; the queue stays too. -/
def OnlyChanges (m : List Part) (l : List Nat) (s t : State) : Prop :=
  t.pending = s.pending ∧ ∀ p, p ∉ m →
    match p with
    | .reg b => ∀ a, a / 0x1000000 = b.num → a ∉ l → t.rd a = s.rd a
    | p => p.Same s t

end Sys2Proof.Machine
end

