-- ==== Sys2Proof/Certificates/Slice0/Obligations.lean ====
section
/-! DEFINITION. The statements for the provers. -/

open Sys2Proof Sys2Proof.Machine

/-- The parts of the state that a command may change (R5 to R14 and the rules of its row): no other part changes. -/
def commandTouches (i : Instr) : List Part :=
  match i with
  | .registerWrite .. | .highWordWrite .. | .copy .. =>
    [.reg .cfg, .reg .lsh, .reg .prf, .reg .eng, .reg .csf, .reg .fbk, .reg .pwm, .reg .knl, .reg .que, .reg .acq,
      .reg .rng, .reg .tim, .reg .dio, .reg .saf, .reg .err, .fresh, .sets, .clk, .bulk, .bus, .log, .knl, .que,
      .boot, .axes, .lim, .prf, .eng, .pwm, .drn, .shp, .csf, .ports, .probes, .acq, .ring, .dio, .svc]
  | .lowWordRead .. =>
    [.reg .csf, .reg .pwm, .reg .knl, .reg .que, .reg .rng, .reg .tim, .reg .dio, .reg .saf, .reg .err, .fresh,
      .sets, .clk, .bulk, .bus, .log, .knl, .que, .ring, .dio, .svc]
  | .nownsRead .. =>
    [.reg .csf, .reg .pwm, .reg .knl, .reg .que, .reg .rng, .reg .tim, .reg .dio, .reg .saf, .reg .err, .fresh,
      .sets, .clk, .bulk, .bus, .log, .knl, .que, .ring, .dio]
  | .supplyFault .. | .resetNAssert .. | .supplyOutOfRange .. | .poll .. | .ident .. | .param ..
  | .discard .. | .service .. | .fault .. | .restart .. =>
    [.reg .cfg, .reg .lsh, .reg .prf, .reg .eng, .reg .csf, .reg .fbk, .reg .pwm, .reg .knl, .reg .que, .reg .acq,
      .reg .rng, .reg .tim, .reg .dio, .reg .saf, .reg .err, .fresh, .sets, .clk, .bulk, .bus, .log, .knl, .que,
      .boot, .pow, .axes, .lim, .prf, .eng, .pwm, .drn, .ine, .shp, .csf, .ports, .probes, .menc, .acq, .ring, .tim,
      .dio, .saf, .svc]
  | .supervisorRelease .. | .resetNRelease .. =>
    [.reg .cfg, .reg .err, .sets, .clk, .boot]
  | .clocks .. =>
    [.reg .cfg, .sets, .clk, .bulk]
  | .flashReset .. =>
    [.reg .cfg, .fresh, .sets, .clk, .boot]
  | .select .. | .load .. | .verify .. | .changeoverRequest .. =>
    [.reg .cfg, .sets, .clk, .boot]
  | .apply .. =>
    [.reg .cfg, .reg .lsh, .reg .prf, .reg .eng, .reg .csf, .reg .fbk, .reg .pwm, .reg .knl, .reg .que, .reg .acq,
      .reg .rng, .reg .tim, .reg .dio, .reg .saf, .reg .err, .fresh, .sets, .clk, .bulk, .log, .knl, .que, .boot,
      .axes, .lim, .prf, .eng, .pwm, .ine, .probes, .menc, .ring, .dio, .saf]
  | .recipe .. =>
    [.reg .cfg, .reg .prf, .reg .eng, .reg .csf, .reg .knl, .reg .acq, .reg .rng, .reg .tim, .reg .dio, .reg .err,
      .fresh, .sets, .clk, .bulk, .log, .knl, .boot, .prf, .eng, .pwm, .ine, .acq, .tim, .dio]
  | .bypassOpen .. =>
    [.reg .rng, .sets, .clk]
  | .changeoverStaged .. | .changeoverAckTimeout .. =>
    [.reg .cfg, .reg .knl, .sets, .clk, .knl, .boot, .ring]
  | .stagedSetAck .. =>
    [.sets, .clk, .ring]
  | .changeoverCommit .. =>
    [.reg .cfg, .reg .lsh, .reg .prf, .reg .eng, .reg .csf, .reg .pwm, .reg .knl, .reg .que, .reg .acq, .reg .rng,
      .reg .dio, .reg .err, .fresh, .sets, .clk, .bulk, .bus, .log, .knl, .que, .boot, .axes, .lim, .prf, .eng, .pwm,
      .drn, .ine, .shp, .acq, .ring, .dio, .svc]
  | .handshakeTransfer .. =>
    [.reg .eng, .reg .pwm, .reg .err, .sets, .clk, .log, .eng, .pwm]
  | .conservationAudit .. | .uncorrectedEccError .. | .caseTempOutOfRange .. | .referenceClockFault .. =>
    [.reg .prf, .reg .eng, .reg .csf, .reg .fbk, .reg .pwm, .reg .knl, .reg .que, .reg .acq, .reg .dio, .reg .err,
      .sets, .clk, .bulk, .log, .knl, .que, .pow, .axes, .prf, .pwm, .drn, .probes, .acq]
  | .powerStateEntry .. =>
    [.reg .err, .sets, .clk, .pow]
  | .lateWake .. =>
    [.reg .err, .sets, .clk]
  | .wakeComplete .. =>
    [.reg .prf, .reg .eng, .reg .acq, .reg .err, .fresh, .sets, .clk, .pow, .axes, .drn, .acq]
  | .profileBoundary .. =>
    [.reg .lsh, .reg .prf, .reg .eng, .reg .csf, .reg .fbk, .reg .pwm, .reg .knl, .reg .que, .reg .acq, .reg .rng,
      .reg .dio, .reg .err, .fresh, .sets, .clk, .bulk, .log, .knl, .que, .axes, .lim, .prf, .eng, .pwm, .drn, .ine,
      .shp, .csf, .ports, .probes, .acq, .dio]
  | .positionPeriodBoundary .. =>
    [.reg .lsh, .reg .eng, .reg .err, .fresh, .sets, .clk, .log, .axes, .lim, .eng]
  | .velocityPeriodBoundary .. =>
    [.reg .lsh, .reg .prf, .reg .eng, .reg .csf, .reg .fbk, .reg .pwm, .reg .knl, .reg .que, .reg .acq, .reg .rng,
      .reg .dio, .reg .err, .fresh, .sets, .clk, .bulk, .log, .knl, .que, .axes, .lim, .prf, .eng, .pwm, .drn, .ine,
      .shp, .csf, .ports, .probes, .acq]
  | .currentPeriodBoundary .. =>
    [.reg .lsh, .reg .eng, .reg .csf, .reg .dio, .reg .err, .fresh, .sets, .clk, .log, .axes, .eng, .csf]
  | .leashEffectiveWrite .. =>
    [.reg .lsh, .reg .err, .sets, .clk, .bus, .log, .lim]
  | .loweringTakesEffect .. =>
    [.reg .lsh, .reg .err, .sets, .clk, .log, .lim]
  | .leashEscalation .. | .overspeedFault .. | .followingErrorFault .. | .tripEscalation .. | .pwmClockLoss .. =>
    [.reg .prf, .reg .eng, .reg .csf, .reg .fbk, .reg .pwm, .reg .knl, .reg .que, .reg .acq, .reg .dio, .reg .err,
      .sets, .clk, .bulk, .log, .knl, .que, .axes, .prf, .pwm, .drn, .probes, .acq]
  | .tableCommitRequest .. =>
    [.reg .prf, .sets, .clk, .lim]
  | .tableCommitEffect .. | .darnerClearEffect .. =>
    [.reg .lsh, .reg .prf, .reg .eng, .reg .csf, .reg .fbk, .reg .pwm, .reg .knl, .reg .rng, .reg .err, .fresh,
      .sets, .clk, .bulk, .log, .knl, .axes, .lim, .prf, .eng, .pwm, .drn, .ine, .shp, .csf, .ports]
  | .axisEnable .. =>
    [.reg .prf, .reg .eng, .reg .csf, .reg .fbk, .reg .pwm, .reg .knl, .reg .que, .reg .acq, .reg .dio, .reg .err,
      .sets, .clk, .bulk, .log, .knl, .que, .axes, .prf, .eng, .pwm, .drn, .shp, .csf, .ports, .probes, .acq]
  | .axisDisable .. =>
    [.reg .prf, .reg .eng, .reg .fbk, .reg .knl, .reg .dio, .sets, .clk, .knl, .axes, .prf, .probes]
  | .faultReset .. | .brksetElapsed .. =>
    [.reg .prf, .reg .eng, .reg .csf, .reg .fbk, .reg .pwm, .reg .knl, .reg .que, .reg .dio, .reg .err, .sets, .clk,
      .bulk, .log, .knl, .que, .axes, .prf, .pwm, .probes]
  | .brkrelElapsed .. =>
    [.reg .prf, .reg .eng, .reg .knl, .sets, .clk, .knl, .axes]
  | .standstillReached .. =>
    [.reg .prf, .reg .eng, .reg .csf, .reg .fbk, .reg .pwm, .reg .knl, .reg .dio, .sets, .clk, .knl, .axes, .prf,
      .pwm, .probes]
  | .faultStopTimeout .. | .watchdogTorqueOff .. =>
    [.reg .prf, .reg .eng, .reg .csf, .reg .fbk, .reg .pwm, .reg .dio, .sets, .clk, .axes, .prf, .pwm, .probes]
  | .moveAbs .. | .moveRel .. | .moveVel .. | .stop .. | .setPos .. | .refProbe ..
  | .gear .. | .cam .. | .decouple .. | .superimpose .. | .vmVel .. | .vmSet ..
  | .groupAbort .. | .segDone .. | .starved .. | .pathHold .. | .done .. | .overshoot ..
  | .locked .. | .mposCrossing .. | .camEnd .. =>
    [.reg .prf, .reg .eng, .reg .fbk, .reg .knl, .reg .que, .reg .err, .fresh, .sets, .clk, .bulk, .log, .knl, .que,
      .prf, .probes]
  | .line .. | .arc .. | .helix .. | .spline .. | .dwell .. =>
    [.reg .prf, .reg .eng, .reg .knl, .reg .que, .reg .err, .sets, .clk, .bulk, .log, .knl, .que, .prf]
  | .groupConfigWrite .. =>
    [.reg .prf, .reg .err, .sets, .clk, .bus, .log]
  | .overrideWrite .. =>
    [.reg .prf, .sets, .clk]
  | .camSwitchEdge .. =>
    [.reg .prf, .reg .knl, .reg .que, .reg .dio, .reg .err, .sets, .clk, .bulk, .log, .knl, .que, .dio]
  | .slotInstance .. =>
    [.reg .lsh, .reg .prf, .reg .eng, .reg .csf, .reg .fbk, .reg .pwm, .reg .knl, .reg .que, .reg .acq, .reg .dio,
      .reg .err, .fresh, .sets, .clk, .bulk, .log, .knl, .que, .axes, .prf, .eng, .pwm, .drn, .probes, .acq]
  | .enginePllLoss .. =>
    [.reg .eng, .reg .err, .sets, .clk, .log, .eng]
  | .engNop .. | .engEnd .. | .engRep .. | .engClrf .. | .engLdi .. | .engLdp ..
  | .engLd .. | .engLdm .. | .engLdw .. | .engLld .. | .engMov .. | .engMovd ..
  | .engLda .. | .engAdda .. | .engSuba .. | .engAddd .. | .engSubd .. | .engAddk ..
  | .engNega .. | .engAbsa .. | .engAsh .. | .engNorm .. | .engExp .. | .engSata ..
  | .engTsta .. | .engClra .. | .engMac .. | .engDmac .. | .engMacm .. | .engDmacm ..
  | .engSeld .. | .engSela .. | .engSell .. | .engMin .. | .engMax .. | .engNegd ..
  | .engCmp .. | .engLin .. | .engLadd .. | .engLsub .. | .engLmov .. | .engLta ..
  | .engIn .. | .engOutk .. | .engSqrt .. | .engDiv .. =>
    [.eng]
  | .engSt .. | .engStw .. | .engLst .. | .engSta .. =>
    [.reg .eng, .sets, .eng]
  | .engOut .. =>
    [.reg .eng, .eng]
  | .engOuti .. =>
    [.reg .lsh, .reg .eng, .reg .err, .sets, .log, .axes, .eng]
  | .engOutc .. =>
    [.reg .lsh, .reg .err, .sets, .log, .axes, .eng]
  | .engSincos .. =>
    [.fresh, .eng]
  | .writePhaseCommit .. =>
    [.reg .lsh, .reg .prf, .reg .eng, .reg .csf, .reg .fbk, .reg .pwm, .reg .knl, .reg .que, .reg .acq, .reg .dio,
      .reg .err, .sets, .clk, .bulk, .log, .knl, .que, .axes, .prf, .pwm, .drn, .probes, .acq]
  | .pwmPeriodBoundary .. =>
    [.reg .lsh, .reg .eng, .reg .pwm, .reg .err, .sets, .clk, .log, .axes, .eng, .pwm]
  | .bandBoundary .. =>
    [.reg .lsh, .reg .eng, .reg .csf, .reg .pwm, .reg .err, .fresh, .sets, .clk, .log, .axes, .eng, .pwm, .csf]
  | .velocityInstanceUpdate .. =>
    [.reg .prf, .reg .eng, .reg .csf, .reg .fbk, .reg .pwm, .reg .knl, .reg .que, .reg .acq, .reg .dio, .reg .err,
      .fresh, .sets, .clk, .bulk, .log, .knl, .que, .axes, .prf, .eng, .pwm, .drn, .ine, .shp, .probes, .acq]
  | .sheepdogArmed .. =>
    [.reg .prf, .reg .eng, .sets, .clk]
  | .darnerClear .. =>
    [.sets, .clk, .drn]
  | .fastOvercurrent .. =>
    [.reg .prf, .reg .eng, .reg .csf, .reg .fbk, .reg .pwm, .reg .knl, .reg .que, .reg .acq, .reg .dio, .reg .err,
      .fresh, .sets, .clk, .bulk, .log, .knl, .que, .axes, .prf, .pwm, .drn, .csf, .probes, .acq]
  | .stuckChannel .. | .sumCheckFail .. =>
    [.reg .prf, .reg .eng, .reg .csf, .reg .fbk, .reg .pwm, .reg .knl, .reg .que, .reg .acq, .reg .dio, .reg .err,
      .sets, .clk, .bulk, .log, .knl, .que, .axes, .prf, .pwm, .drn, .csf, .probes, .acq]
  | .quadratureEdge .. | .indexEdge .. | .pairOpenOrShort .. | .safetyEncoderRead .. =>
    [.reg .prf, .reg .eng, .reg .csf, .reg .fbk, .reg .pwm, .reg .knl, .reg .que, .reg .acq, .reg .dio, .reg .err,
      .sets, .clk, .bulk, .log, .knl, .que, .axes, .prf, .pwm, .drn, .ports, .probes, .acq]
  | .ssiFrame .. | .pos .. | .post .. =>
    [.reg .prf, .reg .eng, .reg .csf, .reg .fbk, .reg .pwm, .reg .knl, .reg .que, .reg .acq, .reg .dio, .reg .err,
      .sets, .clk, .bulk, .log, .knl, .que, .axes, .prf, .eng, .pwm, .drn, .shp, .ports, .probes, .acq]
  | .afvenRead .. | .afvenWrite .. | .afvenClearErr .. =>
    [.reg .fbk, .reg .err, .sets, .clk, .log, .ports]
  | .masterEncoderRead .. =>
    [.reg .fbk, .sets, .clk, .ports]
  | .probeEdge .. =>
    [.reg .fbk, .sets, .clk, .probes]
  | .probeLatch .. =>
    [.reg .fbk, .reg .knl, .reg .que, .reg .acq, .reg .err, .sets, .clk, .bulk, .log, .knl, .que, .probes, .acq]
  | .probeArm .. =>
    [.reg .fbk, .reg .err, .sets, .clk, .bus, .log]
  | .tripAssert .. | .auxoff .. =>
    [.reg .pwm, .sets, .clk, .pwm]
  | .tripDeassert .. | .auxCommit .. =>
    [.sets, .clk, .pwm]
  | .gateEnableLow .. =>
    [.reg .prf, .reg .eng, .reg .csf, .reg .fbk, .reg .pwm, .reg .knl, .reg .que, .reg .dio, .reg .saf, .reg .err,
      .fresh, .sets, .clk, .bulk, .log, .knl, .que, .axes, .prf, .pwm, .probes]
  | .debugHalt .. =>
    [.reg .prf, .reg .eng, .reg .csf, .reg .fbk, .reg .pwm, .reg .knl, .reg .que, .reg .acq, .reg .dio, .reg .err,
      .sets, .clk, .bulk, .log, .knl, .que, .axes, .prf, .eng, .pwm, .drn, .probes, .acq]
  | .debugResume .. =>
    [.reg .pwm, .reg .err, .sets, .clk, .log, .eng, .pwm]
  | .auxBoundary .. =>
    [.reg .lsh, .reg .pwm, .reg .err, .sets, .clk, .log, .lim, .pwm]
  | .submit .. | .cancel .. | .knlTick .. | .kennelEvent .. | .slotFill .. =>
    [.reg .knl, .sets, .clk, .knl]
  | .take .. =>
    [.reg .knl, .sets, .clk, .bus, .knl]
  | .knlDone .. | .runmaxReached .. | .logTake .. =>
    [.reg .knl, .reg .err, .sets, .clk, .log, .knl]
  | .slotMove .. =>
    [.reg .knl, .sets, .clk]
  | .push .. =>
    [.reg .knl, .reg .que, .reg .err, .sets, .clk, .bulk, .log, .knl, .que]
  | .tryingPush .. | .waitingPush .. =>
    [.reg .knl, .reg .que, .reg .err, .sets, .clk, .bulk, .bus, .log, .knl, .que, .ring, .svc]
  | .waitingPushAccept .. =>
    [.reg .knl, .reg .que, .sets, .clk, .bulk, .knl, .que, .ring, .svc]
  | .pushCancel .. =>
    [.reg .que, .sets, .clk, .que, .ring, .svc]
  | .pop .. | .flush .. =>
    [.reg .knl, .reg .que, .reg .err, .sets, .clk, .bus, .log, .knl, .que, .svc]
  | .heldPopComplete .. =>
    [.reg .knl, .reg .que, .sets, .clk, .bus, .knl, .que, .svc]
  | .spillWrite .. =>
    [.reg .que, .sets, .clk, .bulk, .que]
  | .spillRead .. =>
    [.reg .prf, .reg .eng, .reg .csf, .reg .fbk, .reg .pwm, .reg .knl, .reg .que, .reg .acq, .reg .dio, .reg .err,
      .fresh, .sets, .clk, .bulk, .log, .knl, .que, .pow, .axes, .prf, .eng, .pwm, .drn, .probes, .acq, .ring, .svc]
  | .arm .. =>
    [.reg .acq, .reg .err, .fresh, .sets, .clk, .acq]
  | .disarm .. =>
    [.reg .knl, .reg .que, .reg .acq, .reg .err, .sets, .clk, .bulk, .log, .knl, .que, .acq]
  | .force .. =>
    [.sets, .clk, .acq]
  | .acqSample .. =>
    [.reg .knl, .reg .que, .reg .acq, .reg .err, .fresh, .sets, .clk, .bulk, .log, .knl, .que, .acq]
  | .rearmEnd .. | .autoTrigger .. | .wychemasReceive .. =>
    [.reg .acq, .sets, .clk, .acq]
  | .recordClose .. =>
    [.reg .prf, .reg .eng, .reg .csf, .reg .fbk, .reg .pwm, .reg .knl, .reg .que, .reg .acq, .reg .dio, .reg .err,
      .fresh, .sets, .clk, .bulk, .log, .knl, .que, .pow, .axes, .prf, .pwm, .drn, .probes, .acq]
  | .recordRelease .. =>
    [.reg .acq, .reg .err, .fresh, .sets, .clk, .bus, .log, .acq]
  | .wychemasSend .. =>
    [.reg .acq, .fresh, .sets, .clk, .acq]
  | .syncclkLoss .. | .syncclkReturn .. =>
    [.reg .acq, .sets, .clk]
  | .linkUp .. =>
    [.reg .rng, .reg .err, .fresh, .sets, .clk, .ring]
  | .linkDown .. | .frameMissing .. | .supervisoryRetry .. | .svrel .. | .leave .. | .ringClockLoss .. =>
    [.reg .rng, .sets, .clk, .ring]
  | .ringCycleSend .. =>
    [.reg .prf, .reg .eng, .reg .fbk, .reg .knl, .reg .que, .reg .err, .fresh, .sets, .clk, .bulk, .log, .knl, .que,
      .axes, .prf, .probes, .ring, .tim]
  | .cycle .. =>
    [.reg .prf, .reg .eng, .reg .csf, .reg .fbk, .reg .pwm, .reg .knl, .reg .que, .reg .rng, .reg .tim, .reg .dio,
      .reg .err, .fresh, .sets, .clk, .bulk, .log, .knl, .que, .axes, .lim, .prf, .eng, .pwm, .drn, .shp, .csf,
      .ports, .probes, .ring, .tim]
  | .cycleReturn .. =>
    [.reg .prf, .reg .eng, .reg .csf, .reg .fbk, .reg .pwm, .reg .knl, .reg .que, .reg .acq, .reg .rng, .reg .dio,
      .reg .err, .sets, .clk, .bulk, .log, .knl, .que, .axes, .prf, .eng, .pwm, .drn, .probes, .acq, .ring]
  | .close .. | .discover .. =>
    [.reg .rng, .reg .err, .sets, .clk, .log, .ring, .tim]
  | .closeReturn .. =>
    [.reg .rng, .reg .err, .sets, .clk, .log, .ring]
  | .discoverReturn .. | .paramAckTimeout .. =>
    [.reg .prf, .reg .eng, .reg .fbk, .reg .knl, .reg .que, .reg .rng, .reg .err, .sets, .clk, .bulk, .log, .knl,
      .que, .axes, .prf, .probes, .ring]
  | .supervisoryReply .. =>
    [.reg .prf, .reg .eng, .reg .csf, .reg .fbk, .reg .pwm, .reg .knl, .reg .que, .reg .rng, .reg .dio, .reg .err,
      .fresh, .sets, .clk, .bulk, .log, .knl, .que, .axes, .prf, .pwm, .probes, .ring]
  | .lossOfRing .. =>
    [.reg .prf, .reg .eng, .reg .csf, .reg .fbk, .reg .pwm, .reg .knl, .reg .que, .reg .acq, .reg .dio, .reg .err,
      .sets, .clk, .bulk, .log, .knl, .que, .axes, .prf, .pwm, .drn, .probes, .acq, .ring]
  | .memberLost .. =>
    [.reg .prf, .reg .eng, .reg .csf, .reg .fbk, .reg .pwm, .reg .knl, .reg .que, .reg .acq, .reg .rng, .reg .dio,
      .reg .err, .sets, .clk, .bulk, .log, .knl, .que, .axes, .prf, .pwm, .drn, .probes, .acq, .ring]
  | .reparam .. =>
    [.reg .rng, .reg .err, .sets, .clk, .bus, .log, .axes, .ring]
  | .linkDelayResponse .. | .grandmasterChange .. | .announce .. | .delayResp .. | .pdelayResp .. | .pdelayRespFollowUp ..
  | .announceReceiptTimeout .. =>
    [.reg .tim, .sets, .clk, .tim]
  | .holdover .. =>
    [.reg .knl, .reg .tim, .reg .err, .sets, .clk, .log, .knl]
  | .permit .. =>
    [.reg .knl, .reg .tim, .reg .err, .sets, .clk, .bus, .log, .knl]
  | .sync .. | .followUp .. =>
    [.reg .knl, .reg .tim, .reg .err, .fresh, .sets, .clk, .log, .knl, .lim, .ring, .tim]
  | .pdelayReq .. | .delayReq .. =>
    [.sets, .clk, .tim]
  | .logicFrame .. =>
    [.sets, .clk, .dio]
  | .fieldReport .. | .couplerSilence .. | .supplyLow .. | .supplyMissing .. | .supplyOff .. | .supplyOk .. =>
    [.reg .knl, .reg .que, .reg .dio, .reg .err, .sets, .clk, .bulk, .log, .knl, .que, .dio]
  | .heartbeatTimeout .. | .dioOut .. | .dioSet .. | .dioClr .. | .thermalRetry .. | .groupOverload ..
  | .groupOverloadRetry .. =>
    [.reg .dio, .sets, .clk, .dio]
  | .inputChangeAccepted .. =>
    [.reg .fbk, .reg .knl, .reg .que, .reg .dio, .reg .err, .sets, .clk, .bulk, .log, .knl, .que, .probes, .dio]
  | .readbackMismatch .. =>
    [.reg .dio, .reg .err, .sets, .clk, .log]
  | .thermalShutdown .. =>
    [.reg .dio, .reg .err, .sets, .clk, .log, .dio]
  | .safeInputChange .. | .discrepancyFault .. | .srstRelease .. | .ss1T1Elapsed .. | .safetyMeasurement .. | .readbackFault ..
  | .safetyPduReceive .. | .connectionWatchdog .. | .safetyHeartbeat .. | .crossExchange .. =>
    [.reg .prf, .reg .eng, .reg .csf, .reg .fbk, .reg .pwm, .reg .knl, .reg .que, .reg .dio, .reg .saf, .reg .err,
      .fresh, .sets, .clk, .bulk, .log, .knl, .que, .axes, .prf, .pwm, .probes, .saf]
  | .resetStuck .. | .testdue .. | .darkTest .. =>
    [.reg .saf, .reg .err, .sets, .clk, .log]
  | .safetyPduSend .. =>
    [.reg .saf, .sets, .clk, .ring, .saf]
  | .accept .. | .withdraw .. | .clearlog .. | .info .. | .read .. | .write ..
  | .logread .. | .persread .. | .motion .. | .events .. | .dlbegin .. | .dldata ..
  | .dlend .. =>
    [.reg .cfg, .reg .lsh, .reg .prf, .reg .eng, .reg .csf, .reg .fbk, .reg .pwm, .reg .knl, .reg .que, .reg .acq,
      .reg .rng, .reg .tim, .reg .dio, .reg .saf, .reg .err, .fresh, .sets, .clk, .bulk, .bus, .log, .knl, .que,
      .boot, .axes, .lim, .prf, .eng, .pwm, .drn, .shp, .csf, .ports, .probes, .acq, .ring, .dio, .saf, .svc]
  | .passwordLockoutEnd .. =>
    [.reg .saf, .sets, .clk, .saf]
  | .arpRequest .. =>
    [.sets, .clk, .svc]
  | .icmpEcho .. =>
    [.reg .err, .sets, .clk, .svc]
  | .persist .. =>
    [.reg .err, .sets, .clk, .log]
  | .bypass .. | .idcode .. | .samplePreload .. | .extest .. =>
    [.fresh, .sets, .clk, .jtag]
  | .ringCycleBoundary .. =>
    [.reg .lsh, .reg .prf, .reg .eng, .reg .csf, .reg .pwm, .reg .knl, .reg .rng, .reg .err, .fresh, .sets, .clk,
      .bulk, .log, .knl, .axes, .prf, .eng, .pwm, .drn, .ine, .shp, .ring]
  | .foreignFrame .. =>
    [.reg .rng, .reg .err, .sets, .clk, .log]
  | .srstPress .. =>
    [.sets, .clk, .saf]
  | .spillWriteComplete .. =>
    [.reg .que, .reg .err, .sets, .clk, .log, .que, .eng]

/-- The command that a row of the motion commands carries (R166). -/
def motionRow (op n : Nat) (mode : Fin 16) (tag : BitVec 32) (data : List (Fin 16 × BitVec 56)) : MotCmd :=
  { op := op, index := n, mode := mode, tag := tag.toNat, data := data.map fun e => (e.1.val, e.2.toInt) }

/-- The state once a command of `n` is reported ACCEPTED (R169). -/
def accepted (n : Nat) (tag : BitVec 32) (s : State) : State := s.pushEvent 0x01 n 0 tag.toNat none

/-- The state once a command of `n` is reported REJECTED for `reason` (R169). -/
def rejected (n reason : Nat) (tag : BitVec 32) (s : State) : State := s.pushEvent 0x04 n reason tag.toNat none

/-- The set-point of a gear for the master's place now, before the next period (R143). -/
def gearPlace (s : State) (k : Coupling) : Int :=
  k.cv + (k.num * shorterWay (s.masterMod k.master) (s.masterAt k.master - k.mLast) + k.rem) / k.den

/-- The velocities that R133 allows axis `n` in the next period. -/
def nextRange (n : Nat) (s : State) : Int × Int :=
  (s.planLim n {} (s.mot n).vel (s.mot n).acc).range (s.mot n).vel (s.mot n).acc

/-- R209: Z and N of a written result. -/
def flagged {w : Nat} (v : BitVec w) (c : Ctx) : Ctx := { c with z := decide (v = 0), n := v.msb }

/-- R210: accumulator `i` takes the exact result `v` modulo 2^40, with AV outside the 40-bit range; Z and N follow. -/
def accTakes (i : Nat) (v : Int) (c : Ctx) : Ctx :=
  flagged (BitVec.ofInt 40 v)
    { c with a := tabSet c.a i (BitVec.ofInt 40 v), av := if v < -2 ^ 39 ∨ 2 ^ 39 ≤ v then c.av ||| 1#4 <<< i else c.av }

/-- R211: the SAT flag of accumulator `i` is set when `b`. -/
def saturated (i : Nat) (b : Bool) (c : Ctx) : Ctx := { c with sat := if b then c.sat ||| 1#4 <<< i else c.sat }

/-- A data register takes a word. -/
def dTakes (i : Nat) (v : BitVec 16) (c : Ctx) : Ctx := { c with d := tabSet c.d i v }

/-- An accumulator takes a value without AV. -/
def aTakes (i : Nat) (v : BitVec 40) (c : Ctx) : Ctx := { c with a := tabSet c.a i v }

/-- A long register takes a value. -/
def lTakes (i : Nat) (v : BitVec 48) (c : Ctx) : Ctx := { c with l := tabSet c.l i v }

/-- R214: the pointer `p` after an access: unchanged for [Pp], stepped within the window of its modifier for [Pp]+Mm. -/
def stepped (p : Nat) (md : Option (Fin 8)) (c : Ctx) : Ctx :=
  match md with
  | none => c
  | some m =>
    let o : Nat := (c.pR p).toNat
    let st := signed 10 ((c.mR m).toNat / 2 ^ 22)
    let base : Nat := (c.mR m).toNat / 2 ^ 11 % 2 ^ 11
    let len : Nat := (c.mR m).toNat % 2 ^ 11
    let inside : Int := (((o + 2048 - base) % 2048 : Nat) : Int)
    { c with p := tabSet c.p p (BitVec.ofInt 11 (if len = 0 then (o : Int) + st else (base : Int) + (inside + st) % (len : Int))) }

/-- R215: a store of the word `v` at `i`; the words 0x000 to 0x07F keep theirs. -/
def stores (i : Nat) (v : BitVec 16) (c : Ctx) : Ctx :=
  if i % 2048 < 0x80 then c else { c with mem := tabSet c.mem (i % 2048) v }

/-- R215: WPROT of axis `x` is set when a word of the `n` from `i` is one of 0x000 to 0x07F. -/
def protects (x i n : Nat) (s : State) : State :=
  if ∃ k < n, (i + k) % 2048 < 0x80 then s.latch (ENG_FLG_WPROT x) else s

/-- R217: accumulator content `v` scaled by 2^S / 2^16, rounded towards minus infinity. -/
def extOf (v : BitVec 40) (k : Int) : Int := v.toInt * 2 ^ (k + 8).toNat / 2 ^ 24

/-- R217: the word that a conversion gives. -/
def extWord (v : BitVec 40) (k : Int) : BitVec 16 := BitVec.ofInt 16 (max (-0x8000) (min 0x7FFF (extOf v k)))

/-- R217: does the conversion saturate? -/
def extSat (v : BitVec 40) (k : Int) : Bool := decide (extOf v k < -0x8000 ∨ 0x7FFF < extOf v k)

/-- R217: S of an instruction: its own, or ENG_CTX.SCALE. -/
def scaleOf (s : State) (x : Nat) (sc : Option (BitVec 4)) : Int :=
  match sc with
  | some v => v.toInt
  | none => signed 4 (s.get (ENG_CTX_SCALE x))

/-- R219: EXP of an accumulator value: 30 less the highest bit position whose bit differs from bit 39; 30 for 0 and -1. -/
def expIs (v : BitVec 40) (e : Int) : Prop :=
  ((v = 0 ∨ v = -1) ∧ e = 30) ∨
  ∃ b : Fin 39, e = 30 - (b.val : Int) ∧ v.getLsbD b ≠ v.msb ∧ ∀ k : Fin 39, b < k → v.getLsbD k = v.msb

/-- R230: is `r` the integer square root of ⌊v / 2⌋, that is ⌊√(v × 2^-31) × 2^15⌋? -/
def rootIs (v r : Nat) : Prop := 2 * (r * r) ≤ v ∧ v < 2 * ((r + 1) * (r + 1))

/-- R230: the quotient of data words in Q1.15. -/
def quotient (x y : Int) : BitVec 16 :=
  if y = 0 then (if 0 ≤ x then 0x7FFF#16 else 0x8000#16)
  else if |x| < |y| then BitVec.ofInt 16 (Int.tdiv (x * 2 ^ 15) y)
  else if x * y < 0 then 0x8000#16
  else 0x7FFF#16

/-- R353: the raw value of a sample of channel `c`. -/
def sampleRaw (s : State) (c : Nat) (l : List Bool) : Int :=
  if s.acqCls c ≤ 2 then s.streamValue (s.acqCls c) (s.acqIdx c) l else s.sigValue (s.acqCls c) (s.acqIdx c)

/-- R353: the values that took effect in one sample period of channel `c`, up to the present one. -/
def sampleVals (s : State) (c : Nat) (vals : List (BitVec 64)) (l : List Bool) : List Int :=
  if s.acqCls c ≤ 2 then s.streamValues (s.acqCls c) (s.acqIdx c) (s.rd (ACQ_CTS c)) l
  else (vals.map BitVec.toInt).drop
    (vals.length - (s.rd (ACQ_CTS c) / max 1 ((s.sigPeriod (s.acqCls c) (s.acqIdx c)).getD (s.rd (ACQ_CTS c))) - 1)) ++ [sampleRaw s c l]

/-- R353, R363: the value of the trigger stream of group `g` in a sample of its timing channel `c`, in the signal's width. -/
def sampleStream (s : State) (g c : Nat) (vals : List (BitVec 64)) (l : List Bool) : Int :=
  signed (8 * sigWidth (s.acqCls c)) (unsigned (8 * sigWidth (s.acqCls c))
    ((streamsOf (sampleRaw s c l) (sampleVals s c vals l)).getD (s.get (ACQ_GCFG_TSTR g)) 0))

/-- R355: where byte `j` of the next sample of a channel's ring lies in the capture SRAM. -/
def ringByte (k : AcqChan) (j : Nat) : Nat :=
  0x1A000000 + 4096 * k.slots.getD ((k.taken % k.depth * k.size + j) / 4096) 0 + (k.taken % k.depth * k.size + j) % 4096

/-- R437: is `on` what the switch of channel `c` must be, from what its field side holds? -/
def switchIs (s : State) (c : Nat) (on : Bool) : Prop :=
  if s.fieldSupply (c / 8) = 3 ∨ (s.dch c).prog = false ∨ s.fieldSupply (c / 8) = 2 ∨ (s.dch c).therm = true ∨ c / 8 ∈ s.dio.shut then on = false
  else if (s.dch c).mode ≠ 1 ∧ (s.dch c).mode ≠ 2 then on = false
  else if (s.dch c).timeout = true then on = (if (s.dch c).hold = true then (s.dch c).held else (s.dch c).safeVal)
  else on = (s.dch c).cmd

/-- R456: does a level of channel A or B (`b`) of a pair with this USE demand? -/
def chanDemands (use : Nat) (b level : Bool) : Bool := if b then level == (use == 2) else !level

/-- R464: is the line of technology `t` of group `g` commanded high? -/
def lineOf (s : State) (t g : Nat) : Nat := s.get (if t = 0 then SAF_GRP_GENBC g else SAF_GRP_GENAC g)

/-- R479: a datagram that is a service frame, unfragmented, with its length, VER and CRC right. -/
abbrev ServiceFrame (frag : Bool) (f : List Byte) : Prop :=
  frag = false ∧ 12 ≤ f.length ∧ f.length = 12 + leAt f 6 2 ∧ leAt f 0 1 = 1 ∧ crc32c (f.take (f.length - 4)) = leAt f (f.length - 4) 4

/-- R76, R80, R81: the part has firmware, or the recovery ROM, to answer a request. -/
abbrev Answers (s : State) : Prop := s.get CFG_STATE_STATE ∈ [8, 9, 0xE]

/-- R480: what the part keeps of the endpoint at `ip` and `port`. -/
abbrev keptOf (s : State) (ip port : Nat) : Option SvcEnd := s.svc.ends.find? fun e => e.who == { ip := ip, port := port }

/-- R81, R478: the datagram comes to the part's own address and UDP port: those in MRAM, else 169.254.32.56 and 7741. -/
abbrev Addressed (s : State) (udp : Udp) : Prop :=
  udp.dst.toNat = (match s.boot.net with | some l => ofBe (slice l 0 4) | none => 0xA9FE2038) ∧
    udp.port.toNat = (match s.boot.net with | some l => leAt l 12 2 | none => 7741)

/-- R480: a request with CMD `cmd` that is executed: its endpoint is new, or has another SEQ and no request in execution. -/
abbrev NewRequest (s : State) (ip port : Nat) (udp : Udp) (cmd : Nat) (f : List Byte) : Prop :=
  Answers s ∧ Addressed s udp ∧ ServiceFrame udp.frag f ∧ leAt f 1 1 = cmd ∧
    (keptOf s ip port).all (fun e => decide (e.seq ≠ leAt f 4 2) && e.resp.isSome) = true

/-- R479, R480: the request `f` is answered with STATUS `st` and `body`, and the response is kept for its endpoint. -/
abbrev Answered (s u : State) (ip port cmd st : Nat) (f body : List Byte) : Prop :=
  u.svc.sent = some (svcFrame cmd (if s.get CFG_STATE_STATE = 0xE then 3 else 1) st (leAt f 4 2) body) ∧ u.svc.answered = true ∧ u.svc.via = s.nextHop ip ∧
    u.svc.ends.getLast? = some { who := { ip := ip, port := port }, seq := leAt f 4 2, resp := u.svc.sent }

/-- R488: the bytes of a record. -/
abbrev recordBytes (r : LogRec) : List Byte :=
  leBytes 4 r.seq ++ leBytes 4 r.sec ++ leBytes 4 r.ns ++ [BitVec.ofNat 8 r.src, BitVec.ofNat 8 r.sev, BitVec.ofNat 8 (b2n r.fal + 2 * b2n r.persist),
    BitVec.ofNat 8 r.steps] ++ leBytes 2 r.code ++ leBytes 2 r.lost ++ leBytes 4 r.arg0 ++ leBytes 4 r.arg1 ++ leBytes 4 r.arg2

/-- A step takes the front command. A step with command c at the front of the queue is exec of c on the state with the rest of the queue; with no command waiting the block idles (the idle step is the model's choice, log 1). -/
def Obligations.StepRunsFront : Prop :=
  (∀ (c : Instr) (l : List Instr) (s : State), step { s with pending := c :: l } = exec c { s with pending := l }) ∧
  (∀ s : State, s.pending = [] → step s = .next s)

/-- No command stops. Every command on every state answers a next state: none faults and none is refused, and a run of the queued commands never ends. -/
def Obligations.EveryCommandRuns : Prop :=
  (∀ (i : Instr) (s : State), ∃ t, exec i s = .next t) ∧ (∀ (n : Nat) (s : State), ∃ t, core.run n s = .next t)

/-- What each command completes with, and what it leaves alone. Every command, on every state, answers a next state in which nothing has changed but the parts that commandTouches lists for the command: every register word of every other block of the register map, every byte of bulk memory, every queue, buffer, axis and unit that is not listed, and the queue of waiting commands, are as before. -/
def Obligations.FrameOfEveryCommand : Prop :=
  ∀ (i : Instr) (s : State), ∃ t, exec i s = .next t ∧ OnlyChanges (commandTouches i) [] s t

/-- Safety is an invariant of every step. From every safe state a step answers a safe state: bulk memory keeps its canonical form within its 2 GiB, the clock its ranges, each report buffer at most 4 reports and the log ring at most 1 024 records. -/
def Obligations.SafeKept : Prop :=
  ∀ s t : State, Safe s → step s = .next t → Safe t

/-- What reset leaves. After reset the state is safe, nothing waits, memory lists nothing, every register word holds the reset value of its row of the register tables, and the values other than 0 are the ones the tables give: ERR_GUARD HELD 1, the margins 0x14, bank, recipe and slot fields 0x3 and 0xF, the override 0x400, PRF_TBASE 0x80100000. (The value of a field to which the spec gives none is the model's choice, log 3.) -/
def Obligations.ResetLeaves : Prop :=
  Safe State.reset ∧ State.reset.pending = [] ∧ State.reset.bulk = [] ∧ (∀ a, State.reset.rd a = resetWord a % 2 ^ 32) ∧
  State.reset.get ERR_GUARD_HELD = 1 ∧ (∀ i : Fin 31, State.reset.get (PWR_ISL_MARGIN i) = 0x14) ∧
  State.reset.get CFG_STATE_STATE = 0 ∧ State.reset.get CFG_BOOT_BANK = 3 ∧ State.reset.get CFG_RCP_FALLBACK = 0xF ∧
  State.reset.get CFG_RCP_START = 0xF ∧ State.reset.get CFG_RCP_ACTIVE = 0xF ∧ State.reset.get CFG_CHG_SLOT = 0xF ∧
  (∀ g : Fin 16, State.reset.get (PRF_GRPOVR_OVR g) = 0x400) ∧ State.reset.rd PRF_TBASE = 0x80100000

/-- What a write of a register word does. A write to a word without a rule of its own changes its RW bits (and its LK bits for the loader) and clears the W1C bits written 1, and nothing else. A write of another width or alignment, of an unmapped address, of the SAF block by anything but the safety core, and of a word with no writable bit changes no register outside the error reports and is counted as an access error with its address (that a word with no writable bit is so reported for every access code is deduced, log 59). -/
def Obligations.RegisterWrites : Prop :=
  (∀ (dt : Nat) (who : Accessor) (addr : BitVec 32) (value : BitVec 64) (d : RegDesc) (s : State), addr.toNat % 4 = 0 → regDesc addr.toNat = some d → d.part = .word → (addr.toNat / 2 ^ 24 ≠ 0x1E ∨ who = .safety) → d.rw ||| d.w1c ||| d.wo ||| (s.elapse dt).loadable who d addr.toNat ≠ 0 → (s.elapse dt).writeBlock d who addr.toNat (value.toNat % 2 ^ 32) = none → 
      ∃ u, exec (.registerWrite dt who addr value 4) s = .next u ∧ u.rd addr.toNat = ((s.rd addr.toNat &&& (0xFFFFFFFF ^^^ (d.rw ||| (s.elapse dt).loadable who d addr.toNat))) ||| ((value.toNat % 2 ^ 32) &&& (d.rw ||| (s.elapse dt).loadable who d addr.toNat))) &&& (0xFFFFFFFF ^^^ ((value.toNat % 2 ^ 32) &&& d.w1c)) ∧ OnlyChanges [.clk, .sets] [addr.toNat] s u) ∧
  (∀ (dt : Nat) (who : Accessor) (addr : BitVec 32) (value : BitVec 64) (size : Fin 9) (s : State), inBulk addr.toNat = false → ((size.val ≠ 4 ∨ addr.toNat % 4 ≠ 0)) → 
      ∃ u, exec (.registerWrite dt who addr value size) s = .next u ∧ u.bus.errs = s.bus.errs + 1 ∧ OnlyChanges [.clk, .bus, .log, .reg .err, .sets] [] s u) ∧
  (∀ (dt : Nat) (who : Accessor) (addr : BitVec 32) (value : BitVec 64) (s : State), inBulk addr.toNat = false → addr.toNat / 2 ^ 24 = 0x1E → who ≠ .safety → 
      ∃ u, exec (.registerWrite dt who addr value 4) s = .next u ∧ u.bus.errs = s.bus.errs + 1 ∧ OnlyChanges [.clk, .bus, .log, .reg .err, .sets] [] s u) ∧
  (∀ (dt : Nat) (who : Accessor) (addr : BitVec 32) (value : BitVec 64) (s : State), inBulk addr.toNat = false → regDesc addr.toNat = none → 
      ∃ u, exec (.registerWrite dt who addr value 4) s = .next u ∧ u.bus.errs = s.bus.errs + 1 ∧ OnlyChanges [.clk, .bus, .log, .reg .err, .sets] [] s u) ∧
  (∀ (dt : Nat) (who : Accessor) (addr : BitVec 32) (value : BitVec 64) (d : RegDesc) (s : State), inBulk addr.toNat = false → regDesc addr.toNat = some d → d.rw ||| d.w1c ||| d.wo = 0 → who ≠ .loader → 
      ∃ u, exec (.registerWrite dt who addr value 4) s = .next u ∧ u.bus.errs = s.bus.errs + 1 ∧ OnlyChanges [.clk, .bus, .log, .reg .err, .sets] [] s u)

/-- The capture shadow and the held high word. A read of the low word of a 64-bit register returns it and captures the high word of the same instant for that reader alone; the next read of the high word by that reader returns the captured value and clears the mark; a read of a high word with no pending shadow returns the present one. A high-word write is held for its writer, and no register changes. A read of TIM_NOWNS returns the nanoseconds and captures the seconds. -/
def Obligations.WordPairs : Prop :=
  (∀ (dt : Nat) (who : Accessor) (addr : BitVec 32) (d : RegDesc) (s : State), addr.toNat % 4 = 0 → regDesc addr.toNat = some d → d.part = .low → (addr.toNat / 2 ^ 24 = 0x12 ∨ addr.toNat / 2 ^ 24 = 0x11) → s.shadowOf (accId who) addr.toNat = none → d.wo = 0 → 
      ∃ u, exec (.lowWordRead dt who addr 4) s = .next u ∧ u.bus.lastRead = s.rd addr.toNat ∧ u.shadowOf (accId who) (addr.toNat + 4) = some (BitVec.ofNat 32 (s.shown (addr.toNat + 4))) ∧ (∀ r, r ≠ accId who → tabGet [] u.bus.shadow r = tabGet [] s.bus.shadow r) ∧ OnlyChanges [.clk, .bus, .sets] [] s u) ∧
  (∀ (dt : Nat) (who : Accessor) (addr : BitVec 32) (d : RegDesc) (v : Word) (s : State), addr.toNat % 4 = 0 → regDesc addr.toNat = some d → d.part = .high → (addr.toNat / 2 ^ 24 = 0x12 ∨ addr.toNat / 2 ^ 24 = 0x11) → s.shadowOf (accId who) addr.toNat = some v → 
      ∃ u, exec (.lowWordRead dt who addr 4) s = .next u ∧ u.bus.lastRead = v.toNat ∧ u.shadowOf (accId who) addr.toNat = none ∧ OnlyChanges [.clk, .bus, .sets] [] s u) ∧
  (∀ (dt : Nat) (who : Accessor) (addr : BitVec 32) (d : RegDesc) (s : State), addr.toNat % 4 = 0 → regDesc addr.toNat = some d → d.part = .high → (addr.toNat / 2 ^ 24 = 0x12 ∨ addr.toNat / 2 ^ 24 = 0x11) → d.wo = 0 → s.shadowOf (accId who) addr.toNat = none → 
      ∃ u, exec (.lowWordRead dt who addr 4) s = .next u ∧ u.bus.lastRead = s.rd addr.toNat ∧ OnlyChanges [.clk, .bus, .sets] [] s u) ∧
  (∀ (dt : Nat) (who : Accessor) (addr : BitVec 32) (value : BitVec 32) (d : RegDesc) (s : State), addr.toNat % 4 = 0 → (addr.toNat / 2 ^ 24 ≠ 0x1E ∨ who = .safety) → regDesc addr.toNat = some d → d.part = .high → d.rw ||| d.w1c ||| d.wo ≠ 0 → 
      ∃ u, exec (.highWordWrite dt who addr value) s = .next u ∧ (u.heldHigh who (addr.toNat - 4) 0) = value.toNat ∧ OnlyChanges [.clk, .bus, .sets] [] s u) ∧
  (∀ (dt : Nat) (who : Accessor) (s : State), 
      ∃ u, exec (.nownsRead dt who) s = .next u ∧ u.bus.lastRead = (s.elapse dt).clk.ns ∧ tabGet 0 u.bus.nows (accId who) = (s.elapse dt).clk.sec ∧ OnlyChanges [.clk, .bus, .sets] [TIM_NOWNS] s u)

/-- Bulk memory. A write to bulk memory outside the committed axis table stores exactly the bytes of its value, little-endian, at its address, and no other byte of memory changes; a read of bulk memory returns the bytes it holds; a write into the committed axis table by anything but the loader is an access error and stores nothing. -/
def Obligations.BulkAccess : Prop :=
  (∀ (dt : Nat) (who : Accessor) (addr : BitVec 32) (value : BitVec 64) (size : Fin 9) (s : State), 0x80000000 ≤ addr.toNat → addr.toNat + size.val ≤ 2 ^ 32 → s.committedAt addr.toNat size = false → 
      ∃ u, exec (.registerWrite dt who addr value size) s = .next u ∧ (∀ i : Fin 8, i.val < size.val → (memByte u.bulk (addr.toNat + i)).toNat = value.toNat / 2 ^ (8 * i.val) % 256) ∧ (∀ x, x < addr.toNat ∨ addr.toNat + size.val ≤ x → memByte u.bulk x = memByte s.bulk x) ∧ OnlyChanges [.clk, .bulk, .sets] [] s u) ∧
  (∀ (dt : Nat) (who : Accessor) (addr : BitVec 32) (size : Fin 9) (s : State), 0x80000000 ≤ addr.toNat → addr.toNat + size.val ≤ 2 ^ 32 → 
      ∃ u, exec (.lowWordRead dt who addr size) s = .next u ∧ u.bus.lastRead = s.bulkLe addr.toNat size ∧ OnlyChanges [.clk, .bus, .sets] [] s u) ∧
  (∀ (dt : Nat) (who : Accessor) (addr : BitVec 32) (value : BitVec 64) (size : Fin 9) (s : State), 0x80000000 ≤ addr.toNat → addr.toNat + size.val ≤ 2 ^ 32 → s.committedAt addr.toNat size = true → who ≠ .loader → 
      ∃ u, exec (.registerWrite dt who addr value size) s = .next u ∧ u.bus.errs = s.bus.errs + 1 ∧ OnlyChanges [.clk, .bus, .log, .reg .err, .sets] [] s u)

/-- Entering and leaving a power state. An island with no work outstanding enters the deepest state, no deeper than its ceiling, whose wake time plus its margin fits before its earliest known event (of R22's boundaries, the delay list and the event that no register shows), and its ceiling when there is none; an event that comes earlier counts LATE when the island is not in Run; a completed wake brings the island to Run. Bulk memory is in self-refresh exactly while every island that can access it is in Rest (which islands these are is deduced, log 51). -/
def Obligations.PowerStates : Prop :=
  (∀ (dt : Nat) (ix : Fin 31) (left : Option Nat) (s : State), 
      ∃ u, exec (.powerStateEntry dt ix left) s = .next u ∧ u.get (PWR_ISL_STATE ix) ≤ s.islandCeil ix ∧ ((s.elapse dt).earliest ix left = none → u.get (PWR_ISL_STATE ix) = s.islandCeil ix) ∧ (∀ t ∈ (s.elapse dt).earliest ix left, u.get (PWR_ISL_STATE ix) = 0 ∨ wakeTime (u.get (PWR_ISL_STATE ix)) + s.get (PWR_ISL_MARGIN ix) * 1000 ≤ t) ∧ (∀ t ∈ (s.elapse dt).earliest ix left, ∀ v : Fin 4, u.get (PWR_ISL_STATE ix) < v.val → v.val ≤ s.islandCeil ix → t < wakeTime v + s.get (PWR_ISL_MARGIN ix) * 1000) ∧ (u.pow.refresh = bulkIslands.all fun k => u.get (PWR_ISL_STATE k) == 3) ∧ OnlyChanges [.clk, .pow, .sets] [PWR_ISL ix] s u) ∧
  (∀ (dt : Nat) (ix : Fin 31) (s : State), s.get (PWR_ISL_STATE ix) ≠ 0 → 
      ∃ u, exec (.lateWake dt ix) s = .next u ∧ u.get (PWR_ISL_LATE ix) = min (s.get (PWR_ISL_LATE ix) + 1) 65535 ∧ u.get (PWR_ISL_STATE ix) = s.get (PWR_ISL_STATE ix) ∧ OnlyChanges [.clk, .sets] [PWR_ISL ix] s u) ∧
  (∀ (dt : Nat) (ix : Fin 31) (s : State), s.get (PWR_ISL_STATE ix) = 0 → 
      ∃ u, exec (.lateWake dt ix) s = .next u ∧ OnlyChanges [.clk, .sets] [] s u) ∧
  (∀ (dt : Nat) (ix : Fin 31) (s : State), 
      ∃ u, exec (.wakeComplete dt ix) s = .next u ∧ u.get (PWR_ISL_STATE ix) = 0 ∧ (u.pow.refresh = bulkIslands.all fun k => u.get (PWR_ISL_STATE k) == 3) ∧ (∀ k : Fin 31, k ≠ ix → u.rd (PWR_ISL k) = s.rd (PWR_ISL k)))

/-- The end of the conservation guarantee. An uncorrected ECC error, a supply, temperature or reference outside its range and an audit mismatch each end the guarantee: HELD is 0 and stays 0, the first cause (of those at one instant the lowest) is recorded with its island and T32 stamp, each is reported as a severe error, and every enabled axis is then in FAULT: with cause 0x01 and reaction 0x0 where it was not in FAULT before. A supply below the supervisor's limits takes the part into reset. A measurement within range, and an audit without mismatch, only show what was measured. -/
def Obligations.GuaranteeEnds : Prop :=
  (∀ (dt : Nat) (bulk : Bool) (ix : Fin 31) (s : State), 
      ∃ u, exec (.uncorrectedEccError dt bulk ix) s = .next u ∧ u.get ERR_GUARD_HELD = 0 ∧ (if s.get ERR_GUARD_HELD = 1 ∨ (s.pow.guardAt = some (s.elapse dt).clk.elapsed ∧ (if bulk then 1 else 2) < s.get ERR_GUARD_CAUSE) then u.get ERR_GUARD_CAUSE = (if bulk then 1 else 2) ∧ u.get ERR_GUARD_ISL_ISL = (if bulk then 0x16 else ix.val) ∧ u.get ERR_GUARD_ISLAND_HI = (if bulk then 0x16 else ix.val) / 16 ∧ u.rd ERR_GUARD_T = (s.elapse dt).t32 else u.rd ERR_GUARD = s.rd ERR_GUARD ∧ u.rd ERR_GUARD_ISL = s.rd ERR_GUARD_ISL ∧ u.rd ERR_GUARD_T = s.rd ERR_GUARD_T) ∧ (∀ n : Fin 256, s.enabled n = true → u.axState n = 6) ∧ (∀ n : Fin 256, 1 ≤ s.axState n → s.axState n ≤ 5 → u.get (PRF_AXST_CAUSE n) = 1 ∧ u.get (PRF_AXST_REACT n) = 0 ∧ u.enabled n = false) ∧ ((∀ n : Fin 256, s.enabled n = false) → u.rd (ERR_PRES (if bulk then 0x16 else ix.val)) = (s.rd (ERR_PRES (if bulk then 0x16 else ix.val)) + 1) % 2 ^ 32)) ∧
  (∀ (dt : Nat) (vin vioa viob : BitVec 16) (regok : BitVec 8) (s : State), supplyOut vin.toNat vioa.toNat viob.toNat regok.toNat = true → supervised vin.toNat vioa.toNat viob.toNat regok.toNat = false → 
      ∃ u, exec (.supplyOutOfRange dt vin vioa viob regok) s = .next u ∧ u.get ERR_GUARD_HELD = 0 ∧ (if s.get ERR_GUARD_HELD = 1 ∨ (s.pow.guardAt = some (s.elapse dt).clk.elapsed ∧ 3 < s.get ERR_GUARD_CAUSE) then u.get ERR_GUARD_CAUSE = 3 ∧ u.get ERR_GUARD_ISL_ISL = 0x19 ∧ u.get ERR_GUARD_ISLAND_HI = 0x19 / 16 ∧ u.rd ERR_GUARD_T = (s.elapse dt).t32 else u.rd ERR_GUARD = s.rd ERR_GUARD ∧ u.rd ERR_GUARD_ISL = s.rd ERR_GUARD_ISL ∧ u.rd ERR_GUARD_T = s.rd ERR_GUARD_T) ∧ (∀ n : Fin 256, s.enabled n = true → u.axState n = 6) ∧ (∀ n : Fin 256, 1 ≤ s.axState n → s.axState n ≤ 5 → u.get (PRF_AXST_CAUSE n) = 1 ∧ u.get (PRF_AXST_REACT n) = 0 ∧ u.enabled n = false) ∧ ((∀ n : Fin 256, s.enabled n = false) → u.rd (ERR_PRES 0x19) = (s.rd (ERR_PRES 0x19) + 1) % 2 ^ 32) ∧ u.rd PWR_VIN % 65536 = vin.toNat ∧ u.get PWR_VIO_VIOA = vioa.toNat ∧ u.get PWR_VIO_VIOB = viob.toNat ∧ u.get PWR_MON_REGOK = regok.toNat ∧ u.get PWR_MON_SUPOUT = 1) ∧
  (∀ (dt : Nat) (vin vioa viob : BitVec 16) (regok : BitVec 8) (s : State), supplyOut vin.toNat vioa.toNat viob.toNat regok.toNat = false → 
      ∃ u, exec (.supplyOutOfRange dt vin vioa viob regok) s = .next u ∧ u.rd PWR_VIN % 65536 = vin.toNat ∧ u.get PWR_VIO_VIOA = vioa.toNat ∧ u.get PWR_VIO_VIOB = viob.toNat ∧ u.get PWR_MON_REGOK = regok.toNat ∧ OnlyChanges [.clk, .sets] [PWR_VIN, PWR_VIO, PWR_MON] s u) ∧
  (∀ (dt : Nat) (vin vioa viob : BitVec 16) (regok : BitVec 8) (s : State), supervised vin.toNat vioa.toNat viob.toNat regok.toNat = true → 
      ∃ u, exec (.supplyOutOfRange dt vin vioa viob regok) s = .next u ∧ u.boot.held = true ∧ u.boot.powerGood = false ∧ u.boot.started = false ∧ u.get CFG_STATE_STATE = 0 ∧ u.rd ERR_BOOT = s.rd ERR_BOOT ∧ u.clk.running = false ∧ u.bulk = [] ∧ (u.boot.vin = if vin.toNat < 9600 then .low else .ok) ∧ u.boot.vio = (decide (3000 ≤ vioa.toNat) && decide (3000 ≤ viob.toNat)) ∧ u.boot.regs = (regok.toNat == 0xFF)) ∧
  (∀ (dt : Nat) (t : BitVec 16) (s : State), ((t.toInt < -640 ∨ 2000 < t.toInt)) → 
      ∃ u, exec (.caseTempOutOfRange dt t) s = .next u ∧ u.get ERR_GUARD_HELD = 0 ∧ (if s.get ERR_GUARD_HELD = 1 ∨ (s.pow.guardAt = some (s.elapse dt).clk.elapsed ∧ 4 < s.get ERR_GUARD_CAUSE) then u.get ERR_GUARD_CAUSE = 4 ∧ u.get ERR_GUARD_ISL_ISL = 0x19 ∧ u.get ERR_GUARD_ISLAND_HI = 0x19 / 16 ∧ u.rd ERR_GUARD_T = (s.elapse dt).t32 else u.rd ERR_GUARD = s.rd ERR_GUARD ∧ u.rd ERR_GUARD_ISL = s.rd ERR_GUARD_ISL ∧ u.rd ERR_GUARD_T = s.rd ERR_GUARD_T) ∧ (∀ n : Fin 256, s.enabled n = true → u.axState n = 6) ∧ (∀ n : Fin 256, 1 ≤ s.axState n → s.axState n ≤ 5 → u.get (PRF_AXST_CAUSE n) = 1 ∧ u.get (PRF_AXST_REACT n) = 0 ∧ u.enabled n = false) ∧ ((∀ n : Fin 256, s.enabled n = false) → u.rd (ERR_PRES 0x19) = (s.rd (ERR_PRES 0x19) + 1) % 2 ^ 32) ∧ u.getS PWR_TEMP_TEMP = t.toInt ∧ u.getS PWR_TEMP_PEAK = max t.toInt (s.getS PWR_TEMP_PEAK) ∧ u.get PWR_MON_TEMPOUT = 1) ∧
  (∀ (dt : Nat) (t : BitVec 16) (s : State), -640 ≤ t.toInt → t.toInt ≤ 2000 → 
      ∃ u, exec (.caseTempOutOfRange dt t) s = .next u ∧ u.getS PWR_TEMP_TEMP = t.toInt ∧ u.getS PWR_TEMP_PEAK = max t.toInt (s.getS PWR_TEMP_PEAK) ∧ OnlyChanges [.clk, .sets] [PWR_TEMP] s u) ∧
  (∀ (dt : Nat) (s : State), 
      ∃ u, exec (.referenceClockFault dt) s = .next u ∧ u.get ERR_GUARD_HELD = 0 ∧ (if s.get ERR_GUARD_HELD = 1 ∨ (s.pow.guardAt = some (s.elapse dt).clk.elapsed ∧ 5 < s.get ERR_GUARD_CAUSE) then u.get ERR_GUARD_CAUSE = 5 ∧ u.get ERR_GUARD_ISL_ISL = 0x19 ∧ u.get ERR_GUARD_ISLAND_HI = 0x19 / 16 ∧ u.rd ERR_GUARD_T = (s.elapse dt).t32 else u.rd ERR_GUARD = s.rd ERR_GUARD ∧ u.rd ERR_GUARD_ISL = s.rd ERR_GUARD_ISL ∧ u.rd ERR_GUARD_T = s.rd ERR_GUARD_T) ∧ (∀ n : Fin 256, s.enabled n = true → u.axState n = 6) ∧ (∀ n : Fin 256, 1 ≤ s.axState n → s.axState n ≤ 5 → u.get (PRF_AXST_CAUSE n) = 1 ∧ u.get (PRF_AXST_REACT n) = 0 ∧ u.enabled n = false) ∧ ((∀ n : Fin 256, s.enabled n = false) → u.rd (ERR_PRES 0x19) = (s.rd (ERR_PRES 0x19) + 1) % 2 ^ 32) ∧ u.get PWR_MON_REFOUT = 1) ∧
  (∀ (dt : Nat) (k : Nat) (l : List Nat) (s : State), s.auditBad = k :: l → 
      ∃ u, exec (.conservationAudit dt) s = .next u ∧ u.get ERR_GUARD_HELD = 0 ∧ (if s.get ERR_GUARD_HELD = 1 ∨ (s.pow.guardAt = some (s.elapse dt).clk.elapsed ∧ 6 < s.get ERR_GUARD_CAUSE) then u.get ERR_GUARD_CAUSE = 6 ∧ u.get ERR_GUARD_ISL_ISL = k ∧ u.get ERR_GUARD_ISLAND_HI = k / 16 ∧ u.rd ERR_GUARD_T = (s.elapse dt).t32 else u.rd ERR_GUARD = s.rd ERR_GUARD ∧ u.rd ERR_GUARD_ISL = s.rd ERR_GUARD_ISL ∧ u.rd ERR_GUARD_T = s.rd ERR_GUARD_T) ∧ (∀ n : Fin 256, s.enabled n = true → u.axState n = 6) ∧ (∀ n : Fin 256, 1 ≤ s.axState n → s.axState n ≤ 5 → u.get (PRF_AXST_CAUSE n) = 1 ∧ u.get (PRF_AXST_REACT n) = 0 ∧ u.enabled n = false) ∧ ((∀ n : Fin 256, s.enabled n = false) → u.rd (ERR_PRES k) = (s.rd (ERR_PRES k) + 1) % 2 ^ 32)) ∧
  (∀ (dt : Nat) (s : State), s.auditBad = [] → 
      ∃ u, exec (.conservationAudit dt) s = .next u ∧ OnlyChanges [.clk, .sets] [] s u)

/-- Reset and the beginning of a start. A supply outside the supervisor's limits and a low RESET_N hold the part in reset: every register word holds its reset value, but for the count of starts and the number of records in MRAM; memory, queues, tokens and clock are empty; the flash, what MRAM holds of the recipe and the security version, and the JTAG state stay. With every supply back PWR_GOOD is high again. The supervisor releases the part 10 ms later, RESET_N when it goes high; the last of the two to release it starts the sequence: ERR_BOOT rises by 1 and CFG_STATE shows RESET, or TEST when TEST_MODE is high. -/
def Obligations.ResetAndRelease : Prop :=
  (∀ (dt : Nat) (vin : VinLevel) (vio regs : Bool) (s : State), (vin ≠ .ok ∨ vio = false ∨ regs = false) → 
      ∃ u, exec (.supplyFault dt vin vio regs) s = .next u ∧ (∀ r : Fin 4096, 0x1F000000 + 4 * r.val ∉ [ERR_BOOT, ERR_LOGST] → u.rd (0x1F000000 + 4 * r.val) = resetWord (0x1F000000 + 4 * r.val) % 2 ^ 32) ∧ (∀ a, a ∉ [ERR_BOOT, ERR_LOGST] → u.rd a = resetWord a % 2 ^ 32) ∧ u.rd ERR_BOOT = s.rd ERR_BOOT ∧ u.bulk = [] ∧ u.boot.flash = s.boot.flash ∧ u.boot.lastRecipe = s.boot.lastRecipe ∧ u.boot.minSec = s.boot.minSec ∧ u.boot.started = false ∧ u.jtag = s.jtag ∧ u.que = State.reset.que ∧ u.knl = State.reset.knl ∧ u.clk.running = false ∧ u.boot.held = true ∧ u.boot.powerGood = false ∧ (u.boot.vqspi = if vin = .ok then (if s.boot.vqspi = .off then .initial else s.boot.vqspi) else .off) ∧ (s.boot.started = false ∧ s.log.toPersist = [] → u.log.slots = s.log.slots)) ∧
  (∀ (dt : Nat) (vin : VinLevel) (vio regs : Bool) (s : State), vin = .ok → vio = true → regs = true → 
      ∃ u, exec (.supplyFault dt vin vio regs) s = .next u ∧ u.boot.powerGood = true ∧ u.boot.held = s.boot.held ∧ (u.boot.vqspi = if vin = .ok then (if s.boot.vqspi = .off then .initial else s.boot.vqspi) else .off) ∧ (u.boot.supplyAt = if s.boot.powerGood then s.boot.supplyAt else (s.elapse dt).clk.elapsed) ∧ OnlyChanges [.clk, .boot, .sets] [] s u) ∧
  (∀ (dt : Nat) (s : State), 
      ∃ u, exec (.resetNAssert dt) s = .next u ∧ (∀ r : Fin 4096, 0x1F000000 + 4 * r.val ∉ [ERR_BOOT, ERR_LOGST] → u.rd (0x1F000000 + 4 * r.val) = resetWord (0x1F000000 + 4 * r.val) % 2 ^ 32) ∧ (∀ a, a ∉ [ERR_BOOT, ERR_LOGST] → u.rd a = resetWord a % 2 ^ 32) ∧ u.rd ERR_BOOT = s.rd ERR_BOOT ∧ u.bulk = [] ∧ u.boot.flash = s.boot.flash ∧ u.boot.lastRecipe = s.boot.lastRecipe ∧ u.boot.minSec = s.boot.minSec ∧ u.boot.started = false ∧ u.jtag = s.jtag ∧ u.que = State.reset.que ∧ u.knl = State.reset.knl ∧ u.clk.running = false ∧ u.boot.resetLow = true ∧ (s.log.toPersist = [] → u.log.slots = s.log.slots)) ∧
  (∀ (dt : Nat) (qv ck test : Bool) (s : State), s.boot.held = true → s.boot.powerGood = true → s.boot.supplyAt + 10000000 ≤ (s.elapse dt).clk.elapsed → s.boot.resetLow = false → 
      ∃ u, exec (.supervisorRelease dt qv ck test) s = .next u ∧ u.boot.held = false ∧ u.rd ERR_BOOT = (s.rd ERR_BOOT + 1) % 2 ^ 32 ∧ (u.get CFG_STATE_STATE = if test then 0xF else 0) ∧ u.boot.started = true ∧ u.boot.qvsel = qv ∧ u.boot.clksel = ck ∧ OnlyChanges [.clk, .boot, .sets] [ERR_BOOT, CFG_STATE] s u) ∧
  (∀ (dt : Nat) (qv ck test : Bool) (s : State), s.boot.resetLow = true → s.boot.held = false → 
      ∃ u, exec (.resetNRelease dt qv ck test) s = .next u ∧ u.boot.resetLow = false ∧ u.rd ERR_BOOT = (s.rd ERR_BOOT + 1) % 2 ^ 32 ∧ (u.get CFG_STATE_STATE = if test then 0xF else 0) ∧ u.boot.started = true ∧ u.boot.qvsel = qv ∧ u.boot.clksel = ck ∧ OnlyChanges [.clk, .boot, .sets] [ERR_BOOT, CFG_STATE] s u)

/-- The states of the start sequence. In RESET the clocks start the local clock at 0 with empty memory; in CLOCKS the flash is reset with 0x66 and 0x99, and 1 ms later it answers 0x5A; SELECT takes the bank of the newer valid header, or goes to NO_IMAGE with both causes; LOAD, VERIFY and APPLY lead on to the next state, or reject the bank; APPLY makes the image the base and locks the Leash; RECIPE ends in READY with the start recipe, else FALLBACK, else none. -/
def Obligations.StartStates : Prop :=
  (∀ (dt : Nat) (s : State), s.boot.started = true → s.get CFG_STATE_STATE = 0 → 
      ∃ u, exec (.clocks dt) s = .next u ∧ u.get CFG_STATE_STATE = 1 ∧ u.clk.running = true ∧ u.now = 0 ∧ u.bulk = [] ∧ OnlyChanges [.clk, .bulk, .sets] [CFG_STATE] s u) ∧
  (∀ (dt : Nat) (sfdp : Bool) (density : BitVec 8) (quad : Bool) (mhz : BitVec 8) (cmd13 susp : Bool) (s : State), s.boot.started = true → s.get CFG_STATE_STATE = 1 → 
      ∃ u, exec (.flashReset dt sfdp density quad mhz cmd13 susp) s = .next u ∧ u.get CFG_STATE_STATE = 2 ∧ u.boot.qspi = s.boot.qspi ++ [(0x66, 12500), (0x99, 12500)] ∧ OnlyChanges [.clk, .boot, .sets] [CFG_STATE] s u) ∧
  (∀ (dt : Nat) (sfdp : Bool) (density : BitVec 8) (quad : Bool) (mhz : BitVec 8) (cmd13 susp : Bool) (s : State), s.boot.started = true → s.get CFG_STATE_STATE = 2 → s.boot.resetAt + 1000000 ≤ (s.elapse dt).clk.elapsed → 
      ∃ u, exec (.flashReset dt sfdp density quad mhz cmd13 susp) s = .next u ∧ u.get CFG_STATE_STATE = 3 ∧ (sfdp = true → u.boot.qspi = s.boot.qspi ++ [(0x5A, 25000)]) ∧ (sfdp = false ∧ cmd13 = true → u.boot.qspi = s.boot.qspi ++ [(0x5A, 25000), (0x13, 25000)] ∧ u.get CFG_FLASH_CLK = 25) ∧ u.get CFG_FLASH_DENSITY = density.toNat ∧ u.get CFG_FLASH_SFDP = b2n sfdp ∧ (u.get CFG_FLASH_MODE = if sfdp then (if quad then 5 else 4) else if cmd13 then 1 else 2) ∧ (sfdp = true → u.get CFG_FLASH_CLK = min 100 mhz.toNat) ∧ u.boot.suspend = (sfdp && susp) ∧ OnlyChanges [.clk, .boot, .fresh, .sets] [CFG_STATE, CFG_FLASH] s u) ∧
  (∀ (dt : Nat) (to0 to1 : Bool) (c0 c1 : Fin 16) (s : State), s.boot.started = true → s.get CFG_STATE_STATE = 3 → ((if to0 then 0xC else s.bankCause 0) = c0.val) → ((if to1 then 0xC else s.bankCause 1) = c1.val) → c0.val ≠ 0 → c1.val ≠ 0 → 
      ∃ u, exec (.select dt to0 to1) s = .next u ∧ u.get CFG_STATE_STATE = 0xE ∧ u.get CFG_BOOT_CAUSE0 = c0 ∧ u.get CFG_BOOT_CAUSE1 = c1 ∧ OnlyChanges [.clk, .boot, .sets] [CFG_STATE, CFG_BOOT] s u) ∧
  (∀ (dt : Nat) (to0 to1 : Bool) (c0 c1 : Fin 16) (s : State), s.boot.started = true → s.get CFG_STATE_STATE = 3 → ((if to0 then 0xC else s.bankCause 0) = c0.val) → ((if to1 then 0xC else s.bankCause 1) = c1.val) → c0.val = 0 → (c1.val ≠ 0 ∨ imgSeq (s.flashBytes (0x100000 + 0xC00000 * 1) 0x40) ≤ imgSeq (s.flashBytes (0x100000 + 0xC00000 * 0) 0x40)) → 
      ∃ u, exec (.select dt to0 to1) s = .next u ∧ u.get CFG_STATE_STATE = 4 ∧ u.boot.banks.head? = some (0, 0) ∧ OnlyChanges [.clk, .boot, .sets] [CFG_STATE, CFG_BOOT] s u) ∧
  (∀ (dt : Nat) (to0 to1 : Bool) (c0 c1 : Fin 16) (s : State), s.boot.started = true → s.get CFG_STATE_STATE = 3 → ((if to0 then 0xC else s.bankCause 0) = c0.val) → ((if to1 then 0xC else s.bankCause 1) = c1.val) → c1.val = 0 → (c0.val ≠ 0 ∨ imgSeq (s.flashBytes (0x100000 + 0xC00000 * 0) 0x40) < imgSeq (s.flashBytes (0x100000 + 0xC00000 * 1) 0x40)) → 
      ∃ u, exec (.select dt to0 to1) s = .next u ∧ u.get CFG_STATE_STATE = 4 ∧ u.boot.banks.head? = some (1, 0) ∧ OnlyChanges [.clk, .boot, .sets] [CFG_STATE, CFG_BOOT] s u) ∧
  (∀ (dt : Nat) (timeout : Bool) (b c : Nat) (rest : List (Nat × Nat)) (a n : Nat) (r : Nat × Image) (s : State), s.boot.started = true → s.get CFG_STATE_STATE = 4 → s.boot.banks = (b, c) :: rest → s.present b = some (a, n) → r = readImage 1 n (s.flashBytes a 0x40) (s.flashBytes a (min (imgLength (s.flashBytes a 0x40)) n)) → 
      ∃ u, exec (.load dt timeout) s = .next u ∧ (timeout = false ∧ r.1 = 0 ∧ r.2.typesOk 1 = true → u.get CFG_STATE_STATE = 5 ∧ u.boot.cand = some r.2) ∧ ((timeout = true ∨ r.1 ≠ 0 ∨ r.2.typesOk 1 = false) ∧ rest = [] → u.get CFG_STATE_STATE = 0xE) ∧ OnlyChanges [.clk, .boot, .sets] [CFG_STATE, CFG_BOOT] s u) ∧
  (∀ (dt : Nat) (i : Image) (b c : Nat) (s : State), s.boot.started = true → s.get CFG_STATE_STATE = 5 → s.boot.cand = some i → s.boot.banks = [(b, c)] → 
      ∃ u, exec (.verify dt) s = .next u ∧ (s.imageCause i = 0 → u.get CFG_STATE_STATE = 6 ∧ u.boot.cand = some i) ∧ (s.imageCause i ≠ 0 → u.get CFG_STATE_STATE = 0xE ∧ u.get (if b = 0 then CFG_BOOT_CAUSE0 else CFG_BOOT_CAUSE1) = s.imageCause i % 16) ∧ OnlyChanges [.clk, .boot, .sets] [CFG_STATE, CFG_BOOT] s u) ∧
  (∀ (dt : Nat) (selfOk mramOk : Bool) (i : Image) (s : State), s.boot.started = true → s.get CFG_STATE_STATE = 6 → s.boot.cand = some i → 
      ∃ u, exec (.apply dt selfOk mramOk) s = .next u ∧ u.get CFG_STATE_STATE = 7 ∧ u.boot.base = some i ∧ u.get LSH_STAT_LOCKED = 1 ∧ u.rd CFG_SEQ = imgSeq i.header % 2 ^ 32) ∧
  (∀ (dt : Nat) (to1 to2 : Bool) (k1 k2 : Nat) (s : State), s.boot.started = true → s.get CFG_STATE_STATE = 7 → s.startSlot = k1 → s.get CFG_RCP_FALLBACK = k2 → 
      ∃ u, exec (.recipe dt to1 to2) s = .next u ∧ u.get CFG_STATE_STATE = 8 ∧ (k1 = 0xF → u.boot.recipe = s.boot.recipe ∧ u.get CFG_RCP_ACTIVE = s.get CFG_RCP_ACTIVE) ∧ (k1 ≠ 0xF ∧ ((s.elapse dt).checkRecipe k1 to1).1 = 0 → u.boot.recipe = some ((s.elapse dt).checkRecipe k1 to1).2 ∧ u.get CFG_RCP_ACTIVE = k1 % 16) ∧ (k1 ≠ 0xF ∧ ((s.elapse dt).checkRecipe k1 to1).1 ≠ 0 ∧ k2 ≠ 0xF ∧ k2 ≠ k1 ∧ ((s.elapse dt).checkRecipe k2 to2).1 = 0 → u.boot.recipe = some ((s.elapse dt).checkRecipe k2 to2).2 ∧ u.get CFG_RCP_ACTIVE = k2) ∧ (k1 ≠ 0xF ∧ ((s.elapse dt).checkRecipe k1 to1).1 ≠ 0 ∧ (k2 = 0xF ∨ k2 = k1 ∨ ((s.elapse dt).checkRecipe k2 to2).1 ≠ 0) → u.boot.recipe = s.boot.recipe ∧ u.get CFG_RCP_ACTIVE = s.get CFG_RCP_ACTIVE)) ∧
  (∀ (dt : Nat) (s : State), s.get RNG_ST_READY = 1 → 
      ∃ u, exec (.bypassOpen dt) s = .next u ∧ u.get RNG_ST_BYP = 0 ∧ OnlyChanges [.clk, .sets] [RNG_ST] s u)

/-- A recipe changeover. A request is refused with 0x9 while a changeover or a start is in progress, with 0xA for a slot that does not exist, with 0x8 while an axis is neither DISABLED nor in STANDSTILL (an order that the model chose, log 60), and else accepted with 0x1; a rejected recipe ends it with the result of its cause and changes nothing else of the configuration; an accepted one is staged; the acknowledgement of a staged set is taken off, the last one fixes the commit cycle; a missing one ends the changeover with 0xF; the commit makes the recipe the one in force, with RESULT 0x2, and ends the path of every configured group. -/
def Obligations.RecipeChangeover : Prop :=
  (∀ (dt : Nat) (slot : Fin 16) (busy : Bool) (s : State), (s.get CFG_CHG_BUSY = 1 ∨ s.get CFG_STATE_STATE ≠ 8) → 
      ∃ u, exec (.changeoverRequest dt slot busy) s = .next u ∧ u.get CFG_CHG_RESULT = 9 ∧ u.get CFG_CHG_SLOT = slot ∧ u.get CFG_CHG_BUSY = s.get CFG_CHG_BUSY ∧ OnlyChanges [.clk, .sets] [CFG_CHG] s u) ∧
  (∀ (dt : Nat) (slot : Fin 16) (busy : Bool) (s : State), s.get CFG_CHG_BUSY = 0 → s.get CFG_STATE_STATE = 8 → (8 ≤ slot.val ∨ s.present (0x10 + slot.val) = none ∨ s.boot.dlSlot = some slot.val) → 
      ∃ u, exec (.changeoverRequest dt slot busy) s = .next u ∧ u.get CFG_CHG_RESULT = 0xA ∧ u.get CFG_CHG_BUSY = 0 ∧ OnlyChanges [.clk, .sets] [CFG_CHG] s u) ∧
  (∀ (dt : Nat) (slot : Fin 16) (busy : Bool) (s : State), s.get CFG_CHG_BUSY = 0 → s.get CFG_STATE_STATE = 8 → slot.val < 8 → s.present (0x10 + slot.val) ≠ none → s.boot.dlSlot ≠ some slot.val → (∃ n : Fin 256, s.axState n ≠ 0 ∧ s.axState n ≠ 2) → 
      ∃ u, exec (.changeoverRequest dt slot busy) s = .next u ∧ u.get CFG_CHG_RESULT = 8 ∧ u.get CFG_CHG_BUSY = 0 ∧ OnlyChanges [.clk, .sets] [CFG_CHG] s u) ∧
  (∀ (dt : Nat) (slot : Fin 16) (busy : Bool) (s : State), s.get CFG_CHG_BUSY = 0 → s.get CFG_STATE_STATE = 8 → slot.val < 8 → s.present (0x10 + slot.val) ≠ none → s.boot.dlSlot ≠ some slot.val → ((∀ n : Fin 256, s.axState n = 0 ∨ s.axState n = 2)) → (busy = false ∨ s.boot.suspend = true) → 
      ∃ u, exec (.changeoverRequest dt slot busy) s = .next u ∧ u.get CFG_CHG_RESULT = 1 ∧ u.get CFG_CHG_BUSY = 1 ∧ u.get CFG_STATE_STATE = 9 ∧ u.boot.chgSlot = slot ∧ u.boot.staged = none ∧ OnlyChanges [.clk, .boot, .sets] [CFG_CHG, CFG_STATE] s u) ∧
  (∀ (dt : Nat) (slot : Fin 16) (busy : Bool) (s : State), s.get CFG_CHG_BUSY = 0 → s.get CFG_STATE_STATE = 8 → slot.val < 8 → s.present (0x10 + slot.val) ≠ none → s.boot.dlSlot ≠ some slot.val → ((∀ n : Fin 256, s.axState n = 0 ∨ s.axState n = 2)) → busy = true → s.boot.suspend = false → 
      ∃ u, exec (.changeoverRequest dt slot busy) s = .next u ∧ u.get CFG_CHG_RESULT = 9 ∧ u.get CFG_CHG_BUSY = 0 ∧ OnlyChanges [.clk, .sets] [CFG_CHG] s u) ∧
  (∀ (dt : Nat) (timeout : Bool) (c : Nat) (s : State), s.get CFG_CHG_BUSY = 1 → s.boot.staged = none → ((s.elapse dt).checkRecipe s.boot.chgSlot timeout).1 = c → c ≠ 0 → 
      ∃ u, exec (.changeoverStaged dt timeout) s = .next u ∧ (u.get CFG_CHG_RESULT = if c = 0xB then 0xD else if c = 0xC then 0xE else if c = 0xD then 0xC else 0xB) ∧ u.get CFG_CHG_BUSY = 0 ∧ u.get CFG_STATE_STATE = 8 ∧ u.boot.recipe = s.boot.recipe ∧ OnlyChanges [.clk, .boot, .ring, .knl, .reg .knl, .sets] [CFG_CHG, CFG_STATE] s u) ∧
  (∀ (dt : Nat) (timeout : Bool) (r : Image) (s : State), s.get CFG_CHG_BUSY = 1 → s.boot.staged = none → 
      ∃ u, exec (.changeoverStaged dt timeout) s = .next u ∧ ((s.elapse dt).checkRecipe s.boot.chgSlot timeout = (0, r) → u.boot.staged = some r ∧ u.get CFG_CHG_BUSY = 1 ∧ u.boot.recipe = s.boot.recipe) ∧ OnlyChanges [.clk, .boot, .ring, .knl, .reg .knl, .sets] [CFG_CHG, CFG_STATE] s u) ∧
  (∀ (dt : Nat) (m : Fin 256) (k : Fin 16) (s : State), s.boot.staged.isSome = true → k.val ∈ (s.ringMem m).stageOwed → 
      ∃ u, exec (.stagedSetAck dt m k) s = .next u ∧ ((u.ringMem m).stageOwed = (s.ringMem m).stageOwed.filter fun x => x != k.val) ∧ (u.stageWaits = false → u.ring.cmt = some (s.elapse dt).commitCycle) ∧ (u.stageWaits = true → u.ring.cmt = s.ring.cmt) ∧ OnlyChanges [.clk, .ring, .sets] [] s u) ∧
  (∀ (dt : Nat) (t : Nat) (s : State), s.ring.stageAt = some t → s.stageWaits = true → s.boot.staged.isSome = true → t + 1100000000 ≤ (s.elapse dt).clk.elapsed → 
      ∃ u, exec (.changeoverAckTimeout dt) s = .next u ∧ u.get CFG_CHG_RESULT = 0xF ∧ u.get CFG_CHG_BUSY = 0 ∧ u.get CFG_STATE_STATE = 8 ∧ u.boot.staged = none ∧ u.boot.recipe = s.boot.recipe ∧ u.stageWaits = false ∧ OnlyChanges [.clk, .boot, .ring, .knl, .reg .knl, .sets] [CFG_CHG, CFG_STATE] s u) ∧
  (∀ (dt : Nat) (r : Image) (s : State), s.boot.staged = some r → (s.elapse dt).changeDue = true → 
      ∃ u, exec (.changeoverCommit dt) s = .next u ∧ u.get CFG_RCP_ACTIVE = s.boot.chgSlot % 16 ∧ u.boot.recipe = some r ∧ u.boot.staged = none ∧ u.get CFG_CHG_RESULT = 2 ∧ u.get CFG_CHG_BUSY = 0 ∧ u.get CFG_STATE_STATE = 8 ∧ u.get CFG_CHG_COUNT = min (s.get CFG_CHG_COUNT + 1) 65535 ∧ (∀ g : Fin 16, (s.get (PRF_GRPST_STATE g) = 0 → u.get (PRF_GRPST_STATE g) = 0) ∧ (s.get (PRF_GRPST_STATE g) ≠ 0 → u.get (PRF_GRPST_STATE g) = 1 ∨ u.get (PRF_GRPST_STATE g) = 5)))

/-- Only a lowering of a limit is accepted. A write of an effective limit that lowers it is accepted and waits for its boundary; any other has no effect on the limits, is counted in REFUSED, and is reported as an access error. -/
def Obligations.LeashLowering : Prop :=
  (∀ (dt : Nat) (who : Accessor) (addr : BitVec 32) (value : BitVec 64) (e : EffField) (s : State), effField addr.toNat = some e → e.lowers (value.toNat / 2 ^ e.fld.lo % 2 ^ e.fld.width) (s.effGet e.fld) = true → 
      ∃ u, exec (.leashEffectiveWrite dt who addr value) s = .next u ∧ u.lim.lowerings = s.lim.lowerings ++ [{ fld := e.fld, value := (value.toNat / 2 ^ e.fld.lo % 2 ^ e.fld.width), time := (s.elapse dt).clk.elapsed }] ∧ OnlyChanges [.clk, .lim, .sets] [] s u) ∧
  (∀ (dt : Nat) (who : Accessor) (addr : BitVec 32) (value : BitVec 64) (e : EffField) (s : State), effField addr.toNat = some e → e.lowers (value.toNat / 2 ^ e.fld.lo % 2 ^ e.fld.width) (s.effGet e.fld) = false → 
      ∃ u, exec (.leashEffectiveWrite dt who addr value) s = .next u ∧ u.get LSH_STAT_REFUSED = min (s.get LSH_STAT_REFUSED + 1) 255 ∧ u.bus.errs = s.bus.errs + 1 ∧ u.effGet e.fld = s.effGet e.fld ∧ u.rd (ERR_PRES (accIsland who)) = (s.rd (ERR_PRES (accIsland who)) + 1) % 2 ^ 32 ∧ OnlyChanges [.clk, .bus, .log, .reg .err, .sets] [LSH_STAT] s u)

/-- When a lowering takes effect. At a boundary of the owner of a limit every lowering of it that was accepted before takes effect together, the strictest of them; before that nothing changes. -/
def Obligations.LeashTakesEffect : Prop :=
  (∀ (dt : Nat) (addr : BitVec 32) (e : EffField) (s : State), effField addr.toNat = some e → (s.elapse dt).limitDue e.owner = true → (((s.elapse dt).lim.lowerings.filter fun l => l.fld == e.fld && (e.owner == .dio || decide (l.time < (s.elapse dt).clk.elapsed))) ≠ []) → (∀ l ∈ s.lim.lowerings, l.value < 2 ^ l.fld.width) → 
      ∃ u, exec (.loweringTakesEffect dt addr) s = .next u ∧ (u.effGet e.fld = (((s.elapse dt).lim.lowerings.filter fun l => l.fld == e.fld && (e.owner == .dio || decide (l.time < (s.elapse dt).clk.elapsed))).map (·.value)).foldl e.strict (s.effGet e.fld)) ∧ (∀ l ∈ u.lim.lowerings, l ∈ s.lim.lowerings ∧ l ∉ ((s.elapse dt).lim.lowerings.filter fun l => l.fld == e.fld && (e.owner == .dio || decide (l.time < (s.elapse dt).clk.elapsed)))) ∧ (addr.toNat ≠ LSH_DOUT_E → OnlyChanges [.clk, .lim, .sets] [e.fld.addr, e.fld.addr + 4] s u)) ∧
  (∀ (dt : Nat) (addr : BitVec 32) (e : EffField) (s : State), effField addr.toNat = some e → ((s.elapse dt).limitDue e.owner = false ∨ ((s.elapse dt).lim.lowerings.filter fun l => l.fld == e.fld && (e.owner == .dio || decide (l.time < (s.elapse dt).clk.elapsed))) = []) → 
      ∃ u, exec (.loweringTakesEffect dt addr) s = .next u ∧ OnlyChanges [.clk, .sets] [] s u)

/-- A commit request of an axis entry, and its effect. A request is refused with 0x8 during a changeover or with 15 commits pending, with 0x9 while one of the entry is pending, with 0xA when EXPGEN is not the committed GEN, with 0xB when ENTRY or ECRC is wrong, with 0xC for a field outside its range, with 0xD when a Disabled-only section of an axis that is not DISABLED changed; else it is accepted with 0x1, or with 0x2 when nothing changed. A commit that is due writes its snapshot and its new GEN into the committed entry. -/
def Obligations.TableCommits : Prop :=
  (∀ (dt : Nat) (n : Fin 256) (g : BitVec 16) (s : State), (s.get CFG_CHG_BUSY = 1 ∨ 15 ≤ s.lim.commits.length) → 
      ∃ u, exec (.tableCommitRequest dt n g) s = .next u ∧ u.get PRF_TCST_RESULT = 8 ∧ u.get PRF_TCST_ENTRY = n ∧ u.lim.commits = s.lim.commits ∧ OnlyChanges [.clk, .sets] [PRF_TCST] s u) ∧
  (∀ (dt : Nat) (n : Fin 256) (g : BitVec 16) (s : State), s.get CFG_CHG_BUSY = 0 → s.lim.commits.length < 15 → (∃ c ∈ s.lim.commits, c.entry = n.val) → 
      ∃ u, exec (.tableCommitRequest dt n g) s = .next u ∧ u.get PRF_TCST_RESULT = 9 ∧ u.get PRF_TCST_ENTRY = n ∧ u.lim.commits = s.lim.commits ∧ OnlyChanges [.clk, .sets] [PRF_TCST] s u) ∧
  (∀ (dt : Nat) (n : Fin 256) (g : BitVec 16) (s : State), s.get CFG_CHG_BUSY = 0 → s.lim.commits.length < 15 → (∀ c ∈ s.lim.commits, c.entry ≠ n.val) → g.toNat ≠ s.get (PRF_AXGEN_CGEN n) → 
      ∃ u, exec (.tableCommitRequest dt n g) s = .next u ∧ u.get PRF_TCST_RESULT = 0xA ∧ u.get PRF_TCST_ENTRY = n ∧ u.lim.commits = s.lim.commits ∧ OnlyChanges [.clk, .sets] [PRF_TCST] s u) ∧
  (∀ (dt : Nat) (n : Fin 256) (g : BitVec 16) (s : State), s.get CFG_CHG_BUSY = 0 → s.lim.commits.length < 15 → (∀ c ∈ s.lim.commits, c.entry ≠ n.val) → g.toNat = s.get (PRF_AXGEN_CGEN n) → entryNamed n (s.working n) = false → 
      ∃ u, exec (.tableCommitRequest dt n g) s = .next u ∧ u.get PRF_TCST_RESULT = 0xB ∧ u.get PRF_TCST_ENTRY = n ∧ u.lim.commits = s.lim.commits ∧ OnlyChanges [.clk, .sets] [PRF_TCST] s u) ∧
  (∀ (dt : Nat) (n : Fin 256) (g : BitVec 16) (s : State), s.get CFG_CHG_BUSY = 0 → s.lim.commits.length < 15 → (∀ c ∈ s.lim.commits, c.entry ≠ n.val) → g.toNat = s.get (PRF_AXGEN_CGEN n) → entryNamed n (s.working n) = true → (entryOk s.entryEnv n (s.working n) = false ∨ (n.val < 32 ∧ differ (s.committed n) (s.working n) 0x200 0x210 = true) ∨ s.unitMissing n (s.working n) = true) → 
      ∃ u, exec (.tableCommitRequest dt n g) s = .next u ∧ u.get PRF_TCST_RESULT = 0xC ∧ u.get PRF_TCST_ENTRY = n ∧ u.lim.commits = s.lim.commits ∧ OnlyChanges [.clk, .sets] [PRF_TCST] s u) ∧
  (∀ (dt : Nat) (n : Fin 256) (g : BitVec 16) (s : State), s.get CFG_CHG_BUSY = 0 → s.lim.commits.length < 15 → (∀ c ∈ s.lim.commits, c.entry ≠ n.val) → g.toNat = s.get (PRF_AXGEN_CGEN n) → entryNamed n (s.working n) = true → entryOk s.entryEnv n (s.working n) = true → (n.val < 32 → differ (s.committed n) (s.working n) 0x200 0x210 = false) → s.unitMissing n (s.working n) = false → s.axState n ≠ 0 → disabledOnlyChanged (s.committed n) (s.working n) = true → 
      ∃ u, exec (.tableCommitRequest dt n g) s = .next u ∧ u.get PRF_TCST_RESULT = 0xD ∧ u.get PRF_TCST_ENTRY = n ∧ u.lim.commits = s.lim.commits ∧ OnlyChanges [.clk, .sets] [PRF_TCST] s u) ∧
  (∀ (dt : Nat) (n : Fin 256) (g : BitVec 16) (s : State), s.get CFG_CHG_BUSY = 0 → s.lim.commits.length < 15 → (∀ c ∈ s.lim.commits, c.entry ≠ n.val) → g.toNat = s.get (PRF_AXGEN_CGEN n) → entryNamed n (s.working n) = true → entryOk s.entryEnv n (s.working n) = true → (n.val < 32 → differ (s.committed n) (s.working n) 0x200 0x210 = false) → s.unitMissing n (s.working n) = false → (s.axState n = 0 ∨ disabledOnlyChanged (s.committed n) (s.working n) = false) → differ (s.committed n) (s.working n) 0x010 0x3C0 = false → 
      ∃ u, exec (.tableCommitRequest dt n g) s = .next u ∧ u.get PRF_TCST_RESULT = 2 ∧ u.get PRF_TCST_NEWGEN = s.get (PRF_AXGEN_CGEN n) ∧ u.get PRF_TCST_ENTRY = n ∧ u.lim.commits = s.lim.commits ∧ OnlyChanges [.clk, .sets] [PRF_TCST] s u) ∧
  (∀ (dt : Nat) (n : Fin 256) (g : BitVec 16) (s : State), s.get CFG_CHG_BUSY = 0 → s.lim.commits.length < 15 → (∀ c ∈ s.lim.commits, c.entry ≠ n.val) → g.toNat = s.get (PRF_AXGEN_CGEN n) → entryNamed n (s.working n) = true → entryOk s.entryEnv n (s.working n) = true → (n.val < 32 → differ (s.committed n) (s.working n) 0x200 0x210 = false) → s.unitMissing n (s.working n) = false → (s.axState n = 0 ∨ disabledOnlyChanged (s.committed n) (s.working n) = false) → differ (s.committed n) (s.working n) 0x010 0x3C0 = true → 
      ∃ u, exec (.tableCommitRequest dt n g) s = .next u ∧ u.get PRF_TCST_RESULT = 1 ∧ (u.get PRF_TCST_NEWGEN = if g = 0xFFFF then 1 else g.toNat + 1) ∧ u.get PRF_TCST_PEND = s.lim.commits.length + 1 ∧ u.get (PRF_AXST_PENDCMT n) = 1 ∧ u.get PRF_TCST_ENTRY = n ∧ ((u.lim.commits.map fun c => (c.entry, c.snapshot)) = (s.lim.commits.map fun c => (c.entry, c.snapshot)) ++ [(n.val, s.working n)]) ∧ OnlyChanges [.clk, .lim, .sets] [PRF_TCST, PRF_AXST n] s u) ∧
  (∀ (dt : Nat) (n : Fin 256) (c : Commit) (s : State), (((s.elapse dt).lim.commits.filter fun c => c.entry == n.val && (s.elapse dt).commitDue c) = [c]) → (s.axis n).enHeld = false → 0x80000000 ≤ s.rd PRF_TBASE → s.rd PRF_TBASE ≤ 0xFFF80000 → 
      ∃ u, exec (.tableCommitEffect dt n) s = .next u ∧ u.get (PRF_AXGEN_CGEN n) = c.newGen % 65536 ∧ u.get (PRF_AXST_PENDCMT n) = 0 ∧ (∀ i : Fin 0x3BC, memByte u.bulk (s.entryAt n + 4 + i) = c.snapshot.getD (4 + i) 0) ∧ memByte u.bulk (s.entryAt n + 2) = BitVec.ofNat 8 c.newGen ∧ memByte u.bulk (s.workAt n + 2) = BitVec.ofNat 8 c.newGen ∧ (∀ d ∈ u.lim.commits, d.entry ≠ n.val)) ∧
  (∀ (dt : Nat) (n : Fin 256) (s : State), (((s.elapse dt).lim.commits.filter fun c => c.entry == n.val && (s.elapse dt).commitDue c) = []) → 
      ∃ u, exec (.tableCommitEffect dt n) s = .next u ∧ OnlyChanges [.clk, .sets] [] s u)

/-- Enable, disable and fault reset requests. An enable is held while a commit of the entry is pending, refused with the code of the first condition of R120 that fails, and else leads to ENABLING, with the caches of a local axis without an absolute encoder loaded, its set-point at the measured position, its PWM armed, its presets to come and its Sheepdog pending. A disable engages the brake of an axis at rest, or stops a moving one; a second request of the period is refused with 0x8. A fault reset is refused with 0xA, 0x7 or 0x9, or leads to DISABLED with the cause cleared. -/
def Obligations.AxisRequests : Prop :=
  (∀ (dt : Nat) (n : Fin 256) (f1 : Frame) (r : Nat) (f2 : Frame) (s : State), s.get (PRF_AXST_PENDCMT n) = 1 → s.axState n = 0 → 
      ∃ u, exec (.axisEnable dt n f1 r f2) s = .next u ∧ (u.axis n).enHeld = true ∧ u.axState n = 0 ∧ OnlyChanges [.clk, .axes, .sets] [] s u) ∧
  (∀ (dt : Nat) (n : Fin 256) (f1 : Frame) (r : Nat) (f2 : Frame) (s : State), s.get (PRF_AXST_PENDCMT n) = 0 → ((1 ≤ (s.axis n).moved ∧ (s.axis n).moved ≤ 3) ∨ bit (s.axis n).asked 0 = true) → s.awaitsRead n = false → 
      ∃ u, exec (.axisEnable dt n f1 r f2) s = .next u ∧ u.get (PRF_AXCTL_REFUSE n) = 8 ∧ u.axState n = s.axState n ∧ OnlyChanges [.clk, .sets] [PRF_AXCTL n] s u) ∧
  (∀ (dt : Nat) (n : Fin 256) (f1 : Frame) (r : Nat) (f2 : Frame) (s : State), s.get (PRF_AXST_PENDCMT n) = 0 → ((s.axis n).moved = 0 ∨ 4 ≤ (s.axis n).moved) → bit (s.axis n).asked 0 = false → s.axState n ≠ 0 → s.awaitsRead n = false → 
      ∃ u, exec (.axisEnable dt n f1 r f2) s = .next u ∧ u.get (PRF_AXCTL_REFUSE n) = 1 ∧ u.axState n = s.axState n ∧ OnlyChanges [.clk, .sets] [PRF_AXCTL n] s u) ∧
  (∀ (dt : Nat) (n : Fin 256) (f1 : Frame) (r : Nat) (f2 : Frame) (s : State), s.get (PRF_AXST_PENDCMT n) = 0 → ((s.axis n).moved = 0 ∨ 4 ≤ (s.axis n).moved) → bit (s.axis n).asked 0 = false → s.axState n = 0 → s.get CFG_RCP_ACTIVE = 0xF → s.get CFG_RCP_START ≠ 0xF → 
      ∃ u, exec (.axisEnable dt n f1 r f2) s = .next u ∧ u.get (PRF_AXCTL_REFUSE n) = 2 ∧ u.axState n = s.axState n ∧ OnlyChanges [.clk, .sets] [PRF_AXCTL n] s u) ∧
  (∀ (dt : Nat) (n : Fin 256) (f1 : Frame) (r : Nat) (f2 : Frame) (s : State), s.get (PRF_AXST_PENDCMT n) = 0 → ((s.axis n).moved = 0 ∨ 4 ≤ (s.axis n).moved) → bit (s.axis n).asked 0 = false → s.axState n = 0 → (s.get CFG_RCP_ACTIVE ≠ 0xF ∨ s.get CFG_RCP_START = 0xF) → s.get CFG_CHG_BUSY = 1 → 
      ∃ u, exec (.axisEnable dt n f1 r f2) s = .next u ∧ u.get (PRF_AXCTL_REFUSE n) = 3 ∧ u.axState n = s.axState n ∧ OnlyChanges [.clk, .sets] [PRF_AXCTL n] s u) ∧
  (∀ (dt : Nat) (n : Fin 256) (f1 : Frame) (r : Nat) (f2 : Frame) (s : State), s.get (PRF_AXST_PENDCMT n) = 0 → ((s.axis n).moved = 0 ∨ 4 ≤ (s.axis n).moved) → bit (s.axis n).asked 0 = false → s.axState n = 0 → (s.get CFG_RCP_ACTIVE ≠ 0xF ∨ s.get CFG_RCP_START = 0xF) → s.get CFG_CHG_BUSY = 0 → n.val < 32 → (¬(tabGet false s.pwm.genA (n / 4) = true ∧ tabGet false s.pwm.genB (n / 4) = true)) → 
      ∃ u, exec (.axisEnable dt n f1 r f2) s = .next u ∧ u.get (PRF_AXCTL_REFUSE n) = 4 ∧ u.axState n = s.axState n ∧ OnlyChanges [.clk, .sets] [PRF_AXCTL n] s u) ∧
  (∀ (dt : Nat) (n : Fin 256) (f1 : Frame) (r : Nat) (f2 : Frame) (s : State), s.get (PRF_AXST_PENDCMT n) = 0 → ((s.axis n).moved = 0 ∨ 4 ≤ (s.axis n).moved) → bit (s.axis n).asked 0 = false → s.axState n = 0 → (s.get CFG_RCP_ACTIVE ≠ 0xF ∨ s.get CFG_RCP_START = 0xF) → s.get CFG_CHG_BUSY = 0 → (32 ≤ n.val ∨ (tabGet false s.pwm.genA (n / 4) = true ∧ tabGet false s.pwm.genB (n / 4) = true)) → s.axKind n = 0 → 
      ∃ u, exec (.axisEnable dt n f1 r f2) s = .next u ∧ u.get (PRF_AXCTL_REFUSE n) = 5 ∧ u.axState n = s.axState n ∧ OnlyChanges [.clk, .sets] [PRF_AXCTL n] s u) ∧
  (∀ (dt : Nat) (n : Fin 256) (f1 : Frame) (r : Nat) (f2 : Frame) (s : State), s.get (PRF_AXST_PENDCMT n) = 0 → ((s.axis n).moved = 0 ∨ 4 ≤ (s.axis n).moved) → bit (s.axis n).asked 0 = false → s.axState n = 0 → (s.get CFG_RCP_ACTIVE ≠ 0xF ∨ s.get CFG_RCP_START = 0xF) → s.get CFG_CHG_BUSY = 0 → (32 ≤ n.val ∨ (tabGet false s.pwm.genA (n / 4) = true ∧ tabGet false s.pwm.genB (n / 4) = true)) → s.axKind n ≠ 0 → 32 ≤ n.val → ((s.axis n).acked = false ∨ s.get (RNG_MST_STATE (s.axMember n)) ≠ 3) → 
      ∃ u, exec (.axisEnable dt n f1 r f2) s = .next u ∧ u.get (PRF_AXCTL_REFUSE n) = 6 ∧ u.axState n = s.axState n ∧ OnlyChanges [.clk, .sets] [PRF_AXCTL n] s u) ∧
  (∀ (dt : Nat) (n : Fin 256) (f1 : Frame) (r : Nat) (f2 : Frame) (s : State), s.get (PRF_AXST_PENDCMT n) = 0 → ((s.axis n).moved = 0 ∨ 4 ≤ (s.axis n).moved) → bit (s.axis n).asked 0 = false → s.axState n = 0 → (s.get CFG_RCP_ACTIVE ≠ 0xF ∨ s.get CFG_RCP_START = 0xF) → s.get CFG_CHG_BUSY = 0 → (32 ≤ n.val ∨ (tabGet false s.pwm.genA (n / 4) = true ∧ tabGet false s.pwm.genB (n / 4) = true)) → s.axKind n ≠ 0 → 32 ≤ n.val → (s.axis n).acked = true → s.get (RNG_MST_STATE (s.axMember n)) = 3 → 
      ∃ u, exec (.axisEnable dt n f1 r f2) s = .next u ∧ u.axState n = 1 ∧ (u.axis n).enStep = 2) ∧
  (∀ (dt : Nat) (n : Fin 256) (f1 : Frame) (r : Nat) (f2 : Frame) (s : State), s.get (PRF_AXST_PENDCMT n) = 0 → ((s.axis n).moved = 0 ∨ 4 ≤ (s.axis n).moved) → bit (s.axis n).asked 0 = false → s.axState n = 0 → (s.get CFG_RCP_ACTIVE ≠ 0xF ∨ s.get CFG_RCP_START = 0xF) → s.get CFG_CHG_BUSY = 0 → (32 ≤ n.val ∨ (tabGet false s.pwm.genA (n / 4) = true ∧ tabGet false s.pwm.genB (n / 4) = true)) → s.axKind n ≠ 0 → n.val < 32 → s.axFbPort n ≠ 0xFF → (s.portOwner (s.axFbPort n)).isSome = true → 
      ∃ u, exec (.axisEnable dt n f1 r f2) s = .next u ∧ u.get (PRF_AXCTL_REFUSE n) = 0xB ∧ u.axState n = s.axState n ∧ OnlyChanges [.clk, .sets] [PRF_AXCTL n] s u) ∧
  (∀ (dt : Nat) (n : Fin 256) (f1 : Frame) (r : Nat) (f2 : Frame) (s : State), s.get (PRF_AXST_PENDCMT n) = 0 → ((s.axis n).moved = 0 ∨ 4 ≤ (s.axis n).moved) → bit (s.axis n).asked 0 = false → s.axState n = 0 → (s.get CFG_RCP_ACTIVE ≠ 0xF ∨ s.get CFG_RCP_START = 0xF) → s.get CFG_CHG_BUSY = 0 → (32 ≤ n.val ∨ (tabGet false s.pwm.genA (n / 4) = true ∧ tabGet false s.pwm.genB (n / 4) = true)) → s.axKind n ≠ 0 → n.val < 32 → s.axFbPort n = 0xFF → 
      ∃ u, exec (.axisEnable dt n f1 r f2) s = .next u ∧ u.axState n = 1 ∧ (u.axis n).enStep = 4 ∧ (u.axis n).preset = true ∧ u.rd64S (PRF_SPOS n) = u.measPos n ∧ u.rd64S (PRF_SVEL n) = 0 ∧ u.get (ENG_SST_STATE n) = 1 ∧ u.get (PRF_AXST_SDPEND n) = 1 ∧ bit (u.get (ENG_STAT_ENABLED (n / 4))) (n % 4) = true ∧ (u.pax n).arming = true ∧ (u.axis n).braked = (s.axis n).braked ∧ u.get (ENG_CST_CGEN n) = s.get (PRF_AXGEN_CGEN n)) ∧
  (∀ (dt : Nat) (n : Fin 256) (s : State), (s.axState n = 1 ∨ s.axState n = 2) → (s.axis n).disabling = false → 
      ∃ u, exec (.axisDisable dt n) s = .next u ∧ u.axState n = s.axState n ∧ (u.axis n).disabling = true ∧ (u.axis n).braked = true ∧ (u.axis n).brakeDue = some ((s.elapse dt).clk.elapsed + s.axBrkSet n * 1000000) ∧ (u.axis n).enHeld = false ∧ (u.get (PRF_AXCTL_REFUSE n) = if bit (s.axis n).asked 1 = true then 8 else s.get (PRF_AXCTL_REFUSE n)) ∧ OnlyChanges [.clk, .axes, .sets] [DIO_OUT, DIO_OUT + 4, PRF_AXCTL n] s u) ∧
  (∀ (dt : Nat) (n : Fin 256) (s : State), (s.axState n = 3 ∨ s.axState n = 4) → 
      ∃ u, exec (.axisDisable dt n) s = .next u ∧ u.axState n = 5 ∧ (u.mot n).cmd = none ∧ (u.mot n).cpl = none ∧ (u.mot n).sup = none ∧ u.get (PRF_MVST_MODE n) = 3) ∧
  (∀ (dt : Nat) (n : Fin 256) (s : State), (s.axState n = 0 ∨ 5 ≤ s.axState n) → 
      ∃ u, exec (.axisDisable dt n) s = .next u ∧ (u.axis n).enHeld = false ∧ (u.get (PRF_AXCTL_REFUSE n) = if bit (s.axis n).asked 1 = true then 8 else s.get (PRF_AXCTL_REFUSE n)) ∧ OnlyChanges [.clk, .axes, .sets] [PRF_AXCTL n] s u) ∧
  (∀ (dt : Nat) (n : Fin 256) (s : State), s.axState n ≠ 6 → 
      ∃ u, exec (.faultReset dt n) s = .next u ∧ u.get (PRF_AXCTL_REFUSE n) = 0xA ∧ u.axState n = s.axState n ∧ OnlyChanges [.clk, .sets] [PRF_AXCTL n] s u) ∧
  (∀ (dt : Nat) (n : Fin 256) (s : State), s.axState n = 6 → s.causePresent n = true → 
      ∃ u, exec (.faultReset dt n) s = .next u ∧ u.get (PRF_AXCTL_REFUSE n) = 7 ∧ u.axState n = 6 ∧ OnlyChanges [.clk, .axes, .sets] [PRF_AXCTL n] s u) ∧
  (∀ (dt : Nat) (n : Fin 256) (s : State), s.axState n = 6 → s.causePresent n = false → (s.axis n).reacted = false → 
      ∃ u, exec (.faultReset dt n) s = .next u ∧ u.get (PRF_AXCTL_REFUSE n) = 9 ∧ u.axState n = s.axState n ∧ OnlyChanges [.clk, .sets] [PRF_AXCTL n] s u) ∧
  (∀ (dt : Nat) (n : Fin 256) (s : State), s.axState n = 6 → s.causePresent n = false → (s.axis n).reacted = true → 
      ∃ u, exec (.faultReset dt n) s = .next u ∧ u.axState n = 0 ∧ u.get (PRF_AXST_CAUSE n) = 0 ∧ u.get (PRF_AXST_FCNT n) = 0 ∧ u.get (PRF_AXST_STOPTO n) = 0 ∧ u.get (PRF_AXST_LASTOFF n) = 2 ∧ (s.get (PRF_AXST_CAUSE n) = 6 → u.get (PRF_AXST_REF n) = 0) ∧ (s.get (PRF_AXST_CAUSE n) ≠ 6 → u.get (PRF_AXST_REF n) = s.get (PRF_AXST_REF n)))

/-- The timed transitions of an axis and its faults. BRKREL of an enabling axis leads to STANDSTILL and BRKSET of a disabling one to DISABLED; standstill leads MOVING and CYCLIC to STANDSTILL, begins the brake time of STOPPING and ends the reaction of a fault; a fault stop over STOPTMO removes torque; overspeed, following error and Leash escalation lead an axis in states 0x1 to 0x5 to FAULT with their cause, and are counted when it is in FAULT already. -/
def Obligations.AxisTransitions : Prop :=
  (∀ (dt : Nat) (n : Fin 256) (s : State), s.axState n = 1 → (s.axis n).enStep = 6 → (s.axis n).disabling = false → (s.elapse dt).brakeOver n = true → 
      ∃ u, exec (.brkrelElapsed dt n) s = .next u ∧ u.axState n = 2 ∧ (u.axis n).enStep = 7 ∧ (u.axis n).brakeDue = none ∧ OnlyChanges [.clk, .axes, .reg .knl, .knl, .sets] [PRF_AXST n] s u) ∧
  (∀ (dt : Nat) (n : Fin 256) (s : State), (s.axis n).disabling = true → (s.elapse dt).brakeOver n = true → 
      ∃ u, exec (.brksetElapsed dt n) s = .next u ∧ u.axState n = 0 ∧ (s.axState n ≠ 0 → u.get (PRF_AXST_LASTOFF n) = 1) ∧ (u.axis n).disabling = false ∧ (u.axis n).braked = true ∧ (n.val < 32 → bit (u.get (ENG_STAT_ENABLED (n / 4))) (n % 4) = false ∧ u.get (PWM_AXST_EN n) = 0)) ∧
  (∀ (dt : Nat) (n : Fin 256) (s : State), max 1 (s.axSsTime n) ≤ (s.axis n).ssCount → (s.axState n = 3 ∨ s.axState n = 4) → 
      ∃ u, exec (.standstillReached dt n) s = .next u ∧ u.axState n = 2 ∧ u.get (PRF_MVST_MODE n) = 0) ∧
  (∀ (dt : Nat) (n : Fin 256) (s : State), max 1 (s.axSsTime n) ≤ (s.axis n).ssCount → s.axState n = 5 → (s.axis n).disabling = false → 
      ∃ u, exec (.standstillReached dt n) s = .next u ∧ u.axState n = 5 ∧ (u.axis n).disabling = true ∧ (u.axis n).braked = true ∧ (u.axis n).brakeDue = some ((s.elapse dt).clk.elapsed + s.axBrkSet n * 1000000)) ∧
  (∀ (dt : Nat) (n : Fin 256) (s : State), max 1 (s.axSsTime n) ≤ (s.axis n).ssCount → s.axState n = 6 → (s.axis n).reacted = false → (s.get (PRF_AXST_REACT n) = 1 ∨ s.get (PRF_AXST_REACT n) = 2) → 
      ∃ u, exec (.standstillReached dt n) s = .next u ∧ u.axState n = 6 ∧ (u.axis n).reacted = true ∧ (s.get (PRF_AXST_REACT n) = 1 → u.enabled n = false ∧ (u.axis n).braked = true)) ∧
  (∀ (dt : Nat) (n : Fin 256) (s : State), s.axState n = 6 → s.get (PRF_AXST_REACT n) ≠ 0 → (s.axis n).reacted = false → (s.axis n).faultAt + s.axStopTmo n * 1000000 ≤ (s.elapse dt).clk.elapsed → 
      ∃ u, exec (.faultStopTimeout dt n) s = .next u ∧ u.axState n = 6 ∧ u.get (PRF_AXST_STOPTO n) = 1 ∧ (u.axis n).reacted = true ∧ u.enabled n = false ∧ (u.axis n).braked = true) ∧
  (∀ (dt : Nat) (a : Fin 32) (s : State), (s.axis a).ovsRun = 8 → 1 ≤ s.axState a → s.axState a ≤ 5 → 
      ∃ u, exec (.overspeedFault dt a) s = .next u ∧ u.axState a = 6 ∧ u.get (PRF_AXST_CAUSE a) = 8 ∧ (u.axis a).faultAt = (s.elapse dt).clk.elapsed ∧ (s.axState a ≠ 1 ∧ (s.axis a).ringReact = none → u.get (PRF_AXST_REACT a) = s.axReact a % 4) ∧ (u.get (PRF_AXST_REACT a) = 0 → u.enabled a = false ∧ (u.axis a).braked = true)) ∧
  (∀ (dt : Nat) (a : Fin 32) (s : State), (s.axis a).feCount = max 1 (s.axFeTime a) → 1 ≤ s.axState a → s.axState a ≤ 5 → 
      ∃ u, exec (.followingErrorFault dt a) s = .next u ∧ u.axState a = 6 ∧ u.get (PRF_AXST_CAUSE a) = 0xB ∧ (u.axis a).faultAt = (s.elapse dt).clk.elapsed ∧ (s.axState a ≠ 1 ∧ (s.axis a).ringReact = none → u.get (PRF_AXST_REACT a) = s.axReact a % 4) ∧ (u.get (PRF_AXST_REACT a) = 0 → u.enabled a = false ∧ (u.axis a).braked = true)) ∧
  (∀ (dt : Nat) (a : Fin 32) (s : State), s.get (LSH_ESC_COUNT a) ≠ 0 → (s.axis a).escDue = true → 1 ≤ s.axState a → s.axState a ≤ 5 → 
      ∃ u, exec (.leashEscalation dt a) s = .next u ∧ u.axState a = 6 ∧ u.get (PRF_AXST_CAUSE a) = 0xA ∧ (u.axis a).faultAt = (s.elapse dt).clk.elapsed ∧ (s.axState a ≠ 1 ∧ (s.axis a).ringReact = none → u.get (PRF_AXST_REACT a) = s.axReact a % 4) ∧ (u.get (PRF_AXST_REACT a) = 0 → u.enabled a = false ∧ (u.axis a).braked = true)) ∧
  (∀ (dt : Nat) (a : Fin 32) (s : State), (s.axis a).ovsRun = 8 → s.rampFault a = true → (s.elapse dt).sameFaultPeriod a = false → 
      ∃ u, exec (.overspeedFault dt a) s = .next u ∧ u.axState a = 6 ∧ u.get (PRF_AXST_FCNT a) = min (s.get (PRF_AXST_FCNT a) + 1) 255 ∧ u.get (PRF_AXST_CAUSE a) = s.get (PRF_AXST_CAUSE a))

/-- What an accepted move starts. An accepted MOVE_ABS, MOVE_REL, MOVE_VEL or STOP becomes the executing command of its axis with the limits it names, sets MODE, TAG and the state MOVING, and leaves the motion of every other axis alone; the target of MOVE_ABS on an axis with MODULO lies on the way its MODE names; a velocity is reduced to the limit of the axis; SUPERIMPOSE adds to the executing coupling. -/
def Obligations.MotionMoves : Prop :=
  (∀ (dt : Nat) (n : Fin 256) (mode : Fin 16) (tag : BitVec 32) (data : List (Fin 16 × BitVec 56)) (s : State), 7 ≤ s.get CFG_STATE_STATE → s.get CFG_STATE_STATE ≤ 9 → (s.elapse dt).cmdRejects (motionRow 0x01 n mode tag data) = 0 → (((accepted n tag (s.elapse dt)).motMod n) = 0 ∨ mode.val = 3) → 0 ≤ ((accepted n tag (s.elapse dt)).motMod n) → 
      ∃ u, exec (.moveAbs dt n mode tag data) s = .next u ∧ (u.mot n).cmd = some (motionRow 0x01 n mode tag data) ∧ u.axState n = 3 ∧ u.get (PRF_MVST_MODE n) = 1 ∧ u.rd (PRF_MVTAG n) = tag.toNat ∧ (∀ m : Fin 272, m.val ≠ n.val → u.mot m = s.mot m) ∧ (∃ t : Int, (u.mot n).plan = some { target := some t, speed := 0, v := (motionRow 0x01 n mode tag data).arg 1, a := (motionRow 0x01 n mode tag data).arg 2, d := (motionRow 0x01 n mode tag data).arg 3, j := (motionRow 0x01 n mode tag data).arg 4 } ∧ t = (((motionRow 0x01 n mode tag data).arg 0).getD 0 * 65536) - ((accepted n tag (s.elapse dt)).posNext n))) ∧
  (∀ (dt : Nat) (n : Fin 256) (mode : Fin 16) (tag : BitVec 32) (data : List (Fin 16 × BitVec 56)) (s : State), 7 ≤ s.get CFG_STATE_STATE → s.get CFG_STATE_STATE ≤ 9 → (s.elapse dt).cmdRejects (motionRow 0x01 n mode tag data) = 0 → 0 < ((accepted n tag (s.elapse dt)).motMod n) → mode.val = 0 → 
      ∃ u, exec (.moveAbs dt n mode tag data) s = .next u ∧ (u.mot n).cmd = some (motionRow 0x01 n mode tag data) ∧ u.axState n = 3 ∧ u.get (PRF_MVST_MODE n) = 1 ∧ u.rd (PRF_MVTAG n) = tag.toNat ∧ (∀ m : Fin 272, m.val ≠ n.val → u.mot m = s.mot m) ∧ (∃ t : Int, (u.mot n).plan = some { target := some t, speed := 0, v := (motionRow 0x01 n mode tag data).arg 1, a := (motionRow 0x01 n mode tag data).arg 2, d := (motionRow 0x01 n mode tag data).arg 3, j := (motionRow 0x01 n mode tag data).arg 4 } ∧ (t - ((((motionRow 0x01 n mode tag data).arg 0).getD 0 * 65536) - ((accepted n tag (s.elapse dt)).posNext n))) % ((accepted n tag (s.elapse dt)).motMod n) = 0 ∧ 2 * t ≤ ((accepted n tag (s.elapse dt)).motMod n) ∧ -((accepted n tag (s.elapse dt)).motMod n) ≤ 2 * t)) ∧
  (∀ (dt : Nat) (n : Fin 256) (mode : Fin 16) (tag : BitVec 32) (data : List (Fin 16 × BitVec 56)) (s : State), 7 ≤ s.get CFG_STATE_STATE → s.get CFG_STATE_STATE ≤ 9 → (s.elapse dt).cmdRejects (motionRow 0x01 n mode tag data) = 0 → 0 < ((accepted n tag (s.elapse dt)).motMod n) → mode.val = 1 → 
      ∃ u, exec (.moveAbs dt n mode tag data) s = .next u ∧ (u.mot n).cmd = some (motionRow 0x01 n mode tag data) ∧ u.axState n = 3 ∧ u.get (PRF_MVST_MODE n) = 1 ∧ u.rd (PRF_MVTAG n) = tag.toNat ∧ (∀ m : Fin 272, m.val ≠ n.val → u.mot m = s.mot m) ∧ (∃ t : Int, (u.mot n).plan = some { target := some t, speed := 0, v := (motionRow 0x01 n mode tag data).arg 1, a := (motionRow 0x01 n mode tag data).arg 2, d := (motionRow 0x01 n mode tag data).arg 3, j := (motionRow 0x01 n mode tag data).arg 4 } ∧ (t - ((((motionRow 0x01 n mode tag data).arg 0).getD 0 * 65536) - ((accepted n tag (s.elapse dt)).posNext n))) % ((accepted n tag (s.elapse dt)).motMod n) = 0 ∧ 0 ≤ t ∧ t < ((accepted n tag (s.elapse dt)).motMod n))) ∧
  (∀ (dt : Nat) (n : Fin 256) (mode : Fin 16) (tag : BitVec 32) (data : List (Fin 16 × BitVec 56)) (s : State), 7 ≤ s.get CFG_STATE_STATE → s.get CFG_STATE_STATE ≤ 9 → (s.elapse dt).cmdRejects (motionRow 0x01 n mode tag data) = 0 → 0 < ((accepted n tag (s.elapse dt)).motMod n) → mode.val = 2 → 
      ∃ u, exec (.moveAbs dt n mode tag data) s = .next u ∧ (u.mot n).cmd = some (motionRow 0x01 n mode tag data) ∧ u.axState n = 3 ∧ u.get (PRF_MVST_MODE n) = 1 ∧ u.rd (PRF_MVTAG n) = tag.toNat ∧ (∀ m : Fin 272, m.val ≠ n.val → u.mot m = s.mot m) ∧ (∃ t : Int, (u.mot n).plan = some { target := some t, speed := 0, v := (motionRow 0x01 n mode tag data).arg 1, a := (motionRow 0x01 n mode tag data).arg 2, d := (motionRow 0x01 n mode tag data).arg 3, j := (motionRow 0x01 n mode tag data).arg 4 } ∧ (t - ((((motionRow 0x01 n mode tag data).arg 0).getD 0 * 65536) - ((accepted n tag (s.elapse dt)).posNext n))) % ((accepted n tag (s.elapse dt)).motMod n) = 0 ∧ t ≤ 0 ∧ -((accepted n tag (s.elapse dt)).motMod n) < t)) ∧
  (∀ (dt : Nat) (n : Fin 256) (mode : Fin 16) (tag : BitVec 32) (data : List (Fin 16 × BitVec 56)) (s : State), 7 ≤ s.get CFG_STATE_STATE → s.get CFG_STATE_STATE ≤ 9 → (s.elapse dt).cmdRejects (motionRow 0x02 n mode tag data) = 0 → 
      ∃ u, exec (.moveRel dt n mode tag data) s = .next u ∧ (u.mot n).cmd = some (motionRow 0x02 n mode tag data) ∧ (u.mot n).plan = some { target := some (((motionRow 0x02 n mode tag data).arg 0).getD 0 * 65536), speed := 0, v := (motionRow 0x02 n mode tag data).arg 1, a := (motionRow 0x02 n mode tag data).arg 2, d := (motionRow 0x02 n mode tag data).arg 3, j := (motionRow 0x02 n mode tag data).arg 4 } ∧ u.axState n = 3 ∧ u.get (PRF_MVST_MODE n) = 1 ∧ u.rd (PRF_MVTAG n) = tag.toNat ∧ (∀ m : Fin 272, m.val ≠ n.val → u.mot m = s.mot m)) ∧
  (∀ (dt : Nat) (n : Fin 256) (mode : Fin 16) (tag : BitVec 32) (data : List (Fin 16 × BitVec 56)) (s : State), 7 ≤ s.get CFG_STATE_STATE → s.get CFG_STATE_STATE ≤ 9 → (s.elapse dt).cmdRejects (motionRow 0x03 n mode tag data) = 0 → 0 ≤ (accepted n tag (s.elapse dt)).axVMax n → 
      ∃ u, exec (.moveVel dt n mode tag data) s = .next u ∧ (u.mot n).cmd = some (motionRow 0x03 n mode tag data) ∧ (u.mot n).plan = some { target := none, speed := max (-((accepted n tag (s.elapse dt)).axVMax n)) (min (((motionRow 0x03 n mode tag data).arg 1).getD 0) ((accepted n tag (s.elapse dt)).axVMax n)), a := (motionRow 0x03 n mode tag data).arg 2, d := (motionRow 0x03 n mode tag data).arg 3, j := (motionRow 0x03 n mode tag data).arg 4 } ∧ u.axState n = 3 ∧ u.get (PRF_MVST_MODE n) = 2 ∧ u.rd (PRF_MVTAG n) = tag.toNat ∧ (∀ m : Fin 272, m.val ≠ n.val → u.mot m = s.mot m)) ∧
  (∀ (dt : Nat) (n : Fin 256) (mode : Fin 16) (tag : BitVec 32) (data : List (Fin 16 × BitVec 56)) (s : State), 7 ≤ s.get CFG_STATE_STATE → s.get CFG_STATE_STATE ≤ 9 → (s.elapse dt).cmdRejects (motionRow 0x04 n mode tag data) = 0 → s.cmdState n ≠ 4 → 
      ∃ u, exec (.stop dt n mode tag data) s = .next u ∧ (u.mot n).cmd = some (motionRow 0x04 n mode tag data) ∧ (u.mot n).plan = some { d := (motionRow 0x04 n mode tag data).arg 3, j := (motionRow 0x04 n mode tag data).arg 4 } ∧ u.axState n = s.axState n ∧ u.get (PRF_MVST_MODE n) = 3 ∧ u.rd (PRF_MVTAG n) = tag.toNat ∧ (∀ m : Fin 272, m.val ≠ n.val → u.mot m = s.mot m)) ∧
  (∀ (dt : Nat) (n : Fin 256) (mode : Fin 16) (tag : BitVec 32) (data : List (Fin 16 × BitVec 56)) (k : Coupling) (s : State), 7 ≤ s.get CFG_STATE_STATE → s.get CFG_STATE_STATE ≤ 9 → (s.elapse dt).cmdRejects (motionRow 0x04 n mode tag data) = 0 → s.cmdState n = 4 → (s.mot n).cpl = some k → 
      ∃ u, exec (.stop dt n mode tag data) s = .next u ∧ (u.mot n).cmd = some (motionRow 0x04 n mode tag data) ∧ (u.mot n).cpl = none ∧ (u.mot n).plan = some { d := (motionRow 0x04 n mode tag data).arg 3, j := (motionRow 0x04 n mode tag data).arg 4 } ∧ (s.axState n = 4 → u.axState n = 3) ∧ u.get (PRF_MVST_MODE n) = 7 ∧ u.get (PRF_MVST_MASTER n) = 0 ∧ (∀ m : Fin 272, m.val ≠ n.val → u.mot m = s.mot m)) ∧
  (∀ (dt : Nat) (n : Fin 256) (mode : Fin 16) (tag : BitVec 32) (data : List (Fin 16 × BitVec 56)) (s : State), 7 ≤ s.get CFG_STATE_STATE → s.get CFG_STATE_STATE ≤ 9 → (s.elapse dt).cmdRejects (motionRow 0x13 n mode tag data) = 0 → 
      ∃ u, exec (.superimpose dt n mode tag data) s = .next u ∧ (u.mot n).sup = some (motionRow 0x13 n mode tag data) ∧ (u.mot n).supPlan = some { target := some (((motionRow 0x13 n mode tag data).arg 0).getD 0 * 65536), speed := 0, v := (motionRow 0x13 n mode tag data).arg 1, a := (motionRow 0x13 n mode tag data).arg 2, d := (motionRow 0x13 n mode tag data).arg 3, j := (motionRow 0x13 n mode tag data).arg 4 } ∧ u.get (PRF_MVST_SUPER n) = 1 ∧ (u.mot n).cpl = (s.mot n).cpl ∧ (u.mot n).cmd = (s.mot n).cmd ∧ u.axState n = s.axState n ∧ (∀ m : Fin 272, m.val ≠ n.val → u.mot m = s.mot m))

/-- Virtual masters, new positions, REF_PROBE and GROUP_ABORT. An accepted SET_POS or VM_SET redefines the position from the next period, by the difference to the present one (of a DISABLED axis the measured one), and changes nothing else of the motion; VM_VEL gives the virtual master its speed within VMVMAX; REF_PROBE takes and arms the probe it names on the measured position of its axis and moves; GROUP_ABORT brings the group to ENDING. -/
def Obligations.MotionRedefines : Prop :=
  (∀ (dt : Nat) (n : Fin 256) (mode : Fin 16) (tag : BitVec 32) (data : List (Fin 16 × BitVec 56)) (s : State), 7 ≤ s.get CFG_STATE_STATE → s.get CFG_STATE_STATE ≤ 9 → (s.elapse dt).cmdRejects (motionRow 0x05 n mode tag data) = 0 → 
      ∃ u, exec (.setPos dt n mode tag data) s = .next u ∧ (u.mot n = { s.mot n with redef := some (((motionRow 0x05 n mode tag data).arg 0).getD 0 * 65536 - (if s.axState n = 0 then s.intoRange n ((s.axis n).meas * 65536) else (s.mot n).pos)) }) ∧ u.axState n = s.axState n ∧ (∀ m : Fin 272, m.val ≠ n.val → u.mot m = s.mot m)) ∧
  (∀ (dt : Nat) (n : Fin 256) (mode : Fin 16) (tag : BitVec 32) (data : List (Fin 16 × BitVec 56)) (s : State), 7 ≤ s.get CFG_STATE_STATE → s.get CFG_STATE_STATE ≤ 9 → (s.elapse dt).cmdRejects (motionRow 0x21 n mode tag data) = 0 → 
      ∃ u, exec (.vmSet dt n mode tag data) s = .next u ∧ u.mot (256 + n.val) = { s.mot (256 + n.val) with redef := some (((motionRow 0x21 n mode tag data).arg 0).getD 0 * 65536 - (s.mot (256 + n.val)).pos) } ∧ (∀ m : Fin 272, m.val ≠ 256 + n.val → u.mot m = s.mot m)) ∧
  (∀ (dt : Nat) (n : Fin 256) (mode : Fin 16) (tag : BitVec 32) (data : List (Fin 16 × BitVec 56)) (s : State), 7 ≤ s.get CFG_STATE_STATE → s.get CFG_STATE_STATE ≤ 9 → (s.elapse dt).cmdRejects (motionRow 0x20 n mode tag data) = 0 → 0 ≤ (s.elapse dt).rd64S (PRF_VMVMAX n) → 
      ∃ u, exec (.vmVel dt n mode tag data) s = .next u ∧ (u.mot (256 + n.val)).cmd = some (motionRow 0x20 n mode tag data) ∧ (u.mot (256 + n.val)).plan = some { target := none, speed := max (-((s.elapse dt).rd64S (PRF_VMVMAX n))) (min (((motionRow 0x20 n mode tag data).arg 1).getD 0) ((s.elapse dt).rd64S (PRF_VMVMAX n))), a := (motionRow 0x20 n mode tag data).arg 2, j := (motionRow 0x20 n mode tag data).arg 4 } ∧ (∀ m : Fin 272, m.val ≠ 256 + n.val → u.mot m = s.mot m)) ∧
  (∀ (dt : Nat) (n : Fin 256) (mode : Fin 16) (tag : BitVec 32) (data : List (Fin 16 × BitVec 56)) (s : State), 7 ≤ s.get CFG_STATE_STATE → s.get CFG_STATE_STATE ≤ 9 → (s.elapse dt).cmdRejects (motionRow 0x06 n mode tag data) = 0 → 
      ∃ u, exec (.refProbe dt n mode tag data) s = .next u ∧ (u.mot n).cmd = some (motionRow 0x06 n mode tag data) ∧ (u.mot n).probing = some mode.val ∧ u.get (FBK_PRCFG_OWN mode) = 1 ∧ u.get (FBK_PRCFG_ARM mode) = 1 ∧ u.get (FBK_PRCFG_CONT mode) = 0 ∧ u.get (FBK_PRSEL_LSEL mode) = 0x1000 + n.val ∧ u.axState n = 3 ∧ u.get (PRF_MVST_MODE n) = 0xA ∧ u.rd (PRF_MVTAG n) = tag.toNat ∧ (∀ m : Fin 272, m.val ≠ n.val → u.mot m = s.mot m)) ∧
  (∀ (dt : Nat) (n : Fin 256) (mode : Fin 16) (tag : BitVec 32) (data : List (Fin 16 × BitVec 56)) (s : State), 7 ≤ s.get CFG_STATE_STATE → s.get CFG_STATE_STATE ≤ 9 → (s.elapse dt).cmdRejects (motionRow 0x30 n mode tag data) = 0 → 
      ∃ u, exec (.groupAbort dt n mode tag data) s = .next u ∧ u.get (PRF_GRPST_STATE n) = 5 ∧ (u.grp n).aborting = some 1 ∧ (u.grp n).abortTag = some tag.toNat ∧ (u.grp n).window = (s.grp n).window ∧ (∀ m : Fin 272, m.val ≠ 272 → u.mot m = s.mot m))

/-- What GEAR, CAM and DECOUPLE do. An accepted GEAR or CAM couples its axis to the master it names with its ratio or its table and offsets, waiting for MPOS when its engage mode is AT and catching up otherwise, and shows the master; DECOUPLE stops the axis, lets it go on at its velocity, or ends the coupling when the master crosses MPOS. -/
def Obligations.Couplings : Prop :=
  (∀ (dt : Nat) (n : Fin 256) (mode : Fin 16) (tag : BitVec 32) (data : List (Fin 16 × BitVec 56)) (s : State), 7 ≤ s.get CFG_STATE_STATE → s.get CFG_STATE_STATE ≤ 9 → (s.elapse dt).cmdRejects (motionRow 0x10 n mode tag data) = 0 → mode.val % 4 ≠ 1 → 
      ∃ u, exec (.gear dt n mode tag data) s = .next u ∧ (∃ k : Coupling, (u.mot n).cpl = some k ∧ k.isCam = false ∧ k.tag = tag.toNat ∧ k.master = (motionRow 0x10 n mode tag data).selector ∧ k.engage = (if mode.val % 4 = 1 then Engage.waiting else Engage.catching) ∧ k.num = ((motionRow 0x10 n mode tag data).arg 6).getD 0 ∧ k.den = ((motionRow 0x10 n mode tag data).arg 7).getD 1 ∧ k.mpos = ((motionRow 0x10 n mode tag data).arg 8).getD 0 * 65536 ∧ k.mlen = ((motionRow 0x10 n mode tag data).arg 9).getD 0 * 65536) ∧ u.get (PRF_MVST_MODE n) = 4 ∧ u.get (PRF_MVST_MASTER n) = (motionRow 0x10 n mode tag data).selector ∧ u.rd (PRF_MVTAG n) = tag.toNat ∧ (u.mot n).cmd = none ∧ u.axState n = s.axState n ∧ (∀ m : Fin 272, m.val ≠ n.val → u.mot m = s.mot m) ∧ (u.mot n).plan = none ∧ (u.mot n).next = some (4, 4)) ∧
  (∀ (dt : Nat) (n : Fin 256) (mode : Fin 16) (tag : BitVec 32) (data : List (Fin 16 × BitVec 56)) (s : State), 7 ≤ s.get CFG_STATE_STATE → s.get CFG_STATE_STATE ≤ 9 → (s.elapse dt).cmdRejects (motionRow 0x10 n mode tag data) = 0 → mode.val % 4 = 1 → 
      ∃ u, exec (.gear dt n mode tag data) s = .next u ∧ (∃ k : Coupling, (u.mot n).cpl = some k ∧ k.isCam = false ∧ k.tag = tag.toNat ∧ k.master = (motionRow 0x10 n mode tag data).selector ∧ k.engage = (if mode.val % 4 = 1 then Engage.waiting else Engage.catching) ∧ k.num = ((motionRow 0x10 n mode tag data).arg 6).getD 0 ∧ k.den = ((motionRow 0x10 n mode tag data).arg 7).getD 1 ∧ k.mpos = ((motionRow 0x10 n mode tag data).arg 8).getD 0 * 65536 ∧ k.mlen = ((motionRow 0x10 n mode tag data).arg 9).getD 0 * 65536) ∧ u.get (PRF_MVST_MODE n) = 4 ∧ u.get (PRF_MVST_MASTER n) = (motionRow 0x10 n mode tag data).selector ∧ u.rd (PRF_MVTAG n) = tag.toNat ∧ (u.mot n).cmd = none ∧ u.axState n = s.axState n ∧ (∀ m : Fin 272, m.val ≠ n.val → u.mot m = s.mot m) ∧ ((u.mot n).plan = match (s.mot n).cpl with | some k => if k.engage = Engage.waiting then (s.mot n).plan else some { speed := (s.mot n).vel } | none => (s.mot n).plan)) ∧
  (∀ (dt : Nat) (n : Fin 256) (mode : Fin 16) (tag : BitVec 32) (data : List (Fin 16 × BitVec 56)) (s : State), 7 ≤ s.get CFG_STATE_STATE → s.get CFG_STATE_STATE ≤ 9 → (s.elapse dt).cmdRejects (motionRow 0x11 n mode tag data) = 0 → mode.val % 4 ≠ 1 → 
      ∃ u, exec (.cam dt n mode tag data) s = .next u ∧ (∃ k : Coupling, (u.mot n).cpl = some k ∧ k.isCam = true ∧ k.tag = tag.toNat ∧ k.master = (motionRow 0x11 n mode tag data).selector ∧ k.engage = (if mode.val % 4 = 1 then Engage.waiting else Engage.catching) ∧ k.camId = (((motionRow 0x11 n mode tag data).arg 0xA).getD 0).toNat ∧ k.mofs = ((motionRow 0x11 n mode tag data).arg 0xB).getD 0 * 65536 ∧ k.sofs = ((motionRow 0x11 n mode tag data).arg 0xC).getD 0 * 65536 ∧ k.mpos = ((motionRow 0x11 n mode tag data).arg 8).getD 0 * 65536 ∧ k.mlen = ((motionRow 0x11 n mode tag data).arg 9).getD 0 * 65536) ∧ u.get (PRF_MVST_MODE n) = 4 ∧ u.get (PRF_MVST_MASTER n) = (motionRow 0x11 n mode tag data).selector ∧ u.rd (PRF_MVTAG n) = tag.toNat ∧ (u.mot n).cmd = none ∧ u.axState n = s.axState n ∧ (∀ m : Fin 272, m.val ≠ n.val → u.mot m = s.mot m) ∧ (u.mot n).plan = none ∧ (u.mot n).next = some (4, 4)) ∧
  (∀ (dt : Nat) (n : Fin 256) (mode : Fin 16) (tag : BitVec 32) (data : List (Fin 16 × BitVec 56)) (s : State), 7 ≤ s.get CFG_STATE_STATE → s.get CFG_STATE_STATE ≤ 9 → (s.elapse dt).cmdRejects (motionRow 0x11 n mode tag data) = 0 → mode.val % 4 = 1 → 
      ∃ u, exec (.cam dt n mode tag data) s = .next u ∧ (∃ k : Coupling, (u.mot n).cpl = some k ∧ k.isCam = true ∧ k.tag = tag.toNat ∧ k.master = (motionRow 0x11 n mode tag data).selector ∧ k.engage = (if mode.val % 4 = 1 then Engage.waiting else Engage.catching) ∧ k.camId = (((motionRow 0x11 n mode tag data).arg 0xA).getD 0).toNat ∧ k.mofs = ((motionRow 0x11 n mode tag data).arg 0xB).getD 0 * 65536 ∧ k.sofs = ((motionRow 0x11 n mode tag data).arg 0xC).getD 0 * 65536 ∧ k.mpos = ((motionRow 0x11 n mode tag data).arg 8).getD 0 * 65536 ∧ k.mlen = ((motionRow 0x11 n mode tag data).arg 9).getD 0 * 65536) ∧ u.get (PRF_MVST_MODE n) = 4 ∧ u.get (PRF_MVST_MASTER n) = (motionRow 0x11 n mode tag data).selector ∧ u.rd (PRF_MVTAG n) = tag.toNat ∧ (u.mot n).cmd = none ∧ u.axState n = s.axState n ∧ (∀ m : Fin 272, m.val ≠ n.val → u.mot m = s.mot m) ∧ ((u.mot n).plan = match (s.mot n).cpl with | some k => if k.engage = Engage.waiting then (s.mot n).plan else some { speed := (s.mot n).vel } | none => (s.mot n).plan)) ∧
  (∀ (dt : Nat) (n : Fin 256) (mode : Fin 16) (tag : BitVec 32) (data : List (Fin 16 × BitVec 56)) (k : Coupling) (s : State), 7 ≤ s.get CFG_STATE_STATE → s.get CFG_STATE_STATE ≤ 9 → (s.elapse dt).cmdRejects (motionRow 0x12 n mode tag data) = 0 → (s.mot n).cpl = some k → mode.val % 4 = 0 → 
      ∃ u, exec (.decouple dt n mode tag data) s = .next u ∧ (u.mot n).cpl = none ∧ (u.mot n).cmd = none ∧ (u.mot n).plan = some { d := (motionRow 0x12 n mode tag data).arg 3, j := (motionRow 0x12 n mode tag data).arg 4 } ∧ (s.axState n = 4 → u.axState n = 3) ∧ u.get (PRF_MVST_MODE n) = 7 ∧ u.get (PRF_MVST_MASTER n) = 0 ∧ (∀ m : Fin 272, m.val ≠ n.val → u.mot m = s.mot m)) ∧
  (∀ (dt : Nat) (n : Fin 256) (mode : Fin 16) (tag : BitVec 32) (data : List (Fin 16 × BitVec 56)) (k : Coupling) (s : State), 7 ≤ s.get CFG_STATE_STATE → s.get CFG_STATE_STATE ≤ 9 → (s.elapse dt).cmdRejects (motionRow 0x12 n mode tag data) = 0 → (s.mot n).cpl = some k → mode.val % 4 = 1 → 
      ∃ u, exec (.decouple dt n mode tag data) s = .next u ∧ (u.mot n).cpl = none ∧ (u.mot n).cmd = none ∧ (u.mot n).plan = some { speed := (s.mot n).vel } ∧ u.axState n = 3 ∧ u.get (PRF_MVST_MODE n) = 2 ∧ u.get (PRF_MVST_MASTER n) = 0 ∧ (∀ m : Fin 272, m.val ≠ n.val → u.mot m = s.mot m)) ∧
  (∀ (dt : Nat) (n : Fin 256) (mode : Fin 16) (tag : BitVec 32) (data : List (Fin 16 × BitVec 56)) (k : Coupling) (s : State), 7 ≤ s.get CFG_STATE_STATE → s.get CFG_STATE_STATE ≤ 9 → (s.elapse dt).cmdRejects (motionRow 0x12 n mode tag data) = 0 → (s.mot n).cpl = some k → mode.val % 4 = 2 → 
      ∃ u, exec (.decouple dt n mode tag data) s = .next u ∧ (u.mot n).cpl.map (·.endAt) = some (some (((motionRow 0x12 n mode tag data).arg 8).getD 0 * 65536)) ∧ (u.mot n).cpl.map (·.engage) = some k.engage ∧ (u.mot n).plan = (s.mot n).plan ∧ u.axState n = s.axState n ∧ (∀ m : Fin 272, m.val ≠ n.val → u.mot m = s.mot m))

/-- When a motion command is rejected. A malformed command is rejected with 0x01; a move of an axis whose state does not take it with 0x03, or 0x04 when it is coupled, or 0x08 when the axis has just left; a value out of range with 0x05; a coupling that would close a ring with 0x06, and a cam whose table is not there with 0x07; a move out of STANDSTILL during a changeover with 0x09; a move of an axis of a running group with 0x0A. A rejected command does nothing but report REJECTED. (Which reason is reported when several hold is deduced, log 61.) -/
def Obligations.MotionRejections : Prop :=
  (∀ (dt : Nat) (n : Fin 256) (mode : Fin 16) (tag : BitVec 32) (data : List (Fin 16 × BitVec 56)) (s : State), 7 ≤ s.get CFG_STATE_STATE → s.get CFG_STATE_STATE ≤ 9 → (motionRow 0x02 n mode tag data).malformed = true → 
      ∃ u, exec (.moveRel dt n mode tag data) s = .next u ∧ u = rejected n 1 tag (s.elapse dt)) ∧
  (∀ (dt : Nat) (n : Fin 256) (mode : Fin 16) (tag : BitVec 32) (data : List (Fin 16 × BitVec 56)) (s : State), 7 ≤ s.get CFG_STATE_STATE → s.get CFG_STATE_STATE ≤ 9 → (motionRow 0x02 n mode tag data).malformed = false → s.groupOf n = none → (s.axis n).moved = 0 → s.axState n ≠ 2 → s.axState n ≠ 3 → s.cmdState n ≠ 4 → 
      ∃ u, exec (.moveRel dt n mode tag data) s = .next u ∧ u = rejected n 3 tag (s.elapse dt)) ∧
  (∀ (dt : Nat) (n : Fin 256) (mode : Fin 16) (tag : BitVec 32) (data : List (Fin 16 × BitVec 56)) (s : State), 7 ≤ s.get CFG_STATE_STATE → s.get CFG_STATE_STATE ≤ 9 → (motionRow 0x02 n mode tag data).malformed = false → s.groupOf n = none → (s.axis n).moved = 0 → s.axState n = 4 → 
      ∃ u, exec (.moveRel dt n mode tag data) s = .next u ∧ u = rejected n 4 tag (s.elapse dt)) ∧
  (∀ (dt : Nat) (n : Fin 256) (mode : Fin 16) (tag : BitVec 32) (data : List (Fin 16 × BitVec 56)) (s : State), 7 ≤ s.get CFG_STATE_STATE → s.get CFG_STATE_STATE ≤ 9 → (motionRow 0x02 n mode tag data).malformed = false → s.groupOf n = none → (s.axis n).moved ≠ 0 → s.axState n ≠ 2 → s.axState n ≠ 3 → 
      ∃ u, exec (.moveRel dt n mode tag data) s = .next u ∧ u = rejected n 8 tag (s.elapse dt)) ∧
  (∀ (dt : Nat) (n : Fin 256) (mode : Fin 16) (tag : BitVec 32) (data : List (Fin 16 × BitVec 56)) (s : State), 7 ≤ s.get CFG_STATE_STATE → s.get CFG_STATE_STATE ≤ 9 → (motionRow 0x01 n mode tag data).malformed = false → s.groupOf n = none → (s.get CFG_CHG_BUSY = 0 ∨ s.axState n ≠ 2) → (s.axis n).disabling = false → (s.axState n = 2 ∨ s.axState n = 3) → s.cmdState n = s.axState n → 3 < mode.val → 
      ∃ u, exec (.moveAbs dt n mode tag data) s = .next u ∧ u = rejected n 5 tag (s.elapse dt)) ∧
  (∀ (dt : Nat) (n : Fin 256) (mode : Fin 16) (tag : BitVec 32) (data : List (Fin 16 × BitVec 56)) (v : Int) (s : State), 7 ≤ s.get CFG_STATE_STATE → s.get CFG_STATE_STATE ≤ 9 → (motionRow 0x03 n mode tag data).malformed = false → s.groupOf n = none → (s.get CFG_CHG_BUSY = 0 ∨ s.axState n ≠ 2) → (s.axis n).disabling = false → (s.axState n = 2 ∨ s.axState n = 3) → s.cmdState n = s.axState n → (motionRow 0x03 n mode tag data).arg 2 = some v → v ≤ 0 → 
      ∃ u, exec (.moveVel dt n mode tag data) s = .next u ∧ u = rejected n 5 tag (s.elapse dt)) ∧
  (∀ (dt : Nat) (n : Fin 256) (mode : Fin 16) (tag : BitVec 32) (data : List (Fin 16 × BitVec 56)) (s : State), 7 ≤ s.get CFG_STATE_STATE → s.get CFG_STATE_STATE ≤ 9 → (motionRow 0x10 n mode tag data).malformed = false → s.groupOf n = none → (s.get CFG_CHG_BUSY = 0 ∨ s.axState n ≠ 2) → (s.axis n).disabling = false → (s.axState n = 2 ∨ s.axState n = 3) → s.cmdState n = s.axState n → (s.elapse dt).outOfRange n (motionRow 0x10 n mode tag data) = false → (motionRow 0x10 n mode tag data).arg 5 = some (n.val : Int) → 
      ∃ u, exec (.gear dt n mode tag data) s = .next u ∧ u = rejected n 6 tag (s.elapse dt)) ∧
  (∀ (dt : Nat) (n : Fin 256) (mode : Fin 16) (tag : BitVec 32) (data : List (Fin 16 × BitVec 56)) (s : State), 7 ≤ s.get CFG_STATE_STATE → s.get CFG_STATE_STATE ≤ 9 → (motionRow 0x11 n mode tag data).malformed = false → s.groupOf n = none → (s.get CFG_CHG_BUSY = 0 ∨ s.axState n ≠ 2) → (s.axis n).disabling = false → (s.axState n = 2 ∨ s.axState n = 3) → s.cmdState n = s.axState n → (s.elapse dt).outOfRange n (motionRow 0x11 n mode tag data) = false → (s.elapse dt).masterNamed (motionRow 0x11 n mode tag data).selector = true → (s.elapse dt).chainOk n 4 (motionRow 0x11 n mode tag data).selector = true → (s.elapse dt).mposOut (motionRow 0x11 n mode tag data).selector (motionRow 0x11 n mode tag data) = false → s.cam (((motionRow 0x11 n mode tag data).arg 0xA).getD 0).toNat = none → 
      ∃ u, exec (.cam dt n mode tag data) s = .next u ∧ u = rejected n 7 tag (s.elapse dt)) ∧
  (∀ (dt : Nat) (n : Fin 256) (mode : Fin 16) (tag : BitVec 32) (data : List (Fin 16 × BitVec 56)) (s : State), 7 ≤ s.get CFG_STATE_STATE → s.get CFG_STATE_STATE ≤ 9 → (motionRow 0x02 n mode tag data).malformed = false → s.get CFG_CHG_BUSY = 1 → s.axState n = 2 → 
      ∃ u, exec (.moveRel dt n mode tag data) s = .next u ∧ u = rejected n 9 tag (s.elapse dt)) ∧
  (∀ (dt : Nat) (n : Fin 256) (mode : Fin 16) (tag : BitVec 32) (data : List (Fin 16 × BitVec 56)) (g : Fin 16) (s : State), 7 ≤ s.get CFG_STATE_STATE → s.get CFG_STATE_STATE ≤ 9 → (motionRow 0x02 n mode tag data).malformed = false → (s.get CFG_CHG_BUSY = 0 ∨ s.axState n ≠ 2) → s.groupOf n = some g.val → s.groupActive g = true → 
      ∃ u, exec (.moveRel dt n mode tag data) s = .next u ∧ u = rejected n 10 tag (s.elapse dt)) ∧
  (∀ (dt : Nat) (n : Fin 256) (mode : Fin 16) (tag : BitVec 32) (data : List (Fin 16 × BitVec 56)) (s : State), 7 ≤ s.get CFG_STATE_STATE → s.get CFG_STATE_STATE ≤ 9 → (motionRow 0x20 n mode tag data).malformed = false → (8 ≤ n.val ∨ s.get (PRF_VMST_EN n) = 0) → 
      ∃ u, exec (.vmVel dt n mode tag data) s = .next u ∧ u = rejected n 3 tag (s.elapse dt)) ∧
  (∀ (dt : Nat) (n : Fin 256) (mode : Fin 16) (tag : BitVec 32) (data : List (Fin 16 × BitVec 56)) (s : State), 7 ≤ s.get CFG_STATE_STATE → s.get CFG_STATE_STATE ≤ 9 → (motionRow 0x30 n mode tag data).malformed = false → (16 ≤ n.val ∨ s.get (PRF_GRPST_STATE n) ≤ 1 ∨ 5 ≤ s.get (PRF_GRPST_STATE n)) → 
      ∃ u, exec (.groupAbort dt n mode tag data) s = .next u ∧ u = rejected n 3 tag (s.elapse dt))

/-- What a segment of a path group does. A well-formed LINE, ARC, HELIX, SPLINE or DWELL that a running group takes counts in GRPACC and enters the window with its FEED; one that an idle group takes starts the group and its axes, or is aborted with reason 0x04 when an axis is not in STANDSTILL; a malformed one that an idle group takes is aborted, counted in GRPABT, and starts nothing. -/
def Obligations.PathSegments : Prop :=
  (∀ (dt : Nat) (g : Fin 16) (mode : Fin 16) (tag : BitVec 32) (data : List (Fin 16 × BitVec 56)) (s : State), 7 ≤ s.get CFG_STATE_STATE → s.get CFG_STATE_STATE ≤ 9 → (s.elapse dt).groupTakes g = true → (s.get (PRF_GRPST_STATE g) = 2 ∨ s.get (PRF_GRPST_STATE g) = 3) → segNamed (motionRow 0x80 g mode tag data) g (s.nax g) (s.grp g).feed = true → 
      ∃ u, exec (.line dt g mode tag data) s = .next u ∧ u.rd (PRF_GRPACC g) = (s.rd (PRF_GRPACC g) + 1) % 2 ^ 32 ∧ (u.grp g).window.length = (s.grp g).window.length + 1 ∧ (u.grp g).window.take (s.grp g).window.length = (s.grp g).window ∧ (((u.grp g).window.getLast?.map fun c => (c.op, c.mode, c.tag, c.arg 0xB)) = some (0x80, mode.val, tag.toNat, some (((match (motionRow 0x80 g mode tag data).arg 0xB with | some v => some v | none => (s.grp g).feed)).getD 0))) ∧ (u.grp g).feed = (match (motionRow 0x80 g mode tag data).arg 0xB with | some v => some v | none => (s.grp g).feed) ∧ u.get (PRF_GRPST_WIN g) = (u.grp g).window.length ∧ u.get (PRF_GRPST_STATE g) = s.get (PRF_GRPST_STATE g)) ∧
  (∀ (dt : Nat) (g : Fin 16) (mode : Fin 16) (tag : BitVec 32) (data : List (Fin 16 × BitVec 56)) (s : State), 7 ≤ s.get CFG_STATE_STATE → s.get CFG_STATE_STATE ≤ 9 → (s.elapse dt).groupTakes g = true → s.get (PRF_GRPST_STATE g) = 1 → s.mayStart g = true → segNamed (motionRow 0x80 g mode tag data) g (s.nax g) (s.grp g).feed = true → 
      ∃ u, exec (.line dt g mode tag data) s = .next u ∧ u.rd (PRF_GRPACC g) = (s.rd (PRF_GRPACC g) + 1) % 2 ^ 32 ∧ (u.grp g).window.length = (s.grp g).window.length + 1 ∧ (u.grp g).window.take (s.grp g).window.length = (s.grp g).window ∧ (((u.grp g).window.getLast?.map fun c => (c.op, c.mode, c.tag, c.arg 0xB)) = some (0x80, mode.val, tag.toNat, some (((match (motionRow 0x80 g mode tag data).arg 0xB with | some v => some v | none => (s.grp g).feed)).getD 0))) ∧ (u.grp g).feed = (match (motionRow 0x80 g mode tag data).arg 0xB with | some v => some v | none => (s.grp g).feed) ∧ u.get (PRF_GRPST_WIN g) = (u.grp g).window.length ∧ u.get (PRF_GRPST_STATE g) = 2 ∧ (∀ i : Fin 8, i.val < s.nax g → u.axState (s.slotAxis g i) = 3 ∧ u.get (PRF_MVST_MODE (s.slotAxis g i)) = 8 ∧ (u.mot (s.slotAxis g i)).cmd = none)) ∧
  (∀ (dt : Nat) (g : Fin 16) (mode : Fin 16) (tag : BitVec 32) (data : List (Fin 16 × BitVec 56)) (s : State), 7 ≤ s.get CFG_STATE_STATE → s.get CFG_STATE_STATE ≤ 9 → (s.elapse dt).groupTakes g = true → (s.get (PRF_GRPST_STATE g) = 2 ∨ s.get (PRF_GRPST_STATE g) = 3) → segNamed (motionRow 0x81 g mode tag data) g (s.nax g) (s.grp g).feed = true → arcRadiiOk (motionRow 0x81 g mode tag data) (s.pathEnd g) = true → 
      ∃ u, exec (.arc dt g mode tag data) s = .next u ∧ u.rd (PRF_GRPACC g) = (s.rd (PRF_GRPACC g) + 1) % 2 ^ 32 ∧ (u.grp g).window.length = (s.grp g).window.length + 1 ∧ (u.grp g).window.take (s.grp g).window.length = (s.grp g).window ∧ (((u.grp g).window.getLast?.map fun c => (c.op, c.mode, c.tag, c.arg 0xB)) = some (0x81, mode.val, tag.toNat, some (((match (motionRow 0x81 g mode tag data).arg 0xB with | some v => some v | none => (s.grp g).feed)).getD 0))) ∧ (u.grp g).feed = (match (motionRow 0x81 g mode tag data).arg 0xB with | some v => some v | none => (s.grp g).feed) ∧ u.get (PRF_GRPST_WIN g) = (u.grp g).window.length ∧ u.get (PRF_GRPST_STATE g) = s.get (PRF_GRPST_STATE g)) ∧
  (∀ (dt : Nat) (g : Fin 16) (mode : Fin 16) (tag : BitVec 32) (data : List (Fin 16 × BitVec 56)) (s : State), 7 ≤ s.get CFG_STATE_STATE → s.get CFG_STATE_STATE ≤ 9 → (s.elapse dt).groupTakes g = true → s.get (PRF_GRPST_STATE g) = 1 → s.mayStart g = true → segNamed (motionRow 0x81 g mode tag data) g (s.nax g) (s.grp g).feed = true → arcRadiiOk (motionRow 0x81 g mode tag data) (s.pathEnd g) = true → 
      ∃ u, exec (.arc dt g mode tag data) s = .next u ∧ u.rd (PRF_GRPACC g) = (s.rd (PRF_GRPACC g) + 1) % 2 ^ 32 ∧ (u.grp g).window.length = (s.grp g).window.length + 1 ∧ (u.grp g).window.take (s.grp g).window.length = (s.grp g).window ∧ (((u.grp g).window.getLast?.map fun c => (c.op, c.mode, c.tag, c.arg 0xB)) = some (0x81, mode.val, tag.toNat, some (((match (motionRow 0x81 g mode tag data).arg 0xB with | some v => some v | none => (s.grp g).feed)).getD 0))) ∧ (u.grp g).feed = (match (motionRow 0x81 g mode tag data).arg 0xB with | some v => some v | none => (s.grp g).feed) ∧ u.get (PRF_GRPST_WIN g) = (u.grp g).window.length ∧ u.get (PRF_GRPST_STATE g) = 2 ∧ (∀ i : Fin 8, i.val < s.nax g → u.axState (s.slotAxis g i) = 3 ∧ u.get (PRF_MVST_MODE (s.slotAxis g i)) = 8 ∧ (u.mot (s.slotAxis g i)).cmd = none)) ∧
  (∀ (dt : Nat) (g : Fin 16) (mode : Fin 16) (tag : BitVec 32) (data : List (Fin 16 × BitVec 56)) (s : State), 7 ≤ s.get CFG_STATE_STATE → s.get CFG_STATE_STATE ≤ 9 → (s.elapse dt).groupTakes g = true → (s.get (PRF_GRPST_STATE g) = 2 ∨ s.get (PRF_GRPST_STATE g) = 3) → segNamed (motionRow 0x82 g mode tag data) g (s.nax g) (s.grp g).feed = true → arcRadiiOk (motionRow 0x82 g mode tag data) (s.pathEnd g) = true → 
      ∃ u, exec (.helix dt g mode tag data) s = .next u ∧ u.rd (PRF_GRPACC g) = (s.rd (PRF_GRPACC g) + 1) % 2 ^ 32 ∧ (u.grp g).window.length = (s.grp g).window.length + 1 ∧ (u.grp g).window.take (s.grp g).window.length = (s.grp g).window ∧ (((u.grp g).window.getLast?.map fun c => (c.op, c.mode, c.tag, c.arg 0xB)) = some (0x82, mode.val, tag.toNat, some (((match (motionRow 0x82 g mode tag data).arg 0xB with | some v => some v | none => (s.grp g).feed)).getD 0))) ∧ (u.grp g).feed = (match (motionRow 0x82 g mode tag data).arg 0xB with | some v => some v | none => (s.grp g).feed) ∧ u.get (PRF_GRPST_WIN g) = (u.grp g).window.length ∧ u.get (PRF_GRPST_STATE g) = s.get (PRF_GRPST_STATE g)) ∧
  (∀ (dt : Nat) (g : Fin 16) (mode : Fin 16) (tag : BitVec 32) (data : List (Fin 16 × BitVec 56)) (s : State), 7 ≤ s.get CFG_STATE_STATE → s.get CFG_STATE_STATE ≤ 9 → (s.elapse dt).groupTakes g = true → s.get (PRF_GRPST_STATE g) = 1 → s.mayStart g = true → segNamed (motionRow 0x82 g mode tag data) g (s.nax g) (s.grp g).feed = true → arcRadiiOk (motionRow 0x82 g mode tag data) (s.pathEnd g) = true → 
      ∃ u, exec (.helix dt g mode tag data) s = .next u ∧ u.rd (PRF_GRPACC g) = (s.rd (PRF_GRPACC g) + 1) % 2 ^ 32 ∧ (u.grp g).window.length = (s.grp g).window.length + 1 ∧ (u.grp g).window.take (s.grp g).window.length = (s.grp g).window ∧ (((u.grp g).window.getLast?.map fun c => (c.op, c.mode, c.tag, c.arg 0xB)) = some (0x82, mode.val, tag.toNat, some (((match (motionRow 0x82 g mode tag data).arg 0xB with | some v => some v | none => (s.grp g).feed)).getD 0))) ∧ (u.grp g).feed = (match (motionRow 0x82 g mode tag data).arg 0xB with | some v => some v | none => (s.grp g).feed) ∧ u.get (PRF_GRPST_WIN g) = (u.grp g).window.length ∧ u.get (PRF_GRPST_STATE g) = 2 ∧ (∀ i : Fin 8, i.val < s.nax g → u.axState (s.slotAxis g i) = 3 ∧ u.get (PRF_MVST_MODE (s.slotAxis g i)) = 8 ∧ (u.mot (s.slotAxis g i)).cmd = none)) ∧
  (∀ (dt : Nat) (g : Fin 16) (mode : Fin 16) (tag : BitVec 32) (data : List (Fin 16 × BitVec 56)) (s : State), 7 ≤ s.get CFG_STATE_STATE → s.get CFG_STATE_STATE ≤ 9 → (s.elapse dt).groupTakes g = true → (s.get (PRF_GRPST_STATE g) = 2 ∨ s.get (PRF_GRPST_STATE g) = 3) → segNamed (motionRow 0x83 g mode tag data) g (s.nax g) (s.grp g).feed = true → 
      ∃ u, exec (.spline dt g mode tag data) s = .next u ∧ u.rd (PRF_GRPACC g) = (s.rd (PRF_GRPACC g) + 1) % 2 ^ 32 ∧ (u.grp g).window.length = (s.grp g).window.length + 1 ∧ (u.grp g).window.take (s.grp g).window.length = (s.grp g).window ∧ (((u.grp g).window.getLast?.map fun c => (c.op, c.mode, c.tag, c.arg 0xB)) = some (0x83, mode.val, tag.toNat, some (((match (motionRow 0x83 g mode tag data).arg 0xB with | some v => some v | none => (s.grp g).feed)).getD 0))) ∧ (u.grp g).feed = (match (motionRow 0x83 g mode tag data).arg 0xB with | some v => some v | none => (s.grp g).feed) ∧ u.get (PRF_GRPST_WIN g) = (u.grp g).window.length ∧ u.get (PRF_GRPST_STATE g) = s.get (PRF_GRPST_STATE g)) ∧
  (∀ (dt : Nat) (g : Fin 16) (mode : Fin 16) (tag : BitVec 32) (data : List (Fin 16 × BitVec 56)) (s : State), 7 ≤ s.get CFG_STATE_STATE → s.get CFG_STATE_STATE ≤ 9 → (s.elapse dt).groupTakes g = true → s.get (PRF_GRPST_STATE g) = 1 → s.mayStart g = true → segNamed (motionRow 0x83 g mode tag data) g (s.nax g) (s.grp g).feed = true → 
      ∃ u, exec (.spline dt g mode tag data) s = .next u ∧ u.rd (PRF_GRPACC g) = (s.rd (PRF_GRPACC g) + 1) % 2 ^ 32 ∧ (u.grp g).window.length = (s.grp g).window.length + 1 ∧ (u.grp g).window.take (s.grp g).window.length = (s.grp g).window ∧ (((u.grp g).window.getLast?.map fun c => (c.op, c.mode, c.tag, c.arg 0xB)) = some (0x83, mode.val, tag.toNat, some (((match (motionRow 0x83 g mode tag data).arg 0xB with | some v => some v | none => (s.grp g).feed)).getD 0))) ∧ (u.grp g).feed = (match (motionRow 0x83 g mode tag data).arg 0xB with | some v => some v | none => (s.grp g).feed) ∧ u.get (PRF_GRPST_WIN g) = (u.grp g).window.length ∧ u.get (PRF_GRPST_STATE g) = 2 ∧ (∀ i : Fin 8, i.val < s.nax g → u.axState (s.slotAxis g i) = 3 ∧ u.get (PRF_MVST_MODE (s.slotAxis g i)) = 8 ∧ (u.mot (s.slotAxis g i)).cmd = none)) ∧
  (∀ (dt : Nat) (g : Fin 16) (mode : Fin 16) (tag : BitVec 32) (data : List (Fin 16 × BitVec 56)) (s : State), 7 ≤ s.get CFG_STATE_STATE → s.get CFG_STATE_STATE ≤ 9 → (s.elapse dt).groupTakes g = true → (s.get (PRF_GRPST_STATE g) = 2 ∨ s.get (PRF_GRPST_STATE g) = 3) → segNamed (motionRow 0x84 g mode tag data) g (s.nax g) (s.grp g).feed = true → 
      ∃ u, exec (.dwell dt g mode tag data) s = .next u ∧ u.rd (PRF_GRPACC g) = (s.rd (PRF_GRPACC g) + 1) % 2 ^ 32 ∧ (u.grp g).window.length = (s.grp g).window.length + 1 ∧ (u.grp g).window.take (s.grp g).window.length = (s.grp g).window ∧ (((u.grp g).window.getLast?.map fun c => (c.op, c.mode, c.tag, c.arg 0xB)) = some (0x84, mode.val, tag.toNat, some (((s.grp g).feed).getD 0))) ∧ (u.grp g).feed = (s.grp g).feed ∧ u.get (PRF_GRPST_WIN g) = (u.grp g).window.length ∧ u.get (PRF_GRPST_STATE g) = s.get (PRF_GRPST_STATE g)) ∧
  (∀ (dt : Nat) (g : Fin 16) (mode : Fin 16) (tag : BitVec 32) (data : List (Fin 16 × BitVec 56)) (s : State), 7 ≤ s.get CFG_STATE_STATE → s.get CFG_STATE_STATE ≤ 9 → (s.elapse dt).groupTakes g = true → s.get (PRF_GRPST_STATE g) = 1 → s.mayStart g = true → segNamed (motionRow 0x84 g mode tag data) g (s.nax g) (s.grp g).feed = true → 
      ∃ u, exec (.dwell dt g mode tag data) s = .next u ∧ u.rd (PRF_GRPACC g) = (s.rd (PRF_GRPACC g) + 1) % 2 ^ 32 ∧ (u.grp g).window.length = (s.grp g).window.length + 1 ∧ (u.grp g).window.take (s.grp g).window.length = (s.grp g).window ∧ (((u.grp g).window.getLast?.map fun c => (c.op, c.mode, c.tag, c.arg 0xB)) = some (0x84, mode.val, tag.toNat, some (((s.grp g).feed).getD 0))) ∧ (u.grp g).feed = (s.grp g).feed ∧ u.get (PRF_GRPST_WIN g) = (u.grp g).window.length ∧ u.get (PRF_GRPST_STATE g) = 2 ∧ (∀ i : Fin 8, i.val < s.nax g → u.axState (s.slotAxis g i) = 3 ∧ u.get (PRF_MVST_MODE (s.slotAxis g i)) = 8 ∧ (u.mot (s.slotAxis g i)).cmd = none)) ∧
  (∀ (dt : Nat) (g : Fin 16) (mode : Fin 16) (tag : BitVec 32) (data : List (Fin 16 × BitVec 56)) (s : State), 7 ≤ s.get CFG_STATE_STATE → s.get CFG_STATE_STATE ≤ 9 → (s.elapse dt).groupTakes g = true → s.get (PRF_GRPST_STATE g) = 1 → s.mayStart g = false → segNamed (motionRow 0x80 g mode tag data) g (s.nax g) (s.grp g).feed = true → 
      ∃ u, exec (.line dt g mode tag data) s = .next u ∧ u.rd (PRF_GRPACC g) = (s.rd (PRF_GRPACC g) + 1) % 2 ^ 32 ∧ u.rd (PRF_GRPABT g) = (s.rd (PRF_GRPABT g) + 1) % 2 ^ 32 ∧ (u.grp g).window = (s.grp g).window ∧ u.get (PRF_GRPST_STATE g) = s.get (PRF_GRPST_STATE g) ∧ (∀ n : Fin 272, u.mot n = s.mot n)) ∧
  (∀ (dt : Nat) (g : Fin 16) (mode : Fin 16) (tag : BitVec 32) (data : List (Fin 16 × BitVec 56)) (s : State), 7 ≤ s.get CFG_STATE_STATE → s.get CFG_STATE_STATE ≤ 9 → (s.elapse dt).groupTakes g = true → (s.get (PRF_GRPST_STATE g) = 1 ∨ s.get (PRF_GRPST_STATE g) = 4) → segNamed (motionRow 0x80 g mode tag data) g (s.nax g) (s.grp g).feed = false → 
      ∃ u, exec (.line dt g mode tag data) s = .next u ∧ u.rd (PRF_GRPACC g) = (s.rd (PRF_GRPACC g) + 1) % 2 ^ 32 ∧ u.rd (PRF_GRPABT g) = (s.rd (PRF_GRPABT g) + 1) % 2 ^ 32 ∧ (u.grp g).window = (s.grp g).window ∧ u.get (PRF_GRPST_STATE g) = s.get (PRF_GRPST_STATE g) ∧ (∀ n : Fin 272, u.mot n = s.mot n))

/-- Writes of the group registers. A write of PRF_GRPAX or PRF_GRPCFG that R155 allows takes effect, and every axis shows the group it is bound to; one that it does not allow changes no register but the error reports and is an access error; an override of at most 0x800 takes effect, and one above is ignored. -/
def Obligations.GroupRegisters : Prop :=
  (∀ (dt : Nat) (who : Accessor) (g : Fin 16) (v : BitVec 64) (s : State), s.get (PRF_GRPST_STATE g) ≤ 1 → (s.axesFree g ((List.range (s.nax g)).map fun i => v.toNat / 256 ^ i % 256) = true) → 
      ∃ u, exec (.groupConfigWrite dt who g true v) s = .next u ∧ u.rd64 (PRF_GRPAX g) = v.toNat ∧ (∀ n : Fin 256, u.get (PRF_MVST_INGRP n) = b2n (u.groupOf n).isSome) ∧ (∀ n : Fin 256, (u.groupOf n).isSome = true → some (u.get (PRF_MVST_GRP n)) = u.groupOf n) ∧ OnlyChanges [.clk, .reg .prf, .sets] [] s u) ∧
  (∀ (dt : Nat) (who : Accessor) (g : Fin 16) (v : BitVec 64) (s : State), (2 ≤ s.get (PRF_GRPST_STATE g) ∨ s.axesFree g ((List.range (s.nax g)).map fun i => v.toNat / 256 ^ i % 256) = false) → 
      ∃ u, exec (.groupConfigWrite dt who g true v) s = .next u ∧ u.bus.errs = s.bus.errs + 1 ∧ OnlyChanges [.clk, .bus, .log, .reg .err, .sets] [] s u) ∧
  (∀ (dt : Nat) (who : Accessor) (g : Fin 16) (v : BitVec 64) (s : State), s.get (PRF_GRPST_STATE g) ≤ 1 → v.toNat % 16 ≤ 8 → (v.toNat % 16 = 0 ∨ 1 ≤ v.toNat / 16 % 8 ∧ v.toNat / 16 % 8 ≤ 3) → (v.toNat % 16 = 0 ∨ s.qCap (0x10 + g) ≠ 0) → (s.axesFree g ((List.range (v.toNat % 16)).map fun i => s.slotAxis g i) = true) → 
      ∃ u, exec (.groupConfigWrite dt who g false v) s = .next u ∧ u.get (PRF_GRPCFG_NAX g) = v.toNat % 16 ∧ u.get (PRF_GRPCFG_NGEO g) = v.toNat / 16 % 8 % 4 ∧ (u.get (PRF_GRPST_STATE g) = (if v.toNat % 16 = 0 then 0 else 1)) ∧ (∀ n : Fin 256, u.get (PRF_MVST_INGRP n) = b2n (u.groupOf n).isSome) ∧ (∀ n : Fin 256, (u.groupOf n).isSome = true → some (u.get (PRF_MVST_GRP n)) = u.groupOf n) ∧ OnlyChanges [.clk, .reg .prf, .sets] [] s u) ∧
  (∀ (dt : Nat) (who : Accessor) (g : Fin 16) (v : BitVec 64) (s : State), (2 ≤ s.get (PRF_GRPST_STATE g) ∨ 8 < v.toNat % 16 ∨ v.toNat % 16 ≠ 0 ∧ s.qCap (0x10 + g) = 0 ∨ s.axesFree g ((List.range (v.toNat % 16)).map fun i => s.slotAxis g i) = false) → 
      ∃ u, exec (.groupConfigWrite dt who g false v) s = .next u ∧ u.bus.errs = s.bus.errs + 1 ∧ OnlyChanges [.clk, .bus, .log, .reg .err, .sets] [] s u) ∧
  (∀ (dt : Nat) (g : Fin 16) (v : BitVec 32) (s : State), v.toNat % 4096 ≤ 0x800 → 
      ∃ u, exec (.overrideWrite dt g v) s = .next u ∧ u.get (PRF_GRPOVR_OVR g) = v.toNat % 4096 ∧ OnlyChanges [.clk, .sets] [PRF_GRPOVR g] s u) ∧
  (∀ (dt : Nat) (g : Fin 16) (v : BitVec 32) (s : State), 0x800 < v.toNat % 4096 → 
      ∃ u, exec (.overrideWrite dt g v) s = .next u ∧ u = (s.elapse dt))

/-- What a path reports in a period. In a period in which a path goes on, the segments that it passes are counted in GRPEXE and leave the window, and SEG_DONE concerns a period in which there are any; a DWELL ends when its periods have passed; a group at rest with no segment left enters IDLE after an exact stop and STARVED otherwise; a group at rest with override 0 enters HOLD; a period that brings none of this about changes only the clock. (How far the path goes is free within its limits, log 37.) -/
def Obligations.PathPeriods : Prop :=
  (∀ (dt : Nat) (g : Fin 16) (m : Nat × List Int) (l : List (Nat × List Int)) (v : Trace) (s : State), s.prf.due = [512 + g.val] → s.get (PRF_GRPST_STATE g) = 2 → (s.grp g).speed ≠ 0 → (s.grp g).plan ≠ [] → (s.grp g).run.isSome = true → (s.grp g).ovr ≠ 0 → (((s.elapse dt).onPrf fun p => { p with due := [] }).pathMoves g (s.grp g).ovr = m :: l) → ((((s.elapse dt).onPrf fun p => { p with due := [] }).trace g).go (s.ngeo g) pathSegs m.1 = v) → 
      ∃ u, exec (.segDone dt g) s = .next u ∧ (if v.gone = [] then u = (s.elapse dt) else u.rd (PRF_GRPEXE g) = (s.rd (PRF_GRPEXE g) + v.gone.length) % 2 ^ 32 ∧ (u.grp g).window = (s.grp g).window.drop v.gone.length ∧ (u.grp g).run = v.run ∧ (u.grp g).here = v.here ∧ (u.grp g).off = m.2 ∧ (u.grp g).plan = l ∧ (u.grp g).speed = wayOf v.legs ∧ u.prf.due = [])) ∧
  (∀ (dt : Nat) (g : Fin 16) (c : MotCmd) (w : List MotCmd) (s : State), s.prf.due = [512 + g.val] → s.get (PRF_GRPST_STATE g) = 2 → (s.grp g).speed = 0 → (s.grp g).run = none → (s.grp g).window = c :: w → c.op = 0x84 → ((c.arg 0xD).getD 0).toNat ≤ (s.grp g).dwelt + 1 → 
      ∃ u, exec (.segDone dt g) s = .next u ∧ u.rd (PRF_GRPEXE g) = (s.rd (PRF_GRPEXE g) + 1) % 2 ^ 32 ∧ (u.grp g).window = w ∧ (u.grp g).dwelt = 0 ∧ u.prf.due = [] ∧ (u.get (PRF_GRPST_STATE g) = if w ≠ [] then 2 else if c.mode % 4 = 0 then 1 else 4)) ∧
  (∀ (dt : Nat) (g : Fin 16) (c : MotCmd) (w : List MotCmd) (s : State), s.prf.due = [512 + g.val] → s.get (PRF_GRPST_STATE g) = 2 → (s.grp g).speed = 0 → (s.grp g).run = none → (s.grp g).window = c :: w → c.op = 0x84 → (s.grp g).dwelt + 1 < ((c.arg 0xD).getD 0).toNat → 
      ∃ u, exec (.segDone dt g) s = .next u ∧ u = (s.elapse dt)) ∧
  (∀ (dt : Nat) (g : Fin 16) (s : State), s.prf.due = [512 + g.val] → s.get (PRF_GRPST_STATE g) = 2 → (s.grp g).speed ≠ 0 → (s.grp g).plan = [] → (s.grp g).window = [] → (s.grp g).run = none → (s.grp g).lastCorner = 0 → 
      ∃ u, exec (.starved dt g) s = .next u ∧ u.get (PRF_GRPST_STATE g) = 1 ∧ (u.grp g).speed = 0 ∧ (u.grp g).window = [] ∧ u.rd (PRF_GRPEXE g) = s.rd (PRF_GRPEXE g) ∧ u.prf.due = [] ∧ (∀ i : Fin 8, i.val < s.nax g → u.get (PRF_MVST_MODE (s.slotAxis g i)) = 0)) ∧
  (∀ (dt : Nat) (g : Fin 16) (s : State), s.prf.due = [512 + g.val] → s.get (PRF_GRPST_STATE g) = 2 → (s.grp g).speed ≠ 0 → (s.grp g).plan = [] → (s.grp g).window = [] → (s.grp g).run = none → (s.grp g).lastCorner ≠ 0 → 
      ∃ u, exec (.starved dt g) s = .next u ∧ u.get (PRF_GRPST_STATE g) = 4 ∧ (u.grp g).speed = 0 ∧ (u.grp g).window = [] ∧ u.rd (PRF_GRPEXE g) = s.rd (PRF_GRPEXE g) ∧ u.prf.due = [] ∧ (∀ i : Fin 8, i.val < s.nax g → u.get (PRF_MVST_MODE (s.slotAxis g i)) = 0)) ∧
  (∀ (dt : Nat) (g : Fin 16) (c : MotCmd) (w : List MotCmd) (s : State), s.prf.due = [512 + g.val] → s.get (PRF_GRPST_STATE g) = 2 → (s.grp g).window = c :: w → c.op ≠ 0x84 → c.op ≠ 0xFF → (s.grp g).ovr = 0 → ((s.grp g).speed = 0 ∨ (s.grp g).plan = []) → 
      ∃ u, exec (.pathHold dt g) s = .next u ∧ u.get (PRF_GRPST_STATE g) = 3 ∧ (u.grp g).window = (s.grp g).window ∧ (u.grp g).speed = 0 ∧ u.rd (PRF_GRPEXE g) = s.rd (PRF_GRPEXE g) ∧ u.prf.due = []) ∧
  (∀ (dt : Nat) (g : Fin 16) (s : State), 512 + g.val ∉ s.prf.due → 
      ∃ u, exec (.segDone dt g) s = .next u ∧ u = (s.elapse dt)) ∧
  (∀ (dt : Nat) (g : Fin 16) (s : State), 512 + g.val ∉ s.prf.due → 
      ∃ u, exec (.starved dt g) s = .next u ∧ u = (s.elapse dt)) ∧
  (∀ (dt : Nat) (g : Fin 16) (s : State), 512 + g.val ∉ s.prf.due → 
      ∃ u, exec (.pathHold dt g) s = .next u ∧ u = (s.elapse dt))

/-- What an axis or virtual master reports in a period. In the period in which a motion has come to its end its command is DONE; a motion that turns beyond its target shows and reports OVS; a gear that one period brings to its set-point locks there; a slave whose master crosses MPOS engages or decouples; a slave whose master leaves the span of its cam shows it. -/
def Obligations.AxisPeriods : Prop :=
  (∀ (dt : Nat) (n : Fin 264) (c : MotCmd) (p : Plan) (s : State), n.val < 256 → s.prf.due = [n.val] → s.axState n = 3 → s.subOf n = none → s.groupOf n = none → (s.mot n).cpl = none → (s.mot n).cmd = some c → (s.mot n).probing = none → (s.mot n).plan = some p → p.target = some 0 → p.speed = 0 → (s.mot n).vel = 0 → (s.mot n).acc = 0 → 
      ∃ u, exec (.done dt n) s = .next u ∧ (u.mot n).cmd = none ∧ (u.mot n).plan = none ∧ (u.mot n).vel = 0 ∧ u.get (PRF_MVST_MODE n) = 0 ∧ u.axState n = 3 ∧ u.prf.due = [] ∧ (∀ m : Fin 272, m.val ≠ n.val → u.mot m = s.mot m)) ∧
  (∀ (dt : Nat) (n : Fin 264) (c : MotCmd) (p : Plan) (s : State), 256 ≤ n.val → s.prf.due = [n.val] → (s.mot n).cmd = some c → (s.mot n).probing = none → (s.mot n).plan = some p → p.target = none → p.v = none → (s.mot n).vel = p.speed → (s.mot n).acc = 0 → -(s.rd64S (PRF_VMVMAX (n - 256))) ≤ p.speed → p.speed ≤ s.rd64S (PRF_VMVMAX (n - 256)) → 
      ∃ u, exec (.done dt n) s = .next u ∧ (u.mot n).cmd = none ∧ (u.mot n).vel = p.speed ∧ u.prf.due = [] ∧ (∀ m : Fin 272, m.val ≠ n.val → u.mot m = s.mot m)) ∧
  (∀ (dt : Nat) (n : Fin 256) (p : Plan) (w : Int) (l : List Int) (d : Int) (s : State), n.val < 256 → s.prf.due = [n.val] → s.axState n = 3 → s.subOf n = none → s.groupOf n = none → (s.mot n).cpl = none → (s.mot n).probing = none → (s.mot n).plan = some p → p.ahead = true → p.first = false → p.run = w :: l → p.lim = some ((s.elapse dt).planLim n p (s.mot n).vel (s.mot n).acc) → turnOf p (s.mot n).vel w = some d → 
      ∃ u, exec (.overshoot dt n) s = .next u ∧ u.get (PRF_MVST_OVS n) = 1 ∧ u.rd64S (PRF_OVS n) = signed 64 (unsigned 64 (d / 65536)) ∧ (u.mot n).vel = w ∧ (u.mot n).acc = w - (s.mot n).vel ∧ u.prf.due = [] ∧ (∀ m : Fin 272, m.val ≠ n.val → u.mot m = s.mot m)) ∧
  (∀ (dt : Nat) (n : Fin 256) (k : Coupling) (s : State), n.val < 256 → s.prf.due = [n.val] → s.axState n = 3 → s.subOf n = none → s.groupOf n = none → (s.mot n).cpl = some k → k.engage = Engage.catching → k.isCam = false → k.endAt = none → (s.mot n).sup = none → max (nextRange n (s.elapse dt)).1 (max (shorterWay (s.motMod n) (gearPlace s k - (s.mot n).pos) - 2 ^ 32) ((gearPlace s k - k.cv) - 2 ^ 32)) ≤ min (nextRange n (s.elapse dt)).2 (min (shorterWay (s.motMod n) (gearPlace s k - (s.mot n).pos) + 2 ^ 32) ((gearPlace s k - k.cv) + 2 ^ 32)) → 
      ∃ u, exec (.locked dt n) s = .next u ∧ (u.mot n).vel = shorterWay (s.motMod n) (gearPlace s k - (s.mot n).pos) ∧ (u.mot n).pos = s.intoRange n ((s.mot n).pos + shorterWay (s.motMod n) (gearPlace s k - (s.mot n).pos)) ∧ (u.mot n).cpl.map (·.engage) = some Engage.locked ∧ (u.mot n).next = some (4, 5) ∧ u.prf.due = [] ∧ (∀ m : Fin 272, m.val ≠ n.val → u.mot m = s.mot m)) ∧
  (∀ (dt : Nat) (n : Fin 256) (k : Coupling) (s : State), n.val < 256 → s.prf.due = [n.val] → s.axState n = 3 → s.subOf n = none → s.groupOf n = none → (s.mot n).cpl = some k → k.engage = Engage.waiting → k.endAt = none → (k.atOnce = true ∨ crosses k.mLast (shorterWay (s.masterMod k.master) (s.masterAt k.master - k.mLast)) k.mpos (s.masterMod k.master) = true) → 
      ∃ u, exec (.mposCrossing dt n) s = .next u ∧ (u.mot n).cpl.isSome = true ∧ (u.mot n).cpl.map (·.engage) ≠ some Engage.waiting ∧ (u.mot n).next.map (·.1) = some 4 ∧ u.prf.due = [] ∧ (∀ m : Fin 272, m.val ≠ n.val → u.mot m = s.mot m)) ∧
  (∀ (dt : Nat) (n : Fin 256) (k : Coupling) (p : Int) (s : State), n.val < 256 → s.prf.due = [n.val] → s.axState n = 3 → s.subOf n = none → s.groupOf n = none → (s.mot n).cpl = some k → k.engage ≠ Engage.waiting → k.endAt = some p → (k.endOnce = true ∨ crosses k.mLast (shorterWay (s.masterMod k.master) (s.masterAt k.master - k.mLast)) p (s.masterMod k.master) = true) → 
      ∃ u, exec (.mposCrossing dt n) s = .next u ∧ (u.mot n).cpl = none ∧ u.get (PRF_MVST_MASTER n) = 0 ∧ (u.mot n).cmd = none ∧ (u.mot n).next = none ∧ u.prf.due = [] ∧ (∀ m : Fin 272, m.val ≠ n.val → u.mot m = s.mot m)) ∧
  (∀ (dt : Nat) (n : Fin 256) (k : Coupling) (t : CamTable) (s : State), n.val < 256 → s.prf.due = [n.val] → s.axState n = 3 → s.subOf n = none → s.groupOf n = none → (s.mot n).cpl = some k → k.engage = Engage.locked → k.isCam = true → k.endAt = none → s.cam k.camId = some t → t.periodic = false → k.inSpan = true → t.inside (k.mu + shorterWay (s.masterMod k.master) (s.masterAt k.master - k.mLast) - k.mofs) (s.masterMod k.master) = false → 
      ∃ u, exec (.camEnd dt n) s = .next u ∧ (u.mot n).cpl.map (·.inSpan) = some false ∧ (u.mot n).cpl.map (·.engage) = some Engage.locked ∧ u.prf.due = [] ∧ (∀ m : Fin 272, m.val ≠ n.val → u.mot m = s.mot m)) ∧
  (∀ (dt : Nat) (n : Fin 264) (s : State), n.val ∉ s.prf.due → 
      ∃ u, exec (.done dt n) s = .next u ∧ u = (s.elapse dt)) ∧
  (∀ (dt : Nat) (n : Fin 256) (s : State), n.val ∉ s.prf.due → 
      ∃ u, exec (.overshoot dt n) s = .next u ∧ u = (s.elapse dt)) ∧
  (∀ (dt : Nat) (n : Fin 256) (s : State), n.val ∉ s.prf.due → 
      ∃ u, exec (.locked dt n) s = .next u ∧ u = (s.elapse dt)) ∧
  (∀ (dt : Nat) (n : Fin 256) (s : State), n.val ∉ s.prf.due → 
      ∃ u, exec (.mposCrossing dt n) s = .next u ∧ u = (s.elapse dt)) ∧
  (∀ (dt : Nat) (n : Fin 256) (s : State), n.val ∉ s.prf.due → 
      ∃ u, exec (.camEnd dt n) s = .next u ∧ u = (s.elapse dt))

/-- What a profile boundary does. A boundary that is not at a multiple of the profile period, or comes while the engine does not run, changes only the clock. At a boundary the set-points computed take effect: PRF_SPOS and PRF_SVEL of an axis that needs no clamp, PRF_VMPOS, PRF_VMVEL and MOVING of a virtual master; TMAX keeps the largest completion time; a late boundary is counted, and each enabled axis goes on at its previous velocity. -/
def Obligations.ProfileBoundary : Prop :=
  (∀ (dt : Nat) (late : Bool) (took : BitVec 32) (s : State), ((s.elapse dt).profileRuns = false ∨ (s.elapse dt).atBoundary s.profilePeriod = false) → 
      ∃ u, exec (.profileBoundary dt late took) s = .next u ∧ u = (s.elapse dt)) ∧
  (∀ (dt : Nat) (late : Bool) (took : BitVec 32) (s : State), s.profileRuns = true → (s.elapse dt).atBoundary s.profilePeriod = true → 
      ∃ u, exec (.profileBoundary dt late took) s = .next u ∧ u.rd PRF_TMAX = max (s.rd PRF_TMAX) took.toNat ∧ u.prf.wasLate = late ∧ (late = true → u.get PRF_STAT_LATE = min (s.get PRF_STAT_LATE + 1) 65535) ∧ (late = false → u.get PRF_STAT_LATE = s.get PRF_STAT_LATE)) ∧
  (∀ (dt : Nat) (took : BitVec 32) (n : Fin 256) (s : State), s.profileRuns = true → (s.elapse dt).atBoundary s.profilePeriod = true → (∀ k : Fin 16, s.subAxis k = none) → s.prf.due = [] → s.axKind n ≠ 0 → s.axState n = 2 → (s.mot n).redef = none → (s.mot n).next = none → s.get (LSH_PCFG_ENV n) = 0 → |(s.mot n).vel| ≤ (s.rd (LSH_SPD_E n) : Int) * 2 ^ 24 → 
      ∃ u, exec (.profileBoundary dt false took) s = .next u ∧ u.rd64 (PRF_SPOS n) = unsigned 64 ((s.mot n).pos / 65536) ∧ u.rd64 (PRF_SVEL n) = unsigned 64 (s.mot n).vel) ∧
  (∀ (dt : Nat) (took : BitVec 32) (k : Fin 8) (s : State), s.profileRuns = true → (s.elapse dt).atBoundary s.profilePeriod = true → s.prf.due = [] → s.get (PRF_VMST_EN k) = 1 → (s.mot (256 + k.val)).redef = none → 
      ∃ u, exec (.profileBoundary dt false took) s = .next u ∧ u.rd64 (PRF_VMPOS k) = unsigned 64 ((s.mot (256 + k.val)).pos / 65536) ∧ u.rd64 (PRF_VMVEL k) = unsigned 64 (s.mot (256 + k.val)).vel ∧ (u.get (PRF_VMST_MOVING k) = (if (s.mot (256 + k.val)).vel = 0 then 0 else 1)))

/-- What a slot instance does. An instance that is not due, of an unused slot, of an axis whose slots are skipped, or of a halted engine changes only the clock. One that runs changes the registers and data memory of no other context; when its slot ends before a port is latched anew (R207), it clears the preset flag of its section and shows the flags of its context in ENG_FLG, with AVV after a velocity instance; a late one is counted, and faults its axis with cause 0x02 when its section is position or velocity. A PLL loss sets PLLLOSS and faults no axis. -/
def Obligations.SlotInstances : Prop :=
  (∀ (dt : Nat) (j : Fin 256) (late : Bool) (s : State), (s.get (ENG_SLCFG_VALID j) = 0 ∨ (late = false ∧ (s.elapse dt).slotDue j = false) ∨ s.get (ENG_CST_RUN (4 * (j.val / 32) + s.get (ENG_SLCFG_CTX j))) ≠ 1 ∨ j.val / 32 ∈ s.eng.halted) → 
      ∃ u, exec (.slotInstance dt j late) s = .next u ∧ u = (s.elapse dt)) ∧
  (∀ (dt : Nat) (j : Fin 256) (s : State), s.get (ENG_SLCFG_VALID j) = 1 → (s.elapse dt).slotDue j = true → s.get (ENG_CST_RUN (4 * (j.val / 32) + s.get (ENG_SLCFG_CTX j))) = 1 → j.val / 32 ∉ s.eng.halted → 
      ∃ u, exec (.slotInstance dt j false) s = .next u ∧ (∀ y : Fin 32, y.val ≠ (4 * (j.val / 32) + s.get (ENG_SLCFG_CTX j)) → u.cx y = s.cx y) ∧ ((u.cx (4 * (j.val / 32) + s.get (ENG_SLCFG_CTX j))).slot = none ∨ (u.cx (4 * (j.val / 32) + s.get (ENG_SLCFG_CTX j))).slot = some (j.val, (s.elapse dt).clk.elapsed)) ∧ (s.get (ENG_SLCFG_SECT j) = 2 → (u.cx (4 * (j.val / 32) + s.get (ENG_SLCFG_CTX j))).ran = true) ∧ OnlyChanges [.clk, .fresh, .log, .axes, .eng, .reg .eng, .reg .lsh, .reg .err, .sets] [] s u) ∧
  (∀ (dt : Nat) (j : Fin 256) (s : State), s.get (ENG_SLCFG_VALID j) = 1 → (s.elapse dt).slotDue j = true → s.get (ENG_CST_RUN (4 * (j.val / 32) + s.get (ENG_SLCFG_CTX j))) = 1 → j.val / 32 ∉ s.eng.halted → (s.cx (4 * (j.val / 32) + s.get (ENG_SLCFG_CTX j))).slot = none → s.get (ENG_SLLEN_LEN j) ≤ (s.elapse dt).toLatch (4 * (j.val / 32) + s.get (ENG_SLCFG_CTX j)) → 
      ∃ u, exec (.slotInstance dt j false) s = .next u ∧ (u.cx (4 * (j.val / 32) + s.get (ENG_SLCFG_CTX j))).slot = none ∧ u.get (preFlag (4 * (j.val / 32) + s.get (ENG_SLCFG_CTX j)) (s.get (ENG_SLCFG_SECT j))) = 0 ∧ u.get (ENG_FLG_Z (4 * (j.val / 32) + s.get (ENG_SLCFG_CTX j))) = b2n (u.cx (4 * (j.val / 32) + s.get (ENG_SLCFG_CTX j))).z ∧ u.get (ENG_FLG_N (4 * (j.val / 32) + s.get (ENG_SLCFG_CTX j))) = b2n (u.cx (4 * (j.val / 32) + s.get (ENG_SLCFG_CTX j))).n ∧ u.get (ENG_FLG_AV (4 * (j.val / 32) + s.get (ENG_SLCFG_CTX j))) = (u.cx (4 * (j.val / 32) + s.get (ENG_SLCFG_CTX j))).av.toNat ∧ u.get (ENG_FLG_SAT (4 * (j.val / 32) + s.get (ENG_SLCFG_CTX j))) = (u.cx (4 * (j.val / 32) + s.get (ENG_SLCFG_CTX j))).sat.toNat ∧ (s.get (ENG_SLCFG_SECT j) = 2 → u.get (ENG_FLG_AVV (4 * (j.val / 32) + s.get (ENG_SLCFG_CTX j))) = (u.cx (4 * (j.val / 32) + s.get (ENG_SLCFG_CTX j))).av.toNat ∧ (u.cx (4 * (j.val / 32) + s.get (ENG_SLCFG_CTX j))).due = true) ∧ (s.get (ENG_SLCFG_SECT j) ≠ 2 → u.get (ENG_FLG_AVV (4 * (j.val / 32) + s.get (ENG_SLCFG_CTX j))) = s.get (ENG_FLG_AVV (4 * (j.val / 32) + s.get (ENG_SLCFG_CTX j))))) ∧
  (∀ (dt : Nat) (j : Fin 256) (s : State), s.get (ENG_SLCFG_VALID j) = 1 → s.get (ENG_CST_RUN (4 * (j.val / 32) + s.get (ENG_SLCFG_CTX j))) = 1 → j.val / 32 ∉ s.eng.halted → s.get (ENG_SLCFG_SECT j) ≠ 3 → 1 ≤ s.axState (4 * (j.val / 32) + s.get (ENG_SLCFG_CTX j)) → s.axState (4 * (j.val / 32) + s.get (ENG_SLCFG_CTX j)) ≤ 5 → 
      ∃ u, exec (.slotInstance dt j true) s = .next u ∧ u.get (ENG_STAT_LATE (j.val / 32)) = min (s.get (ENG_STAT_LATE (j.val / 32)) + 1) 255 ∧ u.get (ENG_CST_LATE (4 * (j.val / 32) + s.get (ENG_SLCFG_CTX j))) = 1 ∧ u.axState (4 * (j.val / 32) + s.get (ENG_SLCFG_CTX j)) = 6 ∧ u.get (PRF_AXST_CAUSE (4 * (j.val / 32) + s.get (ENG_SLCFG_CTX j))) = 2 ∧ u.enabled (4 * (j.val / 32) + s.get (ENG_SLCFG_CTX j)) = false ∧ (∀ y : Fin 32, u.cx y = s.cx y)) ∧
  (∀ (dt : Nat) (k : Fin 8) (lost : Bool) (s : State), 
      ∃ u, exec (.enginePllLoss dt k lost) s = .next u ∧ (lost = true → u.get (ENG_STAT_PLLLOSS k) = 1 ∧ k.val ∈ u.eng.clkLost) ∧ (lost = false → k.val ∉ u.eng.clkLost ∧ u.rd (ENG_STAT k) = s.rd (ENG_STAT k)) ∧ (∀ n : Fin 256, u.axState n = s.axState n) ∧ OnlyChanges [.clk, .log, .reg .err, .eng, .sets] [ENG_STAT k] s u)

/-- What is latched at the boundaries of an axis. At its own boundaries, and at no other instant, an axis latches PM, PMP, EANG and DCOR (velocity), PSP and VSP from the set-points of the profile period (position), the precise currents (current, or velocity in Band mode); a Band boundary keeps a phase that has not dwelt long enough and sends one code per half-bridge and the commit request. -/
def Obligations.LoopBoundaries : Prop :=
  (∀ (dt : Nat) (a : Fin 32) (s : State), s.isLocal a = true → (s.elapse dt).atBoundary (s.velPeriod a) = true → 
      ∃ u, exec (.velocityPeriodBoundary dt a) s = .next u ∧ (u.cx a).pm = BitVec.ofInt 48 (u.measPos a / 65536) ∧ (u.cx a).pmp = (s.cx a).pm ∧ (u.cx a).eang = u.eang a ∧ (u.cx a).fresh = ((s.cx a).fresh && !(s.cx a).ran) ∧ (u.cx a).angles = (((u.eang a), (s.elapse dt).clk.elapsed) :: (s.cx a).angles).take 2 ∧ (s.axState a ≠ 4 → (u.cx a).dcor = 0) ∧ (∀ y : Fin 32, y ≠ a → u.cx y = s.cx y)) ∧
  (∀ (dt : Nat) (a : Fin 32) (s : State), (s.isLocal a = false ∨ (s.elapse dt).atBoundary (s.velPeriod a) = false) → 
      ∃ u, exec (.velocityPeriodBoundary dt a) s = .next u ∧ u = (s.elapse dt)) ∧
  (∀ (dt : Nat) (a : Fin 32) (s : State), s.isLocal a = true → (s.elapse dt).atBoundary (s.posPeriod a) = true → s.posPeriod a ≤ s.profilePeriod → 
      ∃ u, exec (.positionPeriodBoundary dt a) s = .next u ∧ (u.cx a).psp = BitVec.ofInt 48 ((s.rd64S (PRF_SPOS a) * 65536 * ((s.profilePeriod / s.posPeriod a : Nat) : Int) + s.rd64S (PRF_SVEL a) * (((s.elapse dt).clk.ns % s.profilePeriod / s.posPeriod a : Nat) : Int)) / (((s.profilePeriod / s.posPeriod a : Nat) : Int) * 2 ^ 32)) ∧ (u.cx a).vsp = BitVec.ofInt 32 (max (-2 ^ 31) (min (2 ^ 31 - 1) (s.rd64S (PRF_SVEL a) / (((s.profilePeriod / s.posPeriod a : Nat) : Int) * 65536)))) ∧ (u.cx a).pm = BitVec.ofInt 48 (u.measPos a / 65536) ∧ (s.get (ENG_SST_STATE a) = 1 → u.get (ENG_SST_SETTLE a) = s.get (ENG_SST_SETTLE a) - 1) ∧ (∀ y : Fin 32, y ≠ a → u.cx y = s.cx y)) ∧
  (∀ (dt : Nat) (a : Fin 32) (s : State), (s.isLocal a = false ∨ (s.elapse dt).atBoundary (s.posPeriod a) = false) → 
      ∃ u, exec (.positionPeriodBoundary dt a) s = .next u ∧ u = (s.elapse dt)) ∧
  (∀ (dt : Nat) (a : Fin 32) (b0 b1 b2 : List Bool) (s : State), (s.elapse dt).strobeDue a = true → 
      ∃ u, exec (.currentPeriodBoundary dt a b0 b1 b2) s = .next u ∧ (u.cx a).isu = BitVec.ofInt 16 ((s.currents a 0x0B4 [b0, b1, b2]).getD 0 (0, false)).1 ∧ (u.cx a).isv = BitVec.ofInt 16 ((s.currents a 0x0B4 [b0, b1, b2]).getD 1 (0, false)).1 ∧ (u.cx a).isw = BitVec.ofInt 16 ((s.currents a 0x0B4 [b0, b1, b2]).getD 2 (0, false)).1 ∧ (∀ y : Fin 32, y ≠ a → u.cx y = s.cx y) ∧ OnlyChanges [.clk, .fresh, .axes, .eng, .csf, .reg .csf, .sets] [] s u) ∧
  (∀ (dt : Nat) (a : Fin 32) (b0 b1 b2 : List Bool) (s : State), (s.elapse dt).strobeDue a = false → 
      ∃ u, exec (.currentPeriodBoundary dt a b0 b1 b2) s = .next u ∧ u = (s.elapse dt)) ∧
  (∀ (dt : Nat) (a : Fin 32) (b0 b1 b2 : List Bool) (s : State), s.isLocal a = true → (s.elapse dt).atBoundary (s.axBper a) = true → s.axCMode a = 2 → s.get (ENG_CST_RUN a) = 1 → a.val / 4 ∉ s.eng.halted → 
      ∃ u, exec (.bandBoundary dt a b0 b1 b2) s = .next u ∧ u.eng.transfers.length = s.eng.transfers.length + s.axBridges a + 1 ∧ (u.eng.transfers.getLast?.map (fun t => (t.axis, t.ch)) = some (a.val, none)) ∧ (∀ h : Fin 3, h.val < s.axBridges a → h.val ∉ (s.cx a).bandCut → tabGet 0 (s.cx a).bandW h < s.get (ENG_BAND_MINDW a) → u.get (bandSt a h) = s.get (bandSt a h) ∧ tabGet 0 (u.cx a).bandW h = tabGet 0 (s.cx a).bandW h + 1) ∧ (∀ h : Fin 3, h.val < s.axBridges a → h.val ∉ (u.cx a).bandCut) ∧ (∀ y : Fin 32, y ≠ a → u.cx y = s.cx y)) ∧
  (∀ (dt : Nat) (a : Fin 32) (b0 b1 b2 : List Bool) (s : State), (s.isLocal a = false ∨ s.axCMode a ≠ 2 ∨ s.get (ENG_CST_RUN a) ≠ 1 ∨ a.val / 4 ∈ s.eng.halted ∨ (s.elapse dt).atBoundary (s.axBper a) = false) → 
      ∃ u, exec (.bandBoundary dt a b0 b1 b2) s = .next u ∧ u = (s.elapse dt))

/-- The Darner, the estimator and the Sheepdog. After a velocity instance the three units of its axis update once; a Darner that is not enabled shows OFF; a pending Sheepdog warns of AV flags and latches nothing; an armed one that runs over RTH for its count trips with sub-cause 2 and faults the axis with cause 0x07; SETTLE at 0 arms it; CLEAR empties the Darner memory at the next velocity boundary. -/
def Obligations.LearningUnits : Prop :=
  (∀ (dt : Nat) (a : Fin 32) (s : State), (s.cx a).due = false → 
      ∃ u, exec (.velocityInstanceUpdate dt a) s = .next u ∧ u = (s.elapse dt)) ∧
  (∀ (dt : Nat) (a : Fin 32) (s : State), (s.cx a).due = true → 
      ∃ u, exec (.velocityInstanceUpdate dt a) s = .next u ∧ (u.cx a).due = false ∧ (u.shep a).sdv = (s.cx a).sdv ∧ (bit (s.axU a 0x300 1) 0 = false → u.get (ENG_DST_STATE a) = 0) ∧ (bit (s.axU a 0x300 1) 0 = true → 1 ≤ u.get (ENG_DST_STATE a)) ∧ (∀ y : Fin 32, y ≠ a → u.cx y = s.cx y)) ∧
  (∀ (dt : Nat) (a : Fin 32) (s : State), (s.cx a).due = true → s.get (ENG_SST_STATE a) = 1 → s.get (ENG_FLG_AVV a) &&& s.axU a 0x351 1 ≠ 0 → 
      ∃ u, exec (.velocityInstanceUpdate dt a) s = .next u ∧ u.get (ENG_SST_AVW a) = 1 ∧ u.get (ENG_SST_STATE a) = 1 ∧ u.axState a = s.axState a) ∧
  (∀ (dt : Nat) (a : Fin 32) (s : State), (s.cx a).due = true → s.get (ENG_SST_STATE a) = 2 → s.accel a = none → bit (s.axU a 0x350 1) 0 = true → s.rfOver a (s.axU a 0x354 2) = true → s.axU a 0x353 1 ≤ min (s.get (ENG_SST_RUN a) + 1) 255 → 1 ≤ s.axState a → s.axState a ≤ 5 → 
      ∃ u, exec (.velocityInstanceUpdate dt a) s = .next u ∧ u.get (ENG_SST_STATE a) = 3 ∧ u.get (ENG_SST_SUB a) = 2 ∧ u.axState a = 6 ∧ u.get (PRF_AXST_CAUSE a) = 7 ∧ u.enabled a = false) ∧
  (∀ (dt : Nat) (a : Fin 32) (s : State), s.get (ENG_SST_STATE a) = 1 → s.get (ENG_SST_SETTLE a) = 0 → 
      ∃ u, exec (.sheepdogArmed dt a) s = .next u ∧ u.get (ENG_SST_STATE a) = 2 ∧ u.get (ENG_SST_RUN a) = 0 ∧ u.get (PRF_AXST_SDPEND a) = 0 ∧ OnlyChanges [.clk, .sets] [ENG_SST a, PRF_AXST a] s u) ∧
  (∀ (dt : Nat) (a : Fin 32) (s : State), (s.get (ENG_SST_STATE a) ≠ 1 ∨ s.get (ENG_SST_SETTLE a) ≠ 0) → 
      ∃ u, exec (.sheepdogArmed dt a) s = .next u ∧ u = (s.elapse dt)) ∧
  (∀ (dt : Nat) (a : Fin 32) (s : State), 
      ∃ u, exec (.darnerClear dt a) s = .next u ∧ (u.darn a).clear = true ∧ (u.darn a).mem = (s.darn a).mem ∧ (∀ y : Fin 32, y ≠ a → u.darn y = s.darn y) ∧ OnlyChanges [.clk, .drn, .sets] [] s u) ∧
  (∀ (dt : Nat) (a : Fin 32) (s : State), (s.darn a).clear = true → (s.elapse dt).atBoundary (s.velPeriod a) = true → 
      ∃ u, exec (.darnerClearEffect dt a) s = .next u ∧ (u.darn a).clear = false ∧ (u.darn a).mem = [] ∧ u.get (ENG_DST_SPAN a) = 0 ∧ (∀ y : Fin 32, y ≠ a → u.darn y = s.darn y) ∧ OnlyChanges [.clk, .drn, .sets] [ENG_DST a] s u) ∧
  (∀ (dt : Nat) (a : Fin 32) (s : State), ((s.darn a).clear = false ∨ (s.elapse dt).atBoundary (s.velPeriod a) = false) → 
      ∃ u, exec (.darnerClearEffect dt a) s = .next u ∧ u = (s.elapse dt))

/-- NOP, END, REP, CLRF and the order of instructions. NOP does nothing but go on to the next instruction in one cycle, which is the first of the body while a repeat has runs left, and the one after the body when it has none; REP begins a repeat of the instructions that follow it; CLRF clears the flags of its mask; END ends the program; no other context and nothing else of the state changes. -/
def Obligations.EngineOrder : Prop :=
  (∀ (x : Fin 32) (s : State), (s.cx x).loops = [] → 
      ∃ u, exec (.engNop x) s = .next u ∧ (u = s.onCx x fun c => { c with pc := c.pc + 1, cyc := c.cyc + 1 })) ∧
  (∀ (x : Fin 32) (first last left : Nat) (l : List (Nat × Nat × Nat)) (s : State), (s.cx x).loops = (first, last, left) :: l → last ≠ (s.cx x).pc → 
      ∃ u, exec (.engNop x) s = .next u ∧ (u = s.onCx x fun c => { c with pc := c.pc + 1, cyc := c.cyc + 1 })) ∧
  (∀ (x : Fin 32) (first last left : Nat) (l : List (Nat × Nat × Nat)) (s : State), (s.cx x).loops = (first, last, left) :: l → last = (s.cx x).pc → 1 < left → 
      ∃ u, exec (.engNop x) s = .next u ∧ (u = s.onCx x fun c => { c with pc := first, loops := (first, last, left - 1) :: l, cyc := c.cyc + 1 })) ∧
  (∀ (x : Fin 32) (first last left : Nat) (s : State), (s.cx x).loops = [(first, last, left)] → last = (s.cx x).pc → left ≤ 1 → 
      ∃ u, exec (.engNop x) s = .next u ∧ (u = s.onCx x fun c => { c with pc := c.pc + 1, loops := [], cyc := c.cyc + 1 })) ∧
  (∀ (x : Fin 32) (s : State), 
      ∃ u, exec (.engEnd x) s = .next u ∧ (u = s.onCx x fun c => { c with ended := true, cyc := c.cyc + 1 })) ∧
  (∀ (x : Fin 32) (count : Fin 4096) (len : Fin 64) (s : State), (s.cx x).loops = [] → len.val ≠ 0 → 
      ∃ u, exec (.engRep x count len) s = .next u ∧ (u = s.onCx x fun c => { c with pc := c.pc + 1, loops := [(c.pc + 1, c.pc + len, count.val)], cyc := c.cyc + 1 })) ∧
  (∀ (x : Fin 32) (count : Fin 4096) (len : Fin 64) (s : State), 
      ∃ u, exec (.engRep x count len) s = .next u ∧ (u = s.onCx x fun c => ({ c with loops := (c.pc + 1, c.pc + len, count.val) :: c.loops }).advance 1)) ∧
  (∀ (x : Fin 32) (mask : BitVec 8) (s : State), 
      ∃ u, exec (.engClrf x mask) s = .next u ∧ (u = s.onCx x fun c => ({ c with av := c.av &&& ~~~(mask.extractLsb' 0 4), sat := c.sat &&& ~~~(mask.extractLsb' 4 4) }).advance 1))

/-- The loads, stores and moves. Each load, store and move of an engine writes the register or the words that its row of the Instructions table gives, with the flags of that row, in its cycles, moves its pointer as its modifier says, and changes nothing else; a store below word 0x080 writes nothing and sets WPROT. -/
def Obligations.EngineMoves : Prop :=
  (∀ (x : Fin 32) (d : Fin 16) (imm : BitVec 16) (s : State), 
      ∃ u, exec (.engLdi x d imm) s = .next u ∧ (u = s.onCx x fun c => (dTakes d imm c).advance 1)) ∧
  (∀ (x : Fin 32) (p : Fin 8) (imm : BitVec 11) (s : State), 
      ∃ u, exec (.engLdp x p imm) s = .next u ∧ (u = s.onCx x fun c => ({ c with p := tabSet c.p p imm }).advance 1)) ∧
  (∀ (x : Fin 32) (d : Fin 16) (p : Fin 8) (md : Option (Fin 8)) (s : State), 
      ∃ u, exec (.engLd x d p md) s = .next u ∧ (u = s.onCx x fun c => (stepped p md (dTakes d (c.word (c.pR p).toNat) c)).advance 1)) ∧
  (∀ (x : Fin 32) (m : Fin 8) (p : Fin 8) (md : Option (Fin 8)) (s : State), 
      ∃ u, exec (.engLdm x m p md) s = .next u ∧ (u = s.onCx x fun c => (stepped p md { c with m := tabSet c.m m ((c.word ((c.pR p).toNat + 1)) ++ (c.word (c.pR p).toNat)) }).advance 2)) ∧
  (∀ (x : Fin 32) (a : Fin 4) (p : Fin 8) (md : Option (Fin 8)) (s : State), 
      ∃ u, exec (.engLdw x a p md) s = .next u ∧ (u = s.onCx x fun c => (stepped p md (flagged (((c.word ((c.pR p).toNat + 1)) ++ (c.word (c.pR p).toNat)).signExtend 40) (aTakes a (((c.word ((c.pR p).toNat + 1)) ++ (c.word (c.pR p).toNat)).signExtend 40) c))).advance 1)) ∧
  (∀ (x : Fin 32) (l : Fin 4) (p : Fin 8) (md : Option (Fin 8)) (s : State), 
      ∃ u, exec (.engLld x l p md) s = .next u ∧ (u = s.onCx x fun c => (stepped p md (flagged ((c.word ((c.pR p).toNat + 2)) ++ (c.word ((c.pR p).toNat + 1)) ++ (c.word (c.pR p).toNat)) (lTakes l ((c.word ((c.pR p).toNat + 2)) ++ (c.word ((c.pR p).toNat + 1)) ++ (c.word (c.pR p).toNat)) c))).advance 3)) ∧
  (∀ (x : Fin 32) (d : Fin 16) (p : Fin 8) (md : Option (Fin 8)) (s : State), 
      ∃ u, exec (.engSt x d p md) s = .next u ∧ (u = (protects x ((s.cx x).pR p).toNat 1 s).onCx x fun c => (stepped p md ((stores (c.pR p).toNat (c.dR d) (c)))).advance 1)) ∧
  (∀ (x : Fin 32) (a : Fin 4) (p : Fin 8) (md : Option (Fin 8)) (s : State), 
      ∃ u, exec (.engStw x a p md) s = .next u ∧ (u = (protects x ((s.cx x).pR p).toNat 2 s).onCx x fun c => (stepped p md (saturated a (decide ((max (-2 ^ 31) (min (2 ^ 31 - 1) (c.aR a).toInt)) ≠ (c.aR a).toInt)) (stores ((c.pR p).toNat + 1) (BitVec.ofInt 16 ((max (-2 ^ 31) (min (2 ^ 31 - 1) (c.aR a).toInt)) / 65536)) (stores (c.pR p).toNat (BitVec.ofInt 16 (max (-2 ^ 31) (min (2 ^ 31 - 1) (c.aR a).toInt))) (c))))).advance 2)) ∧
  (∀ (x : Fin 32) (l : Fin 4) (p : Fin 8) (md : Option (Fin 8)) (s : State), 
      ∃ u, exec (.engLst x l p md) s = .next u ∧ (u = (protects x ((s.cx x).pR p).toNat 3 s).onCx x fun c => (stepped p md ((stores ((c.pR p).toNat + 2) ((c.lR l).extractLsb' 32 16) (stores ((c.pR p).toNat + 1) ((c.lR l).extractLsb' 16 16) (stores (c.pR p).toNat ((c.lR l).extractLsb' 0 16) (c)))))).advance 3)) ∧
  (∀ (x : Fin 32) (a : Fin 4) (p : Fin 8) (md : Option (Fin 8)) (sc : Option (BitVec 4)) (s : State), 
      ∃ u, exec (.engSta x a p md sc) s = .next u ∧ (u = (protects x ((s.cx x).pR p).toNat 1 s).onCx x fun c => (stepped p md (flagged (extWord (c.aR a) (scaleOf s x sc)) (saturated a (extSat (c.aR a) (scaleOf s x sc)) (stores (c.pR p).toNat (extWord (c.aR a) (scaleOf s x sc)) (c))))).advance 1)) ∧
  (∀ (x : Fin 32) (d y : Fin 16) (s : State), 
      ∃ u, exec (.engMov x d y) s = .next u ∧ (u = s.onCx x fun c => (dTakes d (c.dR y) c).advance 1)) ∧
  (∀ (x : Fin 32) (d : Fin 16) (a : Fin 4) (sc : Option (BitVec 4)) (s : State), 
      ∃ u, exec (.engMovd x d a sc) s = .next u ∧ (u = s.onCx x fun c => (flagged (extWord (c.aR a) (scaleOf s x sc)) (saturated a (extSat (c.aR a) (scaleOf s x sc)) (dTakes d (extWord (c.aR a) (scaleOf s x sc)) c))).advance 1)) ∧
  (∀ (x : Fin 32) (a : Fin 4) (y : Fin 16) (s : State), 
      ∃ u, exec (.engLda x a y) s = .next u ∧ (u = s.onCx x fun c => (flagged (BitVec.ofInt 40 ((c.dR y).toInt * 2 ^ 16)) (aTakes a (BitVec.ofInt 40 ((c.dR y).toInt * 2 ^ 16)) c)).advance 1))

/-- Accumulator arithmetic, products and special functions. Each instruction gives the exact result of its row of the Instructions table, kept modulo 2^40 with AV or limited with SAT, its flags and its cycles, and changes nothing else; SINCOS is within 1 LSB of the exact value. -/
def Obligations.EngineArithmetic : Prop :=
  (∀ (x : Fin 32) (a b : Fin 4) (s : State), 
      ∃ u, exec (.engAdda x a b) s = .next u ∧ (u = s.onCx x fun c => (accTakes a ((c.aR a).toInt + (c.aR b).toInt) c).advance 1)) ∧
  (∀ (x : Fin 32) (a b : Fin 4) (s : State), 
      ∃ u, exec (.engSuba x a b) s = .next u ∧ (u = s.onCx x fun c => (accTakes a ((c.aR a).toInt - (c.aR b).toInt) c).advance 1)) ∧
  (∀ (x : Fin 32) (a : Fin 4) (y : Fin 16) (s : State), 
      ∃ u, exec (.engAddd x a y) s = .next u ∧ (u = s.onCx x fun c => (accTakes a ((c.aR a).toInt + (c.dR y).toInt * 2 ^ 16) c).advance 1)) ∧
  (∀ (x : Fin 32) (a : Fin 4) (y : Fin 16) (s : State), 
      ∃ u, exec (.engSubd x a y) s = .next u ∧ (u = s.onCx x fun c => (accTakes a ((c.aR a).toInt - (c.dR y).toInt * 2 ^ 16) c).advance 1)) ∧
  (∀ (x : Fin 32) (a : Fin 4) (sh : Fin 32) (k : BitVec 16) (s : State), 
      ∃ u, exec (.engAddk x a sh k) s = .next u ∧ (u = s.onCx x fun c => (accTakes a ((c.aR a).toInt + k.toInt * 2 ^ sh.val) c).advance 1)) ∧
  (∀ (x : Fin 32) (a : Fin 4) (s : State), 
      ∃ u, exec (.engNega x a) s = .next u ∧ (u = s.onCx x fun c => (accTakes a (-(c.aR a).toInt) c).advance 1)) ∧
  (∀ (x : Fin 32) (a : Fin 4) (s : State), 
      ∃ u, exec (.engAbsa x a) s = .next u ∧ (u = s.onCx x fun c => (accTakes a (|(c.aR a).toInt|) c).advance 1)) ∧
  (∀ (x : Fin 32) (a : Fin 4) (sh : BitVec 6) (s : State), 
      ∃ u, exec (.engAsh x a sh) s = .next u ∧ (u = s.onCx x fun c => (accTakes a (if 0 ≤ sh.toInt then (c.aR a).toInt * 2 ^ sh.toInt.toNat else (c.aR a).toInt / 2 ^ (-sh.toInt).toNat) c).advance 1)) ∧
  (∀ (x : Fin 32) (a b : Fin 4) (y z : Fin 16) (sg zb : Bool) (s : State), 
      ∃ u, exec (.engMac x a b y z sg zb) s = .next u ∧ (u = s.onCx x fun c => (accTakes a ((if zb then 0 else (c.aR b).toInt) + (if sg then -1 else 1 : Int) * (2 * ((c.dR y).toInt * (c.dR z).toInt))) c).advance 1)) ∧
  (∀ (x : Fin 32) (a b : Fin 4) (y : Fin 16) (p : Fin 8) (md : Option (Fin 8)) (sg zb : Bool) (s : State), 
      ∃ u, exec (.engMacm x a b y p md sg zb) s = .next u ∧ (u = s.onCx x fun c => (stepped p md (accTakes a ((if zb then 0 else (c.aR b).toInt) + (if sg then -1 else 1 : Int) * (2 * ((c.dR y).toInt * (c.word (c.pR p).toNat).toInt))) c)).advance 1)) ∧
  (∀ (x : Fin 32) (a b : Fin 4) (p : Fin 8) (md : Option (Fin 8)) (q : Fin 8) (mq : Option (Fin 8)) (sg zb : Bool) (s : State), 
      ∃ u, exec (.engDmacm x a b p md q mq sg zb) s = .next u ∧ (u = s.onCx x fun c => (stepped q mq (stepped p md (accTakes a ((if zb then 0 else (c.aR b).toInt) + (if sg then -1 else 1 : Int) * (2 * ((c.word (c.pR p).toNat).toInt * (c.word (c.pR q).toNat).toInt))) c))).advance 1)) ∧
  (∀ (x : Fin 32) (a b : Fin 4) (y z w v : Fin 16) (sg1 sg2 : Bool) (s : State), a ≠ b → 
      ∃ u, exec (.engDmac x a b y z w v sg1 sg2) s = .next u ∧ (u = s.onCx x fun c => (accTakes a ((c.aR a).toInt + (if sg1 then -1 else 1 : Int) * (2 * ((c.dR y).toInt * (c.dR z).toInt))) (accTakes b ((c.aR b).toInt + (if sg2 then -1 else 1 : Int) * (2 * ((c.dR w).toInt * (c.dR v).toInt))) c)).advance 1)) ∧
  (∀ (x : Fin 32) (a : Fin 4) (d : Fin 16) (s : State), 
      ∃ u, exec (.engNorm x a d) s = .next u ∧ (∃ e : Int, expIs ((s.cx x).aR a) e ∧ u = s.onCx x fun c => (flagged (if 0 < e then BitVec.ofInt 40 ((c.aR a).toInt * 2 ^ e.toNat) else c.aR a) (aTakes a (if 0 < e then BitVec.ofInt 40 ((c.aR a).toInt * 2 ^ e.toNat) else c.aR a) (dTakes d (BitVec.ofInt 16 e) c))).advance 1)) ∧
  (∀ (x : Fin 32) (d : Fin 16) (a : Fin 4) (s : State), 
      ∃ u, exec (.engExp x d a) s = .next u ∧ (∃ e : Int, expIs ((s.cx x).aR a) e ∧ u = s.onCx x fun c => (flagged (BitVec.ofInt 16 e) (dTakes d (BitVec.ofInt 16 e) c)).advance 1)) ∧
  (∀ (x : Fin 32) (a : Fin 4) (s : State), 
      ∃ u, exec (.engSata x a) s = .next u ∧ (u = s.onCx x fun c => (flagged (BitVec.ofInt 40 (max (-2 ^ 31) (min (2 ^ 31 - 1) (c.aR a).toInt))) (saturated a (decide ((max (-2 ^ 31) (min (2 ^ 31 - 1) (c.aR a).toInt)) ≠ (c.aR a).toInt)) (aTakes a (BitVec.ofInt 40 (max (-2 ^ 31) (min (2 ^ 31 - 1) (c.aR a).toInt))) c))).advance 1)) ∧
  (∀ (x : Fin 32) (a : Fin 4) (s : State), 
      ∃ u, exec (.engTsta x a) s = .next u ∧ (u = s.onCx x fun c => (flagged (c.aR a) c).advance 1)) ∧
  (∀ (x : Fin 32) (a : Fin 4) (s : State), 
      ∃ u, exec (.engClra x a) s = .next u ∧ (u = s.onCx x fun c => (flagged 0#40 (aTakes a 0 c)).advance 1)) ∧
  (∀ (x : Fin 32) (d : Fin 16) (a : Fin 4) (s : State), 
      ∃ u, exec (.engSqrt x d a) s = .next u ∧ (∃ r : BitVec 16, (((s.cx x).aR a).toInt < 0 → r = 0) ∧ (2 ^ 31 ≤ ((s.cx x).aR a).toInt → r = 0x7FFF) ∧ (0 ≤ ((s.cx x).aR a).toInt ∧ ((s.cx x).aR a).toInt < 2 ^ 31 → rootIs ((s.cx x).aR a).toNat r.toNat) ∧ u = s.onCx x fun c => (flagged r (saturated a (decide ((c.aR a).toInt < 0 ∨ 2 ^ 31 ≤ (c.aR a).toInt)) (dTakes d r c))).advance 8)) ∧
  (∀ (x : Fin 32) (d y z : Fin 16) (s : State), 
      ∃ u, exec (.engDiv x d y z) s = .next u ∧ (u = s.onCx x fun c => (flagged (quotient (c.dR y).toInt (c.dR z).toInt) (dTakes d (quotient (c.dR y).toInt (c.dR z).toInt) c)).advance 16)) ∧
  (∀ (x : Fin 32) (ds dc y : Fin 16) (s : State), ds ≠ dc → 
      ∃ u, exec (.engSincos x ds dc y) s = .next u ∧ (∃ p q : BitVec 16, p.toInt * 2 ^ 49 ≤ min (sinTurn (((s.cx x).dR y).toNat % 2 ^ 15) + 2 ^ 49) (0x7FFF * 2 ^ 49) ∧ max (sinTurn (((s.cx x).dR y).toNat % 2 ^ 15) - 2 ^ 49) (-(2 ^ 64)) ≤ (p.toInt + (if p.toInt = 0x7FFF then 1 else 0)) * 2 ^ 49 ∧ q.toInt * 2 ^ 49 ≤ min (sinTurn ((((s.cx x).dR y).toNat % 2 ^ 15) + 8192) + 2 ^ 49) (0x7FFF * 2 ^ 49) ∧ max (sinTurn ((((s.cx x).dR y).toNat % 2 ^ 15) + 8192) - 2 ^ 49) (-(2 ^ 64)) ≤ (q.toInt + (if q.toInt = 0x7FFF then 1 else 0)) * 2 ^ 49 ∧ u = (s.drew 1).onCx x fun c => (dTakes dc q (dTakes ds p c)).advance 2))

/-- SELD, SELA and SELL. SELD, SELA and SELL write the first source when the condition is true and the second otherwise, in 1 cycle, whichever it is; no flag and nothing else changes. -/
def Obligations.EngineSelects : Prop :=
  (∀ (x : Fin 32) (d : Fin 16) (cc : Fin 32) (y z : Fin 16) (s : State), s.cond x cc = true → 
      ∃ u, exec (.engSeld x d cc y z) s = .next u ∧ (u = s.onCx x fun c => (dTakes d (c.dR y) c).advance 1)) ∧
  (∀ (x : Fin 32) (a : Fin 4) (cc : Fin 32) (b e : Fin 4) (s : State), s.cond x cc = true → 
      ∃ u, exec (.engSela x a cc b e) s = .next u ∧ (u = s.onCx x fun c => (aTakes a (c.aR b) c).advance 1)) ∧
  (∀ (x : Fin 32) (l : Fin 4) (cc : Fin 32) (m n : Fin 4) (s : State), s.cond x cc = true → 
      ∃ u, exec (.engSell x l cc m n) s = .next u ∧ (u = s.onCx x fun c => (lTakes l (c.lR m) c).advance 1)) ∧
  (∀ (x : Fin 32) (d : Fin 16) (cc : Fin 32) (y z : Fin 16) (s : State), s.cond x cc = false → 
      ∃ u, exec (.engSeld x d cc y z) s = .next u ∧ (u = s.onCx x fun c => (dTakes d (c.dR z) c).advance 1)) ∧
  (∀ (x : Fin 32) (a : Fin 4) (cc : Fin 32) (b e : Fin 4) (s : State), s.cond x cc = false → 
      ∃ u, exec (.engSela x a cc b e) s = .next u ∧ (u = s.onCx x fun c => (aTakes a (c.aR e) c).advance 1)) ∧
  (∀ (x : Fin 32) (l : Fin 4) (cc : Fin 32) (m n : Fin 4) (s : State), s.cond x cc = false → 
      ∃ u, exec (.engSell x l cc m n) s = .next u ∧ (u = s.onCx x fun c => (lTakes l (c.lR n) c).advance 1))

/-- Data words, long registers and ports. MIN, MAX, NEGD and CMP, LADD, LSUB, LMOV and LTA, IN and LIN give the results of their rows and change nothing else; OUT writes its port; OUTI gives the reference after the clamps of the Leash, which reads back from the fourth cycle on; OUTC sends the compare of its duty word after the clamps, and OUTK the commit request, with the number of the PWM period of the instance. -/
def Obligations.EngineWordsAndPorts : Prop :=
  (∀ (x : Fin 32) (d y z : Fin 16) (s : State), 
      ∃ u, exec (.engMin x d y z) s = .next u ∧ (u = s.onCx x fun c => (flagged (if (c.dR y).toInt ≤ (c.dR z).toInt then c.dR y else c.dR z) (dTakes d (if (c.dR y).toInt ≤ (c.dR z).toInt then c.dR y else c.dR z) c)).advance 1)) ∧
  (∀ (x : Fin 32) (d y z : Fin 16) (s : State), 
      ∃ u, exec (.engMax x d y z) s = .next u ∧ (u = s.onCx x fun c => (flagged (if (c.dR y).toInt ≥ (c.dR z).toInt then c.dR y else c.dR z) (dTakes d (if (c.dR y).toInt ≥ (c.dR z).toInt then c.dR y else c.dR z) c)).advance 1)) ∧
  (∀ (x : Fin 32) (d y : Fin 16) (s : State), 
      ∃ u, exec (.engNegd x d y) s = .next u ∧ (u = s.onCx x fun c => (flagged (if c.dR y = 0x8000 then 0x7FFF else -(c.dR y) : BitVec 16) (dTakes d (if c.dR y = 0x8000 then 0x7FFF else -(c.dR y) : BitVec 16) c)).advance 1)) ∧
  (∀ (x : Fin 32) (y z : Fin 16) (s : State), 
      ∃ u, exec (.engCmp x y z) s = .next u ∧ (u = s.onCx x fun c => ({ c with z := decide (c.dR y = c.dR z), n := decide ((c.dR y).toInt < (c.dR z).toInt) }).advance 1)) ∧
  (∀ (x : Fin 32) (l m n : Fin 4) (s : State), 
      ∃ u, exec (.engLadd x l m n) s = .next u ∧ (u = s.onCx x fun c => (flagged ((c.lR m) + (c.lR n)) (lTakes l ((c.lR m) + (c.lR n)) c)).advance 1)) ∧
  (∀ (x : Fin 32) (l m n : Fin 4) (s : State), 
      ∃ u, exec (.engLsub x l m n) s = .next u ∧ (u = s.onCx x fun c => (flagged ((c.lR m) - (c.lR n)) (lTakes l ((c.lR m) - (c.lR n)) c)).advance 1)) ∧
  (∀ (x : Fin 32) (l m : Fin 4) (s : State), 
      ∃ u, exec (.engLmov x l m) s = .next u ∧ (u = s.onCx x fun c => (lTakes l (c.lR m) c).advance 1)) ∧
  (∀ (x : Fin 32) (a l : Fin 4) (sh : BitVec 6) (s : State), 
      ∃ u, exec (.engLta x a l sh) s = .next u ∧ (u = s.onCx x fun c => (flagged (BitVec.ofInt 40 (max (-2 ^ 39) (min (2 ^ 39 - 1) (if 0 ≤ sh.toInt then (c.lR l).toInt * 2 ^ sh.toInt.toNat else (c.lR l).toInt / 2 ^ (-sh.toInt).toNat)))) (saturated a (decide ((max (-2 ^ 39) (min (2 ^ 39 - 1) (if 0 ≤ sh.toInt then (c.lR l).toInt * 2 ^ sh.toInt.toNat else (c.lR l).toInt / 2 ^ (-sh.toInt).toNat))) ≠ (if 0 ≤ sh.toInt then (c.lR l).toInt * 2 ^ sh.toInt.toNat else (c.lR l).toInt / 2 ^ (-sh.toInt).toNat))) (aTakes a (BitVec.ofInt 40 (max (-2 ^ 39) (min (2 ^ 39 - 1) (if 0 ≤ sh.toInt then (c.lR l).toInt * 2 ^ sh.toInt.toNat else (c.lR l).toInt / 2 ^ (-sh.toInt).toNat)))) c))).advance 1)) ∧
  (∀ (x : Fin 32) (d : Fin 16) (s : State), 
      ∃ u, exec (.engIn x d 0) s = .next u ∧ (u = s.onCx x fun c => (dTakes d (c.isu) c).advance 1)) ∧
  (∀ (x : Fin 32) (d : Fin 16) (s : State), 
      ∃ u, exec (.engIn x d 1) s = .next u ∧ (u = s.onCx x fun c => (dTakes d (c.isv) c).advance 1)) ∧
  (∀ (x : Fin 32) (d : Fin 16) (s : State), 
      ∃ u, exec (.engIn x d 2) s = .next u ∧ (u = s.onCx x fun c => (dTakes d (c.isw) c).advance 1)) ∧
  (∀ (x : Fin 32) (d : Fin 16) (s : State), 
      ∃ u, exec (.engIn x d 3) s = .next u ∧ (u = s.onCx x fun c => (dTakes d (c.eang) c).advance 1)) ∧
  (∀ (x : Fin 32) (d : Fin 16) (s : State), 
      ∃ u, exec (.engIn x d 7) s = .next u ∧ (u = s.onCx x fun c => (dTakes d (c.dcor) c).advance 1)) ∧
  (∀ (x : Fin 32) (d : Fin 16) (s : State), 
      ∃ u, exec (.engIn x d 8) s = .next u ∧ (u = s.onCx x fun c => (dTakes d (BitVec.ofNat 16 (s.get (ENG_JEST_JEST x))) c).advance 1)) ∧
  (∀ (x : Fin 32) (d : Fin 16) (s : State), 
      ∃ u, exec (.engIn x d 6) s = .next u ∧ (u = s.onCx x fun c => (dTakes d (if c.vrefSet then c.vref else c.word 0x076) c).advance 1)) ∧
  (∀ (x : Fin 32) (d : Fin 16) (s : State), 
      ∃ u, exec (.engIn x d 4) s = .next u ∧ (u = s.onCx x fun c => (dTakes d ((s.irefRead x).1) c).advance 1)) ∧
  (∀ (x : Fin 32) (d : Fin 16) (s : State), 
      ∃ u, exec (.engIn x d 5) s = .next u ∧ (u = s.onCx x fun c => (dTakes d ((s.irefRead x).2) c).advance 1)) ∧
  (∀ (x : Fin 32) (l : Fin 4) (s : State), 
      ∃ u, exec (.engLin x l 0x10) s = .next u ∧ (u = s.onCx x fun c => (lTakes l (c.pm) c).advance 1)) ∧
  (∀ (x : Fin 32) (l : Fin 4) (s : State), 
      ∃ u, exec (.engLin x l 0x11) s = .next u ∧ (u = s.onCx x fun c => (lTakes l ((if c.fresh then c.pm else c.pmp)) c).advance 1)) ∧
  (∀ (x : Fin 32) (l : Fin 4) (s : State), 
      ∃ u, exec (.engLin x l 0x12) s = .next u ∧ (u = s.onCx x fun c => (lTakes l (c.psp) c).advance 1)) ∧
  (∀ (x : Fin 32) (l : Fin 4) (s : State), 
      ∃ u, exec (.engLin x l 0x13) s = .next u ∧ (u = s.onCx x fun c => (lTakes l (c.vsp.signExtend 48) c).advance 1)) ∧
  (∀ (x : Fin 32) (y : Fin 16) (s : State), 
      ∃ u, exec (.engOut x 0x20 y) s = .next u ∧ (u = s.onCx x fun c => ({ c with vref := c.dR y, vrefSet := true }).advance 1)) ∧
  (∀ (x : Fin 32) (y : Fin 16) (s : State), 
      ∃ u, exec (.engOut x 0x21 y) s = .next u ∧ (u = s.onCx x fun c => ({ c with derr := some (c.dR y) }).advance 1)) ∧
  (∀ (x : Fin 32) (y : Fin 16) (s : State), 
      ∃ u, exec (.engOut x 0x22 y) s = .next u ∧ (u = s.onCx x fun c => ({ c with sdv := some (c.dR y) }).advance 1)) ∧
  (∀ (x : Fin 32) (y : Fin 16) (s : State), 
      ∃ u, exec (.engOut x 0x23 y) s = .next u ∧ (u = (s.put (ENG_VOUT_VD x) ((s.cx x).dR y).toNat).onCx x fun c => ({ c with vd := c.dR y }).advance 1)) ∧
  (∀ (x : Fin 32) (y : Fin 16) (s : State), 
      ∃ u, exec (.engOut x 0x24 y) s = .next u ∧ (u = (s.put (ENG_VOUT_VQ x) ((s.cx x).dR y).toNat).onCx x fun c => ({ c with vq := c.dR y }).advance 1)) ∧
  (∀ (x : Fin 32) (y z : Fin 16) (s : State), 
      ∃ u, exec (.engOuti x y z) s = .next u ∧ u.get (ENG_IREF_ID x) = (BitVec.ofInt 16 (s.leashIref x ((s.cx x).dR y).toInt ((s.cx x).dR z).toInt).1.1).toNat ∧ u.get (ENG_IREF_IQ x) = (BitVec.ofInt 16 (s.leashIref x ((s.cx x).dR y).toInt ((s.cx x).dR z).toInt).1.2).toNat ∧ (u.cx x = ({ (s.cx x) with irefNew := some ((BitVec.ofInt 16 (s.leashIref x ((s.cx x).dR y).toInt ((s.cx x).dR z).toInt).1.1), (BitVec.ofInt 16 (s.leashIref x ((s.cx x).dR y).toInt ((s.cx x).dR z).toInt).1.2), (s.cx x).cyc + 4), clfNext := decide ((BitVec.ofInt 16 (s.leashIref x ((s.cx x).dR y).toInt ((s.cx x).dR z).toInt).1.1) ≠ (s.cx x).dR y ∨ (BitVec.ofInt 16 (s.leashIref x ((s.cx x).dR y).toInt ((s.cx x).dR z).toInt).1.2) ≠ (s.cx x).dR z) }).advance 1) ∧ (∀ y : Fin 32, y ≠ x → u.cx y = s.cx y)) ∧
  (∀ (x : Fin 32) (ch : Fin 3) (y : Fin 16) (s : State), 
      ∃ u, exec (.engOutc x ch y) s = .next u ∧ (u.eng.transfers = s.eng.transfers ++ [{ id := s.eng.nextId, axis := x, ch := some ch.val, value := (s.leashCompare x (if ((s.cx x).dR y).toInt ≤ 0 then 0 else if (s.cx x).dR y = 0x7FFF then 0xFFFFFFFF else ((s.cx x).dR y).toNat * (s.pax x).stagePer / 2 ^ 15)).1, per := (s.cx x).perNum }]) ∧ u.eng.nextId = s.eng.nextId + 1 ∧ u.cx x = (s.cx x).advance 2 ∧ (∀ y : Fin 32, y ≠ x → u.cx y = s.cx y)) ∧
  (∀ (x : Fin 32) (s : State), 
      ∃ u, exec (.engOutk x) s = .next u ∧ u.eng.transfers = s.eng.transfers ++ [{ id := s.eng.nextId, axis := x, ch := none, value := 0, per := (s.cx x).perNum }] ∧ u.eng.nextId = s.eng.nextId + 1 ∧ u.cx x = (s.cx x).advance 1 ∧ (∀ y : Fin 32, y ≠ x → u.cx y = s.cx y) ∧ OnlyChanges [.eng] [] s u)

/-- Current-sense faults, encoder readings and acyclic exchanges. Overcurrent faults the axis with cause 0x05 and a stuck stream, a failed sum check, an illegal transition, a wrong index distance and an open pair with cause 0x06 and their code; a quadrature edge of a port in use moves X by 1 (the direction is presumed, log 29); a good SSI, POS or POST reading clears CONS, a failed one counts and shows its code; an acyclic exchange shows its response; a master port gives its position to its boundary. -/
def Obligations.SenseAndFeedback : Prop :=
  (∀ (dt : Nat) (a : Fin 32) (h : Fin 3) (l : List Bool) (s : State), (s.elapse dt).overCurrent a h l = true → 
      ∃ u, exec (.fastOvercurrent dt a h l) s = .next u ∧ u.get (CSF_CST_OC (3 * a.val + h)) = 1 ∧ (1 ≤ s.axState a ∧ s.axState a ≤ 5 → u.axState a = 6 ∧ u.get (PRF_AXST_CAUSE a) = 5 ∧ u.get (PRF_AXST_REACT a) = 0 ∧ u.get (PWM_AXST_EN a) = 0)) ∧
  (∀ (dt : Nat) (a : Fin 32) (h : Fin 3) (l : List Bool) (s : State), (s.elapse dt).overCurrent a h l = false → 
      ∃ u, exec (.fastOvercurrent dt a h l) s = .next u ∧ u = (s.elapse dt)) ∧
  (∀ (dt : Nat) (c : Fin 96) (l : List Bool) (s : State), streamStuck l = true → s.enabled (c / 3) = true → c.val % 3 ∈ s.fitted (c / 3) → (s.axis (c / 3)).enAt + 64 * s.get (CSF_SDC_TSD (s.axSdClk (c / 3))) ≤ (s.elapse dt).clk.elapsed → c.val ∉ s.csf.stuck → (s.elapse dt).sddEdge c = true → (s.axFbPort (c / 3) = 0xFF ∨ s.portOwner (s.axFbPort (c / 3)) = some (c.val / 3)) → 
      ∃ u, exec (.stuckChannel dt c l) s = .next u ∧ u.get (CSF_CST_STUCK c) = 1 ∧ c.val ∈ u.csf.stuck ∧ (1 ≤ s.axState (c / 3) ∧ s.axState (c / 3) ≤ 5 → u.axState (c / 3) = 6 ∧ u.get (PRF_AXST_CAUSE (c / 3)) = 6) ∧ (s.axFbPort (c / 3) < 34 → u.get (FBK_PST_LASTERR (s.axFbPort (c / 3))) = 0xD)) ∧
  (∀ (dt : Nat) (c : Fin 96) (l : List Bool) (s : State), streamStuck l = false → (s.elapse dt).sddEdge c = true → 
      ∃ u, exec (.stuckChannel dt c l) s = .next u ∧ c.val ∉ u.csf.stuck ∧ (∀ y : Fin 96, y ≠ c → (y.val ∈ u.csf.stuck ↔ y.val ∈ s.csf.stuck)) ∧ OnlyChanges [.clk, .csf, .sets] [CSF_VAL c, CSF_CST c] s u) ∧
  (∀ (dt : Nat) (c : Fin 96) (l : List Bool) (s : State), (s.elapse dt).sddEdge c = false → 
      ∃ u, exec (.stuckChannel dt c l) s = .next u ∧ u = (s.elapse dt)) ∧
  (∀ (dt : Nat) (a : Fin 32) (s : State), s.enabled a = true → tabGet 0 s.csf.sumRun a = 16 → (s.axFbPort a = 0xFF ∨ s.portOwner (s.axFbPort a) = some a.val) → 
      ∃ u, exec (.sumCheckFail dt a) s = .next u ∧ (∀ h : Fin 3, u.get (CSF_CST_SUM (3 * a.val + h)) = 1) ∧ (1 ≤ s.axState a ∧ s.axState a ≤ 5 → u.axState a = 6 ∧ u.get (PRF_AXST_CAUSE a) = 6) ∧ (s.axFbPort a < 34 → u.get (FBK_PST_LASTERR (s.axFbPort a)) = 0xE)) ∧
  (∀ (dt : Nat) (a : Fin 32) (s : State), (s.enabled a = false ∨ tabGet 0 s.csf.sumRun a ≠ 16) → 
      ∃ u, exec (.sumCheckFail dt a) s = .next u ∧ u = (s.elapse dt)) ∧
  (∀ (dt : Nat) (p : Fin 34) (a b : Bool) (s : State), s.fbMode p = 0 → bit (s.portU p 0x084 1) 2 = false → s.portUsed p = true → (s.elapse dt).quadBusy p = false → (((s.prt p).a ≠ a ∧ (s.prt p).b = b) ∨ ((s.prt p).a = a ∧ (s.prt p).b ≠ b)) → 
      ∃ u, exec (.quadratureEdge dt p a b) s = .next u ∧ ((u.prt p).x = signed 48 (unsigned 48 ((s.prt p).x + (if (s.prt p).a ≠ a then (if a ≠ b then 1 else -1) else (if a = b then 1 else -1) : Int)))) ∧ (u.prt p).a = a ∧ (u.prt p).b = b ∧ u.rd64S (FBK_PRAW p) = (u.prt p).x ∧ (u.prt p).index = (s.prt p).index.map (· + 1) ∧ OnlyChanges [.clk, .ports, .sets] [FBK_PRAW p, FBK_PRAW p + 4] s u) ∧
  (∀ (dt : Nat) (p : Fin 34) (a b : Bool) (s : State), s.fbMode p = 0 → bit (s.portU p 0x084 1) 2 = false → s.portUsed p = true → (s.elapse dt).quadBusy p = false → (s.prt p).a ≠ a → (s.prt p).b ≠ b → 
      ∃ u, exec (.quadratureEdge dt p a b) s = .next u ∧ (u.prt p).x = (s.prt p).x ∧ u.get (FBK_PST_FAULT p) = 1 ∧ u.get (FBK_PST_LASTERR p) = 9 ∧ (∀ n, s.portOwner p = some n → 1 ≤ s.axState n ∧ s.axState n ≤ 5 → u.axState n = 6 ∧ u.get (PRF_AXST_CAUSE n) = 6)) ∧
  (∀ (dt : Nat) (p : Fin 34) (a b : Bool) (s : State), s.portUsed p = true → (s.elapse dt).quadBusy p = true → 
      ∃ u, exec (.quadratureEdge dt p a b) s = .next u ∧ u = (s.elapse dt)) ∧
  (∀ (dt : Nat) (p : Fin 34) (a b : Bool) (s : State), s.portUsed p = false → 
      ∃ u, exec (.quadratureEdge dt p a b) s = .next u ∧ (u.prt p).x = (s.prt p).x ∧ u.rd (FBK_PST p) = s.rd (FBK_PST p) ∧ OnlyChanges [.clk, .ports, .sets] [] s u) ∧
  (∀ (dt : Nat) (p : Fin 34) (a b : Bool) (s : State), (s.fbMode p ≠ 0 ∨ (s.prt p).a = a ∧ (s.prt p).b = b) → bit (s.portU p 0x084 1) 2 = false → 
      ∃ u, exec (.quadratureEdge dt p a b) s = .next u ∧ u = (s.elapse dt)) ∧
  (∀ (dt : Nat) (p : Fin 34) (k : Nat) (s : State), s.fbMode p = 0 → s.portUsed p = true → bit (s.portU p 0x084 1) 0 = true → bit (s.portU p 0x084 1) 1 = true → (s.prt p).z = false → (s.prt p).index = some k → (k + s.portU p 0x08C 2 < 4 * s.portU p 0x088 4 ∨ 4 * s.portU p 0x088 4 + s.portU p 0x08C 2 < k) → 
      ∃ u, exec (.indexEdge dt p true) s = .next u ∧ u.get (FBK_PST_FAULT p) = 1 ∧ u.get (FBK_PST_LASTERR p) = 0xA ∧ (u.prt p).index = some 0) ∧
  (∀ (dt : Nat) (p : Fin 34) (k : Nat) (s : State), s.fbMode p = 0 → s.portUsed p = true → bit (s.portU p 0x084 1) 0 = true → bit (s.portU p 0x084 1) 1 = true → (s.prt p).z = false → (s.prt p).index = some k → 4 * s.portU p 0x088 4 ≤ k + s.portU p 0x08C 2 → k ≤ 4 * s.portU p 0x088 4 + s.portU p 0x08C 2 → 
      ∃ u, exec (.indexEdge dt p true) s = .next u ∧ (u.prt p).index = some 0 ∧ (u.prt p).z = true ∧ OnlyChanges [.clk, .ports, .sets] [] s u) ∧
  (∀ (dt : Nat) (p : Fin 34) (s : State), (s.portUsed p = false ∨ bit (s.portU p 0x084 1) 0 = false) → 
      ∃ u, exec (.indexEdge dt p true) s = .next u ∧ (u.prt p).index = (s.prt p).index ∧ (u.prt p).z = true ∧ OnlyChanges [.clk, .ports, .sets] [] s u) ∧
  (∀ (dt : Nat) (p : Fin 34) (f : Frame) (o : Fin 32) (y : Nat) (s : State), s.fbMode p = 1 → s.portOwner p = some o.val → s.awaitsRead o = false → s.ssiDecode p f = .inl y → s.jumpTh p = 0 → 
      ∃ u, exec (.ssiFrame dt p f) s = .next u ∧ u.get (FBK_PST_CONS p) = 0 ∧ u.get (FBK_PST_VALID p) = 1 ∧ (u.prt p).last = some y ∧ (u.prt p).taken = some ((u.prt p).x * 65536) ∧ ((s.prt p).last = none → (u.prt p).x = (y : Int)) ∧ u.axState o = s.axState o) ∧
  (∀ (dt : Nat) (p : Fin 34) (f : Frame) (o : Fin 32) (e : Nat) (s : State), s.fbMode p = 1 → s.portOwner p = some o.val → s.awaitsRead o = false → s.ssiDecode p f = .inr e → 
      ∃ u, exec (.ssiFrame dt p f) s = .next u ∧ u.get (FBK_PST_CONS p) = min (s.get (FBK_PST_CONS p) + 1) 255 ∧ u.get (FBK_PST_TOTAL p) = (s.get (FBK_PST_TOTAL p) + 1) % 65536 ∧ u.get (FBK_PST_LASTERR p) = e % 16 ∧ (u.prt p).x = (s.prt p).x ∧ (u.prt p).last = (s.prt p).last ∧ (min (s.get (FBK_PST_CONS p) + 1) 255 = s.portU p 0x085 1 → u.get (FBK_PST_FAULT p) = 1)) ∧
  (∀ (dt : Nat) (p : Fin 34) (f : Frame) (ident : Frame) (rtd : Nat) (o : Fin 32) (st : Nat) (d : List Byte) (s : State), s.fbMode p = 2 → bit (s.portU p 0x084 1) 0 = false → s.portOwner p = some o.val → s.awaitsRead o = false → afvenDecode 1 (((s.fbBits p + 7) / 8) + 0) f = .inl (st, d) → s.jumpTh p = 0 → 
      ∃ u, exec (.pos dt p f ident rtd) s = .next u ∧ u.get (FBK_PST_CONS p) = 0 ∧ u.get (FBK_PST_VALID p) = 1 ∧ (u.prt p).last = some (leAt d 0 ((s.fbBits p + 7) / 8) % 2 ^ s.fbBits p) ∧ (u.prt p).taken = some ((u.prt p).x * 65536) ∧ ((s.prt p).last = none → (u.prt p).x = ((leAt d 0 ((s.fbBits p + 7) / 8) % 2 ^ s.fbBits p) : Int)) ∧ u.axState o = s.axState o) ∧
  (∀ (dt : Nat) (p : Fin 34) (f : Frame) (ident : Frame) (rtd : Nat) (o : Fin 32) (e : Nat) (s : State), s.fbMode p = 2 → bit (s.portU p 0x084 1) 0 = false → s.portOwner p = some o.val → s.awaitsRead o = false → afvenDecode 1 (((s.fbBits p + 7) / 8) + 0) f = .inr e → 
      ∃ u, exec (.pos dt p f ident rtd) s = .next u ∧ u.get (FBK_PST_CONS p) = min (s.get (FBK_PST_CONS p) + 1) 255 ∧ u.get (FBK_PST_TOTAL p) = (s.get (FBK_PST_TOTAL p) + 1) % 65536 ∧ u.get (FBK_PST_LASTERR p) = e % 16 ∧ (u.prt p).x = (s.prt p).x ∧ (u.prt p).last = (s.prt p).last ∧ (min (s.get (FBK_PST_CONS p) + 1) 255 = s.portU p 0x085 1 → u.get (FBK_PST_FAULT p) = 1)) ∧
  (∀ (dt : Nat) (p : Fin 34) (f : Frame) (ident : Frame) (rtd : Nat) (o : Fin 32) (st : Nat) (d : List Byte) (s : State), s.fbMode p = 2 → bit (s.portU p 0x084 1) 0 = true → s.portOwner p = some o.val → s.awaitsRead o = false → afvenDecode 2 (((s.fbBits p + 7) / 8) + 1) f = .inl (st, d) → s.jumpTh p = 0 → 
      ∃ u, exec (.post dt p f ident rtd) s = .next u ∧ u.get (FBK_PST_CONS p) = 0 ∧ u.get (FBK_PST_VALID p) = 1 ∧ (u.prt p).last = some (leAt d 0 ((s.fbBits p + 7) / 8) % 2 ^ s.fbBits p) ∧ (u.prt p).taken = some ((u.prt p).x * 65536) ∧ ((s.prt p).last = none → (u.prt p).x = ((leAt d 0 ((s.fbBits p + 7) / 8) % 2 ^ s.fbBits p) : Int)) ∧ u.axState o = s.axState o) ∧
  (∀ (dt : Nat) (p : Fin 34) (f : Frame) (ident : Frame) (rtd : Nat) (o : Fin 32) (e : Nat) (s : State), s.fbMode p = 2 → bit (s.portU p 0x084 1) 0 = true → s.portOwner p = some o.val → s.awaitsRead o = false → afvenDecode 2 (((s.fbBits p + 7) / 8) + 1) f = .inr e → 
      ∃ u, exec (.post dt p f ident rtd) s = .next u ∧ u.get (FBK_PST_CONS p) = min (s.get (FBK_PST_CONS p) + 1) 255 ∧ u.get (FBK_PST_TOTAL p) = (s.get (FBK_PST_TOTAL p) + 1) % 65536 ∧ u.get (FBK_PST_LASTERR p) = e % 16 ∧ (u.prt p).x = (s.prt p).x ∧ (u.prt p).last = (s.prt p).last ∧ (min (s.get (FBK_PST_CONS p) + 1) 255 = s.portU p 0x085 1 → u.get (FBK_PST_FAULT p) = 1)) ∧
  (∀ (dt : Nat) (p : Fin 34) (rsp : Frame) (k : Nat × Nat) (st : Nat) (d : List Byte) (s : State), (s.prt p).areq = some (3, k.1, k.2) → afvenDecode 3 2 rsp = .inl (st, d) → 
      ∃ u, exec (.afvenRead dt p rsp) s = .next u ∧ u.get (FBK_ARSP_DONE p) = 1 ∧ u.get (FBK_ARSP_ERR p) = 0 ∧ u.get (FBK_ARSP_STATUS p) = st % 256 ∧ u.get (FBK_ARSP_DATA p) = leAt d 0 2 % 65536 ∧ (u.prt p).areq = none) ∧
  (∀ (dt : Nat) (p : Fin 34) (rsp : Frame) (k : Nat × Nat) (e : Nat) (s : State), (s.prt p).areq = some (3, k.1, k.2) → afvenDecode 3 2 rsp = .inr e → 
      ∃ u, exec (.afvenRead dt p rsp) s = .next u ∧ u.get (FBK_ARSP_DONE p) = 1 ∧ u.get (FBK_ARSP_ERR p) = 1 ∧ (u.prt p).areq = none ∧ OnlyChanges [.clk, .ports, .sets] [FBK_ARSP p] s u) ∧
  (∀ (dt : Nat) (p : Fin 34) (rsp : Frame) (k : Nat × Nat) (st : Nat) (d : List Byte) (s : State), (s.prt p).areq = some (6, k.1, k.2) → afvenDecode 6 5 rsp = .inl (st, d) → 
      ∃ u, exec (.afvenRead dt p rsp) s = .next u ∧ u.get (FBK_ARSP_DONE p) = 1 ∧ u.get (FBK_ARSP_ERR p) = 0 ∧ u.get (FBK_ARSP_STATUS p) = st % 256 ∧ u.get (FBK_ARSP_DATA p) = leAt d 0 2 % 65536 ∧ (u.prt p).areq = none ∧ u.rd (FBK_AID p) = leAt d 1 4 % 2 ^ 32) ∧
  (∀ (dt : Nat) (p : Fin 34) (rsp : Frame) (k : Nat × Nat) (e : Nat) (s : State), (s.prt p).areq = some (6, k.1, k.2) → afvenDecode 6 5 rsp = .inr e → 
      ∃ u, exec (.afvenRead dt p rsp) s = .next u ∧ u.get (FBK_ARSP_DONE p) = 1 ∧ u.get (FBK_ARSP_ERR p) = 1 ∧ (u.prt p).areq = none ∧ OnlyChanges [.clk, .ports, .sets] [FBK_ARSP p] s u) ∧
  (∀ (dt : Nat) (p : Fin 34) (rsp : Frame) (k : Nat × Nat) (st : Nat) (d : List Byte) (s : State), (s.prt p).areq = some (4, k.1, k.2) → afvenDecode 4 0 rsp = .inl (st, d) → 
      ∃ u, exec (.afvenWrite dt p rsp) s = .next u ∧ u.get (FBK_ARSP_DONE p) = 1 ∧ u.get (FBK_ARSP_ERR p) = 0 ∧ u.get (FBK_ARSP_STATUS p) = st % 256 ∧ u.get (FBK_ARSP_DATA p) = leAt d 0 2 % 65536 ∧ (u.prt p).areq = none) ∧
  (∀ (dt : Nat) (p : Fin 34) (rsp : Frame) (k : Nat × Nat) (e : Nat) (s : State), (s.prt p).areq = some (4, k.1, k.2) → afvenDecode 4 0 rsp = .inr e → 
      ∃ u, exec (.afvenWrite dt p rsp) s = .next u ∧ u.get (FBK_ARSP_DONE p) = 1 ∧ u.get (FBK_ARSP_ERR p) = 1 ∧ (u.prt p).areq = none ∧ OnlyChanges [.clk, .ports, .sets] [FBK_ARSP p] s u) ∧
  (∀ (dt : Nat) (p : Fin 34) (rsp : Frame) (k : Nat × Nat) (st : Nat) (d : List Byte) (s : State), (s.prt p).areq = some (5, k.1, k.2) → afvenDecode 5 0 rsp = .inl (st, d) → 
      ∃ u, exec (.afvenClearErr dt p rsp) s = .next u ∧ u.get (FBK_ARSP_DONE p) = 1 ∧ u.get (FBK_ARSP_ERR p) = 0 ∧ u.get (FBK_ARSP_STATUS p) = st % 256 ∧ u.get (FBK_ARSP_DATA p) = leAt d 0 2 % 65536 ∧ (u.prt p).areq = none) ∧
  (∀ (dt : Nat) (p : Fin 34) (rsp : Frame) (k : Nat × Nat) (e : Nat) (s : State), (s.prt p).areq = some (5, k.1, k.2) → afvenDecode 5 0 rsp = .inr e → 
      ∃ u, exec (.afvenClearErr dt p rsp) s = .next u ∧ u.get (FBK_ARSP_DONE p) = 1 ∧ u.get (FBK_ARSP_ERR p) = 1 ∧ (u.prt p).areq = none ∧ OnlyChanges [.clk, .ports, .sets] [FBK_ARSP p] s u) ∧
  (∀ (dt : Nat) (p : Fin 34) (i : Fin 3) (o : Fin 32) (s : State), s.portOwner p = some o.val → bit (s.usedPairs p) i = true → 
      ∃ u, exec (.pairOpenOrShort dt p i true) s = .next u ∧ bit (u.prt p).broken i = true ∧ u.get (FBK_PST_FAULT p) = 1 ∧ u.get (FBK_PST_LASTERR p) = 0xB ∧ (1 ≤ s.axState o ∧ s.axState o ≤ 5 → u.axState o = 6 ∧ u.get (PRF_AXST_CAUSE o) = 6)) ∧
  (∀ (dt : Nat) (p : Fin 34) (i : Fin 3) (s : State), 
      ∃ u, exec (.pairOpenOrShort dt p i false) s = .next u ∧ bit (u.prt p).broken i = false ∧ (∀ q : Fin 34, q ≠ p → u.prt q = s.prt q) ∧ OnlyChanges [.clk, .ports, .sets] [] s u) ∧
  (∀ (dt : Nat) (k : Fin 2) (s : State), ((s.isMaster (32 + k.val) = true ∧ 7 ≤ s.get CFG_STATE_STATE ∧ (s.elapse dt).atBoundary (s.rd FBK_MPER) = true)) → 
      ∃ u, exec (.masterEncoderRead dt k) s = .next u ∧ u.rd64 (FBK_PPOS (32 + k.val)) = unsigned 64 (u.mencPos k) ∧ (u.prt (32 + k.val)).taken = none ∧ (s.fbMode (32 + k.val) = 0 → (u.prt (32 + k.val)).xb = (s.prt (32 + k.val)).x * 65536) ∧ OnlyChanges [.clk, .ports, .sets] [FBK_PST (32 + k.val), FBK_PPOS (32 + k.val), FBK_PPOS (32 + k.val) + 4] s u) ∧
  (∀ (dt : Nat) (k : Fin 2) (s : State), (¬(s.isMaster (32 + k.val) = true ∧ 7 ≤ s.get CFG_STATE_STATE ∧ (s.elapse dt).atBoundary (s.rd FBK_MPER) = true)) → 
      ∃ u, exec (.masterEncoderRead dt k) s = .next u ∧ u = (s.elapse dt))

/-- Probe edges, latches and ARM. An edge of an armed probe waits for its latch with its stamp; one that comes less than 64 ns after the last is counted in OVR, one without a source in NOSRC, one outside the window in OUTW; a probe that is not armed, or does not choose the polarity, ignores it. A latch shows its stamp, position and SEQ, sets DONE and clears ARM of a single probe; an edge waits while the reading after it is missing, and counts in NOSRC when its source is gone. ARM of a probe that REF_PROBE owns is an access error. -/
def Obligations.Probes : Prop :=
  (∀ (dt : Nat) (i : Fin 16) (rising : Bool) (s : State), (s.get (FBK_PRCFG_ARM i) = 0 ∨ bit (s.get (FBK_PRCFG_EDGE i)) (if rising then 0 else 1) = false ∨ 0x10 ≤ s.get (FBK_PRCFG_SRC i) ∧ s.get (FBK_PRCFG_SRC i) < 0x50) → 
      ∃ u, exec (.probeEdge dt i rising) s = .next u ∧ u = (s.elapse dt)) ∧
  (∀ (dt : Nat) (i : Fin 16) (rising : Bool) (s : State), (s.get (FBK_PRCFG_SRC i) < 0x10 ∨ 0x50 ≤ s.get (FBK_PRCFG_SRC i)) → s.get (FBK_PRCFG_ARM i) = 1 → (bit (s.get (FBK_PRCFG_EDGE i)) (if rising then 0 else 1) = true) → (s.get (FBK_PRCFG_CONT i) = 1 ∨ (s.probeOf i).waiting = []) → (match (s.probeOf i).edgeAt with | some t => decide (((s.elapse dt).probeStamp i) < t + 64) | none => false) = true → 
      ∃ u, exec (.probeEdge dt i rising) s = .next u ∧ u.get (FBK_PRST_OVR i) = min (s.get (FBK_PRST_OVR i) + 1) 255 ∧ u.probeOf i = s.probeOf i ∧ OnlyChanges [.clk, .sets] [FBK_PRST i] s u) ∧
  (∀ (dt : Nat) (i : Fin 16) (rising : Bool) (s : State), (s.get (FBK_PRCFG_SRC i) < 0x10 ∨ 0x50 ≤ s.get (FBK_PRCFG_SRC i)) → s.get (FBK_PRCFG_ARM i) = 1 → (bit (s.get (FBK_PRCFG_EDGE i)) (if rising then 0 else 1) = true) → (s.get (FBK_PRCFG_CONT i) = 1 ∨ (s.probeOf i).waiting = []) → (match (s.probeOf i).edgeAt with | some t => decide (((s.elapse dt).probeStamp i) < t + 64) | none => false) = false → (s.elapse dt).srcAt (s.get (FBK_PRSEL_LSEL i)) ((s.elapse dt).probeStamp i) = none → 
      ∃ u, exec (.probeEdge dt i rising) s = .next u ∧ u.get (FBK_PRST_NOSRC i) = min (s.get (FBK_PRST_NOSRC i) + 1) 63 ∧ (u.probeOf i).waiting = (s.probeOf i).waiting ∧ u.get (FBK_PRCFG_ARM i) = 1 ∧ OnlyChanges [.clk, .probes, .sets] [FBK_PRST i] s u) ∧
  (∀ (dt : Nat) (i : Fin 16) (rising : Bool) (x : Option Int) (s : State), (s.get (FBK_PRCFG_SRC i) < 0x10 ∨ 0x50 ≤ s.get (FBK_PRCFG_SRC i)) → s.get (FBK_PRCFG_ARM i) = 1 → (bit (s.get (FBK_PRCFG_EDGE i)) (if rising then 0 else 1) = true) → (s.get (FBK_PRCFG_CONT i) = 1 ∨ (s.probeOf i).waiting = []) → (match (s.probeOf i).edgeAt with | some t => decide (((s.elapse dt).probeStamp i) < t + 64) | none => false) = false → (s.elapse dt).srcAt (s.get (FBK_PRSEL_LSEL i)) ((s.elapse dt).probeStamp i) = some x → s.get (FBK_PRSEL_WSEL i) / 4096 = 0xF → 
      ∃ u, exec (.probeEdge dt i rising) s = .next u ∧ (u.probeOf i).waiting.length = (s.probeOf i).waiting.length + 1 ∧ ((u.probeOf i).waiting.getLast?.map (fun e => (e.time, e.rising, e.pos)) = some (((s.elapse dt).probeStamp i), rising, x)) ∧ (u.probeOf i).edgeAt = some ((s.elapse dt).probeStamp i) ∧ (∀ y : Fin 16, y ≠ i → u.probeOf y = s.probeOf y) ∧ OnlyChanges [.clk, .probes, .sets] [] s u) ∧
  (∀ (dt : Nat) (i : Fin 16) (rising : Bool) (x : Option Int) (w : Int) (s : State), (s.get (FBK_PRCFG_SRC i) < 0x10 ∨ 0x50 ≤ s.get (FBK_PRCFG_SRC i)) → s.get (FBK_PRCFG_ARM i) = 1 → (bit (s.get (FBK_PRCFG_EDGE i)) (if rising then 0 else 1) = true) → (s.get (FBK_PRCFG_CONT i) = 1 ∨ (s.probeOf i).waiting = []) → (match (s.probeOf i).edgeAt with | some t => decide (((s.elapse dt).probeStamp i) < t + 64) | none => false) = false → (s.elapse dt).srcAt (s.get (FBK_PRSEL_LSEL i)) ((s.elapse dt).probeStamp i) = some x → s.get (FBK_PRSEL_WSEL i) / 4096 ≠ 0xF → (s.elapse dt).srcAt (s.get (FBK_PRSEL_WSEL i)) ((s.elapse dt).probeStamp i) = some (some w) → s.outWindow i w = true → 
      ∃ u, exec (.probeEdge dt i rising) s = .next u ∧ u.get (FBK_PRST_OUTW i) = min (s.get (FBK_PRST_OUTW i) + 1) 65535 ∧ (u.probeOf i).waiting = (s.probeOf i).waiting ∧ u.get (FBK_PRCFG_ARM i) = 1 ∧ OnlyChanges [.clk, .probes, .sets] [FBK_PRST i] s u) ∧
  (∀ (dt : Nat) (i : Fin 16) (s : State), (s.probeOf i).waiting = [] → 
      ∃ u, exec (.probeLatch dt i) s = .next u ∧ u = (s.elapse dt)) ∧
  (∀ (dt : Nat) (i : Fin 16) (e : ProbeEdge) (l : List ProbeEdge) (x : Int) (s : State), (s.probeOf i).waiting = e :: l → e.win = false → e.pos = some x → 
      ∃ u, exec (.probeLatch dt i) s = .next u ∧ u.rd (FBK_PRT i) = e.stamp % 2 ^ 32 ∧ u.get (FBK_PRCNT_SEQ i) = (s.get (FBK_PRCNT_SEQ i) + 1) % 65536 ∧ u.get (FBK_PRST_DONE i) = 1 ∧ (u.probeOf i).waiting = l ∧ (s.get (FBK_PRCFG_CONT i) = 0 → u.get (FBK_PRCFG_ARM i) = 0) ∧ (s.get (FBK_PRCFG_CONT i) = 1 → u.get (FBK_PRCFG_ARM i) = s.get (FBK_PRCFG_ARM i)) ∧ u.rd64 (FBK_PRPOS i) = unsigned 64 x ∧ u.get (FBK_PRST_EST i) = 0) ∧
  (∀ (dt : Nat) (i : Fin 16) (e : ProbeEdge) (l : List ProbeEdge) (p : Nat) (r : Int × Bool) (s : State), (s.probeOf i).waiting = e :: l → e.win = false → e.pos = none → s.srcPort (s.get (FBK_PRSEL_LSEL i)) = some p → s.readAtTime p e.time = some r → 
      ∃ u, exec (.probeLatch dt i) s = .next u ∧ u.rd (FBK_PRT i) = e.stamp % 2 ^ 32 ∧ u.get (FBK_PRCNT_SEQ i) = (s.get (FBK_PRCNT_SEQ i) + 1) % 65536 ∧ u.get (FBK_PRST_DONE i) = 1 ∧ (u.probeOf i).waiting = l ∧ (s.get (FBK_PRCFG_CONT i) = 0 → u.get (FBK_PRCFG_ARM i) = 0) ∧ (s.get (FBK_PRCFG_CONT i) = 1 → u.get (FBK_PRCFG_ARM i) = s.get (FBK_PRCFG_ARM i)) ∧ u.rd64 (FBK_PRPOS i) = unsigned 64 (s.srcValue (s.get (FBK_PRSEL_LSEL i)) r.1) ∧ u.get (FBK_PRST_EST i) = b2n r.2) ∧
  (∀ (dt : Nat) (i : Fin 16) (e : ProbeEdge) (l : List ProbeEdge) (p : Nat) (s : State), (s.probeOf i).waiting = e :: l → e.win = false → e.pos = none → s.srcPort (s.get (FBK_PRSEL_LSEL i)) = some p → s.readAtTime p e.time = none → s.readBefore p e.time = true → 
      ∃ u, exec (.probeLatch dt i) s = .next u ∧ u = (s.elapse dt)) ∧
  (∀ (dt : Nat) (i : Fin 16) (e : ProbeEdge) (l : List ProbeEdge) (s : State), (s.probeOf i).waiting = e :: l → e.win = false → e.pos = none → s.srcPort (s.get (FBK_PRSEL_LSEL i)) = none → 
      ∃ u, exec (.probeLatch dt i) s = .next u ∧ u.get (FBK_PRST_NOSRC i) = min (s.get (FBK_PRST_NOSRC i) + 1) 63 ∧ (u.probeOf i).waiting = l ∧ u.get (FBK_PRCFG_ARM i) = s.get (FBK_PRCFG_ARM i) ∧ OnlyChanges [.clk, .probes, .sets] [FBK_PRST i] s u) ∧
  (∀ (dt : Nat) (who : Accessor) (i : Fin 16) (s : State), s.get (FBK_PRCFG_OWN i) = 0 → 
      ∃ u, exec (.probeArm dt who i) s = .next u ∧ u.get (FBK_PRCFG_ARM i) = 1 ∧ (∀ j : Fin 31, bit (u.rd (FBK_PRCFG i)) j = bit (s.rd (FBK_PRCFG i)) j) ∧ OnlyChanges [.clk, .sets] [FBK_PRCFG i] s u) ∧
  (∀ (dt : Nat) (who : Accessor) (i : Fin 16) (s : State), s.get (FBK_PRCFG_OWN i) = 1 → 
      ∃ u, exec (.probeArm dt who i) s = .next u ∧ u.bus.errs = s.bus.errs + 1 ∧ u.rd (FBK_PRCFG i) = s.rd (FBK_PRCFG i) ∧ OnlyChanges [.clk, .bus, .log, .reg .err, .sets] [] s u)

/-- Staging, commit, the phase watchdog and the period boundary. A transfer of the period in progress that completes before the write phase is staged; one that comes late is discarded and counted, and one that nothing waits for is an orphan. At the write phase the complete set is committed with the larger of each dead time and dwell; otherwise the watchdog acts, and two boundaries later torque is off. A period boundary applies the committed set as a whole unless TRIP_N is asserted, a gate enable is low or a halt is in force; a group without its clock has no boundary. -/
def Obligations.PwmStaging : Prop :=
  (∀ (dt : Nat) (tid : Nat) (isl : Fin 31) (t : Transfer) (h : Fin 3) (s : State), (s.eng.transfers.find? (fun x => x.id == tid) = some t) → s.get (PWM_AXST_EN t.axis) = 1 → t.per % 256 = s.get (PWM_AXST_PERNUM t.axis) → (s.elapse dt).inPeriod t.axis / 8 < s.writePhase t.axis / 8 → t.ch = some h.val → 
      ∃ u, exec (.handshakeTransfer dt tid isl) s = .next u ∧ (u.eng.transfers = s.eng.transfers.filter (fun x => x.id != tid)) ∧ tabGet 0 (u.pax t.axis).stage h = t.value ∧ u.rd (PWM_SCMP (3 * t.axis + h)) = t.value % 2 ^ 32 ∧ bit (u.get (PWM_STG_CMPV t.axis)) h = true ∧ u.get (PWM_STG_SPER t.axis) = t.per % 256 ∧ OnlyChanges [.clk, .eng, .pwm, .sets] [PWM_STG t.axis, PWM_SCMP (3 * t.axis + h)] s u) ∧
  (∀ (dt : Nat) (tid : Nat) (isl : Fin 31) (t : Transfer) (s : State), (s.eng.transfers.find? (fun x => x.id == tid) = some t) → s.get (PWM_AXST_EN t.axis) = 1 → t.per % 256 = s.get (PWM_AXST_PERNUM t.axis) → (s.elapse dt).inPeriod t.axis / 8 < s.writePhase t.axis / 8 → t.ch = none → 
      ∃ u, exec (.handshakeTransfer dt tid isl) s = .next u ∧ (u.eng.transfers = s.eng.transfers.filter (fun x => x.id != tid)) ∧ u.get (PWM_STG_COMMIT t.axis) = 1 ∧ u.get (PWM_STG_SPER t.axis) = t.per % 256 ∧ OnlyChanges [.clk, .eng, .pwm, .sets] [PWM_STG t.axis] s u) ∧
  (∀ (dt : Nat) (tid : Nat) (isl : Fin 31) (t : Transfer) (s : State), (s.eng.transfers.find? (fun x => x.id == tid) = some t) → (s.get (PWM_AXST_EN t.axis) = 0 ∨ t.per % 256 ≠ s.get (PWM_AXST_PERNUM t.axis) ∨ (s.elapse dt).writePhase t.axis / 8 ≤ (s.elapse dt).inPeriod t.axis / 8) → 
      ∃ u, exec (.handshakeTransfer dt tid isl) s = .next u ∧ (u.eng.transfers = s.eng.transfers.filter (fun x => x.id != tid)) ∧ u.get (ENG_WD_DISC t.axis) = min (s.get (ENG_WD_DISC t.axis) + 1) 65535 ∧ u.get (ENG_STAT_DISC (t.axis / 4)) = min (s.get (ENG_STAT_DISC (t.axis / 4)) + 1) 255 ∧ OnlyChanges [.clk, .eng, .sets] [ENG_WD t.axis, ENG_STAT (t.axis / 4)] s u) ∧
  (∀ (dt : Nat) (tid : Nat) (isl : Fin 31) (s : State), (s.eng.transfers.find? (fun x => x.id == tid) = none) → 
      ∃ u, exec (.handshakeTransfer dt tid isl) s = .next u ∧ u.eng.transfers = s.eng.transfers ∧ tabGet 0 u.eng.orphans 0 = tabGet 0 s.eng.orphans 0 + 1 ∧ OnlyChanges [.clk, .eng, .log, .reg .err, .sets] [] s u) ∧
  (∀ (dt : Nat) (a : Fin 32) (s : State), s.get (PWM_AXST_EN a) = 1 → (s.pax a).judged = false → s.get (ENG_CST_RUN a) = 1 → (s.elapse dt).writePhase a ≤ (s.elapse dt).inPeriod a → ((s.stagedAll a = true ∧ s.get (PWM_STG_COMMIT a) = 1 ∧ s.get (PWM_STG_SPER a) = s.get (PWM_AXST_PERNUM a))) → 
      ∃ u, exec (.writePhaseCommit dt a) s = .next u ∧ ((u.pax a).committed.map (fun x => (x.per, x.dt, x.dwell)) = some ((s.pax a).stagePer, max (s.get (PWM_AX_DT a)) (s.get (LSH_DTF_EFF a)), max (s.get (PWM_AXD_DWELL a)) (s.get (LSH_MPW_EFF a)))) ∧ u.get (PWM_STG_COMMIT a) = 0 ∧ u.get (PWM_STG_CMPV a) = 0 ∧ (u.pax a).judged = true ∧ (u.pax a).applied = (s.pax a).applied ∧ u.axState a = s.axState a) ∧
  (∀ (dt : Nat) (a : Fin 32) (s : State), s.get (PWM_AXST_EN a) = 1 → (s.pax a).judged = false → s.get (ENG_CST_RUN a) = 1 → (s.elapse dt).writePhase a ≤ (s.elapse dt).inPeriod a → (¬(s.stagedAll a = true ∧ s.get (PWM_STG_COMMIT a) = 1 ∧ s.get (PWM_STG_SPER a) = s.get (PWM_AXST_PERNUM a))) → 
      ∃ u, exec (.writePhaseCommit dt a) s = .next u ∧ u.get (ENG_CST_WDOG a) = 1 ∧ u.get (ENG_WD_WDCNT a) = min (s.get (ENG_WD_WDCNT a) + 1) 65535 ∧ u.get (ENG_CST_RUN a) = 2 ∧ (u.pax a).committed = (s.pax a).committed ∧ (u.pax a).stage = [] ∧ u.rd (PWM_STG a) = 0 ∧ ((u.axis a).wdogIn = some 2 ∨ 6 ≤ s.axState a) ∧ (1 ≤ s.axState a ∧ s.axState a ≤ 5 → u.axState a = 6 ∧ u.get (PRF_AXST_CAUSE a) = 2 ∧ u.get (PRF_AXST_REACT a) = 0 ∧ u.get (PWM_AXST_EN a) = 1)) ∧
  (∀ (dt : Nat) (a : Fin 32) (s : State), (s.get (PWM_AXST_EN a) = 0 ∨ (s.pax a).judged = true ∨ s.get (ENG_CST_RUN a) ≠ 1 ∨ (s.elapse dt).inPeriod a < (s.elapse dt).writePhase a) → 
      ∃ u, exec (.writePhaseCommit dt a) s = .next u ∧ u = (s.elapse dt)) ∧
  (∀ (dt : Nat) (a : Fin 32) (s : State), (s.axis a).wdogIn = some 0 → 
      ∃ u, exec (.watchdogTorqueOff dt a) s = .next u ∧ u.get (PWM_AXST_EN a) = 0 ∧ (u.axis a).braked = true ∧ (u.axis a).wdogIn = none ∧ (u.axis a).reacted = true ∧ u.get (ENG_CST_RUN a) = 0 ∧ u.axState a = s.axState a) ∧
  (∀ (dt : Nat) (a : Fin 32) (s : State), (s.axis a).wdogIn ≠ some 0 → 
      ∃ u, exec (.watchdogTorqueOff dt a) s = .next u ∧ u = (s.elapse dt)) ∧
  (∀ (dt : Nat) (a : Fin 32) (set : PwmSet) (s : State), s.isLocal a = true → (s.elapse dt).pwmBoundaryDue a = true → a.val / 4 ∉ s.pwm.clkLost → s.get (PWM_AXST_EN a) = 1 → (s.elapse dt).tripAtBoundary a = false → (s.pax a).bandWas = none → s.gateHeld a = false → (s.pax a).committed = some set → 
      ∃ u, exec (.pwmPeriodBoundary dt a) s = .next u ∧ u.rd (PWM_PER a) = set.per % 2 ^ 32 ∧ u.rd (PWM_TIM a) = set.dt % 65536 * 65536 + set.dwell % 65536 ∧ ((u.pax a).applied.map (fun x => (x.per, x.dt, x.dwell)) = some (set.per, set.dt, set.dwell)) ∧ (u.pax a).committed = none ∧ (u.pax a).cut = false ∧ u.get (PWM_AXST_PERNUM a) = (s.get (PWM_AXST_PERNUM a) + 1) % 256 ∧ u.get (PWM_AXST_TRIPIN a) = 0 ∧ (u.pax a).started = (s.elapse dt).clk.elapsed ∧ ((s.pax a).cut = true → u.get (PWM_AXST_RUN a) = min (s.get (PWM_AXST_RUN a) + 1) 255) ∧ ((s.pax a).cut = false → u.get (PWM_AXST_RUN a) = 0) ∧ (s.axCMode a ≠ 2 → ∀ h : Fin 3, h.val < s.axBridges a → u.rd (PWM_CMP (3 * a.val + h)) = tabGet 0 set.cmp h % 2 ^ 32)) ∧
  (∀ (dt : Nat) (a : Fin 32) (s : State), s.isLocal a = true → (s.elapse dt).pwmBoundaryDue a = true → a.val / 4 ∉ s.pwm.clkLost → s.get (PWM_AXST_EN a) = 1 → (s.elapse dt).tripAtBoundary a = true → 
      ∃ u, exec (.pwmPeriodBoundary dt a) s = .next u ∧ u.get (PWM_AXST_TRIPIN a) = 1 ∧ (u.pax a).cut = true ∧ ((s.pax a).bandWas = none → (u.pax a).committed = (s.pax a).committed) ∧ ((s.pax a).bandWas = none → u.rd (PWM_PER a) = s.rd (PWM_PER a)) ∧ (∀ h : Fin 3, h.val < s.axBridges a → (tabGet {} (u.pax a).gates h).want = 0)) ∧
  (∀ (dt : Nat) (a : Fin 32) (s : State), s.isLocal a = true → (s.elapse dt).pwmBoundaryDue a = true → a.val / 4 ∉ s.pwm.clkLost → s.get (PWM_AXST_EN a) = 0 → (s.pax a).arming = true → 
      ∃ u, exec (.pwmPeriodBoundary dt a) s = .next u ∧ u.get (PWM_AXST_EN a) = 1 ∧ u.get (PWM_AXST_PERNUM a) = 0 ∧ (u.pax a).arming = false ∧ (u.pax a).judged = false) ∧
  (∀ (dt : Nat) (a : Fin 32) (s : State), s.isLocal a = true → (s.elapse dt).pwmBoundaryDue a = true → a.val / 4 ∉ s.pwm.clkLost → s.get (PWM_AXST_EN a) = 1 → (s.elapse dt).tripAtBoundary a = false → s.gateHeld a = true → 
      ∃ u, exec (.pwmPeriodBoundary dt a) s = .next u ∧ u.get (PWM_AXST_TRIPIN a) = 0 ∧ (u.pax a).off = true ∧ (u.pax a).cut = false ∧ (∀ h : Fin 3, h.val < s.axBridges a → (tabGet {} (u.pax a).gates h).want = 0)) ∧
  (∀ (dt : Nat) (a : Fin 32) (s : State), (s.isLocal a = false ∨ (s.elapse dt).pwmBoundaryDue a = false ∨ a.val / 4 ∈ s.pwm.clkLost) → 
      ∃ u, exec (.pwmPeriodBoundary dt a) s = .next u ∧ u = (s.elapse dt))

/-- Trips, gate enables, clock loss, debug halts and the brake choppers. TRIP_N low cuts the period and is counted, RUN at TRIPMAX faults the axis with cause 0x04; a gate enable that falls disables the axes of its group; a lost clock faults the axes of its island with cause 0x03; a debug halt faults the axes it halts with cause 0x02 and its end restores nothing; a brake chopper turns ON at ONTH and OFF at OFFTH, is committed at P / 2, and stays off once turned off. -/
def Obligations.PwmTrips : Prop :=
  (∀ (dt : Nat) (a : Fin 32) (s : State), (s.pax a).tripLow = false → s.get (PWM_AXST_EN a) = 1 → 
      ∃ u, exec (.tripAssert dt a) s = .next u ∧ (u.pax a).tripLow = true ∧ (u.pax a).cut = true ∧ (∀ h : Fin 3, h.val < s.axBridges a → (tabGet {} (u.pax a).gates h).want = 0) ∧ u.get (PWM_TCNT_TRIPS a) = (s.get (PWM_TCNT_TRIPS a) + 1) % 65536 ∧ u.rd (PWM_TLAST a) = (s.elapse dt).t32 ∧ OnlyChanges [.clk, .pwm, .sets] [PWM_TCNT a, PWM_TLAST a] s u) ∧
  (∀ (dt : Nat) (a : Fin 32) (s : State), (s.pax a).tripLow = false → s.get (PWM_AXST_EN a) = 0 → 
      ∃ u, exec (.tripAssert dt a) s = .next u ∧ (u.pax a).tripLow = true ∧ (u.pax a).cut = (s.pax a).cut ∧ OnlyChanges [.clk, .pwm, .sets] [] s u) ∧
  (∀ (dt : Nat) (a : Fin 32) (s : State), (s.pax a).tripLow = true → 
      ∃ u, exec (.tripAssert dt a) s = .next u ∧ u = (s.elapse dt)) ∧
  (∀ (dt : Nat) (a : Fin 32) (s : State), (s.pax a).tripLow = true → 
      ∃ u, exec (.tripDeassert dt a) s = .next u ∧ (u.pax a).tripLow = false ∧ (u.pax a).tripRose = some (s.elapse dt).clk.elapsed ∧ (u.pax a).cut = (s.pax a).cut ∧ OnlyChanges [.clk, .pwm, .sets] [] s u) ∧
  (∀ (dt : Nat) (a : Fin 32) (s : State), s.get (PWM_AXST_EN a) = 1 → s.get (PWM_AX_TRIPMAX a) ≤ s.get (PWM_AXST_RUN a) → 0 < s.get (PWM_AXST_RUN a) → 
      ∃ u, exec (.tripEscalation dt a) s = .next u ∧ u.get (PWM_AXST_FLT a) = 1 ∧ u.get (PWM_AXST_EN a) = 0 ∧ (1 ≤ s.axState a ∧ s.axState a ≤ 5 → u.axState a = 6 ∧ u.get (PRF_AXST_CAUSE a) = 4 ∧ u.get (PRF_AXST_REACT a) = 0)) ∧
  (∀ (dt : Nat) (a : Fin 32) (s : State), (s.get (PWM_AXST_EN a) = 0 ∨ s.get (PWM_AXST_RUN a) < s.get (PWM_AX_TRIPMAX a) ∨ s.get (PWM_AXST_RUN a) = 0) → 
      ∃ u, exec (.tripEscalation dt a) s = .next u ∧ u = (s.elapse dt)) ∧
  (∀ (dt : Nat) (g : Fin 8) (x y : Bool) (s : State), (x = false ∨ y = false) → 
      ∃ u, exec (.gateEnableLow dt g x y) s = .next u ∧ u.get (PWM_GST_GEN g) = 0 ∧ u.get (SAF_GRP_GENAR g) = b2n x ∧ u.get (SAF_GRP_GENBR g) = b2n y ∧ (∀ i : Fin 4, u.get (PWM_AXST_GENOK (4 * g.val + i)) = 0 ∧ (s.enabled (4 * g.val + i) = true → u.axState (4 * g.val + i) = 0 ∧ u.get (PRF_AXST_LASTOFF (4 * g.val + i)) = 3 ∧ u.get (PWM_AXST_EN (4 * g.val + i)) = 0))) ∧
  (∀ (dt : Nat) (g : Fin 8) (x y : Bool) (s : State), x = true → y = true → 
      ∃ u, exec (.gateEnableLow dt g x y) s = .next u ∧ u.get (PWM_GST_GEN g) = 1 ∧ u.get (SAF_GRP_GENAR g) = 1 ∧ u.get (SAF_GRP_GENBR g) = 1 ∧ (∀ i : Fin 4, u.get (PWM_AXST_GENOK (4 * g.val + i)) = 1) ∧ (∀ n : Fin 256, u.axState n = s.axState n) ∧ OnlyChanges [.clk, .pwm, .reg .pwm, .sets] [SAF_GRP g] s u) ∧
  (∀ (dt : Nat) (i : Fin 9) (s : State), i.val ∉ s.pwm.clkLost → 
      ∃ u, exec (.pwmClockLoss dt i true) s = .next u ∧ u.get (PWM_GST_CLKLOSS i) = 1 ∧ u.get (PWM_GST_LOSSCNT i) = min (s.get (PWM_GST_LOSSCNT i) + 1) 255 ∧ i.val ∈ u.pwm.clkLost ∧ (i.val < 8 → ∀ k : Fin 4, 1 ≤ s.axState (4 * i.val + k) → s.axState (4 * i.val + k) ≤ 5 → u.axState (4 * i.val + k) = 6 ∧ u.get (PRF_AXST_CAUSE (4 * i.val + k)) = 3 ∧ u.get (PWM_AXST_EN (4 * i.val + k)) = 0) ∧ (i.val = 8 → ∀ k : Fin 8, u.get (PWM_AUXST_RUN k) = 0)) ∧
  (∀ (dt : Nat) (i : Fin 9) (s : State), i.val ∈ s.pwm.clkLost → 
      ∃ u, exec (.pwmClockLoss dt i true) s = .next u ∧ u = (s.elapse dt)) ∧
  (∀ (dt : Nat) (i : Fin 9) (s : State), 
      ∃ u, exec (.pwmClockLoss dt i false) s = .next u ∧ i.val ∉ u.pwm.clkLost ∧ OnlyChanges [.clk, .pwm, .sets] [] s u) ∧
  (∀ (dt : Nat) (t : Fin 12) (s : State), s.debugOn = false → 
      ∃ u, exec (.debugHalt dt t) s = .next u ∧ u = (s.elapse dt)) ∧
  (∀ (dt : Nat) (t : Fin 12) (s : State), s.debugOn = true → 4 ≤ t.val → t.val - 4 ∉ s.eng.halted → 
      ∃ u, exec (.debugHalt dt t) s = .next u ∧ u.get (PWM_GST_HALT (t.val - 4)) = 1 ∧ bit (u.get SVC_DBG_ENG) (t.val - 4) = true ∧ t.val - 4 ∈ u.eng.halted ∧ (∀ k : Fin 4, 1 ≤ s.axState (4 * (t.val - 4) + k) → s.axState (4 * (t.val - 4) + k) ≤ 5 → u.axState (4 * (t.val - 4) + k) = 6 ∧ u.get (PRF_AXST_CAUSE (4 * (t.val - 4) + k)) = 2 ∧ u.get (PWM_AXST_EN (4 * (t.val - 4) + k)) = 0)) ∧
  (∀ (dt : Nat) (t : Fin 12) (s : State), s.debugOn = true → t.val < 4 → t.val ∉ s.pwm.coreHalt → 
      ∃ u, exec (.debugHalt dt t) s = .next u ∧ (∀ i : Fin 9, u.get (PWM_GST_HALT i) = 1) ∧ bit (u.get SVC_DBG_CORE) t = true ∧ (∀ a : Fin 32, 1 ≤ s.axState a → s.axState a ≤ 5 → u.axState a = 6 ∧ u.get (PRF_AXST_CAUSE a) = 2 ∧ u.get (PWM_AXST_EN a) = 0) ∧ (∀ k : Fin 8, u.get (PWM_AUXST_RUN k) = 0)) ∧
  (∀ (dt : Nat) (t : Fin 12) (s : State), s.debugOn = false → 
      ∃ u, exec (.debugResume dt t) s = .next u ∧ u = (s.elapse dt)) ∧
  (∀ (dt : Nat) (t : Fin 12) (s : State), s.debugOn = true → 4 ≤ t.val → t.val - 4 ∈ s.eng.halted → 
      ∃ u, exec (.debugResume dt t) s = .next u ∧ t.val - 4 ∉ u.eng.halted ∧ bit (u.get SVC_DBG_ENG) (t.val - 4) = false ∧ (s.pwm.coreHalt = [] → u.get (PWM_GST_HALT (t.val - 4)) = 0) ∧ (∀ n : Fin 256, u.axState n = s.axState n) ∧ (∀ a : Fin 32, u.get (PWM_AXST_EN a) = s.get (PWM_AXST_EN a))) ∧
  (∀ (dt : Nat) (t : Fin 12) (s : State), s.debugOn = true → t.val < 4 → t.val ∈ s.pwm.coreHalt → 
      ∃ u, exec (.debugResume dt t) s = .next u ∧ t.val ∉ u.pwm.coreHalt ∧ bit (u.get SVC_DBG_CORE) t = false ∧ (∀ n : Fin 256, u.axState n = s.axState n) ∧ (∀ a : Fin 32, u.get (PWM_AXST_EN a) = s.get (PWM_AXST_EN a))) ∧
  (∀ (dt : Nat) (k : Fin 8) (l : List Bool) (s : State), s.get (PWM_AUXST_RUN k) = 1 → s.get (PWM_AUXCFG_EN k) = 1 → (s.pax (32 + k.val)).off = false → (s.elapse dt).atBoundary (s.rd (PWM_AUXPER k) / 4) = true → s.rd (PWM_AUXPER k) ≤ 2 * (s.elapse dt).inPeriod (32 + k.val) → k.val ∉ s.pwm.auxStuck → k.val ∉ s.pwm.auxOff → s.getS (PWM_AUXTH_ONTH k) ≤ auxValue l → 
      ∃ u, exec (.auxBoundary dt k l) s = .next u ∧ u.get (PWM_AUXST_ON k) = 1 ∧ u.getS (PWM_AUXST_VAL k) = auxValue l ∧ u.get (PWM_AUXCNT_ONPER k) = (s.get (PWM_AUXCNT_ONPER k) + 1) % 65536 ∧ (s.get (PWM_AUXST_ON k) = 0 → u.get (PWM_AUXCNT_ONCNT k) = (s.get (PWM_AUXCNT_ONCNT k) + 1) % 65536) ∧ (u.pax (32 + k.val)).stagePer = s.rd (PWM_AUXPER k) ∧ ((u.pax (32 + k.val)).stage = [(0, if s.get (PWM_AUXCFG_DUTY k) = 0x100 then 0xFFFFFFFF else s.get (PWM_AUXCFG_DUTY k) * s.rd (PWM_AUXPER k) / 256)])) ∧
  (∀ (dt : Nat) (k : Fin 8) (l : List Bool) (s : State), s.get (PWM_AUXST_RUN k) = 1 → s.get (PWM_AUXCFG_EN k) = 1 → (s.pax (32 + k.val)).off = false → (s.elapse dt).atBoundary (s.rd (PWM_AUXPER k) / 4) = true → s.rd (PWM_AUXPER k) ≤ 2 * (s.elapse dt).inPeriod (32 + k.val) → k.val ∉ s.pwm.auxStuck → k.val ∉ s.pwm.auxOff → auxValue l < s.getS (PWM_AUXTH_ONTH k) → auxValue l ≤ s.getS (PWM_AUXTH_OFFTH k) → 
      ∃ u, exec (.auxBoundary dt k l) s = .next u ∧ u.get (PWM_AUXST_ON k) = 0 ∧ (u.pax (32 + k.val)).stage = [(0, 0)]) ∧
  (∀ (dt : Nat) (k : Fin 8) (l : List Bool) (s : State), s.get (PWM_AUXST_RUN k) = 1 → s.get (PWM_AUXCFG_EN k) = 1 → (s.pax (32 + k.val)).off = false → (s.elapse dt).atBoundary (s.rd (PWM_AUXPER k) / 4) = true → s.rd (PWM_AUXPER k) ≤ 2 * (s.elapse dt).inPeriod (32 + k.val) → k.val ∉ s.pwm.auxStuck → k.val ∉ s.pwm.auxOff → auxValue l < s.getS (PWM_AUXTH_ONTH k) → s.getS (PWM_AUXTH_OFFTH k) < auxValue l → 
      ∃ u, exec (.auxBoundary dt k l) s = .next u ∧ u.get (PWM_AUXST_ON k) = s.get (PWM_AUXST_ON k)) ∧
  (∀ (dt : Nat) (k : Fin 8) (l : List Bool) (s : State), s.get (PWM_AUXCFG_EN k) = 1 → (s.pax (32 + k.val)).off = false → (s.elapse dt).atBoundary (s.rd (PWM_AUXPER k) / 4) = true → s.rd (PWM_AUXPER k) ≤ 2 * (s.elapse dt).inPeriod (32 + k.val) → (k.val ∈ s.pwm.auxStuck ∨ k.val ∈ s.pwm.auxOff) → 
      ∃ u, exec (.auxBoundary dt k l) s = .next u ∧ u.get (PWM_AUXST_ON k) = 0 ∧ u.get (PWM_AUXST_RUN k) = 0 ∧ (u.pax (32 + k.val)).stage = [(0, 0)]) ∧
  (∀ (dt : Nat) (k : Fin 8) (l : List Bool) (s : State), ((s.get (PWM_AUXST_RUN k) = 0 ∧ k.val ∉ s.pwm.auxStuck ∧ k.val ∉ s.pwm.auxOff) ∨ s.get (PWM_AUXCFG_EN k) = 0 ∨ (s.pax (32 + k.val)).off = true ∨ (s.elapse dt).atBoundary (s.rd (PWM_AUXPER k) / 4) = false) → 
      ∃ u, exec (.auxBoundary dt k l) s = .next u ∧ u = (s.elapse dt)) ∧
  (∀ (dt : Nat) (k : Fin 8) (s : State), (s.get (PWM_AUXST_RUN k) = 1 ∨ k.val ∈ s.pwm.auxStuck ∨ k.val ∈ s.pwm.auxOff) → s.get (PWM_AUXCFG_EN k) = 1 → (s.pax (32 + k.val)).off = false → (s.pax (32 + k.val)).judged = false → s.rd (PWM_AUXPER k) ≤ 2 * (s.elapse dt).inPeriod (32 + k.val) → 
      ∃ u, exec (.auxCommit dt k) s = .next u ∧ (u.pax (32 + k.val)).judged = true ∧ ((u.pax (32 + k.val)).committed.map (fun x => (x.per, x.dt, x.dwell)) = some ((s.pax (32 + k.val)).stagePer, max (s.get (PWM_AUXDT_DT k)) (s.get (LSH_AUXDTF_EFF k)), max (s.get (PWM_AUXDT_DWELL k)) (s.get (LSH_AUXMPW_EFF k)))) ∧ (u.pax (32 + k.val)).applied = (s.pax (32 + k.val)).applied ∧ OnlyChanges [.clk, .pwm, .sets] [] s u) ∧
  (∀ (dt : Nat) (k : Fin 8) (s : State), ((s.get (PWM_AUXST_RUN k) = 0 ∧ k.val ∉ s.pwm.auxStuck ∧ k.val ∉ s.pwm.auxOff) ∨ s.get (PWM_AUXCFG_EN k) = 0 ∨ (s.pax (32 + k.val)).off = true ∨ (s.pax (32 + k.val)).judged = true ∨ 2 * (s.elapse dt).inPeriod (32 + k.val) < s.rd (PWM_AUXPER k)) → 
      ∃ u, exec (.auxCommit dt k) s = .next u ∧ u = (s.elapse dt)) ∧
  (∀ (dt : Nat) (mask : BitVec 8) (s : State), 
      ∃ u, exec (.auxoff dt mask) s = .next u ∧ (∀ k : Fin 8, bit mask.toNat k = true → u.get (PWM_AUXST_OFF k) = 1 ∧ k.val ∈ u.pwm.auxOff) ∧ (∀ k : Fin 8, bit mask.toNat k = false → u.rd (PWM_AUXST k) = s.rd (PWM_AUXST k) ∧ (k.val ∈ u.pwm.auxOff ↔ k.val ∈ s.pwm.auxOff)) ∧ OnlyChanges [.clk, .pwm, .reg .pwm, .sets] [] s u)

/-- What a submit and a cancel do to a token. SUBMIT of a FREE token with a valid descriptor makes it READY (TICK 0, EVT 0, or its wake due) or DELAYED, with RESULT 0x1; a submit that R317 refuses gives its RESULT and leaves the state of every token. CANCEL frees a DELAYED, READY or SLOTTED token (RESULT 0x2) and makes a RUNNING one CANCEL_PENDING (0x3). -/
def Obligations.KennelRequests : Prop :=
  (∀ (dt : Nat) (c : Fin 4) (t : Fin 512) (s : State), s.get (KNL_TST_STATE t) = 0 → s.descValid t = true → bit (s.get (KNL_D1_FLAGS t)) 2 = false → bit (s.get (KNL_D1_FLAGS t)) 3 = false → 
      ∃ u, exec (.submit dt c t) s = .next u ∧ u.get (KNL_TST_STATE t) = 2 ∧ u.get (KNL_TST_WHY t) = 1 ∧ u.get (KNL_RES_RESULT c) = 1) ∧
  (∀ (dt : Nat) (c : Fin 4) (t : Fin 512) (s : State), s.get (KNL_TST_STATE t) = 0 → s.descValid t = true → bit (s.get (KNL_D1_FLAGS t)) 2 = false → bit (s.get (KNL_D1_FLAGS t)) 3 = true → due32 (s.rd (KNL_DWAKE t)) (s.rd KNL_TICK) = false → 
      ∃ u, exec (.submit dt c t) s = .next u ∧ u.get (KNL_TST_STATE t) = 1 ∧ (t.val, s.rd (KNL_DWAKE t)) ∈ u.knl.delay ∧ u.get (KNL_RES_RESULT c) = 1) ∧
  (∀ (dt : Nat) (c : Fin 4) (t : Fin 512) (s : State), s.get (KNL_TST_STATE t) ≠ 0 → 
      ∃ u, exec (.submit dt c t) s = .next u ∧ u.get (KNL_RES_RESULT c) = 8 ∧ (∀ n : Fin 512, u.get (KNL_TST_STATE n) = s.get (KNL_TST_STATE n))) ∧
  (∀ (dt : Nat) (c : Fin 4) (t : Fin 512) (s : State), (s.get (KNL_TST_STATE t) = 1 ∨ s.get (KNL_TST_STATE t) = 2 ∨ s.get (KNL_TST_STATE t) = 3) → 
      ∃ u, exec (.cancel dt c t) s = .next u ∧ u.get (KNL_TST_STATE t) = 0 ∧ u.get (KNL_TST_PEND t) = 0 ∧ u.get (KNL_RES_RESULT c) = 2 ∧ u.get (KNL_RES_OP c) = 1) ∧
  (∀ (dt : Nat) (c : Fin 4) (t : Fin 512) (s : State), s.get (KNL_TST_STATE t) = 4 → 
      ∃ u, exec (.cancel dt c t) s = .next u ∧ u.get (KNL_TST_STATE t) = 5 ∧ u.get (KNL_RES_RESULT c) = 3)

/-- Taking, completing and the hardware executors. TAKE by a core whose slot holds a token makes that token RUNNING in the core, records the executor, and returns VALID, WHY, TOKEN and ENTRY; KNL_DONE of a RUNNING token that is neither periodic nor REARM, or of a CANCEL_PENDING one, makes it FREE; a completion that names no token of the core counts an orphan; the PUSH and COPY executors take their slotted token and complete it; RUNMAX sets OVR. A core that runs a token already or is halted takes nothing (log 12), and a halted one completes nothing. -/
def Obligations.KennelRuns : Prop :=
  (∀ (dt : Nat) (c : Fin 4) (s : State), s.get (KNL_CORE_SLOTV c) = 1 → s.get (KNL_CORE_RUNV c) = 0 → c.val ∉ s.pwm.coreHalt → 
      ∃ u, exec (.take dt c) s = .next u ∧ u.get (KNL_TST_STATE (s.get (KNL_CORE_SLOT c))) = 4 ∧ u.get (KNL_TST_EXEC (s.get (KNL_CORE_SLOT c))) = c ∧ u.get (KNL_CORE_RUNV c) = 1 ∧ u.get (KNL_CORE_RUN c) = s.get (KNL_CORE_SLOT c) ∧ u.get (KNL_CORE_SLOTV c) = 0 ∧ u.bus.lastRead = 2 ^ 31 + s.get (KNL_TST_WHY (s.get (KNL_CORE_SLOT c))) * 2 ^ 28 + s.get (KNL_CORE_SLOT c) * 2 ^ 16 + s.get (KNL_D0_ENTRY (s.get (KNL_CORE_SLOT c)))) ∧
  (∀ (dt : Nat) (c : Fin 4) (t : Fin 512) (s : State), (s.get (KNL_TST_STATE t) = 5 ∨ s.get (KNL_TST_STATE t) = 4 ∧ bit (s.get (KNL_D1_FLAGS t)) 0 = false ∧ bit (s.get (KNL_D1_FLAGS t)) 1 = false) → s.get (KNL_TST_EXEC t) = c → c.val ∉ s.pwm.coreHalt → 
      ∃ u, exec (.knlDone dt c t) s = .next u ∧ u.get (KNL_TST_STATE t) = 0 ∧ u.get (KNL_CORE_RUNV c) = 0) ∧
  (∀ (dt : Nat) (c : Fin 4) (t : Fin 512) (s : State), s.get (KNL_TST_STATE t) = 4 → bit (s.get (KNL_D1_FLAGS t)) 0 = false → bit (s.get (KNL_D1_FLAGS t)) 1 = true → s.get (KNL_TST_PEND t) = 1 → s.get (KNL_TST_EXEC t) = c → c.val ∉ s.pwm.coreHalt → 
      ∃ u, exec (.knlDone dt c t) s = .next u ∧ u.get (KNL_TST_STATE t) = 2 ∧ u.get (KNL_TST_WHY t) = 5 ∧ u.get (KNL_TST_PEND t) = 0) ∧
  (∀ (dt : Nat) (c : Fin 4) (s : State), (s.get (KNL_CORE_SLOTV c) = 0 ∨ s.get (KNL_CORE_RUNV c) = 1 ∨ c.val ∈ s.pwm.coreHalt) → 
      ∃ u, exec (.take dt c) s = .next u ∧ u.bus.lastRead = 0 ∧ OnlyChanges [.clk, .bus, .sets] [] s u) ∧
  (∀ (dt : Nat) (c : Fin 4) (t : Fin 512) (s : State), c.val ∈ s.pwm.coreHalt → 
      ∃ u, exec (.knlDone dt c t) s = .next u ∧ u = (s.elapse dt)) ∧
  (∀ (dt : Nat) (c : Fin 4) (t : Fin 512) (s : State), s.get (KNL_TST_STATE t) ≠ 4 → s.get (KNL_TST_STATE t) ≠ 5 → c.val ∉ s.pwm.coreHalt → 
      ∃ u, exec (.knlDone dt c t) s = .next u ∧ u.get (KNL_STAT_ORPHAN) = min (s.get KNL_STAT_ORPHAN + 1) 255 ∧ (∀ n : Fin 512, u.get (KNL_TST_STATE n) = s.get (KNL_TST_STATE n))) ∧
  (∀ (dt : Nat) (s : State), s.get (KNL_XCORE_SLOTV 0) = 1 → s.get (KNL_XCORE_RUNV 0) = 0 → s.get (KNL_D1_FLAGS (s.get (KNL_XCORE_SLOT 0))) = 0 → s.pushCheck 1 (s.rd (KNL_DARG1 (s.get (KNL_XCORE_SLOT 0))) % 64) = 1 → s.qCap (s.rd (KNL_DARG1 (s.get (KNL_XCORE_SLOT 0))) % 64) ≤ 32 → s.get (QUE_ST_DEPTH (s.rd (KNL_DARG1 (s.get (KNL_XCORE_SLOT 0))) % 64)) + 1 ≤ s.qCap (s.rd (KNL_DARG1 (s.get (KNL_XCORE_SLOT 0))) % 64) → 
      ∃ u, exec (.push dt) s = .next u ∧ u.get (KNL_TST_STATE (s.get (KNL_XCORE_SLOT 0))) = 0 ∧ u.get (KNL_XCORE_RUNV 0) = 0 ∧ u.get (KNL_XCORE_SLOTV 0) = 0 ∧ u.rd (QUE_PUSHC (s.rd (KNL_DARG1 (s.get (KNL_XCORE_SLOT 0))) % 64)) = (s.rd (QUE_PUSHC (s.rd (KNL_DARG1 (s.get (KNL_XCORE_SLOT 0))) % 64)) + 1) % 2 ^ 32) ∧
  (∀ (dt : Nat) (s : State), s.get (KNL_XCORE_SLOTV 0) = 1 → s.get (KNL_XCORE_RUNV 0) = 0 → s.get (KNL_D1_FLAGS (s.get (KNL_XCORE_SLOT 0))) = 0 → s.qCap (s.rd (KNL_DARG1 (s.get (KNL_XCORE_SLOT 0))) % 64) = 0 → 
      ∃ u, exec (.push dt) s = .next u ∧ u.get (KNL_TST_STATE (s.get (KNL_XCORE_SLOT 0))) = 0 ∧ u.get (KNL_TST_FAIL (s.get (KNL_XCORE_SLOT 0))) = 1) ∧
  (∀ (dt : Nat) (s : State), s.get (KNL_XCORE_SLOTV 1) = 1 → s.get (KNL_XCORE_RUNV 1) = 0 → s.get (KNL_D1_FLAGS (s.get (KNL_XCORE_SLOT 1))) = 0 → s.rd (KNL_DARG2 (s.get (KNL_XCORE_SLOT 1))) = 4 → 0x80000000 ≤ s.rd (KNL_DARG0L (s.get (KNL_XCORE_SLOT 1))) → s.rd (KNL_DARG0L (s.get (KNL_XCORE_SLOT 1))) + 4 ≤ 2 ^ 32 → 0x80000000 ≤ s.rd (KNL_DARG1 (s.get (KNL_XCORE_SLOT 1))) → s.rd (KNL_DARG1 (s.get (KNL_XCORE_SLOT 1))) + 4 ≤ 2 ^ 32 → s.committedAt (s.rd (KNL_DARG1 (s.get (KNL_XCORE_SLOT 1)))) 4 = false → 
      ∃ u, exec (.copy dt) s = .next u ∧ u.get (KNL_TST_STATE (s.get (KNL_XCORE_SLOT 1))) = 0 ∧ u.get (KNL_XCORE_RUNV 1) = 0 ∧ u.get (KNL_XCORE_SLOTV 1) = 0 ∧ u.bulkLe (s.rd (KNL_DARG1 (s.get (KNL_XCORE_SLOT 1)))) 4 = s.bulkLe (s.rd (KNL_DARG0L (s.get (KNL_XCORE_SLOT 1)))) 4 ∧ (∀ x, x < s.rd (KNL_DARG1 (s.get (KNL_XCORE_SLOT 1))) ∨ s.rd (KNL_DARG1 (s.get (KNL_XCORE_SLOT 1))) + 4 ≤ x → memByte u.bulk x = memByte s.bulk x)) ∧
  (∀ (dt : Nat) (t : Fin 512) (s : State), (s.get (KNL_TST_STATE t) = 4 ∨ s.get (KNL_TST_STATE t) = 5) → s.get (KNL_D1_RUNMAX t) ≠ 0 → t.val ∉ s.knl.warned → s.get (KNL_D1_RUNMAX t) ≤ (s.rd KNL_TICK + 2 ^ 32 - tabGet 0 s.knl.takenAt t) % 2 ^ 32 → 
      ∃ u, exec (.runmaxReached dt t) s = .next u ∧ u.get (KNL_TST_OVR t) = 1 ∧ u.get KNL_STAT_RUNOVR = min (s.get KNL_STAT_RUNOVR + 1) 255 ∧ u.get (KNL_TST_STATE t) = s.get (KNL_TST_STATE t))

/-- Ticks, events and slots. A tick at a multiple of 1 000 ns adds 1 to KNL_TICK; an event makes its bound DELAYED token READY with WHY 0x3, counts EVCNT and sets PEND when the token is not waiting, and counts EVUNB when no token is bound; a READY token goes into the empty slot found for it; a slotted token moves to an idle executor without changing its state. -/
def Obligations.KennelWakes : Prop :=
  (∀ (dt : Nat) (s : State), (s.elapse dt).atBoundary 1000 = true → s.get CFG_STATE_STATE ≠ 0 → s.knl.ticking = true → 
      ∃ u, exec (.knlTick dt) s = .next u ∧ u.rd KNL_TICK = (s.rd KNL_TICK + 1) % 2 ^ 32) ∧
  (∀ (dt : Nat) (s : State), (s.elapse dt).atBoundary 1000 = true → s.get CFG_STATE_STATE ≠ 0 → s.knl.ticking = false → 
      ∃ u, exec (.knlTick dt) s = .next u ∧ u.rd KNL_TICK = 0 ∧ u.knl.ticking = true) ∧
  (∀ (dt : Nat) (e : Fin 256) (s : State), s.get (KNL_EVB_BOUND e) = 1 → s.get (KNL_TST_STATE (s.get (KNL_EVB_TOKEN e))) = 1 → 
      ∃ u, exec (.kennelEvent dt e) s = .next u ∧ u.get (KNL_TST_STATE (s.get (KNL_EVB_TOKEN e))) = 2 ∧ u.get (KNL_TST_WHY (s.get (KNL_EVB_TOKEN e))) = 3 ∧ u.rd (KNL_TSTAMP (s.get (KNL_EVB_TOKEN e))) = (s.elapse dt).t32) ∧
  (∀ (dt : Nat) (e : Fin 256) (s : State), s.get (KNL_EVB_BOUND e) = 1 → s.get (KNL_TST_STATE (s.get (KNL_EVB_TOKEN e))) ≠ 1 → 
      ∃ u, exec (.kennelEvent dt e) s = .next u ∧ u.get (KNL_TST_PEND (s.get (KNL_EVB_TOKEN e))) = 1 ∧ u.get (KNL_TST_EVCNT (s.get (KNL_EVB_TOKEN e))) = min (s.get (KNL_TST_EVCNT (s.get (KNL_EVB_TOKEN e))) + 1) 255 ∧ u.get (KNL_TST_STATE (s.get (KNL_EVB_TOKEN e))) = s.get (KNL_TST_STATE (s.get (KNL_EVB_TOKEN e)))) ∧
  (∀ (dt : Nat) (e : Fin 256) (s : State), s.get (KNL_EVB_BOUND e) = 0 → 
      ∃ u, exec (.kennelEvent dt e) s = .next u ∧ u.get KNL_STAT_EVUNB = min (s.get KNL_STAT_EVUNB + 1) 255 ∧ u.rd (KNL_EVB e) % 2 ^ 16 = (s.rd (KNL_EVB e) + 1) % 2 ^ 16) ∧
  (∀ (dt : Nat) (t : Fin 512) (x : Fin 6) (s : State), s.readyOrder = [t.val] → tabGet [] s.knl.ready (s.prio t) = [t.val] → s.prio t < 64 → s.emptySlotFor t = some x.val → 
      ∃ u, exec (.slotFill dt) s = .next u ∧ u.get (KNL_TST_STATE t) = 3 ∧ u.get (slotV x) = 1 ∧ u.get (slotT x) = t ∧ u.readyOrder = []) ∧
  (∀ (dt : Nat) (t : Fin 512) (s : State), (∀ x : Fin 6, s.flag (slotV x) = (x == 1)) → (∀ x : Fin 6, s.flag (runV x) = (x == 1)) → s.get (slotT 1) = t → t.val ∈ s.knl.slotOrder → s.permitted t 0 = true → 
      ∃ u, exec (.slotMove dt) s = .next u ∧ u.get (slotV 0) = 1 ∧ u.get (slotT 0) = t ∧ u.get (slotV 1) = 0 ∧ u.get (KNL_TST_STATE t) = s.get (KNL_TST_STATE t) ∧ u.knl = s.knl)

/-- What a push of a service core does. A trying push that the queue can take is accepted whole: RESULT 0x1, PUSHC and DEPTH rise by its entries; one without room is refused with 0x8 and counted; a waiting push without room is pending with BUSY 1 and RESULT 0x2; the waiting push that comes next is accepted with RESULT 0x1; CANCEL withdraws it with 0x3. -/
def Obligations.QueuePushes : Prop :=
  (∀ (dt : Nat) (c : Fin 4) (q : Fin 64) (n : Fin 16) (s : State), s.get (QUE_PRES_BUSY c) = 0 → (s.elapse dt).pushCheck 1 q = 1 → (s.elapse dt).canPush q (pushCount n) = true → 
      ∃ u, exec (.tryingPush dt c q n) s = .next u ∧ u.get (QUE_PRES_RESULT c) = 1 ∧ u.rd (QUE_PUSHC q) = (s.rd (QUE_PUSHC q) + pushCount n) % 2 ^ 32 ∧ u.get (QUE_ST_DEPTH q) = s.get (QUE_ST_DEPTH q) + pushCount n) ∧
  (∀ (dt : Nat) (c : Fin 4) (q : Fin 64) (n : Fin 16) (s : State), s.get (QUE_PRES_BUSY c) = 0 → (s.elapse dt).pushCheck 1 q = 1 → (s.elapse dt).canPush q (pushCount n) = false → 
      ∃ u, exec (.tryingPush dt c q n) s = .next u ∧ u.get (QUE_PRES_RESULT c) = 8 ∧ u.get (QUE_ERR_REFUSED q) = min (s.get (QUE_ERR_REFUSED q) + 1) 65535 ∧ u.rd (QUE_PUSHC q) = s.rd (QUE_PUSHC q) ∧ u.get (QUE_ST_DEPTH q) = s.get (QUE_ST_DEPTH q)) ∧
  (∀ (dt : Nat) (c : Fin 4) (q : Fin 64) (n : Fin 16) (s : State), s.get (QUE_PRES_BUSY c) = 0 → (s.elapse dt).pushCheck 1 q = 1 → (s.elapse dt).canPush q (pushCount n) = true → (s.elapse dt).nextWait q = none → 
      ∃ u, exec (.waitingPush dt c q n) s = .next u ∧ u.get (QUE_PRES_RESULT c) = 1 ∧ u.rd (QUE_PUSHC q) = (s.rd (QUE_PUSHC q) + pushCount n) % 2 ^ 32) ∧
  (∀ (dt : Nat) (c : Fin 4) (q : Fin 64) (n : Fin 16) (s : State), s.get (QUE_PRES_BUSY c) = 0 → (s.elapse dt).pushCheck 1 q = 1 → ((s.elapse dt).canPush q (pushCount n) = false ∨ (s.elapse dt).nextWait q ≠ none) → 
      ∃ u, exec (.waitingPush dt c q n) s = .next u ∧ u.get (QUE_PRES_RESULT c) = 2 ∧ u.get (QUE_PRES_BUSY c) = 1 ∧ u.rd (QUE_PUSHC q) = s.rd (QUE_PUSHC q) ∧ (tabFind u.que.waits c).isSome = true) ∧
  (∀ (dt : Nat) (q : Fin 64) (c : Fin 4) (w : WaitPush) (s : State), (s.elapse dt).nextWait q = some (c.val, w) → 
      ∃ u, exec (.waitingPushAccept dt q) s = .next u ∧ u.get (QUE_PRES_RESULT c) = 1 ∧ u.get (QUE_PRES_BUSY c) = 0 ∧ u.rd (QUE_PUSHC q) = (s.rd (QUE_PUSHC q) + w.entries.length) % 2 ^ 32 ∧ tabFind u.que.waits c = none) ∧
  (∀ (dt : Nat) (c : Fin 4) (w : WaitPush) (s : State), tabFind s.que.waits c = some w → 
      ∃ u, exec (.pushCancel dt c) s = .next u ∧ u.get (QUE_PRES_RESULT c) = 3 ∧ u.get (QUE_PRES_BUSY c) = 0 ∧ tabFind u.que.waits c = none ∧ (∀ q : Fin 64, u.rd (QUE_PUSHC q) = s.rd (QUE_PUSHC q)))

/-- What a pop and a flush do. A pop by a service core of a queue of consumer class 0x1 that holds an entry at its head returns the oldest entry, low word at once and high word in the shadow, adds 1 to POPC and takes 1 from DEPTH; a pop at depth 0 returns 0 and counts EMPTY; a pop that finds others held waits with them, and a held one completes in its turn in the same way when its entry has arrived; a flush empties the queue and counts its entries in POPC. -/
def Obligations.QueuePops : Prop :=
  (∀ (dt : Nat) (c : Fin 4) (q : Fin 64) (e : BitVec 64) (l : List (BitVec 64)) (s : State), s.get (QUE_CFG_CONS q) = 1 → s.get (QUE_CFG_BROKEN q) = 0 → s.get (QUE_ST_DEPTH q) ≠ 0 → (s.qData q).head = e :: l → (s.elapse dt).nextHeld q = none → 
      ∃ u, exec (.pop dt (.core c) q) s = .next u ∧ u.bus.lastRead = e.toNat % 2 ^ 32 ∧ u.shadowOf c (QUE_POP q + 4) = some (BitVec.ofNat 32 (e.toNat / 2 ^ 32)) ∧ u.rd (QUE_POPC q) = (s.rd (QUE_POPC q) + 1) % 2 ^ 32 ∧ u.get (QUE_ST_DEPTH q) = s.get (QUE_ST_DEPTH q) - 1) ∧
  (∀ (dt : Nat) (c : Fin 4) (q : Fin 64) (s : State), s.get (QUE_CFG_CONS q) = 1 → s.get (QUE_ST_DEPTH q) = 0 → 
      ∃ u, exec (.pop dt (.core c) q) s = .next u ∧ u.bus.lastRead = 0 ∧ u.get (QUE_ERR_EMPTY q) = min (s.get (QUE_ERR_EMPTY q) + 1) 65535 ∧ u.rd (QUE_POPC q) = s.rd (QUE_POPC q)) ∧
  (∀ (dt : Nat) (q : Fin 64) (r : Nat) (e : BitVec 64) (l : List (BitVec 64)) (s : State), (s.elapse dt).nextHeld q = some r → s.get (QUE_CFG_BROKEN q) = 0 → s.get (QUE_ST_DEPTH q) ≠ 0 → (s.qData q).head = e :: l → 
      ∃ u, exec (.heldPopComplete dt q) s = .next u ∧ u.bus.lastRead = e.toNat % 2 ^ 32 ∧ u.rd (QUE_POPC q) = (s.rd (QUE_POPC q) + 1) % 2 ^ 32 ∧ u.get (QUE_ST_DEPTH q) = s.get (QUE_ST_DEPTH q) - 1 ∧ u.que.heldPops = s.que.heldPops.erase (r, q.val)) ∧
  (∀ (dt : Nat) (c : Fin 4) (q : Fin 64) (s : State), s.get (QUE_CFG_CONS q) = 1 → s.get (QUE_CFG_BROKEN q) = 0 → s.get (QUE_ST_DEPTH q) ≠ 0 → (s.elapse dt).nextHeld q ≠ none → (s.qData q).head ≠ [] → 
      ∃ u, exec (.pop dt (.core c) q) s = .next u ∧ u.que.heldPops = s.que.heldPops ++ [(c.val, q.val)] ∧ u.rd (QUE_POPC q) = s.rd (QUE_POPC q) ∧ OnlyChanges [.clk, .que, .sets] [] s u) ∧
  (∀ (dt : Nat) (c : Fin 4) (q : Fin 64) (s : State), s.get (QUE_CFG_CONS q) = 1 → 
      ∃ u, exec (.flush dt c q) s = .next u ∧ u.get (QUE_ST_DEPTH q) = 0 ∧ u.rd (QUE_POPC q) = (s.rd (QUE_POPC q) + s.get (QUE_ST_DEPTH q)) % 2 ^ 32 ∧ (u.qData q).head = [] ∧ (u.qData q).tail = [] ∧ (u.qData q).ringCount = 0)

/-- What the spill bursts do. Eight tail entries that cannot go directly to the head are written to the spill ring in one burst; the completion of a write burst frees its tag; the data of a read burst leave the spill ring for the head; an uncorrected ECC error in a read burst breaks the queue. -/
def Obligations.QueueSpills : Prop :=
  (∀ (dt : Nat) (q : Fin 64) (tag : Nat) (s : State), 8 ≤ (((s.elapse dt).settle q).qData q).tail.length → freeTag ((s.elapse dt).settle q).que.bursts = some tag → 32 < s.qCap q → (((s.elapse dt).settle q).qData q).ringCount + 8 ≤ s.qCap q - 32 → 
      ∃ u, exec (.spillWrite dt q) s = .next u ∧ (u.qData q).ringCount = (((s.elapse dt).settle q).qData q).ringCount + 8 ∧ (u.qData q).tail = (((s.elapse dt).settle q).qData q).tail.drop 8) ∧
  (∀ (dt : Nat) (tag : Fin 128) (b : Burst) (s : State), ((s.que.bursts.find? fun x => x.tag == tag.val && x.wr) = some b) → 
      ∃ u, exec (.spillWriteComplete dt tag) s = .next u ∧ (∀ x ∈ u.que.bursts, x.tag = tag.val → x.wr = false)) ∧
  (∀ (dt : Nat) (tag : Fin 128) (b : Burst) (s : State), ((s.que.bursts.find? fun x => x.tag == tag.val && !x.wr) = some b) → b.entries ≠ [] → 
      ∃ u, exec (.spillRead dt tag false) s = .next u ∧ (u.qData b.q).ringRd = (s.qData b.q).ringRd + b.entries.length ∧ (u.qData b.q).ringCount = (s.qData b.q).ringCount - b.entries.length) ∧
  (∀ (dt : Nat) (tag : Fin 128) (b : Burst) (s : State), ((s.que.bursts.find? fun x => x.tag == tag.val && !x.wr) = some b) → b.entries ≠ [] → b.q < 64 → 
      ∃ u, exec (.spillRead dt tag true) s = .next u ∧ u.get (QUE_CFG_BROKEN b.q) = 1 ∧ u.get ERR_GUARD_HELD = 0)

/-- Arm, disarm, force, the end of the re-arm time, and release. ARM of an IDLE group that passes every check gives RESULT 0x1 and REARM: every member is in pre-trigger with an empty ring, and the re-arm time ends at the 64th boundary of TCH; an arm that is refused changes only RESULT; one that finds the island asleep waits for its wake. REARM ends in ARMED. DISARM frees the buffers of a group that has not triggered and closes the filling records of one that has with STATUS 0x3. FORCE waits for the next boundary of TCH. A release frees a closed record, its slots and its descriptor, and a waiting group arms when there is room; any other release is an access error. The order of the arm results is read by inference (log 41). -/
def Obligations.ArmAndRelease : Prop :=
  (∀ (dt : Nat) (g : Fin 8) (s : State), s.armResult g = 0x1 → s.get (PWR_ISL_STATE 0x17) = 0 → 
      ∃ u, exec (.arm dt g) s = .next u ∧ u.get (ACQ_GST_RESULT g) = 0x1 ∧ u.get (ACQ_GST_STATE g) = 1 ∧ (u.acqGroup g).rearmAt = ((s.elapse dt).now / s.rd (ACQ_CTS (s.get (ACQ_GCFG_TCH g))) + 64) * s.rd (ACQ_CTS (s.get (ACQ_GCFG_TCH g))) ∧ (∀ c, c ∈ s.acqMembers g → u.get (ACQ_CST_STATE c) = 1 ∧ u.rd (ACQ_CHIST c) = 0 ∧ u.rd (ACQ_CDEP c) = s.acqSlots c * 4096 / s.acqSize c) ∧ (∀ c, c ∈ s.acqMembers g → s.rd (ACQ_CPOST c) ≤ s.acqSlots c * 4096 / s.acqSize c → s.acqSlots c * 4096 / s.acqSize c < s.rd (ACQ_CPRE c) + s.rd (ACQ_CPOST c) → u.get (ACQ_CST_PRECUT c) = 1 ∧ u.get (ACQ_CST_PCLAMP c) = 0) ∧ u.get ACQ_POOLA_FREE + u.get ACQ_POOLA_ARMED + u.get ACQ_POOLB_HELD = 2048 ∧ OnlyChanges [.clk, .fresh, .acq, .reg .acq, .sets] [] s u) ∧
  (∀ (dt : Nat) (g : Fin 8) (s : State), (s.get (ACQ_GST_STATE g) ≠ 0 ∨ s.acqMembers g = []) → 
      ∃ u, exec (.arm dt g) s = .next u ∧ u.get (ACQ_GST_RESULT g) = 0x8 ∧ u.get (ACQ_GST_STATE g) = s.get (ACQ_GST_STATE g) ∧ OnlyChanges [.clk, .sets] [ACQ_GST g] s u) ∧
  (∀ (dt : Nat) (g : Fin 8) (s : State), s.get (ACQ_GST_STATE g) = 0 → s.acqMembers g ≠ [] → (¬ (∀ c, c ∈ s.acqMembers g → s.signalOk c = true)) → 
      ∃ u, exec (.arm dt g) s = .next u ∧ u.get (ACQ_GST_RESULT g) = 0x9 ∧ u.get (ACQ_GST_STATE g) = s.get (ACQ_GST_STATE g) ∧ OnlyChanges [.clk, .sets] [ACQ_GST g] s u) ∧
  (∀ (dt : Nat) (g : Fin 8) (s : State), s.get (ACQ_GST_STATE g) = 0 → s.acqMembers g ≠ [] → ((∀ c, c ∈ s.acqMembers g → s.signalOk c = true)) → (¬ (∀ c, c ∈ s.acqMembers g → bandwidthOk (s.acqSize c) (s.rd (ACQ_CTS c)) (s.get (ACQ_CWS_WEXP c)) = true)) → 
      ∃ u, exec (.arm dt g) s = .next u ∧ u.get (ACQ_GST_RESULT g) = 0xA ∧ u.get (ACQ_GST_STATE g) = s.get (ACQ_GST_STATE g) ∧ OnlyChanges [.clk, .sets] [ACQ_GST g] s u) ∧
  (∀ (dt : Nat) (g : Fin 8) (s : State), s.get (ACQ_GST_STATE g) = 0 → s.acqMembers g ≠ [] → ((∀ c, c ∈ s.acqMembers g → s.signalOk c = true)) → ((∀ c, c ∈ s.acqMembers g → bandwidthOk (s.acqSize c) (s.rd (ACQ_CTS c)) (s.get (ACQ_CWS_WEXP c)) = true)) → s.triggerOk g = false → 
      ∃ u, exec (.arm dt g) s = .next u ∧ u.get (ACQ_GST_RESULT g) = 0xE ∧ u.get (ACQ_GST_STATE g) = s.get (ACQ_GST_STATE g) ∧ OnlyChanges [.clk, .sets] [ACQ_GST g] s u) ∧
  (∀ (dt : Nat) (g : Fin 8) (s : State), s.get (ACQ_GST_STATE g) = 0 → s.acqMembers g ≠ [] → ((∀ c, c ∈ s.acqMembers g → s.signalOk c = true)) → ((∀ c, c ∈ s.acqMembers g → bandwidthOk (s.acqSize c) (s.rd (ACQ_CTS c)) (s.get (ACQ_CWS_WEXP c)) = true)) → s.triggerOk g = true → s.acqRoom g = false → 
      ∃ u, exec (.arm dt g) s = .next u ∧ u.get (ACQ_GST_RESULT g) = 0xB ∧ u.get (ACQ_GST_STATE g) = s.get (ACQ_GST_STATE g) ∧ OnlyChanges [.clk, .sets] [ACQ_GST g] s u) ∧
  (∀ (dt : Nat) (g : Fin 8) (s : State), s.get (ACQ_GST_STATE g) = 0 → s.acqMembers g ≠ [] → ((∀ c, c ∈ s.acqMembers g → s.signalOk c = true)) → ((∀ c, c ∈ s.acqMembers g → bandwidthOk (s.acqSize c) (s.rd (ACQ_CTS c)) (s.get (ACQ_CWS_WEXP c)) = true)) → s.triggerOk g = true → s.acqRoom g = true → (((s.get (ACQ_GCFG_SRC g) = 5 ∨ s.get (ACQ_GCFG_WOUTEN g) = 1) ∧ s.get ACQ_WST_CLKOK = 0)) → 
      ∃ u, exec (.arm dt g) s = .next u ∧ u.get (ACQ_GST_RESULT g) = 0xC ∧ u.get (ACQ_GST_STATE g) = s.get (ACQ_GST_STATE g) ∧ OnlyChanges [.clk, .sets] [ACQ_GST g] s u) ∧
  (∀ (dt : Nat) (g : Fin 8) (s : State), s.get (ACQ_GST_STATE g) = 0 → s.acqMembers g ≠ [] → ((∀ c, c ∈ s.acqMembers g → s.signalOk c = true)) → ((∀ c, c ∈ s.acqMembers g → bandwidthOk (s.acqSize c) (s.rd (ACQ_CTS c)) (s.get (ACQ_CWS_WEXP c)) = true)) → s.triggerOk g = true → s.acqRoom g = true → (¬ ((s.get (ACQ_GCFG_SRC g) = 5 ∨ s.get (ACQ_GCFG_WOUTEN g) = 1) ∧ s.get ACQ_WST_CLKOK = 0)) → s.get CFG_CHG_BUSY = 1 → 
      ∃ u, exec (.arm dt g) s = .next u ∧ u.get (ACQ_GST_RESULT g) = 0xD ∧ u.get (ACQ_GST_STATE g) = s.get (ACQ_GST_STATE g) ∧ OnlyChanges [.clk, .sets] [ACQ_GST g] s u) ∧
  (∀ (dt : Nat) (g : Fin 8) (s : State), s.armResult g = 0x1 → s.get (PWR_ISL_STATE 0x17) ≠ 0 → 
      ∃ u, exec (.arm dt g) s = .next u ∧ u.get (ACQ_GST_RESULT g) = 0x1 ∧ u.get (ACQ_GST_STATE g) = 0 ∧ g.val ∈ u.acq.wake ∧ u.acq.chan = s.acq.chan ∧ OnlyChanges [.clk, .acq, .sets] [ACQ_GST g, PWR_ISL 0x17] s u) ∧
  (∀ (dt : Nat) (g : Fin 8) (s : State), (s.get (ACQ_GST_STATE g) = 1 ∨ s.get (ACQ_GST_STATE g) = 2 ∨ s.get (ACQ_GST_STATE g) = 4) → 
      ∃ u, exec (.disarm dt g) s = .next u ∧ u.get (ACQ_GST_STATE g) = 0 ∧ (∀ c, c ∈ s.acqMembers g → tabFind u.acq.chan c = none) ∧ (∀ c : Fin 64, ∀ k, c.val ∈ s.acqMembers g → tabFind s.acq.chan c = some k → (∀ i, i ∈ k.slots → u.get (ACQ_SLOT_KIND i) = 0) ∧ u.rd (ACQ_RD k.rid 0) / 65536 % 256 = 0) ∧ OnlyChanges [.clk, .acq, .reg .acq, .sets] [] s u) ∧
  (∀ (dt : Nat) (g : Fin 8) (s : State), s.get (ACQ_GST_STATE g) = 3 → 
      ∃ u, exec (.disarm dt g) s = .next u ∧ u.get (ACQ_GST_STATE g) = 0 ∧ (∀ c, c ∈ s.acqMembers g → tabFind u.acq.chan c = none) ∧ (∀ c : Fin 64, ∀ k, c.val ∈ s.acqMembers g → tabFind s.acq.chan c = some k → u.rd (ACQ_RD k.rid 0) / 65536 % 256 = 3) ∧ u.acq.sram = s.acq.sram) ∧
  (∀ (dt : Nat) (g : Fin 8) (s : State), s.get (ACQ_GST_STATE g) = 0 → 
      ∃ u, exec (.disarm dt g) s = .next u ∧ u.acq.wake = s.acq.wake.filter (· ≠ g.val) ∧ u.acq.chan = s.acq.chan ∧ OnlyChanges [.clk, .acq, .sets] [] s u) ∧
  (∀ (dt : Nat) (g : Fin 8) (s : State), s.get (ACQ_GST_STATE g) = 0 → 
      ∃ u, exec (.force dt g) s = .next u ∧ u = (s.elapse dt)) ∧
  (∀ (dt : Nat) (g : Fin 8) (s : State), s.get (ACQ_GST_STATE g) ≠ 0 → 
      ∃ u, exec (.force dt g) s = .next u ∧ (u.acqGroup g).force = true ∧ (∀ y : Fin 8, y ≠ g → u.acqGroup y = s.acqGroup y) ∧ OnlyChanges [.clk, .acq, .sets] [] s u) ∧
  (∀ (dt : Nat) (g : Fin 8) (s : State), s.get (ACQ_GST_STATE g) = 1 → (s.acqGroup g).rearmAt ≤ (s.elapse dt).now → 
      ∃ u, exec (.rearmEnd dt g) s = .next u ∧ u.get (ACQ_GST_STATE g) = 2 ∧ (u.acqGroup g).armedAt = (s.elapse dt).now ∧ OnlyChanges [.clk, .acq, .sets] [ACQ_GST g] s u) ∧
  (∀ (dt : Nat) (g : Fin 8) (s : State), (s.get (ACQ_GST_STATE g) ≠ 1 ∨ (s.elapse dt).now < (s.acqGroup g).rearmAt) → 
      ∃ u, exec (.rearmEnd dt g) s = .next u ∧ u = (s.elapse dt)) ∧
  (∀ (dt : Nat) (who : Accessor) (r : Fin 128) (s : State), 2 ≤ s.rd (ACQ_RD r 0) / 65536 % 256 → s.rd (ACQ_RD r 0) / 65536 % 256 ≤ 5 → (∀ g : Fin 8, s.get (ACQ_GST_STATE g) ≠ 4) → 
      ∃ u, exec (.recordRelease dt who r) s = .next u ∧ u.rd (ACQ_RD r 0) / 65536 % 256 = 0 ∧ (∀ i : Fin 2048, s.get (ACQ_SLOT_KIND i) = 2 ∧ s.get (ACQ_SLOT_OWNER i) = r → u.get (ACQ_SLOT_KIND i) = 0) ∧ (∀ i : Fin 2048, ¬ (s.get (ACQ_SLOT_KIND i) = 2 ∧ s.get (ACQ_SLOT_OWNER i) = r) → u.rd (ACQ_SLOT i) = s.rd (ACQ_SLOT i)) ∧ u.get ACQ_POOLA_FREE + u.get ACQ_POOLA_ARMED + u.get ACQ_POOLB_HELD = 2048 ∧ OnlyChanges [.clk, .reg .acq, .sets] [] s u) ∧
  (∀ (dt : Nat) (who : Accessor) (r : Fin 128) (g : Fin 8) (s : State), 2 ≤ s.rd (ACQ_RD r 0) / 65536 % 256 → s.rd (ACQ_RD r 0) / 65536 % 256 ≤ 5 → s.get (ACQ_GST_STATE g) = 4 → (∀ y : Fin 8, y ≠ g → s.get (ACQ_GST_STATE y) ≠ 4) → (s.get (ACQ_GST_STATE g) = 4 → s.acqMembers g ≠ []) → 
      ∃ u, exec (.recordRelease dt who r) s = .next u ∧ (u.get (ACQ_GST_STATE g) = 1 ∨ u.get (ACQ_GST_STATE g) = 4 ∧ u.acqRoom g = false)) ∧
  (∀ (dt : Nat) (who : Accessor) (r : Fin 128) (s : State), (s.rd (ACQ_RD r 0) / 65536 % 256 < 2 ∨ 5 < s.rd (ACQ_RD r 0) / 65536 % 256) → 
      ∃ u, exec (.recordRelease dt who r) s = .next u ∧ u = (s.elapse dt).accessError who 4 ACQ_REL r ∧ (∀ y : Fin 128, u.rd (ACQ_RD y 0) = s.rd (ACQ_RD y 0)))

/-- Samples, triggers, records and the Wychemas bus. At a boundary of its channel a sample is stored at the next place of the ring and nowhere else. At a boundary of the timing channel an ARMED group triggers on a crossing at the interpolated instant, on a level at the sample, or on FORCE; in REARM the trigger is counted in RAIGN, in WAITRES in MISS. The auto trigger fires with FORCED after its time. A full record closes with STATUS 0x2 and its counts, one with an uncorrected error with STATUS 0x5. A frame of the Wychemas bus carries the delay to its edge, and a receiver places tt from it, with D 80 and WBAD when its parity is wrong; without SYNCCLK nothing is sent or taken. -/
def Obligations.Recording : Prop :=
  (∀ (dt : Nat) (c : Fin 64) (vals : List (BitVec 64)) (l : List Bool) (s : State), s.recordFull c = false → (s.get (ACQ_CCFG_EN c) = 0 ∨ (s.elapse dt).atBoundary (s.rd (ACQ_CTS c)) = false ∨ tabFind s.acq.chan c = none ∧ s.get (ACQ_GST_STATE (s.get (ACQ_CCFG_GRP c))) ≠ 4) → 
      ∃ u, exec (.acqSample dt c vals l) s = .next u ∧ u = (s.elapse dt)) ∧
  (∀ (dt : Nat) (c : Fin 64) (vals : List (BitVec 64)) (l : List Bool) (k : AcqChan) (s : State), s.recordFull c = false → s.get (ACQ_CCFG_EN c) = 1 → (s.elapse dt).atBoundary (s.rd (ACQ_CTS c)) = true → tabFind s.acq.chan c = some k → k.first + k.taken * k.ts ≤ (s.elapse dt).now → s.get (ACQ_GCFG_TCH (s.get (ACQ_CCFG_GRP c))) ≠ c.val → s.get (ACQ_CCFG_STR c) = 1 → 
      ∃ u, exec (.acqSample dt c vals l) s = .next u ∧ ((tabFind u.acq.chan c).map (fun x => (x.taken, x.trig, x.slots)) = some (k.taken + 1, k.trig, k.slots)) ∧ (∀ j : Fin 4, j.val < sigWidth (s.acqCls c) → memByte u.acq.sram (ringByte k j) = (leBytes (sigWidth (s.acqCls c)) (unsigned (8 * sigWidth (s.acqCls c)) (sampleRaw s c l))).getD j 0) ∧ (∀ x, (∀ j : Fin 4, j.val < sigWidth (s.acqCls c) → x ≠ ringByte k j) → memByte u.acq.sram x = memByte s.acq.sram x) ∧ (u.rd (ACQ_CHIST c) = (if s.get (ACQ_CST_STATE c) = 1 then min k.pre (k.taken + 1) % 2 ^ 32 else s.rd (ACQ_CHIST c))) ∧ OnlyChanges [.clk, .acq, .sets] [ACQ_CHIST c] s u) ∧
  (∀ (dt : Nat) (c : Fin 64) (vals : List (BitVec 64)) (l : List Bool) (k : AcqChan) (g : Fin 8) (y : Int) (y0 : Int) (s : State), s.recordFull c = false → s.get (ACQ_CCFG_EN c) = 1 → (s.elapse dt).atBoundary (s.rd (ACQ_CTS c)) = true → tabFind s.acq.chan c = some k → k.first + k.taken * k.ts ≤ (s.elapse dt).now → s.get (ACQ_CCFG_GRP c) = g → s.get (ACQ_GCFG_TCH g) = c → sampleStream s g c vals l = y → s.get (ACQ_GST_STATE g) = 2 → (s.acqGroup g).force = false → (s.get (ACQ_GCFG_SRC g) = 0 ∨ s.get (ACQ_GCFG_SRC g) = 2) → (s.acqGroup g).y0 = some y0 → (s.acqGroup g).low = true → y0 < signed 32 (s.rd (ACQ_GLVL g)) → signed 32 (s.rd (ACQ_GLVL g)) ≤ y → 
      ∃ u, exec (.acqSample dt c vals l) s = .next u ∧ u.get (ACQ_GST_STATE g) = 3 ∧ u.rd (ACQ_GLAST g) = (((s.elapse dt).now - s.rd (ACQ_CTS c)) * 256 + (((s.rd (ACQ_CTS c) : Int) * 256 * (signed 32 (s.rd (ACQ_GLVL g)) - y0)) / (y - y0)).toNat) / 256 % 2 ^ 32 ∧ u.get (ACQ_GCNT_TRIG g) = (s.get (ACQ_GCNT_TRIG g) + 1) % 65536 ∧ (u.acqGroup g).tt = (((s.elapse dt).now - s.rd (ACQ_CTS c)) * 256 + (((s.rd (ACQ_CTS c) : Int) * 256 * (signed 32 (s.rd (ACQ_GLVL g)) - y0)) / (y - y0)).toNat) ∧ (u.acqGroup g).flags = 0 ∧ ((tabFind u.acq.chan c).map (fun x => (x.taken, x.trig)) = some (k.taken + 1, some (k.sampleAt ((((s.elapse dt).now - s.rd (ACQ_CTS c)) * 256 + (((s.rd (ACQ_CTS c) : Int) * 256 * (signed 32 (s.rd (ACQ_GLVL g)) - y0)) / (y - y0)).toNat))))) ∧ (∀ m, m ∈ s.acqMembers g → u.get (ACQ_CST_STATE m) = 2)) ∧
  (∀ (dt : Nat) (c : Fin 64) (vals : List (BitVec 64)) (l : List Bool) (k : AcqChan) (g : Fin 8) (y : Int) (y0 : Int) (s : State), s.recordFull c = false → s.get (ACQ_CCFG_EN c) = 1 → (s.elapse dt).atBoundary (s.rd (ACQ_CTS c)) = true → tabFind s.acq.chan c = some k → k.first + k.taken * k.ts ≤ (s.elapse dt).now → s.get (ACQ_CCFG_GRP c) = g → s.get (ACQ_GCFG_TCH g) = c → sampleStream s g c vals l = y → s.get (ACQ_GST_STATE g) = 2 → (s.acqGroup g).force = false → s.get (ACQ_GCFG_SRC g) = 1 → (s.acqGroup g).y0 = some y0 → (s.acqGroup g).high = true → signed 32 (s.rd (ACQ_GLVL g)) < y0 → y ≤ signed 32 (s.rd (ACQ_GLVL g)) → 
      ∃ u, exec (.acqSample dt c vals l) s = .next u ∧ u.get (ACQ_GST_STATE g) = 3 ∧ u.rd (ACQ_GLAST g) = (((s.elapse dt).now - s.rd (ACQ_CTS c)) * 256 + (((s.rd (ACQ_CTS c) : Int) * 256 * (signed 32 (s.rd (ACQ_GLVL g)) - y0)) / (y - y0)).toNat) / 256 % 2 ^ 32 ∧ u.get (ACQ_GCNT_TRIG g) = (s.get (ACQ_GCNT_TRIG g) + 1) % 65536 ∧ (u.acqGroup g).tt = (((s.elapse dt).now - s.rd (ACQ_CTS c)) * 256 + (((s.rd (ACQ_CTS c) : Int) * 256 * (signed 32 (s.rd (ACQ_GLVL g)) - y0)) / (y - y0)).toNat) ∧ (u.acqGroup g).flags = 0 ∧ ((tabFind u.acq.chan c).map (fun x => (x.taken, x.trig)) = some (k.taken + 1, some (k.sampleAt ((((s.elapse dt).now - s.rd (ACQ_CTS c)) * 256 + (((s.rd (ACQ_CTS c) : Int) * 256 * (signed 32 (s.rd (ACQ_GLVL g)) - y0)) / (y - y0)).toNat))))) ∧ (∀ m, m ∈ s.acqMembers g → u.get (ACQ_CST_STATE m) = 2)) ∧
  (∀ (dt : Nat) (c : Fin 64) (vals : List (BitVec 64)) (l : List Bool) (k : AcqChan) (g : Fin 8) (y : Int) (s : State), s.recordFull c = false → s.get (ACQ_CCFG_EN c) = 1 → (s.elapse dt).atBoundary (s.rd (ACQ_CTS c)) = true → tabFind s.acq.chan c = some k → k.first + k.taken * k.ts ≤ (s.elapse dt).now → s.get (ACQ_CCFG_GRP c) = g → s.get (ACQ_GCFG_TCH g) = c → sampleStream s g c vals l = y → s.get (ACQ_GST_STATE g) = 2 → (s.acqGroup g).force = false → (s.get (ACQ_GCFG_SRC g) = 3 ∧ signed 32 (s.rd (ACQ_GLVL g)) ≤ y ∨ s.get (ACQ_GCFG_SRC g) = 4 ∧ y ≤ signed 32 (s.rd (ACQ_GLVL g))) → 
      ∃ u, exec (.acqSample dt c vals l) s = .next u ∧ u.get (ACQ_GST_STATE g) = 3 ∧ u.rd (ACQ_GLAST g) = (s.elapse dt).now * 256 / 256 % 2 ^ 32 ∧ u.get (ACQ_GCNT_TRIG g) = (s.get (ACQ_GCNT_TRIG g) + 1) % 65536 ∧ (u.acqGroup g).tt = (s.elapse dt).now * 256 ∧ (u.acqGroup g).flags = 0 ∧ ((tabFind u.acq.chan c).map (fun x => (x.taken, x.trig)) = some (k.taken + 1, some (k.sampleAt ((s.elapse dt).now * 256)))) ∧ (∀ m, m ∈ s.acqMembers g → u.get (ACQ_CST_STATE m) = 2)) ∧
  (∀ (dt : Nat) (c : Fin 64) (vals : List (BitVec 64)) (l : List Bool) (k : AcqChan) (g : Fin 8) (y : Int) (s : State), s.recordFull c = false → s.get (ACQ_CCFG_EN c) = 1 → (s.elapse dt).atBoundary (s.rd (ACQ_CTS c)) = true → tabFind s.acq.chan c = some k → k.first + k.taken * k.ts ≤ (s.elapse dt).now → s.get (ACQ_CCFG_GRP c) = g → s.get (ACQ_GCFG_TCH g) = c → sampleStream s g c vals l = y → s.get (ACQ_GST_STATE g) = 2 → 8 ≤ s.get (ACQ_GCFG_SRC g) → (s.acqGroup g).force = true → 
      ∃ u, exec (.acqSample dt c vals l) s = .next u ∧ u.get (ACQ_GST_STATE g) = 3 ∧ u.rd (ACQ_GLAST g) = (s.elapse dt).now * 256 / 256 % 2 ^ 32 ∧ u.get (ACQ_GCNT_TRIG g) = (s.get (ACQ_GCNT_TRIG g) + 1) % 65536 ∧ (u.acqGroup g).tt = (s.elapse dt).now * 256 ∧ (u.acqGroup g).flags = 0 ∧ ((tabFind u.acq.chan c).map (fun x => (x.taken, x.trig)) = some (k.taken + 1, some (k.sampleAt ((s.elapse dt).now * 256)))) ∧ (∀ m, m ∈ s.acqMembers g → u.get (ACQ_CST_STATE m) = 2) ∧ (u.acqGroup g).force = false) ∧
  (∀ (dt : Nat) (c : Fin 64) (vals : List (BitVec 64)) (l : List Bool) (k : AcqChan) (g : Fin 8) (y : Int) (s : State), s.recordFull c = false → s.get (ACQ_CCFG_EN c) = 1 → (s.elapse dt).atBoundary (s.rd (ACQ_CTS c)) = true → tabFind s.acq.chan c = some k → k.first + k.taken * k.ts ≤ (s.elapse dt).now → s.get (ACQ_CCFG_GRP c) = g → s.get (ACQ_GCFG_TCH g) = c → sampleStream s g c vals l = y → s.get (ACQ_GST_STATE g) = 1 → (s.elapse dt).now < (s.acqGroup g).rearmAt → s.get (ACQ_GCFG_SRC g) = 3 → (s.acqGroup g).force = false → signed 32 (s.rd (ACQ_GLVL g)) ≤ y → 
      ∃ u, exec (.acqSample dt c vals l) s = .next u ∧ u.get (ACQ_GST_RAIGN g) = min (s.get (ACQ_GST_RAIGN g) + 1) 65535 ∧ u.get (ACQ_GST_STATE g) = 1 ∧ u.get (ACQ_GCNT_TRIG g) = s.get (ACQ_GCNT_TRIG g) ∧ ((tabFind u.acq.chan c).map (fun x => (x.taken, x.trig)) = some (k.taken + 1, k.trig))) ∧
  (∀ (dt : Nat) (c : Fin 64) (vals : List (BitVec 64)) (l : List Bool) (k : AcqChan) (g : Fin 8) (y : Int) (s : State), s.recordFull c = false → s.get (ACQ_CCFG_EN c) = 1 → (s.elapse dt).atBoundary (s.rd (ACQ_CTS c)) = true → tabFind s.acq.chan c = some k → k.first + k.taken * k.ts ≤ (s.elapse dt).now → s.get (ACQ_CCFG_GRP c) = g → s.get (ACQ_GCFG_TCH g) = c → sampleStream s g c vals l = y → s.get (ACQ_GST_STATE g) = 2 → s.get (ACQ_GCFG_SRC g) = 3 → y < signed 32 (s.rd (ACQ_GLVL g)) → (s.acqGroup g).force = false → 
      ∃ u, exec (.acqSample dt c vals l) s = .next u ∧ u.get (ACQ_GST_STATE g) = 2 ∧ (u.acqGroup g).y0 = some y ∧ ((tabFind u.acq.chan c).map (fun x => (x.taken, x.trig)) = some (k.taken + 1, k.trig)) ∧ OnlyChanges [.clk, .acq, .fresh, .sets] [ACQ_CHIST c] s u) ∧
  (∀ (dt : Nat) (c : Fin 64) (vals : List (BitVec 64)) (l : List Bool) (g : Fin 8) (s : State), s.recordFull c = false → s.get (ACQ_CCFG_EN c) = 1 → (s.elapse dt).atBoundary (s.rd (ACQ_CTS c)) = true → tabFind s.acq.chan c = none → s.get (ACQ_CCFG_GRP c) = g → s.get (ACQ_GCFG_TCH g) = c → s.get (ACQ_GST_STATE g) = 4 → s.get (ACQ_GCFG_SRC g) = 3 → (s.acqGroup g).force = false → signed 32 (s.rd (ACQ_GLVL g)) ≤ sampleStream s g c vals l → 
      ∃ u, exec (.acqSample dt c vals l) s = .next u ∧ u.get (ACQ_GCNT_MISS g) = min (s.get (ACQ_GCNT_MISS g) + 1) 65535 ∧ u.get (ACQ_GST_STATE g) = 4) ∧
  (∀ (dt : Nat) (g : Fin 8) (s : State), ((s.get (ACQ_GST_STATE g) = 2 ∧ s.get (ACQ_GCFG_AUTO g) = 1 ∧ (s.acqGroup g).armedAt + s.rd (ACQ_GAUTO g) * 1000 ≤ (s.elapse dt).now ∧ (s.elapse dt).atBoundary (s.rd (ACQ_CTS (s.get (ACQ_GCFG_TCH g)))) = true ∧ (s.elapse dt).acqLooked (s.get (ACQ_GCFG_TCH g)) = true)) → 
      ∃ u, exec (.autoTrigger dt g) s = .next u ∧ u.get (ACQ_GST_STATE g) = 3 ∧ (u.acqGroup g).tt = (s.elapse dt).now * 256 ∧ (u.acqGroup g).flags = 1 ∧ u.get (ACQ_GCNT_TRIG g) = (s.get (ACQ_GCNT_TRIG g) + 1) % 65536 ∧ u.rd (ACQ_GLAST g) = (s.elapse dt).now % 2 ^ 32) ∧
  (∀ (dt : Nat) (g : Fin 8) (s : State), (¬ (s.get (ACQ_GST_STATE g) = 2 ∧ s.get (ACQ_GCFG_AUTO g) = 1 ∧ (s.acqGroup g).armedAt + s.rd (ACQ_GAUTO g) * 1000 ≤ (s.elapse dt).now ∧ (s.elapse dt).atBoundary (s.rd (ACQ_CTS (s.get (ACQ_GCFG_TCH g)))) = true ∧ (s.elapse dt).acqLooked (s.get (ACQ_GCFG_TCH g)) = true)) → 
      ∃ u, exec (.autoTrigger dt g) s = .next u ∧ u = (s.elapse dt)) ∧
  (∀ (dt : Nat) (c : Fin 64) (s : State), s.recordFull c = false → 
      ∃ u, exec (.recordClose dt c false) s = .next u ∧ u = (s.elapse dt)) ∧
  (∀ (dt : Nat) (c : Fin 64) (k : AcqChan) (t : Nat) (s : State), k.rid < 128 → s.get (ACQ_GCFG_REPEAT (s.get (ACQ_CCFG_GRP c))) = 0 → k.trig = some t → tabFind s.acq.chan c = some k → t + k.post ≤ k.taken → 
      ∃ u, exec (.recordClose dt c false) s = .next u ∧ u.rd (ACQ_RD k.rid 0) / 65536 % 256 = 2 ∧ u.rd (ACQ_RD k.rid 0) % 65536 = c + 256 * s.get (ACQ_CCFG_GRP c) ∧ u.rd (ACQ_RD k.rid 1) = s.rd (ACQ_CSIG c) % 2 ^ 32 ∧ u.rd (ACQ_RD k.rid 3) = k.ts % 2 ^ 32 ∧ u.rd (ACQ_RD k.rid 4) = ((s.acqGroup (s.get (ACQ_CCFG_GRP c))).tt / 256) % 2 ^ 32 ∧ u.rd (ACQ_RD k.rid 6) = (k.first + (t - min k.pre t) * k.ts) % 2 ^ 32 ∧ u.rd (ACQ_RD k.rid 7) = k.pre % 2 ^ 32 ∧ u.rd (ACQ_RD k.rid 8) = min k.pre t % 2 ^ 32 ∧ u.rd (ACQ_RD k.rid 9) = k.post % 2 ^ 32 ∧ u.rd (ACQ_RD k.rid 13) = ((min k.pre t + k.post) * k.size) % 2 ^ 32 ∧ (∀ i, i ∈ k.slots → u.get (ACQ_SLOT_KIND i) = 2 ∧ u.get (ACQ_SLOT_OWNER i) = k.rid) ∧ tabFind u.acq.chan c = none ∧ tabGet 0 u.acq.seq c = tabGet 0 s.acq.seq c + 1 ∧ u.get (ACQ_CST_STATE c) = 0 ∧ u.acq.sram = s.acq.sram ∧ (min k.pre t < k.pre → (s.acqGroup (s.get (ACQ_CCFG_GRP c))).flags % 4 / 2 = 0 → u.rd (ACQ_RD k.rid 0) / 2 ^ 25 % 2 = 1) ∧ ((∀ m, m ∈ s.acqMembers (s.get (ACQ_CCFG_GRP c)) → m ≠ c → tabFind s.acq.chan m = none) → u.get (ACQ_GST_STATE (s.get (ACQ_CCFG_GRP c))) = 0)) ∧
  (∀ (dt : Nat) (c : Fin 64) (k : AcqChan) (t : Nat) (s : State), k.rid < 128 → s.get (ACQ_GCFG_REPEAT (s.get (ACQ_CCFG_GRP c))) = 0 → k.trig = some t → tabFind s.acq.chan c = some k → t ≤ k.taken → 
      ∃ u, exec (.recordClose dt c true) s = .next u ∧ u.rd (ACQ_RD k.rid 0) / 65536 % 256 = 5 ∧ u.rd (ACQ_RD k.rid 0) % 65536 = c + 256 * s.get (ACQ_CCFG_GRP c) ∧ u.rd (ACQ_RD k.rid 1) = s.rd (ACQ_CSIG c) % 2 ^ 32 ∧ u.rd (ACQ_RD k.rid 3) = k.ts % 2 ^ 32 ∧ u.rd (ACQ_RD k.rid 4) = ((s.acqGroup (s.get (ACQ_CCFG_GRP c))).tt / 256) % 2 ^ 32 ∧ u.rd (ACQ_RD k.rid 6) = (k.first + (t - min k.pre t) * k.ts) % 2 ^ 32 ∧ u.rd (ACQ_RD k.rid 7) = k.pre % 2 ^ 32 ∧ u.rd (ACQ_RD k.rid 8) = min k.pre t % 2 ^ 32 ∧ u.rd (ACQ_RD k.rid 9) = (min k.post (k.taken - t)) % 2 ^ 32 ∧ u.rd (ACQ_RD k.rid 13) = ((min k.pre t + (min k.post (k.taken - t))) * k.size) % 2 ^ 32 ∧ (∀ i, i ∈ k.slots → u.get (ACQ_SLOT_KIND i) = 2 ∧ u.get (ACQ_SLOT_OWNER i) = k.rid) ∧ tabFind u.acq.chan c = none ∧ tabGet 0 u.acq.seq c = tabGet 0 s.acq.seq c + 1 ∧ u.get (ACQ_CST_STATE c) = 0 ∧ u.acq.sram = s.acq.sram ∧ (min k.pre t < k.pre → (s.acqGroup (s.get (ACQ_CCFG_GRP c))).flags % 4 / 2 = 0 → u.rd (ACQ_RD k.rid 0) / 2 ^ 25 % 2 = 1)) ∧
  (∀ (dt : Nat) (c : Fin 64) (s : State), tabFind s.acq.chan c = none → 
      ∃ u, exec (.recordClose dt c true) s = .next u ∧ u = (s.elapse dt)) ∧
  (∀ (dt : Nat) (n : Fin 4) (s : State), (s.acq.out.find? (fun e => e.1 == n.val) = none) → 
      ∃ u, exec (.wychemasSend dt n) s = .next u ∧ u = (s.elapse dt)) ∧
  (∀ (dt : Nat) (n : Fin 4) (e : Nat × Nat) (s : State), (s.acq.out.find? (fun e => e.1 == n.val) = some e) → s.get ACQ_WST_CLKOK = 0 → 
      ∃ u, exec (.wychemasSend dt n) s = .next u ∧ u.acq.out = s.acq.out.erase e ∧ u.acq.sentAt = s.acq.sentAt ∧ OnlyChanges [.clk, .acq, .sets] [] s u) ∧
  (∀ (dt : Nat) (n : Fin 4) (e : Nat × Nat) (s : State), (s.acq.out.find? (fun e => e.1 == n.val) = some e) → s.get ACQ_WST_CLKOK = 1 → ((s.elapse dt).now * 256 < e.2 + 10240 ∨ ¬ (s.get ACQ_WCFG_CLKOUT = 0 ∨ (s.elapse dt).atBoundary 40 = true)) → 
      ∃ u, exec (.wychemasSend dt n) s = .next u ∧ u = (s.elapse dt)) ∧
  (∀ (dt : Nat) (n : Fin 4) (e : Nat × Nat) (s : State), (s.acq.out.find? (fun e => e.1 == n.val) = some e) → s.get ACQ_WST_CLKOK = 1 → e.2 + 10240 ≤ (s.elapse dt).now * 256 → ((s.get ACQ_WCFG_CLKOUT = 0 ∨ (s.elapse dt).atBoundary 40 = true)) → bit (s.get ACQ_WCFG_WDRV) n = false → 
      ∃ u, exec (.wychemasSend dt n) s = .next u ∧ u.acq.out = s.acq.out.erase e ∧ u.acq.sentAt = s.acq.sentAt ∧ OnlyChanges [.clk, .acq, .sets] [] s u) ∧
  (∀ (dt : Nat) (n : Fin 4) (e : Nat × Nat) (t : Nat) (s : State), (s.acq.out.find? (fun e => e.1 == n.val) = some e) → s.get ACQ_WST_CLKOK = 1 → e.2 + 10240 ≤ (s.elapse dt).now * 256 → ((s.get ACQ_WCFG_CLKOUT = 0 ∨ (s.elapse dt).atBoundary 40 = true)) → bit (s.get ACQ_WCFG_WDRV) n = true → tabFind s.acq.sentAt n = some t → (s.elapse dt).clk.elapsed < t + 480 → 
      ∃ u, exec (.wychemasSend dt n) s = .next u ∧ u.acq.out = s.acq.out.erase e ∧ u.acq.sentAt = s.acq.sentAt ∧ u.get ACQ_WST_WOVR = min (s.get ACQ_WST_WOVR + 1) 255 ∧ OnlyChanges [.clk, .acq, .sets] [ACQ_WST] s u) ∧
  (∀ (dt : Nat) (n : Fin 4) (e : Nat × Nat) (s : State), (s.acq.out.find? (fun e => e.1 == n.val) = some e) → s.get ACQ_WST_CLKOK = 1 → e.2 + 10240 ≤ (s.elapse dt).now * 256 → ((s.get ACQ_WCFG_CLKOUT = 0 ∨ (s.elapse dt).atBoundary 40 = true)) → bit (s.get ACQ_WCFG_WDRV) n = true → ((tabFind s.acq.sentAt n).all (fun t => decide (t + 480 ≤ (s.elapse dt).clk.elapsed)) = true) → 
      ∃ u, exec (.wychemasSend dt n) s = .next u ∧ u.acq.out = s.acq.out.erase e ∧ tabFind u.acq.sentAt n = some (s.elapse dt).clk.elapsed ∧ (((s.elapse dt).now * 256 - e.2 - 10240) / 64 ≤ 159 → tabGet 0 u.acq.sent n / 2 = ((s.elapse dt).now * 256 - e.2 - 10240) / 64) ∧ (((List.range 9).filter fun j => bit (tabGet 0 u.acq.sent n) j).length % 2 = 1) ∧ OnlyChanges [.clk, .acq, .fresh, .sets] [] s u) ∧
  (∀ (dt : Nat) (n : Fin 4) (f : BitVec 9) (ago : Nat) (s : State), s.get ACQ_WST_CLKOK = 0 → 
      ∃ u, exec (.wychemasReceive dt n f ago) s = .next u ∧ u = (s.elapse dt)) ∧
  (∀ (dt : Nat) (n : Fin 4) (f : BitVec 9) (ago : Nat) (g : Fin 8) (s : State), s.get ACQ_WST_CLKOK = 1 → s.get (ACQ_GST_STATE g) = 2 → s.get (ACQ_GCFG_SRC g) = 5 → s.get (ACQ_GCFG_SRCIDX g) % 4 = n → (((List.range 9).filter fun j => bit f.toNat j).length % 2 = 1) → 
      ∃ u, exec (.wychemasReceive dt n f ago) s = .next u ∧ u.get (ACQ_GST_STATE g) = 3 ∧ (u.acqGroup g).tt = ((s.elapse dt).now * 256 - (ago + s.get (ACQ_WDLY_DLY n) + 160 + f.toNat / 2) * 64) ∧ (u.acqGroup g).flags = 16 ∧ u.get ACQ_WST_WBAD = s.get ACQ_WST_WBAD ∧ u.get (ACQ_GCNT_TRIG g) = (s.get (ACQ_GCNT_TRIG g) + 1) % 65536) ∧
  (∀ (dt : Nat) (n : Fin 4) (f : BitVec 9) (ago : Nat) (g : Fin 8) (s : State), s.get ACQ_WST_CLKOK = 1 → s.get (ACQ_GST_STATE g) = 2 → s.get (ACQ_GCFG_SRC g) = 5 → s.get (ACQ_GCFG_SRCIDX g) % 4 = n → (((List.range 9).filter fun j => bit f.toNat j).length % 2 = 0) → 
      ∃ u, exec (.wychemasReceive dt n f ago) s = .next u ∧ u.get (ACQ_GST_STATE g) = 3 ∧ (u.acqGroup g).tt = ((s.elapse dt).now * 256 - (ago + s.get (ACQ_WDLY_DLY n) + 160 + 80) * 64) ∧ (u.acqGroup g).flags = 48 ∧ u.get ACQ_WST_WBAD = min (s.get ACQ_WST_WBAD + 1) 255 ∧ u.get (ACQ_GCNT_TRIG g) = (s.get (ACQ_GCNT_TRIG g) + 1) % 65536) ∧
  (∀ (dt : Nat) (s : State), 
      ∃ u, exec (.syncclkLoss dt) s = .next u ∧ u.get ACQ_WST_CLKOK = 0 ∧ u.get ACQ_WST_WOVR = s.get ACQ_WST_WOVR ∧ u.get ACQ_WST_WBAD = s.get ACQ_WST_WBAD ∧ OnlyChanges [.clk, .sets] [ACQ_WST] s u) ∧
  (∀ (dt : Nat) (s : State), 
      ∃ u, exec (.syncclkReturn dt) s = .next u ∧ u.get ACQ_WST_CLKOK = 1 ∧ u.get ACQ_WST_WOVR = s.get ACQ_WST_WOVR ∧ u.get ACQ_WST_WBAD = s.get ACQ_WST_WBAD ∧ OnlyChanges [.clk, .sets] [ACQ_WST] s u)

/-- Ports, links and the ready indication of the ring. A link that comes up marks its port and measures a forwarding delay in its range; at the master the ring leaves DOWN for SPLIT, or LINE with TOPO line, and a DISCOVER frame is due. When the last port goes down the ring is DOWN; when one goes down in RING the ring is to split at the next boundary. LEAVE and the loss of the clock of island 0x18 withdraw the indication and close the bypass. A frame of another EtherType, or at the master from a foreign source, counts FOREIGN, the latter with a severe error. RNG_SVREL returns a message buffer. -/
def Obligations.RingLinks : Prop :=
  (∀ (dt : Nat) (p : Fin 2) (s : State), ((s.get RNG_ST_READY = 1 ∧ s.ring.clkLost = false)) → s.get RNG_ST_BYP = 0 → s.portUp p = false → s.get RNG_CFG_ROLE ≠ 0 → 
      ∃ u, exec (.linkUp dt p) s = .next u ∧ u.portUp p = true ∧ u.portUp (1 - p.val) = s.portUp (1 - p.val) ∧ (s.get RNG_CFG_SPEED = 0 → 1248 ≤ u.rd RNG_FWD ∧ u.rd RNG_FWD ≤ 1280) ∧ (s.get RNG_CFG_SPEED = 1 → 4000 ≤ u.rd RNG_FWD ∧ u.rd RNG_FWD ≤ 4320) ∧ (s.get RNG_CFG_ROLE = 1 → u.ring.discover = true) ∧ (s.get RNG_CFG_ROLE = 1 → s.get RNG_ST_STATE = 0 → u.get RNG_ST_STATE = (if s.get RNG_CFG_TOPO = 1 then 1 else 3)) ∧ (s.get RNG_CFG_ROLE ≠ 1 ∨ s.get RNG_ST_STATE ≠ 0 → u.get RNG_ST_STATE = s.get RNG_ST_STATE) ∧ u.get (PWR_ISL_STATE 0x18) = 0 ∧ OnlyChanges [.clk, .fresh, .ring, .sets] [RNG_ST, RNG_FWD, PWR_ISL 0x18] s u) ∧
  (∀ (dt : Nat) (p : Fin 2) (s : State), (¬ (s.get RNG_ST_READY = 1 ∧ s.ring.clkLost = false) ∨ s.get RNG_ST_BYP = 1 ∨ s.portUp p = true ∨ s.get RNG_CFG_ROLE = 0) → 
      ∃ u, exec (.linkUp dt p) s = .next u ∧ u = (s.elapse dt)) ∧
  (∀ (dt : Nat) (p : Fin 2) (s : State), s.portUp p = false → 
      ∃ u, exec (.linkDown dt p) s = .next u ∧ u = (s.elapse dt)) ∧
  (∀ (dt : Nat) (p : Fin 2) (s : State), s.portUp p = true → s.get RNG_CFG_ROLE = 1 → s.portUp (1 - p.val) = false → 
      ∃ u, exec (.linkDown dt p) s = .next u ∧ u.portUp p = false ∧ u.get RNG_ST_STATE = 0 ∧ OnlyChanges [.clk, .ring, .sets] [RNG_ST] s u) ∧
  (∀ (dt : Nat) (p : Fin 2) (s : State), s.portUp p = true → s.get RNG_CFG_ROLE = 1 → s.portUp (1 - p.val) = true → 
      ∃ u, exec (.linkDown dt p) s = .next u ∧ u.portUp p = false ∧ u.portUp (1 - p.val) = true ∧ u.get RNG_ST_STATE = s.get RNG_ST_STATE ∧ u.ring.broken = (s.ring.broken || decide (s.get RNG_ST_STATE = 2)) ∧ OnlyChanges [.clk, .ring, .sets] [RNG_ST] s u) ∧
  (∀ (dt : Nat) (p : Fin 2) (s : State), s.portUp p = true → s.get RNG_CFG_ROLE ≠ 1 → 
      ∃ u, exec (.linkDown dt p) s = .next u ∧ u.portUp p = false ∧ u.portUp (1 - p.val) = s.portUp (1 - p.val) ∧ u.get RNG_ST_STATE = s.get RNG_ST_STATE ∧ OnlyChanges [.clk, .sets] [RNG_ST] s u) ∧
  (∀ (dt : Nat) (s : State), 
      ∃ u, exec (.leave dt) s = .next u ∧ u.get RNG_ST_READY = 0 ∧ u.get RNG_ST_BYP = 1 ∧ u.portUp 0 = false ∧ u.portUp 1 = false ∧ (s.get RNG_CFG_ROLE = 1 → s.portUp 0 = true ∨ s.portUp 1 = true → u.get RNG_ST_STATE = 0) ∧ OnlyChanges [.clk, .ring, .sets] [RNG_ST] s u) ∧
  (∀ (dt : Nat) (s : State), 
      ∃ u, exec (.ringClockLoss dt true) s = .next u ∧ u.get RNG_ST_READY = 0 ∧ u.get RNG_ST_BYP = 1 ∧ u.portUp 0 = false ∧ u.portUp 1 = false ∧ (s.get RNG_CFG_ROLE = 1 → s.portUp 0 = true ∨ s.portUp 1 = true → u.get RNG_ST_STATE = 0) ∧ OnlyChanges [.clk, .ring, .sets] [RNG_ST] s u ∧ u.ring.clkLost = true) ∧
  (∀ (dt : Nat) (s : State), 
      ∃ u, exec (.ringClockLoss dt false) s = .next u ∧ u.ring.clkLost = false ∧ OnlyChanges [.clk, .ring, .sets] [] s u) ∧
  (∀ (dt : Nat) (p : Fin 2) (e : BitVec 16) (src : BitVec 48) (s : State), ((s.get RNG_ST_READY = 1 ∧ s.ring.clkLost = false)) → s.portUp p = true → e.toNat ≠ s.get RNG_ETYPE_ETYPE → 
      ∃ u, exec (.foreignFrame dt p e src) s = .next u ∧ u.get RNG_ERR_FOREIGN = min (s.get RNG_ERR_FOREIGN + 1) 255 ∧ OnlyChanges [.clk, .sets] [RNG_ERR] s u) ∧
  (∀ (dt : Nat) (p : Fin 2) (e : BitVec 16) (src : BitVec 48) (s : State), ((s.get RNG_ST_READY = 1 ∧ s.ring.clkLost = false)) → s.portUp p = true → e.toNat = s.get RNG_ETYPE_ETYPE → s.get RNG_CFG_ROLE = 1 → src.toNat ≠ s.rd64 RNG_MAC % 2 ^ 48 → 
      ∃ u, exec (.foreignFrame dt p e src) s = .next u ∧ u.get RNG_ERR_FOREIGN = min (s.get RNG_ERR_FOREIGN + 1) 255 ∧ u.rd (ERR_PRES 0x18) = (s.rd (ERR_PRES 0x18) + 1) % 2 ^ 32 ∧ OnlyChanges [.clk, .log, .reg .err, .sets] [RNG_ERR] s u) ∧
  (∀ (dt : Nat) (p : Fin 2) (e : BitVec 16) (src : BitVec 48) (s : State), (¬ (s.get RNG_ST_READY = 1 ∧ s.ring.clkLost = false) ∨ s.portUp p = false ∨ e.toNat = s.get RNG_ETYPE_ETYPE ∧ (s.get RNG_CFG_ROLE ≠ 1 ∨ src.toNat = s.rd64 RNG_MAC % 2 ^ 48)) → 
      ∃ u, exec (.foreignFrame dt p e src) s = .next u ∧ u = (s.elapse dt)) ∧
  (∀ (dt : Nat) (b : Fin 32) (s : State), 
      ∃ u, exec (.svrel dt b) s = .next u ∧ b.val ∉ u.ring.svUse ∧ (∀ x : Fin 32, x ≠ b → (x.val ∈ u.ring.svUse ↔ x.val ∈ s.ring.svUse)) ∧ u.get RNG_SVQ_FREE = (32 - u.ring.svUse.length) % 64 ∧ OnlyChanges [.clk, .ring, .sets] [RNG_SVQ] s u)

/-- The cycle of the master, lost members and a lost ring. At SO the master sends its cycle frames, on port B alone in RING and on every port that is up in SPLIT and LINE, and CLOSE in SPLIT. A returned slice with SEEN is taken once; a subaxis in FAULT faults its axis with cause 0x0D, an acknowledged enable completes it. At the deadline a member whose slice has not returned is missed, and a run of CLOSE frames is broken. A boundary counts the cycle and enters SPLIT after a break and RING after 4 CLOSE returns. A member missed LOSTMAX times is LOST with cause 0x0C, and a member without its slice for MISSMAX cycles latches 0x0C. Frames with a wrong FCS, without a buffer or of another cycle are not taken. -/
def Obligations.RingCycles : Prop :=
  (∀ (dt : Nat) (s : State), (¬ (s.get RNG_CFG_ROLE ≠ 0 ∧ s.ring.clkLost = false ∧ (s.get CFG_STATE_STATE = 8 ∨ s.get CFG_STATE_STATE = 9) ∧ (s.elapse dt).atBoundary s.ringCycle = true)) → 
      ∃ u, exec (.ringCycleBoundary dt) s = .next u ∧ u = (s.elapse dt)) ∧
  (∀ (dt : Nat) (s : State), ((s.get RNG_CFG_ROLE ≠ 0 ∧ s.ring.clkLost = false ∧ (s.get CFG_STATE_STATE = 8 ∨ s.get CFG_STATE_STATE = 9) ∧ (s.elapse dt).atBoundary s.ringCycle = true)) → s.get RNG_CFG_ROLE = 1 → s.ring.judged = true → s.get RNG_ST_STATE = 2 → s.ring.broken = true → 
      ∃ u, exec (.ringCycleBoundary dt) s = .next u ∧ u.rd RNG_CYCNT = (s.rd RNG_CYCNT + 1) % 2 ^ 32 ∧ u.get RNG_ST_STATE = 3 ∧ u.get RNG_ST_BREAKS = min (s.get RNG_ST_BREAKS + 1) 255 ∧ u.get RNG_ST_CRUN = 0 ∧ u.ring.discover = true ∧ u.ring.sent = [] ∧ u.ring.back = [] ∧ u.ring.judged = false ∧ u.get (KNL_EVB_FIRES 0x52) = (s.get (KNL_EVB_FIRES 0x52) + 1) % 65536) ∧
  (∀ (dt : Nat) (s : State), ((s.get RNG_CFG_ROLE ≠ 0 ∧ s.ring.clkLost = false ∧ (s.get CFG_STATE_STATE = 8 ∨ s.get CFG_STATE_STATE = 9) ∧ (s.elapse dt).atBoundary s.ringCycle = true)) → s.get RNG_CFG_ROLE = 1 → s.ring.judged = true → s.get RNG_ST_STATE = 3 → s.get RNG_ST_CRUN = 4 → 
      ∃ u, exec (.ringCycleBoundary dt) s = .next u ∧ u.rd RNG_CYCNT = (s.rd RNG_CYCNT + 1) % 2 ^ 32 ∧ u.get RNG_ST_STATE = 2 ∧ u.ring.discover = true ∧ u.get RNG_ST_BREAKS = s.get RNG_ST_BREAKS ∧ u.get (KNL_EVB_FIRES 0x52) = (s.get (KNL_EVB_FIRES 0x52) + 1) % 65536) ∧
  (∀ (dt : Nat) (s : State), ((s.get RNG_CFG_ROLE ≠ 0 ∧ s.ring.clkLost = false ∧ (s.get CFG_STATE_STATE = 8 ∨ s.get CFG_STATE_STATE = 9) ∧ (s.elapse dt).atBoundary s.ringCycle = true)) → s.get RNG_CFG_ROLE = 1 → s.ring.judged = true → (¬ (s.get RNG_ST_STATE = 2 ∧ s.ring.broken = true) ∧ ¬ (s.get RNG_ST_STATE = 3 ∧ s.get RNG_ST_CRUN = 4)) → 
      ∃ u, exec (.ringCycleBoundary dt) s = .next u ∧ u.rd RNG_CYCNT = (s.rd RNG_CYCNT + 1) % 2 ^ 32 ∧ u.get RNG_ST_STATE = s.get RNG_ST_STATE ∧ u.get RNG_ST_BREAKS = s.get RNG_ST_BREAKS ∧ u.get (KNL_EVB_FIRES 0x52) = (s.get (KNL_EVB_FIRES 0x52) + 1) % 65536) ∧
  (∀ (dt : Nat) (k : Fin 16) (n : Fin 32) (s : State), ((s.get RNG_CFG_ROLE ≠ 0 ∧ s.ring.clkLost = false ∧ (s.get CFG_STATE_STATE = 8 ∨ s.get CFG_STATE_STATE = 9) ∧ (s.elapse dt).atBoundary s.ringCycle = true)) → s.get RNG_CFG_ROLE = 2 → s.subAxis k = some n.val → 
      ∃ u, exec (.ringCycleBoundary dt) s = .next u ∧ u.rd RNG_CYCNT = (s.rd RNG_CYCNT + 1) % 2 ^ 32 ∧ (u.ring.missed = (if s.ring.got = true then 0 else s.ring.missed + 1)) ∧ u.ring.got = false ∧ leAtS (tabGet [] u.ring.inputs k) 0 8 = signed 64 (unsigned 64 (u.measPos n)) ∧ leAt (tabGet [] u.ring.inputs k) 8 2 = u.axState n * 8192 + u.get (PRF_AXST_REF n) * 4096 + tabGet 0 u.ring.acks k % 16 * 256 + u.get (PRF_AXST_CAUSE n) ∧ u.ring.newSet = [] ∧ (s.ring.cmt = some ((s.rd RNG_CYCNT + 1) % 2 ^ 32) → u.ring.stage = [] ∧ u.ring.cmt = none)) ∧
  (∀ (dt : Nat) (s : State), (¬ ((s.get RNG_ST_READY = 1 ∧ s.ring.clkLost = false) ∧ s.get RNG_CFG_ROLE = 1 ∧ s.ring.sent = [] ∧ s.rd RNG_CYC ≠ 0 ∧ (s.elapse dt).clk.ns % s.rd RNG_CYC = (s.rd RNG_SOFS + s.rd RNG_CYC - s.profilePeriod))) → 
      ∃ u, exec (.ringCycleSend dt) s = .next u ∧ u = (s.elapse dt)) ∧
  (∀ (dt : Nat) (f : Fin 8) (s : State), (((s.get RNG_ST_READY = 1 ∧ s.ring.clkLost = false) ∧ s.get RNG_CFG_ROLE = 1 ∧ s.ring.sent = [] ∧ s.rd RNG_CYC ≠ 0 ∧ (s.elapse dt).clk.ns % s.rd RNG_CYC = (s.rd RNG_SOFS + s.rd RNG_CYC - s.profilePeriod))) → s.get RNG_ST_STATE = 2 → f ≤ s.get RNG_CFG_NFR → 
      ∃ u, exec (.ringCycleSend dt) s = .next u ∧ f.val ∈ u.ring.sent ∧ (∃ x, x ∈ u.ring.tx ∧ x.port = 1 ∧ x.ok = true ∧ leAt x.data 1 1 = 1 ∧ leAt x.data 3 1 = f + 16 * s.get RNG_CFG_NFR ∧ leAt x.data 4 4 = s.rd RNG_CYCNT ∧ bit (leAt x.data 2 1) 0 = false) ∧ (∀ x, x ∈ u.ring.tx → x ∈ s.ring.tx ∨ x.port = 1) ∧ u.ring.closeSent = s.ring.closeSent) ∧
  (∀ (dt : Nat) (f : Fin 8) (p : Fin 2) (s : State), (((s.get RNG_ST_READY = 1 ∧ s.ring.clkLost = false) ∧ s.get RNG_CFG_ROLE = 1 ∧ s.ring.sent = [] ∧ s.rd RNG_CYC ≠ 0 ∧ (s.elapse dt).clk.ns % s.rd RNG_CYC = (s.rd RNG_SOFS + s.rd RNG_CYC - s.profilePeriod))) → (s.get RNG_ST_STATE = 1 ∨ s.get RNG_ST_STATE = 3) → f ≤ s.get RNG_CFG_NFR → s.portUp p = true → 
      ∃ u, exec (.ringCycleSend dt) s = .next u ∧ f.val ∈ u.ring.sent ∧ (∃ x, x ∈ u.ring.tx ∧ x.port = p ∧ x.ok = true ∧ leAt x.data 1 1 = 1 ∧ leAt x.data 3 1 = f + 16 * s.get RNG_CFG_NFR ∧ leAt x.data 4 4 = s.rd RNG_CYCNT ∧ bit (leAt x.data 2 1) 0 = false) ∧ (∀ x, x ∈ u.ring.tx → x ∈ s.ring.tx ∨ s.portUp x.port = true)) ∧
  (∀ (dt : Nat) (s : State), (((s.get RNG_ST_READY = 1 ∧ s.ring.clkLost = false) ∧ s.get RNG_CFG_ROLE = 1 ∧ s.ring.sent = [] ∧ s.rd RNG_CYC ≠ 0 ∧ (s.elapse dt).clk.ns % s.rd RNG_CYC = (s.rd RNG_SOFS + s.rd RNG_CYC - s.profilePeriod))) → s.get RNG_ST_STATE = 3 → s.portUp 1 = true → s.ring.discover = false → s.rd RNG_CYCNT % 64 ≠ 0 → s.get RNG_CFG_TOPO = 0 → 
      ∃ u, exec (.ringCycleSend dt) s = .next u ∧ u.ring.closeSent = true ∧ ((u.ring.tx.getLast?).map (fun x => (x.port, leAt x.data 1 1, leAt x.data 0x16 2)) = some (1, 4, 0))) ∧
  (∀ (dt : Nat) (e : MapEntry) (s : State), (((s.get RNG_ST_READY = 1 ∧ s.ring.clkLost = false) ∧ s.get RNG_CFG_ROLE = 1 ∧ s.ring.sent = [] ∧ s.rd RNG_CYC ≠ 0 ∧ (s.elapse dt).clk.ns % s.rd RNG_CYC = (s.rd RNG_SOFS + s.rd RNG_CYC - s.profilePeriod))) → s.get RNG_ST_STATE = 2 → s.ring.map = [e] → e.frame = 0 → s.get RNG_CFG_NFR = 0 → e.addr < 256 → e.nsub ≤ 16 → e.fofs + 3 ≤ s.ring.flen.getD 0 0 → 
      ∃ u, exec (.ringCycleSend dt) s = .next u ∧ (∃ x, x ∈ u.ring.tx ∧ leAt x.data 1 1 = 1 ∧ leAt x.data (24 + e.fofs) 1 = e.addr ∧ leAt x.data (24 + e.fofs + 1) 1 = b2n s.lastCycle + 2 * b2n (decide (s.get (RNG_MST_STATE e.addr) = 3)) + 4 * b2n e.safe ∧ leAt x.data (24 + e.fofs + 2) 1 = e.nsub)) ∧
  (∀ (dt : Nat) (s : State), (¬ (s.get RNG_CFG_ROLE = 1 ∧ s.rd RNG_CYC ≠ 0 ∧ s.rd RNG_CYC ≤ (s.elapse dt).clk.ns % s.rd RNG_CYC + 1000) ∨ s.ring.judged = true) → 
      ∃ u, exec (.frameMissing dt) s = .next u ∧ u = (s.elapse dt)) ∧
  (∀ (dt : Nat) (s : State), ((s.get RNG_CFG_ROLE = 1 ∧ s.rd RNG_CYC ≠ 0 ∧ s.rd RNG_CYC ≤ (s.elapse dt).clk.ns % s.rd RNG_CYC + 1000)) → s.ring.judged = false → ((s.ring.map.map (fun e => e.addr)).Nodup) → (∀ e, e ∈ s.ring.map → e.addr < 256) → 
      ∃ u, exec (.frameMissing dt) s = .next u ∧ u.ring.judged = true ∧ (∀ e, e ∈ s.ring.map → (s.ringMem e.addr).seen = true → u.get (RNG_MST_MISS e.addr) = 0) ∧ (∀ e, e ∈ s.ring.map → (s.ringMem e.addr).seen = false → u.get (RNG_MST_MISS e.addr) = min (s.get (RNG_MST_MISS e.addr) + 1) 15 ∧ u.rd (RNG_MMISS e.addr) = (s.rd (RNG_MMISS e.addr) + 1) % 2 ^ 32) ∧ (u.get RNG_ST_CRUN = (if s.ring.closeSent = true ∧ s.ring.closeBack = false then 0 else s.get RNG_ST_CRUN)) ∧ (u.ring.broken = (s.ring.broken || (decide (s.get RNG_ST_STATE = 2) && s.ring.sent.any fun f => !(s.ring.back.contains f)))) ∧ OnlyChanges [.clk, .ring, .reg .rng, .sets] [] s u) ∧
  (∀ (dt : Nat) (p : Fin 2) (ok : Bool) (d : List Byte) (s : State), (¬ ((s.get RNG_ST_READY = 1 ∧ s.ring.clkLost = false) ∧ s.get RNG_CFG_ROLE = 1 ∧ s.portUp p = true)) → 
      ∃ u, exec (.cycleReturn dt p ok d) s = .next u ∧ u = (s.elapse dt)) ∧
  (∀ (dt : Nat) (p : Fin 2) (ok : Bool) (d : List Byte) (s : State), (((s.get RNG_ST_READY = 1 ∧ s.ring.clkLost = false) ∧ s.get RNG_CFG_ROLE = 1 ∧ s.portUp p = true)) → (64 ≤ (s.ring.bufs.filter (fun b => decide ((s.elapse dt).quarter < b.2))).length) → 
      ∃ u, exec (.cycleReturn dt p ok d) s = .next u ∧ u.get RNG_ERR_NOBUF = min (s.get RNG_ERR_NOBUF + 1) 255 ∧ u.ring.tx = s.ring.tx ∧ OnlyChanges [.clk, .ring, .log, .reg .err, .sets] [RNG_ERR, RNG_BUFA, RNG_BUFB] s u) ∧
  (∀ (dt : Nat) (p : Fin 2) (d : List Byte) (s : State), (((s.get RNG_ST_READY = 1 ∧ s.ring.clkLost = false) ∧ s.get RNG_CFG_ROLE = 1 ∧ s.portUp p = true)) → ((s.ring.bufs.filter (fun b => decide ((s.elapse dt).quarter < b.2))).length < 64) → 
      ∃ u, exec (.cycleReturn dt p false d) s = .next u ∧ u.get RNG_ERR_FCS = min (s.get RNG_ERR_FCS + 1) 65535 ∧ u.ring.mems = s.ring.mems ∧ u.ring.back = s.ring.back ∧ OnlyChanges [.clk, .ring, .sets] [RNG_ERR, RNG_BUFA, RNG_BUFB] s u) ∧
  (∀ (dt : Nat) (p : Fin 2) (d : List Byte) (s : State), (((s.get RNG_ST_READY = 1 ∧ s.ring.clkLost = false) ∧ s.get RNG_CFG_ROLE = 1 ∧ s.portUp p = true)) → ((s.ring.bufs.filter (fun b => decide ((s.elapse dt).quarter < b.2))).length < 64) → leAt d 4 4 ≠ s.rd RNG_CYCNT → 
      ∃ u, exec (.cycleReturn dt p true d) s = .next u ∧ u.ring.mems = s.ring.mems ∧ u.ring.back = s.ring.back ∧ OnlyChanges [.clk, .ring, .sets] [RNG_BUFA, RNG_BUFB] s u) ∧
  (∀ (dt : Nat) (p : Fin 2) (d : List Byte) (e : MapEntry) (s : State), (((s.get RNG_ST_READY = 1 ∧ s.ring.clkLost = false) ∧ s.get RNG_CFG_ROLE = 1 ∧ s.portUp p = true)) → ((s.ring.bufs.filter (fun b => decide ((s.elapse dt).quarter < b.2))).length < 64) → leAt d 4 4 = s.rd RNG_CYCNT → leAt d 3 1 % 8 = 0 → s.ring.map = [e] → e.frame = 0 → e.addr < 256 → e.fofs + sliceLen e.nsub e.safe + 24 ≤ d.length → 1 ≤ e.nsub → bit (leAt d ((24 + e.fofs) + 1) 1) 7 = true → leAt d (24 + e.fofs) 1 = e.addr → (s.ringMem e.addr).seen = false → 
      ∃ u, exec (.cycleReturn dt p true d) s = .next u ∧ (u.ringMem e.addr).seen = true ∧ (u.ringMem e.addr).slice = slice d (24 + e.fofs) (sliceLen e.nsub e.safe) ∧ u.get RNG_ST_HITS = leAt d 0x14 1 ∧ (bit (leAt d 2 1) 0 = false → p.val = 0 → 0 ∈ u.ring.back)) ∧
  (∀ (dt : Nat) (p : Fin 2) (d : List Byte) (e : MapEntry) (n : Fin 256) (s : State), (((s.get RNG_ST_READY = 1 ∧ s.ring.clkLost = false) ∧ s.get RNG_CFG_ROLE = 1 ∧ s.portUp p = true)) → ((s.ring.bufs.filter (fun b => decide ((s.elapse dt).quarter < b.2))).length < 64) → leAt d 4 4 = s.rd RNG_CYCNT → leAt d 3 1 % 8 = 0 → s.ring.map = [e] → e.frame = 0 → e.addr < 256 → e.nsub = 1 → e.fofs + sliceLen e.nsub e.safe + 24 ≤ d.length → bit (leAt d ((24 + e.fofs) + 1) 1) 7 = true → leAt d (24 + e.fofs) 1 = e.addr → (s.ringMem e.addr).seen = false → s.memberAxis e.addr 0 = some n.val → (leAt d ((24 + e.fofs) + 32) 2) / 8192 = 6 → 1 ≤ s.axState n → s.axState n ≤ 5 → 
      ∃ u, exec (.cycleReturn dt p true d) s = .next u ∧ (u.axis n).apos = leAtS d ((24 + e.fofs) + 24) 8 ∧ u.axState n = 6 ∧ u.get (PRF_AXST_CAUSE n) = 0x0D) ∧
  (∀ (dt : Nat) (p : Fin 2) (d : List Byte) (e : MapEntry) (n : Fin 256) (q : Nat) (s : State), (((s.get RNG_ST_READY = 1 ∧ s.ring.clkLost = false) ∧ s.get RNG_CFG_ROLE = 1 ∧ s.portUp p = true)) → ((s.ring.bufs.filter (fun b => decide ((s.elapse dt).quarter < b.2))).length < 64) → leAt d 4 4 = s.rd RNG_CYCNT → leAt d 3 1 % 8 = 0 → s.ring.map = [e] → e.frame = 0 → e.addr < 256 → e.nsub = 1 → e.fofs + sliceLen e.nsub e.safe + 24 ≤ d.length → bit (leAt d ((24 + e.fofs) + 1) 1) 7 = true → leAt d (24 + e.fofs) 1 = e.addr → (s.ringMem e.addr).seen = false → s.memberAxis e.addr 0 = some n.val → s.axState n = 1 → tabGet (0, 0) s.ring.axReq n = (q, 1) → (leAt d ((24 + e.fofs) + 32) 2) / 256 % 16 = q → 2 ≤ (leAt d ((24 + e.fofs) + 32) 2) / 8192 → (leAt d ((24 + e.fofs) + 32) 2) / 8192 ≤ 5 → 
      ∃ u, exec (.cycleReturn dt p true d) s = .next u ∧ (u.axis n).apos = leAtS d ((24 + e.fofs) + 24) 8 ∧ u.axState n = 2 ∧ u.get (PRF_AXST_REF n) = (leAt d ((24 + e.fofs) + 32) 2) / 4096 % 2) ∧
  (∀ (dt : Nat) (p : Fin 2) (d : List Byte) (s : State), (((s.get RNG_ST_READY = 1 ∧ s.ring.clkLost = false) ∧ s.get RNG_CFG_ROLE = 1 ∧ s.portUp p = true)) → ((s.ring.bufs.filter (fun b => decide ((s.elapse dt).quarter < b.2))).length < 64) → leAt d 4 4 = s.rd RNG_CYCNT → p.val = 0 → bit (leAt d 2 1) 0 = false → s.ring.closeSent = true → s.ring.closeBack = false → 
      ∃ u, exec (.closeReturn dt p true d) s = .next u ∧ u.get RNG_ST_CRUN = min 4 (s.get RNG_ST_CRUN + 1) ∧ u.ring.closeBack = true ∧ u.get RNG_ST_STATE = s.get RNG_ST_STATE) ∧
  (∀ (dt : Nat) (p : Fin 2) (d : List Byte) (s : State), (((s.get RNG_ST_READY = 1 ∧ s.ring.clkLost = false) ∧ s.get RNG_CFG_ROLE = 1 ∧ s.portUp p = true)) → ((s.ring.bufs.filter (fun b => decide ((s.elapse dt).quarter < b.2))).length < 64) → (leAt d 4 4 ≠ s.rd RNG_CYCNT ∨ p.val = 1 ∨ bit (leAt d 2 1) 0 = true ∨ s.ring.closeSent = false ∨ s.ring.closeBack = true) → 
      ∃ u, exec (.closeReturn dt p true d) s = .next u ∧ u.get RNG_ST_CRUN = s.get RNG_ST_CRUN ∧ u.ring.closeBack = s.ring.closeBack ∧ u.get RNG_ST_STATE = s.get RNG_ST_STATE) ∧
  (∀ (dt : Nat) (p : Fin 2) (d : List Byte) (s : State), (((s.get RNG_ST_READY = 1 ∧ s.ring.clkLost = false) ∧ s.get RNG_CFG_ROLE = 1 ∧ s.portUp p = true)) → ((s.ring.bufs.filter (fun b => decide ((s.elapse dt).quarter < b.2))).length < 64) → 
      ∃ u, exec (.closeReturn dt p false d) s = .next u ∧ u.get RNG_ST_CRUN = s.get RNG_ST_CRUN ∧ u.get RNG_ERR_FCS = min (s.get RNG_ERR_FCS + 1) 65535) ∧
  (∀ (dt : Nat) (m : Fin 256) (n : Fin 256) (s : State), ((s.get RNG_CFG_ROLE = 1 ∧ s.get (RNG_MST_STATE m) ≠ 0 ∧ s.get (RNG_MST_STATE m) ≠ 5 ∧ s.get RNG_CFG_LOSTMAX ≤ s.get (RNG_MST_MISS m))) → n.val ∈ s.memberAxes m → 1 ≤ s.axState n → s.axState n ≤ 5 → 
      ∃ u, exec (.memberLost dt m) s = .next u ∧ u.get (RNG_MST_STATE m) = 5 ∧ u.get (RNG_MST_QR m) = 0 ∧ (u.ringMem m).reqs = [] ∧ (∀ y : Fin 256, y ≠ m → u.get (RNG_MST_STATE y) = s.get (RNG_MST_STATE y)) ∧ u.axState n = 6 ∧ (s.memberAxes m = [n.val] → u.get (PRF_AXST_CAUSE n) = 0x0C)) ∧
  (∀ (dt : Nat) (m : Fin 256) (s : State), ((s.get RNG_CFG_ROLE = 1 ∧ s.get (RNG_MST_STATE m) ≠ 0 ∧ s.get (RNG_MST_STATE m) ≠ 5 ∧ s.get RNG_CFG_LOSTMAX ≤ s.get (RNG_MST_MISS m))) → (∀ n, n ∈ s.memberAxes m → s.axState n = 0) → 
      ∃ u, exec (.memberLost dt m) s = .next u ∧ u.get (RNG_MST_STATE m) = 5 ∧ u.get (RNG_MST_QR m) = 0 ∧ (u.ringMem m).reqs = [] ∧ (∀ y : Fin 256, y ≠ m → u.get (RNG_MST_STATE y) = s.get (RNG_MST_STATE y)) ∧ (∀ n, n ∈ s.memberAxes m → u.axState n = 0)) ∧
  (∀ (dt : Nat) (m : Fin 256) (s : State), (¬ (s.get RNG_CFG_ROLE = 1 ∧ s.get (RNG_MST_STATE m) ≠ 0 ∧ s.get (RNG_MST_STATE m) ≠ 5 ∧ s.get RNG_CFG_LOSTMAX ≤ s.get (RNG_MST_MISS m))) → 
      ∃ u, exec (.memberLost dt m) s = .next u ∧ u = (s.elapse dt)) ∧
  (∀ (dt : Nat) (k : Fin 16) (n : Fin 32) (s : State), ((s.get RNG_CFG_ROLE = 2 ∧ s.ring.lossDone = false ∧ max 1 (s.get RNG_CFG_MISSMAX) ≤ s.ring.missed)) → s.subAxis k = some n.val → 1 ≤ s.axState n → s.axState n ≤ 5 → 
      ∃ u, exec (.lossOfRing dt) s = .next u ∧ u.ring.lossDone = true ∧ u.axState n = 6 ∧ ((∀ j : Fin 16, s.subAxis j = some n.val ∨ s.subAxis j = none) → u.get (PRF_AXST_CAUSE n) = 0x0C)) ∧
  (∀ (dt : Nat) (s : State), (¬ (s.get RNG_CFG_ROLE = 2 ∧ s.ring.lossDone = false ∧ max 1 (s.get RNG_CFG_MISSMAX) ≤ s.ring.missed)) → 
      ∃ u, exec (.lossOfRing dt) s = .next u ∧ u = (s.elapse dt))

/-- Discovery, identity, parameters and quarantine at the master. A member that a returned DISCOVER shows becomes SEEN from ABSENT or LOST and is asked for its IDENT; one marked in DUP is quarantined. Its IDENT leads to RUN, PARAM or QUARANTINED with the reason of R399; the last acknowledged block leads to RUN when PCRC is as expected; a refused or late block quarantines it with 0x6. REPARAM sends the blocks of a member quarantined for 0x3 or 0x6 again, and is an access error otherwise. An unanswered request is repeated three times and then counted in SVTO. A message that finds no buffer is lost and leaves its request. -/
def Obligations.RingMembership : Prop :=
  (∀ (dt : Nat) (p : Fin 2) (d : List Byte) (e : MapEntry) (m : Fin 256) (s : State), (((s.get RNG_ST_READY = 1 ∧ s.ring.clkLost = false) ∧ s.get RNG_CFG_ROLE = 1 ∧ s.portUp p = true)) → ((s.ring.bufs.filter (fun b => decide ((s.elapse dt).quarter < b.2))).length < 64) → s.ring.map = [e] → e.addr = m.val → bit (leAt d (28 + m.val / 8) 1) (m.val % 8) = true → bit (leAt d (60 + m.val / 8) 1) (m.val % 8) = false → (s.get (RNG_MST_STATE m) = 0 ∨ s.get (RNG_MST_STATE m) = 5) → 
      ∃ u, exec (.discoverReturn dt p true d) s = .next u ∧ u.get (RNG_MST_STATE m) = 1 ∧ (((u.ringMem m).reqs.getLast?).map (fun q => (q.dest, q.mtype, q.sends, q.seq)) = some ((if m.val = 0 then 0xFF else m.val), 1, 0, s.ring.mseq)) ∧ u.get (RNG_MST_PORT m) = b2n (decide (sentPort p d = 0))) ∧
  (∀ (dt : Nat) (p : Fin 2) (d : List Byte) (e : MapEntry) (m : Fin 256) (s : State), (((s.get RNG_ST_READY = 1 ∧ s.ring.clkLost = false) ∧ s.get RNG_CFG_ROLE = 1 ∧ s.portUp p = true)) → ((s.ring.bufs.filter (fun b => decide ((s.elapse dt).quarter < b.2))).length < 64) → s.ring.map = [e] → e.addr = m.val → bit (leAt d (28 + m.val / 8) 1) (m.val % 8) = true → bit (leAt d (60 + m.val / 8) 1) (m.val % 8) = true → 
      ∃ u, exec (.discoverReturn dt p true d) s = .next u ∧ u.get (RNG_MST_STATE m) = 4 ∧ u.get (RNG_MST_QR m) = 4 ∧ (u.ringMem m).reqs = []) ∧
  (∀ (dt : Nat) (p : Fin 2) (d : List Byte) (e : MapEntry) (m : Fin 256) (s : State), (((s.get RNG_ST_READY = 1 ∧ s.ring.clkLost = false) ∧ s.get RNG_CFG_ROLE = 1 ∧ s.portUp p = true)) → ((s.ring.bufs.filter (fun b => decide ((s.elapse dt).quarter < b.2))).length < 64) → s.ring.map = [e] → e.addr = m.val → (bit (leAt d (28 + m.val / 8) 1) (m.val % 8) = false ∨ bit (leAt d (60 + m.val / 8) 1) (m.val % 8) = false ∧ s.get (RNG_MST_STATE m) ≠ 0 ∧ s.get (RNG_MST_STATE m) ≠ 5) → 
      ∃ u, exec (.discoverReturn dt p true d) s = .next u ∧ u.get (RNG_MST_STATE m) = s.get (RNG_MST_STATE m) ∧ u.ring.mems = s.ring.mems ∧ (u.get RNG_ST_UNK = min 0x3F ((List.range 256).filter fun x => bit (leAt d (28 + x / 8) 1) (x % 8) && decide (x ≠ m.val)).length)) ∧
  (∀ (dt : Nat) (p : Fin 2) (d : List Byte) (s : State), (((s.get RNG_ST_READY = 1 ∧ s.ring.clkLost = false) ∧ s.get RNG_CFG_ROLE = 1 ∧ s.portUp p = true)) → ((s.ring.bufs.filter (fun b => decide ((s.elapse dt).quarter < b.2))).length < 64) → 
      ∃ u, exec (.discoverReturn dt p false d) s = .next u ∧ u.get RNG_ERR_FCS = min (s.get RNG_ERR_FCS + 1) 65535 ∧ u.ring.mems = s.ring.mems) ∧
  (∀ (dt : Nat) (m : Fin 256) (t : Nat) (s : State), (s.ringMem m).owed ≠ [] → (s.ringMem m).owedAt = some t → t + 1100000000 ≤ (s.elapse dt).clk.elapsed → 
      ∃ u, exec (.paramAckTimeout dt m) s = .next u ∧ u.get (RNG_MST_STATE m) = 4 ∧ u.get (RNG_MST_QR m) = 6 ∧ (u.ringMem m).owed = [] ∧ (∀ n, n ∈ s.memberAxes m → u.axState n = 7)) ∧
  (∀ (dt : Nat) (m : Fin 256) (s : State), ((s.ringMem m).owed = [] ∨ (s.ringMem m).owedAt.all (fun t => decide ((s.elapse dt).clk.elapsed < t + 1100000000)) = true) → 
      ∃ u, exec (.paramAckTimeout dt m) s = .next u ∧ u = (s.elapse dt)) ∧
  (∀ (dt : Nat) (who : Accessor) (m : Fin 256) (s : State), ((s.get (RNG_MST_STATE m) = 4 ∧ (s.get (RNG_MST_QR m) = 3 ∨ s.get (RNG_MST_QR m) = 6))) → 
      ∃ u, exec (.reparam dt who m) s = .next u ∧ u.get (RNG_MST_STATE m) = 2 ∧ u.get (RNG_MST_QR m) = 0 ∧ (∀ n, n ∈ s.memberAxes m → s.axSubaxis n ∈ (u.ringMem m).owed) ∧ (∀ y : Fin 256, y ≠ m → u.get (RNG_MST_STATE y) = s.get (RNG_MST_STATE y) ∧ u.ringMem y = s.ringMem y) ∧ OnlyChanges [.clk, .axes, .ring, .sets] [RNG_MST m] s u) ∧
  (∀ (dt : Nat) (who : Accessor) (m : Fin 256) (s : State), (¬ (s.get (RNG_MST_STATE m) = 4 ∧ (s.get (RNG_MST_QR m) = 3 ∨ s.get (RNG_MST_QR m) = 6))) → 
      ∃ u, exec (.reparam dt who m) s = .next u ∧ u = (s.elapse dt).accessError who 4 (RNG_MCTL m) 1 ∧ u.get (RNG_MST_STATE m) = s.get (RNG_MST_STATE m)) ∧
  (∀ (dt : Nat) (p : Fin 2) (d : List Byte) (e : MapEntry) (m : Fin 256) (q : SvReq) (rest : List SvReq) (s : State), (((s.get RNG_ST_READY = 1 ∧ s.ring.clkLost = false) ∧ s.get RNG_CFG_ROLE = 1 ∧ s.portUp p = true)) → ((s.ring.bufs.filter (fun b => decide ((s.elapse dt).quarter < b.2))).length < 64) → leAt d 0x420 1 = m.val → m.val ≠ 0 → (s.ringMem m).reqs = q :: rest → q.sends ≠ 0 → q.seq = leAt d 0x424 2 → q.mtype = leAt d 0x421 1 → s.pushCheck 4 (s.get RNG_SVQ_Q) = 1 → s.qCap (s.get RNG_SVQ_Q) ≤ 32 → s.get (QUE_ST_DEPTH (s.get RNG_SVQ_Q)) + 1 ≤ s.qCap (s.get RNG_SVQ_Q) → (∃ b : Fin 32, b.val ∉ s.ring.svUse) → s.ring.map = [e] → e.addr = m.val → q.mtype = 1 → leAt d 0x426 1 = 0 → leAt d 0x428 4 = e.mident → leAt d 0x42C 4 = e.mcrc → e.nsub ≤ leAt d 0x434 1 → bit (leAt d 0x435 1) 1 = false → s.get (RNG_MST_STATE m) = 1 → bit (leAt d 0x435 1) 0 = false → leAt d 0x430 4 = s.rd (RNG_MEXP m) → 
      ∃ u, exec (.supervisoryReply dt p true d) s = .next u ∧ u.rd (RNG_MID m) = leAt d 0x428 4 ∧ u.rd (RNG_MBC m) = leAt d 0x42C 4 ∧ u.rd (RNG_MPC m) = leAt d 0x430 4 ∧ (u.ringMem m).reqs = rest ∧ u.get (RNG_MST_STATE m) = 3 ∧ u.get (RNG_MST_QR m) = 0 ∧ (∀ n, n ∈ u.memberAxes m → s.axState n = 7 → u.axState n = 0)) ∧
  (∀ (dt : Nat) (p : Fin 2) (d : List Byte) (e : MapEntry) (m : Fin 256) (q : SvReq) (rest : List SvReq) (s : State), (((s.get RNG_ST_READY = 1 ∧ s.ring.clkLost = false) ∧ s.get RNG_CFG_ROLE = 1 ∧ s.portUp p = true)) → ((s.ring.bufs.filter (fun b => decide ((s.elapse dt).quarter < b.2))).length < 64) → leAt d 0x420 1 = m.val → m.val ≠ 0 → (s.ringMem m).reqs = q :: rest → q.sends ≠ 0 → q.seq = leAt d 0x424 2 → q.mtype = leAt d 0x421 1 → s.pushCheck 4 (s.get RNG_SVQ_Q) = 1 → s.qCap (s.get RNG_SVQ_Q) ≤ 32 → s.get (QUE_ST_DEPTH (s.get RNG_SVQ_Q)) + 1 ≤ s.qCap (s.get RNG_SVQ_Q) → (∃ b : Fin 32, b.val ∉ s.ring.svUse) → s.ring.map = [e] → e.addr = m.val → q.mtype = 1 → leAt d 0x426 1 = 0 → leAt d 0x428 4 = e.mident → leAt d 0x42C 4 = e.mcrc → e.nsub ≤ leAt d 0x434 1 → bit (leAt d 0x435 1) 1 = false → s.get (RNG_MST_STATE m) = 1 → bit (leAt d 0x435 1) 0 = true → 
      ∃ u, exec (.supervisoryReply dt p true d) s = .next u ∧ u.rd (RNG_MID m) = leAt d 0x428 4 ∧ u.rd (RNG_MBC m) = leAt d 0x42C 4 ∧ u.rd (RNG_MPC m) = leAt d 0x430 4 ∧ u.get (RNG_MST_STATE m) = 2 ∧ (∀ n, n ∈ u.memberAxes m → u.axSubaxis n ∈ (u.ringMem m).owed)) ∧
  (∀ (dt : Nat) (p : Fin 2) (d : List Byte) (e : MapEntry) (m : Fin 256) (q : SvReq) (rest : List SvReq) (s : State), (((s.get RNG_ST_READY = 1 ∧ s.ring.clkLost = false) ∧ s.get RNG_CFG_ROLE = 1 ∧ s.portUp p = true)) → ((s.ring.bufs.filter (fun b => decide ((s.elapse dt).quarter < b.2))).length < 64) → leAt d 0x420 1 = m.val → m.val ≠ 0 → (s.ringMem m).reqs = q :: rest → q.sends ≠ 0 → q.seq = leAt d 0x424 2 → q.mtype = leAt d 0x421 1 → s.pushCheck 4 (s.get RNG_SVQ_Q) = 1 → s.qCap (s.get RNG_SVQ_Q) ≤ 32 → s.get (QUE_ST_DEPTH (s.get RNG_SVQ_Q)) + 1 ≤ s.qCap (s.get RNG_SVQ_Q) → (∃ b : Fin 32, b.val ∉ s.ring.svUse) → s.ring.map = [e] → e.addr = m.val → q.mtype = 1 → leAt d 0x426 1 = 0 → leAt d 0x428 4 = e.mident → leAt d 0x42C 4 = e.mcrc → e.nsub ≤ leAt d 0x434 1 → bit (leAt d 0x435 1) 1 = false → bit (leAt d 0x435 1) 0 = false → (s.get (RNG_MST_STATE m) = 1 ∨ s.get (RNG_MST_STATE m) = 3) → leAt d 0x430 4 ≠ s.rd (RNG_MEXP m) → 
      ∃ u, exec (.supervisoryReply dt p true d) s = .next u ∧ u.rd (RNG_MID m) = leAt d 0x428 4 ∧ u.rd (RNG_MBC m) = leAt d 0x42C 4 ∧ u.rd (RNG_MPC m) = leAt d 0x430 4 ∧ u.get (RNG_MST_STATE m) = 4 ∧ u.get (RNG_MST_QR m) = 3 ∧ (∀ n, n ∈ u.memberAxes m → u.axState n = 7)) ∧
  (∀ (dt : Nat) (p : Fin 2) (d : List Byte) (e : MapEntry) (m : Fin 256) (q : SvReq) (rest : List SvReq) (s : State), (((s.get RNG_ST_READY = 1 ∧ s.ring.clkLost = false) ∧ s.get RNG_CFG_ROLE = 1 ∧ s.portUp p = true)) → ((s.ring.bufs.filter (fun b => decide ((s.elapse dt).quarter < b.2))).length < 64) → leAt d 0x420 1 = m.val → m.val ≠ 0 → (s.ringMem m).reqs = q :: rest → q.sends ≠ 0 → q.seq = leAt d 0x424 2 → q.mtype = leAt d 0x421 1 → s.pushCheck 4 (s.get RNG_SVQ_Q) = 1 → s.qCap (s.get RNG_SVQ_Q) ≤ 32 → s.get (QUE_ST_DEPTH (s.get RNG_SVQ_Q)) + 1 ≤ s.qCap (s.get RNG_SVQ_Q) → (∃ b : Fin 32, b.val ∉ s.ring.svUse) → s.ring.map = [e] → e.addr = m.val → q.mtype = 1 → leAt d 0x426 1 = 0 → (1 ≤ s.get (RNG_MST_STATE m) ∧ s.get (RNG_MST_STATE m) ≤ 3) → leAt d 0x428 4 ≠ e.mident → 
      ∃ u, exec (.supervisoryReply dt p true d) s = .next u ∧ u.rd (RNG_MID m) = leAt d 0x428 4 ∧ u.rd (RNG_MBC m) = leAt d 0x42C 4 ∧ u.rd (RNG_MPC m) = leAt d 0x430 4 ∧ u.get (RNG_MST_STATE m) = 4 ∧ u.get (RNG_MST_QR m) = 1 ∧ (∀ n, n ∈ u.memberAxes m → u.axState n = 7)) ∧
  (∀ (dt : Nat) (p : Fin 2) (d : List Byte) (e : MapEntry) (m : Fin 256) (q : SvReq) (rest : List SvReq) (s : State), (((s.get RNG_ST_READY = 1 ∧ s.ring.clkLost = false) ∧ s.get RNG_CFG_ROLE = 1 ∧ s.portUp p = true)) → ((s.ring.bufs.filter (fun b => decide ((s.elapse dt).quarter < b.2))).length < 64) → leAt d 0x420 1 = m.val → m.val ≠ 0 → (s.ringMem m).reqs = q :: rest → q.sends ≠ 0 → q.seq = leAt d 0x424 2 → q.mtype = leAt d 0x421 1 → s.pushCheck 4 (s.get RNG_SVQ_Q) = 1 → s.qCap (s.get RNG_SVQ_Q) ≤ 32 → s.get (QUE_ST_DEPTH (s.get RNG_SVQ_Q)) + 1 ≤ s.qCap (s.get RNG_SVQ_Q) → (∃ b : Fin 32, b.val ∉ s.ring.svUse) → s.ring.map = [e] → e.addr = m.val → q.mtype = 1 → leAt d 0x426 1 = 0 → (1 ≤ s.get (RNG_MST_STATE m) ∧ s.get (RNG_MST_STATE m) ≤ 3) → leAt d 0x428 4 = e.mident → leAt d 0x42C 4 ≠ e.mcrc → 
      ∃ u, exec (.supervisoryReply dt p true d) s = .next u ∧ u.rd (RNG_MID m) = leAt d 0x428 4 ∧ u.rd (RNG_MBC m) = leAt d 0x42C 4 ∧ u.rd (RNG_MPC m) = leAt d 0x430 4 ∧ u.get (RNG_MST_STATE m) = 4 ∧ u.get (RNG_MST_QR m) = 2 ∧ (∀ n, n ∈ u.memberAxes m → u.axState n = 7)) ∧
  (∀ (dt : Nat) (p : Fin 2) (d : List Byte) (e : MapEntry) (m : Fin 256) (q : SvReq) (rest : List SvReq) (s : State), (((s.get RNG_ST_READY = 1 ∧ s.ring.clkLost = false) ∧ s.get RNG_CFG_ROLE = 1 ∧ s.portUp p = true)) → ((s.ring.bufs.filter (fun b => decide ((s.elapse dt).quarter < b.2))).length < 64) → leAt d 0x420 1 = m.val → m.val ≠ 0 → (s.ringMem m).reqs = q :: rest → q.sends ≠ 0 → q.seq = leAt d 0x424 2 → q.mtype = leAt d 0x421 1 → s.pushCheck 4 (s.get RNG_SVQ_Q) = 1 → s.qCap (s.get RNG_SVQ_Q) ≤ 32 → s.get (QUE_ST_DEPTH (s.get RNG_SVQ_Q)) + 1 ≤ s.qCap (s.get RNG_SVQ_Q) → (∃ b : Fin 32, b.val ∉ s.ring.svUse) → s.ring.map = [e] → e.addr = m.val → q.mtype = 1 → leAt d 0x426 1 = 0 → (1 ≤ s.get (RNG_MST_STATE m) ∧ s.get (RNG_MST_STATE m) ≤ 3) → leAt d 0x428 4 = e.mident → leAt d 0x42C 4 = e.mcrc → leAt d 0x434 1 < e.nsub → 
      ∃ u, exec (.supervisoryReply dt p true d) s = .next u ∧ u.rd (RNG_MID m) = leAt d 0x428 4 ∧ u.rd (RNG_MBC m) = leAt d 0x42C 4 ∧ u.rd (RNG_MPC m) = leAt d 0x430 4 ∧ u.get (RNG_MST_STATE m) = 4 ∧ u.get (RNG_MST_QR m) = 5 ∧ (∀ n, n ∈ u.memberAxes m → u.axState n = 7)) ∧
  (∀ (dt : Nat) (p : Fin 2) (d : List Byte) (e : MapEntry) (m : Fin 256) (q : SvReq) (rest : List SvReq) (s : State), (((s.get RNG_ST_READY = 1 ∧ s.ring.clkLost = false) ∧ s.get RNG_CFG_ROLE = 1 ∧ s.portUp p = true)) → ((s.ring.bufs.filter (fun b => decide ((s.elapse dt).quarter < b.2))).length < 64) → leAt d 0x420 1 = m.val → m.val ≠ 0 → (s.ringMem m).reqs = q :: rest → q.sends ≠ 0 → q.seq = leAt d 0x424 2 → q.mtype = leAt d 0x421 1 → s.pushCheck 4 (s.get RNG_SVQ_Q) = 1 → s.qCap (s.get RNG_SVQ_Q) ≤ 32 → s.get (QUE_ST_DEPTH (s.get RNG_SVQ_Q)) + 1 ≤ s.qCap (s.get RNG_SVQ_Q) → (∃ b : Fin 32, b.val ∉ s.ring.svUse) → s.ring.map = [e] → e.addr = m.val → q.mtype = 1 → leAt d 0x426 1 = 0 → (1 ≤ s.get (RNG_MST_STATE m) ∧ s.get (RNG_MST_STATE m) ≤ 3) → leAt d 0x428 4 = e.mident → leAt d 0x42C 4 = e.mcrc → e.nsub ≤ leAt d 0x434 1 → bit (leAt d 0x435 1) 1 = true → 
      ∃ u, exec (.supervisoryReply dt p true d) s = .next u ∧ u.rd (RNG_MID m) = leAt d 0x428 4 ∧ u.rd (RNG_MBC m) = leAt d 0x42C 4 ∧ u.rd (RNG_MPC m) = leAt d 0x430 4 ∧ u.get (RNG_MST_STATE m) = 4 ∧ u.get (RNG_MST_QR m) = 7 ∧ (∀ n, n ∈ u.memberAxes m → u.axState n = 7)) ∧
  (∀ (dt : Nat) (p : Fin 2) (d : List Byte) (m : Fin 256) (q : SvReq) (rest : List SvReq) (s : State), (((s.get RNG_ST_READY = 1 ∧ s.ring.clkLost = false) ∧ s.get RNG_CFG_ROLE = 1 ∧ s.portUp p = true)) → ((s.ring.bufs.filter (fun b => decide ((s.elapse dt).quarter < b.2))).length < 64) → leAt d 0x420 1 = m.val → m.val ≠ 0 → (s.ringMem m).reqs = q :: rest → q.sends ≠ 0 → q.seq = leAt d 0x424 2 → q.mtype = leAt d 0x421 1 → s.pushCheck 4 (s.get RNG_SVQ_Q) = 1 → s.qCap (s.get RNG_SVQ_Q) ≤ 32 → s.get (QUE_ST_DEPTH (s.get RNG_SVQ_Q)) + 1 ≤ s.qCap (s.get RNG_SVQ_Q) → (∃ b : Fin 32, b.val ∉ s.ring.svUse) → q.mtype = 2 → leAt q.data 1 1 = 0 → s.get (RNG_MST_STATE m) = 2 → leAt d 0x426 1 ≠ 0 → 
      ∃ u, exec (.supervisoryReply dt p true d) s = .next u ∧ u.get (RNG_MST_STATE m) = 4 ∧ u.get (RNG_MST_QR m) = 6 ∧ (∀ n, n ∈ u.memberAxes m → u.axState n = 7)) ∧
  (∀ (dt : Nat) (p : Fin 2) (d : List Byte) (m : Fin 256) (q : SvReq) (rest : List SvReq) (s : State), (((s.get RNG_ST_READY = 1 ∧ s.ring.clkLost = false) ∧ s.get RNG_CFG_ROLE = 1 ∧ s.portUp p = true)) → ((s.ring.bufs.filter (fun b => decide ((s.elapse dt).quarter < b.2))).length < 64) → leAt d 0x420 1 = m.val → m.val ≠ 0 → (s.ringMem m).reqs = q :: rest → q.sends ≠ 0 → q.seq = leAt d 0x424 2 → q.mtype = leAt d 0x421 1 → s.pushCheck 4 (s.get RNG_SVQ_Q) = 1 → s.qCap (s.get RNG_SVQ_Q) ≤ 32 → s.get (QUE_ST_DEPTH (s.get RNG_SVQ_Q)) + 1 ≤ s.qCap (s.get RNG_SVQ_Q) → (∃ b : Fin 32, b.val ∉ s.ring.svUse) → q.mtype = 2 → leAt q.data 1 1 = 0 → s.get (RNG_MST_STATE m) = 2 → leAt d 0x426 1 = 0 → ((s.ringMem m).owed.filter (fun x => decide (x ≠ leAt q.data 0 1)) = []) → leAt d 0x428 4 = s.rd (RNG_MEXP m) → 
      ∃ u, exec (.supervisoryReply dt p true d) s = .next u ∧ (u.ringMem m).reqs = rest ∧ u.get (RNG_MST_STATE m) = 3 ∧ u.rd (RNG_MPC m) = leAt d 0x428 4 ∧ (u.ringMem m).owed = []) ∧
  (∀ (dt : Nat) (p : Fin 2) (d : List Byte) (m : Fin 256) (q : SvReq) (rest : List SvReq) (s : State), (((s.get RNG_ST_READY = 1 ∧ s.ring.clkLost = false) ∧ s.get RNG_CFG_ROLE = 1 ∧ s.portUp p = true)) → ((s.ring.bufs.filter (fun b => decide ((s.elapse dt).quarter < b.2))).length < 64) → leAt d 0x420 1 = m.val → m.val ≠ 0 → (s.ringMem m).reqs = q :: rest → q.sends ≠ 0 → q.seq = leAt d 0x424 2 → q.mtype = leAt d 0x421 1 → s.pushCheck 4 (s.get RNG_SVQ_Q) = 1 → s.qCap (s.get RNG_SVQ_Q) ≤ 32 → s.get (QUE_ST_DEPTH (s.get RNG_SVQ_Q)) + 1 ≤ s.qCap (s.get RNG_SVQ_Q) → (∃ b : Fin 32, b.val ∉ s.ring.svUse) → q.mtype = 2 → leAt q.data 1 1 = 0 → s.get (RNG_MST_STATE m) = 2 → leAt d 0x426 1 = 0 → ((s.ringMem m).owed.filter (fun x => decide (x ≠ leAt q.data 0 1)) = []) → leAt d 0x428 4 ≠ s.rd (RNG_MEXP m) → 
      ∃ u, exec (.supervisoryReply dt p true d) s = .next u ∧ u.get (RNG_MST_STATE m) = 4 ∧ u.get (RNG_MST_QR m) = 3 ∧ (∀ n, n ∈ u.memberAxes m → u.axState n = 7)) ∧
  (∀ (dt : Nat) (p : Fin 2) (d : List Byte) (m : Fin 256) (q : SvReq) (rest : List SvReq) (s : State), (((s.get RNG_ST_READY = 1 ∧ s.ring.clkLost = false) ∧ s.get RNG_CFG_ROLE = 1 ∧ s.portUp p = true)) → ((s.ring.bufs.filter (fun b => decide ((s.elapse dt).quarter < b.2))).length < 64) → leAt d 0x420 1 = m.val → m.val ≠ 0 → (s.ringMem m).reqs = q :: rest → q.sends ≠ 0 → q.seq = leAt d 0x424 2 → q.mtype = leAt d 0x421 1 → s.pushCheck 4 (s.get RNG_SVQ_Q) = 1 → s.qCap (s.get RNG_SVQ_Q) ≤ 32 → s.get (QUE_ST_DEPTH (s.get RNG_SVQ_Q)) + 1 ≤ s.qCap (s.get RNG_SVQ_Q) → (∃ b : Fin 32, b.val ∉ s.ring.svUse) → q.mtype = 2 → leAt q.data 1 1 = 0 → s.get (RNG_MST_STATE m) = 2 → leAt d 0x426 1 = 0 → ((s.ringMem m).owed.filter (fun x => decide (x ≠ leAt q.data 0 1)) ≠ []) → 
      ∃ u, exec (.supervisoryReply dt p true d) s = .next u ∧ (u.ringMem m).reqs = rest ∧ u.get (RNG_MST_STATE m) = 2 ∧ ((u.ringMem m).owed = (s.ringMem m).owed.filter (fun x => decide (x ≠ leAt q.data 0 1)))) ∧
  (∀ (dt : Nat) (p : Fin 2) (d : List Byte) (m : Fin 256) (q : SvReq) (rest : List SvReq) (s : State), (((s.get RNG_ST_READY = 1 ∧ s.ring.clkLost = false) ∧ s.get RNG_CFG_ROLE = 1 ∧ s.portUp p = true)) → ((s.ring.bufs.filter (fun b => decide ((s.elapse dt).quarter < b.2))).length < 64) → leAt d 0x420 1 = m.val → m.val ≠ 0 → (s.ringMem m).reqs = q :: rest → q.sends ≠ 0 → q.seq = leAt d 0x424 2 → q.mtype = leAt d 0x421 1 → (∀ b : Fin 32, b.val ∈ s.ring.svUse) → 
      ∃ u, exec (.supervisoryReply dt p true d) s = .next u ∧ u.get RNG_SVQ_LOST = min (s.get RNG_SVQ_LOST + 1) 65535 ∧ u.ring.mems = s.ring.mems ∧ u.get (RNG_MST_STATE m) = s.get (RNG_MST_STATE m)) ∧
  (∀ (dt : Nat) (p : Fin 2) (d : List Byte) (s : State), (((s.get RNG_ST_READY = 1 ∧ s.ring.clkLost = false) ∧ s.get RNG_CFG_ROLE = 1 ∧ s.portUp p = true)) → ((s.ring.bufs.filter (fun b => decide ((s.elapse dt).quarter < b.2))).length < 64) → (leAt d 0x420 1 = 0 ∨ (s.ringMem (leAt d 0x420 1)).reqs = []) → 
      ∃ u, exec (.supervisoryReply dt p true d) s = .next u ∧ u.ring.mems = s.ring.mems ∧ u.bulk = s.bulk ∧ u.que = s.que ∧ u.ring.svUse = s.ring.svUse) ∧
  (∀ (dt : Nat) (m : Fin 256) (q : SvReq) (rest : List SvReq) (s : State), (s.ringMem m).reqs = q :: rest → q.sends ≠ 0 → q.again = false → 16 ≤ signed 32 (s.rd RNG_CYCNT + 2 ^ 32 - q.cyc) → q.sends < 4 → 
      ∃ u, exec (.supervisoryRetry dt m) s = .next u ∧ (((u.ringMem m).reqs.head?).map (fun x => (x.seq, x.mtype, x.data, x.sends, x.again)) = some (q.seq, q.mtype, q.data, q.sends, true)) ∧ OnlyChanges [.clk, .ring, .sets] [] s u) ∧
  (∀ (dt : Nat) (m : Fin 256) (q : SvReq) (rest : List SvReq) (s : State), (s.ringMem m).reqs = q :: rest → q.sends ≠ 0 → q.again = false → 16 ≤ signed 32 (s.rd RNG_CYCNT + 2 ^ 32 - q.cyc) → 4 ≤ q.sends → 
      ∃ u, exec (.supervisoryRetry dt m) s = .next u ∧ (u.ringMem m).reqs = rest ∧ u.get (RNG_MST_SVTO m) = min (s.get (RNG_MST_SVTO m) + 1) 255 ∧ OnlyChanges [.clk, .ring, .sets] [RNG_MST m] s u) ∧
  (∀ (dt : Nat) (m : Fin 256) (s : State), (s.ringMem m).reqs = [] → 
      ∃ u, exec (.supervisoryRetry dt m) s = .next u ∧ u = (s.elapse dt))

/-- What a member does with a frame. On first pass a member sends a frame on with HITS raised, turned back with RET 1 when its other port is down; with RET 1 it passes it unchanged. It fills its slice, takes the set-points, REQSEQ and ACT of a correct frame, and marks itself in DISCOVER. A supervisory request for it is delivered to the firmware and answered: IDENT, PARAM, DISCARD, SERVICE and FAULT leave their reply, POLL takes the oldest; a repeated request is not carried out again, and one to all members is not answered. The rows of the supervisory messages at the master queue the request (log 58). A link-delay response in range enters the mean of D. -/
def Obligations.RingMembers : Prop :=
  (∀ (dt : Nat) (p : Fin 2) (ok : Bool) (d : List Byte) (s : State), (¬ ((s.get RNG_ST_READY = 1 ∧ s.ring.clkLost = false) ∧ s.get RNG_CFG_ROLE = 2 ∧ s.portUp p = true)) → 
      ∃ u, exec (.cycle dt p ok d) s = .next u ∧ u = (s.elapse dt)) ∧
  (∀ (dt : Nat) (p : Fin 2) (ok : Bool) (d : List Byte) (s : State), (((s.get RNG_ST_READY = 1 ∧ s.ring.clkLost = false) ∧ s.get RNG_CFG_ROLE = 2 ∧ s.portUp p = true)) → (64 ≤ (s.ring.bufs.filter (fun b => decide ((s.elapse dt).quarter < b.2))).length) → 
      ∃ u, exec (.cycle dt p ok d) s = .next u ∧ u.get RNG_ERR_NOBUF = min (s.get RNG_ERR_NOBUF + 1) 255 ∧ u.ring.tx = s.ring.tx ∧ OnlyChanges [.clk, .ring, .log, .reg .err, .sets] [RNG_ERR, RNG_BUFA, RNG_BUFB] s u) ∧
  (∀ (dt : Nat) (p : Fin 2) (ok : Bool) (d : List Byte) (s : State), (((s.get RNG_ST_READY = 1 ∧ s.ring.clkLost = false) ∧ s.get RNG_CFG_ROLE = 2 ∧ s.portUp p = true)) → ((s.ring.bufs.filter (fun b => decide ((s.elapse dt).quarter < b.2))).length < 64) → bit (leAt d 2 1) 0 = true → s.portUp (1 - p.val) = true → 
      ∃ u, exec (.cycle dt p ok d) s = .next u ∧ ((u.ring.tx.getLast?).map (fun x => (x.port, x.ok, x.data)) = some (1 - p.val, ok, d)) ∧ (u.get RNG_ERR_FCS = (if ok = true then s.get RNG_ERR_FCS else min (s.get RNG_ERR_FCS + 1) 65535)) ∧ u.ring.acks = s.ring.acks ∧ u.ring.got = s.ring.got ∧ OnlyChanges [.clk, .ring, .sets] [RNG_ERR, RNG_BUFA, RNG_BUFB] s u) ∧
  (∀ (dt : Nat) (p : Fin 2) (ok : Bool) (d : List Byte) (s : State), (((s.get RNG_ST_READY = 1 ∧ s.ring.clkLost = false) ∧ s.get RNG_CFG_ROLE = 2 ∧ s.portUp p = true)) → ((s.ring.bufs.filter (fun b => decide ((s.elapse dt).quarter < b.2))).length < 64) → bit (leAt d 2 1) 0 = true → s.portUp (1 - p.val) = false → 
      ∃ u, exec (.cycle dt p ok d) s = .next u ∧ u.ring.tx = s.ring.tx ∧ u.ring.acks = s.ring.acks ∧ u.ring.got = s.ring.got) ∧
  (∀ (dt : Nat) (p : Fin 2) (d : List Byte) (s : State), (((s.get RNG_ST_READY = 1 ∧ s.ring.clkLost = false) ∧ s.get RNG_CFG_ROLE = 2 ∧ s.portUp p = true)) → ((s.ring.bufs.filter (fun b => decide ((s.elapse dt).quarter < b.2))).length < 64) → bit (leAt d 2 1) 0 = false → s.portUp (1 - p.val) = true → 24 ≤ d.length → 
      ∃ u, exec (.cycle dt p false d) s = .next u ∧ ((u.ring.tx.getLast?).map (fun x => (x.port, x.ok, leAt x.data 0x14 1)) = some (1 - p.val, false, min 255 (leAt d 0x14 1 + 1))) ∧ u.get RNG_ERR_FCS = min (s.get RNG_ERR_FCS + 1) 65535 ∧ u.ring.acks = s.ring.acks ∧ u.ring.got = s.ring.got ∧ u.ring.newSet = s.ring.newSet ∧ OnlyChanges [.clk, .ring, .tim, .sets] [RNG_ERR, RNG_BUFA, RNG_BUFB] s u) ∧
  (∀ (dt : Nat) (p : Fin 2) (ok : Bool) (d : List Byte) (s : State), (((s.get RNG_ST_READY = 1 ∧ s.ring.clkLost = false) ∧ s.get RNG_CFG_ROLE = 2 ∧ s.portUp p = true)) → ((s.ring.bufs.filter (fun b => decide ((s.elapse dt).quarter < b.2))).length < 64) → bit (leAt d 2 1) 0 = false → s.portUp (1 - p.val) = false → 24 ≤ d.length → 
      ∃ u, exec (.cycle dt p ok d) s = .next u ∧ ((u.ring.tx.getLast?).map (fun x => (x.port, x.ok, bit (leAt x.data 2 1) 0, leAt x.data 0x14 1)) = some (p.val, ok, true, min 255 (leAt d 0x14 1 + 1)))) ∧
  (∀ (dt : Nat) (p : Fin 2) (ok : Bool) (d : List Byte) (s : State), (¬ ((s.get RNG_ST_READY = 1 ∧ s.ring.clkLost = false) ∧ s.get RNG_CFG_ROLE = 2 ∧ s.portUp p = true)) → 
      ∃ u, exec (.close dt p ok d) s = .next u ∧ u = (s.elapse dt)) ∧
  (∀ (dt : Nat) (p : Fin 2) (ok : Bool) (d : List Byte) (s : State), (((s.get RNG_ST_READY = 1 ∧ s.ring.clkLost = false) ∧ s.get RNG_CFG_ROLE = 2 ∧ s.portUp p = true)) → (64 ≤ (s.ring.bufs.filter (fun b => decide ((s.elapse dt).quarter < b.2))).length) → 
      ∃ u, exec (.close dt p ok d) s = .next u ∧ u.get RNG_ERR_NOBUF = min (s.get RNG_ERR_NOBUF + 1) 255 ∧ u.ring.tx = s.ring.tx ∧ OnlyChanges [.clk, .ring, .log, .reg .err, .sets] [RNG_ERR, RNG_BUFA, RNG_BUFB] s u) ∧
  (∀ (dt : Nat) (p : Fin 2) (ok : Bool) (d : List Byte) (s : State), (((s.get RNG_ST_READY = 1 ∧ s.ring.clkLost = false) ∧ s.get RNG_CFG_ROLE = 2 ∧ s.portUp p = true)) → ((s.ring.bufs.filter (fun b => decide ((s.elapse dt).quarter < b.2))).length < 64) → bit (leAt d 2 1) 0 = true → s.portUp (1 - p.val) = true → 
      ∃ u, exec (.close dt p ok d) s = .next u ∧ ((u.ring.tx.getLast?).map (fun x => (x.port, x.ok, x.data)) = some (1 - p.val, ok, d)) ∧ (u.get RNG_ERR_FCS = (if ok = true then s.get RNG_ERR_FCS else min (s.get RNG_ERR_FCS + 1) 65535)) ∧ u.ring.acks = s.ring.acks ∧ u.ring.got = s.ring.got ∧ OnlyChanges [.clk, .ring, .sets] [RNG_ERR, RNG_BUFA, RNG_BUFB] s u) ∧
  (∀ (dt : Nat) (p : Fin 2) (ok : Bool) (d : List Byte) (s : State), (((s.get RNG_ST_READY = 1 ∧ s.ring.clkLost = false) ∧ s.get RNG_CFG_ROLE = 2 ∧ s.portUp p = true)) → ((s.ring.bufs.filter (fun b => decide ((s.elapse dt).quarter < b.2))).length < 64) → bit (leAt d 2 1) 0 = true → s.portUp (1 - p.val) = false → 
      ∃ u, exec (.close dt p ok d) s = .next u ∧ u.ring.tx = s.ring.tx ∧ u.ring.acks = s.ring.acks ∧ u.ring.got = s.ring.got) ∧
  (∀ (dt : Nat) (p : Fin 2) (d : List Byte) (s : State), (((s.get RNG_ST_READY = 1 ∧ s.ring.clkLost = false) ∧ s.get RNG_CFG_ROLE = 2 ∧ s.portUp p = true)) → ((s.ring.bufs.filter (fun b => decide ((s.elapse dt).quarter < b.2))).length < 64) → bit (leAt d 2 1) 0 = false → s.portUp (1 - p.val) = true → 24 ≤ d.length → 
      ∃ u, exec (.close dt p false d) s = .next u ∧ ((u.ring.tx.getLast?).map (fun x => (x.port, x.ok, leAt x.data 0x14 1)) = some (1 - p.val, false, min 255 (leAt d 0x14 1 + 1))) ∧ u.get RNG_ERR_FCS = min (s.get RNG_ERR_FCS + 1) 65535 ∧ u.ring.acks = s.ring.acks ∧ u.ring.got = s.ring.got ∧ u.ring.newSet = s.ring.newSet ∧ OnlyChanges [.clk, .ring, .tim, .sets] [RNG_ERR, RNG_BUFA, RNG_BUFB] s u) ∧
  (∀ (dt : Nat) (p : Fin 2) (ok : Bool) (d : List Byte) (s : State), (((s.get RNG_ST_READY = 1 ∧ s.ring.clkLost = false) ∧ s.get RNG_CFG_ROLE = 2 ∧ s.portUp p = true)) → ((s.ring.bufs.filter (fun b => decide ((s.elapse dt).quarter < b.2))).length < 64) → bit (leAt d 2 1) 0 = false → s.portUp (1 - p.val) = false → 24 ≤ d.length → 
      ∃ u, exec (.close dt p ok d) s = .next u ∧ ((u.ring.tx.getLast?).map (fun x => (x.port, x.ok, bit (leAt x.data 2 1) 0, leAt x.data 0x14 1)) = some (p.val, ok, true, min 255 (leAt d 0x14 1 + 1)))) ∧
  (∀ (dt : Nat) (p : Fin 2) (ok : Bool) (d : List Byte) (s : State), (¬ ((s.get RNG_ST_READY = 1 ∧ s.ring.clkLost = false) ∧ s.get RNG_CFG_ROLE = 2 ∧ s.portUp p = true)) → 
      ∃ u, exec (.discover dt p ok d) s = .next u ∧ u = (s.elapse dt)) ∧
  (∀ (dt : Nat) (p : Fin 2) (ok : Bool) (d : List Byte) (s : State), (((s.get RNG_ST_READY = 1 ∧ s.ring.clkLost = false) ∧ s.get RNG_CFG_ROLE = 2 ∧ s.portUp p = true)) → (64 ≤ (s.ring.bufs.filter (fun b => decide ((s.elapse dt).quarter < b.2))).length) → 
      ∃ u, exec (.discover dt p ok d) s = .next u ∧ u.get RNG_ERR_NOBUF = min (s.get RNG_ERR_NOBUF + 1) 255 ∧ u.ring.tx = s.ring.tx ∧ OnlyChanges [.clk, .ring, .log, .reg .err, .sets] [RNG_ERR, RNG_BUFA, RNG_BUFB] s u) ∧
  (∀ (dt : Nat) (p : Fin 2) (ok : Bool) (d : List Byte) (s : State), (((s.get RNG_ST_READY = 1 ∧ s.ring.clkLost = false) ∧ s.get RNG_CFG_ROLE = 2 ∧ s.portUp p = true)) → ((s.ring.bufs.filter (fun b => decide ((s.elapse dt).quarter < b.2))).length < 64) → bit (leAt d 2 1) 0 = true → s.portUp (1 - p.val) = true → 
      ∃ u, exec (.discover dt p ok d) s = .next u ∧ ((u.ring.tx.getLast?).map (fun x => (x.port, x.ok, x.data)) = some (1 - p.val, ok, d)) ∧ (u.get RNG_ERR_FCS = (if ok = true then s.get RNG_ERR_FCS else min (s.get RNG_ERR_FCS + 1) 65535)) ∧ u.ring.acks = s.ring.acks ∧ u.ring.got = s.ring.got ∧ OnlyChanges [.clk, .ring, .sets] [RNG_ERR, RNG_BUFA, RNG_BUFB] s u) ∧
  (∀ (dt : Nat) (p : Fin 2) (ok : Bool) (d : List Byte) (s : State), (((s.get RNG_ST_READY = 1 ∧ s.ring.clkLost = false) ∧ s.get RNG_CFG_ROLE = 2 ∧ s.portUp p = true)) → ((s.ring.bufs.filter (fun b => decide ((s.elapse dt).quarter < b.2))).length < 64) → bit (leAt d 2 1) 0 = true → s.portUp (1 - p.val) = false → 
      ∃ u, exec (.discover dt p ok d) s = .next u ∧ u.ring.tx = s.ring.tx ∧ u.ring.acks = s.ring.acks ∧ u.ring.got = s.ring.got) ∧
  (∀ (dt : Nat) (p : Fin 2) (d : List Byte) (s : State), (((s.get RNG_ST_READY = 1 ∧ s.ring.clkLost = false) ∧ s.get RNG_CFG_ROLE = 2 ∧ s.portUp p = true)) → ((s.ring.bufs.filter (fun b => decide ((s.elapse dt).quarter < b.2))).length < 64) → bit (leAt d 2 1) 0 = false → s.portUp (1 - p.val) = true → 24 ≤ d.length → 
      ∃ u, exec (.discover dt p false d) s = .next u ∧ ((u.ring.tx.getLast?).map (fun x => (x.port, x.ok, leAt x.data 0x14 1)) = some (1 - p.val, false, min 255 (leAt d 0x14 1 + 1))) ∧ u.get RNG_ERR_FCS = min (s.get RNG_ERR_FCS + 1) 65535 ∧ u.ring.acks = s.ring.acks ∧ u.ring.got = s.ring.got ∧ u.ring.newSet = s.ring.newSet ∧ OnlyChanges [.clk, .ring, .tim, .sets] [RNG_ERR, RNG_BUFA, RNG_BUFB] s u) ∧
  (∀ (dt : Nat) (p : Fin 2) (ok : Bool) (d : List Byte) (s : State), (((s.get RNG_ST_READY = 1 ∧ s.ring.clkLost = false) ∧ s.get RNG_CFG_ROLE = 2 ∧ s.portUp p = true)) → ((s.ring.bufs.filter (fun b => decide ((s.elapse dt).quarter < b.2))).length < 64) → bit (leAt d 2 1) 0 = false → s.portUp (1 - p.val) = false → 24 ≤ d.length → 
      ∃ u, exec (.discover dt p ok d) s = .next u ∧ ((u.ring.tx.getLast?).map (fun x => (x.port, x.ok, bit (leAt x.data 2 1) 0, leAt x.data 0x14 1)) = some (p.val, ok, true, min 255 (leAt d 0x14 1 + 1)))) ∧
  (∀ (dt : Nat) (p : Fin 2) (ok : Bool) (d : List Byte) (s : State), (((s.get RNG_ST_READY = 1 ∧ s.ring.clkLost = false) ∧ s.get RNG_CFG_ROLE = 2 ∧ s.portUp p = true)) → ((s.ring.bufs.filter (fun b => decide ((s.elapse dt).quarter < b.2))).length < 64) → bit (leAt d 2 1) 0 = false → s.portUp (1 - p.val) = true → 24 ≤ d.length → 
      ∃ u, exec (.close dt p ok d) s = .next u ∧ ((u.ring.tx.getLast?).map (fun x => (x.port, x.ok, x.link)) = some (1 - p.val, ok, false)) ∧ ((u.ring.tx.getLast?).map (fun x => (leAt x.data 0x14 1, x.data.take 8, x.data.drop 24)) = some (min 255 (leAt d 0x14 1 + 1), d.take 8, d.drop 24)) ∧ u.ring.acks = s.ring.acks ∧ u.ring.got = s.ring.got) ∧
  (∀ (dt : Nat) (p : Fin 2) (ok : Bool) (d : List Byte) (s : State), (((s.get RNG_ST_READY = 1 ∧ s.ring.clkLost = false) ∧ s.get RNG_CFG_ROLE = 2 ∧ s.portUp p = true)) → ((s.ring.bufs.filter (fun b => decide ((s.elapse dt).quarter < b.2))).length < 64) → bit (leAt d 2 1) 0 = false → s.portUp (1 - p.val) = true → 348 ≤ d.length → leAt d 24 1 ≤ 254 → 
      ∃ u, exec (.discover dt p ok d) s = .next u ∧ ((u.ring.tx.getLast?).map (fun x => (x.port, leAt x.data 24 1, leAt x.data (92 + leAt d 24 1) 1)) = some (1 - p.val, leAt d 24 1 + 1, s.get RNG_CFG_ADDR)) ∧ ((u.ring.tx.getLast?).map (fun x => (bit (leAt x.data (28 + s.get RNG_CFG_ADDR / 8) 1) (s.get RNG_CFG_ADDR % 8), bit (leAt x.data (60 + s.get RNG_CFG_ADDR / 8) 1) (s.get RNG_CFG_ADDR % 8))) = some (true, bit (leAt d (28 + s.get RNG_CFG_ADDR / 8) 1) (s.get RNG_CFG_ADDR % 8) || bit (leAt d (60 + s.get RNG_CFG_ADDR / 8) 1) (s.get RNG_CFG_ADDR % 8)))) ∧
  (∀ (dt : Nat) (p : Fin 2) (d : List Byte) (o : Nat) (k : Fin 16) (s : State), (((s.get RNG_ST_READY = 1 ∧ s.ring.clkLost = false) ∧ s.get RNG_CFG_ROLE = 2 ∧ s.portUp p = true)) → ((s.ring.bufs.filter (fun b => decide ((s.elapse dt).quarter < b.2))).length < 64) → bit (leAt d 2 1) 0 = false → s.portUp (1 - p.val) = true → s.ownSlice d = some o → (o + 4 + 36 * leAt d (o + 2) 1 + (if bit (leAt d (o + 1) 1) 2 then 48 else 0) ≤ d.length) → k.val < leAt d (o + 2) 1 → 
      ∃ u, exec (.cycle dt p true d) s = .next u ∧ ((u.ring.tx.getLast?).map (fun x => (x.port, x.ok, leAt x.data 0x14 1)) = some (1 - p.val, true, min 255 (leAt d 0x14 1 + 1))) ∧ ((u.ring.tx.getLast?).map (fun x => (bit (leAt x.data (o + 1) 1) 7, leAt x.data (o + 3) 1, slice x.data (o + 4 + 36 * k + 0x14) 16)) = some (true, s.memberStat, slice (tabGet [] s.ring.inputs k) 0 16)) ∧ u.rd RNG_CYCNT = leAt d 4 4 ∧ u.ring.got = (s.ring.got || bit (leAt d (o + 1) 1) 1)) ∧
  (∀ (dt : Nat) (p : Fin 2) (d : List Byte) (o : Nat) (k : Fin 16) (n : Fin 32) (s : State), (((s.get RNG_ST_READY = 1 ∧ s.ring.clkLost = false) ∧ s.get RNG_CFG_ROLE = 2 ∧ s.portUp p = true)) → ((s.ring.bufs.filter (fun b => decide ((s.elapse dt).quarter < b.2))).length < 64) → bit (leAt d 2 1) 0 = false → s.portUp (1 - p.val) = true → s.ownSlice d = some o → (o + 4 + 36 * leAt d (o + 2) 1 + (if bit (leAt d (o + 1) 1) 2 then 48 else 0) ≤ d.length) → k.val < leAt d (o + 2) 1 → s.subAxis k = some n.val → bit (leAt d (o + 1) 1) 1 = true → 
      ∃ u, exec (.cycle dt p true d) s = .next u ∧ tabGet 0 u.ring.acks k = leAt d (o + 4 + 36 * k + 0x10) 2 / 4096 ∧ (bit (leAt d (o + 1) 1) 0 = true → tabFind u.ring.newSet k = some (leAtS d (o + 4 + 36 * k) 8, leAtS d (o + 4 + 36 * k + 8) 8))) ∧
  (∀ (dt : Nat) (p : Fin 2) (d : List Byte) (o : Nat) (k : Fin 16) (n : Fin 32) (s : State), (((s.get RNG_ST_READY = 1 ∧ s.ring.clkLost = false) ∧ s.get RNG_CFG_ROLE = 2 ∧ s.portUp p = true)) → ((s.ring.bufs.filter (fun b => decide ((s.elapse dt).quarter < b.2))).length < 64) → bit (leAt d 2 1) 0 = false → s.portUp (1 - p.val) = true → s.ownSlice d = some o → (o + 4 + 36 * leAt d (o + 2) 1 + (if bit (leAt d (o + 1) 1) 2 then 48 else 0) ≤ d.length) → k.val < leAt d (o + 2) 1 → s.subAxis k = some n.val → bit (leAt d (o + 1) 1) 1 = false → 
      ∃ u, exec (.cycle dt p true d) s = .next u ∧ tabGet 0 u.ring.acks k = tabGet 0 s.ring.acks k ∧ u.ring.got = s.ring.got) ∧
  (∀ (dt : Nat) (p : Fin 2) (d : List Byte) (s : State), (((s.get RNG_ST_READY = 1 ∧ s.ring.clkLost = false) ∧ s.get RNG_CFG_ROLE = 2 ∧ s.portUp p = true)) → ((s.ring.bufs.filter (fun b => decide ((s.elapse dt).quarter < b.2))).length < 64) → bit (leAt d 2 1) 0 = false → 24 ≤ d.length → leAt d 0x18 1 = s.get RNG_CFG_ADDR → leAt d 0x19 1 = 1 → s.ring.replies = [] → s.ring.last = none → s.svc.motions = [] → s.pushCheck 4 (s.get RNG_SVQ_Q) = 1 → s.qCap (s.get RNG_SVQ_Q) ≤ 32 → s.get (QUE_ST_DEPTH (s.get RNG_SVQ_Q)) + 1 ≤ s.qCap (s.get RNG_SVQ_Q) → (∃ b : Fin 32, b.val ∉ s.ring.svUse) → 
      ∃ u, exec (.ident dt p true d) s = .next u ∧ u.ring.svUse.length = s.ring.svUse.length + 1 ∧ (u.ring.replies.map (fun x => (x.mtype, x.seq, x.stat, leAt x.data 0 4)) = [(1, leAt d 0x1C 2, 0, s.rd RNG_IDENT)]) ∧ (u.ring.replies.map (fun x => (leAt x.data 4 4, leAt x.data 8 4, leAt x.data 13 1 % 2, leAt x.data 14 2)) = [(imgMachineCrc (s.boot.base.getD {}).header % 2 ^ 32, blocksCrc s.ring.blocks % 2 ^ 32, b2n (decide (s.ring.blocks = [])), s.rd RNG_FWD % 65536)]) ∧ u.ring.tp = leAt (svData d) 0 4 ∧ u.ring.tr = leAt (svData d) 4 4) ∧
  (∀ (dt : Nat) (p : Fin 2) (d : List Byte) (s : State), (((s.get RNG_ST_READY = 1 ∧ s.ring.clkLost = false) ∧ s.get RNG_CFG_ROLE = 2 ∧ s.portUp p = true)) → ((s.ring.bufs.filter (fun b => decide ((s.elapse dt).quarter < b.2))).length < 64) → bit (leAt d 2 1) 0 = false → 24 ≤ d.length → leAt d 0x18 1 = s.get RNG_CFG_ADDR → leAt d 0x19 1 = 2 → s.ring.replies = [] → s.ring.last = none → s.svc.motions = [] → s.pushCheck 4 (s.get RNG_SVQ_Q) = 1 → s.qCap (s.get RNG_SVQ_Q) ≤ 32 → s.get (QUE_ST_DEPTH (s.get RNG_SVQ_Q)) + 1 ≤ s.qCap (s.get RNG_SVQ_Q) → (∃ b : Fin 32, b.val ∉ s.ring.svUse) → s.subAxis (leAt (svData d) 0 1) = none → 
      ∃ u, exec (.param dt p true d) s = .next u ∧ u.ring.svUse.length = s.ring.svUse.length + 1 ∧ (u.ring.replies.map (fun x => (x.mtype, x.seq, x.stat)) = [(2, leAt d 0x1C 2, 1)]) ∧ u.ring.stage = s.ring.stage ∧ u.ring.blocks = s.ring.blocks) ∧
  (∀ (dt : Nat) (p : Fin 2) (d : List Byte) (n : Fin 32) (s : State), (((s.get RNG_ST_READY = 1 ∧ s.ring.clkLost = false) ∧ s.get RNG_CFG_ROLE = 2 ∧ s.portUp p = true)) → ((s.ring.bufs.filter (fun b => decide ((s.elapse dt).quarter < b.2))).length < 64) → bit (leAt d 2 1) 0 = false → 24 ≤ d.length → leAt d 0x18 1 = s.get RNG_CFG_ADDR → leAt d 0x19 1 = 2 → s.ring.replies = [] → s.ring.last = none → s.svc.motions = [] → s.pushCheck 4 (s.get RNG_SVQ_Q) = 1 → s.qCap (s.get RNG_SVQ_Q) ≤ 32 → s.get (QUE_ST_DEPTH (s.get RNG_SVQ_Q)) + 1 ≤ s.qCap (s.get RNG_SVQ_Q) → (∃ b : Fin 32, b.val ∉ s.ring.svUse) → s.subAxis (leAt (svData d) 0 1) = some n.val → leAt d 0x1A 2 = 516 → leAt (svData d) 1 1 = 1 → 
      ∃ u, exec (.param dt p true d) s = .next u ∧ u.ring.svUse.length = s.ring.svUse.length + 1 ∧ (u.ring.replies.map (fun x => (x.mtype, x.seq, x.stat)) = [(2, leAt d 0x1C 2, 0)]) ∧ tabFind u.ring.stage (leAt (svData d) 0 1) = some (slice (svData d) 4 512) ∧ u.ring.blocks = s.ring.blocks) ∧
  (∀ (dt : Nat) (p : Fin 2) (d : List Byte) (n : Fin 32) (s : State), (((s.get RNG_ST_READY = 1 ∧ s.ring.clkLost = false) ∧ s.get RNG_CFG_ROLE = 2 ∧ s.portUp p = true)) → ((s.ring.bufs.filter (fun b => decide ((s.elapse dt).quarter < b.2))).length < 64) → bit (leAt d 2 1) 0 = false → 24 ≤ d.length → leAt d 0x18 1 = s.get RNG_CFG_ADDR → leAt d 0x19 1 = 2 → s.ring.replies = [] → s.ring.last = none → s.svc.motions = [] → s.pushCheck 4 (s.get RNG_SVQ_Q) = 1 → s.qCap (s.get RNG_SVQ_Q) ≤ 32 → s.get (QUE_ST_DEPTH (s.get RNG_SVQ_Q)) + 1 ≤ s.qCap (s.get RNG_SVQ_Q) → (∃ b : Fin 32, b.val ∉ s.ring.svUse) → s.subAxis (leAt (svData d) 0 1) = some n.val → leAt d 0x1A 2 = 516 → leAt (svData d) 1 1 = 0 → 
      ∃ u, exec (.param dt p true d) s = .next u ∧ u.ring.svUse.length = s.ring.svUse.length + 1 ∧ (u.ring.replies.map (fun x => (x.mtype, x.seq)) = [(2, leAt d 0x1C 2)]) ∧ u.ring.stage = s.ring.stage ∧ (∀ x, x ∈ u.ring.replies → x.stat = 0 ∧ tabFind u.ring.blocks (leAt (svData d) 0 1) = some (slice (svData d) 4 512) ∨ x.stat = 1 ∧ u.ring.blocks = s.ring.blocks)) ∧
  (∀ (dt : Nat) (p : Fin 2) (d : List Byte) (s : State), (((s.get RNG_ST_READY = 1 ∧ s.ring.clkLost = false) ∧ s.get RNG_CFG_ROLE = 2 ∧ s.portUp p = true)) → ((s.ring.bufs.filter (fun b => decide ((s.elapse dt).quarter < b.2))).length < 64) → bit (leAt d 2 1) 0 = false → 24 ≤ d.length → leAt d 0x18 1 = s.get RNG_CFG_ADDR → leAt d 0x19 1 = 3 → s.ring.replies = [] → s.ring.last = none → s.svc.motions = [] → s.pushCheck 4 (s.get RNG_SVQ_Q) = 1 → s.qCap (s.get RNG_SVQ_Q) ≤ 32 → s.get (QUE_ST_DEPTH (s.get RNG_SVQ_Q)) + 1 ≤ s.qCap (s.get RNG_SVQ_Q) → (∃ b : Fin 32, b.val ∉ s.ring.svUse) → 
      ∃ u, exec (.discard dt p true d) s = .next u ∧ u.ring.svUse.length = s.ring.svUse.length + 1 ∧ (u.ring.replies.map (fun x => (x.mtype, x.seq, x.stat, x.data)) = [(3, leAt d 0x1C 2, 0, [])]) ∧ u.ring.stage = [] ∧ u.ring.blocks = s.ring.blocks) ∧
  (∀ (dt : Nat) (p : Fin 2) (d : List Byte) (s : State), (((s.get RNG_ST_READY = 1 ∧ s.ring.clkLost = false) ∧ s.get RNG_CFG_ROLE = 2 ∧ s.portUp p = true)) → ((s.ring.bufs.filter (fun b => decide ((s.elapse dt).quarter < b.2))).length < 64) → bit (leAt d 2 1) 0 = false → 24 ≤ d.length → leAt d 0x18 1 = 0xFF → s.get RNG_CFG_ADDR ≠ 0xFF → leAt d 0x19 1 = 3 → s.pushCheck 4 (s.get RNG_SVQ_Q) = 1 → s.qCap (s.get RNG_SVQ_Q) ≤ 32 → s.get (QUE_ST_DEPTH (s.get RNG_SVQ_Q)) + 1 ≤ s.qCap (s.get RNG_SVQ_Q) → (∃ b : Fin 32, b.val ∉ s.ring.svUse) → 
      ∃ u, exec (.discard dt p true d) s = .next u ∧ u.ring.svUse.length = s.ring.svUse.length + 1 ∧ u.ring.replies = s.ring.replies ∧ u.ring.stage = []) ∧
  (∀ (dt : Nat) (p : Fin 2) (d : List Byte) (s : State), (((s.get RNG_ST_READY = 1 ∧ s.ring.clkLost = false) ∧ s.get RNG_CFG_ROLE = 2 ∧ s.portUp p = true)) → ((s.ring.bufs.filter (fun b => decide ((s.elapse dt).quarter < b.2))).length < 64) → bit (leAt d 2 1) 0 = false → 24 ≤ d.length → leAt d 0x18 1 ≠ 0xFF → leAt d 0x18 1 ≠ s.get RNG_CFG_ADDR → leAt d 0x19 1 = 3 → 
      ∃ u, exec (.discard dt p true d) s = .next u ∧ u.ring.replies = s.ring.replies ∧ u.ring.stage = s.ring.stage ∧ u.ring.svUse = s.ring.svUse) ∧
  (∀ (dt : Nat) (p : Fin 2) (d : List Byte) (s : State), (((s.get RNG_ST_READY = 1 ∧ s.ring.clkLost = false) ∧ s.get RNG_CFG_ROLE = 2 ∧ s.portUp p = true)) → ((s.ring.bufs.filter (fun b => decide ((s.elapse dt).quarter < b.2))).length < 64) → bit (leAt d 2 1) 0 = false → 24 ≤ d.length → leAt d 0x18 1 = s.get RNG_CFG_ADDR → leAt d 0x19 1 = 4 → s.ring.replies = [] → s.ring.last = none → s.svc.motions = [] → s.pushCheck 4 (s.get RNG_SVQ_Q) = 1 → s.qCap (s.get RNG_SVQ_Q) ≤ 32 → s.get (QUE_ST_DEPTH (s.get RNG_SVQ_Q)) + 1 ≤ s.qCap (s.get RNG_SVQ_Q) → (∃ b : Fin 32, b.val ∉ s.ring.svUse) → frameOk (svData d) = false → 
      ∃ u, exec (.service dt p true d) s = .next u ∧ u.ring.svUse.length = s.ring.svUse.length + 1 ∧ u.ring.replies = [] ∧ u.get SVC_STAT_BAD = min (s.get SVC_STAT_BAD + 1) 65535) ∧
  (∀ (dt : Nat) (p : Fin 2) (d : List Byte) (s : State), (((s.get RNG_ST_READY = 1 ∧ s.ring.clkLost = false) ∧ s.get RNG_CFG_ROLE = 2 ∧ s.portUp p = true)) → ((s.ring.bufs.filter (fun b => decide ((s.elapse dt).quarter < b.2))).length < 64) → bit (leAt d 2 1) 0 = false → 24 ≤ d.length → leAt d 0x18 1 = s.get RNG_CFG_ADDR → leAt d 0x19 1 = 4 → s.ring.replies = [] → s.ring.last = none → s.svc.motions = [] → s.pushCheck 4 (s.get RNG_SVQ_Q) = 1 → s.qCap (s.get RNG_SVQ_Q) ≤ 32 → s.get (QUE_ST_DEPTH (s.get RNG_SVQ_Q)) + 1 ≤ s.qCap (s.get RNG_SVQ_Q) → (∃ b : Fin 32, b.val ∉ s.ring.svUse) → frameOk (svData d) = true → frameCmd (svData d) = 1 → leAt (svData d) 6 2 = 0 → 
      ∃ u, exec (.service dt p true d) s = .next u ∧ u.ring.svUse.length = s.ring.svUse.length + 1 ∧ (u.ring.replies.map (fun x => (x.mtype, x.seq, x.stat, leAt x.data 1 1)) = [(4, leAt d 0x1C 2, 0, 1)]) ∧ (u.ring.replies.map (fun x => (leAt x.data 3 1, leAt x.data 4 2)) = [(0, frameSeq (svData d))])) ∧
  (∀ (dt : Nat) (p : Fin 2) (d : List Byte) (s : State), (((s.get RNG_ST_READY = 1 ∧ s.ring.clkLost = false) ∧ s.get RNG_CFG_ROLE = 2 ∧ s.portUp p = true)) → ((s.ring.bufs.filter (fun b => decide ((s.elapse dt).quarter < b.2))).length < 64) → bit (leAt d 2 1) 0 = false → 24 ≤ d.length → leAt d 0x18 1 = s.get RNG_CFG_ADDR → leAt d 0x19 1 = 4 → s.ring.replies = [] → s.ring.last = none → s.svc.motions = [] → s.pushCheck 4 (s.get RNG_SVQ_Q) = 1 → s.qCap (s.get RNG_SVQ_Q) ≤ 32 → s.get (QUE_ST_DEPTH (s.get RNG_SVQ_Q)) + 1 ≤ s.qCap (s.get RNG_SVQ_Q) → (∃ b : Fin 32, b.val ∉ s.ring.svUse) → frameOk (svData d) = true → svcKnown (frameCmd (svData d)) = false → 
      ∃ u, exec (.service dt p true d) s = .next u ∧ u.ring.svUse.length = s.ring.svUse.length + 1 ∧ (u.ring.replies.map (fun x => (x.mtype, x.seq, x.stat, leAt x.data 3 1)) = [(4, leAt d 0x1C 2, 0, 1)])) ∧
  (∀ (dt : Nat) (p : Fin 2) (d : List Byte) (n : Fin 32) (s : State), (((s.get RNG_ST_READY = 1 ∧ s.ring.clkLost = false) ∧ s.get RNG_CFG_ROLE = 2 ∧ s.portUp p = true)) → ((s.ring.bufs.filter (fun b => decide ((s.elapse dt).quarter < b.2))).length < 64) → bit (leAt d 2 1) 0 = false → 24 ≤ d.length → leAt d 0x18 1 = s.get RNG_CFG_ADDR → leAt d 0x19 1 = 5 → s.ring.replies = [] → s.ring.last = none → s.svc.motions = [] → s.pushCheck 4 (s.get RNG_SVQ_Q) = 1 → s.qCap (s.get RNG_SVQ_Q) ≤ 32 → s.get (QUE_ST_DEPTH (s.get RNG_SVQ_Q)) + 1 ≤ s.qCap (s.get RNG_SVQ_Q) → (∃ b : Fin 32, b.val ∉ s.ring.svUse) → s.subAxis (leAt (svData d) 0 1) = some n.val → 
      ∃ u, exec (.fault dt p true d) s = .next u ∧ u.ring.svUse.length = s.ring.svUse.length + 1 ∧ (u.ring.replies.map (fun x => (x.mtype, x.seq, x.stat, leAt x.data 0 1)) = [(5, leAt d 0x1C 2, 0, s.get (PRF_AXST_CAUSE n))])) ∧
  (∀ (dt : Nat) (p : Fin 2) (d : List Byte) (s : State), (((s.get RNG_ST_READY = 1 ∧ s.ring.clkLost = false) ∧ s.get RNG_CFG_ROLE = 2 ∧ s.portUp p = true)) → ((s.ring.bufs.filter (fun b => decide ((s.elapse dt).quarter < b.2))).length < 64) → bit (leAt d 2 1) 0 = false → 24 ≤ d.length → leAt d 0x18 1 = s.get RNG_CFG_ADDR → leAt d 0x19 1 = 5 → s.ring.replies = [] → s.ring.last = none → s.svc.motions = [] → s.pushCheck 4 (s.get RNG_SVQ_Q) = 1 → s.qCap (s.get RNG_SVQ_Q) ≤ 32 → s.get (QUE_ST_DEPTH (s.get RNG_SVQ_Q)) + 1 ≤ s.qCap (s.get RNG_SVQ_Q) → (∃ b : Fin 32, b.val ∉ s.ring.svUse) → s.subAxis (leAt (svData d) 0 1) = none → 
      ∃ u, exec (.fault dt p true d) s = .next u ∧ u.ring.svUse.length = s.ring.svUse.length + 1 ∧ (u.ring.replies.map (fun x => (x.mtype, x.seq, x.stat)) = [(5, leAt d 0x1C 2, 1)])) ∧
  (∀ (dt : Nat) (p : Fin 2) (d : List Byte) (s : State), (((s.get RNG_ST_READY = 1 ∧ s.ring.clkLost = false) ∧ s.get RNG_CFG_ROLE = 2 ∧ s.portUp p = true)) → ((s.ring.bufs.filter (fun b => decide ((s.elapse dt).quarter < b.2))).length < 64) → bit (leAt d 2 1) 0 = false → 24 ≤ d.length → leAt d 0x18 1 = s.get RNG_CFG_ADDR → s.get RNG_CFG_ADDR ≠ 0xFF → leAt d 0x19 1 = 5 → (s.ring.replies.any (fun x => decide (x.seq = leAt d 0x1C 2 ∧ x.mtype = 5 ∧ x.waits ≠ none)) = true) → s.replyDue = none → 
      ∃ u, exec (.fault dt p true d) s = .next u ∧ u.ring.replies = s.ring.replies ∧ u.ring.svUse = s.ring.svUse) ∧
  (∀ (dt : Nat) (p : Fin 2) (d : List Byte) (r : SvReply) (rest : List SvReply) (s : State), (((s.get RNG_ST_READY = 1 ∧ s.ring.clkLost = false) ∧ s.get RNG_CFG_ROLE = 2 ∧ s.portUp p = true)) → ((s.ring.bufs.filter (fun b => decide ((s.elapse dt).quarter < b.2))).length < 64) → bit (leAt d 2 1) 0 = false → s.portUp (1 - p.val) = true → d.length = 1312 → leAt d 0x18 1 = s.get RNG_CFG_ADDR → leAt d 0x19 1 = 0 → s.ring.replies = r :: rest → r.waits = none → r.restarts = false → r.data.length ≤ 248 → 
      ∃ u, exec (.poll dt p true d) s = .next u ∧ u.ring.replies = rest ∧ u.ring.last = some r ∧ ((u.ring.tx.getLast?).map (fun x => (x.port, leAt x.data 0x420 1, leAt x.data 0x421 1)) = some (1 - p.val, s.get RNG_CFG_ADDR, r.mtype % 256)) ∧ ((u.ring.tx.getLast?).map (fun x => (leAt x.data 0x424 2, leAt x.data 0x426 1, slice x.data 0x428 248)) = some (r.seq % 65536, r.stat % 256, slice r.data 0 248)) ∧ u.ring.svUse = s.ring.svUse) ∧
  (∀ (dt : Nat) (p : Fin 2) (d : List Byte) (s : State), (((s.get RNG_ST_READY = 1 ∧ s.ring.clkLost = false) ∧ s.get RNG_CFG_ROLE = 2 ∧ s.portUp p = true)) → ((s.ring.bufs.filter (fun b => decide ((s.elapse dt).quarter < b.2))).length < 64) → bit (leAt d 2 1) 0 = false → 24 ≤ d.length → leAt d 0x18 1 = s.get RNG_CFG_ADDR → leAt d 0x19 1 = 9 → s.ring.replies = [] → s.ring.last = none → s.svc.motions = [] → s.pushCheck 4 (s.get RNG_SVQ_Q) = 1 → s.qCap (s.get RNG_SVQ_Q) ≤ 32 → s.get (QUE_ST_DEPTH (s.get RNG_SVQ_Q)) + 1 ≤ s.qCap (s.get RNG_SVQ_Q) → (∃ b : Fin 32, b.val ∉ s.ring.svUse) → 
      ∃ u, exec (.poll dt p true d) s = .next u ∧ u.ring.svUse.length = s.ring.svUse.length + 1 ∧ (u.ring.replies.map (fun x => (x.mtype, x.seq, x.stat)) = [(9, leAt d 0x1C 2, 2)])) ∧
  (∀ (dt : Nat) (p : Fin 2) (ok : Bool) (d : List Byte) (s : State), (0 < leAt d 0x19 1 ∧ leAt d 0x19 1 ≤ 5) → 
      ∃ u, exec (.poll dt p ok d) s = .next u ∧ u = (s.elapse dt)) ∧
  (∀ (dt : Nat) (p : Fin 2) (ok : Bool) (d : List Byte) (m : Fin 255) (s : State), (leAt d 0x19 1 = 0 ∨ 5 < leAt d 0x19 1) → s.get RNG_CFG_ROLE = 1 → ((s.get RNG_ST_READY = 1 ∧ s.ring.clkLost = false)) → leAt d 0x18 1 = m.val → 
      ∃ u, exec (.poll dt p ok d) s = .next u ∧ (((u.ringMem m).reqs.getLast?).map (fun q => (q.mtype, q.seq, q.sends, q.data)) = some (leAt d 0x19 1, s.ring.mseq, 0, svData d)) ∧ u.ring.mseq = (s.ring.mseq + 1) % 65536 ∧ OnlyChanges [.clk, .ring, .sets] [] s u) ∧
  (∀ (dt : Nat) (p : Fin 2) (ok : Bool) (d : List Byte) (s : State), leAt d 0x19 1 ≠ 1 → 
      ∃ u, exec (.ident dt p ok d) s = .next u ∧ u = (s.elapse dt)) ∧
  (∀ (dt : Nat) (p : Fin 2) (ok : Bool) (d : List Byte) (m : Fin 255) (s : State), leAt d 0x19 1 = 1 → s.get RNG_CFG_ROLE = 1 → ((s.get RNG_ST_READY = 1 ∧ s.ring.clkLost = false)) → leAt d 0x18 1 = m.val → 
      ∃ u, exec (.ident dt p ok d) s = .next u ∧ (((u.ringMem m).reqs.getLast?).map (fun q => (q.mtype, q.seq, q.sends, q.data)) = some (leAt d 0x19 1, s.ring.mseq, 0, svData d)) ∧ u.ring.mseq = (s.ring.mseq + 1) % 65536 ∧ OnlyChanges [.clk, .ring, .sets] [] s u) ∧
  (∀ (dt : Nat) (p : Fin 2) (ok : Bool) (d : List Byte) (s : State), leAt d 0x19 1 ≠ 2 → 
      ∃ u, exec (.param dt p ok d) s = .next u ∧ u = (s.elapse dt)) ∧
  (∀ (dt : Nat) (p : Fin 2) (ok : Bool) (d : List Byte) (m : Fin 255) (s : State), leAt d 0x19 1 = 2 → s.get RNG_CFG_ROLE = 1 → ((s.get RNG_ST_READY = 1 ∧ s.ring.clkLost = false)) → leAt d 0x18 1 = m.val → 
      ∃ u, exec (.param dt p ok d) s = .next u ∧ (((u.ringMem m).reqs.getLast?).map (fun q => (q.mtype, q.seq, q.sends, q.data)) = some (leAt d 0x19 1, s.ring.mseq, 0, svData d)) ∧ u.ring.mseq = (s.ring.mseq + 1) % 65536 ∧ OnlyChanges [.clk, .ring, .sets] [] s u) ∧
  (∀ (dt : Nat) (p : Fin 2) (ok : Bool) (d : List Byte) (s : State), leAt d 0x19 1 ≠ 3 → 
      ∃ u, exec (.discard dt p ok d) s = .next u ∧ u = (s.elapse dt)) ∧
  (∀ (dt : Nat) (p : Fin 2) (ok : Bool) (d : List Byte) (m : Fin 255) (s : State), leAt d 0x19 1 = 3 → s.get RNG_CFG_ROLE = 1 → ((s.get RNG_ST_READY = 1 ∧ s.ring.clkLost = false)) → leAt d 0x18 1 = m.val → 
      ∃ u, exec (.discard dt p ok d) s = .next u ∧ (((u.ringMem m).reqs.getLast?).map (fun q => (q.mtype, q.seq, q.sends, q.data)) = some (leAt d 0x19 1, s.ring.mseq, 0, svData d)) ∧ u.ring.mseq = (s.ring.mseq + 1) % 65536 ∧ OnlyChanges [.clk, .ring, .sets] [] s u) ∧
  (∀ (dt : Nat) (p : Fin 2) (ok : Bool) (d : List Byte) (s : State), leAt d 0x19 1 ≠ 4 → 
      ∃ u, exec (.service dt p ok d) s = .next u ∧ u = (s.elapse dt)) ∧
  (∀ (dt : Nat) (p : Fin 2) (ok : Bool) (d : List Byte) (m : Fin 255) (s : State), leAt d 0x19 1 = 4 → s.get RNG_CFG_ROLE = 1 → ((s.get RNG_ST_READY = 1 ∧ s.ring.clkLost = false)) → leAt d 0x18 1 = m.val → 
      ∃ u, exec (.service dt p ok d) s = .next u ∧ (((u.ringMem m).reqs.getLast?).map (fun q => (q.mtype, q.seq, q.sends, q.data)) = some (leAt d 0x19 1, s.ring.mseq, 0, svData d)) ∧ u.ring.mseq = (s.ring.mseq + 1) % 65536 ∧ OnlyChanges [.clk, .ring, .sets] [] s u) ∧
  (∀ (dt : Nat) (p : Fin 2) (ok : Bool) (d : List Byte) (s : State), leAt d 0x19 1 ≠ 5 → 
      ∃ u, exec (.fault dt p ok d) s = .next u ∧ u = (s.elapse dt)) ∧
  (∀ (dt : Nat) (p : Fin 2) (ok : Bool) (d : List Byte) (m : Fin 255) (s : State), leAt d 0x19 1 = 5 → s.get RNG_CFG_ROLE = 1 → ((s.get RNG_ST_READY = 1 ∧ s.ring.clkLost = false)) → leAt d 0x18 1 = m.val → 
      ∃ u, exec (.fault dt p ok d) s = .next u ∧ (((u.ringMem m).reqs.getLast?).map (fun q => (q.mtype, q.seq, q.sends, q.data)) = some (leAt d 0x19 1, s.ring.mseq, 0, svData d)) ∧ u.ring.mseq = (s.ring.mseq + 1) % 65536 ∧ OnlyChanges [.clk, .ring, .sets] [] s u) ∧
  (∀ (dt : Nat) (p : Fin 2) (cyc turn : BitVec 32) (q : Fin 4) (t1 : Nat) (v : Nat) (l : List Nat) (s : State), tabFind s.tim.t1 p = some (cyc.toNat, t1) → (((s.elapse dt).now256 : Int) + 64 * q.val - t1 - turn.toNat) / 2 = (v : Int) → v ≤ 256000 → tabGet [] s.tim.delays p = l → l.length < 16 → 
      ∃ u, exec (.linkDelayResponse dt p cyc turn q) s = .next u ∧ u.rd (TIM_LDLY p) = (l.sum + v) / (l.length + 1) % 2 ^ 32 ∧ tabGet [] u.tim.delays p = l ++ [v] ∧ tabFind u.tim.t1 p = none ∧ OnlyChanges [.clk, .tim, .sets] [TIM_LDLY p] s u) ∧
  (∀ (dt : Nat) (p : Fin 2) (cyc turn : BitVec 32) (q : Fin 4) (t1 : Nat) (v : Nat) (x : Nat) (l : List Nat) (s : State), tabFind s.tim.t1 p = some (cyc.toNat, t1) → (((s.elapse dt).now256 : Int) + 64 * q.val - t1 - turn.toNat) / 2 = (v : Int) → v ≤ 256000 → tabGet [] s.tim.delays p = x :: l → l.length = 15 → 
      ∃ u, exec (.linkDelayResponse dt p cyc turn q) s = .next u ∧ u.rd (TIM_LDLY p) = (l.sum + v) / 16 % 2 ^ 32 ∧ tabGet [] u.tim.delays p = l ++ [v]) ∧
  (∀ (dt : Nat) (p : Fin 2) (cyc turn : BitVec 32) (q : Fin 4) (t1 : Nat) (s : State), tabFind s.tim.t1 p = some (cyc.toNat, t1) → ((((s.elapse dt).now256 : Int) + 64 * q.val - t1 - turn.toNat) / 2 < 0 ∨ 256000 < (((s.elapse dt).now256 : Int) + 64 * q.val - t1 - turn.toNat) / 2) → 
      ∃ u, exec (.linkDelayResponse dt p cyc turn q) s = .next u ∧ u.tim.delays = s.tim.delays ∧ tabFind u.tim.t1 p = none ∧ OnlyChanges [.clk, .tim, .sets] [] s u) ∧
  (∀ (dt : Nat) (p : Fin 2) (cyc turn : BitVec 32) (q : Fin 4) (s : State), (tabFind s.tim.t1 p = none ∨ (tabFind s.tim.t1 p).map (fun e => e.1) ≠ some cyc.toNat) → 
      ∃ u, exec (.linkDelayResponse dt p cyc turn q) s = .next u ∧ u = (s.elapse dt))

/-- Samples, steps, holdover and permits of the time unit. A Sync of the selected master with a known path delay, or the Follow_Up of a two-step one, is a sample shown in TIM_OFS. In LOCKED it sets the rate by R411 (the rounding of each term is free, log 2) and clears OUTRUN; an outlier is counted and the OUTMAX-th enters REFUSED. In FREE it leads to LOCKED or STEPWAIT once qualified; in STEPWAIT the clock is stepped only when R409 holds, so that the offset is 0 within 1 ns; REFUSED and HOLDOVER return to LOCKED. HOLDOVER follows HOLDT without a sample. PERMIT is taken in REFUSED only. Each change of state fires event 0x58. Anything else leaves the state. -/
def Obligations.TimeSamples : Prop :=
  (∀ (dt : Nat) (dom : BitVec 8) (ck : BitVec 64) (port seq : BitVec 16) (sec : BitVec 48) (ns : BitVec 32) (corr : BitVec 64) (k : BitVec 8) (v th : Int) (s : State), ((s.get TIM_CFG_SRC = 2 ∧ s.get TIM_PTP_DOMAIN = dom.toNat ∧ s.tim.parent = some (ck.toNat, port.toNat))) → ((-7 ≤ k.toInt ∧ k.toInt ≤ 1)) → s.tim.delay = some v → (((s.elapse dt).now16 : Int) - (ptpTime sec.toNat ns.toNat + corr.toInt) - v) / 256 = th → s.get TIM_ST_STATE = 2 → th.natAbs ≤ s.rd TIM_JMP * 256 → 
      ∃ u, exec (.sync dt dom ck port seq false sec ns corr k) s = .next u ∧ signed 32 (u.rd TIM_OFS) = satSigned 32 (th / 256) ∧ u.tim.lastAt = (s.elapse dt).clk.elapsed ∧ u.get TIM_ST_STATE = 2 ∧ u.get TIM_ST_OUTRUN = 0 ∧ clampInt (-2147483) 2147483 (clampInt (-2147483) 2147483 (s.tim.ri - (th * 2 ^ 24 / ((2 ^ s.get TIM_CFG_KI * (logInterval k.toInt : Nat) : Nat) : Int)) - 1) - (th * 2 ^ 24 / ((2 ^ s.get TIM_CFG_KP * (logInterval k.toInt : Nat) : Nat) : Int)) - 1) ≤ signed 32 (u.rd TIM_RATE) ∧ signed 32 (u.rd TIM_RATE) ≤ clampInt (-2147483) 2147483 (clampInt (-2147483) 2147483 (s.tim.ri - (th * 2 ^ 24 / ((2 ^ s.get TIM_CFG_KI * (logInterval k.toInt : Nat) : Nat) : Int))) - (th * 2 ^ 24 / ((2 ^ s.get TIM_CFG_KP * (logInterval k.toInt : Nat) : Nat) : Int))) ∧ (th * 2 ^ 24 % ((2 ^ s.get TIM_CFG_KI * (logInterval k.toInt : Nat) : Nat) : Int) = 0 → th * 2 ^ 24 % ((2 ^ s.get TIM_CFG_KP * (logInterval k.toInt : Nat) : Nat) : Int) = 0 → signed 32 (u.rd TIM_RATE) = clampInt (-2147483) 2147483 (clampInt (-2147483) 2147483 (s.tim.ri - (th * 2 ^ 24 / ((2 ^ s.get TIM_CFG_KI * (logInterval k.toInt : Nat) : Nat) : Int))) - (th * 2 ^ 24 / ((2 ^ s.get TIM_CFG_KP * (logInterval k.toInt : Nat) : Nat) : Int)))) ∧ u.clk = (s.elapse dt).clk ∧ OnlyChanges [.clk, .fresh, .tim, .sets] [TIM_OFS, TIM_ST, TIM_RATE] s u) ∧
  (∀ (dt : Nat) (dom : BitVec 8) (ck : BitVec 64) (port seq : BitVec 16) (sec : BitVec 48) (ns : BitVec 32) (corr : BitVec 64) (k : BitVec 8) (v th : Int) (s : State), ((s.get TIM_CFG_SRC = 2 ∧ s.get TIM_PTP_DOMAIN = dom.toNat ∧ s.tim.parent = some (ck.toNat, port.toNat))) → ((-7 ≤ k.toInt ∧ k.toInt ≤ 1)) → s.tim.delay = some v → (((s.elapse dt).now16 : Int) - (ptpTime sec.toNat ns.toNat + corr.toInt) - v) / 256 = th → s.get TIM_ST_STATE = 2 → s.rd TIM_JMP * 256 < th.natAbs → min (s.get TIM_ST_OUTRUN + 1) 255 < s.get TIM_CFG_OUTMAX → 
      ∃ u, exec (.sync dt dom ck port seq false sec ns corr k) s = .next u ∧ signed 32 (u.rd TIM_OFS) = satSigned 32 (th / 256) ∧ u.tim.lastAt = (s.elapse dt).clk.elapsed ∧ u.get TIM_ST_STATE = 2 ∧ u.get TIM_ST_OUTRUN = min (s.get TIM_ST_OUTRUN + 1) 255 ∧ u.rd TIM_RATE = s.rd TIM_RATE ∧ u.clk = (s.elapse dt).clk ∧ OnlyChanges [.clk, .tim, .sets] [TIM_OFS, TIM_ST] s u) ∧
  (∀ (dt : Nat) (dom : BitVec 8) (ck : BitVec 64) (port seq : BitVec 16) (sec : BitVec 48) (ns : BitVec 32) (corr : BitVec 64) (k : BitVec 8) (v th : Int) (s : State), ((s.get TIM_CFG_SRC = 2 ∧ s.get TIM_PTP_DOMAIN = dom.toNat ∧ s.tim.parent = some (ck.toNat, port.toNat))) → ((-7 ≤ k.toInt ∧ k.toInt ≤ 1)) → s.tim.delay = some v → (((s.elapse dt).now16 : Int) - (ptpTime sec.toNat ns.toNat + corr.toInt) - v) / 256 = th → (s.get TIM_ST_STATE = 2 ∨ s.get TIM_ST_STATE = 4) → s.rd TIM_JMP * 256 < th.natAbs → s.get TIM_CFG_OUTMAX ≤ min (s.get TIM_ST_OUTRUN + 1) 255 → 
      ∃ u, exec (.sync dt dom ck port seq false sec ns corr k) s = .next u ∧ signed 32 (u.rd TIM_OFS) = satSigned 32 (th / 256) ∧ u.tim.lastAt = (s.elapse dt).clk.elapsed ∧ u.get TIM_ST_STATE = 3 ∧ u.get TIM_ST_REFCNT = min (s.get TIM_ST_REFCNT + 1) 255 ∧ u.rd TIM_RATE = s.rd TIM_RATE ∧ u.get (KNL_EVB_FIRES 0x58) = (s.get (KNL_EVB_FIRES 0x58) + 1) % 65536 ∧ u.clk = (s.elapse dt).clk) ∧
  (∀ (dt : Nat) (dom : BitVec 8) (ck : BitVec 64) (port seq : BitVec 16) (sec : BitVec 48) (ns : BitVec 32) (corr : BitVec 64) (k : BitVec 8) (v th : Int) (s : State), ((s.get TIM_CFG_SRC = 2 ∧ s.get TIM_PTP_DOMAIN = dom.toNat ∧ s.tim.parent = some (ck.toNat, port.toNat))) → ((-7 ≤ k.toInt ∧ k.toInt ≤ 1)) → s.tim.delay = some v → (((s.elapse dt).now16 : Int) - (ptpTime sec.toNat ns.toNat + corr.toInt) - v) / 256 = th → s.get TIM_ST_STATE = 4 → th.natAbs ≤ s.rd TIM_JMP * 256 → 
      ∃ u, exec (.sync dt dom ck port seq false sec ns corr k) s = .next u ∧ signed 32 (u.rd TIM_OFS) = satSigned 32 (th / 256) ∧ u.tim.lastAt = (s.elapse dt).clk.elapsed ∧ u.get TIM_ST_STATE = 2 ∧ u.get TIM_ST_OUTRUN = 0 ∧ u.get (KNL_EVB_FIRES 0x58) = (s.get (KNL_EVB_FIRES 0x58) + 1) % 65536 ∧ u.clk = (s.elapse dt).clk) ∧
  (∀ (dt : Nat) (dom : BitVec 8) (ck : BitVec 64) (port seq : BitVec 16) (sec : BitVec 48) (ns : BitVec 32) (corr : BitVec 64) (k : BitVec 8) (v th : Int) (s : State), ((s.get TIM_CFG_SRC = 2 ∧ s.get TIM_PTP_DOMAIN = dom.toNat ∧ s.tim.parent = some (ck.toNat, port.toNat))) → ((-7 ≤ k.toInt ∧ k.toInt ≤ 1)) → s.tim.delay = some v → (((s.elapse dt).now16 : Int) - (ptpTime sec.toNat ns.toNat + corr.toInt) - v) / 256 = th → s.get TIM_ST_STATE = 3 → th.natAbs ≤ s.rd TIM_JMP * 256 → 
      ∃ u, exec (.sync dt dom ck port seq false sec ns corr k) s = .next u ∧ signed 32 (u.rd TIM_OFS) = satSigned 32 (th / 256) ∧ u.tim.lastAt = (s.elapse dt).clk.elapsed ∧ u.get TIM_ST_STATE = 2 ∧ u.tim.ri = signed 32 (s.rd TIM_RATE) ∧ u.rd TIM_RATE = s.rd TIM_RATE ∧ u.get (KNL_EVB_FIRES 0x58) = (s.get (KNL_EVB_FIRES 0x58) + 1) % 65536 ∧ u.clk = (s.elapse dt).clk) ∧
  (∀ (dt : Nat) (dom : BitVec 8) (ck : BitVec 64) (port seq : BitVec 16) (sec : BitVec 48) (ns : BitVec 32) (corr : BitVec 64) (k : BitVec 8) (v th : Int) (s : State), ((s.get TIM_CFG_SRC = 2 ∧ s.get TIM_PTP_DOMAIN = dom.toNat ∧ s.tim.parent = some (ck.toNat, port.toNat))) → ((-7 ≤ k.toInt ∧ k.toInt ≤ 1)) → s.tim.delay = some v → (((s.elapse dt).now16 : Int) - (ptpTime sec.toNat ns.toNat + corr.toInt) - v) / 256 = th → s.get TIM_ST_STATE = 3 → s.rd TIM_JMP * 256 < th.natAbs → 
      ∃ u, exec (.sync dt dom ck port seq false sec ns corr k) s = .next u ∧ signed 32 (u.rd TIM_OFS) = satSigned 32 (th / 256) ∧ u.tim.lastAt = (s.elapse dt).clk.elapsed ∧ u.get TIM_ST_STATE = 3 ∧ u.rd TIM_RATE = s.rd TIM_RATE ∧ u.clk = (s.elapse dt).clk ∧ OnlyChanges [.clk, .tim, .sets] [TIM_OFS] s u) ∧
  (∀ (dt : Nat) (dom : BitVec 8) (ck : BitVec 64) (port seq : BitVec 16) (sec : BitVec 48) (ns : BitVec 32) (corr : BitVec 64) (k : BitVec 8) (v th : Int) (s : State), ((s.get TIM_CFG_SRC = 2 ∧ s.get TIM_PTP_DOMAIN = dom.toNat ∧ s.tim.parent = some (ck.toNat, port.toNat))) → ((-7 ≤ k.toInt ∧ k.toInt ≤ 1)) → s.tim.delay = some v → (((s.elapse dt).now16 : Int) - (ptpTime sec.toNat ns.toNat + corr.toInt) - v) / 256 = th → s.get TIM_ST_STATE = 0 → s.tim.qual < 4 → 
      ∃ u, exec (.sync dt dom ck port seq false sec ns corr k) s = .next u ∧ signed 32 (u.rd TIM_OFS) = satSigned 32 (th / 256) ∧ u.tim.lastAt = (s.elapse dt).clk.elapsed ∧ u.get TIM_ST_STATE = 0 ∧ u.tim.qual = s.tim.qual + 1 ∧ u.clk = (s.elapse dt).clk ∧ OnlyChanges [.clk, .tim, .sets] [TIM_OFS] s u) ∧
  (∀ (dt : Nat) (dom : BitVec 8) (ck : BitVec 64) (port seq : BitVec 16) (sec : BitVec 48) (ns : BitVec 32) (corr : BitVec 64) (k : BitVec 8) (v th : Int) (s : State), ((s.get TIM_CFG_SRC = 2 ∧ s.get TIM_PTP_DOMAIN = dom.toNat ∧ s.tim.parent = some (ck.toNat, port.toNat))) → ((-7 ≤ k.toInt ∧ k.toInt ≤ 1)) → s.tim.delay = some v → (((s.elapse dt).now16 : Int) - (ptpTime sec.toNat ns.toNat + corr.toInt) - v) / 256 = th → s.get TIM_ST_STATE = 0 → 4 ≤ s.tim.qual → th.natAbs ≤ s.rd TIM_JMP * 256 → 
      ∃ u, exec (.sync dt dom ck port seq false sec ns corr k) s = .next u ∧ signed 32 (u.rd TIM_OFS) = satSigned 32 (th / 256) ∧ u.tim.lastAt = (s.elapse dt).clk.elapsed ∧ u.get TIM_ST_STATE = 2 ∧ u.get TIM_ST_STEPS = s.get TIM_ST_STEPS ∧ u.get (KNL_EVB_FIRES 0x58) = (s.get (KNL_EVB_FIRES 0x58) + 1) % 65536 ∧ u.clk = (s.elapse dt).clk) ∧
  (∀ (dt : Nat) (dom : BitVec 8) (ck : BitVec 64) (port seq : BitVec 16) (sec : BitVec 48) (ns : BitVec 32) (corr : BitVec 64) (k : BitVec 8) (v th : Int) (s : State), ((s.get TIM_CFG_SRC = 2 ∧ s.get TIM_PTP_DOMAIN = dom.toNat ∧ s.tim.parent = some (ck.toNat, port.toNat))) → ((-7 ≤ k.toInt ∧ k.toInt ≤ 1)) → s.tim.delay = some v → (((s.elapse dt).now16 : Int) - (ptpTime sec.toNat ns.toNat + corr.toInt) - v) / 256 = th → s.get TIM_ST_STATE = 0 → 4 ≤ s.tim.qual → s.rd TIM_JMP * 256 < th.natAbs → 
      ∃ u, exec (.sync dt dom ck port seq false sec ns corr k) s = .next u ∧ signed 32 (u.rd TIM_OFS) = satSigned 32 (th / 256) ∧ u.tim.lastAt = (s.elapse dt).clk.elapsed ∧ u.get TIM_ST_STATE = 1 ∧ u.get TIM_ST_STEPS = s.get TIM_ST_STEPS ∧ u.get (KNL_EVB_FIRES 0x58) = (s.get (KNL_EVB_FIRES 0x58) + 1) % 65536 ∧ u.clk = (s.elapse dt).clk) ∧
  (∀ (dt : Nat) (dom : BitVec 8) (ck : BitVec 64) (port seq : BitVec 16) (sec : BitVec 48) (ns : BitVec 32) (corr : BitVec 64) (k : BitVec 8) (v th : Int) (s : State), ((s.get TIM_CFG_SRC = 2 ∧ s.get TIM_PTP_DOMAIN = dom.toNat ∧ s.tim.parent = some (ck.toNat, port.toNat))) → ((-7 ≤ k.toInt ∧ k.toInt ≤ 1)) → s.tim.delay = some v → (((s.elapse dt).now16 : Int) - (ptpTime sec.toNat ns.toNat + corr.toInt) - v) / 256 = th → s.get TIM_ST_STATE = 1 → s.stepAllowed = false → 
      ∃ u, exec (.sync dt dom ck port seq false sec ns corr k) s = .next u ∧ signed 32 (u.rd TIM_OFS) = satSigned 32 (th / 256) ∧ u.tim.lastAt = (s.elapse dt).clk.elapsed ∧ u.get TIM_ST_STATE = 1 ∧ u.get TIM_ST_STEPS = s.get TIM_ST_STEPS ∧ u.clk = (s.elapse dt).clk ∧ OnlyChanges [.clk, .tim, .sets] [TIM_OFS] s u) ∧
  (∀ (dt : Nat) (dom : BitVec 8) (ck : BitVec 64) (port seq : BitVec 16) (sec : BitVec 48) (ns : BitVec 32) (corr : BitVec 64) (k : BitVec 8) (v th : Int) (s : State), ((s.get TIM_CFG_SRC = 2 ∧ s.get TIM_PTP_DOMAIN = dom.toNat ∧ s.tim.parent = some (ck.toNat, port.toNat))) → ((-7 ≤ k.toInt ∧ k.toInt ≤ 1)) → s.tim.delay = some v → (((s.elapse dt).now16 : Int) - (ptpTime sec.toNat ns.toNat + corr.toInt) - v) / 256 = th → s.get TIM_ST_STATE = 1 → s.stepAllowed = true → (th.natAbs : Int) ≤ (s.elapse dt).now * 256 → (s.elapse dt).now + 10 ^ 9 < 2 ^ 48 * 10 ^ 9 → 
      ∃ u, exec (.sync dt dom ck port seq false sec ns corr k) s = .next u ∧ signed 32 (u.rd TIM_OFS) = satSigned 32 (th / 256) ∧ u.get TIM_ST_STATE = 2 ∧ u.get TIM_ST_STEPS = min (s.get TIM_ST_STEPS + 1) 255 ∧ u.get TIM_ST_PERMIT = 0 ∧ (u.now : Int) = (s.elapse dt).now + signed 64 (u.rd64 TIM_STEP) ∧ -256 < signed 64 (u.rd64 TIM_STEP) * 256 + th ∧ signed 64 (u.rd64 TIM_STEP) * 256 + th ≤ 256 ∧ u.rd TIM_STEPT = u.now % 2 ^ 32 ∧ u.get (KNL_EVB_FIRES 0x58) = (s.get (KNL_EVB_FIRES 0x58) + 1) % 65536) ∧
  (∀ (dt : Nat) (dom : BitVec 8) (ck : BitVec 64) (port seq : BitVec 16) (sec : BitVec 48) (ns : BitVec 32) (corr : BitVec 64) (k : BitVec 8) (two : Bool) (s : State), (¬ (s.get TIM_CFG_SRC = 2 ∧ s.get TIM_PTP_DOMAIN = dom.toNat ∧ s.tim.parent = some (ck.toNat, port.toNat)) ∨ ¬ (-7 ≤ k.toInt ∧ k.toInt ≤ 1)) → 
      ∃ u, exec (.sync dt dom ck port seq two sec ns corr k) s = .next u ∧ u = (s.elapse dt)) ∧
  (∀ (dt : Nat) (dom : BitVec 8) (ck : BitVec 64) (port seq : BitVec 16) (sec : BitVec 48) (ns : BitVec 32) (corr : BitVec 64) (k : BitVec 8) (s : State), ((s.get TIM_CFG_SRC = 2 ∧ s.get TIM_PTP_DOMAIN = dom.toNat ∧ s.tim.parent = some (ck.toNat, port.toNat))) → ((-7 ≤ k.toInt ∧ k.toInt ≤ 1)) → 
      ∃ u, exec (.sync dt dom ck port seq true sec ns corr k) s = .next u ∧ u.tim.sync = some (seq.toNat, ((s.elapse dt).now16 : Int), corr.toInt, logInterval k.toInt) ∧ OnlyChanges [.clk, .tim, .sets] [] s u) ∧
  (∀ (dt : Nat) (dom : BitVec 8) (ck : BitVec 64) (port seq : BitVec 16) (sec : BitVec 48) (ns : BitVec 32) (corr : BitVec 64) (k : BitVec 8) (s : State), ((s.get TIM_CFG_SRC = 2 ∧ s.get TIM_PTP_DOMAIN = dom.toNat ∧ s.tim.parent = some (ck.toNat, port.toNat))) → ((-7 ≤ k.toInt ∧ k.toInt ≤ 1)) → s.tim.delay = none → 
      ∃ u, exec (.sync dt dom ck port seq false sec ns corr k) s = .next u ∧ u.tim.pair = some (ptpTime sec.toNat ns.toNat + corr.toInt, ((s.elapse dt).now16 : Int)) ∧ OnlyChanges [.clk, .tim, .sets] [] s u) ∧
  (∀ (dt : Nat) (dom : BitVec 8) (ck : BitVec 64) (port seq : BitVec 16) (sec : BitVec 48) (ns : BitVec 32) (corr : BitVec 64) (t2 c v th : Int) (ts : Nat) (s : State), ((s.get TIM_CFG_SRC = 2 ∧ s.get TIM_PTP_DOMAIN = dom.toNat ∧ s.tim.parent = some (ck.toNat, port.toNat))) → s.tim.sync = some (seq.toNat, t2, c, ts) → s.tim.delay = some v → (t2 - (ptpTime sec.toNat ns.toNat + c + corr.toInt) - v) / 256 = th → s.get TIM_ST_STATE = 3 → s.rd TIM_JMP * 256 < th.natAbs → 
      ∃ u, exec (.followUp dt dom ck port seq sec ns corr) s = .next u ∧ signed 32 (u.rd TIM_OFS) = satSigned 32 (th / 256) ∧ u.tim.lastAt = (s.elapse dt).clk.elapsed ∧ u.get TIM_ST_STATE = 3 ∧ u.tim.sync = none ∧ OnlyChanges [.clk, .tim, .sets] [TIM_OFS] s u) ∧
  (∀ (dt : Nat) (dom : BitVec 8) (ck : BitVec 64) (port seq : BitVec 16) (sec : BitVec 48) (ns : BitVec 32) (corr : BitVec 64) (s : State), (¬ (s.get TIM_CFG_SRC = 2 ∧ s.get TIM_PTP_DOMAIN = dom.toNat ∧ s.tim.parent = some (ck.toNat, port.toNat)) ∨ (s.tim.sync).map (fun x => x.1) ≠ some seq.toNat) → 
      ∃ u, exec (.followUp dt dom ck port seq sec ns corr) s = .next u ∧ u = (s.elapse dt)) ∧
  (∀ (dt : Nat) (s : State), ((s.get TIM_ST_STATE = 2 ∧ s.get TIM_CFG_SRC ≠ 0 ∧ s.tim.lastAt + s.get TIM_CFG_HOLDT * 10000000 ≤ (s.elapse dt).clk.elapsed)) → 
      ∃ u, exec (.holdover dt) s = .next u ∧ u.get TIM_ST_STATE = 4 ∧ u.rd TIM_RATE = s.rd TIM_RATE ∧ u.get (KNL_EVB_FIRES 0x58) = (s.get (KNL_EVB_FIRES 0x58) + 1) % 65536) ∧
  (∀ (dt : Nat) (s : State), (¬ (s.get TIM_ST_STATE = 2 ∧ s.get TIM_CFG_SRC ≠ 0 ∧ s.tim.lastAt + s.get TIM_CFG_HOLDT * 10000000 ≤ (s.elapse dt).clk.elapsed)) → 
      ∃ u, exec (.holdover dt) s = .next u ∧ u = (s.elapse dt)) ∧
  (∀ (dt : Nat) (who : Accessor) (s : State), s.get TIM_ST_STATE = 3 → 
      ∃ u, exec (.permit dt who) s = .next u ∧ u.get TIM_ST_STATE = 1 ∧ u.get TIM_ST_PERMIT = 1 ∧ u.get (KNL_EVB_FIRES 0x58) = (s.get (KNL_EVB_FIRES 0x58) + 1) % 65536 ∧ u.rd TIM_RATE = s.rd TIM_RATE) ∧
  (∀ (dt : Nat) (who : Accessor) (s : State), s.get TIM_ST_STATE ≠ 3 → 
      ∃ u, exec (.permit dt who) s = .next u ∧ u = (s.elapse dt).accessError who 4 TIM_CTL 1 ∧ u.rd TIM_ST = s.rd TIM_ST)

/-- Announce, selection and path delay of IEEE 1588-2019. An Announce of the configured domain is kept with its time, in place of an earlier one of its port. The selection takes the qualified foreign master that no other precedes in the default order (PRESUMED, log 63) and shows it in TIM_GMID; without one SEL is 0. A selected master that has been silent for three of its intervals is dropped. The port sends Delay_Req or Pdelay_Req by DM and answers a Pdelay_Req in P2P. A response to its last request gives the path delay in TIM_MPD. Messages of another domain, port, mechanism or sequence number change nothing. -/
def Obligations.PtpMessages : Prop :=
  (∀ (dt : Nat) (dom : BitVec 8) (ck : BitVec 64) (port : BitVec 16) (p1 cl acc : BitVec 8) (var : BitVec 16) (p2 : BitVec 8) (gm : BitVec 64) (st ut : BitVec 16) (ok : Bool) (k : BitVec 8) (s : State), ((s.get TIM_CFG_SRC = 2 ∧ s.get TIM_PTP_DOMAIN = dom.toNat)) → 
      ∃ u, exec (.announce dt dom ck port p1 cl acc var p2 gm st ut ok k) s = .next u ∧ (∃ f, f ∈ u.tim.masters ∧ f.clock = ck.toNat ∧ f.port = port.toNat ∧ f.prio1 = p1.toNat ∧ f.cls = cl.toNat ∧ f.gm = gm.toNat ∧ f.prio2 = p2.toNat ∧ f.seenAt = (s.elapse dt).clk.elapsed) ∧ (∀ f, f ∈ u.tim.masters → f ∈ s.tim.masters ∨ f.clock = ck.toNat ∧ f.port = port.toNat ∧ f.seenAt = (s.elapse dt).clk.elapsed) ∧ (∀ f, f ∈ s.tim.masters → f.clock ≠ ck.toNat ∨ f.port ≠ port.toNat → f ∈ u.tim.masters) ∧ (s.tim.parent = some (ck.toNat, port.toNat) → u.get TIM_UTC_OFS = ut.toNat ∧ u.get TIM_UTC_VALID = b2n ok) ∧ OnlyChanges [.clk, .tim, .sets] [TIM_UTC] s u) ∧
  (∀ (dt : Nat) (dom : BitVec 8) (ck : BitVec 64) (port : BitVec 16) (p1 cl acc : BitVec 8) (var : BitVec 16) (p2 : BitVec 8) (gm : BitVec 64) (st ut : BitVec 16) (ok : Bool) (k : BitVec 8) (s : State), (¬ (s.get TIM_CFG_SRC = 2 ∧ s.get TIM_PTP_DOMAIN = dom.toNat)) → 
      ∃ u, exec (.announce dt dom ck port p1 cl acc var p2 gm st ut ok k) s = .next u ∧ u = (s.elapse dt)) ∧
  (∀ (dt : Nat) (s : State), s.get TIM_CFG_SRC = 2 → 
      ∃ u, exec (.grandmasterChange dt) s = .next u ∧ (u.get TIM_PTP_SEL = 1 → ∃ g, g ∈ s.tim.masters ∧ g.qualified (s.elapse dt).clk.elapsed = true ∧ u.rd64 TIM_GMID = g.gm % 2 ^ 64 ∧ u.get TIM_UTC_OFS = g.utc % 65536 ∧ u.tim.parent = some (g.clock, g.port) ∧ ∀ f, f ∈ s.tim.masters → f.qualified (s.elapse dt).clk.elapsed = true → keyBefore f.key g.key = false) ∧ (u.get TIM_PTP_SEL = 0 → u.rd64 TIM_GMID = 0 ∧ u.tim.parent = none ∧ ∀ f, f ∈ s.tim.masters → f.qualified (s.elapse dt).clk.elapsed = false) ∧ u.tim.masters = s.tim.masters ∧ u.get TIM_ST_STATE = s.get TIM_ST_STATE ∧ OnlyChanges [.clk, .tim, .sets] [TIM_PTP, TIM_GMID, TIM_GMID + 4, TIM_UTC] s u) ∧
  (∀ (dt : Nat) (s : State), s.get TIM_CFG_SRC ≠ 2 → 
      ∃ u, exec (.grandmasterChange dt) s = .next u ∧ u = (s.elapse dt)) ∧
  (∀ (dt : Nat) (c p : Nat) (f : Foreign) (s : State), s.tim.parent = some (c, p) → (s.tim.masters.find? (fun g => g.clock == c && g.port == p) = some f) → f.seenAt + 3 * f.interval ≤ (s.elapse dt).clk.elapsed → 
      ∃ u, exec (.announceReceiptTimeout dt) s = .next u ∧ (u.get TIM_PTP_SEL = 1 → ∃ g, g ∈ (s.tim.masters.filter fun (g : Foreign) => !(g.clock == c && g.port == p)) ∧ g.qualified (s.elapse dt).clk.elapsed = true ∧ u.rd64 TIM_GMID = g.gm % 2 ^ 64 ∧ u.get TIM_UTC_OFS = g.utc % 65536 ∧ u.tim.parent = some (g.clock, g.port) ∧ ∀ f, f ∈ (s.tim.masters.filter fun (g : Foreign) => !(g.clock == c && g.port == p)) → f.qualified (s.elapse dt).clk.elapsed = true → keyBefore f.key g.key = false) ∧ (u.get TIM_PTP_SEL = 0 → u.rd64 TIM_GMID = 0 ∧ u.tim.parent = none ∧ ∀ f, f ∈ (s.tim.masters.filter fun (g : Foreign) => !(g.clock == c && g.port == p)) → f.qualified (s.elapse dt).clk.elapsed = false) ∧ (u.tim.masters = (s.tim.masters.filter fun (g : Foreign) => !(g.clock == c && g.port == p))) ∧ u.get TIM_ST_STATE = s.get TIM_ST_STATE ∧ OnlyChanges [.clk, .tim, .sets] [TIM_PTP, TIM_GMID, TIM_GMID + 4, TIM_UTC] s u) ∧
  (∀ (dt : Nat) (c p : Nat) (f : Foreign) (s : State), s.tim.parent = some (c, p) → (s.tim.masters.find? (fun g => g.clock == c && g.port == p) = some f) → (s.elapse dt).clk.elapsed < f.seenAt + 3 * f.interval → 
      ∃ u, exec (.announceReceiptTimeout dt) s = .next u ∧ u = (s.elapse dt)) ∧
  (∀ (dt : Nat) (s : State), s.tim.parent = none → 
      ∃ u, exec (.announceReceiptTimeout dt) s = .next u ∧ u = (s.elapse dt)) ∧
  (∀ (dt : Nat) (s : State), s.get TIM_CFG_SRC = 2 → 
      ∃ u, exec (.delayReq dt) s = .next u ∧ u.tim.req = some (s.tim.nextSeq, ((s.elapse dt).now16 : Int)) ∧ u.tim.nextSeq = (s.tim.nextSeq + 1) % 65536 ∧ u.tim.resp = none ∧ (u.tim.out.map (fun m => (m.kind, m.seq)) = [(s.get TIM_CFG_DM, s.tim.nextSeq)]) ∧ OnlyChanges [.clk, .tim, .sets] [] s u) ∧
  (∀ (dt : Nat) (s : State), s.get TIM_CFG_SRC ≠ 2 → 
      ∃ u, exec (.delayReq dt) s = .next u ∧ u = (s.elapse dt)) ∧
  (∀ (dt : Nat) (dom : BitVec 8) (ck : BitVec 64) (port seq : BitVec 16) (mine : Bool) (sec : BitVec 48) (ns : BitVec 32) (corr : BitVec 64) (t1 t2 t3 : Int) (s : State), ((s.get TIM_CFG_SRC = 2 ∧ s.get TIM_PTP_DOMAIN = dom.toNat ∧ s.tim.parent = some (ck.toNat, port.toNat))) → s.get TIM_CFG_DM = 0 → mine = true → s.tim.req = some (seq.toNat, t3) → s.tim.pair = some (t1, t2) → 
      ∃ u, exec (.delayResp dt dom ck port seq mine sec ns corr) s = .next u ∧ u.tim.delay = some ((t2 - t1 + (ptpTime sec.toNat ns.toNat - corr.toInt - t3)) / 2) ∧ (u.rd TIM_MPD : Int) = clampInt 0 (2 ^ 32 - 1) (((t2 - t1 + (ptpTime sec.toNat ns.toNat - corr.toInt - t3)) / 2) / 65536) ∧ u.tim.req = none ∧ OnlyChanges [.clk, .tim, .sets] [TIM_MPD] s u) ∧
  (∀ (dt : Nat) (dom : BitVec 8) (ck : BitVec 64) (port seq : BitVec 16) (mine : Bool) (sec : BitVec 48) (ns : BitVec 32) (corr : BitVec 64) (s : State), (¬ ((s.get TIM_CFG_SRC = 2 ∧ s.get TIM_PTP_DOMAIN = dom.toNat ∧ s.tim.parent = some (ck.toNat, port.toNat)) ∧ s.get TIM_CFG_DM = 0 ∧ mine = true) ∨ (s.tim.req).map (fun x => x.1) ≠ some seq.toNat ∨ s.tim.pair = none) → 
      ∃ u, exec (.delayResp dt dom ck port seq mine sec ns corr) s = .next u ∧ u = (s.elapse dt)) ∧
  (∀ (dt : Nat) (dom : BitVec 8) (ck : BitVec 64) (port seq : BitVec 16) (s : State), ((s.get TIM_CFG_SRC = 2 ∧ s.get TIM_PTP_DOMAIN = dom.toNat)) → s.get TIM_CFG_DM = 1 → 
      ∃ u, exec (.pdelayReq dt dom ck port seq) s = .next u ∧ (u.tim.out.map (fun m => (m.kind, m.seq, m.clock, m.port)) = [(2, seq.toNat, ck.toNat, port.toNat), (3, seq.toNat, ck.toNat, port.toNat)]) ∧ (∀ m, m ∈ u.tim.out → m.time = (s.elapse dt).now16) ∧ OnlyChanges [.clk, .tim, .sets] [] s u) ∧
  (∀ (dt : Nat) (dom : BitVec 8) (ck : BitVec 64) (port seq : BitVec 16) (s : State), (¬ ((s.get TIM_CFG_SRC = 2 ∧ s.get TIM_PTP_DOMAIN = dom.toNat) ∧ s.get TIM_CFG_DM = 1)) → 
      ∃ u, exec (.pdelayReq dt dom ck port seq) s = .next u ∧ u = (s.elapse dt)) ∧
  (∀ (dt : Nat) (dom : BitVec 8) (seq : BitVec 16) (mine : Bool) (sec : BitVec 48) (ns : BitVec 32) (corr : BitVec 64) (t1 : Int) (s : State), ((s.get TIM_CFG_SRC = 2 ∧ s.get TIM_PTP_DOMAIN = dom.toNat)) → s.get TIM_CFG_DM = 1 → mine = true → s.tim.req = some (seq.toNat, t1) → 
      ∃ u, exec (.pdelayResp dt dom seq mine false sec ns corr) s = .next u ∧ u.tim.delay = some ((((s.elapse dt).now16 : Int) - t1 - corr.toInt) / 2) ∧ (u.rd TIM_MPD : Int) = clampInt 0 (2 ^ 32 - 1) (((((s.elapse dt).now16 : Int) - t1 - corr.toInt) / 2) / 65536) ∧ u.tim.req = none ∧ OnlyChanges [.clk, .tim, .sets] [TIM_MPD] s u) ∧
  (∀ (dt : Nat) (dom : BitVec 8) (seq : BitVec 16) (mine : Bool) (sec : BitVec 48) (ns : BitVec 32) (corr : BitVec 64) (t1 : Int) (s : State), ((s.get TIM_CFG_SRC = 2 ∧ s.get TIM_PTP_DOMAIN = dom.toNat)) → s.get TIM_CFG_DM = 1 → mine = true → s.tim.req = some (seq.toNat, t1) → 
      ∃ u, exec (.pdelayResp dt dom seq mine true sec ns corr) s = .next u ∧ u.tim.resp = some (seq.toNat, ((s.elapse dt).now16 : Int) - t1 + ptpTime sec.toNat ns.toNat - corr.toInt) ∧ u.tim.delay = s.tim.delay ∧ OnlyChanges [.clk, .tim, .sets] [] s u) ∧
  (∀ (dt : Nat) (dom : BitVec 8) (seq : BitVec 16) (mine : Bool) (sec : BitVec 48) (ns : BitVec 32) (corr : BitVec 64) (two : Bool) (s : State), (¬ ((s.get TIM_CFG_SRC = 2 ∧ s.get TIM_PTP_DOMAIN = dom.toNat) ∧ s.get TIM_CFG_DM = 1 ∧ mine = true) ∨ (s.tim.req).map (fun x => x.1) ≠ some seq.toNat) → 
      ∃ u, exec (.pdelayResp dt dom seq mine two sec ns corr) s = .next u ∧ u = (s.elapse dt)) ∧
  (∀ (dt : Nat) (dom : BitVec 8) (seq : BitVec 16) (mine : Bool) (sec : BitVec 48) (ns : BitVec 32) (corr : BitVec 64) (v : Int) (s : State), ((s.get TIM_CFG_SRC = 2 ∧ s.get TIM_PTP_DOMAIN = dom.toNat)) → s.get TIM_CFG_DM = 1 → mine = true → s.tim.resp = some (seq.toNat, v) → 
      ∃ u, exec (.pdelayRespFollowUp dt dom seq mine sec ns corr) s = .next u ∧ u.tim.delay = some ((v - ptpTime sec.toNat ns.toNat - corr.toInt) / 2) ∧ (u.rd TIM_MPD : Int) = clampInt 0 (2 ^ 32 - 1) (((v - ptpTime sec.toNat ns.toNat - corr.toInt) / 2) / 65536) ∧ u.tim.req = none ∧ OnlyChanges [.clk, .tim, .sets] [TIM_MPD] s u ∧ u.tim.resp = none) ∧
  (∀ (dt : Nat) (dom : BitVec 8) (seq : BitVec 16) (mine : Bool) (sec : BitVec 48) (ns : BitVec 32) (corr : BitVec 64) (s : State), (¬ ((s.get TIM_CFG_SRC = 2 ∧ s.get TIM_PTP_DOMAIN = dom.toNat) ∧ s.get TIM_CFG_DM = 1 ∧ mine = true) ∨ (s.tim.resp).map (fun x => x.1) ≠ some seq.toNat) → 
      ∃ u, exec (.pdelayRespFollowUp dt dom seq mine sec ns corr) s = .next u ∧ u = (s.elapse dt))

/-- Frames, validity, timeouts, inputs, commands and cam-switch edges of the field I/O. A frame of the logic side programs its channel with the commanded state, the mode, the safe value and the hold permission, and the switch follows R437. A report shows what the field side holds, programs a channel that is in timeout or unprogrammed, and judges validity. After HBT without a frame a channel enters its timeout state; after 1 ms without a report COUPLER is set with a severe error. A stable level is accepted and counted as an event where the table says so. DIO_OUT, DIO_SET and DIO_CLR change only output channels that no track owns; a cam-switch edge sets the state of its channel at its stamp. A lasting readback mismatch sets BACKFED or OLOW. -/
def Obligations.DioChannels : Prop :=
  (∀ (dt : Nat) (c : Fin 64) (s : State), (((6 ≤ s.get CFG_STATE_STATE ∧ s.get CFG_STATE_STATE ≤ 9) ∧ (s.fieldSupply (c / 8) ≠ 3 ∨ (s.dch c).prog = true))) → 
      ∃ u, exec (.logicFrame dt c) s = .next u ∧ (u.dch c).prog = true ∧ (u.dch c).timeout = false ∧ (u.dch c).frameAt = (s.elapse dt).clk.elapsed ∧ (u.dch c).hbt = s.get (DIO_GCFG_HBT (c / 8)) ∧ (u.dch c).cmd = (s.bit64 LSH_DOUT_E c && s.bit64 DIO_OUT c) ∧ ((u.dch c).mode = (if s.bit64 LSH_DOUT_E c = true then s.get (DIO_CCFG_MODE c) else 0)) ∧ (u.dch c).safeVal = bit (s.get (DIO_CCFG_FLAGS c)) 0 ∧ (u.dch c).hold = s.holdEff c ∧ (s.bit64 LSH_DHOLD_E c = false → (u.dch c).hold = false) ∧ switchIs u c (u.dch c).on ∧ (∀ y : Fin 64, y ≠ c → u.dch y = s.dch y) ∧ OnlyChanges [.clk, .dio, .sets] [] s u) ∧
  (∀ (dt : Nat) (c : Fin 64) (s : State), (¬ ((6 ≤ s.get CFG_STATE_STATE ∧ s.get CFG_STATE_STATE ≤ 9) ∧ (s.fieldSupply (c / 8) ≠ 3 ∨ (s.dch c).prog = true))) → 
      ∃ u, exec (.logicFrame dt c) s = .next u ∧ u = (s.elapse dt)) ∧
  (∀ (dt : Nat) (c : Fin 64) (raw limit : Bool) (vlp ig : BitVec 16) (s : State), (¬ (6 ≤ s.get CFG_STATE_STATE ∧ s.get CFG_STATE_STATE ≤ 9)) → 
      ∃ u, exec (.fieldReport dt c raw limit vlp ig) s = .next u ∧ u = (s.elapse dt)) ∧
  (∀ (dt : Nat) (c : Fin 64) (raw limit : Bool) (vlp ig : BitVec 16) (s : State), (6 ≤ s.get CFG_STATE_STATE ∧ s.get CFG_STATE_STATE ≤ 9) → 
      ∃ u, exec (.fieldReport dt c raw limit vlp ig) s = .next u ∧ u.get (DIO_GMEAS_VLP (c / 8)) = vlp.toNat ∧ u.get (DIO_GMEAS_IG (c / 8)) = ig.toNat ∧ u.get (DIO_CST_LIMIT c) = b2n limit ∧ u.get (DIO_CST_ACT c) = b2n (s.dch c).on ∧ u.bit64 DIO_ACT c = (s.dch c).on ∧ u.get (DIO_CST_TIMEOUT c) = b2n (s.dch c).timeout ∧ (u.dch c).heard = (s.elapse dt).clk.elapsed ∧ (u.dch c).raw = raw ∧ (∀ y : Fin 64, y ≠ c → u.dch y = s.dch y)) ∧
  (∀ (dt : Nat) (c : Fin 64) (raw limit : Bool) (vlp ig : BitVec 16) (s : State), (6 ≤ s.get CFG_STATE_STATE ∧ s.get CFG_STATE_STATE ≤ 9) → ((s.dch c).prog = false ∨ (s.dch c).timeout = true ∧ (s.get CFG_STATE_STATE = 8 ∨ s.get CFG_STATE_STATE = 9)) → 
      ∃ u, exec (.fieldReport dt c raw limit vlp ig) s = .next u ∧ (u.dch c).prog = true ∧ (u.dch c).timeout = false ∧ (u.dch c).frameAt = (s.elapse dt).clk.elapsed ∧ (u.dch c).hbt = s.get (DIO_GCFG_HBT (c / 8)) ∧ (u.dch c).cmd = (s.bit64 LSH_DOUT_E c && s.bit64 DIO_OUT c) ∧ ((u.dch c).mode = (if s.bit64 LSH_DOUT_E c = true then s.get (DIO_CCFG_MODE c) else 0)) ∧ (u.dch c).safeVal = bit (s.get (DIO_CCFG_FLAGS c)) 0 ∧ (u.dch c).hold = s.holdEff c ∧ (s.bit64 LSH_DHOLD_E c = false → (u.dch c).hold = false) ∧ switchIs u c (u.dch c).on) ∧
  (∀ (dt : Nat) (c : Fin 64) (raw limit : Bool) (vlp ig : BitVec 16) (t : Nat) (s : State), (6 ≤ s.get CFG_STATE_STATE ∧ s.get CFG_STATE_STATE ≤ 9) → (s.dch c).prog = true → (s.dch c).timeout = false → (s.elapse dt).clk.elapsed < (s.dch c).frameAt + (s.dch c).hbt * 1100000 → s.fieldSupply (c / 8) ≤ 1 → s.get (DIO_CST_COUPLER c) = 0 → s.get (DIO_CCFG_MODE c) ≠ 1 → s.get (DIO_CST_INVALID c) = 1 → (s.dch c).okAt = some t → t + filtTime (s.get (DIO_CCFG_FILT c)) ≤ (s.elapse dt).clk.elapsed → 
      ∃ u, exec (.fieldReport dt c raw limit vlp ig) s = .next u ∧ u.bit64 DIO_VALID c = true ∧ u.get (DIO_CST_INVALID c) = 0 ∧ u.bit64 DIO_IN c = ((s.dch c).filt != bit (s.get (DIO_CCFG_FLAGS c)) 3) ∧ u.get (DIO_CST_LEVEL c) = b2n (u.bit64 DIO_IN c) ∧ (u.dch c).reported = u.bit64 DIO_IN c) ∧
  (∀ (dt : Nat) (c : Fin 64) (raw limit : Bool) (vlp ig : BitVec 16) (t : Nat) (s : State), (6 ≤ s.get CFG_STATE_STATE ∧ s.get CFG_STATE_STATE ≤ 9) → (s.dch c).prog = true → (s.dch c).timeout = false → (s.elapse dt).clk.elapsed < (s.dch c).frameAt + (s.dch c).hbt * 1100000 → s.fieldSupply (c / 8) ≤ 1 → s.get (DIO_CST_COUPLER c) = 0 → s.get (DIO_CCFG_MODE c) ≠ 1 → s.get (DIO_CST_INVALID c) = 1 → (s.dch c).okAt = some t → (s.elapse dt).clk.elapsed < t + filtTime (s.get (DIO_CCFG_FILT c)) → 
      ∃ u, exec (.fieldReport dt c raw limit vlp ig) s = .next u ∧ u.bit64 DIO_VALID c = s.bit64 DIO_VALID c ∧ u.get (DIO_CST_INVALID c) = 1 ∧ u.bit64 DIO_IN c = s.bit64 DIO_IN c) ∧
  (∀ (dt : Nat) (c : Fin 64) (raw limit : Bool) (vlp ig : BitVec 16) (s : State), (6 ≤ s.get CFG_STATE_STATE ∧ s.get CFG_STATE_STATE ≤ 9) → (2 ≤ s.fieldSupply (c / 8) ∧ s.fieldSupply (c / 8) ≤ 3 ∨ s.get (DIO_CCFG_MODE c) = 1 ∨ s.get (DIO_CST_COUPLER c) = 1) → 
      ∃ u, exec (.fieldReport dt c raw limit vlp ig) s = .next u ∧ u.bit64 DIO_VALID c = false ∧ u.get (DIO_CST_INVALID c) = 1 ∧ u.bit64 DIO_IN c = false ∧ u.get (DIO_CST_LEVEL c) = 0 ∧ (u.dch c).okAt = none) ∧
  (∀ (dt : Nat) (c : Fin 64) (s : State), (((s.dch c).prog = true ∧ (s.dch c).timeout = false ∧ (s.dch c).frameAt + (s.dch c).hbt * 900000 ≤ (s.elapse dt).clk.elapsed)) → 
      ∃ u, exec (.heartbeatTimeout dt c) s = .next u ∧ (u.dch c).timeout = true ∧ (u.dch c).held = (s.dch c).on ∧ switchIs u c (u.dch c).on ∧ (u.get (DIO_GCNT_TOCNT (c / 8)) = (if 6 ≤ s.get CFG_STATE_STATE ∧ s.get CFG_STATE_STATE ≤ 9 then min (s.get (DIO_GCNT_TOCNT (c / 8)) + 1) 255 else s.get (DIO_GCNT_TOCNT (c / 8)))) ∧ (∀ y : Fin 64, y ≠ c → u.dch y = s.dch y) ∧ OnlyChanges [.clk, .dio, .sets] [DIO_GCNT (c / 8)] s u) ∧
  (∀ (dt : Nat) (c : Fin 64) (s : State), (¬ ((s.dch c).prog = true ∧ (s.dch c).timeout = false ∧ (s.dch c).frameAt + (s.dch c).hbt * 900000 ≤ (s.elapse dt).clk.elapsed)) → 
      ∃ u, exec (.heartbeatTimeout dt c) s = .next u ∧ u = (s.elapse dt)) ∧
  (∀ (dt : Nat) (c : Fin 64) (s : State), (((6 ≤ s.get CFG_STATE_STATE ∧ s.get CFG_STATE_STATE ≤ 9) ∧ s.get (DIO_CST_COUPLER c) = 0 ∧ (s.dch c).heard + 1000000 ≤ (s.elapse dt).clk.elapsed)) → 
      ∃ u, exec (.couplerSilence dt c) s = .next u ∧ u.get (DIO_CST_COUPLER c) = 1 ∧ u.bit64 DIO_VALID c = false ∧ u.get (DIO_CST_INVALID c) = 1 ∧ u.bit64 DIO_IN c = false ∧ u.rd (ERR_PRES 0x1B) = (s.rd (ERR_PRES 0x1B) + 1) % 2 ^ 32 ∧ (u.dch c).on = (s.dch c).on) ∧
  (∀ (dt : Nat) (c : Fin 64) (s : State), (¬ ((6 ≤ s.get CFG_STATE_STATE ∧ s.get CFG_STATE_STATE ≤ 9) ∧ s.get (DIO_CST_COUPLER c) = 0 ∧ (s.dch c).heard + 1000000 ≤ (s.elapse dt).clk.elapsed)) → 
      ∃ u, exec (.couplerSilence dt c) s = .next u ∧ u = (s.elapse dt)) ∧
  (∀ (dt : Nat) (c : Fin 64) (s : State), (((s.dch c).raw ≠ (s.dch c).filt ∧ (s.dch c).rawAt + filtTime (s.get (DIO_CCFG_FILT c)) ≤ (s.elapse dt).clk.elapsed)) → s.bit64 DIO_VALID c = true → 
      ∃ u, exec (.inputChangeAccepted dt c) s = .next u ∧ (u.dch c).filt = (s.dch c).raw ∧ u.bit64 DIO_IN c = ((s.dch c).raw != bit (s.get (DIO_CCFG_FLAGS c)) 3) ∧ u.get (DIO_CST_LEVEL c) = b2n ((s.dch c).raw != bit (s.get (DIO_CCFG_FLAGS c)) 3) ∧ (u.dch c).reported = ((s.dch c).raw != bit (s.get (DIO_CCFG_FLAGS c)) 3) ∧ (u.get (DIO_CCNT_SEQ c) = (s.get (DIO_CCNT_SEQ c) + b2n (decide (s.get DIO_CFG_EVEN = 1) && bit (s.get (DIO_CCFG_FLAGS c)) (if ((s.dch c).raw != bit (s.get (DIO_CCFG_FLAGS c)) 3) = true then 5 else 4))) % 65536)) ∧
  (∀ (dt : Nat) (c : Fin 64) (s : State), (((s.dch c).raw ≠ (s.dch c).filt ∧ (s.dch c).rawAt + filtTime (s.get (DIO_CCFG_FILT c)) ≤ (s.elapse dt).clk.elapsed)) → s.bit64 DIO_VALID c = false → 
      ∃ u, exec (.inputChangeAccepted dt c) s = .next u ∧ (u.dch c).filt = (s.dch c).raw ∧ u.bit64 DIO_IN c = s.bit64 DIO_IN c ∧ u.get (DIO_CCNT_SEQ c) = s.get (DIO_CCNT_SEQ c) ∧ (u.dch c).reported = (s.dch c).reported) ∧
  (∀ (dt : Nat) (c : Fin 64) (s : State), (¬ ((s.dch c).raw ≠ (s.dch c).filt ∧ (s.dch c).rawAt + filtTime (s.get (DIO_CCFG_FILT c)) ≤ (s.elapse dt).clk.elapsed)) → 
      ∃ u, exec (.inputChangeAccepted dt c) s = .next u ∧ u = (s.elapse dt)) ∧
  (∀ (dt : Nat) (v : BitVec 64) (s : State), 
      ∃ u, exec (.dioOut dt v) s = .next u ∧ (∀ c : Fin 64, (s.get (DIO_CCFG_MODE c) = 1 ∨ s.get (DIO_CCFG_MODE c) = 2) ∧ s.trackOf c = none → u.bit64 DIO_OUT c = bit v.toNat c ∧ (s.bit64 DIO_OUT c ≠ bit v.toNat c → (u.dch c).cmdAt = (s.elapse dt).clk.elapsed)) ∧ (∀ c : Fin 64, ¬ ((s.get (DIO_CCFG_MODE c) = 1 ∨ s.get (DIO_CCFG_MODE c) = 2) ∧ s.trackOf c = none) → u.bit64 DIO_OUT c = s.bit64 DIO_OUT c ∧ u.dch c = s.dch c) ∧ OnlyChanges [.clk, .dio, .sets] [DIO_OUT, DIO_OUT + 4] s u) ∧
  (∀ (dt : Nat) (v : BitVec 64) (s : State), 
      ∃ u, exec (.dioSet dt v) s = .next u ∧ (∀ c : Fin 64, (s.get (DIO_CCFG_MODE c) = 1 ∨ s.get (DIO_CCFG_MODE c) = 2) ∧ s.trackOf c = none → u.bit64 DIO_OUT c = (s.bit64 DIO_OUT c || bit v.toNat c) ∧ (s.bit64 DIO_OUT c ≠ (s.bit64 DIO_OUT c || bit v.toNat c) → (u.dch c).cmdAt = (s.elapse dt).clk.elapsed)) ∧ (∀ c : Fin 64, ¬ ((s.get (DIO_CCFG_MODE c) = 1 ∨ s.get (DIO_CCFG_MODE c) = 2) ∧ s.trackOf c = none) → u.bit64 DIO_OUT c = s.bit64 DIO_OUT c ∧ u.dch c = s.dch c) ∧ OnlyChanges [.clk, .dio, .sets] [DIO_OUT, DIO_OUT + 4] s u) ∧
  (∀ (dt : Nat) (v : BitVec 64) (s : State), 
      ∃ u, exec (.dioClr dt v) s = .next u ∧ (∀ c : Fin 64, (s.get (DIO_CCFG_MODE c) = 1 ∨ s.get (DIO_CCFG_MODE c) = 2) ∧ s.trackOf c = none → u.bit64 DIO_OUT c = (s.bit64 DIO_OUT c && !bit v.toNat c) ∧ (s.bit64 DIO_OUT c ≠ (s.bit64 DIO_OUT c && !bit v.toNat c) → (u.dch c).cmdAt = (s.elapse dt).clk.elapsed)) ∧ (∀ c : Fin 64, ¬ ((s.get (DIO_CCFG_MODE c) = 1 ∨ s.get (DIO_CCFG_MODE c) = 2) ∧ s.trackOf c = none) → u.bit64 DIO_OUT c = s.bit64 DIO_OUT c ∧ u.dch c = s.dch c) ∧ OnlyChanges [.clk, .dio, .sets] [DIO_OUT, DIO_OUT + 4] s u) ∧
  (∀ (dt : Nat) (t : Fin 64) (s : State), (s.dio.edges.find? (fun e => e.track == t.val && decide (e.time ≤ (s.elapse dt).clk.elapsed)) = none) → 
      ∃ u, exec (.camSwitchEdge dt t) s = .next u ∧ u = (s.elapse dt)) ∧
  (∀ (dt : Nat) (t : Fin 64) (e : CamEdge) (s : State), (s.dio.edges.find? (fun e => e.track == t.val && decide (e.time ≤ (s.elapse dt).clk.elapsed)) = some e) → (s.get (PRF_CSWCFG_CH t)) < 64 → s.trackOf (s.get (PRF_CSWCFG_CH t)) = some t.val → 
      ∃ u, exec (.camSwitchEdge dt t) s = .next u ∧ u.dio.edges = s.dio.edges.erase e ∧ u.get (PRF_CSWST_OUT t) = b2n e.on ∧ u.get (PRF_CSWST_CNT t) = (s.get (PRF_CSWST_CNT t) + 1) % 65536 ∧ u.bit64 DIO_OUT (s.get (PRF_CSWCFG_CH t)) = e.on ∧ (u.dch (s.get (PRF_CSWCFG_CH t))).cmdAt = (s.elapse dt).clk.elapsed ∧ u.get (DIO_CCNT_LATE (s.get (PRF_CSWCFG_CH t))) = min (s.get (DIO_CCNT_LATE (s.get (PRF_CSWCFG_CH t))) + b2n e.late) 255 ∧ OnlyChanges [.clk, .dio, .sets] [DIO_OUT, DIO_OUT + 4, DIO_CCNT (s.get (PRF_CSWCFG_CH t)), PRF_CSWST t] s u) ∧
  (∀ (dt : Nat) (t : Fin 64) (e : CamEdge) (s : State), (s.dio.edges.find? (fun e => e.track == t.val && decide (e.time ≤ (s.elapse dt).clk.elapsed)) = some e) → (64 ≤ (s.get (PRF_CSWCFG_CH t)) ∨ s.trackOf (s.get (PRF_CSWCFG_CH t)) ≠ some t.val) → 
      ∃ u, exec (.camSwitchEdge dt t) s = .next u ∧ u.dio.edges = s.dio.edges.erase e ∧ u.get (PRF_CSWST_OUT t) = b2n e.on ∧ u.get (PRF_CSWST_CNT t) = (s.get (PRF_CSWST_CNT t) + 1) % 65536 ∧ u.rd64 DIO_OUT = s.rd64 DIO_OUT) ∧
  (∀ (dt : Nat) (c : Fin 64) (s : State), (s.get (DIO_CCFG_MODE c) = 2 ∧ s.bit64 DIO_VALID c = true ∧ (s.dch c).cmdAt + 2 * (s.get (DIO_CCFG_RBT c) * 1000000) ≤ (s.elapse dt).clk.elapsed ∧ (s.dch c).steadyAt + s.get (DIO_CCFG_RBT c) * 1000000 ≤ (s.elapse dt).clk.elapsed) → (((s.dch c).on = false ∧ s.get (DIO_CST_LAND c) = 1)) → 
      ∃ u, exec (.readbackMismatch dt c) s = .next u ∧ u.get (DIO_CST_BACKFED c) = 1 ∧ u.rd (ERR_PRES 0x1B) = (s.rd (ERR_PRES 0x1B) + (1 - s.get (DIO_CST_BACKFED c))) % 2 ^ 32 ∧ u.dio = s.dio ∧ OnlyChanges [.clk, .log, .reg .err, .sets] [DIO_CST c] s u) ∧
  (∀ (dt : Nat) (c : Fin 64) (s : State), (s.get (DIO_CCFG_MODE c) = 2 ∧ s.bit64 DIO_VALID c = true ∧ (s.dch c).cmdAt + 2 * (s.get (DIO_CCFG_RBT c) * 1000000) ≤ (s.elapse dt).clk.elapsed ∧ (s.dch c).steadyAt + s.get (DIO_CCFG_RBT c) * 1000000 ≤ (s.elapse dt).clk.elapsed) → (((s.dch c).on = true ∧ s.get (DIO_CST_LAND c) = 0 ∧ s.get (DIO_CST_LIMIT c) = 0 ∧ (s.dch c).therm = false)) → 
      ∃ u, exec (.readbackMismatch dt c) s = .next u ∧ u.get (DIO_CST_OLOW c) = 1 ∧ u.rd (ERR_PRES 0x1B) = (s.rd (ERR_PRES 0x1B) + (1 - s.get (DIO_CST_OLOW c))) % 2 ^ 32 ∧ u.dio = s.dio ∧ OnlyChanges [.clk, .log, .reg .err, .sets] [DIO_CST c] s u) ∧
  (∀ (dt : Nat) (c : Fin 64) (s : State), (¬ (s.get (DIO_CCFG_MODE c) = 2 ∧ s.bit64 DIO_VALID c = true ∧ (s.dch c).cmdAt + 2 * (s.get (DIO_CCFG_RBT c) * 1000000) ≤ (s.elapse dt).clk.elapsed ∧ (s.dch c).steadyAt + s.get (DIO_CCFG_RBT c) * 1000000 ≤ (s.elapse dt).clk.elapsed) ∨ ¬ ((s.dch c).on = false ∧ s.get (DIO_CST_LAND c) = 1) ∧ ¬ ((s.dch c).on = true ∧ s.get (DIO_CST_LAND c) = 0 ∧ s.get (DIO_CST_LIMIT c) = 0 ∧ (s.dch c).therm = false)) → 
      ∃ u, exec (.readbackMismatch dt c) s = .next u ∧ u = (s.elapse dt))

/-- Thermal shutdown, group overload and field supply. A thermal shutdown turns its switch off with THERM and one warning, a group overload every switch of its group with GOVL and its count, and each retry, no earlier than 90 ms after, applies R437 again; a thermal retry that turns the switch on counts RETRY. LOW is entered from OK only; LOW and MISSING set their sticky flag, count and warn; MISSING turns the switches of the group off; OFF also leaves every channel unprogrammed; in OK a programmed channel that is not alive takes its timeout state and the others follow R437. -/
def Obligations.DioProtection : Prop :=
  (∀ (dt : Nat) (c : Fin 64) (s : State), (s.dch c).on = true → 
      ∃ u, exec (.thermalShutdown dt c) s = .next u ∧ (u.dch c).therm = true ∧ (u.dch c).on = false ∧ (u.dch c).thermAt = (s.elapse dt).clk.elapsed ∧ (u.get (DIO_CST_THERM c) = (if 6 ≤ s.get CFG_STATE_STATE ∧ s.get CFG_STATE_STATE ≤ 9 then 1 else s.get (DIO_CST_THERM c))) ∧ (u.rd (ERR_PRES 0x1B) = (s.rd (ERR_PRES 0x1B) + (if 6 ≤ s.get CFG_STATE_STATE ∧ s.get CFG_STATE_STATE ≤ 9 then 1 - s.get (DIO_CST_THERM c) else 0)) % 2 ^ 32) ∧ (∀ y : Fin 64, y ≠ c → u.dch y = s.dch y) ∧ OnlyChanges [.clk, .dio, .log, .reg .err, .sets] [DIO_CST c] s u) ∧
  (∀ (dt : Nat) (c : Fin 64) (s : State), (s.dch c).on = false → 
      ∃ u, exec (.thermalShutdown dt c) s = .next u ∧ u = (s.elapse dt)) ∧
  (∀ (dt : Nat) (c : Fin 64) (s : State), (((s.dch c).therm = true ∧ (s.dch c).thermAt + 90000000 ≤ (s.elapse dt).clk.elapsed)) → 
      ∃ u, exec (.thermalRetry dt c) s = .next u ∧ (u.dch c).therm = false ∧ switchIs u c (u.dch c).on ∧ (u.get (DIO_CST_THERM c) = (if 6 ≤ s.get CFG_STATE_STATE ∧ s.get CFG_STATE_STATE ≤ 9 then 0 else s.get (DIO_CST_THERM c))) ∧ (u.get (DIO_CCNT_RETRY c) = min (s.get (DIO_CCNT_RETRY c) + (if (u.dch c).on = true ∧ 6 ≤ s.get CFG_STATE_STATE ∧ s.get CFG_STATE_STATE ≤ 9 then 1 else 0)) 255) ∧ (∀ y : Fin 64, y ≠ c → u.dch y = s.dch y) ∧ OnlyChanges [.clk, .dio, .sets] [DIO_CST c, DIO_CCNT c] s u) ∧
  (∀ (dt : Nat) (c : Fin 64) (s : State), (¬ ((s.dch c).therm = true ∧ (s.dch c).thermAt + 90000000 ≤ (s.elapse dt).clk.elapsed)) → 
      ∃ u, exec (.thermalRetry dt c) s = .next u ∧ u = (s.elapse dt)) ∧
  (∀ (dt : Nat) (g : Fin 8) (s : State), g.val ∈ s.dio.shut → 
      ∃ u, exec (.groupOverload dt g) s = .next u ∧ u = (s.elapse dt)) ∧
  (∀ (dt : Nat) (g : Fin 8) (s : State), g.val ∉ s.dio.shut → 
      ∃ u, exec (.groupOverload dt g) s = .next u ∧ g.val ∈ u.dio.shut ∧ (∀ i : Fin 8, (u.dch (8 * g.val + i.val)).on = false) ∧ (u.get (DIO_GST_GOVL g) = (if 6 ≤ s.get CFG_STATE_STATE ∧ s.get CFG_STATE_STATE ≤ 9 then 1 else s.get (DIO_GST_GOVL g))) ∧ (u.get (DIO_GCNT_GOVLCNT g) = min (s.get (DIO_GCNT_GOVLCNT g) + (if 6 ≤ s.get CFG_STATE_STATE ∧ s.get CFG_STATE_STATE ≤ 9 then 1 else 0)) 255) ∧ (∀ y : Fin 64, y.val / 8 ≠ g.val → u.dch y = s.dch y) ∧ OnlyChanges [.clk, .dio, .sets] [DIO_GST g, DIO_GCNT g] s u) ∧
  (∀ (dt : Nat) (g : Fin 8) (s : State), ((g.val ∈ s.dio.shut ∧ tabGet 0 s.dio.govlAt g + 90000000 ≤ (s.elapse dt).clk.elapsed)) → 
      ∃ u, exec (.groupOverloadRetry dt g) s = .next u ∧ g.val ∉ u.dio.shut ∧ (∀ i : Fin 8, switchIs u (8 * g.val + i.val) (u.dch (8 * g.val + i.val)).on) ∧ (u.get (DIO_GST_GOVL g) = (if 6 ≤ s.get CFG_STATE_STATE ∧ s.get CFG_STATE_STATE ≤ 9 then 0 else s.get (DIO_GST_GOVL g))) ∧ (∀ y : Fin 64, y.val / 8 ≠ g.val → u.dch y = s.dch y) ∧ OnlyChanges [.clk, .dio, .sets] [DIO_GST g] s u) ∧
  (∀ (dt : Nat) (g : Fin 8) (s : State), (¬ (g.val ∈ s.dio.shut ∧ tabGet 0 s.dio.govlAt g + 90000000 ≤ (s.elapse dt).clk.elapsed)) → 
      ∃ u, exec (.groupOverloadRetry dt g) s = .next u ∧ u = (s.elapse dt)) ∧
  (∀ (dt : Nat) (g : Fin 8) (s : State), s.fieldSupply g = 0 → 
      ∃ u, exec (.supplyLow dt g) s = .next u ∧ u.fieldSupply g = 1 ∧ (6 ≤ s.get CFG_STATE_STATE ∧ s.get CFG_STATE_STATE ≤ 9 → u.get (DIO_GST_SUPPLY g) = 1) ∧ (∀ i : Fin 8, switchIs u (8 * g.val + i.val) (u.dch (8 * g.val + i.val)).on) ∧ (∀ y : Fin 64, y.val / 8 ≠ g.val → u.dch y = s.dch y) ∧ (6 ≤ s.get CFG_STATE_STATE ∧ s.get CFG_STATE_STATE ≤ 9 → u.get (DIO_GST_LOWW g) = 1 ∧ u.get (DIO_GCNT_LOWCNT g) = min (s.get (DIO_GCNT_LOWCNT g) + 1) 255) ∧ (∀ i : Fin 8, (u.dch (8 * g.val + i.val)).prog = (s.dch (8 * g.val + i.val)).prog) ∧ (¬ (6 ≤ s.get CFG_STATE_STATE ∧ s.get CFG_STATE_STATE ≤ 9) → u.rd (DIO_GST g) = s.rd (DIO_GST g) ∧ u.rd (DIO_GCNT g) = s.rd (DIO_GCNT g))) ∧
  (∀ (dt : Nat) (g : Fin 8) (s : State), s.fieldSupply g ≠ 0 → 
      ∃ u, exec (.supplyLow dt g) s = .next u ∧ u = (s.elapse dt)) ∧
  (∀ (dt : Nat) (g : Fin 8) (s : State), s.fieldSupply g ≠ 2 → 
      ∃ u, exec (.supplyMissing dt g) s = .next u ∧ u.fieldSupply g = 2 ∧ (6 ≤ s.get CFG_STATE_STATE ∧ s.get CFG_STATE_STATE ≤ 9 → u.get (DIO_GST_SUPPLY g) = 2) ∧ (∀ i : Fin 8, switchIs u (8 * g.val + i.val) (u.dch (8 * g.val + i.val)).on) ∧ (∀ y : Fin 64, y.val / 8 ≠ g.val → u.dch y = s.dch y) ∧ (6 ≤ s.get CFG_STATE_STATE ∧ s.get CFG_STATE_STATE ≤ 9 → u.get (DIO_GST_MISSW g) = 1 ∧ u.get (DIO_GCNT_MISSCNT g) = min (s.get (DIO_GCNT_MISSCNT g) + 1) 255) ∧ (∀ i : Fin 8, (u.dch (8 * g.val + i.val)).prog = (s.dch (8 * g.val + i.val)).prog) ∧ (¬ (6 ≤ s.get CFG_STATE_STATE ∧ s.get CFG_STATE_STATE ≤ 9) → u.rd (DIO_GST g) = s.rd (DIO_GST g) ∧ u.rd (DIO_GCNT g) = s.rd (DIO_GCNT g)) ∧ (∀ i : Fin 8, (u.dch (8 * g.val + i.val)).on = false) ∧ (∀ i : Fin 8, 6 ≤ s.get CFG_STATE_STATE ∧ s.get CFG_STATE_STATE ≤ 9 → u.bit64 DIO_VALID (8 * g.val + i.val) = false ∧ u.bit64 DIO_IN (8 * g.val + i.val) = false)) ∧
  (∀ (dt : Nat) (g : Fin 8) (s : State), s.fieldSupply g = 2 → 
      ∃ u, exec (.supplyMissing dt g) s = .next u ∧ u = (s.elapse dt)) ∧
  (∀ (dt : Nat) (g : Fin 8) (s : State), 
      ∃ u, exec (.supplyOff dt g) s = .next u ∧ u.fieldSupply g = 3 ∧ (6 ≤ s.get CFG_STATE_STATE ∧ s.get CFG_STATE_STATE ≤ 9 → u.get (DIO_GST_SUPPLY g) = 3) ∧ (∀ i : Fin 8, switchIs u (8 * g.val + i.val) (u.dch (8 * g.val + i.val)).on) ∧ (∀ y : Fin 64, y.val / 8 ≠ g.val → u.dch y = s.dch y) ∧ (¬ (6 ≤ s.get CFG_STATE_STATE ∧ s.get CFG_STATE_STATE ≤ 9) → u.rd (DIO_GST g) = s.rd (DIO_GST g) ∧ u.rd (DIO_GCNT g) = s.rd (DIO_GCNT g)) ∧ (∀ i : Fin 8, (u.dch (8 * g.val + i.val)).on = false ∧ (u.dch (8 * g.val + i.val)).prog = false ∧ (u.dch (8 * g.val + i.val)).timeout = false)) ∧
  (∀ (dt : Nat) (g : Fin 8) (s : State), 
      ∃ u, exec (.supplyOk dt g) s = .next u ∧ u.fieldSupply g = 0 ∧ (6 ≤ s.get CFG_STATE_STATE ∧ s.get CFG_STATE_STATE ≤ 9 → u.get (DIO_GST_SUPPLY g) = 0) ∧ (∀ i : Fin 8, switchIs u (8 * g.val + i.val) (u.dch (8 * g.val + i.val)).on) ∧ (∀ y : Fin 64, y.val / 8 ≠ g.val → u.dch y = s.dch y) ∧ (∀ i : Fin 8, (u.dch (8 * g.val + i.val)).prog = (s.dch (8 * g.val + i.val)).prog) ∧ (¬ (6 ≤ s.get CFG_STATE_STATE ∧ s.get CFG_STATE_STATE ≤ 9) → u.rd (DIO_GST g) = s.rd (DIO_GST g) ∧ u.rd (DIO_GCNT g) = s.rd (DIO_GCNT g)) ∧ (∀ i : Fin 8, s.fieldSupply g = 2 ∨ s.fieldSupply g = 3 → (s.dch (8 * g.val + i.val)).prog = true → (s.dch (8 * g.val + i.val)).frameAt + (s.dch (8 * g.val + i.val)).hbt * 1100000 ≤ (s.elapse dt).clk.elapsed → (u.dch (8 * g.val + i.val)).timeout = true))

/-- Pairs, functions, reset and measurements of the safety subsystem. A demanding channel takes its pair from HEALTHY to DEMAND, both healthy channels take it back; a latched discrepancy needs both to demand, both healthy, and a reset. STO enters SAFE and takes the line of its technology low, which disables the axes of its groups; SS1 enters STOPPING, and SAFE at T1; a healthy source leads to RELEASED, or WAITRST with manual reset, from which an accepted press of 50.6 ms to 2.97 s releases it; one below 49.5 ms or over 3.04 s does nothing, and 3 s set STUCK. A measurement gives the speed of each monitored axis, violates SLS over LIM, ends SS1-r at standstill and holds the group of a failed cross-check. -/
def Obligations.SafetyFunctions : Prop :=
  (∀ (dt : Nat) (kerca b : Bool) (i : Fin 16) (level : Bool) (s : State), s.safOn = false → 
      ∃ u, exec (.safeInputChange dt kerca b i level) s = .next u ∧ (bit (u.rd (if kerca = true then SAF_SINK else SAF_SINC)) (i.val + (if b = true then 16 else 0)) = level) ∧ OnlyChanges [.clk, .sets] [SAF_SINK, SAF_SINC] s u) ∧
  (∀ (dt : Nat) (kerca b : Bool) (i : Fin 16) (level : Bool) (s : State), s.safOn = true → s.pairUse i ≠ 0 → s.pairState (b2n kerca) i = 1 → chanDemands (s.pairUse i) b level = true → 
      ∃ u, exec (.safeInputChange dt kerca b i level) s = .next u ∧ (bit (u.rd (if kerca = true then SAF_SINK else SAF_SINC)) (i.val + (if b = true then 16 else 0)) = level) ∧ u.pairState (b2n kerca) i = 2) ∧
  (∀ (dt : Nat) (kerca b : Bool) (i : Fin 16) (level : Bool) (s : State), s.safOn = true → s.pairUse i ≠ 0 → s.pairState (b2n kerca) i = 1 → chanDemands (s.pairUse i) b level = false → s.demanding (b2n kerca) i (!b) = false → 
      ∃ u, exec (.safeInputChange dt kerca b i level) s = .next u ∧ (bit (u.rd (if kerca = true then SAF_SINK else SAF_SINC)) (i.val + (if b = true then 16 else 0)) = level) ∧ u.pairState (b2n kerca) i = 1) ∧
  (∀ (dt : Nat) (kerca b : Bool) (i : Fin 16) (level : Bool) (s : State), s.safOn = true → s.pairUse i ≠ 0 → s.pairState (b2n kerca) i = 2 → chanDemands (s.pairUse i) b level = false → s.demanding (b2n kerca) i (!b) = false → 
      ∃ u, exec (.safeInputChange dt kerca b i level) s = .next u ∧ u.pairState (b2n kerca) i = 1) ∧
  (∀ (dt : Nat) (kerca b : Bool) (i : Fin 16) (level : Bool) (s : State), s.safOn = true → s.pairUse i ≠ 0 → s.pairState (b2n kerca) i = 3 → chanDemands (s.pairUse i) b level = true → s.demanding (b2n kerca) i (!b) = true → 
      ∃ u, exec (.safeInputChange dt kerca b i level) s = .next u ∧ u.pairState (b2n kerca) i = 4) ∧
  (∀ (dt : Nat) (kerca b : Bool) (i : Fin 16) (level : Bool) (s : State), s.safOn = true → s.pairUse i ≠ 0 → s.pairState (b2n kerca) i = 3 → (chanDemands (s.pairUse i) b level = false ∨ s.demanding (b2n kerca) i (!b) = false) → 
      ∃ u, exec (.safeInputChange dt kerca b i level) s = .next u ∧ u.pairState (b2n kerca) i = 3) ∧
  (∀ (dt : Nat) (kerca b : Bool) (i : Fin 16) (level : Bool) (s : State), s.safOn = true → s.pairUse i ≠ 0 → s.pairState (b2n kerca) i = 4 → chanDemands (s.pairUse i) b level = false → s.demanding (b2n kerca) i (!b) = false → 
      ∃ u, exec (.safeInputChange dt kerca b i level) s = .next u ∧ u.pairState (b2n kerca) i = 5) ∧
  (∀ (dt : Nat) (kerca b : Bool) (i : Fin 16) (level : Bool) (s : State), s.safOn = true → s.pairUse i ≠ 0 → s.pairState (b2n kerca) i = 5 → chanDemands (s.pairUse i) b level = true → s.demanding (b2n kerca) i (!b) = true → 
      ∃ u, exec (.safeInputChange dt kerca b i level) s = .next u ∧ u.pairState (b2n kerca) i = 4) ∧
  (∀ (dt : Nat) (kerca b : Bool) (i : Fin 16) (level : Bool) (f : Fin 32) (s : State), s.safOn = true → s.pairUse i ≠ 0 → s.pairState (b2n kerca) i = 1 → chanDemands (s.pairUse i) b level = true → s.fnSrc f = i.val → s.evaluates (b2n kerca) f = true → s.fnKind f = 1 → s.fnState (b2n kerca) f = 1 → 
      ∃ u, exec (.safeInputChange dt kerca b i level) s = .next u ∧ u.fnState (b2n kerca) f = 3 ∧ (∀ g : Fin 8, bit (s.fnGroups f) g = true → lineOf u (b2n kerca) g = 0) ∧ (∀ a : Fin 32, bit (s.fnGroups f) (a.val / 4) = true → s.get (SAF_GRP_GENAC (a.val / 4)) = 1 → s.get (SAF_GRP_GENBC (a.val / 4)) = 1 → 1 ≤ s.axState a → s.axState a ≤ 5 → u.enabled a = false)) ∧
  (∀ (dt : Nat) (kerca b : Bool) (i : Fin 16) (level : Bool) (f : Fin 32) (s : State), s.safOn = true → s.pairUse i ≠ 0 → s.pairState (b2n kerca) i = 1 → chanDemands (s.pairUse i) b level = true → s.fnSrc f = i.val → s.evaluates (b2n kerca) f = true → (s.fnKind f = 2 ∨ s.fnKind f = 3) → s.fnState (b2n kerca) f = 1 → 
      ∃ u, exec (.safeInputChange dt kerca b i level) s = .next u ∧ u.fnState (b2n kerca) f = 2) ∧
  (∀ (dt : Nat) (kerca b : Bool) (i : Fin 16) (level : Bool) (f : Fin 32) (s : State), s.safOn = true → s.pairUse i ≠ 0 → s.pairState (b2n kerca) i = 2 → chanDemands (s.pairUse i) b level = false → s.demanding (b2n kerca) i (!b) = false → s.fnSrc f = i.val → s.evaluates (b2n kerca) f = true → s.fnKind f ≤ 3 → s.fnState (b2n kerca) f = 3 → 
      ∃ u, exec (.safeInputChange dt kerca b i level) s = .next u ∧ (u.fnState (b2n kerca) f = (if s.fnU f 1 1 = 0 then 1 else 4))) ∧
  (∀ (dt : Nat) (kerca b : Bool) (i : Fin 16) (level : Bool) (f : Fin 32) (s : State), s.safOn = true → s.pairUse i ≠ 0 → s.pairState (b2n kerca) i = 1 → chanDemands (s.pairUse i) b level = true → s.fnSrc f = i.val → kerca = false → (4 ≤ s.fnKind f ∧ s.fnKind f ≤ 6) → s.fnState 0 f = 1 → 
      ∃ u, exec (.safeInputChange dt kerca b i level) s = .next u ∧ u.fnState 0 f = 5) ∧
  (∀ (dt : Nat) (i : Fin 16) (s : State), (((s.elapse dt).splitFor 0 i 98 = true ∨ (s.elapse dt).splitFor 1 i 98 = true)) → 
      ∃ u, exec (.discrepancyFault dt i) s = .next u ∧ u.get (SAF_PAIR_DCNT i) = min (s.get (SAF_PAIR_DCNT i) + 1) 255 ∧ (∀ t : Fin 2, s.pairState t i = 2 ∨ s.pairState t i = 4 ∨ s.pairState t i = 5 → s.pairUse i ≠ 0 → s.demanding t i false ≠ s.demanding t i true → u.pairState t i = 3)) ∧
  (∀ (dt : Nat) (i : Fin 16) (s : State), (¬ ((s.elapse dt).splitFor 0 i 98 = true ∨ (s.elapse dt).splitFor 1 i 98 = true)) → 
      ∃ u, exec (.discrepancyFault dt i) s = .next u ∧ u = (s.elapse dt)) ∧
  (∀ (dt : Nat) (s : State), 
      ∃ u, exec (.srstPress dt) s = .next u ∧ u.saf.press = some (s.saf.press.getD (s.elapse dt).clk.elapsed) ∧ OnlyChanges [.clk, .saf, .sets] [] s u) ∧
  (∀ (dt skew : Nat) (s : State), s.saf.press = none → 
      ∃ u, exec (.srstRelease dt skew) s = .next u ∧ u = (s.elapse dt)) ∧
  (∀ (dt skew : Nat) (p : Nat) (s : State), s.saf.press = some p → s.safOn = true → s.get SAF_RST_STUCK = 1 → 
      ∃ u, exec (.srstRelease dt skew) s = .next u ∧ u.get SAF_RST_STUCK = 0 ∧ u.saf.press = none ∧ u.get SAF_RST_ACC = s.get SAF_RST_ACC ∧ OnlyChanges [.clk, .saf, .sets] [SAF_RST] s u) ∧
  (∀ (dt skew : Nat) (p : Nat) (s : State), s.saf.press = some p → s.get SAF_RST_STUCK = 0 → (((s.elapse dt).clk.elapsed - p) ≤ 49500000 ∨ 3040000000 ≤ ((s.elapse dt).clk.elapsed - p)) → 
      ∃ u, exec (.srstRelease dt skew) s = .next u ∧ u.saf.press = none ∧ OnlyChanges [.clk, .fresh, .saf, .sets] [] s u) ∧
  (∀ (dt skew : Nat) (p : Nat) (s : State), s.saf.press = some p → s.safOn = true → s.get SAF_RST_STUCK = 0 → 50600000 ≤ ((s.elapse dt).clk.elapsed - p) → ((s.elapse dt).clk.elapsed - p) ≤ 2970000000 → 20000000 < skew → 
      ∃ u, exec (.srstRelease dt skew) s = .next u ∧ u.get SAF_RST_ACC = s.get SAF_RST_ACC ∧ OnlyChanges [.clk, .fresh, .saf, .sets] [] s u) ∧
  (∀ (dt skew : Nat) (p : Nat) (t : Fin 2) (f : Fin 32) (i : Fin 16) (s : State), s.saf.press = some p → s.safOn = true → s.get SAF_RST_STUCK = 0 → 50600000 ≤ ((s.elapse dt).clk.elapsed - p) → ((s.elapse dt).clk.elapsed - p) ≤ 2970000000 → skew ≤ 20000000 → s.evaluates t f = true → s.fnKind f ≤ 3 → s.fnSrc f = i.val → s.fnState t f = 4 → tabGet 0 s.saf.fnAt (32 * t.val + f.val) < p → s.pairState t i = 1 → s.demanding t i false = false → s.demanding t i true = false → 
      ∃ u, exec (.srstRelease dt skew) s = .next u ∧ u.get SAF_RST_ACC = min (s.get SAF_RST_ACC + 1) 255 ∧ u.fnState t f = 1 ∧ u.get SAF_RST_IGN = s.get SAF_RST_IGN ∧ u.saf.press = none) ∧
  (∀ (dt skew : Nat) (p : Nat) (i : Fin 16) (s : State), s.saf.press = some p → s.safOn = true → s.get SAF_RST_STUCK = 0 → 50600000 ≤ ((s.elapse dt).clk.elapsed - p) → ((s.elapse dt).clk.elapsed - p) ≤ 2970000000 → skew ≤ 20000000 → s.pairUse i ≠ 0 → s.get (SAF_PAIR_STATE i) = 5 → tabGet 0 s.saf.pairAt i < p → s.demanding 0 i false = false → s.demanding 0 i true = false → 
      ∃ u, exec (.srstRelease dt skew) s = .next u ∧ u.get SAF_RST_ACC = min (s.get SAF_RST_ACC + 1) 255 ∧ u.get (SAF_PAIR_STATE i) = 1) ∧
  (∀ (dt skew : Nat) (p : Nat) (s : State), s.saf.press = some p → s.safOn = true → s.get SAF_RST_STUCK = 0 → 50600000 ≤ ((s.elapse dt).clk.elapsed - p) → ((s.elapse dt).clk.elapsed - p) ≤ 2970000000 → skew ≤ 20000000 → (∀ i : Fin 16, s.get (SAF_PAIR_STATE i) ≠ 5 ∧ tabGet 0 s.saf.kPair i ≠ 5) → (∀ f : Fin 32, s.get (SAF_FN_STATE f) ≠ 4 ∧ s.get (SAF_FN_STATE f) ≠ 6 ∧ s.get (SAF_FN_KSTATE f) ≠ 4 ∧ s.get (SAF_FN_KSTATE f) ≠ 6) → 
      ∃ u, exec (.srstRelease dt skew) s = .next u ∧ u.get SAF_RST_ACC = min (s.get SAF_RST_ACC + 1) 255 ∧ u.get SAF_RST_IGN = min (s.get SAF_RST_IGN + 1) 255) ∧
  (∀ (dt skew : Nat) (p : Nat) (s : State), s.saf.press = some p → s.safOn = false → 
      ∃ u, exec (.srstRelease dt skew) s = .next u ∧ u.saf.press = none ∧ u.rd SAF_RST = s.rd SAF_RST ∧ OnlyChanges [.clk, .saf, .sets] [] s u) ∧
  (∀ (dt : Nat) (s : State), ((s.saf.press.any fun p => decide (p + 3000000000 ≤ (s.elapse dt).clk.elapsed)) = true) → 
      ∃ u, exec (.resetStuck dt) s = .next u ∧ u.get SAF_RST_STUCK = 1 ∧ u.rd (ERR_PRES 0x1D) = (s.rd (ERR_PRES 0x1D) + (1 - s.get SAF_RST_STUCK)) % 2 ^ 32 ∧ u.saf = s.saf ∧ OnlyChanges [.clk, .log, .reg .err, .sets] [SAF_RST] s u) ∧
  (∀ (dt : Nat) (s : State), ((s.saf.press.any fun p => decide (p + 3000000000 ≤ (s.elapse dt).clk.elapsed)) = false) → 
      ∃ u, exec (.resetStuck dt) s = .next u ∧ u = (s.elapse dt)) ∧
  (∀ (dt : Nat) (kerca : Bool) (f : Fin 32) (s : State), ((s.evaluates (b2n kerca) f = true ∧ s.fnState (b2n kerca) f = 2 ∧ tabGet 0 s.saf.fnAt (32 * (b2n kerca) + f.val) + s.fnU f 6 2 * 990000 ≤ (s.elapse dt).clk.elapsed)) → 
      ∃ u, exec (.ss1T1Elapsed dt kerca f) s = .next u ∧ u.fnState (b2n kerca) f = 3 ∧ (∀ g : Fin 8, bit (s.fnGroups f) g = true → lineOf u (b2n kerca) g = 0) ∧ (∀ a : Fin 32, bit (s.fnGroups f) (a.val / 4) = true → s.get (SAF_GRP_GENAC (a.val / 4)) = 1 → s.get (SAF_GRP_GENBC (a.val / 4)) = 1 → 1 ≤ s.axState a → s.axState a ≤ 5 → u.enabled a = false)) ∧
  (∀ (dt : Nat) (kerca : Bool) (f : Fin 32) (s : State), (¬ (s.evaluates (b2n kerca) f = true ∧ s.fnState (b2n kerca) f = 2 ∧ tabGet 0 s.saf.fnAt (32 * (b2n kerca) + f.val) + s.fnU f 6 2 * 990000 ≤ (s.elapse dt).clk.elapsed)) → 
      ∃ u, exec (.ss1T1Elapsed dt kerca f) s = .next u ∧ u = (s.elapse dt)) ∧
  (∀ (dt : Nat) (s : State), (¬ (s.safOn = true ∧ s.saf.measAt + 990000 ≤ (s.elapse dt).clk.elapsed)) → 
      ∃ u, exec (.safetyMeasurement dt) s = .next u ∧ u = (s.elapse dt)) ∧
  (∀ (dt : Nat) (f a : Fin 32) (s : State), ((s.safOn = true ∧ s.saf.measAt + 990000 ≤ (s.elapse dt).clk.elapsed)) → bit (s.fnU f 0x0C 4) a = true → 3 ≤ s.fnKind f → 
      ∃ u, exec (.safetyMeasurement dt) s = .next u ∧ signed 32 (u.rd (SAF_AXV a)) = (satSigned 32 (s.shaft a - tabGet (s.shaft a) s.saf.place a)) ∧ tabGet 0 u.saf.place a = s.shaft a ∧ u.saf.measAt = (s.elapse dt).clk.elapsed) ∧
  (∀ (dt : Nat) (f a : Fin 32) (s : State), ((s.safOn = true ∧ s.saf.measAt + 990000 ≤ (s.elapse dt).clk.elapsed)) → bit (s.fnU f 0x0C 4) a = true → s.fnKind f = 4 → s.get (SAF_FN_STATE f) = 5 → s.fnLim f < (satSigned 32 (s.shaft a - tabGet (s.shaft a) s.saf.place a)).natAbs → 
      ∃ u, exec (.safetyMeasurement dt) s = .next u ∧ u.get (SAF_FN_STATE f) = 6 ∧ (∀ g : Fin 8, bit (s.fnGroups f) g = true → u.get (SAF_GRP_GENBC g) = 0)) ∧
  (∀ (dt : Nat) (f : Fin 32) (s : State), ((s.safOn = true ∧ s.saf.measAt + 990000 ≤ (s.elapse dt).clk.elapsed)) → s.fnKind f = 4 → s.get (SAF_FN_STATE f) = 5 → s.fnSrc f = 0xFFFF → (∀ a : Fin 32, bit (s.fnU f 0x0C 4) a = true → (satSigned 32 (s.shaft a - tabGet (s.shaft a) s.saf.place a)).natAbs ≤ s.fnLim f) → 
      ∃ u, exec (.safetyMeasurement dt) s = .next u ∧ u.get (SAF_FN_STATE f) = 5) ∧
  (∀ (dt : Nat) (f a : Fin 32) (s : State), ((s.safOn = true ∧ s.saf.measAt + 990000 ≤ (s.elapse dt).clk.elapsed)) → bit (s.fnU f 0x0C 4) a = true → s.fnKind f = 5 → s.get (SAF_FN_STATE f) = 5 → (s.fnLim f : Int) < (s.shaft a - tabGet (s.shaft a) s.saf.base (32 * f.val + a.val)).natAbs → 
      ∃ u, exec (.safetyMeasurement dt) s = .next u ∧ u.get (SAF_FN_STATE f) = 6) ∧
  (∀ (dt : Nat) (f : Fin 32) (s : State), ((s.safOn = true ∧ s.saf.measAt + 990000 ≤ (s.elapse dt).clk.elapsed)) → s.fnKind f = 3 → s.get (SAF_FN_STATE f) = 2 → (∀ a : Fin 32, bit (s.fnU f 0x0C 4) a = true → (satSigned 32 (s.shaft a - tabGet (s.shaft a) s.saf.place a)).natAbs ≤ s.monU a 0x0C 4) → 
      ∃ u, exec (.safetyMeasurement dt) s = .next u ∧ u.get (SAF_FN_STATE f) ≠ 2) ∧
  (∀ (dt : Nat) (f a : Fin 32) (s : State), ((s.safOn = true ∧ s.saf.measAt + 990000 ≤ (s.elapse dt).clk.elapsed)) → bit (s.fnU f 0x0C 4) a = true → 3 ≤ s.fnKind f → s.monU a 1 1 ≠ 0xFF → s.get (SAF_AX_XFLT a) = 0 → s.monU a 8 4 < ((s.shaft a - (tabGet (0, 0) s.saf.cap a).1) - ((s.prt (s.monU a 1 1)).x - (tabGet (0, 0) s.saf.cap a).2) * 65536 / max 1 (s.monU a 4 4 : Int)).natAbs → 
      ∃ u, exec (.safetyMeasurement dt) s = .next u ∧ u.get (SAF_AX_XFLT a) = 1 ∧ u.get (SAF_AX_DIFF a) = min ((s.shaft a - (tabGet (0, 0) s.saf.cap a).1) - ((s.prt (s.monU a 1 1)).x - (tabGet (0, 0) s.saf.cap a).2) * 65536 / max 1 (s.monU a 4 4 : Int)).natAbs (2 ^ 31 - 1) ∧ u.get (SAF_GRP_GENBC (a.val / 4)) = 0) ∧
  (∀ (dt : Nat) (p : Fin 34) (fr : Frame) (s : State), tabFind s.saf.ports p = none → 
      ∃ u, exec (.safetyEncoderRead dt p fr) s = .next u ∧ u = (s.elapse dt)) ∧
  (∀ (dt : Nat) (p : Fin 34) (fr : Frame) (y : Nat) (s : State), (tabFind s.saf.ports p).isSome = true → s.fbMode p = 1 → s.ssiDecode p fr = .inl y → s.jumpTh p = 0 → (s.prt p).last = none → 
      ∃ u, exec (.safetyEncoderRead dt p fr) s = .next u ∧ (u.prt p).x = (y : Int) ∧ (u.prt p).last = some y ∧ u.get (FBK_PST_VALID p) = 1 ∧ u.get (FBK_PST_CONS p) = 0) ∧
  (∀ (dt : Nat) (p : Fin 34) (fr : Frame) (e : Nat) (s : State), (tabFind s.saf.ports p).isSome = true → s.fbMode p = 1 → s.ssiDecode p fr = .inr e → 
      ∃ u, exec (.safetyEncoderRead dt p fr) s = .next u ∧ (u.prt p).x = (s.prt p).x ∧ u.get (FBK_PST_CONS p) = min (s.get (FBK_PST_CONS p) + 1) 255 ∧ u.get (FBK_PST_LASTERR p) = e % 16)

/-- Read-back, supervision, black channel and the end of a lock-out. A gate-enable land that reads high while low is commanded is internal fault 0x5, low while high is commanded RBFLT of its group; a lost heartbeat is 0x2, a silent Kerca logic 0x3, views that differ for more than 10 ms 0x4: an internal fault keeps its first cause and takes every line low. TESTDUE follows 168 h without STO; a switch that fails its test is latched off. A PDU carries SEQ, CTRL, LEN and the CRC over IDENT; received ones are counted, recorded, taken or lead back to START; the watchdog does too. A lock-out after wrong passwords ends after 60 s. -/
def Obligations.SafetySupervision : Prop :=
  (∀ (dt : Nat) (g : Fin 8) (b high : Bool) (s : State), (s.safOn = false ∨ (lineOf s (if b = true then 0 else 1) g = b2n high)) → 
      ∃ u, exec (.readbackFault dt g b high) s = .next u ∧ u = (s.elapse dt)) ∧
  (∀ (dt : Nat) (g : Fin 8) (b : Bool) (s : State), s.safOn = true → (lineOf s (if b = true then 0 else 1) g = 0) → s.get SAF_ST_FAULT = 0 → 
      ∃ u, exec (.readbackFault dt g b true) s = .next u ∧ u.get SAF_ST_FAULT = 1 ∧ u.get SAF_ST_FCAUSE = 5 ∧ (∀ y : Fin 8, u.get (SAF_GRP_GENAC y) = 0 ∧ u.get (SAF_GRP_GENBC y) = 0) ∧ u.rd (ERR_PRES 0x1D) = (s.rd (ERR_PRES 0x1D) + 1) % 2 ^ 32) ∧
  (∀ (dt : Nat) (g : Fin 8) (b : Bool) (s : State), s.safOn = true → (lineOf s (if b = true then 0 else 1) g = 0) → s.get SAF_ST_FAULT = 1 → 
      ∃ u, exec (.readbackFault dt g b true) s = .next u ∧ u.get SAF_ST_FCAUSE = s.get SAF_ST_FCAUSE ∧ u.get SAF_ST_FAULT = 1 ∧ OnlyChanges [.clk, .sets] [SAF_GRP g] s u) ∧
  (∀ (dt : Nat) (g : Fin 8) (b : Bool) (s : State), s.safOn = true → (lineOf s (if b = true then 0 else 1) g = 1) → 
      ∃ u, exec (.readbackFault dt g b false) s = .next u ∧ u.get (SAF_GRP_RBFLT g) = 1 ∧ u.get (SAF_GRP_GENAC g) = 0 ∧ u.get (SAF_GRP_GENBC g) = 0) ∧
  (∀ (dt : Nat) (g : Fin 8) (s : State), ((s.get (SAF_GRP_GENAC g) = 1 ∧ s.get (SAF_GRP_GENBC g) = 1 ∧ (tabFind s.saf.freeAt g).any (fun t => decide (t + 604800000000000 ≤ (s.elapse dt).clk.elapsed)) = true)) → 
      ∃ u, exec (.testdue dt g) s = .next u ∧ u.get (SAF_GRP_TESTDUE g) = 1 ∧ u.rd (ERR_PRES 0x1D) = (s.rd (ERR_PRES 0x1D) + (1 - s.get (SAF_GRP_TESTDUE g))) % 2 ^ 32 ∧ OnlyChanges [.clk, .log, .reg .err, .sets] [SAF_GRP g] s u) ∧
  (∀ (dt : Nat) (g : Fin 8) (s : State), (¬ (s.get (SAF_GRP_GENAC g) = 1 ∧ s.get (SAF_GRP_GENBC g) = 1 ∧ (tabFind s.saf.freeAt g).any (fun t => decide (t + 604800000000000 ≤ (s.elapse dt).clk.elapsed)) = true)) → 
      ∃ u, exec (.testdue dt g) s = .next u ∧ u = (s.elapse dt)) ∧
  (∀ (dt : Nat) (k : Fin 8) (som stays : Bool) (s : State), ((s.safU (0xC0 + 8 * k.val) 1 ≠ 0 ∧ stays = true ∧ s.get (SAF_SO_FLT k) = 0 ∧ (s.switchOn k som = false ∨ s.safU (0xC2 + 8 * k.val) 1 = 1))) → 
      ∃ u, exec (.darkTest dt k som stays) s = .next u ∧ u.get (SAF_SO_FLT k) = 1 ∧ (u.get (SAF_SO_FCODE k) = (if s.switchOn k som = false ∧ som = false then 2 else 1)) ∧ u.get (SAF_SO_SOPC k) = 0 ∧ u.get (SAF_SO_SOMC k) = 0 ∧ (u.get (if som = true then SAF_SO_SOMR k else SAF_SO_SOPR k) = 1) ∧ u.rd (ERR_PRES 0x1D) = (s.rd (ERR_PRES 0x1D) + 1) % 2 ^ 32) ∧
  (∀ (dt : Nat) (k : Fin 8) (som stays : Bool) (s : State), (¬ (s.safU (0xC0 + 8 * k.val) 1 ≠ 0 ∧ stays = true ∧ s.get (SAF_SO_FLT k) = 0 ∧ (s.switchOn k som = false ∨ s.safU (0xC2 + 8 * k.val) 1 = 1))) → 
      ∃ u, exec (.darkTest dt k som stays) s = .next u ∧ u = (s.elapse dt)) ∧
  (∀ (dt : Nat) (n : Fin 64) (s : State), (¬ (s.get (SAF_CONN_STATE n) ≠ 0 ∧ (tabFind s.saf.sentCyc n).all (fun c => decide (s.connU n 1 1 ≤ (s.rd RNG_CYCNT + 2 ^ 32 - c) % 2 ^ 32)) = true)) → 
      ∃ u, exec (.safetyPduSend dt n) s = .next u ∧ u = (s.elapse dt)) ∧
  (∀ (dt : Nat) (n : Fin 64) (s : State), ((s.get (SAF_CONN_STATE n) ≠ 0 ∧ (tabFind s.saf.sentCyc n).all (fun c => decide (s.connU n 1 1 ≤ (s.rd RNG_CYCNT + 2 ^ 32 - c) % 2 ^ 32)) = true)) → 
      ∃ u, exec (.safetyPduSend dt n) s = .next u ∧ u.get (SAF_CSEQ_TXSEQ n) = (s.get (SAF_CSEQ_TXSEQ n) + 1) % 65536 ∧ ((tabGet [] u.ring.sout (if s.get RNG_CFG_ROLE = 1 then s.connU n 0 1 else 0)).length = 24) ∧ (leAt (tabGet [] u.ring.sout (if s.get RNG_CFG_ROLE = 1 then s.connU n 0 1 else 0)) 0 2 = (s.get (SAF_CSEQ_TXSEQ n) + 1) % 65536) ∧ (leAt (tabGet [] u.ring.sout (if s.get RNG_CFG_ROLE = 1 then s.connU n 0 1 else 0)) 2 1 = b2n (decide (s.get (SAF_CONN_STATE n) = 1)) + 2 * b2n (tabGet false s.saf.heard n)) ∧ (leAt (tabGet [] u.ring.sout (if s.get RNG_CFG_ROLE = 1 then s.connU n 0 1 else 0)) 3 1 = 8) ∧ (∀ i : Fin 16, bit (leAt (tabGet [] u.ring.sout (if s.get RNG_CFG_ROLE = 1 then s.connU n 0 1 else 0)) 4 2) i = decide (s.get (SAF_PAIR_STATE i) = 1)) ∧ (∀ f : Fin 32, bit (leAt (tabGet [] u.ring.sout (if s.get RNG_CFG_ROLE = 1 then s.connU n 0 1 else 0)) 8 4) f = decide (s.get (SAF_FN_STATE f) = 1 ∨ s.get (SAF_FN_STATE f) = 5)) ∧ (leAt (tabGet [] u.ring.sout (if s.get RNG_CFG_ROLE = 1 then s.connU n 0 1 else 0)) 20 4 = crc32c (leBytes 4 (if s.get RNG_CFG_ROLE = 1 then s.connU n 4 4 else s.connU n 4 4 ^^^ 0x80000000) ++ (tabGet [] u.ring.sout (if s.get RNG_CFG_ROLE = 1 then s.connU n 0 1 else 0)).take 20) % 2 ^ 32) ∧ OnlyChanges [.clk, .ring, .saf, .sets] [SAF_CSEQ n] s u) ∧
  (∀ (dt : Nat) (n : Fin 64) (s : State), s.get (SAF_CONN_STATE n) ≠ 1 → s.get (SAF_CONN_STATE n) ≠ 2 → 
      ∃ u, exec (.safetyPduReceive dt n) s = .next u ∧ u = (s.elapse dt)) ∧
  (∀ (dt : Nat) (n : Fin 64) (s : State), (s.get (SAF_CONN_STATE n) = 1 ∨ s.get (SAF_CONN_STATE n) = 2) → (crc32c (leBytes 4 (if s.get RNG_CFG_ROLE = 1 then s.connU n 4 4 ^^^ 0x80000000 else s.connU n 4 4) ++ (slice (tabGet [] s.ring.sin (if s.get RNG_CFG_ROLE = 1 then s.connU n 0 1 else 0)) 0 24).take 20) ≠ leAt (slice (tabGet [] s.ring.sin (if s.get RNG_CFG_ROLE = 1 then s.connU n 0 1 else 0)) 0 24) 20 4) → 
      ∃ u, exec (.safetyPduReceive dt n) s = .next u ∧ u.get (SAF_CONN_CRCERR n) = min (s.get (SAF_CONN_CRCERR n) + 1) 255 ∧ OnlyChanges [.clk, .sets] [SAF_CONN n] s u) ∧
  (∀ (dt : Nat) (n : Fin 64) (s : State), s.get (SAF_CONN_STATE n) = 1 → (crc32c (leBytes 4 (if s.get RNG_CFG_ROLE = 1 then s.connU n 4 4 ^^^ 0x80000000 else s.connU n 4 4) ++ (slice (tabGet [] s.ring.sin (if s.get RNG_CFG_ROLE = 1 then s.connU n 0 1 else 0)) 0 24).take 20) = leAt (slice (tabGet [] s.ring.sin (if s.get RNG_CFG_ROLE = 1 then s.connU n 0 1 else 0)) 0 24) 20 4) → (bit (leAt (slice (tabGet [] s.ring.sin (if s.get RNG_CFG_ROLE = 1 then s.connU n 0 1 else 0)) 0 24) 2 1) 0 = true) → (bit (leAt (slice (tabGet [] s.ring.sin (if s.get RNG_CFG_ROLE = 1 then s.connU n 0 1 else 0)) 0 24) 2 1) 1 = false) → 
      ∃ u, exec (.safetyPduReceive dt n) s = .next u ∧ (u.get (SAF_CSEQ_RXSEQ n) = leAt (slice (tabGet [] s.ring.sin (if s.get RNG_CFG_ROLE = 1 then s.connU n 0 1 else 0)) 0 24) 0 2) ∧ tabGet false u.saf.heard n = true ∧ u.get (SAF_CONN_STATE n) = 1 ∧ OnlyChanges [.clk, .saf, .sets] [SAF_CSEQ n] s u) ∧
  (∀ (dt : Nat) (n : Fin 64) (s : State), s.get (SAF_CONN_STATE n) = 1 → (crc32c (leBytes 4 (if s.get RNG_CFG_ROLE = 1 then s.connU n 4 4 ^^^ 0x80000000 else s.connU n 4 4) ++ (slice (tabGet [] s.ring.sin (if s.get RNG_CFG_ROLE = 1 then s.connU n 0 1 else 0)) 0 24).take 20) = leAt (slice (tabGet [] s.ring.sin (if s.get RNG_CFG_ROLE = 1 then s.connU n 0 1 else 0)) 0 24) 20 4) → (bit (leAt (slice (tabGet [] s.ring.sin (if s.get RNG_CFG_ROLE = 1 then s.connU n 0 1 else 0)) 0 24) 2 1) 1 = true) → (bit (leAt (slice (tabGet [] s.ring.sin (if s.get RNG_CFG_ROLE = 1 then s.connU n 0 1 else 0)) 0 24) 2 1) 0 = true ∨ tabGet false s.saf.heard n = true) → 
      ∃ u, exec (.safetyPduReceive dt n) s = .next u ∧ u.get (SAF_CONN_STATE n) = 2 ∧ tabGet 0 u.saf.freshAt n = (s.elapse dt).clk.elapsed ∧ OnlyChanges [.clk, .saf, .sets] [SAF_CSEQ n, SAF_CONN n] s u) ∧
  (∀ (dt : Nat) (n : Fin 64) (s : State), s.get (SAF_CONN_STATE n) = 1 → (crc32c (leBytes 4 (if s.get RNG_CFG_ROLE = 1 then s.connU n 4 4 ^^^ 0x80000000 else s.connU n 4 4) ++ (slice (tabGet [] s.ring.sin (if s.get RNG_CFG_ROLE = 1 then s.connU n 0 1 else 0)) 0 24).take 20) = leAt (slice (tabGet [] s.ring.sin (if s.get RNG_CFG_ROLE = 1 then s.connU n 0 1 else 0)) 0 24) 20 4) → (bit (leAt (slice (tabGet [] s.ring.sin (if s.get RNG_CFG_ROLE = 1 then s.connU n 0 1 else 0)) 0 24) 2 1) 0 = false) → (bit (leAt (slice (tabGet [] s.ring.sin (if s.get RNG_CFG_ROLE = 1 then s.connU n 0 1 else 0)) 0 24) 2 1) 1 = false ∨ tabGet false s.saf.heard n = false) → 
      ∃ u, exec (.safetyPduReceive dt n) s = .next u ∧ u = (s.elapse dt)) ∧
  (∀ (dt : Nat) (n : Fin 64) (s : State), s.get (SAF_CONN_STATE n) = 2 → (crc32c (leBytes 4 (if s.get RNG_CFG_ROLE = 1 then s.connU n 4 4 ^^^ 0x80000000 else s.connU n 4 4) ++ (slice (tabGet [] s.ring.sin (if s.get RNG_CFG_ROLE = 1 then s.connU n 0 1 else 0)) 0 24).take 20) = leAt (slice (tabGet [] s.ring.sin (if s.get RNG_CFG_ROLE = 1 then s.connU n 0 1 else 0)) 0 24) 20 4) → (((leAt (slice (tabGet [] s.ring.sin (if s.get RNG_CFG_ROLE = 1 then s.connU n 0 1 else 0)) 0 24) 0 2 + 65536 - s.get (SAF_CSEQ_RXSEQ n)) % 65536) = 0) → 
      ∃ u, exec (.safetyPduReceive dt n) s = .next u ∧ u = (s.elapse dt)) ∧
  (∀ (dt : Nat) (n : Fin 64) (s : State), s.get (SAF_CONN_STATE n) = 2 → (crc32c (leBytes 4 (if s.get RNG_CFG_ROLE = 1 then s.connU n 4 4 ^^^ 0x80000000 else s.connU n 4 4) ++ (slice (tabGet [] s.ring.sin (if s.get RNG_CFG_ROLE = 1 then s.connU n 0 1 else 0)) 0 24).take 20) = leAt (slice (tabGet [] s.ring.sin (if s.get RNG_CFG_ROLE = 1 then s.connU n 0 1 else 0)) 0 24) 20 4) → ((1 ≤ ((leAt (slice (tabGet [] s.ring.sin (if s.get RNG_CFG_ROLE = 1 then s.connU n 0 1 else 0)) 0 24) 0 2 + 65536 - s.get (SAF_CSEQ_RXSEQ n)) % 65536) ∧ ((leAt (slice (tabGet [] s.ring.sin (if s.get RNG_CFG_ROLE = 1 then s.connU n 0 1 else 0)) 0 24) 0 2 + 65536 - s.get (SAF_CSEQ_RXSEQ n)) % 65536) ≤ 64 ∧ bit (leAt (slice (tabGet [] s.ring.sin (if s.get RNG_CFG_ROLE = 1 then s.connU n 0 1 else 0)) 0 24) 2 1) 0 = false ∧ bit (leAt (slice (tabGet [] s.ring.sin (if s.get RNG_CFG_ROLE = 1 then s.connU n 0 1 else 0)) 0 24) 2 1) 1 = true ∧ leAt (slice (tabGet [] s.ring.sin (if s.get RNG_CFG_ROLE = 1 then s.connU n 0 1 else 0)) 0 24) 3 1 = s.connU n 8 1)) → 
      ∃ u, exec (.safetyPduReceive dt n) s = .next u ∧ (u.get (SAF_CSEQ_RXSEQ n) = leAt (slice (tabGet [] s.ring.sin (if s.get RNG_CFG_ROLE = 1 then s.connU n 0 1 else 0)) 0 24) 0 2) ∧ tabGet 0 u.saf.freshAt n = (s.elapse dt).clk.elapsed ∧ (tabFind u.saf.inputs n = some (slice (slice (tabGet [] s.ring.sin (if s.get RNG_CFG_ROLE = 1 then s.connU n 0 1 else 0)) 0 24) 4 (leAt (slice (tabGet [] s.ring.sin (if s.get RNG_CFG_ROLE = 1 then s.connU n 0 1 else 0)) 0 24) 3 1))) ∧ u.get (SAF_CONN_STATE n) = 2) ∧
  (∀ (dt : Nat) (n : Fin 64) (s : State), s.get (SAF_CONN_STATE n) = 2 → (crc32c (leBytes 4 (if s.get RNG_CFG_ROLE = 1 then s.connU n 4 4 ^^^ 0x80000000 else s.connU n 4 4) ++ (slice (tabGet [] s.ring.sin (if s.get RNG_CFG_ROLE = 1 then s.connU n 0 1 else 0)) 0 24).take 20) = leAt (slice (tabGet [] s.ring.sin (if s.get RNG_CFG_ROLE = 1 then s.connU n 0 1 else 0)) 0 24) 20 4) → (((leAt (slice (tabGet [] s.ring.sin (if s.get RNG_CFG_ROLE = 1 then s.connU n 0 1 else 0)) 0 24) 0 2 + 65536 - s.get (SAF_CSEQ_RXSEQ n)) % 65536) ≠ 0) → (¬ (1 ≤ ((leAt (slice (tabGet [] s.ring.sin (if s.get RNG_CFG_ROLE = 1 then s.connU n 0 1 else 0)) 0 24) 0 2 + 65536 - s.get (SAF_CSEQ_RXSEQ n)) % 65536) ∧ ((leAt (slice (tabGet [] s.ring.sin (if s.get RNG_CFG_ROLE = 1 then s.connU n 0 1 else 0)) 0 24) 0 2 + 65536 - s.get (SAF_CSEQ_RXSEQ n)) % 65536) ≤ 64 ∧ bit (leAt (slice (tabGet [] s.ring.sin (if s.get RNG_CFG_ROLE = 1 then s.connU n 0 1 else 0)) 0 24) 2 1) 0 = false ∧ bit (leAt (slice (tabGet [] s.ring.sin (if s.get RNG_CFG_ROLE = 1 then s.connU n 0 1 else 0)) 0 24) 2 1) 1 = true ∧ leAt (slice (tabGet [] s.ring.sin (if s.get RNG_CFG_ROLE = 1 then s.connU n 0 1 else 0)) 0 24) 3 1 = s.connU n 8 1)) → 
      ∃ u, exec (.safetyPduReceive dt n) s = .next u ∧ u.get (SAF_CONN_STATE n) = 1 ∧ tabFind u.saf.inputs n = none ∧ tabGet false u.saf.heard n = false ∧ u.get (SAF_CONN_STALE n) = min (s.get (SAF_CONN_STALE n) + 1) 255) ∧
  (∀ (dt : Nat) (n : Fin 64) (s : State), ((s.get (SAF_CONN_STATE n) = 2 ∧ tabGet 0 s.saf.freshAt n + s.connU n 2 2 * 1000000 ≤ (s.elapse dt).clk.elapsed)) → 
      ∃ u, exec (.connectionWatchdog dt n) s = .next u ∧ u.get (SAF_CONN_STATE n) = 1 ∧ tabFind u.saf.inputs n = none ∧ tabGet false u.saf.heard n = false ∧ u.get (SAF_CONN_RESTARTS n) = min (s.get (SAF_CONN_RESTARTS n) + 1) 255) ∧
  (∀ (dt : Nat) (n : Fin 64) (s : State), (¬ (s.get (SAF_CONN_STATE n) = 2 ∧ tabGet 0 s.saf.freshAt n + s.connU n 2 2 * 1000000 ≤ (s.elapse dt).clk.elapsed)) → 
      ∃ u, exec (.connectionWatchdog dt n) s = .next u ∧ u = (s.elapse dt)) ∧
  (∀ (dt : Nat) (core kerca : Bool) (s : State), s.safOn = false → 
      ∃ u, exec (.safetyHeartbeat dt core kerca) s = .next u ∧ u = (s.elapse dt)) ∧
  (∀ (dt : Nat) (core kerca : Bool) (s : State), s.safOn = true → ((core = true ∨ (s.elapse dt).clk.elapsed < s.saf.hbCore + 500000)) → ((kerca = true ∨ (s.elapse dt).clk.elapsed < s.saf.hbKerca + 500000)) → 
      ∃ u, exec (.safetyHeartbeat dt core kerca) s = .next u ∧ (u.saf.hbCore = (if core = true then (s.elapse dt).clk.elapsed else s.saf.hbCore)) ∧ (u.saf.hbKerca = (if kerca = true then (s.elapse dt).clk.elapsed else s.saf.hbKerca)) ∧ OnlyChanges [.clk, .saf, .sets] [] s u) ∧
  (∀ (dt : Nat) (core kerca : Bool) (s : State), s.safOn = true → s.get SAF_ST_FAULT = 0 → (¬ (core = true ∨ (s.elapse dt).clk.elapsed < s.saf.hbCore + 500000)) → 
      ∃ u, exec (.safetyHeartbeat dt core kerca) s = .next u ∧ (u.saf.hbCore = (if core = true then (s.elapse dt).clk.elapsed else s.saf.hbCore)) ∧ (u.saf.hbKerca = (if kerca = true then (s.elapse dt).clk.elapsed else s.saf.hbKerca)) ∧ u.get SAF_ST_FAULT = 1 ∧ u.get SAF_ST_FCAUSE = 2 ∧ (∀ y : Fin 8, u.get (SAF_GRP_GENAC y) = 0 ∧ u.get (SAF_GRP_GENBC y) = 0)) ∧
  (∀ (dt : Nat) (core kerca : Bool) (s : State), s.safOn = true → s.get SAF_ST_FAULT = 0 → ((core = true ∨ (s.elapse dt).clk.elapsed < s.saf.hbCore + 500000)) → (¬ (kerca = true ∨ (s.elapse dt).clk.elapsed < s.saf.hbKerca + 500000)) → 
      ∃ u, exec (.safetyHeartbeat dt core kerca) s = .next u ∧ (u.saf.hbCore = (if core = true then (s.elapse dt).clk.elapsed else s.saf.hbCore)) ∧ (u.saf.hbKerca = (if kerca = true then (s.elapse dt).clk.elapsed else s.saf.hbKerca)) ∧ u.get SAF_ST_FAULT = 1 ∧ u.get SAF_ST_FCAUSE = 3 ∧ (∀ y : Fin 8, u.get (SAF_GRP_GENAC y) = 0 ∧ u.get (SAF_GRP_GENBC y) = 0)) ∧
  (∀ (dt : Nat) (s : State), s.safOn = false → 
      ∃ u, exec (.crossExchange dt) s = .next u ∧ u = (s.elapse dt)) ∧
  (∀ (dt : Nat) (i : Fin 16) (t0 : Nat) (s : State), s.safOn = true → s.get SAF_ST_FAULT = 0 → s.saf.apart = some t0 → t0 + 10000000 < (s.elapse dt).clk.elapsed → s.pairUse i = 0 → s.pairState 0 i ≠ s.pairState 1 i → (∀ j : Fin 16, ((s.elapse dt).splitFor 0 j 102 = false ∧ (s.elapse dt).splitFor 1 j 102 = false)) → 
      ∃ u, exec (.crossExchange dt) s = .next u ∧ u.get SAF_ST_FAULT = 1 ∧ u.get SAF_ST_FCAUSE = 4 ∧ (∀ y : Fin 8, u.get (SAF_GRP_GENAC y) = 0 ∧ u.get (SAF_GRP_GENBC y) = 0)) ∧
  (∀ (dt : Nat) (i : Fin 16) (s : State), s.safOn = true → ((s.elapse dt).splitFor 0 i 102 = true ∨ (s.elapse dt).splitFor 1 i 102 = true) → s.pairUse i ≠ 0 → 
      ∃ u, exec (.crossExchange dt) s = .next u ∧ u.get (SAF_PAIR_DCNT i) = min (s.get (SAF_PAIR_DCNT i) + 1) 255 ∧ (∀ t : Fin 2, s.pairState t i = 2 ∨ s.pairState t i = 4 ∨ s.pairState t i = 5 → s.demanding t i false ≠ s.demanding t i true → u.pairState t i = 3)) ∧
  (∀ (dt : Nat) (s : State), s.safOn = true → (∀ j : Fin 16, s.pairUse j = 0 ∧ s.pairState 0 j = s.pairState 1 j) → (∀ f : Fin 32, s.fnKind f = 0) → 
      ∃ u, exec (.crossExchange dt) s = .next u ∧ u.saf.apart = none ∧ u.get SAF_ST_FAULT = s.get SAF_ST_FAULT) ∧
  (∀ (dt : Nat) (s : State), ((s.saf.lockAt.any fun t => decide (t + 60000000000 ≤ (s.elapse dt).clk.elapsed)) = true) → 
      ∃ u, exec (.passwordLockoutEnd dt) s = .next u ∧ u.get SAF_ST_PWLOCK = 0 ∧ u.saf.lockAt = none ∧ OnlyChanges [.clk, .saf, .sets] [SAF_ST] s u) ∧
  (∀ (dt : Nat) (s : State), ((s.saf.lockAt.any fun t => decide (t + 60000000000 ≤ (s.elapse dt).clk.elapsed)) = false) → 
      ∃ u, exec (.passwordLockoutEnd dt) s = .next u ∧ u = (s.elapse dt))

/-- What the service port answers. The port answers in READY, CHANGEOVER and NO_IMAGE only, to datagrams for its own address and UDP port; the response goes to the requester, or to the gateway where that is outside the own subnet. A good frame raises the Kennel event 0x53. A fragmented datagram, or one whose length, VER or CRC is wrong, is counted in SVC_STAT.BAD and not answered. A request whose SEQ equals the last one of its endpoint is not executed: the kept response is sent again, or nothing while it is in execution. A request with a new SEQ during the execution of the previous one is counted in SVC_STAT.OVR. A write of one who is no writer is answered with STATUS 0x04, an unknown CMD, and in NO_IMAGE one outside the recovery subset, with STATUS 0x01, and nothing else changes. ARP and ICMP echo to its own address are answered, and ICMP returns the data. A row of the table concerns the requests with its CMD alone; a request of another row changes nothing here (the model's reading, log 65). -/
def Obligations.ServicePort : Prop :=
  (∀ (dt : Nat) (ip : BitVec 32) (port : BitVec 16) (udp : Udp) (f : List (BitVec 8)) (s : State), (¬ Answers s ∨ ¬ Addressed s udp ∨ (ServiceFrame udp.frag f ∧ (2 ≤ leAt f 1 1 ∧ leAt f 1 1 ≤ 0xC ∧ (leAt f 1 1 ≠ 0xB ∨ leAt (frameBody f) 0 1 ∈ [1, 2, 3])))) → 
      ∃ u, exec (.info dt ip port udp f) s = .next u ∧ (u = (s.elapse dt).sv fun x => { x with sent := none, answered := false })) ∧
  (∀ (dt : Nat) (ip : BitVec 32) (port : BitVec 16) (udp : Udp) (f : List (BitVec 8)) (s : State), Answers s → Addressed s udp → ServiceFrame udp.frag f → leAt f 1 1 = 0x1 → keptOf s ip.toNat port.toNat = some { who := { ip := ip.toNat, port := port.toNat }, seq := leAt f 4 2, resp := none } → 
      ∃ u, exec (.info dt ip port udp f) s = .next u ∧ u.svc = { s.svc with sent := none, answered := false } ∧ u.get (KNL_EVB_FIRES 0x53) = (s.get (KNL_EVB_FIRES 0x53) + 1) % 65536 ∧ OnlyChanges [.clk, .svc, .knl, .reg .knl, .sets] [] s u) ∧
  (∀ (dt : Nat) (ip : BitVec 32) (port : BitVec 16) (udp : Udp) (f : List (BitVec 8)) (s : State), Answers s → Addressed s udp → ¬ ServiceFrame udp.frag f → 
      ∃ u, exec (.info dt ip port udp f) s = .next u ∧ u.get SVC_STAT_BAD = min (s.get SVC_STAT_BAD + 1) 65535 ∧ u.svc = { s.svc with sent := none, answered := false } ∧ OnlyChanges [.clk, .svc, .sets] [SVC_STAT] s u) ∧
  (∀ (dt : Nat) (ip : BitVec 32) (port : BitVec 16) (udp : Udp) (f : List (BitVec 8)) (k : List Byte) (s : State), Answers s → Addressed s udp → ServiceFrame udp.frag f → leAt f 1 1 = 0x1 → keptOf s ip.toNat port.toNat = some { who := { ip := ip.toNat, port := port.toNat }, seq := leAt f 4 2, resp := some k } → 
      ∃ u, exec (.info dt ip port udp f) s = .next u ∧ u.svc = { s.svc with sent := some k, answered := true, via := s.nextHop ip.toNat } ∧ u.get (KNL_EVB_FIRES 0x53) = (s.get (KNL_EVB_FIRES 0x53) + 1) % 65536 ∧ OnlyChanges [.clk, .svc, .knl, .reg .knl, .sets] [] s u) ∧
  (∀ (dt : Nat) (ip : BitVec 32) (port : BitVec 16) (udp : Udp) (f : List (BitVec 8)) (q : Nat) (s : State), Answers s → Addressed s udp → ServiceFrame udp.frag f → leAt f 1 1 = 0x1 → q ≠ leAt f 4 2 → keptOf s ip.toNat port.toNat = some { who := { ip := ip.toNat, port := port.toNat }, seq := q, resp := none } → 
      ∃ u, exec (.info dt ip port udp f) s = .next u ∧ u.get SVC_STAT_OVR = min (s.get SVC_STAT_OVR + 1) 65535 ∧ u.svc = { s.svc with sent := none, answered := false } ∧ OnlyChanges [.clk, .svc, .knl, .reg .knl, .sets] [SVC_STAT] s u) ∧
  (∀ (dt : Nat) (ip : BitVec 32) (port : BitVec 16) (udp : Udp) (f : List (BitVec 8)) (s : State), (¬ Answers s ∨ ¬ Addressed s udp ∨ (ServiceFrame udp.frag f ∧ leAt f 1 1 ≠ 0x2)) → 
      ∃ u, exec (.read dt ip port udp f) s = .next u ∧ (u = (s.elapse dt).sv fun x => { x with sent := none, answered := false })) ∧
  (∀ (dt : Nat) (ip : BitVec 32) (port : BitVec 16) (udp : Udp) (f : List (BitVec 8)) (s : State), Answers s → Addressed s udp → ServiceFrame udp.frag f → leAt f 1 1 = 0x2 → keptOf s ip.toNat port.toNat = some { who := { ip := ip.toNat, port := port.toNat }, seq := leAt f 4 2, resp := none } → 
      ∃ u, exec (.read dt ip port udp f) s = .next u ∧ u.svc = { s.svc with sent := none, answered := false } ∧ u.get (KNL_EVB_FIRES 0x53) = (s.get (KNL_EVB_FIRES 0x53) + 1) % 65536 ∧ OnlyChanges [.clk, .svc, .knl, .reg .knl, .sets] [] s u) ∧
  (∀ (dt : Nat) (ip : BitVec 32) (port : BitVec 16) (udp : Udp) (f : List (BitVec 8)) (s : State), Answers s → Addressed s udp → ¬ ServiceFrame udp.frag f → 
      ∃ u, exec (.read dt ip port udp f) s = .next u ∧ u.get SVC_STAT_BAD = min (s.get SVC_STAT_BAD + 1) 65535 ∧ u.svc = { s.svc with sent := none, answered := false } ∧ OnlyChanges [.clk, .svc, .sets] [SVC_STAT] s u) ∧
  (∀ (dt : Nat) (ip : BitVec 32) (port : BitVec 16) (udp : Udp) (f : List (BitVec 8)) (k : List Byte) (s : State), Answers s → Addressed s udp → ServiceFrame udp.frag f → leAt f 1 1 = 0x2 → keptOf s ip.toNat port.toNat = some { who := { ip := ip.toNat, port := port.toNat }, seq := leAt f 4 2, resp := some k } → 
      ∃ u, exec (.read dt ip port udp f) s = .next u ∧ u.svc = { s.svc with sent := some k, answered := true, via := s.nextHop ip.toNat } ∧ u.get (KNL_EVB_FIRES 0x53) = (s.get (KNL_EVB_FIRES 0x53) + 1) % 65536 ∧ OnlyChanges [.clk, .svc, .knl, .reg .knl, .sets] [] s u) ∧
  (∀ (dt : Nat) (ip : BitVec 32) (port : BitVec 16) (udp : Udp) (f : List (BitVec 8)) (q : Nat) (s : State), Answers s → Addressed s udp → ServiceFrame udp.frag f → leAt f 1 1 = 0x2 → q ≠ leAt f 4 2 → keptOf s ip.toNat port.toNat = some { who := { ip := ip.toNat, port := port.toNat }, seq := q, resp := none } → 
      ∃ u, exec (.read dt ip port udp f) s = .next u ∧ u.get SVC_STAT_OVR = min (s.get SVC_STAT_OVR + 1) 65535 ∧ u.svc = { s.svc with sent := none, answered := false } ∧ OnlyChanges [.clk, .svc, .knl, .reg .knl, .sets] [SVC_STAT] s u) ∧
  (∀ (dt : Nat) (ip : BitVec 32) (port : BitVec 16) (udp : Udp) (f : List (BitVec 8)) (s : State), (¬ Answers s ∨ ¬ Addressed s udp ∨ (ServiceFrame udp.frag f ∧ leAt f 1 1 ≠ 0x3)) → 
      ∃ u, exec (.write dt ip port udp f) s = .next u ∧ (u = (s.elapse dt).sv fun x => { x with sent := none, answered := false })) ∧
  (∀ (dt : Nat) (ip : BitVec 32) (port : BitVec 16) (udp : Udp) (f : List (BitVec 8)) (s : State), Answers s → Addressed s udp → ServiceFrame udp.frag f → leAt f 1 1 = 0x3 → keptOf s ip.toNat port.toNat = some { who := { ip := ip.toNat, port := port.toNat }, seq := leAt f 4 2, resp := none } → 
      ∃ u, exec (.write dt ip port udp f) s = .next u ∧ u.svc = { s.svc with sent := none, answered := false } ∧ u.get (KNL_EVB_FIRES 0x53) = (s.get (KNL_EVB_FIRES 0x53) + 1) % 65536 ∧ OnlyChanges [.clk, .svc, .knl, .reg .knl, .sets] [] s u) ∧
  (∀ (dt : Nat) (ip : BitVec 32) (port : BitVec 16) (udp : Udp) (f : List (BitVec 8)) (s : State), Answers s → Addressed s udp → ¬ ServiceFrame udp.frag f → 
      ∃ u, exec (.write dt ip port udp f) s = .next u ∧ u.get SVC_STAT_BAD = min (s.get SVC_STAT_BAD + 1) 65535 ∧ u.svc = { s.svc with sent := none, answered := false } ∧ OnlyChanges [.clk, .svc, .sets] [SVC_STAT] s u) ∧
  (∀ (dt : Nat) (ip : BitVec 32) (port : BitVec 16) (udp : Udp) (f : List (BitVec 8)) (k : List Byte) (s : State), Answers s → Addressed s udp → ServiceFrame udp.frag f → leAt f 1 1 = 0x3 → keptOf s ip.toNat port.toNat = some { who := { ip := ip.toNat, port := port.toNat }, seq := leAt f 4 2, resp := some k } → 
      ∃ u, exec (.write dt ip port udp f) s = .next u ∧ u.svc = { s.svc with sent := some k, answered := true, via := s.nextHop ip.toNat } ∧ u.get (KNL_EVB_FIRES 0x53) = (s.get (KNL_EVB_FIRES 0x53) + 1) % 65536 ∧ OnlyChanges [.clk, .svc, .knl, .reg .knl, .sets] [] s u) ∧
  (∀ (dt : Nat) (ip : BitVec 32) (port : BitVec 16) (udp : Udp) (f : List (BitVec 8)) (q : Nat) (s : State), Answers s → Addressed s udp → ServiceFrame udp.frag f → leAt f 1 1 = 0x3 → q ≠ leAt f 4 2 → keptOf s ip.toNat port.toNat = some { who := { ip := ip.toNat, port := port.toNat }, seq := q, resp := none } → 
      ∃ u, exec (.write dt ip port udp f) s = .next u ∧ u.get SVC_STAT_OVR = min (s.get SVC_STAT_OVR + 1) 65535 ∧ u.svc = { s.svc with sent := none, answered := false } ∧ OnlyChanges [.clk, .svc, .knl, .reg .knl, .sets] [SVC_STAT] s u) ∧
  (∀ (dt : Nat) (ip : BitVec 32) (port : BitVec 16) (udp : Udp) (f : List (BitVec 8)) (s : State), NewRequest s ip.toNat port.toNat udp 0x3 f → s.writer ip.toNat = false → s.get CFG_STATE_STATE ≠ 0xE → 
      ∃ u, exec (.write dt ip port udp f) s = .next u ∧ Answered s u ip.toNat port.toNat 0x3 4 f ([]) ∧ OnlyChanges [.clk, .svc, .knl, .reg .knl, .sets] [] s u) ∧
  (∀ (dt : Nat) (ip : BitVec 32) (port : BitVec 16) (udp : Udp) (f : List (BitVec 8)) (s : State), NewRequest s ip.toNat port.toNat udp 0x3 f → s.get CFG_STATE_STATE = 0xE → 
      ∃ u, exec (.write dt ip port udp f) s = .next u ∧ Answered s u ip.toNat port.toNat 0x3 1 f ([]) ∧ OnlyChanges [.clk, .svc, .knl, .reg .knl, .sets] [] s u) ∧
  (∀ (dt : Nat) (ip : BitVec 32) (port : BitVec 16) (udp : Udp) (f : List (BitVec 8)) (s : State), (¬ Answers s ∨ ¬ Addressed s udp ∨ (ServiceFrame udp.frag f ∧ leAt f 1 1 ≠ 0x4)) → 
      ∃ u, exec (.logread dt ip port udp f) s = .next u ∧ (u = (s.elapse dt).sv fun x => { x with sent := none, answered := false })) ∧
  (∀ (dt : Nat) (ip : BitVec 32) (port : BitVec 16) (udp : Udp) (f : List (BitVec 8)) (s : State), Answers s → Addressed s udp → ServiceFrame udp.frag f → leAt f 1 1 = 0x4 → keptOf s ip.toNat port.toNat = some { who := { ip := ip.toNat, port := port.toNat }, seq := leAt f 4 2, resp := none } → 
      ∃ u, exec (.logread dt ip port udp f) s = .next u ∧ u.svc = { s.svc with sent := none, answered := false } ∧ u.get (KNL_EVB_FIRES 0x53) = (s.get (KNL_EVB_FIRES 0x53) + 1) % 65536 ∧ OnlyChanges [.clk, .svc, .knl, .reg .knl, .sets] [] s u) ∧
  (∀ (dt : Nat) (ip : BitVec 32) (port : BitVec 16) (udp : Udp) (f : List (BitVec 8)) (s : State), Answers s → Addressed s udp → ¬ ServiceFrame udp.frag f → 
      ∃ u, exec (.logread dt ip port udp f) s = .next u ∧ u.get SVC_STAT_BAD = min (s.get SVC_STAT_BAD + 1) 65535 ∧ u.svc = { s.svc with sent := none, answered := false } ∧ OnlyChanges [.clk, .svc, .sets] [SVC_STAT] s u) ∧
  (∀ (dt : Nat) (ip : BitVec 32) (port : BitVec 16) (udp : Udp) (f : List (BitVec 8)) (k : List Byte) (s : State), Answers s → Addressed s udp → ServiceFrame udp.frag f → leAt f 1 1 = 0x4 → keptOf s ip.toNat port.toNat = some { who := { ip := ip.toNat, port := port.toNat }, seq := leAt f 4 2, resp := some k } → 
      ∃ u, exec (.logread dt ip port udp f) s = .next u ∧ u.svc = { s.svc with sent := some k, answered := true, via := s.nextHop ip.toNat } ∧ u.get (KNL_EVB_FIRES 0x53) = (s.get (KNL_EVB_FIRES 0x53) + 1) % 65536 ∧ OnlyChanges [.clk, .svc, .knl, .reg .knl, .sets] [] s u) ∧
  (∀ (dt : Nat) (ip : BitVec 32) (port : BitVec 16) (udp : Udp) (f : List (BitVec 8)) (q : Nat) (s : State), Answers s → Addressed s udp → ServiceFrame udp.frag f → leAt f 1 1 = 0x4 → q ≠ leAt f 4 2 → keptOf s ip.toNat port.toNat = some { who := { ip := ip.toNat, port := port.toNat }, seq := q, resp := none } → 
      ∃ u, exec (.logread dt ip port udp f) s = .next u ∧ u.get SVC_STAT_OVR = min (s.get SVC_STAT_OVR + 1) 65535 ∧ u.svc = { s.svc with sent := none, answered := false } ∧ OnlyChanges [.clk, .svc, .knl, .reg .knl, .sets] [SVC_STAT] s u) ∧
  (∀ (dt : Nat) (ip : BitVec 32) (port : BitVec 16) (udp : Udp) (f : List (BitVec 8)) (s : State), (¬ Answers s ∨ ¬ Addressed s udp ∨ (ServiceFrame udp.frag f ∧ leAt f 1 1 ≠ 0x5)) → 
      ∃ u, exec (.persread dt ip port udp f) s = .next u ∧ (u = (s.elapse dt).sv fun x => { x with sent := none, answered := false })) ∧
  (∀ (dt : Nat) (ip : BitVec 32) (port : BitVec 16) (udp : Udp) (f : List (BitVec 8)) (s : State), Answers s → Addressed s udp → ServiceFrame udp.frag f → leAt f 1 1 = 0x5 → keptOf s ip.toNat port.toNat = some { who := { ip := ip.toNat, port := port.toNat }, seq := leAt f 4 2, resp := none } → 
      ∃ u, exec (.persread dt ip port udp f) s = .next u ∧ u.svc = { s.svc with sent := none, answered := false } ∧ u.get (KNL_EVB_FIRES 0x53) = (s.get (KNL_EVB_FIRES 0x53) + 1) % 65536 ∧ OnlyChanges [.clk, .svc, .knl, .reg .knl, .sets] [] s u) ∧
  (∀ (dt : Nat) (ip : BitVec 32) (port : BitVec 16) (udp : Udp) (f : List (BitVec 8)) (s : State), Answers s → Addressed s udp → ¬ ServiceFrame udp.frag f → 
      ∃ u, exec (.persread dt ip port udp f) s = .next u ∧ u.get SVC_STAT_BAD = min (s.get SVC_STAT_BAD + 1) 65535 ∧ u.svc = { s.svc with sent := none, answered := false } ∧ OnlyChanges [.clk, .svc, .sets] [SVC_STAT] s u) ∧
  (∀ (dt : Nat) (ip : BitVec 32) (port : BitVec 16) (udp : Udp) (f : List (BitVec 8)) (k : List Byte) (s : State), Answers s → Addressed s udp → ServiceFrame udp.frag f → leAt f 1 1 = 0x5 → keptOf s ip.toNat port.toNat = some { who := { ip := ip.toNat, port := port.toNat }, seq := leAt f 4 2, resp := some k } → 
      ∃ u, exec (.persread dt ip port udp f) s = .next u ∧ u.svc = { s.svc with sent := some k, answered := true, via := s.nextHop ip.toNat } ∧ u.get (KNL_EVB_FIRES 0x53) = (s.get (KNL_EVB_FIRES 0x53) + 1) % 65536 ∧ OnlyChanges [.clk, .svc, .knl, .reg .knl, .sets] [] s u) ∧
  (∀ (dt : Nat) (ip : BitVec 32) (port : BitVec 16) (udp : Udp) (f : List (BitVec 8)) (q : Nat) (s : State), Answers s → Addressed s udp → ServiceFrame udp.frag f → leAt f 1 1 = 0x5 → q ≠ leAt f 4 2 → keptOf s ip.toNat port.toNat = some { who := { ip := ip.toNat, port := port.toNat }, seq := q, resp := none } → 
      ∃ u, exec (.persread dt ip port udp f) s = .next u ∧ u.get SVC_STAT_OVR = min (s.get SVC_STAT_OVR + 1) 65535 ∧ u.svc = { s.svc with sent := none, answered := false } ∧ OnlyChanges [.clk, .svc, .knl, .reg .knl, .sets] [SVC_STAT] s u) ∧
  (∀ (dt : Nat) (ip : BitVec 32) (port : BitVec 16) (udp : Udp) (f : List (BitVec 8)) (s : State), (¬ Answers s ∨ ¬ Addressed s udp ∨ (ServiceFrame udp.frag f ∧ leAt f 1 1 ≠ 0x6)) → 
      ∃ u, exec (.motion dt ip port udp f) s = .next u ∧ (u = (s.elapse dt).sv fun x => { x with sent := none, answered := false })) ∧
  (∀ (dt : Nat) (ip : BitVec 32) (port : BitVec 16) (udp : Udp) (f : List (BitVec 8)) (s : State), Answers s → Addressed s udp → ServiceFrame udp.frag f → leAt f 1 1 = 0x6 → keptOf s ip.toNat port.toNat = some { who := { ip := ip.toNat, port := port.toNat }, seq := leAt f 4 2, resp := none } → 
      ∃ u, exec (.motion dt ip port udp f) s = .next u ∧ u.svc = { s.svc with sent := none, answered := false } ∧ u.get (KNL_EVB_FIRES 0x53) = (s.get (KNL_EVB_FIRES 0x53) + 1) % 65536 ∧ OnlyChanges [.clk, .svc, .knl, .reg .knl, .sets] [] s u) ∧
  (∀ (dt : Nat) (ip : BitVec 32) (port : BitVec 16) (udp : Udp) (f : List (BitVec 8)) (s : State), Answers s → Addressed s udp → ¬ ServiceFrame udp.frag f → 
      ∃ u, exec (.motion dt ip port udp f) s = .next u ∧ u.get SVC_STAT_BAD = min (s.get SVC_STAT_BAD + 1) 65535 ∧ u.svc = { s.svc with sent := none, answered := false } ∧ OnlyChanges [.clk, .svc, .sets] [SVC_STAT] s u) ∧
  (∀ (dt : Nat) (ip : BitVec 32) (port : BitVec 16) (udp : Udp) (f : List (BitVec 8)) (k : List Byte) (s : State), Answers s → Addressed s udp → ServiceFrame udp.frag f → leAt f 1 1 = 0x6 → keptOf s ip.toNat port.toNat = some { who := { ip := ip.toNat, port := port.toNat }, seq := leAt f 4 2, resp := some k } → 
      ∃ u, exec (.motion dt ip port udp f) s = .next u ∧ u.svc = { s.svc with sent := some k, answered := true, via := s.nextHop ip.toNat } ∧ u.get (KNL_EVB_FIRES 0x53) = (s.get (KNL_EVB_FIRES 0x53) + 1) % 65536 ∧ OnlyChanges [.clk, .svc, .knl, .reg .knl, .sets] [] s u) ∧
  (∀ (dt : Nat) (ip : BitVec 32) (port : BitVec 16) (udp : Udp) (f : List (BitVec 8)) (q : Nat) (s : State), Answers s → Addressed s udp → ServiceFrame udp.frag f → leAt f 1 1 = 0x6 → q ≠ leAt f 4 2 → keptOf s ip.toNat port.toNat = some { who := { ip := ip.toNat, port := port.toNat }, seq := q, resp := none } → 
      ∃ u, exec (.motion dt ip port udp f) s = .next u ∧ u.get SVC_STAT_OVR = min (s.get SVC_STAT_OVR + 1) 65535 ∧ u.svc = { s.svc with sent := none, answered := false } ∧ OnlyChanges [.clk, .svc, .knl, .reg .knl, .sets] [SVC_STAT] s u) ∧
  (∀ (dt : Nat) (ip : BitVec 32) (port : BitVec 16) (udp : Udp) (f : List (BitVec 8)) (s : State), NewRequest s ip.toNat port.toNat udp 0x6 f → s.writer ip.toNat = false → s.get CFG_STATE_STATE ≠ 0xE → 
      ∃ u, exec (.motion dt ip port udp f) s = .next u ∧ Answered s u ip.toNat port.toNat 0x6 4 f ([]) ∧ OnlyChanges [.clk, .svc, .knl, .reg .knl, .sets] [] s u) ∧
  (∀ (dt : Nat) (ip : BitVec 32) (port : BitVec 16) (udp : Udp) (f : List (BitVec 8)) (s : State), NewRequest s ip.toNat port.toNat udp 0x6 f → s.get CFG_STATE_STATE = 0xE → 
      ∃ u, exec (.motion dt ip port udp f) s = .next u ∧ Answered s u ip.toNat port.toNat 0x6 1 f ([]) ∧ OnlyChanges [.clk, .svc, .knl, .reg .knl, .sets] [] s u) ∧
  (∀ (dt : Nat) (ip : BitVec 32) (port : BitVec 16) (udp : Udp) (f : List (BitVec 8)) (s : State), (¬ Answers s ∨ ¬ Addressed s udp ∨ (ServiceFrame udp.frag f ∧ leAt f 1 1 ≠ 0x7)) → 
      ∃ u, exec (.events dt ip port udp f) s = .next u ∧ (u = (s.elapse dt).sv fun x => { x with sent := none, answered := false })) ∧
  (∀ (dt : Nat) (ip : BitVec 32) (port : BitVec 16) (udp : Udp) (f : List (BitVec 8)) (s : State), Answers s → Addressed s udp → ServiceFrame udp.frag f → leAt f 1 1 = 0x7 → keptOf s ip.toNat port.toNat = some { who := { ip := ip.toNat, port := port.toNat }, seq := leAt f 4 2, resp := none } → 
      ∃ u, exec (.events dt ip port udp f) s = .next u ∧ u.svc = { s.svc with sent := none, answered := false } ∧ u.get (KNL_EVB_FIRES 0x53) = (s.get (KNL_EVB_FIRES 0x53) + 1) % 65536 ∧ OnlyChanges [.clk, .svc, .knl, .reg .knl, .sets] [] s u) ∧
  (∀ (dt : Nat) (ip : BitVec 32) (port : BitVec 16) (udp : Udp) (f : List (BitVec 8)) (s : State), Answers s → Addressed s udp → ¬ ServiceFrame udp.frag f → 
      ∃ u, exec (.events dt ip port udp f) s = .next u ∧ u.get SVC_STAT_BAD = min (s.get SVC_STAT_BAD + 1) 65535 ∧ u.svc = { s.svc with sent := none, answered := false } ∧ OnlyChanges [.clk, .svc, .sets] [SVC_STAT] s u) ∧
  (∀ (dt : Nat) (ip : BitVec 32) (port : BitVec 16) (udp : Udp) (f : List (BitVec 8)) (k : List Byte) (s : State), Answers s → Addressed s udp → ServiceFrame udp.frag f → leAt f 1 1 = 0x7 → keptOf s ip.toNat port.toNat = some { who := { ip := ip.toNat, port := port.toNat }, seq := leAt f 4 2, resp := some k } → 
      ∃ u, exec (.events dt ip port udp f) s = .next u ∧ u.svc = { s.svc with sent := some k, answered := true, via := s.nextHop ip.toNat } ∧ u.get (KNL_EVB_FIRES 0x53) = (s.get (KNL_EVB_FIRES 0x53) + 1) % 65536 ∧ OnlyChanges [.clk, .svc, .knl, .reg .knl, .sets] [] s u) ∧
  (∀ (dt : Nat) (ip : BitVec 32) (port : BitVec 16) (udp : Udp) (f : List (BitVec 8)) (q : Nat) (s : State), Answers s → Addressed s udp → ServiceFrame udp.frag f → leAt f 1 1 = 0x7 → q ≠ leAt f 4 2 → keptOf s ip.toNat port.toNat = some { who := { ip := ip.toNat, port := port.toNat }, seq := q, resp := none } → 
      ∃ u, exec (.events dt ip port udp f) s = .next u ∧ u.get SVC_STAT_OVR = min (s.get SVC_STAT_OVR + 1) 65535 ∧ u.svc = { s.svc with sent := none, answered := false } ∧ OnlyChanges [.clk, .svc, .knl, .reg .knl, .sets] [SVC_STAT] s u) ∧
  (∀ (dt : Nat) (ip : BitVec 32) (port : BitVec 16) (udp : Udp) (f : List (BitVec 8)) (s : State), NewRequest s ip.toNat port.toNat udp 0x7 f → s.get CFG_STATE_STATE = 0xE → 
      ∃ u, exec (.events dt ip port udp f) s = .next u ∧ Answered s u ip.toNat port.toNat 0x7 1 f ([]) ∧ OnlyChanges [.clk, .svc, .knl, .reg .knl, .sets] [] s u) ∧
  (∀ (dt : Nat) (ip : BitVec 32) (port : BitVec 16) (udp : Udp) (f : List (BitVec 8)) (s : State), (¬ Answers s ∨ ¬ Addressed s udp ∨ (ServiceFrame udp.frag f ∧ leAt f 1 1 ≠ 0x8)) → 
      ∃ u, exec (.dlbegin dt ip port udp f) s = .next u ∧ (u = (s.elapse dt).sv fun x => { x with sent := none, answered := false })) ∧
  (∀ (dt : Nat) (ip : BitVec 32) (port : BitVec 16) (udp : Udp) (f : List (BitVec 8)) (s : State), Answers s → Addressed s udp → ServiceFrame udp.frag f → leAt f 1 1 = 0x8 → keptOf s ip.toNat port.toNat = some { who := { ip := ip.toNat, port := port.toNat }, seq := leAt f 4 2, resp := none } → 
      ∃ u, exec (.dlbegin dt ip port udp f) s = .next u ∧ u.svc = { s.svc with sent := none, answered := false } ∧ u.get (KNL_EVB_FIRES 0x53) = (s.get (KNL_EVB_FIRES 0x53) + 1) % 65536 ∧ OnlyChanges [.clk, .svc, .knl, .reg .knl, .sets] [] s u) ∧
  (∀ (dt : Nat) (ip : BitVec 32) (port : BitVec 16) (udp : Udp) (f : List (BitVec 8)) (s : State), Answers s → Addressed s udp → ¬ ServiceFrame udp.frag f → 
      ∃ u, exec (.dlbegin dt ip port udp f) s = .next u ∧ u.get SVC_STAT_BAD = min (s.get SVC_STAT_BAD + 1) 65535 ∧ u.svc = { s.svc with sent := none, answered := false } ∧ OnlyChanges [.clk, .svc, .sets] [SVC_STAT] s u) ∧
  (∀ (dt : Nat) (ip : BitVec 32) (port : BitVec 16) (udp : Udp) (f : List (BitVec 8)) (k : List Byte) (s : State), Answers s → Addressed s udp → ServiceFrame udp.frag f → leAt f 1 1 = 0x8 → keptOf s ip.toNat port.toNat = some { who := { ip := ip.toNat, port := port.toNat }, seq := leAt f 4 2, resp := some k } → 
      ∃ u, exec (.dlbegin dt ip port udp f) s = .next u ∧ u.svc = { s.svc with sent := some k, answered := true, via := s.nextHop ip.toNat } ∧ u.get (KNL_EVB_FIRES 0x53) = (s.get (KNL_EVB_FIRES 0x53) + 1) % 65536 ∧ OnlyChanges [.clk, .svc, .knl, .reg .knl, .sets] [] s u) ∧
  (∀ (dt : Nat) (ip : BitVec 32) (port : BitVec 16) (udp : Udp) (f : List (BitVec 8)) (q : Nat) (s : State), Answers s → Addressed s udp → ServiceFrame udp.frag f → leAt f 1 1 = 0x8 → q ≠ leAt f 4 2 → keptOf s ip.toNat port.toNat = some { who := { ip := ip.toNat, port := port.toNat }, seq := q, resp := none } → 
      ∃ u, exec (.dlbegin dt ip port udp f) s = .next u ∧ u.get SVC_STAT_OVR = min (s.get SVC_STAT_OVR + 1) 65535 ∧ u.svc = { s.svc with sent := none, answered := false } ∧ OnlyChanges [.clk, .svc, .knl, .reg .knl, .sets] [SVC_STAT] s u) ∧
  (∀ (dt : Nat) (ip : BitVec 32) (port : BitVec 16) (udp : Udp) (f : List (BitVec 8)) (s : State), NewRequest s ip.toNat port.toNat udp 0x8 f → s.writer ip.toNat = false → 
      ∃ u, exec (.dlbegin dt ip port udp f) s = .next u ∧ Answered s u ip.toNat port.toNat 0x8 4 f ([]) ∧ OnlyChanges [.clk, .svc, .knl, .reg .knl, .sets] [] s u) ∧
  (∀ (dt : Nat) (ip : BitVec 32) (port : BitVec 16) (udp : Udp) (f : List (BitVec 8)) (s : State), (¬ Answers s ∨ ¬ Addressed s udp ∨ (ServiceFrame udp.frag f ∧ leAt f 1 1 ≠ 0x9)) → 
      ∃ u, exec (.dldata dt ip port udp f) s = .next u ∧ (u = (s.elapse dt).sv fun x => { x with sent := none, answered := false })) ∧
  (∀ (dt : Nat) (ip : BitVec 32) (port : BitVec 16) (udp : Udp) (f : List (BitVec 8)) (s : State), Answers s → Addressed s udp → ServiceFrame udp.frag f → leAt f 1 1 = 0x9 → keptOf s ip.toNat port.toNat = some { who := { ip := ip.toNat, port := port.toNat }, seq := leAt f 4 2, resp := none } → 
      ∃ u, exec (.dldata dt ip port udp f) s = .next u ∧ u.svc = { s.svc with sent := none, answered := false } ∧ u.get (KNL_EVB_FIRES 0x53) = (s.get (KNL_EVB_FIRES 0x53) + 1) % 65536 ∧ OnlyChanges [.clk, .svc, .knl, .reg .knl, .sets] [] s u) ∧
  (∀ (dt : Nat) (ip : BitVec 32) (port : BitVec 16) (udp : Udp) (f : List (BitVec 8)) (s : State), Answers s → Addressed s udp → ¬ ServiceFrame udp.frag f → 
      ∃ u, exec (.dldata dt ip port udp f) s = .next u ∧ u.get SVC_STAT_BAD = min (s.get SVC_STAT_BAD + 1) 65535 ∧ u.svc = { s.svc with sent := none, answered := false } ∧ OnlyChanges [.clk, .svc, .sets] [SVC_STAT] s u) ∧
  (∀ (dt : Nat) (ip : BitVec 32) (port : BitVec 16) (udp : Udp) (f : List (BitVec 8)) (k : List Byte) (s : State), Answers s → Addressed s udp → ServiceFrame udp.frag f → leAt f 1 1 = 0x9 → keptOf s ip.toNat port.toNat = some { who := { ip := ip.toNat, port := port.toNat }, seq := leAt f 4 2, resp := some k } → 
      ∃ u, exec (.dldata dt ip port udp f) s = .next u ∧ u.svc = { s.svc with sent := some k, answered := true, via := s.nextHop ip.toNat } ∧ u.get (KNL_EVB_FIRES 0x53) = (s.get (KNL_EVB_FIRES 0x53) + 1) % 65536 ∧ OnlyChanges [.clk, .svc, .knl, .reg .knl, .sets] [] s u) ∧
  (∀ (dt : Nat) (ip : BitVec 32) (port : BitVec 16) (udp : Udp) (f : List (BitVec 8)) (q : Nat) (s : State), Answers s → Addressed s udp → ServiceFrame udp.frag f → leAt f 1 1 = 0x9 → q ≠ leAt f 4 2 → keptOf s ip.toNat port.toNat = some { who := { ip := ip.toNat, port := port.toNat }, seq := q, resp := none } → 
      ∃ u, exec (.dldata dt ip port udp f) s = .next u ∧ u.get SVC_STAT_OVR = min (s.get SVC_STAT_OVR + 1) 65535 ∧ u.svc = { s.svc with sent := none, answered := false } ∧ OnlyChanges [.clk, .svc, .knl, .reg .knl, .sets] [SVC_STAT] s u) ∧
  (∀ (dt : Nat) (ip : BitVec 32) (port : BitVec 16) (udp : Udp) (f : List (BitVec 8)) (s : State), NewRequest s ip.toNat port.toNat udp 0x9 f → s.writer ip.toNat = false → 
      ∃ u, exec (.dldata dt ip port udp f) s = .next u ∧ Answered s u ip.toNat port.toNat 0x9 4 f ([]) ∧ OnlyChanges [.clk, .svc, .knl, .reg .knl, .sets] [] s u) ∧
  (∀ (dt : Nat) (ip : BitVec 32) (port : BitVec 16) (udp : Udp) (f : List (BitVec 8)) (s : State), (¬ Answers s ∨ ¬ Addressed s udp ∨ (ServiceFrame udp.frag f ∧ leAt f 1 1 ≠ 0xa)) → 
      ∃ u, exec (.dlend dt ip port udp f) s = .next u ∧ (u = (s.elapse dt).sv fun x => { x with sent := none, answered := false })) ∧
  (∀ (dt : Nat) (ip : BitVec 32) (port : BitVec 16) (udp : Udp) (f : List (BitVec 8)) (s : State), Answers s → Addressed s udp → ServiceFrame udp.frag f → leAt f 1 1 = 0xa → keptOf s ip.toNat port.toNat = some { who := { ip := ip.toNat, port := port.toNat }, seq := leAt f 4 2, resp := none } → 
      ∃ u, exec (.dlend dt ip port udp f) s = .next u ∧ u.svc = { s.svc with sent := none, answered := false } ∧ u.get (KNL_EVB_FIRES 0x53) = (s.get (KNL_EVB_FIRES 0x53) + 1) % 65536 ∧ OnlyChanges [.clk, .svc, .knl, .reg .knl, .sets] [] s u) ∧
  (∀ (dt : Nat) (ip : BitVec 32) (port : BitVec 16) (udp : Udp) (f : List (BitVec 8)) (s : State), Answers s → Addressed s udp → ¬ ServiceFrame udp.frag f → 
      ∃ u, exec (.dlend dt ip port udp f) s = .next u ∧ u.get SVC_STAT_BAD = min (s.get SVC_STAT_BAD + 1) 65535 ∧ u.svc = { s.svc with sent := none, answered := false } ∧ OnlyChanges [.clk, .svc, .sets] [SVC_STAT] s u) ∧
  (∀ (dt : Nat) (ip : BitVec 32) (port : BitVec 16) (udp : Udp) (f : List (BitVec 8)) (k : List Byte) (s : State), Answers s → Addressed s udp → ServiceFrame udp.frag f → leAt f 1 1 = 0xa → keptOf s ip.toNat port.toNat = some { who := { ip := ip.toNat, port := port.toNat }, seq := leAt f 4 2, resp := some k } → 
      ∃ u, exec (.dlend dt ip port udp f) s = .next u ∧ u.svc = { s.svc with sent := some k, answered := true, via := s.nextHop ip.toNat } ∧ u.get (KNL_EVB_FIRES 0x53) = (s.get (KNL_EVB_FIRES 0x53) + 1) % 65536 ∧ OnlyChanges [.clk, .svc, .knl, .reg .knl, .sets] [] s u) ∧
  (∀ (dt : Nat) (ip : BitVec 32) (port : BitVec 16) (udp : Udp) (f : List (BitVec 8)) (q : Nat) (s : State), Answers s → Addressed s udp → ServiceFrame udp.frag f → leAt f 1 1 = 0xa → q ≠ leAt f 4 2 → keptOf s ip.toNat port.toNat = some { who := { ip := ip.toNat, port := port.toNat }, seq := q, resp := none } → 
      ∃ u, exec (.dlend dt ip port udp f) s = .next u ∧ u.get SVC_STAT_OVR = min (s.get SVC_STAT_OVR + 1) 65535 ∧ u.svc = { s.svc with sent := none, answered := false } ∧ OnlyChanges [.clk, .svc, .knl, .reg .knl, .sets] [SVC_STAT] s u) ∧
  (∀ (dt : Nat) (ip : BitVec 32) (port : BitVec 16) (udp : Udp) (f : List (BitVec 8)) (s : State), NewRequest s ip.toNat port.toNat udp 0xa f → s.writer ip.toNat = false → 
      ∃ u, exec (.dlend dt ip port udp f) s = .next u ∧ Answered s u ip.toNat port.toNat 0xa 4 f ([]) ∧ OnlyChanges [.clk, .svc, .knl, .reg .knl, .sets] [] s u) ∧
  (∀ (dt : Nat) (ip : BitVec 32) (port : BitVec 16) (udp : Udp) (f : List (BitVec 8)) (qvsel clksel test : Bool) (s : State), (¬ Answers s ∨ ¬ Addressed s udp ∨ (ServiceFrame udp.frag f ∧ leAt f 1 1 ≠ 0xc)) → 
      ∃ u, exec (.restart dt ip port udp f qvsel clksel test) s = .next u ∧ (u = (s.elapse dt).sv fun x => { x with sent := none, answered := false })) ∧
  (∀ (dt : Nat) (ip : BitVec 32) (port : BitVec 16) (udp : Udp) (f : List (BitVec 8)) (qvsel clksel test : Bool) (s : State), Answers s → Addressed s udp → ServiceFrame udp.frag f → leAt f 1 1 = 0xc → keptOf s ip.toNat port.toNat = some { who := { ip := ip.toNat, port := port.toNat }, seq := leAt f 4 2, resp := none } → 
      ∃ u, exec (.restart dt ip port udp f qvsel clksel test) s = .next u ∧ u.svc = { s.svc with sent := none, answered := false } ∧ u.get (KNL_EVB_FIRES 0x53) = (s.get (KNL_EVB_FIRES 0x53) + 1) % 65536 ∧ OnlyChanges [.clk, .svc, .knl, .reg .knl, .sets] [] s u) ∧
  (∀ (dt : Nat) (ip : BitVec 32) (port : BitVec 16) (udp : Udp) (f : List (BitVec 8)) (qvsel clksel test : Bool) (s : State), Answers s → Addressed s udp → ¬ ServiceFrame udp.frag f → 
      ∃ u, exec (.restart dt ip port udp f qvsel clksel test) s = .next u ∧ u.get SVC_STAT_BAD = min (s.get SVC_STAT_BAD + 1) 65535 ∧ u.svc = { s.svc with sent := none, answered := false } ∧ OnlyChanges [.clk, .svc, .sets] [SVC_STAT] s u) ∧
  (∀ (dt : Nat) (ip : BitVec 32) (port : BitVec 16) (udp : Udp) (f : List (BitVec 8)) (qvsel clksel test : Bool) (k : List Byte) (s : State), Answers s → Addressed s udp → ServiceFrame udp.frag f → leAt f 1 1 = 0xc → keptOf s ip.toNat port.toNat = some { who := { ip := ip.toNat, port := port.toNat }, seq := leAt f 4 2, resp := some k } → 
      ∃ u, exec (.restart dt ip port udp f qvsel clksel test) s = .next u ∧ u.svc = { s.svc with sent := some k, answered := true, via := s.nextHop ip.toNat } ∧ u.get (KNL_EVB_FIRES 0x53) = (s.get (KNL_EVB_FIRES 0x53) + 1) % 65536 ∧ OnlyChanges [.clk, .svc, .knl, .reg .knl, .sets] [] s u) ∧
  (∀ (dt : Nat) (ip : BitVec 32) (port : BitVec 16) (udp : Udp) (f : List (BitVec 8)) (qvsel clksel test : Bool) (q : Nat) (s : State), Answers s → Addressed s udp → ServiceFrame udp.frag f → leAt f 1 1 = 0xc → q ≠ leAt f 4 2 → keptOf s ip.toNat port.toNat = some { who := { ip := ip.toNat, port := port.toNat }, seq := q, resp := none } → 
      ∃ u, exec (.restart dt ip port udp f qvsel clksel test) s = .next u ∧ u.get SVC_STAT_OVR = min (s.get SVC_STAT_OVR + 1) 65535 ∧ u.svc = { s.svc with sent := none, answered := false } ∧ OnlyChanges [.clk, .svc, .knl, .reg .knl, .sets] [SVC_STAT] s u) ∧
  (∀ (dt : Nat) (ip : BitVec 32) (port : BitVec 16) (udp : Udp) (f : List (BitVec 8)) (qvsel clksel test : Bool) (s : State), NewRequest s ip.toNat port.toNat udp 0xc f → s.writer ip.toNat = false → 
      ∃ u, exec (.restart dt ip port udp f qvsel clksel test) s = .next u ∧ Answered s u ip.toNat port.toNat 0xc 4 f ([]) ∧ OnlyChanges [.clk, .svc, .knl, .reg .knl, .sets] [] s u) ∧
  (∀ (dt : Nat) (ip : BitVec 32) (port : BitVec 16) (udp : Udp) (f : List (BitVec 8)) (mramOk : Bool) (s : State), (¬ Answers s ∨ ¬ Addressed s udp ∨ (ServiceFrame udp.frag f ∧ (leAt f 1 1 ≠ 0xB ∨ leAt (frameBody f) 0 1 ≠ 1))) → 
      ∃ u, exec (.accept dt ip port udp f mramOk) s = .next u ∧ (u = (s.elapse dt).sv fun x => { x with sent := none, answered := false })) ∧
  (∀ (dt : Nat) (ip : BitVec 32) (port : BitVec 16) (udp : Udp) (f : List (BitVec 8)) (mramOk : Bool) (s : State), Answers s → Addressed s udp → ServiceFrame udp.frag f → (leAt f 1 1 = 0xb ∧ leAt (frameBody f) 0 1 = 1) → keptOf s ip.toNat port.toNat = some { who := { ip := ip.toNat, port := port.toNat }, seq := leAt f 4 2, resp := none } → 
      ∃ u, exec (.accept dt ip port udp f mramOk) s = .next u ∧ u.svc = { s.svc with sent := none, answered := false } ∧ u.get (KNL_EVB_FIRES 0x53) = (s.get (KNL_EVB_FIRES 0x53) + 1) % 65536 ∧ OnlyChanges [.clk, .svc, .knl, .reg .knl, .sets] [] s u) ∧
  (∀ (dt : Nat) (ip : BitVec 32) (port : BitVec 16) (udp : Udp) (f : List (BitVec 8)) (mramOk : Bool) (s : State), Answers s → Addressed s udp → ¬ ServiceFrame udp.frag f → 
      ∃ u, exec (.accept dt ip port udp f mramOk) s = .next u ∧ u.get SVC_STAT_BAD = min (s.get SVC_STAT_BAD + 1) 65535 ∧ u.svc = { s.svc with sent := none, answered := false } ∧ OnlyChanges [.clk, .svc, .sets] [SVC_STAT] s u) ∧
  (∀ (dt : Nat) (ip : BitVec 32) (port : BitVec 16) (udp : Udp) (f : List (BitVec 8)) (mramOk : Bool) (k : List Byte) (s : State), Answers s → Addressed s udp → ServiceFrame udp.frag f → (leAt f 1 1 = 0xb ∧ leAt (frameBody f) 0 1 = 1) → keptOf s ip.toNat port.toNat = some { who := { ip := ip.toNat, port := port.toNat }, seq := leAt f 4 2, resp := some k } → 
      ∃ u, exec (.accept dt ip port udp f mramOk) s = .next u ∧ u.svc = { s.svc with sent := some k, answered := true, via := s.nextHop ip.toNat } ∧ u.get (KNL_EVB_FIRES 0x53) = (s.get (KNL_EVB_FIRES 0x53) + 1) % 65536 ∧ OnlyChanges [.clk, .svc, .knl, .reg .knl, .sets] [] s u) ∧
  (∀ (dt : Nat) (ip : BitVec 32) (port : BitVec 16) (udp : Udp) (f : List (BitVec 8)) (mramOk : Bool) (q : Nat) (s : State), Answers s → Addressed s udp → ServiceFrame udp.frag f → (leAt f 1 1 = 0xb ∧ leAt (frameBody f) 0 1 = 1) → q ≠ leAt f 4 2 → keptOf s ip.toNat port.toNat = some { who := { ip := ip.toNat, port := port.toNat }, seq := q, resp := none } → 
      ∃ u, exec (.accept dt ip port udp f mramOk) s = .next u ∧ u.get SVC_STAT_OVR = min (s.get SVC_STAT_OVR + 1) 65535 ∧ u.svc = { s.svc with sent := none, answered := false } ∧ OnlyChanges [.clk, .svc, .knl, .reg .knl, .sets] [SVC_STAT] s u) ∧
  (∀ (dt : Nat) (ip : BitVec 32) (port : BitVec 16) (udp : Udp) (f : List (BitVec 8)) (mramOk : Bool) (s : State), NewRequest s ip.toNat port.toNat udp 0xb f → s.writer ip.toNat = false → leAt (frameBody f) 0 1 = 1 → s.get CFG_STATE_STATE ≠ 0xE → 
      ∃ u, exec (.accept dt ip port udp f mramOk) s = .next u ∧ Answered s u ip.toNat port.toNat 0xb 4 f ([]) ∧ OnlyChanges [.clk, .svc, .knl, .reg .knl, .sets] [] s u) ∧
  (∀ (dt : Nat) (ip : BitVec 32) (port : BitVec 16) (udp : Udp) (f : List (BitVec 8)) (mramOk : Bool) (s : State), NewRequest s ip.toNat port.toNat udp 0xb f → s.get CFG_STATE_STATE = 0xE → leAt (frameBody f) 0 1 = 1 → 
      ∃ u, exec (.accept dt ip port udp f mramOk) s = .next u ∧ Answered s u ip.toNat port.toNat 0xb 1 f ([]) ∧ OnlyChanges [.clk, .svc, .knl, .reg .knl, .sets] [] s u) ∧
  (∀ (dt : Nat) (ip : BitVec 32) (port : BitVec 16) (udp : Udp) (f : List (BitVec 8)) (mramOk : Bool) (s : State), (¬ Answers s ∨ ¬ Addressed s udp ∨ (ServiceFrame udp.frag f ∧ (leAt f 1 1 ≠ 0xB ∨ leAt (frameBody f) 0 1 ≠ 2))) → 
      ∃ u, exec (.withdraw dt ip port udp f mramOk) s = .next u ∧ (u = (s.elapse dt).sv fun x => { x with sent := none, answered := false })) ∧
  (∀ (dt : Nat) (ip : BitVec 32) (port : BitVec 16) (udp : Udp) (f : List (BitVec 8)) (mramOk : Bool) (s : State), Answers s → Addressed s udp → ServiceFrame udp.frag f → (leAt f 1 1 = 0xb ∧ leAt (frameBody f) 0 1 = 2) → keptOf s ip.toNat port.toNat = some { who := { ip := ip.toNat, port := port.toNat }, seq := leAt f 4 2, resp := none } → 
      ∃ u, exec (.withdraw dt ip port udp f mramOk) s = .next u ∧ u.svc = { s.svc with sent := none, answered := false } ∧ u.get (KNL_EVB_FIRES 0x53) = (s.get (KNL_EVB_FIRES 0x53) + 1) % 65536 ∧ OnlyChanges [.clk, .svc, .knl, .reg .knl, .sets] [] s u) ∧
  (∀ (dt : Nat) (ip : BitVec 32) (port : BitVec 16) (udp : Udp) (f : List (BitVec 8)) (mramOk : Bool) (s : State), Answers s → Addressed s udp → ¬ ServiceFrame udp.frag f → 
      ∃ u, exec (.withdraw dt ip port udp f mramOk) s = .next u ∧ u.get SVC_STAT_BAD = min (s.get SVC_STAT_BAD + 1) 65535 ∧ u.svc = { s.svc with sent := none, answered := false } ∧ OnlyChanges [.clk, .svc, .sets] [SVC_STAT] s u) ∧
  (∀ (dt : Nat) (ip : BitVec 32) (port : BitVec 16) (udp : Udp) (f : List (BitVec 8)) (mramOk : Bool) (k : List Byte) (s : State), Answers s → Addressed s udp → ServiceFrame udp.frag f → (leAt f 1 1 = 0xb ∧ leAt (frameBody f) 0 1 = 2) → keptOf s ip.toNat port.toNat = some { who := { ip := ip.toNat, port := port.toNat }, seq := leAt f 4 2, resp := some k } → 
      ∃ u, exec (.withdraw dt ip port udp f mramOk) s = .next u ∧ u.svc = { s.svc with sent := some k, answered := true, via := s.nextHop ip.toNat } ∧ u.get (KNL_EVB_FIRES 0x53) = (s.get (KNL_EVB_FIRES 0x53) + 1) % 65536 ∧ OnlyChanges [.clk, .svc, .knl, .reg .knl, .sets] [] s u) ∧
  (∀ (dt : Nat) (ip : BitVec 32) (port : BitVec 16) (udp : Udp) (f : List (BitVec 8)) (mramOk : Bool) (q : Nat) (s : State), Answers s → Addressed s udp → ServiceFrame udp.frag f → (leAt f 1 1 = 0xb ∧ leAt (frameBody f) 0 1 = 2) → q ≠ leAt f 4 2 → keptOf s ip.toNat port.toNat = some { who := { ip := ip.toNat, port := port.toNat }, seq := q, resp := none } → 
      ∃ u, exec (.withdraw dt ip port udp f mramOk) s = .next u ∧ u.get SVC_STAT_OVR = min (s.get SVC_STAT_OVR + 1) 65535 ∧ u.svc = { s.svc with sent := none, answered := false } ∧ OnlyChanges [.clk, .svc, .knl, .reg .knl, .sets] [SVC_STAT] s u) ∧
  (∀ (dt : Nat) (ip : BitVec 32) (port : BitVec 16) (udp : Udp) (f : List (BitVec 8)) (mramOk : Bool) (s : State), NewRequest s ip.toNat port.toNat udp 0xb f → s.writer ip.toNat = false → leAt (frameBody f) 0 1 = 2 → s.get CFG_STATE_STATE ≠ 0xE → 
      ∃ u, exec (.withdraw dt ip port udp f mramOk) s = .next u ∧ Answered s u ip.toNat port.toNat 0xb 4 f ([]) ∧ OnlyChanges [.clk, .svc, .knl, .reg .knl, .sets] [] s u) ∧
  (∀ (dt : Nat) (ip : BitVec 32) (port : BitVec 16) (udp : Udp) (f : List (BitVec 8)) (mramOk : Bool) (s : State), NewRequest s ip.toNat port.toNat udp 0xb f → s.get CFG_STATE_STATE = 0xE → leAt (frameBody f) 0 1 = 2 → 
      ∃ u, exec (.withdraw dt ip port udp f mramOk) s = .next u ∧ Answered s u ip.toNat port.toNat 0xb 1 f ([]) ∧ OnlyChanges [.clk, .svc, .knl, .reg .knl, .sets] [] s u) ∧
  (∀ (dt : Nat) (ip : BitVec 32) (port : BitVec 16) (udp : Udp) (f : List (BitVec 8)) (mramOk : Bool) (s : State), (¬ Answers s ∨ ¬ Addressed s udp ∨ (ServiceFrame udp.frag f ∧ (leAt f 1 1 ≠ 0xB ∨ leAt (frameBody f) 0 1 ≠ 3))) → 
      ∃ u, exec (.clearlog dt ip port udp f mramOk) s = .next u ∧ (u = (s.elapse dt).sv fun x => { x with sent := none, answered := false })) ∧
  (∀ (dt : Nat) (ip : BitVec 32) (port : BitVec 16) (udp : Udp) (f : List (BitVec 8)) (mramOk : Bool) (s : State), Answers s → Addressed s udp → ServiceFrame udp.frag f → (leAt f 1 1 = 0xb ∧ leAt (frameBody f) 0 1 = 3) → keptOf s ip.toNat port.toNat = some { who := { ip := ip.toNat, port := port.toNat }, seq := leAt f 4 2, resp := none } → 
      ∃ u, exec (.clearlog dt ip port udp f mramOk) s = .next u ∧ u.svc = { s.svc with sent := none, answered := false } ∧ u.get (KNL_EVB_FIRES 0x53) = (s.get (KNL_EVB_FIRES 0x53) + 1) % 65536 ∧ OnlyChanges [.clk, .svc, .knl, .reg .knl, .sets] [] s u) ∧
  (∀ (dt : Nat) (ip : BitVec 32) (port : BitVec 16) (udp : Udp) (f : List (BitVec 8)) (mramOk : Bool) (s : State), Answers s → Addressed s udp → ¬ ServiceFrame udp.frag f → 
      ∃ u, exec (.clearlog dt ip port udp f mramOk) s = .next u ∧ u.get SVC_STAT_BAD = min (s.get SVC_STAT_BAD + 1) 65535 ∧ u.svc = { s.svc with sent := none, answered := false } ∧ OnlyChanges [.clk, .svc, .sets] [SVC_STAT] s u) ∧
  (∀ (dt : Nat) (ip : BitVec 32) (port : BitVec 16) (udp : Udp) (f : List (BitVec 8)) (mramOk : Bool) (k : List Byte) (s : State), Answers s → Addressed s udp → ServiceFrame udp.frag f → (leAt f 1 1 = 0xb ∧ leAt (frameBody f) 0 1 = 3) → keptOf s ip.toNat port.toNat = some { who := { ip := ip.toNat, port := port.toNat }, seq := leAt f 4 2, resp := some k } → 
      ∃ u, exec (.clearlog dt ip port udp f mramOk) s = .next u ∧ u.svc = { s.svc with sent := some k, answered := true, via := s.nextHop ip.toNat } ∧ u.get (KNL_EVB_FIRES 0x53) = (s.get (KNL_EVB_FIRES 0x53) + 1) % 65536 ∧ OnlyChanges [.clk, .svc, .knl, .reg .knl, .sets] [] s u) ∧
  (∀ (dt : Nat) (ip : BitVec 32) (port : BitVec 16) (udp : Udp) (f : List (BitVec 8)) (mramOk : Bool) (q : Nat) (s : State), Answers s → Addressed s udp → ServiceFrame udp.frag f → (leAt f 1 1 = 0xb ∧ leAt (frameBody f) 0 1 = 3) → q ≠ leAt f 4 2 → keptOf s ip.toNat port.toNat = some { who := { ip := ip.toNat, port := port.toNat }, seq := q, resp := none } → 
      ∃ u, exec (.clearlog dt ip port udp f mramOk) s = .next u ∧ u.get SVC_STAT_OVR = min (s.get SVC_STAT_OVR + 1) 65535 ∧ u.svc = { s.svc with sent := none, answered := false } ∧ OnlyChanges [.clk, .svc, .knl, .reg .knl, .sets] [SVC_STAT] s u) ∧
  (∀ (dt : Nat) (ip : BitVec 32) (port : BitVec 16) (udp : Udp) (f : List (BitVec 8)) (mramOk : Bool) (s : State), NewRequest s ip.toNat port.toNat udp 0xb f → s.writer ip.toNat = false → leAt (frameBody f) 0 1 = 3 → s.get CFG_STATE_STATE ≠ 0xE → 
      ∃ u, exec (.clearlog dt ip port udp f mramOk) s = .next u ∧ Answered s u ip.toNat port.toNat 0xb 4 f ([]) ∧ OnlyChanges [.clk, .svc, .knl, .reg .knl, .sets] [] s u) ∧
  (∀ (dt : Nat) (ip : BitVec 32) (port : BitVec 16) (udp : Udp) (f : List (BitVec 8)) (mramOk : Bool) (s : State), NewRequest s ip.toNat port.toNat udp 0xb f → s.get CFG_STATE_STATE = 0xE → leAt (frameBody f) 0 1 = 3 → 
      ∃ u, exec (.clearlog dt ip port udp f mramOk) s = .next u ∧ Answered s u ip.toNat port.toNat 0xb 1 f ([]) ∧ OnlyChanges [.clk, .svc, .knl, .reg .knl, .sets] [] s u) ∧
  (∀ (dt : Nat) (ip : BitVec 32) (port : BitVec 16) (udp : Udp) (f : List (BitVec 8)) (n : Nat) (s : State), NewRequest s ip.toNat port.toNat udp n f → (n = 0 ∨ 0xC < n) → 
      ∃ u, exec (.info dt ip port udp f) s = .next u ∧ Answered s u ip.toNat port.toNat n 1 f ([]) ∧ u.get (KNL_EVB_FIRES 0x53) = (s.get (KNL_EVB_FIRES 0x53) + 1) % 65536 ∧ OnlyChanges [.clk, .svc, .knl, .reg .knl, .sets] [] s u) ∧
  (∀ (dt : Nat) (ip : BitVec 32) (port : BitVec 16) (udp : Udp) (f : List (BitVec 8)) (s : State), NewRequest s ip.toNat port.toNat udp 0xB f → (leAt (frameBody f) 0 1 = 0 ∨ 3 < leAt (frameBody f) 0 1) → s.get CFG_STATE_STATE ≠ 0xE → s.writer ip.toNat = true → 
      ∃ u, exec (.info dt ip port udp f) s = .next u ∧ Answered s u ip.toNat port.toNat 0xB 2 f ([]) ∧ OnlyChanges [.clk, .svc, .knl, .reg .knl, .sets] [] s u) ∧
  (∀ (dt : Nat) (target : BitVec 32) (s : State), Answers s → (match s.boot.net with | some l => ofBe (slice l 0 4) | none => 0xA9FE2038) = target.toNat → 
      ∃ u, exec (.arpRequest dt target) s = .next u ∧ (u = (s.elapse dt).sv fun x => { x with sent := none, answered := true })) ∧
  (∀ (dt : Nat) (target : BitVec 32) (s : State), (¬ Answers s ∨ (match s.boot.net with | some l => ofBe (slice l 0 4) | none => 0xA9FE2038) ≠ target.toNat) → 
      ∃ u, exec (.arpRequest dt target) s = .next u ∧ (u = (s.elapse dt).sv fun x => { x with sent := none, answered := false })) ∧
  (∀ (dt : Nat) (target : BitVec 32) (data : List (BitVec 8)) (s : State), Answers s → (match s.boot.net with | some l => ofBe (slice l 0 4) | none => 0xA9FE2038) = target.toNat → 
      ∃ u, exec (.icmpEcho dt target false data) s = .next u ∧ (u = (s.elapse dt).sv fun x => { x with sent := some data, answered := true })) ∧
  (∀ (dt : Nat) (target : BitVec 32) (data : List (BitVec 8)) (s : State), (¬ Answers s ∨ (match s.boot.net with | some l => ofBe (slice l 0 4) | none => 0xA9FE2038) ≠ target.toNat) → 
      ∃ u, exec (.icmpEcho dt target false data) s = .next u ∧ (u = (s.elapse dt).sv fun x => { x with sent := none, answered := false })) ∧
  (∀ (dt : Nat) (target : BitVec 32) (data : List (BitVec 8)) (s : State), Answers s → 
      ∃ u, exec (.icmpEcho dt target true data) s = .next u ∧ u.get SVC_STAT_BAD = min (s.get SVC_STAT_BAD + 1) 65535 ∧ OnlyChanges [.clk, .sets] [SVC_STAT] s u) ∧
  (∀ (dt : Nat) (target : BitVec 32) (data : List (BitVec 8)) (s : State), ¬ Answers s → 
      ∃ u, exec (.icmpEcho dt target true data) s = .next u ∧ u = (s.elapse dt))

/-- What each service command does. A new request is answered with the body of its command and that response is kept: INFO, the words of a READ of bulk memory or of one register, the counts of a WRITE whose words go one each 10 ns, the records of LOGREAD and slots of PERSREAD, the push of MOTION, the events of EVENTS which are removed, a download begun, continued and ended, a restart. A SAFETY request reaches the safety core: a wrong password is counted and the fifth locks requests out for 60 s; a right one carries its request out with an entry in the change log, and gives its result. A malformed body is STATUS 0x02, a range outside one block 0x03, a foreign download or a changeover 0x05, what the present state forbids 0x06. The 34 slots of PERSREAD are log 53, the core of MOTION log 54, an incomplete DLEND log 55. -/
def Obligations.ServiceCommands : Prop :=
  (∀ (dt : Nat) (ip : BitVec 32) (port : BitVec 16) (udp : Udp) (f : List (BitVec 8)) (s : State), NewRequest s ip.toNat port.toNat udp 1 f → (frameBody f) = [] → 
      ∃ u, exec (.info dt ip port udp f) s = .next u ∧ Answered s u ip.toNat port.toNat 1 0 f (leBytes 4 0x3256 ++ leBytes 4 (leAt (s.boot.base.getD {}).header 0x14 4) ++ leBytes 4 (s.rd CFG_SEQ) ++ leBytes 4 (s.rd CFG_STATE) ++ leBytes 4 (s.rd CFG_BOOT) ++ leBytes 4 (s.rd CFG_RCP) ++ leBytes 2 (leAt (((s.boot.base.getD {}).one 0x01).getD []) 4 2) ++ leBytes 1 (s.get RNG_CFG_ROLE) ++ leBytes 1 0) ∧ OnlyChanges [.clk, .svc, .knl, .reg .knl, .sets] [] s u) ∧
  (∀ (dt : Nat) (ip : BitVec 32) (port : BitVec 16) (udp : Udp) (f : List (BitVec 8)) (s : State), NewRequest s ip.toNat port.toNat udp 1 f → (frameBody f) ≠ [] → 
      ∃ u, exec (.info dt ip port udp f) s = .next u ∧ Answered s u ip.toNat port.toNat 1 2 f ([]) ∧ OnlyChanges [.clk, .svc, .knl, .reg .knl, .sets] [] s u) ∧
  (∀ (dt : Nat) (ip : BitVec 32) (port : BitVec 16) (udp : Udp) (f : List (BitVec 8)) (s : State), NewRequest s ip.toNat port.toNat udp 2 f → ((frameBody f).length ≠ 6 ∨ leAt (frameBody f) 4 2 = 0 ∨ 256 < leAt (frameBody f) 4 2) → 
      ∃ u, exec (.read dt ip port udp f) s = .next u ∧ Answered s u ip.toNat port.toNat 2 2 f ([]) ∧ OnlyChanges [.clk, .svc, .knl, .reg .knl, .sets] [] s u) ∧
  (∀ (dt : Nat) (ip : BitVec 32) (port : BitVec 16) (udp : Udp) (f : List (BitVec 8)) (s : State), NewRequest s ip.toNat port.toNat udp 2 f → (frameBody f).length = 6 → 1 ≤ leAt (frameBody f) 4 2 → leAt (frameBody f) 4 2 ≤ 256 → (oneBlock (leAt (frameBody f) 0 4) (leAt (frameBody f) 4 2) = false ∨ (s.get CFG_STATE_STATE = 0xE ∧ blockNo (leAt (frameBody f) 0 4) ≠ some 0x10 ∧ blockNo (leAt (frameBody f) 0 4) ≠ some 0x1F0)) → 
      ∃ u, exec (.read dt ip port udp f) s = .next u ∧ Answered s u ip.toNat port.toNat 2 3 f ([]) ∧ OnlyChanges [.clk, .svc, .knl, .reg .knl, .sets] [] s u) ∧
  (∀ (dt : Nat) (ip : BitVec 32) (port : BitVec 16) (udp : Udp) (f : List (BitVec 8)) (s : State), NewRequest s ip.toNat port.toNat udp 2 f → (frameBody f).length = 6 → 1 ≤ leAt (frameBody f) 4 2 → leAt (frameBody f) 4 2 ≤ 256 → s.get CFG_STATE_STATE ≠ 0xE → 0x80000000 ≤ leAt (frameBody f) 0 4 → leAt (frameBody f) 0 4 + 4 * leAt (frameBody f) 4 2 ≤ 2 ^ 32 → 
      ∃ u, exec (.read dt ip port udp f) s = .next u ∧ (Answered s u ip.toNat port.toNat 2 0 f ((List.range (leAt (frameBody f) 4 2)).flatMap fun i => leBytes 4 (s.bulkLe (leAt (frameBody f) 0 4 + 4 * i) 4))) ∧ OnlyChanges [.clk, .svc, .knl, .reg .knl, .bus, .sets] [] s u) ∧
  (∀ (dt : Nat) (ip : BitVec 32) (port : BitVec 16) (udp : Udp) (f : List (BitVec 8)) (d : RegDesc) (s : State), NewRequest s ip.toNat port.toNat udp 2 f → (frameBody f).length = 6 → leAt (frameBody f) 4 2 = 1 → s.get CFG_STATE_STATE ≠ 0xE → leAt (frameBody f) 0 4 % 4 = 0 → (leAt (frameBody f) 0 4 / 2 ^ 24 = 0x11 ∨ leAt (frameBody f) 0 4 / 2 ^ 24 = 0x12) → regDesc (leAt (frameBody f) 0 4) = some d → d.part = .word → d.wo = 0 → 
      ∃ u, exec (.read dt ip port udp f) s = .next u ∧ Answered s u ip.toNat port.toNat 2 0 f (leBytes 4 (s.rd (leAt (frameBody f) 0 4))) ∧ OnlyChanges [.clk, .svc, .knl, .reg .knl, .bus, .sets] [] s u) ∧
  (∀ (dt : Nat) (ip : BitVec 32) (port : BitVec 16) (udp : Udp) (f : List (BitVec 8)) (q : Fin 64) (s : State), NewRequest s ip.toNat port.toNat udp 2 f → (frameBody f).length = 6 → leAt (frameBody f) 4 2 = 1 → s.get CFG_STATE_STATE ≠ 0xE → leAt (frameBody f) 0 4 = QUE_POP q → 
      ∃ u, exec (.read dt ip port udp f) s = .next u ∧ Answered s u ip.toNat port.toNat 2 0 f ([0, 0, 0, 0]) ∧ u.que = s.que ∧ (∀ r, r ∈ [QUE_ST_DEPTH q] → u.get r = s.get r)) ∧
  (∀ (dt : Nat) (ip : BitVec 32) (port : BitVec 16) (udp : Udp) (f : List (BitVec 8)) (s : State), NewRequest s ip.toNat port.toNat udp 3 f → s.get CFG_STATE_STATE ≠ 0xE → s.writer ip.toNat = true → (leAt (frameBody f) 4 2 = 0 ∨ 256 < leAt (frameBody f) 4 2 ∨ (frameBody f).length ≠ 8 + 4 * leAt (frameBody f) 4 2) → 
      ∃ u, exec (.write dt ip port udp f) s = .next u ∧ Answered s u ip.toNat port.toNat 3 2 f ([]) ∧ OnlyChanges [.clk, .svc, .knl, .reg .knl, .sets] [] s u) ∧
  (∀ (dt : Nat) (ip : BitVec 32) (port : BitVec 16) (udp : Udp) (f : List (BitVec 8)) (s : State), NewRequest s ip.toNat port.toNat udp 3 f → s.get CFG_STATE_STATE ≠ 0xE → s.writer ip.toNat = true → 1 ≤ leAt (frameBody f) 4 2 → leAt (frameBody f) 4 2 ≤ 256 → (frameBody f).length = 8 + 4 * leAt (frameBody f) 4 2 → 
      ∃ u, exec (.write dt ip port udp f) s = .next u ∧ (∃ d r i, d + r = leAt (frameBody f) 4 2 ∧ (r = 0 → i = 0xFFFF) ∧ (r ≠ 0 → i < leAt (frameBody f) 4 2) ∧ Answered s u ip.toNat port.toNat 3 (if r = 0 then 0 else 9) f (leBytes 2 d ++ leBytes 2 r ++ leBytes 2 i ++ leBytes 2 0)) ∧ u.clk.elapsed = s.clk.elapsed + dt + 10 * leAt (frameBody f) 4 2) ∧
  (∀ (dt : Nat) (ip : BitVec 32) (port : BitVec 16) (udp : Udp) (f : List (BitVec 8)) (n : Fin 4) (s : State), NewRequest s ip.toNat port.toNat udp 3 f → s.get CFG_STATE_STATE ≠ 0xE → s.writer ip.toNat = true → leAt (frameBody f) 4 2 = 1 → (frameBody f).length = 12 → leAt (frameBody f) 0 4 = ACQ_WDLY n → 
      ∃ u, exec (.write dt ip port udp f) s = .next u ∧ Answered s u ip.toNat port.toNat 3 0 f (leBytes 2 1 ++ leBytes 2 0 ++ leBytes 2 0xFFFF ++ leBytes 2 0) ∧ u.get (ACQ_WDLY_DLY n) = leAt (frameBody f) 8 4 % 65536) ∧
  (∀ (dt : Nat) (ip : BitVec 32) (port : BitVec 16) (udp : Udp) (f : List (BitVec 8)) (q : Fin 64) (s : State), NewRequest s ip.toNat port.toNat udp 3 f → s.get CFG_STATE_STATE ≠ 0xE → s.writer ip.toNat = true → leAt (frameBody f) 4 2 = 1 → (frameBody f).length = 12 → leAt (frameBody f) 0 4 = QUE_WMK q → (leAt (frameBody f) 8 4 / 65536 = 0 ∨ (leAt (frameBody f) 8 4 % 65536 < leAt (frameBody f) 8 4 / 65536 ∧ leAt (frameBody f) 8 4 / 65536 ≤ s.qCap q)) → 
      ∃ u, exec (.write dt ip port udp f) s = .next u ∧ Answered s u ip.toNat port.toNat 3 0 f (leBytes 2 1 ++ leBytes 2 0 ++ leBytes 2 0xFFFF ++ leBytes 2 0) ∧ u.rd (QUE_WMK q) = leAt (frameBody f) 8 4) ∧
  (∀ (dt : Nat) (ip : BitVec 32) (port : BitVec 16) (udp : Udp) (f : List (BitVec 8)) (q : Fin 64) (s : State), NewRequest s ip.toNat port.toNat udp 3 f → s.get CFG_STATE_STATE ≠ 0xE → s.writer ip.toNat = true → leAt (frameBody f) 4 2 = 1 → (frameBody f).length = 12 → leAt (frameBody f) 0 4 = QUE_WMK q → (¬ (leAt (frameBody f) 8 4 / 65536 = 0 ∨ (leAt (frameBody f) 8 4 % 65536 < leAt (frameBody f) 8 4 / 65536 ∧ leAt (frameBody f) 8 4 / 65536 ≤ s.qCap q))) → 
      ∃ u, exec (.write dt ip port udp f) s = .next u ∧ Answered s u ip.toNat port.toNat 3 9 f (leBytes 2 0 ++ leBytes 2 1 ++ leBytes 2 0 ++ leBytes 2 0) ∧ u.rd (QUE_WMK q) = s.rd (QUE_WMK q) ∧ u.bus.errs = s.bus.errs + 1) ∧
  (∀ (dt : Nat) (ip : BitVec 32) (port : BitVec 16) (udp : Udp) (f : List (BitVec 8)) (s : State), NewRequest s ip.toNat port.toNat udp 3 f → s.get CFG_STATE_STATE ≠ 0xE → s.writer ip.toNat = true → leAt (frameBody f) 4 2 = 1 → (frameBody f).length = 12 → (leAt (frameBody f) 0 4 / 2 ^ 24 = 0x14 ∨ leAt (frameBody f) 0 4 / 2 ^ 24 = 0x16 ∨ leAt (frameBody f) 0 4 / 2 ^ 24 = 0x1E) → 
      ∃ u, exec (.write dt ip port udp f) s = .next u ∧ Answered s u ip.toNat port.toNat 3 9 f (leBytes 2 0 ++ leBytes 2 1 ++ leBytes 2 0 ++ leBytes 2 0) ∧ u.rd (leAt (frameBody f) 0 4) = s.rd (leAt (frameBody f) 0 4) ∧ u.bus.errs = s.bus.errs + 1) ∧
  (∀ (dt : Nat) (ip : BitVec 32) (port : BitVec 16) (udp : Udp) (f : List (BitVec 8)) (s : State), NewRequest s ip.toNat port.toNat udp 3 f → s.get CFG_STATE_STATE ≠ 0xE → s.writer ip.toNat = true → leAt (frameBody f) 4 2 = 1 → (frameBody f).length = 12 → 0x80000000 ≤ leAt (frameBody f) 0 4 → s.rd PRF_TBASE ≤ leAt (frameBody f) 0 4 → leAt (frameBody f) 0 4 + 4 ≤ s.rd PRF_TBASE + 0x40000 → s.committedAt (leAt (frameBody f) 0 4) 4 = false → leAt (frameBody f) 0 4 + 4 ≤ 2 ^ 32 → 
      ∃ u, exec (.write dt ip port udp f) s = .next u ∧ Answered s u ip.toNat port.toNat 3 0 f (leBytes 2 1 ++ leBytes 2 0 ++ leBytes 2 0xFFFF ++ leBytes 2 0) ∧ u.bulkLe (leAt (frameBody f) 0 4) 4 = leAt (frameBody f) 8 4 ∧ (∀ x, x < leAt (frameBody f) 0 4 ∨ leAt (frameBody f) 0 4 + 4 ≤ x → memByte u.bulk x = memByte s.bulk x)) ∧
  (∀ (dt : Nat) (ip : BitVec 32) (port : BitVec 16) (udp : Udp) (f : List (BitVec 8)) (s : State), NewRequest s ip.toNat port.toNat udp 3 f → s.get CFG_STATE_STATE ≠ 0xE → s.writer ip.toNat = true → leAt (frameBody f) 4 2 = 1 → (frameBody f).length = 12 → 0x80000000 ≤ leAt (frameBody f) 0 4 → (leAt (frameBody f) 0 4 < s.rd PRF_TBASE ∨ s.rd PRF_TBASE + 0x40000 < leAt (frameBody f) 0 4 + 4) → 
      ∃ u, exec (.write dt ip port udp f) s = .next u ∧ Answered s u ip.toNat port.toNat 3 9 f (leBytes 2 0 ++ leBytes 2 1 ++ leBytes 2 0 ++ leBytes 2 0) ∧ u.bulk = s.bulk ∧ u.bus.errs = s.bus.errs + 1) ∧
  (∀ (dt : Nat) (ip : BitVec 32) (port : BitVec 16) (udp : Udp) (f : List (BitVec 8)) (s : State), NewRequest s ip.toNat port.toNat udp 4 f → ((frameBody f).length ≠ 8 ∨ leAt (frameBody f) 4 1 = 0 ∨ 40 < leAt (frameBody f) 4 1) → 
      ∃ u, exec (.logread dt ip port udp f) s = .next u ∧ Answered s u ip.toNat port.toNat 4 2 f ([]) ∧ OnlyChanges [.clk, .svc, .knl, .reg .knl, .sets] [] s u) ∧
  (∀ (dt : Nat) (ip : BitVec 32) (port : BitVec 16) (udp : Udp) (f : List (BitVec 8)) (s : State), NewRequest s ip.toNat port.toNat udp 4 f → (frameBody f).length = 8 → 1 ≤ leAt (frameBody f) 4 1 → leAt (frameBody f) 4 1 ≤ 40 → 
      ∃ u, exec (.logread dt ip port udp f) s = .next u ∧ (Answered s u ip.toNat port.toNat 4 0 f (leBytes 4 (s.rd ERR_OLDEST) ++ leBytes 4 (s.rd ERR_NEXT) ++ leBytes 1 ((s.log.ring.filter fun r => decide (leAt (frameBody f) 0 4 ≤ r.seq)).take (leAt (frameBody f) 4 1)).length ++ leBytes 3 0 ++ ((s.log.ring.filter fun r => decide (leAt (frameBody f) 0 4 ≤ r.seq)).take (leAt (frameBody f) 4 1)).flatMap fun r => r.bytes)) ∧ OnlyChanges [.clk, .svc, .knl, .reg .knl, .sets] [] s u) ∧
  (∀ (dt : Nat) (ip : BitVec 32) (port : BitVec 16) (udp : Udp) (f : List (BitVec 8)) (s : State), NewRequest s ip.toNat port.toNat udp 5 f → ((frameBody f).length ≠ 4 ∨ 63 < leAt (frameBody f) 0 1 ∨ leAt (frameBody f) 1 1 = 0 ∨ 40 < leAt (frameBody f) 1 1) → 
      ∃ u, exec (.persread dt ip port udp f) s = .next u ∧ Answered s u ip.toNat port.toNat 5 2 f ([]) ∧ OnlyChanges [.clk, .svc, .knl, .reg .knl, .sets] [] s u) ∧
  (∀ (dt : Nat) (ip : BitVec 32) (port : BitVec 16) (udp : Udp) (f : List (BitVec 8)) (s : State), NewRequest s ip.toNat port.toNat udp 5 f → (frameBody f).length = 4 → leAt (frameBody f) 0 1 ≤ 63 → 1 ≤ leAt (frameBody f) 1 1 → leAt (frameBody f) 1 1 ≤ 40 → 
      ∃ u, exec (.persread dt ip port udp f) s = .next u ∧ (Answered s u ip.toNat port.toNat 5 0 f (leBytes 1 (((List.range 64).filterMap fun j => tabFind s.log.slots ((s.log.nextSlot + 63 - j) % 64)).filter fun p => p.length == 40 && crc32c (p.take 36) == leAt p 36 4).length ++ leBytes 1 (((List.range 64).filterMap fun j => tabFind s.log.slots ((s.log.nextSlot + 63 - j) % 64)).length - (((List.range 64).filterMap fun j => tabFind s.log.slots ((s.log.nextSlot + 63 - j) % 64)).filter fun p => p.length == 40 && crc32c (p.take 36) == leAt p 36 4).length) ++ leBytes 2 0 ++ (((((List.range 64).filterMap fun j => tabFind s.log.slots ((s.log.nextSlot + 63 - j) % 64)).filter fun p => p.length == 40 && crc32c (p.take 36) == leAt p 36 4).drop (leAt (frameBody f) 0 1)).take (min (leAt (frameBody f) 1 1) 34)).flatten)) ∧ OnlyChanges [.clk, .svc, .knl, .reg .knl, .sets] [] s u) ∧
  (∀ (dt : Nat) (ip : BitVec 32) (port : BitVec 16) (udp : Udp) (f : List (BitVec 8)) (s : State), NewRequest s ip.toNat port.toNat udp 6 f → s.get CFG_STATE_STATE ≠ 0xE → s.writer ip.toNat = true → (leAt (frameBody f) 1 1 = 0 ∨ 16 < leAt (frameBody f) 1 1 ∨ (frameBody f).length ≠ 4 + 8 * leAt (frameBody f) 1 1 ∨ (leAt (frameBody f) 0 1 ≠ 0 ∧ (leAt (frameBody f) 0 1 < 0x10 ∨ 0x1F < leAt (frameBody f) 0 1))) → 
      ∃ u, exec (.motion dt ip port udp f) s = .next u ∧ Answered s u ip.toNat port.toNat 6 2 f ([]) ∧ OnlyChanges [.clk, .svc, .knl, .reg .knl, .sets] [] s u) ∧
  (∀ (dt : Nat) (ip : BitVec 32) (port : BitVec 16) (udp : Udp) (f : List (BitVec 8)) (s : State), NewRequest s ip.toNat port.toNat udp 6 f → s.get CFG_STATE_STATE ≠ 0xE → s.writer ip.toNat = true → 1 ≤ leAt (frameBody f) 1 1 → leAt (frameBody f) 1 1 ≤ 16 → (frameBody f).length = 4 + 8 * leAt (frameBody f) 1 1 → (leAt (frameBody f) 0 1 = 0 ∨ (0x10 ≤ leAt (frameBody f) 0 1 ∧ leAt (frameBody f) 0 1 ≤ 0x1F)) → (∀ c : Fin 4, s.get (QUE_PRES_BUSY c) = 1) → 
      ∃ u, exec (.motion dt ip port udp f) s = .next u ∧ Answered s u ip.toNat port.toNat 6 5 f ([]) ∧ OnlyChanges [.clk, .svc, .knl, .reg .knl, .sets] [] s u) ∧
  (∀ (dt : Nat) (ip : BitVec 32) (port : BitVec 16) (udp : Udp) (f : List (BitVec 8)) (c : Fin 4) (s : State), NewRequest s ip.toNat port.toNat udp 6 f → s.get CFG_STATE_STATE ≠ 0xE → s.writer ip.toNat = true → 1 ≤ leAt (frameBody f) 1 1 → leAt (frameBody f) 1 1 ≤ 16 → (frameBody f).length = 4 + 8 * leAt (frameBody f) 1 1 → (leAt (frameBody f) 0 1 = 0 ∨ (0x10 ≤ leAt (frameBody f) 0 1 ∧ leAt (frameBody f) 0 1 ≤ 0x1F)) → ((∀ d : Fin 4, d < c → s.get (QUE_PRES_BUSY d) = 1)) → s.get (QUE_PRES_BUSY c) = 0 → ((∀ m ∈ s.svc.motions, m.core ≠ c.val)) → (s.qCap (leAt (frameBody f) 0 1) = 0 ∨ s.get (QUE_CFG_PROD (leAt (frameBody f) 0 1)) ≠ 1) → 
      ∃ u, exec (.motion dt ip port udp f) s = .next u ∧ Answered s u ip.toNat port.toNat 6 0 f (leBytes 4 9) ∧ u.get (QUE_PRES_RESULT c) = 9 ∧ (∀ i : Fin 16, i.val < leAt (frameBody f) 1 1 → tabGet 0 u.que.stage (16 * c.val + i.val) = BitVec.ofNat 64 (leAt (frameBody f) (4 + 8 * i.val) 8)) ∧ OnlyChanges [.clk, .svc, .knl, .reg .knl, .que, .sets] [QUE_PRES c] s u) ∧
  (∀ (dt : Nat) (ip : BitVec 32) (port : BitVec 16) (udp : Udp) (f : List (BitVec 8)) (c : Fin 4) (s : State), NewRequest s ip.toNat port.toNat udp 6 f → s.get CFG_STATE_STATE ≠ 0xE → s.writer ip.toNat = true → 1 ≤ leAt (frameBody f) 1 1 → leAt (frameBody f) 1 1 ≤ 16 → (frameBody f).length = 4 + 8 * leAt (frameBody f) 1 1 → (leAt (frameBody f) 0 1 = 0 ∨ (0x10 ≤ leAt (frameBody f) 0 1 ∧ leAt (frameBody f) 0 1 ≤ 0x1F)) → ((∀ d : Fin 4, d < c → s.get (QUE_PRES_BUSY d) = 1)) → s.get (QUE_PRES_BUSY c) = 0 → ((∀ m ∈ s.svc.motions, m.core ≠ c.val)) → s.qCap (leAt (frameBody f) 0 1) ≠ 0 → s.get (QUE_CFG_PROD (leAt (frameBody f) 0 1)) = 1 → s.get (QUE_CFG_BROKEN (leAt (frameBody f) 0 1)) = 1 → 
      ∃ u, exec (.motion dt ip port udp f) s = .next u ∧ Answered s u ip.toNat port.toNat 6 0 f (leBytes 4 0xA) ∧ u.get (QUE_PRES_RESULT c) = 0xA ∧ OnlyChanges [.clk, .svc, .knl, .reg .knl, .que, .sets] [QUE_PRES c] s u) ∧
  (∀ (dt : Nat) (ip : BitVec 32) (port : BitVec 16) (udp : Udp) (f : List (BitVec 8)) (c : Fin 4) (s : State), NewRequest s ip.toNat port.toNat udp 6 f → s.get CFG_STATE_STATE ≠ 0xE → s.writer ip.toNat = true → 1 ≤ leAt (frameBody f) 1 1 → leAt (frameBody f) 1 1 ≤ 16 → (frameBody f).length = 4 + 8 * leAt (frameBody f) 1 1 → (leAt (frameBody f) 0 1 = 0 ∨ (0x10 ≤ leAt (frameBody f) 0 1 ∧ leAt (frameBody f) 0 1 ≤ 0x1F)) → ((∀ d : Fin 4, d < c → s.get (QUE_PRES_BUSY d) = 1)) → s.get (QUE_PRES_BUSY c) = 0 → ((∀ m ∈ s.svc.motions, m.core ≠ c.val)) → s.qCap (leAt (frameBody f) 0 1) ≠ 0 → s.get (QUE_CFG_PROD (leAt (frameBody f) 0 1)) = 1 → s.get (QUE_CFG_BROKEN (leAt (frameBody f) 0 1)) = 0 → s.canPush (leAt (frameBody f) 0 1) (leAt (frameBody f) 1 1) = true → 
      ∃ u, exec (.motion dt ip port udp f) s = .next u ∧ Answered s u ip.toNat port.toNat 6 0 f (leBytes 4 1) ∧ u.get (QUE_PRES_RESULT c) = 1 ∧ u.get (QUE_PRES_BUSY c) = 0 ∧ u.get (QUE_ST_DEPTH (leAt (frameBody f) 0 1)) = (s.get (QUE_ST_DEPTH (leAt (frameBody f) 0 1)) + leAt (frameBody f) 1 1) % 65536 ∧ u.rd (QUE_PUSHC (leAt (frameBody f) 0 1)) = (s.rd (QUE_PUSHC (leAt (frameBody f) 0 1)) + leAt (frameBody f) 1 1) % 2 ^ 32 ∧ (∀ i : Fin 16, i.val < leAt (frameBody f) 1 1 → tabGet 0 u.que.stage (16 * c.val + i.val) = BitVec.ofNat 64 (leAt (frameBody f) (4 + 8 * i.val) 8))) ∧
  (∀ (dt : Nat) (ip : BitVec 32) (port : BitVec 16) (udp : Udp) (f : List (BitVec 8)) (c : Fin 4) (s : State), NewRequest s ip.toNat port.toNat udp 6 f → s.get CFG_STATE_STATE ≠ 0xE → s.writer ip.toNat = true → 1 ≤ leAt (frameBody f) 1 1 → leAt (frameBody f) 1 1 ≤ 16 → (frameBody f).length = 4 + 8 * leAt (frameBody f) 1 1 → (leAt (frameBody f) 0 1 = 0 ∨ (0x10 ≤ leAt (frameBody f) 0 1 ∧ leAt (frameBody f) 0 1 ≤ 0x1F)) → ((∀ d : Fin 4, d < c → s.get (QUE_PRES_BUSY d) = 1)) → s.get (QUE_PRES_BUSY c) = 0 → s.qCap (leAt (frameBody f) 0 1) ≠ 0 → s.get (QUE_CFG_PROD (leAt (frameBody f) 0 1)) = 1 → s.get (QUE_CFG_BROKEN (leAt (frameBody f) 0 1)) = 0 → s.canPush (leAt (frameBody f) 0 1) (leAt (frameBody f) 1 1) = false → 
      ∃ u, exec (.motion dt ip port udp f) s = .next u ∧ u.svc.sent = none ∧ u.svc.answered = false ∧ u.get (QUE_PRES_BUSY c) = 1 ∧ u.svc.motions = s.svc.motions ++ [{ core := c, who := { ip := ip.toNat, port := port.toNat }, seq := leAt f 4 2, mseq := 0 }] ∧ u.svc.ends.getLast? = some { who := { ip := ip.toNat, port := port.toNat }, seq := leAt f 4 2, resp := none } ∧ (∀ i : Fin 16, i.val < leAt (frameBody f) 1 1 → tabGet 0 u.que.stage (16 * c.val + i.val) = BitVec.ofNat 64 (leAt (frameBody f) (4 + 8 * i.val) 8)) ∧ OnlyChanges [.clk, .svc, .knl, .reg .knl, .que, .sets] [QUE_PRES c] s u) ∧
  (∀ (dt : Nat) (ip : BitVec 32) (port : BitVec 16) (udp : Udp) (f : List (BitVec 8)) (s : State), NewRequest s ip.toNat port.toNat udp 7 f → s.get CFG_STATE_STATE ≠ 0xE → ((frameBody f).length ≠ 4 ∨ leAt (frameBody f) 0 1 = 0 ∨ 64 < leAt (frameBody f) 0 1) → 
      ∃ u, exec (.events dt ip port udp f) s = .next u ∧ Answered s u ip.toNat port.toNat 7 2 f ([]) ∧ OnlyChanges [.clk, .svc, .knl, .reg .knl, .sets] [] s u) ∧
  (∀ (dt : Nat) (ip : BitVec 32) (port : BitVec 16) (udp : Udp) (f : List (BitVec 8)) (s : State), NewRequest s ip.toNat port.toNat udp 7 f → s.get CFG_STATE_STATE ≠ 0xE → (frameBody f).length = 4 → 1 ≤ leAt (frameBody f) 0 1 → leAt (frameBody f) 0 1 ≤ 64 → 
      ∃ u, exec (.events dt ip port udp f) s = .next u ∧ (Answered s u ip.toNat port.toNat 7 0 f (leBytes 1 (s.svc.events.take (leAt (frameBody f) 0 1)).length ++ leBytes 1 0 ++ leBytes 2 s.svc.lost ++ (s.svc.events.take (leAt (frameBody f) 0 1)).flatMap fun e => leBytes 8 e.toNat)) ∧ u.svc.events = s.svc.events.drop (leAt (frameBody f) 0 1) ∧ u.svc.lost = 0 ∧ OnlyChanges [.clk, .svc, .knl, .reg .knl, .sets] [] s u) ∧
  (∀ (dt : Nat) (ip : BitVec 32) (port : BitVec 16) (udp : Udp) (f : List (BitVec 8)) (s : State), NewRequest s ip.toNat port.toNat udp 0x8 f → s.writer ip.toNat = true → (frameBody f).length ≠ 8 → 
      ∃ u, exec (.dlbegin dt ip port udp f) s = .next u ∧ Answered s u ip.toNat port.toNat 0x8 2 f ([]) ∧ OnlyChanges [.clk, .svc, .knl, .reg .knl, .sets] [] s u) ∧
  (∀ (dt : Nat) (ip : BitVec 32) (port : BitVec 16) (udp : Udp) (f : List (BitVec 8)) (s : State), NewRequest s ip.toNat port.toNat udp 0x8 f → s.writer ip.toNat = true → ¬ ((frameBody f).length ≠ 8) → (s.get CFG_STATE_STATE = 9 ∨ s.svc.download.any (fun d => d.who != { ip := ip.toNat, port := port.toNat }) = true) → 
      ∃ u, exec (.dlbegin dt ip port udp f) s = .next u ∧ Answered s u ip.toNat port.toNat 0x8 5 f ([]) ∧ OnlyChanges [.clk, .svc, .knl, .reg .knl, .sets] [] s u) ∧
  (∀ (dt : Nat) (ip : BitVec 32) (port : BitVec 16) (udp : Udp) (f : List (BitVec 8)) (s : State), NewRequest s ip.toNat port.toNat udp 0x9 f → s.writer ip.toNat = true → ((frameBody f).length < 8 ∨ 1028 < (frameBody f).length ∨ (frameBody f).length % 4 ≠ 0) → 
      ∃ u, exec (.dldata dt ip port udp f) s = .next u ∧ Answered s u ip.toNat port.toNat 0x9 2 f ([]) ∧ OnlyChanges [.clk, .svc, .knl, .reg .knl, .sets] [] s u) ∧
  (∀ (dt : Nat) (ip : BitVec 32) (port : BitVec 16) (udp : Udp) (f : List (BitVec 8)) (s : State), NewRequest s ip.toNat port.toNat udp 0x9 f → s.writer ip.toNat = true → (¬ ((frameBody f).length < 8 ∨ 1028 < (frameBody f).length ∨ (frameBody f).length % 4 ≠ 0)) → (s.get CFG_STATE_STATE = 9 ∨ s.svc.download.any (fun d => d.who != { ip := ip.toNat, port := port.toNat }) = true) → 
      ∃ u, exec (.dldata dt ip port udp f) s = .next u ∧ Answered s u ip.toNat port.toNat 0x9 5 f ([]) ∧ OnlyChanges [.clk, .svc, .knl, .reg .knl, .sets] [] s u) ∧
  (∀ (dt : Nat) (ip : BitVec 32) (port : BitVec 16) (udp : Udp) (f : List (BitVec 8)) (s : State), NewRequest s ip.toNat port.toNat udp 0x9 f → s.writer ip.toNat = true → (¬ ((frameBody f).length < 8 ∨ 1028 < (frameBody f).length ∨ (frameBody f).length % 4 ≠ 0)) → s.get CFG_STATE_STATE ≠ 9 → s.svc.download = none → 
      ∃ u, exec (.dldata dt ip port udp f) s = .next u ∧ Answered s u ip.toNat port.toNat 0x9 6 f ([]) ∧ OnlyChanges [.clk, .svc, .knl, .reg .knl, .sets] [] s u) ∧
  (∀ (dt : Nat) (ip : BitVec 32) (port : BitVec 16) (udp : Udp) (f : List (BitVec 8)) (s : State), NewRequest s ip.toNat port.toNat udp 0xa f → s.writer ip.toNat = true → (frameBody f).length ≠ 4 → 
      ∃ u, exec (.dlend dt ip port udp f) s = .next u ∧ Answered s u ip.toNat port.toNat 0xa 2 f ([]) ∧ OnlyChanges [.clk, .svc, .knl, .reg .knl, .sets] [] s u) ∧
  (∀ (dt : Nat) (ip : BitVec 32) (port : BitVec 16) (udp : Udp) (f : List (BitVec 8)) (s : State), NewRequest s ip.toNat port.toNat udp 0xa f → s.writer ip.toNat = true → ¬ ((frameBody f).length ≠ 4) → (s.get CFG_STATE_STATE = 9 ∨ s.svc.download.any (fun d => d.who != { ip := ip.toNat, port := port.toNat }) = true) → 
      ∃ u, exec (.dlend dt ip port udp f) s = .next u ∧ Answered s u ip.toNat port.toNat 0xa 5 f ([]) ∧ OnlyChanges [.clk, .svc, .knl, .reg .knl, .sets] [] s u) ∧
  (∀ (dt : Nat) (ip : BitVec 32) (port : BitVec 16) (udp : Udp) (f : List (BitVec 8)) (s : State), NewRequest s ip.toNat port.toNat udp 0xa f → s.writer ip.toNat = true → ¬ ((frameBody f).length ≠ 4) → s.get CFG_STATE_STATE ≠ 9 → s.svc.download = none → 
      ∃ u, exec (.dlend dt ip port udp f) s = .next u ∧ Answered s u ip.toNat port.toNat 0xa 6 f ([]) ∧ OnlyChanges [.clk, .svc, .knl, .reg .knl, .sets] [] s u) ∧
  (∀ (dt : Nat) (ip : BitVec 32) (port : BitVec 16) (udp : Udp) (f : List (BitVec 8)) (s : State), NewRequest s ip.toNat port.toNat udp 8 f → s.writer ip.toNat = true → (frameBody f).length = 8 → s.get CFG_STATE_STATE ≠ 9 → (s.svc.download.any (fun d => d.who != { ip := ip.toNat, port := port.toNat }) = false) → s.present (leAt (frameBody f) 0 1) = none → 
      ∃ u, exec (.dlbegin dt ip port udp f) s = .next u ∧ Answered s u ip.toNat port.toNat 8 2 f ([]) ∧ OnlyChanges [.clk, .svc, .knl, .reg .knl, .sets] [] s u) ∧
  (∀ (dt : Nat) (ip : BitVec 32) (port : BitVec 16) (udp : Udp) (f : List (BitVec 8)) (a n : Nat) (s : State), NewRequest s ip.toNat port.toNat udp 8 f → s.writer ip.toNat = true → (frameBody f).length = 8 → s.get CFG_STATE_STATE ≠ 9 → (s.svc.download.any (fun d => d.who != { ip := ip.toNat, port := port.toNat }) = false) → s.present (leAt (frameBody f) 0 1) = some (a, n) → (leAt (frameBody f) 4 4 % 4 ≠ 0 ∨ n < leAt (frameBody f) 4 4) → 
      ∃ u, exec (.dlbegin dt ip port udp f) s = .next u ∧ Answered s u ip.toNat port.toNat 8 2 f ([]) ∧ OnlyChanges [.clk, .svc, .knl, .reg .knl, .sets] [] s u) ∧
  (∀ (dt : Nat) (ip : BitVec 32) (port : BitVec 16) (udp : Udp) (f : List (BitVec 8)) (a n : Nat) (s : State), NewRequest s ip.toNat port.toNat udp 8 f → s.writer ip.toNat = true → (frameBody f).length = 8 → s.get CFG_STATE_STATE ≠ 9 → (s.svc.download.any (fun d => d.who != { ip := ip.toNat, port := port.toNat }) = false) → s.present (leAt (frameBody f) 0 1) = some (a, n) → leAt (frameBody f) 4 4 % 4 = 0 → leAt (frameBody f) 4 4 ≤ n → s.get CFG_STATE_STATE ≠ 0xE → s.get CFG_BOOT_BANK = leAt (frameBody f) 0 1 → 
      ∃ u, exec (.dlbegin dt ip port udp f) s = .next u ∧ Answered s u ip.toNat port.toNat 8 6 f ([]) ∧ OnlyChanges [.clk, .svc, .knl, .reg .knl, .sets] [] s u) ∧
  (∀ (dt : Nat) (ip : BitVec 32) (port : BitVec 16) (udp : Udp) (f : List (BitVec 8)) (a n : Nat) (s : State), NewRequest s ip.toNat port.toNat udp 8 f → s.writer ip.toNat = true → (frameBody f).length = 8 → s.get CFG_STATE_STATE ≠ 9 → (s.svc.download.any (fun d => d.who != { ip := ip.toNat, port := port.toNat }) = false) → s.present (leAt (frameBody f) 0 1) = some (a, n) → leAt (frameBody f) 4 4 % 4 = 0 → leAt (frameBody f) 4 4 ≤ n → (s.get CFG_STATE_STATE = 0xE ∨ s.get CFG_BOOT_BANK ≠ leAt (frameBody f) 0 1) → 
      ∃ u, exec (.dlbegin dt ip port udp f) s = .next u ∧ Answered s u ip.toNat port.toNat 8 0 f ([]) ∧ u.svc.download = some { who := { ip := ip.toNat, port := port.toNat }, target := leAt (frameBody f) 0 1, length := leAt (frameBody f) 4 4 } ∧ (u.boot.dlSlot = (if 0x10 ≤ leAt (frameBody f) 0 1 then some (leAt (frameBody f) 0 1 - 0x10) else none)) ∧ (∀ x, u.flashByte x = (if a ≤ x ∧ x < a + n then 0xFF else s.flashByte x)) ∧ OnlyChanges [.clk, .svc, .knl, .reg .knl, .boot, .sets] [] s u) ∧
  (∀ (dt : Nat) (ip : BitVec 32) (port : BitVec 16) (udp : Udp) (f : List (BitVec 8)) (d : Download) (a n : Nat) (s : State), NewRequest s ip.toNat port.toNat udp 9 f → s.writer ip.toNat = true → 8 ≤ (frameBody f).length → (frameBody f).length ≤ 1028 → (frameBody f).length % 4 = 0 → d.who = { ip := ip.toNat, port := port.toNat } → s.get CFG_STATE_STATE ≠ 9 → s.svc.download = some d → region d.target = some (a, n) → (leAt (frameBody f) 0 4 ≠ d.got ∨ d.length < d.got + ((frameBody f).length - 4)) → 
      ∃ u, exec (.dldata dt ip port udp f) s = .next u ∧ Answered s u ip.toNat port.toNat 9 2 f ([]) ∧ OnlyChanges [.clk, .svc, .knl, .reg .knl, .sets] [] s u) ∧
  (∀ (dt : Nat) (ip : BitVec 32) (port : BitVec 16) (udp : Udp) (f : List (BitVec 8)) (d : Download) (a n : Nat) (s : State), NewRequest s ip.toNat port.toNat udp 9 f → s.writer ip.toNat = true → 8 ≤ (frameBody f).length → (frameBody f).length ≤ 1028 → (frameBody f).length % 4 = 0 → d.who = { ip := ip.toNat, port := port.toNat } → s.get CFG_STATE_STATE ≠ 9 → s.svc.download = some d → region d.target = some (a, n) → leAt (frameBody f) 0 4 = d.got → d.got + ((frameBody f).length - 4) ≤ d.length → 
      ∃ u, exec (.dldata dt ip port udp f) s = .next u ∧ Answered s u ip.toNat port.toNat 9 0 f ([]) ∧ u.svc.download = some { d with got := d.got + ((frameBody f).length - 4) } ∧ (u.boot.dlSlot = (if 0x10 ≤ d.target then some (d.target - 0x10) else none)) ∧ (∀ i : Fin 1024, i.val < ((frameBody f).length - 4) → u.flashByte (a + d.got + i.val) = (frameBody f).getD (4 + i.val) 0) ∧ (∀ x, x < a + d.got ∨ a + d.got + ((frameBody f).length - 4) ≤ x → u.flashByte x = s.flashByte x) ∧ OnlyChanges [.clk, .svc, .knl, .reg .knl, .boot, .sets] [] s u) ∧
  (∀ (dt : Nat) (ip : BitVec 32) (port : BitVec 16) (udp : Udp) (f : List (BitVec 8)) (d : Download) (a n : Nat) (s : State), NewRequest s ip.toNat port.toNat udp 0xA f → s.writer ip.toNat = true → (frameBody f).length = 4 → d.who = { ip := ip.toNat, port := port.toNat } → s.get CFG_STATE_STATE ≠ 9 → s.svc.download = some d → region d.target = some (a, n) → (d.got ≠ d.length ∨ crc32c (s.flashBytes a d.length) ≠ leAt (frameBody f) 0 4) → 
      ∃ u, exec (.dlend dt ip port udp f) s = .next u ∧ Answered s u ip.toNat port.toNat 0xA 2 f ([]) ∧ OnlyChanges [.clk, .svc, .knl, .reg .knl, .sets] [] s u) ∧
  (∀ (dt : Nat) (ip : BitVec 32) (port : BitVec 16) (udp : Udp) (f : List (BitVec 8)) (d : Download) (a n : Nat) (s : State), NewRequest s ip.toNat port.toNat udp 0xA f → s.writer ip.toNat = true → (frameBody f).length = 4 → d.who = { ip := ip.toNat, port := port.toNat } → s.get CFG_STATE_STATE ≠ 9 → s.svc.download = some d → region d.target = some (a, n) → d.got = d.length → crc32c (s.flashBytes a d.length) = leAt (frameBody f) 0 4 → 
      ∃ u, exec (.dlend dt ip port udp f) s = .next u ∧ Answered s u ip.toNat port.toNat 0xA 0 f (leBytes 4 (s.downloadCause d.target a d.length n)) ∧ u.svc.download = none ∧ u.boot.dlSlot = none ∧ u.boot.flash = s.boot.flash ∧ OnlyChanges [.clk, .svc, .knl, .reg .knl, .boot, .sets] [] s u) ∧
  (∀ (dt : Nat) (ip : BitVec 32) (port : BitVec 16) (udp : Udp) (f : List (BitVec 8)) (qvsel clksel test : Bool) (s : State), NewRequest s ip.toNat port.toNat udp 0xC f → s.writer ip.toNat = true → (frameBody f) ≠ [] → 
      ∃ u, exec (.restart dt ip port udp f qvsel clksel test) s = .next u ∧ Answered s u ip.toNat port.toNat 0xC 2 f ([]) ∧ OnlyChanges [.clk, .svc, .knl, .reg .knl, .sets] [] s u) ∧
  (∀ (dt : Nat) (ip : BitVec 32) (port : BitVec 16) (udp : Udp) (f : List (BitVec 8)) (qvsel clksel test : Bool) (s : State), NewRequest s ip.toNat port.toNat udp 0xC f → s.writer ip.toNat = true → (frameBody f) = [] → (¬ (s.get CFG_STATE_STATE = 0xE ∨ (∀ n : Fin 256, s.axState n = 0 ∨ s.axState n = 7))) → 
      ∃ u, exec (.restart dt ip port udp f qvsel clksel test) s = .next u ∧ Answered s u ip.toNat port.toNat 0xC 6 f ([]) ∧ OnlyChanges [.clk, .svc, .knl, .reg .knl, .sets] [] s u) ∧
  (∀ (dt : Nat) (ip : BitVec 32) (port : BitVec 16) (udp : Udp) (f : List (BitVec 8)) (qvsel clksel test : Bool) (s : State), NewRequest s ip.toNat port.toNat udp 0xC f → s.writer ip.toNat = true → (frameBody f) = [] → ((s.get CFG_STATE_STATE = 0xE ∨ (∀ n : Fin 256, s.axState n = 0 ∨ s.axState n = 7))) → 
      ∃ u, exec (.restart dt ip port udp f qvsel clksel test) s = .next u ∧ (u.svc.sent = some (svcFrame 0xC (if s.get CFG_STATE_STATE = 0xE then 3 else 1) 0 (leAt f 4 2) [])) ∧ u.svc.answered = true ∧ u.svc.ends = [] ∧ u.bulk = [] ∧ u.boot.flash = s.boot.flash ∧ u.boot.lastRecipe = s.boot.lastRecipe ∧ u.boot.minSec = s.boot.minSec ∧ u.jtag = s.jtag ∧ u.que = State.reset.que ∧ u.knl = State.reset.knl ∧ u.clk.running = false ∧ (∀ x, x ∉ [ERR_BOOT, ERR_LOGST, CFG_STATE] → u.rd x = resetWord x % 2 ^ 32) ∧ (s.boot.held = false → u.rd ERR_BOOT = (s.rd ERR_BOOT + 1) % 2 ^ 32 ∧ u.boot.started = true ∧ u.get CFG_STATE_STATE = (if test then 0xF else 0)) ∧ u.boot.qvsel = qvsel ∧ u.boot.clksel = clksel ∧ u.log.slots = s.log.slots) ∧
  (∀ (dt : Nat) (ip : BitVec 32) (port : BitVec 16) (udp : Udp) (f : List (BitVec 8)) (mramOk : Bool) (s : State), NewRequest s ip.toNat port.toNat udp 0xB f → leAt (frameBody f) 0 1 = 1 → s.get CFG_STATE_STATE ≠ 0xE → s.writer ip.toNat = true → (¬ ((frameBody f).length = 8 + leAt (frameBody f) 1 1 ∧ 8 ≤ leAt (frameBody f) 1 1 ∧ leAt (frameBody f) 1 1 ≤ 64)) → 
      ∃ u, exec (.accept dt ip port udp f mramOk) s = .next u ∧ Answered s u ip.toNat port.toNat 0xB 2 f ([]) ∧ OnlyChanges [.clk, .svc, .knl, .reg .knl, .sets] [] s u) ∧
  (∀ (dt : Nat) (ip : BitVec 32) (port : BitVec 16) (udp : Udp) (f : List (BitVec 8)) (mramOk : Bool) (s : State), NewRequest s ip.toNat port.toNat udp 0xB f → leAt (frameBody f) 0 1 = 1 → s.get CFG_STATE_STATE ≠ 0xE → s.writer ip.toNat = true → (((frameBody f).length = 8 + leAt (frameBody f) 1 1 ∧ 8 ≤ leAt (frameBody f) 1 1 ∧ leAt (frameBody f) 1 1 ≤ 64)) → s.get SAF_ST_PWLOCK = 1 → 
      ∃ u, exec (.accept dt ip port udp f mramOk) s = .next u ∧ Answered s u ip.toNat port.toNat 0xB 0 f (leBytes 4 9) ∧ OnlyChanges [.clk, .svc, .knl, .reg .knl, .sets] [] s u) ∧
  (∀ (dt : Nat) (ip : BitVec 32) (port : BitVec 16) (udp : Udp) (f : List (BitVec 8)) (mramOk : Bool) (s : State), NewRequest s ip.toNat port.toNat udp 0xB f → leAt (frameBody f) 0 1 = 1 → s.get CFG_STATE_STATE ≠ 0xE → s.writer ip.toNat = true → (((frameBody f).length = 8 + leAt (frameBody f) 1 1 ∧ 8 ≤ leAt (frameBody f) 1 1 ∧ leAt (frameBody f) 1 1 ≤ 64)) → s.get SAF_ST_PWLOCK = 0 → sha256 (s.secret.1 ++ (frameBody f).drop 8) ≠ s.secret.2 → 
      ∃ u, exec (.accept dt ip port udp f mramOk) s = .next u ∧ Answered s u ip.toNat port.toNat 0xB 0 f (leBytes 4 8) ∧ u.get SAF_PW_FAIL = (s.get SAF_PW_FAIL + 1) % 256 ∧ (u.get SAF_ST_PWLOCK = (if (s.get SAF_PW_FAIL + 1) % 256 % 5 = 0 then 1 else 0)) ∧ (u.saf.lockAt = (if (s.get SAF_PW_FAIL + 1) % 256 % 5 = 0 then some (s.elapse dt).clk.elapsed else s.saf.lockAt)) ∧ u.saf.log = s.saf.log ∧ u.saf.stored = s.saf.stored ∧ OnlyChanges [.clk, .svc, .knl, .reg .knl, .saf, .sets] [SAF_PW, SAF_ST] s u) ∧
  (∀ (dt : Nat) (ip : BitVec 32) (port : BitVec 16) (udp : Udp) (f : List (BitVec 8)) (mramOk : Bool) (s : State), NewRequest s ip.toNat port.toNat udp 0xB f → leAt (frameBody f) 0 1 = 1 → s.get CFG_STATE_STATE ≠ 0xE → s.writer ip.toNat = true → (((frameBody f).length = 8 + leAt (frameBody f) 1 1 ∧ 8 ≤ leAt (frameBody f) 1 1 ∧ leAt (frameBody f) 1 1 ≤ 64)) → s.get SAF_ST_PWLOCK = 0 → sha256 (s.secret.1 ++ (frameBody f).drop 8) = s.secret.2 → s.saf.log.length = 4096 → 
      ∃ u, exec (.accept dt ip port udp f mramOk) s = .next u ∧ Answered s u ip.toNat port.toNat 0xB 0 f (leBytes 4 0xB) ∧ u.get SAF_ST_LOGFULL = 1 ∧ u.get SAF_PW_FAIL = 0 ∧ u.saf.log = s.saf.log ∧ u.saf.stored = s.saf.stored ∧ OnlyChanges [.clk, .svc, .knl, .reg .knl, .sets] [SAF_PW, SAF_ST] s u) ∧
  (∀ (dt : Nat) (ip : BitVec 32) (port : BitVec 16) (udp : Udp) (f : List (BitVec 8)) (mramOk : Bool) (s : State), NewRequest s ip.toNat port.toNat udp 0xB f → leAt (frameBody f) 0 1 = 1 → s.get CFG_STATE_STATE ≠ 0xE → s.writer ip.toNat = true → (((frameBody f).length = 8 + leAt (frameBody f) 1 1 ∧ 8 ≤ leAt (frameBody f) 1 1 ∧ leAt (frameBody f) 1 1 ≤ 64)) → s.get SAF_ST_PWLOCK = 0 → sha256 (s.secret.1 ++ (frameBody f).drop 8) = s.secret.2 → s.saf.log.length ≠ 4096 → leAt (frameBody f) 4 4 ≠ s.rd SAF_SCRC → 
      ∃ u, exec (.accept dt ip port udp f mramOk) s = .next u ∧ Answered s u ip.toNat port.toNat 0xB 0 f (leBytes 4 0xA) ∧ u.get SAF_PW_FAIL = 0 ∧ u.saf.log = s.saf.log ∧ u.saf.stored = s.saf.stored ∧ OnlyChanges [.clk, .svc, .knl, .reg .knl, .sets] [SAF_PW] s u) ∧
  (∀ (dt : Nat) (ip : BitVec 32) (port : BitVec 16) (udp : Udp) (f : List (BitVec 8)) (mramOk : Bool) (s : State), NewRequest s ip.toNat port.toNat udp 0xB f → leAt (frameBody f) 0 1 = 1 → s.get CFG_STATE_STATE ≠ 0xE → s.writer ip.toNat = true → (((frameBody f).length = 8 + leAt (frameBody f) 1 1 ∧ 8 ≤ leAt (frameBody f) 1 1 ∧ leAt (frameBody f) 1 1 ≤ 64)) → s.get SAF_ST_PWLOCK = 0 → sha256 (s.secret.1 ++ (frameBody f).drop 8) = s.secret.2 → s.saf.log.length ≠ 4096 → leAt (frameBody f) 4 4 = s.rd SAF_SCRC → mramOk = true → 
      ∃ u, exec (.accept dt ip port udp f mramOk) s = .next u ∧ Answered s u ip.toNat port.toNat 0xB 0 f (leBytes 4 1) ∧ u.get SAF_PW_FAIL = 0 ∧ u.get SAF_ST_ACCEPTED = 1 ∧ u.rd SAF_ACRC = s.rd SAF_SCRC ∧ u.saf.stored = some (s.rd SAF_SCRC, slice s.saf.payload 8 16, slice s.saf.payload 24 32) ∧ u.saf.log.length = s.saf.log.length + 1 ∧ ((u.saf.log.getLast?).map (fun e => (leAt e 0 4, leAt e 4 6, leAt e 14 1)) = some (s.saf.nextSeq % 2 ^ 32, (s.elapse dt).clk.sec % 2 ^ 48, 1)) ∧ ((u.saf.log.getLast?).map (fun e => (e.length, leAt e 16 4, leAt e 20 4)) = some (32, s.rd SAF_ACRC, s.rd SAF_SCRC)) ∧ ((u.saf.log.getLast?).map (fun e => (leAt e 24 4, leAt e 28 4)) = some (ip.toNat, 0)) ∧ u.saf.nextSeq = s.saf.nextSeq + 1) ∧
  (∀ (dt : Nat) (ip : BitVec 32) (port : BitVec 16) (udp : Udp) (f : List (BitVec 8)) (mramOk : Bool) (s : State), NewRequest s ip.toNat port.toNat udp 0xB f → leAt (frameBody f) 0 1 = 1 → s.get CFG_STATE_STATE ≠ 0xE → s.writer ip.toNat = true → (((frameBody f).length = 8 + leAt (frameBody f) 1 1 ∧ 8 ≤ leAt (frameBody f) 1 1 ∧ leAt (frameBody f) 1 1 ≤ 64)) → s.get SAF_ST_PWLOCK = 0 → sha256 (s.secret.1 ++ (frameBody f).drop 8) = s.secret.2 → s.saf.log.length ≠ 4096 → leAt (frameBody f) 4 4 = s.rd SAF_SCRC → mramOk = false → s.get SAF_ST_FAULT = 0 → 
      ∃ u, exec (.accept dt ip port udp f mramOk) s = .next u ∧ u.svc.answered = true ∧ u.get SAF_PW_FAIL = 0 ∧ u.get SAF_ST_FAULT = 1 ∧ u.get SAF_ST_FCAUSE = 7 ∧ (∀ y : Fin 8, u.get (SAF_GRP_GENAC y) = 0 ∧ u.get (SAF_GRP_GENBC y) = 0) ∧ u.saf.log = s.saf.log ∧ u.saf.stored = s.saf.stored) ∧
  (∀ (dt : Nat) (ip : BitVec 32) (port : BitVec 16) (udp : Udp) (f : List (BitVec 8)) (mramOk : Bool) (s : State), NewRequest s ip.toNat port.toNat udp 0xB f → leAt (frameBody f) 0 1 = 2 → s.get CFG_STATE_STATE ≠ 0xE → s.writer ip.toNat = true → (¬ ((frameBody f).length = 8 + leAt (frameBody f) 1 1 ∧ 8 ≤ leAt (frameBody f) 1 1 ∧ leAt (frameBody f) 1 1 ≤ 64)) → 
      ∃ u, exec (.withdraw dt ip port udp f mramOk) s = .next u ∧ Answered s u ip.toNat port.toNat 0xB 2 f ([]) ∧ OnlyChanges [.clk, .svc, .knl, .reg .knl, .sets] [] s u) ∧
  (∀ (dt : Nat) (ip : BitVec 32) (port : BitVec 16) (udp : Udp) (f : List (BitVec 8)) (mramOk : Bool) (s : State), NewRequest s ip.toNat port.toNat udp 0xB f → leAt (frameBody f) 0 1 = 2 → s.get CFG_STATE_STATE ≠ 0xE → s.writer ip.toNat = true → (((frameBody f).length = 8 + leAt (frameBody f) 1 1 ∧ 8 ≤ leAt (frameBody f) 1 1 ∧ leAt (frameBody f) 1 1 ≤ 64)) → s.get SAF_ST_PWLOCK = 1 → 
      ∃ u, exec (.withdraw dt ip port udp f mramOk) s = .next u ∧ Answered s u ip.toNat port.toNat 0xB 0 f (leBytes 4 9) ∧ OnlyChanges [.clk, .svc, .knl, .reg .knl, .sets] [] s u) ∧
  (∀ (dt : Nat) (ip : BitVec 32) (port : BitVec 16) (udp : Udp) (f : List (BitVec 8)) (mramOk : Bool) (s : State), NewRequest s ip.toNat port.toNat udp 0xB f → leAt (frameBody f) 0 1 = 2 → s.get CFG_STATE_STATE ≠ 0xE → s.writer ip.toNat = true → (((frameBody f).length = 8 + leAt (frameBody f) 1 1 ∧ 8 ≤ leAt (frameBody f) 1 1 ∧ leAt (frameBody f) 1 1 ≤ 64)) → s.get SAF_ST_PWLOCK = 0 → sha256 (s.secret.1 ++ (frameBody f).drop 8) ≠ s.secret.2 → 
      ∃ u, exec (.withdraw dt ip port udp f mramOk) s = .next u ∧ Answered s u ip.toNat port.toNat 0xB 0 f (leBytes 4 8) ∧ u.get SAF_PW_FAIL = (s.get SAF_PW_FAIL + 1) % 256 ∧ (u.get SAF_ST_PWLOCK = (if (s.get SAF_PW_FAIL + 1) % 256 % 5 = 0 then 1 else 0)) ∧ (u.saf.lockAt = (if (s.get SAF_PW_FAIL + 1) % 256 % 5 = 0 then some (s.elapse dt).clk.elapsed else s.saf.lockAt)) ∧ u.saf.log = s.saf.log ∧ u.saf.stored = s.saf.stored ∧ OnlyChanges [.clk, .svc, .knl, .reg .knl, .saf, .sets] [SAF_PW, SAF_ST] s u) ∧
  (∀ (dt : Nat) (ip : BitVec 32) (port : BitVec 16) (udp : Udp) (f : List (BitVec 8)) (mramOk : Bool) (s : State), NewRequest s ip.toNat port.toNat udp 0xB f → leAt (frameBody f) 0 1 = 2 → s.get CFG_STATE_STATE ≠ 0xE → s.writer ip.toNat = true → (((frameBody f).length = 8 + leAt (frameBody f) 1 1 ∧ 8 ≤ leAt (frameBody f) 1 1 ∧ leAt (frameBody f) 1 1 ≤ 64)) → s.get SAF_ST_PWLOCK = 0 → sha256 (s.secret.1 ++ (frameBody f).drop 8) = s.secret.2 → s.saf.log.length = 4096 → 
      ∃ u, exec (.withdraw dt ip port udp f mramOk) s = .next u ∧ Answered s u ip.toNat port.toNat 0xB 0 f (leBytes 4 0xB) ∧ u.get SAF_ST_LOGFULL = 1 ∧ u.get SAF_PW_FAIL = 0 ∧ u.saf.log = s.saf.log ∧ u.saf.stored = s.saf.stored ∧ OnlyChanges [.clk, .svc, .knl, .reg .knl, .sets] [SAF_PW, SAF_ST] s u) ∧
  (∀ (dt : Nat) (ip : BitVec 32) (port : BitVec 16) (udp : Udp) (f : List (BitVec 8)) (mramOk : Bool) (s : State), NewRequest s ip.toNat port.toNat udp 0xB f → leAt (frameBody f) 0 1 = 2 → s.get CFG_STATE_STATE ≠ 0xE → s.writer ip.toNat = true → (((frameBody f).length = 8 + leAt (frameBody f) 1 1 ∧ 8 ≤ leAt (frameBody f) 1 1 ∧ leAt (frameBody f) 1 1 ≤ 64)) → s.get SAF_ST_PWLOCK = 0 → sha256 (s.secret.1 ++ (frameBody f).drop 8) = s.secret.2 → s.saf.log.length ≠ 4096 → mramOk = true → 
      ∃ u, exec (.withdraw dt ip port udp f mramOk) s = .next u ∧ Answered s u ip.toNat port.toNat 0xB 0 f (leBytes 4 1) ∧ u.get SAF_PW_FAIL = 0 ∧ u.get SAF_ST_ACCEPTED = 0 ∧ u.rd SAF_ACRC = 0 ∧ u.saf.stored = none ∧ u.saf.log.length = s.saf.log.length + 1 ∧ (∀ y : Fin 8, u.get (SAF_GRP_GENAC y) = 0 ∧ u.get (SAF_GRP_GENBC y) = 0) ∧ ((u.saf.log.getLast?).map (fun e => (leAt e 0 4, leAt e 4 6, leAt e 14 1)) = some (s.saf.nextSeq % 2 ^ 32, (s.elapse dt).clk.sec % 2 ^ 48, 2)) ∧ ((u.saf.log.getLast?).map (fun e => (e.length, leAt e 16 4, leAt e 20 4)) = some (32, s.rd SAF_ACRC, 0)) ∧ ((u.saf.log.getLast?).map (fun e => (leAt e 24 4, leAt e 28 4)) = some (ip.toNat, 0)) ∧ u.saf.nextSeq = s.saf.nextSeq + 1) ∧
  (∀ (dt : Nat) (ip : BitVec 32) (port : BitVec 16) (udp : Udp) (f : List (BitVec 8)) (mramOk : Bool) (s : State), NewRequest s ip.toNat port.toNat udp 0xB f → leAt (frameBody f) 0 1 = 2 → s.get CFG_STATE_STATE ≠ 0xE → s.writer ip.toNat = true → (((frameBody f).length = 8 + leAt (frameBody f) 1 1 ∧ 8 ≤ leAt (frameBody f) 1 1 ∧ leAt (frameBody f) 1 1 ≤ 64)) → s.get SAF_ST_PWLOCK = 0 → sha256 (s.secret.1 ++ (frameBody f).drop 8) = s.secret.2 → s.saf.log.length ≠ 4096 → mramOk = false → s.get SAF_ST_FAULT = 0 → 
      ∃ u, exec (.withdraw dt ip port udp f mramOk) s = .next u ∧ u.svc.answered = true ∧ u.get SAF_PW_FAIL = 0 ∧ u.get SAF_ST_FAULT = 1 ∧ u.get SAF_ST_FCAUSE = 7 ∧ (∀ y : Fin 8, u.get (SAF_GRP_GENAC y) = 0 ∧ u.get (SAF_GRP_GENBC y) = 0) ∧ u.saf.log = s.saf.log ∧ u.saf.stored = s.saf.stored) ∧
  (∀ (dt : Nat) (ip : BitVec 32) (port : BitVec 16) (udp : Udp) (f : List (BitVec 8)) (mramOk : Bool) (s : State), NewRequest s ip.toNat port.toNat udp 0xB f → leAt (frameBody f) 0 1 = 3 → s.get CFG_STATE_STATE ≠ 0xE → s.writer ip.toNat = true → (¬ ((frameBody f).length = 8 + leAt (frameBody f) 1 1 ∧ 8 ≤ leAt (frameBody f) 1 1 ∧ leAt (frameBody f) 1 1 ≤ 64)) → 
      ∃ u, exec (.clearlog dt ip port udp f mramOk) s = .next u ∧ Answered s u ip.toNat port.toNat 0xB 2 f ([]) ∧ OnlyChanges [.clk, .svc, .knl, .reg .knl, .sets] [] s u) ∧
  (∀ (dt : Nat) (ip : BitVec 32) (port : BitVec 16) (udp : Udp) (f : List (BitVec 8)) (mramOk : Bool) (s : State), NewRequest s ip.toNat port.toNat udp 0xB f → leAt (frameBody f) 0 1 = 3 → s.get CFG_STATE_STATE ≠ 0xE → s.writer ip.toNat = true → (((frameBody f).length = 8 + leAt (frameBody f) 1 1 ∧ 8 ≤ leAt (frameBody f) 1 1 ∧ leAt (frameBody f) 1 1 ≤ 64)) → s.get SAF_ST_PWLOCK = 1 → 
      ∃ u, exec (.clearlog dt ip port udp f mramOk) s = .next u ∧ Answered s u ip.toNat port.toNat 0xB 0 f (leBytes 4 9) ∧ OnlyChanges [.clk, .svc, .knl, .reg .knl, .sets] [] s u) ∧
  (∀ (dt : Nat) (ip : BitVec 32) (port : BitVec 16) (udp : Udp) (f : List (BitVec 8)) (mramOk : Bool) (s : State), NewRequest s ip.toNat port.toNat udp 0xB f → leAt (frameBody f) 0 1 = 3 → s.get CFG_STATE_STATE ≠ 0xE → s.writer ip.toNat = true → (((frameBody f).length = 8 + leAt (frameBody f) 1 1 ∧ 8 ≤ leAt (frameBody f) 1 1 ∧ leAt (frameBody f) 1 1 ≤ 64)) → s.get SAF_ST_PWLOCK = 0 → sha256 (s.secret.1 ++ (frameBody f).drop 8) ≠ s.secret.2 → 
      ∃ u, exec (.clearlog dt ip port udp f mramOk) s = .next u ∧ Answered s u ip.toNat port.toNat 0xB 0 f (leBytes 4 8) ∧ u.get SAF_PW_FAIL = (s.get SAF_PW_FAIL + 1) % 256 ∧ (u.get SAF_ST_PWLOCK = (if (s.get SAF_PW_FAIL + 1) % 256 % 5 = 0 then 1 else 0)) ∧ (u.saf.lockAt = (if (s.get SAF_PW_FAIL + 1) % 256 % 5 = 0 then some (s.elapse dt).clk.elapsed else s.saf.lockAt)) ∧ u.saf.log = s.saf.log ∧ u.saf.stored = s.saf.stored ∧ OnlyChanges [.clk, .svc, .knl, .reg .knl, .saf, .sets] [SAF_PW, SAF_ST] s u) ∧
  (∀ (dt : Nat) (ip : BitVec 32) (port : BitVec 16) (udp : Udp) (f : List (BitVec 8)) (mramOk : Bool) (s : State), NewRequest s ip.toNat port.toNat udp 0xB f → leAt (frameBody f) 0 1 = 3 → s.get CFG_STATE_STATE ≠ 0xE → s.writer ip.toNat = true → (((frameBody f).length = 8 + leAt (frameBody f) 1 1 ∧ 8 ≤ leAt (frameBody f) 1 1 ∧ leAt (frameBody f) 1 1 ≤ 64)) → s.get SAF_ST_PWLOCK = 0 → sha256 (s.secret.1 ++ (frameBody f).drop 8) = s.secret.2 → ((s.saf.log.getLast?).map (fun e => leAt e 0 4) ≠ some (leAt (frameBody f) 4 4)) → 
      ∃ u, exec (.clearlog dt ip port udp f mramOk) s = .next u ∧ Answered s u ip.toNat port.toNat 0xB 0 f (leBytes 4 0xC) ∧ u.get SAF_PW_FAIL = 0 ∧ u.saf.log = s.saf.log ∧ u.saf.stored = s.saf.stored ∧ OnlyChanges [.clk, .svc, .knl, .reg .knl, .sets] [SAF_PW] s u) ∧
  (∀ (dt : Nat) (ip : BitVec 32) (port : BitVec 16) (udp : Udp) (f : List (BitVec 8)) (mramOk : Bool) (s : State), NewRequest s ip.toNat port.toNat udp 0xB f → leAt (frameBody f) 0 1 = 3 → s.get CFG_STATE_STATE ≠ 0xE → s.writer ip.toNat = true → (((frameBody f).length = 8 + leAt (frameBody f) 1 1 ∧ 8 ≤ leAt (frameBody f) 1 1 ∧ leAt (frameBody f) 1 1 ≤ 64)) → s.get SAF_ST_PWLOCK = 0 → sha256 (s.secret.1 ++ (frameBody f).drop 8) = s.secret.2 → ((s.saf.log.getLast?).map (fun e => leAt e 0 4) = some (leAt (frameBody f) 4 4)) → mramOk = true → 
      ∃ u, exec (.clearlog dt ip port udp f mramOk) s = .next u ∧ Answered s u ip.toNat port.toNat 0xB 0 f (leBytes 4 1) ∧ u.get SAF_PW_FAIL = 0 ∧ u.saf.log.length = 1 ∧ u.saf.stored = s.saf.stored ∧ u.get SAF_LOG_USED = 1 ∧ ((u.saf.log.getLast?).map (fun e => (leAt e 0 4, leAt e 4 6, leAt e 14 1)) = some (s.saf.nextSeq % 2 ^ 32, (s.elapse dt).clk.sec % 2 ^ 48, 3)) ∧ ((u.saf.log.getLast?).map (fun e => (e.length, leAt e 16 4, leAt e 20 4)) = some (32, s.rd SAF_ACRC, s.rd SAF_ACRC)) ∧ ((u.saf.log.getLast?).map (fun e => (leAt e 24 4, leAt e 28 4)) = some (ip.toNat, leAt (s.saf.log.headD []) 0 4)) ∧ u.saf.nextSeq = s.saf.nextSeq + 1) ∧
  (∀ (dt : Nat) (ip : BitVec 32) (port : BitVec 16) (udp : Udp) (f : List (BitVec 8)) (mramOk : Bool) (s : State), NewRequest s ip.toNat port.toNat udp 0xB f → leAt (frameBody f) 0 1 = 3 → s.get CFG_STATE_STATE ≠ 0xE → s.writer ip.toNat = true → (((frameBody f).length = 8 + leAt (frameBody f) 1 1 ∧ 8 ≤ leAt (frameBody f) 1 1 ∧ leAt (frameBody f) 1 1 ≤ 64)) → s.get SAF_ST_PWLOCK = 0 → sha256 (s.secret.1 ++ (frameBody f).drop 8) = s.secret.2 → ((s.saf.log.getLast?).map (fun e => leAt e 0 4) = some (leAt (frameBody f) 4 4)) → mramOk = false → s.get SAF_ST_FAULT = 0 → 
      ∃ u, exec (.clearlog dt ip port udp f mramOk) s = .next u ∧ u.svc.answered = true ∧ u.get SAF_PW_FAIL = 0 ∧ u.get SAF_ST_FAULT = 1 ∧ u.get SAF_ST_FCAUSE = 7 ∧ (∀ y : Fin 8, u.get (SAF_GRP_GENAC y) = 0 ∧ u.get (SAF_GRP_GENBC y) = 0) ∧ u.saf.log = s.saf.log ∧ u.saf.stored = s.saf.stored)

/-- The error log, its MRAM slots and the boundary-scan port. The log takes one report at most every 40 ns, the oldest of the first source in round-robin order after the one served last, gives it the next number and keeps the newest 1 024; a severe one waits for MRAM and fires event 0x55. PERSIST writes the oldest waiting severe record, with PERSIST set and the count of starts, with its CRC, to the next of 64 slots and sets PERSIST in the log copy. A scan sets the instruction: BYPASS captures one 0, IDCODE the 32 bits of the identity, SAMPLE/PRELOAD as many cells as are shifted and loads the cells; EXTEST acts so in NO_IMAGE and as BYPASS elsewhere; no scan touches anything else. What the cells capture is free (log 2). -/
def Obligations.LogAndScan : Prop :=
  (∀ (dt : Nat) (s : State), (∀ i : Fin 31, tabGet [] s.log.bufs i = [] ∨ (s.log.lastTake.all fun t => decide (t + 40 ≤ (s.elapse dt).clk.elapsed)) = false) → 
      ∃ u, exec (.logTake dt) s = .next u ∧ u = (s.elapse dt)) ∧
  (∀ (dt : Nat) (i : Fin 31) (r : LogRec) (l : List LogRec) (s : State), ((s.log.lastTake.all fun t => decide (t + 40 ≤ (s.elapse dt).clk.elapsed)) = true) → (tabGet [] s.log.bufs i) = r :: l → ((∀ j : Fin 31, (j.val + 30 - s.log.lastSrc % 31) % 31 < (i.val + 30 - s.log.lastSrc % 31) % 31 → tabGet [] s.log.bufs j = [])) → r.sev ≠ 4 → 
      ∃ u, exec (.logTake dt) s = .next u ∧ u.log.ring = (s.log.ring ++ [{ r with seq := s.rd ERR_NEXT, logged := (s.elapse dt).clk.elapsed }]).drop (s.log.ring.length + 1 - 1024) ∧ u.rd ERR_NEXT = (s.rd ERR_NEXT + 1) % 2 ^ 32 ∧ u.rd (ERR_LOGD i) = (s.rd (ERR_LOGD i) + 1) % 2 ^ 32 ∧ u.get (ERR_LOST_BUF i) = l.length % 2 ^ (ERR_LOST_BUF 0).width ∧ tabGet [] u.log.bufs i = l ∧ u.log.lastSrc = i ∧ u.log.lastTake = some (s.elapse dt).clk.elapsed ∧ (some (u.rd ERR_OLDEST) = (u.log.ring.head?).map fun x => x.seq % 2 ^ 32) ∧ u.get ERR_LOGST_HELD = u.log.ring.length % 2048 ∧ u.log.toPersist = s.log.toPersist ∧ OnlyChanges [.clk, .log, .sets] [ERR_NEXT, ERR_OLDEST, ERR_LOGST, ERR_LOGD i, ERR_LOST i] s u) ∧
  (∀ (dt : Nat) (i : Fin 31) (r : LogRec) (l : List LogRec) (s : State), ((s.log.lastTake.all fun t => decide (t + 40 ≤ (s.elapse dt).clk.elapsed)) = true) → (tabGet [] s.log.bufs i) = r :: l → ((∀ j : Fin 31, (j.val + 30 - s.log.lastSrc % 31) % 31 < (i.val + 30 - s.log.lastSrc % 31) % 31 → tabGet [] s.log.bufs j = [])) → r.sev = 4 → 
      ∃ u, exec (.logTake dt) s = .next u ∧ u.log.ring = (s.log.ring ++ [{ r with seq := s.rd ERR_NEXT, logged := (s.elapse dt).clk.elapsed }]).drop (s.log.ring.length + 1 - 1024) ∧ u.rd ERR_NEXT = (s.rd ERR_NEXT + 1) % 2 ^ 32 ∧ u.rd (ERR_LOGD i) = (s.rd (ERR_LOGD i) + 1) % 2 ^ 32 ∧ u.get (ERR_LOST_BUF i) = l.length % 2 ^ (ERR_LOST_BUF 0).width ∧ tabGet [] u.log.bufs i = l ∧ u.log.lastSrc = i ∧ u.log.lastTake = some (s.elapse dt).clk.elapsed ∧ (some (u.rd ERR_OLDEST) = (u.log.ring.head?).map fun x => x.seq % 2 ^ 32) ∧ u.get ERR_LOGST_HELD = u.log.ring.length % 2048 ∧ u.log.toPersist = s.log.toPersist ++ [{ r with seq := s.rd ERR_NEXT, logged := (s.elapse dt).clk.elapsed }] ∧ u.get (KNL_EVB_FIRES 0x55) = (s.get (KNL_EVB_FIRES 0x55) + 1) % 65536) ∧
  (∀ (dt : Nat) (s : State), s.log.toPersist = [] → 
      ∃ u, exec (.persist dt) s = .next u ∧ u = (s.elapse dt)) ∧
  (∀ (dt : Nat) (r : LogRec) (l : List LogRec) (s : State), s.log.toPersist = r :: l → 
      ∃ u, exec (.persist dt) s = .next u ∧ u.log.toPersist = l ∧ tabFind u.log.slots s.log.nextSlot = some ((recordBytes { r with persist := true } ++ leBytes 2 (s.rd ERR_BOOT) ++ [0, 0]) ++ leBytes 4 (crc32c (recordBytes { r with persist := true } ++ leBytes 2 (s.rd ERR_BOOT) ++ [0, 0]))) ∧ u.log.nextSlot = (s.log.nextSlot + 1) % 64 ∧ (u.log.ring = s.log.ring.map fun x => if x.seq = r.seq then { x with persist := true } else x) ∧ (∀ j, j ≠ s.log.nextSlot → tabFind u.log.slots j = tabFind s.log.slots j) ∧ (u.get ERR_LOGST_NPERS = (u.log.slots.filter fun e => slotOk e.2).length % 128) ∧ OnlyChanges [.clk, .log, .sets] [ERR_LOGST] s u) ∧
  (∀ (dt : Nat) (s : State), 
      ∃ u, exec (.bypass dt) s = .next u ∧ u.jtag = { s.jtag with instr := .bypass, captured := [false] } ∧ OnlyChanges [.clk, .jtag, .sets] [] s u) ∧
  (∀ (dt : Nat) (s : State), 
      ∃ u, exec (.idcode dt) s = .next u ∧ u.jtag.instr = .idcode ∧ u.jtag.captured.length = 32 ∧ (∀ k : Fin 32, u.jtag.captured[k.val]? = some (Config.idcode.getLsbD k)) ∧ u.jtag.cells = s.jtag.cells ∧ OnlyChanges [.clk, .jtag, .sets] [] s u) ∧
  (∀ (dt : Nat) (shift : List Bool) (s : State), 
      ∃ u, exec (.samplePreload dt shift) s = .next u ∧ u.jtag.instr = .sample ∧ u.jtag.captured.length = shift.length ∧ u.jtag.cells = shift ∧ OnlyChanges [.clk, .jtag, .fresh, .sets] [] s u) ∧
  (∀ (dt : Nat) (shift : List Bool) (s : State), s.get CFG_STATE_STATE = 0xE → 
      ∃ u, exec (.extest dt shift) s = .next u ∧ u.jtag.instr = .extest ∧ u.jtag.captured.length = shift.length ∧ u.jtag.cells = shift ∧ OnlyChanges [.clk, .jtag, .fresh, .sets] [] s u) ∧
  (∀ (dt : Nat) (shift : List Bool) (s : State), s.get CFG_STATE_STATE ≠ 0xE → 
      ∃ u, exec (.extest dt shift) s = .next u ∧ u.jtag = { s.jtag with instr := .extest, captured := [false] } ∧ OnlyChanges [.clk, .jtag, .sets] [] s u)
end

