-- ==== Sys2Proof/Laws/Memory.lean ====
section
/-! SUPPORT. The laws of sparse tables and of bulk memory: what is read after a write, and that every memory operation keeps
the canonical form. -/

namespace Sys2Proof.Machine

theorem tabFind_tabSet_same {α : Type} (t : Tab α) (i : Nat) (v : α) : tabFind (tabSet t i v) i = some v := by
  induction t with
  | nil => simp [tabSet, tabFind]
  | cons e t ih =>
    obtain ⟨k, w⟩ := e
    simp only [tabSet]
    split
    · simp [tabFind]
    · split
      · simp [tabFind]
      · simp [tabFind, *]

theorem tabFind_tabSet_ne {α : Type} (t : Tab α) {i j : Nat} (v : α) (h : j ≠ i) : tabFind (tabSet t i v) j = tabFind t j := by
  induction t with
  | nil => simp [tabSet, tabFind, Ne.symm h]
  | cons e t ih =>
    obtain ⟨k, w⟩ := e
    simp only [tabSet]
    split
    · subst_vars; simp [tabFind, Ne.symm h]
    · split
      · simp [tabFind, Ne.symm h]
      · simp only [tabFind]; split <;> simp [*]

@[simp] theorem tabGet_tabSet_same {α : Type} (d : α) (t : Tab α) (i : Nat) (v : α) : tabGet d (tabSet t i v) i = v := by
  simp [tabGet, tabFind_tabSet_same]

theorem tabGet_tabSet_ne {α : Type} (d : α) (t : Tab α) {i j : Nat} (v : α) (h : j ≠ i) :
    tabGet d (tabSet t i v) j = tabGet d t j := by
  simp [tabGet, tabFind_tabSet_ne t v h]

theorem tabGet_tabSet {α : Type} (d : α) (t : Tab α) (i j : Nat) (v : α) :
    tabGet d (tabSet t i v) j = if j = i then v else tabGet d t j := by
  split
  · subst_vars; simp
  · exact tabGet_tabSet_ne d t v ‹_›

/-! ### The canonical form -/

theorem memWfFrom_mono {m : List Host.Cell} {a b : Nat} (h : memWfFrom b m = true) (ab : a ≤ b) : memWfFrom a m = true := by
  cases m with
  | nil => rfl
  | cons e t =>
    obtain ⟨k, w⟩ := e
    simp only [memWfFrom, Bool.and_eq_true, decide_eq_true_eq] at *
    exact ⟨⟨by omega, h.1.2⟩, h.2⟩

theorem tabDel_wfFrom {m : List Host.Cell} {lo : Nat} (a : Nat) (h : memWfFrom lo m = true) : memWfFrom lo (tabDel m a) = true := by
  induction m generalizing lo with
  | nil => rfl
  | cons e t ih =>
    obtain ⟨k, w⟩ := e
    simp only [memWfFrom, Bool.and_eq_true, decide_eq_true_eq] at h
    by_cases hk : k = a
    · simpa [tabDel, hk] using memWfFrom_mono (ih h.2) (show lo ≤ k + 1 by omega)
    · have := ih h.2
      simp only [tabDel] at this
      simp only [tabDel, List.filter_cons, bne_iff_ne, ne_eq, hk, not_false_eq_true, if_true, memWfFrom, Bool.and_eq_true, decide_eq_true_eq]
      exact ⟨⟨h.1.1, by simpa using h.1.2⟩, this⟩

theorem tabSet_wfFrom {m : List Host.Cell} {lo a : Nat} {v : Byte} (hv : v ≠ 0) (h : memWfFrom lo m = true) (la : lo ≤ a) :
    memWfFrom lo (tabSet m a v) = true := by
  induction m generalizing lo with
  | nil => simp_all [tabSet, memWfFrom]
  | cons e t ih =>
    obtain ⟨k, w⟩ := e
    simp only [memWfFrom, Bool.and_eq_true, decide_eq_true_eq] at h
    by_cases hk : k = a
    · simp_all [tabSet, memWfFrom]
    · by_cases ha : a < k
      · have := Nat.succ_le_of_lt ha
        simp_all [tabSet, memWfFrom]
      · have := ih h.2 (show k + 1 ≤ a by omega)
        simp only [tabSet, if_neg hk, if_neg ha, memWfFrom, Bool.and_eq_true, decide_eq_true_eq]
        exact ⟨h.1, this⟩

/-- Storing a byte keeps the canonical form of a memory. -/
theorem memPut_wf {m : List Host.Cell} (a : Nat) (v : Byte) (h : Memory.wf m = true) : Memory.wf (memPut m a v) = true := by
  unfold memPut
  split
  · exact tabDel_wfFrom a h
  · exact tabSet_wfFrom ‹_› h (Nat.zero_le a)

/-- Storing bytes keeps the canonical form of a memory. -/
theorem memPuts_wf (l : List Byte) {m : List Host.Cell} (a : Nat) (h : Memory.wf m = true) : Memory.wf (memPuts m a l) = true := by
  induction l generalizing m a with
  | nil => exact h
  | cons b l ih => exact ih (a + 1) (memPut_wf a b h)

/-- Storing a byte lists only its own address anew. -/
theorem memPut_all {p : Host.Cell → Bool} {m : List Host.Cell} {a : Nat} {v : Byte} (h : m.all p = true) (ha : p (a, v) = true) :
    (memPut m a v).all p = true := by
  unfold memPut
  split
  · simp only [List.all_eq_true, tabDel, List.mem_filter] at *
    exact fun x hx => h x hx.1
  · clear * - h ha
    induction m with
    | nil => simp [tabSet, ha]
    | cons e t ih =>
      obtain ⟨k, w⟩ := e
      simp only [List.all_cons, Bool.and_eq_true] at h
      simp only [tabSet]
      split
      · simp [ha, h.2]
      · split
        · simp [ha, h.1, h.2]
        · simp [h.1, ih h.2]

theorem tabFind_tabDel {α : Type} (t : Tab α) (i j : Nat) : tabFind (tabDel t i) j = if j = i then none else tabFind t j := by
  induction t with
  | nil => simp [tabDel, tabFind]
  | cons e t ih =>
    obtain ⟨k, w⟩ := e
    simp only [tabDel] at ih
    by_cases hk : k = i
    · by_cases hj : j = i
      · simpa [tabDel, hk, hj, tabFind] using ih
      · have : i ≠ j := fun h => hj h.symm
        simpa [tabDel, hk, hj, tabFind, this] using ih
    · by_cases hj : j = i
      · subst hj; simpa [tabDel, hk, tabFind] using ih
      · simpa [tabDel, hk, hj, tabFind] using congrArg (fun x => if k = j then some w else x) ih

/-- What a byte reads as after a byte has been stored. -/
theorem memByte_memPut (m : List Host.Cell) (a b : Nat) (v : Byte) :
    memByte (memPut m a v) b = if b = a then v else memByte m b := by
  unfold memByte memPut
  split
  · subst_vars
    simp only [tabGet, tabFind_tabDel]
    split <;> rfl
  · exact tabGet_tabSet 0 m a b v

end Sys2Proof.Machine
end

