-- ==== Sys2Proof/Laws/State.lean ====
section
/-! SUPPORT. One lemma per field per update of the state, each true by rfl. -/

namespace Sys2Proof.Machine

@[simp] theorem onFresh_pending (f : Nat → Nat) (s : State) : (s.onFresh f).pending = s.pending := rfl
@[simp] theorem onFresh_fresh (f : Nat → Nat) (s : State) : (s.onFresh f).fresh = f s.fresh := rfl
@[simp] theorem onFresh_clk (f : Nat → Nat) (s : State) : (s.onFresh f).clk = s.clk := rfl
@[simp] theorem onFresh_regs (f : Nat → Nat) (s : State) : (s.onFresh f).regs = s.regs := rfl
@[simp] theorem onFresh_bulk (f : Nat → Nat) (s : State) : (s.onFresh f).bulk = s.bulk := rfl
@[simp] theorem onFresh_sets (f : Nat → Nat) (s : State) : (s.onFresh f).sets = s.sets := rfl
@[simp] theorem onFresh_bus (f : Nat → Nat) (s : State) : (s.onFresh f).bus = s.bus := rfl
@[simp] theorem onFresh_log (f : Nat → Nat) (s : State) : (s.onFresh f).log = s.log := rfl
@[simp] theorem onFresh_knl (f : Nat → Nat) (s : State) : (s.onFresh f).knl = s.knl := rfl
@[simp] theorem onFresh_que (f : Nat → Nat) (s : State) : (s.onFresh f).que = s.que := rfl
@[simp] theorem onFresh_boot (f : Nat → Nat) (s : State) : (s.onFresh f).boot = s.boot := rfl
@[simp] theorem onFresh_pow (f : Nat → Nat) (s : State) : (s.onFresh f).pow = s.pow := rfl
@[simp] theorem onFresh_axes (f : Nat → Nat) (s : State) : (s.onFresh f).axes = s.axes := rfl
@[simp] theorem onFresh_lim (f : Nat → Nat) (s : State) : (s.onFresh f).lim = s.lim := rfl
@[simp] theorem onFresh_prf (f : Nat → Nat) (s : State) : (s.onFresh f).prf = s.prf := rfl
@[simp] theorem onFresh_eng (f : Nat → Nat) (s : State) : (s.onFresh f).eng = s.eng := rfl
@[simp] theorem onFresh_pwm (f : Nat → Nat) (s : State) : (s.onFresh f).pwm = s.pwm := rfl
@[simp] theorem onFresh_drn (f : Nat → Nat) (s : State) : (s.onFresh f).drn = s.drn := rfl
@[simp] theorem onFresh_ine (f : Nat → Nat) (s : State) : (s.onFresh f).ine = s.ine := rfl
@[simp] theorem onFresh_shp (f : Nat → Nat) (s : State) : (s.onFresh f).shp = s.shp := rfl
@[simp] theorem onFresh_csf (f : Nat → Nat) (s : State) : (s.onFresh f).csf = s.csf := rfl
@[simp] theorem onFresh_ports (f : Nat → Nat) (s : State) : (s.onFresh f).ports = s.ports := rfl
@[simp] theorem onFresh_probes (f : Nat → Nat) (s : State) : (s.onFresh f).probes = s.probes := rfl
@[simp] theorem onFresh_menc (f : Nat → Nat) (s : State) : (s.onFresh f).menc = s.menc := rfl
@[simp] theorem onFresh_acq (f : Nat → Nat) (s : State) : (s.onFresh f).acq = s.acq := rfl
@[simp] theorem onFresh_ring (f : Nat → Nat) (s : State) : (s.onFresh f).ring = s.ring := rfl
@[simp] theorem onFresh_tim (f : Nat → Nat) (s : State) : (s.onFresh f).tim = s.tim := rfl
@[simp] theorem onFresh_dio (f : Nat → Nat) (s : State) : (s.onFresh f).dio = s.dio := rfl
@[simp] theorem onFresh_saf (f : Nat → Nat) (s : State) : (s.onFresh f).saf = s.saf := rfl
@[simp] theorem onFresh_svc (f : Nat → Nat) (s : State) : (s.onFresh f).svc = s.svc := rfl
@[simp] theorem onFresh_jtag (f : Nat → Nat) (s : State) : (s.onFresh f).jtag = s.jtag := rfl
@[simp] theorem onClk_pending (f : Clk → Clk) (s : State) : (s.onClk f).pending = s.pending := rfl
@[simp] theorem onClk_fresh (f : Clk → Clk) (s : State) : (s.onClk f).fresh = s.fresh := rfl
@[simp] theorem onClk_clk (f : Clk → Clk) (s : State) : (s.onClk f).clk = f s.clk := rfl
@[simp] theorem onClk_regs (f : Clk → Clk) (s : State) : (s.onClk f).regs = s.regs := rfl
@[simp] theorem onClk_bulk (f : Clk → Clk) (s : State) : (s.onClk f).bulk = s.bulk := rfl
@[simp] theorem onClk_sets (f : Clk → Clk) (s : State) : (s.onClk f).sets = s.sets := rfl
@[simp] theorem onClk_bus (f : Clk → Clk) (s : State) : (s.onClk f).bus = s.bus := rfl
@[simp] theorem onClk_log (f : Clk → Clk) (s : State) : (s.onClk f).log = s.log := rfl
@[simp] theorem onClk_knl (f : Clk → Clk) (s : State) : (s.onClk f).knl = s.knl := rfl
@[simp] theorem onClk_que (f : Clk → Clk) (s : State) : (s.onClk f).que = s.que := rfl
@[simp] theorem onClk_boot (f : Clk → Clk) (s : State) : (s.onClk f).boot = s.boot := rfl
@[simp] theorem onClk_pow (f : Clk → Clk) (s : State) : (s.onClk f).pow = s.pow := rfl
@[simp] theorem onClk_axes (f : Clk → Clk) (s : State) : (s.onClk f).axes = s.axes := rfl
@[simp] theorem onClk_lim (f : Clk → Clk) (s : State) : (s.onClk f).lim = s.lim := rfl
@[simp] theorem onClk_prf (f : Clk → Clk) (s : State) : (s.onClk f).prf = s.prf := rfl
@[simp] theorem onClk_eng (f : Clk → Clk) (s : State) : (s.onClk f).eng = s.eng := rfl
@[simp] theorem onClk_pwm (f : Clk → Clk) (s : State) : (s.onClk f).pwm = s.pwm := rfl
@[simp] theorem onClk_drn (f : Clk → Clk) (s : State) : (s.onClk f).drn = s.drn := rfl
@[simp] theorem onClk_ine (f : Clk → Clk) (s : State) : (s.onClk f).ine = s.ine := rfl
@[simp] theorem onClk_shp (f : Clk → Clk) (s : State) : (s.onClk f).shp = s.shp := rfl
@[simp] theorem onClk_csf (f : Clk → Clk) (s : State) : (s.onClk f).csf = s.csf := rfl
@[simp] theorem onClk_ports (f : Clk → Clk) (s : State) : (s.onClk f).ports = s.ports := rfl
@[simp] theorem onClk_probes (f : Clk → Clk) (s : State) : (s.onClk f).probes = s.probes := rfl
@[simp] theorem onClk_menc (f : Clk → Clk) (s : State) : (s.onClk f).menc = s.menc := rfl
@[simp] theorem onClk_acq (f : Clk → Clk) (s : State) : (s.onClk f).acq = s.acq := rfl
@[simp] theorem onClk_ring (f : Clk → Clk) (s : State) : (s.onClk f).ring = s.ring := rfl
@[simp] theorem onClk_tim (f : Clk → Clk) (s : State) : (s.onClk f).tim = s.tim := rfl
@[simp] theorem onClk_dio (f : Clk → Clk) (s : State) : (s.onClk f).dio = s.dio := rfl
@[simp] theorem onClk_saf (f : Clk → Clk) (s : State) : (s.onClk f).saf = s.saf := rfl
@[simp] theorem onClk_svc (f : Clk → Clk) (s : State) : (s.onClk f).svc = s.svc := rfl
@[simp] theorem onClk_jtag (f : Clk → Clk) (s : State) : (s.onClk f).jtag = s.jtag := rfl
@[simp] theorem onRegs_pending (f : Tab Word → Tab Word) (s : State) : (s.onRegs f).pending = s.pending := rfl
@[simp] theorem onRegs_fresh (f : Tab Word → Tab Word) (s : State) : (s.onRegs f).fresh = s.fresh := rfl
@[simp] theorem onRegs_clk (f : Tab Word → Tab Word) (s : State) : (s.onRegs f).clk = s.clk := rfl
@[simp] theorem onRegs_regs (f : Tab Word → Tab Word) (s : State) : (s.onRegs f).regs = f s.regs := rfl
@[simp] theorem onRegs_bulk (f : Tab Word → Tab Word) (s : State) : (s.onRegs f).bulk = s.bulk := rfl
@[simp] theorem onRegs_sets (f : Tab Word → Tab Word) (s : State) : (s.onRegs f).sets = s.sets := rfl
@[simp] theorem onRegs_bus (f : Tab Word → Tab Word) (s : State) : (s.onRegs f).bus = s.bus := rfl
@[simp] theorem onRegs_log (f : Tab Word → Tab Word) (s : State) : (s.onRegs f).log = s.log := rfl
@[simp] theorem onRegs_knl (f : Tab Word → Tab Word) (s : State) : (s.onRegs f).knl = s.knl := rfl
@[simp] theorem onRegs_que (f : Tab Word → Tab Word) (s : State) : (s.onRegs f).que = s.que := rfl
@[simp] theorem onRegs_boot (f : Tab Word → Tab Word) (s : State) : (s.onRegs f).boot = s.boot := rfl
@[simp] theorem onRegs_pow (f : Tab Word → Tab Word) (s : State) : (s.onRegs f).pow = s.pow := rfl
@[simp] theorem onRegs_axes (f : Tab Word → Tab Word) (s : State) : (s.onRegs f).axes = s.axes := rfl
@[simp] theorem onRegs_lim (f : Tab Word → Tab Word) (s : State) : (s.onRegs f).lim = s.lim := rfl
@[simp] theorem onRegs_prf (f : Tab Word → Tab Word) (s : State) : (s.onRegs f).prf = s.prf := rfl
@[simp] theorem onRegs_eng (f : Tab Word → Tab Word) (s : State) : (s.onRegs f).eng = s.eng := rfl
@[simp] theorem onRegs_pwm (f : Tab Word → Tab Word) (s : State) : (s.onRegs f).pwm = s.pwm := rfl
@[simp] theorem onRegs_drn (f : Tab Word → Tab Word) (s : State) : (s.onRegs f).drn = s.drn := rfl
@[simp] theorem onRegs_ine (f : Tab Word → Tab Word) (s : State) : (s.onRegs f).ine = s.ine := rfl
@[simp] theorem onRegs_shp (f : Tab Word → Tab Word) (s : State) : (s.onRegs f).shp = s.shp := rfl
@[simp] theorem onRegs_csf (f : Tab Word → Tab Word) (s : State) : (s.onRegs f).csf = s.csf := rfl
@[simp] theorem onRegs_ports (f : Tab Word → Tab Word) (s : State) : (s.onRegs f).ports = s.ports := rfl
@[simp] theorem onRegs_probes (f : Tab Word → Tab Word) (s : State) : (s.onRegs f).probes = s.probes := rfl
@[simp] theorem onRegs_menc (f : Tab Word → Tab Word) (s : State) : (s.onRegs f).menc = s.menc := rfl
@[simp] theorem onRegs_acq (f : Tab Word → Tab Word) (s : State) : (s.onRegs f).acq = s.acq := rfl
@[simp] theorem onRegs_ring (f : Tab Word → Tab Word) (s : State) : (s.onRegs f).ring = s.ring := rfl
@[simp] theorem onRegs_tim (f : Tab Word → Tab Word) (s : State) : (s.onRegs f).tim = s.tim := rfl
@[simp] theorem onRegs_dio (f : Tab Word → Tab Word) (s : State) : (s.onRegs f).dio = s.dio := rfl
@[simp] theorem onRegs_saf (f : Tab Word → Tab Word) (s : State) : (s.onRegs f).saf = s.saf := rfl
@[simp] theorem onRegs_svc (f : Tab Word → Tab Word) (s : State) : (s.onRegs f).svc = s.svc := rfl
@[simp] theorem onRegs_jtag (f : Tab Word → Tab Word) (s : State) : (s.onRegs f).jtag = s.jtag := rfl
@[simp] theorem onBulk_pending (f : List Host.Cell → List Host.Cell) (s : State) : (s.onBulk f).pending = s.pending := rfl
@[simp] theorem onBulk_fresh (f : List Host.Cell → List Host.Cell) (s : State) : (s.onBulk f).fresh = s.fresh := rfl
@[simp] theorem onBulk_clk (f : List Host.Cell → List Host.Cell) (s : State) : (s.onBulk f).clk = s.clk := rfl
@[simp] theorem onBulk_regs (f : List Host.Cell → List Host.Cell) (s : State) : (s.onBulk f).regs = s.regs := rfl
@[simp] theorem onBulk_bulk (f : List Host.Cell → List Host.Cell) (s : State) : (s.onBulk f).bulk = f s.bulk := rfl
@[simp] theorem onBulk_sets (f : List Host.Cell → List Host.Cell) (s : State) : (s.onBulk f).sets = s.sets := rfl
@[simp] theorem onBulk_bus (f : List Host.Cell → List Host.Cell) (s : State) : (s.onBulk f).bus = s.bus := rfl
@[simp] theorem onBulk_log (f : List Host.Cell → List Host.Cell) (s : State) : (s.onBulk f).log = s.log := rfl
@[simp] theorem onBulk_knl (f : List Host.Cell → List Host.Cell) (s : State) : (s.onBulk f).knl = s.knl := rfl
@[simp] theorem onBulk_que (f : List Host.Cell → List Host.Cell) (s : State) : (s.onBulk f).que = s.que := rfl
@[simp] theorem onBulk_boot (f : List Host.Cell → List Host.Cell) (s : State) : (s.onBulk f).boot = s.boot := rfl
@[simp] theorem onBulk_pow (f : List Host.Cell → List Host.Cell) (s : State) : (s.onBulk f).pow = s.pow := rfl
@[simp] theorem onBulk_axes (f : List Host.Cell → List Host.Cell) (s : State) : (s.onBulk f).axes = s.axes := rfl
@[simp] theorem onBulk_lim (f : List Host.Cell → List Host.Cell) (s : State) : (s.onBulk f).lim = s.lim := rfl
@[simp] theorem onBulk_prf (f : List Host.Cell → List Host.Cell) (s : State) : (s.onBulk f).prf = s.prf := rfl
@[simp] theorem onBulk_eng (f : List Host.Cell → List Host.Cell) (s : State) : (s.onBulk f).eng = s.eng := rfl
@[simp] theorem onBulk_pwm (f : List Host.Cell → List Host.Cell) (s : State) : (s.onBulk f).pwm = s.pwm := rfl
@[simp] theorem onBulk_drn (f : List Host.Cell → List Host.Cell) (s : State) : (s.onBulk f).drn = s.drn := rfl
@[simp] theorem onBulk_ine (f : List Host.Cell → List Host.Cell) (s : State) : (s.onBulk f).ine = s.ine := rfl
@[simp] theorem onBulk_shp (f : List Host.Cell → List Host.Cell) (s : State) : (s.onBulk f).shp = s.shp := rfl
@[simp] theorem onBulk_csf (f : List Host.Cell → List Host.Cell) (s : State) : (s.onBulk f).csf = s.csf := rfl
@[simp] theorem onBulk_ports (f : List Host.Cell → List Host.Cell) (s : State) : (s.onBulk f).ports = s.ports := rfl
@[simp] theorem onBulk_probes (f : List Host.Cell → List Host.Cell) (s : State) : (s.onBulk f).probes = s.probes := rfl
@[simp] theorem onBulk_menc (f : List Host.Cell → List Host.Cell) (s : State) : (s.onBulk f).menc = s.menc := rfl
@[simp] theorem onBulk_acq (f : List Host.Cell → List Host.Cell) (s : State) : (s.onBulk f).acq = s.acq := rfl
@[simp] theorem onBulk_ring (f : List Host.Cell → List Host.Cell) (s : State) : (s.onBulk f).ring = s.ring := rfl
@[simp] theorem onBulk_tim (f : List Host.Cell → List Host.Cell) (s : State) : (s.onBulk f).tim = s.tim := rfl
@[simp] theorem onBulk_dio (f : List Host.Cell → List Host.Cell) (s : State) : (s.onBulk f).dio = s.dio := rfl
@[simp] theorem onBulk_saf (f : List Host.Cell → List Host.Cell) (s : State) : (s.onBulk f).saf = s.saf := rfl
@[simp] theorem onBulk_svc (f : List Host.Cell → List Host.Cell) (s : State) : (s.onBulk f).svc = s.svc := rfl
@[simp] theorem onBulk_jtag (f : List Host.Cell → List Host.Cell) (s : State) : (s.onBulk f).jtag = s.jtag := rfl
@[simp] theorem onSets_pending (f : Tab Nat → Tab Nat) (s : State) : (s.onSets f).pending = s.pending := rfl
@[simp] theorem onSets_fresh (f : Tab Nat → Tab Nat) (s : State) : (s.onSets f).fresh = s.fresh := rfl
@[simp] theorem onSets_clk (f : Tab Nat → Tab Nat) (s : State) : (s.onSets f).clk = s.clk := rfl
@[simp] theorem onSets_regs (f : Tab Nat → Tab Nat) (s : State) : (s.onSets f).regs = s.regs := rfl
@[simp] theorem onSets_bulk (f : Tab Nat → Tab Nat) (s : State) : (s.onSets f).bulk = s.bulk := rfl
@[simp] theorem onSets_sets (f : Tab Nat → Tab Nat) (s : State) : (s.onSets f).sets = f s.sets := rfl
@[simp] theorem onSets_bus (f : Tab Nat → Tab Nat) (s : State) : (s.onSets f).bus = s.bus := rfl
@[simp] theorem onSets_log (f : Tab Nat → Tab Nat) (s : State) : (s.onSets f).log = s.log := rfl
@[simp] theorem onSets_knl (f : Tab Nat → Tab Nat) (s : State) : (s.onSets f).knl = s.knl := rfl
@[simp] theorem onSets_que (f : Tab Nat → Tab Nat) (s : State) : (s.onSets f).que = s.que := rfl
@[simp] theorem onSets_boot (f : Tab Nat → Tab Nat) (s : State) : (s.onSets f).boot = s.boot := rfl
@[simp] theorem onSets_pow (f : Tab Nat → Tab Nat) (s : State) : (s.onSets f).pow = s.pow := rfl
@[simp] theorem onSets_axes (f : Tab Nat → Tab Nat) (s : State) : (s.onSets f).axes = s.axes := rfl
@[simp] theorem onSets_lim (f : Tab Nat → Tab Nat) (s : State) : (s.onSets f).lim = s.lim := rfl
@[simp] theorem onSets_prf (f : Tab Nat → Tab Nat) (s : State) : (s.onSets f).prf = s.prf := rfl
@[simp] theorem onSets_eng (f : Tab Nat → Tab Nat) (s : State) : (s.onSets f).eng = s.eng := rfl
@[simp] theorem onSets_pwm (f : Tab Nat → Tab Nat) (s : State) : (s.onSets f).pwm = s.pwm := rfl
@[simp] theorem onSets_drn (f : Tab Nat → Tab Nat) (s : State) : (s.onSets f).drn = s.drn := rfl
@[simp] theorem onSets_ine (f : Tab Nat → Tab Nat) (s : State) : (s.onSets f).ine = s.ine := rfl
@[simp] theorem onSets_shp (f : Tab Nat → Tab Nat) (s : State) : (s.onSets f).shp = s.shp := rfl
@[simp] theorem onSets_csf (f : Tab Nat → Tab Nat) (s : State) : (s.onSets f).csf = s.csf := rfl
@[simp] theorem onSets_ports (f : Tab Nat → Tab Nat) (s : State) : (s.onSets f).ports = s.ports := rfl
@[simp] theorem onSets_probes (f : Tab Nat → Tab Nat) (s : State) : (s.onSets f).probes = s.probes := rfl
@[simp] theorem onSets_menc (f : Tab Nat → Tab Nat) (s : State) : (s.onSets f).menc = s.menc := rfl
@[simp] theorem onSets_acq (f : Tab Nat → Tab Nat) (s : State) : (s.onSets f).acq = s.acq := rfl
@[simp] theorem onSets_ring (f : Tab Nat → Tab Nat) (s : State) : (s.onSets f).ring = s.ring := rfl
@[simp] theorem onSets_tim (f : Tab Nat → Tab Nat) (s : State) : (s.onSets f).tim = s.tim := rfl
@[simp] theorem onSets_dio (f : Tab Nat → Tab Nat) (s : State) : (s.onSets f).dio = s.dio := rfl
@[simp] theorem onSets_saf (f : Tab Nat → Tab Nat) (s : State) : (s.onSets f).saf = s.saf := rfl
@[simp] theorem onSets_svc (f : Tab Nat → Tab Nat) (s : State) : (s.onSets f).svc = s.svc := rfl
@[simp] theorem onSets_jtag (f : Tab Nat → Tab Nat) (s : State) : (s.onSets f).jtag = s.jtag := rfl
@[simp] theorem onBus_pending (f : Bus → Bus) (s : State) : (s.onBus f).pending = s.pending := rfl
@[simp] theorem onBus_fresh (f : Bus → Bus) (s : State) : (s.onBus f).fresh = s.fresh := rfl
@[simp] theorem onBus_clk (f : Bus → Bus) (s : State) : (s.onBus f).clk = s.clk := rfl
@[simp] theorem onBus_regs (f : Bus → Bus) (s : State) : (s.onBus f).regs = s.regs := rfl
@[simp] theorem onBus_bulk (f : Bus → Bus) (s : State) : (s.onBus f).bulk = s.bulk := rfl
@[simp] theorem onBus_sets (f : Bus → Bus) (s : State) : (s.onBus f).sets = s.sets := rfl
@[simp] theorem onBus_bus (f : Bus → Bus) (s : State) : (s.onBus f).bus = f s.bus := rfl
@[simp] theorem onBus_log (f : Bus → Bus) (s : State) : (s.onBus f).log = s.log := rfl
@[simp] theorem onBus_knl (f : Bus → Bus) (s : State) : (s.onBus f).knl = s.knl := rfl
@[simp] theorem onBus_que (f : Bus → Bus) (s : State) : (s.onBus f).que = s.que := rfl
@[simp] theorem onBus_boot (f : Bus → Bus) (s : State) : (s.onBus f).boot = s.boot := rfl
@[simp] theorem onBus_pow (f : Bus → Bus) (s : State) : (s.onBus f).pow = s.pow := rfl
@[simp] theorem onBus_axes (f : Bus → Bus) (s : State) : (s.onBus f).axes = s.axes := rfl
@[simp] theorem onBus_lim (f : Bus → Bus) (s : State) : (s.onBus f).lim = s.lim := rfl
@[simp] theorem onBus_prf (f : Bus → Bus) (s : State) : (s.onBus f).prf = s.prf := rfl
@[simp] theorem onBus_eng (f : Bus → Bus) (s : State) : (s.onBus f).eng = s.eng := rfl
@[simp] theorem onBus_pwm (f : Bus → Bus) (s : State) : (s.onBus f).pwm = s.pwm := rfl
@[simp] theorem onBus_drn (f : Bus → Bus) (s : State) : (s.onBus f).drn = s.drn := rfl
@[simp] theorem onBus_ine (f : Bus → Bus) (s : State) : (s.onBus f).ine = s.ine := rfl
@[simp] theorem onBus_shp (f : Bus → Bus) (s : State) : (s.onBus f).shp = s.shp := rfl
@[simp] theorem onBus_csf (f : Bus → Bus) (s : State) : (s.onBus f).csf = s.csf := rfl
@[simp] theorem onBus_ports (f : Bus → Bus) (s : State) : (s.onBus f).ports = s.ports := rfl
@[simp] theorem onBus_probes (f : Bus → Bus) (s : State) : (s.onBus f).probes = s.probes := rfl
@[simp] theorem onBus_menc (f : Bus → Bus) (s : State) : (s.onBus f).menc = s.menc := rfl
@[simp] theorem onBus_acq (f : Bus → Bus) (s : State) : (s.onBus f).acq = s.acq := rfl
@[simp] theorem onBus_ring (f : Bus → Bus) (s : State) : (s.onBus f).ring = s.ring := rfl
@[simp] theorem onBus_tim (f : Bus → Bus) (s : State) : (s.onBus f).tim = s.tim := rfl
@[simp] theorem onBus_dio (f : Bus → Bus) (s : State) : (s.onBus f).dio = s.dio := rfl
@[simp] theorem onBus_saf (f : Bus → Bus) (s : State) : (s.onBus f).saf = s.saf := rfl
@[simp] theorem onBus_svc (f : Bus → Bus) (s : State) : (s.onBus f).svc = s.svc := rfl
@[simp] theorem onBus_jtag (f : Bus → Bus) (s : State) : (s.onBus f).jtag = s.jtag := rfl
@[simp] theorem onLog_pending (f : ErrLog → ErrLog) (s : State) : (s.onLog f).pending = s.pending := rfl
@[simp] theorem onLog_fresh (f : ErrLog → ErrLog) (s : State) : (s.onLog f).fresh = s.fresh := rfl
@[simp] theorem onLog_clk (f : ErrLog → ErrLog) (s : State) : (s.onLog f).clk = s.clk := rfl
@[simp] theorem onLog_regs (f : ErrLog → ErrLog) (s : State) : (s.onLog f).regs = s.regs := rfl
@[simp] theorem onLog_bulk (f : ErrLog → ErrLog) (s : State) : (s.onLog f).bulk = s.bulk := rfl
@[simp] theorem onLog_sets (f : ErrLog → ErrLog) (s : State) : (s.onLog f).sets = s.sets := rfl
@[simp] theorem onLog_bus (f : ErrLog → ErrLog) (s : State) : (s.onLog f).bus = s.bus := rfl
@[simp] theorem onLog_log (f : ErrLog → ErrLog) (s : State) : (s.onLog f).log = f s.log := rfl
@[simp] theorem onLog_knl (f : ErrLog → ErrLog) (s : State) : (s.onLog f).knl = s.knl := rfl
@[simp] theorem onLog_que (f : ErrLog → ErrLog) (s : State) : (s.onLog f).que = s.que := rfl
@[simp] theorem onLog_boot (f : ErrLog → ErrLog) (s : State) : (s.onLog f).boot = s.boot := rfl
@[simp] theorem onLog_pow (f : ErrLog → ErrLog) (s : State) : (s.onLog f).pow = s.pow := rfl
@[simp] theorem onLog_axes (f : ErrLog → ErrLog) (s : State) : (s.onLog f).axes = s.axes := rfl
@[simp] theorem onLog_lim (f : ErrLog → ErrLog) (s : State) : (s.onLog f).lim = s.lim := rfl
@[simp] theorem onLog_prf (f : ErrLog → ErrLog) (s : State) : (s.onLog f).prf = s.prf := rfl
@[simp] theorem onLog_eng (f : ErrLog → ErrLog) (s : State) : (s.onLog f).eng = s.eng := rfl
@[simp] theorem onLog_pwm (f : ErrLog → ErrLog) (s : State) : (s.onLog f).pwm = s.pwm := rfl
@[simp] theorem onLog_drn (f : ErrLog → ErrLog) (s : State) : (s.onLog f).drn = s.drn := rfl
@[simp] theorem onLog_ine (f : ErrLog → ErrLog) (s : State) : (s.onLog f).ine = s.ine := rfl
@[simp] theorem onLog_shp (f : ErrLog → ErrLog) (s : State) : (s.onLog f).shp = s.shp := rfl
@[simp] theorem onLog_csf (f : ErrLog → ErrLog) (s : State) : (s.onLog f).csf = s.csf := rfl
@[simp] theorem onLog_ports (f : ErrLog → ErrLog) (s : State) : (s.onLog f).ports = s.ports := rfl
@[simp] theorem onLog_probes (f : ErrLog → ErrLog) (s : State) : (s.onLog f).probes = s.probes := rfl
@[simp] theorem onLog_menc (f : ErrLog → ErrLog) (s : State) : (s.onLog f).menc = s.menc := rfl
@[simp] theorem onLog_acq (f : ErrLog → ErrLog) (s : State) : (s.onLog f).acq = s.acq := rfl
@[simp] theorem onLog_ring (f : ErrLog → ErrLog) (s : State) : (s.onLog f).ring = s.ring := rfl
@[simp] theorem onLog_tim (f : ErrLog → ErrLog) (s : State) : (s.onLog f).tim = s.tim := rfl
@[simp] theorem onLog_dio (f : ErrLog → ErrLog) (s : State) : (s.onLog f).dio = s.dio := rfl
@[simp] theorem onLog_saf (f : ErrLog → ErrLog) (s : State) : (s.onLog f).saf = s.saf := rfl
@[simp] theorem onLog_svc (f : ErrLog → ErrLog) (s : State) : (s.onLog f).svc = s.svc := rfl
@[simp] theorem onLog_jtag (f : ErrLog → ErrLog) (s : State) : (s.onLog f).jtag = s.jtag := rfl
@[simp] theorem onKnl_pending (f : Knl → Knl) (s : State) : (s.onKnl f).pending = s.pending := rfl
@[simp] theorem onKnl_fresh (f : Knl → Knl) (s : State) : (s.onKnl f).fresh = s.fresh := rfl
@[simp] theorem onKnl_clk (f : Knl → Knl) (s : State) : (s.onKnl f).clk = s.clk := rfl
@[simp] theorem onKnl_regs (f : Knl → Knl) (s : State) : (s.onKnl f).regs = s.regs := rfl
@[simp] theorem onKnl_bulk (f : Knl → Knl) (s : State) : (s.onKnl f).bulk = s.bulk := rfl
@[simp] theorem onKnl_sets (f : Knl → Knl) (s : State) : (s.onKnl f).sets = s.sets := rfl
@[simp] theorem onKnl_bus (f : Knl → Knl) (s : State) : (s.onKnl f).bus = s.bus := rfl
@[simp] theorem onKnl_log (f : Knl → Knl) (s : State) : (s.onKnl f).log = s.log := rfl
@[simp] theorem onKnl_knl (f : Knl → Knl) (s : State) : (s.onKnl f).knl = f s.knl := rfl
@[simp] theorem onKnl_que (f : Knl → Knl) (s : State) : (s.onKnl f).que = s.que := rfl
@[simp] theorem onKnl_boot (f : Knl → Knl) (s : State) : (s.onKnl f).boot = s.boot := rfl
@[simp] theorem onKnl_pow (f : Knl → Knl) (s : State) : (s.onKnl f).pow = s.pow := rfl
@[simp] theorem onKnl_axes (f : Knl → Knl) (s : State) : (s.onKnl f).axes = s.axes := rfl
@[simp] theorem onKnl_lim (f : Knl → Knl) (s : State) : (s.onKnl f).lim = s.lim := rfl
@[simp] theorem onKnl_prf (f : Knl → Knl) (s : State) : (s.onKnl f).prf = s.prf := rfl
@[simp] theorem onKnl_eng (f : Knl → Knl) (s : State) : (s.onKnl f).eng = s.eng := rfl
@[simp] theorem onKnl_pwm (f : Knl → Knl) (s : State) : (s.onKnl f).pwm = s.pwm := rfl
@[simp] theorem onKnl_drn (f : Knl → Knl) (s : State) : (s.onKnl f).drn = s.drn := rfl
@[simp] theorem onKnl_ine (f : Knl → Knl) (s : State) : (s.onKnl f).ine = s.ine := rfl
@[simp] theorem onKnl_shp (f : Knl → Knl) (s : State) : (s.onKnl f).shp = s.shp := rfl
@[simp] theorem onKnl_csf (f : Knl → Knl) (s : State) : (s.onKnl f).csf = s.csf := rfl
@[simp] theorem onKnl_ports (f : Knl → Knl) (s : State) : (s.onKnl f).ports = s.ports := rfl
@[simp] theorem onKnl_probes (f : Knl → Knl) (s : State) : (s.onKnl f).probes = s.probes := rfl
@[simp] theorem onKnl_menc (f : Knl → Knl) (s : State) : (s.onKnl f).menc = s.menc := rfl
@[simp] theorem onKnl_acq (f : Knl → Knl) (s : State) : (s.onKnl f).acq = s.acq := rfl
@[simp] theorem onKnl_ring (f : Knl → Knl) (s : State) : (s.onKnl f).ring = s.ring := rfl
@[simp] theorem onKnl_tim (f : Knl → Knl) (s : State) : (s.onKnl f).tim = s.tim := rfl
@[simp] theorem onKnl_dio (f : Knl → Knl) (s : State) : (s.onKnl f).dio = s.dio := rfl
@[simp] theorem onKnl_saf (f : Knl → Knl) (s : State) : (s.onKnl f).saf = s.saf := rfl
@[simp] theorem onKnl_svc (f : Knl → Knl) (s : State) : (s.onKnl f).svc = s.svc := rfl
@[simp] theorem onKnl_jtag (f : Knl → Knl) (s : State) : (s.onKnl f).jtag = s.jtag := rfl
@[simp] theorem onQue_pending (f : Que → Que) (s : State) : (s.onQue f).pending = s.pending := rfl
@[simp] theorem onQue_fresh (f : Que → Que) (s : State) : (s.onQue f).fresh = s.fresh := rfl
@[simp] theorem onQue_clk (f : Que → Que) (s : State) : (s.onQue f).clk = s.clk := rfl
@[simp] theorem onQue_regs (f : Que → Que) (s : State) : (s.onQue f).regs = s.regs := rfl
@[simp] theorem onQue_bulk (f : Que → Que) (s : State) : (s.onQue f).bulk = s.bulk := rfl
@[simp] theorem onQue_sets (f : Que → Que) (s : State) : (s.onQue f).sets = s.sets := rfl
@[simp] theorem onQue_bus (f : Que → Que) (s : State) : (s.onQue f).bus = s.bus := rfl
@[simp] theorem onQue_log (f : Que → Que) (s : State) : (s.onQue f).log = s.log := rfl
@[simp] theorem onQue_knl (f : Que → Que) (s : State) : (s.onQue f).knl = s.knl := rfl
@[simp] theorem onQue_que (f : Que → Que) (s : State) : (s.onQue f).que = f s.que := rfl
@[simp] theorem onQue_boot (f : Que → Que) (s : State) : (s.onQue f).boot = s.boot := rfl
@[simp] theorem onQue_pow (f : Que → Que) (s : State) : (s.onQue f).pow = s.pow := rfl
@[simp] theorem onQue_axes (f : Que → Que) (s : State) : (s.onQue f).axes = s.axes := rfl
@[simp] theorem onQue_lim (f : Que → Que) (s : State) : (s.onQue f).lim = s.lim := rfl
@[simp] theorem onQue_prf (f : Que → Que) (s : State) : (s.onQue f).prf = s.prf := rfl
@[simp] theorem onQue_eng (f : Que → Que) (s : State) : (s.onQue f).eng = s.eng := rfl
@[simp] theorem onQue_pwm (f : Que → Que) (s : State) : (s.onQue f).pwm = s.pwm := rfl
@[simp] theorem onQue_drn (f : Que → Que) (s : State) : (s.onQue f).drn = s.drn := rfl
@[simp] theorem onQue_ine (f : Que → Que) (s : State) : (s.onQue f).ine = s.ine := rfl
@[simp] theorem onQue_shp (f : Que → Que) (s : State) : (s.onQue f).shp = s.shp := rfl
@[simp] theorem onQue_csf (f : Que → Que) (s : State) : (s.onQue f).csf = s.csf := rfl
@[simp] theorem onQue_ports (f : Que → Que) (s : State) : (s.onQue f).ports = s.ports := rfl
@[simp] theorem onQue_probes (f : Que → Que) (s : State) : (s.onQue f).probes = s.probes := rfl
@[simp] theorem onQue_menc (f : Que → Que) (s : State) : (s.onQue f).menc = s.menc := rfl
@[simp] theorem onQue_acq (f : Que → Que) (s : State) : (s.onQue f).acq = s.acq := rfl
@[simp] theorem onQue_ring (f : Que → Que) (s : State) : (s.onQue f).ring = s.ring := rfl
@[simp] theorem onQue_tim (f : Que → Que) (s : State) : (s.onQue f).tim = s.tim := rfl
@[simp] theorem onQue_dio (f : Que → Que) (s : State) : (s.onQue f).dio = s.dio := rfl
@[simp] theorem onQue_saf (f : Que → Que) (s : State) : (s.onQue f).saf = s.saf := rfl
@[simp] theorem onQue_svc (f : Que → Que) (s : State) : (s.onQue f).svc = s.svc := rfl
@[simp] theorem onQue_jtag (f : Que → Que) (s : State) : (s.onQue f).jtag = s.jtag := rfl
@[simp] theorem onBoot_pending (f : Boot → Boot) (s : State) : (s.onBoot f).pending = s.pending := rfl
@[simp] theorem onBoot_fresh (f : Boot → Boot) (s : State) : (s.onBoot f).fresh = s.fresh := rfl
@[simp] theorem onBoot_clk (f : Boot → Boot) (s : State) : (s.onBoot f).clk = s.clk := rfl
@[simp] theorem onBoot_regs (f : Boot → Boot) (s : State) : (s.onBoot f).regs = s.regs := rfl
@[simp] theorem onBoot_bulk (f : Boot → Boot) (s : State) : (s.onBoot f).bulk = s.bulk := rfl
@[simp] theorem onBoot_sets (f : Boot → Boot) (s : State) : (s.onBoot f).sets = s.sets := rfl
@[simp] theorem onBoot_bus (f : Boot → Boot) (s : State) : (s.onBoot f).bus = s.bus := rfl
@[simp] theorem onBoot_log (f : Boot → Boot) (s : State) : (s.onBoot f).log = s.log := rfl
@[simp] theorem onBoot_knl (f : Boot → Boot) (s : State) : (s.onBoot f).knl = s.knl := rfl
@[simp] theorem onBoot_que (f : Boot → Boot) (s : State) : (s.onBoot f).que = s.que := rfl
@[simp] theorem onBoot_boot (f : Boot → Boot) (s : State) : (s.onBoot f).boot = f s.boot := rfl
@[simp] theorem onBoot_pow (f : Boot → Boot) (s : State) : (s.onBoot f).pow = s.pow := rfl
@[simp] theorem onBoot_axes (f : Boot → Boot) (s : State) : (s.onBoot f).axes = s.axes := rfl
@[simp] theorem onBoot_lim (f : Boot → Boot) (s : State) : (s.onBoot f).lim = s.lim := rfl
@[simp] theorem onBoot_prf (f : Boot → Boot) (s : State) : (s.onBoot f).prf = s.prf := rfl
@[simp] theorem onBoot_eng (f : Boot → Boot) (s : State) : (s.onBoot f).eng = s.eng := rfl
@[simp] theorem onBoot_pwm (f : Boot → Boot) (s : State) : (s.onBoot f).pwm = s.pwm := rfl
@[simp] theorem onBoot_drn (f : Boot → Boot) (s : State) : (s.onBoot f).drn = s.drn := rfl
@[simp] theorem onBoot_ine (f : Boot → Boot) (s : State) : (s.onBoot f).ine = s.ine := rfl
@[simp] theorem onBoot_shp (f : Boot → Boot) (s : State) : (s.onBoot f).shp = s.shp := rfl
@[simp] theorem onBoot_csf (f : Boot → Boot) (s : State) : (s.onBoot f).csf = s.csf := rfl
@[simp] theorem onBoot_ports (f : Boot → Boot) (s : State) : (s.onBoot f).ports = s.ports := rfl
@[simp] theorem onBoot_probes (f : Boot → Boot) (s : State) : (s.onBoot f).probes = s.probes := rfl
@[simp] theorem onBoot_menc (f : Boot → Boot) (s : State) : (s.onBoot f).menc = s.menc := rfl
@[simp] theorem onBoot_acq (f : Boot → Boot) (s : State) : (s.onBoot f).acq = s.acq := rfl
@[simp] theorem onBoot_ring (f : Boot → Boot) (s : State) : (s.onBoot f).ring = s.ring := rfl
@[simp] theorem onBoot_tim (f : Boot → Boot) (s : State) : (s.onBoot f).tim = s.tim := rfl
@[simp] theorem onBoot_dio (f : Boot → Boot) (s : State) : (s.onBoot f).dio = s.dio := rfl
@[simp] theorem onBoot_saf (f : Boot → Boot) (s : State) : (s.onBoot f).saf = s.saf := rfl
@[simp] theorem onBoot_svc (f : Boot → Boot) (s : State) : (s.onBoot f).svc = s.svc := rfl
@[simp] theorem onBoot_jtag (f : Boot → Boot) (s : State) : (s.onBoot f).jtag = s.jtag := rfl
@[simp] theorem onPow_pending (f : Power → Power) (s : State) : (s.onPow f).pending = s.pending := rfl
@[simp] theorem onPow_fresh (f : Power → Power) (s : State) : (s.onPow f).fresh = s.fresh := rfl
@[simp] theorem onPow_clk (f : Power → Power) (s : State) : (s.onPow f).clk = s.clk := rfl
@[simp] theorem onPow_regs (f : Power → Power) (s : State) : (s.onPow f).regs = s.regs := rfl
@[simp] theorem onPow_bulk (f : Power → Power) (s : State) : (s.onPow f).bulk = s.bulk := rfl
@[simp] theorem onPow_sets (f : Power → Power) (s : State) : (s.onPow f).sets = s.sets := rfl
@[simp] theorem onPow_bus (f : Power → Power) (s : State) : (s.onPow f).bus = s.bus := rfl
@[simp] theorem onPow_log (f : Power → Power) (s : State) : (s.onPow f).log = s.log := rfl
@[simp] theorem onPow_knl (f : Power → Power) (s : State) : (s.onPow f).knl = s.knl := rfl
@[simp] theorem onPow_que (f : Power → Power) (s : State) : (s.onPow f).que = s.que := rfl
@[simp] theorem onPow_boot (f : Power → Power) (s : State) : (s.onPow f).boot = s.boot := rfl
@[simp] theorem onPow_pow (f : Power → Power) (s : State) : (s.onPow f).pow = f s.pow := rfl
@[simp] theorem onPow_axes (f : Power → Power) (s : State) : (s.onPow f).axes = s.axes := rfl
@[simp] theorem onPow_lim (f : Power → Power) (s : State) : (s.onPow f).lim = s.lim := rfl
@[simp] theorem onPow_prf (f : Power → Power) (s : State) : (s.onPow f).prf = s.prf := rfl
@[simp] theorem onPow_eng (f : Power → Power) (s : State) : (s.onPow f).eng = s.eng := rfl
@[simp] theorem onPow_pwm (f : Power → Power) (s : State) : (s.onPow f).pwm = s.pwm := rfl
@[simp] theorem onPow_drn (f : Power → Power) (s : State) : (s.onPow f).drn = s.drn := rfl
@[simp] theorem onPow_ine (f : Power → Power) (s : State) : (s.onPow f).ine = s.ine := rfl
@[simp] theorem onPow_shp (f : Power → Power) (s : State) : (s.onPow f).shp = s.shp := rfl
@[simp] theorem onPow_csf (f : Power → Power) (s : State) : (s.onPow f).csf = s.csf := rfl
@[simp] theorem onPow_ports (f : Power → Power) (s : State) : (s.onPow f).ports = s.ports := rfl
@[simp] theorem onPow_probes (f : Power → Power) (s : State) : (s.onPow f).probes = s.probes := rfl
@[simp] theorem onPow_menc (f : Power → Power) (s : State) : (s.onPow f).menc = s.menc := rfl
@[simp] theorem onPow_acq (f : Power → Power) (s : State) : (s.onPow f).acq = s.acq := rfl
@[simp] theorem onPow_ring (f : Power → Power) (s : State) : (s.onPow f).ring = s.ring := rfl
@[simp] theorem onPow_tim (f : Power → Power) (s : State) : (s.onPow f).tim = s.tim := rfl
@[simp] theorem onPow_dio (f : Power → Power) (s : State) : (s.onPow f).dio = s.dio := rfl
@[simp] theorem onPow_saf (f : Power → Power) (s : State) : (s.onPow f).saf = s.saf := rfl
@[simp] theorem onPow_svc (f : Power → Power) (s : State) : (s.onPow f).svc = s.svc := rfl
@[simp] theorem onPow_jtag (f : Power → Power) (s : State) : (s.onPow f).jtag = s.jtag := rfl
@[simp] theorem onAxes_pending (f : Tab Axis → Tab Axis) (s : State) : (s.onAxes f).pending = s.pending := rfl
@[simp] theorem onAxes_fresh (f : Tab Axis → Tab Axis) (s : State) : (s.onAxes f).fresh = s.fresh := rfl
@[simp] theorem onAxes_clk (f : Tab Axis → Tab Axis) (s : State) : (s.onAxes f).clk = s.clk := rfl
@[simp] theorem onAxes_regs (f : Tab Axis → Tab Axis) (s : State) : (s.onAxes f).regs = s.regs := rfl
@[simp] theorem onAxes_bulk (f : Tab Axis → Tab Axis) (s : State) : (s.onAxes f).bulk = s.bulk := rfl
@[simp] theorem onAxes_sets (f : Tab Axis → Tab Axis) (s : State) : (s.onAxes f).sets = s.sets := rfl
@[simp] theorem onAxes_bus (f : Tab Axis → Tab Axis) (s : State) : (s.onAxes f).bus = s.bus := rfl
@[simp] theorem onAxes_log (f : Tab Axis → Tab Axis) (s : State) : (s.onAxes f).log = s.log := rfl
@[simp] theorem onAxes_knl (f : Tab Axis → Tab Axis) (s : State) : (s.onAxes f).knl = s.knl := rfl
@[simp] theorem onAxes_que (f : Tab Axis → Tab Axis) (s : State) : (s.onAxes f).que = s.que := rfl
@[simp] theorem onAxes_boot (f : Tab Axis → Tab Axis) (s : State) : (s.onAxes f).boot = s.boot := rfl
@[simp] theorem onAxes_pow (f : Tab Axis → Tab Axis) (s : State) : (s.onAxes f).pow = s.pow := rfl
@[simp] theorem onAxes_axes (f : Tab Axis → Tab Axis) (s : State) : (s.onAxes f).axes = f s.axes := rfl
@[simp] theorem onAxes_lim (f : Tab Axis → Tab Axis) (s : State) : (s.onAxes f).lim = s.lim := rfl
@[simp] theorem onAxes_prf (f : Tab Axis → Tab Axis) (s : State) : (s.onAxes f).prf = s.prf := rfl
@[simp] theorem onAxes_eng (f : Tab Axis → Tab Axis) (s : State) : (s.onAxes f).eng = s.eng := rfl
@[simp] theorem onAxes_pwm (f : Tab Axis → Tab Axis) (s : State) : (s.onAxes f).pwm = s.pwm := rfl
@[simp] theorem onAxes_drn (f : Tab Axis → Tab Axis) (s : State) : (s.onAxes f).drn = s.drn := rfl
@[simp] theorem onAxes_ine (f : Tab Axis → Tab Axis) (s : State) : (s.onAxes f).ine = s.ine := rfl
@[simp] theorem onAxes_shp (f : Tab Axis → Tab Axis) (s : State) : (s.onAxes f).shp = s.shp := rfl
@[simp] theorem onAxes_csf (f : Tab Axis → Tab Axis) (s : State) : (s.onAxes f).csf = s.csf := rfl
@[simp] theorem onAxes_ports (f : Tab Axis → Tab Axis) (s : State) : (s.onAxes f).ports = s.ports := rfl
@[simp] theorem onAxes_probes (f : Tab Axis → Tab Axis) (s : State) : (s.onAxes f).probes = s.probes := rfl
@[simp] theorem onAxes_menc (f : Tab Axis → Tab Axis) (s : State) : (s.onAxes f).menc = s.menc := rfl
@[simp] theorem onAxes_acq (f : Tab Axis → Tab Axis) (s : State) : (s.onAxes f).acq = s.acq := rfl
@[simp] theorem onAxes_ring (f : Tab Axis → Tab Axis) (s : State) : (s.onAxes f).ring = s.ring := rfl
@[simp] theorem onAxes_tim (f : Tab Axis → Tab Axis) (s : State) : (s.onAxes f).tim = s.tim := rfl
@[simp] theorem onAxes_dio (f : Tab Axis → Tab Axis) (s : State) : (s.onAxes f).dio = s.dio := rfl
@[simp] theorem onAxes_saf (f : Tab Axis → Tab Axis) (s : State) : (s.onAxes f).saf = s.saf := rfl
@[simp] theorem onAxes_svc (f : Tab Axis → Tab Axis) (s : State) : (s.onAxes f).svc = s.svc := rfl
@[simp] theorem onAxes_jtag (f : Tab Axis → Tab Axis) (s : State) : (s.onAxes f).jtag = s.jtag := rfl
@[simp] theorem onLim_pending (f : Limits → Limits) (s : State) : (s.onLim f).pending = s.pending := rfl
@[simp] theorem onLim_fresh (f : Limits → Limits) (s : State) : (s.onLim f).fresh = s.fresh := rfl
@[simp] theorem onLim_clk (f : Limits → Limits) (s : State) : (s.onLim f).clk = s.clk := rfl
@[simp] theorem onLim_regs (f : Limits → Limits) (s : State) : (s.onLim f).regs = s.regs := rfl
@[simp] theorem onLim_bulk (f : Limits → Limits) (s : State) : (s.onLim f).bulk = s.bulk := rfl
@[simp] theorem onLim_sets (f : Limits → Limits) (s : State) : (s.onLim f).sets = s.sets := rfl
@[simp] theorem onLim_bus (f : Limits → Limits) (s : State) : (s.onLim f).bus = s.bus := rfl
@[simp] theorem onLim_log (f : Limits → Limits) (s : State) : (s.onLim f).log = s.log := rfl
@[simp] theorem onLim_knl (f : Limits → Limits) (s : State) : (s.onLim f).knl = s.knl := rfl
@[simp] theorem onLim_que (f : Limits → Limits) (s : State) : (s.onLim f).que = s.que := rfl
@[simp] theorem onLim_boot (f : Limits → Limits) (s : State) : (s.onLim f).boot = s.boot := rfl
@[simp] theorem onLim_pow (f : Limits → Limits) (s : State) : (s.onLim f).pow = s.pow := rfl
@[simp] theorem onLim_axes (f : Limits → Limits) (s : State) : (s.onLim f).axes = s.axes := rfl
@[simp] theorem onLim_lim (f : Limits → Limits) (s : State) : (s.onLim f).lim = f s.lim := rfl
@[simp] theorem onLim_prf (f : Limits → Limits) (s : State) : (s.onLim f).prf = s.prf := rfl
@[simp] theorem onLim_eng (f : Limits → Limits) (s : State) : (s.onLim f).eng = s.eng := rfl
@[simp] theorem onLim_pwm (f : Limits → Limits) (s : State) : (s.onLim f).pwm = s.pwm := rfl
@[simp] theorem onLim_drn (f : Limits → Limits) (s : State) : (s.onLim f).drn = s.drn := rfl
@[simp] theorem onLim_ine (f : Limits → Limits) (s : State) : (s.onLim f).ine = s.ine := rfl
@[simp] theorem onLim_shp (f : Limits → Limits) (s : State) : (s.onLim f).shp = s.shp := rfl
@[simp] theorem onLim_csf (f : Limits → Limits) (s : State) : (s.onLim f).csf = s.csf := rfl
@[simp] theorem onLim_ports (f : Limits → Limits) (s : State) : (s.onLim f).ports = s.ports := rfl
@[simp] theorem onLim_probes (f : Limits → Limits) (s : State) : (s.onLim f).probes = s.probes := rfl
@[simp] theorem onLim_menc (f : Limits → Limits) (s : State) : (s.onLim f).menc = s.menc := rfl
@[simp] theorem onLim_acq (f : Limits → Limits) (s : State) : (s.onLim f).acq = s.acq := rfl
@[simp] theorem onLim_ring (f : Limits → Limits) (s : State) : (s.onLim f).ring = s.ring := rfl
@[simp] theorem onLim_tim (f : Limits → Limits) (s : State) : (s.onLim f).tim = s.tim := rfl
@[simp] theorem onLim_dio (f : Limits → Limits) (s : State) : (s.onLim f).dio = s.dio := rfl
@[simp] theorem onLim_saf (f : Limits → Limits) (s : State) : (s.onLim f).saf = s.saf := rfl
@[simp] theorem onLim_svc (f : Limits → Limits) (s : State) : (s.onLim f).svc = s.svc := rfl
@[simp] theorem onLim_jtag (f : Limits → Limits) (s : State) : (s.onLim f).jtag = s.jtag := rfl
@[simp] theorem onPrf_pending (f : Profile → Profile) (s : State) : (s.onPrf f).pending = s.pending := rfl
@[simp] theorem onPrf_fresh (f : Profile → Profile) (s : State) : (s.onPrf f).fresh = s.fresh := rfl
@[simp] theorem onPrf_clk (f : Profile → Profile) (s : State) : (s.onPrf f).clk = s.clk := rfl
@[simp] theorem onPrf_regs (f : Profile → Profile) (s : State) : (s.onPrf f).regs = s.regs := rfl
@[simp] theorem onPrf_bulk (f : Profile → Profile) (s : State) : (s.onPrf f).bulk = s.bulk := rfl
@[simp] theorem onPrf_sets (f : Profile → Profile) (s : State) : (s.onPrf f).sets = s.sets := rfl
@[simp] theorem onPrf_bus (f : Profile → Profile) (s : State) : (s.onPrf f).bus = s.bus := rfl
@[simp] theorem onPrf_log (f : Profile → Profile) (s : State) : (s.onPrf f).log = s.log := rfl
@[simp] theorem onPrf_knl (f : Profile → Profile) (s : State) : (s.onPrf f).knl = s.knl := rfl
@[simp] theorem onPrf_que (f : Profile → Profile) (s : State) : (s.onPrf f).que = s.que := rfl
@[simp] theorem onPrf_boot (f : Profile → Profile) (s : State) : (s.onPrf f).boot = s.boot := rfl
@[simp] theorem onPrf_pow (f : Profile → Profile) (s : State) : (s.onPrf f).pow = s.pow := rfl
@[simp] theorem onPrf_axes (f : Profile → Profile) (s : State) : (s.onPrf f).axes = s.axes := rfl
@[simp] theorem onPrf_lim (f : Profile → Profile) (s : State) : (s.onPrf f).lim = s.lim := rfl
@[simp] theorem onPrf_prf (f : Profile → Profile) (s : State) : (s.onPrf f).prf = f s.prf := rfl
@[simp] theorem onPrf_eng (f : Profile → Profile) (s : State) : (s.onPrf f).eng = s.eng := rfl
@[simp] theorem onPrf_pwm (f : Profile → Profile) (s : State) : (s.onPrf f).pwm = s.pwm := rfl
@[simp] theorem onPrf_drn (f : Profile → Profile) (s : State) : (s.onPrf f).drn = s.drn := rfl
@[simp] theorem onPrf_ine (f : Profile → Profile) (s : State) : (s.onPrf f).ine = s.ine := rfl
@[simp] theorem onPrf_shp (f : Profile → Profile) (s : State) : (s.onPrf f).shp = s.shp := rfl
@[simp] theorem onPrf_csf (f : Profile → Profile) (s : State) : (s.onPrf f).csf = s.csf := rfl
@[simp] theorem onPrf_ports (f : Profile → Profile) (s : State) : (s.onPrf f).ports = s.ports := rfl
@[simp] theorem onPrf_probes (f : Profile → Profile) (s : State) : (s.onPrf f).probes = s.probes := rfl
@[simp] theorem onPrf_menc (f : Profile → Profile) (s : State) : (s.onPrf f).menc = s.menc := rfl
@[simp] theorem onPrf_acq (f : Profile → Profile) (s : State) : (s.onPrf f).acq = s.acq := rfl
@[simp] theorem onPrf_ring (f : Profile → Profile) (s : State) : (s.onPrf f).ring = s.ring := rfl
@[simp] theorem onPrf_tim (f : Profile → Profile) (s : State) : (s.onPrf f).tim = s.tim := rfl
@[simp] theorem onPrf_dio (f : Profile → Profile) (s : State) : (s.onPrf f).dio = s.dio := rfl
@[simp] theorem onPrf_saf (f : Profile → Profile) (s : State) : (s.onPrf f).saf = s.saf := rfl
@[simp] theorem onPrf_svc (f : Profile → Profile) (s : State) : (s.onPrf f).svc = s.svc := rfl
@[simp] theorem onPrf_jtag (f : Profile → Profile) (s : State) : (s.onPrf f).jtag = s.jtag := rfl
@[simp] theorem onEng_pending (f : Engines → Engines) (s : State) : (s.onEng f).pending = s.pending := rfl
@[simp] theorem onEng_fresh (f : Engines → Engines) (s : State) : (s.onEng f).fresh = s.fresh := rfl
@[simp] theorem onEng_clk (f : Engines → Engines) (s : State) : (s.onEng f).clk = s.clk := rfl
@[simp] theorem onEng_regs (f : Engines → Engines) (s : State) : (s.onEng f).regs = s.regs := rfl
@[simp] theorem onEng_bulk (f : Engines → Engines) (s : State) : (s.onEng f).bulk = s.bulk := rfl
@[simp] theorem onEng_sets (f : Engines → Engines) (s : State) : (s.onEng f).sets = s.sets := rfl
@[simp] theorem onEng_bus (f : Engines → Engines) (s : State) : (s.onEng f).bus = s.bus := rfl
@[simp] theorem onEng_log (f : Engines → Engines) (s : State) : (s.onEng f).log = s.log := rfl
@[simp] theorem onEng_knl (f : Engines → Engines) (s : State) : (s.onEng f).knl = s.knl := rfl
@[simp] theorem onEng_que (f : Engines → Engines) (s : State) : (s.onEng f).que = s.que := rfl
@[simp] theorem onEng_boot (f : Engines → Engines) (s : State) : (s.onEng f).boot = s.boot := rfl
@[simp] theorem onEng_pow (f : Engines → Engines) (s : State) : (s.onEng f).pow = s.pow := rfl
@[simp] theorem onEng_axes (f : Engines → Engines) (s : State) : (s.onEng f).axes = s.axes := rfl
@[simp] theorem onEng_lim (f : Engines → Engines) (s : State) : (s.onEng f).lim = s.lim := rfl
@[simp] theorem onEng_prf (f : Engines → Engines) (s : State) : (s.onEng f).prf = s.prf := rfl
@[simp] theorem onEng_eng (f : Engines → Engines) (s : State) : (s.onEng f).eng = f s.eng := rfl
@[simp] theorem onEng_pwm (f : Engines → Engines) (s : State) : (s.onEng f).pwm = s.pwm := rfl
@[simp] theorem onEng_drn (f : Engines → Engines) (s : State) : (s.onEng f).drn = s.drn := rfl
@[simp] theorem onEng_ine (f : Engines → Engines) (s : State) : (s.onEng f).ine = s.ine := rfl
@[simp] theorem onEng_shp (f : Engines → Engines) (s : State) : (s.onEng f).shp = s.shp := rfl
@[simp] theorem onEng_csf (f : Engines → Engines) (s : State) : (s.onEng f).csf = s.csf := rfl
@[simp] theorem onEng_ports (f : Engines → Engines) (s : State) : (s.onEng f).ports = s.ports := rfl
@[simp] theorem onEng_probes (f : Engines → Engines) (s : State) : (s.onEng f).probes = s.probes := rfl
@[simp] theorem onEng_menc (f : Engines → Engines) (s : State) : (s.onEng f).menc = s.menc := rfl
@[simp] theorem onEng_acq (f : Engines → Engines) (s : State) : (s.onEng f).acq = s.acq := rfl
@[simp] theorem onEng_ring (f : Engines → Engines) (s : State) : (s.onEng f).ring = s.ring := rfl
@[simp] theorem onEng_tim (f : Engines → Engines) (s : State) : (s.onEng f).tim = s.tim := rfl
@[simp] theorem onEng_dio (f : Engines → Engines) (s : State) : (s.onEng f).dio = s.dio := rfl
@[simp] theorem onEng_saf (f : Engines → Engines) (s : State) : (s.onEng f).saf = s.saf := rfl
@[simp] theorem onEng_svc (f : Engines → Engines) (s : State) : (s.onEng f).svc = s.svc := rfl
@[simp] theorem onEng_jtag (f : Engines → Engines) (s : State) : (s.onEng f).jtag = s.jtag := rfl
@[simp] theorem onPwm_pending (f : Pwm → Pwm) (s : State) : (s.onPwm f).pending = s.pending := rfl
@[simp] theorem onPwm_fresh (f : Pwm → Pwm) (s : State) : (s.onPwm f).fresh = s.fresh := rfl
@[simp] theorem onPwm_clk (f : Pwm → Pwm) (s : State) : (s.onPwm f).clk = s.clk := rfl
@[simp] theorem onPwm_regs (f : Pwm → Pwm) (s : State) : (s.onPwm f).regs = s.regs := rfl
@[simp] theorem onPwm_bulk (f : Pwm → Pwm) (s : State) : (s.onPwm f).bulk = s.bulk := rfl
@[simp] theorem onPwm_sets (f : Pwm → Pwm) (s : State) : (s.onPwm f).sets = s.sets := rfl
@[simp] theorem onPwm_bus (f : Pwm → Pwm) (s : State) : (s.onPwm f).bus = s.bus := rfl
@[simp] theorem onPwm_log (f : Pwm → Pwm) (s : State) : (s.onPwm f).log = s.log := rfl
@[simp] theorem onPwm_knl (f : Pwm → Pwm) (s : State) : (s.onPwm f).knl = s.knl := rfl
@[simp] theorem onPwm_que (f : Pwm → Pwm) (s : State) : (s.onPwm f).que = s.que := rfl
@[simp] theorem onPwm_boot (f : Pwm → Pwm) (s : State) : (s.onPwm f).boot = s.boot := rfl
@[simp] theorem onPwm_pow (f : Pwm → Pwm) (s : State) : (s.onPwm f).pow = s.pow := rfl
@[simp] theorem onPwm_axes (f : Pwm → Pwm) (s : State) : (s.onPwm f).axes = s.axes := rfl
@[simp] theorem onPwm_lim (f : Pwm → Pwm) (s : State) : (s.onPwm f).lim = s.lim := rfl
@[simp] theorem onPwm_prf (f : Pwm → Pwm) (s : State) : (s.onPwm f).prf = s.prf := rfl
@[simp] theorem onPwm_eng (f : Pwm → Pwm) (s : State) : (s.onPwm f).eng = s.eng := rfl
@[simp] theorem onPwm_pwm (f : Pwm → Pwm) (s : State) : (s.onPwm f).pwm = f s.pwm := rfl
@[simp] theorem onPwm_drn (f : Pwm → Pwm) (s : State) : (s.onPwm f).drn = s.drn := rfl
@[simp] theorem onPwm_ine (f : Pwm → Pwm) (s : State) : (s.onPwm f).ine = s.ine := rfl
@[simp] theorem onPwm_shp (f : Pwm → Pwm) (s : State) : (s.onPwm f).shp = s.shp := rfl
@[simp] theorem onPwm_csf (f : Pwm → Pwm) (s : State) : (s.onPwm f).csf = s.csf := rfl
@[simp] theorem onPwm_ports (f : Pwm → Pwm) (s : State) : (s.onPwm f).ports = s.ports := rfl
@[simp] theorem onPwm_probes (f : Pwm → Pwm) (s : State) : (s.onPwm f).probes = s.probes := rfl
@[simp] theorem onPwm_menc (f : Pwm → Pwm) (s : State) : (s.onPwm f).menc = s.menc := rfl
@[simp] theorem onPwm_acq (f : Pwm → Pwm) (s : State) : (s.onPwm f).acq = s.acq := rfl
@[simp] theorem onPwm_ring (f : Pwm → Pwm) (s : State) : (s.onPwm f).ring = s.ring := rfl
@[simp] theorem onPwm_tim (f : Pwm → Pwm) (s : State) : (s.onPwm f).tim = s.tim := rfl
@[simp] theorem onPwm_dio (f : Pwm → Pwm) (s : State) : (s.onPwm f).dio = s.dio := rfl
@[simp] theorem onPwm_saf (f : Pwm → Pwm) (s : State) : (s.onPwm f).saf = s.saf := rfl
@[simp] theorem onPwm_svc (f : Pwm → Pwm) (s : State) : (s.onPwm f).svc = s.svc := rfl
@[simp] theorem onPwm_jtag (f : Pwm → Pwm) (s : State) : (s.onPwm f).jtag = s.jtag := rfl
@[simp] theorem onDrn_pending (f : Tab Darner → Tab Darner) (s : State) : (s.onDrn f).pending = s.pending := rfl
@[simp] theorem onDrn_fresh (f : Tab Darner → Tab Darner) (s : State) : (s.onDrn f).fresh = s.fresh := rfl
@[simp] theorem onDrn_clk (f : Tab Darner → Tab Darner) (s : State) : (s.onDrn f).clk = s.clk := rfl
@[simp] theorem onDrn_regs (f : Tab Darner → Tab Darner) (s : State) : (s.onDrn f).regs = s.regs := rfl
@[simp] theorem onDrn_bulk (f : Tab Darner → Tab Darner) (s : State) : (s.onDrn f).bulk = s.bulk := rfl
@[simp] theorem onDrn_sets (f : Tab Darner → Tab Darner) (s : State) : (s.onDrn f).sets = s.sets := rfl
@[simp] theorem onDrn_bus (f : Tab Darner → Tab Darner) (s : State) : (s.onDrn f).bus = s.bus := rfl
@[simp] theorem onDrn_log (f : Tab Darner → Tab Darner) (s : State) : (s.onDrn f).log = s.log := rfl
@[simp] theorem onDrn_knl (f : Tab Darner → Tab Darner) (s : State) : (s.onDrn f).knl = s.knl := rfl
@[simp] theorem onDrn_que (f : Tab Darner → Tab Darner) (s : State) : (s.onDrn f).que = s.que := rfl
@[simp] theorem onDrn_boot (f : Tab Darner → Tab Darner) (s : State) : (s.onDrn f).boot = s.boot := rfl
@[simp] theorem onDrn_pow (f : Tab Darner → Tab Darner) (s : State) : (s.onDrn f).pow = s.pow := rfl
@[simp] theorem onDrn_axes (f : Tab Darner → Tab Darner) (s : State) : (s.onDrn f).axes = s.axes := rfl
@[simp] theorem onDrn_lim (f : Tab Darner → Tab Darner) (s : State) : (s.onDrn f).lim = s.lim := rfl
@[simp] theorem onDrn_prf (f : Tab Darner → Tab Darner) (s : State) : (s.onDrn f).prf = s.prf := rfl
@[simp] theorem onDrn_eng (f : Tab Darner → Tab Darner) (s : State) : (s.onDrn f).eng = s.eng := rfl
@[simp] theorem onDrn_pwm (f : Tab Darner → Tab Darner) (s : State) : (s.onDrn f).pwm = s.pwm := rfl
@[simp] theorem onDrn_drn (f : Tab Darner → Tab Darner) (s : State) : (s.onDrn f).drn = f s.drn := rfl
@[simp] theorem onDrn_ine (f : Tab Darner → Tab Darner) (s : State) : (s.onDrn f).ine = s.ine := rfl
@[simp] theorem onDrn_shp (f : Tab Darner → Tab Darner) (s : State) : (s.onDrn f).shp = s.shp := rfl
@[simp] theorem onDrn_csf (f : Tab Darner → Tab Darner) (s : State) : (s.onDrn f).csf = s.csf := rfl
@[simp] theorem onDrn_ports (f : Tab Darner → Tab Darner) (s : State) : (s.onDrn f).ports = s.ports := rfl
@[simp] theorem onDrn_probes (f : Tab Darner → Tab Darner) (s : State) : (s.onDrn f).probes = s.probes := rfl
@[simp] theorem onDrn_menc (f : Tab Darner → Tab Darner) (s : State) : (s.onDrn f).menc = s.menc := rfl
@[simp] theorem onDrn_acq (f : Tab Darner → Tab Darner) (s : State) : (s.onDrn f).acq = s.acq := rfl
@[simp] theorem onDrn_ring (f : Tab Darner → Tab Darner) (s : State) : (s.onDrn f).ring = s.ring := rfl
@[simp] theorem onDrn_tim (f : Tab Darner → Tab Darner) (s : State) : (s.onDrn f).tim = s.tim := rfl
@[simp] theorem onDrn_dio (f : Tab Darner → Tab Darner) (s : State) : (s.onDrn f).dio = s.dio := rfl
@[simp] theorem onDrn_saf (f : Tab Darner → Tab Darner) (s : State) : (s.onDrn f).saf = s.saf := rfl
@[simp] theorem onDrn_svc (f : Tab Darner → Tab Darner) (s : State) : (s.onDrn f).svc = s.svc := rfl
@[simp] theorem onDrn_jtag (f : Tab Darner → Tab Darner) (s : State) : (s.onDrn f).jtag = s.jtag := rfl
@[simp] theorem onIne_pending (f : Tab Inertia → Tab Inertia) (s : State) : (s.onIne f).pending = s.pending := rfl
@[simp] theorem onIne_fresh (f : Tab Inertia → Tab Inertia) (s : State) : (s.onIne f).fresh = s.fresh := rfl
@[simp] theorem onIne_clk (f : Tab Inertia → Tab Inertia) (s : State) : (s.onIne f).clk = s.clk := rfl
@[simp] theorem onIne_regs (f : Tab Inertia → Tab Inertia) (s : State) : (s.onIne f).regs = s.regs := rfl
@[simp] theorem onIne_bulk (f : Tab Inertia → Tab Inertia) (s : State) : (s.onIne f).bulk = s.bulk := rfl
@[simp] theorem onIne_sets (f : Tab Inertia → Tab Inertia) (s : State) : (s.onIne f).sets = s.sets := rfl
@[simp] theorem onIne_bus (f : Tab Inertia → Tab Inertia) (s : State) : (s.onIne f).bus = s.bus := rfl
@[simp] theorem onIne_log (f : Tab Inertia → Tab Inertia) (s : State) : (s.onIne f).log = s.log := rfl
@[simp] theorem onIne_knl (f : Tab Inertia → Tab Inertia) (s : State) : (s.onIne f).knl = s.knl := rfl
@[simp] theorem onIne_que (f : Tab Inertia → Tab Inertia) (s : State) : (s.onIne f).que = s.que := rfl
@[simp] theorem onIne_boot (f : Tab Inertia → Tab Inertia) (s : State) : (s.onIne f).boot = s.boot := rfl
@[simp] theorem onIne_pow (f : Tab Inertia → Tab Inertia) (s : State) : (s.onIne f).pow = s.pow := rfl
@[simp] theorem onIne_axes (f : Tab Inertia → Tab Inertia) (s : State) : (s.onIne f).axes = s.axes := rfl
@[simp] theorem onIne_lim (f : Tab Inertia → Tab Inertia) (s : State) : (s.onIne f).lim = s.lim := rfl
@[simp] theorem onIne_prf (f : Tab Inertia → Tab Inertia) (s : State) : (s.onIne f).prf = s.prf := rfl
@[simp] theorem onIne_eng (f : Tab Inertia → Tab Inertia) (s : State) : (s.onIne f).eng = s.eng := rfl
@[simp] theorem onIne_pwm (f : Tab Inertia → Tab Inertia) (s : State) : (s.onIne f).pwm = s.pwm := rfl
@[simp] theorem onIne_drn (f : Tab Inertia → Tab Inertia) (s : State) : (s.onIne f).drn = s.drn := rfl
@[simp] theorem onIne_ine (f : Tab Inertia → Tab Inertia) (s : State) : (s.onIne f).ine = f s.ine := rfl
@[simp] theorem onIne_shp (f : Tab Inertia → Tab Inertia) (s : State) : (s.onIne f).shp = s.shp := rfl
@[simp] theorem onIne_csf (f : Tab Inertia → Tab Inertia) (s : State) : (s.onIne f).csf = s.csf := rfl
@[simp] theorem onIne_ports (f : Tab Inertia → Tab Inertia) (s : State) : (s.onIne f).ports = s.ports := rfl
@[simp] theorem onIne_probes (f : Tab Inertia → Tab Inertia) (s : State) : (s.onIne f).probes = s.probes := rfl
@[simp] theorem onIne_menc (f : Tab Inertia → Tab Inertia) (s : State) : (s.onIne f).menc = s.menc := rfl
@[simp] theorem onIne_acq (f : Tab Inertia → Tab Inertia) (s : State) : (s.onIne f).acq = s.acq := rfl
@[simp] theorem onIne_ring (f : Tab Inertia → Tab Inertia) (s : State) : (s.onIne f).ring = s.ring := rfl
@[simp] theorem onIne_tim (f : Tab Inertia → Tab Inertia) (s : State) : (s.onIne f).tim = s.tim := rfl
@[simp] theorem onIne_dio (f : Tab Inertia → Tab Inertia) (s : State) : (s.onIne f).dio = s.dio := rfl
@[simp] theorem onIne_saf (f : Tab Inertia → Tab Inertia) (s : State) : (s.onIne f).saf = s.saf := rfl
@[simp] theorem onIne_svc (f : Tab Inertia → Tab Inertia) (s : State) : (s.onIne f).svc = s.svc := rfl
@[simp] theorem onIne_jtag (f : Tab Inertia → Tab Inertia) (s : State) : (s.onIne f).jtag = s.jtag := rfl
@[simp] theorem onShp_pending (f : Tab Sheepdog → Tab Sheepdog) (s : State) : (s.onShp f).pending = s.pending := rfl
@[simp] theorem onShp_fresh (f : Tab Sheepdog → Tab Sheepdog) (s : State) : (s.onShp f).fresh = s.fresh := rfl
@[simp] theorem onShp_clk (f : Tab Sheepdog → Tab Sheepdog) (s : State) : (s.onShp f).clk = s.clk := rfl
@[simp] theorem onShp_regs (f : Tab Sheepdog → Tab Sheepdog) (s : State) : (s.onShp f).regs = s.regs := rfl
@[simp] theorem onShp_bulk (f : Tab Sheepdog → Tab Sheepdog) (s : State) : (s.onShp f).bulk = s.bulk := rfl
@[simp] theorem onShp_sets (f : Tab Sheepdog → Tab Sheepdog) (s : State) : (s.onShp f).sets = s.sets := rfl
@[simp] theorem onShp_bus (f : Tab Sheepdog → Tab Sheepdog) (s : State) : (s.onShp f).bus = s.bus := rfl
@[simp] theorem onShp_log (f : Tab Sheepdog → Tab Sheepdog) (s : State) : (s.onShp f).log = s.log := rfl
@[simp] theorem onShp_knl (f : Tab Sheepdog → Tab Sheepdog) (s : State) : (s.onShp f).knl = s.knl := rfl
@[simp] theorem onShp_que (f : Tab Sheepdog → Tab Sheepdog) (s : State) : (s.onShp f).que = s.que := rfl
@[simp] theorem onShp_boot (f : Tab Sheepdog → Tab Sheepdog) (s : State) : (s.onShp f).boot = s.boot := rfl
@[simp] theorem onShp_pow (f : Tab Sheepdog → Tab Sheepdog) (s : State) : (s.onShp f).pow = s.pow := rfl
@[simp] theorem onShp_axes (f : Tab Sheepdog → Tab Sheepdog) (s : State) : (s.onShp f).axes = s.axes := rfl
@[simp] theorem onShp_lim (f : Tab Sheepdog → Tab Sheepdog) (s : State) : (s.onShp f).lim = s.lim := rfl
@[simp] theorem onShp_prf (f : Tab Sheepdog → Tab Sheepdog) (s : State) : (s.onShp f).prf = s.prf := rfl
@[simp] theorem onShp_eng (f : Tab Sheepdog → Tab Sheepdog) (s : State) : (s.onShp f).eng = s.eng := rfl
@[simp] theorem onShp_pwm (f : Tab Sheepdog → Tab Sheepdog) (s : State) : (s.onShp f).pwm = s.pwm := rfl
@[simp] theorem onShp_drn (f : Tab Sheepdog → Tab Sheepdog) (s : State) : (s.onShp f).drn = s.drn := rfl
@[simp] theorem onShp_ine (f : Tab Sheepdog → Tab Sheepdog) (s : State) : (s.onShp f).ine = s.ine := rfl
@[simp] theorem onShp_shp (f : Tab Sheepdog → Tab Sheepdog) (s : State) : (s.onShp f).shp = f s.shp := rfl
@[simp] theorem onShp_csf (f : Tab Sheepdog → Tab Sheepdog) (s : State) : (s.onShp f).csf = s.csf := rfl
@[simp] theorem onShp_ports (f : Tab Sheepdog → Tab Sheepdog) (s : State) : (s.onShp f).ports = s.ports := rfl
@[simp] theorem onShp_probes (f : Tab Sheepdog → Tab Sheepdog) (s : State) : (s.onShp f).probes = s.probes := rfl
@[simp] theorem onShp_menc (f : Tab Sheepdog → Tab Sheepdog) (s : State) : (s.onShp f).menc = s.menc := rfl
@[simp] theorem onShp_acq (f : Tab Sheepdog → Tab Sheepdog) (s : State) : (s.onShp f).acq = s.acq := rfl
@[simp] theorem onShp_ring (f : Tab Sheepdog → Tab Sheepdog) (s : State) : (s.onShp f).ring = s.ring := rfl
@[simp] theorem onShp_tim (f : Tab Sheepdog → Tab Sheepdog) (s : State) : (s.onShp f).tim = s.tim := rfl
@[simp] theorem onShp_dio (f : Tab Sheepdog → Tab Sheepdog) (s : State) : (s.onShp f).dio = s.dio := rfl
@[simp] theorem onShp_saf (f : Tab Sheepdog → Tab Sheepdog) (s : State) : (s.onShp f).saf = s.saf := rfl
@[simp] theorem onShp_svc (f : Tab Sheepdog → Tab Sheepdog) (s : State) : (s.onShp f).svc = s.svc := rfl
@[simp] theorem onShp_jtag (f : Tab Sheepdog → Tab Sheepdog) (s : State) : (s.onShp f).jtag = s.jtag := rfl
@[simp] theorem onCsf_pending (f : Csf → Csf) (s : State) : (s.onCsf f).pending = s.pending := rfl
@[simp] theorem onCsf_fresh (f : Csf → Csf) (s : State) : (s.onCsf f).fresh = s.fresh := rfl
@[simp] theorem onCsf_clk (f : Csf → Csf) (s : State) : (s.onCsf f).clk = s.clk := rfl
@[simp] theorem onCsf_regs (f : Csf → Csf) (s : State) : (s.onCsf f).regs = s.regs := rfl
@[simp] theorem onCsf_bulk (f : Csf → Csf) (s : State) : (s.onCsf f).bulk = s.bulk := rfl
@[simp] theorem onCsf_sets (f : Csf → Csf) (s : State) : (s.onCsf f).sets = s.sets := rfl
@[simp] theorem onCsf_bus (f : Csf → Csf) (s : State) : (s.onCsf f).bus = s.bus := rfl
@[simp] theorem onCsf_log (f : Csf → Csf) (s : State) : (s.onCsf f).log = s.log := rfl
@[simp] theorem onCsf_knl (f : Csf → Csf) (s : State) : (s.onCsf f).knl = s.knl := rfl
@[simp] theorem onCsf_que (f : Csf → Csf) (s : State) : (s.onCsf f).que = s.que := rfl
@[simp] theorem onCsf_boot (f : Csf → Csf) (s : State) : (s.onCsf f).boot = s.boot := rfl
@[simp] theorem onCsf_pow (f : Csf → Csf) (s : State) : (s.onCsf f).pow = s.pow := rfl
@[simp] theorem onCsf_axes (f : Csf → Csf) (s : State) : (s.onCsf f).axes = s.axes := rfl
@[simp] theorem onCsf_lim (f : Csf → Csf) (s : State) : (s.onCsf f).lim = s.lim := rfl
@[simp] theorem onCsf_prf (f : Csf → Csf) (s : State) : (s.onCsf f).prf = s.prf := rfl
@[simp] theorem onCsf_eng (f : Csf → Csf) (s : State) : (s.onCsf f).eng = s.eng := rfl
@[simp] theorem onCsf_pwm (f : Csf → Csf) (s : State) : (s.onCsf f).pwm = s.pwm := rfl
@[simp] theorem onCsf_drn (f : Csf → Csf) (s : State) : (s.onCsf f).drn = s.drn := rfl
@[simp] theorem onCsf_ine (f : Csf → Csf) (s : State) : (s.onCsf f).ine = s.ine := rfl
@[simp] theorem onCsf_shp (f : Csf → Csf) (s : State) : (s.onCsf f).shp = s.shp := rfl
@[simp] theorem onCsf_csf (f : Csf → Csf) (s : State) : (s.onCsf f).csf = f s.csf := rfl
@[simp] theorem onCsf_ports (f : Csf → Csf) (s : State) : (s.onCsf f).ports = s.ports := rfl
@[simp] theorem onCsf_probes (f : Csf → Csf) (s : State) : (s.onCsf f).probes = s.probes := rfl
@[simp] theorem onCsf_menc (f : Csf → Csf) (s : State) : (s.onCsf f).menc = s.menc := rfl
@[simp] theorem onCsf_acq (f : Csf → Csf) (s : State) : (s.onCsf f).acq = s.acq := rfl
@[simp] theorem onCsf_ring (f : Csf → Csf) (s : State) : (s.onCsf f).ring = s.ring := rfl
@[simp] theorem onCsf_tim (f : Csf → Csf) (s : State) : (s.onCsf f).tim = s.tim := rfl
@[simp] theorem onCsf_dio (f : Csf → Csf) (s : State) : (s.onCsf f).dio = s.dio := rfl
@[simp] theorem onCsf_saf (f : Csf → Csf) (s : State) : (s.onCsf f).saf = s.saf := rfl
@[simp] theorem onCsf_svc (f : Csf → Csf) (s : State) : (s.onCsf f).svc = s.svc := rfl
@[simp] theorem onCsf_jtag (f : Csf → Csf) (s : State) : (s.onCsf f).jtag = s.jtag := rfl
@[simp] theorem onPorts_pending (f : Tab Port → Tab Port) (s : State) : (s.onPorts f).pending = s.pending := rfl
@[simp] theorem onPorts_fresh (f : Tab Port → Tab Port) (s : State) : (s.onPorts f).fresh = s.fresh := rfl
@[simp] theorem onPorts_clk (f : Tab Port → Tab Port) (s : State) : (s.onPorts f).clk = s.clk := rfl
@[simp] theorem onPorts_regs (f : Tab Port → Tab Port) (s : State) : (s.onPorts f).regs = s.regs := rfl
@[simp] theorem onPorts_bulk (f : Tab Port → Tab Port) (s : State) : (s.onPorts f).bulk = s.bulk := rfl
@[simp] theorem onPorts_sets (f : Tab Port → Tab Port) (s : State) : (s.onPorts f).sets = s.sets := rfl
@[simp] theorem onPorts_bus (f : Tab Port → Tab Port) (s : State) : (s.onPorts f).bus = s.bus := rfl
@[simp] theorem onPorts_log (f : Tab Port → Tab Port) (s : State) : (s.onPorts f).log = s.log := rfl
@[simp] theorem onPorts_knl (f : Tab Port → Tab Port) (s : State) : (s.onPorts f).knl = s.knl := rfl
@[simp] theorem onPorts_que (f : Tab Port → Tab Port) (s : State) : (s.onPorts f).que = s.que := rfl
@[simp] theorem onPorts_boot (f : Tab Port → Tab Port) (s : State) : (s.onPorts f).boot = s.boot := rfl
@[simp] theorem onPorts_pow (f : Tab Port → Tab Port) (s : State) : (s.onPorts f).pow = s.pow := rfl
@[simp] theorem onPorts_axes (f : Tab Port → Tab Port) (s : State) : (s.onPorts f).axes = s.axes := rfl
@[simp] theorem onPorts_lim (f : Tab Port → Tab Port) (s : State) : (s.onPorts f).lim = s.lim := rfl
@[simp] theorem onPorts_prf (f : Tab Port → Tab Port) (s : State) : (s.onPorts f).prf = s.prf := rfl
@[simp] theorem onPorts_eng (f : Tab Port → Tab Port) (s : State) : (s.onPorts f).eng = s.eng := rfl
@[simp] theorem onPorts_pwm (f : Tab Port → Tab Port) (s : State) : (s.onPorts f).pwm = s.pwm := rfl
@[simp] theorem onPorts_drn (f : Tab Port → Tab Port) (s : State) : (s.onPorts f).drn = s.drn := rfl
@[simp] theorem onPorts_ine (f : Tab Port → Tab Port) (s : State) : (s.onPorts f).ine = s.ine := rfl
@[simp] theorem onPorts_shp (f : Tab Port → Tab Port) (s : State) : (s.onPorts f).shp = s.shp := rfl
@[simp] theorem onPorts_csf (f : Tab Port → Tab Port) (s : State) : (s.onPorts f).csf = s.csf := rfl
@[simp] theorem onPorts_ports (f : Tab Port → Tab Port) (s : State) : (s.onPorts f).ports = f s.ports := rfl
@[simp] theorem onPorts_probes (f : Tab Port → Tab Port) (s : State) : (s.onPorts f).probes = s.probes := rfl
@[simp] theorem onPorts_menc (f : Tab Port → Tab Port) (s : State) : (s.onPorts f).menc = s.menc := rfl
@[simp] theorem onPorts_acq (f : Tab Port → Tab Port) (s : State) : (s.onPorts f).acq = s.acq := rfl
@[simp] theorem onPorts_ring (f : Tab Port → Tab Port) (s : State) : (s.onPorts f).ring = s.ring := rfl
@[simp] theorem onPorts_tim (f : Tab Port → Tab Port) (s : State) : (s.onPorts f).tim = s.tim := rfl
@[simp] theorem onPorts_dio (f : Tab Port → Tab Port) (s : State) : (s.onPorts f).dio = s.dio := rfl
@[simp] theorem onPorts_saf (f : Tab Port → Tab Port) (s : State) : (s.onPorts f).saf = s.saf := rfl
@[simp] theorem onPorts_svc (f : Tab Port → Tab Port) (s : State) : (s.onPorts f).svc = s.svc := rfl
@[simp] theorem onPorts_jtag (f : Tab Port → Tab Port) (s : State) : (s.onPorts f).jtag = s.jtag := rfl
@[simp] theorem onProbes_pending (f : Tab Probe → Tab Probe) (s : State) : (s.onProbes f).pending = s.pending := rfl
@[simp] theorem onProbes_fresh (f : Tab Probe → Tab Probe) (s : State) : (s.onProbes f).fresh = s.fresh := rfl
@[simp] theorem onProbes_clk (f : Tab Probe → Tab Probe) (s : State) : (s.onProbes f).clk = s.clk := rfl
@[simp] theorem onProbes_regs (f : Tab Probe → Tab Probe) (s : State) : (s.onProbes f).regs = s.regs := rfl
@[simp] theorem onProbes_bulk (f : Tab Probe → Tab Probe) (s : State) : (s.onProbes f).bulk = s.bulk := rfl
@[simp] theorem onProbes_sets (f : Tab Probe → Tab Probe) (s : State) : (s.onProbes f).sets = s.sets := rfl
@[simp] theorem onProbes_bus (f : Tab Probe → Tab Probe) (s : State) : (s.onProbes f).bus = s.bus := rfl
@[simp] theorem onProbes_log (f : Tab Probe → Tab Probe) (s : State) : (s.onProbes f).log = s.log := rfl
@[simp] theorem onProbes_knl (f : Tab Probe → Tab Probe) (s : State) : (s.onProbes f).knl = s.knl := rfl
@[simp] theorem onProbes_que (f : Tab Probe → Tab Probe) (s : State) : (s.onProbes f).que = s.que := rfl
@[simp] theorem onProbes_boot (f : Tab Probe → Tab Probe) (s : State) : (s.onProbes f).boot = s.boot := rfl
@[simp] theorem onProbes_pow (f : Tab Probe → Tab Probe) (s : State) : (s.onProbes f).pow = s.pow := rfl
@[simp] theorem onProbes_axes (f : Tab Probe → Tab Probe) (s : State) : (s.onProbes f).axes = s.axes := rfl
@[simp] theorem onProbes_lim (f : Tab Probe → Tab Probe) (s : State) : (s.onProbes f).lim = s.lim := rfl
@[simp] theorem onProbes_prf (f : Tab Probe → Tab Probe) (s : State) : (s.onProbes f).prf = s.prf := rfl
@[simp] theorem onProbes_eng (f : Tab Probe → Tab Probe) (s : State) : (s.onProbes f).eng = s.eng := rfl
@[simp] theorem onProbes_pwm (f : Tab Probe → Tab Probe) (s : State) : (s.onProbes f).pwm = s.pwm := rfl
@[simp] theorem onProbes_drn (f : Tab Probe → Tab Probe) (s : State) : (s.onProbes f).drn = s.drn := rfl
@[simp] theorem onProbes_ine (f : Tab Probe → Tab Probe) (s : State) : (s.onProbes f).ine = s.ine := rfl
@[simp] theorem onProbes_shp (f : Tab Probe → Tab Probe) (s : State) : (s.onProbes f).shp = s.shp := rfl
@[simp] theorem onProbes_csf (f : Tab Probe → Tab Probe) (s : State) : (s.onProbes f).csf = s.csf := rfl
@[simp] theorem onProbes_ports (f : Tab Probe → Tab Probe) (s : State) : (s.onProbes f).ports = s.ports := rfl
@[simp] theorem onProbes_probes (f : Tab Probe → Tab Probe) (s : State) : (s.onProbes f).probes = f s.probes := rfl
@[simp] theorem onProbes_menc (f : Tab Probe → Tab Probe) (s : State) : (s.onProbes f).menc = s.menc := rfl
@[simp] theorem onProbes_acq (f : Tab Probe → Tab Probe) (s : State) : (s.onProbes f).acq = s.acq := rfl
@[simp] theorem onProbes_ring (f : Tab Probe → Tab Probe) (s : State) : (s.onProbes f).ring = s.ring := rfl
@[simp] theorem onProbes_tim (f : Tab Probe → Tab Probe) (s : State) : (s.onProbes f).tim = s.tim := rfl
@[simp] theorem onProbes_dio (f : Tab Probe → Tab Probe) (s : State) : (s.onProbes f).dio = s.dio := rfl
@[simp] theorem onProbes_saf (f : Tab Probe → Tab Probe) (s : State) : (s.onProbes f).saf = s.saf := rfl
@[simp] theorem onProbes_svc (f : Tab Probe → Tab Probe) (s : State) : (s.onProbes f).svc = s.svc := rfl
@[simp] theorem onProbes_jtag (f : Tab Probe → Tab Probe) (s : State) : (s.onProbes f).jtag = s.jtag := rfl
@[simp] theorem onMenc_pending (f : Tab (List Byte) → Tab (List Byte)) (s : State) : (s.onMenc f).pending = s.pending := rfl
@[simp] theorem onMenc_fresh (f : Tab (List Byte) → Tab (List Byte)) (s : State) : (s.onMenc f).fresh = s.fresh := rfl
@[simp] theorem onMenc_clk (f : Tab (List Byte) → Tab (List Byte)) (s : State) : (s.onMenc f).clk = s.clk := rfl
@[simp] theorem onMenc_regs (f : Tab (List Byte) → Tab (List Byte)) (s : State) : (s.onMenc f).regs = s.regs := rfl
@[simp] theorem onMenc_bulk (f : Tab (List Byte) → Tab (List Byte)) (s : State) : (s.onMenc f).bulk = s.bulk := rfl
@[simp] theorem onMenc_sets (f : Tab (List Byte) → Tab (List Byte)) (s : State) : (s.onMenc f).sets = s.sets := rfl
@[simp] theorem onMenc_bus (f : Tab (List Byte) → Tab (List Byte)) (s : State) : (s.onMenc f).bus = s.bus := rfl
@[simp] theorem onMenc_log (f : Tab (List Byte) → Tab (List Byte)) (s : State) : (s.onMenc f).log = s.log := rfl
@[simp] theorem onMenc_knl (f : Tab (List Byte) → Tab (List Byte)) (s : State) : (s.onMenc f).knl = s.knl := rfl
@[simp] theorem onMenc_que (f : Tab (List Byte) → Tab (List Byte)) (s : State) : (s.onMenc f).que = s.que := rfl
@[simp] theorem onMenc_boot (f : Tab (List Byte) → Tab (List Byte)) (s : State) : (s.onMenc f).boot = s.boot := rfl
@[simp] theorem onMenc_pow (f : Tab (List Byte) → Tab (List Byte)) (s : State) : (s.onMenc f).pow = s.pow := rfl
@[simp] theorem onMenc_axes (f : Tab (List Byte) → Tab (List Byte)) (s : State) : (s.onMenc f).axes = s.axes := rfl
@[simp] theorem onMenc_lim (f : Tab (List Byte) → Tab (List Byte)) (s : State) : (s.onMenc f).lim = s.lim := rfl
@[simp] theorem onMenc_prf (f : Tab (List Byte) → Tab (List Byte)) (s : State) : (s.onMenc f).prf = s.prf := rfl
@[simp] theorem onMenc_eng (f : Tab (List Byte) → Tab (List Byte)) (s : State) : (s.onMenc f).eng = s.eng := rfl
@[simp] theorem onMenc_pwm (f : Tab (List Byte) → Tab (List Byte)) (s : State) : (s.onMenc f).pwm = s.pwm := rfl
@[simp] theorem onMenc_drn (f : Tab (List Byte) → Tab (List Byte)) (s : State) : (s.onMenc f).drn = s.drn := rfl
@[simp] theorem onMenc_ine (f : Tab (List Byte) → Tab (List Byte)) (s : State) : (s.onMenc f).ine = s.ine := rfl
@[simp] theorem onMenc_shp (f : Tab (List Byte) → Tab (List Byte)) (s : State) : (s.onMenc f).shp = s.shp := rfl
@[simp] theorem onMenc_csf (f : Tab (List Byte) → Tab (List Byte)) (s : State) : (s.onMenc f).csf = s.csf := rfl
@[simp] theorem onMenc_ports (f : Tab (List Byte) → Tab (List Byte)) (s : State) : (s.onMenc f).ports = s.ports := rfl
@[simp] theorem onMenc_probes (f : Tab (List Byte) → Tab (List Byte)) (s : State) : (s.onMenc f).probes = s.probes := rfl
@[simp] theorem onMenc_menc (f : Tab (List Byte) → Tab (List Byte)) (s : State) : (s.onMenc f).menc = f s.menc := rfl
@[simp] theorem onMenc_acq (f : Tab (List Byte) → Tab (List Byte)) (s : State) : (s.onMenc f).acq = s.acq := rfl
@[simp] theorem onMenc_ring (f : Tab (List Byte) → Tab (List Byte)) (s : State) : (s.onMenc f).ring = s.ring := rfl
@[simp] theorem onMenc_tim (f : Tab (List Byte) → Tab (List Byte)) (s : State) : (s.onMenc f).tim = s.tim := rfl
@[simp] theorem onMenc_dio (f : Tab (List Byte) → Tab (List Byte)) (s : State) : (s.onMenc f).dio = s.dio := rfl
@[simp] theorem onMenc_saf (f : Tab (List Byte) → Tab (List Byte)) (s : State) : (s.onMenc f).saf = s.saf := rfl
@[simp] theorem onMenc_svc (f : Tab (List Byte) → Tab (List Byte)) (s : State) : (s.onMenc f).svc = s.svc := rfl
@[simp] theorem onMenc_jtag (f : Tab (List Byte) → Tab (List Byte)) (s : State) : (s.onMenc f).jtag = s.jtag := rfl
@[simp] theorem onAcq_pending (f : Acq → Acq) (s : State) : (s.onAcq f).pending = s.pending := rfl
@[simp] theorem onAcq_fresh (f : Acq → Acq) (s : State) : (s.onAcq f).fresh = s.fresh := rfl
@[simp] theorem onAcq_clk (f : Acq → Acq) (s : State) : (s.onAcq f).clk = s.clk := rfl
@[simp] theorem onAcq_regs (f : Acq → Acq) (s : State) : (s.onAcq f).regs = s.regs := rfl
@[simp] theorem onAcq_bulk (f : Acq → Acq) (s : State) : (s.onAcq f).bulk = s.bulk := rfl
@[simp] theorem onAcq_sets (f : Acq → Acq) (s : State) : (s.onAcq f).sets = s.sets := rfl
@[simp] theorem onAcq_bus (f : Acq → Acq) (s : State) : (s.onAcq f).bus = s.bus := rfl
@[simp] theorem onAcq_log (f : Acq → Acq) (s : State) : (s.onAcq f).log = s.log := rfl
@[simp] theorem onAcq_knl (f : Acq → Acq) (s : State) : (s.onAcq f).knl = s.knl := rfl
@[simp] theorem onAcq_que (f : Acq → Acq) (s : State) : (s.onAcq f).que = s.que := rfl
@[simp] theorem onAcq_boot (f : Acq → Acq) (s : State) : (s.onAcq f).boot = s.boot := rfl
@[simp] theorem onAcq_pow (f : Acq → Acq) (s : State) : (s.onAcq f).pow = s.pow := rfl
@[simp] theorem onAcq_axes (f : Acq → Acq) (s : State) : (s.onAcq f).axes = s.axes := rfl
@[simp] theorem onAcq_lim (f : Acq → Acq) (s : State) : (s.onAcq f).lim = s.lim := rfl
@[simp] theorem onAcq_prf (f : Acq → Acq) (s : State) : (s.onAcq f).prf = s.prf := rfl
@[simp] theorem onAcq_eng (f : Acq → Acq) (s : State) : (s.onAcq f).eng = s.eng := rfl
@[simp] theorem onAcq_pwm (f : Acq → Acq) (s : State) : (s.onAcq f).pwm = s.pwm := rfl
@[simp] theorem onAcq_drn (f : Acq → Acq) (s : State) : (s.onAcq f).drn = s.drn := rfl
@[simp] theorem onAcq_ine (f : Acq → Acq) (s : State) : (s.onAcq f).ine = s.ine := rfl
@[simp] theorem onAcq_shp (f : Acq → Acq) (s : State) : (s.onAcq f).shp = s.shp := rfl
@[simp] theorem onAcq_csf (f : Acq → Acq) (s : State) : (s.onAcq f).csf = s.csf := rfl
@[simp] theorem onAcq_ports (f : Acq → Acq) (s : State) : (s.onAcq f).ports = s.ports := rfl
@[simp] theorem onAcq_probes (f : Acq → Acq) (s : State) : (s.onAcq f).probes = s.probes := rfl
@[simp] theorem onAcq_menc (f : Acq → Acq) (s : State) : (s.onAcq f).menc = s.menc := rfl
@[simp] theorem onAcq_acq (f : Acq → Acq) (s : State) : (s.onAcq f).acq = f s.acq := rfl
@[simp] theorem onAcq_ring (f : Acq → Acq) (s : State) : (s.onAcq f).ring = s.ring := rfl
@[simp] theorem onAcq_tim (f : Acq → Acq) (s : State) : (s.onAcq f).tim = s.tim := rfl
@[simp] theorem onAcq_dio (f : Acq → Acq) (s : State) : (s.onAcq f).dio = s.dio := rfl
@[simp] theorem onAcq_saf (f : Acq → Acq) (s : State) : (s.onAcq f).saf = s.saf := rfl
@[simp] theorem onAcq_svc (f : Acq → Acq) (s : State) : (s.onAcq f).svc = s.svc := rfl
@[simp] theorem onAcq_jtag (f : Acq → Acq) (s : State) : (s.onAcq f).jtag = s.jtag := rfl
@[simp] theorem onRing_pending (f : Ring → Ring) (s : State) : (s.onRing f).pending = s.pending := rfl
@[simp] theorem onRing_fresh (f : Ring → Ring) (s : State) : (s.onRing f).fresh = s.fresh := rfl
@[simp] theorem onRing_clk (f : Ring → Ring) (s : State) : (s.onRing f).clk = s.clk := rfl
@[simp] theorem onRing_regs (f : Ring → Ring) (s : State) : (s.onRing f).regs = s.regs := rfl
@[simp] theorem onRing_bulk (f : Ring → Ring) (s : State) : (s.onRing f).bulk = s.bulk := rfl
@[simp] theorem onRing_sets (f : Ring → Ring) (s : State) : (s.onRing f).sets = s.sets := rfl
@[simp] theorem onRing_bus (f : Ring → Ring) (s : State) : (s.onRing f).bus = s.bus := rfl
@[simp] theorem onRing_log (f : Ring → Ring) (s : State) : (s.onRing f).log = s.log := rfl
@[simp] theorem onRing_knl (f : Ring → Ring) (s : State) : (s.onRing f).knl = s.knl := rfl
@[simp] theorem onRing_que (f : Ring → Ring) (s : State) : (s.onRing f).que = s.que := rfl
@[simp] theorem onRing_boot (f : Ring → Ring) (s : State) : (s.onRing f).boot = s.boot := rfl
@[simp] theorem onRing_pow (f : Ring → Ring) (s : State) : (s.onRing f).pow = s.pow := rfl
@[simp] theorem onRing_axes (f : Ring → Ring) (s : State) : (s.onRing f).axes = s.axes := rfl
@[simp] theorem onRing_lim (f : Ring → Ring) (s : State) : (s.onRing f).lim = s.lim := rfl
@[simp] theorem onRing_prf (f : Ring → Ring) (s : State) : (s.onRing f).prf = s.prf := rfl
@[simp] theorem onRing_eng (f : Ring → Ring) (s : State) : (s.onRing f).eng = s.eng := rfl
@[simp] theorem onRing_pwm (f : Ring → Ring) (s : State) : (s.onRing f).pwm = s.pwm := rfl
@[simp] theorem onRing_drn (f : Ring → Ring) (s : State) : (s.onRing f).drn = s.drn := rfl
@[simp] theorem onRing_ine (f : Ring → Ring) (s : State) : (s.onRing f).ine = s.ine := rfl
@[simp] theorem onRing_shp (f : Ring → Ring) (s : State) : (s.onRing f).shp = s.shp := rfl
@[simp] theorem onRing_csf (f : Ring → Ring) (s : State) : (s.onRing f).csf = s.csf := rfl
@[simp] theorem onRing_ports (f : Ring → Ring) (s : State) : (s.onRing f).ports = s.ports := rfl
@[simp] theorem onRing_probes (f : Ring → Ring) (s : State) : (s.onRing f).probes = s.probes := rfl
@[simp] theorem onRing_menc (f : Ring → Ring) (s : State) : (s.onRing f).menc = s.menc := rfl
@[simp] theorem onRing_acq (f : Ring → Ring) (s : State) : (s.onRing f).acq = s.acq := rfl
@[simp] theorem onRing_ring (f : Ring → Ring) (s : State) : (s.onRing f).ring = f s.ring := rfl
@[simp] theorem onRing_tim (f : Ring → Ring) (s : State) : (s.onRing f).tim = s.tim := rfl
@[simp] theorem onRing_dio (f : Ring → Ring) (s : State) : (s.onRing f).dio = s.dio := rfl
@[simp] theorem onRing_saf (f : Ring → Ring) (s : State) : (s.onRing f).saf = s.saf := rfl
@[simp] theorem onRing_svc (f : Ring → Ring) (s : State) : (s.onRing f).svc = s.svc := rfl
@[simp] theorem onRing_jtag (f : Ring → Ring) (s : State) : (s.onRing f).jtag = s.jtag := rfl
@[simp] theorem onTim_pending (f : TimeUnit → TimeUnit) (s : State) : (s.onTim f).pending = s.pending := rfl
@[simp] theorem onTim_fresh (f : TimeUnit → TimeUnit) (s : State) : (s.onTim f).fresh = s.fresh := rfl
@[simp] theorem onTim_clk (f : TimeUnit → TimeUnit) (s : State) : (s.onTim f).clk = s.clk := rfl
@[simp] theorem onTim_regs (f : TimeUnit → TimeUnit) (s : State) : (s.onTim f).regs = s.regs := rfl
@[simp] theorem onTim_bulk (f : TimeUnit → TimeUnit) (s : State) : (s.onTim f).bulk = s.bulk := rfl
@[simp] theorem onTim_sets (f : TimeUnit → TimeUnit) (s : State) : (s.onTim f).sets = s.sets := rfl
@[simp] theorem onTim_bus (f : TimeUnit → TimeUnit) (s : State) : (s.onTim f).bus = s.bus := rfl
@[simp] theorem onTim_log (f : TimeUnit → TimeUnit) (s : State) : (s.onTim f).log = s.log := rfl
@[simp] theorem onTim_knl (f : TimeUnit → TimeUnit) (s : State) : (s.onTim f).knl = s.knl := rfl
@[simp] theorem onTim_que (f : TimeUnit → TimeUnit) (s : State) : (s.onTim f).que = s.que := rfl
@[simp] theorem onTim_boot (f : TimeUnit → TimeUnit) (s : State) : (s.onTim f).boot = s.boot := rfl
@[simp] theorem onTim_pow (f : TimeUnit → TimeUnit) (s : State) : (s.onTim f).pow = s.pow := rfl
@[simp] theorem onTim_axes (f : TimeUnit → TimeUnit) (s : State) : (s.onTim f).axes = s.axes := rfl
@[simp] theorem onTim_lim (f : TimeUnit → TimeUnit) (s : State) : (s.onTim f).lim = s.lim := rfl
@[simp] theorem onTim_prf (f : TimeUnit → TimeUnit) (s : State) : (s.onTim f).prf = s.prf := rfl
@[simp] theorem onTim_eng (f : TimeUnit → TimeUnit) (s : State) : (s.onTim f).eng = s.eng := rfl
@[simp] theorem onTim_pwm (f : TimeUnit → TimeUnit) (s : State) : (s.onTim f).pwm = s.pwm := rfl
@[simp] theorem onTim_drn (f : TimeUnit → TimeUnit) (s : State) : (s.onTim f).drn = s.drn := rfl
@[simp] theorem onTim_ine (f : TimeUnit → TimeUnit) (s : State) : (s.onTim f).ine = s.ine := rfl
@[simp] theorem onTim_shp (f : TimeUnit → TimeUnit) (s : State) : (s.onTim f).shp = s.shp := rfl
@[simp] theorem onTim_csf (f : TimeUnit → TimeUnit) (s : State) : (s.onTim f).csf = s.csf := rfl
@[simp] theorem onTim_ports (f : TimeUnit → TimeUnit) (s : State) : (s.onTim f).ports = s.ports := rfl
@[simp] theorem onTim_probes (f : TimeUnit → TimeUnit) (s : State) : (s.onTim f).probes = s.probes := rfl
@[simp] theorem onTim_menc (f : TimeUnit → TimeUnit) (s : State) : (s.onTim f).menc = s.menc := rfl
@[simp] theorem onTim_acq (f : TimeUnit → TimeUnit) (s : State) : (s.onTim f).acq = s.acq := rfl
@[simp] theorem onTim_ring (f : TimeUnit → TimeUnit) (s : State) : (s.onTim f).ring = s.ring := rfl
@[simp] theorem onTim_tim (f : TimeUnit → TimeUnit) (s : State) : (s.onTim f).tim = f s.tim := rfl
@[simp] theorem onTim_dio (f : TimeUnit → TimeUnit) (s : State) : (s.onTim f).dio = s.dio := rfl
@[simp] theorem onTim_saf (f : TimeUnit → TimeUnit) (s : State) : (s.onTim f).saf = s.saf := rfl
@[simp] theorem onTim_svc (f : TimeUnit → TimeUnit) (s : State) : (s.onTim f).svc = s.svc := rfl
@[simp] theorem onTim_jtag (f : TimeUnit → TimeUnit) (s : State) : (s.onTim f).jtag = s.jtag := rfl
@[simp] theorem onDio_pending (f : Dio → Dio) (s : State) : (s.onDio f).pending = s.pending := rfl
@[simp] theorem onDio_fresh (f : Dio → Dio) (s : State) : (s.onDio f).fresh = s.fresh := rfl
@[simp] theorem onDio_clk (f : Dio → Dio) (s : State) : (s.onDio f).clk = s.clk := rfl
@[simp] theorem onDio_regs (f : Dio → Dio) (s : State) : (s.onDio f).regs = s.regs := rfl
@[simp] theorem onDio_bulk (f : Dio → Dio) (s : State) : (s.onDio f).bulk = s.bulk := rfl
@[simp] theorem onDio_sets (f : Dio → Dio) (s : State) : (s.onDio f).sets = s.sets := rfl
@[simp] theorem onDio_bus (f : Dio → Dio) (s : State) : (s.onDio f).bus = s.bus := rfl
@[simp] theorem onDio_log (f : Dio → Dio) (s : State) : (s.onDio f).log = s.log := rfl
@[simp] theorem onDio_knl (f : Dio → Dio) (s : State) : (s.onDio f).knl = s.knl := rfl
@[simp] theorem onDio_que (f : Dio → Dio) (s : State) : (s.onDio f).que = s.que := rfl
@[simp] theorem onDio_boot (f : Dio → Dio) (s : State) : (s.onDio f).boot = s.boot := rfl
@[simp] theorem onDio_pow (f : Dio → Dio) (s : State) : (s.onDio f).pow = s.pow := rfl
@[simp] theorem onDio_axes (f : Dio → Dio) (s : State) : (s.onDio f).axes = s.axes := rfl
@[simp] theorem onDio_lim (f : Dio → Dio) (s : State) : (s.onDio f).lim = s.lim := rfl
@[simp] theorem onDio_prf (f : Dio → Dio) (s : State) : (s.onDio f).prf = s.prf := rfl
@[simp] theorem onDio_eng (f : Dio → Dio) (s : State) : (s.onDio f).eng = s.eng := rfl
@[simp] theorem onDio_pwm (f : Dio → Dio) (s : State) : (s.onDio f).pwm = s.pwm := rfl
@[simp] theorem onDio_drn (f : Dio → Dio) (s : State) : (s.onDio f).drn = s.drn := rfl
@[simp] theorem onDio_ine (f : Dio → Dio) (s : State) : (s.onDio f).ine = s.ine := rfl
@[simp] theorem onDio_shp (f : Dio → Dio) (s : State) : (s.onDio f).shp = s.shp := rfl
@[simp] theorem onDio_csf (f : Dio → Dio) (s : State) : (s.onDio f).csf = s.csf := rfl
@[simp] theorem onDio_ports (f : Dio → Dio) (s : State) : (s.onDio f).ports = s.ports := rfl
@[simp] theorem onDio_probes (f : Dio → Dio) (s : State) : (s.onDio f).probes = s.probes := rfl
@[simp] theorem onDio_menc (f : Dio → Dio) (s : State) : (s.onDio f).menc = s.menc := rfl
@[simp] theorem onDio_acq (f : Dio → Dio) (s : State) : (s.onDio f).acq = s.acq := rfl
@[simp] theorem onDio_ring (f : Dio → Dio) (s : State) : (s.onDio f).ring = s.ring := rfl
@[simp] theorem onDio_tim (f : Dio → Dio) (s : State) : (s.onDio f).tim = s.tim := rfl
@[simp] theorem onDio_dio (f : Dio → Dio) (s : State) : (s.onDio f).dio = f s.dio := rfl
@[simp] theorem onDio_saf (f : Dio → Dio) (s : State) : (s.onDio f).saf = s.saf := rfl
@[simp] theorem onDio_svc (f : Dio → Dio) (s : State) : (s.onDio f).svc = s.svc := rfl
@[simp] theorem onDio_jtag (f : Dio → Dio) (s : State) : (s.onDio f).jtag = s.jtag := rfl
@[simp] theorem onSaf_pending (f : Saf → Saf) (s : State) : (s.onSaf f).pending = s.pending := rfl
@[simp] theorem onSaf_fresh (f : Saf → Saf) (s : State) : (s.onSaf f).fresh = s.fresh := rfl
@[simp] theorem onSaf_clk (f : Saf → Saf) (s : State) : (s.onSaf f).clk = s.clk := rfl
@[simp] theorem onSaf_regs (f : Saf → Saf) (s : State) : (s.onSaf f).regs = s.regs := rfl
@[simp] theorem onSaf_bulk (f : Saf → Saf) (s : State) : (s.onSaf f).bulk = s.bulk := rfl
@[simp] theorem onSaf_sets (f : Saf → Saf) (s : State) : (s.onSaf f).sets = s.sets := rfl
@[simp] theorem onSaf_bus (f : Saf → Saf) (s : State) : (s.onSaf f).bus = s.bus := rfl
@[simp] theorem onSaf_log (f : Saf → Saf) (s : State) : (s.onSaf f).log = s.log := rfl
@[simp] theorem onSaf_knl (f : Saf → Saf) (s : State) : (s.onSaf f).knl = s.knl := rfl
@[simp] theorem onSaf_que (f : Saf → Saf) (s : State) : (s.onSaf f).que = s.que := rfl
@[simp] theorem onSaf_boot (f : Saf → Saf) (s : State) : (s.onSaf f).boot = s.boot := rfl
@[simp] theorem onSaf_pow (f : Saf → Saf) (s : State) : (s.onSaf f).pow = s.pow := rfl
@[simp] theorem onSaf_axes (f : Saf → Saf) (s : State) : (s.onSaf f).axes = s.axes := rfl
@[simp] theorem onSaf_lim (f : Saf → Saf) (s : State) : (s.onSaf f).lim = s.lim := rfl
@[simp] theorem onSaf_prf (f : Saf → Saf) (s : State) : (s.onSaf f).prf = s.prf := rfl
@[simp] theorem onSaf_eng (f : Saf → Saf) (s : State) : (s.onSaf f).eng = s.eng := rfl
@[simp] theorem onSaf_pwm (f : Saf → Saf) (s : State) : (s.onSaf f).pwm = s.pwm := rfl
@[simp] theorem onSaf_drn (f : Saf → Saf) (s : State) : (s.onSaf f).drn = s.drn := rfl
@[simp] theorem onSaf_ine (f : Saf → Saf) (s : State) : (s.onSaf f).ine = s.ine := rfl
@[simp] theorem onSaf_shp (f : Saf → Saf) (s : State) : (s.onSaf f).shp = s.shp := rfl
@[simp] theorem onSaf_csf (f : Saf → Saf) (s : State) : (s.onSaf f).csf = s.csf := rfl
@[simp] theorem onSaf_ports (f : Saf → Saf) (s : State) : (s.onSaf f).ports = s.ports := rfl
@[simp] theorem onSaf_probes (f : Saf → Saf) (s : State) : (s.onSaf f).probes = s.probes := rfl
@[simp] theorem onSaf_menc (f : Saf → Saf) (s : State) : (s.onSaf f).menc = s.menc := rfl
@[simp] theorem onSaf_acq (f : Saf → Saf) (s : State) : (s.onSaf f).acq = s.acq := rfl
@[simp] theorem onSaf_ring (f : Saf → Saf) (s : State) : (s.onSaf f).ring = s.ring := rfl
@[simp] theorem onSaf_tim (f : Saf → Saf) (s : State) : (s.onSaf f).tim = s.tim := rfl
@[simp] theorem onSaf_dio (f : Saf → Saf) (s : State) : (s.onSaf f).dio = s.dio := rfl
@[simp] theorem onSaf_saf (f : Saf → Saf) (s : State) : (s.onSaf f).saf = f s.saf := rfl
@[simp] theorem onSaf_svc (f : Saf → Saf) (s : State) : (s.onSaf f).svc = s.svc := rfl
@[simp] theorem onSaf_jtag (f : Saf → Saf) (s : State) : (s.onSaf f).jtag = s.jtag := rfl
@[simp] theorem onSvc_pending (f : Svc → Svc) (s : State) : (s.onSvc f).pending = s.pending := rfl
@[simp] theorem onSvc_fresh (f : Svc → Svc) (s : State) : (s.onSvc f).fresh = s.fresh := rfl
@[simp] theorem onSvc_clk (f : Svc → Svc) (s : State) : (s.onSvc f).clk = s.clk := rfl
@[simp] theorem onSvc_regs (f : Svc → Svc) (s : State) : (s.onSvc f).regs = s.regs := rfl
@[simp] theorem onSvc_bulk (f : Svc → Svc) (s : State) : (s.onSvc f).bulk = s.bulk := rfl
@[simp] theorem onSvc_sets (f : Svc → Svc) (s : State) : (s.onSvc f).sets = s.sets := rfl
@[simp] theorem onSvc_bus (f : Svc → Svc) (s : State) : (s.onSvc f).bus = s.bus := rfl
@[simp] theorem onSvc_log (f : Svc → Svc) (s : State) : (s.onSvc f).log = s.log := rfl
@[simp] theorem onSvc_knl (f : Svc → Svc) (s : State) : (s.onSvc f).knl = s.knl := rfl
@[simp] theorem onSvc_que (f : Svc → Svc) (s : State) : (s.onSvc f).que = s.que := rfl
@[simp] theorem onSvc_boot (f : Svc → Svc) (s : State) : (s.onSvc f).boot = s.boot := rfl
@[simp] theorem onSvc_pow (f : Svc → Svc) (s : State) : (s.onSvc f).pow = s.pow := rfl
@[simp] theorem onSvc_axes (f : Svc → Svc) (s : State) : (s.onSvc f).axes = s.axes := rfl
@[simp] theorem onSvc_lim (f : Svc → Svc) (s : State) : (s.onSvc f).lim = s.lim := rfl
@[simp] theorem onSvc_prf (f : Svc → Svc) (s : State) : (s.onSvc f).prf = s.prf := rfl
@[simp] theorem onSvc_eng (f : Svc → Svc) (s : State) : (s.onSvc f).eng = s.eng := rfl
@[simp] theorem onSvc_pwm (f : Svc → Svc) (s : State) : (s.onSvc f).pwm = s.pwm := rfl
@[simp] theorem onSvc_drn (f : Svc → Svc) (s : State) : (s.onSvc f).drn = s.drn := rfl
@[simp] theorem onSvc_ine (f : Svc → Svc) (s : State) : (s.onSvc f).ine = s.ine := rfl
@[simp] theorem onSvc_shp (f : Svc → Svc) (s : State) : (s.onSvc f).shp = s.shp := rfl
@[simp] theorem onSvc_csf (f : Svc → Svc) (s : State) : (s.onSvc f).csf = s.csf := rfl
@[simp] theorem onSvc_ports (f : Svc → Svc) (s : State) : (s.onSvc f).ports = s.ports := rfl
@[simp] theorem onSvc_probes (f : Svc → Svc) (s : State) : (s.onSvc f).probes = s.probes := rfl
@[simp] theorem onSvc_menc (f : Svc → Svc) (s : State) : (s.onSvc f).menc = s.menc := rfl
@[simp] theorem onSvc_acq (f : Svc → Svc) (s : State) : (s.onSvc f).acq = s.acq := rfl
@[simp] theorem onSvc_ring (f : Svc → Svc) (s : State) : (s.onSvc f).ring = s.ring := rfl
@[simp] theorem onSvc_tim (f : Svc → Svc) (s : State) : (s.onSvc f).tim = s.tim := rfl
@[simp] theorem onSvc_dio (f : Svc → Svc) (s : State) : (s.onSvc f).dio = s.dio := rfl
@[simp] theorem onSvc_saf (f : Svc → Svc) (s : State) : (s.onSvc f).saf = s.saf := rfl
@[simp] theorem onSvc_svc (f : Svc → Svc) (s : State) : (s.onSvc f).svc = f s.svc := rfl
@[simp] theorem onSvc_jtag (f : Svc → Svc) (s : State) : (s.onSvc f).jtag = s.jtag := rfl
@[simp] theorem onJtag_pending (f : Jtag → Jtag) (s : State) : (s.onJtag f).pending = s.pending := rfl
@[simp] theorem onJtag_fresh (f : Jtag → Jtag) (s : State) : (s.onJtag f).fresh = s.fresh := rfl
@[simp] theorem onJtag_clk (f : Jtag → Jtag) (s : State) : (s.onJtag f).clk = s.clk := rfl
@[simp] theorem onJtag_regs (f : Jtag → Jtag) (s : State) : (s.onJtag f).regs = s.regs := rfl
@[simp] theorem onJtag_bulk (f : Jtag → Jtag) (s : State) : (s.onJtag f).bulk = s.bulk := rfl
@[simp] theorem onJtag_sets (f : Jtag → Jtag) (s : State) : (s.onJtag f).sets = s.sets := rfl
@[simp] theorem onJtag_bus (f : Jtag → Jtag) (s : State) : (s.onJtag f).bus = s.bus := rfl
@[simp] theorem onJtag_log (f : Jtag → Jtag) (s : State) : (s.onJtag f).log = s.log := rfl
@[simp] theorem onJtag_knl (f : Jtag → Jtag) (s : State) : (s.onJtag f).knl = s.knl := rfl
@[simp] theorem onJtag_que (f : Jtag → Jtag) (s : State) : (s.onJtag f).que = s.que := rfl
@[simp] theorem onJtag_boot (f : Jtag → Jtag) (s : State) : (s.onJtag f).boot = s.boot := rfl
@[simp] theorem onJtag_pow (f : Jtag → Jtag) (s : State) : (s.onJtag f).pow = s.pow := rfl
@[simp] theorem onJtag_axes (f : Jtag → Jtag) (s : State) : (s.onJtag f).axes = s.axes := rfl
@[simp] theorem onJtag_lim (f : Jtag → Jtag) (s : State) : (s.onJtag f).lim = s.lim := rfl
@[simp] theorem onJtag_prf (f : Jtag → Jtag) (s : State) : (s.onJtag f).prf = s.prf := rfl
@[simp] theorem onJtag_eng (f : Jtag → Jtag) (s : State) : (s.onJtag f).eng = s.eng := rfl
@[simp] theorem onJtag_pwm (f : Jtag → Jtag) (s : State) : (s.onJtag f).pwm = s.pwm := rfl
@[simp] theorem onJtag_drn (f : Jtag → Jtag) (s : State) : (s.onJtag f).drn = s.drn := rfl
@[simp] theorem onJtag_ine (f : Jtag → Jtag) (s : State) : (s.onJtag f).ine = s.ine := rfl
@[simp] theorem onJtag_shp (f : Jtag → Jtag) (s : State) : (s.onJtag f).shp = s.shp := rfl
@[simp] theorem onJtag_csf (f : Jtag → Jtag) (s : State) : (s.onJtag f).csf = s.csf := rfl
@[simp] theorem onJtag_ports (f : Jtag → Jtag) (s : State) : (s.onJtag f).ports = s.ports := rfl
@[simp] theorem onJtag_probes (f : Jtag → Jtag) (s : State) : (s.onJtag f).probes = s.probes := rfl
@[simp] theorem onJtag_menc (f : Jtag → Jtag) (s : State) : (s.onJtag f).menc = s.menc := rfl
@[simp] theorem onJtag_acq (f : Jtag → Jtag) (s : State) : (s.onJtag f).acq = s.acq := rfl
@[simp] theorem onJtag_ring (f : Jtag → Jtag) (s : State) : (s.onJtag f).ring = s.ring := rfl
@[simp] theorem onJtag_tim (f : Jtag → Jtag) (s : State) : (s.onJtag f).tim = s.tim := rfl
@[simp] theorem onJtag_dio (f : Jtag → Jtag) (s : State) : (s.onJtag f).dio = s.dio := rfl
@[simp] theorem onJtag_saf (f : Jtag → Jtag) (s : State) : (s.onJtag f).saf = s.saf := rfl
@[simp] theorem onJtag_svc (f : Jtag → Jtag) (s : State) : (s.onJtag f).svc = s.svc := rfl
@[simp] theorem onJtag_jtag (f : Jtag → Jtag) (s : State) : (s.onJtag f).jtag = f s.jtag := rfl

end Sys2Proof.Machine
end

