-- ==== Sys2Proof/Laws/Regs.lean ====
section
/-! SUPPORT. The laws of the register words: what a word and a field read as after a write. -/

namespace Sys2Proof.Machine

/-! ### Words -/

theorem State.rd_wr (s : State) (a v b : Nat) : (s.wr a v).rd b = if b = a then v % 2 ^ 32 else s.rd b := by
  simp only [State.rd, State.wr, State.onRegs]
  by_cases h : b = a
  · subst h; simp [tabFind_tabSet_same, BitVec.toNat_ofNat]
  · simp [tabFind_tabSet_ne, h]

@[simp] theorem State.rd_wr_same (s : State) (a v : Nat) : (s.wr a v).rd a = v % 2 ^ 32 := by rw [State.rd_wr, if_pos rfl]

theorem State.rd_wr_ne (s : State) {a b : Nat} (v : Nat) (h : b ≠ a) : (s.wr a v).rd b = s.rd b := by rw [State.rd_wr, if_neg h]

/-! ### Fields -/

theorem fldOf_mod (f : Fld) (w : Nat) (h : f.lo + f.width ≤ 32) : fldOf f (w % 2 ^ 32) = fldOf f w := by
  simp only [fldOf]
  have e : (2 : Nat) ^ 32 = 2 ^ f.lo * 2 ^ (32 - f.lo) := by rw [← pow_add]; congr 1; omega
  have d : 2 ^ f.width ∣ 2 ^ (32 - f.lo) := Nat.pow_dvd_pow 2 (by omega)
  rw [e, Nat.mod_mul_right_div_self, Nat.mod_mod_of_dvd _ d]

theorem fldOf_fldPut (f : Fld) (v w : Nat) : fldOf f (fldPut f v w) = v % 2 ^ f.width := by
  simp only [fldOf, fldPut]
  have hl : w % 2 ^ f.lo < 2 ^ f.lo := Nat.mod_lt _ (by positivity)
  have e : w / 2 ^ (f.lo + f.width) * 2 ^ (f.lo + f.width) + v % 2 ^ f.width * 2 ^ f.lo + w % 2 ^ f.lo
      = 2 ^ f.lo * (w / 2 ^ (f.lo + f.width) * 2 ^ f.width + v % 2 ^ f.width) + w % 2 ^ f.lo := by rw [pow_add]; ring
  rw [e, Nat.mul_add_div (by positivity), Nat.div_eq_of_lt hl, Nat.add_zero, Nat.mul_comm, Nat.mul_add_mod, Nat.mod_mod]

/-- A field that lies above another one in the same word is left alone. -/
theorem fldOf_fldPut_above (f g : Fld) (v w : Nat) (h : f.lo + f.width ≤ g.lo) : fldOf g (fldPut f v w) = fldOf g w := by
  simp only [fldOf, fldPut]
  have hl : v % 2 ^ f.width * 2 ^ f.lo + w % 2 ^ f.lo < 2 ^ (f.lo + f.width) := by
    have a : v % 2 ^ f.width < 2 ^ f.width := Nat.mod_lt _ (by positivity)
    have b : w % 2 ^ f.lo < 2 ^ f.lo := Nat.mod_lt _ (by positivity)
    have c : (v % 2 ^ f.width + 1) * 2 ^ f.lo ≤ 2 ^ f.width * 2 ^ f.lo := Nat.mul_le_mul_right _ a
    rw [pow_add]; nlinarith
  congr 1
  have e : (2 : Nat) ^ g.lo = 2 ^ (f.lo + f.width) * 2 ^ (g.lo - (f.lo + f.width)) := by rw [← pow_add]; congr 1; omega
  rw [e, ← Nat.div_div_eq_div_mul, ← Nat.div_div_eq_div_mul, Nat.add_assoc, Nat.mul_comm, Nat.mul_add_div (by positivity),
    Nat.div_eq_of_lt hl, Nat.add_zero]

/-- A field that lies below another one in the same word is left alone. -/
theorem fldOf_fldPut_below (f g : Fld) (v w : Nat) (h : g.lo + g.width ≤ f.lo) : fldOf g (fldPut f v w) = fldOf g w := by
  simp only [fldOf, fldPut]
  have hd : ∀ x, x % 2 ^ f.lo / 2 ^ g.lo % 2 ^ g.width = x / 2 ^ g.lo % 2 ^ g.width := fun x => by
    have e : (2 : Nat) ^ f.lo = 2 ^ g.lo * 2 ^ (f.lo - g.lo) := by rw [← pow_add]; congr 1; omega
    have d : 2 ^ g.width ∣ 2 ^ (f.lo - g.lo) := Nat.pow_dvd_pow 2 (by omega)
    rw [e, Nat.mod_mul_right_div_self, Nat.mod_mod_of_dvd _ d]
  have e : w / 2 ^ (f.lo + f.width) * 2 ^ (f.lo + f.width) + v % 2 ^ f.width * 2 ^ f.lo + w % 2 ^ f.lo
      = 2 ^ f.lo * (w / 2 ^ (f.lo + f.width) * 2 ^ f.width + v % 2 ^ f.width) + w % 2 ^ f.lo := by rw [pow_add]; ring
  rw [← hd, e, Nat.mul_add_mod, Nat.mod_mod, hd]

/-- A field of a word reads as what was put into it. -/
theorem State.get_put_same (s : State) (f : Fld) (v : Nat) (h : f.lo + f.width ≤ 32) : (s.put f v).get f = v % 2 ^ f.width := by
  simp only [State.get, State.put, State.rd_wr_same]
  rw [fldOf_mod _ _ h, fldOf_fldPut]

/-- A field of another word is left alone. -/
theorem State.get_put_ne (s : State) (f g : Fld) (v : Nat) (h : g.addr ≠ f.addr) : (s.put f v).get g = s.get g := by
  simp only [State.get, State.put, State.rd_wr_ne _ _ h]

/-- Another field of the same word is left alone. -/
theorem State.get_put_other (s : State) (f g : Fld) (v : Nat) (h : f.lo + f.width ≤ g.lo ∨ g.lo + g.width ≤ f.lo)
    (hg : g.lo + g.width ≤ 32) : (s.put f v).get g = s.get g := by
  by_cases a : g.addr = f.addr
  · simp only [State.get, State.put, a, State.rd_wr_same]
    rw [fldOf_mod _ _ hg]
    rcases h with h | h
    · exact fldOf_fldPut_above f g v _ h
    · exact fldOf_fldPut_below f g v _ h
  · exact State.get_put_ne s f g v a

/-- A word other than the field's is left alone. -/
theorem State.rd_put_ne (s : State) (f : Fld) (v : Nat) {b : Nat} (h : b ≠ f.addr) : (s.put f v).rd b = s.rd b :=
  State.rd_wr_ne s _ h

theorem State.get_wr_same (s : State) (f : Fld) (v : Nat) (h : f.lo + f.width ≤ 32) : (s.wr f.addr v).get f = fldOf f v := by
  simp only [State.get, State.rd_wr_same]
  exact fldOf_mod _ _ h

theorem State.get_wr_ne (s : State) (f : Fld) {a : Nat} (v : Nat) (h : f.addr ≠ a) : (s.wr a v).get f = s.get f := by
  simp only [State.get, State.rd_wr_ne _ _ h]

theorem State.get_lt (s : State) (f : Fld) : s.get f < 2 ^ f.width := Nat.mod_lt _ (by positivity)

/-! ### The other parts of the state hold no register -/

@[simp] theorem State.rd_onFresh (s : State) (f) (a : Nat) : (s.onFresh f).rd a = s.rd a := rfl
@[simp] theorem State.get_onFresh (s : State) (f) (g : Fld) : (s.onFresh f).get g = s.get g := rfl
@[simp] theorem State.rd_onClk (s : State) (f) (a : Nat) : (s.onClk f).rd a = s.rd a := rfl
@[simp] theorem State.get_onClk (s : State) (f) (g : Fld) : (s.onClk f).get g = s.get g := rfl
@[simp] theorem State.rd_onBulk (s : State) (f) (a : Nat) : (s.onBulk f).rd a = s.rd a := rfl
@[simp] theorem State.get_onBulk (s : State) (f) (g : Fld) : (s.onBulk f).get g = s.get g := rfl
@[simp] theorem State.rd_onBus (s : State) (f) (a : Nat) : (s.onBus f).rd a = s.rd a := rfl
@[simp] theorem State.get_onBus (s : State) (f) (g : Fld) : (s.onBus f).get g = s.get g := rfl
@[simp] theorem State.rd_onLog (s : State) (f) (a : Nat) : (s.onLog f).rd a = s.rd a := rfl
@[simp] theorem State.get_onLog (s : State) (f) (g : Fld) : (s.onLog f).get g = s.get g := rfl
@[simp] theorem State.rd_onKnl (s : State) (f) (a : Nat) : (s.onKnl f).rd a = s.rd a := rfl
@[simp] theorem State.get_onKnl (s : State) (f) (g : Fld) : (s.onKnl f).get g = s.get g := rfl
@[simp] theorem State.rd_onQue (s : State) (f) (a : Nat) : (s.onQue f).rd a = s.rd a := rfl
@[simp] theorem State.get_onQue (s : State) (f) (g : Fld) : (s.onQue f).get g = s.get g := rfl
@[simp] theorem State.rd_onBoot (s : State) (f) (a : Nat) : (s.onBoot f).rd a = s.rd a := rfl
@[simp] theorem State.get_onBoot (s : State) (f) (g : Fld) : (s.onBoot f).get g = s.get g := rfl
@[simp] theorem State.rd_onPow (s : State) (f) (a : Nat) : (s.onPow f).rd a = s.rd a := rfl
@[simp] theorem State.get_onPow (s : State) (f) (g : Fld) : (s.onPow f).get g = s.get g := rfl
@[simp] theorem State.rd_onAxes (s : State) (f) (a : Nat) : (s.onAxes f).rd a = s.rd a := rfl
@[simp] theorem State.get_onAxes (s : State) (f) (g : Fld) : (s.onAxes f).get g = s.get g := rfl
@[simp] theorem State.rd_onLim (s : State) (f) (a : Nat) : (s.onLim f).rd a = s.rd a := rfl
@[simp] theorem State.get_onLim (s : State) (f) (g : Fld) : (s.onLim f).get g = s.get g := rfl
@[simp] theorem State.rd_onPrf (s : State) (f) (a : Nat) : (s.onPrf f).rd a = s.rd a := rfl
@[simp] theorem State.get_onPrf (s : State) (f) (g : Fld) : (s.onPrf f).get g = s.get g := rfl
@[simp] theorem State.rd_onEng (s : State) (f) (a : Nat) : (s.onEng f).rd a = s.rd a := rfl
@[simp] theorem State.get_onEng (s : State) (f) (g : Fld) : (s.onEng f).get g = s.get g := rfl
@[simp] theorem State.rd_onPwm (s : State) (f) (a : Nat) : (s.onPwm f).rd a = s.rd a := rfl
@[simp] theorem State.get_onPwm (s : State) (f) (g : Fld) : (s.onPwm f).get g = s.get g := rfl
@[simp] theorem State.rd_onDrn (s : State) (f) (a : Nat) : (s.onDrn f).rd a = s.rd a := rfl
@[simp] theorem State.get_onDrn (s : State) (f) (g : Fld) : (s.onDrn f).get g = s.get g := rfl
@[simp] theorem State.rd_onIne (s : State) (f) (a : Nat) : (s.onIne f).rd a = s.rd a := rfl
@[simp] theorem State.get_onIne (s : State) (f) (g : Fld) : (s.onIne f).get g = s.get g := rfl
@[simp] theorem State.rd_onShp (s : State) (f) (a : Nat) : (s.onShp f).rd a = s.rd a := rfl
@[simp] theorem State.get_onShp (s : State) (f) (g : Fld) : (s.onShp f).get g = s.get g := rfl
@[simp] theorem State.rd_onCsf (s : State) (f) (a : Nat) : (s.onCsf f).rd a = s.rd a := rfl
@[simp] theorem State.get_onCsf (s : State) (f) (g : Fld) : (s.onCsf f).get g = s.get g := rfl
@[simp] theorem State.rd_onPorts (s : State) (f) (a : Nat) : (s.onPorts f).rd a = s.rd a := rfl
@[simp] theorem State.get_onPorts (s : State) (f) (g : Fld) : (s.onPorts f).get g = s.get g := rfl
@[simp] theorem State.rd_onProbes (s : State) (f) (a : Nat) : (s.onProbes f).rd a = s.rd a := rfl
@[simp] theorem State.get_onProbes (s : State) (f) (g : Fld) : (s.onProbes f).get g = s.get g := rfl
@[simp] theorem State.rd_onMenc (s : State) (f) (a : Nat) : (s.onMenc f).rd a = s.rd a := rfl
@[simp] theorem State.get_onMenc (s : State) (f) (g : Fld) : (s.onMenc f).get g = s.get g := rfl
@[simp] theorem State.rd_onAcq (s : State) (f) (a : Nat) : (s.onAcq f).rd a = s.rd a := rfl
@[simp] theorem State.get_onAcq (s : State) (f) (g : Fld) : (s.onAcq f).get g = s.get g := rfl
@[simp] theorem State.rd_onRing (s : State) (f) (a : Nat) : (s.onRing f).rd a = s.rd a := rfl
@[simp] theorem State.get_onRing (s : State) (f) (g : Fld) : (s.onRing f).get g = s.get g := rfl
@[simp] theorem State.rd_onTim (s : State) (f) (a : Nat) : (s.onTim f).rd a = s.rd a := rfl
@[simp] theorem State.get_onTim (s : State) (f) (g : Fld) : (s.onTim f).get g = s.get g := rfl
@[simp] theorem State.rd_onDio (s : State) (f) (a : Nat) : (s.onDio f).rd a = s.rd a := rfl
@[simp] theorem State.get_onDio (s : State) (f) (g : Fld) : (s.onDio f).get g = s.get g := rfl
@[simp] theorem State.rd_onSaf (s : State) (f) (a : Nat) : (s.onSaf f).rd a = s.rd a := rfl
@[simp] theorem State.get_onSaf (s : State) (f) (g : Fld) : (s.onSaf f).get g = s.get g := rfl
@[simp] theorem State.rd_onSvc (s : State) (f) (a : Nat) : (s.onSvc f).rd a = s.rd a := rfl
@[simp] theorem State.get_onSvc (s : State) (f) (g : Fld) : (s.onSvc f).get g = s.get g := rfl
@[simp] theorem State.rd_onJtag (s : State) (f) (a : Nat) : (s.onJtag f).rd a = s.rd a := rfl
@[simp] theorem State.get_onJtag (s : State) (f) (g : Fld) : (s.onJtag f).get g = s.get g := rfl

@[simp] theorem State.rd_elapse (s : State) (dt a : Nat) : (s.elapse dt).rd a = s.rd a := rfl
@[simp] theorem State.get_elapse (s : State) (dt : Nat) (f : Fld) : (s.elapse dt).get f = s.get f := rfl
@[simp] theorem State.flag_elapse (s : State) (dt : Nat) (f : Fld) : (s.elapse dt).flag f = s.flag f := rfl

end Sys2Proof.Machine
end

