-- ==== Sys2Proof/Laws/Keeps.lean ====
section
/-! SUPPORT. What an operation leaves alone: `Keeps m s t` says that `t` differs from `s` at most in the parts `m` of the
state, that the waiting commands are the same, and that `t` is safe if `s` is. Every operation and every command has such a
lemma (the files Laws/Keeps…); the lemmas of the primitive updates are here. -/

namespace Sys2Proof.Machine

/-- Is every part of the first list in the second? -/
def within (k m : List Part) : Bool := k.all m.contains

theorem within_refl (m : List Part) : within m m = true := by simp [within]

theorem within_trans {k l m : List Part} (h : within l m = true) (d : within k l = true) : within k m = true := by
  simp only [within, List.all_eq_true, List.contains_iff_mem] at *
  exact fun x hx => h x (d x hx)

/-- `t` differs from `s` at most in the parts `m`; the waiting commands are the same, and safety is kept. -/
structure Keeps (m : List Part) (s t : State) : Prop where
  pending : t.pending = s.pending
  safe : Safe s → Safe t
  same : ∀ p, p ∉ m → p.Same s t

variable {m : List Part} {s0 s : State}

theorem Keeps.refl (m : List Part) (s : State) : Keeps m s s := ⟨rfl, id, fun p _ => by cases p <;> first | rfl | exact fun _ _ => rfl⟩

theorem Keeps.trans {t u : State} (h : Keeps m s0 t) (k : Keeps m t u) : Keeps m s0 u :=
  ⟨k.pending.trans h.pending, fun g => k.safe (h.safe g), fun p hp => by
    have a := h.same p hp
    have b := k.same p hp
    cases p <;> first | exact Eq.trans b a | exact fun x hx => (b x hx).trans (a x hx)⟩

theorem Keeps.mono {k : List Part} {t : State} (h : Keeps k s t) (d : within k m = true) : Keeps m s t :=
  ⟨h.pending, h.safe, fun p hp => h.same p fun c => hp (by
    simp only [within, List.all_eq_true, List.contains_iff_mem] at d
    exact d p c)⟩

theorem keeps_ite {c : Prop} [Decidable c] {a b : State} (ha : c → Keeps m s0 a) (hb : ¬c → Keeps m s0 b) :
    Keeps m s0 (if c then a else b) := by
  split
  · exact ha ‹_›
  · exact hb ‹_›

theorem keeps_foldl {α : Type} {f : State → α → State} (hf : ∀ s x, Keeps m s0 s → Keeps m s0 (f s x)) (l : List α)
    (h : Keeps m s0 s) : Keeps m s0 (l.foldl f s) := by
  induction l generalizing s with
  | nil => exact h
  | cons x l ih => exact ih (hf s x h)

theorem keeps_foldl_snd {α β : Type} {f : β × State → α → β × State} (hf : ∀ p x, Keeps m s0 p.2 → Keeps m s0 (f p x).2)
    (l : List α) {p : β × State} (h : Keeps m s0 p.2) : Keeps m s0 (l.foldl f p).2 := by
  induction l generalizing p with
  | nil => exact h
  | cons x l ih => exact ih (hf p x h)

theorem keeps_pair {α : Type} {p : α × State} {r : α} {t : State} (e : p = (r, t)) (h : Keeps m s0 p.2) : Keeps m s0 t := by
  subst e; exact h

theorem keeps_getD {o : Option State} {d : State} (ho : ∀ t, o = some t → Keeps m s0 t) (hd : Keeps m s0 d) :
    Keeps m s0 (o.getD d) := by
  cases o with
  | none => exact hd
  | some t => exact ho t rfl

/-! ### The primitive updates -/

theorem State.onFresh_keeps {f} (h : Keeps m s0 s) (hm : within [.fresh] m = true) : Keeps m s0 (s.onFresh f) :=
  ⟨h.pending, fun g0 => by have g := h.safe g0; exact ⟨g.bulk, g.space, g.ns, g.sec, g.frac, g.bufs, g.ring⟩, fun p hp => by cases p <;> first | exact h.same _ hp | (exfalso; revert hm; simp [within]; exact hp)⟩

theorem State.onClk_keeps {f : Clk → Clk} (hf : ∀ c : Clk, c.ns < 10 ^ 9 → c.sec < 2 ^ 48 → c.frac < 2 ^ 32 → (f c).ns < 10 ^ 9 ∧ (f c).sec < 2 ^ 48 ∧ (f c).frac < 2 ^ 32)
    (h : Keeps m s0 s) (hm : within [.clk] m = true) : Keeps m s0 (s.onClk f) :=
  ⟨h.pending, fun g0 => by have g := h.safe g0; exact ⟨g.bulk, g.space, (hf _ g.ns g.sec g.frac).1, (hf _ g.ns g.sec g.frac).2.1, (hf _ g.ns g.sec g.frac).2.2, g.bufs, g.ring⟩, fun p hp => by cases p <;> first | exact h.same _ hp | (exfalso; revert hm; simp [within]; exact hp)⟩

theorem State.onBulk_keeps {f : List Host.Cell → List Host.Cell} (hf : ∀ b, Memory.wf b = true → (b.all fun c => inBulk c.1) = true → Memory.wf (f b) = true ∧ ((f b).all fun c => inBulk c.1) = true)
    (h : Keeps m s0 s) (hm : within [.bulk] m = true) : Keeps m s0 (s.onBulk f) :=
  ⟨h.pending, fun g0 => by have g := h.safe g0; exact ⟨(hf _ g.bulk g.space).1, (hf _ g.bulk g.space).2, g.ns, g.sec, g.frac, g.bufs, g.ring⟩, fun p hp => by cases p <;> first | exact h.same _ hp | (exfalso; revert hm; simp [within]; exact hp)⟩

theorem State.onSets_keeps {f} (h : Keeps m s0 s) (hm : within [.sets] m = true) : Keeps m s0 (s.onSets f) :=
  ⟨h.pending, fun g0 => by have g := h.safe g0; exact ⟨g.bulk, g.space, g.ns, g.sec, g.frac, g.bufs, g.ring⟩, fun p hp => by cases p <;> first | exact h.same _ hp | (exfalso; revert hm; simp [within]; exact hp)⟩

theorem State.onBus_keeps {f} (h : Keeps m s0 s) (hm : within [.bus] m = true) : Keeps m s0 (s.onBus f) :=
  ⟨h.pending, fun g0 => by have g := h.safe g0; exact ⟨g.bulk, g.space, g.ns, g.sec, g.frac, g.bufs, g.ring⟩, fun p hp => by cases p <;> first | exact h.same _ hp | (exfalso; revert hm; simp [within]; exact hp)⟩

theorem State.onLog_keeps {f : ErrLog → ErrLog} (hf : ∀ l : ErrLog, (∀ i, (tabGet [] l.bufs i).length ≤ 4) → l.ring.length ≤ 1024 →
      (∀ i, (tabGet [] (f l).bufs i).length ≤ 4) ∧ (f l).ring.length ≤ 1024)
    (h : Keeps m s0 s) (hm : within [.log] m = true) : Keeps m s0 (s.onLog f) :=
  ⟨h.pending, fun g0 => by have g := h.safe g0; exact ⟨g.bulk, g.space, g.ns, g.sec, g.frac, (hf _ g.bufs g.ring).1, (hf _ g.bufs g.ring).2⟩, fun p hp => by cases p <;> first | exact h.same _ hp | (exfalso; revert hm; simp [within]; exact hp)⟩

theorem State.onKnl_keeps {f} (h : Keeps m s0 s) (hm : within [.knl] m = true) : Keeps m s0 (s.onKnl f) :=
  ⟨h.pending, fun g0 => by have g := h.safe g0; exact ⟨g.bulk, g.space, g.ns, g.sec, g.frac, g.bufs, g.ring⟩, fun p hp => by cases p <;> first | exact h.same _ hp | (exfalso; revert hm; simp [within]; exact hp)⟩

theorem State.onQue_keeps {f} (h : Keeps m s0 s) (hm : within [.que] m = true) : Keeps m s0 (s.onQue f) :=
  ⟨h.pending, fun g0 => by have g := h.safe g0; exact ⟨g.bulk, g.space, g.ns, g.sec, g.frac, g.bufs, g.ring⟩, fun p hp => by cases p <;> first | exact h.same _ hp | (exfalso; revert hm; simp [within]; exact hp)⟩

theorem State.onBoot_keeps {f} (h : Keeps m s0 s) (hm : within [.boot] m = true) : Keeps m s0 (s.onBoot f) :=
  ⟨h.pending, fun g0 => by have g := h.safe g0; exact ⟨g.bulk, g.space, g.ns, g.sec, g.frac, g.bufs, g.ring⟩, fun p hp => by cases p <;> first | exact h.same _ hp | (exfalso; revert hm; simp [within]; exact hp)⟩

theorem State.onPow_keeps {f} (h : Keeps m s0 s) (hm : within [.pow] m = true) : Keeps m s0 (s.onPow f) :=
  ⟨h.pending, fun g0 => by have g := h.safe g0; exact ⟨g.bulk, g.space, g.ns, g.sec, g.frac, g.bufs, g.ring⟩, fun p hp => by cases p <;> first | exact h.same _ hp | (exfalso; revert hm; simp [within]; exact hp)⟩

theorem State.onAxes_keeps {f} (h : Keeps m s0 s) (hm : within [.axes] m = true) : Keeps m s0 (s.onAxes f) :=
  ⟨h.pending, fun g0 => by have g := h.safe g0; exact ⟨g.bulk, g.space, g.ns, g.sec, g.frac, g.bufs, g.ring⟩, fun p hp => by cases p <;> first | exact h.same _ hp | (exfalso; revert hm; simp [within]; exact hp)⟩

theorem State.onLim_keeps {f} (h : Keeps m s0 s) (hm : within [.lim] m = true) : Keeps m s0 (s.onLim f) :=
  ⟨h.pending, fun g0 => by have g := h.safe g0; exact ⟨g.bulk, g.space, g.ns, g.sec, g.frac, g.bufs, g.ring⟩, fun p hp => by cases p <;> first | exact h.same _ hp | (exfalso; revert hm; simp [within]; exact hp)⟩

theorem State.onPrf_keeps {f} (h : Keeps m s0 s) (hm : within [.prf] m = true) : Keeps m s0 (s.onPrf f) :=
  ⟨h.pending, fun g0 => by have g := h.safe g0; exact ⟨g.bulk, g.space, g.ns, g.sec, g.frac, g.bufs, g.ring⟩, fun p hp => by cases p <;> first | exact h.same _ hp | (exfalso; revert hm; simp [within]; exact hp)⟩

theorem State.onEng_keeps {f} (h : Keeps m s0 s) (hm : within [.eng] m = true) : Keeps m s0 (s.onEng f) :=
  ⟨h.pending, fun g0 => by have g := h.safe g0; exact ⟨g.bulk, g.space, g.ns, g.sec, g.frac, g.bufs, g.ring⟩, fun p hp => by cases p <;> first | exact h.same _ hp | (exfalso; revert hm; simp [within]; exact hp)⟩

theorem State.onPwm_keeps {f} (h : Keeps m s0 s) (hm : within [.pwm] m = true) : Keeps m s0 (s.onPwm f) :=
  ⟨h.pending, fun g0 => by have g := h.safe g0; exact ⟨g.bulk, g.space, g.ns, g.sec, g.frac, g.bufs, g.ring⟩, fun p hp => by cases p <;> first | exact h.same _ hp | (exfalso; revert hm; simp [within]; exact hp)⟩

theorem State.onDrn_keeps {f} (h : Keeps m s0 s) (hm : within [.drn] m = true) : Keeps m s0 (s.onDrn f) :=
  ⟨h.pending, fun g0 => by have g := h.safe g0; exact ⟨g.bulk, g.space, g.ns, g.sec, g.frac, g.bufs, g.ring⟩, fun p hp => by cases p <;> first | exact h.same _ hp | (exfalso; revert hm; simp [within]; exact hp)⟩

theorem State.onIne_keeps {f} (h : Keeps m s0 s) (hm : within [.ine] m = true) : Keeps m s0 (s.onIne f) :=
  ⟨h.pending, fun g0 => by have g := h.safe g0; exact ⟨g.bulk, g.space, g.ns, g.sec, g.frac, g.bufs, g.ring⟩, fun p hp => by cases p <;> first | exact h.same _ hp | (exfalso; revert hm; simp [within]; exact hp)⟩

theorem State.onShp_keeps {f} (h : Keeps m s0 s) (hm : within [.shp] m = true) : Keeps m s0 (s.onShp f) :=
  ⟨h.pending, fun g0 => by have g := h.safe g0; exact ⟨g.bulk, g.space, g.ns, g.sec, g.frac, g.bufs, g.ring⟩, fun p hp => by cases p <;> first | exact h.same _ hp | (exfalso; revert hm; simp [within]; exact hp)⟩

theorem State.onCsf_keeps {f} (h : Keeps m s0 s) (hm : within [.csf] m = true) : Keeps m s0 (s.onCsf f) :=
  ⟨h.pending, fun g0 => by have g := h.safe g0; exact ⟨g.bulk, g.space, g.ns, g.sec, g.frac, g.bufs, g.ring⟩, fun p hp => by cases p <;> first | exact h.same _ hp | (exfalso; revert hm; simp [within]; exact hp)⟩

theorem State.onPorts_keeps {f} (h : Keeps m s0 s) (hm : within [.ports] m = true) : Keeps m s0 (s.onPorts f) :=
  ⟨h.pending, fun g0 => by have g := h.safe g0; exact ⟨g.bulk, g.space, g.ns, g.sec, g.frac, g.bufs, g.ring⟩, fun p hp => by cases p <;> first | exact h.same _ hp | (exfalso; revert hm; simp [within]; exact hp)⟩

theorem State.onProbes_keeps {f} (h : Keeps m s0 s) (hm : within [.probes] m = true) : Keeps m s0 (s.onProbes f) :=
  ⟨h.pending, fun g0 => by have g := h.safe g0; exact ⟨g.bulk, g.space, g.ns, g.sec, g.frac, g.bufs, g.ring⟩, fun p hp => by cases p <;> first | exact h.same _ hp | (exfalso; revert hm; simp [within]; exact hp)⟩

theorem State.onMenc_keeps {f} (h : Keeps m s0 s) (hm : within [.menc] m = true) : Keeps m s0 (s.onMenc f) :=
  ⟨h.pending, fun g0 => by have g := h.safe g0; exact ⟨g.bulk, g.space, g.ns, g.sec, g.frac, g.bufs, g.ring⟩, fun p hp => by cases p <;> first | exact h.same _ hp | (exfalso; revert hm; simp [within]; exact hp)⟩

theorem State.onAcq_keeps {f} (h : Keeps m s0 s) (hm : within [.acq] m = true) : Keeps m s0 (s.onAcq f) :=
  ⟨h.pending, fun g0 => by have g := h.safe g0; exact ⟨g.bulk, g.space, g.ns, g.sec, g.frac, g.bufs, g.ring⟩, fun p hp => by cases p <;> first | exact h.same _ hp | (exfalso; revert hm; simp [within]; exact hp)⟩

theorem State.onRing_keeps {f} (h : Keeps m s0 s) (hm : within [.ring] m = true) : Keeps m s0 (s.onRing f) :=
  ⟨h.pending, fun g0 => by have g := h.safe g0; exact ⟨g.bulk, g.space, g.ns, g.sec, g.frac, g.bufs, g.ring⟩, fun p hp => by cases p <;> first | exact h.same _ hp | (exfalso; revert hm; simp [within]; exact hp)⟩

theorem State.onTim_keeps {f} (h : Keeps m s0 s) (hm : within [.tim] m = true) : Keeps m s0 (s.onTim f) :=
  ⟨h.pending, fun g0 => by have g := h.safe g0; exact ⟨g.bulk, g.space, g.ns, g.sec, g.frac, g.bufs, g.ring⟩, fun p hp => by cases p <;> first | exact h.same _ hp | (exfalso; revert hm; simp [within]; exact hp)⟩

theorem State.onDio_keeps {f} (h : Keeps m s0 s) (hm : within [.dio] m = true) : Keeps m s0 (s.onDio f) :=
  ⟨h.pending, fun g0 => by have g := h.safe g0; exact ⟨g.bulk, g.space, g.ns, g.sec, g.frac, g.bufs, g.ring⟩, fun p hp => by cases p <;> first | exact h.same _ hp | (exfalso; revert hm; simp [within]; exact hp)⟩

theorem State.onSaf_keeps {f} (h : Keeps m s0 s) (hm : within [.saf] m = true) : Keeps m s0 (s.onSaf f) :=
  ⟨h.pending, fun g0 => by have g := h.safe g0; exact ⟨g.bulk, g.space, g.ns, g.sec, g.frac, g.bufs, g.ring⟩, fun p hp => by cases p <;> first | exact h.same _ hp | (exfalso; revert hm; simp [within]; exact hp)⟩

theorem State.onSvc_keeps {f} (h : Keeps m s0 s) (hm : within [.svc] m = true) : Keeps m s0 (s.onSvc f) :=
  ⟨h.pending, fun g0 => by have g := h.safe g0; exact ⟨g.bulk, g.space, g.ns, g.sec, g.frac, g.bufs, g.ring⟩, fun p hp => by cases p <;> first | exact h.same _ hp | (exfalso; revert hm; simp [within]; exact hp)⟩

theorem State.onJtag_keeps {f} (h : Keeps m s0 s) (hm : within [.jtag] m = true) : Keeps m s0 (s.onJtag f) :=
  ⟨h.pending, fun g0 => by have g := h.safe g0; exact ⟨g.bulk, g.space, g.ns, g.sec, g.frac, g.bufs, g.ring⟩, fun p hp => by cases p <;> first | exact h.same _ hp | (exfalso; revert hm; simp [within]; exact hp)⟩

/-! ### Register words -/

/-- The words at `a` and `a + 4` lie in block `b`. -/
def InBlk (b : Block) (a : Nat) : Prop := a / 0x1000000 = b.num ∧ (a + 4) / 0x1000000 = b.num

theorem whole_blk {b : Block} {a : Nat} (h : InBlk b a) : InBlk b (whole a).addr := h

theorem blk_ite {b : Block} {c : Prop} [Decidable c] {f g : Fld} (hf : InBlk b f.addr) (hg : InBlk b g.addr) :
    InBlk b (if c then f else g).addr := by
  split
  · exact hf
  · exact hg

theorem Block.num_inj {b c : Block} (h : b.num = c.num) : b = c := by cases b <;> cases c <;> first | rfl | (exfalso; revert h; decide)

theorem State.wr_keeps_of {a v : Nat} {b : Block} (hb : a / 0x1000000 = b.num) (h : Keeps m s0 s) (hm : within [.reg b] m = true) :
    Keeps m s0 (s.wr a v) := by
  refine ⟨h.pending, fun g0 => by have g := h.safe g0; exact ⟨g.bulk, g.space, g.ns, g.sec, g.frac, g.bufs, g.ring⟩, fun p hp => ?_⟩
  cases p with
  | reg c =>
    intro x hx
    rw [State.rd_wr_ne]
    · exact h.same _ hp x hx
    · intro e
      subst e
      have : b = c := Block.num_inj (hb.symm.trans hx)
      subst this
      simp [within] at hm
      exact hp hm
  | _ => exact h.same _ hp

theorem State.wr_keeps {a v : Nat} {b : Block} (hb : InBlk b a) (h : Keeps m s0 s) (hm : within [.reg b] m = true) :
    Keeps m s0 (s.wr a v) := State.wr_keeps_of hb.1 h hm

/-- A write at an address of no known block. -/
theorem State.wr_keeps_any {a v : Nat} (h : Keeps m s0 s) (hm : within [.reg .cfg, .reg .lsh, .reg .prf, .reg .eng, .reg .csf, .reg .fbk, .reg .pwm, .reg .knl, .reg .que, .reg .acq, .reg .rng, .reg .tim, .reg .dio, .reg .saf, .reg .err] m = true) : Keeps m s0 (s.wr a v) := by
  refine ⟨h.pending, fun g0 => by have g := h.safe g0; exact ⟨g.bulk, g.space, g.ns, g.sec, g.frac, g.bufs, g.ring⟩, fun p hp => ?_⟩
  cases p with
  | reg c => exact absurd (by simp only [within, List.all_eq_true, List.contains_iff_mem] at hm; exact hm _ (by cases c <;> decide)) hp
  | _ => exact h.same _ hp

theorem State.wr64_keeps {a v : Nat} {b : Block} (hb : InBlk b a) (h : Keeps m s0 s) (hm : within [.reg b] m = true) :
    Keeps m s0 (s.wr64 a v) := State.wr_keeps_of hb.2 (State.wr_keeps_of hb.1 h hm) hm

theorem State.wr64S_keeps {a : Nat} {v : Int} {b : Block} (hb : InBlk b a) (h : Keeps m s0 s) (hm : within [.reg b] m = true) :
    Keeps m s0 (s.wr64S a v) := State.wr64_keeps hb h hm

theorem State.setBit64_keeps {a c : Nat} {v : Bool} {b : Block} (hb : InBlk b a) (h : Keeps m s0 s) (hm : within [.reg b] m = true) :
    Keeps m s0 (s.setBit64 a c v) := State.wr64_keeps hb h hm

theorem State.put_keeps {f : Fld} {v : Nat} {b : Block} (hb : InBlk b f.addr) (h : Keeps m s0 s) (hm : within [.reg b] m = true) :
    Keeps m s0 (s.put f v) := State.wr_keeps hb h hm

theorem State.putS_keeps {f : Fld} {v : Int} {b : Block} (hb : InBlk b f.addr) (h : Keeps m s0 s) (hm : within [.reg b] m = true) :
    Keeps m s0 (s.putS f v) := State.put_keeps hb h hm

theorem State.mark_keeps {f : Fld} {v : Bool} {b : Block} (hb : InBlk b f.addr) (h : Keeps m s0 s) (hm : within [.reg b] m = true) :
    Keeps m s0 (s.mark f v) := State.put_keeps hb h hm

theorem State.bump_keeps {f : Fld} {b : Block} (hb : InBlk b f.addr) (h : Keeps m s0 s) (hm : within [.reg b] m = true) :
    Keeps m s0 (s.bump f) := State.put_keeps hb h hm

theorem State.satBump_keeps {f : Fld} {k : Nat} {b : Block} (hb : InBlk b f.addr) (h : Keeps m s0 s) (hm : within [.reg b] m = true) :
    Keeps m s0 (s.satBump f k) := State.put_keeps hb h hm

theorem State.drop_keeps {f : Fld} {k : Nat} {b : Block} (hb : InBlk b f.addr) (h : Keeps m s0 s) (hm : within [.reg b] m = true) :
    Keeps m s0 (s.drop f k) := State.put_keeps hb h hm

end Sys2Proof.Machine
end

