-- ==== Sys2Proof/Laws/Blocks.lean ====
section
/-! SUPPORT. The block that each register that some operation writes lies in (R12). -/

namespace Sys2Proof.Machine

theorem ACQ_CCFG_blk (c : Nat) : InBlk .acq (ACQ_CCFG c) := by
  simp only [InBlk, Block.num, ACQ_CCFG]; omega
theorem ACQ_CDEP_blk (c : Nat) : InBlk .acq (ACQ_CDEP c) := by
  simp only [InBlk, Block.num, ACQ_CDEP]; omega
theorem ACQ_CHIST_blk (c : Nat) : InBlk .acq (ACQ_CHIST c) := by
  simp only [InBlk, Block.num, ACQ_CHIST]; omega
theorem ACQ_CPOST_blk (c : Nat) : InBlk .acq (ACQ_CPOST c) := by
  simp only [InBlk, Block.num, ACQ_CPOST]; omega
theorem ACQ_CPRE_blk (c : Nat) : InBlk .acq (ACQ_CPRE c) := by
  simp only [InBlk, Block.num, ACQ_CPRE]; omega
theorem ACQ_CSIG_blk (c : Nat) : InBlk .acq (ACQ_CSIG c) := by
  simp only [InBlk, Block.num, ACQ_CSIG]; omega
theorem ACQ_CST_blk (c : Nat) : InBlk .acq (ACQ_CST c) := by
  simp only [InBlk, Block.num, ACQ_CST]; omega
theorem ACQ_CTS_blk (c : Nat) : InBlk .acq (ACQ_CTS c) := by
  simp only [InBlk, Block.num, ACQ_CTS]; omega
theorem ACQ_CWS_blk (c : Nat) : InBlk .acq (ACQ_CWS c) := by
  simp only [InBlk, Block.num, ACQ_CWS]; omega
theorem ACQ_GAUTO_blk (g : Nat) : InBlk .acq (ACQ_GAUTO g) := by
  simp only [InBlk, Block.num, ACQ_GAUTO]; omega
theorem ACQ_GCFG_blk (g : Nat) : InBlk .acq (ACQ_GCFG g) := by
  simp only [InBlk, Block.num, ACQ_GCFG]; omega
theorem ACQ_GCNT_blk (g : Nat) : InBlk .acq (ACQ_GCNT g) := by
  simp only [InBlk, Block.num, ACQ_GCNT]; omega
theorem ACQ_GHYS_blk (g : Nat) : InBlk .acq (ACQ_GHYS g) := by
  simp only [InBlk, Block.num, ACQ_GHYS]; omega
theorem ACQ_GLAST_blk (g : Nat) : InBlk .acq (ACQ_GLAST g) := by
  simp only [InBlk, Block.num, ACQ_GLAST]; omega
theorem ACQ_GLVL_blk (g : Nat) : InBlk .acq (ACQ_GLVL g) := by
  simp only [InBlk, Block.num, ACQ_GLVL]; omega
theorem ACQ_GST_blk (g : Nat) : InBlk .acq (ACQ_GST g) := by
  simp only [InBlk, Block.num, ACQ_GST]; omega
theorem ACQ_POOLA_blk : InBlk .acq ACQ_POOLA := by
  unfold ACQ_POOLA; exact ⟨rfl, rfl⟩
theorem ACQ_POOLB_blk : InBlk .acq ACQ_POOLB := by
  unfold ACQ_POOLB; exact ⟨rfl, rfl⟩
theorem ACQ_RD_blk (r w : Nat) : InBlk .acq (ACQ_RD r w) := by
  simp only [InBlk, Block.num, ACQ_RD]; omega
theorem ACQ_SLOT_blk (s : Nat) : InBlk .acq (ACQ_SLOT s) := by
  simp only [InBlk, Block.num, ACQ_SLOT]; omega
theorem ACQ_STAT_blk : InBlk .acq ACQ_STAT := by
  unfold ACQ_STAT; exact ⟨rfl, rfl⟩
theorem ACQ_WCFG_blk : InBlk .acq ACQ_WCFG := by
  unfold ACQ_WCFG; exact ⟨rfl, rfl⟩
theorem ACQ_WDLY_blk (n : Nat) : InBlk .acq (ACQ_WDLY n) := by
  simp only [InBlk, Block.num, ACQ_WDLY]; omega
theorem ACQ_WST_blk : InBlk .acq ACQ_WST := by
  unfold ACQ_WST; exact ⟨rfl, rfl⟩
theorem ACQ_WSUM_blk : InBlk .acq ACQ_WSUM := by
  unfold ACQ_WSUM; exact ⟨rfl, rfl⟩
theorem CFG_BOOT_blk : InBlk .cfg CFG_BOOT := by
  unfold CFG_BOOT; exact ⟨rfl, rfl⟩
theorem CFG_CHG_blk : InBlk .cfg CFG_CHG := by
  unfold CFG_CHG; exact ⟨rfl, rfl⟩
theorem CFG_FLASH_blk : InBlk .cfg CFG_FLASH := by
  unfold CFG_FLASH; exact ⟨rfl, rfl⟩
theorem CFG_RCP_blk : InBlk .cfg CFG_RCP := by
  unfold CFG_RCP; exact ⟨rfl, rfl⟩
theorem CFG_RCP_CRC_blk : InBlk .cfg CFG_RCP_CRC := by
  unfold CFG_RCP_CRC; exact ⟨rfl, rfl⟩
theorem CFG_SEQ_blk : InBlk .cfg CFG_SEQ := by
  unfold CFG_SEQ; exact ⟨rfl, rfl⟩
theorem CFG_STATE_blk : InBlk .cfg CFG_STATE := by
  unfold CFG_STATE; exact ⟨rfl, rfl⟩
theorem CSF_CST_blk (c : Nat) : InBlk .csf (CSF_CST c) := by
  simp only [InBlk, Block.num, CSF_CST]; omega
theorem CSF_DLYF_blk (a : Nat) : InBlk .csf (CSF_DLYF a) := by
  simp only [InBlk, Block.num, CSF_DLYF]; omega
theorem CSF_DLYP_blk (a : Nat) : InBlk .csf (CSF_DLYP a) := by
  simp only [InBlk, Block.num, CSF_DLYP]; omega
theorem CSF_SDC_blk (m : Nat) : InBlk .csf (CSF_SDC m) := by
  simp only [InBlk, Block.num, CSF_SDC]; omega
theorem CSF_VAL_blk (c : Nat) : InBlk .csf (CSF_VAL c) := by
  simp only [InBlk, Block.num, CSF_VAL]; omega
theorem DIO_ACT_blk : InBlk .dio DIO_ACT := by
  unfold DIO_ACT; exact ⟨rfl, rfl⟩
theorem DIO_CCFG_blk (c : Nat) : InBlk .dio (DIO_CCFG c) := by
  simp only [InBlk, Block.num, DIO_CCFG]; omega
theorem DIO_CCNT_blk (c : Nat) : InBlk .dio (DIO_CCNT c) := by
  simp only [InBlk, Block.num, DIO_CCNT]; omega
theorem DIO_CFG_blk : InBlk .dio DIO_CFG := by
  unfold DIO_CFG; exact ⟨rfl, rfl⟩
theorem DIO_CST_blk (c : Nat) : InBlk .dio (DIO_CST c) := by
  simp only [InBlk, Block.num, DIO_CST]; omega
theorem DIO_GCFG_blk (g : Nat) : InBlk .dio (DIO_GCFG g) := by
  simp only [InBlk, Block.num, DIO_GCFG]; omega
theorem DIO_GCNT_blk (g : Nat) : InBlk .dio (DIO_GCNT g) := by
  simp only [InBlk, Block.num, DIO_GCNT]; omega
theorem DIO_GMEAS_blk (g : Nat) : InBlk .dio (DIO_GMEAS g) := by
  simp only [InBlk, Block.num, DIO_GMEAS]; omega
theorem DIO_GST_blk (g : Nat) : InBlk .dio (DIO_GST g) := by
  simp only [InBlk, Block.num, DIO_GST]; omega
theorem DIO_IN_blk : InBlk .dio DIO_IN := by
  unfold DIO_IN; exact ⟨rfl, rfl⟩
theorem DIO_OUT_blk : InBlk .dio DIO_OUT := by
  unfold DIO_OUT; exact ⟨rfl, rfl⟩
theorem DIO_STAT_blk : InBlk .dio DIO_STAT := by
  unfold DIO_STAT; exact ⟨rfl, rfl⟩
theorem DIO_TBASE_blk : InBlk .dio DIO_TBASE := by
  unfold DIO_TBASE; exact ⟨rfl, rfl⟩
theorem DIO_VALID_blk : InBlk .dio DIO_VALID := by
  unfold DIO_VALID; exact ⟨rfl, rfl⟩
theorem ENG_BAND_blk (a : Nat) : InBlk .eng (ENG_BAND a) := by
  simp only [InBlk, Block.num, ENG_BAND]; omega
theorem ENG_BCNT_blk (a : Nat) : InBlk .eng (ENG_BCNT a) := by
  simp only [InBlk, Block.num, ENG_BCNT]; omega
theorem ENG_BPER_blk (a : Nat) : InBlk .eng (ENG_BPER a) := by
  simp only [InBlk, Block.num, ENG_BPER]; omega
theorem ENG_BUSY_blk (k : Nat) : InBlk .eng (ENG_BUSY k) := by
  simp only [InBlk, Block.num, ENG_BUSY]; omega
theorem ENG_CST_blk (a : Nat) : InBlk .eng (ENG_CST a) := by
  simp only [InBlk, Block.num, ENG_CST]; omega
theorem ENG_CTX_blk (a : Nat) : InBlk .eng (ENG_CTX a) := by
  simp only [InBlk, Block.num, ENG_CTX]; omega
theorem ENG_DCNT_blk (a : Nat) : InBlk .eng (ENG_DCNT a) := by
  simp only [InBlk, Block.num, ENG_DCNT]; omega
theorem ENG_DCTL_blk (a : Nat) : InBlk .eng (ENG_DCTL a) := by
  simp only [InBlk, Block.num, ENG_DCTL]; omega
theorem ENG_DST_blk (a : Nat) : InBlk .eng (ENG_DST a) := by
  simp only [InBlk, Block.num, ENG_DST]; omega
theorem ENG_FLG_blk (a : Nat) : InBlk .eng (ENG_FLG a) := by
  simp only [InBlk, Block.num, ENG_FLG]; omega
theorem ENG_HYPER_blk (k : Nat) : InBlk .eng (ENG_HYPER k) := by
  simp only [InBlk, Block.num, ENG_HYPER]; omega
theorem ENG_IREF_blk (a : Nat) : InBlk .eng (ENG_IREF a) := by
  simp only [InBlk, Block.num, ENG_IREF]; omega
theorem ENG_JEST_blk (a : Nat) : InBlk .eng (ENG_JEST a) := by
  simp only [InBlk, Block.num, ENG_JEST]; omega
theorem ENG_JST_blk (a : Nat) : InBlk .eng (ENG_JST a) := by
  simp only [InBlk, Block.num, ENG_JST]; omega
theorem ENG_SLCFG_blk (j : Nat) : InBlk .eng (ENG_SLCFG j) := by
  simp only [InBlk, Block.num, ENG_SLCFG]; omega
theorem ENG_SLLEN_blk (j : Nat) : InBlk .eng (ENG_SLLEN j) := by
  simp only [InBlk, Block.num, ENG_SLLEN]; omega
theorem ENG_SLOFS_blk (j : Nat) : InBlk .eng (ENG_SLOFS j) := by
  simp only [InBlk, Block.num, ENG_SLOFS]; omega
theorem ENG_SLPER_blk (j : Nat) : InBlk .eng (ENG_SLPER j) := by
  simp only [InBlk, Block.num, ENG_SLPER]; omega
theorem ENG_SRES_blk (a : Nat) : InBlk .eng (ENG_SRES a) := by
  simp only [InBlk, Block.num, ENG_SRES]; omega
theorem ENG_SST_blk (a : Nat) : InBlk .eng (ENG_SST a) := by
  simp only [InBlk, Block.num, ENG_SST]; omega
theorem ENG_STAT_blk (k : Nat) : InBlk .eng (ENG_STAT k) := by
  simp only [InBlk, Block.num, ENG_STAT]; omega
theorem ENG_TCTX_blk (a : Nat) : InBlk .eng (ENG_TCTX a) := by
  simp only [InBlk, Block.num, ENG_TCTX]; omega
theorem ENG_VOUT_blk (a : Nat) : InBlk .eng (ENG_VOUT a) := by
  simp only [InBlk, Block.num, ENG_VOUT]; omega
theorem ENG_WD_blk (a : Nat) : InBlk .eng (ENG_WD a) := by
  simp only [InBlk, Block.num, ENG_WD]; omega
theorem ERR_BOOT_blk : InBlk .err ERR_BOOT := by
  unfold ERR_BOOT; exact ⟨rfl, rfl⟩
theorem ERR_GUARD_blk : InBlk .err ERR_GUARD := by
  unfold ERR_GUARD; exact ⟨rfl, rfl⟩
theorem ERR_GUARD_ISL_blk : InBlk .err ERR_GUARD_ISL := by
  unfold ERR_GUARD_ISL; exact ⟨rfl, rfl⟩
theorem ERR_GUARD_T_blk : InBlk .err ERR_GUARD_T := by
  unfold ERR_GUARD_T; exact ⟨rfl, rfl⟩
theorem ERR_LOGD_blk (i : Nat) : InBlk .err (ERR_LOGD i) := by
  simp only [InBlk, Block.num, ERR_LOGD]; omega
theorem ERR_LOGST_blk : InBlk .err ERR_LOGST := by
  unfold ERR_LOGST; exact ⟨rfl, rfl⟩
theorem ERR_LOST_blk (i : Nat) : InBlk .err (ERR_LOST i) := by
  simp only [InBlk, Block.num, ERR_LOST]; omega
theorem ERR_LTOT_blk (i : Nat) : InBlk .err (ERR_LTOT i) := by
  simp only [InBlk, Block.num, ERR_LTOT]; omega
theorem ERR_NEXT_blk : InBlk .err ERR_NEXT := by
  unfold ERR_NEXT; exact ⟨rfl, rfl⟩
theorem ERR_OLDEST_blk : InBlk .err ERR_OLDEST := by
  unfold ERR_OLDEST; exact ⟨rfl, rfl⟩
theorem ERR_PRES_blk (i : Nat) : InBlk .err (ERR_PRES i) := by
  simp only [InBlk, Block.num, ERR_PRES]; omega
theorem FBK_AID_blk (p : Nat) : InBlk .fbk (FBK_AID p) := by
  simp only [InBlk, Block.num, FBK_AID]; omega
theorem FBK_ARSP_blk (p : Nat) : InBlk .fbk (FBK_ARSP p) := by
  simp only [InBlk, Block.num, FBK_ARSP]; omega
theorem FBK_MMOD_blk (k : Nat) : InBlk .fbk (FBK_MMOD k) := by
  simp only [InBlk, Block.num, FBK_MMOD]; omega
theorem FBK_MPER_blk : InBlk .fbk FBK_MPER := by
  unfold FBK_MPER; exact ⟨rfl, rfl⟩
theorem FBK_PPOS_blk (p : Nat) : InBlk .fbk (FBK_PPOS p) := by
  simp only [InBlk, Block.num, FBK_PPOS]; omega
theorem FBK_PRAW_blk (p : Nat) : InBlk .fbk (FBK_PRAW p) := by
  simp only [InBlk, Block.num, FBK_PRAW]; omega
theorem FBK_PRCFG_blk (i : Nat) : InBlk .fbk (FBK_PRCFG i) := by
  simp only [InBlk, Block.num, FBK_PRCFG]; omega
theorem FBK_PRCNT_blk (i : Nat) : InBlk .fbk (FBK_PRCNT i) := by
  simp only [InBlk, Block.num, FBK_PRCNT]; omega
theorem FBK_PRPOS_blk (i : Nat) : InBlk .fbk (FBK_PRPOS i) := by
  simp only [InBlk, Block.num, FBK_PRPOS]; omega
theorem FBK_PRSEL_blk (i : Nat) : InBlk .fbk (FBK_PRSEL i) := by
  simp only [InBlk, Block.num, FBK_PRSEL]; omega
theorem FBK_PRST_blk (i : Nat) : InBlk .fbk (FBK_PRST i) := by
  simp only [InBlk, Block.num, FBK_PRST]; omega
theorem FBK_PRT_blk (i : Nat) : InBlk .fbk (FBK_PRT i) := by
  simp only [InBlk, Block.num, FBK_PRT]; omega
theorem FBK_PRWE_blk (i : Nat) : InBlk .fbk (FBK_PRWE i) := by
  simp only [InBlk, Block.num, FBK_PRWE]; omega
theorem FBK_PRWS_blk (i : Nat) : InBlk .fbk (FBK_PRWS i) := by
  simp only [InBlk, Block.num, FBK_PRWS]; omega
theorem FBK_PST_blk (p : Nat) : InBlk .fbk (FBK_PST p) := by
  simp only [InBlk, Block.num, FBK_PST]; omega
theorem FBK_RTD_blk (p : Nat) : InBlk .fbk (FBK_RTD p) := by
  simp only [InBlk, Block.num, FBK_RTD]; omega
theorem KNL_CNTA_blk : InBlk .knl KNL_CNTA := by
  unfold KNL_CNTA; exact ⟨rfl, rfl⟩
theorem KNL_CNTB_blk : InBlk .knl KNL_CNTB := by
  unfold KNL_CNTB; exact ⟨rfl, rfl⟩
theorem KNL_CORE_blk (c : Nat) : InBlk .knl (KNL_CORE c) := by
  simp only [InBlk, Block.num, KNL_CORE]; omega
theorem KNL_EVB_blk (e : Nat) : InBlk .knl (KNL_EVB e) := by
  simp only [InBlk, Block.num, KNL_EVB]; omega
theorem KNL_HEAD_blk : InBlk .knl KNL_HEAD := by
  unfold KNL_HEAD; exact ⟨rfl, rfl⟩
theorem KNL_RES_blk (c : Nat) : InBlk .knl (KNL_RES c) := by
  simp only [InBlk, Block.num, KNL_RES]; omega
theorem KNL_STAT_blk : InBlk .knl KNL_STAT := by
  unfold KNL_STAT; exact ⟨rfl, rfl⟩
theorem KNL_TICK_blk : InBlk .knl KNL_TICK := by
  unfold KNL_TICK; exact ⟨rfl, rfl⟩
theorem KNL_TST_blk (t : Nat) : InBlk .knl (KNL_TST t) := by
  simp only [InBlk, Block.num, KNL_TST]; omega
theorem KNL_TSTAMP_blk (t : Nat) : InBlk .knl (KNL_TSTAMP t) := by
  simp only [InBlk, Block.num, KNL_TSTAMP]; omega
theorem KNL_XCORE_blk (x : Nat) : InBlk .knl (KNL_XCORE x) := by
  simp only [InBlk, Block.num, KNL_XCORE]; omega
theorem LSH_AUXDTF_blk (k : Nat) : InBlk .lsh (LSH_AUXDTF k) := by
  simp only [InBlk, Block.num, LSH_AUXDTF]; omega
theorem LSH_AUXDUTY_blk (k : Nat) : InBlk .lsh (LSH_AUXDUTY k) := by
  simp only [InBlk, Block.num, LSH_AUXDUTY]; omega
theorem LSH_AUXMPW_blk (k : Nat) : InBlk .lsh (LSH_AUXMPW k) := by
  simp only [InBlk, Block.num, LSH_AUXMPW]; omega
theorem LSH_CCNT_blk (a : Nat) : InBlk .lsh (LSH_CCNT a) := by
  simp only [InBlk, Block.num, LSH_CCNT]; omega
theorem LSH_CLAMP_blk (a : Nat) : InBlk .lsh (LSH_CLAMP a) := by
  simp only [InBlk, Block.num, LSH_CLAMP]; omega
theorem LSH_DHOLD_B_blk : InBlk .lsh LSH_DHOLD_B := by
  unfold LSH_DHOLD_B; exact ⟨rfl, rfl⟩
theorem LSH_DHOLD_E_blk : InBlk .lsh LSH_DHOLD_E := by
  unfold LSH_DHOLD_E; exact ⟨rfl, rfl⟩
theorem LSH_DOUT_B_blk : InBlk .lsh LSH_DOUT_B := by
  unfold LSH_DOUT_B; exact ⟨rfl, rfl⟩
theorem LSH_DOUT_E_blk : InBlk .lsh LSH_DOUT_E := by
  unfold LSH_DOUT_E; exact ⟨rfl, rfl⟩
theorem LSH_DTF_blk (a : Nat) : InBlk .lsh (LSH_DTF a) := by
  simp only [InBlk, Block.num, LSH_DTF]; omega
theorem LSH_DUTY_blk (a : Nat) : InBlk .lsh (LSH_DUTY a) := by
  simp only [InBlk, Block.num, LSH_DUTY]; omega
theorem LSH_ESC_blk (a : Nat) : InBlk .lsh (LSH_ESC a) := by
  simp only [InBlk, Block.num, LSH_ESC]; omega
theorem LSH_I2T_blk (a : Nat) : InBlk .lsh (LSH_I2T a) := by
  simp only [InBlk, Block.num, LSH_I2T]; omega
theorem LSH_ICT_blk (a : Nat) : InBlk .lsh (LSH_ICT a) := by
  simp only [InBlk, Block.num, LSH_ICT]; omega
theorem LSH_IPK_blk (a : Nat) : InBlk .lsh (LSH_IPK a) := by
  simp only [InBlk, Block.num, LSH_IPK]; omega
theorem LSH_MPW_blk (a : Nat) : InBlk .lsh (LSH_MPW a) := by
  simp only [InBlk, Block.num, LSH_MPW]; omega
theorem LSH_PCFG_blk (n : Nat) : InBlk .lsh (LSH_PCFG n) := by
  simp only [InBlk, Block.num, LSH_PCFG]; omega
theorem LSH_PMAX_B_blk (n : Nat) : InBlk .lsh (LSH_PMAX_B n) := by
  simp only [InBlk, Block.num, LSH_PMAX_B]; omega
theorem LSH_PMAX_E_blk (n : Nat) : InBlk .lsh (LSH_PMAX_E n) := by
  simp only [InBlk, Block.num, LSH_PMAX_E]; omega
theorem LSH_PMIN_B_blk (n : Nat) : InBlk .lsh (LSH_PMIN_B n) := by
  simp only [InBlk, Block.num, LSH_PMIN_B]; omega
theorem LSH_PMIN_E_blk (n : Nat) : InBlk .lsh (LSH_PMIN_E n) := by
  simp only [InBlk, Block.num, LSH_PMIN_E]; omega
theorem LSH_SPD_B_blk (n : Nat) : InBlk .lsh (LSH_SPD_B n) := by
  simp only [InBlk, Block.num, LSH_SPD_B]; omega
theorem LSH_SPD_E_blk (n : Nat) : InBlk .lsh (LSH_SPD_E n) := by
  simp only [InBlk, Block.num, LSH_SPD_E]; omega
theorem LSH_STAT_blk : InBlk .lsh LSH_STAT := by
  unfold LSH_STAT; exact ⟨rfl, rfl⟩
theorem PRF_AXCTL_blk (n : Nat) : InBlk .prf (PRF_AXCTL n) := by
  simp only [InBlk, Block.num, PRF_AXCTL]; omega
theorem PRF_AXGEN_blk (n : Nat) : InBlk .prf (PRF_AXGEN n) := by
  simp only [InBlk, Block.num, PRF_AXGEN]; omega
theorem PRF_AXST_blk (n : Nat) : InBlk .prf (PRF_AXST n) := by
  simp only [InBlk, Block.num, PRF_AXST]; omega
theorem PRF_BOUND_blk : InBlk .prf PRF_BOUND := by
  unfold PRF_BOUND; exact ⟨rfl, rfl⟩
theorem PRF_CFG_blk : InBlk .prf PRF_CFG := by
  unfold PRF_CFG; exact ⟨rfl, rfl⟩
theorem PRF_CSWST_blk (t : Nat) : InBlk .prf (PRF_CSWST t) := by
  simp only [InBlk, Block.num, PRF_CSWST]; omega
theorem PRF_DISC_blk : InBlk .prf PRF_DISC := by
  unfold PRF_DISC; exact ⟨rfl, rfl⟩
theorem PRF_GRPABT_blk (g : Nat) : InBlk .prf (PRF_GRPABT g) := by
  simp only [InBlk, Block.num, PRF_GRPABT]; omega
theorem PRF_GRPACC_blk (g : Nat) : InBlk .prf (PRF_GRPACC g) := by
  simp only [InBlk, Block.num, PRF_GRPACC]; omega
theorem PRF_GRPAX_blk (g : Nat) : InBlk .prf (PRF_GRPAX g) := by
  simp only [InBlk, Block.num, PRF_GRPAX]; omega
theorem PRF_GRPCFG_blk (g : Nat) : InBlk .prf (PRF_GRPCFG g) := by
  simp only [InBlk, Block.num, PRF_GRPCFG]; omega
theorem PRF_GRPCUR_blk (g : Nat) : InBlk .prf (PRF_GRPCUR g) := by
  simp only [InBlk, Block.num, PRF_GRPCUR]; omega
theorem PRF_GRPEXE_blk (g : Nat) : InBlk .prf (PRF_GRPEXE g) := by
  simp only [InBlk, Block.num, PRF_GRPEXE]; omega
theorem PRF_GRPOVR_blk (g : Nat) : InBlk .prf (PRF_GRPOVR g) := by
  simp only [InBlk, Block.num, PRF_GRPOVR]; omega
theorem PRF_GRPST_blk (g : Nat) : InBlk .prf (PRF_GRPST g) := by
  simp only [InBlk, Block.num, PRF_GRPST]; omega
theorem PRF_MVST_blk (n : Nat) : InBlk .prf (PRF_MVST n) := by
  simp only [InBlk, Block.num, PRF_MVST]; omega
theorem PRF_MVTAG_blk (n : Nat) : InBlk .prf (PRF_MVTAG n) := by
  simp only [InBlk, Block.num, PRF_MVTAG]; omega
theorem PRF_OVS_blk (n : Nat) : InBlk .prf (PRF_OVS n) := by
  simp only [InBlk, Block.num, PRF_OVS]; omega
theorem PRF_SPOS_blk (n : Nat) : InBlk .prf (PRF_SPOS n) := by
  simp only [InBlk, Block.num, PRF_SPOS]; omega
theorem PRF_STAT_blk : InBlk .prf PRF_STAT := by
  unfold PRF_STAT; exact ⟨rfl, rfl⟩
theorem PRF_SVEL_blk (n : Nat) : InBlk .prf (PRF_SVEL n) := by
  simp only [InBlk, Block.num, PRF_SVEL]; omega
theorem PRF_TBASE_blk : InBlk .prf PRF_TBASE := by
  unfold PRF_TBASE; exact ⟨rfl, rfl⟩
theorem PRF_TCST_blk : InBlk .prf PRF_TCST := by
  unfold PRF_TCST; exact ⟨rfl, rfl⟩
theorem PRF_TMAX_blk : InBlk .prf PRF_TMAX := by
  unfold PRF_TMAX; exact ⟨rfl, rfl⟩
theorem PRF_VMAMAX_blk (k : Nat) : InBlk .prf (PRF_VMAMAX k) := by
  simp only [InBlk, Block.num, PRF_VMAMAX]; omega
theorem PRF_VMJMAX_blk (k : Nat) : InBlk .prf (PRF_VMJMAX k) := by
  simp only [InBlk, Block.num, PRF_VMJMAX]; omega
theorem PRF_VMMOD_blk (k : Nat) : InBlk .prf (PRF_VMMOD k) := by
  simp only [InBlk, Block.num, PRF_VMMOD]; omega
theorem PRF_VMPOS_blk (k : Nat) : InBlk .prf (PRF_VMPOS k) := by
  simp only [InBlk, Block.num, PRF_VMPOS]; omega
theorem PRF_VMST_blk (k : Nat) : InBlk .prf (PRF_VMST k) := by
  simp only [InBlk, Block.num, PRF_VMST]; omega
theorem PRF_VMVEL_blk (k : Nat) : InBlk .prf (PRF_VMVEL k) := by
  simp only [InBlk, Block.num, PRF_VMVEL]; omega
theorem PRF_VMVMAX_blk (k : Nat) : InBlk .prf (PRF_VMVMAX k) := by
  simp only [InBlk, Block.num, PRF_VMVMAX]; omega
theorem PWM_AUXCFG_blk (k : Nat) : InBlk .pwm (PWM_AUXCFG k) := by
  simp only [InBlk, Block.num, PWM_AUXCFG]; omega
theorem PWM_AUXCMP_blk (k : Nat) : InBlk .pwm (PWM_AUXCMP k) := by
  simp only [InBlk, Block.num, PWM_AUXCMP]; omega
theorem PWM_AUXCNT_blk (k : Nat) : InBlk .pwm (PWM_AUXCNT k) := by
  simp only [InBlk, Block.num, PWM_AUXCNT]; omega
theorem PWM_AUXDT_blk (k : Nat) : InBlk .pwm (PWM_AUXDT k) := by
  simp only [InBlk, Block.num, PWM_AUXDT]; omega
theorem PWM_AUXPER_blk (k : Nat) : InBlk .pwm (PWM_AUXPER k) := by
  simp only [InBlk, Block.num, PWM_AUXPER]; omega
theorem PWM_AUXST_blk (k : Nat) : InBlk .pwm (PWM_AUXST k) := by
  simp only [InBlk, Block.num, PWM_AUXST]; omega
theorem PWM_AUXTH_blk (k : Nat) : InBlk .pwm (PWM_AUXTH k) := by
  simp only [InBlk, Block.num, PWM_AUXTH]; omega
theorem PWM_AX_blk (a : Nat) : InBlk .pwm (PWM_AX a) := by
  simp only [InBlk, Block.num, PWM_AX]; omega
theorem PWM_AXD_blk (a : Nat) : InBlk .pwm (PWM_AXD a) := by
  simp only [InBlk, Block.num, PWM_AXD]; omega
theorem PWM_AXST_blk (a : Nat) : InBlk .pwm (PWM_AXST a) := by
  simp only [InBlk, Block.num, PWM_AXST]; omega
theorem PWM_CMP_blk (n : Nat) : InBlk .pwm (PWM_CMP n) := by
  simp only [InBlk, Block.num, PWM_CMP]; omega
theorem PWM_GST_blk (i : Nat) : InBlk .pwm (PWM_GST i) := by
  simp only [InBlk, Block.num, PWM_GST]; omega
theorem PWM_PER_blk (a : Nat) : InBlk .pwm (PWM_PER a) := by
  simp only [InBlk, Block.num, PWM_PER]; omega
theorem PWM_SCMP_blk (n : Nat) : InBlk .pwm (PWM_SCMP n) := by
  simp only [InBlk, Block.num, PWM_SCMP]; omega
theorem PWM_STG_blk (a : Nat) : InBlk .pwm (PWM_STG a) := by
  simp only [InBlk, Block.num, PWM_STG]; omega
theorem PWM_TCNT_blk (a : Nat) : InBlk .pwm (PWM_TCNT a) := by
  simp only [InBlk, Block.num, PWM_TCNT]; omega
theorem PWM_TIM_blk (a : Nat) : InBlk .pwm (PWM_TIM a) := by
  simp only [InBlk, Block.num, PWM_TIM]; omega
theorem PWM_TLAST_blk (a : Nat) : InBlk .pwm (PWM_TLAST a) := by
  simp only [InBlk, Block.num, PWM_TLAST]; omega
theorem PWR_ISL_blk (i : Nat) : InBlk .err (PWR_ISL i) := by
  simp only [InBlk, Block.num, PWR_ISL]; omega
theorem PWR_MON_blk : InBlk .err PWR_MON := by
  unfold PWR_MON; exact ⟨rfl, rfl⟩
theorem PWR_TEMP_blk : InBlk .err PWR_TEMP := by
  unfold PWR_TEMP; exact ⟨rfl, rfl⟩
theorem PWR_VIN_blk : InBlk .err PWR_VIN := by
  unfold PWR_VIN; exact ⟨rfl, rfl⟩
theorem PWR_VIO_blk : InBlk .err PWR_VIO := by
  unfold PWR_VIO; exact ⟨rfl, rfl⟩
theorem QUE_BST_blk : InBlk .que QUE_BST := by
  unfold QUE_BST; exact ⟨rfl, rfl⟩
theorem QUE_CFG_blk (q : Nat) : InBlk .que (QUE_CFG q) := by
  simp only [InBlk, Block.num, QUE_CFG]; omega
theorem QUE_ERR_blk (q : Nat) : InBlk .que (QUE_ERR q) := by
  simp only [InBlk, Block.num, QUE_ERR]; omega
theorem QUE_POPC_blk (q : Nat) : InBlk .que (QUE_POPC q) := by
  simp only [InBlk, Block.num, QUE_POPC]; omega
theorem QUE_PRES_blk (c : Nat) : InBlk .que (QUE_PRES c) := by
  simp only [InBlk, Block.num, QUE_PRES]; omega
theorem QUE_PUSHC_blk (q : Nat) : InBlk .que (QUE_PUSHC q) := by
  simp only [InBlk, Block.num, QUE_PUSHC]; omega
theorem QUE_SBASE_blk : InBlk .que QUE_SBASE := by
  unfold QUE_SBASE; exact ⟨rfl, rfl⟩
theorem QUE_SOFS_blk (q : Nat) : InBlk .que (QUE_SOFS q) := by
  simp only [InBlk, Block.num, QUE_SOFS]; omega
theorem QUE_ST_blk (q : Nat) : InBlk .que (QUE_ST q) := by
  simp only [InBlk, Block.num, QUE_ST]; omega
theorem QUE_WEV_blk (q : Nat) : InBlk .que (QUE_WEV q) := by
  simp only [InBlk, Block.num, QUE_WEV]; omega
theorem RNG_BUFA_blk : InBlk .rng RNG_BUFA := by
  unfold RNG_BUFA; exact ⟨rfl, rfl⟩
theorem RNG_BUFB_blk : InBlk .rng RNG_BUFB := by
  unfold RNG_BUFB; exact ⟨rfl, rfl⟩
theorem RNG_CFG_blk : InBlk .rng RNG_CFG := by
  unfold RNG_CFG; exact ⟨rfl, rfl⟩
theorem RNG_CYC_blk : InBlk .rng RNG_CYC := by
  unfold RNG_CYC; exact ⟨rfl, rfl⟩
theorem RNG_CYCNT_blk : InBlk .rng RNG_CYCNT := by
  unfold RNG_CYCNT; exact ⟨rfl, rfl⟩
theorem RNG_ERR_blk : InBlk .rng RNG_ERR := by
  unfold RNG_ERR; exact ⟨rfl, rfl⟩
theorem RNG_ETYPE_blk : InBlk .rng RNG_ETYPE := by
  unfold RNG_ETYPE; exact ⟨rfl, rfl⟩
theorem RNG_FWD_blk : InBlk .rng RNG_FWD := by
  unfold RNG_FWD; exact ⟨rfl, rfl⟩
theorem RNG_IDENT_blk : InBlk .rng RNG_IDENT := by
  unfold RNG_IDENT; exact ⟨rfl, rfl⟩
theorem RNG_MAC_blk : InBlk .rng RNG_MAC := by
  unfold RNG_MAC; exact ⟨rfl, rfl⟩
theorem RNG_MBC_blk (m : Nat) : InBlk .rng (RNG_MBC m) := by
  simp only [InBlk, Block.num, RNG_MBC]; omega
theorem RNG_MEXP_blk (m : Nat) : InBlk .rng (RNG_MEXP m) := by
  simp only [InBlk, Block.num, RNG_MEXP]; omega
theorem RNG_MID_blk (m : Nat) : InBlk .rng (RNG_MID m) := by
  simp only [InBlk, Block.num, RNG_MID]; omega
theorem RNG_MMISS_blk (m : Nat) : InBlk .rng (RNG_MMISS m) := by
  simp only [InBlk, Block.num, RNG_MMISS]; omega
theorem RNG_MPC_blk (m : Nat) : InBlk .rng (RNG_MPC m) := by
  simp only [InBlk, Block.num, RNG_MPC]; omega
theorem RNG_MST_blk (m : Nat) : InBlk .rng (RNG_MST m) := by
  simp only [InBlk, Block.num, RNG_MST]; omega
theorem RNG_MSUB_blk (s : Nat) : InBlk .rng (RNG_MSUB s) := by
  simp only [InBlk, Block.num, RNG_MSUB]; omega
theorem RNG_RTT_blk : InBlk .rng RNG_RTT := by
  unfold RNG_RTT; exact ⟨rfl, rfl⟩
theorem RNG_SOFS_blk : InBlk .rng RNG_SOFS := by
  unfold RNG_SOFS; exact ⟨rfl, rfl⟩
theorem RNG_ST_blk : InBlk .rng RNG_ST := by
  unfold RNG_ST; exact ⟨rfl, rfl⟩
theorem RNG_SVBUF_blk : InBlk .rng RNG_SVBUF := by
  unfold RNG_SVBUF; exact ⟨rfl, rfl⟩
theorem RNG_SVQ_blk : InBlk .rng RNG_SVQ := by
  unfold RNG_SVQ; exact ⟨rfl, rfl⟩
theorem SAF_ACRC_blk : InBlk .saf SAF_ACRC := by
  unfold SAF_ACRC; exact ⟨rfl, rfl⟩
theorem SAF_AX_blk (a : Nat) : InBlk .saf (SAF_AX a) := by
  simp only [InBlk, Block.num, SAF_AX]; omega
theorem SAF_AXV_blk (a : Nat) : InBlk .saf (SAF_AXV a) := by
  simp only [InBlk, Block.num, SAF_AXV]; omega
theorem SAF_CONN_blk (n : Nat) : InBlk .saf (SAF_CONN n) := by
  simp only [InBlk, Block.num, SAF_CONN]; omega
theorem SAF_CSEQ_blk (n : Nat) : InBlk .saf (SAF_CSEQ n) := by
  simp only [InBlk, Block.num, SAF_CSEQ]; omega
theorem SAF_FN_blk (f : Nat) : InBlk .saf (SAF_FN f) := by
  simp only [InBlk, Block.num, SAF_FN]; omega
theorem SAF_GRP_blk (g : Nat) : InBlk .saf (SAF_GRP g) := by
  simp only [InBlk, Block.num, SAF_GRP]; omega
theorem SAF_LOG_blk : InBlk .saf SAF_LOG := by
  unfold SAF_LOG; exact ⟨rfl, rfl⟩
theorem SAF_LSEQ_blk : InBlk .saf SAF_LSEQ := by
  unfold SAF_LSEQ; exact ⟨rfl, rfl⟩
theorem SAF_PAIR_blk (i : Nat) : InBlk .saf (SAF_PAIR i) := by
  simp only [InBlk, Block.num, SAF_PAIR]; omega
theorem SAF_PW_blk : InBlk .saf SAF_PW := by
  unfold SAF_PW; exact ⟨rfl, rfl⟩
theorem SAF_RST_blk : InBlk .saf SAF_RST := by
  unfold SAF_RST; exact ⟨rfl, rfl⟩
theorem SAF_SCRC_blk : InBlk .saf SAF_SCRC := by
  unfold SAF_SCRC; exact ⟨rfl, rfl⟩
theorem SAF_SINC_blk : InBlk .saf SAF_SINC := by
  unfold SAF_SINC; exact ⟨rfl, rfl⟩
theorem SAF_SINK_blk : InBlk .saf SAF_SINK := by
  unfold SAF_SINK; exact ⟨rfl, rfl⟩
theorem SAF_SO_blk (k : Nat) : InBlk .saf (SAF_SO k) := by
  simp only [InBlk, Block.num, SAF_SO]; omega
theorem SAF_ST_blk : InBlk .saf SAF_ST := by
  unfold SAF_ST; exact ⟨rfl, rfl⟩
theorem SVC_DBG_blk : InBlk .err SVC_DBG := by
  unfold SVC_DBG; exact ⟨rfl, rfl⟩
theorem SVC_GW_blk : InBlk .err SVC_GW := by
  unfold SVC_GW; exact ⟨rfl, rfl⟩
theorem SVC_IP_blk : InBlk .err SVC_IP := by
  unfold SVC_IP; exact ⟨rfl, rfl⟩
theorem SVC_MASK_blk : InBlk .err SVC_MASK := by
  unfold SVC_MASK; exact ⟨rfl, rfl⟩
theorem SVC_PORT_blk : InBlk .err SVC_PORT := by
  unfold SVC_PORT; exact ⟨rfl, rfl⟩
theorem SVC_STAT_blk : InBlk .err SVC_STAT := by
  unfold SVC_STAT; exact ⟨rfl, rfl⟩
theorem TIM_CFG_blk : InBlk .tim TIM_CFG := by
  unfold TIM_CFG; exact ⟨rfl, rfl⟩
theorem TIM_GMID_blk : InBlk .tim TIM_GMID := by
  unfold TIM_GMID; exact ⟨rfl, rfl⟩
theorem TIM_JMP_blk : InBlk .tim TIM_JMP := by
  unfold TIM_JMP; exact ⟨rfl, rfl⟩
theorem TIM_LDLY_blk (p : Nat) : InBlk .tim (TIM_LDLY p) := by
  simp only [InBlk, Block.num, TIM_LDLY]; omega
theorem TIM_MPD_blk : InBlk .tim TIM_MPD := by
  unfold TIM_MPD; exact ⟨rfl, rfl⟩
theorem TIM_NOWNS_blk : InBlk .tim TIM_NOWNS := by
  unfold TIM_NOWNS; exact ⟨rfl, rfl⟩
theorem TIM_OFS_blk : InBlk .tim TIM_OFS := by
  unfold TIM_OFS; exact ⟨rfl, rfl⟩
theorem TIM_PTP_blk : InBlk .tim TIM_PTP := by
  unfold TIM_PTP; exact ⟨rfl, rfl⟩
theorem TIM_RATE_blk : InBlk .tim TIM_RATE := by
  unfold TIM_RATE; exact ⟨rfl, rfl⟩
theorem TIM_ST_blk : InBlk .tim TIM_ST := by
  unfold TIM_ST; exact ⟨rfl, rfl⟩
theorem TIM_STEP_blk : InBlk .tim TIM_STEP := by
  unfold TIM_STEP; exact ⟨rfl, rfl⟩
theorem TIM_STEPT_blk : InBlk .tim TIM_STEPT := by
  unfold TIM_STEPT; exact ⟨rfl, rfl⟩
theorem TIM_T32_blk : InBlk .tim TIM_T32 := by
  unfold TIM_T32; exact ⟨rfl, rfl⟩
theorem TIM_UTC_blk : InBlk .tim TIM_UTC := by
  unfold TIM_UTC; exact ⟨rfl, rfl⟩
theorem ACQ_CST_PCLAMP_blk (c : Nat) : InBlk .acq (ACQ_CST_PCLAMP c).addr := ACQ_CST_blk c
theorem ACQ_CST_PRECUT_blk (c : Nat) : InBlk .acq (ACQ_CST_PRECUT c).addr := ACQ_CST_blk c
theorem ACQ_CST_RID_blk (c : Nat) : InBlk .acq (ACQ_CST_RID c).addr := ACQ_CST_blk c
theorem ACQ_CST_STATE_blk (c : Nat) : InBlk .acq (ACQ_CST_STATE c).addr := ACQ_CST_blk c
theorem ACQ_GCNT_MISS_blk (g : Nat) : InBlk .acq (ACQ_GCNT_MISS g).addr := ACQ_GCNT_blk g
theorem ACQ_GCNT_TRIG_blk (g : Nat) : InBlk .acq (ACQ_GCNT_TRIG g).addr := ACQ_GCNT_blk g
theorem ACQ_GST_RAIGN_blk (g : Nat) : InBlk .acq (ACQ_GST_RAIGN g).addr := ACQ_GST_blk g
theorem ACQ_GST_RESULT_blk (g : Nat) : InBlk .acq (ACQ_GST_RESULT g).addr := ACQ_GST_blk g
theorem ACQ_GST_STATE_blk (g : Nat) : InBlk .acq (ACQ_GST_STATE g).addr := ACQ_GST_blk g
theorem ACQ_POOLA_ARMED_blk : InBlk .acq (ACQ_POOLA_ARMED).addr := ACQ_POOLA_blk
theorem ACQ_POOLA_FREE_blk : InBlk .acq (ACQ_POOLA_FREE).addr := ACQ_POOLA_blk
theorem ACQ_POOLB_HELD_blk : InBlk .acq (ACQ_POOLB_HELD).addr := ACQ_POOLB_blk
theorem ACQ_SLOT_KIND_blk (s : Nat) : InBlk .acq (ACQ_SLOT_KIND s).addr := ACQ_SLOT_blk s
theorem ACQ_SLOT_NEXT_blk (s : Nat) : InBlk .acq (ACQ_SLOT_NEXT s).addr := ACQ_SLOT_blk s
theorem ACQ_SLOT_OWNER_blk (s : Nat) : InBlk .acq (ACQ_SLOT_OWNER s).addr := ACQ_SLOT_blk s
theorem ACQ_STAT_QLOST_blk : InBlk .acq (ACQ_STAT_QLOST).addr := ACQ_STAT_blk
theorem ACQ_STAT_RFREE_blk : InBlk .acq (ACQ_STAT_RFREE).addr := ACQ_STAT_blk
theorem ACQ_WST_CLKOK_blk : InBlk .acq (ACQ_WST_CLKOK).addr := ACQ_WST_blk
theorem ACQ_WST_WBAD_blk : InBlk .acq (ACQ_WST_WBAD).addr := ACQ_WST_blk
theorem ACQ_WST_WOVR_blk : InBlk .acq (ACQ_WST_WOVR).addr := ACQ_WST_blk
theorem CFG_BOOT_BANK_blk : InBlk .cfg (CFG_BOOT_BANK).addr := CFG_BOOT_blk
theorem CFG_BOOT_CAUSE0_blk : InBlk .cfg (CFG_BOOT_CAUSE0).addr := CFG_BOOT_blk
theorem CFG_BOOT_CAUSE1_blk : InBlk .cfg (CFG_BOOT_CAUSE1).addr := CFG_BOOT_blk
theorem CFG_BOOT_KEYSLOT_blk : InBlk .cfg (CFG_BOOT_KEYSLOT).addr := CFG_BOOT_blk
theorem CFG_CHG_BUSY_blk : InBlk .cfg (CFG_CHG_BUSY).addr := CFG_CHG_blk
theorem CFG_CHG_COUNT_blk : InBlk .cfg (CFG_CHG_COUNT).addr := CFG_CHG_blk
theorem CFG_CHG_RESULT_blk : InBlk .cfg (CFG_CHG_RESULT).addr := CFG_CHG_blk
theorem CFG_CHG_SLOT_blk : InBlk .cfg (CFG_CHG_SLOT).addr := CFG_CHG_blk
theorem CFG_FLASH_CLK_blk : InBlk .cfg (CFG_FLASH_CLK).addr := CFG_FLASH_blk
theorem CFG_FLASH_DENSITY_blk : InBlk .cfg (CFG_FLASH_DENSITY).addr := CFG_FLASH_blk
theorem CFG_FLASH_MODE_blk : InBlk .cfg (CFG_FLASH_MODE).addr := CFG_FLASH_blk
theorem CFG_FLASH_SFDP_blk : InBlk .cfg (CFG_FLASH_SFDP).addr := CFG_FLASH_blk
theorem CFG_RCP_ACTIVE_blk : InBlk .cfg (CFG_RCP_ACTIVE).addr := CFG_RCP_blk
theorem CFG_RCP_FALLBACK_blk : InBlk .cfg (CFG_RCP_FALLBACK).addr := CFG_RCP_blk
theorem CFG_RCP_MODE_blk : InBlk .cfg (CFG_RCP_MODE).addr := CFG_RCP_blk
theorem CFG_RCP_START_blk : InBlk .cfg (CFG_RCP_START).addr := CFG_RCP_blk
theorem CFG_STATE_ELAPSED_blk : InBlk .cfg (CFG_STATE_ELAPSED).addr := CFG_STATE_blk
theorem CFG_STATE_STATE_blk : InBlk .cfg (CFG_STATE_STATE).addr := CFG_STATE_blk
theorem CSF_CST_ACT_blk (c : Nat) : InBlk .csf (CSF_CST_ACT c).addr := CSF_CST_blk c
theorem CSF_CST_OC_blk (c : Nat) : InBlk .csf (CSF_CST_OC c).addr := CSF_CST_blk c
theorem CSF_CST_SAT_blk (c : Nat) : InBlk .csf (CSF_CST_SAT c).addr := CSF_CST_blk c
theorem CSF_CST_STUCK_blk (c : Nat) : InBlk .csf (CSF_CST_STUCK c).addr := CSF_CST_blk c
theorem CSF_CST_SUM_blk (c : Nat) : InBlk .csf (CSF_CST_SUM c).addr := CSF_CST_blk c
theorem CSF_SDC_EN_blk (m : Nat) : InBlk .csf (CSF_SDC_EN m).addr := CSF_SDC_blk m
theorem CSF_SDC_TSD_blk (m : Nat) : InBlk .csf (CSF_SDC_TSD m).addr := CSF_SDC_blk m
theorem CSF_VAL_FAST_blk (c : Nat) : InBlk .csf (CSF_VAL_FAST c).addr := CSF_VAL_blk c
theorem CSF_VAL_PREC_blk (c : Nat) : InBlk .csf (CSF_VAL_PREC c).addr := CSF_VAL_blk c
theorem DIO_CCFG_FILT_blk (c : Nat) : InBlk .dio (DIO_CCFG_FILT c).addr := DIO_CCFG_blk c
theorem DIO_CCFG_FLAGS_blk (c : Nat) : InBlk .dio (DIO_CCFG_FLAGS c).addr := DIO_CCFG_blk c
theorem DIO_CCFG_ITYPE_blk (c : Nat) : InBlk .dio (DIO_CCFG_ITYPE c).addr := DIO_CCFG_blk c
theorem DIO_CCFG_MODE_blk (c : Nat) : InBlk .dio (DIO_CCFG_MODE c).addr := DIO_CCFG_blk c
theorem DIO_CCFG_RBT_blk (c : Nat) : InBlk .dio (DIO_CCFG_RBT c).addr := DIO_CCFG_blk c
theorem DIO_CCNT_LATE_blk (c : Nat) : InBlk .dio (DIO_CCNT_LATE c).addr := DIO_CCNT_blk c
theorem DIO_CCNT_RETRY_blk (c : Nat) : InBlk .dio (DIO_CCNT_RETRY c).addr := DIO_CCNT_blk c
theorem DIO_CCNT_SEQ_blk (c : Nat) : InBlk .dio (DIO_CCNT_SEQ c).addr := DIO_CCNT_blk c
theorem DIO_CFG_EVEN_blk : InBlk .dio (DIO_CFG_EVEN).addr := DIO_CFG_blk
theorem DIO_CFG_EVQ_blk : InBlk .dio (DIO_CFG_EVQ).addr := DIO_CFG_blk
theorem DIO_CST_ACT_blk (c : Nat) : InBlk .dio (DIO_CST_ACT c).addr := DIO_CST_blk c
theorem DIO_CST_BACKFED_blk (c : Nat) : InBlk .dio (DIO_CST_BACKFED c).addr := DIO_CST_blk c
theorem DIO_CST_COUPLER_blk (c : Nat) : InBlk .dio (DIO_CST_COUPLER c).addr := DIO_CST_blk c
theorem DIO_CST_HOLDEFF_blk (c : Nat) : InBlk .dio (DIO_CST_HOLDEFF c).addr := DIO_CST_blk c
theorem DIO_CST_INVALID_blk (c : Nat) : InBlk .dio (DIO_CST_INVALID c).addr := DIO_CST_blk c
theorem DIO_CST_LAND_blk (c : Nat) : InBlk .dio (DIO_CST_LAND c).addr := DIO_CST_blk c
theorem DIO_CST_LEVEL_blk (c : Nat) : InBlk .dio (DIO_CST_LEVEL c).addr := DIO_CST_blk c
theorem DIO_CST_LIMIT_blk (c : Nat) : InBlk .dio (DIO_CST_LIMIT c).addr := DIO_CST_blk c
theorem DIO_CST_NOPERM_blk (c : Nat) : InBlk .dio (DIO_CST_NOPERM c).addr := DIO_CST_blk c
theorem DIO_CST_OLOW_blk (c : Nat) : InBlk .dio (DIO_CST_OLOW c).addr := DIO_CST_blk c
theorem DIO_CST_OWNED_blk (c : Nat) : InBlk .dio (DIO_CST_OWNED c).addr := DIO_CST_blk c
theorem DIO_CST_THERM_blk (c : Nat) : InBlk .dio (DIO_CST_THERM c).addr := DIO_CST_blk c
theorem DIO_CST_TIMEOUT_blk (c : Nat) : InBlk .dio (DIO_CST_TIMEOUT c).addr := DIO_CST_blk c
theorem DIO_GCFG_HBT_blk (g : Nat) : InBlk .dio (DIO_GCFG_HBT g).addr := DIO_GCFG_blk g
theorem DIO_GCNT_GOVLCNT_blk (g : Nat) : InBlk .dio (DIO_GCNT_GOVLCNT g).addr := DIO_GCNT_blk g
theorem DIO_GCNT_LOWCNT_blk (g : Nat) : InBlk .dio (DIO_GCNT_LOWCNT g).addr := DIO_GCNT_blk g
theorem DIO_GCNT_MISSCNT_blk (g : Nat) : InBlk .dio (DIO_GCNT_MISSCNT g).addr := DIO_GCNT_blk g
theorem DIO_GCNT_TOCNT_blk (g : Nat) : InBlk .dio (DIO_GCNT_TOCNT g).addr := DIO_GCNT_blk g
theorem DIO_GMEAS_IG_blk (g : Nat) : InBlk .dio (DIO_GMEAS_IG g).addr := DIO_GMEAS_blk g
theorem DIO_GMEAS_VLP_blk (g : Nat) : InBlk .dio (DIO_GMEAS_VLP g).addr := DIO_GMEAS_blk g
theorem DIO_GST_ALIVE_blk (g : Nat) : InBlk .dio (DIO_GST_ALIVE g).addr := DIO_GST_blk g
theorem DIO_GST_GOVL_blk (g : Nat) : InBlk .dio (DIO_GST_GOVL g).addr := DIO_GST_blk g
theorem DIO_GST_LOWW_blk (g : Nat) : InBlk .dio (DIO_GST_LOWW g).addr := DIO_GST_blk g
theorem DIO_GST_MISSW_blk (g : Nat) : InBlk .dio (DIO_GST_MISSW g).addr := DIO_GST_blk g
theorem DIO_GST_SUPPLY_blk (g : Nat) : InBlk .dio (DIO_GST_SUPPLY g).addr := DIO_GST_blk g
theorem DIO_GST_TOUT_blk (g : Nat) : InBlk .dio (DIO_GST_TOUT g).addr := DIO_GST_blk g
theorem DIO_STAT_EVLOST_blk : InBlk .dio (DIO_STAT_EVLOST).addr := DIO_STAT_blk
theorem ENG_BAND_HYST_blk (a : Nat) : InBlk .eng (ENG_BAND_HYST a).addr := ENG_BAND_blk a
theorem ENG_BAND_MINDW_blk (a : Nat) : InBlk .eng (ENG_BAND_MINDW a).addr := ENG_BAND_blk a
theorem ENG_BCNT_CUT_blk (a : Nat) : InBlk .eng (ENG_BCNT_CUT a).addr := ENG_BCNT_blk a
theorem ENG_BCNT_SWITCH_blk (a : Nat) : InBlk .eng (ENG_BCNT_SWITCH a).addr := ENG_BCNT_blk a
theorem ENG_CST_CGEN_blk (a : Nat) : InBlk .eng (ENG_CST_CGEN a).addr := ENG_CST_blk a
theorem ENG_CST_LATE_blk (a : Nat) : InBlk .eng (ENG_CST_LATE a).addr := ENG_CST_blk a
theorem ENG_CST_PRECUR_blk (a : Nat) : InBlk .eng (ENG_CST_PRECUR a).addr := ENG_CST_blk a
theorem ENG_CST_PREPOS_blk (a : Nat) : InBlk .eng (ENG_CST_PREPOS a).addr := ENG_CST_blk a
theorem ENG_CST_PREVEL_blk (a : Nat) : InBlk .eng (ENG_CST_PREVEL a).addr := ENG_CST_blk a
theorem ENG_CST_RUN_blk (a : Nat) : InBlk .eng (ENG_CST_RUN a).addr := ENG_CST_blk a
theorem ENG_CST_WDOG_blk (a : Nat) : InBlk .eng (ENG_CST_WDOG a).addr := ENG_CST_blk a
theorem ENG_CTX_DIVCUR_blk (a : Nat) : InBlk .eng (ENG_CTX_DIVCUR a).addr := ENG_CTX_blk a
theorem ENG_CTX_DIVPOS_blk (a : Nat) : InBlk .eng (ENG_CTX_DIVPOS a).addr := ENG_CTX_blk a
theorem ENG_CTX_DIVVEL_blk (a : Nat) : InBlk .eng (ENG_CTX_DIVVEL a).addr := ENG_CTX_blk a
theorem ENG_CTX_MODE_blk (a : Nat) : InBlk .eng (ENG_CTX_MODE a).addr := ENG_CTX_blk a
theorem ENG_CTX_SCALE_blk (a : Nat) : InBlk .eng (ENG_CTX_SCALE a).addr := ENG_CTX_blk a
theorem ENG_CTX_WPH_blk (a : Nat) : InBlk .eng (ENG_CTX_WPH a).addr := ENG_CTX_blk a
theorem ENG_DCNT_SKIP_blk (a : Nat) : InBlk .eng (ENG_DCNT_SKIP a).addr := ENG_DCNT_blk a
theorem ENG_DCNT_UPD_blk (a : Nat) : InBlk .eng (ENG_DCNT_UPD a).addr := ENG_DCNT_blk a
theorem ENG_DCTL_FREEZE_blk (a : Nat) : InBlk .eng (ENG_DCTL_FREEZE a).addr := ENG_DCTL_blk a
theorem ENG_DST_FRZ_blk (a : Nat) : InBlk .eng (ENG_DST_FRZ a).addr := ENG_DST_blk a
theorem ENG_DST_RAMP_blk (a : Nat) : InBlk .eng (ENG_DST_RAMP a).addr := ENG_DST_blk a
theorem ENG_DST_SPAN_blk (a : Nat) : InBlk .eng (ENG_DST_SPAN a).addr := ENG_DST_blk a
theorem ENG_DST_STATE_blk (a : Nat) : InBlk .eng (ENG_DST_STATE a).addr := ENG_DST_blk a
theorem ENG_FLG_AV_blk (a : Nat) : InBlk .eng (ENG_FLG_AV a).addr := ENG_FLG_blk a
theorem ENG_FLG_AVV_blk (a : Nat) : InBlk .eng (ENG_FLG_AVV a).addr := ENG_FLG_blk a
theorem ENG_FLG_N_blk (a : Nat) : InBlk .eng (ENG_FLG_N a).addr := ENG_FLG_blk a
theorem ENG_FLG_SAT_blk (a : Nat) : InBlk .eng (ENG_FLG_SAT a).addr := ENG_FLG_blk a
theorem ENG_FLG_WPROT_blk (a : Nat) : InBlk .eng (ENG_FLG_WPROT a).addr := ENG_FLG_blk a
theorem ENG_FLG_Z_blk (a : Nat) : InBlk .eng (ENG_FLG_Z a).addr := ENG_FLG_blk a
theorem ENG_IREF_ID_blk (a : Nat) : InBlk .eng (ENG_IREF_ID a).addr := ENG_IREF_blk a
theorem ENG_IREF_IQ_blk (a : Nat) : InBlk .eng (ENG_IREF_IQ a).addr := ENG_IREF_blk a
theorem ENG_JEST_JEST_blk (a : Nat) : InBlk .eng (ENG_JEST_JEST a).addr := ENG_JEST_blk a
theorem ENG_JEST_JOFS_blk (a : Nat) : InBlk .eng (ENG_JEST_JOFS a).addr := ENG_JEST_blk a
theorem ENG_JST_ATMAX_blk (a : Nat) : InBlk .eng (ENG_JST_ATMAX a).addr := ENG_JST_blk a
theorem ENG_JST_ATMIN_blk (a : Nat) : InBlk .eng (ENG_JST_ATMIN a).addr := ENG_JST_blk a
theorem ENG_JST_LOW_blk (a : Nat) : InBlk .eng (ENG_JST_LOW a).addr := ENG_JST_blk a
theorem ENG_SRES_PEAK_blk (a : Nat) : InBlk .eng (ENG_SRES_PEAK a).addr := ENG_SRES_blk a
theorem ENG_SRES_RF_blk (a : Nat) : InBlk .eng (ENG_SRES_RF a).addr := ENG_SRES_blk a
theorem ENG_SST_AVW_blk (a : Nat) : InBlk .eng (ENG_SST_AVW a).addr := ENG_SST_blk a
theorem ENG_SST_RUN_blk (a : Nat) : InBlk .eng (ENG_SST_RUN a).addr := ENG_SST_blk a
theorem ENG_SST_SETTLE_blk (a : Nat) : InBlk .eng (ENG_SST_SETTLE a).addr := ENG_SST_blk a
theorem ENG_SST_STATE_blk (a : Nat) : InBlk .eng (ENG_SST_STATE a).addr := ENG_SST_blk a
theorem ENG_SST_SUB_blk (a : Nat) : InBlk .eng (ENG_SST_SUB a).addr := ENG_SST_blk a
theorem ENG_SST_WARN_blk (a : Nat) : InBlk .eng (ENG_SST_WARN a).addr := ENG_SST_blk a
theorem ENG_STAT_BANK_blk (k : Nat) : InBlk .eng (ENG_STAT_BANK k).addr := ENG_STAT_blk k
theorem ENG_STAT_DISC_blk (k : Nat) : InBlk .eng (ENG_STAT_DISC k).addr := ENG_STAT_blk k
theorem ENG_STAT_ENABLED_blk (k : Nat) : InBlk .eng (ENG_STAT_ENABLED k).addr := ENG_STAT_blk k
theorem ENG_STAT_LATE_blk (k : Nat) : InBlk .eng (ENG_STAT_LATE k).addr := ENG_STAT_blk k
theorem ENG_STAT_NSLOT_blk (k : Nat) : InBlk .eng (ENG_STAT_NSLOT k).addr := ENG_STAT_blk k
theorem ENG_STAT_PLLLOSS_blk (k : Nat) : InBlk .eng (ENG_STAT_PLLLOSS k).addr := ENG_STAT_blk k
theorem ENG_VOUT_VD_blk (a : Nat) : InBlk .eng (ENG_VOUT_VD a).addr := ENG_VOUT_blk a
theorem ENG_VOUT_VQ_blk (a : Nat) : InBlk .eng (ENG_VOUT_VQ a).addr := ENG_VOUT_blk a
theorem ENG_WD_DISC_blk (a : Nat) : InBlk .eng (ENG_WD_DISC a).addr := ENG_WD_blk a
theorem ENG_WD_WDCNT_blk (a : Nat) : InBlk .eng (ENG_WD_WDCNT a).addr := ENG_WD_blk a
theorem ERR_GUARD_CAUSE_blk : InBlk .err (ERR_GUARD_CAUSE).addr := ERR_GUARD_blk
theorem ERR_GUARD_HELD_blk : InBlk .err (ERR_GUARD_HELD).addr := ERR_GUARD_blk
theorem ERR_GUARD_ISLAND_HI_blk : InBlk .err (ERR_GUARD_ISLAND_HI).addr := ERR_GUARD_blk
theorem ERR_GUARD_ISL_ISL_blk : InBlk .err (ERR_GUARD_ISL_ISL).addr := ERR_GUARD_ISL_blk
theorem ERR_LOGST_HELD_blk : InBlk .err (ERR_LOGST_HELD).addr := ERR_LOGST_blk
theorem ERR_LOGST_NPERS_blk : InBlk .err (ERR_LOGST_NPERS).addr := ERR_LOGST_blk
theorem ERR_LOST_BUF_blk (i : Nat) : InBlk .err (ERR_LOST_BUF i).addr := ERR_LOST_blk i
theorem ERR_LOST_LOST_blk (i : Nat) : InBlk .err (ERR_LOST_LOST i).addr := ERR_LOST_blk i
theorem ERR_LOST_LOSTP_blk (i : Nat) : InBlk .err (ERR_LOST_LOSTP i).addr := ERR_LOST_blk i
theorem FBK_ARSP_CODE_blk (p : Nat) : InBlk .fbk (FBK_ARSP_CODE p).addr := FBK_ARSP_blk p
theorem FBK_ARSP_DATA_blk (p : Nat) : InBlk .fbk (FBK_ARSP_DATA p).addr := FBK_ARSP_blk p
theorem FBK_ARSP_DONE_blk (p : Nat) : InBlk .fbk (FBK_ARSP_DONE p).addr := FBK_ARSP_blk p
theorem FBK_ARSP_ERR_blk (p : Nat) : InBlk .fbk (FBK_ARSP_ERR p).addr := FBK_ARSP_blk p
theorem FBK_ARSP_STATUS_blk (p : Nat) : InBlk .fbk (FBK_ARSP_STATUS p).addr := FBK_ARSP_blk p
theorem FBK_PRCFG_ARM_blk (i : Nat) : InBlk .fbk (FBK_PRCFG_ARM i).addr := FBK_PRCFG_blk i
theorem FBK_PRCFG_CONT_blk (i : Nat) : InBlk .fbk (FBK_PRCFG_CONT i).addr := FBK_PRCFG_blk i
theorem FBK_PRCFG_OWN_blk (i : Nat) : InBlk .fbk (FBK_PRCFG_OWN i).addr := FBK_PRCFG_blk i
theorem FBK_PRCNT_LOST_blk (i : Nat) : InBlk .fbk (FBK_PRCNT_LOST i).addr := FBK_PRCNT_blk i
theorem FBK_PRCNT_SEQ_blk (i : Nat) : InBlk .fbk (FBK_PRCNT_SEQ i).addr := FBK_PRCNT_blk i
theorem FBK_PRSEL_LSEL_blk (i : Nat) : InBlk .fbk (FBK_PRSEL_LSEL i).addr := FBK_PRSEL_blk i
theorem FBK_PRST_DONE_blk (i : Nat) : InBlk .fbk (FBK_PRST_DONE i).addr := FBK_PRST_blk i
theorem FBK_PRST_EST_blk (i : Nat) : InBlk .fbk (FBK_PRST_EST i).addr := FBK_PRST_blk i
theorem FBK_PRST_NOSRC_blk (i : Nat) : InBlk .fbk (FBK_PRST_NOSRC i).addr := FBK_PRST_blk i
theorem FBK_PRST_OUTW_blk (i : Nat) : InBlk .fbk (FBK_PRST_OUTW i).addr := FBK_PRST_blk i
theorem FBK_PRST_OVR_blk (i : Nat) : InBlk .fbk (FBK_PRST_OVR i).addr := FBK_PRST_blk i
theorem FBK_PST_CONS_blk (p : Nat) : InBlk .fbk (FBK_PST_CONS p).addr := FBK_PST_blk p
theorem FBK_PST_EXT_blk (p : Nat) : InBlk .fbk (FBK_PST_EXT p).addr := FBK_PST_blk p
theorem FBK_PST_FAULT_blk (p : Nat) : InBlk .fbk (FBK_PST_FAULT p).addr := FBK_PST_blk p
theorem FBK_PST_LASTERR_blk (p : Nat) : InBlk .fbk (FBK_PST_LASTERR p).addr := FBK_PST_blk p
theorem FBK_PST_TOTAL_blk (p : Nat) : InBlk .fbk (FBK_PST_TOTAL p).addr := FBK_PST_blk p
theorem FBK_PST_VALID_blk (p : Nat) : InBlk .fbk (FBK_PST_VALID p).addr := FBK_PST_blk p
theorem FBK_PST_WARN_blk (p : Nat) : InBlk .fbk (FBK_PST_WARN p).addr := FBK_PST_blk p
theorem KNL_EVB_BOUND_blk (e : Nat) : InBlk .knl (KNL_EVB_BOUND e).addr := KNL_EVB_blk e
theorem KNL_EVB_FIRES_blk (e : Nat) : InBlk .knl (KNL_EVB_FIRES e).addr := KNL_EVB_blk e
theorem KNL_EVB_TOKEN_blk (e : Nat) : InBlk .knl (KNL_EVB_TOKEN e).addr := KNL_EVB_blk e
theorem KNL_STAT_EVUNB_blk : InBlk .knl (KNL_STAT_EVUNB).addr := KNL_STAT_blk
theorem KNL_STAT_ORPHAN_blk : InBlk .knl (KNL_STAT_ORPHAN).addr := KNL_STAT_blk
theorem KNL_STAT_PUSHFULL_blk : InBlk .knl (KNL_STAT_PUSHFULL).addr := KNL_STAT_blk
theorem KNL_STAT_RUNOVR_blk : InBlk .knl (KNL_STAT_RUNOVR).addr := KNL_STAT_blk
theorem KNL_TST_EVCNT_blk (t : Nat) : InBlk .knl (KNL_TST_EVCNT t).addr := KNL_TST_blk t
theorem KNL_TST_EXEC_blk (t : Nat) : InBlk .knl (KNL_TST_EXEC t).addr := KNL_TST_blk t
theorem KNL_TST_FAIL_blk (t : Nat) : InBlk .knl (KNL_TST_FAIL t).addr := KNL_TST_blk t
theorem KNL_TST_LATE_blk (t : Nat) : InBlk .knl (KNL_TST_LATE t).addr := KNL_TST_blk t
theorem KNL_TST_OVR_blk (t : Nat) : InBlk .knl (KNL_TST_OVR t).addr := KNL_TST_blk t
theorem KNL_TST_PEND_blk (t : Nat) : InBlk .knl (KNL_TST_PEND t).addr := KNL_TST_blk t
theorem KNL_TST_STATE_blk (t : Nat) : InBlk .knl (KNL_TST_STATE t).addr := KNL_TST_blk t
theorem KNL_TST_WHY_blk (t : Nat) : InBlk .knl (KNL_TST_WHY t).addr := KNL_TST_blk t
theorem LSH_AUXDTF_BASE_blk (k : Nat) : InBlk .lsh (LSH_AUXDTF_BASE k).addr := LSH_AUXDTF_blk k
theorem LSH_AUXDTF_EFF_blk (k : Nat) : InBlk .lsh (LSH_AUXDTF_EFF k).addr := LSH_AUXDTF_blk k
theorem LSH_AUXDUTY_BASE_blk (k : Nat) : InBlk .lsh (LSH_AUXDUTY_BASE k).addr := LSH_AUXDUTY_blk k
theorem LSH_AUXDUTY_EFF_blk (k : Nat) : InBlk .lsh (LSH_AUXDUTY_EFF k).addr := LSH_AUXDUTY_blk k
theorem LSH_AUXMPW_BASE_blk (k : Nat) : InBlk .lsh (LSH_AUXMPW_BASE k).addr := LSH_AUXMPW_blk k
theorem LSH_AUXMPW_EFF_blk (k : Nat) : InBlk .lsh (LSH_AUXMPW_EFF k).addr := LSH_AUXMPW_blk k
theorem LSH_CLAMP_I2T_blk (a : Nat) : InBlk .lsh (LSH_CLAMP_I2T a).addr := LSH_CLAMP_blk a
theorem LSH_DTF_BASE_blk (a : Nat) : InBlk .lsh (LSH_DTF_BASE a).addr := LSH_DTF_blk a
theorem LSH_DTF_EFF_blk (a : Nat) : InBlk .lsh (LSH_DTF_EFF a).addr := LSH_DTF_blk a
theorem LSH_DUTY_BASE_blk (a : Nat) : InBlk .lsh (LSH_DUTY_BASE a).addr := LSH_DUTY_blk a
theorem LSH_DUTY_EFF_blk (a : Nat) : InBlk .lsh (LSH_DUTY_EFF a).addr := LSH_DUTY_blk a
theorem LSH_ESC_COUNT_blk (a : Nat) : InBlk .lsh (LSH_ESC_COUNT a).addr := LSH_ESC_blk a
theorem LSH_ESC_MASK_blk (a : Nat) : InBlk .lsh (LSH_ESC_MASK a).addr := LSH_ESC_blk a
theorem LSH_ESC_RUN_blk (a : Nat) : InBlk .lsh (LSH_ESC_RUN a).addr := LSH_ESC_blk a
theorem LSH_I2T_LEVEL_blk (a : Nat) : InBlk .lsh (LSH_I2T_LEVEL a).addr := LSH_I2T_blk a
theorem LSH_I2T_TPK_blk (a : Nat) : InBlk .lsh (LSH_I2T_TPK a).addr := LSH_I2T_blk a
theorem LSH_ICT_BASE_blk (a : Nat) : InBlk .lsh (LSH_ICT_BASE a).addr := LSH_ICT_blk a
theorem LSH_ICT_EFF_blk (a : Nat) : InBlk .lsh (LSH_ICT_EFF a).addr := LSH_ICT_blk a
theorem LSH_IPK_BASE_blk (a : Nat) : InBlk .lsh (LSH_IPK_BASE a).addr := LSH_IPK_blk a
theorem LSH_IPK_EFF_blk (a : Nat) : InBlk .lsh (LSH_IPK_EFF a).addr := LSH_IPK_blk a
theorem LSH_MPW_BASE_blk (a : Nat) : InBlk .lsh (LSH_MPW_BASE a).addr := LSH_MPW_blk a
theorem LSH_MPW_EFF_blk (a : Nat) : InBlk .lsh (LSH_MPW_EFF a).addr := LSH_MPW_blk a
theorem LSH_PCFG_ENV_blk (n : Nat) : InBlk .lsh (LSH_PCFG_ENV n).addr := LSH_PCFG_blk n
theorem LSH_PCFG_ENVF_blk (n : Nat) : InBlk .lsh (LSH_PCFG_ENVF n).addr := LSH_PCFG_blk n
theorem LSH_PCFG_SPDF_blk (n : Nat) : InBlk .lsh (LSH_PCFG_SPDF n).addr := LSH_PCFG_blk n
theorem LSH_STAT_DIOCLAMP_blk : InBlk .lsh (LSH_STAT_DIOCLAMP).addr := LSH_STAT_blk
theorem LSH_STAT_DISCARD_blk : InBlk .lsh (LSH_STAT_DISCARD).addr := LSH_STAT_blk
theorem LSH_STAT_LOCKED_blk : InBlk .lsh (LSH_STAT_LOCKED).addr := LSH_STAT_blk
theorem LSH_STAT_REFUSED_blk : InBlk .lsh (LSH_STAT_REFUSED).addr := LSH_STAT_blk
theorem PRF_AXCTL_REFUSE_blk (n : Nat) : InBlk .prf (PRF_AXCTL_REFUSE n).addr := PRF_AXCTL_blk n
theorem PRF_AXGEN_CGEN_blk (n : Nat) : InBlk .prf (PRF_AXGEN_CGEN n).addr := PRF_AXGEN_blk n
theorem PRF_AXGEN_DGEN_blk (n : Nat) : InBlk .prf (PRF_AXGEN_DGEN n).addr := PRF_AXGEN_blk n
theorem PRF_AXST_CAUSE_blk (n : Nat) : InBlk .prf (PRF_AXST_CAUSE n).addr := PRF_AXST_blk n
theorem PRF_AXST_FCNT_blk (n : Nat) : InBlk .prf (PRF_AXST_FCNT n).addr := PRF_AXST_blk n
theorem PRF_AXST_LASTOFF_blk (n : Nat) : InBlk .prf (PRF_AXST_LASTOFF n).addr := PRF_AXST_blk n
theorem PRF_AXST_PENDCMT_blk (n : Nat) : InBlk .prf (PRF_AXST_PENDCMT n).addr := PRF_AXST_blk n
theorem PRF_AXST_REACT_blk (n : Nat) : InBlk .prf (PRF_AXST_REACT n).addr := PRF_AXST_blk n
theorem PRF_AXST_REF_blk (n : Nat) : InBlk .prf (PRF_AXST_REF n).addr := PRF_AXST_blk n
theorem PRF_AXST_SDPEND_blk (n : Nat) : InBlk .prf (PRF_AXST_SDPEND n).addr := PRF_AXST_blk n
theorem PRF_AXST_STATE_blk (n : Nat) : InBlk .prf (PRF_AXST_STATE n).addr := PRF_AXST_blk n
theorem PRF_AXST_STOPTO_blk (n : Nat) : InBlk .prf (PRF_AXST_STOPTO n).addr := PRF_AXST_blk n
theorem PRF_CFG_NA_blk : InBlk .prf (PRF_CFG_NA).addr := PRF_CFG_blk
theorem PRF_CFG_NG_blk : InBlk .prf (PRF_CFG_NG).addr := PRF_CFG_blk
theorem PRF_CFG_PERIOD_blk : InBlk .prf (PRF_CFG_PERIOD).addr := PRF_CFG_blk
theorem PRF_CSWST_CNT_blk (t : Nat) : InBlk .prf (PRF_CSWST_CNT t).addr := PRF_CSWST_blk t
theorem PRF_CSWST_OUT_blk (t : Nat) : InBlk .prf (PRF_CSWST_OUT t).addr := PRF_CSWST_blk t
theorem PRF_GRPCFG_NAX_blk (g : Nat) : InBlk .prf (PRF_GRPCFG_NAX g).addr := PRF_GRPCFG_blk g
theorem PRF_GRPCFG_NGEO_blk (g : Nat) : InBlk .prf (PRF_GRPCFG_NGEO g).addr := PRF_GRPCFG_blk g
theorem PRF_GRPOVR_OVR_blk (g : Nat) : InBlk .prf (PRF_GRPOVR_OVR g).addr := PRF_GRPOVR_blk g
theorem PRF_GRPST_STATE_blk (g : Nat) : InBlk .prf (PRF_GRPST_STATE g).addr := PRF_GRPST_blk g
theorem PRF_GRPST_WIN_blk (g : Nat) : InBlk .prf (PRF_GRPST_WIN g).addr := PRF_GRPST_blk g
theorem PRF_MVST_CEIL_blk (n : Nat) : InBlk .prf (PRF_MVST_CEIL n).addr := PRF_MVST_blk n
theorem PRF_MVST_ENGFB_blk (n : Nat) : InBlk .prf (PRF_MVST_ENGFB n).addr := PRF_MVST_blk n
theorem PRF_MVST_GRP_blk (n : Nat) : InBlk .prf (PRF_MVST_GRP n).addr := PRF_MVST_blk n
theorem PRF_MVST_INGRP_blk (n : Nat) : InBlk .prf (PRF_MVST_INGRP n).addr := PRF_MVST_blk n
theorem PRF_MVST_LIMX_blk (n : Nat) : InBlk .prf (PRF_MVST_LIMX n).addr := PRF_MVST_blk n
theorem PRF_MVST_MASTER_blk (n : Nat) : InBlk .prf (PRF_MVST_MASTER n).addr := PRF_MVST_blk n
theorem PRF_MVST_MODE_blk (n : Nat) : InBlk .prf (PRF_MVST_MODE n).addr := PRF_MVST_blk n
theorem PRF_MVST_OVS_blk (n : Nat) : InBlk .prf (PRF_MVST_OVS n).addr := PRF_MVST_blk n
theorem PRF_MVST_SUPER_blk (n : Nat) : InBlk .prf (PRF_MVST_SUPER n).addr := PRF_MVST_blk n
theorem PRF_STAT_EVLOST_blk : InBlk .prf (PRF_STAT_EVLOST).addr := PRF_STAT_blk
theorem PRF_STAT_LATE_blk : InBlk .prf (PRF_STAT_LATE).addr := PRF_STAT_blk
theorem PRF_TCST_ENTRY_blk : InBlk .prf (PRF_TCST_ENTRY).addr := PRF_TCST_blk
theorem PRF_TCST_NEWGEN_blk : InBlk .prf (PRF_TCST_NEWGEN).addr := PRF_TCST_blk
theorem PRF_TCST_PEND_blk : InBlk .prf (PRF_TCST_PEND).addr := PRF_TCST_blk
theorem PRF_TCST_RESULT_blk : InBlk .prf (PRF_TCST_RESULT).addr := PRF_TCST_blk
theorem PRF_VMST_EN_blk (k : Nat) : InBlk .prf (PRF_VMST_EN k).addr := PRF_VMST_blk k
theorem PRF_VMST_MOVING_blk (k : Nat) : InBlk .prf (PRF_VMST_MOVING k).addr := PRF_VMST_blk k
theorem PWM_AUXCNT_ONCNT_blk (k : Nat) : InBlk .pwm (PWM_AUXCNT_ONCNT k).addr := PWM_AUXCNT_blk k
theorem PWM_AUXCNT_ONPER_blk (k : Nat) : InBlk .pwm (PWM_AUXCNT_ONPER k).addr := PWM_AUXCNT_blk k
theorem PWM_AUXST_OFF_blk (k : Nat) : InBlk .pwm (PWM_AUXST_OFF k).addr := PWM_AUXST_blk k
theorem PWM_AUXST_ON_blk (k : Nat) : InBlk .pwm (PWM_AUXST_ON k).addr := PWM_AUXST_blk k
theorem PWM_AUXST_RUN_blk (k : Nat) : InBlk .pwm (PWM_AUXST_RUN k).addr := PWM_AUXST_blk k
theorem PWM_AUXST_STUCK_blk (k : Nat) : InBlk .pwm (PWM_AUXST_STUCK k).addr := PWM_AUXST_blk k
theorem PWM_AUXST_VAL_blk (k : Nat) : InBlk .pwm (PWM_AUXST_VAL k).addr := PWM_AUXST_blk k
theorem PWM_AXST_EN_blk (a : Nat) : InBlk .pwm (PWM_AXST_EN a).addr := PWM_AXST_blk a
theorem PWM_AXST_FLT_blk (a : Nat) : InBlk .pwm (PWM_AXST_FLT a).addr := PWM_AXST_blk a
theorem PWM_AXST_GENOK_blk (a : Nat) : InBlk .pwm (PWM_AXST_GENOK a).addr := PWM_AXST_blk a
theorem PWM_AXST_PERNUM_blk (a : Nat) : InBlk .pwm (PWM_AXST_PERNUM a).addr := PWM_AXST_blk a
theorem PWM_AXST_RUN_blk (a : Nat) : InBlk .pwm (PWM_AXST_RUN a).addr := PWM_AXST_blk a
theorem PWM_AXST_SAFE_blk (a : Nat) : InBlk .pwm (PWM_AXST_SAFE a).addr := PWM_AXST_blk a
theorem PWM_AXST_TRIPIN_blk (a : Nat) : InBlk .pwm (PWM_AXST_TRIPIN a).addr := PWM_AXST_blk a
theorem PWM_GST_CLKLOSS_blk (i : Nat) : InBlk .pwm (PWM_GST_CLKLOSS i).addr := PWM_GST_blk i
theorem PWM_GST_GEN_blk (i : Nat) : InBlk .pwm (PWM_GST_GEN i).addr := PWM_GST_blk i
theorem PWM_GST_HALT_blk (i : Nat) : InBlk .pwm (PWM_GST_HALT i).addr := PWM_GST_blk i
theorem PWM_GST_LOSSCNT_blk (i : Nat) : InBlk .pwm (PWM_GST_LOSSCNT i).addr := PWM_GST_blk i
theorem PWM_STG_CMPV_blk (a : Nat) : InBlk .pwm (PWM_STG_CMPV a).addr := PWM_STG_blk a
theorem PWM_STG_COMMIT_blk (a : Nat) : InBlk .pwm (PWM_STG_COMMIT a).addr := PWM_STG_blk a
theorem PWM_STG_SPER_blk (a : Nat) : InBlk .pwm (PWM_STG_SPER a).addr := PWM_STG_blk a
theorem PWM_TCNT_CUTS_blk (a : Nat) : InBlk .pwm (PWM_TCNT_CUTS a).addr := PWM_TCNT_blk a
theorem PWM_TCNT_TRIPS_blk (a : Nat) : InBlk .pwm (PWM_TCNT_TRIPS a).addr := PWM_TCNT_blk a
theorem PWR_ISL_CEIL_blk (i : Nat) : InBlk .err (PWR_ISL_CEIL i).addr := PWR_ISL_blk i
theorem PWR_ISL_LATE_blk (i : Nat) : InBlk .err (PWR_ISL_LATE i).addr := PWR_ISL_blk i
theorem PWR_ISL_MARGIN_blk (i : Nat) : InBlk .err (PWR_ISL_MARGIN i).addr := PWR_ISL_blk i
theorem PWR_ISL_STATE_blk (i : Nat) : InBlk .err (PWR_ISL_STATE i).addr := PWR_ISL_blk i
theorem PWR_MON_REFOUT_blk : InBlk .err (PWR_MON_REFOUT).addr := PWR_MON_blk
theorem PWR_MON_REGOK_blk : InBlk .err (PWR_MON_REGOK).addr := PWR_MON_blk
theorem PWR_MON_SUPOUT_blk : InBlk .err (PWR_MON_SUPOUT).addr := PWR_MON_blk
theorem PWR_MON_TEMPOUT_blk : InBlk .err (PWR_MON_TEMPOUT).addr := PWR_MON_blk
theorem PWR_TEMP_PEAK_blk : InBlk .err (PWR_TEMP_PEAK).addr := PWR_TEMP_blk
theorem PWR_TEMP_TEMP_blk : InBlk .err (PWR_TEMP_TEMP).addr := PWR_TEMP_blk
theorem PWR_VIN_VIN_blk : InBlk .err (PWR_VIN_VIN).addr := PWR_VIN_blk
theorem PWR_VIO_VIOA_blk : InBlk .err (PWR_VIO_VIOA).addr := PWR_VIO_blk
theorem PWR_VIO_VIOB_blk : InBlk .err (PWR_VIO_VIOB).addr := PWR_VIO_blk
theorem QUE_BST_FREE_blk : InBlk .que (QUE_BST_FREE).addr := QUE_BST_blk
theorem QUE_BST_OUT_blk : InBlk .que (QUE_BST_OUT).addr := QUE_BST_blk
theorem QUE_BST_PEAKOUT_blk : InBlk .que (QUE_BST_PEAKOUT).addr := QUE_BST_blk
theorem QUE_CFG_BROKEN_blk (q : Nat) : InBlk .que (QUE_CFG_BROKEN q).addr := QUE_CFG_blk q
theorem QUE_CFG_CAPL_blk (q : Nat) : InBlk .que (QUE_CFG_CAPL q).addr := QUE_CFG_blk q
theorem QUE_CFG_CONS_blk (q : Nat) : InBlk .que (QUE_CFG_CONS q).addr := QUE_CFG_blk q
theorem QUE_CFG_EVSEL_blk (q : Nat) : InBlk .que (QUE_CFG_EVSEL q).addr := QUE_CFG_blk q
theorem QUE_CFG_PROD_blk (q : Nat) : InBlk .que (QUE_CFG_PROD q).addr := QUE_CFG_blk q
theorem QUE_ERR_EMPTY_blk (q : Nat) : InBlk .que (QUE_ERR_EMPTY q).addr := QUE_ERR_blk q
theorem QUE_ERR_REFUSED_blk (q : Nat) : InBlk .que (QUE_ERR_REFUSED q).addr := QUE_ERR_blk q
theorem QUE_PRES_BUSY_blk (c : Nat) : InBlk .que (QUE_PRES_BUSY c).addr := QUE_PRES_blk c
theorem QUE_PRES_Q_blk (c : Nat) : InBlk .que (QUE_PRES_Q c).addr := QUE_PRES_blk c
theorem QUE_PRES_RESULT_blk (c : Nat) : InBlk .que (QUE_PRES_RESULT c).addr := QUE_PRES_blk c
theorem QUE_ST_DEPTH_blk (q : Nat) : InBlk .que (QUE_ST_DEPTH q).addr := QUE_ST_blk q
theorem QUE_ST_PEAK_blk (q : Nat) : InBlk .que (QUE_ST_PEAK q).addr := QUE_ST_blk q
theorem QUE_WEV_DN_blk (q : Nat) : InBlk .que (QUE_WEV_DN q).addr := QUE_WEV_blk q
theorem QUE_WEV_DNCNT_blk (q : Nat) : InBlk .que (QUE_WEV_DNCNT q).addr := QUE_WEV_blk q
theorem QUE_WEV_LAST_blk (q : Nat) : InBlk .que (QUE_WEV_LAST q).addr := QUE_WEV_blk q
theorem QUE_WEV_UP_blk (q : Nat) : InBlk .que (QUE_WEV_UP q).addr := QUE_WEV_blk q
theorem QUE_WEV_UPCNT_blk (q : Nat) : InBlk .que (QUE_WEV_UPCNT q).addr := QUE_WEV_blk q
theorem RNG_BUFA_FREE_blk : InBlk .rng (RNG_BUFA_FREE).addr := RNG_BUFA_blk
theorem RNG_BUFA_RECV_blk : InBlk .rng (RNG_BUFA_RECV).addr := RNG_BUFA_blk
theorem RNG_BUFB_FWD_blk : InBlk .rng (RNG_BUFB_FWD).addr := RNG_BUFB_blk
theorem RNG_BUFB_TXW_blk : InBlk .rng (RNG_BUFB_TXW).addr := RNG_BUFB_blk
theorem RNG_CFG_ADDR_blk : InBlk .rng (RNG_CFG_ADDR).addr := RNG_CFG_blk
theorem RNG_CFG_LOSTMAX_blk : InBlk .rng (RNG_CFG_LOSTMAX).addr := RNG_CFG_blk
theorem RNG_CFG_MISSMAX_blk : InBlk .rng (RNG_CFG_MISSMAX).addr := RNG_CFG_blk
theorem RNG_CFG_NFR_blk : InBlk .rng (RNG_CFG_NFR).addr := RNG_CFG_blk
theorem RNG_CFG_ROLE_blk : InBlk .rng (RNG_CFG_ROLE).addr := RNG_CFG_blk
theorem RNG_CFG_SPEED_blk : InBlk .rng (RNG_CFG_SPEED).addr := RNG_CFG_blk
theorem RNG_CFG_TOPO_blk : InBlk .rng (RNG_CFG_TOPO).addr := RNG_CFG_blk
theorem RNG_ERR_FCS_blk : InBlk .rng (RNG_ERR_FCS).addr := RNG_ERR_blk
theorem RNG_ERR_FOREIGN_blk : InBlk .rng (RNG_ERR_FOREIGN).addr := RNG_ERR_blk
theorem RNG_ERR_NOBUF_blk : InBlk .rng (RNG_ERR_NOBUF).addr := RNG_ERR_blk
theorem RNG_ETYPE_ETYPE_blk : InBlk .rng (RNG_ETYPE_ETYPE).addr := RNG_ETYPE_blk
theorem RNG_MST_MISS_blk (m : Nat) : InBlk .rng (RNG_MST_MISS m).addr := RNG_MST_blk m
theorem RNG_MST_PORT_blk (m : Nat) : InBlk .rng (RNG_MST_PORT m).addr := RNG_MST_blk m
theorem RNG_MST_POS_blk (m : Nat) : InBlk .rng (RNG_MST_POS m).addr := RNG_MST_blk m
theorem RNG_MST_QR_blk (m : Nat) : InBlk .rng (RNG_MST_QR m).addr := RNG_MST_blk m
theorem RNG_MST_STATE_blk (m : Nat) : InBlk .rng (RNG_MST_STATE m).addr := RNG_MST_blk m
theorem RNG_MST_SVTO_blk (m : Nat) : InBlk .rng (RNG_MST_SVTO m).addr := RNG_MST_blk m
theorem RNG_MSUB_AX_blk (s : Nat) : InBlk .rng (RNG_MSUB_AX s).addr := RNG_MSUB_blk s
theorem RNG_ST_BREAKS_blk : InBlk .rng (RNG_ST_BREAKS).addr := RNG_ST_blk
theorem RNG_ST_BYP_blk : InBlk .rng (RNG_ST_BYP).addr := RNG_ST_blk
theorem RNG_ST_CRUN_blk : InBlk .rng (RNG_ST_CRUN).addr := RNG_ST_blk
theorem RNG_ST_HITS_blk : InBlk .rng (RNG_ST_HITS).addr := RNG_ST_blk
theorem RNG_ST_PA_blk : InBlk .rng (RNG_ST_PA).addr := RNG_ST_blk
theorem RNG_ST_PB_blk : InBlk .rng (RNG_ST_PB).addr := RNG_ST_blk
theorem RNG_ST_READY_blk : InBlk .rng (RNG_ST_READY).addr := RNG_ST_blk
theorem RNG_ST_STATE_blk : InBlk .rng (RNG_ST_STATE).addr := RNG_ST_blk
theorem RNG_ST_UNK_blk : InBlk .rng (RNG_ST_UNK).addr := RNG_ST_blk
theorem RNG_SVQ_FREE_blk : InBlk .rng (RNG_SVQ_FREE).addr := RNG_SVQ_blk
theorem RNG_SVQ_LOST_blk : InBlk .rng (RNG_SVQ_LOST).addr := RNG_SVQ_blk
theorem RNG_SVQ_Q_blk : InBlk .rng (RNG_SVQ_Q).addr := RNG_SVQ_blk
theorem SAF_AX_DIFF_blk (a : Nat) : InBlk .saf (SAF_AX_DIFF a).addr := SAF_AX_blk a
theorem SAF_AX_XFLT_blk (a : Nat) : InBlk .saf (SAF_AX_XFLT a).addr := SAF_AX_blk a
theorem SAF_CONN_CRCERR_blk (n : Nat) : InBlk .saf (SAF_CONN_CRCERR n).addr := SAF_CONN_blk n
theorem SAF_CONN_RESTARTS_blk (n : Nat) : InBlk .saf (SAF_CONN_RESTARTS n).addr := SAF_CONN_blk n
theorem SAF_CONN_STALE_blk (n : Nat) : InBlk .saf (SAF_CONN_STALE n).addr := SAF_CONN_blk n
theorem SAF_CONN_STATE_blk (n : Nat) : InBlk .saf (SAF_CONN_STATE n).addr := SAF_CONN_blk n
theorem SAF_CSEQ_RXSEQ_blk (n : Nat) : InBlk .saf (SAF_CSEQ_RXSEQ n).addr := SAF_CSEQ_blk n
theorem SAF_CSEQ_TXSEQ_blk (n : Nat) : InBlk .saf (SAF_CSEQ_TXSEQ n).addr := SAF_CSEQ_blk n
theorem SAF_FN_KIND_blk (f : Nat) : InBlk .saf (SAF_FN_KIND f).addr := SAF_FN_blk f
theorem SAF_FN_KSTATE_blk (f : Nat) : InBlk .saf (SAF_FN_KSTATE f).addr := SAF_FN_blk f
theorem SAF_FN_STATE_blk (f : Nat) : InBlk .saf (SAF_FN_STATE f).addr := SAF_FN_blk f
theorem SAF_FN_TMR_blk (f : Nat) : InBlk .saf (SAF_FN_TMR f).addr := SAF_FN_blk f
theorem SAF_GRP_GENAC_blk (g : Nat) : InBlk .saf (SAF_GRP_GENAC g).addr := SAF_GRP_blk g
theorem SAF_GRP_GENAR_blk (g : Nat) : InBlk .saf (SAF_GRP_GENAR g).addr := SAF_GRP_blk g
theorem SAF_GRP_GENBC_blk (g : Nat) : InBlk .saf (SAF_GRP_GENBC g).addr := SAF_GRP_blk g
theorem SAF_GRP_GENBR_blk (g : Nat) : InBlk .saf (SAF_GRP_GENBR g).addr := SAF_GRP_blk g
theorem SAF_GRP_HOLDFN_blk (g : Nat) : InBlk .saf (SAF_GRP_HOLDFN g).addr := SAF_GRP_blk g
theorem SAF_GRP_RBFLT_blk (g : Nat) : InBlk .saf (SAF_GRP_RBFLT g).addr := SAF_GRP_blk g
theorem SAF_GRP_STOCNT_blk (g : Nat) : InBlk .saf (SAF_GRP_STOCNT g).addr := SAF_GRP_blk g
theorem SAF_GRP_TESTDUE_blk (g : Nat) : InBlk .saf (SAF_GRP_TESTDUE g).addr := SAF_GRP_blk g
theorem SAF_LOG_FULL_blk : InBlk .saf (SAF_LOG_FULL).addr := SAF_LOG_blk
theorem SAF_LOG_USED_blk : InBlk .saf (SAF_LOG_USED).addr := SAF_LOG_blk
theorem SAF_PAIR_DCNT_blk (i : Nat) : InBlk .saf (SAF_PAIR_DCNT i).addr := SAF_PAIR_blk i
theorem SAF_PAIR_STATE_blk (i : Nat) : InBlk .saf (SAF_PAIR_STATE i).addr := SAF_PAIR_blk i
theorem SAF_PW_FAIL_blk : InBlk .saf (SAF_PW_FAIL).addr := SAF_PW_blk
theorem SAF_RST_ACC_blk : InBlk .saf (SAF_RST_ACC).addr := SAF_RST_blk
theorem SAF_RST_DIS_blk : InBlk .saf (SAF_RST_DIS).addr := SAF_RST_blk
theorem SAF_RST_IGN_blk : InBlk .saf (SAF_RST_IGN).addr := SAF_RST_blk
theorem SAF_RST_STUCK_blk : InBlk .saf (SAF_RST_STUCK).addr := SAF_RST_blk
theorem SAF_SO_FCODE_blk (k : Nat) : InBlk .saf (SAF_SO_FCODE k).addr := SAF_SO_blk k
theorem SAF_SO_FLT_blk (k : Nat) : InBlk .saf (SAF_SO_FLT k).addr := SAF_SO_blk k
theorem SAF_SO_SOMC_blk (k : Nat) : InBlk .saf (SAF_SO_SOMC k).addr := SAF_SO_blk k
theorem SAF_SO_SOMR_blk (k : Nat) : InBlk .saf (SAF_SO_SOMR k).addr := SAF_SO_blk k
theorem SAF_SO_SOPC_blk (k : Nat) : InBlk .saf (SAF_SO_SOPC k).addr := SAF_SO_blk k
theorem SAF_SO_SOPR_blk (k : Nat) : InBlk .saf (SAF_SO_SOPR k).addr := SAF_SO_blk k
theorem SAF_ST_ACCEPTED_blk : InBlk .saf (SAF_ST_ACCEPTED).addr := SAF_ST_blk
theorem SAF_ST_FAULT_blk : InBlk .saf (SAF_ST_FAULT).addr := SAF_ST_blk
theorem SAF_ST_FCAUSE_blk : InBlk .saf (SAF_ST_FCAUSE).addr := SAF_ST_blk
theorem SAF_ST_LOGFULL_blk : InBlk .saf (SAF_ST_LOGFULL).addr := SAF_ST_blk
theorem SAF_ST_PWLOCK_blk : InBlk .saf (SAF_ST_PWLOCK).addr := SAF_ST_blk
theorem SVC_DBG_CORE_blk : InBlk .err (SVC_DBG_CORE).addr := SVC_DBG_blk
theorem SVC_DBG_EN_blk : InBlk .err (SVC_DBG_EN).addr := SVC_DBG_blk
theorem SVC_DBG_ENG_blk : InBlk .err (SVC_DBG_ENG).addr := SVC_DBG_blk
theorem SVC_PORT_PORT_blk : InBlk .err (SVC_PORT_PORT).addr := SVC_PORT_blk
theorem SVC_STAT_BAD_blk : InBlk .err (SVC_STAT_BAD).addr := SVC_STAT_blk
theorem SVC_STAT_OVR_blk : InBlk .err (SVC_STAT_OVR).addr := SVC_STAT_blk
theorem TIM_CFG_DM_blk : InBlk .tim (TIM_CFG_DM).addr := TIM_CFG_blk
theorem TIM_CFG_HOLDT_blk : InBlk .tim (TIM_CFG_HOLDT).addr := TIM_CFG_blk
theorem TIM_CFG_KI_blk : InBlk .tim (TIM_CFG_KI).addr := TIM_CFG_blk
theorem TIM_CFG_KP_blk : InBlk .tim (TIM_CFG_KP).addr := TIM_CFG_blk
theorem TIM_CFG_OUTMAX_blk : InBlk .tim (TIM_CFG_OUTMAX).addr := TIM_CFG_blk
theorem TIM_CFG_SRC_blk : InBlk .tim (TIM_CFG_SRC).addr := TIM_CFG_blk
theorem TIM_PTP_DOMAIN_blk : InBlk .tim (TIM_PTP_DOMAIN).addr := TIM_PTP_blk
theorem TIM_PTP_LOGDREQ_blk : InBlk .tim (TIM_PTP_LOGDREQ).addr := TIM_PTP_blk
theorem TIM_PTP_SEL_blk : InBlk .tim (TIM_PTP_SEL).addr := TIM_PTP_blk
theorem TIM_ST_OUTRUN_blk : InBlk .tim (TIM_ST_OUTRUN).addr := TIM_ST_blk
theorem TIM_ST_PERMIT_blk : InBlk .tim (TIM_ST_PERMIT).addr := TIM_ST_blk
theorem TIM_ST_REFCNT_blk : InBlk .tim (TIM_ST_REFCNT).addr := TIM_ST_blk
theorem TIM_ST_STATE_blk : InBlk .tim (TIM_ST_STATE).addr := TIM_ST_blk
theorem TIM_ST_STEPS_blk : InBlk .tim (TIM_ST_STEPS).addr := TIM_ST_blk
theorem TIM_UTC_OFS_blk : InBlk .tim (TIM_UTC_OFS).addr := TIM_UTC_blk
theorem TIM_UTC_VALID_blk : InBlk .tim (TIM_UTC_VALID).addr := TIM_UTC_blk
theorem slotV_blk (x : Nat) : InBlk .knl (slotV x).addr := by
  unfold slotV; split
  · exact KNL_CORE_blk ..
  · exact KNL_XCORE_blk ..
theorem slotT_blk (x : Nat) : InBlk .knl (slotT x).addr := by
  unfold slotT; split
  · exact KNL_CORE_blk ..
  · exact KNL_XCORE_blk ..
theorem runV_blk (x : Nat) : InBlk .knl (runV x).addr := by
  unfold runV; split
  · exact KNL_CORE_blk ..
  · exact KNL_XCORE_blk ..
theorem runT_blk (x : Nat) : InBlk .knl (runT x).addr := by
  unfold runT; split
  · exact KNL_CORE_blk ..
  · exact KNL_XCORE_blk ..
theorem stateCount_blk (x : Nat) : InBlk .knl (stateCount x).addr := by
  unfold stateCount; split <;> first | exact KNL_CNTA_blk | exact KNL_CNTB_blk
theorem bandSt_blk (a h : Nat) : InBlk .eng (bandSt a h).addr := by
  unfold bandSt; split <;> exact ENG_BAND_blk ..
theorem preFlag_blk (a x : Nat) : InBlk .eng (preFlag a x).addr := by
  unfold preFlag; split <;> exact ENG_CST_blk ..

end Sys2Proof.Machine
end

