-- ==== Sys2Proof/Laws/KeepsOps.lean ====
section
/-! SUPPORT. What each operation and command of Ops, Kennel, AxisTable, Triggers, Leash, Operands, Flags, EngineIsa, Moves, Gates, Faults, Crypto, Endpoints, Queues leaves alone. -/

namespace Sys2Proof.Machine

set_option linter.unusedTactic false
set_option linter.unreachableTactic false
set_option maxRecDepth 4000

variable {m : List Part} {s0 s : State}

theorem State.wrs_nil (h : Keeps m s0 s) : Keeps m s0 (State.wrs [] s) := h
theorem State.wrs_cons {e l} (h : Keeps m s0 (State.wrs l (s.wr e.1 e.2))) : Keeps m s0 (State.wrs (e :: l) s) := h
theorem State.puts_nil (h : Keeps m s0 s) : Keeps m s0 (State.puts [] s) := h
theorem State.puts_cons {e l} (h : Keeps m s0 (State.puts l (s.put e.1 e.2))) : Keeps m s0 (State.puts (e :: l) s) := h

/-! ### Ops -/

theorem State.latch_keeps {f b} (hb : InBlk b f.addr) (h : Keeps m s0 s) (hm : within (.reg b :: [.sets]) m = true) :
    Keeps m s0 (s.latch f) := by
  unfold State.latch
  exact State.onSets_keeps (State.mark_keeps hb h (within_trans hm (by simp [within]))) (within_trans hm (by simp [within]))

theorem State.bulkPut_keeps {a v} (h : Keeps m s0 s) (hm : within [.bulk] m = true) : Keeps m s0 (s.bulkPut a v) := by
  refine State.onBulk_keeps (fun b w p => ?_) h hm
  split
  · exact ⟨memPut_wf a v w, memPut_all p ‹_›⟩
  · exact ⟨w, p⟩

theorem State.bulkStore_keeps {a l} (h : Keeps m s0 s) (hm : within [.bulk] m = true) : Keeps m s0 (s.bulkStore a l) := by
  induction l generalizing s a with
  | nil => exact h
  | cons b l ih => exact ih (State.bulkPut_keeps h (within_trans hm (by decide)))

theorem Clk.advance_ranges (dt : Nat) (rate : Int) (c : Clk) (hn : c.ns < 10 ^ 9) (hs : c.sec < 2 ^ 48) (hf : c.frac < 2 ^ 32) :
    (c.advance dt rate).ns < 10 ^ 9 ∧ (c.advance dt rate).sec < 2 ^ 48 ∧ (c.advance dt rate).frac < 2 ^ 32 := by
  unfold Clk.advance
  split
  · exact ⟨Nat.mod_lt _ (by decide), Nat.mod_lt _ (by decide), Nat.mod_lt _ (by decide)⟩
  · exact ⟨hn, hs, hf⟩

theorem State.elapse_keeps {dt} (h : Keeps m s0 s) (hm : within [.sets, .clk] m = true) : Keeps m s0 (s.elapse dt) :=
  State.onSets_keeps (State.onClk_keeps (fun _ a b c => Clk.advance_ranges _ _ _ a b c) h (within_trans hm (by decide))) (within_trans hm (by decide))

theorem State.drew_keeps {k} (h : Keeps m s0 s) (hm : within [.fresh] m = true) : Keeps m s0 (State.drew k s) := by
  unfold State.drew
  try dsimp only
  repeat' with_reducible first
    | exact h
    | refine keeps_ite (fun _ => ?_) (fun _ => ?_)
    | refine State.onFresh_keeps ?_ (within_trans hm (by decide))
    | refine keeps_pair (by assumption) ?_
    | split

theorem bufs_tabSet {t : Tab (List LogRec)} {i : Nat} {l : List LogRec} (h : ∀ j, (tabGet [] t j).length ≤ 4) (hl : l.length ≤ 4) :
    ∀ j, (tabGet [] (tabSet t i l) j).length ≤ 4 := by
  intro j
  rw [tabGet_tabSet]
  split
  · exact hl
  · exact h j

theorem State.report_keeps {src cls detail a0 a1 a2} (h : Keeps m s0 s) (hm : within [.reg .err, .log] m = true) :
    Keeps m s0 (s.report src cls detail a0 a1 a2) := by
  unfold State.report
  refine keeps_ite (fun _ => ?_) (fun c => ?_)
  · exact State.mark_keeps (by first | exact whole_blk (ERR_PRES_blk ..) | exact whole_blk (ERR_LTOT_blk ..) | exact ERR_LOST_LOST_blk .. | exact ERR_LOST_LOSTP_blk .. | exact ERR_LOST_BUF_blk .. | exact whole_blk (ERR_LOGD_blk ..) | exact whole_blk ERR_NEXT_blk) (State.satBump_keeps (by first | exact whole_blk (ERR_PRES_blk ..) | exact whole_blk (ERR_LTOT_blk ..) | exact ERR_LOST_LOST_blk .. | exact ERR_LOST_LOSTP_blk .. | exact ERR_LOST_BUF_blk .. | exact whole_blk (ERR_LOGD_blk ..) | exact whole_blk ERR_NEXT_blk) (State.bump_keeps (by first | exact whole_blk (ERR_PRES_blk ..) | exact whole_blk (ERR_LTOT_blk ..) | exact ERR_LOST_LOST_blk .. | exact ERR_LOST_LOSTP_blk .. | exact ERR_LOST_BUF_blk .. | exact whole_blk (ERR_LOGD_blk ..) | exact whole_blk ERR_NEXT_blk) (State.bump_keeps (by first | exact whole_blk (ERR_PRES_blk ..) | exact whole_blk (ERR_LTOT_blk ..) | exact ERR_LOST_LOST_blk .. | exact ERR_LOST_LOSTP_blk .. | exact ERR_LOST_BUF_blk .. | exact whole_blk (ERR_LOGD_blk ..) | exact whole_blk ERR_NEXT_blk) h (within_trans hm (by decide)))
      (within_trans hm (by decide))) (within_trans hm (by decide))) (within_trans hm (by decide))
  · refine State.onLog_keeps (fun l hb hr => ⟨?_, hr⟩) (State.put_keeps (by first | exact whole_blk (ERR_PRES_blk ..) | exact whole_blk (ERR_LTOT_blk ..) | exact ERR_LOST_LOST_blk .. | exact ERR_LOST_LOSTP_blk .. | exact ERR_LOST_BUF_blk .. | exact whole_blk (ERR_LOGD_blk ..) | exact whole_blk ERR_NEXT_blk) (State.mark_keeps (by first | exact whole_blk (ERR_PRES_blk ..) | exact whole_blk (ERR_LTOT_blk ..) | exact ERR_LOST_LOST_blk .. | exact ERR_LOST_LOSTP_blk .. | exact ERR_LOST_BUF_blk .. | exact whole_blk (ERR_LOGD_blk ..) | exact whole_blk ERR_NEXT_blk) (State.bump_keeps (by first | exact whole_blk (ERR_PRES_blk ..) | exact whole_blk (ERR_LTOT_blk ..) | exact ERR_LOST_LOST_blk .. | exact ERR_LOST_LOSTP_blk .. | exact ERR_LOST_BUF_blk .. | exact whole_blk (ERR_LOGD_blk ..) | exact whole_blk ERR_NEXT_blk) h
      (within_trans hm (by decide))) (within_trans hm (by decide))) (within_trans hm (by decide))) (within_trans hm (by decide))
    exact bufs_tabSet hb (by rw [List.length_append]; simp only [List.length_singleton]; omega)

theorem State.warn_keeps {src f} (h : Keeps m s0 s) (hm : within [.reg .err, .log] m = true) : Keeps m s0 (State.warn src f s) := by
  unfold State.warn
  try dsimp only
  repeat' with_reducible first
    | exact h
    | refine keeps_ite (fun _ => ?_) (fun _ => ?_)
    | refine State.report_keeps ?_ (within_trans hm (by decide))
    | refine keeps_pair (by assumption) ?_
    | split

theorem State.severe_keeps {src cause addr} (h : Keeps m s0 s) (hm : within [.reg .err, .log] m = true) : Keeps m s0 (State.severe src cause addr s) := by
  unfold State.severe
  try dsimp only
  repeat' with_reducible first
    | exact h
    | refine keeps_ite (fun _ => ?_) (fun _ => ?_)
    | refine State.report_keeps ?_ (within_trans hm (by decide))
    | refine keeps_pair (by assumption) ?_
    | split

theorem State.stateChange_keeps {src f old} (h : Keeps m s0 s) (hm : within [.reg .err, .log] m = true) : Keeps m s0 (State.stateChange src f old s) := by
  unfold State.stateChange
  try dsimp only
  repeat' with_reducible first
    | exact h
    | refine keeps_ite (fun _ => ?_) (fun _ => ?_)
    | refine State.report_keeps ?_ (within_trans hm (by decide))
    | refine keeps_pair (by assumption) ?_
    | split

theorem State.change_keeps {src f v b} (hb : InBlk b f.addr) (h : Keeps m s0 s) (hm : within (.reg b :: [.reg .err, .log]) m = true) :
    Keeps m s0 (s.change src f v) := by
  unfold State.change
  exact keeps_ite (fun _ => h) (fun _ => State.stateChange_keeps (State.put_keeps hb h (within_trans hm (by simp [within])))
    (within_trans hm (by simp [within])))

theorem State.raise_keeps {src f b} (hb : InBlk b f.addr) (h : Keeps m s0 s) (hm : within (.reg b :: [.reg .err, .sets, .log]) m = true) :
    Keeps m s0 (s.raise src f) := by
  unfold State.raise
  have h1 := State.latch_keeps hb h (within_trans hm (by simp [within]))
  exact keeps_ite (fun _ => h1) (fun _ => State.warn_keeps h1 (within_trans hm (by simp [within])))

theorem State.lose_keeps {src f k b} (hb : InBlk b f.addr) (h : Keeps m s0 s) (hm : within (.reg b :: [.reg .err, .log]) m = true) :
    Keeps m s0 (s.lose src f k) := by
  unfold State.lose
  have h1 := State.satBump_keeps (f := f) (k := k) hb h (within_trans hm (by simp [within]))
  refine keeps_ite (fun _ => h1) (fun _ => keeps_ite (fun _ => ?_) (fun _ => h1))
  exact State.onLog_keeps (fun l hb hr => ⟨hb, hr⟩) (State.report_keeps h1 (within_trans hm (by simp [within]))) (within_trans hm (by simp [within]))

theorem State.orphanOp_keeps {kind isl tag} (h : Keeps m s0 s) (hm : within [.reg .err, .log, .eng] m = true) : Keeps m s0 (State.orphanOp kind isl tag s) := by
  unfold State.orphanOp
  try dsimp only
  repeat' with_reducible first
    | exact h
    | refine keeps_ite (fun _ => ?_) (fun _ => ?_)
    | refine State.report_keeps ?_ (within_trans hm (by decide))
    | refine State.onEng_keeps ?_ (within_trans hm (by decide))
    | refine keeps_pair (by assumption) ?_
    | split

theorem State.accessError_keeps {who detail addr value} (h : Keeps m s0 s) (hm : within [.reg .err, .bus, .log] m = true) : Keeps m s0 (State.accessError who detail addr value s) := by
  unfold State.accessError
  try dsimp only
  repeat' with_reducible first
    | exact h
    | refine keeps_ite (fun _ => ?_) (fun _ => ?_)
    | refine State.onBus_keeps ?_ (within_trans hm (by decide))
    | refine State.report_keeps ?_ (within_trans hm (by decide))
    | refine keeps_pair (by assumption) ?_
    | split

theorem State.setToken_keeps {t' st} (h : Keeps m s0 s) (hm : within [.reg .knl] m = true) : Keeps m s0 (State.setToken t' st s) := by
  unfold State.setToken
  try dsimp only
  repeat' with_reducible first
    | exact h
    | refine keeps_ite (fun _ => ?_) (fun _ => ?_)
    | refine State.put_keeps (by first | exact KNL_TST_STATE_blk .. | exact stateCount_blk .. | (refine blk_ite ?_ ?_ <;> first | exact KNL_TST_STATE_blk .. | exact stateCount_blk ..)) ?_ (within_trans hm (by decide))
    | refine State.drop_keeps (by first | exact KNL_TST_STATE_blk .. | exact stateCount_blk .. | (refine blk_ite ?_ ?_ <;> first | exact KNL_TST_STATE_blk .. | exact stateCount_blk ..)) ?_ (within_trans hm (by decide))
    | refine keeps_pair (by assumption) ?_
    | split

theorem State.showHead_keeps (h : Keeps m s0 s) (hm : within [.reg .knl] m = true) : Keeps m s0 (State.showHead s) := by
  unfold State.showHead
  try dsimp only
  repeat' with_reducible first
    | exact h
    | refine keeps_ite (fun _ => ?_) (fun _ => ?_)
    | refine State.wr64_keeps (by first | exact KNL_HEAD_blk .. | exact whole_blk (KNL_HEAD_blk ..)) ?_ (within_trans hm (by decide))
    | refine keeps_pair (by assumption) ?_
    | split

theorem State.undelay_keeps {t'} (h : Keeps m s0 s) (hm : within [.reg .knl, .knl] m = true) : Keeps m s0 (State.undelay t' s) := by
  unfold State.undelay
  try dsimp only
  repeat' with_reducible first
    | exact h
    | refine keeps_ite (fun _ => ?_) (fun _ => ?_)
    | refine State.showHead_keeps ?_ (within_trans hm (by decide))
    | refine State.onKnl_keeps ?_ (within_trans hm (by decide))
    | refine keeps_pair (by assumption) ?_
    | split

theorem State.makeReady_keeps {t' why} (h : Keeps m s0 s) (hm : within [.reg .knl, .knl] m = true) : Keeps m s0 (State.makeReady t' why s) := by
  unfold State.makeReady
  try dsimp only
  repeat' with_reducible first
    | exact h
    | refine keeps_ite (fun _ => ?_) (fun _ => ?_)
    | refine State.put_keeps (by first | exact KNL_TSTAMP_blk .. | exact whole_blk (KNL_TSTAMP_blk ..) | exact KNL_TST_WHY_blk .. | (refine blk_ite ?_ ?_ <;> first | exact KNL_TSTAMP_blk .. | exact whole_blk (KNL_TSTAMP_blk ..) | exact KNL_TST_WHY_blk ..)) ?_ (within_trans hm (by decide))
    | refine State.setToken_keeps ?_ (within_trans hm (by decide))
    | refine State.undelay_keeps ?_ (within_trans hm (by decide))
    | refine State.onKnl_keeps ?_ (within_trans hm (by decide))
    | refine State.wr_keeps (by first | exact KNL_TSTAMP_blk .. | exact whole_blk (KNL_TSTAMP_blk ..) | exact KNL_TST_WHY_blk .. | (refine blk_ite ?_ ?_ <;> first | exact KNL_TSTAMP_blk .. | exact whole_blk (KNL_TSTAMP_blk ..) | exact KNL_TST_WHY_blk ..)) ?_ (within_trans hm (by decide))
    | refine keeps_pair (by assumption) ?_
    | split

theorem State.event_keeps {e} (h : Keeps m s0 s) (hm : within [.reg .knl, .knl] m = true) : Keeps m s0 (State.event e s) := by
  unfold State.event
  try dsimp only
  repeat' with_reducible first
    | exact h
    | refine keeps_ite (fun _ => ?_) (fun _ => ?_)
    | refine State.bump_keeps (by first | exact KNL_EVB_FIRES_blk .. | exact KNL_STAT_EVUNB_blk .. | exact KNL_TST_EVCNT_blk .. | exact KNL_TST_PEND_blk .. | (refine blk_ite ?_ ?_ <;> first | exact KNL_EVB_FIRES_blk .. | exact KNL_STAT_EVUNB_blk .. | exact KNL_TST_EVCNT_blk .. | exact KNL_TST_PEND_blk ..)) ?_ (within_trans hm (by decide))
    | refine State.makeReady_keeps ?_ (within_trans hm (by decide))
    | refine State.mark_keeps (by first | exact KNL_EVB_FIRES_blk .. | exact KNL_STAT_EVUNB_blk .. | exact KNL_TST_EVCNT_blk .. | exact KNL_TST_PEND_blk .. | (refine blk_ite ?_ ?_ <;> first | exact KNL_EVB_FIRES_blk .. | exact KNL_STAT_EVUNB_blk .. | exact KNL_TST_EVCNT_blk .. | exact KNL_TST_PEND_blk ..)) ?_ (within_trans hm (by decide))
    | refine State.satBump_keeps (by first | exact KNL_EVB_FIRES_blk .. | exact KNL_STAT_EVUNB_blk .. | exact KNL_TST_EVCNT_blk .. | exact KNL_TST_PEND_blk .. | (refine blk_ite ?_ ?_ <;> first | exact KNL_EVB_FIRES_blk .. | exact KNL_STAT_EVUNB_blk .. | exact KNL_TST_EVCNT_blk .. | exact KNL_TST_PEND_blk ..)) ?_ (within_trans hm (by decide))
    | refine keeps_pair (by assumption) ?_
    | split

theorem State.setQ_keeps {q d} (h : Keeps m s0 s) (hm : within [.que] m = true) : Keeps m s0 (State.setQ q d s) := by
  unfold State.setQ
  try dsimp only
  repeat' with_reducible first
    | exact h
    | refine keeps_ite (fun _ => ?_) (fun _ => ?_)
    | refine State.onQue_keeps ?_ (within_trans hm (by decide))
    | refine keeps_pair (by assumption) ?_
    | split

theorem State.setDepth_keeps {q new} (h : Keeps m s0 s) (hm : within [.reg .knl, .reg .que, .sets, .knl] m = true) : Keeps m s0 (State.setDepth q new s) := by
  unfold State.setDepth
  try dsimp only
  repeat' with_reducible first
    | exact h
    | refine keeps_ite (fun _ => ?_) (fun _ => ?_)
    | refine State.put_keeps (by first | exact QUE_ST_DEPTH_blk .. | exact QUE_ST_PEAK_blk .. | exact QUE_WEV_DN_blk .. | exact QUE_WEV_DNCNT_blk .. | exact QUE_WEV_LAST_blk .. | exact QUE_WEV_UP_blk .. | exact QUE_WEV_UPCNT_blk .. | (refine blk_ite ?_ ?_ <;> first | exact QUE_ST_DEPTH_blk .. | exact QUE_ST_PEAK_blk .. | exact QUE_WEV_DN_blk .. | exact QUE_WEV_DNCNT_blk .. | exact QUE_WEV_LAST_blk .. | exact QUE_WEV_UP_blk .. | exact QUE_WEV_UPCNT_blk ..)) ?_ (within_trans hm (by decide))
    | refine State.mark_keeps (by first | exact QUE_ST_DEPTH_blk .. | exact QUE_ST_PEAK_blk .. | exact QUE_WEV_DN_blk .. | exact QUE_WEV_DNCNT_blk .. | exact QUE_WEV_LAST_blk .. | exact QUE_WEV_UP_blk .. | exact QUE_WEV_UPCNT_blk .. | (refine blk_ite ?_ ?_ <;> first | exact QUE_ST_DEPTH_blk .. | exact QUE_ST_PEAK_blk .. | exact QUE_WEV_DN_blk .. | exact QUE_WEV_DNCNT_blk .. | exact QUE_WEV_LAST_blk .. | exact QUE_WEV_UP_blk .. | exact QUE_WEV_UPCNT_blk ..)) ?_ (within_trans hm (by decide))
    | refine State.satBump_keeps (by first | exact QUE_ST_DEPTH_blk .. | exact QUE_ST_PEAK_blk .. | exact QUE_WEV_DN_blk .. | exact QUE_WEV_DNCNT_blk .. | exact QUE_WEV_LAST_blk .. | exact QUE_WEV_UP_blk .. | exact QUE_WEV_UPCNT_blk .. | (refine blk_ite ?_ ?_ <;> first | exact QUE_ST_DEPTH_blk .. | exact QUE_ST_PEAK_blk .. | exact QUE_WEV_DN_blk .. | exact QUE_WEV_DNCNT_blk .. | exact QUE_WEV_LAST_blk .. | exact QUE_WEV_UP_blk .. | exact QUE_WEV_UPCNT_blk ..)) ?_ (within_trans hm (by decide))
    | refine State.latch_keeps (by first | exact QUE_ST_DEPTH_blk .. | exact QUE_ST_PEAK_blk .. | exact QUE_WEV_DN_blk .. | exact QUE_WEV_DNCNT_blk .. | exact QUE_WEV_LAST_blk .. | exact QUE_WEV_UP_blk .. | exact QUE_WEV_UPCNT_blk .. | (refine blk_ite ?_ ?_ <;> first | exact QUE_ST_DEPTH_blk .. | exact QUE_ST_PEAK_blk .. | exact QUE_WEV_DN_blk .. | exact QUE_WEV_DNCNT_blk .. | exact QUE_WEV_LAST_blk .. | exact QUE_WEV_UP_blk .. | exact QUE_WEV_UPCNT_blk ..)) ?_ (within_trans hm (by decide))
    | refine State.event_keeps ?_ (within_trans hm (by decide))
    | refine keeps_pair (by assumption) ?_
    | split

theorem State.showBursts_keeps (h : Keeps m s0 s) (hm : within [.reg .que] m = true) : Keeps m s0 (State.showBursts s) := by
  unfold State.showBursts
  try dsimp only
  repeat' with_reducible first
    | exact h
    | refine keeps_ite (fun _ => ?_) (fun _ => ?_)
    | refine State.put_keeps (by first | exact QUE_BST_FREE_blk .. | exact QUE_BST_OUT_blk .. | exact QUE_BST_PEAKOUT_blk .. | (refine blk_ite ?_ ?_ <;> first | exact QUE_BST_FREE_blk .. | exact QUE_BST_OUT_blk .. | exact QUE_BST_PEAKOUT_blk ..)) ?_ (within_trans hm (by decide))
    | refine keeps_pair (by assumption) ?_
    | split

theorem State.settle_keeps {q} (h : Keeps m s0 s) (hm : within [.que] m = true) : Keeps m s0 (State.settle q s) := by
  unfold State.settle
  try dsimp only
  repeat' with_reducible first
    | exact h
    | refine keeps_ite (fun _ => ?_) (fun _ => ?_)
    | refine State.setQ_keeps ?_ (within_trans hm (by decide))
    | refine keeps_pair (by assumption) ?_
    | split

theorem State.spillWrite_keeps {q} (h : Keeps m s0 s) (hm : within [.reg .que, .bulk, .que] m = true) : Keeps m s0 (State.spillWrite q s) := by
  unfold State.spillWrite
  try dsimp only
  repeat' with_reducible first
    | exact h
    | refine keeps_ite (fun _ => ?_) (fun _ => ?_)
    | refine State.bulkStore_keeps ?_ (within_trans hm (by decide))
    | refine State.setQ_keeps ?_ (within_trans hm (by decide))
    | refine State.showBursts_keeps ?_ (within_trans hm (by decide))
    | refine State.onQue_keeps ?_ (within_trans hm (by decide))
    | refine keeps_pair (by assumption) ?_
    | split

theorem State.spillFetch_keeps {q} (h : Keeps m s0 s) (hm : within [.reg .que, .que] m = true) : Keeps m s0 (State.spillFetch q s) := by
  unfold State.spillFetch
  try dsimp only
  repeat' with_reducible first
    | exact h
    | refine keeps_ite (fun _ => ?_) (fun _ => ?_)
    | refine State.showBursts_keeps ?_ (within_trans hm (by decide))
    | refine State.onQue_keeps ?_ (within_trans hm (by decide))
    | refine keeps_pair (by assumption) ?_
    | split

theorem State.makeRoom_keeps {k q n} (h : Keeps m s0 s) (hm : within [.reg .que, .bulk, .que] m = true) : Keeps m s0 (State.makeRoom k q n s) := by
  induction k generalizing q n s with
  | zero => exact h
  | succ k ih =>
    unfold State.makeRoom
    try dsimp only
    repeat' with_reducible first
      | exact h
      | refine ih ?_
      | refine keeps_ite (fun _ => ?_) (fun _ => ?_)
      | refine State.settle_keeps ?_ (within_trans hm (by decide))
      | refine State.spillWrite_keeps ?_ (within_trans hm (by decide))
      | refine keeps_foldl ?_ _ ?_
      | (intro _ _ h; try dsimp only)
      | refine keeps_pair (by assumption) ?_
      | split

theorem State.enqueue_keeps {q es} (h : Keeps m s0 s) (hm : within [.reg .knl, .reg .que, .sets, .bulk, .knl, .que] m = true) : Keeps m s0 (State.enqueue q es s) := by
  unfold State.enqueue
  try dsimp only
  repeat' with_reducible first
    | exact h
    | refine keeps_ite (fun _ => ?_) (fun _ => ?_)
    | refine State.makeRoom_keeps ?_ (within_trans hm (by decide))
    | refine State.settle_keeps ?_ (within_trans hm (by decide))
    | refine State.setQ_keeps ?_ (within_trans hm (by decide))
    | refine State.put_keeps (by first | exact QUE_PUSHC_blk .. | exact whole_blk (QUE_PUSHC_blk ..)) ?_ (within_trans hm (by decide))
    | refine State.setDepth_keeps ?_ (within_trans hm (by decide))
    | refine keeps_pair (by assumption) ?_
    | split

theorem State.tryPush_keeps {cls q es} (h : Keeps m s0 s) (hm : within [.reg .knl, .reg .que, .sets, .bulk, .knl, .que] m = true) : Keeps m s0 (State.tryPush cls q es s).2 := by
  unfold State.tryPush
  try dsimp only
  repeat' with_reducible first
    | exact h
    | refine keeps_ite (fun _ => ?_) (fun _ => ?_)
    | refine State.enqueue_keeps ?_ (within_trans hm (by decide))
    | refine State.satBump_keeps (by first | exact QUE_ERR_REFUSED_blk ..) ?_ (within_trans hm (by decide))
    | refine keeps_pair (by assumption) ?_
    | split

theorem State.dequeue_keeps {q} (h : Keeps m s0 s) (hm : within [.reg .knl, .reg .que, .sets, .knl, .que] m = true) : Keeps m s0 (State.dequeue q s).2 := by
  unfold State.dequeue
  try dsimp only
  repeat' with_reducible first
    | exact h
    | refine keeps_ite (fun _ => ?_) (fun _ => ?_)
    | refine State.setQ_keeps ?_ (within_trans hm (by decide))
    | refine State.spillFetch_keeps ?_ (within_trans hm (by decide))
    | refine State.settle_keeps ?_ (within_trans hm (by decide))
    | refine State.put_keeps (by first | exact QUE_POPC_blk .. | exact whole_blk (QUE_POPC_blk ..)) ?_ (within_trans hm (by decide))
    | refine State.setDepth_keeps ?_ (within_trans hm (by decide))
    | refine keeps_pair (by assumption) ?_
    | split

/-! ### Kennel -/

theorem State.freeToken_keeps {t'} (h : Keeps m s0 s) (hm : within [.reg .knl] m = true) : Keeps m s0 (State.freeToken t' s) := by
  unfold State.freeToken
  try dsimp only
  repeat' with_reducible first
    | exact h
    | refine keeps_ite (fun _ => ?_) (fun _ => ?_)
    | refine State.mark_keeps (by first | exact KNL_EVB_BOUND_blk .. | exact KNL_EVB_TOKEN_blk .. | exact KNL_TST_PEND_blk .. | (refine blk_ite ?_ ?_ <;> first | exact KNL_EVB_BOUND_blk .. | exact KNL_EVB_TOKEN_blk .. | exact KNL_TST_PEND_blk ..)) ?_ (within_trans hm (by decide))
    | refine State.setToken_keeps ?_ (within_trans hm (by decide))
    | refine State.put_keeps (by first | exact KNL_EVB_BOUND_blk .. | exact KNL_EVB_TOKEN_blk .. | exact KNL_TST_PEND_blk .. | (refine blk_ite ?_ ?_ <;> first | exact KNL_EVB_BOUND_blk .. | exact KNL_EVB_TOKEN_blk .. | exact KNL_TST_PEND_blk ..)) ?_ (within_trans hm (by decide))
    | refine keeps_pair (by assumption) ?_
    | split

theorem State.delayToken_keeps {t' w why} (h : Keeps m s0 s) (hm : within [.reg .knl, .knl] m = true) : Keeps m s0 (State.delayToken t' w why s) := by
  unfold State.delayToken
  try dsimp only
  repeat' with_reducible first
    | exact h
    | refine keeps_ite (fun _ => ?_) (fun _ => ?_)
    | refine State.showHead_keeps ?_ (within_trans hm (by decide))
    | refine State.onKnl_keeps ?_ (within_trans hm (by decide))
    | refine keeps_pair (by assumption) ?_
    | split

theorem State.clearSlot_keeps {x} (h : Keeps m s0 s) (hm : within [.reg .knl, .knl] m = true) : Keeps m s0 (State.clearSlot x s) := by
  unfold State.clearSlot
  try dsimp only
  repeat' with_reducible first
    | exact h
    | refine keeps_ite (fun _ => ?_) (fun _ => ?_)
    | refine State.onKnl_keeps ?_ (within_trans hm (by decide))
    | refine State.put_keeps (by first | exact slotT_blk .. | exact slotV_blk .. | (refine blk_ite ?_ ?_ <;> first | exact slotT_blk .. | exact slotV_blk ..)) ?_ (within_trans hm (by decide))
    | refine State.mark_keeps (by first | exact slotT_blk .. | exact slotV_blk .. | (refine blk_ite ?_ ?_ <;> first | exact slotT_blk .. | exact slotV_blk ..)) ?_ (within_trans hm (by decide))
    | refine keeps_pair (by assumption) ?_
    | split

theorem State.fillSlot_keeps {x t'} (h : Keeps m s0 s) (hm : within [.reg .knl, .knl] m = true) : Keeps m s0 (State.fillSlot x t' s) := by
  unfold State.fillSlot
  try dsimp only
  repeat' with_reducible first
    | exact h
    | refine keeps_ite (fun _ => ?_) (fun _ => ?_)
    | refine State.onKnl_keeps ?_ (within_trans hm (by decide))
    | refine State.put_keeps (by first | exact slotT_blk .. | exact slotV_blk .. | (refine blk_ite ?_ ?_ <;> first | exact slotT_blk .. | exact slotV_blk ..)) ?_ (within_trans hm (by decide))
    | refine State.mark_keeps (by first | exact slotT_blk .. | exact slotV_blk .. | (refine blk_ite ?_ ?_ <;> first | exact slotT_blk .. | exact slotV_blk ..)) ?_ (within_trans hm (by decide))
    | refine keeps_pair (by assumption) ?_
    | split

theorem State.unready_keeps {t'} (h : Keeps m s0 s) (hm : within [.knl] m = true) : Keeps m s0 (State.unready t' s) := by
  unfold State.unready
  try dsimp only
  repeat' with_reducible first
    | exact h
    | refine keeps_ite (fun _ => ?_) (fun _ => ?_)
    | refine State.onKnl_keeps ?_ (within_trans hm (by decide))
    | refine keeps_pair (by assumption) ?_
    | split

theorem State.knlResult_keeps {c op result t'} (h : Keeps m s0 s) (hm : within [.reg .knl] m = true) : Keeps m s0 (State.knlResult c op result t' s) := by
  unfold State.knlResult
  try dsimp only
  repeat' with_reducible first
    | exact h
    | refine keeps_ite (fun _ => ?_) (fun _ => ?_)
    | refine State.wr_keeps (by first | exact KNL_RES_blk .. | exact whole_blk (KNL_RES_blk ..)) ?_ (within_trans hm (by decide))
    | refine keeps_pair (by assumption) ?_
    | split

theorem State.submit_keeps {c t'} (h : Keeps m s0 s) (hm : within [.reg .knl, .knl] m = true) : Keeps m s0 (State.submit c t' s) := by
  unfold State.submit
  try dsimp only
  repeat' with_reducible first
    | exact h
    | refine keeps_ite (fun _ => ?_) (fun _ => ?_)
    | refine State.knlResult_keeps ?_ (within_trans hm (by decide))
    | refine State.put_keeps (by first | exact KNL_EVB_BOUND_blk .. | exact KNL_EVB_TOKEN_blk .. | (refine blk_ite ?_ ?_ <;> first | exact KNL_EVB_BOUND_blk .. | exact KNL_EVB_TOKEN_blk ..)) ?_ (within_trans hm (by decide))
    | refine State.mark_keeps (by first | exact KNL_EVB_BOUND_blk .. | exact KNL_EVB_TOKEN_blk .. | (refine blk_ite ?_ ?_ <;> first | exact KNL_EVB_BOUND_blk .. | exact KNL_EVB_TOKEN_blk ..)) ?_ (within_trans hm (by decide))
    | refine State.onKnl_keeps ?_ (within_trans hm (by decide))
    | refine State.makeReady_keeps ?_ (within_trans hm (by decide))
    | refine State.delayToken_keeps ?_ (within_trans hm (by decide))
    | refine State.setToken_keeps ?_ (within_trans hm (by decide))
    | refine keeps_pair (by assumption) ?_
    | split

theorem State.cancel_keeps {c t'} (h : Keeps m s0 s) (hm : within [.reg .knl, .knl] m = true) : Keeps m s0 (State.cancel c t' s) := by
  unfold State.cancel
  try dsimp only
  repeat' with_reducible first
    | exact h
    | refine keeps_ite (fun _ => ?_) (fun _ => ?_)
    | refine State.knlResult_keeps ?_ (within_trans hm (by decide))
    | refine State.mark_keeps (by first | exact KNL_TST_PEND_blk ..) ?_ (within_trans hm (by decide))
    | refine State.setToken_keeps ?_ (within_trans hm (by decide))
    | refine State.undelay_keeps ?_ (within_trans hm (by decide))
    | refine State.unready_keeps ?_ (within_trans hm (by decide))
    | refine State.clearSlot_keeps ?_ (within_trans hm (by decide))
    | refine State.freeToken_keeps ?_ (within_trans hm (by decide))
    | refine keeps_foldl ?_ _ ?_
    | refine keeps_foldl_snd ?_ _ ?_
    | (intro _ _ h; try dsimp only)
    | refine keeps_pair (by assumption) ?_
    | split

theorem State.takeSlot_keeps {x} (h : Keeps m s0 s) (hm : within [.reg .knl, .knl] m = true) : Keeps m s0 (State.takeSlot x s) := by
  unfold State.takeSlot
  try dsimp only
  repeat' with_reducible first
    | exact h
    | refine keeps_ite (fun _ => ?_) (fun _ => ?_)
    | refine State.setToken_keeps ?_ (within_trans hm (by decide))
    | refine State.clearSlot_keeps ?_ (within_trans hm (by decide))
    | refine State.put_keeps (by first | exact KNL_TST_EXEC_blk .. | exact runT_blk .. | exact runV_blk .. | (refine blk_ite ?_ ?_ <;> first | exact KNL_TST_EXEC_blk .. | exact runT_blk .. | exact runV_blk ..)) ?_ (within_trans hm (by decide))
    | refine State.mark_keeps (by first | exact KNL_TST_EXEC_blk .. | exact runT_blk .. | exact runV_blk .. | (refine blk_ite ?_ ?_ <;> first | exact KNL_TST_EXEC_blk .. | exact runT_blk .. | exact runV_blk ..)) ?_ (within_trans hm (by decide))
    | refine State.onKnl_keeps ?_ (within_trans hm (by decide))
    | refine keeps_pair (by assumption) ?_
    | split

theorem State.take_keeps {c} (h : Keeps m s0 s) (hm : within [.reg .knl, .bus, .knl] m = true) : Keeps m s0 (State.take c s) := by
  unfold State.take
  try dsimp only
  repeat' with_reducible first
    | exact h
    | refine keeps_ite (fun _ => ?_) (fun _ => ?_)
    | refine State.onBus_keeps ?_ (within_trans hm (by decide))
    | refine State.takeSlot_keeps ?_ (within_trans hm (by decide))
    | refine keeps_pair (by assumption) ?_
    | split

theorem State.complete_keeps {x t'} (h : Keeps m s0 s) (hm : within [.reg .knl, .knl] m = true) : Keeps m s0 (State.complete x t' s) := by
  unfold State.complete
  try dsimp only
  repeat' with_reducible first
    | exact h
    | refine keeps_ite (fun _ => ?_) (fun _ => ?_)
    | refine State.put_keeps (by first | exact KNL_TST_LATE_blk .. | exact KNL_TST_PEND_blk .. | exact runT_blk .. | exact runV_blk .. | (refine blk_ite ?_ ?_ <;> first | exact KNL_TST_LATE_blk .. | exact KNL_TST_PEND_blk .. | exact runT_blk .. | exact runV_blk ..)) ?_ (within_trans hm (by decide))
    | refine State.mark_keeps (by first | exact KNL_TST_LATE_blk .. | exact KNL_TST_PEND_blk .. | exact runT_blk .. | exact runV_blk .. | (refine blk_ite ?_ ?_ <;> first | exact KNL_TST_LATE_blk .. | exact KNL_TST_PEND_blk .. | exact runT_blk .. | exact runV_blk ..)) ?_ (within_trans hm (by decide))
    | refine State.freeToken_keeps ?_ (within_trans hm (by decide))
    | refine State.makeReady_keeps ?_ (within_trans hm (by decide))
    | refine State.satBump_keeps (by first | exact KNL_TST_LATE_blk .. | exact KNL_TST_PEND_blk .. | exact runT_blk .. | exact runV_blk .. | (refine blk_ite ?_ ?_ <;> first | exact KNL_TST_LATE_blk .. | exact KNL_TST_PEND_blk .. | exact runT_blk .. | exact runV_blk ..)) ?_ (within_trans hm (by decide))
    | refine State.onKnl_keeps ?_ (within_trans hm (by decide))
    | refine State.delayToken_keeps ?_ (within_trans hm (by decide))
    | refine State.setToken_keeps ?_ (within_trans hm (by decide))
    | refine keeps_pair (by assumption) ?_
    | split

theorem State.orphan_keeps {isl f tag src b} (hb : InBlk b f.addr) (h : Keeps m s0 s) (hm : within (.reg b :: [.reg .err, .log]) m = true) :
    Keeps m s0 (s.orphan isl f tag src) := by
  unfold State.orphan
  exact State.report_keeps (State.satBump_keeps hb h (within_trans hm (by simp [within]))) (within_trans hm (by simp [within]))

theorem State.doneToken_keeps {c t'} (h : Keeps m s0 s) (hm : within [.reg .knl, .reg .err, .log, .knl] m = true) : Keeps m s0 (State.doneToken c t' s) := by
  unfold State.doneToken
  try dsimp only
  repeat' with_reducible first
    | exact h
    | refine keeps_ite (fun _ => ?_) (fun _ => ?_)
    | refine State.complete_keeps ?_ (within_trans hm (by decide))
    | refine State.orphan_keeps (by first | exact KNL_STAT_ORPHAN_blk ..) ?_ (within_trans hm (by decide))
    | refine keeps_pair (by assumption) ?_
    | split

theorem State.wakeDue_keeps (h : Keeps m s0 s) (hm : within [.reg .knl, .knl] m = true) : Keeps m s0 (State.wakeDue s) := by
  unfold State.wakeDue
  try dsimp only
  repeat' with_reducible first
    | exact h
    | refine keeps_ite (fun _ => ?_) (fun _ => ?_)
    | refine State.makeReady_keeps ?_ (within_trans hm (by decide))
    | refine keeps_foldl ?_ _ ?_
    | refine keeps_foldl_snd ?_ _ ?_
    | (intro _ _ h; try dsimp only)
    | refine keeps_pair (by assumption) ?_
    | split

theorem State.tick_keeps (h : Keeps m s0 s) (hm : within [.reg .knl, .knl] m = true) : Keeps m s0 (State.tick s) := by
  unfold State.tick
  try dsimp only
  repeat' with_reducible first
    | exact h
    | refine keeps_ite (fun _ => ?_) (fun _ => ?_)
    | refine State.wr_keeps (by first | exact KNL_TICK_blk .. | exact whole_blk (KNL_TICK_blk ..)) ?_ (within_trans hm (by decide))
    | refine State.onKnl_keeps ?_ (within_trans hm (by decide))
    | refine State.wakeDue_keeps ?_ (within_trans hm (by decide))
    | refine keeps_pair (by assumption) ?_
    | split

theorem State.fillOne_keeps {t} (e : s.fillOne = some t) (h : Keeps m s0 s) (hm : within [.reg .knl, .knl] m = true) : Keeps m s0 t := by
  unfold State.fillOne at e
  obtain ⟨l, x, r, -, e, -⟩ := List.findSome?_eq_some_iff.1 e
  obtain ⟨y, -, rfl⟩ := Option.map_eq_some_iff.1 e
  exact State.fillSlot_keeps (State.setToken_keeps (State.unready_keeps h (within_trans hm (by decide))) (within_trans hm (by decide)))
    (within_trans hm (by decide))

theorem State.replaceOne_keeps {t} (e : s.replaceOne = some t) (h : Keeps m s0 s) (hm : within [.reg .knl, .knl] m = true) : Keeps m s0 t := by
  unfold State.replaceOne at e
  obtain ⟨l, x, r, -, e, -⟩ := List.findSome?_eq_some_iff.1 e
  dsimp only at e
  split at e
  · simp only [Option.some.injEq] at e
    subst e
    exact State.fillSlot_keeps (State.onKnl_keeps (State.wr_keeps (by first | exact KNL_TSTAMP_blk .. | exact whole_blk (KNL_TSTAMP_blk ..)) (State.setToken_keeps (State.clearSlot_keeps (State.setToken_keeps
      (State.unready_keeps h (within_trans hm (by decide))) (within_trans hm (by decide))) (within_trans hm (by decide)))
      (within_trans hm (by decide))) (within_trans hm (by decide))) (within_trans hm (by decide))) (within_trans hm (by decide))
  · contradiction

theorem State.placeAll_keeps {f k} (hf : ∀ a b, f a = some b → Keeps m s0 a → Keeps m s0 b) (h : Keeps m s0 s)
    (_ : within [] m = true) : Keeps m s0 (State.placeAll f k s) := by
  induction k generalizing s with
  | zero => exact h
  | succ k ih =>
    unfold State.placeAll
    split
    · exact ih (hf _ _ (by assumption) h)
    · exact h

theorem State.moveSlots_keeps (h : Keeps m s0 s) (hm : within [.reg .knl] m = true) : Keeps m s0 (State.moveSlots s) := by
  unfold State.moveSlots
  try dsimp only
  repeat' with_reducible first
    | exact h
    | refine keeps_ite (fun _ => ?_) (fun _ => ?_)
    | refine State.put_keeps (by first | exact slotT_blk .. | exact slotV_blk .. | (refine blk_ite ?_ ?_ <;> first | exact slotT_blk .. | exact slotV_blk ..)) ?_ (within_trans hm (by decide))
    | refine State.mark_keeps (by first | exact slotT_blk .. | exact slotV_blk .. | (refine blk_ite ?_ ?_ <;> first | exact slotT_blk .. | exact slotV_blk ..)) ?_ (within_trans hm (by decide))
    | refine keeps_foldl ?_ _ ?_
    | refine keeps_foldl_snd ?_ _ ?_
    | (intro _ _ h; try dsimp only)
    | refine keeps_pair (by assumption) ?_
    | split

theorem State.fillSlots_keeps (h : Keeps m s0 s) (hm : within [.reg .knl, .knl] m = true) : Keeps m s0 s.fillSlots := by
  unfold State.fillSlots
  exact State.placeAll_keeps (fun _ _ e g => State.fillOne_keeps e g (within_trans hm (by decide)))
    (State.moveSlots_keeps (State.placeAll_keeps (fun _ _ e g => State.replaceOne_keeps e g (within_trans hm (by decide))) h
      (within_trans hm (by decide))) (within_trans hm (by decide))) (within_trans hm (by decide))

theorem State.pushExec_keeps (h : Keeps m s0 s) (hm : within [.reg .knl, .reg .que, .reg .err, .sets, .bulk, .log, .knl, .que] m = true) : Keeps m s0 (State.pushExec s) := by
  unfold State.pushExec
  try dsimp only
  repeat' with_reducible first
    | exact h
    | refine keeps_ite (fun _ => ?_) (fun _ => ?_)
    | refine State.takeSlot_keeps ?_ (within_trans hm (by decide))
    | refine State.tryPush_keeps ?_ (within_trans hm (by decide))
    | refine State.lose_keeps (by first | exact KNL_STAT_PUSHFULL_blk .. | exact KNL_TST_FAIL_blk .. | (refine blk_ite ?_ ?_ <;> first | exact KNL_STAT_PUSHFULL_blk .. | exact KNL_TST_FAIL_blk ..)) ?_ (within_trans hm (by decide))
    | refine State.latch_keeps (by first | exact KNL_STAT_PUSHFULL_blk .. | exact KNL_TST_FAIL_blk .. | (refine blk_ite ?_ ?_ <;> first | exact KNL_STAT_PUSHFULL_blk .. | exact KNL_TST_FAIL_blk ..)) ?_ (within_trans hm (by decide))
    | refine State.complete_keeps ?_ (within_trans hm (by decide))
    | refine keeps_pair (by assumption) ?_
    | split

theorem State.runMax_keeps {t'} (h : Keeps m s0 s) (hm : within [.reg .knl, .reg .err, .sets, .log, .knl] m = true) : Keeps m s0 (State.runMax t' s) := by
  unfold State.runMax
  try dsimp only
  repeat' with_reducible first
    | exact h
    | refine keeps_ite (fun _ => ?_) (fun _ => ?_)
    | refine State.onKnl_keeps ?_ (within_trans hm (by decide))
    | refine State.warn_keeps ?_ (within_trans hm (by decide))
    | refine State.satBump_keeps (by first | exact KNL_STAT_RUNOVR_blk .. | exact KNL_TST_OVR_blk .. | (refine blk_ite ?_ ?_ <;> first | exact KNL_STAT_RUNOVR_blk .. | exact KNL_TST_OVR_blk ..)) ?_ (within_trans hm (by decide))
    | refine State.latch_keeps (by first | exact KNL_STAT_RUNOVR_blk .. | exact KNL_TST_OVR_blk .. | (refine blk_ite ?_ ?_ <;> first | exact KNL_STAT_RUNOVR_blk .. | exact KNL_TST_OVR_blk ..)) ?_ (within_trans hm (by decide))
    | refine keeps_pair (by assumption) ?_
    | split

theorem execSubmit_keeps {dt c t'} {t} (e : execSubmit dt c t' s = .next t) : Keeps [.reg .knl, .sets, .clk, .knl] s t := by
  have hm := within_refl [.reg .knl, .sets, .clk, .knl]
  have h := Keeps.refl [.reg .knl, .sets, .clk, .knl] s
  simp only [execSubmit, Host.Outcome.next.injEq] at e
  subst e
  repeat' with_reducible first
    | exact h
    | refine keeps_ite (fun _ => ?_) (fun _ => ?_)
    | refine State.submit_keeps ?_ (within_trans hm (by decide))
    | refine State.elapse_keeps ?_ (within_trans hm (by decide))
    | refine keeps_pair (by assumption) ?_
    | split

theorem execCancel_keeps {dt c t'} {t} (e : execCancel dt c t' s = .next t) : Keeps [.reg .knl, .sets, .clk, .knl] s t := by
  have hm := within_refl [.reg .knl, .sets, .clk, .knl]
  have h := Keeps.refl [.reg .knl, .sets, .clk, .knl] s
  simp only [execCancel, Host.Outcome.next.injEq] at e
  subst e
  repeat' with_reducible first
    | exact h
    | refine keeps_ite (fun _ => ?_) (fun _ => ?_)
    | refine State.cancel_keeps ?_ (within_trans hm (by decide))
    | refine State.elapse_keeps ?_ (within_trans hm (by decide))
    | refine keeps_pair (by assumption) ?_
    | split

theorem execTake_keeps {dt c} {t} (e : execTake dt c s = .next t) : Keeps [.reg .knl, .sets, .clk, .bus, .knl] s t := by
  have hm := within_refl [.reg .knl, .sets, .clk, .bus, .knl]
  have h := Keeps.refl [.reg .knl, .sets, .clk, .bus, .knl] s
  simp only [execTake, Host.Outcome.next.injEq] at e
  subst e
  repeat' with_reducible first
    | exact h
    | refine keeps_ite (fun _ => ?_) (fun _ => ?_)
    | refine State.take_keeps ?_ (within_trans hm (by decide))
    | refine State.elapse_keeps ?_ (within_trans hm (by decide))
    | refine keeps_pair (by assumption) ?_
    | split

theorem execKnlDone_keeps {dt c t'} {t} (e : execKnlDone dt c t' s = .next t) : Keeps [.reg .knl, .reg .err, .sets, .clk, .log, .knl] s t := by
  have hm := within_refl [.reg .knl, .reg .err, .sets, .clk, .log, .knl]
  have h := Keeps.refl [.reg .knl, .reg .err, .sets, .clk, .log, .knl] s
  simp only [execKnlDone, Host.Outcome.next.injEq] at e
  subst e
  repeat' with_reducible first
    | exact h
    | refine keeps_ite (fun _ => ?_) (fun _ => ?_)
    | refine State.doneToken_keeps ?_ (within_trans hm (by decide))
    | refine State.elapse_keeps ?_ (within_trans hm (by decide))
    | refine keeps_pair (by assumption) ?_
    | split

theorem execKnlTick_keeps {dt} {t} (e : execKnlTick dt s = .next t) : Keeps [.reg .knl, .sets, .clk, .knl] s t := by
  have hm := within_refl [.reg .knl, .sets, .clk, .knl]
  have h := Keeps.refl [.reg .knl, .sets, .clk, .knl] s
  simp only [execKnlTick, Host.Outcome.next.injEq] at e
  subst e
  repeat' with_reducible first
    | exact h
    | refine keeps_ite (fun _ => ?_) (fun _ => ?_)
    | refine State.elapse_keeps ?_ (within_trans hm (by decide))
    | refine State.tick_keeps ?_ (within_trans hm (by decide))
    | refine keeps_pair (by assumption) ?_
    | split

theorem execKennelEvent_keeps {dt e} {t} (e : execKennelEvent dt e s = .next t) : Keeps [.reg .knl, .sets, .clk, .knl] s t := by
  have hm := within_refl [.reg .knl, .sets, .clk, .knl]
  have h := Keeps.refl [.reg .knl, .sets, .clk, .knl] s
  simp only [execKennelEvent, Host.Outcome.next.injEq] at e
  subst e
  repeat' with_reducible first
    | exact h
    | refine keeps_ite (fun _ => ?_) (fun _ => ?_)
    | refine State.elapse_keeps ?_ (within_trans hm (by decide))
    | refine State.event_keeps ?_ (within_trans hm (by decide))
    | refine keeps_pair (by assumption) ?_
    | split

theorem execSlotFill_keeps {dt} {t} (e : execSlotFill dt s = .next t) : Keeps [.reg .knl, .sets, .clk, .knl] s t := by
  have hm := within_refl [.reg .knl, .sets, .clk, .knl]
  have h := Keeps.refl [.reg .knl, .sets, .clk, .knl] s
  simp only [execSlotFill, Host.Outcome.next.injEq] at e
  subst e
  repeat' with_reducible first
    | exact h
    | refine keeps_ite (fun _ => ?_) (fun _ => ?_)
    | refine State.fillSlots_keeps ?_ (within_trans hm (by decide))
    | refine State.elapse_keeps ?_ (within_trans hm (by decide))
    | refine keeps_pair (by assumption) ?_
    | split

theorem execSlotMove_keeps {dt} {t} (e : execSlotMove dt s = .next t) : Keeps [.reg .knl, .sets, .clk] s t := by
  have hm := within_refl [.reg .knl, .sets, .clk]
  have h := Keeps.refl [.reg .knl, .sets, .clk] s
  simp only [execSlotMove, Host.Outcome.next.injEq] at e
  subst e
  repeat' with_reducible first
    | exact h
    | refine keeps_ite (fun _ => ?_) (fun _ => ?_)
    | refine State.moveSlots_keeps ?_ (within_trans hm (by decide))
    | refine State.elapse_keeps ?_ (within_trans hm (by decide))
    | refine keeps_pair (by assumption) ?_
    | split

theorem execPush_keeps {dt} {t} (e : execPush dt s = .next t) : Keeps [.reg .knl, .reg .que, .reg .err, .sets, .clk, .bulk, .log, .knl, .que] s t := by
  have hm := within_refl [.reg .knl, .reg .que, .reg .err, .sets, .clk, .bulk, .log, .knl, .que]
  have h := Keeps.refl [.reg .knl, .reg .que, .reg .err, .sets, .clk, .bulk, .log, .knl, .que] s
  simp only [execPush, Host.Outcome.next.injEq] at e
  subst e
  repeat' with_reducible first
    | exact h
    | refine keeps_ite (fun _ => ?_) (fun _ => ?_)
    | refine State.pushExec_keeps ?_ (within_trans hm (by decide))
    | refine State.elapse_keeps ?_ (within_trans hm (by decide))
    | refine keeps_pair (by assumption) ?_
    | split

theorem execRunmaxReached_keeps {dt t'} {t} (e : execRunmaxReached dt t' s = .next t) : Keeps [.reg .knl, .reg .err, .sets, .clk, .log, .knl] s t := by
  have hm := within_refl [.reg .knl, .reg .err, .sets, .clk, .log, .knl]
  have h := Keeps.refl [.reg .knl, .reg .err, .sets, .clk, .log, .knl] s
  simp only [execRunmaxReached, Host.Outcome.next.injEq] at e
  subst e
  repeat' with_reducible first
    | exact h
    | refine keeps_ite (fun _ => ?_) (fun _ => ?_)
    | refine State.runMax_keeps ?_ (within_trans hm (by decide))
    | refine State.elapse_keeps ?_ (within_trans hm (by decide))
    | refine keeps_pair (by assumption) ?_
    | split

/-! ### AxisTable -/

theorem State.onAxis_keeps {n f} (h : Keeps m s0 s) (hm : within [.axes] m = true) : Keeps m s0 (State.onAxis n f s) := by
  unfold State.onAxis
  try dsimp only
  repeat' with_reducible first
    | exact h
    | refine keeps_ite (fun _ => ?_) (fun _ => ?_)
    | refine State.onAxes_keeps ?_ (within_trans hm (by decide))
    | refine keeps_pair (by assumption) ?_
    | split

theorem State.showMexp_keeps {m'} (h : Keeps m s0 s) (hm : within [.reg .rng] m = true) : Keeps m s0 (State.showMexp m' s) := by
  unfold State.showMexp
  try dsimp only
  repeat' with_reducible first
    | exact h
    | refine keeps_ite (fun _ => ?_) (fun _ => ?_)
    | refine State.wr_keeps (by first | exact RNG_MEXP_blk .. | exact whole_blk (RNG_MEXP_blk ..)) ?_ (within_trans hm (by decide))
    | refine keeps_pair (by assumption) ?_
    | split

theorem State.onMot_keeps {n f} (h : Keeps m s0 s) (hm : within [.prf] m = true) : Keeps m s0 (State.onMot n f s) := by
  unfold State.onMot
  try dsimp only
  repeat' with_reducible first
    | exact h
    | refine keeps_ite (fun _ => ?_) (fun _ => ?_)
    | refine State.onPrf_keeps ?_ (within_trans hm (by decide))
    | refine keeps_pair (by assumption) ?_
    | split

theorem State.onGrp_keeps {g f} (h : Keeps m s0 s) (hm : within [.prf] m = true) : Keeps m s0 (State.onGrp g f s) := by
  unfold State.onGrp
  try dsimp only
  repeat' with_reducible first
    | exact h
    | refine keeps_ite (fun _ => ?_) (fun _ => ?_)
    | refine State.onPrf_keeps ?_ (within_trans hm (by decide))
    | refine keeps_pair (by assumption) ?_
    | split

theorem State.onCx_keeps {a f} (h : Keeps m s0 s) (hm : within [.eng] m = true) : Keeps m s0 (State.onCx a f s) := by
  unfold State.onCx
  try dsimp only
  repeat' with_reducible first
    | exact h
    | refine keeps_ite (fun _ => ?_) (fun _ => ?_)
    | refine State.onEng_keeps ?_ (within_trans hm (by decide))
    | refine keeps_pair (by assumption) ?_
    | split

theorem State.onPax_keeps {a f} (h : Keeps m s0 s) (hm : within [.pwm] m = true) : Keeps m s0 (State.onPax a f s) := by
  unfold State.onPax
  try dsimp only
  repeat' with_reducible first
    | exact h
    | refine keeps_ite (fun _ => ?_) (fun _ => ?_)
    | refine State.onPwm_keeps ?_ (within_trans hm (by decide))
    | refine keeps_pair (by assumption) ?_
    | split

/-! ### Triggers -/

theorem State.onAcqGroup_keeps {g f} (h : Keeps m s0 s) (hm : within [.acq] m = true) : Keeps m s0 (State.onAcqGroup g f s) := by
  unfold State.onAcqGroup
  try dsimp only
  repeat' with_reducible first
    | exact h
    | refine keeps_ite (fun _ => ?_) (fun _ => ?_)
    | refine State.onAcq_keeps ?_ (within_trans hm (by decide))
    | refine keeps_pair (by assumption) ?_
    | split

theorem State.acqFire_keeps {g tt fl} (h : Keeps m s0 s) (hm : within [.reg .acq, .acq] m = true) : Keeps m s0 (State.acqFire g tt fl s) := by
  unfold State.acqFire
  try dsimp only
  repeat' with_reducible first
    | exact h
    | refine keeps_ite (fun _ => ?_) (fun _ => ?_)
    | refine State.bump_keeps (by first | exact ACQ_CST_STATE_blk .. | exact ACQ_GCNT_TRIG_blk .. | exact ACQ_GLAST_blk .. | exact whole_blk (ACQ_GLAST_blk ..) | exact ACQ_GST_STATE_blk .. | (refine blk_ite ?_ ?_ <;> first | exact ACQ_CST_STATE_blk .. | exact ACQ_GCNT_TRIG_blk .. | exact ACQ_GLAST_blk .. | exact whole_blk (ACQ_GLAST_blk ..) | exact ACQ_GST_STATE_blk ..)) ?_ (within_trans hm (by decide))
    | refine State.put_keeps (by first | exact ACQ_CST_STATE_blk .. | exact ACQ_GCNT_TRIG_blk .. | exact ACQ_GLAST_blk .. | exact whole_blk (ACQ_GLAST_blk ..) | exact ACQ_GST_STATE_blk .. | (refine blk_ite ?_ ?_ <;> first | exact ACQ_CST_STATE_blk .. | exact ACQ_GCNT_TRIG_blk .. | exact ACQ_GLAST_blk .. | exact whole_blk (ACQ_GLAST_blk ..) | exact ACQ_GST_STATE_blk ..)) ?_ (within_trans hm (by decide))
    | refine State.onAcqGroup_keeps ?_ (within_trans hm (by decide))
    | refine State.wr_keeps (by first | exact ACQ_CST_STATE_blk .. | exact ACQ_GCNT_TRIG_blk .. | exact ACQ_GLAST_blk .. | exact whole_blk (ACQ_GLAST_blk ..) | exact ACQ_GST_STATE_blk .. | (refine blk_ite ?_ ?_ <;> first | exact ACQ_CST_STATE_blk .. | exact ACQ_GCNT_TRIG_blk .. | exact ACQ_GLAST_blk .. | exact whole_blk (ACQ_GLAST_blk ..) | exact ACQ_GST_STATE_blk ..)) ?_ (within_trans hm (by decide))
    | refine State.onAcq_keeps ?_ (within_trans hm (by decide))
    | refine keeps_foldl ?_ _ ?_
    | refine keeps_foldl_snd ?_ _ ?_
    | (intro _ _ h; try dsimp only)
    | refine keeps_pair (by assumption) ?_
    | split

theorem State.acqTrigger_keeps {g tt fl} (h : Keeps m s0 s) (hm : within [.reg .acq, .acq] m = true) : Keeps m s0 (State.acqTrigger g tt fl s) := by
  unfold State.acqTrigger
  try dsimp only
  repeat' with_reducible first
    | exact h
    | refine keeps_ite (fun _ => ?_) (fun _ => ?_)
    | refine State.satBump_keeps (by first | exact ACQ_GCNT_MISS_blk .. | exact ACQ_GST_RAIGN_blk .. | (refine blk_ite ?_ ?_ <;> first | exact ACQ_GCNT_MISS_blk .. | exact ACQ_GST_RAIGN_blk ..)) ?_ (within_trans hm (by decide))
    | refine State.acqFire_keeps ?_ (within_trans hm (by decide))
    | refine keeps_pair (by assumption) ?_
    | split

theorem State.acqSource_keeps {src idx m' tt fl} (h : Keeps m s0 s) (hm : within [.reg .acq, .acq] m = true) : Keeps m s0 (State.acqSource src idx m' tt fl s) := by
  unfold State.acqSource
  try dsimp only
  repeat' with_reducible first
    | exact h
    | refine keeps_ite (fun _ => ?_) (fun _ => ?_)
    | refine State.acqTrigger_keeps ?_ (within_trans hm (by decide))
    | refine keeps_foldl ?_ _ ?_
    | refine keeps_foldl_snd ?_ _ ?_
    | (intro _ _ h; try dsimp only)
    | refine keeps_pair (by assumption) ?_
    | split

/-! ### Leash -/

theorem State.clampFlag_keeps {a b} (h : Keeps m s0 s) (hm : within [.reg .lsh, .reg .err, .sets, .log, .axes] m = true) : Keeps m s0 (State.clampFlag a b s) := by
  unfold State.clampFlag
  try dsimp only
  repeat' with_reducible first
    | exact h
    | refine keeps_ite (fun _ => ?_) (fun _ => ?_)
    | refine State.onAxis_keeps ?_ (within_trans hm (by decide))
    | refine State.raise_keeps (by first | exact LSH_CLAMP_blk ..) ?_ (within_trans hm (by decide))
    | refine keeps_pair (by assumption) ?_
    | split

theorem State.clampFlags_keeps {a mask} (h : Keeps m s0 s) (hm : within [.reg .lsh, .reg .err, .sets, .log, .axes] m = true) : Keeps m s0 (State.clampFlags a mask s) := by
  unfold State.clampFlags
  try dsimp only
  repeat' with_reducible first
    | exact h
    | refine keeps_ite (fun _ => ?_) (fun _ => ?_)
    | refine State.clampFlag_keeps ?_ (within_trans hm (by decide))
    | refine keeps_foldl ?_ _ ?_
    | refine keeps_foldl_snd ?_ _ ?_
    | (intro _ _ h; try dsimp only)
    | refine keeps_pair (by assumption) ?_
    | split

theorem State.i2tUpdate_keeps {a d q} (h : Keeps m s0 s) (hm : within [.reg .lsh, .reg .err, .sets, .log, .axes] m = true) : Keeps m s0 (State.i2tUpdate a d q s) := by
  unfold State.i2tUpdate
  try dsimp only
  repeat' with_reducible first
    | exact h
    | refine keeps_ite (fun _ => ?_) (fun _ => ?_)
    | refine State.onAxis_keeps ?_ (within_trans hm (by decide))
    | refine State.put_keeps (by first | exact LSH_CLAMP_I2T_blk .. | exact LSH_I2T_LEVEL_blk .. | (refine blk_ite ?_ ?_ <;> first | exact LSH_CLAMP_I2T_blk .. | exact LSH_I2T_LEVEL_blk ..)) ?_ (within_trans hm (by decide))
    | refine State.raise_keeps (by first | exact LSH_CLAMP_I2T_blk .. | exact LSH_I2T_LEVEL_blk .. | (refine blk_ite ?_ ?_ <;> first | exact LSH_CLAMP_I2T_blk .. | exact LSH_I2T_LEVEL_blk ..)) ?_ (within_trans hm (by decide))
    | refine keeps_pair (by assumption) ?_
    | split

theorem State.leashIref_keeps {a d q} (h : Keeps m s0 s) (hm : within [.reg .lsh, .reg .err, .sets, .log, .axes] m = true) : Keeps m s0 (State.leashIref a d q s).2 := by
  unfold State.leashIref
  try dsimp only
  repeat' with_reducible first
    | exact h
    | refine keeps_ite (fun _ => ?_) (fun _ => ?_)
    | refine State.clampFlag_keeps ?_ (within_trans hm (by decide))
    | refine State.onAxis_keeps ?_ (within_trans hm (by decide))
    | refine State.i2tUpdate_keeps ?_ (within_trans hm (by decide))
    | refine keeps_pair (by assumption) ?_
    | split

theorem State.leashCompare_keeps {a h'} (h : Keeps m s0 s) (hm : within [.reg .lsh, .reg .err, .sets, .log, .axes] m = true) : Keeps m s0 (State.leashCompare a h' s).2 := by
  unfold State.leashCompare
  try dsimp only
  repeat' with_reducible first
    | exact h
    | refine keeps_ite (fun _ => ?_) (fun _ => ?_)
    | refine State.clampFlags_keeps ?_ (within_trans hm (by decide))
    | refine keeps_pair (by assumption) ?_
    | split

/-! ### Operands -/

/-! ### Flags -/

/-! ### EngineIsa -/

theorem State.engOp_keeps {x cyc f} (h : Keeps m s0 s) (hm : within [.eng] m = true) : Keeps m s0 (State.engOp x cyc f s) := by
  unfold State.engOp
  try dsimp only
  repeat' with_reducible first
    | exact h
    | refine keeps_ite (fun _ => ?_) (fun _ => ?_)
    | refine State.onCx_keeps ?_ (within_trans hm (by decide))
    | refine keeps_pair (by assumption) ?_
    | split

theorem State.engStore_keeps {x cyc f} (h : Keeps m s0 s) (hm : within [.reg .eng, .sets, .eng] m = true) : Keeps m s0 (State.engStore x cyc f s) := by
  unfold State.engStore
  try dsimp only
  repeat' with_reducible first
    | exact h
    | refine keeps_ite (fun _ => ?_) (fun _ => ?_)
    | refine State.latch_keeps (by first | exact ENG_FLG_WPROT_blk ..) ?_ (within_trans hm (by decide))
    | refine State.onCx_keeps ?_ (within_trans hm (by decide))
    | refine keeps_pair (by assumption) ?_
    | split

theorem execEngNop_keeps {x} {t} (e : execEngNop x s = .next t) : Keeps [.eng] s t := by
  have hm := within_refl [.eng]
  have h := Keeps.refl [.eng] s
  simp only [execEngNop, Host.Outcome.next.injEq] at e
  subst e
  repeat' with_reducible first
    | exact h
    | refine keeps_ite (fun _ => ?_) (fun _ => ?_)
    | refine State.engOp_keeps ?_ (within_trans hm (by decide))
    | refine keeps_pair (by assumption) ?_
    | split

theorem execEngEnd_keeps {x} {t} (e : execEngEnd x s = .next t) : Keeps [.eng] s t := by
  have hm := within_refl [.eng]
  have h := Keeps.refl [.eng] s
  simp only [execEngEnd, Host.Outcome.next.injEq] at e
  subst e
  repeat' with_reducible first
    | exact h
    | refine keeps_ite (fun _ => ?_) (fun _ => ?_)
    | refine State.onCx_keeps ?_ (within_trans hm (by decide))
    | refine keeps_pair (by assumption) ?_
    | split

theorem execEngRep_keeps {x count len} {t} (e : execEngRep x count len s = .next t) : Keeps [.eng] s t := by
  have hm := within_refl [.eng]
  have h := Keeps.refl [.eng] s
  simp only [execEngRep, Host.Outcome.next.injEq] at e
  subst e
  repeat' with_reducible first
    | exact h
    | refine keeps_ite (fun _ => ?_) (fun _ => ?_)
    | refine State.engOp_keeps ?_ (within_trans hm (by decide))
    | refine keeps_pair (by assumption) ?_
    | split

theorem execEngClrf_keeps {x mask} {t} (e : execEngClrf x mask s = .next t) : Keeps [.eng] s t := by
  have hm := within_refl [.eng]
  have h := Keeps.refl [.eng] s
  simp only [execEngClrf, Host.Outcome.next.injEq] at e
  subst e
  repeat' with_reducible first
    | exact h
    | refine keeps_ite (fun _ => ?_) (fun _ => ?_)
    | refine State.engOp_keeps ?_ (within_trans hm (by decide))
    | refine keeps_pair (by assumption) ?_
    | split

theorem execEngLdi_keeps {x d imm} {t} (e : execEngLdi x d imm s = .next t) : Keeps [.eng] s t := by
  have hm := within_refl [.eng]
  have h := Keeps.refl [.eng] s
  simp only [execEngLdi, Host.Outcome.next.injEq] at e
  subst e
  repeat' with_reducible first
    | exact h
    | refine keeps_ite (fun _ => ?_) (fun _ => ?_)
    | refine State.engOp_keeps ?_ (within_trans hm (by decide))
    | refine keeps_pair (by assumption) ?_
    | split

theorem execEngLdp_keeps {x p imm} {t} (e : execEngLdp x p imm s = .next t) : Keeps [.eng] s t := by
  have hm := within_refl [.eng]
  have h := Keeps.refl [.eng] s
  simp only [execEngLdp, Host.Outcome.next.injEq] at e
  subst e
  repeat' with_reducible first
    | exact h
    | refine keeps_ite (fun _ => ?_) (fun _ => ?_)
    | refine State.engOp_keeps ?_ (within_trans hm (by decide))
    | refine keeps_pair (by assumption) ?_
    | split

theorem execEngLd_keeps {x d p md} {t} (e : execEngLd x d p md s = .next t) : Keeps [.eng] s t := by
  have hm := within_refl [.eng]
  have h := Keeps.refl [.eng] s
  simp only [execEngLd, Host.Outcome.next.injEq] at e
  subst e
  repeat' with_reducible first
    | exact h
    | refine keeps_ite (fun _ => ?_) (fun _ => ?_)
    | refine State.engOp_keeps ?_ (within_trans hm (by decide))
    | refine keeps_pair (by assumption) ?_
    | split

theorem execEngSt_keeps {x d p md} {t} (e : execEngSt x d p md s = .next t) : Keeps [.reg .eng, .sets, .eng] s t := by
  have hm := within_refl [.reg .eng, .sets, .eng]
  have h := Keeps.refl [.reg .eng, .sets, .eng] s
  simp only [execEngSt, Host.Outcome.next.injEq] at e
  subst e
  repeat' with_reducible first
    | exact h
    | refine keeps_ite (fun _ => ?_) (fun _ => ?_)
    | refine State.engStore_keeps ?_ (within_trans hm (by decide))
    | refine keeps_pair (by assumption) ?_
    | split

theorem execEngLdm_keeps {x m' p md} {t} (e : execEngLdm x m' p md s = .next t) : Keeps [.eng] s t := by
  have hm := within_refl [.eng]
  have h := Keeps.refl [.eng] s
  simp only [execEngLdm, Host.Outcome.next.injEq] at e
  subst e
  repeat' with_reducible first
    | exact h
    | refine keeps_ite (fun _ => ?_) (fun _ => ?_)
    | refine State.engOp_keeps ?_ (within_trans hm (by decide))
    | refine keeps_pair (by assumption) ?_
    | split

theorem execEngLdw_keeps {x a p md} {t} (e : execEngLdw x a p md s = .next t) : Keeps [.eng] s t := by
  have hm := within_refl [.eng]
  have h := Keeps.refl [.eng] s
  simp only [execEngLdw, Host.Outcome.next.injEq] at e
  subst e
  repeat' with_reducible first
    | exact h
    | refine keeps_ite (fun _ => ?_) (fun _ => ?_)
    | refine State.engOp_keeps ?_ (within_trans hm (by decide))
    | refine keeps_pair (by assumption) ?_
    | split

theorem execEngStw_keeps {x a p md} {t} (e : execEngStw x a p md s = .next t) : Keeps [.reg .eng, .sets, .eng] s t := by
  have hm := within_refl [.reg .eng, .sets, .eng]
  have h := Keeps.refl [.reg .eng, .sets, .eng] s
  simp only [execEngStw, Host.Outcome.next.injEq] at e
  subst e
  repeat' with_reducible first
    | exact h
    | refine keeps_ite (fun _ => ?_) (fun _ => ?_)
    | refine State.engStore_keeps ?_ (within_trans hm (by decide))
    | refine keeps_pair (by assumption) ?_
    | split

theorem execEngLld_keeps {x l p md} {t} (e : execEngLld x l p md s = .next t) : Keeps [.eng] s t := by
  have hm := within_refl [.eng]
  have h := Keeps.refl [.eng] s
  simp only [execEngLld, Host.Outcome.next.injEq] at e
  subst e
  repeat' with_reducible first
    | exact h
    | refine keeps_ite (fun _ => ?_) (fun _ => ?_)
    | refine State.engOp_keeps ?_ (within_trans hm (by decide))
    | refine keeps_pair (by assumption) ?_
    | split

theorem execEngLst_keeps {x l p md} {t} (e : execEngLst x l p md s = .next t) : Keeps [.reg .eng, .sets, .eng] s t := by
  have hm := within_refl [.reg .eng, .sets, .eng]
  have h := Keeps.refl [.reg .eng, .sets, .eng] s
  simp only [execEngLst, Host.Outcome.next.injEq] at e
  subst e
  repeat' with_reducible first
    | exact h
    | refine keeps_ite (fun _ => ?_) (fun _ => ?_)
    | refine State.engStore_keeps ?_ (within_trans hm (by decide))
    | refine keeps_pair (by assumption) ?_
    | split

theorem execEngSta_keeps {x a p md sc} {t} (e : execEngSta x a p md sc s = .next t) : Keeps [.reg .eng, .sets, .eng] s t := by
  have hm := within_refl [.reg .eng, .sets, .eng]
  have h := Keeps.refl [.reg .eng, .sets, .eng] s
  simp only [execEngSta, Host.Outcome.next.injEq] at e
  subst e
  repeat' with_reducible first
    | exact h
    | refine keeps_ite (fun _ => ?_) (fun _ => ?_)
    | refine State.engStore_keeps ?_ (within_trans hm (by decide))
    | refine keeps_pair (by assumption) ?_
    | split

theorem execEngMov_keeps {x d y} {t} (e : execEngMov x d y s = .next t) : Keeps [.eng] s t := by
  have hm := within_refl [.eng]
  have h := Keeps.refl [.eng] s
  simp only [execEngMov, Host.Outcome.next.injEq] at e
  subst e
  repeat' with_reducible first
    | exact h
    | refine keeps_ite (fun _ => ?_) (fun _ => ?_)
    | refine State.engOp_keeps ?_ (within_trans hm (by decide))
    | refine keeps_pair (by assumption) ?_
    | split

theorem execEngMovd_keeps {x d a sc} {t} (e : execEngMovd x d a sc s = .next t) : Keeps [.eng] s t := by
  have hm := within_refl [.eng]
  have h := Keeps.refl [.eng] s
  simp only [execEngMovd, Host.Outcome.next.injEq] at e
  subst e
  repeat' with_reducible first
    | exact h
    | refine keeps_ite (fun _ => ?_) (fun _ => ?_)
    | refine State.engOp_keeps ?_ (within_trans hm (by decide))
    | refine keeps_pair (by assumption) ?_
    | split

theorem execEngLda_keeps {x a y} {t} (e : execEngLda x a y s = .next t) : Keeps [.eng] s t := by
  have hm := within_refl [.eng]
  have h := Keeps.refl [.eng] s
  simp only [execEngLda, Host.Outcome.next.injEq] at e
  subst e
  repeat' with_reducible first
    | exact h
    | refine keeps_ite (fun _ => ?_) (fun _ => ?_)
    | refine State.engOp_keeps ?_ (within_trans hm (by decide))
    | refine keeps_pair (by assumption) ?_
    | split

theorem execEngAdda_keeps {x a b} {t} (e : execEngAdda x a b s = .next t) : Keeps [.eng] s t := by
  have hm := within_refl [.eng]
  have h := Keeps.refl [.eng] s
  simp only [execEngAdda, Host.Outcome.next.injEq] at e
  subst e
  repeat' with_reducible first
    | exact h
    | refine keeps_ite (fun _ => ?_) (fun _ => ?_)
    | refine State.engOp_keeps ?_ (within_trans hm (by decide))
    | refine keeps_pair (by assumption) ?_
    | split

theorem execEngSuba_keeps {x a b} {t} (e : execEngSuba x a b s = .next t) : Keeps [.eng] s t := by
  have hm := within_refl [.eng]
  have h := Keeps.refl [.eng] s
  simp only [execEngSuba, Host.Outcome.next.injEq] at e
  subst e
  repeat' with_reducible first
    | exact h
    | refine keeps_ite (fun _ => ?_) (fun _ => ?_)
    | refine State.engOp_keeps ?_ (within_trans hm (by decide))
    | refine keeps_pair (by assumption) ?_
    | split

theorem execEngAddd_keeps {x a y} {t} (e : execEngAddd x a y s = .next t) : Keeps [.eng] s t := by
  have hm := within_refl [.eng]
  have h := Keeps.refl [.eng] s
  simp only [execEngAddd, Host.Outcome.next.injEq] at e
  subst e
  repeat' with_reducible first
    | exact h
    | refine keeps_ite (fun _ => ?_) (fun _ => ?_)
    | refine State.engOp_keeps ?_ (within_trans hm (by decide))
    | refine keeps_pair (by assumption) ?_
    | split

theorem execEngSubd_keeps {x a y} {t} (e : execEngSubd x a y s = .next t) : Keeps [.eng] s t := by
  have hm := within_refl [.eng]
  have h := Keeps.refl [.eng] s
  simp only [execEngSubd, Host.Outcome.next.injEq] at e
  subst e
  repeat' with_reducible first
    | exact h
    | refine keeps_ite (fun _ => ?_) (fun _ => ?_)
    | refine State.engOp_keeps ?_ (within_trans hm (by decide))
    | refine keeps_pair (by assumption) ?_
    | split

theorem execEngAddk_keeps {x a sh k} {t} (e : execEngAddk x a sh k s = .next t) : Keeps [.eng] s t := by
  have hm := within_refl [.eng]
  have h := Keeps.refl [.eng] s
  simp only [execEngAddk, Host.Outcome.next.injEq] at e
  subst e
  repeat' with_reducible first
    | exact h
    | refine keeps_ite (fun _ => ?_) (fun _ => ?_)
    | refine State.engOp_keeps ?_ (within_trans hm (by decide))
    | refine keeps_pair (by assumption) ?_
    | split

theorem execEngNega_keeps {x a} {t} (e : execEngNega x a s = .next t) : Keeps [.eng] s t := by
  have hm := within_refl [.eng]
  have h := Keeps.refl [.eng] s
  simp only [execEngNega, Host.Outcome.next.injEq] at e
  subst e
  repeat' with_reducible first
    | exact h
    | refine keeps_ite (fun _ => ?_) (fun _ => ?_)
    | refine State.engOp_keeps ?_ (within_trans hm (by decide))
    | refine keeps_pair (by assumption) ?_
    | split

theorem execEngAbsa_keeps {x a} {t} (e : execEngAbsa x a s = .next t) : Keeps [.eng] s t := by
  have hm := within_refl [.eng]
  have h := Keeps.refl [.eng] s
  simp only [execEngAbsa, Host.Outcome.next.injEq] at e
  subst e
  repeat' with_reducible first
    | exact h
    | refine keeps_ite (fun _ => ?_) (fun _ => ?_)
    | refine State.engOp_keeps ?_ (within_trans hm (by decide))
    | refine keeps_pair (by assumption) ?_
    | split

theorem execEngAsh_keeps {x a sh} {t} (e : execEngAsh x a sh s = .next t) : Keeps [.eng] s t := by
  have hm := within_refl [.eng]
  have h := Keeps.refl [.eng] s
  simp only [execEngAsh, Host.Outcome.next.injEq] at e
  subst e
  repeat' with_reducible first
    | exact h
    | refine keeps_ite (fun _ => ?_) (fun _ => ?_)
    | refine State.engOp_keeps ?_ (within_trans hm (by decide))
    | refine keeps_pair (by assumption) ?_
    | split

theorem execEngNorm_keeps {x a d} {t} (e : execEngNorm x a d s = .next t) : Keeps [.eng] s t := by
  have hm := within_refl [.eng]
  have h := Keeps.refl [.eng] s
  simp only [execEngNorm, Host.Outcome.next.injEq] at e
  subst e
  repeat' with_reducible first
    | exact h
    | refine keeps_ite (fun _ => ?_) (fun _ => ?_)
    | refine State.engOp_keeps ?_ (within_trans hm (by decide))
    | refine keeps_pair (by assumption) ?_
    | split

theorem execEngExp_keeps {x d a} {t} (e : execEngExp x d a s = .next t) : Keeps [.eng] s t := by
  have hm := within_refl [.eng]
  have h := Keeps.refl [.eng] s
  simp only [execEngExp, Host.Outcome.next.injEq] at e
  subst e
  repeat' with_reducible first
    | exact h
    | refine keeps_ite (fun _ => ?_) (fun _ => ?_)
    | refine State.engOp_keeps ?_ (within_trans hm (by decide))
    | refine keeps_pair (by assumption) ?_
    | split

theorem execEngSata_keeps {x a} {t} (e : execEngSata x a s = .next t) : Keeps [.eng] s t := by
  have hm := within_refl [.eng]
  have h := Keeps.refl [.eng] s
  simp only [execEngSata, Host.Outcome.next.injEq] at e
  subst e
  repeat' with_reducible first
    | exact h
    | refine keeps_ite (fun _ => ?_) (fun _ => ?_)
    | refine State.engOp_keeps ?_ (within_trans hm (by decide))
    | refine keeps_pair (by assumption) ?_
    | split

theorem execEngTsta_keeps {x a} {t} (e : execEngTsta x a s = .next t) : Keeps [.eng] s t := by
  have hm := within_refl [.eng]
  have h := Keeps.refl [.eng] s
  simp only [execEngTsta, Host.Outcome.next.injEq] at e
  subst e
  repeat' with_reducible first
    | exact h
    | refine keeps_ite (fun _ => ?_) (fun _ => ?_)
    | refine State.engOp_keeps ?_ (within_trans hm (by decide))
    | refine keeps_pair (by assumption) ?_
    | split

theorem execEngClra_keeps {x a} {t} (e : execEngClra x a s = .next t) : Keeps [.eng] s t := by
  have hm := within_refl [.eng]
  have h := Keeps.refl [.eng] s
  simp only [execEngClra, Host.Outcome.next.injEq] at e
  subst e
  repeat' with_reducible first
    | exact h
    | refine keeps_ite (fun _ => ?_) (fun _ => ?_)
    | refine State.engOp_keeps ?_ (within_trans hm (by decide))
    | refine keeps_pair (by assumption) ?_
    | split

theorem execEngMac_keeps {x a b y z sg zb} {t} (e : execEngMac x a b y z sg zb s = .next t) : Keeps [.eng] s t := by
  have hm := within_refl [.eng]
  have h := Keeps.refl [.eng] s
  simp only [execEngMac, Host.Outcome.next.injEq] at e
  subst e
  repeat' with_reducible first
    | exact h
    | refine keeps_ite (fun _ => ?_) (fun _ => ?_)
    | refine State.engOp_keeps ?_ (within_trans hm (by decide))
    | refine keeps_pair (by assumption) ?_
    | split

theorem execEngDmac_keeps {x a b y z u v sg1 sg2} {t} (e : execEngDmac x a b y z u v sg1 sg2 s = .next t) : Keeps [.eng] s t := by
  have hm := within_refl [.eng]
  have h := Keeps.refl [.eng] s
  simp only [execEngDmac, Host.Outcome.next.injEq] at e
  subst e
  repeat' with_reducible first
    | exact h
    | refine keeps_ite (fun _ => ?_) (fun _ => ?_)
    | refine State.engOp_keeps ?_ (within_trans hm (by decide))
    | refine keeps_pair (by assumption) ?_
    | split

theorem execEngMacm_keeps {x a b y p md sg zb} {t} (e : execEngMacm x a b y p md sg zb s = .next t) : Keeps [.eng] s t := by
  have hm := within_refl [.eng]
  have h := Keeps.refl [.eng] s
  simp only [execEngMacm, Host.Outcome.next.injEq] at e
  subst e
  repeat' with_reducible first
    | exact h
    | refine keeps_ite (fun _ => ?_) (fun _ => ?_)
    | refine State.engOp_keeps ?_ (within_trans hm (by decide))
    | refine keeps_pair (by assumption) ?_
    | split

theorem execEngDmacm_keeps {x a b p md q mq sg zb} {t} (e : execEngDmacm x a b p md q mq sg zb s = .next t) : Keeps [.eng] s t := by
  have hm := within_refl [.eng]
  have h := Keeps.refl [.eng] s
  simp only [execEngDmacm, Host.Outcome.next.injEq] at e
  subst e
  repeat' with_reducible first
    | exact h
    | refine keeps_ite (fun _ => ?_) (fun _ => ?_)
    | refine State.engOp_keeps ?_ (within_trans hm (by decide))
    | refine keeps_pair (by assumption) ?_
    | split

theorem execEngSeld_keeps {x d cc y z} {t} (e : execEngSeld x d cc y z s = .next t) : Keeps [.eng] s t := by
  have hm := within_refl [.eng]
  have h := Keeps.refl [.eng] s
  simp only [execEngSeld, Host.Outcome.next.injEq] at e
  subst e
  repeat' with_reducible first
    | exact h
    | refine keeps_ite (fun _ => ?_) (fun _ => ?_)
    | refine State.engOp_keeps ?_ (within_trans hm (by decide))
    | refine keeps_pair (by assumption) ?_
    | split

theorem execEngSela_keeps {x a cc b e} {t} (e : execEngSela x a cc b e s = .next t) : Keeps [.eng] s t := by
  have hm := within_refl [.eng]
  have h := Keeps.refl [.eng] s
  simp only [execEngSela, Host.Outcome.next.injEq] at e
  subst e
  repeat' with_reducible first
    | exact h
    | refine keeps_ite (fun _ => ?_) (fun _ => ?_)
    | refine State.engOp_keeps ?_ (within_trans hm (by decide))
    | refine keeps_pair (by assumption) ?_
    | split

theorem execEngSell_keeps {x l cc m' n} {t} (e : execEngSell x l cc m' n s = .next t) : Keeps [.eng] s t := by
  have hm := within_refl [.eng]
  have h := Keeps.refl [.eng] s
  simp only [execEngSell, Host.Outcome.next.injEq] at e
  subst e
  repeat' with_reducible first
    | exact h
    | refine keeps_ite (fun _ => ?_) (fun _ => ?_)
    | refine State.engOp_keeps ?_ (within_trans hm (by decide))
    | refine keeps_pair (by assumption) ?_
    | split

theorem execEngMin_keeps {x d y z} {t} (e : execEngMin x d y z s = .next t) : Keeps [.eng] s t := by
  have hm := within_refl [.eng]
  have h := Keeps.refl [.eng] s
  simp only [execEngMin, Host.Outcome.next.injEq] at e
  subst e
  repeat' with_reducible first
    | exact h
    | refine keeps_ite (fun _ => ?_) (fun _ => ?_)
    | refine State.engOp_keeps ?_ (within_trans hm (by decide))
    | refine keeps_pair (by assumption) ?_
    | split

theorem execEngMax_keeps {x d y z} {t} (e : execEngMax x d y z s = .next t) : Keeps [.eng] s t := by
  have hm := within_refl [.eng]
  have h := Keeps.refl [.eng] s
  simp only [execEngMax, Host.Outcome.next.injEq] at e
  subst e
  repeat' with_reducible first
    | exact h
    | refine keeps_ite (fun _ => ?_) (fun _ => ?_)
    | refine State.engOp_keeps ?_ (within_trans hm (by decide))
    | refine keeps_pair (by assumption) ?_
    | split

theorem execEngNegd_keeps {x d y} {t} (e : execEngNegd x d y s = .next t) : Keeps [.eng] s t := by
  have hm := within_refl [.eng]
  have h := Keeps.refl [.eng] s
  simp only [execEngNegd, Host.Outcome.next.injEq] at e
  subst e
  repeat' with_reducible first
    | exact h
    | refine keeps_ite (fun _ => ?_) (fun _ => ?_)
    | refine State.engOp_keeps ?_ (within_trans hm (by decide))
    | refine keeps_pair (by assumption) ?_
    | split

theorem execEngCmp_keeps {x y z} {t} (e : execEngCmp x y z s = .next t) : Keeps [.eng] s t := by
  have hm := within_refl [.eng]
  have h := Keeps.refl [.eng] s
  simp only [execEngCmp, Host.Outcome.next.injEq] at e
  subst e
  repeat' with_reducible first
    | exact h
    | refine keeps_ite (fun _ => ?_) (fun _ => ?_)
    | refine State.engOp_keeps ?_ (within_trans hm (by decide))
    | refine keeps_pair (by assumption) ?_
    | split

theorem execEngLin_keeps {x l port} {t} (e : execEngLin x l port s = .next t) : Keeps [.eng] s t := by
  have hm := within_refl [.eng]
  have h := Keeps.refl [.eng] s
  simp only [execEngLin, Host.Outcome.next.injEq] at e
  subst e
  repeat' with_reducible first
    | exact h
    | refine keeps_ite (fun _ => ?_) (fun _ => ?_)
    | refine State.engOp_keeps ?_ (within_trans hm (by decide))
    | refine keeps_pair (by assumption) ?_
    | split

theorem execEngLadd_keeps {x l m' n} {t} (e : execEngLadd x l m' n s = .next t) : Keeps [.eng] s t := by
  have hm := within_refl [.eng]
  have h := Keeps.refl [.eng] s
  simp only [execEngLadd, Host.Outcome.next.injEq] at e
  subst e
  repeat' with_reducible first
    | exact h
    | refine keeps_ite (fun _ => ?_) (fun _ => ?_)
    | refine State.engOp_keeps ?_ (within_trans hm (by decide))
    | refine keeps_pair (by assumption) ?_
    | split

theorem execEngLsub_keeps {x l m' n} {t} (e : execEngLsub x l m' n s = .next t) : Keeps [.eng] s t := by
  have hm := within_refl [.eng]
  have h := Keeps.refl [.eng] s
  simp only [execEngLsub, Host.Outcome.next.injEq] at e
  subst e
  repeat' with_reducible first
    | exact h
    | refine keeps_ite (fun _ => ?_) (fun _ => ?_)
    | refine State.engOp_keeps ?_ (within_trans hm (by decide))
    | refine keeps_pair (by assumption) ?_
    | split

theorem execEngLmov_keeps {x l m'} {t} (e : execEngLmov x l m' s = .next t) : Keeps [.eng] s t := by
  have hm := within_refl [.eng]
  have h := Keeps.refl [.eng] s
  simp only [execEngLmov, Host.Outcome.next.injEq] at e
  subst e
  repeat' with_reducible first
    | exact h
    | refine keeps_ite (fun _ => ?_) (fun _ => ?_)
    | refine State.engOp_keeps ?_ (within_trans hm (by decide))
    | refine keeps_pair (by assumption) ?_
    | split

theorem execEngLta_keeps {x a l sh} {t} (e : execEngLta x a l sh s = .next t) : Keeps [.eng] s t := by
  have hm := within_refl [.eng]
  have h := Keeps.refl [.eng] s
  simp only [execEngLta, Host.Outcome.next.injEq] at e
  subst e
  repeat' with_reducible first
    | exact h
    | refine keeps_ite (fun _ => ?_) (fun _ => ?_)
    | refine State.engOp_keeps ?_ (within_trans hm (by decide))
    | refine keeps_pair (by assumption) ?_
    | split

theorem execEngIn_keeps {x d port} {t} (e : execEngIn x d port s = .next t) : Keeps [.eng] s t := by
  have hm := within_refl [.eng]
  have h := Keeps.refl [.eng] s
  simp only [execEngIn, Host.Outcome.next.injEq] at e
  subst e
  repeat' with_reducible first
    | exact h
    | refine keeps_ite (fun _ => ?_) (fun _ => ?_)
    | refine State.engOp_keeps ?_ (within_trans hm (by decide))
    | refine keeps_pair (by assumption) ?_
    | split

theorem State.outPort_keeps {x port v} (h : Keeps m s0 s) (hm : within [.reg .eng, .eng] m = true) : Keeps m s0 (State.outPort x port v s) := by
  unfold State.outPort
  try dsimp only
  repeat' with_reducible first
    | exact h
    | refine keeps_ite (fun _ => ?_) (fun _ => ?_)
    | refine State.onCx_keeps ?_ (within_trans hm (by decide))
    | refine State.put_keeps (by first | exact ENG_VOUT_VD_blk .. | exact ENG_VOUT_VQ_blk .. | (refine blk_ite ?_ ?_ <;> first | exact ENG_VOUT_VD_blk .. | exact ENG_VOUT_VQ_blk ..)) ?_ (within_trans hm (by decide))
    | refine keeps_pair (by assumption) ?_
    | split

theorem execEngOut_keeps {x port y} {t} (e : execEngOut x port y s = .next t) : Keeps [.reg .eng, .eng] s t := by
  have hm := within_refl [.reg .eng, .eng]
  have h := Keeps.refl [.reg .eng, .eng] s
  simp only [execEngOut, Host.Outcome.next.injEq] at e
  subst e
  repeat' with_reducible first
    | exact h
    | refine keeps_ite (fun _ => ?_) (fun _ => ?_)
    | refine State.engOp_keeps ?_ (within_trans hm (by decide))
    | refine State.outPort_keeps ?_ (within_trans hm (by decide))
    | refine keeps_pair (by assumption) ?_
    | split

theorem State.outIref_keeps {x d q} (h : Keeps m s0 s) (hm : within [.reg .lsh, .reg .eng, .reg .err, .sets, .log, .axes, .eng] m = true) : Keeps m s0 (State.outIref x d q s) := by
  unfold State.outIref
  try dsimp only
  repeat' with_reducible first
    | exact h
    | refine keeps_ite (fun _ => ?_) (fun _ => ?_)
    | refine State.leashIref_keeps ?_ (within_trans hm (by decide))
    | refine State.onCx_keeps ?_ (within_trans hm (by decide))
    | refine State.put_keeps (by first | exact ENG_IREF_ID_blk .. | exact ENG_IREF_IQ_blk .. | (refine blk_ite ?_ ?_ <;> first | exact ENG_IREF_ID_blk .. | exact ENG_IREF_IQ_blk ..)) ?_ (within_trans hm (by decide))
    | refine keeps_pair (by assumption) ?_
    | split

theorem execEngOuti_keeps {x y z} {t} (e : execEngOuti x y z s = .next t) : Keeps [.reg .lsh, .reg .eng, .reg .err, .sets, .log, .axes, .eng] s t := by
  have hm := within_refl [.reg .lsh, .reg .eng, .reg .err, .sets, .log, .axes, .eng]
  have h := Keeps.refl [.reg .lsh, .reg .eng, .reg .err, .sets, .log, .axes, .eng] s
  simp only [execEngOuti, Host.Outcome.next.injEq] at e
  subst e
  repeat' with_reducible first
    | exact h
    | refine keeps_ite (fun _ => ?_) (fun _ => ?_)
    | refine State.engOp_keeps ?_ (within_trans hm (by decide))
    | refine State.outIref_keeps ?_ (within_trans hm (by decide))
    | refine keeps_pair (by assumption) ?_
    | split

theorem State.sendPwm_keeps {x ch v} (h : Keeps m s0 s) (hm : within [.eng] m = true) : Keeps m s0 (State.sendPwm x ch v s) := by
  unfold State.sendPwm
  try dsimp only
  repeat' with_reducible first
    | exact h
    | refine keeps_ite (fun _ => ?_) (fun _ => ?_)
    | refine State.onEng_keeps ?_ (within_trans hm (by decide))
    | refine keeps_pair (by assumption) ?_
    | split

theorem execEngOutc_keeps {x ch y} {t} (e : execEngOutc x ch y s = .next t) : Keeps [.reg .lsh, .reg .err, .sets, .log, .axes, .eng] s t := by
  have hm := within_refl [.reg .lsh, .reg .err, .sets, .log, .axes, .eng]
  have h := Keeps.refl [.reg .lsh, .reg .err, .sets, .log, .axes, .eng] s
  simp only [execEngOutc, Host.Outcome.next.injEq] at e
  subst e
  repeat' with_reducible first
    | exact h
    | refine keeps_ite (fun _ => ?_) (fun _ => ?_)
    | refine State.leashCompare_keeps ?_ (within_trans hm (by decide))
    | refine State.engOp_keeps ?_ (within_trans hm (by decide))
    | refine State.sendPwm_keeps ?_ (within_trans hm (by decide))
    | refine keeps_pair (by assumption) ?_
    | split

theorem execEngOutk_keeps {x} {t} (e : execEngOutk x s = .next t) : Keeps [.eng] s t := by
  have hm := within_refl [.eng]
  have h := Keeps.refl [.eng] s
  simp only [execEngOutk, Host.Outcome.next.injEq] at e
  subst e
  repeat' with_reducible first
    | exact h
    | refine keeps_ite (fun _ => ?_) (fun _ => ?_)
    | refine State.engOp_keeps ?_ (within_trans hm (by decide))
    | refine State.sendPwm_keeps ?_ (within_trans hm (by decide))
    | refine keeps_pair (by assumption) ?_
    | split

theorem execEngSincos_keeps {x ds dc y} {t} (e : execEngSincos x ds dc y s = .next t) : Keeps [.fresh, .eng] s t := by
  have hm := within_refl [.fresh, .eng]
  have h := Keeps.refl [.fresh, .eng] s
  simp only [execEngSincos, Host.Outcome.next.injEq] at e
  subst e
  repeat' with_reducible first
    | exact h
    | refine keeps_ite (fun _ => ?_) (fun _ => ?_)
    | refine State.engOp_keeps ?_ (within_trans hm (by decide))
    | refine State.drew_keeps ?_ (within_trans hm (by decide))
    | refine keeps_pair (by assumption) ?_
    | split

theorem execEngSqrt_keeps {x d a} {t} (e : execEngSqrt x d a s = .next t) : Keeps [.eng] s t := by
  have hm := within_refl [.eng]
  have h := Keeps.refl [.eng] s
  simp only [execEngSqrt, Host.Outcome.next.injEq] at e
  subst e
  repeat' with_reducible first
    | exact h
    | refine keeps_ite (fun _ => ?_) (fun _ => ?_)
    | refine State.engOp_keeps ?_ (within_trans hm (by decide))
    | refine keeps_pair (by assumption) ?_
    | split

theorem execEngDiv_keeps {x d y z} {t} (e : execEngDiv x d y z s = .next t) : Keeps [.eng] s t := by
  have hm := within_refl [.eng]
  have h := Keeps.refl [.eng] s
  simp only [execEngDiv, Host.Outcome.next.injEq] at e
  subst e
  repeat' with_reducible first
    | exact h
    | refine keeps_ite (fun _ => ?_) (fun _ => ?_)
    | refine State.engOp_keeps ?_ (within_trans hm (by decide))
    | refine keeps_pair (by assumption) ?_
    | split

/-! ### Moves -/

theorem State.pushEvent_keeps {code index reason tag data} (h : Keeps m s0 s) (hm : within [.reg .prf, .reg .knl, .reg .que, .reg .err, .sets, .bulk, .log, .knl, .que] m = true) : Keeps m s0 (State.pushEvent code index reason tag data s) := by
  unfold State.pushEvent
  try dsimp only
  repeat' with_reducible first
    | exact h
    | refine keeps_ite (fun _ => ?_) (fun _ => ?_)
    | refine State.tryPush_keeps ?_ (within_trans hm (by decide))
    | refine State.lose_keeps (by first | exact PRF_STAT_EVLOST_blk ..) ?_ (within_trans hm (by decide))
    | refine keeps_pair (by assumption) ?_
    | split

theorem State.drainDone_keeps {g k} (h : Keeps m s0 s) (hm : within [.reg .knl, .reg .que, .sets, .bulk, .knl, .que, .prf] m = true) : Keeps m s0 (State.drainDone g k s) := by
  induction k generalizing g s with
  | zero => exact h
  | succ k ih =>
    unfold State.drainDone
    try dsimp only
    repeat' with_reducible first
      | exact h
      | refine ih ?_
      | refine keeps_ite (fun _ => ?_) (fun _ => ?_)
      | refine State.onGrp_keeps ?_ (within_trans hm (by decide))
      | refine State.enqueue_keeps ?_ (within_trans hm (by decide))
      | refine keeps_foldl ?_ _ ?_
      | (intro _ _ h; try dsimp only)
      | refine keeps_pair (by assumption) ?_
      | split

theorem State.segEvent_keeps {g code reason tag} (h : Keeps m s0 s) (hm : within [.reg .knl, .reg .que, .sets, .bulk, .knl, .que, .prf] m = true) : Keeps m s0 (State.segEvent g code reason tag s) := by
  unfold State.segEvent
  try dsimp only
  repeat' with_reducible first
    | exact h
    | refine keeps_ite (fun _ => ?_) (fun _ => ?_)
    | refine State.drainDone_keeps ?_ (within_trans hm (by decide))
    | refine State.onGrp_keeps ?_ (within_trans hm (by decide))
    | refine keeps_pair (by assumption) ?_
    | split

theorem State.showGroup_keeps {g} (h : Keeps m s0 s) (hm : within [.reg .prf] m = true) : Keeps m s0 (State.showGroup g s) := by
  unfold State.showGroup
  try dsimp only
  repeat' with_reducible first
    | exact h
    | refine keeps_ite (fun _ => ?_) (fun _ => ?_)
    | refine State.wr_keeps (by first | exact PRF_GRPCUR_blk .. | exact whole_blk (PRF_GRPCUR_blk ..) | exact PRF_GRPST_WIN_blk .. | (refine blk_ite ?_ ?_ <;> first | exact PRF_GRPCUR_blk .. | exact whole_blk (PRF_GRPCUR_blk ..) | exact PRF_GRPST_WIN_blk ..)) ?_ (within_trans hm (by decide))
    | refine State.put_keeps (by first | exact PRF_GRPCUR_blk .. | exact whole_blk (PRF_GRPCUR_blk ..) | exact PRF_GRPST_WIN_blk .. | (refine blk_ite ?_ ?_ <;> first | exact PRF_GRPCUR_blk .. | exact whole_blk (PRF_GRPCUR_blk ..) | exact PRF_GRPST_WIN_blk ..)) ?_ (within_trans hm (by decide))
    | refine keeps_pair (by assumption) ?_
    | split

theorem State.segAbort_keeps {g reason tag} (h : Keeps m s0 s) (hm : within [.reg .prf, .reg .knl, .reg .que, .sets, .bulk, .knl, .que, .prf] m = true) : Keeps m s0 (State.segAbort g reason tag s) := by
  unfold State.segAbort
  try dsimp only
  repeat' with_reducible first
    | exact h
    | refine keeps_ite (fun _ => ?_) (fun _ => ?_)
    | refine State.segEvent_keeps ?_ (within_trans hm (by decide))
    | refine State.bump_keeps (by first | exact PRF_GRPABT_blk .. | exact whole_blk (PRF_GRPABT_blk ..)) ?_ (within_trans hm (by decide))
    | refine keeps_pair (by assumption) ?_
    | split

theorem State.setMode_keeps {n m' tag} (h : Keeps m s0 s) (hm : within [.reg .prf] m = true) : Keeps m s0 (State.setMode n m' tag s) := by
  unfold State.setMode
  try dsimp only
  repeat' with_reducible first
    | exact h
    | refine keeps_ite (fun _ => ?_) (fun _ => ?_)
    | refine State.wr_keeps (by first | exact PRF_MVST_MODE_blk .. | exact PRF_MVTAG_blk .. | exact whole_blk (PRF_MVTAG_blk ..) | (refine blk_ite ?_ ?_ <;> first | exact PRF_MVST_MODE_blk .. | exact PRF_MVTAG_blk .. | exact whole_blk (PRF_MVTAG_blk ..))) ?_ (within_trans hm (by decide))
    | refine State.put_keeps (by first | exact PRF_MVST_MODE_blk .. | exact PRF_MVTAG_blk .. | exact whole_blk (PRF_MVTAG_blk ..) | (refine blk_ite ?_ ?_ <;> first | exact PRF_MVST_MODE_blk .. | exact PRF_MVTAG_blk .. | exact whole_blk (PRF_MVTAG_blk ..))) ?_ (within_trans hm (by decide))
    | refine keeps_pair (by assumption) ?_
    | split

theorem State.enter_keeps {n st} (h : Keeps m s0 s) (hm : within [.reg .prf, .reg .eng, .reg .knl, .knl] m = true) : Keeps m s0 (State.enter n st s) := by
  unfold State.enter
  try dsimp only
  repeat' with_reducible first
    | exact h
    | refine keeps_ite (fun _ => ?_) (fun _ => ?_)
    | refine State.put_keeps (by first | exact ENG_DST_STATE_blk .. | exact PRF_AXST_STATE_blk .. | (refine blk_ite ?_ ?_ <;> first | exact ENG_DST_STATE_blk .. | exact PRF_AXST_STATE_blk ..)) ?_ (within_trans hm (by decide))
    | refine State.event_keeps ?_ (within_trans hm (by decide))
    | refine keeps_pair (by assumption) ?_
    | split

theorem State.planStop_keeps {n d j} (h : Keeps m s0 s) (hm : within [.prf] m = true) : Keeps m s0 (State.planStop n d j s) := by
  unfold State.planStop
  try dsimp only
  repeat' with_reducible first
    | exact h
    | refine keeps_ite (fun _ => ?_) (fun _ => ?_)
    | refine State.onMot_keeps ?_ (within_trans hm (by decide))
    | refine keeps_pair (by assumption) ?_
    | split

theorem State.planRamp_keeps {n} (h : Keeps m s0 s) (hm : within [.prf] m = true) : Keeps m s0 (State.planRamp n s) := by
  unfold State.planRamp
  try dsimp only
  repeat' with_reducible first
    | exact h
    | refine keeps_ite (fun _ => ?_) (fun _ => ?_)
    | refine State.onMot_keeps ?_ (within_trans hm (by decide))
    | refine keeps_pair (by assumption) ?_
    | split

theorem State.releaseProbe_keeps {n} (h : Keeps m s0 s) (hm : within [.reg .fbk, .prf, .probes] m = true) : Keeps m s0 (State.releaseProbe n s) := by
  unfold State.releaseProbe
  try dsimp only
  repeat' with_reducible first
    | exact h
    | refine keeps_ite (fun _ => ?_) (fun _ => ?_)
    | refine State.wr_keeps (by first | exact FBK_PRCFG_blk .. | exact whole_blk (FBK_PRCFG_blk ..) | exact FBK_PRCFG_ARM_blk .. | exact FBK_PRCFG_OWN_blk .. | exact FBK_PRSEL_blk .. | exact whole_blk (FBK_PRSEL_blk ..) | (refine blk_ite ?_ ?_ <;> first | exact FBK_PRCFG_blk .. | exact whole_blk (FBK_PRCFG_blk ..) | exact FBK_PRCFG_ARM_blk .. | exact FBK_PRCFG_OWN_blk .. | exact FBK_PRSEL_blk .. | exact whole_blk (FBK_PRSEL_blk ..))) ?_ (within_trans hm (by decide))
    | refine State.mark_keeps (by first | exact FBK_PRCFG_blk .. | exact whole_blk (FBK_PRCFG_blk ..) | exact FBK_PRCFG_ARM_blk .. | exact FBK_PRCFG_OWN_blk .. | exact FBK_PRSEL_blk .. | exact whole_blk (FBK_PRSEL_blk ..) | (refine blk_ite ?_ ?_ <;> first | exact FBK_PRCFG_blk .. | exact whole_blk (FBK_PRCFG_blk ..) | exact FBK_PRCFG_ARM_blk .. | exact FBK_PRCFG_OWN_blk .. | exact FBK_PRSEL_blk .. | exact whole_blk (FBK_PRSEL_blk ..))) ?_ (within_trans hm (by decide))
    | refine State.onMot_keeps ?_ (within_trans hm (by decide))
    | refine State.onProbes_keeps ?_ (within_trans hm (by decide))
    | refine keeps_pair (by assumption) ?_
    | split

theorem State.endSuper_keeps {n} (h : Keeps m s0 s) (hm : within [.reg .prf, .reg .knl, .reg .que, .reg .err, .sets, .bulk, .log, .knl, .que, .prf] m = true) : Keeps m s0 (State.endSuper n s) := by
  unfold State.endSuper
  try dsimp only
  repeat' with_reducible first
    | exact h
    | refine keeps_ite (fun _ => ?_) (fun _ => ?_)
    | refine State.pushEvent_keeps ?_ (within_trans hm (by decide))
    | refine State.mark_keeps (by first | exact PRF_MVST_SUPER_blk ..) ?_ (within_trans hm (by decide))
    | refine State.onMot_keeps ?_ (within_trans hm (by decide))
    | refine keeps_pair (by assumption) ?_
    | split

theorem State.uncouple_keeps {n reason tag} (h : Keeps m s0 s) (hm : within [.reg .prf, .reg .knl, .reg .que, .reg .err, .sets, .bulk, .log, .knl, .que, .prf] m = true) : Keeps m s0 (State.uncouple n reason tag s) := by
  unfold State.uncouple
  try dsimp only
  repeat' with_reducible first
    | exact h
    | refine keeps_ite (fun _ => ?_) (fun _ => ?_)
    | refine State.pushEvent_keeps ?_ (within_trans hm (by decide))
    | refine State.put_keeps (by first | exact PRF_MVST_MASTER_blk ..) ?_ (within_trans hm (by decide))
    | refine State.onMot_keeps ?_ (within_trans hm (by decide))
    | refine State.endSuper_keeps ?_ (within_trans hm (by decide))
    | refine keeps_pair (by assumption) ?_
    | split

theorem State.decoupleStop_keeps {n reason tag d j} (h : Keeps m s0 s) (hm : within [.reg .prf, .reg .eng, .reg .knl, .reg .que, .reg .err, .sets, .bulk, .log, .knl, .que, .prf] m = true) : Keeps m s0 (State.decoupleStop n reason tag d j s) := by
  unfold State.decoupleStop
  try dsimp only
  repeat' with_reducible first
    | exact h
    | refine keeps_ite (fun _ => ?_) (fun _ => ?_)
    | refine State.planStop_keeps ?_ (within_trans hm (by decide))
    | refine State.onMot_keeps ?_ (within_trans hm (by decide))
    | refine State.uncouple_keeps ?_ (within_trans hm (by decide))
    | refine State.setMode_keeps ?_ (within_trans hm (by decide))
    | refine State.enter_keeps ?_ (within_trans hm (by decide))
    | refine keeps_pair (by assumption) ?_
    | split

theorem State.masterLost_keeps {p} (h : Keeps m s0 s) (hm : within [.reg .prf, .reg .eng, .reg .knl, .reg .que, .reg .err, .sets, .bulk, .log, .knl, .que, .prf] m = true) : Keeps m s0 (State.masterLost p s) := by
  unfold State.masterLost
  try dsimp only
  repeat' with_reducible first
    | exact h
    | refine keeps_ite (fun _ => ?_) (fun _ => ?_)
    | refine State.decoupleStop_keeps ?_ (within_trans hm (by decide))
    | refine keeps_foldl ?_ _ ?_
    | refine keeps_foldl_snd ?_ _ ?_
    | (intro _ _ h; try dsimp only)
    | refine keeps_pair (by assumption) ?_
    | split

theorem State.groupEnd_keeps {g reason off} (h : Keeps m s0 s) (hm : within [.reg .prf, .prf] m = true) : Keeps m s0 (State.groupEnd g reason off s) := by
  unfold State.groupEnd
  try dsimp only
  repeat' with_reducible first
    | exact h
    | refine keeps_ite (fun _ => ?_) (fun _ => ?_)
    | refine State.onGrp_keeps ?_ (within_trans hm (by decide))
    | refine State.put_keeps (by first | exact PRF_GRPST_STATE_blk ..) ?_ (within_trans hm (by decide))
    | refine State.planStop_keeps ?_ (within_trans hm (by decide))
    | refine keeps_foldl ?_ _ ?_
    | refine keeps_foldl_snd ?_ _ ?_
    | (intro _ _ h; try dsimp only)
    | refine keeps_pair (by assumption) ?_
    | split

theorem State.dropMotion_keeps {n} (h : Keeps m s0 s) (hm : within [.reg .prf, .reg .fbk, .prf, .probes] m = true) : Keeps m s0 (State.dropMotion n s) := by
  unfold State.dropMotion
  try dsimp only
  repeat' with_reducible first
    | exact h
    | refine keeps_ite (fun _ => ?_) (fun _ => ?_)
    | refine State.onMot_keeps ?_ (within_trans hm (by decide))
    | refine State.releaseProbe_keeps ?_ (within_trans hm (by decide))
    | refine State.put_keeps (by first | exact PRF_MVST_MASTER_blk .. | exact PRF_MVST_SUPER_blk .. | (refine blk_ite ?_ ?_ <;> first | exact PRF_MVST_MASTER_blk .. | exact PRF_MVST_SUPER_blk ..)) ?_ (within_trans hm (by decide))
    | refine State.mark_keeps (by first | exact PRF_MVST_MASTER_blk .. | exact PRF_MVST_SUPER_blk .. | (refine blk_ite ?_ ?_ <;> first | exact PRF_MVST_MASTER_blk .. | exact PRF_MVST_SUPER_blk ..)) ?_ (within_trans hm (by decide))
    | refine State.setMode_keeps ?_ (within_trans hm (by decide))
    | refine State.groupEnd_keeps ?_ (within_trans hm (by decide))
    | refine keeps_pair (by assumption) ?_
    | split

theorem State.abortSegs_keeps {g reason k} (h : Keeps m s0 s) (hm : within [.reg .prf, .reg .knl, .reg .que, .sets, .bulk, .knl, .que, .prf] m = true) : Keeps m s0 (State.abortSegs g reason k s) := by
  induction k generalizing g reason s with
  | zero => exact h
  | succ k ih =>
    unfold State.abortSegs
    try dsimp only
    repeat' with_reducible first
      | exact h
      | refine ih ?_
      | refine keeps_ite (fun _ => ?_) (fun _ => ?_)
      | refine State.segAbort_keeps ?_ (within_trans hm (by decide))
      | refine State.onGrp_keeps ?_ (within_trans hm (by decide))
      | refine State.dequeue_keeps ?_ (within_trans hm (by decide))
      | refine State.bump_keeps (by first | exact PRF_DISC_blk .. | exact whole_blk (PRF_DISC_blk ..) | exact PRF_GRPACC_blk .. | exact whole_blk (PRF_GRPACC_blk ..) | (refine blk_ite ?_ ?_ <;> first | exact PRF_DISC_blk .. | exact whole_blk (PRF_DISC_blk ..) | exact PRF_GRPACC_blk .. | exact whole_blk (PRF_GRPACC_blk ..))) ?_ (within_trans hm (by decide))
      | refine keeps_foldl ?_ _ ?_
      | (intro _ _ h; try dsimp only)
      | refine keeps_pair (by assumption) ?_
      | split

theorem State.groupFinish_keeps {g} (h : Keeps m s0 s) (hm : within [.reg .prf, .reg .knl, .reg .que, .reg .err, .sets, .bulk, .log, .knl, .que, .prf] m = true) : Keeps m s0 (State.groupFinish g s) := by
  unfold State.groupFinish
  try dsimp only
  repeat' with_reducible first
    | exact h
    | refine keeps_ite (fun _ => ?_) (fun _ => ?_)
    | refine State.onGrp_keeps ?_ (within_trans hm (by decide))
    | refine State.showGroup_keeps ?_ (within_trans hm (by decide))
    | refine State.abortSegs_keeps ?_ (within_trans hm (by decide))
    | refine State.put_keeps (by first | exact PRF_GRPST_STATE_blk .. | exact PRF_MVST_MODE_blk .. | (refine blk_ite ?_ ?_ <;> first | exact PRF_GRPST_STATE_blk .. | exact PRF_MVST_MODE_blk ..)) ?_ (within_trans hm (by decide))
    | refine State.pushEvent_keeps ?_ (within_trans hm (by decide))
    | refine keeps_foldl ?_ _ ?_
    | refine keeps_foldl_snd ?_ _ ?_
    | (intro _ _ h; try dsimp only)
    | refine keeps_pair (by assumption) ?_
    | split

/-! ### Gates -/

theorem State.foldGates_keeps {a} (h : Keeps m s0 s) (hm : within [.pwm] m = true) : Keeps m s0 (State.foldGates a s) := by
  unfold State.foldGates
  try dsimp only
  repeat' with_reducible first
    | exact h
    | refine keeps_ite (fun _ => ?_) (fun _ => ?_)
    | refine State.onPax_keeps ?_ (within_trans hm (by decide))
    | refine keeps_foldl ?_ _ ?_
    | refine keeps_foldl_snd ?_ _ ?_
    | (intro _ _ h; try dsimp only)
    | refine keeps_pair (by assumption) ?_
    | split

theorem State.gatesTurnOff_keeps {a delay} (h : Keeps m s0 s) (hm : within [.pwm] m = true) : Keeps m s0 (State.gatesTurnOff a delay s) := by
  unfold State.gatesTurnOff
  try dsimp only
  repeat' with_reducible first
    | exact h
    | refine keeps_ite (fun _ => ?_) (fun _ => ?_)
    | refine State.onPax_keeps ?_ (within_trans hm (by decide))
    | refine keeps_foldl ?_ _ ?_
    | refine keeps_foldl_snd ?_ _ ?_
    | (intro _ _ h; try dsimp only)
    | refine keeps_pair (by assumption) ?_
    | split

theorem State.gatesLow_keeps {a delay} (h : Keeps m s0 s) (hm : within [.pwm] m = true) : Keeps m s0 (State.gatesLow a delay s) := by
  unfold State.gatesLow
  try dsimp only
  repeat' with_reducible first
    | exact h
    | refine keeps_ite (fun _ => ?_) (fun _ => ?_)
    | refine State.onPax_keeps ?_ (within_trans hm (by decide))
    | refine State.gatesTurnOff_keeps ?_ (within_trans hm (by decide))
    | refine keeps_pair (by assumption) ?_
    | split

theorem State.gatesOff_keeps {a delay} (h : Keeps m s0 s) (hm : within [.pwm] m = true) : Keeps m s0 (State.gatesOff a delay s) := by
  unfold State.gatesOff
  try dsimp only
  repeat' with_reducible first
    | exact h
    | refine keeps_ite (fun _ => ?_) (fun _ => ?_)
    | refine State.onPax_keeps ?_ (within_trans hm (by decide))
    | refine State.gatesTurnOff_keeps ?_ (within_trans hm (by decide))
    | refine keeps_pair (by assumption) ?_
    | split

theorem State.showSafe_keeps {a} (h : Keeps m s0 s) (hm : within [.reg .pwm] m = true) : Keeps m s0 (State.showSafe a s) := by
  unfold State.showSafe
  try dsimp only
  repeat' with_reducible first
    | exact h
    | refine keeps_ite (fun _ => ?_) (fun _ => ?_)
    | refine State.mark_keeps (by first | exact PWM_AXST_GENOK_blk .. | exact PWM_AXST_SAFE_blk .. | (refine blk_ite ?_ ?_ <;> first | exact PWM_AXST_GENOK_blk .. | exact PWM_AXST_SAFE_blk ..)) ?_ (within_trans hm (by decide))
    | refine State.put_keeps (by first | exact PWM_AXST_GENOK_blk .. | exact PWM_AXST_SAFE_blk .. | (refine blk_ite ?_ ?_ <;> first | exact PWM_AXST_GENOK_blk .. | exact PWM_AXST_SAFE_blk ..)) ?_ (within_trans hm (by decide))
    | refine keeps_pair (by assumption) ?_
    | split

theorem State.pwmOff_keeps {a} (h : Keeps m s0 s) (hm : within [.reg .pwm, .pwm] m = true) : Keeps m s0 (State.pwmOff a s) := by
  unfold State.pwmOff
  try dsimp only
  repeat' with_reducible first
    | exact h
    | refine keeps_ite (fun _ => ?_) (fun _ => ?_)
    | refine State.onPax_keeps ?_ (within_trans hm (by decide))
    | refine State.gatesTurnOff_keeps ?_ (within_trans hm (by decide))
    | refine State.wr_keeps (by first | exact PWM_AXST_EN_blk .. | exact PWM_AXST_TRIPIN_blk .. | exact PWM_PER_blk .. | exact whole_blk (PWM_PER_blk ..) | exact PWM_STG_blk .. | exact whole_blk (PWM_STG_blk ..) | (refine blk_ite ?_ ?_ <;> first | exact PWM_AXST_EN_blk .. | exact PWM_AXST_TRIPIN_blk .. | exact PWM_PER_blk .. | exact whole_blk (PWM_PER_blk ..) | exact PWM_STG_blk .. | exact whole_blk (PWM_STG_blk ..))) ?_ (within_trans hm (by decide))
    | refine State.mark_keeps (by first | exact PWM_AXST_EN_blk .. | exact PWM_AXST_TRIPIN_blk .. | exact PWM_PER_blk .. | exact whole_blk (PWM_PER_blk ..) | exact PWM_STG_blk .. | exact whole_blk (PWM_STG_blk ..) | (refine blk_ite ?_ ?_ <;> first | exact PWM_AXST_EN_blk .. | exact PWM_AXST_TRIPIN_blk .. | exact PWM_PER_blk .. | exact whole_blk (PWM_PER_blk ..) | exact PWM_STG_blk .. | exact whole_blk (PWM_STG_blk ..))) ?_ (within_trans hm (by decide))
    | refine State.showSafe_keeps ?_ (within_trans hm (by decide))
    | refine keeps_pair (by assumption) ?_
    | split

theorem State.pwmOn_keeps {a} (h : Keeps m s0 s) (hm : within [.reg .pwm, .pwm] m = true) : Keeps m s0 (State.pwmOn a s) := by
  unfold State.pwmOn
  try dsimp only
  repeat' with_reducible first
    | exact h
    | refine keeps_ite (fun _ => ?_) (fun _ => ?_)
    | refine State.showSafe_keeps ?_ (within_trans hm (by decide))
    | refine State.onPax_keeps ?_ (within_trans hm (by decide))
    | refine State.put_keeps (by first | exact PWM_AXST_RUN_blk ..) ?_ (within_trans hm (by decide))
    | refine keeps_pair (by assumption) ?_
    | split

/-! ### Faults -/

theorem State.setBrake_keeps {n engaged} (h : Keeps m s0 s) (hm : within [.reg .dio, .axes] m = true) : Keeps m s0 (State.setBrake n engaged s) := by
  unfold State.setBrake
  try dsimp only
  repeat' with_reducible first
    | exact h
    | refine keeps_ite (fun _ => ?_) (fun _ => ?_)
    | refine State.onAxis_keeps ?_ (within_trans hm (by decide))
    | refine State.setBit64_keeps (by first | exact DIO_OUT_blk .. | exact whole_blk (DIO_OUT_blk ..)) ?_ (within_trans hm (by decide))
    | refine keeps_pair (by assumption) ?_
    | split

theorem State.leaveEnabled_keeps {a} (h : Keeps m s0 s) (hm : within [.reg .prf, .reg .eng, .reg .csf, .reg .pwm, .pwm] m = true) : Keeps m s0 (State.leaveEnabled a s) := by
  unfold State.leaveEnabled
  try dsimp only
  repeat' with_reducible first
    | exact h
    | refine keeps_ite (fun _ => ?_) (fun _ => ?_)
    | refine State.put_keeps (by first | exact CSF_CST_ACT_blk .. | exact ENG_CST_RUN_blk .. | exact ENG_SST_SETTLE_blk .. | exact ENG_SST_STATE_blk .. | exact ENG_STAT_ENABLED_blk .. | exact PRF_AXST_SDPEND_blk .. | exact bandSt_blk .. | (refine blk_ite ?_ ?_ <;> first | exact CSF_CST_ACT_blk .. | exact ENG_CST_RUN_blk .. | exact ENG_SST_SETTLE_blk .. | exact ENG_SST_STATE_blk .. | exact ENG_STAT_ENABLED_blk .. | exact PRF_AXST_SDPEND_blk .. | exact bandSt_blk ..)) ?_ (within_trans hm (by decide))
    | refine State.mark_keeps (by first | exact CSF_CST_ACT_blk .. | exact ENG_CST_RUN_blk .. | exact ENG_SST_SETTLE_blk .. | exact ENG_SST_STATE_blk .. | exact ENG_STAT_ENABLED_blk .. | exact PRF_AXST_SDPEND_blk .. | exact bandSt_blk .. | (refine blk_ite ?_ ?_ <;> first | exact CSF_CST_ACT_blk .. | exact ENG_CST_RUN_blk .. | exact ENG_SST_SETTLE_blk .. | exact ENG_SST_STATE_blk .. | exact ENG_STAT_ENABLED_blk .. | exact PRF_AXST_SDPEND_blk .. | exact bandSt_blk ..)) ?_ (within_trans hm (by decide))
    | refine State.pwmOff_keeps ?_ (within_trans hm (by decide))
    | refine keeps_foldl ?_ _ ?_
    | refine keeps_foldl_snd ?_ _ ?_
    | (intro _ _ h; try dsimp only)
    | refine keeps_pair (by assumption) ?_
    | split

theorem State.toDisabled_keeps {n why} (h : Keeps m s0 s) (hm : within [.reg .prf, .reg .eng, .reg .csf, .reg .fbk, .reg .pwm, .reg .knl, .reg .que, .reg .dio, .reg .err, .sets, .bulk, .log, .knl, .que, .axes, .prf, .pwm, .probes] m = true) : Keeps m s0 (State.toDisabled n why s) := by
  unfold State.toDisabled
  try dsimp only
  repeat' with_reducible first
    | exact h
    | refine keeps_ite (fun _ => ?_) (fun _ => ?_)
    | refine State.leaveEnabled_keeps ?_ (within_trans hm (by decide))
    | refine State.setBrake_keeps ?_ (within_trans hm (by decide))
    | refine State.put_keeps (by first | exact PRF_AXST_LASTOFF_blk ..) ?_ (within_trans hm (by decide))
    | refine State.enter_keeps ?_ (within_trans hm (by decide))
    | refine State.onAxis_keeps ?_ (within_trans hm (by decide))
    | refine State.masterLost_keeps ?_ (within_trans hm (by decide))
    | refine State.dropMotion_keeps ?_ (within_trans hm (by decide))
    | refine keeps_pair (by assumption) ?_
    | split

theorem State.torqueOff_keeps {n code} (h : Keeps m s0 s) (hm : within [.reg .prf, .reg .eng, .reg .csf, .reg .fbk, .reg .pwm, .reg .dio, .axes, .prf, .pwm, .probes] m = true) : Keeps m s0 (State.torqueOff n code s) := by
  unfold State.torqueOff
  try dsimp only
  repeat' with_reducible first
    | exact h
    | refine keeps_ite (fun _ => ?_) (fun _ => ?_)
    | refine State.onAxis_keeps ?_ (within_trans hm (by decide))
    | refine State.dropMotion_keeps ?_ (within_trans hm (by decide))
    | refine State.leaveEnabled_keeps ?_ (within_trans hm (by decide))
    | refine State.setBrake_keeps ?_ (within_trans hm (by decide))
    | refine keeps_pair (by assumption) ?_
    | split

theorem State.emptyDarner_keeps {a} (h : Keeps m s0 s) (hm : within [.reg .eng, .drn] m = true) : Keeps m s0 (State.emptyDarner a s) := by
  unfold State.emptyDarner
  try dsimp only
  repeat' with_reducible first
    | exact h
    | refine keeps_ite (fun _ => ?_) (fun _ => ?_)
    | refine State.onDrn_keeps ?_ (within_trans hm (by decide))
    | refine State.mark_keeps (by first | exact ENG_DST_RAMP_blk .. | exact ENG_DST_SPAN_blk .. | (refine blk_ite ?_ ?_ <;> first | exact ENG_DST_RAMP_blk .. | exact ENG_DST_SPAN_blk ..)) ?_ (within_trans hm (by decide))
    | refine State.put_keeps (by first | exact ENG_DST_RAMP_blk .. | exact ENG_DST_SPAN_blk .. | (refine blk_ite ?_ ?_ <;> first | exact ENG_DST_RAMP_blk .. | exact ENG_DST_SPAN_blk ..)) ?_ (within_trans hm (by decide))
    | refine keeps_pair (by assumption) ?_
    | split

theorem State.faultWith_keeps {n cause sub src code defer} (h : Keeps m s0 s) (hm : within [.reg .prf, .reg .eng, .reg .csf, .reg .fbk, .reg .pwm, .reg .knl, .reg .que, .reg .acq, .reg .dio, .reg .err, .sets, .bulk, .log, .knl, .que, .axes, .prf, .pwm, .drn, .probes, .acq] m = true) : Keeps m s0 (State.faultWith n cause sub src code defer s) := by
  unfold State.faultWith
  try dsimp only
  repeat' with_reducible first
    | exact h
    | refine keeps_ite (fun _ => ?_) (fun _ => ?_)
    | refine State.report_keeps ?_ (within_trans hm (by decide))
    | refine State.mark_keeps (by first | exact PRF_AXST_CAUSE_blk .. | exact PRF_AXST_FCNT_blk .. | exact PRF_AXST_REACT_blk .. | exact PRF_AXST_STOPTO_blk .. | (refine blk_ite ?_ ?_ <;> first | exact PRF_AXST_CAUSE_blk .. | exact PRF_AXST_FCNT_blk .. | exact PRF_AXST_REACT_blk .. | exact PRF_AXST_STOPTO_blk ..)) ?_ (within_trans hm (by decide))
    | refine State.put_keeps (by first | exact PRF_AXST_CAUSE_blk .. | exact PRF_AXST_FCNT_blk .. | exact PRF_AXST_REACT_blk .. | exact PRF_AXST_STOPTO_blk .. | (refine blk_ite ?_ ?_ <;> first | exact PRF_AXST_CAUSE_blk .. | exact PRF_AXST_FCNT_blk .. | exact PRF_AXST_REACT_blk .. | exact PRF_AXST_STOPTO_blk ..)) ?_ (within_trans hm (by decide))
    | refine State.enter_keeps ?_ (within_trans hm (by decide))
    | refine State.onAxis_keeps ?_ (within_trans hm (by decide))
    | refine State.emptyDarner_keeps ?_ (within_trans hm (by decide))
    | refine State.acqSource_keeps ?_ (within_trans hm (by decide))
    | refine State.masterLost_keeps ?_ (within_trans hm (by decide))
    | refine State.torqueOff_keeps ?_ (within_trans hm (by decide))
    | refine State.setMode_keeps ?_ (within_trans hm (by decide))
    | refine State.planRamp_keeps ?_ (within_trans hm (by decide))
    | refine State.dropMotion_keeps ?_ (within_trans hm (by decide))
    | refine State.satBump_keeps (by first | exact PRF_AXST_CAUSE_blk .. | exact PRF_AXST_FCNT_blk .. | exact PRF_AXST_REACT_blk .. | exact PRF_AXST_STOPTO_blk .. | (refine blk_ite ?_ ?_ <;> first | exact PRF_AXST_CAUSE_blk .. | exact PRF_AXST_FCNT_blk .. | exact PRF_AXST_REACT_blk .. | exact PRF_AXST_STOPTO_blk ..)) ?_ (within_trans hm (by decide))
    | refine keeps_getD (fun _ _ => ?_) ?_
    | refine keeps_pair (by assumption) ?_
    | split

theorem State.fault_keeps {n cause sub src} (h : Keeps m s0 s) (hm : within [.reg .prf, .reg .eng, .reg .csf, .reg .fbk, .reg .pwm, .reg .knl, .reg .que, .reg .acq, .reg .dio, .reg .err, .sets, .bulk, .log, .knl, .que, .axes, .prf, .pwm, .drn, .probes, .acq] m = true) : Keeps m s0 (State.fault n cause sub src s) := by
  unfold State.fault
  try dsimp only
  repeat' with_reducible first
    | exact h
    | refine keeps_ite (fun _ => ?_) (fun _ => ?_)
    | refine State.faultWith_keeps ?_ (within_trans hm (by decide))
    | refine keeps_pair (by assumption) ?_
    | split

theorem State.hardFault_keeps {n cause sub src code} (h : Keeps m s0 s) (hm : within [.reg .prf, .reg .eng, .reg .csf, .reg .fbk, .reg .pwm, .reg .knl, .reg .que, .reg .acq, .reg .dio, .reg .err, .sets, .bulk, .log, .knl, .que, .axes, .prf, .pwm, .drn, .probes, .acq] m = true) : Keeps m s0 (State.hardFault n cause sub src code s) := by
  unfold State.hardFault
  try dsimp only
  repeat' with_reducible first
    | exact h
    | refine keeps_ite (fun _ => ?_) (fun _ => ?_)
    | refine State.faultWith_keeps ?_ (within_trans hm (by decide))
    | refine State.torqueOff_keeps ?_ (within_trans hm (by decide))
    | refine keeps_pair (by assumption) ?_
    | split

theorem State.feedbackFault_keeps {a code src} (h : Keeps m s0 s) (hm : within [.reg .prf, .reg .eng, .reg .csf, .reg .fbk, .reg .pwm, .reg .knl, .reg .que, .reg .acq, .reg .dio, .reg .err, .sets, .bulk, .log, .knl, .que, .axes, .prf, .pwm, .drn, .probes, .acq] m = true) : Keeps m s0 (State.feedbackFault a code src s) := by
  unfold State.feedbackFault
  try dsimp only
  repeat' with_reducible first
    | exact h
    | refine keeps_ite (fun _ => ?_) (fun _ => ?_)
    | refine State.fault_keeps ?_ (within_trans hm (by decide))
    | refine State.onAxis_keeps ?_ (within_trans hm (by decide))
    | refine keeps_pair (by assumption) ?_
    | split

theorem State.guardEnd_keeps {cause isl} (h : Keeps m s0 s) (hm : within [.reg .prf, .reg .eng, .reg .csf, .reg .fbk, .reg .pwm, .reg .knl, .reg .que, .reg .acq, .reg .dio, .reg .err, .sets, .bulk, .log, .knl, .que, .pow, .axes, .prf, .pwm, .drn, .probes, .acq] m = true) : Keeps m s0 (State.guardEnd cause isl s) := by
  unfold State.guardEnd
  try dsimp only
  repeat' with_reducible first
    | exact h
    | refine keeps_ite (fun _ => ?_) (fun _ => ?_)
    | refine State.onPow_keeps ?_ (within_trans hm (by decide))
    | refine State.wr_keeps (by first | exact ERR_GUARD_CAUSE_blk .. | exact ERR_GUARD_HELD_blk .. | exact ERR_GUARD_ISLAND_HI_blk .. | exact ERR_GUARD_ISL_ISL_blk .. | exact ERR_GUARD_T_blk .. | exact whole_blk (ERR_GUARD_T_blk ..) | (refine blk_ite ?_ ?_ <;> first | exact ERR_GUARD_CAUSE_blk .. | exact ERR_GUARD_HELD_blk .. | exact ERR_GUARD_ISLAND_HI_blk .. | exact ERR_GUARD_ISL_ISL_blk .. | exact ERR_GUARD_T_blk .. | exact whole_blk (ERR_GUARD_T_blk ..))) ?_ (within_trans hm (by decide))
    | refine State.put_keeps (by first | exact ERR_GUARD_CAUSE_blk .. | exact ERR_GUARD_HELD_blk .. | exact ERR_GUARD_ISLAND_HI_blk .. | exact ERR_GUARD_ISL_ISL_blk .. | exact ERR_GUARD_T_blk .. | exact whole_blk (ERR_GUARD_T_blk ..) | (refine blk_ite ?_ ?_ <;> first | exact ERR_GUARD_CAUSE_blk .. | exact ERR_GUARD_HELD_blk .. | exact ERR_GUARD_ISLAND_HI_blk .. | exact ERR_GUARD_ISL_ISL_blk .. | exact ERR_GUARD_T_blk .. | exact whole_blk (ERR_GUARD_T_blk ..))) ?_ (within_trans hm (by decide))
    | refine State.mark_keeps (by first | exact ERR_GUARD_CAUSE_blk .. | exact ERR_GUARD_HELD_blk .. | exact ERR_GUARD_ISLAND_HI_blk .. | exact ERR_GUARD_ISL_ISL_blk .. | exact ERR_GUARD_T_blk .. | exact whole_blk (ERR_GUARD_T_blk ..) | (refine blk_ite ?_ ?_ <;> first | exact ERR_GUARD_CAUSE_blk .. | exact ERR_GUARD_HELD_blk .. | exact ERR_GUARD_ISLAND_HI_blk .. | exact ERR_GUARD_ISL_ISL_blk .. | exact ERR_GUARD_T_blk .. | exact whole_blk (ERR_GUARD_T_blk ..))) ?_ (within_trans hm (by decide))
    | refine State.severe_keeps ?_ (within_trans hm (by decide))
    | refine State.fault_keeps ?_ (within_trans hm (by decide))
    | refine keeps_foldl ?_ _ ?_
    | refine keeps_foldl_snd ?_ _ ?_
    | (intro _ _ h; try dsimp only)
    | refine keeps_pair (by assumption) ?_
    | split

/-! ### Crypto -/

/-! ### Endpoints -/

theorem State.sv_keeps {f} (h : Keeps m s0 s) (hm : within [.svc] m = true) : Keeps m s0 (State.sv f s) := by
  unfold State.sv
  try dsimp only
  repeat' with_reducible first
    | exact h
    | refine keeps_ite (fun _ => ?_) (fun _ => ?_)
    | refine State.onSvc_keeps ?_ (within_trans hm (by decide))
    | refine keeps_pair (by assumption) ?_
    | split

theorem State.svcSend_keeps {w f} (h : Keeps m s0 s) (hm : within [.svc] m = true) : Keeps m s0 (State.svcSend w f s) := by
  unfold State.svcSend
  try dsimp only
  repeat' with_reducible first
    | exact h
    | refine keeps_ite (fun _ => ?_) (fun _ => ?_)
    | refine State.sv_keeps ?_ (within_trans hm (by decide))
    | refine keeps_pair (by assumption) ?_
    | split

theorem State.svReply_keeps {mtype mseq stat data} (h : Keeps m s0 s) (hm : within [.ring] m = true) : Keeps m s0 (State.svReply mtype mseq stat data s) := by
  unfold State.svReply
  try dsimp only
  repeat' with_reducible first
    | exact h
    | refine keeps_ite (fun _ => ?_) (fun _ => ?_)
    | refine State.onRing_keeps ?_ (within_trans hm (by decide))
    | refine keeps_pair (by assumption) ?_
    | split

theorem State.motionDone_keeps {c r} (h : Keeps m s0 s) (hm : within [.ring, .svc] m = true) : Keeps m s0 (State.motionDone c r s) := by
  unfold State.motionDone
  try dsimp only
  repeat' with_reducible first
    | exact h
    | refine keeps_ite (fun _ => ?_) (fun _ => ?_)
    | refine State.sv_keeps ?_ (within_trans hm (by decide))
    | refine State.svReply_keeps ?_ (within_trans hm (by decide))
    | refine State.svcSend_keeps ?_ (within_trans hm (by decide))
    | refine keeps_pair (by assumption) ?_
    | split

theorem State.hostEvent_keeps {e} (h : Keeps m s0 s) (hm : within [.svc] m = true) : Keeps m s0 (State.hostEvent e s) := by
  unfold State.hostEvent
  try dsimp only
  repeat' with_reducible first
    | exact h
    | refine keeps_ite (fun _ => ?_) (fun _ => ?_)
    | refine State.sv_keeps ?_ (within_trans hm (by decide))
    | refine keeps_pair (by assumption) ?_
    | split

/-! ### Queues -/

theorem State.pushResult_keeps {c q busy r} (h : Keeps m s0 s) (hm : within [.reg .que, .ring, .svc] m = true) : Keeps m s0 (State.pushResult c q busy r s) := by
  unfold State.pushResult
  try dsimp only
  repeat' with_reducible first
    | exact h
    | refine keeps_ite (fun _ => ?_) (fun _ => ?_)
    | refine State.put_keeps (by first | exact QUE_PRES_BUSY_blk .. | exact QUE_PRES_Q_blk .. | exact QUE_PRES_RESULT_blk .. | (refine blk_ite ?_ ?_ <;> first | exact QUE_PRES_BUSY_blk .. | exact QUE_PRES_Q_blk .. | exact QUE_PRES_RESULT_blk ..)) ?_ (within_trans hm (by decide))
    | refine State.mark_keeps (by first | exact QUE_PRES_BUSY_blk .. | exact QUE_PRES_Q_blk .. | exact QUE_PRES_RESULT_blk .. | (refine blk_ite ?_ ?_ <;> first | exact QUE_PRES_BUSY_blk .. | exact QUE_PRES_Q_blk .. | exact QUE_PRES_RESULT_blk ..)) ?_ (within_trans hm (by decide))
    | refine State.motionDone_keeps ?_ (within_trans hm (by decide))
    | refine keeps_pair (by assumption) ?_
    | split

theorem State.corePushTry_keeps {c q n} (h : Keeps m s0 s) (hm : within [.reg .knl, .reg .que, .reg .err, .sets, .bulk, .bus, .log, .knl, .que, .ring, .svc] m = true) : Keeps m s0 (State.corePushTry c q n s) := by
  unfold State.corePushTry
  try dsimp only
  repeat' with_reducible first
    | exact h
    | refine keeps_ite (fun _ => ?_) (fun _ => ?_)
    | refine State.accessError_keeps ?_ (within_trans hm (by decide))
    | refine State.tryPush_keeps ?_ (within_trans hm (by decide))
    | refine State.pushResult_keeps ?_ (within_trans hm (by decide))
    | refine keeps_pair (by assumption) ?_
    | split

theorem State.corePushWait_keeps {c q n} (h : Keeps m s0 s) (hm : within [.reg .knl, .reg .que, .reg .err, .sets, .bulk, .bus, .log, .knl, .que, .ring, .svc] m = true) : Keeps m s0 (State.corePushWait c q n s) := by
  unfold State.corePushWait
  try dsimp only
  repeat' with_reducible first
    | exact h
    | refine keeps_ite (fun _ => ?_) (fun _ => ?_)
    | refine State.accessError_keeps ?_ (within_trans hm (by decide))
    | refine State.pushResult_keeps ?_ (within_trans hm (by decide))
    | refine State.onQue_keeps ?_ (within_trans hm (by decide))
    | refine State.enqueue_keeps ?_ (within_trans hm (by decide))
    | refine keeps_pair (by assumption) ?_
    | split

theorem State.acceptWait_keeps {q} (h : Keeps m s0 s) (hm : within [.reg .knl, .reg .que, .sets, .bulk, .knl, .que, .ring, .svc] m = true) : Keeps m s0 (State.acceptWait q s) := by
  unfold State.acceptWait
  try dsimp only
  repeat' with_reducible first
    | exact h
    | refine keeps_ite (fun _ => ?_) (fun _ => ?_)
    | refine State.pushResult_keeps ?_ (within_trans hm (by decide))
    | refine State.onQue_keeps ?_ (within_trans hm (by decide))
    | refine State.enqueue_keeps ?_ (within_trans hm (by decide))
    | refine keeps_pair (by assumption) ?_
    | split

theorem State.cancelPush_keeps {c} (h : Keeps m s0 s) (hm : within [.reg .que, .que, .ring, .svc] m = true) : Keeps m s0 (State.cancelPush c s) := by
  unfold State.cancelPush
  try dsimp only
  repeat' with_reducible first
    | exact h
    | refine keeps_ite (fun _ => ?_) (fun _ => ?_)
    | refine State.pushResult_keeps ?_ (within_trans hm (by decide))
    | refine State.onQue_keeps ?_ (within_trans hm (by decide))
    | refine keeps_pair (by assumption) ?_
    | split

theorem State.popReturn_keeps {r q e} (h : Keeps m s0 s) (hm : within [.bus, .svc] m = true) : Keeps m s0 (State.popReturn r q e s) := by
  unfold State.popReturn
  try dsimp only
  repeat' with_reducible first
    | exact h
    | refine keeps_ite (fun _ => ?_) (fun _ => ?_)
    | refine State.hostEvent_keeps ?_ (within_trans hm (by decide))
    | refine State.onBus_keeps ?_ (within_trans hm (by decide))
    | refine keeps_pair (by assumption) ?_
    | split

theorem State.pop_keeps {who q} (h : Keeps m s0 s) (hm : within [.reg .knl, .reg .que, .reg .err, .sets, .bus, .log, .knl, .que, .svc] m = true) : Keeps m s0 (State.pop who q s) := by
  unfold State.pop
  try dsimp only
  repeat' with_reducible first
    | exact h
    | refine keeps_ite (fun _ => ?_) (fun _ => ?_)
    | refine State.popReturn_keeps ?_ (within_trans hm (by decide))
    | refine State.accessError_keeps ?_ (within_trans hm (by decide))
    | refine State.satBump_keeps (by first | exact QUE_ERR_EMPTY_blk ..) ?_ (within_trans hm (by decide))
    | refine State.onQue_keeps ?_ (within_trans hm (by decide))
    | refine State.spillFetch_keeps ?_ (within_trans hm (by decide))
    | refine State.dequeue_keeps ?_ (within_trans hm (by decide))
    | refine keeps_pair (by assumption) ?_
    | split

theorem State.heldPop_keeps {q} (h : Keeps m s0 s) (hm : within [.reg .knl, .reg .que, .sets, .bus, .knl, .que, .svc] m = true) : Keeps m s0 (State.heldPop q s) := by
  unfold State.heldPop
  try dsimp only
  repeat' with_reducible first
    | exact h
    | refine keeps_ite (fun _ => ?_) (fun _ => ?_)
    | refine State.onQue_keeps ?_ (within_trans hm (by decide))
    | refine State.popReturn_keeps ?_ (within_trans hm (by decide))
    | refine State.satBump_keeps (by first | exact QUE_ERR_EMPTY_blk ..) ?_ (within_trans hm (by decide))
    | refine State.dequeue_keeps ?_ (within_trans hm (by decide))
    | refine keeps_pair (by assumption) ?_
    | split

theorem State.freeBurst_keeps {tag} (h : Keeps m s0 s) (hm : within [.reg .que, .que] m = true) : Keeps m s0 (State.freeBurst tag s) := by
  unfold State.freeBurst
  try dsimp only
  repeat' with_reducible first
    | exact h
    | refine keeps_ite (fun _ => ?_) (fun _ => ?_)
    | refine State.showBursts_keeps ?_ (within_trans hm (by decide))
    | refine State.onQue_keeps ?_ (within_trans hm (by decide))
    | refine keeps_pair (by assumption) ?_
    | split

theorem State.breakQueue_keeps {q lost} (h : Keeps m s0 s) (hm : within [.reg .prf, .reg .eng, .reg .csf, .reg .fbk, .reg .pwm, .reg .knl, .reg .que, .reg .acq, .reg .dio, .reg .err, .sets, .bulk, .log, .knl, .que, .pow, .axes, .prf, .pwm, .drn, .probes, .acq, .ring, .svc] m = true) : Keeps m s0 (State.breakQueue q lost s) := by
  unfold State.breakQueue
  try dsimp only
  repeat' with_reducible first
    | exact h
    | refine keeps_ite (fun _ => ?_) (fun _ => ?_)
    | refine State.guardEnd_keeps ?_ (within_trans hm (by decide))
    | refine State.mark_keeps (by first | exact QUE_CFG_BROKEN_blk ..) ?_ (within_trans hm (by decide))
    | refine State.setDepth_keeps ?_ (within_trans hm (by decide))
    | refine State.pushResult_keeps ?_ (within_trans hm (by decide))
    | refine State.onQue_keeps ?_ (within_trans hm (by decide))
    | refine keeps_foldl ?_ _ ?_
    | refine keeps_foldl_snd ?_ _ ?_
    | (intro _ _ h; try dsimp only)
    | refine keeps_pair (by assumption) ?_
    | split

theorem State.spillRead_keeps {tag ecc} (h : Keeps m s0 s) (hm : within [.reg .prf, .reg .eng, .reg .csf, .reg .fbk, .reg .pwm, .reg .knl, .reg .que, .reg .acq, .reg .dio, .reg .err, .sets, .bulk, .log, .knl, .que, .pow, .axes, .prf, .eng, .pwm, .drn, .probes, .acq, .ring, .svc] m = true) : Keeps m s0 (State.spillRead tag ecc s) := by
  unfold State.spillRead
  try dsimp only
  repeat' with_reducible first
    | exact h
    | refine keeps_ite (fun _ => ?_) (fun _ => ?_)
    | refine State.orphanOp_keeps ?_ (within_trans hm (by decide))
    | refine State.freeBurst_keeps ?_ (within_trans hm (by decide))
    | refine State.breakQueue_keeps ?_ (within_trans hm (by decide))
    | refine State.setQ_keeps ?_ (within_trans hm (by decide))
    | refine State.spillFetch_keeps ?_ (within_trans hm (by decide))
    | refine State.settle_keeps ?_ (within_trans hm (by decide))
    | refine keeps_pair (by assumption) ?_
    | split

theorem State.spillWriteDone_keeps {tag} (h : Keeps m s0 s) (hm : within [.reg .que, .reg .err, .log, .que, .eng] m = true) : Keeps m s0 (State.spillWriteDone tag s) := by
  unfold State.spillWriteDone
  try dsimp only
  repeat' with_reducible first
    | exact h
    | refine keeps_ite (fun _ => ?_) (fun _ => ?_)
    | refine State.orphanOp_keeps ?_ (within_trans hm (by decide))
    | refine State.spillFetch_keeps ?_ (within_trans hm (by decide))
    | refine State.freeBurst_keeps ?_ (within_trans hm (by decide))
    | refine keeps_pair (by assumption) ?_
    | split

theorem State.spillTail_keeps {q} (h : Keeps m s0 s) (hm : within [.reg .que, .bulk, .que] m = true) : Keeps m s0 (State.spillTail q s) := by
  unfold State.spillTail
  try dsimp only
  repeat' with_reducible first
    | exact h
    | refine keeps_ite (fun _ => ?_) (fun _ => ?_)
    | refine State.settle_keeps ?_ (within_trans hm (by decide))
    | refine State.spillFetch_keeps ?_ (within_trans hm (by decide))
    | refine State.spillWrite_keeps ?_ (within_trans hm (by decide))
    | refine keeps_pair (by assumption) ?_
    | split

theorem State.flush_keeps {q} (h : Keeps m s0 s) (hm : within [.reg .knl, .reg .que, .sets, .bus, .knl, .que, .svc] m = true) : Keeps m s0 (State.flush q s) := by
  unfold State.flush
  try dsimp only
  repeat' with_reducible first
    | exact h
    | refine keeps_ite (fun _ => ?_) (fun _ => ?_)
    | refine State.setQ_keeps ?_ (within_trans hm (by decide))
    | refine State.onQue_keeps ?_ (within_trans hm (by decide))
    | refine State.setDepth_keeps ?_ (within_trans hm (by decide))
    | refine State.wr_keeps (by first | exact QUE_POPC_blk .. | exact whole_blk (QUE_POPC_blk ..)) ?_ (within_trans hm (by decide))
    | refine State.popReturn_keeps ?_ (within_trans hm (by decide))
    | refine keeps_foldl ?_ _ ?_
    | refine keeps_foldl_snd ?_ _ ?_
    | (intro _ _ h; try dsimp only)
    | refine keeps_pair (by assumption) ?_
    | split

theorem State.coreFlush_keeps {c q} (h : Keeps m s0 s) (hm : within [.reg .knl, .reg .que, .reg .err, .sets, .bus, .log, .knl, .que, .svc] m = true) : Keeps m s0 (State.coreFlush c q s) := by
  unfold State.coreFlush
  try dsimp only
  repeat' with_reducible first
    | exact h
    | refine keeps_ite (fun _ => ?_) (fun _ => ?_)
    | refine State.flush_keeps ?_ (within_trans hm (by decide))
    | refine State.accessError_keeps ?_ (within_trans hm (by decide))
    | refine keeps_pair (by assumption) ?_
    | split

theorem execTryingPush_keeps {dt c q n} {t} (e : execTryingPush dt c q n s = .next t) : Keeps [.reg .knl, .reg .que, .reg .err, .sets, .clk, .bulk, .bus, .log, .knl, .que, .ring, .svc] s t := by
  have hm := within_refl [.reg .knl, .reg .que, .reg .err, .sets, .clk, .bulk, .bus, .log, .knl, .que, .ring, .svc]
  have h := Keeps.refl [.reg .knl, .reg .que, .reg .err, .sets, .clk, .bulk, .bus, .log, .knl, .que, .ring, .svc] s
  simp only [execTryingPush, Host.Outcome.next.injEq] at e
  subst e
  repeat' with_reducible first
    | exact h
    | refine keeps_ite (fun _ => ?_) (fun _ => ?_)
    | refine State.corePushTry_keeps ?_ (within_trans hm (by decide))
    | refine State.elapse_keeps ?_ (within_trans hm (by decide))
    | refine keeps_pair (by assumption) ?_
    | split

theorem execWaitingPush_keeps {dt c q n} {t} (e : execWaitingPush dt c q n s = .next t) : Keeps [.reg .knl, .reg .que, .reg .err, .sets, .clk, .bulk, .bus, .log, .knl, .que, .ring, .svc] s t := by
  have hm := within_refl [.reg .knl, .reg .que, .reg .err, .sets, .clk, .bulk, .bus, .log, .knl, .que, .ring, .svc]
  have h := Keeps.refl [.reg .knl, .reg .que, .reg .err, .sets, .clk, .bulk, .bus, .log, .knl, .que, .ring, .svc] s
  simp only [execWaitingPush, Host.Outcome.next.injEq] at e
  subst e
  repeat' with_reducible first
    | exact h
    | refine keeps_ite (fun _ => ?_) (fun _ => ?_)
    | refine State.corePushWait_keeps ?_ (within_trans hm (by decide))
    | refine State.elapse_keeps ?_ (within_trans hm (by decide))
    | refine keeps_pair (by assumption) ?_
    | split

theorem execWaitingPushAccept_keeps {dt q} {t} (e : execWaitingPushAccept dt q s = .next t) : Keeps [.reg .knl, .reg .que, .sets, .clk, .bulk, .knl, .que, .ring, .svc] s t := by
  have hm := within_refl [.reg .knl, .reg .que, .sets, .clk, .bulk, .knl, .que, .ring, .svc]
  have h := Keeps.refl [.reg .knl, .reg .que, .sets, .clk, .bulk, .knl, .que, .ring, .svc] s
  simp only [execWaitingPushAccept, Host.Outcome.next.injEq] at e
  subst e
  repeat' with_reducible first
    | exact h
    | refine keeps_ite (fun _ => ?_) (fun _ => ?_)
    | refine State.acceptWait_keeps ?_ (within_trans hm (by decide))
    | refine State.elapse_keeps ?_ (within_trans hm (by decide))
    | refine keeps_pair (by assumption) ?_
    | split

theorem execPushCancel_keeps {dt c} {t} (e : execPushCancel dt c s = .next t) : Keeps [.reg .que, .sets, .clk, .que, .ring, .svc] s t := by
  have hm := within_refl [.reg .que, .sets, .clk, .que, .ring, .svc]
  have h := Keeps.refl [.reg .que, .sets, .clk, .que, .ring, .svc] s
  simp only [execPushCancel, Host.Outcome.next.injEq] at e
  subst e
  repeat' with_reducible first
    | exact h
    | refine keeps_ite (fun _ => ?_) (fun _ => ?_)
    | refine State.cancelPush_keeps ?_ (within_trans hm (by decide))
    | refine State.elapse_keeps ?_ (within_trans hm (by decide))
    | refine keeps_pair (by assumption) ?_
    | split

theorem execPop_keeps {dt who q} {t} (e : execPop dt who q s = .next t) : Keeps [.reg .knl, .reg .que, .reg .err, .sets, .clk, .bus, .log, .knl, .que, .svc] s t := by
  have hm := within_refl [.reg .knl, .reg .que, .reg .err, .sets, .clk, .bus, .log, .knl, .que, .svc]
  have h := Keeps.refl [.reg .knl, .reg .que, .reg .err, .sets, .clk, .bus, .log, .knl, .que, .svc] s
  simp only [execPop, Host.Outcome.next.injEq] at e
  subst e
  repeat' with_reducible first
    | exact h
    | refine keeps_ite (fun _ => ?_) (fun _ => ?_)
    | refine State.pop_keeps ?_ (within_trans hm (by decide))
    | refine State.elapse_keeps ?_ (within_trans hm (by decide))
    | refine keeps_pair (by assumption) ?_
    | split

theorem execHeldPopComplete_keeps {dt q} {t} (e : execHeldPopComplete dt q s = .next t) : Keeps [.reg .knl, .reg .que, .sets, .clk, .bus, .knl, .que, .svc] s t := by
  have hm := within_refl [.reg .knl, .reg .que, .sets, .clk, .bus, .knl, .que, .svc]
  have h := Keeps.refl [.reg .knl, .reg .que, .sets, .clk, .bus, .knl, .que, .svc] s
  simp only [execHeldPopComplete, Host.Outcome.next.injEq] at e
  subst e
  repeat' with_reducible first
    | exact h
    | refine keeps_ite (fun _ => ?_) (fun _ => ?_)
    | refine State.heldPop_keeps ?_ (within_trans hm (by decide))
    | refine State.elapse_keeps ?_ (within_trans hm (by decide))
    | refine keeps_pair (by assumption) ?_
    | split

theorem execSpillWrite_keeps {dt q} {t} (e : execSpillWrite dt q s = .next t) : Keeps [.reg .que, .sets, .clk, .bulk, .que] s t := by
  have hm := within_refl [.reg .que, .sets, .clk, .bulk, .que]
  have h := Keeps.refl [.reg .que, .sets, .clk, .bulk, .que] s
  simp only [execSpillWrite, Host.Outcome.next.injEq] at e
  subst e
  repeat' with_reducible first
    | exact h
    | refine keeps_ite (fun _ => ?_) (fun _ => ?_)
    | refine State.spillTail_keeps ?_ (within_trans hm (by decide))
    | refine State.elapse_keeps ?_ (within_trans hm (by decide))
    | refine keeps_pair (by assumption) ?_
    | split

theorem execSpillWriteComplete_keeps {dt tag} {t} (e : execSpillWriteComplete dt tag s = .next t) : Keeps [.reg .que, .reg .err, .sets, .clk, .log, .que, .eng] s t := by
  have hm := within_refl [.reg .que, .reg .err, .sets, .clk, .log, .que, .eng]
  have h := Keeps.refl [.reg .que, .reg .err, .sets, .clk, .log, .que, .eng] s
  simp only [execSpillWriteComplete, Host.Outcome.next.injEq] at e
  subst e
  repeat' with_reducible first
    | exact h
    | refine keeps_ite (fun _ => ?_) (fun _ => ?_)
    | refine State.spillWriteDone_keeps ?_ (within_trans hm (by decide))
    | refine State.elapse_keeps ?_ (within_trans hm (by decide))
    | refine keeps_pair (by assumption) ?_
    | split

theorem execFlush_keeps {dt c q} {t} (e : execFlush dt c q s = .next t) : Keeps [.reg .knl, .reg .que, .reg .err, .sets, .clk, .bus, .log, .knl, .que, .svc] s t := by
  have hm := within_refl [.reg .knl, .reg .que, .reg .err, .sets, .clk, .bus, .log, .knl, .que, .svc]
  have h := Keeps.refl [.reg .knl, .reg .que, .reg .err, .sets, .clk, .bus, .log, .knl, .que, .svc] s
  simp only [execFlush, Host.Outcome.next.injEq] at e
  subst e
  repeat' with_reducible first
    | exact h
    | refine keeps_ite (fun _ => ?_) (fun _ => ?_)
    | refine State.coreFlush_keeps ?_ (within_trans hm (by decide))
    | refine State.elapse_keeps ?_ (within_trans hm (by decide))
    | refine keeps_pair (by assumption) ?_
    | split

end Sys2Proof.Machine
end

