-- ==== Sys2Proof/Laws/KeepsAxes.lean ====
section
/-! SUPPORT. What each operation and command of Feedback, Contexts, AxisCtl, Probes, Dio, Program, AxisCheck, Limits, Sense, Encoders, Darner, Pwm leaves alone. -/

namespace Sys2Proof.Machine

set_option linter.unusedTactic false
set_option linter.unreachableTactic false
set_option maxRecDepth 4000

variable {m : List Part} {s0 s : State}

/-! ### Feedback -/

theorem State.onPort_keeps {p f} (h : Keeps m s0 s) (hm : within [.ports] m = true) : Keeps m s0 (State.onPort p f s) := by
  unfold State.onPort
  try dsimp only
  repeat' with_reducible first
    | exact h
    | refine keeps_ite (fun _ => ?_) (fun _ => ?_)
    | refine State.onPorts_keeps ?_ (within_trans hm (by decide))
    | refine keeps_pair (by assumption) ?_
    | split

theorem State.portFault_keeps {p code src} (h : Keeps m s0 s) (hm : within [.reg .prf, .reg .eng, .reg .csf, .reg .fbk, .reg .pwm, .reg .knl, .reg .que, .reg .acq, .reg .dio, .reg .err, .sets, .bulk, .log, .knl, .que, .axes, .prf, .pwm, .drn, .probes, .acq] m = true) : Keeps m s0 (s.portFault p code src) := by
  unfold State.portFault
  extract_lets s1 s2
  have h1 : Keeps m s0 s1 := State.put_keeps (by first | exact FBK_PST_FAULT_blk .. | exact FBK_PST_LASTERR_blk .. | (refine blk_ite ?_ ?_ <;> first | exact FBK_PST_FAULT_blk .. | exact FBK_PST_LASTERR_blk ..)) (State.latch_keeps (by first | exact FBK_PST_FAULT_blk .. | exact FBK_PST_LASTERR_blk .. | (refine blk_ite ?_ ?_ <;> first | exact FBK_PST_FAULT_blk .. | exact FBK_PST_LASTERR_blk ..)) h (within_trans hm (by decide))) (within_trans hm (by decide))
  have h2 : Keeps m s0 s2 := keeps_ite (fun _ => State.masterLost_keeps h1 (within_trans hm (by decide))) (fun _ => h1)
  clear_value s2
  split
  · exact State.feedbackFault_keeps h2 (within_trans hm (by decide))
  · exact h2

theorem State.readFail_keeps {p code} (h : Keeps m s0 s) (hm : within [.reg .prf, .reg .eng, .reg .csf, .reg .fbk, .reg .pwm, .reg .knl, .reg .que, .reg .acq, .reg .dio, .reg .err, .sets, .bulk, .log, .knl, .que, .axes, .prf, .pwm, .drn, .ports, .probes, .acq] m = true) : Keeps m s0 (State.readFail p code s) := by
  unfold State.readFail
  try dsimp only
  repeat' with_reducible first
    | exact h
    | refine keeps_ite (fun _ => ?_) (fun _ => ?_)
    | refine State.put_keeps (by first | exact FBK_PST_CONS_blk .. | exact FBK_PST_EXT_blk .. | exact FBK_PST_LASTERR_blk .. | exact FBK_PST_TOTAL_blk .. | (refine blk_ite ?_ ?_ <;> first | exact FBK_PST_CONS_blk .. | exact FBK_PST_EXT_blk .. | exact FBK_PST_LASTERR_blk .. | exact FBK_PST_TOTAL_blk ..)) ?_ (within_trans hm (by decide))
    | refine State.bump_keeps (by first | exact FBK_PST_CONS_blk .. | exact FBK_PST_EXT_blk .. | exact FBK_PST_LASTERR_blk .. | exact FBK_PST_TOTAL_blk .. | (refine blk_ite ?_ ?_ <;> first | exact FBK_PST_CONS_blk .. | exact FBK_PST_EXT_blk .. | exact FBK_PST_LASTERR_blk .. | exact FBK_PST_TOTAL_blk ..)) ?_ (within_trans hm (by decide))
    | refine State.satBump_keeps (by first | exact FBK_PST_CONS_blk .. | exact FBK_PST_EXT_blk .. | exact FBK_PST_LASTERR_blk .. | exact FBK_PST_TOTAL_blk .. | (refine blk_ite ?_ ?_ <;> first | exact FBK_PST_CONS_blk .. | exact FBK_PST_EXT_blk .. | exact FBK_PST_LASTERR_blk .. | exact FBK_PST_TOTAL_blk ..)) ?_ (within_trans hm (by decide))
    | refine State.onPort_keeps ?_ (within_trans hm (by decide))
    | refine State.mark_keeps (by first | exact FBK_PST_CONS_blk .. | exact FBK_PST_EXT_blk .. | exact FBK_PST_LASTERR_blk .. | exact FBK_PST_TOTAL_blk .. | (refine blk_ite ?_ ?_ <;> first | exact FBK_PST_CONS_blk .. | exact FBK_PST_EXT_blk .. | exact FBK_PST_LASTERR_blk .. | exact FBK_PST_TOTAL_blk ..)) ?_ (within_trans hm (by decide))
    | refine State.portFault_keeps ?_ (within_trans hm (by decide))
    | refine keeps_pair (by assumption) ?_
    | split

theorem State.goodRead_keeps {p y cyclic} (h : Keeps m s0 s) (hm : within [.reg .prf, .reg .eng, .reg .csf, .reg .fbk, .reg .pwm, .reg .knl, .reg .que, .reg .acq, .reg .dio, .reg .err, .sets, .bulk, .log, .knl, .que, .axes, .prf, .pwm, .drn, .ports, .probes, .acq] m = true) : Keeps m s0 (State.goodRead p y cyclic s) := by
  unfold State.goodRead
  try dsimp only
  repeat' with_reducible first
    | exact h
    | refine keeps_ite (fun _ => ?_) (fun _ => ?_)
    | refine State.readFail_keeps ?_ (within_trans hm (by decide))
    | refine State.mark_keeps (by first | exact FBK_PRAW_blk .. | exact whole_blk (FBK_PRAW_blk ..) | exact FBK_PST_CONS_blk .. | exact FBK_PST_VALID_blk .. | (refine blk_ite ?_ ?_ <;> first | exact FBK_PRAW_blk .. | exact whole_blk (FBK_PRAW_blk ..) | exact FBK_PST_CONS_blk .. | exact FBK_PST_VALID_blk ..)) ?_ (within_trans hm (by decide))
    | refine State.put_keeps (by first | exact FBK_PRAW_blk .. | exact whole_blk (FBK_PRAW_blk ..) | exact FBK_PST_CONS_blk .. | exact FBK_PST_VALID_blk .. | (refine blk_ite ?_ ?_ <;> first | exact FBK_PRAW_blk .. | exact whole_blk (FBK_PRAW_blk ..) | exact FBK_PST_CONS_blk .. | exact FBK_PST_VALID_blk ..)) ?_ (within_trans hm (by decide))
    | refine State.onPort_keeps ?_ (within_trans hm (by decide))
    | refine State.wr64_keeps (by first | exact FBK_PRAW_blk .. | exact whole_blk (FBK_PRAW_blk ..) | exact FBK_PST_CONS_blk .. | exact FBK_PST_VALID_blk .. | (refine blk_ite ?_ ?_ <;> first | exact FBK_PRAW_blk .. | exact whole_blk (FBK_PRAW_blk ..) | exact FBK_PST_CONS_blk .. | exact FBK_PST_VALID_blk ..)) ?_ (within_trans hm (by decide))
    | refine keeps_pair (by assumption) ?_
    | split

theorem State.sendAfven_keeps {p code addr data} (h : Keeps m s0 s) (hm : within [.ports] m = true) : Keeps m s0 (State.sendAfven p code addr data s) := by
  unfold State.sendAfven
  try dsimp only
  repeat' with_reducible first
    | exact h
    | refine keeps_ite (fun _ => ?_) (fun _ => ?_)
    | refine State.onPort_keeps ?_ (within_trans hm (by decide))
    | refine keeps_pair (by assumption) ?_
    | split

theorem State.encWarn_keeps {p st} (h : Keeps m s0 s) (hm : within [.reg .fbk, .reg .err, .sets, .log] m = true) : Keeps m s0 (State.encWarn p st s) := by
  unfold State.encWarn
  try dsimp only
  repeat' with_reducible first
    | exact h
    | refine keeps_ite (fun _ => ?_) (fun _ => ?_)
    | refine State.raise_keeps (by first | exact FBK_PST_WARN_blk ..) ?_ (within_trans hm (by decide))
    | refine keeps_pair (by assumption) ?_
    | split

theorem State.readPort_keeps {p f temp cyclic} (h : Keeps m s0 s) (hm : within [.reg .prf, .reg .eng, .reg .csf, .reg .fbk, .reg .pwm, .reg .knl, .reg .que, .reg .acq, .reg .dio, .reg .err, .sets, .bulk, .log, .knl, .que, .axes, .prf, .pwm, .drn, .ports, .probes, .acq] m = true) : Keeps m s0 (State.readPort p f temp cyclic s) := by
  unfold State.readPort
  try dsimp only
  repeat' with_reducible first
    | exact h
    | refine keeps_ite (fun _ => ?_) (fun _ => ?_)
    | refine State.goodRead_keeps ?_ (within_trans hm (by decide))
    | refine State.readFail_keeps ?_ (within_trans hm (by decide))
    | refine State.sendAfven_keeps ?_ (within_trans hm (by decide))
    | refine State.encWarn_keeps ?_ (within_trans hm (by decide))
    | refine keeps_pair (by assumption) ?_
    | split

theorem State.identPort_keeps {p f rtd} (h : Keeps m s0 s) (hm : within [.reg .fbk, .reg .err, .sets, .log, .ports] m = true) : Keeps m s0 (State.identPort p f rtd s).2 := by
  unfold State.identPort
  try dsimp only
  repeat' with_reducible first
    | exact h
    | refine keeps_ite (fun _ => ?_) (fun _ => ?_)
    | refine State.sendAfven_keeps ?_ (within_trans hm (by decide))
    | refine State.wr_keeps (by first | exact FBK_AID_blk .. | exact whole_blk (FBK_AID_blk ..) | exact FBK_RTD_blk .. | exact whole_blk (FBK_RTD_blk ..) | (refine blk_ite ?_ ?_ <;> first | exact FBK_AID_blk .. | exact whole_blk (FBK_AID_blk ..) | exact FBK_RTD_blk .. | exact whole_blk (FBK_RTD_blk ..))) ?_ (within_trans hm (by decide))
    | refine State.encWarn_keeps ?_ (within_trans hm (by decide))
    | refine keeps_pair (by assumption) ?_
    | split

theorem State.showPos_keeps {p} (h : Keeps m s0 s) (hm : within [.reg .fbk] m = true) : Keeps m s0 (State.showPos p s) := by
  unfold State.showPos
  try dsimp only
  repeat' with_reducible first
    | exact h
    | refine keeps_ite (fun _ => ?_) (fun _ => ?_)
    | refine State.wr64S_keeps (by first | exact FBK_PPOS_blk .. | exact whole_blk (FBK_PPOS_blk ..)) ?_ (within_trans hm (by decide))
    | refine keeps_pair (by assumption) ?_
    | split

theorem State.portBoundary_keeps {p tv} (h : Keeps m s0 s) (hm : within [.reg .fbk, .ports] m = true) : Keeps m s0 (State.portBoundary p tv s) := by
  unfold State.portBoundary
  try dsimp only
  repeat' with_reducible first
    | exact h
    | refine keeps_ite (fun _ => ?_) (fun _ => ?_)
    | refine State.onPort_keeps ?_ (within_trans hm (by decide))
    | refine State.showPos_keeps ?_ (within_trans hm (by decide))
    | refine State.mark_keeps (by first | exact FBK_PST_EXT_blk ..) ?_ (within_trans hm (by decide))
    | refine keeps_pair (by assumption) ?_
    | split

/-! ### Contexts -/

theorem State.loadParam_keeps {a} (h : Keeps m s0 s) (hm : within [.eng] m = true) : Keeps m s0 (State.loadParam a s) := by
  unfold State.loadParam
  try dsimp only
  repeat' with_reducible first
    | exact h
    | refine keeps_ite (fun _ => ?_) (fun _ => ?_)
    | refine State.onCx_keeps ?_ (within_trans hm (by decide))
    | refine keeps_foldl ?_ _ ?_
    | refine keeps_foldl_snd ?_ _ ?_
    | (intro _ _ h; try dsimp only)
    | refine keeps_pair (by assumption) ?_
    | split

theorem State.applyContext_keeps {a} (h : Keeps m s0 s) (hm : within [.eng] m = true) : Keeps m s0 (State.applyContext a s) := by
  unfold State.applyContext
  try dsimp only
  repeat' with_reducible first
    | exact h
    | refine keeps_ite (fun _ => ?_) (fun _ => ?_)
    | refine State.onCx_keeps ?_ (within_trans hm (by decide))
    | refine State.loadParam_keeps ?_ (within_trans hm (by decide))
    | refine keeps_pair (by assumption) ?_
    | split

theorem State.setPreset_keeps {a} (h : Keeps m s0 s) (hm : within [.reg .eng, .eng] m = true) : Keeps m s0 (State.setPreset a s) := by
  unfold State.setPreset
  try dsimp only
  repeat' with_reducible first
    | exact h
    | refine keeps_ite (fun _ => ?_) (fun _ => ?_)
    | refine State.onCx_keeps ?_ (within_trans hm (by decide))
    | refine State.mark_keeps (by first | exact ENG_CST_PRECUR_blk .. | exact ENG_CST_PREPOS_blk .. | exact ENG_CST_PREVEL_blk .. | (refine blk_ite ?_ ?_ <;> first | exact ENG_CST_PRECUR_blk .. | exact ENG_CST_PREPOS_blk .. | exact ENG_CST_PREVEL_blk ..)) ?_ (within_trans hm (by decide))
    | refine keeps_pair (by assumption) ?_
    | split

theorem State.handOverEnable_keeps {a} (h : Keeps m s0 s) (hm : within [.fresh, .axes, .eng] m = true) : Keeps m s0 (State.handOverEnable a s) := by
  unfold State.handOverEnable
  try dsimp only
  repeat' with_reducible first
    | exact h
    | refine keeps_ite (fun _ => ?_) (fun _ => ?_)
    | refine State.onAxis_keeps ?_ (within_trans hm (by decide))
    | refine State.onCx_keeps ?_ (within_trans hm (by decide))
    | refine State.drew_keeps ?_ (within_trans hm (by decide))
    | refine keeps_pair (by assumption) ?_
    | split

theorem State.handOverCommit_keeps {a} (h : Keeps m s0 s) (hm : within [.fresh, .eng] m = true) : Keeps m s0 (State.handOverCommit a s) := by
  unfold State.handOverCommit
  try dsimp only
  repeat' with_reducible first
    | exact h
    | refine keeps_ite (fun _ => ?_) (fun _ => ?_)
    | refine State.onCx_keeps ?_ (within_trans hm (by decide))
    | refine State.drew_keeps ?_ (within_trans hm (by decide))
    | refine keeps_pair (by assumption) ?_
    | split

theorem State.sheepPending_keeps {a} (h : Keeps m s0 s) (hm : within [.reg .prf, .reg .eng, .shp] m = true) : Keeps m s0 (State.sheepPending a s) := by
  unfold State.sheepPending
  try dsimp only
  repeat' with_reducible first
    | exact h
    | refine keeps_ite (fun _ => ?_) (fun _ => ?_)
    | refine State.mark_keeps (by first | exact ENG_SRES_blk .. | exact whole_blk (ENG_SRES_blk ..) | exact ENG_SST_SETTLE_blk .. | exact ENG_SST_STATE_blk .. | exact PRF_AXST_SDPEND_blk .. | (refine blk_ite ?_ ?_ <;> first | exact ENG_SRES_blk .. | exact whole_blk (ENG_SRES_blk ..) | exact ENG_SST_SETTLE_blk .. | exact ENG_SST_STATE_blk .. | exact PRF_AXST_SDPEND_blk ..)) ?_ (within_trans hm (by decide))
    | refine State.put_keeps (by first | exact ENG_SRES_blk .. | exact whole_blk (ENG_SRES_blk ..) | exact ENG_SST_SETTLE_blk .. | exact ENG_SST_STATE_blk .. | exact PRF_AXST_SDPEND_blk .. | (refine blk_ite ?_ ?_ <;> first | exact ENG_SRES_blk .. | exact whole_blk (ENG_SRES_blk ..) | exact ENG_SST_SETTLE_blk .. | exact ENG_SST_STATE_blk .. | exact PRF_AXST_SDPEND_blk ..)) ?_ (within_trans hm (by decide))
    | refine State.onShp_keeps ?_ (within_trans hm (by decide))
    | refine State.wr_keeps (by first | exact ENG_SRES_blk .. | exact whole_blk (ENG_SRES_blk ..) | exact ENG_SST_SETTLE_blk .. | exact ENG_SST_STATE_blk .. | exact PRF_AXST_SDPEND_blk .. | (refine blk_ite ?_ ?_ <;> first | exact ENG_SRES_blk .. | exact whole_blk (ENG_SRES_blk ..) | exact ENG_SST_SETTLE_blk .. | exact ENG_SST_STATE_blk .. | exact PRF_AXST_SDPEND_blk ..)) ?_ (within_trans hm (by decide))
    | refine keeps_pair (by assumption) ?_
    | split

theorem State.presetInertia_keeps {a} (h : Keeps m s0 s) (hm : within [.reg .eng, .ine] m = true) : Keeps m s0 (State.presetInertia a s) := by
  unfold State.presetInertia
  try dsimp only
  repeat' with_reducible first
    | exact h
    | refine keeps_ite (fun _ => ?_) (fun _ => ?_)
    | refine State.onIne_keeps ?_ (within_trans hm (by decide))
    | refine State.put_keeps (by first | exact ENG_JEST_JEST_blk .. | exact ENG_JEST_JOFS_blk .. | (refine blk_ite ?_ ?_ <;> first | exact ENG_JEST_JEST_blk .. | exact ENG_JEST_JOFS_blk ..)) ?_ (within_trans hm (by decide))
    | refine keeps_pair (by assumption) ?_
    | split

theorem State.tagDarner_keeps {n} (h : Keeps m s0 s) (hm : within [.reg .prf] m = true) : Keeps m s0 (State.tagDarner n s) := by
  unfold State.tagDarner
  try dsimp only
  repeat' with_reducible first
    | exact h
    | refine keeps_ite (fun _ => ?_) (fun _ => ?_)
    | refine State.put_keeps (by first | exact PRF_AXGEN_DGEN_blk ..) ?_ (within_trans hm (by decide))
    | refine keeps_pair (by assumption) ?_
    | split

theorem State.showDarner_keeps {a} (h : Keeps m s0 s) (hm : within [.reg .eng] m = true) : Keeps m s0 (State.showDarner a s) := by
  unfold State.showDarner
  try dsimp only
  repeat' with_reducible first
    | exact h
    | refine keeps_ite (fun _ => ?_) (fun _ => ?_)
    | refine State.put_keeps (by first | exact ENG_DST_RAMP_blk .. | exact ENG_DST_STATE_blk .. | (refine blk_ite ?_ ?_ <;> first | exact ENG_DST_RAMP_blk .. | exact ENG_DST_STATE_blk ..)) ?_ (within_trans hm (by decide))
    | refine State.mark_keeps (by first | exact ENG_DST_RAMP_blk .. | exact ENG_DST_STATE_blk .. | (refine blk_ite ?_ ?_ <;> first | exact ENG_DST_RAMP_blk .. | exact ENG_DST_STATE_blk ..)) ?_ (within_trans hm (by decide))
    | refine keeps_pair (by assumption) ?_
    | split

theorem State.revalidate_keeps {n} (h : Keeps m s0 s) (hm : within [.reg .prf, .reg .eng, .axes, .drn] m = true) : Keeps m s0 (State.revalidate n s) := by
  unfold State.revalidate
  try dsimp only
  repeat' with_reducible first
    | exact h
    | refine keeps_ite (fun _ => ?_) (fun _ => ?_)
    | refine State.onAxis_keeps ?_ (within_trans hm (by decide))
    | refine State.put_keeps (by first | exact ENG_BAND_HYST_blk .. | exact ENG_BAND_MINDW_blk .. | exact ENG_CST_CGEN_blk .. | (refine blk_ite ?_ ?_ <;> first | exact ENG_BAND_HYST_blk .. | exact ENG_BAND_MINDW_blk .. | exact ENG_CST_CGEN_blk ..)) ?_ (within_trans hm (by decide))
    | refine State.tagDarner_keeps ?_ (within_trans hm (by decide))
    | refine State.emptyDarner_keeps ?_ (within_trans hm (by decide))
    | refine keeps_pair (by assumption) ?_
    | split

theorem State.stepFive_keeps {a} (h : Keeps m s0 s) (hm : within [.reg .dio, .axes] m = true) : Keeps m s0 (State.stepFive a s) := by
  unfold State.stepFive
  try dsimp only
  repeat' with_reducible first
    | exact h
    | refine keeps_ite (fun _ => ?_) (fun _ => ?_)
    | refine State.onAxis_keeps ?_ (within_trans hm (by decide))
    | refine State.setBrake_keeps ?_ (within_trans hm (by decide))
    | refine keeps_pair (by assumption) ?_
    | split

theorem State.finishEnable_keeps {a} (h : Keeps m s0 s) (hm : within [.reg .prf, .reg .eng, .reg .csf, .reg .pwm, .axes, .prf, .eng, .pwm, .shp] m = true) : Keeps m s0 (State.finishEnable a s) := by
  unfold State.finishEnable
  try dsimp only
  repeat' with_reducible first
    | exact h
    | refine keeps_ite (fun _ => ?_) (fun _ => ?_)
    | refine State.onMot_keeps ?_ (within_trans hm (by decide))
    | refine State.wr64S_keeps (by first | exact CSF_CST_ACT_blk .. | exact ENG_CST_RUN_blk .. | exact ENG_STAT_ENABLED_blk .. | exact PRF_SPOS_blk .. | exact whole_blk (PRF_SPOS_blk ..) | exact PRF_SVEL_blk .. | exact whole_blk (PRF_SVEL_blk ..) | exact bandSt_blk .. | (refine blk_ite ?_ ?_ <;> first | exact CSF_CST_ACT_blk .. | exact ENG_CST_RUN_blk .. | exact ENG_STAT_ENABLED_blk .. | exact PRF_SPOS_blk .. | exact whole_blk (PRF_SPOS_blk ..) | exact PRF_SVEL_blk .. | exact whole_blk (PRF_SVEL_blk ..) | exact bandSt_blk ..)) ?_ (within_trans hm (by decide))
    | refine State.put_keeps (by first | exact CSF_CST_ACT_blk .. | exact ENG_CST_RUN_blk .. | exact ENG_STAT_ENABLED_blk .. | exact PRF_SPOS_blk .. | exact whole_blk (PRF_SPOS_blk ..) | exact PRF_SVEL_blk .. | exact whole_blk (PRF_SVEL_blk ..) | exact bandSt_blk .. | (refine blk_ite ?_ ?_ <;> first | exact CSF_CST_ACT_blk .. | exact ENG_CST_RUN_blk .. | exact ENG_STAT_ENABLED_blk .. | exact PRF_SPOS_blk .. | exact whole_blk (PRF_SPOS_blk ..) | exact PRF_SVEL_blk .. | exact whole_blk (PRF_SVEL_blk ..) | exact bandSt_blk ..)) ?_ (within_trans hm (by decide))
    | refine State.loadParam_keeps ?_ (within_trans hm (by decide))
    | refine State.onCx_keeps ?_ (within_trans hm (by decide))
    | refine State.setPreset_keeps ?_ (within_trans hm (by decide))
    | refine State.pwmOn_keeps ?_ (within_trans hm (by decide))
    | refine State.sheepPending_keeps ?_ (within_trans hm (by decide))
    | refine State.mark_keeps (by first | exact CSF_CST_ACT_blk .. | exact ENG_CST_RUN_blk .. | exact ENG_STAT_ENABLED_blk .. | exact PRF_SPOS_blk .. | exact whole_blk (PRF_SPOS_blk ..) | exact PRF_SVEL_blk .. | exact whole_blk (PRF_SVEL_blk ..) | exact bandSt_blk .. | (refine blk_ite ?_ ?_ <;> first | exact CSF_CST_ACT_blk .. | exact ENG_CST_RUN_blk .. | exact ENG_STAT_ENABLED_blk .. | exact PRF_SPOS_blk .. | exact whole_blk (PRF_SPOS_blk ..) | exact PRF_SVEL_blk .. | exact whole_blk (PRF_SVEL_blk ..) | exact bandSt_blk ..)) ?_ (within_trans hm (by decide))
    | refine State.onAxis_keeps ?_ (within_trans hm (by decide))
    | refine State.showSafe_keeps ?_ (within_trans hm (by decide))
    | refine keeps_foldl ?_ _ ?_
    | refine keeps_foldl_snd ?_ _ ?_
    | (intro _ _ h; try dsimp only)
    | refine keeps_pair (by assumption) ?_
    | split

theorem State.afterRead_keeps {a} (h : Keeps m s0 s) (hm : within [.reg .prf, .reg .eng, .reg .csf, .reg .fbk, .reg .pwm, .axes, .prf, .eng, .pwm, .shp, .ports] m = true) : Keeps m s0 (State.afterRead a s) := by
  unfold State.afterRead
  try dsimp only
  repeat' with_reducible first
    | exact h
    | refine keeps_ite (fun _ => ?_) (fun _ => ?_)
    | refine State.mark_keeps (by first | exact PRF_AXST_REF_blk ..) ?_ (within_trans hm (by decide))
    | refine State.onPort_keeps ?_ (within_trans hm (by decide))
    | refine State.portBoundary_keeps ?_ (within_trans hm (by decide))
    | refine State.finishEnable_keeps ?_ (within_trans hm (by decide))
    | refine keeps_pair (by assumption) ?_
    | split

theorem State.enableRead_keeps {a ident rtd first} (h : Keeps m s0 s) (hm : within [.reg .prf, .reg .eng, .reg .csf, .reg .fbk, .reg .pwm, .reg .knl, .reg .que, .reg .acq, .reg .dio, .reg .err, .sets, .bulk, .log, .knl, .que, .axes, .prf, .eng, .pwm, .drn, .shp, .ports, .probes, .acq] m = true) : Keeps m s0 (State.enableRead a ident rtd first s) := by
  unfold State.enableRead
  try dsimp only
  repeat' with_reducible first
    | exact h
    | refine keeps_ite (fun _ => ?_) (fun _ => ?_)
    | refine State.identPort_keeps ?_ (within_trans hm (by decide))
    | refine State.portFault_keeps ?_ (within_trans hm (by decide))
    | refine State.readPort_keeps ?_ (within_trans hm (by decide))
    | refine State.afterRead_keeps ?_ (within_trans hm (by decide))
    | refine keeps_pair (by assumption) ?_
    | split

theorem State.beginEnable_keeps {n} (h : Keeps m s0 s) (hm : within [.reg .prf, .reg .eng, .reg .csf, .reg .fbk, .reg .pwm, .reg .knl, .reg .err, .knl, .axes, .prf, .eng, .pwm, .drn, .shp, .csf, .ports] m = true) : Keeps m s0 (State.beginEnable n s) := by
  unfold State.beginEnable
  try dsimp only
  repeat' with_reducible first
    | exact h
    | refine keeps_ite (fun _ => ?_) (fun _ => ?_)
    | refine State.onAxis_keeps ?_ (within_trans hm (by decide))
    | refine State.enter_keeps ?_ (within_trans hm (by decide))
    | refine State.put_keeps (by first | exact FBK_PST_CONS_blk .. | exact FBK_PST_VALID_blk .. | exact PWR_ISL_STATE_blk .. | (refine blk_ite ?_ ?_ <;> first | exact FBK_PST_CONS_blk .. | exact FBK_PST_VALID_blk .. | exact PWR_ISL_STATE_blk ..)) ?_ (within_trans hm (by decide))
    | refine State.revalidate_keeps ?_ (within_trans hm (by decide))
    | refine State.onCsf_keeps ?_ (within_trans hm (by decide))
    | refine State.onPort_keeps ?_ (within_trans hm (by decide))
    | refine State.mark_keeps (by first | exact FBK_PST_CONS_blk .. | exact FBK_PST_VALID_blk .. | exact PWR_ISL_STATE_blk .. | (refine blk_ite ?_ ?_ <;> first | exact FBK_PST_CONS_blk .. | exact FBK_PST_VALID_blk .. | exact PWR_ISL_STATE_blk ..)) ?_ (within_trans hm (by decide))
    | refine State.afterRead_keeps ?_ (within_trans hm (by decide))
    | refine keeps_foldl ?_ _ ?_
    | refine keeps_foldl_snd ?_ _ ?_
    | (intro _ _ h; try dsimp only)
    | refine keeps_pair (by assumption) ?_
    | split

theorem State.requestEnable_keeps {n} (h : Keeps m s0 s) (hm : within [.reg .prf, .reg .eng, .reg .csf, .reg .fbk, .reg .pwm, .reg .knl, .reg .err, .knl, .axes, .prf, .eng, .pwm, .drn, .shp, .csf, .ports] m = true) : Keeps m s0 (State.requestEnable n s) := by
  unfold State.requestEnable
  try dsimp only
  repeat' with_reducible first
    | exact h
    | refine keeps_ite (fun _ => ?_) (fun _ => ?_)
    | refine State.onAxis_keeps ?_ (within_trans hm (by decide))
    | refine State.put_keeps (by first | exact PRF_AXCTL_REFUSE_blk ..) ?_ (within_trans hm (by decide))
    | refine State.beginEnable_keeps ?_ (within_trans hm (by decide))
    | refine keeps_pair (by assumption) ?_
    | split

/-! ### AxisCtl -/

theorem State.requestDisable_keeps {n} (h : Keeps m s0 s) (hm : within [.reg .prf, .reg .eng, .reg .fbk, .reg .knl, .reg .dio, .knl, .axes, .prf, .probes] m = true) : Keeps m s0 (State.requestDisable n s) := by
  unfold State.requestDisable
  try dsimp only
  repeat' with_reducible first
    | exact h
    | refine keeps_ite (fun _ => ?_) (fun _ => ?_)
    | refine State.put_keeps (by first | exact PRF_AXCTL_REFUSE_blk ..) ?_ (within_trans hm (by decide))
    | refine State.onAxis_keeps ?_ (within_trans hm (by decide))
    | refine State.setBrake_keeps ?_ (within_trans hm (by decide))
    | refine State.enter_keeps ?_ (within_trans hm (by decide))
    | refine State.dropMotion_keeps ?_ (within_trans hm (by decide))
    | refine State.setMode_keeps ?_ (within_trans hm (by decide))
    | refine State.planRamp_keeps ?_ (within_trans hm (by decide))
    | refine keeps_pair (by assumption) ?_
    | split

theorem State.requestReset_keeps {n} (h : Keeps m s0 s) (hm : within [.reg .prf, .reg .eng, .reg .csf, .reg .fbk, .reg .pwm, .reg .knl, .reg .que, .reg .dio, .reg .err, .sets, .bulk, .log, .knl, .que, .axes, .prf, .pwm, .probes] m = true) : Keeps m s0 (State.requestReset n s) := by
  unfold State.requestReset
  try dsimp only
  repeat' with_reducible first
    | exact h
    | refine keeps_ite (fun _ => ?_) (fun _ => ?_)
    | refine State.put_keeps (by first | exact ENG_SST_STATE_blk .. | exact ENG_SST_SUB_blk .. | exact PRF_AXCTL_REFUSE_blk .. | exact PRF_AXST_CAUSE_blk .. | exact PRF_AXST_FCNT_blk .. | exact PRF_AXST_REACT_blk .. | exact PRF_AXST_REF_blk .. | exact PRF_AXST_STOPTO_blk .. | exact PWM_AXST_FLT_blk .. | exact PWM_AXST_RUN_blk .. | (refine blk_ite ?_ ?_ <;> first | exact ENG_SST_STATE_blk .. | exact ENG_SST_SUB_blk .. | exact PRF_AXCTL_REFUSE_blk .. | exact PRF_AXST_CAUSE_blk .. | exact PRF_AXST_FCNT_blk .. | exact PRF_AXST_REACT_blk .. | exact PRF_AXST_REF_blk .. | exact PRF_AXST_STOPTO_blk .. | exact PWM_AXST_FLT_blk .. | exact PWM_AXST_RUN_blk ..)) ?_ (within_trans hm (by decide))
    | refine State.onAxis_keeps ?_ (within_trans hm (by decide))
    | refine State.toDisabled_keeps ?_ (within_trans hm (by decide))
    | refine State.mark_keeps (by first | exact ENG_SST_STATE_blk .. | exact ENG_SST_SUB_blk .. | exact PRF_AXCTL_REFUSE_blk .. | exact PRF_AXST_CAUSE_blk .. | exact PRF_AXST_FCNT_blk .. | exact PRF_AXST_REACT_blk .. | exact PRF_AXST_REF_blk .. | exact PRF_AXST_STOPTO_blk .. | exact PWM_AXST_FLT_blk .. | exact PWM_AXST_RUN_blk .. | (refine blk_ite ?_ ?_ <;> first | exact ENG_SST_STATE_blk .. | exact ENG_SST_SUB_blk .. | exact PRF_AXCTL_REFUSE_blk .. | exact PRF_AXST_CAUSE_blk .. | exact PRF_AXST_FCNT_blk .. | exact PRF_AXST_REACT_blk .. | exact PRF_AXST_REF_blk .. | exact PRF_AXST_STOPTO_blk .. | exact PWM_AXST_FLT_blk .. | exact PWM_AXST_RUN_blk ..)) ?_ (within_trans hm (by decide))
    | refine State.showSafe_keeps ?_ (within_trans hm (by decide))
    | refine keeps_pair (by assumption) ?_
    | split

theorem State.axisRequests_keeps {n enable disable reset} (h : Keeps m s0 s) (hm : within [.reg .prf, .reg .eng, .reg .csf, .reg .fbk, .reg .pwm, .reg .knl, .reg .que, .reg .dio, .reg .err, .sets, .bulk, .log, .knl, .que, .axes, .prf, .eng, .pwm, .drn, .shp, .csf, .ports, .probes] m = true) : Keeps m s0 (State.axisRequests n enable disable reset s) := by
  unfold State.axisRequests
  try dsimp only
  repeat' with_reducible first
    | exact h
    | refine keeps_ite (fun _ => ?_) (fun _ => ?_)
    | refine State.requestDisable_keeps ?_ (within_trans hm (by decide))
    | refine State.requestReset_keeps ?_ (within_trans hm (by decide))
    | refine State.put_keeps (by first | exact PRF_AXCTL_REFUSE_blk ..) ?_ (within_trans hm (by decide))
    | refine State.requestEnable_keeps ?_ (within_trans hm (by decide))
    | refine keeps_pair (by assumption) ?_
    | split

theorem State.brkRel_keeps {n} (h : Keeps m s0 s) (hm : within [.reg .prf, .reg .eng, .reg .knl, .knl, .axes] m = true) : Keeps m s0 (State.brkRel n s) := by
  unfold State.brkRel
  try dsimp only
  repeat' with_reducible first
    | exact h
    | refine keeps_ite (fun _ => ?_) (fun _ => ?_)
    | refine State.enter_keeps ?_ (within_trans hm (by decide))
    | refine State.onAxis_keeps ?_ (within_trans hm (by decide))
    | refine keeps_pair (by assumption) ?_
    | split

theorem State.brkSet_keeps {n} (h : Keeps m s0 s) (hm : within [.reg .prf, .reg .eng, .reg .csf, .reg .fbk, .reg .pwm, .reg .knl, .reg .que, .reg .dio, .reg .err, .sets, .bulk, .log, .knl, .que, .axes, .prf, .pwm, .probes] m = true) : Keeps m s0 (State.brkSet n s) := by
  unfold State.brkSet
  try dsimp only
  repeat' with_reducible first
    | exact h
    | refine keeps_ite (fun _ => ?_) (fun _ => ?_)
    | refine State.toDisabled_keeps ?_ (within_trans hm (by decide))
    | refine keeps_pair (by assumption) ?_
    | split

theorem State.standstill_keeps {n} (h : Keeps m s0 s) (hm : within [.reg .prf, .reg .eng, .reg .csf, .reg .fbk, .reg .pwm, .reg .knl, .reg .dio, .knl, .axes, .prf, .pwm, .probes] m = true) : Keeps m s0 (State.standstill n s) := by
  unfold State.standstill
  try dsimp only
  repeat' with_reducible first
    | exact h
    | refine keeps_ite (fun _ => ?_) (fun _ => ?_)
    | refine State.setMode_keeps ?_ (within_trans hm (by decide))
    | refine State.enter_keeps ?_ (within_trans hm (by decide))
    | refine State.onAxis_keeps ?_ (within_trans hm (by decide))
    | refine State.setBrake_keeps ?_ (within_trans hm (by decide))
    | refine State.torqueOff_keeps ?_ (within_trans hm (by decide))
    | refine keeps_pair (by assumption) ?_
    | split

theorem State.stopTimeout_keeps {n} (h : Keeps m s0 s) (hm : within [.reg .prf, .reg .eng, .reg .csf, .reg .fbk, .reg .pwm, .reg .dio, .axes, .prf, .pwm, .probes] m = true) : Keeps m s0 (State.stopTimeout n s) := by
  unfold State.stopTimeout
  try dsimp only
  repeat' with_reducible first
    | exact h
    | refine keeps_ite (fun _ => ?_) (fun _ => ?_)
    | refine State.torqueOff_keeps ?_ (within_trans hm (by decide))
    | refine State.mark_keeps (by first | exact PRF_AXST_STOPTO_blk ..) ?_ (within_trans hm (by decide))
    | refine keeps_pair (by assumption) ?_
    | split

theorem State.overspeed_keeps {a} (h : Keeps m s0 s) (hm : within [.reg .prf, .reg .eng, .reg .csf, .reg .fbk, .reg .pwm, .reg .knl, .reg .que, .reg .acq, .reg .dio, .reg .err, .sets, .bulk, .log, .knl, .que, .axes, .prf, .pwm, .drn, .probes, .acq] m = true) : Keeps m s0 (State.overspeed a s) := by
  unfold State.overspeed
  try dsimp only
  repeat' with_reducible first
    | exact h
    | refine keeps_ite (fun _ => ?_) (fun _ => ?_)
    | refine State.fault_keeps ?_ (within_trans hm (by decide))
    | refine State.onAxis_keeps ?_ (within_trans hm (by decide))
    | refine keeps_pair (by assumption) ?_
    | split

theorem State.followFault_keeps {a} (h : Keeps m s0 s) (hm : within [.reg .prf, .reg .eng, .reg .csf, .reg .fbk, .reg .pwm, .reg .knl, .reg .que, .reg .acq, .reg .dio, .reg .err, .sets, .bulk, .log, .knl, .que, .axes, .prf, .pwm, .drn, .probes, .acq] m = true) : Keeps m s0 (State.followFault a s) := by
  unfold State.followFault
  try dsimp only
  repeat' with_reducible first
    | exact h
    | refine keeps_ite (fun _ => ?_) (fun _ => ?_)
    | refine State.fault_keeps ?_ (within_trans hm (by decide))
    | refine State.onAxis_keeps ?_ (within_trans hm (by decide))
    | refine keeps_pair (by assumption) ?_
    | split

theorem State.escalate_keeps {a} (h : Keeps m s0 s) (hm : within [.reg .prf, .reg .eng, .reg .csf, .reg .fbk, .reg .pwm, .reg .knl, .reg .que, .reg .acq, .reg .dio, .reg .err, .sets, .bulk, .log, .knl, .que, .axes, .prf, .pwm, .drn, .probes, .acq] m = true) : Keeps m s0 (State.escalate a s) := by
  unfold State.escalate
  try dsimp only
  repeat' with_reducible first
    | exact h
    | refine keeps_ite (fun _ => ?_) (fun _ => ?_)
    | refine State.fault_keeps ?_ (within_trans hm (by decide))
    | refine State.onAxis_keeps ?_ (within_trans hm (by decide))
    | refine keeps_pair (by assumption) ?_
    | split

theorem execAxisEnable_keeps {dt n ident rtd first} {t} (e : execAxisEnable dt n ident rtd first s = .next t) : Keeps [.reg .prf, .reg .eng, .reg .csf, .reg .fbk, .reg .pwm, .reg .knl, .reg .que, .reg .acq, .reg .dio, .reg .err, .sets, .clk, .bulk, .log, .knl, .que, .axes, .prf, .eng, .pwm, .drn, .shp, .csf, .ports, .probes, .acq] s t := by
  have hm := within_refl [.reg .prf, .reg .eng, .reg .csf, .reg .fbk, .reg .pwm, .reg .knl, .reg .que, .reg .acq, .reg .dio, .reg .err, .sets, .clk, .bulk, .log, .knl, .que, .axes, .prf, .eng, .pwm, .drn, .shp, .csf, .ports, .probes, .acq]
  have h := Keeps.refl [.reg .prf, .reg .eng, .reg .csf, .reg .fbk, .reg .pwm, .reg .knl, .reg .que, .reg .acq, .reg .dio, .reg .err, .sets, .clk, .bulk, .log, .knl, .que, .axes, .prf, .eng, .pwm, .drn, .shp, .csf, .ports, .probes, .acq] s
  simp only [execAxisEnable, Host.Outcome.next.injEq] at e
  subst e
  repeat' with_reducible first
    | exact h
    | refine keeps_ite (fun _ => ?_) (fun _ => ?_)
    | refine State.requestEnable_keeps ?_ (within_trans hm (by decide))
    | refine State.elapse_keeps ?_ (within_trans hm (by decide))
    | refine State.enableRead_keeps ?_ (within_trans hm (by decide))
    | refine keeps_pair (by assumption) ?_
    | split

theorem execAxisDisable_keeps {dt n} {t} (e : execAxisDisable dt n s = .next t) : Keeps [.reg .prf, .reg .eng, .reg .fbk, .reg .knl, .reg .dio, .sets, .clk, .knl, .axes, .prf, .probes] s t := by
  have hm := within_refl [.reg .prf, .reg .eng, .reg .fbk, .reg .knl, .reg .dio, .sets, .clk, .knl, .axes, .prf, .probes]
  have h := Keeps.refl [.reg .prf, .reg .eng, .reg .fbk, .reg .knl, .reg .dio, .sets, .clk, .knl, .axes, .prf, .probes] s
  simp only [execAxisDisable, Host.Outcome.next.injEq] at e
  subst e
  repeat' with_reducible first
    | exact h
    | refine keeps_ite (fun _ => ?_) (fun _ => ?_)
    | refine State.requestDisable_keeps ?_ (within_trans hm (by decide))
    | refine State.elapse_keeps ?_ (within_trans hm (by decide))
    | refine keeps_pair (by assumption) ?_
    | split

theorem execFaultReset_keeps {dt n} {t} (e : execFaultReset dt n s = .next t) : Keeps [.reg .prf, .reg .eng, .reg .csf, .reg .fbk, .reg .pwm, .reg .knl, .reg .que, .reg .dio, .reg .err, .sets, .clk, .bulk, .log, .knl, .que, .axes, .prf, .pwm, .probes] s t := by
  have hm := within_refl [.reg .prf, .reg .eng, .reg .csf, .reg .fbk, .reg .pwm, .reg .knl, .reg .que, .reg .dio, .reg .err, .sets, .clk, .bulk, .log, .knl, .que, .axes, .prf, .pwm, .probes]
  have h := Keeps.refl [.reg .prf, .reg .eng, .reg .csf, .reg .fbk, .reg .pwm, .reg .knl, .reg .que, .reg .dio, .reg .err, .sets, .clk, .bulk, .log, .knl, .que, .axes, .prf, .pwm, .probes] s
  simp only [execFaultReset, Host.Outcome.next.injEq] at e
  subst e
  repeat' with_reducible first
    | exact h
    | refine keeps_ite (fun _ => ?_) (fun _ => ?_)
    | refine State.requestReset_keeps ?_ (within_trans hm (by decide))
    | refine State.elapse_keeps ?_ (within_trans hm (by decide))
    | refine keeps_pair (by assumption) ?_
    | split

theorem execBrkrelElapsed_keeps {dt n} {t} (e : execBrkrelElapsed dt n s = .next t) : Keeps [.reg .prf, .reg .eng, .reg .knl, .sets, .clk, .knl, .axes] s t := by
  have hm := within_refl [.reg .prf, .reg .eng, .reg .knl, .sets, .clk, .knl, .axes]
  have h := Keeps.refl [.reg .prf, .reg .eng, .reg .knl, .sets, .clk, .knl, .axes] s
  simp only [execBrkrelElapsed, Host.Outcome.next.injEq] at e
  subst e
  repeat' with_reducible first
    | exact h
    | refine keeps_ite (fun _ => ?_) (fun _ => ?_)
    | refine State.brkRel_keeps ?_ (within_trans hm (by decide))
    | refine State.elapse_keeps ?_ (within_trans hm (by decide))
    | refine keeps_pair (by assumption) ?_
    | split

theorem execBrksetElapsed_keeps {dt n} {t} (e : execBrksetElapsed dt n s = .next t) : Keeps [.reg .prf, .reg .eng, .reg .csf, .reg .fbk, .reg .pwm, .reg .knl, .reg .que, .reg .dio, .reg .err, .sets, .clk, .bulk, .log, .knl, .que, .axes, .prf, .pwm, .probes] s t := by
  have hm := within_refl [.reg .prf, .reg .eng, .reg .csf, .reg .fbk, .reg .pwm, .reg .knl, .reg .que, .reg .dio, .reg .err, .sets, .clk, .bulk, .log, .knl, .que, .axes, .prf, .pwm, .probes]
  have h := Keeps.refl [.reg .prf, .reg .eng, .reg .csf, .reg .fbk, .reg .pwm, .reg .knl, .reg .que, .reg .dio, .reg .err, .sets, .clk, .bulk, .log, .knl, .que, .axes, .prf, .pwm, .probes] s
  simp only [execBrksetElapsed, Host.Outcome.next.injEq] at e
  subst e
  repeat' with_reducible first
    | exact h
    | refine keeps_ite (fun _ => ?_) (fun _ => ?_)
    | refine State.brkSet_keeps ?_ (within_trans hm (by decide))
    | refine State.elapse_keeps ?_ (within_trans hm (by decide))
    | refine keeps_pair (by assumption) ?_
    | split

theorem execStandstillReached_keeps {dt n} {t} (e : execStandstillReached dt n s = .next t) : Keeps [.reg .prf, .reg .eng, .reg .csf, .reg .fbk, .reg .pwm, .reg .knl, .reg .dio, .sets, .clk, .knl, .axes, .prf, .pwm, .probes] s t := by
  have hm := within_refl [.reg .prf, .reg .eng, .reg .csf, .reg .fbk, .reg .pwm, .reg .knl, .reg .dio, .sets, .clk, .knl, .axes, .prf, .pwm, .probes]
  have h := Keeps.refl [.reg .prf, .reg .eng, .reg .csf, .reg .fbk, .reg .pwm, .reg .knl, .reg .dio, .sets, .clk, .knl, .axes, .prf, .pwm, .probes] s
  simp only [execStandstillReached, Host.Outcome.next.injEq] at e
  subst e
  repeat' with_reducible first
    | exact h
    | refine keeps_ite (fun _ => ?_) (fun _ => ?_)
    | refine State.standstill_keeps ?_ (within_trans hm (by decide))
    | refine State.elapse_keeps ?_ (within_trans hm (by decide))
    | refine keeps_pair (by assumption) ?_
    | split

theorem execFaultStopTimeout_keeps {dt n} {t} (e : execFaultStopTimeout dt n s = .next t) : Keeps [.reg .prf, .reg .eng, .reg .csf, .reg .fbk, .reg .pwm, .reg .dio, .sets, .clk, .axes, .prf, .pwm, .probes] s t := by
  have hm := within_refl [.reg .prf, .reg .eng, .reg .csf, .reg .fbk, .reg .pwm, .reg .dio, .sets, .clk, .axes, .prf, .pwm, .probes]
  have h := Keeps.refl [.reg .prf, .reg .eng, .reg .csf, .reg .fbk, .reg .pwm, .reg .dio, .sets, .clk, .axes, .prf, .pwm, .probes] s
  simp only [execFaultStopTimeout, Host.Outcome.next.injEq] at e
  subst e
  repeat' with_reducible first
    | exact h
    | refine keeps_ite (fun _ => ?_) (fun _ => ?_)
    | refine State.stopTimeout_keeps ?_ (within_trans hm (by decide))
    | refine State.elapse_keeps ?_ (within_trans hm (by decide))
    | refine keeps_pair (by assumption) ?_
    | split

theorem execOverspeedFault_keeps {dt a} {t} (e : execOverspeedFault dt a s = .next t) : Keeps [.reg .prf, .reg .eng, .reg .csf, .reg .fbk, .reg .pwm, .reg .knl, .reg .que, .reg .acq, .reg .dio, .reg .err, .sets, .clk, .bulk, .log, .knl, .que, .axes, .prf, .pwm, .drn, .probes, .acq] s t := by
  have hm := within_refl [.reg .prf, .reg .eng, .reg .csf, .reg .fbk, .reg .pwm, .reg .knl, .reg .que, .reg .acq, .reg .dio, .reg .err, .sets, .clk, .bulk, .log, .knl, .que, .axes, .prf, .pwm, .drn, .probes, .acq]
  have h := Keeps.refl [.reg .prf, .reg .eng, .reg .csf, .reg .fbk, .reg .pwm, .reg .knl, .reg .que, .reg .acq, .reg .dio, .reg .err, .sets, .clk, .bulk, .log, .knl, .que, .axes, .prf, .pwm, .drn, .probes, .acq] s
  simp only [execOverspeedFault, Host.Outcome.next.injEq] at e
  subst e
  repeat' with_reducible first
    | exact h
    | refine keeps_ite (fun _ => ?_) (fun _ => ?_)
    | refine State.overspeed_keeps ?_ (within_trans hm (by decide))
    | refine State.elapse_keeps ?_ (within_trans hm (by decide))
    | refine keeps_pair (by assumption) ?_
    | split

theorem execFollowingErrorFault_keeps {dt a} {t} (e : execFollowingErrorFault dt a s = .next t) : Keeps [.reg .prf, .reg .eng, .reg .csf, .reg .fbk, .reg .pwm, .reg .knl, .reg .que, .reg .acq, .reg .dio, .reg .err, .sets, .clk, .bulk, .log, .knl, .que, .axes, .prf, .pwm, .drn, .probes, .acq] s t := by
  have hm := within_refl [.reg .prf, .reg .eng, .reg .csf, .reg .fbk, .reg .pwm, .reg .knl, .reg .que, .reg .acq, .reg .dio, .reg .err, .sets, .clk, .bulk, .log, .knl, .que, .axes, .prf, .pwm, .drn, .probes, .acq]
  have h := Keeps.refl [.reg .prf, .reg .eng, .reg .csf, .reg .fbk, .reg .pwm, .reg .knl, .reg .que, .reg .acq, .reg .dio, .reg .err, .sets, .clk, .bulk, .log, .knl, .que, .axes, .prf, .pwm, .drn, .probes, .acq] s
  simp only [execFollowingErrorFault, Host.Outcome.next.injEq] at e
  subst e
  repeat' with_reducible first
    | exact h
    | refine keeps_ite (fun _ => ?_) (fun _ => ?_)
    | refine State.followFault_keeps ?_ (within_trans hm (by decide))
    | refine State.elapse_keeps ?_ (within_trans hm (by decide))
    | refine keeps_pair (by assumption) ?_
    | split

theorem execLeashEscalation_keeps {dt a} {t} (e : execLeashEscalation dt a s = .next t) : Keeps [.reg .prf, .reg .eng, .reg .csf, .reg .fbk, .reg .pwm, .reg .knl, .reg .que, .reg .acq, .reg .dio, .reg .err, .sets, .clk, .bulk, .log, .knl, .que, .axes, .prf, .pwm, .drn, .probes, .acq] s t := by
  have hm := within_refl [.reg .prf, .reg .eng, .reg .csf, .reg .fbk, .reg .pwm, .reg .knl, .reg .que, .reg .acq, .reg .dio, .reg .err, .sets, .clk, .bulk, .log, .knl, .que, .axes, .prf, .pwm, .drn, .probes, .acq]
  have h := Keeps.refl [.reg .prf, .reg .eng, .reg .csf, .reg .fbk, .reg .pwm, .reg .knl, .reg .que, .reg .acq, .reg .dio, .reg .err, .sets, .clk, .bulk, .log, .knl, .que, .axes, .prf, .pwm, .drn, .probes, .acq] s
  simp only [execLeashEscalation, Host.Outcome.next.injEq] at e
  subst e
  repeat' with_reducible first
    | exact h
    | refine keeps_ite (fun _ => ?_) (fun _ => ?_)
    | refine State.escalate_keeps ?_ (within_trans hm (by decide))
    | refine State.elapse_keeps ?_ (within_trans hm (by decide))
    | refine keeps_pair (by assumption) ?_
    | split

/-! ### Probes -/

theorem State.onProbe_keeps {i f} (h : Keeps m s0 s) (hm : within [.probes] m = true) : Keeps m s0 (State.onProbe i f s) := by
  unfold State.onProbe
  try dsimp only
  repeat' with_reducible first
    | exact h
    | refine keeps_ite (fun _ => ?_) (fun _ => ?_)
    | refine State.onProbes_keeps ?_ (within_trans hm (by decide))
    | refine keeps_pair (by assumption) ?_
    | split

theorem State.probeEdge_keeps {i rising te} (h : Keeps m s0 s) (hm : within [.reg .fbk, .probes] m = true) : Keeps m s0 (State.probeEdge i rising te s) := by
  unfold State.probeEdge
  try dsimp only
  repeat' with_reducible first
    | exact h
    | refine keeps_ite (fun _ => ?_) (fun _ => ?_)
    | refine State.satBump_keeps (by first | exact FBK_PRST_NOSRC_blk .. | exact FBK_PRST_OUTW_blk .. | exact FBK_PRST_OVR_blk .. | (refine blk_ite ?_ ?_ <;> first | exact FBK_PRST_NOSRC_blk .. | exact FBK_PRST_OUTW_blk .. | exact FBK_PRST_OVR_blk ..)) ?_ (within_trans hm (by decide))
    | refine State.onProbe_keeps ?_ (within_trans hm (by decide))
    | refine keeps_pair (by assumption) ?_
    | split

theorem State.latchEdge_keeps {i e pos est} (h : Keeps m s0 s) (hm : within [.reg .fbk, .reg .knl, .reg .que, .reg .acq, .reg .err, .sets, .bulk, .log, .knl, .que, .probes, .acq] m = true) : Keeps m s0 (State.latchEdge i e pos est s) := by
  unfold State.latchEdge
  try dsimp only
  repeat' with_reducible first
    | exact h
    | refine keeps_ite (fun _ => ?_) (fun _ => ?_)
    | refine State.onProbe_keeps ?_ (within_trans hm (by decide))
    | refine State.put_keeps (by first | exact FBK_PRCFG_ARM_blk .. | exact FBK_PRCNT_LOST_blk .. | exact FBK_PRCNT_SEQ_blk .. | exact FBK_PRPOS_blk .. | exact whole_blk (FBK_PRPOS_blk ..) | exact FBK_PRST_DONE_blk .. | exact FBK_PRST_EST_blk .. | exact FBK_PRT_blk .. | exact whole_blk (FBK_PRT_blk ..) | (refine blk_ite ?_ ?_ <;> first | exact FBK_PRCFG_ARM_blk .. | exact FBK_PRCNT_LOST_blk .. | exact FBK_PRCNT_SEQ_blk .. | exact FBK_PRPOS_blk .. | exact whole_blk (FBK_PRPOS_blk ..) | exact FBK_PRST_DONE_blk .. | exact FBK_PRST_EST_blk .. | exact FBK_PRT_blk .. | exact whole_blk (FBK_PRT_blk ..))) ?_ (within_trans hm (by decide))
    | refine State.mark_keeps (by first | exact FBK_PRCFG_ARM_blk .. | exact FBK_PRCNT_LOST_blk .. | exact FBK_PRCNT_SEQ_blk .. | exact FBK_PRPOS_blk .. | exact whole_blk (FBK_PRPOS_blk ..) | exact FBK_PRST_DONE_blk .. | exact FBK_PRST_EST_blk .. | exact FBK_PRT_blk .. | exact whole_blk (FBK_PRT_blk ..) | (refine blk_ite ?_ ?_ <;> first | exact FBK_PRCFG_ARM_blk .. | exact FBK_PRCNT_LOST_blk .. | exact FBK_PRCNT_SEQ_blk .. | exact FBK_PRPOS_blk .. | exact whole_blk (FBK_PRPOS_blk ..) | exact FBK_PRST_DONE_blk .. | exact FBK_PRST_EST_blk .. | exact FBK_PRT_blk .. | exact whole_blk (FBK_PRT_blk ..))) ?_ (within_trans hm (by decide))
    | refine State.wr64S_keeps (by first | exact FBK_PRCFG_ARM_blk .. | exact FBK_PRCNT_LOST_blk .. | exact FBK_PRCNT_SEQ_blk .. | exact FBK_PRPOS_blk .. | exact whole_blk (FBK_PRPOS_blk ..) | exact FBK_PRST_DONE_blk .. | exact FBK_PRST_EST_blk .. | exact FBK_PRT_blk .. | exact whole_blk (FBK_PRT_blk ..) | (refine blk_ite ?_ ?_ <;> first | exact FBK_PRCFG_ARM_blk .. | exact FBK_PRCNT_LOST_blk .. | exact FBK_PRCNT_SEQ_blk .. | exact FBK_PRPOS_blk .. | exact whole_blk (FBK_PRPOS_blk ..) | exact FBK_PRST_DONE_blk .. | exact FBK_PRST_EST_blk .. | exact FBK_PRT_blk .. | exact whole_blk (FBK_PRT_blk ..))) ?_ (within_trans hm (by decide))
    | refine State.wr_keeps (by first | exact FBK_PRCFG_ARM_blk .. | exact FBK_PRCNT_LOST_blk .. | exact FBK_PRCNT_SEQ_blk .. | exact FBK_PRPOS_blk .. | exact whole_blk (FBK_PRPOS_blk ..) | exact FBK_PRST_DONE_blk .. | exact FBK_PRST_EST_blk .. | exact FBK_PRT_blk .. | exact whole_blk (FBK_PRT_blk ..) | (refine blk_ite ?_ ?_ <;> first | exact FBK_PRCFG_ARM_blk .. | exact FBK_PRCNT_LOST_blk .. | exact FBK_PRCNT_SEQ_blk .. | exact FBK_PRPOS_blk .. | exact whole_blk (FBK_PRPOS_blk ..) | exact FBK_PRST_DONE_blk .. | exact FBK_PRST_EST_blk .. | exact FBK_PRT_blk .. | exact whole_blk (FBK_PRT_blk ..))) ?_ (within_trans hm (by decide))
    | refine State.latch_keeps (by first | exact FBK_PRCFG_ARM_blk .. | exact FBK_PRCNT_LOST_blk .. | exact FBK_PRCNT_SEQ_blk .. | exact FBK_PRPOS_blk .. | exact whole_blk (FBK_PRPOS_blk ..) | exact FBK_PRST_DONE_blk .. | exact FBK_PRST_EST_blk .. | exact FBK_PRT_blk .. | exact whole_blk (FBK_PRT_blk ..) | (refine blk_ite ?_ ?_ <;> first | exact FBK_PRCFG_ARM_blk .. | exact FBK_PRCNT_LOST_blk .. | exact FBK_PRCNT_SEQ_blk .. | exact FBK_PRPOS_blk .. | exact whole_blk (FBK_PRPOS_blk ..) | exact FBK_PRST_DONE_blk .. | exact FBK_PRST_EST_blk .. | exact FBK_PRT_blk .. | exact whole_blk (FBK_PRT_blk ..))) ?_ (within_trans hm (by decide))
    | refine State.acqSource_keeps ?_ (within_trans hm (by decide))
    | refine State.tryPush_keeps ?_ (within_trans hm (by decide))
    | refine State.lose_keeps (by first | exact FBK_PRCFG_ARM_blk .. | exact FBK_PRCNT_LOST_blk .. | exact FBK_PRCNT_SEQ_blk .. | exact FBK_PRPOS_blk .. | exact whole_blk (FBK_PRPOS_blk ..) | exact FBK_PRST_DONE_blk .. | exact FBK_PRST_EST_blk .. | exact FBK_PRT_blk .. | exact whole_blk (FBK_PRT_blk ..) | (refine blk_ite ?_ ?_ <;> first | exact FBK_PRCFG_ARM_blk .. | exact FBK_PRCNT_LOST_blk .. | exact FBK_PRCNT_SEQ_blk .. | exact FBK_PRPOS_blk .. | exact whole_blk (FBK_PRPOS_blk ..) | exact FBK_PRST_DONE_blk .. | exact FBK_PRST_EST_blk .. | exact FBK_PRT_blk .. | exact whole_blk (FBK_PRT_blk ..))) ?_ (within_trans hm (by decide))
    | refine State.event_keeps ?_ (within_trans hm (by decide))
    | refine keeps_pair (by assumption) ?_
    | split

theorem State.probeLatch_keeps {i} (h : Keeps m s0 s) (hm : within [.reg .fbk, .reg .knl, .reg .que, .reg .acq, .reg .err, .sets, .bulk, .log, .knl, .que, .probes, .acq] m = true) : Keeps m s0 (State.probeLatch i s) := by
  unfold State.probeLatch
  try dsimp only
  repeat' with_reducible first
    | exact h
    | refine keeps_ite (fun _ => ?_) (fun _ => ?_)
    | refine State.onProbe_keeps ?_ (within_trans hm (by decide))
    | refine State.satBump_keeps (by first | exact FBK_PRST_NOSRC_blk .. | exact FBK_PRST_OUTW_blk .. | (refine blk_ite ?_ ?_ <;> first | exact FBK_PRST_NOSRC_blk .. | exact FBK_PRST_OUTW_blk ..)) ?_ (within_trans hm (by decide))
    | refine State.latchEdge_keeps ?_ (within_trans hm (by decide))
    | refine keeps_pair (by assumption) ?_
    | split

theorem execProbeEdge_keeps {dt i rising} {t} (e : execProbeEdge dt i rising s = .next t) : Keeps [.reg .fbk, .sets, .clk, .probes] s t := by
  have hm := within_refl [.reg .fbk, .sets, .clk, .probes]
  have h := Keeps.refl [.reg .fbk, .sets, .clk, .probes] s
  simp only [execProbeEdge, Host.Outcome.next.injEq] at e
  subst e
  repeat' with_reducible first
    | exact h
    | refine keeps_ite (fun _ => ?_) (fun _ => ?_)
    | refine State.elapse_keeps ?_ (within_trans hm (by decide))
    | refine State.probeEdge_keeps ?_ (within_trans hm (by decide))
    | refine keeps_pair (by assumption) ?_
    | split

theorem execProbeLatch_keeps {dt i} {t} (e : execProbeLatch dt i s = .next t) : Keeps [.reg .fbk, .reg .knl, .reg .que, .reg .acq, .reg .err, .sets, .clk, .bulk, .log, .knl, .que, .probes, .acq] s t := by
  have hm := within_refl [.reg .fbk, .reg .knl, .reg .que, .reg .acq, .reg .err, .sets, .clk, .bulk, .log, .knl, .que, .probes, .acq]
  have h := Keeps.refl [.reg .fbk, .reg .knl, .reg .que, .reg .acq, .reg .err, .sets, .clk, .bulk, .log, .knl, .que, .probes, .acq] s
  simp only [execProbeLatch, Host.Outcome.next.injEq] at e
  subst e
  repeat' with_reducible first
    | exact h
    | refine keeps_ite (fun _ => ?_) (fun _ => ?_)
    | refine State.probeLatch_keeps ?_ (within_trans hm (by decide))
    | refine State.elapse_keeps ?_ (within_trans hm (by decide))
    | refine keeps_pair (by assumption) ?_
    | split

theorem execProbeArm_keeps {dt who i} {t} (e : execProbeArm dt who i s = .next t) : Keeps [.reg .fbk, .reg .err, .sets, .clk, .bus, .log] s t := by
  have hm := within_refl [.reg .fbk, .reg .err, .sets, .clk, .bus, .log]
  have h := Keeps.refl [.reg .fbk, .reg .err, .sets, .clk, .bus, .log] s
  simp only [execProbeArm, Host.Outcome.next.injEq] at e
  subst e
  repeat' with_reducible first
    | exact h
    | refine keeps_ite (fun _ => ?_) (fun _ => ?_)
    | refine State.elapse_keeps ?_ (within_trans hm (by decide))
    | refine State.accessError_keeps ?_ (within_trans hm (by decide))
    | refine State.mark_keeps (by first | exact FBK_PRCFG_ARM_blk ..) ?_ (within_trans hm (by decide))
    | refine keeps_pair (by assumption) ?_
    | split

/-! ### Dio -/

theorem State.onDch_keeps {c f} (h : Keeps m s0 s) (hm : within [.dio] m = true) : Keeps m s0 (State.onDch c f s) := by
  unfold State.onDch
  try dsimp only
  repeat' with_reducible first
    | exact h
    | refine keeps_ite (fun _ => ?_) (fun _ => ?_)
    | refine State.onDio_keeps ?_ (within_trans hm (by decide))
    | refine keeps_pair (by assumption) ?_
    | split

theorem State.dioApply_keeps {c} (h : Keeps m s0 s) (hm : within [.dio] m = true) : Keeps m s0 (State.dioApply c s) := by
  unfold State.dioApply
  try dsimp only
  repeat' with_reducible first
    | exact h
    | refine keeps_ite (fun _ => ?_) (fun _ => ?_)
    | refine State.onDch_keeps ?_ (within_trans hm (by decide))
    | refine keeps_pair (by assumption) ?_
    | split

theorem State.dioEvent_keeps {c rising stamp} (h : Keeps m s0 s) (hm : within [.reg .knl, .reg .que, .reg .dio, .reg .err, .sets, .bulk, .log, .knl, .que] m = true) : Keeps m s0 (State.dioEvent c rising stamp s) := by
  unfold State.dioEvent
  try dsimp only
  repeat' with_reducible first
    | exact h
    | refine keeps_ite (fun _ => ?_) (fun _ => ?_)
    | refine State.bump_keeps (by first | exact DIO_CCNT_SEQ_blk .. | exact DIO_STAT_EVLOST_blk .. | (refine blk_ite ?_ ?_ <;> first | exact DIO_CCNT_SEQ_blk .. | exact DIO_STAT_EVLOST_blk ..)) ?_ (within_trans hm (by decide))
    | refine State.tryPush_keeps ?_ (within_trans hm (by decide))
    | refine State.lose_keeps (by first | exact DIO_CCNT_SEQ_blk .. | exact DIO_STAT_EVLOST_blk .. | (refine blk_ite ?_ ?_ <;> first | exact DIO_CCNT_SEQ_blk .. | exact DIO_STAT_EVLOST_blk ..)) ?_ (within_trans hm (by decide))
    | refine keeps_pair (by assumption) ?_
    | split

theorem State.showLevel_keeps {c level} (h : Keeps m s0 s) (hm : within [.reg .dio, .dio] m = true) : Keeps m s0 (State.showLevel c level s) := by
  unfold State.showLevel
  try dsimp only
  repeat' with_reducible first
    | exact h
    | refine keeps_ite (fun _ => ?_) (fun _ => ?_)
    | refine State.onDch_keeps ?_ (within_trans hm (by decide))
    | refine State.mark_keeps (by first | exact DIO_CST_LAND_blk .. | exact DIO_CST_LEVEL_blk .. | exact DIO_IN_blk .. | exact whole_blk (DIO_IN_blk ..) | (refine blk_ite ?_ ?_ <;> first | exact DIO_CST_LAND_blk .. | exact DIO_CST_LEVEL_blk .. | exact DIO_IN_blk .. | exact whole_blk (DIO_IN_blk ..))) ?_ (within_trans hm (by decide))
    | refine State.setBit64_keeps (by first | exact DIO_CST_LAND_blk .. | exact DIO_CST_LEVEL_blk .. | exact DIO_IN_blk .. | exact whole_blk (DIO_IN_blk ..) | (refine blk_ite ?_ ?_ <;> first | exact DIO_CST_LAND_blk .. | exact DIO_CST_LEVEL_blk .. | exact DIO_IN_blk .. | exact whole_blk (DIO_IN_blk ..))) ?_ (within_trans hm (by decide))
    | refine keeps_pair (by assumption) ?_
    | split

theorem State.dioValidity_keeps {c} (h : Keeps m s0 s) (hm : within [.reg .knl, .reg .que, .reg .dio, .reg .err, .sets, .bulk, .log, .knl, .que, .dio] m = true) : Keeps m s0 (State.dioValidity c s) := by
  unfold State.dioValidity
  try dsimp only
  repeat' with_reducible first
    | exact h
    | refine keeps_ite (fun _ => ?_) (fun _ => ?_)
    | refine State.mark_keeps (by first | exact DIO_CST_INVALID_blk .. | exact DIO_VALID_blk .. | exact whole_blk (DIO_VALID_blk ..) | (refine blk_ite ?_ ?_ <;> first | exact DIO_CST_INVALID_blk .. | exact DIO_VALID_blk .. | exact whole_blk (DIO_VALID_blk ..))) ?_ (within_trans hm (by decide))
    | refine State.setBit64_keeps (by first | exact DIO_CST_INVALID_blk .. | exact DIO_VALID_blk .. | exact whole_blk (DIO_VALID_blk ..) | (refine blk_ite ?_ ?_ <;> first | exact DIO_CST_INVALID_blk .. | exact DIO_VALID_blk .. | exact whole_blk (DIO_VALID_blk ..))) ?_ (within_trans hm (by decide))
    | refine State.onDch_keeps ?_ (within_trans hm (by decide))
    | refine State.showLevel_keeps ?_ (within_trans hm (by decide))
    | refine State.dioEvent_keeps ?_ (within_trans hm (by decide))
    | refine keeps_pair (by assumption) ?_
    | split

theorem State.dioTake_keeps {c} (h : Keeps m s0 s) (hm : within [.dio] m = true) : Keeps m s0 (State.dioTake c s) := by
  unfold State.dioTake
  try dsimp only
  repeat' with_reducible first
    | exact h
    | refine keeps_ite (fun _ => ?_) (fun _ => ?_)
    | refine State.dioApply_keeps ?_ (within_trans hm (by decide))
    | refine State.onDch_keeps ?_ (within_trans hm (by decide))
    | refine keeps_pair (by assumption) ?_
    | split

theorem State.dioProgram_keeps {c} (h : Keeps m s0 s) (hm : within [.dio] m = true) : Keeps m s0 (State.dioProgram c s) := by
  unfold State.dioProgram
  try dsimp only
  repeat' with_reducible first
    | exact h
    | refine keeps_ite (fun _ => ?_) (fun _ => ?_)
    | refine State.dioTake_keeps ?_ (within_trans hm (by decide))
    | refine keeps_pair (by assumption) ?_
    | split

theorem State.dioShow_keeps {c} (h : Keeps m s0 s) (hm : within [.reg .dio] m = true) : Keeps m s0 (State.dioShow c s) := by
  unfold State.dioShow
  try dsimp only
  repeat' with_reducible first
    | exact h
    | refine keeps_ite (fun _ => ?_) (fun _ => ?_)
    | refine State.mark_keeps (by first | exact DIO_ACT_blk .. | exact whole_blk (DIO_ACT_blk ..) | exact DIO_CST_ACT_blk .. | exact DIO_CST_THERM_blk .. | exact DIO_CST_TIMEOUT_blk .. | exact DIO_GST_ALIVE_blk .. | exact DIO_GST_GOVL_blk .. | exact DIO_GST_SUPPLY_blk .. | exact DIO_GST_TOUT_blk .. | (refine blk_ite ?_ ?_ <;> first | exact DIO_ACT_blk .. | exact whole_blk (DIO_ACT_blk ..) | exact DIO_CST_ACT_blk .. | exact DIO_CST_THERM_blk .. | exact DIO_CST_TIMEOUT_blk .. | exact DIO_GST_ALIVE_blk .. | exact DIO_GST_GOVL_blk .. | exact DIO_GST_SUPPLY_blk .. | exact DIO_GST_TOUT_blk ..)) ?_ (within_trans hm (by decide))
    | refine State.setBit64_keeps (by first | exact DIO_ACT_blk .. | exact whole_blk (DIO_ACT_blk ..) | exact DIO_CST_ACT_blk .. | exact DIO_CST_THERM_blk .. | exact DIO_CST_TIMEOUT_blk .. | exact DIO_GST_ALIVE_blk .. | exact DIO_GST_GOVL_blk .. | exact DIO_GST_SUPPLY_blk .. | exact DIO_GST_TOUT_blk .. | (refine blk_ite ?_ ?_ <;> first | exact DIO_ACT_blk .. | exact whole_blk (DIO_ACT_blk ..) | exact DIO_CST_ACT_blk .. | exact DIO_CST_THERM_blk .. | exact DIO_CST_TIMEOUT_blk .. | exact DIO_GST_ALIVE_blk .. | exact DIO_GST_GOVL_blk .. | exact DIO_GST_SUPPLY_blk .. | exact DIO_GST_TOUT_blk ..)) ?_ (within_trans hm (by decide))
    | refine State.put_keeps (by first | exact DIO_ACT_blk .. | exact whole_blk (DIO_ACT_blk ..) | exact DIO_CST_ACT_blk .. | exact DIO_CST_THERM_blk .. | exact DIO_CST_TIMEOUT_blk .. | exact DIO_GST_ALIVE_blk .. | exact DIO_GST_GOVL_blk .. | exact DIO_GST_SUPPLY_blk .. | exact DIO_GST_TOUT_blk .. | (refine blk_ite ?_ ?_ <;> first | exact DIO_ACT_blk .. | exact whole_blk (DIO_ACT_blk ..) | exact DIO_CST_ACT_blk .. | exact DIO_CST_THERM_blk .. | exact DIO_CST_TIMEOUT_blk .. | exact DIO_GST_ALIVE_blk .. | exact DIO_GST_GOVL_blk .. | exact DIO_GST_SUPPLY_blk .. | exact DIO_GST_TOUT_blk ..)) ?_ (within_trans hm (by decide))
    | refine keeps_pair (by assumption) ?_
    | split

theorem State.dioReport_keeps {c raw limit vlp ig} (h : Keeps m s0 s) (hm : within [.reg .knl, .reg .que, .reg .dio, .reg .err, .sets, .bulk, .log, .knl, .que, .dio] m = true) : Keeps m s0 (State.dioReport c raw limit vlp ig s) := by
  unfold State.dioReport
  try dsimp only
  repeat' with_reducible first
    | exact h
    | refine keeps_ite (fun _ => ?_) (fun _ => ?_)
    | refine State.onDch_keeps ?_ (within_trans hm (by decide))
    | refine State.mark_keeps (by first | exact DIO_CST_LIMIT_blk .. | exact DIO_GMEAS_IG_blk .. | exact DIO_GMEAS_VLP_blk .. | (refine blk_ite ?_ ?_ <;> first | exact DIO_CST_LIMIT_blk .. | exact DIO_GMEAS_IG_blk .. | exact DIO_GMEAS_VLP_blk ..)) ?_ (within_trans hm (by decide))
    | refine State.put_keeps (by first | exact DIO_CST_LIMIT_blk .. | exact DIO_GMEAS_IG_blk .. | exact DIO_GMEAS_VLP_blk .. | (refine blk_ite ?_ ?_ <;> first | exact DIO_CST_LIMIT_blk .. | exact DIO_GMEAS_IG_blk .. | exact DIO_GMEAS_VLP_blk ..)) ?_ (within_trans hm (by decide))
    | refine State.dioShow_keeps ?_ (within_trans hm (by decide))
    | refine State.dioTake_keeps ?_ (within_trans hm (by decide))
    | refine State.dioValidity_keeps ?_ (within_trans hm (by decide))
    | refine keeps_pair (by assumption) ?_
    | split

theorem State.toldLogic_keeps {f} (hf : ∀ t, Keeps m s0 t → Keeps m s0 (f t)) (h : Keeps m s0 s) (_ : within [] m = true) :
    Keeps m s0 (s.toldLogic f) := by
  unfold State.toldLogic
  exact keeps_ite (fun _ => hf _ h) (fun _ => h)

theorem State.dioTimeout_keeps {c} (h : Keeps m s0 s) (hm : within [.reg .dio, .dio] m = true) : Keeps m s0 (State.dioTimeout c s) := by
  unfold State.dioTimeout
  try dsimp only
  repeat' with_reducible first
    | exact h
    | refine keeps_ite (fun _ => ?_) (fun _ => ?_)
    | refine State.toldLogic_keeps (fun _ h => ?_) ?_ (within_trans hm (by decide))
    | refine State.satBump_keeps (by first | exact DIO_GCNT_TOCNT_blk ..) ?_ (within_trans hm (by decide))
    | refine State.dioApply_keeps ?_ (within_trans hm (by decide))
    | refine State.onDch_keeps ?_ (within_trans hm (by decide))
    | refine keeps_pair (by assumption) ?_
    | split

theorem State.couplerSilent_keeps {c} (h : Keeps m s0 s) (hm : within [.reg .knl, .reg .que, .reg .dio, .reg .err, .sets, .bulk, .log, .knl, .que, .dio] m = true) : Keeps m s0 (State.couplerSilent c s) := by
  unfold State.couplerSilent
  try dsimp only
  repeat' with_reducible first
    | exact h
    | refine keeps_ite (fun _ => ?_) (fun _ => ?_)
    | refine State.severe_keeps ?_ (within_trans hm (by decide))
    | refine State.dioValidity_keeps ?_ (within_trans hm (by decide))
    | refine State.latch_keeps (by first | exact DIO_CST_COUPLER_blk ..) ?_ (within_trans hm (by decide))
    | refine keeps_pair (by assumption) ?_
    | split

theorem State.inputAccepted_keeps {c} (h : Keeps m s0 s) (hm : within [.reg .fbk, .reg .knl, .reg .que, .reg .dio, .reg .err, .sets, .bulk, .log, .knl, .que, .probes, .dio] m = true) : Keeps m s0 (State.inputAccepted c s) := by
  unfold State.inputAccepted
  try dsimp only
  repeat' with_reducible first
    | exact h
    | refine keeps_ite (fun _ => ?_) (fun _ => ?_)
    | refine State.onDch_keeps ?_ (within_trans hm (by decide))
    | refine State.dioEvent_keeps ?_ (within_trans hm (by decide))
    | refine State.showLevel_keeps ?_ (within_trans hm (by decide))
    | refine State.probeEdge_keeps ?_ (within_trans hm (by decide))
    | refine keeps_foldl ?_ _ ?_
    | refine keeps_foldl_snd ?_ _ ?_
    | (intro _ _ h; try dsimp only)
    | refine keeps_pair (by assumption) ?_
    | split

theorem State.writeOut_keeps {v} (h : Keeps m s0 s) (hm : within [.reg .dio, .dio] m = true) : Keeps m s0 (State.writeOut v s) := by
  unfold State.writeOut
  try dsimp only
  repeat' with_reducible first
    | exact h
    | refine keeps_ite (fun _ => ?_) (fun _ => ?_)
    | refine State.onDch_keeps ?_ (within_trans hm (by decide))
    | refine State.setBit64_keeps (by first | exact DIO_OUT_blk .. | exact whole_blk (DIO_OUT_blk ..)) ?_ (within_trans hm (by decide))
    | refine keeps_foldl ?_ _ ?_
    | refine keeps_foldl_snd ?_ _ ?_
    | (intro _ _ h; try dsimp only)
    | refine keeps_pair (by assumption) ?_
    | split

theorem State.dioWrite_keeps {f} (h : Keeps m s0 s) (hm : within [.reg .dio, .dio] m = true) : Keeps m s0 (State.dioWrite f s) := by
  unfold State.dioWrite
  try dsimp only
  repeat' with_reducible first
    | exact h
    | refine keeps_ite (fun _ => ?_) (fun _ => ?_)
    | refine State.writeOut_keeps ?_ (within_trans hm (by decide))
    | refine State.onDio_keeps ?_ (within_trans hm (by decide))
    | refine keeps_getD (fun _ _ => ?_) ?_
    | refine keeps_pair (by assumption) ?_
    | split

theorem State.dioOut_keeps {v} (h : Keeps m s0 s) (hm : within [.reg .dio, .dio] m = true) : Keeps m s0 (State.dioOut v s) := by
  unfold State.dioOut
  try dsimp only
  repeat' with_reducible first
    | exact h
    | refine keeps_ite (fun _ => ?_) (fun _ => ?_)
    | refine State.dioWrite_keeps ?_ (within_trans hm (by decide))
    | refine keeps_pair (by assumption) ?_
    | split

theorem State.dioSet_keeps {v} (h : Keeps m s0 s) (hm : within [.reg .dio, .dio] m = true) : Keeps m s0 (State.dioSet v s) := by
  unfold State.dioSet
  try dsimp only
  repeat' with_reducible first
    | exact h
    | refine keeps_ite (fun _ => ?_) (fun _ => ?_)
    | refine State.dioWrite_keeps ?_ (within_trans hm (by decide))
    | refine keeps_pair (by assumption) ?_
    | split

theorem State.dioClr_keeps {v} (h : Keeps m s0 s) (hm : within [.reg .dio, .dio] m = true) : Keeps m s0 (State.dioClr v s) := by
  unfold State.dioClr
  try dsimp only
  repeat' with_reducible first
    | exact h
    | refine keeps_ite (fun _ => ?_) (fun _ => ?_)
    | refine State.dioWrite_keeps ?_ (within_trans hm (by decide))
    | refine keeps_pair (by assumption) ?_
    | split

theorem State.readback_keeps {c} (h : Keeps m s0 s) (hm : within [.reg .dio, .reg .err, .sets, .log] m = true) : Keeps m s0 (State.readback c s) := by
  unfold State.readback
  try dsimp only
  repeat' with_reducible first
    | exact h
    | refine keeps_ite (fun _ => ?_) (fun _ => ?_)
    | refine State.raise_keeps (by first | exact DIO_CST_BACKFED_blk .. | exact DIO_CST_OLOW_blk .. | (refine blk_ite ?_ ?_ <;> first | exact DIO_CST_BACKFED_blk .. | exact DIO_CST_OLOW_blk ..)) ?_ (within_trans hm (by decide))
    | refine keeps_pair (by assumption) ?_
    | split

theorem State.thermal_keeps {c} (h : Keeps m s0 s) (hm : within [.reg .dio, .reg .err, .sets, .log, .dio] m = true) : Keeps m s0 (State.thermal c s) := by
  unfold State.thermal
  try dsimp only
  repeat' with_reducible first
    | exact h
    | refine keeps_ite (fun _ => ?_) (fun _ => ?_)
    | refine State.toldLogic_keeps (fun _ h => ?_) ?_ (within_trans hm (by decide))
    | refine State.raise_keeps (by first | exact DIO_CST_THERM_blk ..) ?_ (within_trans hm (by decide))
    | refine State.dioApply_keeps ?_ (within_trans hm (by decide))
    | refine State.onDch_keeps ?_ (within_trans hm (by decide))
    | refine keeps_pair (by assumption) ?_
    | split

theorem State.thermalRetry_keeps {c} (h : Keeps m s0 s) (hm : within [.reg .dio, .dio] m = true) : Keeps m s0 (State.thermalRetry c s) := by
  unfold State.thermalRetry
  try dsimp only
  repeat' with_reducible first
    | exact h
    | refine keeps_ite (fun _ => ?_) (fun _ => ?_)
    | refine State.toldLogic_keeps (fun _ h => ?_) ?_ (within_trans hm (by decide))
    | refine State.mark_keeps (by first | exact DIO_CCNT_RETRY_blk .. | exact DIO_CST_THERM_blk .. | (refine blk_ite ?_ ?_ <;> first | exact DIO_CCNT_RETRY_blk .. | exact DIO_CST_THERM_blk ..)) ?_ (within_trans hm (by decide))
    | refine State.dioApply_keeps ?_ (within_trans hm (by decide))
    | refine State.onDch_keeps ?_ (within_trans hm (by decide))
    | refine State.satBump_keeps (by first | exact DIO_CCNT_RETRY_blk .. | exact DIO_CST_THERM_blk .. | (refine blk_ite ?_ ?_ <;> first | exact DIO_CCNT_RETRY_blk .. | exact DIO_CST_THERM_blk ..)) ?_ (within_trans hm (by decide))
    | refine keeps_pair (by assumption) ?_
    | split

theorem State.groupOver_keeps {g} (h : Keeps m s0 s) (hm : within [.reg .dio, .dio] m = true) : Keeps m s0 (State.groupOver g s) := by
  unfold State.groupOver
  try dsimp only
  repeat' with_reducible first
    | exact h
    | refine keeps_ite (fun _ => ?_) (fun _ => ?_)
    | refine State.toldLogic_keeps (fun _ h => ?_) ?_ (within_trans hm (by decide))
    | refine State.satBump_keeps (by first | exact DIO_GCNT_GOVLCNT_blk .. | exact DIO_GST_GOVL_blk .. | (refine blk_ite ?_ ?_ <;> first | exact DIO_GCNT_GOVLCNT_blk .. | exact DIO_GST_GOVL_blk ..)) ?_ (within_trans hm (by decide))
    | refine State.mark_keeps (by first | exact DIO_GCNT_GOVLCNT_blk .. | exact DIO_GST_GOVL_blk .. | (refine blk_ite ?_ ?_ <;> first | exact DIO_GCNT_GOVLCNT_blk .. | exact DIO_GST_GOVL_blk ..)) ?_ (within_trans hm (by decide))
    | refine State.onDio_keeps ?_ (within_trans hm (by decide))
    | refine State.dioApply_keeps ?_ (within_trans hm (by decide))
    | refine keeps_foldl ?_ _ ?_
    | refine keeps_foldl_snd ?_ _ ?_
    | (intro _ _ h; try dsimp only)
    | refine keeps_pair (by assumption) ?_
    | split

theorem State.groupRetry_keeps {g} (h : Keeps m s0 s) (hm : within [.reg .dio, .dio] m = true) : Keeps m s0 (State.groupRetry g s) := by
  unfold State.groupRetry
  try dsimp only
  repeat' with_reducible first
    | exact h
    | refine keeps_ite (fun _ => ?_) (fun _ => ?_)
    | refine State.onDio_keeps ?_ (within_trans hm (by decide))
    | refine State.dioApply_keeps ?_ (within_trans hm (by decide))
    | refine State.toldLogic_keeps (fun _ h => ?_) ?_ (within_trans hm (by decide))
    | refine State.mark_keeps (by first | exact DIO_GST_GOVL_blk ..) ?_ (within_trans hm (by decide))
    | refine keeps_foldl ?_ _ ?_
    | refine keeps_foldl_snd ?_ _ ?_
    | (intro _ _ h; try dsimp only)
    | refine keeps_pair (by assumption) ?_
    | split

theorem State.supplyState_keeps {g st} (h : Keeps m s0 s) (hm : within [.reg .knl, .reg .que, .reg .dio, .reg .err, .sets, .bulk, .log, .knl, .que, .dio] m = true) : Keeps m s0 (State.supplyState g st s) := by
  unfold State.supplyState
  try dsimp only
  repeat' with_reducible first
    | exact h
    | refine keeps_ite (fun _ => ?_) (fun _ => ?_)
    | refine State.toldLogic_keeps (fun _ h => ?_) ?_ (within_trans hm (by decide))
    | refine State.put_keeps (by first | exact DIO_GST_SUPPLY_blk ..) ?_ (within_trans hm (by decide))
    | refine State.onDio_keeps ?_ (within_trans hm (by decide))
    | refine State.onDch_keeps ?_ (within_trans hm (by decide))
    | refine State.dioValidity_keeps ?_ (within_trans hm (by decide))
    | refine State.dioApply_keeps ?_ (within_trans hm (by decide))
    | refine keeps_foldl ?_ _ ?_
    | refine keeps_foldl_snd ?_ _ ?_
    | (intro _ _ h; try dsimp only)
    | refine keeps_pair (by assumption) ?_
    | split

theorem State.supplyWarn_keeps {g st f k b c} (hb : InBlk b f.addr) (hc : InBlk c k.addr) (h : Keeps m s0 s)
    (hm : within (.reg b :: .reg c :: [.reg .knl, .reg .que, .reg .dio, .reg .err, .sets, .bulk, .log, .knl, .que, .dio]) m = true) : Keeps m s0 (s.supplyWarn g st f k) := by
  unfold State.supplyWarn
  exact State.toldLogic_keeps (fun _ h => State.warn_keeps (State.latch_keeps hb (State.satBump_keeps hc h
    (within_trans hm (by simp [within]))) (within_trans hm (by simp [within]))) (within_trans hm (by simp [within])))
    (State.supplyState_keeps h (within_trans hm (by simp [within]))) (within_trans hm (by simp [within]))

theorem State.camEdge_keeps {t'} (h : Keeps m s0 s) (hm : within [.reg .prf, .reg .knl, .reg .que, .reg .dio, .reg .err, .sets, .bulk, .log, .knl, .que, .dio] m = true) : Keeps m s0 (State.camEdge t' s) := by
  unfold State.camEdge
  try dsimp only
  repeat' with_reducible first
    | exact h
    | refine keeps_ite (fun _ => ?_) (fun _ => ?_)
    | refine State.onDio_keeps ?_ (within_trans hm (by decide))
    | refine State.bump_keeps (by first | exact DIO_CCNT_LATE_blk .. | exact DIO_OUT_blk .. | exact whole_blk (DIO_OUT_blk ..) | exact PRF_CSWST_CNT_blk .. | exact PRF_CSWST_OUT_blk .. | (refine blk_ite ?_ ?_ <;> first | exact DIO_CCNT_LATE_blk .. | exact DIO_OUT_blk .. | exact whole_blk (DIO_OUT_blk ..) | exact PRF_CSWST_CNT_blk .. | exact PRF_CSWST_OUT_blk ..)) ?_ (within_trans hm (by decide))
    | refine State.mark_keeps (by first | exact DIO_CCNT_LATE_blk .. | exact DIO_OUT_blk .. | exact whole_blk (DIO_OUT_blk ..) | exact PRF_CSWST_CNT_blk .. | exact PRF_CSWST_OUT_blk .. | (refine blk_ite ?_ ?_ <;> first | exact DIO_CCNT_LATE_blk .. | exact DIO_OUT_blk .. | exact whole_blk (DIO_OUT_blk ..) | exact PRF_CSWST_CNT_blk .. | exact PRF_CSWST_OUT_blk ..)) ?_ (within_trans hm (by decide))
    | refine State.satBump_keeps (by first | exact DIO_CCNT_LATE_blk .. | exact DIO_OUT_blk .. | exact whole_blk (DIO_OUT_blk ..) | exact PRF_CSWST_CNT_blk .. | exact PRF_CSWST_OUT_blk .. | (refine blk_ite ?_ ?_ <;> first | exact DIO_CCNT_LATE_blk .. | exact DIO_OUT_blk .. | exact whole_blk (DIO_OUT_blk ..) | exact PRF_CSWST_CNT_blk .. | exact PRF_CSWST_OUT_blk ..)) ?_ (within_trans hm (by decide))
    | refine State.onDch_keeps ?_ (within_trans hm (by decide))
    | refine State.setBit64_keeps (by first | exact DIO_CCNT_LATE_blk .. | exact DIO_OUT_blk .. | exact whole_blk (DIO_OUT_blk ..) | exact PRF_CSWST_CNT_blk .. | exact PRF_CSWST_OUT_blk .. | (refine blk_ite ?_ ?_ <;> first | exact DIO_CCNT_LATE_blk .. | exact DIO_OUT_blk .. | exact whole_blk (DIO_OUT_blk ..) | exact PRF_CSWST_CNT_blk .. | exact PRF_CSWST_OUT_blk ..)) ?_ (within_trans hm (by decide))
    | refine State.pushEvent_keeps ?_ (within_trans hm (by decide))
    | refine keeps_pair (by assumption) ?_
    | split

theorem execLogicFrame_keeps {dt c} {t} (e : execLogicFrame dt c s = .next t) : Keeps [.sets, .clk, .dio] s t := by
  have hm := within_refl [.sets, .clk, .dio]
  have h := Keeps.refl [.sets, .clk, .dio] s
  simp only [execLogicFrame, Host.Outcome.next.injEq] at e
  subst e
  repeat' with_reducible first
    | exact h
    | refine keeps_ite (fun _ => ?_) (fun _ => ?_)
    | refine State.dioProgram_keeps ?_ (within_trans hm (by decide))
    | refine State.elapse_keeps ?_ (within_trans hm (by decide))
    | refine keeps_pair (by assumption) ?_
    | split

theorem execFieldReport_keeps {dt c raw limit vlp ig} {t} (e : execFieldReport dt c raw limit vlp ig s = .next t) : Keeps [.reg .knl, .reg .que, .reg .dio, .reg .err, .sets, .clk, .bulk, .log, .knl, .que, .dio] s t := by
  have hm := within_refl [.reg .knl, .reg .que, .reg .dio, .reg .err, .sets, .clk, .bulk, .log, .knl, .que, .dio]
  have h := Keeps.refl [.reg .knl, .reg .que, .reg .dio, .reg .err, .sets, .clk, .bulk, .log, .knl, .que, .dio] s
  simp only [execFieldReport, Host.Outcome.next.injEq] at e
  subst e
  repeat' with_reducible first
    | exact h
    | refine keeps_ite (fun _ => ?_) (fun _ => ?_)
    | refine State.dioReport_keeps ?_ (within_trans hm (by decide))
    | refine State.elapse_keeps ?_ (within_trans hm (by decide))
    | refine keeps_pair (by assumption) ?_
    | split

theorem execHeartbeatTimeout_keeps {dt c} {t} (e : execHeartbeatTimeout dt c s = .next t) : Keeps [.reg .dio, .sets, .clk, .dio] s t := by
  have hm := within_refl [.reg .dio, .sets, .clk, .dio]
  have h := Keeps.refl [.reg .dio, .sets, .clk, .dio] s
  simp only [execHeartbeatTimeout, Host.Outcome.next.injEq] at e
  subst e
  repeat' with_reducible first
    | exact h
    | refine keeps_ite (fun _ => ?_) (fun _ => ?_)
    | refine State.dioTimeout_keeps ?_ (within_trans hm (by decide))
    | refine State.elapse_keeps ?_ (within_trans hm (by decide))
    | refine keeps_pair (by assumption) ?_
    | split

theorem execCouplerSilence_keeps {dt c} {t} (e : execCouplerSilence dt c s = .next t) : Keeps [.reg .knl, .reg .que, .reg .dio, .reg .err, .sets, .clk, .bulk, .log, .knl, .que, .dio] s t := by
  have hm := within_refl [.reg .knl, .reg .que, .reg .dio, .reg .err, .sets, .clk, .bulk, .log, .knl, .que, .dio]
  have h := Keeps.refl [.reg .knl, .reg .que, .reg .dio, .reg .err, .sets, .clk, .bulk, .log, .knl, .que, .dio] s
  simp only [execCouplerSilence, Host.Outcome.next.injEq] at e
  subst e
  repeat' with_reducible first
    | exact h
    | refine keeps_ite (fun _ => ?_) (fun _ => ?_)
    | refine State.couplerSilent_keeps ?_ (within_trans hm (by decide))
    | refine State.elapse_keeps ?_ (within_trans hm (by decide))
    | refine keeps_pair (by assumption) ?_
    | split

theorem execInputChangeAccepted_keeps {dt c} {t} (e : execInputChangeAccepted dt c s = .next t) : Keeps [.reg .fbk, .reg .knl, .reg .que, .reg .dio, .reg .err, .sets, .clk, .bulk, .log, .knl, .que, .probes, .dio] s t := by
  have hm := within_refl [.reg .fbk, .reg .knl, .reg .que, .reg .dio, .reg .err, .sets, .clk, .bulk, .log, .knl, .que, .probes, .dio]
  have h := Keeps.refl [.reg .fbk, .reg .knl, .reg .que, .reg .dio, .reg .err, .sets, .clk, .bulk, .log, .knl, .que, .probes, .dio] s
  simp only [execInputChangeAccepted, Host.Outcome.next.injEq] at e
  subst e
  repeat' with_reducible first
    | exact h
    | refine keeps_ite (fun _ => ?_) (fun _ => ?_)
    | refine State.inputAccepted_keeps ?_ (within_trans hm (by decide))
    | refine State.elapse_keeps ?_ (within_trans hm (by decide))
    | refine keeps_pair (by assumption) ?_
    | split

theorem execDioOut_keeps {dt v} {t} (e : execDioOut dt v s = .next t) : Keeps [.reg .dio, .sets, .clk, .dio] s t := by
  have hm := within_refl [.reg .dio, .sets, .clk, .dio]
  have h := Keeps.refl [.reg .dio, .sets, .clk, .dio] s
  simp only [execDioOut, Host.Outcome.next.injEq] at e
  subst e
  repeat' with_reducible first
    | exact h
    | refine keeps_ite (fun _ => ?_) (fun _ => ?_)
    | refine State.dioOut_keeps ?_ (within_trans hm (by decide))
    | refine State.elapse_keeps ?_ (within_trans hm (by decide))
    | refine keeps_pair (by assumption) ?_
    | split

theorem execDioSet_keeps {dt v} {t} (e : execDioSet dt v s = .next t) : Keeps [.reg .dio, .sets, .clk, .dio] s t := by
  have hm := within_refl [.reg .dio, .sets, .clk, .dio]
  have h := Keeps.refl [.reg .dio, .sets, .clk, .dio] s
  simp only [execDioSet, Host.Outcome.next.injEq] at e
  subst e
  repeat' with_reducible first
    | exact h
    | refine keeps_ite (fun _ => ?_) (fun _ => ?_)
    | refine State.dioSet_keeps ?_ (within_trans hm (by decide))
    | refine State.elapse_keeps ?_ (within_trans hm (by decide))
    | refine keeps_pair (by assumption) ?_
    | split

theorem execDioClr_keeps {dt v} {t} (e : execDioClr dt v s = .next t) : Keeps [.reg .dio, .sets, .clk, .dio] s t := by
  have hm := within_refl [.reg .dio, .sets, .clk, .dio]
  have h := Keeps.refl [.reg .dio, .sets, .clk, .dio] s
  simp only [execDioClr, Host.Outcome.next.injEq] at e
  subst e
  repeat' with_reducible first
    | exact h
    | refine keeps_ite (fun _ => ?_) (fun _ => ?_)
    | refine State.dioClr_keeps ?_ (within_trans hm (by decide))
    | refine State.elapse_keeps ?_ (within_trans hm (by decide))
    | refine keeps_pair (by assumption) ?_
    | split

theorem execReadbackMismatch_keeps {dt c} {t} (e : execReadbackMismatch dt c s = .next t) : Keeps [.reg .dio, .reg .err, .sets, .clk, .log] s t := by
  have hm := within_refl [.reg .dio, .reg .err, .sets, .clk, .log]
  have h := Keeps.refl [.reg .dio, .reg .err, .sets, .clk, .log] s
  simp only [execReadbackMismatch, Host.Outcome.next.injEq] at e
  subst e
  repeat' with_reducible first
    | exact h
    | refine keeps_ite (fun _ => ?_) (fun _ => ?_)
    | refine State.readback_keeps ?_ (within_trans hm (by decide))
    | refine State.elapse_keeps ?_ (within_trans hm (by decide))
    | refine keeps_pair (by assumption) ?_
    | split

theorem execThermalShutdown_keeps {dt c} {t} (e : execThermalShutdown dt c s = .next t) : Keeps [.reg .dio, .reg .err, .sets, .clk, .log, .dio] s t := by
  have hm := within_refl [.reg .dio, .reg .err, .sets, .clk, .log, .dio]
  have h := Keeps.refl [.reg .dio, .reg .err, .sets, .clk, .log, .dio] s
  simp only [execThermalShutdown, Host.Outcome.next.injEq] at e
  subst e
  repeat' with_reducible first
    | exact h
    | refine keeps_ite (fun _ => ?_) (fun _ => ?_)
    | refine State.thermal_keeps ?_ (within_trans hm (by decide))
    | refine State.elapse_keeps ?_ (within_trans hm (by decide))
    | refine keeps_pair (by assumption) ?_
    | split

theorem execThermalRetry_keeps {dt c} {t} (e : execThermalRetry dt c s = .next t) : Keeps [.reg .dio, .sets, .clk, .dio] s t := by
  have hm := within_refl [.reg .dio, .sets, .clk, .dio]
  have h := Keeps.refl [.reg .dio, .sets, .clk, .dio] s
  simp only [execThermalRetry, Host.Outcome.next.injEq] at e
  subst e
  repeat' with_reducible first
    | exact h
    | refine keeps_ite (fun _ => ?_) (fun _ => ?_)
    | refine State.thermalRetry_keeps ?_ (within_trans hm (by decide))
    | refine State.elapse_keeps ?_ (within_trans hm (by decide))
    | refine keeps_pair (by assumption) ?_
    | split

theorem execGroupOverload_keeps {dt g} {t} (e : execGroupOverload dt g s = .next t) : Keeps [.reg .dio, .sets, .clk, .dio] s t := by
  have hm := within_refl [.reg .dio, .sets, .clk, .dio]
  have h := Keeps.refl [.reg .dio, .sets, .clk, .dio] s
  simp only [execGroupOverload, Host.Outcome.next.injEq] at e
  subst e
  repeat' with_reducible first
    | exact h
    | refine keeps_ite (fun _ => ?_) (fun _ => ?_)
    | refine State.groupOver_keeps ?_ (within_trans hm (by decide))
    | refine State.elapse_keeps ?_ (within_trans hm (by decide))
    | refine keeps_pair (by assumption) ?_
    | split

theorem execGroupOverloadRetry_keeps {dt g} {t} (e : execGroupOverloadRetry dt g s = .next t) : Keeps [.reg .dio, .sets, .clk, .dio] s t := by
  have hm := within_refl [.reg .dio, .sets, .clk, .dio]
  have h := Keeps.refl [.reg .dio, .sets, .clk, .dio] s
  simp only [execGroupOverloadRetry, Host.Outcome.next.injEq] at e
  subst e
  repeat' with_reducible first
    | exact h
    | refine keeps_ite (fun _ => ?_) (fun _ => ?_)
    | refine State.groupRetry_keeps ?_ (within_trans hm (by decide))
    | refine State.elapse_keeps ?_ (within_trans hm (by decide))
    | refine keeps_pair (by assumption) ?_
    | split

theorem execSupplyLow_keeps {dt g} {t} (e : execSupplyLow dt g s = .next t) : Keeps [.reg .knl, .reg .que, .reg .dio, .reg .err, .sets, .clk, .bulk, .log, .knl, .que, .dio] s t := by
  have hm := within_refl [.reg .knl, .reg .que, .reg .dio, .reg .err, .sets, .clk, .bulk, .log, .knl, .que, .dio]
  have h := Keeps.refl [.reg .knl, .reg .que, .reg .dio, .reg .err, .sets, .clk, .bulk, .log, .knl, .que, .dio] s
  simp only [execSupplyLow, Host.Outcome.next.injEq] at e
  subst e
  repeat' with_reducible first
    | exact h
    | refine keeps_ite (fun _ => ?_) (fun _ => ?_)
    | refine State.elapse_keeps ?_ (within_trans hm (by decide))
    | refine State.supplyWarn_keeps (by first | exact DIO_GCNT_LOWCNT_blk .. | exact DIO_GST_LOWW_blk .. | (refine blk_ite ?_ ?_ <;> first | exact DIO_GCNT_LOWCNT_blk .. | exact DIO_GST_LOWW_blk ..)) (by first | exact DIO_GCNT_LOWCNT_blk .. | exact DIO_GST_LOWW_blk .. | (refine blk_ite ?_ ?_ <;> first | exact DIO_GCNT_LOWCNT_blk .. | exact DIO_GST_LOWW_blk ..)) ?_ (within_trans hm (by decide))
    | refine keeps_pair (by assumption) ?_
    | split

theorem execSupplyMissing_keeps {dt g} {t} (e : execSupplyMissing dt g s = .next t) : Keeps [.reg .knl, .reg .que, .reg .dio, .reg .err, .sets, .clk, .bulk, .log, .knl, .que, .dio] s t := by
  have hm := within_refl [.reg .knl, .reg .que, .reg .dio, .reg .err, .sets, .clk, .bulk, .log, .knl, .que, .dio]
  have h := Keeps.refl [.reg .knl, .reg .que, .reg .dio, .reg .err, .sets, .clk, .bulk, .log, .knl, .que, .dio] s
  simp only [execSupplyMissing, Host.Outcome.next.injEq] at e
  subst e
  repeat' with_reducible first
    | exact h
    | refine keeps_ite (fun _ => ?_) (fun _ => ?_)
    | refine State.elapse_keeps ?_ (within_trans hm (by decide))
    | refine State.supplyWarn_keeps (by first | exact DIO_GCNT_MISSCNT_blk .. | exact DIO_GST_MISSW_blk .. | (refine blk_ite ?_ ?_ <;> first | exact DIO_GCNT_MISSCNT_blk .. | exact DIO_GST_MISSW_blk ..)) (by first | exact DIO_GCNT_MISSCNT_blk .. | exact DIO_GST_MISSW_blk .. | (refine blk_ite ?_ ?_ <;> first | exact DIO_GCNT_MISSCNT_blk .. | exact DIO_GST_MISSW_blk ..)) ?_ (within_trans hm (by decide))
    | refine keeps_pair (by assumption) ?_
    | split

theorem execSupplyOff_keeps {dt g} {t} (e : execSupplyOff dt g s = .next t) : Keeps [.reg .knl, .reg .que, .reg .dio, .reg .err, .sets, .clk, .bulk, .log, .knl, .que, .dio] s t := by
  have hm := within_refl [.reg .knl, .reg .que, .reg .dio, .reg .err, .sets, .clk, .bulk, .log, .knl, .que, .dio]
  have h := Keeps.refl [.reg .knl, .reg .que, .reg .dio, .reg .err, .sets, .clk, .bulk, .log, .knl, .que, .dio] s
  simp only [execSupplyOff, Host.Outcome.next.injEq] at e
  subst e
  repeat' with_reducible first
    | exact h
    | refine keeps_ite (fun _ => ?_) (fun _ => ?_)
    | refine State.supplyState_keeps ?_ (within_trans hm (by decide))
    | refine State.elapse_keeps ?_ (within_trans hm (by decide))
    | refine keeps_pair (by assumption) ?_
    | split

theorem execSupplyOk_keeps {dt g} {t} (e : execSupplyOk dt g s = .next t) : Keeps [.reg .knl, .reg .que, .reg .dio, .reg .err, .sets, .clk, .bulk, .log, .knl, .que, .dio] s t := by
  have hm := within_refl [.reg .knl, .reg .que, .reg .dio, .reg .err, .sets, .clk, .bulk, .log, .knl, .que, .dio]
  have h := Keeps.refl [.reg .knl, .reg .que, .reg .dio, .reg .err, .sets, .clk, .bulk, .log, .knl, .que, .dio] s
  simp only [execSupplyOk, Host.Outcome.next.injEq] at e
  subst e
  repeat' with_reducible first
    | exact h
    | refine keeps_ite (fun _ => ?_) (fun _ => ?_)
    | refine State.supplyState_keeps ?_ (within_trans hm (by decide))
    | refine State.elapse_keeps ?_ (within_trans hm (by decide))
    | refine keeps_pair (by assumption) ?_
    | split

theorem execCamSwitchEdge_keeps {dt t'} {t} (e : execCamSwitchEdge dt t' s = .next t) : Keeps [.reg .prf, .reg .knl, .reg .que, .reg .dio, .reg .err, .sets, .clk, .bulk, .log, .knl, .que, .dio] s t := by
  have hm := within_refl [.reg .prf, .reg .knl, .reg .que, .reg .dio, .reg .err, .sets, .clk, .bulk, .log, .knl, .que, .dio]
  have h := Keeps.refl [.reg .prf, .reg .knl, .reg .que, .reg .dio, .reg .err, .sets, .clk, .bulk, .log, .knl, .que, .dio] s
  simp only [execCamSwitchEdge, Host.Outcome.next.injEq] at e
  subst e
  repeat' with_reducible first
    | exact h
    | refine keeps_ite (fun _ => ?_) (fun _ => ?_)
    | refine State.camEdge_keeps ?_ (within_trans hm (by decide))
    | refine State.elapse_keeps ?_ (within_trans hm (by decide))
    | refine keeps_pair (by assumption) ?_
    | split

/-! ### Program -/

/-! ### AxisCheck -/

/-! ### Limits -/

theorem State.effSet_keeps {f v b} (hb : InBlk b f.addr) (h : Keeps m s0 s) (hm : within (.reg b :: []) m = true) :
    Keeps m s0 (s.effSet f v) := by
  unfold State.effSet
  exact keeps_ite (fun _ => State.wr64_keeps hb h (within_trans hm (by simp [within]))) (fun _ => State.put_keeps hb h
    (within_trans hm (by simp [within])))

theorem effField_blk {addr : Nat} {e : EffField} (h : effField addr = some e) : InBlk .lsh e.fld.addr := by
  unfold effField at h
  dsimp only at h
  repeat' split at h
  all_goals first
    | (simp only [Option.some.injEq] at h; subst h; first
        | exact LSH_IPK_blk .. | exact LSH_ICT_blk .. | exact LSH_DUTY_blk .. | exact LSH_DTF_blk .. | exact LSH_MPW_blk ..
        | (dsimp only [whole, InBlk, Block.num]; simp only [LSH_DOUT_E, LSH_DHOLD_E, LSH_AUXDUTY, LSH_AUXDTF, LSH_AUXMPW] at *; omega))
    | contradiction

theorem State.leashWrite_keeps {who addr v} (h : Keeps m s0 s) (hm : within [.reg .lsh, .reg .err, .bus, .log, .lim] m = true) : Keeps m s0 (State.leashWrite who addr v s) := by
  unfold State.leashWrite
  try dsimp only
  repeat' with_reducible first
    | exact h
    | refine keeps_ite (fun _ => ?_) (fun _ => ?_)
    | refine State.onLim_keeps ?_ (within_trans hm (by decide))
    | refine State.accessError_keeps ?_ (within_trans hm (by decide))
    | refine State.satBump_keeps (by first | exact LSH_STAT_REFUSED_blk ..) ?_ (within_trans hm (by decide))
    | refine keeps_pair (by assumption) ?_
    | split

theorem State.permClamp_keeps {old} (h : Keeps m s0 s) (hm : within [.reg .lsh, .reg .err, .sets, .log] m = true) : Keeps m s0 (State.permClamp old s) := by
  unfold State.permClamp
  try dsimp only
  repeat' with_reducible first
    | exact h
    | refine keeps_ite (fun _ => ?_) (fun _ => ?_)
    | refine State.latch_keeps (by first | exact LSH_STAT_DIOCLAMP_blk ..) ?_ (within_trans hm (by decide))
    | refine State.report_keeps ?_ (within_trans hm (by decide))
    | refine keeps_pair (by assumption) ?_
    | split

theorem State.lowerNow_keeps {addr} (h : Keeps m s0 s) (hm : within [.reg .lsh, .reg .err, .sets, .log, .lim] m = true) : Keeps m s0 (State.lowerNow addr s) := by
  unfold State.lowerNow
  try dsimp only
  repeat' with_reducible first
    | exact h
    | refine keeps_ite (fun _ => ?_) (fun _ => ?_)
    | refine State.effSet_keeps (by first | exact effField_blk (by assumption)) ?_ (within_trans hm (by decide))
    | refine State.onLim_keeps ?_ (within_trans hm (by decide))
    | refine State.permClamp_keeps ?_ (within_trans hm (by decide))
    | refine keeps_foldl ?_ _ ?_
    | refine keeps_foldl_snd ?_ _ ?_
    | (intro _ _ h; try dsimp only)
    | refine keeps_pair (by assumption) ?_
    | split

theorem State.lowerAll_keeps {p} (h : Keeps m s0 s) (hm : within [.reg .lsh, .reg .err, .sets, .log, .lim] m = true) : Keeps m s0 (State.lowerAll p s) := by
  unfold State.lowerAll
  try dsimp only
  repeat' with_reducible first
    | exact h
    | refine keeps_ite (fun _ => ?_) (fun _ => ?_)
    | refine State.lowerNow_keeps ?_ (within_trans hm (by decide))
    | refine keeps_foldl ?_ _ ?_
    | refine keeps_foldl_snd ?_ _ ?_
    | (intro _ _ h; try dsimp only)
    | refine keeps_pair (by assumption) ?_
    | split

theorem State.discardLowerings_keeps (h : Keeps m s0 s) (hm : within [.reg .lsh, .lim] m = true) : Keeps m s0 (State.discardLowerings s) := by
  unfold State.discardLowerings
  try dsimp only
  repeat' with_reducible first
    | exact h
    | refine keeps_ite (fun _ => ?_) (fun _ => ?_)
    | refine State.satBump_keeps (by first | exact LSH_STAT_DISCARD_blk ..) ?_ (within_trans hm (by decide))
    | refine State.onLim_keeps ?_ (within_trans hm (by decide))
    | refine keeps_pair (by assumption) ?_
    | split

theorem State.commitRequest_keeps {n g} (h : Keeps m s0 s) (hm : within [.reg .prf, .lim] m = true) : Keeps m s0 (State.commitRequest n g s) := by
  unfold State.commitRequest
  try dsimp only
  repeat' with_reducible first
    | exact h
    | refine keeps_ite (fun _ => ?_) (fun _ => ?_)
    | refine State.put_keeps (by first | exact PRF_AXST_PENDCMT_blk .. | exact PRF_TCST_ENTRY_blk .. | exact PRF_TCST_NEWGEN_blk .. | exact PRF_TCST_PEND_blk .. | exact PRF_TCST_RESULT_blk .. | (refine blk_ite ?_ ?_ <;> first | exact PRF_AXST_PENDCMT_blk .. | exact PRF_TCST_ENTRY_blk .. | exact PRF_TCST_NEWGEN_blk .. | exact PRF_TCST_PEND_blk .. | exact PRF_TCST_RESULT_blk ..)) ?_ (within_trans hm (by decide))
    | refine State.onLim_keeps ?_ (within_trans hm (by decide))
    | refine State.mark_keeps (by first | exact PRF_AXST_PENDCMT_blk .. | exact PRF_TCST_ENTRY_blk .. | exact PRF_TCST_NEWGEN_blk .. | exact PRF_TCST_PEND_blk .. | exact PRF_TCST_RESULT_blk .. | (refine blk_ite ?_ ?_ <;> first | exact PRF_AXST_PENDCMT_blk .. | exact PRF_TCST_ENTRY_blk .. | exact PRF_TCST_NEWGEN_blk .. | exact PRF_TCST_PEND_blk .. | exact PRF_TCST_RESULT_blk ..)) ?_ (within_trans hm (by decide))
    | refine keeps_pair (by assumption) ?_
    | split

theorem State.showDelays_keeps {a} (h : Keeps m s0 s) (hm : within [.reg .csf] m = true) : Keeps m s0 (State.showDelays a s) := by
  unfold State.showDelays
  try dsimp only
  repeat' with_reducible first
    | exact h
    | refine keeps_ite (fun _ => ?_) (fun _ => ?_)
    | refine State.wr_keeps (by first | exact CSF_DLYF_blk .. | exact whole_blk (CSF_DLYF_blk ..) | exact CSF_DLYP_blk .. | exact whole_blk (CSF_DLYP_blk ..) | (refine blk_ite ?_ ?_ <;> first | exact CSF_DLYF_blk .. | exact whole_blk (CSF_DLYF_blk ..) | exact CSF_DLYP_blk .. | exact whole_blk (CSF_DLYP_blk ..))) ?_ (within_trans hm (by decide))
    | refine keeps_pair (by assumption) ?_
    | split

theorem State.putEntry_keeps {n g new} (h : Keeps m s0 s) (hm : within [.reg .prf, .bulk] m = true) : Keeps m s0 (State.putEntry n g new s) := by
  unfold State.putEntry
  try dsimp only
  repeat' with_reducible first
    | exact h
    | refine keeps_ite (fun _ => ?_) (fun _ => ?_)
    | refine State.bulkStore_keeps ?_ (within_trans hm (by decide))
    | refine State.put_keeps (by first | exact PRF_AXGEN_CGEN_blk ..) ?_ (within_trans hm (by decide))
    | refine keeps_pair (by assumption) ?_
    | split

theorem State.showContext_keeps {a} (h : Keeps m s0 s) (hm : within [.reg .eng] m = true) : Keeps m s0 (State.showContext a s) := by
  unfold State.showContext
  try dsimp only
  repeat' with_reducible first
    | exact h
    | refine keeps_ite (fun _ => ?_) (fun _ => ?_)
    | refine State.wrs_cons ?_
    | refine State.wrs_nil ?_
    | refine State.wr_keeps (by first | exact ENG_BAND_blk .. | exact whole_blk (ENG_BAND_blk ..) | exact ENG_BAND_HYST_blk .. | exact ENG_BAND_MINDW_blk .. | exact ENG_BPER_blk .. | exact whole_blk (ENG_BPER_blk ..) | exact ENG_CTX_blk .. | exact whole_blk (ENG_CTX_blk ..) | exact ENG_CTX_DIVCUR_blk .. | exact ENG_CTX_DIVPOS_blk .. | exact ENG_CTX_DIVVEL_blk .. | exact ENG_CTX_MODE_blk .. | exact ENG_CTX_SCALE_blk .. | exact ENG_CTX_WPH_blk .. | exact ENG_TCTX_blk .. | exact whole_blk (ENG_TCTX_blk ..) | (refine blk_ite ?_ ?_ <;> first | exact ENG_BAND_blk .. | exact whole_blk (ENG_BAND_blk ..) | exact ENG_BAND_HYST_blk .. | exact ENG_BAND_MINDW_blk .. | exact ENG_BPER_blk .. | exact whole_blk (ENG_BPER_blk ..) | exact ENG_CTX_blk .. | exact whole_blk (ENG_CTX_blk ..) | exact ENG_CTX_DIVCUR_blk .. | exact ENG_CTX_DIVPOS_blk .. | exact ENG_CTX_DIVVEL_blk .. | exact ENG_CTX_MODE_blk .. | exact ENG_CTX_SCALE_blk .. | exact ENG_CTX_WPH_blk .. | exact ENG_TCTX_blk .. | exact whole_blk (ENG_TCTX_blk ..))) ?_ (within_trans hm (by decide))
    | refine State.puts_cons ?_
    | refine State.puts_nil ?_
    | refine State.put_keeps (by first | exact ENG_BAND_blk .. | exact whole_blk (ENG_BAND_blk ..) | exact ENG_BAND_HYST_blk .. | exact ENG_BAND_MINDW_blk .. | exact ENG_BPER_blk .. | exact whole_blk (ENG_BPER_blk ..) | exact ENG_CTX_blk .. | exact whole_blk (ENG_CTX_blk ..) | exact ENG_CTX_DIVCUR_blk .. | exact ENG_CTX_DIVPOS_blk .. | exact ENG_CTX_DIVVEL_blk .. | exact ENG_CTX_MODE_blk .. | exact ENG_CTX_SCALE_blk .. | exact ENG_CTX_WPH_blk .. | exact ENG_TCTX_blk .. | exact whole_blk (ENG_TCTX_blk ..) | (refine blk_ite ?_ ?_ <;> first | exact ENG_BAND_blk .. | exact whole_blk (ENG_BAND_blk ..) | exact ENG_BAND_HYST_blk .. | exact ENG_BAND_MINDW_blk .. | exact ENG_BPER_blk .. | exact whole_blk (ENG_BPER_blk ..) | exact ENG_CTX_blk .. | exact whole_blk (ENG_CTX_blk ..) | exact ENG_CTX_DIVCUR_blk .. | exact ENG_CTX_DIVPOS_blk .. | exact ENG_CTX_DIVVEL_blk .. | exact ENG_CTX_MODE_blk .. | exact ENG_CTX_SCALE_blk .. | exact ENG_CTX_WPH_blk .. | exact ENG_TCTX_blk .. | exact whole_blk (ENG_TCTX_blk ..))) ?_ (within_trans hm (by decide))
    | refine keeps_pair (by assumption) ?_
    | split

theorem State.rescaleSet_keeps {a p} (h : Keeps m s0 s) (hm : within [.reg .lsh, .reg .err, .sets, .log, .axes] m = true) : Keeps m s0 (State.rescaleSet a p s).2 := by
  unfold State.rescaleSet
  try dsimp only
  repeat' with_reducible first
    | exact h
    | refine keeps_ite (fun _ => ?_) (fun _ => ?_)
    | refine State.clampFlags_keeps ?_ (within_trans hm (by decide))
    | refine keeps_foldl ?_ _ ?_
    | refine keeps_foldl_snd ?_ _ ?_
    | (intro _ _ h; try dsimp only)
    | refine keeps_pair (by assumption) ?_
    | split

theorem State.newPeriod_keeps {a} (h : Keeps m s0 s) (hm : within [.reg .lsh, .reg .pwm, .reg .err, .sets, .log, .axes, .pwm] m = true) : Keeps m s0 (State.newPeriod a s) := by
  unfold State.newPeriod
  try dsimp only
  repeat' with_reducible first
    | exact h
    | refine keeps_ite (fun _ => ?_) (fun _ => ?_)
    | refine State.onPax_keeps ?_ (within_trans hm (by decide))
    | refine State.rescaleSet_keeps ?_ (within_trans hm (by decide))
    | refine State.wr_keeps (by first | exact PWM_CMP_blk .. | exact whole_blk (PWM_CMP_blk ..) | exact PWM_PER_blk .. | exact whole_blk (PWM_PER_blk ..) | (refine blk_ite ?_ ?_ <;> first | exact PWM_CMP_blk .. | exact whole_blk (PWM_CMP_blk ..) | exact PWM_PER_blk .. | exact whole_blk (PWM_PER_blk ..))) ?_ (within_trans hm (by decide))
    | refine keeps_foldl ?_ _ ?_
    | refine keeps_foldl_snd ?_ _ ?_
    | (intro _ _ h; try dsimp only)
    | refine keeps_pair (by assumption) ?_
    | split

theorem State.newTiming_keeps {a old} (h : Keeps m s0 s) (hm : within [.reg .lsh, .reg .pwm, .reg .err, .sets, .log, .axes, .pwm] m = true) : Keeps m s0 (State.newTiming a old s) := by
  unfold State.newTiming
  try dsimp only
  repeat' with_reducible first
    | exact h
    | refine keeps_ite (fun _ => ?_) (fun _ => ?_)
    | refine State.onPax_keeps ?_ (within_trans hm (by decide))
    | refine State.newPeriod_keeps ?_ (within_trans hm (by decide))
    | refine keeps_getD (fun _ _ => ?_) ?_
    | refine keeps_pair (by assumption) ?_
    | split

theorem State.switchCaches_keeps {n old changeover} (h : Keeps m s0 s) (hm : within [.reg .lsh, .reg .prf, .reg .eng, .reg .csf, .reg .pwm, .reg .rng, .reg .err, .fresh, .sets, .log, .axes, .eng, .pwm, .drn, .ine, .shp] m = true) : Keeps m s0 (State.switchCaches n old changeover s) := by
  unfold State.switchCaches
  try dsimp only
  repeat' with_reducible first
    | exact h
    | refine keeps_ite (fun _ => ?_) (fun _ => ?_)
    | refine State.onAxis_keeps ?_ (within_trans hm (by decide))
    | refine State.showDarner_keeps ?_ (within_trans hm (by decide))
    | refine State.loadParam_keeps ?_ (within_trans hm (by decide))
    | refine State.showContext_keeps ?_ (within_trans hm (by decide))
    | refine State.showDelays_keeps ?_ (within_trans hm (by decide))
    | refine State.tagDarner_keeps ?_ (within_trans hm (by decide))
    | refine State.revalidate_keeps ?_ (within_trans hm (by decide))
    | refine State.newTiming_keeps ?_ (within_trans hm (by decide))
    | refine State.presetInertia_keeps ?_ (within_trans hm (by decide))
    | refine State.handOverCommit_keeps ?_ (within_trans hm (by decide))
    | refine State.setPreset_keeps ?_ (within_trans hm (by decide))
    | refine State.sheepPending_keeps ?_ (within_trans hm (by decide))
    | refine State.showMexp_keeps ?_ (within_trans hm (by decide))
    | refine keeps_pair (by assumption) ?_
    | split

theorem State.commitEffect_keeps {c} (h : Keeps m s0 s) (hm : within [.reg .lsh, .reg .prf, .reg .eng, .reg .csf, .reg .fbk, .reg .pwm, .reg .knl, .reg .rng, .reg .err, .fresh, .sets, .bulk, .log, .knl, .axes, .lim, .prf, .eng, .pwm, .drn, .ine, .shp, .csf, .ports] m = true) : Keeps m s0 (State.commitEffect c s) := by
  unfold State.commitEffect
  try dsimp only
  repeat' with_reducible first
    | exact h
    | refine keeps_ite (fun _ => ?_) (fun _ => ?_)
    | refine State.switchCaches_keeps ?_ (within_trans hm (by decide))
    | refine State.putEntry_keeps ?_ (within_trans hm (by decide))
    | refine State.onLim_keeps ?_ (within_trans hm (by decide))
    | refine State.put_keeps (by first | exact PRF_AXST_PENDCMT_blk .. | exact PRF_TCST_PEND_blk .. | (refine blk_ite ?_ ?_ <;> first | exact PRF_AXST_PENDCMT_blk .. | exact PRF_TCST_PEND_blk ..)) ?_ (within_trans hm (by decide))
    | refine State.mark_keeps (by first | exact PRF_AXST_PENDCMT_blk .. | exact PRF_TCST_PEND_blk .. | (refine blk_ite ?_ ?_ <;> first | exact PRF_AXST_PENDCMT_blk .. | exact PRF_TCST_PEND_blk ..)) ?_ (within_trans hm (by decide))
    | refine State.requestEnable_keeps ?_ (within_trans hm (by decide))
    | refine State.onAxis_keeps ?_ (within_trans hm (by decide))
    | refine keeps_pair (by assumption) ?_
    | split

theorem State.commitsNow_keeps {p} (h : Keeps m s0 s) (hm : within [.reg .lsh, .reg .prf, .reg .eng, .reg .csf, .reg .fbk, .reg .pwm, .reg .knl, .reg .rng, .reg .err, .fresh, .sets, .bulk, .log, .knl, .axes, .lim, .prf, .eng, .pwm, .drn, .ine, .shp, .csf, .ports] m = true) : Keeps m s0 (State.commitsNow p s) := by
  unfold State.commitsNow
  try dsimp only
  repeat' with_reducible first
    | exact h
    | refine keeps_ite (fun _ => ?_) (fun _ => ?_)
    | refine State.commitEffect_keeps ?_ (within_trans hm (by decide))
    | refine keeps_foldl ?_ _ ?_
    | refine keeps_foldl_snd ?_ _ ?_
    | (intro _ _ h; try dsimp only)
    | refine keeps_pair (by assumption) ?_
    | split

theorem execLeashEffectiveWrite_keeps {dt who addr value} {t} (e : execLeashEffectiveWrite dt who addr value s = .next t) : Keeps [.reg .lsh, .reg .err, .sets, .clk, .bus, .log, .lim] s t := by
  have hm := within_refl [.reg .lsh, .reg .err, .sets, .clk, .bus, .log, .lim]
  have h := Keeps.refl [.reg .lsh, .reg .err, .sets, .clk, .bus, .log, .lim] s
  simp only [execLeashEffectiveWrite, Host.Outcome.next.injEq] at e
  subst e
  repeat' with_reducible first
    | exact h
    | refine keeps_ite (fun _ => ?_) (fun _ => ?_)
    | refine State.leashWrite_keeps ?_ (within_trans hm (by decide))
    | refine State.elapse_keeps ?_ (within_trans hm (by decide))
    | refine keeps_pair (by assumption) ?_
    | split

theorem execLoweringTakesEffect_keeps {dt addr} {t} (e : execLoweringTakesEffect dt addr s = .next t) : Keeps [.reg .lsh, .reg .err, .sets, .clk, .log, .lim] s t := by
  have hm := within_refl [.reg .lsh, .reg .err, .sets, .clk, .log, .lim]
  have h := Keeps.refl [.reg .lsh, .reg .err, .sets, .clk, .log, .lim] s
  simp only [execLoweringTakesEffect, Host.Outcome.next.injEq] at e
  subst e
  repeat' with_reducible first
    | exact h
    | refine keeps_ite (fun _ => ?_) (fun _ => ?_)
    | refine State.lowerNow_keeps ?_ (within_trans hm (by decide))
    | refine State.elapse_keeps ?_ (within_trans hm (by decide))
    | refine keeps_pair (by assumption) ?_
    | split

theorem execTableCommitRequest_keeps {dt n expgen} {t} (e : execTableCommitRequest dt n expgen s = .next t) : Keeps [.reg .prf, .sets, .clk, .lim] s t := by
  have hm := within_refl [.reg .prf, .sets, .clk, .lim]
  have h := Keeps.refl [.reg .prf, .sets, .clk, .lim] s
  simp only [execTableCommitRequest, Host.Outcome.next.injEq] at e
  subst e
  repeat' with_reducible first
    | exact h
    | refine keeps_ite (fun _ => ?_) (fun _ => ?_)
    | refine State.commitRequest_keeps ?_ (within_trans hm (by decide))
    | refine State.elapse_keeps ?_ (within_trans hm (by decide))
    | refine keeps_pair (by assumption) ?_
    | split

theorem execTableCommitEffect_keeps {dt n} {t} (e : execTableCommitEffect dt n s = .next t) : Keeps [.reg .lsh, .reg .prf, .reg .eng, .reg .csf, .reg .fbk, .reg .pwm, .reg .knl, .reg .rng, .reg .err, .fresh, .sets, .clk, .bulk, .log, .knl, .axes, .lim, .prf, .eng, .pwm, .drn, .ine, .shp, .csf, .ports] s t := by
  have hm := within_refl [.reg .lsh, .reg .prf, .reg .eng, .reg .csf, .reg .fbk, .reg .pwm, .reg .knl, .reg .rng, .reg .err, .fresh, .sets, .clk, .bulk, .log, .knl, .axes, .lim, .prf, .eng, .pwm, .drn, .ine, .shp, .csf, .ports]
  have h := Keeps.refl [.reg .lsh, .reg .prf, .reg .eng, .reg .csf, .reg .fbk, .reg .pwm, .reg .knl, .reg .rng, .reg .err, .fresh, .sets, .clk, .bulk, .log, .knl, .axes, .lim, .prf, .eng, .pwm, .drn, .ine, .shp, .csf, .ports] s
  simp only [execTableCommitEffect, Host.Outcome.next.injEq] at e
  subst e
  repeat' with_reducible first
    | exact h
    | refine keeps_ite (fun _ => ?_) (fun _ => ?_)
    | refine State.commitsNow_keeps ?_ (within_trans hm (by decide))
    | refine State.elapse_keeps ?_ (within_trans hm (by decide))
    | refine keeps_pair (by assumption) ?_
    | split

/-! ### Sense -/

theorem State.showCurrents_keeps {a fast v} (h : Keeps m s0 s) (hm : within [.reg .csf, .sets, .csf] m = true) : Keeps m s0 (State.showCurrents a fast v s) := by
  unfold State.showCurrents
  try dsimp only
  repeat' with_reducible first
    | exact h
    | refine keeps_ite (fun _ => ?_) (fun _ => ?_)
    | refine State.putS_keeps (by first | exact CSF_CST_SAT_blk .. | exact CSF_VAL_FAST_blk .. | exact CSF_VAL_PREC_blk .. | (refine blk_ite ?_ ?_ <;> first | exact CSF_CST_SAT_blk .. | exact CSF_VAL_FAST_blk .. | exact CSF_VAL_PREC_blk ..)) ?_ (within_trans hm (by decide))
    | refine State.onCsf_keeps ?_ (within_trans hm (by decide))
    | refine State.latch_keeps (by first | exact CSF_CST_SAT_blk .. | exact CSF_VAL_FAST_blk .. | exact CSF_VAL_PREC_blk .. | (refine blk_ite ?_ ?_ <;> first | exact CSF_CST_SAT_blk .. | exact CSF_VAL_FAST_blk .. | exact CSF_VAL_PREC_blk ..)) ?_ (within_trans hm (by decide))
    | refine keeps_foldl ?_ _ ?_
    | refine keeps_foldl_snd ?_ _ ?_
    | (intro _ _ h; try dsimp only)
    | refine keeps_getD (fun _ _ => ?_) ?_
    | refine keeps_pair (by assumption) ?_
    | split

theorem State.tellStream_keeps {a h' l} (h : Keeps m s0 s) (hm : within [.reg .csf, .sets, .csf] m = true) : Keeps m s0 (State.tellStream a h' l s) := by
  unfold State.tellStream
  try dsimp only
  repeat' with_reducible first
    | exact h
    | refine keeps_ite (fun _ => ?_) (fun _ => ?_)
    | refine State.onCsf_keeps ?_ (within_trans hm (by decide))
    | refine State.putS_keeps (by first | exact CSF_CST_SAT_blk .. | exact CSF_VAL_FAST_blk .. | exact CSF_VAL_PREC_blk .. | (refine blk_ite ?_ ?_ <;> first | exact CSF_CST_SAT_blk .. | exact CSF_VAL_FAST_blk .. | exact CSF_VAL_PREC_blk ..)) ?_ (within_trans hm (by decide))
    | refine State.latch_keeps (by first | exact CSF_CST_SAT_blk .. | exact CSF_VAL_FAST_blk .. | exact CSF_VAL_PREC_blk .. | (refine blk_ite ?_ ?_ <;> first | exact CSF_CST_SAT_blk .. | exact CSF_VAL_FAST_blk .. | exact CSF_VAL_PREC_blk ..)) ?_ (within_trans hm (by decide))
    | refine keeps_pair (by assumption) ?_
    | split

theorem State.strobe_keeps {a bits} (h : Keeps m s0 s) (hm : within [.reg .csf, .reg .dio, .fresh, .sets, .axes, .eng, .csf] m = true) : Keeps m s0 (State.strobe a bits s) := by
  unfold State.strobe
  try dsimp only
  repeat' with_reducible first
    | exact h
    | refine keeps_ite (fun _ => ?_) (fun _ => ?_)
    | refine State.showCurrents_keeps ?_ (within_trans hm (by decide))
    | refine State.onCx_keeps ?_ (within_trans hm (by decide))
    | refine State.onCsf_keeps ?_ (within_trans hm (by decide))
    | refine State.stepFive_keeps ?_ (within_trans hm (by decide))
    | refine State.handOverEnable_keeps ?_ (within_trans hm (by decide))
    | refine keeps_getD (fun _ _ => ?_) ?_
    | refine keeps_pair (by assumption) ?_
    | split

theorem State.senseFault_keeps {a code} (h : Keeps m s0 s) (hm : within [.reg .prf, .reg .eng, .reg .csf, .reg .fbk, .reg .pwm, .reg .knl, .reg .que, .reg .acq, .reg .dio, .reg .err, .sets, .bulk, .log, .knl, .que, .axes, .prf, .pwm, .drn, .probes, .acq] m = true) : Keeps m s0 (State.senseFault a code s) := by
  unfold State.senseFault
  try dsimp only
  repeat' with_reducible first
    | exact h
    | refine keeps_ite (fun _ => ?_) (fun _ => ?_)
    | refine State.feedbackFault_keeps ?_ (within_trans hm (by decide))
    | refine State.portFault_keeps ?_ (within_trans hm (by decide))
    | refine keeps_pair (by assumption) ?_
    | split

theorem State.streamCheck_keeps {c l} (h : Keeps m s0 s) (hm : within [.reg .prf, .reg .eng, .reg .csf, .reg .fbk, .reg .pwm, .reg .knl, .reg .que, .reg .acq, .reg .dio, .reg .err, .sets, .bulk, .log, .knl, .que, .axes, .prf, .pwm, .drn, .csf, .probes, .acq] m = true) : Keeps m s0 (State.streamCheck c l s) := by
  unfold State.streamCheck
  try dsimp only
  repeat' with_reducible first
    | exact h
    | refine keeps_ite (fun _ => ?_) (fun _ => ?_)
    | refine State.tellStream_keeps ?_ (within_trans hm (by decide))
    | refine State.severe_keeps ?_ (within_trans hm (by decide))
    | refine State.mark_keeps (by first | exact CSF_CST_STUCK_blk .. | exact PWM_AUXST_STUCK_blk .. | (refine blk_ite ?_ ?_ <;> first | exact CSF_CST_STUCK_blk .. | exact PWM_AUXST_STUCK_blk ..)) ?_ (within_trans hm (by decide))
    | refine State.onPwm_keeps ?_ (within_trans hm (by decide))
    | refine State.onCsf_keeps ?_ (within_trans hm (by decide))
    | refine State.senseFault_keeps ?_ (within_trans hm (by decide))
    | refine State.latch_keeps (by first | exact CSF_CST_STUCK_blk .. | exact PWM_AUXST_STUCK_blk .. | (refine blk_ite ?_ ?_ <;> first | exact CSF_CST_STUCK_blk .. | exact PWM_AUXST_STUCK_blk ..)) ?_ (within_trans hm (by decide))
    | refine keeps_foldl ?_ _ ?_
    | refine keeps_foldl_snd ?_ _ ?_
    | (intro _ _ h; try dsimp only)
    | refine keeps_pair (by assumption) ?_
    | split

theorem execFastOvercurrent_keeps {dt a h' l} {t} (e : execFastOvercurrent dt a h' l s = .next t) : Keeps [.reg .prf, .reg .eng, .reg .csf, .reg .fbk, .reg .pwm, .reg .knl, .reg .que, .reg .acq, .reg .dio, .reg .err, .fresh, .sets, .clk, .bulk, .log, .knl, .que, .axes, .prf, .pwm, .drn, .csf, .probes, .acq] s t := by
  have hm := within_refl [.reg .prf, .reg .eng, .reg .csf, .reg .fbk, .reg .pwm, .reg .knl, .reg .que, .reg .acq, .reg .dio, .reg .err, .fresh, .sets, .clk, .bulk, .log, .knl, .que, .axes, .prf, .pwm, .drn, .csf, .probes, .acq]
  have h := Keeps.refl [.reg .prf, .reg .eng, .reg .csf, .reg .fbk, .reg .pwm, .reg .knl, .reg .que, .reg .acq, .reg .dio, .reg .err, .fresh, .sets, .clk, .bulk, .log, .knl, .que, .axes, .prf, .pwm, .drn, .csf, .probes, .acq] s
  simp only [execFastOvercurrent, Host.Outcome.next.injEq] at e
  subst e
  repeat' with_reducible first
    | exact h
    | refine keeps_ite (fun _ => ?_) (fun _ => ?_)
    | refine State.elapse_keeps ?_ (within_trans hm (by decide))
    | refine State.tellStream_keeps ?_ (within_trans hm (by decide))
    | refine State.drew_keeps ?_ (within_trans hm (by decide))
    | refine State.hardFault_keeps ?_ (within_trans hm (by decide))
    | refine State.latch_keeps (by first | exact CSF_CST_OC_blk ..) ?_ (within_trans hm (by decide))
    | refine State.gatesOff_keeps ?_ (within_trans hm (by decide))
    | refine keeps_pair (by assumption) ?_
    | split

theorem execStuckChannel_keeps {dt c l} {t} (e : execStuckChannel dt c l s = .next t) : Keeps [.reg .prf, .reg .eng, .reg .csf, .reg .fbk, .reg .pwm, .reg .knl, .reg .que, .reg .acq, .reg .dio, .reg .err, .sets, .clk, .bulk, .log, .knl, .que, .axes, .prf, .pwm, .drn, .csf, .probes, .acq] s t := by
  have hm := within_refl [.reg .prf, .reg .eng, .reg .csf, .reg .fbk, .reg .pwm, .reg .knl, .reg .que, .reg .acq, .reg .dio, .reg .err, .sets, .clk, .bulk, .log, .knl, .que, .axes, .prf, .pwm, .drn, .csf, .probes, .acq]
  have h := Keeps.refl [.reg .prf, .reg .eng, .reg .csf, .reg .fbk, .reg .pwm, .reg .knl, .reg .que, .reg .acq, .reg .dio, .reg .err, .sets, .clk, .bulk, .log, .knl, .que, .axes, .prf, .pwm, .drn, .csf, .probes, .acq] s
  simp only [execStuckChannel, Host.Outcome.next.injEq] at e
  subst e
  repeat' with_reducible first
    | exact h
    | refine keeps_ite (fun _ => ?_) (fun _ => ?_)
    | refine State.elapse_keeps ?_ (within_trans hm (by decide))
    | refine State.streamCheck_keeps ?_ (within_trans hm (by decide))
    | refine keeps_pair (by assumption) ?_
    | split

theorem execSumCheckFail_keeps {dt a} {t} (e : execSumCheckFail dt a s = .next t) : Keeps [.reg .prf, .reg .eng, .reg .csf, .reg .fbk, .reg .pwm, .reg .knl, .reg .que, .reg .acq, .reg .dio, .reg .err, .sets, .clk, .bulk, .log, .knl, .que, .axes, .prf, .pwm, .drn, .csf, .probes, .acq] s t := by
  have hm := within_refl [.reg .prf, .reg .eng, .reg .csf, .reg .fbk, .reg .pwm, .reg .knl, .reg .que, .reg .acq, .reg .dio, .reg .err, .sets, .clk, .bulk, .log, .knl, .que, .axes, .prf, .pwm, .drn, .csf, .probes, .acq]
  have h := Keeps.refl [.reg .prf, .reg .eng, .reg .csf, .reg .fbk, .reg .pwm, .reg .knl, .reg .que, .reg .acq, .reg .dio, .reg .err, .sets, .clk, .bulk, .log, .knl, .que, .axes, .prf, .pwm, .drn, .csf, .probes, .acq] s
  simp only [execSumCheckFail, Host.Outcome.next.injEq] at e
  subst e
  repeat' with_reducible first
    | exact h
    | refine keeps_ite (fun _ => ?_) (fun _ => ?_)
    | refine State.elapse_keeps ?_ (within_trans hm (by decide))
    | refine State.onCsf_keeps ?_ (within_trans hm (by decide))
    | refine State.senseFault_keeps ?_ (within_trans hm (by decide))
    | refine State.latch_keeps (by first | exact CSF_CST_SUM_blk ..) ?_ (within_trans hm (by decide))
    | refine keeps_foldl ?_ _ ?_
    | refine keeps_foldl_snd ?_ _ ?_
    | (intro _ _ h; try dsimp only)
    | refine keeps_pair (by assumption) ?_
    | split

/-! ### Encoders -/

theorem State.quadEdge_keeps {p a b} (h : Keeps m s0 s) (hm : within [.reg .prf, .reg .eng, .reg .csf, .reg .fbk, .reg .pwm, .reg .knl, .reg .que, .reg .acq, .reg .dio, .reg .err, .sets, .bulk, .log, .knl, .que, .axes, .prf, .pwm, .drn, .ports, .probes, .acq] m = true) : Keeps m s0 (State.quadEdge p a b s) := by
  unfold State.quadEdge
  try dsimp only
  repeat' with_reducible first
    | exact h
    | refine keeps_ite (fun _ => ?_) (fun _ => ?_)
    | refine State.onPort_keeps ?_ (within_trans hm (by decide))
    | refine State.portFault_keeps ?_ (within_trans hm (by decide))
    | refine State.wr64S_keeps (by first | exact FBK_PRAW_blk .. | exact whole_blk (FBK_PRAW_blk ..)) ?_ (within_trans hm (by decide))
    | refine keeps_pair (by assumption) ?_
    | split

theorem State.indexEdge_keeps {p z} (h : Keeps m s0 s) (hm : within [.reg .prf, .reg .eng, .reg .csf, .reg .fbk, .reg .pwm, .reg .knl, .reg .que, .reg .acq, .reg .dio, .reg .err, .sets, .bulk, .log, .knl, .que, .axes, .prf, .pwm, .drn, .ports, .probes, .acq] m = true) : Keeps m s0 (State.indexEdge p z s) := by
  unfold State.indexEdge
  try dsimp only
  repeat' with_reducible first
    | exact h
    | refine keeps_ite (fun _ => ?_) (fun _ => ?_)
    | refine State.onPort_keeps ?_ (within_trans hm (by decide))
    | refine State.portFault_keeps ?_ (within_trans hm (by decide))
    | refine keeps_pair (by assumption) ?_
    | split

theorem State.portReading_keeps {p mode temp f ident rtd} (h : Keeps m s0 s) (hm : within [.reg .prf, .reg .eng, .reg .csf, .reg .fbk, .reg .pwm, .reg .knl, .reg .que, .reg .acq, .reg .dio, .reg .err, .sets, .bulk, .log, .knl, .que, .axes, .prf, .eng, .pwm, .drn, .shp, .ports, .probes, .acq] m = true) : Keeps m s0 (State.portReading p mode temp f ident rtd s) := by
  unfold State.portReading
  try dsimp only
  repeat' with_reducible first
    | exact h
    | refine keeps_ite (fun _ => ?_) (fun _ => ?_)
    | refine State.enableRead_keeps ?_ (within_trans hm (by decide))
    | refine State.readPort_keeps ?_ (within_trans hm (by decide))
    | refine keeps_pair (by assumption) ?_
    | split

theorem State.acyclic_keeps {p code n rsp} (h : Keeps m s0 s) (hm : within [.reg .fbk, .reg .err, .sets, .log, .ports] m = true) : Keeps m s0 (State.acyclic p code n rsp s) := by
  unfold State.acyclic
  try dsimp only
  repeat' with_reducible first
    | exact h
    | refine keeps_ite (fun _ => ?_) (fun _ => ?_)
    | refine State.sendAfven_keeps ?_ (within_trans hm (by decide))
    | refine State.onPort_keeps ?_ (within_trans hm (by decide))
    | refine State.put_keeps (by first | exact FBK_AID_blk .. | exact whole_blk (FBK_AID_blk ..) | exact FBK_ARSP_CODE_blk .. | exact FBK_ARSP_DATA_blk .. | exact FBK_ARSP_DONE_blk .. | exact FBK_ARSP_ERR_blk .. | exact FBK_ARSP_STATUS_blk .. | (refine blk_ite ?_ ?_ <;> first | exact FBK_AID_blk .. | exact whole_blk (FBK_AID_blk ..) | exact FBK_ARSP_CODE_blk .. | exact FBK_ARSP_DATA_blk .. | exact FBK_ARSP_DONE_blk .. | exact FBK_ARSP_ERR_blk .. | exact FBK_ARSP_STATUS_blk ..)) ?_ (within_trans hm (by decide))
    | refine State.mark_keeps (by first | exact FBK_AID_blk .. | exact whole_blk (FBK_AID_blk ..) | exact FBK_ARSP_CODE_blk .. | exact FBK_ARSP_DATA_blk .. | exact FBK_ARSP_DONE_blk .. | exact FBK_ARSP_ERR_blk .. | exact FBK_ARSP_STATUS_blk .. | (refine blk_ite ?_ ?_ <;> first | exact FBK_AID_blk .. | exact whole_blk (FBK_AID_blk ..) | exact FBK_ARSP_CODE_blk .. | exact FBK_ARSP_DATA_blk .. | exact FBK_ARSP_DONE_blk .. | exact FBK_ARSP_ERR_blk .. | exact FBK_ARSP_STATUS_blk ..)) ?_ (within_trans hm (by decide))
    | refine State.encWarn_keeps ?_ (within_trans hm (by decide))
    | refine State.wr_keeps (by first | exact FBK_AID_blk .. | exact whole_blk (FBK_AID_blk ..) | exact FBK_ARSP_CODE_blk .. | exact FBK_ARSP_DATA_blk .. | exact FBK_ARSP_DONE_blk .. | exact FBK_ARSP_ERR_blk .. | exact FBK_ARSP_STATUS_blk .. | (refine blk_ite ?_ ?_ <;> first | exact FBK_AID_blk .. | exact whole_blk (FBK_AID_blk ..) | exact FBK_ARSP_CODE_blk .. | exact FBK_ARSP_DATA_blk .. | exact FBK_ARSP_DONE_blk .. | exact FBK_ARSP_ERR_blk .. | exact FBK_ARSP_STATUS_blk ..)) ?_ (within_trans hm (by decide))
    | refine keeps_pair (by assumption) ?_
    | split

theorem State.pairOpen_keeps {p i gone} (h : Keeps m s0 s) (hm : within [.reg .prf, .reg .eng, .reg .csf, .reg .fbk, .reg .pwm, .reg .knl, .reg .que, .reg .acq, .reg .dio, .reg .err, .sets, .bulk, .log, .knl, .que, .axes, .prf, .pwm, .drn, .ports, .probes, .acq] m = true) : Keeps m s0 (State.pairOpen p i gone s) := by
  unfold State.pairOpen
  try dsimp only
  repeat' with_reducible first
    | exact h
    | refine keeps_ite (fun _ => ?_) (fun _ => ?_)
    | refine State.onPort_keeps ?_ (within_trans hm (by decide))
    | refine State.portFault_keeps ?_ (within_trans hm (by decide))
    | refine keeps_pair (by assumption) ?_
    | split

theorem execQuadratureEdge_keeps {dt p a b} {t} (e : execQuadratureEdge dt p a b s = .next t) : Keeps [.reg .prf, .reg .eng, .reg .csf, .reg .fbk, .reg .pwm, .reg .knl, .reg .que, .reg .acq, .reg .dio, .reg .err, .sets, .clk, .bulk, .log, .knl, .que, .axes, .prf, .pwm, .drn, .ports, .probes, .acq] s t := by
  have hm := within_refl [.reg .prf, .reg .eng, .reg .csf, .reg .fbk, .reg .pwm, .reg .knl, .reg .que, .reg .acq, .reg .dio, .reg .err, .sets, .clk, .bulk, .log, .knl, .que, .axes, .prf, .pwm, .drn, .ports, .probes, .acq]
  have h := Keeps.refl [.reg .prf, .reg .eng, .reg .csf, .reg .fbk, .reg .pwm, .reg .knl, .reg .que, .reg .acq, .reg .dio, .reg .err, .sets, .clk, .bulk, .log, .knl, .que, .axes, .prf, .pwm, .drn, .ports, .probes, .acq] s
  simp only [execQuadratureEdge, Host.Outcome.next.injEq] at e
  subst e
  repeat' with_reducible first
    | exact h
    | refine keeps_ite (fun _ => ?_) (fun _ => ?_)
    | refine State.quadEdge_keeps ?_ (within_trans hm (by decide))
    | refine State.elapse_keeps ?_ (within_trans hm (by decide))
    | refine keeps_pair (by assumption) ?_
    | split

theorem execIndexEdge_keeps {dt p z} {t} (e : execIndexEdge dt p z s = .next t) : Keeps [.reg .prf, .reg .eng, .reg .csf, .reg .fbk, .reg .pwm, .reg .knl, .reg .que, .reg .acq, .reg .dio, .reg .err, .sets, .clk, .bulk, .log, .knl, .que, .axes, .prf, .pwm, .drn, .ports, .probes, .acq] s t := by
  have hm := within_refl [.reg .prf, .reg .eng, .reg .csf, .reg .fbk, .reg .pwm, .reg .knl, .reg .que, .reg .acq, .reg .dio, .reg .err, .sets, .clk, .bulk, .log, .knl, .que, .axes, .prf, .pwm, .drn, .ports, .probes, .acq]
  have h := Keeps.refl [.reg .prf, .reg .eng, .reg .csf, .reg .fbk, .reg .pwm, .reg .knl, .reg .que, .reg .acq, .reg .dio, .reg .err, .sets, .clk, .bulk, .log, .knl, .que, .axes, .prf, .pwm, .drn, .ports, .probes, .acq] s
  simp only [execIndexEdge, Host.Outcome.next.injEq] at e
  subst e
  repeat' with_reducible first
    | exact h
    | refine keeps_ite (fun _ => ?_) (fun _ => ?_)
    | refine State.indexEdge_keeps ?_ (within_trans hm (by decide))
    | refine State.elapse_keeps ?_ (within_trans hm (by decide))
    | refine keeps_pair (by assumption) ?_
    | split

theorem execSsiFrame_keeps {dt p f} {t} (e : execSsiFrame dt p f s = .next t) : Keeps [.reg .prf, .reg .eng, .reg .csf, .reg .fbk, .reg .pwm, .reg .knl, .reg .que, .reg .acq, .reg .dio, .reg .err, .sets, .clk, .bulk, .log, .knl, .que, .axes, .prf, .eng, .pwm, .drn, .shp, .ports, .probes, .acq] s t := by
  have hm := within_refl [.reg .prf, .reg .eng, .reg .csf, .reg .fbk, .reg .pwm, .reg .knl, .reg .que, .reg .acq, .reg .dio, .reg .err, .sets, .clk, .bulk, .log, .knl, .que, .axes, .prf, .eng, .pwm, .drn, .shp, .ports, .probes, .acq]
  have h := Keeps.refl [.reg .prf, .reg .eng, .reg .csf, .reg .fbk, .reg .pwm, .reg .knl, .reg .que, .reg .acq, .reg .dio, .reg .err, .sets, .clk, .bulk, .log, .knl, .que, .axes, .prf, .eng, .pwm, .drn, .shp, .ports, .probes, .acq] s
  simp only [execSsiFrame, Host.Outcome.next.injEq] at e
  subst e
  repeat' with_reducible first
    | exact h
    | refine keeps_ite (fun _ => ?_) (fun _ => ?_)
    | refine State.portReading_keeps ?_ (within_trans hm (by decide))
    | refine State.elapse_keeps ?_ (within_trans hm (by decide))
    | refine keeps_pair (by assumption) ?_
    | split

theorem execPos_keeps {dt p f ident rtd} {t} (e : execPos dt p f ident rtd s = .next t) : Keeps [.reg .prf, .reg .eng, .reg .csf, .reg .fbk, .reg .pwm, .reg .knl, .reg .que, .reg .acq, .reg .dio, .reg .err, .sets, .clk, .bulk, .log, .knl, .que, .axes, .prf, .eng, .pwm, .drn, .shp, .ports, .probes, .acq] s t := by
  have hm := within_refl [.reg .prf, .reg .eng, .reg .csf, .reg .fbk, .reg .pwm, .reg .knl, .reg .que, .reg .acq, .reg .dio, .reg .err, .sets, .clk, .bulk, .log, .knl, .que, .axes, .prf, .eng, .pwm, .drn, .shp, .ports, .probes, .acq]
  have h := Keeps.refl [.reg .prf, .reg .eng, .reg .csf, .reg .fbk, .reg .pwm, .reg .knl, .reg .que, .reg .acq, .reg .dio, .reg .err, .sets, .clk, .bulk, .log, .knl, .que, .axes, .prf, .eng, .pwm, .drn, .shp, .ports, .probes, .acq] s
  simp only [execPos, Host.Outcome.next.injEq] at e
  subst e
  repeat' with_reducible first
    | exact h
    | refine keeps_ite (fun _ => ?_) (fun _ => ?_)
    | refine State.portReading_keeps ?_ (within_trans hm (by decide))
    | refine State.elapse_keeps ?_ (within_trans hm (by decide))
    | refine keeps_pair (by assumption) ?_
    | split

theorem execPost_keeps {dt p f ident rtd} {t} (e : execPost dt p f ident rtd s = .next t) : Keeps [.reg .prf, .reg .eng, .reg .csf, .reg .fbk, .reg .pwm, .reg .knl, .reg .que, .reg .acq, .reg .dio, .reg .err, .sets, .clk, .bulk, .log, .knl, .que, .axes, .prf, .eng, .pwm, .drn, .shp, .ports, .probes, .acq] s t := by
  have hm := within_refl [.reg .prf, .reg .eng, .reg .csf, .reg .fbk, .reg .pwm, .reg .knl, .reg .que, .reg .acq, .reg .dio, .reg .err, .sets, .clk, .bulk, .log, .knl, .que, .axes, .prf, .eng, .pwm, .drn, .shp, .ports, .probes, .acq]
  have h := Keeps.refl [.reg .prf, .reg .eng, .reg .csf, .reg .fbk, .reg .pwm, .reg .knl, .reg .que, .reg .acq, .reg .dio, .reg .err, .sets, .clk, .bulk, .log, .knl, .que, .axes, .prf, .eng, .pwm, .drn, .shp, .ports, .probes, .acq] s
  simp only [execPost, Host.Outcome.next.injEq] at e
  subst e
  repeat' with_reducible first
    | exact h
    | refine keeps_ite (fun _ => ?_) (fun _ => ?_)
    | refine State.portReading_keeps ?_ (within_trans hm (by decide))
    | refine State.elapse_keeps ?_ (within_trans hm (by decide))
    | refine keeps_pair (by assumption) ?_
    | split

theorem execAfvenRead_keeps {dt p rsp} {t} (e : execAfvenRead dt p rsp s = .next t) : Keeps [.reg .fbk, .reg .err, .sets, .clk, .log, .ports] s t := by
  have hm := within_refl [.reg .fbk, .reg .err, .sets, .clk, .log, .ports]
  have h := Keeps.refl [.reg .fbk, .reg .err, .sets, .clk, .log, .ports] s
  simp only [execAfvenRead, Host.Outcome.next.injEq] at e
  subst e
  repeat' with_reducible first
    | exact h
    | refine keeps_ite (fun _ => ?_) (fun _ => ?_)
    | refine State.acyclic_keeps ?_ (within_trans hm (by decide))
    | refine State.elapse_keeps ?_ (within_trans hm (by decide))
    | refine keeps_pair (by assumption) ?_
    | split

theorem execAfvenWrite_keeps {dt p rsp} {t} (e : execAfvenWrite dt p rsp s = .next t) : Keeps [.reg .fbk, .reg .err, .sets, .clk, .log, .ports] s t := by
  have hm := within_refl [.reg .fbk, .reg .err, .sets, .clk, .log, .ports]
  have h := Keeps.refl [.reg .fbk, .reg .err, .sets, .clk, .log, .ports] s
  simp only [execAfvenWrite, Host.Outcome.next.injEq] at e
  subst e
  repeat' with_reducible first
    | exact h
    | refine keeps_ite (fun _ => ?_) (fun _ => ?_)
    | refine State.acyclic_keeps ?_ (within_trans hm (by decide))
    | refine State.elapse_keeps ?_ (within_trans hm (by decide))
    | refine keeps_pair (by assumption) ?_
    | split

theorem execAfvenClearErr_keeps {dt p rsp} {t} (e : execAfvenClearErr dt p rsp s = .next t) : Keeps [.reg .fbk, .reg .err, .sets, .clk, .log, .ports] s t := by
  have hm := within_refl [.reg .fbk, .reg .err, .sets, .clk, .log, .ports]
  have h := Keeps.refl [.reg .fbk, .reg .err, .sets, .clk, .log, .ports] s
  simp only [execAfvenClearErr, Host.Outcome.next.injEq] at e
  subst e
  repeat' with_reducible first
    | exact h
    | refine keeps_ite (fun _ => ?_) (fun _ => ?_)
    | refine State.acyclic_keeps ?_ (within_trans hm (by decide))
    | refine State.elapse_keeps ?_ (within_trans hm (by decide))
    | refine keeps_pair (by assumption) ?_
    | split

theorem execPairOpenOrShort_keeps {dt p i gone} {t} (e : execPairOpenOrShort dt p i gone s = .next t) : Keeps [.reg .prf, .reg .eng, .reg .csf, .reg .fbk, .reg .pwm, .reg .knl, .reg .que, .reg .acq, .reg .dio, .reg .err, .sets, .clk, .bulk, .log, .knl, .que, .axes, .prf, .pwm, .drn, .ports, .probes, .acq] s t := by
  have hm := within_refl [.reg .prf, .reg .eng, .reg .csf, .reg .fbk, .reg .pwm, .reg .knl, .reg .que, .reg .acq, .reg .dio, .reg .err, .sets, .clk, .bulk, .log, .knl, .que, .axes, .prf, .pwm, .drn, .ports, .probes, .acq]
  have h := Keeps.refl [.reg .prf, .reg .eng, .reg .csf, .reg .fbk, .reg .pwm, .reg .knl, .reg .que, .reg .acq, .reg .dio, .reg .err, .sets, .clk, .bulk, .log, .knl, .que, .axes, .prf, .pwm, .drn, .ports, .probes, .acq] s
  simp only [execPairOpenOrShort, Host.Outcome.next.injEq] at e
  subst e
  repeat' with_reducible first
    | exact h
    | refine keeps_ite (fun _ => ?_) (fun _ => ?_)
    | refine State.pairOpen_keeps ?_ (within_trans hm (by decide))
    | refine State.elapse_keeps ?_ (within_trans hm (by decide))
    | refine keeps_pair (by assumption) ?_
    | split

theorem execMasterEncoderRead_keeps {dt k} {t} (e : execMasterEncoderRead dt k s = .next t) : Keeps [.reg .fbk, .sets, .clk, .ports] s t := by
  have hm := within_refl [.reg .fbk, .sets, .clk, .ports]
  have h := Keeps.refl [.reg .fbk, .sets, .clk, .ports] s
  simp only [execMasterEncoderRead, Host.Outcome.next.injEq] at e
  subst e
  repeat' with_reducible first
    | exact h
    | refine keeps_ite (fun _ => ?_) (fun _ => ?_)
    | refine State.elapse_keeps ?_ (within_trans hm (by decide))
    | refine State.portBoundary_keeps ?_ (within_trans hm (by decide))
    | refine keeps_pair (by assumption) ?_
    | split

/-! ### Darner -/

theorem State.onDarn_keeps {a f} (h : Keeps m s0 s) (hm : within [.drn] m = true) : Keeps m s0 (State.onDarn a f s) := by
  unfold State.onDarn
  try dsimp only
  repeat' with_reducible first
    | exact h
    | refine keeps_ite (fun _ => ?_) (fun _ => ?_)
    | refine State.onDrn_keeps ?_ (within_trans hm (by decide))
    | refine keeps_pair (by assumption) ?_
    | split

theorem State.darnBoundary_keeps {a} (h : Keeps m s0 s) (hm : within [.reg .eng, .eng, .drn] m = true) : Keeps m s0 (State.darnBoundary a s) := by
  unfold State.darnBoundary
  try dsimp only
  repeat' with_reducible first
    | exact h
    | refine keeps_ite (fun _ => ?_) (fun _ => ?_)
    | refine State.onDarn_keeps ?_ (within_trans hm (by decide))
    | refine State.emptyDarner_keeps ?_ (within_trans hm (by decide))
    | refine State.onCx_keeps ?_ (within_trans hm (by decide))
    | refine keeps_pair (by assumption) ?_
    | split

theorem State.closeBin_keeps {a b sum cnt} (h : Keeps m s0 s) (hm : within [.reg .eng, .drn] m = true) : Keeps m s0 (State.closeBin a b sum cnt s) := by
  unfold State.closeBin
  try dsimp only
  repeat' with_reducible first
    | exact h
    | refine keeps_ite (fun _ => ?_) (fun _ => ?_)
    | refine State.bump_keeps (by first | exact ENG_DCNT_UPD_blk ..) ?_ (within_trans hm (by decide))
    | refine State.onDarn_keeps ?_ (within_trans hm (by decide))
    | refine keeps_pair (by assumption) ?_
    | split

theorem State.learn_keeps {a ok gap derr} (h : Keeps m s0 s) (hm : within [.reg .eng, .drn] m = true) : Keeps m s0 (State.learn a ok gap derr s) := by
  unfold State.learn
  try dsimp only
  repeat' with_reducible first
    | exact h
    | refine keeps_ite (fun _ => ?_) (fun _ => ?_)
    | refine State.onDarn_keeps ?_ (within_trans hm (by decide))
    | refine State.closeBin_keeps ?_ (within_trans hm (by decide))
    | refine State.satBump_keeps (by first | exact ENG_DCNT_SKIP_blk .. | exact ENG_DST_RAMP_blk .. | exact ENG_DST_SPAN_blk .. | (refine blk_ite ?_ ?_ <;> first | exact ENG_DCNT_SKIP_blk .. | exact ENG_DST_RAMP_blk .. | exact ENG_DST_SPAN_blk ..)) ?_ (within_trans hm (by decide))
    | refine State.mark_keeps (by first | exact ENG_DCNT_SKIP_blk .. | exact ENG_DST_RAMP_blk .. | exact ENG_DST_SPAN_blk .. | (refine blk_ite ?_ ?_ <;> first | exact ENG_DCNT_SKIP_blk .. | exact ENG_DST_RAMP_blk .. | exact ENG_DST_SPAN_blk ..)) ?_ (within_trans hm (by decide))
    | refine keeps_foldl ?_ _ ?_
    | refine keeps_foldl_snd ?_ _ ?_
    | (intro _ _ h; try dsimp only)
    | refine keeps_getD (fun _ _ => ?_) ?_
    | refine keeps_pair (by assumption) ?_
    | split

theorem State.residual_keeps {a} (h : Keeps m s0 s) (hm : within [.reg .eng, .shp] m = true) : Keeps m s0 (State.residual a s) := by
  unfold State.residual
  try dsimp only
  repeat' with_reducible first
    | exact h
    | refine keeps_ite (fun _ => ?_) (fun _ => ?_)
    | refine State.onShp_keeps ?_ (within_trans hm (by decide))
    | refine State.put_keeps (by first | exact ENG_SRES_PEAK_blk .. | exact ENG_SRES_RF_blk .. | (refine blk_ite ?_ ?_ <;> first | exact ENG_SRES_PEAK_blk .. | exact ENG_SRES_RF_blk ..)) ?_ (within_trans hm (by decide))
    | refine State.putS_keeps (by first | exact ENG_SRES_PEAK_blk .. | exact ENG_SRES_RF_blk .. | (refine blk_ite ?_ ?_ <;> first | exact ENG_SRES_PEAK_blk .. | exact ENG_SRES_RF_blk ..)) ?_ (within_trans hm (by decide))
    | refine keeps_pair (by assumption) ?_
    | split

theorem State.sheepCheck_keeps {a} (h : Keeps m s0 s) (hm : within [.reg .prf, .reg .eng, .reg .csf, .reg .fbk, .reg .pwm, .reg .knl, .reg .que, .reg .acq, .reg .dio, .reg .err, .sets, .bulk, .log, .knl, .que, .axes, .prf, .pwm, .drn, .probes, .acq] m = true) : Keeps m s0 (State.sheepCheck a s).2 := by
  unfold State.sheepCheck
  try dsimp only
  repeat' with_reducible first
    | exact h
    | refine keeps_ite (fun _ => ?_) (fun _ => ?_)
    | refine State.raise_keeps (by first | exact ENG_SST_AVW_blk .. | exact ENG_SST_RUN_blk .. | exact ENG_SST_STATE_blk .. | exact ENG_SST_SUB_blk .. | exact ENG_SST_WARN_blk .. | (refine blk_ite ?_ ?_ <;> first | exact ENG_SST_AVW_blk .. | exact ENG_SST_RUN_blk .. | exact ENG_SST_STATE_blk .. | exact ENG_SST_SUB_blk .. | exact ENG_SST_WARN_blk ..)) ?_ (within_trans hm (by decide))
    | refine State.put_keeps (by first | exact ENG_SST_AVW_blk .. | exact ENG_SST_RUN_blk .. | exact ENG_SST_STATE_blk .. | exact ENG_SST_SUB_blk .. | exact ENG_SST_WARN_blk .. | (refine blk_ite ?_ ?_ <;> first | exact ENG_SST_AVW_blk .. | exact ENG_SST_RUN_blk .. | exact ENG_SST_STATE_blk .. | exact ENG_SST_SUB_blk .. | exact ENG_SST_WARN_blk ..)) ?_ (within_trans hm (by decide))
    | refine State.fault_keeps ?_ (within_trans hm (by decide))
    | refine keeps_pair (by assumption) ?_
    | split

theorem State.estimate_keeps {a acc} (h : Keeps m s0 s) (hm : within [.reg .eng, .fresh, .ine] m = true) : Keeps m s0 (State.estimate a acc s) := by
  unfold State.estimate
  try dsimp only
  repeat' with_reducible first
    | exact h
    | refine keeps_ite (fun _ => ?_) (fun _ => ?_)
    | refine State.onIne_keeps ?_ (within_trans hm (by decide))
    | refine State.mark_keeps (by first | exact ENG_JEST_JEST_blk .. | exact ENG_JEST_JOFS_blk .. | exact ENG_JST_ATMAX_blk .. | exact ENG_JST_ATMIN_blk .. | exact ENG_JST_LOW_blk .. | (refine blk_ite ?_ ?_ <;> first | exact ENG_JEST_JEST_blk .. | exact ENG_JEST_JOFS_blk .. | exact ENG_JST_ATMAX_blk .. | exact ENG_JST_ATMIN_blk .. | exact ENG_JST_LOW_blk ..)) ?_ (within_trans hm (by decide))
    | refine State.drew_keeps ?_ (within_trans hm (by decide))
    | refine State.putS_keeps (by first | exact ENG_JEST_JEST_blk .. | exact ENG_JEST_JOFS_blk .. | exact ENG_JST_ATMAX_blk .. | exact ENG_JST_ATMIN_blk .. | exact ENG_JST_LOW_blk .. | (refine blk_ite ?_ ?_ <;> first | exact ENG_JEST_JEST_blk .. | exact ENG_JEST_JOFS_blk .. | exact ENG_JST_ATMAX_blk .. | exact ENG_JST_ATMIN_blk .. | exact ENG_JST_LOW_blk ..)) ?_ (within_trans hm (by decide))
    | refine State.put_keeps (by first | exact ENG_JEST_JEST_blk .. | exact ENG_JEST_JOFS_blk .. | exact ENG_JST_ATMAX_blk .. | exact ENG_JST_ATMIN_blk .. | exact ENG_JST_LOW_blk .. | (refine blk_ite ?_ ?_ <;> first | exact ENG_JEST_JEST_blk .. | exact ENG_JEST_JOFS_blk .. | exact ENG_JST_ATMAX_blk .. | exact ENG_JST_ATMIN_blk .. | exact ENG_JST_LOW_blk ..)) ?_ (within_trans hm (by decide))
    | refine keeps_pair (by assumption) ?_
    | split

theorem State.unitsUpdate_keeps {a} (h : Keeps m s0 s) (hm : within [.reg .prf, .reg .eng, .reg .csf, .reg .fbk, .reg .pwm, .reg .knl, .reg .que, .reg .acq, .reg .dio, .reg .err, .fresh, .sets, .bulk, .log, .knl, .que, .axes, .prf, .eng, .pwm, .drn, .ine, .shp, .probes, .acq] m = true) : Keeps m s0 (State.unitsUpdate a s) := by
  unfold State.unitsUpdate
  try dsimp only
  repeat' with_reducible first
    | exact h
    | refine keeps_ite (fun _ => ?_) (fun _ => ?_)
    | refine State.onCx_keeps ?_ (within_trans hm (by decide))
    | refine State.sheepCheck_keeps ?_ (within_trans hm (by decide))
    | refine State.residual_keeps ?_ (within_trans hm (by decide))
    | refine State.put_keeps (by first | exact ENG_DST_FRZ_blk .. | exact ENG_DST_STATE_blk .. | (refine blk_ite ?_ ?_ <;> first | exact ENG_DST_FRZ_blk .. | exact ENG_DST_STATE_blk ..)) ?_ (within_trans hm (by decide))
    | refine State.learn_keeps ?_ (within_trans hm (by decide))
    | refine State.onDarn_keeps ?_ (within_trans hm (by decide))
    | refine State.estimate_keeps ?_ (within_trans hm (by decide))
    | refine State.onShp_keeps ?_ (within_trans hm (by decide))
    | refine keeps_getD (fun _ _ => ?_) ?_
    | refine keeps_pair (by assumption) ?_
    | split

theorem execVelocityInstanceUpdate_keeps {dt a} {t} (e : execVelocityInstanceUpdate dt a s = .next t) : Keeps [.reg .prf, .reg .eng, .reg .csf, .reg .fbk, .reg .pwm, .reg .knl, .reg .que, .reg .acq, .reg .dio, .reg .err, .fresh, .sets, .clk, .bulk, .log, .knl, .que, .axes, .prf, .eng, .pwm, .drn, .ine, .shp, .probes, .acq] s t := by
  have hm := within_refl [.reg .prf, .reg .eng, .reg .csf, .reg .fbk, .reg .pwm, .reg .knl, .reg .que, .reg .acq, .reg .dio, .reg .err, .fresh, .sets, .clk, .bulk, .log, .knl, .que, .axes, .prf, .eng, .pwm, .drn, .ine, .shp, .probes, .acq]
  have h := Keeps.refl [.reg .prf, .reg .eng, .reg .csf, .reg .fbk, .reg .pwm, .reg .knl, .reg .que, .reg .acq, .reg .dio, .reg .err, .fresh, .sets, .clk, .bulk, .log, .knl, .que, .axes, .prf, .eng, .pwm, .drn, .ine, .shp, .probes, .acq] s
  simp only [execVelocityInstanceUpdate, Host.Outcome.next.injEq] at e
  subst e
  repeat' with_reducible first
    | exact h
    | refine keeps_ite (fun _ => ?_) (fun _ => ?_)
    | refine State.unitsUpdate_keeps ?_ (within_trans hm (by decide))
    | refine State.elapse_keeps ?_ (within_trans hm (by decide))
    | refine keeps_pair (by assumption) ?_
    | split

theorem execSheepdogArmed_keeps {dt a} {t} (e : execSheepdogArmed dt a s = .next t) : Keeps [.reg .prf, .reg .eng, .sets, .clk] s t := by
  have hm := within_refl [.reg .prf, .reg .eng, .sets, .clk]
  have h := Keeps.refl [.reg .prf, .reg .eng, .sets, .clk] s
  simp only [execSheepdogArmed, Host.Outcome.next.injEq] at e
  subst e
  repeat' with_reducible first
    | exact h
    | refine keeps_ite (fun _ => ?_) (fun _ => ?_)
    | refine State.elapse_keeps ?_ (within_trans hm (by decide))
    | refine State.mark_keeps (by first | exact ENG_SST_RUN_blk .. | exact ENG_SST_STATE_blk .. | exact PRF_AXST_SDPEND_blk .. | (refine blk_ite ?_ ?_ <;> first | exact ENG_SST_RUN_blk .. | exact ENG_SST_STATE_blk .. | exact PRF_AXST_SDPEND_blk ..)) ?_ (within_trans hm (by decide))
    | refine State.put_keeps (by first | exact ENG_SST_RUN_blk .. | exact ENG_SST_STATE_blk .. | exact PRF_AXST_SDPEND_blk .. | (refine blk_ite ?_ ?_ <;> first | exact ENG_SST_RUN_blk .. | exact ENG_SST_STATE_blk .. | exact PRF_AXST_SDPEND_blk ..)) ?_ (within_trans hm (by decide))
    | refine keeps_pair (by assumption) ?_
    | split

theorem execDarnerClear_keeps {dt a} {t} (e : execDarnerClear dt a s = .next t) : Keeps [.sets, .clk, .drn] s t := by
  have hm := within_refl [.sets, .clk, .drn]
  have h := Keeps.refl [.sets, .clk, .drn] s
  simp only [execDarnerClear, Host.Outcome.next.injEq] at e
  subst e
  repeat' with_reducible first
    | exact h
    | refine keeps_ite (fun _ => ?_) (fun _ => ?_)
    | refine State.onDarn_keeps ?_ (within_trans hm (by decide))
    | refine State.elapse_keeps ?_ (within_trans hm (by decide))
    | refine keeps_pair (by assumption) ?_
    | split

theorem execDarnerClearEffect_keeps {dt a} {t} (e : execDarnerClearEffect dt a s = .next t) : Keeps [.reg .lsh, .reg .prf, .reg .eng, .reg .csf, .reg .fbk, .reg .pwm, .reg .knl, .reg .rng, .reg .err, .fresh, .sets, .clk, .bulk, .log, .knl, .axes, .lim, .prf, .eng, .pwm, .drn, .ine, .shp, .csf, .ports] s t := by
  have hm := within_refl [.reg .lsh, .reg .prf, .reg .eng, .reg .csf, .reg .fbk, .reg .pwm, .reg .knl, .reg .rng, .reg .err, .fresh, .sets, .clk, .bulk, .log, .knl, .axes, .lim, .prf, .eng, .pwm, .drn, .ine, .shp, .csf, .ports]
  have h := Keeps.refl [.reg .lsh, .reg .prf, .reg .eng, .reg .csf, .reg .fbk, .reg .pwm, .reg .knl, .reg .rng, .reg .err, .fresh, .sets, .clk, .bulk, .log, .knl, .axes, .lim, .prf, .eng, .pwm, .drn, .ine, .shp, .csf, .ports] s
  simp only [execDarnerClearEffect, Host.Outcome.next.injEq] at e
  subst e
  repeat' with_reducible first
    | exact h
    | refine keeps_ite (fun _ => ?_) (fun _ => ?_)
    | refine State.elapse_keeps ?_ (within_trans hm (by decide))
    | refine State.onDarn_keeps ?_ (within_trans hm (by decide))
    | refine State.emptyDarner_keeps ?_ (within_trans hm (by decide))
    | refine State.commitsNow_keeps ?_ (within_trans hm (by decide))
    | refine keeps_pair (by assumption) ?_
    | split

/-! ### Pwm -/

theorem State.lateWrite_keeps {a} (h : Keeps m s0 s) (hm : within [.reg .eng] m = true) : Keeps m s0 (State.lateWrite a s) := by
  unfold State.lateWrite
  try dsimp only
  repeat' with_reducible first
    | exact h
    | refine keeps_ite (fun _ => ?_) (fun _ => ?_)
    | refine State.satBump_keeps (by first | exact ENG_STAT_DISC_blk .. | exact ENG_WD_DISC_blk .. | (refine blk_ite ?_ ?_ <;> first | exact ENG_STAT_DISC_blk .. | exact ENG_WD_DISC_blk ..)) ?_ (within_trans hm (by decide))
    | refine keeps_pair (by assumption) ?_
    | split

theorem State.stageWrite_keeps {t'} (h : Keeps m s0 s) (hm : within [.reg .eng, .reg .pwm, .pwm] m = true) : Keeps m s0 (State.stageWrite t' s) := by
  unfold State.stageWrite
  try dsimp only
  repeat' with_reducible first
    | exact h
    | refine keeps_ite (fun _ => ?_) (fun _ => ?_)
    | refine State.lateWrite_keeps ?_ (within_trans hm (by decide))
    | refine State.wr_keeps (by first | exact PWM_SCMP_blk .. | exact whole_blk (PWM_SCMP_blk ..) | exact PWM_STG_blk .. | exact whole_blk (PWM_STG_blk ..) | exact PWM_STG_CMPV_blk .. | exact PWM_STG_COMMIT_blk .. | exact PWM_STG_SPER_blk .. | (refine blk_ite ?_ ?_ <;> first | exact PWM_SCMP_blk .. | exact whole_blk (PWM_SCMP_blk ..) | exact PWM_STG_blk .. | exact whole_blk (PWM_STG_blk ..) | exact PWM_STG_CMPV_blk .. | exact PWM_STG_COMMIT_blk .. | exact PWM_STG_SPER_blk ..)) ?_ (within_trans hm (by decide))
    | refine State.put_keeps (by first | exact PWM_SCMP_blk .. | exact whole_blk (PWM_SCMP_blk ..) | exact PWM_STG_blk .. | exact whole_blk (PWM_STG_blk ..) | exact PWM_STG_CMPV_blk .. | exact PWM_STG_COMMIT_blk .. | exact PWM_STG_SPER_blk .. | (refine blk_ite ?_ ?_ <;> first | exact PWM_SCMP_blk .. | exact whole_blk (PWM_SCMP_blk ..) | exact PWM_STG_blk .. | exact whole_blk (PWM_STG_blk ..) | exact PWM_STG_CMPV_blk .. | exact PWM_STG_COMMIT_blk .. | exact PWM_STG_SPER_blk ..)) ?_ (within_trans hm (by decide))
    | refine State.onPax_keeps ?_ (within_trans hm (by decide))
    | refine State.mark_keeps (by first | exact PWM_SCMP_blk .. | exact whole_blk (PWM_SCMP_blk ..) | exact PWM_STG_blk .. | exact whole_blk (PWM_STG_blk ..) | exact PWM_STG_CMPV_blk .. | exact PWM_STG_COMMIT_blk .. | exact PWM_STG_SPER_blk .. | (refine blk_ite ?_ ?_ <;> first | exact PWM_SCMP_blk .. | exact whole_blk (PWM_SCMP_blk ..) | exact PWM_STG_blk .. | exact whole_blk (PWM_STG_blk ..) | exact PWM_STG_CMPV_blk .. | exact PWM_STG_COMMIT_blk .. | exact PWM_STG_SPER_blk ..)) ?_ (within_trans hm (by decide))
    | refine keeps_pair (by assumption) ?_
    | split

theorem State.commitSet_keeps {a} (h : Keeps m s0 s) (hm : within [.reg .lsh, .reg .pwm, .reg .err, .sets, .log, .axes, .pwm] m = true) : Keeps m s0 (State.commitSet a s) := by
  unfold State.commitSet
  try dsimp only
  repeat' with_reducible first
    | exact h
    | refine keeps_ite (fun _ => ?_) (fun _ => ?_)
    | refine State.clampFlag_keeps ?_ (within_trans hm (by decide))
    | refine State.onPax_keeps ?_ (within_trans hm (by decide))
    | refine State.put_keeps (by first | exact PWM_STG_CMPV_blk .. | exact PWM_STG_COMMIT_blk .. | (refine blk_ite ?_ ?_ <;> first | exact PWM_STG_CMPV_blk .. | exact PWM_STG_COMMIT_blk ..)) ?_ (within_trans hm (by decide))
    | refine State.mark_keeps (by first | exact PWM_STG_CMPV_blk .. | exact PWM_STG_COMMIT_blk .. | (refine blk_ite ?_ ?_ <;> first | exact PWM_STG_CMPV_blk .. | exact PWM_STG_COMMIT_blk ..)) ?_ (within_trans hm (by decide))
    | refine keeps_pair (by assumption) ?_
    | split

theorem State.writePhaseNow_keeps {a} (h : Keeps m s0 s) (hm : within [.reg .lsh, .reg .prf, .reg .eng, .reg .csf, .reg .fbk, .reg .pwm, .reg .knl, .reg .que, .reg .acq, .reg .dio, .reg .err, .sets, .bulk, .log, .knl, .que, .axes, .prf, .pwm, .drn, .probes, .acq] m = true) : Keeps m s0 (State.writePhaseNow a s) := by
  unfold State.writePhaseNow
  try dsimp only
  repeat' with_reducible first
    | exact h
    | refine keeps_ite (fun _ => ?_) (fun _ => ?_)
    | refine State.onPax_keeps ?_ (within_trans hm (by decide))
    | refine State.commitSet_keeps ?_ (within_trans hm (by decide))
    | refine State.wr_keeps (by first | exact ENG_CST_RUN_blk .. | exact ENG_CST_WDOG_blk .. | exact ENG_WD_WDCNT_blk .. | exact PWM_STG_blk .. | exact whole_blk (PWM_STG_blk ..) | (refine blk_ite ?_ ?_ <;> first | exact ENG_CST_RUN_blk .. | exact ENG_CST_WDOG_blk .. | exact ENG_WD_WDCNT_blk .. | exact PWM_STG_blk .. | exact whole_blk (PWM_STG_blk ..))) ?_ (within_trans hm (by decide))
    | refine State.put_keeps (by first | exact ENG_CST_RUN_blk .. | exact ENG_CST_WDOG_blk .. | exact ENG_WD_WDCNT_blk .. | exact PWM_STG_blk .. | exact whole_blk (PWM_STG_blk ..) | (refine blk_ite ?_ ?_ <;> first | exact ENG_CST_RUN_blk .. | exact ENG_CST_WDOG_blk .. | exact ENG_WD_WDCNT_blk .. | exact PWM_STG_blk .. | exact whole_blk (PWM_STG_blk ..))) ?_ (within_trans hm (by decide))
    | refine State.satBump_keeps (by first | exact ENG_CST_RUN_blk .. | exact ENG_CST_WDOG_blk .. | exact ENG_WD_WDCNT_blk .. | exact PWM_STG_blk .. | exact whole_blk (PWM_STG_blk ..) | (refine blk_ite ?_ ?_ <;> first | exact ENG_CST_RUN_blk .. | exact ENG_CST_WDOG_blk .. | exact ENG_WD_WDCNT_blk .. | exact PWM_STG_blk .. | exact whole_blk (PWM_STG_blk ..))) ?_ (within_trans hm (by decide))
    | refine State.latch_keeps (by first | exact ENG_CST_RUN_blk .. | exact ENG_CST_WDOG_blk .. | exact ENG_WD_WDCNT_blk .. | exact PWM_STG_blk .. | exact whole_blk (PWM_STG_blk ..) | (refine blk_ite ?_ ?_ <;> first | exact ENG_CST_RUN_blk .. | exact ENG_CST_WDOG_blk .. | exact ENG_WD_WDCNT_blk .. | exact PWM_STG_blk .. | exact whole_blk (PWM_STG_blk ..))) ?_ (within_trans hm (by decide))
    | refine State.faultWith_keeps ?_ (within_trans hm (by decide))
    | refine State.onAxis_keeps ?_ (within_trans hm (by decide))
    | refine keeps_pair (by assumption) ?_
    | split

theorem State.applySet_keeps {a} (h : Keeps m s0 s) (hm : within [.reg .eng, .reg .pwm, .pwm] m = true) : Keeps m s0 (State.applySet a s) := by
  unfold State.applySet
  try dsimp only
  repeat' with_reducible first
    | exact h
    | refine keeps_ite (fun _ => ?_) (fun _ => ?_)
    | refine State.onPax_keeps ?_ (within_trans hm (by decide))
    | refine State.wr_keeps (by first | exact PWM_CMP_blk .. | exact whole_blk (PWM_CMP_blk ..) | exact PWM_PER_blk .. | exact whole_blk (PWM_PER_blk ..) | exact PWM_TIM_blk .. | exact whole_blk (PWM_TIM_blk ..) | exact bandSt_blk .. | (refine blk_ite ?_ ?_ <;> first | exact PWM_CMP_blk .. | exact whole_blk (PWM_CMP_blk ..) | exact PWM_PER_blk .. | exact whole_blk (PWM_PER_blk ..) | exact PWM_TIM_blk .. | exact whole_blk (PWM_TIM_blk ..) | exact bandSt_blk ..)) ?_ (within_trans hm (by decide))
    | refine State.put_keeps (by first | exact PWM_CMP_blk .. | exact whole_blk (PWM_CMP_blk ..) | exact PWM_PER_blk .. | exact whole_blk (PWM_PER_blk ..) | exact PWM_TIM_blk .. | exact whole_blk (PWM_TIM_blk ..) | exact bandSt_blk .. | (refine blk_ite ?_ ?_ <;> first | exact PWM_CMP_blk .. | exact whole_blk (PWM_CMP_blk ..) | exact PWM_PER_blk .. | exact whole_blk (PWM_PER_blk ..) | exact PWM_TIM_blk .. | exact whole_blk (PWM_TIM_blk ..) | exact bandSt_blk ..)) ?_ (within_trans hm (by decide))
    | refine keeps_foldl ?_ _ ?_
    | refine keeps_foldl_snd ?_ _ ?_
    | (intro _ _ h; try dsimp only)
    | refine keeps_getD (fun _ _ => ?_) ?_
    | refine keeps_pair (by assumption) ?_
    | split

theorem State.countCut_keeps {a} (h : Keeps m s0 s) (hm : within [.reg .pwm, .eng] m = true) : Keeps m s0 (State.countCut a s) := by
  unfold State.countCut
  try dsimp only
  repeat' with_reducible first
    | exact h
    | refine keeps_ite (fun _ => ?_) (fun _ => ?_)
    | refine State.bump_keeps (by first | exact PWM_AXST_RUN_blk .. | exact PWM_TCNT_CUTS_blk .. | (refine blk_ite ?_ ?_ <;> first | exact PWM_AXST_RUN_blk .. | exact PWM_TCNT_CUTS_blk ..)) ?_ (within_trans hm (by decide))
    | refine State.satBump_keeps (by first | exact PWM_AXST_RUN_blk .. | exact PWM_TCNT_CUTS_blk .. | (refine blk_ite ?_ ?_ <;> first | exact PWM_AXST_RUN_blk .. | exact PWM_TCNT_CUTS_blk ..)) ?_ (within_trans hm (by decide))
    | refine State.onCx_keeps ?_ (within_trans hm (by decide))
    | refine State.put_keeps (by first | exact PWM_AXST_RUN_blk .. | exact PWM_TCNT_CUTS_blk .. | (refine blk_ite ?_ ?_ <;> first | exact PWM_AXST_RUN_blk .. | exact PWM_TCNT_CUTS_blk ..)) ?_ (within_trans hm (by decide))
    | refine keeps_pair (by assumption) ?_
    | split

theorem State.setHighDue_keeps {a} (h : Keeps m s0 s) (hm : within [.pwm] m = true) : Keeps m s0 (State.setHighDue a s) := by
  unfold State.setHighDue
  try dsimp only
  repeat' with_reducible first
    | exact h
    | refine keeps_ite (fun _ => ?_) (fun _ => ?_)
    | refine State.onPax_keeps ?_ (within_trans hm (by decide))
    | refine keeps_pair (by assumption) ?_
    | split

theorem State.takeBand_keeps {a} (h : Keeps m s0 s) (hm : within [.reg .lsh, .reg .pwm, .reg .err, .sets, .log, .axes, .pwm] m = true) : Keeps m s0 (State.takeBand a s) := by
  unfold State.takeBand
  try dsimp only
  repeat' with_reducible first
    | exact h
    | refine keeps_ite (fun _ => ?_) (fun _ => ?_)
    | refine State.onPax_keeps ?_ (within_trans hm (by decide))
    | refine State.newPeriod_keeps ?_ (within_trans hm (by decide))
    | refine keeps_pair (by assumption) ?_
    | split

theorem State.wdogTick_keeps {a} (h : Keeps m s0 s) (hm : within [.axes] m = true) : Keeps m s0 (State.wdogTick a s) := by
  unfold State.wdogTick
  try dsimp only
  repeat' with_reducible first
    | exact h
    | refine keeps_ite (fun _ => ?_) (fun _ => ?_)
    | refine State.onAxis_keeps ?_ (within_trans hm (by decide))
    | refine keeps_pair (by assumption) ?_
    | split

theorem State.pwmBoundary_keeps {a} (h : Keeps m s0 s) (hm : within [.reg .lsh, .reg .eng, .reg .pwm, .reg .err, .sets, .log, .axes, .eng, .pwm] m = true) : Keeps m s0 (State.pwmBoundary a s) := by
  unfold State.pwmBoundary
  try dsimp only
  repeat' with_reducible first
    | exact h
    | refine keeps_ite (fun _ => ?_) (fun _ => ?_)
    | refine State.takeBand_keeps ?_ (within_trans hm (by decide))
    | refine State.wdogTick_keeps ?_ (within_trans hm (by decide))
    | refine State.foldGates_keeps ?_ (within_trans hm (by decide))
    | refine State.countCut_keeps ?_ (within_trans hm (by decide))
    | refine State.put_keeps (by first | exact PWM_AXST_EN_blk .. | exact PWM_AXST_PERNUM_blk .. | exact PWM_AXST_TRIPIN_blk .. | (refine blk_ite ?_ ?_ <;> first | exact PWM_AXST_EN_blk .. | exact PWM_AXST_PERNUM_blk .. | exact PWM_AXST_TRIPIN_blk ..)) ?_ (within_trans hm (by decide))
    | refine State.onPax_keeps ?_ (within_trans hm (by decide))
    | refine State.mark_keeps (by first | exact PWM_AXST_EN_blk .. | exact PWM_AXST_PERNUM_blk .. | exact PWM_AXST_TRIPIN_blk .. | (refine blk_ite ?_ ?_ <;> first | exact PWM_AXST_EN_blk .. | exact PWM_AXST_PERNUM_blk .. | exact PWM_AXST_TRIPIN_blk ..)) ?_ (within_trans hm (by decide))
    | refine State.setHighDue_keeps ?_ (within_trans hm (by decide))
    | refine State.gatesLow_keeps ?_ (within_trans hm (by decide))
    | refine State.gatesOff_keeps ?_ (within_trans hm (by decide))
    | refine State.showSafe_keeps ?_ (within_trans hm (by decide))
    | refine State.applySet_keeps ?_ (within_trans hm (by decide))
    | refine keeps_pair (by assumption) ?_
    | split

theorem State.tripFall_keeps {a} (h : Keeps m s0 s) (hm : within [.reg .pwm, .pwm] m = true) : Keeps m s0 (State.tripFall a s) := by
  unfold State.tripFall
  try dsimp only
  repeat' with_reducible first
    | exact h
    | refine keeps_ite (fun _ => ?_) (fun _ => ?_)
    | refine State.onPax_keeps ?_ (within_trans hm (by decide))
    | refine State.gatesLow_keeps ?_ (within_trans hm (by decide))
    | refine State.wr_keeps (by first | exact PWM_TCNT_TRIPS_blk .. | exact PWM_TLAST_blk .. | exact whole_blk (PWM_TLAST_blk ..) | (refine blk_ite ?_ ?_ <;> first | exact PWM_TCNT_TRIPS_blk .. | exact PWM_TLAST_blk .. | exact whole_blk (PWM_TLAST_blk ..))) ?_ (within_trans hm (by decide))
    | refine State.bump_keeps (by first | exact PWM_TCNT_TRIPS_blk .. | exact PWM_TLAST_blk .. | exact whole_blk (PWM_TLAST_blk ..) | (refine blk_ite ?_ ?_ <;> first | exact PWM_TCNT_TRIPS_blk .. | exact PWM_TLAST_blk .. | exact whole_blk (PWM_TLAST_blk ..))) ?_ (within_trans hm (by decide))
    | refine keeps_pair (by assumption) ?_
    | split

theorem State.tripEscalate_keeps {a} (h : Keeps m s0 s) (hm : within [.reg .prf, .reg .eng, .reg .csf, .reg .fbk, .reg .pwm, .reg .knl, .reg .que, .reg .acq, .reg .dio, .reg .err, .sets, .bulk, .log, .knl, .que, .axes, .prf, .pwm, .drn, .probes, .acq] m = true) : Keeps m s0 (State.tripEscalate a s) := by
  unfold State.tripEscalate
  try dsimp only
  repeat' with_reducible first
    | exact h
    | refine keeps_ite (fun _ => ?_) (fun _ => ?_)
    | refine State.hardFault_keeps ?_ (within_trans hm (by decide))
    | refine State.mark_keeps (by first | exact PWM_AXST_FLT_blk ..) ?_ (within_trans hm (by decide))
    | refine keeps_pair (by assumption) ?_
    | split

theorem State.endDeferred_keeps {a} (h : Keeps m s0 s) (hm : within [.reg .prf, .reg .eng, .reg .csf, .reg .fbk, .reg .pwm, .reg .dio, .axes, .prf, .pwm, .probes] m = true) : Keeps m s0 (State.endDeferred a s) := by
  unfold State.endDeferred
  try dsimp only
  repeat' with_reducible first
    | exact h
    | refine keeps_ite (fun _ => ?_) (fun _ => ?_)
    | refine State.torqueOff_keeps ?_ (within_trans hm (by decide))
    | refine keeps_pair (by assumption) ?_
    | split

theorem State.loseGates_keeps {a cause src code} (h : Keeps m s0 s) (hm : within [.reg .prf, .reg .eng, .reg .csf, .reg .fbk, .reg .pwm, .reg .knl, .reg .que, .reg .acq, .reg .dio, .reg .err, .sets, .bulk, .log, .knl, .que, .axes, .prf, .pwm, .drn, .probes, .acq] m = true) : Keeps m s0 (State.loseGates a cause src code s) := by
  unfold State.loseGates
  try dsimp only
  repeat' with_reducible first
    | exact h
    | refine keeps_ite (fun _ => ?_) (fun _ => ?_)
    | refine State.hardFault_keeps ?_ (within_trans hm (by decide))
    | refine State.endDeferred_keeps ?_ (within_trans hm (by decide))
    | refine keeps_pair (by assumption) ?_
    | split

theorem State.gateEnables_keeps {g x y} (h : Keeps m s0 s) (hm : within [.reg .prf, .reg .eng, .reg .csf, .reg .fbk, .reg .pwm, .reg .knl, .reg .que, .reg .dio, .reg .saf, .reg .err, .fresh, .sets, .bulk, .log, .knl, .que, .axes, .prf, .pwm, .probes] m = true) : Keeps m s0 (State.gateEnables g x y s) := by
  unfold State.gateEnables
  try dsimp only
  repeat' with_reducible first
    | exact h
    | refine keeps_ite (fun _ => ?_) (fun _ => ?_)
    | refine State.onPwm_keeps ?_ (within_trans hm (by decide))
    | refine State.mark_keeps (by first | exact PWM_GST_GEN_blk .. | exact SAF_GRP_GENAR_blk .. | exact SAF_GRP_GENBR_blk .. | (refine blk_ite ?_ ?_ <;> first | exact PWM_GST_GEN_blk .. | exact SAF_GRP_GENAR_blk .. | exact SAF_GRP_GENBR_blk ..)) ?_ (within_trans hm (by decide))
    | refine State.gatesOff_keeps ?_ (within_trans hm (by decide))
    | refine State.toDisabled_keeps ?_ (within_trans hm (by decide))
    | refine State.endDeferred_keeps ?_ (within_trans hm (by decide))
    | refine State.drew_keeps ?_ (within_trans hm (by decide))
    | refine State.showSafe_keeps ?_ (within_trans hm (by decide))
    | refine keeps_foldl ?_ _ ?_
    | refine keeps_foldl_snd ?_ _ ?_
    | (intro _ _ h; try dsimp only)
    | refine keeps_pair (by assumption) ?_
    | split

theorem State.auxSilent_keeps (h : Keeps m s0 s) (hm : within [.reg .pwm, .pwm] m = true) : Keeps m s0 (State.auxSilent s) := by
  unfold State.auxSilent
  try dsimp only
  repeat' with_reducible first
    | exact h
    | refine keeps_ite (fun _ => ?_) (fun _ => ?_)
    | refine State.mark_keeps (by first | exact PWM_AUXST_RUN_blk ..) ?_ (within_trans hm (by decide))
    | refine State.gatesOff_keeps ?_ (within_trans hm (by decide))
    | refine keeps_foldl ?_ _ ?_
    | refine keeps_foldl_snd ?_ _ ?_
    | (intro _ _ h; try dsimp only)
    | refine keeps_pair (by assumption) ?_
    | split

theorem State.pwmClockLost_keeps {i} (h : Keeps m s0 s) (hm : within [.reg .prf, .reg .eng, .reg .csf, .reg .fbk, .reg .pwm, .reg .knl, .reg .que, .reg .acq, .reg .dio, .reg .err, .sets, .bulk, .log, .knl, .que, .axes, .prf, .pwm, .drn, .probes, .acq] m = true) : Keeps m s0 (State.pwmClockLost i s) := by
  unfold State.pwmClockLost
  try dsimp only
  repeat' with_reducible first
    | exact h
    | refine keeps_ite (fun _ => ?_) (fun _ => ?_)
    | refine State.latch_keeps (by first | exact PWM_GST_CLKLOSS_blk .. | exact PWM_GST_LOSSCNT_blk .. | (refine blk_ite ?_ ?_ <;> first | exact PWM_GST_CLKLOSS_blk .. | exact PWM_GST_LOSSCNT_blk ..)) ?_ (within_trans hm (by decide))
    | refine State.onPwm_keeps ?_ (within_trans hm (by decide))
    | refine State.severe_keeps ?_ (within_trans hm (by decide))
    | refine State.satBump_keeps (by first | exact PWM_GST_CLKLOSS_blk .. | exact PWM_GST_LOSSCNT_blk .. | (refine blk_ite ?_ ?_ <;> first | exact PWM_GST_CLKLOSS_blk .. | exact PWM_GST_LOSSCNT_blk ..)) ?_ (within_trans hm (by decide))
    | refine State.auxSilent_keeps ?_ (within_trans hm (by decide))
    | refine State.loseGates_keeps ?_ (within_trans hm (by decide))
    | refine keeps_foldl ?_ _ ?_
    | refine keeps_foldl_snd ?_ _ ?_
    | (intro _ _ h; try dsimp only)
    | refine keeps_pair (by assumption) ?_
    | split

theorem State.showHalts_keeps (h : Keeps m s0 s) (hm : within [.reg .pwm] m = true) : Keeps m s0 (State.showHalts s) := by
  unfold State.showHalts
  try dsimp only
  repeat' with_reducible first
    | exact h
    | refine keeps_ite (fun _ => ?_) (fun _ => ?_)
    | refine State.mark_keeps (by first | exact PWM_GST_HALT_blk ..) ?_ (within_trans hm (by decide))
    | refine State.showSafe_keeps ?_ (within_trans hm (by decide))
    | refine keeps_foldl ?_ _ ?_
    | refine keeps_foldl_snd ?_ _ ?_
    | (intro _ _ h; try dsimp only)
    | refine keeps_pair (by assumption) ?_
    | split

theorem State.debugHalt_keeps {t'} (h : Keeps m s0 s) (hm : within [.reg .prf, .reg .eng, .reg .csf, .reg .fbk, .reg .pwm, .reg .knl, .reg .que, .reg .acq, .reg .dio, .reg .err, .sets, .bulk, .log, .knl, .que, .axes, .prf, .eng, .pwm, .drn, .probes, .acq] m = true) : Keeps m s0 (State.debugHalt t' s) := by
  unfold State.debugHalt
  try dsimp only
  repeat' with_reducible first
    | exact h
    | refine keeps_ite (fun _ => ?_) (fun _ => ?_)
    | refine State.put_keeps (by first | exact SVC_DBG_CORE_blk .. | exact SVC_DBG_ENG_blk .. | (refine blk_ite ?_ ?_ <;> first | exact SVC_DBG_CORE_blk .. | exact SVC_DBG_ENG_blk ..)) ?_ (within_trans hm (by decide))
    | refine State.onPwm_keeps ?_ (within_trans hm (by decide))
    | refine State.stateChange_keeps ?_ (within_trans hm (by decide))
    | refine State.loseGates_keeps ?_ (within_trans hm (by decide))
    | refine State.showHalts_keeps ?_ (within_trans hm (by decide))
    | refine State.auxSilent_keeps ?_ (within_trans hm (by decide))
    | refine State.onEng_keeps ?_ (within_trans hm (by decide))
    | refine keeps_foldl ?_ _ ?_
    | refine keeps_foldl_snd ?_ _ ?_
    | (intro _ _ h; try dsimp only)
    | refine keeps_pair (by assumption) ?_
    | split

theorem State.debugResume_keeps {t'} (h : Keeps m s0 s) (hm : within [.reg .pwm, .reg .err, .log, .eng, .pwm] m = true) : Keeps m s0 (State.debugResume t' s) := by
  unfold State.debugResume
  try dsimp only
  repeat' with_reducible first
    | exact h
    | refine keeps_ite (fun _ => ?_) (fun _ => ?_)
    | refine State.put_keeps (by first | exact SVC_DBG_CORE_blk .. | exact SVC_DBG_ENG_blk .. | (refine blk_ite ?_ ?_ <;> first | exact SVC_DBG_CORE_blk .. | exact SVC_DBG_ENG_blk ..)) ?_ (within_trans hm (by decide))
    | refine State.onPwm_keeps ?_ (within_trans hm (by decide))
    | refine State.showHalts_keeps ?_ (within_trans hm (by decide))
    | refine State.stateChange_keeps ?_ (within_trans hm (by decide))
    | refine State.onEng_keeps ?_ (within_trans hm (by decide))
    | refine keeps_pair (by assumption) ?_
    | split

theorem State.auxBoundary_keeps {k l} (h : Keeps m s0 s) (hm : within [.reg .lsh, .reg .pwm, .reg .err, .sets, .log, .lim, .pwm] m = true) : Keeps m s0 (State.auxBoundary k l s) := by
  unfold State.auxBoundary
  try dsimp only
  repeat' with_reducible first
    | exact h
    | refine keeps_ite (fun _ => ?_) (fun _ => ?_)
    | refine State.lowerAll_keeps ?_ (within_trans hm (by decide))
    | refine State.foldGates_keeps ?_ (within_trans hm (by decide))
    | refine State.onPax_keeps ?_ (within_trans hm (by decide))
    | refine State.wr_keeps (by first | exact PWM_AUXCMP_blk .. | exact whole_blk (PWM_AUXCMP_blk ..) | exact PWM_AUXCNT_ONCNT_blk .. | exact PWM_AUXCNT_ONPER_blk .. | exact PWM_AUXST_ON_blk .. | exact PWM_AUXST_RUN_blk .. | exact PWM_AUXST_VAL_blk .. | (refine blk_ite ?_ ?_ <;> first | exact PWM_AUXCMP_blk .. | exact whole_blk (PWM_AUXCMP_blk ..) | exact PWM_AUXCNT_ONCNT_blk .. | exact PWM_AUXCNT_ONPER_blk .. | exact PWM_AUXST_ON_blk .. | exact PWM_AUXST_RUN_blk .. | exact PWM_AUXST_VAL_blk ..)) ?_ (within_trans hm (by decide))
    | refine State.mark_keeps (by first | exact PWM_AUXCMP_blk .. | exact whole_blk (PWM_AUXCMP_blk ..) | exact PWM_AUXCNT_ONCNT_blk .. | exact PWM_AUXCNT_ONPER_blk .. | exact PWM_AUXST_ON_blk .. | exact PWM_AUXST_RUN_blk .. | exact PWM_AUXST_VAL_blk .. | (refine blk_ite ?_ ?_ <;> first | exact PWM_AUXCMP_blk .. | exact whole_blk (PWM_AUXCMP_blk ..) | exact PWM_AUXCNT_ONCNT_blk .. | exact PWM_AUXCNT_ONPER_blk .. | exact PWM_AUXST_ON_blk .. | exact PWM_AUXST_RUN_blk .. | exact PWM_AUXST_VAL_blk ..)) ?_ (within_trans hm (by decide))
    | refine State.putS_keeps (by first | exact PWM_AUXCMP_blk .. | exact whole_blk (PWM_AUXCMP_blk ..) | exact PWM_AUXCNT_ONCNT_blk .. | exact PWM_AUXCNT_ONPER_blk .. | exact PWM_AUXST_ON_blk .. | exact PWM_AUXST_RUN_blk .. | exact PWM_AUXST_VAL_blk .. | (refine blk_ite ?_ ?_ <;> first | exact PWM_AUXCMP_blk .. | exact whole_blk (PWM_AUXCMP_blk ..) | exact PWM_AUXCNT_ONCNT_blk .. | exact PWM_AUXCNT_ONPER_blk .. | exact PWM_AUXST_ON_blk .. | exact PWM_AUXST_RUN_blk .. | exact PWM_AUXST_VAL_blk ..)) ?_ (within_trans hm (by decide))
    | refine State.bump_keeps (by first | exact PWM_AUXCMP_blk .. | exact whole_blk (PWM_AUXCMP_blk ..) | exact PWM_AUXCNT_ONCNT_blk .. | exact PWM_AUXCNT_ONPER_blk .. | exact PWM_AUXST_ON_blk .. | exact PWM_AUXST_RUN_blk .. | exact PWM_AUXST_VAL_blk .. | (refine blk_ite ?_ ?_ <;> first | exact PWM_AUXCMP_blk .. | exact whole_blk (PWM_AUXCMP_blk ..) | exact PWM_AUXCNT_ONCNT_blk .. | exact PWM_AUXCNT_ONPER_blk .. | exact PWM_AUXST_ON_blk .. | exact PWM_AUXST_RUN_blk .. | exact PWM_AUXST_VAL_blk ..)) ?_ (within_trans hm (by decide))
    | refine keeps_pair (by assumption) ?_
    | split

theorem State.auxCommit_keeps {k} (h : Keeps m s0 s) (hm : within [.pwm] m = true) : Keeps m s0 (State.auxCommit k s) := by
  unfold State.auxCommit
  try dsimp only
  repeat' with_reducible first
    | exact h
    | refine keeps_ite (fun _ => ?_) (fun _ => ?_)
    | refine State.onPax_keeps ?_ (within_trans hm (by decide))
    | refine keeps_pair (by assumption) ?_
    | split

theorem State.auxTurnOff_keeps {mask} (h : Keeps m s0 s) (hm : within [.reg .pwm, .pwm] m = true) : Keeps m s0 (State.auxTurnOff mask s) := by
  unfold State.auxTurnOff
  try dsimp only
  repeat' with_reducible first
    | exact h
    | refine keeps_ite (fun _ => ?_) (fun _ => ?_)
    | refine State.mark_keeps (by first | exact PWM_AUXST_OFF_blk ..) ?_ (within_trans hm (by decide))
    | refine State.onPwm_keeps ?_ (within_trans hm (by decide))
    | refine keeps_foldl ?_ _ ?_
    | refine keeps_foldl_snd ?_ _ ?_
    | (intro _ _ h; try dsimp only)
    | refine keeps_pair (by assumption) ?_
    | split

theorem execHandshakeTransfer_keeps {dt id isl} {t} (e : execHandshakeTransfer dt id isl s = .next t) : Keeps [.reg .eng, .reg .pwm, .reg .err, .sets, .clk, .log, .eng, .pwm] s t := by
  have hm := within_refl [.reg .eng, .reg .pwm, .reg .err, .sets, .clk, .log, .eng, .pwm]
  have h := Keeps.refl [.reg .eng, .reg .pwm, .reg .err, .sets, .clk, .log, .eng, .pwm] s
  simp only [execHandshakeTransfer, Host.Outcome.next.injEq] at e
  subst e
  repeat' with_reducible first
    | exact h
    | refine keeps_ite (fun _ => ?_) (fun _ => ?_)
    | refine State.elapse_keeps ?_ (within_trans hm (by decide))
    | refine State.stageWrite_keeps ?_ (within_trans hm (by decide))
    | refine State.onEng_keeps ?_ (within_trans hm (by decide))
    | refine State.orphanOp_keeps ?_ (within_trans hm (by decide))
    | refine keeps_pair (by assumption) ?_
    | split

theorem execWritePhaseCommit_keeps {dt a} {t} (e : execWritePhaseCommit dt a s = .next t) : Keeps [.reg .lsh, .reg .prf, .reg .eng, .reg .csf, .reg .fbk, .reg .pwm, .reg .knl, .reg .que, .reg .acq, .reg .dio, .reg .err, .sets, .clk, .bulk, .log, .knl, .que, .axes, .prf, .pwm, .drn, .probes, .acq] s t := by
  have hm := within_refl [.reg .lsh, .reg .prf, .reg .eng, .reg .csf, .reg .fbk, .reg .pwm, .reg .knl, .reg .que, .reg .acq, .reg .dio, .reg .err, .sets, .clk, .bulk, .log, .knl, .que, .axes, .prf, .pwm, .drn, .probes, .acq]
  have h := Keeps.refl [.reg .lsh, .reg .prf, .reg .eng, .reg .csf, .reg .fbk, .reg .pwm, .reg .knl, .reg .que, .reg .acq, .reg .dio, .reg .err, .sets, .clk, .bulk, .log, .knl, .que, .axes, .prf, .pwm, .drn, .probes, .acq] s
  simp only [execWritePhaseCommit, Host.Outcome.next.injEq] at e
  subst e
  repeat' with_reducible first
    | exact h
    | refine keeps_ite (fun _ => ?_) (fun _ => ?_)
    | refine State.writePhaseNow_keeps ?_ (within_trans hm (by decide))
    | refine State.elapse_keeps ?_ (within_trans hm (by decide))
    | refine keeps_pair (by assumption) ?_
    | split

theorem execWatchdogTorqueOff_keeps {dt a} {t} (e : execWatchdogTorqueOff dt a s = .next t) : Keeps [.reg .prf, .reg .eng, .reg .csf, .reg .fbk, .reg .pwm, .reg .dio, .sets, .clk, .axes, .prf, .pwm, .probes] s t := by
  have hm := within_refl [.reg .prf, .reg .eng, .reg .csf, .reg .fbk, .reg .pwm, .reg .dio, .sets, .clk, .axes, .prf, .pwm, .probes]
  have h := Keeps.refl [.reg .prf, .reg .eng, .reg .csf, .reg .fbk, .reg .pwm, .reg .dio, .sets, .clk, .axes, .prf, .pwm, .probes] s
  simp only [execWatchdogTorqueOff, Host.Outcome.next.injEq] at e
  subst e
  repeat' with_reducible first
    | exact h
    | refine keeps_ite (fun _ => ?_) (fun _ => ?_)
    | refine State.elapse_keeps ?_ (within_trans hm (by decide))
    | refine State.torqueOff_keeps ?_ (within_trans hm (by decide))
    | refine keeps_pair (by assumption) ?_
    | split

theorem execPwmPeriodBoundary_keeps {dt a} {t} (e : execPwmPeriodBoundary dt a s = .next t) : Keeps [.reg .lsh, .reg .eng, .reg .pwm, .reg .err, .sets, .clk, .log, .axes, .eng, .pwm] s t := by
  have hm := within_refl [.reg .lsh, .reg .eng, .reg .pwm, .reg .err, .sets, .clk, .log, .axes, .eng, .pwm]
  have h := Keeps.refl [.reg .lsh, .reg .eng, .reg .pwm, .reg .err, .sets, .clk, .log, .axes, .eng, .pwm] s
  simp only [execPwmPeriodBoundary, Host.Outcome.next.injEq] at e
  subst e
  repeat' with_reducible first
    | exact h
    | refine keeps_ite (fun _ => ?_) (fun _ => ?_)
    | refine State.elapse_keeps ?_ (within_trans hm (by decide))
    | refine State.pwmBoundary_keeps ?_ (within_trans hm (by decide))
    | refine keeps_pair (by assumption) ?_
    | split

theorem execTripAssert_keeps {dt a} {t} (e : execTripAssert dt a s = .next t) : Keeps [.reg .pwm, .sets, .clk, .pwm] s t := by
  have hm := within_refl [.reg .pwm, .sets, .clk, .pwm]
  have h := Keeps.refl [.reg .pwm, .sets, .clk, .pwm] s
  simp only [execTripAssert, Host.Outcome.next.injEq] at e
  subst e
  repeat' with_reducible first
    | exact h
    | refine keeps_ite (fun _ => ?_) (fun _ => ?_)
    | refine State.tripFall_keeps ?_ (within_trans hm (by decide))
    | refine State.elapse_keeps ?_ (within_trans hm (by decide))
    | refine keeps_pair (by assumption) ?_
    | split

theorem execTripDeassert_keeps {dt a} {t} (e : execTripDeassert dt a s = .next t) : Keeps [.sets, .clk, .pwm] s t := by
  have hm := within_refl [.sets, .clk, .pwm]
  have h := Keeps.refl [.sets, .clk, .pwm] s
  simp only [execTripDeassert, Host.Outcome.next.injEq] at e
  subst e
  repeat' with_reducible first
    | exact h
    | refine keeps_ite (fun _ => ?_) (fun _ => ?_)
    | refine State.elapse_keeps ?_ (within_trans hm (by decide))
    | refine State.onPax_keeps ?_ (within_trans hm (by decide))
    | refine keeps_pair (by assumption) ?_
    | split

theorem execTripEscalation_keeps {dt a} {t} (e : execTripEscalation dt a s = .next t) : Keeps [.reg .prf, .reg .eng, .reg .csf, .reg .fbk, .reg .pwm, .reg .knl, .reg .que, .reg .acq, .reg .dio, .reg .err, .sets, .clk, .bulk, .log, .knl, .que, .axes, .prf, .pwm, .drn, .probes, .acq] s t := by
  have hm := within_refl [.reg .prf, .reg .eng, .reg .csf, .reg .fbk, .reg .pwm, .reg .knl, .reg .que, .reg .acq, .reg .dio, .reg .err, .sets, .clk, .bulk, .log, .knl, .que, .axes, .prf, .pwm, .drn, .probes, .acq]
  have h := Keeps.refl [.reg .prf, .reg .eng, .reg .csf, .reg .fbk, .reg .pwm, .reg .knl, .reg .que, .reg .acq, .reg .dio, .reg .err, .sets, .clk, .bulk, .log, .knl, .que, .axes, .prf, .pwm, .drn, .probes, .acq] s
  simp only [execTripEscalation, Host.Outcome.next.injEq] at e
  subst e
  repeat' with_reducible first
    | exact h
    | refine keeps_ite (fun _ => ?_) (fun _ => ?_)
    | refine State.tripEscalate_keeps ?_ (within_trans hm (by decide))
    | refine State.elapse_keeps ?_ (within_trans hm (by decide))
    | refine keeps_pair (by assumption) ?_
    | split

theorem execGateEnableLow_keeps {dt g x y} {t} (e : execGateEnableLow dt g x y s = .next t) : Keeps [.reg .prf, .reg .eng, .reg .csf, .reg .fbk, .reg .pwm, .reg .knl, .reg .que, .reg .dio, .reg .saf, .reg .err, .fresh, .sets, .clk, .bulk, .log, .knl, .que, .axes, .prf, .pwm, .probes] s t := by
  have hm := within_refl [.reg .prf, .reg .eng, .reg .csf, .reg .fbk, .reg .pwm, .reg .knl, .reg .que, .reg .dio, .reg .saf, .reg .err, .fresh, .sets, .clk, .bulk, .log, .knl, .que, .axes, .prf, .pwm, .probes]
  have h := Keeps.refl [.reg .prf, .reg .eng, .reg .csf, .reg .fbk, .reg .pwm, .reg .knl, .reg .que, .reg .dio, .reg .saf, .reg .err, .fresh, .sets, .clk, .bulk, .log, .knl, .que, .axes, .prf, .pwm, .probes] s
  simp only [execGateEnableLow, Host.Outcome.next.injEq] at e
  subst e
  repeat' with_reducible first
    | exact h
    | refine keeps_ite (fun _ => ?_) (fun _ => ?_)
    | refine State.gateEnables_keeps ?_ (within_trans hm (by decide))
    | refine State.elapse_keeps ?_ (within_trans hm (by decide))
    | refine keeps_pair (by assumption) ?_
    | split

theorem execPwmClockLoss_keeps {dt i lost} {t} (e : execPwmClockLoss dt i lost s = .next t) : Keeps [.reg .prf, .reg .eng, .reg .csf, .reg .fbk, .reg .pwm, .reg .knl, .reg .que, .reg .acq, .reg .dio, .reg .err, .sets, .clk, .bulk, .log, .knl, .que, .axes, .prf, .pwm, .drn, .probes, .acq] s t := by
  have hm := within_refl [.reg .prf, .reg .eng, .reg .csf, .reg .fbk, .reg .pwm, .reg .knl, .reg .que, .reg .acq, .reg .dio, .reg .err, .sets, .clk, .bulk, .log, .knl, .que, .axes, .prf, .pwm, .drn, .probes, .acq]
  have h := Keeps.refl [.reg .prf, .reg .eng, .reg .csf, .reg .fbk, .reg .pwm, .reg .knl, .reg .que, .reg .acq, .reg .dio, .reg .err, .sets, .clk, .bulk, .log, .knl, .que, .axes, .prf, .pwm, .drn, .probes, .acq] s
  simp only [execPwmClockLoss, Host.Outcome.next.injEq] at e
  subst e
  repeat' with_reducible first
    | exact h
    | refine keeps_ite (fun _ => ?_) (fun _ => ?_)
    | refine State.elapse_keeps ?_ (within_trans hm (by decide))
    | refine State.pwmClockLost_keeps ?_ (within_trans hm (by decide))
    | refine State.onPwm_keeps ?_ (within_trans hm (by decide))
    | refine keeps_pair (by assumption) ?_
    | split

theorem execDebugHalt_keeps {dt t'} {t} (e : execDebugHalt dt t' s = .next t) : Keeps [.reg .prf, .reg .eng, .reg .csf, .reg .fbk, .reg .pwm, .reg .knl, .reg .que, .reg .acq, .reg .dio, .reg .err, .sets, .clk, .bulk, .log, .knl, .que, .axes, .prf, .eng, .pwm, .drn, .probes, .acq] s t := by
  have hm := within_refl [.reg .prf, .reg .eng, .reg .csf, .reg .fbk, .reg .pwm, .reg .knl, .reg .que, .reg .acq, .reg .dio, .reg .err, .sets, .clk, .bulk, .log, .knl, .que, .axes, .prf, .eng, .pwm, .drn, .probes, .acq]
  have h := Keeps.refl [.reg .prf, .reg .eng, .reg .csf, .reg .fbk, .reg .pwm, .reg .knl, .reg .que, .reg .acq, .reg .dio, .reg .err, .sets, .clk, .bulk, .log, .knl, .que, .axes, .prf, .eng, .pwm, .drn, .probes, .acq] s
  simp only [execDebugHalt, Host.Outcome.next.injEq] at e
  subst e
  repeat' with_reducible first
    | exact h
    | refine keeps_ite (fun _ => ?_) (fun _ => ?_)
    | refine State.elapse_keeps ?_ (within_trans hm (by decide))
    | refine State.debugHalt_keeps ?_ (within_trans hm (by decide))
    | refine keeps_pair (by assumption) ?_
    | split

theorem execDebugResume_keeps {dt t'} {t} (e : execDebugResume dt t' s = .next t) : Keeps [.reg .pwm, .reg .err, .sets, .clk, .log, .eng, .pwm] s t := by
  have hm := within_refl [.reg .pwm, .reg .err, .sets, .clk, .log, .eng, .pwm]
  have h := Keeps.refl [.reg .pwm, .reg .err, .sets, .clk, .log, .eng, .pwm] s
  simp only [execDebugResume, Host.Outcome.next.injEq] at e
  subst e
  repeat' with_reducible first
    | exact h
    | refine keeps_ite (fun _ => ?_) (fun _ => ?_)
    | refine State.elapse_keeps ?_ (within_trans hm (by decide))
    | refine State.debugResume_keeps ?_ (within_trans hm (by decide))
    | refine keeps_pair (by assumption) ?_
    | split

theorem execAuxBoundary_keeps {dt k l} {t} (e : execAuxBoundary dt k l s = .next t) : Keeps [.reg .lsh, .reg .pwm, .reg .err, .sets, .clk, .log, .lim, .pwm] s t := by
  have hm := within_refl [.reg .lsh, .reg .pwm, .reg .err, .sets, .clk, .log, .lim, .pwm]
  have h := Keeps.refl [.reg .lsh, .reg .pwm, .reg .err, .sets, .clk, .log, .lim, .pwm] s
  simp only [execAuxBoundary, Host.Outcome.next.injEq] at e
  subst e
  repeat' with_reducible first
    | exact h
    | refine keeps_ite (fun _ => ?_) (fun _ => ?_)
    | refine State.elapse_keeps ?_ (within_trans hm (by decide))
    | refine State.auxBoundary_keeps ?_ (within_trans hm (by decide))
    | refine keeps_pair (by assumption) ?_
    | split

theorem execAuxCommit_keeps {dt k} {t} (e : execAuxCommit dt k s = .next t) : Keeps [.sets, .clk, .pwm] s t := by
  have hm := within_refl [.sets, .clk, .pwm]
  have h := Keeps.refl [.sets, .clk, .pwm] s
  simp only [execAuxCommit, Host.Outcome.next.injEq] at e
  subst e
  repeat' with_reducible first
    | exact h
    | refine keeps_ite (fun _ => ?_) (fun _ => ?_)
    | refine State.elapse_keeps ?_ (within_trans hm (by decide))
    | refine State.auxCommit_keeps ?_ (within_trans hm (by decide))
    | refine keeps_pair (by assumption) ?_
    | split

theorem execAuxoff_keeps {dt mask} {t} (e : execAuxoff dt mask s = .next t) : Keeps [.reg .pwm, .sets, .clk, .pwm] s t := by
  have hm := within_refl [.reg .pwm, .sets, .clk, .pwm]
  have h := Keeps.refl [.reg .pwm, .sets, .clk, .pwm] s
  simp only [execAuxoff, Host.Outcome.next.injEq] at e
  subst e
  repeat' with_reducible first
    | exact h
    | refine keeps_ite (fun _ => ?_) (fun _ => ?_)
    | refine State.auxTurnOff_keeps ?_ (within_trans hm (by decide))
    | refine State.elapse_keeps ?_ (within_trans hm (by decide))
    | refine keeps_pair (by assumption) ?_
    | split

end Sys2Proof.Machine
end

