-- ==== Sys2Proof/Laws/KeepsMotion.lean ====
section
/-! SUPPORT. What each operation and command of EngineRun, Trajectory, Cams, Couple, Paths, MotionCmd, ProfileTick leaves alone. -/

namespace Sys2Proof.Machine

set_option linter.unusedTactic false
set_option linter.unreachableTactic false
set_option maxRecDepth 4000

variable {m : List Part} {s0 s : State}

/-! ### EngineRun -/

theorem engStep_keeps {i} {t} (e : engStep i s = .next t) : Keeps [.reg .lsh, .reg .eng, .reg .err, .fresh, .sets, .log, .axes, .eng] s t := by
  unfold engStep at e
  split at e
  all_goals with_reducible first
    | exact (execEngDiv_keeps e).mono (by decide)
    | exact (execEngMacm_keeps e).mono (by decide)
    | exact (execEngTsta_keeps e).mono (by decide)
    | exact (execEngAbsa_keeps e).mono (by decide)
    | exact (execEngCmp_keeps e).mono (by decide)
    | exact (execEngNega_keeps e).mono (by decide)
    | exact (execEngAdda_keeps e).mono (by decide)
    | exact (execEngSt_keeps e).mono (by decide)
    | exact (execEngDmacm_keeps e).mono (by decide)
    | exact (execEngLld_keeps e).mono (by decide)
    | exact (execEngAsh_keeps e).mono (by decide)
    | exact (execEngOutc_keeps e).mono (by decide)
    | exact (execEngLmov_keeps e).mono (by decide)
    | exact (execEngLsub_keeps e).mono (by decide)
    | exact (execEngSela_keeps e).mono (by decide)
    | exact (execEngClrf_keeps e).mono (by decide)
    | exact (execEngLin_keeps e).mono (by decide)
    | exact (execEngLdi_keeps e).mono (by decide)
    | exact (execEngSata_keeps e).mono (by decide)
    | exact (execEngMac_keeps e).mono (by decide)
    | exact (execEngNorm_keeps e).mono (by decide)
    | exact (execEngSeld_keeps e).mono (by decide)
    | exact (execEngNegd_keeps e).mono (by decide)
    | exact (execEngIn_keeps e).mono (by decide)
    | exact (execEngExp_keeps e).mono (by decide)
    | exact (execEngMovd_keeps e).mono (by decide)
    | exact (execEngMax_keeps e).mono (by decide)
    | exact (execEngSqrt_keeps e).mono (by decide)
    | exact (execEngOutk_keeps e).mono (by decide)
    | exact (execEngLdp_keeps e).mono (by decide)
    | exact (execEngLst_keeps e).mono (by decide)
    | exact (execEngOut_keeps e).mono (by decide)
    | exact (execEngLadd_keeps e).mono (by decide)
    | exact (execEngSincos_keeps e).mono (by decide)
    | exact (execEngStw_keeps e).mono (by decide)
    | exact (execEngLdm_keeps e).mono (by decide)
    | exact (execEngSubd_keeps e).mono (by decide)
    | exact (execEngLta_keeps e).mono (by decide)
    | exact (execEngDmac_keeps e).mono (by decide)
    | exact (execEngRep_keeps e).mono (by decide)
    | exact (execEngNop_keeps e).mono (by decide)
    | exact (execEngEnd_keeps e).mono (by decide)
    | exact (execEngMov_keeps e).mono (by decide)
    | exact (execEngSta_keeps e).mono (by decide)
    | exact (execEngSuba_keeps e).mono (by decide)
    | exact (execEngAddk_keeps e).mono (by decide)
    | exact (execEngAddd_keeps e).mono (by decide)
    | exact (execEngLd_keeps e).mono (by decide)
    | exact (execEngLdw_keeps e).mono (by decide)
    | exact (execEngLda_keeps e).mono (by decide)
    | exact (execEngClra_keeps e).mono (by decide)
    | exact (execEngOuti_keeps e).mono (by decide)
    | exact (execEngSell_keeps e).mono (by decide)
    | exact (execEngMin_keeps e).mono (by decide)
    | (cases e; exact Keeps.refl _ _)

theorem outState_keeps {o} (ho : ∀ t, o = .next t → Keeps m s0 t) (h : Keeps m s0 s) : Keeps m s0 (outState s o) := by
  unfold outState
  split
  · exact ho _ rfl
  · exact h

theorem State.runProgram_keeps {x base stop k} (h : Keeps m s0 s) (hm : within [.reg .lsh, .reg .eng, .reg .err, .fresh, .sets, .log, .axes, .eng] m = true) : Keeps m s0 (State.runProgram x base stop k s) := by
  induction k generalizing x base stop s with
  | zero => exact h
  | succ k ih =>
    unfold State.runProgram
    try dsimp only
    repeat' with_reducible first
      | exact h
      | refine ih ?_
      | refine keeps_ite (fun _ => ?_) (fun _ => ?_)
      | refine outState_keeps (fun _ e => ?_) ?_
      | (refine Keeps.trans ?_ ((engStep_keeps (by assumption)).mono (within_trans hm (by decide))))
      | refine State.onCx_keeps ?_ (within_trans hm (by decide))
      | refine keeps_foldl ?_ _ ?_
      | (intro _ _ h; try dsimp only)
      | refine keeps_pair (by assumption) ?_
      | split

theorem State.showFlags_keeps {a vel} (h : Keeps m s0 s) (hm : within [.reg .eng] m = true) : Keeps m s0 (State.showFlags a vel s) := by
  unfold State.showFlags
  try dsimp only
  repeat' with_reducible first
    | exact h
    | refine keeps_ite (fun _ => ?_) (fun _ => ?_)
    | refine State.put_keeps (by first | exact ENG_FLG_AV_blk .. | exact ENG_FLG_AVV_blk .. | exact ENG_FLG_N_blk .. | exact ENG_FLG_SAT_blk .. | exact ENG_FLG_Z_blk .. | (refine blk_ite ?_ ?_ <;> first | exact ENG_FLG_AV_blk .. | exact ENG_FLG_AVV_blk .. | exact ENG_FLG_N_blk .. | exact ENG_FLG_SAT_blk .. | exact ENG_FLG_Z_blk ..)) ?_ (within_trans hm (by decide))
    | refine State.mark_keeps (by first | exact ENG_FLG_AV_blk .. | exact ENG_FLG_AVV_blk .. | exact ENG_FLG_N_blk .. | exact ENG_FLG_SAT_blk .. | exact ENG_FLG_Z_blk .. | (refine blk_ite ?_ ?_ <;> first | exact ENG_FLG_AV_blk .. | exact ENG_FLG_AVV_blk .. | exact ENG_FLG_N_blk .. | exact ENG_FLG_SAT_blk .. | exact ENG_FLG_Z_blk ..)) ?_ (within_trans hm (by decide))
    | refine keeps_pair (by assumption) ?_
    | split

theorem State.endInstance_keeps {j t'} (h : Keeps m s0 s) (hm : within [.reg .eng, .eng] m = true) : Keeps m s0 (State.endInstance j t' s) := by
  unfold State.endInstance
  try dsimp only
  repeat' with_reducible first
    | exact h
    | refine keeps_ite (fun _ => ?_) (fun _ => ?_)
    | refine State.onCx_keeps ?_ (within_trans hm (by decide))
    | refine State.showFlags_keeps ?_ (within_trans hm (by decide))
    | refine State.mark_keeps (by first | exact preFlag_blk ..) ?_ (within_trans hm (by decide))
    | refine keeps_pair (by assumption) ?_
    | split

theorem State.runOn_keeps {x whole} (h : Keeps m s0 s) (hm : within [.reg .lsh, .reg .eng, .reg .err, .fresh, .sets, .log, .axes, .eng] m = true) : Keeps m s0 (State.runOn x whole s) := by
  unfold State.runOn
  try dsimp only
  repeat' with_reducible first
    | exact h
    | refine keeps_ite (fun _ => ?_) (fun _ => ?_)
    | refine State.runProgram_keeps ?_ (within_trans hm (by decide))
    | refine State.endInstance_keeps ?_ (within_trans hm (by decide))
    | refine keeps_pair (by assumption) ?_
    | split

theorem State.portsLatched_keeps {a kind} (h : Keeps m s0 s) (hm : within [.reg .lsh, .reg .eng, .reg .err, .fresh, .sets, .log, .axes, .eng] m = true) : Keeps m s0 (State.portsLatched a kind s) := by
  unfold State.portsLatched
  try dsimp only
  repeat' with_reducible first
    | exact h
    | refine keeps_ite (fun _ => ?_) (fun _ => ?_)
    | refine State.onCx_keeps ?_ (within_trans hm (by decide))
    | refine State.runOn_keeps ?_ (within_trans hm (by decide))
    | refine keeps_getD (fun _ _ => ?_) ?_
    | refine keeps_pair (by assumption) ?_
    | split

theorem State.runSlot_keeps {j} (h : Keeps m s0 s) (hm : within [.reg .lsh, .reg .eng, .reg .err, .fresh, .sets, .log, .axes, .eng] m = true) : Keeps m s0 (State.runSlot j s) := by
  unfold State.runSlot
  try dsimp only
  repeat' with_reducible first
    | exact h
    | refine keeps_ite (fun _ => ?_) (fun _ => ?_)
    | refine State.runOn_keeps ?_ (within_trans hm (by decide))
    | refine State.onCx_keeps ?_ (within_trans hm (by decide))
    | refine keeps_pair (by assumption) ?_
    | split

theorem State.slotInstance_keeps {j late} (h : Keeps m s0 s) (hm : within [.reg .lsh, .reg .prf, .reg .eng, .reg .csf, .reg .fbk, .reg .pwm, .reg .knl, .reg .que, .reg .acq, .reg .dio, .reg .err, .fresh, .sets, .bulk, .log, .knl, .que, .axes, .prf, .eng, .pwm, .drn, .probes, .acq] m = true) : Keeps m s0 (State.slotInstance j late s) := by
  unfold State.slotInstance
  try dsimp only
  repeat' with_reducible first
    | exact h
    | refine keeps_ite (fun _ => ?_) (fun _ => ?_)
    | refine State.latch_keeps (by first | exact ENG_CST_LATE_blk .. | exact ENG_STAT_LATE_blk .. | (refine blk_ite ?_ ?_ <;> first | exact ENG_CST_LATE_blk .. | exact ENG_STAT_LATE_blk ..)) ?_ (within_trans hm (by decide))
    | refine State.satBump_keeps (by first | exact ENG_CST_LATE_blk .. | exact ENG_STAT_LATE_blk .. | (refine blk_ite ?_ ?_ <;> first | exact ENG_CST_LATE_blk .. | exact ENG_STAT_LATE_blk ..)) ?_ (within_trans hm (by decide))
    | refine State.fault_keeps ?_ (within_trans hm (by decide))
    | refine State.runSlot_keeps ?_ (within_trans hm (by decide))
    | refine keeps_pair (by assumption) ?_
    | split

theorem State.latchPos_keeps {a} (h : Keeps m s0 s) (hm : within [.eng] m = true) : Keeps m s0 (State.latchPos a s) := by
  unfold State.latchPos
  try dsimp only
  repeat' with_reducible first
    | exact h
    | refine keeps_ite (fun _ => ?_) (fun _ => ?_)
    | refine State.onCx_keeps ?_ (within_trans hm (by decide))
    | refine keeps_pair (by assumption) ?_
    | split

theorem State.speedCheck_keeps {a d} (h : Keeps m s0 s) (hm : within [.axes] m = true) : Keeps m s0 (State.speedCheck a d s) := by
  unfold State.speedCheck
  try dsimp only
  repeat' with_reducible first
    | exact h
    | refine keeps_ite (fun _ => ?_) (fun _ => ?_)
    | refine State.onAxis_keeps ?_ (within_trans hm (by decide))
    | refine keeps_pair (by assumption) ?_
    | split

theorem State.envCheck_keeps {a} (h : Keeps m s0 s) (hm : within [.reg .prf, .reg .eng, .reg .csf, .reg .fbk, .reg .pwm, .reg .knl, .reg .que, .reg .acq, .reg .dio, .reg .err, .sets, .bulk, .log, .knl, .que, .axes, .prf, .pwm, .drn, .probes, .acq] m = true) : Keeps m s0 (State.envCheck a s) := by
  unfold State.envCheck
  try dsimp only
  repeat' with_reducible first
    | exact h
    | refine keeps_ite (fun _ => ?_) (fun _ => ?_)
    | refine State.onAxis_keeps ?_ (within_trans hm (by decide))
    | refine State.fault_keeps ?_ (within_trans hm (by decide))
    | refine keeps_pair (by assumption) ?_
    | split

theorem State.velBoundary_keeps {a} (h : Keeps m s0 s) (hm : within [.reg .lsh, .reg .prf, .reg .eng, .reg .csf, .reg .fbk, .reg .pwm, .reg .knl, .reg .que, .reg .acq, .reg .rng, .reg .dio, .reg .err, .fresh, .sets, .bulk, .log, .knl, .que, .axes, .lim, .prf, .eng, .pwm, .drn, .ine, .shp, .csf, .ports, .probes, .acq] m = true) : Keeps m s0 (State.velBoundary a s) := by
  unfold State.velBoundary
  try dsimp only
  repeat' with_reducible first
    | exact h
    | refine keeps_ite (fun _ => ?_) (fun _ => ?_)
    | refine State.commitsNow_keeps ?_ (within_trans hm (by decide))
    | refine State.portBoundary_keeps ?_ (within_trans hm (by decide))
    | refine State.onCx_keeps ?_ (within_trans hm (by decide))
    | refine State.darnBoundary_keeps ?_ (within_trans hm (by decide))
    | refine State.latchPos_keeps ?_ (within_trans hm (by decide))
    | refine State.envCheck_keeps ?_ (within_trans hm (by decide))
    | refine State.speedCheck_keeps ?_ (within_trans hm (by decide))
    | refine keeps_pair (by assumption) ?_
    | split

theorem State.clampPeriod_keeps {a} (h : Keeps m s0 s) (hm : within [.reg .lsh, .axes] m = true) : Keeps m s0 (State.clampPeriod a s) := by
  unfold State.clampPeriod
  try dsimp only
  repeat' with_reducible first
    | exact h
    | refine keeps_ite (fun _ => ?_) (fun _ => ?_)
    | refine State.satBump_keeps (by first | exact LSH_CCNT_blk .. | exact whole_blk (LSH_CCNT_blk ..) | exact LSH_ESC_RUN_blk .. | (refine blk_ite ?_ ?_ <;> first | exact LSH_CCNT_blk .. | exact whole_blk (LSH_CCNT_blk ..) | exact LSH_ESC_RUN_blk ..)) ?_ (within_trans hm (by decide))
    | refine State.put_keeps (by first | exact LSH_CCNT_blk .. | exact whole_blk (LSH_CCNT_blk ..) | exact LSH_ESC_RUN_blk .. | (refine blk_ite ?_ ?_ <;> first | exact LSH_CCNT_blk .. | exact whole_blk (LSH_CCNT_blk ..) | exact LSH_ESC_RUN_blk ..)) ?_ (within_trans hm (by decide))
    | refine State.onAxis_keeps ?_ (within_trans hm (by decide))
    | refine keeps_pair (by assumption) ?_
    | split

theorem State.latchSet_keeps {a} (h : Keeps m s0 s) (hm : within [.eng] m = true) : Keeps m s0 (State.latchSet a s) := by
  unfold State.latchSet
  try dsimp only
  repeat' with_reducible first
    | exact h
    | refine keeps_ite (fun _ => ?_) (fun _ => ?_)
    | refine State.onCx_keeps ?_ (within_trans hm (by decide))
    | refine keeps_pair (by assumption) ?_
    | split

theorem State.followCheck_keeps {a} (h : Keeps m s0 s) (hm : within [.axes] m = true) : Keeps m s0 (State.followCheck a s) := by
  unfold State.followCheck
  try dsimp only
  repeat' with_reducible first
    | exact h
    | refine keeps_ite (fun _ => ?_) (fun _ => ?_)
    | refine State.onAxis_keeps ?_ (within_trans hm (by decide))
    | refine keeps_pair (by assumption) ?_
    | split

theorem State.posBoundary_keeps {a} (h : Keeps m s0 s) (hm : within [.reg .lsh, .reg .eng, .reg .err, .sets, .log, .axes, .lim, .eng] m = true) : Keeps m s0 (State.posBoundary a s) := by
  unfold State.posBoundary
  try dsimp only
  repeat' with_reducible first
    | exact h
    | refine keeps_ite (fun _ => ?_) (fun _ => ?_)
    | refine State.lowerAll_keeps ?_ (within_trans hm (by decide))
    | refine State.latchSet_keeps ?_ (within_trans hm (by decide))
    | refine State.latchPos_keeps ?_ (within_trans hm (by decide))
    | refine State.clampPeriod_keeps ?_ (within_trans hm (by decide))
    | refine State.followCheck_keeps ?_ (within_trans hm (by decide))
    | refine State.drop_keeps (by first | exact ENG_SST_SETTLE_blk ..) ?_ (within_trans hm (by decide))
    | refine keeps_pair (by assumption) ?_
    | split

theorem State.takeRef_keeps {a} (h : Keeps m s0 s) (hm : within [.eng] m = true) : Keeps m s0 (State.takeRef a s) := by
  unfold State.takeRef
  try dsimp only
  repeat' with_reducible first
    | exact h
    | refine keeps_ite (fun _ => ?_) (fun _ => ?_)
    | refine State.onCx_keeps ?_ (within_trans hm (by decide))
    | refine keeps_pair (by assumption) ?_
    | split

theorem State.bandPhase_keeps {a h' cur} (h : Keeps m s0 s) (hm : within [.reg .lsh, .reg .eng, .reg .err, .fresh, .sets, .log, .axes, .eng] m = true) : Keeps m s0 (State.bandPhase a h' cur s) := by
  unfold State.bandPhase
  try dsimp only
  repeat' with_reducible first
    | exact h
    | refine keeps_ite (fun _ => ?_) (fun _ => ?_)
    | refine State.drew_keeps ?_ (within_trans hm (by decide))
    | refine State.onCx_keeps ?_ (within_trans hm (by decide))
    | refine State.satBump_keeps (by first | exact ENG_BCNT_CUT_blk .. | exact ENG_BCNT_SWITCH_blk .. | exact bandSt_blk .. | (refine blk_ite ?_ ?_ <;> first | exact ENG_BCNT_CUT_blk .. | exact ENG_BCNT_SWITCH_blk .. | exact bandSt_blk ..)) ?_ (within_trans hm (by decide))
    | refine State.bump_keeps (by first | exact ENG_BCNT_CUT_blk .. | exact ENG_BCNT_SWITCH_blk .. | exact bandSt_blk .. | (refine blk_ite ?_ ?_ <;> first | exact ENG_BCNT_CUT_blk .. | exact ENG_BCNT_SWITCH_blk .. | exact bandSt_blk ..)) ?_ (within_trans hm (by decide))
    | refine State.put_keeps (by first | exact ENG_BCNT_CUT_blk .. | exact ENG_BCNT_SWITCH_blk .. | exact bandSt_blk .. | (refine blk_ite ?_ ?_ <;> first | exact ENG_BCNT_CUT_blk .. | exact ENG_BCNT_SWITCH_blk .. | exact bandSt_blk ..)) ?_ (within_trans hm (by decide))
    | refine State.leashCompare_keeps ?_ (within_trans hm (by decide))
    | refine State.sendPwm_keeps ?_ (within_trans hm (by decide))
    | refine keeps_pair (by assumption) ?_
    | split

theorem State.bandBoundary_keeps {a bits} (h : Keeps m s0 s) (hm : within [.reg .lsh, .reg .eng, .reg .csf, .reg .pwm, .reg .err, .fresh, .sets, .log, .axes, .eng, .pwm, .csf] m = true) : Keeps m s0 (State.bandBoundary a bits s) := by
  unfold State.bandBoundary
  try dsimp only
  repeat' with_reducible first
    | exact h
    | refine keeps_ite (fun _ => ?_) (fun _ => ?_)
    | refine State.takeBand_keeps ?_ (within_trans hm (by decide))
    | refine State.takeRef_keeps ?_ (within_trans hm (by decide))
    | refine State.showCurrents_keeps ?_ (within_trans hm (by decide))
    | refine State.onCx_keeps ?_ (within_trans hm (by decide))
    | refine State.bandPhase_keeps ?_ (within_trans hm (by decide))
    | refine State.sendPwm_keeps ?_ (within_trans hm (by decide))
    | refine keeps_foldl ?_ _ ?_
    | refine keeps_foldl_snd ?_ _ ?_
    | (intro _ _ h; try dsimp only)
    | refine keeps_getD (fun _ _ => ?_) ?_
    | refine keeps_pair (by assumption) ?_
    | split

theorem execSlotInstance_keeps {dt j late} {t} (e : execSlotInstance dt j late s = .next t) : Keeps [.reg .lsh, .reg .prf, .reg .eng, .reg .csf, .reg .fbk, .reg .pwm, .reg .knl, .reg .que, .reg .acq, .reg .dio, .reg .err, .fresh, .sets, .clk, .bulk, .log, .knl, .que, .axes, .prf, .eng, .pwm, .drn, .probes, .acq] s t := by
  have hm := within_refl [.reg .lsh, .reg .prf, .reg .eng, .reg .csf, .reg .fbk, .reg .pwm, .reg .knl, .reg .que, .reg .acq, .reg .dio, .reg .err, .fresh, .sets, .clk, .bulk, .log, .knl, .que, .axes, .prf, .eng, .pwm, .drn, .probes, .acq]
  have h := Keeps.refl [.reg .lsh, .reg .prf, .reg .eng, .reg .csf, .reg .fbk, .reg .pwm, .reg .knl, .reg .que, .reg .acq, .reg .dio, .reg .err, .fresh, .sets, .clk, .bulk, .log, .knl, .que, .axes, .prf, .eng, .pwm, .drn, .probes, .acq] s
  simp only [execSlotInstance, Host.Outcome.next.injEq] at e
  subst e
  repeat' with_reducible first
    | exact h
    | refine keeps_ite (fun _ => ?_) (fun _ => ?_)
    | refine State.slotInstance_keeps ?_ (within_trans hm (by decide))
    | refine State.elapse_keeps ?_ (within_trans hm (by decide))
    | refine keeps_pair (by assumption) ?_
    | split

theorem State.pllEdge_keeps {k lost} (h : Keeps m s0 s) (hm : within [.reg .eng, .reg .err, .sets, .log, .eng] m = true) : Keeps m s0 (State.pllEdge k lost s) := by
  unfold State.pllEdge
  try dsimp only
  repeat' with_reducible first
    | exact h
    | refine keeps_ite (fun _ => ?_) (fun _ => ?_)
    | refine State.onEng_keeps ?_ (within_trans hm (by decide))
    | refine State.severe_keeps ?_ (within_trans hm (by decide))
    | refine State.latch_keeps (by first | exact ENG_STAT_PLLLOSS_blk ..) ?_ (within_trans hm (by decide))
    | refine keeps_pair (by assumption) ?_
    | split

theorem execEnginePllLoss_keeps {dt k lost} {t} (e : execEnginePllLoss dt k lost s = .next t) : Keeps [.reg .eng, .reg .err, .sets, .clk, .log, .eng] s t := by
  have hm := within_refl [.reg .eng, .reg .err, .sets, .clk, .log, .eng]
  have h := Keeps.refl [.reg .eng, .reg .err, .sets, .clk, .log, .eng] s
  simp only [execEnginePllLoss, Host.Outcome.next.injEq] at e
  subst e
  repeat' with_reducible first
    | exact h
    | refine keeps_ite (fun _ => ?_) (fun _ => ?_)
    | refine State.pllEdge_keeps ?_ (within_trans hm (by decide))
    | refine State.elapse_keeps ?_ (within_trans hm (by decide))
    | refine keeps_pair (by assumption) ?_
    | split

theorem execVelocityPeriodBoundary_keeps {dt a} {t} (e : execVelocityPeriodBoundary dt a s = .next t) : Keeps [.reg .lsh, .reg .prf, .reg .eng, .reg .csf, .reg .fbk, .reg .pwm, .reg .knl, .reg .que, .reg .acq, .reg .rng, .reg .dio, .reg .err, .fresh, .sets, .clk, .bulk, .log, .knl, .que, .axes, .lim, .prf, .eng, .pwm, .drn, .ine, .shp, .csf, .ports, .probes, .acq] s t := by
  have hm := within_refl [.reg .lsh, .reg .prf, .reg .eng, .reg .csf, .reg .fbk, .reg .pwm, .reg .knl, .reg .que, .reg .acq, .reg .rng, .reg .dio, .reg .err, .fresh, .sets, .clk, .bulk, .log, .knl, .que, .axes, .lim, .prf, .eng, .pwm, .drn, .ine, .shp, .csf, .ports, .probes, .acq]
  have h := Keeps.refl [.reg .lsh, .reg .prf, .reg .eng, .reg .csf, .reg .fbk, .reg .pwm, .reg .knl, .reg .que, .reg .acq, .reg .rng, .reg .dio, .reg .err, .fresh, .sets, .clk, .bulk, .log, .knl, .que, .axes, .lim, .prf, .eng, .pwm, .drn, .ine, .shp, .csf, .ports, .probes, .acq] s
  simp only [execVelocityPeriodBoundary, Host.Outcome.next.injEq] at e
  subst e
  repeat' with_reducible first
    | exact h
    | refine keeps_ite (fun _ => ?_) (fun _ => ?_)
    | refine State.elapse_keeps ?_ (within_trans hm (by decide))
    | refine State.portsLatched_keeps ?_ (within_trans hm (by decide))
    | refine State.velBoundary_keeps ?_ (within_trans hm (by decide))
    | refine keeps_pair (by assumption) ?_
    | split

theorem execPositionPeriodBoundary_keeps {dt a} {t} (e : execPositionPeriodBoundary dt a s = .next t) : Keeps [.reg .lsh, .reg .eng, .reg .err, .fresh, .sets, .clk, .log, .axes, .lim, .eng] s t := by
  have hm := within_refl [.reg .lsh, .reg .eng, .reg .err, .fresh, .sets, .clk, .log, .axes, .lim, .eng]
  have h := Keeps.refl [.reg .lsh, .reg .eng, .reg .err, .fresh, .sets, .clk, .log, .axes, .lim, .eng] s
  simp only [execPositionPeriodBoundary, Host.Outcome.next.injEq] at e
  subst e
  repeat' with_reducible first
    | exact h
    | refine keeps_ite (fun _ => ?_) (fun _ => ?_)
    | refine State.elapse_keeps ?_ (within_trans hm (by decide))
    | refine State.portsLatched_keeps ?_ (within_trans hm (by decide))
    | refine State.posBoundary_keeps ?_ (within_trans hm (by decide))
    | refine keeps_pair (by assumption) ?_
    | split

theorem execCurrentPeriodBoundary_keeps {dt a u v w} {t} (e : execCurrentPeriodBoundary dt a u v w s = .next t) : Keeps [.reg .lsh, .reg .eng, .reg .csf, .reg .dio, .reg .err, .fresh, .sets, .clk, .log, .axes, .eng, .csf] s t := by
  have hm := within_refl [.reg .lsh, .reg .eng, .reg .csf, .reg .dio, .reg .err, .fresh, .sets, .clk, .log, .axes, .eng, .csf]
  have h := Keeps.refl [.reg .lsh, .reg .eng, .reg .csf, .reg .dio, .reg .err, .fresh, .sets, .clk, .log, .axes, .eng, .csf] s
  simp only [execCurrentPeriodBoundary, Host.Outcome.next.injEq] at e
  subst e
  repeat' with_reducible first
    | exact h
    | refine keeps_ite (fun _ => ?_) (fun _ => ?_)
    | refine State.elapse_keeps ?_ (within_trans hm (by decide))
    | refine State.portsLatched_keeps ?_ (within_trans hm (by decide))
    | refine State.strobe_keeps ?_ (within_trans hm (by decide))
    | refine keeps_pair (by assumption) ?_
    | split

theorem execBandBoundary_keeps {dt a u v w} {t} (e : execBandBoundary dt a u v w s = .next t) : Keeps [.reg .lsh, .reg .eng, .reg .csf, .reg .pwm, .reg .err, .fresh, .sets, .clk, .log, .axes, .eng, .pwm, .csf] s t := by
  have hm := within_refl [.reg .lsh, .reg .eng, .reg .csf, .reg .pwm, .reg .err, .fresh, .sets, .clk, .log, .axes, .eng, .pwm, .csf]
  have h := Keeps.refl [.reg .lsh, .reg .eng, .reg .csf, .reg .pwm, .reg .err, .fresh, .sets, .clk, .log, .axes, .eng, .pwm, .csf] s
  simp only [execBandBoundary, Host.Outcome.next.injEq] at e
  subst e
  repeat' with_reducible first
    | exact h
    | refine keeps_ite (fun _ => ?_) (fun _ => ?_)
    | refine State.elapse_keeps ?_ (within_trans hm (by decide))
    | refine State.bandBoundary_keeps ?_ (within_trans hm (by decide))
    | refine keeps_pair (by assumption) ?_
    | split

/-! ### Trajectory -/

theorem State.planStep_keeps {n p v a} (h : Keeps m s0 s) (hm : within [.fresh] m = true) : Keeps m s0 (State.planStep n p v a s).2 := by
  unfold State.planStep
  try dsimp only
  repeat' with_reducible first
    | exact h
    | refine keeps_ite (fun _ => ?_) (fun _ => ?_)
    | refine State.drew_keeps ?_ (within_trans hm (by decide))
    | refine keeps_pair (by assumption) ?_
    | split

/-! ### Cams -/

theorem State.rounded_keeps {v} (h : Keeps m s0 s) (hm : within [.fresh] m = true) : Keeps m s0 (State.rounded v s).2 := by
  unfold State.rounded
  try dsimp only
  repeat' with_reducible first
    | exact h
    | refine keeps_ite (fun _ => ?_) (fun _ => ?_)
    | refine State.drew_keeps ?_ (within_trans hm (by decide))
    | refine keeps_pair (by assumption) ?_
    | split

/-! ### Couple -/

theorem State.setVel_keeps {n v} (h : Keeps m s0 s) (hm : within [.prf] m = true) : Keeps m s0 (State.setVel n v s) := by
  unfold State.setVel
  try dsimp only
  repeat' with_reducible first
    | exact h
    | refine keeps_ite (fun _ => ?_) (fun _ => ?_)
    | refine State.onMot_keeps ?_ (within_trans hm (by decide))
    | refine keeps_pair (by assumption) ?_
    | split

theorem State.mappedStep_keeps {k} (h : Keeps m s0 s) (hm : within [.prf] m = true) : Keeps m s0 (State.mappedStep k s) := by
  unfold State.mappedStep
  try dsimp only
  repeat' with_reducible first
    | exact h
    | refine keeps_ite (fun _ => ?_) (fun _ => ?_)
    | refine State.setVel_keeps ?_ (within_trans hm (by decide))
    | refine keeps_pair (by assumption) ?_
    | split

theorem State.mappedMove_keeps (h : Keeps m s0 s) (hm : within [.prf] m = true) : Keeps m s0 (State.mappedMove s) := by
  unfold State.mappedMove
  try dsimp only
  repeat' with_reducible first
    | exact h
    | refine keeps_ite (fun _ => ?_) (fun _ => ?_)
    | refine State.mappedStep_keeps ?_ (within_trans hm (by decide))
    | refine keeps_foldl ?_ _ ?_
    | refine keeps_foldl_snd ?_ _ ?_
    | (intro _ _ h; try dsimp only)
    | refine keeps_pair (by assumption) ?_
    | split

theorem State.onCpl_keeps {n f} (h : Keeps m s0 s) (hm : within [.prf] m = true) : Keeps m s0 (State.onCpl n f s) := by
  unfold State.onCpl
  try dsimp only
  repeat' with_reducible first
    | exact h
    | refine keeps_ite (fun _ => ?_) (fun _ => ?_)
    | refine State.onMot_keeps ?_ (within_trans hm (by decide))
    | refine keeps_pair (by assumption) ?_
    | split

theorem State.coupledAt_keeps {c mu d} (h : Keeps m s0 s) (hm : within [.fresh] m = true) : Keeps m s0 (State.coupledAt c mu d s).2 := by
  unfold State.coupledAt
  try dsimp only
  repeat' with_reducible first
    | exact h
    | refine keeps_ite (fun _ => ?_) (fun _ => ?_)
    | refine State.rounded_keeps ?_ (within_trans hm (by decide))
    | refine keeps_pair (by assumption) ?_
    | split

theorem State.superStep_keeps {n} (h : Keeps m s0 s) (hm : within [.reg .prf, .reg .knl, .reg .que, .reg .err, .fresh, .sets, .bulk, .log, .knl, .que, .prf] m = true) : Keeps m s0 (State.superStep n s).2 := by
  unfold State.superStep
  try dsimp only
  repeat' with_reducible first
    | exact h
    | refine keeps_ite (fun _ => ?_) (fun _ => ?_)
    | refine State.planStep_keeps ?_ (within_trans hm (by decide))
    | refine State.onMot_keeps ?_ (within_trans hm (by decide))
    | refine State.pushEvent_keeps ?_ (within_trans hm (by decide))
    | refine State.mark_keeps (by first | exact PRF_MVST_SUPER_blk ..) ?_ (within_trans hm (by decide))
    | refine keeps_pair (by assumption) ?_
    | split

theorem State.lock_keeps {n e c} (h : Keeps m s0 s) (hm : within [.reg .prf, .reg .knl, .reg .que, .reg .err, .sets, .bulk, .log, .knl, .que, .prf] m = true) : Keeps m s0 (State.lock n e c s) := by
  unfold State.lock
  try dsimp only
  repeat' with_reducible first
    | exact h
    | refine keeps_ite (fun _ => ?_) (fun _ => ?_)
    | refine State.onMot_keeps ?_ (within_trans hm (by decide))
    | refine State.setVel_keeps ?_ (within_trans hm (by decide))
    | refine State.pushEvent_keeps ?_ (within_trans hm (by decide))
    | refine keeps_pair (by assumption) ?_
    | split

theorem State.catchStep_keeps {n e vc c} (h : Keeps m s0 s) (hm : within [.reg .prf, .reg .knl, .reg .que, .reg .err, .fresh, .sets, .bulk, .log, .knl, .que, .prf] m = true) : Keeps m s0 (State.catchStep n e vc c s) := by
  unfold State.catchStep
  try dsimp only
  repeat' with_reducible first
    | exact h
    | refine keeps_ite (fun _ => ?_) (fun _ => ?_)
    | refine State.lock_keeps ?_ (within_trans hm (by decide))
    | refine State.onMot_keeps ?_ (within_trans hm (by decide))
    | refine State.setVel_keeps ?_ (within_trans hm (by decide))
    | refine State.drew_keeps ?_ (within_trans hm (by decide))
    | refine keeps_pair (by assumption) ?_
    | split

theorem State.atCross_keeps {n e vc d c} (h : Keeps m s0 s) (hm : within [.reg .prf, .reg .knl, .reg .que, .reg .err, .fresh, .sets, .bulk, .log, .knl, .que, .prf] m = true) : Keeps m s0 (State.atCross n e vc d c s) := by
  unfold State.atCross
  try dsimp only
  repeat' with_reducible first
    | exact h
    | refine keeps_ite (fun _ => ?_) (fun _ => ?_)
    | refine State.onMot_keeps ?_ (within_trans hm (by decide))
    | refine State.lock_keeps ?_ (within_trans hm (by decide))
    | refine State.catchStep_keeps ?_ (within_trans hm (by decide))
    | refine State.pushEvent_keeps ?_ (within_trans hm (by decide))
    | refine State.latch_keeps (by first | exact PRF_MVST_ENGFB_blk ..) ?_ (within_trans hm (by decide))
    | refine State.drew_keeps ?_ (within_trans hm (by decide))
    | refine State.setVel_keeps ?_ (within_trans hm (by decide))
    | refine keeps_pair (by assumption) ?_
    | split

theorem State.camEnd_keeps {n} (h : Keeps m s0 s) (hm : within [.reg .prf, .reg .knl, .reg .que, .reg .err, .sets, .bulk, .log, .knl, .que, .prf] m = true) : Keeps m s0 (State.camEnd n s) := by
  unfold State.camEnd
  try dsimp only
  repeat' with_reducible first
    | exact h
    | refine keeps_ite (fun _ => ?_) (fun _ => ?_)
    | refine State.pushEvent_keeps ?_ (within_trans hm (by decide))
    | refine State.onCpl_keeps ?_ (within_trans hm (by decide))
    | refine keeps_pair (by assumption) ?_
    | split

theorem State.slaveStep_keeps {n c d crossed} (h : Keeps m s0 s) (hm : within [.reg .prf, .reg .knl, .reg .que, .reg .err, .fresh, .sets, .bulk, .log, .knl, .que, .prf] m = true) : Keeps m s0 (State.slaveStep n c d crossed s) := by
  unfold State.slaveStep
  try dsimp only
  repeat' with_reducible first
    | exact h
    | refine keeps_ite (fun _ => ?_) (fun _ => ?_)
    | refine State.superStep_keeps ?_ (within_trans hm (by decide))
    | refine State.coupledAt_keeps ?_ (within_trans hm (by decide))
    | refine State.atCross_keeps ?_ (within_trans hm (by decide))
    | refine State.catchStep_keeps ?_ (within_trans hm (by decide))
    | refine State.lock_keeps ?_ (within_trans hm (by decide))
    | refine State.onCpl_keeps ?_ (within_trans hm (by decide))
    | refine State.setVel_keeps ?_ (within_trans hm (by decide))
    | refine State.latch_keeps (by first | exact PRF_MVST_LIMX_blk ..) ?_ (within_trans hm (by decide))
    | refine State.pushEvent_keeps ?_ (within_trans hm (by decide))
    | refine State.camEnd_keeps ?_ (within_trans hm (by decide))
    | refine keeps_pair (by assumption) ?_
    | split

theorem State.beginCoupling_keeps {n c} (h : Keeps m s0 s) (hm : within [.fresh, .prf] m = true) : Keeps m s0 (State.beginCoupling n c s) := by
  unfold State.beginCoupling
  try dsimp only
  repeat' with_reducible first
    | exact h
    | refine keeps_ite (fun _ => ?_) (fun _ => ?_)
    | refine State.coupledAt_keeps ?_ (within_trans hm (by decide))
    | refine State.onMot_keeps ?_ (within_trans hm (by decide))
    | refine keeps_pair (by assumption) ?_
    | split

/-! ### Paths -/

theorem State.startGroup_keeps {g tag} (h : Keeps m s0 s) (hm : within [.reg .prf, .reg .eng, .reg .knl, .reg .que, .reg .err, .sets, .bulk, .log, .knl, .que, .prf] m = true) : Keeps m s0 (State.startGroup g tag s) := by
  unfold State.startGroup
  try dsimp only
  repeat' with_reducible first
    | exact h
    | refine keeps_ite (fun _ => ?_) (fun _ => ?_)
    | refine State.pushEvent_keeps ?_ (within_trans hm (by decide))
    | refine State.onGrp_keeps ?_ (within_trans hm (by decide))
    | refine State.put_keeps (by first | exact PRF_GRPST_STATE_blk .. | exact PRF_MVST_MODE_blk .. | (refine blk_ite ?_ ?_ <;> first | exact PRF_GRPST_STATE_blk .. | exact PRF_MVST_MODE_blk ..)) ?_ (within_trans hm (by decide))
    | refine State.onMot_keeps ?_ (within_trans hm (by decide))
    | refine State.enter_keeps ?_ (within_trans hm (by decide))
    | refine keeps_foldl ?_ _ ?_
    | refine keeps_foldl_snd ?_ _ ?_
    | (intro _ _ h; try dsimp only)
    | refine keeps_pair (by assumption) ?_
    | split

theorem State.takeSegment_keeps {g c broken} (h : Keeps m s0 s) (hm : within [.reg .prf, .reg .eng, .reg .knl, .reg .que, .reg .err, .sets, .bulk, .log, .knl, .que, .prf] m = true) : Keeps m s0 (State.takeSegment g c broken s) := by
  unfold State.takeSegment
  try dsimp only
  repeat' with_reducible first
    | exact h
    | refine keeps_ite (fun _ => ?_) (fun _ => ?_)
    | refine State.bump_keeps (by first | exact PRF_GRPACC_blk .. | exact whole_blk (PRF_GRPACC_blk ..)) ?_ (within_trans hm (by decide))
    | refine State.onGrp_keeps ?_ (within_trans hm (by decide))
    | refine State.segAbort_keeps ?_ (within_trans hm (by decide))
    | refine State.startGroup_keeps ?_ (within_trans hm (by decide))
    | refine State.showGroup_keeps ?_ (within_trans hm (by decide))
    | refine keeps_getD (fun _ _ => ?_) ?_
    | refine keeps_pair (by assumption) ?_
    | split

theorem State.pathCeil_keeps {g} (h : Keeps m s0 s) (hm : within [.reg .prf, .sets] m = true) : Keeps m s0 (State.pathCeil g s) := by
  unfold State.pathCeil
  try dsimp only
  repeat' with_reducible first
    | exact h
    | refine keeps_ite (fun _ => ?_) (fun _ => ?_)
    | refine State.latch_keeps (by first | exact PRF_MVST_CEIL_blk ..) ?_ (within_trans hm (by decide))
    | refine keeps_foldl ?_ _ ?_
    | refine keeps_foldl_snd ?_ _ ?_
    | (intro _ _ h; try dsimp only)
    | refine keeps_pair (by assumption) ?_
    | split

theorem State.segExecuted_keeps {g c} (h : Keeps m s0 s) (hm : within [.reg .prf, .reg .knl, .reg .que, .sets, .bulk, .knl, .que, .prf] m = true) : Keeps m s0 (State.segExecuted g c s) := by
  unfold State.segExecuted
  try dsimp only
  repeat' with_reducible first
    | exact h
    | refine keeps_ite (fun _ => ?_) (fun _ => ?_)
    | refine State.onGrp_keeps ?_ (within_trans hm (by decide))
    | refine State.bump_keeps (by first | exact PRF_GRPEXE_blk .. | exact whole_blk (PRF_GRPEXE_blk ..)) ?_ (within_trans hm (by decide))
    | refine State.segEvent_keeps ?_ (within_trans hm (by decide))
    | refine State.showGroup_keeps ?_ (within_trans hm (by decide))
    | refine keeps_getD (fun _ _ => ?_) ?_
    | refine keeps_pair (by assumption) ?_
    | split

theorem State.pathMove_keeps {g m' rest} (h : Keeps m s0 s) (hm : within [.reg .prf, .reg .knl, .reg .que, .sets, .bulk, .knl, .que, .prf] m = true) : Keeps m s0 (State.pathMove g m' rest s) := by
  unfold State.pathMove
  try dsimp only
  repeat' with_reducible first
    | exact h
    | refine keeps_ite (fun _ => ?_) (fun _ => ?_)
    | refine State.segExecuted_keeps ?_ (within_trans hm (by decide))
    | refine State.onGrp_keeps ?_ (within_trans hm (by decide))
    | refine State.setVel_keeps ?_ (within_trans hm (by decide))
    | refine keeps_foldl ?_ _ ?_
    | refine keeps_foldl_snd ?_ _ ?_
    | (intro _ _ h; try dsimp only)
    | refine keeps_pair (by assumption) ?_
    | split

theorem State.pathStill_keeps {g} (h : Keeps m s0 s) (hm : within [.prf] m = true) : Keeps m s0 (State.pathStill g s) := by
  unfold State.pathStill
  try dsimp only
  repeat' with_reducible first
    | exact h
    | refine keeps_ite (fun _ => ?_) (fun _ => ?_)
    | refine State.setVel_keeps ?_ (within_trans hm (by decide))
    | refine State.onGrp_keeps ?_ (within_trans hm (by decide))
    | refine keeps_foldl ?_ _ ?_
    | refine keeps_foldl_snd ?_ _ ?_
    | (intro _ _ h; try dsimp only)
    | refine keeps_pair (by assumption) ?_
    | split

theorem State.dropBad_keeps {g k} (h : Keeps m s0 s) (hm : within [.reg .prf, .reg .knl, .reg .que, .sets, .bulk, .knl, .que, .prf] m = true) : Keeps m s0 (State.dropBad g k s) := by
  induction k generalizing g s with
  | zero => exact h
  | succ k ih =>
    unfold State.dropBad
    try dsimp only
    repeat' with_reducible first
      | exact h
      | refine ih ?_
      | refine keeps_ite (fun _ => ?_) (fun _ => ?_)
      | refine State.segAbort_keeps ?_ (within_trans hm (by decide))
      | refine State.showGroup_keeps ?_ (within_trans hm (by decide))
      | refine State.onGrp_keeps ?_ (within_trans hm (by decide))
      | refine keeps_foldl ?_ _ ?_
      | (intro _ _ h; try dsimp only)
      | refine keeps_pair (by assumption) ?_
      | split

theorem State.dwell_keeps {g c} (h : Keeps m s0 s) (hm : within [.reg .prf, .reg .knl, .reg .que, .sets, .bulk, .knl, .que, .prf] m = true) : Keeps m s0 (State.dwell g c s) := by
  unfold State.dwell
  try dsimp only
  repeat' with_reducible first
    | exact h
    | refine keeps_ite (fun _ => ?_) (fun _ => ?_)
    | refine State.segExecuted_keeps ?_ (within_trans hm (by decide))
    | refine State.onGrp_keeps ?_ (within_trans hm (by decide))
    | refine keeps_getD (fun _ _ => ?_) ?_
    | refine keeps_pair (by assumption) ?_
    | split

theorem State.pathOut_keeps {g} (h : Keeps m s0 s) (hm : within [.reg .prf, .reg .knl, .reg .que, .reg .err, .sets, .bulk, .log, .knl, .que] m = true) : Keeps m s0 (State.pathOut g s) := by
  unfold State.pathOut
  try dsimp only
  repeat' with_reducible first
    | exact h
    | refine keeps_ite (fun _ => ?_) (fun _ => ?_)
    | refine State.put_keeps (by first | exact PRF_GRPST_STATE_blk .. | exact PRF_MVST_MODE_blk .. | (refine blk_ite ?_ ?_ <;> first | exact PRF_GRPST_STATE_blk .. | exact PRF_MVST_MODE_blk ..)) ?_ (within_trans hm (by decide))
    | refine State.pushEvent_keeps ?_ (within_trans hm (by decide))
    | refine keeps_foldl ?_ _ ?_
    | refine keeps_foldl_snd ?_ _ ?_
    | (intro _ _ h; try dsimp only)
    | refine keeps_pair (by assumption) ?_
    | split

theorem State.pathStep_keeps {g} (h : Keeps m s0 s) (hm : within [.reg .prf, .reg .knl, .reg .que, .reg .err, .fresh, .sets, .bulk, .log, .knl, .que, .prf] m = true) : Keeps m s0 (State.pathStep g s) := by
  unfold State.pathStep
  try dsimp only
  repeat' with_reducible first
    | exact h
    | refine keeps_ite (fun _ => ?_) (fun _ => ?_)
    | refine State.groupFinish_keeps ?_ (within_trans hm (by decide))
    | refine State.put_keeps (by first | exact PRF_GRPST_STATE_blk ..) ?_ (within_trans hm (by decide))
    | refine State.dropBad_keeps ?_ (within_trans hm (by decide))
    | refine State.pathStill_keeps ?_ (within_trans hm (by decide))
    | refine State.dwell_keeps ?_ (within_trans hm (by decide))
    | refine State.drew_keeps ?_ (within_trans hm (by decide))
    | refine State.pathCeil_keeps ?_ (within_trans hm (by decide))
    | refine State.pathMove_keeps ?_ (within_trans hm (by decide))
    | refine State.pathOut_keeps ?_ (within_trans hm (by decide))
    | refine State.setVel_keeps ?_ (within_trans hm (by decide))
    | refine keeps_foldl ?_ _ ?_
    | refine keeps_foldl_snd ?_ _ ?_
    | (intro _ _ h; try dsimp only)
    | refine keeps_pair (by assumption) ?_
    | split

theorem State.showBinding_keeps (h : Keeps m s0 s) (hm : within [.reg .prf] m = true) : Keeps m s0 (State.showBinding s) := by
  unfold State.showBinding
  try dsimp only
  repeat' with_reducible first
    | exact h
    | refine keeps_ite (fun _ => ?_) (fun _ => ?_)
    | refine State.put_keeps (by first | exact PRF_MVST_GRP_blk .. | exact PRF_MVST_INGRP_blk .. | (refine blk_ite ?_ ?_ <;> first | exact PRF_MVST_GRP_blk .. | exact PRF_MVST_INGRP_blk ..)) ?_ (within_trans hm (by decide))
    | refine State.mark_keeps (by first | exact PRF_MVST_GRP_blk .. | exact PRF_MVST_INGRP_blk .. | (refine blk_ite ?_ ?_ <;> first | exact PRF_MVST_GRP_blk .. | exact PRF_MVST_INGRP_blk ..)) ?_ (within_trans hm (by decide))
    | refine keeps_foldl ?_ _ ?_
    | refine keeps_foldl_snd ?_ _ ?_
    | (intro _ _ h; try dsimp only)
    | refine keeps_pair (by assumption) ?_
    | split

theorem State.writeGroupAxes_keeps {who g v} (h : Keeps m s0 s) (hm : within [.reg .prf, .reg .err, .bus, .log] m = true) : Keeps m s0 (State.writeGroupAxes who g v s) := by
  unfold State.writeGroupAxes
  try dsimp only
  repeat' with_reducible first
    | exact h
    | refine keeps_ite (fun _ => ?_) (fun _ => ?_)
    | refine State.showBinding_keeps ?_ (within_trans hm (by decide))
    | refine State.wr64_keeps (by first | exact PRF_GRPAX_blk .. | exact whole_blk (PRF_GRPAX_blk ..)) ?_ (within_trans hm (by decide))
    | refine State.accessError_keeps ?_ (within_trans hm (by decide))
    | refine keeps_pair (by assumption) ?_
    | split

theorem State.writeGroupCfg_keeps {who g v} (h : Keeps m s0 s) (hm : within [.reg .prf, .reg .err, .bus, .log] m = true) : Keeps m s0 (State.writeGroupCfg who g v s) := by
  unfold State.writeGroupCfg
  try dsimp only
  repeat' with_reducible first
    | exact h
    | refine keeps_ite (fun _ => ?_) (fun _ => ?_)
    | refine State.showBinding_keeps ?_ (within_trans hm (by decide))
    | refine State.put_keeps (by first | exact PRF_GRPCFG_NAX_blk .. | exact PRF_GRPCFG_NGEO_blk .. | exact PRF_GRPST_STATE_blk .. | (refine blk_ite ?_ ?_ <;> first | exact PRF_GRPCFG_NAX_blk .. | exact PRF_GRPCFG_NGEO_blk .. | exact PRF_GRPST_STATE_blk ..)) ?_ (within_trans hm (by decide))
    | refine State.accessError_keeps ?_ (within_trans hm (by decide))
    | refine keeps_pair (by assumption) ?_
    | split

theorem State.writeOverride_keeps {g v} (h : Keeps m s0 s) (hm : within [.reg .prf] m = true) : Keeps m s0 (State.writeOverride g v s) := by
  unfold State.writeOverride
  try dsimp only
  repeat' with_reducible first
    | exact h
    | refine keeps_ite (fun _ => ?_) (fun _ => ?_)
    | refine State.put_keeps (by first | exact PRF_GRPOVR_OVR_blk ..) ?_ (within_trans hm (by decide))
    | refine keeps_pair (by assumption) ?_
    | split

/-! ### MotionCmd -/

theorem State.supersede_keeps {n} (h : Keeps m s0 s) (hm : within [.reg .prf, .reg .fbk, .reg .knl, .reg .que, .reg .err, .sets, .bulk, .log, .knl, .que, .prf, .probes] m = true) : Keeps m s0 (State.supersede n s) := by
  unfold State.supersede
  try dsimp only
  repeat' with_reducible first
    | exact h
    | refine keeps_ite (fun _ => ?_) (fun _ => ?_)
    | refine State.pushEvent_keeps ?_ (within_trans hm (by decide))
    | refine State.onMot_keeps ?_ (within_trans hm (by decide))
    | refine State.releaseProbe_keeps ?_ (within_trans hm (by decide))
    | refine State.put_keeps (by first | exact PRF_MVST_MASTER_blk ..) ?_ (within_trans hm (by decide))
    | refine keeps_pair (by assumption) ?_
    | split

theorem State.startPlan_keeps {n c p} (h : Keeps m s0 s) (hm : within [.reg .prf, .reg .fbk, .reg .knl, .reg .que, .reg .err, .sets, .bulk, .log, .knl, .que, .prf, .probes] m = true) : Keeps m s0 (State.startPlan n c p s) := by
  unfold State.startPlan
  try dsimp only
  repeat' with_reducible first
    | exact h
    | refine keeps_ite (fun _ => ?_) (fun _ => ?_)
    | refine State.onMot_keeps ?_ (within_trans hm (by decide))
    | refine State.supersede_keeps ?_ (within_trans hm (by decide))
    | refine keeps_pair (by assumption) ?_
    | split

theorem State.startAxis_keeps {n mode c p} (h : Keeps m s0 s) (hm : within [.reg .prf, .reg .eng, .reg .fbk, .reg .knl, .reg .que, .reg .err, .sets, .bulk, .log, .knl, .que, .prf, .probes] m = true) : Keeps m s0 (State.startAxis n mode c p s) := by
  unfold State.startAxis
  try dsimp only
  repeat' with_reducible first
    | exact h
    | refine keeps_ite (fun _ => ?_) (fun _ => ?_)
    | refine State.enter_keeps ?_ (within_trans hm (by decide))
    | refine State.setMode_keeps ?_ (within_trans hm (by decide))
    | refine State.startPlan_keeps ?_ (within_trans hm (by decide))
    | refine keeps_pair (by assumption) ?_
    | split

theorem State.cmdMoveAbs_keeps {n c} (h : Keeps m s0 s) (hm : within [.reg .prf, .reg .eng, .reg .fbk, .reg .knl, .reg .que, .reg .err, .sets, .bulk, .log, .knl, .que, .prf, .probes] m = true) : Keeps m s0 (State.cmdMoveAbs n c s) := by
  unfold State.cmdMoveAbs
  try dsimp only
  repeat' with_reducible first
    | exact h
    | refine keeps_ite (fun _ => ?_) (fun _ => ?_)
    | refine State.startAxis_keeps ?_ (within_trans hm (by decide))
    | refine keeps_getD (fun _ _ => ?_) ?_
    | refine keeps_pair (by assumption) ?_
    | split

theorem State.cmdMoveRel_keeps {n c} (h : Keeps m s0 s) (hm : within [.reg .prf, .reg .eng, .reg .fbk, .reg .knl, .reg .que, .reg .err, .sets, .bulk, .log, .knl, .que, .prf, .probes] m = true) : Keeps m s0 (State.cmdMoveRel n c s) := by
  unfold State.cmdMoveRel
  try dsimp only
  repeat' with_reducible first
    | exact h
    | refine keeps_ite (fun _ => ?_) (fun _ => ?_)
    | refine State.startAxis_keeps ?_ (within_trans hm (by decide))
    | refine keeps_getD (fun _ _ => ?_) ?_
    | refine keeps_pair (by assumption) ?_
    | split

theorem State.cmdMoveVel_keeps {n c} (h : Keeps m s0 s) (hm : within [.reg .prf, .reg .eng, .reg .fbk, .reg .knl, .reg .que, .reg .err, .sets, .bulk, .log, .knl, .que, .prf, .probes] m = true) : Keeps m s0 (State.cmdMoveVel n c s) := by
  unfold State.cmdMoveVel
  try dsimp only
  repeat' with_reducible first
    | exact h
    | refine keeps_ite (fun _ => ?_) (fun _ => ?_)
    | refine State.startAxis_keeps ?_ (within_trans hm (by decide))
    | refine keeps_getD (fun _ _ => ?_) ?_
    | refine keeps_pair (by assumption) ?_
    | split

theorem State.cmdStop_keeps {n c} (h : Keeps m s0 s) (hm : within [.reg .prf, .reg .eng, .reg .fbk, .reg .knl, .reg .que, .reg .err, .sets, .bulk, .log, .knl, .que, .prf, .probes] m = true) : Keeps m s0 (State.cmdStop n c s) := by
  unfold State.cmdStop
  try dsimp only
  repeat' with_reducible first
    | exact h
    | refine keeps_ite (fun _ => ?_) (fun _ => ?_)
    | refine State.onMot_keeps ?_ (within_trans hm (by decide))
    | refine State.decoupleStop_keeps ?_ (within_trans hm (by decide))
    | refine State.setMode_keeps ?_ (within_trans hm (by decide))
    | refine State.startPlan_keeps ?_ (within_trans hm (by decide))
    | refine keeps_pair (by assumption) ?_
    | split

theorem State.cmdSetPos_keeps {n c} (h : Keeps m s0 s) (hm : within [.reg .prf, .reg .knl, .reg .que, .reg .err, .sets, .bulk, .log, .knl, .que, .prf] m = true) : Keeps m s0 (State.cmdSetPos n c s) := by
  unfold State.cmdSetPos
  try dsimp only
  repeat' with_reducible first
    | exact h
    | refine keeps_ite (fun _ => ?_) (fun _ => ?_)
    | refine State.pushEvent_keeps ?_ (within_trans hm (by decide))
    | refine State.onMot_keeps ?_ (within_trans hm (by decide))
    | refine keeps_getD (fun _ _ => ?_) ?_
    | refine keeps_pair (by assumption) ?_
    | split

theorem State.cmdRefProbe_keeps {n c} (h : Keeps m s0 s) (hm : within [.reg .prf, .reg .eng, .reg .fbk, .reg .knl, .reg .que, .reg .err, .sets, .bulk, .log, .knl, .que, .prf, .probes] m = true) : Keeps m s0 (State.cmdRefProbe n c s) := by
  unfold State.cmdRefProbe
  try dsimp only
  repeat' with_reducible first
    | exact h
    | refine keeps_ite (fun _ => ?_) (fun _ => ?_)
    | refine State.supersede_keeps ?_ (within_trans hm (by decide))
    | refine State.onProbes_keeps ?_ (within_trans hm (by decide))
    | refine State.put_keeps (by first | exact FBK_PRCFG_ARM_blk .. | exact FBK_PRCFG_CONT_blk .. | exact FBK_PRCFG_OWN_blk .. | exact FBK_PRSEL_LSEL_blk .. | (refine blk_ite ?_ ?_ <;> first | exact FBK_PRCFG_ARM_blk .. | exact FBK_PRCFG_CONT_blk .. | exact FBK_PRCFG_OWN_blk .. | exact FBK_PRSEL_LSEL_blk ..)) ?_ (within_trans hm (by decide))
    | refine State.mark_keeps (by first | exact FBK_PRCFG_ARM_blk .. | exact FBK_PRCFG_CONT_blk .. | exact FBK_PRCFG_OWN_blk .. | exact FBK_PRSEL_LSEL_blk .. | (refine blk_ite ?_ ?_ <;> first | exact FBK_PRCFG_ARM_blk .. | exact FBK_PRCFG_CONT_blk .. | exact FBK_PRCFG_OWN_blk .. | exact FBK_PRSEL_LSEL_blk ..)) ?_ (within_trans hm (by decide))
    | refine State.onMot_keeps ?_ (within_trans hm (by decide))
    | refine State.startAxis_keeps ?_ (within_trans hm (by decide))
    | refine keeps_getD (fun _ _ => ?_) ?_
    | refine keeps_pair (by assumption) ?_
    | split

theorem State.cmdCouple_keeps {n c} (h : Keeps m s0 s) (hm : within [.reg .prf, .reg .fbk, .reg .knl, .reg .que, .reg .err, .fresh, .sets, .bulk, .log, .knl, .que, .prf, .probes] m = true) : Keeps m s0 (State.cmdCouple n c s) := by
  unfold State.cmdCouple
  try dsimp only
  repeat' with_reducible first
    | exact h
    | refine keeps_ite (fun _ => ?_) (fun _ => ?_)
    | refine State.onMot_keeps ?_ (within_trans hm (by decide))
    | refine State.uncouple_keeps ?_ (within_trans hm (by decide))
    | refine State.supersede_keeps ?_ (within_trans hm (by decide))
    | refine State.beginCoupling_keeps ?_ (within_trans hm (by decide))
    | refine State.put_keeps (by first | exact PRF_MVST_MASTER_blk ..) ?_ (within_trans hm (by decide))
    | refine State.setMode_keeps ?_ (within_trans hm (by decide))
    | refine keeps_getD (fun _ _ => ?_) ?_
    | refine keeps_pair (by assumption) ?_
    | split

theorem State.cmdDecouple_keeps {n c} (h : Keeps m s0 s) (hm : within [.reg .prf, .reg .eng, .reg .knl, .reg .que, .reg .err, .sets, .bulk, .log, .knl, .que, .prf] m = true) : Keeps m s0 (State.cmdDecouple n c s) := by
  unfold State.cmdDecouple
  try dsimp only
  repeat' with_reducible first
    | exact h
    | refine keeps_ite (fun _ => ?_) (fun _ => ?_)
    | refine State.decoupleStop_keeps ?_ (within_trans hm (by decide))
    | refine State.onMot_keeps ?_ (within_trans hm (by decide))
    | refine State.uncouple_keeps ?_ (within_trans hm (by decide))
    | refine State.setMode_keeps ?_ (within_trans hm (by decide))
    | refine State.enter_keeps ?_ (within_trans hm (by decide))
    | refine State.onCpl_keeps ?_ (within_trans hm (by decide))
    | refine keeps_getD (fun _ _ => ?_) ?_
    | refine keeps_pair (by assumption) ?_
    | split

theorem State.cmdSuper_keeps {n c} (h : Keeps m s0 s) (hm : within [.reg .prf, .reg .knl, .reg .que, .reg .err, .sets, .bulk, .log, .knl, .que, .prf] m = true) : Keeps m s0 (State.cmdSuper n c s) := by
  unfold State.cmdSuper
  try dsimp only
  repeat' with_reducible first
    | exact h
    | refine keeps_ite (fun _ => ?_) (fun _ => ?_)
    | refine State.pushEvent_keeps ?_ (within_trans hm (by decide))
    | refine State.mark_keeps (by first | exact PRF_MVST_SUPER_blk ..) ?_ (within_trans hm (by decide))
    | refine State.onMot_keeps ?_ (within_trans hm (by decide))
    | refine keeps_getD (fun _ _ => ?_) ?_
    | refine keeps_pair (by assumption) ?_
    | split

theorem State.cmdVmVel_keeps {n c} (h : Keeps m s0 s) (hm : within [.reg .prf, .reg .fbk, .reg .knl, .reg .que, .reg .err, .sets, .bulk, .log, .knl, .que, .prf, .probes] m = true) : Keeps m s0 (State.cmdVmVel n c s) := by
  unfold State.cmdVmVel
  try dsimp only
  repeat' with_reducible first
    | exact h
    | refine keeps_ite (fun _ => ?_) (fun _ => ?_)
    | refine State.startPlan_keeps ?_ (within_trans hm (by decide))
    | refine keeps_getD (fun _ _ => ?_) ?_
    | refine keeps_pair (by assumption) ?_
    | split

theorem State.cmdAbort_keeps {g c} (h : Keeps m s0 s) (hm : within [.reg .prf, .prf] m = true) : Keeps m s0 (State.cmdAbort g c s) := by
  unfold State.cmdAbort
  try dsimp only
  repeat' with_reducible first
    | exact h
    | refine keeps_ite (fun _ => ?_) (fun _ => ?_)
    | refine State.onGrp_keeps ?_ (within_trans hm (by decide))
    | refine State.put_keeps (by first | exact PRF_GRPST_STATE_blk ..) ?_ (within_trans hm (by decide))
    | refine keeps_pair (by assumption) ?_
    | split

theorem State.useCommand_keeps {c} (h : Keeps m s0 s) (hm : within [.reg .prf, .reg .eng, .reg .fbk, .reg .knl, .reg .que, .reg .err, .fresh, .sets, .bulk, .log, .knl, .que, .prf, .probes] m = true) : Keeps m s0 (State.useCommand c s) := by
  unfold State.useCommand
  try dsimp only
  repeat' with_reducible first
    | exact h
    | refine keeps_ite (fun _ => ?_) (fun _ => ?_)
    | refine State.pushEvent_keeps ?_ (within_trans hm (by decide))
    | refine State.cmdMoveAbs_keeps ?_ (within_trans hm (by decide))
    | refine State.cmdMoveRel_keeps ?_ (within_trans hm (by decide))
    | refine State.cmdMoveVel_keeps ?_ (within_trans hm (by decide))
    | refine State.cmdStop_keeps ?_ (within_trans hm (by decide))
    | refine State.cmdSetPos_keeps ?_ (within_trans hm (by decide))
    | refine State.cmdRefProbe_keeps ?_ (within_trans hm (by decide))
    | refine State.cmdCouple_keeps ?_ (within_trans hm (by decide))
    | refine State.cmdDecouple_keeps ?_ (within_trans hm (by decide))
    | refine State.cmdSuper_keeps ?_ (within_trans hm (by decide))
    | refine State.cmdVmVel_keeps ?_ (within_trans hm (by decide))
    | refine State.cmdAbort_keeps ?_ (within_trans hm (by decide))
    | refine keeps_pair (by assumption) ?_
    | split

theorem State.readCommands_keeps {k} (h : Keeps m s0 s) (hm : within [.reg .prf, .reg .eng, .reg .fbk, .reg .knl, .reg .que, .reg .err, .fresh, .sets, .bulk, .log, .knl, .que, .prf, .probes] m = true) : Keeps m s0 (State.readCommands k s) := by
  induction k generalizing s with
  | zero => exact h
  | succ k ih =>
    unfold State.readCommands
    try dsimp only
    repeat' with_reducible first
      | exact h
      | refine ih ?_
      | refine keeps_ite (fun _ => ?_) (fun _ => ?_)
      | refine State.dequeue_keeps ?_ (within_trans hm (by decide))
      | refine State.onPrf_keeps ?_ (within_trans hm (by decide))
      | refine State.pushEvent_keeps ?_ (within_trans hm (by decide))
      | refine State.useCommand_keeps ?_ (within_trans hm (by decide))
      | refine State.bump_keeps (by first | exact PRF_DISC_blk .. | exact whole_blk (PRF_DISC_blk ..)) ?_ (within_trans hm (by decide))
      | refine keeps_foldl ?_ _ ?_
      | (intro _ _ h; try dsimp only)
      | refine keeps_pair (by assumption) ?_
      | split

theorem State.readQueue_keeps (h : Keeps m s0 s) (hm : within [.reg .prf, .reg .eng, .reg .fbk, .reg .knl, .reg .que, .reg .err, .fresh, .sets, .bulk, .log, .knl, .que, .prf, .probes] m = true) : Keeps m s0 (State.readQueue s) := by
  unfold State.readQueue
  try dsimp only
  repeat' with_reducible first
    | exact h
    | refine keeps_ite (fun _ => ?_) (fun _ => ?_)
    | refine State.readCommands_keeps ?_ (within_trans hm (by decide))
    | refine State.onPrf_keeps ?_ (within_trans hm (by decide))
    | refine keeps_pair (by assumption) ?_
    | split

theorem State.popSegment_keeps {g} (h : Keeps m s0 s) (hm : within [.reg .prf, .reg .eng, .reg .knl, .reg .que, .reg .err, .sets, .bulk, .log, .knl, .que, .prf] m = true) : Keeps m s0 (State.popSegment g s).2 := by
  unfold State.popSegment
  try dsimp only
  repeat' with_reducible first
    | exact h
    | refine keeps_ite (fun _ => ?_) (fun _ => ?_)
    | refine State.segAbort_keeps ?_ (within_trans hm (by decide))
    | refine State.bump_keeps (by first | exact PRF_DISC_blk .. | exact whole_blk (PRF_DISC_blk ..) | exact PRF_GRPACC_blk .. | exact whole_blk (PRF_GRPACC_blk ..) | (refine blk_ite ?_ ?_ <;> first | exact PRF_DISC_blk .. | exact whole_blk (PRF_DISC_blk ..) | exact PRF_GRPACC_blk .. | exact whole_blk (PRF_GRPACC_blk ..))) ?_ (within_trans hm (by decide))
    | refine State.takeSegment_keeps ?_ (within_trans hm (by decide))
    | refine State.onGrp_keeps ?_ (within_trans hm (by decide))
    | refine State.dequeue_keeps ?_ (within_trans hm (by decide))
    | refine keeps_foldl ?_ _ ?_
    | refine keeps_foldl_snd ?_ _ ?_
    | (intro _ _ h; try dsimp only)
    | refine keeps_pair (by assumption) ?_
    | split

theorem State.readSegments_keeps {g k n} (h : Keeps m s0 s) (hm : within [.reg .prf, .reg .eng, .reg .knl, .reg .que, .reg .err, .sets, .bulk, .log, .knl, .que, .prf] m = true) : Keeps m s0 (State.readSegments g k n s) := by
  induction k generalizing g n s with
  | zero => exact h
  | succ k ih =>
    unfold State.readSegments
    try dsimp only
    repeat' with_reducible first
      | exact h
      | refine ih ?_
      | refine keeps_ite (fun _ => ?_) (fun _ => ?_)
      | refine State.popSegment_keeps ?_ (within_trans hm (by decide))
      | refine keeps_foldl ?_ _ ?_
      | (intro _ _ h; try dsimp only)
      | refine keeps_pair (by assumption) ?_
      | split

theorem execSpillRead_keeps {dt tag ecc} {t} (e : execSpillRead dt tag ecc s = .next t) : Keeps [.reg .prf, .reg .eng, .reg .csf, .reg .fbk, .reg .pwm, .reg .knl, .reg .que, .reg .acq, .reg .dio, .reg .err, .fresh, .sets, .clk, .bulk, .log, .knl, .que, .pow, .axes, .prf, .eng, .pwm, .drn, .probes, .acq, .ring, .svc] s t := by
  have hm := within_refl [.reg .prf, .reg .eng, .reg .csf, .reg .fbk, .reg .pwm, .reg .knl, .reg .que, .reg .acq, .reg .dio, .reg .err, .fresh, .sets, .clk, .bulk, .log, .knl, .que, .pow, .axes, .prf, .eng, .pwm, .drn, .probes, .acq, .ring, .svc]
  have h := Keeps.refl [.reg .prf, .reg .eng, .reg .csf, .reg .fbk, .reg .pwm, .reg .knl, .reg .que, .reg .acq, .reg .dio, .reg .err, .fresh, .sets, .clk, .bulk, .log, .knl, .que, .pow, .axes, .prf, .eng, .pwm, .drn, .probes, .acq, .ring, .svc] s
  simp only [execSpillRead, Host.Outcome.next.injEq] at e
  subst e
  repeat' with_reducible first
    | exact h
    | refine keeps_ite (fun _ => ?_) (fun _ => ?_)
    | refine State.spillRead_keeps ?_ (within_trans hm (by decide))
    | refine State.elapse_keeps ?_ (within_trans hm (by decide))
    | refine State.readCommands_keeps ?_ (within_trans hm (by decide))
    | refine keeps_pair (by assumption) ?_
    | split

/-! ### ProfileTick -/

theorem State.showMotion_keeps {n p v t'} (h : Keeps m s0 s) (hm : within [.reg .prf, .reg .knl, .reg .que, .reg .err, .sets, .bulk, .log, .knl, .que] m = true) : Keeps m s0 (State.showMotion n p v t' s) := by
  unfold State.showMotion
  try dsimp only
  repeat' with_reducible first
    | exact h
    | refine keeps_ite (fun _ => ?_) (fun _ => ?_)
    | refine State.latch_keeps (by first | exact PRF_MVST_CEIL_blk .. | exact PRF_MVST_OVS_blk .. | exact PRF_OVS_blk .. | exact whole_blk (PRF_OVS_blk ..) | (refine blk_ite ?_ ?_ <;> first | exact PRF_MVST_CEIL_blk .. | exact PRF_MVST_OVS_blk .. | exact PRF_OVS_blk .. | exact whole_blk (PRF_OVS_blk ..))) ?_ (within_trans hm (by decide))
    | refine State.pushEvent_keeps ?_ (within_trans hm (by decide))
    | refine State.wr64S_keeps (by first | exact PRF_MVST_CEIL_blk .. | exact PRF_MVST_OVS_blk .. | exact PRF_OVS_blk .. | exact whole_blk (PRF_OVS_blk ..) | (refine blk_ite ?_ ?_ <;> first | exact PRF_MVST_CEIL_blk .. | exact PRF_MVST_OVS_blk .. | exact PRF_OVS_blk .. | exact whole_blk (PRF_OVS_blk ..))) ?_ (within_trans hm (by decide))
    | refine keeps_pair (by assumption) ?_
    | split

theorem State.cmdDone_keeps {n} (h : Keeps m s0 s) (hm : within [.reg .prf, .reg .fbk, .reg .knl, .reg .que, .reg .err, .sets, .bulk, .log, .knl, .que, .prf, .probes] m = true) : Keeps m s0 (State.cmdDone n s) := by
  unfold State.cmdDone
  try dsimp only
  repeat' with_reducible first
    | exact h
    | refine keeps_ite (fun _ => ?_) (fun _ => ?_)
    | refine State.releaseProbe_keeps ?_ (within_trans hm (by decide))
    | refine State.onMot_keeps ?_ (within_trans hm (by decide))
    | refine State.pushEvent_keeps ?_ (within_trans hm (by decide))
    | refine keeps_getD (fun _ _ => ?_) ?_
    | refine keeps_pair (by assumption) ?_
    | split

theorem State.probeStop_keeps {n} (h : Keeps m s0 s) (hm : within [.prf] m = true) : Keeps m s0 (State.probeStop n s) := by
  unfold State.probeStop
  try dsimp only
  repeat' with_reducible first
    | exact h
    | refine keeps_ite (fun _ => ?_) (fun _ => ?_)
    | refine State.onMot_keeps ?_ (within_trans hm (by decide))
    | refine keeps_pair (by assumption) ?_
    | split

theorem State.freeStep_keeps {n} (h : Keeps m s0 s) (hm : within [.reg .prf, .reg .fbk, .reg .knl, .reg .que, .reg .err, .fresh, .sets, .bulk, .log, .knl, .que, .prf, .probes] m = true) : Keeps m s0 (State.freeStep n s) := by
  unfold State.freeStep
  try dsimp only
  repeat' with_reducible first
    | exact h
    | refine keeps_ite (fun _ => ?_) (fun _ => ?_)
    | refine State.probeStop_keeps ?_ (within_trans hm (by decide))
    | refine State.setVel_keeps ?_ (within_trans hm (by decide))
    | refine State.planStep_keeps ?_ (within_trans hm (by decide))
    | refine State.onMot_keeps ?_ (within_trans hm (by decide))
    | refine State.showMotion_keeps ?_ (within_trans hm (by decide))
    | refine State.cmdDone_keeps ?_ (within_trans hm (by decide))
    | refine State.put_keeps (by first | exact PRF_MVST_MODE_blk ..) ?_ (within_trans hm (by decide))
    | refine keeps_pair (by assumption) ?_
    | split

theorem State.coupleStep_keeps {n c} (h : Keeps m s0 s) (hm : within [.reg .prf, .reg .eng, .reg .fbk, .reg .knl, .reg .que, .reg .err, .fresh, .sets, .bulk, .log, .knl, .que, .prf, .probes] m = true) : Keeps m s0 (State.coupleStep n c s) := by
  unfold State.coupleStep
  try dsimp only
  repeat' with_reducible first
    | exact h
    | refine keeps_ite (fun _ => ?_) (fun _ => ?_)
    | refine State.freeStep_keeps ?_ (within_trans hm (by decide))
    | refine State.decoupleStop_keeps ?_ (within_trans hm (by decide))
    | refine State.slaveStep_keeps ?_ (within_trans hm (by decide))
    | refine State.onCpl_keeps ?_ (within_trans hm (by decide))
    | refine keeps_pair (by assumption) ?_
    | split

theorem State.axisStep_keeps {n} (h : Keeps m s0 s) (hm : within [.reg .prf, .reg .eng, .reg .fbk, .reg .knl, .reg .que, .reg .err, .fresh, .sets, .bulk, .log, .knl, .que, .prf, .probes] m = true) : Keeps m s0 (State.axisStep n s) := by
  unfold State.axisStep
  try dsimp only
  repeat' with_reducible first
    | exact h
    | refine keeps_ite (fun _ => ?_) (fun _ => ?_)
    | refine State.freeStep_keeps ?_ (within_trans hm (by decide))
    | refine State.onMot_keeps ?_ (within_trans hm (by decide))
    | refine State.setVel_keeps ?_ (within_trans hm (by decide))
    | refine State.coupleStep_keeps ?_ (within_trans hm (by decide))
    | refine keeps_pair (by assumption) ?_
    | split

theorem State.advance_keeps {k i} (h : Keeps m s0 s) (hm : within [.reg .prf, .reg .eng, .reg .fbk, .reg .knl, .reg .que, .reg .err, .fresh, .sets, .bulk, .log, .knl, .que, .prf, .probes] m = true) : Keeps m s0 (State.advance k i s) := by
  induction k generalizing i s with
  | zero => exact h
  | succ k ih =>
    unfold State.advance
    try dsimp only
    repeat' with_reducible first
      | exact h
      | refine ih ?_
      | refine keeps_ite (fun _ => ?_) (fun _ => ?_)
      | refine State.onPrf_keeps ?_ (within_trans hm (by decide))
      | refine State.pathStep_keeps ?_ (within_trans hm (by decide))
      | refine State.axisStep_keeps ?_ (within_trans hm (by decide))
      | refine keeps_foldl ?_ _ ?_
      | (intro _ _ h; try dsimp only)
      | refine keeps_pair (by assumption) ?_
      | split

theorem State.advanceAll_keeps (h : Keeps m s0 s) (hm : within [.reg .prf, .reg .eng, .reg .fbk, .reg .knl, .reg .que, .reg .err, .fresh, .sets, .bulk, .log, .knl, .que, .prf, .probes] m = true) : Keeps m s0 (State.advanceAll s) := by
  unfold State.advanceAll
  try dsimp only
  repeat' with_reducible first
    | exact h
    | refine keeps_ite (fun _ => ?_) (fun _ => ?_)
    | refine State.advance_keeps ?_ (within_trans hm (by decide))
    | refine keeps_foldl ?_ _ ?_
    | refine keeps_foldl_snd ?_ _ ?_
    | (intro _ _ h; try dsimp only)
    | refine keeps_pair (by assumption) ?_
    | split

theorem State.setClamp_keeps {n env} (h : Keeps m s0 s) (hm : within [.reg .lsh, .reg .err, .sets, .log, .axes] m = true) : Keeps m s0 (State.setClamp n env s) := by
  unfold State.setClamp
  try dsimp only
  repeat' with_reducible first
    | exact h
    | refine keeps_ite (fun _ => ?_) (fun _ => ?_)
    | refine State.clampFlag_keeps ?_ (within_trans hm (by decide))
    | refine State.raise_keeps (by first | exact LSH_PCFG_ENVF_blk .. | exact LSH_PCFG_SPDF_blk .. | (refine blk_ite ?_ ?_ <;> first | exact LSH_PCFG_ENVF_blk .. | exact LSH_PCFG_SPDF_blk ..)) ?_ (within_trans hm (by decide))
    | refine keeps_pair (by assumption) ?_
    | split

theorem State.leashSet_keeps {n p v} (h : Keeps m s0 s) (hm : within [.reg .lsh, .reg .err, .sets, .log, .axes] m = true) : Keeps m s0 (State.leashSet n p v s).2 := by
  have h1 := State.setClamp_keeps (n := n) (env := false) h hm
  unfold State.leashSet
  extract_lets spd v1 s1
  have h2 : Keeps m s0 s1 := keeps_ite (fun _ => h1) (fun _ => h)
  clear_value s1
  split
  · exact keeps_ite (fun _ => State.setClamp_keeps h2 hm) (fun _ => h2)
  · exact h2

theorem State.publishAxis_keeps {n} (h : Keeps m s0 s) (hm : within [.reg .lsh, .reg .prf, .reg .eng, .reg .knl, .reg .err, .sets, .log, .knl, .axes, .prf] m = true) : Keeps m s0 (State.publishAxis n s) := by
  unfold State.publishAxis
  try dsimp only
  repeat' with_reducible first
    | exact h
    | refine keeps_ite (fun _ => ?_) (fun _ => ?_)
    | refine State.onMot_keeps ?_ (within_trans hm (by decide))
    | refine State.put_keeps (by first | exact PRF_MVST_MODE_blk .. | exact PRF_SPOS_blk .. | exact whole_blk (PRF_SPOS_blk ..) | exact PRF_SVEL_blk .. | exact whole_blk (PRF_SVEL_blk ..) | (refine blk_ite ?_ ?_ <;> first | exact PRF_MVST_MODE_blk .. | exact PRF_SPOS_blk .. | exact whole_blk (PRF_SPOS_blk ..) | exact PRF_SVEL_blk .. | exact whole_blk (PRF_SVEL_blk ..))) ?_ (within_trans hm (by decide))
    | refine State.enter_keeps ?_ (within_trans hm (by decide))
    | refine State.leashSet_keeps ?_ (within_trans hm (by decide))
    | refine State.wr64S_keeps (by first | exact PRF_MVST_MODE_blk .. | exact PRF_SPOS_blk .. | exact whole_blk (PRF_SPOS_blk ..) | exact PRF_SVEL_blk .. | exact whole_blk (PRF_SVEL_blk ..) | (refine blk_ite ?_ ?_ <;> first | exact PRF_MVST_MODE_blk .. | exact PRF_SPOS_blk .. | exact whole_blk (PRF_SPOS_blk ..) | exact PRF_SVEL_blk .. | exact whole_blk (PRF_SVEL_blk ..))) ?_ (within_trans hm (by decide))
    | refine keeps_pair (by assumption) ?_
    | split

theorem State.publishVm_keeps {k} (h : Keeps m s0 s) (hm : within [.reg .prf] m = true) : Keeps m s0 (State.publishVm k s) := by
  unfold State.publishVm
  try dsimp only
  repeat' with_reducible first
    | exact h
    | refine keeps_ite (fun _ => ?_) (fun _ => ?_)
    | refine State.mark_keeps (by first | exact PRF_VMPOS_blk .. | exact whole_blk (PRF_VMPOS_blk ..) | exact PRF_VMST_MOVING_blk .. | exact PRF_VMVEL_blk .. | exact whole_blk (PRF_VMVEL_blk ..) | (refine blk_ite ?_ ?_ <;> first | exact PRF_VMPOS_blk .. | exact whole_blk (PRF_VMPOS_blk ..) | exact PRF_VMST_MOVING_blk .. | exact PRF_VMVEL_blk .. | exact whole_blk (PRF_VMVEL_blk ..))) ?_ (within_trans hm (by decide))
    | refine State.wr64S_keeps (by first | exact PRF_VMPOS_blk .. | exact whole_blk (PRF_VMPOS_blk ..) | exact PRF_VMST_MOVING_blk .. | exact PRF_VMVEL_blk .. | exact whole_blk (PRF_VMVEL_blk ..) | (refine blk_ite ?_ ?_ <;> first | exact PRF_VMPOS_blk .. | exact whole_blk (PRF_VMPOS_blk ..) | exact PRF_VMST_MOVING_blk .. | exact PRF_VMVEL_blk .. | exact whole_blk (PRF_VMVEL_blk ..))) ?_ (within_trans hm (by decide))
    | refine keeps_pair (by assumption) ?_
    | split

theorem State.redefine_keeps {n} (h : Keeps m s0 s) (hm : within [.reg .prf, .axes, .prf] m = true) : Keeps m s0 (State.redefine n s) := by
  unfold State.redefine
  try dsimp only
  repeat' with_reducible first
    | exact h
    | refine keeps_ite (fun _ => ?_) (fun _ => ?_)
    | refine State.onMot_keeps ?_ (within_trans hm (by decide))
    | refine State.mark_keeps (by first | exact PRF_AXST_REF_blk ..) ?_ (within_trans hm (by decide))
    | refine State.onAxis_keeps ?_ (within_trans hm (by decide))
    | refine keeps_pair (by assumption) ?_
    | split

theorem State.lateAxis_keeps {due n} (h : Keeps m s0 s) (hm : within [.prf] m = true) : Keeps m s0 (State.lateAxis due n s) := by
  unfold State.lateAxis
  try dsimp only
  repeat' with_reducible first
    | exact h
    | refine keeps_ite (fun _ => ?_) (fun _ => ?_)
    | refine State.onMot_keeps ?_ (within_trans hm (by decide))
    | refine keeps_pair (by assumption) ?_
    | split

theorem State.lateStep_keeps (h : Keeps m s0 s) (hm : within [.prf] m = true) : Keeps m s0 (State.lateStep s) := by
  unfold State.lateStep
  try dsimp only
  repeat' with_reducible first
    | exact h
    | refine keeps_ite (fun _ => ?_) (fun _ => ?_)
    | refine State.onPrf_keeps ?_ (within_trans hm (by decide))
    | refine State.lateAxis_keeps ?_ (within_trans hm (by decide))
    | refine keeps_foldl ?_ _ ?_
    | refine keeps_foldl_snd ?_ _ ?_
    | (intro _ _ h; try dsimp only)
    | refine keeps_pair (by assumption) ?_
    | split

theorem State.lateCount_keeps {late} (h : Keeps m s0 s) (hm : within [.reg .prf, .reg .eng, .reg .csf, .reg .fbk, .reg .pwm, .reg .knl, .reg .que, .reg .acq, .reg .dio, .reg .err, .sets, .bulk, .log, .knl, .que, .axes, .prf, .pwm, .drn, .probes, .acq] m = true) : Keeps m s0 (State.lateCount late s) := by
  unfold State.lateCount
  try dsimp only
  repeat' with_reducible first
    | exact h
    | refine keeps_ite (fun _ => ?_) (fun _ => ?_)
    | refine State.onPrf_keeps ?_ (within_trans hm (by decide))
    | refine State.severe_keeps ?_ (within_trans hm (by decide))
    | refine State.satBump_keeps (by first | exact PRF_STAT_LATE_blk ..) ?_ (within_trans hm (by decide))
    | refine State.fault_keeps ?_ (within_trans hm (by decide))
    | refine keeps_foldl ?_ _ ?_
    | refine keeps_foldl_snd ?_ _ ?_
    | (intro _ _ h; try dsimp only)
    | refine keeps_pair (by assumption) ?_
    | split

theorem State.sampleAxis_keeps {n} (h : Keeps m s0 s) (hm : within [.axes] m = true) : Keeps m s0 (State.sampleAxis n s) := by
  unfold State.sampleAxis
  try dsimp only
  repeat' with_reducible first
    | exact h
    | refine keeps_ite (fun _ => ?_) (fun _ => ?_)
    | refine State.onAxis_keeps ?_ (within_trans hm (by decide))
    | refine keeps_pair (by assumption) ?_
    | split

theorem State.trackEdges_keeps {t'} (h : Keeps m s0 s) (hm : within [.prf, .dio] m = true) : Keeps m s0 (State.trackEdges t' s) := by
  unfold State.trackEdges
  try dsimp only
  repeat' with_reducible first
    | exact h
    | refine keeps_ite (fun _ => ?_) (fun _ => ?_)
    | refine State.onPrf_keeps ?_ (within_trans hm (by decide))
    | refine State.onDio_keeps ?_ (within_trans hm (by decide))
    | refine keeps_foldl ?_ _ ?_
    | refine keeps_foldl_snd ?_ _ ?_
    | (intro _ _ h; try dsimp only)
    | refine keeps_pair (by assumption) ?_
    | split

theorem State.mappedTick_keeps (h : Keeps m s0 s) (hm : within [.prf] m = true) : Keeps m s0 (State.mappedTick s) := by
  unfold State.mappedTick
  try dsimp only
  repeat' with_reducible first
    | exact h
    | refine keeps_ite (fun _ => ?_) (fun _ => ?_)
    | refine State.mappedMove_keeps ?_ (within_trans hm (by decide))
    | refine keeps_pair (by assumption) ?_
    | split

theorem State.putInForce_keeps (h : Keeps m s0 s) (hm : within [.reg .lsh, .reg .prf, .reg .eng, .reg .knl, .reg .err, .sets, .log, .knl, .axes, .prf] m = true) : Keeps m s0 (State.putInForce s) := by
  unfold State.putInForce
  try dsimp only
  repeat' with_reducible first
    | exact h
    | refine keeps_ite (fun _ => ?_) (fun _ => ?_)
    | refine State.redefine_keeps ?_ (within_trans hm (by decide))
    | refine State.mappedTick_keeps ?_ (within_trans hm (by decide))
    | refine State.publishAxis_keeps ?_ (within_trans hm (by decide))
    | refine State.publishVm_keeps ?_ (within_trans hm (by decide))
    | refine State.sampleAxis_keeps ?_ (within_trans hm (by decide))
    | refine State.onMot_keeps ?_ (within_trans hm (by decide))
    | refine keeps_foldl ?_ _ ?_
    | refine keeps_foldl_snd ?_ _ ?_
    | (intro _ _ h; try dsimp only)
    | refine keeps_pair (by assumption) ?_
    | split

theorem State.groupsTick_keeps (h : Keeps m s0 s) (hm : within [.reg .prf, .reg .eng, .reg .knl, .reg .que, .reg .err, .sets, .bulk, .log, .knl, .que, .prf] m = true) : Keeps m s0 (State.groupsTick s) := by
  unfold State.groupsTick
  try dsimp only
  repeat' with_reducible first
    | exact h
    | refine keeps_ite (fun _ => ?_) (fun _ => ?_)
    | refine State.drainDone_keeps ?_ (within_trans hm (by decide))
    | refine State.onGrp_keeps ?_ (within_trans hm (by decide))
    | refine State.groupFinish_keeps ?_ (within_trans hm (by decide))
    | refine State.readSegments_keeps ?_ (within_trans hm (by decide))
    | refine keeps_foldl ?_ _ ?_
    | refine keeps_foldl_snd ?_ _ ?_
    | (intro _ _ h; try dsimp only)
    | refine keeps_pair (by assumption) ?_
    | split

theorem State.profileBoundary_keeps {late took} (h : Keeps m s0 s) (hm : within [.reg .lsh, .reg .prf, .reg .eng, .reg .csf, .reg .fbk, .reg .pwm, .reg .knl, .reg .que, .reg .acq, .reg .rng, .reg .dio, .reg .err, .fresh, .sets, .bulk, .log, .knl, .que, .axes, .lim, .prf, .eng, .pwm, .drn, .ine, .shp, .csf, .ports, .probes, .acq, .dio] m = true) : Keeps m s0 (State.profileBoundary late took s) := by
  unfold State.profileBoundary
  try dsimp only
  repeat' with_reducible first
    | exact h
    | refine keeps_ite (fun _ => ?_) (fun _ => ?_)
    | refine State.event_keeps ?_ (within_trans hm (by decide))
    | refine State.lateStep_keeps ?_ (within_trans hm (by decide))
    | refine State.advanceAll_keeps ?_ (within_trans hm (by decide))
    | refine State.lateCount_keeps ?_ (within_trans hm (by decide))
    | refine State.putInForce_keeps ?_ (within_trans hm (by decide))
    | refine State.lowerAll_keeps ?_ (within_trans hm (by decide))
    | refine State.commitsNow_keeps ?_ (within_trans hm (by decide))
    | refine State.groupsTick_keeps ?_ (within_trans hm (by decide))
    | refine State.readQueue_keeps ?_ (within_trans hm (by decide))
    | refine State.onAxis_keeps ?_ (within_trans hm (by decide))
    | refine State.trackEdges_keeps ?_ (within_trans hm (by decide))
    | refine State.onPrf_keeps ?_ (within_trans hm (by decide))
    | refine State.wr_keeps (by first | exact PRF_TMAX_blk .. | exact whole_blk (PRF_TMAX_blk ..)) ?_ (within_trans hm (by decide))
    | refine keeps_foldl ?_ _ ?_
    | refine keeps_foldl_snd ?_ _ ?_
    | (intro _ _ h; try dsimp only)
    | refine keeps_pair (by assumption) ?_
    | split

theorem State.motionCmd_keeps {op index mode tag data} (h : Keeps m s0 s) (hm : within [.reg .prf, .reg .eng, .reg .fbk, .reg .knl, .reg .que, .reg .err, .fresh, .sets, .bulk, .log, .knl, .que, .prf, .probes] m = true) : Keeps m s0 (State.motionCmd op index mode tag data s) := by
  unfold State.motionCmd
  try dsimp only
  repeat' with_reducible first
    | exact h
    | refine keeps_ite (fun _ => ?_) (fun _ => ?_)
    | refine State.useCommand_keeps ?_ (within_trans hm (by decide))
    | refine keeps_pair (by assumption) ?_
    | split

theorem State.segmentCmd_keeps {op g mode tag data} (h : Keeps m s0 s) (hm : within [.reg .prf, .reg .eng, .reg .knl, .reg .que, .reg .err, .sets, .bulk, .log, .knl, .que, .prf] m = true) : Keeps m s0 (State.segmentCmd op g mode tag data s) := by
  unfold State.segmentCmd
  try dsimp only
  repeat' with_reducible first
    | exact h
    | refine keeps_ite (fun _ => ?_) (fun _ => ?_)
    | refine State.takeSegment_keeps ?_ (within_trans hm (by decide))
    | refine keeps_pair (by assumption) ?_
    | split

theorem State.whenAdvanced_keeps {i p} (h : Keeps m s0 s) (hm : within [.reg .prf, .reg .eng, .reg .fbk, .reg .knl, .reg .que, .reg .err, .fresh, .sets, .bulk, .log, .knl, .que, .prf, .probes] m = true) : Keeps m s0 (State.whenAdvanced i p s) := by
  unfold State.whenAdvanced
  try dsimp only
  repeat' with_reducible first
    | exact h
    | refine keeps_ite (fun _ => ?_) (fun _ => ?_)
    | refine State.advance_keeps ?_ (within_trans hm (by decide))
    | refine keeps_pair (by assumption) ?_
    | split

theorem execProfileBoundary_keeps {dt late took} {t} (e : execProfileBoundary dt late took s = .next t) : Keeps [.reg .lsh, .reg .prf, .reg .eng, .reg .csf, .reg .fbk, .reg .pwm, .reg .knl, .reg .que, .reg .acq, .reg .rng, .reg .dio, .reg .err, .fresh, .sets, .clk, .bulk, .log, .knl, .que, .axes, .lim, .prf, .eng, .pwm, .drn, .ine, .shp, .csf, .ports, .probes, .acq, .dio] s t := by
  have hm := within_refl [.reg .lsh, .reg .prf, .reg .eng, .reg .csf, .reg .fbk, .reg .pwm, .reg .knl, .reg .que, .reg .acq, .reg .rng, .reg .dio, .reg .err, .fresh, .sets, .clk, .bulk, .log, .knl, .que, .axes, .lim, .prf, .eng, .pwm, .drn, .ine, .shp, .csf, .ports, .probes, .acq, .dio]
  have h := Keeps.refl [.reg .lsh, .reg .prf, .reg .eng, .reg .csf, .reg .fbk, .reg .pwm, .reg .knl, .reg .que, .reg .acq, .reg .rng, .reg .dio, .reg .err, .fresh, .sets, .clk, .bulk, .log, .knl, .que, .axes, .lim, .prf, .eng, .pwm, .drn, .ine, .shp, .csf, .ports, .probes, .acq, .dio] s
  simp only [execProfileBoundary, Host.Outcome.next.injEq] at e
  subst e
  repeat' with_reducible first
    | exact h
    | refine keeps_ite (fun _ => ?_) (fun _ => ?_)
    | refine State.elapse_keeps ?_ (within_trans hm (by decide))
    | refine State.profileBoundary_keeps ?_ (within_trans hm (by decide))
    | refine keeps_pair (by assumption) ?_
    | split

theorem execMoveAbs_keeps {dt n mode tag data} {t} (e : execMoveAbs dt n mode tag data s = .next t) : Keeps [.reg .prf, .reg .eng, .reg .fbk, .reg .knl, .reg .que, .reg .err, .fresh, .sets, .clk, .bulk, .log, .knl, .que, .prf, .probes] s t := by
  have hm := within_refl [.reg .prf, .reg .eng, .reg .fbk, .reg .knl, .reg .que, .reg .err, .fresh, .sets, .clk, .bulk, .log, .knl, .que, .prf, .probes]
  have h := Keeps.refl [.reg .prf, .reg .eng, .reg .fbk, .reg .knl, .reg .que, .reg .err, .fresh, .sets, .clk, .bulk, .log, .knl, .que, .prf, .probes] s
  simp only [execMoveAbs, Host.Outcome.next.injEq] at e
  subst e
  repeat' with_reducible first
    | exact h
    | refine keeps_ite (fun _ => ?_) (fun _ => ?_)
    | refine State.motionCmd_keeps ?_ (within_trans hm (by decide))
    | refine State.elapse_keeps ?_ (within_trans hm (by decide))
    | refine keeps_pair (by assumption) ?_
    | split

theorem execMoveRel_keeps {dt n mode tag data} {t} (e : execMoveRel dt n mode tag data s = .next t) : Keeps [.reg .prf, .reg .eng, .reg .fbk, .reg .knl, .reg .que, .reg .err, .fresh, .sets, .clk, .bulk, .log, .knl, .que, .prf, .probes] s t := by
  have hm := within_refl [.reg .prf, .reg .eng, .reg .fbk, .reg .knl, .reg .que, .reg .err, .fresh, .sets, .clk, .bulk, .log, .knl, .que, .prf, .probes]
  have h := Keeps.refl [.reg .prf, .reg .eng, .reg .fbk, .reg .knl, .reg .que, .reg .err, .fresh, .sets, .clk, .bulk, .log, .knl, .que, .prf, .probes] s
  simp only [execMoveRel, Host.Outcome.next.injEq] at e
  subst e
  repeat' with_reducible first
    | exact h
    | refine keeps_ite (fun _ => ?_) (fun _ => ?_)
    | refine State.motionCmd_keeps ?_ (within_trans hm (by decide))
    | refine State.elapse_keeps ?_ (within_trans hm (by decide))
    | refine keeps_pair (by assumption) ?_
    | split

theorem execMoveVel_keeps {dt n mode tag data} {t} (e : execMoveVel dt n mode tag data s = .next t) : Keeps [.reg .prf, .reg .eng, .reg .fbk, .reg .knl, .reg .que, .reg .err, .fresh, .sets, .clk, .bulk, .log, .knl, .que, .prf, .probes] s t := by
  have hm := within_refl [.reg .prf, .reg .eng, .reg .fbk, .reg .knl, .reg .que, .reg .err, .fresh, .sets, .clk, .bulk, .log, .knl, .que, .prf, .probes]
  have h := Keeps.refl [.reg .prf, .reg .eng, .reg .fbk, .reg .knl, .reg .que, .reg .err, .fresh, .sets, .clk, .bulk, .log, .knl, .que, .prf, .probes] s
  simp only [execMoveVel, Host.Outcome.next.injEq] at e
  subst e
  repeat' with_reducible first
    | exact h
    | refine keeps_ite (fun _ => ?_) (fun _ => ?_)
    | refine State.motionCmd_keeps ?_ (within_trans hm (by decide))
    | refine State.elapse_keeps ?_ (within_trans hm (by decide))
    | refine keeps_pair (by assumption) ?_
    | split

theorem execStop_keeps {dt n mode tag data} {t} (e : execStop dt n mode tag data s = .next t) : Keeps [.reg .prf, .reg .eng, .reg .fbk, .reg .knl, .reg .que, .reg .err, .fresh, .sets, .clk, .bulk, .log, .knl, .que, .prf, .probes] s t := by
  have hm := within_refl [.reg .prf, .reg .eng, .reg .fbk, .reg .knl, .reg .que, .reg .err, .fresh, .sets, .clk, .bulk, .log, .knl, .que, .prf, .probes]
  have h := Keeps.refl [.reg .prf, .reg .eng, .reg .fbk, .reg .knl, .reg .que, .reg .err, .fresh, .sets, .clk, .bulk, .log, .knl, .que, .prf, .probes] s
  simp only [execStop, Host.Outcome.next.injEq] at e
  subst e
  repeat' with_reducible first
    | exact h
    | refine keeps_ite (fun _ => ?_) (fun _ => ?_)
    | refine State.motionCmd_keeps ?_ (within_trans hm (by decide))
    | refine State.elapse_keeps ?_ (within_trans hm (by decide))
    | refine keeps_pair (by assumption) ?_
    | split

theorem execSetPos_keeps {dt n mode tag data} {t} (e : execSetPos dt n mode tag data s = .next t) : Keeps [.reg .prf, .reg .eng, .reg .fbk, .reg .knl, .reg .que, .reg .err, .fresh, .sets, .clk, .bulk, .log, .knl, .que, .prf, .probes] s t := by
  have hm := within_refl [.reg .prf, .reg .eng, .reg .fbk, .reg .knl, .reg .que, .reg .err, .fresh, .sets, .clk, .bulk, .log, .knl, .que, .prf, .probes]
  have h := Keeps.refl [.reg .prf, .reg .eng, .reg .fbk, .reg .knl, .reg .que, .reg .err, .fresh, .sets, .clk, .bulk, .log, .knl, .que, .prf, .probes] s
  simp only [execSetPos, Host.Outcome.next.injEq] at e
  subst e
  repeat' with_reducible first
    | exact h
    | refine keeps_ite (fun _ => ?_) (fun _ => ?_)
    | refine State.motionCmd_keeps ?_ (within_trans hm (by decide))
    | refine State.elapse_keeps ?_ (within_trans hm (by decide))
    | refine keeps_pair (by assumption) ?_
    | split

theorem execRefProbe_keeps {dt n mode tag data} {t} (e : execRefProbe dt n mode tag data s = .next t) : Keeps [.reg .prf, .reg .eng, .reg .fbk, .reg .knl, .reg .que, .reg .err, .fresh, .sets, .clk, .bulk, .log, .knl, .que, .prf, .probes] s t := by
  have hm := within_refl [.reg .prf, .reg .eng, .reg .fbk, .reg .knl, .reg .que, .reg .err, .fresh, .sets, .clk, .bulk, .log, .knl, .que, .prf, .probes]
  have h := Keeps.refl [.reg .prf, .reg .eng, .reg .fbk, .reg .knl, .reg .que, .reg .err, .fresh, .sets, .clk, .bulk, .log, .knl, .que, .prf, .probes] s
  simp only [execRefProbe, Host.Outcome.next.injEq] at e
  subst e
  repeat' with_reducible first
    | exact h
    | refine keeps_ite (fun _ => ?_) (fun _ => ?_)
    | refine State.motionCmd_keeps ?_ (within_trans hm (by decide))
    | refine State.elapse_keeps ?_ (within_trans hm (by decide))
    | refine keeps_pair (by assumption) ?_
    | split

theorem execGear_keeps {dt n mode tag data} {t} (e : execGear dt n mode tag data s = .next t) : Keeps [.reg .prf, .reg .eng, .reg .fbk, .reg .knl, .reg .que, .reg .err, .fresh, .sets, .clk, .bulk, .log, .knl, .que, .prf, .probes] s t := by
  have hm := within_refl [.reg .prf, .reg .eng, .reg .fbk, .reg .knl, .reg .que, .reg .err, .fresh, .sets, .clk, .bulk, .log, .knl, .que, .prf, .probes]
  have h := Keeps.refl [.reg .prf, .reg .eng, .reg .fbk, .reg .knl, .reg .que, .reg .err, .fresh, .sets, .clk, .bulk, .log, .knl, .que, .prf, .probes] s
  simp only [execGear, Host.Outcome.next.injEq] at e
  subst e
  repeat' with_reducible first
    | exact h
    | refine keeps_ite (fun _ => ?_) (fun _ => ?_)
    | refine State.motionCmd_keeps ?_ (within_trans hm (by decide))
    | refine State.elapse_keeps ?_ (within_trans hm (by decide))
    | refine keeps_pair (by assumption) ?_
    | split

theorem execCam_keeps {dt n mode tag data} {t} (e : execCam dt n mode tag data s = .next t) : Keeps [.reg .prf, .reg .eng, .reg .fbk, .reg .knl, .reg .que, .reg .err, .fresh, .sets, .clk, .bulk, .log, .knl, .que, .prf, .probes] s t := by
  have hm := within_refl [.reg .prf, .reg .eng, .reg .fbk, .reg .knl, .reg .que, .reg .err, .fresh, .sets, .clk, .bulk, .log, .knl, .que, .prf, .probes]
  have h := Keeps.refl [.reg .prf, .reg .eng, .reg .fbk, .reg .knl, .reg .que, .reg .err, .fresh, .sets, .clk, .bulk, .log, .knl, .que, .prf, .probes] s
  simp only [execCam, Host.Outcome.next.injEq] at e
  subst e
  repeat' with_reducible first
    | exact h
    | refine keeps_ite (fun _ => ?_) (fun _ => ?_)
    | refine State.motionCmd_keeps ?_ (within_trans hm (by decide))
    | refine State.elapse_keeps ?_ (within_trans hm (by decide))
    | refine keeps_pair (by assumption) ?_
    | split

theorem execDecouple_keeps {dt n mode tag data} {t} (e : execDecouple dt n mode tag data s = .next t) : Keeps [.reg .prf, .reg .eng, .reg .fbk, .reg .knl, .reg .que, .reg .err, .fresh, .sets, .clk, .bulk, .log, .knl, .que, .prf, .probes] s t := by
  have hm := within_refl [.reg .prf, .reg .eng, .reg .fbk, .reg .knl, .reg .que, .reg .err, .fresh, .sets, .clk, .bulk, .log, .knl, .que, .prf, .probes]
  have h := Keeps.refl [.reg .prf, .reg .eng, .reg .fbk, .reg .knl, .reg .que, .reg .err, .fresh, .sets, .clk, .bulk, .log, .knl, .que, .prf, .probes] s
  simp only [execDecouple, Host.Outcome.next.injEq] at e
  subst e
  repeat' with_reducible first
    | exact h
    | refine keeps_ite (fun _ => ?_) (fun _ => ?_)
    | refine State.motionCmd_keeps ?_ (within_trans hm (by decide))
    | refine State.elapse_keeps ?_ (within_trans hm (by decide))
    | refine keeps_pair (by assumption) ?_
    | split

theorem execSuperimpose_keeps {dt n mode tag data} {t} (e : execSuperimpose dt n mode tag data s = .next t) : Keeps [.reg .prf, .reg .eng, .reg .fbk, .reg .knl, .reg .que, .reg .err, .fresh, .sets, .clk, .bulk, .log, .knl, .que, .prf, .probes] s t := by
  have hm := within_refl [.reg .prf, .reg .eng, .reg .fbk, .reg .knl, .reg .que, .reg .err, .fresh, .sets, .clk, .bulk, .log, .knl, .que, .prf, .probes]
  have h := Keeps.refl [.reg .prf, .reg .eng, .reg .fbk, .reg .knl, .reg .que, .reg .err, .fresh, .sets, .clk, .bulk, .log, .knl, .que, .prf, .probes] s
  simp only [execSuperimpose, Host.Outcome.next.injEq] at e
  subst e
  repeat' with_reducible first
    | exact h
    | refine keeps_ite (fun _ => ?_) (fun _ => ?_)
    | refine State.motionCmd_keeps ?_ (within_trans hm (by decide))
    | refine State.elapse_keeps ?_ (within_trans hm (by decide))
    | refine keeps_pair (by assumption) ?_
    | split

theorem execVmVel_keeps {dt k mode tag data} {t} (e : execVmVel dt k mode tag data s = .next t) : Keeps [.reg .prf, .reg .eng, .reg .fbk, .reg .knl, .reg .que, .reg .err, .fresh, .sets, .clk, .bulk, .log, .knl, .que, .prf, .probes] s t := by
  have hm := within_refl [.reg .prf, .reg .eng, .reg .fbk, .reg .knl, .reg .que, .reg .err, .fresh, .sets, .clk, .bulk, .log, .knl, .que, .prf, .probes]
  have h := Keeps.refl [.reg .prf, .reg .eng, .reg .fbk, .reg .knl, .reg .que, .reg .err, .fresh, .sets, .clk, .bulk, .log, .knl, .que, .prf, .probes] s
  simp only [execVmVel, Host.Outcome.next.injEq] at e
  subst e
  repeat' with_reducible first
    | exact h
    | refine keeps_ite (fun _ => ?_) (fun _ => ?_)
    | refine State.motionCmd_keeps ?_ (within_trans hm (by decide))
    | refine State.elapse_keeps ?_ (within_trans hm (by decide))
    | refine keeps_pair (by assumption) ?_
    | split

theorem execVmSet_keeps {dt k mode tag data} {t} (e : execVmSet dt k mode tag data s = .next t) : Keeps [.reg .prf, .reg .eng, .reg .fbk, .reg .knl, .reg .que, .reg .err, .fresh, .sets, .clk, .bulk, .log, .knl, .que, .prf, .probes] s t := by
  have hm := within_refl [.reg .prf, .reg .eng, .reg .fbk, .reg .knl, .reg .que, .reg .err, .fresh, .sets, .clk, .bulk, .log, .knl, .que, .prf, .probes]
  have h := Keeps.refl [.reg .prf, .reg .eng, .reg .fbk, .reg .knl, .reg .que, .reg .err, .fresh, .sets, .clk, .bulk, .log, .knl, .que, .prf, .probes] s
  simp only [execVmSet, Host.Outcome.next.injEq] at e
  subst e
  repeat' with_reducible first
    | exact h
    | refine keeps_ite (fun _ => ?_) (fun _ => ?_)
    | refine State.motionCmd_keeps ?_ (within_trans hm (by decide))
    | refine State.elapse_keeps ?_ (within_trans hm (by decide))
    | refine keeps_pair (by assumption) ?_
    | split

theorem execGroupAbort_keeps {dt g mode tag data} {t} (e : execGroupAbort dt g mode tag data s = .next t) : Keeps [.reg .prf, .reg .eng, .reg .fbk, .reg .knl, .reg .que, .reg .err, .fresh, .sets, .clk, .bulk, .log, .knl, .que, .prf, .probes] s t := by
  have hm := within_refl [.reg .prf, .reg .eng, .reg .fbk, .reg .knl, .reg .que, .reg .err, .fresh, .sets, .clk, .bulk, .log, .knl, .que, .prf, .probes]
  have h := Keeps.refl [.reg .prf, .reg .eng, .reg .fbk, .reg .knl, .reg .que, .reg .err, .fresh, .sets, .clk, .bulk, .log, .knl, .que, .prf, .probes] s
  simp only [execGroupAbort, Host.Outcome.next.injEq] at e
  subst e
  repeat' with_reducible first
    | exact h
    | refine keeps_ite (fun _ => ?_) (fun _ => ?_)
    | refine State.motionCmd_keeps ?_ (within_trans hm (by decide))
    | refine State.elapse_keeps ?_ (within_trans hm (by decide))
    | refine keeps_pair (by assumption) ?_
    | split

theorem execLine_keeps {dt g mode tag data} {t} (e : execLine dt g mode tag data s = .next t) : Keeps [.reg .prf, .reg .eng, .reg .knl, .reg .que, .reg .err, .sets, .clk, .bulk, .log, .knl, .que, .prf] s t := by
  have hm := within_refl [.reg .prf, .reg .eng, .reg .knl, .reg .que, .reg .err, .sets, .clk, .bulk, .log, .knl, .que, .prf]
  have h := Keeps.refl [.reg .prf, .reg .eng, .reg .knl, .reg .que, .reg .err, .sets, .clk, .bulk, .log, .knl, .que, .prf] s
  simp only [execLine, Host.Outcome.next.injEq] at e
  subst e
  repeat' with_reducible first
    | exact h
    | refine keeps_ite (fun _ => ?_) (fun _ => ?_)
    | refine State.segmentCmd_keeps ?_ (within_trans hm (by decide))
    | refine State.elapse_keeps ?_ (within_trans hm (by decide))
    | refine keeps_pair (by assumption) ?_
    | split

theorem execArc_keeps {dt g mode tag data} {t} (e : execArc dt g mode tag data s = .next t) : Keeps [.reg .prf, .reg .eng, .reg .knl, .reg .que, .reg .err, .sets, .clk, .bulk, .log, .knl, .que, .prf] s t := by
  have hm := within_refl [.reg .prf, .reg .eng, .reg .knl, .reg .que, .reg .err, .sets, .clk, .bulk, .log, .knl, .que, .prf]
  have h := Keeps.refl [.reg .prf, .reg .eng, .reg .knl, .reg .que, .reg .err, .sets, .clk, .bulk, .log, .knl, .que, .prf] s
  simp only [execArc, Host.Outcome.next.injEq] at e
  subst e
  repeat' with_reducible first
    | exact h
    | refine keeps_ite (fun _ => ?_) (fun _ => ?_)
    | refine State.segmentCmd_keeps ?_ (within_trans hm (by decide))
    | refine State.elapse_keeps ?_ (within_trans hm (by decide))
    | refine keeps_pair (by assumption) ?_
    | split

theorem execHelix_keeps {dt g mode tag data} {t} (e : execHelix dt g mode tag data s = .next t) : Keeps [.reg .prf, .reg .eng, .reg .knl, .reg .que, .reg .err, .sets, .clk, .bulk, .log, .knl, .que, .prf] s t := by
  have hm := within_refl [.reg .prf, .reg .eng, .reg .knl, .reg .que, .reg .err, .sets, .clk, .bulk, .log, .knl, .que, .prf]
  have h := Keeps.refl [.reg .prf, .reg .eng, .reg .knl, .reg .que, .reg .err, .sets, .clk, .bulk, .log, .knl, .que, .prf] s
  simp only [execHelix, Host.Outcome.next.injEq] at e
  subst e
  repeat' with_reducible first
    | exact h
    | refine keeps_ite (fun _ => ?_) (fun _ => ?_)
    | refine State.segmentCmd_keeps ?_ (within_trans hm (by decide))
    | refine State.elapse_keeps ?_ (within_trans hm (by decide))
    | refine keeps_pair (by assumption) ?_
    | split

theorem execSpline_keeps {dt g mode tag data} {t} (e : execSpline dt g mode tag data s = .next t) : Keeps [.reg .prf, .reg .eng, .reg .knl, .reg .que, .reg .err, .sets, .clk, .bulk, .log, .knl, .que, .prf] s t := by
  have hm := within_refl [.reg .prf, .reg .eng, .reg .knl, .reg .que, .reg .err, .sets, .clk, .bulk, .log, .knl, .que, .prf]
  have h := Keeps.refl [.reg .prf, .reg .eng, .reg .knl, .reg .que, .reg .err, .sets, .clk, .bulk, .log, .knl, .que, .prf] s
  simp only [execSpline, Host.Outcome.next.injEq] at e
  subst e
  repeat' with_reducible first
    | exact h
    | refine keeps_ite (fun _ => ?_) (fun _ => ?_)
    | refine State.segmentCmd_keeps ?_ (within_trans hm (by decide))
    | refine State.elapse_keeps ?_ (within_trans hm (by decide))
    | refine keeps_pair (by assumption) ?_
    | split

theorem execDwell_keeps {dt g mode tag data} {t} (e : execDwell dt g mode tag data s = .next t) : Keeps [.reg .prf, .reg .eng, .reg .knl, .reg .que, .reg .err, .sets, .clk, .bulk, .log, .knl, .que, .prf] s t := by
  have hm := within_refl [.reg .prf, .reg .eng, .reg .knl, .reg .que, .reg .err, .sets, .clk, .bulk, .log, .knl, .que, .prf]
  have h := Keeps.refl [.reg .prf, .reg .eng, .reg .knl, .reg .que, .reg .err, .sets, .clk, .bulk, .log, .knl, .que, .prf] s
  simp only [execDwell, Host.Outcome.next.injEq] at e
  subst e
  repeat' with_reducible first
    | exact h
    | refine keeps_ite (fun _ => ?_) (fun _ => ?_)
    | refine State.segmentCmd_keeps ?_ (within_trans hm (by decide))
    | refine State.elapse_keeps ?_ (within_trans hm (by decide))
    | refine keeps_pair (by assumption) ?_
    | split

theorem execSegDone_keeps {dt g} {t} (e : execSegDone dt g s = .next t) : Keeps [.reg .prf, .reg .eng, .reg .fbk, .reg .knl, .reg .que, .reg .err, .fresh, .sets, .clk, .bulk, .log, .knl, .que, .prf, .probes] s t := by
  have hm := within_refl [.reg .prf, .reg .eng, .reg .fbk, .reg .knl, .reg .que, .reg .err, .fresh, .sets, .clk, .bulk, .log, .knl, .que, .prf, .probes]
  have h := Keeps.refl [.reg .prf, .reg .eng, .reg .fbk, .reg .knl, .reg .que, .reg .err, .fresh, .sets, .clk, .bulk, .log, .knl, .que, .prf, .probes] s
  simp only [execSegDone, Host.Outcome.next.injEq] at e
  subst e
  repeat' with_reducible first
    | exact h
    | refine keeps_ite (fun _ => ?_) (fun _ => ?_)
    | refine State.whenAdvanced_keeps ?_ (within_trans hm (by decide))
    | refine State.elapse_keeps ?_ (within_trans hm (by decide))
    | refine keeps_pair (by assumption) ?_
    | split

theorem execStarved_keeps {dt g} {t} (e : execStarved dt g s = .next t) : Keeps [.reg .prf, .reg .eng, .reg .fbk, .reg .knl, .reg .que, .reg .err, .fresh, .sets, .clk, .bulk, .log, .knl, .que, .prf, .probes] s t := by
  have hm := within_refl [.reg .prf, .reg .eng, .reg .fbk, .reg .knl, .reg .que, .reg .err, .fresh, .sets, .clk, .bulk, .log, .knl, .que, .prf, .probes]
  have h := Keeps.refl [.reg .prf, .reg .eng, .reg .fbk, .reg .knl, .reg .que, .reg .err, .fresh, .sets, .clk, .bulk, .log, .knl, .que, .prf, .probes] s
  simp only [execStarved, Host.Outcome.next.injEq] at e
  subst e
  repeat' with_reducible first
    | exact h
    | refine keeps_ite (fun _ => ?_) (fun _ => ?_)
    | refine State.whenAdvanced_keeps ?_ (within_trans hm (by decide))
    | refine State.elapse_keeps ?_ (within_trans hm (by decide))
    | refine keeps_pair (by assumption) ?_
    | split

theorem execPathHold_keeps {dt g} {t} (e : execPathHold dt g s = .next t) : Keeps [.reg .prf, .reg .eng, .reg .fbk, .reg .knl, .reg .que, .reg .err, .fresh, .sets, .clk, .bulk, .log, .knl, .que, .prf, .probes] s t := by
  have hm := within_refl [.reg .prf, .reg .eng, .reg .fbk, .reg .knl, .reg .que, .reg .err, .fresh, .sets, .clk, .bulk, .log, .knl, .que, .prf, .probes]
  have h := Keeps.refl [.reg .prf, .reg .eng, .reg .fbk, .reg .knl, .reg .que, .reg .err, .fresh, .sets, .clk, .bulk, .log, .knl, .que, .prf, .probes] s
  simp only [execPathHold, Host.Outcome.next.injEq] at e
  subst e
  repeat' with_reducible first
    | exact h
    | refine keeps_ite (fun _ => ?_) (fun _ => ?_)
    | refine State.whenAdvanced_keeps ?_ (within_trans hm (by decide))
    | refine State.elapse_keeps ?_ (within_trans hm (by decide))
    | refine keeps_pair (by assumption) ?_
    | split

theorem execGroupConfigWrite_keeps {dt who g axes v} {t} (e : execGroupConfigWrite dt who g axes v s = .next t) : Keeps [.reg .prf, .reg .err, .sets, .clk, .bus, .log] s t := by
  have hm := within_refl [.reg .prf, .reg .err, .sets, .clk, .bus, .log]
  have h := Keeps.refl [.reg .prf, .reg .err, .sets, .clk, .bus, .log] s
  simp only [execGroupConfigWrite, Host.Outcome.next.injEq] at e
  subst e
  repeat' with_reducible first
    | exact h
    | refine keeps_ite (fun _ => ?_) (fun _ => ?_)
    | refine State.elapse_keeps ?_ (within_trans hm (by decide))
    | refine State.writeGroupAxes_keeps ?_ (within_trans hm (by decide))
    | refine State.writeGroupCfg_keeps ?_ (within_trans hm (by decide))
    | refine keeps_pair (by assumption) ?_
    | split

theorem execOverrideWrite_keeps {dt g v} {t} (e : execOverrideWrite dt g v s = .next t) : Keeps [.reg .prf, .sets, .clk] s t := by
  have hm := within_refl [.reg .prf, .sets, .clk]
  have h := Keeps.refl [.reg .prf, .sets, .clk] s
  simp only [execOverrideWrite, Host.Outcome.next.injEq] at e
  subst e
  repeat' with_reducible first
    | exact h
    | refine keeps_ite (fun _ => ?_) (fun _ => ?_)
    | refine State.writeOverride_keeps ?_ (within_trans hm (by decide))
    | refine State.elapse_keeps ?_ (within_trans hm (by decide))
    | refine keeps_pair (by assumption) ?_
    | split

theorem execDone_keeps {dt n} {t} (e : execDone dt n s = .next t) : Keeps [.reg .prf, .reg .eng, .reg .fbk, .reg .knl, .reg .que, .reg .err, .fresh, .sets, .clk, .bulk, .log, .knl, .que, .prf, .probes] s t := by
  have hm := within_refl [.reg .prf, .reg .eng, .reg .fbk, .reg .knl, .reg .que, .reg .err, .fresh, .sets, .clk, .bulk, .log, .knl, .que, .prf, .probes]
  have h := Keeps.refl [.reg .prf, .reg .eng, .reg .fbk, .reg .knl, .reg .que, .reg .err, .fresh, .sets, .clk, .bulk, .log, .knl, .que, .prf, .probes] s
  simp only [execDone, Host.Outcome.next.injEq] at e
  subst e
  repeat' with_reducible first
    | exact h
    | refine keeps_ite (fun _ => ?_) (fun _ => ?_)
    | refine State.whenAdvanced_keeps ?_ (within_trans hm (by decide))
    | refine State.elapse_keeps ?_ (within_trans hm (by decide))
    | refine keeps_pair (by assumption) ?_
    | split

theorem execOvershoot_keeps {dt n} {t} (e : execOvershoot dt n s = .next t) : Keeps [.reg .prf, .reg .eng, .reg .fbk, .reg .knl, .reg .que, .reg .err, .fresh, .sets, .clk, .bulk, .log, .knl, .que, .prf, .probes] s t := by
  have hm := within_refl [.reg .prf, .reg .eng, .reg .fbk, .reg .knl, .reg .que, .reg .err, .fresh, .sets, .clk, .bulk, .log, .knl, .que, .prf, .probes]
  have h := Keeps.refl [.reg .prf, .reg .eng, .reg .fbk, .reg .knl, .reg .que, .reg .err, .fresh, .sets, .clk, .bulk, .log, .knl, .que, .prf, .probes] s
  simp only [execOvershoot, Host.Outcome.next.injEq] at e
  subst e
  repeat' with_reducible first
    | exact h
    | refine keeps_ite (fun _ => ?_) (fun _ => ?_)
    | refine State.whenAdvanced_keeps ?_ (within_trans hm (by decide))
    | refine State.elapse_keeps ?_ (within_trans hm (by decide))
    | refine keeps_pair (by assumption) ?_
    | split

theorem execLocked_keeps {dt n} {t} (e : execLocked dt n s = .next t) : Keeps [.reg .prf, .reg .eng, .reg .fbk, .reg .knl, .reg .que, .reg .err, .fresh, .sets, .clk, .bulk, .log, .knl, .que, .prf, .probes] s t := by
  have hm := within_refl [.reg .prf, .reg .eng, .reg .fbk, .reg .knl, .reg .que, .reg .err, .fresh, .sets, .clk, .bulk, .log, .knl, .que, .prf, .probes]
  have h := Keeps.refl [.reg .prf, .reg .eng, .reg .fbk, .reg .knl, .reg .que, .reg .err, .fresh, .sets, .clk, .bulk, .log, .knl, .que, .prf, .probes] s
  simp only [execLocked, Host.Outcome.next.injEq] at e
  subst e
  repeat' with_reducible first
    | exact h
    | refine keeps_ite (fun _ => ?_) (fun _ => ?_)
    | refine State.whenAdvanced_keeps ?_ (within_trans hm (by decide))
    | refine State.elapse_keeps ?_ (within_trans hm (by decide))
    | refine keeps_pair (by assumption) ?_
    | split

theorem execMposCrossing_keeps {dt n} {t} (e : execMposCrossing dt n s = .next t) : Keeps [.reg .prf, .reg .eng, .reg .fbk, .reg .knl, .reg .que, .reg .err, .fresh, .sets, .clk, .bulk, .log, .knl, .que, .prf, .probes] s t := by
  have hm := within_refl [.reg .prf, .reg .eng, .reg .fbk, .reg .knl, .reg .que, .reg .err, .fresh, .sets, .clk, .bulk, .log, .knl, .que, .prf, .probes]
  have h := Keeps.refl [.reg .prf, .reg .eng, .reg .fbk, .reg .knl, .reg .que, .reg .err, .fresh, .sets, .clk, .bulk, .log, .knl, .que, .prf, .probes] s
  simp only [execMposCrossing, Host.Outcome.next.injEq] at e
  subst e
  repeat' with_reducible first
    | exact h
    | refine keeps_ite (fun _ => ?_) (fun _ => ?_)
    | refine State.whenAdvanced_keeps ?_ (within_trans hm (by decide))
    | refine State.elapse_keeps ?_ (within_trans hm (by decide))
    | refine keeps_pair (by assumption) ?_
    | split

theorem execCamEnd_keeps {dt n} {t} (e : execCamEnd dt n s = .next t) : Keeps [.reg .prf, .reg .eng, .reg .fbk, .reg .knl, .reg .que, .reg .err, .fresh, .sets, .clk, .bulk, .log, .knl, .que, .prf, .probes] s t := by
  have hm := within_refl [.reg .prf, .reg .eng, .reg .fbk, .reg .knl, .reg .que, .reg .err, .fresh, .sets, .clk, .bulk, .log, .knl, .que, .prf, .probes]
  have h := Keeps.refl [.reg .prf, .reg .eng, .reg .fbk, .reg .knl, .reg .que, .reg .err, .fresh, .sets, .clk, .bulk, .log, .knl, .que, .prf, .probes] s
  simp only [execCamEnd, Host.Outcome.next.injEq] at e
  subst e
  repeat' with_reducible first
    | exact h
    | refine keeps_ite (fun _ => ?_) (fun _ => ?_)
    | refine State.whenAdvanced_keeps ?_ (within_trans hm (by decide))
    | refine State.elapse_keeps ?_ (within_trans hm (by decide))
    | refine keeps_pair (by assumption) ?_
    | split

end Sys2Proof.Machine
end

