-- ==== Sys2Proof/Laws/KeepsUnits.lean ====
section
/-! SUPPORT. What each operation and command of Acquire, TimeUnit, Ring, RingCycle, SafetyCore, ErrLog leaves alone. -/

namespace Sys2Proof.Machine

set_option linter.unusedTactic false
set_option linter.unreachableTactic false
set_option maxRecDepth 4000

variable {m : List Part} {s0 s : State}

/-! ### Acquire -/

theorem State.showPool_keeps (h : Keeps m s0 s) (hm : within [.reg .acq] m = true) : Keeps m s0 (State.showPool s) := by
  unfold State.showPool
  try dsimp only
  repeat' with_reducible first
    | exact h
    | refine keeps_ite (fun _ => ?_) (fun _ => ?_)
    | refine State.put_keeps (by first | exact ACQ_POOLA_ARMED_blk .. | exact ACQ_POOLA_FREE_blk .. | exact ACQ_POOLB_HELD_blk .. | exact ACQ_STAT_RFREE_blk .. | (refine blk_ite ?_ ?_ <;> first | exact ACQ_POOLA_ARMED_blk .. | exact ACQ_POOLA_FREE_blk .. | exact ACQ_POOLB_HELD_blk .. | exact ACQ_STAT_RFREE_blk ..)) ?_ (within_trans hm (by decide))
    | refine keeps_pair (by assumption) ?_
    | split

theorem State.setSlots_keeps {kind owner l} (h : Keeps m s0 s) (hm : within [.reg .acq] m = true) : Keeps m s0 (State.setSlots kind owner l s) := by
  unfold State.setSlots
  try dsimp only
  repeat' with_reducible first
    | exact h
    | refine keeps_ite (fun _ => ?_) (fun _ => ?_)
    | refine State.put_keeps (by first | exact ACQ_SLOT_KIND_blk .. | exact ACQ_SLOT_OWNER_blk .. | (refine blk_ite ?_ ?_ <;> first | exact ACQ_SLOT_KIND_blk .. | exact ACQ_SLOT_OWNER_blk ..)) ?_ (within_trans hm (by decide))
    | refine keeps_foldl ?_ _ ?_
    | refine keeps_foldl_snd ?_ _ ?_
    | (intro _ _ h; try dsimp only)
    | refine keeps_pair (by assumption) ?_
    | split

theorem State.linkSlots_keeps {l} (h : Keeps m s0 s) (hm : within [.reg .acq] m = true) : Keeps m s0 (State.linkSlots l s) := by
  unfold State.linkSlots
  try dsimp only
  repeat' with_reducible first
    | exact h
    | refine keeps_ite (fun _ => ?_) (fun _ => ?_)
    | refine State.put_keeps (by first | exact ACQ_SLOT_NEXT_blk ..) ?_ (within_trans hm (by decide))
    | refine keeps_foldl ?_ _ ?_
    | refine keeps_foldl_snd ?_ _ ?_
    | (intro _ _ h; try dsimp only)
    | refine keeps_pair (by assumption) ?_
    | split

theorem State.armChannel_keeps {g c} (h : Keeps m s0 s) (hm : within [.reg .acq, .fresh, .acq] m = true) : Keeps m s0 (State.armChannel g c s) := by
  unfold State.armChannel
  try dsimp only
  repeat' with_reducible first
    | exact h
    | refine keeps_ite (fun _ => ?_) (fun _ => ?_)
    | refine State.drew_keeps ?_ (within_trans hm (by decide))
    | refine State.onAcq_keeps ?_ (within_trans hm (by decide))
    | refine State.linkSlots_keeps ?_ (within_trans hm (by decide))
    | refine State.setSlots_keeps ?_ (within_trans hm (by decide))
    | refine State.put_keeps (by first | exact ACQ_CDEP_blk .. | exact whole_blk (ACQ_CDEP_blk ..) | exact ACQ_CHIST_blk .. | exact whole_blk (ACQ_CHIST_blk ..) | exact ACQ_CST_PCLAMP_blk .. | exact ACQ_CST_PRECUT_blk .. | exact ACQ_CST_RID_blk .. | exact ACQ_CST_STATE_blk .. | exact ACQ_RD_blk .. | exact whole_blk (ACQ_RD_blk ..) | (refine blk_ite ?_ ?_ <;> first | exact ACQ_CDEP_blk .. | exact whole_blk (ACQ_CDEP_blk ..) | exact ACQ_CHIST_blk .. | exact whole_blk (ACQ_CHIST_blk ..) | exact ACQ_CST_PCLAMP_blk .. | exact ACQ_CST_PRECUT_blk .. | exact ACQ_CST_RID_blk .. | exact ACQ_CST_STATE_blk .. | exact ACQ_RD_blk .. | exact whole_blk (ACQ_RD_blk ..))) ?_ (within_trans hm (by decide))
    | refine State.mark_keeps (by first | exact ACQ_CDEP_blk .. | exact whole_blk (ACQ_CDEP_blk ..) | exact ACQ_CHIST_blk .. | exact whole_blk (ACQ_CHIST_blk ..) | exact ACQ_CST_PCLAMP_blk .. | exact ACQ_CST_PRECUT_blk .. | exact ACQ_CST_RID_blk .. | exact ACQ_CST_STATE_blk .. | exact ACQ_RD_blk .. | exact whole_blk (ACQ_RD_blk ..) | (refine blk_ite ?_ ?_ <;> first | exact ACQ_CDEP_blk .. | exact whole_blk (ACQ_CDEP_blk ..) | exact ACQ_CHIST_blk .. | exact whole_blk (ACQ_CHIST_blk ..) | exact ACQ_CST_PCLAMP_blk .. | exact ACQ_CST_PRECUT_blk .. | exact ACQ_CST_RID_blk .. | exact ACQ_CST_STATE_blk .. | exact ACQ_RD_blk .. | exact whole_blk (ACQ_RD_blk ..))) ?_ (within_trans hm (by decide))
    | refine State.wr_keeps (by first | exact ACQ_CDEP_blk .. | exact whole_blk (ACQ_CDEP_blk ..) | exact ACQ_CHIST_blk .. | exact whole_blk (ACQ_CHIST_blk ..) | exact ACQ_CST_PCLAMP_blk .. | exact ACQ_CST_PRECUT_blk .. | exact ACQ_CST_RID_blk .. | exact ACQ_CST_STATE_blk .. | exact ACQ_RD_blk .. | exact whole_blk (ACQ_RD_blk ..) | (refine blk_ite ?_ ?_ <;> first | exact ACQ_CDEP_blk .. | exact whole_blk (ACQ_CDEP_blk ..) | exact ACQ_CHIST_blk .. | exact whole_blk (ACQ_CHIST_blk ..) | exact ACQ_CST_PCLAMP_blk .. | exact ACQ_CST_PRECUT_blk .. | exact ACQ_CST_RID_blk .. | exact ACQ_CST_STATE_blk .. | exact ACQ_RD_blk .. | exact whole_blk (ACQ_RD_blk ..))) ?_ (within_trans hm (by decide))
    | refine keeps_foldl ?_ _ ?_
    | refine keeps_foldl_snd ?_ _ ?_
    | (intro _ _ h; try dsimp only)
    | refine keeps_pair (by assumption) ?_
    | split

theorem State.armGroup_keeps {g} (h : Keeps m s0 s) (hm : within [.reg .acq, .fresh, .acq] m = true) : Keeps m s0 (State.armGroup g s) := by
  unfold State.armGroup
  try dsimp only
  repeat' with_reducible first
    | exact h
    | refine keeps_ite (fun _ => ?_) (fun _ => ?_)
    | refine State.armChannel_keeps ?_ (within_trans hm (by decide))
    | refine State.showPool_keeps ?_ (within_trans hm (by decide))
    | refine State.onAcqGroup_keeps ?_ (within_trans hm (by decide))
    | refine State.put_keeps (by first | exact ACQ_GST_STATE_blk ..) ?_ (within_trans hm (by decide))
    | refine keeps_foldl ?_ _ ?_
    | refine keeps_foldl_snd ?_ _ ?_
    | (intro _ _ h; try dsimp only)
    | refine keeps_pair (by assumption) ?_
    | split

theorem State.armRequest_keeps {g} (h : Keeps m s0 s) (hm : within [.reg .acq, .reg .err, .fresh, .acq] m = true) : Keeps m s0 (State.armRequest g s) := by
  unfold State.armRequest
  try dsimp only
  repeat' with_reducible first
    | exact h
    | refine keeps_ite (fun _ => ?_) (fun _ => ?_)
    | refine State.put_keeps (by first | exact ACQ_GST_RESULT_blk .. | exact PWR_ISL_LATE_blk .. | (refine blk_ite ?_ ?_ <;> first | exact ACQ_GST_RESULT_blk .. | exact PWR_ISL_LATE_blk ..)) ?_ (within_trans hm (by decide))
    | refine State.onAcq_keeps ?_ (within_trans hm (by decide))
    | refine State.satBump_keeps (by first | exact ACQ_GST_RESULT_blk .. | exact PWR_ISL_LATE_blk .. | (refine blk_ite ?_ ?_ <;> first | exact ACQ_GST_RESULT_blk .. | exact PWR_ISL_LATE_blk ..)) ?_ (within_trans hm (by decide))
    | refine State.armGroup_keeps ?_ (within_trans hm (by decide))
    | refine keeps_pair (by assumption) ?_
    | split

theorem State.acqWoken_keeps (h : Keeps m s0 s) (hm : within [.reg .acq, .fresh, .acq] m = true) : Keeps m s0 (State.acqWoken s) := by
  unfold State.acqWoken
  try dsimp only
  repeat' with_reducible first
    | exact h
    | refine keeps_ite (fun _ => ?_) (fun _ => ?_)
    | refine State.armGroup_keeps ?_ (within_trans hm (by decide))
    | refine State.put_keeps (by first | exact ACQ_GST_RESULT_blk ..) ?_ (within_trans hm (by decide))
    | refine State.onAcq_keeps ?_ (within_trans hm (by decide))
    | refine keeps_foldl ?_ _ ?_
    | refine keeps_foldl_snd ?_ _ ?_
    | (intro _ _ h; try dsimp only)
    | refine keeps_pair (by assumption) ?_
    | split

theorem State.groupClosed_keeps {g} (h : Keeps m s0 s) (hm : within [.reg .acq, .fresh, .acq] m = true) : Keeps m s0 (State.groupClosed g s) := by
  unfold State.groupClosed
  try dsimp only
  repeat' with_reducible first
    | exact h
    | refine keeps_ite (fun _ => ?_) (fun _ => ?_)
    | refine State.put_keeps (by first | exact ACQ_GST_STATE_blk ..) ?_ (within_trans hm (by decide))
    | refine State.armGroup_keeps ?_ (within_trans hm (by decide))
    | refine keeps_pair (by assumption) ?_
    | split

theorem State.closeRecord_keeps {c status} (h : Keeps m s0 s) (hm : within [.reg .knl, .reg .que, .reg .acq, .reg .err, .sets, .bulk, .log, .knl, .que, .acq] m = true) : Keeps m s0 (State.closeRecord c status s) := by
  unfold State.closeRecord
  try dsimp only
  repeat' with_reducible first
    | exact h
    | refine keeps_ite (fun _ => ?_) (fun _ => ?_)
    | refine State.wr_keeps (by first | exact ACQ_CST_STATE_blk .. | exact ACQ_RD_blk .. | exact whole_blk (ACQ_RD_blk ..) | exact ACQ_STAT_QLOST_blk .. | (refine blk_ite ?_ ?_ <;> first | exact ACQ_CST_STATE_blk .. | exact ACQ_RD_blk .. | exact whole_blk (ACQ_RD_blk ..) | exact ACQ_STAT_QLOST_blk ..)) ?_ (within_trans hm (by decide))
    | refine State.put_keeps (by first | exact ACQ_CST_STATE_blk .. | exact ACQ_RD_blk .. | exact whole_blk (ACQ_RD_blk ..) | exact ACQ_STAT_QLOST_blk .. | (refine blk_ite ?_ ?_ <;> first | exact ACQ_CST_STATE_blk .. | exact ACQ_RD_blk .. | exact whole_blk (ACQ_RD_blk ..) | exact ACQ_STAT_QLOST_blk ..)) ?_ (within_trans hm (by decide))
    | refine State.setSlots_keeps ?_ (within_trans hm (by decide))
    | refine State.onAcq_keeps ?_ (within_trans hm (by decide))
    | refine State.showPool_keeps ?_ (within_trans hm (by decide))
    | refine State.tryPush_keeps ?_ (within_trans hm (by decide))
    | refine State.lose_keeps (by first | exact ACQ_CST_STATE_blk .. | exact ACQ_RD_blk .. | exact whole_blk (ACQ_RD_blk ..) | exact ACQ_STAT_QLOST_blk .. | (refine blk_ite ?_ ?_ <;> first | exact ACQ_CST_STATE_blk .. | exact ACQ_RD_blk .. | exact whole_blk (ACQ_RD_blk ..) | exact ACQ_STAT_QLOST_blk ..)) ?_ (within_trans hm (by decide))
    | refine State.event_keeps ?_ (within_trans hm (by decide))
    | refine keeps_foldl ?_ _ ?_
    | refine keeps_foldl_snd ?_ _ ?_
    | (intro _ _ h; try dsimp only)
    | refine keeps_getD (fun _ _ => ?_) ?_
    | refine keeps_pair (by assumption) ?_
    | split

theorem State.freeBuffer_keeps {c} (h : Keeps m s0 s) (hm : within [.reg .acq, .acq] m = true) : Keeps m s0 (State.freeBuffer c s) := by
  unfold State.freeBuffer
  try dsimp only
  repeat' with_reducible first
    | exact h
    | refine keeps_ite (fun _ => ?_) (fun _ => ?_)
    | refine State.onAcq_keeps ?_ (within_trans hm (by decide))
    | refine State.setSlots_keeps ?_ (within_trans hm (by decide))
    | refine State.showPool_keeps ?_ (within_trans hm (by decide))
    | refine State.wr_keeps (by first | exact ACQ_CHIST_blk .. | exact whole_blk (ACQ_CHIST_blk ..) | exact ACQ_CST_STATE_blk .. | exact ACQ_RD_blk .. | exact whole_blk (ACQ_RD_blk ..) | (refine blk_ite ?_ ?_ <;> first | exact ACQ_CHIST_blk .. | exact whole_blk (ACQ_CHIST_blk ..) | exact ACQ_CST_STATE_blk .. | exact ACQ_RD_blk .. | exact whole_blk (ACQ_RD_blk ..))) ?_ (within_trans hm (by decide))
    | refine State.put_keeps (by first | exact ACQ_CHIST_blk .. | exact whole_blk (ACQ_CHIST_blk ..) | exact ACQ_CST_STATE_blk .. | exact ACQ_RD_blk .. | exact whole_blk (ACQ_RD_blk ..) | (refine blk_ite ?_ ?_ <;> first | exact ACQ_CHIST_blk .. | exact whole_blk (ACQ_CHIST_blk ..) | exact ACQ_CST_STATE_blk .. | exact ACQ_RD_blk .. | exact whole_blk (ACQ_RD_blk ..))) ?_ (within_trans hm (by decide))
    | refine keeps_pair (by assumption) ?_
    | split

theorem State.closeFull_keeps {c} (h : Keeps m s0 s) (hm : within [.reg .knl, .reg .que, .reg .acq, .reg .err, .fresh, .sets, .bulk, .log, .knl, .que, .acq] m = true) : Keeps m s0 (State.closeFull c s) := by
  unfold State.closeFull
  try dsimp only
  repeat' with_reducible first
    | exact h
    | refine keeps_ite (fun _ => ?_) (fun _ => ?_)
    | refine State.groupClosed_keeps ?_ (within_trans hm (by decide))
    | refine State.closeRecord_keeps ?_ (within_trans hm (by decide))
    | refine keeps_pair (by assumption) ?_
    | split

theorem State.disarmGroup_keeps {g status} (h : Keeps m s0 s) (hm : within [.reg .knl, .reg .que, .reg .acq, .reg .err, .sets, .bulk, .log, .knl, .que, .acq] m = true) : Keeps m s0 (State.disarmGroup g status s) := by
  unfold State.disarmGroup
  try dsimp only
  repeat' with_reducible first
    | exact h
    | refine keeps_ite (fun _ => ?_) (fun _ => ?_)
    | refine State.onAcq_keeps ?_ (within_trans hm (by decide))
    | refine State.closeRecord_keeps ?_ (within_trans hm (by decide))
    | refine State.freeBuffer_keeps ?_ (within_trans hm (by decide))
    | refine State.put_keeps (by first | exact ACQ_GST_STATE_blk ..) ?_ (within_trans hm (by decide))
    | refine keeps_foldl ?_ _ ?_
    | refine keeps_foldl_snd ?_ _ ?_
    | (intro _ _ h; try dsimp only)
    | refine keeps_pair (by assumption) ?_
    | split

theorem State.retryWaiting_keeps (h : Keeps m s0 s) (hm : within [.reg .acq, .fresh, .acq] m = true) : Keeps m s0 (State.retryWaiting s) := by
  unfold State.retryWaiting
  try dsimp only
  repeat' with_reducible first
    | exact h
    | refine keeps_ite (fun _ => ?_) (fun _ => ?_)
    | refine State.armGroup_keeps ?_ (within_trans hm (by decide))
    | refine keeps_foldl ?_ _ ?_
    | refine keeps_foldl_snd ?_ _ ?_
    | (intro _ _ h; try dsimp only)
    | refine keeps_pair (by assumption) ?_
    | split

theorem State.releaseRecord_keeps {who r} (h : Keeps m s0 s) (hm : within [.reg .acq, .reg .err, .fresh, .bus, .log, .acq] m = true) : Keeps m s0 (State.releaseRecord who r s) := by
  unfold State.releaseRecord
  try dsimp only
  repeat' with_reducible first
    | exact h
    | refine keeps_ite (fun _ => ?_) (fun _ => ?_)
    | refine State.retryWaiting_keeps ?_ (within_trans hm (by decide))
    | refine State.showPool_keeps ?_ (within_trans hm (by decide))
    | refine State.wr_keeps (by first | exact ACQ_RD_blk .. | exact whole_blk (ACQ_RD_blk ..)) ?_ (within_trans hm (by decide))
    | refine State.setSlots_keeps ?_ (within_trans hm (by decide))
    | refine State.accessError_keeps ?_ (within_trans hm (by decide))
    | refine keeps_pair (by assumption) ?_
    | split

theorem State.rearmEnd_keeps {g} (h : Keeps m s0 s) (hm : within [.reg .acq, .acq] m = true) : Keeps m s0 (State.rearmEnd g s) := by
  unfold State.rearmEnd
  try dsimp only
  repeat' with_reducible first
    | exact h
    | refine keeps_ite (fun _ => ?_) (fun _ => ?_)
    | refine State.onAcqGroup_keeps ?_ (within_trans hm (by decide))
    | refine State.put_keeps (by first | exact ACQ_GST_STATE_blk ..) ?_ (within_trans hm (by decide))
    | refine keeps_pair (by assumption) ?_
    | split

theorem State.detect_keeps {g y ts} (h : Keeps m s0 s) (hm : within [.reg .acq, .fresh, .acq] m = true) : Keeps m s0 (State.detect g y ts s) := by
  unfold State.detect
  try dsimp only
  repeat' with_reducible first
    | exact h
    | refine keeps_ite (fun _ => ?_) (fun _ => ?_)
    | refine State.rearmEnd_keeps ?_ (within_trans hm (by decide))
    | refine State.drew_keeps ?_ (within_trans hm (by decide))
    | refine State.onAcqGroup_keeps ?_ (within_trans hm (by decide))
    | refine State.acqTrigger_keeps ?_ (within_trans hm (by decide))
    | refine keeps_pair (by assumption) ?_
    | split

theorem State.storeSample_keeps {c st full k} (h : Keeps m s0 s) (hm : within [.reg .acq, .acq] m = true) : Keeps m s0 (State.storeSample c st full k s) := by
  unfold State.storeSample
  try dsimp only
  repeat' with_reducible first
    | exact h
    | refine keeps_ite (fun _ => ?_) (fun _ => ?_)
    | refine State.onAcq_keeps ?_ (within_trans hm (by decide))
    | refine State.wr_keeps (by first | exact ACQ_CHIST_blk .. | exact whole_blk (ACQ_CHIST_blk ..)) ?_ (within_trans hm (by decide))
    | refine keeps_foldl ?_ _ ?_
    | refine keeps_foldl_snd ?_ _ ?_
    | (intro _ _ h; try dsimp only)
    | refine keeps_getD (fun _ _ => ?_) ?_
    | refine keeps_pair (by assumption) ?_
    | split

theorem State.acqSample_keeps {c vals l} (h : Keeps m s0 s) (hm : within [.reg .knl, .reg .que, .reg .acq, .reg .err, .fresh, .sets, .bulk, .log, .knl, .que, .acq] m = true) : Keeps m s0 (State.acqSample c vals l s) := by
  unfold State.acqSample
  try dsimp only
  repeat' with_reducible first
    | exact h
    | refine keeps_ite (fun _ => ?_) (fun _ => ?_)
    | refine State.closeFull_keeps ?_ (within_trans hm (by decide))
    | refine State.detect_keeps ?_ (within_trans hm (by decide))
    | refine State.storeSample_keeps ?_ (within_trans hm (by decide))
    | refine keeps_getD (fun _ _ => ?_) ?_
    | refine keeps_pair (by assumption) ?_
    | split

theorem State.autoTrigger_keeps {g} (h : Keeps m s0 s) (hm : within [.reg .acq, .acq] m = true) : Keeps m s0 (State.autoTrigger g s) := by
  unfold State.autoTrigger
  try dsimp only
  repeat' with_reducible first
    | exact h
    | refine keeps_ite (fun _ => ?_) (fun _ => ?_)
    | refine State.acqFire_keeps ?_ (within_trans hm (by decide))
    | refine keeps_pair (by assumption) ?_
    | split

theorem State.wychemasSend_keeps {n} (h : Keeps m s0 s) (hm : within [.reg .acq, .fresh, .acq] m = true) : Keeps m s0 (State.wychemasSend n s) := by
  unfold State.wychemasSend
  try dsimp only
  repeat' with_reducible first
    | exact h
    | refine keeps_ite (fun _ => ?_) (fun _ => ?_)
    | refine State.onAcq_keeps ?_ (within_trans hm (by decide))
    | refine State.satBump_keeps (by first | exact ACQ_WST_WOVR_blk ..) ?_ (within_trans hm (by decide))
    | refine State.drew_keeps ?_ (within_trans hm (by decide))
    | refine keeps_pair (by assumption) ?_
    | split

theorem State.wychemasReceive_keeps {n frame ago} (h : Keeps m s0 s) (hm : within [.reg .acq, .acq] m = true) : Keeps m s0 (State.wychemasReceive n frame ago s) := by
  unfold State.wychemasReceive
  try dsimp only
  repeat' with_reducible first
    | exact h
    | refine keeps_ite (fun _ => ?_) (fun _ => ?_)
    | refine State.satBump_keeps (by first | exact ACQ_WST_WBAD_blk ..) ?_ (within_trans hm (by decide))
    | refine State.acqSource_keeps ?_ (within_trans hm (by decide))
    | refine keeps_pair (by assumption) ?_
    | split

theorem State.loadAcqset_keeps {p} (h : Keeps m s0 s) (hm : within [.reg .acq] m = true) : Keeps m s0 (State.loadAcqset p s) := by
  unfold State.loadAcqset
  try dsimp only
  repeat' with_reducible first
    | exact h
    | refine keeps_ite (fun _ => ?_) (fun _ => ?_)
    | refine State.wr_keeps (by first | exact ACQ_CCFG_blk .. | exact whole_blk (ACQ_CCFG_blk ..) | exact ACQ_CPOST_blk .. | exact whole_blk (ACQ_CPOST_blk ..) | exact ACQ_CPRE_blk .. | exact whole_blk (ACQ_CPRE_blk ..) | exact ACQ_CSIG_blk .. | exact whole_blk (ACQ_CSIG_blk ..) | exact ACQ_CTS_blk .. | exact whole_blk (ACQ_CTS_blk ..) | exact ACQ_CWS_blk .. | exact whole_blk (ACQ_CWS_blk ..) | exact ACQ_GAUTO_blk .. | exact whole_blk (ACQ_GAUTO_blk ..) | exact ACQ_GCFG_blk .. | exact whole_blk (ACQ_GCFG_blk ..) | exact ACQ_GHYS_blk .. | exact whole_blk (ACQ_GHYS_blk ..) | exact ACQ_GLVL_blk .. | exact whole_blk (ACQ_GLVL_blk ..) | exact ACQ_WCFG_blk .. | exact whole_blk (ACQ_WCFG_blk ..) | exact ACQ_WDLY_blk .. | exact whole_blk (ACQ_WDLY_blk ..) | exact ACQ_WSUM_blk .. | exact whole_blk (ACQ_WSUM_blk ..) | (refine blk_ite ?_ ?_ <;> first | exact ACQ_CCFG_blk .. | exact whole_blk (ACQ_CCFG_blk ..) | exact ACQ_CPOST_blk .. | exact whole_blk (ACQ_CPOST_blk ..) | exact ACQ_CPRE_blk .. | exact whole_blk (ACQ_CPRE_blk ..) | exact ACQ_CSIG_blk .. | exact whole_blk (ACQ_CSIG_blk ..) | exact ACQ_CTS_blk .. | exact whole_blk (ACQ_CTS_blk ..) | exact ACQ_CWS_blk .. | exact whole_blk (ACQ_CWS_blk ..) | exact ACQ_GAUTO_blk .. | exact whole_blk (ACQ_GAUTO_blk ..) | exact ACQ_GCFG_blk .. | exact whole_blk (ACQ_GCFG_blk ..) | exact ACQ_GHYS_blk .. | exact whole_blk (ACQ_GHYS_blk ..) | exact ACQ_GLVL_blk .. | exact whole_blk (ACQ_GLVL_blk ..) | exact ACQ_WCFG_blk .. | exact whole_blk (ACQ_WCFG_blk ..) | exact ACQ_WDLY_blk .. | exact whole_blk (ACQ_WDLY_blk ..) | exact ACQ_WSUM_blk .. | exact whole_blk (ACQ_WSUM_blk ..))) ?_ (within_trans hm (by decide))
    | refine keeps_foldl ?_ _ ?_
    | refine keeps_foldl_snd ?_ _ ?_
    | (intro _ _ h; try dsimp only)
    | refine keeps_pair (by assumption) ?_
    | split

theorem State.acqAutoStart_keeps (h : Keeps m s0 s) (hm : within [.reg .acq, .reg .err, .fresh, .acq] m = true) : Keeps m s0 (State.acqAutoStart s) := by
  unfold State.acqAutoStart
  try dsimp only
  repeat' with_reducible first
    | exact h
    | refine keeps_ite (fun _ => ?_) (fun _ => ?_)
    | refine State.armRequest_keeps ?_ (within_trans hm (by decide))
    | refine keeps_foldl ?_ _ ?_
    | refine keeps_foldl_snd ?_ _ ?_
    | (intro _ _ h; try dsimp only)
    | refine keeps_pair (by assumption) ?_
    | split

theorem State.acqChangeover_keeps {p} (h : Keeps m s0 s) (hm : within [.reg .knl, .reg .que, .reg .acq, .reg .err, .fresh, .sets, .bulk, .log, .knl, .que, .acq] m = true) : Keeps m s0 (State.acqChangeover p s) := by
  unfold State.acqChangeover
  try dsimp only
  repeat' with_reducible first
    | exact h
    | refine keeps_ite (fun _ => ?_) (fun _ => ?_)
    | refine State.acqAutoStart_keeps ?_ (within_trans hm (by decide))
    | refine State.loadAcqset_keeps ?_ (within_trans hm (by decide))
    | refine State.disarmGroup_keeps ?_ (within_trans hm (by decide))
    | refine keeps_foldl ?_ _ ?_
    | refine keeps_foldl_snd ?_ _ ?_
    | (intro _ _ h; try dsimp only)
    | refine keeps_pair (by assumption) ?_
    | split

theorem execArm_keeps {dt g} {t} (e : execArm dt g s = .next t) : Keeps [.reg .acq, .reg .err, .fresh, .sets, .clk, .acq] s t := by
  have hm := within_refl [.reg .acq, .reg .err, .fresh, .sets, .clk, .acq]
  have h := Keeps.refl [.reg .acq, .reg .err, .fresh, .sets, .clk, .acq] s
  simp only [execArm, Host.Outcome.next.injEq] at e
  subst e
  repeat' with_reducible first
    | exact h
    | refine keeps_ite (fun _ => ?_) (fun _ => ?_)
    | refine State.armRequest_keeps ?_ (within_trans hm (by decide))
    | refine State.elapse_keeps ?_ (within_trans hm (by decide))
    | refine keeps_pair (by assumption) ?_
    | split

theorem execDisarm_keeps {dt g} {t} (e : execDisarm dt g s = .next t) : Keeps [.reg .knl, .reg .que, .reg .acq, .reg .err, .sets, .clk, .bulk, .log, .knl, .que, .acq] s t := by
  have hm := within_refl [.reg .knl, .reg .que, .reg .acq, .reg .err, .sets, .clk, .bulk, .log, .knl, .que, .acq]
  have h := Keeps.refl [.reg .knl, .reg .que, .reg .acq, .reg .err, .sets, .clk, .bulk, .log, .knl, .que, .acq] s
  simp only [execDisarm, Host.Outcome.next.injEq] at e
  subst e
  repeat' with_reducible first
    | exact h
    | refine keeps_ite (fun _ => ?_) (fun _ => ?_)
    | refine State.disarmGroup_keeps ?_ (within_trans hm (by decide))
    | refine State.elapse_keeps ?_ (within_trans hm (by decide))
    | refine keeps_pair (by assumption) ?_
    | split

theorem execForce_keeps {dt g} {t} (e : execForce dt g s = .next t) : Keeps [.sets, .clk, .acq] s t := by
  have hm := within_refl [.sets, .clk, .acq]
  have h := Keeps.refl [.sets, .clk, .acq] s
  simp only [execForce, Host.Outcome.next.injEq] at e
  subst e
  repeat' with_reducible first
    | exact h
    | refine keeps_ite (fun _ => ?_) (fun _ => ?_)
    | refine State.elapse_keeps ?_ (within_trans hm (by decide))
    | refine State.onAcqGroup_keeps ?_ (within_trans hm (by decide))
    | refine keeps_pair (by assumption) ?_
    | split

theorem execAcqSample_keeps {dt c vals l} {t} (e : execAcqSample dt c vals l s = .next t) : Keeps [.reg .knl, .reg .que, .reg .acq, .reg .err, .fresh, .sets, .clk, .bulk, .log, .knl, .que, .acq] s t := by
  have hm := within_refl [.reg .knl, .reg .que, .reg .acq, .reg .err, .fresh, .sets, .clk, .bulk, .log, .knl, .que, .acq]
  have h := Keeps.refl [.reg .knl, .reg .que, .reg .acq, .reg .err, .fresh, .sets, .clk, .bulk, .log, .knl, .que, .acq] s
  simp only [execAcqSample, Host.Outcome.next.injEq] at e
  subst e
  repeat' with_reducible first
    | exact h
    | refine keeps_ite (fun _ => ?_) (fun _ => ?_)
    | refine State.acqSample_keeps ?_ (within_trans hm (by decide))
    | refine State.elapse_keeps ?_ (within_trans hm (by decide))
    | refine keeps_pair (by assumption) ?_
    | split

theorem execRearmEnd_keeps {dt g} {t} (e : execRearmEnd dt g s = .next t) : Keeps [.reg .acq, .sets, .clk, .acq] s t := by
  have hm := within_refl [.reg .acq, .sets, .clk, .acq]
  have h := Keeps.refl [.reg .acq, .sets, .clk, .acq] s
  simp only [execRearmEnd, Host.Outcome.next.injEq] at e
  subst e
  repeat' with_reducible first
    | exact h
    | refine keeps_ite (fun _ => ?_) (fun _ => ?_)
    | refine State.rearmEnd_keeps ?_ (within_trans hm (by decide))
    | refine State.elapse_keeps ?_ (within_trans hm (by decide))
    | refine keeps_pair (by assumption) ?_
    | split

theorem execAutoTrigger_keeps {dt g} {t} (e : execAutoTrigger dt g s = .next t) : Keeps [.reg .acq, .sets, .clk, .acq] s t := by
  have hm := within_refl [.reg .acq, .sets, .clk, .acq]
  have h := Keeps.refl [.reg .acq, .sets, .clk, .acq] s
  simp only [execAutoTrigger, Host.Outcome.next.injEq] at e
  subst e
  repeat' with_reducible first
    | exact h
    | refine keeps_ite (fun _ => ?_) (fun _ => ?_)
    | refine State.autoTrigger_keeps ?_ (within_trans hm (by decide))
    | refine State.elapse_keeps ?_ (within_trans hm (by decide))
    | refine keeps_pair (by assumption) ?_
    | split

theorem execRecordClose_keeps {dt c ecc} {t} (e : execRecordClose dt c ecc s = .next t) : Keeps [.reg .prf, .reg .eng, .reg .csf, .reg .fbk, .reg .pwm, .reg .knl, .reg .que, .reg .acq, .reg .dio, .reg .err, .fresh, .sets, .clk, .bulk, .log, .knl, .que, .pow, .axes, .prf, .pwm, .drn, .probes, .acq] s t := by
  have hm := within_refl [.reg .prf, .reg .eng, .reg .csf, .reg .fbk, .reg .pwm, .reg .knl, .reg .que, .reg .acq, .reg .dio, .reg .err, .fresh, .sets, .clk, .bulk, .log, .knl, .que, .pow, .axes, .prf, .pwm, .drn, .probes, .acq]
  have h := Keeps.refl [.reg .prf, .reg .eng, .reg .csf, .reg .fbk, .reg .pwm, .reg .knl, .reg .que, .reg .acq, .reg .dio, .reg .err, .fresh, .sets, .clk, .bulk, .log, .knl, .que, .pow, .axes, .prf, .pwm, .drn, .probes, .acq] s
  simp only [execRecordClose, Host.Outcome.next.injEq] at e
  subst e
  repeat' with_reducible first
    | exact h
    | refine keeps_ite (fun _ => ?_) (fun _ => ?_)
    | refine State.elapse_keeps ?_ (within_trans hm (by decide))
    | refine State.guardEnd_keeps ?_ (within_trans hm (by decide))
    | refine State.groupClosed_keeps ?_ (within_trans hm (by decide))
    | refine State.closeRecord_keeps ?_ (within_trans hm (by decide))
    | refine State.closeFull_keeps ?_ (within_trans hm (by decide))
    | refine keeps_pair (by assumption) ?_
    | split

theorem execRecordRelease_keeps {dt who r} {t} (e : execRecordRelease dt who r s = .next t) : Keeps [.reg .acq, .reg .err, .fresh, .sets, .clk, .bus, .log, .acq] s t := by
  have hm := within_refl [.reg .acq, .reg .err, .fresh, .sets, .clk, .bus, .log, .acq]
  have h := Keeps.refl [.reg .acq, .reg .err, .fresh, .sets, .clk, .bus, .log, .acq] s
  simp only [execRecordRelease, Host.Outcome.next.injEq] at e
  subst e
  repeat' with_reducible first
    | exact h
    | refine keeps_ite (fun _ => ?_) (fun _ => ?_)
    | refine State.releaseRecord_keeps ?_ (within_trans hm (by decide))
    | refine State.elapse_keeps ?_ (within_trans hm (by decide))
    | refine keeps_pair (by assumption) ?_
    | split

theorem execWychemasSend_keeps {dt n} {t} (e : execWychemasSend dt n s = .next t) : Keeps [.reg .acq, .fresh, .sets, .clk, .acq] s t := by
  have hm := within_refl [.reg .acq, .fresh, .sets, .clk, .acq]
  have h := Keeps.refl [.reg .acq, .fresh, .sets, .clk, .acq] s
  simp only [execWychemasSend, Host.Outcome.next.injEq] at e
  subst e
  repeat' with_reducible first
    | exact h
    | refine keeps_ite (fun _ => ?_) (fun _ => ?_)
    | refine State.wychemasSend_keeps ?_ (within_trans hm (by decide))
    | refine State.elapse_keeps ?_ (within_trans hm (by decide))
    | refine keeps_pair (by assumption) ?_
    | split

theorem execWychemasReceive_keeps {dt n frame ago} {t} (e : execWychemasReceive dt n frame ago s = .next t) : Keeps [.reg .acq, .sets, .clk, .acq] s t := by
  have hm := within_refl [.reg .acq, .sets, .clk, .acq]
  have h := Keeps.refl [.reg .acq, .sets, .clk, .acq] s
  simp only [execWychemasReceive, Host.Outcome.next.injEq] at e
  subst e
  repeat' with_reducible first
    | exact h
    | refine keeps_ite (fun _ => ?_) (fun _ => ?_)
    | refine State.wychemasReceive_keeps ?_ (within_trans hm (by decide))
    | refine State.elapse_keeps ?_ (within_trans hm (by decide))
    | refine keeps_pair (by assumption) ?_
    | split

theorem execSyncclkLoss_keeps {dt} {t} (e : execSyncclkLoss dt s = .next t) : Keeps [.reg .acq, .sets, .clk] s t := by
  have hm := within_refl [.reg .acq, .sets, .clk]
  have h := Keeps.refl [.reg .acq, .sets, .clk] s
  simp only [execSyncclkLoss, Host.Outcome.next.injEq] at e
  subst e
  repeat' with_reducible first
    | exact h
    | refine keeps_ite (fun _ => ?_) (fun _ => ?_)
    | refine State.mark_keeps (by first | exact ACQ_WST_CLKOK_blk ..) ?_ (within_trans hm (by decide))
    | refine State.elapse_keeps ?_ (within_trans hm (by decide))
    | refine keeps_pair (by assumption) ?_
    | split

theorem execSyncclkReturn_keeps {dt} {t} (e : execSyncclkReturn dt s = .next t) : Keeps [.reg .acq, .sets, .clk] s t := by
  have hm := within_refl [.reg .acq, .sets, .clk]
  have h := Keeps.refl [.reg .acq, .sets, .clk] s
  simp only [execSyncclkReturn, Host.Outcome.next.injEq] at e
  subst e
  repeat' with_reducible first
    | exact h
    | refine keeps_ite (fun _ => ?_) (fun _ => ?_)
    | refine State.mark_keeps (by first | exact ACQ_WST_CLKOK_blk ..) ?_ (within_trans hm (by decide))
    | refine State.elapse_keeps ?_ (within_trans hm (by decide))
    | refine keeps_pair (by assumption) ?_
    | split

/-! ### TimeUnit -/

theorem State.tu_keeps {f} (h : Keeps m s0 s) (hm : within [.tim] m = true) : Keeps m s0 (State.tu f s) := by
  unfold State.tu
  try dsimp only
  repeat' with_reducible first
    | exact h
    | refine keeps_ite (fun _ => ?_) (fun _ => ?_)
    | refine State.onTim_keeps ?_ (within_trans hm (by decide))
    | refine keeps_pair (by assumption) ?_
    | split

theorem State.timState_keeps {st} (h : Keeps m s0 s) (hm : within [.reg .knl, .reg .tim, .reg .err, .log, .knl] m = true) : Keeps m s0 (State.timState st s) := by
  unfold State.timState
  try dsimp only
  repeat' with_reducible first
    | exact h
    | refine keeps_ite (fun _ => ?_) (fun _ => ?_)
    | refine State.event_keeps ?_ (within_trans hm (by decide))
    | refine State.change_keeps (by first | exact TIM_ST_STATE_blk ..) ?_ (within_trans hm (by decide))
    | refine keeps_pair (by assumption) ?_
    | split

theorem State.timLock_keeps (h : Keeps m s0 s) (hm : within [.reg .knl, .reg .tim, .reg .err, .log, .knl, .tim] m = true) : Keeps m s0 (State.timLock s) := by
  unfold State.timLock
  try dsimp only
  repeat' with_reducible first
    | exact h
    | refine keeps_ite (fun _ => ?_) (fun _ => ?_)
    | refine State.tu_keeps ?_ (within_trans hm (by decide))
    | refine State.put_keeps (by first | exact TIM_ST_OUTRUN_blk ..) ?_ (within_trans hm (by decide))
    | refine State.timState_keeps ?_ (within_trans hm (by decide))
    | refine keeps_pair (by assumption) ?_
    | split

theorem State.rebaseCommits_keeps {t'} (h : Keeps m s0 s) (hm : within [.lim] m = true) : Keeps m s0 (State.rebaseCommits t' s) := by
  unfold State.rebaseCommits
  try dsimp only
  repeat' with_reducible first
    | exact h
    | refine keeps_ite (fun _ => ?_) (fun _ => ?_)
    | refine State.onLim_keeps ?_ (within_trans hm (by decide))
    | refine keeps_pair (by assumption) ?_
    | split

theorem State.timStep_keeps {th} (h : Keeps m s0 s) (hm : within [.reg .knl, .reg .tim, .reg .err, .fresh, .clk, .log, .knl, .lim, .ring, .tim] m = true) : Keeps m s0 (s.timStep th) := by
  unfold State.timStep
  dsimp only
  have h1 := fun t => State.rebaseCommits_keeps (t' := t) (State.drew_keeps (k := 1) h (within_trans hm (by decide))) (within_trans hm (by decide))
  have h2 := fun (t : Nat) (ht : t < 2 ^ 48 * 10 ^ 9) => State.onClk_keeps (f := fun c => { c with sec := t / 10 ^ 9, ns := t % 10 ^ 9 })
    (fun c _ _ hf => ⟨Nat.mod_lt _ (by decide), by
      show t / 10 ^ 9 < 2 ^ 48
      rw [Nat.div_lt_iff_lt_mul (by decide)]
      exact ht, hf⟩) (h1 t) (within_trans hm (by decide))
  have ht : ∀ z : Int, (z % (2 ^ 48 * 10 ^ 9)).toNat < 2 ^ 48 * 10 ^ 9 := fun z => by
    have a := Int.emod_nonneg z (b := 2 ^ 48 * 10 ^ 9) (by decide)
    have b := Int.emod_lt_of_pos z (b := 2 ^ 48 * 10 ^ 9) (by decide)
    omega
  repeat' with_reducible first
    | exact h2 _ (ht _)
    | refine keeps_ite (fun _ => ?_) (fun _ => ?_)
    | refine State.timLock_keeps ?_ (within_trans hm (by decide))
    | refine State.onRing_keeps ?_ (within_trans hm (by decide))
    | refine State.wr_keeps (by first | exact TIM_STEP_blk .. | exact whole_blk (TIM_STEP_blk ..) | exact TIM_STEPT_blk .. | exact whole_blk (TIM_STEPT_blk ..) | exact TIM_ST_PERMIT_blk .. | exact TIM_ST_STEPS_blk .. | (refine blk_ite ?_ ?_ <;> first | exact TIM_STEP_blk .. | exact whole_blk (TIM_STEP_blk ..) | exact TIM_STEPT_blk .. | exact whole_blk (TIM_STEPT_blk ..) | exact TIM_ST_PERMIT_blk .. | exact TIM_ST_STEPS_blk ..)) ?_ (within_trans hm (by decide))
    | refine State.wr64S_keeps (by first | exact TIM_STEP_blk .. | exact whole_blk (TIM_STEP_blk ..) | exact TIM_STEPT_blk .. | exact whole_blk (TIM_STEPT_blk ..) | exact TIM_ST_PERMIT_blk .. | exact TIM_ST_STEPS_blk .. | (refine blk_ite ?_ ?_ <;> first | exact TIM_STEP_blk .. | exact whole_blk (TIM_STEP_blk ..) | exact TIM_STEPT_blk .. | exact whole_blk (TIM_STEPT_blk ..) | exact TIM_ST_PERMIT_blk .. | exact TIM_ST_STEPS_blk ..)) ?_ (within_trans hm (by decide))
    | refine State.mark_keeps (by first | exact TIM_STEP_blk .. | exact whole_blk (TIM_STEP_blk ..) | exact TIM_STEPT_blk .. | exact whole_blk (TIM_STEPT_blk ..) | exact TIM_ST_PERMIT_blk .. | exact TIM_ST_STEPS_blk .. | (refine blk_ite ?_ ?_ <;> first | exact TIM_STEP_blk .. | exact whole_blk (TIM_STEP_blk ..) | exact TIM_STEPT_blk .. | exact whole_blk (TIM_STEPT_blk ..) | exact TIM_ST_PERMIT_blk .. | exact TIM_ST_STEPS_blk ..)) ?_ (within_trans hm (by decide))
    | refine State.satBump_keeps (by first | exact TIM_STEP_blk .. | exact whole_blk (TIM_STEP_blk ..) | exact TIM_STEPT_blk .. | exact whole_blk (TIM_STEPT_blk ..) | exact TIM_ST_PERMIT_blk .. | exact TIM_ST_STEPS_blk .. | (refine blk_ite ?_ ?_ <;> first | exact TIM_STEP_blk .. | exact whole_blk (TIM_STEP_blk ..) | exact TIM_STEPT_blk .. | exact whole_blk (TIM_STEPT_blk ..) | exact TIM_ST_PERMIT_blk .. | exact TIM_ST_STEPS_blk ..)) ?_ (within_trans hm (by decide))

theorem State.timFollow_keeps {th ts} (h : Keeps m s0 s) (hm : within [.reg .tim, .fresh, .tim] m = true) : Keeps m s0 (State.timFollow th ts s) := by
  unfold State.timFollow
  try dsimp only
  repeat' with_reducible first
    | exact h
    | refine keeps_ite (fun _ => ?_) (fun _ => ?_)
    | refine State.tu_keeps ?_ (within_trans hm (by decide))
    | refine State.drew_keeps ?_ (within_trans hm (by decide))
    | refine State.putS_keeps (by first | exact TIM_RATE_blk .. | exact whole_blk (TIM_RATE_blk ..)) ?_ (within_trans hm (by decide))
    | refine keeps_pair (by assumption) ?_
    | split

theorem State.timTrack_keeps {th ts out} (h : Keeps m s0 s) (hm : within [.reg .knl, .reg .tim, .reg .err, .fresh, .log, .knl, .tim] m = true) : Keeps m s0 (State.timTrack th ts out s) := by
  unfold State.timTrack
  try dsimp only
  repeat' with_reducible first
    | exact h
    | refine keeps_ite (fun _ => ?_) (fun _ => ?_)
    | refine State.satBump_keeps (by first | exact TIM_ST_OUTRUN_blk .. | exact TIM_ST_REFCNT_blk .. | (refine blk_ite ?_ ?_ <;> first | exact TIM_ST_OUTRUN_blk .. | exact TIM_ST_REFCNT_blk ..)) ?_ (within_trans hm (by decide))
    | refine State.timState_keeps ?_ (within_trans hm (by decide))
    | refine State.put_keeps (by first | exact TIM_ST_OUTRUN_blk .. | exact TIM_ST_REFCNT_blk .. | (refine blk_ite ?_ ?_ <;> first | exact TIM_ST_OUTRUN_blk .. | exact TIM_ST_REFCNT_blk ..)) ?_ (within_trans hm (by decide))
    | refine State.timLock_keeps ?_ (within_trans hm (by decide))
    | refine State.timFollow_keeps ?_ (within_trans hm (by decide))
    | refine keeps_pair (by assumption) ?_
    | split

theorem State.timeSample_keeps {th ts ok} (h : Keeps m s0 s) (hm : within [.reg .knl, .reg .tim, .reg .err, .fresh, .clk, .log, .knl, .lim, .ring, .tim] m = true) : Keeps m s0 (State.timeSample th ts ok s) := by
  unfold State.timeSample
  try dsimp only
  repeat' with_reducible first
    | exact h
    | refine keeps_ite (fun _ => ?_) (fun _ => ?_)
    | refine State.tu_keeps ?_ (within_trans hm (by decide))
    | refine State.putS_keeps (by first | exact TIM_OFS_blk .. | exact whole_blk (TIM_OFS_blk ..)) ?_ (within_trans hm (by decide))
    | refine State.timState_keeps ?_ (within_trans hm (by decide))
    | refine State.timLock_keeps ?_ (within_trans hm (by decide))
    | refine State.timStep_keeps ?_ (within_trans hm (by decide))
    | refine State.timTrack_keeps ?_ (within_trans hm (by decide))
    | refine keeps_pair (by assumption) ?_
    | split

theorem State.timHoldover_keeps (h : Keeps m s0 s) (hm : within [.reg .knl, .reg .tim, .reg .err, .log, .knl] m = true) : Keeps m s0 (State.timHoldover s) := by
  unfold State.timHoldover
  try dsimp only
  repeat' with_reducible first
    | exact h
    | refine keeps_ite (fun _ => ?_) (fun _ => ?_)
    | refine State.timState_keeps ?_ (within_trans hm (by decide))
    | refine keeps_pair (by assumption) ?_
    | split

theorem State.timPermit_keeps {who} (h : Keeps m s0 s) (hm : within [.reg .knl, .reg .tim, .reg .err, .bus, .log, .knl] m = true) : Keeps m s0 (State.timPermit who s) := by
  unfold State.timPermit
  try dsimp only
  repeat' with_reducible first
    | exact h
    | refine keeps_ite (fun _ => ?_) (fun _ => ?_)
    | refine State.timState_keeps ?_ (within_trans hm (by decide))
    | refine State.mark_keeps (by first | exact TIM_ST_PERMIT_blk ..) ?_ (within_trans hm (by decide))
    | refine State.accessError_keeps ?_ (within_trans hm (by decide))
    | refine keeps_pair (by assumption) ?_
    | split

theorem State.timReady_keeps (h : Keeps m s0 s) (hm : within [.reg .knl, .reg .tim, .reg .err, .log, .knl, .tim] m = true) : Keeps m s0 (State.timReady s) := by
  unfold State.timReady
  try dsimp only
  repeat' with_reducible first
    | exact h
    | refine keeps_ite (fun _ => ?_) (fun _ => ?_)
    | refine State.timLock_keeps ?_ (within_trans hm (by decide))
    | refine State.wr_keeps (by first | exact TIM_RATE_blk .. | exact whole_blk (TIM_RATE_blk ..)) ?_ (within_trans hm (by decide))
    | refine keeps_pair (by assumption) ?_
    | split

theorem State.delayValue_keeps {p d} (h : Keeps m s0 s) (hm : within [.reg .tim, .tim] m = true) : Keeps m s0 (State.delayValue p d s) := by
  unfold State.delayValue
  try dsimp only
  repeat' with_reducible first
    | exact h
    | refine keeps_ite (fun _ => ?_) (fun _ => ?_)
    | refine State.wr_keeps (by first | exact TIM_LDLY_blk .. | exact whole_blk (TIM_LDLY_blk ..)) ?_ (within_trans hm (by decide))
    | refine State.tu_keeps ?_ (within_trans hm (by decide))
    | refine keeps_pair (by assumption) ?_
    | split

theorem State.linkResponse_keeps {p cyc turn q} (h : Keeps m s0 s) (hm : within [.reg .tim, .tim] m = true) : Keeps m s0 (State.linkResponse p cyc turn q s) := by
  unfold State.linkResponse
  try dsimp only
  repeat' with_reducible first
    | exact h
    | refine keeps_ite (fun _ => ?_) (fun _ => ?_)
    | refine State.delayValue_keeps ?_ (within_trans hm (by decide))
    | refine State.tu_keeps ?_ (within_trans hm (by decide))
    | refine keeps_pair (by assumption) ?_
    | split

theorem State.ringSample_keeps {v cyc ts} (h : Keeps m s0 s) (hm : within [.reg .knl, .reg .tim, .reg .err, .fresh, .clk, .log, .knl, .lim, .ring, .tim] m = true) : Keeps m s0 (State.ringSample v cyc ts s) := by
  unfold State.ringSample
  try dsimp only
  repeat' with_reducible first
    | exact h
    | refine keeps_ite (fun _ => ?_) (fun _ => ?_)
    | refine State.tu_keeps ?_ (within_trans hm (by decide))
    | refine State.timeSample_keeps ?_ (within_trans hm (by decide))
    | refine keeps_pair (by assumption) ?_
    | split

theorem State.selectMaster_keeps (h : Keeps m s0 s) (hm : within [.reg .tim, .tim] m = true) : Keeps m s0 (State.selectMaster s) := by
  unfold State.selectMaster
  try dsimp only
  repeat' with_reducible first
    | exact h
    | refine keeps_ite (fun _ => ?_) (fun _ => ?_)
    | refine State.wr64_keeps (by first | exact TIM_GMID_blk .. | exact whole_blk (TIM_GMID_blk ..) | exact TIM_PTP_SEL_blk .. | exact TIM_UTC_OFS_blk .. | exact TIM_UTC_VALID_blk .. | (refine blk_ite ?_ ?_ <;> first | exact TIM_GMID_blk .. | exact whole_blk (TIM_GMID_blk ..) | exact TIM_PTP_SEL_blk .. | exact TIM_UTC_OFS_blk .. | exact TIM_UTC_VALID_blk ..)) ?_ (within_trans hm (by decide))
    | refine State.mark_keeps (by first | exact TIM_GMID_blk .. | exact whole_blk (TIM_GMID_blk ..) | exact TIM_PTP_SEL_blk .. | exact TIM_UTC_OFS_blk .. | exact TIM_UTC_VALID_blk .. | (refine blk_ite ?_ ?_ <;> first | exact TIM_GMID_blk .. | exact whole_blk (TIM_GMID_blk ..) | exact TIM_PTP_SEL_blk .. | exact TIM_UTC_OFS_blk .. | exact TIM_UTC_VALID_blk ..)) ?_ (within_trans hm (by decide))
    | refine State.put_keeps (by first | exact TIM_GMID_blk .. | exact whole_blk (TIM_GMID_blk ..) | exact TIM_PTP_SEL_blk .. | exact TIM_UTC_OFS_blk .. | exact TIM_UTC_VALID_blk .. | (refine blk_ite ?_ ?_ <;> first | exact TIM_GMID_blk .. | exact whole_blk (TIM_GMID_blk ..) | exact TIM_PTP_SEL_blk .. | exact TIM_UTC_OFS_blk .. | exact TIM_UTC_VALID_blk ..)) ?_ (within_trans hm (by decide))
    | refine State.tu_keeps ?_ (within_trans hm (by decide))
    | refine keeps_pair (by assumption) ?_
    | split

theorem State.announce_keeps {f} (h : Keeps m s0 s) (hm : within [.reg .tim, .tim] m = true) : Keeps m s0 (State.announce f s) := by
  unfold State.announce
  try dsimp only
  repeat' with_reducible first
    | exact h
    | refine keeps_ite (fun _ => ?_) (fun _ => ?_)
    | refine State.tu_keeps ?_ (within_trans hm (by decide))
    | refine State.put_keeps (by first | exact TIM_UTC_OFS_blk .. | exact TIM_UTC_VALID_blk .. | (refine blk_ite ?_ ?_ <;> first | exact TIM_UTC_OFS_blk .. | exact TIM_UTC_VALID_blk ..)) ?_ (within_trans hm (by decide))
    | refine State.mark_keeps (by first | exact TIM_UTC_OFS_blk .. | exact TIM_UTC_VALID_blk .. | (refine blk_ite ?_ ?_ <;> first | exact TIM_UTC_OFS_blk .. | exact TIM_UTC_VALID_blk ..)) ?_ (within_trans hm (by decide))
    | refine keeps_pair (by assumption) ?_
    | split

theorem State.syncSample_keeps {t1 t2 ts} (h : Keeps m s0 s) (hm : within [.reg .knl, .reg .tim, .reg .err, .fresh, .clk, .log, .knl, .lim, .ring, .tim] m = true) : Keeps m s0 (State.syncSample t1 t2 ts s) := by
  unfold State.syncSample
  try dsimp only
  repeat' with_reducible first
    | exact h
    | refine keeps_ite (fun _ => ?_) (fun _ => ?_)
    | refine State.tu_keeps ?_ (within_trans hm (by decide))
    | refine State.timeSample_keeps ?_ (within_trans hm (by decide))
    | refine keeps_pair (by assumption) ?_
    | split

theorem State.syncIn_keeps {seq two t1 corr k} (h : Keeps m s0 s) (hm : within [.reg .knl, .reg .tim, .reg .err, .fresh, .clk, .log, .knl, .lim, .ring, .tim] m = true) : Keeps m s0 (State.syncIn seq two t1 corr k s) := by
  unfold State.syncIn
  try dsimp only
  repeat' with_reducible first
    | exact h
    | refine keeps_ite (fun _ => ?_) (fun _ => ?_)
    | refine State.tu_keeps ?_ (within_trans hm (by decide))
    | refine State.syncSample_keeps ?_ (within_trans hm (by decide))
    | refine keeps_pair (by assumption) ?_
    | split

theorem State.pathDelay_keeps {d} (h : Keeps m s0 s) (hm : within [.reg .tim, .tim] m = true) : Keeps m s0 (State.pathDelay d s) := by
  unfold State.pathDelay
  try dsimp only
  repeat' with_reducible first
    | exact h
    | refine keeps_ite (fun _ => ?_) (fun _ => ?_)
    | refine State.wr_keeps (by first | exact TIM_MPD_blk .. | exact whole_blk (TIM_MPD_blk ..)) ?_ (within_trans hm (by decide))
    | refine State.tu_keeps ?_ (within_trans hm (by decide))
    | refine keeps_pair (by assumption) ?_
    | split

theorem State.ptpSend_keeps {l} (h : Keeps m s0 s) (hm : within [.tim] m = true) : Keeps m s0 (State.ptpSend l s) := by
  unfold State.ptpSend
  try dsimp only
  repeat' with_reducible first
    | exact h
    | refine keeps_ite (fun _ => ?_) (fun _ => ?_)
    | refine State.tu_keeps ?_ (within_trans hm (by decide))
    | refine keeps_pair (by assumption) ?_
    | split

theorem State.delayRequest_keeps (h : Keeps m s0 s) (hm : within [.tim] m = true) : Keeps m s0 (State.delayRequest s) := by
  unfold State.delayRequest
  try dsimp only
  repeat' with_reducible first
    | exact h
    | refine keeps_ite (fun _ => ?_) (fun _ => ?_)
    | refine State.ptpSend_keeps ?_ (within_trans hm (by decide))
    | refine State.tu_keeps ?_ (within_trans hm (by decide))
    | refine keeps_pair (by assumption) ?_
    | split

theorem execHoldover_keeps {dt} {t} (e : execHoldover dt s = .next t) : Keeps [.reg .knl, .reg .tim, .reg .err, .sets, .clk, .log, .knl] s t := by
  have hm := within_refl [.reg .knl, .reg .tim, .reg .err, .sets, .clk, .log, .knl]
  have h := Keeps.refl [.reg .knl, .reg .tim, .reg .err, .sets, .clk, .log, .knl] s
  simp only [execHoldover, Host.Outcome.next.injEq] at e
  subst e
  repeat' with_reducible first
    | exact h
    | refine keeps_ite (fun _ => ?_) (fun _ => ?_)
    | refine State.timHoldover_keeps ?_ (within_trans hm (by decide))
    | refine State.elapse_keeps ?_ (within_trans hm (by decide))
    | refine keeps_pair (by assumption) ?_
    | split

theorem execPermit_keeps {dt who} {t} (e : execPermit dt who s = .next t) : Keeps [.reg .knl, .reg .tim, .reg .err, .sets, .clk, .bus, .log, .knl] s t := by
  have hm := within_refl [.reg .knl, .reg .tim, .reg .err, .sets, .clk, .bus, .log, .knl]
  have h := Keeps.refl [.reg .knl, .reg .tim, .reg .err, .sets, .clk, .bus, .log, .knl] s
  simp only [execPermit, Host.Outcome.next.injEq] at e
  subst e
  repeat' with_reducible first
    | exact h
    | refine keeps_ite (fun _ => ?_) (fun _ => ?_)
    | refine State.timPermit_keeps ?_ (within_trans hm (by decide))
    | refine State.elapse_keeps ?_ (within_trans hm (by decide))
    | refine keeps_pair (by assumption) ?_
    | split

theorem execLinkDelayResponse_keeps {dt p cyc turn q} {t} (e : execLinkDelayResponse dt p cyc turn q s = .next t) : Keeps [.reg .tim, .sets, .clk, .tim] s t := by
  have hm := within_refl [.reg .tim, .sets, .clk, .tim]
  have h := Keeps.refl [.reg .tim, .sets, .clk, .tim] s
  simp only [execLinkDelayResponse, Host.Outcome.next.injEq] at e
  subst e
  repeat' with_reducible first
    | exact h
    | refine keeps_ite (fun _ => ?_) (fun _ => ?_)
    | refine State.linkResponse_keeps ?_ (within_trans hm (by decide))
    | refine State.elapse_keeps ?_ (within_trans hm (by decide))
    | refine keeps_pair (by assumption) ?_
    | split

theorem execGrandmasterChange_keeps {dt} {t} (e : execGrandmasterChange dt s = .next t) : Keeps [.reg .tim, .sets, .clk, .tim] s t := by
  have hm := within_refl [.reg .tim, .sets, .clk, .tim]
  have h := Keeps.refl [.reg .tim, .sets, .clk, .tim] s
  simp only [execGrandmasterChange, Host.Outcome.next.injEq] at e
  subst e
  repeat' with_reducible first
    | exact h
    | refine keeps_ite (fun _ => ?_) (fun _ => ?_)
    | refine State.elapse_keeps ?_ (within_trans hm (by decide))
    | refine State.selectMaster_keeps ?_ (within_trans hm (by decide))
    | refine keeps_pair (by assumption) ?_
    | split

theorem execSync_keeps {dt dom clock port seq two sec ns corr k} {t} (e : execSync dt dom clock port seq two sec ns corr k s = .next t) : Keeps [.reg .knl, .reg .tim, .reg .err, .fresh, .sets, .clk, .log, .knl, .lim, .ring, .tim] s t := by
  have hm := within_refl [.reg .knl, .reg .tim, .reg .err, .fresh, .sets, .clk, .log, .knl, .lim, .ring, .tim]
  have h := Keeps.refl [.reg .knl, .reg .tim, .reg .err, .fresh, .sets, .clk, .log, .knl, .lim, .ring, .tim] s
  simp only [execSync, Host.Outcome.next.injEq] at e
  subst e
  repeat' with_reducible first
    | exact h
    | refine keeps_ite (fun _ => ?_) (fun _ => ?_)
    | refine State.elapse_keeps ?_ (within_trans hm (by decide))
    | refine State.syncIn_keeps ?_ (within_trans hm (by decide))
    | refine keeps_pair (by assumption) ?_
    | split

theorem execFollowUp_keeps {dt dom clock port seq sec ns corr} {t} (e : execFollowUp dt dom clock port seq sec ns corr s = .next t) : Keeps [.reg .knl, .reg .tim, .reg .err, .fresh, .sets, .clk, .log, .knl, .lim, .ring, .tim] s t := by
  have hm := within_refl [.reg .knl, .reg .tim, .reg .err, .fresh, .sets, .clk, .log, .knl, .lim, .ring, .tim]
  have h := Keeps.refl [.reg .knl, .reg .tim, .reg .err, .fresh, .sets, .clk, .log, .knl, .lim, .ring, .tim] s
  simp only [execFollowUp, Host.Outcome.next.injEq] at e
  subst e
  repeat' with_reducible first
    | exact h
    | refine keeps_ite (fun _ => ?_) (fun _ => ?_)
    | refine State.elapse_keeps ?_ (within_trans hm (by decide))
    | refine State.syncSample_keeps ?_ (within_trans hm (by decide))
    | refine keeps_pair (by assumption) ?_
    | split

theorem execAnnounce_keeps {dt dom clock port prio1 cls acc var prio2 gm steps utc utcOk k} {t} (e : execAnnounce dt dom clock port prio1 cls acc var prio2 gm steps utc utcOk k s = .next t) : Keeps [.reg .tim, .sets, .clk, .tim] s t := by
  have hm := within_refl [.reg .tim, .sets, .clk, .tim]
  have h := Keeps.refl [.reg .tim, .sets, .clk, .tim] s
  simp only [execAnnounce, Host.Outcome.next.injEq] at e
  subst e
  repeat' with_reducible first
    | exact h
    | refine keeps_ite (fun _ => ?_) (fun _ => ?_)
    | refine State.elapse_keeps ?_ (within_trans hm (by decide))
    | refine State.announce_keeps ?_ (within_trans hm (by decide))
    | refine keeps_pair (by assumption) ?_
    | split

theorem execDelayReq_keeps {dt} {t} (e : execDelayReq dt s = .next t) : Keeps [.sets, .clk, .tim] s t := by
  have hm := within_refl [.sets, .clk, .tim]
  have h := Keeps.refl [.sets, .clk, .tim] s
  simp only [execDelayReq, Host.Outcome.next.injEq] at e
  subst e
  repeat' with_reducible first
    | exact h
    | refine keeps_ite (fun _ => ?_) (fun _ => ?_)
    | refine State.elapse_keeps ?_ (within_trans hm (by decide))
    | refine State.delayRequest_keeps ?_ (within_trans hm (by decide))
    | refine keeps_pair (by assumption) ?_
    | split

theorem execDelayResp_keeps {dt dom clock port seq mine sec ns corr} {t} (e : execDelayResp dt dom clock port seq mine sec ns corr s = .next t) : Keeps [.reg .tim, .sets, .clk, .tim] s t := by
  have hm := within_refl [.reg .tim, .sets, .clk, .tim]
  have h := Keeps.refl [.reg .tim, .sets, .clk, .tim] s
  simp only [execDelayResp, Host.Outcome.next.injEq] at e
  subst e
  repeat' with_reducible first
    | exact h
    | refine keeps_ite (fun _ => ?_) (fun _ => ?_)
    | refine State.elapse_keeps ?_ (within_trans hm (by decide))
    | refine State.pathDelay_keeps ?_ (within_trans hm (by decide))
    | refine State.tu_keeps ?_ (within_trans hm (by decide))
    | refine keeps_pair (by assumption) ?_
    | split

theorem execPdelayReq_keeps {dt dom clock port seq} {t} (e : execPdelayReq dt dom clock port seq s = .next t) : Keeps [.sets, .clk, .tim] s t := by
  have hm := within_refl [.sets, .clk, .tim]
  have h := Keeps.refl [.sets, .clk, .tim] s
  simp only [execPdelayReq, Host.Outcome.next.injEq] at e
  subst e
  repeat' with_reducible first
    | exact h
    | refine keeps_ite (fun _ => ?_) (fun _ => ?_)
    | refine State.elapse_keeps ?_ (within_trans hm (by decide))
    | refine State.ptpSend_keeps ?_ (within_trans hm (by decide))
    | refine keeps_pair (by assumption) ?_
    | split

theorem execPdelayResp_keeps {dt dom seq mine two sec ns corr} {t} (e : execPdelayResp dt dom seq mine two sec ns corr s = .next t) : Keeps [.reg .tim, .sets, .clk, .tim] s t := by
  have hm := within_refl [.reg .tim, .sets, .clk, .tim]
  have h := Keeps.refl [.reg .tim, .sets, .clk, .tim] s
  simp only [execPdelayResp, Host.Outcome.next.injEq] at e
  subst e
  repeat' with_reducible first
    | exact h
    | refine keeps_ite (fun _ => ?_) (fun _ => ?_)
    | refine State.elapse_keeps ?_ (within_trans hm (by decide))
    | refine State.tu_keeps ?_ (within_trans hm (by decide))
    | refine State.pathDelay_keeps ?_ (within_trans hm (by decide))
    | refine keeps_pair (by assumption) ?_
    | split

theorem execPdelayRespFollowUp_keeps {dt dom seq mine sec ns corr} {t} (e : execPdelayRespFollowUp dt dom seq mine sec ns corr s = .next t) : Keeps [.reg .tim, .sets, .clk, .tim] s t := by
  have hm := within_refl [.reg .tim, .sets, .clk, .tim]
  have h := Keeps.refl [.reg .tim, .sets, .clk, .tim] s
  simp only [execPdelayRespFollowUp, Host.Outcome.next.injEq] at e
  subst e
  repeat' with_reducible first
    | exact h
    | refine keeps_ite (fun _ => ?_) (fun _ => ?_)
    | refine State.elapse_keeps ?_ (within_trans hm (by decide))
    | refine State.pathDelay_keeps ?_ (within_trans hm (by decide))
    | refine State.tu_keeps ?_ (within_trans hm (by decide))
    | refine keeps_pair (by assumption) ?_
    | split

theorem execAnnounceReceiptTimeout_keeps {dt} {t} (e : execAnnounceReceiptTimeout dt s = .next t) : Keeps [.reg .tim, .sets, .clk, .tim] s t := by
  have hm := within_refl [.reg .tim, .sets, .clk, .tim]
  have h := Keeps.refl [.reg .tim, .sets, .clk, .tim] s
  simp only [execAnnounceReceiptTimeout, Host.Outcome.next.injEq] at e
  subst e
  repeat' with_reducible first
    | exact h
    | refine keeps_ite (fun _ => ?_) (fun _ => ?_)
    | refine State.elapse_keeps ?_ (within_trans hm (by decide))
    | refine State.selectMaster_keeps ?_ (within_trans hm (by decide))
    | refine State.tu_keeps ?_ (within_trans hm (by decide))
    | refine keeps_pair (by assumption) ?_
    | split

/-! ### Ring -/

theorem State.onRingMem_keeps {m' f} (h : Keeps m s0 s) (hm : within [.ring] m = true) : Keeps m s0 (State.onRingMem m' f s) := by
  unfold State.onRingMem
  try dsimp only
  repeat' with_reducible first
    | exact h
    | refine keeps_ite (fun _ => ?_) (fun _ => ?_)
    | refine State.onRing_keeps ?_ (within_trans hm (by decide))
    | refine keeps_pair (by assumption) ?_
    | split

theorem State.showBufs_keeps (h : Keeps m s0 s) (hm : within [.reg .rng, .ring] m = true) : Keeps m s0 (State.showBufs s) := by
  unfold State.showBufs
  try dsimp only
  repeat' with_reducible first
    | exact h
    | refine keeps_ite (fun _ => ?_) (fun _ => ?_)
    | refine State.onRing_keeps ?_ (within_trans hm (by decide))
    | refine State.put_keeps (by first | exact RNG_BUFA_FREE_blk .. | exact RNG_BUFA_RECV_blk .. | exact RNG_BUFB_FWD_blk .. | exact RNG_BUFB_TXW_blk .. | (refine blk_ite ?_ ?_ <;> first | exact RNG_BUFA_FREE_blk .. | exact RNG_BUFA_RECV_blk .. | exact RNG_BUFB_FWD_blk .. | exact RNG_BUFB_TXW_blk ..)) ?_ (within_trans hm (by decide))
    | refine keeps_pair (by assumption) ?_
    | split

theorem State.takeBuf_keeps {k t'} (h : Keeps m s0 s) (hm : within [.reg .rng, .reg .err, .log, .ring] m = true) : Keeps m s0 (State.takeBuf k t' s).2 := by
  unfold State.takeBuf
  try dsimp only
  repeat' with_reducible first
    | exact h
    | refine keeps_ite (fun _ => ?_) (fun _ => ?_)
    | refine State.showBufs_keeps ?_ (within_trans hm (by decide))
    | refine State.lose_keeps (by first | exact RNG_ERR_NOBUF_blk ..) ?_ (within_trans hm (by decide))
    | refine State.onRing_keeps ?_ (within_trans hm (by decide))
    | refine keeps_pair (by assumption) ?_
    | split

theorem State.ringSend_keeps {p t' ok d} (h : Keeps m s0 s) (hm : within [.ring] m = true) : Keeps m s0 (State.ringSend p t' ok d s) := by
  unfold State.ringSend
  try dsimp only
  repeat' with_reducible first
    | exact h
    | refine keeps_ite (fun _ => ?_) (fun _ => ?_)
    | refine State.onRing_keeps ?_ (within_trans hm (by decide))
    | refine keeps_pair (by assumption) ?_
    | split

theorem State.stampSend_keeps {p t' d} (h : Keeps m s0 s) (hm : within [.tim] m = true) : Keeps m s0 (State.stampSend p t' d s) := by
  unfold State.stampSend
  try dsimp only
  repeat' with_reducible first
    | exact h
    | refine keeps_ite (fun _ => ?_) (fun _ => ?_)
    | refine State.tu_keeps ?_ (within_trans hm (by decide))
    | refine keeps_pair (by assumption) ?_
    | split

theorem State.linkAnswer_keeps {p d} (h : Keeps m s0 s) (hm : within [.ring] m = true) : Keeps m s0 (State.linkAnswer p d s) := by
  unfold State.linkAnswer
  try dsimp only
  repeat' with_reducible first
    | exact h
    | refine keeps_ite (fun _ => ?_) (fun _ => ?_)
    | refine State.onRing_keeps ?_ (within_trans hm (by decide))
    | refine keeps_pair (by assumption) ?_
    | split

theorem State.ringForward_keeps {p ok d} (h : Keeps m s0 s) (hm : within [.ring, .tim] m = true) : Keeps m s0 (State.ringForward p ok d s) := by
  unfold State.ringForward
  try dsimp only
  repeat' with_reducible first
    | exact h
    | refine keeps_ite (fun _ => ?_) (fun _ => ?_)
    | refine State.ringSend_keeps ?_ (within_trans hm (by decide))
    | refine State.stampSend_keeps ?_ (within_trans hm (by decide))
    | refine keeps_pair (by assumption) ?_
    | split

theorem State.hearCommit_keeps {d} (h : Keeps m s0 s) (hm : within [.ring] m = true) : Keeps m s0 (State.hearCommit d s) := by
  unfold State.hearCommit
  try dsimp only
  repeat' with_reducible first
    | exact h
    | refine keeps_ite (fun _ => ?_) (fun _ => ?_)
    | refine State.onRing_keeps ?_ (within_trans hm (by decide))
    | refine keeps_pair (by assumption) ?_
    | split

theorem State.memberFrame_keeps {p ok d f g} (hg : ∀ t, Keeps m s0 t → Keeps m s0 (g t)) (h : Keeps m s0 s) (hm : within [.reg .rng, .reg .err, .log, .ring, .tim] m = true) :
    Keeps m s0 (s.memberFrame p ok d f g) := by
  unfold State.memberFrame
  dsimp only
  repeat' with_reducible first
    | exact h
    | exact hg _ h
    | refine hg _ ?_
    | refine keeps_ite (fun _ => ?_) (fun _ => ?_)
    | refine State.ringForward_keeps ?_ (within_trans hm (by decide))
    | refine State.linkAnswer_keeps ?_ (within_trans hm (by decide))
    | refine State.hearCommit_keeps ?_ (within_trans hm (by decide))
    | refine State.satBump_keeps (by first | exact RNG_ERR_FCS_blk ..) ?_ (within_trans hm (by decide))
    | refine State.takeBuf_keeps ?_ (within_trans hm (by decide))

theorem State.masterFrame_keeps {p ok d} (h : Keeps m s0 s) (hm : within [.reg .rng, .reg .err, .log, .ring] m = true) : Keeps m s0 (State.masterFrame p ok d s).2 := by
  unfold State.masterFrame
  try dsimp only
  repeat' with_reducible first
    | exact h
    | refine keeps_ite (fun _ => ?_) (fun _ => ?_)
    | refine State.takeBuf_keeps ?_ (within_trans hm (by decide))
    | refine State.satBump_keeps (by first | exact RNG_ERR_FCS_blk ..) ?_ (within_trans hm (by decide))
    | refine State.linkAnswer_keeps ?_ (within_trans hm (by decide))
    | refine keeps_pair (by assumption) ?_
    | split

theorem State.ringState_keeps {v} (h : Keeps m s0 s) (hm : within [.reg .rng, .ring] m = true) : Keeps m s0 (State.ringState v s) := by
  unfold State.ringState
  try dsimp only
  repeat' with_reducible first
    | exact h
    | refine keeps_ite (fun _ => ?_) (fun _ => ?_)
    | refine State.put_keeps (by first | exact RNG_ST_CRUN_blk .. | exact RNG_ST_STATE_blk .. | (refine blk_ite ?_ ?_ <;> first | exact RNG_ST_CRUN_blk .. | exact RNG_ST_STATE_blk ..)) ?_ (within_trans hm (by decide))
    | refine State.onRing_keeps ?_ (within_trans hm (by decide))
    | refine keeps_pair (by assumption) ?_
    | split

theorem State.linkUp_keeps {p} (h : Keeps m s0 s) (hm : within [.reg .rng, .reg .err, .fresh, .ring] m = true) : Keeps m s0 (State.linkUp p s) := by
  unfold State.linkUp
  try dsimp only
  repeat' with_reducible first
    | exact h
    | refine keeps_ite (fun _ => ?_) (fun _ => ?_)
    | refine State.drew_keeps ?_ (within_trans hm (by decide))
    | refine State.wr_keeps (by first | exact PWR_ISL_STATE_blk .. | exact RNG_FWD_blk .. | exact whole_blk (RNG_FWD_blk ..) | exact RNG_ST_PA_blk .. | exact RNG_ST_PB_blk .. | (refine blk_ite ?_ ?_ <;> first | exact PWR_ISL_STATE_blk .. | exact RNG_FWD_blk .. | exact whole_blk (RNG_FWD_blk ..) | exact RNG_ST_PA_blk .. | exact RNG_ST_PB_blk ..)) ?_ (within_trans hm (by decide))
    | refine State.mark_keeps (by first | exact PWR_ISL_STATE_blk .. | exact RNG_FWD_blk .. | exact whole_blk (RNG_FWD_blk ..) | exact RNG_ST_PA_blk .. | exact RNG_ST_PB_blk .. | (refine blk_ite ?_ ?_ <;> first | exact PWR_ISL_STATE_blk .. | exact RNG_FWD_blk .. | exact whole_blk (RNG_FWD_blk ..) | exact RNG_ST_PA_blk .. | exact RNG_ST_PB_blk ..)) ?_ (within_trans hm (by decide))
    | refine State.put_keeps (by first | exact PWR_ISL_STATE_blk .. | exact RNG_FWD_blk .. | exact whole_blk (RNG_FWD_blk ..) | exact RNG_ST_PA_blk .. | exact RNG_ST_PB_blk .. | (refine blk_ite ?_ ?_ <;> first | exact PWR_ISL_STATE_blk .. | exact RNG_FWD_blk .. | exact whole_blk (RNG_FWD_blk ..) | exact RNG_ST_PA_blk .. | exact RNG_ST_PB_blk ..)) ?_ (within_trans hm (by decide))
    | refine State.onRing_keeps ?_ (within_trans hm (by decide))
    | refine State.ringState_keeps ?_ (within_trans hm (by decide))
    | refine keeps_pair (by assumption) ?_
    | split

theorem State.linkDown_keeps {p} (h : Keeps m s0 s) (hm : within [.reg .rng, .ring] m = true) : Keeps m s0 (State.linkDown p s) := by
  unfold State.linkDown
  try dsimp only
  repeat' with_reducible first
    | exact h
    | refine keeps_ite (fun _ => ?_) (fun _ => ?_)
    | refine State.mark_keeps (by first | exact RNG_ST_PA_blk .. | exact RNG_ST_PB_blk .. | (refine blk_ite ?_ ?_ <;> first | exact RNG_ST_PA_blk .. | exact RNG_ST_PB_blk ..)) ?_ (within_trans hm (by decide))
    | refine State.ringState_keeps ?_ (within_trans hm (by decide))
    | refine State.onRing_keeps ?_ (within_trans hm (by decide))
    | refine keeps_pair (by assumption) ?_
    | split

theorem State.ringWithdraw_keeps (h : Keeps m s0 s) (hm : within [.reg .rng, .ring] m = true) : Keeps m s0 (State.ringWithdraw s) := by
  unfold State.ringWithdraw
  try dsimp only
  repeat' with_reducible first
    | exact h
    | refine keeps_ite (fun _ => ?_) (fun _ => ?_)
    | refine State.mark_keeps (by first | exact RNG_ST_BYP_blk .. | exact RNG_ST_READY_blk .. | (refine blk_ite ?_ ?_ <;> first | exact RNG_ST_BYP_blk .. | exact RNG_ST_READY_blk ..)) ?_ (within_trans hm (by decide))
    | refine State.linkDown_keeps ?_ (within_trans hm (by decide))
    | refine keeps_pair (by assumption) ?_
    | split

theorem State.ringReady_keeps (h : Keeps m s0 s) (hm : within [.reg .rng] m = true) : Keeps m s0 (State.ringReady s) := by
  unfold State.ringReady
  try dsimp only
  repeat' with_reducible first
    | exact h
    | refine keeps_ite (fun _ => ?_) (fun _ => ?_)
    | refine State.mark_keeps (by first | exact RNG_ST_READY_blk ..) ?_ (within_trans hm (by decide))
    | refine keeps_pair (by assumption) ?_
    | split

theorem State.svRequest_keeps {m' mtype data} (h : Keeps m s0 s) (hm : within [.ring] m = true) : Keeps m s0 (State.svRequest m' mtype data s) := by
  unfold State.svRequest
  try dsimp only
  repeat' with_reducible first
    | exact h
    | refine keeps_ite (fun _ => ?_) (fun _ => ?_)
    | refine State.onRingMem_keeps ?_ (within_trans hm (by decide))
    | refine State.onRing_keeps ?_ (within_trans hm (by decide))
    | refine keeps_pair (by assumption) ?_
    | split

theorem State.askIdent_keeps {m'} (h : Keeps m s0 s) (hm : within [.ring] m = true) : Keeps m s0 (State.askIdent m' s) := by
  unfold State.askIdent
  try dsimp only
  repeat' with_reducible first
    | exact h
    | refine keeps_ite (fun _ => ?_) (fun _ => ?_)
    | refine State.svRequest_keeps ?_ (within_trans hm (by decide))
    | refine keeps_pair (by assumption) ?_
    | split

theorem State.sendBlock_keeps {m' n stage} (h : Keeps m s0 s) (hm : within [.ring] m = true) : Keeps m s0 (State.sendBlock m' n stage s) := by
  unfold State.sendBlock
  try dsimp only
  repeat' with_reducible first
    | exact h
    | refine keeps_ite (fun _ => ?_) (fun _ => ?_)
    | refine State.onRingMem_keeps ?_ (within_trans hm (by decide))
    | refine State.svRequest_keeps ?_ (within_trans hm (by decide))
    | refine keeps_pair (by assumption) ?_
    | split

theorem State.quarantineAxis_keeps {n} (h : Keeps m s0 s) (hm : within [.reg .prf, .reg .eng, .reg .fbk, .reg .knl, .reg .que, .reg .err, .sets, .bulk, .log, .knl, .que, .axes, .prf, .probes] m = true) : Keeps m s0 (State.quarantineAxis n s) := by
  unfold State.quarantineAxis
  try dsimp only
  repeat' with_reducible first
    | exact h
    | refine keeps_ite (fun _ => ?_) (fun _ => ?_)
    | refine State.onAxis_keeps ?_ (within_trans hm (by decide))
    | refine State.enter_keeps ?_ (within_trans hm (by decide))
    | refine State.masterLost_keeps ?_ (within_trans hm (by decide))
    | refine State.dropMotion_keeps ?_ (within_trans hm (by decide))
    | refine keeps_pair (by assumption) ?_
    | split

theorem State.quarantine_keeps {m' why} (h : Keeps m s0 s) (hm : within [.reg .prf, .reg .eng, .reg .fbk, .reg .knl, .reg .que, .reg .rng, .reg .err, .sets, .bulk, .log, .knl, .que, .axes, .prf, .probes, .ring] m = true) : Keeps m s0 (State.quarantine m' why s) := by
  unfold State.quarantine
  try dsimp only
  repeat' with_reducible first
    | exact h
    | refine keeps_ite (fun _ => ?_) (fun _ => ?_)
    | refine State.put_keeps (by first | exact RNG_MST_QR_blk .. | exact RNG_MST_STATE_blk .. | (refine blk_ite ?_ ?_ <;> first | exact RNG_MST_QR_blk .. | exact RNG_MST_STATE_blk ..)) ?_ (within_trans hm (by decide))
    | refine State.onRingMem_keeps ?_ (within_trans hm (by decide))
    | refine State.quarantineAxis_keeps ?_ (within_trans hm (by decide))
    | refine keeps_foldl ?_ _ ?_
    | refine keeps_foldl_snd ?_ _ ?_
    | (intro _ _ h; try dsimp only)
    | refine keeps_pair (by assumption) ?_
    | split

theorem State.memberRun_keeps {m'} (h : Keeps m s0 s) (hm : within [.reg .prf, .reg .eng, .reg .csf, .reg .fbk, .reg .pwm, .reg .knl, .reg .que, .reg .rng, .reg .dio, .reg .err, .sets, .bulk, .log, .knl, .que, .axes, .prf, .pwm, .probes] m = true) : Keeps m s0 (State.memberRun m' s) := by
  unfold State.memberRun
  try dsimp only
  repeat' with_reducible first
    | exact h
    | refine keeps_ite (fun _ => ?_) (fun _ => ?_)
    | refine State.put_keeps (by first | exact PRF_AXST_CAUSE_blk .. | exact PRF_AXST_FCNT_blk .. | exact PRF_AXST_REACT_blk .. | exact PRF_AXST_STOPTO_blk .. | exact RNG_MST_QR_blk .. | exact RNG_MST_STATE_blk .. | (refine blk_ite ?_ ?_ <;> first | exact PRF_AXST_CAUSE_blk .. | exact PRF_AXST_FCNT_blk .. | exact PRF_AXST_REACT_blk .. | exact PRF_AXST_STOPTO_blk .. | exact RNG_MST_QR_blk .. | exact RNG_MST_STATE_blk ..)) ?_ (within_trans hm (by decide))
    | refine State.onAxis_keeps ?_ (within_trans hm (by decide))
    | refine State.mark_keeps (by first | exact PRF_AXST_CAUSE_blk .. | exact PRF_AXST_FCNT_blk .. | exact PRF_AXST_REACT_blk .. | exact PRF_AXST_STOPTO_blk .. | exact RNG_MST_QR_blk .. | exact RNG_MST_STATE_blk .. | (refine blk_ite ?_ ?_ <;> first | exact PRF_AXST_CAUSE_blk .. | exact PRF_AXST_FCNT_blk .. | exact PRF_AXST_REACT_blk .. | exact PRF_AXST_STOPTO_blk .. | exact RNG_MST_QR_blk .. | exact RNG_MST_STATE_blk ..)) ?_ (within_trans hm (by decide))
    | refine State.toDisabled_keeps ?_ (within_trans hm (by decide))
    | refine keeps_foldl ?_ _ ?_
    | refine keeps_foldl_snd ?_ _ ?_
    | (intro _ _ h; try dsimp only)
    | refine keeps_pair (by assumption) ?_
    | split

theorem State.memberParam_keeps {m'} (h : Keeps m s0 s) (hm : within [.reg .rng, .axes, .ring] m = true) : Keeps m s0 (State.memberParam m' s) := by
  unfold State.memberParam
  try dsimp only
  repeat' with_reducible first
    | exact h
    | refine keeps_ite (fun _ => ?_) (fun _ => ?_)
    | refine State.put_keeps (by first | exact RNG_MST_QR_blk .. | exact RNG_MST_STATE_blk .. | (refine blk_ite ?_ ?_ <;> first | exact RNG_MST_QR_blk .. | exact RNG_MST_STATE_blk ..)) ?_ (within_trans hm (by decide))
    | refine State.onRingMem_keeps ?_ (within_trans hm (by decide))
    | refine State.onAxis_keeps ?_ (within_trans hm (by decide))
    | refine State.sendBlock_keeps ?_ (within_trans hm (by decide))
    | refine keeps_foldl ?_ _ ?_
    | refine keeps_foldl_snd ?_ _ ?_
    | (intro _ _ h; try dsimp only)
    | refine keeps_pair (by assumption) ?_
    | split

theorem State.memberLost_keeps {m'} (h : Keeps m s0 s) (hm : within [.reg .prf, .reg .eng, .reg .csf, .reg .fbk, .reg .pwm, .reg .knl, .reg .que, .reg .acq, .reg .rng, .reg .dio, .reg .err, .sets, .bulk, .log, .knl, .que, .axes, .prf, .pwm, .drn, .probes, .acq, .ring] m = true) : Keeps m s0 (State.memberLost m' s) := by
  unfold State.memberLost
  try dsimp only
  repeat' with_reducible first
    | exact h
    | refine keeps_ite (fun _ => ?_) (fun _ => ?_)
    | refine State.put_keeps (by first | exact RNG_MST_QR_blk .. | exact RNG_MST_STATE_blk .. | (refine blk_ite ?_ ?_ <;> first | exact RNG_MST_QR_blk .. | exact RNG_MST_STATE_blk ..)) ?_ (within_trans hm (by decide))
    | refine State.onRingMem_keeps ?_ (within_trans hm (by decide))
    | refine State.fault_keeps ?_ (within_trans hm (by decide))
    | refine keeps_foldl ?_ _ ?_
    | refine keeps_foldl_snd ?_ _ ?_
    | (intro _ _ h; try dsimp only)
    | refine keeps_pair (by assumption) ?_
    | split

theorem State.blockTimeout_keeps {m'} (h : Keeps m s0 s) (hm : within [.reg .prf, .reg .eng, .reg .fbk, .reg .knl, .reg .que, .reg .rng, .reg .err, .sets, .bulk, .log, .knl, .que, .axes, .prf, .probes, .ring] m = true) : Keeps m s0 (State.blockTimeout m' s) := by
  unfold State.blockTimeout
  try dsimp only
  repeat' with_reducible first
    | exact h
    | refine keeps_ite (fun _ => ?_) (fun _ => ?_)
    | refine State.quarantine_keeps ?_ (within_trans hm (by decide))
    | refine keeps_pair (by assumption) ?_
    | split

theorem State.reparam_keeps {who m'} (h : Keeps m s0 s) (hm : within [.reg .rng, .reg .err, .bus, .log, .axes, .ring] m = true) : Keeps m s0 (State.reparam who m' s) := by
  unfold State.reparam
  try dsimp only
  repeat' with_reducible first
    | exact h
    | refine keeps_ite (fun _ => ?_) (fun _ => ?_)
    | refine State.memberParam_keeps ?_ (within_trans hm (by decide))
    | refine State.accessError_keeps ?_ (within_trans hm (by decide))
    | refine keeps_pair (by assumption) ?_
    | split

theorem State.svRelease_keeps {b} (h : Keeps m s0 s) (hm : within [.reg .rng, .ring] m = true) : Keeps m s0 (State.svRelease b s) := by
  unfold State.svRelease
  try dsimp only
  repeat' with_reducible first
    | exact h
    | refine keeps_ite (fun _ => ?_) (fun _ => ?_)
    | refine State.onRing_keeps ?_ (within_trans hm (by decide))
    | refine State.put_keeps (by first | exact RNG_SVQ_FREE_blk ..) ?_ (within_trans hm (by decide))
    | refine keeps_pair (by assumption) ?_
    | split

theorem State.svDeliver_keeps {mtype src bytes} (h : Keeps m s0 s) (hm : within [.reg .knl, .reg .que, .reg .rng, .reg .err, .fresh, .sets, .bulk, .log, .knl, .que, .ring] m = true) : Keeps m s0 (State.svDeliver mtype src bytes s).2 := by
  unfold State.svDeliver
  try dsimp only
  repeat' with_reducible first
    | exact h
    | refine keeps_ite (fun _ => ?_) (fun _ => ?_)
    | refine State.drew_keeps ?_ (within_trans hm (by decide))
    | refine State.lose_keeps (by first | exact RNG_SVQ_FREE_blk .. | exact RNG_SVQ_LOST_blk .. | (refine blk_ite ?_ ?_ <;> first | exact RNG_SVQ_FREE_blk .. | exact RNG_SVQ_LOST_blk ..)) ?_ (within_trans hm (by decide))
    | refine State.bulkStore_keeps ?_ (within_trans hm (by decide))
    | refine State.tryPush_keeps ?_ (within_trans hm (by decide))
    | refine State.onRing_keeps ?_ (within_trans hm (by decide))
    | refine State.event_keeps ?_ (within_trans hm (by decide))
    | refine State.put_keeps (by first | exact RNG_SVQ_FREE_blk .. | exact RNG_SVQ_LOST_blk .. | (refine blk_ite ?_ ?_ <;> first | exact RNG_SVQ_FREE_blk .. | exact RNG_SVQ_LOST_blk ..)) ?_ (within_trans hm (by decide))
    | refine keeps_pair (by assumption) ?_
    | split

theorem State.foreignFrame_keeps {p etype src} (h : Keeps m s0 s) (hm : within [.reg .rng, .reg .err, .log] m = true) : Keeps m s0 (State.foreignFrame p etype src s) := by
  unfold State.foreignFrame
  try dsimp only
  repeat' with_reducible first
    | exact h
    | refine keeps_ite (fun _ => ?_) (fun _ => ?_)
    | refine State.satBump_keeps (by first | exact RNG_ERR_FOREIGN_blk ..) ?_ (within_trans hm (by decide))
    | refine State.severe_keeps ?_ (within_trans hm (by decide))
    | refine keeps_pair (by assumption) ?_
    | split

theorem execLinkUp_keeps {dt p} {t} (e : execLinkUp dt p s = .next t) : Keeps [.reg .rng, .reg .err, .fresh, .sets, .clk, .ring] s t := by
  have hm := within_refl [.reg .rng, .reg .err, .fresh, .sets, .clk, .ring]
  have h := Keeps.refl [.reg .rng, .reg .err, .fresh, .sets, .clk, .ring] s
  simp only [execLinkUp, Host.Outcome.next.injEq] at e
  subst e
  repeat' with_reducible first
    | exact h
    | refine keeps_ite (fun _ => ?_) (fun _ => ?_)
    | refine State.linkUp_keeps ?_ (within_trans hm (by decide))
    | refine State.elapse_keeps ?_ (within_trans hm (by decide))
    | refine keeps_pair (by assumption) ?_
    | split

theorem execLinkDown_keeps {dt p} {t} (e : execLinkDown dt p s = .next t) : Keeps [.reg .rng, .sets, .clk, .ring] s t := by
  have hm := within_refl [.reg .rng, .sets, .clk, .ring]
  have h := Keeps.refl [.reg .rng, .sets, .clk, .ring] s
  simp only [execLinkDown, Host.Outcome.next.injEq] at e
  subst e
  repeat' with_reducible first
    | exact h
    | refine keeps_ite (fun _ => ?_) (fun _ => ?_)
    | refine State.linkDown_keeps ?_ (within_trans hm (by decide))
    | refine State.elapse_keeps ?_ (within_trans hm (by decide))
    | refine keeps_pair (by assumption) ?_
    | split

theorem execForeignFrame_keeps {dt p etype src} {t} (e : execForeignFrame dt p etype src s = .next t) : Keeps [.reg .rng, .reg .err, .sets, .clk, .log] s t := by
  have hm := within_refl [.reg .rng, .reg .err, .sets, .clk, .log]
  have h := Keeps.refl [.reg .rng, .reg .err, .sets, .clk, .log] s
  simp only [execForeignFrame, Host.Outcome.next.injEq] at e
  subst e
  repeat' with_reducible first
    | exact h
    | refine keeps_ite (fun _ => ?_) (fun _ => ?_)
    | refine State.foreignFrame_keeps ?_ (within_trans hm (by decide))
    | refine State.elapse_keeps ?_ (within_trans hm (by decide))
    | refine keeps_pair (by assumption) ?_
    | split

theorem execSvrel_keeps {dt b} {t} (e : execSvrel dt b s = .next t) : Keeps [.reg .rng, .sets, .clk, .ring] s t := by
  have hm := within_refl [.reg .rng, .sets, .clk, .ring]
  have h := Keeps.refl [.reg .rng, .sets, .clk, .ring] s
  simp only [execSvrel, Host.Outcome.next.injEq] at e
  subst e
  repeat' with_reducible first
    | exact h
    | refine keeps_ite (fun _ => ?_) (fun _ => ?_)
    | refine State.svRelease_keeps ?_ (within_trans hm (by decide))
    | refine State.elapse_keeps ?_ (within_trans hm (by decide))
    | refine keeps_pair (by assumption) ?_
    | split

theorem execMemberLost_keeps {dt m'} {t} (e : execMemberLost dt m' s = .next t) : Keeps [.reg .prf, .reg .eng, .reg .csf, .reg .fbk, .reg .pwm, .reg .knl, .reg .que, .reg .acq, .reg .rng, .reg .dio, .reg .err, .sets, .clk, .bulk, .log, .knl, .que, .axes, .prf, .pwm, .drn, .probes, .acq, .ring] s t := by
  have hm := within_refl [.reg .prf, .reg .eng, .reg .csf, .reg .fbk, .reg .pwm, .reg .knl, .reg .que, .reg .acq, .reg .rng, .reg .dio, .reg .err, .sets, .clk, .bulk, .log, .knl, .que, .axes, .prf, .pwm, .drn, .probes, .acq, .ring]
  have h := Keeps.refl [.reg .prf, .reg .eng, .reg .csf, .reg .fbk, .reg .pwm, .reg .knl, .reg .que, .reg .acq, .reg .rng, .reg .dio, .reg .err, .sets, .clk, .bulk, .log, .knl, .que, .axes, .prf, .pwm, .drn, .probes, .acq, .ring] s
  simp only [execMemberLost, Host.Outcome.next.injEq] at e
  subst e
  repeat' with_reducible first
    | exact h
    | refine keeps_ite (fun _ => ?_) (fun _ => ?_)
    | refine State.memberLost_keeps ?_ (within_trans hm (by decide))
    | refine State.elapse_keeps ?_ (within_trans hm (by decide))
    | refine keeps_pair (by assumption) ?_
    | split

theorem execParamAckTimeout_keeps {dt m'} {t} (e : execParamAckTimeout dt m' s = .next t) : Keeps [.reg .prf, .reg .eng, .reg .fbk, .reg .knl, .reg .que, .reg .rng, .reg .err, .sets, .clk, .bulk, .log, .knl, .que, .axes, .prf, .probes, .ring] s t := by
  have hm := within_refl [.reg .prf, .reg .eng, .reg .fbk, .reg .knl, .reg .que, .reg .rng, .reg .err, .sets, .clk, .bulk, .log, .knl, .que, .axes, .prf, .probes, .ring]
  have h := Keeps.refl [.reg .prf, .reg .eng, .reg .fbk, .reg .knl, .reg .que, .reg .rng, .reg .err, .sets, .clk, .bulk, .log, .knl, .que, .axes, .prf, .probes, .ring] s
  simp only [execParamAckTimeout, Host.Outcome.next.injEq] at e
  subst e
  repeat' with_reducible first
    | exact h
    | refine keeps_ite (fun _ => ?_) (fun _ => ?_)
    | refine State.blockTimeout_keeps ?_ (within_trans hm (by decide))
    | refine State.elapse_keeps ?_ (within_trans hm (by decide))
    | refine keeps_pair (by assumption) ?_
    | split

theorem execLeave_keeps {dt} {t} (e : execLeave dt s = .next t) : Keeps [.reg .rng, .sets, .clk, .ring] s t := by
  have hm := within_refl [.reg .rng, .sets, .clk, .ring]
  have h := Keeps.refl [.reg .rng, .sets, .clk, .ring] s
  simp only [execLeave, Host.Outcome.next.injEq] at e
  subst e
  repeat' with_reducible first
    | exact h
    | refine keeps_ite (fun _ => ?_) (fun _ => ?_)
    | refine State.ringWithdraw_keeps ?_ (within_trans hm (by decide))
    | refine State.elapse_keeps ?_ (within_trans hm (by decide))
    | refine keeps_pair (by assumption) ?_
    | split

theorem execReparam_keeps {dt who m'} {t} (e : execReparam dt who m' s = .next t) : Keeps [.reg .rng, .reg .err, .sets, .clk, .bus, .log, .axes, .ring] s t := by
  have hm := within_refl [.reg .rng, .reg .err, .sets, .clk, .bus, .log, .axes, .ring]
  have h := Keeps.refl [.reg .rng, .reg .err, .sets, .clk, .bus, .log, .axes, .ring] s
  simp only [execReparam, Host.Outcome.next.injEq] at e
  subst e
  repeat' with_reducible first
    | exact h
    | refine keeps_ite (fun _ => ?_) (fun _ => ?_)
    | refine State.reparam_keeps ?_ (within_trans hm (by decide))
    | refine State.elapse_keeps ?_ (within_trans hm (by decide))
    | refine keeps_pair (by assumption) ?_
    | split

theorem execRingClockLoss_keeps {dt lost} {t} (e : execRingClockLoss dt lost s = .next t) : Keeps [.reg .rng, .sets, .clk, .ring] s t := by
  have hm := within_refl [.reg .rng, .sets, .clk, .ring]
  have h := Keeps.refl [.reg .rng, .sets, .clk, .ring] s
  simp only [execRingClockLoss, Host.Outcome.next.injEq] at e
  subst e
  repeat' with_reducible first
    | exact h
    | refine keeps_ite (fun _ => ?_) (fun _ => ?_)
    | refine State.onRing_keeps ?_ (within_trans hm (by decide))
    | refine State.elapse_keeps ?_ (within_trans hm (by decide))
    | refine State.ringWithdraw_keeps ?_ (within_trans hm (by decide))
    | refine keeps_pair (by assumption) ?_
    | split

/-! ### RingCycle -/

theorem State.memberReq_keeps {k n q req} (h : Keeps m s0 s) (hm : within [.reg .prf, .reg .eng, .reg .csf, .reg .fbk, .reg .pwm, .reg .knl, .reg .que, .reg .dio, .reg .err, .sets, .bulk, .log, .knl, .que, .axes, .prf, .eng, .pwm, .drn, .shp, .csf, .ports, .probes, .ring] m = true) : Keeps m s0 (State.memberReq k n q req s) := by
  unfold State.memberReq
  try dsimp only
  repeat' with_reducible first
    | exact h
    | refine keeps_ite (fun _ => ?_) (fun _ => ?_)
    | refine State.onRing_keeps ?_ (within_trans hm (by decide))
    | refine State.axisRequests_keeps ?_ (within_trans hm (by decide))
    | refine keeps_pair (by assumption) ?_
    | split

theorem State.memberRecord_keeps {r act new k} (h : Keeps m s0 s) (hm : within [.reg .prf, .reg .eng, .reg .csf, .reg .fbk, .reg .pwm, .reg .knl, .reg .que, .reg .dio, .reg .err, .sets, .bulk, .log, .knl, .que, .axes, .prf, .eng, .pwm, .drn, .shp, .csf, .ports, .probes, .ring] m = true) : Keeps m s0 (State.memberRecord r act new k s) := by
  unfold State.memberRecord
  try dsimp only
  repeat' with_reducible first
    | exact h
    | refine keeps_ite (fun _ => ?_) (fun _ => ?_)
    | refine State.onAxis_keeps ?_ (within_trans hm (by decide))
    | refine State.onRing_keeps ?_ (within_trans hm (by decide))
    | refine State.memberReq_keeps ?_ (within_trans hm (by decide))
    | refine State.requestDisable_keeps ?_ (within_trans hm (by decide))
    | refine keeps_pair (by assumption) ?_
    | split

theorem State.memberApply_keeps {d} (h : Keeps m s0 s) (hm : within [.reg .prf, .reg .eng, .reg .csf, .reg .fbk, .reg .pwm, .reg .knl, .reg .que, .reg .rng, .reg .tim, .reg .dio, .reg .err, .fresh, .sets, .clk, .bulk, .log, .knl, .que, .axes, .lim, .prf, .eng, .pwm, .drn, .shp, .csf, .ports, .probes, .ring, .tim] m = true) : Keeps m s0 (State.memberApply d s) := by
  unfold State.memberApply
  try dsimp only
  repeat' with_reducible first
    | exact h
    | refine keeps_ite (fun _ => ?_) (fun _ => ?_)
    | refine State.wr_keeps (by first | exact RNG_CYCNT_blk .. | exact whole_blk (RNG_CYCNT_blk ..)) ?_ (within_trans hm (by decide))
    | refine State.ringSample_keeps ?_ (within_trans hm (by decide))
    | refine State.onRing_keeps ?_ (within_trans hm (by decide))
    | refine State.memberRecord_keeps ?_ (within_trans hm (by decide))
    | refine keeps_foldl ?_ _ ?_
    | refine keeps_foldl_snd ?_ _ ?_
    | (intro _ _ h; try dsimp only)
    | refine keeps_pair (by assumption) ?_
    | split

theorem State.latchInput_keeps {k} (h : Keeps m s0 s) (hm : within [.fresh, .ring] m = true) : Keeps m s0 (State.latchInput k s) := by
  unfold State.latchInput
  try dsimp only
  repeat' with_reducible first
    | exact h
    | refine keeps_ite (fun _ => ?_) (fun _ => ?_)
    | refine State.onRing_keeps ?_ (within_trans hm (by decide))
    | refine State.drew_keeps ?_ (within_trans hm (by decide))
    | refine keeps_pair (by assumption) ?_
    | split

theorem State.ringSetPoint_keeps {k} (h : Keeps m s0 s) (hm : within [.reg .lsh, .reg .prf, .reg .eng, .reg .knl, .reg .err, .sets, .log, .knl, .axes, .prf] m = true) : Keeps m s0 (State.ringSetPoint k s) := by
  unfold State.ringSetPoint
  try dsimp only
  repeat' with_reducible first
    | exact h
    | refine keeps_ite (fun _ => ?_) (fun _ => ?_)
    | refine State.onMot_keeps ?_ (within_trans hm (by decide))
    | refine State.enter_keeps ?_ (within_trans hm (by decide))
    | refine State.leashSet_keeps ?_ (within_trans hm (by decide))
    | refine State.wr64S_keeps (by first | exact PRF_SPOS_blk .. | exact whole_blk (PRF_SPOS_blk ..) | exact PRF_SVEL_blk .. | exact whole_blk (PRF_SVEL_blk ..) | (refine blk_ite ?_ ?_ <;> first | exact PRF_SPOS_blk .. | exact whole_blk (PRF_SPOS_blk ..) | exact PRF_SVEL_blk .. | exact whole_blk (PRF_SVEL_blk ..))) ?_ (within_trans hm (by decide))
    | refine keeps_pair (by assumption) ?_
    | split

theorem State.putBlock_keeps {k n b} (h : Keeps m s0 s) (hm : within [.reg .lsh, .reg .prf, .reg .eng, .reg .csf, .reg .pwm, .reg .rng, .reg .err, .fresh, .sets, .bulk, .log, .axes, .eng, .pwm, .drn, .ine, .shp, .ring] m = true) : Keeps m s0 (State.putBlock k n b s) := by
  unfold State.putBlock
  try dsimp only
  repeat' with_reducible first
    | exact h
    | refine keeps_ite (fun _ => ?_) (fun _ => ?_)
    | refine State.switchCaches_keeps ?_ (within_trans hm (by decide))
    | refine State.putEntry_keeps ?_ (within_trans hm (by decide))
    | refine State.bulkStore_keeps ?_ (within_trans hm (by decide))
    | refine State.onRing_keeps ?_ (within_trans hm (by decide))
    | refine keeps_pair (by assumption) ?_
    | split

theorem State.applyStage_keeps (h : Keeps m s0 s) (hm : within [.reg .lsh, .reg .prf, .reg .eng, .reg .csf, .reg .pwm, .reg .rng, .reg .err, .fresh, .sets, .bulk, .log, .axes, .eng, .pwm, .drn, .ine, .shp, .ring] m = true) : Keeps m s0 (State.applyStage s) := by
  unfold State.applyStage
  try dsimp only
  repeat' with_reducible first
    | exact h
    | refine keeps_ite (fun _ => ?_) (fun _ => ?_)
    | refine State.onRing_keeps ?_ (within_trans hm (by decide))
    | refine State.putBlock_keeps ?_ (within_trans hm (by decide))
    | refine keeps_foldl ?_ _ ?_
    | refine keeps_foldl_snd ?_ _ ?_
    | (intro _ _ h; try dsimp only)
    | refine keeps_pair (by assumption) ?_
    | split

theorem State.memberBoundary_keeps (h : Keeps m s0 s) (hm : within [.reg .lsh, .reg .prf, .reg .eng, .reg .csf, .reg .pwm, .reg .knl, .reg .rng, .reg .err, .fresh, .sets, .bulk, .log, .knl, .axes, .prf, .eng, .pwm, .drn, .ine, .shp, .ring] m = true) : Keeps m s0 (State.memberBoundary s) := by
  unfold State.memberBoundary
  try dsimp only
  repeat' with_reducible first
    | exact h
    | refine keeps_ite (fun _ => ?_) (fun _ => ?_)
    | refine State.onRing_keeps ?_ (within_trans hm (by decide))
    | refine State.applyStage_keeps ?_ (within_trans hm (by decide))
    | refine State.ringSetPoint_keeps ?_ (within_trans hm (by decide))
    | refine State.mappedStep_keeps ?_ (within_trans hm (by decide))
    | refine State.latchInput_keeps ?_ (within_trans hm (by decide))
    | refine keeps_foldl ?_ _ ?_
    | refine keeps_foldl_snd ?_ _ ?_
    | (intro _ _ h; try dsimp only)
    | refine keeps_pair (by assumption) ?_
    | split

theorem State.ringLoss_keeps (h : Keeps m s0 s) (hm : within [.reg .prf, .reg .eng, .reg .csf, .reg .fbk, .reg .pwm, .reg .knl, .reg .que, .reg .acq, .reg .dio, .reg .err, .sets, .bulk, .log, .knl, .que, .axes, .prf, .pwm, .drn, .probes, .acq, .ring] m = true) : Keeps m s0 (State.ringLoss s) := by
  unfold State.ringLoss
  try dsimp only
  repeat' with_reducible first
    | exact h
    | refine keeps_ite (fun _ => ?_) (fun _ => ?_)
    | refine State.onRing_keeps ?_ (within_trans hm (by decide))
    | refine State.fault_keeps ?_ (within_trans hm (by decide))
    | refine keeps_foldl ?_ _ ?_
    | refine keeps_foldl_snd ?_ _ ?_
    | (intro _ _ h; try dsimp only)
    | refine keeps_pair (by assumption) ?_
    | split

theorem State.nextReq_keeps {n} (h : Keeps m s0 s) (hm : within [.axes, .ring] m = true) : Keeps m s0 (State.nextReq n s) := by
  unfold State.nextReq
  try dsimp only
  repeat' with_reducible first
    | exact h
    | refine keeps_ite (fun _ => ?_) (fun _ => ?_)
    | refine State.onRing_keeps ?_ (within_trans hm (by decide))
    | refine State.onAxis_keeps ?_ (within_trans hm (by decide))
    | refine keeps_pair (by assumption) ?_
    | split

theorem State.masterSend_keeps {ty fidx b p} (h : Keeps m s0 s) (hm : within [.ring, .tim] m = true) : Keeps m s0 (State.masterSend ty fidx b p s) := by
  unfold State.masterSend
  try dsimp only
  repeat' with_reducible first
    | exact h
    | refine keeps_ite (fun _ => ?_) (fun _ => ?_)
    | refine State.onRing_keeps ?_ (within_trans hm (by decide))
    | refine State.ringSend_keeps ?_ (within_trans hm (by decide))
    | refine State.stampSend_keeps ?_ (within_trans hm (by decide))
    | refine keeps_pair (by assumption) ?_
    | split

theorem State.masterCopies_keeps {ty fidx b} (h : Keeps m s0 s) (hm : within [.ring, .tim] m = true) : Keeps m s0 (State.masterCopies ty fidx b s) := by
  unfold State.masterCopies
  try dsimp only
  repeat' with_reducible first
    | exact h
    | refine keeps_ite (fun _ => ?_) (fun _ => ?_)
    | refine State.masterSend_keeps ?_ (within_trans hm (by decide))
    | refine keeps_foldl ?_ _ ?_
    | refine keeps_foldl_snd ?_ _ ?_
    | (intro _ _ h; try dsimp only)
    | refine keeps_pair (by assumption) ?_
    | split

theorem State.svSend_keeps (h : Keeps m s0 s) (hm : within [.ring, .tim] m = true) : Keeps m s0 (State.svSend s) := by
  unfold State.svSend
  try dsimp only
  repeat' with_reducible first
    | exact h
    | refine keeps_ite (fun _ => ?_) (fun _ => ?_)
    | refine State.masterCopies_keeps ?_ (within_trans hm (by decide))
    | refine State.onRing_keeps ?_ (within_trans hm (by decide))
    | refine State.onRingMem_keeps ?_ (within_trans hm (by decide))
    | refine keeps_getD (fun _ _ => ?_) ?_
    | refine keeps_pair (by assumption) ?_
    | split

theorem State.lastFrame_keeps (h : Keeps m s0 s) (hm : within [.ring, .tim] m = true) : Keeps m s0 (State.lastFrame s) := by
  unfold State.lastFrame
  try dsimp only
  repeat' with_reducible first
    | exact h
    | refine keeps_ite (fun _ => ?_) (fun _ => ?_)
    | refine State.masterCopies_keeps ?_ (within_trans hm (by decide))
    | refine State.onRing_keeps ?_ (within_trans hm (by decide))
    | refine State.masterSend_keeps ?_ (within_trans hm (by decide))
    | refine keeps_pair (by assumption) ?_
    | split

theorem State.sendCycle_keeps (h : Keeps m s0 s) (hm : within [.reg .prf, .reg .eng, .reg .fbk, .reg .knl, .reg .que, .reg .err, .fresh, .sets, .bulk, .log, .knl, .que, .axes, .prf, .probes, .ring, .tim] m = true) : Keeps m s0 (State.sendCycle s) := by
  unfold State.sendCycle
  try dsimp only
  repeat' with_reducible first
    | exact h
    | refine keeps_ite (fun _ => ?_) (fun _ => ?_)
    | refine State.nextReq_keeps ?_ (within_trans hm (by decide))
    | refine State.advance_keeps ?_ (within_trans hm (by decide))
    | refine State.masterCopies_keeps ?_ (within_trans hm (by decide))
    | refine State.onRing_keeps ?_ (within_trans hm (by decide))
    | refine State.lastFrame_keeps ?_ (within_trans hm (by decide))
    | refine State.svSend_keeps ?_ (within_trans hm (by decide))
    | refine keeps_foldl ?_ _ ?_
    | refine keeps_foldl_snd ?_ _ ?_
    | (intro _ _ h; try dsimp only)
    | refine keeps_pair (by assumption) ?_
    | split

theorem State.remoteInput_keeps {n r} (h : Keeps m s0 s) (hm : within [.reg .prf, .reg .eng, .reg .csf, .reg .fbk, .reg .pwm, .reg .knl, .reg .que, .reg .acq, .reg .dio, .reg .err, .sets, .bulk, .log, .knl, .que, .axes, .prf, .pwm, .drn, .probes, .acq] m = true) : Keeps m s0 (State.remoteInput n r s) := by
  unfold State.remoteInput
  try dsimp only
  repeat' with_reducible first
    | exact h
    | refine keeps_ite (fun _ => ?_) (fun _ => ?_)
    | refine State.mark_keeps (by first | exact PRF_AXST_REF_blk ..) ?_ (within_trans hm (by decide))
    | refine State.onAxis_keeps ?_ (within_trans hm (by decide))
    | refine State.fault_keeps ?_ (within_trans hm (by decide))
    | refine State.enter_keeps ?_ (within_trans hm (by decide))
    | refine State.toDisabled_keeps ?_ (within_trans hm (by decide))
    | refine keeps_pair (by assumption) ?_
    | split

theorem State.takeSlice_keeps {d e} (h : Keeps m s0 s) (hm : within [.reg .prf, .reg .eng, .reg .csf, .reg .fbk, .reg .pwm, .reg .knl, .reg .que, .reg .acq, .reg .dio, .reg .err, .sets, .bulk, .log, .knl, .que, .axes, .prf, .eng, .pwm, .drn, .probes, .acq, .ring] m = true) : Keeps m s0 (State.takeSlice d e s) := by
  unfold State.takeSlice
  try dsimp only
  repeat' with_reducible first
    | exact h
    | refine keeps_ite (fun _ => ?_) (fun _ => ?_)
    | refine State.orphanOp_keeps ?_ (within_trans hm (by decide))
    | refine State.onRingMem_keeps ?_ (within_trans hm (by decide))
    | refine State.onRing_keeps ?_ (within_trans hm (by decide))
    | refine State.remoteInput_keeps ?_ (within_trans hm (by decide))
    | refine keeps_foldl ?_ _ ?_
    | refine keeps_foldl_snd ?_ _ ?_
    | (intro _ _ h; try dsimp only)
    | refine keeps_pair (by assumption) ?_
    | split

theorem State.lateSlice_keeps {d e} (h : Keeps m s0 s) (hm : within [.reg .err, .log, .eng] m = true) : Keeps m s0 (State.lateSlice d e s) := by
  unfold State.lateSlice
  try dsimp only
  repeat' with_reducible first
    | exact h
    | refine keeps_ite (fun _ => ?_) (fun _ => ?_)
    | refine State.orphanOp_keeps ?_ (within_trans hm (by decide))
    | refine keeps_pair (by assumption) ?_
    | split

theorem State.cycleReturn_keeps {p d} (h : Keeps m s0 s) (hm : within [.reg .prf, .reg .eng, .reg .csf, .reg .fbk, .reg .pwm, .reg .knl, .reg .que, .reg .acq, .reg .rng, .reg .dio, .reg .err, .sets, .bulk, .log, .knl, .que, .axes, .prf, .eng, .pwm, .drn, .probes, .acq, .ring] m = true) : Keeps m s0 (State.cycleReturn p d s) := by
  unfold State.cycleReturn
  try dsimp only
  repeat' with_reducible first
    | exact h
    | refine keeps_ite (fun _ => ?_) (fun _ => ?_)
    | refine State.lateSlice_keeps ?_ (within_trans hm (by decide))
    | refine State.onRing_keeps ?_ (within_trans hm (by decide))
    | refine State.put_keeps (by first | exact RNG_RTT_blk .. | exact whole_blk (RNG_RTT_blk ..) | exact RNG_ST_HITS_blk .. | (refine blk_ite ?_ ?_ <;> first | exact RNG_RTT_blk .. | exact whole_blk (RNG_RTT_blk ..) | exact RNG_ST_HITS_blk ..)) ?_ (within_trans hm (by decide))
    | refine State.wr_keeps (by first | exact RNG_RTT_blk .. | exact whole_blk (RNG_RTT_blk ..) | exact RNG_ST_HITS_blk .. | (refine blk_ite ?_ ?_ <;> first | exact RNG_RTT_blk .. | exact whole_blk (RNG_RTT_blk ..) | exact RNG_ST_HITS_blk ..)) ?_ (within_trans hm (by decide))
    | refine State.takeSlice_keeps ?_ (within_trans hm (by decide))
    | refine keeps_foldl ?_ _ ?_
    | refine keeps_foldl_snd ?_ _ ?_
    | (intro _ _ h; try dsimp only)
    | refine keeps_pair (by assumption) ?_
    | split

theorem State.closeReturn_keeps {p d} (h : Keeps m s0 s) (hm : within [.reg .rng, .ring] m = true) : Keeps m s0 (State.closeReturn p d s) := by
  unfold State.closeReturn
  try dsimp only
  repeat' with_reducible first
    | exact h
    | refine keeps_ite (fun _ => ?_) (fun _ => ?_)
    | refine State.onRing_keeps ?_ (within_trans hm (by decide))
    | refine State.put_keeps (by first | exact RNG_ST_CRUN_blk ..) ?_ (within_trans hm (by decide))
    | refine keeps_pair (by assumption) ?_
    | split

theorem State.judgeCycle_keeps (h : Keeps m s0 s) (hm : within [.reg .rng, .ring] m = true) : Keeps m s0 (State.judgeCycle s) := by
  unfold State.judgeCycle
  try dsimp only
  repeat' with_reducible first
    | exact h
    | refine keeps_ite (fun _ => ?_) (fun _ => ?_)
    | refine State.put_keeps (by first | exact RNG_MMISS_blk .. | exact whole_blk (RNG_MMISS_blk ..) | exact RNG_MST_MISS_blk .. | exact RNG_ST_CRUN_blk .. | (refine blk_ite ?_ ?_ <;> first | exact RNG_MMISS_blk .. | exact whole_blk (RNG_MMISS_blk ..) | exact RNG_MST_MISS_blk .. | exact RNG_ST_CRUN_blk ..)) ?_ (within_trans hm (by decide))
    | refine State.bump_keeps (by first | exact RNG_MMISS_blk .. | exact whole_blk (RNG_MMISS_blk ..) | exact RNG_MST_MISS_blk .. | exact RNG_ST_CRUN_blk .. | (refine blk_ite ?_ ?_ <;> first | exact RNG_MMISS_blk .. | exact whole_blk (RNG_MMISS_blk ..) | exact RNG_MST_MISS_blk .. | exact RNG_ST_CRUN_blk ..)) ?_ (within_trans hm (by decide))
    | refine State.satBump_keeps (by first | exact RNG_MMISS_blk .. | exact whole_blk (RNG_MMISS_blk ..) | exact RNG_MST_MISS_blk .. | exact RNG_ST_CRUN_blk .. | (refine blk_ite ?_ ?_ <;> first | exact RNG_MMISS_blk .. | exact whole_blk (RNG_MMISS_blk ..) | exact RNG_MST_MISS_blk .. | exact RNG_ST_CRUN_blk ..)) ?_ (within_trans hm (by decide))
    | refine State.onRing_keeps ?_ (within_trans hm (by decide))
    | refine keeps_foldl ?_ _ ?_
    | refine keeps_foldl_snd ?_ _ ?_
    | (intro _ _ h; try dsimp only)
    | refine keeps_pair (by assumption) ?_
    | split

theorem State.ringTurn_keeps (h : Keeps m s0 s) (hm : within [.reg .rng, .reg .err, .log, .ring] m = true) : Keeps m s0 (State.ringTurn s) := by
  unfold State.ringTurn
  try dsimp only
  repeat' with_reducible first
    | exact h
    | refine keeps_ite (fun _ => ?_) (fun _ => ?_)
    | refine State.warn_keeps ?_ (within_trans hm (by decide))
    | refine State.satBump_keeps (by first | exact RNG_ST_BREAKS_blk ..) ?_ (within_trans hm (by decide))
    | refine State.ringState_keeps ?_ (within_trans hm (by decide))
    | refine keeps_pair (by assumption) ?_
    | split

theorem State.sendDue_keeps (h : Keeps m s0 s) (hm : within [.axes, .ring] m = true) : Keeps m s0 (State.sendDue s) := by
  unfold State.sendDue
  try dsimp only
  repeat' with_reducible first
    | exact h
    | refine keeps_ite (fun _ => ?_) (fun _ => ?_)
    | refine State.askIdent_keeps ?_ (within_trans hm (by decide))
    | refine State.sendBlock_keeps ?_ (within_trans hm (by decide))
    | refine State.onAxis_keeps ?_ (within_trans hm (by decide))
    | refine keeps_foldl ?_ _ ?_
    | refine keeps_foldl_snd ?_ _ ?_
    | (intro _ _ h; try dsimp only)
    | refine keeps_pair (by assumption) ?_
    | split

theorem State.sendPermits_keeps (h : Keeps m s0 s) (hm : within [.ring] m = true) : Keeps m s0 (State.sendPermits s) := by
  unfold State.sendPermits
  try dsimp only
  repeat' with_reducible first
    | exact h
    | refine keeps_ite (fun _ => ?_) (fun _ => ?_)
    | refine State.svRequest_keeps ?_ (within_trans hm (by decide))
    | refine State.onRing_keeps ?_ (within_trans hm (by decide))
    | refine keeps_foldl ?_ _ ?_
    | refine keeps_foldl_snd ?_ _ ?_
    | (intro _ _ h; try dsimp only)
    | refine keeps_pair (by assumption) ?_
    | split

theorem State.masterBoundary_keeps (h : Keeps m s0 s) (hm : within [.reg .rng, .reg .err, .log, .axes, .ring] m = true) : Keeps m s0 (State.masterBoundary s) := by
  unfold State.masterBoundary
  try dsimp only
  repeat' with_reducible first
    | exact h
    | refine keeps_ite (fun _ => ?_) (fun _ => ?_)
    | refine State.ringTurn_keeps ?_ (within_trans hm (by decide))
    | refine State.judgeCycle_keeps ?_ (within_trans hm (by decide))
    | refine State.onRing_keeps ?_ (within_trans hm (by decide))
    | refine State.sendPermits_keeps ?_ (within_trans hm (by decide))
    | refine State.sendDue_keeps ?_ (within_trans hm (by decide))
    | refine keeps_pair (by assumption) ?_
    | split

theorem State.ringBoundary_keeps (h : Keeps m s0 s) (hm : within [.reg .lsh, .reg .prf, .reg .eng, .reg .csf, .reg .pwm, .reg .knl, .reg .rng, .reg .err, .fresh, .sets, .bulk, .log, .knl, .axes, .prf, .eng, .pwm, .drn, .ine, .shp, .ring] m = true) : Keeps m s0 (State.ringBoundary s) := by
  unfold State.ringBoundary
  try dsimp only
  repeat' with_reducible first
    | exact h
    | refine keeps_ite (fun _ => ?_) (fun _ => ?_)
    | refine State.event_keeps ?_ (within_trans hm (by decide))
    | refine State.bump_keeps (by first | exact RNG_CYCNT_blk .. | exact whole_blk (RNG_CYCNT_blk ..)) ?_ (within_trans hm (by decide))
    | refine State.onRing_keeps ?_ (within_trans hm (by decide))
    | refine State.masterBoundary_keeps ?_ (within_trans hm (by decide))
    | refine State.memberBoundary_keeps ?_ (within_trans hm (by decide))
    | refine keeps_pair (by assumption) ?_
    | split

theorem State.discovered_keeps {d port m'} (h : Keeps m s0 s) (hm : within [.reg .prf, .reg .eng, .reg .fbk, .reg .knl, .reg .que, .reg .rng, .reg .err, .sets, .bulk, .log, .knl, .que, .axes, .prf, .probes, .ring] m = true) : Keeps m s0 (State.discovered d port m' s) := by
  unfold State.discovered
  try dsimp only
  repeat' with_reducible first
    | exact h
    | refine keeps_ite (fun _ => ?_) (fun _ => ?_)
    | refine State.put_keeps (by first | exact RNG_MST_PORT_blk .. | exact RNG_MST_POS_blk .. | exact RNG_MST_STATE_blk .. | (refine blk_ite ?_ ?_ <;> first | exact RNG_MST_PORT_blk .. | exact RNG_MST_POS_blk .. | exact RNG_MST_STATE_blk ..)) ?_ (within_trans hm (by decide))
    | refine State.askIdent_keeps ?_ (within_trans hm (by decide))
    | refine State.quarantine_keeps ?_ (within_trans hm (by decide))
    | refine keeps_pair (by assumption) ?_
    | split

theorem State.discoverReturn_keeps {p d} (h : Keeps m s0 s) (hm : within [.reg .prf, .reg .eng, .reg .fbk, .reg .knl, .reg .que, .reg .rng, .reg .err, .sets, .bulk, .log, .knl, .que, .axes, .prf, .probes, .ring] m = true) : Keeps m s0 (State.discoverReturn p d s) := by
  unfold State.discoverReturn
  try dsimp only
  repeat' with_reducible first
    | exact h
    | refine keeps_ite (fun _ => ?_) (fun _ => ?_)
    | refine State.discovered_keeps ?_ (within_trans hm (by decide))
    | refine State.put_keeps (by first | exact RNG_ST_UNK_blk ..) ?_ (within_trans hm (by decide))
    | refine keeps_foldl ?_ _ ?_
    | refine keeps_foldl_snd ?_ _ ?_
    | (intro _ _ h; try dsimp only)
    | refine keeps_pair (by assumption) ?_
    | split

theorem execRingCycleBoundary_keeps {dt} {t} (e : execRingCycleBoundary dt s = .next t) : Keeps [.reg .lsh, .reg .prf, .reg .eng, .reg .csf, .reg .pwm, .reg .knl, .reg .rng, .reg .err, .fresh, .sets, .clk, .bulk, .log, .knl, .axes, .prf, .eng, .pwm, .drn, .ine, .shp, .ring] s t := by
  have hm := within_refl [.reg .lsh, .reg .prf, .reg .eng, .reg .csf, .reg .pwm, .reg .knl, .reg .rng, .reg .err, .fresh, .sets, .clk, .bulk, .log, .knl, .axes, .prf, .eng, .pwm, .drn, .ine, .shp, .ring]
  have h := Keeps.refl [.reg .lsh, .reg .prf, .reg .eng, .reg .csf, .reg .pwm, .reg .knl, .reg .rng, .reg .err, .fresh, .sets, .clk, .bulk, .log, .knl, .axes, .prf, .eng, .pwm, .drn, .ine, .shp, .ring] s
  simp only [execRingCycleBoundary, Host.Outcome.next.injEq] at e
  subst e
  repeat' with_reducible first
    | exact h
    | refine keeps_ite (fun _ => ?_) (fun _ => ?_)
    | refine State.elapse_keeps ?_ (within_trans hm (by decide))
    | refine State.ringBoundary_keeps ?_ (within_trans hm (by decide))
    | refine keeps_pair (by assumption) ?_
    | split

theorem execRingCycleSend_keeps {dt} {t} (e : execRingCycleSend dt s = .next t) : Keeps [.reg .prf, .reg .eng, .reg .fbk, .reg .knl, .reg .que, .reg .err, .fresh, .sets, .clk, .bulk, .log, .knl, .que, .axes, .prf, .probes, .ring, .tim] s t := by
  have hm := within_refl [.reg .prf, .reg .eng, .reg .fbk, .reg .knl, .reg .que, .reg .err, .fresh, .sets, .clk, .bulk, .log, .knl, .que, .axes, .prf, .probes, .ring, .tim]
  have h := Keeps.refl [.reg .prf, .reg .eng, .reg .fbk, .reg .knl, .reg .que, .reg .err, .fresh, .sets, .clk, .bulk, .log, .knl, .que, .axes, .prf, .probes, .ring, .tim] s
  simp only [execRingCycleSend, Host.Outcome.next.injEq] at e
  subst e
  repeat' with_reducible first
    | exact h
    | refine keeps_ite (fun _ => ?_) (fun _ => ?_)
    | refine State.elapse_keeps ?_ (within_trans hm (by decide))
    | refine State.sendCycle_keeps ?_ (within_trans hm (by decide))
    | refine keeps_pair (by assumption) ?_
    | split

theorem execCycle_keeps {dt p ok d} {t} (e : execCycle dt p ok d s = .next t) : Keeps [.reg .prf, .reg .eng, .reg .csf, .reg .fbk, .reg .pwm, .reg .knl, .reg .que, .reg .rng, .reg .tim, .reg .dio, .reg .err, .fresh, .sets, .clk, .bulk, .log, .knl, .que, .axes, .lim, .prf, .eng, .pwm, .drn, .shp, .csf, .ports, .probes, .ring, .tim] s t := by
  have hm := within_refl [.reg .prf, .reg .eng, .reg .csf, .reg .fbk, .reg .pwm, .reg .knl, .reg .que, .reg .rng, .reg .tim, .reg .dio, .reg .err, .fresh, .sets, .clk, .bulk, .log, .knl, .que, .axes, .lim, .prf, .eng, .pwm, .drn, .shp, .csf, .ports, .probes, .ring, .tim]
  have h := Keeps.refl [.reg .prf, .reg .eng, .reg .csf, .reg .fbk, .reg .pwm, .reg .knl, .reg .que, .reg .rng, .reg .tim, .reg .dio, .reg .err, .fresh, .sets, .clk, .bulk, .log, .knl, .que, .axes, .lim, .prf, .eng, .pwm, .drn, .shp, .csf, .ports, .probes, .ring, .tim] s
  simp only [execCycle, Host.Outcome.next.injEq] at e
  subst e
  repeat' with_reducible first
    | exact h
    | refine keeps_ite (fun _ => ?_) (fun _ => ?_)
    | refine State.memberFrame_keeps (fun _ h => ?_) ?_ (within_trans hm (by decide))
    | refine State.memberApply_keeps ?_ (within_trans hm (by decide))
    | refine State.elapse_keeps ?_ (within_trans hm (by decide))
    | (dsimp only [id]; exact h)
    | refine keeps_pair (by assumption) ?_
    | split

theorem execCycleReturn_keeps {dt p ok d} {t} (e : execCycleReturn dt p ok d s = .next t) : Keeps [.reg .prf, .reg .eng, .reg .csf, .reg .fbk, .reg .pwm, .reg .knl, .reg .que, .reg .acq, .reg .rng, .reg .dio, .reg .err, .sets, .clk, .bulk, .log, .knl, .que, .axes, .prf, .eng, .pwm, .drn, .probes, .acq, .ring] s t := by
  have hm := within_refl [.reg .prf, .reg .eng, .reg .csf, .reg .fbk, .reg .pwm, .reg .knl, .reg .que, .reg .acq, .reg .rng, .reg .dio, .reg .err, .sets, .clk, .bulk, .log, .knl, .que, .axes, .prf, .eng, .pwm, .drn, .probes, .acq, .ring]
  have h := Keeps.refl [.reg .prf, .reg .eng, .reg .csf, .reg .fbk, .reg .pwm, .reg .knl, .reg .que, .reg .acq, .reg .rng, .reg .dio, .reg .err, .sets, .clk, .bulk, .log, .knl, .que, .axes, .prf, .eng, .pwm, .drn, .probes, .acq, .ring] s
  simp only [execCycleReturn, Host.Outcome.next.injEq] at e
  subst e
  repeat' with_reducible first
    | exact h
    | refine keeps_ite (fun _ => ?_) (fun _ => ?_)
    | refine State.masterFrame_keeps ?_ (within_trans hm (by decide))
    | refine State.elapse_keeps ?_ (within_trans hm (by decide))
    | refine State.cycleReturn_keeps ?_ (within_trans hm (by decide))
    | refine keeps_pair (by assumption) ?_
    | split

theorem execFrameMissing_keeps {dt} {t} (e : execFrameMissing dt s = .next t) : Keeps [.reg .rng, .sets, .clk, .ring] s t := by
  have hm := within_refl [.reg .rng, .sets, .clk, .ring]
  have h := Keeps.refl [.reg .rng, .sets, .clk, .ring] s
  simp only [execFrameMissing, Host.Outcome.next.injEq] at e
  subst e
  repeat' with_reducible first
    | exact h
    | refine keeps_ite (fun _ => ?_) (fun _ => ?_)
    | refine State.elapse_keeps ?_ (within_trans hm (by decide))
    | refine State.judgeCycle_keeps ?_ (within_trans hm (by decide))
    | refine keeps_pair (by assumption) ?_
    | split

theorem execClose_keeps {dt p ok d} {t} (e : execClose dt p ok d s = .next t) : Keeps [.reg .rng, .reg .err, .sets, .clk, .log, .ring, .tim] s t := by
  have hm := within_refl [.reg .rng, .reg .err, .sets, .clk, .log, .ring, .tim]
  have h := Keeps.refl [.reg .rng, .reg .err, .sets, .clk, .log, .ring, .tim] s
  simp only [execClose, Host.Outcome.next.injEq] at e
  subst e
  repeat' with_reducible first
    | exact h
    | refine keeps_ite (fun _ => ?_) (fun _ => ?_)
    | refine State.memberFrame_keeps (fun _ h => ?_) ?_ (within_trans hm (by decide))
    | refine State.elapse_keeps ?_ (within_trans hm (by decide))
    | (dsimp only [id]; exact h)
    | refine keeps_pair (by assumption) ?_
    | split

theorem execCloseReturn_keeps {dt p ok d} {t} (e : execCloseReturn dt p ok d s = .next t) : Keeps [.reg .rng, .reg .err, .sets, .clk, .log, .ring] s t := by
  have hm := within_refl [.reg .rng, .reg .err, .sets, .clk, .log, .ring]
  have h := Keeps.refl [.reg .rng, .reg .err, .sets, .clk, .log, .ring] s
  simp only [execCloseReturn, Host.Outcome.next.injEq] at e
  subst e
  repeat' with_reducible first
    | exact h
    | refine keeps_ite (fun _ => ?_) (fun _ => ?_)
    | refine State.masterFrame_keeps ?_ (within_trans hm (by decide))
    | refine State.elapse_keeps ?_ (within_trans hm (by decide))
    | refine State.closeReturn_keeps ?_ (within_trans hm (by decide))
    | refine keeps_pair (by assumption) ?_
    | split

theorem execDiscover_keeps {dt p ok d} {t} (e : execDiscover dt p ok d s = .next t) : Keeps [.reg .rng, .reg .err, .sets, .clk, .log, .ring, .tim] s t := by
  have hm := within_refl [.reg .rng, .reg .err, .sets, .clk, .log, .ring, .tim]
  have h := Keeps.refl [.reg .rng, .reg .err, .sets, .clk, .log, .ring, .tim] s
  simp only [execDiscover, Host.Outcome.next.injEq] at e
  subst e
  repeat' with_reducible first
    | exact h
    | refine keeps_ite (fun _ => ?_) (fun _ => ?_)
    | refine State.memberFrame_keeps (fun _ h => ?_) ?_ (within_trans hm (by decide))
    | refine State.elapse_keeps ?_ (within_trans hm (by decide))
    | (dsimp only [id]; exact h)
    | refine keeps_pair (by assumption) ?_
    | split

theorem execDiscoverReturn_keeps {dt p ok d} {t} (e : execDiscoverReturn dt p ok d s = .next t) : Keeps [.reg .prf, .reg .eng, .reg .fbk, .reg .knl, .reg .que, .reg .rng, .reg .err, .sets, .clk, .bulk, .log, .knl, .que, .axes, .prf, .probes, .ring] s t := by
  have hm := within_refl [.reg .prf, .reg .eng, .reg .fbk, .reg .knl, .reg .que, .reg .rng, .reg .err, .sets, .clk, .bulk, .log, .knl, .que, .axes, .prf, .probes, .ring]
  have h := Keeps.refl [.reg .prf, .reg .eng, .reg .fbk, .reg .knl, .reg .que, .reg .rng, .reg .err, .sets, .clk, .bulk, .log, .knl, .que, .axes, .prf, .probes, .ring] s
  simp only [execDiscoverReturn, Host.Outcome.next.injEq] at e
  subst e
  repeat' with_reducible first
    | exact h
    | refine keeps_ite (fun _ => ?_) (fun _ => ?_)
    | refine State.masterFrame_keeps ?_ (within_trans hm (by decide))
    | refine State.elapse_keeps ?_ (within_trans hm (by decide))
    | refine State.discoverReturn_keeps ?_ (within_trans hm (by decide))
    | refine keeps_pair (by assumption) ?_
    | split

theorem execLossOfRing_keeps {dt} {t} (e : execLossOfRing dt s = .next t) : Keeps [.reg .prf, .reg .eng, .reg .csf, .reg .fbk, .reg .pwm, .reg .knl, .reg .que, .reg .acq, .reg .dio, .reg .err, .sets, .clk, .bulk, .log, .knl, .que, .axes, .prf, .pwm, .drn, .probes, .acq, .ring] s t := by
  have hm := within_refl [.reg .prf, .reg .eng, .reg .csf, .reg .fbk, .reg .pwm, .reg .knl, .reg .que, .reg .acq, .reg .dio, .reg .err, .sets, .clk, .bulk, .log, .knl, .que, .axes, .prf, .pwm, .drn, .probes, .acq, .ring]
  have h := Keeps.refl [.reg .prf, .reg .eng, .reg .csf, .reg .fbk, .reg .pwm, .reg .knl, .reg .que, .reg .acq, .reg .dio, .reg .err, .sets, .clk, .bulk, .log, .knl, .que, .axes, .prf, .pwm, .drn, .probes, .acq, .ring] s
  simp only [execLossOfRing, Host.Outcome.next.injEq] at e
  subst e
  repeat' with_reducible first
    | exact h
    | refine keeps_ite (fun _ => ?_) (fun _ => ?_)
    | refine State.ringLoss_keeps ?_ (within_trans hm (by decide))
    | refine State.elapse_keeps ?_ (within_trans hm (by decide))
    | refine keeps_pair (by assumption) ?_
    | split

/-! ### SafetyCore -/

theorem State.sf_keeps {f} (h : Keeps m s0 s) (hm : within [.saf] m = true) : Keeps m s0 (State.sf f s) := by
  unfold State.sf
  try dsimp only
  repeat' with_reducible first
    | exact h
    | refine keeps_ite (fun _ => ?_) (fun _ => ?_)
    | refine State.onSaf_keeps ?_ (within_trans hm (by decide))
    | refine keeps_pair (by assumption) ?_
    | split

theorem State.setPair_keeps {t' i st} (h : Keeps m s0 s) (hm : within [.reg .saf, .saf] m = true) : Keeps m s0 (State.setPair t' i st s) := by
  unfold State.setPair
  try dsimp only
  repeat' with_reducible first
    | exact h
    | refine keeps_ite (fun _ => ?_) (fun _ => ?_)
    | refine State.put_keeps (by first | exact SAF_PAIR_STATE_blk ..) ?_ (within_trans hm (by decide))
    | refine State.sf_keeps ?_ (within_trans hm (by decide))
    | refine keeps_pair (by assumption) ?_
    | split

theorem State.pairStep_keeps {t' i} (h : Keeps m s0 s) (hm : within [.reg .saf, .saf] m = true) : Keeps m s0 (State.pairStep t' i s) := by
  unfold State.pairStep
  try dsimp only
  repeat' with_reducible first
    | exact h
    | refine keeps_ite (fun _ => ?_) (fun _ => ?_)
    | refine State.sf_keeps ?_ (within_trans hm (by decide))
    | refine State.setPair_keeps ?_ (within_trans hm (by decide))
    | refine keeps_pair (by assumption) ?_
    | split

theorem State.latchPair_keeps {i} (h : Keeps m s0 s) (hm : within [.reg .saf, .saf] m = true) : Keeps m s0 (State.latchPair i s) := by
  unfold State.latchPair
  try dsimp only
  repeat' with_reducible first
    | exact h
    | refine keeps_ite (fun _ => ?_) (fun _ => ?_)
    | refine State.setPair_keeps ?_ (within_trans hm (by decide))
    | refine State.satBump_keeps (by first | exact SAF_PAIR_DCNT_blk ..) ?_ (within_trans hm (by decide))
    | refine keeps_pair (by assumption) ?_
    | split

theorem State.fnEnter_keeps {t' f st} (h : Keeps m s0 s) (hm : within [.reg .prf, .reg .eng, .reg .fbk, .reg .knl, .reg .dio, .reg .saf, .knl, .axes, .prf, .probes, .saf] m = true) : Keeps m s0 (State.fnEnter t' f st s) := by
  unfold State.fnEnter
  try dsimp only
  repeat' with_reducible first
    | exact h
    | refine keeps_ite (fun _ => ?_) (fun _ => ?_)
    | refine State.put_keeps (by first | exact SAF_FN_KSTATE_blk .. | exact SAF_FN_STATE_blk .. | exact SAF_FN_TMR_blk .. | (refine blk_ite ?_ ?_ <;> first | exact SAF_FN_KSTATE_blk .. | exact SAF_FN_STATE_blk .. | exact SAF_FN_TMR_blk ..)) ?_ (within_trans hm (by decide))
    | refine State.sf_keeps ?_ (within_trans hm (by decide))
    | refine State.requestDisable_keeps ?_ (within_trans hm (by decide))
    | refine keeps_foldl ?_ _ ?_
    | refine keeps_foldl_snd ?_ _ ?_
    | (intro _ _ h; try dsimp only)
    | refine keeps_pair (by assumption) ?_
    | split

theorem State.fnStep_keeps {t' f} (h : Keeps m s0 s) (hm : within [.reg .prf, .reg .eng, .reg .fbk, .reg .knl, .reg .dio, .reg .saf, .knl, .axes, .prf, .probes, .saf] m = true) : Keeps m s0 (State.fnStep t' f s) := by
  unfold State.fnStep
  try dsimp only
  repeat' with_reducible first
    | exact h
    | refine keeps_ite (fun _ => ?_) (fun _ => ?_)
    | refine State.fnEnter_keeps ?_ (within_trans hm (by decide))
    | refine keeps_pair (by assumption) ?_
    | split

theorem State.groupLines_keeps {g} (h : Keeps m s0 s) (hm : within [.reg .prf, .reg .eng, .reg .csf, .reg .fbk, .reg .pwm, .reg .knl, .reg .que, .reg .dio, .reg .saf, .reg .err, .fresh, .sets, .bulk, .log, .knl, .que, .axes, .prf, .pwm, .probes, .saf] m = true) : Keeps m s0 (State.groupLines g s) := by
  unfold State.groupLines
  try dsimp only
  repeat' with_reducible first
    | exact h
    | refine keeps_ite (fun _ => ?_) (fun _ => ?_)
    | refine State.put_keeps (by first | exact SAF_GRP_GENAC_blk .. | exact SAF_GRP_GENBC_blk .. | exact SAF_GRP_HOLDFN_blk .. | exact SAF_GRP_STOCNT_blk .. | exact SAF_GRP_TESTDUE_blk .. | (refine blk_ite ?_ ?_ <;> first | exact SAF_GRP_GENAC_blk .. | exact SAF_GRP_GENBC_blk .. | exact SAF_GRP_HOLDFN_blk .. | exact SAF_GRP_STOCNT_blk .. | exact SAF_GRP_TESTDUE_blk ..)) ?_ (within_trans hm (by decide))
    | refine State.mark_keeps (by first | exact SAF_GRP_GENAC_blk .. | exact SAF_GRP_GENBC_blk .. | exact SAF_GRP_HOLDFN_blk .. | exact SAF_GRP_STOCNT_blk .. | exact SAF_GRP_TESTDUE_blk .. | (refine blk_ite ?_ ?_ <;> first | exact SAF_GRP_GENAC_blk .. | exact SAF_GRP_GENBC_blk .. | exact SAF_GRP_HOLDFN_blk .. | exact SAF_GRP_STOCNT_blk .. | exact SAF_GRP_TESTDUE_blk ..)) ?_ (within_trans hm (by decide))
    | refine State.satBump_keeps (by first | exact SAF_GRP_GENAC_blk .. | exact SAF_GRP_GENBC_blk .. | exact SAF_GRP_HOLDFN_blk .. | exact SAF_GRP_STOCNT_blk .. | exact SAF_GRP_TESTDUE_blk .. | (refine blk_ite ?_ ?_ <;> first | exact SAF_GRP_GENAC_blk .. | exact SAF_GRP_GENBC_blk .. | exact SAF_GRP_HOLDFN_blk .. | exact SAF_GRP_STOCNT_blk .. | exact SAF_GRP_TESTDUE_blk ..)) ?_ (within_trans hm (by decide))
    | refine State.sf_keeps ?_ (within_trans hm (by decide))
    | refine State.gateEnables_keeps ?_ (within_trans hm (by decide))
    | refine keeps_getD (fun _ _ => ?_) ?_
    | refine keeps_pair (by assumption) ?_
    | split

theorem State.showOutputs_keeps (h : Keeps m s0 s) (hm : within [.reg .saf] m = true) : Keeps m s0 (State.showOutputs s) := by
  unfold State.showOutputs
  try dsimp only
  repeat' with_reducible first
    | exact h
    | refine keeps_ite (fun _ => ?_) (fun _ => ?_)
    | refine State.mark_keeps (by first | exact SAF_SO_SOMC_blk .. | exact SAF_SO_SOMR_blk .. | exact SAF_SO_SOPC_blk .. | exact SAF_SO_SOPR_blk .. | (refine blk_ite ?_ ?_ <;> first | exact SAF_SO_SOMC_blk .. | exact SAF_SO_SOMR_blk .. | exact SAF_SO_SOPC_blk .. | exact SAF_SO_SOPR_blk ..)) ?_ (within_trans hm (by decide))
    | refine keeps_foldl ?_ _ ?_
    | refine keeps_foldl_snd ?_ _ ?_
    | (intro _ _ h; try dsimp only)
    | refine keeps_pair (by assumption) ?_
    | split

theorem State.safLines_keeps (h : Keeps m s0 s) (hm : within [.reg .prf, .reg .eng, .reg .csf, .reg .fbk, .reg .pwm, .reg .knl, .reg .que, .reg .dio, .reg .saf, .reg .err, .fresh, .sets, .bulk, .log, .knl, .que, .axes, .prf, .pwm, .probes, .saf] m = true) : Keeps m s0 (State.safLines s) := by
  unfold State.safLines
  try dsimp only
  repeat' with_reducible first
    | exact h
    | refine keeps_ite (fun _ => ?_) (fun _ => ?_)
    | refine State.showOutputs_keeps ?_ (within_trans hm (by decide))
    | refine State.groupLines_keeps ?_ (within_trans hm (by decide))
    | refine keeps_foldl ?_ _ ?_
    | refine keeps_foldl_snd ?_ _ ?_
    | (intro _ _ h; try dsimp only)
    | refine keeps_pair (by assumption) ?_
    | split

theorem State.safEval_keeps {t'} (h : Keeps m s0 s) (hm : within [.reg .prf, .reg .eng, .reg .csf, .reg .fbk, .reg .pwm, .reg .knl, .reg .que, .reg .dio, .reg .saf, .reg .err, .fresh, .sets, .bulk, .log, .knl, .que, .axes, .prf, .pwm, .probes, .saf] m = true) : Keeps m s0 (State.safEval t' s) := by
  unfold State.safEval
  try dsimp only
  repeat' with_reducible first
    | exact h
    | refine keeps_ite (fun _ => ?_) (fun _ => ?_)
    | refine State.pairStep_keeps ?_ (within_trans hm (by decide))
    | refine State.safLines_keeps ?_ (within_trans hm (by decide))
    | refine State.fnStep_keeps ?_ (within_trans hm (by decide))
    | refine keeps_foldl ?_ _ ?_
    | refine keeps_foldl_snd ?_ _ ?_
    | (intro _ _ h; try dsimp only)
    | refine keeps_pair (by assumption) ?_
    | split

theorem State.safFault_keeps {cause} (h : Keeps m s0 s) (hm : within [.reg .prf, .reg .eng, .reg .csf, .reg .fbk, .reg .pwm, .reg .knl, .reg .que, .reg .dio, .reg .saf, .reg .err, .fresh, .sets, .bulk, .log, .knl, .que, .axes, .prf, .pwm, .probes, .saf] m = true) : Keeps m s0 (State.safFault cause s) := by
  unfold State.safFault
  try dsimp only
  repeat' with_reducible first
    | exact h
    | refine keeps_ite (fun _ => ?_) (fun _ => ?_)
    | refine State.safLines_keeps ?_ (within_trans hm (by decide))
    | refine State.severe_keeps ?_ (within_trans hm (by decide))
    | refine State.put_keeps (by first | exact SAF_ST_FAULT_blk .. | exact SAF_ST_FCAUSE_blk .. | (refine blk_ite ?_ ?_ <;> first | exact SAF_ST_FAULT_blk .. | exact SAF_ST_FCAUSE_blk ..)) ?_ (within_trans hm (by decide))
    | refine State.mark_keeps (by first | exact SAF_ST_FAULT_blk .. | exact SAF_ST_FCAUSE_blk .. | (refine blk_ite ?_ ?_ <;> first | exact SAF_ST_FAULT_blk .. | exact SAF_ST_FCAUSE_blk ..)) ?_ (within_trans hm (by decide))
    | refine keeps_pair (by assumption) ?_
    | split

theorem State.connStart_keeps {n} (h : Keeps m s0 s) (hm : within [.reg .prf, .reg .eng, .reg .csf, .reg .fbk, .reg .pwm, .reg .knl, .reg .que, .reg .dio, .reg .saf, .reg .err, .fresh, .sets, .bulk, .log, .knl, .que, .axes, .prf, .pwm, .probes, .saf] m = true) : Keeps m s0 (State.connStart n s) := by
  unfold State.connStart
  try dsimp only
  repeat' with_reducible first
    | exact h
    | refine keeps_ite (fun _ => ?_) (fun _ => ?_)
    | refine State.put_keeps (by first | exact SAF_CONN_STATE_blk .. | exact SAF_CSEQ_TXSEQ_blk .. | (refine blk_ite ?_ ?_ <;> first | exact SAF_CONN_STATE_blk .. | exact SAF_CSEQ_TXSEQ_blk ..)) ?_ (within_trans hm (by decide))
    | refine State.sf_keeps ?_ (within_trans hm (by decide))
    | refine State.drew_keeps ?_ (within_trans hm (by decide))
    | refine State.safEval_keeps ?_ (within_trans hm (by decide))
    | refine keeps_pair (by assumption) ?_
    | split

theorem State.pduSend_keeps {n} (h : Keeps m s0 s) (hm : within [.reg .saf, .ring, .saf] m = true) : Keeps m s0 (State.pduSend n s) := by
  unfold State.pduSend
  try dsimp only
  repeat' with_reducible first
    | exact h
    | refine keeps_ite (fun _ => ?_) (fun _ => ?_)
    | refine State.sf_keeps ?_ (within_trans hm (by decide))
    | refine State.put_keeps (by first | exact SAF_CSEQ_TXSEQ_blk ..) ?_ (within_trans hm (by decide))
    | refine State.onRing_keeps ?_ (within_trans hm (by decide))
    | refine keeps_pair (by assumption) ?_
    | split

theorem State.pduReceive_keeps {n} (h : Keeps m s0 s) (hm : within [.reg .prf, .reg .eng, .reg .csf, .reg .fbk, .reg .pwm, .reg .knl, .reg .que, .reg .dio, .reg .saf, .reg .err, .fresh, .sets, .bulk, .log, .knl, .que, .axes, .prf, .pwm, .probes, .saf] m = true) : Keeps m s0 (State.pduReceive n s) := by
  unfold State.pduReceive
  try dsimp only
  repeat' with_reducible first
    | exact h
    | refine keeps_ite (fun _ => ?_) (fun _ => ?_)
    | refine State.satBump_keeps (by first | exact SAF_CONN_CRCERR_blk .. | exact SAF_CONN_STALE_blk .. | exact SAF_CONN_STATE_blk .. | exact SAF_CSEQ_RXSEQ_blk .. | (refine blk_ite ?_ ?_ <;> first | exact SAF_CONN_CRCERR_blk .. | exact SAF_CONN_STALE_blk .. | exact SAF_CONN_STATE_blk .. | exact SAF_CSEQ_RXSEQ_blk ..)) ?_ (within_trans hm (by decide))
    | refine State.sf_keeps ?_ (within_trans hm (by decide))
    | refine State.put_keeps (by first | exact SAF_CONN_CRCERR_blk .. | exact SAF_CONN_STALE_blk .. | exact SAF_CONN_STATE_blk .. | exact SAF_CSEQ_RXSEQ_blk .. | (refine blk_ite ?_ ?_ <;> first | exact SAF_CONN_CRCERR_blk .. | exact SAF_CONN_STALE_blk .. | exact SAF_CONN_STATE_blk .. | exact SAF_CSEQ_RXSEQ_blk ..)) ?_ (within_trans hm (by decide))
    | refine State.safEval_keeps ?_ (within_trans hm (by decide))
    | refine State.connStart_keeps ?_ (within_trans hm (by decide))
    | refine keeps_pair (by assumption) ?_
    | split

theorem State.connWatchdog_keeps {n} (h : Keeps m s0 s) (hm : within [.reg .prf, .reg .eng, .reg .csf, .reg .fbk, .reg .pwm, .reg .knl, .reg .que, .reg .dio, .reg .saf, .reg .err, .fresh, .sets, .bulk, .log, .knl, .que, .axes, .prf, .pwm, .probes, .saf] m = true) : Keeps m s0 (State.connWatchdog n s) := by
  unfold State.connWatchdog
  try dsimp only
  repeat' with_reducible first
    | exact h
    | refine keeps_ite (fun _ => ?_) (fun _ => ?_)
    | refine State.connStart_keeps ?_ (within_trans hm (by decide))
    | refine State.satBump_keeps (by first | exact SAF_CONN_RESTARTS_blk ..) ?_ (within_trans hm (by decide))
    | refine keeps_pair (by assumption) ?_
    | split

theorem State.showAccepted_keeps (h : Keeps m s0 s) (hm : within [.reg .saf] m = true) : Keeps m s0 (State.showAccepted s) := by
  unfold State.showAccepted
  try dsimp only
  repeat' with_reducible first
    | exact h
    | refine keeps_ite (fun _ => ?_) (fun _ => ?_)
    | refine State.mark_keeps (by first | exact SAF_ACRC_blk .. | exact whole_blk (SAF_ACRC_blk ..) | exact SAF_ST_ACCEPTED_blk .. | (refine blk_ite ?_ ?_ <;> first | exact SAF_ACRC_blk .. | exact whole_blk (SAF_ACRC_blk ..) | exact SAF_ST_ACCEPTED_blk ..)) ?_ (within_trans hm (by decide))
    | refine State.wr_keeps (by first | exact SAF_ACRC_blk .. | exact whole_blk (SAF_ACRC_blk ..) | exact SAF_ST_ACCEPTED_blk .. | (refine blk_ite ?_ ?_ <;> first | exact SAF_ACRC_blk .. | exact whole_blk (SAF_ACRC_blk ..) | exact SAF_ST_ACCEPTED_blk ..)) ?_ (within_trans hm (by decide))
    | refine keeps_pair (by assumption) ?_
    | split

theorem State.showLog_keeps (h : Keeps m s0 s) (hm : within [.reg .saf] m = true) : Keeps m s0 (State.showLog s) := by
  unfold State.showLog
  try dsimp only
  repeat' with_reducible first
    | exact h
    | refine keeps_ite (fun _ => ?_) (fun _ => ?_)
    | refine State.wr_keeps (by first | exact SAF_LOG_FULL_blk .. | exact SAF_LOG_USED_blk .. | exact SAF_LSEQ_blk .. | exact whole_blk (SAF_LSEQ_blk ..) | exact SAF_ST_LOGFULL_blk .. | (refine blk_ite ?_ ?_ <;> first | exact SAF_LOG_FULL_blk .. | exact SAF_LOG_USED_blk .. | exact SAF_LSEQ_blk .. | exact whole_blk (SAF_LSEQ_blk ..) | exact SAF_ST_LOGFULL_blk ..)) ?_ (within_trans hm (by decide))
    | refine State.mark_keeps (by first | exact SAF_LOG_FULL_blk .. | exact SAF_LOG_USED_blk .. | exact SAF_LSEQ_blk .. | exact whole_blk (SAF_LSEQ_blk ..) | exact SAF_ST_LOGFULL_blk .. | (refine blk_ite ?_ ?_ <;> first | exact SAF_LOG_FULL_blk .. | exact SAF_LOG_USED_blk .. | exact SAF_LSEQ_blk .. | exact whole_blk (SAF_LSEQ_blk ..) | exact SAF_ST_LOGFULL_blk ..)) ?_ (within_trans hm (by decide))
    | refine State.put_keeps (by first | exact SAF_LOG_FULL_blk .. | exact SAF_LOG_USED_blk .. | exact SAF_LSEQ_blk .. | exact whole_blk (SAF_LSEQ_blk ..) | exact SAF_ST_LOGFULL_blk .. | (refine blk_ite ?_ ?_ <;> first | exact SAF_LOG_FULL_blk .. | exact SAF_LOG_USED_blk .. | exact SAF_LSEQ_blk .. | exact whole_blk (SAF_LSEQ_blk ..) | exact SAF_ST_LOGFULL_blk ..)) ?_ (within_trans hm (by decide))
    | refine keeps_pair (by assumption) ?_
    | split

theorem State.fnBegin_keeps {t' f} (h : Keeps m s0 s) (hm : within [.reg .prf, .reg .eng, .reg .fbk, .reg .knl, .reg .dio, .reg .saf, .knl, .axes, .prf, .probes, .saf] m = true) : Keeps m s0 (State.fnBegin t' f s) := by
  unfold State.fnBegin
  try dsimp only
  repeat' with_reducible first
    | exact h
    | refine keeps_ite (fun _ => ?_) (fun _ => ?_)
    | refine State.fnEnter_keeps ?_ (within_trans hm (by decide))
    | refine keeps_pair (by assumption) ?_
    | split

theorem State.safBegin_keeps {p selfOk mramOk} (h : Keeps m s0 s) (hm : within [.reg .prf, .reg .eng, .reg .csf, .reg .fbk, .reg .pwm, .reg .knl, .reg .que, .reg .dio, .reg .saf, .reg .err, .fresh, .sets, .bulk, .log, .knl, .que, .axes, .prf, .pwm, .probes, .saf] m = true) : Keeps m s0 (State.safBegin p selfOk mramOk s) := by
  unfold State.safBegin
  try dsimp only
  repeat' with_reducible first
    | exact h
    | refine keeps_ite (fun _ => ?_) (fun _ => ?_)
    | refine State.sf_keeps ?_ (within_trans hm (by decide))
    | refine State.showLog_keeps ?_ (within_trans hm (by decide))
    | refine State.showAccepted_keeps ?_ (within_trans hm (by decide))
    | refine State.wr_keeps (by first | exact SAF_FN_KIND_blk .. | exact SAF_SCRC_blk .. | exact whole_blk (SAF_SCRC_blk ..) | (refine blk_ite ?_ ?_ <;> first | exact SAF_FN_KIND_blk .. | exact SAF_SCRC_blk .. | exact whole_blk (SAF_SCRC_blk ..))) ?_ (within_trans hm (by decide))
    | refine State.put_keeps (by first | exact SAF_FN_KIND_blk .. | exact SAF_SCRC_blk .. | exact whole_blk (SAF_SCRC_blk ..) | (refine blk_ite ?_ ?_ <;> first | exact SAF_FN_KIND_blk .. | exact SAF_SCRC_blk .. | exact whole_blk (SAF_SCRC_blk ..))) ?_ (within_trans hm (by decide))
    | refine State.setPair_keeps ?_ (within_trans hm (by decide))
    | refine State.pairStep_keeps ?_ (within_trans hm (by decide))
    | refine State.connStart_keeps ?_ (within_trans hm (by decide))
    | refine State.fnBegin_keeps ?_ (within_trans hm (by decide))
    | refine State.warn_keeps ?_ (within_trans hm (by decide))
    | refine State.safFault_keeps ?_ (within_trans hm (by decide))
    | refine State.safEval_keeps ?_ (within_trans hm (by decide))
    | refine keeps_foldl ?_ _ ?_
    | refine keeps_foldl_snd ?_ _ ?_
    | (intro _ _ h; try dsimp only)
    | refine keeps_pair (by assumption) ?_
    | split

theorem State.crossCheck_keeps {a} (h : Keeps m s0 s) (hm : within [.reg .saf, .reg .err, .log] m = true) : Keeps m s0 (State.crossCheck a s) := by
  unfold State.crossCheck
  try dsimp only
  repeat' with_reducible first
    | exact h
    | refine keeps_ite (fun _ => ?_) (fun _ => ?_)
    | refine State.put_keeps (by first | exact SAF_AX_DIFF_blk .. | exact SAF_AX_XFLT_blk .. | (refine blk_ite ?_ ?_ <;> first | exact SAF_AX_DIFF_blk .. | exact SAF_AX_XFLT_blk ..)) ?_ (within_trans hm (by decide))
    | refine State.severe_keeps ?_ (within_trans hm (by decide))
    | refine State.mark_keeps (by first | exact SAF_AX_DIFF_blk .. | exact SAF_AX_XFLT_blk .. | (refine blk_ite ?_ ?_ <;> first | exact SAF_AX_DIFF_blk .. | exact SAF_AX_XFLT_blk ..)) ?_ (within_trans hm (by decide))
    | refine keeps_pair (by assumption) ?_
    | split

theorem State.measureAxis_keeps {a} (h : Keeps m s0 s) (hm : within [.reg .saf, .reg .err, .log, .saf] m = true) : Keeps m s0 (State.measureAxis a s) := by
  unfold State.measureAxis
  try dsimp only
  repeat' with_reducible first
    | exact h
    | refine keeps_ite (fun _ => ?_) (fun _ => ?_)
    | refine State.putS_keeps (by first | exact SAF_AXV_blk .. | exact whole_blk (SAF_AXV_blk ..)) ?_ (within_trans hm (by decide))
    | refine State.crossCheck_keeps ?_ (within_trans hm (by decide))
    | refine State.sf_keeps ?_ (within_trans hm (by decide))
    | refine keeps_pair (by assumption) ?_
    | split

theorem State.sdiFurthest_keeps {f a} (h : Keeps m s0 s) (hm : within [.saf] m = true) : Keeps m s0 (State.sdiFurthest f a s) := by
  unfold State.sdiFurthest
  try dsimp only
  repeat' with_reducible first
    | exact h
    | refine keeps_ite (fun _ => ?_) (fun _ => ?_)
    | refine State.sf_keeps ?_ (within_trans hm (by decide))
    | refine keeps_pair (by assumption) ?_
    | split

theorem State.measureFn_keeps {f} (h : Keeps m s0 s) (hm : within [.reg .prf, .reg .eng, .reg .fbk, .reg .knl, .reg .dio, .reg .saf, .knl, .axes, .prf, .probes, .saf] m = true) : Keeps m s0 (State.measureFn f s) := by
  unfold State.measureFn
  try dsimp only
  repeat' with_reducible first
    | exact h
    | refine keeps_ite (fun _ => ?_) (fun _ => ?_)
    | refine State.sdiFurthest_keeps ?_ (within_trans hm (by decide))
    | refine State.put_keeps (by first | exact SAF_FN_TMR_blk ..) ?_ (within_trans hm (by decide))
    | refine State.fnEnter_keeps ?_ (within_trans hm (by decide))
    | refine keeps_foldl ?_ _ ?_
    | refine keeps_foldl_snd ?_ _ ?_
    | (intro _ _ h; try dsimp only)
    | refine keeps_pair (by assumption) ?_
    | split

theorem State.safMeasure_keeps (h : Keeps m s0 s) (hm : within [.reg .prf, .reg .eng, .reg .csf, .reg .fbk, .reg .pwm, .reg .knl, .reg .que, .reg .dio, .reg .saf, .reg .err, .fresh, .sets, .bulk, .log, .knl, .que, .axes, .prf, .pwm, .probes, .saf] m = true) : Keeps m s0 (State.safMeasure s) := by
  unfold State.safMeasure
  try dsimp only
  repeat' with_reducible first
    | exact h
    | refine keeps_ite (fun _ => ?_) (fun _ => ?_)
    | refine State.measureAxis_keeps ?_ (within_trans hm (by decide))
    | refine State.sf_keeps ?_ (within_trans hm (by decide))
    | refine State.measureFn_keeps ?_ (within_trans hm (by decide))
    | refine State.safEval_keeps ?_ (within_trans hm (by decide))
    | refine State.safLines_keeps ?_ (within_trans hm (by decide))
    | refine keeps_foldl ?_ _ ?_
    | refine keeps_foldl_snd ?_ _ ?_
    | (intro _ _ h; try dsimp only)
    | refine keeps_pair (by assumption) ?_
    | split

theorem State.t1Elapsed_keeps {t' f} (h : Keeps m s0 s) (hm : within [.reg .prf, .reg .eng, .reg .csf, .reg .fbk, .reg .pwm, .reg .knl, .reg .que, .reg .dio, .reg .saf, .reg .err, .fresh, .sets, .bulk, .log, .knl, .que, .axes, .prf, .pwm, .probes, .saf] m = true) : Keeps m s0 (State.t1Elapsed t' f s) := by
  unfold State.t1Elapsed
  try dsimp only
  repeat' with_reducible first
    | exact h
    | refine keeps_ite (fun _ => ?_) (fun _ => ?_)
    | refine State.safLines_keeps ?_ (within_trans hm (by decide))
    | refine State.fnEnter_keeps ?_ (within_trans hm (by decide))
    | refine keeps_pair (by assumption) ?_
    | split

theorem State.resetView_keeps {t' began} (h : Keeps m s0 s) (hm : within [.reg .prf, .reg .eng, .reg .fbk, .reg .knl, .reg .dio, .reg .saf, .knl, .axes, .prf, .probes, .saf] m = true) : Keeps m s0 (State.resetView t' began s).2 := by
  unfold State.resetView
  try dsimp only
  repeat' with_reducible first
    | exact h
    | refine keeps_ite (fun _ => ?_) (fun _ => ?_)
    | refine State.setPair_keeps ?_ (within_trans hm (by decide))
    | refine State.fnEnter_keeps ?_ (within_trans hm (by decide))
    | refine keeps_foldl ?_ _ ?_
    | refine keeps_foldl_snd ?_ _ ?_
    | (intro _ _ h; try dsimp only)
    | refine keeps_pair (by assumption) ?_
    | split

theorem State.resetRelease_keeps {skew} (h : Keeps m s0 s) (hm : within [.reg .prf, .reg .eng, .reg .csf, .reg .fbk, .reg .pwm, .reg .knl, .reg .que, .reg .dio, .reg .saf, .reg .err, .fresh, .sets, .bulk, .log, .knl, .que, .axes, .prf, .pwm, .probes, .saf] m = true) : Keeps m s0 (State.resetRelease skew s) := by
  unfold State.resetRelease
  try dsimp only
  repeat' with_reducible first
    | exact h
    | refine keeps_ite (fun _ => ?_) (fun _ => ?_)
    | refine State.sf_keeps ?_ (within_trans hm (by decide))
    | refine State.mark_keeps (by first | exact SAF_RST_ACC_blk .. | exact SAF_RST_DIS_blk .. | exact SAF_RST_IGN_blk .. | exact SAF_RST_STUCK_blk .. | (refine blk_ite ?_ ?_ <;> first | exact SAF_RST_ACC_blk .. | exact SAF_RST_DIS_blk .. | exact SAF_RST_IGN_blk .. | exact SAF_RST_STUCK_blk ..)) ?_ (within_trans hm (by decide))
    | refine State.drew_keeps ?_ (within_trans hm (by decide))
    | refine State.resetView_keeps ?_ (within_trans hm (by decide))
    | refine State.satBump_keeps (by first | exact SAF_RST_ACC_blk .. | exact SAF_RST_DIS_blk .. | exact SAF_RST_IGN_blk .. | exact SAF_RST_STUCK_blk .. | (refine blk_ite ?_ ?_ <;> first | exact SAF_RST_ACC_blk .. | exact SAF_RST_DIS_blk .. | exact SAF_RST_IGN_blk .. | exact SAF_RST_STUCK_blk ..)) ?_ (within_trans hm (by decide))
    | refine State.safEval_keeps ?_ (within_trans hm (by decide))
    | refine keeps_pair (by assumption) ?_
    | split

theorem State.crossExchange_keeps (h : Keeps m s0 s) (hm : within [.reg .prf, .reg .eng, .reg .csf, .reg .fbk, .reg .pwm, .reg .knl, .reg .que, .reg .dio, .reg .saf, .reg .err, .fresh, .sets, .bulk, .log, .knl, .que, .axes, .prf, .pwm, .probes, .saf] m = true) : Keeps m s0 (State.crossExchange s) := by
  unfold State.crossExchange
  try dsimp only
  repeat' with_reducible first
    | exact h
    | refine keeps_ite (fun _ => ?_) (fun _ => ?_)
    | refine State.latchPair_keeps ?_ (within_trans hm (by decide))
    | refine State.safEval_keeps ?_ (within_trans hm (by decide))
    | refine State.sf_keeps ?_ (within_trans hm (by decide))
    | refine State.safFault_keeps ?_ (within_trans hm (by decide))
    | refine keeps_foldl ?_ _ ?_
    | refine keeps_foldl_snd ?_ _ ?_
    | (intro _ _ h; try dsimp only)
    | refine keeps_getD (fun _ _ => ?_) ?_
    | refine keeps_pair (by assumption) ?_
    | split

theorem State.heartbeat_keeps {core kerca} (h : Keeps m s0 s) (hm : within [.reg .prf, .reg .eng, .reg .csf, .reg .fbk, .reg .pwm, .reg .knl, .reg .que, .reg .dio, .reg .saf, .reg .err, .fresh, .sets, .bulk, .log, .knl, .que, .axes, .prf, .pwm, .probes, .saf] m = true) : Keeps m s0 (State.heartbeat core kerca s) := by
  unfold State.heartbeat
  try dsimp only
  repeat' with_reducible first
    | exact h
    | refine keeps_ite (fun _ => ?_) (fun _ => ?_)
    | refine State.sf_keeps ?_ (within_trans hm (by decide))
    | refine State.safFault_keeps ?_ (within_trans hm (by decide))
    | refine keeps_pair (by assumption) ?_
    | split

theorem State.landReadback_keeps {g b high} (h : Keeps m s0 s) (hm : within [.reg .prf, .reg .eng, .reg .csf, .reg .fbk, .reg .pwm, .reg .knl, .reg .que, .reg .dio, .reg .saf, .reg .err, .fresh, .sets, .bulk, .log, .knl, .que, .axes, .prf, .pwm, .probes, .saf] m = true) : Keeps m s0 (State.landReadback g b high s) := by
  unfold State.landReadback
  try dsimp only
  repeat' with_reducible first
    | exact h
    | refine keeps_ite (fun _ => ?_) (fun _ => ?_)
    | refine State.mark_keeps (by first | exact SAF_GRP_GENAR_blk .. | exact SAF_GRP_GENBR_blk .. | exact SAF_GRP_RBFLT_blk .. | (refine blk_ite ?_ ?_ <;> first | exact SAF_GRP_GENAR_blk .. | exact SAF_GRP_GENBR_blk .. | exact SAF_GRP_RBFLT_blk ..)) ?_ (within_trans hm (by decide))
    | refine State.safFault_keeps ?_ (within_trans hm (by decide))
    | refine State.safLines_keeps ?_ (within_trans hm (by decide))
    | refine keeps_pair (by assumption) ?_
    | split

theorem State.darkTest_keeps {k som stays} (h : Keeps m s0 s) (hm : within [.reg .saf, .reg .err, .log] m = true) : Keeps m s0 (State.darkTest k som stays s) := by
  unfold State.darkTest
  try dsimp only
  repeat' with_reducible first
    | exact h
    | refine keeps_ite (fun _ => ?_) (fun _ => ?_)
    | refine State.showOutputs_keeps ?_ (within_trans hm (by decide))
    | refine State.severe_keeps ?_ (within_trans hm (by decide))
    | refine State.put_keeps (by first | exact SAF_SO_FCODE_blk .. | exact SAF_SO_FLT_blk .. | exact SAF_SO_SOMR_blk .. | exact SAF_SO_SOPR_blk .. | (refine blk_ite ?_ ?_ <;> first | exact SAF_SO_FCODE_blk .. | exact SAF_SO_FLT_blk .. | exact SAF_SO_SOMR_blk .. | exact SAF_SO_SOPR_blk ..)) ?_ (within_trans hm (by decide))
    | refine State.mark_keeps (by first | exact SAF_SO_FCODE_blk .. | exact SAF_SO_FLT_blk .. | exact SAF_SO_SOMR_blk .. | exact SAF_SO_SOPR_blk .. | (refine blk_ite ?_ ?_ <;> first | exact SAF_SO_FCODE_blk .. | exact SAF_SO_FLT_blk .. | exact SAF_SO_SOMR_blk .. | exact SAF_SO_SOPR_blk ..)) ?_ (within_trans hm (by decide))
    | refine keeps_pair (by assumption) ?_
    | split

theorem State.logEntry_keeps {kind old new ip arg} (h : Keeps m s0 s) (hm : within [.reg .saf, .saf] m = true) : Keeps m s0 (State.logEntry kind old new ip arg s) := by
  unfold State.logEntry
  try dsimp only
  repeat' with_reducible first
    | exact h
    | refine keeps_ite (fun _ => ?_) (fun _ => ?_)
    | refine State.showLog_keeps ?_ (within_trans hm (by decide))
    | refine State.sf_keeps ?_ (within_trans hm (by decide))
    | refine keeps_pair (by assumption) ?_
    | split

theorem State.safRequest_keeps {pw ok go} (hg : ∀ t, Keeps m s0 t → Keeps m s0 (go t).2) (h : Keeps m s0 s) (hm : within [.reg .prf, .reg .eng, .reg .csf, .reg .fbk, .reg .pwm, .reg .knl, .reg .que, .reg .dio, .reg .saf, .reg .err, .fresh, .sets, .bulk, .log, .knl, .que, .axes, .prf, .pwm, .probes, .saf] m = true) :
    Keeps m s0 (s.safRequest pw ok go).2 := by
  unfold State.safRequest
  dsimp only
  repeat' with_reducible first
    | exact h
    | refine hg _ ?_
    | refine keeps_ite (fun _ => ?_) (fun _ => ?_)
    | refine State.bump_keeps (by first | exact SAF_PW_FAIL_blk .. | exact SAF_ST_PWLOCK_blk .. | (refine blk_ite ?_ ?_ <;> first | exact SAF_PW_FAIL_blk .. | exact SAF_ST_PWLOCK_blk ..)) ?_ (within_trans hm (by decide))
    | refine State.sf_keeps ?_ (within_trans hm (by decide))
    | refine State.mark_keeps (by first | exact SAF_PW_FAIL_blk .. | exact SAF_ST_PWLOCK_blk .. | (refine blk_ite ?_ ?_ <;> first | exact SAF_PW_FAIL_blk .. | exact SAF_ST_PWLOCK_blk ..)) ?_ (within_trans hm (by decide))
    | refine State.put_keeps (by first | exact SAF_PW_FAIL_blk .. | exact SAF_ST_PWLOCK_blk .. | (refine blk_ite ?_ ?_ <;> first | exact SAF_PW_FAIL_blk .. | exact SAF_ST_PWLOCK_blk ..)) ?_ (within_trans hm (by decide))
    | refine State.drew_keeps ?_ (within_trans hm (by decide))
    | refine State.safFault_keeps ?_ (within_trans hm (by decide))
    | split

theorem State.accept_keeps {scrc ip} (h : Keeps m s0 s) (hm : within [.reg .prf, .reg .eng, .reg .csf, .reg .fbk, .reg .pwm, .reg .knl, .reg .que, .reg .dio, .reg .saf, .reg .err, .fresh, .sets, .bulk, .log, .knl, .que, .axes, .prf, .pwm, .probes, .saf] m = true) : Keeps m s0 (State.accept scrc ip s).2 := by
  unfold State.accept
  try dsimp only
  repeat' with_reducible first
    | exact h
    | refine keeps_ite (fun _ => ?_) (fun _ => ?_)
    | refine State.mark_keeps (by first | exact SAF_ST_LOGFULL_blk ..) ?_ (within_trans hm (by decide))
    | refine State.sf_keeps ?_ (within_trans hm (by decide))
    | refine State.logEntry_keeps ?_ (within_trans hm (by decide))
    | refine State.showAccepted_keeps ?_ (within_trans hm (by decide))
    | refine State.safLines_keeps ?_ (within_trans hm (by decide))
    | refine keeps_pair (by assumption) ?_
    | split

theorem State.withdraw_keeps {ip} (h : Keeps m s0 s) (hm : within [.reg .prf, .reg .eng, .reg .csf, .reg .fbk, .reg .pwm, .reg .knl, .reg .que, .reg .dio, .reg .saf, .reg .err, .fresh, .sets, .bulk, .log, .knl, .que, .axes, .prf, .pwm, .probes, .saf] m = true) : Keeps m s0 (State.withdraw ip s).2 := by
  unfold State.withdraw
  try dsimp only
  repeat' with_reducible first
    | exact h
    | refine keeps_ite (fun _ => ?_) (fun _ => ?_)
    | refine State.mark_keeps (by first | exact SAF_ST_LOGFULL_blk ..) ?_ (within_trans hm (by decide))
    | refine State.showAccepted_keeps ?_ (within_trans hm (by decide))
    | refine State.sf_keeps ?_ (within_trans hm (by decide))
    | refine State.safLines_keeps ?_ (within_trans hm (by decide))
    | refine State.logEntry_keeps ?_ (within_trans hm (by decide))
    | refine keeps_pair (by assumption) ?_
    | split

theorem State.clearLog_keeps {seq ip} (h : Keeps m s0 s) (hm : within [.reg .saf, .saf] m = true) : Keeps m s0 (State.clearLog seq ip s).2 := by
  unfold State.clearLog
  try dsimp only
  repeat' with_reducible first
    | exact h
    | refine keeps_ite (fun _ => ?_) (fun _ => ?_)
    | refine State.logEntry_keeps ?_ (within_trans hm (by decide))
    | refine State.sf_keeps ?_ (within_trans hm (by decide))
    | refine keeps_pair (by assumption) ?_
    | split

theorem State.lockEnd_keeps (h : Keeps m s0 s) (hm : within [.reg .saf, .saf] m = true) : Keeps m s0 (State.lockEnd s) := by
  unfold State.lockEnd
  try dsimp only
  repeat' with_reducible first
    | exact h
    | refine keeps_ite (fun _ => ?_) (fun _ => ?_)
    | refine State.sf_keeps ?_ (within_trans hm (by decide))
    | refine State.mark_keeps (by first | exact SAF_ST_PWLOCK_blk ..) ?_ (within_trans hm (by decide))
    | refine keeps_pair (by assumption) ?_
    | split

theorem execSafeInputChange_keeps {dt kerca b i level} {t} (e : execSafeInputChange dt kerca b i level s = .next t) : Keeps [.reg .prf, .reg .eng, .reg .csf, .reg .fbk, .reg .pwm, .reg .knl, .reg .que, .reg .dio, .reg .saf, .reg .err, .fresh, .sets, .clk, .bulk, .log, .knl, .que, .axes, .prf, .pwm, .probes, .saf] s t := by
  have hm := within_refl [.reg .prf, .reg .eng, .reg .csf, .reg .fbk, .reg .pwm, .reg .knl, .reg .que, .reg .dio, .reg .saf, .reg .err, .fresh, .sets, .clk, .bulk, .log, .knl, .que, .axes, .prf, .pwm, .probes, .saf]
  have h := Keeps.refl [.reg .prf, .reg .eng, .reg .csf, .reg .fbk, .reg .pwm, .reg .knl, .reg .que, .reg .dio, .reg .saf, .reg .err, .fresh, .sets, .clk, .bulk, .log, .knl, .que, .axes, .prf, .pwm, .probes, .saf] s
  simp only [execSafeInputChange, Host.Outcome.next.injEq] at e
  subst e
  repeat' with_reducible first
    | exact h
    | refine keeps_ite (fun _ => ?_) (fun _ => ?_)
    | refine State.elapse_keeps ?_ (within_trans hm (by decide))
    | refine State.mark_keeps (by first | (dsimp only; split <;> first | exact SAF_SINK_blk | exact SAF_SINC_blk)) ?_ (within_trans hm (by decide))
    | refine State.safEval_keeps ?_ (within_trans hm (by decide))
    | refine keeps_pair (by assumption) ?_
    | split

theorem execDiscrepancyFault_keeps {dt i} {t} (e : execDiscrepancyFault dt i s = .next t) : Keeps [.reg .prf, .reg .eng, .reg .csf, .reg .fbk, .reg .pwm, .reg .knl, .reg .que, .reg .dio, .reg .saf, .reg .err, .fresh, .sets, .clk, .bulk, .log, .knl, .que, .axes, .prf, .pwm, .probes, .saf] s t := by
  have hm := within_refl [.reg .prf, .reg .eng, .reg .csf, .reg .fbk, .reg .pwm, .reg .knl, .reg .que, .reg .dio, .reg .saf, .reg .err, .fresh, .sets, .clk, .bulk, .log, .knl, .que, .axes, .prf, .pwm, .probes, .saf]
  have h := Keeps.refl [.reg .prf, .reg .eng, .reg .csf, .reg .fbk, .reg .pwm, .reg .knl, .reg .que, .reg .dio, .reg .saf, .reg .err, .fresh, .sets, .clk, .bulk, .log, .knl, .que, .axes, .prf, .pwm, .probes, .saf] s
  simp only [execDiscrepancyFault, Host.Outcome.next.injEq] at e
  subst e
  repeat' with_reducible first
    | exact h
    | refine keeps_ite (fun _ => ?_) (fun _ => ?_)
    | refine State.elapse_keeps ?_ (within_trans hm (by decide))
    | refine State.safEval_keeps ?_ (within_trans hm (by decide))
    | refine State.latchPair_keeps ?_ (within_trans hm (by decide))
    | refine keeps_pair (by assumption) ?_
    | split

theorem execSrstPress_keeps {dt} {t} (e : execSrstPress dt s = .next t) : Keeps [.sets, .clk, .saf] s t := by
  have hm := within_refl [.sets, .clk, .saf]
  have h := Keeps.refl [.sets, .clk, .saf] s
  simp only [execSrstPress, Host.Outcome.next.injEq] at e
  subst e
  repeat' with_reducible first
    | exact h
    | refine keeps_ite (fun _ => ?_) (fun _ => ?_)
    | refine State.elapse_keeps ?_ (within_trans hm (by decide))
    | refine State.sf_keeps ?_ (within_trans hm (by decide))
    | refine keeps_getD (fun _ _ => ?_) ?_
    | refine keeps_pair (by assumption) ?_
    | split

theorem execSrstRelease_keeps {dt skew} {t} (e : execSrstRelease dt skew s = .next t) : Keeps [.reg .prf, .reg .eng, .reg .csf, .reg .fbk, .reg .pwm, .reg .knl, .reg .que, .reg .dio, .reg .saf, .reg .err, .fresh, .sets, .clk, .bulk, .log, .knl, .que, .axes, .prf, .pwm, .probes, .saf] s t := by
  have hm := within_refl [.reg .prf, .reg .eng, .reg .csf, .reg .fbk, .reg .pwm, .reg .knl, .reg .que, .reg .dio, .reg .saf, .reg .err, .fresh, .sets, .clk, .bulk, .log, .knl, .que, .axes, .prf, .pwm, .probes, .saf]
  have h := Keeps.refl [.reg .prf, .reg .eng, .reg .csf, .reg .fbk, .reg .pwm, .reg .knl, .reg .que, .reg .dio, .reg .saf, .reg .err, .fresh, .sets, .clk, .bulk, .log, .knl, .que, .axes, .prf, .pwm, .probes, .saf] s
  simp only [execSrstRelease, Host.Outcome.next.injEq] at e
  subst e
  repeat' with_reducible first
    | exact h
    | refine keeps_ite (fun _ => ?_) (fun _ => ?_)
    | refine State.resetRelease_keeps ?_ (within_trans hm (by decide))
    | refine State.elapse_keeps ?_ (within_trans hm (by decide))
    | refine keeps_pair (by assumption) ?_
    | split

theorem execResetStuck_keeps {dt} {t} (e : execResetStuck dt s = .next t) : Keeps [.reg .saf, .reg .err, .sets, .clk, .log] s t := by
  have hm := within_refl [.reg .saf, .reg .err, .sets, .clk, .log]
  have h := Keeps.refl [.reg .saf, .reg .err, .sets, .clk, .log] s
  simp only [execResetStuck, Host.Outcome.next.injEq] at e
  subst e
  repeat' with_reducible first
    | exact h
    | refine keeps_ite (fun _ => ?_) (fun _ => ?_)
    | refine State.elapse_keeps ?_ (within_trans hm (by decide))
    | refine State.raise_keeps (by first | exact SAF_RST_STUCK_blk ..) ?_ (within_trans hm (by decide))
    | refine keeps_pair (by assumption) ?_
    | split

theorem execSs1T1Elapsed_keeps {dt kerca f} {t} (e : execSs1T1Elapsed dt kerca f s = .next t) : Keeps [.reg .prf, .reg .eng, .reg .csf, .reg .fbk, .reg .pwm, .reg .knl, .reg .que, .reg .dio, .reg .saf, .reg .err, .fresh, .sets, .clk, .bulk, .log, .knl, .que, .axes, .prf, .pwm, .probes, .saf] s t := by
  have hm := within_refl [.reg .prf, .reg .eng, .reg .csf, .reg .fbk, .reg .pwm, .reg .knl, .reg .que, .reg .dio, .reg .saf, .reg .err, .fresh, .sets, .clk, .bulk, .log, .knl, .que, .axes, .prf, .pwm, .probes, .saf]
  have h := Keeps.refl [.reg .prf, .reg .eng, .reg .csf, .reg .fbk, .reg .pwm, .reg .knl, .reg .que, .reg .dio, .reg .saf, .reg .err, .fresh, .sets, .clk, .bulk, .log, .knl, .que, .axes, .prf, .pwm, .probes, .saf] s
  simp only [execSs1T1Elapsed, Host.Outcome.next.injEq] at e
  subst e
  repeat' with_reducible first
    | exact h
    | refine keeps_ite (fun _ => ?_) (fun _ => ?_)
    | refine State.t1Elapsed_keeps ?_ (within_trans hm (by decide))
    | refine State.elapse_keeps ?_ (within_trans hm (by decide))
    | refine keeps_pair (by assumption) ?_
    | split

theorem execSafetyMeasurement_keeps {dt} {t} (e : execSafetyMeasurement dt s = .next t) : Keeps [.reg .prf, .reg .eng, .reg .csf, .reg .fbk, .reg .pwm, .reg .knl, .reg .que, .reg .dio, .reg .saf, .reg .err, .fresh, .sets, .clk, .bulk, .log, .knl, .que, .axes, .prf, .pwm, .probes, .saf] s t := by
  have hm := within_refl [.reg .prf, .reg .eng, .reg .csf, .reg .fbk, .reg .pwm, .reg .knl, .reg .que, .reg .dio, .reg .saf, .reg .err, .fresh, .sets, .clk, .bulk, .log, .knl, .que, .axes, .prf, .pwm, .probes, .saf]
  have h := Keeps.refl [.reg .prf, .reg .eng, .reg .csf, .reg .fbk, .reg .pwm, .reg .knl, .reg .que, .reg .dio, .reg .saf, .reg .err, .fresh, .sets, .clk, .bulk, .log, .knl, .que, .axes, .prf, .pwm, .probes, .saf] s
  simp only [execSafetyMeasurement, Host.Outcome.next.injEq] at e
  subst e
  repeat' with_reducible first
    | exact h
    | refine keeps_ite (fun _ => ?_) (fun _ => ?_)
    | refine State.elapse_keeps ?_ (within_trans hm (by decide))
    | refine State.safMeasure_keeps ?_ (within_trans hm (by decide))
    | refine keeps_pair (by assumption) ?_
    | split

theorem execSafetyEncoderRead_keeps {dt p f} {t} (e : execSafetyEncoderRead dt p f s = .next t) : Keeps [.reg .prf, .reg .eng, .reg .csf, .reg .fbk, .reg .pwm, .reg .knl, .reg .que, .reg .acq, .reg .dio, .reg .err, .sets, .clk, .bulk, .log, .knl, .que, .axes, .prf, .pwm, .drn, .ports, .probes, .acq] s t := by
  have hm := within_refl [.reg .prf, .reg .eng, .reg .csf, .reg .fbk, .reg .pwm, .reg .knl, .reg .que, .reg .acq, .reg .dio, .reg .err, .sets, .clk, .bulk, .log, .knl, .que, .axes, .prf, .pwm, .drn, .ports, .probes, .acq]
  have h := Keeps.refl [.reg .prf, .reg .eng, .reg .csf, .reg .fbk, .reg .pwm, .reg .knl, .reg .que, .reg .acq, .reg .dio, .reg .err, .sets, .clk, .bulk, .log, .knl, .que, .axes, .prf, .pwm, .drn, .ports, .probes, .acq] s
  simp only [execSafetyEncoderRead, Host.Outcome.next.injEq] at e
  subst e
  repeat' with_reducible first
    | exact h
    | refine keeps_ite (fun _ => ?_) (fun _ => ?_)
    | refine State.elapse_keeps ?_ (within_trans hm (by decide))
    | refine State.readPort_keeps ?_ (within_trans hm (by decide))
    | refine keeps_pair (by assumption) ?_
    | split

theorem execReadbackFault_keeps {dt g b high} {t} (e : execReadbackFault dt g b high s = .next t) : Keeps [.reg .prf, .reg .eng, .reg .csf, .reg .fbk, .reg .pwm, .reg .knl, .reg .que, .reg .dio, .reg .saf, .reg .err, .fresh, .sets, .clk, .bulk, .log, .knl, .que, .axes, .prf, .pwm, .probes, .saf] s t := by
  have hm := within_refl [.reg .prf, .reg .eng, .reg .csf, .reg .fbk, .reg .pwm, .reg .knl, .reg .que, .reg .dio, .reg .saf, .reg .err, .fresh, .sets, .clk, .bulk, .log, .knl, .que, .axes, .prf, .pwm, .probes, .saf]
  have h := Keeps.refl [.reg .prf, .reg .eng, .reg .csf, .reg .fbk, .reg .pwm, .reg .knl, .reg .que, .reg .dio, .reg .saf, .reg .err, .fresh, .sets, .clk, .bulk, .log, .knl, .que, .axes, .prf, .pwm, .probes, .saf] s
  simp only [execReadbackFault, Host.Outcome.next.injEq] at e
  subst e
  repeat' with_reducible first
    | exact h
    | refine keeps_ite (fun _ => ?_) (fun _ => ?_)
    | refine State.elapse_keeps ?_ (within_trans hm (by decide))
    | refine State.landReadback_keeps ?_ (within_trans hm (by decide))
    | refine keeps_pair (by assumption) ?_
    | split

theorem execTestdue_keeps {dt g} {t} (e : execTestdue dt g s = .next t) : Keeps [.reg .saf, .reg .err, .sets, .clk, .log] s t := by
  have hm := within_refl [.reg .saf, .reg .err, .sets, .clk, .log]
  have h := Keeps.refl [.reg .saf, .reg .err, .sets, .clk, .log] s
  simp only [execTestdue, Host.Outcome.next.injEq] at e
  subst e
  repeat' with_reducible first
    | exact h
    | refine keeps_ite (fun _ => ?_) (fun _ => ?_)
    | refine State.elapse_keeps ?_ (within_trans hm (by decide))
    | refine State.raise_keeps (by first | exact SAF_GRP_TESTDUE_blk ..) ?_ (within_trans hm (by decide))
    | refine keeps_pair (by assumption) ?_
    | split

theorem execDarkTest_keeps {dt k som stays} {t} (e : execDarkTest dt k som stays s = .next t) : Keeps [.reg .saf, .reg .err, .sets, .clk, .log] s t := by
  have hm := within_refl [.reg .saf, .reg .err, .sets, .clk, .log]
  have h := Keeps.refl [.reg .saf, .reg .err, .sets, .clk, .log] s
  simp only [execDarkTest, Host.Outcome.next.injEq] at e
  subst e
  repeat' with_reducible first
    | exact h
    | refine keeps_ite (fun _ => ?_) (fun _ => ?_)
    | refine State.darkTest_keeps ?_ (within_trans hm (by decide))
    | refine State.elapse_keeps ?_ (within_trans hm (by decide))
    | refine keeps_pair (by assumption) ?_
    | split

theorem execSafetyPduSend_keeps {dt n} {t} (e : execSafetyPduSend dt n s = .next t) : Keeps [.reg .saf, .sets, .clk, .ring, .saf] s t := by
  have hm := within_refl [.reg .saf, .sets, .clk, .ring, .saf]
  have h := Keeps.refl [.reg .saf, .sets, .clk, .ring, .saf] s
  simp only [execSafetyPduSend, Host.Outcome.next.injEq] at e
  subst e
  repeat' with_reducible first
    | exact h
    | refine keeps_ite (fun _ => ?_) (fun _ => ?_)
    | refine State.pduSend_keeps ?_ (within_trans hm (by decide))
    | refine State.elapse_keeps ?_ (within_trans hm (by decide))
    | refine keeps_pair (by assumption) ?_
    | split

theorem execSafetyPduReceive_keeps {dt n} {t} (e : execSafetyPduReceive dt n s = .next t) : Keeps [.reg .prf, .reg .eng, .reg .csf, .reg .fbk, .reg .pwm, .reg .knl, .reg .que, .reg .dio, .reg .saf, .reg .err, .fresh, .sets, .clk, .bulk, .log, .knl, .que, .axes, .prf, .pwm, .probes, .saf] s t := by
  have hm := within_refl [.reg .prf, .reg .eng, .reg .csf, .reg .fbk, .reg .pwm, .reg .knl, .reg .que, .reg .dio, .reg .saf, .reg .err, .fresh, .sets, .clk, .bulk, .log, .knl, .que, .axes, .prf, .pwm, .probes, .saf]
  have h := Keeps.refl [.reg .prf, .reg .eng, .reg .csf, .reg .fbk, .reg .pwm, .reg .knl, .reg .que, .reg .dio, .reg .saf, .reg .err, .fresh, .sets, .clk, .bulk, .log, .knl, .que, .axes, .prf, .pwm, .probes, .saf] s
  simp only [execSafetyPduReceive, Host.Outcome.next.injEq] at e
  subst e
  repeat' with_reducible first
    | exact h
    | refine keeps_ite (fun _ => ?_) (fun _ => ?_)
    | refine State.pduReceive_keeps ?_ (within_trans hm (by decide))
    | refine State.elapse_keeps ?_ (within_trans hm (by decide))
    | refine keeps_pair (by assumption) ?_
    | split

theorem execConnectionWatchdog_keeps {dt n} {t} (e : execConnectionWatchdog dt n s = .next t) : Keeps [.reg .prf, .reg .eng, .reg .csf, .reg .fbk, .reg .pwm, .reg .knl, .reg .que, .reg .dio, .reg .saf, .reg .err, .fresh, .sets, .clk, .bulk, .log, .knl, .que, .axes, .prf, .pwm, .probes, .saf] s t := by
  have hm := within_refl [.reg .prf, .reg .eng, .reg .csf, .reg .fbk, .reg .pwm, .reg .knl, .reg .que, .reg .dio, .reg .saf, .reg .err, .fresh, .sets, .clk, .bulk, .log, .knl, .que, .axes, .prf, .pwm, .probes, .saf]
  have h := Keeps.refl [.reg .prf, .reg .eng, .reg .csf, .reg .fbk, .reg .pwm, .reg .knl, .reg .que, .reg .dio, .reg .saf, .reg .err, .fresh, .sets, .clk, .bulk, .log, .knl, .que, .axes, .prf, .pwm, .probes, .saf] s
  simp only [execConnectionWatchdog, Host.Outcome.next.injEq] at e
  subst e
  repeat' with_reducible first
    | exact h
    | refine keeps_ite (fun _ => ?_) (fun _ => ?_)
    | refine State.connWatchdog_keeps ?_ (within_trans hm (by decide))
    | refine State.elapse_keeps ?_ (within_trans hm (by decide))
    | refine keeps_pair (by assumption) ?_
    | split

theorem execSafetyHeartbeat_keeps {dt core kerca} {t} (e : execSafetyHeartbeat dt core kerca s = .next t) : Keeps [.reg .prf, .reg .eng, .reg .csf, .reg .fbk, .reg .pwm, .reg .knl, .reg .que, .reg .dio, .reg .saf, .reg .err, .fresh, .sets, .clk, .bulk, .log, .knl, .que, .axes, .prf, .pwm, .probes, .saf] s t := by
  have hm := within_refl [.reg .prf, .reg .eng, .reg .csf, .reg .fbk, .reg .pwm, .reg .knl, .reg .que, .reg .dio, .reg .saf, .reg .err, .fresh, .sets, .clk, .bulk, .log, .knl, .que, .axes, .prf, .pwm, .probes, .saf]
  have h := Keeps.refl [.reg .prf, .reg .eng, .reg .csf, .reg .fbk, .reg .pwm, .reg .knl, .reg .que, .reg .dio, .reg .saf, .reg .err, .fresh, .sets, .clk, .bulk, .log, .knl, .que, .axes, .prf, .pwm, .probes, .saf] s
  simp only [execSafetyHeartbeat, Host.Outcome.next.injEq] at e
  subst e
  repeat' with_reducible first
    | exact h
    | refine keeps_ite (fun _ => ?_) (fun _ => ?_)
    | refine State.elapse_keeps ?_ (within_trans hm (by decide))
    | refine State.heartbeat_keeps ?_ (within_trans hm (by decide))
    | refine keeps_pair (by assumption) ?_
    | split

theorem execCrossExchange_keeps {dt} {t} (e : execCrossExchange dt s = .next t) : Keeps [.reg .prf, .reg .eng, .reg .csf, .reg .fbk, .reg .pwm, .reg .knl, .reg .que, .reg .dio, .reg .saf, .reg .err, .fresh, .sets, .clk, .bulk, .log, .knl, .que, .axes, .prf, .pwm, .probes, .saf] s t := by
  have hm := within_refl [.reg .prf, .reg .eng, .reg .csf, .reg .fbk, .reg .pwm, .reg .knl, .reg .que, .reg .dio, .reg .saf, .reg .err, .fresh, .sets, .clk, .bulk, .log, .knl, .que, .axes, .prf, .pwm, .probes, .saf]
  have h := Keeps.refl [.reg .prf, .reg .eng, .reg .csf, .reg .fbk, .reg .pwm, .reg .knl, .reg .que, .reg .dio, .reg .saf, .reg .err, .fresh, .sets, .clk, .bulk, .log, .knl, .que, .axes, .prf, .pwm, .probes, .saf] s
  simp only [execCrossExchange, Host.Outcome.next.injEq] at e
  subst e
  repeat' with_reducible first
    | exact h
    | refine keeps_ite (fun _ => ?_) (fun _ => ?_)
    | refine State.elapse_keeps ?_ (within_trans hm (by decide))
    | refine State.crossExchange_keeps ?_ (within_trans hm (by decide))
    | refine keeps_pair (by assumption) ?_
    | split

theorem execPasswordLockoutEnd_keeps {dt} {t} (e : execPasswordLockoutEnd dt s = .next t) : Keeps [.reg .saf, .sets, .clk, .saf] s t := by
  have hm := within_refl [.reg .saf, .sets, .clk, .saf]
  have h := Keeps.refl [.reg .saf, .sets, .clk, .saf] s
  simp only [execPasswordLockoutEnd, Host.Outcome.next.injEq] at e
  subst e
  repeat' with_reducible first
    | exact h
    | refine keeps_ite (fun _ => ?_) (fun _ => ?_)
    | refine State.lockEnd_keeps ?_ (within_trans hm (by decide))
    | refine State.elapse_keeps ?_ (within_trans hm (by decide))
    | refine keeps_pair (by assumption) ?_
    | split

/-! ### ErrLog -/

theorem State.showRing_keeps (h : Keeps m s0 s) (hm : within [.reg .err] m = true) : Keeps m s0 (State.showRing s) := by
  unfold State.showRing
  try dsimp only
  repeat' with_reducible first
    | exact h
    | refine keeps_ite (fun _ => ?_) (fun _ => ?_)
    | refine State.wr_keeps (by first | exact ERR_LOGST_HELD_blk .. | exact ERR_OLDEST_blk .. | exact whole_blk (ERR_OLDEST_blk ..) | (refine blk_ite ?_ ?_ <;> first | exact ERR_LOGST_HELD_blk .. | exact ERR_OLDEST_blk .. | exact whole_blk (ERR_OLDEST_blk ..))) ?_ (within_trans hm (by decide))
    | refine State.put_keeps (by first | exact ERR_LOGST_HELD_blk .. | exact ERR_OLDEST_blk .. | exact whole_blk (ERR_OLDEST_blk ..) | (refine blk_ite ?_ ?_ <;> first | exact ERR_LOGST_HELD_blk .. | exact ERR_OLDEST_blk .. | exact whole_blk (ERR_OLDEST_blk ..))) ?_ (within_trans hm (by decide))
    | refine keeps_pair (by assumption) ?_
    | split

theorem State.takeFrom_keeps {i} (h : Keeps m s0 s) (hm : within [.reg .knl, .reg .err, .log, .knl] m = true) : Keeps m s0 (s.takeFrom i) := by
  unfold State.takeFrom
  split
  · exact h
  · rename_i r rest e
    have hl : ∀ l : ErrLog, (∀ j, (tabGet [] l.bufs j).length ≤ 4) → l.ring.length ≤ 1024 → True := fun _ _ _ => trivial
    have step : ∀ x : LogRec, Keeps m s0 (s.onLog fun l =>
        { l with bufs := tabSet l.bufs i rest, lastSrc := i, lastTake := some s.clk.elapsed,
                 ring := (l.ring ++ [x]).drop (l.ring.length + 1 - 1024), toPersist := if x.sev = 4 then l.toPersist ++ [x] else l.toPersist }) := by
      intro x
      refine ⟨h.pending, fun g0 => ?_, fun p hp => by cases p <;> first | exact h.same _ hp | (exfalso; revert hm; simp [within]; intros; contradiction)⟩
      have g := h.safe g0
      refine ⟨g.bulk, g.space, g.ns, g.sec, g.frac, bufs_tabSet g.bufs ?_, ?_⟩
      · have := g.bufs i
        rw [e, List.length_cons] at this
        omega
      · dsimp only [State.onLog]
        rw [List.length_drop, List.length_append]
        simp only [List.length_singleton]
        omega
    have main := fun x => State.showRing_keeps (State.put_keeps (by first | exact whole_blk (ERR_PRES_blk ..) | exact whole_blk (ERR_LTOT_blk ..) | exact ERR_LOST_LOST_blk .. | exact ERR_LOST_LOSTP_blk .. | exact ERR_LOST_BUF_blk .. | exact whole_blk (ERR_LOGD_blk ..) | exact whole_blk ERR_NEXT_blk) (f := ERR_LOST_BUF i) (v := rest.length) (State.bump_keeps (by first | exact whole_blk (ERR_PRES_blk ..) | exact whole_blk (ERR_LTOT_blk ..) | exact ERR_LOST_LOST_blk .. | exact ERR_LOST_LOSTP_blk .. | exact ERR_LOST_BUF_blk .. | exact whole_blk (ERR_LOGD_blk ..) | exact whole_blk ERR_NEXT_blk) (f := whole (ERR_LOGD i))
      (State.bump_keeps (by first | exact whole_blk (ERR_PRES_blk ..) | exact whole_blk (ERR_LTOT_blk ..) | exact ERR_LOST_LOST_blk .. | exact ERR_LOST_LOSTP_blk .. | exact ERR_LOST_BUF_blk .. | exact whole_blk (ERR_LOGD_blk ..) | exact whole_blk ERR_NEXT_blk) (f := whole ERR_NEXT) (step x) (within_trans hm (by decide))) (within_trans hm (by decide))) (within_trans hm (by decide)))
      (within_trans hm (by decide))
    dsimp only
    exact keeps_ite (fun _ => State.event_keeps (main _) (within_trans hm (by decide))) (fun _ => main _)

theorem State.takeReport_keeps (h : Keeps m s0 s) (hm : within [.reg .knl, .reg .err, .log, .knl] m = true) : Keeps m s0 (State.takeReport s) := by
  unfold State.takeReport
  try dsimp only
  repeat' with_reducible first
    | exact h
    | refine keeps_ite (fun _ => ?_) (fun _ => ?_)
    | refine State.takeFrom_keeps ?_ (within_trans hm (by decide))
    | refine keeps_pair (by assumption) ?_
    | split

theorem State.showSlots_keeps (h : Keeps m s0 s) (hm : within [.reg .err] m = true) : Keeps m s0 (State.showSlots s) := by
  unfold State.showSlots
  try dsimp only
  repeat' with_reducible first
    | exact h
    | refine keeps_ite (fun _ => ?_) (fun _ => ?_)
    | refine State.put_keeps (by first | exact ERR_LOGST_NPERS_blk ..) ?_ (within_trans hm (by decide))
    | refine keeps_pair (by assumption) ?_
    | split

theorem State.persistOne_keeps (h : Keeps m s0 s) (hm : within [.reg .err, .log] m = true) : Keeps m s0 s.persistOne := by
  unfold State.persistOne
  split
  · exact h
  · exact State.showSlots_keeps (State.onLog_keeps (fun l hb hr => ⟨hb, by simpa using hr⟩) h (within_trans hm (by decide)))
      (within_trans hm (by decide))

theorem execLogTake_keeps {dt} {t} (e : execLogTake dt s = .next t) : Keeps [.reg .knl, .reg .err, .sets, .clk, .log, .knl] s t := by
  have hm := within_refl [.reg .knl, .reg .err, .sets, .clk, .log, .knl]
  have h := Keeps.refl [.reg .knl, .reg .err, .sets, .clk, .log, .knl] s
  simp only [execLogTake, Host.Outcome.next.injEq] at e
  subst e
  repeat' with_reducible first
    | exact h
    | refine keeps_ite (fun _ => ?_) (fun _ => ?_)
    | refine State.takeReport_keeps ?_ (within_trans hm (by decide))
    | refine State.elapse_keeps ?_ (within_trans hm (by decide))
    | refine keeps_pair (by assumption) ?_
    | split

theorem execPersist_keeps {dt} {t} (e : execPersist dt s = .next t) : Keeps [.reg .err, .sets, .clk, .log] s t := by
  have hm := within_refl [.reg .err, .sets, .clk, .log]
  have h := Keeps.refl [.reg .err, .sets, .clk, .log] s
  simp only [execPersist, Host.Outcome.next.injEq] at e
  subst e
  repeat' with_reducible first
    | exact h
    | refine keeps_ite (fun _ => ?_) (fun _ => ?_)
    | refine State.persistOne_keeps ?_ (within_trans hm (by decide))
    | refine State.elapse_keeps ?_ (within_trans hm (by decide))
    | refine keeps_pair (by assumption) ?_
    | split

end Sys2Proof.Machine
end

