-- ==== Sys2Proof/Laws/KeepsStart.lean ====
section
/-! SUPPORT. What each operation and command of Image, ImageCheck, Loader, Changeover, Islands, Bus, Service, RingSuper leaves alone. -/

namespace Sys2Proof.Machine

set_option linter.unusedTactic false
set_option linter.unreachableTactic false
set_option maxRecDepth 4000

variable {m : List Part} {s0 s : State}

/-! ### Image -/

theorem State.flashStore_keeps {a l} (h : Keeps m s0 s) (hm : within [.boot] m = true) : Keeps m s0 (State.flashStore a l s) := by
  unfold State.flashStore
  try dsimp only
  repeat' with_reducible first
    | exact h
    | refine keeps_ite (fun _ => ?_) (fun _ => ?_)
    | refine State.onBoot_keeps ?_ (within_trans hm (by decide))
    | refine keeps_pair (by assumption) ?_
    | split

theorem State.flashErase_keeps {a n} (h : Keeps m s0 s) (hm : within [.boot] m = true) : Keeps m s0 (State.flashErase a n s) := by
  unfold State.flashErase
  try dsimp only
  repeat' with_reducible first
    | exact h
    | refine keeps_ite (fun _ => ?_) (fun _ => ?_)
    | refine State.onBoot_keeps ?_ (within_trans hm (by decide))
    | refine keeps_pair (by assumption) ?_
    | split

/-! ### ImageCheck -/

/-! ### Loader -/

theorem State.lastPersist_keeps (h : Keeps m s0 s) (hm : within [.reg .err, .fresh, .log] m = true) : Keeps m s0 (State.lastPersist s) := by
  unfold State.lastPersist
  try dsimp only
  repeat' with_reducible first
    | exact h
    | refine keeps_ite (fun _ => ?_) (fun _ => ?_)
    | refine State.persistOne_keeps ?_ (within_trans hm (by decide))
    | refine State.drew_keeps ?_ (within_trans hm (by decide))
    | refine keeps_foldl ?_ _ ?_
    | refine keeps_foldl_snd ?_ _ ?_
    | (intro _ _ h; try dsimp only)
    | refine keeps_pair (by assumption) ?_
    | split

theorem State.enterReset_keeps (h : Keeps m s0 s) (hm : within [.reg .cfg, .reg .lsh, .reg .prf, .reg .eng, .reg .csf, .reg .fbk, .reg .pwm, .reg .knl, .reg .que, .reg .acq, .reg .rng, .reg .tim, .reg .dio, .reg .saf, .reg .err, .fresh, .sets, .clk, .bulk, .bus, .log, .knl, .que, .boot, .pow, .axes, .lim, .prf, .eng, .pwm, .drn, .ine, .shp, .csf, .ports, .probes, .menc, .acq, .ring, .tim, .dio, .saf, .svc] m = true) : Keeps m s0 s.enterReset := by
  unfold State.enterReset
  extract_lets s1
  have h1 : Keeps m s0 s1 := State.lastPersist_keeps h (within_trans hm (by decide))
  clear_value s1
  refine State.showSlots_keeps (State.wr_keeps (by first | exact ERR_BOOT_blk .. | exact whole_blk (ERR_BOOT_blk ..)) ?_ (within_trans hm (by decide))) (within_trans hm (by decide))
  refine ⟨h1.pending, fun g0 => ⟨rfl, rfl, show 0 < 10 ^ 9 by decide, show 0 < 2 ^ 48 by decide, show 0 < 2 ^ 32 by decide,
    fun _ => Nat.zero_le _, Nat.zero_le _⟩, fun p hp => ?_⟩
  cases p with
  | reg c => exact absurd (by simp only [within, List.all_eq_true, List.contains_iff_mem] at hm; exact hm _ (by cases c <;> decide)) hp
  | _ => first | exact h1.same _ hp | (exfalso; simp_all [within])

theorem State.startSequence_keeps (h : Keeps m s0 s) (hm : within [.reg .cfg, .reg .err, .boot] m = true) : Keeps m s0 (State.startSequence s) := by
  unfold State.startSequence
  try dsimp only
  repeat' with_reducible first
    | exact h
    | refine keeps_ite (fun _ => ?_) (fun _ => ?_)
    | refine State.onBoot_keeps ?_ (within_trans hm (by decide))
    | refine State.bump_keeps (by first | exact CFG_STATE_STATE_blk .. | exact ERR_BOOT_blk .. | exact whole_blk (ERR_BOOT_blk ..) | (refine blk_ite ?_ ?_ <;> first | exact CFG_STATE_STATE_blk .. | exact ERR_BOOT_blk .. | exact whole_blk (ERR_BOOT_blk ..))) ?_ (within_trans hm (by decide))
    | refine State.put_keeps (by first | exact CFG_STATE_STATE_blk .. | exact ERR_BOOT_blk .. | exact whole_blk (ERR_BOOT_blk ..) | (refine blk_ite ?_ ?_ <;> first | exact CFG_STATE_STATE_blk .. | exact ERR_BOOT_blk .. | exact whole_blk (ERR_BOOT_blk ..))) ?_ (within_trans hm (by decide))
    | refine keeps_pair (by assumption) ?_
    | split

theorem State.supplyFault_keeps {vin vio regs} (h : Keeps m s0 s) (hm : within [.reg .cfg, .reg .lsh, .reg .prf, .reg .eng, .reg .csf, .reg .fbk, .reg .pwm, .reg .knl, .reg .que, .reg .acq, .reg .rng, .reg .tim, .reg .dio, .reg .saf, .reg .err, .fresh, .sets, .clk, .bulk, .bus, .log, .knl, .que, .boot, .pow, .axes, .lim, .prf, .eng, .pwm, .drn, .ine, .shp, .csf, .ports, .probes, .menc, .acq, .ring, .tim, .dio, .saf, .svc] m = true) : Keeps m s0 (State.supplyFault vin vio regs s) := by
  unfold State.supplyFault
  try dsimp only
  repeat' with_reducible first
    | exact h
    | refine keeps_ite (fun _ => ?_) (fun _ => ?_)
    | refine State.onBoot_keeps ?_ (within_trans hm (by decide))
    | refine State.guardEnd_keeps ?_ (within_trans hm (by decide))
    | refine State.drew_keeps ?_ (within_trans hm (by decide))
    | refine State.takeFrom_keeps ?_ (within_trans hm (by decide))
    | refine State.enterReset_keeps ?_ (within_trans hm (by decide))
    | refine keeps_foldl ?_ _ ?_
    | refine keeps_foldl_snd ?_ _ ?_
    | (intro _ _ h; try dsimp only)
    | refine keeps_pair (by assumption) ?_
    | split

theorem State.straps_keeps {qvsel clksel test} (h : Keeps m s0 s) (hm : within [.boot] m = true) : Keeps m s0 (State.straps qvsel clksel test s) := by
  unfold State.straps
  try dsimp only
  repeat' with_reducible first
    | exact h
    | refine keeps_ite (fun _ => ?_) (fun _ => ?_)
    | refine State.onBoot_keeps ?_ (within_trans hm (by decide))
    | refine keeps_pair (by assumption) ?_
    | split

theorem State.release_keeps {qvsel clksel test} (h : Keeps m s0 s) (hm : within [.reg .cfg, .reg .err, .boot] m = true) : Keeps m s0 (State.release qvsel clksel test s) := by
  unfold State.release
  try dsimp only
  repeat' with_reducible first
    | exact h
    | refine keeps_ite (fun _ => ?_) (fun _ => ?_)
    | refine State.onBoot_keeps ?_ (within_trans hm (by decide))
    | refine State.straps_keeps ?_ (within_trans hm (by decide))
    | refine State.startSequence_keeps ?_ (within_trans hm (by decide))
    | refine keeps_pair (by assumption) ?_
    | split

theorem State.resetLow_keeps (h : Keeps m s0 s) (hm : within [.reg .cfg, .reg .lsh, .reg .prf, .reg .eng, .reg .csf, .reg .fbk, .reg .pwm, .reg .knl, .reg .que, .reg .acq, .reg .rng, .reg .tim, .reg .dio, .reg .saf, .reg .err, .fresh, .sets, .clk, .bulk, .bus, .log, .knl, .que, .boot, .pow, .axes, .lim, .prf, .eng, .pwm, .drn, .ine, .shp, .csf, .ports, .probes, .menc, .acq, .ring, .tim, .dio, .saf, .svc] m = true) : Keeps m s0 (State.resetLow s) := by
  unfold State.resetLow
  try dsimp only
  repeat' with_reducible first
    | exact h
    | refine keeps_ite (fun _ => ?_) (fun _ => ?_)
    | refine State.enterReset_keeps ?_ (within_trans hm (by decide))
    | refine State.onBoot_keeps ?_ (within_trans hm (by decide))
    | refine keeps_pair (by assumption) ?_
    | split

theorem State.resetHigh_keeps {qvsel clksel test} (h : Keeps m s0 s) (hm : within [.reg .cfg, .reg .err, .boot] m = true) : Keeps m s0 (State.resetHigh qvsel clksel test s) := by
  unfold State.resetHigh
  try dsimp only
  repeat' with_reducible first
    | exact h
    | refine keeps_ite (fun _ => ?_) (fun _ => ?_)
    | refine State.startSequence_keeps ?_ (within_trans hm (by decide))
    | refine State.onBoot_keeps ?_ (within_trans hm (by decide))
    | refine State.straps_keeps ?_ (within_trans hm (by decide))
    | refine keeps_pair (by assumption) ?_
    | split

theorem State.clocks_keeps (h : Keeps m s0 s) (hm : within [.reg .cfg, .clk, .bulk] m = true) : Keeps m s0 s.clocks := by
  unfold State.clocks
  refine keeps_ite (fun _ => ?_) (fun _ => h)
  exact State.put_keeps (by first | exact CFG_STATE_STATE_blk ..) (State.onBulk_keeps (fun _ _ _ => ⟨rfl, rfl⟩) (State.onClk_keeps (fun _ _ _ _ => ⟨show 0 < 10 ^ 9 by decide,
    show 0 < 2 ^ 48 by decide, show 0 < 2 ^ 32 by decide⟩) h
    (within_trans hm (by decide))) (within_trans hm (by decide))) (within_trans hm (by decide))

theorem State.flashCmd_keeps {c khz} (h : Keeps m s0 s) (hm : within [.boot] m = true) : Keeps m s0 (State.flashCmd c khz s) := by
  unfold State.flashCmd
  try dsimp only
  repeat' with_reducible first
    | exact h
    | refine keeps_ite (fun _ => ?_) (fun _ => ?_)
    | refine State.onBoot_keeps ?_ (within_trans hm (by decide))
    | refine keeps_pair (by assumption) ?_
    | split

theorem State.flashReset_keeps (h : Keeps m s0 s) (hm : within [.reg .cfg, .boot] m = true) : Keeps m s0 (State.flashReset s) := by
  unfold State.flashReset
  try dsimp only
  repeat' with_reducible first
    | exact h
    | refine keeps_ite (fun _ => ?_) (fun _ => ?_)
    | refine State.put_keeps (by first | exact CFG_STATE_STATE_blk ..) ?_ (within_trans hm (by decide))
    | refine State.onBoot_keeps ?_ (within_trans hm (by decide))
    | refine State.flashCmd_keeps ?_ (within_trans hm (by decide))
    | refine keeps_pair (by assumption) ?_
    | split

theorem State.flashFound_keeps {sfdp density quad mhz cmd13 susp} (h : Keeps m s0 s) (hm : within [.reg .cfg, .fresh, .boot] m = true) : Keeps m s0 (State.flashFound sfdp density quad mhz cmd13 susp s) := by
  unfold State.flashFound
  try dsimp only
  repeat' with_reducible first
    | exact h
    | refine keeps_ite (fun _ => ?_) (fun _ => ?_)
    | refine State.flashCmd_keeps ?_ (within_trans hm (by decide))
    | refine State.drew_keeps ?_ (within_trans hm (by decide))
    | refine State.puts_cons ?_
    | refine State.puts_nil ?_
    | refine State.put_keeps (by first | exact CFG_FLASH_CLK_blk .. | exact CFG_FLASH_DENSITY_blk .. | exact CFG_FLASH_MODE_blk .. | exact CFG_FLASH_SFDP_blk .. | exact CFG_STATE_STATE_blk .. | (refine blk_ite ?_ ?_ <;> first | exact CFG_FLASH_CLK_blk .. | exact CFG_FLASH_DENSITY_blk .. | exact CFG_FLASH_MODE_blk .. | exact CFG_FLASH_SFDP_blk .. | exact CFG_STATE_STATE_blk ..)) ?_ (within_trans hm (by decide))
    | refine State.put_keeps (by first | exact CFG_FLASH_CLK_blk .. | exact CFG_FLASH_DENSITY_blk .. | exact CFG_FLASH_MODE_blk .. | exact CFG_FLASH_SFDP_blk .. | exact CFG_STATE_STATE_blk .. | (refine blk_ite ?_ ?_ <;> first | exact CFG_FLASH_CLK_blk .. | exact CFG_FLASH_DENSITY_blk .. | exact CFG_FLASH_MODE_blk .. | exact CFG_FLASH_SFDP_blk .. | exact CFG_STATE_STATE_blk ..)) ?_ (within_trans hm (by decide))
    | refine State.onBoot_keeps ?_ (within_trans hm (by decide))
    | refine keeps_pair (by assumption) ?_
    | split

theorem State.tryBanks_keeps {l} (h : Keeps m s0 s) (hm : within [.reg .cfg, .boot] m = true) : Keeps m s0 (State.tryBanks l s) := by
  induction l generalizing s with
  | nil => exact State.put_keeps (by first | exact CFG_BOOT_CAUSE0_blk .. | exact CFG_BOOT_CAUSE1_blk .. | exact CFG_STATE_STATE_blk .. | (refine blk_ite ?_ ?_ <;> first | exact CFG_BOOT_CAUSE0_blk .. | exact CFG_BOOT_CAUSE1_blk .. | exact CFG_STATE_STATE_blk ..)) (State.onBoot_keeps h (within_trans hm (by decide))) (within_trans hm (by decide))
  | cons e l ih =>
    obtain ⟨b, c⟩ := e
    cases c with
    | zero => exact State.put_keeps (by first | exact CFG_BOOT_CAUSE0_blk .. | exact CFG_BOOT_CAUSE1_blk .. | exact CFG_STATE_STATE_blk .. | (refine blk_ite ?_ ?_ <;> first | exact CFG_BOOT_CAUSE0_blk .. | exact CFG_BOOT_CAUSE1_blk .. | exact CFG_STATE_STATE_blk ..)) (State.onBoot_keeps h (within_trans hm (by decide))) (within_trans hm (by decide))
    | succ c =>
      unfold State.tryBanks
      refine ih ?_
      exact State.put_keeps (b := .cfg) (by first | exact CFG_BOOT_CAUSE0_blk .. | exact CFG_BOOT_CAUSE1_blk .. | exact CFG_STATE_STATE_blk .. | (refine blk_ite ?_ ?_ <;> first | exact CFG_BOOT_CAUSE0_blk .. | exact CFG_BOOT_CAUSE1_blk .. | exact CFG_STATE_STATE_blk ..)) h (within_trans hm (by decide))

theorem State.rejectBank_keeps {c} (h : Keeps m s0 s) (hm : within [.reg .cfg, .boot] m = true) : Keeps m s0 (State.rejectBank c s) := by
  unfold State.rejectBank
  try dsimp only
  repeat' with_reducible first
    | exact h
    | refine keeps_ite (fun _ => ?_) (fun _ => ?_)
    | refine State.tryBanks_keeps ?_ (within_trans hm (by decide))
    | refine State.put_keeps (by first | exact CFG_BOOT_CAUSE0_blk .. | exact CFG_BOOT_CAUSE1_blk .. | (refine blk_ite ?_ ?_ <;> first | exact CFG_BOOT_CAUSE0_blk .. | exact CFG_BOOT_CAUSE1_blk ..)) ?_ (within_trans hm (by decide))
    | refine keeps_pair (by assumption) ?_
    | split

theorem State.selectBank_keeps {to0 to1} (h : Keeps m s0 s) (hm : within [.reg .cfg, .boot] m = true) : Keeps m s0 (State.selectBank to0 to1 s) := by
  unfold State.selectBank
  try dsimp only
  repeat' with_reducible first
    | exact h
    | refine keeps_ite (fun _ => ?_) (fun _ => ?_)
    | refine State.tryBanks_keeps ?_ (within_trans hm (by decide))
    | refine State.puts_cons ?_
    | refine State.puts_nil ?_
    | refine State.put_keeps (by first | exact CFG_BOOT_CAUSE0_blk .. | exact CFG_BOOT_CAUSE1_blk .. | (refine blk_ite ?_ ?_ <;> first | exact CFG_BOOT_CAUSE0_blk .. | exact CFG_BOOT_CAUSE1_blk ..)) ?_ (within_trans hm (by decide))
    | refine keeps_pair (by assumption) ?_
    | split

theorem State.loadBank_keeps {timeout} (h : Keeps m s0 s) (hm : within [.reg .cfg, .boot] m = true) : Keeps m s0 (State.loadBank timeout s) := by
  unfold State.loadBank
  try dsimp only
  repeat' with_reducible first
    | exact h
    | refine keeps_ite (fun _ => ?_) (fun _ => ?_)
    | refine State.rejectBank_keeps ?_ (within_trans hm (by decide))
    | refine State.put_keeps (by first | exact CFG_STATE_STATE_blk ..) ?_ (within_trans hm (by decide))
    | refine State.onBoot_keeps ?_ (within_trans hm (by decide))
    | refine keeps_pair (by assumption) ?_
    | split

theorem State.verify_keeps (h : Keeps m s0 s) (hm : within [.reg .cfg, .boot] m = true) : Keeps m s0 (State.verify s) := by
  unfold State.verify
  try dsimp only
  repeat' with_reducible first
    | exact h
    | refine keeps_ite (fun _ => ?_) (fun _ => ?_)
    | refine State.put_keeps (by first | exact CFG_STATE_STATE_blk ..) ?_ (within_trans hm (by decide))
    | refine State.rejectBank_keeps ?_ (within_trans hm (by decide))
    | refine keeps_pair (by assumption) ?_
    | split

theorem State.leashBase_keeps {p} (h : Keeps m s0 s) (hm : within [.reg .lsh] m = true) : Keeps m s0 (State.leashBase p s) := by
  unfold State.leashBase
  try dsimp only
  repeat' with_reducible first
    | exact h
    | refine keeps_ite (fun _ => ?_) (fun _ => ?_)
    | refine State.puts_cons ?_
    | refine State.puts_nil ?_
    | refine State.put_keeps (by first | exact LSH_AUXDTF_BASE_blk .. | exact LSH_AUXDUTY_BASE_blk .. | exact LSH_AUXMPW_BASE_blk .. | exact LSH_DHOLD_B_blk .. | exact whole_blk (LSH_DHOLD_B_blk ..) | exact LSH_DOUT_B_blk .. | exact whole_blk (LSH_DOUT_B_blk ..) | exact LSH_DTF_BASE_blk .. | exact LSH_DUTY_BASE_blk .. | exact LSH_ESC_COUNT_blk .. | exact LSH_ESC_MASK_blk .. | exact LSH_I2T_TPK_blk .. | exact LSH_ICT_BASE_blk .. | exact LSH_IPK_BASE_blk .. | exact LSH_MPW_BASE_blk .. | exact LSH_PCFG_ENV_blk .. | exact LSH_PMAX_B_blk .. | exact whole_blk (LSH_PMAX_B_blk ..) | exact LSH_PMIN_B_blk .. | exact whole_blk (LSH_PMIN_B_blk ..) | exact LSH_SPD_B_blk .. | exact whole_blk (LSH_SPD_B_blk ..) | (refine blk_ite ?_ ?_ <;> first | exact LSH_AUXDTF_BASE_blk .. | exact LSH_AUXDUTY_BASE_blk .. | exact LSH_AUXMPW_BASE_blk .. | exact LSH_DHOLD_B_blk .. | exact whole_blk (LSH_DHOLD_B_blk ..) | exact LSH_DOUT_B_blk .. | exact whole_blk (LSH_DOUT_B_blk ..) | exact LSH_DTF_BASE_blk .. | exact LSH_DUTY_BASE_blk .. | exact LSH_ESC_COUNT_blk .. | exact LSH_ESC_MASK_blk .. | exact LSH_I2T_TPK_blk .. | exact LSH_ICT_BASE_blk .. | exact LSH_IPK_BASE_blk .. | exact LSH_MPW_BASE_blk .. | exact LSH_PCFG_ENV_blk .. | exact LSH_PMAX_B_blk .. | exact whole_blk (LSH_PMAX_B_blk ..) | exact LSH_PMIN_B_blk .. | exact whole_blk (LSH_PMIN_B_blk ..) | exact LSH_SPD_B_blk .. | exact whole_blk (LSH_SPD_B_blk ..))) ?_ (within_trans hm (by decide))
    | refine State.wr64_keeps (by first | exact LSH_AUXDTF_BASE_blk .. | exact LSH_AUXDUTY_BASE_blk .. | exact LSH_AUXMPW_BASE_blk .. | exact LSH_DHOLD_B_blk .. | exact whole_blk (LSH_DHOLD_B_blk ..) | exact LSH_DOUT_B_blk .. | exact whole_blk (LSH_DOUT_B_blk ..) | exact LSH_DTF_BASE_blk .. | exact LSH_DUTY_BASE_blk .. | exact LSH_ESC_COUNT_blk .. | exact LSH_ESC_MASK_blk .. | exact LSH_I2T_TPK_blk .. | exact LSH_ICT_BASE_blk .. | exact LSH_IPK_BASE_blk .. | exact LSH_MPW_BASE_blk .. | exact LSH_PCFG_ENV_blk .. | exact LSH_PMAX_B_blk .. | exact whole_blk (LSH_PMAX_B_blk ..) | exact LSH_PMIN_B_blk .. | exact whole_blk (LSH_PMIN_B_blk ..) | exact LSH_SPD_B_blk .. | exact whole_blk (LSH_SPD_B_blk ..) | (refine blk_ite ?_ ?_ <;> first | exact LSH_AUXDTF_BASE_blk .. | exact LSH_AUXDUTY_BASE_blk .. | exact LSH_AUXMPW_BASE_blk .. | exact LSH_DHOLD_B_blk .. | exact whole_blk (LSH_DHOLD_B_blk ..) | exact LSH_DOUT_B_blk .. | exact whole_blk (LSH_DOUT_B_blk ..) | exact LSH_DTF_BASE_blk .. | exact LSH_DUTY_BASE_blk .. | exact LSH_ESC_COUNT_blk .. | exact LSH_ESC_MASK_blk .. | exact LSH_I2T_TPK_blk .. | exact LSH_ICT_BASE_blk .. | exact LSH_IPK_BASE_blk .. | exact LSH_MPW_BASE_blk .. | exact LSH_PCFG_ENV_blk .. | exact LSH_PMAX_B_blk .. | exact whole_blk (LSH_PMAX_B_blk ..) | exact LSH_PMIN_B_blk .. | exact whole_blk (LSH_PMIN_B_blk ..) | exact LSH_SPD_B_blk .. | exact whole_blk (LSH_SPD_B_blk ..))) ?_ (within_trans hm (by decide))
    | refine State.put_keeps (by first | exact LSH_AUXDTF_BASE_blk .. | exact LSH_AUXDUTY_BASE_blk .. | exact LSH_AUXMPW_BASE_blk .. | exact LSH_DHOLD_B_blk .. | exact whole_blk (LSH_DHOLD_B_blk ..) | exact LSH_DOUT_B_blk .. | exact whole_blk (LSH_DOUT_B_blk ..) | exact LSH_DTF_BASE_blk .. | exact LSH_DUTY_BASE_blk .. | exact LSH_ESC_COUNT_blk .. | exact LSH_ESC_MASK_blk .. | exact LSH_I2T_TPK_blk .. | exact LSH_ICT_BASE_blk .. | exact LSH_IPK_BASE_blk .. | exact LSH_MPW_BASE_blk .. | exact LSH_PCFG_ENV_blk .. | exact LSH_PMAX_B_blk .. | exact whole_blk (LSH_PMAX_B_blk ..) | exact LSH_PMIN_B_blk .. | exact whole_blk (LSH_PMIN_B_blk ..) | exact LSH_SPD_B_blk .. | exact whole_blk (LSH_SPD_B_blk ..) | (refine blk_ite ?_ ?_ <;> first | exact LSH_AUXDTF_BASE_blk .. | exact LSH_AUXDUTY_BASE_blk .. | exact LSH_AUXMPW_BASE_blk .. | exact LSH_DHOLD_B_blk .. | exact whole_blk (LSH_DHOLD_B_blk ..) | exact LSH_DOUT_B_blk .. | exact whole_blk (LSH_DOUT_B_blk ..) | exact LSH_DTF_BASE_blk .. | exact LSH_DUTY_BASE_blk .. | exact LSH_ESC_COUNT_blk .. | exact LSH_ESC_MASK_blk .. | exact LSH_I2T_TPK_blk .. | exact LSH_ICT_BASE_blk .. | exact LSH_IPK_BASE_blk .. | exact LSH_MPW_BASE_blk .. | exact LSH_PCFG_ENV_blk .. | exact LSH_PMAX_B_blk .. | exact whole_blk (LSH_PMAX_B_blk ..) | exact LSH_PMIN_B_blk .. | exact whole_blk (LSH_PMIN_B_blk ..) | exact LSH_SPD_B_blk .. | exact whole_blk (LSH_SPD_B_blk ..))) ?_ (within_trans hm (by decide))
    | refine State.wr_keeps (by first | exact LSH_AUXDTF_BASE_blk .. | exact LSH_AUXDUTY_BASE_blk .. | exact LSH_AUXMPW_BASE_blk .. | exact LSH_DHOLD_B_blk .. | exact whole_blk (LSH_DHOLD_B_blk ..) | exact LSH_DOUT_B_blk .. | exact whole_blk (LSH_DOUT_B_blk ..) | exact LSH_DTF_BASE_blk .. | exact LSH_DUTY_BASE_blk .. | exact LSH_ESC_COUNT_blk .. | exact LSH_ESC_MASK_blk .. | exact LSH_I2T_TPK_blk .. | exact LSH_ICT_BASE_blk .. | exact LSH_IPK_BASE_blk .. | exact LSH_MPW_BASE_blk .. | exact LSH_PCFG_ENV_blk .. | exact LSH_PMAX_B_blk .. | exact whole_blk (LSH_PMAX_B_blk ..) | exact LSH_PMIN_B_blk .. | exact whole_blk (LSH_PMIN_B_blk ..) | exact LSH_SPD_B_blk .. | exact whole_blk (LSH_SPD_B_blk ..) | (refine blk_ite ?_ ?_ <;> first | exact LSH_AUXDTF_BASE_blk .. | exact LSH_AUXDUTY_BASE_blk .. | exact LSH_AUXMPW_BASE_blk .. | exact LSH_DHOLD_B_blk .. | exact whole_blk (LSH_DHOLD_B_blk ..) | exact LSH_DOUT_B_blk .. | exact whole_blk (LSH_DOUT_B_blk ..) | exact LSH_DTF_BASE_blk .. | exact LSH_DUTY_BASE_blk .. | exact LSH_ESC_COUNT_blk .. | exact LSH_ESC_MASK_blk .. | exact LSH_I2T_TPK_blk .. | exact LSH_ICT_BASE_blk .. | exact LSH_IPK_BASE_blk .. | exact LSH_MPW_BASE_blk .. | exact LSH_PCFG_ENV_blk .. | exact LSH_PMAX_B_blk .. | exact whole_blk (LSH_PMAX_B_blk ..) | exact LSH_PMIN_B_blk .. | exact whole_blk (LSH_PMIN_B_blk ..) | exact LSH_SPD_B_blk .. | exact whole_blk (LSH_SPD_B_blk ..))) ?_ (within_trans hm (by decide))
    | refine keeps_foldl ?_ _ ?_
    | refine keeps_foldl_snd ?_ _ ?_
    | (intro _ _ h; try dsimp only)
    | refine keeps_pair (by assumption) ?_
    | split

theorem State.leashEff_keeps {p} (h : Keeps m s0 s) (hm : within [.reg .lsh] m = true) : Keeps m s0 (State.leashEff p s) := by
  unfold State.leashEff
  try dsimp only
  repeat' with_reducible first
    | exact h
    | refine keeps_ite (fun _ => ?_) (fun _ => ?_)
    | refine State.puts_cons ?_
    | refine State.puts_nil ?_
    | refine State.put_keeps (by first | exact LSH_AUXDTF_EFF_blk .. | exact LSH_AUXDUTY_EFF_blk .. | exact LSH_AUXMPW_EFF_blk .. | exact LSH_DHOLD_E_blk .. | exact whole_blk (LSH_DHOLD_E_blk ..) | exact LSH_DOUT_E_blk .. | exact whole_blk (LSH_DOUT_E_blk ..) | exact LSH_DTF_EFF_blk .. | exact LSH_DUTY_EFF_blk .. | exact LSH_ICT_EFF_blk .. | exact LSH_IPK_EFF_blk .. | exact LSH_MPW_EFF_blk .. | exact LSH_PMAX_E_blk .. | exact whole_blk (LSH_PMAX_E_blk ..) | exact LSH_PMIN_E_blk .. | exact whole_blk (LSH_PMIN_E_blk ..) | exact LSH_SPD_E_blk .. | exact whole_blk (LSH_SPD_E_blk ..) | (refine blk_ite ?_ ?_ <;> first | exact LSH_AUXDTF_EFF_blk .. | exact LSH_AUXDUTY_EFF_blk .. | exact LSH_AUXMPW_EFF_blk .. | exact LSH_DHOLD_E_blk .. | exact whole_blk (LSH_DHOLD_E_blk ..) | exact LSH_DOUT_E_blk .. | exact whole_blk (LSH_DOUT_E_blk ..) | exact LSH_DTF_EFF_blk .. | exact LSH_DUTY_EFF_blk .. | exact LSH_ICT_EFF_blk .. | exact LSH_IPK_EFF_blk .. | exact LSH_MPW_EFF_blk .. | exact LSH_PMAX_E_blk .. | exact whole_blk (LSH_PMAX_E_blk ..) | exact LSH_PMIN_E_blk .. | exact whole_blk (LSH_PMIN_E_blk ..) | exact LSH_SPD_E_blk .. | exact whole_blk (LSH_SPD_E_blk ..))) ?_ (within_trans hm (by decide))
    | refine State.wr64_keeps (by first | exact LSH_AUXDTF_EFF_blk .. | exact LSH_AUXDUTY_EFF_blk .. | exact LSH_AUXMPW_EFF_blk .. | exact LSH_DHOLD_E_blk .. | exact whole_blk (LSH_DHOLD_E_blk ..) | exact LSH_DOUT_E_blk .. | exact whole_blk (LSH_DOUT_E_blk ..) | exact LSH_DTF_EFF_blk .. | exact LSH_DUTY_EFF_blk .. | exact LSH_ICT_EFF_blk .. | exact LSH_IPK_EFF_blk .. | exact LSH_MPW_EFF_blk .. | exact LSH_PMAX_E_blk .. | exact whole_blk (LSH_PMAX_E_blk ..) | exact LSH_PMIN_E_blk .. | exact whole_blk (LSH_PMIN_E_blk ..) | exact LSH_SPD_E_blk .. | exact whole_blk (LSH_SPD_E_blk ..) | (refine blk_ite ?_ ?_ <;> first | exact LSH_AUXDTF_EFF_blk .. | exact LSH_AUXDUTY_EFF_blk .. | exact LSH_AUXMPW_EFF_blk .. | exact LSH_DHOLD_E_blk .. | exact whole_blk (LSH_DHOLD_E_blk ..) | exact LSH_DOUT_E_blk .. | exact whole_blk (LSH_DOUT_E_blk ..) | exact LSH_DTF_EFF_blk .. | exact LSH_DUTY_EFF_blk .. | exact LSH_ICT_EFF_blk .. | exact LSH_IPK_EFF_blk .. | exact LSH_MPW_EFF_blk .. | exact LSH_PMAX_E_blk .. | exact whole_blk (LSH_PMAX_E_blk ..) | exact LSH_PMIN_E_blk .. | exact whole_blk (LSH_PMIN_E_blk ..) | exact LSH_SPD_E_blk .. | exact whole_blk (LSH_SPD_E_blk ..))) ?_ (within_trans hm (by decide))
    | refine State.wr_keeps (by first | exact LSH_AUXDTF_EFF_blk .. | exact LSH_AUXDUTY_EFF_blk .. | exact LSH_AUXMPW_EFF_blk .. | exact LSH_DHOLD_E_blk .. | exact whole_blk (LSH_DHOLD_E_blk ..) | exact LSH_DOUT_E_blk .. | exact whole_blk (LSH_DOUT_E_blk ..) | exact LSH_DTF_EFF_blk .. | exact LSH_DUTY_EFF_blk .. | exact LSH_ICT_EFF_blk .. | exact LSH_IPK_EFF_blk .. | exact LSH_MPW_EFF_blk .. | exact LSH_PMAX_E_blk .. | exact whole_blk (LSH_PMAX_E_blk ..) | exact LSH_PMIN_E_blk .. | exact whole_blk (LSH_PMIN_E_blk ..) | exact LSH_SPD_E_blk .. | exact whole_blk (LSH_SPD_E_blk ..) | (refine blk_ite ?_ ?_ <;> first | exact LSH_AUXDTF_EFF_blk .. | exact LSH_AUXDUTY_EFF_blk .. | exact LSH_AUXMPW_EFF_blk .. | exact LSH_DHOLD_E_blk .. | exact whole_blk (LSH_DHOLD_E_blk ..) | exact LSH_DOUT_E_blk .. | exact whole_blk (LSH_DOUT_E_blk ..) | exact LSH_DTF_EFF_blk .. | exact LSH_DUTY_EFF_blk .. | exact LSH_ICT_EFF_blk .. | exact LSH_IPK_EFF_blk .. | exact LSH_MPW_EFF_blk .. | exact LSH_PMAX_E_blk .. | exact whole_blk (LSH_PMAX_E_blk ..) | exact LSH_PMIN_E_blk .. | exact whole_blk (LSH_PMIN_E_blk ..) | exact LSH_SPD_E_blk .. | exact whole_blk (LSH_SPD_E_blk ..))) ?_ (within_trans hm (by decide))
    | refine keeps_foldl ?_ _ ?_
    | refine keeps_foldl_snd ?_ _ ?_
    | (intro _ _ h; try dsimp only)
    | refine keeps_pair (by assumption) ?_
    | split

theorem State.effLimits_keeps {e} (h : Keeps m s0 s) (hm : within [.reg .lsh, .lim] m = true) : Keeps m s0 (State.effLimits e s) := by
  unfold State.effLimits
  try dsimp only
  repeat' with_reducible first
    | exact h
    | refine keeps_ite (fun _ => ?_) (fun _ => ?_)
    | refine State.onLim_keeps ?_ (within_trans hm (by decide))
    | refine State.leashEff_keeps ?_ (within_trans hm (by decide))
    | refine keeps_getD (fun _ _ => ?_) ?_
    | refine keeps_pair (by assumption) ?_
    | split

theorem State.extraHolds_keeps (h : Keeps m s0 s) (hm : within [.reg .lsh, .reg .err, .sets, .log] m = true) : Keeps m s0 (State.extraHolds s) := by
  unfold State.extraHolds
  try dsimp only
  repeat' with_reducible first
    | exact h
    | refine keeps_ite (fun _ => ?_) (fun _ => ?_)
    | refine State.report_keeps ?_ (within_trans hm (by decide))
    | refine State.latch_keeps (by first | exact LSH_STAT_DIOCLAMP_blk ..) ?_ (within_trans hm (by decide))
    | refine keeps_foldl ?_ _ ?_
    | refine keeps_foldl_snd ?_ _ ?_
    | (intro _ _ h; try dsimp only)
    | refine keeps_pair (by assumption) ?_
    | split

theorem State.applyRing_keeps {e} (h : Keeps m s0 s) (hm : within [.reg .rng, .ring] m = true) : Keeps m s0 (State.applyRing e s) := by
  unfold State.applyRing
  try dsimp only
  repeat' with_reducible first
    | exact h
    | refine keeps_ite (fun _ => ?_) (fun _ => ?_)
    | refine State.puts_cons ?_
    | refine State.puts_nil ?_
    | refine State.put_keeps (by first | exact RNG_CFG_ADDR_blk .. | exact RNG_CFG_LOSTMAX_blk .. | exact RNG_CFG_MISSMAX_blk .. | exact RNG_CFG_NFR_blk .. | exact RNG_CFG_ROLE_blk .. | exact RNG_CFG_SPEED_blk .. | exact RNG_CFG_TOPO_blk .. | exact RNG_CYC_blk .. | exact whole_blk (RNG_CYC_blk ..) | exact RNG_ETYPE_ETYPE_blk .. | exact RNG_IDENT_blk .. | exact whole_blk (RNG_IDENT_blk ..) | exact RNG_MAC_blk .. | exact whole_blk (RNG_MAC_blk ..) | exact RNG_MSUB_AX_blk .. | exact RNG_SOFS_blk .. | exact whole_blk (RNG_SOFS_blk ..) | exact RNG_SVBUF_blk .. | exact whole_blk (RNG_SVBUF_blk ..) | exact RNG_SVQ_FREE_blk .. | exact RNG_SVQ_Q_blk .. | (refine blk_ite ?_ ?_ <;> first | exact RNG_CFG_ADDR_blk .. | exact RNG_CFG_LOSTMAX_blk .. | exact RNG_CFG_MISSMAX_blk .. | exact RNG_CFG_NFR_blk .. | exact RNG_CFG_ROLE_blk .. | exact RNG_CFG_SPEED_blk .. | exact RNG_CFG_TOPO_blk .. | exact RNG_CYC_blk .. | exact whole_blk (RNG_CYC_blk ..) | exact RNG_ETYPE_ETYPE_blk .. | exact RNG_IDENT_blk .. | exact whole_blk (RNG_IDENT_blk ..) | exact RNG_MAC_blk .. | exact whole_blk (RNG_MAC_blk ..) | exact RNG_MSUB_AX_blk .. | exact RNG_SOFS_blk .. | exact whole_blk (RNG_SOFS_blk ..) | exact RNG_SVBUF_blk .. | exact whole_blk (RNG_SVBUF_blk ..) | exact RNG_SVQ_FREE_blk .. | exact RNG_SVQ_Q_blk ..)) ?_ (within_trans hm (by decide))
    | refine State.wr64_keeps (by first | exact RNG_CFG_ADDR_blk .. | exact RNG_CFG_LOSTMAX_blk .. | exact RNG_CFG_MISSMAX_blk .. | exact RNG_CFG_NFR_blk .. | exact RNG_CFG_ROLE_blk .. | exact RNG_CFG_SPEED_blk .. | exact RNG_CFG_TOPO_blk .. | exact RNG_CYC_blk .. | exact whole_blk (RNG_CYC_blk ..) | exact RNG_ETYPE_ETYPE_blk .. | exact RNG_IDENT_blk .. | exact whole_blk (RNG_IDENT_blk ..) | exact RNG_MAC_blk .. | exact whole_blk (RNG_MAC_blk ..) | exact RNG_MSUB_AX_blk .. | exact RNG_SOFS_blk .. | exact whole_blk (RNG_SOFS_blk ..) | exact RNG_SVBUF_blk .. | exact whole_blk (RNG_SVBUF_blk ..) | exact RNG_SVQ_FREE_blk .. | exact RNG_SVQ_Q_blk .. | (refine blk_ite ?_ ?_ <;> first | exact RNG_CFG_ADDR_blk .. | exact RNG_CFG_LOSTMAX_blk .. | exact RNG_CFG_MISSMAX_blk .. | exact RNG_CFG_NFR_blk .. | exact RNG_CFG_ROLE_blk .. | exact RNG_CFG_SPEED_blk .. | exact RNG_CFG_TOPO_blk .. | exact RNG_CYC_blk .. | exact whole_blk (RNG_CYC_blk ..) | exact RNG_ETYPE_ETYPE_blk .. | exact RNG_IDENT_blk .. | exact whole_blk (RNG_IDENT_blk ..) | exact RNG_MAC_blk .. | exact whole_blk (RNG_MAC_blk ..) | exact RNG_MSUB_AX_blk .. | exact RNG_SOFS_blk .. | exact whole_blk (RNG_SOFS_blk ..) | exact RNG_SVBUF_blk .. | exact whole_blk (RNG_SVBUF_blk ..) | exact RNG_SVQ_FREE_blk .. | exact RNG_SVQ_Q_blk ..)) ?_ (within_trans hm (by decide))
    | refine State.wrs_cons ?_
    | refine State.wrs_nil ?_
    | refine State.wr_keeps (by first | exact RNG_CFG_ADDR_blk .. | exact RNG_CFG_LOSTMAX_blk .. | exact RNG_CFG_MISSMAX_blk .. | exact RNG_CFG_NFR_blk .. | exact RNG_CFG_ROLE_blk .. | exact RNG_CFG_SPEED_blk .. | exact RNG_CFG_TOPO_blk .. | exact RNG_CYC_blk .. | exact whole_blk (RNG_CYC_blk ..) | exact RNG_ETYPE_ETYPE_blk .. | exact RNG_IDENT_blk .. | exact whole_blk (RNG_IDENT_blk ..) | exact RNG_MAC_blk .. | exact whole_blk (RNG_MAC_blk ..) | exact RNG_MSUB_AX_blk .. | exact RNG_SOFS_blk .. | exact whole_blk (RNG_SOFS_blk ..) | exact RNG_SVBUF_blk .. | exact whole_blk (RNG_SVBUF_blk ..) | exact RNG_SVQ_FREE_blk .. | exact RNG_SVQ_Q_blk .. | (refine blk_ite ?_ ?_ <;> first | exact RNG_CFG_ADDR_blk .. | exact RNG_CFG_LOSTMAX_blk .. | exact RNG_CFG_MISSMAX_blk .. | exact RNG_CFG_NFR_blk .. | exact RNG_CFG_ROLE_blk .. | exact RNG_CFG_SPEED_blk .. | exact RNG_CFG_TOPO_blk .. | exact RNG_CYC_blk .. | exact whole_blk (RNG_CYC_blk ..) | exact RNG_ETYPE_ETYPE_blk .. | exact RNG_IDENT_blk .. | exact whole_blk (RNG_IDENT_blk ..) | exact RNG_MAC_blk .. | exact whole_blk (RNG_MAC_blk ..) | exact RNG_MSUB_AX_blk .. | exact RNG_SOFS_blk .. | exact whole_blk (RNG_SOFS_blk ..) | exact RNG_SVBUF_blk .. | exact whole_blk (RNG_SVBUF_blk ..) | exact RNG_SVQ_FREE_blk .. | exact RNG_SVQ_Q_blk ..)) ?_ (within_trans hm (by decide))
    | refine State.put_keeps (by first | exact RNG_CFG_ADDR_blk .. | exact RNG_CFG_LOSTMAX_blk .. | exact RNG_CFG_MISSMAX_blk .. | exact RNG_CFG_NFR_blk .. | exact RNG_CFG_ROLE_blk .. | exact RNG_CFG_SPEED_blk .. | exact RNG_CFG_TOPO_blk .. | exact RNG_CYC_blk .. | exact whole_blk (RNG_CYC_blk ..) | exact RNG_ETYPE_ETYPE_blk .. | exact RNG_IDENT_blk .. | exact whole_blk (RNG_IDENT_blk ..) | exact RNG_MAC_blk .. | exact whole_blk (RNG_MAC_blk ..) | exact RNG_MSUB_AX_blk .. | exact RNG_SOFS_blk .. | exact whole_blk (RNG_SOFS_blk ..) | exact RNG_SVBUF_blk .. | exact whole_blk (RNG_SVBUF_blk ..) | exact RNG_SVQ_FREE_blk .. | exact RNG_SVQ_Q_blk .. | (refine blk_ite ?_ ?_ <;> first | exact RNG_CFG_ADDR_blk .. | exact RNG_CFG_LOSTMAX_blk .. | exact RNG_CFG_MISSMAX_blk .. | exact RNG_CFG_NFR_blk .. | exact RNG_CFG_ROLE_blk .. | exact RNG_CFG_SPEED_blk .. | exact RNG_CFG_TOPO_blk .. | exact RNG_CYC_blk .. | exact whole_blk (RNG_CYC_blk ..) | exact RNG_ETYPE_ETYPE_blk .. | exact RNG_IDENT_blk .. | exact whole_blk (RNG_IDENT_blk ..) | exact RNG_MAC_blk .. | exact whole_blk (RNG_MAC_blk ..) | exact RNG_MSUB_AX_blk .. | exact RNG_SOFS_blk .. | exact whole_blk (RNG_SOFS_blk ..) | exact RNG_SVBUF_blk .. | exact whole_blk (RNG_SVBUF_blk ..) | exact RNG_SVQ_FREE_blk .. | exact RNG_SVQ_Q_blk ..)) ?_ (within_trans hm (by decide))
    | refine State.onRing_keeps ?_ (within_trans hm (by decide))
    | refine keeps_foldl ?_ _ ?_
    | refine keeps_foldl_snd ?_ _ ?_
    | (intro _ _ h; try dsimp only)
    | refine keeps_pair (by assumption) ?_
    | split

theorem State.applyNet_keeps {e} (h : Keeps m s0 s) (hm : within [.reg .tim, .reg .err, .boot] m = true) : Keeps m s0 (State.applyNet e s) := by
  unfold State.applyNet
  try dsimp only
  repeat' with_reducible first
    | exact h
    | refine keeps_ite (fun _ => ?_) (fun _ => ?_)
    | refine State.puts_cons ?_
    | refine State.puts_nil ?_
    | refine State.put_keeps (by first | exact SVC_DBG_EN_blk .. | exact SVC_GW_blk .. | exact whole_blk (SVC_GW_blk ..) | exact SVC_IP_blk .. | exact whole_blk (SVC_IP_blk ..) | exact SVC_MASK_blk .. | exact whole_blk (SVC_MASK_blk ..) | exact SVC_PORT_PORT_blk .. | exact TIM_CFG_DM_blk .. | exact TIM_CFG_HOLDT_blk .. | exact TIM_CFG_KI_blk .. | exact TIM_CFG_KP_blk .. | exact TIM_CFG_OUTMAX_blk .. | exact TIM_CFG_SRC_blk .. | exact TIM_JMP_blk .. | exact whole_blk (TIM_JMP_blk ..) | exact TIM_PTP_DOMAIN_blk .. | exact TIM_PTP_LOGDREQ_blk .. | (refine blk_ite ?_ ?_ <;> first | exact SVC_DBG_EN_blk .. | exact SVC_GW_blk .. | exact whole_blk (SVC_GW_blk ..) | exact SVC_IP_blk .. | exact whole_blk (SVC_IP_blk ..) | exact SVC_MASK_blk .. | exact whole_blk (SVC_MASK_blk ..) | exact SVC_PORT_PORT_blk .. | exact TIM_CFG_DM_blk .. | exact TIM_CFG_HOLDT_blk .. | exact TIM_CFG_KI_blk .. | exact TIM_CFG_KP_blk .. | exact TIM_CFG_OUTMAX_blk .. | exact TIM_CFG_SRC_blk .. | exact TIM_JMP_blk .. | exact whole_blk (TIM_JMP_blk ..) | exact TIM_PTP_DOMAIN_blk .. | exact TIM_PTP_LOGDREQ_blk ..)) ?_ (within_trans hm (by decide))
    | refine State.wrs_cons ?_
    | refine State.wrs_nil ?_
    | refine State.wr_keeps (by first | exact SVC_DBG_EN_blk .. | exact SVC_GW_blk .. | exact whole_blk (SVC_GW_blk ..) | exact SVC_IP_blk .. | exact whole_blk (SVC_IP_blk ..) | exact SVC_MASK_blk .. | exact whole_blk (SVC_MASK_blk ..) | exact SVC_PORT_PORT_blk .. | exact TIM_CFG_DM_blk .. | exact TIM_CFG_HOLDT_blk .. | exact TIM_CFG_KI_blk .. | exact TIM_CFG_KP_blk .. | exact TIM_CFG_OUTMAX_blk .. | exact TIM_CFG_SRC_blk .. | exact TIM_JMP_blk .. | exact whole_blk (TIM_JMP_blk ..) | exact TIM_PTP_DOMAIN_blk .. | exact TIM_PTP_LOGDREQ_blk .. | (refine blk_ite ?_ ?_ <;> first | exact SVC_DBG_EN_blk .. | exact SVC_GW_blk .. | exact whole_blk (SVC_GW_blk ..) | exact SVC_IP_blk .. | exact whole_blk (SVC_IP_blk ..) | exact SVC_MASK_blk .. | exact whole_blk (SVC_MASK_blk ..) | exact SVC_PORT_PORT_blk .. | exact TIM_CFG_DM_blk .. | exact TIM_CFG_HOLDT_blk .. | exact TIM_CFG_KI_blk .. | exact TIM_CFG_KP_blk .. | exact TIM_CFG_OUTMAX_blk .. | exact TIM_CFG_SRC_blk .. | exact TIM_JMP_blk .. | exact whole_blk (TIM_JMP_blk ..) | exact TIM_PTP_DOMAIN_blk .. | exact TIM_PTP_LOGDREQ_blk ..)) ?_ (within_trans hm (by decide))
    | refine State.onBoot_keeps ?_ (within_trans hm (by decide))
    | refine keeps_pair (by assumption) ?_
    | split

theorem State.applyMasters_keeps {e} (h : Keeps m s0 s) (hm : within [.reg .prf, .reg .csf, .reg .fbk, .menc] m = true) : Keeps m s0 (State.applyMasters e s) := by
  unfold State.applyMasters
  try dsimp only
  repeat' with_reducible first
    | exact h
    | refine keeps_ite (fun _ => ?_) (fun _ => ?_)
    | refine State.puts_cons ?_
    | refine State.puts_nil ?_
    | refine State.put_keeps (by first | exact CSF_SDC_EN_blk .. | exact CSF_SDC_TSD_blk .. | exact FBK_MMOD_blk .. | exact whole_blk (FBK_MMOD_blk ..) | exact FBK_MPER_blk .. | exact whole_blk (FBK_MPER_blk ..) | exact PRF_VMAMAX_blk .. | exact whole_blk (PRF_VMAMAX_blk ..) | exact PRF_VMJMAX_blk .. | exact whole_blk (PRF_VMJMAX_blk ..) | exact PRF_VMMOD_blk .. | exact whole_blk (PRF_VMMOD_blk ..) | exact PRF_VMST_EN_blk .. | exact PRF_VMVMAX_blk .. | exact whole_blk (PRF_VMVMAX_blk ..) | (refine blk_ite ?_ ?_ <;> first | exact CSF_SDC_EN_blk .. | exact CSF_SDC_TSD_blk .. | exact FBK_MMOD_blk .. | exact whole_blk (FBK_MMOD_blk ..) | exact FBK_MPER_blk .. | exact whole_blk (FBK_MPER_blk ..) | exact PRF_VMAMAX_blk .. | exact whole_blk (PRF_VMAMAX_blk ..) | exact PRF_VMJMAX_blk .. | exact whole_blk (PRF_VMJMAX_blk ..) | exact PRF_VMMOD_blk .. | exact whole_blk (PRF_VMMOD_blk ..) | exact PRF_VMST_EN_blk .. | exact PRF_VMVMAX_blk .. | exact whole_blk (PRF_VMVMAX_blk ..))) ?_ (within_trans hm (by decide))
    | refine State.wr64_keeps (by first | exact CSF_SDC_EN_blk .. | exact CSF_SDC_TSD_blk .. | exact FBK_MMOD_blk .. | exact whole_blk (FBK_MMOD_blk ..) | exact FBK_MPER_blk .. | exact whole_blk (FBK_MPER_blk ..) | exact PRF_VMAMAX_blk .. | exact whole_blk (PRF_VMAMAX_blk ..) | exact PRF_VMJMAX_blk .. | exact whole_blk (PRF_VMJMAX_blk ..) | exact PRF_VMMOD_blk .. | exact whole_blk (PRF_VMMOD_blk ..) | exact PRF_VMST_EN_blk .. | exact PRF_VMVMAX_blk .. | exact whole_blk (PRF_VMVMAX_blk ..) | (refine blk_ite ?_ ?_ <;> first | exact CSF_SDC_EN_blk .. | exact CSF_SDC_TSD_blk .. | exact FBK_MMOD_blk .. | exact whole_blk (FBK_MMOD_blk ..) | exact FBK_MPER_blk .. | exact whole_blk (FBK_MPER_blk ..) | exact PRF_VMAMAX_blk .. | exact whole_blk (PRF_VMAMAX_blk ..) | exact PRF_VMJMAX_blk .. | exact whole_blk (PRF_VMJMAX_blk ..) | exact PRF_VMMOD_blk .. | exact whole_blk (PRF_VMMOD_blk ..) | exact PRF_VMST_EN_blk .. | exact PRF_VMVMAX_blk .. | exact whole_blk (PRF_VMVMAX_blk ..))) ?_ (within_trans hm (by decide))
    | refine State.put_keeps (by first | exact CSF_SDC_EN_blk .. | exact CSF_SDC_TSD_blk .. | exact FBK_MMOD_blk .. | exact whole_blk (FBK_MMOD_blk ..) | exact FBK_MPER_blk .. | exact whole_blk (FBK_MPER_blk ..) | exact PRF_VMAMAX_blk .. | exact whole_blk (PRF_VMAMAX_blk ..) | exact PRF_VMJMAX_blk .. | exact whole_blk (PRF_VMJMAX_blk ..) | exact PRF_VMMOD_blk .. | exact whole_blk (PRF_VMMOD_blk ..) | exact PRF_VMST_EN_blk .. | exact PRF_VMVMAX_blk .. | exact whole_blk (PRF_VMVMAX_blk ..) | (refine blk_ite ?_ ?_ <;> first | exact CSF_SDC_EN_blk .. | exact CSF_SDC_TSD_blk .. | exact FBK_MMOD_blk .. | exact whole_blk (FBK_MMOD_blk ..) | exact FBK_MPER_blk .. | exact whole_blk (FBK_MPER_blk ..) | exact PRF_VMAMAX_blk .. | exact whole_blk (PRF_VMAMAX_blk ..) | exact PRF_VMJMAX_blk .. | exact whole_blk (PRF_VMJMAX_blk ..) | exact PRF_VMMOD_blk .. | exact whole_blk (PRF_VMMOD_blk ..) | exact PRF_VMST_EN_blk .. | exact PRF_VMVMAX_blk .. | exact whole_blk (PRF_VMVMAX_blk ..))) ?_ (within_trans hm (by decide))
    | refine State.wr_keeps (by first | exact CSF_SDC_EN_blk .. | exact CSF_SDC_TSD_blk .. | exact FBK_MMOD_blk .. | exact whole_blk (FBK_MMOD_blk ..) | exact FBK_MPER_blk .. | exact whole_blk (FBK_MPER_blk ..) | exact PRF_VMAMAX_blk .. | exact whole_blk (PRF_VMAMAX_blk ..) | exact PRF_VMJMAX_blk .. | exact whole_blk (PRF_VMJMAX_blk ..) | exact PRF_VMMOD_blk .. | exact whole_blk (PRF_VMMOD_blk ..) | exact PRF_VMST_EN_blk .. | exact PRF_VMVMAX_blk .. | exact whole_blk (PRF_VMVMAX_blk ..) | (refine blk_ite ?_ ?_ <;> first | exact CSF_SDC_EN_blk .. | exact CSF_SDC_TSD_blk .. | exact FBK_MMOD_blk .. | exact whole_blk (FBK_MMOD_blk ..) | exact FBK_MPER_blk .. | exact whole_blk (FBK_MPER_blk ..) | exact PRF_VMAMAX_blk .. | exact whole_blk (PRF_VMAMAX_blk ..) | exact PRF_VMJMAX_blk .. | exact whole_blk (PRF_VMJMAX_blk ..) | exact PRF_VMMOD_blk .. | exact whole_blk (PRF_VMMOD_blk ..) | exact PRF_VMST_EN_blk .. | exact PRF_VMVMAX_blk .. | exact whole_blk (PRF_VMVMAX_blk ..))) ?_ (within_trans hm (by decide))
    | refine State.onMenc_keeps ?_ (within_trans hm (by decide))
    | refine keeps_foldl ?_ _ ?_
    | refine keeps_foldl_snd ?_ _ ?_
    | (intro _ _ h; try dsimp only)
    | refine keeps_pair (by assumption) ?_
    | split

theorem State.applyUnits_keeps {e} (h : Keeps m s0 s) (hm : within [.reg .fbk, .reg .pwm, .reg .que, .reg .err] m = true) : Keeps m s0 (State.applyUnits e s) := by
  unfold State.applyUnits
  try dsimp only
  repeat' with_reducible first
    | exact h
    | refine keeps_ite (fun _ => ?_) (fun _ => ?_)
    | refine State.puts_cons ?_
    | refine State.puts_nil ?_
    | refine State.put_keeps (by first | exact FBK_PRCFG_blk .. | exact whole_blk (FBK_PRCFG_blk ..) | exact FBK_PRSEL_blk .. | exact whole_blk (FBK_PRSEL_blk ..) | exact FBK_PRWE_blk .. | exact whole_blk (FBK_PRWE_blk ..) | exact FBK_PRWS_blk .. | exact whole_blk (FBK_PRWS_blk ..) | exact PWM_AUXCFG_blk .. | exact whole_blk (PWM_AUXCFG_blk ..) | exact PWM_AUXDT_blk .. | exact whole_blk (PWM_AUXDT_blk ..) | exact PWM_AUXPER_blk .. | exact whole_blk (PWM_AUXPER_blk ..) | exact PWM_AUXST_RUN_blk .. | exact PWM_AUXTH_blk .. | exact whole_blk (PWM_AUXTH_blk ..) | exact PWM_AX_blk .. | exact whole_blk (PWM_AX_blk ..) | exact PWM_AXD_blk .. | exact whole_blk (PWM_AXD_blk ..) | exact PWR_ISL_CEIL_blk .. | exact PWR_ISL_MARGIN_blk .. | exact QUE_CFG_CAPL_blk .. | exact QUE_CFG_CONS_blk .. | exact QUE_CFG_EVSEL_blk .. | exact QUE_CFG_PROD_blk .. | exact QUE_SOFS_blk .. | exact whole_blk (QUE_SOFS_blk ..) | (refine blk_ite ?_ ?_ <;> first | exact FBK_PRCFG_blk .. | exact whole_blk (FBK_PRCFG_blk ..) | exact FBK_PRSEL_blk .. | exact whole_blk (FBK_PRSEL_blk ..) | exact FBK_PRWE_blk .. | exact whole_blk (FBK_PRWE_blk ..) | exact FBK_PRWS_blk .. | exact whole_blk (FBK_PRWS_blk ..) | exact PWM_AUXCFG_blk .. | exact whole_blk (PWM_AUXCFG_blk ..) | exact PWM_AUXDT_blk .. | exact whole_blk (PWM_AUXDT_blk ..) | exact PWM_AUXPER_blk .. | exact whole_blk (PWM_AUXPER_blk ..) | exact PWM_AUXST_RUN_blk .. | exact PWM_AUXTH_blk .. | exact whole_blk (PWM_AUXTH_blk ..) | exact PWM_AX_blk .. | exact whole_blk (PWM_AX_blk ..) | exact PWM_AXD_blk .. | exact whole_blk (PWM_AXD_blk ..) | exact PWR_ISL_CEIL_blk .. | exact PWR_ISL_MARGIN_blk .. | exact QUE_CFG_CAPL_blk .. | exact QUE_CFG_CONS_blk .. | exact QUE_CFG_EVSEL_blk .. | exact QUE_CFG_PROD_blk .. | exact QUE_SOFS_blk .. | exact whole_blk (QUE_SOFS_blk ..))) ?_ (within_trans hm (by decide))
    | refine State.wr_keeps (by first | exact FBK_PRCFG_blk .. | exact whole_blk (FBK_PRCFG_blk ..) | exact FBK_PRSEL_blk .. | exact whole_blk (FBK_PRSEL_blk ..) | exact FBK_PRWE_blk .. | exact whole_blk (FBK_PRWE_blk ..) | exact FBK_PRWS_blk .. | exact whole_blk (FBK_PRWS_blk ..) | exact PWM_AUXCFG_blk .. | exact whole_blk (PWM_AUXCFG_blk ..) | exact PWM_AUXDT_blk .. | exact whole_blk (PWM_AUXDT_blk ..) | exact PWM_AUXPER_blk .. | exact whole_blk (PWM_AUXPER_blk ..) | exact PWM_AUXST_RUN_blk .. | exact PWM_AUXTH_blk .. | exact whole_blk (PWM_AUXTH_blk ..) | exact PWM_AX_blk .. | exact whole_blk (PWM_AX_blk ..) | exact PWM_AXD_blk .. | exact whole_blk (PWM_AXD_blk ..) | exact PWR_ISL_CEIL_blk .. | exact PWR_ISL_MARGIN_blk .. | exact QUE_CFG_CAPL_blk .. | exact QUE_CFG_CONS_blk .. | exact QUE_CFG_EVSEL_blk .. | exact QUE_CFG_PROD_blk .. | exact QUE_SOFS_blk .. | exact whole_blk (QUE_SOFS_blk ..) | (refine blk_ite ?_ ?_ <;> first | exact FBK_PRCFG_blk .. | exact whole_blk (FBK_PRCFG_blk ..) | exact FBK_PRSEL_blk .. | exact whole_blk (FBK_PRSEL_blk ..) | exact FBK_PRWE_blk .. | exact whole_blk (FBK_PRWE_blk ..) | exact FBK_PRWS_blk .. | exact whole_blk (FBK_PRWS_blk ..) | exact PWM_AUXCFG_blk .. | exact whole_blk (PWM_AUXCFG_blk ..) | exact PWM_AUXDT_blk .. | exact whole_blk (PWM_AUXDT_blk ..) | exact PWM_AUXPER_blk .. | exact whole_blk (PWM_AUXPER_blk ..) | exact PWM_AUXST_RUN_blk .. | exact PWM_AUXTH_blk .. | exact whole_blk (PWM_AUXTH_blk ..) | exact PWM_AX_blk .. | exact whole_blk (PWM_AX_blk ..) | exact PWM_AXD_blk .. | exact whole_blk (PWM_AXD_blk ..) | exact PWR_ISL_CEIL_blk .. | exact PWR_ISL_MARGIN_blk .. | exact QUE_CFG_CAPL_blk .. | exact QUE_CFG_CONS_blk .. | exact QUE_CFG_EVSEL_blk .. | exact QUE_CFG_PROD_blk .. | exact QUE_SOFS_blk .. | exact whole_blk (QUE_SOFS_blk ..))) ?_ (within_trans hm (by decide))
    | refine State.wrs_cons ?_
    | refine State.wrs_nil ?_
    | refine State.wr_keeps (by first | exact FBK_PRCFG_blk .. | exact whole_blk (FBK_PRCFG_blk ..) | exact FBK_PRSEL_blk .. | exact whole_blk (FBK_PRSEL_blk ..) | exact FBK_PRWE_blk .. | exact whole_blk (FBK_PRWE_blk ..) | exact FBK_PRWS_blk .. | exact whole_blk (FBK_PRWS_blk ..) | exact PWM_AUXCFG_blk .. | exact whole_blk (PWM_AUXCFG_blk ..) | exact PWM_AUXDT_blk .. | exact whole_blk (PWM_AUXDT_blk ..) | exact PWM_AUXPER_blk .. | exact whole_blk (PWM_AUXPER_blk ..) | exact PWM_AUXST_RUN_blk .. | exact PWM_AUXTH_blk .. | exact whole_blk (PWM_AUXTH_blk ..) | exact PWM_AX_blk .. | exact whole_blk (PWM_AX_blk ..) | exact PWM_AXD_blk .. | exact whole_blk (PWM_AXD_blk ..) | exact PWR_ISL_CEIL_blk .. | exact PWR_ISL_MARGIN_blk .. | exact QUE_CFG_CAPL_blk .. | exact QUE_CFG_CONS_blk .. | exact QUE_CFG_EVSEL_blk .. | exact QUE_CFG_PROD_blk .. | exact QUE_SOFS_blk .. | exact whole_blk (QUE_SOFS_blk ..) | (refine blk_ite ?_ ?_ <;> first | exact FBK_PRCFG_blk .. | exact whole_blk (FBK_PRCFG_blk ..) | exact FBK_PRSEL_blk .. | exact whole_blk (FBK_PRSEL_blk ..) | exact FBK_PRWE_blk .. | exact whole_blk (FBK_PRWE_blk ..) | exact FBK_PRWS_blk .. | exact whole_blk (FBK_PRWS_blk ..) | exact PWM_AUXCFG_blk .. | exact whole_blk (PWM_AUXCFG_blk ..) | exact PWM_AUXDT_blk .. | exact whole_blk (PWM_AUXDT_blk ..) | exact PWM_AUXPER_blk .. | exact whole_blk (PWM_AUXPER_blk ..) | exact PWM_AUXST_RUN_blk .. | exact PWM_AUXTH_blk .. | exact whole_blk (PWM_AUXTH_blk ..) | exact PWM_AX_blk .. | exact whole_blk (PWM_AX_blk ..) | exact PWM_AXD_blk .. | exact whole_blk (PWM_AXD_blk ..) | exact PWR_ISL_CEIL_blk .. | exact PWR_ISL_MARGIN_blk .. | exact QUE_CFG_CAPL_blk .. | exact QUE_CFG_CONS_blk .. | exact QUE_CFG_EVSEL_blk .. | exact QUE_CFG_PROD_blk .. | exact QUE_SOFS_blk .. | exact whole_blk (QUE_SOFS_blk ..))) ?_ (within_trans hm (by decide))
    | refine State.wr64_keeps (by first | exact FBK_PRCFG_blk .. | exact whole_blk (FBK_PRCFG_blk ..) | exact FBK_PRSEL_blk .. | exact whole_blk (FBK_PRSEL_blk ..) | exact FBK_PRWE_blk .. | exact whole_blk (FBK_PRWE_blk ..) | exact FBK_PRWS_blk .. | exact whole_blk (FBK_PRWS_blk ..) | exact PWM_AUXCFG_blk .. | exact whole_blk (PWM_AUXCFG_blk ..) | exact PWM_AUXDT_blk .. | exact whole_blk (PWM_AUXDT_blk ..) | exact PWM_AUXPER_blk .. | exact whole_blk (PWM_AUXPER_blk ..) | exact PWM_AUXST_RUN_blk .. | exact PWM_AUXTH_blk .. | exact whole_blk (PWM_AUXTH_blk ..) | exact PWM_AX_blk .. | exact whole_blk (PWM_AX_blk ..) | exact PWM_AXD_blk .. | exact whole_blk (PWM_AXD_blk ..) | exact PWR_ISL_CEIL_blk .. | exact PWR_ISL_MARGIN_blk .. | exact QUE_CFG_CAPL_blk .. | exact QUE_CFG_CONS_blk .. | exact QUE_CFG_EVSEL_blk .. | exact QUE_CFG_PROD_blk .. | exact QUE_SOFS_blk .. | exact whole_blk (QUE_SOFS_blk ..) | (refine blk_ite ?_ ?_ <;> first | exact FBK_PRCFG_blk .. | exact whole_blk (FBK_PRCFG_blk ..) | exact FBK_PRSEL_blk .. | exact whole_blk (FBK_PRSEL_blk ..) | exact FBK_PRWE_blk .. | exact whole_blk (FBK_PRWE_blk ..) | exact FBK_PRWS_blk .. | exact whole_blk (FBK_PRWS_blk ..) | exact PWM_AUXCFG_blk .. | exact whole_blk (PWM_AUXCFG_blk ..) | exact PWM_AUXDT_blk .. | exact whole_blk (PWM_AUXDT_blk ..) | exact PWM_AUXPER_blk .. | exact whole_blk (PWM_AUXPER_blk ..) | exact PWM_AUXST_RUN_blk .. | exact PWM_AUXTH_blk .. | exact whole_blk (PWM_AUXTH_blk ..) | exact PWM_AX_blk .. | exact whole_blk (PWM_AX_blk ..) | exact PWM_AXD_blk .. | exact whole_blk (PWM_AXD_blk ..) | exact PWR_ISL_CEIL_blk .. | exact PWR_ISL_MARGIN_blk .. | exact QUE_CFG_CAPL_blk .. | exact QUE_CFG_CONS_blk .. | exact QUE_CFG_EVSEL_blk .. | exact QUE_CFG_PROD_blk .. | exact QUE_SOFS_blk .. | exact whole_blk (QUE_SOFS_blk ..))) ?_ (within_trans hm (by decide))
    | refine State.mark_keeps (by first | exact FBK_PRCFG_blk .. | exact whole_blk (FBK_PRCFG_blk ..) | exact FBK_PRSEL_blk .. | exact whole_blk (FBK_PRSEL_blk ..) | exact FBK_PRWE_blk .. | exact whole_blk (FBK_PRWE_blk ..) | exact FBK_PRWS_blk .. | exact whole_blk (FBK_PRWS_blk ..) | exact PWM_AUXCFG_blk .. | exact whole_blk (PWM_AUXCFG_blk ..) | exact PWM_AUXDT_blk .. | exact whole_blk (PWM_AUXDT_blk ..) | exact PWM_AUXPER_blk .. | exact whole_blk (PWM_AUXPER_blk ..) | exact PWM_AUXST_RUN_blk .. | exact PWM_AUXTH_blk .. | exact whole_blk (PWM_AUXTH_blk ..) | exact PWM_AX_blk .. | exact whole_blk (PWM_AX_blk ..) | exact PWM_AXD_blk .. | exact whole_blk (PWM_AXD_blk ..) | exact PWR_ISL_CEIL_blk .. | exact PWR_ISL_MARGIN_blk .. | exact QUE_CFG_CAPL_blk .. | exact QUE_CFG_CONS_blk .. | exact QUE_CFG_EVSEL_blk .. | exact QUE_CFG_PROD_blk .. | exact QUE_SOFS_blk .. | exact whole_blk (QUE_SOFS_blk ..) | (refine blk_ite ?_ ?_ <;> first | exact FBK_PRCFG_blk .. | exact whole_blk (FBK_PRCFG_blk ..) | exact FBK_PRSEL_blk .. | exact whole_blk (FBK_PRSEL_blk ..) | exact FBK_PRWE_blk .. | exact whole_blk (FBK_PRWE_blk ..) | exact FBK_PRWS_blk .. | exact whole_blk (FBK_PRWS_blk ..) | exact PWM_AUXCFG_blk .. | exact whole_blk (PWM_AUXCFG_blk ..) | exact PWM_AUXDT_blk .. | exact whole_blk (PWM_AUXDT_blk ..) | exact PWM_AUXPER_blk .. | exact whole_blk (PWM_AUXPER_blk ..) | exact PWM_AUXST_RUN_blk .. | exact PWM_AUXTH_blk .. | exact whole_blk (PWM_AUXTH_blk ..) | exact PWM_AX_blk .. | exact whole_blk (PWM_AX_blk ..) | exact PWM_AXD_blk .. | exact whole_blk (PWM_AXD_blk ..) | exact PWR_ISL_CEIL_blk .. | exact PWR_ISL_MARGIN_blk .. | exact QUE_CFG_CAPL_blk .. | exact QUE_CFG_CONS_blk .. | exact QUE_CFG_EVSEL_blk .. | exact QUE_CFG_PROD_blk .. | exact QUE_SOFS_blk .. | exact whole_blk (QUE_SOFS_blk ..))) ?_ (within_trans hm (by decide))
    | refine keeps_foldl ?_ _ ?_
    | refine keeps_foldl_snd ?_ _ ?_
    | (intro _ _ h; try dsimp only)
    | refine keeps_pair (by assumption) ?_
    | split

theorem State.loadSchedule_keeps {k b sl ws} (h : Keeps m s0 s) (hm : within [.reg .eng, .eng] m = true) : Keeps m s0 (State.loadSchedule k b sl ws s) := by
  unfold State.loadSchedule
  try dsimp only
  repeat' with_reducible first
    | exact h
    | refine keeps_ite (fun _ => ?_) (fun _ => ?_)
    | refine State.onEng_keeps ?_ (within_trans hm (by decide))
    | refine State.wr_keeps (by first | exact ENG_BUSY_blk .. | exact whole_blk (ENG_BUSY_blk ..) | exact ENG_HYPER_blk .. | exact whole_blk (ENG_HYPER_blk ..) | exact ENG_SLCFG_blk .. | exact whole_blk (ENG_SLCFG_blk ..) | exact ENG_SLLEN_blk .. | exact whole_blk (ENG_SLLEN_blk ..) | exact ENG_SLOFS_blk .. | exact whole_blk (ENG_SLOFS_blk ..) | exact ENG_SLPER_blk .. | exact whole_blk (ENG_SLPER_blk ..) | exact ENG_STAT_NSLOT_blk .. | (refine blk_ite ?_ ?_ <;> first | exact ENG_BUSY_blk .. | exact whole_blk (ENG_BUSY_blk ..) | exact ENG_HYPER_blk .. | exact whole_blk (ENG_HYPER_blk ..) | exact ENG_SLCFG_blk .. | exact whole_blk (ENG_SLCFG_blk ..) | exact ENG_SLLEN_blk .. | exact whole_blk (ENG_SLLEN_blk ..) | exact ENG_SLOFS_blk .. | exact whole_blk (ENG_SLOFS_blk ..) | exact ENG_SLPER_blk .. | exact whole_blk (ENG_SLPER_blk ..) | exact ENG_STAT_NSLOT_blk ..)) ?_ (within_trans hm (by decide))
    | refine State.wrs_cons ?_
    | refine State.wrs_nil ?_
    | refine State.wr_keeps (by first | exact ENG_BUSY_blk .. | exact whole_blk (ENG_BUSY_blk ..) | exact ENG_HYPER_blk .. | exact whole_blk (ENG_HYPER_blk ..) | exact ENG_SLCFG_blk .. | exact whole_blk (ENG_SLCFG_blk ..) | exact ENG_SLLEN_blk .. | exact whole_blk (ENG_SLLEN_blk ..) | exact ENG_SLOFS_blk .. | exact whole_blk (ENG_SLOFS_blk ..) | exact ENG_SLPER_blk .. | exact whole_blk (ENG_SLPER_blk ..) | exact ENG_STAT_NSLOT_blk .. | (refine blk_ite ?_ ?_ <;> first | exact ENG_BUSY_blk .. | exact whole_blk (ENG_BUSY_blk ..) | exact ENG_HYPER_blk .. | exact whole_blk (ENG_HYPER_blk ..) | exact ENG_SLCFG_blk .. | exact whole_blk (ENG_SLCFG_blk ..) | exact ENG_SLLEN_blk .. | exact whole_blk (ENG_SLLEN_blk ..) | exact ENG_SLOFS_blk .. | exact whole_blk (ENG_SLOFS_blk ..) | exact ENG_SLPER_blk .. | exact whole_blk (ENG_SLPER_blk ..) | exact ENG_STAT_NSLOT_blk ..)) ?_ (within_trans hm (by decide))
    | refine State.put_keeps (by first | exact ENG_BUSY_blk .. | exact whole_blk (ENG_BUSY_blk ..) | exact ENG_HYPER_blk .. | exact whole_blk (ENG_HYPER_blk ..) | exact ENG_SLCFG_blk .. | exact whole_blk (ENG_SLCFG_blk ..) | exact ENG_SLLEN_blk .. | exact whole_blk (ENG_SLLEN_blk ..) | exact ENG_SLOFS_blk .. | exact whole_blk (ENG_SLOFS_blk ..) | exact ENG_SLPER_blk .. | exact whole_blk (ENG_SLPER_blk ..) | exact ENG_STAT_NSLOT_blk .. | (refine blk_ite ?_ ?_ <;> first | exact ENG_BUSY_blk .. | exact whole_blk (ENG_BUSY_blk ..) | exact ENG_HYPER_blk .. | exact whole_blk (ENG_HYPER_blk ..) | exact ENG_SLCFG_blk .. | exact whole_blk (ENG_SLCFG_blk ..) | exact ENG_SLLEN_blk .. | exact whole_blk (ENG_SLLEN_blk ..) | exact ENG_SLOFS_blk .. | exact whole_blk (ENG_SLOFS_blk ..) | exact ENG_SLPER_blk .. | exact whole_blk (ENG_SLPER_blk ..) | exact ENG_STAT_NSLOT_blk ..)) ?_ (within_trans hm (by decide))
    | refine keeps_foldl ?_ _ ?_
    | refine keeps_foldl_snd ?_ _ ?_
    | (intro _ _ h; try dsimp only)
    | refine keeps_getD (fun _ _ => ?_) ?_
    | refine keeps_pair (by assumption) ?_
    | split

theorem State.loadEntries_keeps {e} (h : Keeps m s0 s) (hm : within [.reg .prf, .bulk] m = true) : Keeps m s0 (State.loadEntries e s) := by
  unfold State.loadEntries
  try dsimp only
  repeat' with_reducible first
    | exact h
    | refine keeps_ite (fun _ => ?_) (fun _ => ?_)
    | refine State.put_keeps (by first | exact PRF_AXGEN_CGEN_blk ..) ?_ (within_trans hm (by decide))
    | refine State.bulkStore_keeps ?_ (within_trans hm (by decide))
    | refine keeps_foldl ?_ _ ?_
    | refine keeps_foldl_snd ?_ _ ?_
    | (intro _ _ h; try dsimp only)
    | refine keeps_pair (by assumption) ?_
    | split

theorem State.loadAxis_keeps {a} (h : Keeps m s0 s) (hm : within [.reg .prf, .reg .eng, .reg .csf, .eng, .pwm, .ine] m = true) : Keeps m s0 (State.loadAxis a s) := by
  unfold State.loadAxis
  try dsimp only
  repeat' with_reducible first
    | exact h
    | refine keeps_ite (fun _ => ?_) (fun _ => ?_)
    | refine State.showDarner_keeps ?_ (within_trans hm (by decide))
    | refine State.tagDarner_keeps ?_ (within_trans hm (by decide))
    | refine State.applyContext_keeps ?_ (within_trans hm (by decide))
    | refine State.put_keeps (by first | exact ENG_CST_CGEN_blk ..) ?_ (within_trans hm (by decide))
    | refine State.showContext_keeps ?_ (within_trans hm (by decide))
    | refine State.showDelays_keeps ?_ (within_trans hm (by decide))
    | refine State.onPax_keeps ?_ (within_trans hm (by decide))
    | refine State.presetInertia_keeps ?_ (within_trans hm (by decide))
    | refine keeps_pair (by assumption) ?_
    | split

theorem State.dioEntry_keeps {p c} (h : Keeps m s0 s) (hm : within [.reg .dio] m = true) : Keeps m s0 (State.dioEntry p c s) := by
  unfold State.dioEntry
  try dsimp only
  repeat' with_reducible first
    | exact h
    | refine keeps_ite (fun _ => ?_) (fun _ => ?_)
    | refine State.puts_cons ?_
    | refine State.puts_nil ?_
    | refine State.put_keeps (by first | exact DIO_CCFG_FILT_blk .. | exact DIO_CCFG_FLAGS_blk .. | exact DIO_CCFG_ITYPE_blk .. | exact DIO_CCFG_MODE_blk .. | exact DIO_CCFG_RBT_blk .. | (refine blk_ite ?_ ?_ <;> first | exact DIO_CCFG_FILT_blk .. | exact DIO_CCFG_FLAGS_blk .. | exact DIO_CCFG_ITYPE_blk .. | exact DIO_CCFG_MODE_blk .. | exact DIO_CCFG_RBT_blk ..)) ?_ (within_trans hm (by decide))
    | refine keeps_pair (by assumption) ?_
    | split

theorem State.loadDio_keeps {p} (h : Keeps m s0 s) (hm : within [.reg .dio, .bulk, .dio] m = true) : Keeps m s0 (State.loadDio p s) := by
  unfold State.loadDio
  try dsimp only
  repeat' with_reducible first
    | exact h
    | refine keeps_ite (fun _ => ?_) (fun _ => ?_)
    | refine State.puts_cons ?_
    | refine State.puts_nil ?_
    | refine State.put_keeps (by first | exact DIO_CFG_EVEN_blk .. | exact DIO_CFG_EVQ_blk .. | exact DIO_GCFG_HBT_blk .. | (refine blk_ite ?_ ?_ <;> first | exact DIO_CFG_EVEN_blk .. | exact DIO_CFG_EVQ_blk .. | exact DIO_GCFG_HBT_blk ..)) ?_ (within_trans hm (by decide))
    | refine State.put_keeps (by first | exact DIO_CFG_EVEN_blk .. | exact DIO_CFG_EVQ_blk .. | exact DIO_GCFG_HBT_blk .. | (refine blk_ite ?_ ?_ <;> first | exact DIO_CFG_EVEN_blk .. | exact DIO_CFG_EVQ_blk .. | exact DIO_GCFG_HBT_blk ..)) ?_ (within_trans hm (by decide))
    | refine State.dioEntry_keeps ?_ (within_trans hm (by decide))
    | refine State.dioProgram_keeps ?_ (within_trans hm (by decide))
    | refine State.bulkStore_keeps ?_ (within_trans hm (by decide))
    | refine keeps_foldl ?_ _ ?_
    | refine keeps_foldl_snd ?_ _ ?_
    | (intro _ _ h; try dsimp only)
    | refine keeps_pair (by assumption) ?_
    | split

theorem State.loadCams_keeps {e} (h : Keeps m s0 s) (hm : within [.prf] m = true) : Keeps m s0 (State.loadCams e s) := by
  unfold State.loadCams
  try dsimp only
  repeat' with_reducible first
    | exact h
    | refine keeps_ite (fun _ => ?_) (fun _ => ?_)
    | refine State.onPrf_keeps ?_ (within_trans hm (by decide))
    | refine keeps_pair (by assumption) ?_
    | split

theorem State.showBound_keeps {e} (h : Keeps m s0 s) (hm : within [.reg .prf] m = true) : Keeps m s0 (State.showBound e s) := by
  unfold State.showBound
  try dsimp only
  repeat' with_reducible first
    | exact h
    | refine keeps_ite (fun _ => ?_) (fun _ => ?_)
    | refine State.wr_keeps (by first | exact PRF_BOUND_blk .. | exact whole_blk (PRF_BOUND_blk ..) | exact PRF_CFG_NA_blk .. | exact PRF_CFG_NG_blk .. | (refine blk_ite ?_ ?_ <;> first | exact PRF_BOUND_blk .. | exact whole_blk (PRF_BOUND_blk ..) | exact PRF_CFG_NA_blk .. | exact PRF_CFG_NG_blk ..)) ?_ (within_trans hm (by decide))
    | refine State.puts_cons ?_
    | refine State.puts_nil ?_
    | refine State.put_keeps (by first | exact PRF_BOUND_blk .. | exact whole_blk (PRF_BOUND_blk ..) | exact PRF_CFG_NA_blk .. | exact PRF_CFG_NG_blk .. | (refine blk_ite ?_ ?_ <;> first | exact PRF_BOUND_blk .. | exact whole_blk (PRF_BOUND_blk ..) | exact PRF_CFG_NA_blk .. | exact PRF_CFG_NG_blk ..)) ?_ (within_trans hm (by decide))
    | refine keeps_pair (by assumption) ?_
    | split

theorem State.loadOverlay_keeps {e} (h : Keeps m s0 s) (hm : within [.reg .prf, .reg .eng, .reg .csf, .reg .acq, .reg .rng, .reg .dio, .bulk, .prf, .eng, .pwm, .ine, .dio] m = true) : Keeps m s0 (State.loadOverlay e s) := by
  unfold State.loadOverlay
  try dsimp only
  repeat' with_reducible first
    | exact h
    | refine keeps_ite (fun _ => ?_) (fun _ => ?_)
    | refine State.showBound_keeps ?_ (within_trans hm (by decide))
    | refine State.loadCams_keeps ?_ (within_trans hm (by decide))
    | refine State.loadEntries_keeps ?_ (within_trans hm (by decide))
    | refine State.loadSchedule_keeps ?_ (within_trans hm (by decide))
    | refine State.loadAxis_keeps ?_ (within_trans hm (by decide))
    | refine State.loadDio_keeps ?_ (within_trans hm (by decide))
    | refine State.onDio_keeps ?_ (within_trans hm (by decide))
    | refine State.loadAcqset_keeps ?_ (within_trans hm (by decide))
    | refine State.showMexp_keeps ?_ (within_trans hm (by decide))
    | refine keeps_foldl ?_ _ ?_
    | refine keeps_foldl_snd ?_ _ ?_
    | (intro _ _ h; try dsimp only)
    | refine keeps_pair (by assumption) ?_
    | split

theorem State.applyMachine_keeps {e i} (h : Keeps m s0 s) (hm : within [.reg .cfg, .reg .prf, .reg .csf, .reg .fbk, .reg .pwm, .reg .que, .reg .rng, .reg .tim, .reg .dio, .reg .err, .boot, .menc, .ring] m = true) : Keeps m s0 (State.applyMachine e i s) := by
  unfold State.applyMachine
  try dsimp only
  repeat' with_reducible first
    | exact h
    | refine keeps_ite (fun _ => ?_) (fun _ => ?_)
    | refine State.puts_cons ?_
    | refine State.puts_nil ?_
    | refine State.put_keeps (by first | exact CFG_BOOT_BANK_blk .. | exact CFG_BOOT_KEYSLOT_blk .. | exact CFG_RCP_FALLBACK_blk .. | exact CFG_RCP_MODE_blk .. | exact CFG_RCP_START_blk .. | exact CFG_SEQ_blk .. | exact whole_blk (CFG_SEQ_blk ..) | exact DIO_TBASE_blk .. | exact whole_blk (DIO_TBASE_blk ..) | exact PRF_CFG_PERIOD_blk .. | exact PRF_TBASE_blk .. | exact whole_blk (PRF_TBASE_blk ..) | exact QUE_SBASE_blk .. | exact whole_blk (QUE_SBASE_blk ..) | (refine blk_ite ?_ ?_ <;> first | exact CFG_BOOT_BANK_blk .. | exact CFG_BOOT_KEYSLOT_blk .. | exact CFG_RCP_FALLBACK_blk .. | exact CFG_RCP_MODE_blk .. | exact CFG_RCP_START_blk .. | exact CFG_SEQ_blk .. | exact whole_blk (CFG_SEQ_blk ..) | exact DIO_TBASE_blk .. | exact whole_blk (DIO_TBASE_blk ..) | exact PRF_CFG_PERIOD_blk .. | exact PRF_TBASE_blk .. | exact whole_blk (PRF_TBASE_blk ..) | exact QUE_SBASE_blk .. | exact whole_blk (QUE_SBASE_blk ..))) ?_ (within_trans hm (by decide))
    | refine State.wrs_cons ?_
    | refine State.wrs_nil ?_
    | refine State.wr_keeps (by first | exact CFG_BOOT_BANK_blk .. | exact CFG_BOOT_KEYSLOT_blk .. | exact CFG_RCP_FALLBACK_blk .. | exact CFG_RCP_MODE_blk .. | exact CFG_RCP_START_blk .. | exact CFG_SEQ_blk .. | exact whole_blk (CFG_SEQ_blk ..) | exact DIO_TBASE_blk .. | exact whole_blk (DIO_TBASE_blk ..) | exact PRF_CFG_PERIOD_blk .. | exact PRF_TBASE_blk .. | exact whole_blk (PRF_TBASE_blk ..) | exact QUE_SBASE_blk .. | exact whole_blk (QUE_SBASE_blk ..) | (refine blk_ite ?_ ?_ <;> first | exact CFG_BOOT_BANK_blk .. | exact CFG_BOOT_KEYSLOT_blk .. | exact CFG_RCP_FALLBACK_blk .. | exact CFG_RCP_MODE_blk .. | exact CFG_RCP_START_blk .. | exact CFG_SEQ_blk .. | exact whole_blk (CFG_SEQ_blk ..) | exact DIO_TBASE_blk .. | exact whole_blk (DIO_TBASE_blk ..) | exact PRF_CFG_PERIOD_blk .. | exact PRF_TBASE_blk .. | exact whole_blk (PRF_TBASE_blk ..) | exact QUE_SBASE_blk .. | exact whole_blk (QUE_SBASE_blk ..))) ?_ (within_trans hm (by decide))
    | refine State.applyUnits_keeps ?_ (within_trans hm (by decide))
    | refine State.applyMasters_keeps ?_ (within_trans hm (by decide))
    | refine State.applyNet_keeps ?_ (within_trans hm (by decide))
    | refine State.applyRing_keeps ?_ (within_trans hm (by decide))
    | refine keeps_getD (fun _ _ => ?_) ?_
    | refine keeps_pair (by assumption) ?_
    | split

theorem State.applyImage_keeps {selfOk mramOk} (h : Keeps m s0 s) (hm : within [.reg .cfg, .reg .lsh, .reg .prf, .reg .eng, .reg .csf, .reg .fbk, .reg .pwm, .reg .knl, .reg .que, .reg .acq, .reg .rng, .reg .tim, .reg .dio, .reg .saf, .reg .err, .fresh, .sets, .bulk, .log, .knl, .que, .boot, .axes, .lim, .prf, .eng, .pwm, .ine, .probes, .menc, .ring, .dio, .saf] m = true) : Keeps m s0 (State.applyImage selfOk mramOk s) := by
  unfold State.applyImage
  try dsimp only
  repeat' with_reducible first
    | exact h
    | refine keeps_ite (fun _ => ?_) (fun _ => ?_)
    | refine State.mark_keeps (by first | exact CFG_STATE_STATE_blk .. | exact LSH_STAT_LOCKED_blk .. | (refine blk_ite ?_ ?_ <;> first | exact CFG_STATE_STATE_blk .. | exact LSH_STAT_LOCKED_blk ..)) ?_ (within_trans hm (by decide))
    | refine State.leashBase_keeps ?_ (within_trans hm (by decide))
    | refine State.applyMachine_keeps ?_ (within_trans hm (by decide))
    | refine State.safBegin_keeps ?_ (within_trans hm (by decide))
    | refine State.extraHolds_keeps ?_ (within_trans hm (by decide))
    | refine State.loadOverlay_keeps ?_ (within_trans hm (by decide))
    | refine State.effLimits_keeps ?_ (within_trans hm (by decide))
    | refine State.put_keeps (by first | exact CFG_STATE_STATE_blk .. | exact LSH_STAT_LOCKED_blk .. | (refine blk_ite ?_ ?_ <;> first | exact CFG_STATE_STATE_blk .. | exact LSH_STAT_LOCKED_blk ..)) ?_ (within_trans hm (by decide))
    | refine State.onBoot_keeps ?_ (within_trans hm (by decide))
    | refine State.showSafe_keeps ?_ (within_trans hm (by decide))
    | refine State.onPwm_keeps ?_ (within_trans hm (by decide))
    | refine keeps_foldl ?_ _ ?_
    | refine keeps_foldl_snd ?_ _ ?_
    | (intro _ _ h; try dsimp only)
    | refine keeps_pair (by assumption) ?_
    | split

theorem State.recordSlot_keeps {k} (h : Keeps m s0 s) (hm : within [.boot] m = true) : Keeps m s0 (State.recordSlot k s) := by
  unfold State.recordSlot
  try dsimp only
  repeat' with_reducible first
    | exact h
    | refine keeps_ite (fun _ => ?_) (fun _ => ?_)
    | refine State.onBoot_keeps ?_ (within_trans hm (by decide))
    | refine keeps_getD (fun _ _ => ?_) ?_
    | refine keeps_pair (by assumption) ?_
    | split

theorem State.startRecipe_keeps {k r} (h : Keeps m s0 s) (hm : within [.reg .cfg, .reg .prf, .reg .eng, .reg .csf, .reg .acq, .reg .rng, .reg .dio, .bulk, .boot, .prf, .eng, .pwm, .ine, .dio] m = true) : Keeps m s0 (State.startRecipe k r s) := by
  unfold State.startRecipe
  try dsimp only
  repeat' with_reducible first
    | exact h
    | refine keeps_ite (fun _ => ?_) (fun _ => ?_)
    | refine State.loadOverlay_keeps ?_ (within_trans hm (by decide))
    | refine State.onBoot_keeps ?_ (within_trans hm (by decide))
    | refine State.wr_keeps (by first | exact CFG_RCP_ACTIVE_blk .. | exact CFG_RCP_CRC_blk .. | exact whole_blk (CFG_RCP_CRC_blk ..) | (refine blk_ite ?_ ?_ <;> first | exact CFG_RCP_ACTIVE_blk .. | exact CFG_RCP_CRC_blk .. | exact whole_blk (CFG_RCP_CRC_blk ..))) ?_ (within_trans hm (by decide))
    | refine State.puts_cons ?_
    | refine State.puts_nil ?_
    | refine State.put_keeps (by first | exact CFG_RCP_ACTIVE_blk .. | exact CFG_RCP_CRC_blk .. | exact whole_blk (CFG_RCP_CRC_blk ..) | (refine blk_ite ?_ ?_ <;> first | exact CFG_RCP_ACTIVE_blk .. | exact CFG_RCP_CRC_blk .. | exact whole_blk (CFG_RCP_CRC_blk ..))) ?_ (within_trans hm (by decide))
    | refine keeps_getD (fun _ _ => ?_) ?_
    | refine keeps_pair (by assumption) ?_
    | split

theorem State.firmwareRuns_keeps (h : Keeps m s0 s) (hm : within [.fresh, .boot] m = true) : Keeps m s0 (State.firmwareRuns s) := by
  unfold State.firmwareRuns
  try dsimp only
  repeat' with_reducible first
    | exact h
    | refine keeps_ite (fun _ => ?_) (fun _ => ?_)
    | refine State.onBoot_keeps ?_ (within_trans hm (by decide))
    | refine State.drew_keeps ?_ (within_trans hm (by decide))
    | refine keeps_getD (fun _ _ => ?_) ?_
    | refine keeps_pair (by assumption) ?_
    | split

theorem State.ready_keeps (h : Keeps m s0 s) (hm : within [.reg .cfg, .reg .knl, .reg .acq, .reg .rng, .reg .tim, .reg .err, .fresh, .log, .knl, .boot, .acq, .tim] m = true) : Keeps m s0 (State.ready s) := by
  unfold State.ready
  try dsimp only
  repeat' with_reducible first
    | exact h
    | refine keeps_ite (fun _ => ?_) (fun _ => ?_)
    | refine State.put_keeps (by first | exact CFG_STATE_ELAPSED_blk .. | exact CFG_STATE_STATE_blk .. | (refine blk_ite ?_ ?_ <;> first | exact CFG_STATE_ELAPSED_blk .. | exact CFG_STATE_STATE_blk ..)) ?_ (within_trans hm (by decide))
    | refine State.firmwareRuns_keeps ?_ (within_trans hm (by decide))
    | refine State.ringReady_keeps ?_ (within_trans hm (by decide))
    | refine State.timReady_keeps ?_ (within_trans hm (by decide))
    | refine State.acqAutoStart_keeps ?_ (within_trans hm (by decide))
    | refine keeps_pair (by assumption) ?_
    | split

theorem State.chooseRecipe_keeps {to1 to2} (h : Keeps m s0 s) (hm : within [.reg .cfg, .reg .prf, .reg .eng, .reg .csf, .reg .knl, .reg .acq, .reg .rng, .reg .tim, .reg .dio, .reg .err, .fresh, .bulk, .log, .knl, .boot, .prf, .eng, .pwm, .ine, .acq, .tim, .dio] m = true) : Keeps m s0 (State.chooseRecipe to1 to2 s) := by
  unfold State.chooseRecipe
  try dsimp only
  repeat' with_reducible first
    | exact h
    | refine keeps_ite (fun _ => ?_) (fun _ => ?_)
    | refine State.recordSlot_keeps ?_ (within_trans hm (by decide))
    | refine State.startRecipe_keeps ?_ (within_trans hm (by decide))
    | refine State.ready_keeps ?_ (within_trans hm (by decide))
    | refine keeps_pair (by assumption) ?_
    | split

theorem State.bypassOpen_keeps (h : Keeps m s0 s) (hm : within [.reg .rng] m = true) : Keeps m s0 (State.bypassOpen s) := by
  unfold State.bypassOpen
  try dsimp only
  repeat' with_reducible first
    | exact h
    | refine keeps_ite (fun _ => ?_) (fun _ => ?_)
    | refine State.mark_keeps (by first | exact RNG_ST_BYP_blk ..) ?_ (within_trans hm (by decide))
    | refine keeps_pair (by assumption) ?_
    | split

theorem execSupplyFault_keeps {dt vin vio regs} {t} (e : execSupplyFault dt vin vio regs s = .next t) : Keeps [.reg .cfg, .reg .lsh, .reg .prf, .reg .eng, .reg .csf, .reg .fbk, .reg .pwm, .reg .knl, .reg .que, .reg .acq, .reg .rng, .reg .tim, .reg .dio, .reg .saf, .reg .err, .fresh, .sets, .clk, .bulk, .bus, .log, .knl, .que, .boot, .pow, .axes, .lim, .prf, .eng, .pwm, .drn, .ine, .shp, .csf, .ports, .probes, .menc, .acq, .ring, .tim, .dio, .saf, .svc] s t := by
  have hm := within_refl [.reg .cfg, .reg .lsh, .reg .prf, .reg .eng, .reg .csf, .reg .fbk, .reg .pwm, .reg .knl, .reg .que, .reg .acq, .reg .rng, .reg .tim, .reg .dio, .reg .saf, .reg .err, .fresh, .sets, .clk, .bulk, .bus, .log, .knl, .que, .boot, .pow, .axes, .lim, .prf, .eng, .pwm, .drn, .ine, .shp, .csf, .ports, .probes, .menc, .acq, .ring, .tim, .dio, .saf, .svc]
  have h := Keeps.refl [.reg .cfg, .reg .lsh, .reg .prf, .reg .eng, .reg .csf, .reg .fbk, .reg .pwm, .reg .knl, .reg .que, .reg .acq, .reg .rng, .reg .tim, .reg .dio, .reg .saf, .reg .err, .fresh, .sets, .clk, .bulk, .bus, .log, .knl, .que, .boot, .pow, .axes, .lim, .prf, .eng, .pwm, .drn, .ine, .shp, .csf, .ports, .probes, .menc, .acq, .ring, .tim, .dio, .saf, .svc] s
  simp only [execSupplyFault, Host.Outcome.next.injEq] at e
  subst e
  repeat' with_reducible first
    | exact h
    | refine keeps_ite (fun _ => ?_) (fun _ => ?_)
    | refine State.supplyFault_keeps ?_ (within_trans hm (by decide))
    | refine State.elapse_keeps ?_ (within_trans hm (by decide))
    | refine keeps_pair (by assumption) ?_
    | split

theorem execSupervisorRelease_keeps {dt qvsel clksel test} {t} (e : execSupervisorRelease dt qvsel clksel test s = .next t) : Keeps [.reg .cfg, .reg .err, .sets, .clk, .boot] s t := by
  have hm := within_refl [.reg .cfg, .reg .err, .sets, .clk, .boot]
  have h := Keeps.refl [.reg .cfg, .reg .err, .sets, .clk, .boot] s
  simp only [execSupervisorRelease, Host.Outcome.next.injEq] at e
  subst e
  repeat' with_reducible first
    | exact h
    | refine keeps_ite (fun _ => ?_) (fun _ => ?_)
    | refine State.release_keeps ?_ (within_trans hm (by decide))
    | refine State.elapse_keeps ?_ (within_trans hm (by decide))
    | refine keeps_pair (by assumption) ?_
    | split

theorem execResetNAssert_keeps {dt} {t} (e : execResetNAssert dt s = .next t) : Keeps [.reg .cfg, .reg .lsh, .reg .prf, .reg .eng, .reg .csf, .reg .fbk, .reg .pwm, .reg .knl, .reg .que, .reg .acq, .reg .rng, .reg .tim, .reg .dio, .reg .saf, .reg .err, .fresh, .sets, .clk, .bulk, .bus, .log, .knl, .que, .boot, .pow, .axes, .lim, .prf, .eng, .pwm, .drn, .ine, .shp, .csf, .ports, .probes, .menc, .acq, .ring, .tim, .dio, .saf, .svc] s t := by
  have hm := within_refl [.reg .cfg, .reg .lsh, .reg .prf, .reg .eng, .reg .csf, .reg .fbk, .reg .pwm, .reg .knl, .reg .que, .reg .acq, .reg .rng, .reg .tim, .reg .dio, .reg .saf, .reg .err, .fresh, .sets, .clk, .bulk, .bus, .log, .knl, .que, .boot, .pow, .axes, .lim, .prf, .eng, .pwm, .drn, .ine, .shp, .csf, .ports, .probes, .menc, .acq, .ring, .tim, .dio, .saf, .svc]
  have h := Keeps.refl [.reg .cfg, .reg .lsh, .reg .prf, .reg .eng, .reg .csf, .reg .fbk, .reg .pwm, .reg .knl, .reg .que, .reg .acq, .reg .rng, .reg .tim, .reg .dio, .reg .saf, .reg .err, .fresh, .sets, .clk, .bulk, .bus, .log, .knl, .que, .boot, .pow, .axes, .lim, .prf, .eng, .pwm, .drn, .ine, .shp, .csf, .ports, .probes, .menc, .acq, .ring, .tim, .dio, .saf, .svc] s
  simp only [execResetNAssert, Host.Outcome.next.injEq] at e
  subst e
  repeat' with_reducible first
    | exact h
    | refine keeps_ite (fun _ => ?_) (fun _ => ?_)
    | refine State.resetLow_keeps ?_ (within_trans hm (by decide))
    | refine State.elapse_keeps ?_ (within_trans hm (by decide))
    | refine keeps_pair (by assumption) ?_
    | split

theorem execResetNRelease_keeps {dt qvsel clksel test} {t} (e : execResetNRelease dt qvsel clksel test s = .next t) : Keeps [.reg .cfg, .reg .err, .sets, .clk, .boot] s t := by
  have hm := within_refl [.reg .cfg, .reg .err, .sets, .clk, .boot]
  have h := Keeps.refl [.reg .cfg, .reg .err, .sets, .clk, .boot] s
  simp only [execResetNRelease, Host.Outcome.next.injEq] at e
  subst e
  repeat' with_reducible first
    | exact h
    | refine keeps_ite (fun _ => ?_) (fun _ => ?_)
    | refine State.resetHigh_keeps ?_ (within_trans hm (by decide))
    | refine State.elapse_keeps ?_ (within_trans hm (by decide))
    | refine keeps_pair (by assumption) ?_
    | split

theorem execClocks_keeps {dt} {t} (e : execClocks dt s = .next t) : Keeps [.reg .cfg, .sets, .clk, .bulk] s t := by
  have hm := within_refl [.reg .cfg, .sets, .clk, .bulk]
  have h := Keeps.refl [.reg .cfg, .sets, .clk, .bulk] s
  simp only [execClocks, Host.Outcome.next.injEq] at e
  subst e
  repeat' with_reducible first
    | exact h
    | refine keeps_ite (fun _ => ?_) (fun _ => ?_)
    | refine State.clocks_keeps ?_ (within_trans hm (by decide))
    | refine State.elapse_keeps ?_ (within_trans hm (by decide))
    | refine keeps_pair (by assumption) ?_
    | split

theorem execFlashReset_keeps {dt sfdp density quad mhz cmd13 susp} {t} (e : execFlashReset dt sfdp density quad mhz cmd13 susp s = .next t) : Keeps [.reg .cfg, .fresh, .sets, .clk, .boot] s t := by
  have hm := within_refl [.reg .cfg, .fresh, .sets, .clk, .boot]
  have h := Keeps.refl [.reg .cfg, .fresh, .sets, .clk, .boot] s
  simp only [execFlashReset, Host.Outcome.next.injEq] at e
  subst e
  repeat' with_reducible first
    | exact h
    | refine keeps_ite (fun _ => ?_) (fun _ => ?_)
    | refine State.elapse_keeps ?_ (within_trans hm (by decide))
    | refine State.flashReset_keeps ?_ (within_trans hm (by decide))
    | refine State.flashFound_keeps ?_ (within_trans hm (by decide))
    | refine keeps_pair (by assumption) ?_
    | split

theorem execSelect_keeps {dt to0 to1} {t} (e : execSelect dt to0 to1 s = .next t) : Keeps [.reg .cfg, .sets, .clk, .boot] s t := by
  have hm := within_refl [.reg .cfg, .sets, .clk, .boot]
  have h := Keeps.refl [.reg .cfg, .sets, .clk, .boot] s
  simp only [execSelect, Host.Outcome.next.injEq] at e
  subst e
  repeat' with_reducible first
    | exact h
    | refine keeps_ite (fun _ => ?_) (fun _ => ?_)
    | refine State.selectBank_keeps ?_ (within_trans hm (by decide))
    | refine State.elapse_keeps ?_ (within_trans hm (by decide))
    | refine keeps_pair (by assumption) ?_
    | split

theorem execLoad_keeps {dt timeout} {t} (e : execLoad dt timeout s = .next t) : Keeps [.reg .cfg, .sets, .clk, .boot] s t := by
  have hm := within_refl [.reg .cfg, .sets, .clk, .boot]
  have h := Keeps.refl [.reg .cfg, .sets, .clk, .boot] s
  simp only [execLoad, Host.Outcome.next.injEq] at e
  subst e
  repeat' with_reducible first
    | exact h
    | refine keeps_ite (fun _ => ?_) (fun _ => ?_)
    | refine State.loadBank_keeps ?_ (within_trans hm (by decide))
    | refine State.elapse_keeps ?_ (within_trans hm (by decide))
    | refine keeps_pair (by assumption) ?_
    | split

theorem execVerify_keeps {dt} {t} (e : execVerify dt s = .next t) : Keeps [.reg .cfg, .sets, .clk, .boot] s t := by
  have hm := within_refl [.reg .cfg, .sets, .clk, .boot]
  have h := Keeps.refl [.reg .cfg, .sets, .clk, .boot] s
  simp only [execVerify, Host.Outcome.next.injEq] at e
  subst e
  repeat' with_reducible first
    | exact h
    | refine keeps_ite (fun _ => ?_) (fun _ => ?_)
    | refine State.verify_keeps ?_ (within_trans hm (by decide))
    | refine State.elapse_keeps ?_ (within_trans hm (by decide))
    | refine keeps_pair (by assumption) ?_
    | split

theorem execApply_keeps {dt selfOk mramOk} {t} (e : execApply dt selfOk mramOk s = .next t) : Keeps [.reg .cfg, .reg .lsh, .reg .prf, .reg .eng, .reg .csf, .reg .fbk, .reg .pwm, .reg .knl, .reg .que, .reg .acq, .reg .rng, .reg .tim, .reg .dio, .reg .saf, .reg .err, .fresh, .sets, .clk, .bulk, .log, .knl, .que, .boot, .axes, .lim, .prf, .eng, .pwm, .ine, .probes, .menc, .ring, .dio, .saf] s t := by
  have hm := within_refl [.reg .cfg, .reg .lsh, .reg .prf, .reg .eng, .reg .csf, .reg .fbk, .reg .pwm, .reg .knl, .reg .que, .reg .acq, .reg .rng, .reg .tim, .reg .dio, .reg .saf, .reg .err, .fresh, .sets, .clk, .bulk, .log, .knl, .que, .boot, .axes, .lim, .prf, .eng, .pwm, .ine, .probes, .menc, .ring, .dio, .saf]
  have h := Keeps.refl [.reg .cfg, .reg .lsh, .reg .prf, .reg .eng, .reg .csf, .reg .fbk, .reg .pwm, .reg .knl, .reg .que, .reg .acq, .reg .rng, .reg .tim, .reg .dio, .reg .saf, .reg .err, .fresh, .sets, .clk, .bulk, .log, .knl, .que, .boot, .axes, .lim, .prf, .eng, .pwm, .ine, .probes, .menc, .ring, .dio, .saf] s
  simp only [execApply, Host.Outcome.next.injEq] at e
  subst e
  repeat' with_reducible first
    | exact h
    | refine keeps_ite (fun _ => ?_) (fun _ => ?_)
    | refine State.applyImage_keeps ?_ (within_trans hm (by decide))
    | refine State.elapse_keeps ?_ (within_trans hm (by decide))
    | refine keeps_pair (by assumption) ?_
    | split

theorem execRecipe_keeps {dt to1 to2} {t} (e : execRecipe dt to1 to2 s = .next t) : Keeps [.reg .cfg, .reg .prf, .reg .eng, .reg .csf, .reg .knl, .reg .acq, .reg .rng, .reg .tim, .reg .dio, .reg .err, .fresh, .sets, .clk, .bulk, .log, .knl, .boot, .prf, .eng, .pwm, .ine, .acq, .tim, .dio] s t := by
  have hm := within_refl [.reg .cfg, .reg .prf, .reg .eng, .reg .csf, .reg .knl, .reg .acq, .reg .rng, .reg .tim, .reg .dio, .reg .err, .fresh, .sets, .clk, .bulk, .log, .knl, .boot, .prf, .eng, .pwm, .ine, .acq, .tim, .dio]
  have h := Keeps.refl [.reg .cfg, .reg .prf, .reg .eng, .reg .csf, .reg .knl, .reg .acq, .reg .rng, .reg .tim, .reg .dio, .reg .err, .fresh, .sets, .clk, .bulk, .log, .knl, .boot, .prf, .eng, .pwm, .ine, .acq, .tim, .dio] s
  simp only [execRecipe, Host.Outcome.next.injEq] at e
  subst e
  repeat' with_reducible first
    | exact h
    | refine keeps_ite (fun _ => ?_) (fun _ => ?_)
    | refine State.chooseRecipe_keeps ?_ (within_trans hm (by decide))
    | refine State.elapse_keeps ?_ (within_trans hm (by decide))
    | refine keeps_pair (by assumption) ?_
    | split

theorem execBypassOpen_keeps {dt} {t} (e : execBypassOpen dt s = .next t) : Keeps [.reg .rng, .sets, .clk] s t := by
  have hm := within_refl [.reg .rng, .sets, .clk]
  have h := Keeps.refl [.reg .rng, .sets, .clk] s
  simp only [execBypassOpen, Host.Outcome.next.injEq] at e
  subst e
  repeat' with_reducible first
    | exact h
    | refine keeps_ite (fun _ => ?_) (fun _ => ?_)
    | refine State.bypassOpen_keeps ?_ (within_trans hm (by decide))
    | refine State.elapse_keeps ?_ (within_trans hm (by decide))
    | refine keeps_pair (by assumption) ?_
    | split

/-! ### Changeover -/

theorem State.requestChange_keeps {k busy} (h : Keeps m s0 s) (hm : within [.reg .cfg, .boot] m = true) : Keeps m s0 (State.requestChange k busy s) := by
  unfold State.requestChange
  try dsimp only
  repeat' with_reducible first
    | exact h
    | refine keeps_ite (fun _ => ?_) (fun _ => ?_)
    | refine State.put_keeps (by first | exact CFG_CHG_BUSY_blk .. | exact CFG_CHG_RESULT_blk .. | exact CFG_CHG_SLOT_blk .. | exact CFG_STATE_STATE_blk .. | (refine blk_ite ?_ ?_ <;> first | exact CFG_CHG_BUSY_blk .. | exact CFG_CHG_RESULT_blk .. | exact CFG_CHG_SLOT_blk .. | exact CFG_STATE_STATE_blk ..)) ?_ (within_trans hm (by decide))
    | refine State.onBoot_keeps ?_ (within_trans hm (by decide))
    | refine State.flashCmd_keeps ?_ (within_trans hm (by decide))
    | refine State.puts_cons ?_
    | refine State.puts_nil ?_
    | refine State.put_keeps (by first | exact CFG_CHG_BUSY_blk .. | exact CFG_CHG_RESULT_blk .. | exact CFG_CHG_SLOT_blk .. | exact CFG_STATE_STATE_blk .. | (refine blk_ite ?_ ?_ <;> first | exact CFG_CHG_BUSY_blk .. | exact CFG_CHG_RESULT_blk .. | exact CFG_CHG_SLOT_blk .. | exact CFG_STATE_STATE_blk ..)) ?_ (within_trans hm (by decide))
    | refine keeps_pair (by assumption) ?_
    | split

theorem State.writeChange_keeps {k} (h : Keeps m s0 s) (hm : within [.reg .cfg, .fresh, .boot] m = true) : Keeps m s0 (State.writeChange k s) := by
  unfold State.writeChange
  try dsimp only
  repeat' with_reducible first
    | exact h
    | refine keeps_ite (fun _ => ?_) (fun _ => ?_)
    | refine State.requestChange_keeps ?_ (within_trans hm (by decide))
    | refine State.drew_keeps ?_ (within_trans hm (by decide))
    | refine keeps_pair (by assumption) ?_
    | split

theorem State.endChange_keeps {r} (h : Keeps m s0 s) (hm : within [.reg .cfg, .reg .knl, .knl, .boot, .ring] m = true) : Keeps m s0 (State.endChange r s) := by
  unfold State.endChange
  try dsimp only
  repeat' with_reducible first
    | exact h
    | refine keeps_ite (fun _ => ?_) (fun _ => ?_)
    | refine State.onBoot_keeps ?_ (within_trans hm (by decide))
    | refine State.puts_cons ?_
    | refine State.puts_nil ?_
    | refine State.put_keeps (by first | exact CFG_CHG_BUSY_blk .. | exact CFG_CHG_RESULT_blk .. | exact CFG_STATE_STATE_blk .. | (refine blk_ite ?_ ?_ <;> first | exact CFG_CHG_BUSY_blk .. | exact CFG_CHG_RESULT_blk .. | exact CFG_STATE_STATE_blk ..)) ?_ (within_trans hm (by decide))
    | refine State.onRing_keeps ?_ (within_trans hm (by decide))
    | refine State.event_keeps ?_ (within_trans hm (by decide))
    | refine keeps_pair (by assumption) ?_
    | split

theorem State.stageBlock_keeps {e n} (h : Keeps m s0 s) (hm : within [.ring] m = true) : Keeps m s0 (State.stageBlock e n s) := by
  unfold State.stageBlock
  try dsimp only
  repeat' with_reducible first
    | exact h
    | refine keeps_ite (fun _ => ?_) (fun _ => ?_)
    | refine State.svRequest_keeps ?_ (within_trans hm (by decide))
    | refine State.onRingMem_keeps ?_ (within_trans hm (by decide))
    | refine keeps_pair (by assumption) ?_
    | split

theorem State.stageRecipe_keeps {timeout} (h : Keeps m s0 s) (hm : within [.reg .cfg, .reg .knl, .knl, .boot, .ring] m = true) : Keeps m s0 (State.stageRecipe timeout s) := by
  unfold State.stageRecipe
  try dsimp only
  repeat' with_reducible first
    | exact h
    | refine keeps_ite (fun _ => ?_) (fun _ => ?_)
    | refine State.endChange_keeps ?_ (within_trans hm (by decide))
    | refine State.onBoot_keeps ?_ (within_trans hm (by decide))
    | refine State.stageBlock_keeps ?_ (within_trans hm (by decide))
    | refine keeps_foldl ?_ _ ?_
    | refine keeps_foldl_snd ?_ _ ?_
    | (intro _ _ h; try dsimp only)
    | refine keeps_pair (by assumption) ?_
    | split

theorem State.stageAck_keeps {m' k} (h : Keeps m s0 s) (hm : within [.ring] m = true) : Keeps m s0 (State.stageAck m' k s) := by
  unfold State.stageAck
  try dsimp only
  repeat' with_reducible first
    | exact h
    | refine keeps_ite (fun _ => ?_) (fun _ => ?_)
    | refine State.onRingMem_keeps ?_ (within_trans hm (by decide))
    | refine State.onRing_keeps ?_ (within_trans hm (by decide))
    | refine keeps_pair (by assumption) ?_
    | split

theorem State.stageTimeout_keeps (h : Keeps m s0 s) (hm : within [.reg .cfg, .reg .knl, .knl, .boot, .ring] m = true) : Keeps m s0 (State.stageTimeout s) := by
  unfold State.stageTimeout
  try dsimp only
  repeat' with_reducible first
    | exact h
    | refine keeps_ite (fun _ => ?_) (fun _ => ?_)
    | refine State.onRing_keeps ?_ (within_trans hm (by decide))
    | refine State.endChange_keeps ?_ (within_trans hm (by decide))
    | refine State.svRequest_keeps ?_ (within_trans hm (by decide))
    | refine keeps_pair (by assumption) ?_
    | split

theorem State.dropQueues_keeps (h : Keeps m s0 s) (hm : within [.reg .prf, .reg .knl, .reg .que, .reg .err, .sets, .bulk, .bus, .log, .knl, .que, .prf, .svc] m = true) : Keeps m s0 (State.dropQueues s) := by
  unfold State.dropQueues
  try dsimp only
  repeat' with_reducible first
    | exact h
    | refine keeps_ite (fun _ => ?_) (fun _ => ?_)
    | refine State.endSuper_keeps ?_ (within_trans hm (by decide))
    | refine State.setMode_keeps ?_ (within_trans hm (by decide))
    | refine State.put_keeps (by first | exact PRF_MVST_MASTER_blk ..) ?_ (within_trans hm (by decide))
    | refine State.onMot_keeps ?_ (within_trans hm (by decide))
    | refine State.onPrf_keeps ?_ (within_trans hm (by decide))
    | refine State.flush_keeps ?_ (within_trans hm (by decide))
    | refine State.groupFinish_keeps ?_ (within_trans hm (by decide))
    | refine State.onGrp_keeps ?_ (within_trans hm (by decide))
    | refine State.groupEnd_keeps ?_ (within_trans hm (by decide))
    | refine keeps_foldl ?_ _ ?_
    | refine keeps_foldl_snd ?_ _ ?_
    | (intro _ _ h; try dsimp only)
    | refine keeps_pair (by assumption) ?_
    | split

theorem State.changeEntry_keeps {n x} (h : Keeps m s0 s) (hm : within [.reg .lsh, .reg .prf, .reg .eng, .reg .csf, .reg .pwm, .reg .rng, .reg .err, .fresh, .sets, .bulk, .log, .axes, .eng, .pwm, .drn, .ine, .shp] m = true) : Keeps m s0 (State.changeEntry n x s) := by
  unfold State.changeEntry
  try dsimp only
  repeat' with_reducible first
    | exact h
    | refine keeps_ite (fun _ => ?_) (fun _ => ?_)
    | refine State.put_keeps (by first | exact PRF_AXGEN_CGEN_blk ..) ?_ (within_trans hm (by decide))
    | refine State.bulkStore_keeps ?_ (within_trans hm (by decide))
    | refine State.switchCaches_keeps ?_ (within_trans hm (by decide))
    | refine State.onAxis_keeps ?_ (within_trans hm (by decide))
    | refine keeps_pair (by assumption) ?_
    | split

theorem State.swapBank_keeps {old new k} (h : Keeps m s0 s) (hm : within [.reg .eng, .fresh, .eng] m = true) : Keeps m s0 (State.swapBank old new k s) := by
  unfold State.swapBank
  try dsimp only
  repeat' with_reducible first
    | exact h
    | refine keeps_ite (fun _ => ?_) (fun _ => ?_)
    | refine State.put_keeps (by first | exact ENG_STAT_BANK_blk ..) ?_ (within_trans hm (by decide))
    | refine State.loadSchedule_keeps ?_ (within_trans hm (by decide))
    | refine State.handOverCommit_keeps ?_ (within_trans hm (by decide))
    | refine State.setPreset_keeps ?_ (within_trans hm (by decide))
    | refine keeps_foldl ?_ _ ?_
    | refine keeps_foldl_snd ?_ _ ?_
    | (intro _ _ h; try dsimp only)
    | refine keeps_pair (by assumption) ?_
    | split

theorem State.dioSwitchOver_keeps {old c} (h : Keeps m s0 s) (hm : within [.reg .dio, .dio] m = true) : Keeps m s0 (State.dioSwitchOver old c s) := by
  unfold State.dioSwitchOver
  try dsimp only
  repeat' with_reducible first
    | exact h
    | refine keeps_ite (fun _ => ?_) (fun _ => ?_)
    | refine State.setBit64_keeps (by first | exact DIO_OUT_blk .. | exact whole_blk (DIO_OUT_blk ..)) ?_ (within_trans hm (by decide))
    | refine State.onDch_keeps ?_ (within_trans hm (by decide))
    | refine keeps_pair (by assumption) ?_
    | split

theorem State.changeDio_keeps {p} (h : Keeps m s0 s) (hm : within [.reg .knl, .reg .que, .reg .dio, .reg .err, .sets, .bulk, .log, .knl, .que, .dio] m = true) : Keeps m s0 (State.changeDio p s) := by
  unfold State.changeDio
  try dsimp only
  repeat' with_reducible first
    | exact h
    | refine keeps_ite (fun _ => ?_) (fun _ => ?_)
    | refine State.loadDio_keeps ?_ (within_trans hm (by decide))
    | refine State.dioSwitchOver_keeps ?_ (within_trans hm (by decide))
    | refine State.dioValidity_keeps ?_ (within_trans hm (by decide))
    | refine State.dioProgram_keeps ?_ (within_trans hm (by decide))
    | refine keeps_foldl ?_ _ ?_
    | refine keeps_foldl_snd ?_ _ ?_
    | (intro _ _ h; try dsimp only)
    | refine keeps_pair (by assumption) ?_
    | split

theorem State.changeTo_keeps {r} (h : Keeps m s0 s) (hm : within [.reg .lsh, .reg .prf, .reg .eng, .reg .csf, .reg .pwm, .reg .knl, .reg .que, .reg .acq, .reg .rng, .reg .dio, .reg .err, .fresh, .sets, .bulk, .bus, .log, .knl, .que, .axes, .lim, .prf, .eng, .pwm, .drn, .ine, .shp, .acq, .dio, .svc] m = true) : Keeps m s0 (State.changeTo r s) := by
  unfold State.changeTo
  try dsimp only
  repeat' with_reducible first
    | exact h
    | refine keeps_ite (fun _ => ?_) (fun _ => ?_)
    | refine State.permClamp_keeps ?_ (within_trans hm (by decide))
    | refine State.discardLowerings_keeps ?_ (within_trans hm (by decide))
    | refine State.effLimits_keeps ?_ (within_trans hm (by decide))
    | refine State.dropQueues_keeps ?_ (within_trans hm (by decide))
    | refine State.changeEntry_keeps ?_ (within_trans hm (by decide))
    | refine State.swapBank_keeps ?_ (within_trans hm (by decide))
    | refine State.showBound_keeps ?_ (within_trans hm (by decide))
    | refine State.loadCams_keeps ?_ (within_trans hm (by decide))
    | refine State.emptyDarner_keeps ?_ (within_trans hm (by decide))
    | refine State.changeDio_keeps ?_ (within_trans hm (by decide))
    | refine State.acqChangeover_keeps ?_ (within_trans hm (by decide))
    | refine State.showMexp_keeps ?_ (within_trans hm (by decide))
    | refine keeps_foldl ?_ _ ?_
    | refine keeps_foldl_snd ?_ _ ?_
    | (intro _ _ h; try dsimp only)
    | refine keeps_pair (by assumption) ?_
    | split

theorem State.commitChange_keeps (h : Keeps m s0 s) (hm : within [.reg .cfg, .reg .lsh, .reg .prf, .reg .eng, .reg .csf, .reg .pwm, .reg .knl, .reg .que, .reg .acq, .reg .rng, .reg .dio, .reg .err, .fresh, .sets, .bulk, .bus, .log, .knl, .que, .boot, .axes, .lim, .prf, .eng, .pwm, .drn, .ine, .shp, .acq, .ring, .dio, .svc] m = true) : Keeps m s0 (State.commitChange s) := by
  unfold State.commitChange
  try dsimp only
  repeat' with_reducible first
    | exact h
    | refine keeps_ite (fun _ => ?_) (fun _ => ?_)
    | refine State.changeTo_keeps ?_ (within_trans hm (by decide))
    | refine State.askIdent_keeps ?_ (within_trans hm (by decide))
    | refine State.satBump_keeps (by first | exact CFG_CHG_COUNT_blk .. | exact CFG_RCP_ACTIVE_blk .. | exact CFG_RCP_CRC_blk .. | exact whole_blk (CFG_RCP_CRC_blk ..) | (refine blk_ite ?_ ?_ <;> first | exact CFG_CHG_COUNT_blk .. | exact CFG_RCP_ACTIVE_blk .. | exact CFG_RCP_CRC_blk .. | exact whole_blk (CFG_RCP_CRC_blk ..))) ?_ (within_trans hm (by decide))
    | refine State.wr_keeps (by first | exact CFG_CHG_COUNT_blk .. | exact CFG_RCP_ACTIVE_blk .. | exact CFG_RCP_CRC_blk .. | exact whole_blk (CFG_RCP_CRC_blk ..) | (refine blk_ite ?_ ?_ <;> first | exact CFG_CHG_COUNT_blk .. | exact CFG_RCP_ACTIVE_blk .. | exact CFG_RCP_CRC_blk .. | exact whole_blk (CFG_RCP_CRC_blk ..))) ?_ (within_trans hm (by decide))
    | refine State.put_keeps (by first | exact CFG_CHG_COUNT_blk .. | exact CFG_RCP_ACTIVE_blk .. | exact CFG_RCP_CRC_blk .. | exact whole_blk (CFG_RCP_CRC_blk ..) | (refine blk_ite ?_ ?_ <;> first | exact CFG_CHG_COUNT_blk .. | exact CFG_RCP_ACTIVE_blk .. | exact CFG_RCP_CRC_blk .. | exact whole_blk (CFG_RCP_CRC_blk ..))) ?_ (within_trans hm (by decide))
    | refine State.endChange_keeps ?_ (within_trans hm (by decide))
    | refine State.recordSlot_keeps ?_ (within_trans hm (by decide))
    | refine State.onBoot_keeps ?_ (within_trans hm (by decide))
    | refine keeps_foldl ?_ _ ?_
    | refine keeps_foldl_snd ?_ _ ?_
    | (intro _ _ h; try dsimp only)
    | refine keeps_pair (by assumption) ?_
    | split

theorem execChangeoverRequest_keeps {dt slot busy} {t} (e : execChangeoverRequest dt slot busy s = .next t) : Keeps [.reg .cfg, .sets, .clk, .boot] s t := by
  have hm := within_refl [.reg .cfg, .sets, .clk, .boot]
  have h := Keeps.refl [.reg .cfg, .sets, .clk, .boot] s
  simp only [execChangeoverRequest, Host.Outcome.next.injEq] at e
  subst e
  repeat' with_reducible first
    | exact h
    | refine keeps_ite (fun _ => ?_) (fun _ => ?_)
    | refine State.requestChange_keeps ?_ (within_trans hm (by decide))
    | refine State.elapse_keeps ?_ (within_trans hm (by decide))
    | refine keeps_pair (by assumption) ?_
    | split

theorem execChangeoverStaged_keeps {dt timeout} {t} (e : execChangeoverStaged dt timeout s = .next t) : Keeps [.reg .cfg, .reg .knl, .sets, .clk, .knl, .boot, .ring] s t := by
  have hm := within_refl [.reg .cfg, .reg .knl, .sets, .clk, .knl, .boot, .ring]
  have h := Keeps.refl [.reg .cfg, .reg .knl, .sets, .clk, .knl, .boot, .ring] s
  simp only [execChangeoverStaged, Host.Outcome.next.injEq] at e
  subst e
  repeat' with_reducible first
    | exact h
    | refine keeps_ite (fun _ => ?_) (fun _ => ?_)
    | refine State.stageRecipe_keeps ?_ (within_trans hm (by decide))
    | refine State.elapse_keeps ?_ (within_trans hm (by decide))
    | refine keeps_pair (by assumption) ?_
    | split

theorem execStagedSetAck_keeps {dt m' k} {t} (e : execStagedSetAck dt m' k s = .next t) : Keeps [.sets, .clk, .ring] s t := by
  have hm := within_refl [.sets, .clk, .ring]
  have h := Keeps.refl [.sets, .clk, .ring] s
  simp only [execStagedSetAck, Host.Outcome.next.injEq] at e
  subst e
  repeat' with_reducible first
    | exact h
    | refine keeps_ite (fun _ => ?_) (fun _ => ?_)
    | refine State.stageAck_keeps ?_ (within_trans hm (by decide))
    | refine State.elapse_keeps ?_ (within_trans hm (by decide))
    | refine keeps_pair (by assumption) ?_
    | split

theorem execChangeoverAckTimeout_keeps {dt} {t} (e : execChangeoverAckTimeout dt s = .next t) : Keeps [.reg .cfg, .reg .knl, .sets, .clk, .knl, .boot, .ring] s t := by
  have hm := within_refl [.reg .cfg, .reg .knl, .sets, .clk, .knl, .boot, .ring]
  have h := Keeps.refl [.reg .cfg, .reg .knl, .sets, .clk, .knl, .boot, .ring] s
  simp only [execChangeoverAckTimeout, Host.Outcome.next.injEq] at e
  subst e
  repeat' with_reducible first
    | exact h
    | refine keeps_ite (fun _ => ?_) (fun _ => ?_)
    | refine State.stageTimeout_keeps ?_ (within_trans hm (by decide))
    | refine State.elapse_keeps ?_ (within_trans hm (by decide))
    | refine keeps_pair (by assumption) ?_
    | split

theorem execChangeoverCommit_keeps {dt} {t} (e : execChangeoverCommit dt s = .next t) : Keeps [.reg .cfg, .reg .lsh, .reg .prf, .reg .eng, .reg .csf, .reg .pwm, .reg .knl, .reg .que, .reg .acq, .reg .rng, .reg .dio, .reg .err, .fresh, .sets, .clk, .bulk, .bus, .log, .knl, .que, .boot, .axes, .lim, .prf, .eng, .pwm, .drn, .ine, .shp, .acq, .ring, .dio, .svc] s t := by
  have hm := within_refl [.reg .cfg, .reg .lsh, .reg .prf, .reg .eng, .reg .csf, .reg .pwm, .reg .knl, .reg .que, .reg .acq, .reg .rng, .reg .dio, .reg .err, .fresh, .sets, .clk, .bulk, .bus, .log, .knl, .que, .boot, .axes, .lim, .prf, .eng, .pwm, .drn, .ine, .shp, .acq, .ring, .dio, .svc]
  have h := Keeps.refl [.reg .cfg, .reg .lsh, .reg .prf, .reg .eng, .reg .csf, .reg .pwm, .reg .knl, .reg .que, .reg .acq, .reg .rng, .reg .dio, .reg .err, .fresh, .sets, .clk, .bulk, .bus, .log, .knl, .que, .boot, .axes, .lim, .prf, .eng, .pwm, .drn, .ine, .shp, .acq, .ring, .dio, .svc] s
  simp only [execChangeoverCommit, Host.Outcome.next.injEq] at e
  subst e
  repeat' with_reducible first
    | exact h
    | refine keeps_ite (fun _ => ?_) (fun _ => ?_)
    | refine State.commitChange_keeps ?_ (within_trans hm (by decide))
    | refine State.elapse_keeps ?_ (within_trans hm (by decide))
    | refine keeps_pair (by assumption) ?_
    | split

/-! ### Islands -/

theorem State.showRefresh_keeps (h : Keeps m s0 s) (hm : within [.pow] m = true) : Keeps m s0 (State.showRefresh s) := by
  unfold State.showRefresh
  try dsimp only
  repeat' with_reducible first
    | exact h
    | refine keeps_ite (fun _ => ?_) (fun _ => ?_)
    | refine State.onPow_keeps ?_ (within_trans hm (by decide))
    | refine keeps_pair (by assumption) ?_
    | split

theorem State.powerEntry_keeps {i left} (h : Keeps m s0 s) (hm : within [.reg .err, .pow] m = true) : Keeps m s0 (State.powerEntry i left s) := by
  unfold State.powerEntry
  try dsimp only
  repeat' with_reducible first
    | exact h
    | refine keeps_ite (fun _ => ?_) (fun _ => ?_)
    | refine State.showRefresh_keeps ?_ (within_trans hm (by decide))
    | refine State.put_keeps (by first | exact PWR_ISL_STATE_blk ..) ?_ (within_trans hm (by decide))
    | refine keeps_pair (by assumption) ?_
    | split

theorem State.lateWake_keeps {i} (h : Keeps m s0 s) (hm : within [.reg .err] m = true) : Keeps m s0 (State.lateWake i s) := by
  unfold State.lateWake
  try dsimp only
  repeat' with_reducible first
    | exact h
    | refine keeps_ite (fun _ => ?_) (fun _ => ?_)
    | refine State.satBump_keeps (by first | exact PWR_ISL_LATE_blk ..) ?_ (within_trans hm (by decide))
    | refine keeps_pair (by assumption) ?_
    | split

theorem State.wakeDone_keeps {i} (h : Keeps m s0 s) (hm : within [.reg .prf, .reg .eng, .reg .acq, .reg .err, .fresh, .pow, .axes, .drn, .acq] m = true) : Keeps m s0 (State.wakeDone i s) := by
  unfold State.wakeDone
  try dsimp only
  repeat' with_reducible first
    | exact h
    | refine keeps_ite (fun _ => ?_) (fun _ => ?_)
    | refine State.showRefresh_keeps ?_ (within_trans hm (by decide))
    | refine State.put_keeps (by first | exact PWR_ISL_STATE_blk ..) ?_ (within_trans hm (by decide))
    | refine State.revalidate_keeps ?_ (within_trans hm (by decide))
    | refine State.acqWoken_keeps ?_ (within_trans hm (by decide))
    | refine keeps_foldl ?_ _ ?_
    | refine keeps_foldl_snd ?_ _ ?_
    | (intro _ _ h; try dsimp only)
    | refine keeps_pair (by assumption) ?_
    | split

theorem State.audit_keeps (h : Keeps m s0 s) (hm : within [.reg .prf, .reg .eng, .reg .csf, .reg .fbk, .reg .pwm, .reg .knl, .reg .que, .reg .acq, .reg .dio, .reg .err, .sets, .bulk, .log, .knl, .que, .pow, .axes, .prf, .pwm, .drn, .probes, .acq] m = true) : Keeps m s0 (State.audit s) := by
  unfold State.audit
  try dsimp only
  repeat' with_reducible first
    | exact h
    | refine keeps_ite (fun _ => ?_) (fun _ => ?_)
    | refine State.guardEnd_keeps ?_ (within_trans hm (by decide))
    | refine keeps_pair (by assumption) ?_
    | split

theorem State.eccError_keeps {bulk i} (h : Keeps m s0 s) (hm : within [.reg .prf, .reg .eng, .reg .csf, .reg .fbk, .reg .pwm, .reg .knl, .reg .que, .reg .acq, .reg .dio, .reg .err, .sets, .bulk, .log, .knl, .que, .pow, .axes, .prf, .pwm, .drn, .probes, .acq] m = true) : Keeps m s0 (State.eccError bulk i s) := by
  unfold State.eccError
  try dsimp only
  repeat' with_reducible first
    | exact h
    | refine keeps_ite (fun _ => ?_) (fun _ => ?_)
    | refine State.guardEnd_keeps ?_ (within_trans hm (by decide))
    | refine keeps_pair (by assumption) ?_
    | split

theorem State.supplySeen_keeps {vin vioa viob regok} (h : Keeps m s0 s) (hm : within [.reg .cfg, .reg .lsh, .reg .prf, .reg .eng, .reg .csf, .reg .fbk, .reg .pwm, .reg .knl, .reg .que, .reg .acq, .reg .rng, .reg .tim, .reg .dio, .reg .saf, .reg .err, .fresh, .sets, .clk, .bulk, .bus, .log, .knl, .que, .boot, .pow, .axes, .lim, .prf, .eng, .pwm, .drn, .ine, .shp, .csf, .ports, .probes, .menc, .acq, .ring, .tim, .dio, .saf, .svc] m = true) : Keeps m s0 (State.supplySeen vin vioa viob regok s) := by
  unfold State.supplySeen
  try dsimp only
  repeat' with_reducible first
    | exact h
    | refine keeps_ite (fun _ => ?_) (fun _ => ?_)
    | refine State.put_keeps (by first | exact PWR_MON_REGOK_blk .. | exact PWR_MON_SUPOUT_blk .. | exact PWR_VIN_VIN_blk .. | exact PWR_VIO_VIOA_blk .. | exact PWR_VIO_VIOB_blk .. | (refine blk_ite ?_ ?_ <;> first | exact PWR_MON_REGOK_blk .. | exact PWR_MON_SUPOUT_blk .. | exact PWR_VIN_VIN_blk .. | exact PWR_VIO_VIOA_blk .. | exact PWR_VIO_VIOB_blk ..)) ?_ (within_trans hm (by decide))
    | refine State.supplyFault_keeps ?_ (within_trans hm (by decide))
    | refine State.latch_keeps (by first | exact PWR_MON_REGOK_blk .. | exact PWR_MON_SUPOUT_blk .. | exact PWR_VIN_VIN_blk .. | exact PWR_VIO_VIOA_blk .. | exact PWR_VIO_VIOB_blk .. | (refine blk_ite ?_ ?_ <;> first | exact PWR_MON_REGOK_blk .. | exact PWR_MON_SUPOUT_blk .. | exact PWR_VIN_VIN_blk .. | exact PWR_VIO_VIOA_blk .. | exact PWR_VIO_VIOB_blk ..)) ?_ (within_trans hm (by decide))
    | refine State.guardEnd_keeps ?_ (within_trans hm (by decide))
    | refine keeps_pair (by assumption) ?_
    | split

theorem State.caseSeen_keeps {t'} (h : Keeps m s0 s) (hm : within [.reg .prf, .reg .eng, .reg .csf, .reg .fbk, .reg .pwm, .reg .knl, .reg .que, .reg .acq, .reg .dio, .reg .err, .sets, .bulk, .log, .knl, .que, .pow, .axes, .prf, .pwm, .drn, .probes, .acq] m = true) : Keeps m s0 (State.caseSeen t' s) := by
  unfold State.caseSeen
  try dsimp only
  repeat' with_reducible first
    | exact h
    | refine keeps_ite (fun _ => ?_) (fun _ => ?_)
    | refine State.putS_keeps (by first | exact PWR_MON_TEMPOUT_blk .. | exact PWR_TEMP_PEAK_blk .. | exact PWR_TEMP_TEMP_blk .. | (refine blk_ite ?_ ?_ <;> first | exact PWR_MON_TEMPOUT_blk .. | exact PWR_TEMP_PEAK_blk .. | exact PWR_TEMP_TEMP_blk ..)) ?_ (within_trans hm (by decide))
    | refine State.guardEnd_keeps ?_ (within_trans hm (by decide))
    | refine State.latch_keeps (by first | exact PWR_MON_TEMPOUT_blk .. | exact PWR_TEMP_PEAK_blk .. | exact PWR_TEMP_TEMP_blk .. | (refine blk_ite ?_ ?_ <;> first | exact PWR_MON_TEMPOUT_blk .. | exact PWR_TEMP_PEAK_blk .. | exact PWR_TEMP_TEMP_blk ..)) ?_ (within_trans hm (by decide))
    | refine keeps_pair (by assumption) ?_
    | split

theorem State.referenceFault_keeps (h : Keeps m s0 s) (hm : within [.reg .prf, .reg .eng, .reg .csf, .reg .fbk, .reg .pwm, .reg .knl, .reg .que, .reg .acq, .reg .dio, .reg .err, .sets, .bulk, .log, .knl, .que, .pow, .axes, .prf, .pwm, .drn, .probes, .acq] m = true) : Keeps m s0 (State.referenceFault s) := by
  unfold State.referenceFault
  try dsimp only
  repeat' with_reducible first
    | exact h
    | refine keeps_ite (fun _ => ?_) (fun _ => ?_)
    | refine State.guardEnd_keeps ?_ (within_trans hm (by decide))
    | refine State.latch_keeps (by first | exact PWR_MON_REFOUT_blk ..) ?_ (within_trans hm (by decide))
    | refine keeps_pair (by assumption) ?_
    | split

theorem execPowerStateEntry_keeps {dt i left} {t} (e : execPowerStateEntry dt i left s = .next t) : Keeps [.reg .err, .sets, .clk, .pow] s t := by
  have hm := within_refl [.reg .err, .sets, .clk, .pow]
  have h := Keeps.refl [.reg .err, .sets, .clk, .pow] s
  simp only [execPowerStateEntry, Host.Outcome.next.injEq] at e
  subst e
  repeat' with_reducible first
    | exact h
    | refine keeps_ite (fun _ => ?_) (fun _ => ?_)
    | refine State.powerEntry_keeps ?_ (within_trans hm (by decide))
    | refine State.elapse_keeps ?_ (within_trans hm (by decide))
    | refine keeps_pair (by assumption) ?_
    | split

theorem execLateWake_keeps {dt i} {t} (e : execLateWake dt i s = .next t) : Keeps [.reg .err, .sets, .clk] s t := by
  have hm := within_refl [.reg .err, .sets, .clk]
  have h := Keeps.refl [.reg .err, .sets, .clk] s
  simp only [execLateWake, Host.Outcome.next.injEq] at e
  subst e
  repeat' with_reducible first
    | exact h
    | refine keeps_ite (fun _ => ?_) (fun _ => ?_)
    | refine State.lateWake_keeps ?_ (within_trans hm (by decide))
    | refine State.elapse_keeps ?_ (within_trans hm (by decide))
    | refine keeps_pair (by assumption) ?_
    | split

theorem execWakeComplete_keeps {dt i} {t} (e : execWakeComplete dt i s = .next t) : Keeps [.reg .prf, .reg .eng, .reg .acq, .reg .err, .fresh, .sets, .clk, .pow, .axes, .drn, .acq] s t := by
  have hm := within_refl [.reg .prf, .reg .eng, .reg .acq, .reg .err, .fresh, .sets, .clk, .pow, .axes, .drn, .acq]
  have h := Keeps.refl [.reg .prf, .reg .eng, .reg .acq, .reg .err, .fresh, .sets, .clk, .pow, .axes, .drn, .acq] s
  simp only [execWakeComplete, Host.Outcome.next.injEq] at e
  subst e
  repeat' with_reducible first
    | exact h
    | refine keeps_ite (fun _ => ?_) (fun _ => ?_)
    | refine State.wakeDone_keeps ?_ (within_trans hm (by decide))
    | refine State.elapse_keeps ?_ (within_trans hm (by decide))
    | refine keeps_pair (by assumption) ?_
    | split

theorem execConservationAudit_keeps {dt} {t} (e : execConservationAudit dt s = .next t) : Keeps [.reg .prf, .reg .eng, .reg .csf, .reg .fbk, .reg .pwm, .reg .knl, .reg .que, .reg .acq, .reg .dio, .reg .err, .sets, .clk, .bulk, .log, .knl, .que, .pow, .axes, .prf, .pwm, .drn, .probes, .acq] s t := by
  have hm := within_refl [.reg .prf, .reg .eng, .reg .csf, .reg .fbk, .reg .pwm, .reg .knl, .reg .que, .reg .acq, .reg .dio, .reg .err, .sets, .clk, .bulk, .log, .knl, .que, .pow, .axes, .prf, .pwm, .drn, .probes, .acq]
  have h := Keeps.refl [.reg .prf, .reg .eng, .reg .csf, .reg .fbk, .reg .pwm, .reg .knl, .reg .que, .reg .acq, .reg .dio, .reg .err, .sets, .clk, .bulk, .log, .knl, .que, .pow, .axes, .prf, .pwm, .drn, .probes, .acq] s
  simp only [execConservationAudit, Host.Outcome.next.injEq] at e
  subst e
  repeat' with_reducible first
    | exact h
    | refine keeps_ite (fun _ => ?_) (fun _ => ?_)
    | refine State.audit_keeps ?_ (within_trans hm (by decide))
    | refine State.elapse_keeps ?_ (within_trans hm (by decide))
    | refine keeps_pair (by assumption) ?_
    | split

theorem execUncorrectedEccError_keeps {dt bulk i} {t} (e : execUncorrectedEccError dt bulk i s = .next t) : Keeps [.reg .prf, .reg .eng, .reg .csf, .reg .fbk, .reg .pwm, .reg .knl, .reg .que, .reg .acq, .reg .dio, .reg .err, .sets, .clk, .bulk, .log, .knl, .que, .pow, .axes, .prf, .pwm, .drn, .probes, .acq] s t := by
  have hm := within_refl [.reg .prf, .reg .eng, .reg .csf, .reg .fbk, .reg .pwm, .reg .knl, .reg .que, .reg .acq, .reg .dio, .reg .err, .sets, .clk, .bulk, .log, .knl, .que, .pow, .axes, .prf, .pwm, .drn, .probes, .acq]
  have h := Keeps.refl [.reg .prf, .reg .eng, .reg .csf, .reg .fbk, .reg .pwm, .reg .knl, .reg .que, .reg .acq, .reg .dio, .reg .err, .sets, .clk, .bulk, .log, .knl, .que, .pow, .axes, .prf, .pwm, .drn, .probes, .acq] s
  simp only [execUncorrectedEccError, Host.Outcome.next.injEq] at e
  subst e
  repeat' with_reducible first
    | exact h
    | refine keeps_ite (fun _ => ?_) (fun _ => ?_)
    | refine State.eccError_keeps ?_ (within_trans hm (by decide))
    | refine State.elapse_keeps ?_ (within_trans hm (by decide))
    | refine keeps_pair (by assumption) ?_
    | split

theorem execSupplyOutOfRange_keeps {dt vin vioa viob regok} {t} (e : execSupplyOutOfRange dt vin vioa viob regok s = .next t) : Keeps [.reg .cfg, .reg .lsh, .reg .prf, .reg .eng, .reg .csf, .reg .fbk, .reg .pwm, .reg .knl, .reg .que, .reg .acq, .reg .rng, .reg .tim, .reg .dio, .reg .saf, .reg .err, .fresh, .sets, .clk, .bulk, .bus, .log, .knl, .que, .boot, .pow, .axes, .lim, .prf, .eng, .pwm, .drn, .ine, .shp, .csf, .ports, .probes, .menc, .acq, .ring, .tim, .dio, .saf, .svc] s t := by
  have hm := within_refl [.reg .cfg, .reg .lsh, .reg .prf, .reg .eng, .reg .csf, .reg .fbk, .reg .pwm, .reg .knl, .reg .que, .reg .acq, .reg .rng, .reg .tim, .reg .dio, .reg .saf, .reg .err, .fresh, .sets, .clk, .bulk, .bus, .log, .knl, .que, .boot, .pow, .axes, .lim, .prf, .eng, .pwm, .drn, .ine, .shp, .csf, .ports, .probes, .menc, .acq, .ring, .tim, .dio, .saf, .svc]
  have h := Keeps.refl [.reg .cfg, .reg .lsh, .reg .prf, .reg .eng, .reg .csf, .reg .fbk, .reg .pwm, .reg .knl, .reg .que, .reg .acq, .reg .rng, .reg .tim, .reg .dio, .reg .saf, .reg .err, .fresh, .sets, .clk, .bulk, .bus, .log, .knl, .que, .boot, .pow, .axes, .lim, .prf, .eng, .pwm, .drn, .ine, .shp, .csf, .ports, .probes, .menc, .acq, .ring, .tim, .dio, .saf, .svc] s
  simp only [execSupplyOutOfRange, Host.Outcome.next.injEq] at e
  subst e
  repeat' with_reducible first
    | exact h
    | refine keeps_ite (fun _ => ?_) (fun _ => ?_)
    | refine State.supplySeen_keeps ?_ (within_trans hm (by decide))
    | refine State.elapse_keeps ?_ (within_trans hm (by decide))
    | refine keeps_pair (by assumption) ?_
    | split

theorem execCaseTempOutOfRange_keeps {dt t'} {t} (e : execCaseTempOutOfRange dt t' s = .next t) : Keeps [.reg .prf, .reg .eng, .reg .csf, .reg .fbk, .reg .pwm, .reg .knl, .reg .que, .reg .acq, .reg .dio, .reg .err, .sets, .clk, .bulk, .log, .knl, .que, .pow, .axes, .prf, .pwm, .drn, .probes, .acq] s t := by
  have hm := within_refl [.reg .prf, .reg .eng, .reg .csf, .reg .fbk, .reg .pwm, .reg .knl, .reg .que, .reg .acq, .reg .dio, .reg .err, .sets, .clk, .bulk, .log, .knl, .que, .pow, .axes, .prf, .pwm, .drn, .probes, .acq]
  have h := Keeps.refl [.reg .prf, .reg .eng, .reg .csf, .reg .fbk, .reg .pwm, .reg .knl, .reg .que, .reg .acq, .reg .dio, .reg .err, .sets, .clk, .bulk, .log, .knl, .que, .pow, .axes, .prf, .pwm, .drn, .probes, .acq] s
  simp only [execCaseTempOutOfRange, Host.Outcome.next.injEq] at e
  subst e
  repeat' with_reducible first
    | exact h
    | refine keeps_ite (fun _ => ?_) (fun _ => ?_)
    | refine State.caseSeen_keeps ?_ (within_trans hm (by decide))
    | refine State.elapse_keeps ?_ (within_trans hm (by decide))
    | refine keeps_pair (by assumption) ?_
    | split

theorem execReferenceClockFault_keeps {dt} {t} (e : execReferenceClockFault dt s = .next t) : Keeps [.reg .prf, .reg .eng, .reg .csf, .reg .fbk, .reg .pwm, .reg .knl, .reg .que, .reg .acq, .reg .dio, .reg .err, .sets, .clk, .bulk, .log, .knl, .que, .pow, .axes, .prf, .pwm, .drn, .probes, .acq] s t := by
  have hm := within_refl [.reg .prf, .reg .eng, .reg .csf, .reg .fbk, .reg .pwm, .reg .knl, .reg .que, .reg .acq, .reg .dio, .reg .err, .sets, .clk, .bulk, .log, .knl, .que, .pow, .axes, .prf, .pwm, .drn, .probes, .acq]
  have h := Keeps.refl [.reg .prf, .reg .eng, .reg .csf, .reg .fbk, .reg .pwm, .reg .knl, .reg .que, .reg .acq, .reg .dio, .reg .err, .sets, .clk, .bulk, .log, .knl, .que, .pow, .axes, .prf, .pwm, .drn, .probes, .acq] s
  simp only [execReferenceClockFault, Host.Outcome.next.injEq] at e
  subst e
  repeat' with_reducible first
    | exact h
    | refine keeps_ite (fun _ => ?_) (fun _ => ?_)
    | refine State.referenceFault_keeps ?_ (within_trans hm (by decide))
    | refine State.elapse_keeps ?_ (within_trans hm (by decide))
    | refine keeps_pair (by assumption) ?_
    | split

/-! ### Bus -/

theorem State.lastEdge_keeps {c} (h : Keeps m s0 s) (hm : within [.reg .csf, .fresh] m = true) : Keeps m s0 (State.lastEdge c s) := by
  unfold State.lastEdge
  try dsimp only
  repeat' with_reducible first
    | exact h
    | refine keeps_ite (fun _ => ?_) (fun _ => ?_)
    | refine State.drew_keeps ?_ (within_trans hm (by decide))
    | refine State.wr_keeps (by first | exact CSF_VAL_blk .. | exact whole_blk (CSF_VAL_blk ..)) ?_ (within_trans hm (by decide))
    | refine keeps_pair (by assumption) ?_
    | split

theorem indexAt_some {base stride n a i : Nat} (h : indexAt base stride n a = some i) : base ≤ a ∧ (a - base) / stride < n := by
  unfold indexAt at h
  split at h
  · simp_all
  · contradiction

theorem State.upToDate_keeps {a} (h : Keeps m s0 s) (hm : within [.reg .csf, .reg .pwm, .reg .knl, .reg .que, .reg .rng, .reg .tim, .reg .dio, .reg .saf, .reg .err, .fresh, .sets, .bulk, .log, .knl, .que, .ring, .dio] m = true) : Keeps m s0 (State.upToDate a s) := by
  unfold State.upToDate
  refine keeps_ite (fun e => State.wr_keeps TIM_NOWNS_blk h (within_trans hm (by decide))) (fun _ => keeps_ite (fun e =>
    State.wr_keeps TIM_T32_blk h (within_trans hm (by decide))) (fun _ => keeps_ite (fun _ => State.showBufs_keeps h
    (within_trans hm (by decide))) (fun _ => keeps_ite (fun _ => keeps_ite (fun _ => keeps_foldl ?_ _ h) (fun _ => keeps_foldl ?_ _ h))
    (fun _ => keeps_ite (fun _ => State.lastEdge_keeps h (within_trans hm (by decide))) (fun _ => ?_)))))
  · exact fun _ _ h => State.dioValidity_keeps h (within_trans hm (by decide))
  · exact fun _ _ h => State.setBit64_keeps (by first | exact DIO_OUT_blk | exact DIO_OUT_blk ..) h (within_trans hm (by decide))
  · split
    · exact keeps_foldl (fun _ _ h => State.put_keeps (DIO_GST_ALIVE_blk _) h (within_trans hm (by decide))) _ h
    · split
      · rename_i e
        have := indexAt_some e
        exact State.wr_keeps_of (b := .pwm) (by simp only [Block.num]; omega) h (within_trans hm (by decide))
      · exact State.mark_keeps (DIO_CST_HOLDEFF_blk _) (State.mark_keeps (DIO_CST_OWNED_blk _) (State.mark_keeps (DIO_CST_NOPERM_blk _)
          (State.dioValidity_keeps h (within_trans hm (by decide)))
          (within_trans hm (by decide))) (within_trans hm (by decide))) (within_trans hm (by decide))
      · exact State.showOutputs_keeps h (within_trans hm (by decide))
      · exact h

theorem State.returned_keeps {v} (h : Keeps m s0 s) (hm : within [.bus] m = true) : Keeps m s0 (State.returned v s) := by
  unfold State.returned
  try dsimp only
  repeat' with_reducible first
    | exact h
    | refine keeps_ite (fun _ => ?_) (fun _ => ?_)
    | refine State.onBus_keeps ?_ (within_trans hm (by decide))
    | refine keeps_pair (by assumption) ?_
    | split

theorem State.readMapped_keeps {who a} (h : Keeps m s0 s) (hm : within [.reg .csf, .reg .pwm, .reg .knl, .reg .que, .reg .rng, .reg .tim, .reg .dio, .reg .saf, .reg .err, .fresh, .sets, .bulk, .bus, .log, .knl, .que, .ring, .dio] m = true) : Keeps m s0 (State.readMapped who a s) := by
  unfold State.readMapped
  try dsimp only
  repeat' with_reducible first
    | exact h
    | refine keeps_ite (fun _ => ?_) (fun _ => ?_)
    | refine State.onBus_keeps ?_ (within_trans hm (by decide))
    | refine State.upToDate_keeps ?_ (within_trans hm (by decide))
    | refine State.returned_keeps ?_ (within_trans hm (by decide))
    | refine keeps_pair (by assumption) ?_
    | split

theorem State.readNowns_keeps {who} (h : Keeps m s0 s) (hm : within [.reg .csf, .reg .pwm, .reg .knl, .reg .que, .reg .rng, .reg .tim, .reg .dio, .reg .saf, .reg .err, .fresh, .sets, .bulk, .bus, .log, .knl, .que, .ring, .dio] m = true) : Keeps m s0 (State.readNowns who s) := by
  unfold State.readNowns
  try dsimp only
  repeat' with_reducible first
    | exact h
    | refine keeps_ite (fun _ => ?_) (fun _ => ?_)
    | refine State.returned_keeps ?_ (within_trans hm (by decide))
    | refine State.upToDate_keeps ?_ (within_trans hm (by decide))
    | refine State.onBus_keeps ?_ (within_trans hm (by decide))
    | refine keeps_pair (by assumption) ?_
    | split

theorem State.readAt_keeps {who a size} (h : Keeps m s0 s) (hm : within [.reg .csf, .reg .pwm, .reg .knl, .reg .que, .reg .rng, .reg .tim, .reg .dio, .reg .saf, .reg .err, .fresh, .sets, .bulk, .bus, .log, .knl, .que, .ring, .dio, .svc] m = true) : Keeps m s0 (State.readAt who a size s) := by
  unfold State.readAt
  try dsimp only
  repeat' with_reducible first
    | exact h
    | refine keeps_ite (fun _ => ?_) (fun _ => ?_)
    | refine State.returned_keeps ?_ (within_trans hm (by decide))
    | refine State.accessError_keeps ?_ (within_trans hm (by decide))
    | refine State.readNowns_keeps ?_ (within_trans hm (by decide))
    | refine State.pop_keeps ?_ (within_trans hm (by decide))
    | refine State.readMapped_keeps ?_ (within_trans hm (by decide))
    | refine State.take_keeps ?_ (within_trans hm (by decide))
    | refine keeps_pair (by assumption) ?_
    | split

theorem State.writeCodes_keeps {who d a v} (h : Keeps m s0 s) (hm : within [.reg .cfg, .reg .lsh, .reg .prf, .reg .eng, .reg .csf, .reg .fbk, .reg .pwm, .reg .knl, .reg .que, .reg .acq, .reg .rng, .reg .tim, .reg .dio, .reg .saf, .reg .err] m = true) : Keeps m s0 (s.writeCodes who d a v) :=
  State.wr_keeps_any h hm

theorem State.refuse_keeps {who a v} (h : Keeps m s0 s) (hm : within [.reg .err, .bus, .log] m = true) : Keeps m s0 (State.refuse who a v s) := by
  unfold State.refuse
  try dsimp only
  repeat' with_reducible first
    | exact h
    | refine keeps_ite (fun _ => ?_) (fun _ => ?_)
    | refine State.accessError_keeps ?_ (within_trans hm (by decide))
    | refine keeps_pair (by assumption) ?_
    | split

theorem State.dropHeld_keeps {who a} (h : Keeps m s0 s) (hm : within [.bus] m = true) : Keeps m s0 (State.dropHeld who a s) := by
  unfold State.dropHeld
  try dsimp only
  repeat' with_reducible first
    | exact h
    | refine keeps_ite (fun _ => ?_) (fun _ => ?_)
    | refine State.onBus_keeps ?_ (within_trans hm (by decide))
    | refine keeps_pair (by assumption) ?_
    | split

theorem State.hold_keeps {who a v} (h : Keeps m s0 s) (hm : within [.bus] m = true) : Keeps m s0 (State.hold who a v s) := by
  unfold State.hold
  try dsimp only
  repeat' with_reducible first
    | exact h
    | refine keeps_ite (fun _ => ?_) (fun _ => ?_)
    | refine State.onBus_keeps ?_ (within_trans hm (by decide))
    | refine State.dropHeld_keeps ?_ (within_trans hm (by decide))
    | refine keeps_pair (by assumption) ?_
    | split

theorem State.writePrf_keeps {who a v} {t} (e : State.writePrf who a v s = some t) (h : Keeps m s0 s) (hm : within [.reg .prf, .reg .eng, .reg .csf, .reg .fbk, .reg .pwm, .reg .knl, .reg .que, .reg .dio, .reg .err, .sets, .bulk, .bus, .log, .knl, .que, .axes, .lim, .prf, .eng, .pwm, .drn, .shp, .csf, .ports, .probes] m = true) : Keeps m s0 t := by
  unfold State.writePrf at e
  repeat' (first | split at e | (simp only [Option.some.injEq, reduceCtorEq] at e) | (obtain ⟨_, _, rfl⟩ := Option.map_eq_some_iff.1 e) | (subst e))
  all_goals try contradiction
  all_goals try dsimp only
  repeat' with_reducible first
    | exact h
    | refine keeps_ite (fun _ => ?_) (fun _ => ?_)
    | refine State.commitRequest_keeps ?_ (within_trans hm (by decide))
    | refine State.axisRequests_keeps ?_ (within_trans hm (by decide))
    | refine State.writeGroupAxes_keeps ?_ (within_trans hm (by decide))
    | refine State.writeGroupCfg_keeps ?_ (within_trans hm (by decide))
    | refine State.writeOverride_keeps ?_ (within_trans hm (by decide))
    | refine keeps_pair (by assumption) ?_
    | split

theorem State.writeDctl_keeps {x v} (h : Keeps m s0 s) (hm : within [.reg .eng, .drn] m = true) : Keeps m s0 (State.writeDctl x v s) := by
  unfold State.writeDctl
  try dsimp only
  repeat' with_reducible first
    | exact h
    | refine keeps_ite (fun _ => ?_) (fun _ => ?_)
    | refine State.mark_keeps (by first | exact ENG_DCTL_FREEZE_blk ..) ?_ (within_trans hm (by decide))
    | refine State.onDarn_keeps ?_ (within_trans hm (by decide))
    | refine keeps_pair (by assumption) ?_
    | split

theorem State.writeAreq_keeps {who p a v} (h : Keeps m s0 s) (hm : within [.reg .fbk, .reg .err, .bus, .log, .ports] m = true) : Keeps m s0 (State.writeAreq who p a v s) := by
  unfold State.writeAreq
  try dsimp only
  repeat' with_reducible first
    | exact h
    | refine keeps_ite (fun _ => ?_) (fun _ => ?_)
    | refine State.refuse_keeps ?_ (within_trans hm (by decide))
    | refine State.onPort_keeps ?_ (within_trans hm (by decide))
    | refine State.mark_keeps (by first | exact FBK_ARSP_DONE_blk ..) ?_ (within_trans hm (by decide))
    | refine keeps_pair (by assumption) ?_
    | split

theorem State.writeFbk_keeps {who a v} {t} (e : State.writeFbk who a v s = some t) (h : Keeps m s0 s) (hm : within [.reg .fbk, .reg .err, .bus, .log, .ports] m = true) : Keeps m s0 t := by
  unfold State.writeFbk at e
  repeat' (first | split at e | (simp only [Option.some.injEq, reduceCtorEq] at e) | (obtain ⟨_, _, rfl⟩ := Option.map_eq_some_iff.1 e) | (subst e))
  all_goals try contradiction
  all_goals try dsimp only
  repeat' with_reducible first
    | exact h
    | refine keeps_ite (fun _ => ?_) (fun _ => ?_)
    | refine State.writeAreq_keeps ?_ (within_trans hm (by decide))
    | refine State.refuse_keeps ?_ (within_trans hm (by decide))
    | refine keeps_pair (by assumption) ?_
    | split

theorem State.coreWrite_keeps {who c a v f} (hf : ∀ t, Keeps m s0 t → Keeps m s0 (f t)) (h : Keeps m s0 s)
    (hm : within [.reg .err, .bus, .log] m = true) : Keeps m s0 (s.coreWrite who c a v f) := by
  unfold State.coreWrite
  exact keeps_ite (fun _ => hf _ h) (fun _ => State.refuse_keeps h (within_trans hm (by decide)))

theorem State.writeKnl_keeps {who a v} {t} (e : State.writeKnl who a v s = some t) (h : Keeps m s0 s) (hm : within [.reg .knl, .reg .err, .bus, .log, .knl] m = true) : Keeps m s0 t := by
  unfold State.writeKnl at e
  repeat' (first | split at e | (simp only [Option.some.injEq, reduceCtorEq] at e) | (obtain ⟨_, _, rfl⟩ := Option.map_eq_some_iff.1 e) | (subst e))
  all_goals try contradiction
  all_goals try dsimp only
  repeat' with_reducible first
    | exact h
    | refine keeps_ite (fun _ => ?_) (fun _ => ?_)
    | refine State.coreWrite_keeps (fun _ h => ?_) ?_ (within_trans hm (by decide))
    | refine State.submit_keeps ?_ (within_trans hm (by decide))
    | refine State.cancel_keeps ?_ (within_trans hm (by decide))
    | refine State.doneToken_keeps ?_ (within_trans hm (by decide))
    | refine State.refuse_keeps ?_ (within_trans hm (by decide))
    | refine keeps_pair (by assumption) ?_
    | split

theorem State.writePgo_keeps {c v} (h : Keeps m s0 s) (hm : within [.reg .knl, .reg .que, .reg .err, .sets, .bulk, .bus, .log, .knl, .que, .ring, .svc] m = true) : Keeps m s0 (State.writePgo c v s) := by
  unfold State.writePgo
  try dsimp only
  repeat' with_reducible first
    | exact h
    | refine keeps_ite (fun _ => ?_) (fun _ => ?_)
    | refine State.cancelPush_keeps ?_ (within_trans hm (by decide))
    | refine State.corePushWait_keeps ?_ (within_trans hm (by decide))
    | refine State.corePushTry_keeps ?_ (within_trans hm (by decide))
    | refine keeps_pair (by assumption) ?_
    | split

theorem State.stageEntry_keeps {who c i a v} (h : Keeps m s0 s) (hm : within [.reg .err, .bus, .log, .que] m = true) : Keeps m s0 (State.stageEntry who c i a v s) := by
  unfold State.stageEntry
  try dsimp only
  repeat' with_reducible first
    | exact h
    | refine keeps_ite (fun _ => ?_) (fun _ => ?_)
    | refine State.onQue_keeps ?_ (within_trans hm (by decide))
    | refine State.refuse_keeps ?_ (within_trans hm (by decide))
    | refine keeps_pair (by assumption) ?_
    | split

theorem State.writeWev_keeps {q v} (h : Keeps m s0 s) (hm : within [.reg .que] m = true) : Keeps m s0 (State.writeWev q v s) := by
  unfold State.writeWev
  try dsimp only
  repeat' with_reducible first
    | exact h
    | refine keeps_ite (fun _ => ?_) (fun _ => ?_)
    | refine State.put_keeps (by first | exact QUE_WEV_DN_blk .. | exact QUE_WEV_DNCNT_blk .. | exact QUE_WEV_UP_blk .. | exact QUE_WEV_UPCNT_blk .. | (refine blk_ite ?_ ?_ <;> first | exact QUE_WEV_DN_blk .. | exact QUE_WEV_DNCNT_blk .. | exact QUE_WEV_UP_blk .. | exact QUE_WEV_UPCNT_blk ..)) ?_ (within_trans hm (by decide))
    | refine State.mark_keeps (by first | exact QUE_WEV_DN_blk .. | exact QUE_WEV_DNCNT_blk .. | exact QUE_WEV_UP_blk .. | exact QUE_WEV_UPCNT_blk .. | (refine blk_ite ?_ ?_ <;> first | exact QUE_WEV_DN_blk .. | exact QUE_WEV_DNCNT_blk .. | exact QUE_WEV_UP_blk .. | exact QUE_WEV_UPCNT_blk ..)) ?_ (within_trans hm (by decide))
    | refine keeps_pair (by assumption) ?_
    | split

theorem State.writeQue_keeps {who a v} {t} (e : State.writeQue who a v s = some t) (h : Keeps m s0 s) (hm : within [.reg .knl, .reg .que, .reg .err, .sets, .bulk, .bus, .log, .knl, .que, .ring, .svc] m = true) : Keeps m s0 t := by
  unfold State.writeQue at e
  repeat' (first | split at e | (simp only [Option.some.injEq, reduceCtorEq] at e) | (obtain ⟨_, _, rfl⟩ := Option.map_eq_some_iff.1 e) | (subst e))
  all_goals try contradiction
  all_goals try dsimp only
  repeat' with_reducible first
    | exact h
    | refine keeps_ite (fun _ => ?_) (fun _ => ?_)
    | refine State.stageEntry_keeps ?_ (within_trans hm (by decide))
    | refine State.writePgo_keeps ?_ (within_trans hm (by decide))
    | refine State.refuse_keeps ?_ (within_trans hm (by decide))
    | refine State.wr_keeps (by assumption) ?_ (within_trans hm (by decide))
    | refine State.writeWev_keeps ?_ (within_trans hm (by decide))
    | refine State.coreFlush_keeps ?_ (within_trans hm (by decide))
    | (refine State.wr_keeps_of (b := .que) (by rename_i h1 _; have h2 := indexAt_some h1; simp only [QUE_WMK, Block.num] at *; omega) ?_ (within_trans hm (by decide)))
    | refine keeps_pair (by assumption) ?_
    | split

theorem State.writeGctl_keeps {g v} (h : Keeps m s0 s) (hm : within [.reg .knl, .reg .que, .reg .acq, .reg .err, .fresh, .sets, .bulk, .log, .knl, .que, .acq] m = true) : Keeps m s0 (State.writeGctl g v s) := by
  unfold State.writeGctl
  try dsimp only
  repeat' with_reducible first
    | exact h
    | refine keeps_ite (fun _ => ?_) (fun _ => ?_)
    | refine State.armRequest_keeps ?_ (within_trans hm (by decide))
    | refine State.onAcqGroup_keeps ?_ (within_trans hm (by decide))
    | refine State.disarmGroup_keeps ?_ (within_trans hm (by decide))
    | refine keeps_pair (by assumption) ?_
    | split

theorem State.writeAcq_keeps {who a v} {t} (e : State.writeAcq who a v s = some t) (h : Keeps m s0 s) (hm : within [.reg .knl, .reg .que, .reg .acq, .reg .err, .fresh, .sets, .bulk, .bus, .log, .knl, .que, .acq] m = true) : Keeps m s0 t := by
  unfold State.writeAcq at e
  repeat' (first | split at e | (simp only [Option.some.injEq, reduceCtorEq] at e) | (obtain ⟨_, _, rfl⟩ := Option.map_eq_some_iff.1 e) | (subst e))
  all_goals try contradiction
  all_goals try dsimp only
  repeat' with_reducible first
    | exact h
    | refine keeps_ite (fun _ => ?_) (fun _ => ?_)
    | refine State.releaseRecord_keeps ?_ (within_trans hm (by decide))
    | refine State.writeGctl_keeps ?_ (within_trans hm (by decide))
    | refine State.refuse_keeps ?_ (within_trans hm (by decide))
    | refine keeps_pair (by assumption) ?_
    | split

theorem State.writeRng_keeps {who a v} {t} (e : State.writeRng who a v s = some t) (h : Keeps m s0 s) (hm : within [.reg .rng, .reg .err, .bus, .log, .axes, .ring] m = true) : Keeps m s0 t := by
  unfold State.writeRng at e
  repeat' (first | split at e | (simp only [Option.some.injEq, reduceCtorEq] at e) | (obtain ⟨_, _, rfl⟩ := Option.map_eq_some_iff.1 e) | (subst e))
  all_goals try contradiction
  all_goals try dsimp only
  repeat' with_reducible first
    | exact h
    | refine keeps_ite (fun _ => ?_) (fun _ => ?_)
    | refine State.ringWithdraw_keeps ?_ (within_trans hm (by decide))
    | refine State.svRelease_keeps ?_ (within_trans hm (by decide))
    | refine State.reparam_keeps ?_ (within_trans hm (by decide))
    | refine keeps_pair (by assumption) ?_
    | split

theorem State.writeDio_keeps {d who a v} {t} (e : State.writeDio d who a v s = some t) (h : Keeps m s0 s) (hm : within [.reg .cfg, .reg .lsh, .reg .prf, .reg .eng, .reg .csf, .reg .fbk, .reg .pwm, .reg .knl, .reg .que, .reg .acq, .reg .rng, .reg .tim, .reg .dio, .reg .saf, .reg .err, .sets, .bulk, .log, .knl, .que, .dio] m = true) : Keeps m s0 t := by
  unfold State.writeDio at e
  repeat' (first | split at e | (simp only [Option.some.injEq, reduceCtorEq] at e) | (obtain ⟨_, _, rfl⟩ := Option.map_eq_some_iff.1 e) | (subst e))
  all_goals try contradiction
  all_goals try dsimp only
  repeat' with_reducible first
    | exact h
    | refine keeps_ite (fun _ => ?_) (fun _ => ?_)
    | refine State.dioOut_keeps ?_ (within_trans hm (by decide))
    | refine State.dioSet_keeps ?_ (within_trans hm (by decide))
    | refine State.dioClr_keeps ?_ (within_trans hm (by decide))
    | refine State.dioValidity_keeps ?_ (within_trans hm (by decide))
    | refine State.writeCodes_keeps ?_ (within_trans hm (by decide))
    | refine keeps_pair (by assumption) ?_
    | split

theorem State.writeBlock_keeps {d who a v} {t} (e : State.writeBlock d who a v s = some t) (h : Keeps m s0 s) (hm : within [.reg .cfg, .reg .lsh, .reg .prf, .reg .eng, .reg .csf, .reg .fbk, .reg .pwm, .reg .knl, .reg .que, .reg .acq, .reg .rng, .reg .tim, .reg .dio, .reg .saf, .reg .err, .fresh, .sets, .bulk, .bus, .log, .knl, .que, .boot, .axes, .lim, .prf, .eng, .pwm, .drn, .shp, .csf, .ports, .probes, .acq, .ring, .dio, .svc] m = true) : Keeps m s0 t := by
  unfold State.writeBlock at e
  repeat' (first | split at e | (simp only [Option.some.injEq, reduceCtorEq] at e) | (obtain ⟨_, _, rfl⟩ := Option.map_eq_some_iff.1 e) | (subst e))
  all_goals try contradiction
  all_goals try dsimp only
  repeat' with_reducible first
    | exact h
    | refine keeps_ite (fun _ => ?_) (fun _ => ?_)
    | refine State.writeChange_keeps ?_ (within_trans hm (by decide))
    | refine State.leashWrite_keeps ?_ (within_trans hm (by decide))
    | refine State.writeCodes_keeps ?_ (within_trans hm (by decide))
    | refine State.writePrf_keeps (by assumption) ?_ (within_trans hm (by decide))
    | refine State.writeDctl_keeps ?_ (within_trans hm (by decide))
    | refine State.writeFbk_keeps (by assumption) ?_ (within_trans hm (by decide))
    | refine State.auxTurnOff_keeps ?_ (within_trans hm (by decide))
    | refine State.writeKnl_keeps (by assumption) ?_ (within_trans hm (by decide))
    | refine State.writeQue_keeps (by assumption) ?_ (within_trans hm (by decide))
    | refine State.writeAcq_keeps (by assumption) ?_ (within_trans hm (by decide))
    | refine State.writeRng_keeps (by assumption) ?_ (within_trans hm (by decide))
    | refine State.timPermit_keeps ?_ (within_trans hm (by decide))
    | refine State.writeDio_keeps (by assumption) ?_ (within_trans hm (by decide))
    | refine keeps_pair (by assumption) ?_
    | split

theorem State.writeLow_keeps {d who a v} (h : Keeps m s0 s) (hm : within [.reg .cfg, .reg .lsh, .reg .prf, .reg .eng, .reg .csf, .reg .fbk, .reg .pwm, .reg .knl, .reg .que, .reg .acq, .reg .rng, .reg .tim, .reg .dio, .reg .saf, .reg .err, .fresh, .sets, .bulk, .bus, .log, .knl, .que, .boot, .axes, .lim, .prf, .eng, .pwm, .drn, .shp, .csf, .ports, .probes, .acq, .ring, .dio, .svc] m = true) : Keeps m s0 (State.writeLow d who a v s) := by
  unfold State.writeLow
  try dsimp only
  repeat' with_reducible first
    | exact h
    | refine keeps_ite (fun _ => ?_) (fun _ => ?_)
    | refine State.dropHeld_keeps ?_ (within_trans hm (by decide))
    | refine State.writeBlock_keeps (by assumption) ?_ (within_trans hm (by decide))
    | refine State.writeCodes_keeps ?_ (within_trans hm (by decide))
    | refine keeps_pair (by assumption) ?_
    | split

theorem State.writeWord_keeps {who a v} (h : Keeps m s0 s) (hm : within [.reg .cfg, .reg .lsh, .reg .prf, .reg .eng, .reg .csf, .reg .fbk, .reg .pwm, .reg .knl, .reg .que, .reg .acq, .reg .rng, .reg .tim, .reg .dio, .reg .saf, .reg .err, .fresh, .sets, .bulk, .bus, .log, .knl, .que, .boot, .axes, .lim, .prf, .eng, .pwm, .drn, .shp, .csf, .ports, .probes, .acq, .ring, .dio, .svc] m = true) : Keeps m s0 (State.writeWord who a v s) := by
  unfold State.writeWord
  try dsimp only
  repeat' with_reducible first
    | exact h
    | refine keeps_ite (fun _ => ?_) (fun _ => ?_)
    | refine State.accessError_keeps ?_ (within_trans hm (by decide))
    | refine State.hold_keeps ?_ (within_trans hm (by decide))
    | refine State.writeLow_keeps ?_ (within_trans hm (by decide))
    | refine State.writeBlock_keeps (by assumption) ?_ (within_trans hm (by decide))
    | refine State.writeCodes_keeps ?_ (within_trans hm (by decide))
    | refine keeps_pair (by assumption) ?_
    | split

theorem State.writeAt_keeps {who a v size} (h : Keeps m s0 s) (hm : within [.reg .cfg, .reg .lsh, .reg .prf, .reg .eng, .reg .csf, .reg .fbk, .reg .pwm, .reg .knl, .reg .que, .reg .acq, .reg .rng, .reg .tim, .reg .dio, .reg .saf, .reg .err, .fresh, .sets, .bulk, .bus, .log, .knl, .que, .boot, .axes, .lim, .prf, .eng, .pwm, .drn, .shp, .csf, .ports, .probes, .acq, .ring, .dio, .svc] m = true) : Keeps m s0 (State.writeAt who a v size s) := by
  unfold State.writeAt
  try dsimp only
  repeat' with_reducible first
    | exact h
    | refine keeps_ite (fun _ => ?_) (fun _ => ?_)
    | refine State.accessError_keeps ?_ (within_trans hm (by decide))
    | refine State.bulkStore_keeps ?_ (within_trans hm (by decide))
    | refine State.writeWord_keeps ?_ (within_trans hm (by decide))
    | refine keeps_pair (by assumption) ?_
    | split

theorem State.writeBy_keeps {who a v size} (h : Keeps m s0 s) (hm : within [.reg .cfg, .reg .lsh, .reg .prf, .reg .eng, .reg .csf, .reg .fbk, .reg .pwm, .reg .knl, .reg .que, .reg .acq, .reg .rng, .reg .tim, .reg .dio, .reg .saf, .reg .err, .fresh, .sets, .bulk, .bus, .log, .knl, .que, .boot, .axes, .lim, .prf, .eng, .pwm, .drn, .shp, .csf, .ports, .probes, .acq, .ring, .dio, .svc] m = true) : Keeps m s0 (State.writeBy who a v size s) := by
  unfold State.writeBy
  try dsimp only
  repeat' with_reducible first
    | exact h
    | refine keeps_ite (fun _ => ?_) (fun _ => ?_)
    | refine State.accessError_keeps ?_ (within_trans hm (by decide))
    | refine State.writeAt_keeps ?_ (within_trans hm (by decide))
    | refine keeps_pair (by assumption) ?_
    | split

theorem State.copyWords_keeps {tk src dst n} (h : Keeps m s0 s) (hm : within [.reg .cfg, .reg .lsh, .reg .prf, .reg .eng, .reg .csf, .reg .fbk, .reg .pwm, .reg .knl, .reg .que, .reg .acq, .reg .rng, .reg .tim, .reg .dio, .reg .saf, .reg .err, .fresh, .sets, .bulk, .bus, .log, .knl, .que, .boot, .axes, .lim, .prf, .eng, .pwm, .drn, .shp, .csf, .ports, .probes, .acq, .ring, .dio, .svc] m = true) : Keeps m s0 (State.copyWords tk src dst n s) := by
  induction n generalizing tk src dst s with
  | zero => exact h
  | succ n ih =>
    unfold State.copyWords
    try dsimp only
    repeat' with_reducible first
      | exact h
      | refine ih ?_
      | refine keeps_ite (fun _ => ?_) (fun _ => ?_)
      | refine State.readAt_keeps ?_ (within_trans hm (by decide))
      | refine State.writeAt_keeps ?_ (within_trans hm (by decide))
      | refine State.latch_keeps (by first | exact KNL_TST_FAIL_blk ..) ?_ (within_trans hm (by decide))
      | refine keeps_foldl ?_ _ ?_
      | (intro _ _ h; try dsimp only)
      | refine keeps_pair (by assumption) ?_
      | split

theorem State.copyExec_keeps (h : Keeps m s0 s) (hm : within [.reg .cfg, .reg .lsh, .reg .prf, .reg .eng, .reg .csf, .reg .fbk, .reg .pwm, .reg .knl, .reg .que, .reg .acq, .reg .rng, .reg .tim, .reg .dio, .reg .saf, .reg .err, .fresh, .sets, .bulk, .bus, .log, .knl, .que, .boot, .axes, .lim, .prf, .eng, .pwm, .drn, .shp, .csf, .ports, .probes, .acq, .ring, .dio, .svc] m = true) : Keeps m s0 (State.copyExec s) := by
  unfold State.copyExec
  try dsimp only
  repeat' with_reducible first
    | exact h
    | refine keeps_ite (fun _ => ?_) (fun _ => ?_)
    | refine State.takeSlot_keeps ?_ (within_trans hm (by decide))
    | refine State.complete_keeps ?_ (within_trans hm (by decide))
    | refine State.copyWords_keeps ?_ (within_trans hm (by decide))
    | refine keeps_pair (by assumption) ?_
    | split

theorem execRegisterWrite_keeps {dt who addr value size} {t} (e : execRegisterWrite dt who addr value size s = .next t) : Keeps [.reg .cfg, .reg .lsh, .reg .prf, .reg .eng, .reg .csf, .reg .fbk, .reg .pwm, .reg .knl, .reg .que, .reg .acq, .reg .rng, .reg .tim, .reg .dio, .reg .saf, .reg .err, .fresh, .sets, .clk, .bulk, .bus, .log, .knl, .que, .boot, .axes, .lim, .prf, .eng, .pwm, .drn, .shp, .csf, .ports, .probes, .acq, .ring, .dio, .svc] s t := by
  have hm := within_refl [.reg .cfg, .reg .lsh, .reg .prf, .reg .eng, .reg .csf, .reg .fbk, .reg .pwm, .reg .knl, .reg .que, .reg .acq, .reg .rng, .reg .tim, .reg .dio, .reg .saf, .reg .err, .fresh, .sets, .clk, .bulk, .bus, .log, .knl, .que, .boot, .axes, .lim, .prf, .eng, .pwm, .drn, .shp, .csf, .ports, .probes, .acq, .ring, .dio, .svc]
  have h := Keeps.refl [.reg .cfg, .reg .lsh, .reg .prf, .reg .eng, .reg .csf, .reg .fbk, .reg .pwm, .reg .knl, .reg .que, .reg .acq, .reg .rng, .reg .tim, .reg .dio, .reg .saf, .reg .err, .fresh, .sets, .clk, .bulk, .bus, .log, .knl, .que, .boot, .axes, .lim, .prf, .eng, .pwm, .drn, .shp, .csf, .ports, .probes, .acq, .ring, .dio, .svc] s
  simp only [execRegisterWrite, Host.Outcome.next.injEq] at e
  subst e
  repeat' with_reducible first
    | exact h
    | refine keeps_ite (fun _ => ?_) (fun _ => ?_)
    | refine State.writeBy_keeps ?_ (within_trans hm (by decide))
    | refine State.elapse_keeps ?_ (within_trans hm (by decide))
    | refine keeps_pair (by assumption) ?_
    | split

theorem execLowWordRead_keeps {dt who addr size} {t} (e : execLowWordRead dt who addr size s = .next t) : Keeps [.reg .csf, .reg .pwm, .reg .knl, .reg .que, .reg .rng, .reg .tim, .reg .dio, .reg .saf, .reg .err, .fresh, .sets, .clk, .bulk, .bus, .log, .knl, .que, .ring, .dio, .svc] s t := by
  have hm := within_refl [.reg .csf, .reg .pwm, .reg .knl, .reg .que, .reg .rng, .reg .tim, .reg .dio, .reg .saf, .reg .err, .fresh, .sets, .clk, .bulk, .bus, .log, .knl, .que, .ring, .dio, .svc]
  have h := Keeps.refl [.reg .csf, .reg .pwm, .reg .knl, .reg .que, .reg .rng, .reg .tim, .reg .dio, .reg .saf, .reg .err, .fresh, .sets, .clk, .bulk, .bus, .log, .knl, .que, .ring, .dio, .svc] s
  simp only [execLowWordRead, Host.Outcome.next.injEq] at e
  subst e
  repeat' with_reducible first
    | exact h
    | refine keeps_ite (fun _ => ?_) (fun _ => ?_)
    | refine State.elapse_keeps ?_ (within_trans hm (by decide))
    | refine State.readAt_keeps ?_ (within_trans hm (by decide))
    | refine keeps_pair (by assumption) ?_
    | split

theorem execHighWordWrite_keeps {dt who addr value} {t} (e : execHighWordWrite dt who addr value s = .next t) : Keeps [.reg .cfg, .reg .lsh, .reg .prf, .reg .eng, .reg .csf, .reg .fbk, .reg .pwm, .reg .knl, .reg .que, .reg .acq, .reg .rng, .reg .tim, .reg .dio, .reg .saf, .reg .err, .fresh, .sets, .clk, .bulk, .bus, .log, .knl, .que, .boot, .axes, .lim, .prf, .eng, .pwm, .drn, .shp, .csf, .ports, .probes, .acq, .ring, .dio, .svc] s t := by
  have hm := within_refl [.reg .cfg, .reg .lsh, .reg .prf, .reg .eng, .reg .csf, .reg .fbk, .reg .pwm, .reg .knl, .reg .que, .reg .acq, .reg .rng, .reg .tim, .reg .dio, .reg .saf, .reg .err, .fresh, .sets, .clk, .bulk, .bus, .log, .knl, .que, .boot, .axes, .lim, .prf, .eng, .pwm, .drn, .shp, .csf, .ports, .probes, .acq, .ring, .dio, .svc]
  have h := Keeps.refl [.reg .cfg, .reg .lsh, .reg .prf, .reg .eng, .reg .csf, .reg .fbk, .reg .pwm, .reg .knl, .reg .que, .reg .acq, .reg .rng, .reg .tim, .reg .dio, .reg .saf, .reg .err, .fresh, .sets, .clk, .bulk, .bus, .log, .knl, .que, .boot, .axes, .lim, .prf, .eng, .pwm, .drn, .shp, .csf, .ports, .probes, .acq, .ring, .dio, .svc] s
  simp only [execHighWordWrite, Host.Outcome.next.injEq] at e
  subst e
  repeat' with_reducible first
    | exact h
    | refine keeps_ite (fun _ => ?_) (fun _ => ?_)
    | refine State.writeBy_keeps ?_ (within_trans hm (by decide))
    | refine State.elapse_keeps ?_ (within_trans hm (by decide))
    | refine keeps_pair (by assumption) ?_
    | split

theorem execNownsRead_keeps {dt who} {t} (e : execNownsRead dt who s = .next t) : Keeps [.reg .csf, .reg .pwm, .reg .knl, .reg .que, .reg .rng, .reg .tim, .reg .dio, .reg .saf, .reg .err, .fresh, .sets, .clk, .bulk, .bus, .log, .knl, .que, .ring, .dio] s t := by
  have hm := within_refl [.reg .csf, .reg .pwm, .reg .knl, .reg .que, .reg .rng, .reg .tim, .reg .dio, .reg .saf, .reg .err, .fresh, .sets, .clk, .bulk, .bus, .log, .knl, .que, .ring, .dio]
  have h := Keeps.refl [.reg .csf, .reg .pwm, .reg .knl, .reg .que, .reg .rng, .reg .tim, .reg .dio, .reg .saf, .reg .err, .fresh, .sets, .clk, .bulk, .bus, .log, .knl, .que, .ring, .dio] s
  simp only [execNownsRead, Host.Outcome.next.injEq] at e
  subst e
  repeat' with_reducible first
    | exact h
    | refine keeps_ite (fun _ => ?_) (fun _ => ?_)
    | refine State.elapse_keeps ?_ (within_trans hm (by decide))
    | refine State.readNowns_keeps ?_ (within_trans hm (by decide))
    | refine keeps_pair (by assumption) ?_
    | split

theorem execCopy_keeps {dt} {t} (e : execCopy dt s = .next t) : Keeps [.reg .cfg, .reg .lsh, .reg .prf, .reg .eng, .reg .csf, .reg .fbk, .reg .pwm, .reg .knl, .reg .que, .reg .acq, .reg .rng, .reg .tim, .reg .dio, .reg .saf, .reg .err, .fresh, .sets, .clk, .bulk, .bus, .log, .knl, .que, .boot, .axes, .lim, .prf, .eng, .pwm, .drn, .shp, .csf, .ports, .probes, .acq, .ring, .dio, .svc] s t := by
  have hm := within_refl [.reg .cfg, .reg .lsh, .reg .prf, .reg .eng, .reg .csf, .reg .fbk, .reg .pwm, .reg .knl, .reg .que, .reg .acq, .reg .rng, .reg .tim, .reg .dio, .reg .saf, .reg .err, .fresh, .sets, .clk, .bulk, .bus, .log, .knl, .que, .boot, .axes, .lim, .prf, .eng, .pwm, .drn, .shp, .csf, .ports, .probes, .acq, .ring, .dio, .svc]
  have h := Keeps.refl [.reg .cfg, .reg .lsh, .reg .prf, .reg .eng, .reg .csf, .reg .fbk, .reg .pwm, .reg .knl, .reg .que, .reg .acq, .reg .rng, .reg .tim, .reg .dio, .reg .saf, .reg .err, .fresh, .sets, .clk, .bulk, .bus, .log, .knl, .que, .boot, .axes, .lim, .prf, .eng, .pwm, .drn, .shp, .csf, .ports, .probes, .acq, .ring, .dio, .svc] s
  simp only [execCopy, Host.Outcome.next.injEq] at e
  subst e
  repeat' with_reducible first
    | exact h
    | refine keeps_ite (fun _ => ?_) (fun _ => ?_)
    | refine State.copyExec_keeps ?_ (within_trans hm (by decide))
    | refine State.elapse_keeps ?_ (within_trans hm (by decide))
    | refine keeps_pair (by assumption) ?_
    | split

/-! ### Service -/

theorem refusal_keeps {st} (h : Keeps m s0 s) (hm : within [] m = true) : Keeps m s0 (refusal st s).2 := by
  unfold refusal
  try dsimp only
  repeat' with_reducible first
    | exact h
    | refine keeps_ite (fun _ => ?_) (fun _ => ?_)
    | refine keeps_pair (by assumption) ?_
    | split

theorem State.readWords_keeps {a n l} (h : Keeps m s0 s) (hm : within [.reg .csf, .reg .pwm, .reg .knl, .reg .que, .reg .rng, .reg .tim, .reg .dio, .reg .saf, .reg .err, .fresh, .sets, .bulk, .bus, .log, .knl, .que, .ring, .dio, .svc] m = true) : Keeps m s0 (State.readWords a n l s).2 := by
  induction n generalizing a l s with
  | zero => exact h
  | succ n ih =>
    unfold State.readWords
    try dsimp only
    repeat' with_reducible first
      | exact h
      | refine ih ?_
      | refine keeps_ite (fun _ => ?_) (fun _ => ?_)
      | refine State.readAt_keeps ?_ (within_trans hm (by decide))
      | refine keeps_foldl ?_ _ ?_
      | (intro _ _ h; try dsimp only)
      | refine keeps_pair (by assumption) ?_
      | split

theorem State.svcRead_keeps {b} (h : Keeps m s0 s) (hm : within [.reg .csf, .reg .pwm, .reg .knl, .reg .que, .reg .rng, .reg .tim, .reg .dio, .reg .saf, .reg .err, .fresh, .sets, .bulk, .bus, .log, .knl, .que, .ring, .dio, .svc] m = true) : Keeps m s0 (State.svcRead b s).2 := by
  unfold State.svcRead
  try dsimp only
  repeat' with_reducible first
    | exact h
    | refine keeps_ite (fun _ => ?_) (fun _ => ?_)
    | refine refusal_keeps ?_ (within_trans hm (by decide))
    | refine State.readWords_keeps ?_ (within_trans hm (by decide))
    | refine keeps_pair (by assumption) ?_
    | split

theorem State.svcWord_keeps {a v} (h : Keeps m s0 s) (hm : within [.reg .cfg, .reg .lsh, .reg .prf, .reg .eng, .reg .csf, .reg .fbk, .reg .pwm, .reg .knl, .reg .que, .reg .acq, .reg .rng, .reg .tim, .reg .dio, .reg .saf, .reg .err, .fresh, .sets, .bulk, .bus, .log, .knl, .que, .boot, .axes, .lim, .prf, .eng, .pwm, .drn, .shp, .csf, .ports, .probes, .acq, .ring, .dio, .svc] m = true) : Keeps m s0 (State.svcWord a v s).2 := by
  unfold State.svcWord
  try dsimp only
  repeat' with_reducible first
    | exact h
    | refine keeps_ite (fun _ => ?_) (fun _ => ?_)
    | refine State.takeReport_keeps ?_ (within_trans hm (by decide))
    | refine State.writeBy_keeps ?_ (within_trans hm (by decide))
    | refine keeps_pair (by assumption) ?_
    | split

theorem State.svcWords_keeps {a l n i d r f} (h : Keeps m s0 s) (hm : within [.reg .cfg, .reg .lsh, .reg .prf, .reg .eng, .reg .csf, .reg .fbk, .reg .pwm, .reg .knl, .reg .que, .reg .acq, .reg .rng, .reg .tim, .reg .dio, .reg .saf, .reg .err, .fresh, .sets, .clk, .bulk, .bus, .log, .knl, .que, .boot, .axes, .lim, .prf, .eng, .pwm, .drn, .shp, .csf, .ports, .probes, .acq, .ring, .dio, .svc] m = true) : Keeps m s0 (State.svcWords a l n i d r f s).2 := by
  induction n generalizing a l i d r f s with
  | zero => exact h
  | succ n ih =>
    unfold State.svcWords
    try dsimp only
    repeat' with_reducible first
      | exact h
      | refine ih ?_
      | refine keeps_ite (fun _ => ?_) (fun _ => ?_)
      | refine State.svcWord_keeps ?_ (within_trans hm (by decide))
      | refine State.elapse_keeps ?_ (within_trans hm (by decide))
      | refine keeps_foldl ?_ _ ?_
      | (intro _ _ h; try dsimp only)
      | refine keeps_pair (by assumption) ?_
      | split

theorem State.svcWrite_keeps {b} (h : Keeps m s0 s) (hm : within [.reg .cfg, .reg .lsh, .reg .prf, .reg .eng, .reg .csf, .reg .fbk, .reg .pwm, .reg .knl, .reg .que, .reg .acq, .reg .rng, .reg .tim, .reg .dio, .reg .saf, .reg .err, .fresh, .sets, .clk, .bulk, .bus, .log, .knl, .que, .boot, .axes, .lim, .prf, .eng, .pwm, .drn, .shp, .csf, .ports, .probes, .acq, .ring, .dio, .svc] m = true) : Keeps m s0 (State.svcWrite b s).2 := by
  unfold State.svcWrite
  try dsimp only
  repeat' with_reducible first
    | exact h
    | refine keeps_ite (fun _ => ?_) (fun _ => ?_)
    | refine refusal_keeps ?_ (within_trans hm (by decide))
    | refine State.svcWords_keeps ?_ (within_trans hm (by decide))
    | refine keeps_pair (by assumption) ?_
    | split

theorem State.svcLogRead_keeps {b} (h : Keeps m s0 s) (hm : within [] m = true) : Keeps m s0 (State.svcLogRead b s).2 := by
  unfold State.svcLogRead
  try dsimp only
  repeat' with_reducible first
    | exact h
    | refine keeps_ite (fun _ => ?_) (fun _ => ?_)
    | refine refusal_keeps ?_ (within_trans hm (by decide))
    | refine keeps_pair (by assumption) ?_
    | split

theorem State.svcPersRead_keeps {b} (h : Keeps m s0 s) (hm : within [] m = true) : Keeps m s0 (State.svcPersRead b s).2 := by
  unfold State.svcPersRead
  try dsimp only
  repeat' with_reducible first
    | exact h
    | refine keeps_ite (fun _ => ?_) (fun _ => ?_)
    | refine refusal_keeps ?_ (within_trans hm (by decide))
    | refine keeps_pair (by assumption) ?_
    | split

theorem State.svcMotion_keeps {w seq mseq b} (h : Keeps m s0 s) (hm : within [.reg .knl, .reg .que, .reg .err, .sets, .bulk, .bus, .log, .knl, .que, .ring, .svc] m = true) : Keeps m s0 (State.svcMotion w seq mseq b s).2 := by
  unfold State.svcMotion
  try dsimp only
  repeat' with_reducible first
    | exact h
    | refine keeps_ite (fun _ => ?_) (fun _ => ?_)
    | refine refusal_keeps ?_ (within_trans hm (by decide))
    | refine State.onQue_keeps ?_ (within_trans hm (by decide))
    | refine State.corePushWait_keeps ?_ (within_trans hm (by decide))
    | refine State.sv_keeps ?_ (within_trans hm (by decide))
    | refine keeps_foldl ?_ _ ?_
    | refine keeps_foldl_snd ?_ _ ?_
    | (intro _ _ h; try dsimp only)
    | refine keeps_pair (by assumption) ?_
    | split

theorem State.svcEvents_keeps {b} (h : Keeps m s0 s) (hm : within [.svc] m = true) : Keeps m s0 (State.svcEvents b s).2 := by
  unfold State.svcEvents
  try dsimp only
  repeat' with_reducible first
    | exact h
    | refine keeps_ite (fun _ => ?_) (fun _ => ?_)
    | refine refusal_keeps ?_ (within_trans hm (by decide))
    | refine State.sv_keeps ?_ (within_trans hm (by decide))
    | refine keeps_pair (by assumption) ?_
    | split

theorem State.setDownload_keeps {d} (h : Keeps m s0 s) (hm : within [.boot, .svc] m = true) : Keeps m s0 (State.setDownload d s) := by
  unfold State.setDownload
  try dsimp only
  repeat' with_reducible first
    | exact h
    | refine keeps_ite (fun _ => ?_) (fun _ => ?_)
    | refine State.onBoot_keeps ?_ (within_trans hm (by decide))
    | refine State.sv_keeps ?_ (within_trans hm (by decide))
    | refine keeps_pair (by assumption) ?_
    | split

theorem State.svcDlBegin_keeps {w b} (h : Keeps m s0 s) (hm : within [.boot, .svc] m = true) : Keeps m s0 (State.svcDlBegin w b s).2 := by
  unfold State.svcDlBegin
  try dsimp only
  repeat' with_reducible first
    | exact h
    | refine keeps_ite (fun _ => ?_) (fun _ => ?_)
    | refine refusal_keeps ?_ (within_trans hm (by decide))
    | refine State.setDownload_keeps ?_ (within_trans hm (by decide))
    | refine State.flashErase_keeps ?_ (within_trans hm (by decide))
    | refine keeps_pair (by assumption) ?_
    | split

theorem State.svcDlData_keeps {w b} (h : Keeps m s0 s) (hm : within [.boot, .svc] m = true) : Keeps m s0 (State.svcDlData w b s).2 := by
  unfold State.svcDlData
  try dsimp only
  repeat' with_reducible first
    | exact h
    | refine keeps_ite (fun _ => ?_) (fun _ => ?_)
    | refine refusal_keeps ?_ (within_trans hm (by decide))
    | refine State.setDownload_keeps ?_ (within_trans hm (by decide))
    | refine State.flashStore_keeps ?_ (within_trans hm (by decide))
    | refine keeps_pair (by assumption) ?_
    | split

theorem State.svcDlEnd_keeps {w b} (h : Keeps m s0 s) (hm : within [.boot, .svc] m = true) : Keeps m s0 (State.svcDlEnd w b s).2 := by
  unfold State.svcDlEnd
  try dsimp only
  repeat' with_reducible first
    | exact h
    | refine keeps_ite (fun _ => ?_) (fun _ => ?_)
    | refine refusal_keeps ?_ (within_trans hm (by decide))
    | refine State.setDownload_keeps ?_ (within_trans hm (by decide))
    | refine keeps_pair (by assumption) ?_
    | split

theorem State.restart_keeps {qvsel clksel test} (h : Keeps m s0 s) (hm : within [.reg .cfg, .reg .lsh, .reg .prf, .reg .eng, .reg .csf, .reg .fbk, .reg .pwm, .reg .knl, .reg .que, .reg .acq, .reg .rng, .reg .tim, .reg .dio, .reg .saf, .reg .err, .fresh, .sets, .clk, .bulk, .bus, .log, .knl, .que, .boot, .pow, .axes, .lim, .prf, .eng, .pwm, .drn, .ine, .shp, .csf, .ports, .probes, .menc, .acq, .ring, .tim, .dio, .saf, .svc] m = true) : Keeps m s0 (State.restart qvsel clksel test s) := by
  unfold State.restart
  try dsimp only
  repeat' with_reducible first
    | exact h
    | refine keeps_ite (fun _ => ?_) (fun _ => ?_)
    | refine State.resetHigh_keeps ?_ (within_trans hm (by decide))
    | refine State.resetLow_keeps ?_ (within_trans hm (by decide))
    | refine State.sv_keeps ?_ (within_trans hm (by decide))
    | refine keeps_pair (by assumption) ?_
    | split

theorem State.svcRestart_keeps {b} (h : Keeps m s0 s) (hm : within [] m = true) : Keeps m s0 (State.svcRestart b s).2 := by
  unfold State.svcRestart
  try dsimp only
  repeat' with_reducible first
    | exact h
    | refine keeps_ite (fun _ => ?_) (fun _ => ?_)
    | refine refusal_keeps ?_ (within_trans hm (by decide))
    | refine keeps_pair (by assumption) ?_
    | split

theorem State.svcInfo_keeps {b} (h : Keeps m s0 s) (hm : within [] m = true) : Keeps m s0 (State.svcInfo b s).2 := by
  unfold State.svcInfo
  try dsimp only
  repeat' with_reducible first
    | exact h
    | refine keeps_ite (fun _ => ?_) (fun _ => ?_)
    | refine refusal_keeps ?_ (within_trans hm (by decide))
    | refine keeps_pair (by assumption) ?_
    | split

theorem State.safetyDoes_keeps {req arg ip} (h : Keeps m s0 s) (hm : within [.reg .prf, .reg .eng, .reg .csf, .reg .fbk, .reg .pwm, .reg .knl, .reg .que, .reg .dio, .reg .saf, .reg .err, .fresh, .sets, .bulk, .log, .knl, .que, .axes, .prf, .pwm, .probes, .saf] m = true) : Keeps m s0 (State.safetyDoes req arg ip s).2 := by
  unfold State.safetyDoes
  try dsimp only
  repeat' with_reducible first
    | exact h
    | refine keeps_ite (fun _ => ?_) (fun _ => ?_)
    | refine State.accept_keeps ?_ (within_trans hm (by decide))
    | refine State.withdraw_keeps ?_ (within_trans hm (by decide))
    | refine State.clearLog_keeps ?_ (within_trans hm (by decide))
    | refine keeps_pair (by assumption) ?_
    | split

theorem State.svcSafety_keeps {w b mramOk} (h : Keeps m s0 s) (hm : within [.reg .prf, .reg .eng, .reg .csf, .reg .fbk, .reg .pwm, .reg .knl, .reg .que, .reg .dio, .reg .saf, .reg .err, .fresh, .sets, .bulk, .log, .knl, .que, .axes, .prf, .pwm, .probes, .saf] m = true) : Keeps m s0 (State.svcSafety w b mramOk s).2 := by
  unfold State.svcSafety
  try dsimp only
  repeat' with_reducible first
    | exact h
    | refine keeps_ite (fun _ => ?_) (fun _ => ?_)
    | refine refusal_keeps ?_ (within_trans hm (by decide))
    | refine State.safRequest_keeps (fun _ h => ?_) ?_ (within_trans hm (by decide))
    | refine State.safetyDoes_keeps ?_ (within_trans hm (by decide))
    | refine keeps_pair (by assumption) ?_
    | split

theorem State.serve_keeps {w cmd seq mseq b mramOk} (h : Keeps m s0 s) (hm : within [.reg .cfg, .reg .lsh, .reg .prf, .reg .eng, .reg .csf, .reg .fbk, .reg .pwm, .reg .knl, .reg .que, .reg .acq, .reg .rng, .reg .tim, .reg .dio, .reg .saf, .reg .err, .fresh, .sets, .clk, .bulk, .bus, .log, .knl, .que, .boot, .axes, .lim, .prf, .eng, .pwm, .drn, .shp, .csf, .ports, .probes, .acq, .ring, .dio, .saf, .svc] m = true) : Keeps m s0 (State.serve w cmd seq mseq b mramOk s).2 := by
  unfold State.serve
  try dsimp only
  repeat' with_reducible first
    | exact h
    | refine keeps_ite (fun _ => ?_) (fun _ => ?_)
    | refine refusal_keeps ?_ (within_trans hm (by decide))
    | refine State.svcInfo_keeps ?_ (within_trans hm (by decide))
    | refine State.svcRead_keeps ?_ (within_trans hm (by decide))
    | refine State.svcWrite_keeps ?_ (within_trans hm (by decide))
    | refine State.svcLogRead_keeps ?_ (within_trans hm (by decide))
    | refine State.svcPersRead_keeps ?_ (within_trans hm (by decide))
    | refine State.svcMotion_keeps ?_ (within_trans hm (by decide))
    | refine State.svcEvents_keeps ?_ (within_trans hm (by decide))
    | refine State.svcDlBegin_keeps ?_ (within_trans hm (by decide))
    | refine State.svcDlData_keeps ?_ (within_trans hm (by decide))
    | refine State.svcDlEnd_keeps ?_ (within_trans hm (by decide))
    | refine State.svcSafety_keeps ?_ (within_trans hm (by decide))
    | refine State.svcRestart_keeps ?_ (within_trans hm (by decide))
    | refine keeps_pair (by assumption) ?_
    | split

theorem State.newRequest_keeps {w seq} (h : Keeps m s0 s) (hm : within [.svc] m = true) : Keeps m s0 (State.newRequest w seq s) := by
  unfold State.newRequest
  try dsimp only
  repeat' with_reducible first
    | exact h
    | refine keeps_ite (fun _ => ?_) (fun _ => ?_)
    | refine State.sv_keeps ?_ (within_trans hm (by decide))
    | refine keeps_pair (by assumption) ?_
    | split

theorem State.request_keeps {w f mramOk} (h : Keeps m s0 s) (hm : within [.reg .cfg, .reg .lsh, .reg .prf, .reg .eng, .reg .csf, .reg .fbk, .reg .pwm, .reg .knl, .reg .que, .reg .acq, .reg .rng, .reg .tim, .reg .dio, .reg .saf, .reg .err, .fresh, .sets, .clk, .bulk, .bus, .log, .knl, .que, .boot, .axes, .lim, .prf, .eng, .pwm, .drn, .shp, .csf, .ports, .probes, .acq, .ring, .dio, .saf, .svc] m = true) : Keeps m s0 (State.request w f mramOk s) := by
  unfold State.request
  try dsimp only
  repeat' with_reducible first
    | exact h
    | refine keeps_ite (fun _ => ?_) (fun _ => ?_)
    | refine State.serve_keeps ?_ (within_trans hm (by decide))
    | refine State.newRequest_keeps ?_ (within_trans hm (by decide))
    | refine State.svcSend_keeps ?_ (within_trans hm (by decide))
    | refine State.sv_keeps ?_ (within_trans hm (by decide))
    | refine State.satBump_keeps (by first | exact SVC_STAT_OVR_blk ..) ?_ (within_trans hm (by decide))
    | refine keeps_pair (by assumption) ?_
    | split

theorem State.datagram_keeps {mine ip port udp f mramOk} (h : Keeps m s0 s) (hm : within [.reg .cfg, .reg .lsh, .reg .prf, .reg .eng, .reg .csf, .reg .fbk, .reg .pwm, .reg .knl, .reg .que, .reg .acq, .reg .rng, .reg .tim, .reg .dio, .reg .saf, .reg .err, .fresh, .sets, .clk, .bulk, .bus, .log, .knl, .que, .boot, .axes, .lim, .prf, .eng, .pwm, .drn, .shp, .csf, .ports, .probes, .acq, .ring, .dio, .saf, .svc] m = true) : Keeps m s0 (State.datagram mine ip port udp f mramOk s) := by
  unfold State.datagram
  try dsimp only
  repeat' with_reducible first
    | exact h
    | refine keeps_ite (fun _ => ?_) (fun _ => ?_)
    | refine State.sv_keeps ?_ (within_trans hm (by decide))
    | refine State.satBump_keeps (by first | exact SVC_STAT_BAD_blk ..) ?_ (within_trans hm (by decide))
    | refine State.request_keeps ?_ (within_trans hm (by decide))
    | refine State.event_keeps ?_ (within_trans hm (by decide))
    | refine keeps_pair (by assumption) ?_
    | split

theorem State.netAnswer_keeps {target data} (h : Keeps m s0 s) (hm : within [.svc] m = true) : Keeps m s0 (State.netAnswer target data s) := by
  unfold State.netAnswer
  try dsimp only
  repeat' with_reducible first
    | exact h
    | refine keeps_ite (fun _ => ?_) (fun _ => ?_)
    | refine State.sv_keeps ?_ (within_trans hm (by decide))
    | refine keeps_pair (by assumption) ?_
    | split

theorem State.freeBits_keeps {n} (h : Keeps m s0 s) (hm : within [.fresh] m = true) : Keeps m s0 (State.freeBits n s).2 := by
  induction n generalizing s with
  | zero => exact h
  | succ n ih =>
    unfold State.freeBits
    try dsimp only
    repeat' with_reducible first
      | exact h
      | refine ih ?_
      | refine keeps_ite (fun _ => ?_) (fun _ => ?_)
      | refine State.drew_keeps ?_ (within_trans hm (by decide))
      | refine keeps_foldl ?_ _ ?_
      | (intro _ _ h; try dsimp only)
      | refine keeps_pair (by assumption) ?_
      | split

theorem State.scan_keeps {i shift} (h : Keeps m s0 s) (hm : within [.fresh, .jtag] m = true) : Keeps m s0 (State.scan i shift s) := by
  unfold State.scan
  try dsimp only
  repeat' with_reducible first
    | exact h
    | refine keeps_ite (fun _ => ?_) (fun _ => ?_)
    | refine State.onJtag_keeps ?_ (within_trans hm (by decide))
    | refine State.freeBits_keeps ?_ (within_trans hm (by decide))
    | refine keeps_pair (by assumption) ?_
    | split

theorem execInfo_keeps {dt ip port udp f} {t} (e : execInfo dt ip port udp f s = .next t) : Keeps [.reg .cfg, .reg .lsh, .reg .prf, .reg .eng, .reg .csf, .reg .fbk, .reg .pwm, .reg .knl, .reg .que, .reg .acq, .reg .rng, .reg .tim, .reg .dio, .reg .saf, .reg .err, .fresh, .sets, .clk, .bulk, .bus, .log, .knl, .que, .boot, .axes, .lim, .prf, .eng, .pwm, .drn, .shp, .csf, .ports, .probes, .acq, .ring, .dio, .saf, .svc] s t := by
  have hm := within_refl [.reg .cfg, .reg .lsh, .reg .prf, .reg .eng, .reg .csf, .reg .fbk, .reg .pwm, .reg .knl, .reg .que, .reg .acq, .reg .rng, .reg .tim, .reg .dio, .reg .saf, .reg .err, .fresh, .sets, .clk, .bulk, .bus, .log, .knl, .que, .boot, .axes, .lim, .prf, .eng, .pwm, .drn, .shp, .csf, .ports, .probes, .acq, .ring, .dio, .saf, .svc]
  have h := Keeps.refl [.reg .cfg, .reg .lsh, .reg .prf, .reg .eng, .reg .csf, .reg .fbk, .reg .pwm, .reg .knl, .reg .que, .reg .acq, .reg .rng, .reg .tim, .reg .dio, .reg .saf, .reg .err, .fresh, .sets, .clk, .bulk, .bus, .log, .knl, .que, .boot, .axes, .lim, .prf, .eng, .pwm, .drn, .shp, .csf, .ports, .probes, .acq, .ring, .dio, .saf, .svc] s
  simp only [execInfo, Host.Outcome.next.injEq] at e
  subst e
  repeat' with_reducible first
    | exact h
    | refine keeps_ite (fun _ => ?_) (fun _ => ?_)
    | refine State.datagram_keeps ?_ (within_trans hm (by decide))
    | refine State.elapse_keeps ?_ (within_trans hm (by decide))
    | refine keeps_pair (by assumption) ?_
    | split

theorem execRead_keeps {dt ip port udp f} {t} (e : execRead dt ip port udp f s = .next t) : Keeps [.reg .cfg, .reg .lsh, .reg .prf, .reg .eng, .reg .csf, .reg .fbk, .reg .pwm, .reg .knl, .reg .que, .reg .acq, .reg .rng, .reg .tim, .reg .dio, .reg .saf, .reg .err, .fresh, .sets, .clk, .bulk, .bus, .log, .knl, .que, .boot, .axes, .lim, .prf, .eng, .pwm, .drn, .shp, .csf, .ports, .probes, .acq, .ring, .dio, .saf, .svc] s t := by
  have hm := within_refl [.reg .cfg, .reg .lsh, .reg .prf, .reg .eng, .reg .csf, .reg .fbk, .reg .pwm, .reg .knl, .reg .que, .reg .acq, .reg .rng, .reg .tim, .reg .dio, .reg .saf, .reg .err, .fresh, .sets, .clk, .bulk, .bus, .log, .knl, .que, .boot, .axes, .lim, .prf, .eng, .pwm, .drn, .shp, .csf, .ports, .probes, .acq, .ring, .dio, .saf, .svc]
  have h := Keeps.refl [.reg .cfg, .reg .lsh, .reg .prf, .reg .eng, .reg .csf, .reg .fbk, .reg .pwm, .reg .knl, .reg .que, .reg .acq, .reg .rng, .reg .tim, .reg .dio, .reg .saf, .reg .err, .fresh, .sets, .clk, .bulk, .bus, .log, .knl, .que, .boot, .axes, .lim, .prf, .eng, .pwm, .drn, .shp, .csf, .ports, .probes, .acq, .ring, .dio, .saf, .svc] s
  simp only [execRead, Host.Outcome.next.injEq] at e
  subst e
  repeat' with_reducible first
    | exact h
    | refine keeps_ite (fun _ => ?_) (fun _ => ?_)
    | refine State.datagram_keeps ?_ (within_trans hm (by decide))
    | refine State.elapse_keeps ?_ (within_trans hm (by decide))
    | refine keeps_pair (by assumption) ?_
    | split

theorem execWrite_keeps {dt ip port udp f} {t} (e : execWrite dt ip port udp f s = .next t) : Keeps [.reg .cfg, .reg .lsh, .reg .prf, .reg .eng, .reg .csf, .reg .fbk, .reg .pwm, .reg .knl, .reg .que, .reg .acq, .reg .rng, .reg .tim, .reg .dio, .reg .saf, .reg .err, .fresh, .sets, .clk, .bulk, .bus, .log, .knl, .que, .boot, .axes, .lim, .prf, .eng, .pwm, .drn, .shp, .csf, .ports, .probes, .acq, .ring, .dio, .saf, .svc] s t := by
  have hm := within_refl [.reg .cfg, .reg .lsh, .reg .prf, .reg .eng, .reg .csf, .reg .fbk, .reg .pwm, .reg .knl, .reg .que, .reg .acq, .reg .rng, .reg .tim, .reg .dio, .reg .saf, .reg .err, .fresh, .sets, .clk, .bulk, .bus, .log, .knl, .que, .boot, .axes, .lim, .prf, .eng, .pwm, .drn, .shp, .csf, .ports, .probes, .acq, .ring, .dio, .saf, .svc]
  have h := Keeps.refl [.reg .cfg, .reg .lsh, .reg .prf, .reg .eng, .reg .csf, .reg .fbk, .reg .pwm, .reg .knl, .reg .que, .reg .acq, .reg .rng, .reg .tim, .reg .dio, .reg .saf, .reg .err, .fresh, .sets, .clk, .bulk, .bus, .log, .knl, .que, .boot, .axes, .lim, .prf, .eng, .pwm, .drn, .shp, .csf, .ports, .probes, .acq, .ring, .dio, .saf, .svc] s
  simp only [execWrite, Host.Outcome.next.injEq] at e
  subst e
  repeat' with_reducible first
    | exact h
    | refine keeps_ite (fun _ => ?_) (fun _ => ?_)
    | refine State.datagram_keeps ?_ (within_trans hm (by decide))
    | refine State.elapse_keeps ?_ (within_trans hm (by decide))
    | refine keeps_pair (by assumption) ?_
    | split

theorem execLogread_keeps {dt ip port udp f} {t} (e : execLogread dt ip port udp f s = .next t) : Keeps [.reg .cfg, .reg .lsh, .reg .prf, .reg .eng, .reg .csf, .reg .fbk, .reg .pwm, .reg .knl, .reg .que, .reg .acq, .reg .rng, .reg .tim, .reg .dio, .reg .saf, .reg .err, .fresh, .sets, .clk, .bulk, .bus, .log, .knl, .que, .boot, .axes, .lim, .prf, .eng, .pwm, .drn, .shp, .csf, .ports, .probes, .acq, .ring, .dio, .saf, .svc] s t := by
  have hm := within_refl [.reg .cfg, .reg .lsh, .reg .prf, .reg .eng, .reg .csf, .reg .fbk, .reg .pwm, .reg .knl, .reg .que, .reg .acq, .reg .rng, .reg .tim, .reg .dio, .reg .saf, .reg .err, .fresh, .sets, .clk, .bulk, .bus, .log, .knl, .que, .boot, .axes, .lim, .prf, .eng, .pwm, .drn, .shp, .csf, .ports, .probes, .acq, .ring, .dio, .saf, .svc]
  have h := Keeps.refl [.reg .cfg, .reg .lsh, .reg .prf, .reg .eng, .reg .csf, .reg .fbk, .reg .pwm, .reg .knl, .reg .que, .reg .acq, .reg .rng, .reg .tim, .reg .dio, .reg .saf, .reg .err, .fresh, .sets, .clk, .bulk, .bus, .log, .knl, .que, .boot, .axes, .lim, .prf, .eng, .pwm, .drn, .shp, .csf, .ports, .probes, .acq, .ring, .dio, .saf, .svc] s
  simp only [execLogread, Host.Outcome.next.injEq] at e
  subst e
  repeat' with_reducible first
    | exact h
    | refine keeps_ite (fun _ => ?_) (fun _ => ?_)
    | refine State.datagram_keeps ?_ (within_trans hm (by decide))
    | refine State.elapse_keeps ?_ (within_trans hm (by decide))
    | refine keeps_pair (by assumption) ?_
    | split

theorem execPersread_keeps {dt ip port udp f} {t} (e : execPersread dt ip port udp f s = .next t) : Keeps [.reg .cfg, .reg .lsh, .reg .prf, .reg .eng, .reg .csf, .reg .fbk, .reg .pwm, .reg .knl, .reg .que, .reg .acq, .reg .rng, .reg .tim, .reg .dio, .reg .saf, .reg .err, .fresh, .sets, .clk, .bulk, .bus, .log, .knl, .que, .boot, .axes, .lim, .prf, .eng, .pwm, .drn, .shp, .csf, .ports, .probes, .acq, .ring, .dio, .saf, .svc] s t := by
  have hm := within_refl [.reg .cfg, .reg .lsh, .reg .prf, .reg .eng, .reg .csf, .reg .fbk, .reg .pwm, .reg .knl, .reg .que, .reg .acq, .reg .rng, .reg .tim, .reg .dio, .reg .saf, .reg .err, .fresh, .sets, .clk, .bulk, .bus, .log, .knl, .que, .boot, .axes, .lim, .prf, .eng, .pwm, .drn, .shp, .csf, .ports, .probes, .acq, .ring, .dio, .saf, .svc]
  have h := Keeps.refl [.reg .cfg, .reg .lsh, .reg .prf, .reg .eng, .reg .csf, .reg .fbk, .reg .pwm, .reg .knl, .reg .que, .reg .acq, .reg .rng, .reg .tim, .reg .dio, .reg .saf, .reg .err, .fresh, .sets, .clk, .bulk, .bus, .log, .knl, .que, .boot, .axes, .lim, .prf, .eng, .pwm, .drn, .shp, .csf, .ports, .probes, .acq, .ring, .dio, .saf, .svc] s
  simp only [execPersread, Host.Outcome.next.injEq] at e
  subst e
  repeat' with_reducible first
    | exact h
    | refine keeps_ite (fun _ => ?_) (fun _ => ?_)
    | refine State.datagram_keeps ?_ (within_trans hm (by decide))
    | refine State.elapse_keeps ?_ (within_trans hm (by decide))
    | refine keeps_pair (by assumption) ?_
    | split

theorem execMotion_keeps {dt ip port udp f} {t} (e : execMotion dt ip port udp f s = .next t) : Keeps [.reg .cfg, .reg .lsh, .reg .prf, .reg .eng, .reg .csf, .reg .fbk, .reg .pwm, .reg .knl, .reg .que, .reg .acq, .reg .rng, .reg .tim, .reg .dio, .reg .saf, .reg .err, .fresh, .sets, .clk, .bulk, .bus, .log, .knl, .que, .boot, .axes, .lim, .prf, .eng, .pwm, .drn, .shp, .csf, .ports, .probes, .acq, .ring, .dio, .saf, .svc] s t := by
  have hm := within_refl [.reg .cfg, .reg .lsh, .reg .prf, .reg .eng, .reg .csf, .reg .fbk, .reg .pwm, .reg .knl, .reg .que, .reg .acq, .reg .rng, .reg .tim, .reg .dio, .reg .saf, .reg .err, .fresh, .sets, .clk, .bulk, .bus, .log, .knl, .que, .boot, .axes, .lim, .prf, .eng, .pwm, .drn, .shp, .csf, .ports, .probes, .acq, .ring, .dio, .saf, .svc]
  have h := Keeps.refl [.reg .cfg, .reg .lsh, .reg .prf, .reg .eng, .reg .csf, .reg .fbk, .reg .pwm, .reg .knl, .reg .que, .reg .acq, .reg .rng, .reg .tim, .reg .dio, .reg .saf, .reg .err, .fresh, .sets, .clk, .bulk, .bus, .log, .knl, .que, .boot, .axes, .lim, .prf, .eng, .pwm, .drn, .shp, .csf, .ports, .probes, .acq, .ring, .dio, .saf, .svc] s
  simp only [execMotion, Host.Outcome.next.injEq] at e
  subst e
  repeat' with_reducible first
    | exact h
    | refine keeps_ite (fun _ => ?_) (fun _ => ?_)
    | refine State.datagram_keeps ?_ (within_trans hm (by decide))
    | refine State.elapse_keeps ?_ (within_trans hm (by decide))
    | refine keeps_pair (by assumption) ?_
    | split

theorem execEvents_keeps {dt ip port udp f} {t} (e : execEvents dt ip port udp f s = .next t) : Keeps [.reg .cfg, .reg .lsh, .reg .prf, .reg .eng, .reg .csf, .reg .fbk, .reg .pwm, .reg .knl, .reg .que, .reg .acq, .reg .rng, .reg .tim, .reg .dio, .reg .saf, .reg .err, .fresh, .sets, .clk, .bulk, .bus, .log, .knl, .que, .boot, .axes, .lim, .prf, .eng, .pwm, .drn, .shp, .csf, .ports, .probes, .acq, .ring, .dio, .saf, .svc] s t := by
  have hm := within_refl [.reg .cfg, .reg .lsh, .reg .prf, .reg .eng, .reg .csf, .reg .fbk, .reg .pwm, .reg .knl, .reg .que, .reg .acq, .reg .rng, .reg .tim, .reg .dio, .reg .saf, .reg .err, .fresh, .sets, .clk, .bulk, .bus, .log, .knl, .que, .boot, .axes, .lim, .prf, .eng, .pwm, .drn, .shp, .csf, .ports, .probes, .acq, .ring, .dio, .saf, .svc]
  have h := Keeps.refl [.reg .cfg, .reg .lsh, .reg .prf, .reg .eng, .reg .csf, .reg .fbk, .reg .pwm, .reg .knl, .reg .que, .reg .acq, .reg .rng, .reg .tim, .reg .dio, .reg .saf, .reg .err, .fresh, .sets, .clk, .bulk, .bus, .log, .knl, .que, .boot, .axes, .lim, .prf, .eng, .pwm, .drn, .shp, .csf, .ports, .probes, .acq, .ring, .dio, .saf, .svc] s
  simp only [execEvents, Host.Outcome.next.injEq] at e
  subst e
  repeat' with_reducible first
    | exact h
    | refine keeps_ite (fun _ => ?_) (fun _ => ?_)
    | refine State.datagram_keeps ?_ (within_trans hm (by decide))
    | refine State.elapse_keeps ?_ (within_trans hm (by decide))
    | refine keeps_pair (by assumption) ?_
    | split

theorem execDlbegin_keeps {dt ip port udp f} {t} (e : execDlbegin dt ip port udp f s = .next t) : Keeps [.reg .cfg, .reg .lsh, .reg .prf, .reg .eng, .reg .csf, .reg .fbk, .reg .pwm, .reg .knl, .reg .que, .reg .acq, .reg .rng, .reg .tim, .reg .dio, .reg .saf, .reg .err, .fresh, .sets, .clk, .bulk, .bus, .log, .knl, .que, .boot, .axes, .lim, .prf, .eng, .pwm, .drn, .shp, .csf, .ports, .probes, .acq, .ring, .dio, .saf, .svc] s t := by
  have hm := within_refl [.reg .cfg, .reg .lsh, .reg .prf, .reg .eng, .reg .csf, .reg .fbk, .reg .pwm, .reg .knl, .reg .que, .reg .acq, .reg .rng, .reg .tim, .reg .dio, .reg .saf, .reg .err, .fresh, .sets, .clk, .bulk, .bus, .log, .knl, .que, .boot, .axes, .lim, .prf, .eng, .pwm, .drn, .shp, .csf, .ports, .probes, .acq, .ring, .dio, .saf, .svc]
  have h := Keeps.refl [.reg .cfg, .reg .lsh, .reg .prf, .reg .eng, .reg .csf, .reg .fbk, .reg .pwm, .reg .knl, .reg .que, .reg .acq, .reg .rng, .reg .tim, .reg .dio, .reg .saf, .reg .err, .fresh, .sets, .clk, .bulk, .bus, .log, .knl, .que, .boot, .axes, .lim, .prf, .eng, .pwm, .drn, .shp, .csf, .ports, .probes, .acq, .ring, .dio, .saf, .svc] s
  simp only [execDlbegin, Host.Outcome.next.injEq] at e
  subst e
  repeat' with_reducible first
    | exact h
    | refine keeps_ite (fun _ => ?_) (fun _ => ?_)
    | refine State.datagram_keeps ?_ (within_trans hm (by decide))
    | refine State.elapse_keeps ?_ (within_trans hm (by decide))
    | refine keeps_pair (by assumption) ?_
    | split

theorem execDldata_keeps {dt ip port udp f} {t} (e : execDldata dt ip port udp f s = .next t) : Keeps [.reg .cfg, .reg .lsh, .reg .prf, .reg .eng, .reg .csf, .reg .fbk, .reg .pwm, .reg .knl, .reg .que, .reg .acq, .reg .rng, .reg .tim, .reg .dio, .reg .saf, .reg .err, .fresh, .sets, .clk, .bulk, .bus, .log, .knl, .que, .boot, .axes, .lim, .prf, .eng, .pwm, .drn, .shp, .csf, .ports, .probes, .acq, .ring, .dio, .saf, .svc] s t := by
  have hm := within_refl [.reg .cfg, .reg .lsh, .reg .prf, .reg .eng, .reg .csf, .reg .fbk, .reg .pwm, .reg .knl, .reg .que, .reg .acq, .reg .rng, .reg .tim, .reg .dio, .reg .saf, .reg .err, .fresh, .sets, .clk, .bulk, .bus, .log, .knl, .que, .boot, .axes, .lim, .prf, .eng, .pwm, .drn, .shp, .csf, .ports, .probes, .acq, .ring, .dio, .saf, .svc]
  have h := Keeps.refl [.reg .cfg, .reg .lsh, .reg .prf, .reg .eng, .reg .csf, .reg .fbk, .reg .pwm, .reg .knl, .reg .que, .reg .acq, .reg .rng, .reg .tim, .reg .dio, .reg .saf, .reg .err, .fresh, .sets, .clk, .bulk, .bus, .log, .knl, .que, .boot, .axes, .lim, .prf, .eng, .pwm, .drn, .shp, .csf, .ports, .probes, .acq, .ring, .dio, .saf, .svc] s
  simp only [execDldata, Host.Outcome.next.injEq] at e
  subst e
  repeat' with_reducible first
    | exact h
    | refine keeps_ite (fun _ => ?_) (fun _ => ?_)
    | refine State.datagram_keeps ?_ (within_trans hm (by decide))
    | refine State.elapse_keeps ?_ (within_trans hm (by decide))
    | refine keeps_pair (by assumption) ?_
    | split

theorem execDlend_keeps {dt ip port udp f} {t} (e : execDlend dt ip port udp f s = .next t) : Keeps [.reg .cfg, .reg .lsh, .reg .prf, .reg .eng, .reg .csf, .reg .fbk, .reg .pwm, .reg .knl, .reg .que, .reg .acq, .reg .rng, .reg .tim, .reg .dio, .reg .saf, .reg .err, .fresh, .sets, .clk, .bulk, .bus, .log, .knl, .que, .boot, .axes, .lim, .prf, .eng, .pwm, .drn, .shp, .csf, .ports, .probes, .acq, .ring, .dio, .saf, .svc] s t := by
  have hm := within_refl [.reg .cfg, .reg .lsh, .reg .prf, .reg .eng, .reg .csf, .reg .fbk, .reg .pwm, .reg .knl, .reg .que, .reg .acq, .reg .rng, .reg .tim, .reg .dio, .reg .saf, .reg .err, .fresh, .sets, .clk, .bulk, .bus, .log, .knl, .que, .boot, .axes, .lim, .prf, .eng, .pwm, .drn, .shp, .csf, .ports, .probes, .acq, .ring, .dio, .saf, .svc]
  have h := Keeps.refl [.reg .cfg, .reg .lsh, .reg .prf, .reg .eng, .reg .csf, .reg .fbk, .reg .pwm, .reg .knl, .reg .que, .reg .acq, .reg .rng, .reg .tim, .reg .dio, .reg .saf, .reg .err, .fresh, .sets, .clk, .bulk, .bus, .log, .knl, .que, .boot, .axes, .lim, .prf, .eng, .pwm, .drn, .shp, .csf, .ports, .probes, .acq, .ring, .dio, .saf, .svc] s
  simp only [execDlend, Host.Outcome.next.injEq] at e
  subst e
  repeat' with_reducible first
    | exact h
    | refine keeps_ite (fun _ => ?_) (fun _ => ?_)
    | refine State.datagram_keeps ?_ (within_trans hm (by decide))
    | refine State.elapse_keeps ?_ (within_trans hm (by decide))
    | refine keeps_pair (by assumption) ?_
    | split

theorem execAccept_keeps {dt ip port udp f mramOk} {t} (e : execAccept dt ip port udp f mramOk s = .next t) : Keeps [.reg .cfg, .reg .lsh, .reg .prf, .reg .eng, .reg .csf, .reg .fbk, .reg .pwm, .reg .knl, .reg .que, .reg .acq, .reg .rng, .reg .tim, .reg .dio, .reg .saf, .reg .err, .fresh, .sets, .clk, .bulk, .bus, .log, .knl, .que, .boot, .axes, .lim, .prf, .eng, .pwm, .drn, .shp, .csf, .ports, .probes, .acq, .ring, .dio, .saf, .svc] s t := by
  have hm := within_refl [.reg .cfg, .reg .lsh, .reg .prf, .reg .eng, .reg .csf, .reg .fbk, .reg .pwm, .reg .knl, .reg .que, .reg .acq, .reg .rng, .reg .tim, .reg .dio, .reg .saf, .reg .err, .fresh, .sets, .clk, .bulk, .bus, .log, .knl, .que, .boot, .axes, .lim, .prf, .eng, .pwm, .drn, .shp, .csf, .ports, .probes, .acq, .ring, .dio, .saf, .svc]
  have h := Keeps.refl [.reg .cfg, .reg .lsh, .reg .prf, .reg .eng, .reg .csf, .reg .fbk, .reg .pwm, .reg .knl, .reg .que, .reg .acq, .reg .rng, .reg .tim, .reg .dio, .reg .saf, .reg .err, .fresh, .sets, .clk, .bulk, .bus, .log, .knl, .que, .boot, .axes, .lim, .prf, .eng, .pwm, .drn, .shp, .csf, .ports, .probes, .acq, .ring, .dio, .saf, .svc] s
  simp only [execAccept, Host.Outcome.next.injEq] at e
  subst e
  repeat' with_reducible first
    | exact h
    | refine keeps_ite (fun _ => ?_) (fun _ => ?_)
    | refine State.datagram_keeps ?_ (within_trans hm (by decide))
    | refine State.elapse_keeps ?_ (within_trans hm (by decide))
    | refine keeps_pair (by assumption) ?_
    | split

theorem execWithdraw_keeps {dt ip port udp f mramOk} {t} (e : execWithdraw dt ip port udp f mramOk s = .next t) : Keeps [.reg .cfg, .reg .lsh, .reg .prf, .reg .eng, .reg .csf, .reg .fbk, .reg .pwm, .reg .knl, .reg .que, .reg .acq, .reg .rng, .reg .tim, .reg .dio, .reg .saf, .reg .err, .fresh, .sets, .clk, .bulk, .bus, .log, .knl, .que, .boot, .axes, .lim, .prf, .eng, .pwm, .drn, .shp, .csf, .ports, .probes, .acq, .ring, .dio, .saf, .svc] s t := by
  have hm := within_refl [.reg .cfg, .reg .lsh, .reg .prf, .reg .eng, .reg .csf, .reg .fbk, .reg .pwm, .reg .knl, .reg .que, .reg .acq, .reg .rng, .reg .tim, .reg .dio, .reg .saf, .reg .err, .fresh, .sets, .clk, .bulk, .bus, .log, .knl, .que, .boot, .axes, .lim, .prf, .eng, .pwm, .drn, .shp, .csf, .ports, .probes, .acq, .ring, .dio, .saf, .svc]
  have h := Keeps.refl [.reg .cfg, .reg .lsh, .reg .prf, .reg .eng, .reg .csf, .reg .fbk, .reg .pwm, .reg .knl, .reg .que, .reg .acq, .reg .rng, .reg .tim, .reg .dio, .reg .saf, .reg .err, .fresh, .sets, .clk, .bulk, .bus, .log, .knl, .que, .boot, .axes, .lim, .prf, .eng, .pwm, .drn, .shp, .csf, .ports, .probes, .acq, .ring, .dio, .saf, .svc] s
  simp only [execWithdraw, Host.Outcome.next.injEq] at e
  subst e
  repeat' with_reducible first
    | exact h
    | refine keeps_ite (fun _ => ?_) (fun _ => ?_)
    | refine State.datagram_keeps ?_ (within_trans hm (by decide))
    | refine State.elapse_keeps ?_ (within_trans hm (by decide))
    | refine keeps_pair (by assumption) ?_
    | split

theorem execClearlog_keeps {dt ip port udp f mramOk} {t} (e : execClearlog dt ip port udp f mramOk s = .next t) : Keeps [.reg .cfg, .reg .lsh, .reg .prf, .reg .eng, .reg .csf, .reg .fbk, .reg .pwm, .reg .knl, .reg .que, .reg .acq, .reg .rng, .reg .tim, .reg .dio, .reg .saf, .reg .err, .fresh, .sets, .clk, .bulk, .bus, .log, .knl, .que, .boot, .axes, .lim, .prf, .eng, .pwm, .drn, .shp, .csf, .ports, .probes, .acq, .ring, .dio, .saf, .svc] s t := by
  have hm := within_refl [.reg .cfg, .reg .lsh, .reg .prf, .reg .eng, .reg .csf, .reg .fbk, .reg .pwm, .reg .knl, .reg .que, .reg .acq, .reg .rng, .reg .tim, .reg .dio, .reg .saf, .reg .err, .fresh, .sets, .clk, .bulk, .bus, .log, .knl, .que, .boot, .axes, .lim, .prf, .eng, .pwm, .drn, .shp, .csf, .ports, .probes, .acq, .ring, .dio, .saf, .svc]
  have h := Keeps.refl [.reg .cfg, .reg .lsh, .reg .prf, .reg .eng, .reg .csf, .reg .fbk, .reg .pwm, .reg .knl, .reg .que, .reg .acq, .reg .rng, .reg .tim, .reg .dio, .reg .saf, .reg .err, .fresh, .sets, .clk, .bulk, .bus, .log, .knl, .que, .boot, .axes, .lim, .prf, .eng, .pwm, .drn, .shp, .csf, .ports, .probes, .acq, .ring, .dio, .saf, .svc] s
  simp only [execClearlog, Host.Outcome.next.injEq] at e
  subst e
  repeat' with_reducible first
    | exact h
    | refine keeps_ite (fun _ => ?_) (fun _ => ?_)
    | refine State.datagram_keeps ?_ (within_trans hm (by decide))
    | refine State.elapse_keeps ?_ (within_trans hm (by decide))
    | refine keeps_pair (by assumption) ?_
    | split

theorem execRestart_keeps {dt ip port udp f qvsel clksel test} {t} (e : execRestart dt ip port udp f qvsel clksel test s = .next t) : Keeps [.reg .cfg, .reg .lsh, .reg .prf, .reg .eng, .reg .csf, .reg .fbk, .reg .pwm, .reg .knl, .reg .que, .reg .acq, .reg .rng, .reg .tim, .reg .dio, .reg .saf, .reg .err, .fresh, .sets, .clk, .bulk, .bus, .log, .knl, .que, .boot, .pow, .axes, .lim, .prf, .eng, .pwm, .drn, .ine, .shp, .csf, .ports, .probes, .menc, .acq, .ring, .tim, .dio, .saf, .svc] s t := by
  have hm := within_refl [.reg .cfg, .reg .lsh, .reg .prf, .reg .eng, .reg .csf, .reg .fbk, .reg .pwm, .reg .knl, .reg .que, .reg .acq, .reg .rng, .reg .tim, .reg .dio, .reg .saf, .reg .err, .fresh, .sets, .clk, .bulk, .bus, .log, .knl, .que, .boot, .pow, .axes, .lim, .prf, .eng, .pwm, .drn, .ine, .shp, .csf, .ports, .probes, .menc, .acq, .ring, .tim, .dio, .saf, .svc]
  have h := Keeps.refl [.reg .cfg, .reg .lsh, .reg .prf, .reg .eng, .reg .csf, .reg .fbk, .reg .pwm, .reg .knl, .reg .que, .reg .acq, .reg .rng, .reg .tim, .reg .dio, .reg .saf, .reg .err, .fresh, .sets, .clk, .bulk, .bus, .log, .knl, .que, .boot, .pow, .axes, .lim, .prf, .eng, .pwm, .drn, .ine, .shp, .csf, .ports, .probes, .menc, .acq, .ring, .tim, .dio, .saf, .svc] s
  simp only [execRestart, Host.Outcome.next.injEq] at e
  subst e
  repeat' with_reducible first
    | exact h
    | refine keeps_ite (fun _ => ?_) (fun _ => ?_)
    | refine State.elapse_keeps ?_ (within_trans hm (by decide))
    | refine State.datagram_keeps ?_ (within_trans hm (by decide))
    | refine State.restart_keeps ?_ (within_trans hm (by decide))
    | refine keeps_getD (fun _ _ => ?_) ?_
    | refine keeps_pair (by assumption) ?_
    | split

theorem execArpRequest_keeps {dt target} {t} (e : execArpRequest dt target s = .next t) : Keeps [.sets, .clk, .svc] s t := by
  have hm := within_refl [.sets, .clk, .svc]
  have h := Keeps.refl [.sets, .clk, .svc] s
  simp only [execArpRequest, Host.Outcome.next.injEq] at e
  subst e
  repeat' with_reducible first
    | exact h
    | refine keeps_ite (fun _ => ?_) (fun _ => ?_)
    | refine State.netAnswer_keeps ?_ (within_trans hm (by decide))
    | refine State.elapse_keeps ?_ (within_trans hm (by decide))
    | refine keeps_pair (by assumption) ?_
    | split

theorem execIcmpEcho_keeps {dt target frag data} {t} (e : execIcmpEcho dt target frag data s = .next t) : Keeps [.reg .err, .sets, .clk, .svc] s t := by
  have hm := within_refl [.reg .err, .sets, .clk, .svc]
  have h := Keeps.refl [.reg .err, .sets, .clk, .svc] s
  simp only [execIcmpEcho, Host.Outcome.next.injEq] at e
  subst e
  repeat' with_reducible first
    | exact h
    | refine keeps_ite (fun _ => ?_) (fun _ => ?_)
    | refine State.elapse_keeps ?_ (within_trans hm (by decide))
    | refine State.satBump_keeps (by first | exact SVC_STAT_BAD_blk ..) ?_ (within_trans hm (by decide))
    | refine State.netAnswer_keeps ?_ (within_trans hm (by decide))
    | refine keeps_pair (by assumption) ?_
    | split

theorem execBypass_keeps {dt} {t} (e : execBypass dt s = .next t) : Keeps [.fresh, .sets, .clk, .jtag] s t := by
  have hm := within_refl [.fresh, .sets, .clk, .jtag]
  have h := Keeps.refl [.fresh, .sets, .clk, .jtag] s
  simp only [execBypass, Host.Outcome.next.injEq] at e
  subst e
  repeat' with_reducible first
    | exact h
    | refine keeps_ite (fun _ => ?_) (fun _ => ?_)
    | refine State.scan_keeps ?_ (within_trans hm (by decide))
    | refine State.elapse_keeps ?_ (within_trans hm (by decide))
    | refine keeps_pair (by assumption) ?_
    | split

theorem execIdcode_keeps {dt} {t} (e : execIdcode dt s = .next t) : Keeps [.fresh, .sets, .clk, .jtag] s t := by
  have hm := within_refl [.fresh, .sets, .clk, .jtag]
  have h := Keeps.refl [.fresh, .sets, .clk, .jtag] s
  simp only [execIdcode, Host.Outcome.next.injEq] at e
  subst e
  repeat' with_reducible first
    | exact h
    | refine keeps_ite (fun _ => ?_) (fun _ => ?_)
    | refine State.scan_keeps ?_ (within_trans hm (by decide))
    | refine State.elapse_keeps ?_ (within_trans hm (by decide))
    | refine keeps_pair (by assumption) ?_
    | split

theorem execSamplePreload_keeps {dt shift} {t} (e : execSamplePreload dt shift s = .next t) : Keeps [.fresh, .sets, .clk, .jtag] s t := by
  have hm := within_refl [.fresh, .sets, .clk, .jtag]
  have h := Keeps.refl [.fresh, .sets, .clk, .jtag] s
  simp only [execSamplePreload, Host.Outcome.next.injEq] at e
  subst e
  repeat' with_reducible first
    | exact h
    | refine keeps_ite (fun _ => ?_) (fun _ => ?_)
    | refine State.scan_keeps ?_ (within_trans hm (by decide))
    | refine State.elapse_keeps ?_ (within_trans hm (by decide))
    | refine keeps_pair (by assumption) ?_
    | split

theorem execExtest_keeps {dt shift} {t} (e : execExtest dt shift s = .next t) : Keeps [.fresh, .sets, .clk, .jtag] s t := by
  have hm := within_refl [.fresh, .sets, .clk, .jtag]
  have h := Keeps.refl [.fresh, .sets, .clk, .jtag] s
  simp only [execExtest, Host.Outcome.next.injEq] at e
  subst e
  repeat' with_reducible first
    | exact h
    | refine keeps_ite (fun _ => ?_) (fun _ => ?_)
    | refine State.scan_keeps ?_ (within_trans hm (by decide))
    | refine State.elapse_keeps ?_ (within_trans hm (by decide))
    | refine keeps_pair (by assumption) ?_
    | split

/-! ### RingSuper -/

theorem State.svIdent_keeps {seq b} (h : Keeps m s0 s) (hm : within [.ring] m = true) : Keeps m s0 (State.svIdent seq b s) := by
  unfold State.svIdent
  try dsimp only
  repeat' with_reducible first
    | exact h
    | refine keeps_ite (fun _ => ?_) (fun _ => ?_)
    | refine State.onRing_keeps ?_ (within_trans hm (by decide))
    | refine State.svReply_keeps ?_ (within_trans hm (by decide))
    | refine keeps_getD (fun _ _ => ?_) ?_
    | refine keeps_pair (by assumption) ?_
    | split

theorem State.withBlock_keeps {n b} (h : Keeps m s0 s) (hm : within [.bulk] m = true) : Keeps m s0 (State.withBlock n b s) := by
  unfold State.withBlock
  try dsimp only
  repeat' with_reducible first
    | exact h
    | refine keeps_ite (fun _ => ?_) (fun _ => ?_)
    | refine State.bulkStore_keeps ?_ (within_trans hm (by decide))
    | refine keeps_pair (by assumption) ?_
    | split

theorem State.svParam_keeps {seq b} (h : Keeps m s0 s) (hm : within [.reg .prf, .bulk, .lim, .ring] m = true) : Keeps m s0 (State.svParam seq b s) := by
  unfold State.svParam
  try dsimp only
  repeat' with_reducible first
    | exact h
    | refine keeps_ite (fun _ => ?_) (fun _ => ?_)
    | refine State.svReply_keeps ?_ (within_trans hm (by decide))
    | refine State.onRing_keeps ?_ (within_trans hm (by decide))
    | refine State.commitRequest_keeps ?_ (within_trans hm (by decide))
    | refine State.withBlock_keeps ?_ (within_trans hm (by decide))
    | refine State.put_keeps (by first | exact PRF_TCST_ENTRY_blk .. | exact PRF_TCST_RESULT_blk .. | (refine blk_ite ?_ ?_ <;> first | exact PRF_TCST_ENTRY_blk .. | exact PRF_TCST_RESULT_blk ..)) ?_ (within_trans hm (by decide))
    | refine keeps_foldl ?_ _ ?_
    | refine keeps_foldl_snd ?_ _ ?_
    | (intro _ _ h; try dsimp only)
    | refine keeps_pair (by assumption) ?_
    | split

theorem State.svService_keeps {seq f} (h : Keeps m s0 s) (hm : within [.reg .cfg, .reg .lsh, .reg .prf, .reg .eng, .reg .csf, .reg .fbk, .reg .pwm, .reg .knl, .reg .que, .reg .acq, .reg .rng, .reg .tim, .reg .dio, .reg .saf, .reg .err, .fresh, .sets, .clk, .bulk, .bus, .log, .knl, .que, .boot, .axes, .lim, .prf, .eng, .pwm, .drn, .shp, .csf, .ports, .probes, .acq, .ring, .dio, .saf, .svc] m = true) : Keeps m s0 (State.svService seq f s) := by
  unfold State.svService
  try dsimp only
  repeat' with_reducible first
    | exact h
    | refine keeps_ite (fun _ => ?_) (fun _ => ?_)
    | refine State.satBump_keeps (by first | exact SVC_STAT_BAD_blk ..) ?_ (within_trans hm (by decide))
    | refine State.svReply_keeps ?_ (within_trans hm (by decide))
    | refine State.serve_keeps ?_ (within_trans hm (by decide))
    | refine keeps_pair (by assumption) ?_
    | split

theorem State.svFault_keeps {seq b} (h : Keeps m s0 s) (hm : within [.ring] m = true) : Keeps m s0 (State.svFault seq b s) := by
  unfold State.svFault
  try dsimp only
  repeat' with_reducible first
    | exact h
    | refine keeps_ite (fun _ => ?_) (fun _ => ?_)
    | refine State.svReply_keeps ?_ (within_trans hm (by decide))
    | refine keeps_pair (by assumption) ?_
    | split

theorem State.svExecute_keeps {ty seq b} (h : Keeps m s0 s) (hm : within [.reg .cfg, .reg .lsh, .reg .prf, .reg .eng, .reg .csf, .reg .fbk, .reg .pwm, .reg .knl, .reg .que, .reg .acq, .reg .rng, .reg .tim, .reg .dio, .reg .saf, .reg .err, .fresh, .sets, .clk, .bulk, .bus, .log, .knl, .que, .boot, .axes, .lim, .prf, .eng, .pwm, .drn, .shp, .csf, .ports, .probes, .acq, .ring, .dio, .saf, .svc] m = true) : Keeps m s0 (State.svExecute ty seq b s) := by
  unfold State.svExecute
  try dsimp only
  repeat' with_reducible first
    | exact h
    | refine keeps_ite (fun _ => ?_) (fun _ => ?_)
    | refine State.svIdent_keeps ?_ (within_trans hm (by decide))
    | refine State.svParam_keeps ?_ (within_trans hm (by decide))
    | refine State.svReply_keeps ?_ (within_trans hm (by decide))
    | refine State.onRing_keeps ?_ (within_trans hm (by decide))
    | refine State.svService_keeps ?_ (within_trans hm (by decide))
    | refine State.svFault_keeps ?_ (within_trans hm (by decide))
    | refine keeps_pair (by assumption) ?_
    | split

theorem State.svAgain_keeps {ty seq} {t} (e : State.svAgain ty seq s = some t) (h : Keeps m s0 s) (hm : within [.ring] m = true) : Keeps m s0 t := by
  unfold State.svAgain at e
  repeat' (first | split at e | (simp only [Option.some.injEq, reduceCtorEq] at e) | (obtain ⟨_, _, rfl⟩ := Option.map_eq_some_iff.1 e) | (subst e))
  all_goals try contradiction
  all_goals try dsimp only
  repeat' with_reducible first
    | exact h
    | refine keeps_ite (fun _ => ?_) (fun _ => ?_)
    | refine State.onRing_keeps ?_ (within_trans hm (by decide))
    | refine keeps_pair (by assumption) ?_
    | split

theorem State.replyGiven_keeps {d} (h : Keeps m s0 s) (hm : within [.ring] m = true) : Keeps m s0 (State.replyGiven d s) := by
  unfold State.replyGiven
  try dsimp only
  repeat' with_reducible first
    | exact h
    | refine keeps_ite (fun _ => ?_) (fun _ => ?_)
    | refine State.onRing_keeps ?_ (within_trans hm (by decide))
    | refine keeps_pair (by assumption) ?_
    | split

theorem State.restartIf_keeps {r} (h : Keeps m s0 s) (hm : within [.reg .cfg, .reg .lsh, .reg .prf, .reg .eng, .reg .csf, .reg .fbk, .reg .pwm, .reg .knl, .reg .que, .reg .acq, .reg .rng, .reg .tim, .reg .dio, .reg .saf, .reg .err, .fresh, .sets, .clk, .bulk, .bus, .log, .knl, .que, .boot, .pow, .axes, .lim, .prf, .eng, .pwm, .drn, .ine, .shp, .csf, .ports, .probes, .menc, .acq, .ring, .tim, .dio, .saf, .svc] m = true) : Keeps m s0 (State.restartIf r s) := by
  unfold State.restartIf
  try dsimp only
  repeat' with_reducible first
    | exact h
    | refine keeps_ite (fun _ => ?_) (fun _ => ?_)
    | refine State.restart_keeps ?_ (within_trans hm (by decide))
    | refine State.onRing_keeps ?_ (within_trans hm (by decide))
    | refine keeps_pair (by assumption) ?_
    | split

theorem State.svTake_keeps {d} (h : Keeps m s0 s) (hm : within [.reg .cfg, .reg .lsh, .reg .prf, .reg .eng, .reg .csf, .reg .fbk, .reg .pwm, .reg .knl, .reg .que, .reg .acq, .reg .rng, .reg .tim, .reg .dio, .reg .saf, .reg .err, .fresh, .sets, .clk, .bulk, .bus, .log, .knl, .que, .boot, .pow, .axes, .lim, .prf, .eng, .pwm, .drn, .ine, .shp, .csf, .ports, .probes, .menc, .acq, .ring, .tim, .dio, .saf, .svc] m = true) : Keeps m s0 (State.svTake d s) := by
  unfold State.svTake
  try dsimp only
  repeat' with_reducible first
    | exact h
    | refine keeps_ite (fun _ => ?_) (fun _ => ?_)
    | refine State.replyGiven_keeps ?_ (within_trans hm (by decide))
    | refine State.svAgain_keeps (by assumption) ?_ (within_trans hm (by decide))
    | refine State.svDeliver_keeps ?_ (within_trans hm (by decide))
    | refine State.svExecute_keeps ?_ (within_trans hm (by decide))
    | refine State.onRing_keeps ?_ (within_trans hm (by decide))
    | refine State.restartIf_keeps ?_ (within_trans hm (by decide))
    | (rename_i e; split at e; contradiction)
    | refine keeps_pair (by assumption) ?_
    | split

theorem State.supervisory_keeps {mine p ok d} (h : Keeps m s0 s) (hm : within [.reg .cfg, .reg .lsh, .reg .prf, .reg .eng, .reg .csf, .reg .fbk, .reg .pwm, .reg .knl, .reg .que, .reg .acq, .reg .rng, .reg .tim, .reg .dio, .reg .saf, .reg .err, .fresh, .sets, .clk, .bulk, .bus, .log, .knl, .que, .boot, .pow, .axes, .lim, .prf, .eng, .pwm, .drn, .ine, .shp, .csf, .ports, .probes, .menc, .acq, .ring, .tim, .dio, .saf, .svc] m = true) : Keeps m s0 (State.supervisory mine p ok d s) := by
  unfold State.supervisory
  try dsimp only
  repeat' with_reducible first
    | exact h
    | refine keeps_ite (fun _ => ?_) (fun _ => ?_)
    | refine State.svRequest_keeps ?_ (within_trans hm (by decide))
    | refine State.memberFrame_keeps (fun _ h => ?_) ?_ (within_trans hm (by decide))
    | refine State.svTake_keeps ?_ (within_trans hm (by decide))
    | (dsimp only [id]; exact h)
    | refine keeps_pair (by assumption) ?_
    | split

theorem State.identReply_keeps {m' b} (h : Keeps m s0 s) (hm : within [.reg .prf, .reg .eng, .reg .csf, .reg .fbk, .reg .pwm, .reg .knl, .reg .que, .reg .rng, .reg .dio, .reg .err, .sets, .bulk, .log, .knl, .que, .axes, .prf, .pwm, .probes, .ring] m = true) : Keeps m s0 (State.identReply m' b s) := by
  unfold State.identReply
  try dsimp only
  repeat' with_reducible first
    | exact h
    | refine keeps_ite (fun _ => ?_) (fun _ => ?_)
    | refine State.wrs_cons ?_
    | refine State.wrs_nil ?_
    | refine State.wr_keeps (by first | exact RNG_MBC_blk .. | exact whole_blk (RNG_MBC_blk ..) | exact RNG_MID_blk .. | exact whole_blk (RNG_MID_blk ..) | exact RNG_MPC_blk .. | exact whole_blk (RNG_MPC_blk ..) | (refine blk_ite ?_ ?_ <;> first | exact RNG_MBC_blk .. | exact whole_blk (RNG_MBC_blk ..) | exact RNG_MID_blk .. | exact whole_blk (RNG_MID_blk ..) | exact RNG_MPC_blk .. | exact whole_blk (RNG_MPC_blk ..))) ?_ (within_trans hm (by decide))
    | refine State.quarantine_keeps ?_ (within_trans hm (by decide))
    | refine State.memberParam_keeps ?_ (within_trans hm (by decide))
    | refine State.memberRun_keeps ?_ (within_trans hm (by decide))
    | refine keeps_pair (by assumption) ?_
    | split

theorem State.paramReply_keeps {m' k stat pcrc} (h : Keeps m s0 s) (hm : within [.reg .prf, .reg .eng, .reg .csf, .reg .fbk, .reg .pwm, .reg .knl, .reg .que, .reg .rng, .reg .dio, .reg .err, .sets, .bulk, .log, .knl, .que, .axes, .prf, .pwm, .probes, .ring] m = true) : Keeps m s0 (State.paramReply m' k stat pcrc s) := by
  unfold State.paramReply
  try dsimp only
  repeat' with_reducible first
    | exact h
    | refine keeps_ite (fun _ => ?_) (fun _ => ?_)
    | refine State.quarantine_keeps ?_ (within_trans hm (by decide))
    | refine State.onRingMem_keeps ?_ (within_trans hm (by decide))
    | refine State.wr_keeps (by first | exact RNG_MPC_blk .. | exact whole_blk (RNG_MPC_blk ..)) ?_ (within_trans hm (by decide))
    | refine State.onAxis_keeps ?_ (within_trans hm (by decide))
    | refine State.memberRun_keeps ?_ (within_trans hm (by decide))
    | refine keeps_pair (by assumption) ?_
    | split

theorem State.answered_keeps {m' q d} (h : Keeps m s0 s) (hm : within [.reg .prf, .reg .eng, .reg .csf, .reg .fbk, .reg .pwm, .reg .knl, .reg .que, .reg .rng, .reg .dio, .reg .err, .sets, .bulk, .log, .knl, .que, .axes, .prf, .pwm, .probes, .ring] m = true) : Keeps m s0 (State.answered m' q d s) := by
  unfold State.answered
  try dsimp only
  repeat' with_reducible first
    | exact h
    | refine keeps_ite (fun _ => ?_) (fun _ => ?_)
    | refine State.identReply_keeps ?_ (within_trans hm (by decide))
    | refine State.paramReply_keeps ?_ (within_trans hm (by decide))
    | refine State.stageAck_keeps ?_ (within_trans hm (by decide))
    | refine keeps_pair (by assumption) ?_
    | split

theorem State.supervisoryReply_keeps {d} (h : Keeps m s0 s) (hm : within [.reg .prf, .reg .eng, .reg .csf, .reg .fbk, .reg .pwm, .reg .knl, .reg .que, .reg .rng, .reg .dio, .reg .err, .fresh, .sets, .bulk, .log, .knl, .que, .axes, .prf, .pwm, .probes, .ring] m = true) : Keeps m s0 (State.supervisoryReply d s) := by
  unfold State.supervisoryReply
  try dsimp only
  repeat' with_reducible first
    | exact h
    | refine keeps_ite (fun _ => ?_) (fun _ => ?_)
    | refine State.svDeliver_keeps ?_ (within_trans hm (by decide))
    | refine State.answered_keeps ?_ (within_trans hm (by decide))
    | refine State.onRingMem_keeps ?_ (within_trans hm (by decide))
    | refine keeps_pair (by assumption) ?_
    | split

theorem State.supervisoryRetry_keeps {m'} (h : Keeps m s0 s) (hm : within [.reg .rng, .ring] m = true) : Keeps m s0 (State.supervisoryRetry m' s) := by
  unfold State.supervisoryRetry
  try dsimp only
  repeat' with_reducible first
    | exact h
    | refine keeps_ite (fun _ => ?_) (fun _ => ?_)
    | refine State.onRingMem_keeps ?_ (within_trans hm (by decide))
    | refine State.satBump_keeps (by first | exact RNG_MST_SVTO_blk ..) ?_ (within_trans hm (by decide))
    | refine keeps_pair (by assumption) ?_
    | split

theorem execPoll_keeps {dt p ok d} {t} (e : execPoll dt p ok d s = .next t) : Keeps [.reg .cfg, .reg .lsh, .reg .prf, .reg .eng, .reg .csf, .reg .fbk, .reg .pwm, .reg .knl, .reg .que, .reg .acq, .reg .rng, .reg .tim, .reg .dio, .reg .saf, .reg .err, .fresh, .sets, .clk, .bulk, .bus, .log, .knl, .que, .boot, .pow, .axes, .lim, .prf, .eng, .pwm, .drn, .ine, .shp, .csf, .ports, .probes, .menc, .acq, .ring, .tim, .dio, .saf, .svc] s t := by
  have hm := within_refl [.reg .cfg, .reg .lsh, .reg .prf, .reg .eng, .reg .csf, .reg .fbk, .reg .pwm, .reg .knl, .reg .que, .reg .acq, .reg .rng, .reg .tim, .reg .dio, .reg .saf, .reg .err, .fresh, .sets, .clk, .bulk, .bus, .log, .knl, .que, .boot, .pow, .axes, .lim, .prf, .eng, .pwm, .drn, .ine, .shp, .csf, .ports, .probes, .menc, .acq, .ring, .tim, .dio, .saf, .svc]
  have h := Keeps.refl [.reg .cfg, .reg .lsh, .reg .prf, .reg .eng, .reg .csf, .reg .fbk, .reg .pwm, .reg .knl, .reg .que, .reg .acq, .reg .rng, .reg .tim, .reg .dio, .reg .saf, .reg .err, .fresh, .sets, .clk, .bulk, .bus, .log, .knl, .que, .boot, .pow, .axes, .lim, .prf, .eng, .pwm, .drn, .ine, .shp, .csf, .ports, .probes, .menc, .acq, .ring, .tim, .dio, .saf, .svc] s
  simp only [execPoll, Host.Outcome.next.injEq] at e
  subst e
  repeat' with_reducible first
    | exact h
    | refine keeps_ite (fun _ => ?_) (fun _ => ?_)
    | refine State.supervisory_keeps ?_ (within_trans hm (by decide))
    | refine State.elapse_keeps ?_ (within_trans hm (by decide))
    | refine keeps_pair (by assumption) ?_
    | split

theorem execIdent_keeps {dt p ok d} {t} (e : execIdent dt p ok d s = .next t) : Keeps [.reg .cfg, .reg .lsh, .reg .prf, .reg .eng, .reg .csf, .reg .fbk, .reg .pwm, .reg .knl, .reg .que, .reg .acq, .reg .rng, .reg .tim, .reg .dio, .reg .saf, .reg .err, .fresh, .sets, .clk, .bulk, .bus, .log, .knl, .que, .boot, .pow, .axes, .lim, .prf, .eng, .pwm, .drn, .ine, .shp, .csf, .ports, .probes, .menc, .acq, .ring, .tim, .dio, .saf, .svc] s t := by
  have hm := within_refl [.reg .cfg, .reg .lsh, .reg .prf, .reg .eng, .reg .csf, .reg .fbk, .reg .pwm, .reg .knl, .reg .que, .reg .acq, .reg .rng, .reg .tim, .reg .dio, .reg .saf, .reg .err, .fresh, .sets, .clk, .bulk, .bus, .log, .knl, .que, .boot, .pow, .axes, .lim, .prf, .eng, .pwm, .drn, .ine, .shp, .csf, .ports, .probes, .menc, .acq, .ring, .tim, .dio, .saf, .svc]
  have h := Keeps.refl [.reg .cfg, .reg .lsh, .reg .prf, .reg .eng, .reg .csf, .reg .fbk, .reg .pwm, .reg .knl, .reg .que, .reg .acq, .reg .rng, .reg .tim, .reg .dio, .reg .saf, .reg .err, .fresh, .sets, .clk, .bulk, .bus, .log, .knl, .que, .boot, .pow, .axes, .lim, .prf, .eng, .pwm, .drn, .ine, .shp, .csf, .ports, .probes, .menc, .acq, .ring, .tim, .dio, .saf, .svc] s
  simp only [execIdent, Host.Outcome.next.injEq] at e
  subst e
  repeat' with_reducible first
    | exact h
    | refine keeps_ite (fun _ => ?_) (fun _ => ?_)
    | refine State.supervisory_keeps ?_ (within_trans hm (by decide))
    | refine State.elapse_keeps ?_ (within_trans hm (by decide))
    | refine keeps_pair (by assumption) ?_
    | split

theorem execParam_keeps {dt p ok d} {t} (e : execParam dt p ok d s = .next t) : Keeps [.reg .cfg, .reg .lsh, .reg .prf, .reg .eng, .reg .csf, .reg .fbk, .reg .pwm, .reg .knl, .reg .que, .reg .acq, .reg .rng, .reg .tim, .reg .dio, .reg .saf, .reg .err, .fresh, .sets, .clk, .bulk, .bus, .log, .knl, .que, .boot, .pow, .axes, .lim, .prf, .eng, .pwm, .drn, .ine, .shp, .csf, .ports, .probes, .menc, .acq, .ring, .tim, .dio, .saf, .svc] s t := by
  have hm := within_refl [.reg .cfg, .reg .lsh, .reg .prf, .reg .eng, .reg .csf, .reg .fbk, .reg .pwm, .reg .knl, .reg .que, .reg .acq, .reg .rng, .reg .tim, .reg .dio, .reg .saf, .reg .err, .fresh, .sets, .clk, .bulk, .bus, .log, .knl, .que, .boot, .pow, .axes, .lim, .prf, .eng, .pwm, .drn, .ine, .shp, .csf, .ports, .probes, .menc, .acq, .ring, .tim, .dio, .saf, .svc]
  have h := Keeps.refl [.reg .cfg, .reg .lsh, .reg .prf, .reg .eng, .reg .csf, .reg .fbk, .reg .pwm, .reg .knl, .reg .que, .reg .acq, .reg .rng, .reg .tim, .reg .dio, .reg .saf, .reg .err, .fresh, .sets, .clk, .bulk, .bus, .log, .knl, .que, .boot, .pow, .axes, .lim, .prf, .eng, .pwm, .drn, .ine, .shp, .csf, .ports, .probes, .menc, .acq, .ring, .tim, .dio, .saf, .svc] s
  simp only [execParam, Host.Outcome.next.injEq] at e
  subst e
  repeat' with_reducible first
    | exact h
    | refine keeps_ite (fun _ => ?_) (fun _ => ?_)
    | refine State.supervisory_keeps ?_ (within_trans hm (by decide))
    | refine State.elapse_keeps ?_ (within_trans hm (by decide))
    | refine keeps_pair (by assumption) ?_
    | split

theorem execDiscard_keeps {dt p ok d} {t} (e : execDiscard dt p ok d s = .next t) : Keeps [.reg .cfg, .reg .lsh, .reg .prf, .reg .eng, .reg .csf, .reg .fbk, .reg .pwm, .reg .knl, .reg .que, .reg .acq, .reg .rng, .reg .tim, .reg .dio, .reg .saf, .reg .err, .fresh, .sets, .clk, .bulk, .bus, .log, .knl, .que, .boot, .pow, .axes, .lim, .prf, .eng, .pwm, .drn, .ine, .shp, .csf, .ports, .probes, .menc, .acq, .ring, .tim, .dio, .saf, .svc] s t := by
  have hm := within_refl [.reg .cfg, .reg .lsh, .reg .prf, .reg .eng, .reg .csf, .reg .fbk, .reg .pwm, .reg .knl, .reg .que, .reg .acq, .reg .rng, .reg .tim, .reg .dio, .reg .saf, .reg .err, .fresh, .sets, .clk, .bulk, .bus, .log, .knl, .que, .boot, .pow, .axes, .lim, .prf, .eng, .pwm, .drn, .ine, .shp, .csf, .ports, .probes, .menc, .acq, .ring, .tim, .dio, .saf, .svc]
  have h := Keeps.refl [.reg .cfg, .reg .lsh, .reg .prf, .reg .eng, .reg .csf, .reg .fbk, .reg .pwm, .reg .knl, .reg .que, .reg .acq, .reg .rng, .reg .tim, .reg .dio, .reg .saf, .reg .err, .fresh, .sets, .clk, .bulk, .bus, .log, .knl, .que, .boot, .pow, .axes, .lim, .prf, .eng, .pwm, .drn, .ine, .shp, .csf, .ports, .probes, .menc, .acq, .ring, .tim, .dio, .saf, .svc] s
  simp only [execDiscard, Host.Outcome.next.injEq] at e
  subst e
  repeat' with_reducible first
    | exact h
    | refine keeps_ite (fun _ => ?_) (fun _ => ?_)
    | refine State.supervisory_keeps ?_ (within_trans hm (by decide))
    | refine State.elapse_keeps ?_ (within_trans hm (by decide))
    | refine keeps_pair (by assumption) ?_
    | split

theorem execService_keeps {dt p ok d} {t} (e : execService dt p ok d s = .next t) : Keeps [.reg .cfg, .reg .lsh, .reg .prf, .reg .eng, .reg .csf, .reg .fbk, .reg .pwm, .reg .knl, .reg .que, .reg .acq, .reg .rng, .reg .tim, .reg .dio, .reg .saf, .reg .err, .fresh, .sets, .clk, .bulk, .bus, .log, .knl, .que, .boot, .pow, .axes, .lim, .prf, .eng, .pwm, .drn, .ine, .shp, .csf, .ports, .probes, .menc, .acq, .ring, .tim, .dio, .saf, .svc] s t := by
  have hm := within_refl [.reg .cfg, .reg .lsh, .reg .prf, .reg .eng, .reg .csf, .reg .fbk, .reg .pwm, .reg .knl, .reg .que, .reg .acq, .reg .rng, .reg .tim, .reg .dio, .reg .saf, .reg .err, .fresh, .sets, .clk, .bulk, .bus, .log, .knl, .que, .boot, .pow, .axes, .lim, .prf, .eng, .pwm, .drn, .ine, .shp, .csf, .ports, .probes, .menc, .acq, .ring, .tim, .dio, .saf, .svc]
  have h := Keeps.refl [.reg .cfg, .reg .lsh, .reg .prf, .reg .eng, .reg .csf, .reg .fbk, .reg .pwm, .reg .knl, .reg .que, .reg .acq, .reg .rng, .reg .tim, .reg .dio, .reg .saf, .reg .err, .fresh, .sets, .clk, .bulk, .bus, .log, .knl, .que, .boot, .pow, .axes, .lim, .prf, .eng, .pwm, .drn, .ine, .shp, .csf, .ports, .probes, .menc, .acq, .ring, .tim, .dio, .saf, .svc] s
  simp only [execService, Host.Outcome.next.injEq] at e
  subst e
  repeat' with_reducible first
    | exact h
    | refine keeps_ite (fun _ => ?_) (fun _ => ?_)
    | refine State.supervisory_keeps ?_ (within_trans hm (by decide))
    | refine State.elapse_keeps ?_ (within_trans hm (by decide))
    | refine keeps_pair (by assumption) ?_
    | split

theorem execFault_keeps {dt p ok d} {t} (e : execFault dt p ok d s = .next t) : Keeps [.reg .cfg, .reg .lsh, .reg .prf, .reg .eng, .reg .csf, .reg .fbk, .reg .pwm, .reg .knl, .reg .que, .reg .acq, .reg .rng, .reg .tim, .reg .dio, .reg .saf, .reg .err, .fresh, .sets, .clk, .bulk, .bus, .log, .knl, .que, .boot, .pow, .axes, .lim, .prf, .eng, .pwm, .drn, .ine, .shp, .csf, .ports, .probes, .menc, .acq, .ring, .tim, .dio, .saf, .svc] s t := by
  have hm := within_refl [.reg .cfg, .reg .lsh, .reg .prf, .reg .eng, .reg .csf, .reg .fbk, .reg .pwm, .reg .knl, .reg .que, .reg .acq, .reg .rng, .reg .tim, .reg .dio, .reg .saf, .reg .err, .fresh, .sets, .clk, .bulk, .bus, .log, .knl, .que, .boot, .pow, .axes, .lim, .prf, .eng, .pwm, .drn, .ine, .shp, .csf, .ports, .probes, .menc, .acq, .ring, .tim, .dio, .saf, .svc]
  have h := Keeps.refl [.reg .cfg, .reg .lsh, .reg .prf, .reg .eng, .reg .csf, .reg .fbk, .reg .pwm, .reg .knl, .reg .que, .reg .acq, .reg .rng, .reg .tim, .reg .dio, .reg .saf, .reg .err, .fresh, .sets, .clk, .bulk, .bus, .log, .knl, .que, .boot, .pow, .axes, .lim, .prf, .eng, .pwm, .drn, .ine, .shp, .csf, .ports, .probes, .menc, .acq, .ring, .tim, .dio, .saf, .svc] s
  simp only [execFault, Host.Outcome.next.injEq] at e
  subst e
  repeat' with_reducible first
    | exact h
    | refine keeps_ite (fun _ => ?_) (fun _ => ?_)
    | refine State.supervisory_keeps ?_ (within_trans hm (by decide))
    | refine State.elapse_keeps ?_ (within_trans hm (by decide))
    | refine keeps_pair (by assumption) ?_
    | split

theorem execSupervisoryReply_keeps {dt p ok d} {t} (e : execSupervisoryReply dt p ok d s = .next t) : Keeps [.reg .prf, .reg .eng, .reg .csf, .reg .fbk, .reg .pwm, .reg .knl, .reg .que, .reg .rng, .reg .dio, .reg .err, .fresh, .sets, .clk, .bulk, .log, .knl, .que, .axes, .prf, .pwm, .probes, .ring] s t := by
  have hm := within_refl [.reg .prf, .reg .eng, .reg .csf, .reg .fbk, .reg .pwm, .reg .knl, .reg .que, .reg .rng, .reg .dio, .reg .err, .fresh, .sets, .clk, .bulk, .log, .knl, .que, .axes, .prf, .pwm, .probes, .ring]
  have h := Keeps.refl [.reg .prf, .reg .eng, .reg .csf, .reg .fbk, .reg .pwm, .reg .knl, .reg .que, .reg .rng, .reg .dio, .reg .err, .fresh, .sets, .clk, .bulk, .log, .knl, .que, .axes, .prf, .pwm, .probes, .ring] s
  simp only [execSupervisoryReply, Host.Outcome.next.injEq] at e
  subst e
  repeat' with_reducible first
    | exact h
    | refine keeps_ite (fun _ => ?_) (fun _ => ?_)
    | refine State.masterFrame_keeps ?_ (within_trans hm (by decide))
    | refine State.elapse_keeps ?_ (within_trans hm (by decide))
    | refine State.supervisoryReply_keeps ?_ (within_trans hm (by decide))
    | refine keeps_pair (by assumption) ?_
    | split

theorem execSupervisoryRetry_keeps {dt m'} {t} (e : execSupervisoryRetry dt m' s = .next t) : Keeps [.reg .rng, .sets, .clk, .ring] s t := by
  have hm := within_refl [.reg .rng, .sets, .clk, .ring]
  have h := Keeps.refl [.reg .rng, .sets, .clk, .ring] s
  simp only [execSupervisoryRetry, Host.Outcome.next.injEq] at e
  subst e
  repeat' with_reducible first
    | exact h
    | refine keeps_ite (fun _ => ?_) (fun _ => ?_)
    | refine State.supervisoryRetry_keeps ?_ (within_trans hm (by decide))
    | refine State.elapse_keeps ?_ (within_trans hm (by decide))
    | refine keeps_pair (by assumption) ?_
    | split

end Sys2Proof.Machine
end

