-- ==== Sys2Proof/Machine/Lands.lean ====
section
/-! DEFINITION. What the 3256 does to each signal at its lands: unpowered, in reset, in manufacturing test and in operation (R44, R46, R48,
R50, R53, R56, R255, R464). -/

namespace Sys2Proof.Machine

/-- R44: the signals, by the names of the signal list. A pair of an encoder port is 0 A, 1 B or 2 Z. -/
inductive Land where
  | gh (n : Nat)
  | gl (n : Nat)
  | auxh (k : Nat)
  | auxl (k : Nat)
  | gena (g : Nat)
  | genb (g : Nat)
  | tripN (a : Nat)
  | sdd (c : Nat)
  | sdc (m : Nat)
  | enc (p pair : Nat)
  | prb (i : Nat)
  | ring (n : Nat)
  | svc
  | syncclk
  | wtrig (n : Nat)
  | qspi
  | qspiCsN
  | vqspi
  | tck
  | trstN
  | tms
  | tdi
  | tdo
  | resetN
  | pwrGood
  | xtal
  | strap
  | si (i : Nat)
  | so (k : Nat) (m : Bool)
  | srstIn
  | dio (c : Nat)
  deriving DecidableEq, Repr

/-- R44, R45, R50: what the module does to a land. -/
inductive Drive where
  /-- A passive 10 kΩ pull-down (R45). -/
  | pulledLow
  /-- A 50 kΩ pull-down or pull-up. -/
  | pullDown
  | pullUp
  /-- Driven to a level; an open-drain or 24 V output is driven low or left open. -/
  | low
  | high
  | notDriven
  /-- High impedance, or an open switch. -/
  | hiZ
  /-- Receivers on, transmitters off. -/
  | receive
  /-- A to B, with the PHYs disconnected (R52). -/
  | bypassed
  /-- A PHY, an oscillator or a supply that is off, and an oscillator that runs. -/
  | off
  | running
  /-- A supply, in mV. -/
  | volts (mv : Nat)
  /-- A clock of this period in ns. -/
  | clock (ns : Nat)
  /-- As its unit has it: an input it samples, or a bus whose traffic the model does not hold (R44). -/
  | unit
  deriving DecidableEq, Repr

/-- R50: VQSPI. -/
def Boot.vqspiDrive (b : Boot) : Drive :=
  match b.vqspi with
  | .off => .off
  | .initial => .volts 1800
  | .chosen q => .volts (if q then 3300 else 1800)

/-- R51: a DIO land: its field side has power of its own. -/
def State.dioLand (s : State) (c : Nat) : Drive := if (s.dch c).on then .high else .hiZ

/-- R44, the last column: VIN is absent. -/
def State.landUnpowered (s : State) : Land → Drive
  | .gh _ | .gl _ | .auxh _ | .auxl _ | .gena _ | .genb _ => .pulledLow
  | .tripN _ | .sdd _ | .prb _ | .tck | .trstN | .tms | .tdi | .resetN | .strap => .notDriven
  | .sdc _ | .enc _ _ | .svc | .syncclk | .wtrig _ | .qspi | .qspiCsN | .tdo => .hiZ
  | .ring _ => .bypassed
  | .vqspi | .xtal | .si _ | .srstIn => .off
  | .pwrGood => .low
  | .so _ _ => .hiZ
  | .dio c => s.dioLand c

/-- R48: PWR_GOOD, open drain. -/
def State.pwrGoodLand (s : State) : Drive := if s.boot.powerGood then .hiZ else .low

/-- R44: the part is held in reset. -/
def State.landInReset (s : State) : Land → Drive
  | .gh _ | .gl _ | .auxh _ | .auxl _ | .gena _ | .genb _ => .pulledLow
  | .tripN _ | .sdd _ | .prb _ | .tck | .trstN | .strap => .pullDown
  | .tms | .tdi | .resetN | .qspiCsN => .pullUp
  | .sdc _ => .low
  | .enc _ _ | .syncclk | .wtrig _ => .receive
  | .ring _ => .bypassed
  | .svc | .si _ | .srstIn => .off
  | .qspi | .tdo => .hiZ
  | .vqspi => s.boot.vqspiDrive
  | .pwrGood => s.pwrGoodLand
  | .xtal => .running
  | .so _ _ => .hiZ
  | .dio c => s.dioLand c

/-- R255, R303: a local entry in use, or a chopper, names modulator clock `m`. -/
def State.clockNamed (s : State) (m : Nat) : Bool :=
  ((List.range 32).any fun a => s.isLocal a && s.axSdClk a == m) ||
    (List.range 8).any fun k => s.flag (PWM_AUXCFG_EN k) && s.get (PWM_AUXCFG_SDC k) == m

/-- A level. -/
def driveOf (b : Bool) : Drive := if b then .high else .low

/-- R44, R46: the part runs: gates and gate enables are driven, low until a unit drives them high. -/
def State.landRunning (s : State) : Land → Drive
  | .gh n => driveOf (bit (s.gateNow (n / 3) (n % 3)) 1)
  | .gl n => driveOf (bit (s.gateNow (n / 3) (n % 3)) 0)
  | .auxh k => driveOf (bit (s.gateNow (32 + k) 0) 1)
  | .auxl k => driveOf (bit (s.gateNow (32 + k) 0) 0)
  | .gena g => driveOf (s.flag (SAF_GRP_GENAC g))
  | .genb g => driveOf (s.flag (SAF_GRP_GENBC g))
  | .tripN _ | .sdd _ | .prb _ | .tck | .trstN | .strap => .pullDown
  | .tms | .tdi | .resetN => .pullUp
  | .sdc m => if s.clockNamed m then .clock (s.get (CSF_SDC_TSD m)) else .low
  | .ring _ => if s.flag RNG_ST_BYP then .bypassed else .unit
  | .svc => if s.get CFG_STATE_STATE = 0xF then .off else .unit
  | .enc _ _ | .syncclk | .wtrig _ | .qspi | .qspiCsN | .tdo | .si _ | .srstIn => .unit
  | .vqspi => s.boot.vqspiDrive
  | .pwrGood => s.pwrGoodLand
  | .xtal => .running
  | .so k m => if s.switchOn k m then .high else .hiZ
  | .dio c => s.dioLand c

/-- R44: what the 3256 does to the land `l` now. -/
def State.land (s : State) (l : Land) : Drive :=
  if s.boot.vin = .absent then s.landUnpowered l
  else if s.boot.held ∨ s.boot.resetLow then s.landInReset l
  else s.landRunning l

end Sys2Proof.Machine
end

