-- ==== Sys2Proof/Tests/Slice0.lean ====
section
/-! SUPPORT. Tests: the WellFormed smoke test, and small tests of single steps. -/

namespace Sys2Proof.Tests

set_option Elab.async false
set_option maxRecDepth 20000
set_option linter.unusedVariables false

open Sys2Proof Sys2Proof.Machine

/-- An ill-formed command for each check, which the check refuses (R225, R231). -/
theorem test_wf_rep_count : (Instr.engRep 0 0 1).wf = false := by decide
theorem test_wf_rep_len : (Instr.engRep 0 1 0).wf = false := by decide
theorem test_wf_dmac : (Instr.engDmac 0 1 1 0 0 0 0 false false).wf = false := by decide
theorem test_wf_dmacm : (Instr.engDmacm 0 0 0 3 none 3 none false false).wf = false := by decide
theorem test_wf_sincos : (Instr.engSincos 0 4 4 0).wf = false := by decide
theorem test_wf_in : (Instr.engIn 0 0 0x09).wf = false := by decide
theorem test_wf_lin : (Instr.engLin 0 0 0x08).wf = false := by decide
theorem test_wf_out : (Instr.engOut 0 0x25 0).wf = false := by decide
theorem test_wf_lta : (Instr.engLta 0 0 0 (-17#6)).wf = false := by decide

/-- A state with these fields set, the rest as after reset. -/
def st (l : List (Fld × Nat)) : State := State.puts l State.reset

/-- The rows with a reset value that is not 0 are those of the register map (R6). -/
theorem test_resets : ((List.range 16).all fun i =>
    (regsOf ((0x10 + i) * 0x1000000)).filter (fun d => d.reset != 0) == resetsOf ((0x10 + i) * 0x1000000)) = true := by decide +kernel

/-- A header of bank image `seq`, with no records (R65). -/
def bankHeader (seq : Nat) : List Byte :=
  let h := leBytes 4 0x594C504F ++ leBytes 2 1 ++ leBytes 2 1 ++ leBytes 4 0x40 ++ leBytes 4 seq ++ leBytes 4 0x3256 ++ leBytes 4 0
    ++ leBytes 1 0xFF ++ leBytes 35 0
  h ++ leBytes 4 (crc32c h)

/-- The state with that image in bank `b` (R59). -/
def inBank (b seq : Nat) (s : State) : State := s.flashStore (0x100000 + 0xC00000 * b) (bankHeader seq)

/-- The part has begun its start sequence and stands in state `n` of it. -/
def starting (n : Nat) (s : State) : State := (s.put CFG_STATE_STATE n).onBoot fun b => { b with started := true }

/-- Bytes of committed axis entry `n` (R107, R110), with the table at its reset base. -/
def entry4 (n : Nat) (l : List (Nat × Byte)) (s : State) : State := l.foldl (fun s e => s.bulkPut (0x80140000 + 0x400 * n + e.1) e.2) s

def CT : CamTable := { camId := 4, payload := [] }
def LIM3 : MotLim := { c := 7, a := 7, d := 7, j := 7 }
def LIMB : List (Nat × Byte) := [(0x10, 1), (0x100, 7), (0x108, 7), (0x110, 7), (0x118, 7)]
def CT2 : CamTable := { camId := 4, payload := List.replicate 2 0x02#8 ++ [0, 0, 1, 0, 0, 0] ++ List.replicate 100 0#8 }
def SE : State := State.reset.onCx 5 fun c =>
  { c with d := [(1, 0x4000), (2, 0x9000), (3, 0x7FFF)], a := [(0, 0x0012345678), (1, 0xFFEDCB4000), (2, 0x7FFFFFFFFF)],
           l := [(1, 0x123456789ABC), (2, 0xFFFFFFFFFFFE)], p := [(1, 0x07F), (2, 0x101)], m := [(1, 0x00480002), (2, 0xFF080000)],
           mem := [(0x20, 7), (0x100, 0x8000), (0x101, 0x1234)], pc := 4, z := true }
def expB (v : BitVec 40) (e : Int) : Bool := (decide (v = 0 ∨ v = -1) && e == 30) || (List.range 39).any fun b => e == 30 - (b : Int) && v.getLsbD b != v.msb && (List.range 39).all fun k => k ≤ b || v.getLsbD k == v.msb

/-- The first `n` bytes of a SAFETY payload, zero but for these. -/
def safPay (n : Nat) (l : List (Nat × Byte)) : List Byte := l.foldl (fun p e => p.set e.1 e.2) (List.replicate n 0)

/-- The endpoint of the witnesses with its last SEQ and response. -/
def endOf (seq : Nat) (r : Option (List Byte)) (s : State) : State :=
  s.sv fun x => { x with ends := [{ who := { ip := 0x0A000007, port := 99 }, seq := seq, resp := r }] }

theorem wit_RegisterWrites_1 : ∃ (dt : Nat) (who : Accessor) (addr : BitVec 32) (value : BitVec 64) (d : RegDesc) (s : State), addr.toNat % 4 = 0 ∧ regDesc addr.toNat = some d ∧ d.part = .word ∧ (addr.toNat / 2 ^ 24 ≠ 0x1E ∨ who = .safety) ∧ d.rw ||| d.w1c ||| d.wo ||| (s.elapse dt).loadable who d addr.toNat ≠ 0 ∧ (s.elapse dt).writeBlock d who addr.toNat (value.toNat % 2 ^ 32) = none :=
  ⟨(3), (.core 1), (0x12000800), (7), (⟨0x12000800, 0x20, 64, 0x20, 1, 0xFFFFFF03, 0x0, 0x0, 0x0, 0x0, .word⟩), (State.reset), by decide +kernel⟩

theorem wit_RegisterWrites_2 : ∃ (dt : Nat) (who : Accessor) (addr : BitVec 32) (value : BitVec 64) (size : Fin 9) (s : State), inBulk addr.toNat = false ∧ ((size.val ≠ 4 ∨ addr.toNat % 4 ≠ 0)) :=
  ⟨(3), (.core 1), (0x18001016), (7), (4), (State.reset), by decide +kernel⟩

theorem wit_RegisterWrites_3 : ∃ (dt : Nat) (who : Accessor) (addr : BitVec 32) (value : BitVec 64) (s : State), inBulk addr.toNat = false ∧ addr.toNat / 2 ^ 24 = 0x1E ∧ who ≠ .safety :=
  ⟨(3), (.core 1), (0x1E000000), (7), (State.reset), by decide +kernel⟩

theorem wit_RegisterWrites_4 : ∃ (dt : Nat) (who : Accessor) (addr : BitVec 32) (value : BitVec 64) (s : State), inBulk addr.toNat = false ∧ regDesc addr.toNat = none :=
  ⟨(3), (.core 1), (0x10000F00), (7), (State.reset), by decide +kernel⟩

theorem wit_RegisterWrites_5 : ∃ (dt : Nat) (who : Accessor) (addr : BitVec 32) (value : BitVec 64) (d : RegDesc) (s : State), inBulk addr.toNat = false ∧ regDesc addr.toNat = some d ∧ d.rw ||| d.w1c ||| d.wo = 0 ∧ who ≠ .loader :=
  ⟨(3), (.core 1), (0x10000008), (7), (⟨0x10000008, 0x4, 1, 0x4, 1, 0x0, 0x0, 0xFF1000, 0x0, 0xFF000F, .word⟩), (State.reset), by decide +kernel⟩

theorem wit_WordPairs_1 : ∃ (dt : Nat) (who : Accessor) (addr : BitVec 32) (d : RegDesc) (s : State), addr.toNat % 4 = 0 ∧ regDesc addr.toNat = some d ∧ d.part = .low ∧ (addr.toNat / 2 ^ 24 = 0x12 ∨ addr.toNat / 2 ^ 24 = 0x11) ∧ s.shadowOf (accId who) addr.toNat = none ∧ d.wo = 0 :=
  ⟨(3), (.core 1), (0x11000108), (⟨0x11000108, 8, 1, 8, 1, 0xFFFFFFFF, 0, 0, 0, 0, .low⟩), (st [(whole 0x11000108, 5), (whole 0x1100010C, 6)]), by decide +kernel⟩

theorem wit_WordPairs_2 : ∃ (dt : Nat) (who : Accessor) (addr : BitVec 32) (d : RegDesc) (v : Word) (s : State), addr.toNat % 4 = 0 ∧ regDesc addr.toNat = some d ∧ d.part = .high ∧ (addr.toNat / 2 ^ 24 = 0x12 ∨ addr.toNat / 2 ^ 24 = 0x11) ∧ s.shadowOf (accId who) addr.toNat = some v :=
  ⟨(3), (.core 1), (0x1100010C), (⟨0x1100010C, 8, 1, 8, 1, 0xFFFFFFFF, 0, 0, 0, 0, .high⟩), (9), (State.reset.onBus fun b => { b with shadow := [(1, [⟨0x1100010C, 9⟩])] }), by decide +kernel⟩

theorem wit_WordPairs_3 : ∃ (dt : Nat) (who : Accessor) (addr : BitVec 32) (d : RegDesc) (s : State), addr.toNat % 4 = 0 ∧ regDesc addr.toNat = some d ∧ d.part = .high ∧ (addr.toNat / 2 ^ 24 = 0x12 ∨ addr.toNat / 2 ^ 24 = 0x11) ∧ d.wo = 0 ∧ s.shadowOf (accId who) addr.toNat = none :=
  ⟨(3), (.core 1), (0x1100010C), (⟨0x1100010C, 8, 1, 8, 1, 0xFFFFFFFF, 0, 0, 0, 0, .high⟩), (State.reset), by decide +kernel⟩

theorem wit_WordPairs_4 : ∃ (dt : Nat) (who : Accessor) (addr : BitVec 32) (value : BitVec 32) (d : RegDesc) (s : State), addr.toNat % 4 = 0 ∧ (addr.toNat / 2 ^ 24 ≠ 0x1E ∨ who = .safety) ∧ regDesc addr.toNat = some d ∧ d.part = .high ∧ d.rw ||| d.w1c ||| d.wo ≠ 0 :=
  ⟨(3), (.core 1), (0x1100010C), (77), (⟨0x1100010C, 8, 1, 8, 1, 0xFFFFFFFF, 0, 0, 0, 0, .high⟩), (State.reset), by decide +kernel⟩

theorem wit_BulkAccess_1 : ∃ (dt : Nat) (who : Accessor) (addr : BitVec 32) (value : BitVec 64) (size : Fin 9) (s : State), 0x80000000 ≤ addr.toNat ∧ addr.toNat + size.val ≤ 2 ^ 32 ∧ s.committedAt addr.toNat size = false :=
  ⟨(3), (.core 1), (0x90000001), (0x1122334455667788), (5), (State.reset), by decide +kernel⟩

theorem wit_BulkAccess_2 : ∃ (dt : Nat) (who : Accessor) (addr : BitVec 32) (size : Fin 9) (s : State), 0x80000000 ≤ addr.toNat ∧ addr.toNat + size.val ≤ 2 ^ 32 :=
  ⟨(3), (.core 1), (0x90000000), (4), (State.reset.bulkPut 0x90000001 7), by decide +kernel⟩

theorem wit_BulkAccess_3 : ∃ (dt : Nat) (who : Accessor) (addr : BitVec 32) (value : BitVec 64) (size : Fin 9) (s : State), 0x80000000 ≤ addr.toNat ∧ addr.toNat + size.val ≤ 2 ^ 32 ∧ s.committedAt addr.toNat size = true ∧ who ≠ .loader :=
  ⟨(3), (.core 1), (0x8014FFFF), (1), (2), (State.reset), by decide +kernel⟩

theorem wit_PowerStates_2 : ∃ (dt : Nat) (ix : Fin 31) (s : State), s.get (PWR_ISL_STATE ix) ≠ 0 :=
  ⟨(3), (4), (st [(PWR_ISL_STATE 4, 2)]), by decide +kernel⟩

theorem wit_PowerStates_3 : ∃ (dt : Nat) (ix : Fin 31) (s : State), s.get (PWR_ISL_STATE ix) = 0 :=
  ⟨(3), (4), (State.reset), by decide +kernel⟩

theorem wit_GuaranteeEnds_2 : ∃ (dt : Nat) (vin vioa viob : BitVec 16) (regok : BitVec 8) (s : State), supplyOut vin.toNat vioa.toNat viob.toNat regok.toNat = true ∧ supervised vin.toNat vioa.toNat viob.toNat regok.toNat = false :=
  ⟨(50000), (14401), (3300), (3300), (0xFF), (State.reset), by decide +kernel⟩

theorem wit_GuaranteeEnds_3 : ∃ (dt : Nat) (vin vioa viob : BitVec 16) (regok : BitVec 8) (s : State), supplyOut vin.toNat vioa.toNat viob.toNat regok.toNat = false :=
  ⟨(50000), (12000), (3300), (3300), (0xFF), (State.reset), by decide +kernel⟩

theorem wit_GuaranteeEnds_4 : ∃ (dt : Nat) (vin vioa viob : BitVec 16) (regok : BitVec 8) (s : State), supervised vin.toNat vioa.toNat viob.toNat regok.toNat = true :=
  ⟨(50000), (9599), (3300), (3300), (0xFF), (State.reset), by decide +kernel⟩

theorem wit_GuaranteeEnds_5 : ∃ (dt : Nat) (t : BitVec 16) (s : State), ((t.toInt < -640 ∨ 2000 < t.toInt)) :=
  ⟨(5), (2001), (State.reset), by decide +kernel⟩

theorem wit_GuaranteeEnds_6 : ∃ (dt : Nat) (t : BitVec 16) (s : State), -640 ≤ t.toInt ∧ t.toInt ≤ 2000 :=
  ⟨(5), (2000), (State.reset), by decide +kernel⟩

theorem wit_GuaranteeEnds_8 : ∃ (dt : Nat) (k : Nat) (l : List Nat) (s : State), s.auditBad = k :: l :=
  ⟨(5), (0x14), ([]), (st [(KNL_CNTA_FREE, 511), (ACQ_POOLA_FREE, 2048), (RNG_BUFA_FREE, 64)]), by decide +kernel⟩

theorem wit_GuaranteeEnds_9 : ∃ (dt : Nat) (s : State), s.auditBad = [] :=
  ⟨(5), (st [(KNL_CNTA_FREE, 512), (ACQ_POOLA_FREE, 2048), (RNG_BUFA_FREE, 64)]), by decide +kernel⟩

theorem wit_ResetAndRelease_1 : ∃ (dt : Nat) (vin : VinLevel) (vio regs : Bool) (s : State), (vin ≠ .ok ∨ vio = false ∨ regs = false) :=
  ⟨(5), (.low), (true), (true), (State.reset), by decide +kernel⟩

theorem wit_ResetAndRelease_2 : ∃ (dt : Nat) (vin : VinLevel) (vio regs : Bool) (s : State), vin = .ok ∧ vio = true ∧ regs = true :=
  ⟨(5), (.ok), (true), (true), (State.reset.onBoot fun b => { b with vin := .low }), by decide +kernel⟩

theorem wit_ResetAndRelease_4 : ∃ (dt : Nat) (qv ck test : Bool) (s : State), s.boot.held = true ∧ s.boot.powerGood = true ∧ s.boot.supplyAt + 10000000 ≤ (s.elapse dt).clk.elapsed ∧ s.boot.resetLow = false :=
  ⟨(10000000), (true), (false), (false), ((st [(whole ERR_BOOT, 7)]).onBoot fun b => { b with held := true, resetLow := false }), by decide +kernel⟩

theorem wit_ResetAndRelease_5 : ∃ (dt : Nat) (qv ck test : Bool) (s : State), s.boot.resetLow = true ∧ s.boot.held = false :=
  ⟨(10000000), (true), (false), (false), ((st [(whole ERR_BOOT, 7)]).onBoot fun b => { b with held := false, resetLow := true }), by decide +kernel⟩

theorem wit_StartStates_1 : ∃ (dt : Nat) (s : State), s.boot.started = true ∧ s.get CFG_STATE_STATE = 0 :=
  ⟨(5), (starting 0 (State.reset.bulkPut 0x90000000 7)), by decide +kernel⟩

theorem wit_StartStates_2 : ∃ (dt : Nat) (sfdp : Bool) (density : BitVec 8) (quad : Bool) (mhz : BitVec 8) (cmd13 susp : Bool) (s : State), s.boot.started = true ∧ s.get CFG_STATE_STATE = 1 :=
  ⟨(5), (true), (25), (true), (104), (true), (true), (starting 1 State.reset), by decide +kernel⟩

theorem wit_StartStates_3 : ∃ (dt : Nat) (sfdp : Bool) (density : BitVec 8) (quad : Bool) (mhz : BitVec 8) (cmd13 susp : Bool) (s : State), s.boot.started = true ∧ s.get CFG_STATE_STATE = 2 ∧ s.boot.resetAt + 1000000 ≤ (s.elapse dt).clk.elapsed :=
  ⟨(1000000), (true), (25), (true), (104), (true), (true), (starting 2 State.reset), by decide +kernel⟩

theorem wit_StartStates_4 : ∃ (dt : Nat) (to0 to1 : Bool) (c0 c1 : Fin 16) (s : State), s.boot.started = true ∧ s.get CFG_STATE_STATE = 3 ∧ ((if to0 then 0xC else s.bankCause 0) = c0.val) ∧ ((if to1 then 0xC else s.bankCause 1) = c1.val) ∧ c0.val ≠ 0 ∧ c1.val ≠ 0 :=
  ⟨(5), (true), (false), (0xC), (1), (starting 3 (st [(CFG_FLASH_DENSITY, 25)])), by decide +kernel⟩

theorem wit_StartStates_5 : ∃ (dt : Nat) (to0 to1 : Bool) (c0 c1 : Fin 16) (s : State), s.boot.started = true ∧ s.get CFG_STATE_STATE = 3 ∧ ((if to0 then 0xC else s.bankCause 0) = c0.val) ∧ ((if to1 then 0xC else s.bankCause 1) = c1.val) ∧ c0.val = 0 ∧ (c1.val ≠ 0 ∨ imgSeq (s.flashBytes (0x100000 + 0xC00000 * 1) 0x40) ≤ imgSeq (s.flashBytes (0x100000 + 0xC00000 * 0) 0x40)) :=
  ⟨(5), (false), (false), (0), (0), (starting 3 (inBank 0 9 (inBank 1 9 (st [(CFG_FLASH_DENSITY, 25)])))), by decide +kernel⟩

theorem wit_StartStates_6 : ∃ (dt : Nat) (to0 to1 : Bool) (c0 c1 : Fin 16) (s : State), s.boot.started = true ∧ s.get CFG_STATE_STATE = 3 ∧ ((if to0 then 0xC else s.bankCause 0) = c0.val) ∧ ((if to1 then 0xC else s.bankCause 1) = c1.val) ∧ c1.val = 0 ∧ (c0.val ≠ 0 ∨ imgSeq (s.flashBytes (0x100000 + 0xC00000 * 0) 0x40) < imgSeq (s.flashBytes (0x100000 + 0xC00000 * 1) 0x40)) :=
  ⟨(5), (false), (false), (0), (0), (starting 3 (inBank 0 9 (inBank 1 10 (st [(CFG_FLASH_DENSITY, 25)])))), by decide +kernel⟩

theorem wit_StartStates_7 : ∃ (dt : Nat) (timeout : Bool) (b c : Nat) (rest : List (Nat × Nat)) (a n : Nat) (r : Nat × Image) (s : State), s.boot.started = true ∧ s.get CFG_STATE_STATE = 4 ∧ s.boot.banks = (b, c) :: rest ∧ s.present b = some (a, n) ∧ r = readImage 1 n (s.flashBytes a 0x40) (s.flashBytes a (min (imgLength (s.flashBytes a 0x40)) n)) :=
  ⟨(5), (true), (0), (0), ([]), (0x100000), (0xC00000), ((readImage 1 0xC00000 (bankHeader 9) (bankHeader 9))), ((starting 4 (inBank 0 9 (st [(CFG_FLASH_DENSITY, 25)]))).onBoot fun b => { b with banks := [(0, 0)] }), by decide +kernel⟩

theorem wit_StartStates_8 : ∃ (dt : Nat) (i : Image) (b c : Nat) (s : State), s.boot.started = true ∧ s.get CFG_STATE_STATE = 5 ∧ s.boot.cand = some i ∧ s.boot.banks = [(b, c)] :=
  ⟨(5), ({}), (0), (0), ((starting 5 State.reset).onBoot fun b => { b with banks := [(0, 0)], cand := some {} }), by decide +kernel⟩

theorem wit_StartStates_9 : ∃ (dt : Nat) (selfOk mramOk : Bool) (i : Image) (s : State), s.boot.started = true ∧ s.get CFG_STATE_STATE = 6 ∧ s.boot.cand = some i :=
  ⟨(5), (true), (true), ({}), ((starting 6 State.reset).onBoot fun b => { b with cand := some {} }), by decide +kernel⟩

theorem wit_StartStates_10 : ∃ (dt : Nat) (to1 to2 : Bool) (k1 k2 : Nat) (s : State), s.boot.started = true ∧ s.get CFG_STATE_STATE = 7 ∧ s.startSlot = k1 ∧ s.get CFG_RCP_FALLBACK = k2 :=
  ⟨(5), (false), (false), (3), (0xF), ((starting 7 (st [(CFG_RCP_START, 3), (CFG_RCP_FALLBACK, 0xF)])).onBoot fun b => { b with base := some {} }), by decide +kernel⟩

theorem wit_StartStates_11 : ∃ (dt : Nat) (s : State), s.get RNG_ST_READY = 1 :=
  ⟨(5), (st [(RNG_ST_READY, 1), (RNG_ST_BYP, 1)]), by decide +kernel⟩

theorem wit_RecipeChangeover_1 : ∃ (dt : Nat) (slot : Fin 16) (busy : Bool) (s : State), (s.get CFG_CHG_BUSY = 1 ∨ s.get CFG_STATE_STATE ≠ 8) :=
  ⟨(5), (3), (false), (State.reset), by decide +kernel⟩

theorem wit_RecipeChangeover_2 : ∃ (dt : Nat) (slot : Fin 16) (busy : Bool) (s : State), s.get CFG_CHG_BUSY = 0 ∧ s.get CFG_STATE_STATE = 8 ∧ (8 ≤ slot.val ∨ s.present (0x10 + slot.val) = none ∨ s.boot.dlSlot = some slot.val) :=
  ⟨(5), (9), (false), (st [(CFG_STATE_STATE, 8)]), by decide +kernel⟩

theorem wit_RecipeChangeover_3 : ∃ (dt : Nat) (slot : Fin 16) (busy : Bool) (s : State), s.get CFG_CHG_BUSY = 0 ∧ s.get CFG_STATE_STATE = 8 ∧ slot.val < 8 ∧ s.present (0x10 + slot.val) ≠ none ∧ s.boot.dlSlot ≠ some slot.val ∧ (∃ n : Fin 256, s.axState n ≠ 0 ∧ s.axState n ≠ 2) :=
  ⟨(5), (3), (false), (st [(CFG_STATE_STATE, 8), (CFG_FLASH_DENSITY, 26), (PRF_AXST_STATE 40, 3)]), by decide +kernel⟩

theorem wit_RecipeChangeover_4 : ∃ (dt : Nat) (slot : Fin 16) (busy : Bool) (s : State), s.get CFG_CHG_BUSY = 0 ∧ s.get CFG_STATE_STATE = 8 ∧ slot.val < 8 ∧ s.present (0x10 + slot.val) ≠ none ∧ s.boot.dlSlot ≠ some slot.val ∧ ((∀ n : Fin 256, s.axState n = 0 ∨ s.axState n = 2)) ∧ (busy = false ∨ s.boot.suspend = true) :=
  ⟨(5), (3), (false), (st [(CFG_STATE_STATE, 8), (CFG_FLASH_DENSITY, 26), (PRF_AXST_STATE 40, 2)]), by decide +kernel⟩

theorem wit_RecipeChangeover_5 : ∃ (dt : Nat) (slot : Fin 16) (busy : Bool) (s : State), s.get CFG_CHG_BUSY = 0 ∧ s.get CFG_STATE_STATE = 8 ∧ slot.val < 8 ∧ s.present (0x10 + slot.val) ≠ none ∧ s.boot.dlSlot ≠ some slot.val ∧ ((∀ n : Fin 256, s.axState n = 0 ∨ s.axState n = 2)) ∧ busy = true ∧ s.boot.suspend = false :=
  ⟨(5), (3), (true), (st [(CFG_STATE_STATE, 8), (CFG_FLASH_DENSITY, 26), (PRF_AXST_STATE 40, 2)]), by decide +kernel⟩

theorem wit_RecipeChangeover_6 : ∃ (dt : Nat) (timeout : Bool) (c : Nat) (s : State), s.get CFG_CHG_BUSY = 1 ∧ s.boot.staged = none ∧ ((s.elapse dt).checkRecipe s.boot.chgSlot timeout).1 = c ∧ c ≠ 0 :=
  ⟨(5), (true), (0xC), ((st [(CFG_STATE_STATE, 9), (CFG_CHG_BUSY, 1), (CFG_FLASH_DENSITY, 26)]).onBoot fun b => { b with base := some {}, chgSlot := 3 }), by decide +kernel⟩

theorem wit_RecipeChangeover_7 : ∃ (dt : Nat) (timeout : Bool) (r : Image) (s : State), s.get CFG_CHG_BUSY = 1 ∧ s.boot.staged = none :=
  ⟨(5), (true), ({}), ((st [(CFG_STATE_STATE, 9), (CFG_CHG_BUSY, 1), (CFG_FLASH_DENSITY, 26)]).onBoot fun b => { b with base := some {}, chgSlot := 3 }), by decide +kernel⟩

theorem wit_RecipeChangeover_8 : ∃ (dt : Nat) (m : Fin 256) (k : Fin 16) (s : State), s.boot.staged.isSome = true ∧ k.val ∈ (s.ringMem m).stageOwed :=
  ⟨(5), (5), (0), ((State.reset.onBoot fun b => { b with staged := some {} }).onRingMem 5 fun x => { x with stageOwed := [0] }), by decide +kernel⟩

theorem wit_RecipeChangeover_9 : ∃ (dt : Nat) (t : Nat) (s : State), s.ring.stageAt = some t ∧ s.stageWaits = true ∧ s.boot.staged.isSome = true ∧ t + 1100000000 ≤ (s.elapse dt).clk.elapsed :=
  ⟨(1100000000), (0), (((State.reset.onBoot fun b => { b with staged := some {} }).onRingMem 5 fun x => { x with stageOwed := [0] }).onRing fun r => { r with stageAt := some 0 }), by decide +kernel⟩

theorem wit_RecipeChangeover_10 : ∃ (dt : Nat) (r : Image) (s : State), s.boot.staged = some r ∧ (s.elapse dt).changeDue = true :=
  ⟨(1000000), ({}), (((st [(CFG_STATE_STATE, 9), (CFG_CHG_BUSY, 1)]).onBoot fun b => { b with base := some {}, chgSlot := 3, staged := some {} }).onClk fun c => { c with running := true }), by decide +kernel⟩

theorem wit_LeashLowering_1 : ∃ (dt : Nat) (who : Accessor) (addr : BitVec 32) (value : BitVec 64) (e : EffField) (s : State), effField addr.toNat = some e ∧ e.lowers (value.toNat / 2 ^ e.fld.lo % 2 ^ e.fld.width) (s.effGet e.fld) = true :=
  ⟨(5), (.core 1), (0x11001000), (99), (⟨LSH_IPK_EFF 0, .ceiling, false, .axis 0⟩), (st [(LSH_IPK_EFF 0, 100)]), by decide +kernel⟩

theorem wit_LeashLowering_2 : ∃ (dt : Nat) (who : Accessor) (addr : BitVec 32) (value : BitVec 64) (e : EffField) (s : State), effField addr.toNat = some e ∧ e.lowers (value.toNat / 2 ^ e.fld.lo % 2 ^ e.fld.width) (s.effGet e.fld) = false :=
  ⟨(5), (.core 1), (0x11001000), (100), (⟨LSH_IPK_EFF 0, .ceiling, false, .axis 0⟩), (st [(LSH_IPK_EFF 0, 100)]), by decide +kernel⟩

theorem wit_LeashTakesEffect_1 : ∃ (dt : Nat) (addr : BitVec 32) (e : EffField) (s : State), effField addr.toNat = some e ∧ (s.elapse dt).limitDue e.owner = true ∧ (((s.elapse dt).lim.lowerings.filter fun l => l.fld == e.fld && (e.owner == .dio || decide (l.time < (s.elapse dt).clk.elapsed))) ≠ []) ∧ (∀ l ∈ s.lim.lowerings, l.value < 2 ^ l.fld.width) :=
  ⟨(1000000), (0x11001000), (⟨LSH_IPK_EFF 0, .ceiling, false, .axis 0⟩), (((st [(LSH_IPK_EFF 0, 100)]).onLim fun l => { l with lowerings := [⟨LSH_IPK_EFF 0, 99, 0⟩, ⟨LSH_IPK_EFF 0, 90, 0⟩] }).onClk fun c => { c with running := true }), by decide +kernel⟩

theorem wit_LeashTakesEffect_2 : ∃ (dt : Nat) (addr : BitVec 32) (e : EffField) (s : State), effField addr.toNat = some e ∧ ((s.elapse dt).limitDue e.owner = false ∨ ((s.elapse dt).lim.lowerings.filter fun l => l.fld == e.fld && (e.owner == .dio || decide (l.time < (s.elapse dt).clk.elapsed))) = []) :=
  ⟨(5), (0x11001000), (⟨LSH_IPK_EFF 0, .ceiling, false, .axis 0⟩), (State.reset), by decide +kernel⟩

theorem wit_TableCommits_1 : ∃ (dt : Nat) (n : Fin 256) (g : BitVec 16) (s : State), (s.get CFG_CHG_BUSY = 1 ∨ 15 ≤ s.lim.commits.length) :=
  ⟨(5), (3), (0), (st [(CFG_CHG_BUSY, 1)]), by decide +kernel⟩

theorem wit_TableCommits_2 : ∃ (dt : Nat) (n : Fin 256) (g : BitVec 16) (s : State), s.get CFG_CHG_BUSY = 0 ∧ s.lim.commits.length < 15 ∧ (∃ c ∈ s.lim.commits, c.entry = n.val) :=
  ⟨(5), (3), (0), ((State.reset.onLim fun l => { l with commits := [{ entry := 3, snapshot := [], newGen := 2, bnd := 0 }] })), by decide +kernel⟩

theorem wit_TableCommits_3 : ∃ (dt : Nat) (n : Fin 256) (g : BitVec 16) (s : State), s.get CFG_CHG_BUSY = 0 ∧ s.lim.commits.length < 15 ∧ (∀ c ∈ s.lim.commits, c.entry ≠ n.val) ∧ g.toNat ≠ s.get (PRF_AXGEN_CGEN n) :=
  ⟨(5), (3), (1), ((State.reset.onLim fun l => { l with commits := [{ entry := 4, snapshot := [], newGen := 2, bnd := 0 }] })), by decide +kernel⟩

theorem wit_TableCommits_4 : ∃ (dt : Nat) (n : Fin 256) (g : BitVec 16) (s : State), s.get CFG_CHG_BUSY = 0 ∧ s.lim.commits.length < 15 ∧ (∀ c ∈ s.lim.commits, c.entry ≠ n.val) ∧ g.toNat = s.get (PRF_AXGEN_CGEN n) ∧ entryNamed n (s.working n) = false :=
  ⟨(5), (3), (0), (State.reset), by decide +kernel⟩

theorem wit_TableCommits_5 : ∃ (dt : Nat) (n : Fin 256) (g : BitVec 16) (s : State), s.get CFG_CHG_BUSY = 0 ∧ s.lim.commits.length < 15 ∧ (∀ c ∈ s.lim.commits, c.entry ≠ n.val) ∧ g.toNat = s.get (PRF_AXGEN_CGEN n) ∧ entryNamed n (s.working n) = true ∧ (entryOk s.entryEnv n (s.working n) = false ∨ (n.val < 32 ∧ differ (s.committed n) (s.working n) 0x200 0x210 = true) ∨ s.unitMissing n (s.working n) = true) :=
  ⟨(5), (40), (0), ((State.reset.bulkStore (0x80100000 + 0x400 * 40) (leBytes 2 40 ++ leBytes 10 0 ++ leBytes 4 (crc32c (1 :: leBytes 943 0)) ++ [1]))), by decide +kernel⟩

theorem wit_TableCommits_6 : ∃ (dt : Nat) (n : Fin 256) (g : BitVec 16) (s : State), s.get CFG_CHG_BUSY = 0 ∧ s.lim.commits.length < 15 ∧ (∀ c ∈ s.lim.commits, c.entry ≠ n.val) ∧ g.toNat = s.get (PRF_AXGEN_CGEN n) ∧ entryNamed n (s.working n) = true ∧ entryOk s.entryEnv n (s.working n) = true ∧ (n.val < 32 → differ (s.committed n) (s.working n) 0x200 0x210 = false) ∧ s.unitMissing n (s.working n) = false ∧ s.axState n ≠ 0 ∧ disabledOnlyChanged (s.committed n) (s.working n) = true :=
  ⟨(5), (40), (0), ((((State.reset.bulkStore (0x80100000 + 0x400 * 40) (leBytes 2 40 ++ leBytes 10 0 ++ leBytes 4 (crc32c (leBytes 944 0))))).bulkPut (0x80140000 + 0x400 * 40 + 0x10) 2).put (PRF_AXST_STATE 40) 2), by decide +kernel⟩

theorem wit_TableCommits_7 : ∃ (dt : Nat) (n : Fin 256) (g : BitVec 16) (s : State), s.get CFG_CHG_BUSY = 0 ∧ s.lim.commits.length < 15 ∧ (∀ c ∈ s.lim.commits, c.entry ≠ n.val) ∧ g.toNat = s.get (PRF_AXGEN_CGEN n) ∧ entryNamed n (s.working n) = true ∧ entryOk s.entryEnv n (s.working n) = true ∧ (n.val < 32 → differ (s.committed n) (s.working n) 0x200 0x210 = false) ∧ s.unitMissing n (s.working n) = false ∧ (s.axState n = 0 ∨ disabledOnlyChanged (s.committed n) (s.working n) = false) ∧ differ (s.committed n) (s.working n) 0x010 0x3C0 = false :=
  ⟨(5), (40), (0), ((State.reset.bulkStore (0x80100000 + 0x400 * 40) (leBytes 2 40 ++ leBytes 10 0 ++ leBytes 4 (crc32c (leBytes 944 0))))), by decide +kernel⟩

theorem wit_TableCommits_8 : ∃ (dt : Nat) (n : Fin 256) (g : BitVec 16) (s : State), s.get CFG_CHG_BUSY = 0 ∧ s.lim.commits.length < 15 ∧ (∀ c ∈ s.lim.commits, c.entry ≠ n.val) ∧ g.toNat = s.get (PRF_AXGEN_CGEN n) ∧ entryNamed n (s.working n) = true ∧ entryOk s.entryEnv n (s.working n) = true ∧ (n.val < 32 → differ (s.committed n) (s.working n) 0x200 0x210 = false) ∧ s.unitMissing n (s.working n) = false ∧ (s.axState n = 0 ∨ disabledOnlyChanged (s.committed n) (s.working n) = false) ∧ differ (s.committed n) (s.working n) 0x010 0x3C0 = true :=
  ⟨(5), (40), (0), (((State.reset.bulkStore (0x80100000 + 0x400 * 40) (leBytes 2 40 ++ leBytes 10 0 ++ leBytes 4 (crc32c (leBytes 944 0))))).bulkPut (0x80140000 + 0x400 * 40 + 0x10) 2), by decide +kernel⟩

theorem wit_TableCommits_9 : ∃ (dt : Nat) (n : Fin 256) (c : Commit) (s : State), (((s.elapse dt).lim.commits.filter fun c => c.entry == n.val && (s.elapse dt).commitDue c) = [c]) ∧ (s.axis n).enHeld = false ∧ 0x80000000 ≤ s.rd PRF_TBASE ∧ s.rd PRF_TBASE ≤ 0xFFF80000 :=
  ⟨(1000000000), (40), ({ entry := 40, snapshot := leBytes 20 77, newGen := 2, bnd := 0 }), ((State.reset.onLim fun l => { l with commits := [{ entry := 40, snapshot := leBytes 20 77, newGen := 2, bnd := 0 }] }).onClk fun c => { c with running := true }), by decide +kernel⟩

theorem wit_TableCommits_10 : ∃ (dt : Nat) (n : Fin 256) (s : State), (((s.elapse dt).lim.commits.filter fun c => c.entry == n.val && (s.elapse dt).commitDue c) = []) :=
  ⟨(5), (40), ((State.reset.onLim fun l => { l with commits := [{ entry := 40, snapshot := [], newGen := 2, bnd := 0 }] })), by decide +kernel⟩

theorem wit_AxisRequests_1 : ∃ (dt : Nat) (n : Fin 256) (f1 : Frame) (r : Nat) (f2 : Frame) (s : State), s.get (PRF_AXST_PENDCMT n) = 1 ∧ s.axState n = 0 :=
  ⟨(5), (3), (⟨false, false, [], []⟩), (0), (⟨false, false, [], []⟩), (st [(PRF_AXST_PENDCMT 3, 1)]), by decide +kernel⟩

theorem wit_AxisRequests_2 : ∃ (dt : Nat) (n : Fin 256) (f1 : Frame) (r : Nat) (f2 : Frame) (s : State), s.get (PRF_AXST_PENDCMT n) = 0 ∧ ((1 ≤ (s.axis n).moved ∧ (s.axis n).moved ≤ 3) ∨ bit (s.axis n).asked 0 = true) ∧ s.awaitsRead n = false :=
  ⟨(5), (3), (⟨false, false, [], []⟩), (0), (⟨false, false, [], []⟩), (State.reset.onAxis 3 fun x => { x with moved := 3 }), by decide +kernel⟩

theorem wit_AxisRequests_3 : ∃ (dt : Nat) (n : Fin 256) (f1 : Frame) (r : Nat) (f2 : Frame) (s : State), s.get (PRF_AXST_PENDCMT n) = 0 ∧ ((s.axis n).moved = 0 ∨ 4 ≤ (s.axis n).moved) ∧ bit (s.axis n).asked 0 = false ∧ s.axState n ≠ 0 ∧ s.awaitsRead n = false :=
  ⟨(5), (3), (⟨false, false, [], []⟩), (0), (⟨false, false, [], []⟩), (st [(PRF_AXST_STATE 3, 2)]), by decide +kernel⟩

theorem wit_AxisRequests_4 : ∃ (dt : Nat) (n : Fin 256) (f1 : Frame) (r : Nat) (f2 : Frame) (s : State), s.get (PRF_AXST_PENDCMT n) = 0 ∧ ((s.axis n).moved = 0 ∨ 4 ≤ (s.axis n).moved) ∧ bit (s.axis n).asked 0 = false ∧ s.axState n = 0 ∧ s.get CFG_RCP_ACTIVE = 0xF ∧ s.get CFG_RCP_START ≠ 0xF :=
  ⟨(5), (3), (⟨false, false, [], []⟩), (0), (⟨false, false, [], []⟩), (st [(CFG_RCP_START, 3)]), by decide +kernel⟩

theorem wit_AxisRequests_5 : ∃ (dt : Nat) (n : Fin 256) (f1 : Frame) (r : Nat) (f2 : Frame) (s : State), s.get (PRF_AXST_PENDCMT n) = 0 ∧ ((s.axis n).moved = 0 ∨ 4 ≤ (s.axis n).moved) ∧ bit (s.axis n).asked 0 = false ∧ s.axState n = 0 ∧ (s.get CFG_RCP_ACTIVE ≠ 0xF ∨ s.get CFG_RCP_START = 0xF) ∧ s.get CFG_CHG_BUSY = 1 :=
  ⟨(5), (3), (⟨false, false, [], []⟩), (0), (⟨false, false, [], []⟩), (st [(CFG_CHG_BUSY, 1)]), by decide +kernel⟩

theorem wit_AxisRequests_6 : ∃ (dt : Nat) (n : Fin 256) (f1 : Frame) (r : Nat) (f2 : Frame) (s : State), s.get (PRF_AXST_PENDCMT n) = 0 ∧ ((s.axis n).moved = 0 ∨ 4 ≤ (s.axis n).moved) ∧ bit (s.axis n).asked 0 = false ∧ s.axState n = 0 ∧ (s.get CFG_RCP_ACTIVE ≠ 0xF ∨ s.get CFG_RCP_START = 0xF) ∧ s.get CFG_CHG_BUSY = 0 ∧ n.val < 32 ∧ ¬(tabGet false s.pwm.genA (n / 4) = true ∧ tabGet false s.pwm.genB (n / 4) = true) :=
  ⟨(5), (3), (⟨false, false, [], []⟩), (0), (⟨false, false, [], []⟩), (State.reset), by decide +kernel⟩

theorem wit_AxisRequests_7 : ∃ (dt : Nat) (n : Fin 256) (f1 : Frame) (r : Nat) (f2 : Frame) (s : State), s.get (PRF_AXST_PENDCMT n) = 0 ∧ ((s.axis n).moved = 0 ∨ 4 ≤ (s.axis n).moved) ∧ bit (s.axis n).asked 0 = false ∧ s.axState n = 0 ∧ (s.get CFG_RCP_ACTIVE ≠ 0xF ∨ s.get CFG_RCP_START = 0xF) ∧ s.get CFG_CHG_BUSY = 0 ∧ (32 ≤ n.val ∨ (tabGet false s.pwm.genA (n / 4) = true ∧ tabGet false s.pwm.genB (n / 4) = true)) ∧ s.axKind n = 0 :=
  ⟨(5), (3), (⟨false, false, [], []⟩), (0), (⟨false, false, [], []⟩), (State.reset.onPwm fun p => { p with genA := [(0, true)], genB := [(0, true)] }), by decide +kernel⟩

theorem wit_AxisRequests_8 : ∃ (dt : Nat) (n : Fin 256) (f1 : Frame) (r : Nat) (f2 : Frame) (s : State), s.get (PRF_AXST_PENDCMT n) = 0 ∧ ((s.axis n).moved = 0 ∨ 4 ≤ (s.axis n).moved) ∧ bit (s.axis n).asked 0 = false ∧ s.axState n = 0 ∧ (s.get CFG_RCP_ACTIVE ≠ 0xF ∨ s.get CFG_RCP_START = 0xF) ∧ s.get CFG_CHG_BUSY = 0 ∧ (32 ≤ n.val ∨ (tabGet false s.pwm.genA (n / 4) = true ∧ tabGet false s.pwm.genB (n / 4) = true)) ∧ s.axKind n ≠ 0 ∧ 32 ≤ n.val ∧ ((s.axis n).acked = false ∨ s.get (RNG_MST_STATE (s.axMember n)) ≠ 3) :=
  ⟨(5), (40), (⟨false, false, [], []⟩), (0), (⟨false, false, [], []⟩), (entry4 40 [(0x10, 2)] State.reset), by decide +kernel⟩

theorem wit_AxisRequests_9 : ∃ (dt : Nat) (n : Fin 256) (f1 : Frame) (r : Nat) (f2 : Frame) (s : State), s.get (PRF_AXST_PENDCMT n) = 0 ∧ ((s.axis n).moved = 0 ∨ 4 ≤ (s.axis n).moved) ∧ bit (s.axis n).asked 0 = false ∧ s.axState n = 0 ∧ (s.get CFG_RCP_ACTIVE ≠ 0xF ∨ s.get CFG_RCP_START = 0xF) ∧ s.get CFG_CHG_BUSY = 0 ∧ (32 ≤ n.val ∨ (tabGet false s.pwm.genA (n / 4) = true ∧ tabGet false s.pwm.genB (n / 4) = true)) ∧ s.axKind n ≠ 0 ∧ 32 ≤ n.val ∧ (s.axis n).acked = true ∧ s.get (RNG_MST_STATE (s.axMember n)) = 3 :=
  ⟨(5), (40), (⟨false, false, [], []⟩), (0), (⟨false, false, [], []⟩), ((entry4 40 [(0x10, 2), (0x380, 7)] (st [(RNG_MST_STATE 7, 3)])).onAxis 40 fun x => { x with acked := true }), by decide +kernel⟩

theorem wit_AxisRequests_10 : ∃ (dt : Nat) (n : Fin 256) (f1 : Frame) (r : Nat) (f2 : Frame) (s : State), s.get (PRF_AXST_PENDCMT n) = 0 ∧ ((s.axis n).moved = 0 ∨ 4 ≤ (s.axis n).moved) ∧ bit (s.axis n).asked 0 = false ∧ s.axState n = 0 ∧ (s.get CFG_RCP_ACTIVE ≠ 0xF ∨ s.get CFG_RCP_START = 0xF) ∧ s.get CFG_CHG_BUSY = 0 ∧ (32 ≤ n.val ∨ (tabGet false s.pwm.genA (n / 4) = true ∧ tabGet false s.pwm.genB (n / 4) = true)) ∧ s.axKind n ≠ 0 ∧ n.val < 32 ∧ s.axFbPort n ≠ 0xFF ∧ (s.portOwner (s.axFbPort n)).isSome = true :=
  ⟨(5), (3), (⟨false, false, [], []⟩), (0), (⟨false, false, [], []⟩), (entry4 3 [(0x10, 1), (0x80, 4)] (entry4 2 [(0x10, 1), (0x80, 4)] ((st [(PRF_AXST_STATE 2, 2)]).onPwm fun p => { p with genA := [(0, true)], genB := [(0, true)] }))), by decide +kernel⟩

theorem wit_AxisRequests_11 : ∃ (dt : Nat) (n : Fin 256) (f1 : Frame) (r : Nat) (f2 : Frame) (s : State), s.get (PRF_AXST_PENDCMT n) = 0 ∧ ((s.axis n).moved = 0 ∨ 4 ≤ (s.axis n).moved) ∧ bit (s.axis n).asked 0 = false ∧ s.axState n = 0 ∧ (s.get CFG_RCP_ACTIVE ≠ 0xF ∨ s.get CFG_RCP_START = 0xF) ∧ s.get CFG_CHG_BUSY = 0 ∧ (32 ≤ n.val ∨ (tabGet false s.pwm.genA (n / 4) = true ∧ tabGet false s.pwm.genB (n / 4) = true)) ∧ s.axKind n ≠ 0 ∧ n.val < 32 ∧ s.axFbPort n = 0xFF :=
  ⟨(5), (3), (⟨false, false, [], []⟩), (0), (⟨false, false, [], []⟩), (entry4 3 [(0x10, 1), (0x80, 0xFF)] (State.reset.onPwm fun p => { p with genA := [(0, true)], genB := [(0, true)] })), by decide +kernel⟩

theorem wit_AxisRequests_12 : ∃ (dt : Nat) (n : Fin 256) (s : State), (s.axState n = 1 ∨ s.axState n = 2) ∧ (s.axis n).disabling = false :=
  ⟨(5), (3), (st [(PRF_AXST_STATE 3, 2)]), by decide +kernel⟩

theorem wit_AxisRequests_13 : ∃ (dt : Nat) (n : Fin 256) (s : State), (s.axState n = 3 ∨ s.axState n = 4) :=
  ⟨(5), (3), (st [(PRF_AXST_STATE 3, 4)]), by decide +kernel⟩

theorem wit_AxisRequests_14 : ∃ (dt : Nat) (n : Fin 256) (s : State), (s.axState n = 0 ∨ 5 ≤ s.axState n) :=
  ⟨(5), (3), (st [(PRF_AXST_STATE 3, 6)]), by decide +kernel⟩

theorem wit_AxisRequests_15 : ∃ (dt : Nat) (n : Fin 256) (s : State), s.axState n ≠ 6 :=
  ⟨(5), (3), (State.reset), by decide +kernel⟩

theorem wit_AxisRequests_16 : ∃ (dt : Nat) (n : Fin 256) (s : State), s.axState n = 6 ∧ s.causePresent n = true :=
  ⟨(5), (3), (st [(PRF_AXST_STATE 3, 6), (PRF_AXST_CAUSE 3, 1)]), by decide +kernel⟩

theorem wit_AxisRequests_17 : ∃ (dt : Nat) (n : Fin 256) (s : State), s.axState n = 6 ∧ s.causePresent n = false ∧ (s.axis n).reacted = false :=
  ⟨(5), (3), ((st [(PRF_AXST_STATE 3, 6), (PRF_AXST_CAUSE 3, 8)]).onAxis 3 fun x => { x with reacted := false }), by decide +kernel⟩

theorem wit_AxisRequests_18 : ∃ (dt : Nat) (n : Fin 256) (s : State), s.axState n = 6 ∧ s.causePresent n = false ∧ (s.axis n).reacted = true :=
  ⟨(5), (3), (st [(PRF_AXST_STATE 3, 6), (PRF_AXST_CAUSE 3, 8)]), by decide +kernel⟩

theorem wit_AxisTransitions_1 : ∃ (dt : Nat) (n : Fin 256) (s : State), s.axState n = 1 ∧ (s.axis n).enStep = 6 ∧ (s.axis n).disabling = false ∧ (s.elapse dt).brakeOver n = true :=
  ⟨(5), (3), ((st [(PRF_AXST_STATE 3, 1)]).onAxis 3 fun x => { x with enStep := 6, brakeDue := some 4 }), by decide +kernel⟩

theorem wit_AxisTransitions_2 : ∃ (dt : Nat) (n : Fin 256) (s : State), (s.axis n).disabling = true ∧ (s.elapse dt).brakeOver n = true :=
  ⟨(5), (3), ((st [(PRF_AXST_STATE 3, 2)]).onAxis 3 fun x => { x with disabling := true, brakeDue := some 4 }), by decide +kernel⟩

theorem wit_AxisTransitions_3 : ∃ (dt : Nat) (n : Fin 256) (s : State), max 1 (s.axSsTime n) ≤ (s.axis n).ssCount ∧ (s.axState n = 3 ∨ s.axState n = 4) :=
  ⟨(5), (3), ((st [(PRF_AXST_STATE 3, 4)]).onAxis 3 fun x => { x with ssCount := 9, reacted := false }), by decide +kernel⟩

theorem wit_AxisTransitions_4 : ∃ (dt : Nat) (n : Fin 256) (s : State), max 1 (s.axSsTime n) ≤ (s.axis n).ssCount ∧ s.axState n = 5 ∧ (s.axis n).disabling = false :=
  ⟨(5), (3), ((st [(PRF_AXST_STATE 3, 5)]).onAxis 3 fun x => { x with ssCount := 9, reacted := false }), by decide +kernel⟩

theorem wit_AxisTransitions_5 : ∃ (dt : Nat) (n : Fin 256) (s : State), max 1 (s.axSsTime n) ≤ (s.axis n).ssCount ∧ s.axState n = 6 ∧ (s.axis n).reacted = false ∧ (s.get (PRF_AXST_REACT n) = 1 ∨ s.get (PRF_AXST_REACT n) = 2) :=
  ⟨(5), (3), ((st [(PRF_AXST_STATE 3, 6), (PRF_AXST_REACT 3, 1)]).onAxis 3 fun x => { x with ssCount := 9, reacted := false }), by decide +kernel⟩

theorem wit_AxisTransitions_6 : ∃ (dt : Nat) (n : Fin 256) (s : State), s.axState n = 6 ∧ s.get (PRF_AXST_REACT n) ≠ 0 ∧ (s.axis n).reacted = false ∧ (s.axis n).faultAt + s.axStopTmo n * 1000000 ≤ (s.elapse dt).clk.elapsed :=
  ⟨(5), (3), ((st [(PRF_AXST_STATE 3, 6), (PRF_AXST_REACT 3, 1)]).onAxis 3 fun x => { x with ssCount := 9, reacted := false }), by decide +kernel⟩

theorem wit_AxisTransitions_7 : ∃ (dt : Nat) (a : Fin 32) (s : State), (s.axis a).ovsRun = 8 ∧ 1 ≤ s.axState a ∧ s.axState a ≤ 5 :=
  ⟨(5), (3), ((st [(PRF_AXST_STATE 3, 3), (LSH_ESC_COUNT 3, 4)]).onAxis 3 fun x => { x with ovsRun := 8 }), by decide +kernel⟩

theorem wit_AxisTransitions_8 : ∃ (dt : Nat) (a : Fin 32) (s : State), (s.axis a).feCount = max 1 (s.axFeTime a) ∧ 1 ≤ s.axState a ∧ s.axState a ≤ 5 :=
  ⟨(5), (3), ((st [(PRF_AXST_STATE 3, 3), (LSH_ESC_COUNT 3, 4)]).onAxis 3 fun x => { x with feCount := 1 }), by decide +kernel⟩

theorem wit_AxisTransitions_9 : ∃ (dt : Nat) (a : Fin 32) (s : State), s.get (LSH_ESC_COUNT a) ≠ 0 ∧ (s.axis a).escDue = true ∧ 1 ≤ s.axState a ∧ s.axState a ≤ 5 :=
  ⟨(5), (3), ((st [(PRF_AXST_STATE 3, 3), (LSH_ESC_COUNT 3, 4)]).onAxis 3 fun x => { x with escDue := true }), by decide +kernel⟩

theorem wit_AxisTransitions_10 : ∃ (dt : Nat) (a : Fin 32) (s : State), (s.axis a).ovsRun = 8 ∧ s.rampFault a = true ∧ (s.elapse dt).sameFaultPeriod a = false :=
  ⟨(5), (3), ((st [(PRF_AXST_STATE 3, 6), (PRF_AXST_REACT 3, 2)]).onAxis 3 fun x => { x with ovsRun := 8 }), by decide +kernel⟩

theorem wit_MotionMoves_1 : ∃ (dt : Nat) (n : Fin 256) (mode : Fin 16) (tag : BitVec 32) (data : List (Fin 16 × BitVec 56)) (s : State), 7 ≤ s.get CFG_STATE_STATE ∧ s.get CFG_STATE_STATE ≤ 9 ∧ (s.elapse dt).cmdRejects (motionRow 0x01 n mode tag data) = 0 ∧ (((accepted n tag (s.elapse dt)).motMod n) = 0 ∨ mode.val = 3) ∧ 0 ≤ ((accepted n tag (s.elapse dt)).motMod n) :=
  ⟨(5), (3), (0), (0xABCD), ([(0, 700), (1, 9)]), ((st [(CFG_STATE_STATE, 8), (PRF_AXST_STATE 3, 2), (PRF_AXST_STATE 4, 2)]).onMot 3 fun m => { m with pos := 65 }), by decide +kernel⟩

theorem wit_MotionMoves_2 : ∃ (dt : Nat) (n : Fin 256) (mode : Fin 16) (tag : BitVec 32) (data : List (Fin 16 × BitVec 56)) (s : State), 7 ≤ s.get CFG_STATE_STATE ∧ s.get CFG_STATE_STATE ≤ 9 ∧ (s.elapse dt).cmdRejects (motionRow 0x01 n mode tag data) = 0 ∧ 0 < ((accepted n tag (s.elapse dt)).motMod n) ∧ mode.val = 0 :=
  ⟨(5), (3), (0), (0xABCD), ([(0, 700)]), ((entry4 3 [(0x10, 1), (0x15, 4)] (st [(CFG_STATE_STATE, 8), (PRF_AXST_STATE 3, 2)])).onMot 3 fun m => { m with pos := 65536 * 900 }), by decide +kernel⟩

theorem wit_MotionMoves_3 : ∃ (dt : Nat) (n : Fin 256) (mode : Fin 16) (tag : BitVec 32) (data : List (Fin 16 × BitVec 56)) (s : State), 7 ≤ s.get CFG_STATE_STATE ∧ s.get CFG_STATE_STATE ≤ 9 ∧ (s.elapse dt).cmdRejects (motionRow 0x01 n mode tag data) = 0 ∧ 0 < ((accepted n tag (s.elapse dt)).motMod n) ∧ mode.val = 1 :=
  ⟨(5), (3), (1), (0xABCD), ([(0, 700)]), ((entry4 3 [(0x10, 1), (0x15, 4)] (st [(CFG_STATE_STATE, 8), (PRF_AXST_STATE 3, 2)])).onMot 3 fun m => { m with pos := 65536 * 900 }), by decide +kernel⟩

theorem wit_MotionMoves_4 : ∃ (dt : Nat) (n : Fin 256) (mode : Fin 16) (tag : BitVec 32) (data : List (Fin 16 × BitVec 56)) (s : State), 7 ≤ s.get CFG_STATE_STATE ∧ s.get CFG_STATE_STATE ≤ 9 ∧ (s.elapse dt).cmdRejects (motionRow 0x01 n mode tag data) = 0 ∧ 0 < ((accepted n tag (s.elapse dt)).motMod n) ∧ mode.val = 2 :=
  ⟨(5), (3), (2), (0xABCD), ([(0, 700)]), ((entry4 3 [(0x10, 1), (0x15, 4)] (st [(CFG_STATE_STATE, 8), (PRF_AXST_STATE 3, 2)])).onMot 3 fun m => { m with pos := 65536 * 900 }), by decide +kernel⟩

theorem wit_MotionMoves_5 : ∃ (dt : Nat) (n : Fin 256) (mode : Fin 16) (tag : BitVec 32) (data : List (Fin 16 × BitVec 56)) (s : State), 7 ≤ s.get CFG_STATE_STATE ∧ s.get CFG_STATE_STATE ≤ 9 ∧ (s.elapse dt).cmdRejects (motionRow 0x02 n mode tag data) = 0 :=
  ⟨(5), (3), (0), (0xABCD), ([(0, 700), (2, 9)]), ((st [(CFG_STATE_STATE, 8), (PRF_AXST_STATE 3, 2)])), by decide +kernel⟩

theorem wit_MotionMoves_6 : ∃ (dt : Nat) (n : Fin 256) (mode : Fin 16) (tag : BitVec 32) (data : List (Fin 16 × BitVec 56)) (s : State), 7 ≤ s.get CFG_STATE_STATE ∧ s.get CFG_STATE_STATE ≤ 9 ∧ (s.elapse dt).cmdRejects (motionRow 0x03 n mode tag data) = 0 ∧ 0 ≤ (accepted n tag (s.elapse dt)).axVMax n :=
  ⟨(5), (3), (0), (0xABCD), ([(1, 9)]), ((st [(CFG_STATE_STATE, 8), (PRF_AXST_STATE 3, 2)])), by decide +kernel⟩

theorem wit_MotionMoves_7 : ∃ (dt : Nat) (n : Fin 256) (mode : Fin 16) (tag : BitVec 32) (data : List (Fin 16 × BitVec 56)) (s : State), 7 ≤ s.get CFG_STATE_STATE ∧ s.get CFG_STATE_STATE ≤ 9 ∧ (s.elapse dt).cmdRejects (motionRow 0x04 n mode tag data) = 0 ∧ s.cmdState n ≠ 4 :=
  ⟨(5), (3), (0), (0xABCD), ([(3, 9)]), ((st [(CFG_STATE_STATE, 8), (PRF_AXST_STATE 3, 2), (PRF_AXST_STATE 3, 3)])), by decide +kernel⟩

theorem wit_MotionMoves_8 : ∃ (dt : Nat) (n : Fin 256) (mode : Fin 16) (tag : BitVec 32) (data : List (Fin 16 × BitVec 56)) (k : Coupling) (s : State), 7 ≤ s.get CFG_STATE_STATE ∧ s.get CFG_STATE_STATE ≤ 9 ∧ (s.elapse dt).cmdRejects (motionRow 0x04 n mode tag data) = 0 ∧ s.cmdState n = 4 ∧ (s.mot n).cpl = some k :=
  ⟨(5), (3), (0), (0xABCD), ([(3, 9)]), ({ master := 1, isCam := false, tag := 0, engage := .locked }), ((st [(CFG_STATE_STATE, 8), (PRF_AXST_STATE 3, 2), (PRF_AXST_STATE 3, 4)]).onMot 3 fun m => { m with cpl := some { master := 1, isCam := false, tag := 0, engage := .locked } }), by decide +kernel⟩

theorem wit_MotionMoves_9 : ∃ (dt : Nat) (n : Fin 256) (mode : Fin 16) (tag : BitVec 32) (data : List (Fin 16 × BitVec 56)) (s : State), 7 ≤ s.get CFG_STATE_STATE ∧ s.get CFG_STATE_STATE ≤ 9 ∧ (s.elapse dt).cmdRejects (motionRow 0x13 n mode tag data) = 0 :=
  ⟨(5), (3), (0), (0xABCD), ([(0, 9)]), ((st [(CFG_STATE_STATE, 8), (PRF_AXST_STATE 3, 2), (PRF_AXST_STATE 3, 4)])), by decide +kernel⟩

theorem wit_MotionRedefines_1 : ∃ (dt : Nat) (n : Fin 256) (mode : Fin 16) (tag : BitVec 32) (data : List (Fin 16 × BitVec 56)) (s : State), 7 ≤ s.get CFG_STATE_STATE ∧ s.get CFG_STATE_STATE ≤ 9 ∧ (s.elapse dt).cmdRejects (motionRow 0x05 n mode tag data) = 0 :=
  ⟨(5), (3), (0), (0xABCD), ([(0, 9)]), ((st [(CFG_STATE_STATE, 8), (PRF_AXST_STATE 3, 2)])), by decide +kernel⟩

theorem wit_MotionRedefines_2 : ∃ (dt : Nat) (n : Fin 256) (mode : Fin 16) (tag : BitVec 32) (data : List (Fin 16 × BitVec 56)) (s : State), 7 ≤ s.get CFG_STATE_STATE ∧ s.get CFG_STATE_STATE ≤ 9 ∧ (s.elapse dt).cmdRejects (motionRow 0x21 n mode tag data) = 0 :=
  ⟨(5), (3), (0), (0xABCD), ([(0, 9)]), ((st [(CFG_STATE_STATE, 8), (PRF_AXST_STATE 3, 2), (PRF_VMST_EN 3, 1)])), by decide +kernel⟩

theorem wit_MotionRedefines_3 : ∃ (dt : Nat) (n : Fin 256) (mode : Fin 16) (tag : BitVec 32) (data : List (Fin 16 × BitVec 56)) (s : State), 7 ≤ s.get CFG_STATE_STATE ∧ s.get CFG_STATE_STATE ≤ 9 ∧ (s.elapse dt).cmdRejects (motionRow 0x20 n mode tag data) = 0 ∧ 0 ≤ (s.elapse dt).rd64S (PRF_VMVMAX n) :=
  ⟨(5), (3), (0), (0xABCD), ([(1, -9), (2, 3)]), ((st [(CFG_STATE_STATE, 8), (PRF_AXST_STATE 3, 2), (PRF_VMST_EN 3, 1), (whole (PRF_VMVMAX 3), 5)])), by decide +kernel⟩

theorem wit_MotionRedefines_4 : ∃ (dt : Nat) (n : Fin 256) (mode : Fin 16) (tag : BitVec 32) (data : List (Fin 16 × BitVec 56)) (s : State), 7 ≤ s.get CFG_STATE_STATE ∧ s.get CFG_STATE_STATE ≤ 9 ∧ (s.elapse dt).cmdRejects (motionRow 0x06 n mode tag data) = 0 :=
  ⟨(5), (3), (7), (0xABCD), ([(0, 9), (1, 4)]), ((st [(CFG_STATE_STATE, 8), (PRF_AXST_STATE 3, 2)])), by decide +kernel⟩

theorem wit_MotionRedefines_5 : ∃ (dt : Nat) (n : Fin 256) (mode : Fin 16) (tag : BitVec 32) (data : List (Fin 16 × BitVec 56)) (s : State), 7 ≤ s.get CFG_STATE_STATE ∧ s.get CFG_STATE_STATE ≤ 9 ∧ (s.elapse dt).cmdRejects (motionRow 0x30 n mode tag data) = 0 :=
  ⟨(5), (3), (0), (0xABCD), ([]), ((st [(CFG_STATE_STATE, 8), (PRF_AXST_STATE 3, 2), (PRF_GRPST_STATE 3, 2)])), by decide +kernel⟩

theorem wit_Couplings_1 : ∃ (dt : Nat) (n : Fin 256) (mode : Fin 16) (tag : BitVec 32) (data : List (Fin 16 × BitVec 56)) (s : State), 7 ≤ s.get CFG_STATE_STATE ∧ s.get CFG_STATE_STATE ≤ 9 ∧ (s.elapse dt).cmdRejects (motionRow 0x10 n mode tag data) = 0 ∧ mode.val % 4 ≠ 1 :=
  ⟨(5), (3), (0), (0xABCD), ([(5, 0x1004), (6, 3), (7, 2)]), (((entry4 4 [(0x10, 1)] (st [(CFG_STATE_STATE, 8), (PRF_AXST_STATE 3, 2)])).onPrf fun p => { p with cams := [CT] })), by decide +kernel⟩

theorem wit_Couplings_2 : ∃ (dt : Nat) (n : Fin 256) (mode : Fin 16) (tag : BitVec 32) (data : List (Fin 16 × BitVec 56)) (s : State), 7 ≤ s.get CFG_STATE_STATE ∧ s.get CFG_STATE_STATE ≤ 9 ∧ (s.elapse dt).cmdRejects (motionRow 0x10 n mode tag data) = 0 ∧ mode.val % 4 = 1 :=
  ⟨(5), (3), (1), (0xABCD), ([(5, 0x1004), (6, 3), (7, 2), (8, 55), (9, 20)]), (((entry4 4 [(0x10, 1)] (st [(CFG_STATE_STATE, 8), (PRF_AXST_STATE 3, 2)])).onPrf fun p => { p with cams := [CT] })), by decide +kernel⟩

theorem wit_Couplings_3 : ∃ (dt : Nat) (n : Fin 256) (mode : Fin 16) (tag : BitVec 32) (data : List (Fin 16 × BitVec 56)) (s : State), 7 ≤ s.get CFG_STATE_STATE ∧ s.get CFG_STATE_STATE ≤ 9 ∧ (s.elapse dt).cmdRejects (motionRow 0x11 n mode tag data) = 0 ∧ mode.val % 4 ≠ 1 :=
  ⟨(5), (3), (0), (0xABCD), ([(5, 0x1004), (0xA, 4), (0xB, 0), (0xC, 0)]), (((entry4 4 [(0x10, 1)] (st [(CFG_STATE_STATE, 8), (PRF_AXST_STATE 3, 2)])).onPrf fun p => { p with cams := [CT] })), by decide +kernel⟩

theorem wit_Couplings_4 : ∃ (dt : Nat) (n : Fin 256) (mode : Fin 16) (tag : BitVec 32) (data : List (Fin 16 × BitVec 56)) (s : State), 7 ≤ s.get CFG_STATE_STATE ∧ s.get CFG_STATE_STATE ≤ 9 ∧ (s.elapse dt).cmdRejects (motionRow 0x11 n mode tag data) = 0 ∧ mode.val % 4 = 1 :=
  ⟨(5), (3), (1), (0xABCD), ([(5, 0x1004), (0xA, 4), (0xB, 0), (0xC, 0), (8, 55), (9, 20)]), (((entry4 4 [(0x10, 1)] (st [(CFG_STATE_STATE, 8), (PRF_AXST_STATE 3, 2)])).onPrf fun p => { p with cams := [CT] })), by decide +kernel⟩

theorem wit_Couplings_5 : ∃ (dt : Nat) (n : Fin 256) (mode : Fin 16) (tag : BitVec 32) (data : List (Fin 16 × BitVec 56)) (k : Coupling) (s : State), 7 ≤ s.get CFG_STATE_STATE ∧ s.get CFG_STATE_STATE ≤ 9 ∧ (s.elapse dt).cmdRejects (motionRow 0x12 n mode tag data) = 0 ∧ (s.mot n).cpl = some k ∧ mode.val % 4 = 0 :=
  ⟨(5), (3), (0), (0xABCD), ([(3, 9)]), ({ master := 1, isCam := false, tag := 0, engage := .locked }), ((st [(CFG_STATE_STATE, 8), (PRF_AXST_STATE 3, 2), (PRF_AXST_STATE 3, 4)]).onMot 3 fun m => { m with vel := 77, cpl := some { master := 1, isCam := false, tag := 0, engage := .locked } }), by decide +kernel⟩

theorem wit_Couplings_6 : ∃ (dt : Nat) (n : Fin 256) (mode : Fin 16) (tag : BitVec 32) (data : List (Fin 16 × BitVec 56)) (k : Coupling) (s : State), 7 ≤ s.get CFG_STATE_STATE ∧ s.get CFG_STATE_STATE ≤ 9 ∧ (s.elapse dt).cmdRejects (motionRow 0x12 n mode tag data) = 0 ∧ (s.mot n).cpl = some k ∧ mode.val % 4 = 1 :=
  ⟨(5), (3), (1), (0xABCD), ([]), ({ master := 1, isCam := false, tag := 0, engage := .locked }), ((st [(CFG_STATE_STATE, 8), (PRF_AXST_STATE 3, 2), (PRF_AXST_STATE 3, 4)]).onMot 3 fun m => { m with vel := 77, cpl := some { master := 1, isCam := false, tag := 0, engage := .locked } }), by decide +kernel⟩

theorem wit_Couplings_7 : ∃ (dt : Nat) (n : Fin 256) (mode : Fin 16) (tag : BitVec 32) (data : List (Fin 16 × BitVec 56)) (k : Coupling) (s : State), 7 ≤ s.get CFG_STATE_STATE ∧ s.get CFG_STATE_STATE ≤ 9 ∧ (s.elapse dt).cmdRejects (motionRow 0x12 n mode tag data) = 0 ∧ (s.mot n).cpl = some k ∧ mode.val % 4 = 2 :=
  ⟨(5), (3), (2), (0xABCD), ([(8, 66)]), ({ master := 1, isCam := false, tag := 0, engage := .locked }), ((st [(CFG_STATE_STATE, 8), (PRF_AXST_STATE 3, 2), (PRF_AXST_STATE 3, 4)]).onMot 3 fun m => { m with vel := 77, cpl := some { master := 1, isCam := false, tag := 0, engage := .locked } }), by decide +kernel⟩

theorem wit_MotionRejections_1 : ∃ (dt : Nat) (n : Fin 256) (mode : Fin 16) (tag : BitVec 32) (data : List (Fin 16 × BitVec 56)) (s : State), 7 ≤ s.get CFG_STATE_STATE ∧ s.get CFG_STATE_STATE ≤ 9 ∧ (motionRow 0x02 n mode tag data).malformed = true :=
  ⟨(5), (3), (0), (0xABCD), ([(0, 7), (0, 7)]), ((st [(CFG_STATE_STATE, 8), (PRF_AXST_STATE 3, 2)])), by decide +kernel⟩

theorem wit_MotionRejections_2 : ∃ (dt : Nat) (n : Fin 256) (mode : Fin 16) (tag : BitVec 32) (data : List (Fin 16 × BitVec 56)) (s : State), 7 ≤ s.get CFG_STATE_STATE ∧ s.get CFG_STATE_STATE ≤ 9 ∧ (motionRow 0x02 n mode tag data).malformed = false ∧ s.groupOf n = none ∧ (s.axis n).moved = 0 ∧ s.axState n ≠ 2 ∧ s.axState n ≠ 3 ∧ s.cmdState n ≠ 4 :=
  ⟨(5), (3), (0), (0xABCD), ([(0, 7)]), ((st [(CFG_STATE_STATE, 8), (PRF_AXST_STATE 3, 2), (PRF_AXST_STATE 3, 0)])), by decide +kernel⟩

theorem wit_MotionRejections_3 : ∃ (dt : Nat) (n : Fin 256) (mode : Fin 16) (tag : BitVec 32) (data : List (Fin 16 × BitVec 56)) (s : State), 7 ≤ s.get CFG_STATE_STATE ∧ s.get CFG_STATE_STATE ≤ 9 ∧ (motionRow 0x02 n mode tag data).malformed = false ∧ s.groupOf n = none ∧ (s.axis n).moved = 0 ∧ s.axState n = 4 :=
  ⟨(5), (3), (0), (0xABCD), ([(0, 7)]), ((st [(CFG_STATE_STATE, 8), (PRF_AXST_STATE 3, 2), (PRF_AXST_STATE 3, 4)])), by decide +kernel⟩

theorem wit_MotionRejections_4 : ∃ (dt : Nat) (n : Fin 256) (mode : Fin 16) (tag : BitVec 32) (data : List (Fin 16 × BitVec 56)) (s : State), 7 ≤ s.get CFG_STATE_STATE ∧ s.get CFG_STATE_STATE ≤ 9 ∧ (motionRow 0x02 n mode tag data).malformed = false ∧ s.groupOf n = none ∧ (s.axis n).moved ≠ 0 ∧ s.axState n ≠ 2 ∧ s.axState n ≠ 3 :=
  ⟨(5), (3), (0), (0xABCD), ([(0, 7)]), ((st [(CFG_STATE_STATE, 8), (PRF_AXST_STATE 3, 2), (PRF_AXST_STATE 3, 6)]).onAxis 3 fun x => { x with moved := 1 }), by decide +kernel⟩

theorem wit_MotionRejections_5 : ∃ (dt : Nat) (n : Fin 256) (mode : Fin 16) (tag : BitVec 32) (data : List (Fin 16 × BitVec 56)) (s : State), 7 ≤ s.get CFG_STATE_STATE ∧ s.get CFG_STATE_STATE ≤ 9 ∧ (motionRow 0x01 n mode tag data).malformed = false ∧ s.groupOf n = none ∧ (s.get CFG_CHG_BUSY = 0 ∨ s.axState n ≠ 2) ∧ (s.axis n).disabling = false ∧ (s.axState n = 2 ∨ s.axState n = 3) ∧ s.cmdState n = s.axState n ∧ 3 < mode.val :=
  ⟨(5), (3), (4), (0xABCD), ([(0, 7)]), ((st [(CFG_STATE_STATE, 8), (PRF_AXST_STATE 3, 2)])), by decide +kernel⟩

theorem wit_MotionRejections_6 : ∃ (dt : Nat) (n : Fin 256) (mode : Fin 16) (tag : BitVec 32) (data : List (Fin 16 × BitVec 56)) (v : Int) (s : State), 7 ≤ s.get CFG_STATE_STATE ∧ s.get CFG_STATE_STATE ≤ 9 ∧ (motionRow 0x03 n mode tag data).malformed = false ∧ s.groupOf n = none ∧ (s.get CFG_CHG_BUSY = 0 ∨ s.axState n ≠ 2) ∧ (s.axis n).disabling = false ∧ (s.axState n = 2 ∨ s.axState n = 3) ∧ s.cmdState n = s.axState n ∧ (motionRow 0x03 n mode tag data).arg 2 = some v ∧ v ≤ 0 :=
  ⟨(5), (3), (0), (0xABCD), ([(1, 7), (2, 0)]), (0), ((st [(CFG_STATE_STATE, 8), (PRF_AXST_STATE 3, 2)])), by decide +kernel⟩

theorem wit_MotionRejections_7 : ∃ (dt : Nat) (n : Fin 256) (mode : Fin 16) (tag : BitVec 32) (data : List (Fin 16 × BitVec 56)) (s : State), 7 ≤ s.get CFG_STATE_STATE ∧ s.get CFG_STATE_STATE ≤ 9 ∧ (motionRow 0x10 n mode tag data).malformed = false ∧ s.groupOf n = none ∧ (s.get CFG_CHG_BUSY = 0 ∨ s.axState n ≠ 2) ∧ (s.axis n).disabling = false ∧ (s.axState n = 2 ∨ s.axState n = 3) ∧ s.cmdState n = s.axState n ∧ (s.elapse dt).outOfRange n (motionRow 0x10 n mode tag data) = false ∧ (motionRow 0x10 n mode tag data).arg 5 = some (n.val : Int) :=
  ⟨(5), (3), (0), (0xABCD), ([(5, 3), (6, 7), (7, 1)]), ((st [(CFG_STATE_STATE, 8), (PRF_AXST_STATE 3, 2)])), by decide +kernel⟩

theorem wit_MotionRejections_8 : ∃ (dt : Nat) (n : Fin 256) (mode : Fin 16) (tag : BitVec 32) (data : List (Fin 16 × BitVec 56)) (s : State), 7 ≤ s.get CFG_STATE_STATE ∧ s.get CFG_STATE_STATE ≤ 9 ∧ (motionRow 0x11 n mode tag data).malformed = false ∧ s.groupOf n = none ∧ (s.get CFG_CHG_BUSY = 0 ∨ s.axState n ≠ 2) ∧ (s.axis n).disabling = false ∧ (s.axState n = 2 ∨ s.axState n = 3) ∧ s.cmdState n = s.axState n ∧ (s.elapse dt).outOfRange n (motionRow 0x11 n mode tag data) = false ∧ (s.elapse dt).masterNamed (motionRow 0x11 n mode tag data).selector = true ∧ (s.elapse dt).chainOk n 4 (motionRow 0x11 n mode tag data).selector = true ∧ (s.elapse dt).mposOut (motionRow 0x11 n mode tag data).selector (motionRow 0x11 n mode tag data) = false ∧ s.cam (((motionRow 0x11 n mode tag data).arg 0xA).getD 0).toNat = none :=
  ⟨(5), (3), (0), (0xABCD), ([(5, 0x1004), (0xA, 4), (0xB, 0), (0xC, 0)]), (entry4 4 [(0x10, 1)] (st [(CFG_STATE_STATE, 8), (PRF_AXST_STATE 3, 2)])), by decide +kernel⟩

theorem wit_MotionRejections_9 : ∃ (dt : Nat) (n : Fin 256) (mode : Fin 16) (tag : BitVec 32) (data : List (Fin 16 × BitVec 56)) (s : State), 7 ≤ s.get CFG_STATE_STATE ∧ s.get CFG_STATE_STATE ≤ 9 ∧ (motionRow 0x02 n mode tag data).malformed = false ∧ s.get CFG_CHG_BUSY = 1 ∧ s.axState n = 2 :=
  ⟨(5), (3), (0), (0xABCD), ([(0, 7)]), ((st [(CFG_STATE_STATE, 8), (PRF_AXST_STATE 3, 2), (CFG_CHG_BUSY, 1)])), by decide +kernel⟩

theorem wit_MotionRejections_10 : ∃ (dt : Nat) (n : Fin 256) (mode : Fin 16) (tag : BitVec 32) (data : List (Fin 16 × BitVec 56)) (g : Fin 16) (s : State), 7 ≤ s.get CFG_STATE_STATE ∧ s.get CFG_STATE_STATE ≤ 9 ∧ (motionRow 0x02 n mode tag data).malformed = false ∧ (s.get CFG_CHG_BUSY = 0 ∨ s.axState n ≠ 2) ∧ s.groupOf n = some g.val ∧ s.groupActive g = true :=
  ⟨(5), (3), (0), (0xABCD), ([(0, 7)]), (2), ((st [(CFG_STATE_STATE, 8), (PRF_AXST_STATE 3, 2), (PRF_AXST_STATE 3, 3), (PRF_GRPST_STATE 2, 2), (PRF_GRPCFG_NAX 2, 2), (whole (PRF_GRPAX 2), 0x0304)])), by decide +kernel⟩

theorem wit_MotionRejections_11 : ∃ (dt : Nat) (n : Fin 256) (mode : Fin 16) (tag : BitVec 32) (data : List (Fin 16 × BitVec 56)) (s : State), 7 ≤ s.get CFG_STATE_STATE ∧ s.get CFG_STATE_STATE ≤ 9 ∧ (motionRow 0x20 n mode tag data).malformed = false ∧ (8 ≤ n.val ∨ s.get (PRF_VMST_EN n) = 0) :=
  ⟨(5), (3), (0), (0xABCD), ([(1, 7)]), ((st [(CFG_STATE_STATE, 8), (PRF_AXST_STATE 3, 2)])), by decide +kernel⟩

theorem wit_MotionRejections_12 : ∃ (dt : Nat) (n : Fin 256) (mode : Fin 16) (tag : BitVec 32) (data : List (Fin 16 × BitVec 56)) (s : State), 7 ≤ s.get CFG_STATE_STATE ∧ s.get CFG_STATE_STATE ≤ 9 ∧ (motionRow 0x30 n mode tag data).malformed = false ∧ (16 ≤ n.val ∨ s.get (PRF_GRPST_STATE n) ≤ 1 ∨ 5 ≤ s.get (PRF_GRPST_STATE n)) :=
  ⟨(5), (3), (0), (0xABCD), ([]), ((st [(CFG_STATE_STATE, 8), (PRF_AXST_STATE 3, 2)])), by decide +kernel⟩

theorem wit_PathSegments_1 : ∃ (dt : Nat) (g : Fin 16) (mode : Fin 16) (tag : BitVec 32) (data : List (Fin 16 × BitVec 56)) (s : State), 7 ≤ s.get CFG_STATE_STATE ∧ s.get CFG_STATE_STATE ≤ 9 ∧ (s.elapse dt).groupTakes g = true ∧ (s.get (PRF_GRPST_STATE g) = 2 ∨ s.get (PRF_GRPST_STATE g) = 3) ∧ segNamed (motionRow 0x80 g mode tag data) g (s.nax g) (s.grp g).feed = true :=
  ⟨(5), (2), (1), (0x77), ([(0, 5), (1, 6), (0xB, 3)]), ((st [(CFG_STATE_STATE, 8), (PRF_GRPST_STATE 2, 2), (PRF_GRPCFG_NAX 2, 2), (PRF_GRPCFG_NGEO 2, 2), (whole (PRF_GRPAX 2), 0x0304), (PRF_AXST_STATE 3, 2), (PRF_AXST_STATE 4, 2)]).onGrp 2 fun x => { x with feed := some 9 }), by decide +kernel⟩

theorem wit_PathSegments_2 : ∃ (dt : Nat) (g : Fin 16) (mode : Fin 16) (tag : BitVec 32) (data : List (Fin 16 × BitVec 56)) (s : State), 7 ≤ s.get CFG_STATE_STATE ∧ s.get CFG_STATE_STATE ≤ 9 ∧ (s.elapse dt).groupTakes g = true ∧ s.get (PRF_GRPST_STATE g) = 1 ∧ s.mayStart g = true ∧ segNamed (motionRow 0x80 g mode tag data) g (s.nax g) (s.grp g).feed = true :=
  ⟨(5), (2), (1), (0x77), ([(0, 5), (1, 6), (0xB, 3)]), ((st [(CFG_STATE_STATE, 8), (PRF_GRPST_STATE 2, 1), (PRF_GRPCFG_NAX 2, 2), (PRF_GRPCFG_NGEO 2, 2), (whole (PRF_GRPAX 2), 0x0304), (PRF_AXST_STATE 3, 2), (PRF_AXST_STATE 4, 2)]).onGrp 2 fun x => { x with feed := some 9 }), by decide +kernel⟩

theorem wit_PathSegments_3 : ∃ (dt : Nat) (g : Fin 16) (mode : Fin 16) (tag : BitVec 32) (data : List (Fin 16 × BitVec 56)) (s : State), 7 ≤ s.get CFG_STATE_STATE ∧ s.get CFG_STATE_STATE ≤ 9 ∧ (s.elapse dt).groupTakes g = true ∧ (s.get (PRF_GRPST_STATE g) = 2 ∨ s.get (PRF_GRPST_STATE g) = 3) ∧ segNamed (motionRow 0x81 g mode tag data) g (s.nax g) (s.grp g).feed = true ∧ arcRadiiOk (motionRow 0x81 g mode tag data) (s.pathEnd g) = true :=
  ⟨(5), (2), (0), (0x77), ([(0, 0), (1, 0), (8, 0), (9, 0)]), ((st [(CFG_STATE_STATE, 8), (PRF_GRPST_STATE 2, 2), (PRF_GRPCFG_NAX 2, 2), (PRF_GRPCFG_NGEO 2, 2), (whole (PRF_GRPAX 2), 0x0304), (PRF_AXST_STATE 3, 2), (PRF_AXST_STATE 4, 2)]).onGrp 2 fun x => { x with feed := some 9 }), by decide +kernel⟩

theorem wit_PathSegments_4 : ∃ (dt : Nat) (g : Fin 16) (mode : Fin 16) (tag : BitVec 32) (data : List (Fin 16 × BitVec 56)) (s : State), 7 ≤ s.get CFG_STATE_STATE ∧ s.get CFG_STATE_STATE ≤ 9 ∧ (s.elapse dt).groupTakes g = true ∧ s.get (PRF_GRPST_STATE g) = 1 ∧ s.mayStart g = true ∧ segNamed (motionRow 0x81 g mode tag data) g (s.nax g) (s.grp g).feed = true ∧ arcRadiiOk (motionRow 0x81 g mode tag data) (s.pathEnd g) = true :=
  ⟨(5), (2), (0), (0x77), ([(0, 0), (1, 0), (8, 0), (9, 0)]), ((st [(CFG_STATE_STATE, 8), (PRF_GRPST_STATE 2, 1), (PRF_GRPCFG_NAX 2, 2), (PRF_GRPCFG_NGEO 2, 2), (whole (PRF_GRPAX 2), 0x0304), (PRF_AXST_STATE 3, 2), (PRF_AXST_STATE 4, 2)]).onGrp 2 fun x => { x with feed := some 9 }), by decide +kernel⟩

theorem wit_PathSegments_5 : ∃ (dt : Nat) (g : Fin 16) (mode : Fin 16) (tag : BitVec 32) (data : List (Fin 16 × BitVec 56)) (s : State), 7 ≤ s.get CFG_STATE_STATE ∧ s.get CFG_STATE_STATE ≤ 9 ∧ (s.elapse dt).groupTakes g = true ∧ (s.get (PRF_GRPST_STATE g) = 2 ∨ s.get (PRF_GRPST_STATE g) = 3) ∧ segNamed (motionRow 0x82 g mode tag data) g (s.nax g) (s.grp g).feed = true ∧ arcRadiiOk (motionRow 0x82 g mode tag data) (s.pathEnd g) = true :=
  ⟨(5), (2), (0), (0x77), ([(0, 0), (1, 0), (8, 0), (9, 0), (0xB, 70)]), ((st [(CFG_STATE_STATE, 8), (PRF_GRPST_STATE 2, 2), (PRF_GRPCFG_NAX 2, 2), (PRF_GRPCFG_NGEO 2, 2), (whole (PRF_GRPAX 2), 0x0304), (PRF_AXST_STATE 3, 2), (PRF_AXST_STATE 4, 2)]).onGrp 2 fun x => { x with feed := some 9 }), by decide +kernel⟩

theorem wit_PathSegments_6 : ∃ (dt : Nat) (g : Fin 16) (mode : Fin 16) (tag : BitVec 32) (data : List (Fin 16 × BitVec 56)) (s : State), 7 ≤ s.get CFG_STATE_STATE ∧ s.get CFG_STATE_STATE ≤ 9 ∧ (s.elapse dt).groupTakes g = true ∧ s.get (PRF_GRPST_STATE g) = 1 ∧ s.mayStart g = true ∧ segNamed (motionRow 0x82 g mode tag data) g (s.nax g) (s.grp g).feed = true ∧ arcRadiiOk (motionRow 0x82 g mode tag data) (s.pathEnd g) = true :=
  ⟨(5), (2), (0), (0x77), ([(0, 0), (1, 0), (8, 0), (9, 0), (0xB, 70)]), ((st [(CFG_STATE_STATE, 8), (PRF_GRPST_STATE 2, 1), (PRF_GRPCFG_NAX 2, 2), (PRF_GRPCFG_NGEO 2, 2), (whole (PRF_GRPAX 2), 0x0304), (PRF_AXST_STATE 3, 2), (PRF_AXST_STATE 4, 2)]).onGrp 2 fun x => { x with feed := some 9 }), by decide +kernel⟩

theorem wit_PathSegments_7 : ∃ (dt : Nat) (g : Fin 16) (mode : Fin 16) (tag : BitVec 32) (data : List (Fin 16 × BitVec 56)) (s : State), 7 ≤ s.get CFG_STATE_STATE ∧ s.get CFG_STATE_STATE ≤ 9 ∧ (s.elapse dt).groupTakes g = true ∧ (s.get (PRF_GRPST_STATE g) = 2 ∨ s.get (PRF_GRPST_STATE g) = 3) ∧ segNamed (motionRow 0x83 g mode tag data) g (s.nax g) (s.grp g).feed = true :=
  ⟨(5), (2), (8), (0x77), ([(0, 5)]), ((st [(CFG_STATE_STATE, 8), (PRF_GRPST_STATE 2, 2), (PRF_GRPCFG_NAX 2, 2), (PRF_GRPCFG_NGEO 2, 2), (whole (PRF_GRPAX 2), 0x0304), (PRF_AXST_STATE 3, 2), (PRF_AXST_STATE 4, 2)]).onGrp 2 fun x => { x with feed := some 9 }), by decide +kernel⟩

theorem wit_PathSegments_8 : ∃ (dt : Nat) (g : Fin 16) (mode : Fin 16) (tag : BitVec 32) (data : List (Fin 16 × BitVec 56)) (s : State), 7 ≤ s.get CFG_STATE_STATE ∧ s.get CFG_STATE_STATE ≤ 9 ∧ (s.elapse dt).groupTakes g = true ∧ s.get (PRF_GRPST_STATE g) = 1 ∧ s.mayStart g = true ∧ segNamed (motionRow 0x83 g mode tag data) g (s.nax g) (s.grp g).feed = true :=
  ⟨(5), (2), (8), (0x77), ([(0, 5)]), ((st [(CFG_STATE_STATE, 8), (PRF_GRPST_STATE 2, 1), (PRF_GRPCFG_NAX 2, 2), (PRF_GRPCFG_NGEO 2, 2), (whole (PRF_GRPAX 2), 0x0304), (PRF_AXST_STATE 3, 2), (PRF_AXST_STATE 4, 2)]).onGrp 2 fun x => { x with feed := some 9 }), by decide +kernel⟩

theorem wit_PathSegments_9 : ∃ (dt : Nat) (g : Fin 16) (mode : Fin 16) (tag : BitVec 32) (data : List (Fin 16 × BitVec 56)) (s : State), 7 ≤ s.get CFG_STATE_STATE ∧ s.get CFG_STATE_STATE ≤ 9 ∧ (s.elapse dt).groupTakes g = true ∧ (s.get (PRF_GRPST_STATE g) = 2 ∨ s.get (PRF_GRPST_STATE g) = 3) ∧ segNamed (motionRow 0x84 g mode tag data) g (s.nax g) (s.grp g).feed = true :=
  ⟨(5), (2), (0), (0x77), ([(0xD, 5)]), ((st [(CFG_STATE_STATE, 8), (PRF_GRPST_STATE 2, 2), (PRF_GRPCFG_NAX 2, 2), (PRF_GRPCFG_NGEO 2, 2), (whole (PRF_GRPAX 2), 0x0304), (PRF_AXST_STATE 3, 2), (PRF_AXST_STATE 4, 2)]).onGrp 2 fun x => { x with feed := some 9 }), by decide +kernel⟩

theorem wit_PathSegments_10 : ∃ (dt : Nat) (g : Fin 16) (mode : Fin 16) (tag : BitVec 32) (data : List (Fin 16 × BitVec 56)) (s : State), 7 ≤ s.get CFG_STATE_STATE ∧ s.get CFG_STATE_STATE ≤ 9 ∧ (s.elapse dt).groupTakes g = true ∧ s.get (PRF_GRPST_STATE g) = 1 ∧ s.mayStart g = true ∧ segNamed (motionRow 0x84 g mode tag data) g (s.nax g) (s.grp g).feed = true :=
  ⟨(5), (2), (0), (0x77), ([(0xD, 5)]), ((st [(CFG_STATE_STATE, 8), (PRF_GRPST_STATE 2, 1), (PRF_GRPCFG_NAX 2, 2), (PRF_GRPCFG_NGEO 2, 2), (whole (PRF_GRPAX 2), 0x0304), (PRF_AXST_STATE 3, 2), (PRF_AXST_STATE 4, 2)]).onGrp 2 fun x => { x with feed := some 9 }), by decide +kernel⟩

theorem wit_PathSegments_11 : ∃ (dt : Nat) (g : Fin 16) (mode : Fin 16) (tag : BitVec 32) (data : List (Fin 16 × BitVec 56)) (s : State), 7 ≤ s.get CFG_STATE_STATE ∧ s.get CFG_STATE_STATE ≤ 9 ∧ (s.elapse dt).groupTakes g = true ∧ s.get (PRF_GRPST_STATE g) = 1 ∧ s.mayStart g = false ∧ segNamed (motionRow 0x80 g mode tag data) g (s.nax g) (s.grp g).feed = true :=
  ⟨(5), (2), (0), (0x77), ([(0, 5)]), ((st [(CFG_STATE_STATE, 8), (PRF_GRPST_STATE 2, 1), (PRF_GRPCFG_NAX 2, 2), (PRF_GRPCFG_NGEO 2, 2), (whole (PRF_GRPAX 2), 0x0304), (PRF_AXST_STATE 3, 2), (PRF_AXST_STATE 4, 0)]).onGrp 2 fun x => { x with feed := some 9 }), by decide +kernel⟩

theorem wit_PathSegments_12 : ∃ (dt : Nat) (g : Fin 16) (mode : Fin 16) (tag : BitVec 32) (data : List (Fin 16 × BitVec 56)) (s : State), 7 ≤ s.get CFG_STATE_STATE ∧ s.get CFG_STATE_STATE ≤ 9 ∧ (s.elapse dt).groupTakes g = true ∧ (s.get (PRF_GRPST_STATE g) = 1 ∨ s.get (PRF_GRPST_STATE g) = 4) ∧ segNamed (motionRow 0x80 g mode tag data) g (s.nax g) (s.grp g).feed = false :=
  ⟨(5), (2), (0), (0x77), ([(0, 5), (0, 6)]), ((st [(CFG_STATE_STATE, 8), (PRF_GRPST_STATE 2, 1), (PRF_GRPCFG_NAX 2, 2), (PRF_GRPCFG_NGEO 2, 2), (whole (PRF_GRPAX 2), 0x0304), (PRF_AXST_STATE 3, 2), (PRF_AXST_STATE 4, 2)]).onGrp 2 fun x => { x with feed := some 9 }), by decide +kernel⟩

theorem wit_GroupRegisters_1 : ∃ (dt : Nat) (who : Accessor) (g : Fin 16) (v : BitVec 64) (s : State), s.get (PRF_GRPST_STATE g) ≤ 1 ∧ (s.axesFree g ((List.range (s.nax g)).map fun i => v.toNat / 256 ^ i % 256) = true) :=
  ⟨(5), (.core 1), (2), (0x0304), (st [(PRF_GRPST_STATE 2, 1), (PRF_GRPCFG_NAX 2, 2), (PRF_GRPCFG_NGEO 2, 2)]), by decide +kernel⟩

theorem wit_GroupRegisters_2 : ∃ (dt : Nat) (who : Accessor) (g : Fin 16) (v : BitVec 64) (s : State), (2 ≤ s.get (PRF_GRPST_STATE g) ∨ s.axesFree g ((List.range (s.nax g)).map fun i => v.toNat / 256 ^ i % 256) = false) :=
  ⟨(5), (.core 1), (2), (0x0304), (st [(PRF_GRPST_STATE 2, 2), (PRF_GRPCFG_NAX 2, 2), (PRF_GRPCFG_NGEO 2, 2)]), by decide +kernel⟩

theorem wit_GroupRegisters_3 : ∃ (dt : Nat) (who : Accessor) (g : Fin 16) (v : BitVec 64) (s : State), s.get (PRF_GRPST_STATE g) ≤ 1 ∧ v.toNat % 16 ≤ 8 ∧ (v.toNat % 16 = 0 ∨ 1 ≤ v.toNat / 16 % 8 ∧ v.toNat / 16 % 8 ≤ 3) ∧ (v.toNat % 16 = 0 ∨ s.qCap (0x10 + g) ≠ 0) ∧ (s.axesFree g ((List.range (v.toNat % 16)).map fun i => s.slotAxis g i) = true) :=
  ⟨(5), (.core 1), (2), (0x22), (st [(QUE_CFG_CAPL 0x12, 5), (whole (PRF_GRPAX 2), 0x0304)]), by decide +kernel⟩

theorem wit_GroupRegisters_4 : ∃ (dt : Nat) (who : Accessor) (g : Fin 16) (v : BitVec 64) (s : State), (2 ≤ s.get (PRF_GRPST_STATE g) ∨ 8 < v.toNat % 16 ∨ v.toNat % 16 ≠ 0 ∧ s.qCap (0x10 + g) = 0 ∨ s.axesFree g ((List.range (v.toNat % 16)).map fun i => s.slotAxis g i) = false) :=
  ⟨(5), (.core 1), (2), (0x22), (State.reset), by decide +kernel⟩

theorem wit_GroupRegisters_5 : ∃ (dt : Nat) (g : Fin 16) (v : BitVec 32) (s : State), v.toNat % 4096 ≤ 0x800 :=
  ⟨(5), (2), (0x800), (State.reset), by decide +kernel⟩

theorem wit_GroupRegisters_6 : ∃ (dt : Nat) (g : Fin 16) (v : BitVec 32) (s : State), 0x800 < v.toNat % 4096 :=
  ⟨(5), (2), (0x801), (State.reset), by decide +kernel⟩

theorem wit_PathPeriods_2 : ∃ (dt : Nat) (g : Fin 16) (c : MotCmd) (w : List MotCmd) (s : State), s.prf.due = [512 + g.val] ∧ s.get (PRF_GRPST_STATE g) = 2 ∧ (s.grp g).speed = 0 ∧ (s.grp g).run = none ∧ (s.grp g).window = c :: w ∧ c.op = 0x84 ∧ ((c.arg 0xD).getD 0).toNat ≤ (s.grp g).dwelt + 1 :=
  ⟨(5), (2), ({ op := 0x84, index := 2, mode := 0, tag := 5, data := [(0xD, 3)] }), ([]), (((st [(PRF_GRPST_STATE 2, 2), (PRF_GRPCFG_NAX 2, 2), (PRF_GRPCFG_NGEO 2, 2), (whole (PRF_GRPAX 2), 0x0304)]).onPrf fun p => { p with due := [514] }).onGrp 2 fun x => { x with window := [{ op := 0x84, index := 2, mode := 0, tag := 5, data := [(0xD, 3)] }], dwelt := 2 }), by decide +kernel⟩

theorem wit_PathPeriods_3 : ∃ (dt : Nat) (g : Fin 16) (c : MotCmd) (w : List MotCmd) (s : State), s.prf.due = [512 + g.val] ∧ s.get (PRF_GRPST_STATE g) = 2 ∧ (s.grp g).speed = 0 ∧ (s.grp g).run = none ∧ (s.grp g).window = c :: w ∧ c.op = 0x84 ∧ (s.grp g).dwelt + 1 < ((c.arg 0xD).getD 0).toNat :=
  ⟨(5), (2), ({ op := 0x84, index := 2, mode := 0, tag := 5, data := [(0xD, 3)] }), ([]), (((st [(PRF_GRPST_STATE 2, 2), (PRF_GRPCFG_NAX 2, 2), (PRF_GRPCFG_NGEO 2, 2), (whole (PRF_GRPAX 2), 0x0304)]).onPrf fun p => { p with due := [514] }).onGrp 2 fun x => { x with window := [{ op := 0x84, index := 2, mode := 0, tag := 5, data := [(0xD, 3)] }], dwelt := 1 }), by decide +kernel⟩

theorem wit_PathPeriods_4 : ∃ (dt : Nat) (g : Fin 16) (s : State), s.prf.due = [512 + g.val] ∧ s.get (PRF_GRPST_STATE g) = 2 ∧ (s.grp g).speed ≠ 0 ∧ (s.grp g).plan = [] ∧ (s.grp g).window = [] ∧ (s.grp g).run = none ∧ (s.grp g).lastCorner = 0 :=
  ⟨(5), (2), (((st [(PRF_GRPST_STATE 2, 2), (PRF_GRPCFG_NAX 2, 2), (PRF_GRPCFG_NGEO 2, 2), (whole (PRF_GRPAX 2), 0x0304)]).onPrf fun p => { p with due := [514] }).onGrp 2 fun x => { x with speed := 5, lastCorner := 0 }), by decide +kernel⟩

theorem wit_PathPeriods_5 : ∃ (dt : Nat) (g : Fin 16) (s : State), s.prf.due = [512 + g.val] ∧ s.get (PRF_GRPST_STATE g) = 2 ∧ (s.grp g).speed ≠ 0 ∧ (s.grp g).plan = [] ∧ (s.grp g).window = [] ∧ (s.grp g).run = none ∧ (s.grp g).lastCorner ≠ 0 :=
  ⟨(5), (2), (((st [(PRF_GRPST_STATE 2, 2), (PRF_GRPCFG_NAX 2, 2), (PRF_GRPCFG_NGEO 2, 2), (whole (PRF_GRPAX 2), 0x0304)]).onPrf fun p => { p with due := [514] }).onGrp 2 fun x => { x with speed := 5, lastCorner := 1 }), by decide +kernel⟩

theorem wit_PathPeriods_6 : ∃ (dt : Nat) (g : Fin 16) (c : MotCmd) (w : List MotCmd) (s : State), s.prf.due = [512 + g.val] ∧ s.get (PRF_GRPST_STATE g) = 2 ∧ (s.grp g).window = c :: w ∧ c.op ≠ 0x84 ∧ c.op ≠ 0xFF ∧ (s.grp g).ovr = 0 ∧ ((s.grp g).speed = 0 ∨ (s.grp g).plan = []) :=
  ⟨(5), (2), ({ op := 0x80, index := 2, mode := 1, tag := 5, data := [(0xD, 3)] }), ([]), (((st [(PRF_GRPST_STATE 2, 2), (PRF_GRPCFG_NAX 2, 2), (PRF_GRPCFG_NGEO 2, 2), (whole (PRF_GRPAX 2), 0x0304)]).onPrf fun p => { p with due := [514] }).onGrp 2 fun x => { x with ovr := 0, window := [{ op := 0x80, index := 2, mode := 1, tag := 5, data := [(0xD, 3)] }] }), by decide +kernel⟩

theorem wit_PathPeriods_7 : ∃ (dt : Nat) (g : Fin 16) (s : State), 512 + g.val ∉ s.prf.due :=
  ⟨(5), (2), (State.reset), by decide +kernel⟩

theorem wit_PathPeriods_8 : ∃ (dt : Nat) (g : Fin 16) (s : State), 512 + g.val ∉ s.prf.due :=
  ⟨(5), (2), (State.reset), by decide +kernel⟩

theorem wit_PathPeriods_9 : ∃ (dt : Nat) (g : Fin 16) (s : State), 512 + g.val ∉ s.prf.due :=
  ⟨(5), (2), (State.reset), by decide +kernel⟩

/-- A path that ends where it starts, about to end. -/
def pathState : State := ((st [(PRF_GRPST_STATE 2, 2), (PRF_GRPCFG_NAX 2, 2), (PRF_GRPCFG_NGEO 2, 2), (whole (PRF_GRPAX 2), 0x0304)]).onPrf fun p => { p with due := [514] }).onGrp 2 fun x => { x with speed := 5, plan := [(2 ^ 64, [0, 0])], window := [{ op := 0x80, index := 2, mode := 0, tag := 5, data := [(0xD, 3)] }], run := some { start := [0, 0] } }

theorem pathState_moves : ∃ m l, ((pathState.elapse 5).onPrf fun p => { p with due := [] }).pathMoves 2 (pathState.grp 2).ovr = m :: l := by
  have h : ((pathState.elapse 5).onPrf fun p => { p with due := [] }).pathTakes 2 (pathState.grp 2).ovr [] = false := by decide +kernel
  have k : ((pathState.elapse 5).onPrf fun p => { p with due := [] }).pathTakes 2 (pathState.grp 2).ovr
      (((pathState.elapse 5).onPrf fun p => { p with due := [] }).grp 2).plan = true := by decide +kernel
  have e : (((pathState.elapse 5).onPrf fun p => { p with due := [] }).grp 2).plan = [(2 ^ 64, [0, 0])] := by decide +kernel
  unfold State.pathMoves State.movesUnder
  simp only [k, if_true]
  split
  · rename_i hc
    cases hf : Config.freePath ((pathState.elapse 5).onPrf fun p => { p with due := [] }).fresh with
    | nil => rw [hf, h] at hc; exact absurd hc (by decide)
    | cons m l => exact ⟨m, l, rfl⟩
  · rw [e]; exact ⟨_, _, rfl⟩

theorem wit_PathPeriods_1 : ∃ (dt : Nat) (g : Fin 16) (m : Nat × List Int) (l : List (Nat × List Int)) (v : Trace) (s : State),
    s.prf.due = [512 + g.val] ∧ s.get (PRF_GRPST_STATE g) = 2 ∧ (s.grp g).speed ≠ 0 ∧ (s.grp g).plan ≠ [] ∧ (s.grp g).run.isSome = true ∧
    (s.grp g).ovr ≠ 0 ∧ ((s.elapse dt).onPrf fun p => { p with due := [] }).pathMoves g (s.grp g).ovr = m :: l ∧
    (((s.elapse dt).onPrf fun p => { p with due := [] }).trace g).go (s.ngeo g) pathSegs m.1 = v := by
  obtain ⟨m, l, h⟩ := pathState_moves
  exact ⟨5, 2, m, l, _, pathState, by decide +kernel, by decide +kernel, by decide +kernel, by decide +kernel, by decide +kernel,
    by decide +kernel, h, rfl⟩

theorem wit_AxisPeriods_1 : ∃ (dt : Nat) (n : Fin 264) (c : MotCmd) (p : Plan) (s : State), n.val < 256 ∧ s.prf.due = [n.val] ∧ s.axState n = 3 ∧ s.subOf n = none ∧ s.groupOf n = none ∧ (s.mot n).cpl = none ∧ (s.mot n).cmd = some c ∧ (s.mot n).probing = none ∧ (s.mot n).plan = some p ∧ p.target = some 0 ∧ p.speed = 0 ∧ (s.mot n).vel = 0 ∧ (s.mot n).acc = 0 :=
  ⟨(5), (3), ({ op := 0x80, index := 2, mode := 0, tag := 5 }), ({ target := some 0 }), (((st [(PRF_AXST_STATE 3, 3), (PRF_MVST_MODE 3, 1)]).onPrf fun p => { p with due := [3] }).onMot 3 fun m => { m with cmd := some { op := 0x80, index := 2, mode := 0, tag := 5 }, plan := some { target := some 0 } }), by decide +kernel⟩

theorem wit_AxisPeriods_2 : ∃ (dt : Nat) (n : Fin 264) (c : MotCmd) (p : Plan) (s : State), 256 ≤ n.val ∧ s.prf.due = [n.val] ∧ (s.mot n).cmd = some c ∧ (s.mot n).probing = none ∧ (s.mot n).plan = some p ∧ p.target = none ∧ p.v = none ∧ (s.mot n).vel = p.speed ∧ (s.mot n).acc = 0 ∧ -(s.rd64S (PRF_VMVMAX (n - 256))) ≤ p.speed ∧ p.speed ≤ s.rd64S (PRF_VMVMAX (n - 256)) :=
  ⟨(5), (258), ({ op := 0x80, index := 2, mode := 0, tag := 5 }), ({ speed := 5 }), (((st [(whole (PRF_VMVMAX 2), 7)]).onPrf fun p => { p with due := [258] }).onMot 258 fun m => { m with cmd := some { op := 0x80, index := 2, mode := 0, tag := 5 }, plan := some { speed := 5 }, vel := 5 }), by decide +kernel⟩

theorem wit_AxisPeriods_3 : ∃ (dt : Nat) (n : Fin 256) (p : Plan) (w : Int) (l : List Int) (d : Int) (s : State), n.val < 256 ∧ s.prf.due = [n.val] ∧ s.axState n = 3 ∧ s.subOf n = none ∧ s.groupOf n = none ∧ (s.mot n).cpl = none ∧ (s.mot n).probing = none ∧ (s.mot n).plan = some p ∧ p.ahead = true ∧ p.first = false ∧ p.run = w :: l ∧ p.lim = some ((s.elapse dt).planLim n p (s.mot n).vel (s.mot n).acc) ∧ turnOf p (s.mot n).vel w = some d :=
  ⟨(5), (3), ({ target := some (-900000), ahead := true, first := false, run := [0, -4], lim := some LIM3 }), (0), ([-4]), (900000), (entry4 3 LIMB ((((st [(PRF_AXST_STATE 3, 3), (PRF_MVST_MODE 3, 1)]).onPrf fun p => { p with due := [3] }).onMot 3 fun m => { m with cmd := some { op := 0x80, index := 2, mode := 0, tag := 5 }, plan := some { target := some (-900000), ahead := true, first := false, run := [0, -4], lim := some LIM3 }, vel := 5, acc := 0 }).onRegs fun t => tabSet t (LSH_SPD_E 3) 1)), by decide +kernel⟩

theorem wit_AxisPeriods_4 : ∃ (dt : Nat) (n : Fin 256) (k : Coupling) (s : State), n.val < 256 ∧ s.prf.due = [n.val] ∧ s.axState n = 3 ∧ s.subOf n = none ∧ s.groupOf n = none ∧ (s.mot n).cpl = some k ∧ k.engage = Engage.catching ∧ k.isCam = false ∧ k.endAt = none ∧ (s.mot n).sup = none ∧ max (nextRange n (s.elapse dt)).1 (max (shorterWay (s.motMod n) (gearPlace s k - (s.mot n).pos) - 2 ^ 32) ((gearPlace s k - k.cv) - 2 ^ 32)) ≤ min (nextRange n (s.elapse dt)).2 (min (shorterWay (s.motMod n) (gearPlace s k - (s.mot n).pos) + 2 ^ 32) ((gearPlace s k - k.cv) + 2 ^ 32)) :=
  ⟨(5), (3), ({ master := 0x1004, isCam := false, tag := 3, engage := .catching, num := 1, den := 1, mLast := 0, cv := 0 }), (((st [(PRF_AXST_STATE 3, 3), (PRF_MVST_MODE 3, 1)]).onPrf fun p => { p with due := [3] }).onMot 3 fun m => { m with cpl := some { master := 0x1004, isCam := false, tag := 3, engage := .catching, num := 1, den := 1, mLast := 0, cv := 0 } } ), by decide +kernel⟩

theorem wit_AxisPeriods_5 : ∃ (dt : Nat) (n : Fin 256) (k : Coupling) (s : State), n.val < 256 ∧ s.prf.due = [n.val] ∧ s.axState n = 3 ∧ s.subOf n = none ∧ s.groupOf n = none ∧ (s.mot n).cpl = some k ∧ k.engage = Engage.waiting ∧ k.endAt = none ∧ (k.atOnce = true ∨ crosses k.mLast (shorterWay (s.masterMod k.master) (s.masterAt k.master - k.mLast)) k.mpos (s.masterMod k.master) = true) :=
  ⟨(5), (3), ({ master := 0x1004, isCam := false, tag := 3, engage := .waiting, num := 1, den := 1, mLast := 0, cv := 0, atOnce := true }), (((st [(PRF_AXST_STATE 3, 3), (PRF_MVST_MODE 3, 1)]).onPrf fun p => { p with due := [3] }).onMot 3 fun m => { m with cpl := some { master := 0x1004, isCam := false, tag := 3, engage := .waiting, num := 1, den := 1, mLast := 0, cv := 0, atOnce := true } }), by decide +kernel⟩

theorem wit_AxisPeriods_6 : ∃ (dt : Nat) (n : Fin 256) (k : Coupling) (p : Int) (s : State), n.val < 256 ∧ s.prf.due = [n.val] ∧ s.axState n = 3 ∧ s.subOf n = none ∧ s.groupOf n = none ∧ (s.mot n).cpl = some k ∧ k.engage ≠ Engage.waiting ∧ k.endAt = some p ∧ (k.endOnce = true ∨ crosses k.mLast (shorterWay (s.masterMod k.master) (s.masterAt k.master - k.mLast)) p (s.masterMod k.master) = true) :=
  ⟨(5), (3), ({ master := 0x1004, isCam := false, tag := 3, engage := .locked, num := 1, den := 1, mLast := 0, cv := 0, endAt := some 5, endOnce := true }), (5), (((st [(PRF_AXST_STATE 3, 3), (PRF_MVST_MODE 3, 1)]).onPrf fun p => { p with due := [3] }).onMot 3 fun m => { m with cpl := some { master := 0x1004, isCam := false, tag := 3, engage := .locked, num := 1, den := 1, mLast := 0, cv := 0, endAt := some 5, endOnce := true } }), by decide +kernel⟩

theorem wit_AxisPeriods_7 : ∃ (dt : Nat) (n : Fin 256) (k : Coupling) (t : CamTable) (s : State), n.val < 256 ∧ s.prf.due = [n.val] ∧ s.axState n = 3 ∧ s.subOf n = none ∧ s.groupOf n = none ∧ (s.mot n).cpl = some k ∧ k.engage = Engage.locked ∧ k.isCam = true ∧ k.endAt = none ∧ s.cam k.camId = some t ∧ t.periodic = false ∧ k.inSpan = true ∧ t.inside (k.mu + shorterWay (s.masterMod k.master) (s.masterAt k.master - k.mLast) - k.mofs) (s.masterMod k.master) = false :=
  ⟨(5), (3), ({ master := 0x1004, isCam := true, tag := 3, engage := .locked, camId := 4, mofs := 999999999999999 }), (CT2), ((((st [(PRF_AXST_STATE 3, 3), (PRF_MVST_MODE 3, 1)]).onPrf fun p => { p with due := [3] }).onMot 3 fun m => { m with cpl := some { master := 0x1004, isCam := true, tag := 3, engage := .locked, camId := 4, mofs := 999999999999999 } }).onPrf fun p => { p with cams := [CT2] }), by decide +kernel⟩

theorem wit_AxisPeriods_8 : ∃ (dt : Nat) (n : Fin 264) (s : State), n.val ∉ s.prf.due :=
  ⟨(5), (3), (State.reset), by decide +kernel⟩

theorem wit_AxisPeriods_9 : ∃ (dt : Nat) (n : Fin 256) (s : State), n.val ∉ s.prf.due :=
  ⟨(5), (3), (State.reset), by decide +kernel⟩

theorem wit_AxisPeriods_10 : ∃ (dt : Nat) (n : Fin 256) (s : State), n.val ∉ s.prf.due :=
  ⟨(5), (3), (State.reset), by decide +kernel⟩

theorem wit_AxisPeriods_11 : ∃ (dt : Nat) (n : Fin 256) (s : State), n.val ∉ s.prf.due :=
  ⟨(5), (3), (State.reset), by decide +kernel⟩

theorem wit_AxisPeriods_12 : ∃ (dt : Nat) (n : Fin 256) (s : State), n.val ∉ s.prf.due :=
  ⟨(5), (3), (State.reset), by decide +kernel⟩

theorem wit_ProfileBoundary_1 : ∃ (dt : Nat) (late : Bool) (took : BitVec 32) (s : State), ((s.elapse dt).profileRuns = false ∨ (s.elapse dt).atBoundary s.profilePeriod = false) :=
  ⟨(5), (false), (7), (State.reset), by decide +kernel⟩

theorem wit_ProfileBoundary_2 : ∃ (dt : Nat) (late : Bool) (took : BitVec 32) (s : State), s.profileRuns = true ∧ (s.elapse dt).atBoundary s.profilePeriod = true :=
  ⟨(1000000), (true), (9), ((st [(CFG_STATE_STATE, 8)]).onClk fun c => { c with running := true }), by decide +kernel⟩

theorem wit_ProfileBoundary_3 : ∃ (dt : Nat) (took : BitVec 32) (n : Fin 256) (s : State), s.profileRuns = true ∧ (s.elapse dt).atBoundary s.profilePeriod = true ∧ (∀ k : Fin 16, s.subAxis k = none) ∧ s.prf.due = [] ∧ s.axKind n ≠ 0 ∧ s.axState n = 2 ∧ (s.mot n).redef = none ∧ (s.mot n).next = none ∧ s.get (LSH_PCFG_ENV n) = 0 ∧ |(s.mot n).vel| ≤ (s.rd (LSH_SPD_E n) : Int) * 2 ^ 24 :=
  ⟨(1000000), (9), (3), ((entry4 3 [(0x10, 1)] ((st [(CFG_STATE_STATE, 8), (PRF_AXST_STATE 3, 2), (whole (LSH_SPD_E 3), 9)]).onClk fun c => { c with running := true })).onMot 3 fun m => { m with pos := 65536 * 77, vel := 5 }), by decide +kernel⟩

theorem wit_ProfileBoundary_4 : ∃ (dt : Nat) (took : BitVec 32) (k : Fin 8) (s : State), s.profileRuns = true ∧ (s.elapse dt).atBoundary s.profilePeriod = true ∧ s.prf.due = [] ∧ s.get (PRF_VMST_EN k) = 1 ∧ (s.mot (256 + k.val)).redef = none :=
  ⟨(1000000), (9), (3), (((st [(CFG_STATE_STATE, 8), (PRF_VMST_EN 3, 1)]).onClk fun c => { c with running := true }).onMot 259 fun m => { m with pos := 65536 * 77, vel := 5 }), by decide +kernel⟩

theorem wit_SlotInstances_1 : ∃ (dt : Nat) (j : Fin 256) (late : Bool) (s : State), (s.get (ENG_SLCFG_VALID j) = 0 ∨ (late = false ∧ (s.elapse dt).slotDue j = false) ∨ s.get (ENG_CST_RUN (4 * (j.val / 32) + s.get (ENG_SLCFG_CTX j))) ≠ 1 ∨ j.val / 32 ∈ s.eng.halted) :=
  ⟨(5), (7), (true), (State.reset), by decide +kernel⟩

theorem wit_SlotInstances_2 : ∃ (dt : Nat) (j : Fin 256) (s : State), s.get (ENG_SLCFG_VALID j) = 1 ∧ (s.elapse dt).slotDue j = true ∧ s.get (ENG_CST_RUN (4 * (j.val / 32) + s.get (ENG_SLCFG_CTX j))) = 1 ∧ j.val / 32 ∉ s.eng.halted :=
  ⟨(100), (7), ((st [(ENG_SLCFG_VALID 7, 1), (ENG_SLCFG_SECT 7, 1), (ENG_SLCFG_CTX 7, 3), (whole (ENG_SLPER 7), 100), (ENG_SLLEN_LEN 7, 9), (ENG_CST_RUN 3, 1), (ENG_CST_PREPOS 3, 1), (ENG_CST_PREVEL 3, 1), (PRF_AXST_STATE 3, 3)]).onClk fun c => { c with running := true }), by decide +kernel⟩

theorem wit_SlotInstances_3 : ∃ (dt : Nat) (j : Fin 256) (s : State), s.get (ENG_SLCFG_VALID j) = 1 ∧ (s.elapse dt).slotDue j = true ∧ s.get (ENG_CST_RUN (4 * (j.val / 32) + s.get (ENG_SLCFG_CTX j))) = 1 ∧ j.val / 32 ∉ s.eng.halted ∧ (s.cx (4 * (j.val / 32) + s.get (ENG_SLCFG_CTX j))).slot = none ∧ s.get (ENG_SLLEN_LEN j) ≤ (s.elapse dt).toLatch (4 * (j.val / 32) + s.get (ENG_SLCFG_CTX j)) :=
  ⟨(100), (7), ((st [(ENG_SLCFG_VALID 7, 1), (ENG_SLCFG_SECT 7, 2), (ENG_SLCFG_CTX 7, 3), (whole (ENG_SLPER 7), 100), (ENG_SLLEN_LEN 7, 9), (ENG_CST_RUN 3, 1), (ENG_CST_PREPOS 3, 1), (ENG_CST_PREVEL 3, 1), (PRF_AXST_STATE 3, 3)]).onClk fun c => { c with running := true }), by decide +kernel⟩

theorem wit_SlotInstances_4 : ∃ (dt : Nat) (j : Fin 256) (s : State), s.get (ENG_SLCFG_VALID j) = 1 ∧ s.get (ENG_CST_RUN (4 * (j.val / 32) + s.get (ENG_SLCFG_CTX j))) = 1 ∧ j.val / 32 ∉ s.eng.halted ∧ s.get (ENG_SLCFG_SECT j) ≠ 3 ∧ 1 ≤ s.axState (4 * (j.val / 32) + s.get (ENG_SLCFG_CTX j)) ∧ s.axState (4 * (j.val / 32) + s.get (ENG_SLCFG_CTX j)) ≤ 5 :=
  ⟨(77), (7), ((st [(ENG_SLCFG_VALID 7, 1), (ENG_SLCFG_SECT 7, 1), (ENG_SLCFG_CTX 7, 3), (whole (ENG_SLPER 7), 100), (ENG_SLLEN_LEN 7, 9), (ENG_CST_RUN 3, 1), (ENG_CST_PREPOS 3, 1), (ENG_CST_PREVEL 3, 1), (PRF_AXST_STATE 3, 3)]).onClk fun c => { c with running := true }), by decide +kernel⟩

theorem wit_LoopBoundaries_1 : ∃ (dt : Nat) (a : Fin 32) (s : State), s.isLocal a = true ∧ (s.elapse dt).atBoundary (s.velPeriod a) = true :=
  ⟨(500), (3), ((entry4 3 [(0x10, 1), (0x200, 1), (0x201, 1), (0x202, 5), (0x203, 10), (0x204, 100)] (st [])).onClk fun c => { c with running := true }), by decide +kernel⟩

theorem wit_LoopBoundaries_2 : ∃ (dt : Nat) (a : Fin 32) (s : State), (s.isLocal a = false ∨ (s.elapse dt).atBoundary (s.velPeriod a) = false) :=
  ⟨(5), (3), (State.reset), by decide +kernel⟩

theorem wit_LoopBoundaries_3 : ∃ (dt : Nat) (a : Fin 32) (s : State), s.isLocal a = true ∧ (s.elapse dt).atBoundary (s.posPeriod a) = true ∧ s.posPeriod a ≤ s.profilePeriod :=
  ⟨(1000), (3), ((entry4 3 [(0x10, 1), (0x200, 1), (0x201, 1), (0x202, 5), (0x203, 10), (0x204, 100)] (st [(whole (PRF_SPOS 3), 0x12345678), (whole (PRF_SVEL 3), 0xFFFF), (ENG_SST_STATE 3, 1), (ENG_SST_SETTLE 3, 9)])).onClk fun c => { c with running := true }), by decide +kernel⟩

theorem wit_LoopBoundaries_4 : ∃ (dt : Nat) (a : Fin 32) (s : State), (s.isLocal a = false ∨ (s.elapse dt).atBoundary (s.posPeriod a) = false) :=
  ⟨(5), (3), (State.reset), by decide +kernel⟩

theorem wit_LoopBoundaries_5 : ∃ (dt : Nat) (a : Fin 32) (b0 b1 b2 : List Bool) (s : State), (s.elapse dt).strobeDue a = true :=
  ⟨(100), (3), ([true]), ([]), ([]), ((entry4 3 ([(0x10, 1), (0x200, 1), (0x201, 1), (0x204, 100), (0x0B0, 7), (0x0B2, 2), (0x0B4, 2), (0x0BD, 0x40)] : List (Nat × Byte)) (st [])).onClk fun c => { c with running := true }), by decide +kernel⟩

theorem wit_LoopBoundaries_6 : ∃ (dt : Nat) (a : Fin 32) (b0 b1 b2 : List Bool) (s : State), (s.elapse dt).strobeDue a = false :=
  ⟨(5), (3), ([true]), ([]), ([]), (State.reset), by decide +kernel⟩

theorem wit_LoopBoundaries_7 : ∃ (dt : Nat) (a : Fin 32) (b0 b1 b2 : List Bool) (s : State), s.isLocal a = true ∧ (s.elapse dt).atBoundary (s.axBper a) = true ∧ s.axCMode a = 2 ∧ s.get (ENG_CST_RUN a) = 1 ∧ a.val / 4 ∉ s.eng.halted :=
  ⟨(100), (3), ([true]), ([]), ([]), ((entry4 3 ([(0x10, 1), (0x200, 2), (0x20C, 100), (0x0B0, 7), (0x0B2, 2), (0x0B4, 2), (0x0BD, 0x40)] : List (Nat × Byte)) (st [(ENG_CST_RUN 3, 1), (ENG_BAND_MINDW 3, 4), (ENG_BAND_STU 3, 1)])).onClk fun c => { c with running := true }), by decide +kernel⟩

theorem wit_LoopBoundaries_8 : ∃ (dt : Nat) (a : Fin 32) (b0 b1 b2 : List Bool) (s : State), (s.isLocal a = false ∨ s.axCMode a ≠ 2 ∨ s.get (ENG_CST_RUN a) ≠ 1 ∨ a.val / 4 ∈ s.eng.halted ∨ (s.elapse dt).atBoundary (s.axBper a) = false) :=
  ⟨(5), (3), ([true]), ([]), ([]), (State.reset), by decide +kernel⟩

theorem wit_LearningUnits_1 : ∃ (dt : Nat) (a : Fin 32) (s : State), (s.cx a).due = false :=
  ⟨(5), (3), (State.reset), by decide +kernel⟩

theorem wit_LearningUnits_2 : ∃ (dt : Nat) (a : Fin 32) (s : State), (s.cx a).due = true :=
  ⟨(5), (3), ((entry4 3 [(0x300, 1)] State.reset).onCx 3 fun c => { c with due := true, sdv := some 9 }), by decide +kernel⟩

theorem wit_LearningUnits_3 : ∃ (dt : Nat) (a : Fin 32) (s : State), (s.cx a).due = true ∧ s.get (ENG_SST_STATE a) = 1 ∧ s.get (ENG_FLG_AVV a) &&& s.axU a 0x351 1 ≠ 0 :=
  ⟨(5), (3), ((entry4 3 [(0x351, 3)] (st [(ENG_SST_STATE 3, 1), (ENG_FLG_AVV 3, 2)])).onCx 3 fun c => { c with due := true }), by decide +kernel⟩

theorem wit_LearningUnits_4 : ∃ (dt : Nat) (a : Fin 32) (s : State), (s.cx a).due = true ∧ s.get (ENG_SST_STATE a) = 2 ∧ s.accel a = none ∧ bit (s.axU a 0x350 1) 0 = true ∧ s.rfOver a (s.axU a 0x354 2) = true ∧ s.axU a 0x353 1 ≤ min (s.get (ENG_SST_RUN a) + 1) 255 ∧ 1 ≤ s.axState a ∧ s.axState a ≤ 5 :=
  ⟨(5), (3), (((entry4 3 [(0x350, 1), (0x353, 3), (0x354, 1)] (st [(ENG_SST_STATE 3, 2), (ENG_SST_RUN 3, 2), (PRF_AXST_STATE 3, 3)])).onCx 3 fun c => { c with due := true }).onShp fun t => tabMod {} t 3 fun x => { x with rf := 2 ^ 30 }), by decide +kernel⟩

theorem wit_LearningUnits_5 : ∃ (dt : Nat) (a : Fin 32) (s : State), s.get (ENG_SST_STATE a) = 1 ∧ s.get (ENG_SST_SETTLE a) = 0 :=
  ⟨(5), (3), (st [(ENG_SST_STATE 3, 1), (PRF_AXST_SDPEND 3, 1)]), by decide +kernel⟩

theorem wit_LearningUnits_6 : ∃ (dt : Nat) (a : Fin 32) (s : State), (s.get (ENG_SST_STATE a) ≠ 1 ∨ s.get (ENG_SST_SETTLE a) ≠ 0) :=
  ⟨(5), (3), (State.reset), by decide +kernel⟩

theorem wit_LearningUnits_8 : ∃ (dt : Nat) (a : Fin 32) (s : State), (s.darn a).clear = true ∧ (s.elapse dt).atBoundary (s.velPeriod a) = true :=
  ⟨(500), (3), (((entry4 3 [(0x10, 1), (0x200, 1), (0x201, 1), (0x202, 5), (0x203, 10), (0x204, 100)] (st [])).onClk fun c => { c with running := true }).onDarn 3 fun d => { d with clear := true, mem := [(4, 9)] }), by decide +kernel⟩

theorem wit_LearningUnits_9 : ∃ (dt : Nat) (a : Fin 32) (s : State), ((s.darn a).clear = false ∨ (s.elapse dt).atBoundary (s.velPeriod a) = false) :=
  ⟨(500), (3), (State.reset), by decide +kernel⟩

theorem wit_EngineOrder_1 : ∃ (x : Fin 32) (s : State), (s.cx x).loops = [] :=
  ⟨(5), (SE), by decide +kernel⟩

theorem wit_EngineOrder_2 : ∃ (x : Fin 32) (first last left : Nat) (l : List (Nat × Nat × Nat)) (s : State), (s.cx x).loops = (first, last, left) :: l ∧ last ≠ (s.cx x).pc :=
  ⟨(5), (3), (9), (2), ([]), (SE.onCx 5 fun c => { c with loops := [(3, 9, 2)] }), by decide +kernel⟩

theorem wit_EngineOrder_3 : ∃ (x : Fin 32) (first last left : Nat) (l : List (Nat × Nat × Nat)) (s : State), (s.cx x).loops = (first, last, left) :: l ∧ last = (s.cx x).pc ∧ 1 < left :=
  ⟨(5), (3), (4), (2), ([]), (SE.onCx 5 fun c => { c with loops := [(3, 4, 2)] }), by decide +kernel⟩

theorem wit_EngineOrder_4 : ∃ (x : Fin 32) (first last left : Nat) (s : State), (s.cx x).loops = [(first, last, left)] ∧ last = (s.cx x).pc ∧ left ≤ 1 :=
  ⟨(5), (3), (4), (1), (SE.onCx 5 fun c => { c with loops := [(3, 4, 1)] }), by decide +kernel⟩

theorem wit_EngineOrder_6 : ∃ (x : Fin 32) (count : Fin 4096) (len : Fin 64) (s : State), (s.cx x).loops = [] ∧ len.val ≠ 0 :=
  ⟨(5), (3), (2), (SE), by decide +kernel⟩

theorem wit_EngineArithmetic_12 : ∃ (x : Fin 32) (a b : Fin 4) (y z w v : Fin 16) (sg1 sg2 : Bool) (s : State), a ≠ b :=
  ⟨(5), (1), (2), (2), (3), (1), (2), (true), (false), (SE), by decide +kernel⟩

theorem wit_EngineArithmetic_20 : ∃ (x : Fin 32) (ds dc y : Fin 16) (s : State), ds ≠ dc :=
  ⟨(5), (4), (6), (1), (SE), by decide +kernel⟩

theorem wit_EngineSelects_1 : ∃ (x : Fin 32) (d : Fin 16) (cc : Fin 32) (y z : Fin 16) (s : State), s.cond x cc = true :=
  ⟨(5), (4), (1), (1), (2), (SE), by decide +kernel⟩

theorem wit_EngineSelects_2 : ∃ (x : Fin 32) (a : Fin 4) (cc : Fin 32) (b e : Fin 4) (s : State), s.cond x cc = true :=
  ⟨(5), (3), (1), (1), (2), (SE), by decide +kernel⟩

theorem wit_EngineSelects_3 : ∃ (x : Fin 32) (l : Fin 4) (cc : Fin 32) (m n : Fin 4) (s : State), s.cond x cc = true :=
  ⟨(5), (3), (1), (1), (2), (SE), by decide +kernel⟩

theorem wit_EngineSelects_4 : ∃ (x : Fin 32) (d : Fin 16) (cc : Fin 32) (y z : Fin 16) (s : State), s.cond x cc = false :=
  ⟨(5), (4), (17), (1), (2), (SE), by decide +kernel⟩

theorem wit_EngineSelects_5 : ∃ (x : Fin 32) (a : Fin 4) (cc : Fin 32) (b e : Fin 4) (s : State), s.cond x cc = false :=
  ⟨(5), (3), (17), (1), (2), (SE), by decide +kernel⟩

theorem wit_EngineSelects_6 : ∃ (x : Fin 32) (l : Fin 4) (cc : Fin 32) (m n : Fin 4) (s : State), s.cond x cc = false :=
  ⟨(5), (3), (17), (1), (2), (SE), by decide +kernel⟩

theorem wit_SenseAndFeedback_1 : ∃ (dt : Nat) (a : Fin 32) (h : Fin 3) (l : List Bool) (s : State), (s.elapse dt).overCurrent a h l = true :=
  ⟨(100000), (3), (0), (List.replicate 8 true), ((entry4 3 ([(0x10, 1), (0x80, 4), (0x0B1, 7), (0x0B2, 2), (0x0B4, 2), (0x0B6, 1), (0x0BD, 0x40)] : List (Nat × Byte)) (st [(PRF_AXST_STATE 3, 3), (PWM_AXST_EN 3, 1), (CSF_SDC_TSD 0, 50)])).onClk fun c => { c with running := true }), by decide +kernel⟩

theorem wit_SenseAndFeedback_2 : ∃ (dt : Nat) (a : Fin 32) (h : Fin 3) (l : List Bool) (s : State), (s.elapse dt).overCurrent a h l = false :=
  ⟨(5), (3), (0), ([true, true]), (State.reset), by decide +kernel⟩

theorem wit_SenseAndFeedback_3 : ∃ (dt : Nat) (c : Fin 96) (l : List Bool) (s : State), streamStuck l = true ∧ s.enabled (c / 3) = true ∧ c.val % 3 ∈ s.fitted (c / 3) ∧ (s.axis (c / 3)).enAt + 64 * s.get (CSF_SDC_TSD (s.axSdClk (c / 3))) ≤ (s.elapse dt).clk.elapsed ∧ c.val ∉ s.csf.stuck ∧ (s.elapse dt).sddEdge c = true ∧ (s.axFbPort (c / 3) = 0xFF ∨ s.portOwner (s.axFbPort (c / 3)) = some (c.val / 3)) :=
  ⟨(100000), (9), (List.replicate 64 true), ((entry4 3 ([(0x10, 1), (0x80, 4), (0x0B1, 7), (0x0B2, 2), (0x0B4, 2), (0x0B6, 1), (0x0BD, 0x40)] : List (Nat × Byte)) (st [(PRF_AXST_STATE 3, 3), (PWM_AXST_EN 3, 1), (CSF_SDC_TSD 0, 50)])).onClk fun c => { c with running := true }), by decide +kernel⟩

theorem wit_SenseAndFeedback_4 : ∃ (dt : Nat) (c : Fin 96) (l : List Bool) (s : State), streamStuck l = false ∧ (s.elapse dt).sddEdge c = true :=
  ⟨(100000), (9), ([]), (((entry4 3 ([(0x10, 1), (0x80, 4), (0x0B1, 7), (0x0B2, 2), (0x0B4, 2), (0x0B6, 1), (0x0BD, 0x40)] : List (Nat × Byte)) (st [(PRF_AXST_STATE 3, 3), (PWM_AXST_EN 3, 1), (CSF_SDC_TSD 0, 50)])).onClk fun c => { c with running := true }).onCsf fun x => { x with stuck := [9, 4] }), by decide +kernel⟩

theorem wit_SenseAndFeedback_5 : ∃ (dt : Nat) (c : Fin 96) (l : List Bool) (s : State), (s.elapse dt).sddEdge c = false :=
  ⟨(5), (9), ([]), (State.reset), by decide +kernel⟩

theorem wit_SenseAndFeedback_6 : ∃ (dt : Nat) (a : Fin 32) (s : State), s.enabled a = true ∧ tabGet 0 s.csf.sumRun a = 16 ∧ (s.axFbPort a = 0xFF ∨ s.portOwner (s.axFbPort a) = some a.val) :=
  ⟨(5), (3), (((entry4 3 ([(0x10, 1), (0x80, 4), (0x0B1, 7), (0x0B2, 2), (0x0B4, 2), (0x0B6, 1), (0x0BD, 0x40)] : List (Nat × Byte)) (st [(PRF_AXST_STATE 3, 3), (PWM_AXST_EN 3, 1), (CSF_SDC_TSD 0, 50)])).onClk fun c => { c with running := true }).onCsf fun c => { c with sumRun := [(3, 16)] }), by decide +kernel⟩

theorem wit_SenseAndFeedback_7 : ∃ (dt : Nat) (a : Fin 32) (s : State), (s.enabled a = false ∨ tabGet 0 s.csf.sumRun a ≠ 16) :=
  ⟨(5), (3), (State.reset), by decide +kernel⟩

theorem wit_SenseAndFeedback_8 : ∃ (dt : Nat) (p : Fin 34) (a b : Bool) (s : State), s.fbMode p = 0 ∧ bit (s.portU p 0x084 1) 2 = false ∧ s.portUsed p = true ∧ (s.elapse dt).quadBusy p = false ∧ (((s.prt p).a ≠ a ∧ (s.prt p).b = b) ∨ ((s.prt p).a = a ∧ (s.prt p).b ≠ b)) :=
  ⟨(5), (4), (true), (false), ((entry4 3 ([(0x10, 1), (0x80, 4), (0x0B1, 7), (0x0B2, 2), (0x0B4, 2), (0x0B6, 1), (0x0BD, 0x40)] : List (Nat × Byte)) (st [(PRF_AXST_STATE 3, 3), (PWM_AXST_EN 3, 1), (CSF_SDC_TSD 0, 50)])).onClk fun c => { c with running := true }), by decide +kernel⟩

theorem wit_SenseAndFeedback_9 : ∃ (dt : Nat) (p : Fin 34) (a b : Bool) (s : State), s.fbMode p = 0 ∧ bit (s.portU p 0x084 1) 2 = false ∧ s.portUsed p = true ∧ (s.elapse dt).quadBusy p = false ∧ (s.prt p).a ≠ a ∧ (s.prt p).b ≠ b :=
  ⟨(5), (4), (true), (true), ((entry4 3 ([(0x10, 1), (0x80, 4), (0x0B1, 7), (0x0B2, 2), (0x0B4, 2), (0x0B6, 1), (0x0BD, 0x40)] : List (Nat × Byte)) (st [(PRF_AXST_STATE 3, 3), (PWM_AXST_EN 3, 1), (CSF_SDC_TSD 0, 50)])).onClk fun c => { c with running := true }), by decide +kernel⟩

theorem wit_SenseAndFeedback_10 : ∃ (dt : Nat) (p : Fin 34) (a b : Bool) (s : State), s.portUsed p = true ∧ (s.elapse dt).quadBusy p = true :=
  ⟨(5), (4), (true), (false), (((entry4 3 ([(0x10, 1), (0x80, 4), (0x0B1, 7), (0x0B2, 2), (0x0B4, 2), (0x0B6, 1), (0x0BD, 0x40)] : List (Nat × Byte)) (st [(PRF_AXST_STATE 3, 3), (PWM_AXST_EN 3, 1), (CSF_SDC_TSD 0, 50)])).onClk fun c => { c with running := true }).onPort 4 fun q => { q with edges := [(1, true)] }), by decide +kernel⟩

theorem wit_SenseAndFeedback_11 : ∃ (dt : Nat) (p : Fin 34) (a b : Bool) (s : State), s.portUsed p = false :=
  ⟨(5), (4), (true), (true), (State.reset), by decide +kernel⟩

theorem wit_SenseAndFeedback_12 : ∃ (dt : Nat) (p : Fin 34) (a b : Bool) (s : State), (s.fbMode p ≠ 0 ∨ (s.prt p).a = a ∧ (s.prt p).b = b) ∧ bit (s.portU p 0x084 1) 2 = false :=
  ⟨(5), (4), (false), (false), (State.reset), by decide +kernel⟩

theorem wit_SenseAndFeedback_13 : ∃ (dt : Nat) (p : Fin 34) (k : Nat) (s : State), s.fbMode p = 0 ∧ s.portUsed p = true ∧ bit (s.portU p 0x084 1) 0 = true ∧ bit (s.portU p 0x084 1) 1 = true ∧ (s.prt p).z = false ∧ (s.prt p).index = some k ∧ (k + s.portU p 0x08C 2 < 4 * s.portU p 0x088 4 ∨ 4 * s.portU p 0x088 4 + s.portU p 0x08C 2 < k) :=
  ⟨(5), (4), (97), ((entry4 3 ([(0x10, 1), (0x80, 4), (0x84, 3), (0x88, 25), (0x8C, 2)] : List (Nat × Byte)) (st [(PRF_AXST_STATE 3, 3)])).onPort 4 fun q => { q with index := some 97 }), by decide +kernel⟩

theorem wit_SenseAndFeedback_14 : ∃ (dt : Nat) (p : Fin 34) (k : Nat) (s : State), s.fbMode p = 0 ∧ s.portUsed p = true ∧ bit (s.portU p 0x084 1) 0 = true ∧ bit (s.portU p 0x084 1) 1 = true ∧ (s.prt p).z = false ∧ (s.prt p).index = some k ∧ 4 * s.portU p 0x088 4 ≤ k + s.portU p 0x08C 2 ∧ k ≤ 4 * s.portU p 0x088 4 + s.portU p 0x08C 2 :=
  ⟨(5), (4), (98), ((entry4 3 ([(0x10, 1), (0x80, 4), (0x84, 3), (0x88, 25), (0x8C, 2)] : List (Nat × Byte)) (st [(PRF_AXST_STATE 3, 3)])).onPort 4 fun q => { q with index := some 98 }), by decide +kernel⟩

theorem wit_SenseAndFeedback_15 : ∃ (dt : Nat) (p : Fin 34) (s : State), (s.portUsed p = false ∨ bit (s.portU p 0x084 1) 0 = false) :=
  ⟨(5), (4), (State.reset), by decide +kernel⟩

theorem wit_SenseAndFeedback_16 : ∃ (dt : Nat) (p : Fin 34) (f : Frame) (o : Fin 32) (y : Nat) (s : State), s.fbMode p = 1 ∧ s.portOwner p = some o.val ∧ s.awaitsRead o = false ∧ s.ssiDecode p f = .inl y ∧ s.jumpTh p = 0 :=
  ⟨(5), (4), (⟨true, true, [], [true, true, false, false, false, false, false, true, true]⟩), (3), (0xC1), (entry4 3 ([(0x10, 1), (0x80, 4), (0x81, 1), (0x82, 8), (0x84, 2), (0x85, 3)] : List (Nat × Byte)) (st [(PRF_AXST_STATE 3, 3)])), by decide +kernel⟩

theorem wit_SenseAndFeedback_17 : ∃ (dt : Nat) (p : Fin 34) (f : Frame) (o : Fin 32) (e : Nat) (s : State), s.fbMode p = 1 ∧ s.portOwner p = some o.val ∧ s.awaitsRead o = false ∧ s.ssiDecode p f = .inr e :=
  ⟨(5), (4), (⟨true, true, [], [true, true, false, false, false, false, false, true, false]⟩), (3), (7), (entry4 3 ([(0x10, 1), (0x80, 4), (0x81, 1), (0x82, 8), (0x84, 2), (0x85, 1)] : List (Nat × Byte)) (st [(PRF_AXST_STATE 3, 3)])), by decide +kernel⟩

theorem wit_SenseAndFeedback_18 : ∃ (dt : Nat) (p : Fin 34) (f : Frame) (ident : Frame) (rtd : Nat) (o : Fin 32) (st : Nat) (d : List Byte) (s : State), s.fbMode p = 2 ∧ bit (s.portU p 0x084 1) 0 = false ∧ s.portOwner p = some o.val ∧ s.awaitsRead o = false ∧ afvenDecode 1 (((s.fbBits p + 7) / 8) + 0) f = .inl (st, d) ∧ s.jumpTh p = 0 :=
  ⟨(5), (4), (⟨true, true, [1, 85, 117], []⟩), (⟨false, false, [], []⟩), (0), (3), (1), ([0x55]), (entry4 3 ([(0x10, 1), (0x80, 4), (0x81, 2), (0x82, 8), (0x84, 0), (0x85, 1)] : List (Nat × Byte)) (st [(PRF_AXST_STATE 3, 3)])), by decide +kernel⟩

theorem wit_SenseAndFeedback_19 : ∃ (dt : Nat) (p : Fin 34) (f : Frame) (ident : Frame) (rtd : Nat) (o : Fin 32) (e : Nat) (s : State), s.fbMode p = 2 ∧ bit (s.portU p 0x084 1) 0 = false ∧ s.portOwner p = some o.val ∧ s.awaitsRead o = false ∧ afvenDecode 1 (((s.fbBits p + 7) / 8) + 0) f = .inr e :=
  ⟨(5), (4), (⟨false, true, [], []⟩), (⟨false, false, [], []⟩), (0), (3), (1), (entry4 3 ([(0x10, 1), (0x80, 4), (0x81, 2), (0x82, 8), (0x84, 0), (0x85, 1)] : List (Nat × Byte)) (st [(PRF_AXST_STATE 3, 3)])), by decide +kernel⟩

theorem wit_SenseAndFeedback_20 : ∃ (dt : Nat) (p : Fin 34) (f : Frame) (ident : Frame) (rtd : Nat) (o : Fin 32) (st : Nat) (d : List Byte) (s : State), s.fbMode p = 2 ∧ bit (s.portU p 0x084 1) 0 = true ∧ s.portOwner p = some o.val ∧ s.awaitsRead o = false ∧ afvenDecode 2 (((s.fbBits p + 7) / 8) + 1) f = .inl (st, d) ∧ s.jumpTh p = 0 :=
  ⟨(5), (4), (⟨true, true, [2, 85, 20, 21], []⟩), (⟨false, false, [], []⟩), (0), (3), (2), ([0x55, 20]), (entry4 3 ([(0x10, 1), (0x80, 4), (0x81, 2), (0x82, 8), (0x84, 1), (0x85, 1)] : List (Nat × Byte)) (st [(PRF_AXST_STATE 3, 3)])), by decide +kernel⟩

theorem wit_SenseAndFeedback_21 : ∃ (dt : Nat) (p : Fin 34) (f : Frame) (ident : Frame) (rtd : Nat) (o : Fin 32) (e : Nat) (s : State), s.fbMode p = 2 ∧ bit (s.portU p 0x084 1) 0 = true ∧ s.portOwner p = some o.val ∧ s.awaitsRead o = false ∧ afvenDecode 2 (((s.fbBits p + 7) / 8) + 1) f = .inr e :=
  ⟨(5), (4), (⟨false, true, [], []⟩), (⟨false, false, [], []⟩), (0), (3), (1), (entry4 3 ([(0x10, 1), (0x80, 4), (0x81, 2), (0x82, 8), (0x84, 1), (0x85, 1)] : List (Nat × Byte)) (st [(PRF_AXST_STATE 3, 3)])), by decide +kernel⟩

theorem wit_SenseAndFeedback_22 : ∃ (dt : Nat) (p : Fin 34) (rsp : Frame) (k : Nat × Nat) (st : Nat) (d : List Byte) (s : State), (s.prt p).areq = some (3, k.1, k.2) ∧ afvenDecode 3 2 rsp = .inl (st, d) :=
  ⟨(5), (4), (⟨true, true, [3, 1, 2, 51], []⟩), ((9, 8)), (3), ([1, 2]), ((st [(FBK_ARSP_ERR 4, 1)]).onPort 4 fun q => { q with areq := some (3, 9, 8) }), by decide +kernel⟩

theorem wit_SenseAndFeedback_23 : ∃ (dt : Nat) (p : Fin 34) (rsp : Frame) (k : Nat × Nat) (e : Nat) (s : State), (s.prt p).areq = some (3, k.1, k.2) ∧ afvenDecode 3 2 rsp = .inr e :=
  ⟨(5), (4), (⟨false, true, [], []⟩), ((9, 8)), (1), ((st [(FBK_ARSP_ERR 4, 1)]).onPort 4 fun q => { q with areq := some (3, 9, 8) }), by decide +kernel⟩

theorem wit_SenseAndFeedback_24 : ∃ (dt : Nat) (p : Fin 34) (rsp : Frame) (k : Nat × Nat) (st : Nat) (d : List Byte) (s : State), (s.prt p).areq = some (6, k.1, k.2) ∧ afvenDecode 6 5 rsp = .inl (st, d) :=
  ⟨(5), (4), (⟨true, true, [6, 1, 2, 3, 4, 5, 244], []⟩), ((9, 8)), (6), ([1, 2, 3, 4, 5]), ((st [(FBK_ARSP_ERR 4, 1)]).onPort 4 fun q => { q with areq := some (6, 9, 8) }), by decide +kernel⟩

theorem wit_SenseAndFeedback_25 : ∃ (dt : Nat) (p : Fin 34) (rsp : Frame) (k : Nat × Nat) (e : Nat) (s : State), (s.prt p).areq = some (6, k.1, k.2) ∧ afvenDecode 6 5 rsp = .inr e :=
  ⟨(5), (4), (⟨false, true, [], []⟩), ((9, 8)), (1), ((st [(FBK_ARSP_ERR 4, 1)]).onPort 4 fun q => { q with areq := some (6, 9, 8) }), by decide +kernel⟩

theorem wit_SenseAndFeedback_26 : ∃ (dt : Nat) (p : Fin 34) (rsp : Frame) (k : Nat × Nat) (st : Nat) (d : List Byte) (s : State), (s.prt p).areq = some (4, k.1, k.2) ∧ afvenDecode 4 0 rsp = .inl (st, d) :=
  ⟨(5), (4), (⟨true, true, [4, 1], []⟩), ((9, 8)), (4), ([]), ((st [(FBK_ARSP_ERR 4, 1)]).onPort 4 fun q => { q with areq := some (4, 9, 8) }), by decide +kernel⟩

theorem wit_SenseAndFeedback_27 : ∃ (dt : Nat) (p : Fin 34) (rsp : Frame) (k : Nat × Nat) (e : Nat) (s : State), (s.prt p).areq = some (4, k.1, k.2) ∧ afvenDecode 4 0 rsp = .inr e :=
  ⟨(5), (4), (⟨false, true, [], []⟩), ((9, 8)), (1), ((st [(FBK_ARSP_ERR 4, 1)]).onPort 4 fun q => { q with areq := some (4, 9, 8) }), by decide +kernel⟩

theorem wit_SenseAndFeedback_28 : ∃ (dt : Nat) (p : Fin 34) (rsp : Frame) (k : Nat × Nat) (st : Nat) (d : List Byte) (s : State), (s.prt p).areq = some (5, k.1, k.2) ∧ afvenDecode 5 0 rsp = .inl (st, d) :=
  ⟨(5), (4), (⟨true, true, [5, 46], []⟩), ((9, 8)), (5), ([]), ((st [(FBK_ARSP_ERR 4, 1)]).onPort 4 fun q => { q with areq := some (5, 9, 8) }), by decide +kernel⟩

theorem wit_SenseAndFeedback_29 : ∃ (dt : Nat) (p : Fin 34) (rsp : Frame) (k : Nat × Nat) (e : Nat) (s : State), (s.prt p).areq = some (5, k.1, k.2) ∧ afvenDecode 5 0 rsp = .inr e :=
  ⟨(5), (4), (⟨false, true, [], []⟩), ((9, 8)), (1), ((st [(FBK_ARSP_ERR 4, 1)]).onPort 4 fun q => { q with areq := some (5, 9, 8) }), by decide +kernel⟩

theorem wit_SenseAndFeedback_30 : ∃ (dt : Nat) (p : Fin 34) (i : Fin 3) (o : Fin 32) (s : State), s.portOwner p = some o.val ∧ bit (s.usedPairs p) i = true :=
  ⟨(5), (4), (1), (3), (entry4 3 ([(0x10, 1), (0x80, 4), (0x81, 1), (0x82, 8), (0x84, 2), (0x85, 1)] : List (Nat × Byte)) (st [(PRF_AXST_STATE 3, 3)])), by decide +kernel⟩

theorem wit_SenseAndFeedback_32 : ∃ (dt : Nat) (k : Fin 2) (s : State), (s.isMaster (32 + k.val) = true ∧ 7 ≤ s.get CFG_STATE_STATE ∧ (s.elapse dt).atBoundary (s.rd FBK_MPER) = true) :=
  ⟨(1000), (1), ((((st [(CFG_STATE_STATE, 8), (whole FBK_MPER, 1000)]).onMenc fun t => [(33, [])]).onClk fun c => { c with running := true }).onPort 33 fun q => { q with x := 7 }), by decide +kernel⟩

theorem wit_SenseAndFeedback_33 : ∃ (dt : Nat) (k : Fin 2) (s : State), ¬(s.isMaster (32 + k.val) = true ∧ 7 ≤ s.get CFG_STATE_STATE ∧ (s.elapse dt).atBoundary (s.rd FBK_MPER) = true) :=
  ⟨(5), (1), (State.reset), by decide +kernel⟩

theorem wit_Probes_1 : ∃ (dt : Nat) (i : Fin 16) (rising : Bool) (s : State), (s.get (FBK_PRCFG_ARM i) = 0 ∨ bit (s.get (FBK_PRCFG_EDGE i)) (if rising then 0 else 1) = false ∨ 0x10 ≤ s.get (FBK_PRCFG_SRC i) ∧ s.get (FBK_PRCFG_SRC i) < 0x50) :=
  ⟨(5), (3), (true), (State.reset), by decide +kernel⟩

theorem wit_Probes_2 : ∃ (dt : Nat) (i : Fin 16) (rising : Bool) (s : State), (s.get (FBK_PRCFG_SRC i) < 0x10 ∨ 0x50 ≤ s.get (FBK_PRCFG_SRC i)) ∧ s.get (FBK_PRCFG_ARM i) = 1 ∧ (bit (s.get (FBK_PRCFG_EDGE i)) (if rising then 0 else 1) = true) ∧ (s.get (FBK_PRCFG_CONT i) = 1 ∨ (s.probeOf i).waiting = []) ∧ (match (s.probeOf i).edgeAt with | some t => decide (((s.elapse dt).probeStamp i) < t + 64) | none => false) = true :=
  ⟨(5), (3), (true), ((st [(FBK_PRCFG_ARM 3, 1), (FBK_PRCFG_EDGE 3, 1), (FBK_PRCFG_CONT 3, 1), (FBK_PRSEL_LSEL 3, 0x2001), (FBK_PRSEL_WSEL 3, 0xF000), (PRF_VMST_EN 1, 1), (PRF_VMST_EN 0, 0)]).onProbe 3 fun p => { p with edgeAt := some 3 }), by decide +kernel⟩

theorem wit_Probes_3 : ∃ (dt : Nat) (i : Fin 16) (rising : Bool) (s : State), (s.get (FBK_PRCFG_SRC i) < 0x10 ∨ 0x50 ≤ s.get (FBK_PRCFG_SRC i)) ∧ s.get (FBK_PRCFG_ARM i) = 1 ∧ (bit (s.get (FBK_PRCFG_EDGE i)) (if rising then 0 else 1) = true) ∧ (s.get (FBK_PRCFG_CONT i) = 1 ∨ (s.probeOf i).waiting = []) ∧ (match (s.probeOf i).edgeAt with | some t => decide (((s.elapse dt).probeStamp i) < t + 64) | none => false) = false ∧ (s.elapse dt).srcAt (s.get (FBK_PRSEL_LSEL i)) ((s.elapse dt).probeStamp i) = none :=
  ⟨(5), (3), (true), ((st [(FBK_PRCFG_ARM 3, 1), (FBK_PRCFG_EDGE 3, 1), (FBK_PRCFG_CONT 3, 1), (FBK_PRSEL_LSEL 3, 0x2000), (FBK_PRSEL_WSEL 3, 0xF000), (PRF_VMST_EN 1, 1), (PRF_VMST_EN 0, 0)])), by decide +kernel⟩

theorem wit_Probes_4 : ∃ (dt : Nat) (i : Fin 16) (rising : Bool) (x : Option Int) (s : State), (s.get (FBK_PRCFG_SRC i) < 0x10 ∨ 0x50 ≤ s.get (FBK_PRCFG_SRC i)) ∧ s.get (FBK_PRCFG_ARM i) = 1 ∧ (bit (s.get (FBK_PRCFG_EDGE i)) (if rising then 0 else 1) = true) ∧ (s.get (FBK_PRCFG_CONT i) = 1 ∨ (s.probeOf i).waiting = []) ∧ (match (s.probeOf i).edgeAt with | some t => decide (((s.elapse dt).probeStamp i) < t + 64) | none => false) = false ∧ (s.elapse dt).srcAt (s.get (FBK_PRSEL_LSEL i)) ((s.elapse dt).probeStamp i) = some x ∧ s.get (FBK_PRSEL_WSEL i) / 4096 = 0xF :=
  ⟨(5), (3), (true), (some 0), ((st [(FBK_PRCFG_ARM 3, 1), (FBK_PRCFG_EDGE 3, 1), (FBK_PRCFG_CONT 3, 1), (FBK_PRSEL_LSEL 3, 0x2001), (FBK_PRSEL_WSEL 3, 0xF000), (PRF_VMST_EN 1, 1), (PRF_VMST_EN 0, 0)])), by decide +kernel⟩

theorem wit_Probes_5 : ∃ (dt : Nat) (i : Fin 16) (rising : Bool) (x : Option Int) (w : Int) (s : State), (s.get (FBK_PRCFG_SRC i) < 0x10 ∨ 0x50 ≤ s.get (FBK_PRCFG_SRC i)) ∧ s.get (FBK_PRCFG_ARM i) = 1 ∧ (bit (s.get (FBK_PRCFG_EDGE i)) (if rising then 0 else 1) = true) ∧ (s.get (FBK_PRCFG_CONT i) = 1 ∨ (s.probeOf i).waiting = []) ∧ (match (s.probeOf i).edgeAt with | some t => decide (((s.elapse dt).probeStamp i) < t + 64) | none => false) = false ∧ (s.elapse dt).srcAt (s.get (FBK_PRSEL_LSEL i)) ((s.elapse dt).probeStamp i) = some x ∧ s.get (FBK_PRSEL_WSEL i) / 4096 ≠ 0xF ∧ (s.elapse dt).srcAt (s.get (FBK_PRSEL_WSEL i)) ((s.elapse dt).probeStamp i) = some (some w) ∧ s.outWindow i w = true :=
  ⟨(5), (3), (true), (some 0), (0), ((st [(FBK_PRCFG_ARM 3, 1), (FBK_PRCFG_EDGE 3, 1), (FBK_PRCFG_CONT 3, 1), (FBK_PRSEL_LSEL 3, 0x2001), (FBK_PRSEL_WSEL 3, 0x2001), (PRF_VMST_EN 1, 1), (PRF_VMST_EN 0, 0), (whole (FBK_PRWS 3), 5), (whole (FBK_PRWE 3), 9)])), by decide +kernel⟩

theorem wit_Probes_6 : ∃ (dt : Nat) (i : Fin 16) (s : State), (s.probeOf i).waiting = [] :=
  ⟨(5), (3), (State.reset), by decide +kernel⟩

theorem wit_Probes_7 : ∃ (dt : Nat) (i : Fin 16) (e : ProbeEdge) (l : List ProbeEdge) (x : Int) (s : State), (s.probeOf i).waiting = e :: l ∧ e.win = false ∧ e.pos = some x :=
  ⟨(5), (3), ({ time := 1, stamp := 0x77, rising := true, pos := some (-9) }), ([]), (-9), (((st [(FBK_PRCFG_ARM 3, 1), (FBK_PRCFG_EDGE 3, 1), (FBK_PRCFG_CONT 3, 1), (FBK_PRSEL_LSEL 3, 0x2001), (FBK_PRSEL_WSEL 3, 0xF000), (PRF_VMST_EN 1, 1), (PRF_VMST_EN 0, 0)])).onProbe 3 fun p => { p with waiting := [{ time := 1, stamp := 0x77, rising := true, pos := some (-9) }] }), by decide +kernel⟩

theorem wit_Probes_8 : ∃ (dt : Nat) (i : Fin 16) (e : ProbeEdge) (l : List ProbeEdge) (p : Nat) (r : Int × Bool) (s : State), (s.probeOf i).waiting = e :: l ∧ e.win = false ∧ e.pos = none ∧ s.srcPort (s.get (FBK_PRSEL_LSEL i)) = some p ∧ s.readAtTime p e.time = some r :=
  ⟨(5), (3), ({ time := 1, stamp := 0x77, rising := true, pos := none }), ([]), (4), ((655360, false)), (((entry4 3 [(0x10, 1), (0x80, 4), (0x81, 1)] ((st [(FBK_PRCFG_ARM 3, 1), (FBK_PRCFG_EDGE 3, 1), (FBK_PRCFG_CONT 3, 1), (FBK_PRSEL_LSEL 3, 0x1003), (FBK_PRSEL_WSEL 3, 0xF000), (PRF_VMST_EN 1, 1), (PRF_VMST_EN 0, 0), (PRF_AXST_STATE 3, 3)]))).onProbe 3 fun p => { p with waiting := [{ time := 1, stamp := 0x77, rising := true, pos := none }] }).onPort 4 fun q => { q with reads := [⟨2, 20 * 65536, false⟩, ⟨0, 0, false⟩] }), by decide +kernel⟩

theorem wit_Probes_9 : ∃ (dt : Nat) (i : Fin 16) (e : ProbeEdge) (l : List ProbeEdge) (p : Nat) (s : State), (s.probeOf i).waiting = e :: l ∧ e.win = false ∧ e.pos = none ∧ s.srcPort (s.get (FBK_PRSEL_LSEL i)) = some p ∧ s.readAtTime p e.time = none ∧ s.readBefore p e.time = true :=
  ⟨(5), (3), ({ time := 1, stamp := 0x77, rising := true, pos := none }), ([]), (4), (((entry4 3 [(0x10, 1), (0x80, 4), (0x81, 1)] ((st [(FBK_PRCFG_ARM 3, 1), (FBK_PRCFG_EDGE 3, 1), (FBK_PRCFG_CONT 3, 1), (FBK_PRSEL_LSEL 3, 0x1003), (FBK_PRSEL_WSEL 3, 0xF000), (PRF_VMST_EN 1, 1), (PRF_VMST_EN 0, 0), (PRF_AXST_STATE 3, 3)]))).onProbe 3 fun p => { p with waiting := [{ time := 1, stamp := 0x77, rising := true, pos := none }] }).onPort 4 fun q => { q with reads := [⟨0, 0, false⟩] }), by decide +kernel⟩

theorem wit_Probes_10 : ∃ (dt : Nat) (i : Fin 16) (e : ProbeEdge) (l : List ProbeEdge) (s : State), (s.probeOf i).waiting = e :: l ∧ e.win = false ∧ e.pos = none ∧ s.srcPort (s.get (FBK_PRSEL_LSEL i)) = none :=
  ⟨(5), (3), ({ time := 1, stamp := 0x77, rising := true, pos := none }), ([]), (((st [(FBK_PRCFG_ARM 3, 1), (FBK_PRCFG_EDGE 3, 1), (FBK_PRCFG_CONT 3, 1), (FBK_PRSEL_LSEL 3, 0x2001), (FBK_PRSEL_WSEL 3, 0xF000), (PRF_VMST_EN 1, 1), (PRF_VMST_EN 0, 0)])).onProbe 3 fun p => { p with waiting := [{ time := 1, stamp := 0x77, rising := true, pos := none }] }), by decide +kernel⟩

theorem wit_Probes_11 : ∃ (dt : Nat) (who : Accessor) (i : Fin 16) (s : State), s.get (FBK_PRCFG_OWN i) = 0 :=
  ⟨(5), (.core 1), (3), (State.reset), by decide +kernel⟩

theorem wit_Probes_12 : ∃ (dt : Nat) (who : Accessor) (i : Fin 16) (s : State), s.get (FBK_PRCFG_OWN i) = 1 :=
  ⟨(5), (.core 1), (3), (st [(FBK_PRCFG_OWN 3, 1)]), by decide +kernel⟩

theorem wit_PwmStaging_1 : ∃ (dt : Nat) (tid : Nat) (isl : Fin 31) (t : Transfer) (h : Fin 3) (s : State), (s.eng.transfers.find? (fun x => x.id == tid) = some t) ∧ s.get (PWM_AXST_EN t.axis) = 1 ∧ t.per % 256 = s.get (PWM_AXST_PERNUM t.axis) ∧ (s.elapse dt).inPeriod t.axis / 8 < s.writePhase t.axis / 8 ∧ t.ch = some h.val :=
  ⟨(0), (9), (2), ({ id := 9, axis := 3, ch := some 1, value := 0x4E20, per := 5 }), (1), (((((entry4 3 [(0x10, 1), (0x21, 0), (0x200, 1), (0x201, 1), (0x204, 100), (0x208, 0x80)] (st [(PWM_AXST_EN 3, 1), (PWM_AXST_PERNUM 3, 5), (ENG_CST_RUN 3, 1)])).onClk fun c => { c with running := true }).onPax 3 fun x => { x with tripLow := false, judged := false }).onPwm fun w => { w with genA := [(0, true)], genB := [(0, true)] }).onEng fun e => { e with transfers := [{ id := 9, axis := 3, ch := some 1, value := 0x4E20, per := 5 }] }), by decide +kernel⟩

theorem wit_PwmStaging_2 : ∃ (dt : Nat) (tid : Nat) (isl : Fin 31) (t : Transfer) (s : State), (s.eng.transfers.find? (fun x => x.id == tid) = some t) ∧ s.get (PWM_AXST_EN t.axis) = 1 ∧ t.per % 256 = s.get (PWM_AXST_PERNUM t.axis) ∧ (s.elapse dt).inPeriod t.axis / 8 < s.writePhase t.axis / 8 ∧ t.ch = none :=
  ⟨(0), (9), (2), ({ id := 9, axis := 3, ch := none, value := 0x4E20, per := 5 }), (((((entry4 3 [(0x10, 1), (0x21, 0), (0x200, 1), (0x201, 1), (0x204, 100), (0x208, 0x80)] (st [(PWM_AXST_EN 3, 1), (PWM_AXST_PERNUM 3, 5), (ENG_CST_RUN 3, 1)])).onClk fun c => { c with running := true }).onPax 3 fun x => { x with tripLow := false, judged := false }).onPwm fun w => { w with genA := [(0, true)], genB := [(0, true)] }).onEng fun e => { e with transfers := [{ id := 9, axis := 3, ch := none, value := 0x4E20, per := 5 }] }), by decide +kernel⟩

theorem wit_PwmStaging_3 : ∃ (dt : Nat) (tid : Nat) (isl : Fin 31) (t : Transfer) (s : State), (s.eng.transfers.find? (fun x => x.id == tid) = some t) ∧ (s.get (PWM_AXST_EN t.axis) = 0 ∨ t.per % 256 ≠ s.get (PWM_AXST_PERNUM t.axis) ∨ (s.elapse dt).writePhase t.axis / 8 ≤ (s.elapse dt).inPeriod t.axis / 8) :=
  ⟨(90), (9), (2), ({ id := 9, axis := 3, ch := none, value := 0x4E20, per := 5 }), (((((entry4 3 [(0x10, 1), (0x21, 0), (0x200, 1), (0x201, 1), (0x204, 100), (0x208, 0x80)] (st [(PWM_AXST_EN 3, 1), (PWM_AXST_PERNUM 3, 5), (ENG_CST_RUN 3, 1)])).onClk fun c => { c with running := true }).onPax 3 fun x => { x with tripLow := false, judged := false }).onPwm fun w => { w with genA := [(0, true)], genB := [(0, true)] }).onEng fun e => { e with transfers := [{ id := 9, axis := 3, ch := none, value := 0x4E20, per := 5 }] }), by decide +kernel⟩

theorem wit_PwmStaging_4 : ∃ (dt : Nat) (tid : Nat) (isl : Fin 31) (s : State), (s.eng.transfers.find? (fun x => x.id == tid) = none) :=
  ⟨(90), (9), (2), (State.reset), by decide +kernel⟩

theorem wit_PwmStaging_5 : ∃ (dt : Nat) (a : Fin 32) (s : State), s.get (PWM_AXST_EN a) = 1 ∧ (s.pax a).judged = false ∧ s.get (ENG_CST_RUN a) = 1 ∧ (s.elapse dt).writePhase a ≤ (s.elapse dt).inPeriod a ∧ (s.stagedAll a = true ∧ s.get (PWM_STG_COMMIT a) = 1 ∧ s.get (PWM_STG_SPER a) = s.get (PWM_AXST_PERNUM a)) :=
  ⟨(90), (3), (((((entry4 3 [(0x10, 1), (0x21, 0), (0x200, 1), (0x201, 1), (0x204, 100), (0x208, 0x80)] (st [(PWM_AXST_EN 3, 1), (PWM_AXST_PERNUM 3, 5), (ENG_CST_RUN 3, 1), (PWM_STG_COMMIT 3, 1), (PWM_STG_CMPV 3, 7), (PWM_STG_SPER 3, 5)])).onClk fun c => { c with running := true }).onPax 3 fun x => { x with tripLow := false, judged := false }).onPwm fun w => { w with genA := [(0, true)], genB := [(0, true)] })), by decide +kernel⟩

theorem wit_PwmStaging_6 : ∃ (dt : Nat) (a : Fin 32) (s : State), s.get (PWM_AXST_EN a) = 1 ∧ (s.pax a).judged = false ∧ s.get (ENG_CST_RUN a) = 1 ∧ (s.elapse dt).writePhase a ≤ (s.elapse dt).inPeriod a ∧ ¬(s.stagedAll a = true ∧ s.get (PWM_STG_COMMIT a) = 1 ∧ s.get (PWM_STG_SPER a) = s.get (PWM_AXST_PERNUM a)) :=
  ⟨(90), (3), (((((entry4 3 [(0x10, 1), (0x21, 0), (0x200, 1), (0x201, 1), (0x204, 100), (0x208, 0x80)] (st [(PWM_AXST_EN 3, 1), (PWM_AXST_PERNUM 3, 5), (ENG_CST_RUN 3, 1), (PWM_STG_CMPV 3, 7), (PWM_STG_SPER 3, 5), (PRF_AXST_STATE 3, 3)])).onClk fun c => { c with running := true }).onPax 3 fun x => { x with tripLow := false, judged := false }).onPwm fun w => { w with genA := [(0, true)], genB := [(0, true)] })), by decide +kernel⟩

theorem wit_PwmStaging_7 : ∃ (dt : Nat) (a : Fin 32) (s : State), (s.get (PWM_AXST_EN a) = 0 ∨ (s.pax a).judged = true ∨ s.get (ENG_CST_RUN a) ≠ 1 ∨ (s.elapse dt).inPeriod a < (s.elapse dt).writePhase a) :=
  ⟨(5), (3), (State.reset), by decide +kernel⟩

theorem wit_PwmStaging_8 : ∃ (dt : Nat) (a : Fin 32) (s : State), (s.axis a).wdogIn = some 0 :=
  ⟨(5), (3), ((st [(PWM_AXST_EN 3, 1), (PRF_AXST_STATE 3, 6)]).onAxis 3 fun x => { x with wdogIn := some 0 }), by decide +kernel⟩

theorem wit_PwmStaging_9 : ∃ (dt : Nat) (a : Fin 32) (s : State), (s.axis a).wdogIn ≠ some 0 :=
  ⟨(5), (3), (State.reset), by decide +kernel⟩

theorem wit_PwmStaging_10 : ∃ (dt : Nat) (a : Fin 32) (set : PwmSet) (s : State), s.isLocal a = true ∧ (s.elapse dt).pwmBoundaryDue a = true ∧ a.val / 4 ∉ s.pwm.clkLost ∧ s.get (PWM_AXST_EN a) = 1 ∧ (s.elapse dt).tripAtBoundary a = false ∧ (s.pax a).bandWas = none ∧ s.gateHeld a = false ∧ (s.pax a).committed = some set :=
  ⟨(100), (3), ({ cmp := [(0, 5), (1, 6), (2, 7)], per := 400, dt := 96, dwell := 40 }), (((((entry4 3 [(0x10, 1), (0x21, 0), (0x200, 1), (0x201, 1), (0x204, 100), (0x208, 0x80)] (st [(PWM_AXST_EN 3, 1), (PWM_AXST_PERNUM 3, 5), (ENG_CST_RUN 3, 1)])).onClk fun c => { c with running := true }).onPax 3 fun x => { x with tripLow := false, judged := false }).onPwm fun w => { w with genA := [(0, true)], genB := [(0, true)] }).onPax 3 fun x => { x with committed := some { cmp := [(0, 5), (1, 6), (2, 7)], per := 400, dt := 96, dwell := 40 } }), by decide +kernel⟩

theorem wit_PwmStaging_11 : ∃ (dt : Nat) (a : Fin 32) (s : State), s.isLocal a = true ∧ (s.elapse dt).pwmBoundaryDue a = true ∧ a.val / 4 ∉ s.pwm.clkLost ∧ s.get (PWM_AXST_EN a) = 1 ∧ (s.elapse dt).tripAtBoundary a = true :=
  ⟨(100), (3), (((((entry4 3 [(0x10, 1), (0x21, 0), (0x200, 1), (0x201, 1), (0x204, 100), (0x208, 0x80)] (st [(PWM_AXST_EN 3, 1), (PWM_AXST_PERNUM 3, 5), (ENG_CST_RUN 3, 1)])).onClk fun c => { c with running := true }).onPax 3 fun x => { x with tripLow := false, judged := false }).onPwm fun w => { w with genA := [(0, true)], genB := [(0, true)] }).onPax 3 fun x => { x with tripLow := true }), by decide +kernel⟩

theorem wit_PwmStaging_12 : ∃ (dt : Nat) (a : Fin 32) (s : State), s.isLocal a = true ∧ (s.elapse dt).pwmBoundaryDue a = true ∧ a.val / 4 ∉ s.pwm.clkLost ∧ s.get (PWM_AXST_EN a) = 0 ∧ (s.pax a).arming = true :=
  ⟨(100), (3), (((((entry4 3 [(0x10, 1), (0x21, 0), (0x200, 1), (0x201, 1), (0x204, 100), (0x208, 0x80)] (st [(PWM_AXST_EN 3, 0), (PWM_AXST_PERNUM 3, 5), (ENG_CST_RUN 3, 1)])).onClk fun c => { c with running := true }).onPax 3 fun x => { x with tripLow := false, judged := false }).onPwm fun w => { w with genA := [(0, true)], genB := [(0, true)] }).onPax 3 fun x => { x with arming := true }), by decide +kernel⟩

theorem wit_PwmStaging_13 : ∃ (dt : Nat) (a : Fin 32) (s : State), s.isLocal a = true ∧ (s.elapse dt).pwmBoundaryDue a = true ∧ a.val / 4 ∉ s.pwm.clkLost ∧ s.get (PWM_AXST_EN a) = 1 ∧ (s.elapse dt).tripAtBoundary a = false ∧ s.gateHeld a = true :=
  ⟨(100), (3), (((((entry4 3 [(0x10, 1), (0x21, 0), (0x200, 1), (0x201, 1), (0x204, 100), (0x208, 0x80)] (st [(PWM_AXST_EN 3, 1), (PWM_AXST_PERNUM 3, 5), (ENG_CST_RUN 3, 1)])).onClk fun c => { c with running := true }).onPax 3 fun x => { x with tripLow := false, judged := false }).onPwm fun w => { w with genA := [(0, true)], genB := [(0, true)] }).onPwm fun w => { w with genA := [] }), by decide +kernel⟩

theorem wit_PwmStaging_14 : ∃ (dt : Nat) (a : Fin 32) (s : State), (s.isLocal a = false ∨ (s.elapse dt).pwmBoundaryDue a = false ∨ a.val / 4 ∈ s.pwm.clkLost) :=
  ⟨(5), (3), (State.reset), by decide +kernel⟩

theorem wit_PwmTrips_1 : ∃ (dt : Nat) (a : Fin 32) (s : State), (s.pax a).tripLow = false ∧ s.get (PWM_AXST_EN a) = 1 :=
  ⟨(5), (3), ((st [(PWM_AXST_EN 3, 1)]).onPax 3 fun x => { x with tripLow := false }), by decide +kernel⟩

theorem wit_PwmTrips_2 : ∃ (dt : Nat) (a : Fin 32) (s : State), (s.pax a).tripLow = false ∧ s.get (PWM_AXST_EN a) = 0 :=
  ⟨(5), (3), (State.reset.onPax 3 fun x => { x with tripLow := false }), by decide +kernel⟩

theorem wit_PwmTrips_3 : ∃ (dt : Nat) (a : Fin 32) (s : State), (s.pax a).tripLow = true :=
  ⟨(5), (3), (State.reset.onPax 3 fun x => { x with tripLow := true }), by decide +kernel⟩

theorem wit_PwmTrips_4 : ∃ (dt : Nat) (a : Fin 32) (s : State), (s.pax a).tripLow = true :=
  ⟨(5), (3), (State.reset.onPax 3 fun x => { x with tripLow := true }), by decide +kernel⟩

theorem wit_PwmTrips_5 : ∃ (dt : Nat) (a : Fin 32) (s : State), s.get (PWM_AXST_EN a) = 1 ∧ s.get (PWM_AX_TRIPMAX a) ≤ s.get (PWM_AXST_RUN a) ∧ 0 < s.get (PWM_AXST_RUN a) :=
  ⟨(5), (3), (st [(PWM_AXST_EN 3, 1), (PWM_AX_TRIPMAX 3, 4), (PWM_AXST_RUN 3, 4), (PRF_AXST_STATE 3, 3)]), by decide +kernel⟩

theorem wit_PwmTrips_6 : ∃ (dt : Nat) (a : Fin 32) (s : State), (s.get (PWM_AXST_EN a) = 0 ∨ s.get (PWM_AXST_RUN a) < s.get (PWM_AX_TRIPMAX a) ∨ s.get (PWM_AXST_RUN a) = 0) :=
  ⟨(5), (3), (State.reset), by decide +kernel⟩

theorem wit_PwmTrips_7 : ∃ (dt : Nat) (g : Fin 8) (x y : Bool) (s : State), (x = false ∨ y = false) :=
  ⟨(5), (1), (true), (false), (st [(PRF_AXST_STATE 5, 3), (PWM_AXST_EN 5, 1)]), by decide +kernel⟩

theorem wit_PwmTrips_8 : ∃ (dt : Nat) (g : Fin 8) (x y : Bool) (s : State), x = true ∧ y = true :=
  ⟨(5), (1), (true), (true), (State.reset), by decide +kernel⟩

theorem wit_PwmTrips_9 : ∃ (dt : Nat) (i : Fin 9) (s : State), i.val ∉ s.pwm.clkLost :=
  ⟨(5), (1), (st [(PRF_AXST_STATE 5, 3), (PWM_AXST_EN 5, 1)]), by decide +kernel⟩

theorem wit_PwmTrips_10 : ∃ (dt : Nat) (i : Fin 9) (s : State), i.val ∈ s.pwm.clkLost :=
  ⟨(5), (1), (State.reset.onPwm fun w => { w with clkLost := [1] }), by decide +kernel⟩

theorem wit_PwmTrips_12 : ∃ (dt : Nat) (t : Fin 12) (s : State), s.debugOn = false :=
  ⟨(5), (5), (State.reset), by decide +kernel⟩

theorem wit_PwmTrips_13 : ∃ (dt : Nat) (t : Fin 12) (s : State), s.debugOn = true ∧ 4 ≤ t.val ∧ t.val - 4 ∉ s.eng.halted :=
  ⟨(5), (5), (st [(SVC_DBG_EN, 1), (PRF_AXST_STATE 5, 3), (PWM_AXST_EN 5, 1)]), by decide +kernel⟩

theorem wit_PwmTrips_14 : ∃ (dt : Nat) (t : Fin 12) (s : State), s.debugOn = true ∧ t.val < 4 ∧ t.val ∉ s.pwm.coreHalt :=
  ⟨(5), (2), (st [(SVC_DBG_EN, 1), (PRF_AXST_STATE 5, 3), (PWM_AXST_EN 5, 1)]), by decide +kernel⟩

theorem wit_PwmTrips_15 : ∃ (dt : Nat) (t : Fin 12) (s : State), s.debugOn = false :=
  ⟨(5), (5), (State.reset), by decide +kernel⟩

theorem wit_PwmTrips_16 : ∃ (dt : Nat) (t : Fin 12) (s : State), s.debugOn = true ∧ 4 ≤ t.val ∧ t.val - 4 ∈ s.eng.halted :=
  ⟨(5), (5), ((st [(SVC_DBG_EN, 1)]).onEng fun e => { e with halted := [1] }), by decide +kernel⟩

theorem wit_PwmTrips_17 : ∃ (dt : Nat) (t : Fin 12) (s : State), s.debugOn = true ∧ t.val < 4 ∧ t.val ∈ s.pwm.coreHalt :=
  ⟨(5), (2), ((st [(SVC_DBG_EN, 1)]).onPwm fun e => { e with coreHalt := [2] }), by decide +kernel⟩

theorem wit_PwmTrips_18 : ∃ (dt : Nat) (k : Fin 8) (l : List Bool) (s : State), s.get (PWM_AUXST_RUN k) = 1 ∧ s.get (PWM_AUXCFG_EN k) = 1 ∧ (s.pax (32 + k.val)).off = false ∧ (s.elapse dt).atBoundary (s.rd (PWM_AUXPER k) / 4) = true ∧ s.rd (PWM_AUXPER k) ≤ 2 * (s.elapse dt).inPeriod (32 + k.val) ∧ k.val ∉ s.pwm.auxStuck ∧ k.val ∉ s.pwm.auxOff ∧ s.getS (PWM_AUXTH_ONTH k) ≤ auxValue l :=
  ⟨(100), (3), ([]), ((st [(PWM_AUXST_RUN 3, 1), (PWM_AUXCFG_EN 3, 1), (whole (PWM_AUXPER 3), 400), (PWM_AUXTH_ONTH 3, 0x8000), (PWM_AUXTH_OFFTH 3, 0x8000)]).onClk fun c => { c with running := true }), by decide +kernel⟩

theorem wit_PwmTrips_19 : ∃ (dt : Nat) (k : Fin 8) (l : List Bool) (s : State), s.get (PWM_AUXST_RUN k) = 1 ∧ s.get (PWM_AUXCFG_EN k) = 1 ∧ (s.pax (32 + k.val)).off = false ∧ (s.elapse dt).atBoundary (s.rd (PWM_AUXPER k) / 4) = true ∧ s.rd (PWM_AUXPER k) ≤ 2 * (s.elapse dt).inPeriod (32 + k.val) ∧ k.val ∉ s.pwm.auxStuck ∧ k.val ∉ s.pwm.auxOff ∧ auxValue l < s.getS (PWM_AUXTH_ONTH k) ∧ auxValue l ≤ s.getS (PWM_AUXTH_OFFTH k) :=
  ⟨(100), (3), ([]), ((st [(PWM_AUXST_RUN 3, 1), (PWM_AUXCFG_EN 3, 1), (whole (PWM_AUXPER 3), 400), (PWM_AUXTH_ONTH 3, 0x7000), (PWM_AUXTH_OFFTH 3, 0x6000)]).onClk fun c => { c with running := true }), by decide +kernel⟩

theorem wit_PwmTrips_20 : ∃ (dt : Nat) (k : Fin 8) (l : List Bool) (s : State), s.get (PWM_AUXST_RUN k) = 1 ∧ s.get (PWM_AUXCFG_EN k) = 1 ∧ (s.pax (32 + k.val)).off = false ∧ (s.elapse dt).atBoundary (s.rd (PWM_AUXPER k) / 4) = true ∧ s.rd (PWM_AUXPER k) ≤ 2 * (s.elapse dt).inPeriod (32 + k.val) ∧ k.val ∉ s.pwm.auxStuck ∧ k.val ∉ s.pwm.auxOff ∧ auxValue l < s.getS (PWM_AUXTH_ONTH k) ∧ s.getS (PWM_AUXTH_OFFTH k) < auxValue l :=
  ⟨(100), (3), (List.replicate 30 false ++ List.replicate 400 true), ((st [(PWM_AUXST_RUN 3, 1), (PWM_AUXCFG_EN 3, 1), (whole (PWM_AUXPER 3), 400), (PWM_AUXTH_ONTH 3, 0x7FFF), (PWM_AUXTH_OFFTH 3, 0x7000)]).onClk fun c => { c with running := true }), by decide +kernel⟩

theorem wit_PwmTrips_21 : ∃ (dt : Nat) (k : Fin 8) (l : List Bool) (s : State), s.get (PWM_AUXCFG_EN k) = 1 ∧ (s.pax (32 + k.val)).off = false ∧ (s.elapse dt).atBoundary (s.rd (PWM_AUXPER k) / 4) = true ∧ s.rd (PWM_AUXPER k) ≤ 2 * (s.elapse dt).inPeriod (32 + k.val) ∧ (k.val ∈ s.pwm.auxStuck ∨ k.val ∈ s.pwm.auxOff) :=
  ⟨(100), (3), ([]), (((st [(PWM_AUXST_RUN 3, 1), (PWM_AUXCFG_EN 3, 1), (whole (PWM_AUXPER 3), 400), (PWM_AUXTH_ONTH 3, 0x8000), (PWM_AUXTH_OFFTH 3, 0x8000)]).onClk fun c => { c with running := true }).onPwm fun p => { p with auxOff := [3] }), by decide +kernel⟩

theorem wit_PwmTrips_22 : ∃ (dt : Nat) (k : Fin 8) (l : List Bool) (s : State), ((s.get (PWM_AUXST_RUN k) = 0 ∧ k.val ∉ s.pwm.auxStuck ∧ k.val ∉ s.pwm.auxOff) ∨ s.get (PWM_AUXCFG_EN k) = 0 ∨ (s.pax (32 + k.val)).off = true ∨ (s.elapse dt).atBoundary (s.rd (PWM_AUXPER k) / 4) = false) :=
  ⟨(100), (3), ([]), (State.reset), by decide +kernel⟩

theorem wit_PwmTrips_23 : ∃ (dt : Nat) (k : Fin 8) (s : State), (s.get (PWM_AUXST_RUN k) = 1 ∨ k.val ∈ s.pwm.auxStuck ∨ k.val ∈ s.pwm.auxOff) ∧ s.get (PWM_AUXCFG_EN k) = 1 ∧ (s.pax (32 + k.val)).off = false ∧ (s.pax (32 + k.val)).judged = false ∧ s.rd (PWM_AUXPER k) ≤ 2 * (s.elapse dt).inPeriod (32 + k.val) :=
  ⟨(100), (3), (((st [(PWM_AUXST_RUN 3, 1), (PWM_AUXCFG_EN 3, 1), (whole (PWM_AUXPER 3), 400), (PWM_AUXTH_ONTH 3, 0x8000), (PWM_AUXTH_OFFTH 3, 0x8000)]).onClk fun c => { c with running := true }).onPax 35 fun x => { x with judged := false }), by decide +kernel⟩

theorem wit_PwmTrips_24 : ∃ (dt : Nat) (k : Fin 8) (s : State), ((s.get (PWM_AUXST_RUN k) = 0 ∧ k.val ∉ s.pwm.auxStuck ∧ k.val ∉ s.pwm.auxOff) ∨ s.get (PWM_AUXCFG_EN k) = 0 ∨ (s.pax (32 + k.val)).off = true ∨ (s.pax (32 + k.val)).judged = true ∨ 2 * (s.elapse dt).inPeriod (32 + k.val) < s.rd (PWM_AUXPER k)) :=
  ⟨(100), (3), (State.reset), by decide +kernel⟩

theorem wit_KennelRequests_1 : ∃ (dt : Nat) (c : Fin 4) (t : Fin 512) (s : State), s.get (KNL_TST_STATE t) = 0 ∧ s.descValid t = true ∧ bit (s.get (KNL_D1_FLAGS t)) 2 = false ∧ bit (s.get (KNL_D1_FLAGS t)) 3 = false :=
  ⟨(5), (1), (7), (st [(KNL_D0_EXEC 7, 1), (KNL_D0_PRIO 7, 5)]), by decide +kernel⟩

theorem wit_KennelRequests_2 : ∃ (dt : Nat) (c : Fin 4) (t : Fin 512) (s : State), s.get (KNL_TST_STATE t) = 0 ∧ s.descValid t = true ∧ bit (s.get (KNL_D1_FLAGS t)) 2 = false ∧ bit (s.get (KNL_D1_FLAGS t)) 3 = true ∧ due32 (s.rd (KNL_DWAKE t)) (s.rd KNL_TICK) = false :=
  ⟨(5), (1), (7), (st [(KNL_D0_EXEC 7, 1), (KNL_D1_FLAGS 7, 8), (whole (KNL_DWAKE 7), 100)]), by decide +kernel⟩

theorem wit_KennelRequests_3 : ∃ (dt : Nat) (c : Fin 4) (t : Fin 512) (s : State), s.get (KNL_TST_STATE t) ≠ 0 :=
  ⟨(5), (1), (7), (st [(KNL_TST_STATE 7, 2)]), by decide +kernel⟩

theorem wit_KennelRequests_4 : ∃ (dt : Nat) (c : Fin 4) (t : Fin 512) (s : State), (s.get (KNL_TST_STATE t) = 1 ∨ s.get (KNL_TST_STATE t) = 2 ∨ s.get (KNL_TST_STATE t) = 3) :=
  ⟨(5), (3), (7), (st [(KNL_TST_STATE 7, 2)]), by decide +kernel⟩

theorem wit_KennelRequests_5 : ∃ (dt : Nat) (c : Fin 4) (t : Fin 512) (s : State), s.get (KNL_TST_STATE t) = 4 :=
  ⟨(5), (3), (7), (st [(KNL_TST_STATE 7, 4)]), by decide +kernel⟩

theorem wit_KennelRuns_1 : ∃ (dt : Nat) (c : Fin 4) (s : State), s.get (KNL_CORE_SLOTV c) = 1 ∧ s.get (KNL_CORE_RUNV c) = 0 ∧ c.val ∉ s.pwm.coreHalt :=
  ⟨(5), (2), (st [(KNL_CORE_SLOTV 2, 1), (KNL_CORE_SLOT 2, 9), (KNL_TST_STATE 9, 3), (KNL_TST_WHY 9, 3), (KNL_D0_ENTRY 9, 77)]), by decide +kernel⟩

theorem wit_KennelRuns_2 : ∃ (dt : Nat) (c : Fin 4) (t : Fin 512) (s : State), (s.get (KNL_TST_STATE t) = 5 ∨ s.get (KNL_TST_STATE t) = 4 ∧ bit (s.get (KNL_D1_FLAGS t)) 0 = false ∧ bit (s.get (KNL_D1_FLAGS t)) 1 = false) ∧ s.get (KNL_TST_EXEC t) = c ∧ c.val ∉ s.pwm.coreHalt :=
  ⟨(5), (2), (9), (st [(KNL_TST_STATE 9, 4), (KNL_TST_EXEC 9, 2), (KNL_CORE_RUNV 2, 1), (KNL_CORE_RUN 2, 9)]), by decide +kernel⟩

theorem wit_KennelRuns_3 : ∃ (dt : Nat) (c : Fin 4) (t : Fin 512) (s : State), s.get (KNL_TST_STATE t) = 4 ∧ bit (s.get (KNL_D1_FLAGS t)) 0 = false ∧ bit (s.get (KNL_D1_FLAGS t)) 1 = true ∧ s.get (KNL_TST_PEND t) = 1 ∧ s.get (KNL_TST_EXEC t) = c ∧ c.val ∉ s.pwm.coreHalt :=
  ⟨(5), (2), (9), (st [(KNL_TST_STATE 9, 4), (KNL_TST_EXEC 9, 2), (KNL_D1_FLAGS 9, 6), (KNL_TST_PEND 9, 1)]), by decide +kernel⟩

theorem wit_KennelRuns_4 : ∃ (dt : Nat) (c : Fin 4) (s : State), (s.get (KNL_CORE_SLOTV c) = 0 ∨ s.get (KNL_CORE_RUNV c) = 1 ∨ c.val ∈ s.pwm.coreHalt) :=
  ⟨(5), (2), (State.reset), by decide +kernel⟩

theorem wit_KennelRuns_5 : ∃ (dt : Nat) (c : Fin 4) (t : Fin 512) (s : State), c.val ∈ s.pwm.coreHalt :=
  ⟨(5), (2), (9), (State.reset.onPwm fun w => { w with coreHalt := [2] }), by decide +kernel⟩

theorem wit_KennelRuns_6 : ∃ (dt : Nat) (c : Fin 4) (t : Fin 512) (s : State), s.get (KNL_TST_STATE t) ≠ 4 ∧ s.get (KNL_TST_STATE t) ≠ 5 ∧ c.val ∉ s.pwm.coreHalt :=
  ⟨(5), (2), (9), (State.reset), by decide +kernel⟩

theorem wit_KennelRuns_7 : ∃ (dt : Nat) (s : State), s.get (KNL_XCORE_SLOTV 0) = 1 ∧ s.get (KNL_XCORE_RUNV 0) = 0 ∧ s.get (KNL_D1_FLAGS (s.get (KNL_XCORE_SLOT 0))) = 0 ∧ s.pushCheck 1 (s.rd (KNL_DARG1 (s.get (KNL_XCORE_SLOT 0))) % 64) = 1 ∧ s.qCap (s.rd (KNL_DARG1 (s.get (KNL_XCORE_SLOT 0))) % 64) ≤ 32 ∧ s.get (QUE_ST_DEPTH (s.rd (KNL_DARG1 (s.get (KNL_XCORE_SLOT 0))) % 64)) + 1 ≤ s.qCap (s.rd (KNL_DARG1 (s.get (KNL_XCORE_SLOT 0))) % 64) :=
  ⟨(5), (st [(KNL_XCORE_SLOTV 0, 1), (KNL_XCORE_SLOT 0, 9), (KNL_TST_STATE 9, 3), (whole (KNL_DARG1 9), 5), (QUE_CFG_CAPL 5, 5), (QUE_CFG_PROD 5, 1)]), by decide +kernel⟩

theorem wit_KennelRuns_8 : ∃ (dt : Nat) (s : State), s.get (KNL_XCORE_SLOTV 0) = 1 ∧ s.get (KNL_XCORE_RUNV 0) = 0 ∧ s.get (KNL_D1_FLAGS (s.get (KNL_XCORE_SLOT 0))) = 0 ∧ s.qCap (s.rd (KNL_DARG1 (s.get (KNL_XCORE_SLOT 0))) % 64) = 0 :=
  ⟨(5), (st [(KNL_XCORE_SLOTV 0, 1), (KNL_XCORE_SLOT 0, 9), (KNL_TST_STATE 9, 3)]), by decide +kernel⟩

theorem wit_KennelRuns_9 : ∃ (dt : Nat) (s : State), s.get (KNL_XCORE_SLOTV 1) = 1 ∧ s.get (KNL_XCORE_RUNV 1) = 0 ∧ s.get (KNL_D1_FLAGS (s.get (KNL_XCORE_SLOT 1))) = 0 ∧ s.rd (KNL_DARG2 (s.get (KNL_XCORE_SLOT 1))) = 4 ∧ 0x80000000 ≤ s.rd (KNL_DARG0L (s.get (KNL_XCORE_SLOT 1))) ∧ s.rd (KNL_DARG0L (s.get (KNL_XCORE_SLOT 1))) + 4 ≤ 2 ^ 32 ∧ 0x80000000 ≤ s.rd (KNL_DARG1 (s.get (KNL_XCORE_SLOT 1))) ∧ s.rd (KNL_DARG1 (s.get (KNL_XCORE_SLOT 1))) + 4 ≤ 2 ^ 32 ∧ s.committedAt (s.rd (KNL_DARG1 (s.get (KNL_XCORE_SLOT 1)))) 4 = false :=
  ⟨(5), ((st [(KNL_XCORE_SLOTV 1, 1), (KNL_XCORE_SLOT 1, 9), (KNL_TST_STATE 9, 3), (whole (KNL_DARG2 9), 4), (whole (KNL_DARG0L 9), 0x90000000), (whole (KNL_DARG1 9), 0x90000010)]).bulkPut 0x90000001 7), by decide +kernel⟩

theorem wit_KennelRuns_10 : ∃ (dt : Nat) (t : Fin 512) (s : State), (s.get (KNL_TST_STATE t) = 4 ∨ s.get (KNL_TST_STATE t) = 5) ∧ s.get (KNL_D1_RUNMAX t) ≠ 0 ∧ t.val ∉ s.knl.warned ∧ s.get (KNL_D1_RUNMAX t) ≤ (s.rd KNL_TICK + 2 ^ 32 - tabGet 0 s.knl.takenAt t) % 2 ^ 32 :=
  ⟨(5), (9), (st [(KNL_TST_STATE 9, 4), (KNL_D1_RUNMAX 9, 10), (whole KNL_TICK, 30)]), by decide +kernel⟩

theorem wit_KennelWakes_1 : ∃ (dt : Nat) (s : State), (s.elapse dt).atBoundary 1000 = true ∧ s.get CFG_STATE_STATE ≠ 0 ∧ s.knl.ticking = true :=
  ⟨(1000), (((st [(CFG_STATE_STATE, 8), (whole KNL_TICK, 41)]).onClk fun c => { c with running := true }).onKnl fun k => { k with ticking := true }), by decide +kernel⟩

theorem wit_KennelWakes_2 : ∃ (dt : Nat) (s : State), (s.elapse dt).atBoundary 1000 = true ∧ s.get CFG_STATE_STATE ≠ 0 ∧ s.knl.ticking = false :=
  ⟨(1000), (((st [(CFG_STATE_STATE, 8), (whole KNL_TICK, 41)]).onClk fun c => { c with running := true })), by decide +kernel⟩

theorem wit_KennelWakes_3 : ∃ (dt : Nat) (e : Fin 256) (s : State), s.get (KNL_EVB_BOUND e) = 1 ∧ s.get (KNL_TST_STATE (s.get (KNL_EVB_TOKEN e))) = 1 :=
  ⟨(5), (0x43), (st [(KNL_EVB_BOUND 0x43, 1), (KNL_EVB_TOKEN 0x43, 9), (KNL_TST_STATE 9, 1)]), by decide +kernel⟩

theorem wit_KennelWakes_4 : ∃ (dt : Nat) (e : Fin 256) (s : State), s.get (KNL_EVB_BOUND e) = 1 ∧ s.get (KNL_TST_STATE (s.get (KNL_EVB_TOKEN e))) ≠ 1 :=
  ⟨(5), (0x43), (st [(KNL_EVB_BOUND 0x43, 1), (KNL_EVB_TOKEN 0x43, 9), (KNL_TST_STATE 9, 4)]), by decide +kernel⟩

theorem wit_KennelWakes_5 : ∃ (dt : Nat) (e : Fin 256) (s : State), s.get (KNL_EVB_BOUND e) = 0 :=
  ⟨(5), (0x43), (State.reset), by decide +kernel⟩

theorem wit_KennelWakes_6 : ∃ (dt : Nat) (t : Fin 512) (x : Fin 6) (s : State), s.readyOrder = [t.val] ∧ tabGet [] s.knl.ready (s.prio t) = [t.val] ∧ s.prio t < 64 ∧ s.emptySlotFor t = some x.val :=
  ⟨(5), (9), (2), ((st [(KNL_TST_STATE 9, 2), (KNL_D0_PRIO 9, 5), (KNL_D0_EXEC 9, 4)]).onKnl fun k => { k with ready := [(5, [9])] }), by decide +kernel⟩

theorem wit_KennelWakes_7 : ∃ (dt : Nat) (t : Fin 512) (s : State), (∀ x : Fin 6, s.flag (slotV x) = (x == 1)) ∧ (∀ x : Fin 6, s.flag (runV x) = (x == 1)) ∧ s.get (slotT 1) = t ∧ t.val ∈ s.knl.slotOrder ∧ s.permitted t 0 = true :=
  ⟨(5), (9), ((st [(KNL_TST_STATE 9, 3), (KNL_D0_EXEC 9, 3), (KNL_CORE_SLOTV 1, 1), (KNL_CORE_SLOT 1, 9), (KNL_CORE_RUNV 1, 1)]).onKnl fun k => { k with slotOrder := [9] }), by decide +kernel⟩

theorem wit_QueuePushes_1 : ∃ (dt : Nat) (c : Fin 4) (q : Fin 64) (n : Fin 16) (s : State), s.get (QUE_PRES_BUSY c) = 0 ∧ (s.elapse dt).pushCheck 1 q = 1 ∧ (s.elapse dt).canPush q (pushCount n) = true :=
  ⟨(5), (2), (7), (0), (st [(QUE_CFG_CAPL 7, 5), (QUE_CFG_PROD 7, 1)]), by decide +kernel⟩

theorem wit_QueuePushes_2 : ∃ (dt : Nat) (c : Fin 4) (q : Fin 64) (n : Fin 16) (s : State), s.get (QUE_PRES_BUSY c) = 0 ∧ (s.elapse dt).pushCheck 1 q = 1 ∧ (s.elapse dt).canPush q (pushCount n) = false :=
  ⟨(5), (2), (7), (0), (st ([(QUE_CFG_CAPL 7, 5), (QUE_CFG_PROD 7, 1)] ++ [(QUE_ST_DEPTH 7, 20)])), by decide +kernel⟩

theorem wit_QueuePushes_3 : ∃ (dt : Nat) (c : Fin 4) (q : Fin 64) (n : Fin 16) (s : State), s.get (QUE_PRES_BUSY c) = 0 ∧ (s.elapse dt).pushCheck 1 q = 1 ∧ (s.elapse dt).canPush q (pushCount n) = true ∧ (s.elapse dt).nextWait q = none :=
  ⟨(5), (2), (7), (3), (st [(QUE_CFG_CAPL 7, 5), (QUE_CFG_PROD 7, 1)]), by decide +kernel⟩

theorem wit_QueuePushes_4 : ∃ (dt : Nat) (c : Fin 4) (q : Fin 64) (n : Fin 16) (s : State), s.get (QUE_PRES_BUSY c) = 0 ∧ (s.elapse dt).pushCheck 1 q = 1 ∧ ((s.elapse dt).canPush q (pushCount n) = false ∨ (s.elapse dt).nextWait q ≠ none) :=
  ⟨(5), (2), (7), (0), (st ([(QUE_CFG_CAPL 7, 5), (QUE_CFG_PROD 7, 1)] ++ [(QUE_ST_DEPTH 7, 20)])), by decide +kernel⟩

theorem wit_QueuePushes_5 : ∃ (dt : Nat) (q : Fin 64) (c : Fin 4) (w : WaitPush) (s : State), (s.elapse dt).nextWait q = some (c.val, w) :=
  ⟨(5), (7), (2), ({ q := 7, entries := [entry 5] }), ((st [(QUE_CFG_CAPL 7, 5), (QUE_CFG_PROD 7, 1)]).onQue fun x => { x with waits := [(2, { q := 7, entries := [entry 5] })] }), by decide +kernel⟩

theorem wit_QueuePushes_6 : ∃ (dt : Nat) (c : Fin 4) (w : WaitPush) (s : State), tabFind s.que.waits c = some w :=
  ⟨(5), (2), ({ q := 7, entries := [entry 5] }), ((st [(QUE_CFG_CAPL 7, 5), (QUE_CFG_PROD 7, 1)]).onQue fun x => { x with waits := [(2, { q := 7, entries := [entry 5] })] }), by decide +kernel⟩

theorem wit_QueuePops_1 : ∃ (dt : Nat) (c : Fin 4) (q : Fin 64) (e : BitVec 64) (l : List (BitVec 64)) (s : State), s.get (QUE_CFG_CONS q) = 1 ∧ s.get (QUE_CFG_BROKEN q) = 0 ∧ s.get (QUE_ST_DEPTH q) ≠ 0 ∧ (s.qData q).head = e :: l ∧ (s.elapse dt).nextHeld q = none :=
  ⟨(5), (2), (7), (entry 99), ([]), (((st ([(QUE_CFG_CAPL 7, 5), (QUE_CFG_PROD 7, 1)] ++ [(QUE_CFG_CONS 7, 1), (QUE_ST_DEPTH 7, 1)])).setQ 7 { head := [entry 99] })), by decide +kernel⟩

theorem wit_QueuePops_2 : ∃ (dt : Nat) (c : Fin 4) (q : Fin 64) (s : State), s.get (QUE_CFG_CONS q) = 1 ∧ s.get (QUE_ST_DEPTH q) = 0 :=
  ⟨(5), (2), (7), (st ([(QUE_CFG_CAPL 7, 5), (QUE_CFG_PROD 7, 1)] ++ [(QUE_CFG_CONS 7, 1)])), by decide +kernel⟩

theorem wit_QueuePops_3 : ∃ (dt : Nat) (q : Fin 64) (r : Nat) (e : BitVec 64) (l : List (BitVec 64)) (s : State), (s.elapse dt).nextHeld q = some r ∧ s.get (QUE_CFG_BROKEN q) = 0 ∧ s.get (QUE_ST_DEPTH q) ≠ 0 ∧ (s.qData q).head = e :: l :=
  ⟨(5), (7), (2), (entry 99), ([]), (((st ([(QUE_CFG_CAPL 7, 5), (QUE_CFG_PROD 7, 1)] ++ [(QUE_CFG_CONS 7, 1), (QUE_ST_DEPTH 7, 1)])).setQ 7 { head := [entry 99] }).onQue fun x => { x with heldPops := [(2, 7)] }), by decide +kernel⟩

theorem wit_QueuePops_4 : ∃ (dt : Nat) (c : Fin 4) (q : Fin 64) (s : State), s.get (QUE_CFG_CONS q) = 1 ∧ s.get (QUE_CFG_BROKEN q) = 0 ∧ s.get (QUE_ST_DEPTH q) ≠ 0 ∧ (s.elapse dt).nextHeld q ≠ none ∧ (s.qData q).head ≠ [] :=
  ⟨(5), (1), (7), (((st ([(QUE_CFG_CAPL 7, 5), (QUE_CFG_PROD 7, 1)] ++ [(QUE_CFG_CONS 7, 1), (QUE_ST_DEPTH 7, 1)])).setQ 7 { head := [entry 99] }).onQue fun x => { x with heldPops := [(2, 7)] }), by decide +kernel⟩

theorem wit_QueuePops_5 : ∃ (dt : Nat) (c : Fin 4) (q : Fin 64) (s : State), s.get (QUE_CFG_CONS q) = 1 :=
  ⟨(5), (2), (7), (((st ([(QUE_CFG_CAPL 7, 5), (QUE_CFG_PROD 7, 1)] ++ [(QUE_CFG_CONS 7, 1), (QUE_ST_DEPTH 7, 1)])).setQ 7 { head := [entry 99] })), by decide +kernel⟩

theorem wit_QueueSpills_1 : ∃ (dt : Nat) (q : Fin 64) (tag : Nat) (s : State), 8 ≤ (((s.elapse dt).settle q).qData q).tail.length ∧ freeTag ((s.elapse dt).settle q).que.bursts = some tag ∧ 32 < s.qCap q ∧ (((s.elapse dt).settle q).qData q).ringCount + 8 ≤ s.qCap q - 32 :=
  ⟨(5), (7), (0), (((st [(QUE_CFG_CAPL 7, 7), (QUE_CFG_PROD 7, 1), (QUE_ST_DEPTH 7, 24)]).setQ 7 { head := List.replicate 16 (entry 1), tail := List.replicate 8 (entry 2) })), by decide +kernel⟩

theorem wit_QueueSpills_2 : ∃ (dt : Nat) (tag : Fin 128) (b : Burst) (s : State), ((s.que.bursts.find? fun x => x.tag == tag.val && x.wr) = some b) :=
  ⟨(5), (3), ({ tag := 3, q := 7, wr := true, entries := [] }), (State.reset.onQue fun x => { x with bursts := [{ tag := 3, q := 7, wr := true, entries := [] }] }), by decide +kernel⟩

theorem wit_QueueSpills_3 : ∃ (dt : Nat) (tag : Fin 128) (b : Burst) (s : State), ((s.que.bursts.find? fun x => x.tag == tag.val && !x.wr) = some b) ∧ b.entries ≠ [] :=
  ⟨(5), (3), ({ tag := 3, q := 7, wr := false, entries := List.replicate 8 (entry 2) }), ((State.reset.setQ 7 { ringCount := 8 }).onQue fun x => { x with bursts := [{ tag := 3, q := 7, wr := false, entries := List.replicate 8 (entry 2) }] }), by decide +kernel⟩

theorem wit_QueueSpills_4 : ∃ (dt : Nat) (tag : Fin 128) (b : Burst) (s : State), ((s.que.bursts.find? fun x => x.tag == tag.val && !x.wr) = some b) ∧ b.entries ≠ [] ∧ b.q < 64 :=
  ⟨(5), (3), ({ tag := 3, q := 7, wr := false, entries := List.replicate 8 (entry 2) }), ((State.reset.setQ 7 { ringCount := 8 }).onQue fun x => { x with bursts := [{ tag := 3, q := 7, wr := false, entries := List.replicate 8 (entry 2) }] }), by decide +kernel⟩

theorem wit_ArmAndRelease_1 : ∃ (dt : Nat) (g : Fin 8) (s : State), s.armResult g = 0x1 ∧ s.get (PWR_ISL_STATE 0x17) = 0 :=
  ⟨(5), (1), ((st [(PWR_ISL_STATE 0x17, 0), (ACQ_CCFG_EN 2, 1), (ACQ_CCFG_GRP 2, 1), (ACQ_CCFG_NSLOT 2, 2), (ACQ_CCFG_STR 2, 1), (ACQ_CSIG_CLASS 2, 0xD), (ACQ_CSIG_INDEX 2, 3), (whole (ACQ_CTS 2), 1000), (ACQ_CWS_WEXP 2, 4), (ACQ_GCFG_TCH 1, 2), (whole (ACQ_CPRE 2), 5000), (whole (ACQ_CPOST 2), 90)])), by decide +kernel⟩

theorem wit_ArmAndRelease_2 : ∃ (dt : Nat) (g : Fin 8) (s : State), (s.get (ACQ_GST_STATE g) ≠ 0 ∨ s.acqMembers g = []) :=
  ⟨(5), (1), (State.reset), by decide +kernel⟩

theorem wit_ArmAndRelease_3 : ∃ (dt : Nat) (g : Fin 8) (s : State), s.get (ACQ_GST_STATE g) = 0 ∧ s.acqMembers g ≠ [] ∧ (¬ (∀ c, c ∈ s.acqMembers g → s.signalOk c = true)) :=
  ⟨(5), (1), ((st [(PWR_ISL_STATE 0x17, 0), (ACQ_CCFG_EN 2, 1), (ACQ_CCFG_GRP 2, 1), (ACQ_CCFG_NSLOT 2, 2), (ACQ_CCFG_STR 2, 1), (ACQ_CSIG_CLASS 2, 0xD), (ACQ_CSIG_INDEX 2, 3), (whole (ACQ_CTS 2), 1000), (ACQ_CWS_WEXP 2, 4), (ACQ_GCFG_TCH 1, 2), (whole (ACQ_CPRE 2), 5000), (whole (ACQ_CPOST 2), 90), (whole (ACQ_CTS 2), 1500)])), by decide +kernel⟩

theorem wit_ArmAndRelease_4 : ∃ (dt : Nat) (g : Fin 8) (s : State), s.get (ACQ_GST_STATE g) = 0 ∧ s.acqMembers g ≠ [] ∧ ((∀ c, c ∈ s.acqMembers g → s.signalOk c = true)) ∧ (¬ (∀ c, c ∈ s.acqMembers g → bandwidthOk (s.acqSize c) (s.rd (ACQ_CTS c)) (s.get (ACQ_CWS_WEXP c)) = true)) :=
  ⟨(5), (1), ((st [(PWR_ISL_STATE 0x17, 0), (ACQ_CCFG_EN 2, 1), (ACQ_CCFG_GRP 2, 1), (ACQ_CCFG_NSLOT 2, 2), (ACQ_CCFG_STR 2, 1), (ACQ_CSIG_CLASS 2, 0xD), (ACQ_CSIG_INDEX 2, 3), (whole (ACQ_CTS 2), 1000), (ACQ_CWS_WEXP 2, 4), (ACQ_GCFG_TCH 1, 2), (whole (ACQ_CPRE 2), 5000), (whole (ACQ_CPOST 2), 90), (ACQ_CWS_WEXP 2, 0xF)])), by decide +kernel⟩

theorem wit_ArmAndRelease_5 : ∃ (dt : Nat) (g : Fin 8) (s : State), s.get (ACQ_GST_STATE g) = 0 ∧ s.acqMembers g ≠ [] ∧ ((∀ c, c ∈ s.acqMembers g → s.signalOk c = true)) ∧ ((∀ c, c ∈ s.acqMembers g → bandwidthOk (s.acqSize c) (s.rd (ACQ_CTS c)) (s.get (ACQ_CWS_WEXP c)) = true)) ∧ s.triggerOk g = false :=
  ⟨(5), (1), ((st [(PWR_ISL_STATE 0x17, 0), (ACQ_CCFG_EN 2, 1), (ACQ_CCFG_GRP 2, 1), (ACQ_CCFG_NSLOT 2, 2), (ACQ_CCFG_STR 2, 1), (ACQ_CSIG_CLASS 2, 0xD), (ACQ_CSIG_INDEX 2, 3), (whole (ACQ_CTS 2), 1000), (ACQ_CWS_WEXP 2, 4), (ACQ_GCFG_TCH 1, 2), (whole (ACQ_CPRE 2), 5000), (whole (ACQ_CPOST 2), 90), (ACQ_GCFG_SRC 1, 9)])), by decide +kernel⟩

theorem wit_ArmAndRelease_6 : ∃ (dt : Nat) (g : Fin 8) (s : State), s.get (ACQ_GST_STATE g) = 0 ∧ s.acqMembers g ≠ [] ∧ ((∀ c, c ∈ s.acqMembers g → s.signalOk c = true)) ∧ ((∀ c, c ∈ s.acqMembers g → bandwidthOk (s.acqSize c) (s.rd (ACQ_CTS c)) (s.get (ACQ_CWS_WEXP c)) = true)) ∧ s.triggerOk g = true ∧ s.acqRoom g = false :=
  ⟨(5), (1), ((st [(PWR_ISL_STATE 0x17, 0), (ACQ_CCFG_EN 2, 1), (ACQ_CCFG_GRP 2, 1), (ACQ_CCFG_NSLOT 2, 2), (ACQ_CCFG_STR 2, 1), (ACQ_CSIG_CLASS 2, 0xD), (ACQ_CSIG_INDEX 2, 3), (whole (ACQ_CTS 2), 1000), (ACQ_CWS_WEXP 2, 4), (ACQ_GCFG_TCH 1, 2), (whole (ACQ_CPRE 2), 5000), (whole (ACQ_CPOST 2), 90), (ACQ_CCFG_NSLOT 2, 0), (ACQ_SLOT_KIND 9, 1)])), by decide +kernel⟩

theorem wit_ArmAndRelease_7 : ∃ (dt : Nat) (g : Fin 8) (s : State), s.get (ACQ_GST_STATE g) = 0 ∧ s.acqMembers g ≠ [] ∧ ((∀ c, c ∈ s.acqMembers g → s.signalOk c = true)) ∧ ((∀ c, c ∈ s.acqMembers g → bandwidthOk (s.acqSize c) (s.rd (ACQ_CTS c)) (s.get (ACQ_CWS_WEXP c)) = true)) ∧ s.triggerOk g = true ∧ s.acqRoom g = true ∧ (((s.get (ACQ_GCFG_SRC g) = 5 ∨ s.get (ACQ_GCFG_WOUTEN g) = 1) ∧ s.get ACQ_WST_CLKOK = 0)) :=
  ⟨(5), (1), ((st [(PWR_ISL_STATE 0x17, 0), (ACQ_CCFG_EN 2, 1), (ACQ_CCFG_GRP 2, 1), (ACQ_CCFG_NSLOT 2, 2), (ACQ_CCFG_STR 2, 1), (ACQ_CSIG_CLASS 2, 0xD), (ACQ_CSIG_INDEX 2, 3), (whole (ACQ_CTS 2), 1000), (ACQ_CWS_WEXP 2, 4), (ACQ_GCFG_TCH 1, 2), (whole (ACQ_CPRE 2), 5000), (whole (ACQ_CPOST 2), 90), (ACQ_GCFG_WOUTEN 1, 1)])), by decide +kernel⟩

theorem wit_ArmAndRelease_8 : ∃ (dt : Nat) (g : Fin 8) (s : State), s.get (ACQ_GST_STATE g) = 0 ∧ s.acqMembers g ≠ [] ∧ ((∀ c, c ∈ s.acqMembers g → s.signalOk c = true)) ∧ ((∀ c, c ∈ s.acqMembers g → bandwidthOk (s.acqSize c) (s.rd (ACQ_CTS c)) (s.get (ACQ_CWS_WEXP c)) = true)) ∧ s.triggerOk g = true ∧ s.acqRoom g = true ∧ (¬ ((s.get (ACQ_GCFG_SRC g) = 5 ∨ s.get (ACQ_GCFG_WOUTEN g) = 1) ∧ s.get ACQ_WST_CLKOK = 0)) ∧ s.get CFG_CHG_BUSY = 1 :=
  ⟨(5), (1), ((st [(PWR_ISL_STATE 0x17, 0), (ACQ_CCFG_EN 2, 1), (ACQ_CCFG_GRP 2, 1), (ACQ_CCFG_NSLOT 2, 2), (ACQ_CCFG_STR 2, 1), (ACQ_CSIG_CLASS 2, 0xD), (ACQ_CSIG_INDEX 2, 3), (whole (ACQ_CTS 2), 1000), (ACQ_CWS_WEXP 2, 4), (ACQ_GCFG_TCH 1, 2), (whole (ACQ_CPRE 2), 5000), (whole (ACQ_CPOST 2), 90), (CFG_CHG_BUSY, 1)])), by decide +kernel⟩

theorem wit_ArmAndRelease_9 : ∃ (dt : Nat) (g : Fin 8) (s : State), s.armResult g = 0x1 ∧ s.get (PWR_ISL_STATE 0x17) ≠ 0 :=
  ⟨(5), (1), ((st [(PWR_ISL_STATE 0x17, 0), (ACQ_CCFG_EN 2, 1), (ACQ_CCFG_GRP 2, 1), (ACQ_CCFG_NSLOT 2, 2), (ACQ_CCFG_STR 2, 1), (ACQ_CSIG_CLASS 2, 0xD), (ACQ_CSIG_INDEX 2, 3), (whole (ACQ_CTS 2), 1000), (ACQ_CWS_WEXP 2, 4), (ACQ_GCFG_TCH 1, 2), (whole (ACQ_CPRE 2), 5000), (whole (ACQ_CPOST 2), 90), (PWR_ISL_STATE 0x17, 1)])), by decide +kernel⟩

theorem wit_ArmAndRelease_10 : ∃ (dt : Nat) (g : Fin 8) (s : State), (s.get (ACQ_GST_STATE g) = 1 ∨ s.get (ACQ_GST_STATE g) = 2 ∨ s.get (ACQ_GST_STATE g) = 4) :=
  ⟨(5), (1), (((st [(PWR_ISL_STATE 0x17, 0), (ACQ_CCFG_EN 2, 1), (ACQ_CCFG_GRP 2, 1), (ACQ_CCFG_NSLOT 2, 2), (ACQ_CCFG_STR 2, 1), (ACQ_CSIG_CLASS 2, 0xD), (ACQ_CSIG_INDEX 2, 3), (whole (ACQ_CTS 2), 1000), (ACQ_CWS_WEXP 2, 4), (ACQ_GCFG_TCH 1, 2), (whole (ACQ_CPRE 2), 5000), (whole (ACQ_CPOST 2), 90), (ACQ_GST_STATE 1, 2), (ACQ_SLOT_KIND 4, 1), (ACQ_SLOT_KIND 5, 1)]).onAcq fun a => { a with chan := [(2, ⟨[4, 5], 3, 2, 1000, 4096, 8, 9, 1000, 0, none, []⟩)] }).onClk fun c => { c with running := true }), by decide +kernel⟩

theorem wit_ArmAndRelease_11 : ∃ (dt : Nat) (g : Fin 8) (s : State), s.get (ACQ_GST_STATE g) = 3 :=
  ⟨(5), (1), (((st [(PWR_ISL_STATE 0x17, 0), (ACQ_CCFG_EN 2, 1), (ACQ_CCFG_GRP 2, 1), (ACQ_CCFG_NSLOT 2, 2), (ACQ_CCFG_STR 2, 1), (ACQ_CSIG_CLASS 2, 0xD), (ACQ_CSIG_INDEX 2, 3), (whole (ACQ_CTS 2), 1000), (ACQ_CWS_WEXP 2, 4), (ACQ_GCFG_TCH 1, 2), (whole (ACQ_CPRE 2), 5000), (whole (ACQ_CPOST 2), 90), (ACQ_GST_STATE 1, 3), (ACQ_SLOT_KIND 4, 1), (ACQ_SLOT_KIND 5, 1)]).onAcq fun a => { a with chan := [(2, ⟨[4, 5], 3, 2, 1000, 4096, 8, 9, 1000, 12, some 10, []⟩)] }).onClk fun c => { c with running := true }), by decide +kernel⟩

theorem wit_ArmAndRelease_12 : ∃ (dt : Nat) (g : Fin 8) (s : State), s.get (ACQ_GST_STATE g) = 0 :=
  ⟨(5), (1), (State.reset.onAcq fun a => { a with wake := [1, 2] }), by decide +kernel⟩

theorem wit_ArmAndRelease_13 : ∃ (dt : Nat) (g : Fin 8) (s : State), s.get (ACQ_GST_STATE g) = 0 :=
  ⟨(5), (1), (State.reset), by decide +kernel⟩

theorem wit_ArmAndRelease_14 : ∃ (dt : Nat) (g : Fin 8) (s : State), s.get (ACQ_GST_STATE g) ≠ 0 :=
  ⟨(5), (1), ((st [(PWR_ISL_STATE 0x17, 0), (ACQ_CCFG_EN 2, 1), (ACQ_CCFG_GRP 2, 1), (ACQ_CCFG_NSLOT 2, 2), (ACQ_CCFG_STR 2, 1), (ACQ_CSIG_CLASS 2, 0xD), (ACQ_CSIG_INDEX 2, 3), (whole (ACQ_CTS 2), 1000), (ACQ_CWS_WEXP 2, 4), (ACQ_GCFG_TCH 1, 2), (whole (ACQ_CPRE 2), 5000), (whole (ACQ_CPOST 2), 90), (ACQ_GST_STATE 1, 2)])), by decide +kernel⟩

theorem wit_ArmAndRelease_15 : ∃ (dt : Nat) (g : Fin 8) (s : State), s.get (ACQ_GST_STATE g) = 1 ∧ (s.acqGroup g).rearmAt ≤ (s.elapse dt).now :=
  ⟨(5), (1), ((st [(PWR_ISL_STATE 0x17, 0), (ACQ_CCFG_EN 2, 1), (ACQ_CCFG_GRP 2, 1), (ACQ_CCFG_NSLOT 2, 2), (ACQ_CCFG_STR 2, 1), (ACQ_CSIG_CLASS 2, 0xD), (ACQ_CSIG_INDEX 2, 3), (whole (ACQ_CTS 2), 1000), (ACQ_CWS_WEXP 2, 4), (ACQ_GCFG_TCH 1, 2), (whole (ACQ_CPRE 2), 5000), (whole (ACQ_CPOST 2), 90), (ACQ_GST_STATE 1, 1)])), by decide +kernel⟩

theorem wit_ArmAndRelease_16 : ∃ (dt : Nat) (g : Fin 8) (s : State), (s.get (ACQ_GST_STATE g) ≠ 1 ∨ (s.elapse dt).now < (s.acqGroup g).rearmAt) :=
  ⟨(5), (1), (State.reset), by decide +kernel⟩

theorem wit_ArmAndRelease_17 : ∃ (dt : Nat) (who : Accessor) (r : Fin 128) (s : State), 2 ≤ s.rd (ACQ_RD r 0) / 65536 % 256 ∧ s.rd (ACQ_RD r 0) / 65536 % 256 ≤ 5 ∧ (∀ g : Fin 8, s.get (ACQ_GST_STATE g) ≠ 4) :=
  ⟨(5), (.core 0), (3), (st [(whole (ACQ_RD 3 0), 0x20000), (ACQ_SLOT_KIND 9, 2), (ACQ_SLOT_OWNER 9, 3)]), by decide +kernel⟩

theorem wit_ArmAndRelease_18 : ∃ (dt : Nat) (who : Accessor) (r : Fin 128) (g : Fin 8) (s : State), 2 ≤ s.rd (ACQ_RD r 0) / 65536 % 256 ∧ s.rd (ACQ_RD r 0) / 65536 % 256 ≤ 5 ∧ s.get (ACQ_GST_STATE g) = 4 ∧ (∀ y : Fin 8, y ≠ g → s.get (ACQ_GST_STATE y) ≠ 4) ∧ (s.get (ACQ_GST_STATE g) = 4 → s.acqMembers g ≠ []) :=
  ⟨(5), (.core 0), (3), (1), ((st [(PWR_ISL_STATE 0x17, 0), (ACQ_CCFG_EN 2, 1), (ACQ_CCFG_GRP 2, 1), (ACQ_CCFG_NSLOT 2, 2), (ACQ_CCFG_STR 2, 1), (ACQ_CSIG_CLASS 2, 0xD), (ACQ_CSIG_INDEX 2, 3), (whole (ACQ_CTS 2), 1000), (ACQ_CWS_WEXP 2, 4), (ACQ_GCFG_TCH 1, 2), (whole (ACQ_CPRE 2), 5000), (whole (ACQ_CPOST 2), 90), (ACQ_GST_STATE 1, 4), (whole (ACQ_RD 3 0), 0x20000), (ACQ_SLOT_KIND 9, 2), (ACQ_SLOT_OWNER 9, 3)])), by decide +kernel⟩

theorem wit_ArmAndRelease_19 : ∃ (dt : Nat) (who : Accessor) (r : Fin 128) (s : State), (s.rd (ACQ_RD r 0) / 65536 % 256 < 2 ∨ 5 < s.rd (ACQ_RD r 0) / 65536 % 256) :=
  ⟨(5), (.core 0), (3), (State.reset), by decide +kernel⟩

theorem wit_Recording_1 : ∃ (dt : Nat) (c : Fin 64) (vals : List (BitVec 64)) (l : List Bool) (s : State), s.recordFull c = false ∧ (s.get (ACQ_CCFG_EN c) = 0 ∨ (s.elapse dt).atBoundary (s.rd (ACQ_CTS c)) = false ∨ tabFind s.acq.chan c = none ∧ s.get (ACQ_GST_STATE (s.get (ACQ_CCFG_GRP c))) ≠ 4) :=
  ⟨(5), (2), ([]), ([]), (State.reset), by decide +kernel⟩

theorem wit_Recording_2 : ∃ (dt : Nat) (c : Fin 64) (vals : List (BitVec 64)) (l : List Bool) (k : AcqChan) (s : State), s.recordFull c = false ∧ s.get (ACQ_CCFG_EN c) = 1 ∧ (s.elapse dt).atBoundary (s.rd (ACQ_CTS c)) = true ∧ tabFind s.acq.chan c = some k ∧ k.first + k.taken * k.ts ≤ (s.elapse dt).now ∧ s.get (ACQ_GCFG_TCH (s.get (ACQ_CCFG_GRP c))) ≠ c.val ∧ s.get (ACQ_CCFG_STR c) = 1 :=
  ⟨(5000), (2), ([7]), ([]), (⟨[4, 5], 3, 2, 1000, 3, 8, 9, 1000, 4, none, []⟩), (((st [(PWR_ISL_STATE 0x17, 0), (ACQ_CCFG_EN 2, 1), (ACQ_CCFG_GRP 2, 1), (ACQ_CCFG_NSLOT 2, 2), (ACQ_CCFG_STR 2, 1), (ACQ_CSIG_CLASS 2, 0xD), (ACQ_CSIG_INDEX 2, 3), (whole (ACQ_CTS 2), 1000), (ACQ_CWS_WEXP 2, 4), (ACQ_GCFG_TCH 1, 2), (whole (ACQ_CPRE 2), 5000), (whole (ACQ_CPOST 2), 90), (ACQ_GST_STATE 1, 2), (ACQ_GCFG_TCH 1, 3), (ACQ_CST_STATE 2, 1), (ACQ_CSIG_CLASS 2, 5), (whole (PRF_SVEL 3), 0x70000)]).onAcq fun a => { a with chan := [(2, ⟨[4, 5], 3, 2, 1000, 3, 8, 9, 1000, 4, none, []⟩)] }).onClk fun c => { c with running := true }), by decide +kernel⟩

theorem wit_Recording_3 : ∃ (dt : Nat) (c : Fin 64) (vals : List (BitVec 64)) (l : List Bool) (k : AcqChan) (g : Fin 8) (y : Int) (y0 : Int) (s : State), s.recordFull c = false ∧ s.get (ACQ_CCFG_EN c) = 1 ∧ (s.elapse dt).atBoundary (s.rd (ACQ_CTS c)) = true ∧ tabFind s.acq.chan c = some k ∧ k.first + k.taken * k.ts ≤ (s.elapse dt).now ∧ s.get (ACQ_CCFG_GRP c) = g ∧ s.get (ACQ_GCFG_TCH g) = c ∧ sampleStream s g c vals l = y ∧ s.get (ACQ_GST_STATE g) = 2 ∧ (s.acqGroup g).force = false ∧ (s.get (ACQ_GCFG_SRC g) = 0 ∨ s.get (ACQ_GCFG_SRC g) = 2) ∧ (s.acqGroup g).y0 = some y0 ∧ (s.acqGroup g).low = true ∧ y0 < signed 32 (s.rd (ACQ_GLVL g)) ∧ signed 32 (s.rd (ACQ_GLVL g)) ≤ y :=
  ⟨(1000), (2), ([7]), ([]), (⟨[4, 5], 3, 2, 1000, 4096, 8, 9, 1000, 0, none, []⟩), (1), (7), (1), (((((st [(PWR_ISL_STATE 0x17, 0), (ACQ_CCFG_EN 2, 1), (ACQ_CCFG_GRP 2, 1), (ACQ_CCFG_NSLOT 2, 2), (ACQ_CCFG_STR 2, 1), (ACQ_CSIG_CLASS 2, 0xD), (ACQ_CSIG_INDEX 2, 3), (whole (ACQ_CTS 2), 1000), (ACQ_CWS_WEXP 2, 4), (ACQ_GCFG_TCH 1, 2), (whole (ACQ_CPRE 2), 5000), (whole (ACQ_CPOST 2), 90), (ACQ_GST_STATE 1, 2), (ACQ_CST_STATE 2, 1), (ACQ_CSIG_CLASS 2, 5), (whole (PRF_SVEL 3), 0x70000), (ACQ_GCFG_SRC 1, 0), (whole (ACQ_GLVL 1), 5)]).onAcq fun a => { a with chan := [(2, ⟨[4, 5], 3, 2, 1000, 4096, 8, 9, 1000, 0, none, []⟩)] }).onClk fun c => { c with running := true }).onAcqGroup 1 fun x => { x with y0 := some 1, low := true })), by decide +kernel⟩

theorem wit_Recording_4 : ∃ (dt : Nat) (c : Fin 64) (vals : List (BitVec 64)) (l : List Bool) (k : AcqChan) (g : Fin 8) (y : Int) (y0 : Int) (s : State), s.recordFull c = false ∧ s.get (ACQ_CCFG_EN c) = 1 ∧ (s.elapse dt).atBoundary (s.rd (ACQ_CTS c)) = true ∧ tabFind s.acq.chan c = some k ∧ k.first + k.taken * k.ts ≤ (s.elapse dt).now ∧ s.get (ACQ_CCFG_GRP c) = g ∧ s.get (ACQ_GCFG_TCH g) = c ∧ sampleStream s g c vals l = y ∧ s.get (ACQ_GST_STATE g) = 2 ∧ (s.acqGroup g).force = false ∧ s.get (ACQ_GCFG_SRC g) = 1 ∧ (s.acqGroup g).y0 = some y0 ∧ (s.acqGroup g).high = true ∧ signed 32 (s.rd (ACQ_GLVL g)) < y0 ∧ y ≤ signed 32 (s.rd (ACQ_GLVL g)) :=
  ⟨(1000), (2), ([1]), ([]), (⟨[4, 5], 3, 2, 1000, 4096, 8, 9, 1000, 0, none, []⟩), (1), (1), (9), (((((st [(PWR_ISL_STATE 0x17, 0), (ACQ_CCFG_EN 2, 1), (ACQ_CCFG_GRP 2, 1), (ACQ_CCFG_NSLOT 2, 2), (ACQ_CCFG_STR 2, 1), (ACQ_CSIG_CLASS 2, 0xD), (ACQ_CSIG_INDEX 2, 3), (whole (ACQ_CTS 2), 1000), (ACQ_CWS_WEXP 2, 4), (ACQ_GCFG_TCH 1, 2), (whole (ACQ_CPRE 2), 5000), (whole (ACQ_CPOST 2), 90), (ACQ_GST_STATE 1, 2), (ACQ_CST_STATE 2, 1), (ACQ_CSIG_CLASS 2, 5), (whole (PRF_SVEL 3), 0x10000), (ACQ_GCFG_SRC 1, 1), (whole (ACQ_GLVL 1), 5)]).onAcq fun a => { a with chan := [(2, ⟨[4, 5], 3, 2, 1000, 4096, 8, 9, 1000, 0, none, []⟩)] }).onClk fun c => { c with running := true }).onAcqGroup 1 fun x => { x with y0 := some 9, high := true })), by decide +kernel⟩

theorem wit_Recording_5 : ∃ (dt : Nat) (c : Fin 64) (vals : List (BitVec 64)) (l : List Bool) (k : AcqChan) (g : Fin 8) (y : Int) (s : State), s.recordFull c = false ∧ s.get (ACQ_CCFG_EN c) = 1 ∧ (s.elapse dt).atBoundary (s.rd (ACQ_CTS c)) = true ∧ tabFind s.acq.chan c = some k ∧ k.first + k.taken * k.ts ≤ (s.elapse dt).now ∧ s.get (ACQ_CCFG_GRP c) = g ∧ s.get (ACQ_GCFG_TCH g) = c ∧ sampleStream s g c vals l = y ∧ s.get (ACQ_GST_STATE g) = 2 ∧ (s.acqGroup g).force = false ∧ (s.get (ACQ_GCFG_SRC g) = 3 ∧ signed 32 (s.rd (ACQ_GLVL g)) ≤ y ∨ s.get (ACQ_GCFG_SRC g) = 4 ∧ y ≤ signed 32 (s.rd (ACQ_GLVL g))) :=
  ⟨(1000), (2), ([7]), ([]), (⟨[4, 5], 3, 2, 1000, 4096, 8, 9, 1000, 0, none, []⟩), (1), (7), (((((st [(PWR_ISL_STATE 0x17, 0), (ACQ_CCFG_EN 2, 1), (ACQ_CCFG_GRP 2, 1), (ACQ_CCFG_NSLOT 2, 2), (ACQ_CCFG_STR 2, 1), (ACQ_CSIG_CLASS 2, 0xD), (ACQ_CSIG_INDEX 2, 3), (whole (ACQ_CTS 2), 1000), (ACQ_CWS_WEXP 2, 4), (ACQ_GCFG_TCH 1, 2), (whole (ACQ_CPRE 2), 5000), (whole (ACQ_CPOST 2), 90), (ACQ_GST_STATE 1, 2), (ACQ_CST_STATE 2, 1), (ACQ_CSIG_CLASS 2, 5), (whole (PRF_SVEL 3), 0x70000), (ACQ_GCFG_SRC 1, 3), (whole (ACQ_GLVL 1), 5)]).onAcq fun a => { a with chan := [(2, ⟨[4, 5], 3, 2, 1000, 4096, 8, 9, 1000, 0, none, []⟩)] }).onClk fun c => { c with running := true }).onAcqGroup 1 fun x => x)), by decide +kernel⟩

theorem wit_Recording_6 : ∃ (dt : Nat) (c : Fin 64) (vals : List (BitVec 64)) (l : List Bool) (k : AcqChan) (g : Fin 8) (y : Int) (s : State), s.recordFull c = false ∧ s.get (ACQ_CCFG_EN c) = 1 ∧ (s.elapse dt).atBoundary (s.rd (ACQ_CTS c)) = true ∧ tabFind s.acq.chan c = some k ∧ k.first + k.taken * k.ts ≤ (s.elapse dt).now ∧ s.get (ACQ_CCFG_GRP c) = g ∧ s.get (ACQ_GCFG_TCH g) = c ∧ sampleStream s g c vals l = y ∧ s.get (ACQ_GST_STATE g) = 2 ∧ 8 ≤ s.get (ACQ_GCFG_SRC g) ∧ (s.acqGroup g).force = true :=
  ⟨(1000), (2), ([7]), ([]), (⟨[4, 5], 3, 2, 1000, 4096, 8, 9, 1000, 0, none, []⟩), (1), (7), (((((st [(PWR_ISL_STATE 0x17, 0), (ACQ_CCFG_EN 2, 1), (ACQ_CCFG_GRP 2, 1), (ACQ_CCFG_NSLOT 2, 2), (ACQ_CCFG_STR 2, 1), (ACQ_CSIG_CLASS 2, 0xD), (ACQ_CSIG_INDEX 2, 3), (whole (ACQ_CTS 2), 1000), (ACQ_CWS_WEXP 2, 4), (ACQ_GCFG_TCH 1, 2), (whole (ACQ_CPRE 2), 5000), (whole (ACQ_CPOST 2), 90), (ACQ_GST_STATE 1, 2), (ACQ_CST_STATE 2, 1), (ACQ_CSIG_CLASS 2, 5), (whole (PRF_SVEL 3), 0x70000), (ACQ_GCFG_SRC 1, 8)]).onAcq fun a => { a with chan := [(2, ⟨[4, 5], 3, 2, 1000, 4096, 8, 9, 1000, 0, none, []⟩)] }).onClk fun c => { c with running := true }).onAcqGroup 1 fun x => { x with force := true })), by decide +kernel⟩

theorem wit_Recording_7 : ∃ (dt : Nat) (c : Fin 64) (vals : List (BitVec 64)) (l : List Bool) (k : AcqChan) (g : Fin 8) (y : Int) (s : State), s.recordFull c = false ∧ s.get (ACQ_CCFG_EN c) = 1 ∧ (s.elapse dt).atBoundary (s.rd (ACQ_CTS c)) = true ∧ tabFind s.acq.chan c = some k ∧ k.first + k.taken * k.ts ≤ (s.elapse dt).now ∧ s.get (ACQ_CCFG_GRP c) = g ∧ s.get (ACQ_GCFG_TCH g) = c ∧ sampleStream s g c vals l = y ∧ s.get (ACQ_GST_STATE g) = 1 ∧ (s.elapse dt).now < (s.acqGroup g).rearmAt ∧ s.get (ACQ_GCFG_SRC g) = 3 ∧ (s.acqGroup g).force = false ∧ signed 32 (s.rd (ACQ_GLVL g)) ≤ y :=
  ⟨(1000), (2), ([7]), ([]), (⟨[4, 5], 3, 2, 1000, 4096, 8, 9, 1000, 0, none, []⟩), (1), (7), (((((st [(PWR_ISL_STATE 0x17, 0), (ACQ_CCFG_EN 2, 1), (ACQ_CCFG_GRP 2, 1), (ACQ_CCFG_NSLOT 2, 2), (ACQ_CCFG_STR 2, 1), (ACQ_CSIG_CLASS 2, 0xD), (ACQ_CSIG_INDEX 2, 3), (whole (ACQ_CTS 2), 1000), (ACQ_CWS_WEXP 2, 4), (ACQ_GCFG_TCH 1, 2), (whole (ACQ_CPRE 2), 5000), (whole (ACQ_CPOST 2), 90), (ACQ_GST_STATE 1, 2), (ACQ_CST_STATE 2, 1), (ACQ_CSIG_CLASS 2, 5), (whole (PRF_SVEL 3), 0x70000), (ACQ_GCFG_SRC 1, 3), (whole (ACQ_GLVL 1), 5), (ACQ_GST_STATE 1, 1)]).onAcq fun a => { a with chan := [(2, ⟨[4, 5], 3, 2, 1000, 4096, 8, 9, 1000, 0, none, []⟩)] }).onClk fun c => { c with running := true }).onAcqGroup 1 fun x => { x with rearmAt := 64000 })), by decide +kernel⟩

theorem wit_Recording_8 : ∃ (dt : Nat) (c : Fin 64) (vals : List (BitVec 64)) (l : List Bool) (k : AcqChan) (g : Fin 8) (y : Int) (s : State), s.recordFull c = false ∧ s.get (ACQ_CCFG_EN c) = 1 ∧ (s.elapse dt).atBoundary (s.rd (ACQ_CTS c)) = true ∧ tabFind s.acq.chan c = some k ∧ k.first + k.taken * k.ts ≤ (s.elapse dt).now ∧ s.get (ACQ_CCFG_GRP c) = g ∧ s.get (ACQ_GCFG_TCH g) = c ∧ sampleStream s g c vals l = y ∧ s.get (ACQ_GST_STATE g) = 2 ∧ s.get (ACQ_GCFG_SRC g) = 3 ∧ y < signed 32 (s.rd (ACQ_GLVL g)) ∧ (s.acqGroup g).force = false :=
  ⟨(1000), (2), ([7]), ([]), (⟨[4, 5], 3, 2, 1000, 4096, 8, 9, 1000, 0, none, []⟩), (1), (7), (((((st [(PWR_ISL_STATE 0x17, 0), (ACQ_CCFG_EN 2, 1), (ACQ_CCFG_GRP 2, 1), (ACQ_CCFG_NSLOT 2, 2), (ACQ_CCFG_STR 2, 1), (ACQ_CSIG_CLASS 2, 0xD), (ACQ_CSIG_INDEX 2, 3), (whole (ACQ_CTS 2), 1000), (ACQ_CWS_WEXP 2, 4), (ACQ_GCFG_TCH 1, 2), (whole (ACQ_CPRE 2), 5000), (whole (ACQ_CPOST 2), 90), (ACQ_GST_STATE 1, 2), (ACQ_CST_STATE 2, 1), (ACQ_CSIG_CLASS 2, 5), (whole (PRF_SVEL 3), 0x70000), (ACQ_GCFG_SRC 1, 3), (whole (ACQ_GLVL 1), 50)]).onAcq fun a => { a with chan := [(2, ⟨[4, 5], 3, 2, 1000, 4096, 8, 9, 1000, 0, none, []⟩)] }).onClk fun c => { c with running := true }).onAcqGroup 1 fun x => x)), by decide +kernel⟩

theorem wit_Recording_9 : ∃ (dt : Nat) (c : Fin 64) (vals : List (BitVec 64)) (l : List Bool) (g : Fin 8) (s : State), s.recordFull c = false ∧ s.get (ACQ_CCFG_EN c) = 1 ∧ (s.elapse dt).atBoundary (s.rd (ACQ_CTS c)) = true ∧ tabFind s.acq.chan c = none ∧ s.get (ACQ_CCFG_GRP c) = g ∧ s.get (ACQ_GCFG_TCH g) = c ∧ s.get (ACQ_GST_STATE g) = 4 ∧ s.get (ACQ_GCFG_SRC g) = 3 ∧ (s.acqGroup g).force = false ∧ signed 32 (s.rd (ACQ_GLVL g)) ≤ sampleStream s g c vals l :=
  ⟨(1000), (2), ([7]), ([]), (1), (((st [(PWR_ISL_STATE 0x17, 0), (ACQ_CCFG_EN 2, 1), (ACQ_CCFG_GRP 2, 1), (ACQ_CCFG_NSLOT 2, 2), (ACQ_CCFG_STR 2, 1), (ACQ_CSIG_CLASS 2, 0xD), (ACQ_CSIG_INDEX 2, 3), (whole (ACQ_CTS 2), 1000), (ACQ_CWS_WEXP 2, 4), (ACQ_GCFG_TCH 1, 2), (whole (ACQ_CPRE 2), 5000), (whole (ACQ_CPOST 2), 90), (ACQ_GST_STATE 1, 4), (ACQ_CSIG_CLASS 2, 5), (whole (PRF_SVEL 3), 0x70000), (ACQ_GCFG_SRC 1, 3), (whole (ACQ_GLVL 1), 5)])).onClk fun c => { c with running := true }), by decide +kernel⟩

theorem wit_Recording_10 : ∃ (dt : Nat) (g : Fin 8) (s : State), (s.get (ACQ_GST_STATE g) = 2 ∧ s.get (ACQ_GCFG_AUTO g) = 1 ∧ (s.acqGroup g).armedAt + s.rd (ACQ_GAUTO g) * 1000 ≤ (s.elapse dt).now ∧ (s.elapse dt).atBoundary (s.rd (ACQ_CTS (s.get (ACQ_GCFG_TCH g)))) = true ∧ (s.elapse dt).acqLooked (s.get (ACQ_GCFG_TCH g)) = true) :=
  ⟨(2000), (1), (((st [(PWR_ISL_STATE 0x17, 0), (ACQ_CCFG_EN 2, 1), (ACQ_CCFG_GRP 2, 1), (ACQ_CCFG_NSLOT 2, 2), (ACQ_CCFG_STR 2, 1), (ACQ_CSIG_CLASS 2, 0xD), (ACQ_CSIG_INDEX 2, 3), (whole (ACQ_CTS 2), 1000), (ACQ_CWS_WEXP 2, 4), (ACQ_GCFG_TCH 1, 2), (whole (ACQ_CPRE 2), 5000), (whole (ACQ_CPOST 2), 90), (ACQ_GST_STATE 1, 2), (ACQ_GCFG_AUTO 1, 1), (whole (ACQ_GAUTO 1), 2)]).onAcq fun a => { a with chan := [(2, ⟨[4, 5], 3, 2, 1000, 4096, 8, 9, 1000, 2, none, []⟩)] }).onClk fun c => { c with running := true }), by decide +kernel⟩

theorem wit_Recording_11 : ∃ (dt : Nat) (g : Fin 8) (s : State), ¬ (s.get (ACQ_GST_STATE g) = 2 ∧ s.get (ACQ_GCFG_AUTO g) = 1 ∧ (s.acqGroup g).armedAt + s.rd (ACQ_GAUTO g) * 1000 ≤ (s.elapse dt).now ∧ (s.elapse dt).atBoundary (s.rd (ACQ_CTS (s.get (ACQ_GCFG_TCH g)))) = true ∧ (s.elapse dt).acqLooked (s.get (ACQ_GCFG_TCH g)) = true) :=
  ⟨(5), (1), (State.reset), by decide +kernel⟩

theorem wit_Recording_12 : ∃ (dt : Nat) (c : Fin 64) (s : State), s.recordFull c = false :=
  ⟨(5), (2), (State.reset), by decide +kernel⟩

theorem wit_Recording_13 : ∃ (dt : Nat) (c : Fin 64) (k : AcqChan) (t : Nat) (s : State), k.rid < 128 ∧ s.get (ACQ_GCFG_REPEAT (s.get (ACQ_CCFG_GRP c))) = 0 ∧ k.trig = some t ∧ tabFind s.acq.chan c = some k ∧ t + k.post ≤ k.taken :=
  ⟨(5), (2), (⟨[4, 5], 3, 2, 1000, 4096, 8, 9, 1000, 12, some 3, []⟩), (3), (((st [(PWR_ISL_STATE 0x17, 0), (ACQ_CCFG_EN 2, 1), (ACQ_CCFG_GRP 2, 1), (ACQ_CCFG_NSLOT 2, 2), (ACQ_CCFG_STR 2, 1), (ACQ_CSIG_CLASS 2, 0xD), (ACQ_CSIG_INDEX 2, 3), (whole (ACQ_CTS 2), 1000), (ACQ_CWS_WEXP 2, 4), (ACQ_GCFG_TCH 1, 2), (whole (ACQ_CPRE 2), 5000), (whole (ACQ_CPOST 2), 90), (ACQ_GST_STATE 1, 3), (ACQ_RQ_EN, 1)]).onAcq fun a => { a with chan := [(2, ⟨[4, 5], 3, 2, 1000, 4096, 8, 9, 1000, 12, some 3, []⟩)] }).onClk fun c => { c with running := true }), by decide +kernel⟩

theorem wit_Recording_14 : ∃ (dt : Nat) (c : Fin 64) (k : AcqChan) (t : Nat) (s : State), k.rid < 128 ∧ s.get (ACQ_GCFG_REPEAT (s.get (ACQ_CCFG_GRP c))) = 0 ∧ k.trig = some t ∧ tabFind s.acq.chan c = some k ∧ t ≤ k.taken :=
  ⟨(5), (2), (⟨[4, 5], 3, 2, 1000, 4096, 8, 9, 1000, 5, some 3, []⟩), (3), (((st [(PWR_ISL_STATE 0x17, 0), (ACQ_CCFG_EN 2, 1), (ACQ_CCFG_GRP 2, 1), (ACQ_CCFG_NSLOT 2, 2), (ACQ_CCFG_STR 2, 1), (ACQ_CSIG_CLASS 2, 0xD), (ACQ_CSIG_INDEX 2, 3), (whole (ACQ_CTS 2), 1000), (ACQ_CWS_WEXP 2, 4), (ACQ_GCFG_TCH 1, 2), (whole (ACQ_CPRE 2), 5000), (whole (ACQ_CPOST 2), 90), (ACQ_GST_STATE 1, 3), (ACQ_RQ_EN, 1)]).onAcq fun a => { a with chan := [(2, ⟨[4, 5], 3, 2, 1000, 4096, 8, 9, 1000, 5, some 3, []⟩)] }).onClk fun c => { c with running := true }), by decide +kernel⟩

theorem wit_Recording_15 : ∃ (dt : Nat) (c : Fin 64) (s : State), tabFind s.acq.chan c = none :=
  ⟨(5), (2), (State.reset), by decide +kernel⟩

theorem wit_Recording_16 : ∃ (dt : Nat) (n : Fin 4) (s : State), (s.acq.out.find? (fun e => e.1 == n.val) = none) :=
  ⟨(5), (2), (State.reset), by decide +kernel⟩

theorem wit_Recording_17 : ∃ (dt : Nat) (n : Fin 4) (e : Nat × Nat) (s : State), (s.acq.out.find? (fun e => e.1 == n.val) = some e) ∧ s.get ACQ_WST_CLKOK = 0 :=
  ⟨(90), (2), ((2, 512)), (State.reset.onAcq fun a => { a with out := [(2, 512)] }), by decide +kernel⟩

theorem wit_Recording_18 : ∃ (dt : Nat) (n : Fin 4) (e : Nat × Nat) (s : State), (s.acq.out.find? (fun e => e.1 == n.val) = some e) ∧ s.get ACQ_WST_CLKOK = 1 ∧ ((s.elapse dt).now * 256 < e.2 + 10240 ∨ ¬ (s.get ACQ_WCFG_CLKOUT = 0 ∨ (s.elapse dt).atBoundary 40 = true)) :=
  ⟨(30), (2), ((2, 512)), (((st [(ACQ_WST_CLKOK, 1)]).onAcq fun a => { a with out := [(2, 512)] }).onClk fun c => { c with running := true }), by decide +kernel⟩

theorem wit_Recording_19 : ∃ (dt : Nat) (n : Fin 4) (e : Nat × Nat) (s : State), (s.acq.out.find? (fun e => e.1 == n.val) = some e) ∧ s.get ACQ_WST_CLKOK = 1 ∧ e.2 + 10240 ≤ (s.elapse dt).now * 256 ∧ ((s.get ACQ_WCFG_CLKOUT = 0 ∨ (s.elapse dt).atBoundary 40 = true)) ∧ bit (s.get ACQ_WCFG_WDRV) n = false :=
  ⟨(90), (2), ((2, 512)), (((st [(ACQ_WST_CLKOK, 1), (ACQ_WCFG_WDRV, 1)]).onAcq fun a => { a with out := [(2, 512)], sentAt := [(2, 0)] }).onClk fun c => { c with running := true }), by decide +kernel⟩

theorem wit_Recording_20 : ∃ (dt : Nat) (n : Fin 4) (e : Nat × Nat) (t : Nat) (s : State), (s.acq.out.find? (fun e => e.1 == n.val) = some e) ∧ s.get ACQ_WST_CLKOK = 1 ∧ e.2 + 10240 ≤ (s.elapse dt).now * 256 ∧ ((s.get ACQ_WCFG_CLKOUT = 0 ∨ (s.elapse dt).atBoundary 40 = true)) ∧ bit (s.get ACQ_WCFG_WDRV) n = true ∧ tabFind s.acq.sentAt n = some t ∧ (s.elapse dt).clk.elapsed < t + 480 :=
  ⟨(90), (2), ((2, 512)), (3), (((st [(ACQ_WST_CLKOK, 1), (ACQ_WCFG_WDRV, 4)]).onAcq fun a => { a with out := [(2, 512)], sentAt := [(2, 3)] }).onClk fun c => { c with running := true }), by decide +kernel⟩

theorem wit_Recording_21 : ∃ (dt : Nat) (n : Fin 4) (e : Nat × Nat) (s : State), (s.acq.out.find? (fun e => e.1 == n.val) = some e) ∧ s.get ACQ_WST_CLKOK = 1 ∧ e.2 + 10240 ≤ (s.elapse dt).now * 256 ∧ ((s.get ACQ_WCFG_CLKOUT = 0 ∨ (s.elapse dt).atBoundary 40 = true)) ∧ bit (s.get ACQ_WCFG_WDRV) n = true ∧ ((tabFind s.acq.sentAt n).all (fun t => decide (t + 480 ≤ (s.elapse dt).clk.elapsed)) = true) :=
  ⟨(90), (2), ((2, 512)), (((State.onAcq (fun a => { a with out := [(2, 512)] }) (st [(ACQ_WST_CLKOK, 1), (ACQ_WCFG_WDRV, 4)])).onClk fun c => { c with running := true })), by decide +kernel⟩

theorem wit_Recording_22 : ∃ (dt : Nat) (n : Fin 4) (f : BitVec 9) (ago : Nat) (s : State), s.get ACQ_WST_CLKOK = 0 :=
  ⟨(5), (2), (3), (9), (State.reset), by decide +kernel⟩

theorem wit_Recording_23 : ∃ (dt : Nat) (n : Fin 4) (f : BitVec 9) (ago : Nat) (g : Fin 8) (s : State), s.get ACQ_WST_CLKOK = 1 ∧ s.get (ACQ_GST_STATE g) = 2 ∧ s.get (ACQ_GCFG_SRC g) = 5 ∧ s.get (ACQ_GCFG_SRCIDX g) % 4 = n ∧ (((List.range 9).filter fun j => bit f.toNat j).length % 2 = 1) :=
  ⟨(900), (2), (7), (9), (1), ((st [(ACQ_WST_CLKOK, 1), (ACQ_GST_STATE 1, 2), (ACQ_GCFG_SRC 1, 5), (ACQ_GCFG_SRCIDX 1, 2), (ACQ_WDLY_DLY 2, 9)]).onClk fun c => { c with running := true }), by decide +kernel⟩

theorem wit_Recording_24 : ∃ (dt : Nat) (n : Fin 4) (f : BitVec 9) (ago : Nat) (g : Fin 8) (s : State), s.get ACQ_WST_CLKOK = 1 ∧ s.get (ACQ_GST_STATE g) = 2 ∧ s.get (ACQ_GCFG_SRC g) = 5 ∧ s.get (ACQ_GCFG_SRCIDX g) % 4 = n ∧ (((List.range 9).filter fun j => bit f.toNat j).length % 2 = 0) :=
  ⟨(900), (2), (5), (9), (1), ((st [(ACQ_WST_CLKOK, 1), (ACQ_GST_STATE 1, 2), (ACQ_GCFG_SRC 1, 5), (ACQ_GCFG_SRCIDX 1, 2), (ACQ_WDLY_DLY 2, 9)]).onClk fun c => { c with running := true }), by decide +kernel⟩

theorem wit_RingLinks_1 : ∃ (dt : Nat) (p : Fin 2) (s : State), (s.get RNG_ST_READY = 1 ∧ s.ring.clkLost = false) ∧ s.get RNG_ST_BYP = 0 ∧ s.portUp p = false ∧ s.get RNG_CFG_ROLE ≠ 0 :=
  ⟨(5), (1), ((st [(RNG_ST_READY, 1), (RNG_ST_BYP, 0), (RNG_CFG_ROLE, 1), (whole RNG_CYC, 100000)])), by decide +kernel⟩

theorem wit_RingLinks_2 : ∃ (dt : Nat) (p : Fin 2) (s : State), (¬ (s.get RNG_ST_READY = 1 ∧ s.ring.clkLost = false) ∨ s.get RNG_ST_BYP = 1 ∨ s.portUp p = true ∨ s.get RNG_CFG_ROLE = 0) :=
  ⟨(5), (1), (State.reset), by decide +kernel⟩

theorem wit_RingLinks_3 : ∃ (dt : Nat) (p : Fin 2) (s : State), s.portUp p = false :=
  ⟨(5), (1), (st [(RNG_ST_PB, 0), (RNG_ST_PA, 1)]), by decide +kernel⟩

theorem wit_RingLinks_4 : ∃ (dt : Nat) (p : Fin 2) (s : State), s.portUp p = true ∧ s.get RNG_CFG_ROLE = 1 ∧ s.portUp (1 - p.val) = false :=
  ⟨(5), (1), (st [(RNG_ST_PB, 1), (RNG_ST_PA, 0), (RNG_ST_STATE, 3), (RNG_CFG_ROLE, 1)]), by decide +kernel⟩

theorem wit_RingLinks_5 : ∃ (dt : Nat) (p : Fin 2) (s : State), s.portUp p = true ∧ s.get RNG_CFG_ROLE = 1 ∧ s.portUp (1 - p.val) = true :=
  ⟨(5), (1), (st [(RNG_ST_PB, 1), (RNG_ST_PA, 1), (RNG_ST_STATE, 2), (RNG_CFG_ROLE, 1)]), by decide +kernel⟩

theorem wit_RingLinks_6 : ∃ (dt : Nat) (p : Fin 2) (s : State), s.portUp p = true ∧ s.get RNG_CFG_ROLE ≠ 1 :=
  ⟨(5), (1), (st [(RNG_ST_PB, 1), (RNG_ST_PA, 1), (RNG_ST_STATE, 2), (RNG_CFG_ROLE, 2)]), by decide +kernel⟩

theorem wit_RingLinks_10 : ∃ (dt : Nat) (p : Fin 2) (e : BitVec 16) (src : BitVec 48) (s : State), (s.get RNG_ST_READY = 1 ∧ s.ring.clkLost = false) ∧ s.portUp p = true ∧ e.toNat ≠ s.get RNG_ETYPE_ETYPE :=
  ⟨(5), (1), (0x800), (7), (st [(RNG_ST_PB, 1), (RNG_ST_PA, 1), (RNG_ST_READY, 1)]), by decide +kernel⟩

theorem wit_RingLinks_11 : ∃ (dt : Nat) (p : Fin 2) (e : BitVec 16) (src : BitVec 48) (s : State), (s.get RNG_ST_READY = 1 ∧ s.ring.clkLost = false) ∧ s.portUp p = true ∧ e.toNat = s.get RNG_ETYPE_ETYPE ∧ s.get RNG_CFG_ROLE = 1 ∧ src.toNat ≠ s.rd64 RNG_MAC % 2 ^ 48 :=
  ⟨(5), (1), (0x88B5), (7), (st [(RNG_ST_PB, 1), (RNG_ST_PA, 1), (RNG_ST_READY, 1), (RNG_CFG_ROLE, 1)]), by decide +kernel⟩

theorem wit_RingLinks_12 : ∃ (dt : Nat) (p : Fin 2) (e : BitVec 16) (src : BitVec 48) (s : State), (¬ (s.get RNG_ST_READY = 1 ∧ s.ring.clkLost = false) ∨ s.portUp p = false ∨ e.toNat = s.get RNG_ETYPE_ETYPE ∧ (s.get RNG_CFG_ROLE ≠ 1 ∨ src.toNat = s.rd64 RNG_MAC % 2 ^ 48)) :=
  ⟨(5), (1), (0x800), (7), (State.reset), by decide +kernel⟩

theorem wit_RingCycles_1 : ∃ (dt : Nat) (s : State), (¬ (s.get RNG_CFG_ROLE ≠ 0 ∧ s.ring.clkLost = false ∧ (s.get CFG_STATE_STATE = 8 ∨ s.get CFG_STATE_STATE = 9) ∧ (s.elapse dt).atBoundary s.ringCycle = true)) :=
  ⟨(5), (State.reset), by decide +kernel⟩

theorem wit_RingCycles_2 : ∃ (dt : Nat) (s : State), ((s.get RNG_CFG_ROLE ≠ 0 ∧ s.ring.clkLost = false ∧ (s.get CFG_STATE_STATE = 8 ∨ s.get CFG_STATE_STATE = 9) ∧ (s.elapse dt).atBoundary s.ringCycle = true)) ∧ s.get RNG_CFG_ROLE = 1 ∧ s.ring.judged = true ∧ s.get RNG_ST_STATE = 2 ∧ s.ring.broken = true :=
  ⟨(100000), ((((st [(RNG_ST_READY, 1), (RNG_ST_BYP, 0), (RNG_CFG_ROLE, 1), (whole RNG_CYC, 100000), (CFG_STATE_STATE, 8), (RNG_ST_PA, 1), (RNG_ST_PB, 1), (RNG_ST_STATE, 2)]).onRing fun r => { r with judged := true, broken := true }).onClk fun c => { c with running := true })), by decide +kernel⟩

theorem wit_RingCycles_3 : ∃ (dt : Nat) (s : State), ((s.get RNG_CFG_ROLE ≠ 0 ∧ s.ring.clkLost = false ∧ (s.get CFG_STATE_STATE = 8 ∨ s.get CFG_STATE_STATE = 9) ∧ (s.elapse dt).atBoundary s.ringCycle = true)) ∧ s.get RNG_CFG_ROLE = 1 ∧ s.ring.judged = true ∧ s.get RNG_ST_STATE = 3 ∧ s.get RNG_ST_CRUN = 4 :=
  ⟨(100000), ((((st [(RNG_ST_READY, 1), (RNG_ST_BYP, 0), (RNG_CFG_ROLE, 1), (whole RNG_CYC, 100000), (CFG_STATE_STATE, 8), (RNG_ST_PA, 1), (RNG_ST_PB, 1), (RNG_ST_STATE, 3), (RNG_ST_CRUN, 4)]).onRing fun r => { r with judged := true }).onClk fun c => { c with running := true })), by decide +kernel⟩

theorem wit_RingCycles_4 : ∃ (dt : Nat) (s : State), ((s.get RNG_CFG_ROLE ≠ 0 ∧ s.ring.clkLost = false ∧ (s.get CFG_STATE_STATE = 8 ∨ s.get CFG_STATE_STATE = 9) ∧ (s.elapse dt).atBoundary s.ringCycle = true)) ∧ s.get RNG_CFG_ROLE = 1 ∧ s.ring.judged = true ∧ ¬ (s.get RNG_ST_STATE = 2 ∧ s.ring.broken = true) ∧ ¬ (s.get RNG_ST_STATE = 3 ∧ s.get RNG_ST_CRUN = 4) :=
  ⟨(100000), ((((st [(RNG_ST_READY, 1), (RNG_ST_BYP, 0), (RNG_CFG_ROLE, 1), (whole RNG_CYC, 100000), (CFG_STATE_STATE, 8), (RNG_ST_PA, 1), (RNG_ST_PB, 1), (RNG_ST_STATE, 3), (RNG_ST_CRUN, 3)]).onRing fun r => { r with judged := true }).onClk fun c => { c with running := true })), by decide +kernel⟩

theorem wit_RingCycles_5 : ∃ (dt : Nat) (k : Fin 16) (n : Fin 32) (s : State), ((s.get RNG_CFG_ROLE ≠ 0 ∧ s.ring.clkLost = false ∧ (s.get CFG_STATE_STATE = 8 ∨ s.get CFG_STATE_STATE = 9) ∧ (s.elapse dt).atBoundary s.ringCycle = true)) ∧ s.get RNG_CFG_ROLE = 2 ∧ s.subAxis k = some n.val :=
  ⟨(100000), (2), (5), ((((st [(RNG_ST_READY, 1), (RNG_ST_BYP, 0), (RNG_CFG_ROLE, 2), (whole RNG_CYC, 100000), (CFG_STATE_STATE, 8), (RNG_ST_PA, 1), (RNG_ST_PB, 1), (RNG_MSUB_AX 2, 5)]).onRing fun r => { r with missed := 2 }).onClk fun c => { c with running := true })), by decide +kernel⟩

theorem wit_RingCycles_6 : ∃ (dt : Nat) (s : State), ¬ ((s.get RNG_ST_READY = 1 ∧ s.ring.clkLost = false) ∧ s.get RNG_CFG_ROLE = 1 ∧ s.ring.sent = [] ∧ s.rd RNG_CYC ≠ 0 ∧ (s.elapse dt).clk.ns % s.rd RNG_CYC = (s.rd RNG_SOFS + s.rd RNG_CYC - s.profilePeriod)) :=
  ⟨(5), (State.reset), by decide +kernel⟩

theorem wit_RingCycles_7 : ∃ (dt : Nat) (f : Fin 8) (s : State), ((s.get RNG_ST_READY = 1 ∧ s.ring.clkLost = false) ∧ s.get RNG_CFG_ROLE = 1 ∧ s.ring.sent = [] ∧ s.rd RNG_CYC ≠ 0 ∧ (s.elapse dt).clk.ns % s.rd RNG_CYC = (s.rd RNG_SOFS + s.rd RNG_CYC - s.profilePeriod)) ∧ s.get RNG_ST_STATE = 2 ∧ f ≤ s.get RNG_CFG_NFR :=
  ⟨(37500), (1), ((((st [(RNG_ST_READY, 1), (RNG_ST_BYP, 0), (RNG_CFG_ROLE, 1), (whole RNG_CYC, 100000), (CFG_STATE_STATE, 8), (RNG_ST_PA, 1), (RNG_ST_PB, 1), (RNG_ST_STATE, 2), (PRF_CFG_PERIOD, 0), (whole RNG_SOFS, 0), (whole TIM_RATE, 0), (RNG_CFG_NFR, 1)]).onRing fun r => { r with judged := true, flen := [40, 76], map := [⟨5, 1, 0, false, 7, 8, 0⟩] }).onClk fun c => { c with running := true })), by decide +kernel⟩

theorem wit_RingCycles_8 : ∃ (dt : Nat) (f : Fin 8) (p : Fin 2) (s : State), ((s.get RNG_ST_READY = 1 ∧ s.ring.clkLost = false) ∧ s.get RNG_CFG_ROLE = 1 ∧ s.ring.sent = [] ∧ s.rd RNG_CYC ≠ 0 ∧ (s.elapse dt).clk.ns % s.rd RNG_CYC = (s.rd RNG_SOFS + s.rd RNG_CYC - s.profilePeriod)) ∧ (s.get RNG_ST_STATE = 1 ∨ s.get RNG_ST_STATE = 3) ∧ f ≤ s.get RNG_CFG_NFR ∧ s.portUp p = true :=
  ⟨(37500), (1), (0), ((((st [(RNG_ST_READY, 1), (RNG_ST_BYP, 0), (RNG_CFG_ROLE, 1), (whole RNG_CYC, 100000), (CFG_STATE_STATE, 8), (RNG_ST_PA, 1), (RNG_ST_PB, 1), (RNG_ST_STATE, 3), (PRF_CFG_PERIOD, 0), (whole RNG_SOFS, 0), (whole TIM_RATE, 0), (RNG_CFG_NFR, 1)]).onRing fun r => { r with judged := true, flen := [40, 76], map := [⟨5, 1, 0, false, 7, 8, 0⟩] }).onClk fun c => { c with running := true })), by decide +kernel⟩

theorem wit_RingCycles_9 : ∃ (dt : Nat) (s : State), ((s.get RNG_ST_READY = 1 ∧ s.ring.clkLost = false) ∧ s.get RNG_CFG_ROLE = 1 ∧ s.ring.sent = [] ∧ s.rd RNG_CYC ≠ 0 ∧ (s.elapse dt).clk.ns % s.rd RNG_CYC = (s.rd RNG_SOFS + s.rd RNG_CYC - s.profilePeriod)) ∧ s.get RNG_ST_STATE = 3 ∧ s.portUp 1 = true ∧ s.ring.discover = false ∧ s.rd RNG_CYCNT % 64 ≠ 0 ∧ s.get RNG_CFG_TOPO = 0 :=
  ⟨(37500), ((((st [(RNG_ST_READY, 1), (RNG_ST_BYP, 0), (RNG_CFG_ROLE, 1), (whole RNG_CYC, 100000), (CFG_STATE_STATE, 8), (RNG_ST_PA, 1), (RNG_ST_PB, 1), (RNG_ST_STATE, 3), (PRF_CFG_PERIOD, 0), (whole RNG_SOFS, 0), (whole TIM_RATE, 0), (RNG_CFG_NFR, 1), (whole RNG_CYCNT, 7)]).onRing fun r => { r with judged := true, flen := [40, 76], map := [⟨5, 1, 0, false, 7, 8, 0⟩] }).onClk fun c => { c with running := true })), by decide +kernel⟩

theorem wit_RingCycles_10 : ∃ (dt : Nat) (e : MapEntry) (s : State), ((s.get RNG_ST_READY = 1 ∧ s.ring.clkLost = false) ∧ s.get RNG_CFG_ROLE = 1 ∧ s.ring.sent = [] ∧ s.rd RNG_CYC ≠ 0 ∧ (s.elapse dt).clk.ns % s.rd RNG_CYC = (s.rd RNG_SOFS + s.rd RNG_CYC - s.profilePeriod)) ∧ s.get RNG_ST_STATE = 2 ∧ s.ring.map = [e] ∧ e.frame = 0 ∧ s.get RNG_CFG_NFR = 0 ∧ e.addr < 256 ∧ e.nsub ≤ 16 ∧ e.fofs + 3 ≤ s.ring.flen.getD 0 0 :=
  ⟨(37500), (⟨5, 1, 0, false, 7, 8, 0⟩), ((((st [(RNG_ST_READY, 1), (RNG_ST_BYP, 0), (RNG_CFG_ROLE, 1), (whole RNG_CYC, 100000), (CFG_STATE_STATE, 8), (RNG_ST_PA, 1), (RNG_ST_PB, 1), (RNG_ST_STATE, 2), (PRF_CFG_PERIOD, 0), (whole RNG_SOFS, 0), (whole TIM_RATE, 0), (RNG_CFG_NFR, 0), (RNG_MST_STATE 5, 3)]).onRing fun r => { r with judged := true, flen := [40, 76], map := [⟨5, 1, 0, false, 7, 8, 0⟩] }).onClk fun c => { c with running := true })), by decide +kernel⟩

theorem wit_RingCycles_11 : ∃ (dt : Nat) (s : State), (¬ (s.get RNG_CFG_ROLE = 1 ∧ s.rd RNG_CYC ≠ 0 ∧ s.rd RNG_CYC ≤ (s.elapse dt).clk.ns % s.rd RNG_CYC + 1000) ∨ s.ring.judged = true) :=
  ⟨(5), (State.reset), by decide +kernel⟩

theorem wit_RingCycles_12 : ∃ (dt : Nat) (s : State), (s.get RNG_CFG_ROLE = 1 ∧ s.rd RNG_CYC ≠ 0 ∧ s.rd RNG_CYC ≤ (s.elapse dt).clk.ns % s.rd RNG_CYC + 1000) ∧ s.ring.judged = false ∧ ((s.ring.map.map (fun e => e.addr)).Nodup) ∧ (∀ e, e ∈ s.ring.map → e.addr < 256) :=
  ⟨(99500), ((((st [(RNG_ST_READY, 1), (RNG_ST_BYP, 0), (RNG_CFG_ROLE, 1), (whole RNG_CYC, 100000), (CFG_STATE_STATE, 8), (RNG_ST_PA, 1), (RNG_ST_PB, 1), (RNG_ST_STATE, 2), (RNG_ST_CRUN, 3)]).onRing fun r => { r with judged := false, sent := [0, 1], back := [1], closeSent := true, mems := [(5, { seen := true })], map := [⟨5, 1, 0, false, 7, 8, 0⟩, ⟨6, 2, 0, false, 7, 8, 40⟩] }).onClk fun c => { c with running := true })), by decide +kernel⟩

theorem wit_RingCycles_13 : ∃ (dt : Nat) (p : Fin 2) (ok : Bool) (d : List Byte) (s : State), ¬ ((s.get RNG_ST_READY = 1 ∧ s.ring.clkLost = false) ∧ s.get RNG_CFG_ROLE = 1 ∧ s.portUp p = true) :=
  ⟨(5), (0), (true), ([]), (State.reset), by decide +kernel⟩

theorem wit_RingCycles_14 : ∃ (dt : Nat) (p : Fin 2) (ok : Bool) (d : List Byte) (s : State), ((s.get RNG_ST_READY = 1 ∧ s.ring.clkLost = false) ∧ s.get RNG_CFG_ROLE = 1 ∧ s.portUp p = true) ∧ (64 ≤ (s.ring.bufs.filter (fun b => decide ((s.elapse dt).quarter < b.2))).length) :=
  ⟨(5), (0), (true), ([]), ((((st [(RNG_ST_READY, 1), (RNG_ST_BYP, 0), (RNG_CFG_ROLE, 1), (whole RNG_CYC, 100000), (CFG_STATE_STATE, 8), (RNG_ST_PA, 1), (RNG_ST_PB, 1)]).onRing fun r => { r with bufs := List.replicate 64 (2, 900000000) }).onClk fun c => { c with running := true })), by decide +kernel⟩

theorem wit_RingCycles_15 : ∃ (dt : Nat) (p : Fin 2) (d : List Byte) (s : State), ((s.get RNG_ST_READY = 1 ∧ s.ring.clkLost = false) ∧ s.get RNG_CFG_ROLE = 1 ∧ s.portUp p = true) ∧ ((s.ring.bufs.filter (fun b => decide ((s.elapse dt).quarter < b.2))).length < 64) :=
  ⟨(5), (0), ([]), ((((st [(RNG_ST_READY, 1), (RNG_ST_BYP, 0), (RNG_CFG_ROLE, 1), (whole RNG_CYC, 100000), (CFG_STATE_STATE, 8), (RNG_ST_PA, 1), (RNG_ST_PB, 1)]).onRing fun r => { r with judged := true }).onClk fun c => { c with running := true })), by decide +kernel⟩

theorem wit_RingCycles_16 : ∃ (dt : Nat) (p : Fin 2) (d : List Byte) (s : State), ((s.get RNG_ST_READY = 1 ∧ s.ring.clkLost = false) ∧ s.get RNG_CFG_ROLE = 1 ∧ s.portUp p = true) ∧ ((s.ring.bufs.filter (fun b => decide ((s.elapse dt).quarter < b.2))).length < 64) ∧ leAt d 4 4 ≠ s.rd RNG_CYCNT :=
  ⟨(5), (0), ((ringHeader 1 0 9 0 0 none)), ((((st [(RNG_ST_READY, 1), (RNG_ST_BYP, 0), (RNG_CFG_ROLE, 1), (whole RNG_CYC, 100000), (CFG_STATE_STATE, 8), (RNG_ST_PA, 1), (RNG_ST_PB, 1)]).onRing fun r => { r with judged := true }).onClk fun c => { c with running := true })), by decide +kernel⟩

theorem wit_RingCycles_17 : ∃ (dt : Nat) (p : Fin 2) (d : List Byte) (e : MapEntry) (s : State), ((s.get RNG_ST_READY = 1 ∧ s.ring.clkLost = false) ∧ s.get RNG_CFG_ROLE = 1 ∧ s.portUp p = true) ∧ ((s.ring.bufs.filter (fun b => decide ((s.elapse dt).quarter < b.2))).length < 64) ∧ leAt d 4 4 = s.rd RNG_CYCNT ∧ leAt d 3 1 % 8 = 0 ∧ s.ring.map = [e] ∧ e.frame = 0 ∧ e.addr < 256 ∧ e.fofs + sliceLen e.nsub e.safe + 24 ≤ d.length ∧ 1 ≤ e.nsub ∧ bit (leAt d ((24 + e.fofs) + 1) 1) 7 = true ∧ leAt d (24 + e.fofs) 1 = e.addr ∧ (s.ringMem e.addr).seen = false :=
  ⟨(5), (0), ((ringHeader 1 0 0 0 0 none ++ [5, 0x82, 1, 0] ++ List.replicate 36 1)), (⟨5, 1, 0, false, 7, 8, 0⟩), ((((st [(RNG_ST_READY, 1), (RNG_ST_BYP, 0), (RNG_CFG_ROLE, 1), (whole RNG_CYC, 100000), (CFG_STATE_STATE, 8), (RNG_ST_PA, 1), (RNG_ST_PB, 1)]).onRing fun r => { r with map := [⟨5, 1, 0, false, 7, 8, 0⟩] }).onClk fun c => { c with running := true })), by decide +kernel⟩

theorem wit_RingCycles_18 : ∃ (dt : Nat) (p : Fin 2) (d : List Byte) (e : MapEntry) (n : Fin 256) (s : State), ((s.get RNG_ST_READY = 1 ∧ s.ring.clkLost = false) ∧ s.get RNG_CFG_ROLE = 1 ∧ s.portUp p = true) ∧ ((s.ring.bufs.filter (fun b => decide ((s.elapse dt).quarter < b.2))).length < 64) ∧ leAt d 4 4 = s.rd RNG_CYCNT ∧ leAt d 3 1 % 8 = 0 ∧ s.ring.map = [e] ∧ e.frame = 0 ∧ e.addr < 256 ∧ e.nsub = 1 ∧ e.fofs + sliceLen e.nsub e.safe + 24 ≤ d.length ∧ bit (leAt d ((24 + e.fofs) + 1) 1) 7 = true ∧ leAt d (24 + e.fofs) 1 = e.addr ∧ (s.ringMem e.addr).seen = false ∧ s.memberAxis e.addr 0 = some n.val ∧ (leAt d ((24 + e.fofs) + 32) 2) / 8192 = 6 ∧ 1 ≤ s.axState n ∧ s.axState n ≤ 5 :=
  ⟨(5), (0), ((ringHeader 1 0 0 0 0 none ++ [5, 0x82, 1, 0] ++ List.replicate 0x14 0 ++ leBytes 8 77 ++ leBytes 2 (6 * 8192 + 9) ++ List.replicate 6 0)), (⟨5, 1, 0, false, 7, 8, 0⟩), (40), ((entry4 40 [(0x10, 2), (0x380, 5), (0x381, 0)] (((st [(RNG_ST_READY, 1), (RNG_ST_BYP, 0), (RNG_CFG_ROLE, 1), (whole RNG_CYC, 100000), (CFG_STATE_STATE, 8), (RNG_ST_PA, 1), (RNG_ST_PB, 1), (PRF_AXST_STATE 40, 2)]).onRing fun r => { r with map := [⟨5, 1, 0, false, 7, 8, 0⟩] }).onClk fun c => { c with running := true }))), by decide +kernel⟩

theorem wit_RingCycles_19 : ∃ (dt : Nat) (p : Fin 2) (d : List Byte) (e : MapEntry) (n : Fin 256) (q : Nat) (s : State), ((s.get RNG_ST_READY = 1 ∧ s.ring.clkLost = false) ∧ s.get RNG_CFG_ROLE = 1 ∧ s.portUp p = true) ∧ ((s.ring.bufs.filter (fun b => decide ((s.elapse dt).quarter < b.2))).length < 64) ∧ leAt d 4 4 = s.rd RNG_CYCNT ∧ leAt d 3 1 % 8 = 0 ∧ s.ring.map = [e] ∧ e.frame = 0 ∧ e.addr < 256 ∧ e.nsub = 1 ∧ e.fofs + sliceLen e.nsub e.safe + 24 ≤ d.length ∧ bit (leAt d ((24 + e.fofs) + 1) 1) 7 = true ∧ leAt d (24 + e.fofs) 1 = e.addr ∧ (s.ringMem e.addr).seen = false ∧ s.memberAxis e.addr 0 = some n.val ∧ s.axState n = 1 ∧ tabGet (0, 0) s.ring.axReq n = (q, 1) ∧ (leAt d ((24 + e.fofs) + 32) 2) / 256 % 16 = q ∧ 2 ≤ (leAt d ((24 + e.fofs) + 32) 2) / 8192 ∧ (leAt d ((24 + e.fofs) + 32) 2) / 8192 ≤ 5 :=
  ⟨(5), (0), ((ringHeader 1 0 0 0 0 none ++ [5, 0x82, 1, 0] ++ List.replicate 0x14 0 ++ leBytes 8 77 ++ leBytes 2 (2 * 8192 + 4096 + 3 * 256) ++ List.replicate 6 0)), (⟨5, 1, 0, false, 7, 8, 0⟩), (40), (3), ((entry4 40 [(0x10, 2), (0x380, 5), (0x381, 0)] (((st [(RNG_ST_READY, 1), (RNG_ST_BYP, 0), (RNG_CFG_ROLE, 1), (whole RNG_CYC, 100000), (CFG_STATE_STATE, 8), (RNG_ST_PA, 1), (RNG_ST_PB, 1), (PRF_AXST_STATE 40, 1)]).onRing fun r => { r with map := [⟨5, 1, 0, false, 7, 8, 0⟩], axReq := [(40, (3, 1))] }).onClk fun c => { c with running := true }))), by decide +kernel⟩

theorem wit_RingCycles_20 : ∃ (dt : Nat) (p : Fin 2) (d : List Byte) (s : State), ((s.get RNG_ST_READY = 1 ∧ s.ring.clkLost = false) ∧ s.get RNG_CFG_ROLE = 1 ∧ s.portUp p = true) ∧ ((s.ring.bufs.filter (fun b => decide ((s.elapse dt).quarter < b.2))).length < 64) ∧ leAt d 4 4 = s.rd RNG_CYCNT ∧ p.val = 0 ∧ bit (leAt d 2 1) 0 = false ∧ s.ring.closeSent = true ∧ s.ring.closeBack = false :=
  ⟨(5), (0), ((ringHeader 4 0 0 0 0 none)), ((((st [(RNG_ST_READY, 1), (RNG_ST_BYP, 0), (RNG_CFG_ROLE, 1), (whole RNG_CYC, 100000), (CFG_STATE_STATE, 8), (RNG_ST_PA, 1), (RNG_ST_PB, 1), (RNG_ST_CRUN, 2), (RNG_ST_STATE, 3)]).onRing fun r => { r with closeSent := true }).onClk fun c => { c with running := true })), by decide +kernel⟩

theorem wit_RingCycles_21 : ∃ (dt : Nat) (p : Fin 2) (d : List Byte) (s : State), ((s.get RNG_ST_READY = 1 ∧ s.ring.clkLost = false) ∧ s.get RNG_CFG_ROLE = 1 ∧ s.portUp p = true) ∧ ((s.ring.bufs.filter (fun b => decide ((s.elapse dt).quarter < b.2))).length < 64) ∧ (leAt d 4 4 ≠ s.rd RNG_CYCNT ∨ p.val = 1 ∨ bit (leAt d 2 1) 0 = true ∨ s.ring.closeSent = false ∨ s.ring.closeBack = true) :=
  ⟨(5), (1), ((ringHeader 4 0 0 0 0 none)), ((((st [(RNG_ST_READY, 1), (RNG_ST_BYP, 0), (RNG_CFG_ROLE, 1), (whole RNG_CYC, 100000), (CFG_STATE_STATE, 8), (RNG_ST_PA, 1), (RNG_ST_PB, 1)]).onRing fun r => { r with judged := true }).onClk fun c => { c with running := true })), by decide +kernel⟩

theorem wit_RingCycles_22 : ∃ (dt : Nat) (p : Fin 2) (d : List Byte) (s : State), ((s.get RNG_ST_READY = 1 ∧ s.ring.clkLost = false) ∧ s.get RNG_CFG_ROLE = 1 ∧ s.portUp p = true) ∧ ((s.ring.bufs.filter (fun b => decide ((s.elapse dt).quarter < b.2))).length < 64) :=
  ⟨(5), (1), ([]), ((((st [(RNG_ST_READY, 1), (RNG_ST_BYP, 0), (RNG_CFG_ROLE, 1), (whole RNG_CYC, 100000), (CFG_STATE_STATE, 8), (RNG_ST_PA, 1), (RNG_ST_PB, 1)]).onRing fun r => { r with judged := true }).onClk fun c => { c with running := true })), by decide +kernel⟩

theorem wit_RingCycles_23 : ∃ (dt : Nat) (m : Fin 256) (n : Fin 256) (s : State), (s.get RNG_CFG_ROLE = 1 ∧ s.get (RNG_MST_STATE m) ≠ 0 ∧ s.get (RNG_MST_STATE m) ≠ 5 ∧ s.get RNG_CFG_LOSTMAX ≤ s.get (RNG_MST_MISS m)) ∧ n.val ∈ s.memberAxes m ∧ 1 ≤ s.axState n ∧ s.axState n ≤ 5 :=
  ⟨(5), (5), (40), ((entry4 40 [(0x10, 2), (0x380, 5), (0x381, 0)] (((st [(RNG_ST_READY, 1), (RNG_ST_BYP, 0), (RNG_CFG_ROLE, 1), (whole RNG_CYC, 100000), (CFG_STATE_STATE, 8), (RNG_ST_PA, 1), (RNG_ST_PB, 1), (PRF_AXST_STATE 40, 2), (RNG_MST_STATE 5, 3), (RNG_MST_MISS 5, 3), (RNG_CFG_LOSTMAX, 3)]).onRing fun r => { r with judged := true }).onClk fun c => { c with running := true }))), by decide +kernel⟩

theorem wit_RingCycles_24 : ∃ (dt : Nat) (m : Fin 256) (s : State), (s.get RNG_CFG_ROLE = 1 ∧ s.get (RNG_MST_STATE m) ≠ 0 ∧ s.get (RNG_MST_STATE m) ≠ 5 ∧ s.get RNG_CFG_LOSTMAX ≤ s.get (RNG_MST_MISS m)) ∧ (∀ n, n ∈ s.memberAxes m → s.axState n = 0) :=
  ⟨(5), (5), ((entry4 40 [(0x10, 2), (0x380, 5), (0x381, 0)] (((st [(RNG_ST_READY, 1), (RNG_ST_BYP, 0), (RNG_CFG_ROLE, 1), (whole RNG_CYC, 100000), (CFG_STATE_STATE, 8), (RNG_ST_PA, 1), (RNG_ST_PB, 1), (RNG_MST_STATE 5, 3), (RNG_MST_MISS 5, 3), (RNG_CFG_LOSTMAX, 3)]).onRing fun r => { r with judged := true }).onClk fun c => { c with running := true }))), by decide +kernel⟩

theorem wit_RingCycles_25 : ∃ (dt : Nat) (m : Fin 256) (s : State), ¬ (s.get RNG_CFG_ROLE = 1 ∧ s.get (RNG_MST_STATE m) ≠ 0 ∧ s.get (RNG_MST_STATE m) ≠ 5 ∧ s.get RNG_CFG_LOSTMAX ≤ s.get (RNG_MST_MISS m)) :=
  ⟨(5), (5), (State.reset), by decide +kernel⟩

theorem wit_RingCycles_26 : ∃ (dt : Nat) (k : Fin 16) (n : Fin 32) (s : State), (s.get RNG_CFG_ROLE = 2 ∧ s.ring.lossDone = false ∧ max 1 (s.get RNG_CFG_MISSMAX) ≤ s.ring.missed) ∧ s.subAxis k = some n.val ∧ 1 ≤ s.axState n ∧ s.axState n ≤ 5 :=
  ⟨(5), (2), (5), ((((st [(RNG_ST_READY, 1), (RNG_ST_BYP, 0), (RNG_CFG_ROLE, 2), (whole RNG_CYC, 100000), (CFG_STATE_STATE, 8), (RNG_ST_PA, 1), (RNG_ST_PB, 1), (RNG_MSUB_AX 2, 5), (RNG_CFG_MISSMAX, 2), (PRF_AXST_STATE 5, 2)]).onRing fun r => { r with missed := 2 }).onClk fun c => { c with running := true })), by decide +kernel⟩

theorem wit_RingCycles_27 : ∃ (dt : Nat) (s : State), ¬ (s.get RNG_CFG_ROLE = 2 ∧ s.ring.lossDone = false ∧ max 1 (s.get RNG_CFG_MISSMAX) ≤ s.ring.missed) :=
  ⟨(5), (State.reset), by decide +kernel⟩

theorem wit_RingMembership_1 : ∃ (dt : Nat) (p : Fin 2) (d : List Byte) (e : MapEntry) (m : Fin 256) (s : State), ((s.get RNG_ST_READY = 1 ∧ s.ring.clkLost = false) ∧ s.get RNG_CFG_ROLE = 1 ∧ s.portUp p = true) ∧ ((s.ring.bufs.filter (fun b => decide ((s.elapse dt).quarter < b.2))).length < 64) ∧ s.ring.map = [e] ∧ e.addr = m.val ∧ bit (leAt d (28 + m.val / 8) 1) (m.val % 8) = true ∧ bit (leAt d (60 + m.val / 8) 1) (m.val % 8) = false ∧ (s.get (RNG_MST_STATE m) = 0 ∨ s.get (RNG_MST_STATE m) = 5) :=
  ⟨(5), (0), ((ringHeader 3 0 0 0 0 none ++ [1, 0, 0, 0, 0x20] ++ List.replicate 31 0 ++ [0] ++ List.replicate 31 0 ++ [5] ++ List.replicate 255 0)), (⟨5, 1, 0, false, 7, 8, 0⟩), (5), ((((st [(RNG_ST_READY, 1), (RNG_ST_BYP, 0), (RNG_CFG_ROLE, 1), (whole RNG_CYC, 100000), (CFG_STATE_STATE, 8), (RNG_ST_PA, 1), (RNG_ST_PB, 1), (RNG_ST_STATE, 2)]).onRing fun r => { r with map := [⟨5, 1, 0, false, 7, 8, 0⟩] }).onClk fun c => { c with running := true })), by decide +kernel⟩

theorem wit_RingMembership_2 : ∃ (dt : Nat) (p : Fin 2) (d : List Byte) (e : MapEntry) (m : Fin 256) (s : State), ((s.get RNG_ST_READY = 1 ∧ s.ring.clkLost = false) ∧ s.get RNG_CFG_ROLE = 1 ∧ s.portUp p = true) ∧ ((s.ring.bufs.filter (fun b => decide ((s.elapse dt).quarter < b.2))).length < 64) ∧ s.ring.map = [e] ∧ e.addr = m.val ∧ bit (leAt d (28 + m.val / 8) 1) (m.val % 8) = true ∧ bit (leAt d (60 + m.val / 8) 1) (m.val % 8) = true :=
  ⟨(5), (0), ((ringHeader 3 0 0 0 0 none ++ [1, 0, 0, 0, 0x20] ++ List.replicate 31 0 ++ [0x20] ++ List.replicate 31 0 ++ [5] ++ List.replicate 255 0)), (⟨5, 1, 0, false, 7, 8, 0⟩), (5), ((((st [(RNG_ST_READY, 1), (RNG_ST_BYP, 0), (RNG_CFG_ROLE, 1), (whole RNG_CYC, 100000), (CFG_STATE_STATE, 8), (RNG_ST_PA, 1), (RNG_ST_PB, 1), (RNG_ST_STATE, 2), (RNG_MST_STATE 5, 3)]).onRing fun r => { r with map := [⟨5, 1, 0, false, 7, 8, 0⟩] }).onClk fun c => { c with running := true })), by decide +kernel⟩

theorem wit_RingMembership_3 : ∃ (dt : Nat) (p : Fin 2) (d : List Byte) (e : MapEntry) (m : Fin 256) (s : State), ((s.get RNG_ST_READY = 1 ∧ s.ring.clkLost = false) ∧ s.get RNG_CFG_ROLE = 1 ∧ s.portUp p = true) ∧ ((s.ring.bufs.filter (fun b => decide ((s.elapse dt).quarter < b.2))).length < 64) ∧ s.ring.map = [e] ∧ e.addr = m.val ∧ (bit (leAt d (28 + m.val / 8) 1) (m.val % 8) = false ∨ bit (leAt d (60 + m.val / 8) 1) (m.val % 8) = false ∧ s.get (RNG_MST_STATE m) ≠ 0 ∧ s.get (RNG_MST_STATE m) ≠ 5) :=
  ⟨(5), (0), ((ringHeader 3 0 0 0 0 none ++ [1, 0, 0, 0, 0x20] ++ List.replicate 31 0 ++ [0] ++ List.replicate 31 0 ++ [5] ++ List.replicate 255 0)), (⟨5, 1, 0, false, 7, 8, 0⟩), (5), ((((st [(RNG_ST_READY, 1), (RNG_ST_BYP, 0), (RNG_CFG_ROLE, 1), (whole RNG_CYC, 100000), (CFG_STATE_STATE, 8), (RNG_ST_PA, 1), (RNG_ST_PB, 1), (RNG_ST_STATE, 2), (RNG_MST_STATE 5, 3)]).onRing fun r => { r with map := [⟨5, 1, 0, false, 7, 8, 0⟩] }).onClk fun c => { c with running := true })), by decide +kernel⟩

theorem wit_RingMembership_4 : ∃ (dt : Nat) (p : Fin 2) (d : List Byte) (s : State), ((s.get RNG_ST_READY = 1 ∧ s.ring.clkLost = false) ∧ s.get RNG_CFG_ROLE = 1 ∧ s.portUp p = true) ∧ ((s.ring.bufs.filter (fun b => decide ((s.elapse dt).quarter < b.2))).length < 64) :=
  ⟨(5), (1), ([]), ((((st [(RNG_ST_READY, 1), (RNG_ST_BYP, 0), (RNG_CFG_ROLE, 1), (whole RNG_CYC, 100000), (CFG_STATE_STATE, 8), (RNG_ST_PA, 1), (RNG_ST_PB, 1), (RNG_ST_STATE, 2)]).onRing fun r => { r with map := [⟨5, 1, 0, false, 7, 8, 0⟩] }).onClk fun c => { c with running := true })), by decide +kernel⟩

theorem wit_RingMembership_5 : ∃ (dt : Nat) (m : Fin 256) (t : Nat) (s : State), (s.ringMem m).owed ≠ [] ∧ (s.ringMem m).owedAt = some t ∧ t + 1100000000 ≤ (s.elapse dt).clk.elapsed :=
  ⟨(1100000009), (5), (3), ((entry4 40 [(0x10, 2), (0x380, 5), (0x381, 0)] (((st [(RNG_ST_READY, 1), (RNG_ST_BYP, 0), (RNG_CFG_ROLE, 1), (whole RNG_CYC, 100000), (CFG_STATE_STATE, 8), (RNG_ST_PA, 1), (RNG_ST_PB, 1), (RNG_ST_STATE, 2), (RNG_MST_STATE 5, 2)]).onRing fun r => { r with map := [⟨5, 1, 0, false, 7, 8, 0⟩], mems := [(5, { owed := [0], owedAt := some 3 })] }).onClk fun c => { c with running := true }))), by decide +kernel⟩

theorem wit_RingMembership_6 : ∃ (dt : Nat) (m : Fin 256) (s : State), ((s.ringMem m).owed = [] ∨ (s.ringMem m).owedAt.all (fun t => decide ((s.elapse dt).clk.elapsed < t + 1100000000)) = true) :=
  ⟨(5), (5), (State.reset), by decide +kernel⟩

theorem wit_RingMembership_7 : ∃ (dt : Nat) (who : Accessor) (m : Fin 256) (s : State), ((s.get (RNG_MST_STATE m) = 4 ∧ (s.get (RNG_MST_QR m) = 3 ∨ s.get (RNG_MST_QR m) = 6))) :=
  ⟨(5), (.core 0), (5), ((entry4 40 [(0x10, 2), (0x380, 5), (0x381, 0)] (((st [(RNG_ST_READY, 1), (RNG_ST_BYP, 0), (RNG_CFG_ROLE, 1), (whole RNG_CYC, 100000), (CFG_STATE_STATE, 8), (RNG_ST_PA, 1), (RNG_ST_PB, 1), (RNG_ST_STATE, 2), (RNG_MST_STATE 5, 4), (RNG_MST_QR 5, 6)]).onRing fun r => { r with map := [⟨5, 1, 0, false, 7, 8, 0⟩] }).onClk fun c => { c with running := true }))), by decide +kernel⟩

theorem wit_RingMembership_8 : ∃ (dt : Nat) (who : Accessor) (m : Fin 256) (s : State), (¬ (s.get (RNG_MST_STATE m) = 4 ∧ (s.get (RNG_MST_QR m) = 3 ∨ s.get (RNG_MST_QR m) = 6))) :=
  ⟨(5), (.core 0), (5), (State.reset), by decide +kernel⟩

theorem wit_RingMembership_9 : ∃ (dt : Nat) (p : Fin 2) (d : List Byte) (e : MapEntry) (m : Fin 256) (q : SvReq) (rest : List SvReq) (s : State), ((s.get RNG_ST_READY = 1 ∧ s.ring.clkLost = false) ∧ s.get RNG_CFG_ROLE = 1 ∧ s.portUp p = true) ∧ ((s.ring.bufs.filter (fun b => decide ((s.elapse dt).quarter < b.2))).length < 64) ∧ leAt d 0x420 1 = m.val ∧ m.val ≠ 0 ∧ (s.ringMem m).reqs = q :: rest ∧ q.sends ≠ 0 ∧ q.seq = leAt d 0x424 2 ∧ q.mtype = leAt d 0x421 1 ∧ s.pushCheck 4 (s.get RNG_SVQ_Q) = 1 ∧ s.qCap (s.get RNG_SVQ_Q) ≤ 32 ∧ s.get (QUE_ST_DEPTH (s.get RNG_SVQ_Q)) + 1 ≤ s.qCap (s.get RNG_SVQ_Q) ∧ (∃ b : Fin 32, b.val ∉ s.ring.svUse) ∧ s.ring.map = [e] ∧ e.addr = m.val ∧ q.mtype = 1 ∧ leAt d 0x426 1 = 0 ∧ leAt d 0x428 4 = e.mident ∧ leAt d 0x42C 4 = e.mcrc ∧ e.nsub ≤ leAt d 0x434 1 ∧ bit (leAt d 0x435 1) 1 = false ∧ s.get (RNG_MST_STATE m) = 1 ∧ bit (leAt d 0x435 1) 0 = false ∧ leAt d 0x430 4 = s.rd (RNG_MEXP m) :=
  ⟨(5), (0), ((ringHeader 2 0 0 0 0 none ++ List.replicate 0x408 0 ++ [5, 1] ++ leBytes 2 18 ++ leBytes 2 9 ++ [0, 0] ++ (leBytes 4 7 ++ leBytes 4 8 ++ leBytes 4 3 ++ [1, 0, 0, 0] ++ List.replicate 232 0))), (⟨5, 1, 0, false, 7, 8, 0⟩), (5), ({ dest := 5, mtype := 1, data := [], seq := 9, sends := 1 }), ([]), ((entry4 40 [(0x10, 2), (0x380, 5), (0x381, 0)] (((st [(RNG_ST_READY, 1), (RNG_ST_BYP, 0), (RNG_CFG_ROLE, 1), (whole RNG_CYC, 100000), (CFG_STATE_STATE, 8), (RNG_ST_PA, 1), (RNG_ST_PB, 1), (RNG_ST_STATE, 2), (RNG_MST_STATE 5, 1), (whole (RNG_MEXP 5), 3), (PRF_AXST_STATE 40, 7), (RNG_SVQ_Q, 5), (QUE_CFG_CAPL 5, 4), (QUE_CFG_PROD 5, 4), (QUE_CFG_BROKEN 5, 0), (QUE_ST_DEPTH 5, 0)]).onRing fun r => { r with map := [⟨5, 1, 0, false, 7, 8, 0⟩], mems := [(5, { reqs := [{ dest := 5, mtype := 1, data := [], seq := 9, sends := 1 }], owed := [0] })] }).onClk fun c => { c with running := true }))), by decide +kernel⟩

theorem wit_RingMembership_10 : ∃ (dt : Nat) (p : Fin 2) (d : List Byte) (e : MapEntry) (m : Fin 256) (q : SvReq) (rest : List SvReq) (s : State), ((s.get RNG_ST_READY = 1 ∧ s.ring.clkLost = false) ∧ s.get RNG_CFG_ROLE = 1 ∧ s.portUp p = true) ∧ ((s.ring.bufs.filter (fun b => decide ((s.elapse dt).quarter < b.2))).length < 64) ∧ leAt d 0x420 1 = m.val ∧ m.val ≠ 0 ∧ (s.ringMem m).reqs = q :: rest ∧ q.sends ≠ 0 ∧ q.seq = leAt d 0x424 2 ∧ q.mtype = leAt d 0x421 1 ∧ s.pushCheck 4 (s.get RNG_SVQ_Q) = 1 ∧ s.qCap (s.get RNG_SVQ_Q) ≤ 32 ∧ s.get (QUE_ST_DEPTH (s.get RNG_SVQ_Q)) + 1 ≤ s.qCap (s.get RNG_SVQ_Q) ∧ (∃ b : Fin 32, b.val ∉ s.ring.svUse) ∧ s.ring.map = [e] ∧ e.addr = m.val ∧ q.mtype = 1 ∧ leAt d 0x426 1 = 0 ∧ leAt d 0x428 4 = e.mident ∧ leAt d 0x42C 4 = e.mcrc ∧ e.nsub ≤ leAt d 0x434 1 ∧ bit (leAt d 0x435 1) 1 = false ∧ s.get (RNG_MST_STATE m) = 1 ∧ bit (leAt d 0x435 1) 0 = true :=
  ⟨(5), (0), ((ringHeader 2 0 0 0 0 none ++ List.replicate 0x408 0 ++ [5, 1] ++ leBytes 2 18 ++ leBytes 2 9 ++ [0, 0] ++ (leBytes 4 7 ++ leBytes 4 8 ++ leBytes 4 3 ++ [1, 1, 0, 0] ++ List.replicate 232 0))), (⟨5, 1, 0, false, 7, 8, 0⟩), (5), ({ dest := 5, mtype := 1, data := [], seq := 9, sends := 1 }), ([]), ((entry4 40 [(0x10, 2), (0x380, 5), (0x381, 0)] (((st [(RNG_ST_READY, 1), (RNG_ST_BYP, 0), (RNG_CFG_ROLE, 1), (whole RNG_CYC, 100000), (CFG_STATE_STATE, 8), (RNG_ST_PA, 1), (RNG_ST_PB, 1), (RNG_ST_STATE, 2), (RNG_MST_STATE 5, 1), (RNG_SVQ_Q, 5), (QUE_CFG_CAPL 5, 4), (QUE_CFG_PROD 5, 4), (QUE_CFG_BROKEN 5, 0), (QUE_ST_DEPTH 5, 0)]).onRing fun r => { r with map := [⟨5, 1, 0, false, 7, 8, 0⟩], mems := [(5, { reqs := [{ dest := 5, mtype := 1, data := [], seq := 9, sends := 1 }], owed := [0] })] }).onClk fun c => { c with running := true }))), by decide +kernel⟩

theorem wit_RingMembership_11 : ∃ (dt : Nat) (p : Fin 2) (d : List Byte) (e : MapEntry) (m : Fin 256) (q : SvReq) (rest : List SvReq) (s : State), ((s.get RNG_ST_READY = 1 ∧ s.ring.clkLost = false) ∧ s.get RNG_CFG_ROLE = 1 ∧ s.portUp p = true) ∧ ((s.ring.bufs.filter (fun b => decide ((s.elapse dt).quarter < b.2))).length < 64) ∧ leAt d 0x420 1 = m.val ∧ m.val ≠ 0 ∧ (s.ringMem m).reqs = q :: rest ∧ q.sends ≠ 0 ∧ q.seq = leAt d 0x424 2 ∧ q.mtype = leAt d 0x421 1 ∧ s.pushCheck 4 (s.get RNG_SVQ_Q) = 1 ∧ s.qCap (s.get RNG_SVQ_Q) ≤ 32 ∧ s.get (QUE_ST_DEPTH (s.get RNG_SVQ_Q)) + 1 ≤ s.qCap (s.get RNG_SVQ_Q) ∧ (∃ b : Fin 32, b.val ∉ s.ring.svUse) ∧ s.ring.map = [e] ∧ e.addr = m.val ∧ q.mtype = 1 ∧ leAt d 0x426 1 = 0 ∧ leAt d 0x428 4 = e.mident ∧ leAt d 0x42C 4 = e.mcrc ∧ e.nsub ≤ leAt d 0x434 1 ∧ bit (leAt d 0x435 1) 1 = false ∧ bit (leAt d 0x435 1) 0 = false ∧ (s.get (RNG_MST_STATE m) = 1 ∨ s.get (RNG_MST_STATE m) = 3) ∧ leAt d 0x430 4 ≠ s.rd (RNG_MEXP m) :=
  ⟨(5), (0), ((ringHeader 2 0 0 0 0 none ++ List.replicate 0x408 0 ++ [5, 1] ++ leBytes 2 18 ++ leBytes 2 9 ++ [0, 0] ++ (leBytes 4 7 ++ leBytes 4 8 ++ leBytes 4 3 ++ [1, 0, 0, 0] ++ List.replicate 232 0))), (⟨5, 1, 0, false, 7, 8, 0⟩), (5), ({ dest := 5, mtype := 1, data := [], seq := 9, sends := 1 }), ([]), ((entry4 40 [(0x10, 2), (0x380, 5), (0x381, 0)] (((st [(RNG_ST_READY, 1), (RNG_ST_BYP, 0), (RNG_CFG_ROLE, 1), (whole RNG_CYC, 100000), (CFG_STATE_STATE, 8), (RNG_ST_PA, 1), (RNG_ST_PB, 1), (RNG_ST_STATE, 2), (RNG_MST_STATE 5, 3), (whole (RNG_MEXP 5), 4), (RNG_SVQ_Q, 5), (QUE_CFG_CAPL 5, 4), (QUE_CFG_PROD 5, 4), (QUE_CFG_BROKEN 5, 0), (QUE_ST_DEPTH 5, 0)]).onRing fun r => { r with map := [⟨5, 1, 0, false, 7, 8, 0⟩], mems := [(5, { reqs := [{ dest := 5, mtype := 1, data := [], seq := 9, sends := 1 }], owed := [0] })] }).onClk fun c => { c with running := true }))), by decide +kernel⟩

theorem wit_RingMembership_12 : ∃ (dt : Nat) (p : Fin 2) (d : List Byte) (e : MapEntry) (m : Fin 256) (q : SvReq) (rest : List SvReq) (s : State), ((s.get RNG_ST_READY = 1 ∧ s.ring.clkLost = false) ∧ s.get RNG_CFG_ROLE = 1 ∧ s.portUp p = true) ∧ ((s.ring.bufs.filter (fun b => decide ((s.elapse dt).quarter < b.2))).length < 64) ∧ leAt d 0x420 1 = m.val ∧ m.val ≠ 0 ∧ (s.ringMem m).reqs = q :: rest ∧ q.sends ≠ 0 ∧ q.seq = leAt d 0x424 2 ∧ q.mtype = leAt d 0x421 1 ∧ s.pushCheck 4 (s.get RNG_SVQ_Q) = 1 ∧ s.qCap (s.get RNG_SVQ_Q) ≤ 32 ∧ s.get (QUE_ST_DEPTH (s.get RNG_SVQ_Q)) + 1 ≤ s.qCap (s.get RNG_SVQ_Q) ∧ (∃ b : Fin 32, b.val ∉ s.ring.svUse) ∧ s.ring.map = [e] ∧ e.addr = m.val ∧ q.mtype = 1 ∧ leAt d 0x426 1 = 0 ∧ 1 ≤ s.get (RNG_MST_STATE m) ∧ s.get (RNG_MST_STATE m) ≤ 3 ∧ leAt d 0x428 4 ≠ e.mident :=
  ⟨(5), (0), ((ringHeader 2 0 0 0 0 none ++ List.replicate 0x408 0 ++ [5, 1] ++ leBytes 2 18 ++ leBytes 2 9 ++ [0, 0] ++ (leBytes 4 6 ++ leBytes 4 8 ++ leBytes 4 3 ++ [1, 0, 0, 0] ++ List.replicate 232 0))), (⟨5, 1, 0, false, 7, 8, 0⟩), (5), ({ dest := 5, mtype := 1, data := [], seq := 9, sends := 1 }), ([]), ((entry4 40 [(0x10, 2), (0x380, 5), (0x381, 0)] (((st [(RNG_ST_READY, 1), (RNG_ST_BYP, 0), (RNG_CFG_ROLE, 1), (whole RNG_CYC, 100000), (CFG_STATE_STATE, 8), (RNG_ST_PA, 1), (RNG_ST_PB, 1), (RNG_ST_STATE, 2), (RNG_MST_STATE 5, 1), (RNG_SVQ_Q, 5), (QUE_CFG_CAPL 5, 4), (QUE_CFG_PROD 5, 4), (QUE_CFG_BROKEN 5, 0), (QUE_ST_DEPTH 5, 0)]).onRing fun r => { r with map := [⟨5, 1, 0, false, 7, 8, 0⟩], mems := [(5, { reqs := [{ dest := 5, mtype := 1, data := [], seq := 9, sends := 1 }], owed := [0] })] }).onClk fun c => { c with running := true }))), by decide +kernel⟩

theorem wit_RingMembership_13 : ∃ (dt : Nat) (p : Fin 2) (d : List Byte) (e : MapEntry) (m : Fin 256) (q : SvReq) (rest : List SvReq) (s : State), ((s.get RNG_ST_READY = 1 ∧ s.ring.clkLost = false) ∧ s.get RNG_CFG_ROLE = 1 ∧ s.portUp p = true) ∧ ((s.ring.bufs.filter (fun b => decide ((s.elapse dt).quarter < b.2))).length < 64) ∧ leAt d 0x420 1 = m.val ∧ m.val ≠ 0 ∧ (s.ringMem m).reqs = q :: rest ∧ q.sends ≠ 0 ∧ q.seq = leAt d 0x424 2 ∧ q.mtype = leAt d 0x421 1 ∧ s.pushCheck 4 (s.get RNG_SVQ_Q) = 1 ∧ s.qCap (s.get RNG_SVQ_Q) ≤ 32 ∧ s.get (QUE_ST_DEPTH (s.get RNG_SVQ_Q)) + 1 ≤ s.qCap (s.get RNG_SVQ_Q) ∧ (∃ b : Fin 32, b.val ∉ s.ring.svUse) ∧ s.ring.map = [e] ∧ e.addr = m.val ∧ q.mtype = 1 ∧ leAt d 0x426 1 = 0 ∧ 1 ≤ s.get (RNG_MST_STATE m) ∧ s.get (RNG_MST_STATE m) ≤ 3 ∧ leAt d 0x428 4 = e.mident ∧ leAt d 0x42C 4 ≠ e.mcrc :=
  ⟨(5), (0), ((ringHeader 2 0 0 0 0 none ++ List.replicate 0x408 0 ++ [5, 1] ++ leBytes 2 18 ++ leBytes 2 9 ++ [0, 0] ++ (leBytes 4 7 ++ leBytes 4 6 ++ leBytes 4 3 ++ [1, 0, 0, 0] ++ List.replicate 232 0))), (⟨5, 1, 0, false, 7, 8, 0⟩), (5), ({ dest := 5, mtype := 1, data := [], seq := 9, sends := 1 }), ([]), ((entry4 40 [(0x10, 2), (0x380, 5), (0x381, 0)] (((st [(RNG_ST_READY, 1), (RNG_ST_BYP, 0), (RNG_CFG_ROLE, 1), (whole RNG_CYC, 100000), (CFG_STATE_STATE, 8), (RNG_ST_PA, 1), (RNG_ST_PB, 1), (RNG_ST_STATE, 2), (RNG_MST_STATE 5, 1), (RNG_SVQ_Q, 5), (QUE_CFG_CAPL 5, 4), (QUE_CFG_PROD 5, 4), (QUE_CFG_BROKEN 5, 0), (QUE_ST_DEPTH 5, 0)]).onRing fun r => { r with map := [⟨5, 1, 0, false, 7, 8, 0⟩], mems := [(5, { reqs := [{ dest := 5, mtype := 1, data := [], seq := 9, sends := 1 }], owed := [0] })] }).onClk fun c => { c with running := true }))), by decide +kernel⟩

theorem wit_RingMembership_14 : ∃ (dt : Nat) (p : Fin 2) (d : List Byte) (e : MapEntry) (m : Fin 256) (q : SvReq) (rest : List SvReq) (s : State), ((s.get RNG_ST_READY = 1 ∧ s.ring.clkLost = false) ∧ s.get RNG_CFG_ROLE = 1 ∧ s.portUp p = true) ∧ ((s.ring.bufs.filter (fun b => decide ((s.elapse dt).quarter < b.2))).length < 64) ∧ leAt d 0x420 1 = m.val ∧ m.val ≠ 0 ∧ (s.ringMem m).reqs = q :: rest ∧ q.sends ≠ 0 ∧ q.seq = leAt d 0x424 2 ∧ q.mtype = leAt d 0x421 1 ∧ s.pushCheck 4 (s.get RNG_SVQ_Q) = 1 ∧ s.qCap (s.get RNG_SVQ_Q) ≤ 32 ∧ s.get (QUE_ST_DEPTH (s.get RNG_SVQ_Q)) + 1 ≤ s.qCap (s.get RNG_SVQ_Q) ∧ (∃ b : Fin 32, b.val ∉ s.ring.svUse) ∧ s.ring.map = [e] ∧ e.addr = m.val ∧ q.mtype = 1 ∧ leAt d 0x426 1 = 0 ∧ 1 ≤ s.get (RNG_MST_STATE m) ∧ s.get (RNG_MST_STATE m) ≤ 3 ∧ leAt d 0x428 4 = e.mident ∧ leAt d 0x42C 4 = e.mcrc ∧ leAt d 0x434 1 < e.nsub :=
  ⟨(5), (0), ((ringHeader 2 0 0 0 0 none ++ List.replicate 0x408 0 ++ [5, 1] ++ leBytes 2 18 ++ leBytes 2 9 ++ [0, 0] ++ (leBytes 4 7 ++ leBytes 4 8 ++ leBytes 4 3 ++ [0, 0, 0, 0] ++ List.replicate 232 0))), (⟨5, 1, 0, false, 7, 8, 0⟩), (5), ({ dest := 5, mtype := 1, data := [], seq := 9, sends := 1 }), ([]), ((entry4 40 [(0x10, 2), (0x380, 5), (0x381, 0)] (((st [(RNG_ST_READY, 1), (RNG_ST_BYP, 0), (RNG_CFG_ROLE, 1), (whole RNG_CYC, 100000), (CFG_STATE_STATE, 8), (RNG_ST_PA, 1), (RNG_ST_PB, 1), (RNG_ST_STATE, 2), (RNG_MST_STATE 5, 1), (RNG_SVQ_Q, 5), (QUE_CFG_CAPL 5, 4), (QUE_CFG_PROD 5, 4), (QUE_CFG_BROKEN 5, 0), (QUE_ST_DEPTH 5, 0)]).onRing fun r => { r with map := [⟨5, 1, 0, false, 7, 8, 0⟩], mems := [(5, { reqs := [{ dest := 5, mtype := 1, data := [], seq := 9, sends := 1 }], owed := [0] })] }).onClk fun c => { c with running := true }))), by decide +kernel⟩

theorem wit_RingMembership_15 : ∃ (dt : Nat) (p : Fin 2) (d : List Byte) (e : MapEntry) (m : Fin 256) (q : SvReq) (rest : List SvReq) (s : State), ((s.get RNG_ST_READY = 1 ∧ s.ring.clkLost = false) ∧ s.get RNG_CFG_ROLE = 1 ∧ s.portUp p = true) ∧ ((s.ring.bufs.filter (fun b => decide ((s.elapse dt).quarter < b.2))).length < 64) ∧ leAt d 0x420 1 = m.val ∧ m.val ≠ 0 ∧ (s.ringMem m).reqs = q :: rest ∧ q.sends ≠ 0 ∧ q.seq = leAt d 0x424 2 ∧ q.mtype = leAt d 0x421 1 ∧ s.pushCheck 4 (s.get RNG_SVQ_Q) = 1 ∧ s.qCap (s.get RNG_SVQ_Q) ≤ 32 ∧ s.get (QUE_ST_DEPTH (s.get RNG_SVQ_Q)) + 1 ≤ s.qCap (s.get RNG_SVQ_Q) ∧ (∃ b : Fin 32, b.val ∉ s.ring.svUse) ∧ s.ring.map = [e] ∧ e.addr = m.val ∧ q.mtype = 1 ∧ leAt d 0x426 1 = 0 ∧ 1 ≤ s.get (RNG_MST_STATE m) ∧ s.get (RNG_MST_STATE m) ≤ 3 ∧ leAt d 0x428 4 = e.mident ∧ leAt d 0x42C 4 = e.mcrc ∧ e.nsub ≤ leAt d 0x434 1 ∧ bit (leAt d 0x435 1) 1 = true :=
  ⟨(5), (0), ((ringHeader 2 0 0 0 0 none ++ List.replicate 0x408 0 ++ [5, 1] ++ leBytes 2 18 ++ leBytes 2 9 ++ [0, 0] ++ (leBytes 4 7 ++ leBytes 4 8 ++ leBytes 4 3 ++ [1, 2, 0, 0] ++ List.replicate 232 0))), (⟨5, 1, 0, false, 7, 8, 0⟩), (5), ({ dest := 5, mtype := 1, data := [], seq := 9, sends := 1 }), ([]), ((entry4 40 [(0x10, 2), (0x380, 5), (0x381, 0)] (((st [(RNG_ST_READY, 1), (RNG_ST_BYP, 0), (RNG_CFG_ROLE, 1), (whole RNG_CYC, 100000), (CFG_STATE_STATE, 8), (RNG_ST_PA, 1), (RNG_ST_PB, 1), (RNG_ST_STATE, 2), (RNG_MST_STATE 5, 1), (RNG_SVQ_Q, 5), (QUE_CFG_CAPL 5, 4), (QUE_CFG_PROD 5, 4), (QUE_CFG_BROKEN 5, 0), (QUE_ST_DEPTH 5, 0)]).onRing fun r => { r with map := [⟨5, 1, 0, false, 7, 8, 0⟩], mems := [(5, { reqs := [{ dest := 5, mtype := 1, data := [], seq := 9, sends := 1 }], owed := [0] })] }).onClk fun c => { c with running := true }))), by decide +kernel⟩

theorem wit_RingMembership_16 : ∃ (dt : Nat) (p : Fin 2) (d : List Byte) (m : Fin 256) (q : SvReq) (rest : List SvReq) (s : State), ((s.get RNG_ST_READY = 1 ∧ s.ring.clkLost = false) ∧ s.get RNG_CFG_ROLE = 1 ∧ s.portUp p = true) ∧ ((s.ring.bufs.filter (fun b => decide ((s.elapse dt).quarter < b.2))).length < 64) ∧ leAt d 0x420 1 = m.val ∧ m.val ≠ 0 ∧ (s.ringMem m).reqs = q :: rest ∧ q.sends ≠ 0 ∧ q.seq = leAt d 0x424 2 ∧ q.mtype = leAt d 0x421 1 ∧ s.pushCheck 4 (s.get RNG_SVQ_Q) = 1 ∧ s.qCap (s.get RNG_SVQ_Q) ≤ 32 ∧ s.get (QUE_ST_DEPTH (s.get RNG_SVQ_Q)) + 1 ≤ s.qCap (s.get RNG_SVQ_Q) ∧ (∃ b : Fin 32, b.val ∉ s.ring.svUse) ∧ q.mtype = 2 ∧ leAt q.data 1 1 = 0 ∧ s.get (RNG_MST_STATE m) = 2 ∧ leAt d 0x426 1 ≠ 0 :=
  ⟨(5), (0), ((ringHeader 2 0 0 0 0 none ++ List.replicate 0x408 0 ++ [5, 2] ++ leBytes 2 18 ++ leBytes 2 9 ++ [1, 0] ++ List.replicate 248 0)), (5), ({ dest := 5, mtype := 2, data := [], seq := 9, sends := 1 }), ([]), ((entry4 40 [(0x10, 2), (0x380, 5), (0x381, 0)] (((st [(RNG_ST_READY, 1), (RNG_ST_BYP, 0), (RNG_CFG_ROLE, 1), (whole RNG_CYC, 100000), (CFG_STATE_STATE, 8), (RNG_ST_PA, 1), (RNG_ST_PB, 1), (RNG_ST_STATE, 2), (RNG_MST_STATE 5, 2), (RNG_SVQ_Q, 5), (QUE_CFG_CAPL 5, 4), (QUE_CFG_PROD 5, 4), (QUE_CFG_BROKEN 5, 0), (QUE_ST_DEPTH 5, 0)]).onRing fun r => { r with map := [⟨5, 1, 0, false, 7, 8, 0⟩], mems := [(5, { reqs := [{ dest := 5, mtype := 2, data := [], seq := 9, sends := 1 }], owed := [0] })] }).onClk fun c => { c with running := true }))), by decide +kernel⟩

theorem wit_RingMembership_17 : ∃ (dt : Nat) (p : Fin 2) (d : List Byte) (m : Fin 256) (q : SvReq) (rest : List SvReq) (s : State), ((s.get RNG_ST_READY = 1 ∧ s.ring.clkLost = false) ∧ s.get RNG_CFG_ROLE = 1 ∧ s.portUp p = true) ∧ ((s.ring.bufs.filter (fun b => decide ((s.elapse dt).quarter < b.2))).length < 64) ∧ leAt d 0x420 1 = m.val ∧ m.val ≠ 0 ∧ (s.ringMem m).reqs = q :: rest ∧ q.sends ≠ 0 ∧ q.seq = leAt d 0x424 2 ∧ q.mtype = leAt d 0x421 1 ∧ s.pushCheck 4 (s.get RNG_SVQ_Q) = 1 ∧ s.qCap (s.get RNG_SVQ_Q) ≤ 32 ∧ s.get (QUE_ST_DEPTH (s.get RNG_SVQ_Q)) + 1 ≤ s.qCap (s.get RNG_SVQ_Q) ∧ (∃ b : Fin 32, b.val ∉ s.ring.svUse) ∧ q.mtype = 2 ∧ leAt q.data 1 1 = 0 ∧ s.get (RNG_MST_STATE m) = 2 ∧ leAt d 0x426 1 = 0 ∧ ((s.ringMem m).owed.filter (fun x => decide (x ≠ leAt q.data 0 1)) = []) ∧ leAt d 0x428 4 = s.rd (RNG_MEXP m) :=
  ⟨(5), (0), ((ringHeader 2 0 0 0 0 none ++ List.replicate 0x408 0 ++ [5, 2] ++ leBytes 2 18 ++ leBytes 2 9 ++ [0, 0] ++ (leBytes 4 3 ++ leBytes 4 8 ++ leBytes 4 3 ++ [1, 0, 0, 0] ++ List.replicate 232 0))), (5), ({ dest := 5, mtype := 2, data := [], seq := 9, sends := 1 }), ([]), ((entry4 40 [(0x10, 2), (0x380, 5), (0x381, 0)] (((st [(RNG_ST_READY, 1), (RNG_ST_BYP, 0), (RNG_CFG_ROLE, 1), (whole RNG_CYC, 100000), (CFG_STATE_STATE, 8), (RNG_ST_PA, 1), (RNG_ST_PB, 1), (RNG_ST_STATE, 2), (RNG_MST_STATE 5, 2), (whole (RNG_MEXP 5), 3), (RNG_SVQ_Q, 5), (QUE_CFG_CAPL 5, 4), (QUE_CFG_PROD 5, 4), (QUE_CFG_BROKEN 5, 0), (QUE_ST_DEPTH 5, 0)]).onRing fun r => { r with map := [⟨5, 1, 0, false, 7, 8, 0⟩], mems := [(5, { reqs := [{ dest := 5, mtype := 2, data := [], seq := 9, sends := 1 }], owed := [0] })] }).onClk fun c => { c with running := true }))), by decide +kernel⟩

theorem wit_RingMembership_18 : ∃ (dt : Nat) (p : Fin 2) (d : List Byte) (m : Fin 256) (q : SvReq) (rest : List SvReq) (s : State), ((s.get RNG_ST_READY = 1 ∧ s.ring.clkLost = false) ∧ s.get RNG_CFG_ROLE = 1 ∧ s.portUp p = true) ∧ ((s.ring.bufs.filter (fun b => decide ((s.elapse dt).quarter < b.2))).length < 64) ∧ leAt d 0x420 1 = m.val ∧ m.val ≠ 0 ∧ (s.ringMem m).reqs = q :: rest ∧ q.sends ≠ 0 ∧ q.seq = leAt d 0x424 2 ∧ q.mtype = leAt d 0x421 1 ∧ s.pushCheck 4 (s.get RNG_SVQ_Q) = 1 ∧ s.qCap (s.get RNG_SVQ_Q) ≤ 32 ∧ s.get (QUE_ST_DEPTH (s.get RNG_SVQ_Q)) + 1 ≤ s.qCap (s.get RNG_SVQ_Q) ∧ (∃ b : Fin 32, b.val ∉ s.ring.svUse) ∧ q.mtype = 2 ∧ leAt q.data 1 1 = 0 ∧ s.get (RNG_MST_STATE m) = 2 ∧ leAt d 0x426 1 = 0 ∧ ((s.ringMem m).owed.filter (fun x => decide (x ≠ leAt q.data 0 1)) = []) ∧ leAt d 0x428 4 ≠ s.rd (RNG_MEXP m) :=
  ⟨(5), (0), ((ringHeader 2 0 0 0 0 none ++ List.replicate 0x408 0 ++ [5, 2] ++ leBytes 2 18 ++ leBytes 2 9 ++ [0, 0] ++ (leBytes 4 4 ++ leBytes 4 8 ++ leBytes 4 3 ++ [1, 0, 0, 0] ++ List.replicate 232 0))), (5), ({ dest := 5, mtype := 2, data := [], seq := 9, sends := 1 }), ([]), ((entry4 40 [(0x10, 2), (0x380, 5), (0x381, 0)] (((st [(RNG_ST_READY, 1), (RNG_ST_BYP, 0), (RNG_CFG_ROLE, 1), (whole RNG_CYC, 100000), (CFG_STATE_STATE, 8), (RNG_ST_PA, 1), (RNG_ST_PB, 1), (RNG_ST_STATE, 2), (RNG_MST_STATE 5, 2), (whole (RNG_MEXP 5), 3), (RNG_SVQ_Q, 5), (QUE_CFG_CAPL 5, 4), (QUE_CFG_PROD 5, 4), (QUE_CFG_BROKEN 5, 0), (QUE_ST_DEPTH 5, 0)]).onRing fun r => { r with map := [⟨5, 1, 0, false, 7, 8, 0⟩], mems := [(5, { reqs := [{ dest := 5, mtype := 2, data := [], seq := 9, sends := 1 }], owed := [0] })] }).onClk fun c => { c with running := true }))), by decide +kernel⟩

theorem wit_RingMembership_19 : ∃ (dt : Nat) (p : Fin 2) (d : List Byte) (m : Fin 256) (q : SvReq) (rest : List SvReq) (s : State), ((s.get RNG_ST_READY = 1 ∧ s.ring.clkLost = false) ∧ s.get RNG_CFG_ROLE = 1 ∧ s.portUp p = true) ∧ ((s.ring.bufs.filter (fun b => decide ((s.elapse dt).quarter < b.2))).length < 64) ∧ leAt d 0x420 1 = m.val ∧ m.val ≠ 0 ∧ (s.ringMem m).reqs = q :: rest ∧ q.sends ≠ 0 ∧ q.seq = leAt d 0x424 2 ∧ q.mtype = leAt d 0x421 1 ∧ s.pushCheck 4 (s.get RNG_SVQ_Q) = 1 ∧ s.qCap (s.get RNG_SVQ_Q) ≤ 32 ∧ s.get (QUE_ST_DEPTH (s.get RNG_SVQ_Q)) + 1 ≤ s.qCap (s.get RNG_SVQ_Q) ∧ (∃ b : Fin 32, b.val ∉ s.ring.svUse) ∧ q.mtype = 2 ∧ leAt q.data 1 1 = 0 ∧ s.get (RNG_MST_STATE m) = 2 ∧ leAt d 0x426 1 = 0 ∧ ((s.ringMem m).owed.filter (fun x => decide (x ≠ leAt q.data 0 1)) ≠ []) :=
  ⟨(5), (0), ((ringHeader 2 0 0 0 0 none ++ List.replicate 0x408 0 ++ [5, 2] ++ leBytes 2 18 ++ leBytes 2 9 ++ [0, 0] ++ (leBytes 4 4 ++ leBytes 4 8 ++ leBytes 4 3 ++ [1, 0, 0, 0] ++ List.replicate 232 0))), (5), ({ dest := 5, mtype := 2, data := [3], seq := 9, sends := 1 }), ([]), ((entry4 40 [(0x10, 2), (0x380, 5), (0x381, 0)] (((st [(RNG_ST_READY, 1), (RNG_ST_BYP, 0), (RNG_CFG_ROLE, 1), (whole RNG_CYC, 100000), (CFG_STATE_STATE, 8), (RNG_ST_PA, 1), (RNG_ST_PB, 1), (RNG_ST_STATE, 2), (RNG_MST_STATE 5, 2), (RNG_SVQ_Q, 5), (QUE_CFG_CAPL 5, 4), (QUE_CFG_PROD 5, 4), (QUE_CFG_BROKEN 5, 0), (QUE_ST_DEPTH 5, 0)]).onRing fun r => { r with map := [⟨5, 1, 0, false, 7, 8, 0⟩], mems := [(5, { reqs := [{ dest := 5, mtype := 2, data := [3], seq := 9, sends := 1 }], owed := [0] })] }).onClk fun c => { c with running := true }))), by decide +kernel⟩

theorem wit_RingMembership_20 : ∃ (dt : Nat) (p : Fin 2) (d : List Byte) (m : Fin 256) (q : SvReq) (rest : List SvReq) (s : State), ((s.get RNG_ST_READY = 1 ∧ s.ring.clkLost = false) ∧ s.get RNG_CFG_ROLE = 1 ∧ s.portUp p = true) ∧ ((s.ring.bufs.filter (fun b => decide ((s.elapse dt).quarter < b.2))).length < 64) ∧ leAt d 0x420 1 = m.val ∧ m.val ≠ 0 ∧ (s.ringMem m).reqs = q :: rest ∧ q.sends ≠ 0 ∧ q.seq = leAt d 0x424 2 ∧ q.mtype = leAt d 0x421 1 ∧ (∀ b : Fin 32, b.val ∈ s.ring.svUse) :=
  ⟨(5), (0), ((ringHeader 2 0 0 0 0 none ++ List.replicate 0x408 0 ++ [5, 1] ++ leBytes 2 18 ++ leBytes 2 9 ++ [0, 0] ++ (leBytes 4 7 ++ leBytes 4 8 ++ leBytes 4 3 ++ [1, 0, 0, 0] ++ List.replicate 232 0))), (5), ({ dest := 5, mtype := 1, data := [], seq := 9, sends := 1 }), ([]), (((entry4 40 [(0x10, 2), (0x380, 5), (0x381, 0)] (((st [(RNG_ST_READY, 1), (RNG_ST_BYP, 0), (RNG_CFG_ROLE, 1), (whole RNG_CYC, 100000), (CFG_STATE_STATE, 8), (RNG_ST_PA, 1), (RNG_ST_PB, 1), (RNG_ST_STATE, 2), (RNG_MST_STATE 5, 1), (RNG_SVQ_Q, 5), (QUE_CFG_CAPL 5, 4), (QUE_CFG_PROD 5, 4), (QUE_CFG_BROKEN 5, 0), (QUE_ST_DEPTH 5, 0)]).onRing fun r => { r with map := [⟨5, 1, 0, false, 7, 8, 0⟩], mems := [(5, { reqs := [{ dest := 5, mtype := 1, data := [], seq := 9, sends := 1 }], owed := [0] })] }).onClk fun c => { c with running := true }))).onRing fun r => { r with svUse := List.range 32 }), by decide +kernel⟩

theorem wit_RingMembership_21 : ∃ (dt : Nat) (p : Fin 2) (d : List Byte) (s : State), ((s.get RNG_ST_READY = 1 ∧ s.ring.clkLost = false) ∧ s.get RNG_CFG_ROLE = 1 ∧ s.portUp p = true) ∧ ((s.ring.bufs.filter (fun b => decide ((s.elapse dt).quarter < b.2))).length < 64) ∧ (leAt d 0x420 1 = 0 ∨ (s.ringMem (leAt d 0x420 1)).reqs = []) :=
  ⟨(5), (0), ([]), ((((st [(RNG_ST_READY, 1), (RNG_ST_BYP, 0), (RNG_CFG_ROLE, 1), (whole RNG_CYC, 100000), (CFG_STATE_STATE, 8), (RNG_ST_PA, 1), (RNG_ST_PB, 1), (RNG_ST_STATE, 2)]).onRing fun r => { r with map := [⟨5, 1, 0, false, 7, 8, 0⟩] }).onClk fun c => { c with running := true })), by decide +kernel⟩

theorem wit_RingMembership_22 : ∃ (dt : Nat) (m : Fin 256) (q : SvReq) (rest : List SvReq) (s : State), (s.ringMem m).reqs = q :: rest ∧ q.sends ≠ 0 ∧ q.again = false ∧ 16 ≤ signed 32 (s.rd RNG_CYCNT + 2 ^ 32 - q.cyc) ∧ q.sends < 4 :=
  ⟨(5), (5), ({ dest := 5, mtype := 1, data := [], seq := 9, sends := 3, cyc := 24 }), ([]), ((st [(whole RNG_CYCNT, 40)]).onRing fun r => { r with mems := [(5, { reqs := [{ dest := 5, mtype := 1, data := [], seq := 9, sends := 3, cyc := 24 }] })] }), by decide +kernel⟩

theorem wit_RingMembership_23 : ∃ (dt : Nat) (m : Fin 256) (q : SvReq) (rest : List SvReq) (s : State), (s.ringMem m).reqs = q :: rest ∧ q.sends ≠ 0 ∧ q.again = false ∧ 16 ≤ signed 32 (s.rd RNG_CYCNT + 2 ^ 32 - q.cyc) ∧ 4 ≤ q.sends :=
  ⟨(5), (5), ({ dest := 5, mtype := 1, data := [], seq := 9, sends := 4, cyc := 24 }), ([]), ((st [(whole RNG_CYCNT, 40)]).onRing fun r => { r with mems := [(5, { reqs := [{ dest := 5, mtype := 1, data := [], seq := 9, sends := 4, cyc := 24 }] })] }), by decide +kernel⟩

theorem wit_RingMembership_24 : ∃ (dt : Nat) (m : Fin 256) (s : State), (s.ringMem m).reqs = [] :=
  ⟨(5), (5), (State.reset), by decide +kernel⟩

theorem wit_RingMembers_1 : ∃ (dt : Nat) (p : Fin 2) (ok : Bool) (d : List Byte) (s : State), ¬ ((s.get RNG_ST_READY = 1 ∧ s.ring.clkLost = false) ∧ s.get RNG_CFG_ROLE = 2 ∧ s.portUp p = true) :=
  ⟨(5), (0), (true), ((ringHeader 1 0 0 0 0 none ++ List.replicate 330 0)), (State.reset), by decide +kernel⟩

theorem wit_RingMembers_2 : ∃ (dt : Nat) (p : Fin 2) (ok : Bool) (d : List Byte) (s : State), ((s.get RNG_ST_READY = 1 ∧ s.ring.clkLost = false) ∧ s.get RNG_CFG_ROLE = 2 ∧ s.portUp p = true) ∧ (64 ≤ (s.ring.bufs.filter (fun b => decide ((s.elapse dt).quarter < b.2))).length) :=
  ⟨(5), (0), (true), ((ringHeader 1 0 0 0 0 none ++ List.replicate 330 0)), ((((st [(RNG_ST_READY, 1), (RNG_ST_BYP, 0), (RNG_CFG_ROLE, 2), (whole RNG_CYC, 100000), (CFG_STATE_STATE, 8), (RNG_ST_PA, 1), (RNG_ST_PB, 1), (RNG_CFG_ADDR, 5), (RNG_MSUB_AX 2, 9), (RNG_MSUB_AX 0, 7)]).onRing fun r => { r with bufs := List.replicate 64 (2, 900000000) }).onClk fun c => { c with running := true })), by decide +kernel⟩

theorem wit_RingMembers_3 : ∃ (dt : Nat) (p : Fin 2) (ok : Bool) (d : List Byte) (s : State), ((s.get RNG_ST_READY = 1 ∧ s.ring.clkLost = false) ∧ s.get RNG_CFG_ROLE = 2 ∧ s.portUp p = true) ∧ ((s.ring.bufs.filter (fun b => decide ((s.elapse dt).quarter < b.2))).length < 64) ∧ bit (leAt d 2 1) 0 = true ∧ s.portUp (1 - p.val) = true :=
  ⟨(5), (0), (true), (putLe ((ringHeader 1 0 0 0 0 none)) 2 1 1), ((((st [(RNG_ST_READY, 1), (RNG_ST_BYP, 0), (RNG_CFG_ROLE, 2), (whole RNG_CYC, 100000), (CFG_STATE_STATE, 8), (RNG_ST_PA, 1), (RNG_ST_PB, 1), (RNG_CFG_ADDR, 5), (RNG_MSUB_AX 2, 9), (RNG_MSUB_AX 0, 7)]).onRing fun r => { r with missed := 0 }).onClk fun c => { c with running := true })), by decide +kernel⟩

theorem wit_RingMembers_4 : ∃ (dt : Nat) (p : Fin 2) (ok : Bool) (d : List Byte) (s : State), ((s.get RNG_ST_READY = 1 ∧ s.ring.clkLost = false) ∧ s.get RNG_CFG_ROLE = 2 ∧ s.portUp p = true) ∧ ((s.ring.bufs.filter (fun b => decide ((s.elapse dt).quarter < b.2))).length < 64) ∧ bit (leAt d 2 1) 0 = true ∧ s.portUp (1 - p.val) = false :=
  ⟨(5), (0), (true), (putLe ((ringHeader 1 0 0 0 0 none)) 2 1 1), ((((st [(RNG_ST_READY, 1), (RNG_ST_BYP, 0), (RNG_CFG_ROLE, 2), (whole RNG_CYC, 100000), (CFG_STATE_STATE, 8), (RNG_ST_PA, 1), (RNG_ST_PB, 1), (RNG_CFG_ADDR, 5), (RNG_MSUB_AX 2, 9), (RNG_MSUB_AX 0, 7), (RNG_ST_PB, 0)]).onRing fun r => { r with missed := 0 }).onClk fun c => { c with running := true })), by decide +kernel⟩

theorem wit_RingMembers_5 : ∃ (dt : Nat) (p : Fin 2) (d : List Byte) (s : State), ((s.get RNG_ST_READY = 1 ∧ s.ring.clkLost = false) ∧ s.get RNG_CFG_ROLE = 2 ∧ s.portUp p = true) ∧ ((s.ring.bufs.filter (fun b => decide ((s.elapse dt).quarter < b.2))).length < 64) ∧ bit (leAt d 2 1) 0 = false ∧ s.portUp (1 - p.val) = true ∧ 24 ≤ d.length :=
  ⟨(5), (0), ((ringHeader 1 0 0 0 0 none ++ List.replicate 330 0)), ((((st [(RNG_ST_READY, 1), (RNG_ST_BYP, 0), (RNG_CFG_ROLE, 2), (whole RNG_CYC, 100000), (CFG_STATE_STATE, 8), (RNG_ST_PA, 1), (RNG_ST_PB, 1), (RNG_CFG_ADDR, 5), (RNG_MSUB_AX 2, 9), (RNG_MSUB_AX 0, 7)]).onRing fun r => { r with missed := 0 }).onClk fun c => { c with running := true })), by decide +kernel⟩

theorem wit_RingMembers_6 : ∃ (dt : Nat) (p : Fin 2) (ok : Bool) (d : List Byte) (s : State), ((s.get RNG_ST_READY = 1 ∧ s.ring.clkLost = false) ∧ s.get RNG_CFG_ROLE = 2 ∧ s.portUp p = true) ∧ ((s.ring.bufs.filter (fun b => decide ((s.elapse dt).quarter < b.2))).length < 64) ∧ bit (leAt d 2 1) 0 = false ∧ s.portUp (1 - p.val) = false ∧ 24 ≤ d.length :=
  ⟨(5), (0), (true), ((ringHeader 1 0 0 0 0 none ++ List.replicate 330 0)), ((((st [(RNG_ST_READY, 1), (RNG_ST_BYP, 0), (RNG_CFG_ROLE, 2), (whole RNG_CYC, 100000), (CFG_STATE_STATE, 8), (RNG_ST_PA, 1), (RNG_ST_PB, 1), (RNG_CFG_ADDR, 5), (RNG_MSUB_AX 2, 9), (RNG_MSUB_AX 0, 7), (RNG_ST_PB, 0)]).onRing fun r => { r with missed := 0 }).onClk fun c => { c with running := true })), by decide +kernel⟩

theorem wit_RingMembers_7 : ∃ (dt : Nat) (p : Fin 2) (ok : Bool) (d : List Byte) (s : State), ¬ ((s.get RNG_ST_READY = 1 ∧ s.ring.clkLost = false) ∧ s.get RNG_CFG_ROLE = 2 ∧ s.portUp p = true) :=
  ⟨(5), (0), (true), ((ringHeader 4 0 0 0 0 none ++ List.replicate 330 0)), (State.reset), by decide +kernel⟩

theorem wit_RingMembers_8 : ∃ (dt : Nat) (p : Fin 2) (ok : Bool) (d : List Byte) (s : State), ((s.get RNG_ST_READY = 1 ∧ s.ring.clkLost = false) ∧ s.get RNG_CFG_ROLE = 2 ∧ s.portUp p = true) ∧ (64 ≤ (s.ring.bufs.filter (fun b => decide ((s.elapse dt).quarter < b.2))).length) :=
  ⟨(5), (0), (true), ((ringHeader 4 0 0 0 0 none ++ List.replicate 330 0)), ((((st [(RNG_ST_READY, 1), (RNG_ST_BYP, 0), (RNG_CFG_ROLE, 2), (whole RNG_CYC, 100000), (CFG_STATE_STATE, 8), (RNG_ST_PA, 1), (RNG_ST_PB, 1), (RNG_CFG_ADDR, 5), (RNG_MSUB_AX 2, 9), (RNG_MSUB_AX 0, 7)]).onRing fun r => { r with bufs := List.replicate 64 (2, 900000000) }).onClk fun c => { c with running := true })), by decide +kernel⟩

theorem wit_RingMembers_9 : ∃ (dt : Nat) (p : Fin 2) (ok : Bool) (d : List Byte) (s : State), ((s.get RNG_ST_READY = 1 ∧ s.ring.clkLost = false) ∧ s.get RNG_CFG_ROLE = 2 ∧ s.portUp p = true) ∧ ((s.ring.bufs.filter (fun b => decide ((s.elapse dt).quarter < b.2))).length < 64) ∧ bit (leAt d 2 1) 0 = true ∧ s.portUp (1 - p.val) = true :=
  ⟨(5), (0), (true), (putLe ((ringHeader 4 0 0 0 0 none)) 2 1 1), ((((st [(RNG_ST_READY, 1), (RNG_ST_BYP, 0), (RNG_CFG_ROLE, 2), (whole RNG_CYC, 100000), (CFG_STATE_STATE, 8), (RNG_ST_PA, 1), (RNG_ST_PB, 1), (RNG_CFG_ADDR, 5), (RNG_MSUB_AX 2, 9), (RNG_MSUB_AX 0, 7)]).onRing fun r => { r with missed := 0 }).onClk fun c => { c with running := true })), by decide +kernel⟩

theorem wit_RingMembers_10 : ∃ (dt : Nat) (p : Fin 2) (ok : Bool) (d : List Byte) (s : State), ((s.get RNG_ST_READY = 1 ∧ s.ring.clkLost = false) ∧ s.get RNG_CFG_ROLE = 2 ∧ s.portUp p = true) ∧ ((s.ring.bufs.filter (fun b => decide ((s.elapse dt).quarter < b.2))).length < 64) ∧ bit (leAt d 2 1) 0 = true ∧ s.portUp (1 - p.val) = false :=
  ⟨(5), (0), (true), (putLe ((ringHeader 4 0 0 0 0 none)) 2 1 1), ((((st [(RNG_ST_READY, 1), (RNG_ST_BYP, 0), (RNG_CFG_ROLE, 2), (whole RNG_CYC, 100000), (CFG_STATE_STATE, 8), (RNG_ST_PA, 1), (RNG_ST_PB, 1), (RNG_CFG_ADDR, 5), (RNG_MSUB_AX 2, 9), (RNG_MSUB_AX 0, 7), (RNG_ST_PB, 0)]).onRing fun r => { r with missed := 0 }).onClk fun c => { c with running := true })), by decide +kernel⟩

theorem wit_RingMembers_11 : ∃ (dt : Nat) (p : Fin 2) (d : List Byte) (s : State), ((s.get RNG_ST_READY = 1 ∧ s.ring.clkLost = false) ∧ s.get RNG_CFG_ROLE = 2 ∧ s.portUp p = true) ∧ ((s.ring.bufs.filter (fun b => decide ((s.elapse dt).quarter < b.2))).length < 64) ∧ bit (leAt d 2 1) 0 = false ∧ s.portUp (1 - p.val) = true ∧ 24 ≤ d.length :=
  ⟨(5), (0), ((ringHeader 4 0 0 0 0 none ++ List.replicate 330 0)), ((((st [(RNG_ST_READY, 1), (RNG_ST_BYP, 0), (RNG_CFG_ROLE, 2), (whole RNG_CYC, 100000), (CFG_STATE_STATE, 8), (RNG_ST_PA, 1), (RNG_ST_PB, 1), (RNG_CFG_ADDR, 5), (RNG_MSUB_AX 2, 9), (RNG_MSUB_AX 0, 7)]).onRing fun r => { r with missed := 0 }).onClk fun c => { c with running := true })), by decide +kernel⟩

theorem wit_RingMembers_12 : ∃ (dt : Nat) (p : Fin 2) (ok : Bool) (d : List Byte) (s : State), ((s.get RNG_ST_READY = 1 ∧ s.ring.clkLost = false) ∧ s.get RNG_CFG_ROLE = 2 ∧ s.portUp p = true) ∧ ((s.ring.bufs.filter (fun b => decide ((s.elapse dt).quarter < b.2))).length < 64) ∧ bit (leAt d 2 1) 0 = false ∧ s.portUp (1 - p.val) = false ∧ 24 ≤ d.length :=
  ⟨(5), (0), (true), ((ringHeader 4 0 0 0 0 none ++ List.replicate 330 0)), ((((st [(RNG_ST_READY, 1), (RNG_ST_BYP, 0), (RNG_CFG_ROLE, 2), (whole RNG_CYC, 100000), (CFG_STATE_STATE, 8), (RNG_ST_PA, 1), (RNG_ST_PB, 1), (RNG_CFG_ADDR, 5), (RNG_MSUB_AX 2, 9), (RNG_MSUB_AX 0, 7), (RNG_ST_PB, 0)]).onRing fun r => { r with missed := 0 }).onClk fun c => { c with running := true })), by decide +kernel⟩

theorem wit_RingMembers_13 : ∃ (dt : Nat) (p : Fin 2) (ok : Bool) (d : List Byte) (s : State), ¬ ((s.get RNG_ST_READY = 1 ∧ s.ring.clkLost = false) ∧ s.get RNG_CFG_ROLE = 2 ∧ s.portUp p = true) :=
  ⟨(5), (0), (true), ((ringHeader 3 0 0 0 0 none ++ List.replicate 330 0)), (State.reset), by decide +kernel⟩

theorem wit_RingMembers_14 : ∃ (dt : Nat) (p : Fin 2) (ok : Bool) (d : List Byte) (s : State), ((s.get RNG_ST_READY = 1 ∧ s.ring.clkLost = false) ∧ s.get RNG_CFG_ROLE = 2 ∧ s.portUp p = true) ∧ (64 ≤ (s.ring.bufs.filter (fun b => decide ((s.elapse dt).quarter < b.2))).length) :=
  ⟨(5), (0), (true), ((ringHeader 3 0 0 0 0 none ++ List.replicate 330 0)), ((((st [(RNG_ST_READY, 1), (RNG_ST_BYP, 0), (RNG_CFG_ROLE, 2), (whole RNG_CYC, 100000), (CFG_STATE_STATE, 8), (RNG_ST_PA, 1), (RNG_ST_PB, 1), (RNG_CFG_ADDR, 5), (RNG_MSUB_AX 2, 9), (RNG_MSUB_AX 0, 7)]).onRing fun r => { r with bufs := List.replicate 64 (2, 900000000) }).onClk fun c => { c with running := true })), by decide +kernel⟩

theorem wit_RingMembers_15 : ∃ (dt : Nat) (p : Fin 2) (ok : Bool) (d : List Byte) (s : State), ((s.get RNG_ST_READY = 1 ∧ s.ring.clkLost = false) ∧ s.get RNG_CFG_ROLE = 2 ∧ s.portUp p = true) ∧ ((s.ring.bufs.filter (fun b => decide ((s.elapse dt).quarter < b.2))).length < 64) ∧ bit (leAt d 2 1) 0 = true ∧ s.portUp (1 - p.val) = true :=
  ⟨(5), (0), (true), (putLe ((ringHeader 3 0 0 0 0 none)) 2 1 1), ((((st [(RNG_ST_READY, 1), (RNG_ST_BYP, 0), (RNG_CFG_ROLE, 2), (whole RNG_CYC, 100000), (CFG_STATE_STATE, 8), (RNG_ST_PA, 1), (RNG_ST_PB, 1), (RNG_CFG_ADDR, 5), (RNG_MSUB_AX 2, 9), (RNG_MSUB_AX 0, 7)]).onRing fun r => { r with missed := 0 }).onClk fun c => { c with running := true })), by decide +kernel⟩

theorem wit_RingMembers_16 : ∃ (dt : Nat) (p : Fin 2) (ok : Bool) (d : List Byte) (s : State), ((s.get RNG_ST_READY = 1 ∧ s.ring.clkLost = false) ∧ s.get RNG_CFG_ROLE = 2 ∧ s.portUp p = true) ∧ ((s.ring.bufs.filter (fun b => decide ((s.elapse dt).quarter < b.2))).length < 64) ∧ bit (leAt d 2 1) 0 = true ∧ s.portUp (1 - p.val) = false :=
  ⟨(5), (0), (true), (putLe ((ringHeader 3 0 0 0 0 none)) 2 1 1), ((((st [(RNG_ST_READY, 1), (RNG_ST_BYP, 0), (RNG_CFG_ROLE, 2), (whole RNG_CYC, 100000), (CFG_STATE_STATE, 8), (RNG_ST_PA, 1), (RNG_ST_PB, 1), (RNG_CFG_ADDR, 5), (RNG_MSUB_AX 2, 9), (RNG_MSUB_AX 0, 7), (RNG_ST_PB, 0)]).onRing fun r => { r with missed := 0 }).onClk fun c => { c with running := true })), by decide +kernel⟩

theorem wit_RingMembers_17 : ∃ (dt : Nat) (p : Fin 2) (d : List Byte) (s : State), ((s.get RNG_ST_READY = 1 ∧ s.ring.clkLost = false) ∧ s.get RNG_CFG_ROLE = 2 ∧ s.portUp p = true) ∧ ((s.ring.bufs.filter (fun b => decide ((s.elapse dt).quarter < b.2))).length < 64) ∧ bit (leAt d 2 1) 0 = false ∧ s.portUp (1 - p.val) = true ∧ 24 ≤ d.length :=
  ⟨(5), (0), ((ringHeader 3 0 0 0 0 none ++ List.replicate 330 0)), ((((st [(RNG_ST_READY, 1), (RNG_ST_BYP, 0), (RNG_CFG_ROLE, 2), (whole RNG_CYC, 100000), (CFG_STATE_STATE, 8), (RNG_ST_PA, 1), (RNG_ST_PB, 1), (RNG_CFG_ADDR, 5), (RNG_MSUB_AX 2, 9), (RNG_MSUB_AX 0, 7)]).onRing fun r => { r with missed := 0 }).onClk fun c => { c with running := true })), by decide +kernel⟩

theorem wit_RingMembers_18 : ∃ (dt : Nat) (p : Fin 2) (ok : Bool) (d : List Byte) (s : State), ((s.get RNG_ST_READY = 1 ∧ s.ring.clkLost = false) ∧ s.get RNG_CFG_ROLE = 2 ∧ s.portUp p = true) ∧ ((s.ring.bufs.filter (fun b => decide ((s.elapse dt).quarter < b.2))).length < 64) ∧ bit (leAt d 2 1) 0 = false ∧ s.portUp (1 - p.val) = false ∧ 24 ≤ d.length :=
  ⟨(5), (0), (true), ((ringHeader 3 0 0 0 0 none ++ List.replicate 330 0)), ((((st [(RNG_ST_READY, 1), (RNG_ST_BYP, 0), (RNG_CFG_ROLE, 2), (whole RNG_CYC, 100000), (CFG_STATE_STATE, 8), (RNG_ST_PA, 1), (RNG_ST_PB, 1), (RNG_CFG_ADDR, 5), (RNG_MSUB_AX 2, 9), (RNG_MSUB_AX 0, 7), (RNG_ST_PB, 0)]).onRing fun r => { r with missed := 0 }).onClk fun c => { c with running := true })), by decide +kernel⟩

theorem wit_RingMembers_19 : ∃ (dt : Nat) (p : Fin 2) (ok : Bool) (d : List Byte) (s : State), ((s.get RNG_ST_READY = 1 ∧ s.ring.clkLost = false) ∧ s.get RNG_CFG_ROLE = 2 ∧ s.portUp p = true) ∧ ((s.ring.bufs.filter (fun b => decide ((s.elapse dt).quarter < b.2))).length < 64) ∧ bit (leAt d 2 1) 0 = false ∧ s.portUp (1 - p.val) = true ∧ 24 ≤ d.length :=
  ⟨(5), (0), (true), ((ringHeader 4 0 0 0 0 none ++ [4, 5, 6])), ((((st [(RNG_ST_READY, 1), (RNG_ST_BYP, 0), (RNG_CFG_ROLE, 2), (whole RNG_CYC, 100000), (CFG_STATE_STATE, 8), (RNG_ST_PA, 1), (RNG_ST_PB, 1), (RNG_CFG_ADDR, 5), (RNG_MSUB_AX 2, 9), (RNG_MSUB_AX 0, 7)]).onRing fun r => { r with missed := 0 }).onClk fun c => { c with running := true })), by decide +kernel⟩

theorem wit_RingMembers_20 : ∃ (dt : Nat) (p : Fin 2) (ok : Bool) (d : List Byte) (s : State), ((s.get RNG_ST_READY = 1 ∧ s.ring.clkLost = false) ∧ s.get RNG_CFG_ROLE = 2 ∧ s.portUp p = true) ∧ ((s.ring.bufs.filter (fun b => decide ((s.elapse dt).quarter < b.2))).length < 64) ∧ bit (leAt d 2 1) 0 = false ∧ s.portUp (1 - p.val) = true ∧ 348 ≤ d.length ∧ leAt d 24 1 ≤ 254 :=
  ⟨(5), (0), (true), ((ringHeader 3 0 0 0 0 none ++ List.replicate 324 0)), ((((st [(RNG_ST_READY, 1), (RNG_ST_BYP, 0), (RNG_CFG_ROLE, 2), (whole RNG_CYC, 100000), (CFG_STATE_STATE, 8), (RNG_ST_PA, 1), (RNG_ST_PB, 1), (RNG_CFG_ADDR, 5), (RNG_MSUB_AX 2, 9), (RNG_MSUB_AX 0, 7)]).onRing fun r => { r with missed := 0 }).onClk fun c => { c with running := true })), by decide +kernel⟩

theorem wit_RingMembers_21 : ∃ (dt : Nat) (p : Fin 2) (d : List Byte) (o : Nat) (k : Fin 16) (s : State), ((s.get RNG_ST_READY = 1 ∧ s.ring.clkLost = false) ∧ s.get RNG_CFG_ROLE = 2 ∧ s.portUp p = true) ∧ ((s.ring.bufs.filter (fun b => decide ((s.elapse dt).quarter < b.2))).length < 64) ∧ bit (leAt d 2 1) 0 = false ∧ s.portUp (1 - p.val) = true ∧ s.ownSlice d = some o ∧ (o + 4 + 36 * leAt d (o + 2) 1 + (if bit (leAt d (o + 1) 1) 2 then 48 else 0) ≤ d.length) ∧ k.val < leAt d (o + 2) 1 :=
  ⟨(5), (0), ((ringHeader 1 0 7 0 0 none ++ List.replicate 6 0 ++ [5, 3, 3, 0] ++ List.replicate 72 0 ++ leBytes 8 70 ++ leBytes 8 80 ++ leBytes 2 (0) ++ List.replicate 18 0)), (30), (2), ((((st [(RNG_ST_READY, 1), (RNG_ST_BYP, 0), (RNG_CFG_ROLE, 2), (whole RNG_CYC, 100000), (CFG_STATE_STATE, 8), (RNG_ST_PA, 1), (RNG_ST_PB, 1), (RNG_CFG_ADDR, 5), (RNG_MSUB_AX 2, 9), (RNG_MSUB_AX 0, 7)]).onRing fun r => { r with inputs := [(2, List.replicate 16 9)], replies := [⟨1, 2, 0, [], none⟩] }).onClk fun c => { c with running := true })), by decide +kernel⟩

theorem wit_RingMembers_22 : ∃ (dt : Nat) (p : Fin 2) (d : List Byte) (o : Nat) (k : Fin 16) (n : Fin 32) (s : State), ((s.get RNG_ST_READY = 1 ∧ s.ring.clkLost = false) ∧ s.get RNG_CFG_ROLE = 2 ∧ s.portUp p = true) ∧ ((s.ring.bufs.filter (fun b => decide ((s.elapse dt).quarter < b.2))).length < 64) ∧ bit (leAt d 2 1) 0 = false ∧ s.portUp (1 - p.val) = true ∧ s.ownSlice d = some o ∧ (o + 4 + 36 * leAt d (o + 2) 1 + (if bit (leAt d (o + 1) 1) 2 then 48 else 0) ≤ d.length) ∧ k.val < leAt d (o + 2) 1 ∧ s.subAxis k = some n.val ∧ bit (leAt d (o + 1) 1) 1 = true :=
  ⟨(5), (0), ((ringHeader 1 0 7 0 0 none ++ List.replicate 6 0 ++ [5, 3, 3, 0] ++ List.replicate 72 0 ++ leBytes 8 70 ++ leBytes 8 80 ++ leBytes 2 (0x4000) ++ List.replicate 18 0)), (30), (2), (9), ((((st [(RNG_ST_READY, 1), (RNG_ST_BYP, 0), (RNG_CFG_ROLE, 2), (whole RNG_CYC, 100000), (CFG_STATE_STATE, 8), (RNG_ST_PA, 1), (RNG_ST_PB, 1), (RNG_CFG_ADDR, 5), (RNG_MSUB_AX 2, 9), (RNG_MSUB_AX 0, 7)]).onRing fun r => { r with missed := 0 }).onClk fun c => { c with running := true })), by decide +kernel⟩

theorem wit_RingMembers_23 : ∃ (dt : Nat) (p : Fin 2) (d : List Byte) (o : Nat) (k : Fin 16) (n : Fin 32) (s : State), ((s.get RNG_ST_READY = 1 ∧ s.ring.clkLost = false) ∧ s.get RNG_CFG_ROLE = 2 ∧ s.portUp p = true) ∧ ((s.ring.bufs.filter (fun b => decide ((s.elapse dt).quarter < b.2))).length < 64) ∧ bit (leAt d 2 1) 0 = false ∧ s.portUp (1 - p.val) = true ∧ s.ownSlice d = some o ∧ (o + 4 + 36 * leAt d (o + 2) 1 + (if bit (leAt d (o + 1) 1) 2 then 48 else 0) ≤ d.length) ∧ k.val < leAt d (o + 2) 1 ∧ s.subAxis k = some n.val ∧ bit (leAt d (o + 1) 1) 1 = false :=
  ⟨(5), (0), ((ringHeader 1 0 7 0 0 none ++ List.replicate 6 0 ++ [5, 1, 3, 0] ++ List.replicate 72 0 ++ leBytes 8 70 ++ leBytes 8 80 ++ leBytes 2 (0x4000) ++ List.replicate 18 0)), (30), (2), (9), ((((st [(RNG_ST_READY, 1), (RNG_ST_BYP, 0), (RNG_CFG_ROLE, 2), (whole RNG_CYC, 100000), (CFG_STATE_STATE, 8), (RNG_ST_PA, 1), (RNG_ST_PB, 1), (RNG_CFG_ADDR, 5), (RNG_MSUB_AX 2, 9), (RNG_MSUB_AX 0, 7)]).onRing fun r => { r with missed := 0 }).onClk fun c => { c with running := true })), by decide +kernel⟩

theorem wit_RingMembers_24 : ∃ (dt : Nat) (p : Fin 2) (d : List Byte) (s : State), ((s.get RNG_ST_READY = 1 ∧ s.ring.clkLost = false) ∧ s.get RNG_CFG_ROLE = 2 ∧ s.portUp p = true) ∧ ((s.ring.bufs.filter (fun b => decide ((s.elapse dt).quarter < b.2))).length < 64) ∧ bit (leAt d 2 1) 0 = false ∧ 24 ≤ d.length ∧ leAt d 0x18 1 = s.get RNG_CFG_ADDR ∧ leAt d 0x19 1 = 1 ∧ s.ring.replies = [] ∧ s.ring.last = none ∧ s.svc.motions = [] ∧ s.pushCheck 4 (s.get RNG_SVQ_Q) = 1 ∧ s.qCap (s.get RNG_SVQ_Q) ≤ 32 ∧ s.get (QUE_ST_DEPTH (s.get RNG_SVQ_Q)) + 1 ≤ s.qCap (s.get RNG_SVQ_Q) ∧ (∃ b : Fin 32, b.val ∉ s.ring.svUse) :=
  ⟨(5), (0), ((ringHeader 2 0 7 0 0 none ++ svPayload 5 1 33 (leBytes 4 62500 ++ leBytes 4 125000))), ((((st [(RNG_ST_READY, 1), (RNG_ST_BYP, 0), (RNG_CFG_ROLE, 2), (whole RNG_CYC, 100000), (CFG_STATE_STATE, 8), (RNG_ST_PA, 1), (RNG_ST_PB, 1), (RNG_CFG_ADDR, 5), (RNG_MSUB_AX 2, 9), (RNG_MSUB_AX 0, 7), (whole RNG_IDENT, 77), (RNG_SVQ_Q, 5), (QUE_CFG_CAPL 5, 4), (QUE_CFG_PROD 5, 4), (QUE_CFG_BROKEN 5, 0), (QUE_ST_DEPTH 5, 0)]).onRing fun r => { r with missed := 0 }).onClk fun c => { c with running := true })), by decide +kernel⟩

theorem wit_RingMembers_25 : ∃ (dt : Nat) (p : Fin 2) (d : List Byte) (s : State), ((s.get RNG_ST_READY = 1 ∧ s.ring.clkLost = false) ∧ s.get RNG_CFG_ROLE = 2 ∧ s.portUp p = true) ∧ ((s.ring.bufs.filter (fun b => decide ((s.elapse dt).quarter < b.2))).length < 64) ∧ bit (leAt d 2 1) 0 = false ∧ 24 ≤ d.length ∧ leAt d 0x18 1 = s.get RNG_CFG_ADDR ∧ leAt d 0x19 1 = 2 ∧ s.ring.replies = [] ∧ s.ring.last = none ∧ s.svc.motions = [] ∧ s.pushCheck 4 (s.get RNG_SVQ_Q) = 1 ∧ s.qCap (s.get RNG_SVQ_Q) ≤ 32 ∧ s.get (QUE_ST_DEPTH (s.get RNG_SVQ_Q)) + 1 ≤ s.qCap (s.get RNG_SVQ_Q) ∧ (∃ b : Fin 32, b.val ∉ s.ring.svUse) ∧ s.subAxis (leAt (svData d) 0 1) = none :=
  ⟨(5), (0), ((ringHeader 2 0 7 0 0 none ++ svPayload 5 2 33 ([3, 0, 0, 0] ++ List.replicate 512 0))), ((((st [(RNG_ST_READY, 1), (RNG_ST_BYP, 0), (RNG_CFG_ROLE, 2), (whole RNG_CYC, 100000), (CFG_STATE_STATE, 8), (RNG_ST_PA, 1), (RNG_ST_PB, 1), (RNG_CFG_ADDR, 5), (RNG_MSUB_AX 2, 9), (RNG_MSUB_AX 0, 7), (RNG_SVQ_Q, 5), (QUE_CFG_CAPL 5, 4), (QUE_CFG_PROD 5, 4), (QUE_CFG_BROKEN 5, 0), (QUE_ST_DEPTH 5, 0)]).onRing fun r => { r with missed := 0 }).onClk fun c => { c with running := true })), by decide +kernel⟩

theorem wit_RingMembers_26 : ∃ (dt : Nat) (p : Fin 2) (d : List Byte) (n : Fin 32) (s : State), ((s.get RNG_ST_READY = 1 ∧ s.ring.clkLost = false) ∧ s.get RNG_CFG_ROLE = 2 ∧ s.portUp p = true) ∧ ((s.ring.bufs.filter (fun b => decide ((s.elapse dt).quarter < b.2))).length < 64) ∧ bit (leAt d 2 1) 0 = false ∧ 24 ≤ d.length ∧ leAt d 0x18 1 = s.get RNG_CFG_ADDR ∧ leAt d 0x19 1 = 2 ∧ s.ring.replies = [] ∧ s.ring.last = none ∧ s.svc.motions = [] ∧ s.pushCheck 4 (s.get RNG_SVQ_Q) = 1 ∧ s.qCap (s.get RNG_SVQ_Q) ≤ 32 ∧ s.get (QUE_ST_DEPTH (s.get RNG_SVQ_Q)) + 1 ≤ s.qCap (s.get RNG_SVQ_Q) ∧ (∃ b : Fin 32, b.val ∉ s.ring.svUse) ∧ s.subAxis (leAt (svData d) 0 1) = some n.val ∧ leAt d 0x1A 2 = 516 ∧ leAt (svData d) 1 1 = 1 :=
  ⟨(5), (0), ((ringHeader 2 0 7 0 0 none ++ svPayload 5 2 33 ([2, 1, 0, 0] ++ List.replicate 512 0))), (9), ((((st [(RNG_ST_READY, 1), (RNG_ST_BYP, 0), (RNG_CFG_ROLE, 2), (whole RNG_CYC, 100000), (CFG_STATE_STATE, 8), (RNG_ST_PA, 1), (RNG_ST_PB, 1), (RNG_CFG_ADDR, 5), (RNG_MSUB_AX 2, 9), (RNG_MSUB_AX 0, 7), (RNG_SVQ_Q, 5), (QUE_CFG_CAPL 5, 4), (QUE_CFG_PROD 5, 4), (QUE_CFG_BROKEN 5, 0), (QUE_ST_DEPTH 5, 0)]).onRing fun r => { r with missed := 0 }).onClk fun c => { c with running := true })), by decide +kernel⟩

theorem wit_RingMembers_27 : ∃ (dt : Nat) (p : Fin 2) (d : List Byte) (n : Fin 32) (s : State), ((s.get RNG_ST_READY = 1 ∧ s.ring.clkLost = false) ∧ s.get RNG_CFG_ROLE = 2 ∧ s.portUp p = true) ∧ ((s.ring.bufs.filter (fun b => decide ((s.elapse dt).quarter < b.2))).length < 64) ∧ bit (leAt d 2 1) 0 = false ∧ 24 ≤ d.length ∧ leAt d 0x18 1 = s.get RNG_CFG_ADDR ∧ leAt d 0x19 1 = 2 ∧ s.ring.replies = [] ∧ s.ring.last = none ∧ s.svc.motions = [] ∧ s.pushCheck 4 (s.get RNG_SVQ_Q) = 1 ∧ s.qCap (s.get RNG_SVQ_Q) ≤ 32 ∧ s.get (QUE_ST_DEPTH (s.get RNG_SVQ_Q)) + 1 ≤ s.qCap (s.get RNG_SVQ_Q) ∧ (∃ b : Fin 32, b.val ∉ s.ring.svUse) ∧ s.subAxis (leAt (svData d) 0 1) = some n.val ∧ leAt d 0x1A 2 = 516 ∧ leAt (svData d) 1 1 = 0 :=
  ⟨(5), (0), ((ringHeader 2 0 7 0 0 none ++ svPayload 5 2 33 ([2, 0, 0, 0] ++ List.replicate 512 0))), (9), ((((st [(RNG_ST_READY, 1), (RNG_ST_BYP, 0), (RNG_CFG_ROLE, 2), (whole RNG_CYC, 100000), (CFG_STATE_STATE, 8), (RNG_ST_PA, 1), (RNG_ST_PB, 1), (RNG_CFG_ADDR, 5), (RNG_MSUB_AX 2, 9), (RNG_MSUB_AX 0, 7), (RNG_SVQ_Q, 5), (QUE_CFG_CAPL 5, 4), (QUE_CFG_PROD 5, 4), (QUE_CFG_BROKEN 5, 0), (QUE_ST_DEPTH 5, 0)]).onRing fun r => { r with missed := 0 }).onClk fun c => { c with running := true })), by decide +kernel⟩

theorem wit_RingMembers_28 : ∃ (dt : Nat) (p : Fin 2) (d : List Byte) (s : State), ((s.get RNG_ST_READY = 1 ∧ s.ring.clkLost = false) ∧ s.get RNG_CFG_ROLE = 2 ∧ s.portUp p = true) ∧ ((s.ring.bufs.filter (fun b => decide ((s.elapse dt).quarter < b.2))).length < 64) ∧ bit (leAt d 2 1) 0 = false ∧ 24 ≤ d.length ∧ leAt d 0x18 1 = s.get RNG_CFG_ADDR ∧ leAt d 0x19 1 = 3 ∧ s.ring.replies = [] ∧ s.ring.last = none ∧ s.svc.motions = [] ∧ s.pushCheck 4 (s.get RNG_SVQ_Q) = 1 ∧ s.qCap (s.get RNG_SVQ_Q) ≤ 32 ∧ s.get (QUE_ST_DEPTH (s.get RNG_SVQ_Q)) + 1 ≤ s.qCap (s.get RNG_SVQ_Q) ∧ (∃ b : Fin 32, b.val ∉ s.ring.svUse) :=
  ⟨(5), (0), ((ringHeader 2 0 7 0 0 none ++ svPayload 5 3 33 [])), ((((st [(RNG_ST_READY, 1), (RNG_ST_BYP, 0), (RNG_CFG_ROLE, 2), (whole RNG_CYC, 100000), (CFG_STATE_STATE, 8), (RNG_ST_PA, 1), (RNG_ST_PB, 1), (RNG_CFG_ADDR, 5), (RNG_MSUB_AX 2, 9), (RNG_MSUB_AX 0, 7), (RNG_SVQ_Q, 5), (QUE_CFG_CAPL 5, 4), (QUE_CFG_PROD 5, 4), (QUE_CFG_BROKEN 5, 0), (QUE_ST_DEPTH 5, 0)]).onRing fun r => { r with stage := [(2, [1])] }).onClk fun c => { c with running := true })), by decide +kernel⟩

theorem wit_RingMembers_29 : ∃ (dt : Nat) (p : Fin 2) (d : List Byte) (s : State), ((s.get RNG_ST_READY = 1 ∧ s.ring.clkLost = false) ∧ s.get RNG_CFG_ROLE = 2 ∧ s.portUp p = true) ∧ ((s.ring.bufs.filter (fun b => decide ((s.elapse dt).quarter < b.2))).length < 64) ∧ bit (leAt d 2 1) 0 = false ∧ 24 ≤ d.length ∧ leAt d 0x18 1 = 0xFF ∧ s.get RNG_CFG_ADDR ≠ 0xFF ∧ leAt d 0x19 1 = 3 ∧ s.pushCheck 4 (s.get RNG_SVQ_Q) = 1 ∧ s.qCap (s.get RNG_SVQ_Q) ≤ 32 ∧ s.get (QUE_ST_DEPTH (s.get RNG_SVQ_Q)) + 1 ≤ s.qCap (s.get RNG_SVQ_Q) ∧ (∃ b : Fin 32, b.val ∉ s.ring.svUse) :=
  ⟨(5), (0), ((ringHeader 2 0 7 0 0 none ++ svPayload 255 3 33 [])), ((((st [(RNG_ST_READY, 1), (RNG_ST_BYP, 0), (RNG_CFG_ROLE, 2), (whole RNG_CYC, 100000), (CFG_STATE_STATE, 8), (RNG_ST_PA, 1), (RNG_ST_PB, 1), (RNG_CFG_ADDR, 5), (RNG_MSUB_AX 2, 9), (RNG_MSUB_AX 0, 7), (RNG_SVQ_Q, 5), (QUE_CFG_CAPL 5, 4), (QUE_CFG_PROD 5, 4), (QUE_CFG_BROKEN 5, 0), (QUE_ST_DEPTH 5, 0)]).onRing fun r => { r with stage := [(2, [1])] }).onClk fun c => { c with running := true })), by decide +kernel⟩

theorem wit_RingMembers_30 : ∃ (dt : Nat) (p : Fin 2) (d : List Byte) (s : State), ((s.get RNG_ST_READY = 1 ∧ s.ring.clkLost = false) ∧ s.get RNG_CFG_ROLE = 2 ∧ s.portUp p = true) ∧ ((s.ring.bufs.filter (fun b => decide ((s.elapse dt).quarter < b.2))).length < 64) ∧ bit (leAt d 2 1) 0 = false ∧ 24 ≤ d.length ∧ leAt d 0x18 1 ≠ 0xFF ∧ leAt d 0x18 1 ≠ s.get RNG_CFG_ADDR ∧ leAt d 0x19 1 = 3 :=
  ⟨(5), (0), ((ringHeader 2 0 7 0 0 none ++ svPayload 9 3 33 [])), ((((st [(RNG_ST_READY, 1), (RNG_ST_BYP, 0), (RNG_CFG_ROLE, 2), (whole RNG_CYC, 100000), (CFG_STATE_STATE, 8), (RNG_ST_PA, 1), (RNG_ST_PB, 1), (RNG_CFG_ADDR, 5), (RNG_MSUB_AX 2, 9), (RNG_MSUB_AX 0, 7), (RNG_SVQ_Q, 5), (QUE_CFG_CAPL 5, 4), (QUE_CFG_PROD 5, 4), (QUE_CFG_BROKEN 5, 0), (QUE_ST_DEPTH 5, 0)]).onRing fun r => { r with stage := [(2, [1])] }).onClk fun c => { c with running := true })), by decide +kernel⟩

theorem wit_RingMembers_31 : ∃ (dt : Nat) (p : Fin 2) (d : List Byte) (s : State), ((s.get RNG_ST_READY = 1 ∧ s.ring.clkLost = false) ∧ s.get RNG_CFG_ROLE = 2 ∧ s.portUp p = true) ∧ ((s.ring.bufs.filter (fun b => decide ((s.elapse dt).quarter < b.2))).length < 64) ∧ bit (leAt d 2 1) 0 = false ∧ 24 ≤ d.length ∧ leAt d 0x18 1 = s.get RNG_CFG_ADDR ∧ leAt d 0x19 1 = 4 ∧ s.ring.replies = [] ∧ s.ring.last = none ∧ s.svc.motions = [] ∧ s.pushCheck 4 (s.get RNG_SVQ_Q) = 1 ∧ s.qCap (s.get RNG_SVQ_Q) ≤ 32 ∧ s.get (QUE_ST_DEPTH (s.get RNG_SVQ_Q)) + 1 ≤ s.qCap (s.get RNG_SVQ_Q) ∧ (∃ b : Fin 32, b.val ∉ s.ring.svUse) ∧ frameOk (svData d) = false :=
  ⟨(5), (0), ((ringHeader 2 0 7 0 0 none ++ svPayload 5 4 33 [1, 1, 0, 0])), ((((st [(RNG_ST_READY, 1), (RNG_ST_BYP, 0), (RNG_CFG_ROLE, 2), (whole RNG_CYC, 100000), (CFG_STATE_STATE, 8), (RNG_ST_PA, 1), (RNG_ST_PB, 1), (RNG_CFG_ADDR, 5), (RNG_MSUB_AX 2, 9), (RNG_MSUB_AX 0, 7), (RNG_SVQ_Q, 5), (QUE_CFG_CAPL 5, 4), (QUE_CFG_PROD 5, 4), (QUE_CFG_BROKEN 5, 0), (QUE_ST_DEPTH 5, 0)]).onRing fun r => { r with missed := 0 }).onClk fun c => { c with running := true })), by decide +kernel⟩

theorem wit_RingMembers_32 : ∃ (dt : Nat) (p : Fin 2) (d : List Byte) (s : State), ((s.get RNG_ST_READY = 1 ∧ s.ring.clkLost = false) ∧ s.get RNG_CFG_ROLE = 2 ∧ s.portUp p = true) ∧ ((s.ring.bufs.filter (fun b => decide ((s.elapse dt).quarter < b.2))).length < 64) ∧ bit (leAt d 2 1) 0 = false ∧ 24 ≤ d.length ∧ leAt d 0x18 1 = s.get RNG_CFG_ADDR ∧ leAt d 0x19 1 = 4 ∧ s.ring.replies = [] ∧ s.ring.last = none ∧ s.svc.motions = [] ∧ s.pushCheck 4 (s.get RNG_SVQ_Q) = 1 ∧ s.qCap (s.get RNG_SVQ_Q) ≤ 32 ∧ s.get (QUE_ST_DEPTH (s.get RNG_SVQ_Q)) + 1 ≤ s.qCap (s.get RNG_SVQ_Q) ∧ (∃ b : Fin 32, b.val ∉ s.ring.svUse) ∧ frameOk (svData d) = true ∧ frameCmd (svData d) = 1 ∧ leAt (svData d) 6 2 = 0 :=
  ⟨(5), (0), ((ringHeader 2 0 7 0 0 none ++ svPayload 5 4 33 (svcFrame 1 0 0 12 []))), ((((st [(RNG_ST_READY, 1), (RNG_ST_BYP, 0), (RNG_CFG_ROLE, 2), (whole RNG_CYC, 100000), (CFG_STATE_STATE, 8), (RNG_ST_PA, 1), (RNG_ST_PB, 1), (RNG_CFG_ADDR, 5), (RNG_MSUB_AX 2, 9), (RNG_MSUB_AX 0, 7), (RNG_SVQ_Q, 5), (QUE_CFG_CAPL 5, 4), (QUE_CFG_PROD 5, 4), (QUE_CFG_BROKEN 5, 0), (QUE_ST_DEPTH 5, 0)]).onRing fun r => { r with missed := 0 }).onClk fun c => { c with running := true })), by decide +kernel⟩

theorem wit_RingMembers_33 : ∃ (dt : Nat) (p : Fin 2) (d : List Byte) (s : State), ((s.get RNG_ST_READY = 1 ∧ s.ring.clkLost = false) ∧ s.get RNG_CFG_ROLE = 2 ∧ s.portUp p = true) ∧ ((s.ring.bufs.filter (fun b => decide ((s.elapse dt).quarter < b.2))).length < 64) ∧ bit (leAt d 2 1) 0 = false ∧ 24 ≤ d.length ∧ leAt d 0x18 1 = s.get RNG_CFG_ADDR ∧ leAt d 0x19 1 = 4 ∧ s.ring.replies = [] ∧ s.ring.last = none ∧ s.svc.motions = [] ∧ s.pushCheck 4 (s.get RNG_SVQ_Q) = 1 ∧ s.qCap (s.get RNG_SVQ_Q) ≤ 32 ∧ s.get (QUE_ST_DEPTH (s.get RNG_SVQ_Q)) + 1 ≤ s.qCap (s.get RNG_SVQ_Q) ∧ (∃ b : Fin 32, b.val ∉ s.ring.svUse) ∧ frameOk (svData d) = true ∧ svcKnown (frameCmd (svData d)) = false :=
  ⟨(5), (0), ((ringHeader 2 0 7 0 0 none ++ svPayload 5 4 33 (svcFrame 99 0 0 12 []))), ((((st [(RNG_ST_READY, 1), (RNG_ST_BYP, 0), (RNG_CFG_ROLE, 2), (whole RNG_CYC, 100000), (CFG_STATE_STATE, 8), (RNG_ST_PA, 1), (RNG_ST_PB, 1), (RNG_CFG_ADDR, 5), (RNG_MSUB_AX 2, 9), (RNG_MSUB_AX 0, 7), (RNG_SVQ_Q, 5), (QUE_CFG_CAPL 5, 4), (QUE_CFG_PROD 5, 4), (QUE_CFG_BROKEN 5, 0), (QUE_ST_DEPTH 5, 0)]).onRing fun r => { r with missed := 0 }).onClk fun c => { c with running := true })), by decide +kernel⟩

theorem wit_RingMembers_34 : ∃ (dt : Nat) (p : Fin 2) (d : List Byte) (n : Fin 32) (s : State), ((s.get RNG_ST_READY = 1 ∧ s.ring.clkLost = false) ∧ s.get RNG_CFG_ROLE = 2 ∧ s.portUp p = true) ∧ ((s.ring.bufs.filter (fun b => decide ((s.elapse dt).quarter < b.2))).length < 64) ∧ bit (leAt d 2 1) 0 = false ∧ 24 ≤ d.length ∧ leAt d 0x18 1 = s.get RNG_CFG_ADDR ∧ leAt d 0x19 1 = 5 ∧ s.ring.replies = [] ∧ s.ring.last = none ∧ s.svc.motions = [] ∧ s.pushCheck 4 (s.get RNG_SVQ_Q) = 1 ∧ s.qCap (s.get RNG_SVQ_Q) ≤ 32 ∧ s.get (QUE_ST_DEPTH (s.get RNG_SVQ_Q)) + 1 ≤ s.qCap (s.get RNG_SVQ_Q) ∧ (∃ b : Fin 32, b.val ∉ s.ring.svUse) ∧ s.subAxis (leAt (svData d) 0 1) = some n.val :=
  ⟨(5), (0), ((ringHeader 2 0 7 0 0 none ++ svPayload 5 5 33 [2])), (9), ((((st [(RNG_ST_READY, 1), (RNG_ST_BYP, 0), (RNG_CFG_ROLE, 2), (whole RNG_CYC, 100000), (CFG_STATE_STATE, 8), (RNG_ST_PA, 1), (RNG_ST_PB, 1), (RNG_CFG_ADDR, 5), (RNG_MSUB_AX 2, 9), (RNG_MSUB_AX 0, 7), (PRF_AXST_CAUSE 9, 7), (RNG_SVQ_Q, 5), (QUE_CFG_CAPL 5, 4), (QUE_CFG_PROD 5, 4), (QUE_CFG_BROKEN 5, 0), (QUE_ST_DEPTH 5, 0)]).onRing fun r => { r with missed := 0 }).onClk fun c => { c with running := true })), by decide +kernel⟩

theorem wit_RingMembers_35 : ∃ (dt : Nat) (p : Fin 2) (d : List Byte) (s : State), ((s.get RNG_ST_READY = 1 ∧ s.ring.clkLost = false) ∧ s.get RNG_CFG_ROLE = 2 ∧ s.portUp p = true) ∧ ((s.ring.bufs.filter (fun b => decide ((s.elapse dt).quarter < b.2))).length < 64) ∧ bit (leAt d 2 1) 0 = false ∧ 24 ≤ d.length ∧ leAt d 0x18 1 = s.get RNG_CFG_ADDR ∧ leAt d 0x19 1 = 5 ∧ s.ring.replies = [] ∧ s.ring.last = none ∧ s.svc.motions = [] ∧ s.pushCheck 4 (s.get RNG_SVQ_Q) = 1 ∧ s.qCap (s.get RNG_SVQ_Q) ≤ 32 ∧ s.get (QUE_ST_DEPTH (s.get RNG_SVQ_Q)) + 1 ≤ s.qCap (s.get RNG_SVQ_Q) ∧ (∃ b : Fin 32, b.val ∉ s.ring.svUse) ∧ s.subAxis (leAt (svData d) 0 1) = none :=
  ⟨(5), (0), ((ringHeader 2 0 7 0 0 none ++ svPayload 5 5 33 [1])), ((((st [(RNG_ST_READY, 1), (RNG_ST_BYP, 0), (RNG_CFG_ROLE, 2), (whole RNG_CYC, 100000), (CFG_STATE_STATE, 8), (RNG_ST_PA, 1), (RNG_ST_PB, 1), (RNG_CFG_ADDR, 5), (RNG_MSUB_AX 2, 9), (RNG_MSUB_AX 0, 7), (RNG_SVQ_Q, 5), (QUE_CFG_CAPL 5, 4), (QUE_CFG_PROD 5, 4), (QUE_CFG_BROKEN 5, 0), (QUE_ST_DEPTH 5, 0)]).onRing fun r => { r with missed := 0 }).onClk fun c => { c with running := true })), by decide +kernel⟩

theorem wit_RingMembers_36 : ∃ (dt : Nat) (p : Fin 2) (d : List Byte) (s : State), ((s.get RNG_ST_READY = 1 ∧ s.ring.clkLost = false) ∧ s.get RNG_CFG_ROLE = 2 ∧ s.portUp p = true) ∧ ((s.ring.bufs.filter (fun b => decide ((s.elapse dt).quarter < b.2))).length < 64) ∧ bit (leAt d 2 1) 0 = false ∧ 24 ≤ d.length ∧ leAt d 0x18 1 = s.get RNG_CFG_ADDR ∧ s.get RNG_CFG_ADDR ≠ 0xFF ∧ leAt d 0x19 1 = 5 ∧ (s.ring.replies.any (fun x => decide (x.seq = leAt d 0x1C 2 ∧ x.mtype = 5 ∧ x.waits ≠ none)) = true) ∧ s.replyDue = none :=
  ⟨(5), (0), ((ringHeader 2 0 7 0 0 none ++ svPayload 5 5 33 [2])), ((((st [(RNG_ST_READY, 1), (RNG_ST_BYP, 0), (RNG_CFG_ROLE, 2), (whole RNG_CYC, 100000), (CFG_STATE_STATE, 8), (RNG_ST_PA, 1), (RNG_ST_PB, 1), (RNG_CFG_ADDR, 5), (RNG_MSUB_AX 2, 9), (RNG_MSUB_AX 0, 7), (PRF_AXST_PENDCMT 9, 1), (RNG_SVQ_Q, 5), (QUE_CFG_CAPL 5, 4), (QUE_CFG_PROD 5, 4), (QUE_CFG_BROKEN 5, 0), (QUE_ST_DEPTH 5, 0)]).onRing fun r => { r with replies := [⟨5, 33, 0, [], some 9⟩] }).onClk fun c => { c with running := true })), by decide +kernel⟩

theorem wit_RingMembers_37 : ∃ (dt : Nat) (p : Fin 2) (d : List Byte) (r : SvReply) (rest : List SvReply) (s : State), ((s.get RNG_ST_READY = 1 ∧ s.ring.clkLost = false) ∧ s.get RNG_CFG_ROLE = 2 ∧ s.portUp p = true) ∧ ((s.ring.bufs.filter (fun b => decide ((s.elapse dt).quarter < b.2))).length < 64) ∧ bit (leAt d 2 1) 0 = false ∧ s.portUp (1 - p.val) = true ∧ d.length = 1312 ∧ leAt d 0x18 1 = s.get RNG_CFG_ADDR ∧ leAt d 0x19 1 = 0 ∧ s.ring.replies = r :: rest ∧ r.waits = none ∧ r.restarts = false ∧ r.data.length ≤ 248 :=
  ⟨(5), (0), ((ringHeader 2 0 7 0 0 none ++ svPayload 5 0 33 [])), (⟨5, 33, 0, [7], none⟩), ([]), ((((st [(RNG_ST_READY, 1), (RNG_ST_BYP, 0), (RNG_CFG_ROLE, 2), (whole RNG_CYC, 100000), (CFG_STATE_STATE, 8), (RNG_ST_PA, 1), (RNG_ST_PB, 1), (RNG_CFG_ADDR, 5), (RNG_MSUB_AX 2, 9), (RNG_MSUB_AX 0, 7), (RNG_SVQ_Q, 5), (QUE_CFG_CAPL 5, 4), (QUE_CFG_PROD 5, 4), (QUE_CFG_BROKEN 5, 0), (QUE_ST_DEPTH 5, 0)]).onRing fun r => { r with replies := [⟨5, 33, 0, [7], none⟩] }).onClk fun c => { c with running := true })), by decide +kernel⟩

theorem wit_RingMembers_38 : ∃ (dt : Nat) (p : Fin 2) (d : List Byte) (s : State), ((s.get RNG_ST_READY = 1 ∧ s.ring.clkLost = false) ∧ s.get RNG_CFG_ROLE = 2 ∧ s.portUp p = true) ∧ ((s.ring.bufs.filter (fun b => decide ((s.elapse dt).quarter < b.2))).length < 64) ∧ bit (leAt d 2 1) 0 = false ∧ 24 ≤ d.length ∧ leAt d 0x18 1 = s.get RNG_CFG_ADDR ∧ leAt d 0x19 1 = 9 ∧ s.ring.replies = [] ∧ s.ring.last = none ∧ s.svc.motions = [] ∧ s.pushCheck 4 (s.get RNG_SVQ_Q) = 1 ∧ s.qCap (s.get RNG_SVQ_Q) ≤ 32 ∧ s.get (QUE_ST_DEPTH (s.get RNG_SVQ_Q)) + 1 ≤ s.qCap (s.get RNG_SVQ_Q) ∧ (∃ b : Fin 32, b.val ∉ s.ring.svUse) :=
  ⟨(5), (0), ((ringHeader 2 0 7 0 0 none ++ svPayload 5 9 33 [])), ((((st [(RNG_ST_READY, 1), (RNG_ST_BYP, 0), (RNG_CFG_ROLE, 2), (whole RNG_CYC, 100000), (CFG_STATE_STATE, 8), (RNG_ST_PA, 1), (RNG_ST_PB, 1), (RNG_CFG_ADDR, 5), (RNG_MSUB_AX 2, 9), (RNG_MSUB_AX 0, 7), (RNG_SVQ_Q, 5), (QUE_CFG_CAPL 5, 4), (QUE_CFG_PROD 5, 4), (QUE_CFG_BROKEN 5, 0), (QUE_ST_DEPTH 5, 0)]).onRing fun r => { r with missed := 0 }).onClk fun c => { c with running := true })), by decide +kernel⟩

theorem wit_RingMembers_39 : ∃ (dt : Nat) (p : Fin 2) (ok : Bool) (d : List Byte) (s : State), 0 < leAt d 0x19 1 ∧ leAt d 0x19 1 ≤ 5 :=
  ⟨(5), (0), (true), ((ringHeader 2 0 7 0 0 none ++ svPayload 5 2 33 [])), ((((st [(RNG_ST_READY, 1), (RNG_ST_BYP, 0), (RNG_CFG_ROLE, 2), (whole RNG_CYC, 100000), (CFG_STATE_STATE, 8), (RNG_ST_PA, 1), (RNG_ST_PB, 1), (RNG_CFG_ADDR, 5), (RNG_MSUB_AX 2, 9), (RNG_MSUB_AX 0, 7)]).onRing fun r => { r with missed := 0 }).onClk fun c => { c with running := true })), by decide +kernel⟩

theorem wit_RingMembers_40 : ∃ (dt : Nat) (p : Fin 2) (ok : Bool) (d : List Byte) (m : Fin 255) (s : State), (leAt d 0x19 1 = 0 ∨ 5 < leAt d 0x19 1) ∧ s.get RNG_CFG_ROLE = 1 ∧ (s.get RNG_ST_READY = 1 ∧ s.ring.clkLost = false) ∧ leAt d 0x18 1 = m.val :=
  ⟨(5), (0), (true), ((ringHeader 2 0 7 0 0 none ++ svPayload 5 0 33 [])), (5), ((((st [(RNG_ST_READY, 1), (RNG_ST_BYP, 0), (RNG_CFG_ROLE, 1), (whole RNG_CYC, 100000), (CFG_STATE_STATE, 8), (RNG_ST_PA, 1), (RNG_ST_PB, 1)]).onRing fun r => { r with judged := true }).onClk fun c => { c with running := true })), by decide +kernel⟩

theorem wit_RingMembers_41 : ∃ (dt : Nat) (p : Fin 2) (ok : Bool) (d : List Byte) (s : State), leAt d 0x19 1 ≠ 1 :=
  ⟨(5), (0), (true), ((ringHeader 2 0 7 0 0 none ++ svPayload 5 2 33 [])), ((((st [(RNG_ST_READY, 1), (RNG_ST_BYP, 0), (RNG_CFG_ROLE, 2), (whole RNG_CYC, 100000), (CFG_STATE_STATE, 8), (RNG_ST_PA, 1), (RNG_ST_PB, 1), (RNG_CFG_ADDR, 5), (RNG_MSUB_AX 2, 9), (RNG_MSUB_AX 0, 7)]).onRing fun r => { r with missed := 0 }).onClk fun c => { c with running := true })), by decide +kernel⟩

theorem wit_RingMembers_42 : ∃ (dt : Nat) (p : Fin 2) (ok : Bool) (d : List Byte) (m : Fin 255) (s : State), leAt d 0x19 1 = 1 ∧ s.get RNG_CFG_ROLE = 1 ∧ (s.get RNG_ST_READY = 1 ∧ s.ring.clkLost = false) ∧ leAt d 0x18 1 = m.val :=
  ⟨(5), (0), (true), ((ringHeader 2 0 7 0 0 none ++ svPayload 5 1 33 [])), (5), ((((st [(RNG_ST_READY, 1), (RNG_ST_BYP, 0), (RNG_CFG_ROLE, 1), (whole RNG_CYC, 100000), (CFG_STATE_STATE, 8), (RNG_ST_PA, 1), (RNG_ST_PB, 1)]).onRing fun r => { r with judged := true }).onClk fun c => { c with running := true })), by decide +kernel⟩

theorem wit_RingMembers_43 : ∃ (dt : Nat) (p : Fin 2) (ok : Bool) (d : List Byte) (s : State), leAt d 0x19 1 ≠ 2 :=
  ⟨(5), (0), (true), ((ringHeader 2 0 7 0 0 none ++ svPayload 5 3 33 [])), ((((st [(RNG_ST_READY, 1), (RNG_ST_BYP, 0), (RNG_CFG_ROLE, 2), (whole RNG_CYC, 100000), (CFG_STATE_STATE, 8), (RNG_ST_PA, 1), (RNG_ST_PB, 1), (RNG_CFG_ADDR, 5), (RNG_MSUB_AX 2, 9), (RNG_MSUB_AX 0, 7)]).onRing fun r => { r with missed := 0 }).onClk fun c => { c with running := true })), by decide +kernel⟩

theorem wit_RingMembers_44 : ∃ (dt : Nat) (p : Fin 2) (ok : Bool) (d : List Byte) (m : Fin 255) (s : State), leAt d 0x19 1 = 2 ∧ s.get RNG_CFG_ROLE = 1 ∧ (s.get RNG_ST_READY = 1 ∧ s.ring.clkLost = false) ∧ leAt d 0x18 1 = m.val :=
  ⟨(5), (0), (true), ((ringHeader 2 0 7 0 0 none ++ svPayload 5 2 33 [])), (5), ((((st [(RNG_ST_READY, 1), (RNG_ST_BYP, 0), (RNG_CFG_ROLE, 1), (whole RNG_CYC, 100000), (CFG_STATE_STATE, 8), (RNG_ST_PA, 1), (RNG_ST_PB, 1)]).onRing fun r => { r with judged := true }).onClk fun c => { c with running := true })), by decide +kernel⟩

theorem wit_RingMembers_45 : ∃ (dt : Nat) (p : Fin 2) (ok : Bool) (d : List Byte) (s : State), leAt d 0x19 1 ≠ 3 :=
  ⟨(5), (0), (true), ((ringHeader 2 0 7 0 0 none ++ svPayload 5 2 33 [])), ((((st [(RNG_ST_READY, 1), (RNG_ST_BYP, 0), (RNG_CFG_ROLE, 2), (whole RNG_CYC, 100000), (CFG_STATE_STATE, 8), (RNG_ST_PA, 1), (RNG_ST_PB, 1), (RNG_CFG_ADDR, 5), (RNG_MSUB_AX 2, 9), (RNG_MSUB_AX 0, 7)]).onRing fun r => { r with missed := 0 }).onClk fun c => { c with running := true })), by decide +kernel⟩

theorem wit_RingMembers_46 : ∃ (dt : Nat) (p : Fin 2) (ok : Bool) (d : List Byte) (m : Fin 255) (s : State), leAt d 0x19 1 = 3 ∧ s.get RNG_CFG_ROLE = 1 ∧ (s.get RNG_ST_READY = 1 ∧ s.ring.clkLost = false) ∧ leAt d 0x18 1 = m.val :=
  ⟨(5), (0), (true), ((ringHeader 2 0 7 0 0 none ++ svPayload 5 3 33 [])), (5), ((((st [(RNG_ST_READY, 1), (RNG_ST_BYP, 0), (RNG_CFG_ROLE, 1), (whole RNG_CYC, 100000), (CFG_STATE_STATE, 8), (RNG_ST_PA, 1), (RNG_ST_PB, 1)]).onRing fun r => { r with judged := true }).onClk fun c => { c with running := true })), by decide +kernel⟩

theorem wit_RingMembers_47 : ∃ (dt : Nat) (p : Fin 2) (ok : Bool) (d : List Byte) (s : State), leAt d 0x19 1 ≠ 4 :=
  ⟨(5), (0), (true), ((ringHeader 2 0 7 0 0 none ++ svPayload 5 2 33 [])), ((((st [(RNG_ST_READY, 1), (RNG_ST_BYP, 0), (RNG_CFG_ROLE, 2), (whole RNG_CYC, 100000), (CFG_STATE_STATE, 8), (RNG_ST_PA, 1), (RNG_ST_PB, 1), (RNG_CFG_ADDR, 5), (RNG_MSUB_AX 2, 9), (RNG_MSUB_AX 0, 7)]).onRing fun r => { r with missed := 0 }).onClk fun c => { c with running := true })), by decide +kernel⟩

theorem wit_RingMembers_48 : ∃ (dt : Nat) (p : Fin 2) (ok : Bool) (d : List Byte) (m : Fin 255) (s : State), leAt d 0x19 1 = 4 ∧ s.get RNG_CFG_ROLE = 1 ∧ (s.get RNG_ST_READY = 1 ∧ s.ring.clkLost = false) ∧ leAt d 0x18 1 = m.val :=
  ⟨(5), (0), (true), ((ringHeader 2 0 7 0 0 none ++ svPayload 5 4 33 [])), (5), ((((st [(RNG_ST_READY, 1), (RNG_ST_BYP, 0), (RNG_CFG_ROLE, 1), (whole RNG_CYC, 100000), (CFG_STATE_STATE, 8), (RNG_ST_PA, 1), (RNG_ST_PB, 1)]).onRing fun r => { r with judged := true }).onClk fun c => { c with running := true })), by decide +kernel⟩

theorem wit_RingMembers_49 : ∃ (dt : Nat) (p : Fin 2) (ok : Bool) (d : List Byte) (s : State), leAt d 0x19 1 ≠ 5 :=
  ⟨(5), (0), (true), ((ringHeader 2 0 7 0 0 none ++ svPayload 5 2 33 [])), ((((st [(RNG_ST_READY, 1), (RNG_ST_BYP, 0), (RNG_CFG_ROLE, 2), (whole RNG_CYC, 100000), (CFG_STATE_STATE, 8), (RNG_ST_PA, 1), (RNG_ST_PB, 1), (RNG_CFG_ADDR, 5), (RNG_MSUB_AX 2, 9), (RNG_MSUB_AX 0, 7)]).onRing fun r => { r with missed := 0 }).onClk fun c => { c with running := true })), by decide +kernel⟩

theorem wit_RingMembers_50 : ∃ (dt : Nat) (p : Fin 2) (ok : Bool) (d : List Byte) (m : Fin 255) (s : State), leAt d 0x19 1 = 5 ∧ s.get RNG_CFG_ROLE = 1 ∧ (s.get RNG_ST_READY = 1 ∧ s.ring.clkLost = false) ∧ leAt d 0x18 1 = m.val :=
  ⟨(5), (0), (true), ((ringHeader 2 0 7 0 0 none ++ svPayload 5 5 33 [])), (5), ((((st [(RNG_ST_READY, 1), (RNG_ST_BYP, 0), (RNG_CFG_ROLE, 1), (whole RNG_CYC, 100000), (CFG_STATE_STATE, 8), (RNG_ST_PA, 1), (RNG_ST_PB, 1)]).onRing fun r => { r with judged := true }).onClk fun c => { c with running := true })), by decide +kernel⟩

theorem wit_RingMembers_51 : ∃ (dt : Nat) (p : Fin 2) (cyc turn : BitVec 32) (q : Fin 4) (t1 : Nat) (v : Nat) (l : List Nat) (s : State), tabFind s.tim.t1 p = some (cyc.toNat, t1) ∧ (((s.elapse dt).now256 : Int) + 64 * q.val - t1 - turn.toNat) / 2 = (v : Int) ∧ v ≤ 256000 ∧ tabGet [] s.tim.delays p = l ∧ l.length < 16 :=
  ⟨(10), (1), (7), (60), (1), (100), (1232), ([300, 400]), (((State.reset.onTim fun t => { t with t1 := [(1, (7, 100))], delays := [(1, [300, 400])] }).onClk fun c => { c with running := true })), by decide +kernel⟩

theorem wit_RingMembers_52 : ∃ (dt : Nat) (p : Fin 2) (cyc turn : BitVec 32) (q : Fin 4) (t1 : Nat) (v : Nat) (x : Nat) (l : List Nat) (s : State), tabFind s.tim.t1 p = some (cyc.toNat, t1) ∧ (((s.elapse dt).now256 : Int) + 64 * q.val - t1 - turn.toNat) / 2 = (v : Int) ∧ v ≤ 256000 ∧ tabGet [] s.tim.delays p = x :: l ∧ l.length = 15 :=
  ⟨(10), (1), (7), (60), (1), (100), (1232), (9), (List.replicate 15 400), (((State.reset.onTim fun t => { t with t1 := [(1, (7, 100))], delays := [(1, 9 :: List.replicate 15 400)] }).onClk fun c => { c with running := true })), by decide +kernel⟩

theorem wit_RingMembers_53 : ∃ (dt : Nat) (p : Fin 2) (cyc turn : BitVec 32) (q : Fin 4) (t1 : Nat) (s : State), tabFind s.tim.t1 p = some (cyc.toNat, t1) ∧ ((((s.elapse dt).now256 : Int) + 64 * q.val - t1 - turn.toNat) / 2 < 0 ∨ 256000 < (((s.elapse dt).now256 : Int) + 64 * q.val - t1 - turn.toNat) / 2) :=
  ⟨(10), (1), (7), (60000), (1), (100), (((State.reset.onTim fun t => { t with t1 := [(1, (7, 100))], delays := [(1, [300, 400])] }).onClk fun c => { c with running := true })), by decide +kernel⟩

theorem wit_RingMembers_54 : ∃ (dt : Nat) (p : Fin 2) (cyc turn : BitVec 32) (q : Fin 4) (s : State), (tabFind s.tim.t1 p = none ∨ (tabFind s.tim.t1 p).map (fun e => e.1) ≠ some cyc.toNat) :=
  ⟨(10), (1), (8), (60000), (1), (((State.reset.onTim fun t => { t with t1 := [(1, (7, 100))], delays := [(1, [300, 400])] }).onClk fun c => { c with running := true })), by decide +kernel⟩

theorem wit_TimeSamples_1 : ∃ (dt : Nat) (dom : BitVec 8) (ck : BitVec 64) (port seq : BitVec 16) (sec : BitVec 48) (ns : BitVec 32) (corr : BitVec 64) (k : BitVec 8) (v th : Int) (s : State), (s.get TIM_CFG_SRC = 2 ∧ s.get TIM_PTP_DOMAIN = dom.toNat ∧ s.tim.parent = some (ck.toNat, port.toNat)) ∧ (-7 ≤ k.toInt ∧ k.toInt ≤ 1) ∧ s.tim.delay = some v ∧ (((s.elapse dt).now16 : Int) - (ptpTime sec.toNat ns.toNat + corr.toInt) - v) / 256 = th ∧ s.get TIM_ST_STATE = 2 ∧ th.natAbs ≤ s.rd TIM_JMP * 256 :=
  ⟨(1000), (3), (9), (1), (7), (0), (996), (0), (0xFD#8), (65536), (768), ((((st [(TIM_CFG_SRC, 2), (TIM_PTP_DOMAIN, 3), (TIM_ST_STATE, 2), (TIM_CFG_KI, 4), (TIM_CFG_KP, 2), (TIM_CFG_OUTMAX, 3), (whole TIM_RATE, 0), (whole TIM_JMP, 50), (TIM_ST_OUTRUN, 2)]).onTim fun t => { t with parent := some (9, 1), delay := some 65536 }).onClk fun c => { c with running := true })), by decide +kernel⟩

theorem wit_TimeSamples_2 : ∃ (dt : Nat) (dom : BitVec 8) (ck : BitVec 64) (port seq : BitVec 16) (sec : BitVec 48) (ns : BitVec 32) (corr : BitVec 64) (k : BitVec 8) (v th : Int) (s : State), (s.get TIM_CFG_SRC = 2 ∧ s.get TIM_PTP_DOMAIN = dom.toNat ∧ s.tim.parent = some (ck.toNat, port.toNat)) ∧ (-7 ≤ k.toInt ∧ k.toInt ≤ 1) ∧ s.tim.delay = some v ∧ (((s.elapse dt).now16 : Int) - (ptpTime sec.toNat ns.toNat + corr.toInt) - v) / 256 = th ∧ s.get TIM_ST_STATE = 2 ∧ s.rd TIM_JMP * 256 < th.natAbs ∧ min (s.get TIM_ST_OUTRUN + 1) 255 < s.get TIM_CFG_OUTMAX :=
  ⟨(1000), (3), (9), (1), (7), (0), (900), (0), (0xFD#8), (65536), (25344), ((((st [(TIM_CFG_SRC, 2), (TIM_PTP_DOMAIN, 3), (TIM_ST_STATE, 2), (TIM_CFG_KI, 4), (TIM_CFG_KP, 2), (TIM_CFG_OUTMAX, 3), (whole TIM_RATE, 0), (whole TIM_JMP, 50), (TIM_ST_OUTRUN, 1)]).onTim fun t => { t with parent := some (9, 1), delay := some 65536 }).onClk fun c => { c with running := true })), by decide +kernel⟩

theorem wit_TimeSamples_3 : ∃ (dt : Nat) (dom : BitVec 8) (ck : BitVec 64) (port seq : BitVec 16) (sec : BitVec 48) (ns : BitVec 32) (corr : BitVec 64) (k : BitVec 8) (v th : Int) (s : State), (s.get TIM_CFG_SRC = 2 ∧ s.get TIM_PTP_DOMAIN = dom.toNat ∧ s.tim.parent = some (ck.toNat, port.toNat)) ∧ (-7 ≤ k.toInt ∧ k.toInt ≤ 1) ∧ s.tim.delay = some v ∧ (((s.elapse dt).now16 : Int) - (ptpTime sec.toNat ns.toNat + corr.toInt) - v) / 256 = th ∧ (s.get TIM_ST_STATE = 2 ∨ s.get TIM_ST_STATE = 4) ∧ s.rd TIM_JMP * 256 < th.natAbs ∧ s.get TIM_CFG_OUTMAX ≤ min (s.get TIM_ST_OUTRUN + 1) 255 :=
  ⟨(1000), (3), (9), (1), (7), (0), (900), (0), (0xFD#8), (65536), (25344), ((((st [(TIM_CFG_SRC, 2), (TIM_PTP_DOMAIN, 3), (TIM_ST_STATE, 2), (TIM_CFG_KI, 4), (TIM_CFG_KP, 2), (TIM_CFG_OUTMAX, 3), (whole TIM_RATE, 0), (whole TIM_JMP, 50), (TIM_ST_OUTRUN, 2)]).onTim fun t => { t with parent := some (9, 1), delay := some 65536 }).onClk fun c => { c with running := true })), by decide +kernel⟩

theorem wit_TimeSamples_4 : ∃ (dt : Nat) (dom : BitVec 8) (ck : BitVec 64) (port seq : BitVec 16) (sec : BitVec 48) (ns : BitVec 32) (corr : BitVec 64) (k : BitVec 8) (v th : Int) (s : State), (s.get TIM_CFG_SRC = 2 ∧ s.get TIM_PTP_DOMAIN = dom.toNat ∧ s.tim.parent = some (ck.toNat, port.toNat)) ∧ (-7 ≤ k.toInt ∧ k.toInt ≤ 1) ∧ s.tim.delay = some v ∧ (((s.elapse dt).now16 : Int) - (ptpTime sec.toNat ns.toNat + corr.toInt) - v) / 256 = th ∧ s.get TIM_ST_STATE = 4 ∧ th.natAbs ≤ s.rd TIM_JMP * 256 :=
  ⟨(1000), (3), (9), (1), (7), (0), (996), (0), (0xFD#8), (65536), (768), ((((st [(TIM_CFG_SRC, 2), (TIM_PTP_DOMAIN, 3), (TIM_ST_STATE, 4), (TIM_CFG_KI, 4), (TIM_CFG_KP, 2), (TIM_CFG_OUTMAX, 3), (whole TIM_RATE, 0), (whole TIM_JMP, 50)]).onTim fun t => { t with parent := some (9, 1), delay := some 65536 }).onClk fun c => { c with running := true })), by decide +kernel⟩

theorem wit_TimeSamples_5 : ∃ (dt : Nat) (dom : BitVec 8) (ck : BitVec 64) (port seq : BitVec 16) (sec : BitVec 48) (ns : BitVec 32) (corr : BitVec 64) (k : BitVec 8) (v th : Int) (s : State), (s.get TIM_CFG_SRC = 2 ∧ s.get TIM_PTP_DOMAIN = dom.toNat ∧ s.tim.parent = some (ck.toNat, port.toNat)) ∧ (-7 ≤ k.toInt ∧ k.toInt ≤ 1) ∧ s.tim.delay = some v ∧ (((s.elapse dt).now16 : Int) - (ptpTime sec.toNat ns.toNat + corr.toInt) - v) / 256 = th ∧ s.get TIM_ST_STATE = 3 ∧ th.natAbs ≤ s.rd TIM_JMP * 256 :=
  ⟨(1000), (3), (9), (1), (7), (0), (996), (0), (0xFD#8), (65536), (768), ((((st [(TIM_CFG_SRC, 2), (TIM_PTP_DOMAIN, 3), (TIM_ST_STATE, 3), (TIM_CFG_KI, 4), (TIM_CFG_KP, 2), (TIM_CFG_OUTMAX, 3), (whole TIM_RATE, 0), (whole TIM_JMP, 50)]).onTim fun t => { t with parent := some (9, 1), delay := some 65536 }).onClk fun c => { c with running := true })), by decide +kernel⟩

theorem wit_TimeSamples_6 : ∃ (dt : Nat) (dom : BitVec 8) (ck : BitVec 64) (port seq : BitVec 16) (sec : BitVec 48) (ns : BitVec 32) (corr : BitVec 64) (k : BitVec 8) (v th : Int) (s : State), (s.get TIM_CFG_SRC = 2 ∧ s.get TIM_PTP_DOMAIN = dom.toNat ∧ s.tim.parent = some (ck.toNat, port.toNat)) ∧ (-7 ≤ k.toInt ∧ k.toInt ≤ 1) ∧ s.tim.delay = some v ∧ (((s.elapse dt).now16 : Int) - (ptpTime sec.toNat ns.toNat + corr.toInt) - v) / 256 = th ∧ s.get TIM_ST_STATE = 3 ∧ s.rd TIM_JMP * 256 < th.natAbs :=
  ⟨(1000), (3), (9), (1), (7), (0), (900), (0), (0xFD#8), (65536), (25344), ((((st [(TIM_CFG_SRC, 2), (TIM_PTP_DOMAIN, 3), (TIM_ST_STATE, 3), (TIM_CFG_KI, 4), (TIM_CFG_KP, 2), (TIM_CFG_OUTMAX, 3), (whole TIM_RATE, 0), (whole TIM_JMP, 50)]).onTim fun t => { t with parent := some (9, 1), delay := some 65536 }).onClk fun c => { c with running := true })), by decide +kernel⟩

theorem wit_TimeSamples_7 : ∃ (dt : Nat) (dom : BitVec 8) (ck : BitVec 64) (port seq : BitVec 16) (sec : BitVec 48) (ns : BitVec 32) (corr : BitVec 64) (k : BitVec 8) (v th : Int) (s : State), (s.get TIM_CFG_SRC = 2 ∧ s.get TIM_PTP_DOMAIN = dom.toNat ∧ s.tim.parent = some (ck.toNat, port.toNat)) ∧ (-7 ≤ k.toInt ∧ k.toInt ≤ 1) ∧ s.tim.delay = some v ∧ (((s.elapse dt).now16 : Int) - (ptpTime sec.toNat ns.toNat + corr.toInt) - v) / 256 = th ∧ s.get TIM_ST_STATE = 0 ∧ s.tim.qual < 4 :=
  ⟨(1000), (3), (9), (1), (7), (0), (996), (0), (0xFD#8), (65536), (768), ((((st [(TIM_CFG_SRC, 2), (TIM_PTP_DOMAIN, 3), (TIM_ST_STATE, 0), (TIM_CFG_KI, 4), (TIM_CFG_KP, 2), (TIM_CFG_OUTMAX, 3), (whole TIM_RATE, 0), (whole TIM_JMP, 50)]).onTim fun t => { t with parent := some (9, 1), delay := some 65536, qual := 3 }).onClk fun c => { c with running := true })), by decide +kernel⟩

theorem wit_TimeSamples_8 : ∃ (dt : Nat) (dom : BitVec 8) (ck : BitVec 64) (port seq : BitVec 16) (sec : BitVec 48) (ns : BitVec 32) (corr : BitVec 64) (k : BitVec 8) (v th : Int) (s : State), (s.get TIM_CFG_SRC = 2 ∧ s.get TIM_PTP_DOMAIN = dom.toNat ∧ s.tim.parent = some (ck.toNat, port.toNat)) ∧ (-7 ≤ k.toInt ∧ k.toInt ≤ 1) ∧ s.tim.delay = some v ∧ (((s.elapse dt).now16 : Int) - (ptpTime sec.toNat ns.toNat + corr.toInt) - v) / 256 = th ∧ s.get TIM_ST_STATE = 0 ∧ 4 ≤ s.tim.qual ∧ th.natAbs ≤ s.rd TIM_JMP * 256 :=
  ⟨(1000), (3), (9), (1), (7), (0), (996), (0), (0xFD#8), (65536), (768), ((((st [(TIM_CFG_SRC, 2), (TIM_PTP_DOMAIN, 3), (TIM_ST_STATE, 0), (TIM_CFG_KI, 4), (TIM_CFG_KP, 2), (TIM_CFG_OUTMAX, 3), (whole TIM_RATE, 0), (whole TIM_JMP, 50)]).onTim fun t => { t with parent := some (9, 1), delay := some 65536, qual := 4 }).onClk fun c => { c with running := true })), by decide +kernel⟩

theorem wit_TimeSamples_9 : ∃ (dt : Nat) (dom : BitVec 8) (ck : BitVec 64) (port seq : BitVec 16) (sec : BitVec 48) (ns : BitVec 32) (corr : BitVec 64) (k : BitVec 8) (v th : Int) (s : State), (s.get TIM_CFG_SRC = 2 ∧ s.get TIM_PTP_DOMAIN = dom.toNat ∧ s.tim.parent = some (ck.toNat, port.toNat)) ∧ (-7 ≤ k.toInt ∧ k.toInt ≤ 1) ∧ s.tim.delay = some v ∧ (((s.elapse dt).now16 : Int) - (ptpTime sec.toNat ns.toNat + corr.toInt) - v) / 256 = th ∧ s.get TIM_ST_STATE = 0 ∧ 4 ≤ s.tim.qual ∧ s.rd TIM_JMP * 256 < th.natAbs :=
  ⟨(1000), (3), (9), (1), (7), (0), (900), (0), (0xFD#8), (65536), (25344), ((((st [(TIM_CFG_SRC, 2), (TIM_PTP_DOMAIN, 3), (TIM_ST_STATE, 0), (TIM_CFG_KI, 4), (TIM_CFG_KP, 2), (TIM_CFG_OUTMAX, 3), (whole TIM_RATE, 0), (whole TIM_JMP, 50)]).onTim fun t => { t with parent := some (9, 1), delay := some 65536, qual := 4 }).onClk fun c => { c with running := true })), by decide +kernel⟩

theorem wit_TimeSamples_10 : ∃ (dt : Nat) (dom : BitVec 8) (ck : BitVec 64) (port seq : BitVec 16) (sec : BitVec 48) (ns : BitVec 32) (corr : BitVec 64) (k : BitVec 8) (v th : Int) (s : State), (s.get TIM_CFG_SRC = 2 ∧ s.get TIM_PTP_DOMAIN = dom.toNat ∧ s.tim.parent = some (ck.toNat, port.toNat)) ∧ (-7 ≤ k.toInt ∧ k.toInt ≤ 1) ∧ s.tim.delay = some v ∧ (((s.elapse dt).now16 : Int) - (ptpTime sec.toNat ns.toNat + corr.toInt) - v) / 256 = th ∧ s.get TIM_ST_STATE = 1 ∧ s.stepAllowed = false :=
  ⟨(1000), (3), (9), (1), (7), (0), (900), (0), (0xFD#8), (65536), (25344), ((((st [(TIM_CFG_SRC, 2), (TIM_PTP_DOMAIN, 3), (TIM_ST_STATE, 1), (TIM_CFG_KI, 4), (TIM_CFG_KP, 2), (TIM_CFG_OUTMAX, 3), (whole TIM_RATE, 0), (whole TIM_JMP, 50), (PRF_AXST_STATE 3, 2)]).onTim fun t => { t with parent := some (9, 1), delay := some 65536 }).onClk fun c => { c with running := true })), by decide +kernel⟩

theorem wit_TimeSamples_11 : ∃ (dt : Nat) (dom : BitVec 8) (ck : BitVec 64) (port seq : BitVec 16) (sec : BitVec 48) (ns : BitVec 32) (corr : BitVec 64) (k : BitVec 8) (v th : Int) (s : State), (s.get TIM_CFG_SRC = 2 ∧ s.get TIM_PTP_DOMAIN = dom.toNat ∧ s.tim.parent = some (ck.toNat, port.toNat)) ∧ (-7 ≤ k.toInt ∧ k.toInt ≤ 1) ∧ s.tim.delay = some v ∧ (((s.elapse dt).now16 : Int) - (ptpTime sec.toNat ns.toNat + corr.toInt) - v) / 256 = th ∧ s.get TIM_ST_STATE = 1 ∧ s.stepAllowed = true ∧ (th.natAbs : Int) ≤ (s.elapse dt).now * 256 ∧ (s.elapse dt).now + 10 ^ 9 < 2 ^ 48 * 10 ^ 9 :=
  ⟨(1000), (3), (9), (1), (7), (0), (900), (0), (0xFD#8), (65536), (25344), ((((st [(TIM_CFG_SRC, 2), (TIM_PTP_DOMAIN, 3), (TIM_ST_STATE, 1), (TIM_CFG_KI, 4), (TIM_CFG_KP, 2), (TIM_CFG_OUTMAX, 3), (whole TIM_RATE, 0), (whole TIM_JMP, 50), (TIM_ST_PERMIT, 1)]).onTim fun t => { t with parent := some (9, 1), delay := some 65536 }).onClk fun c => { c with running := true })), by decide +kernel⟩

theorem wit_TimeSamples_12 : ∃ (dt : Nat) (dom : BitVec 8) (ck : BitVec 64) (port seq : BitVec 16) (sec : BitVec 48) (ns : BitVec 32) (corr : BitVec 64) (k : BitVec 8) (two : Bool) (s : State), (¬ (s.get TIM_CFG_SRC = 2 ∧ s.get TIM_PTP_DOMAIN = dom.toNat ∧ s.tim.parent = some (ck.toNat, port.toNat)) ∨ ¬ (-7 ≤ k.toInt ∧ k.toInt ≤ 1)) :=
  ⟨(1000), (3), (9), (1), (7), (0), (900), (0), (2), (false), ((((st [(TIM_CFG_SRC, 2), (TIM_PTP_DOMAIN, 3), (TIM_ST_STATE, 2), (TIM_CFG_KI, 4), (TIM_CFG_KP, 2), (TIM_CFG_OUTMAX, 3), (whole TIM_RATE, 0), (whole TIM_JMP, 50)]).onTim fun t => { t with parent := some (9, 1), delay := some 65536 }).onClk fun c => { c with running := true })), by decide +kernel⟩

theorem wit_TimeSamples_13 : ∃ (dt : Nat) (dom : BitVec 8) (ck : BitVec 64) (port seq : BitVec 16) (sec : BitVec 48) (ns : BitVec 32) (corr : BitVec 64) (k : BitVec 8) (s : State), (s.get TIM_CFG_SRC = 2 ∧ s.get TIM_PTP_DOMAIN = dom.toNat ∧ s.tim.parent = some (ck.toNat, port.toNat)) ∧ (-7 ≤ k.toInt ∧ k.toInt ≤ 1) :=
  ⟨(1000), (3), (9), (1), (7), (0), (900), (0), (0xFD#8), ((((st [(TIM_CFG_SRC, 2), (TIM_PTP_DOMAIN, 3), (TIM_ST_STATE, 2), (TIM_CFG_KI, 4), (TIM_CFG_KP, 2), (TIM_CFG_OUTMAX, 3), (whole TIM_RATE, 0), (whole TIM_JMP, 50)]).onTim fun t => { t with parent := some (9, 1), delay := some 65536 }).onClk fun c => { c with running := true })), by decide +kernel⟩

theorem wit_TimeSamples_14 : ∃ (dt : Nat) (dom : BitVec 8) (ck : BitVec 64) (port seq : BitVec 16) (sec : BitVec 48) (ns : BitVec 32) (corr : BitVec 64) (k : BitVec 8) (s : State), (s.get TIM_CFG_SRC = 2 ∧ s.get TIM_PTP_DOMAIN = dom.toNat ∧ s.tim.parent = some (ck.toNat, port.toNat)) ∧ (-7 ≤ k.toInt ∧ k.toInt ≤ 1) ∧ s.tim.delay = none :=
  ⟨(1000), (3), (9), (1), (7), (0), (900), (0), (0xFD#8), ((((st [(TIM_CFG_SRC, 2), (TIM_PTP_DOMAIN, 3), (TIM_ST_STATE, 2), (TIM_CFG_KI, 4), (TIM_CFG_KP, 2), (TIM_CFG_OUTMAX, 3), (whole TIM_RATE, 0), (whole TIM_JMP, 50)]).onTim fun t => { t with parent := some (9, 1), delay := none }).onClk fun c => { c with running := true })), by decide +kernel⟩

theorem wit_TimeSamples_15 : ∃ (dt : Nat) (dom : BitVec 8) (ck : BitVec 64) (port seq : BitVec 16) (sec : BitVec 48) (ns : BitVec 32) (corr : BitVec 64) (t2 c v th : Int) (ts : Nat) (s : State), (s.get TIM_CFG_SRC = 2 ∧ s.get TIM_PTP_DOMAIN = dom.toNat ∧ s.tim.parent = some (ck.toNat, port.toNat)) ∧ s.tim.sync = some (seq.toNat, t2, c, ts) ∧ s.tim.delay = some v ∧ (t2 - (ptpTime sec.toNat ns.toNat + c + corr.toInt) - v) / 256 = th ∧ s.get TIM_ST_STATE = 3 ∧ s.rd TIM_JMP * 256 < th.natAbs :=
  ⟨(1000), (3), (9), (1), (7), (0), (900), (0), (59000000), (0), (65536), (-188), (125000000), ((((st [(TIM_CFG_SRC, 2), (TIM_PTP_DOMAIN, 3), (TIM_ST_STATE, 3), (TIM_CFG_KI, 4), (TIM_CFG_KP, 2), (TIM_CFG_OUTMAX, 3), (whole TIM_RATE, 0), (whole TIM_JMP, 50), (whole TIM_JMP, 0)]).onTim fun t => { t with parent := some (9, 1), delay := some 65536, sync := some (7, 59000000, 0, 125000000) }).onClk fun c => { c with running := true })), by decide +kernel⟩

theorem wit_TimeSamples_16 : ∃ (dt : Nat) (dom : BitVec 8) (ck : BitVec 64) (port seq : BitVec 16) (sec : BitVec 48) (ns : BitVec 32) (corr : BitVec 64) (s : State), (¬ (s.get TIM_CFG_SRC = 2 ∧ s.get TIM_PTP_DOMAIN = dom.toNat ∧ s.tim.parent = some (ck.toNat, port.toNat)) ∨ (s.tim.sync).map (fun x => x.1) ≠ some seq.toNat) :=
  ⟨(1000), (3), (9), (1), (7), (0), (900), (0), ((((st [(TIM_CFG_SRC, 2), (TIM_PTP_DOMAIN, 3), (TIM_ST_STATE, 3), (TIM_CFG_KI, 4), (TIM_CFG_KP, 2), (TIM_CFG_OUTMAX, 3), (whole TIM_RATE, 0), (whole TIM_JMP, 50)]).onTim fun t => { t with parent := some (9, 1), delay := some 65536 }).onClk fun c => { c with running := true })), by decide +kernel⟩

theorem wit_TimeSamples_17 : ∃ (dt : Nat) (s : State), (s.get TIM_ST_STATE = 2 ∧ s.get TIM_CFG_SRC ≠ 0 ∧ s.tim.lastAt + s.get TIM_CFG_HOLDT * 10000000 ≤ (s.elapse dt).clk.elapsed) :=
  ⟨(20000000), ((((st [(TIM_CFG_SRC, 2), (TIM_PTP_DOMAIN, 3), (TIM_ST_STATE, 2), (TIM_CFG_KI, 4), (TIM_CFG_KP, 2), (TIM_CFG_OUTMAX, 3), (whole TIM_RATE, 0), (TIM_CFG_HOLDT, 2)]).onTim fun t => { t with parent := some (9, 1), delay := some 65536 }).onClk fun c => { c with running := true })), by decide +kernel⟩

theorem wit_TimeSamples_18 : ∃ (dt : Nat) (s : State), ¬ (s.get TIM_ST_STATE = 2 ∧ s.get TIM_CFG_SRC ≠ 0 ∧ s.tim.lastAt + s.get TIM_CFG_HOLDT * 10000000 ≤ (s.elapse dt).clk.elapsed) :=
  ⟨(5), (State.reset), by decide +kernel⟩

theorem wit_TimeSamples_19 : ∃ (dt : Nat) (who : Accessor) (s : State), s.get TIM_ST_STATE = 3 :=
  ⟨(5), (.core 0), ((((st [(TIM_CFG_SRC, 2), (TIM_PTP_DOMAIN, 3), (TIM_ST_STATE, 3), (TIM_CFG_KI, 4), (TIM_CFG_KP, 2), (TIM_CFG_OUTMAX, 3), (whole TIM_RATE, 0)]).onTim fun t => { t with parent := some (9, 1), delay := some 65536 }).onClk fun c => { c with running := true })), by decide +kernel⟩

theorem wit_TimeSamples_20 : ∃ (dt : Nat) (who : Accessor) (s : State), s.get TIM_ST_STATE ≠ 3 :=
  ⟨(5), (.core 0), ((((st [(TIM_CFG_SRC, 2), (TIM_PTP_DOMAIN, 3), (TIM_ST_STATE, 2), (TIM_CFG_KI, 4), (TIM_CFG_KP, 2), (TIM_CFG_OUTMAX, 3), (whole TIM_RATE, 0)]).onTim fun t => { t with parent := some (9, 1), delay := some 65536 }).onClk fun c => { c with running := true })), by decide +kernel⟩

theorem wit_PtpMessages_1 : ∃ (dt : Nat) (dom : BitVec 8) (ck : BitVec 64) (port : BitVec 16) (p1 cl acc : BitVec 8) (var : BitVec 16) (p2 : BitVec 8) (gm : BitVec 64) (st ut : BitVec 16) (ok : Bool) (k : BitVec 8) (s : State), (s.get TIM_CFG_SRC = 2 ∧ s.get TIM_PTP_DOMAIN = dom.toNat) :=
  ⟨(1000), (3), (9), (1), (1), (2), (3), (4), (5), (6), (7), (37), (true), (0), ((((st [(TIM_CFG_SRC, 2), (TIM_PTP_DOMAIN, 3), (TIM_ST_STATE, 2), (TIM_CFG_KI, 4), (TIM_CFG_KP, 2), (TIM_CFG_OUTMAX, 3), (whole TIM_RATE, 0)]).onTim fun t => { t with parent := some (9, 1), delay := some 65536, masters := [⟨9, 1, 1, 2, 3, 4, 5, 6, 7, 37, true, 1000000000, 3, none⟩, ⟨8, 1, 1, 2, 3, 4, 5, 6, 7, 37, true, 1000000000, 3, none⟩] }).onClk fun c => { c with running := true })), by decide +kernel⟩

theorem wit_PtpMessages_2 : ∃ (dt : Nat) (dom : BitVec 8) (ck : BitVec 64) (port : BitVec 16) (p1 cl acc : BitVec 8) (var : BitVec 16) (p2 : BitVec 8) (gm : BitVec 64) (st ut : BitVec 16) (ok : Bool) (k : BitVec 8) (s : State), ¬ (s.get TIM_CFG_SRC = 2 ∧ s.get TIM_PTP_DOMAIN = dom.toNat) :=
  ⟨(1000), (3), (9), (1), (1), (2), (3), (4), (5), (6), (7), (37), (true), (0), (State.reset), by decide +kernel⟩

theorem wit_PtpMessages_3 : ∃ (dt : Nat) (s : State), s.get TIM_CFG_SRC = 2 :=
  ⟨(5), ((((st [(TIM_CFG_SRC, 2), (TIM_PTP_DOMAIN, 3), (TIM_ST_STATE, 2), (TIM_CFG_KI, 4), (TIM_CFG_KP, 2), (TIM_CFG_OUTMAX, 3), (whole TIM_RATE, 0)]).onTim fun t => { t with parent := some (9, 1), delay := some 65536, masters := [⟨9, 1, 1, 2, 3, 4, 5, 6, 7, 37, true, 1000000000, 3, (some 1)⟩, ⟨8, 1, 0, 2, 3, 4, 5, 0x77, 7, 37, true, 1000000000, 3, (some 1)⟩] }).onClk fun c => { c with running := true })), by decide +kernel⟩

theorem wit_PtpMessages_4 : ∃ (dt : Nat) (s : State), s.get TIM_CFG_SRC ≠ 2 :=
  ⟨(5), (State.reset), by decide +kernel⟩

theorem wit_PtpMessages_5 : ∃ (dt : Nat) (c p : Nat) (f : Foreign) (s : State), s.tim.parent = some (c, p) ∧ (s.tim.masters.find? (fun g => g.clock == c && g.port == p) = some f) ∧ f.seenAt + 3 * f.interval ≤ (s.elapse dt).clk.elapsed :=
  ⟨(3000000003), (9), (1), (⟨9, 1, 1, 2, 3, 4, 5, 6, 7, 37, true, 1000000000, 3, (some 1)⟩), ((((st [(TIM_CFG_SRC, 2), (TIM_PTP_DOMAIN, 3), (TIM_ST_STATE, 2), (TIM_CFG_KI, 4), (TIM_CFG_KP, 2), (TIM_CFG_OUTMAX, 3), (whole TIM_RATE, 0)]).onTim fun t => { t with parent := some (9, 1), delay := some 65536, masters := [⟨9, 1, 1, 2, 3, 4, 5, 6, 7, 37, true, 1000000000, 3, (some 1)⟩, ⟨8, 1, 0, 2, 3, 4, 5, 0x77, 7, 37, true, 1000000000, 3, (some 1)⟩] }).onClk fun c => { c with running := true })), by decide +kernel⟩

theorem wit_PtpMessages_6 : ∃ (dt : Nat) (c p : Nat) (f : Foreign) (s : State), s.tim.parent = some (c, p) ∧ (s.tim.masters.find? (fun g => g.clock == c && g.port == p) = some f) ∧ (s.elapse dt).clk.elapsed < f.seenAt + 3 * f.interval :=
  ⟨(3), (9), (1), (⟨9, 1, 1, 2, 3, 4, 5, 6, 7, 37, true, 1000000000, 3, (some 1)⟩), ((((st [(TIM_CFG_SRC, 2), (TIM_PTP_DOMAIN, 3), (TIM_ST_STATE, 2), (TIM_CFG_KI, 4), (TIM_CFG_KP, 2), (TIM_CFG_OUTMAX, 3), (whole TIM_RATE, 0)]).onTim fun t => { t with parent := some (9, 1), delay := some 65536, masters := [⟨9, 1, 1, 2, 3, 4, 5, 6, 7, 37, true, 1000000000, 3, (some 1)⟩, ⟨8, 1, 0, 2, 3, 4, 5, 0x77, 7, 37, true, 1000000000, 3, (some 1)⟩] }).onClk fun c => { c with running := true })), by decide +kernel⟩

theorem wit_PtpMessages_7 : ∃ (dt : Nat) (s : State), s.tim.parent = none :=
  ⟨(3), (State.reset), by decide +kernel⟩

theorem wit_PtpMessages_8 : ∃ (dt : Nat) (s : State), s.get TIM_CFG_SRC = 2 :=
  ⟨(5), ((((st [(TIM_CFG_SRC, 2), (TIM_PTP_DOMAIN, 3), (TIM_ST_STATE, 2), (TIM_CFG_KI, 4), (TIM_CFG_KP, 2), (TIM_CFG_OUTMAX, 3), (whole TIM_RATE, 0), (TIM_CFG_DM, 1)]).onTim fun t => { t with parent := some (9, 1), delay := some 65536 }).onClk fun c => { c with running := true })), by decide +kernel⟩

theorem wit_PtpMessages_9 : ∃ (dt : Nat) (s : State), s.get TIM_CFG_SRC ≠ 2 :=
  ⟨(5), (State.reset), by decide +kernel⟩

theorem wit_PtpMessages_10 : ∃ (dt : Nat) (dom : BitVec 8) (ck : BitVec 64) (port seq : BitVec 16) (mine : Bool) (sec : BitVec 48) (ns : BitVec 32) (corr : BitVec 64) (t1 t2 t3 : Int) (s : State), (s.get TIM_CFG_SRC = 2 ∧ s.get TIM_PTP_DOMAIN = dom.toNat ∧ s.tim.parent = some (ck.toNat, port.toNat)) ∧ s.get TIM_CFG_DM = 0 ∧ mine = true ∧ s.tim.req = some (seq.toNat, t3) ∧ s.tim.pair = some (t1, t2) :=
  ⟨(1000), (3), (9), (1), (7), (true), (0), (900), (0), (30), (131102), (52000000), ((((st [(TIM_CFG_SRC, 2), (TIM_PTP_DOMAIN, 3), (TIM_ST_STATE, 2), (TIM_CFG_KI, 4), (TIM_CFG_KP, 2), (TIM_CFG_OUTMAX, 3), (whole TIM_RATE, 0)]).onTim fun t => { t with parent := some (9, 1), delay := some 65536, req := some (7, 52000000), pair := some (30, 131102) }).onClk fun c => { c with running := true })), by decide +kernel⟩

theorem wit_PtpMessages_11 : ∃ (dt : Nat) (dom : BitVec 8) (ck : BitVec 64) (port seq : BitVec 16) (mine : Bool) (sec : BitVec 48) (ns : BitVec 32) (corr : BitVec 64) (s : State), (¬ ((s.get TIM_CFG_SRC = 2 ∧ s.get TIM_PTP_DOMAIN = dom.toNat ∧ s.tim.parent = some (ck.toNat, port.toNat)) ∧ s.get TIM_CFG_DM = 0 ∧ mine = true) ∨ (s.tim.req).map (fun x => x.1) ≠ some seq.toNat ∨ s.tim.pair = none) :=
  ⟨(1000), (3), (9), (1), (7), (true), (0), (900), (0), ((((st [(TIM_CFG_SRC, 2), (TIM_PTP_DOMAIN, 3), (TIM_ST_STATE, 2), (TIM_CFG_KI, 4), (TIM_CFG_KP, 2), (TIM_CFG_OUTMAX, 3), (whole TIM_RATE, 0)]).onTim fun t => { t with parent := some (9, 1), delay := some 65536 }).onClk fun c => { c with running := true })), by decide +kernel⟩

theorem wit_PtpMessages_12 : ∃ (dt : Nat) (dom : BitVec 8) (ck : BitVec 64) (port seq : BitVec 16) (s : State), (s.get TIM_CFG_SRC = 2 ∧ s.get TIM_PTP_DOMAIN = dom.toNat) ∧ s.get TIM_CFG_DM = 1 :=
  ⟨(1000), (3), (9), (1), (7), ((((st [(TIM_CFG_SRC, 2), (TIM_PTP_DOMAIN, 3), (TIM_ST_STATE, 2), (TIM_CFG_KI, 4), (TIM_CFG_KP, 2), (TIM_CFG_OUTMAX, 3), (whole TIM_RATE, 0), (TIM_CFG_DM, 1)]).onTim fun t => { t with parent := some (9, 1), delay := some 65536 }).onClk fun c => { c with running := true })), by decide +kernel⟩

theorem wit_PtpMessages_13 : ∃ (dt : Nat) (dom : BitVec 8) (ck : BitVec 64) (port seq : BitVec 16) (s : State), ¬ ((s.get TIM_CFG_SRC = 2 ∧ s.get TIM_PTP_DOMAIN = dom.toNat) ∧ s.get TIM_CFG_DM = 1) :=
  ⟨(1000), (3), (9), (1), (7), ((((st [(TIM_CFG_SRC, 2), (TIM_PTP_DOMAIN, 3), (TIM_ST_STATE, 2), (TIM_CFG_KI, 4), (TIM_CFG_KP, 2), (TIM_CFG_OUTMAX, 3), (whole TIM_RATE, 0)]).onTim fun t => { t with parent := some (9, 1), delay := some 65536 }).onClk fun c => { c with running := true })), by decide +kernel⟩

theorem wit_PtpMessages_14 : ∃ (dt : Nat) (dom : BitVec 8) (seq : BitVec 16) (mine : Bool) (sec : BitVec 48) (ns : BitVec 32) (corr : BitVec 64) (t1 : Int) (s : State), (s.get TIM_CFG_SRC = 2 ∧ s.get TIM_PTP_DOMAIN = dom.toNat) ∧ s.get TIM_CFG_DM = 1 ∧ mine = true ∧ s.tim.req = some (seq.toNat, t1) :=
  ⟨(1000), (3), (7), (true), (0), (900), (0), (52000000), ((((st [(TIM_CFG_SRC, 2), (TIM_PTP_DOMAIN, 3), (TIM_ST_STATE, 2), (TIM_CFG_KI, 4), (TIM_CFG_KP, 2), (TIM_CFG_OUTMAX, 3), (whole TIM_RATE, 0), (TIM_CFG_DM, 1)]).onTim fun t => { t with parent := some (9, 1), delay := some 65536, req := some (7, 52000000) }).onClk fun c => { c with running := true })), by decide +kernel⟩

theorem wit_PtpMessages_15 : ∃ (dt : Nat) (dom : BitVec 8) (seq : BitVec 16) (mine : Bool) (sec : BitVec 48) (ns : BitVec 32) (corr : BitVec 64) (t1 : Int) (s : State), (s.get TIM_CFG_SRC = 2 ∧ s.get TIM_PTP_DOMAIN = dom.toNat) ∧ s.get TIM_CFG_DM = 1 ∧ mine = true ∧ s.tim.req = some (seq.toNat, t1) :=
  ⟨(1000), (3), (7), (true), (0), (900), (0), (52000000), ((((st [(TIM_CFG_SRC, 2), (TIM_PTP_DOMAIN, 3), (TIM_ST_STATE, 2), (TIM_CFG_KI, 4), (TIM_CFG_KP, 2), (TIM_CFG_OUTMAX, 3), (whole TIM_RATE, 0), (TIM_CFG_DM, 1)]).onTim fun t => { t with parent := some (9, 1), delay := some 65536, req := some (7, 52000000) }).onClk fun c => { c with running := true })), by decide +kernel⟩

theorem wit_PtpMessages_16 : ∃ (dt : Nat) (dom : BitVec 8) (seq : BitVec 16) (mine : Bool) (sec : BitVec 48) (ns : BitVec 32) (corr : BitVec 64) (two : Bool) (s : State), (¬ ((s.get TIM_CFG_SRC = 2 ∧ s.get TIM_PTP_DOMAIN = dom.toNat) ∧ s.get TIM_CFG_DM = 1 ∧ mine = true) ∨ (s.tim.req).map (fun x => x.1) ≠ some seq.toNat) :=
  ⟨(1000), (3), (7), (true), (0), (900), (0), (true), ((((st [(TIM_CFG_SRC, 2), (TIM_PTP_DOMAIN, 3), (TIM_ST_STATE, 2), (TIM_CFG_KI, 4), (TIM_CFG_KP, 2), (TIM_CFG_OUTMAX, 3), (whole TIM_RATE, 0)]).onTim fun t => { t with parent := some (9, 1), delay := some 65536 }).onClk fun c => { c with running := true })), by decide +kernel⟩

theorem wit_PtpMessages_17 : ∃ (dt : Nat) (dom : BitVec 8) (seq : BitVec 16) (mine : Bool) (sec : BitVec 48) (ns : BitVec 32) (corr : BitVec 64) (v : Int) (s : State), (s.get TIM_CFG_SRC = 2 ∧ s.get TIM_PTP_DOMAIN = dom.toNat) ∧ s.get TIM_CFG_DM = 1 ∧ mine = true ∧ s.tim.resp = some (seq.toNat, v) :=
  ⟨(1000), (3), (7), (true), (0), (900), (0), (60000000), ((((st [(TIM_CFG_SRC, 2), (TIM_PTP_DOMAIN, 3), (TIM_ST_STATE, 2), (TIM_CFG_KI, 4), (TIM_CFG_KP, 2), (TIM_CFG_OUTMAX, 3), (whole TIM_RATE, 0), (TIM_CFG_DM, 1)]).onTim fun t => { t with parent := some (9, 1), delay := some 65536, resp := some (7, 60000000) }).onClk fun c => { c with running := true })), by decide +kernel⟩

theorem wit_PtpMessages_18 : ∃ (dt : Nat) (dom : BitVec 8) (seq : BitVec 16) (mine : Bool) (sec : BitVec 48) (ns : BitVec 32) (corr : BitVec 64) (s : State), (¬ ((s.get TIM_CFG_SRC = 2 ∧ s.get TIM_PTP_DOMAIN = dom.toNat) ∧ s.get TIM_CFG_DM = 1 ∧ mine = true) ∨ (s.tim.resp).map (fun x => x.1) ≠ some seq.toNat) :=
  ⟨(1000), (3), (7), (true), (0), (900), (0), ((((st [(TIM_CFG_SRC, 2), (TIM_PTP_DOMAIN, 3), (TIM_ST_STATE, 2), (TIM_CFG_KI, 4), (TIM_CFG_KP, 2), (TIM_CFG_OUTMAX, 3), (whole TIM_RATE, 0)]).onTim fun t => { t with parent := some (9, 1), delay := some 65536 }).onClk fun c => { c with running := true })), by decide +kernel⟩

theorem wit_DioChannels_1 : ∃ (dt : Nat) (c : Fin 64) (s : State), (((6 ≤ s.get CFG_STATE_STATE ∧ s.get CFG_STATE_STATE ≤ 9) ∧ (s.fieldSupply (c / 8) ≠ 3 ∨ (s.dch c).prog = true))) :=
  ⟨(5), (12), (((st [(CFG_STATE_STATE, 8), (DIO_CCFG_MODE 12, 1), (DIO_GCFG_HBT 1, 20), (whole DIO_OUT, 0x1000), (whole LSH_DOUT_E, 0x1000)]).onDio fun d => { d with chan := [(12, { prog := true, mode := 1, hbt := 20 })], sup := [(1, 0)] })), by decide +kernel⟩

theorem wit_DioChannels_2 : ∃ (dt : Nat) (c : Fin 64) (s : State), (¬ ((6 ≤ s.get CFG_STATE_STATE ∧ s.get CFG_STATE_STATE ≤ 9) ∧ (s.fieldSupply (c / 8) ≠ 3 ∨ (s.dch c).prog = true))) :=
  ⟨(5), (12), (State.reset), by decide +kernel⟩

theorem wit_DioChannels_3 : ∃ (dt : Nat) (c : Fin 64) (raw limit : Bool) (vlp ig : BitVec 16) (s : State), ¬ (6 ≤ s.get CFG_STATE_STATE ∧ s.get CFG_STATE_STATE ≤ 9) :=
  ⟨(500000), (12), (true), (false), (2400), (700), (State.reset), by decide +kernel⟩

theorem wit_DioChannels_4 : ∃ (dt : Nat) (c : Fin 64) (raw limit : Bool) (vlp ig : BitVec 16) (s : State), 6 ≤ s.get CFG_STATE_STATE ∧ s.get CFG_STATE_STATE ≤ 9 :=
  ⟨(500000), (12), (true), (false), (2400), (700), (((st [(CFG_STATE_STATE, 8), (DIO_CCFG_MODE 12, 1), (DIO_GCFG_HBT 1, 20)]).onDio fun d => { d with chan := [(12, { prog := true, mode := 1, hbt := 20, on := true })], sup := [(1, 0)] })), by decide +kernel⟩

theorem wit_DioChannels_5 : ∃ (dt : Nat) (c : Fin 64) (raw limit : Bool) (vlp ig : BitVec 16) (s : State), 6 ≤ s.get CFG_STATE_STATE ∧ s.get CFG_STATE_STATE ≤ 9 ∧ ((s.dch c).prog = false ∨ (s.dch c).timeout = true ∧ (s.get CFG_STATE_STATE = 8 ∨ s.get CFG_STATE_STATE = 9)) :=
  ⟨(500000), (12), (true), (false), (2400), (700), (((st [(CFG_STATE_STATE, 8), (DIO_CCFG_MODE 12, 1), (DIO_GCFG_HBT 1, 20), (whole DIO_OUT, 0x1000), (whole LSH_DOUT_E, 0x1000)]).onDio fun d => { d with chan := [(12, { prog := true, mode := 1, hbt := 20, timeout := true })], sup := [(1, 0)] })), by decide +kernel⟩

theorem wit_DioChannels_6 : ∃ (dt : Nat) (c : Fin 64) (raw limit : Bool) (vlp ig : BitVec 16) (t : Nat) (s : State), 6 ≤ s.get CFG_STATE_STATE ∧ s.get CFG_STATE_STATE ≤ 9 ∧ (s.dch c).prog = true ∧ (s.dch c).timeout = false ∧ (s.elapse dt).clk.elapsed < (s.dch c).frameAt + (s.dch c).hbt * 1100000 ∧ s.fieldSupply (c / 8) ≤ 1 ∧ s.get (DIO_CST_COUPLER c) = 0 ∧ s.get (DIO_CCFG_MODE c) ≠ 1 ∧ s.get (DIO_CST_INVALID c) = 1 ∧ (s.dch c).okAt = some t ∧ t + filtTime (s.get (DIO_CCFG_FILT c)) ≤ (s.elapse dt).clk.elapsed :=
  ⟨(500000), (12), (true), (false), (2400), (700), (3), (((st [(CFG_STATE_STATE, 8), (DIO_CCFG_MODE 12, 1), (DIO_GCFG_HBT 1, 20), (DIO_CCFG_MODE 12, 0), (DIO_CCFG_FILT 12, 3), (DIO_CST_COUPLER 12, 0)]).onDio fun d => { d with chan := [(12, { prog := true, hbt := 20, mode := 0, okAt := some 3, filt := true })], sup := [(1, 0)] })), by decide +kernel⟩

theorem wit_DioChannels_7 : ∃ (dt : Nat) (c : Fin 64) (raw limit : Bool) (vlp ig : BitVec 16) (t : Nat) (s : State), 6 ≤ s.get CFG_STATE_STATE ∧ s.get CFG_STATE_STATE ≤ 9 ∧ (s.dch c).prog = true ∧ (s.dch c).timeout = false ∧ (s.elapse dt).clk.elapsed < (s.dch c).frameAt + (s.dch c).hbt * 1100000 ∧ s.fieldSupply (c / 8) ≤ 1 ∧ s.get (DIO_CST_COUPLER c) = 0 ∧ s.get (DIO_CCFG_MODE c) ≠ 1 ∧ s.get (DIO_CST_INVALID c) = 1 ∧ (s.dch c).okAt = some t ∧ (s.elapse dt).clk.elapsed < t + filtTime (s.get (DIO_CCFG_FILT c)) :=
  ⟨(100), (12), (true), (false), (2400), (700), (3), (((st [(CFG_STATE_STATE, 8), (DIO_CCFG_MODE 12, 1), (DIO_GCFG_HBT 1, 20), (DIO_CCFG_MODE 12, 0), (DIO_CCFG_FILT 12, 3), (DIO_CST_COUPLER 12, 0)]).onDio fun d => { d with chan := [(12, { prog := true, hbt := 20, mode := 0, okAt := some 3, filt := true })], sup := [(1, 0)] })), by decide +kernel⟩

theorem wit_DioChannels_8 : ∃ (dt : Nat) (c : Fin 64) (raw limit : Bool) (vlp ig : BitVec 16) (s : State), 6 ≤ s.get CFG_STATE_STATE ∧ s.get CFG_STATE_STATE ≤ 9 ∧ (2 ≤ s.fieldSupply (c / 8) ∧ s.fieldSupply (c / 8) ≤ 3 ∨ s.get (DIO_CCFG_MODE c) = 1 ∨ s.get (DIO_CST_COUPLER c) = 1) :=
  ⟨(500000), (12), (true), (false), (2400), (700), (((st [(CFG_STATE_STATE, 8), (DIO_CCFG_MODE 12, 1), (DIO_GCFG_HBT 1, 20), (DIO_CCFG_MODE 12, 0), (DIO_CCFG_FILT 12, 3), (DIO_CST_COUPLER 12, 0)]).onDio fun d => { d with chan := [(12, { prog := true, mode := 1, hbt := 20, okAt := some 3 })], sup := [(1, 2)] })), by decide +kernel⟩

theorem wit_DioChannels_9 : ∃ (dt : Nat) (c : Fin 64) (s : State), ((s.dch c).prog = true ∧ (s.dch c).timeout = false ∧ (s.dch c).frameAt + (s.dch c).hbt * 900000 ≤ (s.elapse dt).clk.elapsed) :=
  ⟨(18000000), (12), (((st [(CFG_STATE_STATE, 8), (DIO_CCFG_MODE 12, 1), (DIO_GCFG_HBT 1, 20)]).onDio fun d => { d with chan := [(12, { prog := true, mode := 1, hbt := 20, on := true, hold := true })], sup := [(1, 0)] })), by decide +kernel⟩

theorem wit_DioChannels_10 : ∃ (dt : Nat) (c : Fin 64) (s : State), ¬ ((s.dch c).prog = true ∧ (s.dch c).timeout = false ∧ (s.dch c).frameAt + (s.dch c).hbt * 900000 ≤ (s.elapse dt).clk.elapsed) :=
  ⟨(5), (12), (State.reset), by decide +kernel⟩

theorem wit_DioChannels_11 : ∃ (dt : Nat) (c : Fin 64) (s : State), ((6 ≤ s.get CFG_STATE_STATE ∧ s.get CFG_STATE_STATE ≤ 9) ∧ s.get (DIO_CST_COUPLER c) = 0 ∧ (s.dch c).heard + 1000000 ≤ (s.elapse dt).clk.elapsed) :=
  ⟨(1000000), (12), (((st [(CFG_STATE_STATE, 8), (DIO_CCFG_MODE 12, 1), (DIO_GCFG_HBT 1, 20), (DIO_CCFG_MODE 12, 0), (DIO_CCFG_FILT 12, 3), (DIO_CST_COUPLER 12, 0)]).onDio fun d => { d with chan := [(12, { prog := true, mode := 1, hbt := 20 })], sup := [(1, 0)] })), by decide +kernel⟩

theorem wit_DioChannels_12 : ∃ (dt : Nat) (c : Fin 64) (s : State), ¬ ((6 ≤ s.get CFG_STATE_STATE ∧ s.get CFG_STATE_STATE ≤ 9) ∧ s.get (DIO_CST_COUPLER c) = 0 ∧ (s.dch c).heard + 1000000 ≤ (s.elapse dt).clk.elapsed) :=
  ⟨(5), (12), (State.reset), by decide +kernel⟩

theorem wit_DioChannels_13 : ∃ (dt : Nat) (c : Fin 64) (s : State), ((s.dch c).raw ≠ (s.dch c).filt ∧ (s.dch c).rawAt + filtTime (s.get (DIO_CCFG_FILT c)) ≤ (s.elapse dt).clk.elapsed) ∧ s.bit64 DIO_VALID c = true :=
  ⟨(100000), (12), (((st [(CFG_STATE_STATE, 8), (DIO_CCFG_MODE 12, 1), (DIO_GCFG_HBT 1, 20), (DIO_CCFG_MODE 12, 0), (DIO_CCFG_FILT 12, 3), (DIO_CST_COUPLER 12, 0), (DIO_CCFG_FLAGS 12, 0x20), (DIO_CFG_EVEN, 1), (whole DIO_VALID, 0x1000)]).onDio fun d => { d with chan := [(12, { prog := true, mode := 1, hbt := 20, raw := true })], sup := [(1, 0)] })), by decide +kernel⟩

theorem wit_DioChannels_14 : ∃ (dt : Nat) (c : Fin 64) (s : State), ((s.dch c).raw ≠ (s.dch c).filt ∧ (s.dch c).rawAt + filtTime (s.get (DIO_CCFG_FILT c)) ≤ (s.elapse dt).clk.elapsed) ∧ s.bit64 DIO_VALID c = false :=
  ⟨(100000), (12), (((st [(CFG_STATE_STATE, 8), (DIO_CCFG_MODE 12, 1), (DIO_GCFG_HBT 1, 20), (DIO_CCFG_MODE 12, 0), (DIO_CCFG_FILT 12, 3), (DIO_CST_COUPLER 12, 0), (whole DIO_VALID, 0)]).onDio fun d => { d with chan := [(12, { prog := true, mode := 1, hbt := 20, raw := true })], sup := [(1, 0)] })), by decide +kernel⟩

theorem wit_DioChannels_15 : ∃ (dt : Nat) (c : Fin 64) (s : State), ¬ ((s.dch c).raw ≠ (s.dch c).filt ∧ (s.dch c).rawAt + filtTime (s.get (DIO_CCFG_FILT c)) ≤ (s.elapse dt).clk.elapsed) :=
  ⟨(5), (12), (State.reset), by decide +kernel⟩

theorem wit_DioChannels_19 : ∃ (dt : Nat) (t : Fin 64) (s : State), (s.dio.edges.find? (fun e => e.track == t.val && decide (e.time ≤ (s.elapse dt).clk.elapsed)) = none) :=
  ⟨(5), (5), (State.reset), by decide +kernel⟩

theorem wit_DioChannels_20 : ∃ (dt : Nat) (t : Fin 64) (e : CamEdge) (s : State), (s.dio.edges.find? (fun e => e.track == t.val && decide (e.time ≤ (s.elapse dt).clk.elapsed)) = some e) ∧ (s.get (PRF_CSWCFG_CH t)) < 64 ∧ s.trackOf (s.get (PRF_CSWCFG_CH t)) = some t.val :=
  ⟨(5), (5), (⟨5, true, 3, 3, true⟩), (((st [(CFG_STATE_STATE, 8), (DIO_CCFG_MODE 12, 1), (DIO_GCFG_HBT 1, 20), (PRF_CSWCFG_EN 5, 1), (PRF_CSWCFG_CH 5, 12), (PRF_CSWCFG_EN 0, 0), (PRF_CSWCFG_EN 1, 0), (PRF_CSWCFG_EN 2, 0), (PRF_CSWCFG_EN 3, 0), (PRF_CSWCFG_EN 4, 0)]).onDio fun d => { d with chan := [(12, { prog := true, mode := 1, hbt := 20 })], sup := [(1, 0)], edges := [⟨5, true, 3, 3, true⟩] })), by decide +kernel⟩

theorem wit_DioChannels_21 : ∃ (dt : Nat) (t : Fin 64) (e : CamEdge) (s : State), (s.dio.edges.find? (fun e => e.track == t.val && decide (e.time ≤ (s.elapse dt).clk.elapsed)) = some e) ∧ (64 ≤ (s.get (PRF_CSWCFG_CH t)) ∨ s.trackOf (s.get (PRF_CSWCFG_CH t)) ≠ some t.val) :=
  ⟨(5), (5), (⟨5, true, 3, 3, true⟩), (((st [(CFG_STATE_STATE, 8), (DIO_CCFG_MODE 12, 1), (DIO_GCFG_HBT 1, 20), (PRF_CSWCFG_EN 5, 1), (PRF_CSWCFG_CH 5, 0x7F)]).onDio fun d => { d with chan := [(12, { prog := true, mode := 1, hbt := 20 })], sup := [(1, 0)], edges := [⟨5, true, 3, 3, true⟩] })), by decide +kernel⟩

theorem wit_DioChannels_22 : ∃ (dt : Nat) (c : Fin 64) (s : State), s.get (DIO_CCFG_MODE c) = 2 ∧ s.bit64 DIO_VALID c = true ∧ (s.dch c).cmdAt + 2 * (s.get (DIO_CCFG_RBT c) * 1000000) ≤ (s.elapse dt).clk.elapsed ∧ (s.dch c).steadyAt + s.get (DIO_CCFG_RBT c) * 1000000 ≤ (s.elapse dt).clk.elapsed ∧ ((s.dch c).on = false ∧ s.get (DIO_CST_LAND c) = 1) :=
  ⟨(6000000), (12), (((st [(CFG_STATE_STATE, 8), (DIO_CCFG_MODE 12, 1), (DIO_GCFG_HBT 1, 20), (DIO_CCFG_MODE 12, 2), (DIO_CCFG_RBT 12, 3), (whole DIO_VALID, 0x1000), (DIO_CST_LAND 12, 1)]).onDio fun d => { d with chan := [(12, { prog := true, mode := 1, hbt := 20, on := false })], sup := [(1, 0)] })), by decide +kernel⟩

theorem wit_DioChannels_23 : ∃ (dt : Nat) (c : Fin 64) (s : State), s.get (DIO_CCFG_MODE c) = 2 ∧ s.bit64 DIO_VALID c = true ∧ (s.dch c).cmdAt + 2 * (s.get (DIO_CCFG_RBT c) * 1000000) ≤ (s.elapse dt).clk.elapsed ∧ (s.dch c).steadyAt + s.get (DIO_CCFG_RBT c) * 1000000 ≤ (s.elapse dt).clk.elapsed ∧ ((s.dch c).on = true ∧ s.get (DIO_CST_LAND c) = 0 ∧ s.get (DIO_CST_LIMIT c) = 0 ∧ (s.dch c).therm = false) :=
  ⟨(6000000), (12), (((st [(CFG_STATE_STATE, 8), (DIO_CCFG_MODE 12, 1), (DIO_GCFG_HBT 1, 20), (DIO_CCFG_MODE 12, 2), (DIO_CCFG_RBT 12, 3), (whole DIO_VALID, 0x1000), (DIO_CST_LIMIT 12, 0), (DIO_CST_LAND 12, 0)]).onDio fun d => { d with chan := [(12, { prog := true, mode := 1, hbt := 20, on := true })], sup := [(1, 0)] })), by decide +kernel⟩

theorem wit_DioChannels_24 : ∃ (dt : Nat) (c : Fin 64) (s : State), (¬ (s.get (DIO_CCFG_MODE c) = 2 ∧ s.bit64 DIO_VALID c = true ∧ (s.dch c).cmdAt + 2 * (s.get (DIO_CCFG_RBT c) * 1000000) ≤ (s.elapse dt).clk.elapsed ∧ (s.dch c).steadyAt + s.get (DIO_CCFG_RBT c) * 1000000 ≤ (s.elapse dt).clk.elapsed) ∨ ¬ ((s.dch c).on = false ∧ s.get (DIO_CST_LAND c) = 1) ∧ ¬ ((s.dch c).on = true ∧ s.get (DIO_CST_LAND c) = 0 ∧ s.get (DIO_CST_LIMIT c) = 0 ∧ (s.dch c).therm = false)) :=
  ⟨(5), (12), (State.reset), by decide +kernel⟩

theorem wit_DioProtection_1 : ∃ (dt : Nat) (c : Fin 64) (s : State), (s.dch c).on = true :=
  ⟨(5), (12), (((st [(CFG_STATE_STATE, 8), (DIO_CCFG_MODE 12, 1), (DIO_GCFG_HBT 1, 20)]).onDio fun d => { d with chan := [(12, { prog := true, mode := 1, hbt := 20, on := true })], sup := [(1, 0)] })), by decide +kernel⟩

theorem wit_DioProtection_2 : ∃ (dt : Nat) (c : Fin 64) (s : State), (s.dch c).on = false :=
  ⟨(5), (12), (State.reset), by decide +kernel⟩

theorem wit_DioProtection_3 : ∃ (dt : Nat) (c : Fin 64) (s : State), ((s.dch c).therm = true ∧ (s.dch c).thermAt + 90000000 ≤ (s.elapse dt).clk.elapsed) :=
  ⟨(90000000), (12), (((st [(CFG_STATE_STATE, 8), (DIO_CCFG_MODE 12, 1), (DIO_GCFG_HBT 1, 20)]).onDio fun d => { d with chan := [(12, { prog := true, mode := 1, hbt := 20, therm := true, cmd := true })], sup := [(1, 0)] })), by decide +kernel⟩

theorem wit_DioProtection_4 : ∃ (dt : Nat) (c : Fin 64) (s : State), ¬ ((s.dch c).therm = true ∧ (s.dch c).thermAt + 90000000 ≤ (s.elapse dt).clk.elapsed) :=
  ⟨(5), (12), (State.reset), by decide +kernel⟩

theorem wit_DioProtection_5 : ∃ (dt : Nat) (g : Fin 8) (s : State), g.val ∈ s.dio.shut :=
  ⟨(5), (1), (State.reset.onDio fun d => { d with shut := [1] }), by decide +kernel⟩

theorem wit_DioProtection_6 : ∃ (dt : Nat) (g : Fin 8) (s : State), g.val ∉ s.dio.shut :=
  ⟨(5), (1), (((st [(CFG_STATE_STATE, 8), (DIO_CCFG_MODE 12, 1), (DIO_GCFG_HBT 1, 20)]).onDio fun d => { d with chan := [(12, { prog := true, mode := 1, hbt := 20, on := true })], sup := [(1, 0)] })), by decide +kernel⟩

theorem wit_DioProtection_7 : ∃ (dt : Nat) (g : Fin 8) (s : State), (g.val ∈ s.dio.shut ∧ tabGet 0 s.dio.govlAt g + 90000000 ≤ (s.elapse dt).clk.elapsed) :=
  ⟨(90000000), (1), (((st [(CFG_STATE_STATE, 8), (DIO_CCFG_MODE 12, 1), (DIO_GCFG_HBT 1, 20)]).onDio fun d => { d with chan := [(12, { prog := true, mode := 1, hbt := 20, cmd := true })], sup := [(1, 0)], shut := [1, 4] })), by decide +kernel⟩

theorem wit_DioProtection_8 : ∃ (dt : Nat) (g : Fin 8) (s : State), ¬ (g.val ∈ s.dio.shut ∧ tabGet 0 s.dio.govlAt g + 90000000 ≤ (s.elapse dt).clk.elapsed) :=
  ⟨(5), (1), (State.reset), by decide +kernel⟩

theorem wit_DioProtection_9 : ∃ (dt : Nat) (g : Fin 8) (s : State), s.fieldSupply g = 0 :=
  ⟨(5), (1), (((st [(CFG_STATE_STATE, 8), (DIO_CCFG_MODE 12, 1), (DIO_GCFG_HBT 1, 20)]).onDio fun d => { d with chan := [(12, { prog := true, mode := 1, hbt := 20, on := true, cmd := true })], sup := [(1, 0)] })), by decide +kernel⟩

theorem wit_DioProtection_10 : ∃ (dt : Nat) (g : Fin 8) (s : State), s.fieldSupply g ≠ 0 :=
  ⟨(5), (1), (State.reset), by decide +kernel⟩

theorem wit_DioProtection_11 : ∃ (dt : Nat) (g : Fin 8) (s : State), s.fieldSupply g ≠ 2 :=
  ⟨(5), (1), (((st [(CFG_STATE_STATE, 8), (DIO_CCFG_MODE 12, 1), (DIO_GCFG_HBT 1, 20)]).onDio fun d => { d with chan := [(12, { prog := true, mode := 1, hbt := 20, on := true, cmd := true })], sup := [(1, 0)] })), by decide +kernel⟩

theorem wit_DioProtection_12 : ∃ (dt : Nat) (g : Fin 8) (s : State), s.fieldSupply g = 2 :=
  ⟨(5), (1), (((st [(CFG_STATE_STATE, 8), (DIO_CCFG_MODE 12, 1), (DIO_GCFG_HBT 1, 20)]).onDio fun d => { d with chan := [(12, { prog := true, mode := 1, hbt := 20 })], sup := [(1, 2)] })), by decide +kernel⟩

theorem wit_SafetyFunctions_1 : ∃ (dt : Nat) (kerca b : Bool) (i : Fin 16) (level : Bool) (s : State), s.safOn = false :=
  ⟨(5), (true), (true), (2), (true), (State.reset), by decide +kernel⟩

theorem wit_SafetyFunctions_2 : ∃ (dt : Nat) (kerca b : Bool) (i : Fin 16) (level : Bool) (s : State), s.safOn = true ∧ s.pairUse i ≠ 0 ∧ s.pairState (b2n kerca) i = 1 ∧ chanDemands (s.pairUse i) b level = true :=
  ⟨(5), (true), (false), (2), (false), (((st [(SAF_ST_ACCEPTED, 1), (SAF_ST_FAULT, 0), (whole SAF_SINK, 0x40004)]).sf fun x => { x with payload := safPay 0x140 [(0x50, 1), (0x52, 50)], kPair := [(2, 1)] })), by decide +kernel⟩

theorem wit_SafetyFunctions_3 : ∃ (dt : Nat) (kerca b : Bool) (i : Fin 16) (level : Bool) (s : State), s.safOn = true ∧ s.pairUse i ≠ 0 ∧ s.pairState (b2n kerca) i = 1 ∧ chanDemands (s.pairUse i) b level = false ∧ s.demanding (b2n kerca) i (!b) = false :=
  ⟨(5), (true), (false), (2), (true), (((st [(SAF_ST_ACCEPTED, 1), (SAF_ST_FAULT, 0), (whole SAF_SINK, 0x40004)]).sf fun x => { x with payload := safPay 0x140 [(0x50, 1), (0x52, 50)], kPair := [(2, 1)] })), by decide +kernel⟩

theorem wit_SafetyFunctions_4 : ∃ (dt : Nat) (kerca b : Bool) (i : Fin 16) (level : Bool) (s : State), s.safOn = true ∧ s.pairUse i ≠ 0 ∧ s.pairState (b2n kerca) i = 2 ∧ chanDemands (s.pairUse i) b level = false ∧ s.demanding (b2n kerca) i (!b) = false :=
  ⟨(5), (true), (false), (2), (true), (((st [(SAF_ST_ACCEPTED, 1), (SAF_ST_FAULT, 0), (whole SAF_SINK, 0x40004)]).sf fun x => { x with payload := safPay 0x140 [(0x50, 1), (0x52, 50)], kPair := [(2, 2)] })), by decide +kernel⟩

theorem wit_SafetyFunctions_5 : ∃ (dt : Nat) (kerca b : Bool) (i : Fin 16) (level : Bool) (s : State), s.safOn = true ∧ s.pairUse i ≠ 0 ∧ s.pairState (b2n kerca) i = 3 ∧ chanDemands (s.pairUse i) b level = true ∧ s.demanding (b2n kerca) i (!b) = true :=
  ⟨(5), (true), (false), (2), (false), (((st [(SAF_ST_ACCEPTED, 1), (SAF_ST_FAULT, 0), (whole SAF_SINK, 0)]).sf fun x => { x with payload := safPay 0x140 [(0x50, 1), (0x52, 50)], kPair := [(2, 3)] })), by decide +kernel⟩

theorem wit_SafetyFunctions_6 : ∃ (dt : Nat) (kerca b : Bool) (i : Fin 16) (level : Bool) (s : State), s.safOn = true ∧ s.pairUse i ≠ 0 ∧ s.pairState (b2n kerca) i = 3 ∧ (chanDemands (s.pairUse i) b level = false ∨ s.demanding (b2n kerca) i (!b) = false) :=
  ⟨(5), (true), (false), (2), (false), (((st [(SAF_ST_ACCEPTED, 1), (SAF_ST_FAULT, 0), (whole SAF_SINK, 0x40004)]).sf fun x => { x with payload := safPay 0x140 [(0x50, 1), (0x52, 50)], kPair := [(2, 3)] })), by decide +kernel⟩

theorem wit_SafetyFunctions_7 : ∃ (dt : Nat) (kerca b : Bool) (i : Fin 16) (level : Bool) (s : State), s.safOn = true ∧ s.pairUse i ≠ 0 ∧ s.pairState (b2n kerca) i = 4 ∧ chanDemands (s.pairUse i) b level = false ∧ s.demanding (b2n kerca) i (!b) = false :=
  ⟨(5), (true), (false), (2), (true), (((st [(SAF_ST_ACCEPTED, 1), (SAF_ST_FAULT, 0), (whole SAF_SINK, 0x40004)]).sf fun x => { x with payload := safPay 0x140 [(0x50, 1), (0x52, 50)], kPair := [(2, 4)] })), by decide +kernel⟩

theorem wit_SafetyFunctions_8 : ∃ (dt : Nat) (kerca b : Bool) (i : Fin 16) (level : Bool) (s : State), s.safOn = true ∧ s.pairUse i ≠ 0 ∧ s.pairState (b2n kerca) i = 5 ∧ chanDemands (s.pairUse i) b level = true ∧ s.demanding (b2n kerca) i (!b) = true :=
  ⟨(5), (true), (false), (2), (false), (((st [(SAF_ST_ACCEPTED, 1), (SAF_ST_FAULT, 0), (whole SAF_SINK, 0)]).sf fun x => { x with payload := safPay 0x140 [(0x50, 1), (0x52, 50)], kPair := [(2, 5)] })), by decide +kernel⟩

theorem wit_SafetyFunctions_9 : ∃ (dt : Nat) (kerca b : Bool) (i : Fin 16) (level : Bool) (f : Fin 32) (s : State), s.safOn = true ∧ s.pairUse i ≠ 0 ∧ s.pairState (b2n kerca) i = 1 ∧ chanDemands (s.pairUse i) b level = true ∧ s.fnSrc f = i.val ∧ s.evaluates (b2n kerca) f = true ∧ s.fnKind f = 1 ∧ s.fnState (b2n kerca) f = 1 :=
  ⟨(5), (true), (false), (2), (false), (0), (((st [(SAF_ST_ACCEPTED, 1), (SAF_ST_FAULT, 0), (whole SAF_SINK, 0x40004), (SAF_FN_KSTATE 0, 1), (SAF_GRP_GENAC 0, 1), (SAF_GRP_GENBC 0, 1), (SAF_FN_STATE 0, 1), (PRF_AXST_STATE 1, 2)]).sf fun x => { x with payload := safPay 0x140 [(0x50, 1), (0x52, 50), (0x100, 1), (0x101, 0), (0x102, 2), (0x104, 3), (0x106, 200)], kPair := [(2, 1)] })), by decide +kernel⟩

theorem wit_SafetyFunctions_10 : ∃ (dt : Nat) (kerca b : Bool) (i : Fin 16) (level : Bool) (f : Fin 32) (s : State), s.safOn = true ∧ s.pairUse i ≠ 0 ∧ s.pairState (b2n kerca) i = 1 ∧ chanDemands (s.pairUse i) b level = true ∧ s.fnSrc f = i.val ∧ s.evaluates (b2n kerca) f = true ∧ (s.fnKind f = 2 ∨ s.fnKind f = 3) ∧ s.fnState (b2n kerca) f = 1 :=
  ⟨(5), (true), (false), (2), (false), (0), (((st [(SAF_ST_ACCEPTED, 1), (SAF_ST_FAULT, 0), (whole SAF_SINK, 0x40004), (SAF_FN_KSTATE 0, 1), (SAF_GRP_GENAC 0, 1), (SAF_GRP_GENBC 0, 1), (SAF_FN_STATE 0, 1), (PRF_AXST_STATE 1, 2)]).sf fun x => { x with payload := safPay 0x140 [(0x50, 1), (0x52, 50), (0x100, 2), (0x101, 0), (0x102, 2), (0x104, 3), (0x106, 200)], kPair := [(2, 1)] })), by decide +kernel⟩

theorem wit_SafetyFunctions_11 : ∃ (dt : Nat) (kerca b : Bool) (i : Fin 16) (level : Bool) (f : Fin 32) (s : State), s.safOn = true ∧ s.pairUse i ≠ 0 ∧ s.pairState (b2n kerca) i = 2 ∧ chanDemands (s.pairUse i) b level = false ∧ s.demanding (b2n kerca) i (!b) = false ∧ s.fnSrc f = i.val ∧ s.evaluates (b2n kerca) f = true ∧ s.fnKind f ≤ 3 ∧ s.fnState (b2n kerca) f = 3 :=
  ⟨(5), (true), (false), (2), (true), (0), (((st [(SAF_ST_ACCEPTED, 1), (SAF_ST_FAULT, 0), (whole SAF_SINK, 0x40004), (SAF_FN_KSTATE 0, 3), (SAF_GRP_GENAC 0, 1), (SAF_GRP_GENBC 0, 1), (SAF_FN_STATE 0, 1), (PRF_AXST_STATE 1, 2)]).sf fun x => { x with payload := safPay 0x140 [(0x50, 1), (0x52, 50), (0x100, 1), (0x101, 1), (0x102, 2), (0x104, 3), (0x106, 200)], kPair := [(2, 2)] })), by decide +kernel⟩

theorem wit_SafetyFunctions_12 : ∃ (dt : Nat) (kerca b : Bool) (i : Fin 16) (level : Bool) (f : Fin 32) (s : State), s.safOn = true ∧ s.pairUse i ≠ 0 ∧ s.pairState (b2n kerca) i = 1 ∧ chanDemands (s.pairUse i) b level = true ∧ s.fnSrc f = i.val ∧ kerca = false ∧ 4 ≤ s.fnKind f ∧ s.fnKind f ≤ 6 ∧ s.fnState 0 f = 1 :=
  ⟨(5), (false), (false), (2), (false), (0), (((st [(SAF_ST_ACCEPTED, 1), (SAF_ST_FAULT, 0), (whole SAF_SINC, 0x40004), (SAF_PAIR_STATE 2, 1), (SAF_FN_STATE 0, 1)]).sf fun x => { x with payload := safPay 0x140 [(0x50, 1), (0x52, 50), (0x100, 4), (0x101, 0), (0x102, 2), (0x104, 3), (0x106, 200)] })), by decide +kernel⟩

theorem wit_SafetyFunctions_13 : ∃ (dt : Nat) (i : Fin 16) (s : State), (((s.elapse dt).splitFor 0 i 98 = true ∨ (s.elapse dt).splitFor 1 i 98 = true)) :=
  ⟨(49000005), (2), (((st [(SAF_ST_ACCEPTED, 1), (SAF_ST_FAULT, 0), (whole SAF_SINC, 0x40000), (whole SAF_SINK, 0x40000), (SAF_PAIR_STATE 2, 2)]).sf fun x => { x with payload := safPay 0x140 [(0x50, 1), (0x52, 50)], kPair := [(2, 2)], split := [(2, some 3)] })), by decide +kernel⟩

theorem wit_SafetyFunctions_14 : ∃ (dt : Nat) (i : Fin 16) (s : State), (¬ ((s.elapse dt).splitFor 0 i 98 = true ∨ (s.elapse dt).splitFor 1 i 98 = true)) :=
  ⟨(48000000), (2), (((st [(SAF_ST_ACCEPTED, 1), (SAF_ST_FAULT, 0), (SAF_PAIR_STATE 2, 2)]).sf fun x => { x with payload := safPay 0x140 [(0x50, 1), (0x52, 50)], kPair := [(2, 2)], split := [(2, some 3)] })), by decide +kernel⟩

theorem wit_SafetyFunctions_16 : ∃ (dt skew : Nat) (s : State), s.saf.press = none :=
  ⟨(5), (0), (State.reset), by decide +kernel⟩

theorem wit_SafetyFunctions_17 : ∃ (dt skew : Nat) (p : Nat) (s : State), s.saf.press = some p ∧ s.safOn = true ∧ s.get SAF_RST_STUCK = 1 :=
  ⟨(100000000), (0), (3), (((st [(SAF_ST_ACCEPTED, 1), (SAF_ST_FAULT, 0), (SAF_RST_STUCK, 1)]).sf fun x => { x with payload := safPay 0x140 [], press := some 3 })), by decide +kernel⟩

theorem wit_SafetyFunctions_18 : ∃ (dt skew : Nat) (p : Nat) (s : State), s.saf.press = some p ∧ s.get SAF_RST_STUCK = 0 ∧ (((s.elapse dt).clk.elapsed - p) ≤ 49500000 ∨ 3040000000 ≤ ((s.elapse dt).clk.elapsed - p)) :=
  ⟨(49000000), (0), (3), (((st [(SAF_ST_ACCEPTED, 1), (SAF_ST_FAULT, 0)]).sf fun x => { x with payload := safPay 0x140 [], press := some 3 })), by decide +kernel⟩

theorem wit_SafetyFunctions_19 : ∃ (dt skew : Nat) (p : Nat) (s : State), s.saf.press = some p ∧ s.safOn = true ∧ s.get SAF_RST_STUCK = 0 ∧ 50600000 ≤ ((s.elapse dt).clk.elapsed - p) ∧ ((s.elapse dt).clk.elapsed - p) ≤ 2970000000 ∧ 20000000 < skew :=
  ⟨(100000000), (20000001), (3), (((st [(SAF_ST_ACCEPTED, 1), (SAF_ST_FAULT, 0)]).sf fun x => { x with payload := safPay 0x140 [], press := some 3 })), by decide +kernel⟩

theorem wit_SafetyFunctions_20 : ∃ (dt skew : Nat) (p : Nat) (t : Fin 2) (f : Fin 32) (i : Fin 16) (s : State), s.saf.press = some p ∧ s.safOn = true ∧ s.get SAF_RST_STUCK = 0 ∧ 50600000 ≤ ((s.elapse dt).clk.elapsed - p) ∧ ((s.elapse dt).clk.elapsed - p) ≤ 2970000000 ∧ skew ≤ 20000000 ∧ s.evaluates t f = true ∧ s.fnKind f ≤ 3 ∧ s.fnSrc f = i.val ∧ s.fnState t f = 4 ∧ tabGet 0 s.saf.fnAt (32 * t.val + f.val) < p ∧ s.pairState t i = 1 ∧ s.demanding t i false = false ∧ s.demanding t i true = false :=
  ⟨(100000000), (0), (3), (1), (0), (2), (((st [(SAF_ST_ACCEPTED, 1), (SAF_ST_FAULT, 0), (whole SAF_SINC, 0x40004), (whole SAF_SINK, 0x40004), (SAF_FN_KSTATE 0, 4), (SAF_FN_STATE 0, 4), (SAF_PAIR_STATE 2, 1)]).sf fun x => { x with payload := safPay 0x140 [(0x50, 1), (0x52, 50), (0x100, 1), (0x101, 1), (0x102, 2), (0x104, 3), (0x106, 200)], kPair := [(2, 1)], press := some 3 })), by decide +kernel⟩

theorem wit_SafetyFunctions_21 : ∃ (dt skew : Nat) (p : Nat) (i : Fin 16) (s : State), s.saf.press = some p ∧ s.safOn = true ∧ s.get SAF_RST_STUCK = 0 ∧ 50600000 ≤ ((s.elapse dt).clk.elapsed - p) ∧ ((s.elapse dt).clk.elapsed - p) ≤ 2970000000 ∧ skew ≤ 20000000 ∧ s.pairUse i ≠ 0 ∧ s.get (SAF_PAIR_STATE i) = 5 ∧ tabGet 0 s.saf.pairAt i < p ∧ s.demanding 0 i false = false ∧ s.demanding 0 i true = false :=
  ⟨(100000000), (0), (3), (2), (((st [(SAF_ST_ACCEPTED, 1), (SAF_ST_FAULT, 0), (whole SAF_SINC, 0x40004), (whole SAF_SINK, 0x40004), (SAF_PAIR_STATE 2, 5)]).sf fun x => { x with payload := safPay 0x140 [(0x50, 1), (0x52, 50)], kPair := [(2, 5)], press := some 3 })), by decide +kernel⟩

theorem wit_SafetyFunctions_22 : ∃ (dt skew : Nat) (p : Nat) (s : State), s.saf.press = some p ∧ s.safOn = true ∧ s.get SAF_RST_STUCK = 0 ∧ 50600000 ≤ ((s.elapse dt).clk.elapsed - p) ∧ ((s.elapse dt).clk.elapsed - p) ≤ 2970000000 ∧ skew ≤ 20000000 ∧ (∀ i : Fin 16, s.get (SAF_PAIR_STATE i) ≠ 5 ∧ tabGet 0 s.saf.kPair i ≠ 5) ∧ (∀ f : Fin 32, s.get (SAF_FN_STATE f) ≠ 4 ∧ s.get (SAF_FN_STATE f) ≠ 6 ∧ s.get (SAF_FN_KSTATE f) ≠ 4 ∧ s.get (SAF_FN_KSTATE f) ≠ 6) :=
  ⟨(100000000), (0), (3), (State.reset.sf fun x => { x with press := some 3, payload := [1] }), by decide +kernel⟩

theorem wit_SafetyFunctions_23 : ∃ (dt skew : Nat) (p : Nat) (s : State), s.saf.press = some p ∧ s.safOn = false :=
  ⟨(100000000), (0), (3), (State.reset.sf fun x => { x with press := some 3 }), by decide +kernel⟩

theorem wit_SafetyFunctions_24 : ∃ (dt : Nat) (s : State), ((s.saf.press.any fun p => decide (p + 3000000000 ≤ (s.elapse dt).clk.elapsed)) = true) :=
  ⟨(3000000003), (((st [(SAF_ST_ACCEPTED, 1), (SAF_ST_FAULT, 0)]).sf fun x => { x with payload := safPay 0x140 [], press := some 3 })), by decide +kernel⟩

theorem wit_SafetyFunctions_25 : ∃ (dt : Nat) (s : State), ((s.saf.press.any fun p => decide (p + 3000000000 ≤ (s.elapse dt).clk.elapsed)) = false) :=
  ⟨(5), (State.reset), by decide +kernel⟩

theorem wit_SafetyFunctions_26 : ∃ (dt : Nat) (kerca : Bool) (f : Fin 32) (s : State), (s.evaluates (b2n kerca) f = true ∧ s.fnState (b2n kerca) f = 2 ∧ tabGet 0 s.saf.fnAt (32 * (b2n kerca) + f.val) + s.fnU f 6 2 * 990000 ≤ (s.elapse dt).clk.elapsed) :=
  ⟨(199000000), (true), (0), (((st [(SAF_ST_ACCEPTED, 1), (SAF_ST_FAULT, 0), (whole SAF_SINK, 0x40004), (SAF_FN_KSTATE 0, 2), (SAF_GRP_GENAC 0, 1), (SAF_GRP_GENBC 0, 1), (SAF_FN_STATE 0, 1), (PRF_AXST_STATE 1, 2)]).sf fun x => { x with payload := safPay 0x140 [(0x50, 1), (0x52, 50), (0x100, 2), (0x101, 0), (0x102, 2), (0x104, 3), (0x106, 200)], kPair := [(2, 1)] })), by decide +kernel⟩

theorem wit_SafetyFunctions_27 : ∃ (dt : Nat) (kerca : Bool) (f : Fin 32) (s : State), ¬ (s.evaluates (b2n kerca) f = true ∧ s.fnState (b2n kerca) f = 2 ∧ tabGet 0 s.saf.fnAt (32 * (b2n kerca) + f.val) + s.fnU f 6 2 * 990000 ≤ (s.elapse dt).clk.elapsed) :=
  ⟨(5), (true), (0), (State.reset), by decide +kernel⟩

theorem wit_SafetyFunctions_28 : ∃ (dt : Nat) (s : State), ¬ (s.safOn = true ∧ s.saf.measAt + 990000 ≤ (s.elapse dt).clk.elapsed) :=
  ⟨(5), (State.reset), by decide +kernel⟩

theorem wit_SafetyFunctions_29 : ∃ (dt : Nat) (f a : Fin 32) (s : State), (s.safOn = true ∧ s.saf.measAt + 990000 ≤ (s.elapse dt).clk.elapsed) ∧ bit (s.fnU f 0x0C 4) a = true ∧ 3 ≤ s.fnKind f :=
  ⟨(1000000), (0), (1), ((((st [(SAF_ST_ACCEPTED, 1), (SAF_ST_FAULT, 0), (SAF_FN_STATE 0, 1), (SAF_GRP_GENBC 0, 1)]).sf fun x => { x with payload := safPay 0x560 [(0x50, 1), (0x100, 4), (0x102, 0xFF), (0x103, 0xFF), (0x104, 3), (0x106, 200), (0x10C, 2), (0x110, 100), (0x530, 3), (0x531, 0xFF), (0x53C, 9)], place := [(1, 1000)] })).onPort 3 fun q => { q with x := 1050 }), by decide +kernel⟩

theorem wit_SafetyFunctions_30 : ∃ (dt : Nat) (f a : Fin 32) (s : State), (s.safOn = true ∧ s.saf.measAt + 990000 ≤ (s.elapse dt).clk.elapsed) ∧ bit (s.fnU f 0x0C 4) a = true ∧ s.fnKind f = 4 ∧ s.get (SAF_FN_STATE f) = 5 ∧ s.fnLim f < (satSigned 32 (s.shaft a - tabGet (s.shaft a) s.saf.place a)).natAbs :=
  ⟨(1000000), (0), (1), ((((st [(SAF_ST_ACCEPTED, 1), (SAF_ST_FAULT, 0), (SAF_FN_STATE 0, 5), (SAF_GRP_GENBC 0, 1)]).sf fun x => { x with payload := safPay 0x560 [(0x50, 1), (0x100, 4), (0x102, 0xFF), (0x103, 0xFF), (0x104, 3), (0x106, 200), (0x10C, 2), (0x110, 100), (0x530, 3), (0x531, 0xFF), (0x53C, 9)], place := [(1, 1000)] })).onPort 3 fun q => { q with x := 1101 }), by decide +kernel⟩

theorem wit_SafetyFunctions_31 : ∃ (dt : Nat) (f : Fin 32) (s : State), (s.safOn = true ∧ s.saf.measAt + 990000 ≤ (s.elapse dt).clk.elapsed) ∧ s.fnKind f = 4 ∧ s.get (SAF_FN_STATE f) = 5 ∧ s.fnSrc f = 0xFFFF ∧ (∀ a : Fin 32, bit (s.fnU f 0x0C 4) a = true → (satSigned 32 (s.shaft a - tabGet (s.shaft a) s.saf.place a)).natAbs ≤ s.fnLim f) :=
  ⟨(1000000), (0), ((((st [(SAF_ST_ACCEPTED, 1), (SAF_ST_FAULT, 0), (SAF_FN_STATE 0, 5), (SAF_GRP_GENBC 0, 1)]).sf fun x => { x with payload := safPay 0x560 [(0x50, 1), (0x100, 4), (0x102, 0xFF), (0x103, 0xFF), (0x104, 3), (0x106, 200), (0x10C, 2), (0x110, 100), (0x530, 3), (0x531, 0xFF), (0x53C, 9)], place := [(1, 1000)] })).onPort 3 fun q => { q with x := 1100 }), by decide +kernel⟩

theorem wit_SafetyFunctions_32 : ∃ (dt : Nat) (f a : Fin 32) (s : State), (s.safOn = true ∧ s.saf.measAt + 990000 ≤ (s.elapse dt).clk.elapsed) ∧ bit (s.fnU f 0x0C 4) a = true ∧ s.fnKind f = 5 ∧ s.get (SAF_FN_STATE f) = 5 ∧ (s.fnLim f : Int) < (s.shaft a - tabGet (s.shaft a) s.saf.base (32 * f.val + a.val)).natAbs :=
  ⟨(1000000), (0), (1), ((((st [(SAF_ST_ACCEPTED, 1), (SAF_ST_FAULT, 0), (SAF_FN_STATE 0, 5), (SAF_GRP_GENBC 0, 1)]).sf fun x => { x with payload := safPay 0x560 [(0x50, 1), (0x100, 5), (0x102, 0xFF), (0x103, 0xFF), (0x104, 3), (0x106, 200), (0x10C, 2), (0x110, 100), (0x530, 3), (0x531, 0xFF), (0x53C, 9)], place := [(1, 1000)], base := [(1, 900)] })).onPort 3 fun q => { q with x := 1050 }), by decide +kernel⟩

theorem wit_SafetyFunctions_33 : ∃ (dt : Nat) (f : Fin 32) (s : State), (s.safOn = true ∧ s.saf.measAt + 990000 ≤ (s.elapse dt).clk.elapsed) ∧ s.fnKind f = 3 ∧ s.get (SAF_FN_STATE f) = 2 ∧ (∀ a : Fin 32, bit (s.fnU f 0x0C 4) a = true → (satSigned 32 (s.shaft a - tabGet (s.shaft a) s.saf.place a)).natAbs ≤ s.monU a 0x0C 4) :=
  ⟨(1000000), (0), ((((st [(SAF_ST_ACCEPTED, 1), (SAF_ST_FAULT, 0), (SAF_FN_STATE 0, 2), (SAF_GRP_GENBC 0, 1)]).sf fun x => { x with payload := safPay 0x560 [(0x50, 1), (0x100, 3), (0x102, 0xFF), (0x103, 0xFF), (0x104, 3), (0x106, 200), (0x10C, 2), (0x110, 100), (0x530, 3), (0x531, 0xFF), (0x53C, 9)], place := [(1, 1000)] })).onPort 3 fun q => { q with x := 1004 }), by decide +kernel⟩

theorem wit_SafetyFunctions_34 : ∃ (dt : Nat) (f a : Fin 32) (s : State), (s.safOn = true ∧ s.saf.measAt + 990000 ≤ (s.elapse dt).clk.elapsed) ∧ bit (s.fnU f 0x0C 4) a = true ∧ 3 ≤ s.fnKind f ∧ s.monU a 1 1 ≠ 0xFF ∧ s.get (SAF_AX_XFLT a) = 0 ∧ s.monU a 8 4 < ((s.shaft a - (tabGet (0, 0) s.saf.cap a).1) - ((s.prt (s.monU a 1 1)).x - (tabGet (0, 0) s.saf.cap a).2) * 65536 / max 1 (s.monU a 4 4 : Int)).natAbs :=
  ⟨(1000000), (0), (1), ((((st [(SAF_ST_ACCEPTED, 1), (SAF_ST_FAULT, 0), (SAF_FN_STATE 0, 1), (SAF_GRP_GENBC 0, 1)]).sf fun x => { x with payload := safPay 0x560 [(0x50, 1), (0x100, 4), (0x102, 0xFF), (0x103, 0xFF), (0x104, 3), (0x106, 200), (0x10C, 2), (0x110, 100), (0x530, 3), (0x531, 4), (0x536, 1), (0x538, 9)], place := [(1, 1000)] })).onPort 3 fun q => { q with x := 1050 }), by decide +kernel⟩

theorem wit_SafetyFunctions_35 : ∃ (dt : Nat) (p : Fin 34) (fr : Frame) (s : State), tabFind s.saf.ports p = none :=
  ⟨(5), (3), (⟨false, true, [], []⟩), (State.reset), by decide +kernel⟩

theorem wit_SafetyFunctions_36 : ∃ (dt : Nat) (p : Fin 34) (fr : Frame) (y : Nat) (s : State), (tabFind s.saf.ports p).isSome = true ∧ s.fbMode p = 1 ∧ s.ssiDecode p fr = .inl y ∧ s.jumpTh p = 0 ∧ (s.prt p).last = none :=
  ⟨(5), (4), (⟨true, true, [], [true, true, false, false, false, false, false, true, true]⟩), (0xC1), ((st [(whole PRF_TBASE, 0x80100000)]).sf fun x => { x with ports := [(4, safPay 128 [(0, 4), (1, 1), (2, 8), (4, 2), (5, 1)])] }), by decide +kernel⟩

theorem wit_SafetyFunctions_37 : ∃ (dt : Nat) (p : Fin 34) (fr : Frame) (e : Nat) (s : State), (tabFind s.saf.ports p).isSome = true ∧ s.fbMode p = 1 ∧ s.ssiDecode p fr = .inr e :=
  ⟨(5), (4), (⟨true, true, [], [true, true, false, false, false, false, false, true, false]⟩), (7), ((st [(whole PRF_TBASE, 0x80100000)]).sf fun x => { x with ports := [(4, safPay 128 [(0, 4), (1, 1), (2, 8), (4, 2), (5, 3)])] }), by decide +kernel⟩

theorem wit_SafetySupervision_1 : ∃ (dt : Nat) (g : Fin 8) (b high : Bool) (s : State), (s.safOn = false ∨ (lineOf s (if b = true then 0 else 1) g = b2n high)) :=
  ⟨(5), (1), (true), (false), (State.reset), by decide +kernel⟩

theorem wit_SafetySupervision_2 : ∃ (dt : Nat) (g : Fin 8) (b : Bool) (s : State), s.safOn = true ∧ (lineOf s (if b = true then 0 else 1) g = 0) ∧ s.get SAF_ST_FAULT = 0 :=
  ⟨(5), (1), (true), (((st [(SAF_ST_ACCEPTED, 1), (SAF_ST_FAULT, 0), (SAF_GRP_GENAC 2, 1), (SAF_GRP_GENBC 1, 0)]).sf fun x => { x with payload := safPay 0x140 [(1, 1)] })), by decide +kernel⟩

theorem wit_SafetySupervision_3 : ∃ (dt : Nat) (g : Fin 8) (b : Bool) (s : State), s.safOn = true ∧ (lineOf s (if b = true then 0 else 1) g = 0) ∧ s.get SAF_ST_FAULT = 1 :=
  ⟨(5), (1), (true), (((st [(SAF_ST_ACCEPTED, 1), (SAF_ST_FAULT, 0), (SAF_ST_FAULT, 1), (SAF_GRP_GENBC 1, 0)]).sf fun x => { x with payload := safPay 0x140 [(1, 1)] })), by decide +kernel⟩

theorem wit_SafetySupervision_4 : ∃ (dt : Nat) (g : Fin 8) (b : Bool) (s : State), s.safOn = true ∧ (lineOf s (if b = true then 0 else 1) g = 1) :=
  ⟨(5), (1), (false), (((st [(SAF_ST_ACCEPTED, 1), (SAF_ST_FAULT, 0), (SAF_GRP_GENAC 1, 1)]).sf fun x => { x with payload := safPay 0x140 [(1, 1)] })), by decide +kernel⟩

theorem wit_SafetySupervision_5 : ∃ (dt : Nat) (g : Fin 8) (s : State), ((s.get (SAF_GRP_GENAC g) = 1 ∧ s.get (SAF_GRP_GENBC g) = 1 ∧ (tabFind s.saf.freeAt g).any (fun t => decide (t + 604800000000000 ≤ (s.elapse dt).clk.elapsed)) = true)) :=
  ⟨(604800000000003), (1), (((st [(SAF_ST_ACCEPTED, 1), (SAF_ST_FAULT, 0), (SAF_GRP_GENAC 1, 1), (SAF_GRP_GENBC 1, 1)]).sf fun x => { x with payload := safPay 0x140 [(1, 1)], freeAt := [(1, 3)] })), by decide +kernel⟩

theorem wit_SafetySupervision_6 : ∃ (dt : Nat) (g : Fin 8) (s : State), (¬ (s.get (SAF_GRP_GENAC g) = 1 ∧ s.get (SAF_GRP_GENBC g) = 1 ∧ (tabFind s.saf.freeAt g).any (fun t => decide (t + 604800000000000 ≤ (s.elapse dt).clk.elapsed)) = true)) :=
  ⟨(5), (1), (State.reset), by decide +kernel⟩

theorem wit_SafetySupervision_7 : ∃ (dt : Nat) (k : Fin 8) (som stays : Bool) (s : State), ((s.safU (0xC0 + 8 * k.val) 1 ≠ 0 ∧ stays = true ∧ s.get (SAF_SO_FLT k) = 0 ∧ (s.switchOn k som = false ∨ s.safU (0xC2 + 8 * k.val) 1 = 1))) :=
  ⟨(5), (0), (true), (true), (((st [(SAF_ST_ACCEPTED, 1), (SAF_ST_FAULT, 0), (SAF_GRP_GENBC 0, 1)]).sf fun x => { x with payload := safPay 0x140 [(0xC0, 1), (0xC2, 1)] })), by decide +kernel⟩

theorem wit_SafetySupervision_8 : ∃ (dt : Nat) (k : Fin 8) (som stays : Bool) (s : State), (¬ (s.safU (0xC0 + 8 * k.val) 1 ≠ 0 ∧ stays = true ∧ s.get (SAF_SO_FLT k) = 0 ∧ (s.switchOn k som = false ∨ s.safU (0xC2 + 8 * k.val) 1 = 1))) :=
  ⟨(5), (0), (true), (true), (State.reset), by decide +kernel⟩

theorem wit_SafetySupervision_9 : ∃ (dt : Nat) (n : Fin 64) (s : State), (¬ (s.get (SAF_CONN_STATE n) ≠ 0 ∧ (tabFind s.saf.sentCyc n).all (fun c => decide (s.connU n 1 1 ≤ (s.rd RNG_CYCNT + 2 ^ 32 - c) % 2 ^ 32)) = true)) :=
  ⟨(5), (0), (State.reset), by decide +kernel⟩

theorem wit_SafetySupervision_10 : ∃ (dt : Nat) (n : Fin 64) (s : State), ((s.get (SAF_CONN_STATE n) ≠ 0 ∧ (tabFind s.saf.sentCyc n).all (fun c => decide (s.connU n 1 1 ≤ (s.rd RNG_CYCNT + 2 ^ 32 - c) % 2 ^ 32)) = true)) :=
  ⟨(5), (0), (((st [(SAF_ST_ACCEPTED, 1), (SAF_ST_FAULT, 0), (RNG_CFG_ROLE, 1), (SAF_CONN_STATE 0, 1), (SAF_PAIR_STATE 2, 1)]).sf fun x => { x with payload := safPay 0xB10 [(0x3C, 1), (0xB00, 5), (0xB01, 2), (0xB02, 20), (0xB04, 0x77), (0xB08, 8)] })), by decide +kernel⟩

theorem wit_SafetySupervision_11 : ∃ (dt : Nat) (n : Fin 64) (s : State), s.get (SAF_CONN_STATE n) ≠ 1 ∧ s.get (SAF_CONN_STATE n) ≠ 2 :=
  ⟨(5), (0), (State.reset), by decide +kernel⟩

theorem wit_SafetySupervision_12 : ∃ (dt : Nat) (n : Fin 64) (s : State), (s.get (SAF_CONN_STATE n) = 1 ∨ s.get (SAF_CONN_STATE n) = 2) ∧ (crc32c (leBytes 4 (if s.get RNG_CFG_ROLE = 1 then s.connU n 4 4 ^^^ 0x80000000 else s.connU n 4 4) ++ (slice (tabGet [] s.ring.sin (if s.get RNG_CFG_ROLE = 1 then s.connU n 0 1 else 0)) 0 24).take 20) ≠ leAt (slice (tabGet [] s.ring.sin (if s.get RNG_CFG_ROLE = 1 then s.connU n 0 1 else 0)) 0 24) 20 4) :=
  ⟨(5), (0), ((((st [(SAF_ST_ACCEPTED, 1), (SAF_ST_FAULT, 0), (RNG_CFG_ROLE, 1), (SAF_CONN_STATE 0, 2)]).sf fun x => { x with payload := safPay 0xB10 [(0x3C, 1), (0xB00, 5), (0xB01, 2), (0xB02, 20), (0xB04, 0x77), (0xB08, 8)] })).onRing fun r => { r with sin := [(5, safPdu 0x78 7 1 [1, 1, 1, 1, 1, 1, 1, 1])] }), by decide +kernel⟩

theorem wit_SafetySupervision_13 : ∃ (dt : Nat) (n : Fin 64) (s : State), s.get (SAF_CONN_STATE n) = 1 ∧ (crc32c (leBytes 4 (if s.get RNG_CFG_ROLE = 1 then s.connU n 4 4 ^^^ 0x80000000 else s.connU n 4 4) ++ (slice (tabGet [] s.ring.sin (if s.get RNG_CFG_ROLE = 1 then s.connU n 0 1 else 0)) 0 24).take 20) = leAt (slice (tabGet [] s.ring.sin (if s.get RNG_CFG_ROLE = 1 then s.connU n 0 1 else 0)) 0 24) 20 4) ∧ (bit (leAt (slice (tabGet [] s.ring.sin (if s.get RNG_CFG_ROLE = 1 then s.connU n 0 1 else 0)) 0 24) 2 1) 0 = true) ∧ (bit (leAt (slice (tabGet [] s.ring.sin (if s.get RNG_CFG_ROLE = 1 then s.connU n 0 1 else 0)) 0 24) 2 1) 1 = false) :=
  ⟨(5), (0), ((((st [(SAF_ST_ACCEPTED, 1), (SAF_ST_FAULT, 0), (RNG_CFG_ROLE, 1), (SAF_CONN_STATE 0, 1)]).sf fun x => { x with payload := safPay 0xB10 [(0x3C, 1), (0xB00, 5), (0xB01, 2), (0xB02, 20), (0xB04, 0x77), (0xB08, 8)] })).onRing fun r => { r with sin := [(5, safPdu 0x80000077 7 1 [1, 1, 1, 1, 1, 1, 1, 1])] }), by decide +kernel⟩

theorem wit_SafetySupervision_14 : ∃ (dt : Nat) (n : Fin 64) (s : State), s.get (SAF_CONN_STATE n) = 1 ∧ (crc32c (leBytes 4 (if s.get RNG_CFG_ROLE = 1 then s.connU n 4 4 ^^^ 0x80000000 else s.connU n 4 4) ++ (slice (tabGet [] s.ring.sin (if s.get RNG_CFG_ROLE = 1 then s.connU n 0 1 else 0)) 0 24).take 20) = leAt (slice (tabGet [] s.ring.sin (if s.get RNG_CFG_ROLE = 1 then s.connU n 0 1 else 0)) 0 24) 20 4) ∧ (bit (leAt (slice (tabGet [] s.ring.sin (if s.get RNG_CFG_ROLE = 1 then s.connU n 0 1 else 0)) 0 24) 2 1) 1 = true) ∧ (bit (leAt (slice (tabGet [] s.ring.sin (if s.get RNG_CFG_ROLE = 1 then s.connU n 0 1 else 0)) 0 24) 2 1) 0 = true ∨ tabGet false s.saf.heard n = true) :=
  ⟨(5), (0), ((((st [(SAF_ST_ACCEPTED, 1), (SAF_ST_FAULT, 0), (RNG_CFG_ROLE, 1), (SAF_CONN_STATE 0, 1)]).sf fun x => { x with payload := safPay 0xB10 [(0x3C, 1), (0xB00, 5), (0xB01, 2), (0xB02, 20), (0xB04, 0x77), (0xB08, 8)] })).onRing fun r => { r with sin := [(5, safPdu 0x80000077 7 3 [1, 1, 1, 1, 1, 1, 1, 1])] }), by decide +kernel⟩

theorem wit_SafetySupervision_15 : ∃ (dt : Nat) (n : Fin 64) (s : State), s.get (SAF_CONN_STATE n) = 1 ∧ (crc32c (leBytes 4 (if s.get RNG_CFG_ROLE = 1 then s.connU n 4 4 ^^^ 0x80000000 else s.connU n 4 4) ++ (slice (tabGet [] s.ring.sin (if s.get RNG_CFG_ROLE = 1 then s.connU n 0 1 else 0)) 0 24).take 20) = leAt (slice (tabGet [] s.ring.sin (if s.get RNG_CFG_ROLE = 1 then s.connU n 0 1 else 0)) 0 24) 20 4) ∧ (bit (leAt (slice (tabGet [] s.ring.sin (if s.get RNG_CFG_ROLE = 1 then s.connU n 0 1 else 0)) 0 24) 2 1) 0 = false) ∧ (bit (leAt (slice (tabGet [] s.ring.sin (if s.get RNG_CFG_ROLE = 1 then s.connU n 0 1 else 0)) 0 24) 2 1) 1 = false ∨ tabGet false s.saf.heard n = false) :=
  ⟨(5), (0), ((((st [(SAF_ST_ACCEPTED, 1), (SAF_ST_FAULT, 0), (RNG_CFG_ROLE, 1), (SAF_CONN_STATE 0, 1)]).sf fun x => { x with payload := safPay 0xB10 [(0x3C, 1), (0xB00, 5), (0xB01, 2), (0xB02, 20), (0xB04, 0x77), (0xB08, 8)] })).onRing fun r => { r with sin := [(5, safPdu 0x80000077 7 0 [1, 1, 1, 1, 1, 1, 1, 1])] }), by decide +kernel⟩

theorem wit_SafetySupervision_16 : ∃ (dt : Nat) (n : Fin 64) (s : State), s.get (SAF_CONN_STATE n) = 2 ∧ (crc32c (leBytes 4 (if s.get RNG_CFG_ROLE = 1 then s.connU n 4 4 ^^^ 0x80000000 else s.connU n 4 4) ++ (slice (tabGet [] s.ring.sin (if s.get RNG_CFG_ROLE = 1 then s.connU n 0 1 else 0)) 0 24).take 20) = leAt (slice (tabGet [] s.ring.sin (if s.get RNG_CFG_ROLE = 1 then s.connU n 0 1 else 0)) 0 24) 20 4) ∧ (((leAt (slice (tabGet [] s.ring.sin (if s.get RNG_CFG_ROLE = 1 then s.connU n 0 1 else 0)) 0 24) 0 2 + 65536 - s.get (SAF_CSEQ_RXSEQ n)) % 65536) = 0) :=
  ⟨(5), (0), ((((st [(SAF_ST_ACCEPTED, 1), (SAF_ST_FAULT, 0), (RNG_CFG_ROLE, 1), (SAF_CONN_STATE 0, 2), (SAF_CSEQ_RXSEQ 0, 7)]).sf fun x => { x with payload := safPay 0xB10 [(0x3C, 1), (0xB00, 5), (0xB01, 2), (0xB02, 20), (0xB04, 0x77), (0xB08, 8)] })).onRing fun r => { r with sin := [(5, safPdu 0x80000077 7 2 [1, 1, 1, 1, 1, 1, 1, 1])] }), by decide +kernel⟩

theorem wit_SafetySupervision_17 : ∃ (dt : Nat) (n : Fin 64) (s : State), s.get (SAF_CONN_STATE n) = 2 ∧ (crc32c (leBytes 4 (if s.get RNG_CFG_ROLE = 1 then s.connU n 4 4 ^^^ 0x80000000 else s.connU n 4 4) ++ (slice (tabGet [] s.ring.sin (if s.get RNG_CFG_ROLE = 1 then s.connU n 0 1 else 0)) 0 24).take 20) = leAt (slice (tabGet [] s.ring.sin (if s.get RNG_CFG_ROLE = 1 then s.connU n 0 1 else 0)) 0 24) 20 4) ∧ ((1 ≤ ((leAt (slice (tabGet [] s.ring.sin (if s.get RNG_CFG_ROLE = 1 then s.connU n 0 1 else 0)) 0 24) 0 2 + 65536 - s.get (SAF_CSEQ_RXSEQ n)) % 65536) ∧ ((leAt (slice (tabGet [] s.ring.sin (if s.get RNG_CFG_ROLE = 1 then s.connU n 0 1 else 0)) 0 24) 0 2 + 65536 - s.get (SAF_CSEQ_RXSEQ n)) % 65536) ≤ 64 ∧ bit (leAt (slice (tabGet [] s.ring.sin (if s.get RNG_CFG_ROLE = 1 then s.connU n 0 1 else 0)) 0 24) 2 1) 0 = false ∧ bit (leAt (slice (tabGet [] s.ring.sin (if s.get RNG_CFG_ROLE = 1 then s.connU n 0 1 else 0)) 0 24) 2 1) 1 = true ∧ leAt (slice (tabGet [] s.ring.sin (if s.get RNG_CFG_ROLE = 1 then s.connU n 0 1 else 0)) 0 24) 3 1 = s.connU n 8 1)) :=
  ⟨(5), (0), ((((st [(SAF_ST_ACCEPTED, 1), (SAF_ST_FAULT, 0), (RNG_CFG_ROLE, 1), (SAF_CONN_STATE 0, 2), (SAF_CSEQ_RXSEQ 0, 0xFFFF)]).sf fun x => { x with payload := safPay 0xB10 [(0x3C, 1), (0xB00, 5), (0xB01, 2), (0xB02, 20), (0xB04, 0x77), (0xB08, 8)] })).onRing fun r => { r with sin := [(5, safPdu 0x80000077 7 2 [1, 1, 1, 1, 1, 1, 1, 1])] }), by decide +kernel⟩

theorem wit_SafetySupervision_18 : ∃ (dt : Nat) (n : Fin 64) (s : State), s.get (SAF_CONN_STATE n) = 2 ∧ (crc32c (leBytes 4 (if s.get RNG_CFG_ROLE = 1 then s.connU n 4 4 ^^^ 0x80000000 else s.connU n 4 4) ++ (slice (tabGet [] s.ring.sin (if s.get RNG_CFG_ROLE = 1 then s.connU n 0 1 else 0)) 0 24).take 20) = leAt (slice (tabGet [] s.ring.sin (if s.get RNG_CFG_ROLE = 1 then s.connU n 0 1 else 0)) 0 24) 20 4) ∧ (((leAt (slice (tabGet [] s.ring.sin (if s.get RNG_CFG_ROLE = 1 then s.connU n 0 1 else 0)) 0 24) 0 2 + 65536 - s.get (SAF_CSEQ_RXSEQ n)) % 65536) ≠ 0) ∧ (¬ (1 ≤ ((leAt (slice (tabGet [] s.ring.sin (if s.get RNG_CFG_ROLE = 1 then s.connU n 0 1 else 0)) 0 24) 0 2 + 65536 - s.get (SAF_CSEQ_RXSEQ n)) % 65536) ∧ ((leAt (slice (tabGet [] s.ring.sin (if s.get RNG_CFG_ROLE = 1 then s.connU n 0 1 else 0)) 0 24) 0 2 + 65536 - s.get (SAF_CSEQ_RXSEQ n)) % 65536) ≤ 64 ∧ bit (leAt (slice (tabGet [] s.ring.sin (if s.get RNG_CFG_ROLE = 1 then s.connU n 0 1 else 0)) 0 24) 2 1) 0 = false ∧ bit (leAt (slice (tabGet [] s.ring.sin (if s.get RNG_CFG_ROLE = 1 then s.connU n 0 1 else 0)) 0 24) 2 1) 1 = true ∧ leAt (slice (tabGet [] s.ring.sin (if s.get RNG_CFG_ROLE = 1 then s.connU n 0 1 else 0)) 0 24) 3 1 = s.connU n 8 1)) :=
  ⟨(5), (0), ((((st [(SAF_ST_ACCEPTED, 1), (SAF_ST_FAULT, 0), (RNG_CFG_ROLE, 1), (SAF_CONN_STATE 0, 2)]).sf fun x => { x with payload := safPay 0xB10 [(0x3C, 1), (0xB00, 5), (0xB01, 2), (0xB02, 20), (0xB04, 0x77), (0xB08, 8)] })).onRing fun r => { r with sin := [(5, safPdu 0x80000077 7 3 [1, 1, 1, 1, 1, 1, 1, 1])] }), by decide +kernel⟩

theorem wit_SafetySupervision_19 : ∃ (dt : Nat) (n : Fin 64) (s : State), (s.get (SAF_CONN_STATE n) = 2 ∧ tabGet 0 s.saf.freshAt n + s.connU n 2 2 * 1000000 ≤ (s.elapse dt).clk.elapsed) :=
  ⟨(20000000), (0), (((st [(SAF_ST_ACCEPTED, 1), (SAF_ST_FAULT, 0), (RNG_CFG_ROLE, 1), (SAF_CONN_STATE 0, 2)]).sf fun x => { x with payload := safPay 0xB10 [(0x3C, 1), (0xB00, 5), (0xB01, 2), (0xB02, 20), (0xB04, 0x77), (0xB08, 8)] })), by decide +kernel⟩

theorem wit_SafetySupervision_20 : ∃ (dt : Nat) (n : Fin 64) (s : State), ¬ (s.get (SAF_CONN_STATE n) = 2 ∧ tabGet 0 s.saf.freshAt n + s.connU n 2 2 * 1000000 ≤ (s.elapse dt).clk.elapsed) :=
  ⟨(5), (0), (State.reset), by decide +kernel⟩

theorem wit_SafetySupervision_21 : ∃ (dt : Nat) (core kerca : Bool) (s : State), s.safOn = false :=
  ⟨(5), (true), (true), (State.reset), by decide +kernel⟩

theorem wit_SafetySupervision_22 : ∃ (dt : Nat) (core kerca : Bool) (s : State), s.safOn = true ∧ ((core = true ∨ (s.elapse dt).clk.elapsed < s.saf.hbCore + 500000)) ∧ ((kerca = true ∨ (s.elapse dt).clk.elapsed < s.saf.hbKerca + 500000)) :=
  ⟨(5), (true), (false), (((st [(SAF_ST_ACCEPTED, 1), (SAF_ST_FAULT, 0)]).sf fun x => { x with payload := safPay 0x140 [(1, 1)] })), by decide +kernel⟩

theorem wit_SafetySupervision_23 : ∃ (dt : Nat) (core kerca : Bool) (s : State), s.safOn = true ∧ s.get SAF_ST_FAULT = 0 ∧ (¬ (core = true ∨ (s.elapse dt).clk.elapsed < s.saf.hbCore + 500000)) :=
  ⟨(500000), (false), (false), (((st [(SAF_ST_ACCEPTED, 1), (SAF_ST_FAULT, 0), (SAF_GRP_GENAC 2, 1)]).sf fun x => { x with payload := safPay 0x140 [(1, 1)] })), by decide +kernel⟩

theorem wit_SafetySupervision_24 : ∃ (dt : Nat) (core kerca : Bool) (s : State), s.safOn = true ∧ s.get SAF_ST_FAULT = 0 ∧ ((core = true ∨ (s.elapse dt).clk.elapsed < s.saf.hbCore + 500000)) ∧ (¬ (kerca = true ∨ (s.elapse dt).clk.elapsed < s.saf.hbKerca + 500000)) :=
  ⟨(500000), (true), (false), (((st [(SAF_ST_ACCEPTED, 1), (SAF_ST_FAULT, 0), (SAF_GRP_GENAC 2, 1)]).sf fun x => { x with payload := safPay 0x140 [(1, 1)] })), by decide +kernel⟩

theorem wit_SafetySupervision_25 : ∃ (dt : Nat) (s : State), s.safOn = false :=
  ⟨(5), (State.reset), by decide +kernel⟩

theorem wit_SafetySupervision_26 : ∃ (dt : Nat) (i : Fin 16) (t0 : Nat) (s : State), s.safOn = true ∧ s.get SAF_ST_FAULT = 0 ∧ s.saf.apart = some t0 ∧ t0 + 10000000 < (s.elapse dt).clk.elapsed ∧ s.pairUse i = 0 ∧ s.pairState 0 i ≠ s.pairState 1 i ∧ (∀ j : Fin 16, ((s.elapse dt).splitFor 0 j 102 = false ∧ (s.elapse dt).splitFor 1 j 102 = false)) :=
  ⟨(10000005), (2), (3), (((st [(SAF_ST_ACCEPTED, 1), (SAF_ST_FAULT, 0), (SAF_PAIR_STATE 2, 1)]).sf fun x => { x with payload := safPay 0x140 [(0x48, 0)], kPair := [], apart := some 3 })), by decide +kernel⟩

theorem wit_SafetySupervision_27 : ∃ (dt : Nat) (i : Fin 16) (s : State), s.safOn = true ∧ ((s.elapse dt).splitFor 0 i 102 = true ∨ (s.elapse dt).splitFor 1 i 102 = true) ∧ s.pairUse i ≠ 0 :=
  ⟨(51000005), (2), (((st [(SAF_ST_ACCEPTED, 1), (SAF_ST_FAULT, 0), (whole SAF_SINC, 0x40000), (whole SAF_SINK, 0x40000), (SAF_PAIR_STATE 2, 2)]).sf fun x => { x with payload := safPay 0x140 [(0x50, 1), (0x52, 50)], kPair := [(2, 2)], split := [(2, some 3)] })), by decide +kernel⟩

theorem wit_SafetySupervision_28 : ∃ (dt : Nat) (s : State), s.safOn = true ∧ (∀ j : Fin 16, s.pairUse j = 0 ∧ s.pairState 0 j = s.pairState 1 j) ∧ (∀ f : Fin 32, s.fnKind f = 0) :=
  ⟨(51000005), (((st [(SAF_ST_ACCEPTED, 1), (SAF_ST_FAULT, 0)]).sf fun x => { x with payload := safPay 0x140 [(1, 1)], kPair := [(3, 0)], apart := some 3 })), by decide +kernel⟩

theorem wit_SafetySupervision_29 : ∃ (dt : Nat) (s : State), ((s.saf.lockAt.any fun t => decide (t + 60000000000 ≤ (s.elapse dt).clk.elapsed)) = true) :=
  ⟨(60000000000), ((st [(SAF_ST_PWLOCK, 1)]).sf fun x => { x with lockAt := some 0 }), by decide +kernel⟩

theorem wit_SafetySupervision_30 : ∃ (dt : Nat) (s : State), ((s.saf.lockAt.any fun t => decide (t + 60000000000 ≤ (s.elapse dt).clk.elapsed)) = false) :=
  ⟨(5), (State.reset), by decide +kernel⟩

theorem wit_ServicePort_1 : ∃ (dt : Nat) (ip : BitVec 32) (port : BitVec 16) (udp : Udp) (f : List (BitVec 8)) (s : State), (¬ Answers s ∨ ¬ Addressed s udp ∨ (ServiceFrame udp.frag f ∧ (2 ≤ leAt f 1 1 ∧ leAt f 1 1 ≤ 0xC ∧ (leAt f 1 1 ≠ 0xB ∨ leAt (frameBody f) 0 1 ∈ [1, 2, 3])))) :=
  ⟨(5), (0x0A000007), (99), (⟨0, 0, false⟩), (svcFrame 1 0 0 7 ([])), (((st [(CFG_STATE_STATE, 4)]).onBoot fun b => { b with net := some (List.replicate 16 0 ++ [10, 0, 0, 7]) })), by decide +kernel⟩

theorem wit_ServicePort_2 : ∃ (dt : Nat) (ip : BitVec 32) (port : BitVec 16) (udp : Udp) (f : List (BitVec 8)) (s : State), Answers s ∧ Addressed s udp ∧ ServiceFrame udp.frag f ∧ leAt f 1 1 = 0x1 ∧ keptOf s ip.toNat port.toNat = some { who := { ip := ip.toNat, port := port.toNat }, seq := leAt f 4 2, resp := none } :=
  ⟨(5), (0x0A000007), (99), (⟨0, 0, false⟩), (svcFrame 1 0 0 7 ([])), (endOf 7 none ((st [(CFG_STATE_STATE, 8)]).onBoot fun b => { b with net := some (List.replicate 16 0 ++ [10, 0, 0, 7]) })), by decide +kernel⟩

theorem wit_ServicePort_3 : ∃ (dt : Nat) (ip : BitVec 32) (port : BitVec 16) (udp : Udp) (f : List (BitVec 8)) (s : State), Answers s ∧ Addressed s udp ∧ ¬ ServiceFrame udp.frag f :=
  ⟨(5), (0x0A000007), (99), (⟨0, 0, true⟩), (svcFrame 1 0 0 7 ([])), (((st [(CFG_STATE_STATE, 8), (SVC_STAT_BAD, 65535)]).onBoot fun b => { b with net := some (List.replicate 16 0 ++ [10, 0, 0, 7]) })), by decide +kernel⟩

theorem wit_ServicePort_4 : ∃ (dt : Nat) (ip : BitVec 32) (port : BitVec 16) (udp : Udp) (f : List (BitVec 8)) (k : List Byte) (s : State), Answers s ∧ Addressed s udp ∧ ServiceFrame udp.frag f ∧ leAt f 1 1 = 0x1 ∧ keptOf s ip.toNat port.toNat = some { who := { ip := ip.toNat, port := port.toNat }, seq := leAt f 4 2, resp := some k } :=
  ⟨(5), (0x0A000007), (99), (⟨0, 0, false⟩), (svcFrame 1 0 0 7 ([])), ([5, 6]), (endOf 7 (some [5, 6]) ((st [(CFG_STATE_STATE, 8)]).onBoot fun b => { b with net := some (List.replicate 16 0 ++ [10, 0, 0, 7]) })), by decide +kernel⟩

theorem wit_ServicePort_5 : ∃ (dt : Nat) (ip : BitVec 32) (port : BitVec 16) (udp : Udp) (f : List (BitVec 8)) (q : Nat) (s : State), Answers s ∧ Addressed s udp ∧ ServiceFrame udp.frag f ∧ leAt f 1 1 = 0x1 ∧ q ≠ leAt f 4 2 ∧ keptOf s ip.toNat port.toNat = some { who := { ip := ip.toNat, port := port.toNat }, seq := q, resp := none } :=
  ⟨(5), (0x0A000007), (99), (⟨0, 0, false⟩), (svcFrame 1 0 0 7 ([])), (6), (endOf 6 none ((st [(CFG_STATE_STATE, 8)]).onBoot fun b => { b with net := some (List.replicate 16 0 ++ [10, 0, 0, 7]) })), by decide +kernel⟩

theorem wit_ServicePort_6 : ∃ (dt : Nat) (ip : BitVec 32) (port : BitVec 16) (udp : Udp) (f : List (BitVec 8)) (s : State), (¬ Answers s ∨ ¬ Addressed s udp ∨ (ServiceFrame udp.frag f ∧ leAt f 1 1 ≠ 0x2)) :=
  ⟨(5), (0x0A000007), (99), (⟨0, 0, false⟩), (svcFrame 3 0 0 7 ([])), (((st [(CFG_STATE_STATE, 8)]).onBoot fun b => { b with net := some (List.replicate 16 0 ++ [10, 0, 0, 7]) })), by decide +kernel⟩

theorem wit_ServicePort_7 : ∃ (dt : Nat) (ip : BitVec 32) (port : BitVec 16) (udp : Udp) (f : List (BitVec 8)) (s : State), Answers s ∧ Addressed s udp ∧ ServiceFrame udp.frag f ∧ leAt f 1 1 = 0x2 ∧ keptOf s ip.toNat port.toNat = some { who := { ip := ip.toNat, port := port.toNat }, seq := leAt f 4 2, resp := none } :=
  ⟨(5), (0x0A000007), (99), (⟨0, 0, false⟩), (svcFrame 2 0 0 7 ([])), (endOf 7 none ((st [(CFG_STATE_STATE, 8)]).onBoot fun b => { b with net := some (List.replicate 16 0 ++ [10, 0, 0, 7]) })), by decide +kernel⟩

theorem wit_ServicePort_8 : ∃ (dt : Nat) (ip : BitVec 32) (port : BitVec 16) (udp : Udp) (f : List (BitVec 8)) (s : State), Answers s ∧ Addressed s udp ∧ ¬ ServiceFrame udp.frag f :=
  ⟨(5), (0x0A000007), (99), (⟨0, 0, false⟩), ([1, 2, 3]), (((st [(CFG_STATE_STATE, 8), (SVC_STAT_BAD, 65534)]).onBoot fun b => { b with net := some (List.replicate 16 0 ++ [10, 0, 0, 7]) })), by decide +kernel⟩

theorem wit_ServicePort_9 : ∃ (dt : Nat) (ip : BitVec 32) (port : BitVec 16) (udp : Udp) (f : List (BitVec 8)) (k : List Byte) (s : State), Answers s ∧ Addressed s udp ∧ ServiceFrame udp.frag f ∧ leAt f 1 1 = 0x2 ∧ keptOf s ip.toNat port.toNat = some { who := { ip := ip.toNat, port := port.toNat }, seq := leAt f 4 2, resp := some k } :=
  ⟨(5), (0x0A000007), (99), (⟨0, 0, false⟩), (svcFrame 2 0 0 7 ([])), ([5, 6]), (endOf 7 (some [5, 6]) ((st [(CFG_STATE_STATE, 8)]).onBoot fun b => { b with net := some (List.replicate 16 0 ++ [10, 0, 0, 7]) })), by decide +kernel⟩

theorem wit_ServicePort_10 : ∃ (dt : Nat) (ip : BitVec 32) (port : BitVec 16) (udp : Udp) (f : List (BitVec 8)) (q : Nat) (s : State), Answers s ∧ Addressed s udp ∧ ServiceFrame udp.frag f ∧ leAt f 1 1 = 0x2 ∧ q ≠ leAt f 4 2 ∧ keptOf s ip.toNat port.toNat = some { who := { ip := ip.toNat, port := port.toNat }, seq := q, resp := none } :=
  ⟨(5), (0x0A000007), (99), (⟨0, 0, false⟩), (svcFrame 2 0 0 7 ([])), (6), (endOf 6 none ((st [(CFG_STATE_STATE, 8)]).onBoot fun b => { b with net := some (List.replicate 16 0 ++ [10, 0, 0, 7]) })), by decide +kernel⟩

theorem wit_ServicePort_11 : ∃ (dt : Nat) (ip : BitVec 32) (port : BitVec 16) (udp : Udp) (f : List (BitVec 8)) (s : State), (¬ Answers s ∨ ¬ Addressed s udp ∨ (ServiceFrame udp.frag f ∧ leAt f 1 1 ≠ 0x3)) :=
  ⟨(5), (0x0A000007), (99), (⟨0, 0, false⟩), (svcFrame 2 0 0 7 ([])), (((st [(CFG_STATE_STATE, 8)]).onBoot fun b => { b with net := some (List.replicate 16 0 ++ [10, 0, 0, 7]) })), by decide +kernel⟩

theorem wit_ServicePort_12 : ∃ (dt : Nat) (ip : BitVec 32) (port : BitVec 16) (udp : Udp) (f : List (BitVec 8)) (s : State), Answers s ∧ Addressed s udp ∧ ServiceFrame udp.frag f ∧ leAt f 1 1 = 0x3 ∧ keptOf s ip.toNat port.toNat = some { who := { ip := ip.toNat, port := port.toNat }, seq := leAt f 4 2, resp := none } :=
  ⟨(5), (0x0A000007), (99), (⟨0, 0, false⟩), (svcFrame 3 0 0 7 ([])), (endOf 7 none ((st [(CFG_STATE_STATE, 8)]).onBoot fun b => { b with net := some (List.replicate 16 0 ++ [10, 0, 0, 7]) })), by decide +kernel⟩

theorem wit_ServicePort_13 : ∃ (dt : Nat) (ip : BitVec 32) (port : BitVec 16) (udp : Udp) (f : List (BitVec 8)) (s : State), Answers s ∧ Addressed s udp ∧ ¬ ServiceFrame udp.frag f :=
  ⟨(5), (0x0A000007), (99), (⟨0, 0, true⟩), (svcFrame 3 0 0 7 ([])), (((st [(CFG_STATE_STATE, 8), (SVC_STAT_BAD, 65535)]).onBoot fun b => { b with net := some (List.replicate 16 0 ++ [10, 0, 0, 7]) })), by decide +kernel⟩

theorem wit_ServicePort_14 : ∃ (dt : Nat) (ip : BitVec 32) (port : BitVec 16) (udp : Udp) (f : List (BitVec 8)) (k : List Byte) (s : State), Answers s ∧ Addressed s udp ∧ ServiceFrame udp.frag f ∧ leAt f 1 1 = 0x3 ∧ keptOf s ip.toNat port.toNat = some { who := { ip := ip.toNat, port := port.toNat }, seq := leAt f 4 2, resp := some k } :=
  ⟨(5), (0x0A000007), (99), (⟨0, 0, false⟩), (svcFrame 3 0 0 7 ([])), ([5, 6]), (endOf 7 (some [5, 6]) ((st [(CFG_STATE_STATE, 8)]).onBoot fun b => { b with net := some (List.replicate 16 0 ++ [10, 0, 0, 7]) })), by decide +kernel⟩

theorem wit_ServicePort_15 : ∃ (dt : Nat) (ip : BitVec 32) (port : BitVec 16) (udp : Udp) (f : List (BitVec 8)) (q : Nat) (s : State), Answers s ∧ Addressed s udp ∧ ServiceFrame udp.frag f ∧ leAt f 1 1 = 0x3 ∧ q ≠ leAt f 4 2 ∧ keptOf s ip.toNat port.toNat = some { who := { ip := ip.toNat, port := port.toNat }, seq := q, resp := none } :=
  ⟨(5), (0x0A000007), (99), (⟨0, 0, false⟩), (svcFrame 3 0 0 7 ([])), (6), (endOf 6 none ((st [(CFG_STATE_STATE, 8)]).onBoot fun b => { b with net := some (List.replicate 16 0 ++ [10, 0, 0, 7]) })), by decide +kernel⟩

theorem wit_ServicePort_16 : ∃ (dt : Nat) (ip : BitVec 32) (port : BitVec 16) (udp : Udp) (f : List (BitVec 8)) (s : State), NewRequest s ip.toNat port.toNat udp 0x3 f ∧ s.writer ip.toNat = false ∧ s.get CFG_STATE_STATE ≠ 0xE :=
  ⟨(5), (0x0A000008), (99), (⟨0, 0, false⟩), (svcFrame 3 0 0 7 ([])), (((st [(CFG_STATE_STATE, 8)]).onBoot fun b => { b with net := some (List.replicate 16 0 ++ [10, 0, 0, 7]) })), by decide +kernel⟩

theorem wit_ServicePort_17 : ∃ (dt : Nat) (ip : BitVec 32) (port : BitVec 16) (udp : Udp) (f : List (BitVec 8)) (s : State), NewRequest s ip.toNat port.toNat udp 0x3 f ∧ s.get CFG_STATE_STATE = 0xE :=
  ⟨(5), (0x0A000007), (99), (⟨0, 0, false⟩), (svcFrame 3 0 0 7 ([])), (((st [(CFG_STATE_STATE, 0xE)]).onBoot fun b => { b with net := some (List.replicate 16 0 ++ [10, 0, 0, 7]) })), by decide +kernel⟩

theorem wit_ServicePort_18 : ∃ (dt : Nat) (ip : BitVec 32) (port : BitVec 16) (udp : Udp) (f : List (BitVec 8)) (s : State), (¬ Answers s ∨ ¬ Addressed s udp ∨ (ServiceFrame udp.frag f ∧ leAt f 1 1 ≠ 0x4)) :=
  ⟨(5), (0x0A000007), (99), (⟨0, 0, false⟩), (svcFrame 3 0 0 7 ([])), (((st [(CFG_STATE_STATE, 8)]).onBoot fun b => { b with net := some (List.replicate 16 0 ++ [10, 0, 0, 7]) })), by decide +kernel⟩

theorem wit_ServicePort_19 : ∃ (dt : Nat) (ip : BitVec 32) (port : BitVec 16) (udp : Udp) (f : List (BitVec 8)) (s : State), Answers s ∧ Addressed s udp ∧ ServiceFrame udp.frag f ∧ leAt f 1 1 = 0x4 ∧ keptOf s ip.toNat port.toNat = some { who := { ip := ip.toNat, port := port.toNat }, seq := leAt f 4 2, resp := none } :=
  ⟨(5), (0x0A000007), (99), (⟨0, 0, false⟩), (svcFrame 4 0 0 7 ([])), (endOf 7 none ((st [(CFG_STATE_STATE, 8)]).onBoot fun b => { b with net := some (List.replicate 16 0 ++ [10, 0, 0, 7]) })), by decide +kernel⟩

theorem wit_ServicePort_20 : ∃ (dt : Nat) (ip : BitVec 32) (port : BitVec 16) (udp : Udp) (f : List (BitVec 8)) (s : State), Answers s ∧ Addressed s udp ∧ ¬ ServiceFrame udp.frag f :=
  ⟨(5), (0x0A000007), (99), (⟨0, 0, false⟩), ([1, 2, 3]), (((st [(CFG_STATE_STATE, 8), (SVC_STAT_BAD, 65534)]).onBoot fun b => { b with net := some (List.replicate 16 0 ++ [10, 0, 0, 7]) })), by decide +kernel⟩

theorem wit_ServicePort_21 : ∃ (dt : Nat) (ip : BitVec 32) (port : BitVec 16) (udp : Udp) (f : List (BitVec 8)) (k : List Byte) (s : State), Answers s ∧ Addressed s udp ∧ ServiceFrame udp.frag f ∧ leAt f 1 1 = 0x4 ∧ keptOf s ip.toNat port.toNat = some { who := { ip := ip.toNat, port := port.toNat }, seq := leAt f 4 2, resp := some k } :=
  ⟨(5), (0x0A000007), (99), (⟨0, 0, false⟩), (svcFrame 4 0 0 7 ([])), ([5, 6]), (endOf 7 (some [5, 6]) ((st [(CFG_STATE_STATE, 8)]).onBoot fun b => { b with net := some (List.replicate 16 0 ++ [10, 0, 0, 7]) })), by decide +kernel⟩

theorem wit_ServicePort_22 : ∃ (dt : Nat) (ip : BitVec 32) (port : BitVec 16) (udp : Udp) (f : List (BitVec 8)) (q : Nat) (s : State), Answers s ∧ Addressed s udp ∧ ServiceFrame udp.frag f ∧ leAt f 1 1 = 0x4 ∧ q ≠ leAt f 4 2 ∧ keptOf s ip.toNat port.toNat = some { who := { ip := ip.toNat, port := port.toNat }, seq := q, resp := none } :=
  ⟨(5), (0x0A000007), (99), (⟨0, 0, false⟩), (svcFrame 4 0 0 7 ([])), (6), (endOf 6 none ((st [(CFG_STATE_STATE, 8)]).onBoot fun b => { b with net := some (List.replicate 16 0 ++ [10, 0, 0, 7]) })), by decide +kernel⟩

theorem wit_ServicePort_23 : ∃ (dt : Nat) (ip : BitVec 32) (port : BitVec 16) (udp : Udp) (f : List (BitVec 8)) (s : State), (¬ Answers s ∨ ¬ Addressed s udp ∨ (ServiceFrame udp.frag f ∧ leAt f 1 1 ≠ 0x5)) :=
  ⟨(5), (0x0A000007), (99), (⟨0, 0, false⟩), (svcFrame 3 0 0 7 ([])), (((st [(CFG_STATE_STATE, 8)]).onBoot fun b => { b with net := some (List.replicate 16 0 ++ [10, 0, 0, 7]) })), by decide +kernel⟩

theorem wit_ServicePort_24 : ∃ (dt : Nat) (ip : BitVec 32) (port : BitVec 16) (udp : Udp) (f : List (BitVec 8)) (s : State), Answers s ∧ Addressed s udp ∧ ServiceFrame udp.frag f ∧ leAt f 1 1 = 0x5 ∧ keptOf s ip.toNat port.toNat = some { who := { ip := ip.toNat, port := port.toNat }, seq := leAt f 4 2, resp := none } :=
  ⟨(5), (0x0A000007), (99), (⟨0, 0, false⟩), (svcFrame 5 0 0 7 ([])), (endOf 7 none ((st [(CFG_STATE_STATE, 8)]).onBoot fun b => { b with net := some (List.replicate 16 0 ++ [10, 0, 0, 7]) })), by decide +kernel⟩

theorem wit_ServicePort_25 : ∃ (dt : Nat) (ip : BitVec 32) (port : BitVec 16) (udp : Udp) (f : List (BitVec 8)) (s : State), Answers s ∧ Addressed s udp ∧ ¬ ServiceFrame udp.frag f :=
  ⟨(5), (0x0A000007), (99), (⟨0, 0, true⟩), (svcFrame 5 0 0 7 ([])), (((st [(CFG_STATE_STATE, 8), (SVC_STAT_BAD, 65535)]).onBoot fun b => { b with net := some (List.replicate 16 0 ++ [10, 0, 0, 7]) })), by decide +kernel⟩

theorem wit_ServicePort_26 : ∃ (dt : Nat) (ip : BitVec 32) (port : BitVec 16) (udp : Udp) (f : List (BitVec 8)) (k : List Byte) (s : State), Answers s ∧ Addressed s udp ∧ ServiceFrame udp.frag f ∧ leAt f 1 1 = 0x5 ∧ keptOf s ip.toNat port.toNat = some { who := { ip := ip.toNat, port := port.toNat }, seq := leAt f 4 2, resp := some k } :=
  ⟨(5), (0x0A000007), (99), (⟨0, 0, false⟩), (svcFrame 5 0 0 7 ([])), ([5, 6]), (endOf 7 (some [5, 6]) ((st [(CFG_STATE_STATE, 8)]).onBoot fun b => { b with net := some (List.replicate 16 0 ++ [10, 0, 0, 7]) })), by decide +kernel⟩

theorem wit_ServicePort_27 : ∃ (dt : Nat) (ip : BitVec 32) (port : BitVec 16) (udp : Udp) (f : List (BitVec 8)) (q : Nat) (s : State), Answers s ∧ Addressed s udp ∧ ServiceFrame udp.frag f ∧ leAt f 1 1 = 0x5 ∧ q ≠ leAt f 4 2 ∧ keptOf s ip.toNat port.toNat = some { who := { ip := ip.toNat, port := port.toNat }, seq := q, resp := none } :=
  ⟨(5), (0x0A000007), (99), (⟨0, 0, false⟩), (svcFrame 5 0 0 7 ([])), (6), (endOf 6 none ((st [(CFG_STATE_STATE, 8)]).onBoot fun b => { b with net := some (List.replicate 16 0 ++ [10, 0, 0, 7]) })), by decide +kernel⟩

theorem wit_ServicePort_28 : ∃ (dt : Nat) (ip : BitVec 32) (port : BitVec 16) (udp : Udp) (f : List (BitVec 8)) (s : State), (¬ Answers s ∨ ¬ Addressed s udp ∨ (ServiceFrame udp.frag f ∧ leAt f 1 1 ≠ 0x6)) :=
  ⟨(5), (0x0A000007), (99), (⟨0, 0, false⟩), (svcFrame 3 0 0 7 ([])), (((st [(CFG_STATE_STATE, 8)]).onBoot fun b => { b with net := some (List.replicate 16 0 ++ [10, 0, 0, 7]) })), by decide +kernel⟩

theorem wit_ServicePort_29 : ∃ (dt : Nat) (ip : BitVec 32) (port : BitVec 16) (udp : Udp) (f : List (BitVec 8)) (s : State), Answers s ∧ Addressed s udp ∧ ServiceFrame udp.frag f ∧ leAt f 1 1 = 0x6 ∧ keptOf s ip.toNat port.toNat = some { who := { ip := ip.toNat, port := port.toNat }, seq := leAt f 4 2, resp := none } :=
  ⟨(5), (0x0A000007), (99), (⟨0, 0, false⟩), (svcFrame 6 0 0 7 ([])), (endOf 7 none ((st [(CFG_STATE_STATE, 8)]).onBoot fun b => { b with net := some (List.replicate 16 0 ++ [10, 0, 0, 7]) })), by decide +kernel⟩

theorem wit_ServicePort_30 : ∃ (dt : Nat) (ip : BitVec 32) (port : BitVec 16) (udp : Udp) (f : List (BitVec 8)) (s : State), Answers s ∧ Addressed s udp ∧ ¬ ServiceFrame udp.frag f :=
  ⟨(5), (0x0A000007), (99), (⟨0, 0, false⟩), ([1, 2, 3]), (((st [(CFG_STATE_STATE, 8), (SVC_STAT_BAD, 65534)]).onBoot fun b => { b with net := some (List.replicate 16 0 ++ [10, 0, 0, 7]) })), by decide +kernel⟩

theorem wit_ServicePort_31 : ∃ (dt : Nat) (ip : BitVec 32) (port : BitVec 16) (udp : Udp) (f : List (BitVec 8)) (k : List Byte) (s : State), Answers s ∧ Addressed s udp ∧ ServiceFrame udp.frag f ∧ leAt f 1 1 = 0x6 ∧ keptOf s ip.toNat port.toNat = some { who := { ip := ip.toNat, port := port.toNat }, seq := leAt f 4 2, resp := some k } :=
  ⟨(5), (0x0A000007), (99), (⟨0, 0, false⟩), (svcFrame 6 0 0 7 ([])), ([5, 6]), (endOf 7 (some [5, 6]) ((st [(CFG_STATE_STATE, 8)]).onBoot fun b => { b with net := some (List.replicate 16 0 ++ [10, 0, 0, 7]) })), by decide +kernel⟩

theorem wit_ServicePort_32 : ∃ (dt : Nat) (ip : BitVec 32) (port : BitVec 16) (udp : Udp) (f : List (BitVec 8)) (q : Nat) (s : State), Answers s ∧ Addressed s udp ∧ ServiceFrame udp.frag f ∧ leAt f 1 1 = 0x6 ∧ q ≠ leAt f 4 2 ∧ keptOf s ip.toNat port.toNat = some { who := { ip := ip.toNat, port := port.toNat }, seq := q, resp := none } :=
  ⟨(5), (0x0A000007), (99), (⟨0, 0, false⟩), (svcFrame 6 0 0 7 ([])), (6), (endOf 6 none ((st [(CFG_STATE_STATE, 8)]).onBoot fun b => { b with net := some (List.replicate 16 0 ++ [10, 0, 0, 7]) })), by decide +kernel⟩

theorem wit_ServicePort_33 : ∃ (dt : Nat) (ip : BitVec 32) (port : BitVec 16) (udp : Udp) (f : List (BitVec 8)) (s : State), NewRequest s ip.toNat port.toNat udp 0x6 f ∧ s.writer ip.toNat = false ∧ s.get CFG_STATE_STATE ≠ 0xE :=
  ⟨(5), (0x0A000008), (99), (⟨0, 0, false⟩), (svcFrame 6 0 0 7 ([])), (((st [(CFG_STATE_STATE, 8)]).onBoot fun b => { b with net := some (List.replicate 16 0 ++ [10, 0, 0, 7]) })), by decide +kernel⟩

theorem wit_ServicePort_34 : ∃ (dt : Nat) (ip : BitVec 32) (port : BitVec 16) (udp : Udp) (f : List (BitVec 8)) (s : State), NewRequest s ip.toNat port.toNat udp 0x6 f ∧ s.get CFG_STATE_STATE = 0xE :=
  ⟨(5), (0x0A000007), (99), (⟨0, 0, false⟩), (svcFrame 6 0 0 7 ([])), (((st [(CFG_STATE_STATE, 0xE)]).onBoot fun b => { b with net := some (List.replicate 16 0 ++ [10, 0, 0, 7]) })), by decide +kernel⟩

theorem wit_ServicePort_35 : ∃ (dt : Nat) (ip : BitVec 32) (port : BitVec 16) (udp : Udp) (f : List (BitVec 8)) (s : State), (¬ Answers s ∨ ¬ Addressed s udp ∨ (ServiceFrame udp.frag f ∧ leAt f 1 1 ≠ 0x7)) :=
  ⟨(5), (0x0A000007), (99), (⟨0, 7, false⟩), (svcFrame 7 0 0 7 ([])), (((st [(CFG_STATE_STATE, 8)]).onBoot fun b => { b with net := some (List.replicate 16 0 ++ [10, 0, 0, 7]) })), by decide +kernel⟩

theorem wit_ServicePort_36 : ∃ (dt : Nat) (ip : BitVec 32) (port : BitVec 16) (udp : Udp) (f : List (BitVec 8)) (s : State), Answers s ∧ Addressed s udp ∧ ServiceFrame udp.frag f ∧ leAt f 1 1 = 0x7 ∧ keptOf s ip.toNat port.toNat = some { who := { ip := ip.toNat, port := port.toNat }, seq := leAt f 4 2, resp := none } :=
  ⟨(5), (0x0A000007), (99), (⟨0, 0, false⟩), (svcFrame 7 0 0 7 ([])), (endOf 7 none ((st [(CFG_STATE_STATE, 8)]).onBoot fun b => { b with net := some (List.replicate 16 0 ++ [10, 0, 0, 7]) })), by decide +kernel⟩

theorem wit_ServicePort_37 : ∃ (dt : Nat) (ip : BitVec 32) (port : BitVec 16) (udp : Udp) (f : List (BitVec 8)) (s : State), Answers s ∧ Addressed s udp ∧ ¬ ServiceFrame udp.frag f :=
  ⟨(5), (0x0A000007), (99), (⟨0, 0, true⟩), (svcFrame 7 0 0 7 ([])), (((st [(CFG_STATE_STATE, 8), (SVC_STAT_BAD, 65535)]).onBoot fun b => { b with net := some (List.replicate 16 0 ++ [10, 0, 0, 7]) })), by decide +kernel⟩

theorem wit_ServicePort_38 : ∃ (dt : Nat) (ip : BitVec 32) (port : BitVec 16) (udp : Udp) (f : List (BitVec 8)) (k : List Byte) (s : State), Answers s ∧ Addressed s udp ∧ ServiceFrame udp.frag f ∧ leAt f 1 1 = 0x7 ∧ keptOf s ip.toNat port.toNat = some { who := { ip := ip.toNat, port := port.toNat }, seq := leAt f 4 2, resp := some k } :=
  ⟨(5), (0x0A000007), (99), (⟨0, 0, false⟩), (svcFrame 7 0 0 7 ([])), ([5, 6]), (endOf 7 (some [5, 6]) ((st [(CFG_STATE_STATE, 8)]).onBoot fun b => { b with net := some (List.replicate 16 0 ++ [10, 0, 0, 7]) })), by decide +kernel⟩

theorem wit_ServicePort_39 : ∃ (dt : Nat) (ip : BitVec 32) (port : BitVec 16) (udp : Udp) (f : List (BitVec 8)) (q : Nat) (s : State), Answers s ∧ Addressed s udp ∧ ServiceFrame udp.frag f ∧ leAt f 1 1 = 0x7 ∧ q ≠ leAt f 4 2 ∧ keptOf s ip.toNat port.toNat = some { who := { ip := ip.toNat, port := port.toNat }, seq := q, resp := none } :=
  ⟨(5), (0x0A000007), (99), (⟨0, 0, false⟩), (svcFrame 7 0 0 7 ([])), (6), (endOf 6 none ((st [(CFG_STATE_STATE, 8)]).onBoot fun b => { b with net := some (List.replicate 16 0 ++ [10, 0, 0, 7]) })), by decide +kernel⟩

theorem wit_ServicePort_40 : ∃ (dt : Nat) (ip : BitVec 32) (port : BitVec 16) (udp : Udp) (f : List (BitVec 8)) (s : State), NewRequest s ip.toNat port.toNat udp 0x7 f ∧ s.get CFG_STATE_STATE = 0xE :=
  ⟨(5), (0x0A000007), (99), (⟨0, 0, false⟩), (svcFrame 7 0 0 7 ([])), (((st [(CFG_STATE_STATE, 0xE)]).onBoot fun b => { b with net := some (List.replicate 16 0 ++ [10, 0, 0, 7]) })), by decide +kernel⟩

theorem wit_ServicePort_41 : ∃ (dt : Nat) (ip : BitVec 32) (port : BitVec 16) (udp : Udp) (f : List (BitVec 8)) (s : State), (¬ Answers s ∨ ¬ Addressed s udp ∨ (ServiceFrame udp.frag f ∧ leAt f 1 1 ≠ 0x8)) :=
  ⟨(5), (0x0A000007), (99), (⟨0, 0, false⟩), (svcFrame 3 0 0 7 ([])), (((st [(CFG_STATE_STATE, 8)]).onBoot fun b => { b with net := some (List.replicate 16 0 ++ [10, 0, 0, 7]) })), by decide +kernel⟩

theorem wit_ServicePort_42 : ∃ (dt : Nat) (ip : BitVec 32) (port : BitVec 16) (udp : Udp) (f : List (BitVec 8)) (s : State), Answers s ∧ Addressed s udp ∧ ServiceFrame udp.frag f ∧ leAt f 1 1 = 0x8 ∧ keptOf s ip.toNat port.toNat = some { who := { ip := ip.toNat, port := port.toNat }, seq := leAt f 4 2, resp := none } :=
  ⟨(5), (0x0A000007), (99), (⟨0, 0, false⟩), (svcFrame 8 0 0 7 ([])), (endOf 7 none ((st [(CFG_STATE_STATE, 8)]).onBoot fun b => { b with net := some (List.replicate 16 0 ++ [10, 0, 0, 7]) })), by decide +kernel⟩

theorem wit_ServicePort_43 : ∃ (dt : Nat) (ip : BitVec 32) (port : BitVec 16) (udp : Udp) (f : List (BitVec 8)) (s : State), Answers s ∧ Addressed s udp ∧ ¬ ServiceFrame udp.frag f :=
  ⟨(5), (0x0A000007), (99), (⟨0, 0, false⟩), ([1, 2, 3]), (((st [(CFG_STATE_STATE, 8), (SVC_STAT_BAD, 65534)]).onBoot fun b => { b with net := some (List.replicate 16 0 ++ [10, 0, 0, 7]) })), by decide +kernel⟩

theorem wit_ServicePort_44 : ∃ (dt : Nat) (ip : BitVec 32) (port : BitVec 16) (udp : Udp) (f : List (BitVec 8)) (k : List Byte) (s : State), Answers s ∧ Addressed s udp ∧ ServiceFrame udp.frag f ∧ leAt f 1 1 = 0x8 ∧ keptOf s ip.toNat port.toNat = some { who := { ip := ip.toNat, port := port.toNat }, seq := leAt f 4 2, resp := some k } :=
  ⟨(5), (0x0A000007), (99), (⟨0, 0, false⟩), (svcFrame 8 0 0 7 ([])), ([5, 6]), (endOf 7 (some [5, 6]) ((st [(CFG_STATE_STATE, 8)]).onBoot fun b => { b with net := some (List.replicate 16 0 ++ [10, 0, 0, 7]) })), by decide +kernel⟩

theorem wit_ServicePort_45 : ∃ (dt : Nat) (ip : BitVec 32) (port : BitVec 16) (udp : Udp) (f : List (BitVec 8)) (q : Nat) (s : State), Answers s ∧ Addressed s udp ∧ ServiceFrame udp.frag f ∧ leAt f 1 1 = 0x8 ∧ q ≠ leAt f 4 2 ∧ keptOf s ip.toNat port.toNat = some { who := { ip := ip.toNat, port := port.toNat }, seq := q, resp := none } :=
  ⟨(5), (0x0A000007), (99), (⟨0, 0, false⟩), (svcFrame 8 0 0 7 ([])), (6), (endOf 6 none ((st [(CFG_STATE_STATE, 8)]).onBoot fun b => { b with net := some (List.replicate 16 0 ++ [10, 0, 0, 7]) })), by decide +kernel⟩

theorem wit_ServicePort_46 : ∃ (dt : Nat) (ip : BitVec 32) (port : BitVec 16) (udp : Udp) (f : List (BitVec 8)) (s : State), NewRequest s ip.toNat port.toNat udp 0x8 f ∧ s.writer ip.toNat = false :=
  ⟨(5), (0x0A000008), (99), (⟨0, 0, false⟩), (svcFrame 8 0 0 7 ([])), (((st [(CFG_STATE_STATE, 8)]).onBoot fun b => { b with net := some (List.replicate 16 0 ++ [10, 0, 0, 7]) })), by decide +kernel⟩

theorem wit_ServicePort_47 : ∃ (dt : Nat) (ip : BitVec 32) (port : BitVec 16) (udp : Udp) (f : List (BitVec 8)) (s : State), (¬ Answers s ∨ ¬ Addressed s udp ∨ (ServiceFrame udp.frag f ∧ leAt f 1 1 ≠ 0x9)) :=
  ⟨(5), (0x0A000007), (99), (⟨0, 0, false⟩), (svcFrame 3 0 0 7 ([])), (((st [(CFG_STATE_STATE, 8)]).onBoot fun b => { b with net := some (List.replicate 16 0 ++ [10, 0, 0, 7]) })), by decide +kernel⟩

theorem wit_ServicePort_48 : ∃ (dt : Nat) (ip : BitVec 32) (port : BitVec 16) (udp : Udp) (f : List (BitVec 8)) (s : State), Answers s ∧ Addressed s udp ∧ ServiceFrame udp.frag f ∧ leAt f 1 1 = 0x9 ∧ keptOf s ip.toNat port.toNat = some { who := { ip := ip.toNat, port := port.toNat }, seq := leAt f 4 2, resp := none } :=
  ⟨(5), (0x0A000007), (99), (⟨0, 0, false⟩), (svcFrame 9 0 0 7 ([])), (endOf 7 none ((st [(CFG_STATE_STATE, 8)]).onBoot fun b => { b with net := some (List.replicate 16 0 ++ [10, 0, 0, 7]) })), by decide +kernel⟩

theorem wit_ServicePort_49 : ∃ (dt : Nat) (ip : BitVec 32) (port : BitVec 16) (udp : Udp) (f : List (BitVec 8)) (s : State), Answers s ∧ Addressed s udp ∧ ¬ ServiceFrame udp.frag f :=
  ⟨(5), (0x0A000007), (99), (⟨0, 0, true⟩), (svcFrame 9 0 0 7 ([])), (((st [(CFG_STATE_STATE, 8), (SVC_STAT_BAD, 65535)]).onBoot fun b => { b with net := some (List.replicate 16 0 ++ [10, 0, 0, 7]) })), by decide +kernel⟩

theorem wit_ServicePort_50 : ∃ (dt : Nat) (ip : BitVec 32) (port : BitVec 16) (udp : Udp) (f : List (BitVec 8)) (k : List Byte) (s : State), Answers s ∧ Addressed s udp ∧ ServiceFrame udp.frag f ∧ leAt f 1 1 = 0x9 ∧ keptOf s ip.toNat port.toNat = some { who := { ip := ip.toNat, port := port.toNat }, seq := leAt f 4 2, resp := some k } :=
  ⟨(5), (0x0A000007), (99), (⟨0, 0, false⟩), (svcFrame 9 0 0 7 ([])), ([5, 6]), (endOf 7 (some [5, 6]) ((st [(CFG_STATE_STATE, 8)]).onBoot fun b => { b with net := some (List.replicate 16 0 ++ [10, 0, 0, 7]) })), by decide +kernel⟩

theorem wit_ServicePort_51 : ∃ (dt : Nat) (ip : BitVec 32) (port : BitVec 16) (udp : Udp) (f : List (BitVec 8)) (q : Nat) (s : State), Answers s ∧ Addressed s udp ∧ ServiceFrame udp.frag f ∧ leAt f 1 1 = 0x9 ∧ q ≠ leAt f 4 2 ∧ keptOf s ip.toNat port.toNat = some { who := { ip := ip.toNat, port := port.toNat }, seq := q, resp := none } :=
  ⟨(5), (0x0A000007), (99), (⟨0, 0, false⟩), (svcFrame 9 0 0 7 ([])), (6), (endOf 6 none ((st [(CFG_STATE_STATE, 8)]).onBoot fun b => { b with net := some (List.replicate 16 0 ++ [10, 0, 0, 7]) })), by decide +kernel⟩

theorem wit_ServicePort_52 : ∃ (dt : Nat) (ip : BitVec 32) (port : BitVec 16) (udp : Udp) (f : List (BitVec 8)) (s : State), NewRequest s ip.toNat port.toNat udp 0x9 f ∧ s.writer ip.toNat = false :=
  ⟨(5), (0x0A000008), (99), (⟨0, 0, false⟩), (svcFrame 9 0 0 7 ([])), (((st [(CFG_STATE_STATE, 8)]).onBoot fun b => { b with net := some (List.replicate 16 0 ++ [10, 0, 0, 7]) })), by decide +kernel⟩

theorem wit_ServicePort_53 : ∃ (dt : Nat) (ip : BitVec 32) (port : BitVec 16) (udp : Udp) (f : List (BitVec 8)) (s : State), (¬ Answers s ∨ ¬ Addressed s udp ∨ (ServiceFrame udp.frag f ∧ leAt f 1 1 ≠ 0xa)) :=
  ⟨(5), (0x0A000007), (99), (⟨0, 0, false⟩), (svcFrame 3 0 0 7 ([])), (((st [(CFG_STATE_STATE, 8)]).onBoot fun b => { b with net := some (List.replicate 16 0 ++ [10, 0, 0, 7]) })), by decide +kernel⟩

theorem wit_ServicePort_54 : ∃ (dt : Nat) (ip : BitVec 32) (port : BitVec 16) (udp : Udp) (f : List (BitVec 8)) (s : State), Answers s ∧ Addressed s udp ∧ ServiceFrame udp.frag f ∧ leAt f 1 1 = 0xa ∧ keptOf s ip.toNat port.toNat = some { who := { ip := ip.toNat, port := port.toNat }, seq := leAt f 4 2, resp := none } :=
  ⟨(5), (0x0A000007), (99), (⟨0, 0, false⟩), (svcFrame 10 0 0 7 ([])), (endOf 7 none ((st [(CFG_STATE_STATE, 8)]).onBoot fun b => { b with net := some (List.replicate 16 0 ++ [10, 0, 0, 7]) })), by decide +kernel⟩

theorem wit_ServicePort_55 : ∃ (dt : Nat) (ip : BitVec 32) (port : BitVec 16) (udp : Udp) (f : List (BitVec 8)) (s : State), Answers s ∧ Addressed s udp ∧ ¬ ServiceFrame udp.frag f :=
  ⟨(5), (0x0A000007), (99), (⟨0, 0, false⟩), ([1, 2, 3]), (((st [(CFG_STATE_STATE, 8), (SVC_STAT_BAD, 65534)]).onBoot fun b => { b with net := some (List.replicate 16 0 ++ [10, 0, 0, 7]) })), by decide +kernel⟩

theorem wit_ServicePort_56 : ∃ (dt : Nat) (ip : BitVec 32) (port : BitVec 16) (udp : Udp) (f : List (BitVec 8)) (k : List Byte) (s : State), Answers s ∧ Addressed s udp ∧ ServiceFrame udp.frag f ∧ leAt f 1 1 = 0xa ∧ keptOf s ip.toNat port.toNat = some { who := { ip := ip.toNat, port := port.toNat }, seq := leAt f 4 2, resp := some k } :=
  ⟨(5), (0x0A000007), (99), (⟨0, 0, false⟩), (svcFrame 10 0 0 7 ([])), ([5, 6]), (endOf 7 (some [5, 6]) ((st [(CFG_STATE_STATE, 8)]).onBoot fun b => { b with net := some (List.replicate 16 0 ++ [10, 0, 0, 7]) })), by decide +kernel⟩

theorem wit_ServicePort_57 : ∃ (dt : Nat) (ip : BitVec 32) (port : BitVec 16) (udp : Udp) (f : List (BitVec 8)) (q : Nat) (s : State), Answers s ∧ Addressed s udp ∧ ServiceFrame udp.frag f ∧ leAt f 1 1 = 0xa ∧ q ≠ leAt f 4 2 ∧ keptOf s ip.toNat port.toNat = some { who := { ip := ip.toNat, port := port.toNat }, seq := q, resp := none } :=
  ⟨(5), (0x0A000007), (99), (⟨0, 0, false⟩), (svcFrame 10 0 0 7 ([])), (6), (endOf 6 none ((st [(CFG_STATE_STATE, 8)]).onBoot fun b => { b with net := some (List.replicate 16 0 ++ [10, 0, 0, 7]) })), by decide +kernel⟩

theorem wit_ServicePort_58 : ∃ (dt : Nat) (ip : BitVec 32) (port : BitVec 16) (udp : Udp) (f : List (BitVec 8)) (s : State), NewRequest s ip.toNat port.toNat udp 0xa f ∧ s.writer ip.toNat = false :=
  ⟨(5), (0x0A000008), (99), (⟨0, 0, false⟩), (svcFrame 10 0 0 7 ([])), (((st [(CFG_STATE_STATE, 8)]).onBoot fun b => { b with net := some (List.replicate 16 0 ++ [10, 0, 0, 7]) })), by decide +kernel⟩

theorem wit_ServicePort_59 : ∃ (dt : Nat) (ip : BitVec 32) (port : BitVec 16) (udp : Udp) (f : List (BitVec 8)) (qvsel clksel test : Bool) (s : State), (¬ Answers s ∨ ¬ Addressed s udp ∨ (ServiceFrame udp.frag f ∧ leAt f 1 1 ≠ 0xc)) :=
  ⟨(5), (0x0A000007), (99), (⟨0, 0, false⟩), (svcFrame 3 0 0 7 ([])), (true), (false), (false), (((st [(CFG_STATE_STATE, 8)]).onBoot fun b => { b with net := some (List.replicate 16 0 ++ [10, 0, 0, 7]) })), by decide +kernel⟩

theorem wit_ServicePort_60 : ∃ (dt : Nat) (ip : BitVec 32) (port : BitVec 16) (udp : Udp) (f : List (BitVec 8)) (qvsel clksel test : Bool) (s : State), Answers s ∧ Addressed s udp ∧ ServiceFrame udp.frag f ∧ leAt f 1 1 = 0xc ∧ keptOf s ip.toNat port.toNat = some { who := { ip := ip.toNat, port := port.toNat }, seq := leAt f 4 2, resp := none } :=
  ⟨(5), (0x0A000007), (99), (⟨0, 0, false⟩), (svcFrame 12 0 0 7 ([])), (true), (false), (false), (endOf 7 none ((st [(CFG_STATE_STATE, 8)]).onBoot fun b => { b with net := some (List.replicate 16 0 ++ [10, 0, 0, 7]) })), by decide +kernel⟩

theorem wit_ServicePort_61 : ∃ (dt : Nat) (ip : BitVec 32) (port : BitVec 16) (udp : Udp) (f : List (BitVec 8)) (qvsel clksel test : Bool) (s : State), Answers s ∧ Addressed s udp ∧ ¬ ServiceFrame udp.frag f :=
  ⟨(5), (0x0A000007), (99), (⟨0, 0, false⟩), ([1, 2, 3]), (true), (false), (false), (((st [(CFG_STATE_STATE, 8), (SVC_STAT_BAD, 65534)]).onBoot fun b => { b with net := some (List.replicate 16 0 ++ [10, 0, 0, 7]) })), by decide +kernel⟩

theorem wit_ServicePort_62 : ∃ (dt : Nat) (ip : BitVec 32) (port : BitVec 16) (udp : Udp) (f : List (BitVec 8)) (qvsel clksel test : Bool) (k : List Byte) (s : State), Answers s ∧ Addressed s udp ∧ ServiceFrame udp.frag f ∧ leAt f 1 1 = 0xc ∧ keptOf s ip.toNat port.toNat = some { who := { ip := ip.toNat, port := port.toNat }, seq := leAt f 4 2, resp := some k } :=
  ⟨(5), (0x0A000007), (99), (⟨0, 0, false⟩), (svcFrame 12 0 0 7 ([])), (true), (false), (false), ([5, 6]), (endOf 7 (some [5, 6]) ((st [(CFG_STATE_STATE, 8)]).onBoot fun b => { b with net := some (List.replicate 16 0 ++ [10, 0, 0, 7]) })), by decide +kernel⟩

theorem wit_ServicePort_63 : ∃ (dt : Nat) (ip : BitVec 32) (port : BitVec 16) (udp : Udp) (f : List (BitVec 8)) (qvsel clksel test : Bool) (q : Nat) (s : State), Answers s ∧ Addressed s udp ∧ ServiceFrame udp.frag f ∧ leAt f 1 1 = 0xc ∧ q ≠ leAt f 4 2 ∧ keptOf s ip.toNat port.toNat = some { who := { ip := ip.toNat, port := port.toNat }, seq := q, resp := none } :=
  ⟨(5), (0x0A000007), (99), (⟨0, 0, false⟩), (svcFrame 12 0 0 7 ([])), (true), (false), (false), (6), (endOf 6 none ((st [(CFG_STATE_STATE, 8)]).onBoot fun b => { b with net := some (List.replicate 16 0 ++ [10, 0, 0, 7]) })), by decide +kernel⟩

theorem wit_ServicePort_64 : ∃ (dt : Nat) (ip : BitVec 32) (port : BitVec 16) (udp : Udp) (f : List (BitVec 8)) (qvsel clksel test : Bool) (s : State), NewRequest s ip.toNat port.toNat udp 0xc f ∧ s.writer ip.toNat = false :=
  ⟨(5), (0x0A000008), (99), (⟨0, 0, false⟩), (svcFrame 12 0 0 7 ([])), (true), (false), (false), (((st [(CFG_STATE_STATE, 8)]).onBoot fun b => { b with net := some (List.replicate 16 0 ++ [10, 0, 0, 7]) })), by decide +kernel⟩

theorem wit_ServicePort_65 : ∃ (dt : Nat) (ip : BitVec 32) (port : BitVec 16) (udp : Udp) (f : List (BitVec 8)) (mramOk : Bool) (s : State), (¬ Answers s ∨ ¬ Addressed s udp ∨ (ServiceFrame udp.frag f ∧ (leAt f 1 1 ≠ 0xB ∨ leAt (frameBody f) 0 1 ≠ 1))) :=
  ⟨(5), (0x0A000007), (99), (⟨0, 0, false⟩), (svcFrame 1 0 0 7 ([1, 1, 0, 0])), (true), (((st [(CFG_STATE_STATE, 8)]).onBoot fun b => { b with net := some (List.replicate 16 0 ++ [10, 0, 0, 7]) })), by decide +kernel⟩

theorem wit_ServicePort_66 : ∃ (dt : Nat) (ip : BitVec 32) (port : BitVec 16) (udp : Udp) (f : List (BitVec 8)) (mramOk : Bool) (s : State), Answers s ∧ Addressed s udp ∧ ServiceFrame udp.frag f ∧ leAt f 1 1 = 0xb ∧ leAt (frameBody f) 0 1 = 1 ∧ keptOf s ip.toNat port.toNat = some { who := { ip := ip.toNat, port := port.toNat }, seq := leAt f 4 2, resp := none } :=
  ⟨(5), (0x0A000007), (99), (⟨0, 0, false⟩), (svcFrame 11 0 0 7 ([1, 1, 0, 0])), (true), (endOf 7 none ((st [(CFG_STATE_STATE, 8)]).onBoot fun b => { b with net := some (List.replicate 16 0 ++ [10, 0, 0, 7]) })), by decide +kernel⟩

theorem wit_ServicePort_67 : ∃ (dt : Nat) (ip : BitVec 32) (port : BitVec 16) (udp : Udp) (f : List (BitVec 8)) (mramOk : Bool) (s : State), Answers s ∧ Addressed s udp ∧ ¬ ServiceFrame udp.frag f :=
  ⟨(5), (0x0A000007), (99), (⟨0, 0, true⟩), (svcFrame 11 0 0 7 ([])), (true), (((st [(CFG_STATE_STATE, 8), (SVC_STAT_BAD, 65535)]).onBoot fun b => { b with net := some (List.replicate 16 0 ++ [10, 0, 0, 7]) })), by decide +kernel⟩

theorem wit_ServicePort_68 : ∃ (dt : Nat) (ip : BitVec 32) (port : BitVec 16) (udp : Udp) (f : List (BitVec 8)) (mramOk : Bool) (k : List Byte) (s : State), Answers s ∧ Addressed s udp ∧ ServiceFrame udp.frag f ∧ leAt f 1 1 = 0xb ∧ leAt (frameBody f) 0 1 = 1 ∧ keptOf s ip.toNat port.toNat = some { who := { ip := ip.toNat, port := port.toNat }, seq := leAt f 4 2, resp := some k } :=
  ⟨(5), (0x0A000007), (99), (⟨0, 0, false⟩), (svcFrame 11 0 0 7 ([1, 1, 0, 0])), (true), ([5, 6]), (endOf 7 (some [5, 6]) ((st [(CFG_STATE_STATE, 8)]).onBoot fun b => { b with net := some (List.replicate 16 0 ++ [10, 0, 0, 7]) })), by decide +kernel⟩

theorem wit_ServicePort_69 : ∃ (dt : Nat) (ip : BitVec 32) (port : BitVec 16) (udp : Udp) (f : List (BitVec 8)) (mramOk : Bool) (q : Nat) (s : State), Answers s ∧ Addressed s udp ∧ ServiceFrame udp.frag f ∧ leAt f 1 1 = 0xb ∧ leAt (frameBody f) 0 1 = 1 ∧ q ≠ leAt f 4 2 ∧ keptOf s ip.toNat port.toNat = some { who := { ip := ip.toNat, port := port.toNat }, seq := q, resp := none } :=
  ⟨(5), (0x0A000007), (99), (⟨0, 0, false⟩), (svcFrame 11 0 0 7 ([1, 1, 0, 0])), (true), (6), (endOf 6 none ((st [(CFG_STATE_STATE, 8)]).onBoot fun b => { b with net := some (List.replicate 16 0 ++ [10, 0, 0, 7]) })), by decide +kernel⟩

theorem wit_ServicePort_70 : ∃ (dt : Nat) (ip : BitVec 32) (port : BitVec 16) (udp : Udp) (f : List (BitVec 8)) (mramOk : Bool) (s : State), NewRequest s ip.toNat port.toNat udp 0xb f ∧ s.writer ip.toNat = false ∧ leAt (frameBody f) 0 1 = 1 ∧ s.get CFG_STATE_STATE ≠ 0xE :=
  ⟨(5), (0x0A000008), (99), (⟨0, 0, false⟩), (svcFrame 11 0 0 7 ([1, 1, 0, 0])), (true), (((st [(CFG_STATE_STATE, 8)]).onBoot fun b => { b with net := some (List.replicate 16 0 ++ [10, 0, 0, 7]) })), by decide +kernel⟩

theorem wit_ServicePort_71 : ∃ (dt : Nat) (ip : BitVec 32) (port : BitVec 16) (udp : Udp) (f : List (BitVec 8)) (mramOk : Bool) (s : State), NewRequest s ip.toNat port.toNat udp 0xb f ∧ s.get CFG_STATE_STATE = 0xE ∧ leAt (frameBody f) 0 1 = 1 :=
  ⟨(5), (0x0A000007), (99), (⟨0, 0, false⟩), (svcFrame 11 0 0 7 ([1, 1, 0, 0])), (true), (((st [(CFG_STATE_STATE, 0xE)]).onBoot fun b => { b with net := some (List.replicate 16 0 ++ [10, 0, 0, 7]) })), by decide +kernel⟩

theorem wit_ServicePort_72 : ∃ (dt : Nat) (ip : BitVec 32) (port : BitVec 16) (udp : Udp) (f : List (BitVec 8)) (mramOk : Bool) (s : State), (¬ Answers s ∨ ¬ Addressed s udp ∨ (ServiceFrame udp.frag f ∧ (leAt f 1 1 ≠ 0xB ∨ leAt (frameBody f) 0 1 ≠ 2))) :=
  ⟨(5), (0x0A000007), (99), (⟨0, 0, false⟩), (svcFrame 1 0 0 7 ([2, 1, 0, 0])), (true), (((st [(CFG_STATE_STATE, 8)]).onBoot fun b => { b with net := some (List.replicate 16 0 ++ [10, 0, 0, 7]) })), by decide +kernel⟩

theorem wit_ServicePort_73 : ∃ (dt : Nat) (ip : BitVec 32) (port : BitVec 16) (udp : Udp) (f : List (BitVec 8)) (mramOk : Bool) (s : State), Answers s ∧ Addressed s udp ∧ ServiceFrame udp.frag f ∧ leAt f 1 1 = 0xb ∧ leAt (frameBody f) 0 1 = 2 ∧ keptOf s ip.toNat port.toNat = some { who := { ip := ip.toNat, port := port.toNat }, seq := leAt f 4 2, resp := none } :=
  ⟨(5), (0x0A000007), (99), (⟨0, 0, false⟩), (svcFrame 11 0 0 7 ([2, 1, 0, 0])), (true), (endOf 7 none ((st [(CFG_STATE_STATE, 8)]).onBoot fun b => { b with net := some (List.replicate 16 0 ++ [10, 0, 0, 7]) })), by decide +kernel⟩

theorem wit_ServicePort_74 : ∃ (dt : Nat) (ip : BitVec 32) (port : BitVec 16) (udp : Udp) (f : List (BitVec 8)) (mramOk : Bool) (s : State), Answers s ∧ Addressed s udp ∧ ¬ ServiceFrame udp.frag f :=
  ⟨(5), (0x0A000007), (99), (⟨0, 0, true⟩), (svcFrame 11 0 0 7 ([])), (true), (((st [(CFG_STATE_STATE, 8), (SVC_STAT_BAD, 65535)]).onBoot fun b => { b with net := some (List.replicate 16 0 ++ [10, 0, 0, 7]) })), by decide +kernel⟩

theorem wit_ServicePort_75 : ∃ (dt : Nat) (ip : BitVec 32) (port : BitVec 16) (udp : Udp) (f : List (BitVec 8)) (mramOk : Bool) (k : List Byte) (s : State), Answers s ∧ Addressed s udp ∧ ServiceFrame udp.frag f ∧ leAt f 1 1 = 0xb ∧ leAt (frameBody f) 0 1 = 2 ∧ keptOf s ip.toNat port.toNat = some { who := { ip := ip.toNat, port := port.toNat }, seq := leAt f 4 2, resp := some k } :=
  ⟨(5), (0x0A000007), (99), (⟨0, 0, false⟩), (svcFrame 11 0 0 7 ([2, 1, 0, 0])), (true), ([5, 6]), (endOf 7 (some [5, 6]) ((st [(CFG_STATE_STATE, 8)]).onBoot fun b => { b with net := some (List.replicate 16 0 ++ [10, 0, 0, 7]) })), by decide +kernel⟩

theorem wit_ServicePort_76 : ∃ (dt : Nat) (ip : BitVec 32) (port : BitVec 16) (udp : Udp) (f : List (BitVec 8)) (mramOk : Bool) (q : Nat) (s : State), Answers s ∧ Addressed s udp ∧ ServiceFrame udp.frag f ∧ leAt f 1 1 = 0xb ∧ leAt (frameBody f) 0 1 = 2 ∧ q ≠ leAt f 4 2 ∧ keptOf s ip.toNat port.toNat = some { who := { ip := ip.toNat, port := port.toNat }, seq := q, resp := none } :=
  ⟨(5), (0x0A000007), (99), (⟨0, 0, false⟩), (svcFrame 11 0 0 7 ([2, 1, 0, 0])), (true), (6), (endOf 6 none ((st [(CFG_STATE_STATE, 8)]).onBoot fun b => { b with net := some (List.replicate 16 0 ++ [10, 0, 0, 7]) })), by decide +kernel⟩

theorem wit_ServicePort_77 : ∃ (dt : Nat) (ip : BitVec 32) (port : BitVec 16) (udp : Udp) (f : List (BitVec 8)) (mramOk : Bool) (s : State), NewRequest s ip.toNat port.toNat udp 0xb f ∧ s.writer ip.toNat = false ∧ leAt (frameBody f) 0 1 = 2 ∧ s.get CFG_STATE_STATE ≠ 0xE :=
  ⟨(5), (0x0A000008), (99), (⟨0, 0, false⟩), (svcFrame 11 0 0 7 ([2, 1, 0, 0])), (true), (((st [(CFG_STATE_STATE, 8)]).onBoot fun b => { b with net := some (List.replicate 16 0 ++ [10, 0, 0, 7]) })), by decide +kernel⟩

theorem wit_ServicePort_78 : ∃ (dt : Nat) (ip : BitVec 32) (port : BitVec 16) (udp : Udp) (f : List (BitVec 8)) (mramOk : Bool) (s : State), NewRequest s ip.toNat port.toNat udp 0xb f ∧ s.get CFG_STATE_STATE = 0xE ∧ leAt (frameBody f) 0 1 = 2 :=
  ⟨(5), (0x0A000007), (99), (⟨0, 0, false⟩), (svcFrame 11 0 0 7 ([2, 1, 0, 0])), (true), (((st [(CFG_STATE_STATE, 0xE)]).onBoot fun b => { b with net := some (List.replicate 16 0 ++ [10, 0, 0, 7]) })), by decide +kernel⟩

theorem wit_ServicePort_79 : ∃ (dt : Nat) (ip : BitVec 32) (port : BitVec 16) (udp : Udp) (f : List (BitVec 8)) (mramOk : Bool) (s : State), (¬ Answers s ∨ ¬ Addressed s udp ∨ (ServiceFrame udp.frag f ∧ (leAt f 1 1 ≠ 0xB ∨ leAt (frameBody f) 0 1 ≠ 3))) :=
  ⟨(5), (0x0A000007), (99), (⟨0, 0, false⟩), (svcFrame 1 0 0 7 ([3, 1, 0, 0])), (true), (((st [(CFG_STATE_STATE, 8)]).onBoot fun b => { b with net := some (List.replicate 16 0 ++ [10, 0, 0, 7]) })), by decide +kernel⟩

theorem wit_ServicePort_80 : ∃ (dt : Nat) (ip : BitVec 32) (port : BitVec 16) (udp : Udp) (f : List (BitVec 8)) (mramOk : Bool) (s : State), Answers s ∧ Addressed s udp ∧ ServiceFrame udp.frag f ∧ leAt f 1 1 = 0xb ∧ leAt (frameBody f) 0 1 = 3 ∧ keptOf s ip.toNat port.toNat = some { who := { ip := ip.toNat, port := port.toNat }, seq := leAt f 4 2, resp := none } :=
  ⟨(5), (0x0A000007), (99), (⟨0, 0, false⟩), (svcFrame 11 0 0 7 ([3, 1, 0, 0])), (true), (endOf 7 none ((st [(CFG_STATE_STATE, 8)]).onBoot fun b => { b with net := some (List.replicate 16 0 ++ [10, 0, 0, 7]) })), by decide +kernel⟩

theorem wit_ServicePort_81 : ∃ (dt : Nat) (ip : BitVec 32) (port : BitVec 16) (udp : Udp) (f : List (BitVec 8)) (mramOk : Bool) (s : State), Answers s ∧ Addressed s udp ∧ ¬ ServiceFrame udp.frag f :=
  ⟨(5), (0x0A000007), (99), (⟨0, 0, true⟩), (svcFrame 11 0 0 7 ([])), (true), (((st [(CFG_STATE_STATE, 8), (SVC_STAT_BAD, 65535)]).onBoot fun b => { b with net := some (List.replicate 16 0 ++ [10, 0, 0, 7]) })), by decide +kernel⟩

theorem wit_ServicePort_82 : ∃ (dt : Nat) (ip : BitVec 32) (port : BitVec 16) (udp : Udp) (f : List (BitVec 8)) (mramOk : Bool) (k : List Byte) (s : State), Answers s ∧ Addressed s udp ∧ ServiceFrame udp.frag f ∧ leAt f 1 1 = 0xb ∧ leAt (frameBody f) 0 1 = 3 ∧ keptOf s ip.toNat port.toNat = some { who := { ip := ip.toNat, port := port.toNat }, seq := leAt f 4 2, resp := some k } :=
  ⟨(5), (0x0A000007), (99), (⟨0, 0, false⟩), (svcFrame 11 0 0 7 ([3, 1, 0, 0])), (true), ([5, 6]), (endOf 7 (some [5, 6]) ((st [(CFG_STATE_STATE, 8)]).onBoot fun b => { b with net := some (List.replicate 16 0 ++ [10, 0, 0, 7]) })), by decide +kernel⟩

theorem wit_ServicePort_83 : ∃ (dt : Nat) (ip : BitVec 32) (port : BitVec 16) (udp : Udp) (f : List (BitVec 8)) (mramOk : Bool) (q : Nat) (s : State), Answers s ∧ Addressed s udp ∧ ServiceFrame udp.frag f ∧ leAt f 1 1 = 0xb ∧ leAt (frameBody f) 0 1 = 3 ∧ q ≠ leAt f 4 2 ∧ keptOf s ip.toNat port.toNat = some { who := { ip := ip.toNat, port := port.toNat }, seq := q, resp := none } :=
  ⟨(5), (0x0A000007), (99), (⟨0, 0, false⟩), (svcFrame 11 0 0 7 ([3, 1, 0, 0])), (true), (6), (endOf 6 none ((st [(CFG_STATE_STATE, 8)]).onBoot fun b => { b with net := some (List.replicate 16 0 ++ [10, 0, 0, 7]) })), by decide +kernel⟩

theorem wit_ServicePort_84 : ∃ (dt : Nat) (ip : BitVec 32) (port : BitVec 16) (udp : Udp) (f : List (BitVec 8)) (mramOk : Bool) (s : State), NewRequest s ip.toNat port.toNat udp 0xb f ∧ s.writer ip.toNat = false ∧ leAt (frameBody f) 0 1 = 3 ∧ s.get CFG_STATE_STATE ≠ 0xE :=
  ⟨(5), (0x0A000008), (99), (⟨0, 0, false⟩), (svcFrame 11 0 0 7 ([3, 1, 0, 0])), (true), (((st [(CFG_STATE_STATE, 8)]).onBoot fun b => { b with net := some (List.replicate 16 0 ++ [10, 0, 0, 7]) })), by decide +kernel⟩

theorem wit_ServicePort_85 : ∃ (dt : Nat) (ip : BitVec 32) (port : BitVec 16) (udp : Udp) (f : List (BitVec 8)) (mramOk : Bool) (s : State), NewRequest s ip.toNat port.toNat udp 0xb f ∧ s.get CFG_STATE_STATE = 0xE ∧ leAt (frameBody f) 0 1 = 3 :=
  ⟨(5), (0x0A000007), (99), (⟨0, 0, false⟩), (svcFrame 11 0 0 7 ([3, 1, 0, 0])), (true), (((st [(CFG_STATE_STATE, 0xE)]).onBoot fun b => { b with net := some (List.replicate 16 0 ++ [10, 0, 0, 7]) })), by decide +kernel⟩

theorem wit_ServicePort_86 : ∃ (dt : Nat) (ip : BitVec 32) (port : BitVec 16) (udp : Udp) (f : List (BitVec 8)) (n : Nat) (s : State), NewRequest s ip.toNat port.toNat udp n f ∧ (n = 0 ∨ 0xC < n) :=
  ⟨(5), (0x0A000007), (99), (⟨0, 0, false⟩), (svcFrame 32 0 0 7 ([1, 2])), (0x20), (((st [(CFG_STATE_STATE, 8)]).onBoot fun b => { b with net := some (List.replicate 16 0 ++ [10, 0, 0, 7]) })), by decide +kernel⟩

theorem wit_ServicePort_87 : ∃ (dt : Nat) (ip : BitVec 32) (port : BitVec 16) (udp : Udp) (f : List (BitVec 8)) (s : State), NewRequest s ip.toNat port.toNat udp 0xB f ∧ (leAt (frameBody f) 0 1 = 0 ∨ 3 < leAt (frameBody f) 0 1) ∧ s.get CFG_STATE_STATE ≠ 0xE ∧ s.writer ip.toNat = true :=
  ⟨(5), (0x0A000007), (99), (⟨0, 0, false⟩), (svcFrame 11 0 0 7 ([4, 1, 0, 0])), (((st [(CFG_STATE_STATE, 8)]).onBoot fun b => { b with net := some (List.replicate 16 0 ++ [10, 0, 0, 7]) })), by decide +kernel⟩

theorem wit_ServicePort_88 : ∃ (dt : Nat) (target : BitVec 32) (s : State), Answers s ∧ (match s.boot.net with | some l => ofBe (slice l 0 4) | none => 0xA9FE2038) = target.toNat :=
  ⟨(5), (0), (((st [(CFG_STATE_STATE, 8)]).onBoot fun b => { b with net := some (List.replicate 16 0 ++ [10, 0, 0, 7]) })), by decide +kernel⟩

theorem wit_ServicePort_89 : ∃ (dt : Nat) (target : BitVec 32) (s : State), (¬ Answers s ∨ (match s.boot.net with | some l => ofBe (slice l 0 4) | none => 0xA9FE2038) ≠ target.toNat) :=
  ⟨(5), (1), (((st [(CFG_STATE_STATE, 8)]).onBoot fun b => { b with net := some (List.replicate 16 0 ++ [10, 0, 0, 7]) })), by decide +kernel⟩

theorem wit_ServicePort_90 : ∃ (dt : Nat) (target : BitVec 32) (data : List (BitVec 8)) (s : State), Answers s ∧ (match s.boot.net with | some l => ofBe (slice l 0 4) | none => 0xA9FE2038) = target.toNat :=
  ⟨(5), (0xA9FE2038), ([1, 2]), (st [(CFG_STATE_STATE, 0xE)]), by decide +kernel⟩

theorem wit_ServicePort_91 : ∃ (dt : Nat) (target : BitVec 32) (data : List (BitVec 8)) (s : State), (¬ Answers s ∨ (match s.boot.net with | some l => ofBe (slice l 0 4) | none => 0xA9FE2038) ≠ target.toNat) :=
  ⟨(5), (1), ([1, 2]), (((st [(CFG_STATE_STATE, 8)]).onBoot fun b => { b with net := some (List.replicate 16 0 ++ [10, 0, 0, 7]) })), by decide +kernel⟩

theorem wit_ServicePort_92 : ∃ (dt : Nat) (target : BitVec 32) (data : List (BitVec 8)) (s : State), Answers s :=
  ⟨(5), (1), ([1, 2]), (((st [(CFG_STATE_STATE, 8)]).onBoot fun b => { b with net := some (List.replicate 16 0 ++ [10, 0, 0, 7]) })), by decide +kernel⟩

theorem wit_ServicePort_93 : ∃ (dt : Nat) (target : BitVec 32) (data : List (BitVec 8)) (s : State), ¬ Answers s :=
  ⟨(5), (1), ([1, 2]), (((st [(CFG_STATE_STATE, 4)]).onBoot fun b => { b with net := some (List.replicate 16 0 ++ [10, 0, 0, 7]) })), by decide +kernel⟩

theorem wit_ServiceCommands_1 : ∃ (dt : Nat) (ip : BitVec 32) (port : BitVec 16) (udp : Udp) (f : List (BitVec 8)) (s : State), NewRequest s ip.toNat port.toNat udp 1 f ∧ (frameBody f) = [] :=
  ⟨(5), (0x0A000007), (99), (⟨0, 0, false⟩), (svcFrame 1 0 0 7 ([])), (((st [(CFG_STATE_STATE, 8), (RNG_CFG_ROLE, 1)]).onBoot fun b => { b with net := some (List.replicate 16 0 ++ [10, 0, 0, 7]) })), by decide +kernel⟩

theorem wit_ServiceCommands_2 : ∃ (dt : Nat) (ip : BitVec 32) (port : BitVec 16) (udp : Udp) (f : List (BitVec 8)) (s : State), NewRequest s ip.toNat port.toNat udp 1 f ∧ (frameBody f) ≠ [] :=
  ⟨(5), (0x0A000007), (99), (⟨0, 0, false⟩), (svcFrame 1 0 0 7 ([1])), (((st [(CFG_STATE_STATE, 8)]).onBoot fun b => { b with net := some (List.replicate 16 0 ++ [10, 0, 0, 7]) })), by decide +kernel⟩

theorem wit_ServiceCommands_3 : ∃ (dt : Nat) (ip : BitVec 32) (port : BitVec 16) (udp : Udp) (f : List (BitVec 8)) (s : State), NewRequest s ip.toNat port.toNat udp 2 f ∧ ((frameBody f).length ≠ 6 ∨ leAt (frameBody f) 4 2 = 0 ∨ 256 < leAt (frameBody f) 4 2) :=
  ⟨(5), (0x0A000007), (99), (⟨0, 0, false⟩), (svcFrame 2 0 0 7 ([0, 0, 0, 0x90, 1, 1])), (((st [(CFG_STATE_STATE, 8)]).onBoot fun b => { b with net := some (List.replicate 16 0 ++ [10, 0, 0, 7]) })), by decide +kernel⟩

theorem wit_ServiceCommands_4 : ∃ (dt : Nat) (ip : BitVec 32) (port : BitVec 16) (udp : Udp) (f : List (BitVec 8)) (s : State), NewRequest s ip.toNat port.toNat udp 2 f ∧ (frameBody f).length = 6 ∧ 1 ≤ leAt (frameBody f) 4 2 ∧ leAt (frameBody f) 4 2 ≤ 256 ∧ (oneBlock (leAt (frameBody f) 0 4) (leAt (frameBody f) 4 2) = false ∨ (s.get CFG_STATE_STATE = 0xE ∧ blockNo (leAt (frameBody f) 0 4) ≠ some 0x10 ∧ blockNo (leAt (frameBody f) 0 4) ≠ some 0x1F0)) :=
  ⟨(5), (0x0A000007), (99), (⟨0, 0, false⟩), (svcFrame 2 0 0 7 ([0, 0, 0, 0x90, 1, 0])), (((st [(CFG_STATE_STATE, 0xE)]).onBoot fun b => { b with net := some (List.replicate 16 0 ++ [10, 0, 0, 7]) })), by decide +kernel⟩

theorem wit_ServiceCommands_5 : ∃ (dt : Nat) (ip : BitVec 32) (port : BitVec 16) (udp : Udp) (f : List (BitVec 8)) (s : State), NewRequest s ip.toNat port.toNat udp 2 f ∧ (frameBody f).length = 6 ∧ 1 ≤ leAt (frameBody f) 4 2 ∧ leAt (frameBody f) 4 2 ≤ 256 ∧ s.get CFG_STATE_STATE ≠ 0xE ∧ 0x80000000 ≤ leAt (frameBody f) 0 4 ∧ leAt (frameBody f) 0 4 + 4 * leAt (frameBody f) 4 2 ≤ 2 ^ 32 :=
  ⟨(5), (0x0A000007), (99), (⟨0, 0, false⟩), (svcFrame 2 0 0 7 ([0, 0, 0, 0x90, 2, 0])), (((((st [(CFG_STATE_STATE, 8)]).onBoot fun b => { b with net := some (List.replicate 16 0 ++ [10, 0, 0, 7]) })).bulkPut 0x90000001 9).bulkPut 0x90000007 8), by decide +kernel⟩

theorem wit_ServiceCommands_6 : ∃ (dt : Nat) (ip : BitVec 32) (port : BitVec 16) (udp : Udp) (f : List (BitVec 8)) (d : RegDesc) (s : State), NewRequest s ip.toNat port.toNat udp 2 f ∧ (frameBody f).length = 6 ∧ leAt (frameBody f) 4 2 = 1 ∧ s.get CFG_STATE_STATE ≠ 0xE ∧ leAt (frameBody f) 0 4 % 4 = 0 ∧ (leAt (frameBody f) 0 4 / 2 ^ 24 = 0x11 ∨ leAt (frameBody f) 0 4 / 2 ^ 24 = 0x12) ∧ regDesc (leAt (frameBody f) 0 4) = some d ∧ d.part = .word ∧ d.wo = 0 :=
  ⟨(5), (0x0A000007), (99), (⟨0, 0, false⟩), (svcFrame 2 0 0 7 [0, 0xF0, 0, 0x12, 1, 0]), (⟨0x1200F000, 0x4, 1, 0x4, 1, 0x0, 0x0, 0xFFFFFFFF, 0x0, 0x80100000, .word⟩), (((st [(CFG_STATE_STATE, 8)]).onBoot fun b => { b with net := some (List.replicate 16 0 ++ [10, 0, 0, 7]) })), by decide +kernel⟩

theorem wit_ServiceCommands_7 : ∃ (dt : Nat) (ip : BitVec 32) (port : BitVec 16) (udp : Udp) (f : List (BitVec 8)) (q : Fin 64) (s : State), NewRequest s ip.toNat port.toNat udp 2 f ∧ (frameBody f).length = 6 ∧ leAt (frameBody f) 4 2 = 1 ∧ s.get CFG_STATE_STATE ≠ 0xE ∧ leAt (frameBody f) 0 4 = QUE_POP q :=
  ⟨(5), (0x0A000007), (99), (⟨0, 0, false⟩), (svcFrame 2 0 0 7 (leBytes 4 (QUE_POP 3) ++ [1, 0])), (3), (((st [(CFG_STATE_STATE, 8), (QUE_ST_DEPTH 3, 1)]).onBoot fun b => { b with net := some (List.replicate 16 0 ++ [10, 0, 0, 7]) })), by decide +kernel⟩

theorem wit_ServiceCommands_8 : ∃ (dt : Nat) (ip : BitVec 32) (port : BitVec 16) (udp : Udp) (f : List (BitVec 8)) (s : State), NewRequest s ip.toNat port.toNat udp 3 f ∧ s.get CFG_STATE_STATE ≠ 0xE ∧ s.writer ip.toNat = true ∧ (leAt (frameBody f) 4 2 = 0 ∨ 256 < leAt (frameBody f) 4 2 ∨ (frameBody f).length ≠ 8 + 4 * leAt (frameBody f) 4 2) :=
  ⟨(5), (0x0A000007), (99), (⟨0, 0, false⟩), (svcFrame 3 0 0 7 ([0, 0, 0, 0, 1, 0])), (((st [(CFG_STATE_STATE, 8)]).onBoot fun b => { b with net := some (List.replicate 16 0 ++ [10, 0, 0, 7]) })), by decide +kernel⟩

theorem wit_ServiceCommands_9 : ∃ (dt : Nat) (ip : BitVec 32) (port : BitVec 16) (udp : Udp) (f : List (BitVec 8)) (s : State), NewRequest s ip.toNat port.toNat udp 3 f ∧ s.get CFG_STATE_STATE ≠ 0xE ∧ s.writer ip.toNat = true ∧ 1 ≤ leAt (frameBody f) 4 2 ∧ leAt (frameBody f) 4 2 ≤ 256 ∧ (frameBody f).length = 8 + 4 * leAt (frameBody f) 4 2 :=
  ⟨(5), (0x0A000007), (99), (⟨0, 0, false⟩), (svcFrame 3 0 0 7 (leBytes 4 (ACQ_WDLY 2) ++ [2, 0, 0, 0] ++ leBytes 8 5)), (((st [(CFG_STATE_STATE, 8)]).onBoot fun b => { b with net := some (List.replicate 16 0 ++ [10, 0, 0, 7]) })), by decide +kernel⟩

theorem wit_ServiceCommands_10 : ∃ (dt : Nat) (ip : BitVec 32) (port : BitVec 16) (udp : Udp) (f : List (BitVec 8)) (n : Fin 4) (s : State), NewRequest s ip.toNat port.toNat udp 3 f ∧ s.get CFG_STATE_STATE ≠ 0xE ∧ s.writer ip.toNat = true ∧ leAt (frameBody f) 4 2 = 1 ∧ (frameBody f).length = 12 ∧ leAt (frameBody f) 0 4 = ACQ_WDLY n :=
  ⟨(5), (0x0A000007), (99), (⟨0, 0, false⟩), (svcFrame 3 0 0 7 (leBytes 4 (ACQ_WDLY 2) ++ [1, 0, 0, 0] ++ leBytes 4 0x12345)), (2), (((st [(CFG_STATE_STATE, 8)]).onBoot fun b => { b with net := some (List.replicate 16 0 ++ [10, 0, 0, 7]) })), by decide +kernel⟩

theorem wit_ServiceCommands_11 : ∃ (dt : Nat) (ip : BitVec 32) (port : BitVec 16) (udp : Udp) (f : List (BitVec 8)) (q : Fin 64) (s : State), NewRequest s ip.toNat port.toNat udp 3 f ∧ s.get CFG_STATE_STATE ≠ 0xE ∧ s.writer ip.toNat = true ∧ leAt (frameBody f) 4 2 = 1 ∧ (frameBody f).length = 12 ∧ leAt (frameBody f) 0 4 = QUE_WMK q ∧ (leAt (frameBody f) 8 4 / 65536 = 0 ∨ (leAt (frameBody f) 8 4 % 65536 < leAt (frameBody f) 8 4 / 65536 ∧ leAt (frameBody f) 8 4 / 65536 ≤ s.qCap q)) :=
  ⟨(5), (0x0A000007), (99), (⟨0, 0, false⟩), (svcFrame 3 0 0 7 (leBytes 4 (QUE_WMK 2) ++ [1, 0, 0, 0] ++ leBytes 4 0x0)), (2), (((st [(CFG_STATE_STATE, 8)]).onBoot fun b => { b with net := some (List.replicate 16 0 ++ [10, 0, 0, 7]) })), by decide +kernel⟩

theorem wit_ServiceCommands_12 : ∃ (dt : Nat) (ip : BitVec 32) (port : BitVec 16) (udp : Udp) (f : List (BitVec 8)) (q : Fin 64) (s : State), NewRequest s ip.toNat port.toNat udp 3 f ∧ s.get CFG_STATE_STATE ≠ 0xE ∧ s.writer ip.toNat = true ∧ leAt (frameBody f) 4 2 = 1 ∧ (frameBody f).length = 12 ∧ leAt (frameBody f) 0 4 = QUE_WMK q ∧ (¬ (leAt (frameBody f) 8 4 / 65536 = 0 ∨ (leAt (frameBody f) 8 4 % 65536 < leAt (frameBody f) 8 4 / 65536 ∧ leAt (frameBody f) 8 4 / 65536 ≤ s.qCap q))) :=
  ⟨(5), (0x0A000007), (99), (⟨0, 0, false⟩), (svcFrame 3 0 0 7 (leBytes 4 (QUE_WMK 2) ++ [1, 0, 0, 0] ++ leBytes 4 0x20003)), (2), (((st [(CFG_STATE_STATE, 8)]).onBoot fun b => { b with net := some (List.replicate 16 0 ++ [10, 0, 0, 7]) })), by decide +kernel⟩

theorem wit_ServiceCommands_13 : ∃ (dt : Nat) (ip : BitVec 32) (port : BitVec 16) (udp : Udp) (f : List (BitVec 8)) (s : State), NewRequest s ip.toNat port.toNat udp 3 f ∧ s.get CFG_STATE_STATE ≠ 0xE ∧ s.writer ip.toNat = true ∧ leAt (frameBody f) 4 2 = 1 ∧ (frameBody f).length = 12 ∧ (leAt (frameBody f) 0 4 / 2 ^ 24 = 0x14 ∨ leAt (frameBody f) 0 4 / 2 ^ 24 = 0x16 ∨ leAt (frameBody f) 0 4 / 2 ^ 24 = 0x1E) :=
  ⟨(5), (0x0A000007), (99), (⟨0, 0, false⟩), (svcFrame 3 0 0 7 (leBytes 4 0x16000000 ++ [1, 0, 0, 0] ++ leBytes 4 7)), (((st [(CFG_STATE_STATE, 8)]).onBoot fun b => { b with net := some (List.replicate 16 0 ++ [10, 0, 0, 7]) })), by decide +kernel⟩

theorem wit_ServiceCommands_14 : ∃ (dt : Nat) (ip : BitVec 32) (port : BitVec 16) (udp : Udp) (f : List (BitVec 8)) (s : State), NewRequest s ip.toNat port.toNat udp 3 f ∧ s.get CFG_STATE_STATE ≠ 0xE ∧ s.writer ip.toNat = true ∧ leAt (frameBody f) 4 2 = 1 ∧ (frameBody f).length = 12 ∧ 0x80000000 ≤ leAt (frameBody f) 0 4 ∧ s.rd PRF_TBASE ≤ leAt (frameBody f) 0 4 ∧ leAt (frameBody f) 0 4 + 4 ≤ s.rd PRF_TBASE + 0x40000 ∧ s.committedAt (leAt (frameBody f) 0 4) 4 = false ∧ leAt (frameBody f) 0 4 + 4 ≤ 2 ^ 32 :=
  ⟨(5), (0x0A000007), (99), (⟨0, 0, false⟩), (svcFrame 3 0 0 7 (leBytes 4 0x80100010 ++ [1, 0, 0, 0] ++ leBytes 4 0x12345678)), (((st [(CFG_STATE_STATE, 8)]).onBoot fun b => { b with net := some (List.replicate 16 0 ++ [10, 0, 0, 7]) })), by decide +kernel⟩

theorem wit_ServiceCommands_15 : ∃ (dt : Nat) (ip : BitVec 32) (port : BitVec 16) (udp : Udp) (f : List (BitVec 8)) (s : State), NewRequest s ip.toNat port.toNat udp 3 f ∧ s.get CFG_STATE_STATE ≠ 0xE ∧ s.writer ip.toNat = true ∧ leAt (frameBody f) 4 2 = 1 ∧ (frameBody f).length = 12 ∧ 0x80000000 ≤ leAt (frameBody f) 0 4 ∧ (leAt (frameBody f) 0 4 < s.rd PRF_TBASE ∨ s.rd PRF_TBASE + 0x40000 < leAt (frameBody f) 0 4 + 4) :=
  ⟨(5), (0x0A000007), (99), (⟨0, 0, false⟩), (svcFrame 3 0 0 7 (leBytes 4 0x9FFFFFFC ++ [1, 0, 0, 0] ++ leBytes 4 7)), (((st [(CFG_STATE_STATE, 8)]).onBoot fun b => { b with net := some (List.replicate 16 0 ++ [10, 0, 0, 7]) })), by decide +kernel⟩

theorem wit_ServiceCommands_16 : ∃ (dt : Nat) (ip : BitVec 32) (port : BitVec 16) (udp : Udp) (f : List (BitVec 8)) (s : State), NewRequest s ip.toNat port.toNat udp 4 f ∧ ((frameBody f).length ≠ 8 ∨ leAt (frameBody f) 4 1 = 0 ∨ 40 < leAt (frameBody f) 4 1) :=
  ⟨(5), (0x0A000007), (99), (⟨0, 0, false⟩), (svcFrame 4 0 0 7 ([0, 0, 0, 0, 41, 0, 0, 0])), (((st [(CFG_STATE_STATE, 8)]).onBoot fun b => { b with net := some (List.replicate 16 0 ++ [10, 0, 0, 7]) })), by decide +kernel⟩

theorem wit_ServiceCommands_17 : ∃ (dt : Nat) (ip : BitVec 32) (port : BitVec 16) (udp : Udp) (f : List (BitVec 8)) (s : State), NewRequest s ip.toNat port.toNat udp 4 f ∧ (frameBody f).length = 8 ∧ 1 ≤ leAt (frameBody f) 4 1 ∧ leAt (frameBody f) 4 1 ≤ 40 :=
  ⟨(5), (0x0A000007), (99), (⟨0, 0, false⟩), (svcFrame 4 0 0 7 ([1, 0, 0, 0, 1, 0, 0, 0])), ((((st [(CFG_STATE_STATE, 0xE)]).onBoot fun b => { b with net := some (List.replicate 16 0 ++ [10, 0, 0, 7]) })).onLog fun l => { l with ring := [⟨0, 1, 2, 0x1D, 2, false, false, 0, 0x304, 0, 9, 8, 7, 0⟩, ⟨1, 1, 2, 0x1D, 2, false, false, 0, 0x304, 0, 9, 8, 7, 0⟩, ⟨2, 1, 2, 0x1D, 2, false, false, 0, 0x304, 0, 9, 8, 7, 0⟩] }), by decide +kernel⟩

theorem wit_ServiceCommands_18 : ∃ (dt : Nat) (ip : BitVec 32) (port : BitVec 16) (udp : Udp) (f : List (BitVec 8)) (s : State), NewRequest s ip.toNat port.toNat udp 5 f ∧ ((frameBody f).length ≠ 4 ∨ 63 < leAt (frameBody f) 0 1 ∨ leAt (frameBody f) 1 1 = 0 ∨ 40 < leAt (frameBody f) 1 1) :=
  ⟨(5), (0x0A000007), (99), (⟨0, 0, false⟩), (svcFrame 5 0 0 7 ([64, 1, 0, 0])), (((st [(CFG_STATE_STATE, 8)]).onBoot fun b => { b with net := some (List.replicate 16 0 ++ [10, 0, 0, 7]) })), by decide +kernel⟩

theorem wit_ServiceCommands_19 : ∃ (dt : Nat) (ip : BitVec 32) (port : BitVec 16) (udp : Udp) (f : List (BitVec 8)) (s : State), NewRequest s ip.toNat port.toNat udp 5 f ∧ (frameBody f).length = 4 ∧ leAt (frameBody f) 0 1 ≤ 63 ∧ 1 ≤ leAt (frameBody f) 1 1 ∧ leAt (frameBody f) 1 1 ≤ 40 :=
  ⟨(5), (0x0A000007), (99), (⟨0, 0, false⟩), (svcFrame 5 0 0 7 ([0, 40, 0, 0])), ((((st [(CFG_STATE_STATE, 8)]).onBoot fun b => { b with net := some (List.replicate 16 0 ++ [10, 0, 0, 7]) })).onLog fun l => { l with nextSlot := 3, slots := [(0, leBytes 36 1 ++ leBytes 4 (crc32c (leBytes 36 1))), (1, [5]), (2, leBytes 36 2 ++ leBytes 4 (crc32c (leBytes 36 2)))] }), by decide +kernel⟩

theorem wit_ServiceCommands_20 : ∃ (dt : Nat) (ip : BitVec 32) (port : BitVec 16) (udp : Udp) (f : List (BitVec 8)) (s : State), NewRequest s ip.toNat port.toNat udp 6 f ∧ s.get CFG_STATE_STATE ≠ 0xE ∧ s.writer ip.toNat = true ∧ (leAt (frameBody f) 1 1 = 0 ∨ 16 < leAt (frameBody f) 1 1 ∨ (frameBody f).length ≠ 4 + 8 * leAt (frameBody f) 1 1 ∨ (leAt (frameBody f) 0 1 ≠ 0 ∧ (leAt (frameBody f) 0 1 < 0x10 ∨ 0x1F < leAt (frameBody f) 0 1))) :=
  ⟨(5), (0x0A000007), (99), (⟨0, 0, false⟩), (svcFrame 6 0 0 7 ([1, 1, 0, 0, 0, 0, 0, 0, 0, 0, 0, 0])), (((st [(CFG_STATE_STATE, 8)]).onBoot fun b => { b with net := some (List.replicate 16 0 ++ [10, 0, 0, 7]) })), by decide +kernel⟩

theorem wit_ServiceCommands_21 : ∃ (dt : Nat) (ip : BitVec 32) (port : BitVec 16) (udp : Udp) (f : List (BitVec 8)) (s : State), NewRequest s ip.toNat port.toNat udp 6 f ∧ s.get CFG_STATE_STATE ≠ 0xE ∧ s.writer ip.toNat = true ∧ 1 ≤ leAt (frameBody f) 1 1 ∧ leAt (frameBody f) 1 1 ≤ 16 ∧ (frameBody f).length = 4 + 8 * leAt (frameBody f) 1 1 ∧ (leAt (frameBody f) 0 1 = 0 ∨ (0x10 ≤ leAt (frameBody f) 0 1 ∧ leAt (frameBody f) 0 1 ≤ 0x1F)) ∧ (∀ c : Fin 4, s.get (QUE_PRES_BUSY c) = 1) :=
  ⟨(5), (0x0A000007), (99), (⟨0, 0, false⟩), (svcFrame 6 0 0 7 ([0, 1, 0, 0, 0, 0, 0, 0, 0, 0, 0, 0])), (((st [(CFG_STATE_STATE, 8), (QUE_PRES_BUSY 0, 1), (QUE_PRES_BUSY 1, 1), (QUE_PRES_BUSY 2, 1), (QUE_PRES_BUSY 3, 1)]).onBoot fun b => { b with net := some (List.replicate 16 0 ++ [10, 0, 0, 7]) })), by decide +kernel⟩

theorem wit_ServiceCommands_22 : ∃ (dt : Nat) (ip : BitVec 32) (port : BitVec 16) (udp : Udp) (f : List (BitVec 8)) (c : Fin 4) (s : State), NewRequest s ip.toNat port.toNat udp 6 f ∧ s.get CFG_STATE_STATE ≠ 0xE ∧ s.writer ip.toNat = true ∧ 1 ≤ leAt (frameBody f) 1 1 ∧ leAt (frameBody f) 1 1 ≤ 16 ∧ (frameBody f).length = 4 + 8 * leAt (frameBody f) 1 1 ∧ (leAt (frameBody f) 0 1 = 0 ∨ (0x10 ≤ leAt (frameBody f) 0 1 ∧ leAt (frameBody f) 0 1 ≤ 0x1F)) ∧ ((∀ d : Fin 4, d < c → s.get (QUE_PRES_BUSY d) = 1)) ∧ s.get (QUE_PRES_BUSY c) = 0 ∧ ((∀ m ∈ s.svc.motions, m.core ≠ c.val)) ∧ (s.qCap (leAt (frameBody f) 0 1) = 0 ∨ s.get (QUE_CFG_PROD (leAt (frameBody f) 0 1)) ≠ 1) :=
  ⟨(5), (0x0A000007), (99), (⟨0, 0, false⟩), (svcFrame 6 0 0 7 ([0x10, 1, 0, 0, 1, 0, 0, 0, 0, 0, 0, 0])), (1), (((st [(CFG_STATE_STATE, 8), (QUE_PRES_BUSY 0, 1)]).onBoot fun b => { b with net := some (List.replicate 16 0 ++ [10, 0, 0, 7]) })), by decide +kernel⟩

theorem wit_ServiceCommands_23 : ∃ (dt : Nat) (ip : BitVec 32) (port : BitVec 16) (udp : Udp) (f : List (BitVec 8)) (c : Fin 4) (s : State), NewRequest s ip.toNat port.toNat udp 6 f ∧ s.get CFG_STATE_STATE ≠ 0xE ∧ s.writer ip.toNat = true ∧ 1 ≤ leAt (frameBody f) 1 1 ∧ leAt (frameBody f) 1 1 ≤ 16 ∧ (frameBody f).length = 4 + 8 * leAt (frameBody f) 1 1 ∧ (leAt (frameBody f) 0 1 = 0 ∨ (0x10 ≤ leAt (frameBody f) 0 1 ∧ leAt (frameBody f) 0 1 ≤ 0x1F)) ∧ ((∀ d : Fin 4, d < c → s.get (QUE_PRES_BUSY d) = 1)) ∧ s.get (QUE_PRES_BUSY c) = 0 ∧ ((∀ m ∈ s.svc.motions, m.core ≠ c.val)) ∧ s.qCap (leAt (frameBody f) 0 1) ≠ 0 ∧ s.get (QUE_CFG_PROD (leAt (frameBody f) 0 1)) = 1 ∧ s.get (QUE_CFG_BROKEN (leAt (frameBody f) 0 1)) = 1 :=
  ⟨(5), (0x0A000007), (99), (⟨0, 0, false⟩), (svcFrame 6 0 0 7 ([0x10, 1, 0, 0, 1, 0, 0, 0, 0, 0, 0, 0])), (0), (((st [(CFG_STATE_STATE, 8), (QUE_CFG_CAPL 16, 4), (QUE_CFG_PROD 16, 1), (QUE_CFG_BROKEN 16, 1)]).onBoot fun b => { b with net := some (List.replicate 16 0 ++ [10, 0, 0, 7]) })), by decide +kernel⟩

theorem wit_ServiceCommands_24 : ∃ (dt : Nat) (ip : BitVec 32) (port : BitVec 16) (udp : Udp) (f : List (BitVec 8)) (c : Fin 4) (s : State), NewRequest s ip.toNat port.toNat udp 6 f ∧ s.get CFG_STATE_STATE ≠ 0xE ∧ s.writer ip.toNat = true ∧ 1 ≤ leAt (frameBody f) 1 1 ∧ leAt (frameBody f) 1 1 ≤ 16 ∧ (frameBody f).length = 4 + 8 * leAt (frameBody f) 1 1 ∧ (leAt (frameBody f) 0 1 = 0 ∨ (0x10 ≤ leAt (frameBody f) 0 1 ∧ leAt (frameBody f) 0 1 ≤ 0x1F)) ∧ ((∀ d : Fin 4, d < c → s.get (QUE_PRES_BUSY d) = 1)) ∧ s.get (QUE_PRES_BUSY c) = 0 ∧ ((∀ m ∈ s.svc.motions, m.core ≠ c.val)) ∧ s.qCap (leAt (frameBody f) 0 1) ≠ 0 ∧ s.get (QUE_CFG_PROD (leAt (frameBody f) 0 1)) = 1 ∧ s.get (QUE_CFG_BROKEN (leAt (frameBody f) 0 1)) = 0 ∧ s.canPush (leAt (frameBody f) 0 1) (leAt (frameBody f) 1 1) = true :=
  ⟨(5), (0x0A000007), (99), (⟨0, 0, false⟩), (svcFrame 6 0 0 7 ([0x10, 1, 0, 0, 1, 0, 0, 0, 0, 0, 0, 0])), (0), (((st [(CFG_STATE_STATE, 8), (QUE_CFG_CAPL 16, 4), (QUE_CFG_PROD 16, 1)]).onBoot fun b => { b with net := some (List.replicate 16 0 ++ [10, 0, 0, 7]) })), by decide +kernel⟩

theorem wit_ServiceCommands_25 : ∃ (dt : Nat) (ip : BitVec 32) (port : BitVec 16) (udp : Udp) (f : List (BitVec 8)) (c : Fin 4) (s : State), NewRequest s ip.toNat port.toNat udp 6 f ∧ s.get CFG_STATE_STATE ≠ 0xE ∧ s.writer ip.toNat = true ∧ 1 ≤ leAt (frameBody f) 1 1 ∧ leAt (frameBody f) 1 1 ≤ 16 ∧ (frameBody f).length = 4 + 8 * leAt (frameBody f) 1 1 ∧ (leAt (frameBody f) 0 1 = 0 ∨ (0x10 ≤ leAt (frameBody f) 0 1 ∧ leAt (frameBody f) 0 1 ≤ 0x1F)) ∧ ((∀ d : Fin 4, d < c → s.get (QUE_PRES_BUSY d) = 1)) ∧ s.get (QUE_PRES_BUSY c) = 0 ∧ s.qCap (leAt (frameBody f) 0 1) ≠ 0 ∧ s.get (QUE_CFG_PROD (leAt (frameBody f) 0 1)) = 1 ∧ s.get (QUE_CFG_BROKEN (leAt (frameBody f) 0 1)) = 0 ∧ s.canPush (leAt (frameBody f) 0 1) (leAt (frameBody f) 1 1) = false :=
  ⟨(5), (0x0A000007), (99), (⟨0, 0, false⟩), (svcFrame 6 0 0 7 ([0x10, 1, 0, 0, 1, 0, 0, 0, 0, 0, 0, 0])), (0), (((st [(CFG_STATE_STATE, 8), (QUE_CFG_CAPL 16, 4), (QUE_CFG_PROD 16, 1), (QUE_ST_DEPTH 16, 16)]).onBoot fun b => { b with net := some (List.replicate 16 0 ++ [10, 0, 0, 7]) })), by decide +kernel⟩

theorem wit_ServiceCommands_26 : ∃ (dt : Nat) (ip : BitVec 32) (port : BitVec 16) (udp : Udp) (f : List (BitVec 8)) (s : State), NewRequest s ip.toNat port.toNat udp 7 f ∧ s.get CFG_STATE_STATE ≠ 0xE ∧ ((frameBody f).length ≠ 4 ∨ leAt (frameBody f) 0 1 = 0 ∨ 64 < leAt (frameBody f) 0 1) :=
  ⟨(5), (0x0A000007), (99), (⟨0, 0, false⟩), (svcFrame 7 0 0 7 ([65, 0, 0, 0])), (((st [(CFG_STATE_STATE, 8)]).onBoot fun b => { b with net := some (List.replicate 16 0 ++ [10, 0, 0, 7]) })), by decide +kernel⟩

theorem wit_ServiceCommands_27 : ∃ (dt : Nat) (ip : BitVec 32) (port : BitVec 16) (udp : Udp) (f : List (BitVec 8)) (s : State), NewRequest s ip.toNat port.toNat udp 7 f ∧ s.get CFG_STATE_STATE ≠ 0xE ∧ (frameBody f).length = 4 ∧ 1 ≤ leAt (frameBody f) 0 1 ∧ leAt (frameBody f) 0 1 ≤ 64 :=
  ⟨(5), (0x0A000007), (99), (⟨0, 0, false⟩), (svcFrame 7 0 0 7 ([1, 0, 0, 0])), ((((st [(CFG_STATE_STATE, 8)]).onBoot fun b => { b with net := some (List.replicate 16 0 ++ [10, 0, 0, 7]) })).sv fun x => { x with events := [7, 8], lost := 3 }), by decide +kernel⟩

theorem wit_ServiceCommands_28 : ∃ (dt : Nat) (ip : BitVec 32) (port : BitVec 16) (udp : Udp) (f : List (BitVec 8)) (s : State), NewRequest s ip.toNat port.toNat udp 0x8 f ∧ s.writer ip.toNat = true ∧ (frameBody f).length ≠ 8 :=
  ⟨(5), (0x0A000007), (99), (⟨0, 0, false⟩), (svcFrame 8 0 0 7 ([0])), (((st [(CFG_STATE_STATE, 8)]).onBoot fun b => { b with net := some (List.replicate 16 0 ++ [10, 0, 0, 7]) })), by decide +kernel⟩

theorem wit_ServiceCommands_29 : ∃ (dt : Nat) (ip : BitVec 32) (port : BitVec 16) (udp : Udp) (f : List (BitVec 8)) (s : State), NewRequest s ip.toNat port.toNat udp 0x8 f ∧ s.writer ip.toNat = true ∧ ¬ ((frameBody f).length ≠ 8) ∧ (s.get CFG_STATE_STATE = 9 ∨ s.svc.download.any (fun d => d.who != { ip := ip.toNat, port := port.toNat }) = true) :=
  ⟨(5), (0x0A000007), (99), (⟨0, 0, false⟩), (svcFrame 8 0 0 7 ([0, 0, 0, 0, 8, 0, 0, 0])), ((((st [(CFG_STATE_STATE, 8), (CFG_FLASH_DENSITY, 26)]).onBoot fun b => { b with net := some (List.replicate 16 0 ++ [10, 0, 0, 7]) })).sv fun x => { x with download := some { who := { ip := 0x0A000007, port := 98 }, target := 0, length := 8, got := 4 } }), by decide +kernel⟩

theorem wit_ServiceCommands_30 : ∃ (dt : Nat) (ip : BitVec 32) (port : BitVec 16) (udp : Udp) (f : List (BitVec 8)) (s : State), NewRequest s ip.toNat port.toNat udp 0x9 f ∧ s.writer ip.toNat = true ∧ ((frameBody f).length < 8 ∨ 1028 < (frameBody f).length ∨ (frameBody f).length % 4 ≠ 0) :=
  ⟨(5), (0x0A000007), (99), (⟨0, 0, false⟩), (svcFrame 9 0 0 7 ([0, 0, 0, 0, 1])), (((st [(CFG_STATE_STATE, 8)]).onBoot fun b => { b with net := some (List.replicate 16 0 ++ [10, 0, 0, 7]) })), by decide +kernel⟩

theorem wit_ServiceCommands_31 : ∃ (dt : Nat) (ip : BitVec 32) (port : BitVec 16) (udp : Udp) (f : List (BitVec 8)) (s : State), NewRequest s ip.toNat port.toNat udp 0x9 f ∧ s.writer ip.toNat = true ∧ (¬ ((frameBody f).length < 8 ∨ 1028 < (frameBody f).length ∨ (frameBody f).length % 4 ≠ 0)) ∧ (s.get CFG_STATE_STATE = 9 ∨ s.svc.download.any (fun d => d.who != { ip := ip.toNat, port := port.toNat }) = true) :=
  ⟨(5), (0x0A000007), (99), (⟨0, 0, false⟩), (svcFrame 9 0 0 7 ([4, 0, 0, 0, 1, 2, 3, 4])), ((((st [(CFG_STATE_STATE, 8), (CFG_FLASH_DENSITY, 26)]).onBoot fun b => { b with net := some (List.replicate 16 0 ++ [10, 0, 0, 7]) })).sv fun x => { x with download := some { who := { ip := 0x0A000007, port := 98 }, target := 0, length := 8, got := 4 } }), by decide +kernel⟩

theorem wit_ServiceCommands_32 : ∃ (dt : Nat) (ip : BitVec 32) (port : BitVec 16) (udp : Udp) (f : List (BitVec 8)) (s : State), NewRequest s ip.toNat port.toNat udp 0x9 f ∧ s.writer ip.toNat = true ∧ (¬ ((frameBody f).length < 8 ∨ 1028 < (frameBody f).length ∨ (frameBody f).length % 4 ≠ 0)) ∧ s.get CFG_STATE_STATE ≠ 9 ∧ s.svc.download = none :=
  ⟨(5), (0x0A000007), (99), (⟨0, 0, false⟩), (svcFrame 9 0 0 7 ([4, 0, 0, 0, 1, 2, 3, 4])), (((st [(CFG_STATE_STATE, 8)]).onBoot fun b => { b with net := some (List.replicate 16 0 ++ [10, 0, 0, 7]) })), by decide +kernel⟩

theorem wit_ServiceCommands_33 : ∃ (dt : Nat) (ip : BitVec 32) (port : BitVec 16) (udp : Udp) (f : List (BitVec 8)) (s : State), NewRequest s ip.toNat port.toNat udp 0xa f ∧ s.writer ip.toNat = true ∧ (frameBody f).length ≠ 4 :=
  ⟨(5), (0x0A000007), (99), (⟨0, 0, false⟩), (svcFrame 10 0 0 7 ([0])), (((st [(CFG_STATE_STATE, 8)]).onBoot fun b => { b with net := some (List.replicate 16 0 ++ [10, 0, 0, 7]) })), by decide +kernel⟩

theorem wit_ServiceCommands_34 : ∃ (dt : Nat) (ip : BitVec 32) (port : BitVec 16) (udp : Udp) (f : List (BitVec 8)) (s : State), NewRequest s ip.toNat port.toNat udp 0xa f ∧ s.writer ip.toNat = true ∧ ¬ ((frameBody f).length ≠ 4) ∧ (s.get CFG_STATE_STATE = 9 ∨ s.svc.download.any (fun d => d.who != { ip := ip.toNat, port := port.toNat }) = true) :=
  ⟨(5), (0x0A000007), (99), (⟨0, 0, false⟩), (svcFrame 10 0 0 7 ([1, 2, 3, 4])), ((((st [(CFG_STATE_STATE, 8), (CFG_FLASH_DENSITY, 26)]).onBoot fun b => { b with net := some (List.replicate 16 0 ++ [10, 0, 0, 7]) })).sv fun x => { x with download := some { who := { ip := 0x0A000007, port := 98 }, target := 0, length := 8, got := 4 } }), by decide +kernel⟩

theorem wit_ServiceCommands_35 : ∃ (dt : Nat) (ip : BitVec 32) (port : BitVec 16) (udp : Udp) (f : List (BitVec 8)) (s : State), NewRequest s ip.toNat port.toNat udp 0xa f ∧ s.writer ip.toNat = true ∧ ¬ ((frameBody f).length ≠ 4) ∧ s.get CFG_STATE_STATE ≠ 9 ∧ s.svc.download = none :=
  ⟨(5), (0x0A000007), (99), (⟨0, 0, false⟩), (svcFrame 10 0 0 7 ([1, 2, 3, 4])), (((st [(CFG_STATE_STATE, 8)]).onBoot fun b => { b with net := some (List.replicate 16 0 ++ [10, 0, 0, 7]) })), by decide +kernel⟩

theorem wit_ServiceCommands_36 : ∃ (dt : Nat) (ip : BitVec 32) (port : BitVec 16) (udp : Udp) (f : List (BitVec 8)) (s : State), NewRequest s ip.toNat port.toNat udp 8 f ∧ s.writer ip.toNat = true ∧ (frameBody f).length = 8 ∧ s.get CFG_STATE_STATE ≠ 9 ∧ (s.svc.download.any (fun d => d.who != { ip := ip.toNat, port := port.toNat }) = false) ∧ s.present (leAt (frameBody f) 0 1) = none :=
  ⟨(5), (0x0A000007), (99), (⟨0, 0, false⟩), (svcFrame 8 0 0 7 ([2, 0, 0, 0, 8, 0, 0, 0])), (((st [(CFG_STATE_STATE, 8)]).onBoot fun b => { b with net := some (List.replicate 16 0 ++ [10, 0, 0, 7]) })), by decide +kernel⟩

theorem wit_ServiceCommands_37 : ∃ (dt : Nat) (ip : BitVec 32) (port : BitVec 16) (udp : Udp) (f : List (BitVec 8)) (a n : Nat) (s : State), NewRequest s ip.toNat port.toNat udp 8 f ∧ s.writer ip.toNat = true ∧ (frameBody f).length = 8 ∧ s.get CFG_STATE_STATE ≠ 9 ∧ (s.svc.download.any (fun d => d.who != { ip := ip.toNat, port := port.toNat }) = false) ∧ s.present (leAt (frameBody f) 0 1) = some (a, n) ∧ (leAt (frameBody f) 4 4 % 4 ≠ 0 ∨ n < leAt (frameBody f) 4 4) :=
  ⟨(5), (0x0A000007), (99), (⟨0, 0, false⟩), (svcFrame 8 0 0 7 ([1, 0, 0, 0, 4, 0, 0xC0, 0])), (0xD00000), (0xC00000), ((((st [(CFG_STATE_STATE, 8), (CFG_FLASH_DENSITY, 26)]).onBoot fun b => { b with net := some (List.replicate 16 0 ++ [10, 0, 0, 7]) })).sv fun x => { x with download := none }), by decide +kernel⟩

theorem wit_ServiceCommands_38 : ∃ (dt : Nat) (ip : BitVec 32) (port : BitVec 16) (udp : Udp) (f : List (BitVec 8)) (a n : Nat) (s : State), NewRequest s ip.toNat port.toNat udp 8 f ∧ s.writer ip.toNat = true ∧ (frameBody f).length = 8 ∧ s.get CFG_STATE_STATE ≠ 9 ∧ (s.svc.download.any (fun d => d.who != { ip := ip.toNat, port := port.toNat }) = false) ∧ s.present (leAt (frameBody f) 0 1) = some (a, n) ∧ leAt (frameBody f) 4 4 % 4 = 0 ∧ leAt (frameBody f) 4 4 ≤ n ∧ s.get CFG_STATE_STATE ≠ 0xE ∧ s.get CFG_BOOT_BANK = leAt (frameBody f) 0 1 :=
  ⟨(5), (0x0A000007), (99), (⟨0, 0, false⟩), (svcFrame 8 0 0 7 ([0, 0, 0, 0, 8, 0, 0, 0])), (0x100000), (0xC00000), ((((st [(CFG_STATE_STATE, 8), (CFG_FLASH_DENSITY, 26), (CFG_BOOT_BANK, 0)]).onBoot fun b => { b with net := some (List.replicate 16 0 ++ [10, 0, 0, 7]) })).sv fun x => { x with download := none }), by decide +kernel⟩

theorem wit_ServiceCommands_39 : ∃ (dt : Nat) (ip : BitVec 32) (port : BitVec 16) (udp : Udp) (f : List (BitVec 8)) (a n : Nat) (s : State), NewRequest s ip.toNat port.toNat udp 8 f ∧ s.writer ip.toNat = true ∧ (frameBody f).length = 8 ∧ s.get CFG_STATE_STATE ≠ 9 ∧ (s.svc.download.any (fun d => d.who != { ip := ip.toNat, port := port.toNat }) = false) ∧ s.present (leAt (frameBody f) 0 1) = some (a, n) ∧ leAt (frameBody f) 4 4 % 4 = 0 ∧ leAt (frameBody f) 4 4 ≤ n ∧ (s.get CFG_STATE_STATE = 0xE ∨ s.get CFG_BOOT_BANK ≠ leAt (frameBody f) 0 1) :=
  ⟨(5), (0x0A000007), (99), (⟨0, 0, false⟩), (svcFrame 8 0 0 7 ([0x11, 0, 0, 0, 8, 0, 0, 0])), (0x2400000), (0x400000), ((((((st [(CFG_STATE_STATE, 8), (CFG_FLASH_DENSITY, 27), (CFG_BOOT_BANK, 1)]).onBoot fun b => { b with net := some (List.replicate 16 0 ++ [10, 0, 0, 7]) })).sv fun x => { x with download := some { who := { ip := 0x0A000007, port := 99 }, target := 0, length := 8, got := 4 } }).flashStore 0x23FFFFF [1, 2, 3])), by decide +kernel⟩

theorem wit_ServiceCommands_40 : ∃ (dt : Nat) (ip : BitVec 32) (port : BitVec 16) (udp : Udp) (f : List (BitVec 8)) (d : Download) (a n : Nat) (s : State), NewRequest s ip.toNat port.toNat udp 9 f ∧ s.writer ip.toNat = true ∧ 8 ≤ (frameBody f).length ∧ (frameBody f).length ≤ 1028 ∧ (frameBody f).length % 4 = 0 ∧ d.who = { ip := ip.toNat, port := port.toNat } ∧ s.get CFG_STATE_STATE ≠ 9 ∧ s.svc.download = some d ∧ region d.target = some (a, n) ∧ (leAt (frameBody f) 0 4 ≠ d.got ∨ d.length < d.got + ((frameBody f).length - 4)) :=
  ⟨(5), (0x0A000007), (99), (⟨0, 0, false⟩), (svcFrame 9 0 0 7 ([8, 0, 0, 0, 1, 2, 3, 4])), ({ who := { ip := 0x0A000007, port := 99 }, target := 0, length := 8, got := 4 }), (0x100000), (0xC00000), ((((st [(CFG_STATE_STATE, 8), (CFG_FLASH_DENSITY, 26)]).onBoot fun b => { b with net := some (List.replicate 16 0 ++ [10, 0, 0, 7]) })).sv fun x => { x with download := some { who := { ip := 0x0A000007, port := 99 }, target := 0, length := 8, got := 4 } }), by decide +kernel⟩

theorem wit_ServiceCommands_41 : ∃ (dt : Nat) (ip : BitVec 32) (port : BitVec 16) (udp : Udp) (f : List (BitVec 8)) (d : Download) (a n : Nat) (s : State), NewRequest s ip.toNat port.toNat udp 9 f ∧ s.writer ip.toNat = true ∧ 8 ≤ (frameBody f).length ∧ (frameBody f).length ≤ 1028 ∧ (frameBody f).length % 4 = 0 ∧ d.who = { ip := ip.toNat, port := port.toNat } ∧ s.get CFG_STATE_STATE ≠ 9 ∧ s.svc.download = some d ∧ region d.target = some (a, n) ∧ leAt (frameBody f) 0 4 = d.got ∧ d.got + ((frameBody f).length - 4) ≤ d.length :=
  ⟨(5), (0x0A000007), (99), (⟨0, 0, false⟩), (svcFrame 9 0 0 7 ([4, 0, 0, 0, 1, 0, 0xFF, 4])), ({ who := { ip := 0x0A000007, port := 99 }, target := 0, length := 8, got := 4 }), (0x100000), (0xC00000), ((((st [(CFG_STATE_STATE, 8), (CFG_FLASH_DENSITY, 26)]).onBoot fun b => { b with net := some (List.replicate 16 0 ++ [10, 0, 0, 7]) })).sv fun x => { x with download := some { who := { ip := 0x0A000007, port := 99 }, target := 0, length := 8, got := 4 } }), by decide +kernel⟩

theorem wit_ServiceCommands_42 : ∃ (dt : Nat) (ip : BitVec 32) (port : BitVec 16) (udp : Udp) (f : List (BitVec 8)) (d : Download) (a n : Nat) (s : State), NewRequest s ip.toNat port.toNat udp 0xA f ∧ s.writer ip.toNat = true ∧ (frameBody f).length = 4 ∧ d.who = { ip := ip.toNat, port := port.toNat } ∧ s.get CFG_STATE_STATE ≠ 9 ∧ s.svc.download = some d ∧ region d.target = some (a, n) ∧ (d.got ≠ d.length ∨ crc32c (s.flashBytes a d.length) ≠ leAt (frameBody f) 0 4) :=
  ⟨(5), (0x0A000007), (99), (⟨0, 0, false⟩), (svcFrame 10 0 0 7 ([1, 2, 3, 4])), ({ who := { ip := 0x0A000007, port := 99 }, target := 0, length := 8, got := 4 }), (0x100000), (0xC00000), ((((st [(CFG_STATE_STATE, 8), (CFG_FLASH_DENSITY, 26)]).onBoot fun b => { b with net := some (List.replicate 16 0 ++ [10, 0, 0, 7]) })).sv fun x => { x with download := some { who := { ip := 0x0A000007, port := 99 }, target := 0, length := 8, got := 4 } }), by decide +kernel⟩

theorem wit_ServiceCommands_43 : ∃ (dt : Nat) (ip : BitVec 32) (port : BitVec 16) (udp : Udp) (f : List (BitVec 8)) (d : Download) (a n : Nat) (s : State), NewRequest s ip.toNat port.toNat udp 0xA f ∧ s.writer ip.toNat = true ∧ (frameBody f).length = 4 ∧ d.who = { ip := ip.toNat, port := port.toNat } ∧ s.get CFG_STATE_STATE ≠ 9 ∧ s.svc.download = some d ∧ region d.target = some (a, n) ∧ d.got = d.length ∧ crc32c (s.flashBytes a d.length) = leAt (frameBody f) 0 4 :=
  ⟨(5), (0x0A000007), (99), (⟨0, 0, false⟩), (svcFrame 10 0 0 7 (leBytes 4 (crc32c [0xFF, 0xFF, 0xFF, 0xFF, 0xFF, 0xFF, 0xFF, 0xFF]))), ({ who := { ip := 0x0A000007, port := 99 }, target := 0, length := 8, got := 8 }), (0x100000), (0xC00000), ((((st [(CFG_STATE_STATE, 8), (CFG_FLASH_DENSITY, 26)]).onBoot fun b => { b with net := some (List.replicate 16 0 ++ [10, 0, 0, 7]) })).sv fun x => { x with download := some { who := { ip := 0x0A000007, port := 99 }, target := 0, length := 8, got := 8 } }), by decide +kernel⟩

theorem wit_ServiceCommands_44 : ∃ (dt : Nat) (ip : BitVec 32) (port : BitVec 16) (udp : Udp) (f : List (BitVec 8)) (qvsel clksel test : Bool) (s : State), NewRequest s ip.toNat port.toNat udp 0xC f ∧ s.writer ip.toNat = true ∧ (frameBody f) ≠ [] :=
  ⟨(5), (0x0A000007), (99), (⟨0, 0, false⟩), (svcFrame 12 0 0 7 ([1])), (true), (false), (false), (((st [(CFG_STATE_STATE, 8)]).onBoot fun b => { b with net := some (List.replicate 16 0 ++ [10, 0, 0, 7]) })), by decide +kernel⟩

theorem wit_ServiceCommands_45 : ∃ (dt : Nat) (ip : BitVec 32) (port : BitVec 16) (udp : Udp) (f : List (BitVec 8)) (qvsel clksel test : Bool) (s : State), NewRequest s ip.toNat port.toNat udp 0xC f ∧ s.writer ip.toNat = true ∧ (frameBody f) = [] ∧ (¬ (s.get CFG_STATE_STATE = 0xE ∨ (∀ n : Fin 256, s.axState n = 0 ∨ s.axState n = 7))) :=
  ⟨(5), (0x0A000007), (99), (⟨0, 0, false⟩), (svcFrame 12 0 0 7 ([])), (true), (false), (false), (((st [(CFG_STATE_STATE, 8), (PRF_AXST_STATE 3, 2)]).onBoot fun b => { b with net := some (List.replicate 16 0 ++ [10, 0, 0, 7]) })), by decide +kernel⟩

theorem wit_ServiceCommands_46 : ∃ (dt : Nat) (ip : BitVec 32) (port : BitVec 16) (udp : Udp) (f : List (BitVec 8)) (qvsel clksel test : Bool) (s : State), NewRequest s ip.toNat port.toNat udp 0xC f ∧ s.writer ip.toNat = true ∧ (frameBody f) = [] ∧ ((s.get CFG_STATE_STATE = 0xE ∨ (∀ n : Fin 256, s.axState n = 0 ∨ s.axState n = 7))) :=
  ⟨(5), (0x0A000007), (99), (⟨0, 0, false⟩), (svcFrame 12 0 0 7 ([])), (true), (false), (false), ((((st [(CFG_STATE_STATE, 8), (whole ERR_BOOT, 7)]).onBoot fun b => { b with net := some (List.replicate 16 0 ++ [10, 0, 0, 7]) })).onBoot fun b => { b with held := false }), by decide +kernel⟩

theorem wit_ServiceCommands_47 : ∃ (dt : Nat) (ip : BitVec 32) (port : BitVec 16) (udp : Udp) (f : List (BitVec 8)) (mramOk : Bool) (s : State), NewRequest s ip.toNat port.toNat udp 0xB f ∧ leAt (frameBody f) 0 1 = 1 ∧ s.get CFG_STATE_STATE ≠ 0xE ∧ s.writer ip.toNat = true ∧ ¬ ((frameBody f).length = 8 + leAt (frameBody f) 1 1 ∧ 8 ≤ leAt (frameBody f) 1 1 ∧ leAt (frameBody f) 1 1 ≤ 64) :=
  ⟨(5), (0x0A000007), (99), (⟨0, 0, false⟩), (svcFrame 11 0 0 7 ([1, 7, 0, 0] ++ leBytes 4 (0x66) ++ [1, 2, 3, 4, 5, 6, 7])), (true), (((((st [(SAF_ST_ACCEPTED, 1), (SAF_ST_FAULT, 0), (CFG_STATE_STATE, 8), (whole SAF_SCRC, 0x66), (whole SAF_ACRC, 0x55)]).sf fun x => { x with payload := safPay 0x140 [(1, 1)], stored := (some (0x55, [9], sha256 [9, 1, 2, 3, 4, 5, 6, 7, 8])) })).onBoot fun b => { b with net := (some (List.replicate 16 0 ++ [10, 0, 0, 7])) })), by decide +kernel⟩

theorem wit_ServiceCommands_48 : ∃ (dt : Nat) (ip : BitVec 32) (port : BitVec 16) (udp : Udp) (f : List (BitVec 8)) (mramOk : Bool) (s : State), NewRequest s ip.toNat port.toNat udp 0xB f ∧ leAt (frameBody f) 0 1 = 1 ∧ s.get CFG_STATE_STATE ≠ 0xE ∧ s.writer ip.toNat = true ∧ ((frameBody f).length = 8 + leAt (frameBody f) 1 1 ∧ 8 ≤ leAt (frameBody f) 1 1 ∧ leAt (frameBody f) 1 1 ≤ 64) ∧ s.get SAF_ST_PWLOCK = 1 :=
  ⟨(5), (0x0A000007), (99), (⟨0, 0, false⟩), (svcFrame 11 0 0 7 ([1, 8, 0, 0] ++ leBytes 4 (0x66) ++ [1, 2, 3, 4, 5, 6, 7, 8])), (true), (((((st [(SAF_ST_ACCEPTED, 1), (SAF_ST_FAULT, 0), (CFG_STATE_STATE, 8), (whole SAF_SCRC, 0x66), (whole SAF_ACRC, 0x55), (SAF_ST_PWLOCK, 1)]).sf fun x => { x with payload := safPay 0x140 [(1, 1)], stored := (some (0x55, [9], sha256 [9, 1, 2, 3, 4, 5, 6, 7, 8])) })).onBoot fun b => { b with net := (some (List.replicate 16 0 ++ [10, 0, 0, 7])) })), by decide +kernel⟩

theorem wit_ServiceCommands_49 : ∃ (dt : Nat) (ip : BitVec 32) (port : BitVec 16) (udp : Udp) (f : List (BitVec 8)) (mramOk : Bool) (s : State), NewRequest s ip.toNat port.toNat udp 0xB f ∧ leAt (frameBody f) 0 1 = 1 ∧ s.get CFG_STATE_STATE ≠ 0xE ∧ s.writer ip.toNat = true ∧ ((frameBody f).length = 8 + leAt (frameBody f) 1 1 ∧ 8 ≤ leAt (frameBody f) 1 1 ∧ leAt (frameBody f) 1 1 ≤ 64) ∧ s.get SAF_ST_PWLOCK = 0 ∧ sha256 (s.secret.1 ++ (frameBody f).drop 8) ≠ s.secret.2 :=
  ⟨(5), (0x0A000007), (99), (⟨0, 0, false⟩), (svcFrame 11 0 0 7 ([1, 8, 0, 0] ++ leBytes 4 (0x66) ++ [1, 2, 3, 4, 5, 6, 7, 8])), (true), (((((st [(SAF_ST_ACCEPTED, 1), (SAF_ST_FAULT, 0), (CFG_STATE_STATE, 8), (whole SAF_SCRC, 0x66), (whole SAF_ACRC, 0x55), (SAF_PW_FAIL, 4)]).sf fun x => { x with payload := safPay 0x140 [(1, 1)], stored := (some (0x55, [9], [1])) })).onBoot fun b => { b with net := (some (List.replicate 16 0 ++ [10, 0, 0, 7])) })), by decide +kernel⟩

theorem wit_ServiceCommands_50 : ∃ (dt : Nat) (ip : BitVec 32) (port : BitVec 16) (udp : Udp) (f : List (BitVec 8)) (mramOk : Bool) (s : State), NewRequest s ip.toNat port.toNat udp 0xB f ∧ leAt (frameBody f) 0 1 = 1 ∧ s.get CFG_STATE_STATE ≠ 0xE ∧ s.writer ip.toNat = true ∧ ((frameBody f).length = 8 + leAt (frameBody f) 1 1 ∧ 8 ≤ leAt (frameBody f) 1 1 ∧ leAt (frameBody f) 1 1 ≤ 64) ∧ s.get SAF_ST_PWLOCK = 0 ∧ sha256 (s.secret.1 ++ (frameBody f).drop 8) = s.secret.2 ∧ s.saf.log.length = 4096 :=
  ⟨(5), (0x0A000007), (99), (⟨0, 0, false⟩), (svcFrame 11 0 0 7 ([1, 8, 0, 0] ++ leBytes 4 (0x66) ++ [1, 2, 3, 4, 5, 6, 7, 8])), (true), (((((st [(SAF_ST_ACCEPTED, 1), (SAF_ST_FAULT, 0), (CFG_STATE_STATE, 8), (whole SAF_SCRC, 0x66), (whole SAF_ACRC, 0x55)]).sf fun x => { x with payload := safPay 0x140 [(1, 1)], stored := (some (0x55, [9], sha256 [9, 1, 2, 3, 4, 5, 6, 7, 8])), log := List.replicate 4096 [] })).onBoot fun b => { b with net := (some (List.replicate 16 0 ++ [10, 0, 0, 7])) })), by decide +kernel⟩

theorem wit_ServiceCommands_51 : ∃ (dt : Nat) (ip : BitVec 32) (port : BitVec 16) (udp : Udp) (f : List (BitVec 8)) (mramOk : Bool) (s : State), NewRequest s ip.toNat port.toNat udp 0xB f ∧ leAt (frameBody f) 0 1 = 1 ∧ s.get CFG_STATE_STATE ≠ 0xE ∧ s.writer ip.toNat = true ∧ ((frameBody f).length = 8 + leAt (frameBody f) 1 1 ∧ 8 ≤ leAt (frameBody f) 1 1 ∧ leAt (frameBody f) 1 1 ≤ 64) ∧ s.get SAF_ST_PWLOCK = 0 ∧ sha256 (s.secret.1 ++ (frameBody f).drop 8) = s.secret.2 ∧ s.saf.log.length ≠ 4096 ∧ leAt (frameBody f) 4 4 ≠ s.rd SAF_SCRC :=
  ⟨(5), (0x0A000007), (99), (⟨0, 0, false⟩), (svcFrame 11 0 0 7 ([1, 8, 0, 0] ++ leBytes 4 (0x67) ++ [1, 2, 3, 4, 5, 6, 7, 8])), (true), (((((st [(SAF_ST_ACCEPTED, 1), (SAF_ST_FAULT, 0), (CFG_STATE_STATE, 8), (whole SAF_SCRC, 0x66), (whole SAF_ACRC, 0x55)]).sf fun x => { x with payload := safPay 0x140 [(1, 1)], stored := (some (0x55, [9], sha256 [9, 1, 2, 3, 4, 5, 6, 7, 8])) })).onBoot fun b => { b with net := (some (List.replicate 16 0 ++ [10, 0, 0, 7])) })), by decide +kernel⟩

theorem wit_ServiceCommands_52 : ∃ (dt : Nat) (ip : BitVec 32) (port : BitVec 16) (udp : Udp) (f : List (BitVec 8)) (mramOk : Bool) (s : State), NewRequest s ip.toNat port.toNat udp 0xB f ∧ leAt (frameBody f) 0 1 = 1 ∧ s.get CFG_STATE_STATE ≠ 0xE ∧ s.writer ip.toNat = true ∧ ((frameBody f).length = 8 + leAt (frameBody f) 1 1 ∧ 8 ≤ leAt (frameBody f) 1 1 ∧ leAt (frameBody f) 1 1 ≤ 64) ∧ s.get SAF_ST_PWLOCK = 0 ∧ sha256 (s.secret.1 ++ (frameBody f).drop 8) = s.secret.2 ∧ s.saf.log.length ≠ 4096 ∧ leAt (frameBody f) 4 4 = s.rd SAF_SCRC ∧ mramOk = true :=
  ⟨(5), (0x0A000007), (99), (⟨0, 0, false⟩), (svcFrame 11 0 0 7 ([1, 8, 0, 0] ++ leBytes 4 (0x66) ++ [1, 2, 3, 4, 5, 6, 7, 8])), (true), (((((st [(SAF_ST_ACCEPTED, 1), (SAF_ST_FAULT, 0), (CFG_STATE_STATE, 8), (whole SAF_SCRC, 0x66), (whole SAF_ACRC, 0x55)]).sf fun x => { x with payload := safPay 0x140 [(1, 1)], stored := (some (0x55, [9], sha256 [9, 1, 2, 3, 4, 5, 6, 7, 8])) })).onBoot fun b => { b with net := (some (List.replicate 16 0 ++ [10, 0, 0, 7])) })), by decide +kernel⟩

theorem wit_ServiceCommands_53 : ∃ (dt : Nat) (ip : BitVec 32) (port : BitVec 16) (udp : Udp) (f : List (BitVec 8)) (mramOk : Bool) (s : State), NewRequest s ip.toNat port.toNat udp 0xB f ∧ leAt (frameBody f) 0 1 = 1 ∧ s.get CFG_STATE_STATE ≠ 0xE ∧ s.writer ip.toNat = true ∧ ((frameBody f).length = 8 + leAt (frameBody f) 1 1 ∧ 8 ≤ leAt (frameBody f) 1 1 ∧ leAt (frameBody f) 1 1 ≤ 64) ∧ s.get SAF_ST_PWLOCK = 0 ∧ sha256 (s.secret.1 ++ (frameBody f).drop 8) = s.secret.2 ∧ s.saf.log.length ≠ 4096 ∧ leAt (frameBody f) 4 4 = s.rd SAF_SCRC ∧ mramOk = false ∧ s.get SAF_ST_FAULT = 0 :=
  ⟨(5), (0x0A000007), (99), (⟨0, 0, false⟩), (svcFrame 11 0 0 7 ([1, 8, 0, 0] ++ leBytes 4 (0x66) ++ [1, 2, 3, 4, 5, 6, 7, 8])), (false), (((((st [(SAF_ST_ACCEPTED, 1), (SAF_ST_FAULT, 0), (CFG_STATE_STATE, 8), (whole SAF_SCRC, 0x66), (whole SAF_ACRC, 0x55)]).sf fun x => { x with payload := safPay 0x140 [(1, 1)], stored := (some (0x55, [9], sha256 [9, 1, 2, 3, 4, 5, 6, 7, 8])) })).onBoot fun b => { b with net := (some (List.replicate 16 0 ++ [10, 0, 0, 7])) })), by decide +kernel⟩

theorem wit_ServiceCommands_54 : ∃ (dt : Nat) (ip : BitVec 32) (port : BitVec 16) (udp : Udp) (f : List (BitVec 8)) (mramOk : Bool) (s : State), NewRequest s ip.toNat port.toNat udp 0xB f ∧ leAt (frameBody f) 0 1 = 2 ∧ s.get CFG_STATE_STATE ≠ 0xE ∧ s.writer ip.toNat = true ∧ ¬ ((frameBody f).length = 8 + leAt (frameBody f) 1 1 ∧ 8 ≤ leAt (frameBody f) 1 1 ∧ leAt (frameBody f) 1 1 ≤ 64) :=
  ⟨(5), (0x0A000007), (99), (⟨0, 0, false⟩), (svcFrame 11 0 0 7 ([2, 7, 0, 0] ++ leBytes 4 (0) ++ [1, 2, 3, 4, 5, 6, 7])), (true), (((((st [(SAF_ST_ACCEPTED, 1), (SAF_ST_FAULT, 0), (CFG_STATE_STATE, 8), (whole SAF_SCRC, 0x66), (whole SAF_ACRC, 0x55)]).sf fun x => { x with payload := safPay 0x140 [(1, 1)], stored := (some (0x55, [9], sha256 [9, 1, 2, 3, 4, 5, 6, 7, 8])) })).onBoot fun b => { b with net := (some (List.replicate 16 0 ++ [10, 0, 0, 7])) })), by decide +kernel⟩

theorem wit_ServiceCommands_55 : ∃ (dt : Nat) (ip : BitVec 32) (port : BitVec 16) (udp : Udp) (f : List (BitVec 8)) (mramOk : Bool) (s : State), NewRequest s ip.toNat port.toNat udp 0xB f ∧ leAt (frameBody f) 0 1 = 2 ∧ s.get CFG_STATE_STATE ≠ 0xE ∧ s.writer ip.toNat = true ∧ ((frameBody f).length = 8 + leAt (frameBody f) 1 1 ∧ 8 ≤ leAt (frameBody f) 1 1 ∧ leAt (frameBody f) 1 1 ≤ 64) ∧ s.get SAF_ST_PWLOCK = 1 :=
  ⟨(5), (0x0A000007), (99), (⟨0, 0, false⟩), (svcFrame 11 0 0 7 ([2, 8, 0, 0] ++ leBytes 4 (0) ++ [1, 2, 3, 4, 5, 6, 7, 8])), (true), (((((st [(SAF_ST_ACCEPTED, 1), (SAF_ST_FAULT, 0), (CFG_STATE_STATE, 8), (whole SAF_SCRC, 0x66), (whole SAF_ACRC, 0x55), (SAF_ST_PWLOCK, 1)]).sf fun x => { x with payload := safPay 0x140 [(1, 1)], stored := (some (0x55, [9], sha256 [9, 1, 2, 3, 4, 5, 6, 7, 8])) })).onBoot fun b => { b with net := (some (List.replicate 16 0 ++ [10, 0, 0, 7])) })), by decide +kernel⟩

theorem wit_ServiceCommands_56 : ∃ (dt : Nat) (ip : BitVec 32) (port : BitVec 16) (udp : Udp) (f : List (BitVec 8)) (mramOk : Bool) (s : State), NewRequest s ip.toNat port.toNat udp 0xB f ∧ leAt (frameBody f) 0 1 = 2 ∧ s.get CFG_STATE_STATE ≠ 0xE ∧ s.writer ip.toNat = true ∧ ((frameBody f).length = 8 + leAt (frameBody f) 1 1 ∧ 8 ≤ leAt (frameBody f) 1 1 ∧ leAt (frameBody f) 1 1 ≤ 64) ∧ s.get SAF_ST_PWLOCK = 0 ∧ sha256 (s.secret.1 ++ (frameBody f).drop 8) ≠ s.secret.2 :=
  ⟨(5), (0x0A000007), (99), (⟨0, 0, false⟩), (svcFrame 11 0 0 7 ([2, 8, 0, 0] ++ leBytes 4 (0) ++ [1, 2, 3, 4, 5, 6, 7, 8])), (true), (((((st [(SAF_ST_ACCEPTED, 1), (SAF_ST_FAULT, 0), (CFG_STATE_STATE, 8), (whole SAF_SCRC, 0x66), (whole SAF_ACRC, 0x55), (SAF_PW_FAIL, 4)]).sf fun x => { x with payload := safPay 0x140 [(1, 1)], stored := (some (0x55, [9], [1])) })).onBoot fun b => { b with net := (some (List.replicate 16 0 ++ [10, 0, 0, 7])) })), by decide +kernel⟩

theorem wit_ServiceCommands_57 : ∃ (dt : Nat) (ip : BitVec 32) (port : BitVec 16) (udp : Udp) (f : List (BitVec 8)) (mramOk : Bool) (s : State), NewRequest s ip.toNat port.toNat udp 0xB f ∧ leAt (frameBody f) 0 1 = 2 ∧ s.get CFG_STATE_STATE ≠ 0xE ∧ s.writer ip.toNat = true ∧ ((frameBody f).length = 8 + leAt (frameBody f) 1 1 ∧ 8 ≤ leAt (frameBody f) 1 1 ∧ leAt (frameBody f) 1 1 ≤ 64) ∧ s.get SAF_ST_PWLOCK = 0 ∧ sha256 (s.secret.1 ++ (frameBody f).drop 8) = s.secret.2 ∧ s.saf.log.length = 4096 :=
  ⟨(5), (0x0A000007), (99), (⟨0, 0, false⟩), (svcFrame 11 0 0 7 ([2, 8, 0, 0] ++ leBytes 4 (0) ++ [1, 2, 3, 4, 5, 6, 7, 8])), (true), (((((st [(SAF_ST_ACCEPTED, 1), (SAF_ST_FAULT, 0), (CFG_STATE_STATE, 8), (whole SAF_SCRC, 0x66), (whole SAF_ACRC, 0x55)]).sf fun x => { x with payload := safPay 0x140 [(1, 1)], stored := (some (0x55, [9], sha256 [9, 1, 2, 3, 4, 5, 6, 7, 8])), log := List.replicate 4096 [] })).onBoot fun b => { b with net := (some (List.replicate 16 0 ++ [10, 0, 0, 7])) })), by decide +kernel⟩

theorem wit_ServiceCommands_58 : ∃ (dt : Nat) (ip : BitVec 32) (port : BitVec 16) (udp : Udp) (f : List (BitVec 8)) (mramOk : Bool) (s : State), NewRequest s ip.toNat port.toNat udp 0xB f ∧ leAt (frameBody f) 0 1 = 2 ∧ s.get CFG_STATE_STATE ≠ 0xE ∧ s.writer ip.toNat = true ∧ ((frameBody f).length = 8 + leAt (frameBody f) 1 1 ∧ 8 ≤ leAt (frameBody f) 1 1 ∧ leAt (frameBody f) 1 1 ≤ 64) ∧ s.get SAF_ST_PWLOCK = 0 ∧ sha256 (s.secret.1 ++ (frameBody f).drop 8) = s.secret.2 ∧ s.saf.log.length ≠ 4096 ∧ mramOk = true :=
  ⟨(5), (0x0A000007), (99), (⟨0, 0, false⟩), (svcFrame 11 0 0 7 ([2, 8, 0, 0] ++ leBytes 4 (0) ++ [1, 2, 3, 4, 5, 6, 7, 8])), (true), (((((st [(SAF_ST_ACCEPTED, 1), (SAF_ST_FAULT, 0), (CFG_STATE_STATE, 8), (whole SAF_SCRC, 0x66), (whole SAF_ACRC, 0x55), (SAF_GRP_GENAC 3, 1)]).sf fun x => { x with payload := safPay 0x140 [(1, 1)], stored := (some (0x55, [9], sha256 [9, 1, 2, 3, 4, 5, 6, 7, 8])) })).onBoot fun b => { b with net := (some (List.replicate 16 0 ++ [10, 0, 0, 7])) })), by decide +kernel⟩

theorem wit_ServiceCommands_59 : ∃ (dt : Nat) (ip : BitVec 32) (port : BitVec 16) (udp : Udp) (f : List (BitVec 8)) (mramOk : Bool) (s : State), NewRequest s ip.toNat port.toNat udp 0xB f ∧ leAt (frameBody f) 0 1 = 2 ∧ s.get CFG_STATE_STATE ≠ 0xE ∧ s.writer ip.toNat = true ∧ ((frameBody f).length = 8 + leAt (frameBody f) 1 1 ∧ 8 ≤ leAt (frameBody f) 1 1 ∧ leAt (frameBody f) 1 1 ≤ 64) ∧ s.get SAF_ST_PWLOCK = 0 ∧ sha256 (s.secret.1 ++ (frameBody f).drop 8) = s.secret.2 ∧ s.saf.log.length ≠ 4096 ∧ mramOk = false ∧ s.get SAF_ST_FAULT = 0 :=
  ⟨(5), (0x0A000007), (99), (⟨0, 0, false⟩), (svcFrame 11 0 0 7 ([2, 8, 0, 0] ++ leBytes 4 (0) ++ [1, 2, 3, 4, 5, 6, 7, 8])), (false), (((((st [(SAF_ST_ACCEPTED, 1), (SAF_ST_FAULT, 0), (CFG_STATE_STATE, 8), (whole SAF_SCRC, 0x66), (whole SAF_ACRC, 0x55), (SAF_GRP_GENAC 3, 1)]).sf fun x => { x with payload := safPay 0x140 [(1, 1)], stored := (some (0x55, [9], sha256 [9, 1, 2, 3, 4, 5, 6, 7, 8])) })).onBoot fun b => { b with net := (some (List.replicate 16 0 ++ [10, 0, 0, 7])) })), by decide +kernel⟩

theorem wit_ServiceCommands_60 : ∃ (dt : Nat) (ip : BitVec 32) (port : BitVec 16) (udp : Udp) (f : List (BitVec 8)) (mramOk : Bool) (s : State), NewRequest s ip.toNat port.toNat udp 0xB f ∧ leAt (frameBody f) 0 1 = 3 ∧ s.get CFG_STATE_STATE ≠ 0xE ∧ s.writer ip.toNat = true ∧ ¬ ((frameBody f).length = 8 + leAt (frameBody f) 1 1 ∧ 8 ≤ leAt (frameBody f) 1 1 ∧ leAt (frameBody f) 1 1 ≤ 64) :=
  ⟨(5), (0x0A000007), (99), (⟨0, 0, false⟩), (svcFrame 11 0 0 7 ([3, 7, 0, 0] ++ leBytes 4 (1) ++ [1, 2, 3, 4, 5, 6, 7])), (true), (((((st [(SAF_ST_ACCEPTED, 1), (SAF_ST_FAULT, 0), (CFG_STATE_STATE, 8), (whole SAF_SCRC, 0x66), (whole SAF_ACRC, 0x55)]).sf fun x => { x with payload := safPay 0x140 [(1, 1)], stored := (some (0x55, [9], sha256 [9, 1, 2, 3, 4, 5, 6, 7, 8])) })).onBoot fun b => { b with net := (some (List.replicate 16 0 ++ [10, 0, 0, 7])) })), by decide +kernel⟩

theorem wit_ServiceCommands_61 : ∃ (dt : Nat) (ip : BitVec 32) (port : BitVec 16) (udp : Udp) (f : List (BitVec 8)) (mramOk : Bool) (s : State), NewRequest s ip.toNat port.toNat udp 0xB f ∧ leAt (frameBody f) 0 1 = 3 ∧ s.get CFG_STATE_STATE ≠ 0xE ∧ s.writer ip.toNat = true ∧ ((frameBody f).length = 8 + leAt (frameBody f) 1 1 ∧ 8 ≤ leAt (frameBody f) 1 1 ∧ leAt (frameBody f) 1 1 ≤ 64) ∧ s.get SAF_ST_PWLOCK = 1 :=
  ⟨(5), (0x0A000007), (99), (⟨0, 0, false⟩), (svcFrame 11 0 0 7 ([3, 8, 0, 0] ++ leBytes 4 (1) ++ [1, 2, 3, 4, 5, 6, 7, 8])), (true), (((((st [(SAF_ST_ACCEPTED, 1), (SAF_ST_FAULT, 0), (CFG_STATE_STATE, 8), (whole SAF_SCRC, 0x66), (whole SAF_ACRC, 0x55), (SAF_ST_PWLOCK, 1)]).sf fun x => { x with payload := safPay 0x140 [(1, 1)], stored := (some (0x55, [9], sha256 [9, 1, 2, 3, 4, 5, 6, 7, 8])) })).onBoot fun b => { b with net := (some (List.replicate 16 0 ++ [10, 0, 0, 7])) })), by decide +kernel⟩

theorem wit_ServiceCommands_62 : ∃ (dt : Nat) (ip : BitVec 32) (port : BitVec 16) (udp : Udp) (f : List (BitVec 8)) (mramOk : Bool) (s : State), NewRequest s ip.toNat port.toNat udp 0xB f ∧ leAt (frameBody f) 0 1 = 3 ∧ s.get CFG_STATE_STATE ≠ 0xE ∧ s.writer ip.toNat = true ∧ ((frameBody f).length = 8 + leAt (frameBody f) 1 1 ∧ 8 ≤ leAt (frameBody f) 1 1 ∧ leAt (frameBody f) 1 1 ≤ 64) ∧ s.get SAF_ST_PWLOCK = 0 ∧ sha256 (s.secret.1 ++ (frameBody f).drop 8) ≠ s.secret.2 :=
  ⟨(5), (0x0A000007), (99), (⟨0, 0, false⟩), (svcFrame 11 0 0 7 ([3, 8, 0, 0] ++ leBytes 4 (1) ++ [1, 2, 3, 4, 5, 6, 7, 8])), (true), (((((st [(SAF_ST_ACCEPTED, 1), (SAF_ST_FAULT, 0), (CFG_STATE_STATE, 8), (whole SAF_SCRC, 0x66), (whole SAF_ACRC, 0x55), (SAF_PW_FAIL, 4)]).sf fun x => { x with payload := safPay 0x140 [(1, 1)], stored := (some (0x55, [9], [1])) })).onBoot fun b => { b with net := (some (List.replicate 16 0 ++ [10, 0, 0, 7])) })), by decide +kernel⟩

theorem wit_ServiceCommands_63 : ∃ (dt : Nat) (ip : BitVec 32) (port : BitVec 16) (udp : Udp) (f : List (BitVec 8)) (mramOk : Bool) (s : State), NewRequest s ip.toNat port.toNat udp 0xB f ∧ leAt (frameBody f) 0 1 = 3 ∧ s.get CFG_STATE_STATE ≠ 0xE ∧ s.writer ip.toNat = true ∧ ((frameBody f).length = 8 + leAt (frameBody f) 1 1 ∧ 8 ≤ leAt (frameBody f) 1 1 ∧ leAt (frameBody f) 1 1 ≤ 64) ∧ s.get SAF_ST_PWLOCK = 0 ∧ sha256 (s.secret.1 ++ (frameBody f).drop 8) = s.secret.2 ∧ ((s.saf.log.getLast?).map (fun e => leAt e 0 4) ≠ some (leAt (frameBody f) 4 4)) :=
  ⟨(5), (0x0A000007), (99), (⟨0, 0, false⟩), (svcFrame 11 0 0 7 ([3, 8, 0, 0] ++ leBytes 4 (0) ++ [1, 2, 3, 4, 5, 6, 7, 8])), (true), (((((st [(SAF_ST_ACCEPTED, 1), (SAF_ST_FAULT, 0), (CFG_STATE_STATE, 8), (whole SAF_SCRC, 0x66), (whole SAF_ACRC, 0x55)]).sf fun x => { x with payload := safPay 0x140 [(1, 1)], stored := (some (0x55, [9], sha256 [9, 1, 2, 3, 4, 5, 6, 7, 8])), log := [List.replicate 32 0, leBytes 4 1 ++ List.replicate 28 0] })).onBoot fun b => { b with net := (some (List.replicate 16 0 ++ [10, 0, 0, 7])) })), by decide +kernel⟩

theorem wit_ServiceCommands_64 : ∃ (dt : Nat) (ip : BitVec 32) (port : BitVec 16) (udp : Udp) (f : List (BitVec 8)) (mramOk : Bool) (s : State), NewRequest s ip.toNat port.toNat udp 0xB f ∧ leAt (frameBody f) 0 1 = 3 ∧ s.get CFG_STATE_STATE ≠ 0xE ∧ s.writer ip.toNat = true ∧ ((frameBody f).length = 8 + leAt (frameBody f) 1 1 ∧ 8 ≤ leAt (frameBody f) 1 1 ∧ leAt (frameBody f) 1 1 ≤ 64) ∧ s.get SAF_ST_PWLOCK = 0 ∧ sha256 (s.secret.1 ++ (frameBody f).drop 8) = s.secret.2 ∧ ((s.saf.log.getLast?).map (fun e => leAt e 0 4) = some (leAt (frameBody f) 4 4)) ∧ mramOk = true :=
  ⟨(5), (0x0A000007), (99), (⟨0, 0, false⟩), (svcFrame 11 0 0 7 ([3, 8, 0, 0] ++ leBytes 4 (1) ++ [1, 2, 3, 4, 5, 6, 7, 8])), (true), (((((st [(SAF_ST_ACCEPTED, 1), (SAF_ST_FAULT, 0), (CFG_STATE_STATE, 8), (whole SAF_SCRC, 0x66), (whole SAF_ACRC, 0x55)]).sf fun x => { x with payload := safPay 0x140 [(1, 1)], stored := (some (0x55, [9], sha256 [9, 1, 2, 3, 4, 5, 6, 7, 8])), log := [List.replicate 32 0, leBytes 4 1 ++ List.replicate 28 0] })).onBoot fun b => { b with net := (some (List.replicate 16 0 ++ [10, 0, 0, 7])) })), by decide +kernel⟩

theorem wit_ServiceCommands_65 : ∃ (dt : Nat) (ip : BitVec 32) (port : BitVec 16) (udp : Udp) (f : List (BitVec 8)) (mramOk : Bool) (s : State), NewRequest s ip.toNat port.toNat udp 0xB f ∧ leAt (frameBody f) 0 1 = 3 ∧ s.get CFG_STATE_STATE ≠ 0xE ∧ s.writer ip.toNat = true ∧ ((frameBody f).length = 8 + leAt (frameBody f) 1 1 ∧ 8 ≤ leAt (frameBody f) 1 1 ∧ leAt (frameBody f) 1 1 ≤ 64) ∧ s.get SAF_ST_PWLOCK = 0 ∧ sha256 (s.secret.1 ++ (frameBody f).drop 8) = s.secret.2 ∧ ((s.saf.log.getLast?).map (fun e => leAt e 0 4) = some (leAt (frameBody f) 4 4)) ∧ mramOk = false ∧ s.get SAF_ST_FAULT = 0 :=
  ⟨(5), (0x0A000007), (99), (⟨0, 0, false⟩), (svcFrame 11 0 0 7 ([3, 8, 0, 0] ++ leBytes 4 (1) ++ [1, 2, 3, 4, 5, 6, 7, 8])), (false), (((((st [(SAF_ST_ACCEPTED, 1), (SAF_ST_FAULT, 0), (CFG_STATE_STATE, 8), (whole SAF_SCRC, 0x66), (whole SAF_ACRC, 0x55)]).sf fun x => { x with payload := safPay 0x140 [(1, 1)], stored := (some (0x55, [9], sha256 [9, 1, 2, 3, 4, 5, 6, 7, 8])), log := [List.replicate 32 0, leBytes 4 1 ++ List.replicate 28 0] })).onBoot fun b => { b with net := (some (List.replicate 16 0 ++ [10, 0, 0, 7])) })), by decide +kernel⟩

theorem wit_LogAndScan_1 : ∃ (dt : Nat) (s : State), (∀ i : Fin 31, tabGet [] s.log.bufs i = [] ∨ (s.log.lastTake.all fun t => decide (t + 40 ≤ (s.elapse dt).clk.elapsed)) = false) :=
  ⟨(39), (State.reset.onLog fun l => { l with lastTake := some 0, bufs := [(3, [⟨0, 1, 2, 3, 2, false, false, 0, 0x304, 0, 9, 8, 7, 0⟩])] }), by decide +kernel⟩

theorem wit_LogAndScan_2 : ∃ (dt : Nat) (i : Fin 31) (r : LogRec) (l : List LogRec) (s : State), ((s.log.lastTake.all fun t => decide (t + 40 ≤ (s.elapse dt).clk.elapsed)) = true) ∧ (tabGet [] s.log.bufs i) = r :: l ∧ ((∀ j : Fin 31, (j.val + 30 - s.log.lastSrc % 31) % 31 < (i.val + 30 - s.log.lastSrc % 31) % 31 → tabGet [] s.log.bufs j = [])) ∧ r.sev ≠ 4 :=
  ⟨(40), (3), (⟨0, 1, 2, 3, 3, false, false, 0, 0x404, 0, 9, 8, 7, 0⟩), ([⟨0, 1, 2, 3, 2, false, false, 0, 0x304, 0, 9, 8, 7, 0⟩]), (State.reset.onLog fun l => { l with lastSrc := 20, ring := [⟨4, 1, 2, 3, 2, false, false, 0, 0x304, 0, 9, 8, 7, 0⟩], lastTake := some 0, bufs := [(3, [⟨0, 1, 2, 3, 3, false, false, 0, 0x404, 0, 9, 8, 7, 0⟩, ⟨0, 1, 2, 3, 2, false, false, 0, 0x304, 0, 9, 8, 7, 0⟩]), (19, [⟨0, 1, 2, 3, 2, false, false, 0, 0x304, 0, 9, 8, 7, 0⟩])] }), by decide +kernel⟩

theorem wit_LogAndScan_3 : ∃ (dt : Nat) (i : Fin 31) (r : LogRec) (l : List LogRec) (s : State), ((s.log.lastTake.all fun t => decide (t + 40 ≤ (s.elapse dt).clk.elapsed)) = true) ∧ (tabGet [] s.log.bufs i) = r :: l ∧ ((∀ j : Fin 31, (j.val + 30 - s.log.lastSrc % 31) % 31 < (i.val + 30 - s.log.lastSrc % 31) % 31 → tabGet [] s.log.bufs j = [])) ∧ r.sev = 4 :=
  ⟨(40), (3), (⟨0, 1, 2, 3, 4, false, false, 0, 0x404, 0, 9, 8, 7, 0⟩), ([⟨0, 1, 2, 3, 2, false, false, 0, 0x304, 0, 9, 8, 7, 0⟩]), (State.reset.onLog fun l => { l with lastSrc := 20, ring := [⟨4, 1, 2, 3, 2, false, false, 0, 0x304, 0, 9, 8, 7, 0⟩], lastTake := some 0, bufs := [(3, [⟨0, 1, 2, 3, 4, false, false, 0, 0x404, 0, 9, 8, 7, 0⟩, ⟨0, 1, 2, 3, 2, false, false, 0, 0x304, 0, 9, 8, 7, 0⟩]), (19, [⟨0, 1, 2, 3, 2, false, false, 0, 0x304, 0, 9, 8, 7, 0⟩])] }), by decide +kernel⟩

theorem wit_LogAndScan_4 : ∃ (dt : Nat) (s : State), s.log.toPersist = [] :=
  ⟨(5), (State.reset), by decide +kernel⟩

theorem wit_LogAndScan_5 : ∃ (dt : Nat) (r : LogRec) (l : List LogRec) (s : State), s.log.toPersist = r :: l :=
  ⟨(5), (⟨0, 1, 2, 3, 4, false, false, 0, 0x404, 0, 9, 8, 7, 0⟩), ([]), ((st [(whole ERR_BOOT, 0x10007)]).onLog fun l => { l with nextSlot := 63, toPersist := [⟨0, 1, 2, 3, 4, false, false, 0, 0x404, 0, 9, 8, 7, 0⟩], ring := [⟨0, 1, 2, 3, 4, false, false, 0, 0x404, 0, 9, 8, 7, 0⟩] }), by decide +kernel⟩

theorem wit_LogAndScan_9 : ∃ (dt : Nat) (shift : List Bool) (s : State), s.get CFG_STATE_STATE = 0xE :=
  ⟨(5), ([true, false]), (st [(CFG_STATE_STATE, 0xE)]), by decide +kernel⟩

theorem wit_LogAndScan_10 : ∃ (dt : Nat) (shift : List Bool) (s : State), s.get CFG_STATE_STATE ≠ 0xE :=
  ⟨(5), ([true, false]), (State.reset), by decide +kernel⟩

end Sys2Proof.Tests
end

section
/-! PROOFS. The statements of the scope: what every command completes with and leaves alone, that every step keeps the state
safe (R12, R16, R489, R491), what reset leaves (R6), and the accesses that do not reach the device address space (R494). -/

namespace Sys2Proof.Machine

/-- No command faults or is refused: each answers a next state. -/
theorem exec_next (i : Instr) (s : State) : ∃ t, exec i s = .next t := by
  cases i <;> exact ⟨_, rfl⟩

/-- Each command keeps all but its own parts of the state, as the lemma of its meaning says. -/
theorem exec_keeps {i : Instr} {s t : State} (h : exec i s = .next t) : Keeps (commandTouches i) s t := by
  cases i with
  | registerWrite => exact execRegisterWrite_keeps h
  | lowWordRead => exact execLowWordRead_keeps h
  | highWordWrite => exact execHighWordWrite_keeps h
  | nownsRead => exact execNownsRead_keeps h
  | supplyFault => exact execSupplyFault_keeps h
  | supervisorRelease => exact execSupervisorRelease_keeps h
  | resetNAssert => exact execResetNAssert_keeps h
  | resetNRelease => exact execResetNRelease_keeps h
  | clocks => exact execClocks_keeps h
  | flashReset => exact execFlashReset_keeps h
  | select => exact execSelect_keeps h
  | load => exact execLoad_keeps h
  | verify => exact execVerify_keeps h
  | apply => exact execApply_keeps h
  | recipe => exact execRecipe_keeps h
  | bypassOpen => exact execBypassOpen_keeps h
  | changeoverRequest => exact execChangeoverRequest_keeps h
  | changeoverStaged => exact execChangeoverStaged_keeps h
  | stagedSetAck => exact execStagedSetAck_keeps h
  | changeoverAckTimeout => exact execChangeoverAckTimeout_keeps h
  | changeoverCommit => exact execChangeoverCommit_keeps h
  | handshakeTransfer => exact execHandshakeTransfer_keeps h
  | conservationAudit => exact execConservationAudit_keeps h
  | uncorrectedEccError => exact execUncorrectedEccError_keeps h
  | supplyOutOfRange => exact execSupplyOutOfRange_keeps h
  | caseTempOutOfRange => exact execCaseTempOutOfRange_keeps h
  | referenceClockFault => exact execReferenceClockFault_keeps h
  | powerStateEntry => exact execPowerStateEntry_keeps h
  | lateWake => exact execLateWake_keeps h
  | wakeComplete => exact execWakeComplete_keeps h
  | profileBoundary => exact execProfileBoundary_keeps h
  | positionPeriodBoundary => exact execPositionPeriodBoundary_keeps h
  | velocityPeriodBoundary => exact execVelocityPeriodBoundary_keeps h
  | currentPeriodBoundary => exact execCurrentPeriodBoundary_keeps h
  | leashEffectiveWrite => exact execLeashEffectiveWrite_keeps h
  | loweringTakesEffect => exact execLoweringTakesEffect_keeps h
  | leashEscalation => exact execLeashEscalation_keeps h
  | overspeedFault => exact execOverspeedFault_keeps h
  | followingErrorFault => exact execFollowingErrorFault_keeps h
  | tableCommitRequest => exact execTableCommitRequest_keeps h
  | tableCommitEffect => exact execTableCommitEffect_keeps h
  | axisEnable => exact execAxisEnable_keeps h
  | axisDisable => exact execAxisDisable_keeps h
  | faultReset => exact execFaultReset_keeps h
  | brkrelElapsed => exact execBrkrelElapsed_keeps h
  | brksetElapsed => exact execBrksetElapsed_keeps h
  | standstillReached => exact execStandstillReached_keeps h
  | faultStopTimeout => exact execFaultStopTimeout_keeps h
  | moveAbs => exact execMoveAbs_keeps h
  | moveRel => exact execMoveRel_keeps h
  | moveVel => exact execMoveVel_keeps h
  | stop => exact execStop_keeps h
  | setPos => exact execSetPos_keeps h
  | refProbe => exact execRefProbe_keeps h
  | gear => exact execGear_keeps h
  | cam => exact execCam_keeps h
  | decouple => exact execDecouple_keeps h
  | superimpose => exact execSuperimpose_keeps h
  | vmVel => exact execVmVel_keeps h
  | vmSet => exact execVmSet_keeps h
  | groupAbort => exact execGroupAbort_keeps h
  | line => exact execLine_keeps h
  | arc => exact execArc_keeps h
  | helix => exact execHelix_keeps h
  | spline => exact execSpline_keeps h
  | dwell => exact execDwell_keeps h
  | segDone => exact execSegDone_keeps h
  | starved => exact execStarved_keeps h
  | pathHold => exact execPathHold_keeps h
  | groupConfigWrite => exact execGroupConfigWrite_keeps h
  | overrideWrite => exact execOverrideWrite_keeps h
  | done => exact execDone_keeps h
  | overshoot => exact execOvershoot_keeps h
  | locked => exact execLocked_keeps h
  | mposCrossing => exact execMposCrossing_keeps h
  | camEnd => exact execCamEnd_keeps h
  | camSwitchEdge => exact execCamSwitchEdge_keeps h
  | slotInstance => exact execSlotInstance_keeps h
  | enginePllLoss => exact execEnginePllLoss_keeps h
  | engNop => exact execEngNop_keeps h
  | engEnd => exact execEngEnd_keeps h
  | engRep => exact execEngRep_keeps h
  | engClrf => exact execEngClrf_keeps h
  | engLdi => exact execEngLdi_keeps h
  | engLdp => exact execEngLdp_keeps h
  | engLd => exact execEngLd_keeps h
  | engSt => exact execEngSt_keeps h
  | engLdm => exact execEngLdm_keeps h
  | engLdw => exact execEngLdw_keeps h
  | engStw => exact execEngStw_keeps h
  | engLld => exact execEngLld_keeps h
  | engLst => exact execEngLst_keeps h
  | engSta => exact execEngSta_keeps h
  | engMov => exact execEngMov_keeps h
  | engMovd => exact execEngMovd_keeps h
  | engLda => exact execEngLda_keeps h
  | engAdda => exact execEngAdda_keeps h
  | engSuba => exact execEngSuba_keeps h
  | engAddd => exact execEngAddd_keeps h
  | engSubd => exact execEngSubd_keeps h
  | engAddk => exact execEngAddk_keeps h
  | engNega => exact execEngNega_keeps h
  | engAbsa => exact execEngAbsa_keeps h
  | engAsh => exact execEngAsh_keeps h
  | engNorm => exact execEngNorm_keeps h
  | engExp => exact execEngExp_keeps h
  | engSata => exact execEngSata_keeps h
  | engTsta => exact execEngTsta_keeps h
  | engClra => exact execEngClra_keeps h
  | engMac => exact execEngMac_keeps h
  | engDmac => exact execEngDmac_keeps h
  | engMacm => exact execEngMacm_keeps h
  | engDmacm => exact execEngDmacm_keeps h
  | engSeld => exact execEngSeld_keeps h
  | engSela => exact execEngSela_keeps h
  | engSell => exact execEngSell_keeps h
  | engMin => exact execEngMin_keeps h
  | engMax => exact execEngMax_keeps h
  | engNegd => exact execEngNegd_keeps h
  | engCmp => exact execEngCmp_keeps h
  | engLin => exact execEngLin_keeps h
  | engLadd => exact execEngLadd_keeps h
  | engLsub => exact execEngLsub_keeps h
  | engLmov => exact execEngLmov_keeps h
  | engLta => exact execEngLta_keeps h
  | engIn => exact execEngIn_keeps h
  | engOut => exact execEngOut_keeps h
  | engOuti => exact execEngOuti_keeps h
  | engOutc => exact execEngOutc_keeps h
  | engOutk => exact execEngOutk_keeps h
  | engSincos => exact execEngSincos_keeps h
  | engSqrt => exact execEngSqrt_keeps h
  | engDiv => exact execEngDiv_keeps h
  | writePhaseCommit => exact execWritePhaseCommit_keeps h
  | watchdogTorqueOff => exact execWatchdogTorqueOff_keeps h
  | pwmPeriodBoundary => exact execPwmPeriodBoundary_keeps h
  | tripEscalation => exact execTripEscalation_keeps h
  | bandBoundary => exact execBandBoundary_keeps h
  | velocityInstanceUpdate => exact execVelocityInstanceUpdate_keeps h
  | sheepdogArmed => exact execSheepdogArmed_keeps h
  | darnerClear => exact execDarnerClear_keeps h
  | darnerClearEffect => exact execDarnerClearEffect_keeps h
  | fastOvercurrent => exact execFastOvercurrent_keeps h
  | stuckChannel => exact execStuckChannel_keeps h
  | sumCheckFail => exact execSumCheckFail_keeps h
  | quadratureEdge => exact execQuadratureEdge_keeps h
  | indexEdge => exact execIndexEdge_keeps h
  | ssiFrame => exact execSsiFrame_keeps h
  | pos => exact execPos_keeps h
  | post => exact execPost_keeps h
  | afvenRead => exact execAfvenRead_keeps h
  | afvenWrite => exact execAfvenWrite_keeps h
  | afvenClearErr => exact execAfvenClearErr_keeps h
  | pairOpenOrShort => exact execPairOpenOrShort_keeps h
  | masterEncoderRead => exact execMasterEncoderRead_keeps h
  | probeEdge => exact execProbeEdge_keeps h
  | probeLatch => exact execProbeLatch_keeps h
  | probeArm => exact execProbeArm_keeps h
  | tripAssert => exact execTripAssert_keeps h
  | tripDeassert => exact execTripDeassert_keeps h
  | gateEnableLow => exact execGateEnableLow_keeps h
  | pwmClockLoss => exact execPwmClockLoss_keeps h
  | debugHalt => exact execDebugHalt_keeps h
  | debugResume => exact execDebugResume_keeps h
  | auxBoundary => exact execAuxBoundary_keeps h
  | auxCommit => exact execAuxCommit_keeps h
  | auxoff => exact execAuxoff_keeps h
  | submit => exact execSubmit_keeps h
  | cancel => exact execCancel_keeps h
  | take => exact execTake_keeps h
  | knlDone => exact execKnlDone_keeps h
  | knlTick => exact execKnlTick_keeps h
  | kennelEvent => exact execKennelEvent_keeps h
  | slotFill => exact execSlotFill_keeps h
  | slotMove => exact execSlotMove_keeps h
  | push => exact execPush_keeps h
  | copy => exact execCopy_keeps h
  | runmaxReached => exact execRunmaxReached_keeps h
  | tryingPush => exact execTryingPush_keeps h
  | waitingPush => exact execWaitingPush_keeps h
  | waitingPushAccept => exact execWaitingPushAccept_keeps h
  | pushCancel => exact execPushCancel_keeps h
  | pop => exact execPop_keeps h
  | heldPopComplete => exact execHeldPopComplete_keeps h
  | spillWrite => exact execSpillWrite_keeps h
  | spillRead => exact execSpillRead_keeps h
  | flush => exact execFlush_keeps h
  | arm => exact execArm_keeps h
  | disarm => exact execDisarm_keeps h
  | force => exact execForce_keeps h
  | acqSample => exact execAcqSample_keeps h
  | rearmEnd => exact execRearmEnd_keeps h
  | autoTrigger => exact execAutoTrigger_keeps h
  | recordClose => exact execRecordClose_keeps h
  | recordRelease => exact execRecordRelease_keeps h
  | wychemasSend => exact execWychemasSend_keeps h
  | wychemasReceive => exact execWychemasReceive_keeps h
  | syncclkLoss => exact execSyncclkLoss_keeps h
  | linkUp => exact execLinkUp_keeps h
  | linkDown => exact execLinkDown_keeps h
  | ringCycleSend => exact execRingCycleSend_keeps h
  | cycle => exact execCycle_keeps h
  | cycleReturn => exact execCycleReturn_keeps h
  | frameMissing => exact execFrameMissing_keeps h
  | close => exact execClose_keeps h
  | closeReturn => exact execCloseReturn_keeps h
  | discover => exact execDiscover_keeps h
  | discoverReturn => exact execDiscoverReturn_keeps h
  | poll => exact execPoll_keeps h
  | ident => exact execIdent_keeps h
  | param => exact execParam_keeps h
  | discard => exact execDiscard_keeps h
  | service => exact execService_keeps h
  | fault => exact execFault_keeps h
  | supervisoryReply => exact execSupervisoryReply_keeps h
  | supervisoryRetry => exact execSupervisoryRetry_keeps h
  | svrel => exact execSvrel_keeps h
  | lossOfRing => exact execLossOfRing_keeps h
  | memberLost => exact execMemberLost_keeps h
  | paramAckTimeout => exact execParamAckTimeout_keeps h
  | leave => exact execLeave_keeps h
  | reparam => exact execReparam_keeps h
  | linkDelayResponse => exact execLinkDelayResponse_keeps h
  | holdover => exact execHoldover_keeps h
  | permit => exact execPermit_keeps h
  | grandmasterChange => exact execGrandmasterChange_keeps h
  | sync => exact execSync_keeps h
  | followUp => exact execFollowUp_keeps h
  | announce => exact execAnnounce_keeps h
  | delayResp => exact execDelayResp_keeps h
  | pdelayReq => exact execPdelayReq_keeps h
  | pdelayResp => exact execPdelayResp_keeps h
  | logicFrame => exact execLogicFrame_keeps h
  | fieldReport => exact execFieldReport_keeps h
  | heartbeatTimeout => exact execHeartbeatTimeout_keeps h
  | couplerSilence => exact execCouplerSilence_keeps h
  | inputChangeAccepted => exact execInputChangeAccepted_keeps h
  | dioOut => exact execDioOut_keeps h
  | dioSet => exact execDioSet_keeps h
  | dioClr => exact execDioClr_keeps h
  | readbackMismatch => exact execReadbackMismatch_keeps h
  | thermalShutdown => exact execThermalShutdown_keeps h
  | thermalRetry => exact execThermalRetry_keeps h
  | groupOverload => exact execGroupOverload_keeps h
  | groupOverloadRetry => exact execGroupOverloadRetry_keeps h
  | supplyLow => exact execSupplyLow_keeps h
  | supplyMissing => exact execSupplyMissing_keeps h
  | supplyOff => exact execSupplyOff_keeps h
  | supplyOk => exact execSupplyOk_keeps h
  | safeInputChange => exact execSafeInputChange_keeps h
  | discrepancyFault => exact execDiscrepancyFault_keeps h
  | srstRelease => exact execSrstRelease_keeps h
  | resetStuck => exact execResetStuck_keeps h
  | ss1T1Elapsed => exact execSs1T1Elapsed_keeps h
  | safetyMeasurement => exact execSafetyMeasurement_keeps h
  | safetyEncoderRead => exact execSafetyEncoderRead_keeps h
  | readbackFault => exact execReadbackFault_keeps h
  | testdue => exact execTestdue_keeps h
  | darkTest => exact execDarkTest_keeps h
  | safetyPduSend => exact execSafetyPduSend_keeps h
  | safetyPduReceive => exact execSafetyPduReceive_keeps h
  | connectionWatchdog => exact execConnectionWatchdog_keeps h
  | safetyHeartbeat => exact execSafetyHeartbeat_keeps h
  | crossExchange => exact execCrossExchange_keeps h
  | accept => exact execAccept_keeps h
  | withdraw => exact execWithdraw_keeps h
  | clearlog => exact execClearlog_keeps h
  | passwordLockoutEnd => exact execPasswordLockoutEnd_keeps h
  | info => exact execInfo_keeps h
  | read => exact execRead_keeps h
  | write => exact execWrite_keeps h
  | logread => exact execLogread_keeps h
  | persread => exact execPersread_keeps h
  | motion => exact execMotion_keeps h
  | events => exact execEvents_keeps h
  | dlbegin => exact execDlbegin_keeps h
  | dldata => exact execDldata_keeps h
  | dlend => exact execDlend_keeps h
  | restart => exact execRestart_keeps h
  | arpRequest => exact execArpRequest_keeps h
  | icmpEcho => exact execIcmpEcho_keeps h
  | logTake => exact execLogTake_keeps h
  | persist => exact execPersist_keeps h
  | bypass => exact execBypass_keeps h
  | idcode => exact execIdcode_keeps h
  | samplePreload => exact execSamplePreload_keeps h
  | extest => exact execExtest_keeps h
  | ringCycleBoundary => exact execRingCycleBoundary_keeps h
  | foreignFrame => exact execForeignFrame_keeps h
  | syncclkReturn => exact execSyncclkReturn_keeps h
  | srstPress => exact execSrstPress_keeps h
  | delayReq => exact execDelayReq_keeps h
  | pdelayRespFollowUp => exact execPdelayRespFollowUp_keeps h
  | announceReceiptTimeout => exact execAnnounceReceiptTimeout_keeps h
  | spillWriteComplete => exact execSpillWriteComplete_keeps h
  | ringClockLoss => exact execRingClockLoss_keeps h

/-- A step from a state is its front command run on the rest of the queue, or nothing when none waits. -/
theorem step_cases {s t : State} (h : step s = .next t) :
    (s.pending = [] ∧ t = s) ∨ ∃ c rest, s.pending = c :: rest ∧ exec c { s with pending := rest } = .next t := by
  unfold step at h
  split at h
  next hp => exact .inl ⟨hp, (Host.Outcome.next.inj h).symm⟩
  next c rest hp => exact .inr ⟨c, rest, hp, h⟩

/-- The waiting commands do not bear on safety. -/
theorem Safe.withPending {s : State} (l : List Instr) (h : Safe s) : Safe { s with pending := l } :=
  ⟨h.bulk, h.space, h.ns, h.sec, h.frac, h.bufs, h.ring⟩

theorem Keeps.onlyChanges {m : List Part} {s t : State} (l : List Nat) (h : Keeps m s t) : OnlyChanges m l s t := by
  refine ⟨h.pending, fun p hp => ?_⟩
  cases p with
  | reg b => exact fun a ha _ => h.same (.reg b) hp a ha
  | _ => exact h.same _ hp

/-- Settles O3: each command's own frame lemma, whose parts are the ones that `commandTouches` lists. -/
theorem frameOfEveryCommand : Obligations.FrameOfEveryCommand := by
  intro i s
  obtain ⟨t, h⟩ := exec_next i s
  exact ⟨t, h, (exec_keeps h).onlyChanges []⟩

/-- Settles O4: the idle step changes nothing, and every command keeps a safe state safe. -/
theorem safeKept : Obligations.SafeKept := by
  intro s t safe h
  rcases step_cases h with ⟨-, rfl⟩ | ⟨c, rest, -, hc⟩
  · exact safe
  · exact (exec_keeps hc).safe (safe.withPending rest)

/-! ### Reset -/

/-- The Reset columns hold 32-bit words. -/
theorem resetsOf_reset_lt {a : Nat} {d : RegDesc} (h : d ∈ resetsOf a) : d.reset < 2 ^ 32 := by
  unfold resetsOf at h
  split at h <;> revert d <;> decide

theorem resetWord_lt (a : Nat) : resetWord a < 2 ^ 32 := by
  unfold resetWord
  split
  next d hd => exact resetsOf_reset_lt (List.mem_of_find?_eq_some hd)
  next => decide

/-- Reset lists no register word, so that each holds its Reset column (R6). -/
@[simp] theorem rd_reset (a : Nat) : State.reset.rd a = resetWord a := rfl

theorem safe_reset : Safe State.reset where
  bulk := rfl
  space := rfl
  ns := by decide
  sec := by decide
  frac := by decide
  bufs := fun _ => Nat.zero_le 4
  ring := Nat.zero_le 1024

/-- Settles O5: reset lists nothing, and the values named are those of the Reset columns. -/
theorem resetLeaves : Obligations.ResetLeaves := by
  have words (a : Nat) : State.reset.rd a = resetWord a % 2 ^ 32 := by
    rw [rd_reset, Nat.mod_eq_of_lt (resetWord_lt a)]
  have margins : ∀ i : Fin 31, State.reset.get (PWR_ISL_MARGIN i) = 0x14 := by decide
  have overrides : ∀ g : Fin 16, State.reset.get (PRF_GRPOVR_OVR g) = 0x400 := by decide
  exact ⟨safe_reset, rfl, rfl, words, rfl, margins, rfl, rfl, rfl, rfl, rfl, rfl, overrides, rfl⟩

/-! ### Accesses that do not reach the device address space (R494) -/

@[simp] theorem State.reaches_elapse (s : State) (dt : Nat) (who : Accessor) : (s.elapse dt).reaches who = s.reaches who := rfl

/-- A write that does not reach the device address space does nothing but let the time pass. -/
theorem exec_registerWrite_unreached {s : State} {who : Accessor} (h : s.reaches who = false) (dt : Nat) (addr : BitVec 32)
    (value : BitVec 64) (size : Fin 9) : exec (.registerWrite dt who addr value size) s = .next (s.elapse dt) := by
  simp [exec, execRegisterWrite, State.writeBy, h]

/-- A read that does not reach the device address space does nothing but let the time pass. -/
theorem exec_lowWordRead_unreached {s : State} {who : Accessor} (h : s.reaches who = false) (dt : Nat) (addr : BitVec 32)
    (size : Fin 9) : exec (.lowWordRead dt who addr size) s = .next (s.elapse dt) := by
  simp [exec, execLowWordRead, h]

/-- After reset MACHINE has not made the debug instructions available. -/
theorem reset_not_reaches_debug : State.reset.reaches .debug = false := by decide

/-- Refutes O7: the first clause asks it of every reader, but a read by the debug port of the low word at 0x11000108 captures
nothing after reset, where the debug instructions are not available (R494). -/
theorem not_wordPairs : ¬ Obligations.WordPairs := by
  rintro ⟨lowRead, -⟩
  obtain ⟨u, run, -, captured, -⟩ := lowRead 0 .debug 0x11000108 ⟨0x11000108, 8, 1, 8, 1, 0xFFFFFFFF, 0, 0, 0, 0, .low⟩
    State.reset (by decide) (by decide) rfl (.inr (by decide)) rfl rfl
  rw [exec_lowWordRead_unreached reset_not_reaches_debug] at run
  obtain rfl := Host.Outcome.next.inj run
  exact absurd captured (by decide)

/-- Refutes O8: the first clause asks it of every writer, but a write of 0x01 at 0x90000000 by the debug port stores nothing
after reset, where the debug instructions are not available (R494). -/
theorem not_bulkAccess : ¬ Obligations.BulkAccess := by
  rintro ⟨write, -⟩
  obtain ⟨u, run, stored, -⟩ := write 0 .debug 0x90000000 1 1 State.reset (by decide) (by decide) (by decide)
  rw [exec_registerWrite_unreached reset_not_reaches_debug] at run
  obtain rfl := Host.Outcome.next.inj run
  exact absurd (stored 0 (by decide)) (by decide)

end Sys2Proof.Machine
end

section
/-! PROOFS. Frames of single register words, and the power states of the islands (R35 to R39). -/

namespace Sys2Proof.Machine

/-! ### Frames of register words -/

/-- A state that keeps all but the parts `m` and, of one block, the words at `l`, changes nothing else. -/
theorem Keeps.onlyChanges_words {m : List Part} {b : Block} {l : List Nat} {s t : State} (h : Keeps (.reg b :: m) s t)
    (words : ∀ a, a / 0x1000000 = b.num → a ∉ l → t.rd a = s.rd a) : OnlyChanges m l s t := by
  refine ⟨h.pending, fun p hp => ?_⟩
  by_cases e : p = .reg b
  · subst e
    exact words
  · have same := h.same p (by simp [e, hp])
    cases p with
    | reg c => exact fun a ha _ => same a ha
    | _ => exact same

/-- The passing of time before a command adds the clock and the marks of W1C bits to what it changes. -/
theorem OnlyChanges.of_elapse {m : List Part} {l : List Nat} {s u : State} {dt : Nat} (h : OnlyChanges m l (s.elapse dt) u) :
    OnlyChanges (.clk :: .sets :: m) l s u := by
  obtain ⟨pending, same⟩ := h
  refine ⟨pending, fun p hp => ?_⟩
  simp only [List.mem_cons, not_or] at hp
  obtain ⟨clk, sets, rest⟩ := hp
  have := same p rest
  cases p with
  | clk => exact absurd rfl clk
  | sets => exact absurd rfl sets
  | _ => exact this

/-- More parts and more words may change. -/
theorem OnlyChanges.mono {m n : List Part} {l k : List Nat} {s u : State} (h : OnlyChanges m l s u) (hm : m ⊆ n) (hl : l ⊆ k) :
    OnlyChanges n k s u := by
  obtain ⟨pending, same⟩ := h
  refine ⟨pending, fun p hp => ?_⟩
  have := same p fun c => hp (hm c)
  cases p with
  | reg b => exact fun a ha hk => this a ha fun c => hk (hl c)
  | _ => exact this

/-- A word of a block that is not among the parts `m` stays. -/
theorem Keeps.rd {m : List Part} {s t : State} (h : Keeps m s t) {b : Block} (hb : Part.reg b ∉ m) {a : Nat}
    (ha : a / 0x1000000 = b.num) : t.rd a = s.rd a := h.same (.reg b) hb a ha

/-- A field of a block that is not among the parts `m` stays. -/
theorem Keeps.get {m : List Part} {s t : State} (h : Keeps m s t) {b : Block} (hb : Part.reg b ∉ m) {f : Fld}
    (hf : InBlk b f.addr) : t.get f = s.get f := by rw [State.get, State.get, h.rd hb hf.1]

/-- Field `g` fits a word and shares no bit with `f` in the same one. -/
def fldApart (f g : Fld) : Bool := (f.lo + f.width ≤ g.lo || g.lo + g.width ≤ f.lo) && g.lo + g.width ≤ 32

/-- A field apart from the one that is put stays, in whatever word. -/
theorem State.get_put_apart (s : State) {f g : Fld} (v : Nat) (h : fldApart f g = true) : (s.put f v).get g = s.get g := by
  simp only [fldApart, Bool.and_eq_true, Bool.or_eq_true, decide_eq_true_eq] at h
  exact s.get_put_other f g v h.1 h.2

theorem State.get_mark_apart (s : State) {f g : Fld} (b : Bool) (h : fldApart f g = true) : (s.mark f b).get g = s.get g :=
  s.get_put_apart _ h

/-- A field that fits a word reads as what is put into it. -/
theorem State.get_put_fits (s : State) (f : Fld) (v : Nat) (h : Nat.ble (f.lo + f.width) 32 = true) :
    (s.put f v).get f = v % 2 ^ f.width := s.get_put_same f v (Nat.le_of_ble_eq_true h)

theorem State.get_mark_fits (s : State) (f : Fld) (b : Bool) (h : Nat.ble (f.lo + f.width) 32 = true) (w : Nat.ble 1 f.width = true) :
    (s.mark f b).get f = b2n b := by
  have small : b2n b < 2 ^ f.width := by
    have : b2n b < 2 := by cases b <;> decide
    exact this.trans_le (Nat.pow_le_pow_right Nat.two_pos (Nat.le_of_ble_eq_true w))
  exact (s.get_put_fits f _ h).trans (Nat.mod_eq_of_lt small)

/-- A saturating count of `k` more in a field. -/
theorem State.get_satBump_same (s : State) (f : Fld) (k : Nat) (h : f.lo + f.width ≤ 32) :
    (s.satBump f k).get f = min (s.get f + k) (2 ^ f.width - 1) := by
  have small : satAdd f.width (s.get f) k < 2 ^ f.width := by
    have := Nat.two_pow_pos f.width
    simp only [satAdd]
    omega
  rw [State.satBump, State.get_put_same s f _ h, Nat.mod_eq_of_lt small, satAdd]

/-- The registers of two islands are different words. -/
theorem PWR_ISL_injective {i j : Fin 31} (h : PWR_ISL i = PWR_ISL j) : i = j := by
  simp only [PWR_ISL] at h
  omega

/-! ### The choice of a power state (R36, R37) -/

/-- A CEIL field has 2 bits, and the rules that do not read it give 0 or 1. -/
theorem State.islandCeil_le (s : State) (i : Nat) : s.islandCeil i ≤ 3 := by
  have field := s.get_lt (PWR_ISL_CEIL i)
  have width : (PWR_ISL_CEIL i).width = 2 := rfl
  rw [width] at field
  unfold State.islandCeil
  dsimp only
  split_ifs <;> omega

/-- The deepest state that fits: within the ceiling, and the ceiling itself when no event is known. -/
theorem State.deepest_none (s : State) (i : Nat) : s.deepest i none = s.islandCeil i := by
  have := s.islandCeil_le i
  interval_cases h : s.islandCeil i <;> simp [State.deepest, h]

/-- With an event `t` ns from now the chosen state is within the ceiling and fits, or is Run; a deeper one does not fit. -/
theorem State.deepest_some (s : State) (i t : Nat) :
    s.deepest i (some t) ≤ s.islandCeil i ∧
    (s.deepest i (some t) = 0 ∨ wakeTime (s.deepest i (some t)) + s.get (PWR_ISL_MARGIN i) * 1000 ≤ t) ∧
    ∀ v, v ≤ 3 → s.deepest i (some t) < v → v ≤ s.islandCeil i → t < wakeTime v + s.get (PWR_ISL_MARGIN i) * 1000 := by
  unfold State.deepest
  dsimp only
  cases found : [3, 2, 1].find? fun st =>
      decide (st ≤ s.islandCeil i) && decide (wakeTime st + s.get (PWR_ISL_MARGIN i) * 1000 ≤ t) with
  | none =>
    have none_fits := List.find?_eq_none.mp found
    refine ⟨Nat.zero_le _, .inl rfl, fun v _ deeper within => ?_⟩
    have listed : v ∈ [3, 2, 1] := by
      simp only [Option.getD_none] at deeper
      interval_cases v <;> decide
    have := none_fits v listed
    simp only [Bool.and_eq_true, decide_eq_true_eq] at this
    omega
  | some st =>
    obtain ⟨fits, front, tail, split, before⟩ := List.find?_eq_some_iff_append.mp found
    simp only [Bool.and_eq_true, decide_eq_true_eq] at fits
    refine ⟨fits.1, .inr fits.2, fun v le deeper within => ?_⟩
    have ordered : (front ++ st :: tail).Pairwise (· > ·) := split ▸ by decide
    have listed : v ∈ front ++ st :: tail := by
      simp only [Option.getD_some] at deeper
      rw [← split]
      simp only [List.mem_cons, List.not_mem_nil, or_false]
      omega
    have earlier : v ∈ front := by
      rcases List.mem_append.mp listed with h | h
      · exact h
      · have below := List.pairwise_cons.mp (List.pairwise_append.mp ordered).2.1
        simp only [Option.getD_some] at deeper
        rcases List.mem_cons.mp h with rfl | h
        · omega
        · have := below.1 v h
          omega
    have late := before v earlier
    simp only [Bool.not_eq_true', Bool.and_eq_false_iff, decide_eq_false_iff_not] at late
    omega

/-! ### The rules of an entry, a late event and a wake (R36, R38, R39) -/

/-- What the chosen state of island `i` shows: a value of 2 bits, which the field holds. -/
theorem State.get_state_powerEntry (s : State) (i : Nat) (left : Option Nat) :
    (s.powerEntry i left).get (PWR_ISL_STATE i) = s.deepest i (s.earliest i left) := by
  have small : s.deepest i (s.earliest i left) < 2 ^ (PWR_ISL_STATE i).width := by
    have := s.islandCeil_le i
    change _ < 4
    cases s.earliest i left with
    | none => rw [State.deepest_none]; omega
    | some t => have := (s.deepest_some i t).1; omega
  rw [State.powerEntry, State.showRefresh, State.get_onPow, State.get_put_same _ _ _ (Nat.le_of_ble_eq_true rfl),
    Nat.mod_eq_of_lt small]

/-- An entry writes the word of its own island alone. -/
theorem State.powerEntry_onlyChanges (s : State) (i : Nat) (left : Option Nat) :
    OnlyChanges [.pow] [PWR_ISL i] s (s.powerEntry i left) :=
  (State.powerEntry_keeps (Keeps.refl _ s) (by decide) : Keeps [.reg .err, .pow] s _).onlyChanges_words
    fun _ _ ha => State.rd_put_ne _ _ _ (List.ne_of_not_mem_cons ha)

/-- A late event of island `i` writes the word of that island alone. -/
theorem State.lateWake_onlyChanges (s : State) (i : Nat) : OnlyChanges [] [PWR_ISL i] s (s.lateWake i) := by
  refine (State.lateWake_keeps (Keeps.refl _ s) (by decide) : Keeps [.reg .err] s _).onlyChanges_words fun a _ ha => ?_
  unfold State.lateWake
  split
  · rfl
  · exact State.rd_put_ne _ _ _ (List.ne_of_not_mem_cons ha)

/-- Beside the state of its island, a completed wake changes no power register, and nothing of the power part but the refresh that
follows from them. -/
theorem State.wakeDone_keeps_put (s : State) (i : Nat) :
    Keeps [.reg .prf, .reg .eng, .reg .acq, .fresh, .axes, .drn, .acq] (s.put (PWR_ISL_STATE i) 0).showRefresh (s.wakeDone i) := by
  unfold State.wakeDone
  dsimp only
  set woken := (s.put (PWR_ISL_STATE i) 0).showRefresh
  have caches := keeps_ite (m := [.reg .prf, .reg .eng, .reg .acq, .fresh, .axes, .drn, .acq]) (s0 := woken)
    (c := s.get (PWR_ISL_STATE i) = 3 ∧ i < 8)
    (fun _ => keeps_foldl (f := fun s c => s.revalidate (4 * i + c)) (fun _ _ h => State.revalidate_keeps h (by decide))
      ((List.range 4).filter fun c => woken.axKind (4 * i + c) == 1) (Keeps.refl _ _))
    fun _ => Keeps.refl _ woken
  exact keeps_ite (fun _ => State.acqWoken_keeps caches (by decide)) fun _ => caches

/-- Settles O9: the deepest state that fits, the count of a late event, and the wake; each writes the word of its island alone. -/
theorem powerStates : Obligations.PowerStates := by
  refine ⟨fun dt ix left s => ?_, fun dt ix s away => ?_, fun dt ix s run => ?_, fun dt ix s => ?_⟩
  · have shown := (s.elapse dt).get_state_powerEntry ix left
    have others := ((s.elapse dt).powerEntry_onlyChanges ix left).of_elapse.mono (n := [.clk, .pow, .sets]) (by decide) (List.Subset.refl _)
    have within : (s.elapse dt).deepest ix ((s.elapse dt).earliest ix left) ≤ s.islandCeil ix := by
      cases (s.elapse dt).earliest ix left with
      | none => exact ((s.elapse dt).deepest_none ix).le
      | some t => exact ((s.elapse dt).deepest_some ix t).1
    refine ⟨_, rfl, ?_, ?_, ?_, ?_, rfl, others⟩ <;> rw [shown]
    · exact within
    · intro none
      rw [none]
      exact (s.elapse dt).deepest_none ix
    · intro t event
      rw [Option.mem_def.mp event]
      exact ((s.elapse dt).deepest_some ix t).2.1
    · intro t event v
      rw [Option.mem_def.mp event]
      exact ((s.elapse dt).deepest_some ix t).2.2 v (Nat.lt_succ_iff.mp v.isLt)
  · have counted : (s.elapse dt).lateWake ix = (s.elapse dt).satBump (PWR_ISL_LATE ix) 1 := if_neg away
    have others := ((s.elapse dt).lateWake_onlyChanges ix).of_elapse
    refine ⟨_, rfl, ?_, ?_, others⟩ <;> rw [counted]
    · exact (s.elapse dt).get_satBump_same _ 1 (Nat.le_of_ble_eq_true rfl)
    · exact State.get_put_other _ _ _ _ (.inr (Nat.le_of_ble_eq_true rfl)) (Nat.le_of_ble_eq_true rfl)
  · refine ⟨s.elapse dt, ?_, (Keeps.onlyChanges [] (State.elapse_keeps (Keeps.refl _ s) (by decide)))⟩
    exact congrArg Host.Outcome.next (if_pos run)
  · have later := (s.elapse dt).wakeDone_keeps_put ix
    have states (k : Nat) : ((s.elapse dt).wakeDone ix).get (PWR_ISL_STATE k) = ((s.elapse dt).put (PWR_ISL_STATE ix) 0).get (PWR_ISL_STATE k) :=
      later.get (by decide) (PWR_ISL_STATE_blk k)
    refine ⟨_, rfl, ?_, ?_, fun k other => ?_⟩
    · rw [states]
      exact State.get_put_same _ _ _ (Nat.le_of_ble_eq_true rfl)
    · rw [show ((s.elapse dt).wakeDone ix).pow = _ from later.same .pow (by decide)]
      simp only [states]
      rfl
    · rw [later.rd (b := .err) (by decide) (PWR_ISL_blk k).1]
      exact State.rd_put_ne _ _ _ fun same => other (PWR_ISL_injective same)

end Sys2Proof.Machine
end

section
/-! PROOFS. What a fault of an axis does to the states of the axes and leaves alone elsewhere (R124, R125, R142). -/

namespace Sys2Proof.Machine

/-! ### Words that the end of motions, couplings and groups leaves alone -/

/-- The status words of the axes, the words of the error block but for the report counters, and the loop words of the engines: the
operations on motions and couplings write none of them, but for the state of an axis. -/
def Quiet (a : Nat) : Prop :=
  a / 0x10000 = 0x1201 ∨ (a / 0x1000000 = 0x1F ∧ (a < 0x1F000100 ∨ 0x1F000300 ≤ a)) ∨ (a / 0x1000000 = 0x13 ∧ a % 0x100 < 0x40)

theorem Quiet.ne {a b : Nat} (ha : Quiet a) (hb : ¬Quiet b) : a ≠ b := fun e => hb (e ▸ ha)

theorem not_quiet_ERR_PRES (i : Nat) : ¬Quiet (ERR_PRES i) := by simp only [Quiet, ERR_PRES]; omega
theorem not_quiet_ERR_LTOT (i : Nat) : ¬Quiet (ERR_LTOT i) := by simp only [Quiet, ERR_LTOT]; omega
theorem not_quiet_ERR_LOST (i : Nat) : ¬Quiet (ERR_LOST i) := by simp only [Quiet, ERR_LOST]; omega
theorem not_quiet_PRF_STAT : ¬Quiet PRF_STAT := by simp only [Quiet, PRF_STAT]; omega
theorem not_quiet_PRF_MVST (n : Nat) : ¬Quiet (PRF_MVST n) := by simp only [Quiet, PRF_MVST]; omega
theorem not_quiet_PRF_MVTAG (n : Nat) : ¬Quiet (PRF_MVTAG n) := by simp only [Quiet, PRF_MVTAG]; omega
theorem not_quiet_PRF_GRPST (g : Nat) : ¬Quiet (PRF_GRPST g) := by simp only [Quiet, PRF_GRPST]; omega
theorem not_quiet_ENG_DST (a : Nat) : ¬Quiet (ENG_DST a) := by simp only [Quiet, ENG_DST]; omega
theorem quiet_PRF_AXST (n : Nat) : Quiet (PRF_AXST n) := by simp only [Quiet, PRF_AXST]; omega

variable {a n : Nat} {s : State}

/-- A put into a word that is not quiet leaves the quiet ones alone. -/
theorem Quiet.rd_put (ha : Quiet a) {f : Fld} (hf : ¬Quiet f.addr) (v : Nat) : (s.put f v).rd a = s.rd a :=
  State.rd_put_ne s f v (ha.ne hf)

/-- An operation that keeps the blocks PRF, ERR and ENG keeps the quiet words. -/
theorem Keeps.rd_quiet {m : List Part} {t : State} (h : Keeps m s t) (ha : Quiet a)
    (hm : ∀ b ∈ [Block.prf, .err, .eng], Part.reg b ∉ m) : t.rd a = s.rd a := by
  rcases ha with ha | ⟨ha, -⟩ | ⟨ha, -⟩
  · exact h.rd (hm .prf (by decide)) (by simp only [Block.num]; omega)
  · exact h.rd (hm .err (by decide)) ha
  · exact h.rd (hm .eng (by decide)) ha

/-- A report writes the counters of its source alone. -/
theorem Quiet.rd_report (ha : Quiet a) (src cls detail a0 a1 a2 : Nat) : (s.report src cls detail a0 a1 a2).rd a = s.rd a := by
  have pres : (s.bump (whole (ERR_PRES src))).rd a = s.rd a := ha.rd_put (not_quiet_ERR_PRES src) _
  have lost {t : State} {f : Fld} (hf : f.addr = ERR_LOST src) (v : Nat) : (t.put f v).rd a = t.rd a :=
    ha.rd_put (hf ▸ not_quiet_ERR_LOST src) v
  unfold State.report
  dsimp only
  split
  · rw [State.mark, lost rfl, State.satBump, lost rfl, State.bump, ha.rd_put (not_quiet_ERR_LTOT src), pres]
  · rw [State.rd_onLog, lost rfl, State.mark, lost rfl, pres]

/-- A counter that is not quiet is lost without a write of a quiet word. -/
theorem Quiet.rd_lose (ha : Quiet a) {f : Fld} (hf : ¬Quiet f.addr) (src k : Nat) : (s.lose src f k).rd a = s.rd a := by
  unfold State.lose
  dsimp only
  split_ifs <;> simp only [State.satBump, State.rd_onLog, ha.rd_report, ha.rd_put hf]

theorem Quiet.rd_pushEvent (ha : Quiet a) (code index reason tag : Nat) (data : Option (Nat × Int)) :
    (s.pushEvent code index reason tag data).rd a = s.rd a := by
  have pushed (es) : (s.tryPush 2 1 es).2.rd a = s.rd a :=
    (State.tryPush_keeps (Keeps.refl [.reg .knl, .reg .que, .sets, .bulk, .knl, .que] s) (by decide)).rd_quiet ha (by decide)
  unfold State.pushEvent
  dsimp only
  split
  · exact pushed _
  · rw [ha.rd_lose not_quiet_PRF_STAT, pushed]

theorem Quiet.rd_endSuper (ha : Quiet a) (n : Nat) : (s.endSuper n).rd a = s.rd a := by
  unfold State.endSuper
  split
  · rw [ha.rd_pushEvent, State.mark, ha.rd_put (not_quiet_PRF_MVST n)]
    rfl
  · rfl

theorem Quiet.rd_uncouple (ha : Quiet a) (n reason tag : Nat) : (s.uncouple n reason tag).rd a = s.rd a := by
  unfold State.uncouple
  split
  · rfl
  · rw [ha.rd_pushEvent, ha.rd_put (not_quiet_PRF_MVST n)]
    exact ha.rd_endSuper n

theorem Quiet.rd_setMode (ha : Quiet a) (n m tag : Nat) : (s.setMode n m tag).rd a = s.rd a := by
  rw [State.setMode, State.rd_wr_ne _ _ (ha.ne (not_quiet_PRF_MVTAG n)), ha.rd_put (not_quiet_PRF_MVST n)]

theorem Quiet.rd_groupEnd (ha : Quiet a) (g reason : Nat) (off : List Nat) : (s.groupEnd g reason off).rd a = s.rd a := by
  unfold State.groupEnd
  dsimp only
  refine ((keeps_foldl (m := [.prf]) (fun _ _ h => State.onMot_keeps h (by decide)) _ (Keeps.refl _ _)).rd_quiet ha (by decide)).trans ?_
  exact ha.rd_put (not_quiet_PRF_GRPST g) 5

theorem Quiet.rd_dropMotion (ha : Quiet a) (n : Nat) : (s.dropMotion n).rd a = s.rd a := by
  have shown : ∀ t : State, (((t.setMode n 0 0).mark (PRF_MVST_SUPER n) false).put (PRF_MVST_MASTER n) 0).rd a = t.rd a := fun t => by
    rw [ha.rd_put (not_quiet_PRF_MVST n), State.mark, ha.rd_put (not_quiet_PRF_MVST n), ha.rd_setMode]
  have dropped : ((s.releaseProbe n).onMot n fun m =>
      { m with cmd := none, plan := none, cpl := none, sup := none, supPlan := none, supVel := 0, supAcc := 0, next := none }).rd a = s.rd a :=
    (State.onMot_keeps (State.releaseProbe_keeps (Keeps.refl [.reg .fbk, .prf, .probes] s) (by decide)) (by decide)).rd_quiet ha (by decide)
  unfold State.dropMotion
  dsimp only
  split
  · split
    · rw [ha.rd_groupEnd, shown, dropped]
    · rw [shown, dropped]
  · rw [shown, dropped]

/-- Entering a state writes the status of that axis alone among the quiet words. -/
theorem Quiet.rd_enter (ha : Quiet a) (hn : a ≠ PRF_AXST n) (st : Nat) : (s.enter n st).rd a = s.rd a := by
  unfold State.enter
  split
  · rfl
  · refine ((State.event_keeps (Keeps.refl [.reg .knl, .knl] _) (by decide)).rd_quiet ha (by decide)).trans ?_
    rw [State.rd_put_ne _ _ _ hn]
    split
    · exact ha.rd_put (not_quiet_ENG_DST n) 1
    · rfl

theorem State.axState_enter (s : State) (n : Nat) {st : Nat} (h : st < 8) : (s.enter n st).axState n = st := by
  unfold State.enter
  split
  next same => exact same
  next =>
    refine ((State.event_keeps (Keeps.refl [.reg .knl, .knl] _) (by decide)).get (by decide) (PRF_AXST_STATE_blk n)).trans ?_
    rw [State.get_put_same _ _ _ (Nat.le_of_ble_eq_true rfl)]
    exact Nat.mod_eq_of_lt h

/-- Entering a state leaves the rest of the status word alone. -/
theorem State.get_enter_other (s : State) (n st : Nat) {f : Fld} (hf : f.addr = PRF_AXST n) (lo : 3 ≤ f.lo) (hi : f.lo + f.width ≤ 32) :
    (s.enter n st).get f = s.get f := by
  unfold State.enter
  split
  · rfl
  · refine ((State.event_keeps (Keeps.refl [.reg .knl, .knl] _) (by decide)).get (b := .prf) (by decide) (hf ▸ PRF_AXST_blk n)).trans ?_
    rw [State.get_put_other _ (PRF_AXST_STATE n) f _ (.inl lo) hi]
    split
    · exact State.get_put_ne _ _ _ _ (hf ▸ (quiet_PRF_AXST n).ne (not_quiet_ENG_DST n))
    · rfl

/-! ### The states of the axes while slaves lose their master (R142) -/

/-- The status of axis `k` from `s` to `t`: its state is the same, or a coupled axis has begun to stop; its latched cause and reaction
are the same. -/
structure StatusDrift (k : Nat) (s t : State) : Prop where
  state : t.axState k = s.axState k ∨ (s.axState k = 4 ∧ t.axState k = 3)
  cause : t.get (PRF_AXST_CAUSE k) = s.get (PRF_AXST_CAUSE k)
  react : t.get (PRF_AXST_REACT k) = s.get (PRF_AXST_REACT k)

theorem StatusDrift.of_rd {k : Nat} {s t : State} (h : t.rd (PRF_AXST k) = s.rd (PRF_AXST k)) : StatusDrift k s t := by
  have field (f : Fld) (hf : f.addr = PRF_AXST k) : t.get f = s.get f := by rw [State.get, State.get, hf, h]
  exact ⟨.inl (field _ rfl), field _ rfl, field _ rfl⟩

theorem StatusDrift.refl (k : Nat) (s : State) : StatusDrift k s s := .of_rd rfl

theorem StatusDrift.trans {k : Nat} {s t u : State} (h : StatusDrift k s t) (g : StatusDrift k t u) : StatusDrift k s u := by
  refine ⟨?_, g.cause.trans h.cause, g.react.trans h.react⟩
  have := h.state
  have := g.state
  omega

/-- An operation that keeps the block PRF keeps every status. -/
theorem Keeps.statusDrift {m : List Part} {s t : State} (h : Keeps m s t) (hm : Part.reg .prf ∉ m) (k : Nat) : StatusDrift k s t :=
  .of_rd (h.rd hm (PRF_AXST_blk k).1)

/-- A stop of a slave whose master is lost. -/
theorem State.decoupleStop_statusDrift (s : State) (n reason tag : Nat) (d j : Option Int) (k : Nat) :
    StatusDrift k s (s.decoupleStop n reason tag d j) := by
  unfold State.decoupleStop
  split
  · exact .refl k s
  · dsimp only
    set free := (State.onMot n _ (s.uncouple n reason tag)).planStop n d j
    have freed : free.rd (PRF_AXST k) = s.rd (PRF_AXST k) := (quiet_PRF_AXST k).rd_uncouple n reason tag
    have mode (t : State) : StatusDrift k t (t.setMode n 7 tag) := .of_rd ((quiet_PRF_AXST k).rd_setMode n 7 tag)
    refine (StatusDrift.of_rd freed).trans (StatusDrift.trans ?_ (mode _))
    split
    next coupled =>
      by_cases same : PRF_AXST k = PRF_AXST n
      · have shared (t : State) : t.axState k = t.axState n := by rw [State.axState, State.axState, PRF_AXST_STATE, same, PRF_AXST_STATE]
        refine ⟨.inr ⟨(shared _).trans coupled, (shared _).trans (free.axState_enter n (by decide))⟩, ?_, ?_⟩
        · exact free.get_enter_other n 3 same (Nat.le_of_ble_eq_true rfl) (Nat.le_of_ble_eq_true rfl)
        · exact free.get_enter_other n 3 same (Nat.le_of_ble_eq_true rfl) (Nat.le_of_ble_eq_true rfl)
      · exact .of_rd ((quiet_PRF_AXST k).rd_enter same 3)
    next => exact .refl k _

/-- The quiet words that are no status of an axis: those of the error block and the loop words of the engines. -/
theorem Quiet.rd_decoupleStop (ha : Quiet a) (hn : a ≠ PRF_AXST n) (reason tag : Nat) (d j : Option Int) :
    (s.decoupleStop n reason tag d j).rd a = s.rd a := by
  unfold State.decoupleStop
  split
  · rfl
  · dsimp only
    rw [ha.rd_setMode]
    split
    · rw [ha.rd_enter hn]
      exact ha.rd_uncouple n reason tag
    · exact ha.rd_uncouple n reason tag

theorem State.masterLost_statusDrift (s : State) (p : Nat → Bool) (k : Nat) : StatusDrift k s (s.masterLost p) := by
  unfold State.masterLost
  generalize (below 256 fun m => match (s.mot m).cpl with | some c => p c.master | none => false) = slaves
  induction slaves generalizing s with
  | nil => exact .refl k s
  | cons m l ih => exact (s.decoupleStop_statusDrift m 1 _ none none k).trans (ih _)

theorem Quiet.rd_masterLost (ha : Quiet a) (hn : a / 0x10000 ≠ 0x1201) (p : Nat → Bool) : (s.masterLost p).rd a = s.rd a := by
  have other (m : Nat) : a ≠ PRF_AXST m := by simp only [PRF_AXST]; omega
  unfold State.masterLost
  generalize (below 256 fun m => match (s.mot m).cpl with | some c => p c.master | none => false) = slaves
  induction slaves generalizing s with
  | nil => rfl
  | cons m l ih => exact (ih).trans (ha.rd_decoupleStop (other m) 1 _ none none)

/-! ### Reaction 0x0 (R125) -/

theorem addr_bandSt (a h : Nat) : (bandSt a h).addr = ENG_BAND a := by
  unfold bandSt
  split <;> rfl

theorem ENG_CST_ne_ENG_BAND (a b : Nat) : ENG_CST a ≠ ENG_BAND b := by simp only [ENG_CST, ENG_BAND]; omega
theorem ENG_CST_ne_ENG_SST (a b : Nat) : ENG_CST a ≠ ENG_SST b := by simp only [ENG_CST, ENG_SST]; omega

/-- Before its PWM is disabled, a local axis that leaves the enabled states writes its engine, the activity of its sense channels and
SDPEND alone; its loops are off. -/
theorem State.leaveEnabled_eq (s : State) {n : Nat} (hn : n < 32) :
    ∃ t, Keeps [.reg .eng, .reg .csf] s t ∧ t.get (ENG_CST_RUN n) = 0 ∧ s.leaveEnabled n = (t.mark (PRF_AXST_SDPEND n) false).pwmOff n := by
  have keeps {t : State} {f : Fld} {v : Nat} (hf : InBlk .eng f.addr) (h : Keeps [.reg .eng, .reg .csf] s t) :
      Keeps [.reg .eng, .reg .csf] s (t.put f v) := State.put_keeps hf h (by decide)
  have inactive (t : State) : Keeps [.reg .csf] t ((List.range 3).foldl (fun s h => s.mark (CSF_CST_ACT (3 * n + h)) false) t) :=
    keeps_foldl (fun _ _ h => State.mark_keeps (CSF_CST_ACT_blk _) h (by decide)) _ (Keeps.refl _ t)
  have apart {t : State} {f : Fld} {v : Nat} (hf : ENG_CST n ≠ f.addr) : (t.put f v).get (ENG_CST_RUN n) = t.get (ENG_CST_RUN n) :=
    State.get_put_ne _ _ _ _ hf
  have band (h : Nat) : ENG_CST n ≠ (bandSt n h).addr := addr_bandSt n h ▸ ENG_CST_ne_ENG_BAND n n
  unfold State.leaveEnabled
  rw [if_neg (by omega)]
  refine ⟨_, ?_, ?_, rfl⟩
  · refine Keeps.trans ?_ ((inactive _).mono (by decide))
    have loops := keeps (v := 0) (bandSt_blk n 2) <| keeps (v := 0) (bandSt_blk n 1) <| keeps (v := 0) (bandSt_blk n 0) <|
      keeps (v := 0) (ENG_CST_RUN_blk n) <| keeps (v := setBit (s.get (ENG_STAT_ENABLED (n / 4))) (n % 4) false)
        (ENG_STAT_ENABLED_blk (n / 4)) (Keeps.refl _ s)
    exact keeps_ite (fun _ => loops) fun _ => keeps (ENG_SST_SETTLE_blk n) (keeps (ENG_SST_STATE_blk n) loops)
  · rw [(inactive _).get (b := .eng) (by decide) (ENG_CST_RUN_blk n)]
    have off (t : State) : ((((t.put (ENG_CST_RUN n) 0).put (bandSt n 0) 0).put (bandSt n 1) 0).put (bandSt n 2) 0).get (ENG_CST_RUN n) = 0 := by
      rw [apart (band 2), apart (band 1), apart (band 0)]
      exact State.get_put_same _ _ _ (Nat.le_of_ble_eq_true rfl)
    split
    · exact off _
    · rw [apart (ENG_CST_ne_ENG_SST n n), apart (ENG_CST_ne_ENG_SST n n)]
      exact off _

/-- Of a status word, the end of the enabled states writes SDPEND of its own axis alone. -/
theorem State.get_leaveEnabled (s : State) (n : Nat) {f : Fld} (hf : f.addr / 0x10000 = 0x1201) (hi : f.lo + f.width ≤ 24) :
    (s.leaveEnabled n).get f = s.get f := by
  by_cases hn : n < 32
  · obtain ⟨t, keeps, -, eq⟩ := s.leaveEnabled_eq hn
    have status : f.addr / 0x1000000 = Block.prf.num := by simp only [Block.num]; omega
    have off := (State.pwmOff_keeps (a := n) (Keeps.refl [.reg .pwm, .pwm] (t.mark (PRF_AXST_SDPEND n) false)) (by decide)).rd
      (by decide) status
    rw [eq, State.get, off]
    change (t.put (PRF_AXST_SDPEND n) 0).get f = _
    rw [State.get_put_other _ (PRF_AXST_SDPEND n) f 0 (.inr hi) (by omega), State.get, keeps.rd (by decide) status]
    rfl
  · rw [State.leaveEnabled, if_pos (by omega)]

/-- Of a status word, a reaction 0x0 writes SDPEND of its own axis alone. -/
theorem State.get_torqueOff (s : State) (n code : Nat) {f : Fld} (hf : f.addr / 0x10000 = 0x1201) (hi : f.lo + f.width ≤ 24) :
    (s.torqueOff n code).get f = s.get f := by
  have status : f.addr / 0x1000000 = Block.prf.num := by simp only [Block.num]; omega
  have brake : ∀ t : State, (t.setBrake n true).get f = t.get f := fun t => by
    rw [State.get, (State.setBrake_keeps (Keeps.refl [.reg .dio, .axes] t) (by decide)).rd (by decide) status]
    rfl
  unfold State.torqueOff
  dsimp only
  rw [State.get, Quiet.rd_dropMotion (.inl hf)]
  exact (State.get_leaveEnabled _ n hf hi).trans (brake _)

theorem State.torqueOff_statusDrift (s : State) (n code k : Nat) : StatusDrift k s (s.torqueOff n code) := by
  have status : PRF_AXST k / 0x10000 = 0x1201 := by simp only [PRF_AXST]; omega
  exact ⟨.inl (s.get_torqueOff n code status (Nat.le_of_ble_eq_true rfl)), s.get_torqueOff n code status (Nat.le_of_ble_eq_true rfl),
    s.get_torqueOff n code status (Nat.le_of_ble_eq_true rfl)⟩

/-- A reaction 0x0 writes nothing in the error block. -/
theorem State.rd_torqueOff_err (s : State) (n code : Nat) {a : Nat} (ha : a / 0x1000000 = Block.err.num) :
    (s.torqueOff n code).rd a = s.rd a :=
  (State.torqueOff_keeps (Keeps.refl [.reg .prf, .reg .eng, .reg .csf, .reg .fbk, .reg .pwm, .reg .dio, .axes, .prf, .pwm, .probes] s)
    (by decide)).rd (by decide) ha

/-! ### A fault whose reaction is 0x0 (R124, R125) -/

theorem State.axis_onAxis_same (s : State) (n : Nat) (f : Axis → Axis) : (s.onAxis n f).axis n = f (s.axis n) := tabGet_tabSet_same _ _ _ _

/-- R124: the fault of an axis that is not in FAULT is reported and latched, with reaction 0x0. -/
def State.latchFault (n cause sub src : Nat) (s : State) : State :=
  let s := s.report src 2 cause n sub 0
  let s := (((s.enter n 6).put (PRF_AXST_CAUSE n) cause).put (PRF_AXST_REACT n) 0).mark (PRF_AXST_STOPTO n) false
  s.onAxis n fun x =>
    { x with faultAt := s.clk.elapsed, reacted := false, disabling := false, brakeDue := none, moved := 2, ssCount := 0 }

/-- R124, R142, R363: what else hears of a latched fault: the Darner of the axis, the trigger groups and its slaves. -/
def State.spreadFault (n : Nat) (s : State) : State :=
  let s := if n < 32 ∧ bit (s.axU n 0x300 1) 1 then s.emptyDarner n else s
  let s := s.acqSource 7 n 256 (s.now * 256) 0
  s.masterLost fun sel => sel == n || (sel == 0x1000 + n && n < 32)

/-- A fault of a cause whose reaction is 0x0, of an axis that is not in FAULT. -/
theorem State.faultWith_live (s : State) {n cause : Nat} (sub src code : Nat) (defer : Bool) (live : 1 ≤ s.axState n ∧ s.axState n ≤ 5)
    (hc : cause ≤ 7) : s.faultWith n cause sub src code defer =
      if defer then (s.latchFault n cause sub src).spreadFault n else ((s.latchFault n cause sub src).spreadFault n).torqueOff n code := by
  unfold State.faultWith
  rw [if_pos live, if_pos (Or.inl hc)]
  rfl

/-- Axis `k` is in FAULT with `cause` latched and reaction 0x0. -/
structure Latched (k cause : Nat) (s : State) : Prop where
  state : s.axState k = 6
  cause : s.get (PRF_AXST_CAUSE k) = cause
  react : s.get (PRF_AXST_REACT k) = 0

theorem Latched.drift {k cause : Nat} {s t : State} (h : Latched k cause s) (d : StatusDrift k s t) : Latched k cause t := by
  obtain ⟨state, latched, react⟩ := h
  refine ⟨?_, d.cause.trans latched, d.react.trans react⟩
  have := d.state
  omega

/-- The end of R119: such an axis is not enabled. -/
theorem Latched.enabled {k cause : Nat} {s : State} (h : Latched k cause s) : s.enabled k = false := by
  simp [State.enabled, State.rampFault, h.state, h.react]

theorem State.latchFault_latched (s : State) (n : Nat) {cause : Nat} (hc : cause < 64) (sub src : Nat) :
    Latched n cause (s.latchFault n cause sub src) := by
  have state := (s.report src 2 cause n sub 0).axState_enter n (st := 6) (by decide)
  unfold State.latchFault
  refine ⟨?_, ?_, ?_⟩
  · rw [State.axState, State.onAxis, State.get_onAxes, State.get_mark_apart _ _ rfl, State.get_put_apart _ _ rfl, State.get_put_apart _ _ rfl]
    exact state
  · rw [State.onAxis, State.get_onAxes, State.get_mark_apart _ _ rfl, State.get_put_apart _ _ rfl, State.get_put_fits _ _ _ rfl]
    exact Nat.mod_eq_of_lt hc
  · rw [State.onAxis, State.get_onAxes, State.get_mark_apart _ _ rfl, State.get_put_fits _ _ _ rfl]
    rfl

/-- The quiet words but for the status of the axis are none that a latched fault writes. -/
theorem Quiet.rd_latchFault (ha : Quiet a) (hn : a ≠ PRF_AXST n) (cause sub src : Nat) : (s.latchFault n cause sub src).rd a = s.rd a := by
  unfold State.latchFault
  rw [State.onAxis, State.rd_onAxes, State.mark, State.rd_put_ne _ _ _ hn, State.rd_put_ne _ _ _ hn, State.rd_put_ne _ _ _ hn,
    ha.rd_enter hn, ha.rd_report]

/-- Before the slaves, a fault tells a Darner and the trigger groups alone. -/
theorem State.spreadFault_eq (s : State) (n : Nat) : ∃ t p, Keeps [.reg .acq, .acq, .reg .eng, .drn] s t ∧ s.spreadFault n = t.masterLost p := by
  unfold State.spreadFault
  dsimp only
  refine ⟨_, _, ?_, rfl⟩
  exact State.acqSource_keeps (keeps_ite (fun _ => State.emptyDarner_keeps (Keeps.refl _ s) (by decide)) fun _ => Keeps.refl _ s)
    (by decide)

theorem State.spreadFault_statusDrift (s : State) (n k : Nat) : StatusDrift k s (s.spreadFault n) := by
  obtain ⟨t, p, keeps, eq⟩ := s.spreadFault_eq n
  rw [eq]
  exact (keeps.statusDrift (by decide) k).trans (t.masterLost_statusDrift p k)

/-- Among the quiet words those that are no status of an axis stay while a fault is told. -/
theorem Quiet.rd_spreadFault (ha : Quiet a) (hn : a / 0x10000 ≠ 0x1201) (m : Nat) : (s.spreadFault m).rd a = s.rd a := by
  have emptied : (if m < 32 ∧ bit (s.axU m 0x300 1) 1 then s.emptyDarner m else s).rd a = s.rd a := by
    split
    · rw [State.emptyDarner, State.mark, ha.rd_put (not_quiet_ENG_DST m), ha.rd_put (not_quiet_ENG_DST m)]
      rfl
    · rfl
  unfold State.spreadFault
  dsimp only
  rw [ha.rd_masterLost hn]
  exact ((State.acqSource_keeps (Keeps.refl [.reg .acq, .acq] _) (by decide)).rd_quiet ha (by decide)).trans emptied

/-- R124: a fault of an axis in FAULT is reported and counted; a lower cause of the same period takes the place of the latched one, and
may bring reaction 0x0. -/
theorem State.faultWith_inFault (s : State) {n : Nat} (cause sub src code : Nat) (defer : Bool) (h : s.axState n = 6) :
    ∃ t, t = (s.report src 2 cause n sub 0).satBump (PRF_AXST_FCNT n) 1 ∧ (s.faultWith n cause sub src code defer = t ∨
      cause < t.get (PRF_AXST_CAUSE n) ∧ ∃ w, (w = t.put (PRF_AXST_CAUSE n) cause ∨ w = (t.put (PRF_AXST_CAUSE n) cause).put (PRF_AXST_REACT n) 0) ∧
        (s.faultWith n cause sub src code defer = w ∨ defer = false ∧ s.faultWith n cause sub src code defer = w.torqueOff n code)) := by
  refine ⟨_, rfl, ?_⟩
  unfold State.faultWith
  rw [if_neg (by omega), if_pos h]
  dsimp only
  split
  next lower =>
    refine .inr ⟨lower.2, ?_⟩
    split
    · cases defer with
      | true => exact ⟨_, .inr rfl, .inl rfl⟩
      | false => exact ⟨_, .inr rfl, .inr ⟨rfl, rfl⟩⟩
    · exact ⟨_, .inl rfl, .inl rfl⟩
  next => exact .inl rfl

/-- A fault changes nothing of an axis that is neither enabled nor in FAULT. -/
theorem State.faultWith_idle (s : State) {n : Nat} (cause sub src code : Nat) (defer : Bool) (live : ¬(1 ≤ s.axState n ∧ s.axState n ≤ 5))
    (h : s.axState n ≠ 6) : s.faultWith n cause sub src code defer = s := by
  rw [State.faultWith, if_neg live, if_neg h]

/-- How a fault begins: among the quiet words it writes the status of its axis alone, it changes no PWM, and no count of boundaries to a
deferred reaction. -/
structure FaultBegins (n : Nat) (s t : State) : Prop where
  words : ∀ a, Quiet a → a ≠ PRF_AXST n → t.rd a = s.rd a
  keeps : Keeps [.reg .prf, .reg .eng, .reg .knl, .reg .err, .log, .knl, .axes] s t
  wdogIn : (t.axis n).wdogIn = (s.axis n).wdogIn

theorem State.latchFault_begins (s : State) (n cause sub src : Nat) : FaultBegins n s (s.latchFault n cause sub src) := by
  set t := (((((s.report src 2 cause n sub 0).enter n 6).put (PRF_AXST_CAUSE n) cause).put (PRF_AXST_REACT n) 0).mark (PRF_AXST_STOPTO n)
    false) with shown
  have keeps : Keeps [.reg .prf, .reg .eng, .reg .knl, .reg .err, .log, .knl] s t := by
    refine State.mark_keeps (PRF_AXST_STOPTO_blk n) (State.put_keeps (PRF_AXST_REACT_blk n) (State.put_keeps (PRF_AXST_CAUSE_blk n) ?_
      (by decide)) (by decide)) (by decide)
    exact State.enter_keeps (State.report_keeps (Keeps.refl _ s) (by decide)) (by decide)
  have axes : t.axes = s.axes := keeps.same .axes (by decide)
  refine ⟨fun a quiet hn => quiet.rd_latchFault hn cause sub src, State.onAxis_keeps (keeps.mono (by decide)) (by decide), ?_⟩
  unfold State.latchFault
  dsimp only
  rw [← shown, State.axis_onAxis_same, State.axis, axes]
  rfl

/-- What a fault does: it begins, and then tells the slaves, or brings reaction 0x0, or both. -/
theorem State.faultWith_cases (s : State) (n : Nat) {cause : Nat} (sub src code : Nat) (defer : Bool) (hc : cause ≤ 7) :
    ∃ w, FaultBegins n s w ∧ (s.faultWith n cause sub src code defer = w ∨
        s.faultWith n cause sub src code defer = w.spreadFault n ∨
        defer = false ∧ (s.faultWith n cause sub src code defer = w.torqueOff n code ∨
          s.faultWith n cause sub src code defer = (w.spreadFault n).torqueOff n code)) := by
  by_cases live : 1 ≤ s.axState n ∧ s.axState n ≤ 5
  · refine ⟨s.latchFault n cause sub src, s.latchFault_begins n cause sub src, ?_⟩
    rw [s.faultWith_live sub src code defer live hc]
    cases defer with
    | true => exact .inr (.inl rfl)
    | false => exact .inr (.inr ⟨rfl, .inr rfl⟩)
  · by_cases fault : s.axState n = 6
    · obtain ⟨t, eq, h⟩ := s.faultWith_inFault cause sub src code defer fault
      have put {t : State} {f : Fld} (hf : f.addr = PRF_AXST n) (v : Nat) (h : FaultBegins n s t) : FaultBegins n s (t.put f v) :=
        ⟨fun a quiet hn => (State.rd_put_ne t f v (hf ▸ hn)).trans (h.words a quiet hn),
          State.put_keeps (hf ▸ PRF_AXST_blk n) h.keeps (by decide), h.wdogIn⟩
      have reported : FaultBegins n s (s.report src 2 cause n sub 0) := by
        have keeps : Keeps [.reg .err, .log] s (s.report src 2 cause n sub 0) := State.report_keeps (Keeps.refl _ s) (by decide)
        refine ⟨fun a quiet _ => quiet.rd_report src 2 cause n sub 0, keeps.mono (by decide), ?_⟩
        rw [State.axis, show (s.report src 2 cause n sub 0).axes = s.axes from keeps.same .axes (by decide)]
        rfl
      have counted : FaultBegins n s t := eq ▸ put rfl _ reported
      rcases h with eq | ⟨-, w, replaced, eq⟩
      · exact ⟨t, counted, .inl eq⟩
      · refine ⟨w, ?_, eq.imp_right fun ⟨now, eq⟩ => .inr ⟨now, .inl eq⟩⟩
        rcases replaced with rfl | rfl
        · exact put rfl _ counted
        · exact put rfl _ (put rfl _ counted)
    · exact ⟨s, ⟨fun _ _ _ => rfl, Keeps.refl _ s, rfl⟩, .inl (s.faultWith_idle cause sub src code defer live fault)⟩

/-- A fault writes no word of the error block but the report counters. -/
theorem State.rd_faultWith_err (s : State) (n : Nat) {cause : Nat} (sub src code : Nat) (defer : Bool) (hc : cause ≤ 7)
    (ha : a / 0x1000000 = 0x1F) (quiet : Quiet a) : (s.faultWith n cause sub src code defer).rd a = s.rd a := by
  have spread (t : State) : (t.spreadFault n).rd a = t.rd a := quiet.rd_spreadFault (by omega) n
  obtain ⟨w, begins, h⟩ := s.faultWith_cases n sub src code defer hc
  have same := begins.words a quiet (by simp only [PRF_AXST]; omega)
  rcases h with eq | eq | ⟨-, eq | eq⟩ <;> rw [eq]
  · exact same
  · rw [spread, same]
  · rw [w.rd_torqueOff_err n code ha, same]
  · rw [State.rd_torqueOff_err _ n code ha, spread, same]

/-- A fault of another axis: the status of axis `k` drifts at most. -/
theorem State.faultWith_statusDrift (s : State) {n k : Nat} (hk : PRF_AXST k ≠ PRF_AXST n) {cause : Nat} (sub src code : Nat) (defer : Bool)
    (hc : cause ≤ 7) : StatusDrift k s (s.faultWith n cause sub src code defer) := by
  obtain ⟨w, begins, h⟩ := s.faultWith_cases n sub src code defer hc
  have same : StatusDrift k s w := .of_rd (begins.words _ (quiet_PRF_AXST k) hk)
  have spread := same.trans (w.spreadFault_statusDrift n k)
  rcases h with eq | eq | ⟨-, eq | eq⟩ <;> rw [eq]
  · exact same
  · exact spread
  · exact same.trans (w.torqueOff_statusDrift n code k)
  · exact spread.trans (State.torqueOff_statusDrift _ n code k)

/-- A fault of an enabled axis latches its cause with reaction 0x0. -/
theorem State.faultWith_latches (s : State) {n cause : Nat} (sub src code : Nat) (defer : Bool) (live : 1 ≤ s.axState n ∧ s.axState n ≤ 5)
    (hc : cause ≤ 7) : Latched n cause (s.faultWith n cause sub src code defer) := by
  have spread := (s.latchFault_latched n (by omega : cause < 64) sub src).drift (State.spreadFault_statusDrift _ n n)
  rw [s.faultWith_live sub src code defer live hc]
  split
  · exact spread
  · exact spread.drift (State.torqueOff_statusDrift _ n code n)

/-- An axis in FAULT stays there through a fault of its own, and keeps a cause as low as the new one. -/
theorem State.faultWith_staysLatched (s : State) {n : Nat} (cause sub src code : Nat) (defer : Bool) (h : s.axState n = 6) :
    (s.faultWith n cause sub src code defer).axState n = 6 ∧
      (Latched n cause s → Latched n cause (s.faultWith n cause sub src code defer)) := by
  obtain ⟨t, counted, cases⟩ := s.faultWith_inFault cause sub src code defer h
  have drift : StatusDrift n s t := by
    have reported := (quiet_PRF_AXST n).rd_report (s := s) src 2 cause n sub 0
    have field {f : Fld} (hf : f.addr = PRF_AXST n) (apart : fldApart (PRF_AXST_FCNT n) f = true) : t.get f = s.get f := by
      rw [counted, State.satBump, State.get_put_apart _ _ apart, State.get, State.get, hf, reported]
    exact ⟨.inl (field rfl rfl), field rfl rfl, field rfl rfl⟩
  have state : t.axState n = 6 := by
    have := drift.state
    omega
  rcases cases with eq | ⟨lower, w, replaced, eq⟩
  · rw [eq]
    exact ⟨state, fun latched => latched.drift drift⟩
  · have kept : w.axState n = 6 := by
      rcases replaced with rfl | rfl
      · rw [State.axState, State.get_put_apart _ _ rfl]
        exact state
      · rw [State.axState, State.get_put_apart _ _ rfl, State.get_put_apart _ _ rfl]
        exact state
    refine ⟨?_, fun latched => absurd ((latched.drift drift).cause ▸ lower) (lt_irrefl _)⟩
    rcases eq with eq | ⟨-, eq⟩ <;> rw [eq]
    · exact kept
    · have := (w.torqueOff_statusDrift n code n).state
      omega

end Sys2Proof.Machine
end

section
/-! PROOFS. The end of the conservation guarantee (R31, R32, R34, R48, R498). -/

namespace Sys2Proof.Machine

/-! ### The axes that are faulted together -/

/-- R31: the faults of the axes `l` by the end of the guarantee. -/
def State.guardFaults (l : List Nat) (cause isl : Nat) (s : State) : State := l.foldl (fun s n => s.fault n 0x01 cause isl) s

theorem State.guardFaults_cons (n : Nat) (l : List Nat) (cause isl : Nat) (s : State) :
    s.guardFaults (n :: l) cause isl = (s.faultWith n 1 cause isl (faultSafe 1) false).guardFaults l cause isl := rfl

theorem PRF_AXST_injective {k n : Nat} (hk : k < 256) (hn : n < 256) (h : PRF_AXST k = PRF_AXST n) : k = n := by
  simp only [PRF_AXST] at h
  omega

/-- An axis in FAULT is in FAULT after them. -/
theorem State.guardFaults_inFault {l : List Nat} (hl : ∀ n ∈ l, n < 256) {k : Nat} (hk : k < 256) (cause isl : Nat) {s : State}
    (h : s.axState k = 6) : (s.guardFaults l cause isl).axState k = 6 := by
  induction l generalizing s with
  | nil => exact h
  | cons n l ih =>
    rw [State.guardFaults_cons]
    refine ih (fun m hm => hl m (List.mem_cons_of_mem n hm)) ?_
    by_cases same : k = n
    · subst same
      exact (s.faultWith_staysLatched 1 cause isl (faultSafe 1) false h).1
    · have apart : PRF_AXST k ≠ PRF_AXST n := fun e => same (PRF_AXST_injective hk (hl n List.mem_cons_self) e)
      have := (s.faultWith_statusDrift apart cause isl (faultSafe 1) false (by decide : 1 ≤ 7)).state
      omega

/-- An axis that was enabled with its fault still to come, or has latched cause 0x01, has latched it after them. -/
theorem State.guardFaults_latched {l : List Nat} (hl : ∀ n ∈ l, n < 256) {k : Nat} (hk : k < 256) (cause isl : Nat) {s : State}
    (h : (k ∈ l ∧ 1 ≤ s.axState k ∧ s.axState k ≤ 5) ∨ Latched k 1 s) : Latched k 1 (s.guardFaults l cause isl) := by
  induction l generalizing s with
  | nil => simpa [State.guardFaults] using h
  | cons n l ih =>
    rw [State.guardFaults_cons]
    refine ih (fun m hm => hl m (List.mem_cons_of_mem n hm)) ?_
    by_cases same : k = n
    · subst same
      rcases h with ⟨-, live⟩ | latched
      · exact .inr (s.faultWith_latches cause isl (faultSafe 1) false live (by decide))
      · exact .inr ((s.faultWith_staysLatched 1 cause isl (faultSafe 1) false latched.state).2 latched)
    · have apart : PRF_AXST k ≠ PRF_AXST n := fun e => same (PRF_AXST_injective hk (hl n List.mem_cons_self) e)
      have drift := s.faultWith_statusDrift apart cause isl (faultSafe 1) false (by decide : 1 ≤ 7)
      rcases h with ⟨waits, live⟩ | latched
      · refine .inl ⟨(List.mem_cons.mp waits).resolve_left same, ?_⟩
        have := drift.state
        omega
      · exact .inr (latched.drift drift)

/-- They write no word of the error block but the report counters. -/
theorem State.rd_guardFaults (l : List Nat) (cause isl : Nat) (s : State) {a : Nat} (ha : a / 0x1000000 = 0x1F) (quiet : Quiet a) :
    (s.guardFaults l cause isl).rd a = s.rd a := by
  induction l generalizing s with
  | nil => rfl
  | cons n l ih => exact (ih _).trans (s.rd_faultWith_err n cause isl _ false (by decide) ha quiet)

/-! ### The record of the first cause -/

/-- R31, R34: is `cause` recorded: does the guarantee still hold, or did it end at this instant with a higher cause? -/
def State.recordsCause (s : State) (cause : Nat) : Bool :=
  s.flag ERR_GUARD_HELD || (!s.flag ERR_GUARD_HELD && s.pow.guardAt == some s.clk.elapsed && decide (cause < s.get ERR_GUARD_CAUSE))

theorem State.recordsCause_iff (s : State) (cause : Nat) : s.recordsCause cause = true ↔
    s.get ERR_GUARD_HELD = 1 ∨ (s.pow.guardAt = some s.clk.elapsed ∧ cause < s.get ERR_GUARD_CAUSE) := by
  simp only [State.recordsCause, State.flag, Bool.or_eq_true, Bool.and_eq_true, Bool.not_eq_true', beq_iff_eq, decide_eq_true_eq,
    beq_eq_false_iff_ne]
  tauto

/-- R31, R34: HELD, the cause, its island and its T32 stamp. -/
def State.recordGuard (cause isl : Nat) (s : State) : State :=
  if s.recordsCause cause then
    (((((s.mark ERR_GUARD_HELD false).put ERR_GUARD_CAUSE cause).put ERR_GUARD_ISLAND_HI (isl / 16)).put
      ERR_GUARD_ISL_ISL isl).wr ERR_GUARD_T s.t32).onPow fun p => { p with guardAt := some s.clk.elapsed }
  else s

theorem State.guardEnd_eq (s : State) (cause isl : Nat) : s.guardEnd cause isl =
    ((s.recordGuard cause isl).severe isl cause ERR_GUARD).guardFaults
      (below 256 fun n => ((s.recordGuard cause isl).severe isl cause ERR_GUARD).enabled n) cause isl := rfl

theorem State.recordGuard_keeps (s : State) (cause isl : Nat) : Keeps [.reg .err, .pow] s (s.recordGuard cause isl) := by
  unfold State.recordGuard
  refine keeps_ite (fun _ => ?_) fun _ => Keeps.refl _ s
  refine State.onPow_keeps (State.wr_keeps ERR_GUARD_T_blk (State.put_keeps ERR_GUARD_ISL_ISL_blk ?_ (by decide)) (by decide)) (by decide)
  exact State.put_keeps ERR_GUARD_ISLAND_HI_blk (State.put_keeps ERR_GUARD_CAUSE_blk
    (State.mark_keeps ERR_GUARD_HELD_blk (Keeps.refl _ s) (by decide)) (by decide)) (by decide)

/-- The record leaves the words of the error block but for its own three alone. -/
theorem State.rd_recordGuard (s : State) (cause isl : Nat) {a : Nat} (ha : a ∉ [ERR_GUARD, ERR_GUARD_ISL, ERR_GUARD_T]) :
    (s.recordGuard cause isl).rd a = s.rd a := by
  simp only [List.mem_cons, List.not_mem_nil, or_false, not_or] at ha
  obtain ⟨guard, island, stamp⟩ := ha
  unfold State.recordGuard
  split
  · rw [State.rd_onPow, State.rd_wr_ne _ _ stamp, State.rd_put_ne _ _ _ island, State.rd_put_ne _ _ _ guard, State.rd_put_ne _ _ _ guard,
      State.mark, State.rd_put_ne _ _ _ guard]
  · rfl

/-- What the record shows: the new cause with its island and stamp, or what it showed before; HELD is 0. -/
structure GuardRecord (cause isl : Nat) (s u : State) : Prop where
  held : u.get ERR_GUARD_HELD = 0
  record : if s.get ERR_GUARD_HELD = 1 ∨ (s.pow.guardAt = some s.clk.elapsed ∧ cause < s.get ERR_GUARD_CAUSE) then
      u.get ERR_GUARD_CAUSE = cause ∧ u.get ERR_GUARD_ISL_ISL = isl ∧ u.get ERR_GUARD_ISLAND_HI = isl / 16 ∧ u.rd ERR_GUARD_T = s.t32
    else u.rd ERR_GUARD = s.rd ERR_GUARD ∧ u.rd ERR_GUARD_ISL = s.rd ERR_GUARD_ISL ∧ u.rd ERR_GUARD_T = s.rd ERR_GUARD_T

theorem GuardRecord.congr {cause isl : Nat} {s u v : State} (h : GuardRecord cause isl s u) (guard : v.rd ERR_GUARD = u.rd ERR_GUARD)
    (island : v.rd ERR_GUARD_ISL = u.rd ERR_GUARD_ISL) (stamp : v.rd ERR_GUARD_T = u.rd ERR_GUARD_T) : GuardRecord cause isl s v := by
  have field {f : Fld} (hf : v.rd f.addr = u.rd f.addr) : v.get f = u.get f := by rw [State.get, State.get, hf]
  obtain ⟨held, record⟩ := h
  refine ⟨(field (f := ERR_GUARD_HELD) guard).trans held, ?_⟩
  rw [field (f := ERR_GUARD_CAUSE) guard, field (f := ERR_GUARD_ISL_ISL) island, field (f := ERR_GUARD_ISLAND_HI) guard, guard, island, stamp]
  exact record

theorem State.recordGuard_record (s : State) {cause isl : Nat} (hc : cause < 16) (hi : isl < 32) :
    GuardRecord cause isl s (s.recordGuard cause isl) := by
  by_cases records : s.recordsCause cause = true
  · have stamped (t : State) (f) : ((t.wr ERR_GUARD_T s.t32).onPow f).rd ERR_GUARD_T = s.t32 := by
      rw [State.rd_onPow, State.rd_wr_same]
      exact Nat.mod_mod _ _
    have field (t : State) (f) {g : Fld} (hg : g.addr ≠ ERR_GUARD_T) : ((t.wr ERR_GUARD_T s.t32).onPow f).get g = t.get g := by
      rw [State.get_onPow, State.get_wr_ne _ _ _ hg]
    unfold State.recordGuard
    rw [if_pos records]
    refine ⟨?_, (if_pos ((s.recordsCause_iff cause).mp records)).mpr ⟨?_, ?_, ?_, stamped _ _⟩⟩
    · rw [field _ _ (by decide), State.get_put_ne _ _ _ _ (by decide), State.get_put_apart _ _ rfl, State.get_put_apart _ _ rfl,
        State.get_mark_fits _ _ _ rfl rfl]
      rfl
    · rw [field _ _ (by decide), State.get_put_ne _ _ _ _ (by decide), State.get_put_apart _ _ rfl, State.get_put_fits _ _ _ rfl]
      exact Nat.mod_eq_of_lt hc
    · rw [field _ _ (by decide), State.get_put_fits _ _ _ rfl]
      exact Nat.mod_eq_of_lt hi
    · rw [field _ _ (by decide), State.get_put_ne _ _ _ _ (by decide), State.get_put_fits _ _ _ rfl]
      exact Nat.mod_eq_of_lt (show isl / 16 < 2 ^ 4 by omega)
  · have ended : ¬(s.get ERR_GUARD_HELD = 1 ∨ (s.pow.guardAt = some s.clk.elapsed ∧ cause < s.get ERR_GUARD_CAUSE)) :=
      fun h => records ((s.recordsCause_iff cause).mpr h)
    have one : s.get ERR_GUARD_HELD < 2 := s.get_lt ERR_GUARD_HELD
    unfold State.recordGuard
    rw [if_neg records]
    exact ⟨by omega, (if_neg ended).mpr ⟨rfl, rfl, rfl⟩⟩

theorem quiet_ERR_GUARD : Quiet ERR_GUARD := by simp [Quiet, ERR_GUARD]
theorem quiet_ERR_GUARD_ISL : Quiet ERR_GUARD_ISL := by simp [Quiet, ERR_GUARD_ISL]
theorem quiet_ERR_GUARD_T : Quiet ERR_GUARD_T := by simp [Quiet, ERR_GUARD_T]

/-- After the record, the end of the guarantee writes the report counters alone in the error block. -/
theorem State.rd_guardEnd (s : State) (cause isl : Nat) {a : Nat} (ha : a / 0x1000000 = 0x1F) (quiet : Quiet a) :
    (s.guardEnd cause isl).rd a = (s.recordGuard cause isl).rd a := by
  rw [State.guardEnd_eq, State.rd_guardFaults _ _ _ _ ha quiet]
  exact quiet.rd_report isl 4 cause ERR_GUARD _ 0

/-- What the end of the guarantee by `cause` in island `isl` does to a state. -/
structure GuardEnded (cause isl : Nat) (s u : State) : Prop extends GuardRecord cause isl s u where
  inFault : ∀ n : Fin 256, s.enabled n = true → u.axState n = 6
  latched : ∀ n : Fin 256, 1 ≤ s.axState n → s.axState n ≤ 5 →
    u.get (PRF_AXST_CAUSE n) = 1 ∧ u.get (PRF_AXST_REACT n) = 0 ∧ u.enabled n = false
  presented : (∀ n : Fin 256, s.enabled n = false) → u.rd (ERR_PRES isl) = (s.rd (ERR_PRES isl) + 1) % 2 ^ 32

/-- A counter that is a whole word wraps at 2^32. -/
theorem State.rd_bump_whole (s : State) (a : Nat) : (s.bump (whole a)).rd a = (s.rd a + 1) % 2 ^ 32 := by
  refine (State.rd_wr_same s a _).trans ?_
  simp only [whole, State.get, fldOf, fldPut]
  omega

/-- A report counts one more presented by its source. -/
theorem State.rd_report_ERR_PRES (s : State) (src cls detail a0 a1 a2 : Nat) :
    (s.report src cls detail a0 a1 a2).rd (ERR_PRES src) = (s.rd (ERR_PRES src) + 1) % 2 ^ 32 := by
  have counted := s.rd_bump_whole (ERR_PRES src)
  have lost {t : State} {f : Fld} (hf : f.addr = ERR_LOST src) (v : Nat) : (t.put f v).rd (ERR_PRES src) = t.rd (ERR_PRES src) :=
    State.rd_put_ne t f v (hf ▸ by simp only [ERR_PRES, ERR_LOST]; omega)
  have total (t : State) (v : Nat) : (t.put (whole (ERR_LTOT src)) v).rd (ERR_PRES src) = t.rd (ERR_PRES src) :=
    State.rd_put_ne t _ v (by simp only [whole, ERR_PRES, ERR_LTOT]; omega)
  unfold State.report
  dsimp only
  split
  · rw [State.mark, lost rfl, State.satBump, lost rfl, State.bump, total, counted]
  · rw [State.rd_onLog, lost rfl, State.mark, lost rfl, counted]

/-- Whether an axis is enabled is told by the block PRF and by what the axis holds. -/
theorem Keeps.enabled {m : List Part} {s t : State} (h : Keeps m s t) (hr : Part.reg .prf ∉ m) (ha : Part.axes ∉ m) (n : Nat) :
    t.enabled n = s.enabled n := by
  have axes : t.axes = s.axes := h.same .axes ha
  rw [State.enabled, State.enabled, State.rampFault, State.rampFault, State.axState, State.axState, State.flag, State.flag, State.axis,
    State.axis, axes, h.get hr (PRF_AXST_STATE_blk n), h.get hr (PRF_AXST_REACT_blk n), h.get hr (PRF_AXST_STOPTO_blk n)]

/-- An axis is enabled in the states 0x1 to 0x5, and in FAULT while a reaction holds torque. -/
theorem State.enabled_cases {s : State} {n : Nat} (h : s.enabled n = true) : (1 ≤ s.axState n ∧ s.axState n ≤ 5) ∨ s.axState n = 6 := by
  simp only [State.enabled, State.rampFault, Bool.or_eq_true, Bool.and_eq_true, decide_eq_true_eq, beq_iff_eq] at h
  tauto

theorem State.guardEnd_ended (s : State) {cause isl : Nat} (hc : cause < 16) (hi : isl < 32) :
    GuardEnded cause isl s (s.guardEnd cause isl) := by
  have record := s.recordGuard_record hc hi
  set t := (s.recordGuard cause isl).severe isl cause ERR_GUARD with told
  have keeps : Keeps [.reg .err, .pow, .log] s t := State.severe_keeps ((s.recordGuard_keeps cause isl).mono (by decide)) (by decide)
  have same (n : Nat) : t.enabled n = s.enabled n := keeps.enabled (by decide) (by decide) n
  have state (n : Nat) : t.axState n = s.axState n := keeps.get (by decide) (PRF_AXST_STATE_blk n)
  have faulted : s.guardEnd cause isl = t.guardFaults (below 256 fun n => t.enabled n) cause isl := rfl
  have small : ∀ n ∈ below 256 fun n => t.enabled n, n < 256 := fun n hn => List.mem_range.mp (List.mem_filter.mp hn).1
  have listed (n : Fin 256) (h : s.enabled n = true) : n.val ∈ below 256 fun n => t.enabled n :=
    List.mem_filter.mpr ⟨List.mem_range.mpr n.isLt, (same n).trans h⟩
  have live (n : Fin 256) (lo : 1 ≤ s.axState n) (hi : s.axState n ≤ 5) : Latched n 1 (s.guardEnd cause isl) := by
    have on : s.enabled n = true := by simp [State.enabled, lo, hi]
    rw [faulted]
    exact State.guardFaults_latched small n.isLt cause isl (.inl ⟨listed n on, by rw [state]; exact ⟨lo, hi⟩⟩)
  refine { toGuardRecord := ?_, inFault := fun n on => ?_, latched := fun n lo hi => ?_, presented := fun none => ?_ }
  · exact record.congr (s.rd_guardEnd cause isl (by decide) quiet_ERR_GUARD) (s.rd_guardEnd cause isl (by decide) quiet_ERR_GUARD_ISL)
      (s.rd_guardEnd cause isl (by decide) quiet_ERR_GUARD_T)
  · rcases State.enabled_cases on with ⟨lo, hi⟩ | fault
    · exact (live n lo hi).state
    · rw [faulted]
      exact State.guardFaults_inFault small n.isLt cause isl ((state n).trans fault)
  · have h := live n lo hi
    exact ⟨h.cause, h.react, h.enabled⟩
  · have nothing : (below 256 fun n => t.enabled n) = [] :=
      List.filter_eq_nil_iff.mpr fun n hn => by simp [same, none ⟨n, List.mem_range.mp hn⟩]
    have counter : ERR_PRES isl ∉ [ERR_GUARD, ERR_GUARD_ISL, ERR_GUARD_T] := by
      simp only [ERR_PRES, ERR_GUARD, ERR_GUARD_ISL, ERR_GUARD_T, List.mem_cons, List.not_mem_nil, or_false]
      omega
    rw [faulted, nothing, ← s.rd_recordGuard cause isl counter]
    exact State.rd_report_ERR_PRES _ isl 4 cause ERR_GUARD _ 0

/-- The end of the guarantee by a monitor that has shown what it measured: `t` differs from `s` in words of the power registers. -/
theorem State.guardEnd_ended_of_shown {s t : State} (keeps : Keeps [.reg .err, .sets] s t)
    (words : ∀ a, a / 0x1000000 = 0x1F → a < 0x1F100000 → t.rd a = s.rd a) {cause isl : Nat} (hc : cause < 16) (hi : isl < 32) :
    GuardEnded cause isl s (t.guardEnd cause isl) := by
  have field {f : Fld} (hf : f.addr = ERR_GUARD) : t.get f = s.get f := by
    rw [State.get, State.get, hf, words _ (by decide) (by decide)]
  have pow : t.pow = s.pow := keeps.same .pow (by decide)
  have clk : t.clk = s.clk := keeps.same .clk (by decide)
  have stamp : t.t32 = s.t32 := by rw [State.t32, State.now, clk]; rfl
  have state (n : Nat) : t.axState n = s.axState n := keeps.get (by decide) (PRF_AXST_STATE_blk n)
  have enabled (n : Nat) : t.enabled n = s.enabled n := keeps.enabled (by decide) (by decide) n
  obtain ⟨⟨held, record⟩, inFault, latched, presented⟩ := t.guardEnd_ended hc hi
  refine { held := held, record := ?_, inFault := fun n on => inFault n ((enabled n).trans on), latched := fun n lo hi => ?_,
           presented := fun none => ?_ }
  · rw [field (f := ERR_GUARD_HELD) rfl, field (f := ERR_GUARD_CAUSE) rfl, pow, clk, stamp, words ERR_GUARD (by decide) (by decide),
      words ERR_GUARD_ISL (by decide) (by decide), words ERR_GUARD_T (by decide) (by decide)] at record
    exact record
  · exact latched n (by rwa [state]) (by rwa [state])
  · rw [presented fun n => (enabled n).trans (none n), words (ERR_PRES isl) (ERR_PRES_blk isl).1 (by simp only [ERR_PRES]; omega)]

/-- The power registers keep what a monitor has shown. -/
theorem State.rd_guardEnd_power (s : State) (cause isl : Nat) {a : Nat} (ha : a / 0x1000000 = 0x1F) (hp : 0x1F100000 ≤ a) :
    (s.guardEnd cause isl).rd a = s.rd a := by
  rw [s.rd_guardEnd cause isl ha (.inr (.inl ⟨ha, .inr (by omega)⟩)), s.rd_recordGuard cause isl]
  simp only [ERR_GUARD, ERR_GUARD_ISL, ERR_GUARD_T, List.mem_cons, List.not_mem_nil, or_false]
  omega

end Sys2Proof.Machine
end

section
/-! PROOFS. A supply below the supervisor's limits (R48, R49), and what the monitors of R498 show and end. -/

namespace Sys2Proof.Machine

/-! ### The part goes into reset (R44, R48) -/

theorem State.rd_lt (s : State) (a : Nat) : s.rd a < 2 ^ 32 := by
  unfold State.rd
  split
  · exact BitVec.isLt _
  · exact resetWord_lt a

/-- Neither what the log takes nor what it persists counts a start. -/
theorem State.rd_ERR_BOOT_takeFrom (s : State) (i : Nat) : (s.takeFrom i).rd ERR_BOOT = s.rd ERR_BOOT := by
  have other {t : State} {f : Fld} {v : Nat} (hf : ERR_BOOT ≠ f.addr) : (t.put f v).rd ERR_BOOT = t.rd ERR_BOOT := State.rd_put_ne t f v hf
  have source (w : Nat) (h : w = ERR_LOGD i ∨ w = ERR_LOST i) : ERR_BOOT ≠ w := by
    rcases h with rfl | rfl
    · simp only [ERR_BOOT, ERR_LOGD]; omega
    · simp only [ERR_BOOT, ERR_LOST]; omega
  have shown (t : State) : t.showRing.rd ERR_BOOT = t.rd ERR_BOOT := by
    rw [State.showRing, State.rd_wr_ne _ _ (by decide), other (by decide)]
  have event (t : State) : (t.event 0x55).rd ERR_BOOT = t.rd ERR_BOOT :=
    (State.event_keeps (Keeps.refl [.reg .knl, .knl] t) (by decide)).rd (b := .err) (by decide) (by decide)
  unfold State.takeFrom
  split
  · rfl
  · dsimp only
    split
    · rw [event, shown, other (source _ (.inr rfl)), State.bump, other (source _ (.inl rfl)), State.bump, other (by decide), State.rd_onLog]
    · rw [shown, other (source _ (.inr rfl)), State.bump, other (source _ (.inl rfl)), State.bump, other (by decide), State.rd_onLog]

theorem State.rd_ERR_BOOT_persistOne (s : State) : s.persistOne.rd ERR_BOOT = s.rd ERR_BOOT := by
  unfold State.persistOne
  split
  · rfl
  · exact State.rd_put_ne _ _ _ (by decide)

/-- What an operation leaves alone, a fold of it does too. -/
theorem rd_foldl {α : Type} {f : State → α → State} {a : Nat} (h : ∀ s x, (f s x).rd a = s.rd a) (l : List α) (s : State) :
    (l.foldl f s).rd a = s.rd a := by
  induction l generalizing s with
  | nil => rfl
  | cons x l ih => exact (ih _).trans (h s x)

theorem State.rd_ERR_BOOT_lastPersist (s : State) : s.lastPersist.rd ERR_BOOT = s.rd ERR_BOOT := by
  unfold State.lastPersist
  dsimp only
  split
  · rfl
  · exact rd_foldl (fun t _ => t.rd_ERR_BOOT_persistOne) _ _

/-- Reset keeps of the loader what R44 names, and the count of starts; the registers show their reset values. -/
theorem State.enterReset_eq (s : State) : s.enterReset.boot = s.boot.kept ∧ s.enterReset.rd ERR_BOOT = s.rd ERR_BOOT ∧
    s.enterReset.get CFG_STATE_STATE = 0 ∧ s.enterReset.clk.running = false ∧ s.enterReset.bulk = [] := by
  have boot : s.lastPersist.boot = s.boot :=
    (State.lastPersist_keeps (Keeps.refl [.reg .err, .fresh, .log] s) (by decide)).same .boot (by decide)
  refine ⟨congrArg Boot.kept boot, ?_, ?_, rfl, rfl⟩
  · unfold State.enterReset
    dsimp only
    rw [State.showSlots, State.rd_put_ne _ _ _ (by decide), State.rd_wr_same, Nat.mod_eq_of_lt (State.rd_lt _ _), s.rd_ERR_BOOT_lastPersist]
  · unfold State.enterReset
    dsimp only
    rw [State.showSlots, State.get_put_ne _ _ _ _ (by decide), State.get_wr_ne _ _ _ (by decide)]
    exact (by decide : fldOf CFG_STATE_STATE (resetWord CFG_STATE) = 0)

/-- R49: during operation the guarantee ends before the reset, and the log may still take its severe record. -/
def State.endsOperation (s : State) : State :=
  if s.boot.started then
    let s := s.guardEnd 0x3 0x19
    let r := s.free 2 == 1
    let s := s.drew 1
    if r then (List.range 4).foldl (fun s _ => s.takeFrom 0x19) s else s
  else s

theorem State.supplyFault_low (s : State) (vin : VinLevel) (vio regs : Bool) (low : (vin == .ok && vio && regs) = false) :
    s.supplyFault vin vio regs =
      ((s.onBoot fun b => b.supplies vin vio regs s.clk.elapsed).endsOperation.onBoot fun b => { b with held := true }).enterReset := by
  have off : ¬(s.onBoot fun b => b.supplies vin vio regs s.clk.elapsed).boot.powerGood = true := by
    change ¬(vin == .ok && vio && regs) = true
    simp [low]
  rw [State.supplyFault]
  exact if_neg off

theorem State.boot_endsOperation (s : State) : s.endsOperation.boot = s.boot := by
  have ended := State.drew_keeps (k := 1) (State.guardEnd_keeps (cause := 3) (isl := 0x19)
    (Keeps.refl [.reg .prf, .reg .eng, .reg .csf, .reg .fbk, .reg .pwm, .reg .knl, .reg .que, .reg .acq, .reg .dio, .reg .err, .sets, .bulk,
      .log, .knl, .que, .pow, .axes, .prf, .pwm, .drn, .probes, .acq, .fresh] s) (by decide)) (by decide)
  refine Keeps.same (keeps_ite (fun _ => keeps_ite (fun _ => ?_) fun _ => ended) fun _ => Keeps.refl _ s) .boot (by decide)
  exact keeps_foldl (fun _ _ h => State.takeFrom_keeps h (by decide)) _ ended

theorem State.rd_ERR_BOOT_endsOperation (s : State) : s.endsOperation.rd ERR_BOOT = s.rd ERR_BOOT := by
  have ended : ((s.guardEnd 3 0x19).drew 1).rd ERR_BOOT = s.rd ERR_BOOT :=
    (s.rd_guardEnd 3 0x19 (by decide) (.inr (.inl ⟨by decide, .inl (by decide)⟩))).trans (s.rd_recordGuard 3 0x19 (by decide))
  unfold State.endsOperation
  dsimp only
  split
  · split
    · rw [rd_foldl fun t _ => t.rd_ERR_BOOT_takeFrom 0x19, ended]
    · exact ended
  · rfl

/-- What a part in reset shows: it is held, with the supplies `vin`, `vio` and `regs`, no memory and a clock that stands; the count of
starts is that of `s`. -/
structure InReset (vin : VinLevel) (vio regs : Bool) (s u : State) : Prop where
  held : u.boot.held = true
  powerGood : u.boot.powerGood = false
  started : u.boot.started = false
  state : u.get CFG_STATE_STATE = 0
  starts : u.rd ERR_BOOT = s.rd ERR_BOOT
  running : u.clk.running = false
  bulk : u.bulk = []
  vin : u.boot.vin = vin
  vio : u.boot.vio = vio
  regs : u.boot.regs = regs

/-- R48, R49: with a condition of the supervisor true the part is held in reset. -/
theorem State.supplyFault_inReset (s : State) {vin : VinLevel} {vio regs : Bool} (low : (vin == .ok && vio && regs) = false) :
    InReset vin vio regs s (s.supplyFault vin vio regs) := by
  rw [s.supplyFault_low vin vio regs low]
  set seen := s.onBoot fun b => b.supplies vin vio regs s.clk.elapsed
  obtain ⟨boot, starts, state, running, bulk⟩ := (seen.endsOperation.onBoot fun b => { b with held := true }).enterReset_eq
  rw [onBoot_boot, State.boot_endsOperation] at boot
  rw [State.rd_onBoot, State.rd_ERR_BOOT_endsOperation] at starts
  exact
    { held := by rw [boot]; rfl
      powerGood := by rw [boot]; exact low
      started := by rw [boot]; rfl
      state, starts, running, bulk
      vin := by rw [boot]; rfl
      vio := by rw [boot]; rfl
      regs := by rw [boot]; rfl }

/-! ### What a monitor shows (R498) -/

/-- R498: the supplies as measured. -/
def State.showSupplies (vin vioa viob regok : Nat) (s : State) : State :=
  (((s.put PWR_VIN_VIN vin).put PWR_VIO_VIOA vioa).put PWR_VIO_VIOB viob).put PWR_MON_REGOK regok

theorem State.supplySeen_eq (vin vioa viob regok : Nat) (s : State) : s.supplySeen vin vioa viob regok =
    if supervised vin vioa viob regok then
      ((s.showSupplies vin vioa viob regok).latch PWR_MON_SUPOUT).supplyFault (if vin < 9600 then .low else .ok)
        (decide (3000 ≤ vioa) && decide (3000 ≤ viob)) (regok == 0xFF)
    else if supplyOut vin vioa viob regok then ((s.showSupplies vin vioa viob regok).latch PWR_MON_SUPOUT).guardEnd 0x3 0x19
    else s.showSupplies vin vioa viob regok := rfl

/-- The words that show the supplies. -/
theorem State.rd_showSupplies (vin vioa viob regok : Nat) (s : State) {a : Nat} (ha : a ∉ [PWR_VIN, PWR_VIO, PWR_MON]) :
    (s.showSupplies vin vioa viob regok).rd a = s.rd a := by
  simp only [List.mem_cons, List.not_mem_nil, or_false, not_or] at ha
  obtain ⟨vin, vio, mon⟩ := ha
  rw [State.showSupplies, State.rd_put_ne _ _ _ mon, State.rd_put_ne _ _ _ vio, State.rd_put_ne _ _ _ vio, State.rd_put_ne _ _ _ vin]

theorem State.showSupplies_keeps (vin vioa viob regok : Nat) (s : State) : Keeps [.reg .err] s (s.showSupplies vin vioa viob regok) :=
  State.put_keeps PWR_MON_REGOK_blk (State.put_keeps PWR_VIO_VIOB_blk (State.put_keeps PWR_VIO_VIOA_blk
    (State.put_keeps PWR_VIN_VIN_blk (Keeps.refl _ s) (by decide)) (by decide)) (by decide)) (by decide)

theorem State.rd_PWR_VIN_mod (s : State) : s.rd PWR_VIN % 65536 = s.get PWR_VIN_VIN := by simp [State.get, fldOf, PWR_VIN_VIN]

/-- The supplies as the registers show them. -/
structure ShowsSupplies (vin vioa viob regok : Nat) (u : State) : Prop where
  vin : u.rd PWR_VIN % 65536 = vin
  vioa : u.get PWR_VIO_VIOA = vioa
  viob : u.get PWR_VIO_VIOB = viob
  regok : u.get PWR_MON_REGOK = regok

theorem State.showSupplies_shows {vin vioa viob regok : Nat} (hv : vin < 65536) (ha : vioa < 65536) (hb : viob < 65536) (hr : regok < 256)
    (s : State) : ShowsSupplies vin vioa viob regok (s.showSupplies vin vioa viob regok) := by
  unfold State.showSupplies
  refine ⟨?_, ?_, ?_, ?_⟩
  · rw [State.rd_PWR_VIN_mod, State.get_put_ne _ _ _ _ (by decide), State.get_put_ne _ _ _ _ (by decide), State.get_put_ne _ _ _ _ (by decide),
      State.get_put_fits _ _ _ rfl]
    exact Nat.mod_eq_of_lt hv
  · rw [State.get_put_ne _ _ _ _ (by decide), State.get_put_apart _ _ rfl, State.get_put_fits _ _ _ rfl]
    exact Nat.mod_eq_of_lt ha
  · rw [State.get_put_ne _ _ _ _ (by decide), State.get_put_fits _ _ _ rfl]
    exact Nat.mod_eq_of_lt hb
  · rw [State.get_put_fits _ _ _ rfl]
    exact Nat.mod_eq_of_lt hr

/-- Latching a flag sets its bit and marks it as set by the hardware. -/
theorem State.latch_keeps_rd (s : State) (f : Fld) {a : Nat} (ha : a ≠ f.addr) : (s.latch f).rd a = s.rd a := State.rd_put_ne s f _ ha

theorem State.get_latch_fits (s : State) (f : Fld) (h : Nat.ble (f.lo + f.width) 32 = true) (w : Nat.ble 1 f.width = true) :
    (s.latch f).get f = 1 := s.get_mark_fits f true h w

theorem State.get_latch_apart (s : State) {f g : Fld} (h : fldApart f g = true) : (s.latch f).get g = s.get g := s.get_mark_apart true h

/-- The shown supplies stay when a monitor latches its flag and the guarantee ends. -/
theorem ShowsSupplies.guardEnd {vin vioa viob regok : Nat} {s : State} (h : ShowsSupplies vin vioa viob regok s) (cause isl : Nat) :
    ShowsSupplies vin vioa viob regok ((s.latch PWR_MON_SUPOUT).guardEnd cause isl) := by
  have word {a : Nat} (ha : a / 0x1000000 = 0x1F) (hp : 0x1F100000 ≤ a) := (s.latch PWR_MON_SUPOUT).rd_guardEnd_power cause isl ha hp
  have other {f : Fld} (ha : f.addr / 0x1000000 = 0x1F) (hp : 0x1F100000 ≤ f.addr) (hn : f.addr ≠ PWR_MON) :
      ((s.latch PWR_MON_SUPOUT).guardEnd cause isl).get f = s.get f := by
    rw [State.get, word ha hp, s.latch_keeps_rd _ hn]
    rfl
  obtain ⟨hv, ha, hb, hr⟩ := h
  rw [State.rd_PWR_VIN_mod] at hv
  refine ⟨?_, ?_, ?_, ?_⟩
  · rw [State.rd_PWR_VIN_mod, other (by decide) (by decide) (by decide), hv]
  · rw [other (by decide) (by decide) (by decide), ha]
  · rw [other (by decide) (by decide) (by decide), hb]
  · rw [State.get, word (by decide) (by decide)]
    exact (s.get_latch_apart rfl).trans hr

/-- A flag of PWR_MON that is latched shows 1 when the guarantee has ended. -/
theorem State.get_guardEnd_latch (s : State) {f : Fld} (hf : f.addr = PWR_MON) (h : Nat.ble (f.lo + f.width) 32 = true)
    (w : Nat.ble 1 f.width = true) (cause isl : Nat) : ((s.latch f).guardEnd cause isl).get f = 1 := by
  rw [State.get, State.rd_guardEnd_power _ cause isl (hf ▸ by decide) (hf ▸ by decide)]
  exact s.get_latch_fits f h w

/-- R498: the case temperature as read, with the highest one. -/
def State.showCase (t : Int) (s : State) : State := (s.putS PWR_TEMP_TEMP t).putS PWR_TEMP_PEAK (max t (s.getS PWR_TEMP_PEAK))

theorem State.caseSeen_eq (t : Int) (s : State) : s.caseSeen t =
    if t < -640 ∨ 2000 < t then ((s.showCase t).latch PWR_MON_TEMPOUT).guardEnd 0x4 0x19 else s.showCase t := rfl

theorem State.showCase_keeps (t : Int) (s : State) : Keeps [.reg .err] s (s.showCase t) :=
  State.putS_keeps PWR_TEMP_PEAK_blk (State.putS_keeps PWR_TEMP_TEMP_blk (Keeps.refl _ s) (by decide)) (by decide)

theorem State.rd_showCase (t : Int) (s : State) {a : Nat} (ha : a ≠ PWR_TEMP) : (s.showCase t).rd a = s.rd a := by
  rw [State.showCase, State.putS, State.rd_put_ne _ _ _ ha, State.putS, State.rd_put_ne _ _ _ ha]

/-- A number of 16 bits in two's complement reads back. -/
theorem signed_unsigned_16 {i : Int} (lo : -32768 ≤ i) (hi : i < 32768) : signed 16 (unsigned 16 i % 2 ^ 16) = i := by
  simp only [signed, unsigned]
  split_ifs <;> omega

theorem signed_16_range (n : Nat) : -32768 ≤ signed 16 n ∧ signed 16 n < 32768 := by
  simp only [signed]
  split <;> omega

theorem State.showCase_shows {t : Int} (lo : -32768 ≤ t) (hi : t < 32768) (s : State) :
    (s.showCase t).getS PWR_TEMP_TEMP = t ∧ (s.showCase t).getS PWR_TEMP_PEAK = max t (s.getS PWR_TEMP_PEAK) := by
  have peak : -32768 ≤ s.getS PWR_TEMP_PEAK ∧ s.getS PWR_TEMP_PEAK < 32768 := signed_16_range _
  unfold State.showCase
  refine ⟨?_, ?_⟩
  · rw [State.getS, State.putS, State.get_put_apart _ _ rfl, State.putS, State.get_put_fits _ _ _ rfl]
    exact signed_unsigned_16 lo hi
  · rw [State.getS, State.putS, State.get_put_fits _ _ _ rfl]
    exact signed_unsigned_16 (by omega) (by omega)

/-- A shown temperature stays when its monitor latches TEMPOUT and the guarantee ends. -/
theorem State.getS_PWR_TEMP_guardEnd (s : State) {f : Fld} (hf : f.addr = PWR_TEMP) (cause isl : Nat) :
    ((s.latch PWR_MON_TEMPOUT).guardEnd cause isl).getS f = s.getS f := by
  rw [State.getS, State.get, State.rd_guardEnd_power _ cause isl (hf ▸ by decide) (hf ▸ by decide),
    State.latch_keeps_rd _ _ (hf ▸ by decide)]
  rfl

/-! ### The end that a monitor brings -/

theorem State.supplies_ended (vin vioa viob regok : Nat) (s : State) :
    GuardEnded 0x3 0x19 s (((s.showSupplies vin vioa viob regok).latch PWR_MON_SUPOUT).guardEnd 0x3 0x19) := by
  have keeps : Keeps [.reg .err, .sets] s ((s.showSupplies vin vioa viob regok).latch PWR_MON_SUPOUT) :=
    State.latch_keeps PWR_MON_SUPOUT_blk ((s.showSupplies_keeps vin vioa viob regok).mono (by decide)) (by decide)
  refine State.guardEnd_ended_of_shown keeps (fun a _ ha => ?_) (by decide) (by decide)
  have other : a ∉ [PWR_VIN, PWR_VIO, PWR_MON] := by
    simp only [PWR_VIN, PWR_VIO, PWR_MON, List.mem_cons, List.not_mem_nil, or_false]
    omega
  rw [State.latch_keeps_rd _ _ (Nat.ne_of_lt (ha.trans (by decide))), State.rd_showSupplies vin vioa viob regok s other]

theorem State.case_ended (t : Int) (s : State) : GuardEnded 0x4 0x19 s (((s.showCase t).latch PWR_MON_TEMPOUT).guardEnd 0x4 0x19) := by
  have keeps : Keeps [.reg .err, .sets] s ((s.showCase t).latch PWR_MON_TEMPOUT) :=
    State.latch_keeps PWR_MON_TEMPOUT_blk ((s.showCase_keeps t).mono (by decide)) (by decide)
  refine State.guardEnd_ended_of_shown keeps (fun a _ ha => ?_) (by decide) (by decide)
  rw [State.latch_keeps_rd _ _ (Nat.ne_of_lt (ha.trans (by decide))), State.rd_showCase t s (Nat.ne_of_lt (ha.trans (by decide)))]

theorem State.reference_ended (s : State) : GuardEnded 0x5 0x19 s s.referenceFault :=
  State.guardEnd_ended_of_shown (State.latch_keeps PWR_MON_REFOUT_blk (Keeps.refl _ s) (by decide))
    (fun _ _ ha => s.latch_keeps_rd _ (Nat.ne_of_lt (ha.trans (by decide)))) (by decide) (by decide)

/-! ### The statement -/

/-- The lowest island of a mismatch is one that owns a sum of R29. -/
theorem State.auditBad_lt {s : State} {k : Nat} (h : k ∈ s.auditBad) : k < 31 := by
  obtain ⟨e, he, rfl⟩ := List.mem_map.mp h
  have owner := (List.mem_filter.mp he).1
  simp only [List.mem_cons, List.not_mem_nil, or_false] at owner
  rcases owner with rfl | rfl | rfl | rfl | rfl | rfl <;> exact Nat.le_of_ble_eq_true rfl

/-- A supply within its range holds no condition of the supervisor. -/
theorem supervised_of_not_supplyOut {vin vioa viob regok : Nat} (h : supplyOut vin vioa viob regok = false) :
    supervised vin vioa viob regok = false := by
  simp only [supplyOut, supervised, Bool.or_eq_false_iff] at *
  tauto

/-- A condition of the supervisor by the measured supplies is one by the levels that the loader keeps. -/
theorem low_of_supervised {vin vioa viob regok : Nat} (h : supervised vin vioa viob regok = true) :
    ((if vin < 9600 then VinLevel.low else .ok) == .ok && (decide (3000 ≤ vioa) && decide (3000 ≤ viob)) && regok == 0xFF) = false := by
  simp only [supervised, Bool.or_eq_true, decide_eq_true_eq, bne_iff_ne] at h
  split
  · rfl
  · simp only [Bool.and_eq_false_iff, decide_eq_false_iff_not, beq_eq_false_iff_ne]
    omega

/-- Settles O10: each condition ends the guarantee by `guardEnd`, after its monitor has shown what it measured. -/
theorem guaranteeEnds : Obligations.GuaranteeEnds := by
  refine ⟨fun dt bulk ix s => ?_, fun dt vin vioa viob regok s out up => ?_, fun dt vin vioa viob regok s within => ?_,
    fun dt vin vioa viob regok s low => ?_, fun dt t s out => ?_, fun dt t s lo hi => ?_, fun dt s => ?_, fun dt k l s bad => ?_,
    fun dt s good => ?_⟩
  · have ended := (s.elapse dt).guardEnd_ended (cause := if bulk then 1 else 2) (isl := if bulk then 0x16 else ix.val)
      (by split <;> decide) (by split <;> omega)
    refine ⟨_, rfl, ?_⟩
    have eq : (s.elapse dt).eccError bulk ix = (s.elapse dt).guardEnd (if bulk then 1 else 2) (if bulk then 0x16 else ix.val) := by
      cases bulk <;> rfl
    rw [eq]
    exact ⟨ended.held, ended.record, ended.inFault, ended.latched, ended.presented⟩
  · have ended := (s.elapse dt).supplies_ended vin.toNat vioa.toNat viob.toNat regok.toNat
    have shows := (State.showSupplies_shows vin.isLt vioa.isLt viob.isLt regok.isLt (s.elapse dt)).guardEnd 3 0x19
    refine ⟨_, rfl, ?_⟩
    rw [State.supplySeen_eq, if_neg (by simp [up]), if_pos out]
    exact ⟨ended.held, ended.record, ended.inFault, ended.latched, ended.presented, shows.vin, shows.vioa, shows.viob, shows.regok,
      State.get_guardEnd_latch _ rfl rfl rfl 3 0x19⟩
  · have shows := State.showSupplies_shows vin.isLt vioa.isLt viob.isLt regok.isLt (s.elapse dt)
    refine ⟨_, rfl, ?_⟩
    rw [State.supplySeen_eq, if_neg (by simp [supervised_of_not_supplyOut within]), if_neg (by simp [within])]
    exact ⟨shows.vin, shows.vioa, shows.viob, shows.regok, ((State.showSupplies_keeps _ _ _ _ _).onlyChanges_words fun _ _ ha =>
      State.rd_showSupplies _ _ _ _ _ ha).of_elapse⟩
  · refine ⟨_, rfl, ?_⟩
    have reset := (((s.elapse dt).showSupplies vin.toNat vioa.toNat viob.toNat regok.toNat).latch PWR_MON_SUPOUT).supplyFault_inReset
      (low_of_supervised low)
    rw [State.supplySeen_eq, if_pos low]
    refine ⟨reset.held, reset.powerGood, reset.started, reset.state, ?_, reset.running, reset.bulk, reset.vin, reset.vio, reset.regs⟩
    rw [reset.starts, State.latch_keeps_rd _ _ (by decide), State.rd_showSupplies _ _ _ _ _ (by decide)]
    rfl
  · have ended := (s.elapse dt).case_ended t.toInt
    have shows := State.showCase_shows (t := t.toInt) (BitVec.le_toInt t) BitVec.toInt_lt (s.elapse dt)
    refine ⟨_, rfl, ?_⟩
    rw [State.caseSeen_eq, if_pos out]
    exact ⟨ended.held, ended.record, ended.inFault, ended.latched, ended.presented, (State.getS_PWR_TEMP_guardEnd _ rfl 4 0x19).trans shows.1,
      (State.getS_PWR_TEMP_guardEnd _ rfl 4 0x19).trans shows.2, State.get_guardEnd_latch _ rfl rfl rfl 4 0x19⟩
  · have shows := State.showCase_shows (t := t.toInt) (BitVec.le_toInt t) BitVec.toInt_lt (s.elapse dt)
    refine ⟨_, rfl, ?_⟩
    rw [State.caseSeen_eq, if_neg (by omega)]
    exact ⟨shows.1, shows.2, ((State.showCase_keeps _ _).onlyChanges_words fun _ _ ha =>
      State.rd_showCase _ _ (List.ne_of_not_mem_cons ha)).of_elapse⟩
  · have ended := (s.elapse dt).reference_ended
    exact ⟨_, rfl, ended.held, ended.record, ended.inFault, ended.latched, ended.presented, State.get_guardEnd_latch _ rfl rfl rfl 5 0x19⟩
  · have island : k < 31 := State.auditBad_lt (bad ▸ List.mem_cons_self)
    have ended := (s.elapse dt).guardEnd_ended (cause := 6) (isl := k) (by decide) (by omega)
    refine ⟨_, rfl, ?_⟩
    have eq : (s.elapse dt).audit = (s.elapse dt).guardEnd 6 k := by
      rw [State.audit, show (s.elapse dt).auditBad = k :: l from bad]
    rw [eq]
    exact ⟨ended.held, ended.record, ended.inFault, ended.latched, ended.presented⟩
  · refine ⟨s.elapse dt, ?_, (Keeps.onlyChanges [] (State.elapse_keeps (Keeps.refl _ s) (by decide)))⟩
    change Host.Outcome.next (s.elapse dt).audit = _
    rw [State.audit, show (s.elapse dt).auditBad = [] from good]

end Sys2Proof.Machine
end

section
/-! PROOFS. The staging and the commit of PWM sets (R188, R189, R202, R290 to R292). -/

namespace Sys2Proof.Machine

/-! ### What a PWM generator reads -/

@[simp] theorem State.pax_onPax_same (s : State) (a : Nat) (f : PwmAxis → PwmAxis) : (s.onPax a f).pax a = f (s.pax a) :=
  tabGet_tabSet_same _ _ _ _

@[simp] theorem State.get_onPax (s : State) (a : Nat) (f : PwmAxis → PwmAxis) (g : Fld) : (s.onPax a f).get g = s.get g := rfl

/-- An operation that keeps the PWM generators keeps what a generator holds. -/
theorem Keeps.pax {m : List Part} {s t : State} (h : Keeps m s t) (hm : Part.pwm ∉ m) (a : Nat) : t.pax a = s.pax a := by
  rw [State.pax, State.pax, show t.pwm = s.pwm from h.same .pwm hm]

/-- An operation that keeps the axes keeps what an axis holds. -/
theorem Keeps.axis {m : List Part} {s t : State} (h : Keeps m s t) (hm : Part.axes ∉ m) (n : Nat) : t.axis n = s.axis n := by
  rw [State.axis, State.axis, show t.axes = s.axes from h.same .axes hm]

/-- A committed entry is read from bulk memory, at an address of the block PRF. -/
theorem Keeps.axU {m : List Part} {s t : State} (h : Keeps m s t) (hb : Part.bulk ∉ m) (hr : Part.reg .prf ∉ m) (n off size : Nat) :
    t.axU n off size = s.axU n off size := by
  have base : t.rd PRF_TBASE = s.rd PRF_TBASE := h.rd hr (by decide)
  rw [State.axU, State.axU, State.bulkLe, State.bulkLe, State.bulkBytes, State.bulkBytes, State.entryAt, State.entryAt, base,
    show t.bulk = s.bulk from h.same .bulk hb]

theorem Keeps.axCMode {m : List Part} {s t : State} (h : Keeps m s t) (hb : Part.bulk ∉ m) (hr : Part.reg .prf ∉ m) (n : Nat) :
    t.axCMode n = s.axCMode n := h.axU hb hr n 0x200 1

theorem Keeps.axBridges {m : List Part} {s t : State} (h : Keeps m s t) (hb : Part.bulk ∉ m) (hr : Part.reg .prf ∉ m) (n : Nat) :
    t.axBridges n = s.axBridges n := by rw [State.axBridges, State.axBridges, h.axU hb hr]

theorem Keeps.bridges {m : List Part} {s t : State} (h : Keeps m s t) (hb : Part.bulk ∉ m) (hr : Part.reg .prf ∉ m) (a : Nat) :
    t.bridges a = s.bridges a := by rw [State.bridges, State.bridges, h.axBridges hb hr]

/-- A flag is set exactly when its bit reads 1. -/
theorem State.flag_iff (s : State) (f : Fld) : s.flag f = true ↔ s.get f = 1 := by simp [State.flag]

theorem PWM_STG_ne_PWM_SCMP (a n : Nat) : PWM_STG a ≠ PWM_SCMP n := by simp only [PWM_STG, PWM_SCMP]; omega
theorem PWM_STG_ne_PWM_AXST (a b : Nat) : PWM_STG a ≠ PWM_AXST b := by simp only [PWM_STG, PWM_AXST]; omega

/-! ### Transfers (R21, R24, R291) -/

/-- R24: transfer `t` is meant for the period in progress, whose write phase has not come. -/
def State.inTime (s : State) (t : Transfer) : Prop :=
  s.get (PWM_AXST_EN t.axis) = 1 ∧ t.per % 256 = s.get (PWM_AXST_PERNUM t.axis) ∧ s.inPeriod t.axis / 8 < s.writePhase t.axis / 8

/-- R291: staging for the period that transfer `t` names; what was staged for another one is gone. -/
def State.stageFor (t : Transfer) (s : State) : State :=
  (if s.get (PWM_STG_SPER t.axis) = t.per % 256 then s else s.wr (PWM_STG t.axis) 0).put (PWM_STG_SPER t.axis) t.per

/-- R291: a compare value enters staging. -/
def State.stageCompare (t : Transfer) (h : Nat) (s : State) : State :=
  let s := (s.onPax t.axis fun x => { x with stage := tabSet x.stage h t.value }).wr (PWM_SCMP (3 * t.axis + h)) t.value
  s.put (PWM_STG_CMPV t.axis) (setBit (s.get (PWM_STG_CMPV t.axis)) h true)

/-- A transfer in time is staged: a compare value, or the commit request. -/
theorem State.stageWrite_inTime {s : State} {t : Transfer} (h : s.inTime t) : s.stageWrite t =
    match t.ch with
    | some h => (s.stageFor t).stageCompare t h
    | none => (s.stageFor t).mark (PWM_STG_COMMIT t.axis) true := by
  obtain ⟨en, per, time⟩ := h
  unfold State.stageWrite
  rw [if_neg (by simp [State.flag, en, per, time])]
  cases t.ch <;> rfl

/-- Any other transfer is a late write. -/
theorem State.stageWrite_late {s : State} {t : Transfer} (h : ¬s.inTime t) : s.stageWrite t = s.lateWrite t.axis := by
  unfold State.stageWrite
  rw [if_pos]
  simp only [State.inTime, not_and_or, not_lt] at h
  simp only [Bool.or_eq_true, Bool.not_eq_true', bne_iff_ne, decide_eq_true_eq, State.flag, beq_eq_false_iff_ne]
  tauto

theorem State.stageFor_keeps (t : Transfer) (s : State) : Keeps [.reg .pwm] s (s.stageFor t) :=
  State.put_keeps (PWM_STG_SPER_blk t.axis) (keeps_ite (fun _ => Keeps.refl _ s) fun _ => State.wr_keeps (PWM_STG_blk t.axis) (Keeps.refl _ s)
    (by decide)) (by decide)

/-- Only the staging word changes. -/
theorem State.rd_stageFor (t : Transfer) (s : State) {a : Nat} (ha : a ≠ PWM_STG t.axis) : (s.stageFor t).rd a = s.rd a := by
  rw [State.stageFor, State.rd_put_ne _ _ _ ha]
  split
  · rfl
  · exact State.rd_wr_ne _ _ ha

theorem State.get_SPER_stageFor (t : Transfer) (s : State) : (s.stageFor t).get (PWM_STG_SPER t.axis) = t.per % 256 :=
  State.get_put_fits _ _ _ rfl

/-- Setting a bit of CMPV sets it. -/
theorem bit_setBit_CMPV : ∀ n : Fin 8, ∀ h : Fin 3, bit (setBit n h true % 2 ^ 3) h = true := by decide

/-- What a staged compare value leaves: the value in staging and in its word, its valid bit, and the period. -/
theorem State.stageCompare_staged (t : Transfer) (h : Fin 3) (s : State) :
    tabGet 0 ((s.stageCompare t h).pax t.axis).stage h = t.value ∧
    (s.stageCompare t h).rd (PWM_SCMP (3 * t.axis + h)) = t.value % 2 ^ 32 ∧
    bit ((s.stageCompare t h).get (PWM_STG_CMPV t.axis)) h = true ∧
    (s.stageCompare t h).get (PWM_STG_SPER t.axis) = s.get (PWM_STG_SPER t.axis) := by
  unfold State.stageCompare
  dsimp only
  refine ⟨?_, ?_, ?_, ?_⟩
  · change tabGet 0 ((s.onPax t.axis _).pax t.axis).stage h = t.value
    rw [State.pax_onPax_same]
    exact tabGet_tabSet_same _ _ _ _
  · rw [State.rd_put_ne _ _ _ (PWM_STG_ne_PWM_SCMP _ _).symm, State.rd_wr_same]
  · rw [State.get_put_fits _ _ _ rfl]
    exact bit_setBit_CMPV ⟨_, State.get_lt _ _⟩ h
  · rw [State.get_put_apart _ _ rfl, State.get_wr_ne _ _ _ (PWM_STG_ne_PWM_SCMP _ _)]
    rfl

theorem State.stageCompare_keeps (t : Transfer) (h : Nat) (s : State) : Keeps [.reg .pwm, .pwm] s (s.stageCompare t h) :=
  State.put_keeps (PWM_STG_CMPV_blk t.axis) (State.wr_keeps (PWM_SCMP_blk _) (State.onPax_keeps (Keeps.refl _ s) (by decide)) (by decide))
    (by decide)

theorem State.rd_stageCompare (t : Transfer) (h : Nat) (s : State) {a : Nat} (ha : a ∉ [PWM_STG t.axis, PWM_SCMP (3 * t.axis + h)]) :
    (s.stageCompare t h).rd a = s.rd a := by
  simp only [List.mem_cons, List.not_mem_nil, or_false, not_or] at ha
  obtain ⟨stage, compare⟩ := ha
  unfold State.stageCompare
  dsimp only
  rw [State.rd_put_ne _ _ _ stage, State.rd_wr_ne _ _ compare]
  rfl

theorem ENG_WD_ne_ENG_STAT (a k : Nat) : ENG_WD a ≠ ENG_STAT k := by simp only [ENG_WD, ENG_STAT]; omega

/-- R203: a late write is counted by the axis and by its engine. -/
theorem State.lateWrite_counts (a : Nat) (s : State) :
    (s.lateWrite a).get (ENG_WD_DISC a) = min (s.get (ENG_WD_DISC a) + 1) 65535 ∧
    (s.lateWrite a).get (ENG_STAT_DISC (a / 4)) = min (s.get (ENG_STAT_DISC (a / 4)) + 1) 255 := by
  unfold State.lateWrite
  refine ⟨?_, ?_⟩
  · rw [State.satBump, State.get_put_ne _ _ _ _ (ENG_WD_ne_ENG_STAT a _), State.get_satBump_same _ _ _ (Nat.le_of_ble_eq_true rfl)]
    rfl
  · rw [State.get_satBump_same _ _ _ (Nat.le_of_ble_eq_true rfl), State.satBump, State.get_put_ne _ _ _ _ (ENG_WD_ne_ENG_STAT a _).symm]
    rfl

theorem State.lateWrite_onlyChanges (a : Nat) (s : State) : OnlyChanges [] [ENG_WD a, ENG_STAT (a / 4)] s (s.lateWrite a) := by
  have keeps : Keeps [.reg .eng] s (s.lateWrite a) :=
    State.satBump_keeps (ENG_STAT_DISC_blk _) (State.satBump_keeps (ENG_WD_DISC_blk _) (Keeps.refl _ s) (by decide)) (by decide)
  refine keeps.onlyChanges_words fun w _ hw => ?_
  simp only [List.mem_cons, List.not_mem_nil, or_false, not_or] at hw
  obtain ⟨wd, stat⟩ := hw
  rw [State.lateWrite, State.satBump, State.rd_put_ne _ _ _ stat, State.satBump, State.rd_put_ne _ _ _ wd]

end Sys2Proof.Machine
end

section
/-! PROOFS. The write phase, the phase watchdog and its torque off (R188, R189, R202, R292). -/

namespace Sys2Proof.Machine

/-! ### The commit (R189, R292) -/

/-- R292, R288, R97: the set that a commit of axis `a` makes of the compare values `stage`. -/
def State.dueSet (s : State) (a : Nat) (stage : Tab Nat) : PwmSet :=
  let dwell := max (s.get (PWM_AXD_DWELL a)) (s.get (LSH_MPW_EFF a))
  { cmp := stage.map fun e => (e.1, dwellStep (s.pax a).stagePer dwell e.2), per := (s.pax a).stagePer
    dt := max (s.get (PWM_AX_DT a)) (s.get (LSH_DTF_EFF a)), dwell := dwell }

/-- R97, R102: a clamp of the Leash writes its flag and a report, and the axis counts it; then the set is due, and staging is empty. -/
theorem State.commitSet_eq (a : Nat) (s : State) : ∃ t, Keeps [.reg .lsh, .reg .err, .sets, .log, .axes, .pwm] s t ∧
    t.pax a = { s.pax a with committed := some (s.dueSet a (s.pax a).stage), stage := [] } ∧
    s.commitSet a = (t.mark (PWM_STG_COMMIT a) false).put (PWM_STG_CMPV a) 0 := by
  have first := keeps_ite (m := [.reg .lsh, .reg .err, .sets, .log, .axes]) (s0 := s) (c := s.get (PWM_AX_DT a) < s.get (LSH_DTF_EFF a))
    (fun _ => State.clampFlag_keeps (a := a) (b := 1) (Keeps.refl _ s) (by decide)) fun _ => Keeps.refl _ s
  set t := if s.get (PWM_AX_DT a) < s.get (LSH_DTF_EFF a) then s.clampFlag a 1 else s with clamped
  have second := keeps_ite (c := t.get (PWM_AXD_DWELL a) < t.get (LSH_MPW_EFF a))
    (fun _ => State.clampFlag_keeps (a := a) (b := 2) first (by decide)) fun _ => first
  refine ⟨_, State.onPax_keeps (a := a) (f := fun x => { x with committed := some (s.dueSet a x.stage), stage := [] })
    (second.mono (by decide)) (by decide), ?_, ?_⟩
  · rw [State.pax_onPax_same, second.pax (by decide)]
  · rw [State.commitSet, clamped]
    rfl

/-- R189: is the set of axis `a` complete for the period in progress? -/
def State.setComplete (s : State) (a : Nat) : Prop :=
  s.stagedAll a = true ∧ s.get (PWM_STG_COMMIT a) = 1 ∧ s.get (PWM_STG_SPER a) = s.get (PWM_AXST_PERNUM a)

/-- R189: the write phase of axis `a` is to be judged now. -/
def State.atWritePhase (s : State) (a : Nat) : Prop :=
  s.get (PWM_AXST_EN a) = 1 ∧ (s.pax a).judged = false ∧ s.get (ENG_CST_RUN a) = 1 ∧ s.writePhase a ≤ s.inPeriod a

/-- R202: the watchdog acts: staging is gone, the loop is off, and two boundaries later the torque will be. -/
def State.watchdog (a : Nat) (s : State) : State :=
  let s := (s.onPax a fun x => { x with stage := [] }).wr (PWM_STG a) 0
  let s := ((s.latch (ENG_CST_WDOG a)).satBump (ENG_WD_WDCNT a) 1).put (ENG_CST_RUN a) 2
  s.onAxis a fun x => { x with wdogIn := some 2 }

/-- R189: the write phase is judged. -/
def State.judge (a : Nat) (s : State) : State := s.onPax a fun x => { x with judged := true }

theorem State.writePhaseNow_commits {s : State} {a : Nat} (h : s.atWritePhase a) (c : s.setComplete a) :
    s.writePhaseNow a = (s.judge a).commitSet a := by
  obtain ⟨en, judged, run, time⟩ := h
  obtain ⟨all, commit, per⟩ := c
  unfold State.writePhaseNow
  rw [if_neg (by simp [State.flag, en, judged, run, time])]
  refine if_pos ?_
  simp only [Bool.and_eq_true, State.flag_iff, beq_iff_eq]
  exact ⟨⟨all, commit⟩, per⟩

theorem State.writePhaseNow_watchdog {s : State} {a : Nat} (h : s.atWritePhase a) (c : ¬s.setComplete a) :
    s.writePhaseNow a = ((s.judge a).watchdog a).faultWith a 2 0 (8 + a / 4) 5 true := by
  obtain ⟨en, judged, run, time⟩ := h
  unfold State.writePhaseNow
  rw [if_neg (by simp [State.flag, en, judged, run, time])]
  refine if_neg fun complete => c ?_
  simp only [Bool.and_eq_true, State.flag_iff, beq_iff_eq] at complete
  obtain ⟨⟨all, commit⟩, per⟩ := complete
  exact ⟨all, commit, per⟩

theorem State.writePhaseNow_idle {s : State} {a : Nat} (h : ¬s.atWritePhase a) : s.writePhaseNow a = s := by
  unfold State.writePhaseNow
  refine if_pos ?_
  simp only [State.atWritePhase, not_and_or, not_le] at h
  simp only [Bool.or_eq_true, Bool.not_eq_true', bne_iff_ne, decide_eq_true_eq, State.flag, beq_eq_false_iff_ne]
  simp only [Bool.not_eq_false] at h
  tauto

/-! ### The watchdog (R202) -/

theorem ENG_WD_ne_ENG_CST (a b : Nat) : ENG_WD a ≠ ENG_CST b := by simp only [ENG_WD, ENG_CST]; omega
theorem quiet_ENG_CST (a : Nat) : Quiet (ENG_CST a) := by simp only [Quiet, ENG_CST]; omega
theorem quiet_ENG_WD (a : Nat) : Quiet (ENG_WD a) := by simp only [Quiet, ENG_WD]; omega

/-- A fault that defers its reaction changes no loop word of an engine, no PWM, and no count of boundaries to it. -/
structure Defers (a : Nat) (s u : State) : Prop where
  loops : ∀ w, w / 0x1000000 = 0x13 → Quiet w → u.rd w = s.rd w
  regs : ∀ w, w / 0x1000000 = 0x16 → u.rd w = s.rd w
  pwm : u.pwm = s.pwm
  wdogIn : (u.axis a).wdogIn = (s.axis a).wdogIn

theorem State.faultWith_defers (s : State) (n : Nat) {cause : Nat} (sub src code : Nat) (hc : cause ≤ 7) :
    Defers n s (s.faultWith n cause sub src code true) := by
  obtain ⟨w, begins, h⟩ := s.faultWith_cases n sub src code true hc
  have started : Defers n s w := by
    refine ⟨fun x hx quiet => begins.words x quiet ?_, fun x hx => begins.keeps.rd (b := .pwm) (by decide) hx,
      begins.keeps.same .pwm (by decide), begins.wdogIn⟩
    simp only [PRF_AXST]
    omega
  rcases h with eq | eq | ⟨now, -⟩
  · rw [eq]
    exact started
  · obtain ⟨t, p, told, spread⟩ := w.spreadFault_eq n
    have keeps : Keeps [.reg .acq, .acq, .reg .eng, .drn, .reg .prf, .reg .knl, .reg .que, .reg .err, .sets, .bulk, .log, .knl, .que, .prf] w
        (w.spreadFault n) := by
      rw [spread]
      exact State.masterLost_keeps (told.mono (by decide)) (by decide)
    rw [eq]
    refine ⟨fun x hx quiet => ?_, fun x hx => ?_, ?_, ?_⟩
    · rw [quiet.rd_spreadFault (by omega) n]
      exact started.loops x hx quiet
    · rw [keeps.rd (b := .pwm) (by decide) hx]
      exact started.regs x hx
    · exact (keeps.same .pwm (by decide)).trans started.pwm
    · rw [keeps.axis (by decide) n]
      exact started.wdogIn
  · exact absurd now (by decide)

theorem Defers.get_loop {a : Nat} {s u : State} (h : Defers a s u) {f : Fld} (hf : f.addr / 0x1000000 = 0x13) (quiet : Quiet f.addr) :
    u.get f = s.get f := by rw [State.get, State.get, h.loops _ hf quiet]

theorem State.get_latch_ne (s : State) {f g : Fld} (h : g.addr ≠ f.addr) : (s.latch f).get g = s.get g := s.get_put_ne f g _ h

/-- What the watchdog has written. -/
structure WatchdogActed (a : Nat) (s u : State) : Prop where
  wdog : u.get (ENG_CST_WDOG a) = 1
  count : u.get (ENG_WD_WDCNT a) = min (s.get (ENG_WD_WDCNT a) + 1) 65535
  run : u.get (ENG_CST_RUN a) = 2
  committed : (u.pax a).committed = (s.pax a).committed
  stage : (u.pax a).stage = []
  staging : u.rd (PWM_STG a) = 0
  wdogIn : (u.axis a).wdogIn = some 2
  enabled : u.get (PWM_AXST_EN a) = s.get (PWM_AXST_EN a)

theorem State.watchdog_acted (s : State) (a : Nat) : WatchdogActed a s (s.watchdog a) := by
  have stage {f : Fld} (hf : InBlk .eng f.addr) : ((s.onPax a fun x => { x with stage := [] }).wr (PWM_STG a) 0).get f = s.get f :=
    (State.wr_keeps (PWM_STG_blk a) (State.onPax_keeps (Keeps.refl [.reg .pwm, .pwm] s) (by decide)) (by decide)).get (by decide) hf
  have engine (t : State) : Keeps [.reg .eng, .sets, .axes] t ((((t.latch (ENG_CST_WDOG a)).satBump (ENG_WD_WDCNT a) 1).put
      (ENG_CST_RUN a) 2).onAxis a fun x => { x with wdogIn := some 2 }) :=
    State.onAxis_keeps (State.put_keeps (ENG_CST_RUN_blk a) (State.satBump_keeps (ENG_WD_WDCNT_blk a)
      (State.latch_keeps (ENG_CST_WDOG_blk a) (Keeps.refl _ t) (by decide)) (by decide)) (by decide)) (by decide)
  have pax : ((s.watchdog a).pax a) = { s.pax a with stage := [] } :=
    ((engine _).pax (by decide) a).trans (s.pax_onPax_same a _)
  refine { wdog := ?_, count := ?_, run := ?_, committed := by rw [pax], stage := by rw [pax], staging := ?_, wdogIn := ?_, enabled := ?_ }
  · rw [State.watchdog, State.onAxis, State.get_onAxes, State.get_put_apart _ _ rfl, State.satBump,
      State.get_put_ne _ _ _ _ (ENG_WD_ne_ENG_CST a a).symm, State.get_latch_fits _ _ rfl rfl]
  · rw [State.watchdog, State.onAxis, State.get_onAxes, State.get_put_ne _ _ _ _ (ENG_WD_ne_ENG_CST a a),
      State.get_satBump_same _ _ _ (Nat.le_of_ble_eq_true rfl), State.get_latch_ne _ (ENG_WD_ne_ENG_CST a a)]
    exact congrArg (fun n => min (n + 1) 65535) (stage (ENG_WD_WDCNT_blk a))
  · rw [State.watchdog, State.onAxis, State.get_onAxes, State.get_put_fits _ _ _ rfl]
    rfl
  · exact ((engine _).rd (b := .pwm) (by decide) (PWM_STG_blk a).1).trans (State.rd_wr_same _ _ _)
  · rw [State.watchdog, State.axis_onAxis_same]
  · refine ((engine _).get (by decide) (PWM_AXST_EN_blk a)).trans ?_
    rw [State.get_wr_ne _ _ _ (PWM_STG_ne_PWM_AXST a a).symm]
    rfl

/-- A fault that defers its reaction leaves what the watchdog has written. -/
theorem WatchdogActed.defers {a : Nat} {s t u : State} (h : WatchdogActed a s t) (d : Defers a t u) : WatchdogActed a s u := by
  have pax : u.pax a = t.pax a := by rw [State.pax, State.pax, d.pwm]
  have loop := (ENG_CST_blk a).1
  have count := (ENG_WD_blk a).1
  refine { wdog := ?_, count := ?_, run := ?_, committed := by rw [pax, h.committed], stage := by rw [pax, h.stage], staging := ?_,
           wdogIn := d.wdogIn.trans h.wdogIn, enabled := ?_ }
  · exact (d.get_loop loop (quiet_ENG_CST a)).trans h.wdog
  · exact (d.get_loop count (quiet_ENG_WD a)).trans h.count
  · exact (d.get_loop loop (quiet_ENG_CST a)).trans h.run
  · exact (d.regs _ (PWM_STG_blk a).1).trans h.staging
  · rw [← h.enabled, State.get, State.get]
    exact congrArg _ (d.regs _ (PWM_AXST_blk a).1)

/-! ### Torque off (R125, R202) -/

/-- The brake of an axis is what the axis holds, beside a channel of the DIO. -/
theorem State.axis_setBrake (s : State) (n : Nat) (engaged : Bool) : (s.setBrake n engaged).axis n = { s.axis n with braked := engaged } := by
  have keeps : Keeps [.reg .dio] (s.onAxis n fun x => { x with braked := engaged }) (s.setBrake n engaged) :=
    keeps_ite (fun _ => State.setBit64_keeps DIO_OUT_blk (Keeps.refl _ _) (by decide)) fun _ => Keeps.refl _ _
  rw [keeps.axis (by decide), State.axis_onAxis_same]

/-- A PWM that is turned off is disabled. -/
theorem State.get_EN_pwmOff (s : State) (a : Nat) : (s.pwmOff a).get (PWM_AXST_EN a) = 0 := by
  unfold State.pwmOff State.showSafe
  dsimp only
  rw [State.get_mark_apart _ _ rfl, State.get_put_apart _ _ rfl, State.get_wr_ne _ _ _ (PWM_STG_ne_PWM_AXST a a).symm,
    State.get_wr_ne _ _ _ (by simp only [PWM_AXST_EN, PWM_AXST, PWM_PER]; omega), State.get_mark_apart _ _ rfl, State.get_mark_fits _ _ _ rfl rfl]
  rfl

/-- What a reaction 0x0 of a local axis leaves. -/
structure TorqueIsOff (a : Nat) (s u : State) : Prop where
  enabled : u.get (PWM_AXST_EN a) = 0
  braked : (u.axis a).braked = true
  wdogIn : (u.axis a).wdogIn = none
  reacted : (u.axis a).reacted = true
  run : u.get (ENG_CST_RUN a) = 0
  state : u.axState a = s.axState a

theorem State.torqueOff_off (s : State) {a : Nat} (ha : a < 32) (code : Nat) : TorqueIsOff a s (s.torqueOff a code) := by
  set t := (s.onAxis a fun x => { x with reacted := true, wdogIn := none, safe := if a < 32 then setBit x.safe code true else x.safe }).setBrake
    a true with braking
  obtain ⟨w, engine, run, eq⟩ := t.leaveEnabled_eq ha
  have off : s.torqueOff a code = ((w.mark (PRF_AXST_SDPEND a) false).pwmOff a).dropMotion a := eq ▸ rfl
  have dropped := State.dropMotion_keeps (n := a) (Keeps.refl [.reg .prf, .reg .fbk, .prf, .probes] ((w.mark (PRF_AXST_SDPEND a) false).pwmOff a))
    (by decide)
  have pwm := State.pwmOff_keeps (a := a) (State.mark_keeps (v := false) (PRF_AXST_SDPEND_blk a) (Keeps.refl [.reg .prf, .reg .pwm, .pwm] w) (by decide))
    (by decide)
  have axes := ((engine.mono (by decide)).trans ((pwm.mono (by decide)).trans (dropped.mono (by decide))) :
    Keeps [.reg .eng, .reg .csf, .reg .prf, .reg .pwm, .pwm, .reg .fbk, .prf, .probes] t _).axis (by decide) a
  have brake : t.axis a = { s.axis a with reacted := true, wdogIn := none, braked := true
                                          safe := if a < 32 then setBit (s.axis a).safe code true else (s.axis a).safe } := by
    rw [braking, State.axis_setBrake, State.axis_onAxis_same]
  refine { enabled := ?_, braked := ?_, wdogIn := ?_, reacted := ?_, run := ?_, state := ?_ }
  · rw [off, dropped.get (by decide) (PWM_AXST_EN_blk a)]
    exact State.get_EN_pwmOff _ a
  · rw [off, axes, brake]
  · rw [off, axes, brake]
  · rw [off, axes, brake]
  · rw [off, dropped.get (by decide) (ENG_CST_RUN_blk a), pwm.get (by decide) (ENG_CST_RUN_blk a), run]
  · exact s.get_torqueOff a code (by simp only [PRF_AXST_STATE, PRF_AXST]; omega) (Nat.le_of_ble_eq_true rfl)

end Sys2Proof.Machine
end

section
/-! PROOFS. The period boundary of a PWM generator (R187, R292, R294 to R302), and the statement of the PWM staging. -/

namespace Sys2Proof.Machine

/-! ### Tables and words written half-bridge by half-bridge -/

/-- A table set at each key of a list. -/
theorem tabGet_foldl_tabSet {α : Type} (d : α) (g : Nat → α) (l : List Nat) (t : Tab α) (h : Nat) :
    tabGet d (l.foldl (fun t h => tabSet t h (g h)) t) h = if h ∈ l then g h else tabGet d t h := by
  induction l generalizing t with
  | nil => simp
  | cons x l ih =>
    rw [List.foldl_cons, ih, tabGet_tabSet]
    by_cases later : h ∈ l
    · simp [later]
    · by_cases now : h = x
      · simp [now]
      · simp [later, now]

/-- R292, R198: the code of a half-bridge is applied, and the Band state follows it where it was held. -/
def State.applyCode (a : Nat) (set : PwmSet) (s : State) (e : Nat × Nat) : State :=
  let s := s.wr (PWM_CMP (3 * a + e.1)) e.2
  if s.axCMode a = 2 && e.2 != tabGet 0 set.cmp e.1 then s.put (bandSt a e.1) (if e.2 = 0 then 1 else 2) else s

theorem State.applyCode_keeps (a : Nat) (set : PwmSet) (s : State) (e : Nat × Nat) : Keeps [.reg .eng, .reg .pwm] s (s.applyCode a set e) := by
  have written := State.wr_keeps (v := e.2) (PWM_CMP_blk (3 * a + e.1)) (Keeps.refl [.reg .eng, .reg .pwm] s) (by decide)
  exact keeps_ite (fun _ => State.put_keeps (bandSt_blk a e.1) written (by decide)) fun _ => written

/-- In the block PWM it writes the compare word of its half-bridge. -/
theorem State.rd_applyCode (a : Nat) (set : PwmSet) (s : State) (e : Nat × Nat) {w : Nat} (hw : w / 0x1000000 = 0x16) :
    (s.applyCode a set e).rd w = if w = PWM_CMP (3 * a + e.1) then e.2 % 2 ^ 32 else s.rd w := by
  have band (t : State) (v : Nat) : (t.put (bandSt a e.1) v).rd w = t.rd w := by
    refine State.rd_put_ne t _ v ?_
    rw [addr_bandSt, ENG_BAND]
    omega
  unfold State.applyCode
  dsimp only
  split
  · rw [band, State.rd_wr]
  · rw [State.rd_wr]

theorem PWM_CMP_injective {a h k : Nat} (hh : h < 3) (hk : k < 3) (e : PWM_CMP (3 * a + h) = PWM_CMP (3 * a + k)) : h = k := by
  simp only [PWM_CMP] at e
  omega

/-- The compare words after the codes of the half-bridges `l` have been applied. -/
theorem State.rd_applyCodes (a : Nat) (set : PwmSet) (c : Nat → Nat) {l : List Nat} (hl : ∀ k ∈ l, k < 3) {h : Nat} (hh : h < 3)
    (s : State) : ((l.map fun h => (h, c h)).foldl (State.applyCode a set) s).rd (PWM_CMP (3 * a + h)) =
      if h ∈ l then c h % 2 ^ 32 else s.rd (PWM_CMP (3 * a + h)) := by
  induction l generalizing s with
  | nil => simp
  | cons k l ih =>
    rw [List.map_cons, List.foldl_cons, ih fun m hm => hl m (List.mem_cons_of_mem k hm), State.rd_applyCode a set s _ (PWM_CMP_blk _).1]
    by_cases later : h ∈ l
    · simp [later]
    · by_cases now : h = k
      · simp [now]
      · have apart : PWM_CMP (3 * a + h) ≠ PWM_CMP (3 * a + k) := fun e => now (PWM_CMP_injective hh (hl k List.mem_cons_self) e)
        simp [later, now, apart]

/-! ### The committed set is applied (R292) -/

/-- R198: the codes that the half-bridges of axis `a` take of the committed set. -/
def State.codesOf (s : State) (a : Nat) (set : PwmSet) : List (Nat × Nat) :=
  (s.bridges a).map fun h => (h, s.heldCode a h ((s.pax a).applied.getD {}) set)

/-- R292: the committed set is in force, with the codes that were taken. -/
def State.enforce (a : Nat) (set : PwmSet) (s : State) : State :=
  let codes := s.codesOf a set
  let since := codes.foldl (fun t e => if (s.pax a).applied.isSome && e.2 == tabGet 0 ((s.pax a).applied.getD {}).cmp e.1 then t else tabSet t e.1 s.quarter)
    (s.pax a).since
  s.onPax a fun x => { x with applied := some { set with cmp := codes }, committed := none, since := since }

theorem State.applySet_some (s : State) {a : Nat} {set : PwmSet} (h : (s.pax a).committed = some set) : s.applySet a =
    (((s.codesOf a set).foldl (State.applyCode a set) (s.enforce a set)).wr (PWM_PER a) set.per).wr (PWM_TIM a)
      (set.dt % 65536 * 65536 + set.dwell % 65536) := by
  unfold State.applySet
  dsimp only
  rw [h]
  rfl

theorem State.applySet_none (s : State) {a : Nat} (h : (s.pax a).committed = none) : s.applySet a = s := by
  unfold State.applySet
  dsimp only
  rw [h]

/-- R292: the set that was due is in force, and none is due. -/
theorem State.pax_applySet (s : State) {a : Nat} {set : PwmSet} (h : (s.pax a).committed = some set) : ∃ since,
    (s.applySet a).pax a = { s.pax a with applied := some { set with cmp := s.codesOf a set }, committed := none, since := since } := by
  have codes : Keeps [.reg .eng, .reg .pwm] (s.enforce a set) (s.applySet a) := by
    rw [s.applySet_some h]
    refine State.wr_keeps (PWM_TIM_blk a) (State.wr_keeps (PWM_PER_blk a) ?_ (by decide)) (by decide)
    exact keeps_foldl (fun _ e h => h.trans (State.applyCode_keeps a set _ e)) _ (Keeps.refl _ _)
  exact ⟨_, (codes.pax (by decide) a).trans (s.pax_onPax_same a _)⟩

/-- The status word of the PWM is no word of a set. -/
theorem State.rd_AXST_applySet (s : State) (a : Nat) : (s.applySet a).rd (PWM_AXST a) = s.rd (PWM_AXST a) := by
  cases h : (s.pax a).committed with
  | none => rw [s.applySet_none h]
  | some set =>
    have codes (l : List (Nat × Nat)) (t : State) : (l.foldl (State.applyCode a set) t).rd (PWM_AXST a) = t.rd (PWM_AXST a) := by
      refine rd_foldl (fun t e => ?_) l t
      rw [State.rd_applyCode a set t e (PWM_AXST_blk a).1, if_neg]
      simp only [PWM_AXST, PWM_CMP]
      omega
    rw [s.applySet_some h, State.rd_wr_ne _ _ (by simp only [PWM_AXST, PWM_TIM]; omega), State.rd_wr_ne _ _ (by simp only [PWM_AXST, PWM_PER]; omega),
      codes]
    rfl

/-- R292: the words of an applied set. -/
theorem State.applySet_words (s : State) {a : Nat} {set : PwmSet} (h : (s.pax a).committed = some set) :
    (s.applySet a).rd (PWM_PER a) = set.per % 2 ^ 32 ∧ (s.applySet a).rd (PWM_TIM a) = set.dt % 65536 * 65536 + set.dwell % 65536 := by
  rw [s.applySet_some h]
  refine ⟨?_, ?_⟩
  · rw [State.rd_wr_ne _ _ (by simp only [PWM_PER, PWM_TIM]; omega), State.rd_wr_same]
  · rw [State.rd_wr_same]
    omega

/-- R292, R198: without the dwell of a Band axis each compare word takes the code of the set. -/
theorem State.applySet_compares (s : State) {a : Nat} (ha : a < 32) {set : PwmSet} (h : (s.pax a).committed = some set) (carrier : s.axCMode a ≠ 2)
    {k : Nat} (hk : k < s.axBridges a) : (s.applySet a).rd (PWM_CMP (3 * a + k)) = tabGet 0 set.cmp k % 2 ^ 32 := by
  have three : s.axBridges a ≤ 3 := by
    unfold State.axBridges
    split <;> decide
  have bridges : s.bridges a = List.range (s.axBridges a) := if_neg (by omega)
  have code : ∀ k, s.heldCode a k ((s.pax a).applied.getD {}) set = tabGet 0 set.cmp k := fun k => if_neg fun held => carrier held.1
  rw [s.applySet_some h, State.rd_wr_ne _ _ (by simp only [PWM_CMP, PWM_TIM]; omega), State.rd_wr_ne _ _ (by simp only [PWM_CMP, PWM_PER]; omega),
    State.codesOf, State.rd_applyCodes a set _ (fun k hk => ?_) (by omega), if_pos (bridges ▸ List.mem_range.mpr hk), code]
  have := List.mem_range.mp (bridges ▸ hk)
  omega

/-! ### Gates that are brought low (R295, R299) -/

/-- R295, R299: every gate of a bridge of the axis is called low. -/
theorem State.gatesTurnOff_want (s : State) (a delay : Nat) {h : Nat} (hh : h ∈ s.bridges a) :
    (tabGet {} ((s.gatesTurnOff a delay).pax a).gates h).want = 0 := by
  rw [State.gatesTurnOff, State.pax_onPax_same, tabGet_foldl_tabSet, if_pos hh]
  rfl

/-! ### The boundary in three steps -/

/-- R291, R298: the period that ends is counted and the next one numbered, or the PWM is enabled from now. -/
def State.numberPeriod (a : Nat) (s : State) : State :=
  if s.flag (PWM_AXST_EN a) then
    let s := (s.countCut a).foldGates a
    s.put (PWM_AXST_PERNUM a) (s.get (PWM_AXST_PERNUM a) + 1)
  else if (s.pax a).arming then
    ((s.mark (PWM_AXST_EN a) true).put (PWM_AXST_PERNUM a) 0).onPax a fun x => { x with arming := false }
  else s

/-- R292: the period begins now, neither cut nor off. -/
def State.beginPeriod (a : Nat) (s : State) : State :=
  s.onPax a fun x => { x with started := s.clk.elapsed, cut := false, off := false, judged := !(s.flag (PWM_AXST_EN a)) }

/-- R296: TRIPIN of the period, and the pulses that it calls for. -/
def State.showTrip (a : Nat) (trip : Bool) (s : State) : State := (s.mark (PWM_AXST_TRIPIN a) trip).setHighDue a

/-- R292, R296, R299: the gates of the period: cut by a trip, held low, or driven by the committed set. -/
def State.driveGates (a : Nat) (trip : Bool) (s : State) : State :=
  if trip then s.gatesLow a 0 else if s.gateHeld a then s.gatesOff a 0 else (s.applySet a).showSafe a

theorem State.pwmBoundary_eq (a : Nat) (s : State) : s.pwmBoundary a =
    let t := (s.wdogTick a).takeBand a
    let v := (t.numberPeriod a).beginPeriod a
    if !(v.flag (PWM_AXST_EN a)) then v else (v.showTrip a (t.tripAtBoundary a)).driveGates a (t.tripAtBoundary a) := rfl

/-! ### What each step leaves -/

/-- From `s` to `t` nothing changes that decides how the gates of axis `a` are driven: the status word, the half-bridges and the mode of the
axis, TRIP_N, the gate enables and the halts. -/
structure SameDrive (a : Nat) (s t : State) : Prop where
  status : t.rd (PWM_AXST a) = s.rd (PWM_AXST a)
  bridges : t.axBridges a = s.axBridges a
  mode : t.axCMode a = s.axCMode a
  trip : t.tripAtBoundary a = s.tripAtBoundary a
  held : t.gateHeld a = s.gateHeld a
  arming : (t.pax a).arming = (s.pax a).arming

theorem SameDrive.trans {a : Nat} {s t u : State} (h : SameDrive a s t) (g : SameDrive a t u) : SameDrive a s u :=
  ⟨g.status.trans h.status, g.bridges.trans h.bridges, g.mode.trans h.mode, g.trip.trans h.trip, g.held.trans h.held, g.arming.trans h.arming⟩

/-- What decides the drive lies in the PWM, the clock, the engines and the committed entries. -/
theorem Keeps.sameDrive {m : List Part} {s t : State} (h : Keeps m s t)
    (hm : ∀ p ∈ [Part.reg .pwm, .pwm, .reg .prf, .bulk, .clk, .eng], p ∉ m) (a : Nat) : SameDrive a s t := by
  have prf := hm (.reg .prf) (by decide)
  have bulk := hm .bulk (by decide)
  have pwm : t.pwm = s.pwm := h.same .pwm (hm .pwm (by decide))
  have clk : t.clk = s.clk := h.same .clk (hm .clk (by decide))
  have eng : t.eng = s.eng := h.same .eng (hm .eng (by decide))
  have pax : t.pax a = s.pax a := h.pax (hm .pwm (by decide)) a
  refine ⟨h.rd (hm (.reg .pwm) (by decide)) (PWM_AXST_blk a).1, h.axBridges bulk prf a, h.axCMode bulk prf a, ?_, ?_, by rw [pax]⟩
  · rw [State.tripAtBoundary, State.tripAtBoundary, pax, clk]
  · rw [State.gateHeld, State.gateHeld, pwm, eng]

/-- A change of a generator but for what TRIP_N and an enable left in it. -/
theorem SameDrive.onPax (a : Nat) (s : State) {f : PwmAxis → PwmAxis} (low : (f (s.pax a)).tripLow = (s.pax a).tripLow)
    (rose : (f (s.pax a)).tripRose = (s.pax a).tripRose) (arming : (f (s.pax a)).arming = (s.pax a).arming) : SameDrive a s (s.onPax a f) := by
  refine ⟨rfl, rfl, rfl, ?_, rfl, by rw [State.pax_onPax_same, arming]⟩
  rw [State.tripAtBoundary, State.tripAtBoundary, State.pax_onPax_same, low, rose]
  rfl

/-- A write of another word of the PWM. -/
theorem SameDrive.wr (a : Nat) (s : State) {w : Nat} (v : Nat) (hw : w / 0x1000000 = 0x16) (other : PWM_AXST a ≠ w) : SameDrive a s (s.wr w v) := by
  have keeps : Keeps [.reg .pwm] s (s.wr w v) := State.wr_keeps_of (b := .pwm) hw (Keeps.refl _ s) (by decide)
  exact ⟨State.rd_wr_ne s v other, keeps.axBridges (by decide) (by decide) a, keeps.axCMode (by decide) (by decide) a, rfl, rfl, rfl⟩

theorem PWM_AXST_ne_PWM_CMP (a n : Nat) : PWM_AXST a ≠ PWM_CMP n := by simp only [PWM_AXST, PWM_CMP]; omega
theorem PWM_AXST_ne_PWM_PER (a b : Nat) : PWM_AXST a ≠ PWM_PER b := by simp only [PWM_AXST, PWM_PER]; omega
theorem PWM_AXST_ne_PWM_TCNT (a b : Nat) : PWM_AXST a ≠ PWM_TCNT b := by simp only [PWM_AXST, PWM_TCNT]; omega

/-- R293: a new period rescales a set, and shows it where it is in force. -/
theorem State.newPeriod_sameDrive (a : Nat) (s : State) : SameDrive a s (s.newPeriod a) := by
  have staged : SameDrive a s (s.onPax a fun x => { x with stagePer := s.pwmPeriod a * 4 }) := .onPax a s rfl rfl rfl
  have rescaled (p : PwmSet) (t : State) : SameDrive a t (t.rescaleSet a p).2 :=
    (State.rescaleSet_keeps (Keeps.refl [.reg .lsh, .reg .err, .sets, .log, .axes] t) (by decide)).sameDrive (by decide) a
  have shown (l : List (Nat × Nat)) (t : State) : SameDrive a t (l.foldl (fun s e => s.wr (PWM_CMP (3 * a + e.1)) e.2) t) := by
    induction l generalizing t with
    | nil => exact ⟨rfl, rfl, rfl, rfl, rfl, rfl⟩
    | cons e l ih => exact (SameDrive.wr a t e.2 (PWM_CMP_blk _).1 (PWM_AXST_ne_PWM_CMP a _)).trans (ih _)
  unfold State.newPeriod
  dsimp only
  refine staged.trans ?_
  split
  · exact (rescaled _ _).trans (.onPax a _ rfl rfl rfl)
  · split
    · exact (((rescaled _ _).trans (.onPax a _ rfl rfl rfl)).trans (shown _ _)).trans (.wr a _ _ (PWM_PER_blk a).1 (PWM_AXST_ne_PWM_PER a a))
    · exact (rescaled _ _).trans (.onPax a _ rfl rfl rfl)
  · exact ⟨rfl, rfl, rfl, rfl, rfl, rfl⟩

/-- R187, R202: what a boundary does first. -/
theorem State.boundary_sameDrive (a : Nat) (s : State) : SameDrive a s ((s.wdogTick a).takeBand a) := by
  have ticked : SameDrive a s (s.wdogTick a) := ⟨rfl, rfl, rfl, rfl, rfl, rfl⟩
  refine ticked.trans ?_
  unfold State.takeBand
  split
  · exact ⟨rfl, rfl, rfl, rfl, rfl, rfl⟩
  · have taken : SameDrive a (s.wdogTick a) ((s.wdogTick a).onPax a fun x => { x with bandWas := none, bandAt := some s.clk.elapsed }) :=
      .onPax a _ rfl rfl rfl
    dsimp only
    split
    · exact taken.trans (State.newPeriod_sameDrive a _)
    · exact taken

/-- Without a change of the Band timing it counts the boundary for the watchdog alone. -/
theorem State.takeBand_none (a : Nat) (s : State) (h : (s.pax a).bandWas = none) : (s.wdogTick a).takeBand a = s.wdogTick a := by
  have none : ((s.wdogTick a).pax a).bandWas = none := h
  exact if_pos (by rw [none]; rfl)

/-- R298: the period that ends is counted as cut, or ends the run of cut ones; the generator and the halts stay. -/
theorem State.countCut_halted (a : Nat) (s : State) : (s.countCut a).eng.halted = s.eng.halted := by
  unfold State.countCut
  split
  · dsimp only
    split <;> rfl
  · rfl

theorem State.get_countCut (a : Nat) (s : State) {f : Fld} (hf : f.addr = PWM_AXST a) (apart : fldApart (PWM_AXST_RUN a) f = true) :
    (s.countCut a).get f = s.get f := by
  have cuts : f.addr ≠ (PWM_TCNT_CUTS a).addr := hf ▸ PWM_AXST_ne_PWM_TCNT a a
  have counted : (((s.satBump (PWM_AXST_RUN a) 1).bump (PWM_TCNT_CUTS a))).get f = s.get f := by
    rw [State.bump, State.get_put_ne _ _ _ _ cuts, State.satBump, State.get_put_apart _ _ apart]
  unfold State.countCut
  split
  · dsimp only
    split
    · exact counted
    · exact counted
  · exact State.get_put_apart _ _ apart

theorem State.get_RUN_countCut (a : Nat) (s : State) : (s.countCut a).get (PWM_AXST_RUN a) =
    if (s.pax a).cut then min (s.get (PWM_AXST_RUN a) + 1) 255 else 0 := by
  have counted : ((s.satBump (PWM_AXST_RUN a) 1).bump (PWM_TCNT_CUTS a)).get (PWM_AXST_RUN a) = min (s.get (PWM_AXST_RUN a) + 1) 255 := by
    rw [State.bump, State.get_put_ne _ _ _ _ (PWM_AXST_ne_PWM_TCNT a a), State.get_satBump_same _ _ _ (Nat.le_of_ble_eq_true rfl)]
    rfl
  unfold State.countCut
  split
  · dsimp only
    split
    · exact counted
    · exact counted
  · exact State.get_put_fits _ _ _ rfl

end Sys2Proof.Machine
end

section
/-! PROOFS. The course of a period boundary of an enabled PWM, and the statement of the PWM staging (R24, R188, R189, R202, R290 to R299). -/

namespace Sys2Proof.Machine

/-! ### A new period of an enabled PWM -/

/-- R291, R296, R298: from `s` to `w` the PWM of axis `a` has begun its next period, with `trip` for TRIP_N. -/
structure PeriodBegan (a : Nat) (trip : Bool) (s w : State) : Prop where
  keeps : Keeps [.reg .pwm, .pwm, .eng] s w
  held : w.gateHeld a = s.gateHeld a
  period : w.rd (PWM_PER a) = s.rd (PWM_PER a)
  number : w.get (PWM_AXST_PERNUM a) = (s.get (PWM_AXST_PERNUM a) + 1) % 256
  run : w.get (PWM_AXST_RUN a) = if (s.pax a).cut then min (s.get (PWM_AXST_RUN a) + 1) 255 else 0
  tripin : w.get (PWM_AXST_TRIPIN a) = b2n trip
  pax : ∃ gates due, w.pax a = { s.pax a with gates := gates, highDue := due, started := s.clk.elapsed, cut := false, off := false, judged := false }

/-- R291: the number of the next period. -/
theorem State.numberPeriod_enabled (a : Nat) {s : State} (en : s.get (PWM_AXST_EN a) = 1) : s.numberPeriod a =
    ((s.countCut a).foldGates a).put (PWM_AXST_PERNUM a) (((s.countCut a).foldGates a).get (PWM_AXST_PERNUM a) + 1) :=
  if_pos ((s.flag_iff _).mpr en)

theorem State.rd_PER_countCut (a : Nat) (s : State) : (s.countCut a).rd (PWM_PER a) = s.rd (PWM_PER a) := by
  have status : PWM_PER a ≠ PWM_AXST a := (PWM_AXST_ne_PWM_PER a a).symm
  have cuts : PWM_PER a ≠ PWM_TCNT a := by
    simp only [PWM_PER, PWM_TCNT]
    omega
  have counted : ((s.satBump (PWM_AXST_RUN a) 1).bump (PWM_TCNT_CUTS a)).rd (PWM_PER a) = s.rd (PWM_PER a) := by
    rw [State.bump, State.rd_put_ne _ _ _ cuts, State.satBump, State.rd_put_ne _ _ _ status]
  unfold State.countCut
  split
  · dsimp only
    split
    · exact counted
    · exact counted
  · exact State.rd_put_ne _ _ _ status

/-- The period of an enabled PWM is counted, numbered and begun. -/
theorem State.period_began (a : Nat) (trip : Bool) {s : State} (en : s.get (PWM_AXST_EN a) = 1) :
    PeriodBegan a trip s (((s.numberPeriod a).beginPeriod a).showTrip a trip) := by
  have counted : Keeps [.reg .pwm, .eng] s (s.countCut a) := State.countCut_keeps (Keeps.refl _ s) (by decide)
  have enabled : (s.numberPeriod a).flag (PWM_AXST_EN a) = true := by
    rw [State.flag_iff, s.numberPeriod_enabled a en, State.get_put_apart _ _ rfl]
    exact (s.get_countCut a rfl rfl).trans en
  have numbered : (s.numberPeriod a).get (PWM_AXST_PERNUM a) = (s.get (PWM_AXST_PERNUM a) + 1) % 256 := by
    rw [s.numberPeriod_enabled a en, State.get_put_fits _ _ _ rfl]
    exact congrArg (fun n => (n + 1) % 256) (s.get_countCut a (f := PWM_AXST_PERNUM a) rfl rfl)
  have folded : (s.numberPeriod a).pax a = { s.pax a with gates := ((s.numberPeriod a).pax a).gates } := by
    rw [s.numberPeriod_enabled a en]
    change ((s.countCut a).foldGates a).pax a = { s.pax a with gates := (((s.countCut a).foldGates a).pax a).gates }
    rw [State.foldGates, State.pax_onPax_same, counted.pax (by decide)]
  have keeps : Keeps [.reg .pwm, .pwm, .eng] s (s.numberPeriod a) := by
    rw [s.numberPeriod_enabled a en]
    exact State.put_keeps (PWM_AXST_PERNUM_blk a) (State.foldGates_keeps (counted.mono (by decide)) (by decide)) (by decide)
  have clk : (s.numberPeriod a).clk = s.clk := keeps.same .clk (by decide)
  have begun : ((s.numberPeriod a).beginPeriod a).pax a =
      { s.pax a with gates := ((s.numberPeriod a).pax a).gates, started := s.clk.elapsed, cut := false, off := false, judged := false } := by
    rw [State.beginPeriod, State.pax_onPax_same, enabled, clk, folded]
    rfl
  have shown : (((s.numberPeriod a).beginPeriod a).showTrip a trip).pax a = { ((s.numberPeriod a).beginPeriod a).pax a with
      highDue := ((((s.numberPeriod a).beginPeriod a).showTrip a trip).pax a).highDue } := by
    rw [State.showTrip, State.setHighDue, State.pax_onPax_same]
    rfl
  refine { keeps := ?_, held := ?_, period := ?_, number := ?_, run := ?_, tripin := ?_, pax := ?_ }
  · exact State.setHighDue_keeps (State.mark_keeps (PWM_AXST_TRIPIN_blk a) (State.onPax_keeps keeps (by decide)) (by decide)) (by decide)
  · have halted := s.countCut_halted a
    have pwm : (s.countCut a).pwm = s.pwm := counted.same .pwm (by decide)
    rw [s.numberPeriod_enabled a en]
    change (!(tabGet false (s.countCut a).pwm.genA (a / 4) && tabGet false (s.countCut a).pwm.genB (a / 4)) || (s.countCut a).pwm.coreHalt != [] ||
      (s.countCut a).eng.halted.contains (a / 4)) = s.gateHeld a
    rw [pwm, halted, State.gateHeld]
  · refine (State.rd_put_ne _ (PWM_AXST_TRIPIN a) _ (PWM_AXST_ne_PWM_PER a a).symm).trans ?_
    refine (?_ : (s.numberPeriod a).rd (PWM_PER a) = s.rd (PWM_PER a))
    rw [s.numberPeriod_enabled a en, State.rd_put_ne _ _ _ (PWM_AXST_ne_PWM_PER a a).symm]
    exact s.rd_PER_countCut a
  · exact (State.get_mark_apart _ _ rfl).trans numbered
  · refine (State.get_mark_apart _ _ rfl).trans (?_ : (s.numberPeriod a).get (PWM_AXST_RUN a) = _)
    rw [s.numberPeriod_enabled a en, State.get_put_apart _ _ rfl]
    exact s.get_RUN_countCut a
  · exact State.get_mark_fits _ _ _ rfl rfl
  · exact ⟨_, _, shown.trans (by rw [begun])⟩

/-- R292: a boundary of an enabled PWM begins a period and drives its gates. -/
theorem State.pwmBoundary_enabled (a : Nat) {s : State} (en : s.get (PWM_AXST_EN a) = 1) :
    ∃ w, PeriodBegan a (s.tripAtBoundary a) ((s.wdogTick a).takeBand a) w ∧ s.pwmBoundary a = w.driveGates a (s.tripAtBoundary a) := by
  have same := s.boundary_sameDrive a
  have enabled : ((s.wdogTick a).takeBand a).get (PWM_AXST_EN a) = 1 := (congrArg (fldOf (PWM_AXST_EN a)) same.status).trans en
  refine ⟨_, State.period_began a (s.tripAtBoundary a) enabled, ?_⟩
  have still : ((((s.wdogTick a).takeBand a).numberPeriod a).beginPeriod a).flag (PWM_AXST_EN a) = true := by
    rw [State.flag_iff, State.beginPeriod, State.numberPeriod_enabled a enabled]
    refine (State.get_put_apart _ _ rfl).trans ?_
    exact (State.get_countCut a _ rfl rfl).trans enabled
  rw [State.pwmBoundary_eq]
  dsimp only
  rw [still, same.trip]
  rfl

/-! ### The gates of a period -/

/-- The safe state that is shown lies in SAFE and GENOK of the status word. -/
theorem State.get_showSafe (s : State) (a : Nat) {f : Fld} (safe : fldApart (PWM_AXST_SAFE a) f = true) (ok : fldApart (PWM_AXST_GENOK a) f = true) :
    (s.showSafe a).get f = s.get f := by rw [State.showSafe, State.get_mark_apart _ _ ok, State.get_put_apart _ _ safe]

theorem State.rd_showSafe (s : State) (a : Nat) {w : Nat} (h : w ≠ PWM_AXST a) : (s.showSafe a).rd w = s.rd w := by
  rw [State.showSafe, State.mark, State.rd_put_ne _ _ _ h, State.rd_put_ne _ _ _ h]

theorem State.bridges_local (s : State) {a : Nat} (ha : a < 32) : s.bridges a = List.range (s.axBridges a) := if_neg (by omega)

/-- R295, R299: a half-bridge that the axis uses is among those whose gates are turned off. -/
theorem State.gatesTurnOff_low (s : State) {a : Nat} (ha : a < 32) (delay : Nat) {h : Nat} (hh : h < s.axBridges a) :
    (tabGet {} ((s.gatesTurnOff a delay).pax a).gates h).want = 0 :=
  s.gatesTurnOff_want a delay (s.bridges_local ha ▸ List.mem_range.mpr hh)

/-- Gates that are turned off are all that changes in the generator. -/
theorem State.pax_gatesTurnOff (s : State) (a delay : Nat) : ∃ gates, (s.gatesTurnOff a delay).pax a = { s.pax a with gates := gates } :=
  ⟨_, s.pax_onPax_same a _⟩

end Sys2Proof.Machine
end

section
/-! PROOFS. The statement of the PWM staging, assembled (R24, R188, R189, R202, R203, R290 to R292). -/

namespace Sys2Proof.Machine

/-! ### A boundary that applies a set, is cut, or is held low -/

/-- What decides the status of the period is not changed by the gates and by the set that is applied. -/
theorem State.get_AXST_applied (w : State) (a : Nat) {f : Fld} (hf : f.addr = PWM_AXST a) (safe : fldApart (PWM_AXST_SAFE a) f = true)
    (ok : fldApart (PWM_AXST_GENOK a) f = true) : ((w.applySet a).showSafe a).get f = w.get f := by
  rw [State.get_showSafe _ _ safe ok, State.get, State.get, hf, w.rd_AXST_applySet]

theorem State.pax_showSafe (s : State) (a b : Nat) : (s.showSafe a).pax b = s.pax b :=
  (State.showSafe_keeps (Keeps.refl [.reg .pwm] s) (by decide)).pax (by decide) b

/-- R292: a boundary that applies the committed set `set`. -/
structure SetApplied (a : Nat) (set : PwmSet) (s u : State) : Prop where
  period : u.rd (PWM_PER a) = set.per % 2 ^ 32
  timing : u.rd (PWM_TIM a) = set.dt % 65536 * 65536 + set.dwell % 65536
  applied : (u.pax a).applied.map (fun x => (x.per, x.dt, x.dwell)) = some (set.per, set.dt, set.dwell)
  committed : (u.pax a).committed = none
  cut : (u.pax a).cut = false
  started : (u.pax a).started = s.clk.elapsed
  number : u.get (PWM_AXST_PERNUM a) = (s.get (PWM_AXST_PERNUM a) + 1) % 256
  run : u.get (PWM_AXST_RUN a) = if (s.pax a).cut then min (s.get (PWM_AXST_RUN a) + 1) 255 else 0
  tripin : u.get (PWM_AXST_TRIPIN a) = 0
  compares : s.axCMode a ≠ 2 → ∀ h, h < s.axBridges a → u.rd (PWM_CMP (3 * a + h)) = tabGet 0 set.cmp h % 2 ^ 32

theorem PeriodBegan.applies {a : Nat} (ha : a < 32) {s w : State} {set : PwmSet} (h : PeriodBegan a false s w) (held : s.gateHeld a = false)
    (due : (s.pax a).committed = some set) : SetApplied a set s (w.driveGates a false) := by
  obtain ⟨gates, high, pax⟩ := h.pax
  have driven : w.driveGates a false = (w.applySet a).showSafe a := by simp [State.driveGates, h.held, held]
  have wdue : (w.pax a).committed = some set := by rw [pax, due]
  have words := w.applySet_words wdue
  have mode : w.axCMode a = s.axCMode a := h.keeps.axCMode (by decide) (by decide) a
  have bridges : w.axBridges a = s.axBridges a := h.keeps.axBridges (by decide) (by decide) a
  obtain ⟨since, after⟩ := w.pax_applySet wdue
  rw [driven]
  refine { period := ?_, timing := ?_, applied := ?_, committed := ?_, cut := ?_, started := ?_, number := ?_, run := ?_, tripin := ?_, compares := ?_ }
  · rw [State.rd_showSafe _ _ (PWM_AXST_ne_PWM_PER a a).symm, words.1]
  · rw [State.rd_showSafe _ _ (by simp only [PWM_TIM, PWM_AXST]; omega), words.2]
  · rw [State.pax_showSafe, after]
    rfl
  · rw [State.pax_showSafe, after]
  · rw [State.pax_showSafe, after, pax]
  · rw [State.pax_showSafe, after, pax]
  · rw [w.get_AXST_applied a rfl rfl rfl, h.number]
  · rw [w.get_AXST_applied a rfl rfl rfl, h.run]
  · exact (w.get_AXST_applied a rfl rfl rfl).trans h.tripin
  · intro carrier k hk
    rw [State.rd_showSafe _ _ (PWM_AXST_ne_PWM_CMP a _).symm, w.applySet_compares ha wdue (mode ▸ carrier) (bridges ▸ hk)]

/-- R296, R299: a boundary at which the gates go low: cut by the trip, or held off. -/
structure GatesLow (a : Nat) (trip : Bool) (s u : State) : Prop where
  tripin : u.get (PWM_AXST_TRIPIN a) = b2n trip
  cut : (u.pax a).cut = trip
  off : (u.pax a).off = !trip
  committed : (u.pax a).committed = (s.pax a).committed
  period : u.rd (PWM_PER a) = s.rd (PWM_PER a)
  gates : ∀ h, h < s.axBridges a → (tabGet {} (u.pax a).gates h).want = 0

theorem PeriodBegan.goesLow {a : Nat} (ha : a < 32) {trip : Bool} {s w : State} (h : PeriodBegan a trip s w) (low : trip = true ∨ s.gateHeld a = true) :
    GatesLow a trip s (w.driveGates a trip) := by
  obtain ⟨gates, due, pax⟩ := h.pax
  obtain ⟨off, turned⟩ := w.pax_gatesTurnOff a 0
  have bridges : w.axBridges a = s.axBridges a := h.keeps.axBridges (by decide) (by decide) a
  have want {k : Nat} (hk : k < s.axBridges a) : (tabGet {} off k).want = 0 := by
    have := w.gatesTurnOff_low ha 0 (bridges ▸ hk)
    rwa [turned] at this
  cases trip with
  | true =>
    have after : (w.driveGates a true).pax a = { w.pax a with gates := off, cut := true } :=
      (State.pax_onPax_same _ _ _).trans (by rw [turned])
    refine { tripin := h.tripin, cut := ?_, off := ?_, committed := ?_, period := h.period, gates := fun k hk => ?_ }
    · rw [after]
    · rw [after, pax]
      rfl
    · rw [after, pax]
    · rw [after]
      exact want hk
  | false =>
    have held : s.gateHeld a = true := low.resolve_left Bool.false_ne_true
    have driven : w.driveGates a false = w.gatesOff a 0 := by simp [State.driveGates, h.held, held]
    have after : (w.gatesOff a 0).pax a = { w.pax a with gates := off, off := true } :=
      (State.pax_onPax_same _ _ _).trans (by rw [turned])
    rw [driven]
    refine { tripin := h.tripin, cut := ?_, off := ?_, committed := ?_, period := h.period, gates := fun k hk => ?_ }
    · rw [after, pax]
    · rw [after]
      rfl
    · rw [after, pax]
    · rw [after]
      exact want hk

/-! ### The first period of a PWM (R291, R294) -/

/-- R294: a PWM that is being enabled has begun its first period. -/
structure PwmBegan (a : Nat) (u : State) : Prop where
  enabled : u.get (PWM_AXST_EN a) = 1
  number : u.get (PWM_AXST_PERNUM a) = 0
  arming : (u.pax a).arming = false
  judged : (u.pax a).judged = false

/-- The gates that are driven change neither the number of the period nor EN. -/
theorem State.get_driveGates (w : State) (a : Nat) (trip : Bool) {f : Fld} (hf : f.addr = PWM_AXST a)
    (safe : fldApart (PWM_AXST_SAFE a) f = true) (ok : fldApart (PWM_AXST_GENOK a) f = true) : (w.driveGates a trip).get f = w.get f := by
  unfold State.driveGates
  split
  · rfl
  · split
    · rfl
    · exact w.get_AXST_applied a hf safe ok

/-- The set that is applied and the gates that are driven change neither the arming of the PWM nor what has been judged. -/
theorem State.pax_driveGates (w : State) (a : Nat) (trip : Bool) :
    ((w.driveGates a trip).pax a).arming = (w.pax a).arming ∧ ((w.driveGates a trip).pax a).judged = (w.pax a).judged := by
  unfold State.driveGates
  split
  · simp [State.gatesLow, State.gatesTurnOff]
  · split
    · simp [State.gatesOff, State.gatesTurnOff]
    · rw [State.pax_showSafe]
      cases due : (w.pax a).committed with
      | none => simp [w.applySet_none due]
      | some set =>
        obtain ⟨since, after⟩ := w.pax_applySet due
        simp [after]

/-- R197: the pulses that are due are all that changes. -/
theorem State.pax_setHighDue (s : State) (a : Nat) :
    ((s.setHighDue a).pax a).arming = (s.pax a).arming ∧ ((s.setHighDue a).pax a).judged = (s.pax a).judged := by
  rw [State.setHighDue, State.pax_onPax_same]
  exact ⟨rfl, rfl⟩

/-- R291, R294: a disabled PWM that is arming is enabled, and begins the period 0. -/
theorem State.firstPeriod_began (a : Nat) (trip : Bool) {t : State} (off : t.get (PWM_AXST_EN a) = 0) (arming : (t.pax a).arming = true) :
    PwmBegan a (((t.numberPeriod a).beginPeriod a).showTrip a trip) := by
  have numbered : t.numberPeriod a = ((t.mark (PWM_AXST_EN a) true).put (PWM_AXST_PERNUM a) 0).onPax a fun x => { x with arming := false } := by
    simp [State.numberPeriod, State.flag, off, arming]
  have enabled : (t.numberPeriod a).get (PWM_AXST_EN a) = 1 := by
    rw [numbered]
    rw [State.get_onPax, State.get_put_apart _ _ rfl, State.get_mark_fits _ _ _ rfl rfl]
    rfl
  have number : (t.numberPeriod a).get (PWM_AXST_PERNUM a) = 0 := by
    rw [numbered, State.get_onPax, State.get_put_fits _ _ _ rfl, Nat.zero_mod]
  have begun : (((t.numberPeriod a).beginPeriod a).pax a).arming = false ∧ (((t.numberPeriod a).beginPeriod a).pax a).judged = false := by
    rw [State.beginPeriod, State.pax_onPax_same, (State.flag_iff _ _).mpr enabled, numbered, State.pax_onPax_same]
    exact ⟨rfl, rfl⟩
  have shown := State.pax_setHighDue (((t.numberPeriod a).beginPeriod a).mark (PWM_AXST_TRIPIN a) trip) a
  obtain ⟨armed, judged⟩ := begun
  exact ⟨(State.get_mark_apart _ _ rfl).trans enabled, (State.get_mark_apart _ _ rfl).trans number, shown.1.trans armed, shown.2.trans judged⟩

theorem State.pwmBoundary_arming (a : Nat) {s : State} (off : s.get (PWM_AXST_EN a) = 0) (arming : (s.pax a).arming = true) :
    PwmBegan a (s.pwmBoundary a) := by
  have same := s.boundary_sameDrive a
  rw [State.pwmBoundary_eq]
  generalize (s.wdogTick a).takeBand a = t at same
  dsimp only
  have disabled : t.get (PWM_AXST_EN a) = 0 := (congrArg (fldOf (PWM_AXST_EN a)) same.status).trans off
  obtain ⟨enabled, number, armed, judged⟩ := t.firstPeriod_began a (t.tripAtBoundary a) disabled (same.arming.trans arming)
  have still : ((t.numberPeriod a).beginPeriod a).flag (PWM_AXST_EN a) = true :=
    (State.flag_iff _ _).mpr ((State.get_mark_apart _ _ rfl).symm.trans enabled)
  obtain ⟨keptArming, keptJudged⟩ := State.pax_driveGates (((t.numberPeriod a).beginPeriod a).showTrip a (t.tripAtBoundary a)) a
    (t.tripAtBoundary a)
  rw [still]
  exact { enabled := (State.get_driveGates _ a _ rfl rfl rfl).trans enabled, number := (State.get_driveGates _ a _ rfl rfl rfl).trans number
          arming := keptArming.trans armed, judged := keptJudged.trans judged }

/-! ### The command of a boundary -/

/-- R292, R301: does a boundary of the PWM of axis `a` fall now, in a group that has its clock? -/
def State.atPwmBoundary (s : State) (a : Nat) : Prop :=
  s.isLocal a = true ∧ s.pwmBoundaryDue a = true ∧ a / 4 ∉ s.pwm.clkLost

theorem execPwmPeriodBoundary_due {dt : Nat} {a : Fin 32} {s : State} (h : (s.elapse dt).atPwmBoundary a) :
    exec (.pwmPeriodBoundary dt a) s = .next ((s.elapse dt).pwmBoundary a) := by
  obtain ⟨axis, due, clock⟩ := h
  exact congrArg Host.Outcome.next (if_pos (by simp [axis, due, clock]))

theorem execPwmPeriodBoundary_none {dt : Nat} {a : Fin 32} {s : State} (h : ¬(s.elapse dt).atPwmBoundary a) :
    exec (.pwmPeriodBoundary dt a) s = .next (s.elapse dt) := by
  refine congrArg Host.Outcome.next (if_neg fun due => h ?_)
  simpa [State.atPwmBoundary, and_assoc] using due

/-! ### The command of a transfer -/

/-- R27: the transfers that are still awaited when the one with tag `id` has completed. -/
def State.takeTransfer (id : Nat) (s : State) : State :=
  s.onEng fun e => { e with transfers := e.transfers.filter fun u => u.id != id }

theorem execHandshakeTransfer_awaited {dt id : Nat} (isl : Fin 31) {t : Transfer} {s : State}
    (h : s.eng.transfers.find? (fun x => x.id == id) = some t) :
    exec (.handshakeTransfer dt id isl) s = .next (((s.elapse dt).takeTransfer id).stageWrite t) := by
  change Host.Outcome.next (match s.eng.transfers.find? fun x => x.id == id with
    | some t => ((s.elapse dt).takeTransfer id).stageWrite t
    | none => (s.elapse dt).orphanOp 0 isl id) = _
  rw [h]

theorem execHandshakeTransfer_orphan {dt id : Nat} (isl : Fin 31) {s : State} (h : s.eng.transfers.find? (fun x => x.id == id) = none) :
    exec (.handshakeTransfer dt id isl) s = .next ((s.elapse dt).orphanOp 0 isl id) := by
  change Host.Outcome.next (match s.eng.transfers.find? fun x => x.id == id with
    | some t => ((s.elapse dt).takeTransfer id).stageWrite t
    | none => (s.elapse dt).orphanOp 0 isl id) = _
  rw [h]

theorem State.takeTransfer_keeps (dt id : Nat) (s : State) : Keeps [.clk, .sets, .eng] s ((s.elapse dt).takeTransfer id) :=
  State.onEng_keeps (State.elapse_keeps (Keeps.refl _ s) (by decide)) (by decide)

/-- What an operation changes after another that keeps all but the parts `m`. -/
theorem Keeps.thenOnlyChanges {m n : List Part} {l : List Nat} {s t u : State} (h : Keeps m s t) (g : OnlyChanges n l t u) :
    OnlyChanges (m ++ n) l s u := by
  obtain ⟨pending, same⟩ := g
  refine ⟨pending.trans h.pending, fun p hp => ?_⟩
  rw [List.mem_append, not_or] at hp
  obtain ⟨first, second⟩ := hp
  have now := same p second
  have before := h.same p first
  cases p with
  | reg b => exact fun a ha hl => (now a ha hl).trans (before a ha)
  | _ => exact now.trans before

/-- R291: what a staged compare value leaves. -/
structure CompareStaged (t : Transfer) (h : Nat) (s u : State) : Prop where
  engine : u.eng = s.eng
  value : tabGet 0 (u.pax t.axis).stage h = t.value
  word : u.rd (PWM_SCMP (3 * t.axis + h)) = t.value % 2 ^ 32
  valid : bit (u.get (PWM_STG_CMPV t.axis)) h = true
  period : u.get (PWM_STG_SPER t.axis) = t.per % 256
  rest : OnlyChanges [.pwm] [PWM_STG t.axis, PWM_SCMP (3 * t.axis + h)] s u

theorem State.stageWrite_compare {s : State} {t : Transfer} (time : s.inTime t) {h : Fin 3} (ch : t.ch = some h.val) :
    CompareStaged t h s (s.stageWrite t) := by
  obtain ⟨value, word, valid, period⟩ := State.stageCompare_staged t h (s.stageFor t)
  have keeps : Keeps [.reg .pwm, .pwm] s ((s.stageFor t).stageCompare t h) :=
    ((State.stageFor_keeps t s).mono (by decide)).trans (State.stageCompare_keeps t h _)
  rw [State.stageWrite_inTime time, ch]
  refine ⟨keeps.same .eng (by decide), value, word, valid, period.trans (State.get_SPER_stageFor t s), keeps.onlyChanges_words fun a _ ha => ?_⟩
  rw [State.rd_stageCompare t h _ ha, State.rd_stageFor t s fun c => ha (c ▸ List.mem_cons_self)]

/-- R291: what a staged commit request leaves. -/
structure CommitStaged (t : Transfer) (s u : State) : Prop where
  engine : u.eng = s.eng
  commit : u.get (PWM_STG_COMMIT t.axis) = 1
  period : u.get (PWM_STG_SPER t.axis) = t.per % 256
  rest : OnlyChanges [] [PWM_STG t.axis] s u

theorem State.stageWrite_commit {s : State} {t : Transfer} (time : s.inTime t) (ch : t.ch = none) : CommitStaged t s (s.stageWrite t) := by
  have keeps : Keeps [.reg .pwm] s ((s.stageFor t).mark (PWM_STG_COMMIT t.axis) true) :=
    State.mark_keeps (PWM_STG_COMMIT_blk t.axis) (State.stageFor_keeps t s) (by decide)
  rw [State.stageWrite_inTime time, ch]
  refine ⟨keeps.same .eng (by decide), State.get_mark_fits _ _ _ rfl rfl, ?_, keeps.onlyChanges_words fun a _ ha => ?_⟩
  · exact (State.get_mark_apart _ _ rfl).trans (State.get_SPER_stageFor t s)
  · rw [List.mem_singleton] at ha
    rw [State.mark, State.rd_put_ne _ _ _ ha, State.rd_stageFor t s ha]

theorem State.eng_lateWrite (s : State) (a : Nat) : (s.lateWrite a).eng = s.eng :=
  (State.lateWrite_keeps (Keeps.refl [.reg .eng] s) (by decide)).same .eng (by decide)

/-- R28: an orphan of the kind `kind` is counted; no transfer that is awaited is taken. -/
theorem State.orphanOp_counted (s : State) (kind isl tag : Nat) : (s.orphanOp kind isl tag).eng.transfers = s.eng.transfers ∧
    tabGet 0 (s.orphanOp kind isl tag).eng.orphans kind = tabGet 0 s.eng.orphans kind + 1 := by
  have reported (t : State) : (t.report isl 5 0 0 tag isl).eng = t.eng :=
    (State.report_keeps (Keeps.refl [.reg .err, .log] t) (by decide)).same .eng (by decide)
  rw [State.orphanOp, reported]
  exact ⟨rfl, tabGet_tabSet_same _ _ _ _⟩

/-! ### What the write phase leaves (R189, R202, R292) -/

/-- R292: the complete set is committed. -/
structure SetCommitted (a : Nat) (s u : State) : Prop where
  set : (u.pax a).committed.map (fun x => (x.per, x.dt, x.dwell)) =
    some ((s.pax a).stagePer, max (s.get (PWM_AX_DT a)) (s.get (LSH_DTF_EFF a)), max (s.get (PWM_AXD_DWELL a)) (s.get (LSH_MPW_EFF a)))
  request : u.get (PWM_STG_COMMIT a) = 0
  valid : u.get (PWM_STG_CMPV a) = 0
  judged : (u.pax a).judged = true
  applied : (u.pax a).applied = (s.pax a).applied
  state : u.axState a = s.axState a

theorem State.pax_judge (a : Nat) (s : State) : (s.judge a).pax a = { s.pax a with judged := true } := s.pax_onPax_same a _

theorem State.writePhaseNow_committed {s : State} {a : Nat} (h : s.atWritePhase a) (c : s.setComplete a) : SetCommitted a s (s.writePhaseNow a) := by
  obtain ⟨t, keeps, pax, made⟩ := State.commitSet_eq a (s.judge a)
  have marked : Keeps [.reg .pwm] t ((t.mark (PWM_STG_COMMIT a) false).put (PWM_STG_CMPV a) 0) :=
    State.put_keeps (PWM_STG_CMPV_blk a) (State.mark_keeps (PWM_STG_COMMIT_blk a) (Keeps.refl _ t) (by decide)) (by decide)
  have after := (marked.pax (by decide) a).trans pax
  have state : t.axState a = s.axState a := (keeps.get (by decide) (PRF_AXST_STATE_blk a)).trans (s.get_onPax a _ _)
  rw [s.pax_judge] at after
  rw [State.writePhaseNow_commits h c, made]
  refine { set := by rw [after, State.dueSet, s.pax_judge]; rfl, request := ?_, valid := ?_, judged := by rw [after], applied := by rw [after],
           state := (marked.get (by decide) (PRF_AXST_STATE_blk a)).trans state }
  · rw [State.get_put_apart _ _ rfl, State.get_mark_fits _ _ _ rfl rfl]
    rfl
  · rw [State.get_put_fits _ _ _ rfl, Nat.zero_mod]

/-- R202: the watchdog acts on the loop, the staging and the axis alone. -/
theorem State.watchdog_keeps (s : State) (a : Nat) : Keeps [.reg .pwm, .pwm, .reg .eng, .sets, .axes] s (s.watchdog a) := by
  refine State.onAxis_keeps (State.put_keeps (ENG_CST_RUN_blk a) (State.satBump_keeps (ENG_WD_WDCNT_blk a)
    (State.latch_keeps (ENG_CST_WDOG_blk a) ?_ (by decide)) (by decide)) (by decide)) (by decide)
  exact State.wr_keeps (PWM_STG_blk a) (State.onPax_keeps (Keeps.refl _ s) (by decide)) (by decide)

/-- R202: the watchdog has acted at the write phase, and an enabled axis is in FAULT with its torque still on. -/
theorem State.writePhaseNow_missed {s : State} {a : Nat} (h : s.atWritePhase a) (c : ¬s.setComplete a) :
    WatchdogActed a s (s.writePhaseNow a) ∧ (1 ≤ s.axState a ∧ s.axState a ≤ 5 → Latched a 2 (s.writePhaseNow a)) := by
  have judged : WatchdogActed a s ((s.judge a).watchdog a) := by
    obtain ⟨wdog, count, run, committed, stage, staging, wdogIn, enabled⟩ := (s.judge a).watchdog_acted a
    exact ⟨wdog, count, run, committed.trans (by rw [s.pax_judge]), stage, staging, wdogIn, enabled⟩
  have state : ((s.judge a).watchdog a).axState a = s.axState a :=
    ((State.watchdog_keeps _ a).get (by decide) (PRF_AXST_STATE_blk a)).trans (State.get_onPax s a _ _)
  rw [State.writePhaseNow_watchdog h c]
  refine ⟨judged.defers (State.faultWith_defers _ a 0 _ 5 (by decide)), fun live => ?_⟩
  exact State.faultWith_latches _ 0 _ 5 true (by rw [state]; exact live) (by decide)

/-! ### What a boundary leaves -/

/-- R292: a boundary of an enabled PWM with a set due, neither tripped nor held low. -/
theorem State.pwmBoundary_applies {s : State} {a : Nat} (ha : a < 32) {set : PwmSet} (en : s.get (PWM_AXST_EN a) = 1)
    (trip : s.tripAtBoundary a = false) (band : (s.pax a).bandWas = none) (held : s.gateHeld a = false)
    (due : (s.pax a).committed = some set) : SetApplied a set (s.wdogTick a) (s.pwmBoundary a) := by
  obtain ⟨w, began, boundary⟩ := State.pwmBoundary_enabled a en
  rw [s.takeBand_none a band, trip] at began
  rw [boundary, trip]
  exact began.applies ha held due

/-- R296, R299: a boundary of an enabled PWM that is tripped or held low. -/
theorem State.pwmBoundary_goesLow {s : State} {a : Nat} (ha : a < 32) {trip : Bool} (en : s.get (PWM_AXST_EN a) = 1)
    (cause : s.tripAtBoundary a = trip) (low : trip = true ∨ s.gateHeld a = true) :
    GatesLow a trip ((s.wdogTick a).takeBand a) (s.pwmBoundary a) := by
  obtain ⟨w, began, boundary⟩ := State.pwmBoundary_enabled a en
  rw [cause] at began
  rw [boundary, cause]
  exact began.goesLow ha (low.imp_right (s.boundary_sameDrive a).held.trans)

/-! ### The statement -/

/-- Settles O38: each completed transfer is in time, late or an orphan; each write phase commits, calls the watchdog or has been judged; and
each boundary applies the committed set, or holds the gates low. -/
theorem pwmStaging : Obligations.PwmStaging := by
  refine ⟨?compare, ?request, ?late, ?orphan, ?commit, ?watchdog, ?noPhase, ?torqueOff, ?noTorqueOff, ?apply, ?trip, ?arming, ?held, ?noBoundary⟩
  case compare =>
    intro dt tid isl t h s awaited en per time ch
    obtain ⟨engine, value, word, valid, period, rest⟩ :=
      State.stageWrite_compare (s := (s.elapse dt).takeTransfer tid) ⟨en, per, time⟩ ch
    have others := ((s.takeTransfer_keeps dt tid).thenOnlyChanges rest).mono (n := [.clk, .eng, .pwm, .sets]) (by decide) (List.Subset.refl _)
    exact ⟨_, execHandshakeTransfer_awaited isl awaited, congrArg Engines.transfers engine, value, word, valid, period, others⟩
  case request =>
    intro dt tid isl t s awaited en per time ch
    obtain ⟨engine, commit, period, rest⟩ := State.stageWrite_commit (s := (s.elapse dt).takeTransfer tid) ⟨en, per, time⟩ ch
    have others := ((s.takeTransfer_keeps dt tid).thenOnlyChanges rest).mono (n := [.clk, .eng, .pwm, .sets]) (by decide) (List.Subset.refl _)
    exact ⟨_, execHandshakeTransfer_awaited isl awaited, congrArg Engines.transfers engine, commit, period, others⟩
  case late =>
    intro dt tid isl t s awaited late
    have missed : ¬((s.elapse dt).takeTransfer tid).inTime t := by
      rintro ⟨en, per, time⟩
      rcases late with off | other | passed
      · exact absurd (off.symm.trans en) (by decide)
      · exact other per
      · exact absurd time (not_lt.mpr passed)
    obtain ⟨axis, engine⟩ := State.lateWrite_counts t.axis ((s.elapse dt).takeTransfer tid)
    have others := ((s.takeTransfer_keeps dt tid).thenOnlyChanges (State.lateWrite_onlyChanges t.axis _)).mono
      (n := [.clk, .eng, .sets]) (by decide) (List.Subset.refl _)
    refine ⟨_, execHandshakeTransfer_awaited isl awaited, ?_⟩
    rw [State.stageWrite_late missed]
    exact ⟨congrArg Engines.transfers (State.eng_lateWrite _ _), axis, engine, others⟩
  case orphan =>
    intro dt tid isl s none
    obtain ⟨transfers, counted⟩ := (s.elapse dt).orphanOp_counted 0 isl tid
    have keeps : Keeps [.clk, .eng, .log, .reg .err, .sets] s ((s.elapse dt).orphanOp 0 isl tid) :=
      State.orphanOp_keeps (State.elapse_keeps (Keeps.refl _ s) (by decide)) (by decide)
    exact ⟨_, execHandshakeTransfer_orphan isl none, transfers, counted, keeps.onlyChanges []⟩
  case commit =>
    intro dt a s en judged run time complete
    obtain ⟨set, request, valid, done, applied, state⟩ :=
      State.writePhaseNow_committed (s := s.elapse dt) ⟨en, judged, run, time⟩ complete
    exact ⟨_, rfl, set, request, valid, done, applied, state⟩
  case watchdog =>
    intro dt a s en judged run time incomplete
    obtain ⟨⟨wdog, count, loop, committed, stage, staging, wdogIn, enabled⟩, faults⟩ :=
      State.writePhaseNow_missed (s := s.elapse dt) ⟨en, judged, run, time⟩ incomplete
    refine ⟨_, rfl, wdog, count, loop, committed, stage, staging, .inl wdogIn, fun live => ?_⟩
    obtain ⟨state, cause, react⟩ := faults live
    exact ⟨state, cause, react, enabled.trans en⟩
  case noPhase =>
    intro dt a s idle
    refine ⟨_, congrArg Host.Outcome.next (State.writePhaseNow_idle ?_), rfl⟩
    rintro ⟨en, judged, run, time⟩
    rcases idle with off | done | stopped | early
    · exact absurd (off.symm.trans en) (by decide)
    · exact absurd (done.symm.trans judged) (by decide)
    · exact stopped run
    · exact absurd time (not_le.mpr early)
  case torqueOff =>
    intro dt a s due
    obtain ⟨enabled, braked, wdogIn, reacted, run, state⟩ := (s.elapse dt).torqueOff_off a.isLt 5
    exact ⟨_, congrArg Host.Outcome.next (if_pos due), enabled, braked, wdogIn, reacted, run, state⟩
  case noTorqueOff =>
    intro dt a s idle
    exact ⟨_, congrArg Host.Outcome.next (if_neg idle), rfl⟩
  case apply =>
    intro dt a set s axis due clock en trip band held committed
    obtain ⟨period, timing, applied, none, cut, started, number, run, tripin, compares⟩ :=
      State.pwmBoundary_applies (s := s.elapse dt) a.isLt en trip band held committed
    refine ⟨_, execPwmPeriodBoundary_due ⟨axis, due, clock⟩, period, timing, applied, none, cut, number, tripin, started,
      fun was => ?_, fun was => ?_, fun carrier h hh => compares carrier h hh⟩
    · exact run.trans (if_pos was)
    · exact run.trans (if_neg (was.trans_ne Bool.false_ne_true))
  case trip =>
    intro dt a s axis due clock en trip
    obtain ⟨tripin, cut, -, committed, period, gates⟩ := State.pwmBoundary_goesLow (s := s.elapse dt) a.isLt en trip (.inl rfl)
    have bridges := (State.boundary_sameDrive a (s.elapse dt)).bridges
    refine ⟨_, execPwmPeriodBoundary_due ⟨axis, due, clock⟩, tripin, cut, fun band => ?_, fun band => ?_, fun h hh => gates h (bridges ▸ hh)⟩
    · rw [committed, State.takeBand_none a (s.elapse dt) band]
      rfl
    · rw [period, State.takeBand_none a (s.elapse dt) band]
      rfl
  case arming =>
    intro dt a s axis due clock off arming
    obtain ⟨enabled, number, armed, judged⟩ := State.pwmBoundary_arming a (s := s.elapse dt) off arming
    exact ⟨_, execPwmPeriodBoundary_due ⟨axis, due, clock⟩, enabled, number, armed, judged⟩
  case held =>
    intro dt a s axis due clock en trip held
    obtain ⟨tripin, cut, off, -, -, gates⟩ := State.pwmBoundary_goesLow (s := s.elapse dt) a.isLt en trip (.inr held)
    have bridges := (State.boundary_sameDrive a (s.elapse dt)).bridges
    exact ⟨_, execPwmPeriodBoundary_due ⟨axis, due, clock⟩, tripin, off, cut, fun h hh => gates h (bridges ▸ hh)⟩
  case noBoundary =>
    intro dt a s idle
    refine ⟨_, execPwmPeriodBoundary_none ?_, rfl⟩
    rintro ⟨axis, due, clock⟩
    rcases idle with other | later | lost
    · exact absurd (other.symm.trans axis) (by decide)
    · exact absurd (later.symm.trans due) (by decide)
    · exact clock lost

end Sys2Proof.Machine
end

section
/-! PROOFS. Reset by the supervisor and by RESET_N, and the release that begins a start (R44, R48 to R50, R55, R56, R76, R92). -/

namespace Sys2Proof.Machine

/-! ### What reset leaves (R44, R76, R92) -/

/-- The words of a part in reset hold their reset values, but for the count of starts and the number of records in MRAM. -/
theorem State.rd_enterReset (s : State) {a : Nat} (ha : a ∉ [ERR_BOOT, ERR_LOGST]) : s.enterReset.rd a = resetWord a % 2 ^ 32 := by
  simp only [List.mem_cons, List.not_mem_nil, or_false, not_or] at ha
  obtain ⟨starts, records⟩ := ha
  unfold State.enterReset
  dsimp only
  rw [State.showSlots, State.rd_put_ne _ _ _ records, State.rd_wr_ne _ _ starts, Nat.mod_eq_of_lt (resetWord_lt a)]
  rfl

/-- With no severe record waiting, reset writes nothing to MRAM (R492). -/
theorem State.slots_enterReset (s : State) (empty : s.log.toPersist = []) : s.enterReset.log.slots = s.log.slots := by
  have unchanged : s.lastPersist = s := if_pos empty
  change s.lastPersist.log.slots = s.log.slots
  rw [unchanged]

/-- What a reset of `s` leaves in `u`, whatever the reason for it. -/
structure AtReset (s u : State) : Prop where
  words : ∀ a, a ∉ [ERR_BOOT, ERR_LOGST] → u.rd a = resetWord a % 2 ^ 32
  starts : u.rd ERR_BOOT = s.rd ERR_BOOT
  bulk : u.bulk = []
  flash : u.boot.flash = s.boot.flash
  lastRecipe : u.boot.lastRecipe = s.boot.lastRecipe
  minSec : u.boot.minSec = s.boot.minSec
  started : u.boot.started = false
  que : u.que = State.reset.que
  knl : u.knl = State.reset.knl
  running : u.clk.running = false

theorem State.enterReset_atReset (s : State) : AtReset s s.enterReset := by
  obtain ⟨boot, starts, -, running, bulk⟩ := s.enterReset_eq
  exact
    { words := fun _ => s.rd_enterReset
      starts, bulk, running
      flash := by rw [boot]; rfl
      lastRecipe := by rw [boot]; rfl
      minSec := by rw [boot]; rfl
      started := by rw [boot]; rfl
      que := rfl
      knl := rfl }

/-- What happens on the way into reset does not bear on what it leaves, if it spares the count of starts and what MRAM and the flash hold. -/
theorem AtReset.of_before {s t u : State} (h : AtReset t u) (starts : t.rd ERR_BOOT = s.rd ERR_BOOT) (flash : t.boot.flash = s.boot.flash)
    (lastRecipe : t.boot.lastRecipe = s.boot.lastRecipe) (minSec : t.boot.minSec = s.boot.minSec) : AtReset s u :=
  { h with
    starts := h.starts.trans starts
    flash := h.flash.trans flash
    lastRecipe := h.lastRecipe.trans lastRecipe
    minSec := h.minSec.trans minSec }

/-! ### The supplies (R48 to R50) -/

/-- R50: VQSPI is on while VIN is, and starts at 1.8 V. -/
theorem Boot.vqspi_supplies (b : Boot) (vin : VinLevel) (vio regs : Bool) (now : Nat) : (b.supplies vin vio regs now).vqspi =
    if vin = .ok then (if b.vqspi = .off then .initial else b.vqspi) else .off := by
  cases vin <;> simp [Boot.supplies]

/-- R48: PWR_GOOD is low while a condition of the supervisor is true. -/
theorem powerGood_eq_false {vin : VinLevel} {vio regs : Bool} (h : vin ≠ .ok ∨ vio = false ∨ regs = false) :
    (vin == .ok && vio && regs) = false := by
  simp only [Bool.and_eq_false_iff, beq_eq_false_iff_ne]
  tauto

theorem State.supplyFault_atReset (s : State) {vin : VinLevel} {vio regs : Bool} (low : (vin == .ok && vio && regs) = false) :
    AtReset s (s.supplyFault vin vio regs) := by
  rw [s.supplyFault_low vin vio regs low]
  refine (State.enterReset_atReset _).of_before ?_ ?_ ?_ ?_
  · rw [State.rd_onBoot, State.rd_ERR_BOOT_endsOperation, State.rd_onBoot]
  all_goals rw [onBoot_boot, State.boot_endsOperation]; rfl

/-- VQSPI does not depend on whether the part is in reset (R50). -/
theorem State.vqspi_supplyFault (s : State) {vin : VinLevel} {vio regs : Bool} (low : (vin == .ok && vio && regs) = false) :
    (s.supplyFault vin vio regs).boot.vqspi = if vin = .ok then (if s.boot.vqspi = .off then .initial else s.boot.vqspi) else .off := by
  rw [s.supplyFault_low vin vio regs low, (State.enterReset_eq _).1, onBoot_boot, State.boot_endsOperation]
  exact s.boot.vqspi_supplies vin vio regs s.clk.elapsed

/-- Outside operation nothing is logged on the way into reset (R49). -/
theorem State.slots_supplyFault (s : State) {vin : VinLevel} {vio regs : Bool} (low : (vin == .ok && vio && regs) = false)
    (idle : s.boot.started = false) (empty : s.log.toPersist = []) : (s.supplyFault vin vio regs).log.slots = s.log.slots := by
  rw [s.supplyFault_low vin vio regs low]
  set seen := s.onBoot fun b => b.supplies vin vio regs s.clk.elapsed
  have off : ¬seen.boot.started = true := (Bool.eq_false_iff.mp idle : s.boot.started ≠ true)
  have quiet : seen.endsOperation = seen := if_neg off
  rw [quiet]
  exact State.slots_enterReset _ empty

/-- R48: with no condition of the supervisor true, the loader only notes the supplies. -/
theorem State.supplyFault_good (s : State) : s.supplyFault .ok true true = s.onBoot fun b => b.supplies .ok true true s.clk.elapsed := rfl

/-! ### The beginning of a start (R55, R56, R76) -/

/-- A state that keeps all but the parts `m` and words at `l` in the blocks `bs` changes nothing else. -/
theorem Keeps.onlyChanges_blocks {m : List Part} {bs : List Block} {l : List Nat} {s t : State} (h : Keeps (bs.map .reg ++ m) s t)
    (words : ∀ b ∈ bs, ∀ a, a / 0x1000000 = b.num → a ∉ l → t.rd a = s.rd a) : OnlyChanges m l s t := by
  refine ⟨h.pending, fun p hp => ?_⟩
  cases p with
  | reg b =>
    intro a ha hl
    by_cases listed : b ∈ bs
    · exact words b listed a ha hl
    · exact h.rd (by simp [listed, hp]) ha
  | _ => exact h.same _ (by simpa using hp)

/-- R76: the last hold has ended in `s`: the start sequence has begun with the levels `qv`, `ck` and `test` of the straps, and nothing
changes but the loader, the count of starts and the state of the start. -/
structure Began (qv ck test : Bool) (s u : State) : Prop where
  held : u.boot.held = false
  resetLow : u.boot.resetLow = false
  starts : u.rd ERR_BOOT = (s.rd ERR_BOOT + 1) % 2 ^ 32
  state : u.get CFG_STATE_STATE = if test then 0xF else 0
  started : u.boot.started = true
  qvsel : u.boot.qvsel = qv
  clksel : u.boot.clksel = ck
  others : OnlyChanges [.boot] [ERR_BOOT, CFG_STATE] s u

theorem State.startSequence_free (s : State) (held : s.boot.held = false) (high : s.boot.resetLow = false) : s.startSequence =
    ((s.bump (whole ERR_BOOT)).onBoot fun b => { b with started := true, startAt := s.clk.elapsed }).put CFG_STATE_STATE
      (if s.boot.testMode then 0xF else 0) := by
  have free : ¬(s.boot.held || s.boot.resetLow) = true := by simp [held, high]
  exact if_neg free

/-- The start sequence begins when neither the supervisor nor RESET_N holds the part; up to `t` the
loader has only noted what ended the hold. -/
theorem State.startSequence_began {s t : State} {qv ck test : Bool} (noted : Keeps [.boot] s t) (held : t.boot.held = false)
    (high : t.boot.resetLow = false) (qvsel : t.boot.qvsel = qv) (clksel : t.boot.clksel = ck) (mode : t.boot.testMode = test) :
    Began qv ck test s t.startSequence := by
  have keeps : Keeps ([Block.cfg, .err].map .reg ++ [.boot]) s t.startSequence :=
    State.startSequence_keeps (noted.mono (by decide)) (by decide)
  rw [t.startSequence_free held high] at keeps ⊢
  refine
    { held, resetLow := high, starts := ?_, state := ?_, started := rfl, qvsel, clksel
      others := keeps.onlyChanges_blocks fun b _ a ha hl => ?_ }
  · rw [State.rd_put_ne _ _ _ (by decide), State.rd_onBoot, State.rd_bump_whole, noted.rd (b := .err) (by decide) (by decide)]
  · rw [State.get_put_fits _ _ _ rfl, mode]
    cases test <;> rfl
  · simp only [List.mem_cons, List.not_mem_nil, or_false, not_or] at hl
    obtain ⟨starts, state⟩ := hl
    rw [State.rd_put_ne _ _ _ state, State.rd_onBoot, State.bump, State.rd_put_ne _ _ _ starts]
    exact noted.rd (by simp) ha

/-- R48: the supervisor releases a part 10 ms after the last of its conditions has ended. -/
theorem State.release_began (s : State) (qv ck test : Bool) (held : s.boot.held = true) (good : s.boot.powerGood = true)
    (waited : s.boot.supplyAt + 10000000 ≤ s.clk.elapsed) (high : s.boot.resetLow = false) :
    Began qv ck test s (s.release qv ck test) := by
  have may : (s.boot.held && s.boot.powerGood && decide (s.boot.supplyAt + 10000000 ≤ s.clk.elapsed)) = true := by
    simp [held, good, waited]
  rw [State.release, if_pos may]
  have noted : Keeps [.boot] s (s.straps qv ck test) := State.straps_keeps (Keeps.refl _ s) (by decide)
  exact State.startSequence_began (State.onBoot_keeps noted (by decide)) rfl high rfl rfl rfl

/-- R76: RESET_N goes high while the supervisor does not hold the part. -/
theorem State.resetHigh_began (s : State) (qv ck test : Bool) (low : s.boot.resetLow = true) (free : s.boot.held = false) :
    Began qv ck test s (s.resetHigh qv ck test) := by
  have holds : ¬(!s.boot.resetLow) = true := by simp [low]
  rw [State.resetHigh, if_neg holds]
  have noted : Keeps [.boot] s (s.straps qv ck test) := State.straps_keeps (Keeps.refl _ s) (by decide)
  exact State.startSequence_began (State.onBoot_keeps noted (by decide)) free rfl rfl rfl rfl

/-! ### The statement -/

/-- Settles O11: both ways into reset go through `enterReset`, both releases through `startSequence`. -/
theorem resetAndRelease : Obligations.ResetAndRelease := by
  refine ⟨?supplyLow, ?supplyBack, ?resetLow, ?supervisor, ?resetHigh⟩
  case supplyLow =>
    intro dt vin vio regs s fault
    have low := powerGood_eq_false fault
    have reset := (s.elapse dt).supplyFault_atReset low
    have held := (s.elapse dt).supplyFault_inReset low
    have jtag : ((s.elapse dt).supplyFault vin vio regs).jtag = s.jtag :=
      (exec_keeps (i := .supplyFault dt vin vio regs) rfl).same .jtag (by simp [commandTouches])
    exact ⟨_, rfl, fun _ => reset.words _, reset.words, reset.starts, reset.bulk, reset.flash, reset.lastRecipe, reset.minSec,
      reset.started, jtag, reset.que, reset.knl, reset.running, held.held, held.powerGood,
      (s.elapse dt).vqspi_supplyFault low, fun still => (s.elapse dt).slots_supplyFault low still.1 still.2⟩
  case supplyBack =>
    intro dt vin vio regs s hvin hvio hregs
    subst hvin hvio hregs
    have keeps : Keeps [.boot] (s.elapse dt) ((s.elapse dt).supplyFault .ok true true) :=
      (s.elapse dt).supplyFault_good ▸ State.onBoot_keeps (Keeps.refl _ _) (by decide)
    have others := (keeps.onlyChanges []).of_elapse.mono (n := [.clk, .boot, .sets]) (by decide) (List.Subset.refl _)
    exact ⟨_, rfl, rfl, rfl, s.boot.vqspi_supplies .ok true true _, rfl, others⟩
  case resetLow =>
    intro dt s
    have reset : AtReset s (s.elapse dt).resetLow := (State.enterReset_atReset _).of_before rfl rfl rfl rfl
    have low : (s.elapse dt).resetLow.boot.resetLow = true := by
      rw [State.resetLow, (State.enterReset_eq _).1]
      rfl
    have jtag : (s.elapse dt).resetLow.jtag = s.jtag :=
      (exec_keeps (i := .resetNAssert dt) rfl).same .jtag (by simp [commandTouches])
    exact ⟨_, rfl, fun _ => reset.words _, reset.words, reset.starts, reset.bulk, reset.flash, reset.lastRecipe, reset.minSec,
      reset.started, jtag, reset.que, reset.knl, reset.running, low, State.slots_enterReset ((s.elapse dt).onBoot _)⟩
  case supervisor =>
    intro dt qv ck test s held good waited high
    have began := (s.elapse dt).release_began qv ck test held good waited high
    exact ⟨_, rfl, began.held, began.starts, began.state, began.started, began.qvsel, began.clksel,
      began.others.of_elapse.mono (by decide) (List.Subset.refl _)⟩
  case resetHigh =>
    intro dt qv ck test s low free
    have began := (s.elapse dt).resetHigh_began qv ck test low free
    exact ⟨_, rfl, began.resetLow, began.starts, began.state, began.started, began.qvsel, began.clksel,
      began.others.of_elapse.mono (by decide) (List.Subset.refl _)⟩

end Sys2Proof.Machine
end

section
/-! PROOFS. The motion commands that are rejected (R86, R123, R141, R144, R161, R166, R167, R169). -/

namespace Sys2Proof.Machine

variable {s : State} {c : MotCmd} {n : Nat}

/-! ### Why a command is rejected, reason by reason -/

theorem State.flag_eq_false {f : Fld} (h : s.get f = 0) : s.flag f = false := by simp [State.flag, h]

theorem State.cmdRejects_malformed (h : c.malformed = true) : s.cmdRejects c = 1 := if_pos h

/-- A well-formed command of an axis is judged by that axis. -/
theorem State.cmdRejects_axis (h : c.malformed = false) (known : (cmdSels c.op c.mode).isSome = true)
    (axis : c.op ∉ [0x20, 0x21, 0x30]) : s.cmdRejects c = s.axisRejects c.index c := by
  simp only [List.mem_cons, List.not_mem_nil, or_false, not_or] at axis
  obtain ⟨vel, set, abort⟩ := axis
  have named : (cmdSels c.op c.mode).isNone = false := by simpa [Option.isSome_iff_ne_none] using known
  rw [State.cmdRejects, h, named, if_neg Bool.false_ne_true, if_neg Bool.false_ne_true, if_neg (by simp [vel, set]), if_neg abort]

/-- A well-formed command of a virtual master is judged by that master. -/
theorem State.cmdRejects_vmVel (h : c.malformed = false) (op : c.op = 0x20) : s.cmdRejects c = s.vmRejects c.index c := by
  have named : (cmdSels c.op c.mode).isNone = false := by rw [op]; rfl
  rw [State.cmdRejects, h, named, if_neg Bool.false_ne_true, if_neg Bool.false_ne_true, if_pos (.inl op)]

/-- R162: an abort of a group that is not there, or neither RUNNING nor HOLD nor STARVED. -/
theorem State.cmdRejects_abort (h : c.malformed = false) (op : c.op = 0x30)
    (ended : 16 ≤ c.index ∨ s.get (PRF_GRPST_STATE c.index) ≤ 1 ∨ 5 ≤ s.get (PRF_GRPST_STATE c.index)) : s.cmdRejects c = 3 := by
  have named : (cmdSels c.op c.mode).isNone = false := by rw [op]; rfl
  rw [State.cmdRejects, h, named, if_neg Bool.false_ne_true, if_neg Bool.false_ne_true, if_neg (by simp [op]), if_pos op, if_neg (by omega)]

/-- R86: does the command wait for no changeover? -/
def State.mayLeave (s : State) (n : Nat) : Prop := s.get CFG_CHG_BUSY = 0 ∨ s.axState n ≠ 2

/-- R86: a move out of STANDSTILL during a changeover. -/
theorem State.axisRejects_changeover (leaves : c.op ∈ [0x01, 0x02, 0x03, 0x06, 0x10, 0x11, 0x13]) (busy : s.get CFG_CHG_BUSY = 1)
    (still : s.axState n = 2) : s.axisRejects n c = 9 :=
  if_pos (by simp only [State.flag, busy, still, List.contains_iff_mem.mpr leaves]; rfl)

theorem State.mayLeave.not_held (h : s.mayLeave n) (leaves : Bool) : ¬(leaves && s.flag CFG_CHG_BUSY && s.axState n == 2) = true := by
  rcases h with free | away
  · simp [State.flag_eq_false free]
  · simp [away]

/-- R161: an axis of a group that is RUNNING, in HOLD or STARVED. -/
theorem State.axisRejects_group (free : s.mayLeave n) {g : Nat} (bound : s.groupOf n = some g) (active : s.groupActive g = true) :
    s.axisRejects n c = 10 := by
  have running : (2 ≤ s.get (PRF_GRPST_STATE g) ∧ s.get (PRF_GRPST_STATE g) ≤ 4) := by
    simp only [State.groupActive, Bool.or_eq_true, beq_iff_eq] at active
    omega
  rw [State.axisRejects, if_neg (free.not_held _), bound]
  exact if_pos (by simpa using running)

/-- R123, R167: an axis that no group and no changeover holds, in a state that does not take the command. -/
theorem State.axisRejects_state (free : s.mayLeave n) (unbound : s.groupOf n = none) (refuses : s.accepts n c.op = false) :
    s.axisRejects n c = if (s.axis n).moved ≠ 0 then 0x08 else if s.cmdState n = 4 then 0x04 else 0x03 := by
  rw [State.axisRejects, if_neg (free.not_held _), unbound]
  dsimp only
  rw [if_neg Bool.false_ne_true, if_pos (by rw [refuses]; rfl)]

/-- R167: a value that is out of its range. -/
theorem State.axisRejects_range (free : s.mayLeave n) (unbound : s.groupOf n = none) (takes : s.accepts n c.op = true)
    (out : s.outOfRange n c = true) : s.axisRejects n c = 5 := by
  rw [State.axisRejects, if_neg (free.not_held _), unbound]
  dsimp only
  rw [if_neg Bool.false_ne_true, if_neg (by simp [takes]), if_pos out]

/-- R141, R144: a coupling whose values are in range. -/
theorem State.axisRejects_coupling (free : s.mayLeave n) (unbound : s.groupOf n = none) (takes : s.accepts n c.op = true)
    (within : s.outOfRange n c = false) (op : c.op = 0x10 ∨ c.op = 0x11) : s.axisRejects n c = s.couplingCheck n c := by
  rw [State.axisRejects, if_neg (free.not_held _), unbound]
  dsimp only
  rw [if_neg Bool.false_ne_true, if_neg (by simp [takes]), if_neg (by simp [within]), if_pos op]

/-! ### The states that take a move -/

/-- Outside STANDSTILL and MOVING, an engaging coupling changes nothing of what counts for a command. -/
theorem State.cmdState_away (still : s.axState n ≠ 2) (moving : s.axState n ≠ 3) : s.cmdState n = s.axState n := by
  unfold State.cmdState
  split
  · exact if_neg (by omega)
  · rfl

/-- R123: a relative move is refused outside STANDSTILL and MOVING. -/
theorem State.accepts_moveRel_away (still : s.axState n ≠ 2) (moving : s.axState n ≠ 3) : s.accepts n 0x02 = false := by
  simp [State.accepts, State.cmdState_away still moving, still, moving]

/-- R123: STANDSTILL and MOVING take the moves and the couplings. -/
theorem State.accepts_moving {op : Nat} (held : (s.axis n).disabling = false) (state : s.axState n = 2 ∨ s.axState n = 3)
    (settled : s.cmdState n = s.axState n) (move : op ∈ [0x01, 0x03, 0x10, 0x11]) : s.accepts n op = true := by
  simp only [List.mem_cons, List.not_mem_nil, or_false] at move
  rcases move with rfl | rfl | rfl | rfl <;> simp [State.accepts, held, settled, state]

/-! ### Values and couplings -/

/-- R167: a V, A or D that is not positive. -/
theorem State.outOfRange_moveVel {v : Int} (arg : c.arg 2 = some v) (h : v ≤ 0) : s.outOfRange n c = true := by
  simp [State.outOfRange, arg, h]

theorem State.outOfRange_moveAbs (op : c.op = 0x01) (mode : 3 < c.mode) : s.outOfRange n c = true := by
  simp [State.outOfRange, op, mode]

/-- R141: an axis that would follow its own set-point closes a ring. -/
theorem State.couplingCheck_self (hn : n < 256) (arg : c.arg 5 = some (n : Int)) : s.couplingCheck n c = 6 := by
  have selector : c.selector = n := by
    simp only [MotCmd.selector, arg, Option.getD_some, unsigned]
    omega
  have axis : selAxis n = some n := by
    rw [selAxis, if_pos (by omega), Nat.mod_eq_of_lt hn]
  have ring : s.chainOk n 4 n = false := by simp [State.chainOk, axis]
  exact if_pos (by simp [selector, ring])

/-- R144: a cam table that is not in force. -/
theorem State.couplingCheck_noCam (op : c.op = 0x11) (named : s.masterNamed c.selector = true) (chain : s.chainOk n 4 c.selector = true)
    (within : s.mposOut c.selector c = false) (missing : s.cam ((c.arg 0xA).getD 0).toNat = none) : s.couplingCheck n c = 7 := by
  simp [State.couplingCheck, named, chain, within, op, missing]

/-! ### The command of a row -/

/-- R165, R169: while the engine runs, a rejected command is reported and does nothing else. -/
theorem State.motionCmd_rejected {op reason : Nat} {mode : Fin 16} {tag : BitVec 32} {data : List (Fin 16 × BitVec 56)}
    (lo : 7 ≤ s.get CFG_STATE_STATE) (hi : s.get CFG_STATE_STATE ≤ 9) (h : s.cmdRejects (motionRow op n mode tag data) = reason)
    (given : reason ≠ 0) : s.motionCmd op n mode tag.toNat data = rejected n reason tag s := by
  have runs : s.profileRuns = true := by simp [State.profileRuns, lo, hi]
  rw [State.motionCmd, if_pos runs]
  change s.useCommand (motionRow op n mode tag data) = _
  rw [State.useCommand, h]
  exact if_pos given

/-- A well-formed command of an axis that the axis rejects. -/
theorem State.motionCmd_axisRejects {op reason : Nat} {mode : Fin 16} {tag : BitVec 32} {data : List (Fin 16 × BitVec 56)}
    (lo : 7 ≤ s.get CFG_STATE_STATE) (hi : s.get CFG_STATE_STATE ≤ 9) (ok : (motionRow op n mode tag data).malformed = false)
    (known : (cmdSels op mode).isSome = true) (axis : op ∉ [0x20, 0x21, 0x30])
    (h : s.axisRejects n (motionRow op n mode tag data) = reason) (given : reason ≠ 0) :
    s.motionCmd op n mode tag.toNat data = rejected n reason tag s :=
  State.motionCmd_rejected lo hi ((State.cmdRejects_axis ok known axis).trans h) given

/-- Settles O22: each reason is the first one that holds in the order of `cmdRejects`, `axisRejects` and `couplingCheck`. -/
theorem motionRejections : Obligations.MotionRejections := by
  refine ⟨?malformed, ?state, ?coupled, ?justLeft, ?mode, ?speed, ?ring, ?noCam, ?changeover, ?group, ?master, ?abort⟩
  case malformed =>
    intro dt n mode tag data s lo hi bad
    exact ⟨_, rfl, State.motionCmd_rejected lo hi (State.cmdRejects_malformed bad) (by decide)⟩
  case state =>
    intro dt n mode tag data s lo hi ok unbound stayed still moving away
    have reason := State.axisRejects_state (s := s.elapse dt) (c := motionRow 0x02 n mode tag data) (.inr still) unbound
      (State.accepts_moveRel_away still moving)
    exact ⟨_, rfl, State.motionCmd_axisRejects lo hi ok rfl (by decide)
      (reason.trans ((if_neg (not_not.mpr stayed)).trans (if_neg away))) (by decide)⟩
  case coupled =>
    intro dt n mode tag data s lo hi ok unbound stayed cyclic
    have still : s.axState n ≠ 2 := by omega
    have moving : s.axState n ≠ 3 := by omega
    have reason := State.axisRejects_state (s := s.elapse dt) (c := motionRow 0x02 n mode tag data) (.inr still) unbound
      (State.accepts_moveRel_away still moving)
    have coupled : s.cmdState n = 4 := (State.cmdState_away still moving).trans cyclic
    exact ⟨_, rfl, State.motionCmd_axisRejects lo hi ok rfl (by decide)
      (reason.trans ((if_neg (not_not.mpr stayed)).trans (if_pos coupled))) (by decide)⟩
  case justLeft =>
    intro dt n mode tag data s lo hi ok unbound left still moving
    have reason := State.axisRejects_state (s := s.elapse dt) (c := motionRow 0x02 n mode tag data) (.inr still) unbound
      (State.accepts_moveRel_away still moving)
    exact ⟨_, rfl, State.motionCmd_axisRejects lo hi ok rfl (by decide) (reason.trans (if_pos left)) (by decide)⟩
  case mode =>
    intro dt n mode tag data s lo hi ok unbound free held state settled high
    have takes : (s.elapse dt).accepts n 0x01 = true := State.accepts_moving held state settled (by decide)
    exact ⟨_, rfl, State.motionCmd_axisRejects lo hi ok rfl (by decide)
      (State.axisRejects_range free unbound takes (State.outOfRange_moveAbs rfl high)) (by decide)⟩
  case speed =>
    intro dt n mode tag data v s lo hi ok unbound free held state settled arg low
    have takes : (s.elapse dt).accepts n 0x03 = true := State.accepts_moving held state settled (by decide)
    exact ⟨_, rfl, State.motionCmd_axisRejects lo hi ok rfl (by decide)
      (State.axisRejects_range free unbound takes (State.outOfRange_moveVel arg low)) (by decide)⟩
  case ring =>
    intro dt n mode tag data s lo hi ok unbound free held state settled within arg
    have takes : (s.elapse dt).accepts n 0x10 = true := State.accepts_moving held state settled (by decide)
    have reason := (State.axisRejects_coupling (s := s.elapse dt) free unbound takes within (.inl rfl)).trans (State.couplingCheck_self n.isLt arg)
    exact ⟨_, rfl, State.motionCmd_axisRejects lo hi ok rfl (by decide) reason (by decide)⟩
  case noCam =>
    intro dt n mode tag data s lo hi ok unbound free held state settled within named chain mpos missing
    have takes : (s.elapse dt).accepts n 0x11 = true := State.accepts_moving held state settled (by decide)
    have reason := (State.axisRejects_coupling (s := s.elapse dt) free unbound takes within (.inr rfl)).trans
      (State.couplingCheck_noCam rfl named chain mpos missing)
    exact ⟨_, rfl, State.motionCmd_axisRejects lo hi ok rfl (by decide) reason (by decide)⟩
  case changeover =>
    intro dt n mode tag data s lo hi ok busy still
    exact ⟨_, rfl, State.motionCmd_axisRejects lo hi ok rfl (by decide)
      (State.axisRejects_changeover (by simp [motionRow]) busy still) (by decide)⟩
  case group =>
    intro dt n mode tag data g s lo hi ok free bound active
    exact ⟨_, rfl, State.motionCmd_axisRejects lo hi ok rfl (by decide) (State.axisRejects_group free bound active) (by decide)⟩
  case master =>
    intro dt n mode tag data s lo hi ok absent
    have reason : (s.elapse dt).vmRejects n (motionRow 0x20 n mode tag data) = 3 :=
      if_pos (absent.imp_right fun off => by simp [State.flag_eq_false off])
    exact ⟨_, rfl, State.motionCmd_rejected lo hi ((State.cmdRejects_vmVel ok rfl).trans reason) (by decide)⟩
  case abort =>
    intro dt n mode tag data s lo hi ok ended
    exact ⟨_, rfl, State.motionCmd_rejected lo hi (State.cmdRejects_abort ok rfl ended) (by decide)⟩

end Sys2Proof.Machine
end

section
/-! PROOFS. The start sequence up to the choice of a bank (R61 to R64, R75 to R77, R81). -/

namespace Sys2Proof.Machine

variable {s : State} {a : Nat}

/-! ### Words that other writes leave alone -/

/-- A word that none of the fields lies in stays. -/
theorem State.rd_puts_ne (l : List (Fld × Nat)) (s : State) (h : ∀ e ∈ l, a ≠ e.1.addr) : (s.puts l).rd a = s.rd a := by
  induction l generalizing s with
  | nil => rfl
  | cons e l ih =>
    exact (ih (s.put e.1 e.2) fun x hx => h x (List.mem_cons_of_mem e hx)).trans (s.rd_put_ne _ _ (h e List.mem_cons_self))

/-- A word that is neither half of a 64-bit register stays. -/
theorem State.rd_wr64_ne (s : State) {b : Nat} (v : Nat) (low : a ≠ b) (high : a ≠ b + 4) : (s.wr64 b v).rd a = s.rd a := by
  rw [State.wr64, State.rd_wr_ne _ _ high, State.rd_wr_ne _ _ low]

/-- The start sequence is in state `st`. -/
theorem State.starting_of {st : Nat} (started : s.boot.started = true) (state : s.get CFG_STATE_STATE = st) (dt : Nat) :
    (s.elapse dt).starting st = true := by
  have running : (s.elapse dt).boot.started = true := started
  simp [State.starting, running, state]

/-! ### RESET and CLOCKS (R61 to R64, R76) -/

theorem State.clocks_onlyChanges (h : s.starting 0 = true) : OnlyChanges [.clk, .bulk] [CFG_STATE] s s.clocks := by
  refine (State.clocks_keeps (Keeps.refl _ s) (by decide) : Keeps [.reg .cfg, .clk, .bulk] s _).onlyChanges_words fun a _ ha => ?_
  rw [State.clocks, if_pos h]
  exact State.rd_put_ne _ _ _ (List.ne_of_not_mem_cons ha)

theorem State.flashReset_onlyChanges (s : State) : OnlyChanges [.boot] [CFG_STATE] s s.flashReset :=
  (State.flashReset_keeps (Keeps.refl _ s) (by decide) : Keeps [.reg .cfg, .boot] s _).onlyChanges_words
    fun _ _ ha => State.rd_put_ne _ _ _ (List.ne_of_not_mem_cons ha)

/-- R62 to R64: the commands that read what the flash is. -/
def State.flashRead (sfdp cmd13 : Bool) (s : State) : State :=
  let t := (s.drew 1).flashCmd 0x5A 25000
  let t := if sfdp then t else t.flashCmd 0x13 25000
  if sfdp || cmd13 then t else (t.flashCmd 0xB7 (1000 * s.free 256)).flashCmd 0x03 (1000 * s.free 256)

/-- R62, R63: what CFG_FLASH shows of the flash found. -/
def flashShown (sfdp : Bool) (density : Nat) (quad : Bool) (mhz : Nat) (cmd13 : Bool) (clk : Nat) : List (Fld × Nat) :=
  [(CFG_FLASH_DENSITY, density), (CFG_FLASH_SFDP, b2n sfdp),
    (CFG_FLASH_MODE, if sfdp then (if quad then 5 else 4) else if cmd13 then 1 else 2),
    (CFG_FLASH_CLK, if sfdp then min 100 mhz else if cmd13 then 25 else clk)]

theorem State.flashFound_eq (sfdp : Bool) (density : Nat) (quad : Bool) (mhz : Nat) (cmd13 susp : Bool) (h : s.starting 2 = true)
    (waited : s.boot.resetAt + 1000000 ≤ s.clk.elapsed) : s.flashFound sfdp density quad mhz cmd13 susp =
      (((s.flashRead sfdp cmd13).puts (flashShown sfdp density quad mhz cmd13 (s.free 256))).onBoot fun b =>
        { b with suspend := sfdp && susp }).put CFG_STATE_STATE 3 := by
  have due : (s.starting 2 && decide (s.boot.resetAt + 1000000 ≤ s.clk.elapsed)) = true := by
    rw [h, Bool.true_and, decide_eq_true_eq]
    exact waited
  rw [State.flashFound, if_pos due, State.flashRead, flashShown]

theorem State.flashRead_keeps (sfdp cmd13 : Bool) (s : State) : Keeps [.fresh, .boot] s (s.flashRead sfdp cmd13) := by
  have cmd {t : State} (c khz : Nat) (h : Keeps [.fresh, .boot] s t) : Keeps [.fresh, .boot] s (t.flashCmd c khz) :=
    State.flashCmd_keeps h (by decide)
  have first := cmd 0x5A 25000 (State.drew_keeps (k := 1) (Keeps.refl [.fresh, .boot] s) (by decide))
  have second := keeps_ite (c := sfdp = true) (fun _ => first) fun _ => cmd 0x13 25000 first
  exact keeps_ite (fun _ => second) fun _ => cmd _ _ (cmd _ _ second)

theorem State.flashFound_onlyChanges (sfdp : Bool) (density : Nat) (quad : Bool) (mhz : Nat) (cmd13 susp : Bool) (h : s.starting 2 = true)
    (waited : s.boot.resetAt + 1000000 ≤ s.clk.elapsed) :
    OnlyChanges [.boot, .fresh] [CFG_STATE, CFG_FLASH] s (s.flashFound sfdp density quad mhz cmd13 susp) := by
  refine (State.flashFound_keeps (Keeps.refl _ s) (by decide) : Keeps [.reg .cfg, .boot, .fresh] s _).onlyChanges_words fun a block ha => ?_
  simp only [List.mem_cons, List.not_mem_nil, or_false, not_or] at ha
  obtain ⟨state, flash⟩ := ha
  rw [State.flashFound_eq sfdp density quad mhz cmd13 susp h waited, State.rd_put_ne _ _ _ state, State.rd_onBoot,
    State.rd_puts_ne _ _ fun e he => ?shown, (State.flashRead_keeps sfdp cmd13 s).rd (by decide) block]
  simp only [flashShown, List.mem_cons, List.not_mem_nil, or_false] at he
  rcases he with rfl | rfl | rfl | rfl <;> exact flash

/-- R61 to R64: what CLOCKS leaves once the flash has answered. -/
structure FlashFound (sfdp : Bool) (density : Nat) (quad : Bool) (mhz : Nat) (cmd13 susp : Bool) (s u : State) : Prop where
  state : u.get CFG_STATE_STATE = 3
  withTable : sfdp = true → u.boot.qspi = s.boot.qspi ++ [(0x5A, 25000)] ∧ u.get CFG_FLASH_CLK = min 100 mhz
  noTable : sfdp = false ∧ cmd13 = true → u.boot.qspi = s.boot.qspi ++ [(0x5A, 25000), (0x13, 25000)] ∧ u.get CFG_FLASH_CLK = 25
  density : u.get CFG_FLASH_DENSITY = density
  shown : u.get CFG_FLASH_SFDP = b2n sfdp
  mode : u.get CFG_FLASH_MODE = if sfdp then (if quad then 5 else 4) else if cmd13 then 1 else 2
  suspend : u.boot.suspend = (sfdp && susp)

/-- The four fields that CFG_FLASH shows, as they are put one after the other. -/
theorem State.get_flashShown (w : State) (sfdp : Bool) {density : Nat} (quad : Bool) (mhz : Nat) (cmd13 : Bool) (clk : Nat)
    (small : density < 256) (f : Boot → Boot) :
    let u := ((w.puts (flashShown sfdp density quad mhz cmd13 clk)).onBoot f).put CFG_STATE_STATE 3
    u.get CFG_FLASH_DENSITY = density ∧ u.get CFG_FLASH_SFDP = b2n sfdp ∧
      u.get CFG_FLASH_MODE = (if sfdp then (if quad then 5 else 4) else if cmd13 then 1 else 2) ∧
      u.get CFG_FLASH_CLK = (if sfdp then min 100 mhz else if cmd13 then 25 else clk) % 256 := by
  simp only [flashShown, State.puts, List.foldl]
  refine ⟨?_, ?_, ?_, ?_⟩ <;> rw [State.get_put_ne _ _ _ _ (by decide), State.get_onBoot]
  · rw [State.get_put_apart _ _ rfl, State.get_put_apart _ _ rfl, State.get_put_apart _ _ rfl, State.get_put_fits _ _ _ rfl]
    exact Nat.mod_eq_of_lt small
  · rw [State.get_put_apart _ _ rfl, State.get_put_apart _ _ rfl, State.get_put_fits _ _ _ rfl]
    cases sfdp <;> rfl
  · rw [State.get_put_apart _ _ rfl, State.get_put_fits _ _ _ rfl]
    exact Nat.mod_eq_of_lt (by split_ifs <;> decide)
  · exact State.get_put_fits _ _ _ rfl

theorem State.flashFound_found (sfdp : Bool) {density : Nat} (quad : Bool) (mhz : Nat) (cmd13 susp : Bool) (small : density < 256)
    (h : s.starting 2 = true) (waited : s.boot.resetAt + 1000000 ≤ s.clk.elapsed) :
    FlashFound sfdp density quad mhz cmd13 susp s (s.flashFound sfdp density quad mhz cmd13 susp) := by
  rw [State.flashFound_eq sfdp density quad mhz cmd13 susp h waited]
  obtain ⟨dens, shown, mode, clk⟩ := (s.flashRead sfdp cmd13).get_flashShown sfdp quad mhz cmd13 (s.free 256) small fun b =>
    { b with suspend := sfdp && susp }
  refine ⟨State.get_put_fits _ _ _ rfl, ?_, ?_, dens, shown, mode, rfl⟩
  · rintro rfl
    refine ⟨rfl, clk.trans (Nat.mod_eq_of_lt ?_)⟩
    change min 100 mhz < 256
    omega
  · rintro ⟨rfl, rfl⟩
    refine ⟨?_, clk⟩
    change (s.boot.qspi ++ [(0x5A, 25000)]) ++ [(0x13, 25000)] = _
    simp

/-! ### The banks to try (R77, R81) -/

/-- R81: where the cause of a rejected bank is recorded. -/
abbrev causeOf (b : Nat) : Fld := if b = 0 then CFG_BOOT_CAUSE0 else CFG_BOOT_CAUSE1

theorem causeOf_addr (b : Nat) : (causeOf b).addr = CFG_BOOT := by
  unfold causeOf
  split <;> rfl

theorem State.tryBanks_bad {b c : Nat} (rest : List (Nat × Nat)) (s : State) (bad : c ≠ 0) :
    State.tryBanks ((b, c) :: rest) s = State.tryBanks rest (s.put (causeOf b) c) := by
  cases c with
  | zero => exact absurd rfl bad
  | succ c => rfl

theorem State.rd_tryBanks (l : List (Nat × Nat)) (s : State) (state : a ≠ CFG_STATE) (boot : a ≠ CFG_BOOT) :
    (State.tryBanks l s).rd a = s.rd a := by
  induction l generalizing s with
  | nil => exact State.rd_put_ne _ _ _ state
  | cons e rest ih =>
    obtain ⟨b, c⟩ := e
    by_cases good : c = 0
    · subst good
      exact State.rd_put_ne _ _ _ state
    · rw [State.tryBanks_bad rest s good, ih]
      exact State.rd_put_ne _ _ _ (causeOf_addr b ▸ boot)

/-- A good bank is tried next. -/
theorem State.tryBanks_good (b : Nat) (rest : List (Nat × Nat)) (s : State) :
    (State.tryBanks ((b, 0) :: rest) s).get CFG_STATE_STATE = 4 ∧ (State.tryBanks ((b, 0) :: rest) s).boot.banks.head? = some (b, 0) :=
  ⟨State.get_put_fits _ _ _ rfl, rfl⟩

theorem State.get_tryBanks_none (s : State) : (State.tryBanks [] s).get CFG_STATE_STATE = 0xE := State.get_put_fits _ _ _ rfl

/-! ### SELECT (R77) -/

/-- R60, R75: a header that passes check 1 lies in its bank. -/
theorem State.present_of_bankCause {b : Nat} (hb : b ≤ 1) (good : s.bankCause b = 0) :
    ∃ n, s.present b = some (0x100000 + 0xC00000 * b, n) := by
  unfold State.bankCause at good
  split at good
  next => cases good
  next x n found =>
    refine ⟨n, ?_⟩
    have place := found
    rw [State.present, region, if_pos hb] at place
    dsimp only at place
    split at place
    · obtain ⟨rfl, -⟩ := Prod.mk.inj (Option.some.inj place)
      exact found
    · cases place

/-- R77: SEQ of the header of bank `b`. -/
def State.bankSeq (s : State) (b : Nat) : Nat :=
  match s.present b with
  | some (a, _) => imgSeq (s.flashBytes a 0x40)
  | none => 0

theorem State.bankSeq_good {b : Nat} (hb : b ≤ 1) (good : s.bankCause b = 0) :
    s.bankSeq b = imgSeq (s.flashBytes (0x100000 + 0xC00000 * b) 0x40) := by
  obtain ⟨n, found⟩ := State.present_of_bankCause hb good
  rw [State.bankSeq, found]

/-- R75, R77: what the header of bank `b` is rejected with. -/
abbrev State.headerSeen (s : State) (timeout : Bool) (b : Nat) : Nat := if timeout then 0xC else s.bankCause b

theorem State.bankCause_of_seen {timeout : Bool} {b : Nat} (good : s.headerSeen timeout b = 0) : s.bankCause b = 0 := by
  cases timeout with
  | true => cases good
  | false => exact good

/-- Both causes are recorded, and the banks are tried in the order of their headers. -/
theorem State.selectBank_eq (to0 to1 : Bool) {c0 c1 : Nat} (h : s.starting 3 = true) (h0 : s.headerSeen to0 0 = c0)
    (h1 : s.headerSeen to1 1 = c1) : s.selectBank to0 to1 =
      State.tryBanks (if c1 == 0 && (c0 != 0 || decide (s.bankSeq 0 < s.bankSeq 1)) then [(1, c1), (0, c0)] else [(0, c0), (1, c1)])
        (s.puts [(CFG_BOOT_CAUSE0, c0), (CFG_BOOT_CAUSE1, c1)]) := by
  subst h0 h1
  rw [State.selectBank, if_pos h]
  rfl

/-- R77: bank 0x00 is tried first when it alone is good, or when its image is not the older one. -/
theorem State.selectBank_first (to0 to1 : Bool) {c1 : Nat} (h : s.starting 3 = true) (h0 : s.headerSeen to0 0 = 0)
    (h1 : s.headerSeen to1 1 = c1) (first : c1 ≠ 0 ∨
      imgSeq (s.flashBytes (0x100000 + 0xC00000 * 1) 0x40) ≤ imgSeq (s.flashBytes (0x100000 + 0xC00000 * 0) 0x40)) :
    s.selectBank to0 to1 = State.tryBanks [(0, 0), (1, c1)] (s.puts [(CFG_BOOT_CAUSE0, 0), (CFG_BOOT_CAUSE1, c1)]) := by
  rw [State.selectBank_eq to0 to1 h h0 h1, if_neg]
  simp only [Bool.and_eq_true, beq_iff_eq, bne_self_eq_false, Bool.false_or, decide_eq_true_eq, not_and, not_lt]
  intro good
  rw [State.bankSeq_good (by decide) (State.bankCause_of_seen h0), State.bankSeq_good (le_refl 1) (State.bankCause_of_seen (h1.trans good))]
  exact first.resolve_left (not_not.mpr good)

/-- R77: bank 0x01 is tried first when it alone is good, or when its image is the newer one. -/
theorem State.selectBank_second (to0 to1 : Bool) {c0 : Nat} (h : s.starting 3 = true) (h0 : s.headerSeen to0 0 = c0)
    (h1 : s.headerSeen to1 1 = 0) (second : c0 ≠ 0 ∨
      imgSeq (s.flashBytes (0x100000 + 0xC00000 * 0) 0x40) < imgSeq (s.flashBytes (0x100000 + 0xC00000 * 1) 0x40)) :
    s.selectBank to0 to1 = State.tryBanks [(1, 0), (0, c0)] (s.puts [(CFG_BOOT_CAUSE0, c0), (CFG_BOOT_CAUSE1, 0)]) := by
  rw [State.selectBank_eq to0 to1 h h0 h1, if_pos]
  simp only [beq_self_eq_true, Bool.true_and, Bool.or_eq_true, bne_iff_ne, decide_eq_true_eq]
  by_cases good : c0 = 0
  · refine .inr ?_
    rw [State.bankSeq_good (by decide) (State.bankCause_of_seen (h0.trans good)), State.bankSeq_good (le_refl 1) (State.bankCause_of_seen h1)]
    exact second.resolve_left (not_not.mpr good)
  · exact .inl good

/-- R77, R81: without a good header the part goes to NO_IMAGE with both causes. -/
theorem State.selectBank_none (to0 to1 : Bool) {c0 c1 : Nat} (h : s.starting 3 = true) (h0 : s.headerSeen to0 0 = c0)
    (h1 : s.headerSeen to1 1 = c1) (bad0 : c0 ≠ 0) (bad1 : c1 ≠ 0) (small0 : c0 < 16) (small1 : c1 < 16) :
    (s.selectBank to0 to1).get CFG_STATE_STATE = 0xE ∧ (s.selectBank to0 to1).get CFG_BOOT_CAUSE0 = c0 ∧
      (s.selectBank to0 to1).get CFG_BOOT_CAUSE1 = c1 := by
  rw [State.selectBank_eq to0 to1 h h0 h1, if_neg (by simp [bad1]), State.tryBanks_bad _ _ bad0, State.tryBanks_bad _ _ bad1]
  refine ⟨State.get_tryBanks_none _, ?_, ?_⟩ <;> rw [State.tryBanks, State.get_put_apart _ _ rfl, State.get_onBoot]
  · exact (State.get_put_apart _ _ rfl).trans ((State.get_put_fits _ _ _ rfl).trans (Nat.mod_eq_of_lt small0))
  · exact (State.get_put_fits _ _ _ rfl).trans (Nat.mod_eq_of_lt small1)

theorem State.selectBank_onlyChanges (to0 to1 : Bool) (s : State) :
    OnlyChanges [.boot] [CFG_STATE, CFG_BOOT] s (s.selectBank to0 to1) := by
  refine (State.selectBank_keeps (Keeps.refl _ s) (by decide) : Keeps [.reg .cfg, .boot] s _).onlyChanges_words fun a _ ha => ?_
  simp only [List.mem_cons, List.not_mem_nil, or_false, not_or] at ha
  obtain ⟨state, boot⟩ := ha
  unfold State.selectBank
  split
  · rw [State.rd_tryBanks _ _ state boot]
    refine State.rd_puts_ne _ _ fun e he => ?_
    simp only [List.mem_cons, List.not_mem_nil, or_false] at he
    rcases he with rfl | rfl <;> exact boot
  · rfl

/-! ### LOAD and VERIFY (R75, R77) -/

theorem State.rejectBank_eq {b c : Nat} {rest : List (Nat × Nat)} (h : s.boot.banks = (b, c) :: rest) (cause : Nat) :
    s.rejectBank cause = State.tryBanks rest (s.put (causeOf b) cause) := by
  rw [State.rejectBank, h]

theorem State.rejectBank_onlyChanges (cause : Nat) (s : State) : OnlyChanges [.boot] [CFG_STATE, CFG_BOOT] s (s.rejectBank cause) := by
  refine (State.rejectBank_keeps (Keeps.refl _ s) (by decide) : Keeps [.reg .cfg, .boot] s _).onlyChanges_words fun a _ ha => ?_
  simp only [List.mem_cons, List.not_mem_nil, or_false, not_or] at ha
  obtain ⟨state, boot⟩ := ha
  cases h : s.boot.banks with
  | nil => rw [State.rejectBank, h]
  | cons e rest =>
    obtain ⟨b, c⟩ := e
    rw [State.rejectBank_eq h, State.rd_tryBanks _ _ state boot]
    exact State.rd_put_ne _ _ _ (causeOf_addr b ▸ boot)

/-- R77, R81: when the last bank is rejected the part goes to NO_IMAGE, with the cause of that bank. -/
theorem State.rejectBank_last {b c : Nat} (h : s.boot.banks = [(b, c)]) (cause : Nat) :
    (s.rejectBank cause).get CFG_STATE_STATE = 0xE ∧ (s.rejectBank cause).get (causeOf b) = cause % 16 := by
  rw [State.rejectBank_eq h]
  refine ⟨State.get_tryBanks_none _, ?_⟩
  rw [State.tryBanks, State.get_put_ne _ _ _ _ (causeOf_addr b ▸ by decide), State.get_onBoot]
  unfold causeOf
  split <;> exact State.get_put_fits _ _ _ rfl

/-- A word of the state, and the loader's part, are all that a step to the next state writes. -/
theorem State.advance_onlyChanges (f : Boot → Boot) (st : Nat) (s : State) :
    OnlyChanges [.boot] [CFG_STATE, CFG_BOOT] s ((s.onBoot f).put CFG_STATE_STATE st) :=
  (State.put_keeps CFG_STATE_STATE_blk (State.onBoot_keeps (Keeps.refl _ s) (by decide)) (by decide) :
    Keeps [.reg .cfg, .boot] s _).onlyChanges_words fun _ _ ha => State.rd_put_ne _ _ _ (List.ne_of_not_mem_cons ha)

/-- R75: the image of a bank as checks 2 and 3 read it. -/
abbrev State.bankImage (s : State) (a n : Nat) : Nat × Image :=
  readImage 1 n (s.flashBytes a 0x40) (s.flashBytes a (min (imgLength (s.flashBytes a 0x40)) n))

/-- R75: an image that passes checks 2 and 3 is a candidate, and VERIFY follows. -/
theorem State.loadBank_good {b c n : Nat} {rest : List (Nat × Nat)} (h : s.starting 4 = true) (banks : s.boot.banks = (b, c) :: rest)
    (found : s.present b = some (a, n)) (read : (s.bankImage a n).1 = 0) (types : (s.bankImage a n).2.typesOk 1 = true) :
    s.loadBank false = (s.onBoot fun x => { x with cand := some (s.bankImage a n).2 }).put CFG_STATE_STATE 5 := by
  simp only [State.loadBank, if_pos h, banks, found, Bool.false_eq_true, if_false, read, ne_eq, not_true_eq_false, types, Bool.not_true]

/-- R75, R77: else the bank is rejected. -/
theorem State.loadBank_bad {b c n : Nat} {rest : List (Nat × Nat)} {timeout : Bool} (h : s.starting 4 = true)
    (banks : s.boot.banks = (b, c) :: rest) (found : s.present b = some (a, n))
    (bad : timeout = true ∨ (s.bankImage a n).1 ≠ 0 ∨ (s.bankImage a n).2.typesOk 1 = false) :
    ∃ cause, s.loadBank timeout = s.rejectBank cause := by
  simp only [State.loadBank, if_pos h, banks, found]
  cases timeout with
  | true => exact ⟨_, rfl⟩
  | false =>
    by_cases read : (s.bankImage a n).1 = 0
    · have types := (bad.resolve_left Bool.false_ne_true).resolve_left (not_not.mpr read)
      exact ⟨6, by simp [read, types]⟩
    · exact ⟨(s.bankImage a n).1, by simp [read]⟩

theorem State.loadBank_onlyChanges {b c n : Nat} {rest : List (Nat × Nat)} (timeout : Bool) (h : s.starting 4 = true)
    (banks : s.boot.banks = (b, c) :: rest) (found : s.present b = some (a, n)) :
    OnlyChanges [.boot] [CFG_STATE, CFG_BOOT] s (s.loadBank timeout) := by
  by_cases bad : timeout = true ∨ (s.bankImage a n).1 ≠ 0 ∨ (s.bankImage a n).2.typesOk 1 = false
  · obtain ⟨cause, eq⟩ := State.loadBank_bad h banks found bad
    rw [eq]
    exact s.rejectBank_onlyChanges cause
  · simp only [not_or, Bool.not_eq_true, Bool.not_eq_false, ne_eq, not_not] at bad
    obtain ⟨rfl, read, types⟩ := bad
    rw [State.loadBank_good h banks found read types]
    exact s.advance_onlyChanges _ 5

theorem State.verify_good {i : Image} (h : s.starting 5 = true) (cand : s.boot.cand = some i) (good : s.imageCause i = 0) :
    s.verify = s.put CFG_STATE_STATE 6 := by
  rw [State.verify, if_pos h, cand]
  exact if_pos good

theorem State.verify_bad {i : Image} (h : s.starting 5 = true) (cand : s.boot.cand = some i) (bad : s.imageCause i ≠ 0) :
    s.verify = s.rejectBank (s.imageCause i) := by
  rw [State.verify, if_pos h, cand]
  exact if_neg bad

theorem State.verify_onlyChanges {i : Image} (h : s.starting 5 = true) (cand : s.boot.cand = some i) :
    OnlyChanges [.boot] [CFG_STATE, CFG_BOOT] s s.verify := by
  by_cases good : s.imageCause i = 0
  · rw [State.verify_good h cand good]
    exact s.advance_onlyChanges id 6
  · rw [State.verify_bad h cand good]
    exact s.rejectBank_onlyChanges _

end Sys2Proof.Machine
end

section
/-! PROOFS. APPLY and RECIPE (R78, R79, R82 to R84, R92, R94), and the statement of the start sequence. -/

namespace Sys2Proof.Machine

variable {s : State} {a : Nat}

/-! ### APPLY (R78, R79) -/

/-- R78: SEQ of the accepted image is shown; nothing that follows it in `applyMachine` writes the block CFG. -/
theorem State.rd_CFG_SEQ_applyMachine (e : Eff) (i : Image) (s : State) : (s.applyMachine e i).rd CFG_SEQ = imgSeq i.header % 2 ^ 32 := by
  have later (t : State) : ((((t.applyRing e).applyNet e).applyMasters e).applyUnits e).rd CFG_SEQ = t.rd CFG_SEQ :=
    (State.applyUnits_keeps (m := [.reg .prf, .reg .csf, .reg .fbk, .reg .pwm, .reg .que, .reg .rng, .reg .tim, .reg .err, .boot, .menc, .ring])
      (State.applyMasters_keeps (State.applyNet_keeps (State.applyRing_keeps (Keeps.refl _ t) (by decide)) (by decide)) (by decide))
      (by decide)).rd (b := .cfg) (by decide) rfl
  unfold State.applyMachine
  dsimp only
  rw [later]
  exact State.rd_wr_same _ _ _

/-- R94: the effective limits lie in other words than LSH_STAT. -/
theorem State.rd_LSH_STAT_leashEff (p : List Byte) (s : State) : (s.leashEff p).rd LSH_STAT = s.rd LSH_STAT := by
  have axis (a : Nat) : LSH_STAT ≠ LSH_IPK a ∧ LSH_STAT ≠ LSH_ICT a ∧ LSH_STAT ≠ LSH_DUTY a ∧ LSH_STAT ≠ LSH_DTF a ∧
      LSH_STAT ≠ LSH_MPW a := by
    simp only [LSH_STAT, LSH_IPK, LSH_ICT, LSH_DUTY, LSH_DTF, LSH_MPW]
    omega
  have aux (k : Nat) : LSH_STAT ≠ LSH_AUXDUTY k ∧ LSH_STAT ≠ LSH_AUXDTF k ∧ LSH_STAT ≠ LSH_AUXMPW k := by
    simp only [LSH_STAT, LSH_AUXDUTY, LSH_AUXDTF, LSH_AUXMPW]
    omega
  have speed (n : Nat) : LSH_STAT ≠ LSH_SPD_E n ∧ LSH_STAT ≠ LSH_PMIN_E n ∧ LSH_STAT ≠ LSH_PMIN_E n + 4 ∧ LSH_STAT ≠ LSH_PMAX_E n ∧
      LSH_STAT ≠ LSH_PMAX_E n + 4 := by
    simp only [LSH_STAT, LSH_SPD_E, LSH_PMIN_E, LSH_PMAX_E]
    omega
  unfold State.leashEff
  dsimp only
  rw [rd_foldl fun s n => ?speeds, State.rd_wr64_ne _ _ (by decide) (by decide), State.rd_wr64_ne _ _ (by decide) (by decide),
    rd_foldl fun s k => ?auxes, rd_foldl fun s a => ?axes]
  case speeds =>
    obtain ⟨spd, low, lowHigh, high, highHigh⟩ := speed n
    rw [State.rd_wr64_ne _ _ high highHigh, State.rd_wr64_ne _ _ low lowHigh, State.rd_wr_ne _ _ spd]
  case auxes =>
    obtain ⟨duty, dtf, mpw⟩ := aux k
    refine State.rd_puts_ne _ _ fun e he => ?_
    simp only [List.mem_cons, List.not_mem_nil, or_false] at he
    rcases he with rfl | rfl | rfl
    exacts [duty, dtf, mpw]
  case axes =>
    obtain ⟨ipk, ict, duty, dtf, mpw⟩ := axis a
    refine State.rd_puts_ne _ _ fun e he => ?_
    simp only [List.mem_cons, List.not_mem_nil, or_false] at he
    rcases he with rfl | rfl | rfl | rfl | rfl
    exacts [ipk, ict, duty, dtf, mpw]

/-- R101: the reports of extra DHOLD bits set DIOCLAMP of LSH_STAT alone. -/
theorem State.get_LOCKED_extraHolds (s : State) : s.extraHolds.get LSH_STAT_LOCKED = s.get LSH_STAT_LOCKED := by
  unfold State.extraHolds
  generalize (below 64 fun c => s.bit64 LSH_DHOLD_E c && !s.holdPerm c) = extra
  induction extra generalizing s with
  | nil => rfl
  | cons c l ih =>
    refine (ih _).trans (((State.report_keeps (Keeps.refl [.reg .err, .log] _) (by decide)).get (b := .lsh) (by decide)
      LSH_STAT_LOCKED_blk).trans ?_)
    exact State.get_latch_apart _ rfl

/-- R78, R79: what APPLY leaves of the image `i`. -/
structure ImageApplied (i : Image) (u : State) : Prop where
  state : u.get CFG_STATE_STATE = 7
  base : u.boot.base = some i
  locked : u.get LSH_STAT_LOCKED = 1
  seq : u.rd CFG_SEQ = imgSeq i.header % 2 ^ 32

/-- The machine part of the image and its base limits, and the lock (R78, R79). -/
def State.lockImage (i : Image) (s : State) : State :=
  ((s.applyMachine (effOf i none) i).leashBase (effOf i none).leash).mark LSH_STAT_LOCKED true

/-- What comes into force after the lock (R78, R83, R94, R101, R451). -/
def State.enforceImage (i : Image) (selfOk mramOk : Bool) (s : State) : State :=
  (((s.effLimits (effOf i none)).loadOverlay (effOf i none)).extraHolds).safBegin (effOf i none).safety selfOk mramOk

/-- The end of APPLY: the image is the base, and the lands show what holds them safe. -/
def State.endApply (i : Image) (s : State) : State :=
  let s := (s.onBoot fun b => { b with base := some i, cand := none }).put CFG_STATE_STATE 7
  (List.range 32).foldl (fun s a => s.showSafe a) (s.onPwm fun w => { w with auxAt := s.clk.elapsed })

theorem State.applyImage_eq {i : Image} (selfOk mramOk : Bool) (h : s.starting 6 = true) (cand : s.boot.cand = some i) :
    s.applyImage selfOk mramOk = ((s.lockImage i).enforceImage i selfOk mramOk).endApply i := by
  rw [State.applyImage, if_pos h, cand]
  dsimp only [State.lockImage, State.enforceImage, State.endApply]

theorem State.lockImage_locks (i : Image) (s : State) :
    (s.lockImage i).get LSH_STAT_LOCKED = 1 ∧ (s.lockImage i).rd CFG_SEQ = imgSeq i.header % 2 ^ 32 := by
  refine ⟨State.get_mark_fits _ _ _ rfl rfl, ?_⟩
  have base := State.leashBase_keeps (p := (effOf i none).leash) (Keeps.refl [.reg .lsh] (s.applyMachine (effOf i none) i)) (by decide)
  exact ((State.mark_keeps LSH_STAT_LOCKED_blk base (by decide)).rd (b := .cfg) (by decide) rfl).trans (s.rd_CFG_SEQ_applyMachine _ i)

theorem State.enforceImage_keeps_seq (i : Image) (selfOk mramOk : Bool) (s : State) :
    (s.enforceImage i selfOk mramOk).rd CFG_SEQ = s.rd CFG_SEQ :=
  (State.safBegin_keeps (m := [.reg .lsh, .reg .prf, .reg .eng, .reg .csf, .reg .fbk, .reg .pwm, .reg .knl, .reg .que, .reg .acq, .reg .rng,
      .reg .dio, .reg .saf, .reg .err, .fresh, .sets, .bulk, .log, .knl, .que, .axes, .lim, .prf, .eng, .pwm, .ine, .probes, .dio, .saf])
    (State.extraHolds_keeps (State.loadOverlay_keeps (State.effLimits_keeps (Keeps.refl _ s) (by decide)) (by decide)) (by decide))
    (by decide)).rd (b := .cfg) (by decide) rfl

/-- R79: the Leash stays locked. -/
theorem State.get_LOCKED_enforceImage (i : Image) (selfOk mramOk : Bool) (s : State) :
    (s.enforceImage i selfOk mramOk).get LSH_STAT_LOCKED = s.get LSH_STAT_LOCKED := by
  have safety (t : State) (p) : (t.safBegin p selfOk mramOk).get LSH_STAT_LOCKED = t.get LSH_STAT_LOCKED :=
    (State.safBegin_keeps (Keeps.refl [.reg .prf, .reg .eng, .reg .csf, .reg .fbk, .reg .pwm, .reg .knl, .reg .que, .reg .dio, .reg .saf,
      .reg .err, .fresh, .sets, .bulk, .log, .knl, .que, .axes, .prf, .pwm, .probes, .saf] t) (by decide)).get (by decide) LSH_STAT_LOCKED_blk
  have overlay (t : State) (e) : (t.loadOverlay e).get LSH_STAT_LOCKED = t.get LSH_STAT_LOCKED :=
    (State.loadOverlay_keeps (Keeps.refl [.reg .prf, .reg .eng, .reg .csf, .reg .acq, .reg .rng, .reg .dio, .bulk, .prf, .eng, .pwm, .ine,
      .dio] t) (by decide)).get (by decide) LSH_STAT_LOCKED_blk
  rw [State.enforceImage, safety, State.get_LOCKED_extraHolds, overlay, State.effLimits, State.get_onLim, State.get, State.get]
  exact congrArg _ (State.rd_LSH_STAT_leashEff _ s)

theorem State.endApply_applied (i : Image) {t : State} (locked : t.get LSH_STAT_LOCKED = 1) (seq : t.rd CFG_SEQ = imgSeq i.header % 2 ^ 32) :
    ImageApplied i (t.endApply i) := by
  set w := (t.onBoot fun b => { b with base := some i, cand := none }).put CFG_STATE_STATE 7 with shown
  have lands : Keeps [.reg .pwm, .pwm] w (t.endApply i) :=
    keeps_foldl (fun _ _ h => State.showSafe_keeps h (by decide)) _ (State.onPwm_keeps (Keeps.refl _ w) (by decide))
  refine ⟨?_, ?_, ?_, ?_⟩
  · rw [lands.get (by decide) CFG_STATE_STATE_blk]
    exact State.get_put_fits _ _ _ rfl
  · exact congrArg Boot.base (lands.same .boot (by decide))
  · rw [lands.get (by decide) LSH_STAT_LOCKED_blk, shown, State.get_put_ne _ _ _ _ (by decide)]
    exact locked
  · rw [lands.rd (b := .cfg) (by decide) rfl, shown, State.rd_put_ne _ _ _ (by decide)]
    exact seq

theorem State.applyImage_applied {i : Image} (selfOk mramOk : Bool) (h : s.starting 6 = true) (cand : s.boot.cand = some i) :
    ImageApplied i (s.applyImage selfOk mramOk) := by
  obtain ⟨locked, seq⟩ := s.lockImage_locks i
  rw [State.applyImage_eq selfOk mramOk h cand]
  exact State.endApply_applied i ((State.get_LOCKED_enforceImage ..).trans locked) ((State.enforceImage_keeps_seq ..).trans seq)

/-! ### RECIPE and READY (R80, R82 to R84) -/

/-- R80: READY keeps the recipe that has been chosen. -/
structure BecameReady (s u : State) : Prop where
  state : u.get CFG_STATE_STATE = 8
  active : u.get CFG_RCP_ACTIVE = s.get CFG_RCP_ACTIVE
  recipe : u.boot.recipe = s.boot.recipe

theorem State.ready_became (s : State) : BecameReady s s.ready := by
  set w := ((s.put CFG_STATE_STATE 8).put CFG_STATE_ELAPSED (min 0xFFF ((s.clk.elapsed - s.boot.startAt) / 1000000))).firmwareRuns with shown
  have units : Keeps [.reg .knl, .reg .acq, .reg .rng, .reg .tim, .reg .err, .fresh, .log, .knl, .acq, .tim] w s.ready :=
    State.ringReady_keeps (State.timReady_keeps (State.acqAutoStart_keeps (Keeps.refl _ w) (by decide)) (by decide)) (by decide)
  have runs (t : State) (f : Fld) : t.firmwareRuns.get f = t.get f := rfl
  refine ⟨?_, ?_, ?_⟩
  · rw [units.get (by decide) CFG_STATE_STATE_blk, shown, runs, State.get_put_apart _ _ rfl]
    exact State.get_put_fits _ _ _ rfl
  · rw [units.get (by decide) CFG_RCP_ACTIVE_blk, shown, runs, State.get_put_ne _ _ _ _ (by decide),
      State.get_put_ne _ _ _ _ (by decide)]
  · exact (congrArg Boot.recipe (units.same .boot (by decide))).trans (by rw [shown]; rfl)

/-- R82, R91: the recipe `r` of slot `k` is taken at the start. -/
def State.takeRecipe (k : Nat) (r : Image) (s : State) : State := (s.startRecipe k r).recordSlot k

/-- R83: the slot and the recipe that are in force then. -/
theorem State.takeRecipe_taken (k : Nat) (r : Image) (s : State) :
    (s.takeRecipe k r).get CFG_RCP_ACTIVE = k % 16 ∧ (s.takeRecipe k r).boot.recipe = some r := by
  refine ⟨?_, rfl⟩
  change (((s.loadOverlay _).put CFG_RCP_ACTIVE k).wr CFG_RCP_CRC (imgHdrCrc r.header)).get CFG_RCP_ACTIVE = _
  rw [State.get_wr_ne _ _ _ (by decide)]
  exact State.get_put_fits _ _ _ rfl

/-- R82, R84: the recipe that is chosen is ready. -/
theorem State.chooseRecipe_eq (to1 to2 : Bool) (h : s.starting 7 = true) : s.chooseRecipe to1 to2 =
    (if s.startSlot = 0xF then s
      else if (s.checkRecipe s.startSlot to1).1 = 0 then s.takeRecipe s.startSlot (s.checkRecipe s.startSlot to1).2
      else if s.get CFG_RCP_FALLBACK ≠ 0xF ∧ s.get CFG_RCP_FALLBACK ≠ s.startSlot ∧ (s.checkRecipe (s.get CFG_RCP_FALLBACK) to2).1 = 0 then
        s.takeRecipe (s.get CFG_RCP_FALLBACK) (s.checkRecipe (s.get CFG_RCP_FALLBACK) to2).2
      else s).ready := if_pos h

/-- READY with the recipe in force left alone. -/
theorem BecameReady.unchanged {u : State} (h : BecameReady s u) :
    u.boot.recipe = s.boot.recipe ∧ u.get CFG_RCP_ACTIVE = s.get CFG_RCP_ACTIVE := ⟨h.recipe, h.active⟩

/-- READY with the recipe of slot `k`. -/
theorem State.takeRecipe_ready (k : Nat) (r : Image) (s : State) :
    (s.takeRecipe k r).ready.boot.recipe = some r ∧ (s.takeRecipe k r).ready.get CFG_RCP_ACTIVE = k % 16 := by
  obtain ⟨-, active, recipe⟩ := (s.takeRecipe k r).ready_became
  obtain ⟨slot, taken⟩ := s.takeRecipe_taken k r
  exact ⟨recipe.trans taken, active.trans slot⟩

/-! ### The statement -/

/-- Settles O12: each state of the start sequence by the operation that leads on from it. -/
theorem startStates : Obligations.StartStates := by
  refine ⟨?reset, ?clocks, ?found, ?noBank, ?first, ?second, ?load, ?verify, ?apply, ?recipe, ?bypass⟩
  case reset =>
    intro dt s started state
    have h := State.starting_of started state dt
    have others := (State.clocks_onlyChanges h).of_elapse.mono (n := [.clk, .bulk, .sets]) (by decide) (List.Subset.refl _)
    refine ⟨_, rfl, ?_, ?_, ?_, ?_, others⟩ <;> rw [State.clocks, if_pos h]
    · exact State.get_put_fits _ _ _ rfl
    · rfl
    · change 0 * 10 ^ 9 + 0 = 0
      simp
    · rfl
  case clocks =>
    intro dt sfdp density quad mhz cmd13 susp s started state
    refine ⟨_, congrArg Host.Outcome.next (if_pos (State.starting_of started state dt)), State.get_put_fits _ _ _ rfl, ?_,
      (s.elapse dt).flashReset_onlyChanges.of_elapse.mono (by decide) (List.Subset.refl _)⟩
    change (s.boot.qspi ++ [(0x66, 12500)]) ++ [(0x99, 12500)] = _
    simp
  case found =>
    intro dt sfdp density quad mhz cmd13 susp s started state waited
    have not1 : ¬(s.elapse dt).starting 1 = true := by simp [State.starting, state]
    have h := State.starting_of started state dt
    have found := State.flashFound_found sfdp quad mhz.toNat cmd13 susp density.isLt h waited
    have others := (State.flashFound_onlyChanges sfdp density.toNat quad mhz.toNat cmd13 susp h waited).of_elapse
    exact ⟨_, congrArg Host.Outcome.next (if_neg not1), found.state, fun h => (found.withTable h).1, found.noTable, found.density, found.shown,
      found.mode, fun h => (found.withTable h).2, found.suspend, others.mono (by decide) (List.Subset.refl _)⟩
  case noBank =>
    intro dt to0 to1 c0 c1 s started state h0 h1 bad0 bad1
    obtain ⟨next, cause0, cause1⟩ := State.selectBank_none to0 to1 (State.starting_of started state dt) h0 h1 bad0 bad1 c0.isLt c1.isLt
    exact ⟨_, rfl, next, cause0, cause1, ((s.elapse dt).selectBank_onlyChanges to0 to1).of_elapse.mono (by decide) (List.Subset.refl _)⟩
  case first =>
    intro dt to0 to1 c0 c1 s started state h0 h1 good first
    have eq := State.selectBank_first to0 to1 (State.starting_of started state dt) (h0.trans good) h1 first
    have others := ((s.elapse dt).selectBank_onlyChanges to0 to1).of_elapse.mono (n := [.clk, .boot, .sets]) (by decide) (List.Subset.refl _)
    refine ⟨_, rfl, ?_, ?_, others⟩ <;> rw [eq]
    · exact (State.tryBanks_good ..).1
    · exact (State.tryBanks_good ..).2
  case second =>
    intro dt to0 to1 c0 c1 s started state h0 h1 good second
    have eq := State.selectBank_second to0 to1 (State.starting_of started state dt) h0 (h1.trans good) second
    have others := ((s.elapse dt).selectBank_onlyChanges to0 to1).of_elapse.mono (n := [.clk, .boot, .sets]) (by decide) (List.Subset.refl _)
    refine ⟨_, rfl, ?_, ?_, others⟩ <;> rw [eq]
    · exact (State.tryBanks_good ..).1
    · exact (State.tryBanks_good ..).2
  case load =>
    intro dt timeout b c rest a n r s started state banks found read
    subst read
    have h := State.starting_of started state dt
    have others := (State.loadBank_onlyChanges (s := s.elapse dt) timeout h banks found).of_elapse
    refine ⟨_, rfl, ?_, ?_, others.mono (by decide) (List.Subset.refl _)⟩
    · rintro ⟨rfl, passed, types⟩
      rw [State.loadBank_good h banks found passed types]
      exact ⟨State.get_put_fits _ _ _ rfl, rfl⟩
    · rintro ⟨bad, rfl⟩
      obtain ⟨cause, eq⟩ := State.loadBank_bad h banks found bad
      rw [eq]
      exact (State.rejectBank_last (s := s.elapse dt) banks cause).1
  case verify =>
    intro dt i b c s started state cand banks
    have h := State.starting_of started state dt
    refine ⟨_, rfl, fun good => ?_, fun bad => ?_, (State.verify_onlyChanges h cand).of_elapse.mono (by decide) (List.Subset.refl _)⟩
    · rw [State.verify_good h cand good]
      exact ⟨State.get_put_fits _ _ _ rfl, cand⟩
    · rw [State.verify_bad h cand bad]
      exact State.rejectBank_last (s := s.elapse dt) banks _
  case apply =>
    intro dt selfOk mramOk i s started state cand
    have applied := State.applyImage_applied selfOk mramOk (State.starting_of started state dt) cand
    exact ⟨_, rfl, applied.state, applied.base, applied.locked, applied.seq⟩
  case recipe =>
    intro dt to1 to2 k1 k2 s started state start fallback
    have slot : (s.elapse dt).startSlot = k1 := start
    have other : (s.elapse dt).get CFG_RCP_FALLBACK = k2 := fallback
    have small : k2 < 16 := fallback ▸ s.get_lt CFG_RCP_FALLBACK
    have eq := State.chooseRecipe_eq (s := s.elapse dt) to1 to2 (State.starting_of started state dt)
    rw [slot, other] at eq
    refine ⟨_, rfl, ?_, fun unset => ?_, ?_, ?_, ?_⟩ <;> rw [eq]
    · exact (State.ready_became _).state
    · rw [if_pos unset]
      exact (State.ready_became _).unchanged
    · rintro ⟨slotted, good⟩
      rw [if_neg slotted, if_pos good]
      exact State.takeRecipe_ready ..
    · rintro ⟨slotted, bad, differs⟩
      rw [if_neg slotted, if_neg bad, if_pos (by simpa [and_assoc] using differs)]
      exact (State.takeRecipe_ready ..).imp_right fun h => h.trans (Nat.mod_eq_of_lt small)
    · rintro ⟨slotted, bad, lacks⟩
      rw [if_neg slotted, if_neg bad, if_neg (by tauto)]
      exact (State.ready_became _).unchanged
  case bypass =>
    intro dt s ready
    have keeps : Keeps [.reg .rng] (s.elapse dt) (s.elapse dt).bypassOpen := State.bypassOpen_keeps (Keeps.refl _ _) (by decide)
    have eq : (s.elapse dt).bypassOpen = (s.elapse dt).mark RNG_ST_BYP false := if_pos (by simp [State.flag_iff, ready])
    have others : OnlyChanges [] [RNG_ST] (s.elapse dt) (s.elapse dt).bypassOpen :=
      keeps.onlyChanges_words fun a _ ha => eq ▸ State.rd_put_ne _ _ _ (List.ne_of_not_mem_cons ha)
    refine ⟨_, rfl, ?_, others.of_elapse⟩
    rw [eq]
    exact State.get_mark_fits _ _ _ rfl rfl

end Sys2Proof.Machine
end

section
/-! PROOFS. The request, the staging and the end of a recipe changeover (R64, R85, R87, R88, R91). -/

namespace Sys2Proof.Machine

variable {s : State}

/-! ### The request (R64, R85) -/

/-- The slot that is shown does not bear on a refusal. -/
theorem State.changeRefusal_put_SLOT (s : State) (v k : Nat) (busy : Bool) :
    (s.put CFG_CHG_SLOT v).changeRefusal k busy = s.changeRefusal k busy := by
  have axes (n : Nat) : (s.put CFG_CHG_SLOT v).axState n = s.axState n :=
    State.get_put_ne _ _ _ _ (by simp only [PRF_AXST_STATE, PRF_AXST, CFG_CHG_SLOT, CFG_CHG]; omega)
  have flag : (s.put CFG_CHG_SLOT v).flag CFG_CHG_BUSY = s.flag CFG_CHG_BUSY := by rw [State.flag, State.get_put_apart _ _ rfl, State.flag]
  have present (t : Nat) : (s.put CFG_CHG_SLOT v).present t = s.present t := by
    simp only [State.present, State.get_put_apart s v (f := CFG_CHG_SLOT) (g := CFG_FLASH_DENSITY) rfl]
  have state : (s.put CFG_CHG_SLOT v).get CFG_STATE_STATE = s.get CFG_STATE_STATE := State.get_put_ne _ _ _ _ (by decide)
  have loader : (s.put CFG_CHG_SLOT v).boot = s.boot := rfl
  simp only [State.changeRefusal, axes, flag, present, state, loader]

/-- R85: a refused request shows its slot and its result. -/
theorem State.requestChange_refused {k r : Nat} {busy : Bool} (h : s.changeRefusal k busy = some r) :
    s.requestChange k busy = (s.put CFG_CHG_SLOT k).put CFG_CHG_RESULT r := by
  rw [State.requestChange]
  dsimp only
  rw [State.changeRefusal_put_SLOT, h]

/-- R64: the firmware suspends what it does to the flash. -/
def State.suspendFlash (busy : Bool) (s : State) : State :=
  if busy then (s.flashCmd 0x75 (1000 * s.get CFG_FLASH_CLK)).onBoot fun b => { b with suspended := true } else s

theorem State.suspendFlash_keeps (busy : Bool) (s : State) : Keeps [.boot] s (s.suspendFlash busy) :=
  keeps_ite (fun _ => State.onBoot_keeps (State.flashCmd_keeps (Keeps.refl _ s) (by decide)) (by decide)) fun _ => Keeps.refl _ s

/-- R85, R86: an accepted request begins a changeover. -/
theorem State.requestChange_accepted {k : Nat} {busy : Bool} (h : s.changeRefusal k busy = none) :
    s.requestChange k busy = (((((s.put CFG_CHG_SLOT k).suspendFlash busy).put CFG_CHG_RESULT 1).put CFG_CHG_BUSY 1).put CFG_STATE_STATE 9).onBoot
      fun b => { b with chgSlot := k, staged := none } := by
  rw [State.requestChange]
  dsimp only
  rw [State.changeRefusal_put_SLOT, h]
  rfl

/-- What a refused request leaves. -/
structure ChangeRefused (k r : Nat) (s u : State) : Prop where
  result : u.get CFG_CHG_RESULT = r
  slot : u.get CFG_CHG_SLOT = k
  busy : u.get CFG_CHG_BUSY = s.get CFG_CHG_BUSY
  others : OnlyChanges [] [CFG_CHG] s u

theorem State.requestChange_refuses {k r : Nat} {busy : Bool} (h : s.changeRefusal k busy = some r) (hk : k < 16) (hr : r < 16) :
    ChangeRefused k r s (s.requestChange k busy) := by
  rw [State.requestChange_refused h]
  refine ⟨?_, ?_, ?_, ?_⟩
  · exact (State.get_put_fits _ _ _ rfl).trans (Nat.mod_eq_of_lt hr)
  · rw [State.get_put_apart _ _ rfl, State.get_put_fits _ _ _ rfl]
    exact Nat.mod_eq_of_lt hk
  · rw [State.get_put_apart _ _ rfl, State.get_put_apart _ _ rfl]
  · have keeps : Keeps [.reg .cfg] s ((s.put CFG_CHG_SLOT k).put CFG_CHG_RESULT r) :=
      State.put_keeps CFG_CHG_RESULT_blk (State.put_keeps CFG_CHG_SLOT_blk (Keeps.refl _ s) (by decide)) (by decide)
    refine keeps.onlyChanges_words fun a _ ha => ?_
    have other : a ≠ CFG_CHG := List.ne_of_not_mem_cons ha
    exact (State.rd_put_ne _ _ _ other).trans (State.rd_put_ne _ _ _ other)

/-- What an accepted request leaves. -/
structure ChangeBegan (k : Nat) (s u : State) : Prop where
  result : u.get CFG_CHG_RESULT = 1
  busy : u.get CFG_CHG_BUSY = 1
  state : u.get CFG_STATE_STATE = 9
  slot : u.boot.chgSlot = k
  staged : u.boot.staged = none
  others : OnlyChanges [.boot] [CFG_CHG, CFG_STATE] s u

theorem State.requestChange_begins {k : Nat} {busy : Bool} (h : s.changeRefusal k busy = none) :
    ChangeBegan k s (s.requestChange k busy) := by
  rw [State.requestChange_accepted h]
  set w := (s.put CFG_CHG_SLOT k).suspendFlash busy with shown
  have suspended : Keeps [.boot] (s.put CFG_CHG_SLOT k) w := State.suspendFlash_keeps busy _
  refine ⟨?_, ?_, ?_, rfl, rfl, ?_⟩
  · rw [State.get_onBoot, State.get_put_ne _ _ _ _ (by decide), State.get_put_apart _ _ rfl]
    exact State.get_put_fits _ _ _ rfl
  · rw [State.get_onBoot, State.get_put_ne _ _ _ _ (by decide)]
    exact State.get_put_fits _ _ _ rfl
  · rw [State.get_onBoot]
    exact State.get_put_fits _ _ _ rfl
  · have first : Keeps [.reg .cfg, .boot] s w :=
      (State.put_keeps CFG_CHG_SLOT_blk (Keeps.refl [.reg .cfg, .boot] s) (by decide)).trans (suspended.mono (by decide))
    have keeps := State.onBoot_keeps (f := fun b => { b with chgSlot := k, staged := none }) (State.put_keeps (v := 9) CFG_STATE_STATE_blk
      (State.put_keeps (v := 1) CFG_CHG_BUSY_blk (State.put_keeps (v := 1) CFG_CHG_RESULT_blk first (by decide)) (by decide)) (by decide)) (by decide)
    refine keeps.onlyChanges_words fun a block ha => ?_
    simp only [List.mem_cons, List.not_mem_nil, or_false, not_or] at ha
    obtain ⟨chg, state⟩ := ha
    rw [State.rd_onBoot, State.rd_put_ne _ _ _ state, State.rd_put_ne _ _ _ chg, State.rd_put_ne _ _ _ chg, suspended.rd (by decide) block]
    exact State.rd_put_ne _ _ _ chg

/-- R85: a request during a changeover or a start. -/
theorem State.changeRefusal_inProgress (k : Nat) (busy : Bool) (h : s.get CFG_CHG_BUSY = 1 ∨ s.get CFG_STATE_STATE ≠ 8) :
    s.changeRefusal k busy = some 9 :=
  if_pos (by simpa [State.flag] using h)

/-- No changeover and no start is in progress (R85). -/
structure ChangeFree (s : State) : Prop where
  busy : s.get CFG_CHG_BUSY = 0
  state : s.get CFG_STATE_STATE = 8

theorem ChangeFree.refusal (h : ChangeFree s) (k : Nat) (busy : Bool) : s.changeRefusal k busy =
    if decide (8 ≤ k) || (s.present (0x10 + k)).isNone || s.boot.dlSlot == some k then some 0xA
    else if (List.range 256).any fun n => s.axState n != 0 && s.axState n != 2 then some 0x8
    else if busy && !s.boot.suspend then some 0x9
    else none :=
  if_neg (by simp [State.flag_eq_false h.busy, h.state])

/-- R85, R91: a slot that does not exist, or that a download fills. -/
theorem ChangeFree.noSlot (h : ChangeFree s) {k : Nat} (busy : Bool)
    (missing : 8 ≤ k ∨ s.present (0x10 + k) = none ∨ s.boot.dlSlot = some k) : s.changeRefusal k busy = some 0xA := by
  rw [h.refusal]
  exact if_pos (by simpa [or_assoc] using missing)

/-- Slot `k` exists and no download fills it. -/
structure SlotThere (s : State) (k : Nat) : Prop where
  small : k < 8
  there : s.present (0x10 + k) ≠ none
  whole : s.boot.dlSlot ≠ some k

theorem ChangeFree.refusal_there (h : ChangeFree s) {k : Nat} (slot : SlotThere s k) (busy : Bool) : s.changeRefusal k busy =
    if (List.range 256).any fun n => s.axState n != 0 && s.axState n != 2 then some 0x8
    else if busy && !s.boot.suspend then some 0x9
    else none := by
  rw [h.refusal]
  exact if_neg (by simp [slot.small, slot.there, slot.whole])

/-- R85: an axis that is enabled, and not in STANDSTILL. -/
theorem ChangeFree.axisMoves (h : ChangeFree s) {k : Nat} (slot : SlotThere s k) (busy : Bool)
    (moves : ∃ n : Fin 256, s.axState n ≠ 0 ∧ s.axState n ≠ 2) : s.changeRefusal k busy = some 8 := by
  obtain ⟨n, enabled, away⟩ := moves
  rw [h.refusal_there slot]
  refine if_pos (List.any_eq_true.mpr ⟨n.val, List.mem_range.mpr n.isLt, ?_⟩)
  simp [enabled, away]

/-- R64: what is left to a busy flash when every axis is still. -/
theorem ChangeFree.refusal_still (h : ChangeFree s) {k : Nat} (slot : SlotThere s k) (busy : Bool)
    (still : ∀ n : Fin 256, s.axState n = 0 ∨ s.axState n = 2) :
    s.changeRefusal k busy = if busy && !s.boot.suspend then some 0x9 else none := by
  rw [h.refusal_there slot, if_neg]
  simp only [List.any_eq_true, List.mem_range, Bool.and_eq_true, bne_iff_ne, not_exists, not_and]
  intro n small enabled
  exact not_not.mpr ((still ⟨n, small⟩).resolve_left enabled)

/-! ### The end of a changeover (R87, R91) -/

/-- What the end of a changeover with RESULT `r` leaves. -/
structure ChangeEnded (r : Nat) (s u : State) : Prop where
  result : u.get CFG_CHG_RESULT = r
  busy : u.get CFG_CHG_BUSY = 0
  state : u.get CFG_STATE_STATE = 8
  staged : u.boot.staged = none
  recipe : u.boot.recipe = s.boot.recipe
  members : u.ring.mems = s.ring.mems

/-- Before its event, the end of a changeover shows its result, and drops what is staged. -/
theorem State.endChange_eq (r : Nat) (s : State) : ∃ f g,
    (f s.boot).staged = none ∧ (f s.boot).recipe = s.boot.recipe ∧ (g s.ring).mems = s.ring.mems ∧
      s.endChange r = (((((s.put CFG_CHG_RESULT r).put CFG_CHG_BUSY 0).put CFG_STATE_STATE 8).onBoot f).onRing g).event 0x57 :=
  ⟨_, _, rfl, rfl, rfl, rfl⟩

theorem State.endChange_ended {r : Nat} (hr : r < 16) (s : State) : ChangeEnded r s (s.endChange r) := by
  obtain ⟨f, g, staged, recipe, members, eq⟩ := s.endChange_eq r
  set w := ((((s.put CFG_CHG_RESULT r).put CFG_CHG_BUSY 0).put CFG_STATE_STATE 8).onBoot f).onRing g with shown
  have event : Keeps [.reg .knl, .knl] w (s.endChange r) := eq ▸ State.event_keeps (Keeps.refl _ w) (by decide)
  have loader : (s.endChange r).boot = f s.boot := event.same .boot (by decide)
  have ring : (s.endChange r).ring = g s.ring := event.same .ring (by decide)
  refine ⟨?_, ?_, ?_, loader ▸ staged, loader ▸ recipe, ring ▸ members⟩
  · rw [event.get (by decide) CFG_CHG_RESULT_blk, shown, State.get_onRing, State.get_onBoot, State.get_put_ne _ _ _ _ (by decide),
      State.get_put_apart _ _ rfl, State.get_put_fits _ _ _ rfl]
    exact Nat.mod_eq_of_lt hr
  · rw [event.get (by decide) CFG_CHG_BUSY_blk, shown, State.get_onRing, State.get_onBoot, State.get_put_ne _ _ _ _ (by decide)]
    exact State.get_put_fits _ _ _ rfl
  · rw [event.get (by decide) CFG_STATE_STATE_blk, shown, State.get_onRing, State.get_onBoot]
    exact State.get_put_fits _ _ _ rfl

/-- Of the block CFG, the end of a changeover writes CFG_CHG and CFG_STATE alone. -/
theorem State.rd_endChange (r : Nat) (s : State) {a : Nat} (block : a / 0x1000000 = Block.cfg.num) (other : a ∉ [CFG_CHG, CFG_STATE]) :
    (s.endChange r).rd a = s.rd a := by
  obtain ⟨f, g, -, -, -, eq⟩ := s.endChange_eq r
  simp only [List.mem_cons, List.not_mem_nil, or_false, not_or] at other
  obtain ⟨chg, state⟩ := other
  rw [eq, (State.event_keeps (Keeps.refl [.reg .knl, .knl] _) (by decide)).rd (by decide) block, State.rd_onRing, State.rd_onBoot,
    State.rd_put_ne _ _ _ state, State.rd_put_ne _ _ _ chg, State.rd_put_ne _ _ _ chg]

/-- Another field of CFG_CHG stays. -/
theorem State.get_CFG_CHG_COUNT_endChange (r : Nat) (s : State) : (s.endChange r).get CFG_CHG_COUNT = s.get CFG_CHG_COUNT := by
  obtain ⟨f, g, -, -, -, eq⟩ := s.endChange_eq r
  rw [eq, (State.event_keeps (Keeps.refl [.reg .knl, .knl] _) (by decide)).get (by decide) CFG_CHG_COUNT_blk, State.get_onRing,
    State.get_onBoot, State.get_put_ne _ _ _ _ (by decide), State.get_put_apart _ _ rfl, State.get_put_apart _ _ rfl]

theorem State.endChange_onlyChanges (r : Nat) (s : State) :
    OnlyChanges [.boot, .ring, .knl, .reg .knl] [CFG_CHG, CFG_STATE] s (s.endChange r) :=
  (State.endChange_keeps (Keeps.refl _ s) (by decide) : Keeps [.reg .cfg, .boot, .ring, .knl, .reg .knl] s _).onlyChanges_words
    fun _ block other => s.rd_endChange r block other

/-! ### Staging (R75, R87, R88) -/

/-- R91: the result of a rejected recipe. -/
theorem changeResult_eq (c : Nat) : changeResult c = if c = 0xB then 0xD else if c = 0xC then 0xE else if c = 0xD then 0xC else 0xB := by
  unfold changeResult
  split
  · rfl
  · rfl
  · rfl
  next b c d =>
    rw [if_neg b, if_neg c, if_neg d]

theorem changeResult_lt (c : Nat) : changeResult c < 16 := by
  rw [changeResult_eq]
  split_ifs <;> decide

/-- R87: a recipe that fails a check ends the changeover. -/
theorem State.stageRecipe_rejected {timeout : Bool} (busy : s.get CFG_CHG_BUSY = 1) (unstaged : s.boot.staged = none)
    (bad : (s.checkRecipe s.boot.chgSlot timeout).1 ≠ 0) :
    s.stageRecipe timeout = s.endChange (changeResult (s.checkRecipe s.boot.chgSlot timeout).1) := by
  rw [State.stageRecipe, if_neg (by simp [State.flag, busy, unstaged])]
  exact if_pos bad

/-- R87: one that passes is staged. -/
def State.stageSets (r : Image) (s : State) : State :=
  let t := s.onBoot fun b => { b with staged := some r }
  if t.get RNG_CFG_ROLE = 1 then (t.newBlocks (s.effWith r)).foldl (fun u n => u.stageBlock (s.effWith r) n) t else t

theorem State.stageRecipe_staged {timeout : Bool} (busy : s.get CFG_CHG_BUSY = 1) (unstaged : s.boot.staged = none)
    (good : (s.checkRecipe s.boot.chgSlot timeout).1 = 0) :
    s.stageRecipe timeout = s.stageSets (s.checkRecipe s.boot.chgSlot timeout).2 := by
  rw [State.stageRecipe, if_neg (by simp [State.flag, busy, unstaged])]
  dsimp only
  rw [if_neg (not_not.mpr good), State.stageSets]

/-- R88: the sets go to the members over the ring. -/
theorem State.stageSets_keeps (r : Image) (s : State) : Keeps [.ring] (s.onBoot fun b => { b with staged := some r }) (s.stageSets r) :=
  keeps_ite (fun _ => keeps_foldl (fun _ _ h => State.stageBlock_keeps h (by decide)) _ (Keeps.refl _ _)) fun _ => Keeps.refl _ _

theorem State.stageRecipe_onlyChanges (timeout : Bool) (s : State) :
    OnlyChanges [.boot, .ring, .knl, .reg .knl] [CFG_CHG, CFG_STATE] s (s.stageRecipe timeout) := by
  refine (State.stageRecipe_keeps (Keeps.refl _ s) (by decide) : Keeps [.reg .cfg, .boot, .ring, .knl, .reg .knl] s _).onlyChanges_words
    fun a block other => ?_
  by_cases idle : (!(s.flag CFG_CHG_BUSY) || s.boot.staged.isSome) = true
  · rw [State.stageRecipe, if_pos idle]
  · simp only [Bool.or_eq_true, Bool.not_eq_true', Bool.not_eq_true, not_or, Bool.not_eq_false, Option.isSome_eq_false_iff,
      Option.isNone_iff_eq_none] at idle
    obtain ⟨flag, unstaged⟩ := idle
    have busy := (s.flag_iff _).mp flag
    by_cases good : (s.checkRecipe s.boot.chgSlot timeout).1 = 0
    · rw [State.stageRecipe_staged busy unstaged good]
      exact (State.stageSets_keeps _ s).rd (by decide) block
    · rw [State.stageRecipe_rejected busy unstaged good]
      exact s.rd_endChange _ block other

/-! ### The acknowledgements (R88) -/

theorem State.ringMem_onRingMem_same (s : State) (m : Nat) (f : RingMem → RingMem) : (s.onRingMem m f).ringMem m = f (s.ringMem m) :=
  tabGet_tabSet_same _ _ _ _

/-- R88: subaxis `k` of member `m` owes its acknowledgement no longer. -/
def State.takeAck (m k : Nat) (s : State) : State := s.onRingMem m fun x => { x with stageOwed := x.stageOwed.filter (· != k) }

theorem State.stageAck_eq {m k : Nat} (staged : s.boot.staged.isSome = true) (owed : k ∈ (s.ringMem m).stageOwed) :
    s.stageAck m k = if (s.takeAck m k).stageWaits then s.takeAck m k
      else (s.takeAck m k).onRing fun r => { r with cmt := some s.commitCycle } :=
  if_pos (by simp [staged, owed])

/-- A property of every value of a table is one of the table with another such value. -/
theorem forall_mem_tabSet {α : Type} {p : α → Prop} {t : Tab α} (i : Nat) {v : α} (ht : ∀ e ∈ t, p e.2) (hv : p v) :
    ∀ e ∈ tabSet t i v, p e.2 := by
  induction t with
  | nil => simpa [tabSet] using hv
  | cons e t ih =>
    obtain ⟨k, w⟩ := e
    obtain ⟨head, tail⟩ := List.forall_mem_cons.mp ht
    unfold tabSet
    split
    · exact List.forall_mem_cons.mpr ⟨hv, tail⟩
    · split
      · exact List.forall_mem_cons.mpr ⟨hv, ht⟩
      · exact List.forall_mem_cons.mpr ⟨head, ih tail⟩

theorem State.stageWaits_eq_false : s.stageWaits = false ↔ ∀ e ∈ s.ring.mems, e.2.stageOwed = [] := by
  simp [State.stageWaits]

/-- The value of a table under a key, listed or not. -/
theorem tabGet_of_forall {α : Type} {p : α → Prop} {d : α} {t : Tab α} (hd : p d) (ht : ∀ e ∈ t, p e.2) (i : Nat) : p (tabGet d t i) := by
  unfold tabGet
  induction t with
  | nil => exact hd
  | cons e t ih =>
    obtain ⟨k, w⟩ := e
    obtain ⟨head, tail⟩ := List.forall_mem_cons.mp ht
    unfold tabFind
    split
    · exact head
    · exact ih tail

/-- R395: a supervisory request leaves what is owed alone. -/
theorem State.stageWaits_svRequest (m mtype : Nat) (data : List Byte) (h : s.stageWaits = false) :
    (s.svRequest m mtype data).stageWaits = false := by
  rw [State.stageWaits_eq_false] at h ⊢
  have settled : (s.ringMem m).stageOwed = [] := tabGet_of_forall (p := fun x : RingMem => x.stageOwed = []) rfl h m
  exact forall_mem_tabSet (p := fun x : RingMem => x.stageOwed = []) m h settled

/-- R88: the staged sets are discarded: no acknowledgement is awaited any more, and no set is sent again. -/
def State.discardSets (s : State) : State :=
  (s.onRing fun r => { r with mems := r.mems.map fun e =>
    (e.1, { e.2 with stageOwed := [], reqs := e.2.reqs.filter fun q => !(q.mtype == 2 && leAt q.data 1 1 == 1) }) }).svRequest 0 3 []

theorem State.discardSets_keeps (s : State) : Keeps [.ring] s s.discardSets :=
  State.svRequest_keeps (State.onRing_keeps (Keeps.refl _ s) (by decide)) (by decide)

theorem State.stageWaits_discardSets (s : State) : s.discardSets.stageWaits = false := by
  refine State.stageWaits_svRequest _ _ _ (State.stageWaits_eq_false.mpr fun e he => ?_)
  obtain ⟨x, -, rfl⟩ := List.mem_map.mp he
  rfl

theorem State.stageTimeout_eq {t : Nat} (sent : s.ring.stageAt = some t) (waits : s.stageWaits = true) (staged : s.boot.staged.isSome = true)
    (late : t + 1100000000 ≤ s.clk.elapsed) : s.stageTimeout = s.discardSets.endChange 0xF := by
  rw [State.stageTimeout, sent]
  exact if_pos (by simp [waits, staged, late])

end Sys2Proof.Machine
end

section
/-! PROOFS. The path groups at the commit of a changeover (R89, R90, R162). -/

namespace Sys2Proof.Machine

variable {k v : Nat} {s t : State}

/-! ### The state of a group, and what leaves it alone -/

/-- Group `k` shows the state `v`. -/
def GroupAt (k v : Nat) (s : State) : Prop := s.get (PRF_GRPST_STATE k) = v

/-- No PRF_GRPST lies at the address. -/
def NoGroup (a : Nat) : Prop := a < 0x12000410 ∨ 0x12000800 ≤ a ∨ a % 0x40 ≠ 0x10

theorem NoGroup.ne {a : Nat} (h : NoGroup a) (k : Nat) : PRF_GRPST k ≠ a := by
  simp only [NoGroup] at h
  simp only [PRF_GRPST]
  omega

theorem noGroup_PRF_STAT : NoGroup PRF_STAT := by simp only [NoGroup, PRF_STAT]; omega
theorem noGroup_PRF_CFG : NoGroup PRF_CFG := by simp only [NoGroup, PRF_CFG]; omega
theorem noGroup_PRF_BOUND : NoGroup PRF_BOUND := by simp only [NoGroup, PRF_BOUND]; omega
theorem noGroup_PRF_DISC : NoGroup PRF_DISC := by simp only [NoGroup, PRF_DISC]; omega
theorem noGroup_PRF_MVST (n : Nat) : NoGroup (PRF_MVST n) := by simp only [NoGroup, PRF_MVST]; omega
theorem noGroup_PRF_MVTAG (n : Nat) : NoGroup (PRF_MVTAG n) := by simp only [NoGroup, PRF_MVTAG]; omega
theorem noGroup_PRF_AXST (n : Nat) : NoGroup (PRF_AXST n) := by simp only [NoGroup, PRF_AXST]; omega
theorem noGroup_PRF_AXGEN (n : Nat) : NoGroup (PRF_AXGEN n) := by simp only [NoGroup, PRF_AXGEN]; omega
theorem noGroup_PRF_GRPCUR (g : Nat) : NoGroup (PRF_GRPCUR g) := by simp only [NoGroup, PRF_GRPCUR]; omega
theorem noGroup_PRF_GRPACC (g : Nat) : NoGroup (PRF_GRPACC g) := by simp only [NoGroup, PRF_GRPACC]; omega
theorem noGroup_PRF_GRPABT (g : Nat) : NoGroup (PRF_GRPABT g) := by simp only [NoGroup, PRF_GRPABT]; omega

theorem GroupAt.wr (h : GroupAt k v s) {a : Nat} (ha : NoGroup a) (w : Nat) : GroupAt k v (s.wr a w) :=
  (State.get_wr_ne s (PRF_GRPST_STATE k) w (ha.ne k)).trans h

theorem GroupAt.put (h : GroupAt k v s) {f : Fld} (hf : NoGroup f.addr) (w : Nat) : GroupAt k v (s.put f w) := h.wr hf _

/-- An operation that writes nothing in the block PRF. -/
theorem GroupAt.keeps (h : GroupAt k v s) {m : List Part} (keeps : Keeps m s t) (hm : Part.reg .prf ∉ m) : GroupAt k v t :=
  (keeps.get hm (PRF_GRPST_STATE_blk k)).trans h

theorem GroupAt.ite {c : Prop} [Decidable c] (hs : c → GroupAt k v s) (ht : ¬c → GroupAt k v t) : GroupAt k v (if c then s else t) := by
  split
  · exact hs ‹_›
  · exact ht ‹_›

theorem GroupAt.refl (k : Nat) (s : State) : GroupAt k (s.get (PRF_GRPST_STATE k)) s := rfl

theorem GroupAt.onMot (h : GroupAt k v s) (n : Nat) (f : Motion → Motion) : GroupAt k v (s.onMot n f) := h

theorem GroupAt.onGrp (h : GroupAt k v s) (g : Nat) (f : Group → Group) : GroupAt k v (s.onGrp g f) := h

theorem GroupAt.foldl {α : Type} {f : State → α → State} (hf : ∀ s x, GroupAt k v s → GroupAt k v (f s x)) (l : List α)
    (h : GroupAt k v s) : GroupAt k v (l.foldl f s) := by
  induction l generalizing s with
  | nil => exact h
  | cons x l ih => exact ih (hf s x h)

theorem GroupAt.report (h : GroupAt k v s) (src cls detail a0 a1 a2 : Nat) : GroupAt k v (s.report src cls detail a0 a1 a2) :=
  h.keeps (State.report_keeps (Keeps.refl [.reg .err, .log] s) (by decide)) (by decide)

theorem GroupAt.lose (h : GroupAt k v s) {f : Fld} (hf : NoGroup f.addr) (src n : Nat) : GroupAt k v (s.lose src f n) := by
  have counted : GroupAt k v (s.satBump f n) := h.put hf _
  unfold State.lose
  dsimp only
  exact .ite (fun _ => counted) fun _ => .ite (fun _ => counted.report ..) fun _ => counted

/-- R170: an event that queue 0x01 takes, or that is lost. -/
theorem GroupAt.pushEvent (h : GroupAt k v s) (code index reason tag : Nat) (data : Option (Nat × Int)) :
    GroupAt k v (s.pushEvent code index reason tag data) := by
  have pushed (es) : GroupAt k v (s.tryPush 2 1 es).2 :=
    h.keeps (State.tryPush_keeps (Keeps.refl [.reg .knl, .reg .que, .sets, .bulk, .knl, .que] s) (by decide)) (by decide)
  unfold State.pushEvent
  dsimp only
  exact .ite (fun _ => pushed _) fun _ => (pushed _).lose noGroup_PRF_STAT _ _

theorem GroupAt.setMode (h : GroupAt k v s) (n m tag : Nat) : GroupAt k v (s.setMode n m tag) :=
  (h.put (noGroup_PRF_MVST n) m).wr (noGroup_PRF_MVTAG n) tag

theorem GroupAt.endSuper (h : GroupAt k v s) (n : Nat) : GroupAt k v (s.endSuper n) := by
  unfold State.endSuper
  split
  · exact ((h.onMot n _).put (noGroup_PRF_MVST n) _).pushEvent ..
  · exact h

/-! ### The segments of a group that ends (R162) -/

theorem GroupAt.segAbort (h : GroupAt k v s) (g reason tag : Nat) : GroupAt k v (s.segAbort g reason tag) :=
  (h.put (f := whole (PRF_GRPABT g)) (noGroup_PRF_GRPABT g) _).keeps
    (State.segEvent_keeps (Keeps.refl [.reg .knl, .reg .que, .sets, .bulk, .knl, .que, .prf] _) (by decide)) (by decide)

theorem GroupAt.abortSegs (h : GroupAt k v s) (g reason n : Nat) : GroupAt k v (s.abortSegs g reason n) := by
  induction n generalizing s with
  | zero => exact h
  | succ n ih =>
    unfold State.abortSegs
    refine .ite (fun _ => h) fun _ => ?_
    split
    · exact ih ((h.onGrp g _).segAbort ..)
    · exact h
    · have popped : GroupAt k v (s.dequeue (0x10 + g)).2 :=
        h.keeps (State.dequeue_keeps (Keeps.refl [.reg .knl, .reg .que, .sets, .knl, .que] s) (by decide)) (by decide)
      have aborted := GroupAt.foldl (f := fun s (c : MotCmd × Bool) => (s.bump (whole (PRF_GRPACC g))).segAbort g reason c.1.tag)
        (fun s c h => (h.put (f := whole (PRF_GRPACC g)) (noGroup_PRF_GRPACC g) _).segAbort g reason c.1.tag)
        (assemble (s.grp g).part (s.dequeue (0x10 + g)).1.toNat).2.1
        (popped.onGrp g fun x => { x with part := (assemble (s.grp g).part (s.dequeue (0x10 + g)).1.toNat).1 })
      exact ih (.ite (fun _ => aborted.put (f := whole PRF_DISC) noGroup_PRF_DISC _) fun _ => aborted)

/-- What a group shows of its window lies beside its state. -/
theorem GroupAt.showGroup (h : GroupAt k v s) (g : Nat) : GroupAt k v (s.showGroup g) :=
  GroupAt.wr ((State.get_put_apart s (f := PRF_GRPST_WIN g) (g := PRF_GRPST_STATE k) _ rfl).trans h) (noGroup_PRF_GRPCUR g) _

/-! ### The end of a group -/

/-- From `s` to `t` group `k` shows the same, or, if it is configured, has ended: it is in IDLE or in ABORT. -/
def GroupDrift (k : Nat) (s t : State) : Prop :=
  t.get (PRF_GRPST_STATE k) = s.get (PRF_GRPST_STATE k) ∨
    (s.get (PRF_GRPST_STATE k) ≠ 0 ∧ (t.get (PRF_GRPST_STATE k) = 1 ∨ t.get (PRF_GRPST_STATE k) = 5))

/-- R90: from `s` to `t` group `k` has ended, if it is configured. -/
structure GroupEnds (k : Nat) (s t : State) : Prop where
  unconfigured : s.get (PRF_GRPST_STATE k) = 0 → t.get (PRF_GRPST_STATE k) = 0
  ended : s.get (PRF_GRPST_STATE k) ≠ 0 → t.get (PRF_GRPST_STATE k) = 1 ∨ t.get (PRF_GRPST_STATE k) = 5

theorem GroupDrift.trans {u : State} (h : GroupDrift k s t) (g : GroupDrift k t u) : GroupDrift k s u := by
  simp only [GroupDrift] at *
  omega

theorem GroupDrift.ends {u : State} (h : GroupDrift k s t) (g : GroupEnds k t u) : GroupEnds k s u := by
  obtain ⟨zero, ended⟩ := g
  simp only [GroupDrift] at h
  exact ⟨by omega, by omega⟩

theorem GroupEnds.drift {u : State} (h : GroupEnds k s t) (g : GroupDrift k t u) : GroupEnds k s u := by
  obtain ⟨zero, ended⟩ := h
  simp only [GroupDrift] at g
  exact ⟨by omega, by omega⟩

theorem GroupAt.drift (h : GroupAt k (s.get (PRF_GRPST_STATE k)) t) : GroupDrift k s t := .inl h

/-- R162: a group whose segments have been returned enters IDLE, or stays unconfigured. -/
def State.returnIdle (g : Nat) (s : State) : State := s.put (PRF_GRPST_STATE g) (min 1 (s.get (PRF_GRPST_STATE g)))

/-- Two groups that share a word show the same. -/
theorem PRF_GRPST_STATE_eq {g : Nat} (h : PRF_GRPST k = PRF_GRPST g) : PRF_GRPST_STATE k = PRF_GRPST_STATE g := by
  rw [PRF_GRPST_STATE, h, PRF_GRPST_STATE]

theorem State.returnIdle_drift (g k : Nat) (s : State) : GroupDrift k s (s.returnIdle g) := by
  by_cases same : PRF_GRPST k = PRF_GRPST g
  · rw [GroupDrift, PRF_GRPST_STATE_eq same]
    have idle : (s.returnIdle g).get (PRF_GRPST_STATE g) = min 1 (s.get (PRF_GRPST_STATE g)) % 2 ^ 3 := State.get_put_fits _ _ _ rfl
    omega
  · exact .inl (State.get_put_ne _ _ _ _ same)

/-- R162: the axes that still move do so no longer for the group, and an abort that was commanded is done. -/
def State.dismiss (g : Nat) (tag : Option Nat) (s : State) : State :=
  let s := (s.groupAxes g).foldl (fun s n => if s.axState n = 3 then s.put (PRF_MVST_MODE n) 0 else s) s
  match tag with
  | some t => s.pushEvent 0x02 g 0 t none
  | none => s

theorem GroupAt.dismiss (h : GroupAt k v s) (g : Nat) (tag : Option Nat) : GroupAt k v (s.dismiss g tag) := by
  have alone (l : List Nat) : GroupAt k v (l.foldl (fun s n => if s.axState n = 3 then s.put (PRF_MVST_MODE n) 0 else s) s) :=
    .foldl (fun _ n h => .ite (fun _ => h.put (noGroup_PRF_MVST n) 0) fun _ => h) l h
  unfold State.dismiss
  split
  · exact (alone _).pushEvent ..
  · exact alone _

/-- R162: the group leaves ABORT. -/
def State.leaveGroup (g reason : Nat) (s : State) : State :=
  ((s.returnIdle g).onGrp g fun x =>
    { x with aborting := none, abortTag := none, part := x.part.map fun q => { q with drop := some reason } }).dismiss g (s.grp g).abortTag

theorem State.leaveGroup_drift (g reason k : Nat) (s : State) : GroupDrift k s (s.leaveGroup g reason) :=
  (s.returnIdle_drift g k).trans ((GroupAt.refl k _).onGrp g _ |>.dismiss g _).drift

/-- R162: the segments of group `g` are returned. -/
def State.returnSegs (g reason : Nat) (s : State) : State :=
  ((s.onGrp g fun x => { x with run := none, spline := [], speed := 0, gain := 0, here := [], off := [], plan := [], dwelt := 0 }).abortSegs g
    reason 4096).showGroup g

theorem State.returnSegs_drift (g reason k : Nat) (s : State) : GroupDrift k s (s.returnSegs g reason) :=
  ((GroupAt.refl k s).onGrp g _ |>.abortSegs g reason 4096 |>.showGroup g).drift

/-- R162: the end of a group waits for its axes, and then for the places of its events. -/
theorem State.groupFinish_cases (g : Nat) (s : State) : s.groupFinish g = s ∨
    ∃ reason, s.groupFinish g = s.returnSegs g reason ∨ s.groupFinish g = (s.returnSegs g reason).leaveGroup g reason := by
  unfold State.groupFinish
  split
  · exact .inl rfl
  next reason _ =>
    split
    · refine .inr ⟨reason, ?_⟩
      dsimp only
      split
      · exact .inr rfl
      · exact .inl rfl
    · exact .inl rfl

theorem State.groupFinish_drift (g k : Nat) (s : State) : GroupDrift k s (s.groupFinish g) := by
  rcases s.groupFinish_cases g with eq | ⟨reason, eq | eq⟩ <;> rw [eq]
  · exact .inl rfl
  · exact s.returnSegs_drift g reason k
  · exact (s.returnSegs_drift g reason k).trans (State.leaveGroup_drift g reason k _)

/-- R90: a group that ends goes to ABORT. -/
theorem State.get_groupEnd (g reason : Nat) (off : List Nat) (s : State) (k : Nat) :
    (s.groupEnd g reason off).get (PRF_GRPST_STATE k) = (s.put (PRF_GRPST_STATE g) 5).get (PRF_GRPST_STATE k) :=
  GroupAt.foldl (fun _ _ h => h.keeps (State.planStop_keeps (Keeps.refl [.prf] _) (by decide)) (by decide)) _ rfl

/-- R90: what the commit does to group `g`. -/
def State.dropGroup (g : Nat) (s : State) : State :=
  if s.get (PRF_GRPST_STATE g) = 0 then (s.onGrp g fun x => { x with aborting := some 0x03 }).groupFinish g
  else (s.groupEnd g 0x03 []).groupFinish g

/-- The group itself ends. -/
theorem State.dropGroup_ends (g : Nat) (s : State) : GroupEnds g s (s.dropGroup g) := by
  unfold State.dropGroup
  split
  next unconfigured =>
    have drift : GroupDrift g s _ := (s.onGrp g fun x => { x with aborting := some 0x03 }).groupFinish_drift g g
    exact drift.ends ⟨id, fun configured => absurd unconfigured (by
      rcases drift with same | ⟨configured, -⟩
      · exact same ▸ configured
      · exact configured)⟩
  next configured =>
    have ends : GroupEnds g s (s.groupEnd g 0x03 []) := by
      refine ⟨fun h => absurd h configured, fun _ => .inr ?_⟩
      rw [s.get_groupEnd]
      exact State.get_put_fits _ _ _ rfl
    exact ends.drift (State.groupFinish_drift g g _)

/-- Another group is left alone. -/
theorem State.dropGroup_drift (g k : Nat) (s : State) : GroupDrift k s (s.dropGroup g) := by
  by_cases same : PRF_GRPST k = PRF_GRPST g
  · obtain ⟨zero, ended⟩ := s.dropGroup_ends g
    rw [GroupDrift, PRF_GRPST_STATE_eq same]
    omega
  · unfold State.dropGroup
    split
    · exact (s.onGrp g fun x => { x with aborting := some 0x03 }).groupFinish_drift g k
    · refine GroupDrift.trans (.inl ?_) (State.groupFinish_drift g k _)
      rw [s.get_groupEnd]
      exact State.get_put_ne _ _ _ _ same

/-- Over all groups, each that is configured ends. -/
theorem State.dropGroups_ends {l : List Nat} (hk : k ∈ l) (s : State) : GroupEnds k s (l.foldl (fun s g => s.dropGroup g) s) := by
  have drift (l : List Nat) (t : State) : GroupDrift k t (l.foldl (fun s g => s.dropGroup g) t) := by
    induction l generalizing t with
    | nil => exact .inl rfl
    | cons g l ih => exact (t.dropGroup_drift g k).trans (ih _)
  induction l generalizing s with
  | nil => cases hk
  | cons g l ih =>
    rcases List.mem_cons.mp hk with rfl | later
    · exact (s.dropGroup_ends k).drift (drift l _)
    · exact (s.dropGroup_drift g k).ends (ih later _)

/-- R90: couplings and superimposed moves end, and every configured group does. -/
theorem State.dropQueues_ends (hk : k < 16) (s : State) : GroupEnds k s s.dropQueues := by
  have uncoupled (n : Nat) {t : State} (h : GroupAt k (s.get (PRF_GRPST_STATE k)) t) : GroupAt k (s.get (PRF_GRPST_STATE k))
      (if (t.mot n).cpl.isSome then ((t.onMot n fun m => { m with cpl := none }).put (PRF_MVST_MASTER n) 0).setMode n 0 0 else t) :=
    .ite (fun _ => ((h.onMot n _).put (noGroup_PRF_MVST n) 0).setMode n 0 0) fun _ => h
  have axes := GroupAt.foldl (k := k) (v := s.get (PRF_GRPST_STATE k)) (s := s) (f := fun s n =>
      let s := if (s.mot n).sup.isSome then s.endSuper n else s
      if (s.mot n).cpl.isSome then ((s.onMot n fun m => { m with cpl := none }).put (PRF_MVST_MASTER n) 0).setMode n 0 0 else s)
    (fun _ n h => uncoupled n (.ite (fun _ => h.endSuper n) fun _ => h)) (List.range 256) rfl
  have flushed := axes.keeps (State.onPrf_keeps (f := fun p => { p with part := none }) (State.flush_keeps (q := 0)
    (Keeps.refl [.reg .knl, .reg .que, .sets, .bus, .knl, .que, .svc, .prf] _) (by decide)) (by decide)) (by decide)
  exact flushed.drift.ends (State.dropGroups_ends (List.mem_range.mpr hk) _)

/-! ### The rest of the commit leaves the groups alone (R89, R94, R187, R243, R445) -/

theorem GroupAt.revalidate (h : GroupAt k v s) (n : Nat) : GroupAt k v (s.revalidate n) := by
  have shown := h.keeps (t := ((s.put (ENG_CST_CGEN n) (s.get (PRF_AXGEN_CGEN n))).onAxis n fun x => { x with stale := false }))
    (State.onAxis_keeps (State.put_keeps (ENG_CST_CGEN_blk n) (Keeps.refl [.reg .eng, .axes] s) (by decide)) (by decide)) (by decide)
  have band (x y : Nat) {t : State} (h : GroupAt k v t) : GroupAt k v ((t.put (ENG_BAND_HYST n) x).put (ENG_BAND_MINDW n) y) :=
    h.keeps (State.put_keeps (ENG_BAND_MINDW_blk n) (State.put_keeps (ENG_BAND_HYST_blk n) (Keeps.refl [.reg .eng] t) (by decide))
      (by decide)) (by decide)
  unfold State.revalidate
  dsimp only
  refine .ite (fun _ => h) fun _ => .ite (fun _ => ?_) fun _ => band _ _ shown
  exact ((band _ _ shown).keeps (State.emptyDarner_keeps (Keeps.refl [.reg .eng, .drn] _) (by decide)) (by decide)).put
    (noGroup_PRF_AXGEN n) _

theorem GroupAt.sheepPending (h : GroupAt k v s) (a : Nat) : GroupAt k v (s.sheepPending a) := by
  have pending := h.keeps (State.put_keeps (v := 256) (ENG_SST_SETTLE_blk a)
    (State.put_keeps (v := 1) (ENG_SST_STATE_blk a) (Keeps.refl [.reg .eng] s) (by decide)) (by decide)) (by decide)
  unfold State.sheepPending
  exact (pending.put (f := PRF_AXST_SDPEND a) (noGroup_PRF_AXST a) (b2n true)).keeps
    (State.onShp_keeps (State.wr_keeps (v := 0) (ENG_SRES_blk a) (Keeps.refl [.reg .eng, .shp] _) (by decide)) (by decide)) (by decide)

theorem GroupAt.switchCaches (h : GroupAt k v s) (n : Nat) (old : List Byte) (changeover : Bool) :
    GroupAt k v (s.switchCaches n old changeover) := by
  have reloaded {t : State} (h : GroupAt k v t) :
      GroupAt k v ((((((t.revalidate n).tagDarner n).showDelays n).showContext n).loadParam n).showDarner n) :=
    ((h.revalidate n).put (noGroup_PRF_AXGEN n) _).keeps (State.showDarner_keeps (State.loadParam_keeps (State.showContext_keeps
      (State.showDelays_keeps (Keeps.refl [.reg .csf, .reg .eng, .eng] _) (by decide)) (by decide)) (by decide)) (by decide)) (by decide)
  have timed {t : State} (h : GroupAt k v t) : GroupAt k v (t.newTiming n old) :=
    h.keeps (State.newTiming_keeps (Keeps.refl [.reg .lsh, .reg .pwm, .reg .err, .sets, .log, .axes, .pwm] t) (by decide)) (by decide)
  have preset {t : State} (h : GroupAt k v t) : GroupAt k v (t.presetInertia n) :=
    h.keeps (State.presetInertia_keeps (Keeps.refl [.reg .eng, .ine] t) (by decide)) (by decide)
  have handed {t : State} (h : GroupAt k v t) : GroupAt k v ((t.setPreset n).handOverCommit n) :=
    h.keeps (State.handOverCommit_keeps (State.setPreset_keeps (Keeps.refl [.reg .eng, .fresh, .eng] t) (by decide)) (by decide)) (by decide)
  unfold State.switchCaches
  dsimp only
  refine .ite (fun _ => ?cached) fun _ => .ite (fun _ => ?remote) fun _ => h
  case remote =>
    exact h.keeps (State.showMexp_keeps (State.onAxis_keeps (Keeps.refl [.reg .rng, .axes] s) (by decide)) (by decide)) (by decide)
  case cached =>
    have stale := reloaded (GroupAt.ite (c := s.get (PRF_AXGEN_CGEN n) = 1) (s := s.onAxis n fun x => { x with stale := true }) (fun _ => h)
      fun _ => h)
    refine .ite (fun _ => stale) fun _ => ?_
    have estimate := fun c => GroupAt.ite (c := c = true) (fun _ => preset (timed stale)) fun _ => timed stale
    exact .ite (fun _ => estimate _) fun _ => .ite (fun _ => (handed (estimate _)).sheepPending n) fun _ => handed (estimate _)

theorem GroupAt.changeEntry (h : GroupAt k v s) (n : Nat) (x : List Byte) : GroupAt k v (s.changeEntry n x) := by
  have stored (b : List Byte) (g : Nat) : GroupAt k v (((s.bulkStore (s.workAt n) b).bulkStore (s.entryAt n) b).put (PRF_AXGEN_CGEN n) g) :=
    (h.keeps (State.bulkStore_keeps (State.bulkStore_keeps (Keeps.refl [.bulk] s) (by decide)) (by decide)) (by decide)).put
      (noGroup_PRF_AXGEN n) g
  unfold State.changeEntry
  dsimp only
  refine .ite (fun _ => stored _ _) fun _ => ?_
  have switched := fun b g => (stored b g).switchCaches n (s.committed n) true
  exact .ite (fun _ => switched _ _) fun _ => switched _ _

/-- R90: the change to a recipe ends the path of every configured group, and changes the states of the groups in no other way. -/
theorem State.changeTo_ends (hk : k < 16) (r : Image) (s : State) : GroupEnds k s (s.changeTo r) := by
  refine (s.dropQueues_ends hk).drift (GroupAt.drift ?_)
  set v := s.dropQueues.get (PRF_GRPST_STATE k)
  have limits (e : Eff) (dout : Nat) : GroupAt k v (((s.dropQueues.effLimits e).discardLowerings).permClamp dout) :=
    GroupAt.keeps rfl (State.permClamp_keeps (State.discardLowerings_keeps (State.effLimits_keeps
      (Keeps.refl [.reg .lsh, .reg .err, .sets, .log, .lim] _) (by decide)) (by decide)) (by decide)) (by decide)
  have entries (e : Eff) {t : State} (h : GroupAt k v t) : GroupAt k v ((List.range 256).foldl (fun s n => s.changeEntry n (e.entry n)) t) :=
    .foldl (fun _ n h => h.changeEntry n _) _ h
  have banks (old e : Eff) {t : State} (h : GroupAt k v t) : GroupAt k v ((List.range 8).foldl (fun s k => s.swapBank old e k) t) :=
    .foldl (fun _ _ h => h.keeps (State.swapBank_keeps (Keeps.refl [.reg .eng, .fresh, .eng] _) (by decide)) (by decide)) _ h
  have shown (e : Eff) {t : State} (h : GroupAt k v t) : GroupAt k v ((t.loadCams e).showBound e) :=
    (((h.keeps (State.loadCams_keeps (Keeps.refl [.prf] t) (by decide)) (by decide)).put (f := PRF_CFG_NA) noGroup_PRF_CFG _).put
      (f := PRF_CFG_NG) noGroup_PRF_CFG _).wr noGroup_PRF_BOUND _
  have darners (l : List Nat) {t : State} (h : GroupAt k v t) : GroupAt k v (l.foldl (fun s a => s.emptyDarner a) t) :=
    .foldl (fun _ _ h => h.keeps (State.emptyDarner_keeps (Keeps.refl [.reg .eng, .drn] _) (by decide)) (by decide)) _ h
  have dio (p : List Byte) {t : State} (h : GroupAt k v t) : GroupAt k v (t.changeDio p) :=
    h.keeps (State.changeDio_keeps (Keeps.refl [.reg .knl, .reg .que, .reg .dio, .reg .err, .sets, .bulk, .log, .knl, .que, .dio] t)
      (by decide)) (by decide)
  have acquisition (p : List Byte) {t : State} (h : GroupAt k v t) : GroupAt k v (t.acqChangeover p) :=
    h.keeps (State.acqChangeover_keeps (Keeps.refl [.reg .knl, .reg .que, .reg .acq, .reg .err, .fresh, .sets, .bulk, .log, .knl, .que, .acq] t)
      (by decide)) (by decide)
  unfold State.changeTo
  dsimp only
  refine .foldl (fun _ _ h => h.keeps (State.showMexp_keeps (Keeps.refl [.reg .rng] _) (by decide)) (by decide)) _ ?_
  have axes := entries (s.effWith r) (limits (s.effWith r) (s.rd64 LSH_DOUT_E))
  have before := fun l => darners l (shown (s.effWith r) (banks s.effNow (s.effWith r) axes))
  have tables := fun l c => GroupAt.ite (c := c = true) (fun _ => dio (s.effWith r).dio (before l)) fun _ => before l
  split
  · exact acquisition _ (tables _ _)
  · exact tables _ _

end Sys2Proof.Machine
end

section
/-! PROOFS. The commit of a changeover (R89, R91), and the statement of the recipe changeover. -/

namespace Sys2Proof.Machine

variable {s : State}

/-! ### The commit (R89, R91) -/

/-- R394: the members that got another block are asked for their identity. -/
def State.askMembers (sent : List Nat) (s : State) : State :=
  if s.get RNG_CFG_ROLE = 1 then
    (s.ring.map.filter fun m => sent.any fun n => s.axMember n == m.addr).foldl (fun s m => s.askIdent m.addr) s
  else s

/-- R89, R90, R394: the recipe `r` comes into force, here and at the members. -/
def State.enforceRecipe (r : Image) (s : State) : State := (s.changeTo r).askMembers (s.newBlocks (s.effWith r))

/-- R91: the recipe `r` of slot `k` is shown as the one in force, and the changeover is counted. -/
def State.countChange (k : Nat) (r : Image) (s : State) : State :=
  ((((s.put CFG_RCP_ACTIVE k).wr CFG_RCP_CRC (imgHdrCrc r.header)).satBump CFG_CHG_COUNT 1).onBoot fun b => { b with recipe := some r }).recordSlot k

theorem State.commitChange_eq {r : Image} (staged : s.boot.staged = some r) (due : s.changeDue = true) :
    s.commitChange = ((s.enforceRecipe r).countChange s.boot.chgSlot r).endChange 2 := by
  rw [State.commitChange, staged]
  dsimp only
  rw [if_neg (by simp [due])]
  rfl

theorem State.askMembers_keeps (sent : List Nat) (s : State) : Keeps [.ring] s (s.askMembers sent) :=
  keeps_ite (fun _ => keeps_foldl (fun _ _ h => State.askIdent_keeps h (by decide)) _ (Keeps.refl _ s)) fun _ => Keeps.refl _ s

/-- The recipe changes nothing that the block CFG shows. -/
theorem State.get_enforceRecipe_cfg (r : Image) (s : State) {f : Fld} (hf : InBlk .cfg f.addr) : (s.enforceRecipe r).get f = s.get f :=
  ((State.askMembers_keeps _ _).get (by decide) hf).trans
    ((State.changeTo_keeps (Keeps.refl [.reg .lsh, .reg .prf, .reg .eng, .reg .csf, .reg .pwm, .reg .knl, .reg .que, .reg .acq, .reg .rng,
      .reg .dio, .reg .err, .fresh, .sets, .bulk, .bus, .log, .knl, .que, .axes, .lim, .prf, .eng, .pwm, .drn, .ine, .shp, .acq, .dio, .svc] s)
      (by decide)).get (by decide) hf)

/-- R90: the path of every configured group ends. -/
theorem State.enforceRecipe_ends (r : Image) (s : State) {g : Nat} (hg : g < 16) : GroupEnds g s (s.enforceRecipe r) :=
  (State.changeTo_ends hg r s).drift (GroupAt.keeps (GroupAt.refl g _) (State.askMembers_keeps _ _) (by decide)).drift

theorem State.countChange_keeps (k : Nat) (r : Image) (s : State) : Keeps [.reg .cfg, .boot] s (s.countChange k r) :=
  State.recordSlot_keeps (State.onBoot_keeps (State.satBump_keeps CFG_CHG_COUNT_blk (State.wr_keeps CFG_RCP_CRC_blk
    (State.put_keeps CFG_RCP_ACTIVE_blk (Keeps.refl _ s) (by decide)) (by decide)) (by decide)) (by decide)) (by decide)

/-- R91: what is shown of the recipe in force. -/
theorem State.countChange_shows (k : Nat) (r : Image) (s : State) : (s.countChange k r).get CFG_RCP_ACTIVE = k % 16 ∧
    (s.countChange k r).get CFG_CHG_COUNT = min (s.get CFG_CHG_COUNT + 1) 65535 ∧ (s.countChange k r).boot.recipe = some r := by
  have fields (t : State) (f : Boot → Boot) (g : Fld) : ((t.onBoot f).recordSlot k).get g = t.get g := rfl
  refine ⟨?_, ?_, rfl⟩
  · rw [State.countChange, fields, State.satBump, State.get_put_ne _ _ _ _ (by decide), State.get_wr_ne _ _ _ (by decide)]
    exact State.get_put_fits _ _ _ rfl
  · rw [State.countChange, fields, State.get_satBump_same _ _ _ (Nat.le_of_ble_eq_true rfl), State.get_wr_ne _ _ _ (by decide),
      State.get_put_ne _ _ _ _ (by decide)]
    rfl

/-- What the commit of the recipe `r` leaves. -/
structure ChangeCommitted (r : Image) (s u : State) : Prop where
  active : u.get CFG_RCP_ACTIVE = s.boot.chgSlot % 16
  recipe : u.boot.recipe = some r
  staged : u.boot.staged = none
  result : u.get CFG_CHG_RESULT = 2
  busy : u.get CFG_CHG_BUSY = 0
  state : u.get CFG_STATE_STATE = 8
  count : u.get CFG_CHG_COUNT = min (s.get CFG_CHG_COUNT + 1) 65535
  groups : ∀ g : Fin 16, GroupEnds g s u

theorem State.commitChange_committed {r : Image} (staged : s.boot.staged = some r) (due : s.changeDue = true) :
    ChangeCommitted r s s.commitChange := by
  obtain ⟨active, count, recipe⟩ := (s.enforceRecipe r).countChange_shows s.boot.chgSlot r
  set w := (s.enforceRecipe r).countChange s.boot.chgSlot r with shown
  have ended := w.endChange_ended (r := 2) (by decide)
  have kept : Keeps [.reg .cfg, .boot, .ring, .knl, .reg .knl] (s.enforceRecipe r) (w.endChange 2) :=
    State.endChange_keeps ((State.countChange_keeps _ r _).mono (by decide)) (by decide)
  rw [State.commitChange_eq staged due]
  refine ⟨?_, ended.recipe.trans recipe, ended.staged, ended.result, ended.busy, ended.state, ?_, fun g => ?_⟩
  · rw [State.get, w.rd_endChange 2 rfl (by decide)]
    exact active
  · rw [w.get_CFG_CHG_COUNT_endChange, count, s.get_enforceRecipe_cfg r CFG_CHG_COUNT_blk]
  · exact (s.enforceRecipe_ends r g.isLt).drift ((GroupAt.refl g _).keeps kept (by decide)).drift

/-! ### The statement -/

/-- Settles O13: the refusals in the order of `changeRefusal`, the staging and its acknowledgements, and the three ways in which a changeover
ends. -/
theorem recipeChangeover : Obligations.RecipeChangeover := by
  refine ⟨?inProgress, ?noSlot, ?moves, ?accepted, ?busyFlash, ?rejected, ?staged, ?acknowledged, ?timeout, ?commit⟩
  case inProgress =>
    intro dt slot busy s progress
    have refused := State.requestChange_refuses (State.changeRefusal_inProgress (s := s.elapse dt) slot busy progress) slot.isLt (by decide)
    exact ⟨_, rfl, refused.result, refused.slot, refused.busy, refused.others.of_elapse⟩
  case noSlot =>
    intro dt slot busy s free state missing
    have idle : ChangeFree (s.elapse dt) := ⟨free, state⟩
    have refused := State.requestChange_refuses (idle.noSlot busy missing) slot.isLt (by decide)
    exact ⟨_, rfl, refused.result, refused.busy.trans free, refused.others.of_elapse⟩
  case moves =>
    intro dt slot busy s free state small there whole moves
    have idle : ChangeFree (s.elapse dt) := ⟨free, state⟩
    have refused := State.requestChange_refuses (idle.axisMoves ⟨small, there, whole⟩ busy moves) slot.isLt (by decide)
    exact ⟨_, rfl, refused.result, refused.busy.trans free, refused.others.of_elapse⟩
  case accepted =>
    intro dt slot busy s free state small there whole still flash
    have idle : ChangeFree (s.elapse dt) := ⟨free, state⟩
    have taken := (idle.refusal_still ⟨small, there, whole⟩ busy still).trans (if_neg (by
      rcases flash with quiet | suspend
      · simp [quiet]
      · simp [show (s.elapse dt).boot.suspend = true from suspend]))
    have began := State.requestChange_begins taken
    exact ⟨_, rfl, began.result, began.busy, began.state, began.slot, began.staged,
      began.others.of_elapse.mono (by decide) (List.Subset.refl _)⟩
  case busyFlash =>
    intro dt slot busy s free state small there whole still flash suspend
    have idle : ChangeFree (s.elapse dt) := ⟨free, state⟩
    have held := (idle.refusal_still ⟨small, there, whole⟩ busy still).trans
      (if_pos (by simp [flash, show (s.elapse dt).boot.suspend = false from suspend]))
    have refused := State.requestChange_refuses held slot.isLt (by decide)
    exact ⟨_, rfl, refused.result, refused.busy.trans free, refused.others.of_elapse⟩
  case rejected =>
    intro dt timeout c s busy unstaged cause bad
    subst cause
    have eq := State.stageRecipe_rejected (s := s.elapse dt) (timeout := timeout) busy unstaged bad
    have others := ((s.elapse dt).stageRecipe_onlyChanges timeout).of_elapse.mono (n := [.clk, .boot, .ring, .knl, .reg .knl, .sets])
      (by decide) (List.Subset.refl _)
    have ended := (s.elapse dt).endChange_ended (changeResult_lt ((s.elapse dt).checkRecipe s.boot.chgSlot timeout).1)
    refine ⟨_, rfl, ?_, ?_, ?_, ?_, others⟩ <;> rw [eq]
    · exact ended.result.trans (changeResult_eq _)
    · exact ended.busy
    · exact ended.state
    · exact ended.recipe
  case staged =>
    intro dt timeout r s busy unstaged
    have others := ((s.elapse dt).stageRecipe_onlyChanges timeout).of_elapse.mono (n := [.clk, .boot, .ring, .knl, .reg .knl, .sets])
      (by decide) (List.Subset.refl _)
    refine ⟨_, rfl, fun read => ?_, others⟩
    have good : ((s.elapse dt).checkRecipe (s.elapse dt).boot.chgSlot timeout).1 = 0 := congrArg Prod.fst read
    have image : ((s.elapse dt).checkRecipe (s.elapse dt).boot.chgSlot timeout).2 = r := congrArg Prod.snd read
    rw [State.stageRecipe_staged (s := s.elapse dt) busy unstaged good, image]
    have sets := (s.elapse dt).stageSets_keeps r
    have loader := sets.same .boot (by decide)
    exact ⟨congrArg Boot.staged loader, (sets.get (by decide) CFG_CHG_BUSY_blk).trans busy, (congrArg Boot.recipe loader).trans rfl⟩
  case acknowledged =>
    intro dt m k s staged owed
    have eq := State.stageAck_eq (s := s.elapse dt) staged owed
    have owes : ((s.elapse dt).takeAck m k).ringMem m = { s.ringMem m with stageOwed := (s.ringMem m).stageOwed.filter (· != k.val) } :=
      State.ringMem_onRingMem_same _ _ _
    have others := (State.stageAck_keeps (m' := m) (k := k) (Keeps.refl [.ring] (s.elapse dt)) (by decide)).onlyChanges [] |>.of_elapse
    refine ⟨_, rfl, ?_, ?_, ?_, others.mono (by decide) (List.Subset.refl _)⟩ <;> rw [eq] <;> split
    · exact congrArg RingMem.stageOwed owes
    · exact congrArg RingMem.stageOwed owes
    next waits => exact fun done => absurd (waits.symm.trans done) (by decide)
    · exact fun _ => rfl
    · exact fun _ => rfl
    next done => exact fun waits => absurd waits done
  case timeout =>
    intro dt t s sent waits staged late
    have eq := State.stageTimeout_eq (s := s.elapse dt) sent waits staged late
    have ended := (s.elapse dt).discardSets.endChange_ended (r := 0xF) (by decide)
    have discarded := (s.elapse dt).discardSets_keeps
    have settled : ((s.elapse dt).discardSets.endChange 0xF).stageWaits = false := by
      rw [State.stageWaits, ended.members]
      exact (s.elapse dt).stageWaits_discardSets
    have others := discarded.thenOnlyChanges (State.endChange_onlyChanges 0xF _)
    refine ⟨_, rfl, ?_, ?_, ?_, ?_, ?_, ?_, ?_⟩ <;> rw [eq]
    · exact ended.result
    · exact ended.busy
    · exact ended.state
    · exact ended.staged
    · exact ended.recipe.trans (congrArg Boot.recipe (discarded.same .boot (by decide)))
    · exact settled
    · exact others.of_elapse.mono (by decide) (List.Subset.refl _)
  case commit =>
    intro dt r s staged due
    have done := State.commitChange_committed (s := s.elapse dt) staged due
    exact ⟨_, rfl, done.active, done.recipe, done.staged, done.result, done.busy, done.state, done.count,
      fun g => ⟨(done.groups g).unconfigured, (done.groups g).ended⟩⟩

end Sys2Proof.Machine
end

section
/-! PROOFS. Writes of the effective values of the Leash (R93, R95). -/

namespace Sys2Proof.Machine

variable {s : State} {e : EffField} {addr : Nat}

/-! ### Where the effective values lie (R105) -/

/-- The effective values lie in the block LSH, above its status word. -/
theorem effField_addr (h : effField addr = some e) : LSH_STAT < e.fld.addr ∧ e.fld.addr + 4 < 0x12000000 := by
  unfold effField at h
  dsimp only at h
  split_ifs at h with mask duty floor pulse own all
  case pos =>
    obtain rfl := Option.some.inj h
    rcases mask with rfl | rfl <;> decide
  case pos | pos | pos =>
    obtain rfl := Option.some.inj h
    simp only [LSH_AUXDUTY, LSH_AUXDTF, LSH_AUXMPW, LSH_STAT] at *
    omega
  case pos =>
    split at h <;> cases h <;>
      simp only [LSH_STAT, LSH_IPK_EFF, LSH_IPK, LSH_ICT_EFF, LSH_ICT, LSH_DUTY_EFF, LSH_DUTY, LSH_DTF_EFF, LSH_DTF, LSH_MPW_EFF, LSH_MPW] <;>
      omega
  case pos | neg =>
    split at h <;> cases h <;> simp only [LSH_STAT, whole] <;> omega

/-- The value in force is told by the field's own words. -/
theorem State.effGet_congr {t u : State} {f : Fld} (low : u.rd f.addr = t.rd f.addr) (high : u.rd (f.addr + 4) = t.rd (f.addr + 4)) :
    u.effGet f = t.effGet f := by
  simp only [State.effGet, State.rd64, State.get, low, high]

/-! ### The two outcomes of a write (R95) -/

/-- What a field takes of the word `v` that is written to its register. -/
def EffField.taken (e : EffField) (v : Nat) : Nat := v / 2 ^ e.fld.lo % 2 ^ e.fld.width

/-- A write that lowers the limit is noted, and waits. -/
theorem State.leashWrite_lowers {who : Accessor} {v : Nat} (h : effField addr = some e)
    (lowers : e.lowers (e.taken v) (s.effGet e.fld) = true) :
    s.leashWrite who addr v =
      s.onLim fun l => { l with lowerings := l.lowerings ++ [{ fld := e.fld, value := e.taken v, time := s.clk.elapsed }] } := by
  rw [EffField.taken] at lowers ⊢
  simp only [State.leashWrite, h, lowers, if_true]

/-- A write that does not lower its limit is counted, and reported as an access error with the address. -/
def State.refuseLimit (who : Accessor) (addr v : Nat) (s : State) : State :=
  (s.satBump LSH_STAT_REFUSED 1).accessError who 4 addr v

/-- Any other write is refused. -/
theorem State.leashWrite_refused {who : Accessor} {v : Nat} (h : effField addr = some e)
    (raises : e.lowers (e.taken v) (s.effGet e.fld) = false) :
    s.leashWrite who addr v = s.refuseLimit who addr (e.taken v) := by
  rw [EffField.taken] at raises ⊢
  simp only [State.leashWrite, State.refuseLimit, h, raises, Bool.false_eq_true, if_false]

/-! ### What a refused write leaves (R95) -/

/-- Once the refusal is counted, only its report is made. -/
theorem State.refuseLimit_reports (s : State) (who : Accessor) (addr v : Nat) :
    Keeps [.reg .err, .bus, .log] (s.satBump LSH_STAT_REFUSED 1) (s.refuseLimit who addr v) :=
  State.accessError_keeps (Keeps.refl _ _) (by decide)

/-- Every word of the Leash but its status word stays. -/
theorem State.rd_refuseLimit (s : State) (who : Accessor) (addr v : Nat) {a : Nat} (lsh : a / 0x1000000 = 0x11) (other : a ≠ LSH_STAT) :
    (s.refuseLimit who addr v).rd a = s.rd a :=
  ((s.refuseLimit_reports who addr v).rd (b := .lsh) (by decide) lsh).trans (State.rd_put_ne s _ _ other)

/-- Every limit stays as it is. -/
theorem State.effGet_refuseLimit {f : Fld} (above : LSH_STAT < f.addr) (inside : f.addr + 4 < 0x12000000) (who : Accessor) (addr v : Nat) :
    (s.refuseLimit who addr v).effGet f = s.effGet f := by
  have block : LSH_STAT = 0x11000000 := rfl
  exact State.effGet_congr (s.rd_refuseLimit who addr v (by omega) (by omega)) (s.rd_refuseLimit who addr v (by omega) (by omega))

/-- One more refusal is counted. -/
theorem State.get_refused_refuseLimit (s : State) (who : Accessor) (addr v : Nat) :
    (s.refuseLimit who addr v).get LSH_STAT_REFUSED = min (s.get LSH_STAT_REFUSED + 1) 255 := by
  rw [(s.refuseLimit_reports who addr v).get (b := .lsh) (by decide) LSH_STAT_REFUSED_blk]
  exact s.get_satBump_same _ 1 (by decide)

/-- The writer's island presents one more report (R489). -/
theorem State.presented_refuseLimit (s : State) (who : Accessor) (addr v : Nat) :
    (s.refuseLimit who addr v).rd (ERR_PRES (accIsland who)) = (s.rd (ERR_PRES (accIsland who)) + 1) % 2 ^ 32 := by
  have apart : ERR_PRES (accIsland who) ≠ LSH_STAT := by
    simp only [ERR_PRES, LSH_STAT]
    omega
  rw [State.refuseLimit, State.accessError, State.rd_onBus, State.rd_report_ERR_PRES, State.satBump, State.rd_put_ne _ _ _ apart]

/-- Nothing changes but the status word of the Leash and what a report changes. -/
theorem State.refuseLimit_onlyChanges (s : State) (who : Accessor) (addr v : Nat) :
    OnlyChanges [.reg .err, .bus, .log] [LSH_STAT] s (s.refuseLimit who addr v) := by
  have counted : Keeps [.reg .lsh, .reg .err, .bus, .log] s (s.satBump LSH_STAT_REFUSED 1) :=
    State.satBump_keeps LSH_STAT_REFUSED_blk (Keeps.refl _ s) (by decide)
  exact (counted.trans ((s.refuseLimit_reports who addr v).mono (by decide))).onlyChanges_words
    fun a lsh other => s.rd_refuseLimit who addr v lsh (List.ne_of_not_mem_cons other)

/-- An access error is counted among those of the bus. -/
@[simp] theorem State.errs_accessError (s : State) (who : Accessor) (detail a v : Nat) :
    (s.accessError who detail a v).bus.errs = s.bus.errs + 1 := by
  have reported : Keeps [.reg .err, .log] s (s.report (accIsland who) 1 detail a (accCode who) v) :=
    State.report_keeps (Keeps.refl _ s) (by decide)
  exact congrArg (fun b : Bus => b.errs + 1) (reported.same .bus (by decide))

/-! ### The statement -/

/-- Settles O14: a lowering is noted; any other write is counted and reported, and leaves the limits as they are. -/
theorem leashLowering : Obligations.LeashLowering := by
  refine ⟨fun dt who addr value e s field lowers => ?_, fun dt who addr value e s field raises => ?_⟩
  · have noted := State.leashWrite_lowers (s := s.elapse dt) (who := who) field lowers
    have others : OnlyChanges [.lim] [] (s.elapse dt) ((s.elapse dt).leashWrite who addr.toNat value.toNat) := by
      rw [noted]
      exact (State.onLim_keeps (Keeps.refl _ _) (by decide)).onlyChanges []
    exact ⟨_, rfl, congrArg (fun t : State => t.lim.lowerings) noted, others.of_elapse.mono (by decide) (List.Subset.refl _)⟩
  · have refused := State.leashWrite_refused (s := s.elapse dt) (who := who) field raises
    obtain ⟨above, inside⟩ := effField_addr field
    refine ⟨_, rfl, ?_, ?_, ?_, ?_, ?_⟩ <;> rw [refused]
    · exact (s.elapse dt).get_refused_refuseLimit who _ _
    · exact State.errs_accessError _ who _ _ _
    · exact State.effGet_refuseLimit above inside who _ _
    · exact (s.elapse dt).presented_refuseLimit who _ _
    · exact ((s.elapse dt).refuseLimit_onlyChanges who _ _).of_elapse.mono (by decide) (List.Subset.refl _)

end Sys2Proof.Machine
end

section
/-! PROOFS. Lowerings of the Leash that are pending at the commit boundary of a changeover (R96). -/

namespace Sys2Proof.Machine

/-- R96: at the commit boundary of a changeover no lowering takes effect: the commit discards it. -/
theorem State.lowerNow_changeDue {s : State} (due : s.changeDue = true) (addr : Nat) : s.lowerNow addr = s := by
  unfold State.lowerNow
  cases effField addr with
  | none => rfl
  | some e => simp [due]

/-- A lowering of the speed limit of remote axis 32, accepted 1 ns before a profile boundary. -/
def speedLowering : Lowering := { fld := whole (LSH_SPD_E 32), value := 50, time := 0 }

/-- A staged changeover, whose commit is due at the present instant, a profile boundary; the speed limit of remote axis 32 is 100,
and `speedLowering` is pending. -/
def loweringAtCommit : State :=
  { regs := [(CFG_CHG, 0x80), (LSH_SPD_E 32, 100)]
    clk := { running := true, elapsed := 1 }
    boot := { staged := some {} }
    lim := { lowerings := [speedLowering] } }

/-- Refutes O15: at the commit boundary of a changeover, which is a boundary of the owner, the pending lowering does not take effect,
but stays for the commit to discard (R96). -/
theorem not_leashTakesEffect : ¬ Obligations.LeashTakesEffect := by
  rintro ⟨takes, -⟩
  obtain ⟨u, run, -, left, -⟩ := takes 0 0x11008804 ⟨whole (LSH_SPD_E 32), .ceiling, false, .profile⟩ loweringAtCommit
    (by decide) (by decide) (by decide) (by decide)
  have kept : (loweringAtCommit.elapse 0).lowerNow (0x11008804#32).toNat = loweringAtCommit.elapse 0 :=
    State.lowerNow_changeDue (by decide) _
  obtain rfl : loweringAtCommit.elapse 0 = u := kept ▸ Host.Outcome.next.inj run
  exact absurd (left speedLowering (by decide)).2 (by decide)

end Sys2Proof.Machine
end

section
/-! PROOFS. The end of an enable while a Darner is shown as learning (R122, R241). -/

namespace Sys2Proof.Machine

/-- Axis 3 is in ENABLING and its brake time ends now, while its Darner is shown as learning (0x2). -/
def enablingWithDarner : State :=
  { regs := [(PRF_AXST 3, 1), (ENG_DST 3, 2)]
    axes := [(3, { enStep := 6, brakeDue := some 0 })] }

/-- Refutes O18: the first clause lists PRF_AXST as the one word outside the Kennel's that BRKREL_ELAPSED changes, but an axis that enters a
state other than CYCLIC idles a Darner that is shown as learning (R241), in the word ENG_DST. The Darner of an enabling axis is off or
idle in a run, but the clause is about every state. -/
theorem not_axisTransitions : ¬ Obligations.AxisTransitions := by
  rintro ⟨released, -⟩
  obtain ⟨u, run, -, -, -, -, others⟩ := released 0 3 enablingWithDarner (by decide) (by decide) (by decide) (by decide)
  obtain rfl : (enablingWithDarner.elapse 0).brkRel 3 = u := Host.Outcome.next.inj run
  have shown : ((enablingWithDarner.elapse 0).brkRel 3).rd (ENG_DST 3) = 2 :=
    others (.reg .eng) (by decide) (ENG_DST 3) (by decide) (by decide)
  exact absurd shown (by decide)

end Sys2Proof.Machine
end

section
/-! PROOFS. The position and the velocity boundary of an axis at one instant (R22, R180, R194). -/

namespace Sys2Proof.Machine

/-- Local axis 3 with a position period of 1 000 ns and a velocity period of 500 ns, at a boundary of both. -/
def axisWithPeriods : State :=
  { clk := { running := true }
    bulk := [(0x80140C10, 1), (0x80140E02, 5), (0x80140E03, 10), (0x80140E04, 100)] }

/-- The same axis at the next boundary of both, when its position ports have been latched. -/
def positionLatched : State := ((axisWithPeriods.elapse 1000).posBoundary 3).portsLatched 3 4

/-- The state is one that the model reaches: POSITION_PERIOD_BOUNDARY leaves it. -/
theorem exec_positionPeriodBoundary_axisWithPeriods :
    exec (.positionPeriodBoundary 1000 3) axisWithPeriods = .next positionLatched := by
  have due : ((axisWithPeriods.elapse 1000).isLocal 3 &&
      (axisWithPeriods.elapse 1000).atBoundary ((axisWithPeriods.elapse 1000).posPeriod 3)) = true := by decide
  exact congrArg Host.Outcome.next (if_pos due)

/-- Refutes O29: the clause of the velocity boundary puts a new EANG sample before the older ones, but one that the position boundary
has latched at the same instant is replaced, so that one sample remains where the clause has two (R194). -/
theorem not_loopBoundaries : ¬ Obligations.LoopBoundaries := by
  rintro ⟨velocity, -⟩
  obtain ⟨u, run, -, -, -, -, samples, -⟩ := velocity 0 3 positionLatched (by decide) (by decide)
  have due : ((positionLatched.elapse 0).isLocal 3 &&
      (positionLatched.elapse 0).atBoundary ((positionLatched.elapse 0).velPeriod 3)) = true := by decide
  obtain rfl : ((positionLatched.elapse 0).velBoundary 3).portsLatched 3 2 = u :=
    Host.Outcome.next.inj ((congrArg Host.Outcome.next (if_pos due)).symm.trans run)
  have two := congrArg List.length samples
  have one : ((((positionLatched.elapse 0).velBoundary 3).portsLatched 3 2).cx 3).angles.length = 1 := by decide
  have before : (positionLatched.cx 3).angles.length = 1 := by decide
  exact absurd (one.symm.trans two) (by simp [before])

end Sys2Proof.Machine
end

section
/-! PROOFS. The enable of a remote axis whose entry names a feedback port (R120, R121, R394). -/

namespace Sys2Proof.Machine

/-- A frame that no encoder has sent. -/
def noAnswer : Frame := { start := false, framing := false, bits := [], bytes := [] }

/-- Remote axis 40 is DISABLED, and its member 7 is in RUN and has acknowledged its parameter block. FBPORT of its entry is 4, a port of the
member (R394); port 4 of the part itself holds a valid reading. -/
def remoteWithPort : State :=
  { regs := [(FBK_PST 4, 2 ^ 29), (RNG_MST 7, 3 * 2 ^ 28)]
    bulk := [(0x8014A010, 2), (0x8014A080, 4), (0x8014A380, 7)]
    axes := [(40, { acked := true })] }

/-- The request itself leaves the axis where the clause has it: in ENABLING, with step 2 of R121 complete. -/
theorem remoteWithPort_enabling : (remoteWithPort.requestEnable 40).axState 40 = 1 ∧ ((remoteWithPort.requestEnable 40).axis 40).enStep = 2 := by
  decide

/-- There it counts as one that waits for a reading of an absolute encoder, as a local axis at that step does. -/
theorem remoteWithPort_awaitsRead : (remoteWithPort.requestEnable 40).awaitsRead 40 = true := by decide

/-- Refutes O17: the clause of an accepted enable of a remote axis has step 2 of R121 complete, but the axis goes on to step 3 as if it were
local. When the part has a valid reading on the port with the number that the entry gives to a port of the member, step 3 ends at once, and
the axis stands at step 4. -/
theorem not_axisRequests : ¬ Obligations.AxisRequests := by
  rintro ⟨-, -, -, -, -, -, -, -, remote, -⟩
  obtain ⟨u, run, -, stepTwo⟩ := remote 0 40 noAnswer 0 noAnswer remoteWithPort (by decide) (.inl (by decide)) (by decide) (by decide)
    (.inr (by decide)) (by decide) (.inl (by decide)) (by decide) (by decide) (by decide) (by decide)
  have goesOn : exec (.axisEnable 0 40 noAnswer 0 noAnswer) remoteWithPort =
      .next (((remoteWithPort.elapse 0).requestEnable 40).enableRead 40 noAnswer 0 noAnswer) :=
    congrArg Host.Outcome.next (if_pos remoteWithPort_awaitsRead)
  obtain rfl := Host.Outcome.next.inj (goesOn.symm.trans run)
  have stepFour : ((((remoteWithPort.elapse 0).requestEnable 40).enableRead 40 noAnswer 0 noAnswer).axis 40).enStep = 4 := by decide
  exact absurd (stepFour.symm.trans stepTwo) (by decide)

end Sys2Proof.Machine
end

section
/-! PROOFS. The request to commit an entry of the axis table (R115). -/

namespace Sys2Proof.Machine

variable {s : State} {n : Fin 256} {g : Nat}

/-! ### The result of a request, in the order of the Commit results table -/

/-- Time that passes does not bear on the result. -/
theorem State.commitResult_elapse (s : State) (dt : Nat) (n : Fin 256) (g : Nat) : (s.elapse dt).commitResult n g = s.commitResult n g := rfl

/-- A changeover is in progress, or no more commits can be pending. -/
theorem State.commitResult_closed (n : Fin 256) (g : Nat) (h : s.get CFG_CHG_BUSY = 1 ∨ 15 ≤ s.lim.commits.length) :
    s.commitResult n g = 8 :=
  if_pos (by simpa [State.flag] using h)

/-- No changeover is in progress, and another commit can be pending. -/
structure CommitsOpen (s : State) : Prop where
  busy : s.get CFG_CHG_BUSY = 0
  room : s.lim.commits.length < 15

theorem CommitsOpen.result (h : CommitsOpen s) (n : Fin 256) (g : Nat) : s.commitResult n g =
    if s.lim.commits.any fun c => c.entry == n.val then 0x9
    else if g ≠ s.get (PRF_AXGEN_CGEN n) then 0xA
    else if !entryNamed n (s.working n) then 0xB
    else if !entryOk s.entryEnv n (s.working n) || (decide (n.val < 32) && differ (s.committed n) (s.working n) 0x200 0x210)
      || s.unitMissing n (s.working n) then 0xC
    else if s.axState n ≠ 0 ∧ disabledOnlyChanged (s.committed n) (s.working n) then 0xD
    else if differ (s.committed n) (s.working n) 0x010 0x3C0 then 0x1
    else 0x2 :=
  if_neg (by simp [State.flag_eq_false h.busy, h.room])

/-- A commit of the entry is pending. -/
theorem CommitsOpen.result_pending (h : CommitsOpen s) (g : Nat) (pending : ∃ c ∈ s.lim.commits, c.entry = n.val) :
    s.commitResult n g = 9 := by
  rw [h.result]
  exact if_pos (by simpa using pending)

/-- No commit of entry `n` is pending. -/
structure EntryFree (n : Fin 256) (s : State) : Prop extends CommitsOpen s where
  alone : ∀ c ∈ s.lim.commits, c.entry ≠ n.val

/-- EXPGEN is not the committed GEN. -/
theorem EntryFree.result_stale (h : EntryFree n s) (stale : g ≠ s.get (PRF_AXGEN_CGEN n)) : s.commitResult n g = 0xA := by
  rw [h.result, if_neg (by simpa using h.alone), if_pos stale]

/-- No commit of entry `n` is pending, and EXPGEN is its committed GEN. -/
structure EntryExpected (n : Fin 256) (g : Nat) (s : State) : Prop extends EntryFree n s where
  gen : g = s.get (PRF_AXGEN_CGEN n)

theorem EntryExpected.result (h : EntryExpected n g s) : s.commitResult n g =
    if !entryNamed n (s.working n) then 0xB
    else if !entryOk s.entryEnv n (s.working n) || (decide (n.val < 32) && differ (s.committed n) (s.working n) 0x200 0x210)
      || s.unitMissing n (s.working n) then 0xC
    else if s.axState n ≠ 0 ∧ disabledOnlyChanged (s.committed n) (s.working n) then 0xD
    else if differ (s.committed n) (s.working n) 0x010 0x3C0 then 0x1
    else 0x2 := by
  rw [h.toCommitsOpen.result, if_neg (by simpa using h.alone), if_neg (not_not_intro h.gen)]

/-- ENTRY or ECRC is wrong. -/
theorem EntryExpected.result_unnamed (h : EntryExpected n g s) (unnamed : entryNamed n (s.working n) = false) :
    s.commitResult n g = 0xB := by
  rw [h.result, unnamed]
  rfl

/-- A field lies outside its range, the section periods of a local axis change, or a unit would lack its port. -/
theorem EntryExpected.result_outside (h : EntryExpected n g s) (named : entryNamed n (s.working n) = true)
    (outside : entryOk s.entryEnv n (s.working n) = false ∨ (n.val < 32 ∧ differ (s.committed n) (s.working n) 0x200 0x210 = true) ∨
      s.unitMissing n (s.working n) = true) : s.commitResult n g = 0xC := by
  rw [h.result, if_neg (by simp [named])]
  exact if_pos (by simpa [or_assoc] using outside)

/-- The working entry `n` passes the checks of R110. -/
structure EntryChecked (n : Fin 256) (g : Nat) (s : State) : Prop extends EntryExpected n g s where
  named : entryNamed n (s.working n) = true
  ranges : entryOk s.entryEnv n (s.working n) = true
  timing : n.val < 32 → differ (s.committed n) (s.working n) 0x200 0x210 = false
  units : s.unitMissing n (s.working n) = false

theorem EntryChecked.result (h : EntryChecked n g s) : s.commitResult n g =
    if s.axState n ≠ 0 ∧ disabledOnlyChanged (s.committed n) (s.working n) then 0xD
    else if differ (s.committed n) (s.working n) 0x010 0x3C0 then 0x1
    else 0x2 := by
  rw [h.toEntryExpected.result, if_neg (by simp [h.named]), if_neg (by simpa [h.ranges, h.units] using h.timing)]

/-- A Disabled-only section of an axis that is not DISABLED changed. -/
theorem EntryChecked.result_held (h : EntryChecked n g s) (away : s.axState n ≠ 0)
    (changed : disabledOnlyChanged (s.committed n) (s.working n) = true) : s.commitResult n g = 0xD := by
  rw [h.result, if_pos ⟨away, changed⟩]

theorem EntryChecked.result_free (h : EntryChecked n g s)
    (free : s.axState n = 0 ∨ disabledOnlyChanged (s.committed n) (s.working n) = false) :
    s.commitResult n g = if differ (s.committed n) (s.working n) 0x010 0x3C0 then 0x1 else 0x2 := by
  rw [h.result]
  refine if_neg fun held => ?_
  rcases free with disabled | same
  · exact held.1 disabled
  · exact absurd (same.symm.trans held.2) Bool.false_ne_true

/-! ### What a request leaves -/

/-- A request shows its entry and its result. -/
def State.answerCommit (n r : Nat) (s : State) : State := (s.put PRF_TCST_ENTRY n).put PRF_TCST_RESULT r

theorem State.commitRequest_refused {r : Nat} (h : s.commitResult n g = r) (not1 : r ≠ 1) (not2 : r ≠ 2) :
    s.commitRequest n g = s.answerCommit n r := by
  rw [State.commitRequest, h]
  split
  · contradiction
  · contradiction
  · rfl

theorem State.commitRequest_unchanged (h : s.commitResult n g = 2) :
    s.commitRequest n g = (s.answerCommit n 2).put PRF_TCST_NEWGEN ((s.answerCommit n 2).get (PRF_AXGEN_CGEN n)) := by
  rw [State.commitRequest, h]
  rfl

/-- The commit that an accepted request of entry `n` leaves pending. -/
def State.newCommit (n : Fin 256) (s : State) : Commit :=
  { entry := n, snapshot := s.working n, newGen := nextGen (s.get (PRF_AXGEN_CGEN n)), bnd := ((s.now / s.profilePeriod : Nat) : Int) }

/-- The answered request of entry `n` joins the pending commits. -/
def State.joinCommits (n : Fin 256) (s : State) : State :=
  (((s.onLim fun l => { l with commits := l.commits ++ [s.newCommit n] }).put PRF_TCST_NEWGEN (nextGen (s.get (PRF_AXGEN_CGEN n)))).put
    PRF_TCST_PEND (s.lim.commits ++ [s.newCommit n]).length).mark (PRF_AXST_PENDCMT n) true

theorem State.commitRequest_accepted (h : s.commitResult n g = 1) : s.commitRequest n g = (s.answerCommit n 1).joinCommits n := by
  rw [State.commitRequest, h]
  rfl

/-- An answer changes the word PRF_TCST alone. -/
theorem State.answerCommit_onlyChanges (n r : Nat) (s : State) : OnlyChanges [] [PRF_TCST] s (s.answerCommit n r) := by
  have keeps : Keeps [.reg .prf] s (s.answerCommit n r) :=
    State.put_keeps PRF_TCST_RESULT_blk (State.put_keeps PRF_TCST_ENTRY_blk (Keeps.refl _ s) (by decide)) (by decide)
  refine keeps.onlyChanges_words fun a _ ha => ?_
  have other : a ≠ PRF_TCST := List.ne_of_not_mem_cons ha
  exact (State.rd_put_ne _ _ _ other).trans (State.rd_put_ne _ _ _ other)

theorem State.rd_answerCommit (n r : Nat) (s : State) {a : Nat} (ha : a ≠ PRF_TCST) : (s.answerCommit n r).rd a = s.rd a :=
  (State.rd_put_ne _ _ _ ha).trans (State.rd_put_ne _ _ _ ha)

theorem State.get_RESULT_answerCommit (n : Nat) {r : Nat} (hr : r < 16) (s : State) : (s.answerCommit n r).get PRF_TCST_RESULT = r :=
  (State.get_put_fits _ _ _ rfl).trans (Nat.mod_eq_of_lt hr)

theorem State.get_ENTRY_answerCommit {n : Nat} (hn : n < 256) (r : Nat) (s : State) : (s.answerCommit n r).get PRF_TCST_ENTRY = n :=
  (State.get_put_apart _ _ rfl).trans ((State.get_put_fits _ _ _ rfl).trans (Nat.mod_eq_of_lt hn))

theorem PRF_AXGEN_ne_PRF_TCST (n : Nat) : PRF_AXGEN n ≠ PRF_TCST := by simp only [PRF_AXGEN, PRF_TCST]; omega
theorem PRF_AXST_ne_PRF_TCST (n : Nat) : PRF_AXST n ≠ PRF_TCST := by simp only [PRF_AXST, PRF_TCST]; omega

theorem State.get_CGEN_answerCommit (m n r : Nat) (s : State) : (s.answerCommit n r).get (PRF_AXGEN_CGEN m) = s.get (PRF_AXGEN_CGEN m) :=
  congrArg (fldOf (PRF_AXGEN_CGEN m)) (State.rd_answerCommit n r s (PRF_AXGEN_ne_PRF_TCST m))

theorem State.working_answerCommit (m n r : Nat) (s : State) : (s.answerCommit n r).working m = s.working m := by
  have base : (s.answerCommit n r).rd PRF_TBASE = s.rd PRF_TBASE := State.rd_answerCommit n r s (by decide)
  rw [State.working, State.working, State.workAt, State.workAt, base]
  rfl

/-- What a request leaves that is refused, or that finds nothing changed. -/
structure CommitAnswered (n r : Nat) (s u : State) : Prop where
  result : u.get PRF_TCST_RESULT = r
  entry : u.get PRF_TCST_ENTRY = n
  commits : u.lim.commits = s.lim.commits
  others : OnlyChanges [] [PRF_TCST] s u

theorem State.answerCommit_answers {n r : Nat} (hn : n < 256) (hr : r < 16) (s : State) : CommitAnswered n r s (s.answerCommit n r) where
  result := State.get_RESULT_answerCommit n hr s
  entry := State.get_ENTRY_answerCommit hn r s
  commits := rfl
  others := State.answerCommit_onlyChanges n r s

theorem State.commitRequest_answers_unchanged (h : s.commitResult n g = 2) : CommitAnswered n 2 s (s.commitRequest n g) ∧
    (s.commitRequest n g).get PRF_TCST_NEWGEN = s.get (PRF_AXGEN_CGEN n) := by
  rw [State.commitRequest_unchanged h, State.get_CGEN_answerCommit]
  have keeps : Keeps [.reg .prf] s ((s.answerCommit n 2).put PRF_TCST_NEWGEN (s.get (PRF_AXGEN_CGEN n))) :=
    State.put_keeps PRF_TCST_NEWGEN_blk (State.put_keeps PRF_TCST_RESULT_blk (State.put_keeps PRF_TCST_ENTRY_blk (Keeps.refl _ s)
      (by decide)) (by decide)) (by decide)
  refine ⟨⟨?_, ?_, rfl, keeps.onlyChanges_words fun a _ ha => ?_⟩, ?_⟩
  · exact (State.get_put_apart _ _ rfl).trans (State.get_RESULT_answerCommit n (by decide) s)
  · exact (State.get_put_apart _ _ rfl).trans (State.get_ENTRY_answerCommit n.isLt 2 s)
  · have other : a ≠ PRF_TCST := List.ne_of_not_mem_cons ha
    exact (State.rd_put_ne _ _ _ other).trans (State.rd_answerCommit n 2 s other)
  · exact (State.get_put_fits _ _ _ rfl).trans (Nat.mod_eq_of_lt (s.get_lt (PRF_AXGEN_CGEN n)))

/-- What an accepted request leaves. -/
structure CommitAccepted (n : Fin 256) (s u : State) : Prop where
  result : u.get PRF_TCST_RESULT = 1
  newGen : u.get PRF_TCST_NEWGEN = nextGen (s.get (PRF_AXGEN_CGEN n))
  pend : u.get PRF_TCST_PEND = s.lim.commits.length + 1
  shown : u.get (PRF_AXST_PENDCMT n) = 1
  entry : u.get PRF_TCST_ENTRY = n
  commits : (u.lim.commits.map fun c => (c.entry, c.snapshot)) =
    (s.lim.commits.map fun c => (c.entry, c.snapshot)) ++ [(n.val, s.working n)]
  others : OnlyChanges [.lim] [PRF_TCST, PRF_AXST n] s u

/-- R112: a generation fits its field. -/
theorem nextGen_lt {g : Nat} (h : g < 65536) : nextGen g < 65536 := by
  unfold nextGen
  split <;> omega

theorem State.commitRequest_accepts (h : s.commitResult n g = 1) (room : s.lim.commits.length < 15) :
    CommitAccepted n s (s.commitRequest n g) := by
  rw [State.commitRequest_accepted h, State.joinCommits, State.get_CGEN_answerCommit]
  set w := s.answerCommit n 1 with answered
  set j := w.onLim fun l => { l with commits := l.commits ++ [w.newCommit n] } with joined
  have pending : (w.lim.commits ++ [w.newCommit n]).length = s.lim.commits.length + 1 := List.length_append
  have request (f : Fld) : j.get f = w.get f := State.get_onLim w _ f
  have status (f : Fld) (hf : f.addr = PRF_TCST) (t : State) : (t.mark (PRF_AXST_PENDCMT n) true).get f = t.get f :=
    State.get_put_ne _ _ _ _ (by rw [hf]; exact (PRF_AXST_ne_PRF_TCST n).symm)
  refine ⟨?result, ?newGen, ?pend, State.get_mark_fits _ _ _ rfl rfl, ?entry, ?commits, ?others⟩
  case result =>
    rw [status _ rfl, State.get_put_apart _ _ rfl, State.get_put_apart _ _ rfl, request]
    exact State.get_RESULT_answerCommit n (by decide) s
  case newGen =>
    rw [status _ rfl, State.get_put_apart _ _ rfl, State.get_put_fits _ _ _ rfl]
    exact Nat.mod_eq_of_lt (nextGen_lt (s.get_lt (PRF_AXGEN_CGEN n)))
  case pend =>
    rw [status _ rfl, State.get_put_fits _ _ _ rfl, pending]
    exact Nat.mod_eq_of_lt (by simp only [PRF_TCST_PEND]; omega)
  case entry =>
    rw [status _ rfl, State.get_put_apart _ _ rfl, State.get_put_apart _ _ rfl, request]
    exact State.get_ENTRY_answerCommit n.isLt 1 s
  case commits =>
    have taken : w.working n = s.working n := State.working_answerCommit n n 1 s
    show (s.lim.commits ++ [w.newCommit n]).map _ = _
    rw [List.map_append, List.map_singleton, State.newCommit, taken]
  case others =>
    have keeps : Keeps [.reg .prf, .lim] s (((j.put PRF_TCST_NEWGEN (nextGen (s.get (PRF_AXGEN_CGEN n)))).put PRF_TCST_PEND
        (w.lim.commits ++ [w.newCommit n]).length).mark (PRF_AXST_PENDCMT n) true) :=
      State.mark_keeps (PRF_AXST_PENDCMT_blk n) (State.put_keeps PRF_TCST_PEND_blk (State.put_keeps PRF_TCST_NEWGEN_blk
        (State.onLim_keeps (State.put_keeps PRF_TCST_RESULT_blk (State.put_keeps PRF_TCST_ENTRY_blk (Keeps.refl _ s) (by decide))
          (by decide)) (by decide)) (by decide)) (by decide)) (by decide)
    refine keeps.onlyChanges_words fun a _ ha => ?_
    simp only [List.mem_cons, List.not_mem_nil, or_false, not_or] at ha
    obtain ⟨table, axis⟩ := ha
    rw [State.mark, State.rd_put_ne _ _ _ axis, State.rd_put_ne _ _ _ table, State.rd_put_ne _ _ _ table, State.rd_onLim]
    exact State.rd_answerCommit n 1 s table

/-! ### The command -/

/-- The command with a result that leaves no commit and shows no generation. -/
theorem exec_tableCommitRequest_refused {r : Nat} {g : BitVec 16} (h : s.commitResult n g.toNat = r) (not1 : r ≠ 1) (not2 : r ≠ 2)
    (hr : r < 16) (dt : Nat) : ∃ u, exec (.tableCommitRequest dt n g) s = .next u ∧ u.get PRF_TCST_RESULT = r ∧ u.get PRF_TCST_ENTRY = n ∧
      u.lim.commits = s.lim.commits ∧ OnlyChanges [.clk, .sets] [PRF_TCST] s u := by
  have answered := State.answerCommit_answers n.isLt hr (s.elapse dt)
  refine ⟨(s.elapse dt).answerCommit n r, ?_, answered.result, answered.entry, answered.commits, answered.others.of_elapse⟩
  exact congrArg Host.Outcome.next (State.commitRequest_refused ((State.commitResult_elapse s dt n _).trans h) not1 not2)

end Sys2Proof.Machine
end

section
/-! PROOFS. What memory holds after bytes have been stored, and the entry that a commit writes (R112, R116). -/

namespace Sys2Proof.Machine

variable {s : State}

/-! ### Bytes of bulk memory -/

theorem State.memByte_bulkPut (s : State) (a b : Nat) (v : Byte) :
    memByte (s.bulkPut a v).bulk b = if b = a ∧ inBulk a = true then v else memByte s.bulk b := by
  rw [State.bulkPut, onBulk_bulk]
  by_cases h : inBulk a = true
  · simp only [h, if_true, and_true, memByte_memPut]
  · simp only [h, if_false, and_false, Bool.false_eq_true]

/-- Addresses before and after a stored string read as before. -/
theorem State.memByte_bulkStore_outside (l : List Byte) {a b : Nat} (h : b < a ∨ a + l.length ≤ b) (s : State) :
    memByte (s.bulkStore a l).bulk b = memByte s.bulk b := by
  induction l generalizing a s with
  | nil => rfl
  | cons v l ih =>
    rw [List.length_cons] at h
    rw [State.bulkStore, ih (by omega), State.memByte_bulkPut, if_neg (by omega)]

/-- A stored string that lies in bulk memory reads back. -/
theorem State.memByte_bulkStore (l : List Byte) {a i : Nat} (hi : i < l.length) (lo : 0x80000000 ≤ a) (hi' : a + l.length ≤ 0x100000000)
    (s : State) : memByte (s.bulkStore a l).bulk (a + i) = l.getD i 0 := by
  induction l generalizing a i s with
  | nil => exact absurd hi (Nat.not_lt_zero i)
  | cons v l ih =>
    rw [List.length_cons] at hi hi'
    have inside : inBulk a = true := by simp only [inBulk, Bool.and_eq_true, decide_eq_true_eq]; omega
    rw [State.bulkStore]
    cases i with
    | zero => rw [State.memByte_bulkStore_outside l (by omega), State.memByte_bulkPut, if_pos ⟨rfl, inside⟩]; rfl
    | succ i =>
      have next : a + (i + 1) = a + 1 + i := by omega
      rw [next, ih (by omega) (by omega) (by omega)]
      rfl

/-! ### The bytes of an entry -/

theorem length_slice (l : List Byte) (o n : Nat) : (slice l o n).length = n := by
  simp only [slice, List.length_append, List.length_replicate, List.length_take]
  omega

theorem getD_slice (l : List Byte) (o : Nat) {n i : Nat} (h : i < n) : (slice l o n).getD i 0 = l.getD (o + i) 0 := by
  simp only [slice]
  by_cases inside : o + i < l.length
  · rw [List.getD_append _ _ _ _ (by simp only [List.length_take, List.length_drop]; omega)]
    simp [List.getD_eq_getElem?_getD, h]
  · have past : ((l.drop o).take n).length ≤ i := by simp only [List.length_take, List.length_drop]; omega
    rw [List.getD_append_right _ _ _ _ past, List.getD_eq_default l 0 (by omega), List.getD_eq_getElem?_getD]
    exact List.getElem?_getD_replicate_default_eq _ _ _

/-- The bytes that a commit with generation `g` stores as the committed entry (R112, R116). -/
def commitBytes (g : Nat) (new : List Byte) : List Byte := slice new 0 2 ++ leBytes 2 g ++ slice new 4 0x3BC

theorem length_commitBytes (g : Nat) (new : List Byte) : (commitBytes g new).length = 0x3C0 := by
  simp only [commitBytes, List.length_append, length_slice]
  rfl

/-- The generation stands at offset 2. -/
theorem getD_commitBytes_gen (g : Nat) (new : List Byte) : (commitBytes g new).getD 2 0 = BitVec.ofNat 8 g := by
  rw [commitBytes, List.append_assoc, List.getD_append_right _ _ _ _ (length_slice new 0 2).le, length_slice]
  rfl

/-- Its other bytes from offset 4 are those of the snapshot. -/
theorem getD_commitBytes (g : Nat) (new : List Byte) {i : Nat} (h : i < 0x3BC) : (commitBytes g new).getD (4 + i) 0 = new.getD (4 + i) 0 := by
  have head : (slice new 0 2 ++ leBytes 2 g).length = 4 := by rw [List.length_append, length_slice]; rfl
  rw [commitBytes, List.getD_append_right _ _ _ _ (by omega), head, Nat.add_sub_cancel_left, getD_slice new 4 h]

/-- What a commit with generation `g` and the bytes `new` writes for entry `n`. -/
structure EntryWritten (n g : Nat) (new : List Byte) (s t : State) : Prop where
  bytes : ∀ i : Fin 0x3BC, memByte t.bulk (s.entryAt n + 4 + i) = new.getD (4 + i) 0
  gen : memByte t.bulk (s.entryAt n + 2) = BitVec.ofNat 8 g
  working : memByte t.bulk (s.workAt n + 2) = BitVec.ofNat 8 g

theorem State.putEntry_written {n : Nat} (hn : n < 256) (lo : 0x80000000 ≤ s.rd PRF_TBASE) (hi : s.rd PRF_TBASE ≤ 0xFFF80000) (g : Nat)
    (new : List Byte) : EntryWritten n g new s (s.putEntry n g new) := by
  have stored : (s.putEntry n g new).bulk = ((s.bulkStore (s.entryAt n) (commitBytes g new)).bulkStore (s.workAt n + 2) (leBytes 2 g)).bulk := by
    have base : (s.bulkStore (s.entryAt n) (commitBytes g new)).rd PRF_TBASE = s.rd PRF_TBASE :=
      (State.bulkStore_keeps (Keeps.refl [.bulk] s) (by decide)).rd (b := .prf) (by decide) (by decide)
    have same : (s.bulkStore (s.entryAt n) (commitBytes g new)).workAt n = s.workAt n := congrArg (· + 0x400 * n) base
    rw [← same]
    rfl
  have length := length_commitBytes g new
  have two : (leBytes 2 g).length = 2 := rfl
  have place : s.entryAt n = s.workAt n + 0x40000 := by simp only [State.entryAt, State.workAt]; omega
  have above : 0x80000000 ≤ s.workAt n := by simp only [State.workAt]; omega
  have below : s.workAt n + 0x40400 ≤ 0x100000000 := by simp only [State.workAt]; omega
  have committed {i : Nat} (h : i < 0x3C0) : memByte (s.putEntry n g new).bulk (s.entryAt n + i) = (commitBytes g new).getD i 0 := by
    rw [stored, State.memByte_bulkStore_outside _ (by omega), State.memByte_bulkStore _ (by omega) (by omega) (by omega)]
  refine ⟨fun i => ?_, ?_, ?_⟩
  · rw [Nat.add_assoc, committed (by omega), getD_commitBytes g new i.isLt]
  · rw [committed (by omega), getD_commitBytes_gen]
  · rw [stored]
    exact State.memByte_bulkStore (leBytes 2 g) (i := 0) (by omega) (by omega) (by omega) _

end Sys2Proof.Machine
end

section
/-! PROOFS. A pending commit takes effect (R113, R114, R116). -/

namespace Sys2Proof.Machine

variable {n v : Nat} {s t : State}

/-! ### The caches switch with the generation of the entry and its held enable untouched -/

/-- The committed GEN of entry `n` is `v`, and no enable of axis `n` is held. -/
structure Unheld (n v : Nat) (t : State) : Prop where
  gen : t.get (PRF_AXGEN_CGEN n) = v
  held : (t.axis n).enHeld = false

theorem Unheld.keeps (h : Unheld n v s) {m : List Part} (keeps : Keeps m s t) (regs : Part.reg .prf ∉ m) (axes : Part.axes ∉ m) :
    Unheld n v t where
  gen := (keeps.get regs (PRF_AXGEN_CGEN_blk n)).trans h.gen
  held := by rw [State.axis, keeps.same .axes axes]; exact h.held

theorem Unheld.put (h : Unheld n v s) {f : Fld} (w : Nat) (other : (s.put f w).get (PRF_AXGEN_CGEN n) = s.get (PRF_AXGEN_CGEN n)) :
    Unheld n v (s.put f w) := ⟨other.trans h.gen, h.held⟩

theorem Unheld.onAxis (h : Unheld n v s) (k : Nat) {f : Axis → Axis} (hf : ∀ x, (f x).enHeld = x.enHeld) : Unheld n v (s.onAxis k f) := by
  refine ⟨h.gen, ?_⟩
  by_cases same : n = k
  · subst same
    rw [State.axis_onAxis_same, hf, h.held]
  · exact (congrArg Axis.enHeld (tabGet_tabSet_ne _ _ _ same)).trans h.held

theorem Unheld.ite {c : Prop} [Decidable c] (hs : c → Unheld n v s) (ht : ¬c → Unheld n v t) : Unheld n v (if c then s else t) := by
  split
  · exact hs ‹_›
  · exact ht ‹_›

theorem Unheld.foldl {α : Type} {f : State → α → State} (hf : ∀ s x, Unheld n v s → Unheld n v (f s x)) (l : List α) (h : Unheld n v s) :
    Unheld n v (l.foldl f s) := by
  induction l generalizing s with
  | nil => exact h
  | cons x l ih => exact ih (hf s x h)

theorem Unheld.tagDarner (h : Unheld n v s) (k : Nat) : Unheld n v (s.tagDarner k) := h.put _ (State.get_put_apart _ _ rfl)

theorem Unheld.revalidate (h : Unheld n v s) (k : Nat) : Unheld n v (s.revalidate k) := by
  have tagged (g : Nat) : Unheld n v (s.put (ENG_CST_CGEN k) g) :=
    h.keeps (State.put_keeps (ENG_CST_CGEN_blk k) (Keeps.refl [.reg .eng] s) (by decide)) (by decide) (by decide)
  have band (x y : Nat) {t : State} (h : Unheld n v t) : Unheld n v ((t.put (ENG_BAND_HYST k) x).put (ENG_BAND_MINDW k) y) :=
    h.keeps (State.put_keeps (ENG_BAND_MINDW_blk k) (State.put_keeps (ENG_BAND_HYST_blk k) (Keeps.refl [.reg .eng] t) (by decide))
      (by decide)) (by decide) (by decide)
  have fresh (g x y : Nat) := band x y ((tagged g).onAxis k (f := fun x => { x with stale := false }) fun _ => rfl)
  have emptied {t : State} (h : Unheld n v t) : Unheld n v (t.emptyDarner k) :=
    h.keeps (State.emptyDarner_keeps (Keeps.refl [.reg .eng, .drn] t) (by decide)) (by decide) (by decide)
  unfold State.revalidate
  exact .ite (fun _ => h) fun _ => .ite (fun _ => (emptied (fresh _ _ _)).tagDarner k) fun _ => fresh _ _ _

theorem Unheld.sheepPending (h : Unheld n v s) (k : Nat) : Unheld n v (s.sheepPending k) := by
  have pending := h.keeps (State.put_keeps (v := 256) (ENG_SST_SETTLE_blk k)
    (State.put_keeps (v := 1) (ENG_SST_STATE_blk k) (Keeps.refl [.reg .eng] s) (by decide)) (by decide)) (by decide) (by decide)
  have shown := pending.put (f := PRF_AXST_SDPEND k) (b2n true)
    (State.get_put_ne _ _ _ _ (by simp only [PRF_AXGEN_CGEN, PRF_AXGEN, PRF_AXST_SDPEND, PRF_AXST]; omega))
  unfold State.sheepPending
  exact shown.keeps (State.onShp_keeps (State.wr_keeps (v := 0) (ENG_SRES_blk k) (Keeps.refl [.reg .eng, .shp] _) (by decide)) (by decide))
    (by decide) (by decide)

theorem Unheld.clampFlag (h : Unheld n v s) (k b : Nat) : Unheld n v (s.clampFlag k b) := by
  have raised : Keeps [.reg .lsh, .reg .err, .sets, .log] s (s.raise (clampIsland k b) ⟨LSH_CLAMP k, b, 1⟩) :=
    State.raise_keeps (LSH_CLAMP_blk k) (Keeps.refl _ s) (by decide)
  exact (h.keeps raised (by decide) (by decide)).onAxis k fun _ => rfl

theorem Unheld.clampFlags (h : Unheld n v s) (k mask : Nat) : Unheld n v (s.clampFlags k mask) :=
  Unheld.foldl (fun _ b h => h.clampFlag k b) _ h

theorem Unheld.rescaleSet (h : Unheld n v s) (k : Nat) (p : PwmSet) : Unheld n v (s.rescaleSet k p).2 :=
  Unheld.foldl (fun _ _ h => h.clampFlags k _) _ h

theorem Unheld.onPax (h : Unheld n v s) (k : Nat) (f : PwmAxis → PwmAxis) : Unheld n v (s.onPax k f) := ⟨h.gen, h.held⟩

theorem Unheld.newPeriod (h : Unheld n v s) (k : Nat) : Unheld n v (s.newPeriod k) := by
  have shown (l : List (Nat × Nat)) (w : Nat) {t : State} (h : Unheld n v t) :
      Unheld n v ((l.foldl (fun s e => s.wr (PWM_CMP (3 * k + e.1)) e.2) t).wr (PWM_PER k) w) :=
    h.keeps (State.wr_keeps (PWM_PER_blk k) (keeps_foldl (fun _ _ h => State.wr_keeps (PWM_CMP_blk _) h (by decide)) l
      (Keeps.refl [.reg .pwm] t)) (by decide)) (by decide) (by decide)
  unfold State.newPeriod
  dsimp only
  split
  · exact ((h.onPax k _).rescaleSet k _).onPax k _
  · have rescaled := (h.onPax k fun x => { x with stagePer := s.pwmPeriod k * 4 }).rescaleSet k
    exact .ite (fun _ => shown _ _ ((rescaled _).onPax k _)) fun _ => (rescaled _).onPax k _
  · exact h.onPax k _

theorem Unheld.newTiming (h : Unheld n v s) (k : Nat) (old : List Byte) : Unheld n v (s.newTiming k old) :=
  .ite (fun _ => h.onPax k _) fun _ => .ite (fun _ => h.newPeriod k) fun _ => h

theorem Unheld.switchCaches (h : Unheld n v s) (k : Nat) (old : List Byte) (changeover : Bool) :
    Unheld n v (s.switchCaches k old changeover) := by
  have reloaded {t : State} (h : Unheld n v t) :
      Unheld n v ((((((t.revalidate k).tagDarner k).showDelays k).showContext k).loadParam k).showDarner k) :=
    ((h.revalidate k).tagDarner k).keeps (State.showDarner_keeps (State.loadParam_keeps (State.showContext_keeps
      (State.showDelays_keeps (Keeps.refl [.reg .csf, .reg .eng, .eng] _) (by decide)) (by decide)) (by decide)) (by decide))
      (by decide) (by decide)
  have preset {t : State} (h : Unheld n v t) : Unheld n v (t.presetInertia k) :=
    h.keeps (State.presetInertia_keeps (Keeps.refl [.reg .eng, .ine] t) (by decide)) (by decide) (by decide)
  have handed {t : State} (h : Unheld n v t) : Unheld n v ((t.setPreset k).handOverCommit k) :=
    h.keeps (State.handOverCommit_keeps (State.setPreset_keeps (Keeps.refl [.reg .eng, .fresh, .eng] t) (by decide)) (by decide))
      (by decide) (by decide)
  unfold State.switchCaches
  dsimp only
  refine .ite (fun _ => ?cached) fun _ => .ite (fun _ => ?remote) fun _ => h
  case remote =>
    have unacked := h.onAxis k (f := fun x => { x with acked := false, blockDue := true }) fun _ => rfl
    exact unacked.keeps (State.showMexp_keeps (Keeps.refl [.reg .rng] _) (by decide)) (by decide) (by decide)
  case cached =>
    have stale := reloaded (Unheld.ite (c := s.get (PRF_AXGEN_CGEN k) = 1) (s := s.onAxis k fun x => { x with stale := true })
      (fun _ => h.onAxis k fun _ => rfl) fun _ => h)
    refine .ite (fun _ => stale) fun _ => ?_
    have timed := stale.newTiming k old
    have estimate := fun c => Unheld.ite (c := c = true) (fun _ => preset timed) fun _ => timed
    exact .ite (fun _ => estimate _) fun _ => .ite (fun _ => (handed (estimate _)).sheepPending k) fun _ => handed (estimate _)

/-! ### The effect of a commit -/

/-- The entry of a commit is written, its caches follow, and it is pending no more. -/
def State.finishCommit (c : Commit) (s : State) : State :=
  let s := ((s.putEntry c.entry c.newGen c.snapshot).switchCaches c.entry (s.committed c.entry) false).onLim fun l =>
    { l with commits := l.commits.filter fun d => d.entry != c.entry }
  (s.mark (PRF_AXST_PENDCMT c.entry) false).put PRF_TCST_PEND s.lim.commits.length

theorem State.commitEffect_eq (c : Commit) (s : State) : s.commitEffect c =
    if ((s.finishCommit c).axis c.entry).enHeld then
      ((s.finishCommit c).onAxis c.entry fun x => { x with enHeld := false }).requestEnable c.entry
    else s.finishCommit c := rfl

/-- What a commit of an axis whose enable is not held leaves. -/
structure CommitDone (c : Commit) (s u : State) : Prop extends EntryWritten c.entry c.newGen c.snapshot s u where
  shown : u.get (PRF_AXGEN_CGEN c.entry) = c.newGen % 65536
  pending : u.get (PRF_AXST_PENDCMT c.entry) = 0
  gone : ∀ d ∈ u.lim.commits, d.entry ≠ c.entry

/-- What the caches take from the new entry leaves memory as it is. -/
theorem State.finishCommit_bulk (c : Commit) (s : State) : (s.finishCommit c).bulk = (s.putEntry c.entry c.newGen c.snapshot).bulk :=
  (State.switchCaches_keeps (n := c.entry) (old := s.committed c.entry) (changeover := false)
    (Keeps.refl [.reg .lsh, .reg .prf, .reg .eng, .reg .csf, .reg .pwm, .reg .rng, .reg .err, .fresh, .sets, .log, .axes, .eng, .pwm, .drn,
      .ine, .shp] (s.putEntry c.entry c.newGen c.snapshot)) (by decide)).same .bulk (by decide)

theorem State.finishCommit_unheld {c : Commit} (held : (s.axis c.entry).enHeld = false) :
    Unheld c.entry (c.newGen % 65536) (s.finishCommit c) := by
  have written : Unheld c.entry (c.newGen % 65536) (s.putEntry c.entry c.newGen c.snapshot) := by
    refine ⟨State.get_put_fits _ _ _ rfl, ?_⟩
    rw [State.axis, (State.putEntry_keeps (Keeps.refl [.reg .prf, .bulk] s) (by decide)).same .axes (by decide)]
    exact held
  have switched := written.switchCaches c.entry (s.committed c.entry) false
  have joined : Unheld c.entry (c.newGen % 65536) (((s.putEntry c.entry c.newGen c.snapshot).switchCaches c.entry (s.committed c.entry) false).onLim
    fun l => { l with commits := l.commits.filter fun d => d.entry != c.entry }) := ⟨switched.gen, switched.held⟩
  have marked := joined.put (f := PRF_AXST_PENDCMT c.entry) (b2n false)
    (State.get_put_ne _ _ _ _ (by simp only [PRF_AXGEN_CGEN, PRF_AXGEN, PRF_AXST_PENDCMT, PRF_AXST]; omega))
  exact marked.put _ (State.get_put_ne _ _ _ _ (PRF_AXGEN_ne_PRF_TCST c.entry))

/-- R116: a commit of an axis whose enable is not held. -/
theorem State.commitEffect_done {c : Commit} (hn : c.entry < 256) (held : (s.axis c.entry).enHeld = false)
    (lo : 0x80000000 ≤ s.rd PRF_TBASE) (hi : s.rd PRF_TBASE ≤ 0xFFF80000) : CommitDone c s (s.commitEffect c) := by
  have unheld := State.finishCommit_unheld held
  have written := State.putEntry_written hn lo hi c.newGen c.snapshot
  rw [State.commitEffect_eq, if_neg (by simp [unheld.held])]
  refine { bytes := ?_, gen := ?_, working := ?_, shown := unheld.gen, pending := ?_, gone := fun d hd => ?_ }
  · rw [State.finishCommit_bulk]; exact written.bytes
  · rw [State.finishCommit_bulk]; exact written.gen
  · rw [State.finishCommit_bulk]; exact written.working
  · exact (State.get_put_ne _ _ _ _ (PRF_AXST_ne_PRF_TCST c.entry)).trans (State.get_mark_fits _ _ _ rfl rfl)
  · have kept : d ∈ List.filter (fun d => d.entry != c.entry) _ := hd
    exact bne_iff_ne.mp (List.mem_filter.mp kept).2

/-! ### The obligation -/

/-- Settles O16: the requests in the order of the Commit results table, what each leaves, and the commit that is due. -/
theorem tableCommits : Obligations.TableCommits := by
  refine ⟨?closed, ?pending, ?stale, ?unnamed, ?outside, ?held, ?unchanged, ?accepted, ?effect, ?idle⟩
  case closed =>
    intro dt n g s closed
    exact exec_tableCommitRequest_refused (State.commitResult_closed n _ closed) (by decide) (by decide) (by decide) dt
  case pending =>
    intro dt n g s busy room pending
    exact exec_tableCommitRequest_refused (CommitsOpen.result_pending ⟨busy, room⟩ _ pending) (by decide) (by decide) (by decide) dt
  case stale =>
    intro dt n g s busy room alone stale
    exact exec_tableCommitRequest_refused (EntryFree.result_stale ⟨⟨busy, room⟩, alone⟩ stale) (by decide) (by decide) (by decide) dt
  case unnamed =>
    intro dt n g s busy room alone gen unnamed
    have expected : EntryExpected n g.toNat s := ⟨⟨⟨busy, room⟩, alone⟩, gen⟩
    exact exec_tableCommitRequest_refused (expected.result_unnamed unnamed) (by decide) (by decide) (by decide) dt
  case outside =>
    intro dt n g s busy room alone gen named outside
    have expected : EntryExpected n g.toNat s := ⟨⟨⟨busy, room⟩, alone⟩, gen⟩
    exact exec_tableCommitRequest_refused (expected.result_outside named outside) (by decide) (by decide) (by decide) dt
  case held =>
    intro dt n g s busy room alone gen named ranges timing units away changed
    have checked : EntryChecked n g.toNat s := ⟨⟨⟨⟨busy, room⟩, alone⟩, gen⟩, named, ranges, timing, units⟩
    exact exec_tableCommitRequest_refused (checked.result_held away changed) (by decide) (by decide) (by decide) dt
  case unchanged =>
    intro dt n g s busy room alone gen named ranges timing units free same
    have checked : EntryChecked n g.toNat s := ⟨⟨⟨⟨busy, room⟩, alone⟩, gen⟩, named, ranges, timing, units⟩
    have result : (s.elapse dt).commitResult n g.toNat = 2 := (checked.result_free free).trans (if_neg (by simp [same]))
    obtain ⟨answered, newGen⟩ := State.commitRequest_answers_unchanged result
    exact ⟨_, rfl, answered.result, newGen, answered.entry, answered.commits, answered.others.of_elapse⟩
  case accepted =>
    intro dt n g s busy room alone gen named ranges timing units free changed
    have checked : EntryChecked n g.toNat s := ⟨⟨⟨⟨busy, room⟩, alone⟩, gen⟩, named, ranges, timing, units⟩
    have result : (s.elapse dt).commitResult n g.toNat = 1 := (checked.result_free free).trans (if_pos changed)
    have accepted := State.commitRequest_accepts result room
    have next : nextGen (s.get (PRF_AXGEN_CGEN n)) = if g = 0xFFFF then 1 else g.toNat + 1 := by
      rw [← gen, nextGen]
      exact if_congr (BitVec.toNat_inj (x := g) (y := 0xFFFF)) rfl rfl
    exact ⟨_, rfl, accepted.result, accepted.newGen.trans next, accepted.pend, accepted.shown, accepted.entry, accepted.commits,
      (accepted.others.of_elapse).mono (by decide) (List.Subset.refl _)⟩
  case effect =>
    intro dt n c s due held lo hi
    have entry : c.entry = n.val := by
      have mem : c ∈ [c] := List.mem_singleton_self c
      rw [← due, List.mem_filter, Bool.and_eq_true, beq_iff_eq] at mem
      exact mem.2.1
    have run : (s.elapse dt).commitsNow (fun m => m == n.val) = (s.elapse dt).commitEffect c := by
      rw [State.commitsNow, due]
      rfl
    have done : CommitDone c (s.elapse dt) ((s.elapse dt).commitEffect c) :=
      State.commitEffect_done (entry ▸ n.isLt) (entry ▸ held) lo hi
    rw [← run] at done
    refine ⟨_, rfl, ?_⟩
    obtain ⟨⟨bytes, gen, working⟩, shown, pending, gone⟩ := done
    rw [entry] at bytes gen working shown pending gone
    exact ⟨shown, pending, bytes, gen, working, gone⟩
  case idle =>
    intro dt n s idle
    have run : (s.elapse dt).commitsNow (fun m => m == n.val) = s.elapse dt := by
      rw [State.commitsNow, idle]
      rfl
    exact ⟨_, congrArg Host.Outcome.next run, ((Keeps.refl [] (s.elapse dt)).onlyChanges []).of_elapse⟩

end Sys2Proof.Machine
end

section
/-! PROOFS. What events leave alone of the motions, the path groups and the register words of the profile engine (R131, R155, R169,
R170), and the course of an accepted motion command (R165). -/

namespace Sys2Proof.Machine

variable {s t u : State} {n : Nat}

/-! ### Motions and path groups -/

@[simp] theorem State.mot_onMot_same (s : State) (n : Nat) (f : Motion → Motion) : (s.onMot n f).mot n = f (s.mot n) :=
  tabGet_tabSet_same _ _ _ _

theorem State.mot_onMot_ne (s : State) {m n : Nat} (f : Motion → Motion) (h : m ≠ n) : (s.onMot n f).mot m = s.mot m :=
  tabGet_tabSet_ne _ _ _ h

@[simp] theorem State.grp_onGrp_same (s : State) (g : Nat) (f : Group → Group) : (s.onGrp g f).grp g = f (s.grp g) :=
  tabGet_tabSet_same _ _ _ _

/-- The motions and the path groups lie in the profile engine's part of the state. -/
theorem State.mot_of_prf (h : t.prf = s.prf) (n : Nat) : t.mot n = s.mot n := by rw [State.mot, State.mot, h]

theorem State.grp_of_prf (h : t.prf = s.prf) (g : Nat) : t.grp g = s.grp g := by rw [State.grp, State.grp, h]

/-- Every motion is as before, but for those of axis `n`. -/
def OthersRest (n : Nat) (s t : State) : Prop := ∀ m, m ≠ n → t.mot m = s.mot m

theorem OthersRest.trans (h : OthersRest n s t) (g : OthersRest n t u) : OthersRest n s u := fun m hm => (g m hm).trans (h m hm)

theorem OthersRest.of_prf (h : t.prf = s.prf) : OthersRest n s t := fun m _ => State.mot_of_prf h m

theorem State.onMot_othersRest (s : State) (n : Nat) (f : Motion → Motion) : OthersRest n s (s.onMot n f) := fun _ hm => s.mot_onMot_ne f hm

theorem State.prf_pushEvent (s : State) (code index reason tag : Nat) (data : Option (Nat × Int)) :
    (s.pushEvent code index reason tag data).prf = s.prf :=
  (State.pushEvent_keeps (Keeps.refl [.reg .prf, .reg .knl, .reg .que, .reg .err, .sets, .bulk, .log, .knl, .que] s) (by decide)).same
    .prf (by decide)

@[simp] theorem State.mot_pushEvent (s : State) (code index reason tag : Nat) (data : Option (Nat × Int)) (n : Nat) :
    (s.pushEvent code index reason tag data).mot n = s.mot n :=
  State.mot_of_prf (s.prf_pushEvent code index reason tag data) n

@[simp] theorem State.mot_setMode (s : State) (n m tag k : Nat) : (s.setMode n m tag).mot k = s.mot k := rfl

@[simp] theorem State.mot_enter (s : State) (n st k : Nat) : (s.enter n st).mot k = s.mot k :=
  State.mot_of_prf ((State.enter_keeps (Keeps.refl [.reg .prf, .reg .eng, .reg .knl, .knl] s) (by decide)).same .prf (by decide)) k

/-! ### Register words of the profile engine -/

/-- A counter that is lost writes its own word and reports. -/
theorem State.rd_lose_prf (s : State) (src k : Nat) {a : Nat} {f : Fld} (block : a / 0x1000000 = Block.prf.num) (other : a ≠ f.addr) :
    (s.lose src f k).rd a = s.rd a := by
  have counted : (s.satBump f k).rd a = s.rd a := s.rd_put_ne f _ other
  have reported (cls detail a0 a1 a2 : Nat) : ((s.satBump f k).report src cls detail a0 a1 a2).rd a = s.rd a :=
    ((State.report_keeps (Keeps.refl [.reg .err, .log] _) (by decide)).rd (by decide) block).trans counted
  unfold State.lose
  dsimp only
  split_ifs
  · exact counted
  · exact reported ..
  · exact counted

/-- R170: of the words of the profile engine, an event can write PRF_STAT alone. -/
theorem State.rd_pushEvent_prf (s : State) (code index reason tag : Nat) (data : Option (Nat × Int)) {a : Nat}
    (block : a / 0x1000000 = Block.prf.num) (other : a ≠ PRF_STAT) : (s.pushEvent code index reason tag data).rd a = s.rd a := by
  have pushed (es) : (s.tryPush 2 1 es).2.rd a = s.rd a :=
    (State.tryPush_keeps (Keeps.refl [.reg .knl, .reg .que, .sets, .bulk, .knl, .que] s) (by decide)).rd (by decide) block
  unfold State.pushEvent
  dsimp only
  split
  · exact pushed _
  · exact (State.rd_lose_prf _ _ _ block other).trans (pushed _)

theorem PRF_MVST_num (n : Nat) : PRF_MVST n / 0x1000000 = Block.prf.num := (PRF_MVST_blk n).1
theorem PRF_MVST_ne_PRF_STAT (n : Nat) : PRF_MVST n ≠ PRF_STAT := by simp only [PRF_MVST, PRF_STAT]; omega
theorem PRF_MVST_ne_PRF_MVTAG (n m : Nat) : PRF_MVST n ≠ PRF_MVTAG m := by simp only [PRF_MVST, PRF_MVTAG]; omega
theorem PRF_MVST_ne_PRF_AXST (n m : Nat) : PRF_MVST n ≠ PRF_AXST m := by simp only [PRF_MVST, PRF_AXST]; omega

theorem State.rd_PRF_MVST_pushEvent (s : State) (code index reason tag : Nat) (data : Option (Nat × Int)) (n : Nat) :
    (s.pushEvent code index reason tag data).rd (PRF_MVST n) = s.rd (PRF_MVST n) :=
  s.rd_pushEvent_prf code index reason tag data (PRF_MVST_num n) (PRF_MVST_ne_PRF_STAT n)

/-- R122: entering a state writes no PRF_MVST. -/
theorem State.rd_PRF_MVST_enter (s : State) (m st n : Nat) : (s.enter m st).rd (PRF_MVST n) = s.rd (PRF_MVST n) := by
  have darner : PRF_MVST n ≠ ENG_DST m := by simp only [PRF_MVST, ENG_DST]; omega
  unfold State.enter
  split
  · rfl
  · refine ((State.event_keeps (Keeps.refl [.reg .knl, .knl] _) (by decide)).rd (by decide) (PRF_MVST_num n)).trans ?_
    rw [State.rd_put_ne _ _ _ (PRF_MVST_ne_PRF_AXST n m)]
    split
    · exact State.rd_put_ne _ _ _ darner
    · rfl

/-- What an axis shows of its executing command. -/
theorem State.get_MODE_setMode (s : State) (n tag : Nat) {m : Nat} (h : m < 16) : (s.setMode n m tag).get (PRF_MVST_MODE n) = m :=
  (State.get_wr_ne _ (PRF_MVST_MODE n) tag (PRF_MVST_ne_PRF_MVTAG n n)).trans ((s.get_put_fits _ _ rfl).trans (Nat.mod_eq_of_lt h))

theorem State.get_MASTER_setMode (s : State) (n m tag : Nat) : (s.setMode n m tag).get (PRF_MVST_MASTER n) = s.get (PRF_MVST_MASTER n) :=
  (State.get_wr_ne _ (PRF_MVST_MASTER n) tag (PRF_MVST_ne_PRF_MVTAG n n)).trans (s.get_put_apart _ rfl)

theorem State.rd_MVTAG_setMode (s : State) (n m : Nat) {tag : Nat} (h : tag < 2 ^ 32) : (s.setMode n m tag).rd (PRF_MVTAG n) = tag :=
  (State.rd_wr_same _ _ _).trans (Nat.mod_eq_of_lt h)

/-! ### An accepted command -/

theorem State.motionCmd_runs (lo : 7 ≤ s.get CFG_STATE_STATE) (hi : s.get CFG_STATE_STATE ≤ 9) (op n : Nat) (mode : Fin 16) (tag : BitVec 32)
    (data : List (Fin 16 × BitVec 56)) : s.motionCmd op n mode tag.toNat data = s.useCommand (motionRow op n mode tag data) :=
  if_pos (by simp [State.profileRuns, lo, hi])

section

variable {mode : Fin 16} {tag : BitVec 32} {data : List (Fin 16 × BitVec 56)} (lo : 7 ≤ s.get CFG_STATE_STATE) (hi : s.get CFG_STATE_STATE ≤ 9)
include lo hi

theorem State.motionCmd_setPos (h : s.cmdRejects (motionRow 0x05 n mode tag data) = 0) :
    s.motionCmd 0x05 n mode tag.toNat data = (accepted n tag s).cmdSetPos n (motionRow 0x05 n mode tag data) :=
  (State.motionCmd_runs lo hi ..).trans (if_neg (not_not.mpr h))

theorem State.motionCmd_gear (h : s.cmdRejects (motionRow 0x10 n mode tag data) = 0) :
    s.motionCmd 0x10 n mode tag.toNat data = (accepted n tag s).cmdCouple n (motionRow 0x10 n mode tag data) :=
  (State.motionCmd_runs lo hi ..).trans (if_neg (not_not.mpr h))

theorem State.motionCmd_cam (h : s.cmdRejects (motionRow 0x11 n mode tag data) = 0) :
    s.motionCmd 0x11 n mode tag.toNat data = (accepted n tag s).cmdCouple n (motionRow 0x11 n mode tag data) :=
  (State.motionCmd_runs lo hi ..).trans (if_neg (not_not.mpr h))

theorem State.motionCmd_decouple (h : s.cmdRejects (motionRow 0x12 n mode tag data) = 0) :
    s.motionCmd 0x12 n mode tag.toNat data = (accepted n tag s).cmdDecouple n (motionRow 0x12 n mode tag data) :=
  (State.motionCmd_runs lo hi ..).trans (if_neg (not_not.mpr h))

end

end Sys2Proof.Machine
end

section
/-! PROOFS. The beginning and the end of a coupling (R141, R143 to R146). -/

namespace Sys2Proof.Machine

variable {s : State} {n : Nat}

/-! ### The end of what an axis did before (R136, R146, R148, R281) -/

theorem State.mot_releaseProbe (s : State) (n : Nat) : ∃ p, (s.releaseProbe n).mot n = { s.mot n with probing := p } := by
  unfold State.releaseProbe
  split
  · exact ⟨_, rfl⟩
  next i _ =>
    refine ⟨none, (State.mot_onMot_same ..).trans ?_⟩
    split <;> rfl

theorem State.releaseProbe_othersRest (s : State) (n : Nat) : OthersRest n s (s.releaseProbe n) := by
  unfold State.releaseProbe
  split
  · exact .of_prf rfl
  · refine .trans (.of_prf ?_) (State.onMot_othersRest _ n _)
    split <;> rfl

/-- R136: the executing command of `n` is superseded. -/
def State.supersedeCmd (n : Nat) (s : State) : State :=
  match (s.mot n).cmd with
  | some c => ((s.releaseProbe n).onMot n fun m => { m with cmd := none }).pushEvent 0x03 n 0 c.tag none
  | none => s

/-- R136: the coupling `k` of `n` is superseded if it still waits for MPOS. -/
def State.supersedeWait (n : Nat) (k : Option Coupling) (s : State) : State :=
  match k with
  | some k =>
    if k.engage = .waiting then ((s.onMot n fun m => { m with cpl := none }).put (PRF_MVST_MASTER n) 0).pushEvent 0x03 n 0 k.tag none else s
  | none => s

theorem State.supersede_eq (s : State) (n : Nat) : s.supersede n = (s.supersedeCmd n).supersedeWait n (s.mot n).cpl := rfl

/-- The motion of `n` from `s` to `t` goes on, whatever becomes of its command and its coupling. -/
structure GoesOn (n : Nat) (s t : State) : Prop where
  plan : (t.mot n).plan = (s.mot n).plan
  vel : (t.mot n).vel = (s.mot n).vel
  state : t.axState n = s.axState n
  others : OthersRest n s t

theorem GoesOn.refl (n : Nat) (s : State) : GoesOn n s s := ⟨rfl, rfl, rfl, fun _ _ => rfl⟩

theorem GoesOn.trans {t u : State} (h : GoesOn n s t) (g : GoesOn n t u) : GoesOn n s u :=
  ⟨g.plan.trans h.plan, g.vel.trans h.vel, g.state.trans h.state, h.others.trans g.others⟩

/-- A word of the profile engine that is no status word of an axis. -/
theorem GoesOn.wr (s : State) (n : Nat) {a : Nat} (v : Nat) (h : PRF_AXST n ≠ a) : GoesOn n s (s.wr a v) :=
  ⟨rfl, rfl, State.get_wr_ne s (PRF_AXST_STATE n) v h, .of_prf rfl⟩

theorem GoesOn.pushEvent (s : State) (n code index reason tag : Nat) (data : Option (Nat × Int)) :
    GoesOn n s (s.pushEvent code index reason tag data) where
  plan := by rw [State.mot_pushEvent]
  vel := by rw [State.mot_pushEvent]
  state := by simp only [State.axState, State.get, PRF_AXST_STATE, (quiet_PRF_AXST n).rd_pushEvent]
  others := .of_prf (s.prf_pushEvent ..)

/-- A change of the motion that leaves plan and velocity. -/
theorem GoesOn.onMot (s : State) (n : Nat) {f : Motion → Motion} (plan : (f (s.mot n)).plan = (s.mot n).plan)
    (vel : (f (s.mot n)).vel = (s.mot n).vel) : GoesOn n s (s.onMot n f) :=
  ⟨(congrArg Motion.plan (s.mot_onMot_same n f)).trans plan, (congrArg Motion.vel (s.mot_onMot_same n f)).trans vel, rfl,
    s.onMot_othersRest n f⟩

theorem PRF_AXST_ne_PRF_MVST (n m : Nat) : PRF_AXST n ≠ PRF_MVST m := (PRF_MVST_ne_PRF_AXST m n).symm
theorem PRF_AXST_ne_PRF_MVTAG (n m : Nat) : PRF_AXST n ≠ PRF_MVTAG m := by simp only [PRF_AXST, PRF_MVTAG]; omega

theorem GoesOn.setMode (s : State) (n m tag : Nat) : GoesOn n s (s.setMode n m tag) :=
  (GoesOn.wr s n _ (PRF_AXST_ne_PRF_MVST n n)).trans (.wr _ n _ (PRF_AXST_ne_PRF_MVTAG n n))

theorem State.releaseProbe_goesOn (s : State) (n : Nat) : GoesOn n s (s.releaseProbe n) := by
  obtain ⟨p, mot⟩ := s.mot_releaseProbe n
  have quiet : (s.releaseProbe n).rd (PRF_AXST n) = s.rd (PRF_AXST n) :=
    (State.releaseProbe_keeps (Keeps.refl [.reg .fbk, .prf, .probes] s) (by decide)).rd_quiet (quiet_PRF_AXST n) (by decide)
  exact ⟨by rw [mot], by rw [mot], congrArg (fldOf (PRF_AXST_STATE n)) quiet, s.releaseProbe_othersRest n⟩

theorem State.supersedeCmd_goesOn (s : State) (n : Nat) : GoesOn n s (s.supersedeCmd n) := by
  unfold State.supersedeCmd
  split
  · exact ((s.releaseProbe_goesOn n).trans (.onMot _ n rfl rfl)).trans (.pushEvent ..)
  · exact .refl n s

theorem State.cmd_supersedeCmd (s : State) (n : Nat) : ((s.supersedeCmd n).mot n).cmd = none := by
  unfold State.supersedeCmd
  split
  · rw [State.mot_pushEvent, State.mot_onMot_same]
  · assumption

theorem State.supersedeWait_goesOn (s : State) (n : Nat) (k : Option Coupling) : GoesOn n s (s.supersedeWait n k) := by
  unfold State.supersedeWait
  split
  · split
    · exact ((GoesOn.onMot s n rfl rfl).trans (.wr _ n _ (PRF_AXST_ne_PRF_MVST n n))).trans (.pushEvent ..)
    · exact .refl n s
  · exact .refl n s

theorem State.cmd_supersedeWait (s : State) (n : Nat) (k : Option Coupling) : ((s.supersedeWait n k).mot n).cmd = (s.mot n).cmd := by
  unfold State.supersedeWait
  split
  · split
    · rw [State.mot_pushEvent]
      change ((s.onMot n _).mot n).cmd = _
      rw [State.mot_onMot_same]
    · rfl
  · rfl

theorem State.supersede_goesOn (s : State) (n : Nat) : GoesOn n s (s.supersede n) :=
  (s.supersedeCmd_goesOn n).trans (State.supersedeWait_goesOn _ n _)

theorem State.cmd_supersede (s : State) (n : Nat) : ((s.supersede n).mot n).cmd = none :=
  (State.cmd_supersedeWait _ n _).trans (s.cmd_supersedeCmd n)

theorem State.endSuper_goesOn (s : State) (n : Nat) : GoesOn n s (s.endSuper n) := by
  unfold State.endSuper
  split
  · exact ((GoesOn.onMot s n rfl rfl).trans (.wr _ n _ (PRF_AXST_ne_PRF_MVST n n))).trans (.pushEvent ..)
  · exact .onMot s n rfl rfl

theorem State.uncouple_goesOn (s : State) (n reason tag : Nat) : GoesOn n s (s.uncouple n reason tag) := by
  unfold State.uncouple
  split
  · exact .refl n s
  · exact (((s.endSuper_goesOn n).trans (.onMot _ n rfl rfl)).trans (.wr _ n _ (PRF_AXST_ne_PRF_MVST n n))).trans (.pushEvent ..)

/-- R146: the coupling is gone, and the axis shows no master. -/
theorem State.uncouple_ends {k : Coupling} (h : (s.mot n).cpl = some k) (reason tag : Nat) :
    ((s.uncouple n reason tag).mot n).cpl = none ∧ (s.uncouple n reason tag).get (PRF_MVST_MASTER n) = 0 := by
  rw [State.uncouple, h]
  refine ⟨?_, ?_⟩
  · rw [State.mot_pushEvent]
    exact congrArg Motion.cpl (State.mot_onMot_same (s.endSuper n) n _)
  · rw [State.get, PRF_MVST_MASTER, State.rd_PRF_MVST_pushEvent]
    exact State.get_put_fits _ (PRF_MVST_MASTER n) 0 rfl

/-! ### GEAR and CAM (R141, R143 to R145) -/

/-- The coupling that a command asks for. -/
def MotCmd.coupling (c : MotCmd) : Coupling :=
  { master := c.selector, isCam := c.op == 0x11, tag := c.tag, engage := if c.mode % 4 = 1 then Engage.waiting else Engage.catching,
    num := (c.arg 6).getD 0, den := (c.arg 7).getD 1, camId := ((c.arg 0xA).getD 0).toNat,
    mofs := (c.arg 0xB).getD 0 * 65536, sofs := (c.arg 0xC).getD 0 * 65536, mpos := (c.arg 8).getD 0 * 65536,
    mlen := (c.arg 9).getD 0 * 65536 }

/-- The coupling `k` is as the command gave it; where it stands is the engine's. -/
structure Coupling.AsGiven (given k : Coupling) : Prop where
  master : k.master = given.master
  isCam : k.isCam = given.isCam
  tag : k.tag = given.tag
  engage : k.engage = given.engage
  num : k.num = given.num
  den : k.den = given.den
  camId : k.camId = given.camId
  mofs : k.mofs = given.mofs
  sofs : k.sofs = given.sofs
  mpos : k.mpos = given.mpos
  mlen : k.mlen = given.mlen

/-- The place where a coupling begins is drawn at most from the free values. -/
theorem State.beginCoupling_keeps_prf (s : State) (n : Nat) (c : Coupling) : Keeps [.fresh, .prf] s (s.beginCoupling n c) :=
  State.beginCoupling_keeps (Keeps.refl _ s) (by decide)

theorem State.mot_beginCoupling (s : State) (n : Nat) (c : Coupling) :
    ∃ k, c.AsGiven k ∧ (s.beginCoupling n c).mot n = { s.mot n with cpl := some k } := by
  have placed (k : Coupling) (m : Int) (h : c.AsGiven k) : ∃ q, c.AsGiven q ∧
      ((if k.isCam then s.coupledAt k m 0 else ((k.cv, 0), s)).2.onMot n fun x =>
        { x with cpl := some { k with cv := (if k.isCam then s.coupledAt k m 0 else ((k.cv, 0), s)).1.1 } }).mot n =
      { s.mot n with cpl := some q } := by
    obtain ⟨master, isCam, tag, engage, num, den, camId, mofs, sofs, mpos, mlen⟩ := h
    refine ⟨{ k with cv := (if k.isCam then s.coupledAt k m 0 else ((k.cv, 0), s)).1.1 },
      ⟨master, isCam, tag, engage, num, den, camId, mofs, sofs, mpos, mlen⟩, (State.mot_onMot_same ..).trans ?_⟩
    split
    · rw [State.mot_of_prf ((State.coupledAt_keeps (Keeps.refl [.fresh] s) (by decide)).same .prf (by decide))]
    · rfl
  exact placed _ _ ⟨rfl, rfl, rfl, rfl, rfl, rfl, rfl, rfl, rfl, rfl, rfl⟩

theorem State.beginCoupling_othersRest (s : State) (n : Nat) (c : Coupling) : OthersRest n s (s.beginCoupling n c) := by
  have drawn (k : Coupling) (m : Int) : OthersRest n s (if k.isCam then s.coupledAt k m 0 else ((k.cv, 0), s)).2 := by
    split
    · exact .of_prf ((State.coupledAt_keeps (Keeps.refl [.fresh] s) (by decide)).same .prf (by decide))
    · exact .of_prf rfl
  exact (drawn _ _).trans (State.onMot_othersRest _ n _)

/-- R143: a coupling that is engaged ends for a new one, and the axis goes on at its velocity. -/
def State.leaveCoupling (n : Nat) (s : State) : State :=
  match (s.mot n).cpl with
  | some k => if k.engage = Engage.waiting then s else (s.uncouple n 0x02 k.tag).onMot n fun m => { m with plan := some { speed := m.vel } }
  | none => s

/-- R145: the new coupling begins, and the axis shows it. -/
def State.showCoupling (n : Nat) (c : MotCmd) (s : State) : State :=
  ((s.setMode n 0x4 c.tag).put (PRF_MVST_MASTER n) c.selector).beginCoupling n c.coupling

theorem State.cmdCouple_eq (s : State) (n : Nat) (c : MotCmd) : s.cmdCouple n c =
    if c.mode % 4 = 1 then ((s.leaveCoupling n).supersede n).showCoupling n c
    else (((s.leaveCoupling n).supersede n).showCoupling n c).onMot n fun m => { m with plan := none, next := some (4, 4) } := rfl

/-- R143, R145: what the axis goes on with while a new coupling waits for MPOS. -/
def State.planMeanwhile (s : State) (n : Nat) : Option Plan :=
  match (s.mot n).cpl with
  | some k => if k.engage = Engage.waiting then (s.mot n).plan else some { speed := (s.mot n).vel }
  | none => (s.mot n).plan

theorem State.leaveCoupling_leaves (s : State) (n : Nat) : (s.leaveCoupling n).axState n = s.axState n ∧ OthersRest n s (s.leaveCoupling n) ∧
    ((s.leaveCoupling n).mot n).plan = s.planMeanwhile n := by
  unfold State.leaveCoupling State.planMeanwhile
  split
  next k _ =>
    split
    · exact ⟨rfl, fun _ _ => rfl, rfl⟩
    · obtain ⟨-, vel, state, others⟩ := s.uncouple_goesOn n 0x02 k.tag
      exact ⟨state, others.trans (State.onMot_othersRest _ n _), by rw [State.mot_onMot_same, vel]⟩
  · exact ⟨rfl, fun _ _ => rfl, rfl⟩

/-- What GEAR and CAM leave. -/
structure Couples (n : Nat) (c : MotCmd) (s u : State) : Prop where
  coupling : ∃ k, (u.mot n).cpl = some k ∧ c.coupling.AsGiven k
  mode : u.get (PRF_MVST_MODE n) = 4
  master : u.get (PRF_MVST_MASTER n) = c.selector
  tag : u.rd (PRF_MVTAG n) = c.tag
  cmd : (u.mot n).cmd = none
  state : u.axState n = s.axState n
  others : OthersRest n s u

theorem State.showCoupling_couples (s : State) (n : Nat) {c : MotCmd} (idle : (s.mot n).cmd = none) (selector : c.selector < 2 ^ 16)
    (tag : c.tag < 2 ^ 32) : Couples n c s (s.showCoupling n c) ∧ ((s.showCoupling n c).mot n).plan = (s.mot n).plan := by
  have goesOn : GoesOn n s ((s.setMode n 0x4 c.tag).put (PRF_MVST_MASTER n) c.selector) :=
    (GoesOn.setMode s n 4 c.tag).trans (.wr _ n _ (PRF_AXST_ne_PRF_MVST n n))
  have shown : PRF_MVTAG n ≠ PRF_MVST n := (PRF_MVST_ne_PRF_MVTAG n n).symm
  have keeps := State.beginCoupling_keeps_prf ((s.setMode n 0x4 c.tag).put (PRF_MVST_MASTER n) c.selector) n c.coupling
  obtain ⟨k, given, mot⟩ := State.mot_beginCoupling ((s.setMode n 0x4 c.tag).put (PRF_MVST_MASTER n) c.selector) n c.coupling
  refine ⟨⟨⟨k, ?_, given⟩, ?_, ?_, ?_, ?_, ?_, ?_⟩, ?_⟩
  · exact congrArg Motion.cpl mot
  · exact (keeps.get (by decide) (PRF_MVST_MODE_blk n)).trans
      ((State.get_put_apart _ _ rfl).trans (s.get_MODE_setMode n c.tag (by decide)))
  · exact (keeps.get (by decide) (PRF_MVST_blk n)).trans ((State.get_put_fits _ _ _ rfl).trans (Nat.mod_eq_of_lt selector))
  · exact (keeps.rd (by decide) (PRF_MVTAG_blk n).1).trans
      ((State.rd_put_ne _ (PRF_MVST_MASTER n) _ shown).trans (s.rd_MVTAG_setMode n 4 tag))
  · exact (congrArg Motion.cmd mot).trans idle
  · exact (keeps.get (by decide) (PRF_AXST_STATE_blk n)).trans goesOn.state
  · exact goesOn.others.trans (State.beginCoupling_othersRest _ n _)
  · exact (congrArg Motion.plan mot).trans goesOn.plan

/-- R145: the axis catches up with the coupled set-point, or goes on until the master crosses MPOS. -/
theorem State.cmdCouple_couples (s : State) (n : Nat) {c : MotCmd} (selector : c.selector < 2 ^ 16) (tag : c.tag < 2 ^ 32) :
    Couples n c s (s.cmdCouple n c) ∧
    (c.mode % 4 ≠ 1 → ((s.cmdCouple n c).mot n).plan = none ∧ ((s.cmdCouple n c).mot n).next = some (4, 4)) ∧
    (c.mode % 4 = 1 → ((s.cmdCouple n c).mot n).plan = s.planMeanwhile n) := by
  obtain ⟨leftState, leftOthers, meanwhile⟩ := s.leaveCoupling_leaves n
  obtain ⟨leftPlan, -, state', others'⟩ := (s.leaveCoupling n).supersede_goesOn n
  obtain ⟨⟨coupling, mode, master, tag, cmd, state, others⟩, plan⟩ :=
    ((s.leaveCoupling n).supersede n).showCoupling_couples n (State.cmd_supersede _ n) selector tag
  have state := (state.trans state').trans leftState
  have others := (leftOthers.trans others').trans others
  rw [State.cmdCouple_eq]
  split
  next at1 => exact ⟨⟨coupling, mode, master, tag, cmd, state, others⟩, fun h => absurd at1 h, fun _ => plan.trans (leftPlan.trans meanwhile)⟩
  next catching =>
    refine ⟨⟨?_, mode, master, tag, ?_, state, others.trans (State.onMot_othersRest _ n _)⟩, fun _ => ?_, fun h => absurd h catching⟩ <;>
      rw [State.mot_onMot_same]
    exacts [coupling, cmd, ⟨rfl, rfl⟩]

/-- R141, R167: the master of an accepted coupling is named by a selector of 16 bits. -/
theorem State.couplingCheck_accepted {c : MotCmd} (op : c.op = 0x10 ∨ c.op = 0x11) (h : s.cmdRejects c = 0) :
    s.couplingCheck c.index c = 0 := by
  have formed : c.malformed = false := by
    by_contra bad
    rw [State.cmdRejects_malformed (by simpa using bad)] at h
    exact absurd h (by decide)
  have known : (cmdSels c.op c.mode).isSome = true := by rcases op with op | op <;> rw [op] <;> rfl
  have axis : c.op ∉ [0x20, 0x21, 0x30] := by rcases op with op | op <;> rw [op] <;> decide
  rw [State.cmdRejects_axis formed known axis, State.axisRejects] at h
  split_ifs at h
  exact h

theorem State.selector_lt {c : MotCmd} (op : c.op = 0x10 ∨ c.op = 0x11) (h : s.cmdRejects c = 0) : c.selector < 2 ^ 16 := by
  have check := State.couplingCheck_accepted op h
  rw [State.couplingCheck] at check
  split_ifs at check with unnamed
  all_goals
    simp only [State.masterNamed, Bool.or_eq_true, Bool.not_eq_true', not_or, Bool.not_eq_false, Bool.and_eq_true, decide_eq_true_eq] at unnamed
    exact unnamed.1.1.1

/-! ### DECOUPLE (R122, R146) -/

/-- The axis follows no master from `s` to `u`, and the other motions are as before. -/
structure Uncoupled (n : Nat) (s u : State) : Prop where
  cpl : (u.mot n).cpl = none
  master : u.get (PRF_MVST_MASTER n) = 0
  others : OthersRest n s u

theorem State.uncouple_uncoupled {k : Coupling} (coupled : (s.mot n).cpl = some k) (reason tag : Nat) :
    Uncoupled n s (s.uncouple n reason tag) :=
  ⟨(State.uncouple_ends coupled reason tag).1, (State.uncouple_ends coupled reason tag).2, (s.uncouple_goesOn n reason tag).others⟩

variable {u : State}

theorem Uncoupled.onMot (h : Uncoupled n s u) {f : Motion → Motion} (keeps : (f (u.mot n)).cpl = (u.mot n).cpl) :
    Uncoupled n s (u.onMot n f) :=
  ⟨(congrArg Motion.cpl (u.mot_onMot_same n f)).trans (keeps.trans h.cpl), h.master, h.others.trans (u.onMot_othersRest n f)⟩

theorem Uncoupled.enter (h : Uncoupled n s u) (st : Nat) : Uncoupled n s (u.enter n st) where
  cpl := by rw [State.mot_enter, h.cpl]
  master := (congrArg (fldOf (PRF_MVST_MASTER n)) (u.rd_PRF_MVST_enter n st n)).trans h.master
  others := h.others.trans fun m _ => u.mot_enter n st m

theorem Uncoupled.setMode (h : Uncoupled n s u) (m tag : Nat) : Uncoupled n s (u.setMode n m tag) where
  cpl := h.cpl
  master := (u.get_MASTER_setMode n m tag).trans h.master
  others := h.others.trans (.of_prf rfl)

theorem State.axState_setMode (s : State) (n m tag : Nat) : (s.setMode n m tag).axState n = s.axState n := (GoesOn.setMode s n m tag).state

/-- What a DECOUPLE leaves that ends the coupling: the axis goes on by itself with the plan `p`, and shows `mode`. -/
structure Decoupled (n mode : Nat) (p : Plan) (s u : State) : Prop extends Uncoupled n s u where
  cmd : (u.mot n).cmd = none
  plan : (u.mot n).plan = some p
  mode : u.get (PRF_MVST_MODE n) = mode

/-- R146: DMODE STOP. -/
theorem State.decoupleStop_decoupled {k : Coupling} (coupled : (s.mot n).cpl = some k) (reason tag : Nat) (d j : Option Int) :
    Decoupled n 7 { d := d, j := j } s (s.decoupleStop n reason tag d j) ∧
    (s.axState n = 4 → (s.decoupleStop n reason tag d j).axState n = 3) := by
  rw [State.decoupleStop, coupled]
  dsimp only
  generalize stops : (((s.uncouple n reason tag).onMot n fun m => { m with cmd := none, next := none }).planStop n d j) = t
  have mot : t.mot n = { (s.uncouple n reason tag).mot n with cmd := none, next := none, plan := some { d := d, j := j } } := by
    rw [← stops, State.planStop, State.mot_onMot_same, State.mot_onMot_same]
  have alone : Uncoupled n s t := stops ▸ ((State.uncouple_uncoupled coupled reason tag).onMot rfl).onMot rfl
  have state : t.axState n = s.axState n := by
    rw [← stops]
    exact (s.uncouple_goesOn n reason tag).state
  split
  next =>
    refine ⟨⟨(alone.enter 3).setMode 7 tag, ?_, ?_, State.get_MODE_setMode _ n tag (by decide)⟩, fun _ => ?_⟩
    · rw [State.mot_setMode, State.mot_enter, mot]
    · rw [State.mot_setMode, State.mot_enter, mot]
    · rw [State.axState_setMode, State.axState_enter _ _ (by decide)]
  next other =>
    refine ⟨⟨alone.setMode 7 tag, ?_, ?_, State.get_MODE_setMode _ n tag (by decide)⟩, fun cyclic => absurd (state.trans cyclic) other⟩ <;>
      rw [State.mot_setMode, mot]

/-- R146: DMODE VEL: the axis goes on at its present velocity. -/
def State.goOnAlone (n tag : Nat) (s : State) : State :=
  (((s.uncouple n 0x00 tag).onMot n fun m => { m with cmd := none, next := none, plan := some { speed := (s.mot n).vel } }).enter n
    3).setMode n 0x2 tag

/-- R146: DMODE AT: the coupling `k` is to end where the command says; the master now stands at `now`. -/
def Coupling.endsAs (c : MotCmd) (now : Int) (k : Coupling) : Coupling :=
  { k with endAt := some ((c.arg 8).getD 0 * 65536), endD := c.arg 3, endJ := c.arg 4, endTag := c.tag,
           endOnce := now == (c.arg 8).getD 0 * 65536 }

variable {c : MotCmd}

theorem State.cmdDecouple_stop (mode : c.mode % 4 = 0) : s.cmdDecouple n c = s.decoupleStop n 0x00 c.tag (c.arg 3) (c.arg 4) := by
  rw [State.cmdDecouple, mode]
  rfl

theorem State.cmdDecouple_vel (mode : c.mode % 4 = 1) : s.cmdDecouple n c = s.goOnAlone n c.tag := by
  rw [State.cmdDecouple, mode]
  rfl

theorem State.cmdDecouple_at {k : Coupling} (coupled : (s.mot n).cpl = some k) (mode : c.mode % 4 = 2) :
    s.cmdDecouple n c = s.onCpl n (Coupling.endsAs c (s.masterAt k.master)) := by
  rw [State.cmdDecouple, mode, coupled]
  rfl

theorem State.goOnAlone_decoupled {k : Coupling} (coupled : (s.mot n).cpl = some k) (tag : Nat) :
    Decoupled n 2 { speed := (s.mot n).vel } s (s.goOnAlone n tag) ∧ (s.goOnAlone n tag).axState n = 3 := by
  have alone := (((State.uncouple_uncoupled coupled 0x00 tag).onMot (f := fun m =>
    { m with cmd := none, next := none, plan := some { speed := (s.mot n).vel } }) rfl).enter 3).setMode 2 tag
  refine ⟨⟨alone, ?_, ?_, State.get_MODE_setMode _ n tag (by decide)⟩, ?_⟩
  · rw [State.goOnAlone, State.mot_setMode, State.mot_enter, State.mot_onMot_same]
  · rw [State.goOnAlone, State.mot_setMode, State.mot_enter, State.mot_onMot_same]
  · rw [State.goOnAlone, State.axState_setMode, State.axState_enter _ _ (by decide)]

theorem State.mot_onCpl {k : Coupling} (coupled : (s.mot n).cpl = some k) (f : Coupling → Coupling) :
    (s.onCpl n f).mot n = { s.mot n with cpl := some (f k) } := by
  rw [State.onCpl, State.mot_onMot_same, coupled, Option.map_some]

/-! ### The statement -/

theorem State.mot_accepted (s : State) (dt n : Nat) (tag : BitVec 32) (m : Nat) : (accepted n tag (s.elapse dt)).mot m = s.mot m :=
  State.mot_pushEvent (s.elapse dt) 0x01 n 0 tag.toNat none m

/-- The report of a command leaves what the command finds. -/
theorem GoesOn.report (s : State) (dt n : Nat) (tag : BitVec 32) : GoesOn n s (accepted n tag (s.elapse dt)) := by
  have waits : GoesOn n s (s.elapse dt) := ⟨rfl, rfl, rfl, .of_prf rfl⟩
  exact waits.trans (GoesOn.pushEvent (s.elapse dt) n 0x01 n 0 tag.toNat none)

theorem State.planMeanwhile_accepted (s : State) (dt n : Nat) (tag : BitVec 32) :
    (accepted n tag (s.elapse dt)).planMeanwhile n = s.planMeanwhile n := by
  rw [State.planMeanwhile, State.mot_accepted, State.planMeanwhile]

/-- R143 to R145: what an accepted GEAR or CAM leaves of the state that it was read in. -/
theorem State.accepted_couples {c : MotCmd} (op : c.op = 0x10 ∨ c.op = 0x11) {dt : Nat} (ok : (s.elapse dt).cmdRejects c = 0)
    {tag : BitVec 32} (tagged : c.tag = tag.toNat) (n : Nat) :
    Couples n c s ((accepted n tag (s.elapse dt)).cmdCouple n c) ∧
    (c.mode % 4 ≠ 1 → (((accepted n tag (s.elapse dt)).cmdCouple n c).mot n).plan = none ∧
      (((accepted n tag (s.elapse dt)).cmdCouple n c).mot n).next = some (4, 4)) ∧
    (c.mode % 4 = 1 → (((accepted n tag (s.elapse dt)).cmdCouple n c).mot n).plan = s.planMeanwhile n) := by
  obtain ⟨couples, catches, waits⟩ := (accepted n tag (s.elapse dt)).cmdCouple_couples n (State.selector_lt op ok) (tagged ▸ tag.isLt)
  have reported := GoesOn.report s dt n tag
  rw [State.planMeanwhile_accepted] at waits
  exact ⟨{ couples with state := couples.state.trans reported.state, others := reported.others.trans couples.others }, catches, waits⟩

theorem Decoupled.of_accepted {dt mode : Nat} {tag : BitVec 32} {p : Plan} (h : Decoupled n mode p (accepted n tag (s.elapse dt)) u) :
    Decoupled n mode p s u :=
  { h with others := (GoesOn.report s dt n tag).others.trans h.others }

/-- Settles O21: an accepted GEAR or CAM leaves a coupling as given, after what was before has ended; a DECOUPLE ends the coupling, or has it
wait for the master. -/
theorem couplings : Obligations.Couplings := by
  refine ⟨?gearCatches, ?gearWaits, ?camCatches, ?camWaits, ?stop, ?goOn, ?wait⟩
  case gearCatches =>
    intro dt n mode tag data s lo hi ok catches
    obtain ⟨⟨⟨k, cpl, given⟩, shown, master, tagged, cmd, state, others⟩, plan, -⟩ := State.accepted_couples (.inl rfl) ok rfl n
    exact ⟨_, congrArg Host.Outcome.next (State.motionCmd_gear lo hi ok),
      ⟨k, cpl, given.isCam, given.tag, given.master, given.engage, given.num, given.den, given.mpos, given.mlen⟩, shown, master, tagged, cmd, state,
      fun m => others m, plan catches⟩
  case gearWaits =>
    intro dt n mode tag data s lo hi ok waits
    obtain ⟨⟨⟨k, cpl, given⟩, shown, master, tagged, cmd, state, others⟩, -, plan⟩ := State.accepted_couples (.inl rfl) ok rfl n
    exact ⟨_, congrArg Host.Outcome.next (State.motionCmd_gear lo hi ok),
      ⟨k, cpl, given.isCam, given.tag, given.master, given.engage, given.num, given.den, given.mpos, given.mlen⟩, shown, master, tagged, cmd, state,
      fun m => others m, plan waits⟩
  case camCatches =>
    intro dt n mode tag data s lo hi ok catches
    obtain ⟨⟨⟨k, cpl, given⟩, shown, master, tagged, cmd, state, others⟩, plan, -⟩ := State.accepted_couples (.inr rfl) ok rfl n
    exact ⟨_, congrArg Host.Outcome.next (State.motionCmd_cam lo hi ok),
      ⟨k, cpl, given.isCam, given.tag, given.master, given.engage, given.camId, given.mofs, given.sofs, given.mpos, given.mlen⟩, shown, master, tagged, cmd, state,
      fun m => others m, plan catches⟩
  case camWaits =>
    intro dt n mode tag data s lo hi ok waits
    obtain ⟨⟨⟨k, cpl, given⟩, shown, master, tagged, cmd, state, others⟩, -, plan⟩ := State.accepted_couples (.inr rfl) ok rfl n
    exact ⟨_, congrArg Host.Outcome.next (State.motionCmd_cam lo hi ok),
      ⟨k, cpl, given.isCam, given.tag, given.master, given.engage, given.camId, given.mofs, given.sofs, given.mpos, given.mlen⟩, shown, master, tagged, cmd, state,
      fun m => others m, plan waits⟩
  case stop =>
    intro dt n mode tag data k s lo hi ok coupled stops
    have run := (State.motionCmd_decouple (s := s.elapse dt) lo hi ok).trans (State.cmdDecouple_stop stops)
    obtain ⟨decoupled, state⟩ := State.decoupleStop_decoupled (s := accepted n tag (s.elapse dt))
      ((congrArg Motion.cpl (s.mot_accepted dt n tag n)).trans coupled) 0x00 tag.toNat
      ((motionRow 0x12 n mode tag data).arg 3) ((motionRow 0x12 n mode tag data).arg 4)
    obtain ⟨⟨cpl, master, others⟩, cmd, plan, shown⟩ := decoupled.of_accepted
    exact ⟨_, congrArg Host.Outcome.next run, cpl, cmd, plan, fun cyclic => state ((GoesOn.report s dt n tag).state.trans cyclic), shown,
      master, fun m => others m⟩
  case goOn =>
    intro dt n mode tag data k s lo hi ok coupled goesOn
    have run := (State.motionCmd_decouple (s := s.elapse dt) lo hi ok).trans (State.cmdDecouple_vel goesOn)
    obtain ⟨decoupled, state⟩ := State.goOnAlone_decoupled (s := accepted n tag (s.elapse dt))
      ((congrArg Motion.cpl (s.mot_accepted dt n tag n)).trans coupled) tag.toNat
    obtain ⟨⟨cpl, master, others⟩, cmd, plan, shown⟩ := decoupled.of_accepted
    rw [State.mot_accepted] at plan
    exact ⟨_, congrArg Host.Outcome.next run, cpl, cmd, plan, state, shown, master, fun m => others m⟩
  case wait =>
    intro dt n mode tag data k s lo hi ok coupled waits
    have still := (congrArg Motion.cpl (s.mot_accepted dt n tag n)).trans coupled
    have run := (State.motionCmd_decouple (s := s.elapse dt) lo hi ok).trans (State.cmdDecouple_at still waits)
    have mot := State.mot_onCpl still (Coupling.endsAs (motionRow 0x12 n mode tag data) ((accepted n tag (s.elapse dt)).masterAt k.master))
    have reported := GoesOn.report s dt n tag
    refine ⟨_, congrArg Host.Outcome.next run, ?_, ?_, ?_, reported.state, fun m hm => (State.mot_onMot_ne _ _ hm).trans (reported.others m hm)⟩
    · rw [mot]
      rfl
    · rw [mot]
      rfl
    · rw [mot, reported.plan]

end Sys2Proof.Machine
end

section
/-! PROOFS. SET_POS of a DISABLED axis whose ACCEPTED event is spilled over the axis table (R107, R139, R167, R169, R335, R343). -/

namespace Sys2Proof.Machine

/-- Axis 0 is DISABLED, with MODULO 0 in its entry and its measured position at -1. Head and tail of the event queue 0x01 are full, and its
spill ring begins at the committed entry of that axis. -/
def spillsOverTable : State :=
  { regs := [(CFG_STATE, 8), (QUE_SBASE, 0x80140000), (QUE_CFG 1, 0x62000000), (QUE_ST 1, 0x00200020)]
    axes := [(0, { meas := -1 })]
    que := { data := [(1, { head := List.replicate 16 (entry 0), tail := List.replicate 16 (entry 0) })] } }

/-- The position that the command gives: 7 counts. -/
def setSeven : MotCmd := motionRow 0x05 0 0 0 [(0, 7)]

/-- The command acts on the state in which it has been reported. -/
def afterSpill : State := accepted 0 0 (spillsOverTable.elapse 0)

theorem exec_setPos_spillsOverTable : exec (.setPos 0 0 0 0 [(0, 7)]) spillsOverTable = .next (afterSpill.cmdSetPos 0 setSeven) := by
  have takes : (spillsOverTable.elapse 0).cmdRejects setSeven = 0 := by decide
  exact congrArg Host.Outcome.next (State.motionCmd_setPos (by decide) (by decide) takes)

/-- Before the event the axis has no modulo. -/
theorem motMod_spillsOverTable : spillsOverTable.motMod 0 = 0 := by decide

/-- The spilled entries put 2^31 counts in its place. -/
theorem motMod_afterSpill : afterSpill.motMod 0 = 2 ^ 31 * 65536 := by decide

theorem axState_afterSpill : afterSpill.axState 0 = 0 := by decide

theorem meas_afterSpill : (afterSpill.axis 0).meas = -1 := by decide

/-- R167: the shift of a DISABLED axis starts from its measured position. -/
theorem State.redef_cmdSetPos_disabled {s : State} {n : Nat} (axis : n < 256) (disabled : s.axState n = 0) (c : MotCmd) :
    ((s.cmdSetPos n c).mot n).redef = some ((c.arg 0).getD 0 * 65536 - s.intoRange n ((s.axis n).meas * 65536)) := by
  rw [State.cmdSetPos, State.mot_pushEvent, State.mot_onMot_same, if_pos ⟨axis, disabled⟩]

/-- Refutes O20: the first clause takes the measured position of a DISABLED axis in the range that its entry gives before the command. The
command is reported before it acts, and where the spill ring of the event queue lies over the entry, the report changes MODULO: the measured
position of -1 count then counts as 2^31 - 1. The loader rejects an image whose spill ring meets the axis table (R335), but the clause is about
every state. -/
theorem not_motionRedefines : ¬ Obligations.MotionRedefines := by
  rintro ⟨setPos, -⟩
  obtain ⟨u, run, mot, -⟩ := setPos 0 0 0 0 [(0, 7)] spillsOverTable (by decide) (by decide) (by decide)
  obtain rfl := Host.Outcome.next.inj (exec_setPos_spillsOverTable.symm.trans run)
  have stated : ((afterSpill.cmdSetPos 0 setSeven).mot 0).redef = some (7 * 65536 - spillsOverTable.intoRange 0 (-1 * 65536)) :=
    congrArg Motion.redef mot
  have shifted : ((afterSpill.cmdSetPos 0 setSeven).mot 0).redef = some (7 * 65536 - afterSpill.intoRange 0 (-1 * 65536)) := by
    rw [State.redef_cmdSetPos_disabled (by decide) axState_afterSpill, meas_afterSpill]
    rfl
  rw [shifted, State.intoRange, State.intoRange, motMod_afterSpill, motMod_spillsOverTable] at stated
  exact absurd stated (by decide)

end Sys2Proof.Machine
end

section
/-! PROOFS. What one period of a path group does to its window, its counters and its state (R156, R159, R160, R168, R170). -/

namespace Sys2Proof.Machine

variable {s t u : State} {g : Nat}

/-! ### What leaves the path groups alone -/

/-- The path groups and the entries that are still to be computed are as before. -/
structure SamePaths (s t : State) : Prop where
  groups : t.prf.groups = s.prf.groups
  due : t.prf.due = s.prf.due

theorem SamePaths.refl (s : State) : SamePaths s s := ⟨rfl, rfl⟩

theorem SamePaths.trans (h : SamePaths s t) (k : SamePaths t u) : SamePaths s u := ⟨k.groups.trans h.groups, k.due.trans h.due⟩

theorem SamePaths.of_prf (h : t.prf = s.prf) : SamePaths s t := ⟨by rw [h], by rw [h]⟩

theorem SamePaths.grp (h : SamePaths s t) (g : Nat) : t.grp g = s.grp g := by rw [State.grp, State.grp, h.groups]

/-- R131: set-points of axes are no part of a path group. -/
theorem State.setVels_samePaths {α : Type} (n : α → Nat) (v : α → Int) (l : List α) (s : State) :
    SamePaths s (l.foldl (fun s x => s.setVel (n x) (v x)) s) := by
  induction l generalizing s with
  | nil => exact .refl s
  | cons x l ih =>
    have step : SamePaths s (s.setVel (n x) (v x)) := ⟨rfl, rfl⟩
    exact step.trans (ih _)

theorem State.rd_setVels {α : Type} (n : α → Nat) (v : α → Int) (l : List α) (s : State) (a : Nat) :
    (l.foldl (fun s x => s.setVel (n x) (v x)) s).rd a = s.rd a :=
  rd_foldl (f := fun s x => s.setVel (n x) (v x)) (fun _ _ => rfl) l s

/-! ### The words of the path groups -/

/-- The address of a word of a path group. -/
def GroupWord (a : Nat) : Prop := 0x12000400 ≤ a ∧ a < 0x12000800

theorem groupWord_GRPAX (g : Nat) : GroupWord (PRF_GRPAX g) := by simp only [GroupWord, PRF_GRPAX]; omega
theorem groupWord_GRPAX_high (g : Nat) : GroupWord (PRF_GRPAX g + 4) := by simp only [GroupWord, PRF_GRPAX]; omega
theorem groupWord_GRPCFG (g : Nat) : GroupWord (PRF_GRPCFG g) := by simp only [GroupWord, PRF_GRPCFG]; omega
theorem groupWord_GRPEXE (g : Nat) : GroupWord (PRF_GRPEXE g) := by simp only [GroupWord, PRF_GRPEXE]; omega

theorem PRF_GRPEXE_ne_PRF_GRPST (g : Nat) : PRF_GRPEXE g ≠ PRF_GRPST g := by simp only [PRF_GRPEXE, PRF_GRPST]; omega

variable {a : Nat}

theorem GroupWord.num (h : GroupWord a) : a / 0x1000000 = Block.prf.num := by
  simp only [GroupWord] at h
  simp only [Block.num]
  omega

theorem GroupWord.ne_PRF_STAT (h : GroupWord a) : a ≠ PRF_STAT := by
  simp only [GroupWord] at h
  simp only [PRF_STAT]
  omega

theorem GroupWord.ne_PRF_MVST (h : GroupWord a) (n : Nat) : a ≠ PRF_MVST n := by
  simp only [GroupWord] at h
  simp only [PRF_MVST]
  omega

theorem GroupWord.rd_pushEvent (h : GroupWord a) (s : State) (code index reason tag : Nat) (data : Option (Nat × Int)) :
    (s.pushEvent code index reason tag data).rd a = s.rd a := s.rd_pushEvent_prf code index reason tag data h.num h.ne_PRF_STAT

/-- The axes of a group are named by the words PRF_GRPCFG and PRF_GRPAX. -/
theorem State.groupAxes_of_rd (h : ∀ a, GroupWord a → t.rd a = s.rd a) (g : Nat) : t.groupAxes g = s.groupAxes g := by
  have slots : t.slotAxis g = s.slotAxis g := by
    funext i
    rw [State.slotAxis, State.slotAxis, State.rd64, State.rd64, h _ (groupWord_GRPAX g), h _ (groupWord_GRPAX_high g)]
  rw [State.groupAxes, State.groupAxes, slots, State.get, State.get, PRF_GRPCFG_NAX, h _ (groupWord_GRPCFG g)]

/-- R132, R138: the flags of the ceiling lie in words of the axes. -/
theorem GroupWord.rd_pathCeil (h : GroupWord a) (g : Nat) (s : State) : (s.pathCeil g).rd a = s.rd a := by
  refine rd_foldl (fun s n => ?_) _ s
  split
  · exact s.latch_keeps_rd _ (h.ne_PRF_MVST n)
  · rfl

theorem State.prf_pathCeil (g : Nat) (s : State) : (s.pathCeil g).prf = s.prf :=
  (State.pathCeil_keeps (Keeps.refl [.reg .prf, .sets] s) (by decide)).same .prf (by decide)

/-- Where a path stands does not depend on the ceilings of its axes. -/
theorem State.trace_pathCeil (g : Nat) (s : State) : ((s.pathCeil g).drew 1).trace g = s.trace g := by
  have prf : ((s.pathCeil g).drew 1).prf = s.prf := s.prf_pathCeil g
  have axes : ((s.pathCeil g).drew 1).groupAxes g = s.groupAxes g := State.groupAxes_of_rd (fun _ ha => ha.rd_pathCeil g s) g
  have mot : ((s.pathCeil g).drew 1).mot = s.mot := funext (State.mot_of_prf prf)
  rw [State.trace, State.trace, State.groupPos, State.groupPos, axes, mot, State.grp_of_prf prf]

/-! ### Completions (R156, R170) -/

/-- Beside the completions of group `g` the path groups are as before. -/
structure Completes (g : Nat) (s t : State) : Prop where
  grp : ∃ d o, t.grp g = { s.grp g with done := d, owed := o }
  due : t.prf.due = s.prf.due

theorem Completes.refl (g : Nat) (s : State) : Completes g s s := ⟨⟨_, _, rfl⟩, rfl⟩

theorem Completes.trans (h : Completes g s t) (k : Completes g t u) : Completes g s u := by
  obtain ⟨⟨d, o, first⟩, due⟩ := h
  obtain ⟨⟨d', o', second⟩, due'⟩ := k
  exact ⟨⟨d', o', by rw [second, first]⟩, due'.trans due⟩

theorem Completes.onGrp (s : State) {f : Group → Group} {d o : List (BitVec 64)} (h : f (s.grp g) = { s.grp g with done := d, owed := o }) :
    Completes g s (s.onGrp g f) := ⟨⟨d, o, (s.grp_onGrp_same g f).trans h⟩, rfl⟩

theorem State.drainDone_completes (g k : Nat) (s : State) : Completes g s (s.drainDone g k) := by
  induction k generalizing s with
  | zero => exact .refl g s
  | succ k ih =>
    unfold State.drainDone
    split
    · exact .refl g s
    next e rest _ =>
      have moved : Completes g s (s.enqueue 1 [e]) := by
        have prf := (State.enqueue_keeps (q := 1) (es := [e]) (Keeps.refl [.reg .knl, .reg .que, .sets, .bulk, .knl, .que] s) (by decide)).same
          .prf (by decide)
        exact ⟨⟨_, _, State.grp_of_prf prf g⟩, (SamePaths.of_prf prf).due⟩
      split
      · exact (moved.trans (.onGrp _ rfl)).trans (ih _)
      · exact .refl g s

theorem State.segEvent_completes (g code reason tag : Nat) (s : State) : Completes g s (s.segEvent g code reason tag) := by
  unfold State.segEvent
  refine Completes.trans ?_ (State.drainDone_completes g 128 _)
  by_cases room : (s.grp g).done.length < 128 ∧ (s.grp g).owed = []
  · exact .onGrp s (if_pos room)
  · exact .onGrp s (if_neg room)

/-! ### An executed segment (R156) -/

/-- What is known of the segment that left the window last. -/
def Group.passed (c : MotCmd) (x : Group) : Group :=
  { x with
    window := x.window.drop 1, lastTag := c.tag, lastCorner := c.mode % 4, lastTol := (c.arg 0xC).getD 0
    lastFeed := (c.arg 0xB).getD 0 }

theorem State.segExecuted_eq (g : Nat) (c : MotCmd) (s : State) :
    s.segExecuted g c = (((s.bump (whole (PRF_GRPEXE g))).onGrp g (Group.passed c)).showGroup g).segEvent g 0x10 0 c.tag := rfl

theorem State.grp_bump (s : State) (f : Fld) (g : Nat) : (s.bump f).grp g = s.grp g := rfl

theorem State.grp_showGroup (s : State) (g k : Nat) : (s.showGroup g).grp k = s.grp k := rfl

theorem State.rd_onGrp (s : State) (g : Nat) (f : Group → Group) (a : Nat) : (s.onGrp g f).rd a = s.rd a := rfl

theorem State.grp_segExecuted (g : Nat) (c : MotCmd) (s : State) :
    ∃ d o, (s.segExecuted g c).grp g = { (s.grp g).passed c with done := d, owed := o } := by
  obtain ⟨⟨d, o, shown⟩, -⟩ := State.segEvent_completes g 0x10 0 c.tag
    (((s.bump (whole (PRF_GRPEXE g))).onGrp g (Group.passed c)).showGroup g)
  have passed : (((s.bump (whole (PRF_GRPEXE g))).onGrp g (Group.passed c)).showGroup g).grp g = (s.grp g).passed c := by
    rw [State.grp_showGroup, State.grp_onGrp_same, State.grp_bump]
  exact ⟨d, o, by rw [State.segExecuted_eq, shown, passed]⟩

theorem State.due_segExecuted (g : Nat) (c : MotCmd) (s : State) : (s.segExecuted g c).prf.due = s.prf.due :=
  (State.segEvent_completes g 0x10 0 c.tag _).due

theorem State.rd_segEvent (g code reason tag : Nat) (s : State) (h : GroupWord a) : (s.segEvent g code reason tag).rd a = s.rd a :=
  (State.segEvent_keeps (Keeps.refl [.reg .knl, .reg .que, .sets, .bulk, .knl, .que, .prf] s) (by decide)).rd (by decide) h.num

theorem State.rd_GRPEXE_segExecuted (g : Nat) (c : MotCmd) (s : State) :
    (s.segExecuted g c).rd (PRF_GRPEXE g) = (s.rd (PRF_GRPEXE g) + 1) % 2 ^ 32 := by
  have current : PRF_GRPEXE g ≠ PRF_GRPCUR g := by simp only [PRF_GRPEXE, PRF_GRPCUR]; omega
  rw [State.segExecuted_eq, State.rd_segEvent _ _ _ _ _ (groupWord_GRPEXE g), State.showGroup, State.rd_wr_ne _ _ current,
    State.rd_put_ne _ (PRF_GRPST_WIN g) _ (PRF_GRPEXE_ne_PRF_GRPST g), State.rd_onGrp, State.rd_bump_whole]

theorem noGroup_PRF_GRPEXE (g : Nat) : NoGroup (PRF_GRPEXE g) := by simp only [NoGroup, PRF_GRPEXE]; omega

theorem GroupAt.segExecuted {k v : Nat} (h : GroupAt k v s) (g : Nat) (c : MotCmd) : GroupAt k v (s.segExecuted g c) := by
  have counted : GroupAt k v (s.bump (whole (PRF_GRPEXE g))) := h.put (noGroup_PRF_GRPEXE g) _
  rw [State.segExecuted_eq]
  exact ((counted.onGrp g _).showGroup g).keeps
    (State.segEvent_keeps (Keeps.refl [.reg .knl, .reg .que, .sets, .bulk, .knl, .que, .prf] _) (by decide)) (by decide)

/-- Group `g` has executed `k` segments between two states. -/
structure Executed (g k : Nat) (s t : State) : Prop where
  window : (t.grp g).window = (s.grp g).window.drop k
  counted : t.rd (PRF_GRPEXE g) = (s.rd (PRF_GRPEXE g) + k) % 2 ^ 32
  due : t.prf.due = s.prf.due

theorem State.segExecuted_executed (g : Nat) (c : MotCmd) (s : State) : Executed g 1 s (s.segExecuted g c) := by
  obtain ⟨d, o, passed⟩ := s.grp_segExecuted g c
  exact ⟨by rw [passed]; rfl, s.rd_GRPEXE_segExecuted g c, s.due_segExecuted g c⟩

theorem Executed.trans {j k : Nat} (h : Executed g j s t) (e : Executed g k t u) : Executed g (j + k) s u where
  window := by rw [e.window, h.window, List.drop_drop]
  counted := by rw [e.counted, h.counted]; omega
  due := e.due.trans h.due

theorem State.executed_foldl (g : Nat) (l : List MotCmd) (s : State) :
    Executed g l.length s (l.foldl (fun s c => s.segExecuted g c) s) := by
  induction l generalizing s with
  | nil => exact ⟨rfl, (Nat.mod_eq_of_lt (s.rd_lt _)).symm, rfl⟩
  | cons c l ih =>
    rw [List.length_cons, Nat.add_comm]
    exact (s.segExecuted_executed g c).trans (ih _)

/-! ### A move on the path (R157) -/

/-- Group `g` has made the move `m` that brings its trace to `v`, and plans the moves `l`. -/
structure Moved (g : Nat) (m : Nat × List Int) (l : List (Nat × List Int)) (v : Trace) (s t : State) : Prop where
  executed : Executed g v.gone.length s t
  run : (t.grp g).run = v.run
  here : (t.grp g).here = v.here
  off : (t.grp g).off = m.2
  plan : (t.grp g).plan = l
  speed : (t.grp g).speed = wayOf v.legs

/-- The move `m` that brings the trace of a group to `v`, with the moves `l` planned after it. -/
def Group.moved (m : Nat × List Int) (l : List (Nat × List Int)) (v : Trace) (x : Group) : Group :=
  { x with run := v.run, spline := v.spline, here := v.here, off := m.2, plan := l, gain := wayOf v.legs - x.speed, speed := wayOf v.legs }

theorem Moved.of_samePaths {m : Nat × List Int} {l : List (Nat × List Int)} {v : Trace} (executed : Executed g v.gone.length s t)
    (same : SamePaths (t.onGrp g (Group.moved m l v)) u) (counter : u.rd (PRF_GRPEXE g) = t.rd (PRF_GRPEXE g)) : Moved g m l v s u := by
  have moved : u.grp g = (t.grp g).moved m l v := (same.grp g).trans (t.grp_onGrp_same g _)
  refine ⟨⟨?_, counter.trans executed.counted, same.due.trans executed.due⟩, ?_, ?_, ?_, ?_, ?_⟩
  · rw [moved]
    exact executed.window
  all_goals rw [moved]; rfl

theorem State.pathMove_moved {m : Nat × List Int} {l : List (Nat × List Int)} {v : Trace}
    (goes : (s.trace g).go (s.ngeo g) pathSegs m.1 = v) : Moved g m l v s (s.pathMove g m l) := by
  unfold State.pathMove
  dsimp only
  rw [goes]
  exact Moved.of_samePaths (s.executed_foldl g v.gone) (State.setVels_samePaths Prod.fst Prod.snd _ _)
    (State.rd_setVels Prod.fst Prod.snd _ _ _)

theorem Trace.length_gone_close (t : Trace) (r : SegRun) (c : MotCmd) : (t.close r c).gone.length ≤ t.gone.length + 1 := by
  unfold Trace.close
  dsimp only
  split
  · exact Nat.le_succ _
  · exact Nat.le_of_eq (List.length_append ..)

/-- A move passes at most as many segments as it is given. -/
theorem Trace.length_gone_go (ngeo : Nat) (k f : Nat) (t : Trace) : (t.go ngeo k f).gone.length ≤ t.gone.length + k := by
  induction k generalizing f t with
  | zero => exact Nat.le_refl _
  | succ k ih =>
    unfold Trace.go
    split
    · omega
    next r _ =>
      have passed (legs : List (Int × Int)) : (({ t with legs := legs } : Trace).close r (t.seg r)).gone.length ≤ t.gone.length + 1 :=
        Trace.length_gone_close _ r _
      dsimp only
      split
      · exact Nat.le_add_right _ _
      · split
        · exact (passed _).trans (by omega)
        · exact (ih _ _).trans ((Nat.add_le_add_right (passed _) k).trans (by omega))

/-! ### A path that stands still (R159, R160) -/

/-- A group whose path stands still. -/
def Group.still (x : Group) : Group := { x with gain := -x.speed, speed := 0, plan := [] }

theorem State.pathStill_samePaths (g : Nat) (s : State) : SamePaths (s.onGrp g Group.still) (s.pathStill g) :=
  State.setVels_samePaths id (fun _ => 0) _ _

theorem State.grp_pathStill (g : Nat) (s : State) : (s.pathStill g).grp g = (s.grp g).still :=
  ((s.pathStill_samePaths g).grp g).trans (s.grp_onGrp_same g _)

theorem State.due_pathStill (g : Nat) (s : State) : (s.pathStill g).prf.due = s.prf.due := (s.pathStill_samePaths g).due

theorem State.rd_pathStill (g : Nat) (s : State) (a : Nat) : (s.pathStill g).rd a = s.rd a := State.rd_setVels id (fun _ => 0) _ _ a

theorem State.get_pathStill (g : Nat) (s : State) (f : Fld) : (s.pathStill g).get f = s.get f := by
  rw [State.get, State.get, State.rd_pathStill]

theorem State.groupAxes_pathStill (g : Nat) (s : State) : (s.pathStill g).groupAxes g = s.groupAxes g :=
  State.groupAxes_of_rd (fun a _ => s.rd_pathStill g a) g

/-! ### A path that has run out (R159) -/

theorem State.prf_pathOut (g : Nat) (s : State) : (s.pathOut g).prf = s.prf :=
  (State.pathOut_keeps (Keeps.refl [.reg .prf, .reg .knl, .reg .que, .reg .err, .sets, .bulk, .log, .knl, .que] s) (by decide)).same
    .prf (by decide)

/-- The axes of a group that has run out execute nothing. -/
def State.idleAxes (s : State) (l : List Nat) : State := l.foldl (fun s n => s.put (PRF_MVST_MODE n) 0) s

theorem GroupAt.idleAxes {k v : Nat} (h : GroupAt k v s) (l : List Nat) : GroupAt k v (s.idleAxes l) :=
  GroupAt.foldl (fun _ n h => h.put (noGroup_PRF_MVST n) 0) l h

theorem GroupWord.rd_idleAxes (h : GroupWord a) (l : List Nat) (s : State) : (s.idleAxes l).rd a = s.rd a :=
  rd_foldl (fun s n => s.rd_put_ne (PRF_MVST_MODE n) 0 (h.ne_PRF_MVST n)) l s

theorem State.get_MODE_put (s : State) {n k : Nat} (h : s.get (PRF_MVST_MODE n) = 0) :
    (s.put (PRF_MVST_MODE k) 0).get (PRF_MVST_MODE n) = 0 := by
  by_cases same : PRF_MVST n = PRF_MVST k
  · rw [PRF_MVST_MODE, PRF_MVST_MODE, same]
    exact State.get_put_fits s (PRF_MVST_MODE k) 0 rfl
  · exact (State.get_put_ne s (PRF_MVST_MODE k) (PRF_MVST_MODE n) 0 same).trans h

theorem State.get_MODE_idleAxes {n : Nat} {l : List Nat} (h : s.get (PRF_MVST_MODE n) = 0 ∨ n ∈ l) :
    (s.idleAxes l).get (PRF_MVST_MODE n) = 0 := by
  induction l generalizing s with
  | nil => exact h.resolve_right List.not_mem_nil
  | cons k l ih =>
    refine ih (s := s.put (PRF_MVST_MODE k) 0) ?_
    obtain shown | first | later := h.imp_right List.mem_cons.mp
    · exact .inl (s.get_MODE_put shown)
    · refine .inl ?_
      rw [first, State.get_put_fits _ _ _ rfl]
      rfl
    · exact .inr later

theorem State.pathOut_eq (g : Nat) (s : State) : s.pathOut g =
    if (s.grp g).lastCorner = 0 then (s.idleAxes (s.groupAxes g)).put (PRF_GRPST_STATE g) 1
    else ((s.idleAxes (s.groupAxes g)).put (PRF_GRPST_STATE g) 4).pushEvent 0x12 g 0 (s.grp g).lastTag none := rfl

theorem State.get_STATE_pathOut (g : Nat) (s : State) :
    (s.pathOut g).get (PRF_GRPST_STATE g) = if (s.grp g).lastCorner = 0 then 1 else 4 := by
  rw [State.pathOut_eq]
  split
  · exact State.get_put_fits _ _ _ rfl
  · have starved : GroupAt g 4 ((s.idleAxes (s.groupAxes g)).put (PRF_GRPST_STATE g) 4) := State.get_put_fits _ _ _ rfl
    exact starved.pushEvent ..

theorem GroupWord.rd_pathOut (h : GroupWord a) (other : a ≠ PRF_GRPST g) (s : State) : (s.pathOut g).rd a = s.rd a := by
  have entered (v : Nat) : ((s.idleAxes (s.groupAxes g)).put (PRF_GRPST_STATE g) v).rd a = s.rd a :=
    (State.rd_put_ne _ (PRF_GRPST_STATE g) v other).trans (h.rd_idleAxes _ s)
  rw [State.pathOut_eq]
  split
  · exact entered 1
  · exact (h.rd_pushEvent _ ..).trans (entered 4)

theorem State.get_MODE_pathOut {n : Nat} (h : n ∈ s.groupAxes g) : (s.pathOut g).get (PRF_MVST_MODE n) = 0 := by
  have entered (v : Nat) : ((s.idleAxes (s.groupAxes g)).put (PRF_GRPST_STATE g) v).get (PRF_MVST_MODE n) = 0 :=
    (State.get_put_ne _ (PRF_GRPST_STATE g) (PRF_MVST_MODE n) v ((noGroup_PRF_MVST n).ne g).symm).trans (State.get_MODE_idleAxes (.inr h))
  rw [State.pathOut_eq]
  split
  · exact entered 1
  · rw [State.get, PRF_MVST_MODE, State.rd_PRF_MVST_pushEvent]
    exact entered 4

/-! ### How a period ends -/

/-- A path that goes on is left to the next period; one at rest has run out, enters HOLD where it is held, or waits. -/
def State.pathRest (g : Nat) (held : Prop) [Decidable held] (s : State) : State :=
  if (s.grp g).speed ≠ 0 then s
  else if (s.grp g).window = [] ∧ (s.grp g).run.isNone then s.pathOut g
  else if held then s.put (PRF_GRPST_STATE g) 3
  else s

theorem State.prf_pathRest (g : Nat) (held : Prop) [Decidable held] (s : State) : (s.pathRest g held).prf = s.prf := by
  unfold State.pathRest
  split_ifs
  · rfl
  · exact s.prf_pathOut g
  · rfl
  · rfl

theorem State.rd_GRPEXE_pathRest (g : Nat) (held : Prop) [Decidable held] (s : State) :
    (s.pathRest g held).rd (PRF_GRPEXE g) = s.rd (PRF_GRPEXE g) := by
  unfold State.pathRest
  split_ifs
  · rfl
  · exact (groupWord_GRPEXE g).rd_pathOut (PRF_GRPEXE_ne_PRF_GRPST g) s
  · exact State.rd_put_ne _ _ _ (PRF_GRPEXE_ne_PRF_GRPST g)
  · rfl

theorem State.pathRest_out {held : Prop} [Decidable held] (rest : (s.grp g).speed = 0) (gone : (s.grp g).window = [])
    (ended : (s.grp g).run = none) : s.pathRest g held = s.pathOut g := by
  unfold State.pathRest
  rw [if_neg (not_not.mpr rest), if_pos ⟨gone, by rw [ended]; rfl⟩]

theorem State.pathRest_front {held : Prop} [Decidable held] (rest : (s.grp g).speed = 0) (more : (s.grp g).window ≠ []) :
    s.pathRest g held = if held then s.put (PRF_GRPST_STATE g) 3 else s := by
  unfold State.pathRest
  rw [if_neg (not_not.mpr rest), if_neg fun h => more h.1]

/-! ### The period of a running group -/

section

variable (running : s.get (PRF_GRPST_STATE g) = 2)
include running

theorem State.pathStep_moving {m : Nat × List Int} {l : List (Nat × List Int)} (moving : (s.grp g).speed ≠ 0) (planned : (s.grp g).plan ≠ [])
    (begun : (s.grp g).run.isSome = true) (free : (s.grp g).ovr ≠ 0) (moves : s.pathMoves g (s.grp g).ovr = m :: l) :
    s.pathStep g = (((s.pathCeil g).drew 1).pathMove g m l).pathRest g False := by
  obtain ⟨r, begun⟩ := Option.isSome_iff_exists.mp begun
  unfold State.pathStep State.pathRest
  simp [running, moving, planned, begun, free, moves]

theorem State.pathStep_dwelling {c : MotCmd} {w : List MotCmd} (rest : (s.grp g).speed = 0) (ended : (s.grp g).run = none)
    (front : (s.grp g).window = c :: w) (dwell : c.op = 0x84) :
    s.pathStep g = ((s.pathStill g).dwell g c).pathRest g False := by
  have good : s.dropBad g pathSegs = s := by
    unfold pathSegs State.dropBad
    simp [front, dwell]
  unfold State.pathStep State.pathRest
  simp [running, rest, ended, front, dwell, good]

/-- The last move is made and none is planned. -/
theorem State.pathStep_ended (moving : (s.grp g).speed ≠ 0) (made : (s.grp g).plan = []) (gone : (s.grp g).window = [])
    (ended : (s.grp g).run = none) : s.pathStep g = (s.pathStill g).pathRest g ((s.grp g).ovr = 0) := by
  unfold State.pathStep State.pathRest
  simp [running, moving, made, gone, ended]

theorem State.pathStep_held {c : MotCmd} {w : List MotCmd} (front : (s.grp g).window = c :: w) (moves : c.op ≠ 0x84) (good : c.op ≠ 0xFF)
    (held : (s.grp g).ovr = 0) (rest : (s.grp g).speed = 0 ∨ (s.grp g).plan = []) :
    s.pathStep g = (s.pathStill g).pathRest g True := by
  have kept : s.dropBad g pathSegs = s := by
    unfold pathSegs State.dropBad
    simp [front, good]
  unfold State.pathStep State.pathRest
  by_cases still : (s.grp g).speed = 0
  · cases run : (s.grp g).run <;> simp [running, front, moves, held, still, kept, run]
  · have made := rest.resolve_left still
    cases run : (s.grp g).run <;> simp [running, front, moves, held, still, made, run]

end

/-! ### What a period brings about -/

/-- The periods of a DWELL have passed. -/
def State.dwellOver (g : Nat) (s : State) : State := (s.pathStill g).onGrp g fun x => { x with dwelt := 0 }

theorem State.grp_dwellOver (g : Nat) (s : State) : (s.dwellOver g).grp g = { (s.grp g).still with dwelt := 0 } := by
  rw [State.dwellOver, State.grp_onGrp_same, s.grp_pathStill]

theorem State.rd_dwellOver (g : Nat) (s : State) (a : Nat) : (s.dwellOver g).rd a = s.rd a := s.rd_pathStill g a

theorem Executed.congr {k : Nat} {s' t' : State} (h : Executed g k s t) (before : s.prf = s'.prf) (after : t'.prf = t.prf)
    (first : s.rd (PRF_GRPEXE g) = s'.rd (PRF_GRPEXE g)) (last : t'.rd (PRF_GRPEXE g) = t.rd (PRF_GRPEXE g)) : Executed g k s' t' where
  window := by rw [State.grp_of_prf after, h.window, State.grp_of_prf before]
  counted := by rw [last, h.counted, first]
  due := by rw [after, h.due, before]

theorem Moved.congr {m : Nat × List Int} {l : List (Nat × List Int)} {v : Trace} {s' t' : State} (h : Moved g m l v s t)
    (before : s.prf = s'.prf) (after : t'.prf = t.prf) (first : s.rd (PRF_GRPEXE g) = s'.rd (PRF_GRPEXE g))
    (last : t'.rd (PRF_GRPEXE g) = t.rd (PRF_GRPEXE g)) : Moved g m l v s' t' := by
  obtain ⟨executed, run, here, off, plan, speed⟩ := h
  have group := State.grp_of_prf after g
  exact ⟨executed.congr before after first last, by rw [group, run], by rw [group, here], by rw [group, off], by rw [group, plan],
    by rw [group, speed]⟩

section

variable (running : s.get (PRF_GRPST_STATE g) = 2)
include running

theorem State.pathStep_moved {m : Nat × List Int} {l : List (Nat × List Int)} {v : Trace} (moving : (s.grp g).speed ≠ 0)
    (planned : (s.grp g).plan ≠ []) (begun : (s.grp g).run.isSome = true) (free : (s.grp g).ovr ≠ 0)
    (moves : s.pathMoves g (s.grp g).ovr = m :: l) (goes : (s.trace g).go (s.ngeo g) pathSegs m.1 = v) : Moved g m l v s (s.pathStep g) := by
  have words : ∀ a, GroupWord a → ((s.pathCeil g).drew 1).rd a = s.rd a := fun a h => h.rd_pathCeil g s
  have geometry : ((s.pathCeil g).drew 1).ngeo g = s.ngeo g := by
    rw [State.ngeo, State.ngeo, State.get, State.get, PRF_GRPCFG_NGEO, words _ (groupWord_GRPCFG g)]
  have moved : Moved g m l v ((s.pathCeil g).drew 1) (((s.pathCeil g).drew 1).pathMove g m l) :=
    State.pathMove_moved (by rw [geometry, s.trace_pathCeil, goes])
  rw [State.pathStep_moving running moving planned begun free moves]
  exact moved.congr (s.prf_pathCeil g) (State.prf_pathRest g False _) (words _ (groupWord_GRPEXE g)) (State.rd_GRPEXE_pathRest g False _)

section

variable {c : MotCmd} {w : List MotCmd} (rest : (s.grp g).speed = 0) (ended : (s.grp g).run = none) (front : (s.grp g).window = c :: w)
  (dwell : c.op = 0x84)
include rest ended front dwell

/-- R168: the last period of a DWELL. -/
theorem State.pathStep_dwelt (passed : ((c.arg 0xD).getD 0).toNat ≤ (s.grp g).dwelt + 1) :
    Executed g 1 s (s.pathStep g) ∧ ((s.pathStep g).grp g).dwelt = 0 ∧
      (s.pathStep g).get (PRF_GRPST_STATE g) = if w ≠ [] then 2 else if c.mode % 4 = 0 then 1 else 4 := by
  have done : (s.pathStill g).dwell g c = (s.dwellOver g).segExecuted g c :=
    if_pos (by rw [s.grp_pathStill]; exact passed)
  rw [State.pathStep_dwelling running rest ended front dwell, done]
  obtain ⟨d, o, group⟩ := (s.dwellOver g).grp_segExecuted g c
  have counted := ((s.dwellOver g).segExecuted_executed g c).counted
  have due := ((s.dwellOver g).segExecuted_executed g c).due.trans (s.due_pathStill g)
  have still : GroupAt g 2 (s.pathStill g) := (s.get_pathStill g _).trans running
  have state : GroupAt g 2 ((s.dwellOver g).segExecuted g c) := (still.onGrp g _).segExecuted g c
  rw [s.grp_dwellOver] at group
  generalize (s.dwellOver g).segExecuted g c = t at *
  have window : (t.grp g).window = w := by rw [group]; exact congrArg (List.drop 1) front
  have speed : (t.grp g).speed = 0 := by rw [group]; rfl
  have run : (t.grp g).run = none := by rw [group]; exact ended
  have corner : (t.grp g).lastCorner = c.mode % 4 := by rw [group]; rfl
  have executed : Executed g 1 s t := ⟨by rw [window, front]; rfl, by rw [counted, s.rd_dwellOver], due⟩
  refine ⟨executed.congr rfl (t.prf_pathRest g False) rfl (t.rd_GRPEXE_pathRest g False), ?_, ?_⟩
  · rw [State.grp_of_prf (t.prf_pathRest g False), group]
    rfl
  · by_cases more : w = []
    · rw [State.pathRest_out speed (window.trans more) run, State.get_STATE_pathOut, corner, if_neg (not_not.mpr more)]
    · rw [State.pathRest_front speed (window.symm ▸ more), if_neg not_false, if_pos more]
      exact state

/-- R168: any other period of a DWELL. -/
theorem State.rd_GRPEXE_pathStep_dwell (waits : (s.grp g).dwelt + 1 < ((c.arg 0xD).getD 0).toNat) :
    (s.pathStep g).rd (PRF_GRPEXE g) = s.rd (PRF_GRPEXE g) := by
  have goesOn : (s.pathStill g).dwell g c = (s.pathStill g).onGrp g fun x => { x with dwelt := ((s.pathStill g).grp g).dwelt + 1 } :=
    if_neg (by rw [s.grp_pathStill]; exact Nat.not_le_of_lt waits)
  rw [State.pathStep_dwelling running rest ended front dwell, State.rd_GRPEXE_pathRest, goesOn, State.rd_onGrp, s.rd_pathStill]

end

/-- R159: what a path has run out of shows. -/
theorem State.pathStep_out (moving : (s.grp g).speed ≠ 0) (made : (s.grp g).plan = []) (gone : (s.grp g).window = [])
    (ended : (s.grp g).run = none) :
    (s.pathStep g).get (PRF_GRPST_STATE g) = (if (s.grp g).lastCorner = 0 then 1 else 4) ∧ (s.pathStep g).grp g = (s.grp g).still ∧
      (s.pathStep g).rd (PRF_GRPEXE g) = s.rd (PRF_GRPEXE g) ∧ (s.pathStep g).prf.due = s.prf.due ∧
      ∀ n ∈ s.groupAxes g, (s.pathStep g).get (PRF_MVST_MODE n) = 0 := by
  have group := s.grp_pathStill g
  have out : s.pathStep g = (s.pathStill g).pathOut g :=
    (State.pathStep_ended running moving made gone ended).trans
      (State.pathRest_out (by rw [group]; rfl) (by rw [group]; exact gone) (by rw [group]; exact ended))
  rw [out]
  refine ⟨?_, ?_, ?_, ?_, fun n member => State.get_MODE_pathOut ?_⟩
  · rw [State.get_STATE_pathOut, group]
    rfl
  · rw [State.grp_of_prf (State.prf_pathOut ..), group]
  · rw [(groupWord_GRPEXE g).rd_pathOut (PRF_GRPEXE_ne_PRF_GRPST g), s.rd_pathStill]
  · rw [State.prf_pathOut, s.due_pathStill]
  · rwa [s.groupAxes_pathStill]

/-- R160: what a path brought to rest by its override shows. -/
theorem State.pathStep_hold {c : MotCmd} {w : List MotCmd} (front : (s.grp g).window = c :: w) (moves : c.op ≠ 0x84) (good : c.op ≠ 0xFF)
    (held : (s.grp g).ovr = 0) (rest : (s.grp g).speed = 0 ∨ (s.grp g).plan = []) :
    (s.pathStep g).get (PRF_GRPST_STATE g) = 3 ∧ (s.pathStep g).grp g = (s.grp g).still ∧
      (s.pathStep g).rd (PRF_GRPEXE g) = s.rd (PRF_GRPEXE g) ∧ (s.pathStep g).prf.due = s.prf.due := by
  have group := s.grp_pathStill g
  have more : ((s.pathStill g).grp g).window ≠ [] := by
    rw [group]
    exact fun none => List.cons_ne_nil c w (front.symm.trans none)
  have hold : s.pathStep g = (s.pathStill g).put (PRF_GRPST_STATE g) 3 :=
    (State.pathStep_held running front moves good held rest).trans
      ((State.pathRest_front (by rw [group]; rfl) more).trans (if_pos trivial))
  rw [hold]
  exact ⟨State.get_put_fits _ _ _ rfl, group, (State.rd_put_ne _ _ _ (PRF_GRPEXE_ne_PRF_GRPST g)).trans (s.rd_pathStill g _), s.due_pathStill g⟩

end

/-! ### When a period is computed (R26) -/

/-- Nothing is left to be computed for the next period. -/
def State.computed (s : State) : State := s.onPrf fun p => { p with due := [] }

theorem State.advance_path (k : Nat) (alone : s.prf.due = [512 + g]) : s.advance (k + 1) (512 + g) = s.computed.pathStep g := by
  have first (s : State) : s.before (512 + g) = [] := if_pos (by omega)
  have last : (s.onPrf fun p => { p with due := p.due.filter (· != 512 + g) }) = s.computed := by
    have empty : s.prf.due.filter (· != 512 + g) = [] := by simp [alone]
    simp only [State.computed, State.onPrf, empty]
  unfold State.advance
  rw [last]
  simp [alone, first]

theorem State.whenAdvanced_path {p : State → State → Bool} (alone : s.prf.due = [512 + g]) :
    s.whenAdvanced (512 + g) p = if p s (s.computed.pathStep g) then s.computed.pathStep g else s := by
  unfold State.whenAdvanced
  rw [chainDepth, State.advance_path 7 alone]

/-- An entry that is not to be computed changes nothing. -/
theorem State.whenAdvanced_idle {i : Nat} (p : State → State → Bool) (h : i ∉ s.prf.due) : s.whenAdvanced i p = s := by
  have rests : s.advance chainDepth i = s := if_neg (by simpa using h)
  unfold State.whenAdvanced
  rw [rests]
  exact ite_self s

theorem State.slotAxis_mem_groupAxes {i : Nat} (h : i < s.nax g) : s.slotAxis g i ∈ s.groupAxes g :=
  List.mem_map_of_mem (List.mem_range.mpr h)

theorem State.rd_ne_of_counted {a k : Nat} (counted : t.rd a = (s.rd a + k) % 2 ^ 32) (some : 0 < k) (few : k < 2 ^ 32) :
    s.rd a ≠ t.rd a := by
  have small := s.rd_lt a
  omega

/-! ### The obligation -/

section

variable {dt : Nat} {g : Fin 16} (alone : s.prf.due = [512 + g.val])
include alone

theorem exec_segDone_path : exec (.segDone dt g) s = .next
    (if s.rd (PRF_GRPEXE g) = ((s.elapse dt).computed.pathStep g).rd (PRF_GRPEXE g) then s.elapse dt
      else (s.elapse dt).computed.pathStep g) := by
  refine congrArg Host.Outcome.next ((State.whenAdvanced_path (s := s.elapse dt) alone).trans ?_)
  by_cases same : s.rd (PRF_GRPEXE g) = ((s.elapse dt).computed.pathStep g).rd (PRF_GRPEXE g) <;> simp [same]

theorem exec_starved_out (running : s.get (PRF_GRPST_STATE g) = 2) (moving : (s.grp g).speed ≠ 0) (made : (s.grp g).plan = [])
    (gone : (s.grp g).window = []) (ended : (s.grp g).run = none) :
    ∃ u, exec (.starved dt g) s = .next u ∧ u.get (PRF_GRPST_STATE g) = (if (s.grp g).lastCorner = 0 then 1 else 4) ∧
      (u.grp g).speed = 0 ∧ (u.grp g).window = [] ∧ u.rd (PRF_GRPEXE g) = s.rd (PRF_GRPEXE g) ∧ u.prf.due = [] ∧
      ∀ i : Fin 8, i.val < s.nax g → u.get (PRF_MVST_MODE (s.slotAxis g i)) = 0 := by
  obtain ⟨state, group, counted, due, axes⟩ := State.pathStep_out (s := (s.elapse dt).computed) running moving made gone ended
  have shown : ((s.elapse dt).computed.pathStep g).get (PRF_GRPST_STATE g) = if (s.grp g).lastCorner = 0 then 1 else 4 := state
  have run : exec (.starved dt g) s = .next ((s.elapse dt).computed.pathStep g) := by
    refine congrArg Host.Outcome.next ((State.whenAdvanced_path (s := s.elapse dt) alone).trans (if_pos ?_))
    rw [shown]
    by_cases corner : (s.grp g).lastCorner = 0 <;> simp [running, corner]
  refine ⟨_, run, shown, ?_, ?_, counted, due, fun i named => axes _ (State.slotAxis_mem_groupAxes named)⟩
  · rw [group]; rfl
  · rw [group]; exact gone

theorem exec_pathHold_path (running : s.get (PRF_GRPST_STATE g) = 2)
    (held : ((s.elapse dt).computed.pathStep g).get (PRF_GRPST_STATE g) = 3) :
    exec (.pathHold dt g) s = .next ((s.elapse dt).computed.pathStep g) := by
  refine congrArg Host.Outcome.next ((State.whenAdvanced_path (s := s.elapse dt) alone).trans (if_pos ?_))
  simp [running, held]

end

/-- Settles O25: `pathStep_moved` for a path that goes on, `pathStep_dwelt` for a DWELL, `pathStep_out` for a path that has run out and
`pathStep_hold` for one that its override holds. -/
theorem pathPeriods : Obligations.PathPeriods := by
  unfold Obligations.PathPeriods
  refine ⟨?moves, ?dwelt, ?dwells, ?stopped, ?starved, ?hold, ?segIdle, ?starvedIdle, ?holdIdle⟩
  case moves =>
    intro dt g m l v s alone running moving planned begun free moves goes
    have moved : Moved g m l v (s.elapse dt).computed ((s.elapse dt).computed.pathStep g) :=
      State.pathStep_moved (s := (s.elapse dt).computed) running moving planned begun free moves goes
    obtain ⟨⟨window, counted, due⟩, run, here, off, plan, speed⟩ := moved
    have few : v.gone.length ≤ pathSegs := by
      rw [← goes]
      exact (Trace.length_gone_go _ _ _ _).trans_eq (Nat.zero_add _)
    refine ⟨_, exec_segDone_path alone, ?_⟩
    by_cases none : v.gone = []
    · rw [if_pos none]
      refine if_pos (counted.trans ?_).symm
      rw [none]
      exact Nat.mod_eq_of_lt (s.rd_lt _)
    · have some : 0 < v.gone.length := List.length_pos_iff.mpr none
      have other : s.rd (PRF_GRPEXE g) ≠ ((s.elapse dt).computed.pathStep g).rd (PRF_GRPEXE g) :=
        State.rd_ne_of_counted counted some (few.trans_lt (by decide))
      rw [if_neg none, if_neg other]
      exact ⟨counted, window, run, here, off, plan, speed, due⟩
  case dwelt =>
    intro dt g c w s alone running rest ended front dwell passed
    obtain ⟨⟨window, counted, due⟩, dwelt, state⟩ :=
      State.pathStep_dwelt (s := (s.elapse dt).computed) running rest ended front dwell passed
    have other : s.rd (PRF_GRPEXE g) ≠ ((s.elapse dt).computed.pathStep g).rd (PRF_GRPEXE g) :=
      State.rd_ne_of_counted counted (by omega) (by omega)
    refine ⟨_, (exec_segDone_path alone).trans (congrArg _ (if_neg other)), counted, ?_, dwelt, due, state⟩
    exact window.trans (congrArg (List.drop 1) front)
  case dwells =>
    intro dt g c w s alone running rest ended front dwell waits
    have same := State.rd_GRPEXE_pathStep_dwell (s := (s.elapse dt).computed) running rest ended front dwell waits
    exact ⟨_, exec_segDone_path alone, if_pos same.symm⟩
  case stopped =>
    intro dt g s alone running moving made gone ended corner
    have out := exec_starved_out (dt := dt) alone running moving made gone ended
    rwa [if_pos corner] at out
  case starved =>
    intro dt g s alone running moving made gone ended corner
    have out := exec_starved_out (dt := dt) alone running moving made gone ended
    rwa [if_neg corner] at out
  case hold =>
    intro dt g c w s alone running front moves good held rest
    obtain ⟨state, group, counted, due⟩ := State.pathStep_hold (s := (s.elapse dt).computed) running front moves good held rest
    refine ⟨_, exec_pathHold_path alone running state, state, ?_, ?_, counted, due⟩
    · rw [group]; rfl
    · rw [group]; rfl
  case segIdle => exact fun dt g s idle => ⟨_, congrArg Host.Outcome.next (State.whenAdvanced_idle (s := s.elapse dt) _ idle), rfl⟩
  case starvedIdle => exact fun dt g s idle => ⟨_, congrArg Host.Outcome.next (State.whenAdvanced_idle (s := s.elapse dt) _ idle), rfl⟩
  case holdIdle => exact fun dt g s idle => ⟨_, congrArg Host.Outcome.next (State.whenAdvanced_idle (s := s.elapse dt) _ idle), rfl⟩

end Sys2Proof.Machine
end

section
/-! PROOFS. A slot instance of a context in which an instance is still in progress whose slot the schedule gives to another context (R183,
R207). -/

namespace Sys2Proof.Machine

/-- Slot 7 is due for context 3, where an instance of slot 8 is in progress. The schedule gives slot 8 to context 0, where an instance of slot
9 is in progress. -/
def slotRegiven : State :=
  { clk := { running := true }
    regs := [(ENG_SLPER 7, 100), (ENG_SLLEN 7, 9), (ENG_SLCFG 7, 0x80000031), (ENG_SLLEN 8, 9), (ENG_SLCFG 8, 0x80000001),
      (ENG_SLLEN 9, 9), (ENG_SLCFG 9, 0x80000002), (ENG_CST 3, 0x10000)]
    eng := { ctx := [(0, { slot := some (9, 0), ended := false }), (3, { slot := some (8, 0), ended := false })] } }

/-- Before the instance of slot 7 begins, the one in progress in context 3 is run to its end, which ends the one of context 0. -/
theorem slot_slotInstance_slotRegiven : (((slotRegiven.elapse 0).slotInstance 7 false).cx 0).slot = none := by decide

/-- Refutes O28: the second clause has a slot instance change no context but its own. It first ends the instance in progress in its context,
and that ends for the context to which the schedule gives its slot now: an instance of context 0 in progress is gone without its end.
While one schedule is in force a slot keeps its context, but the clause is about every state. -/
theorem not_slotInstances : ¬ Obligations.SlotInstances := by
  rintro ⟨-, runs, -⟩
  obtain ⟨u, run, others, -⟩ := runs 0 7 slotRegiven (by decide) (by decide) (by decide) (by decide)
  obtain rfl := Host.Outcome.next.inj ((show exec (.slotInstance 0 7 false) slotRegiven = .next ((slotRegiven.elapse 0).slotInstance 7 false)
    from rfl).symm.trans run)
  have kept : ((slotRegiven.elapse 0).slotInstance 7 false).cx 0 = slotRegiven.cx 0 := others 0 (by decide)
  have stays : (((slotRegiven.elapse 0).slotInstance 7 false).cx 0).slot = some (9, 0) := kept ▸ rfl
  exact absurd (slot_slotInstance_slotRegiven.symm.trans stays) (by decide)

end Sys2Proof.Machine
end

section
/-! PROOFS. The rules of an engine's context (R205 to R217): what each operation of the datapath writes, in the words of the statements. -/

namespace Sys2Proof.Machine

/-! ### The contexts of a state -/

theorem tabSet_tabSet {α : Type} (t : Tab α) (i : Nat) (v w : α) : tabSet (tabSet t i v) i w = tabSet t i w := by
  induction t with
  | nil => simp [tabSet]
  | cons e t ih =>
    obtain ⟨k, u⟩ := e
    by_cases same : k = i
    · simp [tabSet, same]
    · by_cases before : i < k <;> simp [tabSet, same, before, ih]

section
variable {s t : State} {x y : Nat} {f g : Ctx → Ctx}

@[simp] theorem State.cx_onCx_same : (s.onCx x f).cx x = f (s.cx x) := tabGet_tabSet_same _ _ _ _

theorem State.cx_onCx_ne (h : y ≠ x) : (s.onCx x f).cx y = s.cx y := tabGet_tabSet_ne _ _ _ h

theorem State.cx_of_eng (h : t.eng = s.eng) : t.cx y = s.cx y := by rw [State.cx, State.cx, h]

/-- A change of a context is what it makes of the context as it stands. -/
theorem State.onCx_congr (h : f (s.cx x) = g (s.cx x)) : s.onCx x f = s.onCx x g :=
  congrArg (fun c => s.onEng fun e => { e with ctx := tabSet e.ctx x c }) h

theorem State.onCx_onCx : (s.onCx x f).onCx x g = s.onCx x (g ∘ f) := by
  have table : tabMod {} (tabMod {} s.eng.ctx x f) x g = tabMod {} s.eng.ctx x (g ∘ f) := by
    simp only [tabMod, tabGet_tabSet_same, tabSet_tabSet, Function.comp_apply]
  exact congrArg (fun t => s.onEng fun e => { e with ctx := t }) table

/-- An instruction that changes its context alone, by a change `g` that gives the same as the model's. -/
theorem State.engOp_eq {cyc : Nat} (h : f (s.cx x) = g (s.cx x)) : s.engOp x cyc f = s.onCx x fun c => (g c).advance cyc :=
  State.onCx_congr (congrArg (Ctx.advance cyc) h)

/-- As `State.engOp_eq`, for the outcome of a command. -/
theorem exec_engOp {i : Instr} {cyc : Nat} (run : exec i s = .next (s.engOp x cyc f)) (h : f (s.cx x) = g (s.cx x)) :
    ∃ u, exec i s = .next u ∧ u = s.onCx x fun c => (g c).advance cyc := ⟨_, run, State.engOp_eq h⟩

/-- R215: a store latches WPROT when a word of its `n` from `i` is protected, and changes its context by `g`. -/
theorem exec_engStore {c : Instr} {cyc i n : Nat} {r : Ctx → Bool × Ctx} (run : exec c s = .next (s.engStore x cyc r))
    (flag : (r (s.cx x)).1 = true ↔ ∃ k < n, (i + k) % 2048 < 0x80) (ctx : (r (s.cx x)).2 = g (s.cx x)) :
    ∃ u, exec c s = .next u ∧ u = (protects x i n s).onCx x fun c => (g c).advance cyc := by
  refine ⟨_, run, ?_⟩
  rw [State.engStore, ctx]
  by_cases low : ∃ k < n, (i + k) % 2048 < 0x80
  · rw [protects, if_pos low, flag.mpr low, if_pos rfl]
    exact State.onCx_congr rfl
  · rw [protects, if_neg low, if_neg fun h => low (flag.mp h)]
    exact State.onCx_congr rfl

end

/-! ### Registers and flags (R209 to R211) -/

section
variable (c : Ctx)

theorem Ctx.znA_eq (v : BitVec 40) : c.znA v = flagged v c := rfl
theorem Ctx.znD_eq (v : BitVec 16) : c.znD v = flagged v c := rfl

theorem Ctx.setSat_eq (i : Nat) (b : Bool) : c.setSat i b = saturated i b c := by cases b <;> rfl

theorem wraps40_iff (v : Int) : wraps40 v = true ↔ v < -2 ^ 39 ∨ 2 ^ 39 ≤ v := by simp [wraps40]

theorem Ctx.resultZN_eq (i : Nat) (v : Int) : c.resultZN i v = accTakes i v c := by
  by_cases out : v < -2 ^ 39 ∨ 2 ^ 39 ≤ v
  · simp only [Ctx.resultZN, Ctx.result, Ctx.setAv, (wraps40_iff v).mpr out, accTakes, if_pos out]; rfl
  · simp only [Ctx.resultZN, Ctx.result, Ctx.setAv, mt (wraps40_iff v).mp out, accTakes, if_neg out]; rfl

/-- The flags Z and N of a first result give way to those of the second. -/
theorem Ctx.resultZN_resultZN (i j : Nat) (v w : Int) :
    (c.resultZN i v).resultZN j w = ((c.result i v).result j w).znA (BitVec.ofInt 40 w) := by
  simp only [Ctx.resultZN, Ctx.result, Ctx.setAv]
  cases wraps40 v <;> cases wraps40 w <;> rfl

/-- R214: a pointer after its access. -/
theorem Ctx.modify_eq (p : Nat) (md : Option (Fin 8)) : c.modify p md = stepped p md c := by
  cases md with
  | none => rfl
  | some m =>
    have pointer : modified (c.pR p) (c.mR m) = BitVec.ofInt 11 (if (c.mR m).toNat % 2 ^ 11 = 0
        then ((c.pR p).toNat : Int) + modStep (c.mR m)
        else (modBase (c.mR m) : Int) + ((((c.pR p).toNat + 2048 - modBase (c.mR m)) % 2048 : Nat) + modStep (c.mR m)) %
          (((c.mR m).toNat % 2 ^ 11 : Nat) : Int)) := by
      unfold modified
      exact (apply_ite (BitVec.ofInt 11) _ _ _).symm
    exact congrArg (fun v => c.setP p v) pointer

/-! ### Words of data memory (R215, R216) -/

theorem Ctx.storeWord_snd (i : Nat) (v : BitVec 16) : (c.storeWord i v).2 = stores i v c := by
  unfold Ctx.storeWord stores
  split <;> rfl

theorem Ctx.storeWord_fst (i : Nat) (v : BitVec 16) : (c.storeWord i v).1 = true ↔ i % 2048 < 0x80 := by
  unfold Ctx.storeWord
  split <;> simp [*]

theorem Ctx.storeWord_protects (i : Nat) (v : BitVec 16) : (c.storeWord i v).1 = true ↔ ∃ k < 1, (i + k) % 2048 < 0x80 := by
  simp [c.storeWord_fst]

theorem Ctx.storeWords_protects (n : Nat) :
    ∀ (c : Ctx) (i v : Nat), (c.storeWords i v n).1 = true ↔ ∃ k < n, (i + k) % 2048 < 0x80 := by
  induction n with
  | zero => simp [Ctx.storeWords]
  | succ n ih =>
    intro c i v
    simp only [Ctx.storeWords, Bool.or_eq_true, Ctx.storeWord_fst, ih, Nat.exists_lt_succ_left, Nat.add_zero]
    simp only [Nat.add_assoc, Nat.add_comm 1]

theorem Ctx.words_two (i : Nat) : BitVec.ofNat 32 (c.words i 2) = c.word (i + 1) ++ c.word i := by
  refine BitVec.eq_of_toNat_eq ?_
  rw [BitVec.toNat_append, ← Nat.shiftLeft_add_eq_or_of_lt (c.word i).isLt, Nat.shiftLeft_eq, BitVec.toNat_ofNat]
  have := (c.word i).isLt
  have := (c.word (i + 1)).isLt
  simp only [Ctx.words]
  omega

theorem Ctx.words_three (i : Nat) : BitVec.ofNat 48 (c.words i 3) = c.word (i + 2) ++ c.word (i + 1) ++ c.word i := by
  refine BitVec.eq_of_toNat_eq ?_
  rw [BitVec.toNat_append, BitVec.toNat_append, ← Nat.shiftLeft_add_eq_or_of_lt (c.word i).isLt,
    ← Nat.shiftLeft_add_eq_or_of_lt (c.word (i + 1)).isLt, Nat.shiftLeft_eq, Nat.shiftLeft_eq, BitVec.toNat_ofNat]
  have := (c.word i).isLt
  have := (c.word (i + 1)).isLt
  have := (c.word (i + 2)).isLt
  simp only [Ctx.words, Nat.add_assoc, Nat.reduceAdd]
  omega

/-- The two words of a 32-bit value, lowest first. -/
theorem Ctx.storeWords_two (i : Nat) (v : Int) : (c.storeWords i (unsigned 32 v) 2).2 =
    stores (i + 1) (BitVec.ofInt 16 (v / 65536)) (stores i (BitVec.ofInt 16 v) c) := by
  have low : BitVec.ofNat 16 (unsigned 32 v) = BitVec.ofInt 16 v := by
    refine BitVec.eq_of_toNat_eq ?_
    rw [BitVec.toNat_ofNat, BitVec.toNat_ofInt, unsigned]
    omega
  have high : BitVec.ofNat 16 (unsigned 32 v / 65536) = BitVec.ofInt 16 (v / 65536) := by
    refine BitVec.eq_of_toNat_eq ?_
    rw [BitVec.toNat_ofNat, BitVec.toNat_ofInt, unsigned]
    omega
  simp only [Ctx.storeWords, Ctx.storeWord_snd, low, high]

/-- The three words of a long register, lowest first. -/
theorem Ctx.storeWords_three (i : Nat) (v : BitVec 48) : (c.storeWords i v.toNat 3).2 =
    stores (i + 2) (v.extractLsb' 32 16) (stores (i + 1) (v.extractLsb' 16 16) (stores i (v.extractLsb' 0 16) c)) := by
  simp only [Ctx.storeWords, Ctx.storeWord_snd, BitVec.extractLsb', Nat.shiftRight_eq_div_pow, Nat.div_div_eq_div_mul,
    pow_zero, Nat.div_one, Nat.add_assoc, Nat.reduceAdd, Nat.reduceMul, Nat.reducePow]

end

/-! ### Limits, shifts and conversions (R217, R229) -/

theorem satSigned_eq (w : Nat) (v : Int) : satSigned w v = max (-2 ^ (w - 1)) (min (2 ^ (w - 1) - 1) v) := by
  have : (0 : Int) < 2 ^ (w - 1) := by positivity
  unfold satSigned clampInt
  push_cast
  split_ifs <;> omega

theorem bne_eq_decide_ne {α : Type} [DecidableEq α] (v w : α) : (v != w) = decide (v ≠ w) := Bool.eq_iff_iff.mpr (by simp)

theorem shiftInt_eq (v k : Int) : shiftInt v k = if 0 ≤ k then v * 2 ^ k.toNat else v / 2 ^ (-k).toNat := by
  simp [shiftInt, asr]

theorem signedTerm_eq (sg : Bool) (t : Int) : signedTerm sg t = (if sg then -1 else 1) * t := by cases sg <;> simp [signedTerm]

/-- The statements' scale is the model's. -/
theorem State.scale_eq (s : State) (x : Nat) (sc : Option (BitVec 4)) : s.scale x sc = scaleOf s x sc := by cases sc <;> rfl

theorem neg_eight_le_scaleOf (s : State) (x : Nat) (sc : Option (BitVec 4)) : -8 ≤ scaleOf s x sc := by
  cases sc with
  | some v => exact BitVec.le_toInt v
  | none => simp only [scaleOf, signed]; split <;> omega

/-- R217: scaling by 2^S × 2^8 and then by 2^-24 is exact up to the one division. -/
theorem asr_shiftInt (v : BitVec 40) {k : Int} (lo : -8 ≤ k) : asr (shiftInt (v.toInt * 256) k) 24 = extOf v k := by
  have shifted : shiftInt (v.toInt * 256) k = v.toInt * 2 ^ (k + 8).toNat := by
    rw [shiftInt_eq]
    split
    next up =>
      rw [show (k + 8).toNat = 8 + k.toNat by omega, pow_add, ← mul_assoc]; rfl
    next down =>
      obtain ⟨j, hj⟩ : ∃ j, j = (-k).toNat := ⟨_, rfl⟩
      have power : (256 : Int) = 2 ^ (k + 8).toNat * 2 ^ j := by rw [← pow_add, show (k + 8).toNat + j = 8 by omega]; rfl
      rw [← hj, power, ← mul_assoc, Int.mul_ediv_cancel _ (by positivity)]
  rw [asr, shifted, extOf]
  rfl

theorem convert_eq (v : BitVec 40) {k : Int} (lo : -8 ≤ k) : convert v k = (extWord v k, extSat v k) := by
  simp only [convert, asr_shiftInt v lo, extWord, extSat]
  split_ifs with above below
  · rw [show max (-0x8000) (min 0x7FFF (extOf v k)) = 0x7FFF by omega, decide_eq_true (.inr above)]; rfl
  · rw [show max (-0x8000) (min 0x7FFF (extOf v k)) = -0x8000 by omega, decide_eq_true (.inl below)]; rfl
  · rw [show max (-0x8000) (min 0x7FFF (extOf v k)) = extOf v k by omega, decide_eq_false (by omega)]

theorem State.convert_scale (s : State) (x : Nat) (v : BitVec 40) (sc : Option (BitVec 4)) :
    convert v (s.scale x sc) = (extWord v (scaleOf s x sc), extSat v (scaleOf s x sc)) := by
  rw [s.scale_eq, convert_eq v (neg_eight_le_scaleOf s x sc)]

end Sys2Proof.Machine
end

section
/-! PROOFS. The statements of the order of instructions, of the moves and of the selects of the engines (R205 to R207, R213 to R217, R221,
R222). -/

namespace Sys2Proof.Machine

/-! ### The order of instructions (R207, R221) -/

theorem nextPc_nil (pc : Nat) : nextPc pc [] = (pc + 1, []) := rfl

theorem nextPc_before {pc first last left : Nat} {l : List (Nat × Nat × Nat)} (h : last ≠ pc) :
    nextPc pc ((first, last, left) :: l) = (pc + 1, (first, last, left) :: l) := if_neg h

theorem nextPc_again {pc first last left : Nat} {l : List (Nat × Nat × Nat)} (h : last = pc) (runs : 1 < left) :
    nextPc pc ((first, last, left) :: l) = (first, (first, last, left - 1) :: l) := (if_pos h).trans (if_pos runs)

theorem nextPc_done {pc first last left : Nat} {l : List (Nat × Nat × Nat)} (h : last = pc) (runs : left ≤ 1) :
    nextPc pc ((first, last, left) :: l) = nextPc pc l := (if_pos h).trans (if_neg (Nat.not_lt.mpr runs))

/-- An instruction goes on to the place, and with the repeats, that `nextPc` gives. -/
theorem Ctx.advance_eq {c : Ctx} {cycles pc : Nat} {l : List (Nat × Nat × Nat)} (h : nextPc c.pc c.loops = (pc, l)) :
    c.advance cycles = { c with pc := pc, loops := l, cyc := c.cyc + cycles } := by
  simp only [Ctx.advance, h]

/-- NOP goes on to the next instruction. -/
theorem exec_engNop {x : Fin 32} {s : State} {pc : Nat} {l : List (Nat × Nat × Nat)}
    (h : nextPc (s.cx x).pc (s.cx x).loops = (pc, l)) :
    exec (.engNop x) s = .next (s.onCx x fun c => { c with pc := pc, loops := l, cyc := c.cyc + 1 }) :=
  congrArg Host.Outcome.next (State.onCx_congr (Ctx.advance_eq h))

/-- Settles O31: `nextPc` gives the place after each instruction, by the innermost repeat. -/
theorem engineOrder : Obligations.EngineOrder := by
  unfold Obligations.EngineOrder
  refine ⟨?alone, ?inside, ?again, ?last, ?ends, ?rep, ?repIn, ?clrf⟩
  case alone =>
    intro x s loops
    exact ⟨_, exec_engNop (l := (s.cx x).loops) (by rw [loops, nextPc_nil]), State.onCx_congr rfl⟩
  case inside =>
    intro x first last left l s loops before
    exact ⟨_, exec_engNop (l := (s.cx x).loops) (by rw [loops, nextPc_before before]), State.onCx_congr rfl⟩
  case again =>
    intro x first last left l s loops atLast runs
    exact ⟨_, exec_engNop (by rw [loops, nextPc_again atLast runs]), rfl⟩
  case last =>
    intro x first last left s loops atLast runs
    exact ⟨_, exec_engNop (pc := (s.cx x).pc + 1) (l := []) (by rw [loops, nextPc_done atLast runs, nextPc_nil]), rfl⟩
  case ends => exact fun x s => ⟨_, rfl, rfl⟩
  case rep =>
    intro x count len s loops nonzero
    have before : (s.cx x).pc + len ≠ (s.cx x).pc := by omega
    have goesOn : nextPc (s.cx x).pc (((s.cx x).pc + 1, (s.cx x).pc + len, count.val) :: (s.cx x).loops) =
        ((s.cx x).pc + 1, [((s.cx x).pc + 1, (s.cx x).pc + len, count.val)]) := by rw [loops, nextPc_before before]
    exact ⟨_, rfl, State.onCx_congr (Ctx.advance_eq goesOn)⟩
  case repIn => exact fun x count len s => ⟨_, rfl, rfl⟩
  case clrf => exact fun x mask s => ⟨_, rfl, rfl⟩

/-! ### Loads, stores and moves (R213 to R217) -/

/-- Settles O32: each row by the rule of its operand, and its pointer by `Ctx.modify_eq`. -/
theorem engineMoves : Obligations.EngineMoves := by
  unfold Obligations.EngineMoves
  refine ⟨?ldi, ?ldp, ?ld, ?ldm, ?ldw, ?lld, ?st, ?stw, ?lst, ?sta, ?mov, ?movd, ?lda⟩
  case ldi => exact fun x d imm s => exec_engOp rfl rfl
  case ldp => exact fun x p imm s => exec_engOp rfl rfl
  case ld => exact fun x d p md s => exec_engOp rfl (Ctx.modify_eq _ p md)
  case ldm =>
    intro x m p md s
    refine exec_engOp rfl ((Ctx.modify_eq _ p md).trans ?_)
    rw [Ctx.words_two]; rfl
  case ldw =>
    intro x a p md s
    refine exec_engOp rfl ((Ctx.modify_eq _ p md).trans ?_)
    rw [Ctx.words_two]; rfl
  case lld =>
    intro x l p md s
    refine exec_engOp rfl ((Ctx.modify_eq _ p md).trans ?_)
    rw [Ctx.words_three]; rfl
  case st =>
    intro x d p md s
    refine exec_engStore rfl (Ctx.storeWord_protects _ _ _) ((Ctx.modify_eq _ p md).trans ?_)
    rw [Ctx.storeWord_snd]; rfl
  case stw =>
    intro x a p md s
    refine exec_engStore rfl (Ctx.storeWords_protects 2 _ _ _) ((Ctx.modify_eq _ p md).trans ?_)
    rw [Ctx.setSat_eq, Ctx.storeWords_two, satSigned_eq, bne_eq_decide_ne]; rfl
  case lst =>
    intro x l p md s
    refine exec_engStore rfl (Ctx.storeWords_protects 3 _ _ _) ((Ctx.modify_eq _ p md).trans ?_)
    rw [Ctx.storeWords_three]; rfl
  case sta =>
    intro x a p md sc s
    refine exec_engStore rfl (Ctx.storeWord_protects _ _ _) ((Ctx.modify_eq _ p md).trans ?_)
    rw [Ctx.setSat_eq, Ctx.storeWord_snd, State.convert_scale]; rfl
  case mov => exact fun x d y s => exec_engOp rfl rfl
  case movd =>
    intro x d a sc s
    refine exec_engOp rfl ((Ctx.znD_eq _ _).trans ?_)
    rw [Ctx.setSat_eq, State.convert_scale]; rfl
  case lda => exact fun x a y s => exec_engOp rfl rfl

/-! ### Selects (R222) -/

/-- Settles O34: the condition chooses the source before the register takes it. -/
theorem engineSelects : Obligations.EngineSelects := by
  unfold Obligations.EngineSelects
  refine ⟨?seld, ?sela, ?sell, ?seldElse, ?selaElse, ?sellElse⟩
  case seld => exact fun x d cc y z s holds => exec_engOp rfl (congrArg (dTakes d · _) (if_pos holds))
  case sela => exact fun x a cc b e s holds => exec_engOp rfl (congrArg (aTakes a · _) (if_pos holds))
  case sell => exact fun x l cc m n s holds => exec_engOp rfl (congrArg (lTakes l · _) (if_pos holds))
  case seldElse => exact fun x d cc y z s fails => exec_engOp rfl (congrArg (dTakes d · _) (if_neg (by simp [fails])))
  case selaElse => exact fun x a cc b e s fails => exec_engOp rfl (congrArg (aTakes a · _) (if_neg (by simp [fails])))
  case sellElse => exact fun x l cc m n s fails => exec_engOp rfl (congrArg (lTakes l · _) (if_neg (by simp [fails])))

end Sys2Proof.Machine
end

section
/-! PROOFS. The functions of the engine datapath (R219, R230): exponent, square root and quotient, each against its definition. -/

namespace Sys2Proof.Machine

/-! ### The exponent (R219) -/

theorem bitLenTo_zero (k : Nat) : bitLenTo k 0 = 0 := by
  induction k with
  | zero => rfl
  | succ k ih => simp [bitLenTo, ih]

theorem bitLenTo_eq {k x : Nat} (nonzero : x ≠ 0) (fits : x < 2 ^ k) : bitLenTo k x = x.log2 + 1 := by
  induction k with
  | zero => omega
  | succ k ih =>
    by_cases small : x < 2 ^ k
    · rw [bitLenTo, if_pos (Nat.div_eq_of_lt small), ih small]
    · have top : x.log2 = k := (Nat.log2_eq_iff nonzero).mpr ⟨Nat.le_of_not_lt small, fits⟩
      have high : x / 2 ^ k ≠ 0 := Nat.div_ne_zero_iff.mpr ⟨by positivity, Nat.le_of_not_lt small⟩
      rw [bitLenTo, if_neg high, top]

/-- The bits of an accumulator value that differ from its bit 39. -/
def signDiff (v : BitVec 40) : BitVec 40 := if v.msb then ~~~v else v

theorem getLsbD_signDiff (v : BitVec 40) {k : Nat} (hk : k < 40) : (signDiff v).getLsbD k = (v.getLsbD k ^^ v.msb) := by
  unfold signDiff
  cases v.msb <;> simp [hk]

theorem signDiff_toNat_lt (v : BitVec 40) : (signDiff v).toNat < 2 ^ 39 := by
  have msb := BitVec.msb_eq_decide v
  unfold signDiff
  split
  next neg => rw [neg] at msb; rw [BitVec.toNat_not]; have := of_decide_eq_true msb.symm; omega
  next pos => rw [Bool.eq_false_of_not_eq_true pos] at msb; have := of_decide_eq_false msb.symm; omega

theorem expOf_eq (v : BitVec 40) : expOf v = if (signDiff v).toNat = 0 then 30 else 30 - ((signDiff v).toNat.log2 : Int) := by
  have magnitude : (if v.msb then 2 ^ 40 - 1 - v.toNat else v.toNat) = (signDiff v).toNat := by
    rw [signDiff, apply_ite BitVec.toNat, BitVec.toNat_not]
  simp only [expOf, magnitude]
  by_cases zero : (signDiff v).toNat = 0
  · rw [zero, bitLenTo_zero, if_pos rfl, if_pos rfl]
  · rw [bitLenTo_eq zero (signDiff_toNat_lt v), if_neg (Nat.succ_ne_zero _), if_neg zero]
    push_cast
    ring

theorem eq_zero_or_neg_one_of_signDiff {v : BitVec 40} (h : (signDiff v).toNat = 0) : v = 0 ∨ v = -1 := by
  unfold signDiff at h
  split at h
  · rw [BitVec.toNat_not] at h
    refine .inr (BitVec.eq_of_toNat_eq (?_ : v.toNat = 2 ^ 40 - 1))
    omega
  · exact .inl (BitVec.eq_of_toNat_eq h)

/-- The exponent names the highest bit that differs from bit 39. -/
theorem expIs_expOf (v : BitVec 40) : expIs v (expOf v) := by
  rw [expOf_eq]
  split
  next zero => exact .inl ⟨eq_zero_or_neg_one_of_signDiff zero, rfl⟩
  next nonzero =>
    have top : (signDiff v).toNat.log2 < 39 := (Nat.log2_lt nonzero).mpr (signDiff_toNat_lt v)
    have differs : (signDiff v).getLsbD (signDiff v).toNat.log2 = true := Nat.testBit_log2 nonzero
    refine .inr ⟨⟨_, top⟩, rfl, ?_, fun k above => ?_⟩
    · rw [getLsbD_signDiff v (by omega)] at differs
      simpa using differs
    · have same : (signDiff v).getLsbD k = false := Nat.testBit_lt_two_pow ((Nat.log2_lt nonzero).mp above)
      rw [getLsbD_signDiff v (by omega)] at same
      simpa using same

/-! ### The square root (R230) -/

theorem isqrtFrom_spec (n : Nat) : ∀ k r : Nat, r * r ≤ n → n < (r + 2 ^ k) * (r + 2 ^ k) →
    isqrtFrom k n r * isqrtFrom k n r ≤ n ∧ n < (isqrtFrom k n r + 1) * (isqrtFrom k n r + 1) := by
  intro k
  induction k with
  | zero => exact fun r low high => ⟨low, high⟩
  | succ k ih =>
    intro r low high
    rw [isqrtFrom]
    split
    next fits =>
      refine ih _ fits ?_
      rwa [Nat.add_assoc, ← Nat.two_mul, ← pow_succ']
    next large => exact ih _ low (Nat.lt_of_not_le large)

theorem isqrt_spec {n : Nat} (h : n < 2 ^ 128) : isqrt n * isqrt n ≤ n ∧ n < (isqrt n + 1) * (isqrt n + 1) :=
  isqrtFrom_spec n 64 0 (Nat.zero_le n) (by omega)

/-- The root of an accumulator value as a data word. -/
def rootWord (v : Int) : BitVec 16 :=
  if v < 0 then 0 else if 2 ^ 31 ≤ v then 0x7FFF#16 else BitVec.ofNat 16 (isqrt (v.toNat / 2))

theorem rootWord_neg {v : Int} (h : v < 0) : rootWord v = 0 := if_pos h

theorem rootWord_top {v : Int} (h : 2 ^ 31 ≤ v) : rootWord v = 0x7FFF := (if_neg (by omega)).trans (if_pos h)

theorem rootIs_rootWord {v : Int} (low : 0 ≤ v) (high : v < 2 ^ 31) : rootIs v.toNat (rootWord v).toNat := by
  obtain ⟨least, most⟩ := isqrt_spec (n := v.toNat / 2) (by omega)
  have fits : isqrt (v.toNat / 2) < 2 ^ 16 := by nlinarith [show v.toNat / 2 < 2 ^ 30 by omega]
  rw [rootWord, if_neg (by omega), if_neg (by omega), BitVec.toNat_ofNat, Nat.mod_eq_of_lt fits]
  constructor <;> omega

theorem toInt_toNat_of_nonneg {w : Nat} {v : BitVec w} (h : 0 ≤ v.toInt) : v.toInt.toNat = v.toNat := by
  have := v.isLt
  rw [BitVec.toInt_eq_toNat_cond] at h ⊢
  split_ifs at h ⊢ <;> omega

/-! ### The quotient (R230) -/

theorem divWord_eq (x y : BitVec 16) : divWord x y = quotient x.toInt y.toInt := by
  have size : x.toInt.natAbs < y.toInt.natAbs ↔ |x.toInt| < |y.toInt| := by
    rw [Int.abs_eq_natAbs, Int.abs_eq_natAbs, Int.ofNat_lt]
  by_cases zero : y.toInt = 0
  · simp [divWord, quotient, zero]
  by_cases small : |x.toInt| < |y.toInt|
  · simp only [divWord, quotient, if_neg zero, if_pos small, if_pos (size.mpr small)]
  have product : x.toInt * y.toInt ≠ 0 := mul_ne_zero (fun h => small (by simpa [h] using zero)) zero
  simp only [divWord, quotient, if_neg zero, if_neg small, if_neg (mt size.mp small)]
  rcases lt_or_gt_of_ne product with neg | pos
  · rw [if_neg neg.le.not_gt, if_pos neg]
  · rw [if_pos pos, if_neg pos.le.not_gt]

end Sys2Proof.Machine
end

section
/-! PROOFS. The sines of the engines (R193, R230): the model's series follows the sine series term by term, so that a sine stays within its
range, and a result that is open within 1 LSB is one. -/

namespace Sys2Proof.Machine

open Finset

/-! ### The terms of the sine series -/

/-- What divides a term of the sine series, in the step to the next one. -/
theorem six_le_divisor (n : Nat) : 6 ≤ (2 * (n + 1)) * (2 * (n + 1) + 1) :=
  Nat.mul_le_mul (show 2 ≤ 2 * (n + 1) by omega) (show 3 ≤ 2 * (n + 1) + 1 by omega)

/-- Term `n` of the sine series at `X`, without its sign. -/
noncomputable def sinTerm (X : ℝ) (n : Nat) : ℝ := X ^ (2 * n + 1) / (2 * n + 1).factorial

section
variable {X : ℝ}

theorem sinTerm_nonneg (h0 : 0 ≤ X) (n : Nat) : 0 ≤ sinTerm X n := by unfold sinTerm; positivity

theorem sinTerm_succ (X : ℝ) (n : Nat) : sinTerm X (n + 1) = sinTerm X n * X ^ 2 / ((2 * (n + 1)) * (2 * (n + 1) + 1) : Nat) := by
  have fact : ((2 * (n + 1) + 1).factorial : ℝ) = ((2 * (n + 1)) * (2 * (n + 1) + 1) : Nat) * (2 * n + 1).factorial := by
    rw [show 2 * (n + 1) + 1 = (2 * n + 1) + 1 + 1 by ring, Nat.factorial_succ, Nat.factorial_succ]
    push_cast
    ring
  have : ((2 * n + 1).factorial : ℝ) ≠ 0 := by positivity
  rw [sinTerm, sinTerm, fact]
  field_simp
  ring

theorem sinTerm_antitone (h0 : 0 ≤ X) (h : X ^ 2 ≤ 6) : Antitone (sinTerm X) := by
  refine antitone_nat_of_succ_le fun n => ?_
  have den : (6 : ℝ) ≤ ((2 * (n + 1)) * (2 * (n + 1) + 1) : Nat) := by exact_mod_cast six_le_divisor n
  rw [sinTerm_succ, div_le_iff₀ (by linarith)]
  exact mul_le_mul_of_nonneg_left (h.trans den) (sinTerm_nonneg h0 n)

/-- The partial sums with an even number of terms lie below the sine. -/
theorem sum_sinTerm_le_sin (h0 : 0 ≤ X) (h : X ^ 2 ≤ 6) (k : Nat) : ∑ i ∈ range (2 * k), (-1) ^ i * sinTerm X i ≤ Real.sin X := by
  refine (sinTerm_antitone h0 h).alternating_series_le_tendsto ?_ k
  simpa only [sinTerm, mul_div_assoc] using (Real.hasSum_sin X).tendsto_sum_nat

end

/-! ### The model's terms -/

/-- Each term is followed by one that is no greater, so that the alternating sum lies between 0 and its first term. -/
theorem sinTerms_range {x2 : Nat} (small : x2 ≤ 6 * 2 ^ 64) (f : Nat) :
    ∀ j t : Nat, 0 ≤ sinTerms f x2 (j + 1) t ∧ sinTerms f x2 (j + 1) t ≤ t := by
  induction f with
  | zero => exact fun j t => ⟨le_rfl, Int.natCast_nonneg t⟩
  | succ f ih =>
    intro j t
    have falls : t * x2 / 2 ^ 64 / ((2 * (j + 1)) * (2 * (j + 1) + 1)) ≤ t := by
      rw [Nat.div_div_eq_div_mul]
      refine Nat.div_le_of_le_mul ?_
      calc t * x2 ≤ t * (6 * 2 ^ 64) := Nat.mul_le_mul_left t small
        _ = 2 ^ 64 * 6 * t := by ring
        _ ≤ _ := Nat.mul_le_mul_right t (Nat.mul_le_mul_left _ (six_le_divisor j))
    obtain ⟨low, high⟩ := ih (j + 1) (t * x2 / 2 ^ 64 / ((2 * (j + 1)) * (2 * (j + 1) + 1)))
    simp only [sinTerms]
    omega

/-- A quotient of naturals, against the real one. -/
theorem natCast_div_bounds (a : Nat) {d : Nat} (hd : 0 < d) :
    (a : ℝ) / d - 1 < (a / d : Nat) ∧ ((a / d : Nat) : ℝ) ≤ (a : ℝ) / d := by
  refine ⟨?_, Nat.cast_div_le⟩
  rw [sub_lt_iff_lt_add, div_lt_iff₀ (by exact_mod_cast hd)]
  exact_mod_cast Nat.lt_mul_of_div_lt (Nat.lt_succ_self _) hd

/-- The product of a term and X², each known to within a few 2^-64, is known to within 12 of them. -/
theorem product_near {F u a b : ℝ} (F0 : 0 ≤ F) (F1 : F ≤ 1.58) (u0 : 0 ≤ u) (u1 : u ≤ 2.5) (ha : |a - 2 ^ 64 * F| ≤ 4)
    (hb : |b - 2 ^ 64 * u| ≤ 1) : |a * b / 2 ^ 64 - 2 ^ 64 * (F * u)| ≤ 12 := by
  have apart : a * b / 2 ^ 64 - 2 ^ 64 * (F * u) =
      F * (b - 2 ^ 64 * u) + (a - 2 ^ 64 * F) * u + (a - 2 ^ 64 * F) * (b - 2 ^ 64 * u) / 2 ^ 64 := by ring
  calc |a * b / 2 ^ 64 - 2 ^ 64 * (F * u)|
      ≤ |F| * |b - 2 ^ 64 * u| + |a - 2 ^ 64 * F| * |u| + |a - 2 ^ 64 * F| * |b - 2 ^ 64 * u| / |2 ^ 64| := by
        rw [apart, ← abs_mul, ← abs_mul, ← abs_mul, ← abs_div]
        exact abs_add_three _ _ _
    _ ≤ 1.58 * 1 + 4 * 2.5 + 4 * 1 / |2 ^ 64| := by
        rw [abs_of_nonneg F0, abs_of_nonneg u0]
        gcongr
    _ ≤ 12 := by norm_num

/-- A division by 6 or more, rounded down, makes up for its own rounding. -/
theorem quotient_near {m d : Nat} {y : ℝ} (hd : 6 ≤ d) (hm : |(m : ℝ) - y| ≤ 13) : |((m / d : Nat) : ℝ) - y / d| ≤ 4 := by
  have six : (6 : ℝ) ≤ d := by exact_mod_cast hd
  have divided : |(m : ℝ) / d - y / d| ≤ 13 / 6 := by
    rw [← sub_div, abs_div, abs_of_pos (by linarith : (0 : ℝ) < d)]
    exact div_le_div₀ (by norm_num) hm (by norm_num) six
  obtain ⟨low, high⟩ := natCast_div_bounds m (show 0 < d by omega)
  rw [abs_le] at divided ⊢
  constructor <;> linarith

/-- A term of the model within 4 × 2^-64 of the series' is followed by another such term. -/
theorem sinTerm_near_succ {X : ℝ} {x2 t j : Nat} (h0 : 0 ≤ X) (h1 : X ≤ 1.58) (sq : |(x2 : ℝ) - 2 ^ 64 * X ^ 2| ≤ 1)
    (near : |(t : ℝ) - 2 ^ 64 * sinTerm X j| ≤ 4) :
    |((t * x2 / 2 ^ 64 / ((2 * (j + 1)) * (2 * (j + 1) + 1)) : Nat) : ℝ) - 2 ^ 64 * sinTerm X (j + 1)| ≤ 4 := by
  have term : sinTerm X j ≤ 1.58 :=
    (sinTerm_antitone h0 (by nlinarith) (Nat.zero_le j)).trans (by simpa [sinTerm] using h1)
  have product := product_near (sinTerm_nonneg h0 j) term (sq_nonneg X) (by nlinarith) near sq
  obtain ⟨low, high⟩ := natCast_div_bounds (t * x2) (show 0 < 2 ^ 64 by positivity)
  rw [sinTerm_succ, ← mul_div_assoc]
  refine quotient_near (six_le_divisor j) ?_
  push_cast at low high ⊢
  rw [abs_le] at product ⊢
  constructor <;> linarith

/-- The sum of `f` terms of the model, each against its term of the series. -/
theorem sinTerms_near {X : ℝ} {x2 : Nat} (h0 : 0 ≤ X) (h1 : X ≤ 1.58) (sq : |(x2 : ℝ) - 2 ^ 64 * X ^ 2| ≤ 1) (f : Nat) :
    ∀ j t : Nat, |(t : ℝ) - 2 ^ 64 * sinTerm X j| ≤ 4 →
      |(sinTerms f x2 (j + 1) t : ℝ) - 2 ^ 64 * ∑ i ∈ range f, (-1) ^ i * sinTerm X (j + i)| ≤ (4 : ℝ) * f := by
  induction f with
  | zero => simp [sinTerms]
  | succ f ih =>
    intro j t near
    have rest := ih (j + 1) _ (sinTerm_near_succ h0 h1 sq near)
    have sum : ∑ i ∈ range (f + 1), (-1) ^ i * sinTerm X (j + i) =
        sinTerm X j - ∑ i ∈ range f, (-1) ^ i * sinTerm X (j + 1 + i) := by
      simp only [sum_range_succ', pow_succ, mul_neg_one, neg_mul, sum_neg_distrib, Nat.add_zero, pow_zero, one_mul, Nat.add_assoc,
        Nat.add_comm 1]
      ring
    rw [sum, sinTerms]
    push_cast at rest ⊢
    rw [abs_le] at near rest ⊢
    constructor <;> linarith [near.1, near.2, rest.1, rest.2]

/-- The model's 16 terms at `x`, from 0 to π/2 in 2^-64: between 0 and 1, as the sine is, up to the rounding of its terms. -/
theorem sinTerms_quadrant {x : Nat} (quadrant : 2 * x ≤ pi64) :
    0 ≤ sinTerms 16 (x * x / 2 ^ 64) 1 x ∧ sinTerms 16 (x * x / 2 ^ 64) 1 x ≤ 2 ^ 64 + 64 := by
  refine ⟨(sinTerms_range ?_ 16 0 x).1, ?_⟩
  · have below : x < 2 ^ 65 := by rw [pi64] at quadrant; omega
    have := Nat.mul_lt_mul'' below below
    omega
  obtain ⟨X, hX⟩ : ∃ X : ℝ, X = x / 2 ^ 64 := ⟨_, rfl⟩
  have scaled : (x : ℝ) = 2 ^ 64 * X := by rw [hX]; ring
  have h0 : 0 ≤ X := by rw [hX]; positivity
  have h1 : X ≤ 1.58 := by
    have : (2 * x : ℝ) ≤ pi64 := by exact_mod_cast quadrant
    rw [scaled, pi64] at this
    norm_num at this ⊢
    linarith
  have sq : |((x * x / 2 ^ 64 : Nat) : ℝ) - 2 ^ 64 * X ^ 2| ≤ 1 := by
    obtain ⟨low, high⟩ := natCast_div_bounds (x * x) (show 0 < 2 ^ 64 by positivity)
    have exact_sq : ((x * x : Nat) : ℝ) / ((2 ^ 64 : Nat) : ℝ) = 2 ^ 64 * X ^ 2 := by
      push_cast
      rw [scaled]
      ring
    rw [exact_sq] at low high
    rw [abs_le]
    constructor <;> linarith
  have below : ∑ i ∈ range 16, (-1) ^ i * sinTerm X i ≤ 1 :=
    (sum_sinTerm_le_sin h0 (by nlinarith) 8).trans (Real.sin_le_one X)
  have near := sinTerms_near h0 h1 sq 16 0 x (by simp [sinTerm, scaled])
  simp only [Nat.zero_add, abs_le] at near
  have real : (sinTerms 16 (x * x / 2 ^ 64) 1 x : ℝ) ≤ 2 ^ 64 + 64 := by
    push_cast at near ⊢
    linarith [near.2]
  exact_mod_cast real

/-- A sine of the first quadrant lies between 0 and 1, up to the rounding of its 16 terms. -/
theorem sinFine_range {n : Nat} : 0 ≤ sinFine n ∧ sinFine n ≤ 2 ^ 64 + 64 := by
  unfold sinFine
  split_ifs with zero top
  · norm_num
  · norm_num
  · refine sinTerms_quadrant (?_ : 2 * (pi64 * n / 2 ^ 31) ≤ pi64)
    rw [pi64]
    omega

theorem sinOf_range (n : Nat) : |sinOf n| ≤ 2 ^ 64 + 64 := by
  have (k : Nat) : |sinFine k| ≤ 2 ^ 64 + 64 := (abs_of_nonneg sinFine_range.1).trans_le sinFine_range.2
  unfold sinOf
  dsimp only
  split
  · exact this _
  · exact this _
  · rw [abs_neg]; exact this _
  · rw [abs_neg]; exact this _

/-! ### A result within 1 LSB (R230) -/

/-- R230: the word `p` is within 1 LSB of the exact value `v` × 2^-64, which lies from -1 to 1; +1 is 0x7FFF. -/
theorem nearWord_spec {v : Int} (range : |v| ≤ 2 ^ 64 + 64) (w : Nat) :
    (nearWord v w).toInt * 2 ^ 49 ≤ min (v + 2 ^ 49) (0x7FFF * 2 ^ 49) ∧
      max (v - 2 ^ 49) (-(2 ^ 64)) ≤ ((nearWord v w).toInt + (if (nearWord v w).toInt = 0x7FFF then 1 else 0)) * 2 ^ 49 := by
  obtain ⟨r, hr⟩ : ∃ r, r = if v % 2 ^ 49 = 0 then v / 2 ^ 49 - 1 + ((w % 3 : Nat) : Int) else v / 2 ^ 49 + ((w % 2 : Nat) : Int) :=
    ⟨_, rfl⟩
  have value : (nearWord v w).toInt = max (-0x8000) (min 0x7FFF r) := by
    have clamped : clampInt (-0x8000) 0x7FFF r = max (-0x8000) (min 0x7FFF r) := by
      unfold clampInt; split_ifs <;> omega
    simp only [nearWord, ← hr, clamped]
    exact BitVec.toInt_ofInt_eq_self (by decide) (by omega) (by omega)
  have near : r * 2 ^ 49 ≤ v + 2 ^ 49 ∧ v - 2 ^ 49 ≤ r * 2 ^ 49 := by
    split at hr <;> omega
  rw [value]
  rw [abs_le] at range
  split_ifs <;> omega

end Sys2Proof.Machine
end

section
/-! PROOFS. The statement of the accumulator arithmetic, the products and the special functions of the engines (R208 to R211, R219, R220,
R229, R230). -/

namespace Sys2Proof.Machine

/-- A result written to an accumulator, by a form `w` of its exact value. -/
theorem Ctx.resultZN_of {v w : Int} (h : v = w) (i : Nat) (c : Ctx) : c.resultZN i v = accTakes i w c := h ▸ c.resultZN_eq i v

/-- Settles O33: the accumulator results by `Ctx.resultZN_eq`, the others by the definition of their function. -/
theorem engineArithmetic : Obligations.EngineArithmetic := by
  unfold Obligations.EngineArithmetic
  refine ⟨?adda, ?suba, ?addd, ?subd, ?addk, ?nega, ?absa, ?ash, ?mac, ?macm, ?dmacm, ?dmac, ?norm, ?exp, ?sata, ?tsta, ?clra, ?sqrt, ?div,
    ?sincos⟩
  case adda => exact fun x a b s => exec_engOp rfl (Ctx.resultZN_eq _ a _)
  case suba => exact fun x a b s => exec_engOp rfl (Ctx.resultZN_eq _ a _)
  case addd => exact fun x a y s => exec_engOp rfl (Ctx.resultZN_eq _ a _)
  case subd => exact fun x a y s => exec_engOp rfl (Ctx.resultZN_eq _ a _)
  case addk =>
    intro x a sh k s
    exact exec_engOp rfl (Ctx.resultZN_of (congrArg (_ + ·) ((shiftInt_eq _ _).trans (if_pos (Int.natCast_nonneg _)))) a _)
  case nega => exact fun x a s => exec_engOp rfl (Ctx.resultZN_eq _ a _)
  case absa => exact fun x a s => exec_engOp rfl (Ctx.resultZN_of (Int.abs_eq_natAbs _).symm a _)
  case ash => exact fun x a sh s => exec_engOp rfl (Ctx.resultZN_of (shiftInt_eq _ _) a _)
  case mac => exact fun x a b y z sg zb s => exec_engOp rfl (Ctx.resultZN_of (congrArg (_ + ·) (signedTerm_eq sg _)) a _)
  case macm =>
    intro x a b y p md sg zb s
    refine exec_engOp rfl ((Ctx.modify_eq _ p md).trans ?_)
    rw [Ctx.resultZN_eq, signedTerm_eq]; rfl
  case dmacm =>
    intro x a b p md q mq sg zb s
    refine exec_engOp rfl ((Ctx.modify_eq _ q mq).trans ?_)
    rw [Ctx.modify_eq, Ctx.resultZN_eq, signedTerm_eq]; rfl
  case dmac =>
    intro x a b y z w v sg1 sg2 s _
    refine exec_engOp rfl ((Ctx.resultZN_resultZN _ b a _ _).symm.trans ?_)
    rw [Ctx.resultZN_eq, Ctx.resultZN_eq, signedTerm_eq, signedTerm_eq]; rfl
  case norm =>
    intro x a d s
    refine ⟨_, rfl, expOf ((s.cx x).aR a), expIs_expOf _, State.engOp_eq ?_⟩
    by_cases shifts : 0 < expOf ((s.cx x).aR a)
    · simp only [if_pos shifts, shiftInt_eq, if_pos shifts.le]; rfl
    · simp only [if_neg shifts]; rfl
  case exp => exact fun x d a s => ⟨_, rfl, expOf ((s.cx x).aR a), expIs_expOf _, State.engOp_eq rfl⟩
  case sata =>
    intro x a s
    refine exec_engOp rfl ((Ctx.znA_eq _ _).trans ?_)
    rw [Ctx.setSat_eq, satSigned_eq, bne_eq_decide_ne]; rfl
  case tsta => exact fun x a s => exec_engOp rfl rfl
  case clra => exact fun x a s => exec_engOp rfl rfl
  case sqrt =>
    intro x d a s
    refine ⟨_, rfl, rootWord ((s.cx x).aR a).toInt, rootWord_neg, rootWord_top, ?_, State.engOp_eq ((Ctx.znD_eq _ _).trans ?_)⟩
    · rintro ⟨low, high⟩
      rw [← toInt_toNat_of_nonneg low]
      exact rootIs_rootWord low high
    · rw [Ctx.setSat_eq, Bool.decide_or]; rfl
  case div =>
    intro x d y z s
    refine exec_engOp rfl ((Ctx.znD_eq _ _).trans ?_)
    rw [divWord_eq]; rfl
  case sincos =>
    intro x ds dc y s _
    obtain ⟨sinHigh, sinLow⟩ := nearWord_spec (sinOf_range _) (s.free 6)
    obtain ⟨cosHigh, cosLow⟩ := nearWord_spec (sinOf_range _) (s.free 6 / 2)
    exact ⟨_, rfl, _, _, sinHigh, sinLow, cosHigh, cosLow, rfl⟩

end Sys2Proof.Machine
end

section
/-! PROOFS. The statement of the data words, the long registers and the ports of the engines (R199, R209, R212, R223 to R227, R229). -/

namespace Sys2Proof.Machine

/-! ### Data words (R209, R229) -/

/-- R229: −Dx, where 0x8000 gives 0x7FFF. -/
theorem negWord_eq (v : BitVec 16) : BitVec.ofInt 16 (satSigned 16 (-v.toInt)) = if v = 0x8000 then 0x7FFF else -v := by
  rw [satSigned_eq]
  by_cases lowest : v = 0x8000
  · rw [if_pos lowest, lowest]; rfl
  · have above : -2 ^ 15 < v.toInt := by
      refine lt_of_le_of_ne (BitVec.le_toInt v) fun h => lowest (BitVec.eq_of_toInt_eq h.symm)
    have below : v.toInt < 2 ^ 15 := BitVec.toInt_lt
    have within : max (-2 ^ (16 - 1)) (min (2 ^ (16 - 1) - 1) (-v.toInt)) = -v.toInt := by omega
    rw [if_neg lowest, within, BitVec.ofInt_neg, BitVec.ofInt_toInt]

/-- R209, CMP: Z and N of the exact difference compare the words. -/
theorem Ctx.znInt_sub (v w : BitVec 16) (c : Ctx) :
    c.znInt (v.toInt - w.toInt) = { c with z := decide (v = w), n := decide (v.toInt < w.toInt) } := by
  have same : (v.toInt - w.toInt == 0) = decide (v = w) := Bool.eq_iff_iff.mpr (by simp [sub_eq_zero, BitVec.toInt_inj])
  simp only [Ctx.znInt, same, sub_neg]

/-! ### Ports (R199, R223, R226, R227) -/

section
variable {s t : State} {x : Nat}

/-- R223: an output port that the context alone holds. -/
theorem exec_engOut_cx {x : Fin 32} {port : Fin 256} {y : Fin 16} {f : Ctx → Ctx}
    (h : s.outPort x port ((s.cx x).dR y) = s.onCx x f) :
    ∃ u, exec (.engOut x port y) s = .next u ∧ u = s.onCx x fun c => (f c).advance 1 :=
  ⟨_, rfl, (congrArg (State.engOp x 1 id) h).trans State.onCx_onCx⟩

theorem State.eng_leashIref (d q : Int) : (s.leashIref x d q).2.eng = s.eng :=
  (State.leashIref_keeps (Keeps.refl _ s) (within_refl _)).same .eng (by decide)

theorem State.eng_leashCompare (h : Nat) : (s.leashCompare x h).2.eng = s.eng :=
  (State.leashCompare_keeps (Keeps.refl _ s) (within_refl _)).same .eng (by decide)

/-- An instruction leaves the contexts of the other axes alone. -/
theorem State.cx_engOp_ne {x y : Fin 32} {cyc : Nat} {f : Ctx → Ctx} (h : y ≠ x) : (s.engOp x cyc f).cx y = s.cx y :=
  State.cx_onCx_ne (Fin.val_ne_of_ne h)

/-- R189: what an instruction that sends a transfer leaves in its engine, and in the contexts. -/
theorem State.sendPwm_leaves {x : Fin 32} {ch : Option Nat} {v cyc : Nat} (same : t.eng = s.eng) :
    let u := (t.sendPwm x ch v).engOp x cyc id
    u.eng.transfers = s.eng.transfers ++ [{ id := s.eng.nextId, axis := x, ch := ch, value := v, per := (s.cx x).perNum }] ∧
      u.eng.nextId = s.eng.nextId + 1 ∧ u.cx x = (s.cx x).advance cyc ∧ ∀ y : Fin 32, y ≠ x → u.cx y = s.cx y := by
  have cx (y : Nat) : t.cx y = s.cx y := State.cx_of_eng same
  refine ⟨?_, congrArg (·.nextId + 1) same, State.cx_onCx_same.trans (congrArg (Ctx.advance cyc) (cx x)),
    fun y other => (State.cx_engOp_ne other).trans (cx y)⟩
  rw [← same, ← cx]
  rfl

/-- R199: a reference `d'`, `q'` that the Leash has made of `d`, `q` shows in ENG_IREF, and is the context's from the fourth cycle after. -/
theorem State.irefNew_leaves {x : Fin 32} {d q d' q' : BitVec 16} (same : t.eng = s.eng) :
    let u := (((t.put (ENG_IREF_ID x) d'.toNat).put (ENG_IREF_IQ x) q'.toNat).onCx x fun c =>
      { c with irefNew := some (d', q', c.cyc + 4), clfNext := d' != d || q' != q }).engOp x 1 id
    u.get (ENG_IREF_ID x) = d'.toNat ∧ u.get (ENG_IREF_IQ x) = q'.toNat ∧
      u.cx x = ({ s.cx x with irefNew := some (d', q', (s.cx x).cyc + 4), clfNext := decide (d' ≠ d ∨ q' ≠ q) }).advance 1 ∧
      ∀ y : Fin 32, y ≠ x → u.cx y = s.cx y := by
  have cx (y : Nat) : t.cx y = s.cx y := State.cx_of_eng same
  refine ⟨?_, ?_, ?_, fun y other => ?_⟩
  · exact (State.get_put_apart _ _ rfl).trans ((State.get_put_fits _ _ _ rfl).trans (Nat.mod_eq_of_lt (BitVec.isLt _)))
  · exact (State.get_put_fits _ _ _ rfl).trans (Nat.mod_eq_of_lt (BitVec.isLt _))
  · rw [← cx, Bool.decide_or, ← bne_eq_decide_ne, ← bne_eq_decide_ne]
    exact State.cx_onCx_same.trans (congrArg (Ctx.advance 1) State.cx_onCx_same)
  · exact (State.cx_engOp_ne other).trans ((State.cx_onCx_ne (Fin.val_ne_of_ne other)).trans (cx y))

end

/-- Settles O35: the rows of the datapath by `flagged` and the registers, the ports by what `State.outPort`, a new reference and a
transfer leave. -/
theorem engineWordsAndPorts : Obligations.EngineWordsAndPorts := by
  unfold Obligations.EngineWordsAndPorts
  refine ⟨?min, ?max, ?negd, ?cmp, ?ladd, ?lsub, ?lmov, ?lta, ?isu, ?isv, ?isw, ?eang, ?dcor, ?jest, ?vref, ?irefd, ?irefq, ?pm, ?pmp, ?psp,
    ?vsp, ?outVref, ?outDerr, ?outSdv, ?outVd, ?outVq, ?outi, ?outc, ?outk⟩
  case min => exact fun x d y z s => exec_engOp rfl rfl
  case max => exact fun x d y z s => exec_engOp rfl rfl
  case negd =>
    intro x d y s
    refine exec_engOp rfl ((Ctx.znD_eq _ _).trans ?_)
    rw [negWord_eq]; rfl
  case cmp => exact fun x y z s => exec_engOp rfl (Ctx.znInt_sub _ _ _)
  case ladd => exact fun x l m n s => exec_engOp rfl rfl
  case lsub => exact fun x l m n s => exec_engOp rfl rfl
  case lmov => exact fun x l m s => exec_engOp rfl rfl
  case lta =>
    intro x a l sh s
    refine exec_engOp rfl ((Ctx.znA_eq _ _).trans ?_)
    rw [Ctx.setSat_eq, satSigned_eq, bne_eq_decide_ne, shiftInt_eq]; rfl
  case isu => exact fun x d s => exec_engOp rfl rfl
  case isv => exact fun x d s => exec_engOp rfl rfl
  case isw => exact fun x d s => exec_engOp rfl rfl
  case eang => exact fun x d s => exec_engOp rfl rfl
  case dcor => exact fun x d s => exec_engOp rfl rfl
  case jest => exact fun x d s => exec_engOp rfl rfl
  case vref => exact fun x d s => exec_engOp rfl rfl
  case irefd => exact fun x d s => exec_engOp rfl rfl
  case irefq => exact fun x d s => exec_engOp rfl rfl
  case pm => exact fun x l s => exec_engOp rfl rfl
  case pmp => exact fun x l s => exec_engOp rfl rfl
  case psp => exact fun x l s => exec_engOp rfl rfl
  case vsp => exact fun x l s => exec_engOp rfl rfl
  case outVref => exact fun x y s => exec_engOut_cx (State.onCx_congr rfl)
  case outDerr => exact fun x y s => exec_engOut_cx (State.onCx_congr rfl)
  case outSdv => exact fun x y s => exec_engOut_cx (State.onCx_congr rfl)
  case outVd => exact fun x y s => ⟨_, rfl, (State.onCx_onCx (s := s.put _ _)).trans (State.onCx_congr rfl)⟩
  case outVq => exact fun x y s => ⟨_, rfl, (State.onCx_onCx (s := s.put _ _)).trans (State.onCx_congr rfl)⟩
  case outi => exact fun x y z s => ⟨_, rfl, State.irefNew_leaves (State.eng_leashIref _ _)⟩
  case outc => exact fun x ch y s => ⟨_, rfl, State.sendPwm_leaves (State.eng_leashCompare _)⟩
  case outk =>
    intro x s
    obtain ⟨sent, next, own, others⟩ := State.sendPwm_leaves (x := x) (ch := none) (v := 0) (cyc := 1) (rfl : s.eng = s.eng)
    exact ⟨_, rfl, sent, next, own, others, (execEngOutk_keeps rfl).onlyChanges []⟩

end Sys2Proof.Machine
end

section
/-! PROOFS. CLEAR of a Darner at a velocity boundary at which a commit of the entry of its axis is due (R22, R116, R243, R244). -/

namespace Sys2Proof.Machine

/-- A pending commit of entry 3, accepted in the first profile period: it keeps the entry but for the gain of its Darner. -/
def darnerGainCommit : Commit :=
  { entry := 3, snapshot := (axisWithPeriods.committed 3).set 0x318 1, newGen := 1, bnd := 0 }

/-- The axis with that commit pending, as PRF_AXST and PRF_TCST show it, and with CLEAR of its Darner pending. -/
def clearWithCommit : State :=
  { axisWithPeriods with
    regs := [(PRF_TCST, 0x00011103), (PRF_AXST 3, 0x40)]
    lim := { commits := [darnerGainCommit] }
    drn := [(3, { clear := true })] }

/-- A commit of the entry that is due takes effect before CLEAR does (R116, R244). -/
theorem exec_darnerClearEffect_due {dt : Nat} {a : Fin 32} {s : State} {c : Commit} (clear : (s.darn a).clear = true)
    (boundary : (s.elapse dt).atBoundary (s.velPeriod a) = true)
    (due : (s.elapse dt).lim.commits.filter (fun c => (c.entry == a.val) && (s.elapse dt).commitDue c) = [c]) :
    exec (.darnerClearEffect dt a) s =
      .next ((((s.elapse dt).commitEffect c).emptyDarner a).onDarn a fun d => { d with clear := false }) := by
  have committed : (s.elapse dt).commitsNow (fun n => n == a.val) = (s.elapse dt).commitEffect c := by
    rw [State.commitsNow, due]
    rfl
  rw [← committed]
  exact congrArg Host.Outcome.next (if_pos ⟨clear, boundary⟩)

/-- Emptying a Darner and clearing its CLEAR leave the pending commits. -/
theorem State.lim_emptyDarner_onDarn (a : Nat) (f : Darner → Darner) (s : State) : ((s.emptyDarner a).onDarn a f).lim = s.lim := rfl

theorem OnlyChanges.lim {m : List Part} {l : List Nat} {s t : State} (h : OnlyChanges m l s t) (hm : Part.lim ∉ m) : t.lim = s.lim :=
  h.2 .lim hm

/-- R22, R116: 250 000 ns later the second profile boundary after the acceptance falls on a position and a velocity boundary of the
axis. -/
theorem clearWithCommit_due :
    (clearWithCommit.elapse 250000).lim.commits.filter (fun c => (c.entry == 3) && (clearWithCommit.elapse 250000).commitDue c)
      = [darnerGainCommit] :=
  List.filter_cons_of_pos (by decide)

/-- Refutes O30: the clause of DARNER_CLEAR_EFFECT has nothing change but the Darner and its word ENG_DST. A commit of the entry of the
axis that is due at the same boundary takes effect there first (R116, R244): the entry is written, and the commit is pending no more. A
profile boundary is a velocity boundary of every local axis (R22), so a CLEAR written in the velocity period before a commit meets it. -/
theorem not_learningUnits : ¬ Obligations.LearningUnits := by
  rintro ⟨-, -, -, -, -, -, -, cleared, -⟩
  obtain ⟨u, run, -, -, -, -, others⟩ := cleared 250000 3 clearWithCommit (by decide) (by decide)
  obtain rfl := Host.Outcome.next.inj ((exec_darnerClearEffect_due (by decide) (by decide) clearWithCommit_due).symm.trans run)
  have done : CommitDone darnerGainCommit (clearWithCommit.elapse 250000) ((clearWithCommit.elapse 250000).commitEffect darnerGainCommit) :=
    State.commitEffect_done (by decide) (by decide) (by decide) (by decide)
  have kept := others.lim (by decide)
  rw [State.lim_emptyDarner_onDarn] at kept
  have pending : darnerGainCommit ∈ ((clearWithCommit.elapse 250000).commitEffect darnerGainCommit).lim.commits := by
    rw [kept]
    exact List.mem_singleton_self _
  exact done.gone darnerGainCommit pending rfl

end Sys2Proof.Machine
end

section
/-! PROOFS. The latch of a probe (R278 to R280): what it shows, and what its event leaves alone. -/

namespace Sys2Proof.Machine

section
variable {s t : State} {i j : Nat} {f : Probe → Probe}

/-! ### The probes of a state -/

theorem State.probeOf_onProbe_same : (s.onProbe i f).probeOf i = f (s.probeOf i) := tabGet_tabSet_same _ _ _ _

theorem State.probeOf_onProbe_ne (h : j ≠ i) : (s.onProbe i f).probeOf j = s.probeOf j := tabGet_tabSet_ne _ _ _ h

theorem State.probeOf_of_probes (h : t.probes = s.probes) : t.probeOf i = s.probeOf i := by rw [State.probeOf, State.probeOf, h]

/-! ### Words and fields -/

/-- A 64-bit register reads as the signed number stored in it. -/
theorem State.rd64_wr64S_same (s : State) (a : Nat) (v : Int) : (s.wr64S a v).rd64 a = unsigned 64 v := by
  have small : unsigned 64 v < 2 ^ 64 := by unfold unsigned; omega
  have low : (s.wr64S a v).rd a = unsigned 64 v % 2 ^ 32 := by
    rw [State.wr64S, State.wr64, State.rd_wr_ne _ _ (by omega), State.rd_wr_same, Nat.mod_mod]
  have high : (s.wr64S a v).rd (a + 4) = unsigned 64 v / 2 ^ 32 % 2 ^ 32 := State.rd_wr_same _ _ _
  rw [State.rd64, low, high]
  omega

theorem State.rd64_of_rd {a : Nat} (low : t.rd a = s.rd a) (high : t.rd (a + 4) = s.rd (a + 4)) : t.rd64 a = s.rd64 a := by
  rw [State.rd64, State.rd64, low, high]

/-- A field of a word that is neither half of a 64-bit register stays. -/
theorem State.get_wr64S_ne (s : State) {g : Fld} {a : Nat} (v : Int) (low : g.addr ≠ a) (high : g.addr ≠ a + 4) :
    (s.wr64S a v).get g = s.get g := by rw [State.get, State.get, State.wr64S, State.rd_wr64_ne _ _ low high]

/-- R490: beside its count, a lost entry brings a report at most. -/
theorem State.lose_keeps_satBump (s : State) (src : Nat) (g : Fld) (k : Nat) : Keeps [.reg .err, .log] (s.satBump g k) (s.lose src g k) := by
  unfold State.lose
  have counted := Keeps.refl [.reg .err, .log] (s.satBump g k)
  refine keeps_ite (fun _ => counted) fun _ => keeps_ite (fun _ => ?_) fun _ => counted
  exact State.onLog_keeps (fun _ bufs ring => ⟨bufs, ring⟩) (State.report_keeps counted (by decide)) (by decide)

/-! ### The two halves of a latch -/

/-- R278, R280: what a latch shows in the registers of its probe, but for the end of ARM; the edge waits no more. -/
def State.markLatch (i : Nat) (e : ProbeEdge) (pos : Int) (est : Bool) (s : State) : State :=
  let s := (s.put (FBK_PRCNT_SEQ i) (s.get (FBK_PRCNT_SEQ i) + 1)).onProbe i fun p => { p with waiting := p.waiting.drop 1 }
  let s := ((s.wr (FBK_PRT i) e.stamp).wr64S (FBK_PRPOS i) pos).mark (FBK_PRST_EST i) est
  s.latch (FBK_PRST_DONE i)

/-- R279: a latch clears ARM of a single probe. -/
def State.endSingle (i : Nat) (s : State) : State := if s.flag (FBK_PRCFG_CONT i) then s else s.mark (FBK_PRCFG_ARM i) false

/-- R280: the trigger groups hear of a latch, its entries are pushed or lost, and it raises its event. -/
def State.tellLatch (i : Nat) (e : ProbeEdge) (entries : List (BitVec 64)) (s : State) : State :=
  let s := s.acqSource 6 i 16 ((s.now - (s.clk.elapsed - e.time)) * 256) 0
  let r := s.tryPush 3 2 entries
  let s := if r.1 = 0x1 then r.2 else r.2.lose 0x12 (FBK_PRCNT_LOST i) 1
  s.event (0x40 + i % 16)

theorem State.latchEdge_eq (s : State) (i : Nat) (e : ProbeEdge) (pos : Int) (est : Bool) :
    s.latchEdge i e pos est =
      ((s.markLatch i e pos est).endSingle i).tellLatch i e (latchEntries i e.rising est (s.get (FBK_PRCNT_SEQ i) + 1) e.stamp pos) := rfl

/-! ### What telling of a latch leaves alone -/

/-- What telling of a latch may change, but for the count of lost entries: no word of a probe, and no probe. -/
def toldParts : List Part := [.reg .knl, .reg .que, .reg .acq, .reg .err, .sets, .bulk, .log, .knl, .que, .acq]

/-- Beside `toldParts`, telling of a latch counts a lost entry at most. -/
theorem State.tellLatch_keeps (s : State) (i : Nat) (e : ProbeEdge) (entries : List (BitVec 64)) :
    ∃ t u, Keeps toldParts s t ∧ (u = t ∨ u = t.satBump (FBK_PRCNT_LOST i) 1) ∧ Keeps toldParts u (s.tellLatch i e entries) := by
  unfold State.tellLatch
  dsimp only
  have pushed := State.tryPush_keeps (cls := 3) (q := 2) (es := entries)
    (State.acqSource_keeps (src := 6) (idx := i) (m' := 16) (tt := (s.now - (s.clk.elapsed - e.time)) * 256) (fl := 0)
      (Keeps.refl toldParts s) (by decide)) (by decide)
  split
  · exact ⟨_, _, pushed, .inl rfl, State.event_keeps (Keeps.refl _ _) (by decide)⟩
  · exact ⟨_, _, pushed, .inr rfl, State.event_keeps ((State.lose_keeps_satBump _ _ _ _).mono (by decide)) (by decide)⟩

theorem State.rd_tellLatch (s : State) (i : Nat) (e : ProbeEdge) (entries : List (BitVec 64)) {a : Nat}
    (block : a / 0x1000000 = Block.fbk.num) (other : a ≠ FBK_PRCNT i) : (s.tellLatch i e entries).rd a = s.rd a := by
  obtain ⟨t, u, before, count, after⟩ := s.tellLatch_keeps i e entries
  have counted : u.rd a = t.rd a := by
    rcases count with rfl | rfl
    · rfl
    · exact State.rd_put_ne _ _ _ other
  rw [after.rd (by decide) block, counted, before.rd (by decide) block]

theorem State.get_tellLatch (s : State) (i : Nat) (e : ProbeEdge) (entries : List (BitVec 64)) {g : Fld} (block : InBlk .fbk g.addr)
    (apart : fldApart (FBK_PRCNT_LOST i) g = true) : (s.tellLatch i e entries).get g = s.get g := by
  obtain ⟨t, u, before, count, after⟩ := s.tellLatch_keeps i e entries
  have counted : u.get g = t.get g := by
    rcases count with rfl | rfl
    · rfl
    · exact State.get_put_apart _ _ apart
  rw [after.get (by decide) block, counted, before.get (by decide) block]

theorem State.probes_tellLatch (s : State) (i : Nat) (e : ProbeEdge) (entries : List (BitVec 64)) :
    (s.tellLatch i e entries).probes = s.probes := by
  obtain ⟨t, u, before, count, after⟩ := s.tellLatch_keeps i e entries
  have counted : u.probes = t.probes := by rcases count with rfl | rfl <;> rfl
  exact ((after.same .probes (by decide)).trans counted).trans (before.same .probes (by decide))

/-! ### What a latch shows (R278, R280) -/

/-- Edge `e` of probe `i` has been latched at `pos`: from `s` to `t` the registers of the probe show it, and the edges `l` still wait. -/
structure EdgeLatched (i : Nat) (e : ProbeEdge) (l : List ProbeEdge) (pos : Int) (est : Bool) (s t : State) : Prop where
  stamp : t.rd (FBK_PRT i) = e.stamp % 2 ^ 32
  seq : t.get (FBK_PRCNT_SEQ i) = (s.get (FBK_PRCNT_SEQ i) + 1) % 65536
  done : t.get (FBK_PRST_DONE i) = 1
  waiting : (t.probeOf i).waiting = l
  single : s.get (FBK_PRCFG_CONT i) = 0 → t.get (FBK_PRCFG_ARM i) = 0
  continuous : s.get (FBK_PRCFG_CONT i) = 1 → t.get (FBK_PRCFG_ARM i) = s.get (FBK_PRCFG_ARM i)
  position : t.rd64 (FBK_PRPOS i) = unsigned 64 pos
  estimated : t.get (FBK_PRST_EST i) = b2n est

variable {e : ProbeEdge} {l : List ProbeEdge} {pos : Int} {est : Bool}

/-- The words of PRCFG are none that a latch marks. -/
theorem State.get_markLatch_config (s : State) {g : Fld} (hg : g.addr = FBK_PRCFG i) : (s.markLatch i e pos est).get g = s.get g := by
  have word (b : Nat) (h : FBK_PRCFG i ≠ b) : g.addr ≠ b := hg ▸ h
  unfold State.markLatch
  dsimp only
  rw [State.get_latch_ne _ (word _ (by simp only [FBK_PRCFG, FBK_PRST_DONE, FBK_PRST]; omega)),
    State.mark, State.get_put_ne _ _ _ _ (word _ (by simp only [FBK_PRCFG, FBK_PRST_EST, FBK_PRST]; omega)),
    State.get_wr64S_ne _ _ (word _ (by simp only [FBK_PRCFG, FBK_PRPOS]; omega)) (word _ (by simp only [FBK_PRCFG, FBK_PRPOS]; omega)),
    State.get_wr_ne _ _ _ (word _ (by simp only [FBK_PRCFG, FBK_PRT]; omega))]
  exact State.get_put_ne _ _ _ _ (word _ (by simp only [FBK_PRCFG, FBK_PRCNT_SEQ, FBK_PRCNT]; omega))

theorem State.waiting_markLatch (s : State) : ((s.markLatch i e pos est).probeOf i).waiting = (s.probeOf i).waiting.drop 1 := by
  have same : (s.markLatch i e pos est).probes =
      ((s.put (FBK_PRCNT_SEQ i) (s.get (FBK_PRCNT_SEQ i) + 1)).onProbe i fun p => { p with waiting := p.waiting.drop 1 }).probes := rfl
  rw [State.probeOf_of_probes same, State.probeOf_onProbe_same]
  rfl

theorem State.rd_endSingle (s : State) {a : Nat} (ha : a ≠ FBK_PRCFG i) : (s.endSingle i).rd a = s.rd a := by
  unfold State.endSingle
  split
  · rfl
  · exact State.rd_put_ne _ _ _ ha

theorem State.get_endSingle (s : State) {g : Fld} (hg : g.addr ≠ FBK_PRCFG i) : (s.endSingle i).get g = s.get g := by
  rw [State.get, State.get, State.rd_endSingle s hg]

theorem State.probes_endSingle (s : State) (i : Nat) : (s.endSingle i).probes = s.probes := by
  unfold State.endSingle
  split <;> rfl

/-- R278, R280: the registers of a probe after the latch of its first waiting edge. -/
theorem State.latchEdge_latched (waiting : (s.probeOf i).waiting = e :: l) (pos : Int) (est : Bool) :
    EdgeLatched i e l pos est s (s.latchEdge i e pos est) := by
  rw [State.latchEdge_eq]
  set entries := latchEntries i e.rising est (s.get (FBK_PRCNT_SEQ i) + 1) e.stamp pos
  have stamp_ne_status : FBK_PRT i ≠ FBK_PRST i := by simp only [FBK_PRT, FBK_PRST]; omega
  have seq_ne_status : FBK_PRCNT i ≠ FBK_PRST i := by simp only [FBK_PRCNT, FBK_PRST]; omega
  have shown {a : Nat} (block : a / 0x1000000 = Block.fbk.num) (config : a ≠ FBK_PRCFG i) (count : a ≠ FBK_PRCNT i) :
      (((s.markLatch i e pos est).endSingle i).tellLatch i e entries).rd a = (s.markLatch i e pos est).rd a := by
    rw [State.rd_tellLatch _ _ _ _ block count, State.rd_endSingle _ config]
  have status {g : Fld} (hg : g.addr = FBK_PRST i) :
      (((s.markLatch i e pos est).endSingle i).tellLatch i e entries).get g = (s.markLatch i e pos est).get g := by
    rw [State.get, State.get, hg, shown (FBK_PRST_blk i).1 (by simp only [FBK_PRST, FBK_PRCFG]; omega) seq_ne_status.symm]
  refine ⟨?stamp, ?seq, ?done, ?waiting, ?single, ?continuous, ?position, ?estimated⟩
  case stamp =>
    rw [shown (FBK_PRT_blk i).1 (by simp only [FBK_PRT, FBK_PRCFG]; omega) (by simp only [FBK_PRT, FBK_PRCNT]; omega)]
    unfold State.markLatch
    dsimp only
    rw [State.latch_keeps_rd _ _ stamp_ne_status, State.mark, State.rd_put_ne _ _ _ stamp_ne_status, State.wr64S,
      State.rd_wr64_ne _ _ (by simp only [FBK_PRT, FBK_PRPOS]; omega) (by simp only [FBK_PRT, FBK_PRPOS]; omega), State.rd_wr_same]
  case seq =>
    rw [State.get_tellLatch _ _ _ _ (FBK_PRCNT_SEQ_blk i) rfl, State.get_endSingle _ (by simp only [FBK_PRCNT_SEQ, FBK_PRCNT, FBK_PRCFG]; omega)]
    unfold State.markLatch
    dsimp only
    rw [State.get_latch_ne _ seq_ne_status, State.mark, State.get_put_ne _ _ _ _ seq_ne_status,
      State.get_wr64S_ne _ _ (by simp only [FBK_PRCNT_SEQ, FBK_PRCNT, FBK_PRPOS]; omega) (by simp only [FBK_PRCNT_SEQ, FBK_PRCNT, FBK_PRPOS]; omega),
      State.get_wr_ne _ _ _ (by simp only [FBK_PRCNT_SEQ, FBK_PRCNT, FBK_PRT]; omega)]
    exact State.get_put_fits _ _ _ rfl
  case done =>
    rw [status rfl]
    exact State.get_latch_fits _ _ rfl rfl
  case waiting =>
    rw [State.probeOf_of_probes ((State.probes_tellLatch _ _ _ _).trans (State.probes_endSingle _ _))]
    rw [State.waiting_markLatch, waiting]
    rfl
  case position =>
    have low : FBK_PRPOS i ≠ FBK_PRST i := by simp only [FBK_PRPOS, FBK_PRST]; omega
    have high : FBK_PRPOS i + 4 ≠ FBK_PRST i := by simp only [FBK_PRPOS, FBK_PRST]; omega
    have half {a : Nat} (block : a / 0x1000000 = Block.fbk.num) (config : a ≠ FBK_PRCFG i) (count : a ≠ FBK_PRCNT i) (ha : a ≠ FBK_PRST i) :=
      (shown block config count).trans ((State.latch_keeps_rd _ (FBK_PRST_DONE i) ha).trans (State.rd_put_ne _ (FBK_PRST_EST i) _ ha))
    refine (State.rd64_of_rd
      (half (FBK_PRPOS_blk i).1 (by simp only [FBK_PRPOS, FBK_PRCFG]; omega) (by simp only [FBK_PRPOS, FBK_PRCNT]; omega) low)
      (half (FBK_PRPOS_blk i).2 (by simp only [FBK_PRPOS, FBK_PRCFG]; omega) (by simp only [FBK_PRPOS, FBK_PRCNT]; omega) high)).trans ?_
    exact State.rd64_wr64S_same _ _ _
  case estimated =>
    rw [status rfl]
    exact (State.get_latch_apart _ rfl).trans (State.get_mark_fits _ _ _ rfl rfl)
  case single =>
    intro once
    have flag : (s.markLatch i e pos est).flag (FBK_PRCFG_CONT i) = false := by
      rw [State.flag, State.get_markLatch_config s rfl, once]; rfl
    rw [State.get_tellLatch _ _ _ _ (FBK_PRCFG_ARM_blk i) rfl, State.endSingle, flag]
    exact State.get_mark_fits _ _ _ rfl rfl
  case continuous =>
    intro cont
    have flag : (s.markLatch i e pos est).flag (FBK_PRCFG_CONT i) = true := by
      rw [State.flag, State.get_markLatch_config s rfl, cont]; rfl
    rw [State.get_tellLatch _ _ _ _ (FBK_PRCFG_ARM_blk i) rfl, State.endSingle, flag]
    exact State.get_markLatch_config s rfl

end

end Sys2Proof.Machine
end

section
/-! PROOFS. The statement of the probes (R277 to R281): edges that are counted or wait, latches, and ARM. -/

namespace Sys2Proof.Machine

section
variable {s : State} {i te : Nat} {rising : Bool}

/-! ### The course of an edge (R279) -/

/-- R279: probe `i` takes an edge of its source: it is armed, its polarity is chosen, and a single probe has none that waits. -/
structure EdgeTaken (i : Nat) (rising : Bool) (s : State) : Prop where
  armed : s.get (FBK_PRCFG_ARM i) = 1
  chosen : bit (s.get (FBK_PRCFG_EDGE i)) (if rising then 0 else 1) = true
  free : s.get (FBK_PRCFG_CONT i) = 1 ∨ (s.probeOf i).waiting = []

/-- R279: does an edge at `te` come less than 64 ns after the last edge of probe `i` that counted? -/
def State.edgeSoon (s : State) (i te : Nat) : Bool := match (s.probeOf i).edgeAt with | some t => decide (te < t + 64) | none => false

/-- R279: an edge at `te` counts as the last one of probe `i`. -/
def State.seeEdge (i te : Nat) (s : State) : State := s.onProbe i fun p => { p with edgeAt := some te }

/-- R17: the stamp in format T32 of the instant `te`. -/
def State.stampAt (s : State) (te : Nat) : Nat := (s.now - (s.clk.elapsed - te)) % 2 ^ 32

/-- R278, R279: an edge at `te` finds its source and lies in the window, or is counted. -/
def State.placeEdge (i : Nat) (rising : Bool) (te stamp : Nat) (s : State) : State :=
  let w := s.get (FBK_PRSEL_WSEL i)
  let win := w / 4096 != 0xF
  match s.srcAt (s.get (FBK_PRSEL_LSEL i)) te, (if win then s.srcAt w te else some (some 0)) with
  | none, _ => s.satBump (FBK_PRST_NOSRC i) 1
  | _, none => s.satBump (FBK_PRST_NOSRC i) 1
  | some x, some y =>
    if (match y with | some v => win && s.outWindow i v | none => false) then s.satBump (FBK_PRST_OUTW i) 1
    else s.onProbe i fun p =>
      { p with waiting := p.waiting ++ [{ time := te, stamp := stamp, rising := rising, pos := x, win := win && y.isNone }] }

theorem State.probeEdge_ignored (h : s.get (FBK_PRCFG_ARM i) = 0 ∨ bit (s.get (FBK_PRCFG_EDGE i)) (if rising then 0 else 1) = false) :
    s.probeEdge i rising te = s := by
  unfold State.probeEdge
  dsimp only
  rw [if_pos]
  rcases h with unarmed | other
  · simp [State.flag_eq_false unarmed]
  · simp [other]

theorem State.probeEdge_taken (h : EdgeTaken i rising s) : s.probeEdge i rising te =
    if s.edgeSoon i te then s.satBump (FBK_PRST_OVR i) 1 else (s.seeEdge i te).placeEdge i rising te (s.stampAt te) := by
  obtain ⟨armed, chosen, free⟩ := h
  unfold State.probeEdge
  dsimp only
  rw [if_neg (by simp [(s.flag_iff _).mpr armed, chosen]), if_neg]
  · rfl
  · rcases free with cont | none
    · simp [(s.flag_iff _).mpr cont]
    · simp [none]

theorem State.placeEdge_unsourced (stamp : Nat) (h : s.srcAt (s.get (FBK_PRSEL_LSEL i)) te = none) :
    s.placeEdge i rising te stamp = s.satBump (FBK_PRST_NOSRC i) 1 := by
  unfold State.placeEdge
  rw [h]

theorem State.placeEdge_open (stamp : Nat) {x : Option Int} (h : s.srcAt (s.get (FBK_PRSEL_LSEL i)) te = some x)
    (window : s.get (FBK_PRSEL_WSEL i) / 4096 = 0xF) : s.placeEdge i rising te stamp =
      s.onProbe i fun p => { p with waiting := p.waiting ++ [{ time := te, stamp := stamp, rising := rising, pos := x, win := false }] } := by
  have closed : (s.get (FBK_PRSEL_WSEL i) / 4096 != 0xF) = false := by rw [window]; rfl
  unfold State.placeEdge
  dsimp only
  rw [h, closed]
  rfl

theorem State.placeEdge_outside (stamp : Nat) {x : Option Int} {v : Int} (h : s.srcAt (s.get (FBK_PRSEL_LSEL i)) te = some x)
    (window : s.get (FBK_PRSEL_WSEL i) / 4096 ≠ 0xF) (place : s.srcAt (s.get (FBK_PRSEL_WSEL i)) te = some (some v))
    (outside : s.outWindow i v = true) : s.placeEdge i rising te stamp = s.satBump (FBK_PRST_OUTW i) 1 := by
  have win : (s.get (FBK_PRSEL_WSEL i) / 4096 != 0xF) = true := bne_iff_ne.mpr window
  unfold State.placeEdge
  dsimp only
  rw [h, win, if_pos rfl, place]
  exact if_pos outside

/-! ### The counts of a probe -/

/-- A count in the status word of a probe: it goes up by 1, and of the registers that word alone changes. -/
theorem State.countProbe_leaves (g : Probe → Probe) {c : Fld} (hc : c.addr = FBK_PRST i) (fits : c.lo + c.width ≤ 32) (dt : Nat) (s : State) :
    let u := ((s.elapse dt).onProbe i g).satBump c 1
    u.get c = min (s.get c + 1) (2 ^ c.width - 1) ∧ u.probeOf i = g (s.probeOf i) ∧ u.get (FBK_PRCFG_ARM i) = s.get (FBK_PRCFG_ARM i) ∧
      OnlyChanges [.clk, .probes, .sets] [FBK_PRST i] s u := by
  have apart : FBK_PRCFG i ≠ c.addr := by rw [hc]; simp only [FBK_PRCFG, FBK_PRST]; omega
  refine ⟨State.get_satBump_same _ c 1 fits, State.probeOf_onProbe_same, State.get_put_ne _ c (FBK_PRCFG_ARM i) _ apart, ?_⟩
  have keeps : Keeps [.reg .fbk, .probes] (s.elapse dt) (((s.elapse dt).onProbe i g).satBump c 1) :=
    State.satBump_keeps (hc ▸ FBK_PRST_blk i) (State.onProbe_keeps (Keeps.refl _ _) (by decide)) (by decide)
  refine (keeps.onlyChanges_words fun a _ ha => ?_).of_elapse.mono (by decide) (List.Subset.refl _)
  exact State.rd_put_ne _ _ _ (hc ▸ List.ne_of_not_mem_cons ha)

/-- An edge that is counted in place of a latch: the edges that wait, and ARM, stay. -/
theorem State.seeEdge_count (te : Nat) {c : Fld} (hc : c.addr = FBK_PRST i) (fits : c.lo + c.width ≤ 32) (dt : Nat) (s : State) :
    let u := ((s.elapse dt).seeEdge i te).satBump c 1
    u.get c = min (s.get c + 1) (2 ^ c.width - 1) ∧ (u.probeOf i).waiting = (s.probeOf i).waiting ∧
      u.get (FBK_PRCFG_ARM i) = s.get (FBK_PRCFG_ARM i) ∧ OnlyChanges [.clk, .probes, .sets] [FBK_PRST i] s u := by
  obtain ⟨count, probe, arm, others⟩ := State.countProbe_leaves (fun p => { p with edgeAt := some te }) hc fits dt s
  exact ⟨count, (congrArg Probe.waiting probe :), arm, others⟩

/-- An edge `e` that waits for its latch comes after those that wait already; no other probe changes, and no register. -/
theorem State.seeEdge_append (te : Nat) (e : ProbeEdge) (dt i : Nat) (s : State) :
    let u := ((s.elapse dt).seeEdge i te).onProbe i fun p => { p with waiting := p.waiting ++ [e] }
    (u.probeOf i).waiting.length = (s.probeOf i).waiting.length + 1 ∧ (u.probeOf i).waiting.getLast? = some e ∧
      (u.probeOf i).edgeAt = some te ∧ (∀ j, j ≠ i → u.probeOf j = s.probeOf j) ∧ OnlyChanges [.clk, .probes, .sets] [] s u := by
  dsimp only
  have probe : (((s.elapse dt).seeEdge i te).onProbe i fun p => { p with waiting := p.waiting ++ [e] }).probeOf i =
      { s.probeOf i with edgeAt := some te, waiting := (s.probeOf i).waiting ++ [e] } := by
    rw [State.probeOf_onProbe_same, State.seeEdge, State.probeOf_onProbe_same]
    rfl
  have keeps : Keeps [.probes] (s.elapse dt) (((s.elapse dt).seeEdge i te).onProbe i fun p => { p with waiting := p.waiting ++ [e] }) :=
    State.onProbe_keeps (State.onProbe_keeps (Keeps.refl _ _) (by decide)) (by decide)
  refine ⟨?_, ?_, ?_, fun j other => ?_, (keeps.onlyChanges []).of_elapse.mono (by decide) (List.Subset.refl _)⟩
  · rw [probe, List.length_append]; rfl
  · rw [probe, List.getLast?_concat]
  · rw [probe]
  · exact (State.probeOf_onProbe_ne other).trans (State.probeOf_onProbe_ne other)

/-! ### The course of a latch (R278, R279) -/

theorem State.probeLatch_none (h : (s.probeOf i).waiting = []) : s.probeLatch i = s := by
  unfold State.probeLatch
  rw [h]

section
variable {e : ProbeEdge} {l : List ProbeEdge} (h : (s.probeOf i).waiting = e :: l) (win : e.win = false)
include h win

theorem State.probeLatch_placed {x : Int} (pos : e.pos = some x) : s.probeLatch i = s.latchEdge i e x false := by
  unfold State.probeLatch
  simp only [h, win, pos, Bool.false_eq_true, if_false]

variable (pos : e.pos = none)
include pos

theorem State.probeLatch_read {p : Nat} {r : Int × Bool} (port : s.srcPort (s.get (FBK_PRSEL_LSEL i)) = some p)
    (read : s.readAtTime p e.time = some r) : s.probeLatch i = s.latchEdge i e (s.srcValue (s.get (FBK_PRSEL_LSEL i)) r.1) r.2 := by
  unfold State.probeLatch
  simp only [h, win, pos, port, read, Bool.false_eq_true, if_false, Option.map_some]

theorem State.probeLatch_waits {p : Nat} (port : s.srcPort (s.get (FBK_PRSEL_LSEL i)) = some p)
    (unread : s.readAtTime p e.time = none) (before : s.readBefore p e.time = true) : s.probeLatch i = s := by
  unfold State.probeLatch
  simp only [h, win, pos, port, unread, before, Bool.false_eq_true, if_false, Option.map_none, Bool.not_true]

theorem State.probeLatch_lost (port : s.srcPort (s.get (FBK_PRSEL_LSEL i)) = none) : s.probeLatch i =
    (s.onProbe i fun p => { p with waiting := p.waiting.drop 1 }).satBump (FBK_PRST_NOSRC i) 1 := by
  unfold State.probeLatch
  simp only [h, win, pos, port, Bool.false_eq_true, if_false, if_true]

end

end

/-! ### The commands -/

/-- PROBE_EDGE of a source that is no Z input of a port that a row of its own stands for. -/
theorem exec_probeEdge (dt : Nat) {i : Fin 16} (rising : Bool) {s : State}
    (source : s.get (FBK_PRCFG_SRC i) < 0x10 ∨ 0x50 ≤ s.get (FBK_PRCFG_SRC i)) :
    exec (.probeEdge dt i rising) s = .next ((s.elapse dt).probeEdge i rising ((s.elapse dt).probeStamp i)) :=
  congrArg Host.Outcome.next (if_neg (by rw [State.get_elapse]; omega))

theorem exec_probeEdge_ignored (dt : Nat) {i : Fin 16} {rising : Bool} {s : State} (h : s.get (FBK_PRCFG_ARM i) = 0 ∨
    bit (s.get (FBK_PRCFG_EDGE i)) (if rising then 0 else 1) = false ∨ 0x10 ≤ s.get (FBK_PRCFG_SRC i) ∧ s.get (FBK_PRCFG_SRC i) < 0x50) :
    exec (.probeEdge dt i rising) s = .next (s.elapse dt) := by
  by_cases other : 0x10 ≤ s.get (FBK_PRCFG_SRC i) ∧ s.get (FBK_PRCFG_SRC i) < 0x50
  · exact congrArg Host.Outcome.next (if_pos other)
  · rw [exec_probeEdge dt rising (by omega), State.probeEdge_ignored]
    exact h.imp_right fun h => h.resolve_right other

/-- R279: ARM leaves the other bits of its word, each a field of its own, alone. -/
theorem State.bit_mark_ARM (s : State) (i : Nat) (b : Bool) {j : Nat} (hj : j < 31) :
    bit ((s.mark (FBK_PRCFG_ARM i) b).rd (FBK_PRCFG i)) j = bit (s.rd (FBK_PRCFG i)) j := by
  have apart : fldApart (FBK_PRCFG_ARM i) ⟨FBK_PRCFG i, j, 1⟩ = true := by simp [fldApart, FBK_PRCFG_ARM]; omega
  exact congrArg (· == 1) (s.get_mark_apart b apart)

/-- PROBE_EDGE of an edge that is taken, 64 ns or more after the last one. -/
theorem exec_probeEdge_apart {dt : Nat} {i : Fin 16} {rising : Bool} {s u : State}
    (source : s.get (FBK_PRCFG_SRC i) < 0x10 ∨ 0x50 ≤ s.get (FBK_PRCFG_SRC i)) (taken : EdgeTaken i rising s)
    (apart : (s.elapse dt).edgeSoon i ((s.elapse dt).probeStamp i) = false)
    (placed : ((s.elapse dt).seeEdge i ((s.elapse dt).probeStamp i)).placeEdge i rising ((s.elapse dt).probeStamp i)
      ((s.elapse dt).stampAt ((s.elapse dt).probeStamp i)) = u) : exec (.probeEdge dt i rising) s = .next u := by
  obtain ⟨armed, chosen, free⟩ := taken
  have late : EdgeTaken i rising (s.elapse dt) := ⟨armed, chosen, free⟩
  rw [exec_probeEdge dt rising source, State.probeEdge_taken late, if_neg (ne_true_of_eq_false apart), placed]

/-- Settles O37: an edge that is taken goes through `edgeSoon` and `placeEdge`; a latch that completes is `latchEdge_latched`. -/
theorem probes : Obligations.Probes := by
  unfold Obligations.Probes
  refine ⟨?ignored, ?soon, ?unsourced, ?waits, ?outside, ?idle, ?placed, ?read, ?missing, ?gone, ?arm, ?owned⟩
  case ignored => exact fun dt i rising s h => ⟨_, exec_probeEdge_ignored dt h, rfl⟩
  case soon =>
    intro dt i rising s source armed chosen free soon
    have taken : EdgeTaken i rising (s.elapse dt) := ⟨armed, chosen, free⟩
    have counted : (s.elapse dt).probeEdge i rising ((s.elapse dt).probeStamp i) = (s.elapse dt).satBump (FBK_PRST_OVR i) 1 :=
      (State.probeEdge_taken taken).trans (if_pos soon)
    have keeps : Keeps [.reg .fbk] (s.elapse dt) ((s.elapse dt).satBump (FBK_PRST_OVR i) 1) :=
      State.satBump_keeps (FBK_PRST_OVR_blk i) (Keeps.refl _ _) (by decide)
    refine ⟨_, (exec_probeEdge dt rising source).trans (congrArg Host.Outcome.next counted),
      State.get_satBump_same _ _ 1 (Nat.le_of_ble_eq_true rfl), rfl, (keeps.onlyChanges_words fun a _ ha => ?_).of_elapse⟩
    exact State.rd_put_ne _ _ _ (List.ne_of_not_mem_cons ha)
  case unsourced =>
    intro dt i rising s source armed chosen free apart unsourced
    obtain ⟨count, waiting, arm, others⟩ :=
      State.seeEdge_count ((s.elapse dt).probeStamp i) (c := FBK_PRST_NOSRC i) rfl (Nat.le_of_ble_eq_true rfl) dt s
    exact ⟨_, exec_probeEdge_apart source ⟨armed, chosen, free⟩ apart (State.placeEdge_unsourced _ unsourced),
      count, waiting, arm.trans armed, others⟩
  case outside =>
    intro dt i rising x w s source armed chosen free apart sourced window place outside
    obtain ⟨count, waiting, arm, others⟩ :=
      State.seeEdge_count ((s.elapse dt).probeStamp i) (c := FBK_PRST_OUTW i) rfl (Nat.le_of_ble_eq_true rfl) dt s
    exact ⟨_, exec_probeEdge_apart source ⟨armed, chosen, free⟩ apart (State.placeEdge_outside _ sourced window place outside),
      count, waiting, arm.trans armed, others⟩
  case waits =>
    intro dt i rising x s source armed chosen free apart sourced window
    obtain ⟨count, last, seen, elsewhere, others⟩ := State.seeEdge_append ((s.elapse dt).probeStamp i)
      { time := (s.elapse dt).probeStamp i, stamp := (s.elapse dt).stampAt ((s.elapse dt).probeStamp i), rising := rising, pos := x, win := false }
      dt i s
    exact ⟨_, exec_probeEdge_apart source ⟨armed, chosen, free⟩ apart (State.placeEdge_open _ sourced window),
      count, (congrArg (Option.map fun e : ProbeEdge => (e.time, e.rising, e.pos)) last :), seen,
      fun y other => elsewhere y (Fin.val_ne_of_ne other), others⟩
  case idle => exact fun dt i s none => ⟨_, rfl, State.probeLatch_none none⟩
  case placed =>
    intro dt i e l x s waiting win pos
    obtain ⟨stamp, seq, done, rest, single, continuous, position, estimated⟩ :=
      State.latchEdge_latched (s := s.elapse dt) waiting x false
    exact ⟨_, congrArg Host.Outcome.next (State.probeLatch_placed (s := s.elapse dt) waiting win pos),
      stamp, seq, done, rest, single, continuous, position, estimated⟩
  case read =>
    intro dt i e l p r s waiting win pos port read
    obtain ⟨stamp, seq, done, rest, single, continuous, position, estimated⟩ :=
      State.latchEdge_latched (s := s.elapse dt) waiting (s.srcValue (s.get (FBK_PRSEL_LSEL i)) r.1) r.2
    exact ⟨_, congrArg Host.Outcome.next (State.probeLatch_read (s := s.elapse dt) waiting win pos port read),
      stamp, seq, done, rest, single, continuous, position, estimated⟩
  case missing =>
    exact fun dt i e l p s waiting win pos port unread before =>
      ⟨_, rfl, State.probeLatch_waits (s := s.elapse dt) waiting win pos port unread before⟩
  case gone =>
    intro dt i e l s waiting win pos port
    obtain ⟨count, probe, arm, others⟩ := State.countProbe_leaves (c := FBK_PRST_NOSRC i)
      (fun p => { p with waiting := p.waiting.drop 1 }) rfl (Nat.le_of_ble_eq_true rfl) dt s
    refine ⟨_, congrArg Host.Outcome.next (State.probeLatch_lost (s := s.elapse dt) waiting win pos port), count, ?_, arm, others⟩
    rw [probe, waiting]
    rfl
  case arm =>
    intro dt who i s free
    have keeps : Keeps [.reg .fbk] (s.elapse dt) ((s.elapse dt).mark (FBK_PRCFG_ARM i) true) :=
      State.mark_keeps (FBK_PRCFG_ARM_blk i) (Keeps.refl _ _) (by decide)
    refine ⟨_, congrArg Host.Outcome.next (if_neg (ne_true_of_eq_false (State.flag_eq_false free))), State.get_mark_fits _ _ _ rfl rfl,
      fun j => State.bit_mark_ARM _ i true j.isLt, (keeps.onlyChanges_words fun a _ ha => ?_).of_elapse⟩
    exact State.rd_put_ne _ _ _ (List.ne_of_not_mem_cons ha)
  case owned =>
    intro dt who i s owned
    have keeps : Keeps [.reg .err, .bus, .log] (s.elapse dt)
        ((s.elapse dt).accessError who 4 (FBK_PRCFG i) (setBit ((s.elapse dt).rd (FBK_PRCFG i)) 31 true)) :=
      State.accessError_keeps (Keeps.refl _ _) (by decide)
    exact ⟨_, congrArg Host.Outcome.next (if_pos ((s.flag_iff _).mpr owned)), State.errs_accessError _ _ _ _ _,
      keeps.rd (by decide) (FBK_PRCFG_blk i).1, (keeps.onlyChanges []).of_elapse.mono (by decide) (List.Subset.refl _)⟩

end Sys2Proof.Machine
end

section
/-! PROOFS. An illegal transition of A and B at a master-encoder port whose axis has a slave, where the DECOUPLED event of the slave is spilled
over the axis table (R107, R142, R262, R265, R276, R335, R343). -/

namespace Sys2Proof.Machine

section
variable {s : State} {p code : Nat}

/-- R276, R142: what a fault of port `p` shows, and what its slaves hear, before the fault comes to the axis of the port. -/
def State.showPortFault (p code : Nat) (s : State) : State :=
  let s := (s.latch (FBK_PST_FAULT p)).put (FBK_PST_LASTERR p) code
  if 32 ≤ p then s.masterLost fun sel => sel == 0x3000 + (p - 32) else s

/-- A fault of a port that no enabled axis names when it is shown comes to no axis. -/
theorem State.portFault_unowned (unowned : (s.showPortFault p code).portOwner p = none) (src : Nat) :
    s.portFault p code src = s.showPortFault p code := by
  change (match (s.showPortFault p code).portOwner p with
    | some a => (s.showPortFault p code).feedbackFault a code src
    | none => s.showPortFault p code) = _
  rw [unowned]

/-- What shows of the fault of a port stops a slave at most. -/
theorem State.showPortFault_statusDrift (s : State) (p code k : Nat) : StatusDrift k s (s.showPortFault p code) := by
  have status : PRF_AXST k ≠ FBK_PST p := by simp only [PRF_AXST, FBK_PST]; omega
  have shown : StatusDrift k s ((s.latch (FBK_PST_FAULT p)).put (FBK_PST_LASTERR p) code) :=
    .of_rd ((State.rd_put_ne _ _ _ status).trans (State.latch_keeps_rd _ _ status))
  unfold State.showPortFault
  dsimp only
  split
  · exact shown.trans (State.masterLost_statusDrift _ _ _)
  · exact shown

/-- R265, R276: A and B of a quadrature port change together. -/
theorem State.quadEdge_illegal {a b : Bool} (mode : s.fbMode p = 0) (straight : bit (s.portU p 0x084 1) 2 = false)
    (used : s.portUsed p = true) (idle : s.quadBusy p = false) (ha : (s.prt p).a ≠ a) (hb : (s.prt p).b ≠ b) :
    s.quadEdge p a b = (s.onPort p fun q => { q with a := a, b := b }).portFault p 0x9 0x12 := by
  unfold State.quadEdge
  simp [mode, straight, used, idle, ha, hb]

end

/-- Axis 0 is in STANDSTILL with its encoder on port 32, and axis 1 is coupled to that master encoder. Head and tail of the event queue 0x01
are full, and its spill ring begins at the committed entry of axis 0. -/
def faultSpillsOverTable : State :=
  { regs := [(PRF_AXST 0, 2), (QUE_SBASE, 0x80140000), (QUE_CFG 1, 0x62000000), (QUE_ST 1, 0x00200020)]
    bulk := [(0x80140010, 1), (0x80140080, 32)]
    prf := { motion := [(1, { cpl := some { master := 0x3000, isCam := false, tag := 0, engage := .locked } })] }
    que := { data := [(1, { head := List.replicate 16 (entry 0), tail := List.replicate 16 (entry 0) })] } }

theorem portOwner_faultSpillsOverTable : faultSpillsOverTable.portOwner 32 = some 0 := by decide

theorem axState_faultSpillsOverTable : faultSpillsOverTable.axState 0 = 2 := by decide

/-- The state with the new levels of A and B, in which the fault of the port is shown. -/
def levelsSpillOverTable : State := (faultSpillsOverTable.elapse 0).onPort 32 fun q => { q with a := true, b := true }

/-- The spilled event makes axis 0 an unused one, so that the port has no axis when its fault has been shown. -/
theorem portOwner_showPortFault_spilled : (levelsSpillOverTable.showPortFault 32 0x9).portOwner 32 = none := by decide +kernel

theorem exec_quadratureEdge_faultSpillsOverTable :
    exec (.quadratureEdge 0 32 true true) faultSpillsOverTable = .next (levelsSpillOverTable.showPortFault 32 0x9) := by
  have illegal : (faultSpillsOverTable.elapse 0).quadEdge 32 true true = levelsSpillOverTable.portFault 32 0x9 0x12 :=
    State.quadEdge_illegal (by decide) (by decide) (by decide) (by decide) (by decide) (by decide)
  exact congrArg Host.Outcome.next (illegal.trans (State.portFault_unowned portOwner_showPortFault_spilled _))

/-- Refutes O36: the clause of the illegal transition has the axis of the port in FAULT. At a master-encoder port the slaves are decoupled
first, and where the spill ring of the event queue lies over the axis table, their DECOUPLED event changes the entry that names the port: the
fault then finds no axis, and the axis stays in STANDSTILL. The loader rejects an image whose spill ring meets the axis table (R335), but the
clause is about every state. -/
theorem not_senseAndFeedback : ¬ Obligations.SenseAndFeedback := by
  rintro ⟨-, -, -, -, -, -, -, -, illegal, -⟩
  obtain ⟨u, run, -, -, -, faulted⟩ :=
    illegal 0 32 true true faultSpillsOverTable (by decide) (by decide) (by decide) (by decide) (by decide) (by decide)
  obtain rfl := Host.Outcome.next.inj (exec_quadratureEdge_faultSpillsOverTable.symm.trans run)
  obtain ⟨inFault, -⟩ := faulted 0 portOwner_faultSpillsOverTable (by rw [axState_faultSpillsOverTable]; decide)
  have before : levelsSpillOverTable.axState 0 = 2 := axState_faultSpillsOverTable
  have drift := (levelsSpillOverTable.showPortFault_statusDrift 32 0x9 0).state
  omega

end Sys2Proof.Machine
end

section
/-! PROOFS. A step takes the front command, and no command stops the part. -/

namespace Sys2Proof.Machine

/-- Settles O1: `step` looks at the waiting commands alone before it runs the first of them. -/
theorem stepRunsFront : Obligations.StepRunsFront := by
  unfold Obligations.StepRunsFront
  refine ⟨fun c l s => rfl, fun s idle => ?_⟩
  unfold step
  rw [idle]

/-- A step answers a next state: the idle step the state itself, any other what its command answers. -/
theorem step_next (s : State) : ∃ t, step s = .next t := by
  cases waiting : s.pending with
  | nil => exact ⟨s, stepRunsFront.2 s waiting⟩
  | cons c l =>
    obtain ⟨t, run⟩ := exec_next c { s with pending := l }
    refine ⟨t, run ▸ ?_⟩
    rw [← stepRunsFront.1, ← waiting]

/-- Any number of steps answers a next state. -/
theorem run_next (n : Nat) (s : State) : ∃ t, core.run n s = .next t := by
  induction n generalizing s with
  | zero => exact ⟨s, rfl⟩
  | succ n ih =>
    obtain ⟨t, first⟩ := step_next s
    obtain ⟨u, rest⟩ := ih t
    have first' : core.step s = .next t := first
    have runs := Host.Core.run.eq_2 core s n
    simp only [first'] at runs
    exact ⟨u, runs.trans rest⟩

/-- Settles O2: each command by `exec_next`, and a run by induction on the number of its steps. -/
theorem everyCommandRuns : Obligations.EveryCommandRuns := ⟨exec_next, run_next⟩

end Sys2Proof.Machine
end

section
/-! PROOFS. The statement of the Kennel's wakes (R318 to R330). -/

namespace Sys2Proof.Machine

/-- Refutes O42: no event has the number 0x59, a reserved source (R329), so at reset, where nothing is bound to it, the event changes nothing:
the clause of an event without a token has EVUNB count it. -/
theorem not_kennelWakes : ¬ Obligations.KennelWakes := by
  rintro ⟨-, -, -, -, unbound, -⟩
  obtain ⟨u, run, counted, -⟩ := unbound 0 0x59 State.reset (by decide)
  obtain rfl : State.reset.elapse 0 = u := Host.Outcome.next.inj run
  exact absurd counted (by decide)

end Sys2Proof.Machine
end

section
/-! PROOFS. The statement of the ring's cycle (R382 to R401). -/

namespace Sys2Proof.Machine

/-- A master in RING whose cycle is 250 000 ns long and whose frames are due at 125 000 ns. RATE makes the clock run fast, and in the last
nanosecond the count went from 124 999 to 125 001. -/
def sendOffsetPassedOver : State :=
  { regs := [(RNG_CFG, 0x40000000), (RNG_ST, 0x10000002), (RNG_CYC, 250000)]
    clk := { running := true, ns := 125001, pace := 2 ^ 32 + 1 } }

/-- Refutes O49: the instant of sending is met in the nanosecond in which the count passes over it (log 109), so the master sends its frames
at the count 125 001, where the clause of the instants without a send leaves the state. -/
theorem not_ringCycles : ¬ Obligations.RingCycles := by
  rintro ⟨-, -, -, -, -, idle, -⟩
  obtain ⟨u, run, unchanged⟩ := idle 0 sendOffsetPassedOver (by decide)
  obtain rfl := Host.Outcome.next.inj run
  have sent := congrArg (fun u => u.ring.sent) unchanged
  exact absurd sent (by decide +kernel)

end Sys2Proof.Machine
end

section
/-! SUPPORT. How the frames `OnlyChanges` of the operations compose, and what they say of words, fields and parts. -/

namespace Sys2Proof.Machine

section
variable {m : List Part} {l : List Nat} {s t u : State}

theorem OnlyChanges.refl (m : List Part) (l : List Nat) (s : State) : OnlyChanges m l s s := (Keeps.refl m s).onlyChanges l

theorem OnlyChanges.trans (h : OnlyChanges m l s t) (g : OnlyChanges m l t u) : OnlyChanges m l s u := by
  obtain ⟨first, same⟩ := h
  obtain ⟨second, same'⟩ := g
  refine ⟨second.trans first, fun p hp => ?_⟩
  have before := same p hp
  have after := same' p hp
  cases p with
  | reg b => exact fun a ha hl => (after a ha hl).trans (before a ha hl)
  | _ => exact Eq.trans after before

/-- An operation that keeps all but some of the parts `m`. -/
theorem OnlyChanges.after {n : List Part} (h : OnlyChanges m l s t) (k : Keeps n t u) (hn : n ⊆ m) : OnlyChanges m l s u :=
  h.trans ((k.onlyChanges l).mono hn (List.Subset.refl l))

/-- A write of one of the words `l`. -/
theorem OnlyChanges.wr (h : OnlyChanges m l s t) {a : Nat} (v : Nat) (ha : a ∈ l) : OnlyChanges m l s (t.wr a v) := by
  refine h.trans ⟨rfl, fun p hp => ?_⟩
  cases p with
  | reg b => exact fun x _ hx => State.rd_wr_ne t v (ne_of_mem_of_not_mem ha hx).symm
  | _ => rfl

theorem OnlyChanges.put (h : OnlyChanges m l s t) {f : Fld} (v : Nat) (hf : f.addr ∈ l) : OnlyChanges m l s (t.put f v) := h.wr _ hf

theorem OnlyChanges.mark (h : OnlyChanges m l s t) {f : Fld} (b : Bool) (hf : f.addr ∈ l) : OnlyChanges m l s (t.mark f b) := h.wr _ hf

theorem OnlyChanges.satBump (h : OnlyChanges m l s t) {f : Fld} (k : Nat) (hf : f.addr ∈ l) : OnlyChanges m l s (t.satBump f k) := h.wr _ hf

theorem OnlyChanges.bump (h : OnlyChanges m l s t) {f : Fld} (hf : f.addr ∈ l) : OnlyChanges m l s (t.bump f) := h.wr _ hf

theorem OnlyChanges.onRing (h : OnlyChanges m l s t) (f : Ring → Ring) (hm : Part.ring ∈ m) : OnlyChanges m l s (t.onRing f) :=
  h.after (State.onRing_keeps (m := [.ring]) (Keeps.refl _ t) (by decide)) (by simpa using hm)

theorem OnlyChanges.onFresh (h : OnlyChanges m l s t) (f : Nat → Nat) (hm : Part.fresh ∈ m) : OnlyChanges m l s (t.onFresh f) :=
  h.after (State.onFresh_keeps (m := [.fresh]) (Keeps.refl _ t) (by decide)) (by simpa using hm)

/-- The passing of time before a command. -/
theorem OnlyChanges.elapse (dt : Nat) (s : State) (hc : Part.clk ∈ m) (hs : Part.sets ∈ m) : OnlyChanges m l s (s.elapse dt) :=
  (OnlyChanges.of_elapse (OnlyChanges.refl [] l _)).mono (by simp [hc, hs]) (List.Subset.refl l)

/-- A word of a block that is not among the parts `m`, and is none of `l`, stays. -/
theorem OnlyChanges.rd (h : OnlyChanges m l s t) {b : Block} (hb : Part.reg b ∉ m) {a : Nat} (ha : a / 0x1000000 = b.num) (hl : a ∉ l) :
    t.rd a = s.rd a := h.2 (.reg b) hb a ha hl

theorem OnlyChanges.get (h : OnlyChanges m l s t) {b : Block} (hb : Part.reg b ∉ m) {f : Fld} (hf : InBlk b f.addr) (hl : f.addr ∉ l) :
    t.get f = s.get f := by rw [State.get, State.get, h.rd hb hf.1 hl]

end

/-- A field that fits a word saturates at its greatest value. -/
theorem State.get_satBump_fits (s : State) (f : Fld) (k : Nat) (h : Nat.ble (f.lo + f.width) 32 = true) :
    (s.satBump f k).get f = min (s.get f + k) (2 ^ f.width - 1) := s.get_satBump_same f k (Nat.le_of_ble_eq_true h)

theorem State.flag_mark_fits (s : State) (f : Fld) (b : Bool) (h : Nat.ble (f.lo + f.width) 32 = true) (w : Nat.ble 1 f.width = true) :
    (s.mark f b).flag f = b := by
  rw [State.flag, State.get_mark_fits s f b h w]
  cases b <;> rfl

theorem State.flag_put_apart (s : State) {f g : Fld} (v : Nat) (h : fldApart f g = true) : (s.put f v).flag g = s.flag g := by
  rw [State.flag, State.flag, s.get_put_apart v h]

theorem State.flag_mark_apart (s : State) {f g : Fld} (b : Bool) (h : fldApart f g = true) : (s.mark f b).flag g = s.flag g :=
  s.flag_put_apart _ h

end Sys2Proof.Machine
end

section
/-! PROOFS. The statement of the ring's links (R378 to R397). -/

namespace Sys2Proof.Machine

/-! ### Ports (R379) -/

/-- The bit that shows whether port `p` is up. -/
def portBit (p : Nat) : Fld := if p = 0 then RNG_ST_PA else RNG_ST_PB

theorem portBit_addr (p : Nat) : (portBit p).addr = RNG_ST := by
  unfold portBit
  split <;> rfl

/-- The bits of the two ports share nothing with a field `g`. -/
theorem portBit_apart (p : Nat) {g : Fld} (h : (fldApart RNG_ST_PA g && fldApart RNG_ST_PB g) = true) : fldApart (portBit p) g = true := by
  rw [Bool.and_eq_true] at h
  unfold portBit
  split
  · exact h.1
  · exact h.2

section
variable (s : State) (p : Fin 2)

theorem State.portUp_mark_same (b : Bool) : (s.mark (portBit p) b).portUp p = b := by
  match p with
  | 0 => exact s.flag_mark_fits RNG_ST_PA b rfl rfl
  | 1 => exact s.flag_mark_fits RNG_ST_PB b rfl rfl

theorem State.portUp_mark_other (b : Bool) : (s.mark (portBit p) b).portUp (1 - p.val) = s.portUp (1 - p.val) := by
  match p with
  | 0 => exact s.flag_mark_apart (f := RNG_ST_PA) (g := RNG_ST_PB) b rfl
  | 1 => exact s.flag_mark_apart (f := RNG_ST_PB) (g := RNG_ST_PA) b rfl

theorem State.portUp_both : (!s.portUp 0 && !s.portUp 1) = (!s.portUp p && !s.portUp (1 - p.val)) := by
  match p with
  | 0 => rfl
  | 1 => exact Bool.and_comm _ _

end

/-- A change of the word RNG_ST that leaves the bits of the ports. -/
theorem State.portUp_put (s : State) {f : Fld} (v p : Nat) (h : (fldApart f RNG_ST_PA && fldApart f RNG_ST_PB) = true) :
    (s.put f v).portUp p = s.portUp p := by
  rw [Bool.and_eq_true] at h
  unfold State.portUp
  split
  · exact s.flag_put_apart v h.1
  · exact s.flag_put_apart v h.2

/-- The ports are read from the word RNG_ST alone. -/
theorem State.portUp_of_rd {s t : State} (h : t.rd RNG_ST = s.rd RNG_ST) (p : Nat) : t.portUp p = s.portUp p := by
  unfold State.portUp
  split
  · exact congrArg (fun w => fldOf RNG_ST_PA w == 1) h
  · exact congrArg (fun w => fldOf RNG_ST_PB w == 1) h

/-! ### The ring state (R383) -/

section
variable (s : State)

/-- A field of a word that is not RNG_ST, or one apart from STATE and CRUN. -/
theorem State.get_ringState (v : Nat) {g : Fld} (crun : fldApart RNG_ST_CRUN g = true) (state : fldApart RNG_ST_STATE g = true) :
    (s.ringState v).get g = s.get g := by
  unfold State.ringState
  dsimp only
  split
  · rfl
  · refine (State.get_put_apart _ v state).trans ?_
    split
    · exact s.get_put_apart 0 crun
    · rfl

theorem State.portUp_ringState (v p : Nat) : (s.ringState v).portUp p = s.portUp p := by
  unfold State.portUp
  split
  · exact congrArg (· == 1) (s.get_ringState v (g := RNG_ST_PA) rfl rfl)
  · exact congrArg (· == 1) (s.get_ringState v (g := RNG_ST_PB) rfl rfl)

theorem State.get_ringState_STATE {v : Nat} (h : v < 4) : (s.ringState v).get RNG_ST_STATE = v := by
  unfold State.ringState
  dsimp only
  split
  case isTrue same => exact same
  case isFalse => exact (State.get_put_fits _ RNG_ST_STATE v rfl).trans (Nat.mod_eq_of_lt h)

theorem State.ringState_discover {v : Nat} (h : s.ring.discover = true) : (s.ringState v).ring.discover = true := by
  unfold State.ringState
  dsimp only
  split
  · exact h
  · rfl

theorem State.ringState_clkLost (v : Nat) : (s.ringState v).ring.clkLost = s.ring.clkLost := by
  unfold State.ringState
  dsimp only
  split
  · rfl
  · change (State.ring (if v = 3 then s.put RNG_ST_CRUN 0 else s)).clkLost = _
    split <;> rfl

/-- The ring state is shown in RNG_ST alone. -/
theorem State.rd_ringState (v : Nat) {a : Nat} (h : a ≠ RNG_ST) : (s.ringState v).rd a = s.rd a := by
  unfold State.ringState
  dsimp only
  split
  · rfl
  · refine (State.rd_put_ne _ _ v h).trans ?_
    split
    · exact State.rd_put_ne _ _ 0 h
    · rfl

variable {s} {m : List Part} {l : List Nat} {t : State}

theorem OnlyChanges.ringState (h : OnlyChanges m l s t) (v : Nat) (hm : Part.ring ∈ m) (hl : RNG_ST ∈ l) :
    OnlyChanges m l s (t.ringState v) := by
  unfold State.ringState
  dsimp only
  split
  · exact h
  · refine OnlyChanges.onRing (OnlyChanges.put ?_ v hl) _ hm
    split
    · exact h.put 0 hl
    · exact h

end

/-! ### A link comes up (R379, R380, R383) -/

section
variable {s : State} {p : Fin 2}

/-- The range of the forwarding delay in 250 ps: its least value, and how many values it has. -/
def State.fwdRange (s : State) : Nat × Nat := if s.flag RNG_CFG_SPEED then (4000, 321) else (1248, 33)

/-- R379, R380: port `p` is up, and the forwarding delay of its PHY is measured. -/
def State.raisePort (p : Nat) (s : State) : State :=
  (((s.mark (portBit p) true).wr RNG_FWD (s.fwdRange.1 + State.free (s.mark (portBit p) true) s.fwdRange.2)).drew 1).put (PWR_ISL_STATE 0x18) 0

theorem State.rd_raisePort_ST (s : State) (p : Nat) : (s.raisePort p).rd RNG_ST = (s.mark (portBit p) true).rd RNG_ST :=
  (State.rd_put_ne _ _ _ (by decide)).trans (State.rd_wr_ne _ _ (by decide))

theorem State.portUp_raisePort_same (s : State) (p : Fin 2) : (s.raisePort p).portUp p = true :=
  (State.portUp_of_rd (s.rd_raisePort_ST p) p).trans (s.portUp_mark_same p true)

theorem State.portUp_raisePort_other (s : State) (p : Fin 2) : (s.raisePort p).portUp (1 - p.val) = s.portUp (1 - p.val) :=
  (State.portUp_of_rd (s.rd_raisePort_ST p) _).trans (s.portUp_mark_other p true)

theorem State.get_raisePort_STATE (s : State) (p : Nat) : (s.raisePort p).get RNG_ST_STATE = s.get RNG_ST_STATE :=
  (congrArg (fldOf RNG_ST_STATE) (s.rd_raisePort_ST p)).trans (State.get_mark_apart _ true (portBit_apart p rfl))

theorem State.raisePort_onlyChanges (s : State) (p : Nat) :
    OnlyChanges [.fresh] [RNG_ST, RNG_FWD, PWR_ISL 0x18] s (s.raisePort p) := by
  refine OnlyChanges.put (OnlyChanges.onFresh (OnlyChanges.wr (OnlyChanges.mark (.refl _ _ s) true ?_) _ ?_) _ ?_) 0 ?_
  · rw [portBit_addr]; decide
  all_goals decide

/-- A field of RNG_CFG stays when a port comes up. -/
theorem State.get_raisePort_CFG (s : State) (p : Nat) {g : Fld} (h : g.addr = RNG_CFG) : (s.raisePort p).get g = s.get g := by
  refine (s.raisePort_onlyChanges p).get (b := .rng) (by decide) ?_ ?_ <;> rw [h]
  · exact RNG_CFG_blk
  · decide

theorem State.rd_raisePort_FWD (s : State) (p : Nat) :
    s.fwdRange.1 ≤ (s.raisePort p).rd RNG_FWD ∧ (s.raisePort p).rd RNG_FWD < s.fwdRange.1 + s.fwdRange.2 := by
  have small : s.fwdRange.1 + s.fwdRange.2 < 2 ^ 32 ∧ 0 < s.fwdRange.2 := by
    unfold State.fwdRange
    split <;> decide
  have drawn : State.free (s.mark (portBit p) true) s.fwdRange.2 < s.fwdRange.2 := by
    unfold State.free
    rw [if_neg (by omega)]
    exact Nat.mod_lt _ small.2
  have word : (s.raisePort p).rd RNG_FWD = (s.fwdRange.1 + State.free (s.mark (portBit p) true) s.fwdRange.2) % 2 ^ 32 :=
    (State.rd_put_ne _ _ _ (by decide)).trans (State.rd_wr_same _ _ _)
  rw [word, Nat.mod_eq_of_lt (by omega)]
  omega

/-- May a link come up at port `p`? -/
structure LinkMayRise (p : Nat) (s : State) : Prop where
  on : s.ringOn = true
  open_ : s.get RNG_ST_BYP = 0
  down : s.portUp p = false
  used : s.get RNG_CFG_ROLE ≠ 0

theorem State.ringOn_iff (s : State) : s.ringOn = true ↔ s.get RNG_ST_READY = 1 ∧ s.ring.clkLost = false := by
  simp [State.ringOn, State.flag]

theorem State.linkUp_idle (h : ¬ (s.get RNG_ST_READY = 1 ∧ s.ring.clkLost = false) ∨ s.get RNG_ST_BYP = 1 ∨ s.portUp p = true ∨
    s.get RNG_CFG_ROLE = 0) : s.linkUp p = s := by
  refine if_pos ?_
  rw [← s.ringOn_iff] at h
  rcases h with off | closed | up | unused
  · simp [off]
  · simp [State.flag, closed]
  · simp [up]
  · simp [unused]

theorem State.linkUp_member (h : LinkMayRise p s) (member : s.get RNG_CFG_ROLE ≠ 1) : s.linkUp p = s.raisePort p := by
  obtain ⟨on, open_, down, used⟩ := h
  unfold State.linkUp
  rw [if_neg (by simp [on, State.flag, open_, down, used])]
  refine if_neg ?_
  change (s.raisePort p).get RNG_CFG_ROLE ≠ 1
  rwa [s.get_raisePort_CFG p rfl]

/-- R383, R397: a link comes up at the master: the ring starts from DOWN, and a DISCOVER frame is due. -/
theorem State.linkUp_master (h : LinkMayRise p s) (master : s.get RNG_CFG_ROLE = 1) :
    s.linkUp p = if s.get RNG_ST_STATE = 0 then ((s.raisePort p).onRing fun r => { r with discover := true }).ringState (if s.flag RNG_CFG_TOPO then 1 else 3)
      else (s.raisePort p).onRing fun r => { r with discover := true } := by
  obtain ⟨on, open_, down, used⟩ := h
  have role : (s.raisePort p).get RNG_CFG_ROLE = 1 := (s.get_raisePort_CFG p rfl).trans master
  have state : (s.raisePort p).get RNG_ST_STATE = s.get RNG_ST_STATE := s.get_raisePort_STATE p
  have topo : (s.raisePort p).flag RNG_CFG_TOPO = s.flag RNG_CFG_TOPO :=
    congrArg (· == 1) (s.get_raisePort_CFG p (g := RNG_CFG_TOPO) rfl)
  unfold State.linkUp
  rw [if_neg (by simp [on, State.flag, open_, down, used])]
  refine (if_pos role).trans ?_
  rw [← state, ← topo]
  rfl

/-- What a link that comes up can come to. -/
theorem State.linkUp_cases (h : LinkMayRise p s) : s.linkUp p = s.raisePort p ∨
    (s.linkUp p = (s.raisePort p).onRing fun r => { r with discover := true }) ∨
    ∃ v, s.linkUp p = ((s.raisePort p).onRing fun r => { r with discover := true }).ringState v := by
  by_cases master : s.get RNG_CFG_ROLE = 1
  case neg => exact .inl (State.linkUp_member h master)
  rw [State.linkUp_master h master]
  split
  · exact .inr (.inr ⟨_, rfl⟩)
  · exact .inr (.inl rfl)

theorem State.rd_linkUp (h : LinkMayRise p s) {a : Nat} (ha : a ≠ RNG_ST) : (s.linkUp p).rd a = (s.raisePort p).rd a := by
  obtain same | same | ⟨v, same⟩ := State.linkUp_cases h <;> rw [same]
  · rfl
  · exact State.rd_ringState _ v ha

theorem State.portUp_linkUp (h : LinkMayRise p s) (q : Nat) : (s.linkUp p).portUp q = (s.raisePort p).portUp q := by
  obtain same | same | ⟨v, same⟩ := State.linkUp_cases h <;> rw [same]
  · rfl
  · exact State.portUp_ringState _ v q

theorem State.linkUp_onlyChanges (h : LinkMayRise p s) : OnlyChanges [.fresh, .ring] [RNG_ST, RNG_FWD, PWR_ISL 0x18] s (s.linkUp p) := by
  have raised := (s.raisePort_onlyChanges p).mono (n := [.fresh, .ring]) (by decide) (List.Subset.refl _)
  obtain same | same | ⟨v, same⟩ := State.linkUp_cases h <;> rw [same]
  · exact raised
  · exact raised.onRing _ (by decide)
  · exact (raised.onRing _ (by decide)).ringState v (by decide) (by decide)

end

/-! ### A link goes down (R379, R383, R396) -/

section
variable {s : State} {p : Fin 2}

theorem State.linkDown_idle (h : s.portUp p = false) : s.linkDown p = s := if_pos (by simp [h])

/-- The ports after port `p` went down. -/
theorem State.portUp_both_lowered (s : State) (p : Fin 2) :
    (!(s.mark (portBit p) false).portUp 0 && !(s.mark (portBit p) false).portUp 1) = !s.portUp (1 - p.val) := by
  rw [State.portUp_both _ p, s.portUp_mark_same p, s.portUp_mark_other p]
  rfl

theorem State.get_lowered_CFG (s : State) (p : Nat) {g : Fld} (h : g.addr = RNG_CFG) : (s.mark (portBit p) false).get g = s.get g :=
  State.get_put_ne _ _ _ _ (by rw [h, portBit_addr]; decide)

theorem State.get_lowered_STATE (s : State) (p : Nat) : (s.mark (portBit p) false).get RNG_ST_STATE = s.get RNG_ST_STATE :=
  State.get_mark_apart _ _ (portBit_apart p rfl)

theorem State.linkDown_member (up : s.portUp p = true) (member : s.get RNG_CFG_ROLE ≠ 1) : s.linkDown p = s.mark (portBit p) false := by
  unfold State.linkDown
  rw [if_neg (by simp [up])]
  exact if_neg (by change State.get (s.mark (portBit p) false) _ ≠ 1; rwa [s.get_lowered_CFG p rfl])

theorem State.linkDown_last (up : s.portUp p = true) (master : s.get RNG_CFG_ROLE = 1) (last : s.portUp (1 - p.val) = false) :
    s.linkDown p = (s.mark (portBit p) false).ringState 0 := by
  unfold State.linkDown
  rw [if_neg (by simp [up])]
  refine (if_pos ((s.get_lowered_CFG p rfl).trans master)).trans (if_pos ?_)
  exact (s.portUp_both_lowered p).trans (by rw [last]; rfl)

theorem State.linkDown_first (up : s.portUp p = true) (master : s.get RNG_CFG_ROLE = 1) (other : s.portUp (1 - p.val) = true) :
    s.linkDown p = if s.get RNG_ST_STATE = 2 then (s.mark (portBit p) false).onRing fun r => { r with broken := true }
      else s.mark (portBit p) false := by
  unfold State.linkDown
  rw [if_neg (by simp [up])]
  refine (if_pos ((s.get_lowered_CFG p rfl).trans master)).trans ((if_neg ?_).trans ?_)
  · exact ne_true_of_eq_false ((s.portUp_both_lowered p).trans (by rw [other]; rfl))
  · rw [← s.get_lowered_STATE p]
    rfl

theorem OnlyChanges.lowerPort {m : List Part} {l : List Nat} {t : State} (h : OnlyChanges m l s t) (hl : RNG_ST ∈ l) (p : Nat) :
    OnlyChanges m l s (t.mark (portBit p) false) :=
  h.mark false (by rwa [portBit_addr])

/-- What a link that goes down can come to. -/
theorem State.linkDown_cases (s : State) (p : Nat) : s.portUp p = false ∧ s.linkDown p = s ∨ s.linkDown p = s.mark (portBit p) false ∨
    s.linkDown p = ((s.mark (portBit p) false).onRing fun r => { r with broken := true }) ∨
    s.linkDown p = (s.mark (portBit p) false).ringState 0 := by
  unfold State.linkDown
  split
  case isTrue down => exact .inl ⟨by simpa using down, rfl⟩
  rw [show (if p = 0 then RNG_ST_PA else RNG_ST_PB) = portBit p from rfl]
  dsimp only
  split
  · split
    · exact .inr (.inr (.inr rfl))
    · split
      · exact .inr (.inr (.inl rfl))
      · exact .inr (.inl rfl)
  · exact .inr (.inl rfl)

theorem State.linkDown_onlyChanges (s : State) (p : Nat) : OnlyChanges [.ring] [RNG_ST] s (s.linkDown p) := by
  have lowered : OnlyChanges [.ring] [RNG_ST] s (s.mark (portBit p) false) := (OnlyChanges.refl _ _ s).lowerPort (by decide) p
  obtain ⟨-, same⟩ | same | same | same := s.linkDown_cases p <;> rw [same]
  · exact .refl _ _ s
  · exact lowered
  · exact lowered.onRing _ (by decide)
  · exact lowered.ringState 0 (by decide) (by decide)

/-- A field of RNG_ST that is none of the ports', STATE and CRUN stays. -/
theorem State.get_linkDown (s : State) (p : Nat) {g : Fld} (ports : (fldApart RNG_ST_PA g && fldApart RNG_ST_PB g) = true)
    (crun : fldApart RNG_ST_CRUN g = true) (state : fldApart RNG_ST_STATE g = true) : (s.linkDown p).get g = s.get g := by
  have lowered : (s.mark (portBit p) false).get g = s.get g := State.get_mark_apart _ _ (portBit_apart p ports)
  obtain ⟨-, same⟩ | same | same | same := s.linkDown_cases p <;> rw [same]
  · exact lowered
  · exact lowered
  · exact (State.get_ringState _ 0 crun state).trans lowered

/-- The loss of the clock of island 0x18 is no matter of the links. -/
theorem State.linkDown_clkLost (s : State) (p : Nat) : (s.linkDown p).ring.clkLost = s.ring.clkLost := by
  obtain ⟨-, same⟩ | same | same | same := s.linkDown_cases p <;> rw [same]
  · rfl
  · rfl
  · exact State.ringState_clkLost _ 0

theorem State.portUp_linkDown (s : State) (p : Fin 2) :
    (s.linkDown p).portUp p = false ∧ (s.linkDown p).portUp (1 - p.val) = s.portUp (1 - p.val) := by
  have lowered := And.intro (s.portUp_mark_same p false) (s.portUp_mark_other p false)
  obtain ⟨down, same⟩ | same | same | same := s.linkDown_cases p
  · exact same.symm ▸ ⟨down, rfl⟩
  · exact same.symm ▸ lowered
  · exact same.symm ▸ lowered
  · rw [same, State.portUp_ringState, State.portUp_ringState]
    exact lowered

theorem State.get_linkDown_STATE_last (up : s.portUp p = true) (master : s.get RNG_CFG_ROLE = 1) (last : s.portUp (1 - p.val) = false) :
    (s.linkDown p).get RNG_ST_STATE = 0 := by
  rw [State.linkDown_last up master last]
  exact State.get_ringState_STATE _ (by decide)

/-- R396, R53: what withdrawing the indication leaves. -/
theorem State.ringWithdraw_leaves (s : State) :
    s.ringWithdraw.get RNG_ST_READY = 0 ∧ s.ringWithdraw.get RNG_ST_BYP = 1 ∧ s.ringWithdraw.portUp 0 = false ∧
      s.ringWithdraw.portUp 1 = false ∧
      (s.get RNG_CFG_ROLE = 1 → s.portUp 0 = true ∨ s.portUp 1 = true → s.ringWithdraw.get RNG_ST_STATE = 0) ∧
      OnlyChanges [.ring] [RNG_ST] s s.ringWithdraw := by
  let unready := s.mark RNG_ST_READY false
  let first := unready.linkDown (0 : Fin 2)
  have ports (p : Nat) : s.ringWithdraw.portUp p = (first.linkDown (1 : Fin 2)).portUp p := State.portUp_put _ _ p rfl
  have kept {p : Nat} : unready.portUp p = s.portUp p := State.portUp_put _ _ p rfl
  obtain ⟨down0, other0⟩ := unready.portUp_linkDown 0
  obtain ⟨down1, other1⟩ := first.portUp_linkDown 1
  have marked : OnlyChanges [.ring] [RNG_ST] s unready := (OnlyChanges.refl _ _ s).mark false (by decide)
  have firstOnly := marked.trans (unready.linkDown_onlyChanges 0)
  refine ⟨?ready, ?bypass, (ports 0).trans (other1.trans down0), (ports 1).trans down1, fun master up => ?state,
    (firstOnly.trans (first.linkDown_onlyChanges 1)).mark true (by decide)⟩
  case ready =>
    calc s.ringWithdraw.get RNG_ST_READY
        = (first.linkDown (1 : Fin 2)).get RNG_ST_READY := State.get_mark_apart _ _ rfl
      _ = first.get RNG_ST_READY := first.get_linkDown 1 rfl rfl rfl
      _ = unready.get RNG_ST_READY := unready.get_linkDown 0 rfl rfl rfl
      _ = 0 := s.get_mark_fits _ _ rfl rfl
  case bypass => exact State.get_mark_fits _ _ _ rfl rfl
  case state =>
    refine (State.get_mark_apart _ _ rfl).trans ?_
    rcases Bool.eq_false_or_eq_true (s.portUp 1) with up1 | down1
    · exact State.get_linkDown_STATE_last (p := 1) (other0.trans (kept.trans up1))
        ((firstOnly.get (by decide) RNG_CFG_ROLE_blk (by decide)).trans master) down0
    · have idle : first.linkDown (1 : Fin 2) = first := State.linkDown_idle (other0.trans (kept.trans down1))
      refine (congrArg (State.get · RNG_ST_STATE) idle).trans ?_
      exact State.get_linkDown_STATE_last (p := 0) (kept.trans (up.resolve_right (by simp [down1])))
        ((marked.get (by decide) RNG_CFG_ROLE_blk (by decide)).trans master) (kept.trans down1)

end

/-! ### Foreign frames and message buffers (R378, R381, R395) -/

section
variable {s : State} {p etype src : Nat}

theorem State.foreignFrame_idle (h : ¬ (s.get RNG_ST_READY = 1 ∧ s.ring.clkLost = false) ∨ s.portUp p = false ∨
    etype = s.get RNG_ETYPE_ETYPE ∧ (s.get RNG_CFG_ROLE ≠ 1 ∨ src = s.rd64 RNG_MAC % 2 ^ 48)) : s.foreignFrame p etype src = s := by
  unfold State.foreignFrame
  rw [← s.ringOn_iff] at h
  rcases h with off | down | ⟨known, own⟩
  · exact if_pos (by simp [off])
  · exact if_pos (by simp [down])
  · split
    · rfl
    · rw [if_neg (by simp [known]), if_neg (by tauto)]

theorem State.foreignFrame_type (on : s.ringOn = true) (up : s.portUp p = true) (other : etype ≠ s.get RNG_ETYPE_ETYPE) :
    s.foreignFrame p etype src = s.satBump RNG_ERR_FOREIGN 1 := by
  unfold State.foreignFrame
  rw [if_neg (by simp [on, up]), if_pos other]

theorem State.foreignFrame_source (on : s.ringOn = true) (up : s.portUp p = true) (known : etype = s.get RNG_ETYPE_ETYPE)
    (master : s.get RNG_CFG_ROLE = 1) (foreign : src ≠ s.rd64 RNG_MAC % 2 ^ 48) :
    s.foreignFrame p etype src = (s.satBump RNG_ERR_FOREIGN 1).severe 0x18 0 RNG_ERR := by
  unfold State.foreignFrame
  rw [if_neg (by simp [on, up]), if_neg (by simp [known]), if_pos ⟨master, foreign⟩]

/-- A frame with a foreign EtherType or source counts in FOREIGN, and of the registers that word alone changes. -/
theorem State.countForeign (s : State) (dt : Nat) :
    ((s.elapse dt).satBump RNG_ERR_FOREIGN 1).get RNG_ERR_FOREIGN = min (s.get RNG_ERR_FOREIGN + 1) 255 ∧
      OnlyChanges [.clk, .sets] [RNG_ERR] s ((s.elapse dt).satBump RNG_ERR_FOREIGN 1) :=
  ⟨State.get_satBump_fits _ _ 1 rfl, (OnlyChanges.elapse dt s (by decide) (by decide)).satBump 1 (by decide)⟩

end

/-- Settles O48: links by `linkUp_master`, `linkUp_member` and the cases of `linkDown`, the indication by `ringWithdraw_leaves`. -/
theorem ringLinks : Obligations.RingLinks := by
  unfold Obligations.RingLinks
  refine ⟨?up, ?upIdle, ?downIdle, ?downLast, ?downFirst, ?downMember, ?leave, ?lost, ?returned, ?etype, ?source, ?known, ?release⟩
  case up =>
    intro dt p s on open_ down used
    have rise : LinkMayRise p (s.elapse dt) := ⟨(State.ringOn_iff _).mpr on, open_, down, used⟩
    obtain ⟨least, greatest⟩ := (s.elapse dt).rd_raisePort_FWD p
    rw [← State.rd_linkUp rise (by decide)] at least greatest
    refine ⟨_, rfl, (State.portUp_linkUp rise p).trans (State.portUp_raisePort_same _ p),
      (State.portUp_linkUp rise _).trans (State.portUp_raisePort_other _ p), fun slow => ?slow, fun fast => ?fast, fun master => ?discover,
      fun master down => ?starts, fun other => ?stays, ?island, ?frame⟩
    case slow =>
      have range : (s.elapse dt).fwdRange = (1248, 33) := if_neg (by simp [State.flag, slow])
      rw [range] at least greatest
      exact ⟨least, Nat.le_of_lt_succ greatest⟩
    case fast =>
      have range : (s.elapse dt).fwdRange = (4000, 321) := if_pos (by simp [State.flag, fast])
      rw [range] at least greatest
      exact ⟨least, Nat.le_of_lt_succ greatest⟩
    case discover =>
      rw [State.linkUp_master rise master]
      split
      · exact State.ringState_discover _ rfl
      · rfl
    case starts =>
      rw [State.linkUp_master rise master, if_pos ((s.get_elapse dt _).trans down), State.get_ringState_STATE]
      · rw [State.flag_elapse]
        simp only [State.flag, beq_iff_eq]
      · split <;> decide
    case stays =>
      by_cases master : s.get RNG_CFG_ROLE = 1
      · rw [State.linkUp_master rise master, if_neg (mt (s.get_elapse dt _).symm.trans (other.resolve_left (not_not_intro master)))]
        exact State.get_raisePort_STATE _ p
      · rw [State.linkUp_member rise master]
        exact State.get_raisePort_STATE _ p
    case island =>
      exact (congrArg (fldOf (PWR_ISL_STATE 0x18)) (State.rd_linkUp rise (by decide))).trans (State.get_put_fits _ (PWR_ISL_STATE 0x18) 0 rfl)
    case frame =>
      exact (OnlyChanges.elapse dt s (by decide) (by decide)).trans
        ((State.linkUp_onlyChanges rise).mono (by decide) (List.Subset.refl _))
  case upIdle => exact fun dt p s h => ⟨_, rfl, State.linkUp_idle h⟩
  case downIdle => exact fun dt p s down => ⟨_, rfl, State.linkDown_idle (s := s.elapse dt) down⟩
  case downLast =>
    intro dt p s up master last
    exact ⟨_, rfl, ((s.elapse dt).portUp_linkDown p).1, State.get_linkDown_STATE_last (s := s.elapse dt) up master last,
      ((s.elapse dt).linkDown_onlyChanges p).of_elapse.mono (by decide) (List.Subset.refl _)⟩
  case downFirst =>
    intro dt p s up master other
    obtain ⟨down, still⟩ := (s.elapse dt).portUp_linkDown p
    refine ⟨_, rfl, down, still.trans other, ?_, ?_, ((s.elapse dt).linkDown_onlyChanges p).of_elapse.mono (by decide) (List.Subset.refl _)⟩
    all_goals rw [State.linkDown_first (s := s.elapse dt) up master other]
    · split <;> exact State.get_lowered_STATE _ p
    · split
      case isTrue ring => rw [decide_eq_true ((State.get_elapse s dt _).symm.trans ring), Bool.or_true]; rfl
      case isFalse ring => rw [decide_eq_false (mt (State.get_elapse s dt _).trans ring), Bool.or_false]; rfl
  case downMember =>
    intro dt p s up member
    obtain ⟨down, still⟩ := (s.elapse dt).portUp_linkDown p
    have same := State.linkDown_member (s := s.elapse dt) up member
    refine ⟨_, rfl, down, still, ?_, ?_⟩
    · rw [same]
      exact State.get_lowered_STATE _ p
    · rw [same]
      exact (OnlyChanges.elapse dt s (by decide) (by decide)).lowerPort (by decide) p
  case leave =>
    intro dt s
    obtain ⟨ready, bypass, down0, down1, state, frame⟩ := (s.elapse dt).ringWithdraw_leaves
    exact ⟨_, rfl, ready, bypass, down0, down1, state, frame.of_elapse.mono (by decide) (List.Subset.refl _)⟩
  case lost =>
    intro dt s
    obtain ⟨ready, bypass, down0, down1, state, frame⟩ := ((s.elapse dt).onRing fun r => { r with clkLost := true }).ringWithdraw_leaves
    exact ⟨_, rfl, ready, bypass, down0, down1, state,
      ((OnlyChanges.elapse dt s (by decide) (by decide)).onRing _ (by decide)).trans (frame.mono (by decide) (List.Subset.refl _)),
      (State.linkDown_clkLost _ 1).trans (State.linkDown_clkLost _ 0)⟩
  case returned =>
    exact fun dt s => ⟨_, rfl, rfl, (OnlyChanges.elapse dt s (by decide) (by decide)).onRing _ (by decide)⟩
  case etype =>
    intro dt p e src s on up other
    have counts := State.foreignFrame_type (s := s.elapse dt) (src := src.toNat) ((State.ringOn_iff _).mpr on) up other
    obtain ⟨count, frame⟩ := s.countForeign dt
    exact ⟨_, congrArg Host.Outcome.next counts, count, frame⟩
  case source =>
    intro dt p e src s on up known master foreign
    have reports := State.foreignFrame_source (s := s.elapse dt) ((State.ringOn_iff _).mpr on) up known master foreign
    obtain ⟨count, frame⟩ := s.countForeign dt
    have keeps : Keeps [.reg .err, .log] ((s.elapse dt).satBump RNG_ERR_FOREIGN 1)
      (((s.elapse dt).satBump RNG_ERR_FOREIGN 1).severe 0x18 0 RNG_ERR) := State.severe_keeps (Keeps.refl _ _) (by decide)
    refine ⟨_, congrArg Host.Outcome.next reports, (keeps.get (by decide) RNG_ERR_FOREIGN_blk).trans count, ?_,
      (frame.mono (by decide) (List.Subset.refl _)).after keeps (by decide)⟩
    exact (State.rd_report_ERR_PRES _ 0x18 4 0 RNG_ERR _ 0).trans (by rw [frame.rd (b := .err) (by decide) (by decide) (by decide)])
  case known => exact fun dt p e src s h => ⟨_, rfl, State.foreignFrame_idle h⟩
  case release =>
    intro dt b s
    refine ⟨_, rfl, ?_, fun x other => ?_, State.get_put_fits _ RNG_SVQ_FREE _ rfl,
      ((OnlyChanges.elapse dt s (by decide) (by decide)).onRing _ (by decide)).put _ (by decide)⟩
    · change b.val ∉ s.ring.svUse.filter (· != b.val)
      simp
    · change x.val ∈ s.ring.svUse.filter (· != b.val) ↔ _
      simp [Fin.val_ne_of_ne other]

end Sys2Proof.Machine
end

section
/-! SUPPORT. What the operations of a queue (R335 to R350) leave of the registers, the entries and the bursts. -/

namespace Sys2Proof.Machine

section
variable {m : List Part} {l : List Nat} {s t : State} {q : Nat}

theorem OnlyChanges.onQue (h : OnlyChanges m l s t) (f : Que → Que) (hm : Part.que ∈ m) : OnlyChanges m l s (t.onQue f) :=
  h.after (State.onQue_keeps (m := [.que]) (Keeps.refl _ t) (by decide)) (by simpa using hm)

theorem OnlyChanges.onBus (h : OnlyChanges m l s t) (f : Bus → Bus) (hm : Part.bus ∈ m) : OnlyChanges m l s (t.onBus f) :=
  h.after (State.onBus_keeps (m := [.bus]) (Keeps.refl _ t) (by decide)) (by simpa using hm)

theorem OnlyChanges.latch (h : OnlyChanges m l s t) {f : Fld} (hm : Part.sets ∈ m) (hf : f.addr ∈ l) : OnlyChanges m l s (t.latch f) :=
  (h.mark true hf).after (State.onSets_keeps (m := [.sets]) (Keeps.refl _ _) (by decide)) (by simpa using hm)

/-! ### Bursts (R343, R344) -/

theorem State.showBursts_onlyChanges (s : State) : OnlyChanges [] [QUE_BST] s s.showBursts :=
  (((OnlyChanges.refl _ _ s).put _ (by decide)).put _ (by decide)).put _ (by decide)

theorem State.settle_keeps_que (s : State) (q : Nat) : Keeps [.que] s (s.settle q) := State.settle_keeps (Keeps.refl _ s) (by decide)

theorem State.spillFetch_onlyChanges (s : State) (q : Nat) : OnlyChanges [.que] [QUE_BST] s (s.spillFetch q) := by
  unfold State.spillFetch
  dsimp only
  split
  · exact .refl _ _ s
  · split
    · exact ((OnlyChanges.refl _ _ s).onQue _ (by decide)).trans ((State.showBursts_onlyChanges _).mono (by decide) (List.Subset.refl _))
    · exact .refl _ _ s

theorem State.spillWrite_onlyChanges (s : State) (q : Nat) : OnlyChanges [.bulk, .que] [QUE_BST] s (s.spillWrite q) := by
  unfold State.spillWrite
  dsimp only
  split
  · exact .refl _ _ s
  next tag _ =>
    split
    · have stored (a : Nat) (b : List Byte) : OnlyChanges [.bulk, .que] [QUE_BST] s (s.bulkStore a b) :=
        (OnlyChanges.refl _ _ s).after (State.bulkStore_keeps (m := [.bulk]) (Keeps.refl _ s) (by decide)) (by decide)
      exact (((stored _ _).onQue _ (by decide)).onQue _ (by decide)).trans
        ((State.showBursts_onlyChanges _).mono (by decide) (List.Subset.refl _))
    · exact .refl _ _ s

theorem State.makeRoom_onlyChanges (k q n : Nat) (s : State) : OnlyChanges [.bulk, .que] [QUE_BST] s (State.makeRoom k q n s) := by
  induction k generalizing s with
  | zero => exact .refl _ _ s
  | succ k ih =>
    have settled : OnlyChanges [.bulk, .que] [QUE_BST] s (s.settle q) := (OnlyChanges.refl _ _ s).after (s.settle_keeps_que q) (by decide)
    unfold State.makeRoom
    dsimp only
    split
    · exact settled
    · exact (settled.trans (State.spillWrite_onlyChanges _ q)).trans (ih _)

/-! ### The depth (R348, R349) -/

/-- The parts that the event of a queue may change. -/
abbrev eventParts : List Part := [.reg .knl, .knl, .sets]

/-- A level crossing: its flag, its count and the last direction. -/
theorem OnlyChanges.crossing (h : OnlyChanges eventParts [QUE_ST q, QUE_WEV q] s t) (c : Bool) {f g : Fld} (b : Bool) (hf : f.addr = QUE_WEV q)
    (hg : g.addr = QUE_WEV q) : OnlyChanges eventParts [QUE_ST q, QUE_WEV q] s
      (if c = true then ((t.latch f).satBump g 1).mark (QUE_WEV_LAST q) b else t) := by
  split
  · exact ((h.latch (by decide) (by simp [hf])).satBump 1 (by simp [hg])).mark b (by simp [QUE_WEV_LAST])
  · exact h

/-- The words of a crossing lie apart from the one that shows the depth. -/
theorem State.crossing_depth (t : State) (c b : Bool) {f g : Fld} (hf : f.addr = QUE_WEV q) (hg : g.addr = QUE_WEV q) :
    (if c = true then ((t.latch f).satBump g 1).mark (QUE_WEV_LAST q) b else t).get (QUE_ST_DEPTH q) = t.get (QUE_ST_DEPTH q) := by
  have apart : QUE_ST q ≠ QUE_WEV q := by simp only [QUE_ST, QUE_WEV]; omega
  split
  · refine (State.get_put_ne _ _ _ _ apart).trans ((State.get_put_ne _ _ _ _ (by rw [hg]; exact apart)).trans ?_)
    exact State.get_put_ne t f (QUE_ST_DEPTH q) _ (by rw [hf]; exact apart)
  · rfl

/-- The event that a queue fires touches the Kennel alone. -/
theorem State.fires_keeps (t : State) (c : Bool) (e : Nat) : Keeps [.reg .knl, .knl] t (if c = true then t.event e else t) := by
  split
  · exact State.event_keeps (Keeps.refl _ t) (by decide)
  · exact Keeps.refl _ t

theorem State.setDepth_onlyChanges (s : State) (q new : Nat) : OnlyChanges eventParts [QUE_ST q, QUE_WEV q] s (s.setDepth q new) := by
  unfold State.setDepth
  dsimp only
  have shown : OnlyChanges eventParts [QUE_ST q, QUE_WEV q] s
      ((s.put (QUE_ST_DEPTH q) new).put (QUE_ST_PEAK q) (max (s.get (QUE_ST_PEAK q)) new)) :=
    ((OnlyChanges.refl _ _ s).put new (by simp [QUE_ST_DEPTH])).put _ (by simp [QUE_ST_PEAK])
  exact ((shown.crossing _ true rfl rfl).crossing _ false rfl rfl).after (State.fires_keeps _ _ q) (by decide)

theorem State.get_setDepth (s : State) (q : Nat) {new : Nat} (h : new < 2 ^ 16) : (s.setDepth q new).get (QUE_ST_DEPTH q) = new := by
  unfold State.setDepth
  dsimp only
  refine ((State.fires_keeps _ _ q).get (by decide) (QUE_ST_DEPTH_blk q)).trans ?_
  rw [State.crossing_depth _ _ _ rfl rfl, State.crossing_depth _ _ _ rfl rfl, State.get_put_apart _ _ rfl,
    State.get_put_fits _ (QUE_ST_DEPTH q) _ rfl]
  exact Nat.mod_eq_of_lt h

theorem State.setDepth_keeps_knl (s : State) (q new : Nat) : Keeps [.reg .knl, .reg .que, .sets, .knl] s (s.setDepth q new) :=
  State.setDepth_keeps (Keeps.refl _ s) (by decide)

theorem State.que_setDepth (s : State) (q new : Nat) : (s.setDepth q new).que = s.que := (s.setDepth_keeps_knl q new).same .que (by decide)

/-! ### Entries that enter and leave (R338, R341) -/

/-- R338: the entries `es` are in the tail of queue `q`, before they are counted. -/
def State.takeIn (q : Nat) (es : List (BitVec 64)) (s : State) : State :=
  let s := State.makeRoom 3 q es.length s
  let d := s.qData q
  (s.setQ q { d with tail := d.tail ++ es }).settle q

theorem State.enqueue_eq (s : State) (q : Nat) (es : List (BitVec 64)) : s.enqueue q es =
    ((s.takeIn q es).put (whole (QUE_PUSHC q)) ((s.takeIn q es).rd (QUE_PUSHC q) + es.length)).setDepth q
      (((s.takeIn q es).put (whole (QUE_PUSHC q)) ((s.takeIn q es).rd (QUE_PUSHC q) + es.length)).get (QUE_ST_DEPTH q) + es.length) := rfl

theorem State.takeIn_onlyChanges (s : State) (q : Nat) (es : List (BitVec 64)) : OnlyChanges [.bulk, .que] [QUE_BST] s (s.takeIn q es) :=
  ((State.makeRoom_onlyChanges 3 q es.length s).onQue _ (by decide)).after (State.settle_keeps_que _ q) (by decide)

theorem State.enqueue_onlyChanges (s : State) (q : Nat) (es : List (BitVec 64)) :
    OnlyChanges [.bulk, .que, .reg .knl, .knl, .sets] [QUE_BST, QUE_ST q, QUE_WEV q, QUE_PUSHC q] s (s.enqueue q es) := by
  rw [State.enqueue_eq]
  exact (((s.takeIn_onlyChanges q es).mono (by decide) (by simp)).put _ (by simp [whole])).trans
    ((State.setDepth_onlyChanges _ q _).mono (by decide) (by simp))

theorem State.rd_put_whole (s : State) (a v : Nat) : (s.put (whole a) v).rd a = v % 2 ^ 32 := by
  refine (State.rd_wr_same s a _).trans ?_
  simp only [whole, fldPut]
  omega

theorem State.rd_enqueue_PUSHC (s : State) (q : Nat) (es : List (BitVec 64)) :
    (s.enqueue q es).rd (QUE_PUSHC q) = (s.rd (QUE_PUSHC q) + es.length) % 2 ^ 32 := by
  have stays := (s.takeIn_onlyChanges q es).rd (b := .que) (by decide) (QUE_PUSHC_blk q).1 (by simp only [QUE_PUSHC, QUE_BST, List.mem_singleton]; omega)
  have apart : QUE_PUSHC q ∉ [QUE_ST q, QUE_WEV q] := by simp only [QUE_PUSHC, QUE_ST, QUE_WEV, List.mem_cons, List.not_mem_nil, or_false]; omega
  rw [State.enqueue_eq, (State.setDepth_onlyChanges _ q _).rd (b := .que) (by decide) (QUE_PUSHC_blk q).1 apart, State.rd_put_whole, stays]

theorem State.get_enqueue_DEPTH (s : State) (q : Nat) (es : List (BitVec 64)) (h : s.get (QUE_ST_DEPTH q) + es.length < 2 ^ 16) :
    (s.enqueue q es).get (QUE_ST_DEPTH q) = s.get (QUE_ST_DEPTH q) + es.length := by
  have stays := (s.takeIn_onlyChanges q es).get (b := .que) (by decide) (QUE_ST_DEPTH_blk q) (by simp only [QUE_ST_DEPTH, QUE_ST, QUE_BST, List.mem_singleton]; omega)
  have apart : QUE_ST q ≠ QUE_PUSHC q := by simp only [QUE_PUSHC, QUE_ST]; omega
  have counted (v : Nat) : ((s.takeIn q es).put (whole (QUE_PUSHC q)) v).get (QUE_ST_DEPTH q) = s.get (QUE_ST_DEPTH q) :=
    (State.get_put_ne _ _ _ _ apart).trans stays
  rw [State.enqueue_eq, counted, State.get_setDepth _ q h]

/-- A queue that can take entries keeps its depth within its capacity, which is at most 2^15 (R335). -/
theorem State.depth_of_canPush {n : Nat} (h : s.canPush q n = true) : s.get (QUE_ST_DEPTH q) + n < 2 ^ 16 := by
  have room : s.get (QUE_ST_DEPTH q) + n ≤ s.qCap q := by
    unfold State.canPush at h
    rw [Bool.and_eq_true, decide_eq_true_eq] at h
    exact h.1
  have small : s.qCap q ≤ 2 ^ 15 := by
    have := s.get_lt (QUE_CFG_CAPL q)
    unfold State.qCap
    split
    · omega
    · exact Nat.pow_le_pow_right Nat.two_pos (Nat.le_of_lt_succ this)
  omega

/-- R341: an entry has left the head of queue `q`, before it is counted. -/
def State.takeHead (q : Nat) (l : List (BitVec 64)) (s : State) : State := ((s.setQ q { s.qData q with head := l }).settle q).spillFetch q

theorem State.takeHead_onlyChanges (s : State) (q : Nat) (l : List (BitVec 64)) : OnlyChanges [.que] [QUE_BST] s (s.takeHead q l) :=
  (((OnlyChanges.refl _ _ s).onQue _ (by decide)).after (State.settle_keeps_que _ q) (by decide)).trans (State.spillFetch_onlyChanges _ q)

section
variable {e : BitVec 64} {rest : List (BitVec 64)} (h : (s.qData q).head = e :: rest)
include h

theorem State.dequeue_eq : s.dequeue q = (e, ((s.takeHead q rest).put (whole (QUE_POPC q)) ((s.takeHead q rest).rd (QUE_POPC q) + 1)).setDepth q
    (((s.takeHead q rest).put (whole (QUE_POPC q)) ((s.takeHead q rest).rd (QUE_POPC q) + 1)).get (QUE_ST_DEPTH q) - 1)) := by
  unfold State.dequeue
  dsimp only
  rw [h]
  rfl

theorem State.rd_dequeue_POPC : (s.dequeue q).2.rd (QUE_POPC q) = (s.rd (QUE_POPC q) + 1) % 2 ^ 32 := by
  have stays := (s.takeHead_onlyChanges q rest).rd (b := .que) (by decide) (QUE_POPC_blk q).1 (by simp only [QUE_POPC, QUE_BST, List.mem_singleton]; omega)
  have apart : QUE_POPC q ∉ [QUE_ST q, QUE_WEV q] := by simp only [QUE_POPC, QUE_ST, QUE_WEV, List.mem_cons, List.not_mem_nil, or_false]; omega
  rw [State.dequeue_eq h, (State.setDepth_onlyChanges _ q _).rd (b := .que) (by decide) (QUE_POPC_blk q).1 apart, State.rd_put_whole, stays]

theorem State.get_dequeue_DEPTH : (s.dequeue q).2.get (QUE_ST_DEPTH q) = s.get (QUE_ST_DEPTH q) - 1 := by
  have stays := (s.takeHead_onlyChanges q rest).get (b := .que) (by decide) (QUE_ST_DEPTH_blk q) (by simp only [QUE_ST_DEPTH, QUE_ST, QUE_BST, List.mem_singleton]; omega)
  have apart : QUE_ST q ≠ QUE_POPC q := by simp only [QUE_POPC, QUE_ST]; omega
  have counted (v : Nat) : ((s.takeHead q rest).put (whole (QUE_POPC q)) v).get (QUE_ST_DEPTH q) = s.get (QUE_ST_DEPTH q) :=
    (State.get_put_ne _ _ _ _ apart).trans stays
  have small := s.get_lt (QUE_ST_DEPTH q)
  rw [State.dequeue_eq h, counted]
  exact State.get_setDepth _ q (lt_of_le_of_lt (Nat.sub_le _ _) small)

end

theorem State.heldPops_setQ (s : State) (q : Nat) (d : QueueData) : (s.setQ q d).que.heldPops = s.que.heldPops := rfl

theorem State.heldPops_settle (s : State) (q : Nat) : (s.settle q).que.heldPops = s.que.heldPops := by
  unfold State.settle
  split <;> rfl

theorem State.heldPops_spillFetch (s : State) (q : Nat) : (s.spillFetch q).que.heldPops = s.que.heldPops := by
  unfold State.spillFetch
  dsimp only
  split
  · rfl
  · split <;> rfl

/-- R341: an entry that leaves takes no pop from those held. -/
theorem State.heldPops_dequeue {e : BitVec 64} {rest : List (BitVec 64)} (h : (s.qData q).head = e :: rest) :
    (s.dequeue q).2.que.heldPops = s.que.heldPops := by
  rw [State.dequeue_eq h, State.que_setDepth]
  exact (State.heldPops_spillFetch _ q).trans (State.heldPops_settle _ q)

end

end Sys2Proof.Machine
end

section
/-! PROOFS. The statement of the pushes of a service core (R337 to R340). -/

namespace Sys2Proof.Machine

section
variable {s : State} {c q n : Nat}

/-! ### The result of a push (R340) -/

theorem State.motionDone_keeps_svc (s : State) (c r : Nat) : Keeps [.ring, .svc] s (s.motionDone c r) :=
  State.motionDone_keeps (Keeps.refl _ s) (by decide)

/-- A result is shown in QUE_PRES; the answer to a MOTION touches no register. -/
theorem State.pushResult_onlyChanges (s : State) (c q : Nat) (busy : Bool) (r : Nat) :
    OnlyChanges [.ring, .svc] [QUE_PRES c] s (s.pushResult c q busy r) := by
  have shown : OnlyChanges [.ring, .svc] [QUE_PRES c] s (((s.mark (QUE_PRES_BUSY c) busy).put (QUE_PRES_RESULT c) r).put (QUE_PRES_Q c) q) :=
    (((OnlyChanges.refl _ _ s).mark busy (by simp [QUE_PRES_BUSY])).put r (by simp [QUE_PRES_RESULT])).put q (by simp [QUE_PRES_Q])
  unfold State.pushResult
  dsimp only
  split
  · exact shown
  · exact shown.after (State.motionDone_keeps_svc _ c r) (by decide)

theorem State.rd_pushResult_PRES (s : State) (c q : Nat) (busy : Bool) (r : Nat) : (s.pushResult c q busy r).rd (QUE_PRES c) =
    (((s.mark (QUE_PRES_BUSY c) busy).put (QUE_PRES_RESULT c) r).put (QUE_PRES_Q c) q).rd (QUE_PRES c) := by
  unfold State.pushResult
  dsimp only
  split
  · rfl
  · exact (State.motionDone_keeps_svc _ c r).rd (b := .que) (by decide) (QUE_PRES_blk c).1

theorem State.get_pushResult_RESULT (s : State) (c q : Nat) (busy : Bool) {r : Nat} (h : r < 16) :
    (s.pushResult c q busy r).get (QUE_PRES_RESULT c) = r :=
  calc (s.pushResult c q busy r).get (QUE_PRES_RESULT c)
      = (((s.mark (QUE_PRES_BUSY c) busy).put (QUE_PRES_RESULT c) r).put (QUE_PRES_Q c) q).get (QUE_PRES_RESULT c) :=
        congrArg (fldOf (QUE_PRES_RESULT c)) (s.rd_pushResult_PRES c q busy r)
    _ = ((s.mark (QUE_PRES_BUSY c) busy).put (QUE_PRES_RESULT c) r).get (QUE_PRES_RESULT c) := State.get_put_apart _ q rfl
    _ = r := (State.get_put_fits _ (QUE_PRES_RESULT c) r rfl).trans (Nat.mod_eq_of_lt h)

theorem State.get_pushResult_BUSY (s : State) (c q : Nat) (busy : Bool) (r : Nat) :
    (s.pushResult c q busy r).get (QUE_PRES_BUSY c) = b2n busy :=
  calc (s.pushResult c q busy r).get (QUE_PRES_BUSY c)
      = (((s.mark (QUE_PRES_BUSY c) busy).put (QUE_PRES_RESULT c) r).put (QUE_PRES_Q c) q).get (QUE_PRES_BUSY c) :=
        congrArg (fldOf (QUE_PRES_BUSY c)) (s.rd_pushResult_PRES c q busy r)
    _ = (s.mark (QUE_PRES_BUSY c) busy).get (QUE_PRES_BUSY c) := (State.get_put_apart _ q rfl).trans (State.get_put_apart _ r rfl)
    _ = b2n busy := State.get_mark_fits _ _ busy rfl rfl

/-- The words of the queues lie above those of the cores' pushes. -/
theorem State.rd_pushResult_high (s : State) (c q : Nat) (busy : Bool) (r : Nat) {a : Nat} (block : a / 0x1000000 = Block.que.num)
    (h : 0x18001000 ≤ a) : (s.pushResult c q busy r).rd a = s.rd a := by
  refine (s.pushResult_onlyChanges c q busy r).rd (b := .que) (by decide) block ?_
  simp only [QUE_PRES, List.mem_singleton]
  omega

theorem State.rd_pushResult_PUSHC (s : State) (c q : Nat) (busy : Bool) (r k : Nat) :
    (s.pushResult c q busy r).rd (QUE_PUSHC k) = s.rd (QUE_PUSHC k) :=
  s.rd_pushResult_high c q busy r (a := QUE_PUSHC k) (QUE_PUSHC_blk k).1 (by simp only [QUE_PUSHC]; omega)

theorem State.get_pushResult_DEPTH (s : State) (c q : Nat) (busy : Bool) (r k : Nat) :
    (s.pushResult c q busy r).get (QUE_ST_DEPTH k) = s.get (QUE_ST_DEPTH k) :=
  congrArg (fldOf (QUE_ST_DEPTH k)) (s.rd_pushResult_high c q busy r (a := QUE_ST k) (QUE_ST_blk k).1 (by simp only [QUE_ST]; omega))

theorem State.que_pushResult (s : State) (c q : Nat) (busy : Bool) (r : Nat) : (s.pushResult c q busy r).que = s.que :=
  (s.pushResult_onlyChanges c q busy r).2 .que (by decide)

/-! ### The course of a push (R338, R339) -/

theorem State.length_staged (s : State) (c n : Nat) : (s.staged c n).length = n := by simp [State.staged]

section
variable (idle : s.get (QUE_PRES_BUSY c) = 0) (sound : s.pushCheck 1 q = 1)
include idle sound

theorem State.corePushTry_accepted (room : s.canPush q (pushCount n) = true) :
    s.corePushTry c q n = (s.enqueue q (s.staged c (pushCount n))).pushResult c q false 1 := by
  unfold State.corePushTry State.tryPush
  simp only [State.flag, idle, sound, State.length_staged, room]
  rfl

theorem State.corePushTry_refused (full : s.canPush q (pushCount n) = false) :
    s.corePushTry c q n = (s.satBump (QUE_ERR_REFUSED q) 1).pushResult c q false 8 := by
  unfold State.corePushTry State.tryPush
  simp only [State.flag, idle, sound, State.length_staged, full]
  rfl

theorem State.corePushWait_accepted (room : s.canPush q (pushCount n) = true) (first : s.nextWait q = none) :
    s.corePushWait c q n =
      ((s.enqueue q (s.staged c (pushCount n))).onQue fun w => { w with lastCore := tabSet w.lastCore q c }).pushResult c q false 1 := by
  unfold State.corePushWait
  simp only [State.flag, idle, sound, State.length_staged, room, first]
  rfl

theorem State.corePushWait_pending (wait : s.canPush q (pushCount n) = false ∨ s.nextWait q ≠ none) :
    s.corePushWait c q n =
      (s.onQue fun w => { w with waits := tabSet w.waits c { q := q, entries := s.staged c (pushCount n) } }).pushResult c q true 2 := by
  have held : (s.canPush q (pushCount n) && (s.nextWait q).isNone) = false := by
    rcases wait with full | others
    · rw [full, Bool.false_and]
    · rw [Option.isNone_eq_false_iff.mpr (Option.isSome_iff_ne_none.mpr others), Bool.and_false]
  unfold State.corePushWait
  simp only [State.flag, idle, sound, State.length_staged, held]
  rfl

end

theorem State.acceptWait_next {w : WaitPush} (next : s.nextWait q = some (c, w)) : s.acceptWait q =
    ((s.enqueue q w.entries).onQue fun u => { u with waits := tabDel u.waits c, lastCore := tabSet u.lastCore q c }).pushResult c q false 1 := by
  unfold State.acceptWait
  rw [next]

theorem State.cancelPush_pending {w : WaitPush} (pending : tabFind s.que.waits c = some w) :
    s.cancelPush c = (s.onQue fun u => { u with waits := tabDel u.waits c }).pushResult c w.q false 3 := by
  unfold State.cancelPush
  rw [pending]

end

/-- Settles O43: each push comes to an `enqueue`, a count or a place among the waiting ones, and shows its result by `pushResult`. -/
theorem queuePushes : Obligations.QueuePushes := by
  unfold Obligations.QueuePushes
  refine ⟨?accepted, ?refused, ?next, ?pending, ?taken, ?cancelled⟩
  case accepted =>
    intro dt c q n s idle sound room
    have len := State.length_staged (s.elapse dt) c (pushCount n)
    refine ⟨_, congrArg Host.Outcome.next (State.corePushTry_accepted (s := s.elapse dt) idle sound room),
      State.get_pushResult_RESULT _ _ _ _ (by decide), ?_, ?_⟩
    · rw [State.rd_pushResult_PUSHC, State.rd_enqueue_PUSHC, len, State.rd_elapse]
    · rw [State.get_pushResult_DEPTH, State.get_enqueue_DEPTH _ _ _ (by rw [len]; exact State.depth_of_canPush room), len, State.get_elapse]
  case refused =>
    intro dt c q n s idle sound full
    have counts {a : Nat} (apart : a ≠ QUE_ERR q) : ((s.elapse dt).satBump (QUE_ERR_REFUSED q) 1).rd a = s.rd a := State.rd_put_ne _ _ _ apart
    refine ⟨_, congrArg Host.Outcome.next (State.corePushTry_refused (s := s.elapse dt) idle sound full),
      State.get_pushResult_RESULT _ _ _ _ (by decide), ?_, ?_, ?_⟩
    · exact (congrArg (fldOf (QUE_ERR_REFUSED q)) (State.rd_pushResult_high _ c q false 8 (QUE_ERR_blk q).1
        (by simp only [QUE_ERR]; omega))).trans (State.get_satBump_fits _ _ 1 rfl)
    · exact (State.rd_pushResult_PUSHC ..).trans (counts (by simp only [QUE_PUSHC, QUE_ERR]; omega))
    · exact (State.get_pushResult_DEPTH ..).trans (congrArg (fldOf (QUE_ST_DEPTH q)) (counts (by simp only [QUE_ST_DEPTH, QUE_ST, QUE_ERR]; omega)))
  case next =>
    intro dt c q n s idle sound room first
    refine ⟨_, congrArg Host.Outcome.next (State.corePushWait_accepted (s := s.elapse dt) idle sound room first),
      State.get_pushResult_RESULT _ _ _ _ (by decide), ?_⟩
    rw [State.rd_pushResult_PUSHC, State.rd_onQue, State.rd_enqueue_PUSHC, State.length_staged, State.rd_elapse]
  case pending =>
    intro dt c q n s idle sound wait
    refine ⟨_, congrArg Host.Outcome.next (State.corePushWait_pending (s := s.elapse dt) idle sound wait),
      State.get_pushResult_RESULT _ _ _ _ (by decide), State.get_pushResult_BUSY _ _ _ _ _, State.rd_pushResult_PUSHC .., ?_⟩
    rw [State.que_pushResult]
    exact congrArg Option.isSome (tabFind_tabSet_same _ _ _)
  case taken =>
    intro dt q c w s next
    refine ⟨_, congrArg Host.Outcome.next (State.acceptWait_next next), State.get_pushResult_RESULT _ _ _ _ (by decide),
      State.get_pushResult_BUSY _ _ _ _ _, ?_, ?_⟩
    · rw [State.rd_pushResult_PUSHC, State.rd_onQue, State.rd_enqueue_PUSHC, State.rd_elapse]
    · rw [State.que_pushResult]
      exact (tabFind_tabDel _ _ _).trans (if_pos rfl)
  case cancelled =>
    intro dt c w s pending
    refine ⟨_, congrArg Host.Outcome.next (State.cancelPush_pending (s := s.elapse dt) pending), State.get_pushResult_RESULT _ _ _ _ (by decide),
      State.get_pushResult_BUSY _ _ _ _ _, ?_, fun q => State.rd_pushResult_PUSHC ..⟩
    rw [State.que_pushResult]
    exact (tabFind_tabDel _ _ _).trans (if_pos rfl)

end Sys2Proof.Machine
end

section
/-! PROOFS. The statement of pops and flushes (R337, R341, R347, R350). -/

namespace Sys2Proof.Machine

section
variable {s : State} {r q : Nat} {e : BitVec 64} {l : List (BitVec 64)}

/-! ### What a pop returns (R341, R484) -/

theorem State.popReturn_keeps_svc (s : State) (r q : Nat) (e : BitVec 64) : Keeps [.bus, .svc] s (s.popReturn r q e) :=
  State.popReturn_keeps (Keeps.refl _ s) (by decide)

theorem State.popReturn_lastRead (s : State) (r q : Nat) (e : BitVec 64) : (s.popReturn r q e).bus.lastRead = e.toNat % 2 ^ 32 := rfl

theorem State.popReturn_shadow (s : State) (r q : Nat) (e : BitVec 64) :
    (s.popReturn r q e).shadowOf r (QUE_POP q + 4) = some (BitVec.ofNat 32 (e.toNat / 2 ^ 32)) := by
  have held (b : Tab (List Shadow)) (x : List Shadow) : tabGet [] (tabSet b r x) r = x := tabGet_tabSet_same _ _ _ _
  unfold State.popReturn State.shadowOf
  simp only [State.onBus, held, List.find?_cons_of_pos, beq_self_eq_true, Option.map_some]

theorem State.rd_popReturn (s : State) (r q : Nat) (e : BitVec 64) {a : Nat} {b : Block} (block : a / 0x1000000 = b.num) :
    (s.popReturn r q e).rd a = s.rd a := (s.popReturn_keeps_svc r q e).rd (b := b) (by simp) block

theorem State.que_popReturn (s : State) (r q : Nat) (e : BitVec 64) : (s.popReturn r q e).que = s.que :=
  (s.popReturn_keeps_svc r q e).same .que (by decide)

/-! ### The course of a pop (R341) -/

/-- A pop by a service core of a sound queue that is its own, and holds entries. -/
structure PopTakes (q : Nat) (s : State) : Prop where
  own : s.get (QUE_CFG_CONS q) = 1
  sound : s.get (QUE_CFG_BROKEN q) = 0
  filled : s.get (QUE_ST_DEPTH q) ≠ 0

theorem State.pop_taken {c : Fin 4} (h : PopTakes q s) (head : (s.qData q).head = e :: l) (alone : s.nextHeld q = none) :
    s.pop (.core c) q = (s.dequeue q).2.popReturn c q e := by
  obtain ⟨own, sound, filled⟩ := h
  have first : (s.dequeue q).1 = e := congrArg Prod.fst (State.dequeue_eq head)
  unfold State.pop
  simp only [State.mayPop, own, filled, State.flag, sound, head, alone]
  simp only [beq_self_eq_true, Bool.not_true, Bool.false_eq_true, if_false, Option.isSome_none, first, accId]
  rfl

theorem State.pop_held {c : Fin 4} (h : PopTakes q s) (head : (s.qData q).head ≠ []) (others : s.nextHeld q ≠ none) :
    s.pop (.core c) q = s.onQue fun w => { w with heldPops := w.heldPops ++ [(c.val, q)] } := by
  obtain ⟨own, sound, filled⟩ := h
  obtain ⟨e, l, head⟩ := List.exists_cons_of_ne_nil head
  unfold State.pop
  simp only [State.mayPop, own, filled, State.flag, sound, head, Option.isSome_iff_ne_none.mpr others]
  rfl

theorem State.pop_empty {c : Fin 4} (own : s.get (QUE_CFG_CONS q) = 1) (empty : s.get (QUE_ST_DEPTH q) = 0) :
    s.pop (.core c) q = (s.satBump (QUE_ERR_EMPTY q) 1).popReturn c q 0 := by
  unfold State.pop
  simp only [State.mayPop, own, empty]
  rfl

/-- R341: the held pop of reader `r` leaves its place, and `r` was served last. -/
def State.servePop (r q : Nat) (s : State) : State :=
  s.onQue fun w => { w with heldPops := w.heldPops.erase (r, q), lastPop := tabSet w.lastPop q r }

theorem State.heldPop_taken (turn : s.nextHeld q = some r) (sound : s.get (QUE_CFG_BROKEN q) = 0) (filled : s.get (QUE_ST_DEPTH q) ≠ 0)
    (head : (s.qData q).head = e :: l) : s.heldPop q = ((s.servePop r q).dequeue q).2.popReturn r q e := by
  have first : ((s.servePop r q).dequeue q).1 = e := congrArg Prod.fst (State.dequeue_eq (s := s.servePop r q) head)
  unfold State.heldPop
  simp only [turn, State.flag, sound, filled, head]
  exact congrArg (fun x => ((s.servePop r q).dequeue q).2.popReturn r q x) first

/-! ### The flush (R350) -/

/-- R350: the queue is empty and its entries are counted, before its held pops return. -/
def State.emptied (q : Nat) (s : State) : State :=
  let d := s.qData q
  let n := s.get (QUE_ST_DEPTH q)
  let s := s.setQ q { ringRd := d.ringRd + d.ringCount }
  let s := s.onQue fun w => { w with bursts := w.bursts.map fun b => if b.q = q && !b.wr then { b with entries := [] } else b }
  (s.wr (QUE_POPC q) (s.rd (QUE_POPC q) + n)).setDepth q 0

/-- R350: one held pop of a flushed queue returns VALID 0. -/
def State.returnEmpty (q : Nat) (s : State) (h : Nat × Nat) : State :=
  (s.onQue fun w => { w with heldPops := w.heldPops.erase h }).popReturn h.1 q 0

theorem State.flush_eq (s : State) (q : Nat) :
    s.flush q = ((s.emptied q).que.heldPops.filter fun h => h.2 == q).foldl (State.returnEmpty q) (s.emptied q) := rfl

/-- The held pops that return keep the words and the entries of the queues. -/
theorem State.foldl_returnEmpty (q : Nat) (hs : List (Nat × Nat)) (s : State) :
    Keeps [.bus, .svc, .que] s (hs.foldl (State.returnEmpty q) s) ∧ (hs.foldl (State.returnEmpty q) s).que.data = s.que.data := by
  induction hs generalizing s with
  | nil => exact ⟨Keeps.refl _ s, rfl⟩
  | cons h hs ih =>
    obtain ⟨keeps, data⟩ := ih (State.returnEmpty q s h)
    have one : Keeps [.bus, .svc, .que] s (State.returnEmpty q s h) :=
      State.popReturn_keeps (State.onQue_keeps (Keeps.refl _ s) (by decide)) (by decide)
    exact ⟨one.trans keeps, data.trans (congrArg Que.data (State.que_popReturn _ h.1 q 0) :)⟩

theorem State.rd_emptied_POPC (s : State) (q : Nat) : (s.emptied q).rd (QUE_POPC q) = (s.rd (QUE_POPC q) + s.get (QUE_ST_DEPTH q)) % 2 ^ 32 := by
  have apart : QUE_POPC q ∉ [QUE_ST q, QUE_WEV q] := by
    simp only [QUE_POPC, QUE_ST, QUE_WEV, List.mem_cons, List.not_mem_nil, or_false]
    omega
  exact ((State.setDepth_onlyChanges _ q 0).rd (b := .que) (by decide) (QUE_POPC_blk q).1 apart).trans (State.rd_wr_same _ _ _)

theorem State.qData_emptied (s : State) (q : Nat) :
    (s.emptied q).qData q = { ringRd := (s.qData q).ringRd + (s.qData q).ringCount } := by
  refine (congrArg (fun w : Que => tabGet {} w.data q) (State.que_setDepth _ q 0)).trans ?_
  exact tabGet_tabSet_same _ _ _ _

end

/-- Settles O44: a pop that is served comes to `dequeue` and `popReturn`, a flush to `emptied`. -/
theorem queuePops : Obligations.QueuePops := by
  unfold Obligations.QueuePops
  refine ⟨?taken, ?empty, ?completes, ?held, ?flush⟩
  case taken =>
    intro dt c q e l s own sound filled head alone
    refine ⟨_, congrArg Host.Outcome.next (State.pop_taken (s := s.elapse dt) ⟨own, sound, filled⟩ head alone), rfl,
      State.popReturn_shadow _ _ _ _, ?_, ?_⟩
    · exact (State.rd_popReturn _ _ _ _ (QUE_POPC_blk q).1).trans (State.rd_dequeue_POPC (s := s.elapse dt) head)
    · exact (congrArg (fldOf (QUE_ST_DEPTH q)) (State.rd_popReturn _ _ _ _ (QUE_ST_blk q).1)).trans
        (State.get_dequeue_DEPTH (s := s.elapse dt) head)
  case empty =>
    intro dt c q s own empty
    refine ⟨_, congrArg Host.Outcome.next (State.pop_empty (s := s.elapse dt) own empty), rfl, ?_, ?_⟩
    · exact (congrArg (fldOf (QUE_ERR_EMPTY q)) (State.rd_popReturn _ _ _ _ (QUE_ERR_blk q).1)).trans (State.get_satBump_fits _ _ 1 rfl)
    · exact (State.rd_popReturn _ _ _ _ (QUE_POPC_blk q).1).trans (State.rd_put_ne _ _ _ (by simp only [QUE_ERR_EMPTY, QUE_ERR, QUE_POPC]; omega))
  case completes =>
    intro dt q r e l s turn sound filled head
    have dropped : (((s.elapse dt).servePop r q).qData q).head = e :: l := head
    refine ⟨_, congrArg Host.Outcome.next (State.heldPop_taken turn sound filled head), rfl, ?_, ?_, ?_⟩
    · exact (State.rd_popReturn _ _ _ _ (QUE_POPC_blk q).1).trans (State.rd_dequeue_POPC dropped)
    · exact (congrArg (fldOf (QUE_ST_DEPTH q)) (State.rd_popReturn _ _ _ _ (QUE_ST_blk q).1)).trans (State.get_dequeue_DEPTH dropped)
    · rw [State.que_popReturn, State.heldPops_dequeue dropped]
      rfl
  case held =>
    intro dt c q s own sound filled others head
    exact ⟨_, congrArg Host.Outcome.next (State.pop_held (s := s.elapse dt) ⟨own, sound, filled⟩ head others), rfl, rfl,
      (OnlyChanges.elapse dt s (by decide) (by decide)).onQue _ (by decide)⟩
  case flush =>
    intro dt c q s own
    obtain ⟨keeps, data⟩ := State.foldl_returnEmpty q
      (((s.elapse dt).emptied q).que.heldPops.filter fun h => h.2 == q.val) ((s.elapse dt).emptied q)
    have entries := (congrArg (fun d => tabGet ({} : QueueData) d q.val) data).trans ((s.elapse dt).qData_emptied q)
    refine ⟨_, congrArg Host.Outcome.next (if_pos own), ?_, ?_, congrArg QueueData.head entries, congrArg QueueData.tail entries,
      congrArg QueueData.ringCount entries⟩
    · exact (keeps.get (by decide) (QUE_ST_DEPTH_blk q)).trans (State.get_setDepth _ q (by decide))
    · exact (keeps.rd (by decide) (QUE_POPC_blk q).1).trans ((s.elapse dt).rd_emptied_POPC q)

end Sys2Proof.Machine
end

section
/-! SUPPORT. What the operations of the Kennel (R315 to R329) leave of the registers and the tokens. -/

namespace Sys2Proof.Machine

section
variable {m : List Part} {l : List Nat} {s t : State}

theorem OnlyChanges.onKnl (h : OnlyChanges m l s t) (f : Knl → Knl) (hm : Part.knl ∈ m) : OnlyChanges m l s (t.onKnl f) :=
  h.after (State.onKnl_keeps (m := [.knl]) (Keeps.refl _ t) (by decide)) (by simpa using hm)

theorem OnlyChanges.wr64 (h : OnlyChanges m l s t) {a : Nat} (v : Nat) (lo : a ∈ l) (hi : a + 4 ∈ l) : OnlyChanges m l s (t.wr64 a v) :=
  (h.wr _ lo).wr _ hi

end

/-! ### The fields of an executor (R308) -/

/-- The word that shows what executor `x` runs and has in its slot. -/
def execWord (x : Nat) : Nat := if x < 4 then KNL_CORE x else KNL_XCORE (x - 4)

theorem slotV_eq (x : Nat) : slotV x = ⟨execWord x, 15, 1⟩ := by unfold slotV execWord; split <;> rfl
theorem slotT_eq (x : Nat) : slotT x = ⟨execWord x, 0, 9⟩ := by unfold slotT execWord; split <;> rfl
theorem runV_eq (x : Nat) : runV x = ⟨execWord x, 31, 1⟩ := by unfold runV execWord; split <;> rfl
theorem runT_eq (x : Nat) : runT x = ⟨execWord x, 16, 9⟩ := by unfold runT execWord; split <;> rfl

/-- The words of the executors lie between the counters and the tokens. -/
theorem execWord_range (x : Nat) : 0x17000100 ≤ execWord x ∧ execWord x < 0x17000400 := by
  unfold execWord
  split <;> simp only [KNL_CORE, KNL_XCORE] <;> omega

theorem execWord_blk (x : Nat) : InBlk .knl (execWord x) := by
  have := execWord_range x
  simp only [InBlk, Block.num]
  omega

theorem KNL_D1_EVENT_blk (tok : Nat) : InBlk .knl (KNL_D1_EVENT tok).addr := by
  simp only [InBlk, Block.num, KNL_D1_EVENT, KNL_D1]
  omega

section
variable {s : State} (tok : Nat)

/-! ### The state of a token (R314, R316) -/

/-- The words that a change of the state of token `tok` touches. -/
abbrev tokenWords (tok : Nat) : List Nat := [KNL_CNTA, KNL_CNTB, KNL_TST tok]

theorem stateCount_addr (st : Nat) : (stateCount st).addr = KNL_CNTA ∨ (stateCount st).addr = KNL_CNTB := by
  unfold stateCount
  split
  · exact .inl rfl
  · exact .inl rfl
  · exact .inl rfl
  · exact .inr rfl
  · exact .inr rfl
  · exact .inr rfl

theorem KNL_TST_range : 0x17004000 ≤ KNL_TST tok ∧ KNL_TST tok < 0x17005000 := by simp only [KNL_TST]; omega

theorem execWord_not_tokenWords (x : Nat) : execWord x ∉ tokenWords tok := by
  have := execWord_range x
  have := KNL_TST_range tok
  simp only [tokenWords, KNL_CNTA, KNL_CNTB, List.mem_cons, List.not_mem_nil, or_false]
  omega

theorem State.setToken_onlyChanges (s : State) (st : Nat) : OnlyChanges [] (tokenWords tok) s (s.setToken tok st) := by
  have count (k : Nat) : (stateCount k).addr ∈ tokenWords tok := by
    rcases stateCount_addr k with h | h <;> simp [h]
  exact (((OnlyChanges.refl _ _ s).put _ (count _)).put _ (count _)).put _ (by simp [KNL_TST_STATE])

theorem State.get_setToken_STATE (s : State) {st : Nat} (h : st < 8) : (s.setToken tok st).get (KNL_TST_STATE tok) = st :=
  (State.get_put_fits _ (KNL_TST_STATE tok) st rfl).trans (Nat.mod_eq_of_lt h)

/-- Another field of the token's word, or a field of another token. -/
theorem State.get_setToken_apart (s : State) (st : Nat) {g : Fld} (word : 0x17004000 ≤ g.addr)
    (apart : g.addr ≠ KNL_TST tok ∨ fldApart (KNL_TST_STATE tok) g = true) : (s.setToken tok st).get g = s.get g := by
  have count (t : State) (k v : Nat) : (t.put (stateCount k) v).get g = t.get g := by
    refine State.get_put_ne _ _ _ _ ?_
    rcases stateCount_addr k with h | h <;> rw [h] <;> simp only [KNL_CNTA, KNL_CNTB] <;> omega
  have state (t : State) : (t.put (KNL_TST_STATE tok) st).get g = t.get g := by
    rcases apart with other | apart
    · exact State.get_put_ne _ _ _ _ other
    · exact State.get_put_apart _ _ apart
  unfold State.setToken
  dsimp only
  rw [state, count]
  exact count _ _ _

/-! ### Tokens that become READY (R321) and FREE (R315) -/

/-- The words that a token which becomes READY touches. -/
abbrev readyWords (tok : Nat) : List Nat := [KNL_HEAD, KNL_HEAD + 4, KNL_CNTA, KNL_CNTB, KNL_TST tok, KNL_TSTAMP tok]

theorem State.undelay_onlyChanges (s : State) : OnlyChanges [.knl] [KNL_HEAD, KNL_HEAD + 4] s (s.undelay tok) := by
  unfold State.undelay State.showHead
  split
  · exact ((OnlyChanges.refl _ _ s).onKnl _ (by decide)).wr64 _ (by decide) (by decide)
  · exact ((OnlyChanges.refl _ _ s).onKnl _ (by decide)).wr64 _ (by decide) (by decide)

theorem KNL_TSTAMP_mem_readyWords : KNL_TSTAMP tok ∈ readyWords tok := by simp

theorem State.undelay_setToken_onlyChanges (s : State) : OnlyChanges [.knl] (readyWords tok) s ((s.undelay tok).setToken tok 2) := by
  have out : OnlyChanges [.knl] (readyWords tok) s (s.undelay tok) := (s.undelay_onlyChanges tok).mono (List.Subset.refl _) (by simp)
  exact out.trans ((State.setToken_onlyChanges tok _ 2).mono (List.nil_subset _) (by simp))

theorem State.makeReady_onlyChanges (s : State) (why : Nat) : OnlyChanges [.knl] (readyWords tok) s (s.makeReady tok why) := by
  have shown := (State.undelay_setToken_onlyChanges tok s).put (f := KNL_TST_WHY tok) why (by simp [KNL_TST_WHY])
  exact (shown.wr _ (KNL_TSTAMP_mem_readyWords tok)).onKnl _ (by simp)

/-- The word of a token that becomes READY. -/
theorem State.rd_makeReady_TST (s : State) (why : Nat) :
    (s.makeReady tok why).rd (KNL_TST tok) = (((s.undelay tok).setToken tok 2).put (KNL_TST_WHY tok) why).rd (KNL_TST tok) :=
  (State.rd_onKnl _ _ _).trans (State.rd_wr_ne _ _ (by simp only [KNL_TST, KNL_TSTAMP]; omega))

theorem State.get_makeReady_STATE (s : State) (why : Nat) : (s.makeReady tok why).get (KNL_TST_STATE tok) = 2 :=
  calc (s.makeReady tok why).get (KNL_TST_STATE tok)
      = (((s.undelay tok).setToken tok 2).put (KNL_TST_WHY tok) why).get (KNL_TST_STATE tok) :=
        congrArg (fldOf (KNL_TST_STATE tok)) (s.rd_makeReady_TST tok why)
    _ = ((s.undelay tok).setToken tok 2).get (KNL_TST_STATE tok) := State.get_put_apart _ _ rfl
    _ = 2 := State.get_setToken_STATE tok _ (by decide)

theorem State.get_makeReady_WHY (s : State) {why : Nat} (h : why < 8) : (s.makeReady tok why).get (KNL_TST_WHY tok) = why :=
  (congrArg (fldOf (KNL_TST_WHY tok)) (s.rd_makeReady_TST tok why)).trans
    ((State.get_put_fits _ (KNL_TST_WHY tok) why rfl).trans (Nat.mod_eq_of_lt h))

theorem State.get_makeReady_PEND (s : State) (why : Nat) : (s.makeReady tok why).get (KNL_TST_PEND tok) = s.get (KNL_TST_PEND tok) :=
  calc (s.makeReady tok why).get (KNL_TST_PEND tok)
      = (((s.undelay tok).setToken tok 2).put (KNL_TST_WHY tok) why).get (KNL_TST_PEND tok) :=
        congrArg (fldOf (KNL_TST_PEND tok)) (s.rd_makeReady_TST tok why)
    _ = ((s.undelay tok).setToken tok 2).get (KNL_TST_PEND tok) := State.get_put_apart _ _ rfl
    _ = (s.undelay tok).get (KNL_TST_PEND tok) := State.get_setToken_apart tok _ 2 (KNL_TST_range tok).1 (.inr rfl)
    _ = s.get (KNL_TST_PEND tok) := (s.undelay_onlyChanges tok).get (b := .knl) (by decide) (KNL_TST_PEND_blk tok) (by
        have := KNL_TST_range tok
        simp only [KNL_TST_PEND, KNL_HEAD, List.mem_cons, List.not_mem_nil, or_false]
        omega)

/-- The word of the event that a token names. -/
def eventWord (s : State) (tok : Nat) : Nat := KNL_EVB (s.get (KNL_D1_EVENT tok))

theorem eventWord_range : 0x17000400 ≤ eventWord s tok ∧ eventWord s tok < 0x17000800 := by
  simp only [eventWord, KNL_EVB]
  omega

theorem State.freeToken_onlyChanges (s : State) : OnlyChanges [] (eventWord s tok :: tokenWords tok) s (s.freeToken tok) := by
  have freed : OnlyChanges [] (eventWord s tok :: tokenWords tok) s ((s.setToken tok 0).mark (KNL_TST_PEND tok) false) :=
    ((s.setToken_onlyChanges tok 0).mono (List.Subset.refl _) (by simp)).mark false (by simp [KNL_TST_PEND])
  unfold State.freeToken
  dsimp only
  split
  · exact (freed.mark false (by simp [eventWord, KNL_EVB_BOUND])).put 0 (by simp [eventWord, KNL_EVB_TOKEN])
  · exact freed

/-- A field of a token's word when the token becomes FREE. -/
theorem State.get_freeToken (s : State) {g : Fld} (h : g.addr = KNL_TST tok) :
    (s.freeToken tok).get g = ((s.setToken tok 0).mark (KNL_TST_PEND tok) false).get g := by
  have apart (e : Nat) : g.addr ≠ KNL_EVB e := by
    have := KNL_TST_range tok
    simp only [KNL_EVB]
    omega
  unfold State.freeToken
  dsimp only
  split
  · exact (State.get_put_ne _ _ _ _ (apart _)).trans (State.get_put_ne _ _ _ _ (apart _))
  · rfl

theorem State.get_freeToken_STATE (s : State) : (s.freeToken tok).get (KNL_TST_STATE tok) = 0 :=
  (s.get_freeToken tok rfl).trans ((State.get_mark_apart _ _ rfl).trans (State.get_setToken_STATE tok s (by decide)))

/-- FAIL stays when the token becomes FREE. -/
theorem State.get_freeToken_FAIL (s : State) : (s.freeToken tok).get (KNL_TST_FAIL tok) = s.get (KNL_TST_FAIL tok) :=
  (s.get_freeToken tok rfl).trans ((State.get_mark_apart _ _ rfl).trans (s.get_setToken_apart tok 0 (KNL_TST_range tok).1 (.inr rfl)))

/-! ### Taking and completing (R324, R326) -/

/-- What the executor `x` and its token show once the token of its slot is taken. -/
structure SlotTaken (x tok : Nat) (s u : State) : Prop where
  state : u.get (KNL_TST_STATE tok) = 4
  executor : u.get (KNL_TST_EXEC tok) = x
  runs : u.get (runV x) = 1
  token : u.get (runT x) = tok
  empty : u.get (slotV x) = 0
  frame : OnlyChanges [.knl] (execWord x :: tokenWords tok) s u

theorem execWord_ne_KNL_TST (x : Nat) : execWord x ≠ KNL_TST tok := by
  have := execWord_range x
  have := KNL_TST_range tok
  omega

theorem State.clearSlot_onlyChanges (s : State) (x : Nat) : OnlyChanges [.knl] [execWord x] s (s.clearSlot x) := by
  unfold State.clearSlot
  exact (((OnlyChanges.refl _ _ s).mark false (by simp [slotV_eq])).put 0 (by simp [slotT_eq])).onKnl _ (by decide)

theorem State.get_clearSlot_slotV (s : State) (x : Nat) : (s.clearSlot x).get (slotV x) = 0 := by
  have apart : fldApart (slotT x) (slotV x) = true := by rw [slotT_eq, slotV_eq]; rfl
  refine (State.get_put_apart (s.mark (slotV x) false) 0 apart).trans ?_
  rw [slotV_eq]
  exact s.get_mark_fits _ _ rfl rfl

theorem State.takeSlot_taken (s : State) {x : Nat} (hx : x < 8) : SlotTaken x (s.get (slotT x)) s (s.takeSlot x) := by
  have small : s.get (slotT x) < 2 ^ 9 := slotT_eq x ▸ s.get_lt _
  unfold State.takeSlot
  dsimp only
  generalize s.get (slotT x) = tok at small
  have other : KNL_TST tok ≠ (runV x).addr ∧ KNL_TST tok ≠ (runT x).addr := by
    rw [runV_eq, runT_eq]
    exact ⟨(execWord_ne_KNL_TST tok x).symm, (execWord_ne_KNL_TST tok x).symm⟩
  have slots : execWord x ∉ tokenWords tok := execWord_not_tokenWords tok x
  have cleared := ((s.clearSlot_onlyChanges x).mono (n := [.knl]) (k := execWord x :: tokenWords tok) (List.Subset.refl _) (by simp))
  have moved := State.setToken_onlyChanges tok (s.clearSlot x) 4
  refine ⟨?state, ?executor, ?runs, ?token, ?empty, ?frame⟩
  case state =>
    refine (State.get_onKnl _ _ _).trans ((State.get_put_apart _ _ rfl).trans ?_)
    refine ((State.get_put_ne _ _ _ _ other.2).trans ((State.get_put_ne _ _ _ _ other.1).trans ?_))
    exact State.get_setToken_STATE tok _ (by decide)
  case executor => exact (State.get_onKnl _ _ _).trans ((State.get_put_fits _ (KNL_TST_EXEC tok) x rfl).trans (Nat.mod_eq_of_lt hx))
  case runs =>
    refine (State.get_onKnl _ _ _).trans ((State.get_put_ne _ _ _ _ (by rw [runV_eq]; exact execWord_ne_KNL_TST tok x)).trans ?_)
    rw [runT_eq, runV_eq]
    exact (State.get_put_apart _ _ rfl).trans (State.get_mark_fits _ _ _ rfl rfl)
  case token =>
    refine (State.get_onKnl _ _ _).trans ((State.get_put_ne _ _ _ _ (by rw [runT_eq]; exact execWord_ne_KNL_TST tok x)).trans ?_)
    rw [runT_eq]
    exact (State.get_put_fits _ ⟨execWord x, 16, 9⟩ _ rfl).trans (Nat.mod_eq_of_lt small)
  case empty =>
    refine (State.get_onKnl _ _ _).trans ((State.get_put_ne _ _ _ _ (by rw [slotV_eq]; exact execWord_ne_KNL_TST tok x)).trans ?_)
    rw [runT_eq, runV_eq, State.get_put_apart _ _ (by rw [slotV_eq]; rfl), State.get_mark_apart _ _ (by rw [slotV_eq]; rfl)]
    refine (moved.get (b := .knl) (by decide) ?_ ?_).trans (s.get_clearSlot_slotV x)
    · rw [slotV_eq]; exact execWord_blk x
    · rw [slotV_eq]; exact slots
  case frame =>
    have word (v w : Nat) := (((cleared.trans (moved.mono (List.nil_subset _) (by simp))).put (f := runV x) v (by simp [runV_eq])).put
      (f := runT x) w (by simp [runT_eq]))
    exact ((word _ _).put (f := KNL_TST_EXEC tok) x (by simp [KNL_TST_EXEC])).onKnl _ (by decide)

/-- What a token that completes for good leaves. -/
structure TokenFreed (x tok : Nat) (s u : State) : Prop where
  state : u.get (KNL_TST_STATE tok) = 0
  runs : u.get (runV x) = 0
  slot : u.get (slotV x) = s.get (slotV x)
  fail : u.get (KNL_TST_FAIL tok) = s.get (KNL_TST_FAIL tok)
  frame : OnlyChanges [] (execWord x :: eventWord s tok :: tokenWords tok) s u

theorem State.complete_freed (s : State) (x : Nat) (h : s.get (KNL_TST_STATE tok) = 5 ∨ s.get (KNL_TST_STATE tok) = 4 ∧
    bit (s.get (KNL_D1_FLAGS tok)) 0 = false ∧ bit (s.get (KNL_D1_FLAGS tok)) 1 = false) : TokenFreed x tok s (s.complete x tok) := by
  let idle := (s.mark (runV x) false).put (runT x) 0
  have same : s.complete x tok = idle.freeToken tok := by
    unfold State.complete
    dsimp only
    rcases h with cancelled | ⟨running, single, once⟩
    · rw [if_pos cancelled]
    · rw [if_neg (by omega), if_neg (by simp [single]), if_neg (by simp [once])]
  have stopped : OnlyChanges [] [execWord x] s idle := ((OnlyChanges.refl _ _ s).mark false (by simp [runV_eq])).put 0 (by simp [runT_eq])
  have event : eventWord idle tok = eventWord s tok :=
    congrArg KNL_EVB (stopped.get (b := .knl) (by decide) (KNL_D1_EVENT_blk tok) (by
      have := execWord_range x
      simp only [KNL_D1_EVENT, KNL_D1, List.mem_singleton]
      omega))
  have freed := idle.freeToken_onlyChanges tok
  rw [event] at freed
  have apart : execWord x ∉ eventWord s tok :: tokenWords tok := by
    have := eventWord_range (s := s) tok
    have := execWord_range x
    rw [List.mem_cons, not_or]
    exact ⟨by omega, execWord_not_tokenWords tok x⟩
  rw [same]
  refine ⟨idle.get_freeToken_STATE tok, ?runs, ?slot, ?fail, (stopped.mono (List.Subset.refl _) (by simp)).trans (freed.mono (List.Subset.refl _) (by simp))⟩
  case runs =>
    refine (freed.get (b := .knl) (by decide) (by rw [runV_eq]; exact execWord_blk x) (by rw [runV_eq]; exact apart)).trans ?_
    have apart : fldApart (runT x) (runV x) = true := by rw [runT_eq, runV_eq]; rfl
    refine (State.get_put_apart _ _ apart).trans ?_
    rw [runV_eq]
    exact s.get_mark_fits _ _ rfl rfl
  case slot =>
    refine (freed.get (b := .knl) (by decide) (by rw [slotV_eq]; exact execWord_blk x) (by rw [slotV_eq]; exact apart)).trans ?_
    have one : fldApart (runT x) (slotV x) = true := by rw [runT_eq, slotV_eq]; rfl
    have two : fldApart (runV x) (slotV x) = true := by rw [runV_eq, slotV_eq]; rfl
    exact (State.get_put_apart _ _ one).trans (State.get_mark_apart _ _ two)
  case fail =>
    exact (idle.get_freeToken_FAIL tok).trans (stopped.get (b := .knl) (by decide) (KNL_TST_FAIL_blk tok)
      (fun h => execWord_ne_KNL_TST tok x (List.mem_singleton.mp h).symm))

end

end Sys2Proof.Machine
end

section
/-! PROOFS. The statement of takes, completions and the hardware executors (R308, R310, R324 to R328). -/

namespace Sys2Proof.Machine

/-! ### What an event on the way leaves of a running token (R329) -/

/-- From `s` to `u` the words of the executors and the descriptors stay, and the state of every token that does not wait. -/
structure TokensRest (s u : State) : Prop where
  words : ∀ a, a / 0x1000000 = Block.knl.num → (0x17000100 ≤ a ∧ a < 0x17000400 ∨ 0x17005000 ≤ a) → u.rd a = s.rd a
  state : ∀ tok, s.get (KNL_TST_STATE tok) ≠ 1 → u.get (KNL_TST_STATE tok) = s.get (KNL_TST_STATE tok)

section
variable {s t u : State} {q : Nat}

theorem TokensRest.trans (h : TokensRest s t) (g : TokensRest t u) : TokensRest s u :=
  ⟨fun a block range => (g.words a block range).trans (h.words a block range),
    fun tok waits => (g.state tok (by rwa [h.state tok waits])).trans (h.state tok waits)⟩

theorem Keeps.tokensRest {m : List Part} (h : Keeps m s u) (hm : Part.reg .knl ∉ m) : TokensRest s u :=
  ⟨fun _ block _ => h.rd hm block, fun tok _ => h.get hm (KNL_TST_STATE_blk tok)⟩

/-- A token's state field is read at its word alone. -/
theorem State.get_STATE_of_word {a b : Nat} (h : KNL_TST a = KNL_TST b) (s : State) :
    s.get (KNL_TST_STATE a) = s.get (KNL_TST_STATE b) := by
  simp only [KNL_TST_STATE, h]

theorem State.event_tokensRest (s : State) (e : Nat) : TokensRest s (s.event e) := by
  have low {a : Nat} (range : 0x17000100 ≤ a ∧ a < 0x17000400 ∨ 0x17005000 ≤ a) (tok e : Nat) :
      a ≠ KNL_EVB e ∧ a ≠ KNL_STAT ∧ a ∉ readyWords tok := by
    simp only [KNL_EVB, KNL_STAT, readyWords, KNL_HEAD, KNL_CNTA, KNL_CNTB, KNL_TST, KNL_TSTAMP, List.mem_cons, List.not_mem_nil, or_false]
    omega
  have counted : TokensRest s (s.bump (KNL_EVB_FIRES e)) :=
    ⟨fun a _ range => State.rd_put_ne _ _ _ (low range 0 e).1,
      fun tok _ => State.get_put_ne _ _ _ _ (by simp only [KNL_TST_STATE, KNL_TST, KNL_EVB_FIRES, KNL_EVB]; omega)⟩
  unfold State.event
  dsimp only
  refine counted.trans ?_
  generalize s.bump (KNL_EVB_FIRES e) = t
  split
  · generalize t.get (KNL_EVB_TOKEN e) = waked
    split
    next waits =>
      refine ⟨fun a block range => (t.makeReady_onlyChanges waked 3).rd (b := .knl) (by decide) block (low range waked e).2.2, fun tok rests => ?_⟩
      have other : KNL_TST waked ≠ KNL_TST tok := fun h => rests ((t.get_STATE_of_word h).symm.trans waits)
      refine (t.makeReady_onlyChanges waked 3).get (b := .knl) (by decide) (KNL_TST_STATE_blk tok) ?_
      simp only [KNL_TST] at other
      simp only [readyWords, KNL_TST_STATE, KNL_HEAD, KNL_CNTA, KNL_CNTB, KNL_TST, KNL_TSTAMP, List.mem_cons, List.not_mem_nil, or_false]
      omega
    · refine ⟨fun a _ range => ?_, fun tok _ => (State.get_put_apart _ _ rfl).trans (State.get_put_apart _ _ rfl)⟩
      have word := (low range waked e).2.2
      simp only [readyWords, List.mem_cons, not_or] at word
      exact (State.rd_put_ne _ _ _ word.2.2.2.2.1).trans (State.rd_put_ne _ _ _ word.2.2.2.2.1)
  · exact ⟨fun a _ range => State.rd_put_ne _ _ _ (low range 0 e).2.1,
      fun tok _ => State.get_put_ne _ _ _ _ (by simp only [KNL_TST_STATE, KNL_TST, KNL_STAT_EVUNB, KNL_STAT]; omega)⟩

/-- A change of depth touches the queue first, and then the Kennel by the queue's event at most. -/
theorem State.setDepth_fires (s : State) (q new : Nat) :
    ∃ t, ∃ c : Bool, Keeps [.reg .que, .sets] s t ∧ s.setDepth q new = if c = true then t.event q else t := by
  unfold State.setDepth
  dsimp only
  refine ⟨_, _, ?_, rfl⟩
  have crossed (t : State) (c : Bool) (b : Bool) {f g : Fld} (hf : InBlk .que f.addr) (hg : InBlk .que g.addr) (h : Keeps [.reg .que, .sets] s t) :
      Keeps [.reg .que, .sets] s (if c = true then ((t.latch f).satBump g 1).mark (QUE_WEV_LAST q) b else t) :=
    keeps_ite (fun _ => State.mark_keeps (QUE_WEV_LAST_blk q) (State.satBump_keeps hg (State.latch_keeps hf h (by decide)) (by decide)) (by decide))
      fun _ => h
  exact crossed _ _ _ (QUE_WEV_DN_blk q) (QUE_WEV_DNCNT_blk q) (crossed _ _ _ (QUE_WEV_UP_blk q) (QUE_WEV_UPCNT_blk q)
    (State.put_keeps (QUE_ST_PEAK_blk q) (State.put_keeps (QUE_ST_DEPTH_blk q) (Keeps.refl _ s) (by decide)) (by decide)))

theorem State.setDepth_tokensRest (s : State) (q new : Nat) : TokensRest s (s.setDepth q new) := by
  obtain ⟨t, c, keeps, same⟩ := s.setDepth_fires q new
  rw [same]
  refine (keeps.tokensRest (by decide)).trans ?_
  split
  · exact t.event_tokensRest q
  · exact (Keeps.refl [] t).tokensRest (by decide)

theorem State.enqueue_tokensRest (s : State) (q : Nat) (es : List (BitVec 64)) : TokensRest s (s.enqueue q es) := by
  have admitted : Keeps [.bulk, .que, .reg .que] s ((s.takeIn q es).put (whole (QUE_PUSHC q)) ((s.takeIn q es).rd (QUE_PUSHC q) + es.length)) :=
    State.put_keeps (QUE_PUSHC_blk q) (State.settle_keeps (State.setQ_keeps (State.makeRoom_keeps (Keeps.refl _ s) (by decide)) (by decide))
      (by decide)) (by decide)
  rw [State.enqueue_eq]
  exact (admitted.tokensRest (by decide)).trans (State.setDepth_tokensRest _ q _)

end

/-! ### The course of a take and of a completion (R324, R326) -/

section
variable {s : State} {c tok : Nat}

/-- R324: the word that a take of token `tok` returns. -/
def State.takeWord (s : State) (tok : Nat) : Nat := 2 ^ 31 + s.get (KNL_TST_WHY tok) * 2 ^ 28 + tok * 2 ^ 16 + s.get (KNL_D0_ENTRY tok)

theorem State.takeWord_elapse (s : State) (dt tok : Nat) : (s.elapse dt).takeWord tok =
    2 ^ 31 + s.get (KNL_TST_WHY tok) * 2 ^ 28 + tok * 2 ^ 16 + s.get (KNL_D0_ENTRY tok) := by
  simp only [State.takeWord, State.get_elapse]

theorem State.take_taken (slot : s.get (slotV c) = 1) (idle : s.get (runV c) = 0) (live : c ∉ s.pwm.coreHalt) :
    s.take c = (s.takeSlot c).onBus fun b => { b with lastRead := s.takeWord (s.get (slotT c)) } :=
  if_pos (by simp [State.flag, slot, idle, live])

theorem State.take_none (h : s.get (slotV c) = 0 ∨ s.get (runV c) = 1 ∨ c ∈ s.pwm.coreHalt) :
    s.take c = s.onBus fun b => { b with lastRead := 0 } := by
  refine if_neg ?_
  rcases h with empty | runs | halted
  · simp [State.flag, empty]
  · simp [State.flag, runs]
  · simp [halted]

theorem State.doneToken_own (state : s.get (KNL_TST_STATE tok) = 4 ∨ s.get (KNL_TST_STATE tok) = 5) (own : s.get (KNL_TST_EXEC tok) = c)
    (live : c ∉ s.pwm.coreHalt) : s.doneToken c tok = s.complete c tok := by
  unfold State.doneToken
  dsimp only
  rw [if_neg (by simpa using live), if_pos ⟨state, own⟩]

theorem State.doneToken_foreign (free : s.get (KNL_TST_STATE tok) ≠ 4) (live' : s.get (KNL_TST_STATE tok) ≠ 5) (live : c ∉ s.pwm.coreHalt) :
    s.doneToken c tok = s.orphan 0x14 KNL_STAT_ORPHAN tok 0x15 := by
  unfold State.doneToken
  dsimp only
  rw [if_neg (by simpa using live), if_neg (by tauto)]

theorem State.doneToken_halted (halted : c ∈ s.pwm.coreHalt) : s.doneToken c tok = s := if_pos (by simpa using halted)

/-- R326, R329: a REARM token for which an event pends becomes READY at once. -/
theorem State.complete_rearmed (x : Nat) (running : s.get (KNL_TST_STATE tok) = 4) (single : bit (s.get (KNL_D1_FLAGS tok)) 0 = false)
    (rearm : bit (s.get (KNL_D1_FLAGS tok)) 1 = true) (pends : s.get (KNL_TST_PEND tok) = 1) :
    s.complete x tok = (((s.mark (runV x) false).put (runT x) 0).mark (KNL_TST_PEND tok) false).makeReady tok 5 := by
  have apart (f : Fld) (word : f.addr = execWord x) (t : State) (v : Nat) : (t.put f v).get (KNL_TST_PEND tok) = t.get (KNL_TST_PEND tok) :=
    State.get_put_ne _ _ _ _ (by rw [word]; exact (execWord_ne_KNL_TST tok x).symm)
  have still : ((s.mark (runV x) false).put (runT x) 0).flag (KNL_TST_PEND tok) = true := by
    rw [State.flag, apart (runT x) (by rw [runT_eq]), State.mark, apart (runV x) (by rw [runV_eq]), pends]
    rfl
  unfold State.complete
  dsimp only
  rw [if_neg (by omega), if_neg (by simp [single]), if_pos rearm, if_pos still]

/-! ### The PUSH and the COPY executor (R310) -/

/-- The entry that the PUSH executor pushes for token `tok`. -/
def State.pushEntry (s : State) (tok : Nat) : BitVec 64 := entry (s.rd (KNL_DARG0L tok) + 2 ^ 32 * s.rd (KNL_DARG0H tok))

theorem State.pushExec_eq (slot : s.get (slotV 4) = 1) (idle : s.get (runV 4) = 0) : s.pushExec =
    (let t := s.takeSlot 4
     let tok := s.get (slotT 4)
     let r := t.tryPush 1 (t.rd (KNL_DARG1 tok) % 64) [t.pushEntry tok]
     let u := if r.1 = 0x8 then r.2.lose 0x14 KNL_STAT_PUSHFULL 1 else r.2
     (if r.1 = 0x1 then u else u.latch (KNL_TST_FAIL tok)).complete 4 tok) :=
  if_pos (by simp [State.flag, slot, idle])

theorem State.copyExec_eq (slot : s.get (slotV 5) = 1) (idle : s.get (runV 5) = 0) : s.copyExec =
    (let t := s.takeSlot 5
     let tok := s.get (slotT 5)
     (t.copyWords tok (t.rd (KNL_DARG0L tok)) (t.rd (KNL_DARG1 tok)) (t.rd (KNL_DARG2 tok) / 4)).complete 5 tok) :=
  if_pos (by simp [State.flag, slot, idle])

/-- The taking of a slot leaves every word outside the counters, the executors and the tokens. -/
theorem SlotTaken.rd {x : Nat} {u : State} (h : SlotTaken x tok s u) {a : Nat} {b : Block} (block : a / 0x1000000 = b.num)
    (range : a < 0x17000000 ∨ 0x17005000 ≤ a) : u.rd a = s.rd a := by
  refine h.frame.rd (b := b) (by simp) block ?_
  have := execWord_range x
  have := KNL_TST_range tok
  simp only [tokenWords, KNL_CNTA, KNL_CNTB, List.mem_cons, List.not_mem_nil, or_false]
  omega

end

section
variable {s : State} {tok : Nat}

/-! ### The PUSH executor's push (R310, R339) -/

theorem State.tryPush_accepted {cls q : Nat} {es : List (BitVec 64)} (sound : s.pushCheck cls q = 1) (room : s.canPush q es.length = true) :
    s.tryPush cls q es = (1, s.enqueue q es) := by
  unfold State.tryPush
  simp only [sound, room]
  rfl

theorem State.tryPush_unused {cls q : Nat} {es : List (BitVec 64)} (h : s.qCap q = 0) : s.tryPush cls q es = (9, s) := by
  have unused : s.pushCheck cls q = 9 := if_pos (by simp [h])
  unfold State.tryPush
  simp only [unused]

theorem State.qCap_of_rd {t : State} {q : Nat} (h : t.rd (QUE_CFG q) = s.rd (QUE_CFG q)) : t.qCap q = s.qCap q := by
  have field : t.get (QUE_CFG_CAPL q) = s.get (QUE_CFG_CAPL q) := congrArg (fldOf _) h
  simp only [State.qCap, field]

theorem State.pushCheck_of_rd {t : State} {cls q : Nat} (h : t.rd (QUE_CFG q) = s.rd (QUE_CFG q)) : t.pushCheck cls q = s.pushCheck cls q := by
  have prod : t.get (QUE_CFG_PROD q) = s.get (QUE_CFG_PROD q) := congrArg (fldOf _) h
  have broken : t.get (QUE_CFG_BROKEN q) = s.get (QUE_CFG_BROKEN q) := congrArg (fldOf _) h
  unfold State.pushCheck
  rw [State.qCap_of_rd h, prod, State.flag, State.flag, broken]

/-- A single entry of a queue that does not spill needs depth alone. -/
theorem State.canPush_small {q n : Nat} (small : s.qCap q ≤ 32) (room : s.get (QUE_ST_DEPTH q) + n ≤ s.qCap q) : s.canPush q n = true := by
  unfold State.canPush
  simp [small, room]

theorem KNL_D1_blk (tok : Nat) : InBlk .knl (KNL_D1 tok) := by
  simp only [InBlk, Block.num, KNL_D1]
  omega

theorem KNL_D1_FLAGS_blk (tok : Nat) : InBlk .knl (KNL_D1_FLAGS tok).addr := KNL_D1_blk tok

/-- A token without flags that still runs at the end is freed. -/
theorem State.complete_plain {u : State} (running : u.get (KNL_TST_STATE tok) = 4) (plain : u.get (KNL_D1_FLAGS tok) = 0) (x : Nat) :
    TokenFreed x tok u (u.complete x tok) :=
  u.complete_freed tok x (.inr ⟨running, by rw [plain]; rfl, by rw [plain]; rfl⟩)

theorem SlotTaken.flags {x : Nat} {u : State} (h : SlotTaken x tok s u) : u.get (KNL_D1_FLAGS tok) = s.get (KNL_D1_FLAGS tok) :=
  congrArg (fldOf (KNL_D1_FLAGS tok)) (h.rd (a := KNL_D1 tok) (KNL_D1_blk tok).1 (.inr (by simp only [KNL_D1]; omega)))

theorem SlotTaken.rd_DARG1 {x : Nat} {u : State} (h : SlotTaken x tok s u) : u.rd (KNL_DARG1 tok) = s.rd (KNL_DARG1 tok) :=
  h.rd (b := .knl) (by simp only [KNL_DARG1, Block.num]; omega) (.inr (by simp only [KNL_DARG1]; omega))

/-- R310: what the PUSH executor leaves of a token whose push is accepted. -/
theorem State.pushExec_accepted (slot : s.get (slotV 4) = 1) (idle : s.get (runV 4) = 0) (plain : s.get (KNL_D1_FLAGS (s.get (slotT 4))) = 0)
    {q : Nat} (named : s.rd (KNL_DARG1 (s.get (slotT 4))) % 64 = q) (sound : s.pushCheck 1 q = 1) (small : s.qCap q ≤ 32)
    (room : s.get (QUE_ST_DEPTH q) + 1 ≤ s.qCap q) :
    s.pushExec.get (KNL_TST_STATE (s.get (slotT 4))) = 0 ∧ s.pushExec.get (runV 4) = 0 ∧ s.pushExec.get (slotV 4) = 0 ∧
      s.pushExec.rd (QUE_PUSHC q) = (s.rd (QUE_PUSHC q) + 1) % 2 ^ 32 := by
  have taken := s.takeSlot_taken (x := 4) (by decide)
  rw [State.pushExec_eq slot idle]
  generalize s.get (slotT 4) = tok at *
  generalize s.takeSlot 4 = t at *
  have que {a : Nat} (block : a / 0x1000000 = Block.que.num) : t.rd a = s.rd a :=
    taken.rd block (.inr (by simp only [Block.num] at block; omega))
  have cap := State.qCap_of_rd (que (QUE_CFG_blk q).1)
  have check := (State.pushCheck_of_rd (cls := 1) (que (QUE_CFG_blk q).1)).trans sound
  have depth : t.get (QUE_ST_DEPTH q) = s.get (QUE_ST_DEPTH q) := congrArg (fldOf _) (que (QUE_ST_blk q).1)
  have pushed := State.tryPush_accepted (es := [t.pushEntry tok]) check (State.canPush_small (by rwa [cap]) (by rw [depth, cap]; exact room))
  dsimp only
  rw [taken.rd_DARG1, named]
  simp only [pushed, show ¬ (1 : Nat) = 8 by decide, if_true, if_false]
  have rest := t.enqueue_tokensRest q [t.pushEntry tok]
  have flags : (t.enqueue q [t.pushEntry tok]).get (KNL_D1_FLAGS tok) = 0 :=
    (congrArg (fldOf (KNL_D1_FLAGS tok)) (rest.words _ (KNL_D1_blk tok).1 (.inr (by simp only [KNL_D1]; omega)))).trans
      (taken.flags.trans plain)
  have freed := State.complete_plain ((rest.state tok (by rw [taken.state]; decide)).trans taken.state) flags 4
  refine ⟨freed.state, freed.runs, freed.slot.trans ?_, ?_⟩
  · exact (congrArg (fldOf (slotV 4)) (rest.words _ (execWord_blk 4).1 (.inl (execWord_range 4)))).trans taken.empty
  · refine (freed.frame.rd (b := .que) (by decide) (QUE_PUSHC_blk q).1 ?_).trans ((t.rd_enqueue_PUSHC q _).trans (by rw [que (QUE_PUSHC_blk q).1]; rfl))
    have := execWord_range 4
    have := eventWord_range (s := t.enqueue q [t.pushEntry tok]) tok
    have := KNL_TST_range tok
    simp only [tokenWords, KNL_CNTA, KNL_CNTB, QUE_PUSHC, List.mem_cons, List.not_mem_nil, or_false]
    omega

/-- R310: a push to a queue that is not used fails, and the token says so. -/
theorem State.pushExec_failed (slot : s.get (slotV 4) = 1) (idle : s.get (runV 4) = 0) (plain : s.get (KNL_D1_FLAGS (s.get (slotT 4))) = 0)
    (unused : s.qCap (s.rd (KNL_DARG1 (s.get (slotT 4))) % 64) = 0) :
    s.pushExec.get (KNL_TST_STATE (s.get (slotT 4))) = 0 ∧ s.pushExec.get (KNL_TST_FAIL (s.get (slotT 4))) = 1 := by
  have taken := s.takeSlot_taken (x := 4) (by decide)
  rw [State.pushExec_eq slot idle]
  generalize s.get (slotT 4) = tok at *
  generalize s.takeSlot 4 = t at *
  have cap : t.qCap (s.rd (KNL_DARG1 tok) % 64) = 0 :=
    (State.qCap_of_rd (taken.rd (QUE_CFG_blk _).1 (.inr (by simp only [QUE_CFG]; omega)))).trans unused
  dsimp only
  rw [taken.rd_DARG1]
  simp only [State.tryPush_unused cap, show ¬ (9 : Nat) = 8 by decide, show ¬ (9 : Nat) = 1 by decide, if_false]
  have flags : (t.latch (KNL_TST_FAIL tok)).get (KNL_D1_FLAGS tok) = 0 :=
    (State.get_latch_ne _ (by simp only [KNL_D1_FLAGS, KNL_D1, KNL_TST_FAIL, KNL_TST]; omega)).trans (taken.flags.trans plain)
  have freed := State.complete_plain ((t.get_latch_apart (f := KNL_TST_FAIL tok) (g := KNL_TST_STATE tok) rfl).trans taken.state) flags 4
  exact ⟨freed.state, freed.fail.trans (t.get_latch_fits _ rfl rfl)⟩

/-! ### The COPY executor's word (R310) -/

/-- A word of bulk memory that has been stored reads back. -/
theorem State.bulkLe_bulkStore (s : State) {a v : Nat} (lo : 0x80000000 ≤ a) (hi : a + 4 ≤ 2 ^ 32) (small : v < 2 ^ 32) :
    (s.bulkStore a (leBytes 4 v)).bulkLe a 4 = v := by
  have byte {i : Nat} (h : i < 4) : memByte (s.bulkStore a (leBytes 4 v)).bulk (a + i) = (leBytes 4 v).getD i 0 :=
    State.memByte_bulkStore (leBytes 4 v) h lo hi s
  simp only [State.bulkLe, State.bulkBytes, List.range, List.range.loop, List.map_cons, List.map_nil, byte (show 0 < 4 by decide),
    byte (show 1 < 4 by decide), byte (show 2 < 4 by decide), byte (show 3 < 4 by decide)]
  simp only [leBytes, List.getD_cons_zero, List.getD_cons_succ, ofLe, BitVec.toNat_ofNat]
  omega

theorem State.bulkLe_lt (s : State) (a : Nat) : s.bulkLe a 4 < 2 ^ 32 := by
  have b (i : Nat) := (memByte s.bulk (a + i)).isLt
  simp only [State.bulkLe, State.bulkBytes, List.range, List.range.loop, List.map_cons, List.map_nil, ofLe]
  have := b 0
  have := b 1
  have := b 2
  have := b 3
  omega

theorem State.copyWords_one {src dst : Nat} (lo : 0x80000000 ≤ src) (hi : src + 4 ≤ 2 ^ 32) (lo' : 0x80000000 ≤ dst) (hi' : dst + 4 ≤ 2 ^ 32)
    (open_ : s.committedAt dst 4 = false) :
    s.copyWords tok src dst 1 = (s.returned (s.bulkLe src 4)).bulkStore dst (leBytes 4 (s.bulkLe src 4)) := by
  have from_ : s.readAt .copy (src % 2 ^ 32) 4 = s.returned (s.bulkLe src 4) := by
    rw [Nat.mod_eq_of_lt (by omega)]
    exact if_pos (by simp only [inBulk, Bool.and_eq_true, decide_eq_true_eq]; omega)
  have to_ : (s.returned (s.bulkLe src 4)).writeAt .copy (dst % 2 ^ 32) (s.bulkLe src 4) 4 =
      (s.returned (s.bulkLe src 4)).bulkStore dst (leBytes 4 (s.bulkLe src 4)) := by
    have shut : (s.returned (s.bulkLe src 4)).committedAt dst 4 = false := open_
    rw [Nat.mod_eq_of_lt (by omega)]
    unfold State.writeAt
    rw [if_pos (by simp only [inBulk, Bool.and_eq_true, decide_eq_true_eq]; omega), if_neg (by simp [shut])]
  have errs : ((s.returned (s.bulkLe src 4)).bulkStore dst (leBytes 4 (s.bulkLe src 4))).bus.errs = (s.returned (s.bulkLe src 4)).bus.errs :=
    congrArg Bus.errs ((State.bulkStore_keeps (m := [.bulk]) (Keeps.refl _ _) (by decide)).same .bus (by decide))
  unfold State.copyWords State.copyWords
  dsimp only
  rw [from_, show (s.returned (s.bulkLe src 4)).bus.lastRead = s.bulkLe src 4 from rfl, to_]
  exact if_pos errs

/-- The bytes around a copied word. -/
theorem State.memByte_copied_outside {t : State} {v dst x : Nat} (outside : x < dst ∨ dst + 4 ≤ x) (bulk : t.bulk = s.bulk) :
    memByte ((t.returned v).bulkStore dst (leBytes 4 v)).bulk x = memByte s.bulk x := by
  have length : (leBytes 4 v).length = 4 := rfl
  rw [State.memByte_bulkStore_outside _ (by rw [length]; exact outside), show (t.returned v).bulk = s.bulk from bulk]

/-- R310: what the COPY executor leaves of a token that copies one word. -/
theorem State.copyExec_word (slot : s.get (slotV 5) = 1) (idle : s.get (runV 5) = 0) (plain : s.get (KNL_D1_FLAGS (s.get (slotT 5))) = 0)
    (one : s.rd (KNL_DARG2 (s.get (slotT 5))) = 4) (lo : 0x80000000 ≤ s.rd (KNL_DARG0L (s.get (slotT 5))))
    (hi : s.rd (KNL_DARG0L (s.get (slotT 5))) + 4 ≤ 2 ^ 32) (lo' : 0x80000000 ≤ s.rd (KNL_DARG1 (s.get (slotT 5))))
    (hi' : s.rd (KNL_DARG1 (s.get (slotT 5))) + 4 ≤ 2 ^ 32) (open_ : s.committedAt (s.rd (KNL_DARG1 (s.get (slotT 5)))) 4 = false) :
    s.copyExec.get (KNL_TST_STATE (s.get (slotT 5))) = 0 ∧ s.copyExec.get (runV 5) = 0 ∧ s.copyExec.get (slotV 5) = 0 ∧
      s.copyExec.bulkLe (s.rd (KNL_DARG1 (s.get (slotT 5)))) 4 = s.bulkLe (s.rd (KNL_DARG0L (s.get (slotT 5)))) 4 ∧
      ∀ x, x < s.rd (KNL_DARG1 (s.get (slotT 5))) ∨ s.rd (KNL_DARG1 (s.get (slotT 5))) + 4 ≤ x →
        memByte s.copyExec.bulk x = memByte s.bulk x := by
  have taken := s.takeSlot_taken (x := 5) (by decide)
  rw [State.copyExec_eq slot idle]
  generalize s.get (slotT 5) = tok at *
  generalize s.takeSlot 5 = t at *
  have argument {a : Nat} (range : 0x17010000 ≤ a ∧ a < 0x18000000) : t.rd a = s.rd a :=
    taken.rd (b := .knl) (by simp only [Block.num]; omega) (.inr (by omega))
  have source := argument (a := KNL_DARG0L tok) (by simp only [KNL_DARG0L]; omega)
  have words := argument (a := KNL_DARG2 tok) (by simp only [KNL_DARG2]; omega)
  have bulk : t.bulk = s.bulk := taken.frame.2 .bulk (by decide)
  have shut : t.committedAt (s.rd (KNL_DARG1 tok)) 4 = false := by
    have base : t.rd PRF_TBASE = s.rd PRF_TBASE := taken.rd (b := .prf) (by decide) (.inl (by decide))
    rw [← open_]
    simp only [State.committedAt, base]
  have read : t.bulkLe (s.rd (KNL_DARG0L tok)) 4 = s.bulkLe (s.rd (KNL_DARG0L tok)) 4 := by
    simp only [State.bulkLe, State.bulkBytes, bulk]
  dsimp only
  rw [taken.rd_DARG1, source, words, one, State.copyWords_one lo hi lo' hi' shut, read]
  generalize s.rd (KNL_DARG1 tok) = dst at *
  generalize hv : s.bulkLe (s.rd (KNL_DARG0L tok)) 4 = v
  have small : v < 2 ^ 32 := hv ▸ s.bulkLe_lt _
  have copied : Keeps [.bulk, .bus] t ((t.returned v).bulkStore dst (leBytes 4 v)) :=
    State.bulkStore_keeps (State.onBus_keeps (Keeps.refl _ t) (by decide)) (by decide)
  have freed := State.complete_plain ((copied.get (by decide) (KNL_TST_STATE_blk tok)).trans taken.state)
    ((copied.get (by decide) (f := KNL_D1_FLAGS tok) (KNL_D1_FLAGS_blk tok)).trans (taken.flags.trans plain)) 5
  have kept : (((t.returned v).bulkStore dst (leBytes 4 v)).complete 5 tok).bulk = ((t.returned v).bulkStore dst (leBytes 4 v)).bulk :=
    freed.frame.2 .bulk (by decide)
  refine ⟨freed.state, freed.runs, freed.slot.trans ((copied.get (b := .knl) (by decide) ?_).trans taken.empty), ?_, fun x outside => ?_⟩
  · rw [slotV_eq]; exact execWord_blk 5
  · rw [State.bulkLe, State.bulkBytes, kept]
    exact State.bulkLe_bulkStore _ lo' hi' small
  · exact (congrArg (memByte · x) kept).trans (State.memByte_copied_outside outside bulk)

end

/-- Settles O41: takes by `takeSlot_taken`, completions by `complete_freed`, the executors by their pushes and copies in between. -/
theorem kennelRuns : Obligations.KennelRuns := by
  unfold Obligations.KennelRuns
  refine ⟨?take, ?done, ?rearm, ?none_, ?halted, ?orphan, ?push, ?pushFails, ?copy, ?overrun⟩
  case take =>
    intro dt c s slot idle live
    have core : slotV c = KNL_CORE_SLOTV c ∧ slotT c = KNL_CORE_SLOT c ∧ runV c = KNL_CORE_RUNV c ∧ runT c = KNL_CORE_RUN c :=
      ⟨if_pos c.isLt, if_pos c.isLt, if_pos c.isLt, if_pos c.isLt⟩
    obtain ⟨hslotV, hslotT, hrunV, hrunT⟩ := core
    rw [← hslotV] at slot ⊢
    rw [← hrunV] at idle ⊢
    rw [← hslotT, ← hrunT]
    obtain ⟨state, executor, runs, token, empty, -⟩ := (s.elapse dt).takeSlot_taken (x := c) (by omega)
    have shown (u : State) (f : Bus → Bus) (g : Fld) {v : Nat} (h : u.get g = v) : (u.onBus f).get g = v := h
    exact ⟨_, congrArg Host.Outcome.next (State.take_taken (s := s.elapse dt) slot idle live), shown _ _ _ state, shown _ _ _ executor,
      shown _ _ _ runs, shown _ _ _ token, shown _ _ _ empty, State.takeWord_elapse s dt (s.get (slotT c))⟩
  case done =>
    intro dt c t s state own live
    have freed := (s.elapse dt).complete_freed t c state
    rw [← State.doneToken_own (s := s.elapse dt) (by tauto) own live] at freed
    refine ⟨_, rfl, freed.state, ?_⟩
    rw [← show runV c = KNL_CORE_RUNV c from if_pos c.isLt]
    exact freed.runs
  case rearm =>
    intro dt c t s running single rearm pends own live
    have same := (State.doneToken_own (s := s.elapse dt) (.inl running) own live).trans (State.complete_rearmed c running single rearm pends)
    exact ⟨_, congrArg Host.Outcome.next same, State.get_makeReady_STATE _ _ _, State.get_makeReady_WHY _ _ (by decide),
      (State.get_makeReady_PEND _ _ _).trans (State.get_mark_fits _ _ false rfl rfl)⟩
  case none_ =>
    intro dt c s h
    have core : s.get (slotV c) = 0 ∨ s.get (runV c) = 1 ∨ c.val ∈ s.pwm.coreHalt := by
      rwa [show slotV c = KNL_CORE_SLOTV c from if_pos c.isLt, show runV c = KNL_CORE_RUNV c from if_pos c.isLt]
    exact ⟨_, congrArg Host.Outcome.next (State.take_none (s := s.elapse dt) core), rfl,
      (OnlyChanges.elapse dt s (by decide) (by decide)).onBus _ (by decide)⟩
  case halted => exact fun dt c t s halted => ⟨_, rfl, State.doneToken_halted (s := s.elapse dt) halted⟩
  case orphan =>
    intro dt c t s not4 not5 live
    have reported : Keeps [.reg .err, .log] ((s.elapse dt).satBump KNL_STAT_ORPHAN 1) ((s.elapse dt).orphan 0x14 KNL_STAT_ORPHAN t 0x15) :=
      State.report_keeps (Keeps.refl _ _) (by decide)
    refine ⟨_, congrArg Host.Outcome.next (State.doneToken_foreign (s := s.elapse dt) not4 not5 live),
      (reported.get (by decide) KNL_STAT_ORPHAN_blk).trans (State.get_satBump_fits _ _ 1 rfl), fun n => ?_⟩
    exact (reported.get (by decide) (KNL_TST_STATE_blk n)).trans
      (State.get_put_ne _ _ _ _ (by simp only [KNL_TST_STATE, KNL_TST, KNL_STAT_ORPHAN, KNL_STAT]; omega))
  case push =>
    intro dt s slot idle plain sound small room
    exact ⟨_, rfl, State.pushExec_accepted (s := s.elapse dt) slot idle plain rfl sound small room⟩
  case pushFails =>
    intro dt s slot idle plain unused
    exact ⟨_, rfl, State.pushExec_failed (s := s.elapse dt) slot idle plain unused⟩
  case copy =>
    intro dt s slot idle plain one lo hi lo' hi' open_
    exact ⟨_, rfl, State.copyExec_word (s := s.elapse dt) slot idle plain one lo hi lo' hi' open_⟩
  case overrun =>
    intro dt t s state limit fresh ran
    have counted : ((s.elapse dt).latch (KNL_TST_OVR t)).get KNL_STAT_RUNOVR = s.get KNL_STAT_RUNOVR :=
      State.get_latch_ne _ (by simp only [KNL_TST_OVR, KNL_TST, KNL_STAT_RUNOVR, KNL_STAT]; omega)
    have apart {g : Fld} (h : g.addr = KNL_TST t) (u : State) : (u.satBump KNL_STAT_RUNOVR 1).get g = u.get g :=
      State.get_put_ne _ _ _ _ (by rw [h]; simp only [KNL_TST, KNL_STAT_RUNOVR, KNL_STAT]; omega)
    have warned (u : State) : Keeps [.reg .err, .log] u (u.warn 0x14 (KNL_TST_OVR t)) := State.warn_keeps (Keeps.refl _ u) (by decide)
    refine ⟨_, congrArg Host.Outcome.next (if_pos ⟨state, limit, ran, fresh⟩), ?_, ?_, ?_⟩
    · exact ((warned _).get (by decide) (KNL_TST_OVR_blk t)).trans ((apart rfl _).trans (State.get_latch_fits _ _ rfl rfl))
    · exact ((warned _).get (by decide) KNL_STAT_RUNOVR_blk).trans ((State.get_satBump_fits _ _ 1 rfl).trans (by rw [counted]; rfl))
    · exact ((warned _).get (by decide) (KNL_TST_STATE_blk t)).trans ((apart rfl _).trans (State.get_latch_apart _ rfl))

end Sys2Proof.Machine
end

section
/-! SUPPORT. The turn of the sources of the error log (R489), the count of an event (R330), and what a scan captures (R493). -/

namespace Sys2Proof.Machine

/-! ### The count of an event -/

theorem State.get_bump_fits (s : State) (f : Fld) (h : Nat.ble (f.lo + f.width) 32 = true) :
    (s.bump f).get f = (s.get f + 1) % 2 ^ f.width := s.get_put_fits f _ h

/-- An event is counted at its word, and what it wakes leaves that word. -/
theorem State.get_event_FIRES (s : State) (e : Nat) : (s.event e).get (KNL_EVB_FIRES e) = (s.get (KNL_EVB_FIRES e) + 1) % 65536 := by
  refine Eq.trans ?_ (s.get_bump_fits (KNL_EVB_FIRES e) rfl)
  unfold State.event
  dsimp only
  generalize s.bump (KNL_EVB_FIRES e) = t
  split
  · generalize t.get (KNL_EVB_TOKEN e) = tok
    have apart : KNL_EVB e ∉ readyWords tok := by
      simp only [KNL_EVB, readyWords, KNL_HEAD, KNL_CNTA, KNL_CNTB, KNL_TST, KNL_TSTAMP, List.mem_cons, List.not_mem_nil, or_false]
      omega
    split
    · exact (t.makeReady_onlyChanges tok 3).get (b := .knl) (by decide) (KNL_EVB_FIRES_blk e) apart
    · have other : KNL_EVB e ≠ KNL_TST tok := by simp only [KNL_EVB, KNL_TST]; omega
      exact (State.get_put_ne _ _ _ _ other).trans (State.get_put_ne _ _ _ _ other)
  · exact State.get_put_ne _ _ _ _ (by simp only [KNL_EVB_FIRES, KNL_STAT_EVUNB, KNL_EVB, KNL_STAT]; omega)

/-! ### The source that is served next -/

/-- How many sources come before source `i` in the turn of the log. -/
def State.turn (s : State) (i : Nat) : Nat := (i + 30 - s.log.lastSrc % 31) % 31

theorem State.turn_source (s : State) {i : Nat} (hi : i < 31) : (s.log.lastSrc + 1 + s.turn i) % 31 = i := by
  unfold State.turn
  omega

theorem State.nextSource_first {s : State} {i : Nat} (hi : i < 31) (waits : tabGet [] s.log.bufs i ≠ [])
    (before : ∀ j : Fin 31, s.turn j < s.turn i → tabGet [] s.log.bufs j = []) : s.nextSource = some i := by
  have first : (List.range 31).find? ((fun i => tabGet [] s.log.bufs i != []) ∘ fun i => (s.log.lastSrc + 1 + i) % 31) = some (s.turn i) := by
    rw [List.find?_range_eq_some]
    refine ⟨?_, List.mem_range.mpr (Nat.mod_lt _ (by decide)), fun k hk => ?_⟩
    · simpa [s.turn_source hi] using waits
    · have same : s.turn ((s.log.lastSrc + 1 + k) % 31) = k := by
        have : s.turn i < 31 := Nat.mod_lt _ (by decide)
        unfold State.turn at *
        omega
      have empty := before ⟨(s.log.lastSrc + 1 + k) % 31, Nat.mod_lt _ (by decide)⟩ (by rw [same]; exact hk)
      simpa using empty
  rw [State.nextSource, List.find?_map, first, Option.map_some, s.turn_source hi]

theorem State.nextSource_waits {s : State} {i : Nat} (h : s.nextSource = some i) : i < 31 ∧ tabGet [] s.log.bufs i ≠ [] := by
  have found := List.find?_some h
  obtain ⟨k, -, rfl⟩ := List.mem_map.mp (List.mem_of_find?_eq_some h)
  exact ⟨Nat.mod_lt _ (by decide), by simpa using found⟩

/-- A take that finds no report, or comes too early, takes nothing. -/
theorem State.takeReport_idle {s : State} (h : ∀ i : Fin 31, tabGet [] s.log.bufs i = [] ∨
    (s.log.lastTake.all fun t => decide (t + 40 ≤ s.clk.elapsed)) = false) : s.takeReport = s := by
  have may : (match s.log.lastTake with | some t => decide (t + 40 ≤ s.clk.elapsed) | none => true) =
      s.log.lastTake.all fun t => decide (t + 40 ≤ s.clk.elapsed) := by cases s.log.lastTake <;> rfl
  unfold State.takeReport
  dsimp only
  cases found : s.nextSource with
  | none => rfl
  | some i =>
    obtain ⟨hi, waits⟩ := State.nextSource_waits found
    have early := (h ⟨i, hi⟩).resolve_left waits
    cases last : s.log.lastTake with
    | none => simp [last] at early
    | some t =>
      rw [last] at early
      exact if_neg (by simpa using early)

theorem State.takeReport_first {s : State} {i : Nat} (may : (s.log.lastTake.all fun t => decide (t + 40 ≤ s.clk.elapsed)) = true)
    (next : s.nextSource = some i) : s.takeReport = s.takeFrom i := by
  unfold State.takeReport
  rw [next]
  cases last : s.log.lastTake with
  | none => rfl
  | some t =>
    rw [last] at may
    exact if_pos may

/-! ### A record taken -/

theorem OnlyChanges.onLog {w : List Nat} (s : State) (f : ErrLog → ErrLog) : OnlyChanges [.log] w s (s.onLog f) := by
  refine ⟨rfl, fun p hp => ?_⟩
  cases p with
  | log => exact absurd (List.mem_singleton.mpr rfl) hp
  | reg b => exact fun _ _ _ => rfl
  | _ => rfl

/-- The record that the log makes of report `r`. -/
def State.numbered (s : State) (r : LogRec) : LogRec := { r with seq := s.rd ERR_NEXT, logged := s.clk.elapsed }

/-- The log after it took report `r` of source `i`, which keeps the reports `l`. -/
def State.tookLog (s : State) (i : Nat) (r : LogRec) (l : List LogRec) : ErrLog :=
  { s.log with bufs := tabSet s.log.bufs i l, lastSrc := i, lastTake := some s.clk.elapsed,
               ring := (s.log.ring ++ [s.numbered r]).drop (s.log.ring.length + 1 - 1024),
               toPersist := if r.sev = 4 then s.log.toPersist ++ [s.numbered r] else s.log.toPersist }

/-- The log and its registers after it took report `r` of source `i`, before a severe report's event. -/
def State.took (i : Nat) (r : LogRec) (l : List LogRec) (s : State) : State :=
  ((((s.onLog fun _ => s.tookLog i r l).bump (whole ERR_NEXT)).bump (whole (ERR_LOGD i))).put (ERR_LOST_BUF i) l.length).showRing

theorem State.takeFrom_eq {s : State} {i : Nat} {r : LogRec} {l : List LogRec} (h : tabGet [] s.log.bufs i = r :: l) :
    s.takeFrom i = if r.sev = 4 then (s.took i r l).event 0x55 else s.took i r l := by
  unfold State.takeFrom
  rw [h]
  rfl

section
variable (s : State) (i : Nat) (r : LogRec) (l : List LogRec)

theorem State.log_took : (s.took i r l).log = s.tookLog i r l := rfl

theorem State.ring_tookLog : (s.tookLog i r l).ring = (s.log.ring ++ [s.numbered r]).drop (s.log.ring.length + 1 - 1024) := by
  simp only [State.tookLog]

/-- The newest record is always held. -/
theorem State.tookLog_held : (s.tookLog i r l).ring ≠ [] := by
  rw [State.ring_tookLog]
  intro none
  have short := List.drop_eq_nil_iff.mp none
  simp only [List.length_append, List.length_singleton] at short
  omega

/-- The words of the log's registers that a take of source `i` writes. -/
abbrev takenWords (i : Nat) : List Nat := [ERR_NEXT, ERR_OLDEST, ERR_LOGST, ERR_LOGD i, ERR_LOST i]

theorem State.took_onlyChanges : OnlyChanges [.log] (takenWords i) s (s.took i r l) := by
  have logged : OnlyChanges [.log] (takenWords i) s (s.onLog fun _ => s.tookLog i r l) :=
    OnlyChanges.onLog s _
  have numbered := ((logged.bump (f := whole ERR_NEXT) (by simp [whole])).bump (f := whole (ERR_LOGD i)) (by simp [whole])).put
    l.length (f := ERR_LOST_BUF i) (by simp [ERR_LOST_BUF])
  exact (numbered.put _ (f := ERR_LOGST_HELD) (by simp [ERR_LOGST_HELD])).wr _ (a := ERR_OLDEST) (by simp)

theorem ERR_LOGD_bounds : 0x1F000104 ≤ ERR_LOGD i ∧ ERR_LOGD i % 16 = 4 := by simp only [ERR_LOGD]; omega
theorem ERR_LOST_bounds : 0x1F00010C ≤ ERR_LOST i ∧ ERR_LOST i % 16 = 12 := by simp only [ERR_LOST]; omega

theorem State.rd_took_NEXT : (s.took i r l).rd ERR_NEXT = (s.rd ERR_NEXT + 1) % 2 ^ 32 := by
  have logd : ERR_NEXT ≠ (whole (ERR_LOGD i)).addr := by have := ERR_LOGD_bounds i; simp only [whole, ERR_NEXT]; omega
  have lost : ERR_NEXT ≠ (ERR_LOST_BUF i).addr := by have := ERR_LOST_bounds i; simp only [ERR_LOST_BUF, ERR_NEXT]; omega
  rw [State.took, State.showRing, State.rd_wr_ne _ _ (by decide), State.rd_put_ne _ _ _ (by decide), State.rd_put_ne _ _ _ lost,
    State.bump, State.rd_put_ne _ _ _ logd, State.rd_bump_whole, State.rd_onLog]

theorem State.rd_took_LOGD : (s.took i r l).rd (ERR_LOGD i) = (s.rd (ERR_LOGD i) + 1) % 2 ^ 32 := by
  have range := ERR_LOGD_bounds i
  have lost : ERR_LOGD i ≠ (ERR_LOST_BUF i).addr := by have := ERR_LOST_bounds i; simp only [ERR_LOST_BUF]; omega
  have next : ERR_LOGD i ≠ (whole ERR_NEXT).addr := by simp only [whole, ERR_NEXT]; omega
  have held : ERR_LOGD i ≠ ERR_LOGST_HELD.addr := by simp only [ERR_LOGST_HELD, ERR_LOGST]; omega
  have oldest : ERR_LOGD i ≠ ERR_OLDEST := by simp only [ERR_OLDEST]; omega
  have before : ((s.onLog fun _ => s.tookLog i r l).bump (whole ERR_NEXT)).rd (ERR_LOGD i) = s.rd (ERR_LOGD i) := State.rd_put_ne _ _ _ next
  have after (t : State) : (t.put (ERR_LOST_BUF i) l.length).showRing.rd (ERR_LOGD i) = t.rd (ERR_LOGD i) :=
    (State.rd_wr_ne _ _ oldest).trans ((State.rd_put_ne _ _ _ held).trans (State.rd_put_ne _ _ _ lost))
  rw [State.took, after, State.rd_bump_whole, before]

theorem State.get_took_BUF : (s.took i r l).get (ERR_LOST_BUF i) = l.length % 2 ^ (ERR_LOST_BUF 0).width := by
  have range := ERR_LOST_bounds i
  have held : (ERR_LOST_BUF i).addr ≠ ERR_LOGST_HELD.addr := by simp only [ERR_LOST_BUF, ERR_LOGST_HELD, ERR_LOGST]; omega
  have oldest : (ERR_LOST_BUF i).addr ≠ ERR_OLDEST := by simp only [ERR_LOST_BUF, ERR_OLDEST]; omega
  rw [State.took, State.showRing, State.get_wr_ne _ _ _ oldest, State.get_put_ne _ _ _ _ held]
  exact State.get_put_fits _ (ERR_LOST_BUF i) _ rfl

theorem State.log_showRing (t : State) : t.showRing.log = t.log := rfl

theorem State.get_showRing_HELD (t : State) : t.showRing.get ERR_LOGST_HELD = t.log.ring.length % 2048 :=
  (State.get_wr_ne _ _ _ (by decide)).trans (State.get_put_fits _ ERR_LOGST_HELD _ rfl)

theorem State.rd_showRing_OLDEST {s : State} {x : LogRec} (h : s.log.ring.head? = some x) : s.showRing.rd ERR_OLDEST = x.seq % 2 ^ 32 := by
  obtain ⟨l, same⟩ := List.head?_eq_some_iff.mp h
  rw [State.showRing, State.rd_wr_same, same]

theorem State.get_took_HELD : (s.took i r l).get ERR_LOGST_HELD = (s.tookLog i r l).ring.length % 2048 := by
  rw [State.took, State.get_showRing_HELD]
  rfl

theorem State.rd_took_OLDEST : some ((s.took i r l).rd ERR_OLDEST) = ((s.tookLog i r l).ring.head?).map fun x => x.seq % 2 ^ 32 := by
  cases held : (s.tookLog i r l).ring.head? with
  | some x =>
    have shown := State.rd_showRing_OLDEST (s := (((s.onLog fun _ => s.tookLog i r l).bump (whole ERR_NEXT)).bump (whole (ERR_LOGD i))).put
      (ERR_LOST_BUF i) l.length) held
    rw [State.took, shown, Option.map_some]
  | none => exact absurd (List.head?_eq_none_iff.mp held) (s.tookLog_held i r l)

end

/-! ### The scan -/

theorem State.freeBits_length (n : Nat) (s : State) : (s.freeBits n).1.length = n := by
  induction n generalizing s with
  | zero => rfl
  | succ n ih => exact congrArg (· + 1) (ih _)

end Sys2Proof.Machine
end

section
/-! PROOFS. The error log, its MRAM slots and the boundary-scan port (R488 to R493). -/

namespace Sys2Proof.Machine

/-! ### A report taken (R489, R491) -/

section
variable {s : State} {dt i : Nat} {r : LogRec} {l : List LogRec}

/-- What a take of report `r` of source `i` shows, with or without the event of a severe one. -/
structure ReportTaken (s u : State) (now i : Nat) (r : LogRec) (l : List LogRec) : Prop where
  ring : u.log.ring = (s.log.ring ++ [{ r with seq := s.rd ERR_NEXT, logged := now }]).drop (s.log.ring.length + 1 - 1024)
  next : u.rd ERR_NEXT = (s.rd ERR_NEXT + 1) % 2 ^ 32
  logd : u.rd (ERR_LOGD i) = (s.rd (ERR_LOGD i) + 1) % 2 ^ 32
  buffered : u.get (ERR_LOST_BUF i) = l.length % 2 ^ (ERR_LOST_BUF 0).width
  bufs : tabGet [] u.log.bufs i = l
  source : u.log.lastSrc = i
  instant : u.log.lastTake = some now
  oldest : some (u.rd ERR_OLDEST) = (u.log.ring.head?).map fun x => x.seq % 2 ^ 32
  held : u.get ERR_LOGST_HELD = u.log.ring.length % 2048

theorem State.took_reportTaken (s : State) (i : Nat) (r : LogRec) (l : List LogRec) : ReportTaken s (s.took i r l) s.clk.elapsed i r l where
  ring := s.ring_tookLog i r l
  next := s.rd_took_NEXT i r l
  logd := s.rd_took_LOGD i r l
  buffered := s.get_took_BUF i r l
  bufs := tabGet_tabSet_same [] s.log.bufs i l
  source := rfl
  instant := rfl
  oldest := s.rd_took_OLDEST i r l
  held := s.get_took_HELD i r l

/-- A step of the Kennel alone leaves what the take shows. -/
theorem ReportTaken.kennel {u v : State} {now : Nat} (h : ReportTaken s u now i r l) (k : Keeps [.reg .knl, .knl] u v) :
    ReportTaken s v now i r l := by
  have log : v.log = u.log := k.onlyChanges [] |>.2 .log (by decide)
  have err (a : Nat) (ha : a / 0x1000000 = Block.err.num) : v.rd a = u.rd a := k.rd (b := .err) (by decide) ha
  have field {f : Fld} (hf : InBlk .err f.addr) : v.get f = u.get f := k.get (by decide) hf
  obtain ⟨ring, next, logd, buffered, bufs, source, instant, oldest, held⟩ := h
  exact ⟨by rw [log, ring], by rw [err _ (by decide), next], by rw [err _ (ERR_LOGD_blk i).1, logd], by rw [field (ERR_LOST_BUF_blk i), buffered],
    by rw [log, bufs], by rw [log, source], by rw [log, instant], by rw [log, err _ (by decide), oldest],
    by rw [log, field ERR_LOGST_HELD_blk, held]⟩

theorem State.took_event_counted (s : State) : ((s.took i r l).event 0x55).get (KNL_EVB_FIRES 0x55) = (s.get (KNL_EVB_FIRES 0x55) + 1) % 65536 := by
  rw [State.get_event_FIRES, (s.took_onlyChanges i r l).get (b := .knl) (by decide) (KNL_EVB_FIRES_blk 0x55) (by
    have := ERR_LOGD_bounds i
    have := ERR_LOST_bounds i
    simp only [KNL_EVB_FIRES, KNL_EVB, ERR_NEXT, ERR_OLDEST, ERR_LOGST, List.mem_cons, List.not_mem_nil, or_false]
    omega)]

end

/-! ### A record persisted (R492) -/

/-- The log after its oldest severe record went to MRAM. -/
def State.persistedLog (r : LogRec) (l : List LogRec) (s : State) : ErrLog :=
  { s.log with toPersist := l, slots := tabSet s.log.slots s.log.nextSlot (r.slot (s.rd ERR_BOOT)), nextSlot := (s.log.nextSlot + 1) % 64,
               ring := s.log.ring.map fun x => if x.seq = r.seq then { x with persist := true } else x }

theorem State.persistOne_eq {s : State} {r : LogRec} {l : List LogRec} (h : s.log.toPersist = r :: l) :
    s.persistOne = (s.onLog fun _ => s.persistedLog r l).showSlots := by
  unfold State.persistOne
  rw [h]
  rfl

theorem LogRec.slot_eq (r : LogRec) (boot : Nat) : r.slot boot =
    (recordBytes { r with persist := true } ++ leBytes 2 boot ++ [0, 0]) ++
      leBytes 4 (crc32c (recordBytes { r with persist := true } ++ leBytes 2 boot ++ [0, 0])) := by
  have bytes : LogRec.bytes { r with persist := true } = recordBytes { r with persist := true } := by
    simp [LogRec.bytes, recordBytes, leBytes, b2n]
  have zero : leBytes 2 0 = [0, 0] := by decide
  simp only [LogRec.slot, bytes, zero]

/-! ### The scan (R493) -/

theorem OnlyChanges.onJtag {m : List Part} {w : List Nat} {s t : State} (h : OnlyChanges m w s t) (f : Jtag → Jtag) (hm : Part.jtag ∈ m) :
    OnlyChanges m w s (t.onJtag f) :=
  h.after (State.onJtag_keeps (m := [.jtag]) (Keeps.refl _ t) (by decide)) (by simpa using hm)

theorem State.freeBits_onlyChanges (n : Nat) (s : State) : OnlyChanges [.fresh] [] s (s.freeBits n).2 :=
  (State.freeBits_keeps (Keeps.refl [.fresh] s) (by decide)).onlyChanges []

/-- What a scan through the boundary register does. -/
structure BoundaryScan (s u : State) (i : JtagInstr) (shift : List Bool) : Prop where
  instr : u.jtag.instr = i
  captured : u.jtag.captured.length = shift.length
  cells : u.jtag.cells = shift
  frame : OnlyChanges [.clk, .jtag, .fresh, .sets] [] s u

theorem State.scan_boundary (s : State) (dt : Nat) {i : JtagInstr} (shift : List Bool)
    (h : (s.elapse dt).scan i shift = (((s.elapse dt).freeBits shift.length).2.onJtag fun j =>
      { j with instr := i, captured := ((s.elapse dt).freeBits shift.length).1, cells := shift })) :
    BoundaryScan s ((s.elapse dt).scan i shift) i shift := by
  rw [h]
  have drawn : OnlyChanges [.clk, .jtag, .fresh, .sets] [] s ((s.elapse dt).freeBits shift.length).2 :=
    (OnlyChanges.elapse dt s (by decide) (by decide)).trans
      ((State.freeBits_onlyChanges shift.length (s.elapse dt)).mono (by decide) (List.Subset.refl _))
  exact ⟨rfl, (s.elapse dt).freeBits_length shift.length, rfl, drawn.onJtag _ (by decide)⟩

/-- Settles O60: a take makes the first report in turn the newest record, a severe record's event touches the Kennel alone, and a scan
touches the port's own state and the free values it draws. -/
theorem logAndScan : Obligations.LogAndScan := by
  unfold Obligations.LogAndScan
  refine ⟨?idle, ?taken, ?severe, ?rests, ?persisted, ?bypass, ?idcode, ?sample, ?extest, ?elsewhere⟩
  case idle =>
    intro dt s h
    exact ⟨_, rfl, State.takeReport_idle (s := s.elapse dt) h⟩
  case taken =>
    intro dt i r l s may front before mild
    have waits : tabGet [] (s.elapse dt).log.bufs i ≠ [] := fun none => by simp [show tabGet [] s.log.bufs i = [] from none] at front
    have run : (s.elapse dt).takeReport = (s.elapse dt).took i r l := by
      rw [State.takeReport_first may (State.nextSource_first i.isLt waits before), State.takeFrom_eq (s := s.elapse dt) front, if_neg mild]
    obtain ⟨ring, next, logd, buffered, bufs, source, instant, oldest, held⟩ := (s.elapse dt).took_reportTaken i r l
    have frame := (OnlyChanges.elapse (m := [.clk, .log, .sets]) (l := takenWords i) dt s (by decide) (by decide)).trans
      (((s.elapse dt).took_onlyChanges i r l).mono (by decide) (List.Subset.refl _))
    exact ⟨_, congrArg Host.Outcome.next run, ring, next, logd, buffered, bufs, source, instant, oldest, held, if_neg mild, frame⟩
  case severe =>
    intro dt i r l s may front before severe
    have waits : tabGet [] (s.elapse dt).log.bufs i ≠ [] := fun none => by simp [show tabGet [] s.log.bufs i = [] from none] at front
    have run : (s.elapse dt).takeReport = ((s.elapse dt).took i r l).event 0x55 := by
      rw [State.takeReport_first may (State.nextSource_first i.isLt waits before), State.takeFrom_eq (s := s.elapse dt) front, if_pos severe]
    have event := State.event_keeps (e := 0x55) (Keeps.refl [.reg .knl, .knl] ((s.elapse dt).took i r l)) (by decide)
    obtain ⟨ring, next, logd, buffered, bufs, source, instant, oldest, held⟩ := ((s.elapse dt).took_reportTaken i r l).kennel event
    have log : (((s.elapse dt).took i r l).event 0x55).log = (s.elapse dt).tookLog i r l := event.onlyChanges [] |>.2 .log (by decide)
    exact ⟨_, congrArg Host.Outcome.next run, ring, next, logd, buffered, bufs, source, instant, oldest, held,
      (congrArg ErrLog.toPersist log).trans (if_pos severe), (s.elapse dt).took_event_counted⟩
  case rests =>
    intro dt s none
    have run : (s.elapse dt).persistOne = s.elapse dt := by
      unfold State.persistOne
      rw [show (s.elapse dt).log.toPersist = [] from none]
    exact ⟨_, rfl, run⟩
  case persisted =>
    intro dt r l s front
    have run := State.persistOne_eq (s := s.elapse dt) front
    have frame : OnlyChanges [.clk, .log, .sets] [ERR_LOGST] s (((s.elapse dt).onLog fun _ => (s.elapse dt).persistedLog r l).showSlots) :=
      ((OnlyChanges.elapse dt s (by decide) (by decide)).trans ((OnlyChanges.onLog (s.elapse dt) _).mono (by decide) (List.Subset.refl _))).put _
        (f := ERR_LOGST_NPERS) (by decide)
    exact ⟨_, congrArg Host.Outcome.next run, rfl, (tabFind_tabSet_same _ _ _).trans (congrArg some (r.slot_eq _)), rfl, rfl,
      fun j hj => tabFind_tabSet_ne _ _ hj, State.get_put_fits _ ERR_LOGST_NPERS _ rfl, frame⟩
  case bypass =>
    intro dt s
    exact ⟨_, rfl, rfl, (OnlyChanges.elapse dt s (by decide) (by decide)).onJtag _ (by decide)⟩
  case idcode =>
    intro dt s
    refine ⟨_, rfl, rfl, rfl, fun k => ?_, rfl, (OnlyChanges.elapse dt s (by decide) (by decide)).onJtag _ (by decide)⟩
    have bits : ((List.range 32).map fun k => Config.idcode.getLsbD k)[k.val]? = some (Config.idcode.getLsbD k) := by
      rw [List.getElem?_map, List.getElem?_range k.isLt, Option.map_some]
    exact bits
  case sample =>
    intro dt shift s
    obtain ⟨instr, captured, cells, frame⟩ := s.scan_boundary dt (i := .sample) shift rfl
    exact ⟨_, rfl, instr, captured, cells, frame⟩
  case extest =>
    intro dt shift s rom
    have now : (s.elapse dt).jtagNow .extest = .extest := by simp [State.jtagNow, State.rom, State.get_elapse, rom]
    obtain ⟨instr, captured, cells, frame⟩ := s.scan_boundary dt (i := .extest) shift (by rw [State.scan, now])
    exact ⟨_, rfl, instr, captured, cells, frame⟩
  case elsewhere =>
    intro dt shift s rom
    have now : (s.elapse dt).jtagNow .extest = .bypass := by simp [State.jtagNow, State.rom, State.get_elapse, rom]
    have run : (s.elapse dt).scan .extest shift = (s.elapse dt).onJtag fun j => { j with instr := .extest, captured := [false] } := by
      rw [State.scan, now]
    exact ⟨_, congrArg Host.Outcome.next run, rfl, (OnlyChanges.elapse dt s (by decide) (by decide)).onJtag _ (by decide)⟩

end Sys2Proof.Machine
end

section
/-! PROOFS. The statements of the time unit's samples and of its messages (R407 to R422). -/

namespace Sys2Proof.Machine

/-- An axis enables while a step of the clock waits for its permission: a sample comes with each Sync of the selected master. -/
def enablingInStepwait : State :=
  ((((State.reset.put TIM_CFG_SRC 2).put TIM_ST_STATE 1).put (PRF_AXST_STATE 3) 1).onClk fun c => { c with running := true }).onTim fun t =>
    { t with parent := some (1, 1), delay := some 0 }

/-- Refutes O52: an axis that began to enable in the present profile period lets the clock be stepped, in the next period it does not (R409).
The clause of a step asks for the permission before the 200 us that pass, and the sample finds none. -/
theorem not_timeSamples : ¬ Obligations.TimeSamples := by
  rintro ⟨-, -, -, -, -, -, -, -, -, -, stepped, -⟩
  obtain ⟨u, run, -, locked, -⟩ := stepped 200000 0 1 1 0 0 0 0 0 0 51200000 enablingInStepwait (by decide +kernel) (by decide +kernel) rfl
    (by decide +kernel) (by decide +kernel) (by decide +kernel) (by decide +kernel) (by decide +kernel)
  obtain rfl := Host.Outcome.next.inj run
  exact absurd locked (by decide +kernel)

/-- Refutes O53: in E2E a port without a selected master sends no Delay_Req, for which it has no addressee; the clause of the request asks for
one whatever the mechanism and the master. -/
theorem not_ptpMessages : ¬ Obligations.PtpMessages := by
  rintro ⟨-, -, -, -, -, -, -, sends, -⟩
  obtain ⟨u, run, requested, -⟩ := sends 0 (State.reset.put TIM_CFG_SRC 2) (by decide)
  obtain rfl : (State.reset.put TIM_CFG_SRC 2).elapse 0 = u := Host.Outcome.next.inj run
  exact absurd requested (by simp [State.elapse, State.put, State.wr, State.reset])

end Sys2Proof.Machine
end

section
/-! SUPPORT. What a datagram does at the service port, whatever its command (R478 to R481). -/

namespace Sys2Proof.Machine

/-! ### Who answers, and what comes to the port -/

/-- The port before it deals with a datagram: what it sent for the last command is gone. -/
def State.portReady (s : State) : State := s.sv fun x => { x with sent := none, answered := false }

theorem State.svcOn_iff (s : State) : s.svcOn = true ↔ Answers s := by
  simp [State.svcOn, Answers, or_assoc]

theorem State.ownIp_eq (s : State) : s.ownIp = match s.boot.net with | some l => ofBe (slice l 0 4) | none => 0xA9FE2038 := rfl

theorem State.ownPort_eq (s : State) : s.ownPort = match s.boot.net with | some l => leAt l 12 2 | none => 7741 := rfl

theorem State.addressed_iff (s : State) (udp : Udp) : Addressed s udp ↔ udp.dst.toNat = s.ownIp ∧ udp.port.toNat = s.ownPort := Iff.rfl

theorem serviceFrame_iff (frag : Bool) (f : List Byte) : ServiceFrame frag f ↔ frag = false ∧ frameOk f = true := by
  simp [ServiceFrame, frameOk, and_assoc]

section
variable {s : State} {mine : List Byte → Bool} {ip port : Nat} {udp : Udp} {f : List Byte} {ok : Bool}

theorem State.datagram_eq : s.datagram mine ip port udp f ok =
    if !s.svcOn || udp.dst.toNat != s.ownIp || udp.port.toNat != s.ownPort then s.portReady
    else if udp.frag || !frameOk f then s.portReady.satBump SVC_STAT_BAD 1
    else if mine f then (s.portReady.event 0x53).request { ip := ip, port := port } f ok
    else s.portReady := rfl

theorem State.datagram_other (h : ¬ Answers s ∨ ¬ Addressed s udp ∨ (ServiceFrame udp.frag f ∧ mine f = false)) :
    s.datagram mine ip port udp f ok = s.portReady := by
  rw [State.datagram_eq]
  rcases h with off | other | ⟨good, notMine⟩
  · rw [← State.svcOn_iff] at off
    exact if_pos (by simp [off])
  · rw [State.addressed_iff, not_and_or] at other
    refine if_pos ?_
    rcases other with dst | dest
    · simp [dst]
    · simp [dest]
  · obtain ⟨whole, good⟩ := (serviceFrame_iff _ _).mp good
    split
    · rfl
    · rw [if_neg (by simp [whole, good]), if_neg (by simp [notMine])]

theorem State.datagram_reaches (on : Answers s) (addr : Addressed s udp) :
    s.datagram mine ip port udp f ok =
      if udp.frag || !frameOk f then s.portReady.satBump SVC_STAT_BAD 1
      else if mine f then (s.portReady.event 0x53).request { ip := ip, port := port } f ok else s.portReady := by
  obtain ⟨dst, dest⟩ := (s.addressed_iff udp).mp addr
  rw [State.datagram_eq, if_neg (by simp [(s.svcOn_iff).mpr on, dst, dest])]

theorem State.datagram_bad (on : Answers s) (addr : Addressed s udp) (bad : ¬ ServiceFrame udp.frag f) :
    s.datagram mine ip port udp f ok = s.portReady.satBump SVC_STAT_BAD 1 := by
  rw [State.datagram_reaches on addr, if_pos]
  rw [serviceFrame_iff] at bad
  cases frag : udp.frag with
  | true => rfl
  | false => simpa [frag] using bad

theorem State.datagram_mine (on : Answers s) (addr : Addressed s udp) (good : ServiceFrame udp.frag f) (hf : mine f = true) :
    s.datagram mine ip port udp f ok = (s.portReady.event 0x53).request { ip := ip, port := port } f ok := by
  obtain ⟨whole, good⟩ := (serviceFrame_iff _ _).mp good
  rw [State.datagram_reaches on addr, if_neg (by simp [whole, good]), if_pos hf]

end

/-! ### The event 0x53 of a good frame -/

/-- The event touches the Kennel alone. -/
theorem State.portEvent_keeps (s : State) : Keeps [.reg .knl, .knl] s.portReady (s.portReady.event 0x53) :=
  State.event_keeps (Keeps.refl _ _) (by decide)

theorem State.svc_portEvent (s : State) : (s.portReady.event 0x53).svc = { s.svc with sent := none, answered := false } :=
  s.portEvent_keeps.onlyChanges [] |>.2 .svc (by decide)

theorem State.boot_portEvent (s : State) : (s.portReady.event 0x53).boot = s.boot := s.portEvent_keeps.onlyChanges [] |>.2 .boot (by decide)

theorem State.get_portEvent (s : State) {b : Block} (hb : Part.reg b ∉ [Part.reg .knl, .knl]) {f : Fld} (hf : InBlk b f.addr) :
    (s.portReady.event 0x53).get f = s.get f := s.portEvent_keeps.get hb hf

theorem State.portEvent_fires (s : State) : (s.portReady.event 0x53).get (KNL_EVB_FIRES 0x53) = (s.get (KNL_EVB_FIRES 0x53) + 1) % 65536 :=
  State.get_event_FIRES _ _

/-- The parts that a datagram may change before its command is carried out. -/
abbrev portParts : List Part := [.clk, .svc, .knl, .reg .knl, .sets]

theorem OnlyChanges.portReady (dt : Nat) (s : State) : OnlyChanges [.clk, .svc, .sets] w s (s.elapse dt).portReady :=
  (OnlyChanges.elapse dt s (by decide) (by decide)).after (n := [.svc]) (State.sv_keeps (Keeps.refl _ _) (by decide)) (by decide)

theorem OnlyChanges.portEvent (dt : Nat) (s : State) (w : List Nat) : OnlyChanges portParts w s ((s.elapse dt).portReady.event 0x53) :=
  ((OnlyChanges.portReady dt s).mono (by decide) (List.Subset.refl w)).after (s.elapse dt).portEvent_keeps (by decide)

/-! ### A request of a known endpoint (R480) -/

section
variable {s : State} {w : SvcFrom} {f : List Byte} {ok : Bool}

theorem State.request_underway {e : SvcEnd} (kept : (s.svc.ends.find? fun e => e.who == w) = some e) (seq : e.seq = frameSeq f)
    (none : e.resp = none) : s.request w f ok = s := by
  unfold State.request
  simp only [kept, seq, none, if_true]

theorem State.request_repeated {e : SvcEnd} {k : List Byte} (kept : (s.svc.ends.find? fun e => e.who == w) = some e) (seq : e.seq = frameSeq f)
    (answer : e.resp = some k) : s.request w f ok = s.sv fun x => { x with sent := some k, answered := true, via := s.nextHop w.ip } := by
  unfold State.request
  simp only [kept, seq, answer, if_true]

theorem State.request_overrun {e : SvcEnd} (kept : (s.svc.ends.find? fun e => e.who == w) = some e) (seq : e.seq ≠ frameSeq f)
    (none : e.resp = none) : s.request w f ok = s.satBump SVC_STAT_OVR 1 := by
  unfold State.request
  simp only [kept, seq, none, if_false, Option.isNone_none, if_true]

/-- A request that is refused with STATUS `st` in the state it leaves. -/
theorem State.request_refused {st : Nat} (new : (s.svc.ends.find? fun e => e.who == w).all (fun e => decide (e.seq ≠ frameSeq f) && e.resp.isSome) = true)
    (refused : (s.newRequest w (frameSeq f)).serve w (frameCmd f) (frameSeq f) 0 (frameBody f) ok = refusal st (s.newRequest w (frameSeq f))) :
    s.request w f ok = (s.newRequest w (frameSeq f)).svcSend w (svcFrame (frameCmd f) (s.respFlags false) st (frameSeq f) []) := by
  unfold State.request
  cases kept : s.svc.ends.find? fun e => e.who == w with
  | none => simp only [refused, refusal]
  | some e =>
    rw [kept] at new
    simp only [Option.all_some, Bool.and_eq_true, decide_eq_true_eq] at new
    obtain ⟨seq, answered⟩ := new
    obtain ⟨k, answer⟩ := Option.isSome_iff_exists.mp answered
    simp only [refused, refusal, seq, answer, if_false, Option.isNone_some, Bool.false_eq_true]

/-- Of 16 endpoints kept the newest is the last. -/
theorem getLast?_keep16 (l : List SvcEnd) (e : SvcEnd) : ((l ++ [e]).drop ((l ++ [e]).length - 16)).getLast? = some e := by
  rw [List.getLast?_drop, if_neg (by simp only [List.length_append, List.length_singleton]; omega), List.getLast?_concat]

theorem State.ends_newRequest (s : State) (w : SvcFrom) (seq : Nat) :
    (s.newRequest w seq).svc.ends.getLast? = some { who := w, seq := seq, resp := none } :=
  getLast?_keep16 (s.svc.ends.filter fun e => e.who != w) { who := w, seq := seq }

/-- The newest endpoint stands last, with its response. -/
theorem State.newRequest_svcSend_last (s : State) (w : SvcFrom) (seq : Nat) (r : List Byte) :
    ((s.newRequest w seq).svcSend w r).svc.ends.getLast? = some { who := w, seq := seq, resp := some r } := by
  change (List.map (fun e : SvcEnd => if e.who = w then { e with resp := some r } else e) (s.newRequest w seq).svc.ends).getLast? = _
  rw [List.getLast?_map, State.ends_newRequest, Option.map_some, if_pos rfl]

end

/-! ### The refusals that do not depend on the body (R481) -/

section
variable {s : State} {w : SvcFrom} {cmd seq mseq : Nat} {b : List Byte} {ok : Bool}

theorem State.serve_unknown (h : (svcKnown cmd && !(s.rom && !svcRecovery cmd)) = false) : s.serve w cmd seq mseq b ok = refusal 1 s := by
  unfold State.serve
  refine if_pos ?_
  revert h
  cases svcKnown cmd <;> cases s.rom <;> cases svcRecovery cmd <;> decide

theorem State.serve_notWriter (known : svcKnown cmd = true) (here : (s.rom && !svcRecovery cmd) = false) (port : w.ring = false)
    (writes : svcWrites cmd = true) (other : s.writer w.ip = false) : s.serve w cmd seq mseq b ok = refusal 4 s := by
  unfold State.serve
  rw [if_neg (by simp [known, here]), if_neg (by simp [port]), if_pos (by simp [writes, State.svcWriter, port, other])]

theorem State.serve_malformedSafety (image : s.rom = false) (port : w.ring = false) (writer : s.writer w.ip = true) (bad : safetyBody b = false) :
    s.serve w 0xB seq mseq b ok = refusal 2 s := by
  unfold State.serve
  rw [if_neg (by simp [image, svcKnown]), if_neg (by simp [port]), if_neg (by simp [State.svcWriter, writer])]
  simp [State.svcSafety, bad]

end

end Sys2Proof.Machine
end

section
/-! PROOFS. What the service port answers (R478 to R481). -/

namespace Sys2Proof.Machine

/-! ### A row of the table of commands (R480, R481) -/

section
variable {dt : Nat} {ip : BitVec 32} {port : BitVec 16} {udp : Udp} {f : List (BitVec 8)} {s : State}

/-- R480: the endpoint's last request was this one, or is in execution: a response is repeated at most. -/
def Repeats (s : State) (ip : BitVec 32) (port : BitVec 16) (f : List Byte) : Prop :=
  (keptOf s ip.toNat port.toNat).any (fun e => decide (e.seq = leAt f 4 2) || e.resp.isNone) = true

/-- The command `c` is one row of the table: it deals with the requests that are `mine`, as far as they are repeated or discarded. -/
def RowOf (c : Nat → BitVec 32 → BitVec 16 → Udp → List (BitVec 8) → Instr) (mine : List Byte → Bool) (ok : Bool) : Prop :=
  ∀ dt ip port udp f s,
    ((s.elapse dt).datagram mine ip.toNat port.toNat udp f ok).svc.sent = none ∨ Repeats s ip port f →
    exec (c dt ip port udp f) s = .next ((s.elapse dt).datagram mine ip.toNat port.toNat udp f ok)

/-- What every row of the table does with a datagram. `mine` says which requests it is about, `other` which requests of other rows. -/
structure PortRow (c : Nat → BitVec 32 → BitVec 16 → Udp → List (BitVec 8) → Instr) (mine other : List Byte → Prop) : Prop where
  silent : ∀ dt ip port udp f s, (¬ Answers s ∨ ¬ Addressed s udp ∨ (ServiceFrame udp.frag f ∧ other f)) →
    ∃ u, exec (c dt ip port udp f) s = .next u ∧ u = (s.elapse dt).sv fun x => { x with sent := none, answered := false }
  underway : ∀ dt ip port udp f s, Answers s → Addressed s udp → ServiceFrame udp.frag f → mine f →
    keptOf s ip.toNat port.toNat = some { who := { ip := ip.toNat, port := port.toNat }, seq := leAt f 4 2, resp := none } →
    ∃ u, exec (c dt ip port udp f) s = .next u ∧ u.svc = { s.svc with sent := none, answered := false } ∧
      u.get (KNL_EVB_FIRES 0x53) = (s.get (KNL_EVB_FIRES 0x53) + 1) % 65536 ∧ OnlyChanges [.clk, .svc, .knl, .reg .knl, .sets] [] s u
  bad : ∀ dt ip port udp f s, Answers s → Addressed s udp → ¬ ServiceFrame udp.frag f →
    ∃ u, exec (c dt ip port udp f) s = .next u ∧ u.get SVC_STAT_BAD = min (s.get SVC_STAT_BAD + 1) 65535 ∧
      u.svc = { s.svc with sent := none, answered := false } ∧ OnlyChanges [.clk, .svc, .sets] [SVC_STAT] s u
  repeated : ∀ dt ip port udp f k s, Answers s → Addressed s udp → ServiceFrame udp.frag f → mine f →
    keptOf s ip.toNat port.toNat = some { who := { ip := ip.toNat, port := port.toNat }, seq := leAt f 4 2, resp := some k } →
    ∃ u, exec (c dt ip port udp f) s = .next u ∧ u.svc = { s.svc with sent := some k, answered := true, via := s.nextHop ip.toNat } ∧
      u.get (KNL_EVB_FIRES 0x53) = (s.get (KNL_EVB_FIRES 0x53) + 1) % 65536 ∧ OnlyChanges [.clk, .svc, .knl, .reg .knl, .sets] [] s u
  overrun : ∀ dt ip port udp f q s, Answers s → Addressed s udp → ServiceFrame udp.frag f → mine f → q ≠ leAt f 4 2 →
    keptOf s ip.toNat port.toNat = some { who := { ip := ip.toNat, port := port.toNat }, seq := q, resp := none } →
    ∃ u, exec (c dt ip port udp f) s = .next u ∧ u.get SVC_STAT_OVR = min (s.get SVC_STAT_OVR + 1) 65535 ∧
      u.svc = { s.svc with sent := none, answered := false } ∧ OnlyChanges [.clk, .svc, .knl, .reg .knl, .sets] [SVC_STAT] s u

/-- The endpoint that the port knows is still known after the event of a good frame. -/
theorem keptOf_portEvent {e : SvcEnd} (kept : keptOf s ip.toNat port.toNat = some e) :
    (((s.elapse dt).portReady.event 0x53).svc.ends.find? fun e => e.who == { ip := ip.toNat, port := port.toNat }) = some e := by
  rw [(s.elapse dt).svc_portEvent]
  exact kept

theorem nextHop_congr {t : State} (h : t.boot = s.boot) (a : Nat) : t.nextHop a = s.nextHop a := by
  have field (o d : Nat) : t.netField o d = s.netField o d := by rw [State.netField, State.netField, h]
  have mask : t.ownMask = s.ownMask := field 4 _
  have own : t.ownIp = s.ownIp := field 0 _
  have gateway : t.gateway = s.gateway := field 8 _
  rw [State.nextHop, State.nextHop, mask, own, gateway]

theorem PortRow.of_row {c : Nat → BitVec 32 → BitVec 16 → Udp → List (BitVec 8) → Instr} {row : List Byte → Bool} {ok : Bool}
    {mine other : List Byte → Prop} (runs : RowOf c row ok) (isMine : ∀ f, mine f → row f = true) (isOther : ∀ f, other f → row f = false) :
    PortRow c mine other where
  silent dt ip port udp f s h := by
    have silent := State.datagram_other (s := s.elapse dt) (mine := row) (ip := ip.toNat) (port := port.toNat) (ok := ok)
      (h.imp_right (Or.imp_right (And.imp_right (isOther f))))
    exact ⟨_, runs dt ip port udp f s (.inl (by rw [silent]; rfl)), silent⟩
  underway dt ip port udp f s on addr good hf kept := by
    refine ⟨_, runs dt ip port udp f s (.inr (by simp [Repeats, kept])), ?_⟩
    rw [State.datagram_mine (s := s.elapse dt) on addr good (isMine f hf), State.request_underway (keptOf_portEvent kept) rfl rfl]
    exact ⟨(s.elapse dt).svc_portEvent, (s.elapse dt).portEvent_fires, OnlyChanges.portEvent dt s []⟩
  bad dt ip port udp f s on addr bad := by
    have counted := State.datagram_bad (s := s.elapse dt) (mine := row) (ip := ip.toNat) (port := port.toNat) (ok := ok) on addr bad
    refine ⟨_, runs dt ip port udp f s (.inl (by rw [counted]; rfl)), ?_⟩
    rw [counted]
    exact ⟨State.get_satBump_fits _ SVC_STAT_BAD 1 rfl, rfl, (OnlyChanges.portReady dt s).satBump 1 (by decide)⟩
  repeated dt ip port udp f k s on addr good hf kept := by
    refine ⟨_, runs dt ip port udp f s (.inr (by simp [Repeats, kept])), ?_⟩
    rw [State.datagram_mine (s := s.elapse dt) on addr good (isMine f hf), State.request_repeated (keptOf_portEvent kept) rfl rfl]
    have hop : ((s.elapse dt).portReady.event 0x53).nextHop ip.toNat = s.nextHop ip.toNat := nextHop_congr (s.elapse dt).boot_portEvent _
    refine ⟨?_, (s.elapse dt).portEvent_fires,
      (OnlyChanges.portEvent dt s []).after (n := [.svc]) (State.sv_keeps (Keeps.refl _ _) (by decide)) (by decide)⟩
    rw [hop]
    exact congrArg (fun x : Svc => { x with sent := some k, answered := true, via := s.nextHop ip.toNat }) (s.elapse dt).svc_portEvent
  overrun dt ip port udp f q s on addr good hf seq kept := by
    have stat : ((s.elapse dt).portReady.event 0x53).get SVC_STAT_OVR = s.get SVC_STAT_OVR :=
      (s.elapse dt).get_portEvent (by decide) SVC_STAT_OVR_blk
    refine ⟨_, runs dt ip port udp f s (.inr (by simp [Repeats, kept])), ?_⟩
    rw [State.datagram_mine (s := s.elapse dt) on addr good (isMine f hf), State.request_overrun (keptOf_portEvent kept) seq rfl]
    refine ⟨?_, (s.elapse dt).svc_portEvent, (OnlyChanges.portEvent dt s [SVC_STAT]).satBump 1 (by decide)⟩
    rw [State.get_satBump_fits _ SVC_STAT_OVR 1 rfl, stat]
    rfl

/-! ### A new request that is refused (R481) -/

/-- What a request that is refused with STATUS `st` leaves. -/
structure PortRefusal (s u : State) (ip : BitVec 32) (port : BitVec 16) (cmd st : Nat) (f : List Byte) : Prop where
  answer : Answered s u ip.toNat port.toNat cmd st f []
  counted : u.get (KNL_EVB_FIRES 0x53) = (s.get (KNL_EVB_FIRES 0x53) + 1) % 65536
  frame : OnlyChanges [.clk, .svc, .knl, .reg .knl, .sets] [] s u

/-- The state in which a new request is carried out. -/
def State.asked (dt : Nat) (ip : BitVec 32) (port : BitVec 16) (f : List Byte) (s : State) : State :=
  ((s.elapse dt).portReady.event 0x53).newRequest { ip := ip.toNat, port := port.toNat } (frameSeq f)

theorem State.rom_asked : (s.asked dt ip port f).rom = s.rom := by
  have state : (s.asked dt ip port f).get CFG_STATE_STATE = s.get CFG_STATE_STATE := (s.elapse dt).get_portEvent (by decide) CFG_STATE_STATE_blk
  simp only [State.rom, state]

theorem State.writer_asked : (s.asked dt ip port f).writer ip.toNat = s.writer ip.toNat := by
  have state : (s.asked dt ip port f).get CFG_STATE_STATE = s.get CFG_STATE_STATE := (s.elapse dt).get_portEvent (by decide) CFG_STATE_STATE_blk
  have net : (s.asked dt ip port f).boot = s.boot := (s.elapse dt).boot_portEvent
  simp only [State.writer, state, net]

theorem State.datagram_refused {row : List Byte → Bool} {ok : Bool} {cmd st : Nat} (new : NewRequest s ip.toNat port.toNat udp cmd f)
    (hf : row f = true) (refused : (s.asked dt ip port f).serve { ip := ip.toNat, port := port.toNat } cmd (frameSeq f) 0 (frameBody f) ok =
      refusal st (s.asked dt ip port f)) :
    PortRefusal s ((s.elapse dt).datagram row ip.toNat port.toNat udp f ok) ip port cmd st f := by
  obtain ⟨on, addr, good, rfl, others⟩ := new
  have kept : (((s.elapse dt).portReady.event 0x53).svc.ends.find? fun e => e.who == { ip := ip.toNat, port := port.toNat }) =
      keptOf s ip.toNat port.toNat := by rw [(s.elapse dt).svc_portEvent]; rfl
  have flags : ((s.elapse dt).portReady.event 0x53).respFlags false = if s.get CFG_STATE_STATE = 0xE then 3 else 1 := by
    have state : ((s.elapse dt).portReady.event 0x53).get CFG_STATE_STATE = s.get CFG_STATE_STATE :=
      (s.elapse dt).get_portEvent (by decide) CFG_STATE_STATE_blk
    simp only [State.respFlags, State.rom, state, beq_iff_eq]
    split <;> rfl
  rw [State.datagram_mine (s := s.elapse dt) on addr good hf, State.request_refused (by rw [kept]; exact others) refused, flags]
  refine ⟨⟨rfl, rfl, nextHop_congr (s.elapse dt).boot_portEvent _, State.newRequest_svcSend_last _ _ _ _⟩, (s.elapse dt).portEvent_fires, ?_⟩
  exact (OnlyChanges.portEvent dt s []).after (n := [.svc])
    (State.svcSend_keeps (State.newRequest_keeps (Keeps.refl _ _) (by decide)) (by decide)) (by decide)

end

/-! ### The rows -/

theorem infoRow : PortRow .info (fun f => leAt f 1 1 = 0x1)
    (fun f => 2 ≤ leAt f 1 1 ∧ leAt f 1 1 ≤ 0xC ∧ (leAt f 1 1 ≠ 0xB ∨ leAt (frameBody f) 0 1 ∈ [1, 2, 3])) := by
  refine PortRow.of_row (row := isInfo) (ok := true) (fun _ _ _ _ _ _ _ => rfl) (fun f hf => ?_) (fun f hf => ?_)
  · simp [isInfo, frameCmd, hf]
  · obtain ⟨low, high, safety⟩ := hf
    have notInfo : leAt f 1 1 ≠ 1 := by omega
    have least : 1 ≤ leAt f 1 1 := by omega
    simp only [List.mem_cons, List.not_mem_nil, or_false] at safety
    simp only [isInfo, svcKnown, isSafety, frameCmd, Bool.or_eq_false_iff, Bool.and_eq_false_iff, beq_eq_false_iff_ne, Bool.not_eq_false',
      Bool.or_eq_true, Bool.and_eq_true, beq_iff_eq]
    refine ⟨⟨notInfo, decide_eq_true least, decide_eq_true high⟩, ?_⟩
    by_cases isSafe : leAt f 1 1 = 0xB
    · rcases safety.resolve_left (not_not.mpr isSafe) with one | two | three
      · exact .inr (.inl (.inl ⟨isSafe, one⟩))
      · exact .inr (.inl (.inr ⟨isSafe, two⟩))
      · exact .inr (.inr ⟨isSafe, three⟩)
    · exact .inl isSafe

/-- A row that one CMD names. -/
theorem PortRow.of_cmd {c : Nat → BitVec 32 → BitVec 16 → Udp → List (BitVec 8) → Instr} {n : Nat} {ok : Bool}
    (runs : RowOf c (frameCmd · == n) ok) : PortRow c (fun f => leAt f 1 1 = n) (fun f => leAt f 1 1 ≠ n) :=
  PortRow.of_row runs (fun _ hf => beq_iff_eq.mpr hf) (fun _ hf => beq_eq_false_iff_ne.mpr hf)

/-- A row of the SAFETY requests with one REQ. -/
theorem PortRow.of_safety {c : Nat → BitVec 32 → BitVec 16 → Udp → List (BitVec 8) → Instr} {r : Nat} {ok : Bool} (runs : RowOf c (isSafety r) ok) :
    PortRow c (fun f => leAt f 1 1 = 0xB ∧ leAt (frameBody f) 0 1 = r) (fun f => leAt f 1 1 ≠ 0xB ∨ leAt (frameBody f) 0 1 ≠ r) := by
  refine PortRow.of_row runs (fun f hf => ?_) (fun f hf => ?_)
  · simp [isSafety, frameCmd, hf]
  · rw [isSafety, Bool.and_eq_false_iff, beq_eq_false_iff_ne, beq_eq_false_iff_ne]
    exact hf

/-! ### RESTART (R487) -/

section
variable {dt : Nat} {ip : BitVec 32} {port : BitVec 16} {udp : Udp} {f : List (BitVec 8)} {s : State} {qvsel clksel test : Bool}

/-- The port's answer to a RESTART, before the restart. -/
def State.restartAnswer (dt : Nat) (ip : BitVec 32) (port : BitVec 16) (udp : Udp) (f : List (BitVec 8)) (s : State) : State :=
  (s.elapse dt).datagram (frameCmd · == 0xC) ip.toNat port.toNat udp f true

theorem leAt_svcFrame_status (cmd flags st seq : Nat) (body : List Byte) : leAt (svcFrame cmd flags st seq body) 3 1 = st % 256 := by
  simp [svcFrame, leBytes, leAt, slice, ofLe]

/-- Nothing restarts without a new response with STATUS 0. -/
theorem exec_restart_stays (h : (s.restartAnswer dt ip port udp f).svc.sent = none ∨ Repeats s ip port f ∨
      leAt ((s.restartAnswer dt ip port udp f).svc.sent.getD []) 3 1 ≠ 0) :
    exec (.restart dt ip port udp f qvsel clksel test) s = .next (s.restartAnswer dt ip port udp f) := by
  refine congrArg Host.Outcome.next (if_neg ?_)
  change ¬ (((s.restartAnswer dt ip port udp f).svc.ends.any fun e => _) && !(s.svc.ends.any fun e => _) &&
    leAt ((s.restartAnswer dt ip port udp f).svc.sent.getD []) 3 1 == 0) = true
  rcases h with silent | again | refused
  · have done : ((s.restartAnswer dt ip port udp f).svc.ends.any fun e => e.who == ({ ip := ip.toNat, port := port.toNat } : SvcFrom) &&
        e.seq == frameSeq f && e.resp == (s.restartAnswer dt ip port udp f).svc.sent && e.resp.isSome) = false := by
      refine List.any_eq_false.mpr fun e _ => ?_
      cases answer : e.resp <;> simp [silent]
    exact fun h => absurd (Bool.and_eq_true_iff.mp (Bool.and_eq_true_iff.mp h).1).1 (Bool.eq_false_iff.mp done)
  · obtain ⟨e, kept, now⟩ := (Option.any_eq_true _ _).mp again
    have was : (s.svc.ends.any fun e => e.who == ({ ip := ip.toNat, port := port.toNat } : SvcFrom) && (e.seq == frameSeq f || e.resp.isNone)) = true := by
      refine List.any_eq_true.mpr ⟨e, List.mem_of_find?_eq_some kept, ?_⟩
      rw [List.find?_some kept, Bool.true_and]
      exact now
    simp [was]
  · simp [refused]

theorem restartRow : PortRow (fun dt ip port udp f => .restart dt ip port udp f qvsel clksel test) (fun f => leAt f 1 1 = 0xC)
    (fun f => leAt f 1 1 ≠ 0xC) :=
  PortRow.of_cmd (ok := true) fun _ _ _ _ _ _ h => exec_restart_stays (h.imp_right Or.inl)

theorem exec_restart_refused {st : Nat} (h : PortRefusal s (s.restartAnswer dt ip port udp f) ip port 0xC st f) (hst : st % 256 ≠ 0) :
    exec (.restart dt ip port udp f qvsel clksel test) s = .next (s.restartAnswer dt ip port udp f) := by
  obtain ⟨sent, -⟩ := h.answer
  refine exec_restart_stays (.inr (.inr ?_))
  rw [sent, Option.getD_some, leAt_svcFrame_status]
  exact hst

end

end Sys2Proof.Machine
end

section
/-! PROOFS. The statement of the service port (R478 to R481). -/

namespace Sys2Proof.Machine

section
variable {dt : Nat} {ip : BitVec 32} {port : BitVec 16} {udp : Udp} {f : List (BitVec 8)} {s : State} {row : List Byte → Bool} {ok : Bool} {cmd : Nat}

/-- Outside the recovery subset, or without a meaning, a request is refused with STATUS 0x01. -/
theorem refuses_unknown (new : NewRequest s ip.toNat port.toNat udp cmd f) (hf : row f = true)
    (h : (svcKnown cmd && !(s.rom && !svcRecovery cmd)) = false) :
    PortRefusal s ((s.elapse dt).datagram row ip.toNat port.toNat udp f ok) ip port cmd 1 f :=
  State.datagram_refused new hf (State.serve_unknown (by rw [State.rom_asked]; exact h))

/-- One who is no writer is refused with STATUS 0x04. -/
theorem refuses_notWriter (new : NewRequest s ip.toNat port.toNat udp cmd f) (hf : row f = true) (known : svcKnown cmd = true)
    (here : (s.rom && !svcRecovery cmd) = false) (writes : svcWrites cmd = true) (other : s.writer ip.toNat = false) :
    PortRefusal s ((s.elapse dt).datagram row ip.toNat port.toNat udp f ok) ip port cmd 4 f :=
  State.datagram_refused new hf
    (State.serve_notWriter known (by rw [State.rom_asked]; exact here) rfl writes (State.writer_asked.trans other))

theorem State.rom_eq_true (h : s.get CFG_STATE_STATE = 0xE) : s.rom = true := beq_iff_eq.mpr h

theorem State.rom_eq_false (h : s.get CFG_STATE_STATE ≠ 0xE) : s.rom = false := beq_eq_false_iff_ne.mpr h

/-- In NO_IMAGE a request outside the recovery subset is refused. -/
theorem refuses_inRom (new : NewRequest s ip.toNat port.toNat udp cmd f) (hf : row f = true) (rom : s.get CFG_STATE_STATE = 0xE)
    (outside : svcRecovery cmd = false) : PortRefusal s ((s.elapse dt).datagram row ip.toNat port.toNat udp f ok) ip port cmd 1 f :=
  refuses_unknown new hf (by rw [State.rom_eq_true rom, outside, Bool.not_false, Bool.and_true, Bool.not_true, Bool.and_false])

/-- With an image in force no request is outside the subset that the part answers. -/
theorem here_of_image (h : s.get CFG_STATE_STATE ≠ 0xE) : (s.rom && !svcRecovery cmd) = false := by
  rw [State.rom_eq_false h, Bool.false_and]

theorem frameCmd_row (new : NewRequest s ip.toNat port.toNat udp cmd f) : (frameCmd f == cmd) = true := by
  obtain ⟨-, -, -, named, -⟩ := new
  exact beq_iff_eq.mpr named

theorem isSafety_row {r : Nat} (new : NewRequest s ip.toNat port.toNat udp 0xB f) (req : leAt (frameBody f) 0 1 = r) : isSafety r f = true := by
  obtain ⟨-, -, -, named, -⟩ := new
  simp [isSafety, frameCmd, named, req]

/-- A SAFETY request with an unknown REQ comes to the row of INFO, malformed. -/
theorem isInfo_unknownSafety (new : NewRequest s ip.toNat port.toNat udp 0xB f) (req : leAt (frameBody f) 0 1 = 0 ∨ 3 < leAt (frameBody f) 0 1) :
    isInfo f = true ∧ safetyBody (frameBody f) = false := by
  obtain ⟨-, -, -, named, -⟩ := new
  have not1 : leAt (frameBody f) 0 1 ≠ 1 := by omega
  have not2 : leAt (frameBody f) 0 1 ≠ 2 := by omega
  have not3 : leAt (frameBody f) 0 1 ≠ 3 := by omega
  refine ⟨by simp [isInfo, isSafety, frameCmd, named, not1, not2, not3], ?_⟩
  rcases req with zero | many
  · simp [safetyBody, zero]
  · simp [safetyBody, Nat.not_le.mpr many]

theorem isInfo_unknown (new : NewRequest s ip.toNat port.toNat udp cmd f) (h : svcKnown cmd = false) : isInfo f = true := by
  obtain ⟨-, -, -, rfl, -⟩ := new
  simp [isInfo, frameCmd, h]

theorem svcKnown_eq_false (h : cmd = 0 ∨ 0xC < cmd) : svcKnown cmd = false := by
  rcases h with rfl | many
  · rfl
  · simp [svcKnown, Nat.not_le.mpr many]

/-! ### ARP and ICMP (R478) -/

theorem State.netAnswer_own {target : Nat} (data : Option (List Byte)) (on : Answers s)
    (own : s.ownIp = target) : s.netAnswer target data = s.sv fun x => { x with sent := data, answered := true } :=
  if_pos (by rw [(s.svcOn_iff).mpr on, own, beq_self_eq_true]; rfl)

theorem State.netAnswer_other {target : Nat} (data : Option (List Byte)) (h : ¬ Answers s ∨ s.ownIp ≠ target) :
    s.netAnswer target data = s.sv fun x => { x with sent := none, answered := false } := by
  rw [← State.svcOn_iff] at h
  refine if_neg fun both => ?_
  obtain ⟨on, own⟩ := Bool.and_eq_true_iff.mp both
  exact h.elim (fun off => off on) fun other => other (beq_iff_eq.mp own)

end

/-! ### The statement -/

theorem acceptRow (ok : Bool) : PortRow (fun dt ip port udp f => .accept dt ip port udp f ok)
    (fun f => leAt f 1 1 = 0xB ∧ leAt (frameBody f) 0 1 = 1) (fun f => leAt f 1 1 ≠ 0xB ∨ leAt (frameBody f) 0 1 ≠ 1) :=
  PortRow.of_safety (ok := ok) fun _ _ _ _ _ _ _ => rfl

theorem withdrawRow (ok : Bool) : PortRow (fun dt ip port udp f => .withdraw dt ip port udp f ok)
    (fun f => leAt f 1 1 = 0xB ∧ leAt (frameBody f) 0 1 = 2) (fun f => leAt f 1 1 ≠ 0xB ∨ leAt (frameBody f) 0 1 ≠ 2) :=
  PortRow.of_safety (ok := ok) fun _ _ _ _ _ _ _ => rfl

theorem clearlogRow (ok : Bool) : PortRow (fun dt ip port udp f => .clearlog dt ip port udp f ok)
    (fun f => leAt f 1 1 = 0xB ∧ leAt (frameBody f) 0 1 = 3) (fun f => leAt f 1 1 ≠ 0xB ∨ leAt (frameBody f) 0 1 ≠ 3) :=
  PortRow.of_safety (ok := ok) fun _ _ _ _ _ _ _ => rfl

/-- Settles O58: every command is a row of the table, which deals with repeated, early and discarded requests in one way (`PortRow`); what is
refused for its CMD or its sender alone is refused before the body is looked at (`PortRefusal`). -/
theorem servicePort : Obligations.ServicePort := by
  have read : PortRow .read (fun f => leAt f 1 1 = 0x2) (fun f => leAt f 1 1 ≠ 0x2) := PortRow.of_cmd (ok := true) fun _ _ _ _ _ _ _ => rfl
  have write : PortRow .write (fun f => leAt f 1 1 = 0x3) (fun f => leAt f 1 1 ≠ 0x3) := PortRow.of_cmd (ok := true) fun _ _ _ _ _ _ _ => rfl
  have logread : PortRow .logread (fun f => leAt f 1 1 = 0x4) (fun f => leAt f 1 1 ≠ 0x4) := PortRow.of_cmd (ok := true) fun _ _ _ _ _ _ _ => rfl
  have persread : PortRow .persread (fun f => leAt f 1 1 = 0x5) (fun f => leAt f 1 1 ≠ 0x5) := PortRow.of_cmd (ok := true) fun _ _ _ _ _ _ _ => rfl
  have motion : PortRow .motion (fun f => leAt f 1 1 = 0x6) (fun f => leAt f 1 1 ≠ 0x6) := PortRow.of_cmd (ok := true) fun _ _ _ _ _ _ _ => rfl
  have events : PortRow .events (fun f => leAt f 1 1 = 0x7) (fun f => leAt f 1 1 ≠ 0x7) := PortRow.of_cmd (ok := true) fun _ _ _ _ _ _ _ => rfl
  have dlbegin : PortRow .dlbegin (fun f => leAt f 1 1 = 0x8) (fun f => leAt f 1 1 ≠ 0x8) := PortRow.of_cmd (ok := true) fun _ _ _ _ _ _ _ => rfl
  have dldata : PortRow .dldata (fun f => leAt f 1 1 = 0x9) (fun f => leAt f 1 1 ≠ 0x9) := PortRow.of_cmd (ok := true) fun _ _ _ _ _ _ _ => rfl
  have dlend : PortRow .dlend (fun f => leAt f 1 1 = 0xA) (fun f => leAt f 1 1 ≠ 0xA) := PortRow.of_cmd (ok := true) fun _ _ _ _ _ _ _ => rfl
  unfold Obligations.ServicePort
  refine ⟨infoRow.silent, infoRow.underway, infoRow.bad, infoRow.repeated, infoRow.overrun,
    read.silent, read.underway, read.bad, read.repeated, read.overrun,
    write.silent, write.underway, write.bad, write.repeated, write.overrun, ?writeForeign, ?writeRom,
    logread.silent, logread.underway, logread.bad, logread.repeated, logread.overrun,
    persread.silent, persread.underway, persread.bad, persread.repeated, persread.overrun,
    motion.silent, motion.underway, motion.bad, motion.repeated, motion.overrun, ?motionForeign, ?motionRom,
    events.silent, events.underway, events.bad, events.repeated, events.overrun, ?eventsRom,
    dlbegin.silent, dlbegin.underway, dlbegin.bad, dlbegin.repeated, dlbegin.overrun, ?dlbeginForeign,
    dldata.silent, dldata.underway, dldata.bad, dldata.repeated, dldata.overrun, ?dldataForeign,
    dlend.silent, dlend.underway, dlend.bad, dlend.repeated, dlend.overrun, ?dlendForeign,
    fun dt ip port udp f _ _ _ => restartRow.silent dt ip port udp f, fun dt ip port udp f _ _ _ => restartRow.underway dt ip port udp f,
    fun dt ip port udp f _ _ _ => restartRow.bad dt ip port udp f, fun dt ip port udp f _ _ _ => restartRow.repeated dt ip port udp f,
    fun dt ip port udp f _ _ _ => restartRow.overrun dt ip port udp f, ?restartForeign,
    fun dt ip port udp f ok => (acceptRow ok).silent dt ip port udp f, fun dt ip port udp f ok => (acceptRow ok).underway dt ip port udp f,
    fun dt ip port udp f ok => (acceptRow ok).bad dt ip port udp f, fun dt ip port udp f ok => (acceptRow ok).repeated dt ip port udp f,
    fun dt ip port udp f ok => (acceptRow ok).overrun dt ip port udp f, ?acceptForeign, ?acceptRom,
    fun dt ip port udp f ok => (withdrawRow ok).silent dt ip port udp f, fun dt ip port udp f ok => (withdrawRow ok).underway dt ip port udp f,
    fun dt ip port udp f ok => (withdrawRow ok).bad dt ip port udp f, fun dt ip port udp f ok => (withdrawRow ok).repeated dt ip port udp f,
    fun dt ip port udp f ok => (withdrawRow ok).overrun dt ip port udp f, ?withdrawForeign, ?withdrawRom,
    fun dt ip port udp f ok => (clearlogRow ok).silent dt ip port udp f, fun dt ip port udp f ok => (clearlogRow ok).underway dt ip port udp f,
    fun dt ip port udp f ok => (clearlogRow ok).bad dt ip port udp f, fun dt ip port udp f ok => (clearlogRow ok).repeated dt ip port udp f,
    fun dt ip port udp f ok => (clearlogRow ok).overrun dt ip port udp f, ?clearlogForeign, ?clearlogRom,
    ?unknown, ?unknownSafety, ?arp, ?arpOther, ?icmp, ?icmpOther, ?icmpFragment, ?icmpOff⟩
  case writeForeign | motionForeign =>
    intro dt ip port udp f s new other image
    have refused := refuses_notWriter (dt := dt) (row := (frameCmd · == _)) (ok := true) new (frameCmd_row new) rfl (here_of_image image) rfl other
    exact ⟨_, rfl, refused.answer, refused.frame⟩
  case writeRom | motionRom | eventsRom =>
    intro dt ip port udp f s new rom
    have refused := refuses_inRom (dt := dt) (row := (frameCmd · == _)) (ok := true) new (frameCmd_row new) rom rfl
    exact ⟨_, rfl, refused.answer, refused.frame⟩
  case dlbeginForeign | dldataForeign | dlendForeign =>
    intro dt ip port udp f s new other
    have refused := refuses_notWriter (dt := dt) (row := (frameCmd · == _)) (ok := true) new (frameCmd_row new) rfl (Bool.and_false _) rfl other
    exact ⟨_, rfl, refused.answer, refused.frame⟩
  case restartForeign =>
    intro dt ip port udp f _ _ _ s new other
    have refused := refuses_notWriter (dt := dt) (row := (frameCmd · == _)) (ok := true) new (frameCmd_row new) rfl (Bool.and_false _) rfl other
    exact ⟨_, exec_restart_refused refused (by decide), refused.answer, refused.frame⟩
  case acceptForeign | withdrawForeign | clearlogForeign =>
    intro dt ip port udp f ok s new other req image
    have refused := refuses_notWriter (dt := dt) (ok := ok) new (isSafety_row new req) rfl (here_of_image image) rfl other
    exact ⟨_, rfl, refused.answer, refused.frame⟩
  case acceptRom | withdrawRom | clearlogRom =>
    intro dt ip port udp f ok s new rom req
    have refused := refuses_inRom (dt := dt) (ok := ok) new (isSafety_row new req) rom rfl
    exact ⟨_, rfl, refused.answer, refused.frame⟩
  case unknown =>
    intro dt ip port udp f n s new unknown
    have none := svcKnown_eq_false unknown
    have refused := refuses_unknown (dt := dt) (ok := true) new (isInfo_unknown new none) (by rw [none, Bool.false_and])
    exact ⟨_, rfl, refused.answer, refused.counted, refused.frame⟩
  case unknownSafety =>
    intro dt ip port udp f s new req image writer
    obtain ⟨mine, malformed⟩ := isInfo_unknownSafety new req
    have refused := State.datagram_refused (dt := dt) (ok := true) new mine
      (State.serve_malformedSafety (State.rom_asked.trans (State.rom_eq_false image)) rfl (State.writer_asked.trans writer) malformed)
    exact ⟨_, rfl, refused.answer, refused.frame⟩
  case arp =>
    intro dt target s on own
    exact ⟨_, rfl, State.netAnswer_own (s := s.elapse dt) none on ((s.ownIp_eq).trans own)⟩
  case arpOther =>
    intro dt target s h
    exact ⟨_, rfl, State.netAnswer_other (s := s.elapse dt) none (h.imp_right fun other own => other ((s.ownIp_eq).symm.trans own))⟩
  case icmp =>
    intro dt target data s on own
    exact ⟨_, rfl, State.netAnswer_own (s := s.elapse dt) (some data) on ((s.ownIp_eq).trans own)⟩
  case icmpOther =>
    intro dt target data s h
    exact ⟨_, rfl, State.netAnswer_other (s := s.elapse dt) (some data) (h.imp_right fun other own => other ((s.ownIp_eq).symm.trans own))⟩
  case icmpFragment =>
    intro dt target data s on
    have run : exec (.icmpEcho dt target true data) s = .next ((s.elapse dt).satBump SVC_STAT_BAD 1) :=
      congrArg Host.Outcome.next (if_pos (((s.elapse dt).svcOn_iff).mpr on))
    exact ⟨_, run, State.get_satBump_fits _ SVC_STAT_BAD 1 rfl, (OnlyChanges.elapse dt s (by decide) (by decide)).satBump 1 (by decide)⟩
  case icmpOff =>
    intro dt target data s off
    exact ⟨_, rfl, if_neg fun on => off (((s.elapse dt).svcOn_iff).mp on)⟩

end Sys2Proof.Machine
end

section
/-! PROOFS. The statement of the safety functions (R455 to R464). -/

namespace Sys2Proof.Machine

/-- Channel A of pair 0 is healthy, channel B demands. The core has latched the discrepancy, the Kerca logic's pair is still in DEMAND. -/
def discrepancyLatchedByCore : State :=
  (((State.reset.put (SAF_PAIR_STATE 0) 3).wr SAF_SINC 1).wr SAF_SINK 1).onSaf fun x =>
    { x with payload := List.replicate 0x40 0 ++ [1], kPair := [(0, 2)], split := [(0, some 0), (16, some 0)] }

/-- Refutes O56: the core counts a discrepancy when its own pair enters DISCFLT (R457). Here the core's pair is in DISCFLT and the Kerca logic
alone latches the fault, which counts nothing; the clause of the discrepancy has DCNT rise. -/
theorem not_safetyFunctions : ¬ Obligations.SafetyFunctions := by
  rintro ⟨-, -, -, -, -, -, -, -, -, -, -, -, latched, -⟩
  obtain ⟨u, run, counted, -⟩ := latched 0 0 discrepancyLatchedByCore (.inr (by decide +kernel))
  obtain rfl := Host.Outcome.next.inj run
  exact absurd counted (by decide +kernel)

end Sys2Proof.Machine
end

section
/-! PROOFS. The statement of membership at the master (R394 to R400). -/

namespace Sys2Proof.Machine

/-! ### A message delivered into the one buffer that is free (R395) -/

/-- What a delivery to the firmware does once its message buffer `b` is chosen. -/
def State.svDeliverTo (b mtype src : Nat) (bytes : List Byte) (s : State) : Bool × State :=
  let s := (s.drew 1).bulkStore (s.rd RNG_SVBUF + 0x800 * b) bytes
  let r := s.tryPush 4 (s.get RNG_SVQ_Q) [entry (3 * 2 ^ 60 + b * 2 ^ 55 + mtype * 2 ^ 40 + src * 2 ^ 32 + bytes.length)]
  if r.1 = 0x1 then
    let s := r.2.onRing fun x => { x with svUse := b :: x.svUse }
    (true, (s.put RNG_SVQ_FREE (32 - s.ring.svUse.length)).event 0x54)
  else (false, r.2.lose 0x18 RNG_SVQ_LOST 1)

theorem State.svDeliver_one {s : State} {b : Nat} (h : (below 32 fun b => !(s.ring.svUse.contains b)) = [b]) (mtype src : Nat) (bytes : List Byte) :
    s.svDeliver mtype src bytes = s.svDeliverTo b mtype src bytes := by
  have first : s.free [b].length = 0 := Nat.mod_one _
  unfold State.svDeliver
  simp only [h, first]
  rfl

theorem State.supervisoryReply_one {s : State} {d : List Byte} {b m : Nat} {q : SvReq} {rest : List SvReq}
    (h : (below 32 fun b => !(s.ring.svUse.contains b)) = [b]) (hm : leAt d 0x420 1 = m + 1) (front : (s.ringMem (m + 1)).reqs = q :: rest)
    (answers : ¬ (q.sends = 0 ∨ q.seq ≠ leAt d 0x424 2 ∨ q.mtype ≠ leAt d 0x421 1)) :
    s.supervisoryReply d =
      let r := s.svDeliverTo b q.mtype (m + 1) (slice d 0x420 0x100)
      if !r.1 then r.2 else (r.2.onRingMem (m + 1) fun x => { x with reqs := rest }).answered (m + 1) q d := by
  unfold State.supervisoryReply
  simp only [hm, front, if_neg answers, State.svDeliver_one h]

/-! ### A quarantine that spills -/

/-- The reply of member 1 that refuses its block. -/
def refusedBlock : List Byte := List.replicate 0x420 0 ++ [1, 2, 0, 0, 0, 0, 1, 0]

/-- Member 1 of the ring is in PARAM with the request of one block sent. Its axis 40 is the master of axis 41. Entry 50 of the axis table names
member 1, but is not in use. The spill ring of the motion engine's queue lies over the axis table, and the queue's tail is full. -/
def refusedBlockSpills : State :=
  (((((((((((((((((State.reset.mark RNG_ST_READY true).mark RNG_ST_PA true).put RNG_CFG_ROLE 1).put (RNG_MST_STATE 1) 2).put RNG_SVQ_Q 2).put
    (QUE_CFG_CAPL 2) 3).put (QUE_CFG_PROD 2) 4).put (QUE_CFG_CAPL 1) 6).put (QUE_CFG_PROD 1) 2).put (QUE_ST_DEPTH 1) 24).wr
    QUE_SBASE 0x80000000).wr (QUE_SOFS 1) 0x4C7C0).wr PRF_TBASE 0x80000000).wr RNG_SVBUF 0x80100000).bulkPut 0x8004A010 2).bulkPut
    0x8004A380 1).bulkPut 0x8004CB80 1 |>.onQue fun w =>
      { w with data := [(1, { ringCount := 8, tail := List.replicate 16 (entry 2) })] }).onPrf (fun x =>
      { x with motion := [(41, { cpl := some { master := 40, isCam := false, tag := 0, engage := .locked } })] }) |>.onRing fun x =>
      { x with mems := [(1, { reqs := [{ dest := 1, mtype := 2, data := [], seq := 0, sends := 1 }], owed := [0] })]
               svUse := below 31 fun _ => true }

/-- Refutes O50: quarantine decouples the slaves of the member's axes, which pushes events; one that spills over the axis table gives the member
an axis that quarantine has not reached. The clause of a refused block has every axis that is the member's afterwards QUARANTINED. -/
theorem not_ringMembership : ¬ Obligations.RingMembership := by
  rintro ⟨-, -, -, -, -, -, -, -, -, -, -, -, -, -, -, refused, -⟩
  obtain ⟨u, run, -, -, quarantined⟩ := refused 0 0 refusedBlock 1 { dest := 1, mtype := 2, data := [], seq := 0, sends := 1 } []
    refusedBlockSpills (by decide +kernel) (by decide +kernel) (by decide +kernel) (by decide) (by decide +kernel) (by decide) (by decide +kernel)
    (by decide +kernel) (by decide +kernel) (by decide +kernel) (by decide +kernel) ⟨31, by decide +kernel⟩ (by decide) (by decide)
    (by decide +kernel) (by decide +kernel)
  have taken : ((refusedBlockSpills.elapse 0).masterFrame (0 : Fin 2).val true refusedBlock).1 = true := by decide +kernel
  have reply := State.supervisoryReply_one (s := ((refusedBlockSpills.elapse 0).masterFrame (0 : Fin 2).val true refusedBlock).2) (d := refusedBlock) (b := 31)
    (m := 0) (q := { dest := 1, mtype := 2, data := [], seq := 0, sends := 1 }) (rest := []) (by decide +kernel) (by decide +kernel)
    (by decide +kernel) (by decide +kernel)
  obtain rfl := Host.Outcome.next.inj run
  rw [if_pos taken, reply] at quarantined
  exact absurd (quarantined 50 (by decide +kernel)) (by decide +kernel)

end Sys2Proof.Machine
end

section
/-! PROOFS. The statement of what a member does with a frame (R382 to R397). -/

namespace Sys2Proof.Machine

section
variable {s : State}

/-- The delivery of a message to the firmware leaves the replies that wait. -/
theorem State.replies_svDeliver (s : State) (mtype src : Nat) (bytes : List Byte) :
    (s.svDeliver mtype src bytes).2.ring.replies = s.ring.replies := by
  have lost (t : State) : (t.lose 0x18 RNG_SVQ_LOST 1).ring = t.ring :=
    (State.lose_keeps (b := .rng) RNG_SVQ_LOST_blk (Keeps.refl [.reg .rng, .reg .err, .log] t) (by decide)).onlyChanges [] |>.2 .ring (by decide)
  have stored (t : State) (a : Nat) : (t.bulkStore a bytes).ring = t.ring :=
    (State.bulkStore_keeps (Keeps.refl [.bulk] t) (by decide)).onlyChanges [] |>.2 .ring (by decide)
  have pushed (t : State) (q : Nat) (es : List (BitVec 64)) : (t.tryPush 4 q es).2.ring = t.ring :=
    (State.tryPush_keeps (Keeps.refl [.reg .knl, .reg .que, .sets, .bulk, .knl, .que] t) (by decide)).onlyChanges [] |>.2 .ring (by decide)
  have fired (t : State) : (t.event 0x54).ring = t.ring :=
    (State.event_keeps (Keeps.refl [.reg .knl, .knl] t) (by decide)).onlyChanges [] |>.2 .ring (by decide)
  have used (t : State) (b v : Nat) : ((t.onRing fun x => { x with svUse := b :: x.svUse }).put RNG_SVQ_FREE v).ring.replies = t.ring.replies := rfl
  unfold State.svDeliver
  dsimp only
  split
  · rw [lost]
    rfl
  · split
    · rw [fired]
      exact (used _ _ _).trans (congrArg Ring.replies ((pushed _ _ _).trans (stored _ _)))
    · rw [lost, pushed, stored]
      rfl

/-- A request to all members leaves no reply (R395). -/
theorem State.replies_svTake_all {d : List Byte} (all : svDest d = 0xFF) (none : s.replyDue = none) :
    (s.svTake d).ring.replies = s.ring.replies := by
  have given : s.replyGiven d = s := by rw [State.replyGiven, none]
  have due : (if svDest d = s.get RNG_CFG_ADDR then s.replyDue else Option.none) = Option.none := by rw [none, ite_self]
  unfold State.svTake
  rw [due, given]
  dsimp only [State.restartIf]
  split
  · rfl
  · rw [if_pos (by rw [all]; rfl)]
    dsimp only
    split
    · exact s.replies_svDeliver ..
    · rw [if_pos (by rw [all]; rfl)]
      exact s.replies_svDeliver ..

end

/-- An IDENT request to all members, and a member whose address is that of all members. -/
def identToAll : List Byte := List.replicate 0x18 0 ++ [0xFF, 1]

def memberOfAll : State :=
  ((((((State.reset.mark RNG_ST_READY true).mark RNG_ST_PA true).put RNG_CFG_ROLE 2).put RNG_CFG_ADDR 0xFF).put RNG_SVQ_Q 2).put
    (QUE_CFG_CAPL 2) 3).put (QUE_CFG_PROD 2) 4

/-- The member with the frame taken and sent on, before it does what the request asks. -/
def memberOfAllTaken : State :=
  let s := memberOfAll.elapse 0
  let t := s.txStart 1 (s.quarter + s.rd RNG_FWD)
  let r := (s.takeBuf (if s.quarter + s.rd RNG_FWD < t then 3 else 2) (t + s.wireTime identToAll.length)).2
  ((r.linkAnswer 0 identToAll).ringForward 0 true (addHit (r.fillReply identToAll))).hearCommit identToAll

/-- Refutes O51: DEST 0xFF is a request to all members, which is not answered (R395), also by a member whose own address is 0xFF; the clause of
IDENT has every member answer a request that bears its address. -/
theorem not_ringMembers : ¬ Obligations.RingMembers := by
  rintro ⟨-, -, -, -, -, -, -, -, -, -, -, -, -, -, -, -, -, -, -, -, -, -, -, answers, -⟩
  obtain ⟨u, run, -, answered, -⟩ := answers 0 0 identToAll memberOfAll (by decide +kernel) (by decide +kernel) (by decide) (by decide)
    (by decide +kernel) (by decide) rfl rfl rfl (by decide +kernel) (by decide +kernel) (by decide +kernel) ⟨0, by decide⟩
  have taken : exec (.ident 0 0 true identToAll) memberOfAll = .next (memberOfAllTaken.svTake identToAll) := rfl
  obtain rfl := Host.Outcome.next.inj (taken.symm.trans run)
  rw [State.replies_svTake_all (by decide) (by decide +kernel)] at answered
  exact absurd answered (by decide +kernel)

end Sys2Proof.Machine
end

section
/-! SUPPORT. The capture slots, the descriptors and the channels of the acquisition engine: what arming, freeing and closing write. -/

namespace Sys2Proof.Machine

/-! ### Words of the acquisition engine -/

theorem ACQ_SLOT_range (i : Nat) : 0x19008000 ≤ ACQ_SLOT i ∧ ACQ_SLOT i < 0x1900A000 := by simp only [ACQ_SLOT]; omega

theorem ACQ_RD_range (r w : Nat) : 0x19004000 ≤ ACQ_RD r w ∧ ACQ_RD r w < 0x19006000 := by simp only [ACQ_RD]; omega

theorem ACQ_SLOT_injective {i j : Nat} (hi : i < 2048) (hj : j < 2048) (h : ACQ_SLOT i = ACQ_SLOT j) : i = j := by
  simp only [ACQ_SLOT] at h; omega

/-- The words that show what channel `c` holds. -/
def shownWords (c : Nat) : List Nat := [ACQ_CST c, ACQ_CHIST c, ACQ_CDEP c]

theorem shownWords_range {c a : Nat} (h : a ∈ shownWords c) : 0x19001000 ≤ a ∧ a < 0x19002000 := by
  simp only [shownWords, List.mem_cons, List.not_mem_nil, or_false, ACQ_CST, ACQ_CHIST, ACQ_CDEP] at h
  omega

theorem shownWords_disjoint {c d a : Nat} (hc : c < 64) (hd : d < 64) (other : c ≠ d) (h : a ∈ shownWords c) : a ∉ shownWords d := by
  simp only [shownWords, List.mem_cons, List.not_mem_nil, or_false, ACQ_CST, ACQ_CHIST, ACQ_CDEP] at h ⊢
  omega

/-- A word of a channel that is set by the software is none that shows what a channel holds. -/
theorem setWord_not_shown (c d : Nat) : ∀ a ∈ [ACQ_CSIG c, ACQ_CTS c, ACQ_CCFG c, ACQ_CPRE c, ACQ_CPOST c], a < 0x19004000 ∧ a ∉ shownWords d := by
  simp only [List.mem_cons, List.not_mem_nil, or_false, shownWords, ACQ_CST, ACQ_CHIST, ACQ_CDEP, ACQ_CSIG, ACQ_CTS, ACQ_CCFG, ACQ_CPRE, ACQ_CPOST]
  omega

/-! ### Slots -/

section
variable (s : State) {kind owner i : Nat} {l : List Nat}

theorem State.rd_setSlots {a : Nat} (h : ∀ j ∈ l, a ≠ ACQ_SLOT j) : (State.setSlots kind owner l s).rd a = s.rd a := by
  induction l generalizing s with
  | nil => rfl
  | cons j l ih =>
    have here := h j (by simp)
    exact (ih _ fun k hk => h k (by simp [hk])).trans ((State.rd_put_ne _ _ _ here).trans (s.rd_put_ne _ _ here))

theorem State.rd_setSlots_below {a : Nat} (h : a < 0x19008000) : (State.setSlots kind owner l s).rd a = s.rd a :=
  s.rd_setSlots fun j _ => ne_of_lt (h.trans_le (ACQ_SLOT_range j).1)

/-- The kind of a slot after one slot has been set. -/
theorem State.get_KIND_set (j : Nat) : ((s.put (ACQ_SLOT_KIND j) kind).put (ACQ_SLOT_OWNER j) owner).get (ACQ_SLOT_KIND i) =
    if ACQ_SLOT i = ACQ_SLOT j then kind % 4 else s.get (ACQ_SLOT_KIND i) := by
  rw [State.get_put_apart (g := ACQ_SLOT_KIND i) _ owner rfl]
  split_ifs with same
  · have fld : ACQ_SLOT_KIND i = ACQ_SLOT_KIND j := by simp only [ACQ_SLOT_KIND, same]
    rw [fld]
    exact s.get_put_fits _ kind rfl
  · exact s.get_put_ne _ _ kind same

theorem State.get_KIND_setSlots_stays (h : s.get (ACQ_SLOT_KIND i) = kind % 4) :
    (State.setSlots kind owner l s).get (ACQ_SLOT_KIND i) = kind % 4 := by
  induction l generalizing s with
  | nil => exact h
  | cons j l ih =>
    refine ih _ ?_
    rw [State.get_KIND_set, h]
    exact ite_self _

theorem State.get_KIND_setSlots_mem (h : i ∈ l) : (State.setSlots kind owner l s).get (ACQ_SLOT_KIND i) = kind % 4 := by
  induction l generalizing s with
  | nil => simp at h
  | cons j l ih =>
    rcases List.mem_cons.mp h with rfl | later
    · exact State.get_KIND_setSlots_stays ((s.put (ACQ_SLOT_KIND i) kind).put (ACQ_SLOT_OWNER i) owner) ((s.get_KIND_set i).trans (if_pos rfl))
    · exact ih _ later

theorem State.rd_linkSlots_below {a : Nat} (h : a < 0x19008000) : (State.linkSlots l s).rd a = s.rd a :=
  rd_foldl (fun t e => t.rd_put_ne _ _ (ne_of_lt (h.trans_le (ACQ_SLOT_range e.1).1))) _ s

theorem State.get_KIND_linkSlots : (State.linkSlots l s).get (ACQ_SLOT_KIND i) = s.get (ACQ_SLOT_KIND i) := by
  unfold State.linkSlots
  induction l.zip (l.drop 1 ++ l.take 1) generalizing s with
  | nil => rfl
  | cons e rest ih => exact (ih _).trans (s.get_put_apart _ rfl)

end

theorem length_turned {α : Type} (l : List α) (k : Nat) : (turned l k).length = l.length := by
  rw [turned, List.length_append, List.length_drop, List.length_take]
  omega

theorem mem_turned {α : Type} {l : List α} {k : Nat} {x : α} (h : x ∈ turned l k) : x ∈ l := by
  rcases List.mem_append.mp h with late | early
  · exact List.mem_of_mem_drop late
  · exact List.mem_of_mem_take early

/-- The free slots and the held ones are different slots. -/
theorem State.pool_fits (s : State) : s.freeSlots.length + (below 2048 fun i => s.get (ACQ_SLOT_KIND i) == 2).length ≤ 2048 := by
  have split := List.length_eq_length_filter_add (l := List.range 2048) fun i => s.get (ACQ_SLOT_KIND i) == 0
  have inRest : (below 2048 fun i => s.get (ACQ_SLOT_KIND i) == 2).length ≤
      ((List.range 2048).filter fun i => !(s.get (ACQ_SLOT_KIND i) == 0)).length := by
    refine (List.monotone_filter_right _ fun i held => ?_).length_le
    simp [beq_iff_eq.mp held]
  rw [List.length_range] at split
  have free : s.freeSlots.length = ((List.range 2048).filter fun i => s.get (ACQ_SLOT_KIND i) == 0).length := rfl
  omega

/-! ### The pool -/

section
variable (s : State)

theorem State.rd_showPool {a : Nat} (h : a ∉ [ACQ_POOLA, ACQ_POOLB, ACQ_STAT]) : s.showPool.rd a = s.rd a := by
  simp only [List.mem_cons, List.not_mem_nil, or_false, not_or] at h
  obtain ⟨poola, poolb, stat⟩ := h
  exact (State.rd_put_ne _ ACQ_STAT_RFREE _ stat).trans ((State.rd_put_ne _ ACQ_POOLB_HELD _ poolb).trans
    ((State.rd_put_ne _ ACQ_POOLA_ARMED _ poola).trans (s.rd_put_ne ACQ_POOLA_FREE _ poola)))

theorem State.rd_showPool_above {a : Nat} (h : 0x19000100 ≤ a) : s.showPool.rd a = s.rd a :=
  s.rd_showPool (by simp only [List.mem_cons, List.not_mem_nil, or_false, ACQ_POOLA, ACQ_POOLB, ACQ_STAT]; omega)

/-- R357: what is shown of the pool adds up to the slots there are. -/
theorem State.showPool_sum : s.showPool.get ACQ_POOLA_FREE + s.showPool.get ACQ_POOLA_ARMED + s.showPool.get ACQ_POOLB_HELD = 2048 := by
  have fits := s.pool_fits
  generalize hf : s.freeSlots.length = f at fits
  generalize hh : (below 2048 fun i => s.get (ACQ_SLOT_KIND i) == 2).length = h at fits
  have shown : s.showPool = (((s.put ACQ_POOLA_FREE f).put ACQ_POOLA_ARMED (2048 - f - h)).put ACQ_POOLB_HELD h).put ACQ_STAT_RFREE
      s.freeDescs.length := by rw [← hf, ← hh]; rfl
  have free : s.showPool.get ACQ_POOLA_FREE = f % 4096 := by
    rw [shown, State.get_put_ne _ _ _ _ (by decide), State.get_put_ne _ _ _ _ (by decide), State.get_put_apart _ _ rfl]
    exact s.get_put_fits _ f rfl
  have armed : s.showPool.get ACQ_POOLA_ARMED = (2048 - f - h) % 4096 := by
    rw [shown, State.get_put_ne _ _ _ _ (by decide), State.get_put_ne _ _ _ _ (by decide)]
    exact State.get_put_fits _ _ _ rfl
  have held : s.showPool.get ACQ_POOLB_HELD = h % 4096 := by
    rw [shown, State.get_put_ne _ _ _ _ (by decide)]
    exact State.get_put_fits _ _ _ rfl
  omega

end

end Sys2Proof.Machine
end

section
/-! SUPPORT. Arming: what a channel takes, and what a group of channels takes in turn (R355 to R362). -/

namespace Sys2Proof.Machine

/-! ### One channel -/

/-- The slots that channel `c` takes. -/
def State.armSlots (s : State) (c : Nat) : List Nat := (turned s.freeSlots (s.free s.freeSlots.length)).take (s.acqSlots c)

/-- What channel `c` makes of its counts. -/
def State.armFit (s : State) (c depth : Nat) : Nat × Nat × Bool × Bool := fitCounts depth (s.rd (ACQ_CPRE c)) (s.rd (ACQ_CPOST c))

/-- The descriptor of a filling record of channel `c` of group `g`. -/
def State.describe (rid g c : Nat) (s : State) : State :=
  (List.range 16).foldl (fun s w => s.wr (ACQ_RD rid w) (if w = 0 then c + 256 * g + 65536 else 0)) s

/-- What channel `c` shows when it is armed. -/
def State.showArmed (c rid depth : Nat) (fit : Nat × Nat × Bool × Bool) (s : State) : State :=
  (((((s.mark (ACQ_CST_PCLAMP c) fit.2.2.1).mark (ACQ_CST_PRECUT c) fit.2.2.2).put (ACQ_CST_RID c) rid).put (ACQ_CST_STATE c) 1).wr
    (ACQ_CHIST c) 0).wr (ACQ_CDEP c) depth

/-- The slots of channel `c` are taken and linked. -/
def State.takeSlots (c : Nat) (s : State) : State :=
  (State.setSlots 1 c (s.armSlots c) ((s.drew 1).drew 1)).linkSlots (s.armSlots c)

def State.armDepth (s : State) (c : Nat) : Nat := (s.armSlots c).length * 4096 / s.acqSize c

section
variable (s : State) (g c : Nat)

theorem State.armChannel_eq : ∃ rid k, s.armChannel g c =
    (((s.takeSlots c).onAcq fun a => { a with chan := tabSet a.chan c k }).showArmed c rid (s.armDepth c) (s.armFit c (s.armDepth c))).describe
      rid g c := ⟨_, _, rfl⟩

theorem State.rd_describe (rid : Nat) {a : Nat} (h : a < 0x19004000 ∨ 0x19006000 ≤ a) : (s.describe rid g c).rd a = s.rd a :=
  rd_foldl (fun t w => t.rd_wr_ne _ (by have range := ACQ_RD_range rid w; omega)) _ s

theorem State.rd_showArmed (rid depth : Nat) (fit : Nat × Nat × Bool × Bool) {a : Nat} (h : a ∉ shownWords c) :
    (s.showArmed c rid depth fit).rd a = s.rd a := by
  simp only [shownWords, List.mem_cons, List.not_mem_nil, or_false, not_or] at h
  obtain ⟨cst, chist, cdep⟩ := h
  exact (State.rd_wr_ne _ depth cdep).trans ((State.rd_wr_ne _ 0 chist).trans ((State.rd_put_ne _ (ACQ_CST_STATE c) 1 cst).trans
    ((State.rd_put_ne _ (ACQ_CST_RID c) rid cst).trans ((State.rd_put_ne _ (ACQ_CST_PRECUT c) _ cst).trans
      (s.rd_put_ne (ACQ_CST_PCLAMP c) _ cst)))))

theorem State.rd_takeSlots {a : Nat} (h : a < 0x19008000) : (s.takeSlots c).rd a = s.rd a :=
  (State.rd_linkSlots_below _ h).trans (State.rd_setSlots_below _ h)

/-- Of the words below the descriptors, arming a channel writes those that show it. -/
theorem State.rd_armChannel {a : Nat} (low : a < 0x19004000) (h : a ∉ shownWords c) : (s.armChannel g c).rd a = s.rd a := by
  obtain ⟨rid, k, armed⟩ := s.armChannel_eq g c
  rw [armed, State.rd_describe _ g c rid (.inl low), State.rd_showArmed _ c _ _ _ h]
  exact s.rd_takeSlots c (low.trans (by decide))

theorem State.get_KIND_armChannel (i : Nat) :
    (s.armChannel g c).get (ACQ_SLOT_KIND i) = (State.setSlots 1 c (s.armSlots c) ((s.drew 1).drew 1)).get (ACQ_SLOT_KIND i) := by
  obtain ⟨rid, k, armed⟩ := s.armChannel_eq g c
  have range := ACQ_SLOT_range i
  have described := State.rd_describe (((s.takeSlots c).onAcq fun a => { a with chan := tabSet a.chan c k }).showArmed c rid (s.armDepth c)
    (s.armFit c (s.armDepth c))) g c rid (a := ACQ_SLOT i) (.inr (by omega))
  have shown := State.rd_showArmed ((s.takeSlots c).onAcq fun a => { a with chan := tabSet a.chan c k }) c rid (s.armDepth c)
    (s.armFit c (s.armDepth c)) (a := ACQ_SLOT i) fun shown => by have low := shownWords_range shown; omega
  have kept : (s.armChannel g c).get (ACQ_SLOT_KIND i) = (s.takeSlots c).get (ACQ_SLOT_KIND i) := by
    rw [armed]
    exact congrArg (fldOf (ACQ_SLOT_KIND i)) (described.trans shown)
  exact kept.trans (State.get_KIND_linkSlots _)

/-- What is shown of channel `c` in `u` when it was armed in `s`. -/
def ChannelArmed (s : State) (c : Nat) (u : State) : Prop :=
  u.get (ACQ_CST_STATE c) = 1 ∧ u.rd (ACQ_CHIST c) = 0 ∧ u.rd (ACQ_CDEP c) = s.acqSlots c * 4096 / s.acqSize c ∧
    u.get (ACQ_CST_PCLAMP c) = b2n (s.armFit c (s.acqSlots c * 4096 / s.acqSize c)).2.2.1 ∧
    u.get (ACQ_CST_PRECUT c) = b2n (s.armFit c (s.acqSlots c * 4096 / s.acqSize c)).2.2.2

theorem State.showArmed_shows (rid : Nat) (fit : Nat × Nat × Bool × Bool) {depth : Nat} (h : depth < 2 ^ 32) :
    (s.showArmed c rid depth fit).get (ACQ_CST_STATE c) = 1 ∧ (s.showArmed c rid depth fit).rd (ACQ_CHIST c) = 0 ∧
      (s.showArmed c rid depth fit).rd (ACQ_CDEP c) = depth ∧ (s.showArmed c rid depth fit).get (ACQ_CST_PCLAMP c) = b2n fit.2.2.1 ∧
      (s.showArmed c rid depth fit).get (ACQ_CST_PRECUT c) = b2n fit.2.2.2 := by
  have words : ACQ_CST c ≠ ACQ_CDEP c ∧ ACQ_CST c ≠ ACQ_CHIST c ∧ ACQ_CHIST c ≠ ACQ_CDEP c := by
    simp only [ACQ_CST, ACQ_CDEP, ACQ_CHIST]; omega
  obtain ⟨cdep, chist, hist⟩ := words
  have field {f : Fld} (hf : f.addr = ACQ_CST c) : (s.showArmed c rid depth fit).get f =
      ((((s.mark (ACQ_CST_PCLAMP c) fit.2.2.1).mark (ACQ_CST_PRECUT c) fit.2.2.2).put (ACQ_CST_RID c) rid).put (ACQ_CST_STATE c) 1).get f :=
    (State.get_wr_ne _ f depth (hf ▸ cdep)).trans (State.get_wr_ne _ f 0 (hf ▸ chist))
  refine ⟨(field rfl).trans (State.get_put_fits _ _ _ rfl), (State.rd_wr_ne _ _ hist).trans (State.rd_wr_same _ _ _),
    (State.rd_wr_same _ _ _).trans (Nat.mod_eq_of_lt h), (field rfl).trans ?_, (field rfl).trans ?_⟩
  · rw [State.get_put_apart _ _ rfl, State.get_put_apart _ _ rfl, State.get_mark_apart _ _ rfl]
    exact State.get_mark_fits _ _ _ rfl rfl
  · rw [State.get_put_apart _ _ rfl, State.get_put_apart _ _ rfl]
    exact State.get_mark_fits _ _ _ rfl rfl

end

section
variable {s : State} {g c : Nat}

theorem State.acqSlots_le (s : State) (c : Nat) : s.acqSlots c ≤ 2048 := by
  unfold State.acqSlots
  have field : s.get (ACQ_CCFG_NSLOT c) < 2048 := s.get_lt _
  split_ifs <;> omega

theorem State.length_armSlots (room : s.acqSlots c ≤ s.freeSlots.length) : (s.armSlots c).length = s.acqSlots c := by
  rw [State.armSlots, List.length_take, length_turned]
  exact min_eq_left room

/-- R355, R356: what an armed channel shows, when there are slots enough. -/
theorem State.armChannel_shows (g : Nat) (room : s.acqSlots c ≤ s.freeSlots.length) : ChannelArmed s c (s.armChannel g c) := by
  obtain ⟨rid, k, armed⟩ := s.armChannel_eq g c
  have few : s.acqSlots c * 4096 / s.acqSize c < 2 ^ 32 := by
    have le := Nat.div_le_self (s.acqSlots c * 4096) (s.acqSize c)
    have slots := s.acqSlots_le c
    omega
  have depth : s.armDepth c = s.acqSlots c * 4096 / s.acqSize c := by rw [State.armDepth, State.length_armSlots room]
  have word {a : Nat} (ha : a ∈ shownWords c) : (s.armChannel g c).rd a =
      (((s.takeSlots c).onAcq fun a => { a with chan := tabSet a.chan c k }).showArmed c rid (s.acqSlots c * 4096 / s.acqSize c)
        (s.armFit c (s.acqSlots c * 4096 / s.acqSize c))).rd a := by
    have range := shownWords_range ha
    rw [armed, depth]
    exact State.rd_describe _ g c rid (.inl (by omega))
  obtain ⟨state, hist, dep, pclamp, precut⟩ := State.showArmed_shows ((s.takeSlots c).onAcq fun a => { a with chan := tabSet a.chan c k }) c rid
    (s.armFit c (s.acqSlots c * 4096 / s.acqSize c)) few
  have cst := word (a := ACQ_CST c) (by simp [shownWords])
  refine ⟨(congrArg (fldOf _) cst).trans state, (word (by simp [shownWords])).trans hist, (word (by simp [shownWords])).trans dep,
    (congrArg (fldOf _) cst).trans pclamp, (congrArg (fldOf _) cst).trans precut⟩

/-- An armed channel leaves all free slots but those it takes. -/
theorem State.freeSlots_armChannel (s : State) (g c : Nat) : s.freeSlots.length ≤ (s.armChannel g c).freeSlots.length + s.acqSlots c := by
  have split := List.length_eq_length_filter_add (l := s.freeSlots) fun i => (s.armSlots c).contains i
  have taken : (s.freeSlots.filter fun i => (s.armSlots c).contains i).length ≤ s.acqSlots c := by
    have nodup : (s.freeSlots.filter fun i => (s.armSlots c).contains i).Nodup := (List.nodup_range.filter _).filter _
    have sub := (List.subperm_of_subset nodup (l₂ := s.armSlots c) fun i hi => by simpa using (List.mem_filter.mp hi).2).length_le
    exact sub.trans (List.length_take_le _ _)
  have left : (s.freeSlots.filter fun i => !(s.armSlots c).contains i).length ≤ (s.armChannel g c).freeSlots.length := by
    have nodup : (s.freeSlots.filter fun i => !(s.armSlots c).contains i).Nodup := (List.nodup_range.filter _).filter _
    refine (List.subperm_of_subset nodup fun i hi => ?_).length_le
    obtain ⟨free, other⟩ := List.mem_filter.mp hi
    obtain ⟨bound, kind⟩ := List.mem_filter.mp free
    have stays : (s.armChannel g c).get (ACQ_SLOT_KIND i) = s.get (ACQ_SLOT_KIND i) := by
      rw [State.get_KIND_armChannel]
      refine congrArg (fldOf _) (State.rd_setSlots ((s.drew 1).drew 1) fun j hj same => ?_)
      have jfree : j ∈ s.freeSlots := mem_turned (List.mem_of_mem_take hj)
      have eq := ACQ_SLOT_injective (List.mem_range.mp bound) (List.mem_range.mp (List.mem_filter.mp jfree).1) same
      exact absurd hj (by simpa [eq] using other)
    exact List.mem_filter.mpr ⟨bound, by rw [stays]; exact kind⟩
  omega

end

/-! ### The channels of a group -/

/-- The channels `l` of group `g` are armed in turn. -/
def State.armChannels (g : Nat) (l : List Nat) (s : State) : State := l.foldl (fun s c => s.armChannel g c) s

theorem ChannelArmed.stays {s u v : State} {c : Nat} (h : ChannelArmed s c u) (same : ∀ a ∈ shownWords c, v.rd a = u.rd a) :
    ChannelArmed s c v := by
  obtain ⟨state, hist, dep, pclamp, precut⟩ := h
  have cst := same (ACQ_CST c) (by simp [shownWords])
  exact ⟨(congrArg (fldOf _) cst).trans state, (same _ (by simp [shownWords])).trans hist, (same _ (by simp [shownWords])).trans dep,
    (congrArg (fldOf _) cst).trans pclamp, (congrArg (fldOf _) cst).trans precut⟩

theorem State.acqSlots_of_rd {s t : State} {c : Nat} (h : t.rd (ACQ_CCFG c) = s.rd (ACQ_CCFG c)) : t.acqSlots c = s.acqSlots c := by
  have field : t.get (ACQ_CCFG_NSLOT c) = s.get (ACQ_CCFG_NSLOT c) := congrArg (fldOf _) h
  rw [State.acqSlots, State.acqSlots, field]

theorem State.acqSize_of_rd {s t : State} {c : Nat} (cfg : t.rd (ACQ_CCFG c) = s.rd (ACQ_CCFG c)) (sig : t.rd (ACQ_CSIG c) = s.rd (ACQ_CSIG c)) :
    t.acqSize c = s.acqSize c := by
  have streams : t.get (ACQ_CCFG_STR c) = s.get (ACQ_CCFG_STR c) := congrArg (fldOf _) cfg
  have cls : t.acqCls c = s.acqCls c := congrArg (fldOf _) sig
  rw [State.acqSize, State.acqSize, streams, cls]

/-- What is shown of a channel comes from the words that the software sets. -/
theorem ChannelArmed.of_rd {s t u : State} {c : Nat} (h : ChannelArmed t c u)
    (same : ∀ a ∈ [ACQ_CSIG c, ACQ_CTS c, ACQ_CCFG c, ACQ_CPRE c, ACQ_CPOST c], t.rd a = s.rd a) : ChannelArmed s c u := by
  have slots : t.acqSlots c = s.acqSlots c := State.acqSlots_of_rd (same _ (by simp))
  have size : t.acqSize c = s.acqSize c := State.acqSize_of_rd (same _ (by simp)) (same _ (by simp))
  have fit (depth : Nat) : t.armFit c depth = s.armFit c depth := by
    rw [State.armFit, State.armFit, same (ACQ_CPRE c) (by simp), same (ACQ_CPOST c) (by simp)]
  rw [ChannelArmed, slots, size, fit] at h
  exact h

theorem State.rd_armChannels (g : Nat) (l : List Nat) (s : State) {a : Nat} (low : a < 0x19004000) (h : ∀ c ∈ l, a ∉ shownWords c) :
    (s.armChannels g l).rd a = s.rd a := by
  induction l generalizing s with
  | nil => rfl
  | cons c l ih => exact (ih _ fun d hd => h d (by simp [hd])).trans (s.rd_armChannel g c low (h c (by simp)))

/-- R355, R356: every channel of a list with slots enough for all is armed. -/
theorem State.armChannels_shows (g : Nat) (l : List Nat) (s : State) (bound : ∀ c ∈ l, c < 64) (nodup : l.Nodup)
    (room : (l.map fun c => s.acqSlots c).sum ≤ s.freeSlots.length) {c : Nat} (hc : c ∈ l) : ChannelArmed s c (s.armChannels g l) := by
  induction l generalizing s with
  | nil => simp at hc
  | cons d l ih =>
    obtain ⟨fresh, nodup⟩ := List.nodup_cons.mp nodup
    rw [List.map_cons, List.sum_cons] at room
    have set (x : Nat) : ∀ a ∈ [ACQ_CSIG x, ACQ_CTS x, ACQ_CCFG x, ACQ_CPRE x, ACQ_CPOST x], (s.armChannel g d).rd a = s.rd a := fun a ha =>
      s.rd_armChannel g d (setWord_not_shown x d a ha).1 (setWord_not_shown x d a ha).2
    rcases List.mem_cons.mp hc with rfl | later
    · refine (State.armChannel_shows g (by omega)).stays fun a ha => State.rd_armChannels g l _ ?_ fun x hx => ?_
      · have range := shownWords_range ha
        omega
      · exact shownWords_disjoint (bound c hc) (bound x (by simp [hx])) (ne_of_mem_of_not_mem hx fresh).symm ha
    · have slots : (l.map fun c => (s.armChannel g d).acqSlots c) = l.map fun c => s.acqSlots c :=
        List.map_congr_left fun x _ => State.acqSlots_of_rd (set x _ (by simp))
      have left := s.freeSlots_armChannel g d
      exact (ih (s.armChannel g d) (fun x hx => bound x (by simp [hx])) nodup (by rw [slots]; omega) later).of_rd (set c)

end Sys2Proof.Machine
end

section
/-! SUPPORT. Groups of the acquisition engine: arming, freeing their buffers and closing their records (R357 to R373). -/

namespace Sys2Proof.Machine

/-! ### The channels of a group -/

section
variable {s t : State} {g : Nat}

theorem State.mem_acqMembers_lt {c : Nat} (h : c ∈ s.acqMembers g) : c < 64 := List.mem_range.mp (List.mem_filter.mp h).1

theorem State.mem_acqMembers_GRP {c : Nat} (h : c ∈ s.acqMembers g) : s.get (ACQ_CCFG_GRP c) = g := by
  have member := (List.mem_filter.mp h).2
  simp only [Bool.and_eq_true, beq_iff_eq] at member
  exact member.2

theorem State.nodup_acqMembers (s : State) (g : Nat) : (s.acqMembers g).Nodup := List.nodup_range.filter _

theorem State.acqMembers_of_rd (same : ∀ c, t.rd (ACQ_CCFG c) = s.rd (ACQ_CCFG c)) : t.acqMembers g = s.acqMembers g := by
  have en (c : Nat) : t.flag (ACQ_CCFG_EN c) = s.flag (ACQ_CCFG_EN c) := by rw [State.flag, State.flag, State.get, State.get]; simp only [ACQ_CCFG_EN, same]
  have grp (c : Nat) : t.get (ACQ_CCFG_GRP c) = s.get (ACQ_CCFG_GRP c) := congrArg (fldOf (ACQ_CCFG_GRP c)) (same c)
  simp only [State.acqMembers, en, grp]

theorem State.freeSlots_of_rd (same : ∀ i, t.rd (ACQ_SLOT i) = s.rd (ACQ_SLOT i)) : t.freeSlots = s.freeSlots := by
  have kind (i : Nat) : t.get (ACQ_SLOT_KIND i) = s.get (ACQ_SLOT_KIND i) := congrArg (fldOf (ACQ_SLOT_KIND i)) (same i)
  simp only [State.freeSlots, kind]

/-- R361: there is room for the slots of all channels of a group. -/
theorem State.slots_of_acqRoom (h : s.acqRoom g = true) : ((s.acqMembers g).map fun c => s.acqSlots c).sum ≤ s.freeSlots.length := by
  simp only [State.acqRoom, Bool.and_eq_true, decide_eq_true_eq] at h
  exact h.1

end

theorem State.acqGroup_onAcqGroup_same (s : State) (g : Nat) (f : AcqGroup → AcqGroup) : (s.onAcqGroup g f).acqGroup g = f (s.acqGroup g) :=
  tabGet_tabSet_same _ _ _ _

theorem State.acqGroup_onAcqGroup_ne (s : State) {g y : Nat} (f : AcqGroup → AcqGroup) (h : y ≠ g) : (s.onAcqGroup g f).acqGroup y = s.acqGroup y :=
  tabGet_tabSet_ne _ _ _ h

/-! ### Arming a group -/

section
variable (s : State) (g : Nat)

/-- The end of the re-arm time that begins now. -/
def State.rearmDue (s : State) (g : Nat) : Nat :=
  (s.now / s.rd (ACQ_CTS (s.get (ACQ_GCFG_TCH g))) + 1) * s.rd (ACQ_CTS (s.get (ACQ_GCFG_TCH g))) +
    63 * s.rd (ACQ_CTS (s.get (ACQ_GCFG_TCH g)))

theorem State.armGroup_eq : s.armGroup g =
    (((s.armChannels g (s.acqMembers g)).put (ACQ_GST_STATE g) 1).onAcqGroup g fun _ =>
      { rearmAt := (s.armChannels g (s.acqMembers g)).rearmDue g }).showPool := rfl

theorem State.rd_armGroup {a : Nat} (low : 0x19000100 ≤ a) (high : a < 0x19004000) (state : a ≠ ACQ_GST g)
    (h : ∀ c ∈ s.acqMembers g, a ∉ shownWords c) : (s.armGroup g).rd a = s.rd a :=
  (State.rd_showPool_above _ low).trans ((State.rd_put_ne _ (ACQ_GST_STATE g) 1 state).trans (State.rd_armChannels g _ s high h))

theorem ACQ_GST_range : 0x19000100 ≤ ACQ_GST g ∧ ACQ_GST g < 0x19000200 := by simp only [ACQ_GST]; omega

theorem group_word_not_shown {a c : Nat} (h : a < 0x19001000) : a ∉ shownWords c := fun shown => by
  have range := shownWords_range shown
  omega

theorem State.get_STATE_armGroup : (s.armGroup g).get (ACQ_GST_STATE g) = 1 :=
  (congrArg (fldOf _) (State.rd_showPool_above _ (ACQ_GST_range g).1)).trans (State.get_put_fits _ (ACQ_GST_STATE g) 1 rfl)

theorem State.get_RESULT_armGroup : (s.armGroup g).get (ACQ_GST_RESULT g) = s.get (ACQ_GST_RESULT g) := by
  have range := ACQ_GST_range g
  have shown : (s.armGroup g).get (ACQ_GST_RESULT g) = ((s.armChannels g (s.acqMembers g)).put (ACQ_GST_STATE g) 1).get (ACQ_GST_RESULT g) :=
    congrArg (fldOf _) (State.rd_showPool_above _ range.1)
  rw [shown, State.get_put_apart _ 1 rfl]
  exact congrArg (fldOf _) (State.rd_armChannels g _ s (a := ACQ_GST g) (by omega) fun c _ => group_word_not_shown (by omega))

theorem State.armChannels_clk (l : List Nat) : (s.armChannels g l).clk = s.clk :=
  Keeps.same (m := [.reg .acq, .fresh, .acq]) (keeps_foldl (fun _ _ h => State.armChannel_keeps h (by decide)) l (Keeps.refl _ s)) .clk (by decide)

theorem State.rearmDue_armChannels (l : List Nat) : (s.armChannels g l).rearmDue g = s.rearmDue g := by
  have now : (s.armChannels g l).now = s.now := by rw [State.now, State.now, State.armChannels_clk]
  have cfg : (s.armChannels g l).get (ACQ_GCFG_TCH g) = s.get (ACQ_GCFG_TCH g) := by
    have range : ACQ_GCFG g < 0x19001000 := by simp only [ACQ_GCFG]; omega
    exact congrArg (fldOf _) (State.rd_armChannels g l s (a := ACQ_GCFG g) (by omega) fun c _ => group_word_not_shown range)
  have ts (c : Nat) : (s.armChannels g l).rd (ACQ_CTS c) = s.rd (ACQ_CTS c) :=
    State.rd_armChannels g l s (setWord_not_shown c 0 _ (by simp)).1 fun d _ => (setWord_not_shown c d _ (by simp)).2
  simp only [State.rearmDue, now, cfg, ts]

theorem State.acq_showPool (t : State) : t.showPool.acq = t.acq := rfl

theorem State.rearmAt_armGroup : ((s.armGroup g).acqGroup g).rearmAt = s.rearmDue g := by
  rw [State.armGroup_eq, State.acqGroup, State.acq_showPool]
  exact (congrArg AcqGroup.rearmAt (State.acqGroup_onAcqGroup_same _ g _)).trans (s.rearmDue_armChannels g _)

/-- R355, R361: with room for the group, each of its channels is armed. -/
theorem State.armGroup_shows (room : s.acqRoom g = true) {c : Nat} (hc : c ∈ s.acqMembers g) : ChannelArmed s c (s.armGroup g) := by
  refine (State.armChannels_shows g _ s (fun d hd => State.mem_acqMembers_lt hd) (s.nodup_acqMembers g) (State.slots_of_acqRoom room) hc).stays
    fun a ha => ?_
  have range := shownWords_range ha
  have state := ACQ_GST_range g
  exact (State.rd_showPool_above _ (by omega)).trans (State.rd_put_ne _ (ACQ_GST_STATE g) 1 (by simp only [ACQ_GST_STATE]; omega))

theorem State.armGroup_sum : (s.armGroup g).get ACQ_POOLA_FREE + (s.armGroup g).get ACQ_POOLA_ARMED + (s.armGroup g).get ACQ_POOLB_HELD = 2048 :=
  State.showPool_sum _

end

/-! ### Freeing a buffer -/

section
variable {s : State} {c d : Nat} {k : AcqChan}

/-- The slots of `k` are free and its descriptor is. -/
def BufferFreed (k : AcqChan) (u : State) : Prop :=
  (∀ i, i ∈ k.slots → u.get (ACQ_SLOT_KIND i) = 0) ∧ u.rd (ACQ_RD k.rid 0) / 65536 % 256 = 0

theorem State.freeBuffer_none (h : tabFind s.acq.chan c = none) : s.freeBuffer c = s := by simp only [State.freeBuffer, h]

/-- The words that freeing a buffer writes. -/
def State.clearBuffer (c rid : Nat) (s : State) : State := ((s.wr (ACQ_RD rid 0) 0).put (ACQ_CST_STATE c) 0).wr (ACQ_CHIST c) 0

theorem State.freeBuffer_some (h : tabFind s.acq.chan c = some k) : s.freeBuffer c =
    (((State.setSlots 0 0 k.slots s).onAcq fun a => { a with chan := tabDel a.chan c }).clearBuffer c k.rid).showPool := by
  simp only [State.freeBuffer, h]
  rfl

theorem State.rd_clearBuffer (s : State) (c rid : Nat) {a : Nat} (h : 0x19004000 ≤ a) : (s.clearBuffer c rid).rd a = (s.wr (ACQ_RD rid 0) 0).rd a := by
  have words : ACQ_CHIST c < 0x19004000 ∧ ACQ_CST c < 0x19004000 := by simp only [ACQ_CHIST, ACQ_CST]; omega
  exact (State.rd_wr_ne _ 0 (by omega)).trans (State.rd_put_ne _ (ACQ_CST_STATE c) 0 (by simp only [ACQ_CST_STATE]; omega))

theorem State.setSlots_acq (kind owner : Nat) (l : List Nat) (s : State) : (State.setSlots kind owner l s).acq = s.acq :=
  (State.setSlots_keeps (Keeps.refl [.reg .acq] s) (by decide)).same .acq (by decide)

theorem State.chan_freeBuffer (s : State) (c x : Nat) :
    tabFind (s.freeBuffer c).acq.chan x = if x = c then none else tabFind s.acq.chan x := by
  cases h : tabFind s.acq.chan c with
  | none =>
    rw [State.freeBuffer_none h]
    split_ifs with same
    · rw [same, h]
    · rfl
  | some k =>
    have table : (s.freeBuffer c).acq.chan = tabDel s.acq.chan c := by
      rw [State.freeBuffer_some h]
      exact congrArg (fun a : Acq => tabDel a.chan c) (State.setSlots_acq 0 0 k.slots s)
    rw [table, tabFind_tabDel]

/-- The slots after the buffer of a channel has been freed. -/
theorem State.rd_freeBuffer_slot (h : tabFind s.acq.chan c = some k) (i : Nat) :
    (s.freeBuffer c).rd (ACQ_SLOT i) = (State.setSlots 0 0 k.slots s).rd (ACQ_SLOT i) := by
  have slot := ACQ_SLOT_range i
  have desc := ACQ_RD_range k.rid 0
  rw [State.freeBuffer_some h]
  exact (State.rd_showPool_above _ (by omega)).trans ((State.rd_clearBuffer _ c k.rid (by omega)).trans (State.rd_wr_ne _ 0 (by omega)))

/-- The descriptors after the buffer of a channel has been freed. -/
theorem State.rd_freeBuffer_desc (h : tabFind s.acq.chan c = some k) (r : Nat) :
    (s.freeBuffer c).rd (ACQ_RD r 0) = if ACQ_RD r 0 = ACQ_RD k.rid 0 then 0 else s.rd (ACQ_RD r 0) := by
  have desc := ACQ_RD_range r 0
  have cleared : (s.freeBuffer c).rd (ACQ_RD r 0) = ((State.setSlots 0 0 k.slots s).wr (ACQ_RD k.rid 0) 0).rd (ACQ_RD r 0) := by
    rw [State.freeBuffer_some h]
    exact (State.rd_showPool_above _ (by omega)).trans (State.rd_clearBuffer _ c k.rid desc.1)
  rw [cleared, State.rd_wr, State.rd_setSlots_below _ (by omega)]
  rfl

theorem State.freeBuffer_frees (h : tabFind s.acq.chan c = some k) : BufferFreed k (s.freeBuffer c) := by
  refine ⟨fun i hi => (congrArg (fldOf _) (State.rd_freeBuffer_slot h i)).trans (State.get_KIND_setSlots_mem s hi), ?_⟩
  rw [State.rd_freeBuffer_desc h, if_pos rfl]

theorem BufferFreed.freeBuffer (h : BufferFreed k s) (d : Nat) : BufferFreed k (s.freeBuffer d) := by
  cases found : tabFind s.acq.chan d with
  | none => exact (State.freeBuffer_none found).symm ▸ h
  | some j =>
    refine ⟨fun i hi => (congrArg (fldOf _) (State.rd_freeBuffer_slot found i)).trans (State.get_KIND_setSlots_stays s (h.1 i hi)), ?_⟩
    rw [State.rd_freeBuffer_desc found]
    split_ifs
    · rfl
    · exact h.2

end

/-! ### Closing a record -/

section
variable {s : State} {c : Nat} {k : AcqChan}

/-- A closed record is told: its entry on the queue of records, and event 0x50. -/
def State.tellRecord (e : BitVec 64) (s : State) : State :=
  (if s.flag ACQ_RQ_EN then
    let r := s.tryPush 5 (s.get ACQ_RQ_Q) [e]
    if r.1 = 0x1 then r.2 else r.2.lose 0x17 ACQ_STAT_QLOST 1
  else s).event 0x50

/-- The words of a descriptor. -/
def State.putWords (rid : Nat) (w : List (Nat × Nat)) (s : State) : State := w.foldl (fun s (e : Nat × Nat) => s.wr (ACQ_RD rid e.2) e.1) s

theorem State.rd_lose_acq (s : State) (src k : Nat) {f : Fld} {a : Nat} (block : a / 0x1000000 = Block.acq.num) (other : a ≠ f.addr) :
    (s.lose src f k).rd a = s.rd a :=
  ((State.lose_keeps_satBump s src f k).rd (by decide) block).trans (s.rd_put_ne f _ other)

theorem State.rd_tellRecord (s : State) (e : BitVec 64) {a : Nat} (block : a / 0x1000000 = Block.acq.num) (other : a ≠ ACQ_STAT) :
    (s.tellRecord e).rd a = s.rd a := by
  have pushed (cls q : Nat) (es : List (BitVec 64)) : (s.tryPush cls q es).2.rd a = s.rd a :=
    (State.tryPush_keeps (Keeps.refl [.reg .knl, .reg .que, .sets, .bulk, .knl, .que] s) (by decide)).rd (by decide) block
  refine ((State.event_keeps (Keeps.refl [.reg .knl, .knl] _) (by decide)).rd (by decide) block).trans ?_
  dsimp only
  split_ifs
  · exact pushed ..
  · exact (State.rd_lose_acq _ 0x17 1 block other).trans (pushed ..)
  · rfl

theorem State.acq_tellRecord (s : State) (e : BitVec 64) : (s.tellRecord e).acq = s.acq := by
  have pushed (cls q : Nat) (es : List (BitVec 64)) : (s.tryPush cls q es).2.acq = s.acq :=
    (State.tryPush_keeps (Keeps.refl [.reg .knl, .reg .que, .sets, .bulk, .knl, .que] s) (by decide)).same .acq (by decide)
  refine ((State.event_keeps (Keeps.refl [.reg .knl, .knl] _) (by decide)).same .acq (by decide)).trans ?_
  dsimp only
  split_ifs
  · exact pushed ..
  · exact ((State.lose_keeps ACQ_STAT_QLOST_blk (Keeps.refl [.reg .acq, .reg .err, .log] _) (by decide)).same .acq (by decide)).trans (pushed ..)
  · rfl

/-- The registers and the table of channels as a record closes, before it is told. -/
def State.closing (c status : Nat) (k : AcqChan) (s : State) : State :=
  ((((s.putWords k.rid (s.recordWords c (s.get (ACQ_CCFG_GRP c)) k status).zipIdx).setSlots 2 k.rid k.slots).put (ACQ_CST_STATE c) 0).onAcq
    fun a => { a with chan := tabDel a.chan c, seq := tabSet a.seq c (tabGet 0 a.seq c + 1) }).showPool

theorem State.closeRecord_none (status : Nat) (h : tabFind s.acq.chan c = none) : s.closeRecord c status = s := by simp only [State.closeRecord, h]

theorem State.closeRecord_some (status : Nat) (h : tabFind s.acq.chan c = some k) : ∃ e, s.closeRecord c status = (s.closing c status k).tellRecord e := by
  refine ⟨recordEntry k.rid c (s.get (ACQ_CCFG_GRP c)) status ((s.recordWords c (s.get (ACQ_CCFG_GRP c)) k status).getD 0 0 / 2 ^ 24)
    ((s.recordWords c (s.get (ACQ_CCFG_GRP c)) k status).getD 4 0), ?_⟩
  simp only [State.closeRecord, h]
  rfl

theorem State.putWords_acq (rid : Nat) (w : List (Nat × Nat)) (s : State) : (s.putWords rid w).acq = s.acq := by
  induction w generalizing s with
  | nil => rfl
  | cons e w ih => exact ih _

theorem State.acq_closing (s : State) (c status : Nat) (k : AcqChan) : (s.closing c status k).acq =
    { s.acq with chan := tabDel s.acq.chan c, seq := tabSet s.acq.seq c (tabGet 0 s.acq.seq c + 1) } := by
  have same := (State.setSlots_acq 2 k.rid k.slots (s.putWords k.rid (s.recordWords c (s.get (ACQ_CCFG_GRP c)) k status).zipIdx)).trans
    (State.putWords_acq k.rid _ s)
  exact congrArg (fun a : Acq => { a with chan := tabDel a.chan c, seq := tabSet a.seq c (tabGet 0 a.seq c + 1) }) same

theorem State.chan_closeRecord (s : State) (c status x : Nat) :
    tabFind (s.closeRecord c status).acq.chan x = if x = c then none else tabFind s.acq.chan x := by
  cases h : tabFind s.acq.chan c with
  | none =>
    rw [State.closeRecord_none status h]
    split_ifs with same
    · rw [same, h]
    · rfl
  | some k =>
    obtain ⟨e, closed⟩ := State.closeRecord_some status h
    rw [closed, State.acq_tellRecord, State.acq_closing, tabFind_tabDel]

theorem State.sram_closeRecord (s : State) (c status : Nat) : (s.closeRecord c status).acq.sram = s.acq.sram := by
  cases h : tabFind s.acq.chan c with
  | none => rw [State.closeRecord_none status h]
  | some k =>
    obtain ⟨e, closed⟩ := State.closeRecord_some status h
    rw [closed, State.acq_tellRecord, State.acq_closing]

theorem State.rd_putWords (rid : Nat) (w : List (Nat × Nat)) (s : State) {a : Nat} (h : ∀ e ∈ w, a ≠ ACQ_RD rid e.2) :
    (s.putWords rid w).rd a = s.rd a := by
  induction w generalizing s with
  | nil => rfl
  | cons e w ih => exact (ih _ fun x hx => h x (by simp [hx])).trans (s.rd_wr_ne _ (h e (by simp)))

theorem ACQ_RD_apart {r rid w : Nat} (h : ACQ_RD r 0 ≠ ACQ_RD rid 0) : ACQ_RD r 0 ≠ ACQ_RD rid w := by
  simp only [ACQ_RD] at h ⊢
  omega

/-- The first word of the descriptors after the words of one have been stored. -/
theorem State.rd_putWords_first (s : State) (rid r first : Nat) {rest : List Nat} (h : rest.length = 15) :
    (s.putWords rid (first :: rest).zipIdx).rd (ACQ_RD r 0) = if ACQ_RD r 0 = ACQ_RD rid 0 then first % 2 ^ 32 else s.rd (ACQ_RD r 0) := by
  have later : ∀ e ∈ rest.zipIdx 1, ACQ_RD r 0 ≠ ACQ_RD rid e.2 := fun e he => by
    have low := List.le_snd_of_mem_zipIdx he
    have high := List.snd_lt_of_mem_zipIdx he
    simp only [ACQ_RD]
    omega
  have tail := State.rd_putWords rid (rest.zipIdx 1) (s.wr (ACQ_RD rid 0) first) later
  exact tail.trans (State.rd_wr ..)

/-- The first word of the descriptors after a record has closed. -/
theorem State.rd_closeRecord_desc (status : Nat) (h : tabFind s.acq.chan c = some k) (r : Nat) : ∃ flags, (s.closeRecord c status).rd (ACQ_RD r 0) =
    if ACQ_RD r 0 = ACQ_RD k.rid 0 then (c + 256 * s.get (ACQ_CCFG_GRP c) + 65536 * status + 2 ^ 24 * flags) % 2 ^ 32 else s.rd (ACQ_RD r 0) := by
  obtain ⟨e, closed⟩ := State.closeRecord_some status h
  have range := ACQ_RD_range r 0
  have cst : ACQ_CST c < 0x19004000 := by simp only [ACQ_CST]; omega
  have told : (s.closeRecord c status).rd (ACQ_RD r 0) = (s.closing c status k).rd (ACQ_RD r 0) := by
    rw [closed]
    exact State.rd_tellRecord _ e (by simp only [Block.num]; omega) (by simp only [ACQ_STAT]; omega)
  have shown : (s.closing c status k).rd (ACQ_RD r 0) =
      (s.putWords k.rid (s.recordWords c (s.get (ACQ_CCFG_GRP c)) k status).zipIdx).rd (ACQ_RD r 0) :=
    (State.rd_showPool_above _ (by omega)).trans ((State.rd_put_ne _ (ACQ_CST_STATE c) 0 (by simp only [ACQ_CST_STATE]; omega)).trans
      (State.rd_setSlots_below _ (by omega)))
  exact ⟨_, told.trans (shown.trans (s.rd_putWords_first k.rid r _ rfl))⟩

/-- The record of `k` is closed with STATUS 0x3. -/
def RecordStopped (k : AcqChan) (u : State) : Prop := u.rd (ACQ_RD k.rid 0) / 65536 % 256 = 3

theorem status_of_word {c g : Nat} (flags : Nat) (hc : c < 64) (hg : g < 8) :
    (c + 256 * g + 65536 * 3 + 2 ^ 24 * flags) % 2 ^ 32 / 65536 % 256 = 3 := by omega

theorem State.closeRecord_stops (hc : c < 64) (h : tabFind s.acq.chan c = some k) : RecordStopped k (s.closeRecord c 3) := by
  obtain ⟨flags, word⟩ := State.rd_closeRecord_desc 3 h k.rid
  rw [RecordStopped, word, if_pos rfl]
  exact status_of_word flags hc (s.get_lt _)

theorem RecordStopped.closeRecord {d : Nat} (hd : d < 64) (h : RecordStopped k s) : RecordStopped k (s.closeRecord d 3) := by
  cases found : tabFind s.acq.chan d with
  | none => exact (State.closeRecord_none 3 found).symm ▸ h
  | some j =>
    obtain ⟨flags, word⟩ := State.rd_closeRecord_desc 3 found k.rid
    rw [RecordStopped, word]
    split_ifs
    · exact status_of_word flags hd (s.get_lt _)
    · exact h

end

/-! ### Ending the buffers of several channels -/

section
variable {f : State → Nat → State} (ends : ∀ s c x, tabFind (f s c).acq.chan x = if x = c then none else tabFind s.acq.chan x)
include ends

/-- An operation that ends the buffer of one channel, on each of a list, ends those of all. -/
theorem chan_foldl_none {l : List Nat} {c : Nat} (s : State) (h : c ∈ l ∨ tabFind s.acq.chan c = none) : tabFind (l.foldl f s).acq.chan c = none := by
  induction l generalizing s with
  | nil => simpa using h
  | cons d l ih =>
    refine ih (f s d) ?_
    rw [ends]
    rcases h with listed | gone
    · rcases List.mem_cons.mp listed with rfl | later
      · exact .inr (if_pos rfl)
      · exact .inl later
    · exact .inr (by rw [gone, ite_self])

/-- What the operation makes true of the buffer of its channel, and keeps of every other, is true of all. -/
theorem foldl_ends {P : AcqChan → State → Prop} {l : List Nat} (makes : ∀ s c k, c ∈ l → tabFind s.acq.chan c = some k → P k (f s c))
    (keeps : ∀ s d k, d ∈ l → P k s → P k (f s d)) {s : State} {c : Nat} {k : AcqChan} (hc : c ∈ l) (found : tabFind s.acq.chan c = some k) :
    P k (l.foldl f s) := by
  have after (l' : List Nat) (sub : l' ⊆ l) (t : State) (h : P k t) : P k (l'.foldl f t) := by
    induction l' generalizing t with
    | nil => exact h
    | cons d l' ih => exact ih (fun x hx => sub (by simp [hx])) _ (keeps t d k (sub (by simp)) h)
  suffices every : ∀ l', l' ⊆ l → c ∈ l' → ∀ t, tabFind t.acq.chan c = some k → P k (l'.foldl f t) from every l (List.Subset.refl l) hc s found
  intro l' sub listed t held
  induction l' generalizing t with
  | nil => simp at listed
  | cons d l' ih =>
    have sub' : l' ⊆ l := fun x hx => sub (by simp [hx])
    by_cases same : c = d
    · exact after l' sub' _ (same ▸ makes t c k hc held)
    · exact ih sub' ((List.mem_cons.mp listed).resolve_left same) _ (by rw [ends, if_neg same, held])

end

end Sys2Proof.Machine
end

section
/-! PROOFS. Arming, disarming, forcing and releasing (O46). -/

namespace Sys2Proof.Machine

/-! ### ARM -/

section
variable {s t : State} {g : Nat}

theorem State.acqRoom_of_rd (same : ∀ a, a ≠ ACQ_GST g → t.rd a = s.rd a) : t.acqRoom g = s.acqRoom g := by
  have cfg (c : Nat) : t.rd (ACQ_CCFG c) = s.rd (ACQ_CCFG c) := same _ (by simp only [ACQ_CCFG, ACQ_GST]; omega)
  have members : t.acqMembers g = s.acqMembers g := State.acqMembers_of_rd cfg
  have slots (c : Nat) : t.acqSlots c = s.acqSlots c := State.acqSlots_of_rd (cfg c)
  have free : t.freeSlots = s.freeSlots := State.freeSlots_of_rd fun i => same _ (by simp only [ACQ_SLOT, ACQ_GST]; omega)
  have status (r : Nat) : t.descStatus r = s.descStatus r := by
    rw [State.descStatus, State.descStatus, same _ (by simp only [ACQ_RD, ACQ_GST]; omega)]
  have descs : t.freeDescs = s.freeDescs := by simp only [State.freeDescs, status]
  simp only [State.acqRoom, members, slots, free, descs]

theorem State.armRequest_refused {r : Nat} (h : s.armResult g = r) (no : r ≠ 1) : s.armRequest g = s.put (ACQ_GST_RESULT g) r := by
  simp only [State.armRequest, h, if_pos no]

theorem PWR_ISL_ne_ACQ_GST : (PWR_ISL_STATE 0x17).addr ≠ ACQ_GST g := by simp only [PWR_ISL_STATE, PWR_ISL, ACQ_GST]; omega

theorem State.armRequest_awake (h : s.armResult g = 1) (awake : s.get (PWR_ISL_STATE 0x17) = 0) :
    s.armRequest g = (s.put (ACQ_GST_RESULT g) 1).armGroup g := by
  have still : (s.put (ACQ_GST_RESULT g) 1).get (PWR_ISL_STATE 0x17) = 0 := (s.get_put_ne _ _ 1 PWR_ISL_ne_ACQ_GST).trans awake
  simp only [State.armRequest, h, still]
  rfl

/-- R361: the arm waits for the wake of the island. -/
def State.waitWake (g : Nat) (s : State) : State :=
  (s.satBump (PWR_ISL_LATE 0x17) 1).onAcq fun a => { a with wake := a.wake.filter (· != g) ++ [g] }

theorem State.armRequest_asleep (h : s.armResult g = 1) (asleep : s.get (PWR_ISL_STATE 0x17) ≠ 0) :
    s.armRequest g = (s.put (ACQ_GST_RESULT g) 1).waitWake g := by
  have still : (s.put (ACQ_GST_RESULT g) 1).get (PWR_ISL_STATE 0x17) ≠ 0 := (s.get_put_ne _ _ 1 PWR_ISL_ne_ACQ_GST).trans_ne asleep
  simp only [State.armRequest, h, ne_eq, not_true_eq_false, if_false, if_pos still]
  rfl

theorem State.room_of_armResult (h : s.armResult g = 1) : s.acqRoom g = true := by
  unfold State.armResult at h
  dsimp only at h
  split_ifs at h <;> simp_all

/-- R361: the checks after those of the signals and of the bandwidth. -/
theorem State.armResult_sampled (idle : s.get (ACQ_GST_STATE g) = 0) (members : s.acqMembers g ≠ []) (signals : ∀ c ∈ s.acqMembers g, s.signalOk c = true)
    (band : ∀ c ∈ s.acqMembers g, bandwidthOk (s.acqSize c) (s.rd (ACQ_CTS c)) (s.get (ACQ_CWS_WEXP c)) = true) : s.armResult g =
      if !s.triggerOk g then 0xE
      else if !s.acqRoom g then 0xB
      else if (s.get (ACQ_GCFG_SRC g) = 5 ∨ s.flag (ACQ_GCFG_WOUTEN g)) ∧ !s.flag ACQ_WST_CLKOK then 0xC
      else if s.flag CFG_CHG_BUSY then 0xD
      else 0x1 := by
  unfold State.armResult
  dsimp only
  rw [if_neg (by simp [idle, members]), if_neg (by simpa using signals), if_neg (by simpa using band)]

theorem State.idle_of_armResult (h : s.armResult g = 1) : s.get (ACQ_GST_STATE g) = 0 := by
  unfold State.armResult at h
  by_contra armed
  rw [if_pos (.inl armed)] at h
  exact absurd h (by decide)

end

section
variable {s : State} {g : Fin 8}

/-- R361: a refused arm shows its RESULT and changes nothing else. -/
theorem arm_refused (dt : Nat) {r : Nat} (h : s.armResult g = r) (no : r ≠ 1) (code : r < 16) : ∃ u, exec (.arm dt g) s = .next u ∧
    u.get (ACQ_GST_RESULT g) = r ∧ u.get (ACQ_GST_STATE g) = s.get (ACQ_GST_STATE g) ∧ OnlyChanges [.clk, .sets] [ACQ_GST g] s u := by
  refine ⟨(s.elapse dt).put (ACQ_GST_RESULT g) r, congrArg Host.Outcome.next (State.armRequest_refused (s := s.elapse dt) h no),
    (State.get_put_fits _ _ r rfl).trans (Nat.mod_eq_of_lt code), State.get_put_apart _ r rfl, ?_⟩
  exact (OnlyChanges.elapse dt s (by decide) (by decide)).put r (by simp [ACQ_GST_RESULT])

/-- R355, R356, R361: an arm that passes every check, in an island that runs. -/
theorem arm_accepted (dt : Nat) (h : s.armResult g = 1) (awake : s.get (PWR_ISL_STATE 0x17) = 0) : ∃ u, exec (.arm dt g) s = .next u ∧
    u.get (ACQ_GST_RESULT g) = 1 ∧ u.get (ACQ_GST_STATE g) = 1 ∧ (u.acqGroup g).rearmAt = (s.elapse dt).rearmDue g ∧
    (∀ c ∈ s.acqMembers g, ChannelArmed s c u) ∧ u.get ACQ_POOLA_FREE + u.get ACQ_POOLA_ARMED + u.get ACQ_POOLB_HELD = 2048 ∧
    OnlyChanges [.clk, .fresh, .acq, .reg .acq, .sets] [] s u := by
  have same (a : Nat) (ha : a ≠ ACQ_GST g) : ((s.elapse dt).put (ACQ_GST_RESULT g) 1).rd a = s.rd a := State.rd_put_ne (s.elapse dt) _ 1 ha
  have cfg (c : Nat) : ACQ_CCFG c ≠ ACQ_GST g := by simp only [ACQ_CCFG, ACQ_GST]; omega
  have members : ((s.elapse dt).put (ACQ_GST_RESULT g) 1).acqMembers g = s.acqMembers g := State.acqMembers_of_rd fun c => same _ (cfg c)
  have room := (State.acqRoom_of_rd same).trans (State.room_of_armResult h)
  refine ⟨((s.elapse dt).put (ACQ_GST_RESULT g) 1).armGroup g, congrArg Host.Outcome.next (State.armRequest_awake (s := s.elapse dt) h awake),
    (State.get_RESULT_armGroup _ g).trans (State.get_put_fits _ _ 1 rfl), State.get_STATE_armGroup _ g, (State.rearmAt_armGroup _ g).trans ?_,
    fun c hc => ?_, State.armGroup_sum _ g, ?_⟩
  · have tch : ((s.elapse dt).put (ACQ_GST_RESULT g) 1).get (ACQ_GCFG_TCH g) = s.get (ACQ_GCFG_TCH g) :=
      congrArg (fldOf _) (same (ACQ_GCFG g) (by simp only [ACQ_GCFG, ACQ_GST]; omega))
    have ts (c : Nat) := same (ACQ_CTS c) (by simp only [ACQ_CTS, ACQ_GST]; omega)
    simp only [State.rearmDue, tch, ts]
    rfl
  · refine (State.armGroup_shows _ g room (by rw [members]; exact hc)).of_rd fun a ha => same a ?_
    simp only [List.mem_cons, List.not_mem_nil, or_false, ACQ_CSIG, ACQ_CTS, ACQ_CCFG, ACQ_CPRE, ACQ_CPOST] at ha
    simp only [ACQ_GST]
    omega
  · exact (OnlyChanges.of_elapse ((State.armGroup_keeps (State.put_keeps (ACQ_GST_RESULT_blk g) (Keeps.refl [.reg .acq, .fresh, .acq] _)
      (by decide)) (by decide)).onlyChanges [])).mono (by decide) (List.Subset.refl _)

/-- R356: what an armed channel shows where PRE has been cut. -/
theorem ChannelArmed.precut {u : State} {c : Nat} (h : ChannelArmed s c u) (post : s.rd (ACQ_CPOST c) ≤ s.acqSlots c * 4096 / s.acqSize c)
    (both : s.acqSlots c * 4096 / s.acqSize c < s.rd (ACQ_CPRE c) + s.rd (ACQ_CPOST c)) :
    u.get (ACQ_CST_PRECUT c) = 1 ∧ u.get (ACQ_CST_PCLAMP c) = 0 := by
  obtain ⟨-, -, -, pclamp, precut⟩ := h
  have fit : fitCounts (s.acqSlots c * 4096 / s.acqSize c) (s.rd (ACQ_CPRE c)) (s.rd (ACQ_CPOST c)) =
      (s.acqSlots c * 4096 / s.acqSize c - s.rd (ACQ_CPOST c), s.rd (ACQ_CPOST c), false, true) :=
    (if_neg (not_lt.mpr post)).trans (if_pos both)
  rw [State.armFit, fit] at pclamp precut
  exact ⟨precut, pclamp⟩

/-- R39, R361: an arm that finds the island asleep waits for its wake. -/
theorem arm_asleep (dt : Nat) (h : s.armResult g = 1) (asleep : s.get (PWR_ISL_STATE 0x17) ≠ 0) : ∃ u, exec (.arm dt g) s = .next u ∧
    u.get (ACQ_GST_RESULT g) = 1 ∧ u.get (ACQ_GST_STATE g) = 0 ∧ g.val ∈ u.acq.wake ∧ u.acq.chan = s.acq.chan ∧
    OnlyChanges [.clk, .acq, .sets] [ACQ_GST g, PWR_ISL 0x17] s u := by
  have apart : ACQ_GST g ≠ (PWR_ISL_LATE 0x17).addr := PWR_ISL_ne_ACQ_GST.symm
  have shown {f : Fld} (hf : f.addr = ACQ_GST g) : (((s.elapse dt).put (ACQ_GST_RESULT g) 1).waitWake g).get f =
      ((s.elapse dt).put (ACQ_GST_RESULT g) 1).get f := State.get_put_ne _ (PWR_ISL_LATE 0x17) f _ (hf ▸ apart)
  refine ⟨((s.elapse dt).put (ACQ_GST_RESULT g) 1).waitWake g, congrArg Host.Outcome.next (State.armRequest_asleep (s := s.elapse dt) h asleep),
    (shown rfl).trans (State.get_put_fits _ _ 1 rfl),
    (shown rfl).trans ((State.get_put_apart _ 1 rfl).trans (State.idle_of_armResult h)), List.mem_append.mpr (.inr (List.mem_singleton.mpr rfl)), rfl, ?_⟩
  exact (((OnlyChanges.elapse dt s (by decide) (by decide)).put 1 (by simp [ACQ_GST_RESULT])).satBump 1 (by simp [PWR_ISL_LATE])).after
    (State.onAcq_keeps (m := [.acq]) (Keeps.refl _ _) (by decide)) (by decide)

end

/-! ### DISARM -/

section
variable {s : State} {g status : Nat}

/-- The arms that wait for the wake, without that of group `g`. -/
def State.forgetWake (g : Nat) (s : State) : State := s.onAcq fun a => { a with wake := a.wake.filter (· != g) }

theorem State.disarmGroup_idle (h : s.get (ACQ_GST_STATE g) = 0) : s.disarmGroup g status = s.forgetWake g := by
  simp only [State.disarmGroup, h, if_true]
  rfl

theorem State.disarmGroup_waiting (busy : s.get (ACQ_GST_STATE g) ≠ 0) (h : s.get (ACQ_GST_STATE g) ≠ 3) : s.disarmGroup g status =
    ((s.acqMembers g).foldl (fun s c => s.freeBuffer c) (s.forgetWake g)).put (ACQ_GST_STATE g) 0 := by
  simp only [State.disarmGroup, if_neg busy, if_neg h]
  rfl

theorem State.disarmGroup_triggered (h : s.get (ACQ_GST_STATE g) = 3) : s.disarmGroup g status =
    ((s.acqMembers g).foldl (fun s c => s.closeRecord c status) (s.forgetWake g)).put (ACQ_GST_STATE g) 0 := by
  simp only [State.disarmGroup, h]
  rfl

/-- R357, R368: a group that has not triggered gives its buffers back. -/
theorem disarm_waiting (dt : Nat) (g : Fin 8) (s : State) (h : s.get (ACQ_GST_STATE g) ≠ 0 ∧ s.get (ACQ_GST_STATE g) ≠ 3) :
    ∃ u, exec (.disarm dt g) s = .next u ∧ u.get (ACQ_GST_STATE g) = 0 ∧ (∀ c ∈ s.acqMembers g, tabFind u.acq.chan c = none) ∧
      (∀ c : Fin 64, ∀ k, c.val ∈ s.acqMembers g → tabFind s.acq.chan c = some k → BufferFreed k u) ∧
      OnlyChanges [.clk, .acq, .reg .acq, .sets] [] s u := by
  have range := ACQ_GST_range g
  have put (k : AcqChan) (t : State) (freed : BufferFreed k t) : BufferFreed k (t.put (ACQ_GST_STATE g) 0) := by
    refine ⟨fun i hi => (t.get_put_ne _ _ 0 ?_).trans (freed.1 i hi), (congrArg (· / 65536 % 256) (t.rd_put_ne _ 0 ?_)).trans freed.2⟩
    · have slot := ACQ_SLOT_range i
      simp only [ACQ_SLOT_KIND, ACQ_GST_STATE]
      omega
    · have desc := ACQ_RD_range k.rid 0
      simp only [ACQ_GST_STATE]
      omega
  refine ⟨_, congrArg Host.Outcome.next (State.disarmGroup_waiting (s := s.elapse dt) (status := 3) h.1 h.2), State.get_put_fits _ _ 0 rfl,
    fun c hc => chan_foldl_none State.chan_freeBuffer _ (.inl hc), fun c k hc found => put k _ ?_, ?_⟩
  · exact foldl_ends State.chan_freeBuffer (P := BufferFreed) (fun s c k _ found => State.freeBuffer_frees found)
      (fun s d k _ freed => freed.freeBuffer d) (s := (s.elapse dt).forgetWake g) hc found
  · have freed : Keeps [.acq, .reg .acq] (s.elapse dt) (((s.elapse dt).acqMembers g).foldl (fun s c => s.freeBuffer c) ((s.elapse dt).forgetWake g)) :=
      keeps_foldl (fun _ _ h => State.freeBuffer_keeps h (by decide)) _ (State.onAcq_keeps (Keeps.refl _ _) (by decide))
    exact (OnlyChanges.of_elapse ((State.put_keeps (ACQ_GST_STATE_blk g) freed (by decide)).onlyChanges [])).mono (by decide) (List.Subset.refl _)

/-- R368, R372: the records that are filling close with STATUS 0x3. -/
theorem disarm_triggered (dt : Nat) (g : Fin 8) (s : State) (h : s.get (ACQ_GST_STATE g) = 3) :
    ∃ u, exec (.disarm dt g) s = .next u ∧ u.get (ACQ_GST_STATE g) = 0 ∧ (∀ c ∈ s.acqMembers g, tabFind u.acq.chan c = none) ∧
      (∀ c : Fin 64, ∀ k, c.val ∈ s.acqMembers g → tabFind s.acq.chan c = some k → RecordStopped k u) ∧ u.acq.sram = s.acq.sram := by
  have range := ACQ_GST_range g
  have bound (c : Nat) (hc : c ∈ s.acqMembers g) : c < 64 := State.mem_acqMembers_lt hc
  refine ⟨_, congrArg Host.Outcome.next (State.disarmGroup_triggered (s := s.elapse dt) (status := 3) h), State.get_put_fits _ _ 0 rfl,
    fun c hc => chan_foldl_none (fun s c => State.chan_closeRecord s c 3) _ (.inl hc), fun c k hc found => ?_, ?_⟩
  · have stopped := foldl_ends (fun s c => State.chan_closeRecord s c 3) (P := RecordStopped)
      (fun s c k member found => State.closeRecord_stops (bound c member) found) (fun s d k member h => h.closeRecord (bound d member))
      (s := (s.elapse dt).forgetWake g) hc found
    have desc := ACQ_RD_range k.rid 0
    exact (congrArg (· / 65536 % 256) (State.rd_put_ne _ (ACQ_GST_STATE g) 0 (by simp only [ACQ_GST_STATE]; omega))).trans stopped
  · have kept (l : List Nat) (t : State) : (l.foldl (fun s c => s.closeRecord c 3) t).acq.sram = t.acq.sram := by
      induction l generalizing t with
      | nil => rfl
      | cons c l ih => exact (ih _).trans (t.sram_closeRecord c 3)
    exact kept _ _

end

/-! ### Release -/

section
variable {s : State} {r : Nat}

/-- The slots that the record of descriptor `r` holds. -/
def State.recordSlots (s : State) (r : Nat) : List Nat := below 2048 fun i => s.get (ACQ_SLOT_KIND i) == 2 && s.get (ACQ_SLOT_OWNER i) == r

/-- The record of descriptor `r` is given back. -/
def State.giveBack (r : Nat) (s : State) : State := ((State.setSlots 0 0 (s.recordSlots r) s).wr (ACQ_RD r 0) 0).showPool

theorem State.releaseRecord_closed (who : Accessor) (low : 2 ≤ s.descStatus r) (high : s.descStatus r ≤ 5) :
    s.releaseRecord who r = (s.giveBack r).retryWaiting := if_pos ⟨low, high⟩

theorem State.releaseRecord_other (who : Accessor) (h : s.descStatus r < 2 ∨ 5 < s.descStatus r) :
    s.releaseRecord who r = s.accessError who 4 ACQ_REL r := if_neg (by omega)

theorem State.rd_giveBack_slot (s : State) (r i : Nat) : (s.giveBack r).rd (ACQ_SLOT i) = (State.setSlots 0 0 (s.recordSlots r) s).rd (ACQ_SLOT i) := by
  have slot := ACQ_SLOT_range i
  have desc := ACQ_RD_range r 0
  exact (State.rd_showPool_above _ (by omega)).trans (State.rd_wr_ne _ 0 (by omega))

theorem State.rd_giveBack_desc (s : State) (r : Nat) : (s.giveBack r).rd (ACQ_RD r 0) = 0 := by
  have desc := ACQ_RD_range r 0
  exact (State.rd_showPool_above _ (by omega)).trans (State.rd_wr_same _ _ 0)

theorem State.rd_giveBack_group (s : State) (r g : Nat) : (s.giveBack r).rd (ACQ_GST g) = s.rd (ACQ_GST g) := by
  have range := ACQ_GST_range g
  have desc := ACQ_RD_range r 0
  exact (State.rd_showPool_above _ range.1).trans ((State.rd_wr_ne _ 0 (by omega)).trans (State.rd_setSlots_below _ (by omega)))

theorem State.giveBack_keeps (s : State) (r : Nat) : Keeps [.reg .acq] s (s.giveBack r) :=
  State.showPool_keeps (State.wr_keeps (ACQ_RD_blk r 0) (State.setSlots_keeps (Keeps.refl _ s) (by decide)) (by decide)) (by decide)

/-- The groups that wait for room. -/
def State.waitingGroups (s : State) : List Nat := below 8 fun g => s.get (ACQ_GST_STATE g) == 4

theorem State.retryWaiting_none (h : ∀ g : Fin 8, s.get (ACQ_GST_STATE g) ≠ 4) : s.retryWaiting = s := by
  have nobody : s.waitingGroups = [] := List.filter_eq_nil_iff.mpr fun g hg => by
    have here := h ⟨g, List.mem_range.mp hg⟩
    simpa using here
  exact congrArg (List.foldl (fun s g => if s.acqRoom g = true then s.armGroup g else s) s) nobody

theorem State.retryWaiting_one {g : Fin 8} (waits : s.get (ACQ_GST_STATE g) = 4) (alone : ∀ y : Fin 8, y ≠ g → s.get (ACQ_GST_STATE y) ≠ 4) :
    s.retryWaiting = if s.acqRoom g = true then s.armGroup g else s := by
  have only : s.waitingGroups = (List.range 8).filter (· == g.val) := by
    refine List.filter_congr fun y hy => ?_
    by_cases same : y = g
    · simp [same, waits]
    · have other := alone ⟨y, List.mem_range.mp hy⟩ fun eq => same (congrArg Fin.val eq)
      simp [same, other]
  have single : ∀ g : Fin 8, (List.range 8).filter (· == g.val) = [g.val] := by decide
  exact congrArg (List.foldl (fun s g => if s.acqRoom g = true then s.armGroup g else s) s) (only.trans (single g))

/-- R373: the slots of a released record. -/
theorem State.giveBack_slots (s : State) (r : Nat) (i : Fin 2048) :
    (s.get (ACQ_SLOT_KIND i) = 2 ∧ s.get (ACQ_SLOT_OWNER i) = r → (s.giveBack r).get (ACQ_SLOT_KIND i) = 0) ∧
      (¬ (s.get (ACQ_SLOT_KIND i) = 2 ∧ s.get (ACQ_SLOT_OWNER i) = r) → (s.giveBack r).rd (ACQ_SLOT i) = s.rd (ACQ_SLOT i)) := by
  have word := s.rd_giveBack_slot r i
  have mine (j : Nat) : j ∈ s.recordSlots r ↔ j < 2048 ∧ s.get (ACQ_SLOT_KIND j) = 2 ∧ s.get (ACQ_SLOT_OWNER j) = r := by
    simp [State.recordSlots, below]
  refine ⟨fun held => (congrArg (fldOf _) word).trans (State.get_KIND_setSlots_mem s ((mine i).mpr ⟨i.isLt, held⟩)), fun other => word.trans ?_⟩
  refine s.rd_setSlots fun j hj same => ?_
  obtain ⟨bound, held⟩ := (mine j).mp hj
  exact other (ACQ_SLOT_injective i.isLt bound same ▸ held)

end

/-- R373: a release of a closed record while no group waits for room. -/
theorem release_closed (dt : Nat) (who : Accessor) (r : Fin 128) (s : State) (low : 2 ≤ s.descStatus r) (high : s.descStatus r ≤ 5)
    (nobody : ∀ g : Fin 8, s.get (ACQ_GST_STATE g) ≠ 4) : exec (.recordRelease dt who r) s = .next ((s.elapse dt).giveBack r) := by
  refine congrArg Host.Outcome.next ((State.releaseRecord_closed (s := s.elapse dt) who low high).trans (State.retryWaiting_none fun g => ?_))
  exact (congrArg (fldOf _) ((s.elapse dt).rd_giveBack_group r g)).trans_ne (nobody g)

/-- R367, R373: a release of a closed record while one group waits for room. -/
theorem release_retried (dt : Nat) (who : Accessor) (r : Fin 128) (g : Fin 8) (s : State) (low : 2 ≤ s.descStatus r) (high : s.descStatus r ≤ 5)
    (waits : s.get (ACQ_GST_STATE g) = 4) (alone : ∀ y : Fin 8, y ≠ g → s.get (ACQ_GST_STATE y) ≠ 4) :
    ∃ u, exec (.recordRelease dt who r) s = .next u ∧ (u.get (ACQ_GST_STATE g) = 1 ∨ u.get (ACQ_GST_STATE g) = 4 ∧ u.acqRoom g = false) := by
  have state (y : Fin 8) : ((s.elapse dt).giveBack r).get (ACQ_GST_STATE y) = s.get (ACQ_GST_STATE y) :=
    congrArg (fldOf _) ((s.elapse dt).rd_giveBack_group r y)
  have retried := State.retryWaiting_one (s := (s.elapse dt).giveBack r) ((state g).trans waits) fun y hy => (state y).trans_ne (alone y hy)
  refine ⟨_, congrArg Host.Outcome.next ((State.releaseRecord_closed (s := s.elapse dt) who low high).trans retried), ?_⟩
  split_ifs with room
  · exact .inl (State.get_STATE_armGroup _ g)
  · exact .inr ⟨(state g).trans waits, by simpa using room⟩

/-- Settles O46: each command is one lemma above; the channels of an armed group by induction over the group, whose slots suffice for all
its channels, and those of a disarmed one because no buffer that has ended comes back. -/
theorem armAndRelease : Obligations.ArmAndRelease := by
  unfold Obligations.ArmAndRelease
  refine ⟨?_, ?_, ?_, ?_, ?_, ?_, ?_, ?_, ?_, ?_, ?_, ?_, ?_, ?_, ?_, ?_, ?_, ?_, ?_⟩
  case refine_1 =>
    intro dt g s result awake
    obtain ⟨u, run, shown, state, rearm, armed, sum, frame⟩ := arm_accepted dt result awake
    refine ⟨u, run, shown, state, rearm.trans ?_, fun c hc => ?_, fun c hc post both => (armed c hc).precut post both, sum, frame⟩
    · unfold State.rearmDue
      rw [← Nat.add_mul, Nat.add_assoc]
      rfl
    · obtain ⟨cst, hist, dep, -, -⟩ := armed c hc
      exact ⟨cst, hist, dep⟩
  case refine_2 =>
    intro dt g s refused
    exact arm_refused dt (by simp only [State.armResult, if_pos refused]) (by decide) (by decide)
  case refine_3 =>
    intro dt g s idle members signals
    exact arm_refused dt (by simp [State.armResult, idle, members, signals]) (by decide) (by decide)
  case refine_4 =>
    intro dt g s idle members signals band
    have result : s.armResult g = 0xA := by
      unfold State.armResult
      dsimp only
      rw [if_neg (by simp [idle, members]), if_neg (by simpa using signals), if_pos (by simpa using band)]
    exact arm_refused dt result (by decide) (by decide)
  case refine_5 =>
    intro dt g s idle members signals band trigger
    have result := State.armResult_sampled idle members signals band
    exact arm_refused dt (result.trans (by simp [trigger])) (by decide) (by decide)
  case refine_6 =>
    intro dt g s idle members signals band trigger room
    have result := State.armResult_sampled idle members signals band
    exact arm_refused dt (result.trans (by simp [trigger, room])) (by decide) (by decide)
  case refine_7 =>
    intro dt g s idle members signals band trigger room clock
    have result := State.armResult_sampled idle members signals band
    exact arm_refused dt (result.trans (by simp [State.flag, trigger, room, clock])) (by decide) (by decide)
  case refine_8 =>
    intro dt g s idle members signals band trigger room clock busy
    have lit : ¬ ((s.get (ACQ_GCFG_SRC g) = 5 ∨ s.flag (ACQ_GCFG_WOUTEN g) = true) ∧ (!s.flag ACQ_WST_CLKOK) = true) := fun ⟨watched, dark⟩ => by
      have bit : s.get ACQ_WST_CLKOK < 2 := s.get_lt _
      have off : s.get ACQ_WST_CLKOK ≠ 1 := by simpa [State.flag] using dark
      exact clock ⟨by simpa [State.flag] using watched, by omega⟩
    have result := State.armResult_sampled idle members signals band
    rw [if_neg lit] at result
    exact arm_refused dt (result.trans (by simp [State.flag, trigger, room, busy])) (by decide) (by decide)
  case refine_9 => exact fun dt g s result asleep => arm_asleep dt result asleep
  case refine_10 =>
    intro dt g s state
    obtain ⟨u, run, idle, gone, freed, frame⟩ := disarm_waiting dt g s (by omega)
    exact ⟨u, run, idle, gone, freed, frame⟩
  case refine_11 => exact fun dt g s state => disarm_triggered dt g s state
  case refine_12 =>
    intro dt g s idle
    refine ⟨(s.elapse dt).forgetWake g, congrArg Host.Outcome.next (State.disarmGroup_idle (s := s.elapse dt) idle), ?_, rfl, ?_⟩
    · exact List.filter_congr fun x _ => by by_cases same : x = g <;> simp [same]
    · exact (OnlyChanges.elapse dt s (by decide) (by decide)).after (State.onAcq_keeps (m := [.acq]) (Keeps.refl _ _) (by decide)) (by decide)
  case refine_13 =>
    exact fun dt g s idle => ⟨s.elapse dt, congrArg Host.Outcome.next (if_pos (c := (s.elapse dt).get (ACQ_GST_STATE g) = 0) idle), rfl⟩
  case refine_14 =>
    intro dt g s armed
    refine ⟨(s.elapse dt).onAcqGroup g fun x => { x with force := true },
      congrArg Host.Outcome.next (if_neg (c := (s.elapse dt).get (ACQ_GST_STATE g) = 0) armed), ?_, fun y other => ?_, ?_⟩
    · rw [State.acqGroup_onAcqGroup_same]
    · exact State.acqGroup_onAcqGroup_ne _ _ fun same => other (Fin.ext same)
    · exact (OnlyChanges.elapse dt s (by decide) (by decide)).after (State.onAcqGroup_keeps (m := [.acq]) (Keeps.refl _ _) (by decide)) (by decide)
  case refine_15 =>
    intro dt g s state due
    refine ⟨((s.elapse dt).put (ACQ_GST_STATE g) 2).onAcqGroup g fun x => { x with armedAt := (s.elapse dt).now },
      congrArg Host.Outcome.next (if_pos (c := (s.elapse dt).get (ACQ_GST_STATE g) = 1 ∧ ((s.elapse dt).acqGroup g).rearmAt ≤ (s.elapse dt).now)
        ⟨state, due⟩), State.get_put_fits _ (ACQ_GST_STATE g) 2 rfl, ?_, ?_⟩
    · rw [State.acqGroup_onAcqGroup_same]
    · exact ((OnlyChanges.elapse dt s (by decide) (by decide)).put 2 (by simp [ACQ_GST_STATE])).after
        (State.onAcqGroup_keeps (m := [.acq]) (Keeps.refl _ _) (by decide)) (by decide)
  case refine_16 =>
    intro dt g s early
    refine ⟨s.elapse dt, congrArg Host.Outcome.next (if_neg (c := (s.elapse dt).get (ACQ_GST_STATE g) = 1 ∧
      ((s.elapse dt).acqGroup g).rearmAt ≤ (s.elapse dt).now) fun ⟨state, due⟩ => ?_), rfl⟩
    exact early.elim (absurd state) (not_lt.mpr due)
  case refine_17 =>
    intro dt who r s low high nobody
    have frame := ((s.elapse dt).giveBack_keeps r).onlyChanges []
    refine ⟨(s.elapse dt).giveBack r, release_closed dt who r s low high nobody, ?_, fun i => ((s.elapse dt).giveBack_slots r i).1,
      fun i => ((s.elapse dt).giveBack_slots r i).2, State.showPool_sum _, (OnlyChanges.of_elapse frame).mono (by decide) (List.Subset.refl _)⟩
    rw [State.rd_giveBack_desc]
  case refine_18 => exact fun dt who r g s low high waits alone _ => release_retried dt who r g s low high waits alone
  case refine_19 =>
    intro dt who r s status
    refine ⟨(s.elapse dt).accessError who 4 ACQ_REL r, congrArg Host.Outcome.next (State.releaseRecord_other (s := s.elapse dt) who status), rfl, fun y => ?_⟩
    have desc := ACQ_RD_range y 0
    exact (State.accessError_keeps (Keeps.refl [.reg .err, .bus, .log] (s.elapse dt)) (by decide)).rd (b := .acq) (by decide)
      (by simp only [Block.num]; omega)

end Sys2Proof.Machine
end

section
/-! SUPPORT. What the end of the enabled states of one axis leaves to the other axes, and to the rest of the PWM (R122, R125, R284, R294). -/

namespace Sys2Proof.Machine

/-! ### The PWM of one axis -/

/-- What the PWM holds beside its generators. -/
def State.pwmRest (s : State) : Pwm := { s.pwm with axis := [] }

/-- From `s` to `t` nothing of the PWM changes but the generator of local axis `n` with its status, period and staging words, and FLT of
that status stays. -/
structure OwnPwm (n : Nat) (s t : State) : Prop where
  words : ∀ w, w / 0x1000000 = 0x16 → w ∉ [PWM_AXST n, PWM_PER n, PWM_STG n] → t.rd w = s.rd w
  fault : t.get (PWM_AXST_FLT n) = s.get (PWM_AXST_FLT n)
  rest : t.pwmRest = s.pwmRest

section
variable {n : Nat} {s t u : State}

theorem OwnPwm.refl (n : Nat) (s : State) : OwnPwm n s s := ⟨fun _ _ _ => rfl, rfl, rfl⟩

theorem OwnPwm.trans (h : OwnPwm n s t) (g : OwnPwm n t u) : OwnPwm n s u :=
  ⟨fun w block own => (g.words w block own).trans (h.words w block own), g.fault.trans h.fault, g.rest.trans h.rest⟩

/-- An operation that keeps the PWM. -/
theorem Keeps.ownPwm {m : List Part} (h : Keeps m s t) (hr : Part.reg .pwm ∉ m) (hp : Part.pwm ∉ m) (n : Nat) : OwnPwm n s t :=
  ⟨fun _ block _ => h.rd hr block, h.get hr (PWM_AXST_FLT_blk n), by rw [State.pwmRest, State.pwmRest, show t.pwm = s.pwm from h.same .pwm hp]⟩

theorem OwnPwm.onPax (n a : Nat) (s : State) (f : PwmAxis → PwmAxis) : OwnPwm n s (s.onPax a f) := ⟨fun _ _ _ => rfl, rfl, rfl⟩

theorem State.gatesOff_own (n a delay : Nat) (s : State) : OwnPwm n s (s.gatesOff a delay) :=
  (OwnPwm.onPax n a s _).trans (.onPax n a _ _)

theorem OwnPwm.put (n : Nat) (s : State) {f : Fld} (v : Nat) (hf : f.addr = PWM_AXST n) (apart : fldApart f (PWM_AXST_FLT n) = true) :
    OwnPwm n s (s.put f v) := by
  refine ⟨fun w _ own => s.rd_put_ne f v (hf ▸ ?_), s.get_put_apart v apart, rfl⟩
  simp only [List.mem_cons, not_or] at own
  exact own.1

theorem OwnPwm.mark (n : Nat) (s : State) {f : Fld} (b : Bool) (hf : f.addr = PWM_AXST n) (apart : fldApart f (PWM_AXST_FLT n) = true) :
    OwnPwm n s (s.mark f b) := .put n s (b2n b) hf apart

theorem OwnPwm.wr (n : Nat) (s : State) {a : Nat} (v : Nat) (ha : a ∈ [PWM_PER n, PWM_STG n]) : OwnPwm n s (s.wr a v) := by
  have other : (PWM_AXST_FLT n).addr ≠ a := by
    simp only [List.mem_cons, List.not_mem_nil, or_false, PWM_PER, PWM_STG] at ha
    simp only [PWM_AXST_FLT, PWM_AXST]
    omega
  exact ⟨fun w _ own => s.rd_wr_ne v fun same => own (same ▸ List.mem_cons_of_mem _ ha), s.get_wr_ne _ v other, rfl⟩

theorem State.pwmOff_own (n : Nat) (s : State) : OwnPwm n s (s.pwmOff n) := by
  have gates : OwnPwm n s ((s.gatesTurnOff n 0).onPax n fun x =>
      { x with applied := none, committed := none, stage := [], arming := false, cut := false, off := false, highDue := [] }) :=
    (OwnPwm.onPax n n s _).trans (.onPax n n _ _)
  have shown := ((((gates.trans (.mark n _ (f := PWM_AXST_EN n) false rfl rfl)).trans (.mark n _ (f := PWM_AXST_TRIPIN n) false rfl rfl)).trans
    (.wr n _ (a := PWM_PER n) 0 (by simp))).trans (.wr n _ (a := PWM_STG n) 0 (by simp)))
  exact (shown.trans (.put n _ (f := PWM_AXST_SAFE n) _ rfl rfl)).trans (.mark n _ (f := PWM_AXST_GENOK n) _ rfl rfl)

theorem State.leaveEnabled_own (n : Nat) (s : State) : OwnPwm n s (s.leaveEnabled n) := by
  by_cases hn : n < 32
  · obtain ⟨t, keeps, -, eq⟩ := s.leaveEnabled_eq hn
    have marked := State.mark_keeps (v := false) (PRF_AXST_SDPEND_blk n) (Keeps.refl [.reg .prf] t) (by decide)
    rw [eq]
    exact ((keeps.ownPwm (by decide) (by decide) n).trans (marked.ownPwm (by decide) (by decide) n)).trans (State.pwmOff_own n _)
  · rw [State.leaveEnabled, if_pos (by omega)]
    exact .refl n s

theorem State.setBrake_own (n m : Nat) (b : Bool) (s : State) : OwnPwm n s (s.setBrake m b) :=
  (State.setBrake_keeps (Keeps.refl [.reg .dio, .axes] s) (by decide)).ownPwm (by decide) (by decide) n

theorem State.dropMotion_own (n m : Nat) (s : State) : OwnPwm n s (s.dropMotion m) :=
  (State.dropMotion_keeps (Keeps.refl [.reg .prf, .reg .fbk, .prf, .probes] s) (by decide)).ownPwm (by decide) (by decide) n

theorem State.onAxis_own (n m : Nat) (f : Axis → Axis) (s : State) : OwnPwm n s (s.onAxis m f) := ⟨fun _ _ _ => rfl, rfl, rfl⟩

theorem State.masterLost_own (n : Nat) (p : Nat → Bool) (s : State) : OwnPwm n s (s.masterLost p) :=
  (State.masterLost_keeps (Keeps.refl [.reg .prf, .reg .eng, .reg .knl, .reg .que, .reg .err, .sets, .bulk, .log, .knl, .que, .prf] s)
    (by decide)).ownPwm (by decide) (by decide) n

theorem State.torqueOff_own (n code : Nat) (s : State) : OwnPwm n s (s.torqueOff n code) :=
  (((State.onAxis_own n n _ s).trans (State.setBrake_own n n true _)).trans (State.leaveEnabled_own n _)).trans (State.dropMotion_own n n _)

theorem State.spreadFault_own (n m : Nat) (s : State) : OwnPwm n s (s.spreadFault m) := by
  obtain ⟨t, p, keeps, eq⟩ := s.spreadFault_eq m
  rw [eq]
  exact (keeps.ownPwm (by decide) (by decide) n).trans (State.masterLost_own n p t)

theorem State.faultWith_own (s : State) (n : Nat) {cause : Nat} (sub src code : Nat) (defer : Bool) (hc : cause ≤ 7) :
    OwnPwm n s (s.faultWith n cause sub src code defer) := by
  obtain ⟨w, begins, h⟩ := s.faultWith_cases n sub src code defer hc
  have begun := begins.keeps.ownPwm (by decide) (by decide) n
  rcases h with eq | eq | ⟨-, eq | eq⟩ <;> rw [eq]
  · exact begun
  · exact begun.trans (State.spreadFault_own n n w)
  · exact begun.trans (State.torqueOff_own n code w)
  · exact (begun.trans (State.spreadFault_own n n w)).trans (State.torqueOff_own n code _)

end

/-! ### The status of the other axes -/

/-- From `s` to `t` axis `k` has at most begun to stop when it was coupled: the rest of its status and what it holds are the same. -/
structure AxisDrift (k : Nat) (s t : State) : Prop where
  state : t.axState k = s.axState k ∨ (s.axState k = 4 ∧ t.axState k = 3)
  rest : ∀ f : Fld, f.addr = PRF_AXST k → 3 ≤ f.lo → f.lo + f.width ≤ 32 → t.get f = s.get f
  held : t.axis k = s.axis k

section
variable {k n : Nat} {s t u : State}

theorem AxisDrift.of_rd (h : t.rd (PRF_AXST k) = s.rd (PRF_AXST k)) (held : t.axis k = s.axis k) : AxisDrift k s t := by
  have field (f : Fld) (hf : f.addr = PRF_AXST k) : t.get f = s.get f := by rw [State.get, State.get, hf, h]
  exact ⟨.inl (field _ rfl), fun f hf _ _ => field f hf, held⟩

theorem AxisDrift.trans (h : AxisDrift k s t) (g : AxisDrift k t u) : AxisDrift k s u := by
  refine ⟨?_, fun f hf lo hi => (g.rest f hf lo hi).trans (h.rest f hf lo hi), g.held.trans h.held⟩
  have := h.state
  have := g.state
  omega

theorem AxisDrift.refl (k : Nat) (s : State) : AxisDrift k s s := .of_rd rfl rfl

theorem Keeps.axisDrift {m : List Part} (h : Keeps m s t) (hr : Part.reg .prf ∉ m) (ha : Part.axes ∉ m) (k : Nat) : AxisDrift k s t :=
  .of_rd (h.rd hr (PRF_AXST_blk k).1) (h.axis ha k)

/-- A drift does not end the enabled states. -/
theorem AxisDrift.enabled (h : AxisDrift k s t) (en : s.enabled k = true) : t.enabled k = true := by
  have react := h.rest (PRF_AXST_REACT k) rfl (Nat.le_of_ble_eq_true rfl) (Nat.le_of_ble_eq_true rfl)
  have stop := h.rest (PRF_AXST_STOPTO k) rfl (Nat.le_of_ble_eq_true rfl) (Nat.le_of_ble_eq_true rfl)
  have state := h.state
  simp only [State.enabled, State.rampFault, State.flag, Bool.or_eq_true, Bool.and_eq_true, decide_eq_true_eq, beq_iff_eq] at en ⊢
  rw [react, stop, h.held]
  rcases en with ⟨low, high⟩ | ramp
  · exact .inl (by omega)
  · exact .inr (by
      have fault : t.axState k = 6 := by
        have six := ramp.1.1.1
        omega
      rw [fault]
      exact ⟨⟨⟨rfl, ramp.1.1.2⟩, ramp.1.2⟩, ramp.2⟩)

theorem State.axis_onAxis_ne (s : State) (f : Axis → Axis) (h : k ≠ n) : (s.onAxis n f).axis k = s.axis k := tabGet_tabSet_ne _ _ _ h

theorem AxisDrift.onAxis (s : State) (f : Axis → Axis) (h : k ≠ n) : AxisDrift k s (s.onAxis n f) := .of_rd rfl (s.axis_onAxis_ne f h)

theorem State.decoupleStop_axisDrift (s : State) (n reason tag : Nat) (d j : Option Int) (k : Nat) :
    AxisDrift k s (s.decoupleStop n reason tag d j) := by
  have held : (s.decoupleStop n reason tag d j).axis k = s.axis k :=
    (State.decoupleStop_keeps (Keeps.refl [.reg .prf, .reg .eng, .reg .knl, .reg .que, .reg .err, .sets, .bulk, .log, .knl, .que, .prf] s)
      (by decide)).axis (by decide) k
  refine ⟨(s.decoupleStop_statusDrift n reason tag d j k).state, fun f hf lo hi => ?_, held⟩
  have quiet : Quiet f.addr := hf ▸ quiet_PRF_AXST k
  have word {t u : State} (h : u.rd f.addr = t.rd f.addr) : u.get f = t.get f := congrArg (fldOf f) h
  unfold State.decoupleStop
  split
  · rfl
  · dsimp only
    refine (word (quiet.rd_setMode n 7 tag)).trans ((?_ : _ = State.get _ f).trans (word (quiet.rd_uncouple n reason tag)))
    split
    · by_cases same : f.addr = PRF_AXST n
      · exact State.get_enter_other _ n 3 same lo hi
      · exact word (quiet.rd_enter same 3)
    · rfl

theorem State.masterLost_axisDrift (s : State) (p : Nat → Bool) (k : Nat) : AxisDrift k s (s.masterLost p) := by
  unfold State.masterLost
  generalize (below 256 fun m => match (s.mot m).cpl with | some c => p c.master | none => false) = slaves
  induction slaves generalizing s with
  | nil => exact .refl k s
  | cons m l ih => exact (s.decoupleStop_axisDrift m 1 _ none none k).trans (ih _)

theorem State.setBrake_axisDrift (s : State) (b : Bool) (h : k ≠ n) : AxisDrift k s (s.setBrake n b) := by
  have keeps : Keeps [.reg .dio] (s.onAxis n fun x => { x with braked := b }) (s.setBrake n b) :=
    keeps_ite (fun _ => State.setBit64_keeps DIO_OUT_blk (Keeps.refl _ _) (by decide)) fun _ => Keeps.refl _ _
  exact (AxisDrift.onAxis s _ h).trans (keeps.axisDrift (by decide) (by decide) k)

theorem State.leaveEnabled_axisDrift (s : State) (h : PRF_AXST k ≠ PRF_AXST n) : AxisDrift k s (s.leaveEnabled n) := by
  by_cases hn : n < 32
  · obtain ⟨t, keeps, -, eq⟩ := s.leaveEnabled_eq hn
    have off := (State.pwmOff_keeps (a := n) (Keeps.refl [.reg .pwm, .pwm] (t.mark (PRF_AXST_SDPEND n) false)) (by decide))
    rw [eq]
    exact ((keeps.axisDrift (by decide) (by decide) k).trans (.of_rd (t.rd_put_ne (PRF_AXST_SDPEND n) _ h) rfl)).trans
      (off.axisDrift (by decide) (by decide) k)
  · rw [State.leaveEnabled, if_pos (by omega)]
    exact .refl k s

theorem State.dropMotion_axisDrift (s : State) (n k : Nat) : AxisDrift k s (s.dropMotion n) :=
  .of_rd ((quiet_PRF_AXST k).rd_dropMotion n)
    ((State.dropMotion_keeps (Keeps.refl [.reg .prf, .reg .fbk, .prf, .probes] s) (by decide)).axis (by decide) k)

theorem State.torqueOff_axisDrift (s : State) (code : Nat) (h : PRF_AXST k ≠ PRF_AXST n) : AxisDrift k s (s.torqueOff n code) := by
  have other : k ≠ n := fun same => h (same ▸ rfl)
  exact (((AxisDrift.onAxis s _ other).trans (State.setBrake_axisDrift _ true other)).trans (State.leaveEnabled_axisDrift _ h)).trans
    (State.dropMotion_axisDrift _ n k)

theorem State.enter_axisDrift (s : State) (st : Nat) (h : PRF_AXST k ≠ PRF_AXST n) : AxisDrift k s (s.enter n st) :=
  .of_rd ((quiet_PRF_AXST k).rd_enter h st) ((State.enter_keeps (Keeps.refl [.reg .prf, .reg .eng, .reg .knl, .knl] s) (by decide)).axis (by decide) k)

/-- R122: what leaves the enabled states of axis `n` for DISABLED does, before its motion ends. -/
def State.disabling (n why : Nat) (s : State) : State :=
  ((((s.enter n 0).put (PRF_AXST_LASTOFF n) why).setBrake n true).leaveEnabled n).onAxis n fun x =>
    { x with disabling := false, brakeDue := none, enStep := 0, ssCount := 0, wdogIn := none, moved := if why = 3 then 1 else x.moved }

theorem State.toDisabled_eq (s : State) (n why : Nat) : s.toDisabled n why =
    ((s.disabling n why).dropMotion n).masterLost fun sel => sel == n || (sel == 0x1000 + n && n < 32) := rfl

theorem State.toDisabled_axisDrift (s : State) (why : Nat) (h : PRF_AXST k ≠ PRF_AXST n) : AxisDrift k s (s.toDisabled n why) := by
  have other : k ≠ n := fun same => h (same ▸ rfl)
  have off := (((s.enter_axisDrift 0 h).trans (.of_rd (State.rd_put_ne _ (PRF_AXST_LASTOFF n) why h) rfl)).trans
    (State.setBrake_axisDrift _ true other)).trans (State.leaveEnabled_axisDrift _ h)
  have disabled : AxisDrift k s (s.disabling n why) := off.trans (.onAxis _ _ other)
  rw [State.toDisabled_eq]
  exact (disabled.trans (State.dropMotion_axisDrift _ n k)).trans (State.masterLost_axisDrift _ _ k)

theorem State.toDisabled_own (s : State) (n why : Nat) : OwnPwm n s (s.toDisabled n why) := by
  have entered : Keeps [.reg .prf, .reg .eng, .reg .knl, .knl] s ((s.enter n 0).put (PRF_AXST_LASTOFF n) why) :=
    State.put_keeps (PRF_AXST_LASTOFF_blk n) (State.enter_keeps (Keeps.refl _ s) (by decide)) (by decide)
  have off := ((entered.ownPwm (by decide) (by decide) n).trans (State.setBrake_own n n true _)).trans (State.leaveEnabled_own n _)
  have disabled : OwnPwm n s (s.disabling n why) := off.trans (State.onAxis_own n n _ _)
  rw [State.toDisabled_eq]
  exact (disabled.trans (State.dropMotion_own n n _)).trans (State.masterLost_own n _ _)

/-! ### An axis that is disabled -/

/-- Axis `k` is DISABLED for the reason `why`. -/
structure Disabled (k why : Nat) (t : State) : Prop where
  state : t.axState k = 0
  lastoff : t.get (PRF_AXST_LASTOFF k) = why

theorem Disabled.drift {why : Nat} (h : Disabled k why s) (d : AxisDrift k s t) : Disabled k why t := by
  refine ⟨?_, (d.rest _ rfl (Nat.le_of_ble_eq_true rfl) (Nat.le_of_ble_eq_true rfl)).trans h.lastoff⟩
  have := d.state
  have := h.state
  omega

/-- The status of its own axis, but for SDPEND, while it leaves the enabled states. -/
theorem State.get_leaveEnabled_own (s : State) (n : Nat) {f : Fld} (hf : f.addr = PRF_AXST n) (apart : fldApart (PRF_AXST_SDPEND n) f = true) :
    (s.leaveEnabled n).get f = s.get f := by
  by_cases hn : n < 32
  · obtain ⟨t, keeps, -, eq⟩ := s.leaveEnabled_eq hn
    have block : InBlk .prf f.addr := hf ▸ PRF_AXST_blk n
    have off := (State.pwmOff_keeps (a := n) (Keeps.refl [.reg .pwm, .pwm] (t.mark (PRF_AXST_SDPEND n) false)) (by decide))
    rw [eq, off.get (by decide) block, State.get_mark_apart _ _ apart, keeps.get (by decide) block]
  · rw [State.leaveEnabled, if_pos (by omega)]

theorem State.toDisabled_disabled (s : State) (n : Nat) {why : Nat} (h : why < 8) : Disabled n why (s.toDisabled n why) := by
  set t := ((s.enter n 0).put (PRF_AXST_LASTOFF n) why).setBrake n true with entered
  have brake {f : Fld} (hf : f.addr = PRF_AXST n) : t.get f = ((s.enter n 0).put (PRF_AXST_LASTOFF n) why).get f :=
    (State.setBrake_keeps (Keeps.refl [.reg .dio, .axes] _) (by decide)).get (by decide) (hf ▸ PRF_AXST_blk n)
  have begun : Disabled n why (t.leaveEnabled n) := by
    refine ⟨(t.get_leaveEnabled_own n rfl rfl).trans ((brake rfl).trans ?_), (t.get_leaveEnabled_own n rfl rfl).trans ((brake rfl).trans ?_)⟩
    · exact (State.get_put_apart _ why rfl).trans (s.axState_enter n (by decide))
    · exact (State.get_put_fits _ (PRF_AXST_LASTOFF n) why rfl).trans (Nat.mod_eq_of_lt h)
  have disabled : Disabled n why (s.disabling n why) := ⟨begun.state, begun.lastoff⟩
  rw [State.toDisabled_eq]
  exact (disabled.drift (State.dropMotion_axisDrift _ n n)).drift (State.masterLost_axisDrift _ _ n)

/-- The PWM of a local axis that leaves the enabled states is disabled. -/
theorem State.get_EN_leaveEnabled (s : State) {n : Nat} (hn : n < 32) : (s.leaveEnabled n).get (PWM_AXST_EN n) = 0 := by
  obtain ⟨t, -, -, eq⟩ := s.leaveEnabled_eq hn
  rw [eq]
  exact State.get_EN_pwmOff _ n

theorem State.get_EN_toDisabled (s : State) {n : Nat} (hn : n < 32) (why : Nat) : (s.toDisabled n why).get (PWM_AXST_EN n) = 0 := by
  have lost := State.masterLost_keeps (p := fun sel => sel == n || (sel == 0x1000 + n && n < 32))
    (State.dropMotion_keeps (n := n) (Keeps.refl [.reg .prf, .reg .eng, .reg .fbk, .reg .knl, .reg .que, .reg .err, .sets, .bulk, .log, .knl, .que,
      .prf, .probes] (s.disabling n why)) (by decide)) (by decide)
  have off : (s.disabling n why).get (PWM_AXST_EN n) = 0 := State.get_EN_leaveEnabled _ hn
  rw [State.toDisabled_eq]
  exact (lost.get (by decide) (PWM_AXST_EN_blk n)).trans off

end

end Sys2Proof.Machine
end

section
/-! SUPPORT. Several axes that lose their gates together (R299, R301, R302). -/

namespace Sys2Proof.Machine

/-! ### One axis -/

/-- Axis `k` is in FAULT with `cause` latched and reaction 0x0, and its PWM is disabled. -/
structure Lost (k cause : Nat) (t : State) : Prop extends Latched k cause t where
  off : t.get (PWM_AXST_EN k) = 0

section
variable {n k cause : Nat} {s t : State}

theorem PWM_AXST_not_own {k n : Nat} (hk : k < 32) (hn : n < 32) (h : k ≠ n) : PWM_AXST k ∉ [PWM_AXST n, PWM_PER n, PWM_STG n] := by
  simp only [List.mem_cons, List.not_mem_nil, or_false, PWM_AXST, PWM_PER, PWM_STG]
  omega

/-- The status of the PWM of another axis. -/
theorem OwnPwm.get_other (h : OwnPwm n s t) (hk : k < 32) (hn : n < 32) (other : k ≠ n) {f : Fld} (hf : f.addr = PWM_AXST k) : t.get f = s.get f :=
  congrArg (fldOf f) (h.words f.addr (hf ▸ (PWM_AXST_blk k).1) (hf ▸ PWM_AXST_not_own hk hn other))

/-- A flag that is not set is 0. -/
theorem State.get_of_flag {f : Fld} (w : f.width = 1) (h : s.flag f ≠ true) : s.get f = 0 := by
  have bit := s.get_lt f
  rw [w] at bit
  have not : s.get f ≠ 1 := fun one => h ((s.flag_iff f).mpr one)
  omega

theorem State.endDeferred_cases (s : State) (n : Nat) : s.endDeferred n = s ∧ s.get (PWM_AXST_EN n) = 0 ∨ s.endDeferred n = s.torqueOff n 5 := by
  unfold State.endDeferred
  split_ifs with en
  · exact .inr rfl
  · exact .inl ⟨rfl, s.get_of_flag rfl en⟩

theorem State.endDeferred_own (s : State) (n : Nat) : OwnPwm n s (s.endDeferred n) := by
  rcases s.endDeferred_cases n with ⟨eq, -⟩ | eq <;> rw [eq]
  · exact .refl n s
  · exact State.torqueOff_own n 5 s

theorem State.get_EN_endDeferred (s : State) (hn : n < 32) : (s.endDeferred n).get (PWM_AXST_EN n) = 0 := by
  rcases s.endDeferred_cases n with ⟨eq, off⟩ | eq <;> rw [eq]
  · exact off
  · exact (s.torqueOff_off hn 5).enabled

theorem State.endDeferred_statusDrift (s : State) (n k : Nat) : StatusDrift k s (s.endDeferred n) := by
  rcases s.endDeferred_cases n with ⟨eq, -⟩ | eq <;> rw [eq]
  · exact .refl k s
  · exact s.torqueOff_statusDrift n 5 k

theorem State.endDeferred_axisDrift (s : State) (h : PRF_AXST k ≠ PRF_AXST n) : AxisDrift k s (s.endDeferred n) := by
  rcases s.endDeferred_cases n with ⟨eq, -⟩ | eq <;> rw [eq]
  · exact .refl k s
  · exact s.torqueOff_axisDrift 5 h

theorem State.hardFault_cases (s : State) (n cause sub src code : Nat) :
    s.hardFault n cause sub src code = s.faultWith n cause sub src code false ∧ (s.hardFault n cause sub src code).get (PWM_AXST_EN n) = 0 ∨
      s.hardFault n cause sub src code = (s.faultWith n cause sub src code false).torqueOff n code := by
  unfold State.hardFault
  dsimp only
  split_ifs with driven
  · exact .inr rfl
  · exact .inl ⟨rfl, State.get_of_flag rfl fun en => driven (by rw [en, Bool.true_or])⟩

variable (sub src code : Nat)

theorem State.hardFault_own (s : State) (n : Nat) (hc : cause ≤ 7) : OwnPwm n s (s.hardFault n cause sub src code) := by
  have fault := s.faultWith_own n sub src code false hc
  rcases s.hardFault_cases n cause sub src code with ⟨eq, -⟩ | eq <;> rw [eq]
  · exact fault
  · exact fault.trans (State.torqueOff_own n code _)

theorem State.get_EN_hardFault (s : State) (hn : n < 32) (cause : Nat) : (s.hardFault n cause sub src code).get (PWM_AXST_EN n) = 0 := by
  rcases s.hardFault_cases n cause sub src code with ⟨-, off⟩ | eq
  · exact off
  · rw [eq]
    exact (State.torqueOff_off _ hn code).enabled

theorem State.hardFault_statusDrift (s : State) (h : PRF_AXST k ≠ PRF_AXST n) (hc : cause ≤ 7) :
    StatusDrift k s (s.hardFault n cause sub src code) := by
  have fault := s.faultWith_statusDrift h sub src code false hc
  rcases s.hardFault_cases n cause sub src code with ⟨eq, -⟩ | eq <;> rw [eq]
  · exact fault
  · exact fault.trans (State.torqueOff_statusDrift _ n code k)

/-- R298, R301, R302: a fault that takes the gates away latches its cause with reaction 0x0. -/
theorem State.hardFault_latches (s : State) (live : 1 ≤ s.axState n ∧ s.axState n ≤ 5) (hc : cause ≤ 7) :
    Latched n cause (s.hardFault n cause sub src code) := by
  have fault := s.faultWith_latches sub src code false live hc
  rcases s.hardFault_cases n cause sub src code with ⟨eq, -⟩ | eq <;> rw [eq]
  · exact fault
  · exact fault.drift (State.torqueOff_statusDrift _ n code n)

theorem State.loseGates_own (s : State) (n : Nat) (hc : cause ≤ 7) : OwnPwm n s (s.loseGates n cause src code) := by
  unfold State.loseGates
  split_ifs
  · exact s.hardFault_own 0 src code n hc
  · exact s.endDeferred_own n

theorem State.get_EN_loseGates (s : State) (hn : n < 32) (cause : Nat) : (s.loseGates n cause src code).get (PWM_AXST_EN n) = 0 := by
  unfold State.loseGates
  split_ifs
  · exact s.get_EN_hardFault 0 src code hn cause
  · exact s.get_EN_endDeferred hn

theorem State.loseGates_statusDrift (s : State) (h : PRF_AXST k ≠ PRF_AXST n) (hc : cause ≤ 7) :
    StatusDrift k s (s.loseGates n cause src code) := by
  unfold State.loseGates
  split_ifs
  · exact s.hardFault_statusDrift 0 src code h hc
  · exact s.endDeferred_statusDrift n k

/-- An axis in the enabled states is lost; one that was stays so. -/
theorem State.loseGates_lost (s : State) (hn : n < 32) (hc : cause ≤ 7) (h : (1 ≤ s.axState n ∧ s.axState n ≤ 5) ∨ Latched n cause s) :
    Lost n cause (s.loseGates n cause src code) := by
  refine ⟨?_, s.get_EN_loseGates src code hn cause⟩
  unfold State.loseGates
  rcases h with live | latched
  · rw [if_pos (by simp [State.enabled, live])]
    exact s.hardFault_latches 0 src code live hc
  · rw [latched.enabled]
    exact latched.drift (s.endDeferred_statusDrift n n)

end

/-! ### Several axes -/

/-- The axes `l` lose their gates by `cause`. -/
def State.loseAll (l : List Nat) (cause : Nat) (src : Nat → Nat) (code : Nat) (s : State) : State :=
  l.foldl (fun s a => s.loseGates a cause (src a) code) s

section
variable {cause : Nat} (src : Nat → Nat) (code : Nat) {l : List Nat}

/-- R301, R302: every axis of a list in the enabled states is in FAULT with `cause` after all have lost their gates. -/
theorem State.loseAll_lost (hl : ∀ n ∈ l, n < 32) {k : Nat} (hk : k < 32) (hc : cause ≤ 7) (s : State)
    (h : (k ∈ l ∧ 1 ≤ s.axState k ∧ s.axState k ≤ 5) ∨ Lost k cause s) : Lost k cause (s.loseAll l cause src code) := by
  induction l generalizing s with
  | nil => simpa [State.loseAll] using h
  | cons n l ih =>
    have small := hl n List.mem_cons_self
    refine ih (fun m hm => hl m (List.mem_cons_of_mem n hm)) (s.loseGates n cause (src n) code) ?_
    by_cases same : k = n
    · subst same
      exact .inr (s.loseGates_lost (src k) code hk hc (h.imp (fun listed => listed.2) fun lost => lost.toLatched))
    · have drift := s.loseGates_statusDrift (src n) code (fun e => same (PRF_AXST_injective (by omega) (by omega) e)) hc (k := k)
      have status := (s.loseGates_own (src n) code n hc).get_other hk small same (f := PWM_AXST_EN k) rfl
      rcases h with ⟨listed, live⟩ | lost
      · refine .inl ⟨(List.mem_cons.mp listed).resolve_left same, ?_⟩
        have := drift.state
        omega
      · exact .inr ⟨lost.toLatched.drift drift, status.trans lost.off⟩

/-- The words of the PWM that no single axis owns, and what the PWM holds beside its generators. -/
structure SharedPwm (s t : State) : Prop where
  words : ∀ w, w / 0x1000000 = 0x16 → (w < 0x16001000 ∨ 0x16002000 ≤ w) → t.rd w = s.rd w
  rest : t.pwmRest = s.pwmRest

theorem SharedPwm.refl (s : State) : SharedPwm s s := ⟨fun _ _ _ => rfl, rfl⟩

theorem SharedPwm.trans {s t u : State} (h : SharedPwm s t) (g : SharedPwm t u) : SharedPwm s u :=
  ⟨fun w block shared => (g.words w block shared).trans (h.words w block shared), g.rest.trans h.rest⟩

theorem OwnPwm.shared {n : Nat} {s t : State} (h : OwnPwm n s t) : SharedPwm s t := by
  refine ⟨fun w block shared => h.words w block ?_, h.rest⟩
  simp only [List.mem_cons, List.not_mem_nil, or_false, PWM_AXST, PWM_PER, PWM_STG]
  omega

theorem SharedPwm.foldl {α : Type} {f : State → α → State} (h : ∀ s x, SharedPwm s (f s x)) (l : List α) (s : State) : SharedPwm s (l.foldl f s) := by
  induction l generalizing s with
  | nil => exact .refl s
  | cons x l ih => exact (h s x).trans (ih _)

theorem SharedPwm.get {s t : State} (h : SharedPwm s t) {f : Fld} (hf : f.addr / 0x1000000 = 0x16)
    (shared : f.addr < 0x16001000 ∨ 0x16002000 ≤ f.addr) : t.get f = s.get f := congrArg (fldOf f) (h.words _ hf shared)

theorem SharedPwm.clkLost {s t : State} (h : SharedPwm s t) : t.pwm.clkLost = s.pwm.clkLost := (congrArg Pwm.clkLost h.rest : t.pwmRest.clkLost = _)
theorem SharedPwm.coreHalt {s t : State} (h : SharedPwm s t) : t.pwm.coreHalt = s.pwm.coreHalt := (congrArg Pwm.coreHalt h.rest : t.pwmRest.coreHalt = _)
theorem SharedPwm.genA {s t : State} (h : SharedPwm s t) : t.pwm.genA = s.pwm.genA := (congrArg Pwm.genA h.rest : t.pwmRest.genA = _)
theorem SharedPwm.genB {s t : State} (h : SharedPwm s t) : t.pwm.genB = s.pwm.genB := (congrArg Pwm.genB h.rest : t.pwmRest.genB = _)

theorem State.loseAll_shared (l : List Nat) (hc : cause ≤ 7) (s : State) : SharedPwm s (s.loseAll l cause src code) :=
  .foldl (fun s a => (s.loseGates_own (src a) code a hc).shared) l s

end

/-! ### The safe state that is shown -/

/-- SAFE and GENOK of the axes `l` are shown. -/
def State.showAll (l : List Nat) (s : State) : State := l.foldl (fun s a => s.showSafe a) s

section
variable {s : State}

theorem State.showSafe_own (s : State) (n : Nat) : OwnPwm n s (s.showSafe n) :=
  (OwnPwm.put n s (f := PWM_AXST_SAFE n) _ rfl rfl).trans (.mark n _ (f := PWM_AXST_GENOK n) _ rfl rfl)

theorem State.showAll_shared (l : List Nat) (s : State) : SharedPwm s (s.showAll l) := .foldl (fun s a => (s.showSafe_own a).shared) l s

theorem State.showAll_keeps (l : List Nat) (s : State) : Keeps [.reg .pwm] s (s.showAll l) :=
  keeps_foldl (fun _ _ h => State.showSafe_keeps h (by decide)) l (Keeps.refl _ s)

theorem State.get_EN_showAll (l : List Nat) (k : Nat) (s : State) : (s.showAll l).get (PWM_AXST_EN k) = s.get (PWM_AXST_EN k) := by
  induction l generalizing s with
  | nil => rfl
  | cons a l ih => exact (ih _).trans (s.get_showSafe a rfl rfl)

/-- R299: both gate enables of axis `k` are high at their lands. -/
def State.genOk (s : State) (k : Nat) : Bool := tabGet false s.pwm.genA (k / 4) && tabGet false s.pwm.genB (k / 4)

theorem State.get_GENOK_showAll {l : List Nat} {k : Nat} (hl : ∀ a ∈ l, a < 32) (hk : k < 32) (s : State)
    (h : k ∈ l ∨ s.get (PWM_AXST_GENOK k) = b2n (s.genOk k)) : (s.showAll l).get (PWM_AXST_GENOK k) = b2n (s.genOk k) := by
  induction l generalizing s with
  | nil => simpa [State.showAll] using h
  | cons a l ih =>
    have same : (s.showSafe a).genOk k = s.genOk k := by
      have shown := (s.showSafe_own a).shared
      rw [State.genOk, State.genOk, shown.genA, shown.genB]
    refine (ih (fun b hb => hl b (List.mem_cons_of_mem a hb)) (s.showSafe a) ?_).trans (congrArg b2n same)
    rw [same]
    by_cases here : k = a
    · subst here
      exact .inr (State.get_mark_fits (s.put (PWM_AXST_SAFE k) (s.safeCode k)) (PWM_AXST_GENOK k) (s.genOk k) rfl rfl)
    · rcases h with listed | ok
      · exact .inl ((List.mem_cons.mp listed).resolve_left here)
      · exact .inr (((s.showSafe_own a).get_other hk (hl a List.mem_cons_self) here rfl).trans ok)

end

end Sys2Proof.Machine
end

section
/-! SUPPORT. Gate enables, lost clocks and debug halts of the PWM (R299, R301, R302, R494). -/

namespace Sys2Proof.Machine

/-! ### Gate enables (R299) -/

/-- The axes of PWM group `g`. -/
def pwmGroup (g : Nat) : List Nat := (List.range 4).map (4 * g + ·)

theorem mem_pwmGroup {g a : Nat} : a ∈ pwmGroup g ↔ a / 4 = g := by
  simp only [pwmGroup, List.mem_map, List.mem_range]
  exact ⟨fun ⟨i, hi, eq⟩ => by omega, fun eq => ⟨a % 4, by omega, by omega⟩⟩

theorem pwmGroup_lt {g a : Nat} (hg : g < 8) (h : a ∈ pwmGroup g) : a < 32 := by
  have group := mem_pwmGroup.mp h
  omega

theorem pwmGroup_nodup (g : Nat) : (pwmGroup g).Nodup := List.nodup_range.map fun i j same => by simpa using same

/-- The levels of GENA and GENB of group `g`, as they are shown. -/
def State.showEnables (g : Nat) (x y : Bool) (s : State) : State :=
  (((s.onPwm fun w => { w with genA := tabSet w.genA g x, genB := tabSet w.genB g y }).mark (PWM_GST_GEN g) (x && y)).mark
    (SAF_GRP_GENAR g) x).mark (SAF_GRP_GENBR g) y

/-- An axis whose group has lost a gate enable, with the instant at which its gates go low. -/
def State.gateLost (d a : Nat) (s : State) : State :=
  let s := if s.flag (PWM_AXST_EN a) then s.gatesOff a d else s
  if s.enabled a then s.toDisabled a 3 else s.endDeferred a

def State.gatesLost (d : Nat) (l : List Nat) (s : State) : State := l.foldl (fun s a => s.gateLost d a) s

section
variable {s : State} {g k n d : Nat} {x y : Bool}

theorem State.gateEnables_high (s : State) (g : Nat) : s.gateEnables g true true = (s.showEnables g true true).showAll (pwmGroup g) := rfl

theorem State.gateEnables_low (s : State) (g : Nat) (h : (x && y) = false) : s.gateEnables g x y =
    (((s.showEnables g x y).drew 1).gatesLost ((s.showEnables g x y).free 81) (pwmGroup g)).showAll (pwmGroup g) := by
  unfold State.gateEnables
  dsimp only
  rw [h]
  unfold State.showEnables
  rw [h]
  rfl

theorem State.showEnables_shows (s : State) (g : Nat) (x y : Bool) :
    (s.showEnables g x y).get (PWM_GST_GEN g) = b2n (x && y) ∧ (s.showEnables g x y).get (SAF_GRP_GENAR g) = b2n x ∧
      (s.showEnables g x y).get (SAF_GRP_GENBR g) = b2n y := by
  have apart : PWM_GST g ≠ SAF_GRP g := by simp only [PWM_GST, SAF_GRP]; omega
  refine ⟨?_, (State.get_mark_apart _ y rfl).trans (State.get_mark_fits _ _ x rfl rfl), State.get_mark_fits _ _ y rfl rfl⟩
  exact (State.get_put_ne _ (SAF_GRP_GENBR g) (PWM_GST_GEN g) _ apart).trans ((State.get_put_ne _ (SAF_GRP_GENAR g) (PWM_GST_GEN g) _ apart).trans
    (State.get_mark_fits _ _ _ rfl rfl))

theorem State.showEnables_keeps (s : State) (g : Nat) (x y : Bool) : Keeps [.pwm, .reg .pwm, .reg .saf] s (s.showEnables g x y) :=
  State.mark_keeps (SAF_GRP_GENBR_blk g) (State.mark_keeps (SAF_GRP_GENAR_blk g) (State.mark_keeps (PWM_GST_GEN_blk g)
    (State.onPwm_keeps (Keeps.refl _ s) (by decide)) (by decide)) (by decide)) (by decide)

theorem State.genOk_showEnables (s : State) (x y : Bool) (h : k / 4 = g) : (s.showEnables g x y).genOk k = (x && y) := by
  have a : tabGet false (s.showEnables g x y).pwm.genA (k / 4) = x := h ▸ tabGet_tabSet_same _ _ _ _
  have b : tabGet false (s.showEnables g x y).pwm.genB (k / 4) = y := h ▸ tabGet_tabSet_same _ _ _ _
  rw [State.genOk, a, b]

theorem State.lowered_keeps (s : State) (d n : Nat) : Keeps [.pwm] s (if s.flag (PWM_AXST_EN n) then s.gatesOff n d else s) :=
  keeps_ite (fun _ => State.gatesOff_keeps (Keeps.refl _ s) (by decide)) fun _ => Keeps.refl _ s

/-- How an axis of the group ends: its gates are low, and it is disabled when it was enabled. -/
theorem State.gateLost_cases (s : State) (d n : Nat) : ∃ t, Keeps [.pwm] s t ∧ OwnPwm n s t ∧
    (s.enabled n = true ∧ s.gateLost d n = t.toDisabled n 3 ∨ s.enabled n = false ∧ s.gateLost d n = t.endDeferred n) := by
  have keeps := s.lowered_keeps d n
  have same := keeps.enabled (by decide) (by decide) n
  refine ⟨_, keeps, ?_, ?_⟩
  · split_ifs
    · exact State.gatesOff_own n n d s
    · exact .refl n s
  · unfold State.gateLost
    dsimp only
    rw [same]
    cases s.enabled n with
    | true => exact .inl ⟨rfl, rfl⟩
    | false => exact .inr ⟨rfl, rfl⟩

theorem State.gateLost_own (s : State) (d n : Nat) : OwnPwm n s (s.gateLost d n) := by
  obtain ⟨t, -, own, ⟨-, eq⟩ | ⟨-, eq⟩⟩ := s.gateLost_cases d n <;> rw [eq]
  · exact own.trans (t.toDisabled_own n 3)
  · exact own.trans (t.endDeferred_own n)

theorem State.gateLost_axisDrift (s : State) (d : Nat) (h : PRF_AXST k ≠ PRF_AXST n) : AxisDrift k s (s.gateLost d n) := by
  obtain ⟨t, keeps, -, ⟨-, eq⟩ | ⟨-, eq⟩⟩ := s.gateLost_cases d n <;> rw [eq]
  · exact (keeps.axisDrift (by decide) (by decide) k).trans (t.toDisabled_axisDrift 3 h)
  · exact (keeps.axisDrift (by decide) (by decide) k).trans (t.endDeferred_axisDrift h)

theorem State.gateLost_disables (d : Nat) (hn : n < 32) (en : s.enabled n = true) :
    Disabled n 3 (s.gateLost d n) ∧ (s.gateLost d n).get (PWM_AXST_EN n) = 0 := by
  obtain ⟨t, -, -, ⟨-, eq⟩ | ⟨off, -⟩⟩ := s.gateLost_cases d n
  · rw [eq]
    exact ⟨t.toDisabled_disabled n (by decide), t.get_EN_toDisabled hn 3⟩
  · rw [en] at off
    simp at off

theorem State.gatesLost_shared (d : Nat) (l : List Nat) (s : State) : SharedPwm s (s.gatesLost d l) :=
  .foldl (fun s a => (s.gateLost_own d a).shared) l s

theorem State.gatesLost_keeps (d : Nat) (l : List Nat) (s : State) : Keeps [.reg .prf, .reg .eng, .reg .csf, .reg .fbk, .reg .pwm, .reg .knl, .reg .que,
    .reg .dio, .reg .err, .sets, .bulk, .log, .knl, .que, .axes, .prf, .pwm, .probes] s (s.gatesLost d l) := by
  refine keeps_foldl (fun t a h => ?_) l (Keeps.refl _ s)
  have lowered := h.trans ((t.lowered_keeps d a).mono (by decide))
  exact keeps_ite (fun _ => State.toDisabled_keeps lowered (by decide)) fun _ => State.endDeferred_keeps lowered (by decide)

/-- An axis that is none of `l`. -/
theorem State.gatesLost_other {l : List Nat} (hl : ∀ a ∈ l, a < 32) (hk : k < 32) (other : k ∉ l) (d : Nat) (s : State) :
    AxisDrift k s (s.gatesLost d l) ∧ (s.gatesLost d l).get (PWM_AXST_EN k) = s.get (PWM_AXST_EN k) := by
  induction l generalizing s with
  | nil => exact ⟨.refl k s, rfl⟩
  | cons a l ih =>
    have small := hl a List.mem_cons_self
    have apart : k ≠ a := fun same => other (same ▸ List.mem_cons_self)
    obtain ⟨drift, en⟩ := ih (fun b hb => hl b (List.mem_cons_of_mem a hb)) (fun hk => other (List.mem_cons_of_mem a hk)) (s.gateLost d a)
    exact ⟨(s.gateLost_axisDrift d fun e => apart (PRF_AXST_injective (by omega) (by omega) e)).trans drift,
      en.trans ((s.gateLost_own d a).get_other hk small apart rfl)⟩

/-- R299: the enabled axes of `l` are disabled. -/
theorem State.gatesLost_disables {l : List Nat} (hl : ∀ a ∈ l, a < 32) (nodup : l.Nodup) (hk : k ∈ l) (d : Nat) (s : State)
    (en : s.enabled k = true) : Disabled k 3 (s.gatesLost d l) ∧ (s.gatesLost d l).get (PWM_AXST_EN k) = 0 := by
  have small := hl k hk
  induction l generalizing s with
  | nil => simp at hk
  | cons a l ih =>
    obtain ⟨fresh, nodup⟩ := List.nodup_cons.mp nodup
    have rest : ∀ b ∈ l, b < 32 := fun b hb => hl b (List.mem_cons_of_mem a hb)
    by_cases same : k = a
    · subst same
      obtain ⟨disabled, off⟩ := State.gateLost_disables d small en
      obtain ⟨drift, still⟩ := State.gatesLost_other rest small fresh d (s.gateLost d k)
      exact ⟨disabled.drift drift, still.trans off⟩
    · have drift := s.gateLost_axisDrift d fun e => same (PRF_AXST_injective (by omega) (by have := hl a List.mem_cons_self; omega) e)
      exact ih rest nodup ((List.mem_cons.mp hk).resolve_left same) (s.gateLost d a) (drift.enabled en)

end

/-! ### Silent auxiliary channels (R301, R302) -/

/-- The channels `l` fall silent. -/
def State.silence (l : List Nat) (s : State) : State := l.foldl (fun s k => (s.gatesOff (32 + k) 0).mark (PWM_AUXST_RUN k) false) s

theorem State.get_RUN_silence (l : List Nat) (k : Nat) (s : State) (h : k ∈ l ∨ s.get (PWM_AUXST_RUN k) = 0) :
    (s.silence l).get (PWM_AUXST_RUN k) = 0 := by
  induction l generalizing s with
  | nil => simpa [State.silence] using h
  | cons j l ih =>
    refine ih ((s.gatesOff (32 + j) 0).mark (PWM_AUXST_RUN j) false) ?_
    rcases h with listed | off
    · rcases List.mem_cons.mp listed with rfl | later
      · exact .inr (State.get_mark_fits (s.gatesOff (32 + k) 0) (PWM_AUXST_RUN k) false rfl rfl)
      · exact .inl later
    · by_cases same : PWM_AUXST k = PWM_AUXST j
      · have field : PWM_AUXST_RUN k = PWM_AUXST_RUN j := by simp only [PWM_AUXST_RUN, same]
        rw [field]
        exact .inr (State.get_mark_fits (s.gatesOff (32 + j) 0) (PWM_AUXST_RUN j) false rfl rfl)
      · exact .inr ((State.get_put_ne (s.gatesOff (32 + j) 0) (PWM_AUXST_RUN j) (PWM_AUXST_RUN k) _ same).trans off)

theorem State.rd_silence (l : List Nat) (s : State) {w : Nat} (h : w < 0x16006000) : (s.silence l).rd w = s.rd w :=
  rd_foldl (fun t k => State.rd_put_ne (t.gatesOff (32 + k) 0) (PWM_AUXST_RUN k) _ (by simp only [PWM_AUXST_RUN, PWM_AUXST]; omega)) l s

theorem State.silence_keeps (l : List Nat) (s : State) : Keeps [.reg .pwm, .pwm] s (s.silence l) :=
  keeps_foldl (fun _ k h => State.mark_keeps (PWM_AUXST_RUN_blk k) (State.gatesOff_keeps h (by decide)) (by decide)) l (Keeps.refl _ s)

theorem State.rest_silence (l : List Nat) (s : State) : (s.silence l).pwmRest = s.pwmRest := by
  induction l generalizing s with
  | nil => rfl
  | cons k l ih => exact ih _

/-! ### The halts in force (R302) -/

/-- HALT of the islands `l`, as the halts in force stand. -/
def State.markHalts (core : Bool) (l : List Nat) (s : State) : State :=
  l.foldl (fun s i => s.mark (PWM_GST_HALT i) (core || s.eng.halted.contains i)) s

theorem State.showHalts_eq (s : State) : s.showHalts = (s.markHalts (s.pwm.coreHalt != []) (List.range 9)).showAll (List.range 32) := rfl

section
variable {s : State} {i : Nat}

theorem State.rd_markHalts (core : Bool) (l : List Nat) (s : State) {w : Nat} (h : 0x16001000 ≤ w) : (s.markHalts core l).rd w = s.rd w :=
  rd_foldl (fun t j => State.rd_put_ne t (PWM_GST_HALT j) _ (by simp only [PWM_GST_HALT, PWM_GST]; omega)) l s

theorem State.get_HALT_markHalts (core : Bool) {l : List Nat} (hl : ∀ j ∈ l, j < 9) (hi : i < 9) (s : State)
    (h : i ∈ l ∨ s.get (PWM_GST_HALT i) = b2n (core || s.eng.halted.contains i)) :
    (s.markHalts core l).get (PWM_GST_HALT i) = b2n (core || s.eng.halted.contains i) := by
  induction l generalizing s with
  | nil => simpa [State.markHalts] using h
  | cons j l ih =>
    refine ih (fun x hx => hl x (List.mem_cons_of_mem j hx)) (s.mark (PWM_GST_HALT j) (core || s.eng.halted.contains j)) ?_
    by_cases same : i = j
    · subst same
      exact .inr (s.get_mark_fits (PWM_GST_HALT i) _ rfl rfl)
    · rcases h with listed | shown
      · exact .inl ((List.mem_cons.mp listed).resolve_left same)
      · have apart : PWM_GST i ≠ PWM_GST j := by
          have small := hl j List.mem_cons_self
          simp only [PWM_GST]
          omega
        exact .inr ((s.get_put_ne (PWM_GST_HALT j) (PWM_GST_HALT i) _ apart).trans shown)

theorem State.get_HALT_showHalts (hi : i < 9) (s : State) :
    s.showHalts.get (PWM_GST_HALT i) = b2n (s.pwm.coreHalt != [] || s.eng.halted.contains i) := by
  rw [State.showHalts_eq]
  refine ((State.showAll_shared (List.range 32) _).get ?_ ?_).trans
    (State.get_HALT_markHalts _ (fun j hj => List.mem_range.mp hj) hi s (.inl (List.mem_range.mpr hi)))
  · simp only [PWM_GST_HALT, PWM_GST]; omega
  · simp only [PWM_GST_HALT, PWM_GST]; omega

/-- What the shown halts leave of the PWM. -/
theorem State.get_EN_showHalts (s : State) (k : Nat) : s.showHalts.get (PWM_AXST_EN k) = s.get (PWM_AXST_EN k) := by
  rw [State.showHalts_eq, State.get_EN_showAll]
  exact congrArg (fldOf _) (s.rd_markHalts _ _ (by simp only [PWM_AXST_EN, PWM_AXST]; omega))

theorem State.rd_showHalts_aux (s : State) {w : Nat} (block : w / 0x1000000 = 0x16) (h : 0x16002000 ≤ w) : s.showHalts.rd w = s.rd w := by
  rw [State.showHalts_eq]
  exact ((State.showAll_shared _ _).words w block (.inr h)).trans (s.rd_markHalts _ _ (by omega))

end

/-! ### The debug word -/

theorem bit_eq_testBit (n i : Nat) : bit n i = n.testBit i := by
  rw [bit, Nat.testBit_eq_decide_div_mod_eq]
  by_cases h : n / 2 ^ i % 2 = 1 <;> simp [h]

theorem bit_mod {n i w : Nat} (h : i < w) : bit (n % 2 ^ w) i = bit n i := by
  rw [bit_eq_testBit, bit_eq_testBit, Nat.testBit_mod_two_pow, decide_eq_true h, Bool.true_and]

theorem bit_setBit_same (n i : Nat) (b : Bool) : bit (setBit n i b) i = b := by
  have pos : 0 < 2 ^ i := by positivity
  unfold setBit
  split_ifs with here
  · exact beq_iff_eq.mp here
  next set =>
    subst set
    have low : n / 2 ^ i % 2 ≠ 1 := by simpa [bit] using here
    have up : (n + 2 ^ i) / 2 ^ i = n / 2 ^ i + 1 := Nat.add_div_right n pos
    simp only [bit, up, beq_iff_eq]
    omega
  next clear =>
    have off : b = false := by simpa using clear
    subst off
    have high : n / 2 ^ i % 2 = 1 := by simpa [bit] using here
    have some : 2 ^ i ≤ n := by
      by_contra less
      rw [Nat.div_eq_of_lt (not_le.mp less)] at high
      simp at high
    have down : (n - 2 ^ i) / 2 ^ i = n / 2 ^ i - 1 := by
      have split := Nat.sub_mul_div n (2 ^ i) 1
      rwa [Nat.mul_one] at split
    simp only [bit, down]
    have even : ¬ (n / 2 ^ i - 1) % 2 = 1 := by omega
    simpa using even

/-- A bit of a field after it has been set. -/
theorem State.bit_put_setBit (s : State) (f : Fld) {i : Nat} (hi : i < f.width) (b : Bool) (fits : Nat.ble (f.lo + f.width) 32 = true) :
    bit ((s.put f (setBit (s.get f) i b)).get f) i = b := by
  rw [State.get_put_fits _ _ _ fits, bit_mod hi, bit_setBit_same]

theorem quiet_SVC_DBG : Quiet SVC_DBG := by simp [Quiet, SVC_DBG]

theorem State.rd_SVC_DBG_loseAll (l : List Nat) {cause : Nat} (hc : cause ≤ 7) (src : Nat → Nat) (code : Nat) (s : State) :
    (s.loseAll l cause src code).rd SVC_DBG = s.rd SVC_DBG := by
  refine rd_foldl (fun t a => ?_) l s
  have fault (sub isl) : (t.faultWith a cause sub isl code false).rd SVC_DBG = t.rd SVC_DBG :=
    t.rd_faultWith_err a sub isl code false hc (by decide) quiet_SVC_DBG
  have off (u : State) (c : Nat) : (u.torqueOff a c).rd SVC_DBG = u.rd SVC_DBG := u.rd_torqueOff_err a c (by decide)
  unfold State.loseGates
  split_ifs
  · rcases t.hardFault_cases a cause 0 (src a) code with ⟨eq, -⟩ | eq <;> rw [eq]
    · exact fault _ _
    · exact (off _ _).trans (fault _ _)
  · rcases t.endDeferred_cases a with ⟨eq, -⟩ | eq <;> rw [eq]
    exact off t 5

end Sys2Proof.Machine
end

section
/-! SUPPORT. The brake choppers: their period boundary, their commit and their turning off (R303 to R306). -/

namespace Sys2Proof.Machine

/-! ### The boundary of a chopper channel (R304, R306) -/

/-- R304, R306: channel `k` has been turned off. -/
def State.auxDead (s : State) (k : Nat) : Bool := s.pwm.auxStuck.contains k || s.pwm.auxOff.contains k

/-- R304: ON of channel `k` when its source has the value `v`. -/
def State.auxOn (s : State) (k : Nat) (v : Int) : Bool :=
  if s.auxDead k then false else if s.getS (PWM_AUXTH_ONTH k) ≤ v then true
    else if v ≤ s.getS (PWM_AUXTH_OFFTH k) then false else s.flag (PWM_AUXST_ON k)

/-- A boundary of channel `k`, before ON is decided: its generator becomes `f` of what it was, and the compare value in force is `v`. -/
def State.auxBegin (k : Nat) (f : PwmAxis → PwmAxis) (v : Nat) (s : State) : State :=
  (((s.lowerAll fun o => o == .aux k).foldGates (32 + k)).onPax (32 + k) f).wr (PWM_AUXCMP k) v

/-- R304: the periods in ON, and the turns to ON. -/
def State.auxCount (k : Nat) (on was : Bool) (s : State) : State :=
  let s := if on && !was then s.bump (PWM_AUXCNT_ONCNT k) else s
  if on then s.bump (PWM_AUXCNT_ONPER k) else s

/-- The compare value that channel `k` stages. -/
def State.auxCompare (s : State) (k : Nat) (on : Bool) : Nat :=
  if !on then 0 else if s.get (PWM_AUXCFG_DUTY k) = 0x100 then 0xFFFFFFFF else s.get (PWM_AUXCFG_DUTY k) * s.rd (PWM_AUXPER k) / 256

/-- The value of the source and ON, counted. -/
def State.auxShow (k : Nat) (v : Int) (on : Bool) (s : State) : State :=
  ((s.putS (PWM_AUXST_VAL k) v).mark (PWM_AUXST_ON k) on).auxCount k on (s.flag (PWM_AUXST_ON k))

/-- What is decided at a boundary of channel `k`. -/
def State.auxDecide (k : Nat) (v : Int) (on : Bool) (s : State) : State :=
  let t := s.auxShow k v on
  (if s.auxDead k then t.mark (PWM_AUXST_RUN k) false else t).onPax (32 + k) fun x =>
    { x with stage := [(0, t.auxCompare k on)], stagePer := t.rd (PWM_AUXPER k) }

section
variable {k : Nat} {s : State} {v : Int} {on : Bool}

/-- A boundary of channel `k` from the decision on ON, in the words of the model. -/
def State.auxSettle (k : Nat) (l : List Bool) (s : State) : State :=
  let v := auxValue l
  let dead := s.pwm.auxStuck.contains k || s.pwm.auxOff.contains k
  let was := s.flag (PWM_AUXST_ON k)
  let on := if dead then false else if s.getS (PWM_AUXTH_ONTH k) ≤ v then true
    else if v ≤ s.getS (PWM_AUXTH_OFFTH k) then false else was
  let s := (s.putS (PWM_AUXST_VAL k) v).mark (PWM_AUXST_ON k) on
  let s := if on && !was then s.bump (PWM_AUXCNT_ONCNT k) else s
  let s := if on then s.bump (PWM_AUXCNT_ONPER k) else s
  let p := s.rd (PWM_AUXPER k)
  let duty := s.get (PWM_AUXCFG_DUTY k)
  let h := if !on then 0 else if duty = 0x100 then 0xFFFFFFFF else duty * p / 256
  let s := if dead then s.mark (PWM_AUXST_RUN k) false else s
  s.onPax (32 + k) fun x => { x with stage := [(0, h)], stagePer := p }

theorem State.auxSettle_eq (k : Nat) (l : List Bool) (s : State) : s.auxSettle k l = s.auxDecide k (auxValue l) (s.auxOn k (auxValue l)) := by
  unfold State.auxSettle
  have on : s.auxOn k (auxValue l) = if (s.pwm.auxStuck.contains k || s.pwm.auxOff.contains k) then false
    else if s.getS (PWM_AUXTH_ONTH k) ≤ auxValue l then true
    else if auxValue l ≤ s.getS (PWM_AUXTH_OFFTH k) then false else s.flag (PWM_AUXST_ON k) := rfl
  dsimp only
  rw [← on]
  generalize s.auxOn k (auxValue l) = b
  rfl

theorem State.auxBoundary_settle (k : Nat) (l : List Bool) (s : State) : ∃ f v, s.auxBoundary k l = (s.auxBegin k f v).auxSettle k l := by
  apply Exists.intro
  apply Exists.intro
  unfold State.auxBoundary State.auxSettle State.auxBegin
  rfl

/-- A word of the PWM other than the compare value is not written before ON is decided, nor is what the PWM holds beside its generators. -/
theorem State.auxBegin_shared (k : Nat) (f : PwmAxis → PwmAxis) (v : Nat) (s : State) :
    (∀ w, w / 0x1000000 = 0x16 → w ≠ PWM_AUXCMP k → (s.auxBegin k f v).rd w = s.rd w) ∧ (s.auxBegin k f v).pwmRest = s.pwmRest := by
  have lowered := State.lowerAll_keeps (p := fun o => o == .aux k) (Keeps.refl [.reg .lsh, .reg .err, .sets, .log, .lim] s) (by decide)
  refine ⟨fun w block other => (State.rd_wr_ne _ _ other).trans (lowered.rd (b := .pwm) (by decide) block), ?_⟩
  have same : (s.lowerAll fun o => o == .aux k).pwm = s.pwm := lowered.same .pwm (by decide)
  exact congrArg (fun w : Pwm => { w with axis := [] }) same

/-- The words of channel `k` that decide at a boundary. -/
def auxWords (k : Nat) : List Nat := [PWM_AUXCFG k, PWM_AUXTH k, PWM_AUXPER k, PWM_AUXST k, PWM_AUXCNT k]

theorem auxWords_not_compare {w : Nat} (h : w ∈ auxWords k) : w / 0x1000000 = 0x16 ∧ w ≠ PWM_AUXCMP k := by
  simp only [auxWords, List.mem_cons, List.not_mem_nil, or_false, PWM_AUXCFG, PWM_AUXTH, PWM_AUXPER, PWM_AUXST, PWM_AUXCNT] at h
  simp only [PWM_AUXCMP]
  omega

/-- Two states that agree on what decides at a boundary of channel `k`. -/
structure SameAux (k : Nat) (s t : State) : Prop where
  words : ∀ w ∈ auxWords k, t.rd w = s.rd w
  dead : t.auxDead k = s.auxDead k

theorem SameAux.get {t : State} (h : SameAux k s t) {f : Fld} (hf : f.addr ∈ auxWords k) : t.get f = s.get f := congrArg (fldOf f) (h.words _ hf)

theorem State.auxBegin_same (k : Nat) (f : PwmAxis → PwmAxis) (v : Nat) (s : State) : SameAux k s (s.auxBegin k f v) := by
  obtain ⟨words, rest⟩ := s.auxBegin_shared k f v
  have stuck : (s.auxBegin k f v).pwm.auxStuck = s.pwm.auxStuck := (congrArg Pwm.auxStuck rest : (s.auxBegin k f v).pwmRest.auxStuck = _)
  have off : (s.auxBegin k f v).pwm.auxOff = s.pwm.auxOff := (congrArg Pwm.auxOff rest : (s.auxBegin k f v).pwmRest.auxOff = _)
  exact ⟨fun w hw => words w (auxWords_not_compare hw).1 (auxWords_not_compare hw).2, by rw [State.auxDead, State.auxDead, stuck, off]⟩

theorem SameAux.auxOn {t : State} (h : SameAux k s t) (v : Int) : t.auxOn k v = s.auxOn k v := by
  have onth : t.getS (PWM_AUXTH_ONTH k) = s.getS (PWM_AUXTH_ONTH k) := congrArg (signed 16) (h.get (by simp [auxWords, PWM_AUXTH_ONTH]))
  have offth : t.getS (PWM_AUXTH_OFFTH k) = s.getS (PWM_AUXTH_OFFTH k) := congrArg (signed 16) (h.get (by simp [auxWords, PWM_AUXTH_OFFTH]))
  have was : t.flag (PWM_AUXST_ON k) = s.flag (PWM_AUXST_ON k) := congrArg (· == 1) (h.get (by simp [auxWords, PWM_AUXST_ON]))
  rw [State.auxOn, State.auxOn, onth, offth, was, h.dead]

/-! ### What is shown and staged -/

theorem State.rd_bumpIf (s : State) (b : Bool) {f : Fld} {w : Nat} (h : w ≠ f.addr) : (if b then s.bump f else s).rd w = s.rd w := by
  cases b with
  | true => exact s.rd_put_ne f _ h
  | false => rfl

theorem State.rd_auxCount (s : State) (on was : Bool) {w : Nat} (h : w ≠ PWM_AUXCNT k) : (s.auxCount k on was).rd w = s.rd w :=
  (State.rd_bumpIf _ on h).trans (s.rd_bumpIf (on && !was) h)

theorem State.get_ONPER_auxCount (s : State) (k : Nat) (was : Bool) :
    (s.auxCount k true was).get (PWM_AUXCNT_ONPER k) = (s.get (PWM_AUXCNT_ONPER k) + 1) % 65536 := by
  have turned : (if (true && !was) = true then s.bump (PWM_AUXCNT_ONCNT k) else s).get (PWM_AUXCNT_ONPER k) = s.get (PWM_AUXCNT_ONPER k) := by
    cases was with
    | true => rfl
    | false => exact s.get_put_apart _ rfl
  refine (State.get_bump_fits _ (PWM_AUXCNT_ONPER k) rfl).trans ?_
  rw [turned]
  rfl

theorem State.get_ONCNT_auxCount (s : State) (k : Nat) :
    (s.auxCount k true false).get (PWM_AUXCNT_ONCNT k) = (s.get (PWM_AUXCNT_ONCNT k) + 1) % 65536 :=
  (State.get_put_apart _ _ rfl).trans (s.get_bump_fits (PWM_AUXCNT_ONCNT k) rfl)

theorem PWM_AUXST_ne_AUXCNT (j k : Nat) : PWM_AUXST j ≠ PWM_AUXCNT k := by simp only [PWM_AUXST, PWM_AUXCNT]; omega

theorem State.get_ON_auxShow (s : State) (k : Nat) (v : Int) (on : Bool) : (s.auxShow k v on).get (PWM_AUXST_ON k) = b2n on :=
  (congrArg (fldOf _) (State.rd_auxCount _ on _ (PWM_AUXST_ne_AUXCNT k k))).trans (State.get_mark_fits _ (PWM_AUXST_ON k) on rfl rfl)

theorem State.get_VAL_auxShow (s : State) (k : Nat) (v : Int) (on : Bool) : (s.auxShow k v on).get (PWM_AUXST_VAL k) = unsigned 16 v % 2 ^ 16 := by
  refine (congrArg (fldOf _) (State.rd_auxCount _ on _ (PWM_AUXST_ne_AUXCNT k k))).trans ?_
  exact (State.get_mark_apart _ on rfl).trans (s.get_put_fits (PWM_AUXST_VAL k) _ rfl)

theorem State.rd_auxShow (s : State) (v : Int) (on : Bool) {w : Nat} (st : w ≠ PWM_AUXST k) (cnt : w ≠ PWM_AUXCNT k) :
    (s.auxShow k v on).rd w = s.rd w :=
  (State.rd_auxCount _ on _ cnt).trans ((State.rd_put_ne _ (PWM_AUXST_ON k) _ st).trans (s.rd_put_ne (PWM_AUXST_VAL k) _ st))

theorem State.auxCompare_auxShow (s : State) (k : Nat) (v : Int) (on : Bool) : (s.auxShow k v on).auxCompare k on = s.auxCompare k on := by
  have apart : PWM_AUXCFG k ≠ PWM_AUXST k ∧ PWM_AUXCFG k ≠ PWM_AUXCNT k ∧ PWM_AUXPER k ≠ PWM_AUXST k ∧ PWM_AUXPER k ≠ PWM_AUXCNT k := by
    simp only [PWM_AUXCFG, PWM_AUXST, PWM_AUXCNT, PWM_AUXPER]; omega
  obtain ⟨cfg, cfg', per, per'⟩ := apart
  have duty : (s.auxShow k v on).get (PWM_AUXCFG_DUTY k) = s.get (PWM_AUXCFG_DUTY k) := congrArg (fldOf _) (s.rd_auxShow v on cfg cfg')
  rw [State.auxCompare, State.auxCompare, duty, s.rd_auxShow v on per per']

/-- What a boundary of channel `k` leaves when its source has the value `v` and ON is `on`. -/
structure AuxDecided (k : Nat) (v : Int) (on : Bool) (s u : State) : Prop where
  state : u.get (PWM_AUXST_ON k) = b2n on
  val : u.get (PWM_AUXST_VAL k) = unsigned 16 v % 2 ^ 16
  stage : (u.pax (32 + k)).stage = [(0, s.auxCompare k on)]
  stagePer : (u.pax (32 + k)).stagePer = s.rd (PWM_AUXPER k)
  onper : on = true → u.get (PWM_AUXCNT_ONPER k) = (s.get (PWM_AUXCNT_ONPER k) + 1) % 65536
  oncnt : on = true → s.get (PWM_AUXST_ON k) = 0 → u.get (PWM_AUXCNT_ONCNT k) = (s.get (PWM_AUXCNT_ONCNT k) + 1) % 65536
  run : s.auxDead k = true → u.get (PWM_AUXST_RUN k) = 0

theorem State.auxDecide_decided (s : State) (k : Nat) (v : Int) (on : Bool) : AuxDecided k v on s (s.auxDecide k v on) := by
  have ended {f : Fld} (h : fldApart (PWM_AUXST_RUN k) f = true) : (s.auxDecide k v on).get f = (s.auxShow k v on).get f := by
    change (if s.auxDead k then (s.auxShow k v on).mark (PWM_AUXST_RUN k) false else s.auxShow k v on).get f = _
    split_ifs
    · exact State.get_mark_apart _ false h
    · rfl
  have count {f : Fld} (h : f.addr = PWM_AUXCNT k) : (s.auxDecide k v on).get f = (s.auxShow k v on).get f := by
    change (if s.auxDead k then (s.auxShow k v on).mark (PWM_AUXST_RUN k) false else s.auxShow k v on).get f = _
    split_ifs
    · exact State.get_put_ne _ (PWM_AUXST_RUN k) f _ (h ▸ (PWM_AUXST_ne_AUXCNT k k).symm)
    · rfl
  have pax : ∃ x : PwmAxis, (s.auxDecide k v on).pax (32 + k) =
      { x with stage := [(0, (s.auxShow k v on).auxCompare k on)], stagePer := (s.auxShow k v on).rd (PWM_AUXPER k) } :=
    ⟨_, State.pax_onPax_same _ _ _⟩
  obtain ⟨x, held⟩ := pax
  have shown {f : Fld} (h : f.addr = PWM_AUXCNT k) : ((s.putS (PWM_AUXST_VAL k) v).mark (PWM_AUXST_ON k) on).get f = s.get f := by
    have apart := h ▸ (PWM_AUXST_ne_AUXCNT k k).symm
    exact (State.get_put_ne _ (PWM_AUXST_ON k) f _ apart).trans (s.get_put_ne (PWM_AUXST_VAL k) f _ apart)
  refine { state := (ended rfl).trans (s.get_ON_auxShow k v on), val := (ended rfl).trans (s.get_VAL_auxShow k v on), stage := ?_, stagePer := ?_,
           onper := fun now => ?_, oncnt := fun now before => ?_, run := fun dead => ?_ }
  · rw [held, s.auxCompare_auxShow k v on]
  · rw [held]
    exact s.rd_auxShow v on (by simp only [PWM_AUXPER, PWM_AUXST]; omega) (by simp only [PWM_AUXPER, PWM_AUXCNT]; omega)
  · subst now
    rw [count rfl, State.auxShow, State.get_ONPER_auxCount, shown rfl]
  · subst now
    rw [count rfl, State.auxShow, State.flag_eq_false before, State.get_ONCNT_auxCount, shown rfl]
  · change (if s.auxDead k then (s.auxShow k v on).mark (PWM_AUXST_RUN k) false else s.auxShow k v on).get (PWM_AUXST_RUN k) = 0
    rw [if_pos dead]
    exact State.get_mark_fits _ (PWM_AUXST_RUN k) false rfl rfl

/-- R304, R306: a boundary of channel `k`. -/
theorem State.auxBoundary_decided (s : State) (k : Nat) (l : List Bool) :
    AuxDecided k (auxValue l) (s.auxOn k (auxValue l)) s (s.auxBoundary k l) := by
  obtain ⟨f, v, eq⟩ := s.auxBoundary_settle k l
  have same := s.auxBegin_same k f v
  have decided := (s.auxBegin k f v).auxDecide_decided k (auxValue l) (s.auxOn k (auxValue l))
  rw [eq, State.auxSettle_eq, same.auxOn]
  have compare : (s.auxBegin k f v).auxCompare k (s.auxOn k (auxValue l)) = s.auxCompare k (s.auxOn k (auxValue l)) := by
    rw [State.auxCompare, State.auxCompare, same.get (f := PWM_AUXCFG_DUTY k) (by simp [auxWords, PWM_AUXCFG_DUTY]),
      same.words (PWM_AUXPER k) (by simp [auxWords])]
  obtain ⟨state, val, stage, stagePer, onper, oncnt, run⟩ := decided
  refine ⟨state, val, stage.trans (by rw [compare]), stagePer.trans (same.words _ (by simp [auxWords])), fun now => (onper now).trans ?_,
    fun now before => (oncnt now ?_).trans ?_, fun dead => run (same.dead.trans dead)⟩
  · rw [same.get (f := PWM_AUXCNT_ONPER k) (by simp [auxWords, PWM_AUXCNT_ONPER])]
  · exact (same.get (by simp [auxWords, PWM_AUXST_ON])).trans before
  · rw [same.get (f := PWM_AUXCNT_ONCNT k) (by simp [auxWords, PWM_AUXCNT_ONCNT])]

/-- R303: the value of a chopper source is a number of 16 bits. -/
theorem getS_of_value (l : List Bool) {f : Fld} (hf : f.width = 16) {u : State} (h : u.get f = unsigned 16 (auxValue l) % 2 ^ 16) :
    u.getS f = auxValue l := by
  have range : -32768 ≤ auxValue l ∧ auxValue l < 32768 := by
    rw [auxValue, satSigned_eq]
    have low : (-2 ^ (16 - 1) : Int) = -32768 := by norm_num
    have high : (2 ^ (16 - 1) - 1 : Int) = 32767 := by norm_num
    rw [low, high]
    omega
  rw [State.getS, hf, h]
  exact signed_unsigned_16 range.1 range.2

end

/-! ### Live channels -/

section
variable {k : Nat} {s : State}

theorem State.auxDead_iff : s.auxDead k = true ↔ k ∈ s.pwm.auxStuck ∨ k ∈ s.pwm.auxOff := by
  simp [State.auxDead]

theorem State.auxLive_iff : s.auxLive k = true ↔
    (s.get (PWM_AUXST_RUN k) = 1 ∨ k ∈ s.pwm.auxStuck ∨ k ∈ s.pwm.auxOff) ∧ s.get (PWM_AUXCFG_EN k) = 1 ∧ (s.pax (32 + k)).off = false := by
  simp [State.auxLive, State.flag, or_assoc, and_assoc]

/-- R306: channel `k` is turned off. -/
def State.auxOffOne (k : Nat) (s : State) : State :=
  (s.onPwm fun w => { w with auxOff := k :: w.auxOff.filter (· != k) }).mark (PWM_AUXST_OFF k) true

/-- The channels `l` are turned off. -/
def State.auxOffAll (l : List Nat) (s : State) : State := l.foldl (fun s k => s.auxOffOne k) s

theorem State.auxTurnOff_eq (mask : Nat) (s : State) : s.auxTurnOff mask = s.auxOffAll (below 8 (bit mask)) := rfl

theorem State.auxOffAll_keeps (l : List Nat) (s : State) : Keeps [.pwm, .reg .pwm] s (s.auxOffAll l) :=
  keeps_foldl (fun _ k h => State.mark_keeps (PWM_AUXST_OFF_blk k) (State.onPwm_keeps h (by decide)) (by decide)) l (Keeps.refl _ s)

theorem PWM_AUXST_injective {j k : Nat} (hj : j < 8) (hk : k < 8) (h : PWM_AUXST j = PWM_AUXST k) : j = k := by
  simp only [PWM_AUXST] at h
  omega

theorem State.mem_auxOff_auxOffOne (s : State) (j k : Nat) : k ∈ (s.auxOffOne j).pwm.auxOff ↔ k = j ∨ k ∈ s.pwm.auxOff := by
  change k ∈ j :: s.pwm.auxOff.filter (· != j) ↔ _
  by_cases same : k = j <;> simp [same]

/-- A channel that is turned off. -/
theorem State.auxOffAll_listed {l : List Nat} (hl : ∀ j ∈ l, j < 8) (hk : k < 8) (s : State)
    (h : k ∈ l ∨ s.get (PWM_AUXST_OFF k) = 1 ∧ k ∈ s.pwm.auxOff) :
    (s.auxOffAll l).get (PWM_AUXST_OFF k) = 1 ∧ k ∈ (s.auxOffAll l).pwm.auxOff := by
  induction l generalizing s with
  | nil => simpa [State.auxOffAll] using h
  | cons j l ih =>
    refine ih (fun x hx => hl x (List.mem_cons_of_mem j hx)) (s.auxOffOne j) ?_
    by_cases same : k = j
    · subst same
      exact .inr ⟨State.get_mark_fits _ (PWM_AUXST_OFF k) true rfl rfl, (s.mem_auxOff_auxOffOne k k).mpr (.inl rfl)⟩
    · refine h.imp (fun listed => (List.mem_cons.mp listed).resolve_left same) fun ⟨shown, held⟩ =>
        ⟨?_, (s.mem_auxOff_auxOffOne j k).mpr (.inr held)⟩
      have apart : PWM_AUXST k ≠ PWM_AUXST j := fun e => same (PWM_AUXST_injective hk (hl j List.mem_cons_self) e)
      exact (State.get_put_ne _ (PWM_AUXST_OFF j) (PWM_AUXST_OFF k) _ apart).trans shown

/-- A channel that is not. -/
theorem State.auxOffAll_other {l : List Nat} (hl : ∀ j ∈ l, j < 8) (hk : k < 8) (other : k ∉ l) (s : State) :
    (s.auxOffAll l).rd (PWM_AUXST k) = s.rd (PWM_AUXST k) ∧ (k ∈ (s.auxOffAll l).pwm.auxOff ↔ k ∈ s.pwm.auxOff) := by
  induction l generalizing s with
  | nil => exact ⟨rfl, Iff.rfl⟩
  | cons j l ih =>
    have apart : k ≠ j := fun same => other (same ▸ List.mem_cons_self)
    obtain ⟨word, held⟩ := ih (fun x hx => hl x (List.mem_cons_of_mem j hx)) (fun hk => other (List.mem_cons_of_mem j hk)) (s.auxOffOne j)
    have here : (s.auxOffOne j).rd (PWM_AUXST k) = s.rd (PWM_AUXST k) :=
      State.rd_put_ne _ (PWM_AUXST_OFF j) _ fun e => apart (PWM_AUXST_injective hk (hl j List.mem_cons_self) e)
    refine ⟨word.trans here, held.trans ((s.mem_auxOff_auxOffOne j k).trans ?_)⟩
    simp [apart]

end

end Sys2Proof.Machine
end

section
/-! PROOFS. Trips, gate enables, clock loss, debug halts and the brake choppers (O39). -/

namespace Sys2Proof.Machine

/-! ### Trips (R295, R298) -/

section
variable {s : State} {a : Nat}

theorem State.pax_gatesLow (s : State) {a : Nat} (ha : a < 32) (delay : Nat) : ((s.gatesLow a delay).pax a).cut = true ∧
    ((s.gatesLow a delay).pax a).tripLow = (s.pax a).tripLow ∧
    ∀ h : Fin 3, h.val < s.axBridges a → (tabGet {} ((s.gatesLow a delay).pax a).gates h).want = 0 := by
  obtain ⟨gates, off⟩ := s.pax_gatesTurnOff a delay
  have low : (s.gatesLow a delay).pax a = { (s.gatesTurnOff a delay).pax a with cut := true } := State.pax_onPax_same _ a _
  refine ⟨by rw [low], by rw [low, off], fun h hh => ?_⟩
  rw [low]
  exact s.gatesTurnOff_low ha delay hh

/-- R295: TRIP_N has fallen, before the gates follow. -/
def State.tripped (a : Nat) (s : State) : State := s.onPax a fun x => { x with tripLow := true }

theorem State.tripFall_enabled (high : (s.pax a).tripLow = false) (en : s.get (PWM_AXST_EN a) = 1) :
    s.tripFall a = (((s.tripped a).bump (PWM_TCNT_TRIPS a)).wr (PWM_TLAST a) s.t32).gatesLow a 16 := by
  unfold State.tripFall
  rw [if_neg (by simp [high])]
  exact if_pos ((State.flag_iff _ _).mpr en)

theorem State.tripFall_disabled (high : (s.pax a).tripLow = false) (en : s.get (PWM_AXST_EN a) = 0) : s.tripFall a = s.tripped a := by
  unfold State.tripFall
  rw [if_neg (by simp [high])]
  exact if_neg fun on => by
    have one := (State.flag_iff _ _).mp on
    exact absurd (en.symm.trans one) (by decide)

/-- R295, R297, R298: TRIP_N of an enabled axis falls. -/
theorem tripAssert_enabled (dt : Nat) (a : Fin 32) (s : State) (high : (s.pax a).tripLow = false) (en : s.get (PWM_AXST_EN a) = 1) :
    ∃ u, exec (.tripAssert dt a) s = .next u ∧ (u.pax a).tripLow = true ∧ (u.pax a).cut = true ∧
      (∀ h : Fin 3, h.val < s.axBridges a → (tabGet {} (u.pax a).gates h).want = 0) ∧
      u.get (PWM_TCNT_TRIPS a) = (s.get (PWM_TCNT_TRIPS a) + 1) % 65536 ∧ u.rd (PWM_TLAST a) = (s.elapse dt).t32 ∧
      OnlyChanges [.clk, .pwm, .sets] [PWM_TCNT a, PWM_TLAST a] s u := by
  set w := (((s.elapse dt).tripped a).bump (PWM_TCNT_TRIPS a)).wr (PWM_TLAST a) (s.elapse dt).t32 with counted
  have low := w.pax_gatesLow a.isLt 16
  have apart : PWM_TCNT a ≠ PWM_TLAST a := by simp only [PWM_TCNT, PWM_TLAST]; omega
  have keeps : Keeps [.pwm, .reg .pwm] (s.elapse dt) w := State.wr_keeps (PWM_TLAST_blk a) (State.bump_keeps (PWM_TCNT_TRIPS_blk a)
    (State.onPax_keeps (Keeps.refl _ _) (by decide)) (by decide)) (by decide)
  have bridges : w.axBridges a = s.axBridges a := keeps.axBridges (by decide) (by decide) a
  have fell : (w.pax a).tripLow = true := by
    have same : w.pax a = ((s.elapse dt).tripped a).pax a := rfl
    rw [same, State.tripped, State.pax_onPax_same]
  refine ⟨w.gatesLow a 16, congrArg Host.Outcome.next (State.tripFall_enabled (s := s.elapse dt) high en), low.2.1.trans fell, low.1,
    fun h hh => low.2.2 h (bridges ▸ hh), ?_, ?_, ?_⟩
  · have stamped : (w.gatesLow a 16).get (PWM_TCNT_TRIPS a) = (((s.elapse dt).tripped a).bump (PWM_TCNT_TRIPS a)).get (PWM_TCNT_TRIPS a) :=
      State.get_wr_ne _ (PWM_TCNT_TRIPS a) _ apart
    rw [stamped, State.get_bump_fits _ _ rfl]
    rfl
  · have word : (w.gatesLow a 16).rd (PWM_TLAST a) = (s.elapse dt).t32 % 2 ^ 32 := State.rd_wr_same _ _ _
    rw [word, State.t32, Nat.mod_mod]
  · have tripped : OnlyChanges [.clk, .pwm, .sets] [PWM_TCNT a, PWM_TLAST a] s ((s.elapse dt).tripped a) :=
      (OnlyChanges.elapse dt s (by decide) (by decide)).after (State.onPax_keeps (m := [.pwm]) (Keeps.refl _ _) (by decide)) (by decide)
    exact (((tripped.bump (f := PWM_TCNT_TRIPS a) (by simp [PWM_TCNT_TRIPS])).wr _ (by simp)).after
      (State.gatesLow_keeps (m := [.pwm]) (Keeps.refl _ _) (by decide)) (by decide))

theorem State.tripEscalate_due (en : s.get (PWM_AXST_EN a) = 1) (most : s.get (PWM_AX_TRIPMAX a) ≤ s.get (PWM_AXST_RUN a))
    (cut : 0 < s.get (PWM_AXST_RUN a)) : s.tripEscalate a = (s.mark (PWM_AXST_FLT a) true).hardFault a 0x04 0 (8 + a / 4) 3 :=
  if_pos ⟨(State.flag_iff _ _).mpr en, most, cut⟩

/-- R298: RUN at TRIPMAX faults the axis. -/
theorem tripEscalation_due (dt : Nat) (a : Fin 32) (s : State) (en : s.get (PWM_AXST_EN a) = 1)
    (most : s.get (PWM_AX_TRIPMAX a) ≤ s.get (PWM_AXST_RUN a)) (cut : 0 < s.get (PWM_AXST_RUN a)) :
    ∃ u, exec (.tripEscalation dt a) s = .next u ∧ u.get (PWM_AXST_FLT a) = 1 ∧ u.get (PWM_AXST_EN a) = 0 ∧
      (1 ≤ s.axState a ∧ s.axState a ≤ 5 → Latched a 4 u) := by
  set w := (s.elapse dt).mark (PWM_AXST_FLT a) true
  refine ⟨w.hardFault a 0x04 0 (8 + a / 4) 3, congrArg Host.Outcome.next (State.tripEscalate_due (s := s.elapse dt) en most cut), ?_,
    w.get_EN_hardFault 0 _ 3 a.isLt 4, fun live => w.hardFault_latches 0 _ 3 ?_ (by decide)⟩
  · exact (w.hardFault_own 0 (8 + a / 4) 3 a (by decide)).fault.trans (State.get_mark_fits (s.elapse dt) (PWM_AXST_FLT a) true rfl rfl)
  · have state : w.axState a = s.axState a := State.get_put_ne (s.elapse dt) (PWM_AXST_FLT a) (PRF_AXST_STATE a) _ (by
      simp only [PRF_AXST_STATE, PRF_AXST, PWM_AXST_FLT, PWM_AXST]; omega)
    rw [state]
    exact live

end

/-! ### Gate enables (R299) -/

theorem State.get_drew (t : State) (n : Nat) (f : Fld) : (t.drew n).get f = t.get f := rfl

theorem State.genOk_drew (t : State) (n k : Nat) : (t.drew n).genOk k = t.genOk k := rfl

theorem State.enabled_drew (t : State) (n k : Nat) : (t.drew n).enabled k = t.enabled k := rfl

section
variable {g k : Nat}

theorem PWM_GST_shared {g : Nat} (hg : g < 9) : PWM_GST g / 0x1000000 = 0x16 ∧ PWM_GST g < 0x16001000 := by
  simp only [PWM_GST]
  omega

/-- The loss of the gates of a group leaves what its gate enables show. -/
theorem State.gatesFall_shows (hg : g < 8) (d : Nat) (t : State) :
    ((t.gatesLost d (pwmGroup g)).showAll (pwmGroup g)).get (PWM_GST_GEN g) = t.get (PWM_GST_GEN g) ∧
    ((t.gatesLost d (pwmGroup g)).showAll (pwmGroup g)).get (SAF_GRP_GENAR g) = t.get (SAF_GRP_GENAR g) ∧
    ((t.gatesLost d (pwmGroup g)).showAll (pwmGroup g)).get (SAF_GRP_GENBR g) = t.get (SAF_GRP_GENBR g) := by
  have keeps := (State.gatesLost_keeps d (pwmGroup g) t).trans ((State.showAll_keeps (pwmGroup g) _).mono (by decide))
  have shared := (State.gatesLost_shared d (pwmGroup g) t).trans (State.showAll_shared (pwmGroup g) _)
  obtain ⟨block, low⟩ := PWM_GST_shared (g := g) (by omega)
  exact ⟨shared.get (f := PWM_GST_GEN g) block (.inl low), keeps.get (by decide) (SAF_GRP_GENAR_blk g), keeps.get (by decide) (SAF_GRP_GENBR_blk g)⟩

/-- R299, R122: each axis of the group shows the loss, and an enabled one is disabled. -/
theorem State.gatesFall_axis (hg : g < 8) (d : Nat) (hk : k / 4 = g) (t : State) (lost : t.genOk k = false) :
    ((t.gatesLost d (pwmGroup g)).showAll (pwmGroup g)).get (PWM_AXST_GENOK k) = 0 ∧
    (t.enabled k = true → Disabled k 3 ((t.gatesLost d (pwmGroup g)).showAll (pwmGroup g)) ∧
      ((t.gatesLost d (pwmGroup g)).showAll (pwmGroup g)).get (PWM_AXST_EN k) = 0) := by
  have small : ∀ a ∈ pwmGroup g, a < 32 := fun a => pwmGroup_lt hg
  have member : k ∈ pwmGroup g := mem_pwmGroup.mpr hk
  have shared := State.gatesLost_shared d (pwmGroup g) t
  refine ⟨?_, fun en => ?_⟩
  · have ok : (t.gatesLost d (pwmGroup g)).genOk k = false := by
      rw [State.genOk, shared.genA, shared.genB]
      exact lost
    rw [State.get_GENOK_showAll small (by omega) _ (.inl member), ok]
    rfl
  · obtain ⟨disabled, off⟩ := State.gatesLost_disables small (pwmGroup_nodup g) member d t en
    exact ⟨disabled.drift ((State.showAll_keeps _ _).axisDrift (by decide) (by decide) k), (State.get_EN_showAll _ k _).trans off⟩

end

/-- R299: a gate enable of a group falls. -/
theorem gateEnable_falls (dt : Nat) (g : Fin 8) (x y : Bool) (s : State) (h : (x && y) = false) :
    ∃ u, exec (.gateEnableLow dt g x y) s = .next u ∧ u.get (PWM_GST_GEN g) = 0 ∧ u.get (SAF_GRP_GENAR g) = b2n x ∧ u.get (SAF_GRP_GENBR g) = b2n y ∧
      ∀ k, k / 4 = g.val → u.get (PWM_AXST_GENOK k) = 0 ∧ (s.enabled k = true → Disabled k 3 u ∧ u.get (PWM_AXST_EN k) = 0) := by
  obtain ⟨gen, ar, br⟩ := (s.elapse dt).showEnables_shows g x y
  obtain ⟨sameGen, sameAr, sameBr⟩ := State.gatesFall_shows g.isLt (((s.elapse dt).showEnables g x y).free 81) (((s.elapse dt).showEnables g x y).drew 1)
  rw [State.get_drew] at sameGen sameAr sameBr
  refine ⟨_, congrArg Host.Outcome.next ((s.elapse dt).gateEnables_low g h), ?_, sameAr.trans ar, sameBr.trans br, fun k hk => ?_⟩
  · rw [sameGen, gen, h]
    rfl
  · obtain ⟨shown, disables⟩ := State.gatesFall_axis g.isLt (((s.elapse dt).showEnables g x y).free 81) hk (((s.elapse dt).showEnables g x y).drew 1)
      (by rw [State.genOk_drew, State.genOk_showEnables _ x y hk, h])
    refine ⟨shown, fun en => disables ?_⟩
    rw [State.enabled_drew]
    exact (((s.elapse dt).showEnables_keeps g x y).enabled (by decide) (by decide) k).trans en

theorem State.showEnables_changes (s : State) (g : Nat) (x y : Bool) : OnlyChanges [.clk, .pwm, .reg .pwm, .sets] [SAF_GRP g] s (s.showEnables g x y) := by
  have levels : Keeps [.pwm, .reg .pwm] s ((s.onPwm fun w => { w with genA := tabSet w.genA g x, genB := tabSet w.genB g y }).mark
      (PWM_GST_GEN g) (x && y)) := State.mark_keeps (PWM_GST_GEN_blk g) (State.onPwm_keeps (Keeps.refl _ s) (by decide)) (by decide)
  exact (((OnlyChanges.refl _ _ s).after levels (by decide)).mark x (f := SAF_GRP_GENAR g) (by simp [SAF_GRP_GENAR])).mark
    y (f := SAF_GRP_GENBR g) (by simp [SAF_GRP_GENBR])

/-- R299: both gate enables of a group are high. -/
theorem gateEnable_high (dt : Nat) (g : Fin 8) (s : State) : ∃ u, exec (.gateEnableLow dt g true true) s = .next u ∧ u.get (PWM_GST_GEN g) = 1 ∧
    u.get (SAF_GRP_GENAR g) = 1 ∧ u.get (SAF_GRP_GENBR g) = 1 ∧ (∀ k, k / 4 = g.val → u.get (PWM_AXST_GENOK k) = 1) ∧
    (∀ n : Nat, u.axState n = s.axState n) ∧ OnlyChanges [.clk, .pwm, .reg .pwm, .sets] [SAF_GRP g] s u := by
  set t := (s.elapse dt).showEnables g true true
  obtain ⟨gen, ar, br⟩ := (s.elapse dt).showEnables_shows g true true
  have shown := State.showAll_keeps (pwmGroup g) t
  refine ⟨t.showAll (pwmGroup g), congrArg Host.Outcome.next ((s.elapse dt).gateEnables_high g), ?_, ?_, ?_, fun k hk => ?_, fun n => ?_, ?_⟩
  · have gst := (State.showAll_shared (pwmGroup g) t).get (f := PWM_GST_GEN g) (by simp only [PWM_GST_GEN, PWM_GST]; omega)
      (by simp only [PWM_GST_GEN, PWM_GST]; omega)
    exact gst.trans gen
  · exact (shown.get (by decide) (SAF_GRP_GENAR_blk g)).trans ar
  · exact (shown.get (by decide) (SAF_GRP_GENBR_blk g)).trans br
  · have ok : t.genOk k = true := (s.elapse dt).genOk_showEnables true true hk
    rw [State.get_GENOK_showAll (fun a => pwmGroup_lt g.isLt) (by omega) t (.inl (mem_pwmGroup.mpr hk)), ok]
    rfl
  · exact (shown.get (by decide) (PRF_AXST_STATE_blk n)).trans
      (((s.elapse dt).showEnables_keeps g true true).get (by decide) (PRF_AXST_STATE_blk n))
  · exact ((OnlyChanges.elapse dt s (by decide) (by decide)).trans ((s.elapse dt).showEnables_changes g true true)).after shown (by decide)

/-! ### Lost clocks (R301) -/

/-- R301: the loss of the clock of island `i` is shown and reported. -/
def State.clockShown (i : Nat) (s : State) : State :=
  (((s.onPwm fun w => { w with clkLost := i :: w.clkLost }).latch (PWM_GST_CLKLOSS i)).satBump (PWM_GST_LOSSCNT i) 1).severe (8 + i) 0x03 (PWM_GST i)

section
variable {s : State} {i : Nat}

theorem State.pwmClockLost_known (h : i ∈ s.pwm.clkLost) : s.pwmClockLost i = s := if_pos (by simpa using h)

theorem State.pwmClockLost_aux (h : 8 ∉ s.pwm.clkLost) : s.pwmClockLost 8 = (s.clockShown 8).silence (List.range 8) := by
  unfold State.pwmClockLost
  rw [if_neg (by simpa using h)]
  rfl

theorem State.pwmClockLost_group (h : i ∉ s.pwm.clkLost) (group : i ≠ 8) :
    s.pwmClockLost i = (s.clockShown i).loseAll (pwmGroup i) 0x03 (fun _ => 8 + i) 6 := by
  unfold State.pwmClockLost
  rw [if_neg (by simpa using h)]
  exact if_neg group

theorem State.clockShown_shows (s : State) (i : Nat) : (s.clockShown i).get (PWM_GST_CLKLOSS i) = 1 ∧
    (s.clockShown i).get (PWM_GST_LOSSCNT i) = min (s.get (PWM_GST_LOSSCNT i) + 1) 255 ∧ i ∈ (s.clockShown i).pwm.clkLost := by
  set t := ((s.onPwm fun w => { w with clkLost := i :: w.clkLost }).latch (PWM_GST_CLKLOSS i)).satBump (PWM_GST_LOSSCNT i) 1
  have told : Keeps [.reg .err, .log] t (s.clockShown i) := State.severe_keeps (Keeps.refl _ t) (by decide)
  refine ⟨(told.get (by decide) (PWM_GST_CLKLOSS_blk i)).trans ?_, (told.get (by decide) (PWM_GST_LOSSCNT_blk i)).trans ?_, ?_⟩
  · exact (State.get_put_apart _ _ rfl).trans (State.get_latch_fits _ (PWM_GST_CLKLOSS i) rfl rfl)
  · refine (State.get_satBump_fits _ (PWM_GST_LOSSCNT i) 1 rfl).trans ?_
    rw [State.get_latch_apart (f := PWM_GST_CLKLOSS i) (g := PWM_GST_LOSSCNT i) _ rfl]
    rfl
  · have same : (s.clockShown i).pwm = t.pwm := told.same .pwm (by decide)
    rw [same]
    exact List.mem_cons_self

theorem State.clockShown_keeps (s : State) (i : Nat) : Keeps [.pwm, .reg .pwm, .sets, .reg .err, .log] s (s.clockShown i) :=
  State.severe_keeps (State.satBump_keeps (PWM_GST_LOSSCNT_blk i) (State.latch_keeps (PWM_GST_CLKLOSS_blk i)
    (State.onPwm_keeps (Keeps.refl _ s) (by decide)) (by decide)) (by decide)) (by decide)

theorem State.axState_clockShown (s : State) (i k : Nat) : (s.clockShown i).axState k = s.axState k :=
  (s.clockShown_keeps i).get (by decide) (PRF_AXST_STATE_blk k)

/-- What silent channels leave: the words of the islands and the lost clocks. -/
theorem State.silence_group (t : State) (hi : i < 9) (l : List Nat) : (∀ f : Fld, f.addr = PWM_GST i → (t.silence l).get f = t.get f) ∧
    (t.silence l).pwm.clkLost = t.pwm.clkLost := by
  have word := State.rd_silence l t (w := PWM_GST i) (by simp only [PWM_GST]; omega)
  refine ⟨fun f hf => ?_, (congrArg Pwm.clkLost (State.rest_silence l t) : (State.pwmRest _).clkLost = _)⟩
  exact congrArg (fldOf f) (hf ▸ word)

/-- What axes that lose their gates leave: the words of the islands and the lost clocks. -/
theorem State.loseAll_group (t : State) (hi : i < 9) (l : List Nat) {cause : Nat} (hc : cause ≤ 7) (src : Nat → Nat) (code : Nat) :
    (∀ f : Fld, f.addr = PWM_GST i → (t.loseAll l cause src code).get f = t.get f) ∧ (t.loseAll l cause src code).pwm.clkLost = t.pwm.clkLost := by
  have shared := State.loseAll_shared src code l hc t
  obtain ⟨block, low⟩ := PWM_GST_shared hi
  exact ⟨fun f hf => shared.get (hf ▸ block) (.inl (hf ▸ low)), shared.clkLost⟩

theorem State.pwmClockLost_shows (hi : i < 9) (h : i ∉ s.pwm.clkLost) : (s.pwmClockLost i).get (PWM_GST_CLKLOSS i) = 1 ∧
    (s.pwmClockLost i).get (PWM_GST_LOSSCNT i) = min (s.get (PWM_GST_LOSSCNT i) + 1) 255 ∧ i ∈ (s.pwmClockLost i).pwm.clkLost := by
  obtain ⟨loss, count, known⟩ := s.clockShown_shows i
  have shows : (∀ f : Fld, f.addr = PWM_GST i → (s.pwmClockLost i).get f = (s.clockShown i).get f) ∧
      (s.pwmClockLost i).pwm.clkLost = (s.clockShown i).pwm.clkLost := by
    by_cases aux : i = 8
    · subst aux
      rw [State.pwmClockLost_aux h]
      exact State.silence_group _ hi _
    · rw [State.pwmClockLost_group h aux]
      exact State.loseAll_group _ hi _ (by decide) _ 6
  obtain ⟨words, lost⟩ := shows
  exact ⟨(words _ rfl).trans loss, (words _ rfl).trans count, lost ▸ known⟩

theorem State.pwmClockLost_lost (hi : i < 8) (h : i ∉ s.pwm.clkLost) {k : Nat} (hk : k / 4 = i) (low : 1 ≤ s.axState k) (high : s.axState k ≤ 5) :
    Lost k 3 (s.pwmClockLost i) := by
  rw [State.pwmClockLost_group h (by omega)]
  refine State.loseAll_lost _ 6 (fun a => pwmGroup_lt hi) (by omega) (by decide) _ (.inl ⟨mem_pwmGroup.mpr hk, ?_⟩)
  rw [State.axState_clockShown]
  exact ⟨low, high⟩

theorem State.pwmClockLost_silent (aux : i = 8) (h : i ∉ s.pwm.clkLost) {k : Nat} (hk : k < 8) :
    (s.pwmClockLost i).get (PWM_AUXST_RUN k) = 0 := by
  subst aux
  rw [State.pwmClockLost_aux h]
  exact State.get_RUN_silence _ k _ (.inl (List.mem_range.mpr hk))

end

/-! ### Debug halts (R302, R494) -/

section
variable {s : State}

/-- Service core `t` is halted, or engine `k`: the halt is held and shown. -/
def State.coreHalted (t : Nat) (s : State) : State :=
  (((s.onPwm fun w => { w with coreHalt := t :: w.coreHalt }).put SVC_DBG_CORE (setBit (s.get SVC_DBG_CORE) t true))).stateChange 0x19 SVC_DBG_CORE
    (s.rd SVC_DBG)

def State.engHalted (k : Nat) (s : State) : State :=
  (((s.onEng fun e => { e with halted := k :: e.halted }).put SVC_DBG_ENG (setBit (s.get SVC_DBG_ENG) k true))).stateChange 0x19 SVC_DBG_ENG
    (s.rd SVC_DBG)

/-- The halt of service core `t` ends, or that of engine `k`. -/
def State.coreResumed (t : Nat) (s : State) : State :=
  (((s.onPwm fun w => { w with coreHalt := w.coreHalt.filter (· != t) }).put SVC_DBG_CORE (setBit (s.get SVC_DBG_CORE) t false))).stateChange 0x19
    SVC_DBG_CORE (s.rd SVC_DBG)

def State.engResumed (k : Nat) (s : State) : State :=
  (((s.onEng fun e => { e with halted := e.halted.filter (· != k) }).put SVC_DBG_ENG (setBit (s.get SVC_DBG_ENG) k false))).stateChange 0x19
    SVC_DBG_ENG (s.rd SVC_DBG)

theorem State.debugHalt_core {t : Nat} (ht : t < 4) (h : t ∉ s.pwm.coreHalt) : s.debugHalt t =
    (((s.coreHalted t).loseAll (List.range 32) 0x02 (fun a => 8 + a / 4) 7).silence (List.range 8)).showHalts := by
  unfold State.debugHalt
  dsimp only
  rw [if_pos ht, if_neg (by simpa using h)]
  rfl

theorem State.debugHalt_eng {t : Nat} (ht : 4 ≤ t) (h : t - 4 ∉ s.eng.halted) : s.debugHalt t =
    ((s.engHalted (t - 4)).loseAll (pwmGroup (t - 4)) 0x02 (fun _ => 8 + (t - 4)) 7).showHalts := by
  unfold State.debugHalt
  dsimp only
  rw [if_neg (by omega), if_neg (by simpa using h)]
  rfl

theorem State.debugResume_core {t : Nat} (ht : t < 4) (h : t ∈ s.pwm.coreHalt) : s.debugResume t = (s.coreResumed t).showHalts := by
  unfold State.debugResume
  dsimp only
  rw [if_pos ht, if_pos (by simpa using h)]
  rfl

theorem State.debugResume_eng {t : Nat} (ht : 4 ≤ t) (h : t - 4 ∈ s.eng.halted) : s.debugResume t = (s.engResumed (t - 4)).showHalts := by
  unfold State.debugResume
  dsimp only
  rw [if_neg (by omega), if_pos (by simpa using h)]
  rfl

/-- A report of the change leaves the debug word. -/
theorem State.bit_stateChange_DBG (t : State) {f : Fld} (hf : f.addr = SVC_DBG) (src old i : Nat) :
    bit ((t.stateChange src f old).get f) i = bit (t.get f) i := by
  have word : (t.stateChange src f old).get f = t.get f := congrArg (fldOf f) (hf ▸ quiet_SVC_DBG.rd_report ..)
  rw [word]

theorem State.showHalts_DBG (t : State) {f : Fld} (hf : f.addr = SVC_DBG) : t.showHalts.get f = t.get f :=
  (State.showHalts_keeps (Keeps.refl [.reg .pwm] t) (by decide)).get (b := .err) (by decide) (hf ▸ SVC_DBG_blk)

theorem State.coreHalted_keeps (t : Nat) (s : State) : Keeps [.pwm, .reg .err, .log] s (s.coreHalted t) :=
  State.stateChange_keeps (State.put_keeps SVC_DBG_CORE_blk (State.onPwm_keeps (Keeps.refl _ s) (by decide)) (by decide)) (by decide)

theorem State.engHalted_keeps (k : Nat) (s : State) : Keeps [.eng, .reg .err, .log] s (s.engHalted k) :=
  State.stateChange_keeps (State.put_keeps SVC_DBG_ENG_blk (State.onEng_keeps (Keeps.refl _ s) (by decide)) (by decide)) (by decide)

theorem State.coreResumed_keeps (t : Nat) (s : State) : Keeps [.pwm, .reg .err, .log] s (s.coreResumed t) :=
  State.stateChange_keeps (State.put_keeps SVC_DBG_CORE_blk (State.onPwm_keeps (Keeps.refl _ s) (by decide)) (by decide)) (by decide)

theorem State.engResumed_keeps (k : Nat) (s : State) : Keeps [.eng, .reg .err, .log] s (s.engResumed k) :=
  State.stateChange_keeps (State.put_keeps SVC_DBG_ENG_blk (State.onEng_keeps (Keeps.refl _ s) (by decide)) (by decide)) (by decide)

theorem State.coreHalt_coreHalted (t : Nat) (s : State) : (s.coreHalted t).pwm.coreHalt = t :: s.pwm.coreHalt :=
  congrArg Pwm.coreHalt ((State.stateChange_keeps (Keeps.refl [.reg .err, .log] _) (by decide)).same .pwm (by decide))

theorem State.halted_engHalted (k : Nat) (s : State) : (s.engHalted k).eng.halted = k :: s.eng.halted :=
  congrArg Engines.halted ((State.stateChange_keeps (Keeps.refl [.reg .err, .log] _) (by decide)).same .eng (by decide))

theorem State.coreHalt_coreResumed (t : Nat) (s : State) : (s.coreResumed t).pwm.coreHalt = s.pwm.coreHalt.filter (· != t) :=
  congrArg Pwm.coreHalt ((State.stateChange_keeps (Keeps.refl [.reg .err, .log] _) (by decide)).same .pwm (by decide))

theorem State.halted_engResumed (k : Nat) (s : State) : (s.engResumed k).eng.halted = s.eng.halted.filter (· != k) :=
  congrArg Engines.halted ((State.stateChange_keeps (Keeps.refl [.reg .err, .log] _) (by decide)).same .eng (by decide))

theorem Lost.showHalts {k cause : Nat} (h : Lost k cause s) : Lost k cause s.showHalts := by
  have keeps := State.showHalts_keeps (Keeps.refl [.reg .pwm] s) (by decide)
  exact ⟨h.toLatched.drift (keeps.statusDrift (by decide) k), (s.get_EN_showHalts k).trans h.off⟩

theorem State.showHalts_eng (t : State) : t.showHalts.eng = t.eng := (State.showHalts_keeps (Keeps.refl [.reg .pwm] t) (by decide)).same .eng (by decide)

theorem State.showHalts_pwm (t : State) : t.showHalts.pwm = t.pwm := (State.showHalts_keeps (Keeps.refl [.reg .pwm] t) (by decide)).same .pwm (by decide)

theorem State.axState_showHalts (t : State) (n : Nat) : t.showHalts.axState n = t.axState n :=
  (State.showHalts_keeps (Keeps.refl [.reg .pwm] t) (by decide)).get (by decide) (PRF_AXST_STATE_blk n)

theorem State.loseAll_eng (l : List Nat) (cause : Nat) (src : Nat → Nat) (code : Nat) (s : State) : (s.loseAll l cause src code).eng = s.eng :=
  Keeps.same (m := [.reg .prf, .reg .eng, .reg .csf, .reg .fbk, .reg .pwm, .reg .knl, .reg .que, .reg .acq, .reg .dio, .reg .err, .sets, .bulk, .log, .knl,
    .que, .axes, .prf, .pwm, .drn, .probes, .acq]) (keeps_foldl (fun _ _ h => State.loseGates_keeps h (by decide)) l (Keeps.refl _ s)) .eng (by decide)

/-- Axes that lose their gates leave the debug word. -/
theorem State.loseAll_DBG (t : State) (l : List Nat) {cause : Nat} (hc : cause ≤ 7) (src : Nat → Nat) (code : Nat) {f : Fld} (hf : f.addr = SVC_DBG) :
    (t.loseAll l cause src code).get f = t.get f :=
  congrArg (fldOf f) (hf ▸ State.rd_SVC_DBG_loseAll l hc src code t)

theorem State.silence_DBG (t : State) (l : List Nat) {f : Fld} (hf : f.addr = SVC_DBG) : (t.silence l).get f = t.get f :=
  (State.silence_keeps l t).get (b := .err) (by decide) (hf ▸ SVC_DBG_blk)

theorem State.loseAll_coreHalt (t : State) (l : List Nat) {cause : Nat} (hc : cause ≤ 7) (src : Nat → Nat) (code : Nat) :
    (t.loseAll l cause src code).pwm.coreHalt = t.pwm.coreHalt := (State.loseAll_shared src code l hc t).coreHalt

theorem State.silence_coreHalt (t : State) (l : List Nat) : (t.silence l).pwm.coreHalt = t.pwm.coreHalt :=
  (congrArg Pwm.coreHalt (State.rest_silence l t) : (State.pwmRest _).coreHalt = _)

theorem Lost.silence {k cause : Nat} (hk : k < 32) (h : Lost k cause s) (l : List Nat) : Lost k cause (s.silence l) := by
  have word := State.rd_silence l s (w := PWM_AXST k) (by simp only [PWM_AXST]; omega)
  exact ⟨h.toLatched.drift ((State.silence_keeps l s).statusDrift (by decide) k), (congrArg (fldOf _) word).trans h.off⟩

theorem State.get_RUN_showHalts (t : State) {k : Nat} (hk : k < 8) : t.showHalts.get (PWM_AUXST_RUN k) = t.get (PWM_AUXST_RUN k) :=
  congrArg (fldOf _) (t.rd_showHalts_aux (w := PWM_AUXST k) (by simp only [PWM_AUXST]; omega) (by simp only [PWM_AUXST]; omega))

theorem State.axState_coreHalted (t : Nat) (s : State) (n : Nat) : (s.coreHalted t).axState n = s.axState n :=
  (s.coreHalted_keeps t).get (by decide) (PRF_AXST_STATE_blk n)

theorem State.axState_engHalted (k : Nat) (s : State) (n : Nat) : (s.engHalted k).axState n = s.axState n :=
  (s.engHalted_keeps k).get (by decide) (PRF_AXST_STATE_blk n)

theorem State.engResumed_leaves (k : Nat) (s : State) : (s.engResumed k).pwm.coreHalt = s.pwm.coreHalt ∧ (∀ n, (s.engResumed k).axState n = s.axState n) ∧
    ∀ a, (s.engResumed k).get (PWM_AXST_EN a) = s.get (PWM_AXST_EN a) := by
  have keeps := s.engResumed_keeps k
  exact ⟨congrArg Pwm.coreHalt (keeps.same .pwm (by decide)), fun n => keeps.get (by decide) (PRF_AXST_STATE_blk n),
    fun a => keeps.get (by decide) (PWM_AXST_EN_blk a)⟩

theorem State.coreResumed_leaves (t : Nat) (s : State) : (∀ n, (s.coreResumed t).axState n = s.axState n) ∧
    ∀ a, (s.coreResumed t).get (PWM_AXST_EN a) = s.get (PWM_AXST_EN a) := by
  have keeps := s.coreResumed_keeps t
  exact ⟨fun n => keeps.get (by decide) (PRF_AXST_STATE_blk n), fun a => keeps.get (by decide) (PWM_AXST_EN_blk a)⟩

theorem State.bit_engHalted {k : Nat} (hk : k < 8) (s : State) : bit ((s.engHalted k).get SVC_DBG_ENG) k = true :=
  (State.bit_stateChange_DBG _ rfl _ _ _).trans (State.bit_put_setBit (s.onEng _) SVC_DBG_ENG hk true rfl)

theorem State.bit_coreHalted {t : Nat} (ht : t < 4) (s : State) : bit ((s.coreHalted t).get SVC_DBG_CORE) t = true :=
  (State.bit_stateChange_DBG _ rfl _ _ _).trans (State.bit_put_setBit (s.onPwm _) SVC_DBG_CORE ht true rfl)

theorem State.bit_engResumed {k : Nat} (hk : k < 8) (s : State) : bit ((s.engResumed k).get SVC_DBG_ENG) k = false :=
  (State.bit_stateChange_DBG _ rfl _ _ _).trans (State.bit_put_setBit (s.onEng _) SVC_DBG_ENG hk false rfl)

theorem State.bit_coreResumed {t : Nat} (ht : t < 4) (s : State) : bit ((s.coreResumed t).get SVC_DBG_CORE) t = false :=
  (State.bit_stateChange_DBG _ rfl _ _ _).trans (State.bit_put_setBit (s.onPwm _) SVC_DBG_CORE ht false rfl)

/-- R302: an engine is halted. -/
theorem State.debugHalt_eng_shows {t : Nat} (ht : 4 ≤ t) (small : t - 4 < 8) (h : t - 4 ∉ s.eng.halted) :
    (s.debugHalt t).get (PWM_GST_HALT (t - 4)) = 1 ∧ bit ((s.debugHalt t).get SVC_DBG_ENG) (t - 4) = true ∧ t - 4 ∈ (s.debugHalt t).eng.halted := by
  rw [State.debugHalt_eng ht h]
  have halted : t - 4 ∈ ((s.engHalted (t - 4)).loseAll (pwmGroup (t - 4)) 0x02 (fun _ => 8 + (t - 4)) 7).eng.halted := by
    rw [State.loseAll_eng, State.halted_engHalted]
    exact List.mem_cons_self
  refine ⟨?_, ?_, ?_⟩
  · rw [State.get_HALT_showHalts (by omega), List.contains_iff_mem.mpr halted, Bool.or_true]
    rfl
  · rw [State.showHalts_DBG _ rfl, State.loseAll_DBG _ _ (by decide) _ _ rfl]
    exact State.bit_engHalted small s
  · rw [State.showHalts_eng]
    exact halted

/-- R302: the enabled axes of a halted engine fault. -/
theorem State.debugHalt_eng_lost {t : Nat} (ht : 4 ≤ t) (small : t - 4 < 8) (h : t - 4 ∉ s.eng.halted) {k : Nat} (hk : k / 4 = t - 4)
    (low : 1 ≤ s.axState k) (high : s.axState k ≤ 5) : Lost k 2 (s.debugHalt t) := by
  rw [State.debugHalt_eng ht h]
  refine (State.loseAll_lost _ 7 (fun a => pwmGroup_lt small) (by omega) (by decide) _ (.inl ⟨mem_pwmGroup.mpr hk, ?_⟩)).showHalts
  rw [State.axState_engHalted]
  exact ⟨low, high⟩

/-- R302: a service core is halted. -/
theorem State.debugHalt_core_shows {t : Nat} (ht : t < 4) (h : t ∉ s.pwm.coreHalt) :
    (∀ i < 9, (s.debugHalt t).get (PWM_GST_HALT i) = 1) ∧ bit ((s.debugHalt t).get SVC_DBG_CORE) t = true ∧
      ∀ k < 8, (s.debugHalt t).get (PWM_AUXST_RUN k) = 0 := by
  rw [State.debugHalt_core ht h]
  refine ⟨fun i hi => ?_, ?_, fun k hk => ?_⟩
  · rw [State.get_HALT_showHalts hi, State.silence_coreHalt, State.loseAll_coreHalt _ _ (by decide), State.coreHalt_coreHalted]
    rfl
  · rw [State.showHalts_DBG _ rfl, State.silence_DBG _ _ rfl, State.loseAll_DBG _ _ (by decide) _ _ rfl]
    exact State.bit_coreHalted ht s
  · rw [State.get_RUN_showHalts _ hk]
    exact State.get_RUN_silence _ k _ (.inl (List.mem_range.mpr hk))

/-- R302: the enabled axes fault when a service core is halted. -/
theorem State.debugHalt_core_lost {t : Nat} (ht : t < 4) (h : t ∉ s.pwm.coreHalt) {a : Nat} (ha : a < 32)
    (low : 1 ≤ s.axState a) (high : s.axState a ≤ 5) : Lost a 2 (s.debugHalt t) := by
  rw [State.debugHalt_core ht h]
  refine ((State.loseAll_lost _ 7 (fun n => List.mem_range.mp) ha (by decide) _ (.inl ⟨List.mem_range.mpr ha, ?_⟩)).silence ha _).showHalts
  rw [State.axState_coreHalted]
  exact ⟨low, high⟩

/-- R494: the halt of an engine ends. -/
theorem State.debugResume_eng_shows {t : Nat} (ht : 4 ≤ t) (small : t - 4 < 8) (h : t - 4 ∈ s.eng.halted) :
    t - 4 ∉ (s.debugResume t).eng.halted ∧ bit ((s.debugResume t).get SVC_DBG_ENG) (t - 4) = false ∧
      (s.pwm.coreHalt = [] → (s.debugResume t).get (PWM_GST_HALT (t - 4)) = 0) := by
  rw [State.debugResume_eng ht h]
  have gone : t - 4 ∉ (s.engResumed (t - 4)).eng.halted := by
    rw [State.halted_engResumed]
    simp
  refine ⟨by rwa [State.showHalts_eng], ?_, fun none => ?_⟩
  · rw [State.showHalts_DBG _ rfl]
    exact State.bit_engResumed small s
  · rw [State.get_HALT_showHalts (by omega), (s.engResumed_leaves _).1, none, List.contains_eq_mem, decide_eq_false gone]
    rfl

theorem State.debugResume_core_shows {t : Nat} (ht : t < 4) (h : t ∈ s.pwm.coreHalt) :
    t ∉ (s.debugResume t).pwm.coreHalt ∧ bit ((s.debugResume t).get SVC_DBG_CORE) t = false := by
  rw [State.debugResume_core ht h, State.showHalts_pwm, State.coreHalt_coreResumed, State.showHalts_DBG _ rfl]
  exact ⟨by simp, State.bit_coreResumed ht s⟩

/-- R494: the end of a halt restores no output. -/
theorem State.debugResume_leaves {t : Nat} (h : if t < 4 then t ∈ s.pwm.coreHalt else t - 4 ∈ s.eng.halted) :
    (∀ n, (s.debugResume t).axState n = s.axState n) ∧ ∀ a, (s.debugResume t).get (PWM_AXST_EN a) = s.get (PWM_AXST_EN a) := by
  split_ifs at h with core
  · obtain ⟨state, en⟩ := s.coreResumed_leaves t
    rw [State.debugResume_core core h]
    exact ⟨fun n => (State.axState_showHalts _ n).trans (state n), fun a => (State.get_EN_showHalts _ a).trans (en a)⟩
  · obtain ⟨-, state, en⟩ := s.engResumed_leaves (t - 4)
    rw [State.debugResume_eng (by omega) h]
    exact ⟨fun n => (State.axState_showHalts _ n).trans (state n), fun a => (State.get_EN_showHalts _ a).trans (en a)⟩

end

end Sys2Proof.Machine
end

section
/-! PROOFS. Trips, gate enables, clock loss, debug halts and the brake choppers (O39). -/

namespace Sys2Proof.Machine

/-! ### Trips that do nothing more (R295, R296, R298) -/

section
variable {s : State}

theorem tripAssert_disabled (dt : Nat) (a : Fin 32) (s : State) (high : (s.pax a).tripLow = false) (en : s.get (PWM_AXST_EN a) = 0) :
    ∃ u, exec (.tripAssert dt a) s = .next u ∧ (u.pax a).tripLow = true ∧ (u.pax a).cut = (s.pax a).cut ∧ OnlyChanges [.clk, .pwm, .sets] [] s u := by
  have fell : ((s.elapse dt).tripped a).pax a = { (s.elapse dt).pax a with tripLow := true } := State.pax_onPax_same _ _ _
  refine ⟨(s.elapse dt).tripped a, congrArg Host.Outcome.next (State.tripFall_disabled (s := s.elapse dt) high en), by rw [fell], ?_, ?_⟩
  · rw [fell]
    rfl
  · exact (OnlyChanges.elapse dt s (by decide) (by decide)).after (State.onPax_keeps (m := [.pwm]) (Keeps.refl _ _) (by decide)) (by decide)

theorem tripAssert_low (dt : Nat) (a : Fin 32) (s : State) (low : (s.pax a).tripLow = true) :
    ∃ u, exec (.tripAssert dt a) s = .next u ∧ u = s.elapse dt :=
  ⟨_, congrArg Host.Outcome.next (if_pos (c := ((s.elapse dt).pax a).tripLow = true) low), rfl⟩

/-- R296: TRIP_N rises. -/
theorem tripDeassert_rises (dt : Nat) (a : Fin 32) (s : State) (low : (s.pax a).tripLow = true) :
    ∃ u, exec (.tripDeassert dt a) s = .next u ∧ (u.pax a).tripLow = false ∧ (u.pax a).tripRose = some (s.elapse dt).clk.elapsed ∧
      (u.pax a).cut = (s.pax a).cut ∧ OnlyChanges [.clk, .pwm, .sets] [] s u := by
  have rose : ((s.elapse dt).onPax a fun x => if x.tripLow then { x with tripLow := false, tripRose := some (s.elapse dt).clk.elapsed } else x).pax a =
      { (s.elapse dt).pax a with tripLow := false, tripRose := some (s.elapse dt).clk.elapsed } :=
    (State.pax_onPax_same _ _ _).trans (if_pos low)
  refine ⟨_, rfl, by rw [rose], by rw [rose], ?_, ?_⟩
  · rw [rose]
    rfl
  · exact (OnlyChanges.elapse dt s (by decide) (by decide)).after (State.onPax_keeps (m := [.pwm]) (Keeps.refl _ _) (by decide)) (by decide)

theorem State.tripEscalate_idle {a : Nat} (h : s.get (PWM_AXST_EN a) = 0 ∨ s.get (PWM_AXST_RUN a) < s.get (PWM_AX_TRIPMAX a) ∨
    s.get (PWM_AXST_RUN a) = 0) : s.tripEscalate a = s := by
  refine if_neg fun ⟨en, most, cut⟩ => ?_
  rw [State.flag_iff] at en
  omega

/-! ### Clocks that are known lost, or return (R301) -/

theorem clock_returns (dt : Nat) (i : Fin 9) (s : State) :
    ∃ u, exec (.pwmClockLoss dt i false) s = .next u ∧ i.val ∉ u.pwm.clkLost ∧ OnlyChanges [.clk, .pwm, .sets] [] s u := by
  refine ⟨(s.elapse dt).onPwm fun w => { w with clkLost := w.clkLost.filter (· != i.val) }, rfl, fun h => ?_, ?_⟩
  · have kept : i.val ∈ s.pwm.clkLost.filter (· != i.val) := h
    simp at kept
  · exact (OnlyChanges.elapse dt s (by decide) (by decide)).after (State.onPwm_keeps (m := [.pwm]) (Keeps.refl _ _) (by decide)) (by decide)

/-! ### The boundary and the commit of a chopper channel (R303, R304, R306) -/

section
variable {k : Nat} {v : Int}

theorem State.auxOn_dead (h : s.auxDead k = true) : s.auxOn k v = false := if_pos h

theorem State.auxOn_above (h : s.auxDead k = false) (high : s.getS (PWM_AUXTH_ONTH k) ≤ v) : s.auxOn k v = true := by
  rw [State.auxOn, h]
  exact if_pos high

theorem State.auxOn_below (h : s.auxDead k = false) (low : v < s.getS (PWM_AUXTH_ONTH k)) (under : v ≤ s.getS (PWM_AUXTH_OFFTH k)) :
    s.auxOn k v = false := by
  rw [State.auxOn, h]
  exact (if_neg (not_le.mpr low)).trans (if_pos under)

theorem State.auxOn_between (h : s.auxDead k = false) (low : v < s.getS (PWM_AUXTH_ONTH k)) (past : s.getS (PWM_AUXTH_OFFTH k) < v) :
    s.auxOn k v = s.flag (PWM_AUXST_ON k) := by
  rw [State.auxOn, h]
  exact (if_neg (not_le.mpr low)).trans (if_neg (not_le.mpr past))

theorem State.auxDead_eq_false (stuck : k ∉ s.pwm.auxStuck) (off : k ∉ s.pwm.auxOff) : s.auxDead k = false := by
  simp [State.auxDead, stuck, off]

theorem b2n_flag_of_get {f : Fld} (w : f.width = 1) : b2n (s.flag f) = s.get f := by
  by_cases one : s.get f = 1
  · rw [(State.flag_iff s f).mpr one, one]
    rfl
  · have zero := s.get_of_flag w fun on => one ((State.flag_iff s f).mp on)
    rw [State.flag_eq_false zero, zero]
    rfl

/-- A channel that runs its periods at the end of one. -/
theorem auxBoundary_runs (dt : Nat) (k : Fin 8) (l : List Bool) (s : State)
    (live : s.get (PWM_AUXST_RUN k) = 1 ∨ k.val ∈ s.pwm.auxStuck ∨ k.val ∈ s.pwm.auxOff) (en : s.get (PWM_AUXCFG_EN k) = 1)
    (on : (s.pax (32 + k.val)).off = false) (boundary : (s.elapse dt).atBoundary (s.rd (PWM_AUXPER k) / 4) = true)
    (long : s.rd (PWM_AUXPER k) ≤ 2 * (s.elapse dt).inPeriod (32 + k.val)) :
    exec (.auxBoundary dt k l) s = .next ((s.elapse dt).auxBoundary k l) := by
  have runs : (s.elapse dt).auxLive k = true := State.auxLive_iff.mpr ⟨live, en, on⟩
  refine congrArg Host.Outcome.next (if_pos ?_)
  rw [runs, Bool.true_and, Bool.and_eq_true, decide_eq_true_iff]
  exact ⟨boundary, long⟩

/-- R304: the boundary of a live channel that is not turned off shows and stages what its source decides. -/
theorem auxBoundary_live (dt : Nat) (k : Fin 8) (l : List Bool) (s : State) (run : s.get (PWM_AUXST_RUN k) = 1) (en : s.get (PWM_AUXCFG_EN k) = 1)
    (on : (s.pax (32 + k.val)).off = false) (boundary : (s.elapse dt).atBoundary (s.rd (PWM_AUXPER k) / 4) = true)
    (long : s.rd (PWM_AUXPER k) ≤ 2 * (s.elapse dt).inPeriod (32 + k.val)) {b : Bool} (decides : s.auxOn k (auxValue l) = b) :
    ∃ u, exec (.auxBoundary dt k l) s = .next u ∧ AuxDecided k (auxValue l) b s u := by
  have same : (s.elapse dt).auxOn k (auxValue l) = b := decides
  obtain ⟨state, val, stage, stagePer, onper, oncnt, run'⟩ := same ▸ (s.elapse dt).auxBoundary_decided k l
  exact ⟨_, auxBoundary_runs dt k l s (.inl run) en on boundary long, ⟨state, val, stage, stagePer, onper, oncnt, run'⟩⟩

/-- R306: the boundary of a channel that is turned off ends its law. -/
theorem auxBoundary_dead (dt : Nat) (k : Fin 8) (l : List Bool) (s : State) (dead : k.val ∈ s.pwm.auxStuck ∨ k.val ∈ s.pwm.auxOff)
    (en : s.get (PWM_AUXCFG_EN k) = 1) (on : (s.pax (32 + k.val)).off = false)
    (boundary : (s.elapse dt).atBoundary (s.rd (PWM_AUXPER k) / 4) = true)
    (long : s.rd (PWM_AUXPER k) ≤ 2 * (s.elapse dt).inPeriod (32 + k.val)) :
    ∃ u, exec (.auxBoundary dt k l) s = .next u ∧ u.get (PWM_AUXST_ON k) = 0 ∧ u.get (PWM_AUXST_RUN k) = 0 ∧ (u.pax (32 + k.val)).stage = [(0, 0)] := by
  have off : (s.elapse dt).auxDead k = true := State.auxDead_iff.mpr dead
  obtain ⟨state, -, stage, -, -, -, ended⟩ := State.auxOn_dead (v := auxValue l) off ▸ (s.elapse dt).auxBoundary_decided k l
  exact ⟨_, auxBoundary_runs dt k l s (.inr dead) en on boundary long, state, ended off, stage⟩

/-- A channel without a law and not turned off, or disabled or silenced, runs no period. -/
theorem State.auxLive_eq_false {k : Nat} (h : (s.get (PWM_AUXST_RUN k) = 0 ∧ k ∉ s.pwm.auxStuck ∧ k ∉ s.pwm.auxOff) ∨ s.get (PWM_AUXCFG_EN k) = 0 ∨
    (s.pax (32 + k)).off = true) : s.auxLive k = false := by
  refine Bool.eq_false_iff.mpr fun live => ?_
  obtain ⟨law, en, on⟩ := State.auxLive_iff.mp live
  rcases h with ⟨run, stuck, off⟩ | dis | silent
  · rcases law with one | one | one
    · omega
    · exact stuck one
    · exact off one
  · omega
  · rw [on] at silent
    simp at silent

theorem auxBoundary_idle (dt : Nat) (k : Fin 8) (l : List Bool) (s : State)
    (h : (s.get (PWM_AUXST_RUN k) = 0 ∧ k.val ∉ s.pwm.auxStuck ∧ k.val ∉ s.pwm.auxOff) ∨ s.get (PWM_AUXCFG_EN k) = 0 ∨
      (s.pax (32 + k.val)).off = true ∨ (s.elapse dt).atBoundary (s.rd (PWM_AUXPER k) / 4) = false) :
    exec (.auxBoundary dt k l) s = .next (s.elapse dt) := by
  refine congrArg Host.Outcome.next (if_neg ?_)
  rw [Bool.and_eq_true, Bool.and_eq_true]
  rintro ⟨⟨live, boundary⟩, -⟩
  have dead (g : (s.get (PWM_AUXST_RUN k) = 0 ∧ k.val ∉ s.pwm.auxStuck ∧ k.val ∉ s.pwm.auxOff) ∨ s.get (PWM_AUXCFG_EN k) = 0 ∨
      (s.pax (32 + k.val)).off = true) : False := by
    have none : (s.elapse dt).auxLive k = false := State.auxLive_eq_false (s := s.elapse dt) g
    rw [none] at live
    exact Bool.false_ne_true live
  rcases h with law | dis | silent | between
  · exact dead (.inl law)
  · exact dead (.inr (.inl dis))
  · exact dead (.inr (.inr silent))
  · exact Bool.false_ne_true (between.symm.trans boundary)

/-- R304: what a commit of channel `k` holds. -/
theorem State.pax_auxCommit (s : State) (k : Nat) : ∃ c, (s.auxCommit k).pax (32 + k) = { s.pax (32 + k) with judged := true, committed := some c } ∧
    (c.per, c.dt, c.dwell) = ((s.pax (32 + k)).stagePer, max (s.get (PWM_AUXDT_DT k)) (s.get (LSH_AUXDTF_EFF k)),
      max (s.get (PWM_AUXDT_DWELL k)) (s.get (LSH_AUXMPW_EFF k))) :=
  ⟨_, State.pax_onPax_same _ _ _, rfl⟩

theorem auxCommit_commits (dt : Nat) (k : Fin 8) (s : State)
    (live : s.get (PWM_AUXST_RUN k) = 1 ∨ k.val ∈ s.pwm.auxStuck ∨ k.val ∈ s.pwm.auxOff) (en : s.get (PWM_AUXCFG_EN k) = 1)
    (on : (s.pax (32 + k.val)).off = false) (open' : (s.pax (32 + k.val)).judged = false)
    (half : s.rd (PWM_AUXPER k) ≤ 2 * (s.elapse dt).inPeriod (32 + k.val)) :
    ∃ u, exec (.auxCommit dt k) s = .next u ∧ (u.pax (32 + k.val)).judged = true ∧
      (u.pax (32 + k.val)).committed.map (fun x => (x.per, x.dt, x.dwell)) = some ((s.pax (32 + k.val)).stagePer,
        max (s.get (PWM_AUXDT_DT k)) (s.get (LSH_AUXDTF_EFF k)), max (s.get (PWM_AUXDT_DWELL k)) (s.get (LSH_AUXMPW_EFF k))) ∧
      (u.pax (32 + k.val)).applied = (s.pax (32 + k.val)).applied ∧ OnlyChanges [.clk, .pwm, .sets] [] s u := by
  have run : exec (.auxCommit dt k) s = .next ((s.elapse dt).auxCommit k) := by
    have runs : (s.elapse dt).auxLive k = true := State.auxLive_iff.mpr ⟨live, en, on⟩
    have due : ((s.elapse dt).pax (32 + k.val)).judged = false := open'
    refine congrArg Host.Outcome.next (if_pos ?_)
    rw [runs, due, Bool.not_false, Bool.true_and, Bool.true_and, decide_eq_true_iff]
    exact half
  obtain ⟨c, held, set⟩ := (s.elapse dt).pax_auxCommit k
  refine ⟨_, run, by rw [held], ?_, ?_, (OnlyChanges.elapse dt s (by decide) (by decide)).after (State.auxCommit_keeps (m := [.pwm]) (Keeps.refl _ _) (by decide)) (by decide)⟩
  · rw [held]
    exact congrArg some set
  · rw [held]
    rfl

theorem auxCommit_idle (dt : Nat) (k : Fin 8) (s : State)
    (h : (s.get (PWM_AUXST_RUN k) = 0 ∧ k.val ∉ s.pwm.auxStuck ∧ k.val ∉ s.pwm.auxOff) ∨ s.get (PWM_AUXCFG_EN k) = 0 ∨
      (s.pax (32 + k.val)).off = true ∨ (s.pax (32 + k.val)).judged = true ∨ 2 * (s.elapse dt).inPeriod (32 + k.val) < s.rd (PWM_AUXPER k)) :
    exec (.auxCommit dt k) s = .next (s.elapse dt) := by
  refine congrArg Host.Outcome.next (if_neg ?_)
  rw [Bool.and_eq_true, Bool.and_eq_true, decide_eq_true_iff]
  rintro ⟨⟨live, open'⟩, half⟩
  have dead (g : (s.get (PWM_AUXST_RUN k) = 0 ∧ k.val ∉ s.pwm.auxStuck ∧ k.val ∉ s.pwm.auxOff) ∨ s.get (PWM_AUXCFG_EN k) = 0 ∨
      (s.pax (32 + k.val)).off = true) : False := by
    have none : (s.elapse dt).auxLive k = false := State.auxLive_eq_false (s := s.elapse dt) g
    rw [none] at live
    exact Bool.false_ne_true live
  rcases h with law | dis | silent | judged | early
  · exact dead (.inl law)
  · exact dead (.inr (.inl dis))
  · exact dead (.inr (.inr silent))
  · have closed : ((s.elapse dt).pax (32 + k.val)).judged = true := judged
    rw [closed] at open'
    exact Bool.false_ne_true open'
  · exact absurd half (not_le.mpr early)

end
end

/-! ### The whole -/

theorem debugHalt_on (dt : Nat) (t : Fin 12) (s : State) (on : s.debugOn = true) : exec (.debugHalt dt t) s = .next ((s.elapse dt).debugHalt t) :=
  congrArg Host.Outcome.next (if_pos (c := (s.elapse dt).debugOn = true) on)

theorem debugHalt_off (dt : Nat) (t : Fin 12) (s : State) (off : s.debugOn = false) : exec (.debugHalt dt t) s = .next (s.elapse dt) :=
  congrArg Host.Outcome.next (if_neg (c := (s.elapse dt).debugOn = true) (Bool.eq_false_iff.mp off))

theorem debugResume_on (dt : Nat) (t : Fin 12) (s : State) (on : s.debugOn = true) :
    exec (.debugResume dt t) s = .next ((s.elapse dt).debugResume t) :=
  congrArg Host.Outcome.next (if_pos (c := (s.elapse dt).debugOn = true) on)

theorem debugResume_off (dt : Nat) (t : Fin 12) (s : State) (off : s.debugOn = false) : exec (.debugResume dt t) s = .next (s.elapse dt) :=
  congrArg Host.Outcome.next (if_neg (c := (s.elapse dt).debugOn = true) (Bool.eq_false_iff.mp off))

theorem auxoff_shows (dt : Nat) (mask : BitVec 8) (s : State) :
    ∃ u, exec (.auxoff dt mask) s = .next u ∧
      (∀ k : Fin 8, bit mask.toNat k = true → u.get (PWM_AUXST_OFF k) = 1 ∧ k.val ∈ u.pwm.auxOff) ∧
      (∀ k : Fin 8, bit mask.toNat k = false → u.rd (PWM_AUXST k) = s.rd (PWM_AUXST k) ∧ (k.val ∈ u.pwm.auxOff ↔ k.val ∈ s.pwm.auxOff)) ∧
      OnlyChanges [.clk, .pwm, .reg .pwm, .sets] [] s u := by
  have listed {j : Nat} : j ∈ below 8 (bit mask.toNat) ↔ j < 8 ∧ bit mask.toNat j = true := by simp [below]
  have small : ∀ j ∈ below 8 (bit mask.toNat), j < 8 := fun j hj => (listed.mp hj).1
  refine ⟨(s.elapse dt).auxOffAll (below 8 (bit mask.toNat)), congrArg Host.Outcome.next (State.auxTurnOff_eq _ _), fun k on => ?_, fun k off => ?_, ?_⟩
  · exact State.auxOffAll_listed small k.isLt _ (.inl (listed.mpr ⟨k.isLt, on⟩))
  · refine State.auxOffAll_other small k.isLt (fun on => ?_) (s.elapse dt)
    exact Bool.false_ne_true (off.symm.trans (listed.mp on).2)
  · exact (OnlyChanges.elapse dt s (by decide) (by decide)).after (State.auxOffAll_keeps _ _) (by decide)

/-- Settles O39: each clause by what its operation of the PWM shows, from the state after the time that has passed. -/
theorem pwmTrips : Obligations.PwmTrips := by
  unfold Obligations.PwmTrips
  have inGroup (g : Nat) (i : Fin 4) : (4 * g + i.val) / 4 = g := by omega
  refine ⟨tripAssert_enabled, tripAssert_disabled, tripAssert_low, tripDeassert_rises, fun dt a s en most cut => ?_, fun dt a s idle => ?_,
    fun dt g x y s low => ?_, fun dt g x y s hx hy => ?_, fun dt i s fresh => ?_, fun dt i s known => ?_, clock_returns,
    fun dt t s off => ⟨_, debugHalt_off dt t s off, rfl⟩, fun dt t s on eng fresh => ?_, fun dt t s on core fresh => ?_,
    fun dt t s off => ⟨_, debugResume_off dt t s off, rfl⟩, fun dt t s on eng halted => ?_, fun dt t s on core halted => ?_,
    fun dt k l s run en on boundary long stuck off high => ?_, fun dt k l s run en on boundary long stuck off low under => ?_,
    fun dt k l s run en on boundary long stuck off low past => ?_,
    fun dt k l s en on boundary long dead => auxBoundary_dead dt k l s dead en on boundary long,
    fun dt k l s idle => ⟨_, auxBoundary_idle dt k l s idle, rfl⟩, auxCommit_commits, fun dt k s idle => ⟨_, auxCommit_idle dt k s idle, rfl⟩,
    auxoff_shows⟩
  case refine_1 =>
    obtain ⟨u, run, flt, off, latch⟩ := tripEscalation_due dt a s en most cut
    exact ⟨u, run, flt, off, fun live => ⟨(latch live).state, (latch live).cause, (latch live).react⟩⟩
  case refine_2 => exact ⟨_, congrArg Host.Outcome.next (State.tripEscalate_idle (s := s.elapse dt) idle), rfl⟩
  case refine_3 =>
    obtain ⟨u, run, gen, ar, br, axes⟩ := gateEnable_falls dt g x y s (by rcases low with rfl | rfl <;> simp)
    refine ⟨u, run, gen, ar, br, fun i => ?_⟩
    obtain ⟨shown, disables⟩ := axes _ (inGroup g i)
    exact ⟨shown, fun en => ⟨(disables en).1.state, (disables en).1.lastoff, (disables en).2⟩⟩
  case refine_4 =>
    subst hx hy
    obtain ⟨u, run, gen, ar, br, axes, states, only⟩ := gateEnable_high dt g s
    exact ⟨u, run, gen, ar, br, fun i => axes _ (inGroup g i), fun n => states n, only⟩
  case refine_5 =>
    have fresh' : i.val ∉ (s.elapse dt).pwm.clkLost := fresh
    obtain ⟨loss, count, known⟩ := State.pwmClockLost_shows i.isLt fresh'
    refine ⟨_, rfl, loss, count, known, fun group k low high => ?_, fun eight k => ?_⟩
    · have lost := State.pwmClockLost_lost group fresh' (inGroup i k) low high
      exact ⟨lost.state, lost.cause, lost.off⟩
    · exact State.pwmClockLost_silent eight fresh' k.isLt
  case refine_6 => exact ⟨_, congrArg Host.Outcome.next (State.pwmClockLost_known (s := s.elapse dt) known), rfl⟩
  case refine_7 =>
    have fresh' : t.val - 4 ∉ (s.elapse dt).eng.halted := fresh
    obtain ⟨halt, shown, held⟩ := State.debugHalt_eng_shows eng (by omega) fresh'
    refine ⟨_, debugHalt_on dt t s on, halt, shown, held, fun k low high => ?_⟩
    have lost := State.debugHalt_eng_lost eng (by omega) fresh' (inGroup _ k) low high
    exact ⟨lost.state, lost.cause, lost.off⟩
  case refine_8 =>
    have fresh' : t.val ∉ (s.elapse dt).pwm.coreHalt := fresh
    obtain ⟨halts, shown, silent⟩ := State.debugHalt_core_shows core fresh'
    refine ⟨_, debugHalt_on dt t s on, fun i => halts i i.isLt, shown, fun a low high => ?_, fun k => silent k k.isLt⟩
    have lost := State.debugHalt_core_lost core fresh' a.isLt low high
    exact ⟨lost.state, lost.cause, lost.off⟩
  case refine_9 =>
    have halted' : t.val - 4 ∈ (s.elapse dt).eng.halted := halted
    obtain ⟨gone, shown, none⟩ := State.debugResume_eng_shows eng (by omega) halted'
    obtain ⟨states, enables⟩ := State.debugResume_leaves (s := s.elapse dt) (t := t) (by rwa [if_neg (by omega)])
    exact ⟨_, debugResume_on dt t s on, gone, shown, none, fun n => states n, fun a => enables a⟩
  case refine_10 =>
    have halted' : t.val ∈ (s.elapse dt).pwm.coreHalt := halted
    obtain ⟨gone, shown⟩ := State.debugResume_core_shows core halted'
    obtain ⟨states, enables⟩ := State.debugResume_leaves (s := s.elapse dt) (t := t) (by rwa [if_pos core])
    exact ⟨_, debugResume_on dt t s on, gone, shown, fun n => states n, fun a => enables a⟩
  case refine_11 =>
    obtain ⟨u, go, state, val, stage, stagePer, onper, oncnt, -⟩ := auxBoundary_live dt k l s run en on boundary long
      (State.auxOn_above (State.auxDead_eq_false stuck off) high)
    exact ⟨u, go, state, getS_of_value l rfl val, onper rfl, oncnt rfl, stagePer, stage⟩
  case refine_12 =>
    obtain ⟨u, go, state, -, stage, -⟩ := auxBoundary_live dt k l s run en on boundary long
      (State.auxOn_below (State.auxDead_eq_false stuck off) low under)
    exact ⟨u, go, state, stage⟩
  case refine_13 =>
    obtain ⟨u, go, state, -⟩ := auxBoundary_live dt k l s run en on boundary long
      (State.auxOn_between (State.auxDead_eq_false stuck off) low past)
    exact ⟨u, go, state.trans (b2n_flag_of_get rfl)⟩

end Sys2Proof.Machine
end
